-- ==== Sys2Proof/Word.lean ====
section
/-! DEFINITION. The words of the machine and the shapes its commands' operands take. -/

namespace Sys2Proof

/-- A byte. -/
abbrev Byte := BitVec 8

/-- A 32-bit register word. -/
abbrev Word := BitVec 32

/-- Access classes of a register (R15, R16 and the notation of the register maps). -/
inductive Access where
  | rw | rwm | ro | wo | w1c
  deriving DecidableEq, Repr

/-- One row of a register map: its mnemonic, its offset in the block, the strides and counts of its indices, its width in
32-bit words, its access, its reset value, the bits a write may change, and the modes a write is permitted in (bit m for
mode code m; 0xFFFF where the row sets no modes). -/
structure RegRow where
  name   : String
  off    : Nat
  dims   : List (Nat × Nat)
  words  : Nat
  acc    : Access
  reset  : Nat
  mask   : Nat
  modes  : Nat
  deriving DecidableEq, Repr

/-- A complete message on TOD_RXD (R35): a BINARY one by its bytes; an NMEA ZDA sentence by the UTC seconds since the epoch
it carries and whether its check is good; any other sentence. -/
inductive TodMsg where
  | binary (bytes : List Byte)
  | zda (utc : Nat) (good : Bool)
  | other
  deriving DecidableEq, Repr

end Sys2Proof
end

