-- ==== Sys2Proof/Syntax.lean ====
section
/-! DEFINITION. The commands of the block: one constructor per row of the table of commands, in its order. -/

namespace Sys2Proof

/-- The commands: each row's docstring gives the rule of the spec it follows. -/
inductive Instr where
  /-- REGISTER_WRITE (R12): A write to a control-space register that has no row of its own is applied, staged or refused under the register conventions. -/
  | registerWrite (init : Fin 512) (addr : BitVec 48) (data : List Byte)
  /-- WIDE_REGISTER_WORD0_READ (R12): A read of word 0 of a register wider than 32 bits latches the whole register for the reading initiator. -/
  | wideRegisterWord0Read (init : Fin 512) (addr : BitVec 48)
  /-- WIDE_REGISTER_HIGH_WRITE (R12): A write of the highest word of a wide register commits it together with the initiator's staged words in one step. -/
  | wideRegisterHighWrite (init : Fin 512) (addr : BitVec 48) (value : BitVec 32)
  /-- EVT_STATUS_CLEAR (R19): A W1C write to EVT_STATUS clears event bits, a simultaneous hardware set winning. -/
  | evtStatusClear (init : Fin 512) (block : Fin 15) (value same : BitVec 32)
  /-- EVT_COUNT_CLR (R19): A write to EVT_COUNT_CLR clears the named event counters. -/
  | evtCountClr (init : Fin 512) (block : Fin 15) (value same : BitVec 32)
  /-- POR_RELEASE (R451): Release of POR_N with the rails good samples the straps and starts BOOT. -/
  | porRelease (mode : BitVec 3) (pull : Bool) (rails : Bool)
  /-- RAIL_MONITOR_RELEASE (R578): The internal rail monitor releases the device from reset once every core rail is within its operating range. -/
  | railMonitorRelease
  /-- RCO_STABLE (R522): After 4,096 RCO cycles the Outrider's RCO is judged stable and its clocked logic leaves reset. -/
  | rcoStable
  /-- TIMING_PLL_LOCK (R30): During BOOT, once an oscillator is good, the timing PLL locks and CKT and FSYN_0 to FSYN_4 start. -/
  | timingPllLock (hzA hzB : Option (BitVec 32)) (cyc : Fin 32768)
  /-- BOOT_COMPLETE (R451): Firmware verification and the persistent image application end BOOT, and the mode becomes BLANK with the strap action begun. -/
  | bootComplete
  /-- SRST_N (R451): SRST_N held low for at least 1 us resets the device into BOOT from step 2. -/
  | srstN
  /-- MAIN_POWER_LOSS (R579): VCC_AUX below 1.60 V for 2 us moves PD_34 to VBAT and the device to BACKUP. -/
  | mainPowerLoss
  /-- MAIN_POWER_RETURN (R579): VCC_AUX rising above 1.70 V marks main power as returned. -/
  | mainPowerReturn
  /-- PD_SWITCH_DONE (R451): A power domain completes its switch and the next domain in sequence may switch. -/
  | pdSwitchDone (d : Fin 35)
  /-- OSC_LOST (R29): An oscillator showing no edge for four periods or out of frequency is lost, and the PLL switches to the other if good. -/
  | oscLost (b : Bool)
  /-- BOTH_OSC_LOST (R30): With both oscillators lost the PLL holds its VCO and the Timeline state becomes HOLDOVER_EXPIRED within 20 us. -/
  | bothOscLost
  /-- OSC_GOOD_AGAIN (R30): An oscillator becoming good while the PLL runs on its VCO is taken as active at once. -/
  | oscGoodAgain (a b : Bool)
  /-- OSC_REVERT (R29): With REVERT set, after the preferred oscillator has been good for 10 s the PLL returns to it. -/
  | oscRevert
  /-- GNSS_PPS_EDGE (R33): An active edge on a GNSS 1PPS input is timestamped, windowed and taken as a reference sample. -/
  | gnssPpsEdge (r : Fin 2) (rising : Bool) (ofs : BitVec 18)
  /-- GNSS_PULSE_MISSING (R33): An expected GNSS pulse that does not arrive counts towards LOS_CNT and, at the count, the reference is lost. -/
  | gnssPulseMissing (r : Fin 2)
  /-- TOD_MESSAGE (R35): A complete time-of-day message on TOD_RXD is checked and labels a GNSS pulse with seconds. -/
  | todMessage (m : TodMsg)
  /-- TL_PTP_MEAS (R36): A write of TL_PTP_MEAS delivers a PTP phase sample, or declares the PTP reference lost. -/
  | tlPtpMeas (value : BitVec 32)
  /-- TL_PTP_S_HI (R36): A write of TL_PTP_S_HI makes staged PTP seconds fresh for the next sample. -/
  | tlPtpSHi (value : BitVec 32)
  /-- PTP_TIMEOUT (R36): No accepted PTP sample for PTP_TO seconds makes the PTP reference lost and sets REF_LOST. -/
  | ptpTimeout
  /-- SYNCE_LOSS (R37): The SyncE lane losing signal or frequency lock loses the frequency reference without changing the Timeline state. -/
  | synceLoss
  /-- AUTO_STEP (R41): In ACQUIRING a phase error above the step threshold steps the Timeline at the next tick boundary. -/
  | autoStep
  /-- HOLDOVER_REQUALIFY (R47): A phase reference qualified for REQ_TIME seconds in HOLDOVER returns the Timeline to LOCKED. -/
  | holdoverRequalify
  /-- CAPTURE (R59): TL_CMD.CAPTURE latches the present Timeline and frame position into TL_SNAP registers. -/
  | capture
  /-- FORCE_STEP (R43): TL_CMD.FORCE_STEP requests a forced step, accepted only with transmit muted, else STEP_REFUSED. -/
  | forceStep
  /-- FORCE_ACQUIRE (R43): TL_CMD.FORCE_ACQUIRE takes the Timeline to ACQUIRING when transmit is muted, else sets STEP_REFUSED. -/
  | forceAcquire
  /-- REQUALIFY (R59): TL_CMD.REQUALIFY clears the disagree flag of every reference. -/
  | requalify
  /-- STEP_APPLY (R44): A pending step is applied at the next tick boundary and the state becomes ACQUIRING unless FREE. -/
  | stepApply
  /-- TO_EDGE_T_WRITE (R49): A write of TO_EDGE_T_n pushes a timed-output entry, discarding it on a full queue or out of order. -/
  | toEdgeTWrite (n : Fin 8) (value : BitVec 32)
  /-- TO_CTL_WRITE (R52): A write of TO_CTL_n enables, disables or changes mode of a timed output, emptying the queue on disable. -/
  | toCtlWrite (n : Fin 8) (value : BitVec 32)
  /-- TO_ENTRY_HEAD (R51): A timed-output entry reaches the head and is scheduled, or discarded as late. -/
  | toEntryHead (n : Fin 872)
  /-- TO_EDGE_APPLY (R48): At its Timeline time a timed output drives the entry's level at the pad. -/
  | toEdgeApply (n : Fin 872)
  /-- TO_PERIODIC_EDGE (R52): In PERIODIC mode the output rises every period and falls after the width. -/
  | toPeriodicEdge (n : Fin 8)
  /-- PPS_OUT_EDGE (R53): PPS_OUT rises at PPS_OUT_OFS each second and falls after PPS_OUT_WIDTH. -/
  | ppsOutEdge
  /-- TLIO_ENTRY_PUSH (R49): A TLIO entry handshake pushes an entry into the cell's timed-output queue. -/
  | tlioEntryPush (cell : Fin 864) (sec : BitVec 32) (tc : BitVec 31) (level : Bool)
  /-- TLIO_TS_POP (R54): A TLIO timestamp handshake delivers one timestamp to the fabric. -/
  | tlioTsPop (cell : Fin 864)
  /-- TSI_EDGE_CAPTURE (R55): A selected edge on a timestamp input captures the Timeline into its FIFO, or counts as missed or dropped. -/
  | tsiEdgeCapture (n : Fin 874) (rising : Bool) (ofs : BitVec 18)
  /-- TSI_HI_READ (R56): A normal read of TSI_HI_n returns the last word and pops the head timestamp. -/
  | tsiHiRead (n : Fin 10) (init : Fin 512)
  /-- FSYN_ARM (R57): Writing FSYN_CTL_n.EN arms a synthesiser to start at its anchor, or refuses an out-of-range ratio. -/
  | fsynArm (n : Fin 24) (value : BitVec 32)
  /-- FSYN_START (R57): An armed FSYN starts at the first CKT edge at or after its anchor and writes back its start time. -/
  | fsynStart (n : Fin 24)
  /-- HO_LEARN_SECOND (R63): Each second while LOCKED and learning the estimator accumulates each oscillator's frequency residual. -/
  | hoLearnSecond
  /-- HO_REFIT (R63): Every 64 s the estimator refits frequency, ageing and temperature terms. -/
  | hoRefit
  /-- HO_SNAPSHOT (R70): Every 3,600 s of LOCKED time the estimator refits tau and writes the holdover snapshot. -/
  | hoSnapshot
  /-- SNAP (R70): HO_CMD.SNAP writes a snapshot while LOCKED and otherwise has no effect. -/
  | snap
  /-- FORGET (R81): HO_CMD.FORGET clears both oscillator models outside HOLDOVER. -/
  | forget
  /-- TSENS_READ (R64): Once per second the estimator reads the board temperature sensor, three failures setting TSENS_FAIL. -/
  | tsensRead (reading : Option (BitVec 16))
  /-- HO_STEER_SECOND (R66): Each second in HOLDOVER the estimator sets the DCO from its prediction and grows the uncertainty. -/
  | hoSteerSecond (apart worse : Bool)
  /-- HOLDOVER_EXPIRY (R68): Uncertainty above HO_LIMIT takes the Timeline from HOLDOVER to HOLDOVER_EXPIRED at the next tick. -/
  | holdoverExpiry
  /-- CAL_SECOND (R73): The calendar advances one second, adding or dropping crystal cycles by CAL_TRIM. -/
  | calSecond
  /-- CAL_AUTO_TRIM (R73): Every 1,024 s while LOCKED the calendar is trimmed and aligned to the Timeline. -/
  | calAutoTrim (trim : BitVec 16)
  /-- VBAT_BROWNOUT (R74): VBAT below 1.7 V without main power invalidates the calendar and battery-backed store. -/
  | vbatBrownout
  /-- XT_STOP (R74): The 32 kHz crystal stopping for over 2 s invalidates the calendar. -/
  | xtStop
  /-- VBAT_CHECK (R74): Each second with main power present VBAT is compared with 2.0 V and may set VBAT_LOW. -/
  | vbatCheck (low : Bool)
  /-- CAL_SET (R75): A write of CAL_SET_HI loads the calendar seconds, sets VALID and logs source 0x03. -/
  | calSet (value : BitVec 32)
  /-- CAL_S_READ (R75): A read of CAL_S_LO latches CAL_S_HI. -/
  | calSRead (init : Fin 512)
  /-- CAL_LEAP_ADD (R76): A write of CAL_LEAP_HI adds or replaces a leap-table entry. -/
  | calLeapAdd (value : BitVec 32)
  /-- LEAP_APPLY (R76): When the Timeline reaches a leap entry's effective second the UTC offset takes its value. -/
  | leapApply (slot : Fin 16)
  /-- LPP_CTL_L_WRITE (R86): A 16-bit write of LPP_CTL_L commits the low half with the staged high half. -/
  | lppCtlLWrite (value : BitVec 16)
  /-- LPP_CTL_H_WRITE (R86): A 16-bit write of LPP_CTL_H stages the high half. -/
  | lppCtlHWrite (value : BitVec 16)
  /-- LPP_KEEP_WRITE (R92): A write of LPP_KEEP acts only while LPP is disabled and not running, else sets LPP_KEEP_REFUSED. -/
  | lppKeepWrite (value : BitVec 16)
  /-- LPP_COMMIT_APPLY (R93): A commit made while the LPP runs takes effect at the next second boundary. -/
  | lppCommitApply
  /-- LPP_START (R90): The LPP starts or resumes at the first second boundary at which its run conditions hold. -/
  | lppStart
  /-- LPP_PPS_PULSE (R88): While running, LPP_PPS goes active 12 Tc after each second boundary for PPS_WIDTH ms. -/
  | lppPpsPulse (active : Bool)
  /-- LPP_FRAME_STROBE (R89): At each frame boundary LPP_FRM pulses and LPP_FCNT takes SFN + 1. -/
  | lppFrameStrobe (active : Bool)
  /-- LPP_HOLDOVER_STOP (R91): With LPP_KEEP clear the LPP stops at the first second boundary after 600 s of HOLDOVER. -/
  | lppHoldoverStop
  /-- PAC_ADMIT (R102): A doorbell write enters a descriptor into the admission queue, or refuses it when the queue is full. -/
  | pacAdmit (bell : Fin 16) (value : BitVec 32)
  /-- ADMISSION_DEQUEUE (R103): An admission-queue entry leaves the queue and its descriptor read is issued. -/
  | admissionDequeue
  /-- ADMISSION_DECIDE (R103): With the descriptor read answered, the Pacer runs the admission checks and accepts or refuses. -/
  | admissionDecide (rdStatus : Fin 8) (wrStatus : Fin 8)
  /-- OP_START (R109): At a tick boundary entries whose START_TICK is reached move towards their ready groups, up to 8 per list. -/
  | opStart
  /-- OP_READY (R109): A blocked operation joins its ready group in the fourth CKT cycle after its last input becomes satisfying. -/
  | opReady (slot : Fin 1048576)
  /-- CANTER_GRANT (R110): A worker asking is served an operation by deficit-weighted round-robin over the ready groups. -/
  | canterGrant (core : Fin 256)
  /-- PREEMPT (R111): A ready preempting operation with too little slack preempts the eligible core with the latest due tick. -/
  | preempt (slot : Fin 1048576)
  /-- HP_GRANT (R114): The Pacer grants an operation to an asking hitch port with a free tag. -/
  | hpGrant (port : Fin 512)
  /-- HP_DONE (R114): HP_DONE from the fabric reports completion of a tag and frees it, or sets HP_PROTOCOL. -/
  | hpDone (port : Fin 512) (tag : Fin 4) (status : BitVec 8)
  /-- DMA_COMPLETE (R115): A DMA channel finishes copying its bytes and reports its status. -/
  | dmaComplete (chan : Fin 32) (noc : Fin 8)
  /-- STAGER_FETCH_DONE (R115): The stager finishes fetching a TIMED_IO output buffer and completes the operation. -/
  | stagerFetchDone (noc : Fin 8)
  /-- OP_REPORT (R116): A worker's completion report makes the operation DONE, FAILED on a nonzero status, or is discarded as late. -/
  | opReport (slot : Fin 1048576) (status : BitVec 8)
  /-- ALARM_WINDOW_END (R126): Eight ticks after the completion report the operation passes from DONE to HELD. -/
  | alarmWindowEnd (slot : Fin 1048576)
  /-- OP_DEADLINE (R116): An operation not completed when PT reaches its DUE_TICK ends MISSED. -/
  | opDeadline (slot : Fin 1048576)
  /-- OP_RELEASE (R117): At its due tick a HELD operation is released according to REL_KIND and its tokens become COMMITTED. -/
  | opRelease (slot : Fin 1048576)
  /-- TIMED_RELEASE_FETCH_DONE (R118): The stager's fetch for a TIMED release of a non-TIMED_IO operation completes and the entries are pushed. -/
  | timedReleaseFetchDone (noc : Fin 8)
  /-- PAC_GRAPH_CFG_WRITE (R98): A write of PAC_GRAPH_CFG sets residency and clearing RESIDENT cancels the graph wholesale. -/
  | pacGraphCfgWrite (graph : Fin 256) (value : BitVec 32)
  /-- PAC_FLOW_CFG_WRITE (R120): A write of PAC_FLOW_CFG enables a flow with FIRST_SEQ, or is ignored while it holds operations. -/
  | pacFlowCfgWrite (flow : Fin 1024) (value : BitVec 32)
  /-- PAC_CTL_WRITE (R137): A write of PAC_CTL enables the Pacer, or clearing EN cancels every unreleased operation wholesale. -/
  | pacCtlWrite (value : BitVec 32)
  /-- RB_ALARM (R129): A memory late alarm reaching the Pacer seeds rein-back by token or by worker. -/
  | rbAlarm (cls : Fin 4) (worker : Fin 512) (addr : BitVec 48) (alarm : Fin 16)
  /-- RB_TOK_CLR (R130): A write of RB_TOK_CLR returns a POISONED token with no unreleased producer to IDLE. -/
  | rbTokClr (value : BitVec 32)
  /-- RB_TEST (R147): Writing RB_TEST with bit 31 injects an ALARM of class TAG naming a token. -/
  | rbTest (value : BitVec 32)
  /-- RB_LOSS_HI_READ (R145): A normal read of RB_LOSS_HI pops the loss-queue head. -/
  | rbLossHiRead (init : Fin 512)
  /-- NOP (R153): A NOP slot operation does nothing. -/
  | nop (core : Fin 256) (fresh : Bool)
  /-- CMAC (R153): CMAC multiplies two complex registers with optional conjugate and negate into an accumulator. -/
  | cmac (core : Fin 256) (fresh : Bool) (k : Fin 4) (ra rb : Fin 32) (cj neg clr : Bool)
  /-- DRMAC (R153): DRMAC performs a dual real multiply-accumulate against a shared modifier. -/
  | drmac (core : Fin 256) (fresh : Bool) (k : Fin 4) (ra rb md : Fin 32)
  /-- PCMAC (R153): PCMAC pre-adds two complex values and multiply-accumulates by the modifier. -/
  | pcmac (core : Fin 256) (fresh : Bool) (k : Fin 4) (ra rb md : Fin 32)
  /-- EXT (R155): EXT rounds and optionally saturates an accumulator into a 16-bit complex register. -/
  | ext (core : Fin 256) (fresh : Bool) (k : Fin 4) (ra : Fin 32) (sh : Fin 64) (final sat clr : Bool)
  /-- ASHR (R156): ASHR shifts an accumulator right under the selected rounding. -/
  | ashr (core : Fin 256) (fresh : Bool) (k : Fin 4) (sh : Fin 64)
  /-- ALD (R153): ALD loads an accumulator from a register scaled by a power of two. -/
  | ald (core : Fin 256) (fresh : Bool) (k : Fin 4) (ra : Fin 32) (sh : Fin 32)
  /-- AMOV (R153): AMOV copies one accumulator to another. -/
  | amov (core : Fin 256) (fresh : Bool) (k j : Fin 4)
  /-- AADD (R153): AADD adds one accumulator to another. -/
  | aadd (core : Fin 256) (fresh : Bool) (k j : Fin 4)
  /-- CADD (R153): CADD adds two complex registers per component, wrapping. -/
  | cadd (core : Fin 256) (fresh : Bool) (ra rb md : Fin 32)
  /-- CSUB (R153): CSUB subtracts two complex registers per component, wrapping. -/
  | csub (core : Fin 256) (fresh : Bool) (ra rb md : Fin 32)
  /-- CADDS (R153): CADDS adds two complex registers per component, saturating. -/
  | cadds (core : Fin 256) (fresh : Bool) (ra rb md : Fin 32)
  /-- CSUBS (R153): CSUBS subtracts two complex registers per component, saturating. -/
  | csubs (core : Fin 256) (fresh : Bool) (ra rb md : Fin 32)
  /-- CONJ (R153): CONJ writes the saturated conjugate of a complex register. -/
  | conj (core : Fin 256) (fresh : Bool) (ra rb : Fin 32)
  /-- MOV (R153): MOV copies one complex register to another. -/
  | mov (core : Fin 256) (fresh : Bool) (ra rb : Fin 32)
  /-- LD (R158): An X, Y or C slot load reads a local memory word into a register with optional post-modify. -/
  | ld (core : Fin 256) (fresh : Bool) (mem : Fin 3) (p : Fin 16) (d : Fin 32) (pm : Bool)
  /-- ST (R158): An X or Y slot store writes a register into local memory with optional post-modify. -/
  | st (core : Fin 256) (fresh : Bool) (mem : Fin 2) (p : Fin 16) (d : Fin 32) (pm : Bool)
  /-- ROT (R165): ROT rotates the register window by decrementing RRB. -/
  | rot (core : Fin 256) (fresh : Bool)
  /-- CLRA (R158): CLRA zeroes the accumulators named in its argument. -/
  | clra (core : Fin 256) (fresh : Bool) (mask : Fin 16)
  /-- ASK (R169): ASK stops issue, drains, waits for transfers and sends the report and ask to the Pacer. -/
  | ask (core : Fin 256) (fresh : Bool) (status : BitVec 8)
  /-- WAIT (R168): WAIT stops issue until the masked transfer channels of the live bank complete. -/
  | wait (core : Fin 256) (fresh : Bool) (mask : Fin 16)
  /-- LOOP (R164): LOOP starts a counted hardware loop over the following body. -/
  | loop (core : Fin 256) (fresh : Bool) (lc rot : Bool) (body : BitVec 12) (count : BitVec 16)
  /-- LOOPR (R164): LOOPR starts a hardware loop whose count comes from a register. -/
  | loopr (core : Fin 256) (fresh : Bool) (lc rot : Bool) (body : BitVec 12) (d : Fin 32)
  /-- BR (R163): BR branches conditionally after two delay bundles. -/
  | br (core : Fin 256) (fresh : Bool) (cond : Fin 8) (d : Fin 32) (target : BitVec 12)
  /-- MOVIL (R158): MOVIL writes an immediate into the low half of a register. -/
  | movil (core : Fin 256) (fresh : Bool) (d : Fin 32) (imm : BitVec 16)
  /-- MOVIH (R158): MOVIH writes an immediate into the high half of a register. -/
  | movih (core : Fin 256) (fresh : Bool) (d : Fin 32) (imm : BitVec 16)
  /-- ADDP (R158): ADDP sets an address register to another plus an immediate. -/
  | addp (core : Fin 256) (fresh : Bool) (n m : Fin 16) (imm : BitVec 24)
  /-- ADDPD (R158): ADDPD sets an address register to another plus a data register. -/
  | addpd (core : Fin 256) (fresh : Bool) (n m : Fin 16) (d : Fin 32)
  /-- MOVPD (R158): MOVPD sets an address register from two data registers. -/
  | movpd (core : Fin 256) (fresh : Bool) (n : Fin 16) (da db : Fin 32)
  /-- SETM (R152): SETM sets a post-modify step and circular size code. -/
  | setm (core : Fin 256) (fresh : Bool) (n : Fin 16) (size : BitVec 4) (step : BitVec 16)
  /-- SETRM (R156): SETRM sets the rounding mode. -/
  | setrm (core : Fin 256) (fresh : Bool) (rm : Fin 4)
  /-- GET (R167): GET starts a transfer from a physical address into local memory on a channel. -/
  | get (core : Fin 256) (fresh : Bool) (ch : Fin 4) (ps pl : Fin 16) (mem : Fin 4) (len : BitVec 16)
  /-- PUT (R167): PUT starts a transfer from local memory to a physical address on a channel. -/
  | put (core : Fin 256) (fresh : Bool) (ch : Fin 4) (pd pl : Fin 16) (mem : Fin 4) (len : BitVec 16)
  /-- IDLE (R158): IDLE delays the next bundle issue by n cycles. -/
  | idle (core : Fin 256) (fresh : Bool) (n : BitVec 8)
  /-- GET_COMPLETE (R168): A GET completes when its last word is written locally, or ends on an error response. -/
  | getComplete (core : Fin 256) (ch : Fin 4) (noc : Fin 8)
  /-- PUT_COMPLETE (R168): A PUT completes when the NoC has acknowledged every write, or ends on an error response. -/
  | putComplete (core : Fin 256) (ch : Fin 4) (noc : Fin 8)
  /-- GRANT_LOAD (R170): A grant reaching a core loads its live bank and starts the kernel, or reports BAD_KERNEL. -/
  | grantLoad (core : Fin 256)
  /-- PREEMPT_SWITCH (R172): A preemption request reaching a core stops, drains and swaps banks, loading the preempting grant. -/
  | preemptSwitch (core : Fin 256)
  /-- ABANDON (R174): An abandon request reaching a core stops it, ends its transfers and makes it ask or resume. -/
  | abandon (core : Fin 256)
  /-- CA_IMEM_WRITE (R177): A write to a team's instruction-memory broadcast window reaches all its cores and may set IMEM_LIVE_WRITE. -/
  | caImemWrite (team : Fin 4) (word : Fin 8192) (value : BitVec 32)
  /-- SAVE_DONE (R176): The Canter save of both banks of every core completes and the array is power-gated. -/
  | saveDone
  /-- RESTORE_DONE (R176): On wake the Canter restore from the save area completes and cores resume. -/
  | restoreDone
  /-- CONTENTION_SAMPLE (R193): A long-line contention sensor sample finding two drivers disables them and reports the line to the Farrier. -/
  | contentionSample (line : Fin 294912)
  /-- BM_FLIP_ARM (R210): A write of BM_FLIP_2 with ARM arms a corrupting write for a block memory. -/
  | bmFlipArm (value : BitVec 32)
  /-- DP_REQ (R221): A dictionary-port request is issued to the Paddock serving an object index. -/
  | dpReq (init : Fin 512) (wr : Bool) (index : BitVec 16) (sub : BitVec 8) (word : Fin 16) (data : BitVec 32)
  /-- DP_ACK (R221): DP_ACK from the fabric ends a dictionary-port request with data or an abort. -/
  | dpAck (p : Fin 144) (data : BitVec 32) (code : BitVec 16)
  /-- DP_TIMEOUT (R221): No DP_ACK within 100 us answers the requester 0x0A08. -/
  | dpTimeout (p : Fin 144)
  /-- GCK_CFG_WRITE (R223): A write of GCK_CFG enables or disables a global tree, or is refused. -/
  | gckCfgWrite (k : Fin 48) (value : BitVec 32)
  /-- GCK_START (R223): An enabled tree starts at its FSYN's next edge whose count is a multiple of DIV. -/
  | gckStart (k : Fin 48)
  /-- LOAD_FULL (R242): CFG_CMD.LOAD_FULL starts a FULL load from CFG_SRC when permitted. -/
  | loadFull (value : BitVec 32)
  /-- LOAD_PARTIAL (R242): CFG_CMD.LOAD_PARTIAL starts a PARTIAL load from CFG_SRC when permitted. -/
  | loadPartial (value : BitVec 32)
  /-- ABORT (R245): CFG_CMD.ABORT ends a load in progress with ABORTED. -/
  | abort (value : BitVec 32)
  /-- EMPTY (R252): CFG_CMD.EMPTY isolates the named Paddocks and marks them EMPTY. -/
  | empty (value : BitVec 32)
  /-- PASS1_DONE (R243): Pass one finishes reading the stream and either passes all checks or fails with an error code. -/
  | pass1Done (host : Option (List Byte))
  /-- LOAD_TIMEOUT (R245): No source data for CFG_TIMEOUT ms fails the load. -/
  | loadTimeout
  /-- PR_ISOLATE (R251): At the isolation tick a PARTIAL load isolates its targets and clears their frames. -/
  | prIsolate
  /-- PASS2_CHUNK (R244): A chunk re-read in pass two is digest-checked and its frames written, or the load fails. -/
  | pass2Chunk (host : Option (List Byte))
  /-- ALT_USED (R240): A failed strap load with ALT_EN starts one FULL load of the alternate image. -/
  | altUsed
  /-- STARTUP_CLOCKS (R248): One tick after the last frame write, FULL start-up writes FSYN and tree settings and arms the FSYNs. -/
  | startupClocks
  /-- DRIVER_RELEASE (R247): Once trees run, long-line and block drivers and contention sensors are released. -/
  | driverRelease
  /-- GSR_RELEASE (R227): 64 CKT cycles after driver release, GSR is released at a CKT edge. -/
  | gsrRelease
  /-- LOAD_DONE (R247): One tick after GSR release, Blinkers pass, ports serve, and a FULL load enters COMMISSION. -/
  | loadDone
  /-- FRAME_SLOT (R261): A Farrier engine slot reads and decodes a logic frame, or passes unread. -/
  | frameSlot (engine : Fin 2) (prio : Bool)
  /-- PRIORITY_PASS_START (R264): Every 4.8 ms each engine starts a priority pass over its priority Paddocks. -/
  | priorityPassStart (engine : Fin 2)
  /-- REPAIR_WRITE (R267): A queued corrected frame is written through a repair slot. -/
  | repairWrite (engine : Fin 2)
  /-- REPAIR_VERIFY (R267): A verify read completes a repair, or marks the frame STUCK for re-fetch. -/
  | repairVerify (engine : Fin 2)
  /-- REFETCH_CHUNK (R269): A re-fetch reads and checks a retained chunk and decodes its records for the frame. -/
  | refetchChunk (engine : Fin 2) (host : Option (List Byte))
  /-- FARRIER_RATE_UPDATE (R265): Once per second each engine recomputes its base scrub rate. -/
  | farrierRateUpdate
  /-- FAR_PRIO_COMMIT (R263): A write of FAR_PRIO_4 commits the staged priority set or refuses it. -/
  | farPrioCommit (value : BitVec 32)
  /-- PEER_STALL_CHECK (R274): Every 1 ms each engine checks its partner's slot sequence number for a stall. -/
  | peerStallCheck (engine : Fin 2)
  /-- RESTORE_PEER (R274): FAR_CMD.RESTORE_PEER resets the stalled engine. -/
  | restorePeer (value : BitVec 32)
  /-- FAR_LOG_READ (R275): A normal read of FAR_LOG_3 pops the Farrier log head. -/
  | farLogRead (init : Fin 512)
  /-- FAR_INJECT (R276): Writing GO in FAR_INJ_BIT flips stored configuration bits of a frame. -/
  | farInject (value : BitVec 32)
  /-- NOC_INJECT (R290): A request at its injecting port is charged against its Curb and sent, refused or paced. -/
  | nocInject (init : Fin 512) (op : Fin 4) (addr : BitVec 48) (len : Fin 256) (tag : BitVec 8) (data : List Byte)
  /-- CURB_REFILL (R290): At each tick boundary each Curb bucket gains RATE up to BURST. -/
  | curbRefill
  /-- LINK_RESEND (R287): A flit with a bad per-hop CRC is discarded and resent from the retry buffer. -/
  | linkResend (router : Fin 168) (dir : Fin 4) (good : Bool)
  /-- NOC_READ (R283): A READ request performed at its target returns RDATA. -/
  | nocRead (init : Fin 512) (tag : BitVec 9) (bad : Bool) (soft : Fin 3) (host : Option (List Byte))
  /-- NOC_WRITE (R283): A WRITE request performed at its target returns WRACK. -/
  | nocWrite (init : Fin 512) (tag : BitVec 9) (bad : Bool)
  /-- NOC_ADD (R298): An ADD atomic on the scratchpad stores old plus operand and returns the old value. -/
  | nocAdd (init : Fin 512) (tag : BitVec 9) (bad : Bool)
  /-- NOC_SWAP (R298): A SWAP atomic on the scratchpad stores the operand and returns the old value. -/
  | nocSwap (init : Fin 512) (tag : BitVec 9) (bad : Bool)
  /-- NOC_RESPONSE (R283): A response carrying the request's tag reaches its initiator. -/
  | nocResponse (init : Fin 512) (tag : BitVec 8) (bad : Bool)
  /-- SP_BANK_CFG_WRITE (R300): A write of SP_BANK_CFG starts a bank power-state transition. -/
  | spBankCfgWrite (b : Fin 64) (value : BitVec 32)
  /-- SP_STATE_DONE (R300): A bank power-state transition completes. -/
  | spStateDone (b : Fin 64)
  /-- SP_FLIP_ARM (R302): Arming SP_FLIP_2 corrupts the next write to the named bank. -/
  | spFlipArm (value : BitVec 32)
  /-- NOC_MON_CLR (R291): A write of NOC_MON_CLR zeroes the named monitors. -/
  | nocMonClr (value : BitVec 32)
  /-- FRP_REQUEST (R293): A fabric request through a router port is accepted or refused with CURB. -/
  | frpRequest (p : Fin 144) (kind : Fin 4) (tag : Fin 16) (addr : BitVec 48) (len : Fin 256) (cls : Fin 4) (kix : Fin 64) (await : Bool) (data : List Byte)
  /-- FRP_TARGET_RESPONSE (R293): The fabric answers a Paddock-window access with a read response or write acknowledgement. -/
  | frpTargetResponse (p : Fin 144) (tag : BitVec 8) (status : Fin 8) (data : List Byte)
  /-- TGT_TIMEOUT (R294): A Paddock-window access unanswered within TGT_TIMEOUT is answered TARGET. -/
  | tgtTimeout (p : Fin 144) (tag : Fin 4)
  /-- MERGE_FLUSH (R313): A merge-buffer entry is flushed by read-merge-write 256 cycles after its first write. -/
  | mergeFlush (h : Fin 4)
  /-- REFRESH_DUE (R315): A rank's refresh falls due every 1.95 us and is issued or postponed. -/
  | refreshDue (h : Fin 4) (rank : Fin 2) (busy : Bool)
  /-- INIT (R316): MEM_CMD.INIT trains a channel in BLANK or COMMISSION. -/
  | init (h : Fin 4)
  /-- INIT_DONE (R316): Initial training ends with the channel READY or FAILED. -/
  | initDone (h : Fin 4) (ok : Bool)
  /-- RETRAIN_DUE (R317): A channel's retraining falls due on its interval or on DQS drift. -/
  | retrainDue (h : Fin 4)
  /-- TRAINING_SLOT (R317): At a training slot a channel with a due retraining pauses to retrain. -/
  | trainingSlot (h : Fin 4)
  /-- TRAIN_FORCED (R317): With no slot within MAXWAIT the retraining pause is forced. -/
  | trainForced (h : Fin 4)
  /-- PATROL_READ (R319): The patrol reads a line in an idle cycle and corrects or logs its errors. -/
  | patrolRead (h : Fin 4)
  /-- RETIRE_PAGE (R320): MEM_CMD.RETIRE_PAGE copies a page to a spare page and remaps it. -/
  | retirePage (h : Fin 4)
  /-- RETIRE_PAGE_DONE (R320): The page copy completes and the remap entry takes effect. -/
  | retirePageDone (h : Fin 4)
  /-- RETIRE_BANK (R321): MEM_CMD.RETIRE_BANK starts copying a bank into the spare bank. -/
  | retireBank (h : Fin 4)
  /-- RETIRE_DONE (R321): The bank copy completes and BANK_RETIRED is logged. -/
  | retireDone (h : Fin 4)
  /-- MEM_FLIP_ARM (R322): Arming MEM_FLIP_CTL corrupts the next line the channel writes. -/
  | memFlipArm (h : Fin 4) (value : BitVec 32)
  /-- MEM_LOG_READ (R318): A normal read of MEM_LOG_3 pops the channel log head. -/
  | memLogRead (h : Fin 4) (init : Fin 512)
  /-- CXL_DEC_COMMIT (R325): Writing COMMIT checks and commits or refuses an HDM decoder. -/
  | cxlDecCommit (d : Fin 4) (value : BitVec 32)
  /-- CXL_RESPONSE (R326): A CXL.mem response answers the NoC request, poisoned data answered POISON. -/
  | cxlResponse (init : Fin 512) (tag : BitVec 8) (poison : Bool)
  /-- CXL_TIMEOUT (R327): A CXL.mem request with no response within CXL_TIMEOUT is answered TARGET. -/
  | cxlTimeout (init : Fin 512) (tag : BitVec 8)
  /-- CXL_LINK_CHG (R327): A CXL link going down answers outstanding requests TARGET, and coming up resumes service. -/
  | cxlLinkChg (port : Fin 2) (up : Bool) (width : Fin 8) (gen : Fin 8)
  /-- CXL_ECAM_ACCESS (R328): An ECAM configuration access is forwarded, a non-answering function reading all ones. -/
  | cxlEcamAccess (init : Fin 512) (wr : Bool) (ofs : Fin 1048576) (value : BitVec 32) (got : Option (BitVec 32))
  /-- PCIE_INBOUND (R329): An inbound PCIe request through a BAR is issued as initiator 444, or aborted in STABLE. -/
  | pcieInbound (bar : Fin 3) (wr : Bool) (ofs : BitVec 26) (len : Fin 256) (tag : BitVec 8) (data : List Byte)
  /-- PCIE_LINK_CHG (R329): The PCIe link changes state. -/
  | pcieLinkChg (up : Bool) (width : Fin 32) (gen : Fin 8)
  /-- IMP_TILE_READ (R343): IMP reads an ENC_INT tile and tag, decrypts and releases speculative data. -/
  | impTileRead (tile : BitVec 39)
  /-- IMP_NODE_VERIFY (R342): A fetched Whiffletree node returns and is verified, repaired from its twin or poisoned. -/
  | impNodeVerify (rng : Fin 16) (level : Fin 12) (idx : BitVec 32)
  /-- IMP_TAG_CHECK (R345): The tile tag check completes and raises a late alarm on mismatch. -/
  | impTagCheck (tile : BitVec 39)
  /-- IMP_CHECK_TIMEOUT (R345): A tag check not done within 200 ns of release is deemed failed and alarms. -/
  | impCheckTimeout (tile : BitVec 39)
  /-- IMP_TILE_WRITE (R346): A write to a protected tile enters or merges into the tile buffer. -/
  | impTileWrite (init : Fin 512) (tag : BitVec 8)
  /-- IMP_TILE_WRITEBACK (R346): A tile-buffer entry is encrypted and written back 128 cycles after its first write. -/
  | impTileWriteback (tile : BitVec 39)
  /-- IMP_RANGE_COMMIT (R335): Writing COMMIT = 1 checks and commits or refuses a protection range. -/
  | impRangeCommit (n : Fin 16) (value : BitVec 32)
  /-- IMP_RANGE_DECOMMIT (R335): Writing COMMIT = 0 writes back and releases a protection range. -/
  | impRangeDecommit (n : Fin 16) (value : BitVec 32)
  /-- IMP_RESEED (R348): A write of IMP_RESEED reseeds a poisoned node and frees its poison entry. -/
  | impReseed (value : BitVec 32)
  /-- ROLL_START (R349): IMP_ROLL_CMD.START begins rolling a range to a new key slot, or is refused. -/
  | rollStart (value : BitVec 32)
  /-- ROLL_PAUSE (R352): IMP_ROLL_CMD.PAUSE stops the roll engine after the present tile. -/
  | rollPause
  /-- ROLL_RESUME (R352): IMP_ROLL_CMD.RESUME restarts a paused roll. -/
  | rollResume
  /-- ROLL_CLAIM (R350): The roll engine claims the boundary tile when idle and its Curb holds the charge. -/
  | rollClaim
  /-- ROLL_TILE_DONE (R351): The re-encrypted tile's writes are acknowledged and B advances, the roll ending at the range end. -/
  | rollTileDone
  /-- ROLL_RETRY (R351): A claimed tile not done within ROLL_TMAX is abandoned and claimed again. -/
  | rollRetry
  /-- IMP_TAG_FLIP_ARM (R355): Arming IMP_TAG_FLIP inverts the range's next tile tag written. -/
  | impTagFlipArm (value : BitVec 32)
  /-- IMP_LOG_READ (R355): A normal read of IMP_LOG_3 pops the IMP log head. -/
  | impLogRead (init : Fin 512)
  /-- LANE_SIGNAL_DETECT (R361): Signal detect on a lane starts equaliser adaptation from held values. -/
  | laneSignalDetect (lane : Fin 128)
  /-- LANE_LOS (R361): Loss of signal on a lane holds its equaliser values. -/
  | laneLos (lane : Fin 128)
  /-- EQ_ADAPT_STEP (R361): A background equaliser adaptation step runs at most every 10 us. -/
  | eqAdaptStep (lane : Fin 128)
  /-- ETH_ENABLE (R362): Setting ETH_CFG.EN enables a MAC in its mode, or refuses a conflicting mode. -/
  | ethEnable (m : Fin 8) (value : BitVec 32)
  /-- ETH_TX_START (R364): At a frame boundary the MAC starts the head frame of the highest non-empty queue and fetches it. -/
  | ethTxStart (m : Fin 8) (noc : Fin 8)
  /-- ETH_TX_FRAME_DONE (R364): The fetched frame finishes on the wire, stamped where required, or ends with a fetch error. -/
  | ethTxFrameDone (m : Fin 8) (noc : Fin 8) (ofs : BitVec 18)
  /-- ETH_TXP_PUSH (R365): A write of ETH_TXP_CTL pushes a software frame into a transmit queue. -/
  | ethTxpPush (m : Fin 8) (value : BitVec 32)
  /-- ETH_RX_FRAME (R366): A received frame is filtered, stamped and written into its receive ring or dropped. -/
  | ethRxFrame (m : Fin 8) (frame : List Byte) (fcs : Bool) (corr : BitVec 16) (unc : BitVec 16) (ofs : BitVec 18)
  /-- LINK_CHG (R364): An Ethernet MAC's link goes up or down. -/
  | linkChg (m : Fin 8) (up : Bool)
  /-- ETH_TXTS_READ (R368): A normal read of ETH_TXTS_3 pops the transmit-stamp FIFO head. -/
  | ethTxtsRead (m : Fin 8) (init : Fin 512)
  /-- MGT_RX_FRAME (R371): The management port accepts a frame into its receive ring or drops it. -/
  | mgtRxFrame (frame : List Byte) (fcs : Bool)
  /-- MGT_TX_PROD_WRITE (R371): Advancing MGT_TX_PROD queues management frames for sending. -/
  | mgtTxProdWrite (value : BitVec 32)
  /-- MGT_TX_FRAME (R371): The management port sends the next transmit slot and advances MGT_TX_CONS. -/
  | mgtTxFrame
  /-- MGT_LINK_CHG (R370): The management port link changes state. -/
  | mgtLinkChg (up : Bool) (speed : Fin 4) (an : Bool) (fault : Bool)
  /-- JSYSREF_EDGE (R375): A SYSREF edge is timestamped and compared with the LEMC, or adopts an offset when armed. -/
  | jsysrefEdge (falling : Bool) (ofs : BitVec 18)
  /-- ADOPT (R375): JSYSREF_CMD.ADOPT arms an LEMC offset adoption for the masked links. -/
  | adopt (value : BitVec 32)
  /-- JESD_BUFFER_START (R378): A queued lane-engine buffer starts transmission at its LEMC boundary, or underruns. -/
  | jesdBufferStart (q : Fin 16)
  /-- JESD_FETCH_DONE (R378): A lane engine finishes fetching a released buffer. -/
  | jesdFetchDone (q : Fin 16) (noc : Fin 8)
  /-- JESD_RX_EMB (R377): A received extended multiblock is delivered, CRC-checked and captured where configured. -/
  | jesdRxEmb (q : Fin 16) (data : List Byte) (crc : Bool) (jump : Bool)
  /-- JL_LINK_DOWN (R377): Loss of sync-header or EMB lock drops CR_VALID within one EMB. -/
  | jlLinkDown (q : Fin 16)
  /-- TETHER_FRAME_TX (R385): The Tether transmitter sends the next frame on the next lane round-robin. -/
  | tetherFrameTx
  /-- TETHER_FRAME_RX (R385): A received Tether frame is aligned, descrambled, CRC-checked and merged in LSEQ order. -/
  | tetherFrameRx (lane : Fin 4) (phase : Fin 32) (frame : BitVec 1024) (stuff : Bool)
  /-- SLIP (R384): TETH_CMD.SLIP shifts a searching lane's word boundary by one bit. -/
  | slip (value : BitVec 32)
  /-- TETHER_DESKEW_TIMEOUT (R385): An LSEQ not arrived within DESKEW frames is skipped and reported as a gap. -/
  | tetherDeskewTimeout
  /-- TETH_FIFO_ERR (R380): A Tether receive FIFO overflow or underflow returns the lane to SEARCH. -/
  | tethFifoErr (lane : Fin 4)
  /-- ROLE_ELECTION (R396): With ROLE_REQ, ROLE_IN and FENCE_IN low for 200 us make the device PRIMARY. -/
  | roleElection (roleIn : Bool) (fenceIn : Bool)
  /-- ROLE_CONFLICT (R396): Both devices PRIMARY with ROLE_IN high for 10 us makes UNIT 1 leave PRIMARY. -/
  | roleConflict
  /-- RELAY_FRAME_RX (R397): A Relay frame is authenticated and passed on by kind, or discarded with AUTH_FAIL. -/
  | relayFrameRx
  /-- HEARTBEAT (R409): An accepted HEARTBEAT frame counts as a link heartbeat and carries partner state. -/
  | heartbeat
  /-- TIME_REQ (R408): The primary answers a TIME_REQ with TIME_RESP stamps. -/
  | timeReq
  /-- TIME_RESP (R408): A TIME_RESP yields a RELAY reference sample for the secondary's Timeline. -/
  | timeResp
  /-- ACK (R400): An ACK frees acknowledged journal entries, or a NAK triggers resend. -/
  | ack
  /-- MARK (R399): The secondary applies a MARK entry, advancing the journal point. -/
  | mark
  /-- ADMIT (R407): The secondary writes a carried descriptor and admits it under the shadow checks. -/
  | admitEntry
  /-- CFG (R402): The secondary applies a mirrored Pacer register write. -/
  | cfg
  /-- MEM (R403): The secondary writes a mirrored plain memory write as initiator 472. -/
  | mem
  /-- TILE (R353): The secondary stores a mirrored protected tile, tag and counter as carried. -/
  | tile
  /-- OBJ (R438): The secondary writes a mirrored object value as OWNER. -/
  | obj
  /-- PORT (R406): The secondary writes a mirror-port message to its ring slot and sets MP_RX. -/
  | port
  /-- HANDOVER (R414): The secondary applies a HANDOVER entry and takes PRIMARY at the next tick. -/
  | handover
  /-- JOIN_REQ (R417): The primary answers a JOIN_REQ by starting the snapshot or refusing on BUILD_ID. -/
  | joinReq
  /-- SNAP_END (R417): SNAP_END makes a joining secondary SYNCED, or reports the join refused. -/
  | snapEnd
  /-- JOURNAL_MARK (R399): With no entry made for 1 us the primary makes a MARK. -/
  | journalMark
  /-- ACK_PERIODIC (R400): At least every 2 us the secondary sends an ACK of the last entry applied. -/
  | ackPeriodic
  /-- JOURNAL_RESEND (R400): An entry unacknowledged for 4 us causes resend of every unacknowledged entry. -/
  | journalResend
  /-- JOURNAL_STALL (R401): The oldest unacknowledged entry reaching 15 us stalls journalled actions. -/
  | journalStall
  /-- PARTNER_UNSYNCED (R401): The oldest unacknowledged entry reaching 19 us declares the partner UNSYNCED. -/
  | partnerUnsynced
  /-- TIME_EXCHANGE (R408): Every 1 ms the secondary sends TIME_REQ to the primary. -/
  | timeExchange
  /-- HEARTBEAT_SEND (R409): Every 768 ticks a device pulses RELAY_HB_OUT and sends a HEARTBEAT frame. -/
  | heartbeatSend
  /-- HB_PIN_PULSE (R409): A high pulse of 1 to 8 ticks on RELAY_HB_IN is a pin heartbeat. -/
  | hbPinPulse (ticks : Nat)
  /-- PARTNER_LOST (R410): 100 us without a heartbeat on either path declares the partner lost and fences it. -/
  | partnerLost
  /-- HB_PATH_LOST (R410): 100 us without a heartbeat on one path sets HB_PIN_LOST or HB_LINK_LOST. -/
  | hbPathLost (link : Bool)
  /-- FENCE_IN_SET (R411): FENCE_IN high for 4 CKT cycles mutes transmit and demotes a primary to SECONDARY. -/
  | fenceInSet (high : Bool)
  /-- TAKEOVER (R412): At the first tick with the fence held 10 us and conditions met, the secondary takes PRIMARY and triggers SWITCH. -/
  | takeover (roleIn : Bool)
  /-- TAKEOVER_BLOCKED (R412): Takeover conditions not met within RELAY_FENCE_TMO set TAKEOVER_BLOCKED. -/
  | takeoverBlocked
  /-- JOIN (R417): RELAY_CMD.JOIN cancels local work and sends JOIN_REQ, or is refused. -/
  | join (value : BitVec 32)
  /-- RELAY_CMD_HANDOVER (R414): RELAY_CMD.HANDOVER on a primary with a SYNCED partner journals HANDOVER and leaves PRIMARY. -/
  | relayCmdHandover (value : BitVec 32)
  /-- UNFENCE (R413): RELAY_CMD.UNFENCE releases RELAY_FENCE_OUT. -/
  | unfence (value : BitVec 32)
  /-- CTR_CLEAR (R397): RELAY_CMD.CTR_CLEAR clears the record of the last FCTR accepted. -/
  | ctrClear (value : BitVec 32)
  /-- FENCE_RELEASE (R413): After the partner reports SECONDARY for 1 ms the primary lowers FENCE_OUT. -/
  | fenceRelease
  /-- RELAY_MP_DB (R406): A write of RELAY_MP_DB journals mirror-port messages up to the new producer index. -/
  | relayMpDb (port : Fin 16) (value : BitVec 32)
  /-- RELAY_MIR_COMMIT (R405): Writing COMMIT checks and commits or refuses a mirror range. -/
  | relayMirCommit (n : Fin 8) (value : BitVec 32)
  /-- RELAY_GAP_READ (R416): A normal read of RELAY_GAP_HI pops the gap FIFO head. -/
  | relayGapRead (init : Fin 512)
  /-- FMP_FRAME_RX (R426): An FMP frame is received, form-checked, authenticated and queued. -/
  | fmpFrameRx (via : Fin 3) (peer : BitVec 48) (frame : List Byte)
  /-- HELLO (R427): HELLO returns identity, mode and the role nonces. -/
  | hello
  /-- READ (R427): READ returns an object value after the checks of Table ODP-5. -/
  | read
  /-- WRITE (R432): WRITE sets an object value after the checks, taking effect before the response. -/
  | write
  /-- SEG_OPEN (R434): SEG_OPEN opens a segmented read or write transfer. -/
  | segOpen
  /-- SEG_DATA (R434): SEG_DATA moves the next segment of an open transfer. -/
  | segData
  /-- SEG_CLOSE (R434): SEG_CLOSE applies a segmented write whole and ends the transfer. -/
  | segClose
  /-- SEG_ABORT (R434): SEG_ABORT ends a segmented transfer without effect. -/
  | segAbort
  /-- SEG_TIMEOUT (R434): 10 s without SEG_DATA ends a segmented transfer without effect. -/
  | segTimeout (role : Fin 4)
  /-- STORE (R436): STORE snapshots the persistent values and starts writing an image to flash. -/
  | store
  /-- STORE_DONE (R436): The store image is committed, or the store fails or finds sectors worn. -/
  | storeDone (good : Bool)
  /-- RESTORE_DEFAULTS (R436): RESTORE_DEFAULTS sets every persistent value to default and performs a STORE. -/
  | restoreDefaults
  /-- EPOCH (R429): EPOCH draws a new nonce for the role and resets its LAST_SEQ. -/
  | epoch
  /-- ARP_REQUEST (R425): The device answers ARP for its FMP address. -/
  | arpRequest (ip : BitVec 32)
  /-- ICMP_ECHO (R425): The device answers an ICMP echo request. -/
  | icmpEcho (ip : BitVec 32) (data : List Byte)
  /-- MGMT_SPI_WRITE (R441): A MGMT_SPI WRITE transaction queues an FMP frame. -/
  | mgmtSpiWrite (frame : List Byte)
  /-- MGMT_SPI_STATUS (R441): A MGMT_SPI STATUS transaction returns readiness and clears OVF. -/
  | mgmtSpiStatus
  /-- MGMT_SPI_READ (R441): A MGMT_SPI READ transaction shifts out the next response. -/
  | mgmtSpiRead
  /-- RELEASE (R447): PWR_CMD.RELEASE leaves COMMISSION for the Timeline mode and sets RELEASED. -/
  | release (value : BitVec 32)
  /-- RECOMMISSION (R447): PWR_CMD.RECOMMISSION returns the device to COMMISSION. -/
  | recommission (value : BitVec 32)
  /-- LEAVE_SAFE (R448): PWR_CMD.LEAVE_SAFE, when releasable, returns the mode to UNDER at the next tick. -/
  | leaveSafe (value : BitVec 32)
  /-- STABLE (R455): PWR_CMD.STABLE arms a STABLE entry and optional timed wake, or is refused. -/
  | stable (value : BitVec 32)
  /-- CANCEL (R455): PWR_CMD.CANCEL disarms an armed STABLE entry. -/
  | cancel (value : BitVec 32)
  /-- WAKE_NOW (R458): PWR_CMD.WAKE_NOW makes a wake event at the next tick. -/
  | wakeNow (value : BitVec 32)
  /-- RESET (R447): PWR_CMD.RESET resets the device into BOOT. -/
  | reset (value : BitVec 32)
  /-- REPLAN (R468): PWR_CMD.REPLAN performs an ageing margin re-plan. -/
  | replan (value : BitVec 32)
  /-- PD_OFF_REQ (R454): Setting or clearing PWR_PD_CTL.OFF_REQ switches a power domain off or on, or is refused. -/
  | pdOffReq (d : Fin 35) (value : BitVec 32)
  /-- STABLE_ENTRY (R456): At the armed entry tick the mode becomes STABLE and the sleep sequence starts, or the entry is refused. -/
  | stableEntry
  /-- STABLE_ASLEEP (R456): The entry steps complete and PHASE becomes ASLEEP. -/
  | stableAsleep
  /-- STABLE_WAKE_EVENT (R458): A timed, pin, expiry or command wake event starts the fixed wake sequence. -/
  | stableWakeEvent (cause : Fin 4)
  /-- WAKE_UNGATE (R459): At tick 3,072 of the wake the fabric trees are ungated, WAKE_FAIL being judged. -/
  | wakeUngate
  /-- STABLE_EXIT (R459): 5,530 ticks after the wake event the mode becomes D, or SAFE after a wake failure. -/
  | stableExit
  /-- AVS_LOOP (R465): Every 1 ms each enabled rail's voltage is adjusted from its canary slack codes. -/
  | avsLoop (codes : List (Fin 592 × BitVec 8)) (bad : BitVec 8)
  /-- CANARY_TRIP (R466): A canary reading zero raises its rail by 20 mV at once. -/
  | canaryTrip (canary : Fin 592)
  /-- PMBUS_ALERT (R463): PMBUS_ALERT_N low makes the device read every rail's status. -/
  | pmbusAlert (bad : BitVec 8)
  /-- AVS_RAIL_ENABLE (R464): Setting a rail's EN checks and enables it, or refuses it. -/
  | avsRailEnable (k : Fin 8) (value : BitVec 32) (linear : Bool)
  /-- AGE_MEASURE (R467): Once every powered hour each ring-oscillator pair is measured and AGE_HOURS advances. -/
  | ageMeasure (counts : List (Fin 24 × BitVec 32 × BitVec 32))
  /-- AGE_PERIOD_REPLAN (R468): Every PERIOD powered hours a re-plan of the rail margins takes place. -/
  | agePeriodReplan
  /-- ADD_SLOT (R487): The ADD_SLOT owner command burns a new owner key slot hash. -/
  | addSlot (fail : Bool)
  /-- REVOKE (R480): The REVOKE owner command burns a slot's revoked bit. -/
  | revoke (fail : Bool)
  /-- OWN (R487): The OWN owner command moves the life cycle to OWNED. -/
  | own (fail : Bool)
  /-- DEPLOY (R487): The DEPLOY owner command moves the life cycle to DEPLOYED. -/
  | deploy (fail : Bool)
  /-- RETURN (R487): The RETURN owner command revokes all slots, erases and moves to RETURNED. -/
  | return (fail : Bool)
  /-- SCRAP (R487): The SCRAP owner command erases and moves to SCRAPPED. -/
  | scrap (fail : Bool)
  /-- ARB_SET (R484): The ARB_SET owner command advances an anti-rollback counter. -/
  | arbSet (fail : Bool)
  /-- DEBUG_GRANT (R497): The DEBUG_GRANT owner command sets the debug level under policy LEVELS. -/
  | debugGrant (fail : Bool)
  /-- ATT_KEYGEN (R490): The ATT_KEYGEN owner command starts a new attestation key generation. -/
  | attKeygen (fail : Bool)
  /-- KEYGEN_DONE (R490): The attestation ROOT is computed and burned into OTP. -/
  | keygenDone (fail : Bool)
  /-- BRIDLE_SET (R487): The BRIDLE_SET owner command burns ERASE_ON_UNLOCK. -/
  | bridleSet (fail : Bool)
  /-- FW_STAGE (R482): SEC_CMD_CTL.FW_STAGE verifies and starts a firmware image staged in the scratchpad. -/
  | fwStage
  /-- KEY_LOAD (R489): SEC_KEY_CMD LOAD places a plaintext key in a slot and returns its wrapped blob. -/
  | keyLoad (value : BitVec 32)
  /-- KEY_UNWRAP (R489): SEC_KEY_CMD UNWRAP loads a key from a blob, or sets KEY_UNWRAP_FAIL. -/
  | keyUnwrap (value : BitVec 32)
  /-- KEY_CLEAR (R489): SEC_KEY_CMD CLEAR zeroes a key slot. -/
  | keyClear (value : BitVec 32)
  /-- ATTEST_CHALLENGE (R493): A challenge written to object 0x9020 starts signing an attestation report. -/
  | attestChallenge (challenge : List Byte)
  /-- ATTEST_SIGN_DONE (R491): The attestation signature completes after burning coarse bits and journalling the leaf. -/
  | attestSignDone (fail : Bool)
  /-- ATT_TOKEN_GAIN (R492): Every 1,350 s of powered time the signing bucket gains a token. -/
  | attTokenGain
  /-- TRNG_FAIL (R494): A TRNG health test failure clears TRNG_OK and refuses every consumer. -/
  | trngFail
  /-- SEC_RNG_READ (R494): A normal read of SEC_RNG pops 32 random bits. -/
  | secRngRead (init : Fin 512)
  /-- BIST_LOGIC (R499): SEC_BIST_CMD bit 0 starts full logic BIST in BLANK. -/
  | bistLogic (value : BitVec 32)
  /-- BIST_MEMORY (R499): SEC_BIST_CMD bit 1 starts full memory BIST in BLANK. -/
  | bistMemory (value : BitVec 32)
  /-- BIST_DONE (R499): Full BIST completes, records its result and resets the device. -/
  | bistDone (logic : Bool) (memory : Bool)
  /-- ERASE (R498): The erase mutes transmit, zeroes keys and scratchpad and starts clearing frames. -/
  | erase
  /-- ERASE_DONE (R498): All frames are cleared and the device resets with the grant kept. -/
  | eraseDone (fail : Bool)
  /-- WINDOW_REPORT (R513): A link's per-tick payload report is checked against the widened windows and may detect TX_WINDOW. -/
  | windowReport (link : Fin 16) (ago : Fin 4) (active : Bool)
  /-- TL_UNC_CHECK (R515): Every 1 ms the Outrider compares Timeline uncertainty with OUT_TL_LIMIT. -/
  | tlUncCheck
  /-- LOCKSTEP_MISMATCH (R516): A lockstep mismatch of a Saddle pair holds it in reset and detects its LOCKSTEP class. -/
  | lockstepMismatch (pair : Fin 2)
  /-- CLOCK_CHECK (R517): Each 10 us window the clock monitor counts the monitored clocks against RCO. -/
  | clockCheck (counts : List (Fin 7 × BitVec 16))
  /-- RAIL_TRIP (R518): A rail beyond a trip point after filtering detects VOLTAGE. -/
  | railTrip (rail : Fin 36) (uv : BitVec 32)
  /-- TEMP_READ (R519): Every 100 us the junction sensors are read and TEMP or TEMP_WARN judged. -/
  | tempRead (temps : List (BitVec 16))
  /-- DUAL_TX (R520): ROLE_IN high continuously while the own gate is open for 10 or 20 us detects DUAL_TX. -/
  | dualTx (roleIn : Bool)
  /-- SELF_DISAGREE (R511): Disagreement of the Outrider's two channels sets the asynchronous mute latch. -/
  | selfDisagree
  /-- RCO_EDGE_LOSS (R511): RCO showing no edge for 50 ns sets the asynchronous mute latch. -/
  | rcoEdgeLoss
  /-- SAFE_ENTRY (R507): At the next tick after a SAFE detection the mode becomes SAFE and heartbeats stop. -/
  | safeEntry
  /-- GATE_OPEN (R509): G opens at a tick boundary once every gate condition has held a whole tick. -/
  | gateOpen
  /-- OUT_LATCH_CLEAR (R508): A W1C write of OUT_LATCH clears latched classes, possibly making the safe state releasable. -/
  | outLatchClear (value : BitVec 32)
  /-- BIST_SLOT (R524): At a BIST slot online BIST starts testing the next core or block memory. -/
  | bistSlot
  /-- BIST_CORE_TEST_END (R525): A core test completes, restores its memories and returns the core to dispatch. -/
  | bistCoreTestEnd (fail : Bool)
  /-- BIST_SKIP (R525): A core not ASKING within 1 ms of its slot is skipped. -/
  | bistSkip
  /-- BIST_MEMORY_TEST_END (R526): A block-memory March test completes after 512 ticks and restores the contents. -/
  | bistMemoryTestEnd (fail : Bool)
  /-- WDT_KICK (R538): A write of WDT_KICK reloads the owning pair's watchdog, or sets WDT_BADKICK. -/
  | wdtKick (x : Fin 2) (init : Fin 512) (value : BitVec 32)
  /-- WDT_WARNING (R538): The watchdog count reaching a quarter of TIMEOUT raises line 17. -/
  | wdtWarning (x : Fin 2)
  /-- WDT_EXPIRE (R538): A watchdog reaching zero resets the device with its cause bit. -/
  | wdtExpire (x : Fin 3)
  /-- SYS_UNLOCK (R541): A write of SYS_UNLOCK advances, restarts or closes a pair's unlock window. -/
  | sysUnlock (init : Fin 512) (value : BitVec 32)
  /-- SYS_SWI (R536): A write of SYS_SWI raises the software interrupt line of a pair. -/
  | sysSwi (value : BitVec 32)
  /-- PERI_GATE_WRITE (R543): A protected write of PERI_GATE gates or ungates peripherals, refusing ports in hard use. -/
  | periGateWrite (init : Fin 512) (value : BitVec 32)
  /-- PIN_CFG_WRITE (R548): A write of PIN_CFG changes a service pin's function with break before make. -/
  | pinCfgWrite (n : Fin 48) (value : BitVec 32)
  /-- PIN_SWITCH_MAKE (R548): Two service-I/O cycles after the break the new function is connected. -/
  | pinSwitchMake (n : Fin 48)
  /-- GPIO_DOUT_WRITE (R547): A write of GPIO_DOUT stores output values that reach the pads within 2 cycles. -/
  | gpioDoutWrite (hi : Bool) (value : BitVec 32)
  /-- GPIO_EDGE (R553): An enabled edge on a service pin sets its GPIO_EDGE bit. -/
  | gpioEdge (n : Fin 48) (level : Bool)
  /-- UART_TX_PUSH (R549): A write of UART_DATA pushes a byte into the transmit FIFO. -/
  | uartTxPush (u : Fin 2) (value : BitVec 32)
  /-- UART_RX_POP (R549): A normal read of UART_DATA pops a received byte with its error flags. -/
  | uartRxPop (u : Fin 2) (init : Fin 512)
  /-- UART_RX_BYTE (R549): A UART receives a byte into its FIFO, or drops it. -/
  | uartRxByte (u : Fin 2) (byte : BitVec 8) (perr ferr : Bool)
  /-- UART_TX_BYTE (R549): A UART finishes sending a byte. -/
  | uartTxByte (u : Fin 2)
  /-- SPI1_CMD (R550): A write of SPI1_CMD clocks LEN bytes on the named chip select. -/
  | spi1Cmd (value : BitVec 32)
  /-- SPI1_DONE (R550): An SPI_1 command completes. -/
  | spi1Done (miso : List Byte)
  /-- SPI1_DATA_ACCESS (R550): A write of SPI1_DATA pushes transmit data, and a read pops received data. -/
  | spi1DataAccess (init : Fin 512) (wr : Bool) (value : BitVec 32)
  /-- I2C_CMD (R551): A write of I2C_CMD starts an I2C transaction, waiting behind any hard transaction. -/
  | i2cCmd (port : Fin 2) (value : BitVec 32)
  /-- I2C_DONE (R551): An I2C transaction ends with OK, NACK, ARB, TIMEOUT, PEC or another result. -/
  | i2cDone (port : Fin 2) (result : Fin 5) (data : List Byte)
  /-- FLASH_ERASE (R535): FLASH_CMD ERASE erases a 64 KiB flash sector. -/
  | flashErase (init : Fin 512) (value : BitVec 32)
  /-- FLASH_PROGRAM (R535): FLASH_CMD PROGRAM programs a 256-byte page from FLASH_BUF. -/
  | flashProgram (init : Fin 512) (value : BitVec 32)
  /-- FLASH_DONE (R535): A flash command completes and is verified. -/
  | flashDone (bad : Bool)
  /-- IDCODE (R557): The IDCODE TAP instruction returns the JTAG IDCODE. -/
  | idcode
  /-- SAMPLE_PRELOAD (R557): SAMPLE/PRELOAD samples or preloads the boundary-scan register. -/
  | samplePreload (preload : List (BitVec 12 × Bool))
  /-- EXTEST (R558): EXTEST drives the boundary-scan outputs in BLANK at FULL. -/
  | extest
  /-- DTMCS (R557): DTMCS accesses the RISC-V DTM control and status. -/
  | dtmcs (value : BitVec 32)
  /-- DMI (R560): A DMI access reaches the debug module under the level in force. -/
  | dmi (op : BitVec 2) (addr : BitVec 7) (data : BitVec 32)
  /-- BYPASS (R557): BYPASS selects the one-bit bypass register. -/
  | bypass
  /-- TAP_RESET (R555): TRST_N low or five TMS-high cycles take the TAP to Test-Logic-Reset. -/
  | tapReset
  /-- UNLOCK_REQUEST (R559): Shifting 1 into DBG_AUTH bit 3 requests unlock, starting the erase under ERASE_ON_UNLOCK. -/
  | unlockRequest (value : BitVec 32)
  /-- DBG_SYS_READ (R561): A DBG_SYS READ performs a side-effect-free system read as initiator 474. -/
  | dbgSysRead (addr : BitVec 48)
  /-- DBG_SYS_WRITE (R561): A DBG_SYS WRITE performs a system write as initiator 474 at FULL. -/
  | dbgSysWrite (addr : BitVec 48) (data : BitVec 32)
  /-- HALTREQ (R565): haltreq halts a controller pair, freezing its clock, peripherals and watchdog. -/
  | haltreq (pair : Fin 2)
  /-- RESUMEREQ (R565): resumereq resumes a halted controller pair. -/
  | resumereq (pair : Fin 2)
  /-- ACCESS_REGISTER (R563): An Access Register abstract command reads or writes a halted hart's register. -/
  | accessRegister (command : BitVec 32)
  /-- DBG_CAN_HALT (R566): A write of DBG_CAN_HALT halts a Canter core and seeds rein-back with HALT, or is refused. -/
  | dbgCanHalt (init : Fin 512) (value : BitVec 32)
  /-- DBG_CAN_RESUME (R567): A write of DBG_CAN_RESUME makes a halted core ask without a report. -/
  | dbgCanResume (init : Fin 512) (value : BitVec 32)
  /-- DBG_PAC_SNAP (R569): A request in DBG_PAC_SNAP asks for a delay-list snapshot. -/
  | dbgPacSnap (init : Fin 512) (value : BitVec 32)
  /-- PAC_SNAPSHOT (R569): At the next tick boundary the named delay list is copied into the snapshot buffer. -/
  | pacSnapshot
  /-- MBOX_H2D_PUSH (R572): A debugger write pushes a word into the host-to-device mailbox. -/
  | mboxH2dPush (init : Fin 512) (value : BitVec 32)
  /-- MBOX_H2D_POP (R572): A pair's normal read pops the host-to-device mailbox. -/
  | mboxH2dPop (init : Fin 512)
  /-- MBOX_D2H_PUSH (R572): A pair's write pushes a word into the device-to-host mailbox. -/
  | mboxD2hPush (init : Fin 512) (value : BitVec 32)
  /-- MBOX_D2H_POP (R572): A debug write of 1 pops the device-to-host mailbox. -/
  | mboxD2hPop (init : Fin 512) (value : BitVec 32)
  /-- ILLEGAL (R159): A Canter bundle that is ILLEGAL does not issue, and the core ends the operation with status 0xF2. -/
  | illegal (core : Fin 256)
  /-- CELL_FLIP_FLOP_EDGE (R184): On the active edge of its Stall clock a mux-cell flip-flop takes SRVAL, data or holds under GSR, SR and CE. -/
  | cellFlipFlopEdge (cell : Fin 9437184) (late : Bool)
  /-- BM_PORT_ACCESS (R207): At an active clock edge with EN set, a block-memory port reads or writes, with collision, ECC, BM_FLIP and BIST effects. -/
  | bmPortAccess (m : Fin 9216) (a : Bool) (b : Bool)
  /-- SLICE_CLOCK_EDGE (R214): Each clock cycle with CE set, an arithmetic slice updates its pipeline and accumulator, pulsing OVF or CLAMP. -/
  | sliceClockEdge (n : Fin 13824) (south : BitVec 24)
  /-- FSYN_UNLOCK (R60): A fractional synthesiser loses lock to CKT, clearing FSYN_CTL.LOCK and setting FSYN_UNLOCK. -/
  | fsynUnlock (n : Fin 24)
  /-- PLL_UNLOCK (R390): A lane-group PLL loses lock, which sets PLL_UNLOCK and clears LR_OCT_STAT or CV_QUAD_STAT lock. -/
  | pllUnlock (group : Fin 24)
  /-- EMB_LOCK (R377): A JESD204C receiver gains sync-header and EMB lock on every lane, and CR_VALID rises. -/
  | embLock (q : Fin 16)
  /-- PRBS_ERROR (R388): In PRBS check mode a received bit error advances the lane's PRBS_ERR count and sets PRBS_ERR. -/
  | prbsError (lane : Fin 128)
  /-- AUTO_JOIN (R417): With AUTO_JOIN set, the device issues JOIN on becoming SECONDARY or UNSYNCED, at most once per second. -/
  | autoJoin
  /-- TRNG_OK (R494): The TRNG start-up or health tests pass, which sets TRNG_OK and lets the consumers draw again. -/
  | trngOk
  /-- BUCKET_RECORD (R492): Every powered hour the security block appends a journal record that holds the signing-bucket level. -/
  | bucketRecord
  /-- MISSING_EDGE_TRIP (R517): A monitored clock showing no edge for four nominal periods detects CLOCK at once. -/
  | missingEdgeTrip (clk : Fin 7)
  /-- BACKUP_DOMAIN_POWERED (R74): The first powering of the backup domain by VBAT counts as a loss that zeroes the store and sets BOR. -/
  | backupDomainPowered
  /-- XT_RESTART (R74): The 32.768 kHz calendar crystal starts running again and CAL_STAT.XT_OK is set. -/
  | xtRestart
  /-- POR_N_LOW (R579): POR_N driven low holds the device in reset ahead of power-down. -/
  | porNLow
  deriving DecidableEq, Repr

end Sys2Proof
end

