-- ==== Sys2Proof/Config.lean ====
section
/-! DEFINITION. What an implementation fixes and the values the spec leaves open. Every constant here is opaque: no proof
can see a value of it, so a theorem about the machine holds whatever it is (log entries 1 and 6). -/

namespace Sys2Proof

/-- The `n`-th value the spec leaves open, as the step meets them (log entry 1). The step reads it at the counter
`State.freeCtr`, which it advances. -/
opaque Config.freeValue : Nat → BitVec 64

/-- The level of a net that the fabric does not drive from its own state, at the n-th value taken (log entry 1). -/
opaque Config.level : Nat → Nat → Bool

/-- SHAKE256 output of `n` bytes over the bytes given (an outside standard the spec only names: R235, R236, R481). -/
opaque Config.shake256 : List (BitVec 8) → Nat → List (BitVec 8)

/-- XMSS verification of (public key, message, signature) under the parameters of R237 (outside standard). -/
opaque Config.xmssVerify : List (BitVec 8) → List (BitVec 8) → List (BitVec 8) → Bool

/-- The ROOT of the XMSS key of (SK_SEED, SK_PRF and PUB_SEED) (R490; outside standard). -/
opaque Config.xmssRoot : List (BitVec 8) → List (BitVec 8)

/-- The XMSS signature of (key material, leaf, message) (R491; outside standard). -/
opaque Config.xmssSign : List (BitVec 8) → Nat → List (BitVec 8) → List (BitVec 8)

/-- The AES-256-GCM tag of (key, nonce, associated data, text) that FMP, the Relay and key wrapping use (outside standard). -/
opaque Config.gcmTag : List (BitVec 8) → List (BitVec 8) → List (BitVec 8) → List (BitVec 8) → List (BitVec 8)

/-- The AES-256-GCM encryption of (key, nonce, text); decryption is the same keystream (outside standard). -/
opaque Config.gcmCrypt : List (BitVec 8) → List (BitVec 8) → List (BitVec 8) → List (BitVec 8)

/-- KMAC256 of (key, data, customisation number) to `n` bytes, for key derivation and frame tags (outside standard). -/
opaque Config.kmac : List (BitVec 8) → List (BitVec 8) → Nat → Nat → List (BitVec 8)

/-- AES-256-XTS encryption of (K1 and K2, tweak, block bytes) (outside standard). -/
opaque Config.xtsEncrypt : List (BitVec 8) → Nat → List (BitVec 8) → List (BitVec 8)

/-- AES-256-XTS decryption of (K1 and K2, tweak, block bytes) (outside standard). -/
opaque Config.xtsDecrypt : List (BitVec 8) → Nat → List (BitVec 8) → List (BitVec 8)

/-- The first 8 bytes of GHASH over the content ⊕ AES-256 of the block Q (R338), of (key, Q, content) (outside standards). -/
opaque Config.objTag : List (BitVec 8) → List (BitVec 8) → List (BitVec 8) → BitVec 64

/-- The frequency in Hz of the board's CV_REFCLK k (Table LNE-2 gives 100…400 MHz). -/
opaque Config.cvRefHz : Nat → Nat

/-- The fields of the debug module that RISC-V leaves to the implementation (R560): datacount, impebreak, hartinfo, the idle cycles of
DTMCS, and which CSRs a pair has beside dcsr and dpc. -/
opaque Config.dmDataCount : BitVec 4
opaque Config.dmImpebreak : Bool
opaque Config.dmHartinfo : BitVec 32
opaque Config.dtmIdle : BitVec 3
opaque Config.csrThere : Nat → Bool

/-- The bytes of the boot ROM, which the spec does not state. -/
opaque Config.bootRom : Nat → BitVec 8

/-- The boot ROM's version that object 0x1005 sub 1 reads, which the spec does not state. -/
opaque Config.romVersion : BitVec 32

/-- The bytes of the loader's retained-manifest memory that a stream of n chunks takes (R254), which the spec does not state. -/
opaque Config.retainedBytes : Nat → Nat

end Sys2Proof
end

