-- ==== Sys2Proof/Machine/RegTable.lean ====
section
/-! DEFINITION. The register maps of the fifteen control blocks, row for row (Tables TLN-11, HOC-4, PAC-7, RBK-8, CAN-12, BMC-7,
LDR-13, FAR-4, NOC-8, SDC-4, IMP-5, LNE-11, LNE-13, LNE-17, RLY-8, ODP-8, MOD-9, SEC-10, OUT-6, SVC-6, SVC-8, DBG-3), and the
address of every register. -/

namespace Sys2Proof.Machine

/-- System controller block, base 0x4000_0000: its registers by offset (R442, R552). -/
def regRows0 : List RegRow := [
  ⟨"FMP_CTL", 0x300000, [], 1, .rw, 0x00000003, 0x00000007, 0xFFFF⟩,
  ⟨"FMP_STAT", 0x300004, [], 1, .ro, 0x00000000, 0x00000000, 0xFFFF⟩,
  ⟨"FMP_REQ_CNT", 0x300008, [], 1, .ro, 0x00000000, 0x00000000, 0xFFFF⟩,
  ⟨"FMP_AUTH_CNT", 0x30000C, [], 1, .ro, 0x00000000, 0x00000000, 0xFFFF⟩,
  ⟨"FMP_ABORT_CNT", 0x300010, [], 1, .ro, 0x00000000, 0x00000000, 0xFFFF⟩,
  ⟨"FMP_DROP_CNT", 0x300014, [], 1, .ro, 0x00000000, 0x00000000, 0xFFFF⟩,
  ⟨"FMP_STORE_GEN", 0x300018, [], 1, .ro, 0x00000000, 0x00000000, 0xFFFF⟩,
  ⟨"FMP_SECT_CNT_s", 0x300020, [(0x4, 8)], 1, .ro, 0x00000000, 0x00000000, 0xFFFF⟩,
  ⟨"IRQ_PEND", 0x000000, [], 1, .ro, 0x00000000, 0x00000000, 0xFFFF⟩,
  ⟨"IRQ_EN_A", 0x000004, [], 1, .rw, 0x00000000, 0xFFFFFFFF, 0xFFFF⟩,
  ⟨"IRQ_EN_B", 0x000008, [], 1, .rw, 0x00000000, 0xFFFFFFFF, 0xFFFF⟩,
  ⟨"SYS_SWI", 0x00000C, [], 1, .wo, 0x00000000, 0x00000000, 0xFFFF⟩,
  ⟨"SYS_SWI_STAT", 0x000010, [], 1, .w1c, 0x00000000, 0x00000003, 0xFFFF⟩,
  ⟨"SYS_UNLOCK", 0x000020, [], 1, .wo, 0x00000000, 0x00000000, 0xFFFF⟩,
  ⟨"WDT_CFG_x", 0x010000, [(0x10, 2)], 1, .rw, 0x801E8480, 0x80FFFFFF, 0xFFFF⟩,
  ⟨"WDT_KICK_x", 0x010004, [(0x10, 2)], 1, .wo, 0x00000000, 0x00000000, 0xFFFF⟩,
  ⟨"WDT_COUNT_x", 0x010008, [(0x10, 2)], 1, .ro, 0x001E8480, 0x00000000, 0xFFFF⟩,
  ⟨"FLASH_ADDR", 0x020000, [], 1, .rw, 0x00000000, 0x00FFFFFF, 0xFFFF⟩,
  ⟨"FLASH_CMD", 0x020004, [], 1, .wo, 0x00000000, 0x00000000, 0xFFFF⟩,
  ⟨"FLASH_STAT", 0x020008, [], 1, .ro, 0x00000000, 0x00000000, 0xFFFF⟩,
  ⟨"FLASH_BUF", 0x021000, [(0x4, 64)], 1, .rw, 0x00000000, 0xFFFFFFFF, 0xFFFF⟩,
  ⟨"SRAM_SBE_CNT", 0x030000, [], 1, .ro, 0x00000000, 0x00000000, 0xFFFF⟩,
  ⟨"SRAM_DBE_CNT", 0x030004, [], 1, .ro, 0x00000000, 0x00000000, 0xFFFF⟩]

/-- Timing core and calendar block, part 1 of its register map. -/
def regRows1a : List RegRow := [
  ⟨"TL_STATE", 0x000000, [], 1, .ro, 0x00000000, 0x00000000, 0xFFFF⟩,
  ⟨"TL_CMD", 0x000004, [], 1, .wo, 0x00000000, 0x00000000, 0xFFFF⟩,
  ⟨"TL_SNAP_LO", 0x000010, [], 1, .ro, 0x00000000, 0x00000000, 0xFFFF⟩,
  ⟨"TL_SNAP_MID", 0x000014, [], 1, .ro, 0x00000000, 0x00000000, 0xFFFF⟩,
  ⟨"TL_SNAP_HI", 0x000018, [], 1, .ro, 0x00000000, 0x00000000, 0xFFFF⟩,
  ⟨"TL_SNAP_FPOS", 0x00001C, [], 1, .ro, 0x00000000, 0x00000000, 0xFFFF⟩,
  ⟨"TL_NUMER", 0x000020, [], 1, .rw, 0x00000001, 0x00000007, 0xFFFF⟩,
  ⟨"TL_STEP_FRAC", 0x000030, [], 1, .rw, 0x00000000, 0x0000FFFF, 0xFFFF⟩,
  ⟨"TL_STEP_LO", 0x000034, [], 1, .rw, 0x00000000, 0xFFFFFFFF, 0xFFFF⟩,
  ⟨"TL_STEP_HI", 0x000038, [], 1, .rw, 0x00000000, 0xFFFFFFFF, 0xFFFF⟩,
  ⟨"TL_LAST_CORR", 0x00003C, [], 1, .ro, 0x00000000, 0x00000000, 0xFFFF⟩,
  ⟨"TL_LOOP_CFG", 0x000040, [], 1, .rw, 0x00000042, 0x00000077, 0xFFFF⟩,
  ⟨"TL_LOCK_CFG", 0x000044, [], 1, .rw, 0x3C100820, 0xFFFFFFFF, 0xFFFF⟩,
  ⟨"TL_PHASE_ERR", 0x000048, [], 1, .ro, 0x00000000, 0x00000000, 0xFFFF⟩,
  ⟨"TL_FREQ_EST", 0x00004C, [], 1, .ro, 0x00000000, 0x00000000, 0xFFFF⟩,
  ⟨"TL_OSC_CFG", 0x000050, [], 1, .rw, 0x00000000, 0x00000003, 0xFFFF⟩,
  ⟨"TL_OSC_A_HZ", 0x000054, [], 1, .rwm, 0x00000000, 0xFFFFFFFF, 0x36⟩,
  ⟨"TL_OSC_B_HZ", 0x000058, [], 1, .rwm, 0x00000000, 0xFFFFFFFF, 0x36⟩,
  ⟨"TL_OSC_STAT", 0x00005C, [], 1, .ro, 0x00000000, 0x00000000, 0xFFFF⟩,
  ⟨"TL_PTP_MEAS", 0x000060, [], 1, .wo, 0x00000000, 0x00000000, 0xFFFF⟩,
  ⟨"TL_PTP_S_LO", 0x000064, [], 1, .wo, 0x00000000, 0x00000000, 0xFFFF⟩,
  ⟨"TL_PTP_S_HI", 0x000068, [], 1, .wo, 0x00000000, 0x00000000, 0xFFFF⟩,
  ⟨"TL_TOD_CFG", 0x000070, [], 1, .rw, 0x00000004, 0x00000037, 0xFFFF⟩,
  ⟨"TL_TOD_S_LO", 0x000074, [], 1, .ro, 0x00000000, 0x00000000, 0xFFFF⟩,
  ⟨"TL_TOD_S_HI", 0x000078, [], 1, .ro, 0x00000000, 0x00000000, 0xFFFF⟩,
  ⟨"TL_REF_CFG_r", 0x000100, [(0x10, 5)], 1, .rw, 0x08000300, 0xFF3F0FF3, 0xFFFF⟩,
  ⟨"TL_REF_DLY_r", 0x000104, [(0x10, 5)], 1, .rw, 0x00000000, 0xFFFFFFFF, 0xFFFF⟩,
  ⟨"TL_REF_STAT_r", 0x000108, [(0x10, 5)], 1, .ro, 0x00000000, 0x00000000, 0xFFFF⟩,
  ⟨"TL_REF_OFS_r", 0x00010C, [(0x10, 5)], 1, .ro, 0x00000000, 0x00000000, 0xFFFF⟩,
  ⟨"PPS_OUT_CFG", 0x010000, [], 1, .rw, 0x00000001, 0x00000003, 0xFFFF⟩,
  ⟨"PPS_OUT_OFS", 0x010004, [], 1, .rw, 0x00000000, 0x7FFFFFFF, 0xFFFF⟩,
  ⟨"PPS_OUT_WIDTH", 0x010008, [], 1, .rw, 0x0BB80000, 0x7FFFFFFF, 0xFFFF⟩,
  ⟨"TO_CTL_n", 0x020000, [(0x40, 8)], 1, .rw, 0x00000000, 0x00000007, 0xFFFF⟩,
  ⟨"TO_EDGE_S_n", 0x020004, [(0x40, 8)], 1, .rw, 0x00000000, 0xFFFFFFFF, 0xFFFF⟩,
  ⟨"TO_EDGE_T_n", 0x020008, [(0x40, 8)], 1, .wo, 0x00000000, 0x00000000, 0xFFFF⟩,
  ⟨"TO_PERIOD_n", 0x02000C, [(0x40, 8)], 1, .rw, 0x00000000, 0xFFFFFFFF, 0xFFFF⟩,
  ⟨"TO_WIDTH_n", 0x020010, [(0x40, 8)], 1, .rw, 0x00000000, 0xFFFFFFFF, 0xFFFF⟩,
  ⟨"TO_STAT_n", 0x020014, [(0x40, 8)], 1, .ro, 0x00000000, 0x00000000, 0xFFFF⟩,
  ⟨"TSI_CFG_n", 0x030000, [(0x40, 10)], 1, .rw, 0x00000000, 0x00000007, 0xFFFF⟩,
  ⟨"TSI_LO_n", 0x030004, [(0x40, 10)], 1, .ro, 0x00000000, 0x00000000, 0xFFFF⟩]

/-- Timing core and calendar block, part 2 of its register map. -/
def regRows1b : List RegRow := [
  ⟨"TSI_MID_n", 0x030008, [(0x40, 10)], 1, .ro, 0x00000000, 0x00000000, 0xFFFF⟩,
  ⟨"TSI_HI_n", 0x03000C, [(0x40, 10)], 1, .ro, 0x00000000, 0x00000000, 0xFFFF⟩,
  ⟨"TSI_STAT_n", 0x030010, [(0x40, 10)], 1, .ro, 0x00000001, 0x00000000, 0xFFFF⟩,
  ⟨"TSI_DROP_n", 0x030014, [(0x40, 10)], 1, .ro, 0x00000000, 0x00000000, 0xFFFF⟩,
  ⟨"FSYN_CTL_n", 0x040000, [(0x20, 24)], 1, .rw, 0x00000000, 0x00000001, 0xFFFF⟩,
  ⟨"FSYN_NUM_n", 0x040004, [(0x20, 24)], 1, .rw, 0x00000000, 0x0000FFFF, 0xFFFF⟩,
  ⟨"FSYN_DEN_n", 0x040008, [(0x20, 24)], 1, .rw, 0x00000000, 0x000FFFFF, 0xFFFF⟩,
  ⟨"FSYN_ANCHOR_S_n", 0x04000C, [(0x20, 24)], 1, .rw, 0x00000000, 0xFFFFFFFF, 0xFFFF⟩,
  ⟨"FSYN_ANCHOR_T_n", 0x040010, [(0x20, 24)], 1, .rw, 0x00000000, 0x7FFFFFFF, 0xFFFF⟩,
  ⟨"HO_CTL", 0x100000, [], 1, .rw, 0x00000007, 0x000000F7, 0xFFFF⟩,
  ⟨"HO_CMD", 0x100004, [], 1, .wo, 0x00000000, 0x00000000, 0xFFFF⟩,
  ⟨"HO_STAT", 0x100008, [], 1, .ro, 0x00000000, 0x00000000, 0xFFFF⟩,
  ⟨"HO_LIMIT", 0x10000C, [], 1, .rw, 0x000872B0, 0xFFFFFFFF, 0xFFFF⟩,
  ⟨"HO_REF_UNC", 0x100010, [], 1, .rw, 0x00003AFB, 0xFFFFFFFF, 0xFFFF⟩,
  ⟨"HO_UNC", 0x100014, [], 1, .ro, 0x00000000, 0x00000000, 0xFFFF⟩,
  ⟨"HO_ELAPSED", 0x100018, [], 1, .ro, 0x00000000, 0x00000000, 0xFFFF⟩,
  ⟨"HO_PREDICT", 0x10001C, [], 1, .ro, 0x00000000, 0x00000000, 0xFFFF⟩,
  ⟨"HO_TSENS_CFG", 0x100020, [], 1, .rw, 0x00000048, 0x0001FFFF, 0xFFFF⟩,
  ⟨"HO_TEMP", 0x100024, [], 1, .ro, 0x00000000, 0x00000000, 0xFFFF⟩,
  ⟨"HO_MODEL_k_j", 0x100100, [(0x40, 2), (0x4, 16)], 1, .ro, 0x00000000, 0x00000000, 0xFFFF⟩,
  ⟨"CAL_CTL", 0x110000, [], 1, .rw, 0x00000001, 0x00000001, 0xFFFF⟩,
  ⟨"CAL_STAT", 0x110004, [], 1, .ro, 0x00000000, 0x00000000, 0xFFFF⟩,
  ⟨"CAL_S_LO", 0x110008, [], 1, .ro, 0x00000000, 0x00000000, 0xFFFF⟩,
  ⟨"CAL_S_HI", 0x11000C, [], 1, .ro, 0x00000000, 0x00000000, 0xFFFF⟩,
  ⟨"CAL_TRIM", 0x110010, [], 1, .rw, 0x00000000, 0x0000FFFF, 0xFFFF⟩,
  ⟨"CAL_UTC_OFS", 0x110014, [], 1, .ro, 0x00000000, 0x00000000, 0xFFFF⟩,
  ⟨"CAL_SET_LO", 0x110018, [], 1, .rwm, 0x00000000, 0xFFFFFFFF, 0x34⟩,
  ⟨"CAL_SET_HI", 0x11001C, [], 1, .rwm, 0x00000000, 0x0000FFFF, 0x34⟩,
  ⟨"CAL_LEAP_LO", 0x110020, [], 1, .wo, 0x00000000, 0x00000000, 0xFFFF⟩,
  ⟨"CAL_LEAP_HI", 0x110024, [], 1, .wo, 0x00000000, 0x00000000, 0xFFFF⟩,
  ⟨"TLOG_STAT", 0x110030, [], 1, .ro, 0x00000000, 0x00000000, 0xFFFF⟩,
  ⟨"BBK_STORE", 0x180000, [(0x4, 128)], 1, .rw, 0x00000000, 0xFFFFFFFF, 0xFFFF⟩,
  ⟨"BBK_STORE", 0x180200, [(0x4, 256)], 1, .ro, 0x00000000, 0x00000000, 0xFFFF⟩]

/-- Timing core and calendar block, base 0x4100_0000: its registers by offset (R59, R81). -/
def regRows1 : List RegRow := regRows1a ++ regRows1b

/-- Pacer block, part 1 of its register map. -/
def regRows2a : List RegRow := [
  ⟨"PAC_CTL", 0x000000, [], 1, .rw, 0x00000000, 0x00000003, 0xFFFF⟩,
  ⟨"PAC_STAT", 0x000004, [], 1, .ro, 0x00000000, 0x00000000, 0xFFFF⟩,
  ⟨"PAC_NOW", 0x000008, [], 1, .ro, 0x00000000, 0x00000000, 0xFFFF⟩,
  ⟨"PAC_MIN_LEAD", 0x00000C, [], 1, .rw, 0x00000010, 0x0000FFFF, 0xFFFF⟩,
  ⟨"PAC_TOK_BASE", 0x000010, [], 1, .rw, 0x00000000, 0x03FC0000, 0xFFFF⟩,
  ⟨"PAC_PREEMPT_SLACK", 0x000014, [], 1, .rw, 0x00000040, 0x0000FFFF, 0xFFFF⟩,
  ⟨"PAC_ADM_LAST", 0x000018, [], 1, .ro, 0x00000000, 0x00000000, 0xFFFF⟩,
  ⟨"PAC_ADMIT_n", 0x000100, [(0x4, 16)], 1, .wo, 0x00000000, 0x00000000, 0xFFFF⟩,
  ⟨"PAC_REFUSE_CNT_k", 0x000204, [(0x4, 12)], 1, .ro, 0x00000000, 0x00000000, 0xFFFF⟩,
  ⟨"PAC_LIST_FILL_l", 0x000300, [(0x4, 8)], 1, .ro, 0x00000000, 0x00000000, 0xFFFF⟩,
  ⟨"PAC_GRP_W_g", 0x000400, [(0x10, 16)], 1, .rw, 0x01010101, 0xFFFFFFFF, 0xFFFF⟩,
  ⟨"PAC_GRP_LIM_g", 0x000404, [(0x10, 16)], 1, .rw, 0x000FFFFF, 0x800FFFFF, 0xFFFF⟩,
  ⟨"PAC_GRP_OUT_g", 0x000408, [(0x10, 16)], 1, .ro, 0x00000000, 0x00000000, 0xFFFF⟩,
  ⟨"PAC_GRP_DISP_g", 0x00040C, [(0x10, 16)], 1, .ro, 0x00000000, 0x00000000, 0xFFFF⟩,
  ⟨"PAC_DISP_CNT_c", 0x000500, [(0x4, 4)], 1, .ro, 0x00000000, 0x00000000, 0xFFFF⟩,
  ⟨"PAC_REL_CNT", 0x000510, [], 1, .ro, 0x00000000, 0x00000000, 0xFFFF⟩,
  ⟨"PAC_REL_SLIP_CNT", 0x000514, [], 1, .ro, 0x00000000, 0x00000000, 0xFFFF⟩,
  ⟨"PAC_START_SLIP_CNT", 0x000518, [], 1, .ro, 0x00000000, 0x00000000, 0xFFFF⟩,
  ⟨"PAC_LATE_DONE_CNT", 0x00051C, [], 1, .ro, 0x00000000, 0x00000000, 0xFFFF⟩,
  ⟨"PAC_TIMED_DROP_CNT", 0x000520, [], 1, .ro, 0x00000000, 0x00000000, 0xFFFF⟩,
  ⟨"PAC_FLOW_CFG_f", 0x010000, [(0x8, 1024)], 1, .rw, 0x00000000, 0xFFFF0003, 0xFFFF⟩,
  ⟨"PAC_FLOW_STAT_f", 0x010004, [(0x8, 1024)], 1, .ro, 0x00000000, 0x00000000, 0xFFFF⟩,
  ⟨"PAC_HP_CFG_p", 0x020000, [(0x4, 512)], 1, .rw, 0x00000000, 0x00000007, 0xFFFF⟩,
  ⟨"PAC_GRAPH_CFG_q", 0x030000, [(0x4, 256)], 1, .rw, 0x00000000, 0x1FFFFFF1, 0xFFFF⟩,
  ⟨"PAC_TOK_STAT_i", 0x040000, [(0x4, 16384)], 1, .ro, 0x00000000, 0x00000000, 0xFFFF⟩,
  ⟨"RB_CFG", 0x100000, [], 1, .rw, 0x00000003, 0x0000000F, 0xFFFF⟩,
  ⟨"RB_TLC_GROUPS", 0x100004, [], 1, .rw, 0x0000FFFF, 0x0000FFFF, 0xFFFF⟩,
  ⟨"RB_STAT", 0x100008, [], 1, .ro, 0x00000000, 0x00000000, 0xFFFF⟩,
  ⟨"RB_TOK_CLR", 0x10000C, [], 1, .wo, 0x00000000, 0x00000000, 0xFFFF⟩,
  ⟨"RB_TEST", 0x100010, [], 1, .rwm, 0x00000000, 0x80003FFF, 0xD0⟩,
  ⟨"RB_TRIG_CNT_k", 0x100024, [(0x4, 5)], 1, .ro, 0x00000000, 0x00000000, 0xFFFF⟩,
  ⟨"RB_TAINT_CNT", 0x100040, [], 1, .ro, 0x00000000, 0x00000000, 0xFFFF⟩,
  ⟨"RB_REDO_CNT", 0x100044, [], 1, .ro, 0x00000000, 0x00000000, 0xFFFF⟩,
  ⟨"RB_LOSS_CNT", 0x100048, [], 1, .ro, 0x00000000, 0x00000000, 0xFFFF⟩,
  ⟨"RB_WHOLESALE_CNT", 0x10004C, [], 1, .ro, 0x00000000, 0x00000000, 0xFFFF⟩,
  ⟨"RB_POST_CNT", 0x100050, [], 1, .ro, 0x00000000, 0x00000000, 0xFFFF⟩,
  ⟨"RB_UNATTR_CNT", 0x100054, [], 1, .ro, 0x00000000, 0x00000000, 0xFFFF⟩,
  ⟨"RB_POST_LO", 0x100060, [], 1, .ro, 0x00000000, 0x00000000, 0xFFFF⟩,
  ⟨"RB_POST_HI", 0x100064, [], 1, .ro, 0x00000000, 0x00000000, 0xFFFF⟩,
  ⟨"RB_LOSS_LO", 0x100070, [], 1, .ro, 0x00000000, 0x00000000, 0xFFFF⟩]

/-- Pacer block, part 2 of its register map. -/
def regRows2b : List RegRow := [
  ⟨"RB_LOSS_HI", 0x100074, [], 1, .ro, 0x00000000, 0x00000000, 0xFFFF⟩,
  ⟨"RB_LOSS_STAT", 0x100078, [], 1, .ro, 0x00000001, 0x00000000, 0xFFFF⟩,
  ⟨"RB_REC_n", 0x110000, [(0x10, 64)], 4, .ro, 0x00000000, 0x00000000, 0xFFFF⟩]

/-- Pacer block, base 0x4200_0000: its registers by offset (R122, R147). -/
def regRows2 : List RegRow := regRows2a ++ regRows2b

/-- NoC and scratchpad block, part 1 of its register map. -/
def regRows3a : List RegRow := [
  ⟨"NOC_CTL", 0x000000, [], 1, .rw, 0x00000064, 0x0000FFFF, 0xFFFF⟩,
  ⟨"NOC_STAT", 0x000004, [], 1, .ro, 0x00000000, 0x00000000, 0xFFFF⟩,
  ⟨"NOC_DECODE_CNT", 0x000010, [], 1, .ro, 0x00000000, 0x00000000, 0xFFFF⟩,
  ⟨"NOC_E2E_CNT", 0x000014, [], 1, .ro, 0x00000000, 0x00000000, 0xFFFF⟩,
  ⟨"NOC_LAST_ERR", 0x000018, [], 1, .ro, 0x00000000, 0x00000000, 0xFFFF⟩,
  ⟨"NOC_LAST_ADDR", 0x00001C, [], 1, .ro, 0x00000000, 0x00000000, 0xFFFF⟩,
  ⟨"NOC_LINK_RETRY_r", 0x001000, [(0x4, 168)], 1, .ro, 0x00000000, 0x00000000, 0xFFFF⟩,
  ⟨"NOC_INIT_CFG_i", 0x010000, [(0x4, 400)], 1, .rw, 0x00000000, 0x0000FE7F, 0xFFFF⟩,
  ⟨"NOC_INIT_CFG_i", 0x010640, [(0x4, 32)], 1, .rw, 0x00000000, 0x0000FFFF, 0xFFFF⟩,
  ⟨"NOC_INIT_CFG_i", 0x0106C0, [(0x4, 1)], 1, .rw, 0x00000080, 0x0000FE7F, 0xFFFF⟩,
  ⟨"NOC_INIT_CFG_i", 0x0106C4, [(0x4, 3)], 1, .rw, 0x00000000, 0x0000FE7F, 0xFFFF⟩,
  ⟨"NOC_INIT_CFG_i", 0x0106D0, [(0x4, 2)], 1, .rw, 0x00000080, 0x0000FE7F, 0xFFFF⟩,
  ⟨"NOC_INIT_CFG_i", 0x0106D8, [(0x4, 2)], 1, .rw, 0x00000000, 0x0000FE7F, 0xFFFF⟩,
  ⟨"NOC_INIT_CFG_i", 0x0106E0, [(0x4, 1)], 1, .rw, 0x0000017F, 0x0000FE7F, 0xFFFF⟩,
  ⟨"NOC_INIT_CFG_i", 0x0106E4, [(0x4, 2)], 1, .rw, 0x0000017E, 0x0000FE7F, 0xFFFF⟩,
  ⟨"NOC_INIT_CFG_i", 0x0106EC, [(0x4, 1)], 1, .rw, 0x00000000, 0x0000FE7F, 0xFFFF⟩,
  ⟨"NOC_INIT_CFG_i", 0x0106F0, [(0x4, 1)], 1, .rw, 0x00000100, 0x0000FFFF, 0xFFFF⟩,
  ⟨"NOC_INIT_CFG_i", 0x0106F4, [(0x4, 3)], 1, .rw, 0x00000000, 0x0000FE7F, 0xFFFF⟩,
  ⟨"NOC_INIT_CFG_i", 0x010700, [(0x4, 8)], 1, .rw, 0x00000000, 0x0000FFFF, 0xFFFF⟩,
  ⟨"NOC_INIT_CFG_i", 0x010720, [(0x4, 16)], 1, .rw, 0x00000000, 0x0000FE7F, 0xFFFF⟩,
  ⟨"NOC_INIT_CFG_i", 0x010760, [(0x4, 1)], 1, .rw, 0x00000180, 0x0000FE7F, 0xFFFF⟩,
  ⟨"NOC_INIT_CFG_i", 0x010764, [(0x4, 1)], 1, .rw, 0x0000017D, 0x0000FE7F, 0xFFFF⟩,
  ⟨"NOC_INIT_CFG_i", 0x010768, [(0x4, 1)], 1, .rw, 0x00000080, 0x0000FE7F, 0xFFFF⟩,
  ⟨"NOC_INIT_CFG_i", 0x01076C, [(0x4, 37)], 1, .rw, 0x00000000, 0x0000FE7F, 0xFFFF⟩,
  ⟨"NOC_CURB_RATE_n", 0x020000, [(0x10, 61)], 1, .rw, 0x00000100, 0x8000FFFF, 0xFFFF⟩,
  ⟨"NOC_CURB_RATE_n", 0x0203D0, [(0x10, 3)], 1, .rw, 0x80000038, 0x8000FFFF, 0xFFFF⟩,
  ⟨"NOC_CURB_BURST_n", 0x020004, [(0x10, 61)], 1, .rw, 0x00000100, 0x00FFFFFF, 0xFFFF⟩,
  ⟨"NOC_CURB_BURST_n", 0x0203D4, [(0x10, 3)], 1, .rw, 0x00001000, 0x00FFFFFF, 0xFFFF⟩,
  ⟨"NOC_CURB_LEVEL_n", 0x020008, [(0x10, 64)], 1, .ro, 0x00000100, 0x00000000, 0xFFFF⟩,
  ⟨"NOC_CURB_REFUSE_n", 0x02000C, [(0x10, 64)], 1, .ro, 0x00000000, 0x00000000, 0xFFFF⟩,
  ⟨"NOC_MON_CFG_m", 0x030000, [(0x20, 32)], 1, .rw, 0x00000000, 0x0001FFFF, 0xFFFF⟩,
  ⟨"NOC_MON_BYTES_m", 0x030004, [(0x20, 32)], 2, .ro, 0x00000000, 0x00000000, 0xFFFF⟩,
  ⟨"NOC_MON_REQ_m", 0x03000C, [(0x20, 32)], 1, .ro, 0x00000000, 0x00000000, 0xFFFF⟩,
  ⟨"NOC_MON_REF_m", 0x030010, [(0x20, 32)], 1, .ro, 0x00000000, 0x00000000, 0xFFFF⟩,
  ⟨"NOC_MON_LSUM_m", 0x030014, [(0x20, 32)], 2, .ro, 0x00000000, 0x00000000, 0xFFFF⟩,
  ⟨"NOC_MON_LMAX_m", 0x03001C, [(0x20, 32)], 1, .ro, 0x00000000, 0x00000000, 0xFFFF⟩,
  ⟨"NOC_MON_CLR", 0x031000, [], 1, .wo, 0x00000000, 0x00000000, 0xFFFF⟩,
  ⟨"SP_BANK_CFG_b", 0x080000, [(0x10, 64)], 1, .rw, 0x00000000, 0x00000033, 0xFFFF⟩,
  ⟨"SP_BANK_STAT_b", 0x080004, [(0x10, 64)], 1, .ro, 0x00000000, 0x00000000, 0xFFFF⟩,
  ⟨"SP_BANK_SBE_b", 0x080008, [(0x10, 64)], 1, .ro, 0x00000000, 0x00000000, 0xFFFF⟩]

/-- NoC and scratchpad block, part 2 of its register map. -/
def regRows3b : List RegRow := [
  ⟨"SP_BANK_DBE_b", 0x08000C, [(0x10, 64)], 1, .ro, 0x00000000, 0x00000000, 0xFFFF⟩,
  ⟨"SP_FLIP_SEL", 0x090000, [], 1, .rw, 0x00000000, 0x0000003F, 0xFFFF⟩,
  ⟨"SP_FLIP_0", 0x090004, [], 1, .rw, 0x00000000, 0xFFFFFFFF, 0xFFFF⟩,
  ⟨"SP_FLIP_1", 0x090008, [], 1, .rw, 0x00000000, 0xFFFFFFFF, 0xFFFF⟩,
  ⟨"SP_FLIP_2", 0x09000C, [], 1, .rwm, 0x00000000, 0x800000FF, 0xD0⟩]

/-- NoC and scratchpad block, base 0x4300_0000: its registers by offset (R303). -/
def regRows3 : List RegRow := regRows3a ++ regRows3b

/-- Configuration and Farrier block, part 1 of its register map. -/
def regRows4a : List RegRow := [
  ⟨"GCK_CFG_k", 0x300000, [(0x8, 48)], 1, .rw, 0x00000000, 0x00010F1F, 0xFFFF⟩,
  ⟨"GCK_STAT_k", 0x300004, [(0x8, 48)], 1, .ro, 0x00000000, 0x00000000, 0xFFFF⟩,
  ⟨"BM_FLIP_SEL", 0x310000, [], 1, .rw, 0x00000000, 0x00003FFF, 0xFFFF⟩,
  ⟨"BM_FLIP_0", 0x310004, [], 1, .rw, 0x00000000, 0xFFFFFFFF, 0xFFFF⟩,
  ⟨"BM_FLIP_1", 0x310008, [], 1, .rw, 0x00000000, 0xFFFFFFFF, 0xFFFF⟩,
  ⟨"BM_FLIP_2", 0x31000C, [], 1, .rwm, 0x00000000, 0x800000FF, 0xD0⟩,
  ⟨"FAB_SBE_p", 0x320000, [(0x10, 144)], 1, .ro, 0x00000000, 0x00000000, 0xFFFF⟩,
  ⟨"FAB_DBE_p", 0x320004, [(0x10, 144)], 1, .ro, 0x00000000, 0x00000000, 0xFFFF⟩,
  ⟨"FAB_COLL_p", 0x320008, [(0x10, 144)], 1, .ro, 0x00000000, 0x00000000, 0xFFFF⟩,
  ⟨"FAB_OVF_p", 0x32000C, [(0x10, 144)], 1, .ro, 0x00000000, 0x00000000, 0xFFFF⟩,
  ⟨"CFG_CTL", 0x000000, [], 1, .rw, 0x00000002, 0x00000037, 0xFFFF⟩,
  ⟨"CFG_CMD", 0x000004, [], 1, .wo, 0x00000000, 0x00000000, 0xFFFF⟩,
  ⟨"CFG_STAT", 0x000008, [], 1, .ro, 0x00000000, 0x00000000, 0xFFFF⟩,
  ⟨"CFG_ERR_AT", 0x00000C, [], 1, .ro, 0x00000000, 0x00000000, 0xFFFF⟩,
  ⟨"CFG_SRC_LO", 0x000010, [], 1, .rw, 0x00000000, 0xFFFFFFFF, 0xFFFF⟩,
  ⟨"CFG_SRC_HI", 0x000014, [], 1, .rw, 0x00000000, 0x8000FFFF, 0xFFFF⟩,
  ⟨"CFG_PR_TICK", 0x000018, [], 1, .rw, 0x00000000, 0xFFFFFFFF, 0xFFFF⟩,
  ⟨"CFG_TIMEOUT", 0x00001C, [], 1, .rw, 0x00000064, 0x0000FFFF, 0xFFFF⟩,
  ⟨"CFG_TGT_n", 0x000020, [(0x4, 4)], 1, .rw, 0x00000000, 0xFFFFFFFF, 0xFFFF⟩,
  ⟨"CFG_TGT_n", 0x000030, [(0x4, 1)], 1, .rw, 0x00000000, 0x0000FFFF, 0xFFFF⟩,
  ⟨"CFG_STRAP", 0x000034, [], 1, .ro, 0x00000000, 0x00000000, 0xFFFF⟩,
  ⟨"CFG_PROGRESS", 0x000038, [], 1, .ro, 0x00000000, 0x00000000, 0xFFFF⟩,
  ⟨"CFG_LAST_US", 0x00003C, [], 1, .ro, 0x00000000, 0x00000000, 0xFFFF⟩,
  ⟨"CFG_BUILD_LO", 0x000040, [], 1, .ro, 0x00000000, 0x00000000, 0xFFFF⟩,
  ⟨"CFG_BUILD_HI", 0x000044, [], 1, .ro, 0x00000000, 0x00000000, 0xFFFF⟩,
  ⟨"CFG_RET_FILL", 0x000048, [], 1, .ro, 0x00000000, 0x00000000, 0xFFFF⟩,
  ⟨"CFG_PAD_STAT_p", 0x000100, [(0x4, 144)], 1, .ro, 0x0000000C, 0x00000000, 0xFFFF⟩,
  ⟨"CFG_ERR_CNT_k", 0x000404, [(0x4, 19)], 1, .ro, 0x00000000, 0x00000000, 0xFFFF⟩,
  ⟨"CFG_LOAD_CNT", 0x000500, [], 1, .ro, 0x00000000, 0x00000000, 0xFFFF⟩,
  ⟨"FAR_CTL", 0x100000, [], 1, .rw, 0x00000006, 0x00000007, 0xFFFF⟩,
  ⟨"FAR_CMD", 0x100004, [], 1, .wo, 0x00000000, 0x00000000, 0xFFFF⟩,
  ⟨"FAR_STAT", 0x100008, [], 1, .ro, 0x00000000, 0x00000000, 0xFFFF⟩,
  ⟨"FAR_RATE", 0x10000C, [], 1, .rw, 0x00000010, 0x0000001F, 0xFFFF⟩,
  ⟨"FAR_TGT", 0x100010, [], 1, .rw, 0x0000028F, 0x0000FFFF, 0xFFFF⟩,
  ⟨"FAR_TMAX", 0x100014, [], 1, .rw, 0x000003E8, 0x0000FFFF, 0xFFFF⟩,
  ⟨"FAR_LAMBDA", 0x100018, [], 1, .ro, 0x00000000, 0x00000000, 0xFFFF⟩,
  ⟨"FAR_CYCLE_A", 0x10001C, [], 1, .ro, 0x00000000, 0x00000000, 0xFFFF⟩,
  ⟨"FAR_CYCLE_B", 0x100020, [], 1, .ro, 0x00000000, 0x00000000, 0xFFFF⟩,
  ⟨"FAR_SEQ_A", 0x100024, [], 1, .ro, 0x00000000, 0x00000000, 0xFFFF⟩,
  ⟨"FAR_SEQ_B", 0x100028, [], 1, .ro, 0x00000000, 0x00000000, 0xFFFF⟩]

/-- Configuration and Farrier block, part 2 of its register map. -/
def regRows4b : List RegRow := [
  ⟨"FAR_PRIO_n", 0x100030, [(0x4, 4)], 1, .rw, 0x00000000, 0xFFFFFFFF, 0xFFFF⟩,
  ⟨"FAR_PRIO_n", 0x100040, [(0x4, 1)], 1, .rw, 0x00000000, 0x0000FFFF, 0xFFFF⟩,
  ⟨"FAR_INJ_FA", 0x100050, [], 1, .rwm, 0x00000000, 0x001FFFFF, 0xD0⟩,
  ⟨"FAR_INJ_BIT", 0x100054, [], 1, .rwm, 0x00000000, 0x80001FFF, 0xD0⟩,
  ⟨"FAR_LOG_w", 0x100060, [(0x4, 4)], 1, .ro, 0x00000000, 0x00000000, 0xFFFF⟩,
  ⟨"FAR_LOG_STAT", 0x100070, [], 1, .ro, 0x00000001, 0x00000000, 0xFFFF⟩,
  ⟨"FAR_TMR_CNT", 0x100080, [], 1, .ro, 0x00000000, 0x00000000, 0xFFFF⟩,
  ⟨"FAR_CYCLE_CNT", 0x100084, [], 1, .ro, 0x00000000, 0x00000000, 0xFFFF⟩,
  ⟨"FAR_PASS_CNT", 0x100088, [], 1, .ro, 0x00000000, 0x00000000, 0xFFFF⟩,
  ⟨"FAR_REFETCH_CNT", 0x10008C, [], 1, .ro, 0x00000000, 0x00000000, 0xFFFF⟩,
  ⟨"FAR_CONT_CNT", 0x100090, [], 1, .ro, 0x00000000, 0x00000000, 0xFFFF⟩,
  ⟨"FAR_STUCK_CNT", 0x100094, [], 1, .ro, 0x00000000, 0x00000000, 0xFFFF⟩,
  ⟨"FAR_QFULL_CNT", 0x100098, [], 1, .ro, 0x00000000, 0x00000000, 0xFFFF⟩,
  ⟨"FAR_STALL_CNT", 0x10009C, [], 1, .ro, 0x00000000, 0x00000000, 0xFFFF⟩,
  ⟨"FAR_PAD_STAT_p", 0x200000, [(0x10, 144)], 1, .ro, 0x00000000, 0x00000000, 0xFFFF⟩,
  ⟨"FAR_PAD_CORR_p", 0x200004, [(0x10, 144)], 1, .ro, 0x00000000, 0x00000000, 0xFFFF⟩,
  ⟨"FAR_PAD_UNC_p", 0x200008, [(0x10, 144)], 1, .ro, 0x00000000, 0x00000000, 0xFFFF⟩,
  ⟨"FAR_PAD_LAST_p", 0x20000C, [(0x10, 144)], 1, .ro, 0x00000000, 0x00000000, 0xFFFF⟩]

/-- Configuration and Farrier block, base 0x4400_0000: its registers by offset (R228, R255, R276). -/
def regRows4 : List RegRow := regRows4a ++ regRows4b

/-- Local SDRAM, CXL and IMP block, part 1 of its register map. -/
def regRows5a : List RegRow := [
  ⟨"MEM_CFG_h", 0x000000, [(0x100000, 4)], 1, .rwm, 0x00000006, 0x0000000F, 0x14⟩,
  ⟨"MEM_CMD_h", 0x000004, [(0x100000, 4)], 1, .wo, 0x00000000, 0x00000000, 0xFFFF⟩,
  ⟨"MEM_STAT_h", 0x000008, [(0x100000, 4)], 1, .ro, 0x00000000, 0x00000000, 0xFFFF⟩,
  ⟨"MEM_BA_MASK_0_h", 0x00000C, [(0x100000, 4)], 1, .rwm, 0x00001080, 0x1FFFFFFF, 0x14⟩,
  ⟨"MEM_BA_MASK_1_h", 0x000010, [(0x100000, 4)], 1, .rwm, 0x00002100, 0x1FFFFFFF, 0x14⟩,
  ⟨"MEM_BG_MASK_0_h", 0x000014, [(0x100000, 4)], 1, .rwm, 0x00004201, 0x1FFFFFFF, 0x14⟩,
  ⟨"MEM_BG_MASK_1_h", 0x000018, [(0x100000, 4)], 1, .rwm, 0x00008402, 0x1FFFFFFF, 0x14⟩,
  ⟨"MEM_BG_MASK_2_h", 0x00001C, [(0x100000, 4)], 1, .rwm, 0x00010804, 0x1FFFFFFF, 0x14⟩,
  ⟨"MEM_TRAIN_CFG_h", 0x000020, [(0x100000, 4)], 1, .rw, 0x03E80064, 0xFFFFFFFF, 0xFFFF⟩,
  ⟨"MEM_SLOT_PERIOD_h", 0x000024, [(0x100000, 4)], 1, .rw, 0x0004B000, 0x01FFFFFF, 0xFFFF⟩,
  ⟨"MEM_SLOT_OFS_h", 0x000028, [(0x100000, 4)], 1, .rw, 0x00000000, 0x01FFFFFF, 0xFFFF⟩,
  ⟨"MEM_PATROL_h", 0x00002C, [(0x100000, 4)], 1, .rw, 0x00000018, 0x0000FFFF, 0xFFFF⟩,
  ⟨"MEM_SPARE_h", 0x000030, [(0x100000, 4)], 1, .rwm, 0x00000000, 0x00000001, 0x14⟩,
  ⟨"MEM_RETIRE_ARG_h", 0x000034, [(0x100000, 4)], 1, .rw, 0x00000000, 0x00FFFFFF, 0xFFFF⟩,
  ⟨"MEM_RETIRE_ROW_h", 0x000038, [(0x100000, 4)], 1, .ro, 0x00000000, 0x00000000, 0xFFFF⟩,
  ⟨"MEM_CE_CNT_h", 0x000040, [(0x100000, 4)], 1, .ro, 0x00000000, 0x00000000, 0xFFFF⟩,
  ⟨"MEM_UE_CNT_h", 0x000044, [(0x100000, 4)], 1, .ro, 0x00000000, 0x00000000, 0xFFFF⟩,
  ⟨"MEM_REF_BURST_CNT_h", 0x000048, [(0x100000, 4)], 1, .ro, 0x00000000, 0x00000000, 0xFFFF⟩,
  ⟨"MEM_TRAIN_CNT_h", 0x00004C, [(0x100000, 4)], 1, .ro, 0x00000000, 0x00000000, 0xFFFF⟩,
  ⟨"MEM_TRAIN_FORCED_CNT_h", 0x000050, [(0x100000, 4)], 1, .ro, 0x00000000, 0x00000000, 0xFFFF⟩,
  ⟨"MEM_MERGE_CNT_h", 0x000054, [(0x100000, 4)], 1, .ro, 0x00000000, 0x00000000, 0xFFFF⟩,
  ⟨"MEM_FLIP_w_h", 0x000060, [(0x100000, 4), (0x4, 4)], 1, .rw, 0x00000000, 0xFFFFFFFF, 0xFFFF⟩,
  ⟨"MEM_FLIP_4_h", 0x000070, [(0x100000, 4)], 1, .rw, 0x00000000, 0xFFFFFFFF, 0xFFFF⟩,
  ⟨"MEM_FLIP_CTL_h", 0x000074, [(0x100000, 4)], 1, .rwm, 0x00000000, 0x80000000, 0xD0⟩,
  ⟨"MEM_LOG_w_h", 0x000080, [(0x100000, 4), (0x4, 4)], 1, .ro, 0x00000000, 0x00000000, 0xFFFF⟩,
  ⟨"MEM_LOG_STAT_h", 0x000090, [(0x100000, 4)], 1, .ro, 0x00000001, 0x00000000, 0xFFFF⟩,
  ⟨"MEM_REMAP_n_h", 0x001000, [(0x100000, 4), (0x4, 256)], 1, .rwm, 0x00000000, 0x80FFFFFF, 0x14⟩,
  ⟨"MEM_MAP", 0x400000, [], 1, .rwm, 0x00000002, 0x00000003, 0x14⟩,
  ⟨"MEM_CH_MASK_0_LO", 0x400004, [], 1, .rwm, 0x00404100, 0xFFFFFFFF, 0x14⟩,
  ⟨"MEM_CH_MASK_0_HI", 0x400008, [], 1, .rwm, 0x00000000, 0x0000003F, 0x14⟩,
  ⟨"MEM_CH_MASK_1_LO", 0x40000C, [], 1, .rwm, 0x00808200, 0xFFFFFFFF, 0x14⟩,
  ⟨"MEM_CH_MASK_1_HI", 0x400010, [], 1, .rwm, 0x00000000, 0x0000003F, 0x14⟩,
  ⟨"CXL_CTL", 0x500000, [], 1, .rwm, 0x00000000, 0x00000003, 0x14⟩,
  ⟨"CXL_STAT", 0x500004, [], 1, .ro, 0x00000000, 0x00000000, 0xFFFF⟩,
  ⟨"CXL_TIMEOUT", 0x500008, [], 1, .rw, 0x00000064, 0x0000FFFF, 0xFFFF⟩,
  ⟨"CXL_TO_CNT", 0x50000C, [], 1, .ro, 0x00000000, 0x00000000, 0xFFFF⟩,
  ⟨"CXL_POISON_CNT", 0x500010, [], 1, .ro, 0x00000000, 0x00000000, 0xFFFF⟩,
  ⟨"CXL_DEC_BASE_d", 0x500100, [(0x10, 4)], 1, .rw, 0x00000000, 0x00000FFF, 0xFFFF⟩,
  ⟨"CXL_DEC_SIZE_d", 0x500104, [(0x10, 4)], 1, .rw, 0x00000000, 0x00001FFF, 0xFFFF⟩,
  ⟨"CXL_DEC_CTL_d", 0x500108, [(0x10, 4)], 1, .rw, 0x00000000, 0x000001F9, 0xFFFF⟩]

/-- Local SDRAM, CXL and IMP block, part 2 of its register map. -/
def regRows5b : List RegRow := [
  ⟨"PCIE_STAT", 0x580000, [], 1, .ro, 0x00000000, 0x00000000, 0xFFFF⟩,
  ⟨"PCIE_OB_BASE_LO", 0x580004, [], 1, .rw, 0x00000000, 0xFFFFF000, 0xFFFF⟩,
  ⟨"PCIE_OB_BASE_HI", 0x580008, [], 1, .rw, 0x00000000, 0xFFFFFFFF, 0xFFFF⟩,
  ⟨"PCIE_BAR4_TGT", 0x58000C, [], 1, .rw, 0x00000000, 0x0000000F, 0xFFFF⟩,
  ⟨"CXL_IO_WIN", 0x600000, [(0x4, 262144)], 1, .rw, 0x00000000, 0xFFFFFFFF, 0xFFFF⟩,
  ⟨"CXL_ECAM", 0x700000, [(0x4, 1048576)], 1, .rw, 0x00000000, 0xFFFFFFFF, 0xFFFF⟩,
  ⟨"IMP_CTL", 0xB00000, [], 1, .rw, 0x00000000, 0x00000001, 0xFFFF⟩,
  ⟨"IMP_STAT", 0xB00004, [], 1, .ro, 0x00000000, 0x00000000, 0xFFFF⟩,
  ⟨"IMP_AWAIT_DMA", 0xB00008, [], 1, .rw, 0x00000000, 0xFFFFFFFF, 0xFFFF⟩,
  ⟨"IMP_AWAIT_MISC", 0xB0000C, [], 1, .rw, 0x00000000, 0x00000001, 0xFFFF⟩,
  ⟨"IMP_ROLL_CMD", 0xB00010, [], 1, .wo, 0x00000000, 0x00000000, 0xFFFF⟩,
  ⟨"IMP_ROLL_STAT", 0xB00014, [], 1, .ro, 0x00000000, 0x00000000, 0xFFFF⟩,
  ⟨"IMP_ROLL_B_LO", 0xB00018, [], 1, .ro, 0x00000000, 0x00000000, 0xFFFF⟩,
  ⟨"IMP_ROLL_B_HI", 0xB0001C, [], 1, .ro, 0x00000000, 0x00000000, 0xFFFF⟩,
  ⟨"IMP_ROLL_TMAX", 0xB00020, [], 1, .rw, 0x00000FA0, 0x0000FFFF, 0xFFFF⟩,
  ⟨"IMP_RESEED", 0xB00024, [], 1, .wo, 0x00000000, 0x00000000, 0xFFFF⟩,
  ⟨"IMP_TAG_FLIP", 0xB00028, [], 1, .rwm, 0x00000000, 0x8000000F, 0xD0⟩,
  ⟨"IMP_TAG_FAIL_CNT", 0xB00040, [], 1, .ro, 0x00000000, 0x00000000, 0xFFFF⟩,
  ⟨"IMP_ALARM_CNT", 0xB00044, [], 1, .ro, 0x00000000, 0x00000000, 0xFFFF⟩,
  ⟨"IMP_NODE_FIX_CNT", 0xB00048, [], 1, .ro, 0x00000000, 0x00000000, 0xFFFF⟩,
  ⟨"IMP_POISON_CNT", 0xB0004C, [], 1, .ro, 0x00000000, 0x00000000, 0xFFFF⟩,
  ⟨"IMP_ROLL_RETRY_CNT", 0xB00050, [], 1, .ro, 0x00000000, 0x00000000, 0xFFFF⟩,
  ⟨"IMP_NODE_CE_CNT", 0xB00054, [], 1, .ro, 0x00000000, 0x00000000, 0xFFFF⟩,
  ⟨"IMP_LOG_w", 0xB00080, [(0x4, 4)], 1, .ro, 0x00000000, 0x00000000, 0xFFFF⟩,
  ⟨"IMP_LOG_STAT", 0xB00090, [], 1, .ro, 0x00000001, 0x00000000, 0xFFFF⟩,
  ⟨"IMP_RNG_BASE_LO_n", 0xB10000, [(0x20, 16)], 1, .rwm, 0x00000000, 0xFFFFF000, 0x34⟩,
  ⟨"IMP_RNG_BASE_HI_n", 0xB10004, [(0x20, 16)], 1, .rwm, 0x00000000, 0x0000FFFF, 0x34⟩,
  ⟨"IMP_RNG_SIZE_n", 0xB10008, [(0x20, 16)], 1, .rwm, 0x00000000, 0x1FFFFFFF, 0x34⟩,
  ⟨"IMP_RNG_CTL_n", 0xB1000C, [(0x20, 16)], 1, .rwm, 0x00000000, 0x000001FF, 0x34⟩,
  ⟨"IMP_RNG_META_LO_n", 0xB10010, [(0x20, 16)], 1, .rwm, 0x00000000, 0xFFFFF000, 0x34⟩,
  ⟨"IMP_RNG_META_HI_n", 0xB10014, [(0x20, 16)], 1, .rwm, 0x00000000, 0x0000FFFF, 0x34⟩,
  ⟨"IMP_RNG_META_SIZE_n", 0xB10018, [(0x20, 16)], 1, .ro, 0x00000000, 0x00000000, 0xFFFF⟩,
  ⟨"IMP_RNG_DEPTH_n", 0xB1001C, [(0x20, 16)], 1, .ro, 0x00000000, 0x00000000, 0xFFFF⟩,
  ⟨"IMP_KSLOT_STAT_s", 0xB20000, [(0x4, 64)], 1, .ro, 0x00000000, 0x00000000, 0xFFFF⟩,
  ⟨"IMP_POISON_e", 0xB30000, [(0x10, 64)], 2, .ro, 0x00000000, 0x00000000, 0xFFFF⟩]

/-- Local SDRAM, CXL and IMP block, base 0x4500_0000: its registers by offset (R330, R355). -/
def regRows5 : List RegRow := regRows5a ++ regRows5b

/-- Lanes block, part 1 of its register map. -/
def regRows6a : List RegRow := [
  ⟨"LR_CTL_l", 0x000000, [(0x40, 64)], 1, .rw, 0x00000000, 0x00000007, 0xFFFF⟩,
  ⟨"CV_CTL_l", 0x010000, [(0x40, 64)], 1, .rw, 0x00000000, 0x00000007, 0xFFFF⟩,
  ⟨"LR_STAT_l", 0x000004, [(0x40, 64)], 1, .ro, 0x00000000, 0x00000000, 0xFFFF⟩,
  ⟨"CV_STAT_l", 0x010004, [(0x40, 64)], 1, .ro, 0x00000000, 0x00000000, 0xFFFF⟩,
  ⟨"LR_TXFFE_l", 0x000008, [(0x40, 64)], 1, .rw, 0x0003F000, 0x3FFFFFFF, 0xFFFF⟩,
  ⟨"CV_TXFFE_l", 0x010008, [(0x40, 64)], 1, .rw, 0x00000FC0, 0x0003FFFF, 0xFFFF⟩,
  ⟨"LR_EQ_SEL_l", 0x00000C, [(0x40, 64)], 1, .rw, 0x00000000, 0x0000001F, 0xFFFF⟩,
  ⟨"CV_EQ_SEL_l", 0x01000C, [(0x40, 64)], 1, .rw, 0x00000000, 0x0000001F, 0xFFFF⟩,
  ⟨"LR_EQ_VAL_l", 0x000010, [(0x40, 64)], 1, .rw, 0x00000000, 0x0000FFFF, 0xFFFF⟩,
  ⟨"CV_EQ_VAL_l", 0x010010, [(0x40, 64)], 1, .rw, 0x00000000, 0x0000FFFF, 0xFFFF⟩,
  ⟨"LR_TEST_l", 0x000014, [(0x40, 64)], 1, .rwm, 0x00000000, 0x0000003F, 0x14⟩,
  ⟨"CV_TEST_l", 0x010014, [(0x40, 64)], 1, .rwm, 0x00000000, 0x0000003F, 0x14⟩,
  ⟨"LR_PRBS_ERR_l", 0x000018, [(0x40, 64)], 1, .ro, 0x00000000, 0x00000000, 0xFFFF⟩,
  ⟨"CV_PRBS_ERR_l", 0x010018, [(0x40, 64)], 1, .ro, 0x00000000, 0x00000000, 0xFFFF⟩,
  ⟨"LR_OCT_CFG_o", 0x020000, [(0x10, 8)], 1, .rw, 0x00000000, 0x00000003, 0xFFFF⟩,
  ⟨"LR_OCT_STAT_o", 0x020004, [(0x10, 8)], 1, .ro, 0x00000000, 0x00000000, 0xFFFF⟩,
  ⟨"CV_QUAD_CFG_q", 0x020100, [(0x10, 16)], 1, .rw, 0x00000000, 0x0001FF7F, 0xFFFF⟩,
  ⟨"CV_QUAD_STAT_q", 0x020104, [(0x10, 16)], 1, .ro, 0x00000000, 0x00000000, 0xFFFF⟩,
  ⟨"JL_TX_CFG_q", 0x030000, [(0x100, 16)], 1, .rw, 0x00000000, 0x000000FF, 0xFFFF⟩,
  ⟨"JL_RX_CFG_q", 0x030004, [(0x100, 16)], 1, .rw, 0x00000000, 0x01FF00FF, 0xFFFF⟩,
  ⟨"JL_LEMC_OFS_q", 0x030008, [(0x100, 16)], 1, .rw, 0x00000000, 0x000001FF, 0xFFFF⟩,
  ⟨"JL_STAT_q", 0x03000C, [(0x100, 16)], 1, .ro, 0x00000000, 0x00000000, 0xFFFF⟩,
  ⟨"JL_CRC_CNT_q", 0x030010, [(0x100, 16)], 1, .ro, 0x00000000, 0x00000000, 0xFFFF⟩,
  ⟨"JL_DROP_CNT_q", 0x030014, [(0x100, 16)], 1, .ro, 0x00000000, 0x00000000, 0xFFFF⟩,
  ⟨"JL_UNDERRUN_CNT_q", 0x030018, [(0x100, 16)], 1, .ro, 0x00000000, 0x00000000, 0xFFFF⟩,
  ⟨"JL_CAP_BASE_LO_q", 0x03001C, [(0x100, 16)], 1, .rw, 0x00000000, 0xFFFFF000, 0xFFFF⟩,
  ⟨"JL_CAP_BASE_HI_q", 0x030020, [(0x100, 16)], 1, .rw, 0x00000000, 0x0000FFFF, 0xFFFF⟩,
  ⟨"JL_CAP_CFG_q", 0x030024, [(0x100, 16)], 1, .rw, 0x00000000, 0x0000000F, 0xFFFF⟩,
  ⟨"JL_CAP_WPTR_q", 0x030028, [(0x100, 16)], 1, .ro, 0x00000000, 0x00000000, 0xFFFF⟩,
  ⟨"JL_MEM_LEAD_q", 0x03002C, [(0x100, 16)], 1, .rw, 0x00000020, 0x0000FFFF, 0xFFFF⟩,
  ⟨"JSYSREF_CFG", 0x031000, [], 1, .rw, 0x00020000, 0xFFFF003F, 0xFFFF⟩,
  ⟨"JSYSREF_CMD", 0x031004, [], 1, .wo, 0x00000000, 0x00000000, 0xFFFF⟩,
  ⟨"JSYSREF_PHASE", 0x031008, [], 1, .ro, 0x00000000, 0x00000000, 0xFFFF⟩,
  ⟨"JSYSREF_CNT", 0x03100C, [], 1, .ro, 0x00000000, 0x00000000, 0xFFFF⟩,
  ⟨"TETH_CFG", 0x040000, [], 1, .rw, 0x000801FE, 0x000F01FF, 0xFFFF⟩,
  ⟨"TETH_SEED", 0x040004, [], 1, .rw, 0x00000001, 0x7FFFFFFF, 0xFFFF⟩,
  ⟨"TETH_CMD", 0x040008, [], 1, .wo, 0x00000000, 0x00000000, 0xFFFF⟩,
  ⟨"TETH_STAT", 0x04000C, [], 1, .ro, 0x00000000, 0x00000000, 0xFFFF⟩,
  ⟨"TETH_CRC_CNT", 0x040010, [], 1, .ro, 0x00000000, 0x00000000, 0xFFFF⟩,
  ⟨"TETH_GAP_CNT", 0x040014, [], 1, .ro, 0x00000000, 0x00000000, 0xFFFF⟩]

/-- Lanes block, part 2 of its register map. -/
def regRows6b : List RegRow := [
  ⟨"TETH_STUFF_ERR_CNT", 0x040018, [], 1, .ro, 0x00000000, 0x00000000, 0xFFFF⟩,
  ⟨"TETH_STATE_ERR_CNT", 0x04001C, [], 1, .ro, 0x00000000, 0x00000000, 0xFFFF⟩,
  ⟨"TETH_LATE_CNT", 0x040020, [], 1, .ro, 0x00000000, 0x00000000, 0xFFFF⟩,
  ⟨"TETH_SLIP_CNT", 0x040024, [], 1, .ro, 0x00000000, 0x00000000, 0xFFFF⟩]

/-- Lanes block, base 0x4600_0000: its registers by offset (R389). -/
def regRows6 : List RegRow := regRows6a ++ regRows6b

/-- Ethernet block, base 0x4700_0000: its registers by offset (R372, R391). -/
def regRows7 : List RegRow := [
  ⟨"MGT_CFG", 0x090000, [], 1, .rw, 0x00000005, 0x0000001F, 0xFFFF⟩,
  ⟨"MGT_STAT", 0x090004, [], 1, .ro, 0x00000000, 0x00000000, 0xFFFF⟩,
  ⟨"MGT_ADDR_LO", 0x090008, [], 1, .rw, 0x00000000, 0xFFFFFFFF, 0xFFFF⟩,
  ⟨"MGT_ADDR_HI", 0x09000C, [], 1, .rw, 0x00000000, 0x0000FFFF, 0xFFFF⟩,
  ⟨"MGT_RX_BASE", 0x090010, [], 1, .rw, 0x00000000, 0x001FF000, 0xFFFF⟩,
  ⟨"MGT_RX_PROD", 0x090014, [], 1, .ro, 0x00000000, 0x00000000, 0xFFFF⟩,
  ⟨"MGT_RX_CONS", 0x090018, [], 1, .rw, 0x00000000, 0x0000FFFF, 0xFFFF⟩,
  ⟨"MGT_TX_BASE", 0x09001C, [], 1, .rw, 0x00000000, 0x001FF000, 0xFFFF⟩,
  ⟨"MGT_TX_PROD", 0x090020, [], 1, .rw, 0x00000000, 0x0000FFFF, 0xFFFF⟩,
  ⟨"MGT_TX_CONS", 0x090024, [], 1, .ro, 0x00000000, 0x00000000, 0xFFFF⟩,
  ⟨"MGT_CNT_k", 0x090040, [(0x4, 8)], 1, .ro, 0x00000000, 0x00000000, 0xFFFF⟩,
  ⟨"ETH_CFG_m", 0x000000, [(0x10000, 8)], 1, .rw, 0x00000000, 0x0000007F, 0xFFFF⟩,
  ⟨"ETH_STAT_m", 0x000004, [(0x10000, 8)], 1, .ro, 0x00000000, 0x00000000, 0xFFFF⟩,
  ⟨"ETH_ADDR_LO_m", 0x000008, [(0x10000, 8)], 1, .rw, 0x00000000, 0xFFFFFFFF, 0xFFFF⟩,
  ⟨"ETH_ADDR_HI_m", 0x00000C, [(0x10000, 8)], 1, .rw, 0x00000000, 0x0000FFFF, 0xFFFF⟩,
  ⟨"ETH_RXQ_MAP_m", 0x000010, [(0x10000, 8)], 1, .rw, 0x00000000, 0xF7FFFFFF, 0xFFFF⟩,
  ⟨"ETH_TXQ_CFG_m_q", 0x000020, [(0x10000, 8), (0x4, 8)], 1, .rw, 0x00000000, 0x00000003, 0xFFFF⟩,
  ⟨"ETH_TXQ_STAT_m_q", 0x000040, [(0x10000, 8), (0x4, 8)], 1, .ro, 0x00000000, 0x00000000, 0xFFFF⟩,
  ⟨"ETH_TXP_ADDR_LO_m", 0x000060, [(0x10000, 8)], 1, .rw, 0x00000000, 0xFFFFFFFF, 0xFFFF⟩,
  ⟨"ETH_TXP_ADDR_HI_m", 0x000064, [(0x10000, 8)], 1, .rw, 0x00000000, 0x0000FFFF, 0xFFFF⟩,
  ⟨"ETH_TXP_CTL_m", 0x000068, [(0x10000, 8)], 1, .wo, 0x00000000, 0x00000000, 0xFFFF⟩,
  ⟨"ETH_TXP_STAT_m", 0x00006C, [(0x10000, 8)], 1, .ro, 0x00000000, 0x00000000, 0xFFFF⟩,
  ⟨"ETH_TXTS_w_m", 0x000080, [(0x10000, 8), (0x4, 4)], 1, .ro, 0x00000000, 0x00000000, 0xFFFF⟩,
  ⟨"ETH_TXTS_STAT_m", 0x000090, [(0x10000, 8)], 1, .ro, 0x00000001, 0x00000000, 0xFFFF⟩,
  ⟨"ETH_RXQ_BASE_LO_m_q", 0x000100, [(0x10000, 8), (0x20, 8)], 1, .rw, 0x00000000, 0xFFFFF800, 0xFFFF⟩,
  ⟨"ETH_RXQ_BASE_HI_m_q", 0x000104, [(0x10000, 8), (0x20, 8)], 1, .rw, 0x00000000, 0x0000FFFF, 0xFFFF⟩,
  ⟨"ETH_RXQ_CFG_m_q", 0x000108, [(0x10000, 8), (0x20, 8)], 1, .rw, 0x00000000, 0x0000013F, 0xFFFF⟩,
  ⟨"ETH_RXQ_PROD_m_q", 0x00010C, [(0x10000, 8), (0x20, 8)], 1, .ro, 0x00000000, 0x00000000, 0xFFFF⟩,
  ⟨"ETH_RXQ_CONS_m_q", 0x000110, [(0x10000, 8), (0x20, 8)], 1, .rw, 0x00000000, 0x0000FFFF, 0xFFFF⟩,
  ⟨"ETH_CNT_m_k", 0x000400, [(0x10000, 8), (0x4, 32)], 1, .ro, 0x00000000, 0x00000000, 0xFFFF⟩,
  ⟨"ETH_NOMAC_CNT", 0x080000, [], 1, .ro, 0x00000000, 0x00000000, 0xFFFF⟩]

/-- Canter array block, base 0x4800_0000: its registers by offset (R177). -/
def regRows8 : List RegRow := [
  ⟨"CA_CTL", 0x000000, [], 1, .rw, 0x0000000F, 0x0000000F, 0xFFFF⟩,
  ⟨"CA_STAT", 0x000004, [], 1, .ro, 0x00000000, 0x00000000, 0xFFFF⟩,
  ⟨"CA_SAVE_BASE", 0x000008, [], 1, .rw, 0x00000000, 0x03FC0000, 0xFFFF⟩,
  ⟨"CA_WIN_SEL", 0x00000C, [], 1, .rw, 0x00000000, 0x000000FF, 0xFFFF⟩,
  ⟨"CA_TEAM_OPS_t", 0x000010, [(0x4, 4)], 1, .ro, 0x00000000, 0x00000000, 0xFFFF⟩,
  ⟨"CA_TEAM_ABANDON_t", 0x000020, [(0x4, 4)], 1, .ro, 0x00000000, 0x00000000, 0xFFFF⟩,
  ⟨"CA_TEAM_PREEMPT_t", 0x000030, [(0x4, 4)], 1, .ro, 0x00000000, 0x00000000, 0xFFFF⟩,
  ⟨"CA_TEAM_EXC_t", 0x000040, [(0x4, 4)], 1, .ro, 0x00000000, 0x00000000, 0xFFFF⟩,
  ⟨"CA_TEAM_BUSY_t", 0x000080, [(0x8, 4)], 2, .ro, 0x00000000, 0x00000000, 0xFFFF⟩,
  ⟨"CA_CORE_CFG_c", 0x001000, [(0x4, 256)], 1, .rw, 0x00000001, 0x00000003, 0xFFFF⟩,
  ⟨"CA_CORE_STAT_c", 0x001400, [(0x4, 256)], 1, .ro, 0x00000000, 0x00000000, 0xFFFF⟩,
  ⟨"CA_CORE_SLOT_c", 0x001800, [(0x4, 256)], 1, .ro, 0x00000000, 0x00000000, 0xFFFF⟩,
  ⟨"CA_IMEM_t", 0x100000, [(0x10000, 4), (0x4, 8192)], 1, .wo, 0x00000000, 0x00000000, 0xFFFF⟩,
  ⟨"CA_WIN_X", 0x200000, [(0x4, 8192)], 1, .rw, 0x00000000, 0xFFFFFFFF, 0xFFFF⟩,
  ⟨"CA_WIN_Y", 0x208000, [(0x4, 8192)], 1, .rw, 0x00000000, 0xFFFFFFFF, 0xFFFF⟩,
  ⟨"CA_WIN_C", 0x210000, [(0x4, 4096)], 1, .rw, 0x00000000, 0xFFFFFFFF, 0xFFFF⟩,
  ⟨"CA_WIN_I", 0x218000, [(0x4, 8192)], 1, .rw, 0x00000000, 0xFFFFFFFF, 0xFFFF⟩]

/-- Security block, base 0x4900_0000: its registers by offset (R501). -/
def regRows9 : List RegRow := [
  ⟨"SEC_LC", 0x000000, [], 1, .ro, 0x00000001, 0x00000000, 0xFFFF⟩,
  ⟨"SEC_STAT", 0x000004, [], 1, .ro, 0x00000000, 0x00000000, 0xFFFF⟩,
  ⟨"SEC_FW_VER", 0x000008, [], 1, .ro, 0x00000000, 0x00000000, 0xFFFF⟩,
  ⟨"SEC_NONCE_LO", 0x00000C, [], 1, .ro, 0x00000000, 0x00000000, 0xFFFF⟩,
  ⟨"SEC_NONCE_HI", 0x000010, [], 1, .ro, 0x00000000, 0x00000000, 0xFFFF⟩,
  ⟨"SEC_CMD_CTL", 0x000014, [], 1, .wo, 0x00000000, 0x00000000, 0xFFFF⟩,
  ⟨"SEC_CMD_STAT", 0x000018, [], 1, .ro, 0x00000000, 0x00000000, 0xFFFF⟩,
  ⟨"SEC_ARB_LO", 0x000020, [], 1, .ro, 0x00000000, 0x00000000, 0xFFFF⟩,
  ⟨"SEC_ARB_HI", 0x000024, [], 1, .ro, 0x00000000, 0x00000000, 0xFFFF⟩,
  ⟨"SEC_ATT_IDX", 0x000028, [], 1, .ro, 0x00000000, 0x00000000, 0xFFFF⟩,
  ⟨"SEC_ATT_BUCKET", 0x00002C, [], 1, .ro, 0x00000000, 0x00000000, 0xFFFF⟩,
  ⟨"SEC_RNG", 0x000030, [], 1, .ro, 0x00000000, 0x00000000, 0xFFFF⟩,
  ⟨"SEC_KEY_CMD", 0x000034, [], 1, .wo, 0x00000000, 0x00000000, 0xFFFF⟩,
  ⟨"SEC_KEY_STAT", 0x000038, [], 1, .ro, 0x00000000, 0x00000000, 0xFFFF⟩,
  ⟨"SEC_BIST_CMD", 0x00003C, [], 1, .wo, 0x00000000, 0x00000000, 0xFFFF⟩,
  ⟨"SEC_BIST_STAT", 0x000040, [], 1, .ro, 0x00000000, 0x00000000, 0xFFFF⟩,
  ⟨"SEC_KEY_BUF", 0x000100, [(0x4, 32)], 1, .rw, 0x00000000, 0xFFFFFFFF, 0xFFFF⟩,
  ⟨"SEC_CMD_BUF", 0x001000, [(0x4, 753)], 1, .rw, 0x00000000, 0xFFFFFFFF, 0xFFFF⟩,
  ⟨"SEC_OTP_WIN", 0x010000, [(0x4, 2048)], 1, .ro, 0x00000000, 0x00000000, 0xFFFF⟩]

/-- Outrider block, base 0x4A00_0000: its registers by offset (R529). -/
def regRows10 : List RegRow := [
  ⟨"OUT_CFG", 0x000000, [], 1, .rwm, 0x00000001, 0x00000001, 0x14⟩,
  ⟨"OUT_STAT", 0x000004, [], 1, .ro, 0x00000000, 0x00000000, 0xFFFF⟩,
  ⟨"OUT_CAUSE", 0x000008, [], 1, .ro, 0x00000000, 0x00000000, 0xFFFF⟩,
  ⟨"OUT_LATCH", 0x00000C, [], 1, .w1c, 0x00000000, 0x003FFFFE, 0xFFFF⟩,
  ⟨"OUT_FIRST", 0x000010, [], 1, .ro, 0x00000000, 0x00000000, 0xFFFF⟩,
  ⟨"OUT_FIRST_PT", 0x000014, [], 1, .ro, 0x00000000, 0x00000000, 0xFFFF⟩,
  ⟨"OUT_MUTE_SW", 0x000018, [], 1, .rw, 0x00000000, 0x000000FF, 0xFFFF⟩,
  ⟨"OUT_TO_GATE", 0x00001C, [], 1, .rw, 0x000000FF, 0x000000FF, 0xFFFF⟩,
  ⟨"OUT_TL_LIMIT", 0x000020, [], 1, .rw, 0x000B851F, 0xFFFFFFFF, 0xFFFF⟩,
  ⟨"OUT_CLASS_CNT_c", 0x000104, [(0x4, 21)], 1, .ro, 0x00000000, 0x00000000, 0xFFFF⟩,
  ⟨"OUT_WIN_CFG", 0x010000, [], 1, .rwm, 0x00040008, 0x00FF03FF, 0x14⟩,
  ⟨"OUT_WIN_PERIOD", 0x010004, [], 1, .rwm, 0x00025800, 0x01FFFFFF, 0x14⟩,
  ⟨"OUT_WIN_LINKS", 0x010008, [], 1, .rwm, 0x0000FFFF, 0x0000FFFF, 0x14⟩,
  ⟨"OUT_WIN_VIOL", 0x01000C, [], 1, .ro, 0x00000000, 0x00000000, 0xFFFF⟩,
  ⟨"OUT_WIN_LAST", 0x010010, [], 1, .ro, 0x00000000, 0x00000000, 0xFFFF⟩,
  ⟨"OUT_WIN_S_n", 0x010100, [(0x8, 32)], 1, .rwm, 0x00000000, 0x01FFFFFF, 0x14⟩,
  ⟨"OUT_WIN_L_n", 0x010104, [(0x8, 32)], 1, .rwm, 0x00000000, 0x01FFFFFF, 0x14⟩,
  ⟨"OUT_CLK_STAT", 0x020000, [], 1, .ro, 0x00000000, 0x00000000, 0xFFFF⟩,
  ⟨"OUT_VMON_STAT", 0x020004, [], 1, .ro, 0x00000000, 0x00000000, 0xFFFF⟩,
  ⟨"OUT_VMON_STAT2", 0x020008, [], 1, .ro, 0x00000000, 0x00000000, 0xFFFF⟩,
  ⟨"OUT_TEMP", 0x02000C, [], 1, .ro, 0x00000000, 0x00000000, 0xFFFF⟩,
  ⟨"OUT_TEMP_WARN", 0x020010, [], 1, .rw, 0x00006E00, 0x0000FFFF, 0xFFFF⟩,
  ⟨"OUT_BIST_CFG", 0x030000, [], 1, .rw, 0x00000006, 0x00000007, 0xFFFF⟩,
  ⟨"OUT_BIST_PERIOD", 0x030004, [], 1, .rw, 0x00007800, 0x01FFFFFF, 0xFFFF⟩,
  ⟨"OUT_BIST_OFS", 0x030008, [], 1, .rw, 0x00000000, 0x01FFFFFF, 0xFFFF⟩,
  ⟨"OUT_BIST_SAVE", 0x03000C, [], 1, .rw, 0x00000000, 0x03FC0000, 0xFFFF⟩,
  ⟨"OUT_BIST_PAD_m", 0x030010, [(0x4, 4)], 1, .rw, 0x00000000, 0xFFFFFFFF, 0xFFFF⟩,
  ⟨"OUT_BIST_PAD_m", 0x030020, [(0x4, 1)], 1, .rw, 0x00000000, 0x0000FFFF, 0xFFFF⟩,
  ⟨"OUT_BIST_NEXT", 0x030024, [], 1, .ro, 0x00000000, 0x00000000, 0xFFFF⟩,
  ⟨"OUT_BIST_FAIL", 0x030028, [], 1, .ro, 0x00000000, 0x00000000, 0xFFFF⟩,
  ⟨"OUT_BIST_RUNS", 0x03002C, [], 1, .ro, 0x00000000, 0x00000000, 0xFFFF⟩,
  ⟨"OUT_BIST_COLL", 0x030030, [], 1, .ro, 0x00000000, 0x00000000, 0xFFFF⟩]

/-- Relay block, base 0x4B00_0000: its registers by offset (R418). -/
def regRows11 : List RegRow := [
  ⟨"RELAY_CFG", 0x000000, [], 1, .rwm, 0x00000000, 0x0000001F, 0x14⟩,
  ⟨"RELAY_CMD", 0x000004, [], 1, .wo, 0x00000000, 0x00000000, 0xFFFF⟩,
  ⟨"RELAY_STAT", 0x000008, [], 1, .ro, 0x00000000, 0x00000000, 0xFFFF⟩,
  ⟨"RELAY_JSEQ_TX", 0x00000C, [], 1, .ro, 0x00000000, 0x00000000, 0xFFFF⟩,
  ⟨"RELAY_JSEQ_ACK", 0x000010, [], 1, .ro, 0x00000000, 0x00000000, 0xFFFF⟩,
  ⟨"RELAY_LAG", 0x000014, [], 1, .ro, 0x00000000, 0x00000000, 0xFFFF⟩,
  ⟨"RELAY_FENCE_TMO", 0x000018, [], 1, .rw, 0x000000FA, 0x000001FF, 0xFFFF⟩,
  ⟨"RELAY_TIME_ERR", 0x00001C, [], 1, .ro, 0x00000000, 0x00000000, 0xFFFF⟩,
  ⟨"RELAY_TAKE_PTJ", 0x000020, [], 1, .ro, 0x00000000, 0x00000000, 0xFFFF⟩,
  ⟨"RELAY_TAKE_PT", 0x000024, [], 1, .ro, 0x00000000, 0x00000000, 0xFFFF⟩,
  ⟨"RELAY_TAKE_JSEQ", 0x000028, [], 1, .ro, 0x00000000, 0x00000000, 0xFFFF⟩,
  ⟨"RELAY_TAKE_STAT", 0x00002C, [], 1, .ro, 0x00000000, 0x00000000, 0xFFFF⟩,
  ⟨"RELAY_TAKE_UNORD", 0x000030, [], 1, .ro, 0x00000000, 0x00000000, 0xFFFF⟩,
  ⟨"RELAY_GAP_LO", 0x000034, [], 1, .ro, 0x00000000, 0x00000000, 0xFFFF⟩,
  ⟨"RELAY_GAP_HI", 0x000038, [], 1, .ro, 0x00000000, 0x00000000, 0xFFFF⟩,
  ⟨"RELAY_GAP_STAT", 0x00003C, [], 1, .ro, 0x00000001, 0x00000000, 0xFFFF⟩,
  ⟨"RELAY_MIR_BASE_LO_n", 0x000100, [(0x10, 8)], 1, .rwm, 0x00000000, 0xFFFFF000, 0x14⟩,
  ⟨"RELAY_MIR_BASE_HI_n", 0x000104, [(0x10, 8)], 1, .rwm, 0x00000000, 0x0000FFFF, 0x14⟩,
  ⟨"RELAY_MIR_SIZE_n", 0x000108, [(0x10, 8)], 1, .rwm, 0x00000000, 0x1FFFFFFF, 0x14⟩,
  ⟨"RELAY_MIR_CTL_n", 0x00010C, [(0x10, 8)], 1, .rwm, 0x00000000, 0x00000001, 0x14⟩,
  ⟨"RELAY_MP_CFG_k", 0x000200, [(0x10, 16)], 1, .rwm, 0x00000000, 0xBFFFFFC0, 0x14⟩,
  ⟨"RELAY_MP_DB_k", 0x000204, [(0x10, 16)], 1, .wo, 0x00000000, 0x00000000, 0xFFFF⟩,
  ⟨"RELAY_MP_PROD_k", 0x000208, [(0x10, 16)], 1, .ro, 0x00000000, 0x00000000, 0xFFFF⟩,
  ⟨"RELAY_TAKE_CNT", 0x000400, [], 1, .ro, 0x00000000, 0x00000000, 0xFFFF⟩,
  ⟨"RELAY_MISMATCH_CNT", 0x000404, [], 1, .ro, 0x00000000, 0x00000000, 0xFFFF⟩,
  ⟨"RELAY_AUTH_CNT", 0x000408, [], 1, .ro, 0x00000000, 0x00000000, 0xFFFF⟩,
  ⟨"RELAY_RESEND_CNT", 0x00040C, [], 1, .ro, 0x00000000, 0x00000000, 0xFFFF⟩,
  ⟨"RELAY_STALL_CNT", 0x000410, [], 1, .ro, 0x00000000, 0x00000000, 0xFFFF⟩,
  ⟨"RELAY_SUPPRESS_CNT", 0x000414, [], 1, .ro, 0x00000000, 0x00000000, 0xFFFF⟩,
  ⟨"RELAY_MIR_DROP_CNT", 0x000418, [], 1, .ro, 0x00000000, 0x00000000, 0xFFFF⟩,
  ⟨"RELAY_HB_MISS_CNT", 0x00041C, [], 1, .ro, 0x00000000, 0x00000000, 0xFFFF⟩]

/-- Power and adaptive voltage block, base 0x4C00_0000: its registers by offset (R471). -/
def regRows12 : List RegRow := [
  ⟨"PWR_MODE", 0x000000, [], 1, .ro, 0x00000011, 0x00000000, 0xFFFF⟩,
  ⟨"PWR_CMD", 0x000004, [], 1, .wo, 0x00000000, 0x00000000, 0xFFFF⟩,
  ⟨"PWR_POLICY", 0x000008, [], 1, .rw, 0x00000000, 0x00000001, 0xFFFF⟩,
  ⟨"PWR_STBL_CFG", 0x00000C, [], 1, .rw, 0x0000000C, 0x0000000E, 0xFFFF⟩,
  ⟨"PWR_STBL_ENTER", 0x000010, [], 1, .rw, 0x00000000, 0xFFFFFFFF, 0xFFFF⟩,
  ⟨"PWR_STBL_WAKE", 0x000014, [], 1, .rw, 0x00000000, 0xFFFFFFFF, 0xFFFF⟩,
  ⟨"PWR_STBL_STAT", 0x000018, [], 1, .ro, 0x00000000, 0x00000000, 0xFFFF⟩,
  ⟨"PWR_WAKE_PT", 0x00001C, [], 1, .ro, 0x00000000, 0x00000000, 0xFFFF⟩,
  ⟨"PWR_RESET_CAUSE", 0x000020, [], 1, .ro, 0x00000001, 0x00000000, 0xFFFF⟩,
  ⟨"PWR_PD_CTL_d", 0x000100, [(0x4, 35)], 1, .rw, 0x00000000, 0x00000001, 0xFFFF⟩,
  ⟨"PWR_PD_STAT_d", 0x000200, [(0x4, 35)], 1, .ro, 0x00000000, 0x00000000, 0xFFFF⟩,
  ⟨"AVS_CFG", 0x010000, [], 1, .rwm, 0x00000000, 0x00000007, 0x14⟩,
  ⟨"AVS_RAIL_CFG_k", 0x010100, [(0x10, 8)], 1, .rwm, 0x00000000, 0x0001FF7F, 0x14⟩,
  ⟨"AVS_RAIL_MASK_k", 0x010104, [(0x10, 8)], 1, .rwm, 0x00000000, 0x7FFFFFFF, 0x14⟩,
  ⟨"AVS_RAIL_V_k", 0x010108, [(0x10, 8)], 1, .ro, 0x00000352, 0x00000000, 0xFFFF⟩,
  ⟨"AVS_RAIL_SLACK_k", 0x01010C, [(0x10, 8)], 1, .rw, 0x00000C06, 0x0000FFFF, 0xFFFF⟩,
  ⟨"AVS_CANARY_SEL", 0x010200, [], 1, .rw, 0x00000000, 0x000003FF, 0xFFFF⟩,
  ⟨"AVS_CANARY_VAL", 0x010204, [], 1, .ro, 0x00000000, 0x00000000, 0xFFFF⟩,
  ⟨"AVS_TRIP_CNT", 0x010208, [], 1, .ro, 0x00000000, 0x00000000, 0xFFFF⟩,
  ⟨"AVS_LINK_ERR_CNT", 0x01020C, [], 1, .ro, 0x00000000, 0x00000000, 0xFFFF⟩,
  ⟨"AGE_CFG", 0x020000, [], 1, .rw, 0x000F00A8, 0x00FFFFFF, 0xFFFF⟩,
  ⟨"AGE_HOURS", 0x020004, [], 1, .ro, 0x00000000, 0x00000000, 0xFFFF⟩,
  ⟨"AGE_SENS", 0x020008, [], 1, .ro, 0x00000000, 0x00000000, 0xFFFF⟩,
  ⟨"AGE_RO_i", 0x020100, [(0x4, 24)], 1, .ro, 0x00000000, 0x00000000, 0xFFFF⟩,
  ⟨"AGE_LIFE_k", 0x020200, [(0x4, 8)], 1, .ro, 0xFFFFFFFF, 0x00000000, 0xFFFF⟩,
  ⟨"AGE_RESERVE_k", 0x020300, [(0x4, 8)], 1, .ro, 0x00000000, 0x00000000, 0xFFFF⟩]

/-- Service pins block, base 0x4D00_0000: its registers by offset (R553). -/
def regRows13 : List RegRow := [
  ⟨"PERI_GATE", 0x000000, [], 1, .rw, 0x00000079, 0x0000007F, 0xFFFF⟩,
  ⟨"PIN_CFG_n", 0x000100, [(0x4, 1)], 1, .rw, 0x00000804, 0x00003FFF, 0xFFFF⟩,
  ⟨"PIN_CFG_n", 0x000104, [(0x4, 1)], 1, .rw, 0x00000814, 0x00003FFF, 0xFFFF⟩,
  ⟨"PIN_CFG_n", 0x000108, [(0x4, 1)], 1, .rw, 0x00000824, 0x00003FFF, 0xFFFF⟩,
  ⟨"PIN_CFG_n", 0x00010C, [(0x4, 1)], 1, .rw, 0x00000834, 0x00003FFF, 0xFFFF⟩,
  ⟨"PIN_CFG_n", 0x000110, [(0x4, 1)], 1, .rw, 0x00000806, 0x00003FFF, 0xFFFF⟩,
  ⟨"PIN_CFG_n", 0x000114, [(0x4, 1)], 1, .rw, 0x00000816, 0x00003FFF, 0xFFFF⟩,
  ⟨"PIN_CFG_n", 0x000118, [(0x4, 1)], 1, .rw, 0x00000826, 0x00003FFF, 0xFFFF⟩,
  ⟨"PIN_CFG_n", 0x00011C, [(0x4, 1)], 1, .rw, 0x00000805, 0x00003FFF, 0xFFFF⟩,
  ⟨"PIN_CFG_n", 0x000120, [(0x4, 1)], 1, .rw, 0x00000815, 0x00003FFF, 0xFFFF⟩,
  ⟨"PIN_CFG_n", 0x000124, [(0x4, 1)], 1, .rw, 0x00000801, 0x00003FFF, 0xFFFF⟩,
  ⟨"PIN_CFG_n", 0x000128, [(0x4, 1)], 1, .rw, 0x00000811, 0x00003FFF, 0xFFFF⟩,
  ⟨"PIN_CFG_n", 0x00012C, [(0x4, 35)], 1, .rw, 0x00000800, 0x00003FFF, 0xFFFF⟩,
  ⟨"PIN_CFG_n", 0x0001B8, [(0x4, 2)], 1, .rw, 0x00000808, 0x00003FFF, 0xFFFF⟩,
  ⟨"GPIO_DOUT_LO", 0x000200, [], 1, .rw, 0x00000000, 0xFFFFFFFF, 0xFFFF⟩,
  ⟨"GPIO_DOUT_HI", 0x000204, [], 1, .rw, 0x00000000, 0x0000FFFF, 0xFFFF⟩,
  ⟨"GPIO_DOUT_Q_LO", 0x000208, [], 1, .ro, 0x00000000, 0x00000000, 0xFFFF⟩,
  ⟨"GPIO_DOUT_Q_HI", 0x00020C, [], 1, .ro, 0x00000000, 0x00000000, 0xFFFF⟩,
  ⟨"GPIO_EDGE_LO", 0x000210, [], 1, .w1c, 0x00000000, 0xFFFFFFFF, 0xFFFF⟩,
  ⟨"GPIO_EDGE_HI", 0x000214, [], 1, .w1c, 0x00000000, 0x0000FFFF, 0xFFFF⟩,
  ⟨"UART_CFG_u", 0x010000, [(0x100, 2)], 1, .rw, 0x0008006C, 0x01FFFFFF, 0xFFFF⟩,
  ⟨"UART_DATA_u", 0x010004, [(0x100, 2)], 1, .rw, 0x00000000, 0xFFFFFFFF, 0xFFFF⟩,
  ⟨"UART_STAT_u", 0x010008, [(0x100, 2)], 1, .ro, 0x00000000, 0x00000000, 0xFFFF⟩,
  ⟨"UART_ERR_CNT_u", 0x01000C, [(0x100, 2)], 1, .ro, 0x00000000, 0x00000000, 0xFFFF⟩,
  ⟨"SPI1_CFG", 0x020000, [], 1, .rw, 0x00000003, 0x000003FF, 0xFFFF⟩,
  ⟨"SPI1_CMD", 0x020004, [], 1, .wo, 0x00000000, 0x00000000, 0xFFFF⟩,
  ⟨"SPI1_DATA", 0x020008, [], 1, .rw, 0x00000000, 0xFFFFFFFF, 0xFFFF⟩,
  ⟨"SPI1_STAT", 0x02000C, [], 1, .ro, 0x00000000, 0x00000000, 0xFFFF⟩,
  ⟨"I2C_CFG_i", 0x030000, [(0x100, 2)], 1, .rw, 0x00000001, 0x00000007, 0xFFFF⟩,
  ⟨"I2C_CMD_i", 0x030004, [(0x100, 2)], 1, .wo, 0x00000000, 0x00000000, 0xFFFF⟩,
  ⟨"I2C_STAT_i", 0x030008, [(0x100, 2)], 1, .ro, 0x00000000, 0x00000000, 0xFFFF⟩,
  ⟨"I2C_ERR_CNT_i", 0x03000C, [(0x100, 2)], 1, .ro, 0x00000000, 0x00000000, 0xFFFF⟩,
  ⟨"I2C_WBUF_i", 0x030040, [(0x100, 2), (0x4, 8)], 1, .rw, 0x00000000, 0xFFFFFFFF, 0xFFFF⟩,
  ⟨"I2C_RBUF_i", 0x030060, [(0x100, 2), (0x4, 8)], 1, .ro, 0x00000000, 0x00000000, 0xFFFF⟩]

/-- Debug block, base 0x4E00_0000: its registers by offset (R572). -/
def regRows14 : List RegRow := [
  ⟨"DBG_STAT", 0x000000, [], 1, .ro, 0x00000000, 0x00000000, 0xFFFF⟩,
  ⟨"DBG_CAN_HALT", 0x000010, [], 1, .wo, 0x00000000, 0x00000000, 0xFFFF⟩,
  ⟨"DBG_CAN_RESUME", 0x000014, [], 1, .wo, 0x00000000, 0x00000000, 0xFFFF⟩,
  ⟨"DBG_CAN_SEL", 0x000018, [], 1, .rw, 0x00000000, 0x000001FF, 0xFFFF⟩,
  ⟨"DBG_PAC_SNAP", 0x000020, [], 1, .rw, 0x00000000, 0x00000107, 0xFFFF⟩,
  ⟨"DBG_PAC_SNAP_PT", 0x000024, [], 1, .ro, 0x00000000, 0x00000000, 0xFFFF⟩,
  ⟨"DBG_MBOX_H2D", 0x000030, [], 1, .rw, 0x00000000, 0xFFFFFFFF, 0xFFFF⟩,
  ⟨"DBG_MBOX_D2H", 0x000034, [], 1, .rw, 0x00000000, 0xFFFFFFFF, 0xFFFF⟩,
  ⟨"DBG_MBOX_STAT", 0x000038, [], 1, .ro, 0x00000000, 0x00000000, 0xFFFF⟩,
  ⟨"DBG_CAN_REG_w", 0x001000, [(0x4, 128)], 1, .rw, 0x00000000, 0xFFFFFFFF, 0xFFFF⟩,
  ⟨"DBG_PAC_ENT_e", 0x010000, [(0x10, 2048)], 4, .ro, 0x00000000, 0x00000000, 0xFFFF⟩]

/-- The register rows of control block `b` (Table SCO-6). -/
def regRows : Nat → List RegRow
  | 0 => regRows0
  | 1 => regRows1
  | 2 => regRows2
  | 3 => regRows3
  | 4 => regRows4
  | 5 => regRows5
  | 6 => regRows6
  | 7 => regRows7
  | 8 => regRows8
  | 9 => regRows9
  | 10 => regRows10
  | 11 => regRows11
  | 12 => regRows12
  | 13 => regRows13
  | 14 => regRows14
  | _ => []

/-! The address of each register; an indexed register takes its indices in the order of its strides. -/

/-- TL_STATE, R59. -/
def Reg.TL_STATE : Nat := 0x41000000
/-- TL_CMD, R59. -/
def Reg.TL_CMD : Nat := 0x41000004
/-- TL_SNAP_LO, R59. -/
def Reg.TL_SNAP_LO : Nat := 0x41000010
/-- TL_SNAP_MID, R59. -/
def Reg.TL_SNAP_MID : Nat := 0x41000014
/-- TL_SNAP_HI, R59. -/
def Reg.TL_SNAP_HI : Nat := 0x41000018
/-- TL_SNAP_FPOS, R59. -/
def Reg.TL_SNAP_FPOS : Nat := 0x4100001C
/-- TL_NUMER, R59. -/
def Reg.TL_NUMER : Nat := 0x41000020
/-- TL_STEP_FRAC, R59. -/
def Reg.TL_STEP_FRAC : Nat := 0x41000030
/-- TL_STEP_LO, R59. -/
def Reg.TL_STEP_LO : Nat := 0x41000034
/-- TL_STEP_HI, R59. -/
def Reg.TL_STEP_HI : Nat := 0x41000038
/-- TL_LAST_CORR, R59. -/
def Reg.TL_LAST_CORR : Nat := 0x4100003C
/-- TL_LOOP_CFG, R59. -/
def Reg.TL_LOOP_CFG : Nat := 0x41000040
/-- TL_LOCK_CFG, R59. -/
def Reg.TL_LOCK_CFG : Nat := 0x41000044
/-- TL_PHASE_ERR, R59. -/
def Reg.TL_PHASE_ERR : Nat := 0x41000048
/-- TL_FREQ_EST, R59. -/
def Reg.TL_FREQ_EST : Nat := 0x4100004C
/-- TL_OSC_CFG, R59. -/
def Reg.TL_OSC_CFG : Nat := 0x41000050
/-- TL_OSC_A_HZ, R59. -/
def Reg.TL_OSC_A_HZ : Nat := 0x41000054
/-- TL_OSC_B_HZ, R59. -/
def Reg.TL_OSC_B_HZ : Nat := 0x41000058
/-- TL_OSC_STAT, R59. -/
def Reg.TL_OSC_STAT : Nat := 0x4100005C
/-- TL_PTP_MEAS, R59. -/
def Reg.TL_PTP_MEAS : Nat := 0x41000060
/-- TL_PTP_S_LO, R59. -/
def Reg.TL_PTP_S_LO : Nat := 0x41000064
/-- TL_PTP_S_HI, R59. -/
def Reg.TL_PTP_S_HI : Nat := 0x41000068
/-- TL_TOD_CFG, R59. -/
def Reg.TL_TOD_CFG : Nat := 0x41000070
/-- TL_TOD_S_LO, R59. -/
def Reg.TL_TOD_S_LO : Nat := 0x41000074
/-- TL_TOD_S_HI, R59. -/
def Reg.TL_TOD_S_HI : Nat := 0x41000078
/-- TL_REF_CFG_r, R59. -/
def Reg.TL_REF_CFG (i : Nat) : Nat := 0x41000100 + 0x10 * i
/-- TL_REF_DLY_r, R59. -/
def Reg.TL_REF_DLY (i : Nat) : Nat := 0x41000104 + 0x10 * i
/-- TL_REF_STAT_r, R59. -/
def Reg.TL_REF_STAT (i : Nat) : Nat := 0x41000108 + 0x10 * i
/-- TL_REF_OFS_r, R59. -/
def Reg.TL_REF_OFS (i : Nat) : Nat := 0x4100010C + 0x10 * i
/-- PPS_OUT_CFG, R59. -/
def Reg.PPS_OUT_CFG : Nat := 0x41010000
/-- PPS_OUT_OFS, R59. -/
def Reg.PPS_OUT_OFS : Nat := 0x41010004
/-- PPS_OUT_WIDTH, R59. -/
def Reg.PPS_OUT_WIDTH : Nat := 0x41010008
/-- TO_CTL_n, R59. -/
def Reg.TO_CTL (i : Nat) : Nat := 0x41020000 + 0x40 * i
/-- TO_EDGE_S_n, R59. -/
def Reg.TO_EDGE_S (i : Nat) : Nat := 0x41020004 + 0x40 * i
/-- TO_EDGE_T_n, R59. -/
def Reg.TO_EDGE_T (i : Nat) : Nat := 0x41020008 + 0x40 * i
/-- TO_PERIOD_n, R59. -/
def Reg.TO_PERIOD (i : Nat) : Nat := 0x4102000C + 0x40 * i
/-- TO_WIDTH_n, R59. -/
def Reg.TO_WIDTH (i : Nat) : Nat := 0x41020010 + 0x40 * i
/-- TO_STAT_n, R59. -/
def Reg.TO_STAT (i : Nat) : Nat := 0x41020014 + 0x40 * i
/-- TSI_CFG_n, R59. -/
def Reg.TSI_CFG (i : Nat) : Nat := 0x41030000 + 0x40 * i
/-- TSI_LO_n, R59. -/
def Reg.TSI_LO (i : Nat) : Nat := 0x41030004 + 0x40 * i
/-- TSI_MID_n, R59. -/
def Reg.TSI_MID (i : Nat) : Nat := 0x41030008 + 0x40 * i
/-- TSI_HI_n, R59. -/
def Reg.TSI_HI (i : Nat) : Nat := 0x4103000C + 0x40 * i
/-- TSI_STAT_n, R59. -/
def Reg.TSI_STAT (i : Nat) : Nat := 0x41030010 + 0x40 * i
/-- TSI_DROP_n, R59. -/
def Reg.TSI_DROP (i : Nat) : Nat := 0x41030014 + 0x40 * i
/-- FSYN_CTL_n, R59. -/
def Reg.FSYN_CTL (i : Nat) : Nat := 0x41040000 + 0x20 * i
/-- FSYN_NUM_n, R59. -/
def Reg.FSYN_NUM (i : Nat) : Nat := 0x41040004 + 0x20 * i
/-- FSYN_DEN_n, R59. -/
def Reg.FSYN_DEN (i : Nat) : Nat := 0x41040008 + 0x20 * i
/-- FSYN_ANCHOR_S_n, R59. -/
def Reg.FSYN_ANCHOR_S (i : Nat) : Nat := 0x4104000C + 0x20 * i
/-- FSYN_ANCHOR_T_n, R59. -/
def Reg.FSYN_ANCHOR_T (i : Nat) : Nat := 0x41040010 + 0x20 * i
/-- HO_CTL, R81. -/
def Reg.HO_CTL : Nat := 0x41100000
/-- HO_CMD, R81. -/
def Reg.HO_CMD : Nat := 0x41100004
/-- HO_STAT, R81. -/
def Reg.HO_STAT : Nat := 0x41100008
/-- HO_LIMIT, R81. -/
def Reg.HO_LIMIT : Nat := 0x4110000C
/-- HO_REF_UNC, R81. -/
def Reg.HO_REF_UNC : Nat := 0x41100010
/-- HO_UNC, R81. -/
def Reg.HO_UNC : Nat := 0x41100014
/-- HO_ELAPSED, R81. -/
def Reg.HO_ELAPSED : Nat := 0x41100018
/-- HO_PREDICT, R81. -/
def Reg.HO_PREDICT : Nat := 0x4110001C
/-- HO_TSENS_CFG, R81. -/
def Reg.HO_TSENS_CFG : Nat := 0x41100020
/-- HO_TEMP, R81. -/
def Reg.HO_TEMP : Nat := 0x41100024
/-- HO_MODEL_k_j, R81. -/
def Reg.HO_MODEL (i j : Nat) : Nat := 0x41100100 + 0x40 * i + 0x4 * j
/-- CAL_CTL, R81. -/
def Reg.CAL_CTL : Nat := 0x41110000
/-- CAL_STAT, R81. -/
def Reg.CAL_STAT : Nat := 0x41110004
/-- CAL_S_LO, R81. -/
def Reg.CAL_S_LO : Nat := 0x41110008
/-- CAL_S_HI, R81. -/
def Reg.CAL_S_HI : Nat := 0x4111000C
/-- CAL_TRIM, R81. -/
def Reg.CAL_TRIM : Nat := 0x41110010
/-- CAL_UTC_OFS, R81. -/
def Reg.CAL_UTC_OFS : Nat := 0x41110014
/-- CAL_SET_LO, R81. -/
def Reg.CAL_SET_LO : Nat := 0x41110018
/-- CAL_SET_HI, R81. -/
def Reg.CAL_SET_HI : Nat := 0x4111001C
/-- CAL_LEAP_LO, R81. -/
def Reg.CAL_LEAP_LO : Nat := 0x41110020
/-- CAL_LEAP_HI, R81. -/
def Reg.CAL_LEAP_HI : Nat := 0x41110024
/-- TLOG_STAT, R81. -/
def Reg.TLOG_STAT : Nat := 0x41110030
/-- BBK_STORE, R81. -/
def Reg.BBK_STORE (i : Nat) : Nat := 0x41180000 + 0x4 * i
/-- PAC_CTL, R122. -/
def Reg.PAC_CTL : Nat := 0x42000000
/-- PAC_STAT, R122. -/
def Reg.PAC_STAT : Nat := 0x42000004
/-- PAC_NOW, R122. -/
def Reg.PAC_NOW : Nat := 0x42000008
/-- PAC_MIN_LEAD, R122. -/
def Reg.PAC_MIN_LEAD : Nat := 0x4200000C
/-- PAC_TOK_BASE, R122. -/
def Reg.PAC_TOK_BASE : Nat := 0x42000010
/-- PAC_PREEMPT_SLACK, R122. -/
def Reg.PAC_PREEMPT_SLACK : Nat := 0x42000014
/-- PAC_ADM_LAST, R122. -/
def Reg.PAC_ADM_LAST : Nat := 0x42000018
/-- PAC_ADMIT_n, R122. -/
def Reg.PAC_ADMIT (i : Nat) : Nat := 0x42000100 + 0x4 * i
/-- PAC_REFUSE_CNT_k, R122. -/
def Reg.PAC_REFUSE_CNT (i : Nat) : Nat := 0x42000200 + 0x4 * i
/-- PAC_LIST_FILL_l, R122. -/
def Reg.PAC_LIST_FILL (i : Nat) : Nat := 0x42000300 + 0x4 * i
/-- PAC_GRP_W_g, R122. -/
def Reg.PAC_GRP_W (i : Nat) : Nat := 0x42000400 + 0x10 * i
/-- PAC_GRP_LIM_g, R122. -/
def Reg.PAC_GRP_LIM (i : Nat) : Nat := 0x42000404 + 0x10 * i
/-- PAC_GRP_OUT_g, R122. -/
def Reg.PAC_GRP_OUT (i : Nat) : Nat := 0x42000408 + 0x10 * i
/-- PAC_GRP_DISP_g, R122. -/
def Reg.PAC_GRP_DISP (i : Nat) : Nat := 0x4200040C + 0x10 * i
/-- PAC_DISP_CNT_c, R122. -/
def Reg.PAC_DISP_CNT (i : Nat) : Nat := 0x42000500 + 0x4 * i
/-- PAC_REL_CNT, R122. -/
def Reg.PAC_REL_CNT : Nat := 0x42000510
/-- PAC_REL_SLIP_CNT, R122. -/
def Reg.PAC_REL_SLIP_CNT : Nat := 0x42000514
/-- PAC_START_SLIP_CNT, R122. -/
def Reg.PAC_START_SLIP_CNT : Nat := 0x42000518
/-- PAC_LATE_DONE_CNT, R122. -/
def Reg.PAC_LATE_DONE_CNT : Nat := 0x4200051C
/-- PAC_TIMED_DROP_CNT, R122. -/
def Reg.PAC_TIMED_DROP_CNT : Nat := 0x42000520
/-- PAC_FLOW_CFG_f, R122. -/
def Reg.PAC_FLOW_CFG (i : Nat) : Nat := 0x42010000 + 0x8 * i
/-- PAC_FLOW_STAT_f, R122. -/
def Reg.PAC_FLOW_STAT (i : Nat) : Nat := 0x42010004 + 0x8 * i
/-- PAC_HP_CFG_p, R122. -/
def Reg.PAC_HP_CFG (i : Nat) : Nat := 0x42020000 + 0x4 * i
/-- PAC_GRAPH_CFG_q, R122. -/
def Reg.PAC_GRAPH_CFG (i : Nat) : Nat := 0x42030000 + 0x4 * i
/-- PAC_TOK_STAT_i, R122. -/
def Reg.PAC_TOK_STAT (i : Nat) : Nat := 0x42040000 + 0x4 * i
/-- RB_CFG, R147. -/
def Reg.RB_CFG : Nat := 0x42100000
/-- RB_TLC_GROUPS, R147. -/
def Reg.RB_TLC_GROUPS : Nat := 0x42100004
/-- RB_STAT, R147. -/
def Reg.RB_STAT : Nat := 0x42100008
/-- RB_TOK_CLR, R147. -/
def Reg.RB_TOK_CLR : Nat := 0x4210000C
/-- RB_TEST, R147. -/
def Reg.RB_TEST : Nat := 0x42100010
/-- RB_TRIG_CNT_k, R147. -/
def Reg.RB_TRIG_CNT (i : Nat) : Nat := 0x42100020 + 0x4 * i
/-- RB_TAINT_CNT, R147. -/
def Reg.RB_TAINT_CNT : Nat := 0x42100040
/-- RB_REDO_CNT, R147. -/
def Reg.RB_REDO_CNT : Nat := 0x42100044
/-- RB_LOSS_CNT, R147. -/
def Reg.RB_LOSS_CNT : Nat := 0x42100048
/-- RB_WHOLESALE_CNT, R147. -/
def Reg.RB_WHOLESALE_CNT : Nat := 0x4210004C
/-- RB_POST_CNT, R147. -/
def Reg.RB_POST_CNT : Nat := 0x42100050
/-- RB_UNATTR_CNT, R147. -/
def Reg.RB_UNATTR_CNT : Nat := 0x42100054
/-- RB_POST_LO, R147. -/
def Reg.RB_POST_LO : Nat := 0x42100060
/-- RB_POST_HI, R147. -/
def Reg.RB_POST_HI : Nat := 0x42100064
/-- RB_LOSS_LO, R147. -/
def Reg.RB_LOSS_LO : Nat := 0x42100070
/-- RB_LOSS_HI, R147. -/
def Reg.RB_LOSS_HI : Nat := 0x42100074
/-- RB_LOSS_STAT, R147. -/
def Reg.RB_LOSS_STAT : Nat := 0x42100078
/-- RB_REC_n, R147. -/
def Reg.RB_REC (i : Nat) : Nat := 0x42110000 + 0x10 * i
/-- CA_CTL, R177. -/
def Reg.CA_CTL : Nat := 0x48000000
/-- CA_STAT, R177. -/
def Reg.CA_STAT : Nat := 0x48000004
/-- CA_SAVE_BASE, R177. -/
def Reg.CA_SAVE_BASE : Nat := 0x48000008
/-- CA_WIN_SEL, R177. -/
def Reg.CA_WIN_SEL : Nat := 0x4800000C
/-- CA_TEAM_OPS_t, R177. -/
def Reg.CA_TEAM_OPS (i : Nat) : Nat := 0x48000010 + 0x4 * i
/-- CA_TEAM_ABANDON_t, R177. -/
def Reg.CA_TEAM_ABANDON (i : Nat) : Nat := 0x48000020 + 0x4 * i
/-- CA_TEAM_PREEMPT_t, R177. -/
def Reg.CA_TEAM_PREEMPT (i : Nat) : Nat := 0x48000030 + 0x4 * i
/-- CA_TEAM_EXC_t, R177. -/
def Reg.CA_TEAM_EXC (i : Nat) : Nat := 0x48000040 + 0x4 * i
/-- CA_TEAM_BUSY_t, R177. -/
def Reg.CA_TEAM_BUSY (i : Nat) : Nat := 0x48000080 + 0x8 * i
/-- CA_CORE_CFG_c, R177. -/
def Reg.CA_CORE_CFG (i : Nat) : Nat := 0x48001000 + 0x4 * i
/-- CA_CORE_STAT_c, R177. -/
def Reg.CA_CORE_STAT (i : Nat) : Nat := 0x48001400 + 0x4 * i
/-- CA_CORE_SLOT_c, R177. -/
def Reg.CA_CORE_SLOT (i : Nat) : Nat := 0x48001800 + 0x4 * i
/-- CA_IMEM_t, R177. -/
def Reg.CA_IMEM (i j : Nat) : Nat := 0x48100000 + 0x10000 * i + 0x4 * j
/-- CA_WIN_X, R177. -/
def Reg.CA_WIN_X (i : Nat) : Nat := 0x48200000 + 0x4 * i
/-- CA_WIN_Y, R177. -/
def Reg.CA_WIN_Y (i : Nat) : Nat := 0x48208000 + 0x4 * i
/-- CA_WIN_C, R177. -/
def Reg.CA_WIN_C (i : Nat) : Nat := 0x48210000 + 0x4 * i
/-- CA_WIN_I, R177. -/
def Reg.CA_WIN_I (i : Nat) : Nat := 0x48218000 + 0x4 * i
/-- GCK_CFG_k, R228. -/
def Reg.GCK_CFG (i : Nat) : Nat := 0x44300000 + 0x8 * i
/-- GCK_STAT_k, R228. -/
def Reg.GCK_STAT (i : Nat) : Nat := 0x44300004 + 0x8 * i
/-- BM_FLIP_SEL, R228. -/
def Reg.BM_FLIP_SEL : Nat := 0x44310000
/-- BM_FLIP_0, R228. -/
def Reg.BM_FLIP_0 : Nat := 0x44310004
/-- BM_FLIP_1, R228. -/
def Reg.BM_FLIP_1 : Nat := 0x44310008
/-- BM_FLIP_2, R228. -/
def Reg.BM_FLIP_2 : Nat := 0x4431000C
/-- FAB_SBE_p, R228. -/
def Reg.FAB_SBE (i : Nat) : Nat := 0x44320000 + 0x10 * i
/-- FAB_DBE_p, R228. -/
def Reg.FAB_DBE (i : Nat) : Nat := 0x44320004 + 0x10 * i
/-- FAB_COLL_p, R228. -/
def Reg.FAB_COLL (i : Nat) : Nat := 0x44320008 + 0x10 * i
/-- FAB_OVF_p, R228. -/
def Reg.FAB_OVF (i : Nat) : Nat := 0x4432000C + 0x10 * i
/-- CFG_CTL, R255. -/
def Reg.CFG_CTL : Nat := 0x44000000
/-- CFG_CMD, R255. -/
def Reg.CFG_CMD : Nat := 0x44000004
/-- CFG_STAT, R255. -/
def Reg.CFG_STAT : Nat := 0x44000008
/-- CFG_ERR_AT, R255. -/
def Reg.CFG_ERR_AT : Nat := 0x4400000C
/-- CFG_SRC_LO, R255. -/
def Reg.CFG_SRC_LO : Nat := 0x44000010
/-- CFG_SRC_HI, R255. -/
def Reg.CFG_SRC_HI : Nat := 0x44000014
/-- CFG_PR_TICK, R255. -/
def Reg.CFG_PR_TICK : Nat := 0x44000018
/-- CFG_TIMEOUT, R255. -/
def Reg.CFG_TIMEOUT : Nat := 0x4400001C
/-- CFG_TGT_n, R255. -/
def Reg.CFG_TGT (i : Nat) : Nat := 0x44000020 + 0x4 * i
/-- CFG_STRAP, R255. -/
def Reg.CFG_STRAP : Nat := 0x44000034
/-- CFG_PROGRESS, R255. -/
def Reg.CFG_PROGRESS : Nat := 0x44000038
/-- CFG_LAST_US, R255. -/
def Reg.CFG_LAST_US : Nat := 0x4400003C
/-- CFG_BUILD_LO, R255. -/
def Reg.CFG_BUILD_LO : Nat := 0x44000040
/-- CFG_BUILD_HI, R255. -/
def Reg.CFG_BUILD_HI : Nat := 0x44000044
/-- CFG_RET_FILL, R255. -/
def Reg.CFG_RET_FILL : Nat := 0x44000048
/-- CFG_PAD_STAT_p, R255. -/
def Reg.CFG_PAD_STAT (i : Nat) : Nat := 0x44000100 + 0x4 * i
/-- CFG_ERR_CNT_k, R255. -/
def Reg.CFG_ERR_CNT (i : Nat) : Nat := 0x44000400 + 0x4 * i
/-- CFG_LOAD_CNT, R255. -/
def Reg.CFG_LOAD_CNT : Nat := 0x44000500
/-- FAR_CTL, R276. -/
def Reg.FAR_CTL : Nat := 0x44100000
/-- FAR_CMD, R276. -/
def Reg.FAR_CMD : Nat := 0x44100004
/-- FAR_STAT, R276. -/
def Reg.FAR_STAT : Nat := 0x44100008
/-- FAR_RATE, R276. -/
def Reg.FAR_RATE : Nat := 0x4410000C
/-- FAR_TGT, R276. -/
def Reg.FAR_TGT : Nat := 0x44100010
/-- FAR_TMAX, R276. -/
def Reg.FAR_TMAX : Nat := 0x44100014
/-- FAR_LAMBDA, R276. -/
def Reg.FAR_LAMBDA : Nat := 0x44100018
/-- FAR_CYCLE_A, R276. -/
def Reg.FAR_CYCLE_A : Nat := 0x4410001C
/-- FAR_CYCLE_B, R276. -/
def Reg.FAR_CYCLE_B : Nat := 0x44100020
/-- FAR_SEQ_A, R276. -/
def Reg.FAR_SEQ_A : Nat := 0x44100024
/-- FAR_SEQ_B, R276. -/
def Reg.FAR_SEQ_B : Nat := 0x44100028
/-- FAR_PRIO_n, R276. -/
def Reg.FAR_PRIO (i : Nat) : Nat := 0x44100030 + 0x4 * i
/-- FAR_INJ_FA, R276. -/
def Reg.FAR_INJ_FA : Nat := 0x44100050
/-- FAR_INJ_BIT, R276. -/
def Reg.FAR_INJ_BIT : Nat := 0x44100054
/-- FAR_LOG_w, R276. -/
def Reg.FAR_LOG (i : Nat) : Nat := 0x44100060 + 0x4 * i
/-- FAR_LOG_STAT, R276. -/
def Reg.FAR_LOG_STAT : Nat := 0x44100070
/-- FAR_TMR_CNT, R276. -/
def Reg.FAR_TMR_CNT : Nat := 0x44100080
/-- FAR_CYCLE_CNT, R276. -/
def Reg.FAR_CYCLE_CNT : Nat := 0x44100084
/-- FAR_PASS_CNT, R276. -/
def Reg.FAR_PASS_CNT : Nat := 0x44100088
/-- FAR_REFETCH_CNT, R276. -/
def Reg.FAR_REFETCH_CNT : Nat := 0x4410008C
/-- FAR_CONT_CNT, R276. -/
def Reg.FAR_CONT_CNT : Nat := 0x44100090
/-- FAR_STUCK_CNT, R276. -/
def Reg.FAR_STUCK_CNT : Nat := 0x44100094
/-- FAR_QFULL_CNT, R276. -/
def Reg.FAR_QFULL_CNT : Nat := 0x44100098
/-- FAR_STALL_CNT, R276. -/
def Reg.FAR_STALL_CNT : Nat := 0x4410009C
/-- FAR_PAD_STAT_p, R276. -/
def Reg.FAR_PAD_STAT (i : Nat) : Nat := 0x44200000 + 0x10 * i
/-- FAR_PAD_CORR_p, R276. -/
def Reg.FAR_PAD_CORR (i : Nat) : Nat := 0x44200004 + 0x10 * i
/-- FAR_PAD_UNC_p, R276. -/
def Reg.FAR_PAD_UNC (i : Nat) : Nat := 0x44200008 + 0x10 * i
/-- FAR_PAD_LAST_p, R276. -/
def Reg.FAR_PAD_LAST (i : Nat) : Nat := 0x4420000C + 0x10 * i
/-- NOC_CTL, R303. -/
def Reg.NOC_CTL : Nat := 0x43000000
/-- NOC_STAT, R303. -/
def Reg.NOC_STAT : Nat := 0x43000004
/-- NOC_DECODE_CNT, R303. -/
def Reg.NOC_DECODE_CNT : Nat := 0x43000010
/-- NOC_E2E_CNT, R303. -/
def Reg.NOC_E2E_CNT : Nat := 0x43000014
/-- NOC_LAST_ERR, R303. -/
def Reg.NOC_LAST_ERR : Nat := 0x43000018
/-- NOC_LAST_ADDR, R303. -/
def Reg.NOC_LAST_ADDR : Nat := 0x4300001C
/-- NOC_LINK_RETRY_r, R303. -/
def Reg.NOC_LINK_RETRY (i : Nat) : Nat := 0x43001000 + 0x4 * i
/-- NOC_INIT_CFG_i, R303. -/
def Reg.NOC_INIT_CFG (i : Nat) : Nat := 0x43010000 + 0x4 * i
/-- NOC_CURB_RATE_n, R303. -/
def Reg.NOC_CURB_RATE (i : Nat) : Nat := 0x43020000 + 0x10 * i
/-- NOC_CURB_BURST_n, R303. -/
def Reg.NOC_CURB_BURST (i : Nat) : Nat := 0x43020004 + 0x10 * i
/-- NOC_CURB_LEVEL_n, R303. -/
def Reg.NOC_CURB_LEVEL (i : Nat) : Nat := 0x43020008 + 0x10 * i
/-- NOC_CURB_REFUSE_n, R303. -/
def Reg.NOC_CURB_REFUSE (i : Nat) : Nat := 0x4302000C + 0x10 * i
/-- NOC_MON_CFG_m, R303. -/
def Reg.NOC_MON_CFG (i : Nat) : Nat := 0x43030000 + 0x20 * i
/-- NOC_MON_BYTES_m, R303. -/
def Reg.NOC_MON_BYTES (i : Nat) : Nat := 0x43030004 + 0x20 * i
/-- NOC_MON_REQ_m, R303. -/
def Reg.NOC_MON_REQ (i : Nat) : Nat := 0x4303000C + 0x20 * i
/-- NOC_MON_REF_m, R303. -/
def Reg.NOC_MON_REF (i : Nat) : Nat := 0x43030010 + 0x20 * i
/-- NOC_MON_LSUM_m, R303. -/
def Reg.NOC_MON_LSUM (i : Nat) : Nat := 0x43030014 + 0x20 * i
/-- NOC_MON_LMAX_m, R303. -/
def Reg.NOC_MON_LMAX (i : Nat) : Nat := 0x4303001C + 0x20 * i
/-- NOC_MON_CLR, R303. -/
def Reg.NOC_MON_CLR : Nat := 0x43031000
/-- SP_BANK_CFG_b, R303. -/
def Reg.SP_BANK_CFG (i : Nat) : Nat := 0x43080000 + 0x10 * i
/-- SP_BANK_STAT_b, R303. -/
def Reg.SP_BANK_STAT (i : Nat) : Nat := 0x43080004 + 0x10 * i
/-- SP_BANK_SBE_b, R303. -/
def Reg.SP_BANK_SBE (i : Nat) : Nat := 0x43080008 + 0x10 * i
/-- SP_BANK_DBE_b, R303. -/
def Reg.SP_BANK_DBE (i : Nat) : Nat := 0x4308000C + 0x10 * i
/-- SP_FLIP_SEL, R303. -/
def Reg.SP_FLIP_SEL : Nat := 0x43090000
/-- SP_FLIP_0, R303. -/
def Reg.SP_FLIP_0 : Nat := 0x43090004
/-- SP_FLIP_1, R303. -/
def Reg.SP_FLIP_1 : Nat := 0x43090008
/-- SP_FLIP_2, R303. -/
def Reg.SP_FLIP_2 : Nat := 0x4309000C
/-- MEM_CFG_h, R330. -/
def Reg.MEM_CFG (i : Nat) : Nat := 0x45000000 + 0x100000 * i
/-- MEM_CMD_h, R330. -/
def Reg.MEM_CMD (i : Nat) : Nat := 0x45000004 + 0x100000 * i
/-- MEM_STAT_h, R330. -/
def Reg.MEM_STAT (i : Nat) : Nat := 0x45000008 + 0x100000 * i
/-- MEM_BA_MASK_0_h, R330. -/
def Reg.MEM_BA_MASK_0 (i : Nat) : Nat := 0x4500000C + 0x100000 * i
/-- MEM_BA_MASK_1_h, R330. -/
def Reg.MEM_BA_MASK_1 (i : Nat) : Nat := 0x45000010 + 0x100000 * i
/-- MEM_BG_MASK_0_h, R330. -/
def Reg.MEM_BG_MASK_0 (i : Nat) : Nat := 0x45000014 + 0x100000 * i
/-- MEM_BG_MASK_1_h, R330. -/
def Reg.MEM_BG_MASK_1 (i : Nat) : Nat := 0x45000018 + 0x100000 * i
/-- MEM_BG_MASK_2_h, R330. -/
def Reg.MEM_BG_MASK_2 (i : Nat) : Nat := 0x4500001C + 0x100000 * i
/-- MEM_TRAIN_CFG_h, R330. -/
def Reg.MEM_TRAIN_CFG (i : Nat) : Nat := 0x45000020 + 0x100000 * i
/-- MEM_SLOT_PERIOD_h, R330. -/
def Reg.MEM_SLOT_PERIOD (i : Nat) : Nat := 0x45000024 + 0x100000 * i
/-- MEM_SLOT_OFS_h, R330. -/
def Reg.MEM_SLOT_OFS (i : Nat) : Nat := 0x45000028 + 0x100000 * i
/-- MEM_PATROL_h, R330. -/
def Reg.MEM_PATROL (i : Nat) : Nat := 0x4500002C + 0x100000 * i
/-- MEM_SPARE_h, R330. -/
def Reg.MEM_SPARE (i : Nat) : Nat := 0x45000030 + 0x100000 * i
/-- MEM_RETIRE_ARG_h, R330. -/
def Reg.MEM_RETIRE_ARG (i : Nat) : Nat := 0x45000034 + 0x100000 * i
/-- MEM_RETIRE_ROW_h, R330. -/
def Reg.MEM_RETIRE_ROW (i : Nat) : Nat := 0x45000038 + 0x100000 * i
/-- MEM_CE_CNT_h, R330. -/
def Reg.MEM_CE_CNT (i : Nat) : Nat := 0x45000040 + 0x100000 * i
/-- MEM_UE_CNT_h, R330. -/
def Reg.MEM_UE_CNT (i : Nat) : Nat := 0x45000044 + 0x100000 * i
/-- MEM_REF_BURST_CNT_h, R330. -/
def Reg.MEM_REF_BURST_CNT (i : Nat) : Nat := 0x45000048 + 0x100000 * i
/-- MEM_TRAIN_CNT_h, R330. -/
def Reg.MEM_TRAIN_CNT (i : Nat) : Nat := 0x4500004C + 0x100000 * i
/-- MEM_TRAIN_FORCED_CNT_h, R330. -/
def Reg.MEM_TRAIN_FORCED_CNT (i : Nat) : Nat := 0x45000050 + 0x100000 * i
/-- MEM_MERGE_CNT_h, R330. -/
def Reg.MEM_MERGE_CNT (i : Nat) : Nat := 0x45000054 + 0x100000 * i
/-- MEM_FLIP_w_h, R330. -/
def Reg.MEM_FLIP (i j : Nat) : Nat := 0x45000060 + 0x100000 * i + 0x4 * j
/-- MEM_FLIP_4_h, R330. -/
def Reg.MEM_FLIP_4 (i : Nat) : Nat := 0x45000070 + 0x100000 * i
/-- MEM_FLIP_CTL_h, R330. -/
def Reg.MEM_FLIP_CTL (i : Nat) : Nat := 0x45000074 + 0x100000 * i
/-- MEM_LOG_w_h, R330. -/
def Reg.MEM_LOG (i j : Nat) : Nat := 0x45000080 + 0x100000 * i + 0x4 * j
/-- MEM_LOG_STAT_h, R330. -/
def Reg.MEM_LOG_STAT (i : Nat) : Nat := 0x45000090 + 0x100000 * i
/-- MEM_REMAP_n_h, R330. -/
def Reg.MEM_REMAP (i j : Nat) : Nat := 0x45001000 + 0x100000 * i + 0x4 * j
/-- MEM_MAP, R330. -/
def Reg.MEM_MAP : Nat := 0x45400000
/-- MEM_CH_MASK_0_LO, R330. -/
def Reg.MEM_CH_MASK_0_LO : Nat := 0x45400004
/-- MEM_CH_MASK_0_HI, R330. -/
def Reg.MEM_CH_MASK_0_HI : Nat := 0x45400008
/-- MEM_CH_MASK_1_LO, R330. -/
def Reg.MEM_CH_MASK_1_LO : Nat := 0x4540000C
/-- MEM_CH_MASK_1_HI, R330. -/
def Reg.MEM_CH_MASK_1_HI : Nat := 0x45400010
/-- CXL_CTL, R330. -/
def Reg.CXL_CTL : Nat := 0x45500000
/-- CXL_STAT, R330. -/
def Reg.CXL_STAT : Nat := 0x45500004
/-- CXL_TIMEOUT, R330. -/
def Reg.CXL_TIMEOUT : Nat := 0x45500008
/-- CXL_TO_CNT, R330. -/
def Reg.CXL_TO_CNT : Nat := 0x4550000C
/-- CXL_POISON_CNT, R330. -/
def Reg.CXL_POISON_CNT : Nat := 0x45500010
/-- CXL_DEC_BASE_d, R330. -/
def Reg.CXL_DEC_BASE (i : Nat) : Nat := 0x45500100 + 0x10 * i
/-- CXL_DEC_SIZE_d, R330. -/
def Reg.CXL_DEC_SIZE (i : Nat) : Nat := 0x45500104 + 0x10 * i
/-- CXL_DEC_CTL_d, R330. -/
def Reg.CXL_DEC_CTL (i : Nat) : Nat := 0x45500108 + 0x10 * i
/-- PCIE_STAT, R330. -/
def Reg.PCIE_STAT : Nat := 0x45580000
/-- PCIE_OB_BASE_LO, R330. -/
def Reg.PCIE_OB_BASE_LO : Nat := 0x45580004
/-- PCIE_OB_BASE_HI, R330. -/
def Reg.PCIE_OB_BASE_HI : Nat := 0x45580008
/-- PCIE_BAR4_TGT, R330. -/
def Reg.PCIE_BAR4_TGT : Nat := 0x4558000C
/-- CXL_IO_WIN, R330. -/
def Reg.CXL_IO_WIN (i : Nat) : Nat := 0x45600000 + 0x4 * i
/-- CXL_ECAM, R330. -/
def Reg.CXL_ECAM (i : Nat) : Nat := 0x45700000 + 0x4 * i
/-- IMP_CTL, R355. -/
def Reg.IMP_CTL : Nat := 0x45B00000
/-- IMP_STAT, R355. -/
def Reg.IMP_STAT : Nat := 0x45B00004
/-- IMP_AWAIT_DMA, R355. -/
def Reg.IMP_AWAIT_DMA : Nat := 0x45B00008
/-- IMP_AWAIT_MISC, R355. -/
def Reg.IMP_AWAIT_MISC : Nat := 0x45B0000C
/-- IMP_ROLL_CMD, R355. -/
def Reg.IMP_ROLL_CMD : Nat := 0x45B00010
/-- IMP_ROLL_STAT, R355. -/
def Reg.IMP_ROLL_STAT : Nat := 0x45B00014
/-- IMP_ROLL_B_LO, R355. -/
def Reg.IMP_ROLL_B_LO : Nat := 0x45B00018
/-- IMP_ROLL_B_HI, R355. -/
def Reg.IMP_ROLL_B_HI : Nat := 0x45B0001C
/-- IMP_ROLL_TMAX, R355. -/
def Reg.IMP_ROLL_TMAX : Nat := 0x45B00020
/-- IMP_RESEED, R355. -/
def Reg.IMP_RESEED : Nat := 0x45B00024
/-- IMP_TAG_FLIP, R355. -/
def Reg.IMP_TAG_FLIP : Nat := 0x45B00028
/-- IMP_TAG_FAIL_CNT, R355. -/
def Reg.IMP_TAG_FAIL_CNT : Nat := 0x45B00040
/-- IMP_ALARM_CNT, R355. -/
def Reg.IMP_ALARM_CNT : Nat := 0x45B00044
/-- IMP_NODE_FIX_CNT, R355. -/
def Reg.IMP_NODE_FIX_CNT : Nat := 0x45B00048
/-- IMP_POISON_CNT, R355. -/
def Reg.IMP_POISON_CNT : Nat := 0x45B0004C
/-- IMP_ROLL_RETRY_CNT, R355. -/
def Reg.IMP_ROLL_RETRY_CNT : Nat := 0x45B00050
/-- IMP_NODE_CE_CNT, R355. -/
def Reg.IMP_NODE_CE_CNT : Nat := 0x45B00054
/-- IMP_LOG_w, R355. -/
def Reg.IMP_LOG (i : Nat) : Nat := 0x45B00080 + 0x4 * i
/-- IMP_LOG_STAT, R355. -/
def Reg.IMP_LOG_STAT : Nat := 0x45B00090
/-- IMP_RNG_BASE_LO_n, R355. -/
def Reg.IMP_RNG_BASE_LO (i : Nat) : Nat := 0x45B10000 + 0x20 * i
/-- IMP_RNG_BASE_HI_n, R355. -/
def Reg.IMP_RNG_BASE_HI (i : Nat) : Nat := 0x45B10004 + 0x20 * i
/-- IMP_RNG_SIZE_n, R355. -/
def Reg.IMP_RNG_SIZE (i : Nat) : Nat := 0x45B10008 + 0x20 * i
/-- IMP_RNG_CTL_n, R355. -/
def Reg.IMP_RNG_CTL (i : Nat) : Nat := 0x45B1000C + 0x20 * i
/-- IMP_RNG_META_LO_n, R355. -/
def Reg.IMP_RNG_META_LO (i : Nat) : Nat := 0x45B10010 + 0x20 * i
/-- IMP_RNG_META_HI_n, R355. -/
def Reg.IMP_RNG_META_HI (i : Nat) : Nat := 0x45B10014 + 0x20 * i
/-- IMP_RNG_META_SIZE_n, R355. -/
def Reg.IMP_RNG_META_SIZE (i : Nat) : Nat := 0x45B10018 + 0x20 * i
/-- IMP_RNG_DEPTH_n, R355. -/
def Reg.IMP_RNG_DEPTH (i : Nat) : Nat := 0x45B1001C + 0x20 * i
/-- IMP_KSLOT_STAT_s, R355. -/
def Reg.IMP_KSLOT_STAT (i : Nat) : Nat := 0x45B20000 + 0x4 * i
/-- IMP_POISON_e, R355. -/
def Reg.IMP_POISON (i : Nat) : Nat := 0x45B30000 + 0x10 * i
/-- MGT_CFG, R372. -/
def Reg.MGT_CFG : Nat := 0x47090000
/-- MGT_STAT, R372. -/
def Reg.MGT_STAT : Nat := 0x47090004
/-- MGT_ADDR_LO, R372. -/
def Reg.MGT_ADDR_LO : Nat := 0x47090008
/-- MGT_ADDR_HI, R372. -/
def Reg.MGT_ADDR_HI : Nat := 0x4709000C
/-- MGT_RX_BASE, R372. -/
def Reg.MGT_RX_BASE : Nat := 0x47090010
/-- MGT_RX_PROD, R372. -/
def Reg.MGT_RX_PROD : Nat := 0x47090014
/-- MGT_RX_CONS, R372. -/
def Reg.MGT_RX_CONS : Nat := 0x47090018
/-- MGT_TX_BASE, R372. -/
def Reg.MGT_TX_BASE : Nat := 0x4709001C
/-- MGT_TX_PROD, R372. -/
def Reg.MGT_TX_PROD : Nat := 0x47090020
/-- MGT_TX_CONS, R372. -/
def Reg.MGT_TX_CONS : Nat := 0x47090024
/-- MGT_CNT_k, R372. -/
def Reg.MGT_CNT (i : Nat) : Nat := 0x47090040 + 0x4 * i
/-- LR_CTL_l, R389. -/
def Reg.LR_CTL (i : Nat) : Nat := 0x46000000 + 0x40 * i
/-- CV_CTL_l, R389. -/
def Reg.CV_CTL (i : Nat) : Nat := 0x46010000 + 0x40 * i
/-- LR_STAT_l, R389. -/
def Reg.LR_STAT (i : Nat) : Nat := 0x46000004 + 0x40 * i
/-- CV_STAT_l, R389. -/
def Reg.CV_STAT (i : Nat) : Nat := 0x46010004 + 0x40 * i
/-- LR_TXFFE_l, R389. -/
def Reg.LR_TXFFE (i : Nat) : Nat := 0x46000008 + 0x40 * i
/-- CV_TXFFE_l, R389. -/
def Reg.CV_TXFFE (i : Nat) : Nat := 0x46010008 + 0x40 * i
/-- LR_EQ_SEL_l, R389. -/
def Reg.LR_EQ_SEL (i : Nat) : Nat := 0x4600000C + 0x40 * i
/-- CV_EQ_SEL_l, R389. -/
def Reg.CV_EQ_SEL (i : Nat) : Nat := 0x4601000C + 0x40 * i
/-- LR_EQ_VAL_l, R389. -/
def Reg.LR_EQ_VAL (i : Nat) : Nat := 0x46000010 + 0x40 * i
/-- CV_EQ_VAL_l, R389. -/
def Reg.CV_EQ_VAL (i : Nat) : Nat := 0x46010010 + 0x40 * i
/-- LR_TEST_l, R389. -/
def Reg.LR_TEST (i : Nat) : Nat := 0x46000014 + 0x40 * i
/-- CV_TEST_l, R389. -/
def Reg.CV_TEST (i : Nat) : Nat := 0x46010014 + 0x40 * i
/-- LR_PRBS_ERR_l, R389. -/
def Reg.LR_PRBS_ERR (i : Nat) : Nat := 0x46000018 + 0x40 * i
/-- CV_PRBS_ERR_l, R389. -/
def Reg.CV_PRBS_ERR (i : Nat) : Nat := 0x46010018 + 0x40 * i
/-- LR_OCT_CFG_o, R389. -/
def Reg.LR_OCT_CFG (i : Nat) : Nat := 0x46020000 + 0x10 * i
/-- LR_OCT_STAT_o, R389. -/
def Reg.LR_OCT_STAT (i : Nat) : Nat := 0x46020004 + 0x10 * i
/-- CV_QUAD_CFG_q, R389. -/
def Reg.CV_QUAD_CFG (i : Nat) : Nat := 0x46020100 + 0x10 * i
/-- CV_QUAD_STAT_q, R389. -/
def Reg.CV_QUAD_STAT (i : Nat) : Nat := 0x46020104 + 0x10 * i
/-- JL_TX_CFG_q, R389. -/
def Reg.JL_TX_CFG (i : Nat) : Nat := 0x46030000 + 0x100 * i
/-- JL_RX_CFG_q, R389. -/
def Reg.JL_RX_CFG (i : Nat) : Nat := 0x46030004 + 0x100 * i
/-- JL_LEMC_OFS_q, R389. -/
def Reg.JL_LEMC_OFS (i : Nat) : Nat := 0x46030008 + 0x100 * i
/-- JL_STAT_q, R389. -/
def Reg.JL_STAT (i : Nat) : Nat := 0x4603000C + 0x100 * i
/-- JL_CRC_CNT_q, R389. -/
def Reg.JL_CRC_CNT (i : Nat) : Nat := 0x46030010 + 0x100 * i
/-- JL_DROP_CNT_q, R389. -/
def Reg.JL_DROP_CNT (i : Nat) : Nat := 0x46030014 + 0x100 * i
/-- JL_UNDERRUN_CNT_q, R389. -/
def Reg.JL_UNDERRUN_CNT (i : Nat) : Nat := 0x46030018 + 0x100 * i
/-- JL_CAP_BASE_LO_q, R389. -/
def Reg.JL_CAP_BASE_LO (i : Nat) : Nat := 0x4603001C + 0x100 * i
/-- JL_CAP_BASE_HI_q, R389. -/
def Reg.JL_CAP_BASE_HI (i : Nat) : Nat := 0x46030020 + 0x100 * i
/-- JL_CAP_CFG_q, R389. -/
def Reg.JL_CAP_CFG (i : Nat) : Nat := 0x46030024 + 0x100 * i
/-- JL_CAP_WPTR_q, R389. -/
def Reg.JL_CAP_WPTR (i : Nat) : Nat := 0x46030028 + 0x100 * i
/-- JL_MEM_LEAD_q, R389. -/
def Reg.JL_MEM_LEAD (i : Nat) : Nat := 0x4603002C + 0x100 * i
/-- JSYSREF_CFG, R389. -/
def Reg.JSYSREF_CFG : Nat := 0x46031000
/-- JSYSREF_CMD, R389. -/
def Reg.JSYSREF_CMD : Nat := 0x46031004
/-- JSYSREF_PHASE, R389. -/
def Reg.JSYSREF_PHASE : Nat := 0x46031008
/-- JSYSREF_CNT, R389. -/
def Reg.JSYSREF_CNT : Nat := 0x4603100C
/-- TETH_CFG, R389. -/
def Reg.TETH_CFG : Nat := 0x46040000
/-- TETH_SEED, R389. -/
def Reg.TETH_SEED : Nat := 0x46040004
/-- TETH_CMD, R389. -/
def Reg.TETH_CMD : Nat := 0x46040008
/-- TETH_STAT, R389. -/
def Reg.TETH_STAT : Nat := 0x4604000C
/-- TETH_CRC_CNT, R389. -/
def Reg.TETH_CRC_CNT : Nat := 0x46040010
/-- TETH_GAP_CNT, R389. -/
def Reg.TETH_GAP_CNT : Nat := 0x46040014
/-- TETH_STUFF_ERR_CNT, R389. -/
def Reg.TETH_STUFF_ERR_CNT : Nat := 0x46040018
/-- TETH_STATE_ERR_CNT, R389. -/
def Reg.TETH_STATE_ERR_CNT : Nat := 0x4604001C
/-- TETH_LATE_CNT, R389. -/
def Reg.TETH_LATE_CNT : Nat := 0x46040020
/-- TETH_SLIP_CNT, R389. -/
def Reg.TETH_SLIP_CNT : Nat := 0x46040024
/-- ETH_CFG_m, R391. -/
def Reg.ETH_CFG (i : Nat) : Nat := 0x47000000 + 0x10000 * i
/-- ETH_STAT_m, R391. -/
def Reg.ETH_STAT (i : Nat) : Nat := 0x47000004 + 0x10000 * i
/-- ETH_ADDR_LO_m, R391. -/
def Reg.ETH_ADDR_LO (i : Nat) : Nat := 0x47000008 + 0x10000 * i
/-- ETH_ADDR_HI_m, R391. -/
def Reg.ETH_ADDR_HI (i : Nat) : Nat := 0x4700000C + 0x10000 * i
/-- ETH_RXQ_MAP_m, R391. -/
def Reg.ETH_RXQ_MAP (i : Nat) : Nat := 0x47000010 + 0x10000 * i
/-- ETH_TXQ_CFG_m_q, R391. -/
def Reg.ETH_TXQ_CFG (i j : Nat) : Nat := 0x47000020 + 0x10000 * i + 0x4 * j
/-- ETH_TXQ_STAT_m_q, R391. -/
def Reg.ETH_TXQ_STAT (i j : Nat) : Nat := 0x47000040 + 0x10000 * i + 0x4 * j
/-- ETH_TXP_ADDR_LO_m, R391. -/
def Reg.ETH_TXP_ADDR_LO (i : Nat) : Nat := 0x47000060 + 0x10000 * i
/-- ETH_TXP_ADDR_HI_m, R391. -/
def Reg.ETH_TXP_ADDR_HI (i : Nat) : Nat := 0x47000064 + 0x10000 * i
/-- ETH_TXP_CTL_m, R391. -/
def Reg.ETH_TXP_CTL (i : Nat) : Nat := 0x47000068 + 0x10000 * i
/-- ETH_TXP_STAT_m, R391. -/
def Reg.ETH_TXP_STAT (i : Nat) : Nat := 0x4700006C + 0x10000 * i
/-- ETH_TXTS_w_m, R391. -/
def Reg.ETH_TXTS (i j : Nat) : Nat := 0x47000080 + 0x10000 * i + 0x4 * j
/-- ETH_TXTS_STAT_m, R391. -/
def Reg.ETH_TXTS_STAT (i : Nat) : Nat := 0x47000090 + 0x10000 * i
/-- ETH_RXQ_BASE_LO_m_q, R391. -/
def Reg.ETH_RXQ_BASE_LO (i j : Nat) : Nat := 0x47000100 + 0x10000 * i + 0x20 * j
/-- ETH_RXQ_BASE_HI_m_q, R391. -/
def Reg.ETH_RXQ_BASE_HI (i j : Nat) : Nat := 0x47000104 + 0x10000 * i + 0x20 * j
/-- ETH_RXQ_CFG_m_q, R391. -/
def Reg.ETH_RXQ_CFG (i j : Nat) : Nat := 0x47000108 + 0x10000 * i + 0x20 * j
/-- ETH_RXQ_PROD_m_q, R391. -/
def Reg.ETH_RXQ_PROD (i j : Nat) : Nat := 0x4700010C + 0x10000 * i + 0x20 * j
/-- ETH_RXQ_CONS_m_q, R391. -/
def Reg.ETH_RXQ_CONS (i j : Nat) : Nat := 0x47000110 + 0x10000 * i + 0x20 * j
/-- ETH_CNT_m_k, R391. -/
def Reg.ETH_CNT (i j : Nat) : Nat := 0x47000400 + 0x10000 * i + 0x4 * j
/-- ETH_NOMAC_CNT, R391. -/
def Reg.ETH_NOMAC_CNT : Nat := 0x47080000
/-- RELAY_CFG, R418. -/
def Reg.RELAY_CFG : Nat := 0x4B000000
/-- RELAY_CMD, R418. -/
def Reg.RELAY_CMD : Nat := 0x4B000004
/-- RELAY_STAT, R418. -/
def Reg.RELAY_STAT : Nat := 0x4B000008
/-- RELAY_JSEQ_TX, R418. -/
def Reg.RELAY_JSEQ_TX : Nat := 0x4B00000C
/-- RELAY_JSEQ_ACK, R418. -/
def Reg.RELAY_JSEQ_ACK : Nat := 0x4B000010
/-- RELAY_LAG, R418. -/
def Reg.RELAY_LAG : Nat := 0x4B000014
/-- RELAY_FENCE_TMO, R418. -/
def Reg.RELAY_FENCE_TMO : Nat := 0x4B000018
/-- RELAY_TIME_ERR, R418. -/
def Reg.RELAY_TIME_ERR : Nat := 0x4B00001C
/-- RELAY_TAKE_PTJ, R418. -/
def Reg.RELAY_TAKE_PTJ : Nat := 0x4B000020
/-- RELAY_TAKE_PT, R418. -/
def Reg.RELAY_TAKE_PT : Nat := 0x4B000024
/-- RELAY_TAKE_JSEQ, R418. -/
def Reg.RELAY_TAKE_JSEQ : Nat := 0x4B000028
/-- RELAY_TAKE_STAT, R418. -/
def Reg.RELAY_TAKE_STAT : Nat := 0x4B00002C
/-- RELAY_TAKE_UNORD, R418. -/
def Reg.RELAY_TAKE_UNORD : Nat := 0x4B000030
/-- RELAY_GAP_LO, R418. -/
def Reg.RELAY_GAP_LO : Nat := 0x4B000034
/-- RELAY_GAP_HI, R418. -/
def Reg.RELAY_GAP_HI : Nat := 0x4B000038
/-- RELAY_GAP_STAT, R418. -/
def Reg.RELAY_GAP_STAT : Nat := 0x4B00003C
/-- RELAY_MIR_BASE_LO_n, R418. -/
def Reg.RELAY_MIR_BASE_LO (i : Nat) : Nat := 0x4B000100 + 0x10 * i
/-- RELAY_MIR_BASE_HI_n, R418. -/
def Reg.RELAY_MIR_BASE_HI (i : Nat) : Nat := 0x4B000104 + 0x10 * i
/-- RELAY_MIR_SIZE_n, R418. -/
def Reg.RELAY_MIR_SIZE (i : Nat) : Nat := 0x4B000108 + 0x10 * i
/-- RELAY_MIR_CTL_n, R418. -/
def Reg.RELAY_MIR_CTL (i : Nat) : Nat := 0x4B00010C + 0x10 * i
/-- RELAY_MP_CFG_k, R418. -/
def Reg.RELAY_MP_CFG (i : Nat) : Nat := 0x4B000200 + 0x10 * i
/-- RELAY_MP_DB_k, R418. -/
def Reg.RELAY_MP_DB (i : Nat) : Nat := 0x4B000204 + 0x10 * i
/-- RELAY_MP_PROD_k, R418. -/
def Reg.RELAY_MP_PROD (i : Nat) : Nat := 0x4B000208 + 0x10 * i
/-- RELAY_TAKE_CNT, R418. -/
def Reg.RELAY_TAKE_CNT : Nat := 0x4B000400
/-- RELAY_MISMATCH_CNT, R418. -/
def Reg.RELAY_MISMATCH_CNT : Nat := 0x4B000404
/-- RELAY_AUTH_CNT, R418. -/
def Reg.RELAY_AUTH_CNT : Nat := 0x4B000408
/-- RELAY_RESEND_CNT, R418. -/
def Reg.RELAY_RESEND_CNT : Nat := 0x4B00040C
/-- RELAY_STALL_CNT, R418. -/
def Reg.RELAY_STALL_CNT : Nat := 0x4B000410
/-- RELAY_SUPPRESS_CNT, R418. -/
def Reg.RELAY_SUPPRESS_CNT : Nat := 0x4B000414
/-- RELAY_MIR_DROP_CNT, R418. -/
def Reg.RELAY_MIR_DROP_CNT : Nat := 0x4B000418
/-- RELAY_HB_MISS_CNT, R418. -/
def Reg.RELAY_HB_MISS_CNT : Nat := 0x4B00041C
/-- FMP_CTL, R442. -/
def Reg.FMP_CTL : Nat := 0x40300000
/-- FMP_STAT, R442. -/
def Reg.FMP_STAT : Nat := 0x40300004
/-- FMP_REQ_CNT, R442. -/
def Reg.FMP_REQ_CNT : Nat := 0x40300008
/-- FMP_AUTH_CNT, R442. -/
def Reg.FMP_AUTH_CNT : Nat := 0x4030000C
/-- FMP_ABORT_CNT, R442. -/
def Reg.FMP_ABORT_CNT : Nat := 0x40300010
/-- FMP_DROP_CNT, R442. -/
def Reg.FMP_DROP_CNT : Nat := 0x40300014
/-- FMP_STORE_GEN, R442. -/
def Reg.FMP_STORE_GEN : Nat := 0x40300018
/-- FMP_SECT_CNT_s, R442. -/
def Reg.FMP_SECT_CNT (i : Nat) : Nat := 0x40300020 + 0x4 * i
/-- PWR_MODE, R471. -/
def Reg.PWR_MODE : Nat := 0x4C000000
/-- PWR_CMD, R471. -/
def Reg.PWR_CMD : Nat := 0x4C000004
/-- PWR_POLICY, R471. -/
def Reg.PWR_POLICY : Nat := 0x4C000008
/-- PWR_STBL_CFG, R471. -/
def Reg.PWR_STBL_CFG : Nat := 0x4C00000C
/-- PWR_STBL_ENTER, R471. -/
def Reg.PWR_STBL_ENTER : Nat := 0x4C000010
/-- PWR_STBL_WAKE, R471. -/
def Reg.PWR_STBL_WAKE : Nat := 0x4C000014
/-- PWR_STBL_STAT, R471. -/
def Reg.PWR_STBL_STAT : Nat := 0x4C000018
/-- PWR_WAKE_PT, R471. -/
def Reg.PWR_WAKE_PT : Nat := 0x4C00001C
/-- PWR_RESET_CAUSE, R471. -/
def Reg.PWR_RESET_CAUSE : Nat := 0x4C000020
/-- PWR_PD_CTL_d, R471. -/
def Reg.PWR_PD_CTL (i : Nat) : Nat := 0x4C000100 + 0x4 * i
/-- PWR_PD_STAT_d, R471. -/
def Reg.PWR_PD_STAT (i : Nat) : Nat := 0x4C000200 + 0x4 * i
/-- AVS_CFG, R471. -/
def Reg.AVS_CFG : Nat := 0x4C010000
/-- AVS_RAIL_CFG_k, R471. -/
def Reg.AVS_RAIL_CFG (i : Nat) : Nat := 0x4C010100 + 0x10 * i
/-- AVS_RAIL_MASK_k, R471. -/
def Reg.AVS_RAIL_MASK (i : Nat) : Nat := 0x4C010104 + 0x10 * i
/-- AVS_RAIL_V_k, R471. -/
def Reg.AVS_RAIL_V (i : Nat) : Nat := 0x4C010108 + 0x10 * i
/-- AVS_RAIL_SLACK_k, R471. -/
def Reg.AVS_RAIL_SLACK (i : Nat) : Nat := 0x4C01010C + 0x10 * i
/-- AVS_CANARY_SEL, R471. -/
def Reg.AVS_CANARY_SEL : Nat := 0x4C010200
/-- AVS_CANARY_VAL, R471. -/
def Reg.AVS_CANARY_VAL : Nat := 0x4C010204
/-- AVS_TRIP_CNT, R471. -/
def Reg.AVS_TRIP_CNT : Nat := 0x4C010208
/-- AVS_LINK_ERR_CNT, R471. -/
def Reg.AVS_LINK_ERR_CNT : Nat := 0x4C01020C
/-- AGE_CFG, R471. -/
def Reg.AGE_CFG : Nat := 0x4C020000
/-- AGE_HOURS, R471. -/
def Reg.AGE_HOURS : Nat := 0x4C020004
/-- AGE_SENS, R471. -/
def Reg.AGE_SENS : Nat := 0x4C020008
/-- AGE_RO_i, R471. -/
def Reg.AGE_RO (i : Nat) : Nat := 0x4C020100 + 0x4 * i
/-- AGE_LIFE_k, R471. -/
def Reg.AGE_LIFE (i : Nat) : Nat := 0x4C020200 + 0x4 * i
/-- AGE_RESERVE_k, R471. -/
def Reg.AGE_RESERVE (i : Nat) : Nat := 0x4C020300 + 0x4 * i
/-- SEC_LC, R501. -/
def Reg.SEC_LC : Nat := 0x49000000
/-- SEC_STAT, R501. -/
def Reg.SEC_STAT : Nat := 0x49000004
/-- SEC_FW_VER, R501. -/
def Reg.SEC_FW_VER : Nat := 0x49000008
/-- SEC_NONCE_LO, R501. -/
def Reg.SEC_NONCE_LO : Nat := 0x4900000C
/-- SEC_NONCE_HI, R501. -/
def Reg.SEC_NONCE_HI : Nat := 0x49000010
/-- SEC_CMD_CTL, R501. -/
def Reg.SEC_CMD_CTL : Nat := 0x49000014
/-- SEC_CMD_STAT, R501. -/
def Reg.SEC_CMD_STAT : Nat := 0x49000018
/-- SEC_ARB_LO, R501. -/
def Reg.SEC_ARB_LO : Nat := 0x49000020
/-- SEC_ARB_HI, R501. -/
def Reg.SEC_ARB_HI : Nat := 0x49000024
/-- SEC_ATT_IDX, R501. -/
def Reg.SEC_ATT_IDX : Nat := 0x49000028
/-- SEC_ATT_BUCKET, R501. -/
def Reg.SEC_ATT_BUCKET : Nat := 0x4900002C
/-- SEC_RNG, R501. -/
def Reg.SEC_RNG : Nat := 0x49000030
/-- SEC_KEY_CMD, R501. -/
def Reg.SEC_KEY_CMD : Nat := 0x49000034
/-- SEC_KEY_STAT, R501. -/
def Reg.SEC_KEY_STAT : Nat := 0x49000038
/-- SEC_BIST_CMD, R501. -/
def Reg.SEC_BIST_CMD : Nat := 0x4900003C
/-- SEC_BIST_STAT, R501. -/
def Reg.SEC_BIST_STAT : Nat := 0x49000040
/-- SEC_KEY_BUF, R501. -/
def Reg.SEC_KEY_BUF (i : Nat) : Nat := 0x49000100 + 0x4 * i
/-- SEC_CMD_BUF, R501. -/
def Reg.SEC_CMD_BUF (i : Nat) : Nat := 0x49001000 + 0x4 * i
/-- SEC_OTP_WIN, R501. -/
def Reg.SEC_OTP_WIN (i : Nat) : Nat := 0x49010000 + 0x4 * i
/-- OUT_CFG, R529. -/
def Reg.OUT_CFG : Nat := 0x4A000000
/-- OUT_STAT, R529. -/
def Reg.OUT_STAT : Nat := 0x4A000004
/-- OUT_CAUSE, R529. -/
def Reg.OUT_CAUSE : Nat := 0x4A000008
/-- OUT_LATCH, R529. -/
def Reg.OUT_LATCH : Nat := 0x4A00000C
/-- OUT_FIRST, R529. -/
def Reg.OUT_FIRST : Nat := 0x4A000010
/-- OUT_FIRST_PT, R529. -/
def Reg.OUT_FIRST_PT : Nat := 0x4A000014
/-- OUT_MUTE_SW, R529. -/
def Reg.OUT_MUTE_SW : Nat := 0x4A000018
/-- OUT_TO_GATE, R529. -/
def Reg.OUT_TO_GATE : Nat := 0x4A00001C
/-- OUT_TL_LIMIT, R529. -/
def Reg.OUT_TL_LIMIT : Nat := 0x4A000020
/-- OUT_CLASS_CNT_c, R529. -/
def Reg.OUT_CLASS_CNT (i : Nat) : Nat := 0x4A000100 + 0x4 * i
/-- OUT_WIN_CFG, R529. -/
def Reg.OUT_WIN_CFG : Nat := 0x4A010000
/-- OUT_WIN_PERIOD, R529. -/
def Reg.OUT_WIN_PERIOD : Nat := 0x4A010004
/-- OUT_WIN_LINKS, R529. -/
def Reg.OUT_WIN_LINKS : Nat := 0x4A010008
/-- OUT_WIN_VIOL, R529. -/
def Reg.OUT_WIN_VIOL : Nat := 0x4A01000C
/-- OUT_WIN_LAST, R529. -/
def Reg.OUT_WIN_LAST : Nat := 0x4A010010
/-- OUT_WIN_S_n, R529. -/
def Reg.OUT_WIN_S (i : Nat) : Nat := 0x4A010100 + 0x8 * i
/-- OUT_WIN_L_n, R529. -/
def Reg.OUT_WIN_L (i : Nat) : Nat := 0x4A010104 + 0x8 * i
/-- OUT_CLK_STAT, R529. -/
def Reg.OUT_CLK_STAT : Nat := 0x4A020000
/-- OUT_VMON_STAT, R529. -/
def Reg.OUT_VMON_STAT : Nat := 0x4A020004
/-- OUT_VMON_STAT2, R529. -/
def Reg.OUT_VMON_STAT2 : Nat := 0x4A020008
/-- OUT_TEMP, R529. -/
def Reg.OUT_TEMP : Nat := 0x4A02000C
/-- OUT_TEMP_WARN, R529. -/
def Reg.OUT_TEMP_WARN : Nat := 0x4A020010
/-- OUT_BIST_CFG, R529. -/
def Reg.OUT_BIST_CFG : Nat := 0x4A030000
/-- OUT_BIST_PERIOD, R529. -/
def Reg.OUT_BIST_PERIOD : Nat := 0x4A030004
/-- OUT_BIST_OFS, R529. -/
def Reg.OUT_BIST_OFS : Nat := 0x4A030008
/-- OUT_BIST_SAVE, R529. -/
def Reg.OUT_BIST_SAVE : Nat := 0x4A03000C
/-- OUT_BIST_PAD_m, R529. -/
def Reg.OUT_BIST_PAD (i : Nat) : Nat := 0x4A030010 + 0x4 * i
/-- OUT_BIST_NEXT, R529. -/
def Reg.OUT_BIST_NEXT : Nat := 0x4A030024
/-- OUT_BIST_FAIL, R529. -/
def Reg.OUT_BIST_FAIL : Nat := 0x4A030028
/-- OUT_BIST_RUNS, R529. -/
def Reg.OUT_BIST_RUNS : Nat := 0x4A03002C
/-- OUT_BIST_COLL, R529. -/
def Reg.OUT_BIST_COLL : Nat := 0x4A030030
/-- IRQ_PEND, R552. -/
def Reg.IRQ_PEND : Nat := 0x40000000
/-- IRQ_EN_A, R552. -/
def Reg.IRQ_EN_A : Nat := 0x40000004
/-- IRQ_EN_B, R552. -/
def Reg.IRQ_EN_B : Nat := 0x40000008
/-- SYS_SWI, R552. -/
def Reg.SYS_SWI : Nat := 0x4000000C
/-- SYS_SWI_STAT, R552. -/
def Reg.SYS_SWI_STAT : Nat := 0x40000010
/-- SYS_UNLOCK, R552. -/
def Reg.SYS_UNLOCK : Nat := 0x40000020
/-- WDT_CFG_x, R552. -/
def Reg.WDT_CFG (i : Nat) : Nat := 0x40010000 + 0x10 * i
/-- WDT_KICK_x, R552. -/
def Reg.WDT_KICK (i : Nat) : Nat := 0x40010004 + 0x10 * i
/-- WDT_COUNT_x, R552. -/
def Reg.WDT_COUNT (i : Nat) : Nat := 0x40010008 + 0x10 * i
/-- FLASH_ADDR, R552. -/
def Reg.FLASH_ADDR : Nat := 0x40020000
/-- FLASH_CMD, R552. -/
def Reg.FLASH_CMD : Nat := 0x40020004
/-- FLASH_STAT, R552. -/
def Reg.FLASH_STAT : Nat := 0x40020008
/-- FLASH_BUF, R552. -/
def Reg.FLASH_BUF (i : Nat) : Nat := 0x40021000 + 0x4 * i
/-- SRAM_SBE_CNT, R552. -/
def Reg.SRAM_SBE_CNT : Nat := 0x40030000
/-- SRAM_DBE_CNT, R552. -/
def Reg.SRAM_DBE_CNT : Nat := 0x40030004
/-- PERI_GATE, R553. -/
def Reg.PERI_GATE : Nat := 0x4D000000
/-- PIN_CFG_n, R553. -/
def Reg.PIN_CFG (i : Nat) : Nat := 0x4D000100 + 0x4 * i
/-- GPIO_DOUT_LO, R553. -/
def Reg.GPIO_DOUT_LO : Nat := 0x4D000200
/-- GPIO_DOUT_HI, R553. -/
def Reg.GPIO_DOUT_HI : Nat := 0x4D000204
/-- GPIO_DOUT_Q_LO, R553. -/
def Reg.GPIO_DOUT_Q_LO : Nat := 0x4D000208
/-- GPIO_DOUT_Q_HI, R553. -/
def Reg.GPIO_DOUT_Q_HI : Nat := 0x4D00020C
/-- GPIO_EDGE_LO, R553. -/
def Reg.GPIO_EDGE_LO : Nat := 0x4D000210
/-- GPIO_EDGE_HI, R553. -/
def Reg.GPIO_EDGE_HI : Nat := 0x4D000214
/-- UART_CFG_u, R553. -/
def Reg.UART_CFG (i : Nat) : Nat := 0x4D010000 + 0x100 * i
/-- UART_DATA_u, R553. -/
def Reg.UART_DATA (i : Nat) : Nat := 0x4D010004 + 0x100 * i
/-- UART_STAT_u, R553. -/
def Reg.UART_STAT (i : Nat) : Nat := 0x4D010008 + 0x100 * i
/-- UART_ERR_CNT_u, R553. -/
def Reg.UART_ERR_CNT (i : Nat) : Nat := 0x4D01000C + 0x100 * i
/-- SPI1_CFG, R553. -/
def Reg.SPI1_CFG : Nat := 0x4D020000
/-- SPI1_CMD, R553. -/
def Reg.SPI1_CMD : Nat := 0x4D020004
/-- SPI1_DATA, R553. -/
def Reg.SPI1_DATA : Nat := 0x4D020008
/-- SPI1_STAT, R553. -/
def Reg.SPI1_STAT : Nat := 0x4D02000C
/-- I2C_CFG_i, R553. -/
def Reg.I2C_CFG (i : Nat) : Nat := 0x4D030000 + 0x100 * i
/-- I2C_CMD_i, R553. -/
def Reg.I2C_CMD (i : Nat) : Nat := 0x4D030004 + 0x100 * i
/-- I2C_STAT_i, R553. -/
def Reg.I2C_STAT (i : Nat) : Nat := 0x4D030008 + 0x100 * i
/-- I2C_ERR_CNT_i, R553. -/
def Reg.I2C_ERR_CNT (i : Nat) : Nat := 0x4D03000C + 0x100 * i
/-- I2C_WBUF_i, R553. -/
def Reg.I2C_WBUF (i j : Nat) : Nat := 0x4D030040 + 0x100 * i + 0x4 * j
/-- I2C_RBUF_i, R553. -/
def Reg.I2C_RBUF (i j : Nat) : Nat := 0x4D030060 + 0x100 * i + 0x4 * j
/-- DBG_STAT, R572. -/
def Reg.DBG_STAT : Nat := 0x4E000000
/-- DBG_CAN_HALT, R572. -/
def Reg.DBG_CAN_HALT : Nat := 0x4E000010
/-- DBG_CAN_RESUME, R572. -/
def Reg.DBG_CAN_RESUME : Nat := 0x4E000014
/-- DBG_CAN_SEL, R572. -/
def Reg.DBG_CAN_SEL : Nat := 0x4E000018
/-- DBG_PAC_SNAP, R572. -/
def Reg.DBG_PAC_SNAP : Nat := 0x4E000020
/-- DBG_PAC_SNAP_PT, R572. -/
def Reg.DBG_PAC_SNAP_PT : Nat := 0x4E000024
/-- DBG_MBOX_H2D, R572. -/
def Reg.DBG_MBOX_H2D : Nat := 0x4E000030
/-- DBG_MBOX_D2H, R572. -/
def Reg.DBG_MBOX_D2H : Nat := 0x4E000034
/-- DBG_MBOX_STAT, R572. -/
def Reg.DBG_MBOX_STAT : Nat := 0x4E000038
/-- DBG_CAN_REG_w, R572. -/
def Reg.DBG_CAN_REG (i : Nat) : Nat := 0x4E001000 + 0x4 * i
/-- DBG_PAC_ENT_e, R572. -/
def Reg.DBG_PAC_ENT (i : Nat) : Nat := 0x4E010000 + 0x10 * i

end Sys2Proof.Machine
end

