-- ==== Sys2Proof/Machine/DictTable.lean ====
section
/-! DEFINITION. The objects of the dictionary (R421…R424): one row for each run of subindices of the object tables of the chapters, with
the register or value that holds it. -/

namespace Sys2Proof.Machine

/-- The access codes of R423; RWM with the modes its chapter lists. -/
inductive OAcc where
  | ro | const | wo | rw
  | rwm (modes : Nat)
  deriving DecidableEq, Repr

/-- Where an object's value stands: a number that does not change; field [hi:lo] of the register at a base, a stride on for each
subindex; w bits of one register for each subindex; n whole registers; the same field of n registers; FMP's own RAM; or as a rule of
its chapter says. -/
inductive Home where
  | num (v : Nat)
  | fld (base st hi lo : Nat)
  | bits (base lo w : Nat)
  | words (base st n : Nat)
  | all (base st n hi lo : Nat)
  | kept
  | own
  deriving DecidableEq, Repr

/-- Subindices `first` to `last` of an object: the subindex at which the stride counts from, type code and size in bytes, access,
minimum role, default as a number, whether STORE persists it and whether it is mirrored (R435), and where it stands. -/
structure Obj where
  index : Nat
  first : Nat
  last  : Nat
  from_ : Nat
  ty    : Nat
  size  : Nat
  acc   : OAcc
  role  : Nat
  dflt  : Nat
  p     : Bool
  m     : Bool
  home  : Home
  deriving DecidableEq, Repr

/-- Objects, part 1. -/
def objRows0 : List Obj := [
  ⟨0x2000, 0, 0, 0, 2, 1, .ro, 1, 0x0, false, false, .fld Reg.TL_STATE 0x0 2 0⟩,
  ⟨0x2001, 0, 0, 0, 10, 12, .ro, 1, 0x0, false, false, .own⟩,
  ⟨0x2002, 0, 0, 0, 8, 4, .ro, 1, 0x0, false, false, .fld Reg.TL_PHASE_ERR 0x0 31 0⟩,
  ⟨0x2010, 1, 5, 1, 1, 1, .rw, 2, 0x0, true, false, .fld (Reg.TL_REF_CFG 0) 0x10 0 0⟩,
  ⟨0x2011, 1, 5, 1, 2, 1, .rw, 2, 0x0, true, false, .fld (Reg.TL_REF_CFG 0) 0x10 7 4⟩,
  ⟨0x2012, 1, 5, 1, 8, 4, .rw, 2, 0x0, true, false, .fld (Reg.TL_REF_DLY 0) 0x10 31 0⟩,
  ⟨0x2020, 1, 1, 1, 2, 1, .rw, 2, 0x2, true, false, .fld Reg.TL_LOOP_CFG 0x0 2 0⟩,
  ⟨0x2020, 2, 2, 2, 2, 1, .rw, 2, 0x4, true, false, .fld Reg.TL_LOOP_CFG 0x0 6 4⟩,
  ⟨0x2021, 1, 1, 1, 4, 4, .rw, 2, 0x20, true, false, .own⟩,
  ⟨0x2021, 2, 2, 1, 4, 4, .rw, 2, 0x10, true, false, .own⟩,
  ⟨0x2021, 3, 3, 1, 4, 4, .rw, 2, 0x800, true, false, .own⟩,
  ⟨0x2021, 4, 4, 1, 4, 4, .rw, 2, 0x3c, true, false, .own⟩,
  ⟨0x2021, 5, 5, 1, 4, 4, .rw, 2, 0x400, true, false, .own⟩,
  ⟨0x2030, 0, 0, 0, 4, 4, (.rwm 0x34), 3, 0x0, true, false, .fld Reg.TL_OSC_A_HZ 0x0 31 0⟩,
  ⟨0x2031, 0, 0, 0, 4, 4, (.rwm 0x34), 3, 0x0, true, false, .fld Reg.TL_OSC_B_HZ 0x0 31 0⟩,
  ⟨0x2032, 0, 0, 0, 3, 2, .rw, 2, 0x4, true, false, .fld Reg.TL_TOD_CFG 0x0 15 0⟩,
  ⟨0x2040, 1, 1, 1, 9, 8, .rw, 3, 0x0, false, false, .words Reg.TL_STEP_LO 0x0 2⟩,
  ⟨0x2040, 2, 2, 2, 3, 2, .rw, 3, 0x0, false, false, .fld Reg.TL_STEP_FRAC 0x0 15 0⟩,
  ⟨0x2040, 3, 3, 3, 1, 1, .wo, 3, 0x0, false, false, .own⟩,
  ⟨0x2050, 1, 1, 1, 4, 4, .rw, 2, 0x1, true, false, .fld Reg.PPS_OUT_CFG 0x4 31 0⟩,
  ⟨0x2050, 2, 2, 1, 4, 4, .rw, 2, 0x0, true, false, .fld Reg.PPS_OUT_CFG 0x4 31 0⟩,
  ⟨0x2050, 3, 3, 1, 4, 4, .rw, 2, 0xbb80000, true, false, .fld Reg.PPS_OUT_CFG 0x4 31 0⟩,
  ⟨0x2100, 0, 0, 0, 4, 4, .ro, 1, 0x0, false, false, .fld Reg.HO_UNC 0x0 31 0⟩,
  ⟨0x2101, 0, 0, 0, 4, 4, .rw, 3, 0x872b0, true, false, .fld Reg.HO_LIMIT 0x0 31 0⟩,
  ⟨0x2102, 0, 0, 0, 4, 4, .ro, 1, 0x0, false, false, .fld Reg.HO_PREDICT 0x0 31 0⟩,
  ⟨0x2103, 0, 0, 0, 3, 2, .ro, 1, 0x0, false, false, .fld Reg.HO_STAT 0x0 31 16⟩,
  ⟨0x2104, 1, 2, 1, 2, 1, .rw, 3, 0x0, true, false, .bits Reg.HO_CTL 4 2⟩,
  ⟨0x2105, 0, 0, 0, 4, 4, .rw, 2, 0x3afb, true, false, .fld Reg.HO_REF_UNC 0x0 31 0⟩,
  ⟨0x2106, 0, 0, 0, 4, 4, .rw, 3, 0x48, true, false, .fld Reg.HO_TSENS_CFG 0x0 31 0⟩,
  ⟨0x2110, 0, 0, 0, 5, 8, .ro, 1, 0x0, false, false, .own⟩,
  ⟨0x2111, 0, 0, 0, 7, 2, .ro, 1, 0x0, false, false, .fld Reg.CAL_UTC_OFS 0x0 15 0⟩,
  ⟨0x2112, 1, 1, 1, 5, 8, .wo, 2, 0x0, false, false, .kept⟩,
  ⟨0x2112, 2, 2, 2, 7, 2, .wo, 2, 0x0, false, false, .own⟩,
  ⟨0x2120, 0, 0, 0, 13, 512, .rw, 3, 0x0, false, false, .words (Reg.BBK_STORE 0) 0x0 128⟩,
  ⟨0x2121, 0, 0, 0, 13, 512, .ro, 1, 0x0, false, false, .words (Reg.BBK_STORE 128) 0x0 128⟩,
  ⟨0x2130, 1, 1, 1, 4, 4, .rw, 2, 0x1640000, true, false, .own⟩,
  ⟨0x2130, 2, 2, 2, 1, 1, .rw, 2, 0x0, true, false, .own⟩,
  ⟨0x3000, 0, 0, 0, 3, 2, .rw, 3, 0x10, true, false, .fld Reg.PAC_MIN_LEAD 0x0 15 0⟩,
  ⟨0x3001, 1, 16, 1, 4, 4, .rw, 2, 0x1010101, true, false, .fld (Reg.PAC_GRP_W 0) 0x10 31 0⟩,
  ⟨0x3002, 1, 16, 1, 4, 4, .rw, 2, 0xfffff, true, false, .fld (Reg.PAC_GRP_LIM 0) 0x10 31 0⟩]

/-- Objects, part 2. -/
def objRows1 : List Obj := [
  ⟨0x3003, 0, 0, 0, 3, 2, .rw, 2, 0x40, true, false, .fld Reg.PAC_PREEMPT_SLACK 0x0 15 0⟩,
  ⟨0x3004, 0, 0, 0, 1, 1, .rw, 2, 0x0, true, false, .fld Reg.PAC_CTL 0x0 1 1⟩,
  ⟨0x3010, 1, 12, 1, 4, 4, .ro, 1, 0x0, false, false, .fld (Reg.PAC_REFUSE_CNT 1) 0x4 31 0⟩,
  ⟨0x3011, 1, 4, 1, 4, 4, .ro, 1, 0x0, false, false, .fld Reg.PAC_REL_CNT 0x4 31 0⟩,
  ⟨0x3012, 1, 8, 1, 3, 2, .ro, 1, 0x0, false, false, .fld (Reg.PAC_LIST_FILL 0) 0x4 27 16⟩,
  ⟨0x3100, 0, 0, 0, 2, 1, .rw, 2, 0x3, true, false, .fld Reg.RB_CFG 0x0 3 0⟩,
  ⟨0x3101, 0, 0, 0, 3, 2, .rw, 2, 0xffff, true, false, .fld Reg.RB_TLC_GROUPS 0x0 15 0⟩,
  ⟨0x3110, 1, 5, 1, 4, 4, .ro, 1, 0x0, false, false, .fld (Reg.RB_TRIG_CNT 1) 0x4 31 0⟩,
  ⟨0x3111, 1, 6, 1, 4, 4, .ro, 1, 0x0, false, false, .fld Reg.RB_TAINT_CNT 0x4 31 0⟩,
  ⟨0x3112, 0, 0, 0, 2, 1, .ro, 1, 0x0, false, false, .fld Reg.RB_STAT 0x0 6 0⟩,
  ⟨0x3200, 1, 4, 1, 1, 1, .rw, 2, 0x1, true, false, .bits Reg.CA_CTL 0 1⟩,
  ⟨0x3201, 0, 0, 0, 13, 32, .rw, 2, 0xffffffffffffffffffffffffffffffffffffffffffffffffffffffffffffffff, true, false, .own⟩,
  ⟨0x3202, 1, 4, 1, 4, 4, .ro, 1, 0x0, false, false, .fld (Reg.CA_TEAM_OPS 0) 0x4 31 0⟩,
  ⟨0x3203, 1, 4, 1, 4, 4, .ro, 1, 0x0, false, false, .fld (Reg.CA_TEAM_EXC 0) 0x4 31 0⟩,
  ⟨0x3204, 1, 4, 1, 5, 8, .ro, 1, 0x0, false, false, .words (Reg.CA_TEAM_BUSY 0) 0x8 2⟩,
  ⟨0x7400, 0, 0, 0, 2, 1, .ro, 1, 0x0, false, false, .fld Reg.CFG_STAT 0x0 15 8⟩,
  ⟨0x7401, 0, 0, 0, 5, 8, .ro, 1, 0x0, false, false, .words Reg.CFG_BUILD_LO 0x0 2⟩,
  ⟨0x7402, 1, 1, 1, 2, 1, .rw, 3, 0x0, false, false, .fld Reg.CFG_SRC_HI 0x0 31 31⟩,
  ⟨0x7402, 2, 2, 2, 5, 8, .rw, 3, 0x0, false, false, .own⟩,
  ⟨0x7403, 1, 1, 1, 4, 4, .wo, 3, 0x0, false, false, .fld Reg.CFG_PR_TICK 0x0 31 0⟩,
  ⟨0x7403, 2, 2, 2, 1, 1, .wo, 3, 0x0, false, false, .own⟩,
  ⟨0x7404, 0, 0, 0, 13, 144, .ro, 1, 0x0, false, false, .own⟩,
  ⟨0x7405, 0, 0, 0, 1, 1, .rw, 3, 0x1, true, false, .fld Reg.CFG_CTL 0x0 1 1⟩,
  ⟨0x7410, 0, 0, 0, 13, 18, .rw, 3, 0x0, true, false, .own⟩,
  ⟨0x7411, 1, 1, 1, 1, 1, .rw, 2, 0x0, true, false, .fld Reg.FAR_CTL 0x0 0 0⟩,
  ⟨0x7411, 2, 2, 2, 2, 1, .rw, 2, 0x10, true, false, .fld Reg.FAR_RATE 0x0 7 0⟩,
  ⟨0x7411, 3, 3, 3, 3, 2, .rw, 2, 0x28f, true, false, .fld Reg.FAR_TGT 0x0 15 0⟩,
  ⟨0x7411, 4, 4, 4, 3, 2, .rw, 2, 0x3e8, true, false, .fld Reg.FAR_TMAX 0x0 15 0⟩,
  ⟨0x7412, 1, 2, 1, 1, 1, .rw, 3, 0x1, true, false, .bits Reg.FAR_CTL 1 1⟩,
  ⟨0x7413, 1, 1, 1, 4, 4, .ro, 1, 0x0, false, false, .own⟩,
  ⟨0x7413, 2, 2, 2, 4, 4, .ro, 1, 0x0, false, false, .own⟩,
  ⟨0x7413, 3, 3, 3, 4, 4, .ro, 1, 0x0, false, false, .fld Reg.FAR_REFETCH_CNT 0x0 31 0⟩,
  ⟨0x7413, 4, 4, 4, 4, 4, .ro, 1, 0x0, false, false, .fld Reg.FAR_CONT_CNT 0x0 31 0⟩,
  ⟨0x7414, 0, 0, 0, 4, 4, .ro, 1, 0x0, false, false, .fld Reg.FAR_LAMBDA 0x0 31 0⟩,
  ⟨0x7415, 0, 0, 0, 2, 1, .ro, 1, 0x0, false, false, .own⟩,
  ⟨0x4000, 1, 64, 1, 2, 1, .rw, 2, 0x0, true, false, .fld (Reg.SP_BANK_CFG 0) 0x10 1 0⟩,
  ⟨0x4001, 1, 64, 1, 2, 1, .rw, 2, 0x0, true, false, .fld (Reg.SP_BANK_CFG 0) 0x10 5 4⟩,
  ⟨0x4002, 1, 61, 1, 4, 4, .rw, 3, 0x100, true, false, .fld (Reg.NOC_CURB_RATE 0) 0x10 31 0⟩,
  ⟨0x4002, 62, 64, 1, 4, 4, .rw, 3, 0x80000038, true, false, .fld (Reg.NOC_CURB_RATE 0) 0x10 31 0⟩,
  ⟨0x4003, 1, 61, 1, 4, 4, .rw, 3, 0x100, true, false, .fld (Reg.NOC_CURB_BURST 0) 0x10 31 0⟩]

/-- Objects, part 3. -/
def objRows2 : List Obj := [
  ⟨0x4003, 62, 64, 1, 4, 4, .rw, 3, 0x1000, true, false, .fld (Reg.NOC_CURB_BURST 0) 0x10 31 0⟩,
  ⟨0x4004, 1, 64, 1, 4, 4, .ro, 1, 0x0, false, false, .fld (Reg.NOC_CURB_REFUSE 0) 0x10 31 0⟩,
  ⟨0x4005, 0, 0, 0, 3, 2, .rw, 2, 0x64, true, false, .fld Reg.NOC_CTL 0x0 15 0⟩,
  ⟨0x4100, 1, 4, 1, 4, 4, .ro, 1, 0x0, false, false, .fld (Reg.MEM_CE_CNT 0) 0x100000 31 0⟩,
  ⟨0x4101, 1, 4, 1, 4, 4, .ro, 1, 0x0, false, false, .fld (Reg.MEM_UE_CNT 0) 0x100000 31 0⟩,
  ⟨0x4102, 1, 4, 1, 3, 2, .ro, 1, 0x0, false, false, .fld (Reg.MEM_STAT 0) 0x100000 16 8⟩,
  ⟨0x4103, 0, 0, 0, 3, 2, .rw, 2, 0x18, true, false, .all (Reg.MEM_PATROL 0) 0x100000 4 15 0⟩,
  ⟨0x4104, 1, 1, 1, 4, 4, .rw, 2, 0x64, true, false, .all (Reg.MEM_TRAIN_CFG 0) 0x100000 4 15 0⟩,
  ⟨0x4104, 2, 2, 2, 4, 4, .rw, 2, 0x4b000, true, false, .all (Reg.MEM_SLOT_PERIOD 0) 0x100000 4 24 0⟩,
  ⟨0x4104, 3, 3, 3, 4, 4, .rw, 2, 0x0, true, false, .all (Reg.MEM_SLOT_OFS 0) 0x100000 4 24 0⟩,
  ⟨0x4105, 1, 4, 1, 13, 1024, (.rwm 0x14), 3, 0x0, true, false, .words (Reg.MEM_REMAP 0 0) 0x100000 256⟩,
  ⟨0x4106, 0, 0, 0, 3, 2, .ro, 1, 0x0, false, false, .fld Reg.CXL_STAT 0x0 15 0⟩,
  ⟨0x4200, 1, 16, 1, 13, 24, (.rwm 0x34), 3, 0x0, true, false, .own⟩,
  ⟨0x4201, 0, 0, 0, 1, 1, .rw, 3, 0x0, true, false, .fld Reg.IMP_CTL 0x0 0 0⟩,
  ⟨0x4202, 1, 4, 1, 4, 4, .ro, 1, 0x0, false, false, .fld Reg.IMP_TAG_FAIL_CNT 0x4 31 0⟩,
  ⟨0x4203, 1, 1, 1, 2, 1, .wo, 3, 0x0, false, false, .kept⟩,
  ⟨0x4203, 2, 2, 2, 2, 1, .wo, 3, 0x0, false, false, .kept⟩,
  ⟨0x4203, 3, 3, 3, 1, 1, .wo, 3, 0x0, false, false, .own⟩,
  ⟨0x4204, 0, 0, 0, 5, 8, .ro, 1, 0x0, false, false, .own⟩,
  ⟨0x4205, 0, 0, 0, 2, 1, .wo, 3, 0x0, false, false, .own⟩,
  ⟨0x5000, 1, 8, 1, 3, 2, .rw, 2, 0x0, true, false, .fld (Reg.ETH_CFG 0) 0x10000 6 0⟩,
  ⟨0x5001, 1, 8, 1, 13, 6, .rw, 2, 0x0, true, false, .words (Reg.ETH_ADDR_LO 0) 0x10000 2⟩,
  ⟨0x5002, 1, 8, 1, 1, 1, .ro, 1, 0x0, false, false, .fld (Reg.ETH_STAT 0) 0x10000 0 0⟩,
  ⟨0x5003, 1, 4, 1, 1, 1, .rw, 3, 0x0, true, false, .fld (Reg.LR_OCT_CFG 4) 0x10 1 1⟩,
  ⟨0x5004, 1, 1, 1, 4, 4, .rw, 3, 0x801fe, true, false, .fld Reg.TETH_CFG 0x0 31 0⟩,
  ⟨0x5004, 2, 2, 2, 4, 4, .rw, 3, 0x1, true, false, .fld Reg.TETH_SEED 0x0 31 0⟩,
  ⟨0x5004, 3, 3, 3, 4, 4, .rw, 3, 0x0, true, false, .own⟩,
  ⟨0x5005, 1, 16, 1, 4, 4, .ro, 1, 0x0, false, false, .fld (Reg.JL_STAT 0) 0x100 31 0⟩,
  ⟨0x5006, 1, 16, 1, 4, 4, .ro, 1, 0x0, false, false, .fld (Reg.JL_CRC_CNT 0) 0x100 31 0⟩,
  ⟨0x8000, 0, 0, 0, 2, 1, .ro, 1, 0x0, false, false, .fld Reg.RELAY_STAT 0x0 3 0⟩,
  ⟨0x8001, 1, 1, 1, 1, 1, (.rwm 0x14), 3, 0x0, true, false, .bits Reg.RELAY_CFG 0 1⟩,
  ⟨0x8001, 2, 3, 1, 2, 1, (.rwm 0x14), 3, 0x0, true, false, .bits Reg.RELAY_CFG 0 1⟩,
  ⟨0x8001, 4, 4, 1, 1, 1, (.rwm 0x14), 3, 0x0, true, false, .bits Reg.RELAY_CFG 0 1⟩,
  ⟨0x8001, 5, 5, 1, 1, 1, (.rwm 0x14), 3, 0x1, true, false, .bits Reg.RELAY_CFG 0 1⟩,
  ⟨0x8002, 1, 8, 1, 13, 16, (.rwm 0x14), 3, 0x0, true, false, .words (Reg.RELAY_MIR_BASE_LO 0) 0x10 4⟩,
  ⟨0x8003, 1, 16, 1, 4, 4, (.rwm 0x14), 3, 0x0, true, false, .fld (Reg.RELAY_MP_CFG 0) 0x10 31 0⟩,
  ⟨0x8004, 0, 0, 0, 3, 2, .rw, 3, 0xfa, true, false, .fld Reg.RELAY_FENCE_TMO 0x0 15 0⟩,
  ⟨0x8005, 1, 4, 1, 1, 1, .wo, 3, 0x0, false, false, .own⟩,
  ⟨0x8006, 1, 1, 1, 4, 4, .ro, 1, 0x0, false, false, .fld Reg.RELAY_TAKE_CNT 0x0 31 0⟩,
  ⟨0x8006, 2, 2, 2, 4, 4, .ro, 1, 0x0, false, false, .fld Reg.RELAY_MISMATCH_CNT 0x0 31 0⟩]

/-- Objects, part 4. -/
def objRows3 : List Obj := [
  ⟨0x8006, 3, 3, 3, 4, 4, .ro, 1, 0x0, false, false, .fld Reg.RELAY_AUTH_CNT 0x0 31 0⟩,
  ⟨0x8006, 4, 4, 4, 4, 4, .ro, 1, 0x0, false, false, .fld Reg.RELAY_STALL_CNT 0x0 31 0⟩,
  ⟨0x8007, 1, 2, 1, 4, 4, .ro, 1, 0x0, false, false, .fld Reg.RELAY_TAKE_PTJ 0x4 31 0⟩,
  ⟨0x1000, 0, 0, 0, 4, 4, .const, 1, 0xc8e0008, false, false, .num 0xc8e0008⟩,
  ⟨0x1001, 0, 0, 0, 4, 4, .const, 1, 0x1c8e0d2b, false, false, .num 0x1c8e0d2b⟩,
  ⟨0x1002, 0, 0, 0, 12, 4, .const, 1, 0x3042, false, false, .num 0x3042⟩,
  ⟨0x1003, 0, 0, 0, 2, 1, .const, 1, 0x0, false, false, .own⟩,
  ⟨0x1004, 0, 0, 0, 13, 16, .const, 1, 0x0, false, false, .own⟩,
  ⟨0x1005, 1, 1, 1, 4, 4, .ro, 1, 0x0, false, false, .num Config.romVersion.toNat⟩,
  ⟨0x1005, 2, 2, 2, 4, 4, .ro, 1, 0x0, false, false, .fld Reg.SEC_FW_VER 0x0 31 0⟩,
  ⟨0x1006, 0, 0, 0, 2, 1, .ro, 1, 0x0, false, false, .fld Reg.PWR_MODE 0x0 3 0⟩,
  ⟨0x1007, 0, 0, 0, 5, 8, .ro, 1, 0x0, false, false, .own⟩,
  ⟨0x1010, 0, 0, 0, 13, 6, .rw, 3, 0x0, true, false, .words Reg.MGT_ADDR_LO 0x0 2⟩,
  ⟨0x1011, 1, 1, 1, 1, 1, .rw, 3, 0x1, true, false, .fld Reg.FMP_CTL 0x0 0 0⟩,
  ⟨0x1011, 2, 2, 2, 4, 4, .rw, 3, 0x0, true, false, .kept⟩,
  ⟨0x1011, 3, 3, 3, 4, 4, .rw, 3, 0x0, true, false, .kept⟩,
  ⟨0x1011, 4, 4, 4, 4, 4, .rw, 3, 0x0, true, false, .kept⟩,
  ⟨0x1012, 1, 1, 1, 1, 1, .rw, 3, 0x0, true, false, .fld Reg.FMP_CTL 0x0 2 2⟩,
  ⟨0x1012, 2, 2, 2, 2, 1, .rw, 3, 0x0, true, false, .kept⟩,
  ⟨0x1012, 3, 3, 3, 3, 2, .rw, 3, 0x1, true, false, .kept⟩,
  ⟨0x1012, 4, 4, 4, 4, 4, .rw, 3, 0x0, true, false, .kept⟩,
  ⟨0x1013, 0, 0, 0, 1, 1, .rw, 3, 0x1, true, false, .fld Reg.FMP_CTL 0x0 1 1⟩,
  ⟨0x1014, 0, 0, 0, 1, 1, .ro, 1, 0x0, false, false, .fld Reg.MGT_STAT 0x0 0 0⟩,
  ⟨0x1015, 1, 1, 1, 2, 1, .rw, 3, 0x0, true, false, .fld Reg.MGT_CFG 0x0 1 1⟩,
  ⟨0x1015, 2, 2, 2, 2, 1, .rw, 3, 0x1, true, false, .fld Reg.MGT_CFG 0x0 2 2⟩,
  ⟨0x1015, 3, 3, 3, 2, 1, .rw, 3, 0x0, true, false, .fld Reg.MGT_CFG 0x0 4 3⟩,
  ⟨0x1020, 1, 3, 1, 13, 32, .wo, 3, 0x0, false, false, .own⟩,
  ⟨0x1021, 1, 3, 1, 5, 8, .ro, 1, 0x0, false, false, .own⟩,
  ⟨0x1030, 1, 4, 1, 4, 4, .ro, 1, 0x0, false, false, .fld Reg.FMP_REQ_CNT 0x4 31 0⟩,
  ⟨0x1031, 1, 1, 1, 2, 1, .ro, 1, 0x8, false, false, .fld Reg.FMP_STAT 0x0 11 8⟩,
  ⟨0x1031, 2, 2, 2, 4, 4, .ro, 1, 0x0, false, false, .fld Reg.FMP_STORE_GEN 0x0 31 0⟩,
  ⟨0x1031, 3, 3, 3, 3, 2, .ro, 1, 0x0, false, false, .own⟩,
  ⟨0x1031, 4, 4, 4, 3, 2, .ro, 1, 0x0, false, false, .own⟩,
  ⟨0x1050, 0, 0, 0, 13, 192, .rw, 3, 0x0, true, false, .kept⟩,
  ⟨0x7000, 0, 0, 0, 3, 2, .ro, 1, 0x0, false, false, .fld Reg.PWR_MODE 0x0 9 0⟩,
  ⟨0x7001, 1, 4, 1, 1, 1, .wo, 3, 0x0, false, false, .own⟩,
  ⟨0x7002, 0, 0, 0, 1, 1, .rw, 3, 0x0, true, true, .fld Reg.PWR_POLICY 0x0 0 0⟩,
  ⟨0x7003, 1, 1, 1, 4, 4, .rw, 2, 0x0, false, false, .fld Reg.PWR_STBL_ENTER 0x0 31 0⟩,
  ⟨0x7003, 2, 2, 2, 4, 4, .rw, 2, 0x0, false, false, .fld Reg.PWR_STBL_WAKE 0x0 31 0⟩,
  ⟨0x7003, 3, 3, 3, 2, 1, .rw, 2, 0xc, false, false, .fld Reg.PWR_STBL_CFG 0x0 7 0⟩]

/-- Objects, part 5. -/
def objRows4 : List Obj := [
  ⟨0x7003, 4, 4, 4, 1, 1, .wo, 2, 0x0, false, false, .own⟩,
  ⟨0x7004, 0, 0, 0, 2, 1, .ro, 1, 0x0, false, false, .fld Reg.PWR_RESET_CAUSE 0x0 4 0⟩,
  ⟨0x7010, 1, 35, 1, 2, 1, .ro, 1, 0x0, false, false, .fld (Reg.PWR_PD_STAT 0) 0x4 2 0⟩,
  ⟨0x7011, 1, 35, 1, 1, 1, .rw, 2, 0x0, true, false, .fld (Reg.PWR_PD_CTL 0) 0x4 0 0⟩,
  ⟨0x7020, 0, 0, 0, 2, 1, (.rwm 0x14), 3, 0x0, true, false, .fld Reg.AVS_CFG 0x0 2 0⟩,
  ⟨0x7021, 1, 8, 1, 13, 8, (.rwm 0x14), 3, 0x0, true, false, .words (Reg.AVS_RAIL_CFG 0) 0x10 2⟩,
  ⟨0x7022, 1, 8, 1, 3, 2, .ro, 1, 0x0, false, false, .fld (Reg.AVS_RAIL_V 0) 0x10 9 0⟩,
  ⟨0x7030, 1, 1, 1, 3, 2, .rw, 3, 0xa8, true, false, .fld Reg.AGE_CFG 0x0 15 0⟩,
  ⟨0x7030, 2, 2, 2, 2, 1, .rw, 3, 0xf, true, false, .fld Reg.AGE_CFG 0x0 23 16⟩,
  ⟨0x7031, 0, 0, 0, 1, 1, .wo, 2, 0x0, false, false, .own⟩,
  ⟨0x7032, 0, 0, 0, 4, 4, .ro, 1, 0x0, false, false, .fld Reg.AGE_HOURS 0x0 31 0⟩,
  ⟨0x7033, 0, 0, 0, 13, 2048, .ro, 1, 0x0, false, false, .own⟩,
  ⟨0x7034, 1, 8, 1, 4, 4, .ro, 1, 0x0, false, false, .fld (Reg.AGE_LIFE 0) 0x4 31 0⟩,
  ⟨0x9000, 0, 0, 0, 2, 1, .ro, 1, 0x0, false, false, .fld Reg.SEC_LC 0x0 2 0⟩,
  ⟨0x9001, 0, 0, 0, 4, 4, .ro, 1, 0x0, false, false, .fld Reg.SEC_STAT 0x0 31 0⟩,
  ⟨0x9002, 1, 4, 1, 13, 32, .ro, 1, 0x0, false, false, .own⟩,
  ⟨0x9003, 1, 8, 1, 2, 1, .ro, 1, 0x0, false, false, .own⟩,
  ⟨0x9010, 0, 0, 0, 14, 0, .wo, 3, 0x0, false, false, .own⟩,
  ⟨0x9011, 0, 0, 0, 5, 8, .ro, 1, 0x0, false, false, .words Reg.SEC_NONCE_LO 0x0 2⟩,
  ⟨0x9012, 0, 0, 0, 4, 4, .ro, 1, 0x0, false, false, .fld Reg.SEC_CMD_STAT 0x0 31 0⟩,
  ⟨0x9020, 0, 0, 0, 13, 32, .wo, 2, 0x0, false, false, .own⟩,
  ⟨0x9021, 0, 0, 0, 14, 0, .ro, 2, 0x0, false, false, .own⟩,
  ⟨0x9022, 0, 0, 0, 13, 64, .ro, 1, 0x0, false, false, .own⟩,
  ⟨0x9023, 1, 1, 1, 4, 4, .ro, 1, 0x0, false, false, .own⟩,
  ⟨0x9023, 2, 3, 1, 2, 1, .ro, 1, 0x0, false, false, .own⟩,
  ⟨0x9030, 0, 0, 0, 13, 60, .rw, 3, 0x0, true, false, .own⟩,
  ⟨0x9031, 1, 64, 1, 13, 124, .rw, 3, 0x0, true, false, .own⟩,
  ⟨0x9032, 1, 3, 1, 13, 60, .rw, 3, 0x0, true, false, .own⟩,
  ⟨0x9033, 1, 64, 1, 13, 96, .wo, 3, 0x0, false, false, .own⟩,
  ⟨0x9034, 0, 0, 0, 13, 32, .wo, 3, 0x0, false, false, .own⟩,
  ⟨0x6000, 0, 0, 0, 4, 4, .ro, 1, 0x0, false, false, .fld Reg.OUT_STAT 0x0 31 0⟩,
  ⟨0x6001, 1, 1, 1, 4, 4, .ro, 1, 0x0, false, false, .fld Reg.OUT_LATCH 0x0 31 0⟩,
  ⟨0x6001, 2, 2, 2, 4, 4, .wo, 3, 0x0, false, false, .own⟩,
  ⟨0x6002, 1, 1, 1, 2, 1, .ro, 1, 0x0, false, false, .fld Reg.OUT_FIRST 0x0 4 0⟩,
  ⟨0x6002, 2, 2, 2, 4, 4, .ro, 1, 0x0, false, false, .fld Reg.OUT_FIRST_PT 0x0 31 0⟩,
  ⟨0x6003, 1, 21, 1, 4, 4, .ro, 1, 0x0, false, false, .fld (Reg.OUT_CLASS_CNT 1) 0x4 31 0⟩,
  ⟨0x6010, 1, 1, 1, 1, 1, (.rwm 0x14), 3, 0x1, true, true, .fld Reg.OUT_CFG 0x0 0 0⟩,
  ⟨0x6010, 2, 2, 2, 4, 4, (.rwm 0x14), 3, 0x40008, true, true, .fld Reg.OUT_WIN_CFG 0x0 31 0⟩,
  ⟨0x6010, 3, 3, 3, 4, 4, (.rwm 0x14), 3, 0x25800, true, true, .fld Reg.OUT_WIN_PERIOD 0x0 31 0⟩,
  ⟨0x6010, 4, 4, 4, 3, 2, (.rwm 0x14), 3, 0xffff, true, true, .fld Reg.OUT_WIN_LINKS 0x0 15 0⟩]

/-- Objects, part 6. -/
def objRows5 : List Obj := [
  ⟨0x6011, 1, 32, 1, 13, 8, (.rwm 0x14), 3, 0x0, true, true, .words (Reg.OUT_WIN_S 0) 0x8 2⟩,
  ⟨0x6012, 0, 0, 0, 4, 4, .ro, 1, 0x0, false, false, .fld Reg.OUT_WIN_VIOL 0x0 31 0⟩,
  ⟨0x6020, 1, 1, 1, 4, 4, .rw, 3, 0xb851f, true, true, .fld Reg.OUT_TL_LIMIT 0x0 31 0⟩,
  ⟨0x6020, 2, 2, 2, 7, 2, .rw, 3, 0x6e00, true, true, .fld Reg.OUT_TEMP_WARN 0x0 15 0⟩,
  ⟨0x6030, 1, 1, 1, 4, 4, .rw, 2, 0x6, true, false, .fld Reg.OUT_BIST_CFG 0x4 31 0⟩,
  ⟨0x6030, 2, 2, 1, 4, 4, .rw, 2, 0x7800, true, false, .fld Reg.OUT_BIST_CFG 0x4 31 0⟩,
  ⟨0x6030, 3, 4, 1, 4, 4, .rw, 2, 0x0, true, false, .fld Reg.OUT_BIST_CFG 0x4 31 0⟩,
  ⟨0x6031, 0, 0, 0, 13, 18, .rw, 2, 0x0, true, false, .words (Reg.OUT_BIST_PAD 0) 0x0 5⟩,
  ⟨0x6040, 1, 1, 1, 2, 1, .rw, 2, 0x0, false, false, .fld Reg.OUT_MUTE_SW 0x0 7 0⟩,
  ⟨0x6040, 2, 2, 2, 2, 1, .rw, 2, 0xff, true, false, .fld Reg.OUT_TO_GATE 0x0 7 0⟩]

/-- Every object of Tables ODP-10 and of the object tables of the chapters. -/
def objRows : List Obj :=
  objRows0 ++ objRows1 ++ objRows2 ++ objRows3 ++ objRows4 ++ objRows5

end Sys2Proof.Machine
end

