-- ==== Sys2Proof/Machine/Operands.lean ====
section
/-! DEFINITION. The forms an operand takes: bit fields of a word, signed readings, little- and big-endian byte strings,
tick numbers compared modulo 2^32 (R96), saturating values (R20), and the check codes the spec names. -/

namespace Sys2Proof.Machine

/-- Bits [hi:lo] of a word. -/
def bitsOf (v hi lo : Nat) : Nat := v / 2 ^ lo % 2 ^ (hi + 1 - lo)

/-- The word with bits [hi:lo] replaced. -/
def putBits (v hi lo x : Nat) : Nat :=
  v - bitsOf v hi lo * 2 ^ lo + x % 2 ^ (hi + 1 - lo) * 2 ^ lo

/-- A flag as a bit. -/
def bit (b : Bool) : Nat := if b then 1 else 0

/-- The two's-complement reading of a w-bit word. -/
def signed (w v : Nat) : Int := if v % 2 ^ w < 2 ^ (w - 1) then (v % 2 ^ w : Nat) else ((v % 2 ^ w : Nat) : Int) - 2 ^ w

/-- A signed value in w bits, two's complement, wrapping. -/
def unsigned (w : Nat) (x : Int) : Nat := (x % 2 ^ w).toNat

/-- A signed value held between two bounds. -/
def clamp (lo hi x : Int) : Int := if x < lo then lo else if hi < x then hi else x

/-- A signed value saturated to ±(2^(w−1) − 1), the format of R31. -/
def satSym (w : Nat) (x : Int) : Int := clamp (-(2 ^ (w - 1) - 1)) (2 ^ (w - 1) - 1) x

/-- A signed value saturated to the w-bit two's-complement range. -/
def satInt (w : Nat) (x : Int) : Int := clamp (-(2 ^ (w - 1))) (2 ^ (w - 1) - 1) x

/-- A count saturated at all-ones of w bits (R20). -/
def satNat (w v : Nat) : Nat := if v < 2 ^ w then v else 2 ^ w - 1

/-- The quotient rounded up. -/
def ceilDiv (a b : Nat) : Nat := (a + b - 1) / b

/-- An element put before the first it may stand before. -/
def insertBy {α : Type} (le : α → α → Bool) (x : α) : List α → List α
  | [] => [x]
  | y :: r => if le x y then x :: y :: r else y :: insertBy le x r

/-- A list sorted, equal elements kept in their order. -/
def sortBy {α : Type} (le : α → α → Bool) (l : List α) : List α := l.foldr (insertBy le) []

/-! Byte strings. -/

/-- The number a byte string spells, first byte least significant (R13). -/
def leNat : List Byte → Nat
  | [] => 0
  | b :: r => b.toNat + 256 * leNat r

/-- The number a byte string spells, first byte most significant. -/
def beNat (l : List Byte) : Nat := leNat l.reverse

/-- The n bytes of a number, first byte least significant (R13). -/
def leBytes : Nat → Nat → List Byte
  | 0, _ => []
  | n + 1, v => BitVec.ofNat 8 v :: leBytes n (v / 256)

/-- The n bytes of a number, first byte most significant. -/
def beBytes (n v : Nat) : List Byte := (leBytes n v).reverse

/-- Bytes o…o+n−1 of a byte string. -/
def slice (l : List Byte) (o n : Nat) : List Byte := (l.drop o).take n

/-- The little-endian field of n bytes at offset o. -/
def fieldLe (l : List Byte) (o n : Nat) : Nat := leNat (slice l o n)

/-- The big-endian field of n bytes at offset o. -/
def fieldBe (l : List Byte) (o n : Nat) : Nat := beNat (slice l o n)

/-- Every byte is zero. -/
def allZero (l : List Byte) : Bool := l.all (fun b => b == 0)

/-- A byte string brought to n bytes, cut or padded with zeros. -/
def padTo (n : Nat) (l : List Byte) : List Byte := l.take n ++ List.replicate (n - l.length) 0

/-! Tick numbers: 32 bits, compared modulo 2^32 (R96). -/

/-- a − b modulo 2^32. -/
def ptSub (a b : Nat) : Nat := (a + 2 ^ 32 - b % 2 ^ 32) % 2 ^ 32

/-- a is later than b (R96). -/
def ptLater (a b : Nat) : Bool := decide (1 ≤ ptSub a b) && decide (ptSub a b < 2 ^ 31)

/-- Tick a has been reached at tick number pt: a is not later than pt. -/
def ptReached (pt a : Nat) : Bool := decide (ptSub pt a < 2 ^ 31)

/-! Check codes, most significant bit of each byte first. -/

/-- One step of a CRC of width w, not reflected. -/
def crcBit (w poly crc : Nat) (b : Bool) : Nat :=
  let top := crc.testBit (w - 1) != b
  let sh := crc * 2 % 2 ^ w
  if top then Nat.xor sh poly else sh

/-- The bits of a byte, bit 7 first. -/
def byteBits (b : Byte) : List Bool := [7, 6, 5, 4, 3, 2, 1, 0].map b.toNat.testBit

/-- A CRC over bytes in order, each from bit 7 to bit 0. -/
def crcMsb (w poly init : Nat) (l : List Byte) : Nat :=
  l.foldl (fun c b => (byteBits b).foldl (crcBit w poly) c) init

/-- CRC-16/CCITT-FALSE (R287 and Table TLN-6 name it; polynomial 0x1021, initial 0xFFFF: PRESUMED, log entry 7). -/
def crc16 (l : List Byte) : Nat := crcMsb 16 0x1021 0xFFFF l

/-- CRC-24 of Table FAR-1: polynomial 0x86_4CFB, initial zero, no reflection, no final XOR. -/
def crc24 (l : List Byte) : Nat := crcMsb 24 0x864CFB 0 l

/-- The reversed 32-bit word. -/
def revBits (w v : Nat) : Nat := (List.range w).foldl (fun a i => a * 2 + bit (v.testBit i)) 0

/-- CRC-32 of IEEE 802.3 (reflected, initial and final all-ones: PRESUMED, log entry 7). -/
def crc32 (l : List Byte) : Nat :=
  Nat.xor 0xFFFFFFFF (revBits 32 (crcMsb 32 0x04C11DB7 0xFFFFFFFF (l.map (fun b => BitVec.ofNat 8 (revBits 8 b.toNat)))))

/-! SECDED over 64 bits (R209): data bit i has the i-th number, from 3 up, that is no power of two; check bits c_0…c_6 are
the parities of the data bits whose number has bit k set, and c_7 the parity of everything before it. -/

/-- The codeword positions q_0…q_63 of the data bits (R209). -/
def secPositions : List Nat := (List.range 72).filter (fun n => decide (3 ≤ n) && !([4, 8, 16, 32, 64].contains n))

/-- The parity of a list of bits. -/
def parity (l : List Bool) : Bool := l.foldl (fun a b => a != b) false

/-- The eight check bits of a 64-bit word (R209). -/
def secCheck (d : Nat) : Nat :=
  let cs := (List.range 7).map (fun j =>
    parity ((List.range 64).zipWith (fun i q => d.testBit i && q.testBit j) secPositions))
  let low := (List.range 7).zipWith (fun j c => bit c * 2 ^ j) cs |>.sum
  let p := parity ((List.range 64).map d.testBit) != parity cs
  low + 128 * bit p

/-- What a read of a protected word finds (R209): the data returned, and whether a single or a double error was seen. -/
structure SecRead where
  data   : Nat
  single : Bool
  double : Bool
  deriving DecidableEq, Repr

/-- The read of a 64-bit word d stored with check bits c (R209). -/
def secDecode (d c : Nat) : SecRead :=
  let syn := bitsOf (Nat.xor (secCheck d) c) 6 0
  let e := parity ((List.range 64).map d.testBit) != parity ((List.range 8).map c.testBit)
  if e then
    match secPositions.findIdx? (fun q => q == syn) with
    | some i => ⟨Nat.xor d (2 ^ i), true, false⟩
    | none => ⟨d, true, false⟩
  else ⟨d, false, decide (syn ≠ 0)⟩

end Sys2Proof.Machine
end

