-- ==== Sys2Proof/Machine/State.lean ====
section
/-! DEFINITION. The state of the block, as plain data: every register, queue, counter, mode and memory the spec names. -/

namespace Sys2Proof.Machine

/-- Why the machine stops with a fault. No command of this block ends in a fault: every address the spec calls unmapped is
answered with a decode error (R10), which is a next state. -/
inductive Fault where
  /-- Raised by nobody; kept so that the type of outcomes is the host's. Safe: no run reaches it. -/
  | unreachable
  deriving DecidableEq, Repr

/-- Why a command has no meaning. -/
inductive Refusal where
  /-- Raised by an arm of `exec` whose command has no meaning yet. Safe: the run stops where the hardware goes on. -/
  | notModelled (mnemonic : String)
  deriving DecidableEq, Repr

/-- The last answer the block gave to an initiator: whom, with which status (Table NOC-4; 0 OK), with which words. -/
structure Answer where
  who    : Nat := 0
  status : Nat := 0
  words  : List Nat := []
  deriving DecidableEq, Repr

/-! The Timeline (01_timeline.md). -/

/-- A pending step (R41, R44): its signed size in units of 2^-16 Tc. -/
structure PendStep where
  offset : Int
  deriving DecidableEq, Repr

/-- One entry of a timed-output queue (R49): its time in whole Tc since the epoch, and its level. -/
structure TimedEntry where
  time  : Nat
  level : Bool
  deriving DecidableEq, Repr

/-- A timed output, TO_n or a TLIO cell's (R48…R52): queue, the last entry accepted, whether the head has been taken and
scheduled, the pad, and the running periodic pattern (the time of its next edge and of its last rise, and whether it is
high). -/
structure TimedOut where
  queue    : List TimedEntry := []
  last     : Option Nat := none
  headOk   : Bool := false
  pad      : Bool := false
  nextEdge : Option Nat := none
  rise     : Nat := 0
  up       : Bool := false
  deriving DecidableEq, Repr

/-- A timestamp input (R54, R55): its FIFO of 96-bit values, oldest first, and the last captured edge. -/
structure TsInput where
  fifo : List (BitVec 96) := []
  last : Option Nat := none
  deriving DecidableEq, Repr

/-- What the reference path keeps of one GNSS input (R33…R35): last pulse, run of good spacings, pulses missing or
rejected in a row, the label waiting for the next pulse, and the last label with its pulse. -/
structure Gnss where
  pulse   : Option Nat := none
  run     : Nat := 0
  missing : Nat := 0
  label   : Option Nat := none
  lastLab : Option (Nat × Nat) := none
  deriving DecidableEq, Repr

/-- A fractional synthesiser beside its registers (R57): armed, and its anchor on the Timeline in units of 2^-16 Tc. -/
structure Fsyn where
  armed  : Bool := false
  anchor : Nat := 0
  deriving DecidableEq, Repr

/-- The timing core: the Timeline in units of 2^-16 Tc (R21), CKT, the loop and its inputs, outputs and synthesisers.
`lockRun` counts samples within LOCK_THR, `sSure` says S has been confirmed (R41), `ptpFresh` that PTP seconds wait for the
next sample (R36), `err` is the last phase error in full with its seconds, `requal` that FORCE_ACQUIRE has removed the PTP
reference's qualification (R36), `cks` the CKT cycles counted, by which durations are measured (the model's own). -/
structure Timing where
  tl        : Nat := 0
  ckt       : Bool := false
  pend      : Option PendStep := none
  lockRun   : Nat := 0
  sSure     : Bool := false
  ptpFresh  : Bool := false
  err       : Option Int := none
  requal    : Bool := false
  gnss      : List (Nat × Gnss) := []
  outs      : List (Nat × TimedOut) := []
  ins       : List (Nat × TsInput) := []
  fsyns     : List (Nat × Fsyn) := []
  ppsPin    : Bool := false
  cks       : Nat := 0
  deriving DecidableEq, Repr

/-! Holdover, the calendar and the Legacy Pulse Port (02_holdover_calendar.md). -/

/-- The estimator beside its registers (R62…R67): seconds counted towards LEARN_H and since the last power-up, failed sensor
reads in a row, the mean temperature of learning, whether a temperature range has begun; in holdover, U in units of
2^-48 Tc, the three rates taken from the fit at entry, the seconds grown, whether U grows, the seconds of disagreement, and the model whose
weight is zero. -/
structure Holdover where
  secs     : Nat := 0
  upSecs   : Nat := 0
  fails    : Nat := 0
  thetaRef : BitVec 32 := 0
  ranged   : Bool := false
  unc      : Nat := 0
  dy       : Nat := 0
  dD       : Nat := 0
  dth      : Nat := 0
  t        : Nat := 0
  grow     : Bool := false
  apart    : Nat := 0
  zeroWt   : Option Bool := none
  deriving DecidableEq, Repr

/-- The calendar beside its registers (R72…R78): S, crystal cycles within the second, the remainder of the trim, seconds
since the last trim, S of the last trim, the tamper log's sequence number and fill, the leap slots from the oldest, whether reference
seconds have been compared, and the loss the next power-up acts on (0 none, 1 crystal, 2 backup domain). -/
structure Calendar where
  s        : Nat := 0
  cyc      : Nat := 0
  acc      : Int := 0
  since    : Nat := 0
  trimS    : Nat := 0
  seq      : Nat := 0
  fill     : Nat := 0
  leaps    : List Nat := []
  compared : Bool := false
  lost     : Nat := 0
  deriving DecidableEq, Repr

/-- The Legacy Pulse Port (R86…R93): the committed control word, the staged high half and whether it is fresh, a commit
waiting for the second boundary, KEEP, whether it runs, the holdover stop, the frame counter and its two outputs' activity. -/
structure Lpp where
  ctl       : BitVec 32 := 0x01640000
  high      : BitVec 16 := 0x0164
  fresh     : Bool := false
  pend      : Option (BitVec 32) := none
  keep      : Bool := false
  running   : Bool := false
  hoStopped : Bool := false
  fcnt      : Nat := 0
  pps       : Bool := false
  frm       : Bool := false
  deriving DecidableEq, Repr

/-! The Pacer and rein-back (03_pacer.md, 04_run_ahead_rein_back.md). -/

/-- The states of an unreleased operation (Table RBK-1). -/
inductive OpState where
  | waiting | blocked | ready | running | done | held
  deriving DecidableEq, Repr

/-- An unreleased operation: its delay-list entry, the descriptor fields the Pacer keeps, and where it stands. `id` is its
place in acceptance order. -/
structure Op where
  id : Nat
  slot : Nat
  due : Nat
  start : Nat
  cost : Nat
  group : Nat
  cls : Nat
  list : Nat
  ordered : Bool
  flow : Nat
  safety : Bool
  seq : Nat
  graph : Nat
  nodeValid : Bool
  kernel : Nat
  target : Nat
  any : Bool
  teamMask : Nat
  relKind : Nat
  relId : Nat
  arg : Nat
  ins : List (Option Nat)
  outs : List (Option Nat)
  admitPt : Nat
  st : OpState := .waiting
  slip : Bool := false
  worker : Option Nat := none
  tag : Nat := 0
  preempted : Bool := false
  redo : Nat := 0
  report : Nat := 0
  staged : Option (List (BitVec 8)) := none
  deriving DecidableEq, Repr

/-- An entry of the admission queue (R102, R103): doorbell and descriptor offset. -/
structure Adm where
  bell   : Nat
  offset : Nat
  deriving DecidableEq, Repr

/-- Who last produced a token: acceptance number, and whether and in which graph. -/
structure Producer where
  op : Nat
  nodeValid : Bool
  graph : Nat
  deriving DecidableEq, Repr

/-- A granted tag of a hitch port (R113, R114). -/
structure HpTag where
  port : Nat
  tag : Nat
  op : Nat
  cancelled : Bool
  deriving DecidableEq, Repr

/-- The last released operation of a worker, for POST_RELEASE (R143). -/
structure LastRel where
  seq : Nat
  flow : Nat
  ordered : Bool
  safety : Bool
  slot : Nat
  graph : Nat
  deriving DecidableEq, Repr

/-- An open rein-back record (R142, R144): its slot, its taint set, and the re-dispatched operations not yet final. -/
structure OpenRec where
  slot : Nat
  members : List Nat
  pendOps : List Nat
  graphs : List Nat
  deriving DecidableEq, Repr

/-- The Pacer's own state beside its registers. -/
structure Pacer where
  admQ     : List Adm := []
  admRead  : List Adm := []
  ops      : List Op := []
  nextId   : Nat := 0
  prods    : List (Nat × Producer) := []
  lastDue  : List (Nat × Nat) := []
  ptr      : List (Nat × Nat) := []
  deficit  : List (Nat × Int) := []
  tags     : List HpTag := []
  lastRel  : List (Nat × LastRel) := []
  recs     : List OpenRec := []
  nextSlot : Nat := 0
  nextRec  : Nat := 0
  lossQ    : List (BitVec 64) := []
  fetches  : List (Nat × Nat) := []
  busy     : List Nat := []
  relTick  : Nat := 0
  relCount : Nat := 0
  snapReq  : Option Nat := none
  snap     : List (Nat × BitVec 128) := []
  deriving DecidableEq, Repr

/-! The Canter array (05_canter_cores.md). -/

/-- A destination of a write that a later cycle of the core makes visible (R160): a physical data register, an accumulator
component (imaginary or real), an address register, a step, a size code. -/
inductive Dest where
  | d (i : Nat)
  | acc (k : Nat) (im : Bool)
  | p (i : Nat)
  | m (i : Nat)
  | l (i : Nat)
  deriving DecidableEq, Repr

/-- A write waiting for its latency: visible from cycle `vis`; `issued` and `rank` order writes that land together (R162). -/
structure PendWrite where
  vis    : Nat
  issued : Nat
  rank   : Nat
  dest   : Dest
  val    : Nat
  deriving DecidableEq, Repr

/-- A hardware loop (R164): count, first and last body bundle, rotating, active. -/
structure Loop where
  count  : Nat := 0
  start  : Nat := 0
  stop   : Nat := 0
  rot    : Bool := false
  active : Bool := false
  deriving DecidableEq, Repr

/-- A transfer on a channel (R167): the bank that issued it, direction, local memory (0 X, 1 Y, 2 C), the first local
word index, physical address, words. -/
structure Xfer where
  bank : Bool
  get  : Bool
  mem  : Nat
  loc  : Nat
  phys : Nat
  len  : Nat
  deriving DecidableEq, Repr

/-- Why a bank's issue has stopped: not at all; at an ASK or exception with the status to report; at a WAIT on channels; at
a GET or PUT whose channel is busy. -/
inductive Waiting where
  | none
  | ask (status : Nat)
  | chans (mask : Nat)
  | chan (ch : Nat) (x : Xfer)
  deriving DecidableEq, Repr

/-- One bank of architectural state (Table CAN-1), with what its pipeline still owes: visible registers, the branch whose
delay bundles are still to issue (how many, and where to if taken), whether the last bundle stood in a delay slot, cycles to
pass before the next issue, rotations, STATUS flags and a rounding mode owed to the next bundle, the cycle of the last issue,
the writes in flight, the descriptor slot of its operation, and why its issue has stopped. -/
structure Bank where
  d      : List (Nat × BitVec 32) := []
  accs   : List (Nat × BitVec 48) := []
  p      : List (Nat × BitVec 48) := []
  m      : List (Nat × BitVec 16) := []
  l      : List (Nat × BitVec 4) := []
  loop0  : Loop := {}
  loop1  : Loop := {}
  status : BitVec 32 := 0
  pc     : Nat := 0
  nextPc : Nat := 0
  branch : Option (Nat × Option Nat) := none
  delay  : Bool := false
  stall  : Nat := 0
  rots   : Nat := 0
  flags  : BitVec 32 := 0
  rmNext : Option Nat := none
  cycle  : Nat := 0
  owed   : List PendWrite := []
  slot   : Option Nat := none
  wait   : Waiting := .none
  deriving DecidableEq, Repr

/-- A Canter core (R151): its STATE code, two banks, the live one, whether the other holds a preempted operation, its
memories by 32-bit word, the loop cache's captured body, its channels with the failed ones (and the bank they failed), the
requests of the Pacer that have not reached it (grants, operations to abandon), and the STATE to return to after a save or
a test. -/
structure CoreState where
  st       : Nat := 0
  bank0    : Bank := {}
  bank1    : Bank := {}
  live     : Bool := false
  shadow   : Bool := false
  x        : List (Nat × BitVec 32) := []
  y        : List (Nat × BitVec 32) := []
  c        : List (Nat × BitVec 32) := []
  i        : List (Nat × BitVec 32) := []
  cache    : Option (Nat × List (BitVec 64)) := none
  chans    : List (Nat × Xfer) := []
  failed   : List (Nat × Bool) := []
  grant    : Option Nat := none
  pgrant   : Option Nat := none
  drop     : List Nat := []
  prior    : Nat := 0
  deriving DecidableEq, Repr

/-- The Canter array beside its registers. -/
structure Canter where
  cores : List (Nat × CoreState) := []
  deriving DecidableEq, Repr

/-! The fabric (06_fabric_cells_routing.md, 07_fabric_memories_slices_clocks.md). -/

/-- A stored configuration frame: its 2,048 data bits and its 48 check bits as they stand (R229, R258). -/
structure FrameWord where
  data  : BitVec 2048 := 0
  check : BitVec 48 := 0
  deriving DecidableEq, Repr

/-- A port of a block memory: what the array last showed, the output stage, and the two ECC pulses (R207, R209). -/
structure BmPort where
  arr   : BitVec 72 := 0
  stage : BitVec 72 := 0
  sbe   : Bool := false
  dbe   : Bool := false
  deriving DecidableEq, Repr

/-- A block memory beside its contents: both ports and the COLLIDE output (R205, R208). -/
structure BlockMem where
  a       : BmPort := {}
  b       : BmPort := {}
  collide : Bool := false
  deriving DecidableEq, Repr

/-- What a slice's pipeline carries before the multiplier: the operand, its partner, the coefficient, the addend, FN. -/
structure SliceIn where
  a  : BitVec 24 := 0
  mq : BitVec 24 := 0
  coef : BitVec 20 := 0
  w  : BitVec 60 := 0
  fn : BitVec 6 := 0
  deriving DecidableEq, Repr

/-- After the pre-adder: t, the coefficient, the addend, FN. -/
structure SlicePre where
  t  : BitVec 25 := 0
  coef : BitVec 20 := 0
  w  : BitVec 60 := 0
  fn : BitVec 6 := 0
  deriving DecidableEq, Repr

/-- After the multiplier: M, the addend, FN, and whether t was saturated. -/
structure SliceMul where
  m   : BitVec 44 := 0
  w   : BitVec 60 := 0
  fn  : BitVec 6 := 0
  sat : Bool := false
  deriving DecidableEq, Repr

/-- An arithmetic slice (R212…R217): its optional stages, ACC, and its other outputs. -/
structure Slice where
  sIn   : SliceIn := {}
  sPre  : SlicePre := {}
  sMul  : SliceMul := {}
  acc   : BitVec 60 := 0
  rnd   : BitVec 36 := 0
  ovf   : Bool := false
  clamp : Bool := false
  deriving DecidableEq, Repr

/-- A request a dictionary port holds (R220, R221): who asked, the request fields, and whether FMP made it (R439). -/
structure DpReq where
  init  : Nat
  wr    : Bool
  index : Nat
  sub   : Nat
  word  : Nat
  data  : Nat
  fmp   : Bool := false
  deriving DecidableEq, Repr

/-- The fabric: frames by address, cell flip-flops, block memories with their rows (1,024 a memory), the armed BM_FLIP (memory
and mask), slices, what the keepers of long lines hold, the lines whose drivers a contention sensor has disabled, whether a
Paddock's drivers are released, the latched Blinker group modes and held levels of isolated Paddocks, the user I/O cells that
have latched PR_HOLD, and the requests at dictionary ports. -/
structure Fabric where
  frames  : List (Nat × FrameWord) := []
  ffs     : List (Nat × Bool) := []
  bms     : List (Nat × BlockMem) := []
  rows    : List (Nat × BitVec 72) := []
  flip    : Option (Nat × BitVec 72) := none
  slices  : List (Nat × Slice) := []
  keepers : List (Nat × Bool) := []
  tripped : List Nat := []
  driven  : List (Nat × Bool) := []
  blk     : List (Nat × BitVec 128) := []
  held    : List (Nat × Bool) := []
  ioHold  : List Nat := []
  dps     : List (Nat × DpReq) := []
  deriving DecidableEq, Repr

/-! The network on chip and the scratchpad (10_noc_scratchpad.md). -/

/-- A log of at most 32 entries of 128 bits with its sequence number (R275, R318, R355). -/
structure Log where
  q   : List (BitVec 128) := []
  seq : Nat := 0
  deriving DecidableEq, Repr

/-- A request packet (Table NOC-3): op 0 READ, 1 WRITE, 2 ADD, 3 SWAP; `len` in bytes. -/
structure NocReq where
  init  : Nat
  tag   : Nat
  op    : Nat
  cls   : Nat
  kix   : Nat
  await : Bool
  e2e   : Bool
  addr  : Nat
  len   : Nat
  data  : List (BitVec 8)
  deriving DecidableEq, Repr

/-- A response packet on its way to its initiator. -/
structure NocResp where
  req    : NocReq
  status : Nat
  data   : List (BitVec 8)
  deriving DecidableEq, Repr

/-- The network beside its registers: requests paced at their ports, requests under way, window accesses delivered to a
Paddock's design (Paddock, target tag, request) and those waiting for one of its four places, window tags timed out, responses
under way, failed resends in a row by link; the scratchpad's error patterns by 64-bit word (what the stored 72 bits differ by
from the word and its check), its banks in transition with what each goes to and what was written meanwhile, and the armed
SP_FLIP (bank, data mask, check mask). -/
structure Noc where
  paced  : List NocReq := []
  sent   : List NocReq := []
  win    : List (Nat × Nat × NocReq) := []
  winQ   : List (Nat × NocReq) := []
  winOld : List (Nat × Nat) := []
  resps  : List NocResp := []
  fails  : List (Nat × Nat) := []
  spErr  : List (Nat × BitVec 72) := []
  spTo   : List (Nat × Nat) := []
  spNext : List (Nat × Nat) := []
  spPrev : List (Nat × Nat) := []
  flip   : Option (Nat × BitVec 72) := none
  deriving DecidableEq, Repr

/-! Local SDRAM and CXL memory (11_sdram_cxl.md). -/

/-- What a stored line differs by from its data and their checks: 80 symbols, symbol s of codeword k at byte 20k + s; or checks
forced so that every read is uncorrectable (R311, R314). -/
structure LineErr where
  err    : BitVec 640 := 0
  poison : Bool := false
  deriving DecidableEq, Repr

/-- A merge-buffer entry: its line, and the bytes written so far by offset (R313). -/
structure Merge where
  line  : Nat
  bytes : List (Nat × BitVec 8)
  deriving DecidableEq, Repr

/-- A channel beside its registers: merge buffer oldest first, error log, armed MEM_FLIP, a retraining that is due, the
refreshes postponed of each rank, the next line of the patrol, a page being copied with its spare, a bank being copied, and the
bank that has been retired. -/
structure Channel where
  merge    : List Merge := []
  log      : Log := {}
  flip     : Option (BitVec 160) := none
  due      : Bool := false
  post0    : Nat := 0
  post1    : Nat := 0
  patrol   : Nat := 0
  page     : Option (Nat × Nat) := none
  bank     : Option Nat := none
  retired  : Option Nat := none
  deriving DecidableEq, Repr

/-- The memory block beside its registers: channels, error patterns by line (physical address / 64), CXL requests
outstanding. -/
structure Ext where
  chans : List (Nat × Channel) := []
  errs  : List (Nat × LineErr) := []
  cxl   : List NocReq := []
  deriving DecidableEq, Repr

/-! Inline memory encryption and integrity (12_memory_protection.md). -/

/-- A cached node: range, level, index, its eight counters, and whether it is dirty (R342). -/
structure Node where
  rng   : Nat
  level : Nat
  idx   : Nat
  ctrs  : List Nat
  dirty : Bool
  deriving DecidableEq, Repr

/-- A read of an ENC_INT tile under way: for a request, or (none) for the tile buffer's entry. -/
structure ImpRead where
  tile : Nat
  req  : Option NocReq
  deriving DecidableEq, Repr

/-- A tag check under way: for whom, whether its data has been released, whether the tag matches, whether the tag line was
uncorrectable, and the tile's plaintext. -/
structure ImpCheck where
  tile  : Nat
  req   : Option NocReq
  spec  : Bool
  good  : Bool
  tagUe : Bool
  data  : List (BitVec 8)
  deriving DecidableEq, Repr

/-- A tile-buffer entry: its tile, the KIX that classified it, the verified old contents, the written bytes by offset, and the writes not yet
acknowledged (R346). -/
structure TileBuf where
  tile  : Nat
  kix   : Nat := 0
  old   : Option (List (BitVec 8)) := none
  bytes : List (Nat × BitVec 8) := []
  reqs  : List NocReq := []
  deriving DecidableEq, Repr

/-- IMP beside its registers: roots and node keys by range, the node cache, reads and checks under way, writes waiting to enter
the buffer, the buffer, whether the boundary tile is claimed, the log, and the armed IMP_TAG_FLIP. -/
structure Imp where
  roots  : List (Nat × List Nat) := []
  nkeys  : List (Nat × List (BitVec 8)) := []
  cache  : List Node := []
  reads  : List ImpRead := []
  checks : List ImpCheck := []
  writes : List NocReq := []
  buf    : List TileBuf := []
  claim  : Bool := false
  log    : Log := {}
  flip   : Option Nat := none
  deriving DecidableEq, Repr

/-! Configuration and the Farrier (08_configuration.md, 09_upsets_farrier.md). -/

/-- A manifest entry (Table LDR-6). -/
structure Chunk where
  clen   : Nat
  frames : Nat
  digest : List (BitVec 8)
  deriving DecidableEq, Repr

/-- A retained stream (R254): its source, the key it was signed under, its chunks, and the first and last chunk that wrote each
Paddock it still supplies. -/
structure Retained where
  phys   : Bool
  src    : Nat
  slot   : Nat
  hash   : List (BitVec 8)
  chunks : List Chunk
  spans  : List (Nat × Nat × Nat)
  deriving DecidableEq, Repr

/-- The load in hand (R239…R252): kind (0 none, 1 FULL, 2 PARTIAL, 3 EMPTY), whether the straps started it, whether it is the
alternate image or one is due, the target Paddocks, the stream as pass one verified it, the header's settings and BUILD_ID, the
next chunk, the start-up step reached (1 last frame written … 4 GSR released), when it began, and the streams retained. -/
structure Loader where
  kind   : Nat := 0
  strap  : Bool := false
  alt    : Bool := false
  altDue : Bool := false
  tgts   : List Nat := []
  stream : Option Retained := none
  sets   : List (BitVec 8) := []
  build  : Nat := 0
  pos    : Nat := 0
  step   : Nat := 0
  start  : Nat := 0
  kept   : List Retained := []
  deriving DecidableEq, Repr

/-- A frame in an engine's repair queue (R267): what it is to hold, whether it has been written, whether it was fetched back,
and how it was found. -/
structure FarItem where
  fa      : Nat
  word    : FrameWord
  written : Bool := false
  fetched : Bool := false
  prio    : Bool := false
  deriving DecidableEq, Repr

/-- A frame being fetched back (R269): the next chunk of the span. -/
structure Refetch where
  fa   : Nat
  prio : Bool
  pos  : Option Nat := none
  deriving DecidableEq, Repr

/-- A scrub engine (R260…R264, R274): next address of the base pass by its place in the cycle, when the cycle began, the
Paddocks of the present priority pass and the place in it, repair queue, re-fetches, lines under repair, the partner's sequence
number as last seen, whether it carries every Paddock, and whether it is to at its next period. -/
structure FarEngine where
  base  : Nat := 0
  start : Nat := 0
  pads  : List Nat := []
  ppos  : Nat := 0
  queue : List FarItem := []
  fetch : List Refetch := []
  lines : List Nat := []
  seen  : Option Nat := none
  all   : Bool := false
  solo  : Bool := false
  deriving DecidableEq, Repr

/-- The Farrier beside its registers: both engines, the committed priority set, upsets by second from the present one back, its
log, and whether a stalled engine has been reset. -/
structure Farrier where
  a       : FarEngine := {}
  b       : FarEngine := {}
  set     : List Nat := []
  ups     : List Nat := []
  log     : Log := {}
  restore : Bool := false
  deriving DecidableEq, Repr

/-! Lanes, Ethernet and the Tether link (13_lanes_ethernet_tether.md). -/

/-- A MAC beside its registers (R364, R368): its eight transmit queues of (address, length), the frame being sent with its queue,
and the transmit-stamp FIFO. -/
structure Mac where
  qs   : List (Nat × List (Nat × Nat)) := []
  cur  : Option (Nat × List (BitVec 8)) := none
  txts : List (BitVec 128) := []
  deriving DecidableEq, Repr

/-- A buffer of a lane engine (R378): address, length, the tick of its release, its bytes once fetched, and whether the fetch failed. -/
structure CvBuf where
  addr : Nat
  len  : Nat
  rel  : Nat
  data : Option (List (BitVec 8)) := none
  failed : Bool := false
  deriving DecidableEq, Repr

/-- A Tether lane (R382…R384): the word position of the receiver, frames with the marker in a row while searching and without it
while locked, the descrambler's state, and of the transmitter the keystream's state and the present run on the wire. -/
structure TethLane where
  slips : Nat := 0
  run   : Nat := 0
  miss  : Nat := 0
  key   : Option (BitVec 31) := none
  txKey : BitVec 31 := 0
  bit   : Bool := false
  same  : Nat := 0
  deriving DecidableEq, Repr

/-- The Tether link beside its registers (R385): lanes, the next LSEQ and the lane last used in transmission, frames waiting to be
sent (kind, body), the LSEQ expected, frames held until it arrives (LSEQ, kind, payload, time of receipt), and what has been
delivered to the Relay (kind, LSEQ, payload, time of receipt; a gap is none). -/
structure Tether where
  lanes  : List (Nat × TethLane) := []
  lseq   : Nat := 0
  last   : Nat := 3
  outbox : List (Nat × List (BitVec 8)) := []
  expect : Option Nat := none
  held   : List (Nat × Nat × List (BitVec 8) × Nat) := []
  inbox  : List (Option (Nat × Nat × List (BitVec 8) × Nat)) := []
  deriving DecidableEq, Repr

/-- The lane blocks beside their registers: MACs, lane-engine buffers by link, equaliser values (32 a lane; converter lanes from
64), the links an adoption is armed for, the management port's settings in effect, Tether. -/
structure Lanes where
  macs  : List (Nat × Mac) := []
  bufs  : List (Nat × List CvBuf) := []
  eq    : List (Nat × BitVec 16) := []
  adopt : Nat := 0
  mgt   : Nat := 4
  teth  : Tether := {}
  deriving DecidableEq, Repr

/-! The Relay pair (14_relay_pair.md). -/

/-- A journal entry not yet acknowledged (R399): its number, tick, kind and DATA. -/
structure JEntry where
  jseq : Nat
  pt   : Nat
  kind : Nat
  data : List (BitVec 8)
  deriving DecidableEq, Repr

/-- What a snapshot still has to send (R417): the rest of a mirror range, a Pacer register by its offset, an object's value, an
operation by its acceptance number, and SNAP_END. -/
inductive SnapItem where
  | mem (a n : Nat)
  | cfg (off : Nat)
  | obj (index sub : Nat) (val : List (BitVec 8))
  | adm (id : Nat)
  | done
  deriving DecidableEq, Repr

/-- The Relay beside its registers (R394…R417): the next FCTR and the last accepted; accepted frames waiting for their kind's
step (kind, body, time of receipt); an election under way, a UNIT clash; of a primary the unacknowledged journal, the snapshot,
the JSEQ of its SNAP_END, a stall, the doorbell indices not yet reached by port; of a secondary the last JSEQ applied, an entry
received in part (JSEQ, next segment, DATA), the PT of the last entry applied or acknowledged, the operations released while
suppressed (DUE_TICK, flow, SEQ, ordered); the gap FIFO (flow, first SEQ, count); FENCE_OUT as R411 drives it, a takeover that was
blocked, a HANDOVER applied, the role the partner last reported, a heartbeat on either path since the last period, a time
exchange unanswered and how many failed in a row, and when JOIN was last issued by itself. -/
structure Relay where
  fctr    : Nat := 0
  seen    : Option Nat := none
  acc     : List (Nat × List (BitVec 8) × Nat) := []
  elect   : Bool := false
  clash   : Bool := false
  buf     : List JEntry := []
  snap    : List SnapItem := []
  snapEnd : Option Nat := none
  stall   : Bool := false
  want    : List (Nat × Nat) := []
  applied : Option Nat := none
  part    : Option (Nat × Nat × List (BitVec 8)) := none
  jpt     : Option Nat := none
  shadow  : List (Nat × Nat × Nat × Bool) := []
  gaps    : List (Nat × Nat × Nat) := []
  fence   : Bool := false
  blocked : Bool := false
  hand    : Bool := false
  peer    : Nat := 0
  hbPin   : Bool := false
  hbLink  : Bool := false
  asked   : Bool := false
  missed  : Nat := 0
  autoAt  : Option Nat := none
  deriving DecidableEq, Repr

/-! The object dictionary and FMP (15_object_dictionary.md). -/

/-- A request in the queue of R431: its transport (0 management port, 1 in-band, 2 MGMT_SPI), who asked, and its frame. -/
structure FmpReq where
  via   : Nat
  peer  : Nat
  frame : List (BitVec 8)
  deriving DecidableEq, Repr

/-- A role beside its key (R429, R430): nonce, LAST_SEQ, and the tag and the stored response of the request that set it (none
while that request waits). -/
structure FmpRole where
  nonce : Nat := 0
  last  : Nat := 0
  tag   : List (BitVec 8) := []
  rsp   : Option (List (BitVec 8)) := none
  deriving DecidableEq, Repr

/-- A segmented transfer of a role (R434): its direction, object, total size, its bytes (the snapshot, or what has been received),
and the bytes delivered. -/
structure Segs where
  write : Bool
  index : Nat
  sub   : Nat
  size  : Nat
  data  : List (BitVec 8)
  pos   : Nat := 0
  deriving DecidableEq, Repr

/-- A sector of the persistent store (R436): erase count (none for a blank header), retired, and its valid image: generation and
values by 256 × index + subindex. -/
structure Sector where
  count   : Option Nat := some 0
  retired : Bool := false
  image   : Option (Nat × List (Nat × List (BitVec 8))) := none
  deriving DecidableEq, Repr

/-- A STORE under way (R436): the role and the request it answers, its snapshot, the sector taken, and whether an image has
already failed its read-back. -/
structure Storing where
  by_    : Option FmpReq
  vals   : List (Nat × List (BitVec 8))
  sector : Nat
  again  : Bool := false
  deriving DecidableEq, Repr

/-- A request to a dictionary port under way (R439): the descriptor once read, the words moved, the answer of the port (abort, data). -/
structure UserReq where
  desc  : Option Nat := none
  words : List Nat := []
  got   : Option (Nat × Nat) := none
  deriving DecidableEq, Repr

/-- FMP beside its registers: the queue, roles, segmented transfers, a user-object request, RAM values of objects that no
register holds (by 256 × index + subindex), a STORE under way, its sectors and the sector last written; MGMT_SPI's waiting
responses, the frame still untaken and OVF; whether the request at the head waits for a signature (R493); the last frame sent on
each other transport; 0x0C01 answers of the present second by transport with when it began (R430); the last STORE abort and the
values refused at boot. -/
structure Fmp where
  queue  : List FmpReq := []
  roles  : List (Nat × FmpRole) := []
  segs   : List (Nat × Segs) := []
  user   : Option UserReq := none
  vals   : List (Nat × List (BitVec 8)) := []
  store  : Option Storing := none
  sects  : List (Nat × Sector) := []
  at_    : Nat := 7
  spi    : List (List (BitVec 8)) := []
  spiRx  : Option (List (BitVec 8)) := none
  signing : Bool := false
  ovf    : Bool := false
  sent   : List (Nat × Nat × List (BitVec 8)) := []
  fails  : List (Nat × Nat × Nat) := []
  abort  : Nat := 0
  bad    : Nat := 0
  deriving DecidableEq, Repr

/-! Power, boot and ageing (16_modes_power.md). -/

/-- A rail's loop (R465, R466, R468): periods in a row above SLACK_HI, and with a code of 0 at 850 mV; the lowest voltage held
since the last re-plan; the voltage to return to after retention. -/
structure Rail where
  high  : Nat := 0
  zeros : Nat := 0
  vmin  : Nat := 850
  back  : Nat := 0
  deriving DecidableEq, Repr

/-- Power and boot beside their registers: the step of Table MOD-3 reached (0 waiting for POR_N, 1 RCO, 2 the timing PLL, 3 the
domains, 4 firmware, 5 booted), the straps sampled by a release of POR_N that came before the rails were good, main power present, an asynchronous latch that
predates the boot, the domains still to switch on; the armed entry and wake ticks, a WAKE_NOW held, asleep since the last entry,
the fabric clock trees gated; rails, canary codes (present and lowest since read), the re-plan history in flash, powered hours as
kept in flash and since the last re-plan, and when the present POR began. -/
structure Power where
  boot    : Nat := 0
  early   : Option Nat := none
  main    : Bool := true
  oldMute : Bool := false
  seq     : List Nat := []
  enterAt : Nat := 0
  wakeAt  : Option Nat := none
  wakeNow : Bool := false
  slept   : Bool := false
  gated   : Bool := false
  rails   : List (Nat × Rail) := []
  canary  : List (Nat × (Nat × Nat)) := []
  hist    : List (List (BitVec 8)) := []
  hours   : Nat := 0
  since   : Nat := 0
  porAt   : Nat := 0
  deriving DecidableEq, Repr

/-! Security (17_security_lifecycle.md). -/

/-- The security block beside its registers: OTP bytes by offset; the tack room's IMP key slots (K1, K2 and KM, 96 bytes), role
keys and Relay key; the debug level granted; the last report with its signature, a challenge accepted and the report being signed;
a key generation under way; an erase asked for (0 by the debug port, else the life-cycle code it leads to) and whether it has
begun; the BIST under way ([0] logic, [1] memory); the digest of the running firmware; and the journal of the attestation
index: next leaf, tokens, generation, newest first. -/
structure Security where
  otp     : List (Nat × BitVec 8) := []
  tack    : List (Nat × List (BitVec 8)) := []
  roles   : List (Nat × List (BitVec 8)) := []
  relay   : List (BitVec 8) := []
  grant   : Option Nat := none
  report  : List (BitVec 8) := []
  sign    : Option (Nat × List (BitVec 8)) := none
  keygen  : Option Nat := none
  erase   : Option (Nat × Bool) := none
  bist    : Nat := 0
  digest  : List (BitVec 8) := []
  journal : List (Nat × Nat × Nat) := []
  deriving DecidableEq, Repr

/-! The Outrider (18_safety_outrider.md). -/

/-- A core test under way or asked for (R525): the core, and whether the test has begun with the memories it saved. -/
structure BistCore where
  core  : Nat
  begun : Bool := false
  deriving DecidableEq, Repr

/-- The Outrider beside its registers: the block memory under online test (256 + its global number), a core test, violating ticks
in a row with the last of them (counted since the epoch), the clocks found out of their window, the sensors' runs of hot and of
warm readings, and whether the device has left SAFE by a reset since OUT_FIRST was recorded (R506, R516). -/
structure Outrider where
  bist  : Option Nat := none
  core  : Option BistCore := none
  viols : Nat := 0
  last  : Option Nat := none
  clks  : List Nat := []
  hot   : List (Nat × Nat) := []
  warm  : List (Nat × Nat) := []
  left  : Bool := false
  deriving DecidableEq, Repr

/-! Controllers, service pins and serial ports (19_controller_service_pins.md). -/

/-- A UART: received words (byte, [8] parity error, [9] framing error) and bytes to send, oldest first, and the byte on the wire. -/
structure Uart where
  rx : List Nat := []
  tx : List (BitVec 8) := []
  sh : Option (BitVec 8) := none
  deriving DecidableEq, Repr

/-- An unlock window (R541): 1 the first value seen, 2 unlocked, with when that was (in CKT cycles), and what of the pair's clock had
passed when it was halted. -/
structure Unlock where
  stage : Nat
  since : Nat
  spent : Option Nat := none
  deriving DecidableEq, Repr

/-- A flash command under way (R535): erase or program, the offset it acts on, the page. -/
structure FlashCmd where
  erase : Bool
  ofs   : Nat
  page  : List (BitVec 8)
  deriving DecidableEq, Repr

/-- The controllers and service pins beside their registers: pair B started (R537), pairs held in reset by a mismatch (R516), unlock
windows by pair, watchdog warnings by pair, the TIMEOUT in force (R538, R539), the flash command under way, pins in their break
(R548), levels the board drives on pins, UARTs, SPI_1's FIFOs, its command and the chip selects held low, and the software transaction of each I²C port. -/
structure Service where
  bRun   : Bool := false
  held   : List Nat := []
  unlock : List (Nat × Unlock) := []
  warn   : List Nat := []
  tmo    : List (Nat × Nat) := []
  flash  : Option FlashCmd := none
  broken : List Nat := []
  inputs : List (Nat × Bool) := []
  uarts  : List (Nat × Uart) := []
  spiTx  : List (BitVec 8) := []
  spiRx  : List (BitVec 8) := []
  spiCmd : Option Nat := none
  spiHold : List Nat := []
  i2c    : List (Nat × Nat) := []
  deriving DecidableEq, Repr

/-! Debug (20_debug.md). -/

/-- The debug port beside its registers: the TAP's instruction register; the boundary register's preloaded image; the pairs in debug
halt, those with resethaltreq; the debug module's registers by DMI address (128 and 129: resumeack and havereset by hart); the registers of a pair written or read through it
(65,536 × pair + number); both mailboxes, oldest first; status and data of the last DBG_SYS operation. -/
structure Debug where
  ir     : Nat := 1
  bound  : List (Nat × Bool) := []
  halted : List Nat := []
  rhalt  : List Nat := []
  dm     : List (Nat × BitVec 32) := []
  gprs   : List (Nat × BitVec 64) := []
  h2d    : List (BitVec 32) := []
  d2h    : List (BitVec 32) := []
  status : Nat := 0
  data   : Nat := 0
  deriving DecidableEq, Repr

/-- The machine's state. Registers and memories are sparse: a register not listed reads its reset value, a byte not listed
reads as `Machine.memDefault` says. `pending` is the queue of waiting commands, first in, first out; `freeCtr` counts the
free values taken (the model's own). -/
structure State where
  regs    : List (Nat × BitVec 32) := []
  mem     : List Host.Cell := []
  latches : List ((Nat × Nat) × List (BitVec 32)) := []
  staged  : List ((Nat × Nat) × BitVec 32) := []
  ans     : Answer := {}
  tim     : Timing := {}
  ho      : Holdover := {}
  cal     : Calendar := {}
  lpp     : Lpp := {}
  pac     : Pacer := {}
  can     : Canter := {}
  fab     : Fabric := {}
  ldr     : Loader := {}
  far     : Farrier := {}
  noc     : Noc := {}
  ext     : Ext := {}
  imp     : Imp := {}
  lane    : Lanes := {}
  rly     : Relay := {}
  fmp     : Fmp := {}
  pw      : Power := {}
  sec     : Security := {}
  out     : Outrider := {}
  svc     : Service := {}
  dbg     : Debug := {}
  pending : List Instr := []
  freeCtr : Nat := 0
  deriving DecidableEq, Repr

/-- The machine right after reset: every register at its reset value (nothing listed), every memory as an unlisted byte
reads, every queue empty. -/
def State.reset : State := {}

end Sys2Proof.Machine
end

