-- ==== Sys2Proof/Machine/Ops.lean ====
section
/-! DEFINITION. The named operations over registers, sparse tables and memory. -/

namespace Sys2Proof.Machine

/-! A sparse table lists only the keys whose value is not the one `d` gives them, by rising key. -/

/-- The value at a key: the first listed, else the one `d` gives. -/
def sget {α : Type} (d : Nat → α) : List (Nat × α) → Nat → α
  | [], k => d k
  | (j, v) :: r, k => if j = k then v else sget d r k

/-- A pair put in its place by rising key. -/
def sinsert {α : Type} (k : Nat) (v : α) : List (Nat × α) → List (Nat × α)
  | [] => [(k, v)]
  | (j, w) :: r => if k ≤ j then (k, v) :: (j, w) :: r else (j, w) :: sinsert k v r

/-- The table without a key. -/
def sdrop {α : Type} (k : Nat) (m : List (Nat × α)) : List (Nat × α) := m.filter (fun e => e.1 != k)

/-- The table with a key's value replaced; a value equal to the one `d` gives is not listed. -/
def sput {α : Type} [DecidableEq α] (d : Nat → α) (m : List (Nat × α)) (k : Nat) (v : α) : List (Nat × α) :=
  if v = d k then sdrop k m else sinsert k v (sdrop k m)

/-- The keys rise strictly and no listed value is the one `d` gives: the canonical form. -/
def swf {α : Type} [DecidableEq α] (d : Nat → α) (m : List (Nat × α)) : Bool :=
  decide ((m.map (·.1)).Pairwise (· < ·)) && m.all (fun e => decide (e.2 ≠ d e.1))

/-! Registers (R12, R15). -/

/-- The control space's base (Table SCO-5). -/
def ctrlBase : Nat := 0x40000000

/-- The base of control block `b` (Table SCO-6). -/
def blockBase (b : Nat) : Nat := ctrlBase + 0x1000000 * b

/-- Reading an offset's remainder as indices of a row: the word index where it lies on the row. -/
def rowWord : List (Nat × Nat) → Nat → Nat → Option Nat
  | [], words, r => if r % 4 = 0 ∧ r / 4 < words then some (r / 4) else none
  | (st, n) :: ds, words, r => if r / st < n then rowWord ds words (r % st) else none

/-- The row of a register map that an offset lies on, and the word of the register. -/
def findRow : List RegRow → Nat → Option (RegRow × Nat)
  | [], _ => none
  | row :: rs, off =>
    if row.off ≤ off then
      match rowWord row.dims row.words (off - row.off) with
      | some w => some (row, w)
      | none => findRow rs off
    else findRow rs off

/-- The control block an address lies in. -/
def blockOf (a : Nat) : Nat := a / 0x1000000 - 0x40

/-- The row of an address in the control space, common event registers excepted. -/
def regRow (a : Nat) : Option (RegRow × Nat) := findRow (regRows (blockOf a)) (a % 0x1000000)

/-- The value an unlisted register reads: its reset value. -/
def regReset (a : Nat) : Word :=
  match regRow a with
  | some (row, w) => BitVec.ofNat 32 (row.reset / 2 ^ (32 * w))
  | none => 0

/-- A register's value. -/
def State.reg (s : State) (a : Nat) : Word := sget regReset s.regs a

/-- A register's value as a number. -/
def State.regN (s : State) (a : Nat) : Nat := (s.reg a).toNat

/-- The state with its register table replaced. -/
def State.withRegs (s : State) (r : List (Nat × Word)) : State := { s with regs := r }

/-- The state with a register's value replaced. -/
def State.setReg (s : State) (a : Nat) (v : Word) : State := s.withRegs (sput regReset s.regs a v)

/-- The same from a number, modulo 2^32. -/
def State.setRegN (s : State) (a v : Nat) : State := s.setReg a (BitVec.ofNat 32 v)

/-- Field [hi:lo] of a register. -/
def State.fld (s : State) (a hi lo : Nat) : Nat := bitsOf (s.regN a) hi lo

/-- Bit n of a register. -/
def State.flag (s : State) (a n : Nat) : Bool := (s.regN a).testBit n

/-- The state with a field of a register replaced. -/
def State.setFld (s : State) (a hi lo v : Nat) : State := s.setRegN a (putBits (s.regN a) hi lo v)

/-- The state with a bit of a register replaced. -/
def State.setFlag (s : State) (a n : Nat) (b : Bool) : State := s.setFld a n n (bit b)

/-- A saturating field advanced by n (R20). -/
def State.addFld (s : State) (a hi lo n : Nat) : State := s.setFld a hi lo (satNat (hi + 1 - lo) (s.fld a hi lo + n))

/-- A saturating 32-bit count advanced by one (R20). -/
def State.count (s : State) (a : Nat) : State := s.setRegN a (satNat 32 (s.regN a + 1))

/-- A saturating 32-bit count advanced by n (R20). -/
def State.countBy (s : State) (a n : Nat) : State := s.setRegN a (satNat 32 (s.regN a + n))

/-! Values the spec leaves open (log entry 1). -/

/-- The next free value. -/
def State.free (s : State) : Nat := (Config.freeValue s.freeCtr).toNat

/-- The state with the next free value taken. -/
def State.took (s : State) : State := { s with freeCtr := s.freeCtr + 1 }

/-! Answers to initiators. -/

/-- The state with an answer given. -/
def State.answer (s : State) (init status : Nat) (words : List Nat) : State :=
  { s with ans := { who := init, status := status, words := words } }

/-! Memory: bytes by physical address; what is not listed reads as `memDefault` (log entry 3). -/

/-- What an unlisted byte reads: erased flash 0xFF outside its security region (R534), everything else zero. -/
def memDefault (a : Nat) : Byte :=
  if 0x20000000 ≤ a ∧ a < 0x21000000 ∧ ¬(0x20F00000 ≤ a ∧ a < 0x20F40000) then 0xFF else 0

/-- The canonical form of the memory. -/
abbrev Memory.wf (m : List Host.Cell) : Prop := swf memDefault m = true

/-- One byte of memory. -/
def State.byte (s : State) (a : Nat) : Byte := sget memDefault s.mem a

/-- The state with its memory replaced. -/
def State.withMem (s : State) (m : List Host.Cell) : State := { s with mem := m }

/-- The state with one byte of memory written. -/
def State.setByte (s : State) (a : Nat) (b : Byte) : State := s.withMem (sput memDefault s.mem a b)

/-- n stored bytes from an address. -/
def State.stored (s : State) (a n : Nat) : List Byte := (List.range n).map (fun i => s.byte (a + i))

/-- Bytes written from an address upward. -/
def writeBytes (m : List Host.Cell) : Nat → List Byte → List Host.Cell
  | _, [] => m
  | a, b :: r => writeBytes (sput memDefault m a b) (a + 1) r

/-- The state with stored bytes replaced from an address upward. -/
def State.store (s : State) (a : Nat) (l : List Byte) : State := s.withMem (writeBytes s.mem a l)

/-- The scratchpad's base and size (Table SCO-5). -/
def scratchBase : Nat := 0x10000000
/-- 64 MiB. -/
def scratchSize : Nat := 0x4000000
/-- The flash read window's base (Table SCO-5). -/
def flashBase : Nat := 0x20000000
/-- The controller SRAM's base (Table SCO-5). -/
def sramBase : Nat := 0x30000000

/-- The outcome of a step that goes on. -/
abbrev Out := Host.Outcome State Fault Refusal

end Sys2Proof.Machine
end

