-- ==== Sys2Proof/Machine/Flags.lean ====
section
/-! DEFINITION. Every flag the block raises: events with their counters and the interrupts they gate (R17…R20), and the
Outrider's fault classes (R506…R509). -/

namespace Sys2Proof.Machine

/-- EVT_STATUS of block b (Table SCO-7). -/
def evtStatus (b : Nat) : Nat := blockBase b + 0xF00000
/-- EVT_ENABLE of block b. -/
def evtEnable (b : Nat) : Nat := blockBase b + 0xF00004
/-- EVT_COUNT_CLR of block b. -/
def evtCountClr (b : Nat) : Nat := blockBase b + 0xF00008
/-- EVT_COUNT_n of block b. -/
def evtCount (b n : Nat) : Nat := blockBase b + 0xF00040 + 4 * n

/-- Event n of block b occurs: its status bit is set and its 16-bit counter advances, saturating (R18, R20). -/
def State.raise (s : State) (b n : Nat) : State :=
  (s.setFlag (evtStatus b) n true).addFld (evtCount b n) 15 0 1

/-- An event that occurs only when a condition holds. -/
def State.raiseIf (s : State) (c : Bool) (b n : Nat) : State := if c then s.raise b n else s

/-- The interrupt of block b is asserted (R18). -/
def irqOf (s : State) (b : Nat) : Bool := decide ((s.reg (evtStatus b)) &&& (s.reg (evtEnable b)) ≠ 0)

/-! Block numbers of Table SCO-6. -/
/-- System controller and interrupts. -/
def blkSvc : Nat := 0
/-- Timing core and calendar. -/
def blkTim : Nat := 1
/-- Pacer. -/
def blkPac : Nat := 2
/-- NoC and scratchpad control. -/
def blkNoc : Nat := 3
/-- Configuration and Farrier. -/
def blkCfg : Nat := 4
/-- Local SDRAM, CXL and IMP. -/
def blkMem : Nat := 5
/-- Lanes. -/
def blkLane : Nat := 6
/-- Ethernet. -/
def blkEth : Nat := 7
/-- Canter array. -/
def blkCan : Nat := 8
/-- Security. -/
def blkSec : Nat := 9
/-- Outrider. -/
def blkOut : Nat := 10
/-- Relay. -/
def blkRly : Nat := 11
/-- Power and adaptive voltage. -/
def blkPwr : Nat := 12
/-- Service pins and serial ports. -/
def blkPin : Nat := 13
/-- Debug mailbox. -/
def blkDbg : Nat := 14

end Sys2Proof.Machine
end

