-- ==== Sys2Proof/Machine/Mode.lean ====
section
/-! DEFINITION. Time, mode and the transmit gate: the readings of the Timeline (R21…R25, R96), the mode machine
(R445…R450, Tables MOD-1 and MOD-2) and the Outrider's classes and gate (R506…R511). -/

namespace Sys2Proof.Machine

/-! The Timeline, counted in units of 2^-16 Tc since the epoch (R21). -/

/-- One Tc. -/
def tcUnit : Nat := 65536
/-- One CKT cycle, 4 Tc (R27). -/
def cktUnit : Nat := 4 * tcUnit
/-- One tick, 64 Tc (R24). -/
def tickUnit : Nat := 64 * tcUnit
/-- One second, 1,966,080,000 Tc (R21). -/
def secTc : Nat := 1966080000
/-- One second in units. -/
def secUnit : Nat := secTc * tcUnit
/-- The Timeline's only wrap: S from 2^48 − 1 to 0 (R22). -/
def tlWrap : Nat := 2 ^ 48 * secUnit

/-- S, whole seconds. -/
def tlS (tl : Nat) : Nat := tl / secUnit % 2 ^ 48
/-- T, Tc within the second. -/
def tlT (tl : Nat) : Nat := tl / tcUnit % secTc
/-- F, the fraction of a Tc. -/
def tlF (tl : Nat) : Nat := tl % tcUnit
/-- The Timeline at {S, T, F}. -/
def tlOf (S T F : Nat) : Nat := (S * secUnit + T * tcUnit + F) % tlWrap
/-- The Timeline moved by a signed number of units (R22, R44). -/
def tlAdd (tl : Nat) (d : Int) : Nat := (((tl : Int) + d) % (tlWrap : Int)).toNat
/-- The first tick boundary at or after a time (R24). -/
def tickCeil (tl : Nat) : Nat := ceilDiv tl tickUnit * tickUnit

/-- The 96-bit format of Table TLN-1. -/
def tlFormat (tl : Nat) : Nat := tlF tl + tlT tl * 2 ^ 16 + tlS tl * 2 ^ 48

/-- The Pacer tick number of a time (R96). -/
def ptOf (tl : Nat) : Nat := (tlS tl * 30720000 + tlT tl / 64) % 2 ^ 32

/-- The present tick number. -/
def State.pt (s : State) : Nat := ptOf s.tim.tl

/-- The frame-position word TL_SNAP_FPOS of a time at numerology µ (R25); zero before the GPS epoch. -/
def framePos (tl mu : Nat) : Nat :=
  if tlS tl < 315964819 then 0
  else
    let m := if 4 < mu then 4 else mu
    let sfn := ((tlS tl - 315964819) * 100 + tlT tl / 19660800) % 1024
    let sub := tlT tl % 19660800 / 1966080
    let slot := tlT tl % 19660800 / (1966080 / 2 ^ m)
    sfn + sub * 2 ^ 10 + slot * 2 ^ 14 + 2 ^ 31

/-! Timeline states (Table TLN-8). -/

/-- FREE. -/
def tlFree : Nat := 0
/-- ACQUIRING. -/
def tlAcquiring : Nat := 1
/-- LOCKED. -/
def tlLocked : Nat := 2
/-- HOLDOVER. -/
def tlHoldover : Nat := 3
/-- HOLDOVER_EXPIRED. -/
def tlExpired : Nat := 4

/-- The present Timeline state. -/
def State.tlState (s : State) : Nat := s.fld Reg.TL_STATE 2 0

/-! Modes (Table SCO-3). -/

/-- BACKUP. -/
def mBackup : Nat := 0
/-- BOOT. -/
def mBoot : Nat := 1
/-- BLANK. -/
def mBlank : Nat := 2
/-- CONFIGURE. -/
def mConfigure : Nat := 3
/-- COMMISSION. -/
def mCommission : Nat := 4
/-- ACQUIRE. -/
def mAcquire : Nat := 5
/-- SERVICE. -/
def mService : Nat := 6
/-- HOLDOVER. -/
def mHoldover : Nat := 7
/-- FREERUN. -/
def mFreerun : Nat := 8
/-- STABLE. -/
def mStable : Nat := 9
/-- SHADOW. -/
def mShadow : Nat := 10
/-- SAFE. -/
def mSafe : Nat := 11

/-- The device mode. -/
def State.mode (s : State) : Nat := s.fld Reg.PWR_MODE 3 0
/-- UNDER, the mode beneath SAFE (R448). -/
def State.under (s : State) : Nat := s.fld Reg.PWR_MODE 7 4
/-- RELEASED (R446). -/
def State.released (s : State) : Bool := s.flag Reg.PWR_MODE 8
/-- TX_PERMIT (R445). -/
def State.txPermit (s : State) : Bool := s.flag Reg.PWR_MODE 9

/-- D, the mode of the present Timeline state (Table MOD-2). -/
def State.modeD (s : State) : Nat :=
  if s.tlState = tlLocked then mService
  else if s.tlState = tlHoldover then mHoldover
  else if s.tlState = tlExpired then mFreerun
  else mAcquire

/-- Whether a mode permits transmission under the owner policy (R5). -/
def permits (m : Nat) (policy : Bool) : Bool := m == mService || m == mHoldover || (m == mFreerun && policy)

/-! Fault classes and the transmit gate. -/

/-- The unit of the Relay pair, RELAY_CFG.UNIT. -/
def State.unit1 (s : State) : Bool := s.flag Reg.RELAY_CFG 1

/-- Classes whose reaction is MUTE (Table OUT-1). -/
def classMutes (s : State) (c : Nat) : Bool := [8, 12, 16, 17].contains c || (c == 13 && s.unit1)
/-- Classes whose reaction is REPORT. -/
def classReports (c : Nat) : Bool := [19, 20, 21].contains c
/-- Classes whose reaction is SAFE. -/
def classSafes (s : State) (c : Nat) : Bool := 1 ≤ c && c ≤ 21 && !classMutes s c && !classReports c
/-- Classes that fence the partner. -/
def classFences (s : State) (c : Nat) : Bool := c == 1 || c == 2 || (c == 13 && !s.unit1)

/-- Some class of a set has its bit in a register. -/
def anyClass (s : State) (a : Nat) (p : Nat → Bool) : Bool := (List.range 22).any (fun c => s.flag a c && p c)

/-- G is open. -/
def State.gOpen (s : State) : Bool := s.flag Reg.OUT_STAT 0
/-- The safe state is held. -/
def State.safeHeld (s : State) : Bool := s.flag Reg.OUT_STAT 1
/-- RCO has been judged stable (R522). -/
def State.rcoOk (s : State) : Bool := s.flag Reg.OUT_STAT 3
/-- The asynchronous mute latch (R511). -/
def State.asyncLatch (s : State) : Bool := s.flag Reg.OUT_STAT 4

/-- Every condition of R509 for G to be open. -/
def State.gateHolds (s : State) : Bool :=
  s.txPermit && !s.safeHeld && !anyClass s Reg.OUT_CAUSE (classMutes s) && !s.asyncLatch
    && (s.flag Reg.OUT_WIN_CFG 0 || !s.flag Reg.OUT_CFG 0) && s.rcoOk

/-- The safe state is releasable (R508). -/
def State.canRelease (s : State) : Bool :=
  s.safeHeld && !anyClass s Reg.OUT_CAUSE (classSafes s) && !anyClass s Reg.OUT_LATCH (classSafes s) && !s.asyncLatch

/-- The present phase lies in a window of the pattern, widened by g ticks at each end (R512). -/
def inWindow (s : State) (phase g : Nat) : Bool :=
  let per := s.fld Reg.OUT_WIN_PERIOD 24 0
  (List.range 32).any (fun n =>
    let st := s.fld (Reg.OUT_WIN_S n) 24 0
    let ln := s.fld (Reg.OUT_WIN_L n) 24 0
    decide (ln ≠ 0) && decide (per ≠ 0) && (decide (per ≤ ln + 2 * g) || decide ((phase + per * (g + 1) + g - st % per) % per < ln + 2 * g)))

/-- The phase of the transmit pattern at a time (R512). -/
def winPhase (s : State) (tl : Nat) : Nat := tlT tl / 64 % s.fld Reg.OUT_WIN_PERIOD 24 0

/-- TX_MUTE_n is driven high (R509). -/
def State.txMute (s : State) (n : Nat) : Bool :=
  !s.gOpen || s.flag Reg.OUT_MUTE_SW n || (s.flag Reg.OUT_WIN_CFG 1 && !inWindow s (winPhase s s.tim.tl) 0)

/-- FAULT_N (R507, R511, Table OUT-5): high unless the safe state or the asynchronous latch holds, or RCO is not stable. -/
def State.faultN (s : State) : Bool := !s.safeHeld && !s.asyncLatch && s.rcoOk

/-- The pads of timed outputs that follow G show their idle level once G is closed (R510). -/
def gatePads (s : State) : List (Nat × TimedOut) :=
  s.tim.outs.map (fun e => if e.1 < 8 ∧ s.flag Reg.OUT_TO_GATE e.1 then (e.1, { e.2 with pad := s.flag (Reg.TO_CTL e.1) 2 }) else e)

/-- The derived bits of OUT_STAT brought up to date: releasable, WIN_OFF, fencing and the TX_MUTE levels. -/
def State.outStat (s : State) : State :=
  let s := s.setFlag Reg.OUT_STAT 5 (s.flag Reg.OUT_CFG 0 && !s.flag Reg.OUT_WIN_CFG 0)
  let s := s.setFlag Reg.OUT_STAT 6 (s.safeHeld && anyClass s Reg.OUT_LATCH (classFences s))
  let was := s.flag Reg.OUT_STAT 2
  let s := s.setFlag Reg.OUT_STAT 2 s.canRelease
  let s := s.raiseIf (s.canRelease && !was) blkOut 11
  s.setFld Reg.OUT_STAT 15 8 (((List.range 8).map (fun n => bit (s.txMute n) * 2 ^ n)).sum)

/-- G closes when a condition of R509 fails; the pads that follow it go idle (R509, R510). -/
def State.gateSettle (s : State) : State :=
  if s.gOpen && !s.gateHolds then
    let s := s.setFlag Reg.OUT_STAT 0 false
    let s := { s with tim := { s.tim with outs := gatePads s } }
    (s.raise blkOut 1).outStat
  else s.outStat

/-- A class latched and counted, with the first class (R506). -/
def State.latchClass (s : State) (c : Nat) : State :=
  let s := s.setFlag Reg.OUT_LATCH c true
  let s := s.count (Reg.OUT_CLASS_CNT c)
  if s.fld Reg.OUT_FIRST 4 0 = 0 ∨ s.out.left then
    { ((s.setRegN Reg.OUT_FIRST c).setRegN Reg.OUT_FIRST_PT s.pt) with out := { s.out with left := false } }
  else s

/-- The reaction of a class (R507, Table OUT-1). -/
def State.react (s : State) (c : Nat) : State :=
  let s :=
    if classReports c then s.raise blkOut 10
    else if classMutes s c then s
    else (s.raiseIf (!s.safeHeld) blkOut 0).setFlag Reg.OUT_STAT 1 true
  s.gateSettle

/-- A class is detected (R506, R507): condition, latch and count; the first class; then its reaction. Until RCO is judged stable
the Outrider's clocked logic is in reset (R522). -/
def State.detect (s : State) (c : Nat) : State :=
  if s.rcoOk then ((s.setFlag Reg.OUT_CAUSE c true).latchClass c).react c else s

/-- The condition of a class no longer stands; the class stays latched (R506). -/
def State.unstand (s : State) (c : Nat) : State :=
  (s.setFlag Reg.OUT_CAUSE c false).gateSettle

/-- A class whose condition is an occurrence: it is detected and stands no longer (R506). -/
def State.detectNow (s : State) (c : Nat) : State := (s.detect c).unstand c

/-! The Legacy Pulse Port follows the mode and the Timeline (R90). -/

/-- The LPP's outputs cut: inactive at once, with LPP_STOP where it ran (R90). -/
def State.lppCut (s : State) : State :=
  if s.lpp.running then
    State.raise { s with lpp := { s.lpp with running := false, pps := false, frm := false } } blkTim 28
  else s

/-! The mode machine. -/

/-- TX_PERMIT brought up to date with the mode and the owner policy; the gate follows in the same cycle (R445, R450). -/
def State.permitSettle (s : State) : State :=
  (s.setFlag Reg.PWR_MODE 9 (permits s.mode (s.flag Reg.PWR_POLICY 0))).gateSettle

/-- A wake event (R458, R461): PWR_WAKE_PT, its cause, the phase WAKING; the domains that sleep or are off for STABLE begin to
switch. Later events have no effect until the next entry. -/
def State.wakeStart (s : State) (cause : Nat) : State :=
  if s.fld Reg.PWR_STBL_STAT 2 0 = 4 then s
  else
    let s := ((s.setRegN Reg.PWR_STBL_STAT (4 + cause * 16)).setRegN Reg.PWR_WAKE_PT s.pt).raise blkPwr 2
    let s := if s.fld Reg.CA_STAT 7 4 = 0 then s.setFlag Reg.CA_STAT 8 false else s
    (List.range 29).foldl (fun s d =>
      let v := s.fld (Reg.PWR_PD_STAT d) 2 0
      if v = 2 ∨ v = 3 ∨ (16 ≤ d ∧ d < 20 ∧ v = 0 ∧ !s.flag (Reg.PWR_PD_CTL d) 0) then s.setFld (Reg.PWR_PD_STAT d) 2 0 4 else s) s

/-- A transition of the mode machine to mode m (R445, R446, R448, R461). UNDER is never STABLE: SAFE entered from STABLE leaves D
beneath it. -/
def State.enterMode (s : State) (m : Nat) : State :=
  if s.mode = m then s
  else
    let old := s.mode
    let s := if old = mStable ∧ (m = mSafe ∨ m = mShadow) then s.wakeStart (if m = mSafe then 5 else 6) else s
    let s := s.setFld Reg.PWR_MODE 7 4 (if m = mSafe then (if old = mStable then s.modeD else old) else m)
    let s := s.setFld Reg.PWR_MODE 3 0 m
    let s := if m = mBoot ∨ m = mBlank ∨ m = mConfigure then s.setFlag Reg.PWR_MODE 8 false else s
    let s := s.raise blkPwr 0
    let s := s.raiseIf (m == mSafe) blkPwr 5
    let s := if m = mSafe ∨ m = mShadow then s.lppCut else s
    let s := if old = mSafe then (s.raise blkPwr 6).setRegN Reg.OUT_FIRST 0 else s
    s.permitSettle

/-- A row of Table MOD-1 applied to the mode, or to UNDER while the mode is SAFE (R448). -/
def State.moveMode (s : State) (m : Nat) : State :=
  if s.mode = mSafe then
    if m = mStable ∨ m = mSafe then s
    else
      let s := s.setFld Reg.PWR_MODE 7 4 m
      if m = mBlank ∨ m = mConfigure then s.setFlag Reg.PWR_MODE 8 false else s
  else s.enterMode m

/-- The last row of Table MOD-1: the mode follows D. -/
def State.followD (s : State) : State :=
  let u := s.under
  if (u = mAcquire ∨ u = mService ∨ u = mHoldover ∨ u = mFreerun) ∧ u ≠ s.modeD then s.moveMode s.modeD else s

/-- The estimator on entry to HOLDOVER (R67): U takes HO_REF_UNC, and the three residual rates come from the fit, which the
spec leaves to the estimator (log entry 11). -/
def State.hoEnter (s : State) : State :=
  let u := s.regN Reg.HO_REF_UNC
  let s := ((s.setRegN Reg.HO_UNC u).setRegN Reg.HO_ELAPSED 0).raise blkTim 16
  let a := s.free
  let s := s.took
  let b := s.free
  let s := s.took
  let c := s.free
  let s := s.took
  { s with ho := { s.ho with unc := u * 2 ^ 40, dy := a, dD := b, dth := c, t := 0, grow := true, apart := 0 } }

/-- U at its saturation value (R67, both oscillators lost). -/
def State.hoSaturate (s : State) : State :=
  let s := s.setRegN Reg.HO_UNC 0xFFFFFFFF
  { s with ho := { s.ho with unc := 0xFFFFFFFF * 2 ^ 40, grow := false } }

/-- A transition of the Timeline state (R47): STATE_CHG, the estimator, the LPP and the mode follow. -/
def State.setTl (s : State) (c : Nat) : State :=
  if s.tlState = c then s
  else
    let s := (s.setFld Reg.TL_STATE 2 0 c).raise blkTim 0
    let s := { s with tim := { s.tim with lockRun := 0, sSure := if c = tlAcquiring then false else s.tim.sSure } }
    let s := if c = tlHoldover then s.hoEnter
      else if c = tlExpired then s.lppCut
      else if c = tlLocked then { s with ho := { s.ho with grow := false, zeroWt := none }, lpp := { s.lpp with hoStopped := false } }
      else State.lppCut { s with ho := { s.ho with grow := false } }
    s.followD

/-- Transmit is muted in the sense of R43: the mode does not permit transmission, or every TX_MUTE pin is high. -/
def State.muted (s : State) : Bool :=
  !permits s.mode (s.flag Reg.PWR_POLICY 0) || (List.range 8).all s.txMute

end Sys2Proof.Machine
end

