-- ==== Sys2Proof/Machine/Calendar.lean ====
section
/-! DEFINITION. The calendar, its store and the tamper log (R72…R80). -/

namespace Sys2Proof.Machine

/-- The state with the calendar's own part replaced. -/
def State.setCal (s : State) (c : Calendar) : State := { s with cal := c }

/-- An entry written to the tamper-log ring (R77). -/
def State.tamper (s : State) (source detail : Nat) : State :=
  let n := s.fld Reg.TLOG_STAT 5 0
  let full := 64 ≤ s.cal.fill
  let s := s.setRegN (Reg.BBK_STORE (128 + 2 * n)) s.cal.s
  let s := s.setRegN (Reg.BBK_STORE (129 + 2 * n)) (source % 256 + detail % 256 * 2 ^ 8 + s.cal.seq * 2 ^ 16)
  let s := if full then s.addFld Reg.TLOG_STAT 31 16 1 else s
  let s := s.setFld Reg.TLOG_STAT 5 0 (n + 1)
  let s := s.setCal { s.cal with seq := (s.cal.seq + 1) % 2 ^ 16, fill := if full then 64 else s.cal.fill + 1 }
  s.raise blkTim 27

/-- The battery-backed store zeroed. -/
def storeZero (s : State) : State := (List.range 384).foldl (fun s i => s.setRegN (Reg.BBK_STORE i) 0) s

/-- The calendar's contents lost (R74): store zeroed, VALID clear, S zero, BOR for a lost backup domain, and the entry with
source 0x02 or 0x01 as the first. -/
def State.calLost (s : State) (cause : Nat) : State :=
  let s := (storeZero s).setFlag Reg.CAL_STAT 0 false
  let s := (s.setRegN Reg.TLOG_STAT 0).setRegN Reg.CAL_UTC_OFS 0
  let s := s.setCal { s.cal with s := 0, cyc := 0, acc := 0, since := 0, trimS := 0, seq := 0, fill := 0, leaps := [], lost := 0 }
  (s.setFlag Reg.CAL_STAT 3 (cause == 2)).tamper (if cause = 2 then 2 else 1) 0

/-- What a power-up makes of the calendar (R74): a recorded loss takes effect; BOR tells of no older one. -/
def State.calPowerUp (s : State) : State :=
  if s.cal.lost = 0 then s.setFlag Reg.CAL_STAT 3 false else s.calLost s.cal.lost

/-- The present UTC offset, TAI − UTC, signed (R76). -/
def State.utcOfs (s : State) : Int := signed 16 (s.regN Reg.CAL_UTC_OFS)

/-! The leap table: 16 entries at store offset 0x500 (Table HOC-2). -/

/-- Effective S of leap slot i. -/
def leapS (s : State) (i : Nat) : Nat :=
  s.regN (Reg.BBK_STORE (320 + 2 * i)) + s.fld (Reg.BBK_STORE (321 + 2 * i)) 15 0 * 2 ^ 32
/-- Offset of leap slot i. -/
def leapOfs (s : State) (i : Nat) : Nat := s.fld (Reg.BBK_STORE (321 + 2 * i)) 31 16

/-- The slot a new entry takes (R76): one with the same effective S, a free one, else the oldest. -/
def leapSlot (s : State) (eff : Nat) : Nat :=
  match s.cal.leaps.find? (fun i => leapS s i == eff) with
  | some i => i
  | none => ((List.range 16).find? (fun i => !s.cal.leaps.contains i)).getD (s.cal.leaps.headD 0)

/-- An entry added to the leap table (R76); LEAP_PENDING when its second lies in the future. -/
def State.leapAdd (s : State) (eff ofs : Nat) : State :=
  let i := leapSlot s eff
  let s := s.setRegN (Reg.BBK_STORE (320 + 2 * i)) eff
  let s := s.setRegN (Reg.BBK_STORE (321 + 2 * i)) (eff / 2 ^ 32 % 2 ^ 16 + ofs % 2 ^ 16 * 2 ^ 16)
  let s := s.setCal { s.cal with leaps := s.cal.leaps.filter (· != i) ++ [i] }
  s.raiseIf (decide (tlS s.tim.tl < eff)) blkTim 25

/-! Dates, for the first second of the next UTC month (R76). -/

/-- The days of the months of a year. -/
def monthDays (y : Nat) : List Nat :=
  [31, if y % 4 = 0 ∧ (y % 100 ≠ 0 ∨ y % 400 = 0) then 29 else 28, 31, 30, 31, 30, 31, 31, 30, 31, 30, 31]

/-- The first day after a month that starts on or before day d and ends after it, months taken in order from day `at`. -/
def monthEnd (d : Nat) : List Nat → Nat → Nat
  | [], day => day
  | m :: r, day => if d < day + m then day + m else monthEnd d r (day + m)

/-- The first day of the next month after day d (days since 1970-01-01), years from y, which starts on day `day`. -/
def nextMonth (d : Nat) : Nat → Nat → Nat → Nat
  | 0, _, day => day
  | n + 1, y, day =>
    let len := (monthDays y).sum
    if d < day + len then monthEnd d (monthDays y) day else nextMonth d n (y + 1) (day + len)

/-- The TAI second of the first second of the UTC month after the one that TAI second `sec` lies in, at a new offset. -/
def leapEffective (sec : Nat) (ofs new : Int) : Nat :=
  let utc := ((sec : Int) - ofs).toNat
  ((nextMonth (utc / 86400) 10000 1970 0 * 86400 : Nat) + new : Int).toNat

/-- The first reference seconds compared with a valid calendar (R78). -/
def State.calCompare (s : State) (sec : Nat) : State :=
  if s.cal.compared then s
  else
    let far := s.flag Reg.CAL_STAT 0
      && decide (2 * (s.fld Reg.CAL_STAT 31 16 + 1) < ((sec : Int) - s.cal.s).natAbs)
    (s.setCal { s.cal with compared := true }).raiseIf far blkTim 26

/-! The commands. -/

/-- CAL_SECOND (R73): one calendar second; CAL_TRIM adds or drops crystal cycles, its remainder carried; DAYS follows. -/
def execCalSecond (s : State) : Out :=
  if !s.flag Reg.CAL_STAT 1 then .next s
  else
    let acc := s.cal.acc + signed 16 (s.regN Reg.CAL_TRIM)
    let since := s.cal.since + 1
    let s := s.setCal { s.cal with
      s := (s.cal.s + 1) % 2 ^ 48, cyc := unsigned 15 (acc / 1024), acc := acc % 1024, since := since }
    .next (s.setFld Reg.CAL_STAT 31 16 (satNat 16 (since / 86400)))

/-- CAL_AUTO_TRIM (R73): every 1,024 s of LOCKED with AUTO_TRIM, CAL_TRIM takes the trim measured, S the Timeline's, and
VALID is set. -/
def execCalAutoTrim (trim : BitVec 16) (s : State) : Out :=
  if s.flag Reg.CAL_CTL 0 ∧ s.tlState = tlLocked then
    let s := (s.setRegN Reg.CAL_TRIM trim.toNat).setFlag Reg.CAL_STAT 0 true
    let s := s.setFld Reg.CAL_STAT 31 16 0
    .next (s.setCal { s.cal with s := tlS s.tim.tl, cyc := 0, acc := 0, since := 0, trimS := tlS s.tim.tl })
  else .next s

/-- VBAT_BROWNOUT (R74): with main power absent the loss is recorded for the next power-up. -/
def execVbatBrownout (s : State) : Out :=
  if s.mode = mBackup then .next (s.setCal { s.cal with lost := 2 }) else .next s

/-- XT_STOP (R74): the crystal has stopped for more than 2 s. -/
def execXtStop (s : State) : Out :=
  let s := (s.setFlag Reg.CAL_STAT 1 false).raise blkTim 23
  .next (s.setCal { s.cal with lost := if s.cal.lost = 0 then 1 else s.cal.lost })

/-- XT_RESTART (R74). -/
def execXtRestart (s : State) : Out := .next (s.setFlag Reg.CAL_STAT 1 true)

/-- VBAT_CHECK (R74). -/
def execVbatCheck (low : Bool) (s : State) : Out :=
  if s.mode = mBackup then .next s else .next ((s.setFlag Reg.CAL_STAT 2 low).raiseIf low blkTim 24)

/-- BACKUP_DOMAIN_POWERED (R74): the first powering of the backup domain counts as its loss. -/
def execBackupDomainPowered (s : State) : Out := .next (s.calLost 2)

/-- The modes in which software may set the calendar (R75). -/
def calModes (m : Nat) : Bool := m == mBlank || m == mCommission || m == mAcquire

/-- CAL_SET (R75): the write of CAL_SET_HI. -/
def execCalSet (value : BitVec 32) (s : State) : Out :=
  if calModes s.mode then
    let s := s.setRegN Reg.CAL_SET_HI (value.toNat % 2 ^ 16)
    let s := s.setCal { s.cal with s := s.regN Reg.CAL_SET_LO + value.toNat % 2 ^ 16 * 2 ^ 32, cyc := 0, acc := 0 }
    .next ((s.setFlag Reg.CAL_STAT 0 true).tamper 3 0)
  else .next (s.raise blkTim 31)

/-- CAL_S_READ (R75): the read of CAL_S_LO latches CAL_S_HI. -/
def execCalSRead (init : Fin 512) (s : State) : Out :=
  .next ((s.setRegN Reg.CAL_S_HI (s.cal.s / 2 ^ 32)).answer init 0 [s.cal.s % 2 ^ 32])

/-- CAL_LEAP_ADD (R76): the write of CAL_LEAP_HI. -/
def execCalLeapAdd (value : BitVec 32) (s : State) : Out :=
  .next (s.leapAdd (s.regN Reg.CAL_LEAP_LO + value.toNat % 2 ^ 16 * 2 ^ 32) (value.toNat / 2 ^ 16))

/-- LEAP_APPLY (R76): the entry's second has been reached by the Timeline. -/
def execLeapApply (slot : Fin 16) (s : State) : Out :=
  if s.cal.leaps.contains slot.val ∧ leapS s slot ≤ tlS s.tim.tl then .next (s.setRegN Reg.CAL_UTC_OFS (leapOfs s slot))
  else .next s

/-! The Legacy Pulse Port (R84…R95). -/

/-- The state with the LPP replaced. -/
def State.setLpp (s : State) (l : Lpp) : State := { s with lpp := l }

/-- LPP_CTL_L.EN as committed. -/
def Lpp.en (l : Lpp) : Bool := l.ctl.getLsbD 0

/-- The Timeline and the mode let the LPP run (R90). -/
def lppAllowed (s : State) : Bool :=
  (s.tlState == tlLocked || s.tlState == tlHoldover) && s.mode != mSafe && s.mode != mShadow

/-- Every condition of R90. -/
def lppMay (s : State) : Bool := s.lpp.en && lppAllowed s && !s.lpp.hoStopped

/-- LPP_CTL_L_WRITE (R86, R93): commits both halves; while running a commit waits for the second boundary, but EN = 0 acts
at once. -/
def execLppCtlLWrite (value : BitVec 16) (s : State) : Out :=
  let l := s.lpp
  let word := l.high ++ value
  let s := s.raiseIf (!l.fresh) blkTim 30
  if !value.getLsbD 0 then
    .next (s.setLpp { l with ctl := word, fresh := false, pend := none, running := false, pps := false, frm := false })
  else if l.running then .next (s.setLpp { l with fresh := false, pend := some word })
  else .next (s.setLpp { l with ctl := word, fresh := false, pend := none })

/-- LPP_CTL_H_WRITE (R86): stages the high half. -/
def execLppCtlHWrite (value : BitVec 16) (s : State) : Out :=
  .next (s.setLpp { s.lpp with high := value, fresh := true })

/-- LPP_KEEP_WRITE (R92). -/
def execLppKeepWrite (value : BitVec 16) (s : State) : Out :=
  if s.lpp.en || s.lpp.running then .next (s.raise blkTim 29)
  else .next (s.setLpp { s.lpp with keep := value.getLsbD 0 })

/-- LPP_COMMIT_APPLY (R93): the second boundary takes a waiting commit. -/
def execLppCommitApply (s : State) : Out :=
  match s.lpp.pend with
  | some w => .next (s.setLpp { s.lpp with ctl := w, pend := none })
  | none => .next s

/-- LPP_START (R90). -/
def execLppStart (s : State) : Out :=
  if lppMay s ∧ !s.lpp.running then .next (s.setLpp { s.lpp with running := true }) else .next s

/-- LPP_PPS_PULSE (R88): the pulse's leading or trailing edge. -/
def execLppPpsPulse (active : Bool) (s : State) : Out :=
  if s.lpp.running then .next (s.setLpp { s.lpp with pps := active }) else .next s

/-- LPP_FRAME_STROBE (R88, R89): the strobe's edges; LPP_FCNT takes SFN + 1 at the leading one. -/
def execLppFrameStrobe (active : Bool) (s : State) : Out :=
  let l := s.lpp
  if !l.running then .next s
  else if !active then .next (s.setLpp { l with frm := false })
  else
    let p := framePos s.tim.tl 0
    if !p.testBit 31 then .next (s.setLpp { l with fcnt := 0 })
    else if l.ctl.getLsbD 2 then .next (s.setLpp { l with frm := true, fcnt := p % 1024 + 1 })
    else .next s

/-- LPP_HOLDOVER_STOP (R91): KEEP clear and 600 s of HOLDOVER. -/
def execLppHoldoverStop (s : State) : Out :=
  if !s.lpp.keep ∧ s.tlState = tlHoldover ∧ 600 ≤ s.regN Reg.HO_ELAPSED ∧ !s.lpp.hoStopped then
    let s := s.raiseIf s.lpp.running blkTim 28
    .next (s.setLpp { s.lpp with running := false, pps := false, frm := false, hoStopped := true })
  else .next s

end Sys2Proof.Machine
end

