-- ==== Sys2Proof/Machine/Holdover.lean ====
section
/-! DEFINITION. The ensemble estimator and holdover (R62…R71). The arithmetic of the fit is the estimator's own: its results
are free values (log entry 11). -/

namespace Sys2Proof.Machine

/-- The state with the estimator's own part replaced. -/
def State.setHo (s : State) (h : Holdover) : State := { s with ho := h }

/-- Oscillator k is good (TL_OSC_STAT). -/
def oscGood (s : State) (k : Nat) : Bool := s.flag Reg.TL_OSC_STAT k

/-- The reading of the board sensor is valid (R64). -/
def tempValid (s : State) : Bool := s.flag Reg.HO_TEMP 16

/-- The board temperature, signed, 1/256 °C. -/
def boardTemp (s : State) : Int := signed 16 (s.fld Reg.HO_TEMP 15 0)

/-- The temperature range seen during learning takes in the present reading, in the models of good oscillators (R67). -/
def rangeTake (s : State) : State :=
  if tempValid s then
    let t := boardTemp s
    let step := fun (s : State) k =>
      if oscGood s k then
        let a := Reg.HO_MODEL k 11
        let lo := if s.ho.ranged then signed 16 (s.fld a 15 0) else t
        let hi := if s.ho.ranged then signed 16 (s.fld a 31 16) else t
        s.setRegN a (unsigned 16 (if t < lo then t else lo) + unsigned 16 (if hi < t then t else hi) * 2 ^ 16)
      else s
    let s := step (step s 0) 1
    s.setHo { s.ho with ranged := true }
  else s

/-- TRAINED once 72 h have been learned, 6 h of them since power-up (R69, R71). -/
def trainedCheck (s : State) : State :=
  if !s.flag Reg.HO_STAT 0 ∧ 72 ≤ s.fld Reg.HO_STAT 31 16 ∧ 21600 ≤ s.ho.upSecs then
    (s.setFlag Reg.HO_STAT 0 true).raise blkTim 18
  else s

/-- The estimator learns (R62). -/
def learning (s : State) : Bool := s.tlState == tlLocked && s.flag Reg.HO_CTL 0

/-- HO_LEARN_SECOND (R62, R63): one second of learning; LEARN_H counts hours and the temperature range grows. -/
def execHoLearnSecond (s : State) : Out :=
  if learning s then
    let n := s.ho.secs + 1
    let s := s.setHo { s.ho with secs := n % 3600, upSecs := s.ho.upSecs + 1 }
    let s := if n = 3600 then s.addFld Reg.HO_STAT 31 16 1 else s
    .next (trainedCheck (rangeTake s))
  else .next s

/-- A model register takes a free value (log entry 11). -/
def freeReg (s : State) (a : Nat) : State := (s.setRegN a s.free).took

/-- The refit of one model (R63, R64): frequency and ageing, with a valid reading the temperature terms, and the residual. -/
def refitOne (s : State) (k : Nat) : State :=
  if oscGood s k then
    let s := [1, 2, 3, 4].foldl (fun s j => freeReg s (Reg.HO_MODEL k j)) s
    let s := if tempValid s then [5, 6, 7, 8].foldl (fun s j => freeReg s (Reg.HO_MODEL k j)) s else s
    freeReg (s.setReg (Reg.HO_MODEL k 0) (s.reg (if k = 0 then Reg.TL_OSC_A_HZ else Reg.TL_OSC_B_HZ))) (Reg.HO_MODEL k 10)
  else s

/-- HO_REFIT (R63): every 64 s of learning; HO_PREDICT follows the fit. -/
def execHoRefit (s : State) : Out :=
  if learning s then .next (freeReg (refitOne (refitOne s 0) 1) Reg.HO_PREDICT) else .next s

/-- The refit of τ over its candidates, 60 s to 3,600 s in steps of 60 s (R63). -/
def refitTau (s : State) (k : Nat) : State :=
  if oscGood s k && learning s && tempValid s then (s.setRegN (Reg.HO_MODEL k 9) (60 * (1 + s.free % 60))).took else s

/-- Word i of the snapshot area of the battery-backed store (Table HOC-2). -/
def snapWord (i : Nat) : Nat := Reg.BBK_STORE (256 + i)

/-- The bytes of the snapshot its CRC covers. -/
def snapBytes (s : State) : List Byte := (List.range 63).flatMap (fun i => leBytes 4 (s.regN (snapWord i)))

/-- The snapshot of Table HOC-3 written to the battery-backed store (R70); θref is the fit's (log entry 11). -/
def snapWrite (s : State) : State :=
  let s := (s.setHo { s.ho with thetaRef := BitVec.ofNat 32 s.free }).took
  let w := fun (s : State) i v => s.setRegN (snapWord i) v
  let s := (List.range 64).foldl (fun s i => w s i 0) s
  let s := w (w s 0 0x00014853) 1 (s.fld Reg.HO_STAT 31 16)
  let s := w (w s 2 (tlS s.tim.tl)) 3 (tlS s.tim.tl / 2 ^ 32)
  let s := w s 4 s.ho.thetaRef.toNat
  let s := (List.range 12).foldl (fun s j => w (w s (8 + j) (s.regN (Reg.HO_MODEL 0 j))) (32 + j) (s.regN (Reg.HO_MODEL 1 j))) s
  let s := w s 63 (crc32 (snapBytes s))
  (s.setFlag Reg.HO_STAT 1 true).raise blkTim 19

/-- HO_SNAPSHOT (R63, R70): every 3,600 s of LOCKED time. -/
def execHoSnapshot (s : State) : Out :=
  if s.tlState = tlLocked then .next (snapWrite (refitTau (refitTau s 0) 1)) else .next s

/-- SNAP (R70): HO_CMD.SNAP. -/
def execSnap (s : State) : Out := if s.tlState = tlLocked then .next (snapWrite s) else .next s

/-- Every word of model k zero. -/
def modelClear (s : State) (k : Nat) : State := (List.range 16).foldl (fun s j => s.setRegN (Reg.HO_MODEL k j) 0) s

/-- FORGET (Table HOC-4): both models and what they rest on are cleared; ignored in HOLDOVER. -/
def execForget (s : State) : Out :=
  if s.tlState = tlHoldover then .next s
  else
    let s := modelClear (modelClear s 0) 1
    let s := ((s.setFlag Reg.HO_STAT 0 false).setFld Reg.HO_STAT 3 2 0).setFld Reg.HO_STAT 31 16 0
    .next (s.setHo { s.ho with secs := 0, upSecs := 0, ranged := false })

/-- TSENS_READ (R64): a reading, or a failed read; three failures in a row set TSENS_FAIL and clear VALID. -/
def execTsensRead (reading : Option (BitVec 16)) (s : State) : Out :=
  if !s.flag Reg.HO_TSENS_CFG 16 then .next s
  else
    match reading with
    | some t => .next ((s.setRegN Reg.HO_TEMP (t.toNat + 2 ^ 16)).setHo { s.ho with fails := 0 })
    | none =>
      if s.ho.fails = 2 then .next (((s.setFlag Reg.HO_TEMP 16 false).raise blkTim 21).setHo { s.ho with fails := 0 })
      else .next (s.setHo { s.ho with fails := s.ho.fails + 1 })

/-- The class bound of Table HOC-1 for the active oscillator, in 2^-48 Tc per second: class A 1×10^-9, class B and an
undeclared class 5×10^-9. -/
def classBound (s : State) : Nat :=
  let cls := if s.flag Reg.TL_OSC_STAT 2 then s.fld Reg.HO_CTL 7 6 else s.fld Reg.HO_CTL 5 4
  (if cls = 1 then 1 else 5) * secTc * 2 ^ 48 / 10 ^ 9

/-- The temperature lies in the range of learning widened by 2 K, with a valid reading (R64, R67). -/
def inRange (s : State) : Bool :=
  let a := Reg.HO_MODEL (bit (s.flag Reg.TL_OSC_STAT 2)) 11
  let t := boardTemp s
  tempValid s && decide (signed 16 (s.fld a 15 0) - 512 ≤ t) && decide (t ≤ signed 16 (s.fld a 31 16) + 512)

/-- U, with HO_UNC the whole units of 2^-8 Tc, saturating. -/
def setUnc (s : State) (u : Nat) : State := (s.setHo { s.ho with unc := u }).setRegN Reg.HO_UNC (satNat 32 (u / 2 ^ 40))

/-- One second of growth of U (R67): the increment of |δy|t + ½|δD|t² + δθt. -/
def uncGrow (s : State) : State :=
  if s.ho.grow then
    let t := s.ho.t + 1
    setUnc (s.setHo { s.ho with t := t }) (s.ho.unc + s.ho.dy + s.ho.dD * (2 * t - 1) / 2 + (if inRange s then s.ho.dth else classBound s))
  else s

/-- The frequency estimate moved to a new value the loop or the estimator decides (log entry 11), by no more than b. -/
def freqMove (s : State) (b : Int) : State :=
  let old := signed 32 (s.regN Reg.TL_FREQ_EST)
  let new := clamp (-219902325) 219902325 (clamp (old - b) (old + b) (signed 32 s.free))
  (s.setRegN Reg.TL_FREQ_EST (unsigned 32 new)).took

/-- One second of disagreement of the two predictions (R65): the sixteenth in a row sets ENS_DISAGREE, zeroes the weight of
the worse model and adds the difference, which the fit decides, to U. -/
def ensemble (s : State) (apart worse : Bool) : State :=
  if s.flag Reg.HO_CTL 1 && oscGood s 0 && oscGood s 1 && apart then
    if s.ho.apart = 15 then
      let s := (setUnc s (s.ho.unc + s.free)).took
      (s.setHo { s.ho with apart := 16, zeroWt := some worse }).raise blkTim 22
    else if s.ho.apart < 15 then s.setHo { s.ho with apart := s.ho.apart + 1 }
    else s
  else s.setHo { s.ho with apart := 0 }

/-- HO_STEER_SECOND (R65…R67): one second of HOLDOVER, or of HOLDOVER_EXPIRED while U still grows. -/
def execHoSteerSecond (apart worse : Bool) (s : State) : Out :=
  if s.tlState = tlHoldover then
    let s := uncGrow s
    .next (freqMove (ensemble (s.setRegN Reg.HO_ELAPSED (satNat 32 (s.regN Reg.HO_ELAPSED + 1))) apart worse) 1099)
  else if s.tlState = tlExpired then .next (uncGrow s)
  else .next s

/-- HOLDOVER_EXPIRY (R68): U above HO_LIMIT. -/
def execHoldoverExpiry (s : State) : Out :=
  if s.tlState = tlHoldover ∧ s.regN Reg.HO_LIMIT < s.regN Reg.HO_UNC then .next ((s.raise blkTim 17).setTl tlExpired)
  else .next s

/-- The snapshot's MAGIC, VER and CRC are valid (R71). -/
def snapGood (s : State) : Bool := s.regN (snapWord 0) == 0x00014853 && s.regN (snapWord 63) == crc32 (snapBytes s)

/-- Model k restored from the snapshot, or discarded (R71). -/
def restoreOne (s : State) (k : Nat) : State :=
  let nom := s.regN (if k = 0 then Reg.TL_OSC_A_HZ else Reg.TL_OSC_B_HZ)
  let base := 8 + 24 * k
  if snapGood s && s.regN (snapWord base) == nom then
    let s := (List.range 12).foldl (fun s j => s.setRegN (Reg.HO_MODEL k j) (s.regN (snapWord (base + j)))) s
    let s := (s.setFlag Reg.HO_STAT (2 + k) true).setFld Reg.HO_STAT 31 16 (satNat 16 (s.regN (snapWord 1)))
    s.setHo { s.ho with ranged := true, thetaRef := s.reg (snapWord 4) }
  else (modelClear s k).raise blkTim 20

/-- The end of BOOT (R71): both models restored where HO_CTL.RESTORE is 1; SNAP_VALID tells of a valid snapshot. -/
def State.hoRestore (s : State) : State :=
  let s := s.setFlag Reg.HO_STAT 1 (snapGood s)
  if s.flag Reg.HO_CTL 2 then restoreOne (restoreOne s 0) 1 else s

end Sys2Proof.Machine
end

