-- ==== Sys2Proof/Machine/RelayBase.lean ====
section
/-! DEFINITION. What other blocks ask of the Relay: its role, its journal (R399…R401), mirror ranges (R403…R405). -/

namespace Sys2Proof.Machine

/-- The state with the Relay's own part replaced. -/
def State.setRly (s : State) (r : Relay) : State := { s with rly := r }
/-- PRIMARY. -/
def rPrimary : Nat := 1
/-- SECONDARY. -/
def rSecondary : Nat := 2
/-- RELAY_STAT.ROLE. -/
def State.role (s : State) : Nat := s.fld Reg.RELAY_STAT 1 0
/-- The role is SECONDARY: the rules of SHADOW hold (R395, R404). -/
def State.shadowing (s : State) : Bool := s.role == rSecondary
/-- RELAY_STAT.SYNC: 0 UNSYNCED, 1 JOINING, 2 SYNCED. -/
def State.sync (s : State) : Nat := s.fld Reg.RELAY_STAT 3 2
/-- SYNC changed. -/
def State.setSync (s : State) (v : Nat) : State := if s.sync = v then s else (s.setFld Reg.RELAY_STAT 3 2 v).raise blkRly 1
/-- The role changed. -/
def State.setRole (s : State) (r : Nat) : State := if s.role = r then s else (s.setFld Reg.RELAY_STAT 1 0 r).raise blkRly 0

/-! Frames (R397, R398). -/

/-- Frames put in the queue of the Tether link. -/
def relSend (s : State) (l : List (Nat × List Byte)) : State :=
  { s with lane := { s.lane with teth := { s.lane.teth with outbox := s.lane.teth.outbox ++ l } } }
/-- The body of Table RLY-3. -/
def relBody (jseq pt seg : Nat) (data : List Byte) : List Byte :=
  leBytes 4 jseq ++ leBytes 4 pt ++ [BitVec.ofNat 8 seg, 0, 0, 0] ++ padTo 80 data
/-- A frame that is no journal entry. -/
def relMsg (s : State) (kind : Nat) (data : List Byte) : State := relSend s [(kind, relBody 0 s.pt 0 data)]
/-- The frames an entry takes (R398). -/
def jSegs (e : JEntry) : Nat := Nat.max 1 (ceilDiv e.data.length 80)
/-- Those frames. -/
def jFrames (e : JEntry) : List (Nat × List Byte) :=
  (List.range (jSegs e)).map (fun i => (e.kind, relBody e.jseq e.pt (i + 16 * (jSegs e - 1)) (slice e.data (80 * i) 80)))

/-! The journal (R399…R401). -/

/-- Entries are made: a primary with a JOINING or SYNCED partner. -/
def jOn (s : State) : Bool := s.role == rPrimary && s.sync != 0
/-- Bytes of the journal buffer in use, a frame's body counted whole. -/
def jUsed (s : State) : Nat := 92 * (s.rly.buf.map jSegs).sum
/-- n more frames fit the 256 KiB of the buffer. -/
def jFits (s : State) (n : Nat) : Bool := decide (jUsed s + 92 * n ≤ 262144)
/-- A stall begins (R399, R401). -/
def jStall (s : State) : State :=
  if s.rly.stall then s else ((s.setRly { s.rly with stall := true }).count Reg.RELAY_STALL_CNT).raise blkRly 12
/-- An action that would make an entry of n frames is stalled. -/
def jBlocked (s : State) (n : Nat) : Bool := jOn s && (s.rly.stall || !jFits s n)
/-- The action waits; a full buffer is a stall. -/
def jWait (s : State) (n : Nat) : State := if jFits s n then s else jStall s

/-- An entry made (R399). -/
def jEntry (s : State) (kind : Nat) (data : List Byte) : State :=
  if jOn s then
    let q := (s.regN Reg.RELAY_JSEQ_TX + 1) % 2 ^ 32
    let e : JEntry := { jseq := q, pt := s.pt, kind, data }
    relSend ((s.setRegN Reg.RELAY_JSEQ_TX q).setRly { s.rly with buf := s.rly.buf ++ [e] }) (jFrames e)
  else s

/-- A write of a listed Pacer register at its offset (Table RLY-5). -/
def jCfg (s : State) (off v : Nat) : State := jEntry s 7 (leBytes 4 off ++ leBytes 4 v)

/-! Mirror ranges (R405). -/

/-- A mirror range is committed. -/
def mirOn (s : State) (n : Nat) : Bool := s.flag (Reg.RELAY_MIR_CTL n) 1
/-- Its base. -/
def mirBase (s : State) (n : Nat) : Nat := s.fld (Reg.RELAY_MIR_BASE_LO n) 31 12 * 4096 + s.fld (Reg.RELAY_MIR_BASE_HI n) 15 0 * 2 ^ 32
/-- Its size in bytes. -/
def mirSize (s : State) (n : Nat) : Nat := s.fld (Reg.RELAY_MIR_SIZE n) 28 0 * 4096
/-- An address lies in a committed mirror range. -/
def inMir (s : State) (a : Nat) : Bool :=
  (List.range 8).any (fun n => mirOn s n && decide (mirBase s n ≤ a) && decide (a < mirBase s n + mirSize s n))

/-- A tile of a protected range written, where a mirror range holds it (R353): its address, B, leaf counter, tag, ciphertext. -/
def jTile (s : State) (tile b ctr : Nat) (tag : BitVec 64) (ct : List Byte) : State :=
  if jOn s && inMir s (512 * tile) then
    jEntry s 9 (leBytes 6 (512 * tile) ++ leBytes 6 b ++ leBytes 7 ctr ++ leBytes 8 tag.toNat ++ ct)
  else s

/-- What plain writes of 64-byte lines left in mirror ranges, one entry a line (Table RLY-5); `plain` says which addresses no
protected range covers. -/
def jMem (s : State) (plain : Nat → Bool) (a : Nat) (b : List Byte) : State :=
  if jOn s && !b.isEmpty then
    ((List.range ((a + b.length - 1) / 64 - a / 64 + 1)).map (fun i => a / 64 + i)).foldl (fun s l =>
      let lo := Nat.max a (64 * l)
      let hi := Nat.min (a + b.length) (64 * l + 64)
      if inMir s lo && plain lo then
        jEntry s 8 (leBytes 6 lo ++ [BitVec.ofNat 8 (hi - lo - 1)] ++ List.replicate 9 0 ++ slice b (lo - a) (hi - lo))
      else s) s
  else s

/-- The parts of a local write that SHADOW does not discard (R404), by 4 KiB page, as offset and length. -/
def mirKept (s : State) (a n : Nat) : List (Nat × Nat) :=
  if n = 0 then []
  else
    ((List.range ((a + n - 1) / 4096 - a / 4096 + 1)).map (fun i => a / 4096 + i)).filterMap (fun p =>
      if inMir s (4096 * p) then none
      else
        let lo := Nat.max a (4096 * p)
        let hi := Nat.min (a + n) (4096 * p + 4096)
        some (lo - a, hi - lo))

/-- Some byte of a local write lies in a committed mirror range. -/
def mirHit (s : State) (a n : Nat) : Bool :=
  n != 0 && ((List.range ((a + n - 1) / 4096 - a / 4096 + 1)).any (fun i => inMir s (4096 * (a / 4096 + i))))

end Sys2Proof.Machine
end

