-- ==== Sys2Proof/Machine/Memory.lean ====
section
/-! DEFINITION. Memory behind its protections: the scratchpad's words (R296, R299, R302), local SDRAM's mapping, symbol ECC
and merge buffer (R308…R314), and IMP's ranges, tiles and Whiffletree (R333…R342). -/

namespace Sys2Proof.Machine

/-! Logs of 32 entries (R275, R318, R355). -/

/-- An entry placed: dropped with its event when the log is full; the sequence number goes on either way. `w` is the entry
without SEQ, `sh` where SEQ stands, `stat` the log's status register. -/
def logPush (s : State) (l : Log) (w sh stat blk evt : Nat) : State × Log :=
  let e := BitVec.ofNat 128 (w + l.seq * 2 ^ sh)
  let seq := (l.seq + 1) % 2 ^ 16
  if l.q.length < 32 then
    let q := l.q ++ [e]
    ((s.setFlag stat 0 false).setFld stat 6 1 q.length, { q, seq })
  else ((s.addFld stat 31 16 1).raise blk evt, { l with seq })

/-- The head popped. -/
def logPop (s : State) (l : Log) (stat : Nat) : State × Log :=
  let q := l.q.drop 1
  ((s.setFlag stat 0 q.isEmpty).setFld stat 6 1 q.length, { l with q })

/-- Word w of a log's head; an empty log reads zero. -/
def logWord (l : Log) (w : Nat) : Nat := bitsOf ((l.q.head?.getD 0).toNat) (32 * w + 31) (32 * w)

/-! The scratchpad (R296, R299, R302). -/

/-- The state with the network replaced. -/
def State.setNoc (s : State) (n : Noc) : State := { s with noc := n }
/-- The address lies in the scratchpad. -/
def inScratch (a : Nat) : Bool := decide (scratchBase ≤ a) && decide (a < scratchBase + scratchSize)
/-- The bank of an address. -/
def spBank (a : Nat) : Nat := (a - scratchBase) / 2 ^ 20
/-- A bank is ON. -/
def spOn (s : State) (b : Nat) : Bool := s.fld (Reg.SP_BANK_STAT b) 2 0 == 0
/-- The error pattern of a word: data in [63:0], check in [71:64]. -/
def spErr (s : State) (w : Nat) : BitVec 72 := sget (fun _ => 0) s.noc.spErr w
/-- The state with it replaced. -/
def setSpErr (s : State) (w : Nat) (e : BitVec 72) : State :=
  s.setNoc { s.noc with spErr := sput (fun _ => 0) s.noc.spErr w e }
/-- What a read of a word with an error pattern finds (R209, R299); the code is linear, so the pattern alone decides. -/
def spDecode (e : BitVec 72) : SecRead := secDecode (bitsOf e.toNat 63 0) (bitsOf e.toNat 71 64)
/-- The words of n bytes from an address, as addresses / 8. -/
def wordsOf (a n : Nat) : List Nat := if n = 0 then [] else (List.range ((a + n - 1) / 8 - a / 8 + 1)).map (fun i => a / 8 + i)

/-- One word of a scratchpad write: fresh check bits; a partial write of a word with a double error leaves it (DEDUCED, log
entry 13); an armed SP_FLIP of its bank strikes it (R302). -/
def spWord (s : State) (a n w : Nat) : State :=
  let e := spErr s w
  let whole := decide (a ≤ 8 * w) && decide (8 * w + 8 ≤ a + n)
  let e := if whole || !(spDecode e).double then 0 else e
  match s.noc.flip with
  | some (b, m) => setSpErr s w (if spBank (8 * w) = b then e ^^^ m else e)
  | none => setSpErr s w e

/-- SP_FLIP disarmed by a write of its bank (R302). -/
def spFlipDone (s : State) (a : Nat) : State :=
  match s.noc.flip with
  | some (b, _) =>
    if spBank a = b then
      (((s.setNoc { s.noc with flip := none }).setFlag Reg.SP_FLIP_2 31 false).setFlag Reg.SP_FLIP_2 30 true).raise blkNoc 12
    else s
  | none => s

/-- Bytes written to the scratchpad (R299, R302). -/
def spWrite (s : State) (a : Nat) (l : List Byte) : State :=
  if l.isEmpty then s
  else spFlipDone ((wordsOf a l.length).foldl (fun s w => spWord s a l.length w) (s.store a l)) a

/-- One word of a scratchpad read (R299): a single error is corrected and written back, a double one counted. Answers whether
the word is uncorrectable. -/
def spReadWord (s : State) (w : Nat) : State × Bool :=
  let r := spDecode (spErr s w)
  let b := spBank (8 * w)
  if r.single then ((setSpErr s w 0).count (Reg.SP_BANK_SBE b) |>.raise blkNoc 8, false)
  else if r.double then ((s.count (Reg.SP_BANK_DBE b)).raise blkNoc 9, true)
  else (s, false)

/-- The byte a scratchpad read returns: corrected for a single error, as stored for a double one. -/
def spByte (s : State) (a : Nat) : Byte :=
  s.byte a ^^^ BitVec.ofNat 8 (bitsOf (spDecode (spErr s (a / 8))).data (8 * (a % 8) + 7) (8 * (a % 8)))

/-- The words of a read each taken in turn: whether any is uncorrectable. -/
def spReadWords (s : State) (l : List Nat) : State × Bool :=
  l.foldl (fun (r : State × Bool) w => let (t, b) := spReadWord r.1 w; (t, r.2 || b)) (s, false)

/-! Local SDRAM's map (R307…R310). -/

/-- The base of local SDRAM. -/
def sdBase : Nat := 0x1000000000
/-- The base of the CXL HDM range. -/
def hdmBase : Nat := 0x10000000000
/-- The address lies in local SDRAM's range. -/
def inSdram (a : Nat) : Bool := decide (sdBase ≤ a) && decide (a < 0x5000000000)
/-- The address lies in the HDM range. -/
def inHdm (a : Nat) : Bool := decide (hdmBase ≤ a) && decide (a < 0x20000000000)

/-- The parity of a number's low 48 bits. -/
def par (v : Nat) : Nat := ((List.range 48).map (fun i => bit (v.testBit i))).sum % 2

/-- Channels in use (R308). -/
def chCount (s : State) : Nat := match s.fld Reg.MEM_MAP 1 0 with | 0 => 1 | 1 => 2 | _ => 4
/-- CH_MASK_0. -/
def chMask0 (s : State) : Nat := s.regN Reg.MEM_CH_MASK_0_LO + s.fld Reg.MEM_CH_MASK_0_HI 5 0 * 2 ^ 32
/-- CH_MASK_1. -/
def chMask1 (s : State) : Nat := s.regN Reg.MEM_CH_MASK_1_LO + s.fld Reg.MEM_CH_MASK_1_HI 5 0 * 2 ^ 32
/-- The channel of an offset a (R308). -/
def chanOf (s : State) (a : Nat) : Nat :=
  match chCount s with
  | 1 => 0
  | 2 => par (Nat.land a (chMask0 s))
  | _ => 2 * par (Nat.land a (chMask1 s)) + par (Nat.land a (chMask0 s))
/-- The channel address c of an offset a (R308). -/
def chanAddr (s : State) (a : Nat) : Nat :=
  match chCount s with
  | 1 => a
  | 2 => a % 256 + a / 512 * 256
  | _ => a % 256 + a / 1024 * 256
/-- The capacity of a channel, by channel 0's MEM_CFG (R307, R308). -/
def chanCap (s : State) : Nat := 2 ^ (35 + s.fld (Reg.MEM_CFG 0) 2 2 + s.fld (Reg.MEM_CFG 0) 3 3)
/-- The usable size U of a channel (R310). -/
def chanUse (s : State) : Nat :=
  chanCap s - 2 ^ 20 - (if s.flag (Reg.MEM_SPARE 0) 0 then 2 ^ (16 + s.fld (Reg.MEM_CFG 0) 2 2) * 8192 else 0)
/-- The fitted capacity of local SDRAM: offsets at or above it have no backing (R310). -/
def sdFitted (s : State) : Nat := chCount s * chanUse s
/-- A channel is READY (R316). -/
def chanReady (s : State) (h : Nat) : Bool := s.fld (Reg.MEM_STAT h) 1 0 == 2

/-- A channel beside its registers. -/
def chanSt (s : State) (h : Nat) : Channel := sget (fun _ => {}) s.ext.chans h
/-- The state with a channel replaced. -/
def setChan (s : State) (h : Nat) (c : Channel) : State :=
  { s with ext := { s.ext with chans := sput (fun _ => {}) s.ext.chans h c } }

/-- The bank of a channel address and its row (R309): {SUB, RANK, BG, BA} as MEM_RETIRE_ARG lays them out. -/
def bankOf (s : State) (h c : Nat) : Nat × Nat :=
  let m (a : Nat) : Nat := par (Nat.land c (s.fld a 28 0 * 128))
  let r := 16 + s.fld (Reg.MEM_CFG 0) 2 2
  let rank := if s.flag (Reg.MEM_CFG 0) 3 then c / 2 ^ (19 + r) % 2 else 0
  (c / 64 % 2 + 2 * rank + 4 * m (Reg.MEM_BG_MASK_0 h) + 8 * m (Reg.MEM_BG_MASK_1 h) + 16 * m (Reg.MEM_BG_MASK_2 h)
    + 32 * m (Reg.MEM_BA_MASK_0 h) + 64 * m (Reg.MEM_BA_MASK_1 h), c / 2 ^ 19 % 2 ^ r)

/-! Symbol ECC (R311): the code is linear, so what a read finds depends on the error pattern alone. -/

/-- Multiplication by α in GF(2^8) with x^8 + x^4 + x^3 + x^2 + 1. -/
def gfAlpha (x : Nat) : Nat := if x < 128 then 2 * x else Nat.xor (2 * x % 256) 0x1D
/-- Multiplication by α^n. -/
def gfPow : Nat → Nat → Nat
  | 0, x => x
  | n + 1, x => gfPow n (gfAlpha x)
/-- Syndrome i of 20 symbols. -/
def syndrome (e : List Nat) (i : Nat) : Nat :=
  (e.zipIdx.map (fun p => gfPow (i * (19 - p.2)) p.1)).foldl Nat.xor 0

/-- What a read of a codeword finds (R311): good, a corrected symbol with its correction, or uncorrectable. -/
inductive CwRead where
  | good
  | ce (s : Nat) (v : Nat)
  | ue
  deriving DecidableEq, Repr

/-- The decision of R311 on an error pattern. -/
def cwRead (e : List Nat) : CwRead :=
  let s0 := syndrome e 0
  let s1 := syndrome e 1
  let s2 := syndrome e 2
  let s3 := syndrome e 3
  if s0 = 0 ∧ s1 = 0 ∧ s2 = 0 ∧ s3 = 0 then .good
  else if s0 = 0 then .ue
  else
    match (List.range 20).find? (fun s => s1 == gfPow (19 - s) s0 && s2 == gfPow (19 - s) s1 && s3 == gfPow (19 - s) s2) with
    | some s => .ce s s0
    | none => .ue

/-- The symbols of codeword k of a line's error pattern. -/
def cwOf (e : BitVec 640) (k : Nat) : List Nat := (List.range 20).map (fun s => bitsOf e.toNat (8 * (20 * k + s) + 7) (8 * (20 * k + s)))

/-- The line bit that bit b of data symbol s of codeword k is (R307, R311). -/
def symBit (k s b : Nat) : Nat :=
  let beat := 4 * k + 2 * (s % 2) + b / 4
  8 * (4 * beat + s / 4) + 4 * (s / 2 % 2) + b % 4

/-- The data bits of a line that some symbols of a codeword spell. -/
def symMask (k : Nat) (e : List Nat) : Nat :=
  (((e.take 16).zipIdx.flatMap (fun p => (List.range 8).filterMap (fun b =>
    if p.1.testBit b then some (2 ^ symBit k p.2 b) else none)))).sum

/-- What a line differs by (none where it is as it was written). -/
def lineErr (s : State) (l : Nat) : LineErr := sget (fun _ => {}) s.ext.errs l
/-- The state with it replaced. -/
def setLineErr (s : State) (l : Nat) (e : LineErr) : State :=
  { s with ext := { s.ext with errs := sput (fun _ => {}) s.ext.errs l e } }
/-- The reads of a line's four codewords. -/
def lineReads (s : State) (l : Nat) : List CwRead :=
  let e := lineErr s l
  if e.poison then [.ue, .ue, .ue, .ue] else (List.range 4).map (fun k => cwRead (cwOf e.err k))
/-- A line is uncorrectable. -/
def lineUe (s : State) (l : Nat) : Bool := (lineReads s l).contains .ue
/-- The data bits in error after correction. -/
def lineMask (s : State) (l : Nat) : BitVec 512 :=
  let e := lineErr s l
  BitVec.ofNat 512 (((lineReads s l).zipIdx.map (fun p =>
    let c := cwOf e.err p.2
    symMask p.2 (match p.1 with | .ce i v => c.modify i (fun x => Nat.xor x v) | _ => c))).sum)

/-- The merge entry of a line (R313). -/
def mergeOf (s : State) (l : Nat) : Option Merge :=
  (chanSt s (chanOf s (64 * l - sdBase))).merge.find? (fun m => m.line == l)
/-- The byte written last at an offset of a list of written bytes. -/
def lastAt (l : List (Nat × Byte)) (o : Nat) : Option Byte := (l.find? (fun e => e.1 == o)).map (·.2)
/-- Bytes written at an offset and on, later bytes replacing earlier ones. -/
def putBytes (l : List (Nat × Byte)) (o : Nat) (b : List Byte) : List (Nat × Byte) :=
  b.zipIdx.foldl (fun l e => (o + e.2, e.1) :: l.filter (fun x => x.1 != o + e.2)) l

/-- The byte a read of local SDRAM returns: the stored line corrected, with a merge entry's bytes applied (R312, R313). -/
def sdByte (s : State) (a : Nat) : Byte :=
  match (mergeOf s (a / 64)).bind (fun m => lastAt m.bytes (a % 64)) with
  | some b => b
  | none => s.byte a ^^^ BitVec.ofNat 8 (bitsOf (lineMask s (a / 64)).toNat (8 * (a % 64) + 7) (8 * (a % 64)))

/-- An entry in a channel's log (Table SDC-3). -/
def memLog (s : State) (h c kind sym cw : Nat) : State :=
  let (t, l) := logPush s (chanSt s h).log (c / 64 + (kind + sym * 2 ^ 4 + cw * 2 ^ 9) * 2 ^ 32 + s.pt * 2 ^ 64) 96 (Reg.MEM_LOG_STAT h) blkMem 3
  setChan t h { chanSt t h with log := l }

/-- The channel and channel address of a line. -/
def lineChan (s : State) (l : Nat) : Nat × Nat := (chanOf s (64 * l - sdBase), chanAddr s (64 * l - sdBase))

/-- A line's symbols as it is written: fresh checks, or an armed MEM_FLIP's masks in codeword 0 (R322). -/
def lineFresh (s : State) (l : Nat) : State :=
  let h := (lineChan s l).1
  match (chanSt s h).flip with
  | some m =>
    let s := setLineErr s l { err := BitVec.ofNat 640 m.toNat }
    let s := setChan s h { chanSt s h with flip := none }
    ((s.setFlag (Reg.MEM_FLIP_CTL h) 31 false).setFlag (Reg.MEM_FLIP_CTL h) 30 true).raise blkMem 10
  | none => setLineErr s l {}

/-- The corrected line written back after a CE (R312). -/
def lineBack (s : State) (l : Nat) : State :=
  let b := (List.range 64).map (fun i => s.byte (64 * l + i) ^^^ BitVec.ofNat 8 (bitsOf (lineMask s l).toNat (8 * i + 7) (8 * i)))
  lineFresh (s.store (64 * l) b) l

/-- A read of a line (R312): each corrected codeword is counted and logged and the line written back, unless one is
uncorrectable, which is counted and logged. `ce` and `ue` are the log kinds; answers whether it is uncorrectable. -/
def lineRead (s : State) (l ce ue : Nat) : State × Bool :=
  let (h, c) := lineChan s l
  let rs := (lineReads s l).zipIdx
  let bad := lineUe s l
  let t := rs.foldl (fun s p =>
    match p.1 with
    | .ce i _ => (memLog (s.count (Reg.MEM_CE_CNT h)) h c ce i p.2).raise blkMem 0
    | .ue => (memLog (s.count (Reg.MEM_UE_CNT h)) h c ue 0 p.2).raise blkMem 1
    | .good => s) s
  if !bad && rs.any (fun p => p.1 != .good) then (lineBack t l, false) else (t, bad)

/-- A whole line written: a merge entry of it is discarded (R313). -/
def lineWrite (s : State) (l : Nat) (b : List Byte) : State :=
  let h := (lineChan s l).1
  let s := setChan s h { chanSt s h with merge := (chanSt s h).merge.filter (fun m => m.line != l) }
  lineFresh (s.store (64 * l) b) l

/-- A merge entry flushed (R313, R314): the line is read, the bytes applied and the line written; an uncorrectable line is
written with the poison checks and the bytes are not applied. -/
def mergeFlush (s : State) (h : Nat) (m : Merge) : State :=
  let s := s.count (Reg.MEM_MERGE_CNT h)
  let s := setChan s h { chanSt s h with merge := (chanSt s h).merge.filter (fun x => x.line != m.line) }
  if lineUe s m.line then
    let s := setLineErr (lineFresh s m.line) m.line { poison := true }
    (memLog (s.count (Reg.MEM_UE_CNT h)) h (lineChan s m.line).2 3 0 0).raise blkMem 2
  else
    let s := (lineRead s m.line 1 2).1
    let b := (List.range 64).map (fun i => (lastAt m.bytes i).getD (sdByte s (64 * m.line + i)))
    lineWrite s m.line b

/-- The oldest entry of a channel flushed. -/
def mergeOldest (s : State) (h : Nat) : State :=
  match (chanSt s h).merge with
  | m :: _ => mergeFlush s h m
  | [] => s

/-- A narrow write of one line: it merges, or takes one of 32 entries, the oldest being flushed for it (R313). -/
def mergeWrite (s : State) (l o : Nat) (b : List Byte) : State :=
  let h := (lineChan s l).1
  if (chanSt s h).merge.any (fun m => m.line == l) then
    setChan s h { chanSt s h with merge := (chanSt s h).merge.map (fun m =>
      if m.line = l then { m with bytes := putBytes m.bytes o b } else m) }
  else
    let s := if 32 ≤ (chanSt s h).merge.length then mergeOldest s h else s
    setChan s h { chanSt s h with merge := (chanSt s h).merge ++ [{ line := l, bytes := putBytes [] o b }] }

/-- The lines of n bytes from an address. -/
def linesOf (a n : Nat) : List Nat := if n = 0 then [] else (List.range ((a + n - 1) / 64 - a / 64 + 1)).map (fun i => a / 64 + i)

/-- A write to local SDRAM, one line after the other in address order (R313). -/
def sdWrite (s : State) (a : Nat) (b : List Byte) : State :=
  (linesOf a b.length).foldl (fun s l =>
    let lo := Nat.max a (64 * l)
    let hi := Nat.min (a + b.length) (64 * l + 64)
    let p := slice b (lo - a) (hi - lo)
    if hi - lo = 64 then lineWrite s l p else mergeWrite s l (lo - 64 * l) p) s

/-- A read of local SDRAM: the ECC effects of its lines; whether any is uncorrectable (R312). -/
def sdRead (s : State) (a n : Nat) : State × Bool :=
  (linesOf a n).foldl (fun (r : State × Bool) l => let (t, u) := lineRead r.1 l 1 2; (t, r.2 || u)) (s, false)

/-! Memory beneath IMP: local SDRAM or the HDM range. -/

/-- A byte beneath IMP. -/
def physByte (s : State) (a : Nat) : Byte := if inSdram a then sdByte s a else s.byte a
/-- n bytes beneath IMP. -/
def physBytes (s : State) (a n : Nat) : List Byte := (List.range n).map (fun i => physByte s (a + i))
/-- Bytes written beneath IMP. -/
def physWrite (s : State) (a : Nat) (b : List Byte) : State := if inSdram a then sdWrite s a b else s.store a b
/-- The effects of a read beneath IMP, and whether it is uncorrectable. -/
def physRead (s : State) (a n : Nat) : State × Bool := if inSdram a then sdRead s a n else (s, false)

/-! IMP's ranges (R333, R334, R350). -/

/-- The state with IMP replaced. -/
def State.setImp (s : State) (i : Imp) : State := { s with imp := i }
/-- A range is committed. -/
def rngOn (s : State) (n : Nat) : Bool := s.flag (Reg.IMP_RNG_CTL n) 9
/-- Its mode. -/
def rngMode (s : State) (n : Nat) : Nat := s.fld (Reg.IMP_RNG_CTL n) 1 0
/-- Its base. -/
def rngBase (s : State) (n : Nat) : Nat := s.fld (Reg.IMP_RNG_BASE_LO n) 31 12 * 4096 + s.fld (Reg.IMP_RNG_BASE_HI n) 15 0 * 2 ^ 32
/-- Its size in bytes. -/
def rngSize (s : State) (n : Nat) : Nat := s.fld (Reg.IMP_RNG_SIZE n) 28 0 * 4096
/-- Its metadata base M. -/
def rngMeta (s : State) (n : Nat) : Nat := s.fld (Reg.IMP_RNG_META_LO n) 31 12 * 4096 + s.fld (Reg.IMP_RNG_META_HI n) 15 0 * 2 ^ 32
/-- An address lies in a range. -/
def inRng (s : State) (n a : Nat) : Bool := decide (rngBase s n ≤ a) && decide (a < rngBase s n + rngSize s n)

/-- N, its tiles (R339). -/
def rngTiles (s : State) (n : Nat) : Nat := s.fld (Reg.IMP_RNG_SIZE n) 28 0 * 8
/-- D, the levels in memory over N tiles (R339): the least power of eight at or above N, at least one. -/
def depthOf (n : Nat) : Nat := (((List.range 11).map (· + 1)).find? (fun d => decide (n ≤ 8 ^ d))).getD 11
/-- n_L, the nodes of level L. -/
def nodesAt (n d l : Nat) : Nat := ceilDiv n (8 ^ (d - l + 1))
/-- The nodes of the levels above L. -/
def nodesAbove (n d l : Nat) : Nat := ((List.range (l - 1)).map (fun i => nodesAt n d (i + 1))).sum
/-- The bytes of the metadata region (R340). -/
def metaBytes (n : Nat) : Nat :=
  let d := depthOf n
  8 * n + 64 * nodesAbove n d (d + 1) + 64 * nodesAbove n d (Nat.min 3 d + 1)
/-- The metadata region in 4 KiB units (R340). -/
def metaUnits (n : Nat) : Nat := ceilDiv (metaBytes n) 4096
/-- The address of node j of level L (R340). -/
def nodeAddr (s : State) (r l j : Nat) : Nat :=
  let n := rngTiles s r
  rngMeta s r + 8 * n + 64 * nodesAbove n (depthOf n) l + 64 * j
/-- The address of its twin (R340). -/
def twinAddr (s : State) (r l j : Nat) : Nat :=
  let n := rngTiles s r
  let d := depthOf n
  rngMeta s r + 8 * n + 64 * nodesAbove n d (d + 1) + 64 * nodesAbove n d l + 64 * j

/-- The range of an address among the committed ones. -/
def rngOf (s : State) (a : Nat) : Option Nat := (List.range 16).find? (fun n => rngOn s n && inRng s n a)
/-- An address lies in the metadata region of a committed ENC_INT range (R334). -/
def inMeta (s : State) (a : Nat) : Bool :=
  (List.range 16).any (fun n => rngOn s n && rngMode s n == 2 && decide (rngMeta s n ≤ a)
    && decide (a < rngMeta s n + 4096 * metaUnits (rngTiles s n)))

/-- B, the roll's boundary. -/
def rollB (s : State) : Nat := s.regN Reg.IMP_ROLL_B_LO + s.fld Reg.IMP_ROLL_B_HI 15 0 * 2 ^ 32
/-- The key slot of a tile of a range: the new one below the boundary of its roll (R350). -/
def slotFor (s : State) (r tile : Nat) : Nat :=
  if s.flag (Reg.IMP_RNG_CTL r) 11 ∧ 512 * tile < rollB s then s.fld Reg.IMP_ROLL_STAT 21 16
  else s.fld (Reg.IMP_RNG_CTL r) 7 2

/-- How IMP takes a request (R334). -/
inductive ImpKind where
  | hidden
  | plain
  | enc (slot : Nat)
  | encInt (rng : Nat)
  | noKey
  deriving DecidableEq, Repr

/-- A key slot is LOADED. -/
def slotLoaded (s : State) (k : Nat) : Bool := s.flag (Reg.IMP_KSLOT_STAT k) 0

/-- The classification of an address with a request's KIX (R334). -/
def impKind (s : State) (a kix : Nat) : ImpKind :=
  if inMeta s a then .hidden
  else
    match rngOf s a with
    | some r => match rngMode s r with
      | 1 => .enc (slotFor s r (a / 512))
      | 2 => .encInt r
      | _ => .plain
    | none =>
      if s.flag Reg.IMP_CTL 0 ∧ 1 ≤ kix ∧ kix ≤ 63 then (if slotLoaded s kix then .enc kix else .noKey) else .plain

/-! Keys, tiles and nodes (R336…R342). -/

/-- The keys of a slot: K1 and K2, then KM. -/
def slotKeys (s : State) (k : Nat) : List Byte := ((s.sec.tack.find? (fun e => e.1 == k)).map (·.2)).getD []
/-- The XTS keys of a slot. -/
def xtsKey (s : State) (k : Nat) : List Byte := (slotKeys s k).take 64
/-- KM of a slot. -/
def tagKey (s : State) (k : Nat) : List Byte := (slotKeys s k).drop 64
/-- The tweak of a tile (R337). -/
def tweak (tile ctr : Nat) : Nat := tile + ctr * 2 ^ 64
/-- The block Q of an object (R338). -/
def tagQ (domain ctr addr : Nat) : List Byte := BitVec.ofNat 8 domain :: (beBytes 7 ctr ++ beBytes 8 addr)
/-- The tag of a tile's ciphertext. -/
def tileTagOf (s : State) (slot tile ctr : Nat) (ct : List Byte) : BitVec 64 := Config.objTag (tagKey s slot) (tagQ 0x54 ctr (512 * tile)) ct
/-- The node key of a range. -/
def nodeKey (s : State) (r : Nat) : List Byte := ((s.imp.nkeys.find? (fun e => e.1 == r)).map (·.2)).getD []
/-- The 56 counter bytes of a node. -/
def ctrBytes (l : List Nat) : List Byte := l.flatMap (leBytes 7)
/-- The tag of a node's counters under its own counter. -/
def nodeTagOf (s : State) (r addr ctr : Nat) (b : List Byte) : BitVec 64 :=
  Config.objTag (nodeKey s r) (tagQ 0x4E ctr addr) (b ++ List.replicate 8 0)

/-- The root's counters. -/
def rootOf (s : State) (r : Nat) : List Nat := ((s.imp.roots.find? (fun e => e.1 == r)).map (·.2)).getD (List.replicate 8 0)
/-- The cached node, if any. -/
def cachedNode (s : State) (r l j : Nat) : Option Node :=
  s.imp.cache.find? (fun n => n.rng == r && n.level == l && n.idx == j)
/-- The eight counters in a node's bytes. -/
def parseCtrs (b : List Byte) : List Nat := (List.range 8).map (fun k => fieldLe b (7 * k) 7)

/-- The counters of a node as the tree now stands: cached, or all zero when its own counter is 0, or as stored (R339, R341).
Level 0 is the root. -/
def nodeCtrs (s : State) (r : Nat) : Nat → Nat → List Nat
  | 0, _ => rootOf s r
  | l + 1, j =>
    match cachedNode s r (l + 1) j with
    | some n => n.ctrs
    | none =>
      if (nodeCtrs s r l (j / 8)).getD (j % 8) 0 = 0 then List.replicate 8 0
      else parseCtrs (physBytes s (nodeAddr s r (l + 1) j) 56)

/-- The index of a tile in its range. -/
def tileIx (s : State) (r tile : Nat) : Nat := tile - rngBase s r / 512
/-- A tile's counter in its leaf node. -/
def tileCtr (s : State) (r tile : Nat) : Nat :=
  let i := tileIx s r tile
  (nodeCtrs s r (depthOf (rngTiles s r)) (i / 8)).getD (i % 8) 0
/-- The nodes of a tile's path, from level 1 to the leaf (R339). -/
def pathOf (s : State) (r tile : Nat) : List (Nat × Nat) :=
  let d := depthOf (rngTiles s r)
  (List.range d).map (fun i => (i + 1, tileIx s r tile / 8 ^ (d - i)))

/-- A valid poison entry of a range (R347). -/
def poisonOf (s : State) (e r : Nat) : Bool := s.flag (Reg.IMP_POISON e) 31 && s.fld (Reg.IMP_POISON e) 27 24 == r

/-- A tile lies in a poisoned subtree (R347); a range marked POISONED that no entry names is poisoned whole. -/
def poisonHits (s : State) (r tile : Nat) : Bool :=
  let mine := (List.range 64).filter (fun e => poisonOf s e r)
  (s.flag (Reg.IMP_RNG_CTL r) 12 && mine.isEmpty) ||
    mine.any (fun e =>
      let l := s.fld (Reg.IMP_POISON e) 23 20
      l == 0 || (pathOf s r tile).contains (l, s.regN (Reg.IMP_POISON e + 4)))

/-- The plaintext of a tile as stored, under its slot: zeros while its counter is 0 (R337, R341). -/
def tilePlain (s : State) (r tile : Nat) : List Byte :=
  let c := tileCtr s r tile
  if c = 0 then List.replicate 512 0
  else Config.xtsDecrypt (xtsKey s (slotFor s r tile)) (tweak tile c) (physBytes s (512 * tile) 512)
/-- The plaintext of an ENC tile. -/
def encPlain (s : State) (slot tile : Nat) : List Byte :=
  Config.xtsDecrypt (xtsKey s slot) (tweak tile 0) (physBytes s (512 * tile) 512)

/-- The counters of a cached node replaced, dirty. -/
def setCtrs (s : State) (r l j : Nat) (c : List Nat) : State :=
  if l = 0 then
    s.setImp { s.imp with roots := sinsert r c (s.imp.roots.filter (fun e => e.1 != r)) }
  else
    s.setImp { s.imp with cache := s.imp.cache.map (fun n =>
      if n.rng = r ∧ n.level = l ∧ n.idx = j then { n with ctrs := c, dirty := true } else n) }

/-- A dirty node written back with a new tag: its counter in its parent advances; both copies at levels 1…3 (R341, R342). -/
def nodeBack (s : State) (n : Node) : State :=
  let pc := nodeCtrs s n.rng (n.level - 1) (n.idx / 8)
  let c := pc.getD (n.idx % 8) 0 + 1
  let s := setCtrs s n.rng (n.level - 1) (n.idx / 8) (pc.set (n.idx % 8) c)
  let b := ctrBytes n.ctrs
  let a := nodeAddr s n.rng n.level n.idx
  let s := physWrite s a (b ++ leBytes 8 (nodeTagOf s n.rng a c b).toNat)
  if n.level ≤ 3 then
    let t := twinAddr s n.rng n.level n.idx
    physWrite s t (b ++ leBytes 8 (nodeTagOf s n.rng t c b).toNat)
  else s

/-- A node has no cached child. -/
def childless (s : State) (n : Node) : Bool :=
  !s.imp.cache.any (fun x => x.rng == n.rng && x.level == n.level + 1 && x.idx / 8 == n.idx)

/-- One node evicted, after its children (R342): the longest cached childless one (log entry 14). -/
def evictOne (s : State) : State :=
  match s.imp.cache.find? (childless s) with
  | none => s
  | some n =>
    let s := if n.dirty then nodeBack s n else s
    s.setImp { s.imp with cache := s.imp.cache.filter (fun x => !(x.rng == n.rng && x.level == n.level && x.idx == n.idx)) }

/-- A verified node enters the cache of 16,384 (R342). -/
def cacheIn (s : State) (n : Node) : State :=
  let s := if 16384 ≤ s.imp.cache.length then evictOne s else s
  s.setImp { s.imp with cache := s.imp.cache ++ [n] }

/-- A tile's whole path in the cache, as the tree stands. -/
def cachePath (s : State) (r tile : Nat) : State :=
  (pathOf s r tile).foldl (fun s p =>
    match cachedNode s r p.1 p.2 with
    | some _ => s
    | none => cacheIn s { rng := r, level := p.1, idx := p.2, ctrs := nodeCtrs s r p.1 p.2, dirty := false }) s

/-- A tag stored, inverted by an armed IMP_TAG_FLIP of its range (R355). -/
def tagStore (s : State) (r tile : Nat) (t : BitVec 64) : State :=
  let a := rngMeta s r + 8 * tileIx s r tile
  if s.imp.flip = some r then
    let s := physWrite s a (leBytes 8 (~~~t).toNat)
    (((s.setImp { s.imp with flip := none }).setFlag Reg.IMP_TAG_FLIP 31 false).setFlag Reg.IMP_TAG_FLIP 30 true).raise blkMem 29
  else physWrite s a (leBytes 8 t.toNat)

/-- A tile's tag as stored. -/
def tagAt (s : State) (r tile : Nat) : BitVec 64 := BitVec.ofNat 64 (leNat (physBytes s (rngMeta s r + 8 * tileIx s r tile) 8))

/-- The largest counter. -/
def ctrTop : Nat := 2 ^ 56 - 1

/-- A tile written under a given counter: encrypted, tagged, its leaf dirty (R346). -/
def tileWriteAt (s : State) (r tile c : Nat) (plain : List Byte) : State :=
  let s := cachePath s r tile
  let d := depthOf (rngTiles s r)
  let i := tileIx s r tile
  let k := slotFor s r tile
  let ct := Config.xtsEncrypt (xtsKey s k) (tweak tile c) plain
  let s := physWrite s (512 * tile) ct
  let s := tagStore s r tile (tileTagOf s k tile c ct)
  let s := setCtrs s r d (i / 8) ((nodeCtrs s r d (i / 8)).set (i % 8) c)
  jTile s tile (rollB s) c (tagAt s r tile) ct

/-- A tile of an ENC range or key slot encrypted and written. -/
def encWrite (s : State) (slot tile : Nat) (plain : List Byte) : State :=
  let ct := Config.xtsEncrypt (xtsKey s slot) (tweak tile 0) plain
  let s := physWrite s (512 * tile) ct
  if (rngOf s (512 * tile)).isSome then jTile s tile (rollB s) 0 0 ct else s

/-- A counter on a tile's path would pass its end with one more write (R341). -/
def ctrFull (s : State) (r tile : Nat) : Bool :=
  tileCtr s r tile == ctrTop ||
    (pathOf s r tile).any (fun p => (nodeCtrs s r (p.1 - 1) (p.2 / 8)).getD (p.2 % 8) 0 == ctrTop)

/-- A tile of an ENC_INT range written back with its counter advanced; past the end it is not performed (R341, R346). -/
def tileBack (s : State) (r tile : Nat) (plain : List Byte) : State :=
  if ctrFull s r tile then s.raise blkMem 23 else tileWriteAt s r tile (tileCtr s r tile + 1) plain

/-- The tile buffer's entry of a tile. -/
def tileBuf (s : State) (tile : Nat) : Option TileBuf := s.imp.buf.find? (fun b => b.tile == tile)

/-- A byte of a protected tile as a requester sees it: the buffer's bytes over the stored ones (R346). -/
def tileByte (s : State) (k : ImpKind) (a : Nat) : Byte :=
  let tile := a / 512
  match (tileBuf s tile).bind (fun b => lastAt b.bytes (a % 512)) with
  | some b => b
  | none =>
    let l := match k with | .encInt r => tilePlain s r tile | .enc slot => encPlain s slot tile | _ => []
    l.getD (a % 512) 0

/-! What an initiator sees. -/

/-- A byte at a physical address, IMP's keys applied for a request of a KIX. -/
def viewByte (s : State) (kix a : Nat) : Byte :=
  if inScratch a then spByte s a
  else if inSdram a || inHdm a then
    match impKind s a kix with
    | .plain => physByte s a
    | .hidden => 0
    | .noKey => 0
    | k => tileByte s k a
  else s.byte a

/-- n bytes at a physical address. -/
def State.viewBytes (s : State) (kix a n : Nat) : List Byte := (List.range n).map (fun i => viewByte s kix (a + i))
/-- The same for a request without a KIX. -/
def State.bytes (s : State) (a n : Nat) : List Byte := s.viewBytes 0 a n

/-- Bytes put into one protected tile at an offset: into its buffer entry, or by way of its stored contents. -/
def tilePut (s : State) (k : ImpKind) (tile o : Nat) (b : List Byte) : State :=
  match tileBuf s tile with
  | some _ =>
    s.setImp { s.imp with buf := s.imp.buf.map (fun e => if e.tile = tile then { e with bytes := putBytes e.bytes o b } else e) }
  | none =>
    match k with
    | .encInt r =>
      let old := tilePlain s r tile
      tileBack s r tile (old.take o ++ b ++ old.drop (o + b.length))
    | .enc slot =>
      let old := encPlain s slot tile
      encWrite s slot tile (old.take o ++ b ++ old.drop (o + b.length))
    | _ => s

/-- Bytes written at a physical address for a request of a KIX; each 512-byte tile as IMP takes it. -/
def State.rawWrite (s : State) (kix a : Nat) (b : List Byte) : State :=
  if inScratch a then spWrite s a b
  else if inSdram a || inHdm a then
    ((List.range (ceilDiv (a % 512 + b.length) 512)).map (fun i => a / 512 + i)).foldl (fun s t =>
      let lo := Nat.max a (512 * t)
      let hi := Nat.min (a + b.length) (512 * t + 512)
      let p := slice b (lo - a) (hi - lo)
      match impKind s lo kix with
      | .plain => physWrite s lo p
      | .hidden => s
      | .noKey => s
      | k => tilePut s k t (lo - 512 * t) p) s
  else s.store a b

/-- An address that no protected range covers. -/
def unprotected (s : State) (a : Nat) : Bool :=
  match rngOf s a with
  | some r => rngMode s r == 0
  | none => true

/-- The same, as any initiator but the Relay's 472 writes: in SHADOW what lies in a mirror range is discarded (R404), and a
primary journals what it writes there (R403). -/
def State.viewWrite (s : State) (kix a : Nat) (b : List Byte) : State :=
  if s.shadowing && mirHit s a b.length then
    ((mirKept s a b.length).foldl (fun s p => s.rawWrite kix (a + p.1) (slice b p.1 p.2)) s).count Reg.RELAY_MIR_DROP_CNT
  else
    let s := s.rawWrite kix a b
    jMem s (unprotected s) a b

/-- The same for a request without a KIX. -/
def State.setBytes (s : State) (a : Nat) (b : List Byte) : State := s.viewWrite 0 a b
/-- The little-endian number of n bytes at an address (R13). -/
def State.memN (s : State) (a n : Nat) : Nat := leNat (s.bytes a n)
/-- A number written to n bytes at an address, little-endian (R13). -/
def State.setMemN (s : State) (a n v : Nat) : State := s.setBytes a (leBytes n v)

end Sys2Proof.Machine
end

