-- ==== Sys2Proof/Machine/Cores.lean ====
section
/-! DEFINITION. Reaching one Canter core, one timed output and one queue of the timing core in the state. -/

namespace Sys2Proof.Machine

/-! STATE codes of CA_CORE_STAT (Table CAN-12). -/
/-- OFF. -/
def cOff : Nat := 0
/-- ASKING. -/
def cAsking : Nat := 1
/-- RUNNING. -/
def cRunning : Nat := 2
/-- PREEMPTING. -/
def cPreempting : Nat := 3
/-- DRAINING. -/
def cDraining : Nat := 4
/-- HALTED. -/
def cHalted : Nat := 5
/-- BIST. -/
def cBist : Nat := 6
/-- SAVED. -/
def cSaved : Nat := 7

/-- Core c. -/
def State.core (s : State) (c : Nat) : CoreState := sget (fun _ => {}) s.can.cores c
/-- The state with core c replaced. -/
def State.setCore (s : State) (c : Nat) (k : CoreState) : State :=
  { s with can := { s.can with cores := sput (fun _ => {}) s.can.cores c k } }

/-- The live bank of a core (R151). -/
def CoreState.bank (k : CoreState) : Bank := if k.live then k.bank1 else k.bank0
/-- The shadow bank of a core. -/
def CoreState.other (k : CoreState) : Bank := if k.live then k.bank0 else k.bank1
/-- The core with its live bank replaced. -/
def CoreState.setBank (k : CoreState) (b : Bank) : CoreState :=
  if k.live then { k with bank1 := b } else { k with bank0 := b }
/-- The core with its shadow bank replaced. -/
def CoreState.setOther (k : CoreState) (b : Bank) : CoreState :=
  if k.live then { k with bank0 := b } else { k with bank1 := b }

/-- The team of a core (R150). -/
def teamOf (c : Nat) : Nat := c / 64

/-! A core's online test (R525): its memories go to the scratchpad at OUT_BIST_SAVE and come back from there. -/

/-- The state with the Outrider's own part replaced. -/
def State.setOut (s : State) (o : Outrider) : State := { s with out := o }
/-- Where the test's copy lies. -/
def bistArea (s : State) : Nat := scratchBase + s.fld Reg.OUT_BIST_SAVE 25 18 * 2 ^ 18
/-- The n words of a core memory as bytes. -/
def memBytes (m : List (Nat × BitVec 32)) (n : Nat) : List Byte :=
  (List.range n).flatMap (fun i => leBytes 4 (sget (fun _ => 0) m i).toNat)
/-- A core memory of n words read back from an address. -/
def memBack (s : State) (a n : Nat) : List (Nat × BitVec 32) :=
  (List.range n).foldl (fun m i => sput (fun _ => 0) m i (BitVec.ofNat 32 (s.memN (a + 4 * i) 4))) []

/-- The test a core waits for begins once it is ASKING and holds no preempted operation. -/
def bistTurn (s : State) (c : Nat) : State :=
  let k := s.core c
  if s.out.core = some { core := c } ∧ k.st = cAsking ∧ !k.shadow then
    let s := s.setBytes (bistArea s) (memBytes k.i 8192 ++ memBytes k.x 8192 ++ memBytes k.y 8192 ++ memBytes k.c 4096)
    (s.setOut { s.out with core := some { core := c, begun := true } }).setCore c { s.core c with st := cBist }
  else s

/-- A round of online BIST is complete with the test of its last unit (R524). -/
def bistRound (s : State) (u : Nat) : State :=
  if s.fld Reg.OUT_BIST_NEXT 13 0 ≤ u then (s.count Reg.OUT_BIST_RUNS).raise blkOut 12 else s

/-- A core test ends: the memories are restored and the core returns to dispatch. -/
def bistStop (s : State) : State :=
  match s.out.core with
  | none => s
  | some b =>
    let a := bistArea s
    let k := s.core b.core
    let s := s.setOut { s.out with core := none }
    let s :=
      if b.begun then
        s.setCore b.core { k with
          i := memBack s a 8192, x := memBack s (a + 32768) 8192, y := memBack s (a + 65536) 8192, c := memBack s (a + 98304) 4096
          st := cAsking }
      else s
    bistRound s b.core

/-- The core is asking and may be granted: ASKING, nothing on its way to it, enabled with its team (Table CAN-12), and the
mode not STABLE (R106); a core under online test receives no grant (R525). -/
def State.coreAsks (s : State) (c : Nat) : Bool :=
  let k := s.core c
  k.st == cAsking && k.grant.isNone && k.pgrant.isNone && s.flag (Reg.CA_CORE_CFG c) 0 && s.flag Reg.CA_CTL (teamOf c)
    && !s.out.core.any (fun b => b.core == c) && s.mode != mStable && !(s.mode == mSafe && s.under == mStable)

/-- Timed output n, or TLIO cell n − 8 (R49). -/
def State.tout (s : State) (n : Nat) : TimedOut := sget (fun _ => {}) s.tim.outs n
/-- The state with a timed output replaced. -/
def State.setTout (s : State) (n : Nat) (o : TimedOut) : State :=
  { s with tim := { s.tim with outs := sput (fun _ => {}) s.tim.outs n o } }

/-- The time an entry {S[31:0], T[30:0]} names in whole Tc, taking S[47:32] from the present Timeline (R49). -/
def entryTime (s : State) (s32 t31 : Nat) : Nat := (tlS s.tim.tl / 2 ^ 32 * 2 ^ 32 + s32) * secTc + t31

/-- An entry pushed to a timed output (R49, R50): discarded on a full queue of four, or earlier than the last accepted. -/
def State.pushEntry (s : State) (n s32 t31 : Nat) (level : Bool) : State :=
  let o := s.tout n
  let t := entryTime s s32 t31
  if 4 ≤ o.queue.length then s.raise blkTim 12
  else if o.last.any (fun l => decide (t < l)) then s.raise blkTim 11
  else s.setTout n { o with queue := o.queue ++ [{ time := t, level := level }], last := some t }

end Sys2Proof.Machine
end

