-- ==== Sys2Proof/Machine/Pacer.lean ====
section
/-! DEFINITION. The Pacer and rein-back (03_pacer.md, 04_run_ahead_rein_back.md): admission, the delay lists, service of
the worker classes, completion, release, and the undoing of work that has run ahead. -/

namespace Sys2Proof.Machine

/-- The state with the Pacer's own part replaced. -/
def State.setPac (s : State) (p : Pacer) : State := { s with pac := p }

/-! Tokens (R99, Table PAC-1): PAC_TOK_STAT holds each token's state. -/

/-- IDLE. -/
def tIdle : Nat := 0
/-- PENDING. -/
def tPending : Nat := 1
/-- SPEC. -/
def tSpec : Nat := 2
/-- COMMITTED. -/
def tCommitted : Nat := 3
/-- POISONED. -/
def tPoisoned : Nat := 4

/-- A token's state. -/
def State.tok (s : State) (i : Nat) : Nat := s.fld (Reg.PAC_TOK_STAT i) 2 0
/-- The state with a token's state replaced. -/
def State.setTok (s : State) (i v : Nat) : State := s.setRegN (Reg.PAC_TOK_STAT i) v
/-- The VALID tokens among an operation's. -/
def validToks (l : List (Option Nat)) : List Nat := l.filterMap id
/-- Every VALID output token of an operation set to a state. -/
def setOuts (s : State) (o : Op) (v : Nat) : State := (validToks o.outs).foldl (fun s i => s.setTok i v) s

/-- The token table's address (R99): PAC_TOK_BASE[25:18] in units of 256 KiB. -/
def tokTable (s : State) : Nat := scratchBase + s.fld Reg.PAC_TOK_BASE 25 18 * 2 ^ 18
/-- The buffer address of a token, [47:0] of its entry (R99). -/
def tokAddr (s : State) (i : Nat) : Nat := s.memN (tokTable s + 16 * i) 6
/-- The buffer length of a token, [95:64] of its entry (R99). -/
def tokLen (s : State) (i : Nat) : Nat := s.memN (tokTable s + 16 * i + 8) 4

/-- An input token satisfies a consumer (Table PAC-1; SPEC only for a consumer of the producer's graph). -/
def tokSat (s : State) (o : Op) (i : Nat) : Bool :=
  let t := s.tok i
  t == tIdle || t == tCommitted ||
    (t == tSpec && o.nodeValid &&
      match (s.pac.prods.find? (fun e => e.1 == i)) with
      | some (_, p) => p.nodeValid && p.graph == o.graph
      | none => false)

/-- Every input of an operation satisfies it. -/
def insSat (s : State) (o : Op) : Bool := (validToks o.ins).all (tokSat s o)

/-! Operations. -/

/-- The unreleased operation in a descriptor slot. -/
def opAt (s : State) (slot : Nat) : Option Op := s.pac.ops.find? (fun o => o.slot == slot)
/-- The unreleased operation of an acceptance number. -/
def opId (s : State) (i : Nat) : Option Op := s.pac.ops.find? (fun o => o.id == i)
/-- The state with an operation replaced, found by its acceptance number. -/
def setOp (s : State) (o : Op) : State :=
  s.setPac { s.pac with ops := s.pac.ops.map (fun x => if x.id = o.id then o else x) }
/-- The operations a worker holds. -/
def heldBy (s : State) (cls w : Nat) : List Op :=
  s.pac.ops.filter (fun o => o.st == .running && o.cls == cls && o.worker == some w)

/-- The descriptor's address. -/
def descAddr (slot : Nat) : Nat := scratchBase + 64 * slot
/-- Word k of a descriptor. -/
def descWord (s : State) (slot k : Nat) : Nat := s.memN (descAddr slot + 4 * k) 4
/-- W14 and W15 written (R101): STATE, CODE, SEQ and ADMIT_TICK. -/
def writeW (s : State) (slot st code seq pt : Nat) : State :=
  (s.setMemN (descAddr slot + 56) 4 (st + code * 256 + seq * 65536)).setMemN (descAddr slot + 60) 4 pt

/-- The outstanding cost of a group in a class: the cost of its unreleased operations (R104, R116, R117). -/
def outCost (s : State) (g c : Nat) : Nat :=
  ((s.pac.ops.filter (fun o => o.group == g && o.cls == c)).map (·.cost)).sum
/-- The entries of a delay list (R108). -/
def listFill (s : State) (l : Nat) : Nat := (s.pac.ops.filter (fun o => o.list == l)).length
/-- PAC_LIST_FILL and PAC_GRP_OUT brought up to date. -/
def fillRegs (s : State) (l g : Nat) : State :=
  let n := listFill s l
  let s := s.setFld (Reg.PAC_LIST_FILL l) 11 0 n
  let s := if s.fld (Reg.PAC_LIST_FILL l) 27 16 < n then s.setFld (Reg.PAC_LIST_FILL l) 27 16 n else s
  s.setRegN (Reg.PAC_GRP_OUT g) ((List.range 4).foldl (fun m c => Nat.max m (outCost s g c)) 0 % 2 ^ 20)

/-! The loss queue (R145). -/

/-- The entry of Table RBK-4. -/
def lossEntry (o : Op) (cause final : Nat) : BitVec 64 :=
  BitVec.ofNat 64 ((if o.ordered then o.seq else 0) + o.flow * 2 ^ 16 + bit o.ordered * 2 ^ 26 + cause * 2 ^ 27
    + o.slot * 2 ^ 32 + o.graph * 2 ^ 52 + final * 2 ^ 60)

/-- RB_LOSS_STAT's fill and EMPTY brought up to date. -/
def lossStat (s : State) : State :=
  let n := s.pac.lossQ.length
  (s.setFlag Reg.RB_LOSS_STAT 0 (n == 0)).setFld Reg.RB_LOSS_STAT 9 1 n

/-- A loss entry placed; a full queue of 256 drops it (R145). -/
def pushLoss (s : State) (o : Op) (cause final : Nat) : State :=
  let s := (s.count Reg.RB_LOSS_CNT).raise blkPac 21
  if s.pac.lossQ.length < 256 then
    lossStat (s.setPac { s.pac with lossQ := s.pac.lossQ ++ [lossEntry o cause final] })
  else (s.addFld Reg.RB_LOSS_STAT 31 16 1).raise blkPac 22

/-! Records (R144). -/

/-- Open records counted in RB_STAT, with the next slot. -/
def recStat (s : State) : State :=
  (s.setFld Reg.RB_STAT 6 0 s.pac.recs.length).setFld Reg.RB_STAT 13 8 s.pac.nextSlot

/-- Records with nothing left to wait for are closed (R142). -/
def closeRecs (s : State) : State :=
  let shut := s.pac.recs.filter (fun r => r.pendOps.isEmpty)
  let s := shut.foldl (fun s r => s.setFlag (Reg.RB_REC r.slot) 11 false) s
  recStat (s.setPac { s.pac with recs := s.pac.recs.filter (fun r => !r.pendOps.isEmpty) })

/-- An operation has reached a final state: records that re-dispatched it note it, and count a loss (R142, Table RBK-3). -/
def recFinal (s : State) (i : Nat) (lost : Bool) : State :=
  let hit := s.pac.recs.filter (fun r => r.pendOps.contains i)
  let s := if lost then hit.foldl (fun s r => s.addFld (Reg.RB_REC r.slot + 12) 31 16 1) s else s
  closeRecs (s.setPac { s.pac with recs := s.pac.recs.map (fun r => { r with pendOps := r.pendOps.filter (· != i) }) })

/-! Abandoning work (R134 step 1). -/

/-- The worker of a RUNNING operation is told to abandon it: a Canter core receives the request, a hitch port HP_CANCEL
with its HP_DONE still owed, a DMA channel or the stager stops. -/
def abandonOp (s : State) (o : Op) : State :=
  match o.st, o.cls, o.worker with
  | .running, 0, some w =>
    let k := s.core w
    if k.grant = some o.slot then s.setCore w { k with grant := none }
    else if k.pgrant = some o.slot then s.setCore w { k with pgrant := none }
    else s.setCore w { k with drop := k.drop ++ [o.slot] }
  | .running, 1, some _ =>
    s.setPac { s.pac with tags := s.pac.tags.map (fun t => if t.op = o.id then { t with cancelled := true } else t) }
  | _, _, _ => s

/-- The key under which a worker is kept. -/
def workerKey (c w : Nat) : Nat := 512 * c + w

/-- An operation missed at its due tick is not abandoned: its worker goes on, and its completion will be late (R116). -/
def leaveRunning (s : State) (o : Op) : State :=
  match o.st, o.worker with
  | .running, some w =>
    if 2 ≤ o.cls then s.setPac { s.pac with busy := s.pac.busy ++ [workerKey o.cls w] } else s
  | _, _ => s

/-- One operation reaches a final state other than RELEASED (R116, R135): its worker abandons it, unless it missed its due
tick while running (R116), W14 is written, its
entry and cost leave, its outputs return to IDLE, and a loss entry is placed. -/
def endOne (s : State) (o : Op) (final cause : Nat) : State :=
  let s := if cause = 1 ∨ cause = 5 then leaveRunning s o else abandonOp s o
  let s := s.setPac { s.pac with ops := s.pac.ops.filter (fun x => x.id != o.id) }
  let s := writeW s o.slot final 0 (if o.ordered then o.seq else 0) o.admitPt
  let s := setOuts s o tIdle
  let s := fillRegs s o.list o.group
  let s := pushLoss s o cause final
  recFinal s o.id (final != 6)

/-- Every unreleased operation that names one of some tokens as input, then their consumers in turn, ends MISSED with cause
INPUT_LOST (R135); the count bounds the chain. -/
def endConsumers : Nat → State → List Nat → State
  | 0, s, _ => s
  | n + 1, s, toks =>
    let hit := s.pac.ops.filter (fun o => (validToks o.ins).any (fun t => toks.contains t))
    match hit with
    | [] => s
    | _ =>
      let s' := hit.foldl (fun s o => endOne s o 4 4) s
      endConsumers n s' (hit.flatMap (fun o => validToks o.outs))

/-- Operations end together in one final state, then their consumers (R135). -/
def endOps (s : State) (l : List Op) (final cause : Nat) : State :=
  let n := s.pac.ops.length
  let s := l.foldl (fun s o => endOne s o final cause) s
  endConsumers n s (l.flatMap (fun o => validToks o.outs))

/-- Wholesale cancellation of the unreleased operations a test picks (R137). -/
def wholesale (s : State) (p : Op → Bool) : State :=
  let s := (s.count Reg.RB_WHOLESALE_CNT).raise blkPac 25
  endOps s (s.pac.ops.filter p) 5 7

/-! Rein-back. -/

/-- RUNNING, DONE and HELD can be reined back (R125). -/
def canTaint (o : Op) : Bool := o.st == .running || o.st == .done || o.st == .held

/-- Taint spreads along graph edges until no further operation qualifies (R133); the count bounds the closure. -/
def closure : Nat → List Op → List Op → List Op
  | 0, _, seed => seed
  | n + 1, all, seed =>
    let outs := seed.flatMap (fun o => validToks o.outs)
    let more := all.filter (fun o => canTaint o && !(seed.any (fun x => x.id == o.id))
      && (validToks o.ins).any (fun t => outs.contains t))
    if more.isEmpty then seed else closure n all (seed ++ more)

/-- Rein-back of one tainted operation (R134): abandoned, its result discarded, re-dispatched when time and the redo limit
allow, else MISSED with NO_TIME or REPEAT. Answers the state and whether it was re-dispatched. -/
def taintOne (s : State) (o : Op) : State × Bool :=
  match opId s o.id with
  | none => (s, false)
  | some o =>
    let s := (validToks o.outs).foldl (fun s i => if s.tok i = tPoisoned then s else s.setTok i tPending) s
    let timeOk := decide (o.cost + 8 ≤ ptSub o.due s.pt)
    let redoOk := decide (o.redo + 1 ≤ s.fld Reg.RB_CFG 3 0)
    if timeOk && redoOk then
      let s := abandonOp s o
      (setOp (s.count Reg.RB_REDO_CNT) { o with st := .blocked, worker := none, preempted := false, redo := o.redo + 1, staged := none }, true)
    else
      (endOps (s.raiseIf timeOk blkPac 27) [o] 4 (if timeOk then 3 else 2), false)

/-- An operation whose inputs no longer satisfy it returns to BLOCKED (R125). -/
def recheck (s : State) : State :=
  s.setPac { s.pac with ops := s.pac.ops.map (fun o => if o.st = .ready ∧ !insSat s o then { o with st := .blocked } else o) }

/-- The first slot from the one after the last used that holds no open record (R144). -/
def freeSlot (s : State) : Nat :=
  (((List.range 64).map (fun i => (s.pac.nextSlot + i) % 64)).find? (fun n => !(s.pac.recs.any (fun r => r.slot == n)))).getD 0

/-- With 64 records open, the oldest one's graphs are cancelled wholesale and it closes with WHOLESALE set (R142); operations
with NODE_VALID clear in its taint set are covered one by one. -/
def makeRoom (s : State) : State :=
  match s.pac.recs with
  | [] => s
  | r :: _ =>
    if s.pac.recs.length < 64 then s
    else
      let s := wholesale s (fun o => if o.nodeValid then r.graphs.contains o.graph else r.members.contains o.id)
      let s := s.setFlag (Reg.RB_REC r.slot) 12 true
      closeRecs (s.setPac { s.pac with recs := s.pac.recs.map (fun x => if x.slot = r.slot then { x with pendOps := [] } else x) })

/-- A trigger (R128): counted always; with a non-empty seed a record opens, taint spreads, and every tainted operation is
re-dispatched or ends (R133, R134, R144). -/
def reinBack (s : State) (trig detail : Nat) (seed : Op → Bool) : State :=
  let s := (s.count (Reg.RB_TRIG_CNT trig)).raise blkPac (15 + trig)
  let seeds := s.pac.ops.filter (fun o => canTaint o && seed o)
  if seeds.isEmpty then s
  else
    let s := makeRoom s
    let seeds := s.pac.ops.filter (fun o => canTaint o && seed o)
    let all := closure s.pac.ops.length s.pac.ops seeds
    let n := freeSlot s
    let s := s.countBy Reg.RB_TAINT_CNT all.length
    let s := s.setRegN (Reg.RB_REC n) (s.pac.nextRec % 256 + trig * 2 ^ 8 + 2 ^ 11 + satNat 15 all.length * 2 ^ 16)
    let s := s.setRegN (Reg.RB_REC n + 4) detail
    let s := s.setRegN (Reg.RB_REC n + 8) s.pt
    let s := s.setRegN (Reg.RB_REC n + 12) 0
    let was := s.pac.recs.length
    let s := s.setPac { s.pac with
      recs := s.pac.recs ++ [{ slot := n, members := all.map (·.id), pendOps := all.map (·.id),
                               graphs := (all.filter (·.nodeValid)).map (·.graph) }]
      nextSlot := (n + 1) % 64, nextRec := (s.pac.nextRec + 1) % 256 }
    let s := s.raiseIf (was == 47) blkPac 26
    let s := all.foldl (fun s o =>
      let (s, redone) := taintOne s o
      if redone then s.addFld (Reg.RB_REC n + 12) 15 0 1 else s) s
    recheck (closeRecs s)

/-- A Timeline correction event (R45, R131), from tick number `old` to the present one: TLC is set, TL_LAST_CORR takes the
rounded correction, the seeded groups are reined back, work a forward step passes over ends SKIPPED, and a step of 2^27
ticks or more cancels everything. `d` is the signed correction in units of 2^-16 Tc. -/
def State.correction (s : State) (old : Nat) (d : Int) : State :=
  let mag := (d.natAbs + 32768) / 65536
  let corr := satInt 32 (if d < 0 then -(mag : Int) else mag)
  let s := (s.raise blkTim 1).setRegN Reg.TL_LAST_CORR (unsigned 32 corr)
  let s := reinBack s 2 (unsigned 32 corr) (fun o => s.flag Reg.RB_TLC_GROUPS o.group)
  if 2 ^ 27 * tickUnit ≤ d.natAbs then wholesale s (fun _ => true)
  else if 0 < d then
    endOps s (s.pac.ops.filter (fun o => ptLater o.due old && ptReached s.pt o.due)) 4 6
  else s

/-! Admission. -/

/-- The admissions the mode accepts through doorbells (R106). -/
def modeAdmits (m : Nat) : Bool :=
  [mCommission, mAcquire, mService, mHoldover, mFreerun, mSafe].contains m

/-- A refusal (R103, R104): W14 and W15 where the descriptor can be written, PAC_ADM_LAST, the count of its code, and the
events of the code. -/
def refuse (s : State) (bell offset code : Nat) (canWrite : Bool) : State :=
  let s := if canWrite then writeW s (offset / 64) 2 code 0 s.pt else s
  let s := s.setRegN Reg.PAC_ADM_LAST (code + bell * 2 ^ 8 + offset / 64 * 2 ^ 12)
  let s := (s.count (Reg.PAC_REFUSE_CNT code)).raise blkPac 0
  ((s.raiseIf (code == 3) blkPac 1).raiseIf (code == 0x0A) blkPac 3).raiseIf (code == 0x0B) blkPac 13

/-- The operation a descriptor describes (Table PAC-2). -/
def descOp (s : State) (slot : Nat) : Op :=
  let w := descWord s slot
  let tok := fun k => if (w k).testBit 31 then some (bitsOf (w k) 13 0) else none
  { id := s.pac.nextId, slot := slot, due := w 0, start := ptSub (w 0) (bitsOf (w 1) 15 0),
    cost := if bitsOf (w 3) 27 20 = 0 then 1 else bitsOf (w 3) 27 20,
    group := bitsOf (w 1) 19 16, cls := bitsOf (w 1) 21 20, list := bitsOf (w 1) 24 22,
    ordered := (w 1).testBit 25, flow := bitsOf (w 2) 9 0,
    safety := s.flag (Reg.PAC_FLOW_CFG (bitsOf (w 2) 9 0)) 1, seq := 0,
    graph := bitsOf (w 3) 7 0, nodeValid := (w 1).testBit 27, kernel := w 4, target := bitsOf (w 5) 8 0,
    any := (w 5).testBit 9, teamMask := bitsOf (w 5) 13 10, relKind := bitsOf (w 6) 3 0, relId := bitsOf (w 6) 31 16,
    arg := w 8 + w 9 * 2 ^ 32, ins := [tok 10, tok 11], outs := [tok 12, tok 13], admitPt := s.pt }

/-- A descriptor is BAD_DESC (Table PAC-3 order 3 and Table PAC-8). -/
def badDesc (s : State) (slot : Nat) (o : Op) : Bool :=
  let w := descWord s slot
  let reserved := (w 1).testBit 26 || bitsOf (w 1) 31 28 != 0 || bitsOf (w 2) 31 10 != 0 || bitsOf (w 3) 31 28 != 0
    || bitsOf (w 5) 31 14 != 0 || bitsOf (w 6) 15 4 != 0 || w 7 != 0
    || [10, 11, 12, 13].any (fun k => bitsOf (w k) 30 14 != 0)
  let node := bitsOf (w 3) 19 8
  let base := s.fld (Reg.PAC_GRAPH_CFG o.graph) 15 4
  let cnt := s.fld (Reg.PAC_GRAPH_CFG o.graph) 28 16
  let limit := [256, 512, 32, 1].getD o.cls 0
  reserved || bitsOf (w 1) 15 0 == 0 || 4 ≤ o.relKind
    || (!o.any && limit ≤ o.target)
    || (o.nodeValid && s.flag (Reg.PAC_GRAPH_CFG o.graph) 0 && !(base ≤ node && node < base + cnt))
    || ((o.cls == 2 || o.cls == 3) && o.kernel != 0)
    || (o.cls == 2 && ((o.ins.getD 0 none).isNone || (o.outs.getD 0 none).isNone))
    || (o.cls == 3 && (o.outs.getD 0 none).isNone)
    || (o.relKind != 0 && (o.outs.getD 0 none).isNone)
    || (o.ordered && !s.flag (Reg.PAC_FLOW_CFG o.flow) 0)

/-- The first check of Table PAC-3, from order 2 on, that an admission fails; 0 when none. `shadow` admissions come from the
Relay journal: they pass the mode check by R106 and skip the FAR, LATE and BACKLOG checks (R407). -/
def admitCode (s : State) (slot rdStatus : Nat) (shadow : Bool) : Nat :=
  let o := descOp s slot
  if !s.flag Reg.PAC_CTL 0 || !(shadow || modeAdmits s.mode) then 0x0B
  else if rdStatus ≠ 0 then 0x0C
  else if badDesc s slot o then 0x05
  else if o.nodeValid && !s.flag (Reg.PAC_GRAPH_CFG o.graph) 0 then 0x06
  else if !shadow && 2 ^ 28 < ptSub o.due s.pt then 0x04
  else if !shadow && ptLater ((s.pt + s.fld Reg.PAC_MIN_LEAD 15 0) % 2 ^ 32) o.due then 0x03
  else if (validToks o.outs).any (fun t => s.tok t == tPending || s.tok t == tSpec) then 0x09
  else if o.ordered && (match s.pac.lastDue.find? (fun e => e.1 == o.flow) with | some (_, d) => ptLater d o.due | none => false) then 0x07
  else if o.ordered && 4096 ≤ (s.pac.ops.filter (fun x => x.ordered && x.flow == o.flow)).length then 0x08
  else if !shadow && s.fld (Reg.PAC_GRP_LIM o.group) 19 0 < outCost s o.group o.cls + o.cost then 0x0A
  else if 2048 ≤ listFill s o.list then 0x02
  else 0

/-- Acceptance, in one step (R104), with its ADMIT_TICK. -/
def acceptAs (s : State) (slot pt : Nat) : State :=
  let o := { descOp s slot with admitPt := pt }
  let seq := if o.ordered then s.fld (Reg.PAC_FLOW_STAT o.flow) 15 0 else 0
  let o := { o with seq := seq }
  let s := if o.ordered then s.setFld (Reg.PAC_FLOW_STAT o.flow) 15 0 (seq + 1) else s
  let s := setOuts s o tPending
  let s := s.setPac { s.pac with
    ops := s.pac.ops ++ [o], nextId := s.pac.nextId + 1
    prods := (validToks o.outs).foldl (fun m t => sinsert t ⟨o.id, o.nodeValid, o.graph⟩ (sdrop t m)) s.pac.prods
    lastDue := if o.ordered then sinsert o.flow o.due (sdrop o.flow s.pac.lastDue) else s.pac.lastDue }
  let s := fillRegs s o.list o.group
  let s := s.raiseIf (listFill s o.list == 1793) blkPac 2
  recheck (writeW s slot 1 0 seq o.admitPt)

/-- Acceptance through a doorbell (R104). -/
def acceptOp (s : State) (slot : Nat) : State := acceptAs s slot s.pt

/-! Service of the worker classes (R110). -/

/-- Whether worker w of a class may take an operation (R110). A fabric hitch port whose Paddock the Farrier has flagged is
granted nothing (R132). -/
def mayTake (o : Op) (c w : Nat) : Bool :=
  o.cls == c && (if o.any then c != 0 || o.teamMask == 0 || o.teamMask.testBit (teamOf w) else o.target == w)

/-- The READY operations of a group and class that a worker may take, first by due time, then by acceptance. -/
def firstReady (s : State) (g c w : Nat) : Option Op :=
  (s.pac.ops.filter (fun o => o.st == .ready && o.group == g && mayTake o c w)).foldl
    (fun best o => match best with
      | none => some o
      | some b => if ptLater b.due o.due then some o else some b) none

/-- A class's weight for a group (R110): 0 acts as 1. -/
def weight (s : State) (g c : Nat) : Nat :=
  let v := s.fld (Reg.PAC_GRP_W g) (8 * c + 7) (8 * c)
  if v = 0 then 1 else v

/-- The deficit of a group for a class. -/
def deficitOf (s : State) (c g : Nat) : Int := sget (fun _ => 0) s.pac.deficit (16 * c + g)
/-- The state with a deficit replaced. -/
def setDeficit (s : State) (c g : Nat) (v : Int) : State :=
  s.setPac { s.pac with deficit := sput (fun _ => 0) s.pac.deficit (16 * c + g) v }

/-- The loop of R110: deficit-weighted round-robin; the count bounds it (every deficit lies in −254…255, so 256 rounds of 16
groups reach a positive one). -/
def serveLoop : Nat → State → Nat → Nat → State × Option Op
  | 0, s, _, _ => (s, none)
  | n + 1, s, c, w =>
    let g := sget (fun _ => 0) s.pac.ptr c
    let next := fun s : State => s.setPac { s.pac with ptr := sput (fun _ => 0) s.pac.ptr c ((g + 1) % 16) }
    match firstReady s g c w with
    | some o =>
      if 0 < deficitOf s c g then (setDeficit s c g (deficitOf s c g - o.cost), some o)
      else serveLoop n (next (setDeficit s c g (deficitOf s c g + weight s g c))) c w
    | none => serveLoop n (next (setDeficit s c g 0)) c w

/-- The service of a worker that asks (R110). -/
def serve (s : State) (c w : Nat) : State × Option Op :=
  if (List.range 16).any (fun g => (firstReady s g c w).isSome) then serveLoop 4352 s c w else (s, none)

/-- An operation is granted to a worker: RUNNING, with the dispatch counts. -/
def grantOp (s : State) (o : Op) (w : Nat) : State :=
  let s := (s.count (Reg.PAC_GRP_DISP o.group)).count (Reg.PAC_DISP_CNT o.cls)
  let s := s.setPac { s.pac with lastRel := sdrop (workerKey o.cls w) s.pac.lastRel }
  setOp s { o with st := .running, worker := some w }

/-- The DMA channels, then the stager, take READY operations as soon as they are free, in ascending number (R110, R115). -/
def feedDma : Nat → State → State
  | 0, s => s
  | n + 1, s =>
    let w := 32 - (n + 1)
    let s := if (heldBy s 2 w).isEmpty && !s.pac.busy.contains (workerKey 2 w) then
        match serve s 2 w with
        | (s, some o) => grantOp s o w
        | (s, none) => s
      else s
    feedDma n s

/-- The DMA channels and the stager served. -/
def feedHard (s : State) : State :=
  let s := feedDma 32 s
  if (heldBy s 3 0).isEmpty && !s.pac.busy.contains (workerKey 3 0) then
    match serve s 3 0 with
    | (s, some o) => grantOp s o 0
    | (s, none) => s
  else s

/-! Completion and release. -/

/-- A worker's report (R116, R126): DONE with its outputs SPEC on 0x00, FAILED on any other status. -/
def report (s : State) (o : Op) (status : Nat) : State :=
  if status = 0 then
    let s := setOuts s o tSpec
    setOp s { o with st := .done, report := s.pt, preempted := false }
  else endOps (s.raise blkPac 7) [{ o with st := .done }] 6 8

/-- A completion discarded as late (R116). -/
def lateDone (s : State) : State := (s.count Reg.PAC_LATE_DONE_CNT).raise blkPac 6

/-- The entries of a TIMED buffer pushed in order (R118): 8 bytes each, {S[31:0], T[30:0] with LEVEL}. -/
def pushTimed (s : State) (n : Nat) (l : List (BitVec 64)) : State :=
  l.foldl (fun s e => s.pushEntry n (bitsOf e.toNat 31 0) (bitsOf e.toNat 62 32) (e.toNat.testBit 63)) s

/-- A token's buffer. -/
def tokBytes (s : State) (t : Nat) : List Byte := s.bytes (tokAddr s t) (tokLen s t)

/-- The whole 8-byte entries of a buffer; bytes after the last are ignored (R118). -/
def bufEntries (l : List Byte) : List (BitVec 64) :=
  (List.range (l.length / 8)).map (fun i => BitVec.ofNat 64 (fieldLe l (8 * i) 8))

/-- A TIMED release that pushes nothing (R118). -/
def timedDrop (s : State) : State := (s.count Reg.PAC_TIMED_DROP_CNT).raise blkPac 14

/-- An operation of an ordered flow whose predecessors are all final (R120). -/
def predsDone (s : State) (o : Op) : Bool :=
  !o.ordered || !(s.pac.ops.any (fun x => x.ordered && x.flow == o.flow && x.id < o.id))

/-- The release itself (R117…R120), but for the target: tokens COMMITTED, W14, counts, flow order and slips. -/
def releaseCore (s : State) (o : Op) : State :=
  let late := s.pt != o.due
  let s := s.count Reg.PAC_REL_CNT
  let s := if late then (s.count Reg.PAC_REL_SLIP_CNT).raise blkPac 5 else s
  let s := s.raiseIf (late && ptLater ((o.report + 8) % 2 ^ 32) o.due) blkPac 30
  let gap := o.ordered && s.fld (Reg.PAC_FLOW_STAT o.flow) 31 16 != o.seq
  let s := s.raiseIf gap blkPac 11
  let s := if o.ordered then s.setFld (Reg.PAC_FLOW_STAT o.flow) 31 16 (o.seq + 1) else s
  let s := setOuts s o tCommitted
  let s := s.setPac { s.pac with
    ops := s.pac.ops.filter (fun x => x.id != o.id)
    relTick := s.pt, relCount := (if s.pac.relTick = s.pt then s.pac.relCount else 0) + 1
    lastRel := match o.worker with
      | some w => sinsert (workerKey o.cls w) ⟨o.seq, o.flow, o.ordered, o.safety, o.slot, o.graph⟩ (sdrop (workerKey o.cls w) s.pac.lastRel)
      | none => s.pac.lastRel }
  let s := fillRegs s o.list o.group
  let s := writeW s o.slot 3 0 (if o.ordered then o.seq else 0) o.admitPt
  recFinal s o.id false

end Sys2Proof.Machine
end

