-- ==== Sys2Proof/Machine/PacerCmds.lean ====
section
/-! DEFINITION. The commands of the Pacer and of rein-back (03_pacer.md, 04_run_ahead_rein_back.md) but for the decision of
an admission and the release, which reach other blocks. -/

namespace Sys2Proof.Machine

/-- PAC_ADMIT (R102, R103). -/
def execPacAdmit (bell : Fin 16) (value : BitVec 32) (s : State) : Out :=
  let off := value.toNat
  if off % 64 ≠ 0 ∨ scratchSize ≤ off then .next (s.raise blkPac 10)
  else if 64 ≤ s.pac.admQ.length then .next (refuse s bell off 1 true)
  else .next (s.setPac { s.pac with admQ := s.pac.admQ ++ [{ bell := bell, offset := off }] })

/-- ADMISSION_DEQUEUE (R103): the oldest entry leaves the queue and its descriptor read is issued. -/
def execAdmissionDequeue (s : State) : Out :=
  match s.pac.admQ with
  | [] => .next s
  | a :: r => .next (s.setPac { s.pac with admQ := r, admRead := s.pac.admRead ++ [a] })

/-- The WAITING entries of a list that are due to start, earliest START_TICK first, then acceptance (R108, R109). -/
def dueToStart (s : State) (l : Nat) : List Op :=
  sortBy (fun a b => !ptLater a.start b.start)
    (s.pac.ops.filter (fun o => o.list == l && o.st == .waiting && ptReached s.pt o.start))

/-- One entry moved at its start (R109): READY when its inputs satisfy it, else BLOCKED; a slipped one counts. -/
def startOne (s : State) (o : Op) : State :=
  let s := if o.slip then (s.count Reg.PAC_START_SLIP_CNT).raise blkPac 4 else s
  setOp s { o with st := if insSat s o then .ready else .blocked, slip := false }

/-- One list at a tick boundary (R109): at most eight entries move, the rest slip. -/
def startList (s : State) (l : Nat) : State :=
  let due := dueToStart s l
  let s := (due.take 8).foldl startOne s
  (due.drop 8).foldl (fun s o => setOp s { o with slip := true }) s

/-- OP_START (R109). -/
def execOpStart (s : State) : Out := .next (feedHard ((List.range 8).foldl startList s))

/-- OP_READY (R109): a BLOCKED operation whose inputs satisfy it joins its ready group. -/
def execOpReady (slot : Fin 1048576) (s : State) : Out :=
  match opAt s slot with
  | some o => if o.st = .blocked ∧ insSat s o then .next (feedHard (setOp s { o with st := .ready })) else .next s
  | none => .next s

/-- CANTER_GRANT (R110, R112): an asking core is served; the grant is on its way to the core. -/
def execCanterGrant (core : Fin 256) (s : State) : Out :=
  if s.coreAsks core then
    match serve s 0 core with
    | (s, some o) =>
      let s := grantOp s o core
      .next (s.setCore core { s.core core with grant := some o.slot })
    | (s, none) => .next s
  else .next s

/-- The operation a core runs live: granted to it and not in its shadow bank. -/
def liveOp (s : State) (c : Nat) : Option Op := (heldBy s 0 c).find? (fun o => !o.preempted)

/-- The cores an operation may preempt (R111): eligible for it, running an operation of a group without PREEMPT, holding no
preempted operation. -/
def preemptable (s : State) (o : Op) (c : Nat) : Option Op :=
  let k := s.core c
  if mayTake o 0 c && k.st == cRunning && !k.shadow && k.grant.isNone && k.pgrant.isNone then
    (liveOp s c).filter (fun x => !s.flag (Reg.PAC_GRP_LIM x.group) 31)
  else none

/-- The core whose operation has the latest DUE_TICK, ties to the higher core number (R111). -/
def preemptCore (s : State) (o : Op) : Option Nat :=
  ((List.range 256).foldl (fun (best : Option (Nat × Nat)) c =>
    match preemptable s o c with
    | none => best
    | some x => match best with
      | none => some (c, x.due)
      | some (_, d) => if ptLater d x.due then best else some (c, x.due)) none).map (·.1)

/-- The slack of R111 is short: DUE_TICK − PT − COST below PAC_PREEMPT_SLACK. -/
def slackShort (s : State) (o : Op) : Bool :=
  decide (signed 32 (ptSub o.due s.pt) - o.cost < (s.fld Reg.PAC_PREEMPT_SLACK 15 0 : Int))

/-- PREEMPT (R111). -/
def execPreempt (slot : Fin 1048576) (s : State) : Out :=
  match opAt s slot with
  | none => .next s
  | some o =>
    let may := s.flag Reg.PAC_CTL 1 && o.cls == 0 && o.st == .ready && s.flag (Reg.PAC_GRP_LIM o.group) 31
      && !((List.range 256).any (fun c => mayTake o 0 c && s.coreAsks c)) && slackShort s o
    match (if may then preemptCore s o else none) with
    | none => .next s
    | some c =>
      let s := grantOp (s.raise blkPac 8) o c
      .next (s.setCore c { s.core c with pgrant := some o.slot })

/-- The Paddock of a hitch port (R218). -/
def hpPaddock (h : Nat) : Nat := if h < 432 then h / 3 else (2 + (h - 432) / 10) * 12 + 1 + (h - 432) % 10

/-- The tags outstanding on a port. -/
def portTags (s : State) (p : Nat) : List HpTag := s.pac.tags.filter (fun t => t.port == p)

/-- The buffer address of a token named in a payload; zero where it is not VALID (Table PAC-5). -/
def tokPort (s : State) (t : Option Nat) : Nat := match t with | some i => tokAddr s i | none => 0

/-- The payload of a grant (Table PAC-5): tag, slot, KERNEL, ARG, DUE_TICK and the four buffer addresses. -/
def grantWords (s : State) (o : Op) (tag : Nat) : List Nat :=
  [tag, o.slot, o.kernel, o.arg, o.due] ++ (o.ins ++ o.outs).map (tokPort s)

/-- The answer number that stands for hitch port p's own pins (log entry 9). -/
def pinsOf (p : Nat) : Nat := 1024 + p

/-- The Blinkers of a hitch port's Paddock are in ISOLATE (R219). -/
def hpIsolated (s : State) (h : Nat) : Bool := s.flag (Reg.CFG_PAD_STAT (hpPaddock h)) 2

/-- HP_GRANT (R113, R114, R132, R219): an enabled port with a free tag is granted; its Paddock's UPSET flag or ISOLATE withholds
the grant.
The tag is the lowest free one (log entry 10). -/
def execHpGrant (port : Fin 512) (s : State) : Out :=
  let used := portTags s port
  if s.flag (Reg.PAC_HP_CFG port) 0 && decide (used.length < s.fld (Reg.PAC_HP_CFG port) 2 1 + 1)
      && !s.flag (Reg.FAR_PAD_STAT (hpPaddock port)) 0 && !hpIsolated s port then
    match serve s 1 port with
    | (s, some o) =>
      let tag := ((List.range 4).find? (fun t => !(used.any (fun u => u.tag == t)))).getD 0
      let s := grantOp s { o with tag := tag } port
      let s := s.setPac { s.pac with tags := s.pac.tags ++ [{ port := port, tag := tag, op := o.id, cancelled := false }] }
      .next (s.answer (pinsOf port) 0 (grantWords s o tag))
    | (s, none) => .next s
  else .next s

/-- A report reaching the Pacer for a RUNNING operation, or late (R116). -/
def reportOr (s : State) (o : Option Op) (status : Nat) : State :=
  match o with
  | some o => if o.st = .running then report s o status else s
  | none => lateDone s

/-- HP_DONE (R114, R219): the tag is freed; the status of a cancelled operation is discarded; a tag not outstanding is ignored and
sets HP_PROTOCOL; one from an isolated Paddock never arrives. -/
def execHpDone (port : Fin 512) (tag : Fin 4) (status : BitVec 8) (s : State) : Out :=
  if hpIsolated s port then .next s
  else match s.pac.tags.find? (fun t => t.port == port.val && t.tag == tag.val) with
  | none => .next (s.raise blkPac 9)
  | some t =>
    let s := s.setPac { s.pac with tags := s.pac.tags.filter (fun u => !(u.port == port.val && u.tag == tag.val)) }
    if t.cancelled then .next s else .next (reportOr s (opId s t.op) status.toNat)

/-- A DMA channel's or the stager's worker freed of an operation that had ended while it worked (R116). -/
def freeBusy (s : State) (k : Nat) : State :=
  if s.pac.busy.contains k then lateDone (s.setPac { s.pac with busy := s.pac.busy.erase k }) else s

/-- The bytes of a DMA operation copied from IN_TOK_0's buffer to OUT_TOK_0's (R115). -/
def dmaCopy (s : State) (o : Op) (n : Nat) : State :=
  match o.ins.getD 0 none, o.outs.getD 0 none with
  | some i, some j => s.setBytes (tokAddr s j) (s.bytes (tokAddr s i) n)
  | _, _ => s

/-- DMA_COMPLETE (R115): ARG[31:0] bytes copied and reported, or status 0xF3 when the NoC answered anything but OK; how many
bytes were written before such an answer the spec leaves open. -/
def execDmaComplete (chan : Fin 32) (noc : Fin 8) (s : State) : Out :=
  match (heldBy s 2 chan).head? with
  | none => .next (feedHard (freeBusy s (workerKey 2 chan)))
  | some o =>
    let n := o.arg % 2 ^ 32
    if noc.val = 0 then .next (feedHard (report (dmaCopy s o n) o 0))
    else .next (feedHard (report (dmaCopy s.took o (s.free % (n + 1))) o 0xF3))

/-- STAGER_FETCH_DONE (R115). -/
def execStagerFetchDone (noc : Fin 8) (s : State) : Out :=
  match (heldBy s 3 0).head? with
  | none => .next (feedHard (freeBusy s (workerKey 3 0)))
  | some o =>
    if noc.val = 0 then
      .next (feedHard (report s { o with staged := (o.outs.getD 0 none).map (tokBytes s) } 0))
    else .next (feedHard (report s o 0xF3))

/-- OP_REPORT (R116). -/
def execOpReport (slot : Fin 1048576) (status : BitVec 8) (s : State) : Out :=
  .next (feedHard (reportOr s (opAt s slot) status.toNat))

/-- ALARM_WINDOW_END (R126): eight ticks after its report a DONE operation is HELD. -/
def execAlarmWindowEnd (slot : Fin 1048576) (s : State) : Out :=
  match opAt s slot with
  | some o =>
    if o.st = .done ∧ ptReached s.pt ((o.report + 8) % 2 ^ 32) then .next (setOp s { o with st := .held }) else .next s
  | none => .next s

/-- An operation has not reported (R116). -/
def unreported (o : Op) : Bool := o.st != .done && o.st != .held

/-- OP_DEADLINE (R116): an operation not reported when PT reaches its DUE_TICK ends MISSED, with cause POISONED when an input
is, else DEADLINE (Table RBK-5). -/
def execOpDeadline (slot : Fin 1048576) (s : State) : Out :=
  match opAt s slot with
  | some o =>
    if unreported o ∧ ptReached s.pt o.due then
      .next (endOps s [o] 4 (if (validToks o.ins).any (fun t => s.tok t == tPoisoned) then 5 else 1))
    else .next s
  | none => .next s

/-- TIMED_RELEASE_FETCH_DONE (R118): the entries of the oldest fetch are pushed, or the release is dropped. -/
def execTimedReleaseFetchDone (noc : Fin 8) (s : State) : Out :=
  match s.pac.fetches with
  | [] => .next s
  | (tok, n) :: r =>
    let s := s.setPac { s.pac with fetches := r }
    if noc.val = 0 then .next (pushTimed s n (bufEntries (tokBytes s tok))) else .next (timedDrop s)

/-! The configuration a primary mirrors (Table RLY-5). -/

/-- A write of PAC_GRAPH_CFG (R98). -/
def graphCfg (s : State) (graph v : Nat) : State :=
  let a := Reg.PAC_GRAPH_CFG graph
  if s.flag a 0 then
    if v.testBit 0 then s
    else (wholesale (s.setFlag a 0 false) (fun o => o.nodeValid && o.graph == graph)).raise blkPac 12
  else s.setRegN a (Nat.land v 0x1FFFFFF1)

/-- A write of PAC_FLOW_CFG (R120, Table PAC-8). -/
def flowCfg (s : State) (flow v : Nat) : State :=
  let a := Reg.PAC_FLOW_CFG flow
  let was := s.flag a 0
  let now := v.testBit 0
  if was && !now && s.pac.ops.any (fun o => o.ordered && o.flow == flow) then s
  else
    let s := s.setRegN a (Nat.land v 0xFFFF0003)
    if !was && now then
      let f := bitsOf v 31 16
      s.setRegN (Reg.PAC_FLOW_STAT flow) (f + f * 2 ^ 16)
    else s

/-- A write of PAC_CTL (R110, R137): clearing EN cancels every unreleased operation; setting it zeroes pointers and deficits. -/
def pacCtl (s : State) (v : Nat) : State :=
  let was := s.flag Reg.PAC_CTL 0
  let s := s.setRegN Reg.PAC_CTL (Nat.land v 3)
  if was && !v.testBit 0 then wholesale s (fun _ => true)
  else if !was && v.testBit 0 then s.setPac { s.pac with ptr := [], deficit := [] }
  else s

/-- A write of RB_TOK_CLR (R130): acts only on a POISONED token with no unreleased producer. -/
def tokClr (s : State) (v : Nat) : State :=
  let i := bitsOf v 13 0
  if s.tok i = tPoisoned ∧ !(s.pac.ops.any (fun o => (validToks o.outs).contains i)) then s.setTok i tIdle else s

/-- A write of a register of Table RLY-5 by its offset in the Pacer block; none for any other offset. -/
def pacCfg (s : State) (off v : Nat) : Option State :=
  if off = 0 then some (pacCtl s v)
  else if off = 0x0C then some (s.setRegN Reg.PAC_MIN_LEAD (Nat.max 16 (v % 2 ^ 16)))
  else if off = 0x14 then some (s.setRegN Reg.PAC_PREEMPT_SLACK (v % 2 ^ 16))
  else if 0x400 ≤ off ∧ off < 0x500 ∧ off % 16 = 0 then some (s.setRegN (Reg.PAC_GRP_W ((off - 0x400) / 16)) v)
  else if 0x400 ≤ off ∧ off < 0x500 ∧ off % 16 = 4 then some (s.setRegN (Reg.PAC_GRP_LIM ((off - 0x400) / 16)) (Nat.land v 0x800FFFFF))
  else if 0x10000 ≤ off ∧ off < 0x12000 ∧ off % 8 = 0 then some (flowCfg s ((off - 0x10000) / 8) v)
  else if 0x30000 ≤ off ∧ off < 0x30400 ∧ off % 4 = 0 then some (graphCfg s ((off - 0x30000) / 4) v)
  else if off = 0x100000 then some (s.setRegN Reg.RB_CFG (v % 16))
  else if off = 0x100004 then some (s.setRegN Reg.RB_TLC_GROUPS (v % 2 ^ 16))
  else if off = 0x10000C then some (tokClr s v)
  else none

/-- The same write by software: ignored in SHADOW with MODE_LOCK_VIOL (R404), else journalled by a primary (R403). -/
def pacWrite (s : State) (off v : Nat) : State :=
  if s.shadowing then s.raise blkPac 31
  else match pacCfg s off v with
    | some s => jCfg s off v
    | none => s

/-- PAC_GRAPH_CFG_WRITE (R98). -/
def execPacGraphCfgWrite (graph : Fin 256) (value : BitVec 32) (s : State) : Out :=
  .next (pacWrite s (0x30000 + 4 * graph.val) value.toNat)

/-- PAC_FLOW_CFG_WRITE (R120). -/
def execPacFlowCfgWrite (flow : Fin 1024) (value : BitVec 32) (s : State) : Out :=
  .next (pacWrite s (0x10000 + 8 * flow.val) value.toNat)

/-- PAC_CTL_WRITE (R110, R137). -/
def execPacCtlWrite (value : BitVec 32) (s : State) : Out := .next (pacWrite s 0 value.toNat)

/-! Rein-back. -/

/-- The token of an operation's inputs whose buffer holds an address (R129). -/
def namedTok (s : State) (l : List Op) (addr : Nat) : Option Nat :=
  (l.flatMap (fun o => validToks o.ins)).find? (fun i =>
    decide (tokAddr s i ≤ addr) && decide (addr < tokAddr s i + tokLen s i))

/-- A token poisoned by an alarm (R129, R130). -/
def poison (s : State) (i : Nat) : State := (s.setTok i tPoisoned).raise blkPac 28

/-- DETAIL of an ALARM record (Table RBK-3). -/
def alarmDetail (tok : Option Nat) (cls worker alarm : Nat) : Nat :=
  (match tok with | some t => t + 2 ^ 14 | none => 0) + worker * 2 ^ 16 + cls * 2 ^ 25 + alarm * 2 ^ 27

/-- An alarm that names a token (R129, R130): its consumers are the seed, and its unreleased producer when it is POISONED. -/
def alarmToken (s : State) (i cls worker alarm : Nat) : State :=
  let users := s.pac.ops.filter (fun o => canTaint o && (validToks o.ins).contains i)
  let bad := alarm == 2 || alarm == 3 || users.any (fun o => s.fld Reg.RB_CFG 3 0 ≤ o.redo)
  let s := if bad then poison s i else s
  reinBack s 1 (alarmDetail (some i) cls worker alarm) (fun o =>
    (validToks o.ins).contains i || (bad && (validToks o.outs).contains i))

/-- A POST_RELEASE fault (R143). -/
def postRelease (s : State) (r : LastRel) (alarm : Nat) : State :=
  let s := s.setRegN Reg.RB_POST_LO (r.seq + r.flow * 2 ^ 16 + bit r.ordered * 2 ^ 26 + bit r.safety * 2 ^ 27)
  let s := s.setRegN Reg.RB_POST_HI (r.slot + r.graph * 2 ^ 20 + alarm * 2 ^ 28)
  let s := (s.count Reg.RB_POST_CNT).raise blkPac 23
  if r.safety then (s.raise blkPac 24).detectNow 11 else s

/-- An alarm of a worker with nothing RUNNING or DONE (R129). -/
def alarmNone (s : State) (cls worker alarm : Nat) : State :=
  let s := reinBack s 1 (alarmDetail none cls worker alarm) (fun _ => false)
  match s.pac.lastRel.find? (fun e => e.1 == workerKey cls worker) with
  | some (_, r) => postRelease s r alarm
  | none => (s.count Reg.RB_UNATTR_CNT).raise blkPac 29

/-- An alarm reaching the Pacer (R129). -/
def State.alarm (s : State) (cls worker addr alarm : Nat) : State :=
  let mine := s.pac.ops.filter (fun o => (o.st == .running || o.st == .done) && o.cls == cls && o.worker == some worker)
  if mine.isEmpty then alarmNone s cls worker alarm
  else
    match namedTok s mine addr with
    | some i => alarmToken s i cls worker alarm
    | none => reinBack s 1 (alarmDetail none cls worker alarm) (fun o => mine.any (fun x => x.id == o.id))

/-- RB_ALARM (R129). -/
def execRbAlarm (cls : Fin 4) (worker : Fin 512) (addr : BitVec 48) (alarm : Fin 16) (s : State) : Out :=
  .next (s.alarm cls worker addr.toNat alarm)

/-- RB_TOK_CLR (R130). -/
def execRbTokClr (value : BitVec 32) (s : State) : Out := .next (pacWrite s 0x10000C value.toNat)

/-- The modes RB_TEST may be written in (Table RBK-8). -/
def rbTestModes (m : Nat) : Bool := m == mCommission || m == mService || m == mHoldover

/-- RB_TEST (Table RBK-8): writing bit 31 injects a TAG alarm that names a token; with no RUNNING or DONE consumer it is
unattributed. -/
def execRbTest (value : BitVec 32) (s : State) : Out :=
  if !rbTestModes s.mode then .next (s.raise blkPac 31)
  else
    let i := bitsOf value.toNat 13 0
    let s := s.setRegN Reg.RB_TEST i
    if value.getLsbD 31 then
      match s.pac.ops.find? (fun o => (o.st == .running || o.st == .done) && (validToks o.ins).contains i) with
      | some o => .next (alarmToken s i o.cls (o.worker.getD 0) 1)
      | none =>
        let s := reinBack s 1 i (fun _ => false)
        .next ((s.count Reg.RB_UNATTR_CNT).raise blkPac 29)
    else .next s

/-- The debug port's initiator number, whose reads never pop (Table NOC-5). -/
def debugInit : Nat := 474

/-- RB_LOSS_HI_READ (R145): a normal read answers the head's high word and pops it; an empty queue reads zero. -/
def execRbLossHiRead (init : Fin 512) (s : State) : Out :=
  match s.pac.lossQ with
  | [] => .next (s.answer init 0 [0])
  | e :: r =>
    let s := s.answer init 0 [e.toNat / 2 ^ 32]
    if init.val = debugInit then .next s else .next (lossStat (s.setPac { s.pac with lossQ := r }))

end Sys2Proof.Machine
end

