-- ==== Sys2Proof/Machine/Timeline.lean ====
section
/-! DEFINITION. The Timeline (01_timeline.md): oscillators, references, the loop, steps and states. -/

namespace Sys2Proof.Machine

/-- The state with the timing core's own part replaced. -/
def State.setTim (s : State) (t : Timing) : State := { s with tim := t }

/-! Oscillators (R28…R30). -/

/-- The nominal of oscillator k (0 A, 1 B); zero marks it absent (R28). -/
def oscNominal (s : State) (k : Nat) : Nat := s.regN (if k = 0 then Reg.TL_OSC_A_HZ else Reg.TL_OSC_B_HZ)

/-- The timing PLL takes oscillator k with phase build-out (R29, R30): OSC_SWITCH; the Timeline moves by at most 1 Tc, the
move itself a free value; in HOLDOVER the uncertainty grows by 1 Tc (R66) where a model carries on. -/
def oscTake (s : State) (k : Nat) (fromVco : Bool) : State :=
  let s := ((s.setFlag Reg.TL_OSC_STAT 2 (k == 1)).setFlag Reg.TL_OSC_STAT 3 false).raise blkTim 7
  let s := if s.tlState = tlHoldover ∧ !fromVco then setUnc s (s.ho.unc + 256 * 2 ^ 40) else s
  let d : Int := (s.free % 131073 : Nat) - 65536
  s.took.setTim { s.tim with tl := tlAdd s.tim.tl d }

/-- The active oscillator. -/
def oscActive (s : State) : Nat := s.fld Reg.TL_OSC_STAT 2 2

/-- OSC_LOST (R29): oscillator b is lost; the PLL switches to the other if that is good. -/
def execOscLost (b : Bool) (s : State) : Out :=
  let k := bit b
  let s := s.setFlag Reg.TL_OSC_STAT k false
  if s.tim.ckt ∧ oscActive s = k ∧ oscGood s (1 - k) then .next (oscTake s (1 - k) false) else .next s

/-- BOTH_OSC_LOST (R30, R67): the PLL holds its VCO; HOLDOVER_EXPIRED unless FREE, with U saturated. Before the PLL has
locked there is nothing to hold. -/
def execBothOscLost (s : State) : Out :=
  let s := s.setFld Reg.TL_OSC_STAT 1 0 0
  if s.tim.ckt then
    let s := (s.setFlag Reg.TL_OSC_STAT 3 true).raise blkTim 8
    if s.tlState = tlFree then .next s else .next (s.setTl tlExpired).hoSaturate
  else .next s

/-- OSC_GOOD_AGAIN (R30): oscillators a and b become good; on the VCO the PLL takes the one, or the preferred of both. -/
def execOscGoodAgain (a b : Bool) (s : State) : Out :=
  let a := a && oscNominal s 0 != 0
  let b := b && oscNominal s 1 != 0
  let s := if a then s.setFlag Reg.TL_OSC_STAT 0 true else s
  let s := if b then s.setFlag Reg.TL_OSC_STAT 1 true else s
  if s.flag Reg.TL_OSC_STAT 3 && (a || b) then
    .next (oscTake s (if a && b then s.fld Reg.TL_OSC_CFG 0 0 else bit b) true)
  else .next s

/-- OSC_REVERT (R29): with REVERT set, back to the preferred oscillator, good for 10 s. -/
def execOscRevert (s : State) : Out :=
  let p := s.fld Reg.TL_OSC_CFG 0 0
  if s.flag Reg.TL_OSC_CFG 1 ∧ s.tim.ckt ∧ !s.flag Reg.TL_OSC_STAT 3 ∧ oscActive s ≠ p ∧ oscGood s p then
    .next (oscTake s p false)
  else .next s

/-! References (R31…R39). -/

/-- Reference r is enabled. -/
def refEn (s : State) (r : Nat) : Bool := s.flag (Reg.TL_REF_CFG r) 0
/-- Reference r is qualified. -/
def refQual (s : State) (r : Nat) : Bool := s.flag (Reg.TL_REF_STAT r) 0

/-- The phase references that may be active: RELAY alone in SHADOW, the others elsewhere (R38). -/
def phaseRefs (s : State) : List Nat := if s.mode = mShadow then [4] else [0, 1, 2]

/-- The qualified and enabled phase references. -/
def refsUp (s : State) : List Nat := (phaseRefs s).filter (fun r => refQual s r && refEn s r)

/-- The active phase reference: the lowest PRIO, equal ones by the lower r (R39). -/
def activeRef (s : State) : Option Nat :=
  (refsUp s).foldl (fun best r => match best with
    | none => some r
    | some b => if s.fld (Reg.TL_REF_CFG r) 7 4 < s.fld (Reg.TL_REF_CFG b) 7 4 then some r else some b) none

/-- The active reference as TL_STATE reports it. -/
def State.refAct (s : State) : Option Nat :=
  if s.flag Reg.TL_STATE 7 then some (s.fld Reg.TL_STATE 6 4) else none

/-- TL_STATE and the ACTIVE bits of TL_REF_STAT brought up to date with the selection of R39; consecutive samples count
anew for a new active reference. -/
def refSettle (s : State) : State :=
  let new := activeRef s
  let s := if new = s.refAct then s else s.setTim { s.tim with lockRun := 0 }
  let s := (List.range 5).foldl (fun s r => s.setFlag (Reg.TL_REF_STAT r) 1 (new == some r)) s
  match new with
  | some r => (s.setFlag Reg.TL_STATE 7 true).setFld Reg.TL_STATE 6 4 r
  | none => s.setFlag Reg.TL_STATE 7 false

/-- The state transitions the loss of references brings (Table TLN-9): LOCKED to HOLDOVER with no active reference,
ACQUIRING to FREE with none qualified; a PTP reference that FORCE_ACQUIRE unqualified has not been lost. -/
def tlLose (s : State) : State :=
  if s.tlState = tlLocked ∧ s.refAct.isNone then s.setTl tlHoldover
  else if s.tlState = tlAcquiring ∧ (refsUp s).isEmpty ∧ !s.tim.requal then s.setTl tlFree
  else s

/-- A qualified phase reference takes FREE and HOLDOVER_EXPIRED to ACQUIRING (Table TLN-9); with both oscillators lost the
state stays (R30). -/
def tlGain (s : State) : State :=
  if (s.tlState = tlFree ∨ s.tlState = tlExpired) ∧ s.refAct.isSome ∧ !s.flag Reg.TL_OSC_STAT 3 then s.setTl tlAcquiring else s

/-- Reference r qualifies (R34, R36). -/
def refQualify (s : State) (r : Nat) : State :=
  let s := (s.setFlag (Reg.TL_REF_STAT r) 0 true).raise blkTim 2
  let s := if r = 2 then s.setTim { s.tim with requal := false } else s
  tlGain (refSettle s)

/-- Reference r is lost (Table TLN-4): REF_LOST, with REF_DISAGREE where its samples were rejected in LOCKED. -/
def refLose (s : State) (r : Nat) (dis : Bool) : State :=
  if refQual s r || (r == 2 && s.tim.requal) then
    let s := if dis then (s.setFlag (Reg.TL_REF_STAT r) 2 true).raise blkTim 4 else s
    let s := (s.setFlag (Reg.TL_REF_STAT r) 0 false).raise blkTim 3
    let s := if r = 2 then s.setTim { s.tim with requal := false } else s
    tlLose (refSettle s)
  else s

/-- LOS_CNT, 0 acting as 1 (Table TLN-12). -/
def losCnt (s : State) (r : Nat) : Nat := Nat.max 1 (s.fld (Reg.TL_REF_CFG r) 11 8)

/-- A sample's phase compensated by TL_REF_DLY (R32), in units of 2^-16 Tc. -/
def compensated (s : State) (r : Nat) (x : Int) : Int := x - signed 32 (s.regN (Reg.TL_REF_DLY r)) * 256

/-- A phase error in the format of R31. -/
def errWord (e : Int) : Nat := unsigned 32 (satSym 32 (e / 256))

/-- The window W of R33 in units of 2^-16 Tc: WIN, in HOLDOVER increased by the uncertainty. -/
def refWindow (s : State) : Nat :=
  s.fld Reg.TL_LOCK_CFG 23 16 * 128 * tcUnit + (if s.tlState = tlHoldover then s.regN Reg.HO_UNC * 256 else 0)

/-- The step threshold of the active reference (R41), in units of 2^-16 Tc. -/
def stepThr (s : State) (r : Nat) : Nat := s.fld (Reg.TL_REF_CFG r) 31 24 * 128 * tcUnit

/-- LOCK_THR in units of 2^-16 Tc. -/
def lockThr (s : State) : Nat := s.fld Reg.TL_LOCK_CFG 7 0 * tcUnit

/-- An accepted sample in ACQUIRING (R41): within LOCK_THR it counts, and after LOCK_CNT such samples, S confirmed, the
state becomes LOCKED. `sure` says the sample carries seconds. -/
def acquireSample (s : State) (r : Nat) (e : Int) (sure : Bool) : State :=
  if stepThr s r < e.natAbs then s.setTim { s.tim with lockRun := 0 }
  else
    let run := if e.natAbs ≤ lockThr s then s.tim.lockRun + 1 else 0
    let s := s.setTim { s.tim with lockRun := run, sSure := s.tim.sSure || sure }
    if s.tim.sSure ∧ 1 ≤ run ∧ 2 * s.fld Reg.TL_LOCK_CFG 15 8 ≤ run then s.setTl tlLocked else s

/-- An accepted sample of reference r with phase error e, seconds included where it carries them, after R32: the registers
and, for the active reference, the loop. The frequency estimate moves by what the loop decides (log entry 11), in LOCKED
and HOLDOVER by at most 1×10^-9 (R42). -/
def refSample (s : State) (r : Nat) (e : Int) (sure : Bool) : State :=
  let s := tlGain (s.setRegN (Reg.TL_REF_OFS r) (errWord e))
  if s.refAct = some r then
    let s := s.setRegN Reg.TL_PHASE_ERR (errWord e)
    let s := s.setTim { s.tim with err := some e, sSure := s.tim.sSure }
    if s.tlState = tlAcquiring then acquireSample (freqMove s 439804650) r e sure
    else if s.tlState = tlLocked then freqMove s 1099
    else s
  else s

/-! GNSS (R33…R35). -/

/-- What the reference path keeps of GNSS input r. -/
def gnssOf (s : State) (r : Nat) : Gnss := sget (fun _ => {}) s.tim.gnss r
/-- The state with it replaced. -/
def setGnss (s : State) (r : Nat) (g : Gnss) : State := s.setTim { s.tim with gnss := sput (fun _ => {}) s.tim.gnss r g }

/-- The nearest whole second of a time. -/
def nearSec (v : Int) : Int := (v + secUnit / 2) / secUnit

/-- The time-stamp of an edge at an offset in the present CKT cycle: 2^-6 Tc fine field (R54). -/
def stampAt (s : State) (ofs : Nat) : Nat := (s.tim.tl + ofs) / 1024 * 1024 % tlWrap

/-- A pulse missing or rejected (Table TLN-4): the reference is lost at LOS_CNT in a row. -/
def gnssBad (s : State) (r : Nat) (rejected : Bool) : State :=
  let g := gnssOf s r
  let s := setGnss s r { g with missing := g.missing + 1, run := 0 }
  if losCnt s r ≤ g.missing + 1 then refLose s r (rejected && s.tlState == tlLocked) else s

/-- The second that labels a pulse: the message that awaits it, else the count of seconds since the last labelled pulse. -/
def gnssLabel (g : Gnss) (v : Nat) : Option Nat :=
  match g.label, g.lastLab with
  | some l, _ => some l
  | none, some (p, l) => some ((l : Int) + nearSec ((v : Int) - p)).toNat
  | none, none => none

/-- An accepted pulse (R33, R34): the run of spacings of 1 s ± 1 µs, its label, qualification, and the sample. -/
def gnssAccept (s : State) (r v : Nat) : State :=
  let g := gnssOf s r
  let good := g.pulse.any (fun p => decide (((v : Int) - p - secUnit).natAbs ≤ secUnit / 1000000))
  let run := if good then g.run + 1 else 1
  let lab := gnssLabel g v
  let fresh := g.label.isSome
  let c := compensated s r v
  let e := match lab with
    | some l => c - l * secUnit
    | none => c - nearSec c * secUnit
  let s := setGnss s r { g with
    pulse := some v, run := run, missing := 0, label := none
    lastLab := match g.label with | some l => some (v, l) | none => g.lastLab }
  let s := if fresh then s.calCompare (lab.getD 0) else s
  let s := if 4 ≤ run ∧ fresh ∧ !refQual s r then refQualify s r else s
  refSample s r e lab.isSome

/-! Timestamp inputs (R54, R55); inputs 10 and above are the TLIO cells'. -/

/-- Timestamp input n. -/
def tsInput (s : State) (n : Nat) : TsInput := sget (fun _ => {}) s.tim.ins n
/-- The state with it replaced. -/
def setTsInput (s : State) (n : Nat) (i : TsInput) : State := s.setTim { s.tim with ins := sput (fun _ => {}) s.tim.ins n i }

/-- TSI_STAT's EMPTY and fill brought up to date. -/
def tsiStat (s : State) (n : Nat) : State :=
  if n < 10 then
    let k := (tsInput s n).fifo.length
    (s.setFlag (Reg.TSI_STAT n) 0 (k == 0)).setFld (Reg.TSI_STAT n) 5 1 k
  else s

/-- An input is enabled for an edge: EN and the EDGE code of TSI_CFG; a TLIO cell's always. -/
def tsiTakes (s : State) (n : Nat) (rising : Bool) : Bool :=
  if n < 10 then
    let e := s.fld (Reg.TSI_CFG n) 2 1
    s.flag (Reg.TSI_CFG n) 0 && (e == 2 || (e == 0 && rising) || (e == 1 && !rising))
  else true

/-- A selected edge captured at time v (R54, R55): missed within 16 Tc of the last captured, dropped on a full FIFO. -/
def tsiCapture (s : State) (n : Nat) (rising : Bool) (v : Nat) : State :=
  if !tsiTakes s n rising then s
  else
    let i := tsInput s n
    if i.last.any (fun p => decide (((v : Int) - p).natAbs < 16 * tcUnit)) then
      if n < 10 then s.addFld (Reg.TSI_STAT n) 31 16 1 else s
    else if 16 ≤ i.fifo.length then
      let s := setTsInput s n { i with last := some v }
      if n < 10 then (s.addFld (Reg.TSI_DROP n) 15 0 1).raise blkTim 13 else s.raise blkTim 13
    else
      let word := BitVec.ofNat 96 (tlFormat v + bit (!rising) * 2 ^ 47)
      tsiStat (setTsInput s n { fifo := i.fifo ++ [word], last := some v }) n

/-- GNSS_PPS_EDGE (R33): the edge is stamped by TSI_8 or TSI_9; the reference path takes the edge EDGE selects, and rejects
it outside the window in LOCKED and HOLDOVER. -/
def execGnssPpsEdge (r : Fin 2) (rising : Bool) (ofs : BitVec 18) (s : State) : Out :=
  if !s.tim.ckt then .next s
  else
    let v := stampAt s ofs.toNat
    let s := tsiCapture s (8 + r) rising v
    if !refEn s r ∨ s.flag (Reg.TL_REF_CFG r) 1 = rising then .next s
    else
      let c := compensated s r v
      let e := c - nearSec c * secUnit
      if (s.tlState = tlLocked ∨ s.tlState = tlHoldover) ∧ refWindow s < e.natAbs then
        .next (gnssBad ((s.addFld (Reg.TL_REF_STAT r) 31 16 1).raise blkTim 5) r true)
      else .next (gnssAccept s r v)

/-- GNSS_PULSE_MISSING (R33, Table TLN-4). -/
def execGnssPulseMissing (r : Fin 2) (s : State) : Out :=
  if refEn s r then .next (gnssBad s r false) else .next s

/-! Time of day (R35). -/

/-- The later of the last pulses of the two GNSS inputs. -/
def lastPulse (s : State) : Option Nat :=
  match (gnssOf s 0).pulse, (gnssOf s 1).pulse with
  | some a, some b => some (Nat.max a b)
  | some a, none => some a
  | none, b => b

/-- A label agrees with the pulses of an input: with the second counted from its last labelled pulse, `ahead` pulses on. -/
def labelFits (g : Gnss) (sec ahead : Nat) : Bool :=
  match g.pulse, g.lastLab with
  | some v, some (p, l) => decide ((sec : Int) = l + nearSec ((v : Int) - p) + ahead)
  | _, _ => true

/-- A valid label is taken: TL_TOD_S, the calendar's comparison, and each GNSS input that has pulses. -/
def todTake (s : State) (sec : Nat) : State :=
  s.setRegN Reg.TL_TOD_S_LO sec |>.setRegN Reg.TL_TOD_S_HI (sec / 2 ^ 32 % 2 ^ 16) |>.calCompare sec

/-- A BINARY message whose CRC, SYNC and VER are good (Table TLN-6): its UTC offset replaces a differing one, its leap notice
is passed on, and it labels the next pulse. -/
def todBinary (s : State) (m : List Byte) : State :=
  let flags := fieldBe m 3 1
  let sec := fieldBe m 4 6
  if !flags.testBit 0 then s
  else
    let gap := (lastPulse s).map (fun p => (s.tim.tl : Int) - p)
    let inTime := gap.any (fun d => decide ((secUnit / 10 : Int) ≤ d) && decide (d ≤ (secUnit * 9 / 10 : Int)))
    if !inTime ∨ !((List.range 2).all (fun r => labelFits (gnssOf s r) sec 1)) then s.raise blkTim 6
    else
      let ofs := fieldBe m 10 2
      let s := if s.fld Reg.CAL_UTC_OFS 15 0 = ofs then s else s.setRegN Reg.CAL_UTC_OFS ofs
      let s :=
        if flags.testBit 1 then
          let new := signed 16 ofs + (if flags.testBit 2 then -1 else 1)
          s.leapAdd (leapEffective sec (signed 16 ofs) new) (unsigned 16 new)
        else s
      let s := todTake s sec
      (List.range 2).foldl (fun s r => setGnss s r { gnssOf s r with label := some sec }) s

/-- A ZDA sentence labels the pulse before it (R35); the fourth good pulse so labelled qualifies its input (R34). -/
def todZda (s : State) (utc : Nat) : State :=
  let sec := ((utc : Int) + s.utcOfs).toNat
  if !((List.range 2).all (fun r => labelFits (gnssOf s r) sec 0)) then s.raise blkTim 6
  else
    let s := todTake s sec
    (List.range 2).foldl (fun s r =>
      let g := gnssOf s r
      match g.pulse with
      | none => s
      | some v =>
        let s := setGnss s r { g with lastLab := some (v, sec) }
        if 4 ≤ g.run ∧ !refQual s r ∧ refEn s r then refQualify s r else s) s

/-- TOD_MESSAGE (R35): a complete message on TOD_RXD in the format TL_TOD_CFG selects. -/
def execTodMessage (m : TodMsg) (s : State) : Out :=
  if !s.flag Reg.TL_TOD_CFG 5 then .next s
  else
    match m with
    | .binary l =>
      if s.flag Reg.TL_TOD_CFG 4 then .next s
      else if l.length ≠ 16 ∨ crc16 (l.take 14) ≠ fieldBe l 14 2 ∨ fieldBe l 0 2 ≠ 0x4B54 then .next (s.raise blkTim 6)
      else if fieldBe l 2 1 ≠ 1 then .next s
      else .next (todBinary s l)
    | .zda utc good =>
      if !s.flag Reg.TL_TOD_CFG 4 then .next s
      else if good then .next (todZda s utc) else .next (s.raise blkTim 6)
    | .other => .next s

/-! PTP (R36) and SyncE (R37). -/

/-- An accepted PTP sample: a sample carrying seconds qualifies an unqualified reference. -/
def ptpAccept (s : State) (e : Int) (secs : Bool) : State :=
  let s := if secs ∧ !refQual s 2 then refQualify s 2 else s
  refSample s 2 e secs

/-- TL_PTP_MEAS (R36). -/
def execTlPtpMeas (value : BitVec 32) (s : State) : Out :=
  let fresh := s.tim.ptpFresh
  let s := s.setTim { s.tim with ptpFresh := false }
  if !refEn s 2 then .next s
  else if value = 0x80000000#32 then .next (refLose s 2 false)
  else
    let e := compensated s 2 (value.toInt * 256)
    if fresh then
      let sec := s.regN Reg.TL_PTP_S_LO + s.fld Reg.TL_PTP_S_HI 15 0 * 2 ^ 32
      let s := s.calCompare sec
      if (s.tlState = tlLocked ∨ s.tlState = tlHoldover) ∧ sec ≠ tlS s.tim.tl then
        .next ((s.setFlag (Reg.TL_REF_STAT 2) 2 true).addFld (Reg.TL_REF_STAT 2) 31 16 1 |>.raise blkTim 4)
      else .next (ptpAccept s (e + (((s.tim.tl : Int) - e) / secUnit - sec) * secUnit) true)
    else .next (ptpAccept s e false)

/-- TL_PTP_S_HI (R36). -/
def execTlPtpSHi (value : BitVec 32) (s : State) : Out :=
  let s := s.setRegN Reg.TL_PTP_S_HI (value.toNat % 2 ^ 16)
  .next (s.setTim { s.tim with ptpFresh := true })

/-- PTP_TIMEOUT (R36). -/
def execPtpTimeout (s : State) : Out := if refEn s 2 then .next (refLose s 2 false) else .next s

/-- SYNCE_LOSS (R37): the frequency reference is lost; the Timeline state does not change. -/
def execSynceLoss (s : State) : Out :=
  if refQual s 3 then .next ((s.setFlag (Reg.TL_REF_STAT 3) 0 false).raise blkTim 3) else .next s

/-! Steps (R41…R46). -/

/-- A periodic output continues on its Timeline grid after a step (R46): its next edge is the next of its kind. -/
def regrid (s : State) (n : Nat) (o : TimedOut) : TimedOut :=
  match o.nextEdge with
  | none => o
  | some t =>
    let per := s.regN (Reg.TO_PERIOD n)
    let now := s.tim.tl / tcUnit
    if per = 0 then o else { o with nextEdge := some (now + (t + per * (now / per + 1) - now) % per) }

/-- A running FSYN's anchor shifted by a step (R46, R57), with the registers that report it. -/
def fsynShift (s : State) (d : Int) (n : Nat) : State :=
  let f := sget (fun _ => ({} : Fsyn)) s.tim.fsyns n
  if s.flag (Reg.FSYN_CTL n) 1 then
    let a := tlAdd f.anchor d
    let s := s.setTim { s.tim with fsyns := sput (fun _ => {}) s.tim.fsyns n { f with anchor := a } }
    (s.setRegN (Reg.FSYN_ANCHOR_S n) (tlS a)).setRegN (Reg.FSYN_ANCHOR_T n) (tlT a)
  else s

/-- A step applied at the next tick boundary (R44…R46): the Timeline, the running anchors and grids, then the correction
event. -/
def applyStep (s : State) (d : Int) : State :=
  let old := s.pt
  let s := s.setTim { s.tim with tl := tlAdd ((s.tim.tl / tickUnit + 1) * tickUnit) d }
  let s := (List.range 24).foldl (fun s n => fsynShift s d n) s
  let s := s.setTim { s.tim with outs := s.tim.outs.map (fun e => if e.1 < 8 then (e.1, regrid s e.1 e.2) else e) }
  let s := s.setTim { s.tim with
    gnss := s.tim.gnss.map (fun e => (e.1, { e.2 with pulse := none, lastLab := none })), lockRun := 0 }
  s.correction old d

/-- AUTO_STEP (R41 step 2): in ACQUIRING an error above the active reference's threshold is stepped out at the next tick
boundary, S with it where the sample carried seconds. -/
def execAutoStep (s : State) : Out :=
  match s.refAct, s.tim.err with
  | some r, some e =>
    if s.tlState = tlAcquiring ∧ stepThr s r < e.natAbs then
      let s := s.setTim { s.tim with err := none }
      .next (applyStep s (-e))
    else .next s
  | _, _ => .next s

/-- HOLDOVER_REQUALIFY (Table TLN-9): a phase reference qualified for REQ_TIME seconds within the window. -/
def execHoldoverRequalify (s : State) : Out :=
  match s.refAct with
  | some r =>
    if s.tlState = tlHoldover ∧ (signed 32 (s.regN (Reg.TL_REF_OFS r)) * 256).natAbs ≤ refWindow s then
      .next (s.setTl tlLocked)
    else .next s
  | none => .next s

/-- CAPTURE (Table TLN-12). -/
def execCapture (s : State) : Out :=
  let v := tlFormat s.tim.tl
  let s := (s.setRegN Reg.TL_SNAP_LO v).setRegN Reg.TL_SNAP_MID (v / 2 ^ 32)
  .next ((s.setRegN Reg.TL_SNAP_HI (v / 2 ^ 64)).setRegN Reg.TL_SNAP_FPOS (framePos s.tim.tl (s.fld Reg.TL_NUMER 2 0)))

/-- The offset that TL_STEP_HI, TL_STEP_LO and TL_STEP_FRAC hold (R44), in units of 2^-16 Tc. -/
def stepOffset (s : State) : Int :=
  signed 64 (s.regN Reg.TL_STEP_LO + s.regN Reg.TL_STEP_HI * 2 ^ 32) * 65536 + s.fld Reg.TL_STEP_FRAC 15 0

/-- A forced step accepted (R43, R44): its offset is held until the boundary. -/
def State.forceStep (s : State) (d : Int) : State :=
  (s.setTim { s.tim with pend := some ⟨d⟩ }).setFlag Reg.TL_STATE 8 true

/-- FORCE_STEP (R43, R44). -/
def execForceStep (s : State) : Out :=
  if s.muted ∧ s.tim.pend.isNone then .next (s.forceStep (stepOffset s)) else .next (s.raise blkTim 9)

/-- FORCE_ACQUIRE (R36, R43, Table TLN-9): any state but FREE becomes ACQUIRING; a PTP reference loses its qualification
without REF_LOST; with no phase reference left the state goes on to FREE. -/
def execForceAcquire (s : State) : Out :=
  if s.muted then
    let ptp := refQual s 2
    let s := if ptp then (s.setFlag (Reg.TL_REF_STAT 2) 0 false).setTim { s.tim with requal := true } else s
    let s := refSettle s
    if s.tlState = tlFree then .next s else .next (tlLose (s.setTl tlAcquiring))
  else .next (s.raise blkTim 9)

/-- REQUALIFY (Table TLN-12). -/
def execRequalify (s : State) : Out :=
  .next ((List.range 5).foldl (fun s r => s.setFlag (Reg.TL_REF_STAT r) 2 false) s)

/-- STEP_APPLY (R44): the pending step at the tick boundary; the state becomes ACQUIRING unless it was FREE. -/
def execStepApply (s : State) : Out :=
  match s.tim.pend with
  | none => .next s
  | some p =>
    let s := (s.setTim { s.tim with pend := none }).setFlag Reg.TL_STATE 8 false
    let s := applyStep s p.offset
    if s.tlState = tlFree then .next s else .next (tlLose (s.setTl tlAcquiring))

end Sys2Proof.Machine
end

