-- ==== Sys2Proof/Machine/TimedIo.lean ====
section
/-! DEFINITION. Timed outputs, PPS_OUT, timestamp inputs and the fractional synthesisers (R48…R58). -/

namespace Sys2Proof.Machine

/-- A timed output is enabled: TO_CTL.EN; a TLIO cell's always. -/
def toEn (s : State) (n : Nat) : Bool := 8 ≤ n || s.flag (Reg.TO_CTL n) 0

/-- A timed output is in PERIODIC mode. -/
def toPeriodic (s : State) (n : Nat) : Bool := decide (n < 8) && s.flag (Reg.TO_CTL n) 1

/-- The pad a level reaches: with OUT_TO_GATE set and G closed the edge is not driven and the pad is idle (R510). -/
def padLevel (s : State) (n : Nat) (level : Bool) : Bool :=
  if n < 8 ∧ s.flag Reg.OUT_TO_GATE n ∧ !s.gOpen then s.flag (Reg.TO_CTL n) 2 else level

/-- TO_EDGE_T_WRITE (R49). -/
def execToEdgeTWrite (n : Fin 8) (value : BitVec 32) (s : State) : Out :=
  .next (s.pushEntry n (s.regN (Reg.TO_EDGE_S n)) (bitsOf value.toNat 30 0) (value.getLsbD 31))

/-- PERIODIC may be enabled (R52): PERIOD and WIDTH at least 8 Tc, WIDTH less than PERIOD. -/
def periodicOk (s : State) (n : Nat) : Bool :=
  let p := s.regN (Reg.TO_PERIOD n)
  let w := s.regN (Reg.TO_WIDTH n)
  decide (8 ≤ p) && decide (8 ≤ w) && decide (w < p)

/-- TO_CTL_WRITE (R49, R52): clearing EN empties the queue and idles the pad; an ill-sized PERIODIC is refused. -/
def execToCtlWrite (n : Fin 8) (value : BitVec 32) (s : State) : Out :=
  let a := Reg.TO_CTL n
  let en := value.getLsbD 0
  let per := value.getLsbD 1
  if en && per && !(s.flag a 0 && s.flag a 1) && !periodicOk s n then .next (s.raise blkTim 11)
  else
    let was := s.flag a 0
    let s := s.setReg a (value &&& 7#32)
    let o := s.tout n
    let idle := value.getLsbD 2
    if !en then
      if was then .next (s.setTout n { pad := idle }) else .next (s.setTout n { o with pad := idle })
    else if !was then .next (s.setTout n { o with pad := idle })
    else if !per then .next (s.setTout n { o with nextEdge := none, up := false })
    else .next s

/-- TO_ENTRY_HEAD (R49, R51, R52): the head is scheduled, or late when under 128 Tc remain; in PERIODIC mode it starts the
pattern. -/
def execToEntryHead (n : Fin 872) (s : State) : Out :=
  let o := s.tout n
  match o.queue with
  | [] => .next s
  | e :: r =>
    if !toEn s n ∨ o.headOk ∨ (toPeriodic s n ∧ o.nextEdge.isSome) then .next s
    else if e.time * tcUnit < s.tim.tl + 128 * tcUnit then .next ((s.setTout n { o with queue := r }).raise blkTim 10)
    else if toPeriodic s n then .next (s.setTout n { o with queue := r, nextEdge := some e.time, up := false })
    else .next (s.setTout n { o with headOk := true })

/-- The entries from the head that share a time: they apply in the same Tc and the last one's level shows (R50). -/
def sameTime (t : Nat) : List TimedEntry → Bool → Bool × List TimedEntry
  | [], l => (l, [])
  | e :: r, l => if e.time = t then sameTime t r e.level else (l, e :: r)

/-- TO_EDGE_APPLY (R48, R50): the scheduled head at its time. -/
def execToEdgeApply (n : Fin 872) (s : State) : Out :=
  let o := s.tout n
  match o.queue with
  | [] => .next s
  | e :: r =>
    if o.headOk ∧ toEn s n ∧ e.time * tcUnit ≤ s.tim.tl then
      let (level, rest) := sameTime e.time r e.level
      .next (s.setTout n { o with queue := rest, headOk := false, pad := padLevel s n level })
    else .next s

/-- TO_PERIODIC_EDGE (R52): the pattern's next edge at its time, a fall TO_WIDTH after a rise, a rise TO_PERIOD after the
last. -/
def execToPeriodicEdge (n : Fin 8) (s : State) : Out :=
  let o := s.tout n
  match o.nextEdge with
  | none => .next s
  | some t =>
    if toEn s n ∧ t * tcUnit ≤ s.tim.tl then
      if o.up then
        .next (s.setTout n { o with up := false, nextEdge := some (o.rise + s.regN (Reg.TO_PERIOD n)), pad := padLevel s n false })
      else
        .next (s.setTout n { o with up := true, rise := t, nextEdge := some (t + s.regN (Reg.TO_WIDTH n)), pad := padLevel s n true })
    else .next s

/-- PPS_OUT pulses in the present state (R53). -/
def ppsOn (s : State) : Bool :=
  s.flag Reg.PPS_OUT_CFG 0 && (s.tlState == tlLocked || s.tlState == tlHoldover || s.flag Reg.PPS_OUT_CFG 1)

/-- PPS_OUT_EDGE (R53): the level of PPS_OUT at the present Timeline. -/
def execPpsOutEdge (s : State) : Out :=
  let ph := (tlT s.tim.tl + secTc - s.fld Reg.PPS_OUT_OFS 30 0 % secTc) % secTc
  .next (s.setTim { s.tim with ppsPin := ppsOn s && decide (ph < s.fld Reg.PPS_OUT_WIDTH 30 0) })

/-- TLIO_ENTRY_PUSH (R49). -/
def execTlioEntryPush (cell : Fin 864) (sec : BitVec 32) (tc : BitVec 31) (level : Bool) (s : State) : Out :=
  .next (s.pushEntry (8 + cell) sec.toNat tc.toNat level)

/-- The answer number that stands for user I/O cell c's own primitive ports (log entry 9). -/
def cellPins (c : Nat) : Nat := 2048 + c

/-- TLIO_TS_POP (R54): the oldest timestamp goes to the fabric. -/
def execTlioTsPop (cell : Fin 864) (s : State) : Out :=
  let i := tsInput s (10 + cell)
  match i.fifo with
  | [] => .next s
  | t :: r => .next ((setTsInput s (10 + cell) { i with fifo := r }).answer (cellPins cell) 0 [t.toNat])

/-- TSI_EDGE_CAPTURE (R54, R55). -/
def execTsiEdgeCapture (n : Fin 874) (rising : Bool) (ofs : BitVec 18) (s : State) : Out :=
  .next (tsiCapture s n rising (stampAt s ofs.toNat))

/-- TSI_HI_READ (R56): the last word of the head, and a normal read pops it. -/
def execTsiHiRead (n : Fin 10) (init : Fin 512) (s : State) : Out :=
  let i := tsInput s n
  match i.fifo with
  | [] => .next (s.answer init 0 [0])
  | t :: r =>
    let s := s.answer init 0 [t.toNat / 2 ^ 64]
    if init.val = debugInit then .next s else .next (tsiStat (setTsInput s n { i with fifo := r }) n)

/-- A synthesiser beside its registers. -/
def fsynOf (s : State) (n : Nat) : Fsyn := sget (fun _ => {}) s.tim.fsyns n
/-- The state with it replaced. -/
def setFsyn (s : State) (n : Nat) (f : Fsyn) : State := s.setTim { s.tim with fsyns := sput (fun _ => {}) s.tim.fsyns n f }

/-- NUM and DEN give an output between 10 MHz and 1.65 GHz (R58). -/
def fsynRange (s : State) (n : Nat) : Bool :=
  let num := s.fld (Reg.FSYN_NUM n) 15 0
  let den := s.fld (Reg.FSYN_DEN n) 19 0
  decide (10000000 * den ≤ 1966080000 * num) && decide (1966080000 * num ≤ 1650000000 * den) && decide (den ≠ 0)

/-- The anchor the registers name (R57), S[47:32] from the present Timeline. -/
def fsynAnchor (s : State) (n : Nat) : Nat :=
  entryTime s (s.regN (Reg.FSYN_ANCHOR_S n)) (s.fld (Reg.FSYN_ANCHOR_T n) 30 0) * tcUnit

/-- A synthesiser enabled and armed at an anchor (R57). -/
def fsynArmAt (s : State) (n anchor : Nat) : State :=
  setFsyn (s.setRegN (Reg.FSYN_CTL n) 1) n { armed := true, anchor := anchor }

/-- FSYN_START (R57): the first CKT edge at or after the anchor; a past anchor starts at the next edge and the edge's time is
written back. -/
def execFsynStart (n : Fin 24) (s : State) : Out :=
  let f := fsynOf s n
  let edge := if f.anchor = s.tim.tl then s.tim.tl else s.tim.tl + cktUnit
  if f.armed ∧ f.anchor ≤ edge then
    let s := setFsyn (s.setRegN (Reg.FSYN_CTL n) 7) n { armed := false, anchor := edge }
    .next ((s.setRegN (Reg.FSYN_ANCHOR_S n) (tlS edge)).setRegN (Reg.FSYN_ANCHOR_T n) (tlT edge))
  else .next s

/-- FSYN_UNLOCK (R60). -/
def execFsynUnlock (n : Fin 24) (s : State) : Out := .next ((s.setFlag (Reg.FSYN_CTL n) 2 false).raise blkTim 15)

end Sys2Proof.Machine
end

