-- ==== Sys2Proof/Machine/CanterBank.lean ====
section
/-! DEFINITION. One Canter bank: what a bundle reads, the writes it owes, rounding, the sequence of bundles (R151…R166). -/

namespace Sys2Proof.Machine

/-! Registers as a bundle reads them. -/

/-- RRB, the rotating register base. -/
def Bank.rrb (b : Bank) : Nat := bitsOf b.status.toNat 7 4
/-- RM, the rounding mode. -/
def Bank.rm (b : Bank) : Nat := bitsOf b.status.toNat 1 0
/-- The bank with a STATUS field replaced. -/
def Bank.setStatus (b : Bank) (hi lo v : Nat) : Bank := { b with status := BitVec.ofNat 32 (putBits b.status.toNat hi lo v) }

/-- The physical register a logical one names (R165). -/
def Bank.phys (b : Bank) (n : Nat) : Nat := if n < 16 then n else 16 + (n - 16 + b.rrb) % 16
/-- A data register's visible value by physical number. -/
def Bank.dPhys (b : Bank) (i : Nat) : BitVec 32 := sget (fun _ => 0) b.d i
/-- A data register's visible value by logical number. -/
def Bank.dReg (b : Bank) (n : Nat) : BitVec 32 := b.dPhys (b.phys n)
/-- The real component of a complex value. -/
def reOf (v : BitVec 32) : Int := signed 16 v.toNat
/-- The imaginary component of a complex value. -/
def imOf (v : BitVec 32) : Int := signed 16 (v.toNat / 2 ^ 16)
/-- A complex value of two components, low 16 bits kept. -/
def cplx (re im : Int) : Nat := unsigned 16 re + unsigned 16 im * 2 ^ 16
/-- An address register's visible value. -/
def Bank.pReg (b : Bank) (n : Nat) : Nat := (sget (fun _ => (0 : BitVec 48)) b.p n).toNat
/-- A step register's visible value. -/
def Bank.mReg (b : Bank) (n : Nat) : BitVec 16 := sget (fun _ => 0) b.m n
/-- A size code's visible value. -/
def Bank.lReg (b : Bank) (n : Nat) : BitVec 4 := sget (fun _ => 0) b.l n

/-- The place of an accumulator component. -/
def accIx (k : Nat) (im : Bool) : Nat := 2 * k + bit im
/-- An accumulator component under the latency of 4 (R160). -/
def Bank.accVis (b : Bank) (k : Nat) (im : Bool) : Int := signed 48 (sget (fun _ => (0 : BitVec 48)) b.accs (accIx k im)).toNat
/-- An accumulator component as its own-destination adders read it: every earlier-issued write of it (R160). -/
def Bank.accOwn (b : Bank) (k : Nat) (im : Bool) : Int :=
  match (b.owed.filter (fun w => w.dest == .acc k im && w.issued < b.cycle)).foldl
      (fun (best : Option PendWrite) w => match best with
        | none => some w
        | some x => if x.issued < w.issued ∨ (x.issued = w.issued ∧ x.rank < w.rank) then some w else some x) none with
  | some w => signed 48 w.val
  | none => b.accVis k im

/-! Writes. Ranks order writes of one bundle that land together (R162). -/

/-- The control slot's rank. -/
def rCtl : Nat := 0
/-- The C slot's rank. -/
def rC : Nat := 1
/-- The Y slot's rank. -/
def rY : Nat := 2
/-- The X slot's rank. -/
def rX : Nat := 3
/-- The MAC slot's rank. -/
def rMac : Nat := 4

/-- A write owed with a latency (R160, Table CAN-7). -/
def Bank.owe (b : Bank) (lat rank : Nat) (dest : Dest) (val : Nat) : Bank :=
  { b with owed := b.owed ++ [{ vis := b.cycle + lat, issued := b.cycle, rank := rank, dest := dest, val := val }] }

/-- A write landing in the visible registers. -/
def Bank.land (b : Bank) (w : PendWrite) : Bank :=
  match w.dest with
  | .d i => { b with d := sput (fun _ => 0) b.d i (BitVec.ofNat 32 w.val) }
  | .acc k im => { b with accs := sput (fun _ => 0) b.accs (accIx k im) (BitVec.ofNat 48 w.val) }
  | .p i => { b with p := sput (fun _ => 0) b.p i (BitVec.ofNat 48 w.val) }
  | .m i => { b with m := sput (fun _ => 0) b.m i (BitVec.ofNat 16 w.val) }
  | .l i => { b with l := sput (fun _ => 0) b.l i (BitVec.ofNat 4 w.val) }

/-- One owed write lands before another: earlier visible, then earlier issued, then lower rank (R162). -/
def landsBefore (a b : PendWrite) : Bool :=
  decide (a.vis < b.vis) || (a.vis == b.vis && (decide (a.issued < b.issued) || (a.issued == b.issued && decide (a.rank ≤ b.rank))))

/-- Every write whose latency has elapsed lands. -/
def Bank.catchUp (b : Bank) : Bank :=
  let due := b.owed.filter (fun w => decide (w.vis ≤ b.cycle))
  { (sortBy landsBefore due).foldl Bank.land b with owed := b.owed.filter (fun w => decide (b.cycle < w.vis)) }

/-- The STATUS flags and the rounding mode that the last bundle owed (R160). -/
def Bank.takeFlags (b : Bank) : Bank :=
  let b := { b with status := b.status ||| b.flags, flags := 0 }
  match b.rmNext with
  | some r => { b.setStatus 1 0 r with rmNext := none }
  | none => b

/-- Every owed write lands: issue has stopped, the pipeline drains (R161). -/
def Bank.drain (b : Bank) : Bank := { ((sortBy landsBefore b.owed).foldl Bank.land b).takeFlags with owed := [] }

/-- A write of an accumulator component by its exact result: kept modulo 2^48, VF set outside 48 bits (R154). -/
def Bank.accWrite (b : Bank) (rank k : Nat) (im : Bool) (v : Int) : Bank :=
  let b := b.owe 4 rank (.acc k im) (unsigned 48 v)
  if satInt 48 v = v then b else { b with flags := b.flags ||| BitVec.ofNat 32 (2 ^ (8 + k)) }

/-- A data register written by logical number. -/
def Bank.dWrite (b : Bank) (lat rank n v : Nat) : Bank := b.owe lat rank (.d (b.phys n)) v

/-! Rounding (R155, R156), the only rounding rules of the device. -/

/-- TRUNC(v, s). -/
def roundTrunc (v : Int) (s : Nat) : Int := v / 2 ^ s
/-- HALF_UP(v, s). -/
def roundHalfUp (v : Int) (s : Nat) : Int := if s = 0 then v else (v + 2 ^ (s - 1)) / 2 ^ s
/-- A shift under a rounding mode (R156): `final` selects the last column of its table. -/
def roundBy (rm : Nat) (final : Bool) (v : Int) (s : Nat) : Int :=
  if rm = 1 ∨ (rm = 2 ∧ final) then roundHalfUp v s else roundTrunc v s

/-! Addresses (R152). -/

/-- The word index an address register names in memory 0 X, 1 Y or 2 C. -/
def wordIx (mem p : Nat) : Nat := if mem = 2 then bitsOf p 13 2 else bitsOf p 14 2
/-- The words of a local memory. -/
def memWords (mem : Nat) : Nat := if mem = 2 then 4096 else 8192

/-- An address register after its post-modification (R152). -/
def Bank.postMod (b : Bank) (n : Nat) : Nat :=
  let p := b.pReg n
  let e := (b.lReg n).toNat
  if 3 ≤ e then p / 2 ^ e * 2 ^ e + unsigned e ((p % 2 ^ e : Nat) + (b.mReg n).toInt) else unsigned 48 (p + (b.mReg n).toInt)

/-! The sequence of bundles (R163…R166). -/

/-- A bundle index lies in a loop's body. -/
def Loop.holds (l : Loop) (i : Nat) : Bool := decide (l.start ≤ i) && decide (i ≤ l.stop)

/-- One loop at the issue of its last bundle: the count falls, and control returns until it reaches zero. -/
def loopEnd (l : Loop) : Loop × Bool :=
  let n := l.count - 1
  ({ l with count := n, active := decide (0 < n) }, decide (0 < n))

/-- A loop ends here. -/
def Loop.endsAt (l : Loop) (pc : Nat) : Bool := l.active && l.stop == pc

/-- Loop 0 is the inner of two loops: it starts later, or at the same bundle with the shorter body. -/
def innerFirst (a b : Loop) : Bool := decide (b.start < a.start) || (a.start == b.start && decide (a.stop ≤ b.stop))

/-- Both loops at an issue (R164): the inner one first, the outer only where the inner does not go back. Answers the loops,
the bundle control returns to, and the rotations owed. -/
def loopsAt (a b : Loop) (pc : Nat) : Loop × Loop × Option Nat × Nat :=
  let one := fun (l : Loop) =>
    if l.endsAt pc then let (l', back) := loopEnd l; (l', if back then some l.start else none, bit l.rot) else (l, none, 0)
  if innerFirst a b then
    let (a', ja, ra) := one a
    match ja with
    | some j => (a', b, some j, ra)
    | none => let (b', jb, rb) := one b; (a', b', jb, ra + rb)
  else
    let (b', jb, rb) := one b
    match jb with
    | some j => (a, b', some j, rb)
    | none => let (a', ja, ra) := one a; (a', b', ja, ra + rb)

/-- A loop that a taken branch leaves ends, its count zero (R163). -/
def leaveLoop (l : Loop) (target : Nat) : Loop := if l.active && !l.holds target then { l with active := false, count := 0 } else l

/-- Rotations owed by the last bundle take effect (R165). -/
def Bank.rotate (b : Bank) : Bank := { b.setStatus 7 4 (b.rrb + 16 * b.rots - b.rots) with rots := 0 }

/-- A bundle issues: one cycle passes, or more after a stall, which drains the pipeline (R161); owed writes land, rotations
apply, and the loops and a branch's delay bundles decide which bundle follows. -/
def Bank.issue (b : Bank) : Bank :=
  let b := if 0 < b.stall then { b.drain with cycle := b.cycle + b.stall, stall := 0 } else b
  let b := Bank.catchUp { b.takeFlags.rotate with cycle := b.cycle + 1, pc := b.nextPc }
  let (l0, l1, back, rots) := loopsAt b.loop0 b.loop1 b.pc
  let b := { b with loop0 := l0, loop1 := l1, rots := rots, nextPc := back.getD (b.pc + 1), delay := b.branch.isSome }
  match b.branch with
  | some (2, t) => { b with branch := some (1, t) }
  | some (_, some t) => { b with branch := none, nextPc := t, loop0 := leaveLoop b.loop0 t, loop1 := leaveLoop b.loop1 t }
  | _ => { b with branch := none }

/-- The active bodies that hold the bundle at hand hold bundles lo…hi wholly (R159). -/
def Bank.bodyFits (b : Bank) (lo hi : Nat) : Bool :=
  [b.loop0, b.loop1].all (fun l => !(l.active && l.holds b.pc) || (l.holds lo && l.holds hi))

/-- The bundle at hand is one of the last two of an active body (R159). -/
def Bank.nearEnd (b : Bank) : Bool :=
  [b.loop0, b.loop1].any (fun l => l.active && l.holds b.pc && decide (l.stop - b.pc < 2))

end Sys2Proof.Machine
end

