-- ==== Sys2Proof/Machine/Fabric.lean ====
section
/-! DEFINITION. The fabric's cells, Stalls, routing and Blinkers (R180…R201) and its frame map (R229…R232, R581). -/

namespace Sys2Proof.Machine

/-- The state with the fabric replaced. -/
def State.setFab (s : State) (f : Fabric) : State := { s with fab := f }

/-! Frames (R229…R231). A tile is numbered 256p + 16tr + tc, a Stall 16 × tile + s, a cell 16 × Stall + i. -/

/-- Paddocks. -/
def paddocks : Nat := 144
/-- Frames of a Paddock. -/
def padFrames : Nat := 9216
/-- Logic frames of a Paddock (R230). -/
def logicFrames : Nat := 6912
/-- Frames of the device. -/
def allFrames : Nat := 1327104

/-- A stored frame. -/
def frameOf (s : State) (fa : Nat) : FrameWord := sget (fun _ => {}) s.fab.frames fa
/-- The state with a frame replaced. -/
def setFrame (s : State) (fa : Nat) (w : FrameWord) : State :=
  s.setFab { s.fab with frames := sput (fun _ => {}) s.fab.frames fa w }
/-- The frame j of a tile. -/
def tileFrame (t j : Nat) : Nat := t / 256 * padFrames + 27 * (t % 256) + j
/-- The Paddock, tile row and tile column of a tile. -/
def padOf (t : Nat) : Nat := t / 256
/-- The tile row. -/
def tRow (t : Nat) : Nat := t / 16 % 16
/-- The tile column. -/
def tCol (t : Nat) : Nat := t % 16
/-- The tile of a Paddock at a row and column. -/
def tileAt (p tr tc : Nat) : Nat := 256 * p + 16 * tr + tc

/-- Bit o of a row of Table LDR-1 that begins at frame j of a tile. -/
def cfgBit (s : State) (t j o : Nat) : Bool := (frameOf s (tileFrame t (j + o / 2048))).data.getLsbD (o % 2048)
/-- The w bits from o. -/
def cfgBits (s : State) (t j o w : Nat) : Nat := ((List.range w).map (fun i => bit (cfgBit s t j (o + i)) * 2 ^ i)).sum

/-- The cell word (R182). -/
def cellWord (s : State) (c : Nat) : Nat :=
  let st := c / 16 % 16
  cfgBits s (c / 256) (st / 4) (32 * (16 * (st % 4) + c % 16)) 32
/-- The crossbar select of pin k of a cell (R187). -/
def xbarSel (s : State) (c k : Nat) : Nat := cfgBits s (c / 256) 4 (7 * (128 * (c / 16 % 16) + 8 * (c % 16) + k)) 7
/-- The select of a Stall input (R188). -/
def siSel (s : State) (st n : Nat) : Nat := cfgBits s (st / 16) 11 (4 * (64 * (st % 16) + n)) 4
/-- The w bits from o of a Stall word (R186): STCK_0…3, then CINSEL. -/
def stallBits (s : State) (st o w : Nat) : Nat := cfgBits s (st / 16) 13 (64 * (st % 16) + o) w
/-- Tap k of a Paddock: the tree it names (R224). -/
def tapSel (s : State) (p k : Nat) : Nat := cfgBits s (tileAt p 0 0) 13 (1792 + 6 * k) 6
/-- A segment driver's select (R189): direction 0 N, 1 E, 2 S, 3 W. -/
def segSel (s : State) (t len d i : Nat) : Nat :=
  cfgBits s t 14 (if len = 1 then 5 * (32 * d + i) else if len = 2 then 640 + 5 * (16 * d + i) else 960 + 5 * (16 * d + i)) 5
/-- DE of a long line's driver at a tile (R191). -/
def lineDe (s : State) (t l : Nat) : Bool := cfgBit s t 13 (1024 + 6 * l)
/-- Its source select. -/
def lineSel (s : State) (t l : Nat) : Nat := cfgBits s t 13 (1025 + 6 * l) 5
/-- The w bits from o of block slot k at a tile (R231). -/
def slotBits (s : State) (t k o w : Nat) : Nat := cfgBits s t (15 + 6 * k) o w

/-! Hard blocks (R202, R218, R292). -/

/-- A hard block by its global number. -/
inductive Block where
  | bm (m : Nat)
  | slice (n : Nat)
  | hitch (h : Nat)
  | dict (p : Nat)
  | router (p : Nat)
  | conv (n : Nat)
  deriving DecidableEq, Repr

/-- A Paddock has a fourth hitch port: rows 2…9 and columns 1…10 (R218). -/
def fourth (p : Nat) : Bool := 2 ≤ p / 12 && p / 12 ≤ 9 && 1 ≤ p % 12 && p % 12 ≤ 10
/-- Hitch port i of a Paddock. -/
def hitchOf (p i : Nat) : Nat := if i < 3 then 3 * p + i else 432 + (p / 12 - 2) * 10 + (p % 12 - 1)

/-- The converter port of a tile (R376, Table LNE-7), if any. -/
def convAt (t : Nat) : Option Nat :=
  let p := padOf t
  if 2 ≤ p / 12 ∧ p / 12 < 10 then
    if p % 12 = 0 ∧ tCol t = 1 then some (2 * (p / 12 - 2) + tRow t / 8)
    else if p % 12 = 11 ∧ tCol t = 15 then some (16 + 2 * (p / 12 - 2) + tRow t / 8)
    else none
  else none

/-- The first tile of a converter port. -/
def convTile (n : Nat) : Nat :=
  if n < 16 then tileAt (12 * (2 + n / 2)) (8 * (n % 2)) 1 else tileAt (12 * (2 + (n - 16) / 2) + 11) (8 * (n % 2)) 15

/-- The blocks attached to a tile, in the row order of Table BMC-1: slot 0 holds the first (R231, R292); a converter port stands
behind the block memory (R376). -/
def attached (t : Nat) : List Block :=
  let p := padOf t
  let r := tRow t
  let c := tCol t
  (if c % 2 = 1 then [.bm (64 * p + 8 * (c / 2) + r / 2)] else [])
    ++ (if c % 2 = 0 ∧ 2 ≤ c ∧ c ≤ 12 then [.slice (96 * p + 16 * (c / 2 - 1) + r)] else [])
    ++ (if (c = 0 ∨ c = 14) ∧ (r / 4 < 3 ∨ fourth p) then [.hitch (hitchOf p (r / 4))] else [])
    ++ (if c = 14 ∧ 14 ≤ r then [.dict p] else [])
    ++ (if c = 0 then [.router p] else [])
    ++ (match convAt t with | some n => [.conv n] | none => [])

/-- The tree a 5-bit tap field of a Paddock reaches, if any (R224). -/
def tapTree (s : State) (p k : Nat) : Option Nat :=
  if k < 24 then (if tapSel s p k < 48 then some (tapSel s p k) else none) else none
/-- The clock of a tap field runs. -/
def tapRuns (s : State) (p k : Nat) : Bool := !s.pw.gated && (tapTree s p k).any (fun g => s.flag (Reg.GCK_STAT g) 0)

/-! Paddock states (Table LDR-14). -/
/-- STATE: 0 BLANK, 1 LOADED, 2 EMPTY, 3 LOADING. -/
def padState (s : State) (p : Nat) : Nat := s.fld (Reg.CFG_PAD_STAT p) 1 0
/-- LOADED. -/
def padLoaded (s : State) (p : Nat) : Bool := padState s p == 1
/-- The Blinkers are in ISOLATE. -/
def padIsolated (s : State) (p : Nat) : Bool := s.flag (Reg.CFG_PAD_STAT p) 2
/-- GSR is asserted. -/
def padGsr (s : State) (p : Nat) : Bool := s.flag (Reg.CFG_PAD_STAT p) 3
/-- The Paddock's drivers and sensors are released (R194). -/
def padDriven (s : State) (p : Nat) : Bool := sget (fun _ => false) s.fab.driven p

/-! Long lines: line 2048p + 64tr + i is horizontal, 2048p + 1024 + 64tc + i vertical (R191). -/

/-- The line ℓ of a tile (R188). -/
def lineOf (t l : Nat) : Nat :=
  2048 * padOf t + (if l < 64 then 64 * tRow t + l else 1024 + 64 * tCol t + (l - 64))
/-- A line's number at its tiles. -/
def lineL (n : Nat) : Nat := if n % 2048 < 1024 then n % 64 else 64 + n % 64
/-- The 16 tiles of a line. -/
def lineTiles (n : Nat) : List Nat :=
  let p := n / 2048
  let k := n % 1024 / 64
  (List.range 16).map (fun i => if n % 2048 < 1024 then tileAt p k i else tileAt p i k)

/-- A driver of a line: the tile, and the block slot for a block driver. -/
structure Driver where
  tile : Nat
  slot : Option Nat
  deriving DecidableEq, Repr

/-- DE of block slot k's driver of line ℓ at a tile, where a block is attached (R204). -/
def blockDe (s : State) (t k l : Nat) : Bool := decide (k < (attached t).length) && slotBits s t k (10 * l) 1 == 1

/-- The drivers of a line whose DE is set (R191, R204). -/
def driversOf (s : State) (n : Nat) : List Driver :=
  let l := lineL n
  (lineTiles n).flatMap (fun t =>
    (if lineDe s t l then [⟨t, none⟩] else []) ++ (if blockDe s t 0 l then [⟨t, some 0⟩] else [])
      ++ (if blockDe s t 1 l then [⟨t, some 1⟩] else []))

/-- The drivers that drive: none while the Paddock's are disabled or the line's sensor has tripped (R193, R194). -/
def liveDrivers (s : State) (n : Nat) : List Driver :=
  if padDriven s (n / 2048) && !s.fab.tripped.contains n then driversOf s n else []

/-! Highways: group g of a Paddock is 0…15 west by tile row, 16…31 east, 32…47 north by tile column, 48…63 south; highway
1024p + 16g + i (R195, R198). -/

/-- The border tile of a group. -/
def groupTile (p g : Nat) : Nat :=
  if g < 16 then tileAt p g 0 else if g < 32 then tileAt p (g - 16) 15
  else if g < 48 then tileAt p 0 (g - 32) else tileAt p 15 (g - 48)
/-- The mode of a group in its frames (R198, R230). -/
def groupMode (s : State) (p g : Nat) : Nat := cfgBits s (groupTile p g) 14 (if g < 32 then 1472 else 1474) 2
/-- Every group at constant 0. -/
def blkZero : BitVec 128 := BitVec.ofNat 128 ((List.range 64).map (fun g => 4 ^ g)).sum
/-- The latched modes of an isolated Paddock. -/
def blkModes (s : State) (p : Nat) : BitVec 128 := sget (fun _ => blkZero) s.fab.blk p

/-- The highway that tap h of a tile ends, when it is built (R196, R197): eastbound taps at a west border, and so on. -/
def tapHighway (t h : Nat) : Option Nat :=
  let p := padOf t
  let d := h % 48 / 16 + 1
  let i := h % 16
  if h < 48 then
    if tCol t = 0 then (if d ≤ p % 12 then some (1024 * (p - d) + 16 * (16 + tRow t) + i) else none)
    else if tCol t = 15 then (if p % 12 + d < 12 then some (1024 * (p + d) + 16 * tRow t + i) else none)
    else none
  else if h < 96 then
    if tRow t = 0 then (if d ≤ p / 12 then some (1024 * (p - 12 * d) + 16 * (48 + tCol t) + i) else none)
    else if tRow t = 15 then (if p / 12 + d < 12 then some (1024 * (p + 12 * d) + 16 * (32 + tCol t) + i) else none)
    else none
  else none

/-- A tap lies beyond the die border from a highway's origin, and the highway's crossing register is on (R200, R201). -/
def crossReg (s : State) (h t : Nat) : Bool :=
  let p := h / 1024
  let g := h % 1024 / 16
  decide (p % 12 < 6) != decide (padOf t % 12 < 6) && g < 32 && cfgBit s (groupTile p g) 14 (1476 + h % 16)

/-! The value of a net. -/

/-- A net of the fabric: a cell's O and Q, a cell's input pin and carries, a Stall input, a segment end arriving at a tile, a
long line, a highway at its origin and a tap of it, and a block's output pin. -/
inductive Net where
  | o (c : Nat)
  | q (c : Nat)
  | pin (c k : Nat)
  | ci (c : Nat)
  | co (c : Nat)
  | si (st n : Nat)
  | arr (t a : Nat)
  | line (n : Nat)
  | hw (h : Nat)
  | tap (t h : Nat)
  deriving DecidableEq, Repr

/-- A number for a net, for what the outside gives it. -/
def Net.code : Net → Nat
  | .o c => 16 * c
  | .q c => 16 * c + 1
  | .pin c k => 16 * (8 * c + k) + 2
  | .ci c => 16 * c + 3
  | .co c => 16 * c + 4
  | .si st n => 16 * (64 * st + n) + 5
  | .arr t a => 16 * (256 * t + a) + 6
  | .line n => 16 * n + 7
  | .hw h => 16 * h + 8
  | .tap t h => 16 * (96 * t + h) + 9

/-- A level the outside or a loop gives (log entries 1 and 12). -/
def State.level (s : State) (n : Nat) : Bool := Config.level s.freeCtr n

/-- The slice of a number. -/
def sliceOf (s : State) (n : Nat) : Slice := sget (fun _ => {}) s.fab.slices n
/-- The block memory of a number. -/
def bmOf (s : State) (m : Nat) : BlockMem := sget (fun _ => {}) s.fab.bms m

/-- The first attachment tile of a block memory (Table BMC-1). -/
def bmTile (m : Nat) : Nat := tileAt (m / 64) (2 * (m % 8)) (2 * (m % 64 / 8) + 1)
/-- The tile of a slice. -/
def sliceTile (n : Nat) : Nat := tileAt (n / 96) (n % 16) (2 * (n % 96 / 16) + 2)
/-- Field of a block memory's configuration word (Table LDR-3). -/
def bmCfg (s : State) (m lo w : Nat) : Nat := slotBits s (bmTile m) 0 (1280 + lo) w
/-- Field of a slice's configuration word. -/
def sliceCfg (s : State) (n lo w : Nat) : Nat := slotBits s (sliceTile n) 0 (1280 + lo) w

/-- DOUT of a port: the output stage with OSTAGE, else the array's data; zero under GSR (R207, R226). -/
def bmDout (s : State) (m : Nat) (portB : Bool) : BitVec 72 :=
  if padGsr s (m / 64) then 0
  else
    let pt := if portB then (bmOf s m).b else (bmOf s m).a
    if bmCfg s m (if portB then 11 else 10) 1 = 1 then pt.stage else pt.arr

/-- An output pin of a block in port order (R204): DOUT of A and B, COLLIDE, SBE and DBE of a memory; ACC, RND, OVF and CLAMP
of a slice; a port's own outputs are the other block's to give (log entry 12). Codes beyond the last are constant 0. -/
def blockOut (s : State) (b : Block) (n : Nat) : Bool :=
  match b with
  | .bm m =>
    let x := bmOf s m
    if n < 72 then (bmDout s m false).getLsbD n
    else if n < 144 then (bmDout s m true).getLsbD (n - 72)
    else if n = 144 then x.collide
    else if n = 145 then x.a.sbe || x.b.sbe
    else if n = 146 then x.a.dbe || x.b.dbe
    else false
  | .slice k =>
    let x := sliceOf s k
    if n < 60 then x.acc.getLsbD n
    else if n < 96 then x.rnd.getLsbD (n - 60)
    else if n = 96 then x.ovf
    else if n = 97 then x.clamp
    else false
  | .hitch h => decide (n < 346) && s.level (16 * (512 * h + n) + 10)
  | .dict p => decide (n < 62) && s.level (16 * (512 * p + n) + 11)
  | .router p => decide (n < 177) && s.level (16 * (512 * p + n) + 12)
  | .conv k =>
    let up := s.flag (Reg.JL_STAT (k / 2)) 1
    if n = 0 then s.level (16 * (512 * k) + 13)
    else if n < 130 then up && s.level (16 * (512 * k + n) + 13)
    else n == 130 && up

/-- The segment end a numbered arriving end comes from (R188, R189): the origin tile, the length, the direction it was driven
in and its index; none where it is not built. An end numbered under a direction arrives from there (DEDUCED, log entry 12). -/
def arrOrigin (t a : Nat) : Option (Nat × Nat × Nat × Nat) :=
  let len := if a < 128 then 1 else if a < 192 then 2 else 4
  let d := if a < 128 then a / 32 else a % 64 / 16
  let i := if a < 128 then a % 32 else a % 16
  let p := padOf t
  let r := tRow t
  let c := tCol t
  match d with
  | 0 => if len ≤ r then some (tileAt p (r - len) c, len, 2, i) else none
  | 1 => if c + len < 16 then some (tileAt p r (c + len), len, 3, i) else none
  | 2 => if r + len < 16 then some (tileAt p (r + len) c, len, 0, i) else none
  | _ => if len ≤ c then some (tileAt p r (c - len), len, 1, i) else none

/-- The candidate a 5-bit driver select names at a tile (R189). -/
def segSource (t j sel : Nat) : Net :=
  if sel < 16 then .o (16 * (16 * t + j % 16) + sel) else .arr t (16 * (j % 16) + (sel - 16))

/-- The value after DkM (R183). -/
def dMod (m : Nat) (v : Bool) : Bool := match m with | 0 => v | 1 => !v | 2 => false | _ => true

/-- The Stall input's candidate (Table FCR-3). -/
def siSource (s : State) (st n : Nat) : Option Net :=
  let k := siSel s st n
  let t := st / 16
  if n < 16 then some (.o (16 * (16 * t + k) + n))
  else if n < 32 then some (.q (16 * (16 * t + k) + (n - 16)))
  else if n < 48 then some (.arr t (16 * (n - 32) + k))
  else if n < 56 then some (.line (lineOf t (16 * (n - 48) + k)))
  else if 16 * (n - 56) + k < 96 then some (.tap t (16 * (n - 56) + k)) else none

/-- The cell before a cell on the carry chain (R186), if any. -/
def chainPrev (c : Nat) : Option Nat :=
  let t := c / 256
  if c % 256 ≠ 0 then some (c - 1)
  else if tRow t < 15 then some (256 * (t + 16) + 255) else none

/-- The value of a net (R182…R201). The count bounds a chain of nets; a loop that outlasts it has a level of its own. -/
def netVal : Nat → State → Net → Bool
  | 0, s, n => s.level n.code
  | f + 1, s, n =>
    match n with
    | .q c =>
      let w := cellWord s c
      if padGsr s (c / 65536) ∨ w.testBit 11 = false then w.testBit 16
      else if w.testBit 15 && (netVal f s (.pin c 7) != w.testBit 13) then w.testBit 14
      else sget (fun _ => false) s.fab.ffs c
    | .pin c k =>
      let sel := xbarSel s c k
      if sel < 64 then netVal f s (.si (c / 16) sel)
      else if sel < 96 then
        (if sel % 2 = 0 then netVal f s (.o (c / 16 * 16 + (sel - 64) / 2)) else netVal f s (.q (c / 16 * 16 + (sel - 64) / 2)))
      else false
    | .o c =>
      let w := cellWord s c
      let s0 := netVal f s (.pin c 4) != w.testBit 8
      let s1 := netVal f s (.pin c 5) != w.testBit 9
      let k := bit s0 + 2 * bit s1
      let p := dMod (bitsOf w (2 * k + 1) (2 * k)) (netVal f s (.pin c k))
      if w.testBit 20 && w.testBit 21 then p != netVal f s (.ci c) else p
    | .ci c =>
      if c % 16 ≠ 0 then netVal f s (.co (c - 1))
      else
        match stallBits s (c / 16) 20 2 with
        | 0 => false
        | 1 => true
        | 2 => match chainPrev c with | some d => netVal f s (.co d) | none => false
        | _ => netVal f s (.si (c / 16) 63)
    | .co c =>
      let w := cellWord s c
      if w.testBit 20 then
        let s0 := netVal f s (.pin c 4) != w.testBit 8
        let s1 := netVal f s (.pin c 5) != w.testBit 9
        let k := bit s0 + 2 * bit s1
        if dMod (bitsOf w (2 * k + 1) (2 * k)) (netVal f s (.pin c k)) then netVal f s (.ci c)
        else dMod (bitsOf w 1 0) (netVal f s (.pin c 0))
      else netVal f s (.ci c)
    | .si st k => match siSource s st k with | some x => netVal f s x | none => false
    | .arr t a =>
      match arrOrigin t a with
      | some (o, len, d, i) => netVal f s (segSource o i (segSel s o len d i))
      | none => false
    | .line n =>
      match liveDrivers s n with
      | [] => sget (fun _ => false) s.fab.keepers n
      | [⟨t, none⟩] => netVal f s (segSource t (lineL n % 64) (lineSel s t (lineL n)))
      | [⟨t, some k⟩] =>
        match (attached t)[k]? with
        | some b => blockOut s b (slotBits s t k (10 * lineL n + 1) 9)
        | none => false
      | _ => s.level (Net.code (.line n))
    | .hw h =>
      let p := h / 1024
      let g := h % 1024 / 16
      let t := groupTile p g
      if padIsolated s p then
        match ((blkModes s p).toNat / 4 ^ g) % 4 with
        | 1 => false
        | 2 => true
        | _ => sget (fun _ => false) s.fab.held h
      else if g < 32 then netVal f s (.line (lineOf t (cfgBits s t 14 (1280 + 6 * (h % 16)) 6)))
      else netVal f s (.line (lineOf t (64 + cfgBits s t 14 (1376 + 6 * (h % 16)) 6)))
    | .tap t h =>
      if padIsolated s (padOf t) then false
      else
        match tapHighway t h with
        | some x => if crossReg s x t then s.level (Net.code (.tap t h)) else netVal f s (.hw x)
        | none => false

/-- The bound on a chain of nets. -/
def netFuel : Nat := 65536
/-- The present value of a net. -/
def State.net (s : State) (n : Net) : Bool := netVal netFuel s n

/-- Input pin n of a block, dealt over its attachment tiles in turn (R203): tile and block slot by attachment number. -/
def blockPin (s : State) (tiles : List (Nat × Nat)) (n : Nat) : Bool :=
  match tiles[n % tiles.length]? with
  | none => false
  | some (t, k) =>
    let sel := slotBits s t k (1408 + 9 * (n / tiles.length)) 9
    if sel < 256 then s.net (.arr t sel)
    else if sel < 384 then s.net (.line (lineOf t (sel - 256)))
    else if sel < 480 then s.net (.tap t (sel - 384))
    else sel == 481

/-- The number w input pins spell from pin n upward. -/
def pinsN (s : State) (tiles : List (Nat × Nat)) (n w : Nat) : Nat :=
  ((List.range w).map (fun i => bit (blockPin s tiles (n + i)) * 2 ^ i)).sum

/-- The keepers of some lines take what their lines carry (R191). -/
def keepLines (s : State) (l : List Nat) : State :=
  s.setFab { s.fab with keepers := l.foldl (fun m n =>
    if (liveDrivers s n).isEmpty then m else sput (fun _ => false) m n (s.net (.line n))) s.fab.keepers }

/-! The flip-flop (R184). -/

/-- CELL_FLIP_FLOP_EDGE (R184): the active edge of a cell whose flip-flop is in use and whose Stall clock runs. With `late`, an
asynchronous SR was released within the recovery time: Q is SRVAL or the data, which of them the spec leaves open. -/
def execCellFlipFlopEdge (cell : Fin 9437184) (late : Bool) (s : State) : Out :=
  let c := cell.val
  let w := cellWord s c
  let p := c / 65536
  if padGsr s p || !w.testBit 11 || !tapRuns s p (stallBits s (c / 16) (5 * bitsOf w 18 17) 5) then .next s
  else
    let sr := s.net (.pin c 7) != w.testBit 13
    let ce := s.net (.pin c 6) != w.testBit 12
    let q := sget (fun _ => false) s.fab.ffs c
    let data := if w.testBit 10 then dMod (bitsOf w 7 6) (s.net (.pin c 3)) else s.net (.o c)
    let put (s : State) (v : Bool) : Out := .next (s.setFab { s.fab with ffs := sput (fun _ => false) s.fab.ffs c v })
    if sr then put s (w.testBit 14)
    else
      let v := if ce then data else q
      if late && w.testBit 15 then put s.took (if s.free % 2 = 0 then w.testBit 14 else v) else put s v

/-! Global trees (R222, R223). -/

/-- SRC and DIV of a tree. -/
def gckSrc (v : Nat) : Nat := bitsOf v 4 0

/-- GCK_STAT of a tree that is enabled waits for its synthesiser or its edge (R223). -/
def gckWait (s : State) (k : Nat) : State :=
  (s.setFlag (Reg.GCK_STAT k) 0 false).setFlag (Reg.GCK_STAT k) 1 (!s.flag (Reg.FSYN_CTL (gckSrc (s.regN (Reg.GCK_CFG k)))) 1)

/-- A write of GCK_CFG (R223). -/
def gckWrite (s : State) (k v : Nat) : State :=
  let a := Reg.GCK_CFG k
  let v := Nat.land v 0x10F1F
  let was := s.flag a 16
  let moved := bitsOf v 11 0 != s.fld a 11 0
  let bad := v.testBit 16 && !(5 ≤ gckSrc v && gckSrc v ≤ 23)
  if was && moved || bad then s.setFlag (Reg.GCK_STAT k) 2 true
  else
    let s := (s.setRegN a v).setFlag (Reg.GCK_STAT k) 2 false
    if v.testBit 16 then (if was then s else gckWait s k)
    else (s.setFlag (Reg.GCK_STAT k) 0 false).setFlag (Reg.GCK_STAT k) 1 false

/-- GCK_CFG_WRITE (R223). -/
def execGckCfgWrite (k : Fin 48) (value : BitVec 32) (s : State) : Out := .next (gckWrite s k value.toNat)

/-- GCK_START (R223): an enabled tree starts at an edge of its running synthesiser. -/
def execGckStart (k : Fin 48) (s : State) : Out :=
  if s.flag (Reg.GCK_CFG k) 16 ∧ s.flag (Reg.FSYN_CTL (gckSrc (s.regN (Reg.GCK_CFG k)))) 1 then
    .next ((s.setFlag (Reg.GCK_STAT k) 0 true).setFlag (Reg.GCK_STAT k) 1 false)
  else .next s

/-- The trees of a synthesiser end with it (R223). -/
def treesStop (s : State) (n : Nat) : State :=
  (List.range 48).foldl (fun s k =>
    if s.flag (Reg.GCK_CFG k) 16 && gckSrc (s.regN (Reg.GCK_CFG k)) == n then gckWait s k else s) s

/-- FSYN_ARM (R57, R58): EN set arms the start; clearing it stops the output and the trees on it (R223). -/
def execFsynArm (n : Fin 24) (value : BitVec 32) (s : State) : Out :=
  let a := Reg.FSYN_CTL n
  if value.getLsbD 0 then
    if s.flag a 0 then .next s
    else if fsynRange s n then .next (fsynArmAt s n (fsynAnchor s n))
    else .next (s.raise blkTim 14)
  else .next (treesStop (setFsyn (s.setRegN a 0) n {}) n)

end Sys2Proof.Machine
end

