-- ==== Sys2Proof/Machine/FabricBlocks.lean ====
section
/-! DEFINITION. The fabric's hard blocks: block memories, arithmetic slices and dictionary ports (R205…R221, R226). -/

namespace Sys2Proof.Machine

/-- The block is in the mode set of an RWM field: bit m of the mask for mode m (R16). -/
def modeIn (s : State) (mask : Nat) : Bool := mask.testBit s.mode

/-- The modes of a test register: COMMISSION, SERVICE, HOLDOVER. -/
def testModes : Nat := 0xD0

/-! Block memories. -/

/-- The state with a block memory replaced. -/
def setBm (s : State) (m : Nat) (x : BlockMem) : State :=
  s.setFab { s.fab with bms := sput (fun _ => {}) s.fab.bms m x }
/-- A row of a memory's storage (R206). -/
def bmRow (s : State) (m r : Nat) : BitVec 72 := sget (fun _ => 0) s.fab.rows (1024 * m + r)
/-- The state with a row replaced. -/
def setBmRow (s : State) (m r : Nat) (v : BitVec 72) : State :=
  s.setFab { s.fab with rows := sput (fun _ => 0) s.fab.rows (1024 * m + r) v }

/-- The row a port's word lies in, and the row bits of DIN and DOUT in order (R205, R206); width code 7 reaches none. -/
def bmWord (code addr : Nat) : Nat × List Nat :=
  let i := addr / 2 ^ code
  if code < 3 then
    let w := 2 ^ code
    (i * w / 64, (List.range w).map (fun d => let k := i * w % 64 + d; 9 * (k / 8) + k % 8))
  else if code < 7 then
    let n := code - 3
    (i / 2 ^ (3 - n), (List.range (9 * 2 ^ n)).map (fun d => 9 * (2 ^ n * (i % 2 ^ (3 - n))) + d))
  else (0, [])

/-- The write enable that governs DIN bit d (R206). -/
def weBit (code d : Nat) : Nat := if code < 3 then 0 else d / 9
/-- The write enables a width uses (Table BMC-3). -/
def weMask (code : Nat) : Nat := if code < 3 then 1 else 2 ^ (2 ^ (code - 3)) - 1

/-- The 64 data bits and 8 check bits of a row (R209). -/
def rowData (v : BitVec 72) : Nat := ((List.range 64).map (fun i => bit (v.getLsbD (9 * (i / 8) + i % 8)) * 2 ^ i)).sum
/-- The check bits of a row. -/
def rowCheck (v : BitVec 72) : Nat := ((List.range 8).map (fun j => bit (v.getLsbD (9 * j + 8)) * 2 ^ j)).sum
/-- The row that holds 64 data bits and 8 check bits. -/
def rowOf (d c : Nat) : BitVec 72 :=
  BitVec.ofNat 72 (((List.range 64).map (fun i => bit (d.testBit i) * 2 ^ (9 * (i / 8) + i % 8))).sum
    + ((List.range 8).map (fun j => bit (c.testBit j) * 2 ^ (9 * j + 8))).sum)

/-- The bits of a row at some positions, as a number. -/
def pick (v : BitVec 72) (l : List Nat) : Nat := (l.zipIdx.map (fun e => bit (v.getLsbD e.1) * 2 ^ e.2)).sum
/-- A set of row bits as a mask. -/
def bitSet (l : List Nat) : BitVec 72 := BitVec.ofNat 72 ((l.map (2 ^ ·)).sum)

/-- The pins of a port at its edge (R205). -/
structure BmPins where
  addr  : Nat
  din   : Nat
  we    : Nat
  en    : Bool
  osen  : Bool
  osclr : Bool
  deriving DecidableEq, Repr

/-- The attachment tiles and slots of a memory. -/
def bmTiles (m : Nat) : List (Nat × Nat) := [(bmTile m, 0), (bmTile m + 16, 0)]

/-- The pins of port A, or of B, in port order (R203, R205): ADDR, DIN, WE, EN, OSEN, OSCLR, port A's first (DEDUCED, log
entry 12). -/
def bmPins (s : State) (m : Nat) (portB : Bool) : BmPins :=
  let o := if portB then 99 else 0
  let n := pinsN s (bmTiles m)
  { addr := n o 16, din := n (o + 16) 72, we := n (o + 88) 8, en := n (o + 96) 1 == 1, osen := n (o + 97) 1 == 1,
    osclr := n (o + 98) 1 == 1 }

/-- What a port does to the storage in its cycle: whether it accesses at all, the row, the row bits its word takes, whether it
writes, the bits it writes and their values. -/
structure BmAct where
  on    : Bool
  row   : Nat
  word  : List Nat
  wr    : Bool
  mask  : BitVec 72
  val   : BitVec 72
  deriving DecidableEq, Repr

/-- The act of a port (R206, R207, R209). -/
def bmAct (s : State) (m : Nat) (portB ecc on : Bool) : BmAct :=
  let p := bmPins s m portB
  let code := bmCfg s m (if portB then 3 else 0) 3
  let (row, word) := bmWord code p.addr
  let wr := Nat.land p.we (weMask code) != 0
  if ecc then
    { on := on && p.en, row, word, wr, mask := BitVec.allOnes 72, val := rowOf (p.din % 2 ^ 64) (secCheck (p.din % 2 ^ 64)) }
  else
    let hit := word.zipIdx.filter (fun e => p.we.testBit (weBit code e.2))
    { on := on && p.en, row, word, wr, mask := bitSet (hit.map (·.1)),
      val := bitSet ((hit.filter (fun e => p.din.testBit e.2)).map (·.1)) }

/-- A write of an act's bits into its row. -/
def bmStore (s : State) (m : Nat) (x : BmAct) : State :=
  if x.on && x.wr then setBmRow s m x.row ((bmRow s m x.row &&& ~~~x.mask) ||| (x.val &&& x.mask)) else s

/-- BM_FLIP's mask applied to port A's write (R210): only bits that it writes; ARM clears and DONE is set. -/
def bmFlipTake (s : State) (m : Nat) (x : BmAct) : State × BmAct :=
  match s.fab.flip with
  | some (k, mask) =>
    if k = m ∧ x.on ∧ x.wr then
      let s := s.setFab { s.fab with flip := none }
      ((s.setFlag Reg.BM_FLIP_2 31 false).setFlag Reg.BM_FLIP_2 30 true, { x with val := x.val ^^^ mask })
    else (s, x)
  | none => (s, x)

/-- What a port shows after its cycle (R207, R209): `old` and `new` are its row before and after. -/
def bmShow (s : State) (m : Nat) (portB ecc : Bool) (x : BmAct) (old new : BitVec 72) : State :=
  let bm := bmOf s m
  let pt := if portB then bm.b else bm.a
  let osen := (bmPins s m portB).osen
  let osclr := (bmPins s m portB).osclr
  let pt := { pt with stage := if osclr then 0 else if osen then pt.arr else pt.stage }
  let put (s : State) (q : BmPort) : State := setBm s m (if portB then { bmOf s m with b := q } else { bmOf s m with a := q })
  let code := bmCfg s m (if portB then 3 else 0) 3
  if !x.on then put s { pt with sbe := false, dbe := false }
  else if code = 7 then put s.took { pt with arr := BitVec.ofNat 72 s.free, sbe := false, dbe := false }
  else
    let view (v : BitVec 72) : BitVec 72 := BitVec.ofNat 72 (if ecc then rowData v else pick v x.word)
    if x.wr then
      match bmCfg s m (if portB then 8 else 6) 2 with
      | 1 => put s { pt with arr := view new, sbe := false, dbe := false }
      | 2 => put s { pt with sbe := false, dbe := false }
      | _ => put s { pt with arr := view old, sbe := false, dbe := false }
    else if ecc then
      let r := secDecode (rowData old) (rowCheck old)
      let s := if r.single then s.count (Reg.FAB_SBE (m / 64)) else s
      let s := if r.double then s.count (Reg.FAB_DBE (m / 64)) else s
      put s { pt with arr := BitVec.ofNat 72 r.data, sbe := r.single, dbe := r.double }
    else put s { pt with arr := view old, sbe := false, dbe := false }

/-- A port's access while its memory is under online test reads zero and has no effect (R526). -/
def bmBist (s : State) (m : Nat) (portB on : Bool) : State :=
  if on && (bmPins s m portB).en then
    let bm := bmOf s m
    let s := setBm s m (if portB then { bm with b := { bm.b with arr := 0 } } else { bm with a := { bm.a with arr := 0 } })
    (s.count Reg.OUT_BIST_COLL).raise blkOut 15
  else s

/-- The tap field of a port's clock. -/
def bmTap (s : State) (m : Nat) (portB : Bool) : Nat := bmCfg s m (if portB then 18 else 13) 5

/-- BM_PORT_ACCESS (R207…R210): the active edges of port A, of port B, or of both within 200 ps of each other, whose accesses
then collide where they touch a common bit (R208). -/
def execBmPortAccess (m : Fin 9216) (a b : Bool) (s : State) : Out :=
  let p := m.val / 64
  let a := a && tapRuns s p (bmTap s m false)
  let b := b && tapRuns s p (bmTap s m true)
  if padGsr s p then .next s
  else if s.out.bist = some (256 + m.val) then .next (bmBist (bmBist s m false a) m true b)
  else
    let enA := (bmPins s m false).en
    let enB := (bmPins s m true).en
    let ecc := bmCfg s m 12 1 == 1 && (!enA || bmCfg s m 0 3 == 6) && (!enB || bmCfg s m 3 3 == 6)
    let xa := bmAct s m false ecc a
    let xb := bmAct s m true ecc b
    let oldA := bmRow s m xa.row
    let oldB := bmRow s m xb.row
    let clash := xa.on && xa.wr && xb.on && xb.wr && xa.row == xb.row && (xa.mask &&& xb.mask) != 0
    let (s1, xa') := bmFlipTake s m xa
    let s1 := bmStore (bmStore s1 m xb) m xa'
    let newA := bmRow s1 m xa.row
    let newB := bmRow s1 m xb.row
    let s1 := if clash then s1.count (Reg.FAB_COLL p) else s1
    let s1 := setBm s1 m { bmOf s1 m with collide := clash }
    let s1 := if a then bmShow s1 m false ecc xa oldA newA else s1
    .next (if b then bmShow s1 m true ecc xb oldB newB else s1)

/-- BM_FLIP_ARM (R210, R228). -/
def execBmFlipArm (value : BitVec 32) (s : State) : Out :=
  if !modeIn s testModes then .next (s.raise blkCfg 31)
  else
    let v := value.toNat
    let m := s.fld Reg.BM_FLIP_SEL 13 0
    let mask := rowOf (s.regN Reg.BM_FLIP_0 + s.regN Reg.BM_FLIP_1 * 2 ^ 32) (v % 256)
    if v.testBit 31 then
      if m < 9216 ∧ padState s (m / 64) ≠ 2 then
        .next ((s.setFab { s.fab with flip := some (m, mask) }).setRegN Reg.BM_FLIP_2 (v % 256 + 2 ^ 31))
      else .next (s.setRegN Reg.BM_FLIP_2 (v % 256))
    else
      .next ((s.setFab { s.fab with flip := none }).setRegN Reg.BM_FLIP_2 (v % 256 + bit (s.flag Reg.BM_FLIP_2 30) * 2 ^ 30))

/-! Arithmetic slices. -/

/-- A slice's own pins at its edge, in port order (R203, R212). -/
def slicePins (s : State) (n o w : Nat) : Nat := pinsN s [(sliceTile n, 0)] (o) w

/-- The pre-adder's t, exact in 25 bits (R213). -/
def preAdd (pre : Nat) (a mq : Int) : Int :=
  match pre with
  | 0 => a
  | 1 => a + mq
  | 2 => mq - a
  | _ => mq

/-- The base of an accumulation (R214). -/
def sliceBase (fn : BitVec 6) (acc achi : BitVec 60) (rm : Nat) : Int :=
  match fn.toNat % 4 with
  | 0 => 0
  | 1 => acc.toInt
  | 2 => achi.toInt
  | _ => roundBy rm false achi.toInt 20

/-- The addend of an accumulation (R214). -/
def sliceAddend (x : SliceMul) : Int :=
  match bitsOf x.fn.toNat 3 2 with
  | 0 => x.m.toInt
  | 1 => -x.m.toInt
  | 2 => x.w.toInt
  | _ => 0

/-- EW as it acts (R212). -/
def sliceEw (ew : Nat) : Nat := if 1 ≤ ew ∧ ew ≤ 36 then ew else 36
/-- RND and whether it was clamped (R215): ACC rounded at SH, then saturated or wrapped to EW bits. -/
def sliceRnd (s : State) (n : Nat) (acc : BitVec 60) : BitVec 36 × Bool :=
  let v := roundBy (sliceCfg s n 5 2) (sliceCfg s n 7 1 == 1) acc.toInt (sliceCfg s n 8 6)
  let w := sliceEw (sliceCfg s n 14 6)
  if sliceCfg s n 20 1 = 1 then
    let c := satInt w v
    (BitVec.ofInt 36 c, c != v)
  else (BitVec.ofInt 36 (signed w (unsigned w v)), false)

/-- The pre-adder stage of a set of inputs. -/
def sliceT (x : SliceIn) : SlicePre :=
  ⟨BitVec.ofInt 25 (preAdd (bitsOf x.fn.toNat 5 4) x.a.toInt x.mq.toInt), x.coef, x.w, x.fn⟩
/-- The multiplier stage: t saturated to 24 bits (R213). -/
def sliceM (x : SlicePre) : SliceMul :=
  let t := satInt 24 x.t.toInt
  ⟨BitVec.ofInt 44 (t * x.coef.toInt), x.w, x.fn, t != x.t.toInt⟩

/-- SLICE_CLOCK_EDGE (R212…R217): `south` is MCHO of the slice to the south where its S_IN is clear. CLR prevails over CE;
under GSR every register is zero. -/
def execSliceClockEdge (n : Fin 13824) (south : BitVec 24) (s : State) : Out :=
  let k := n.val
  if padGsr s (k / 96) || !tapRuns s (k / 96) (sliceCfg s k 21 5) then .next s
  else
    let x := sliceOf s k
    let set (s : State) (v : Slice) : State := s.setFab { s.fab with slices := sput (fun _ => {}) s.fab.slices k v }
    if slicePins s k 135 1 = 1 then .next (set s {})
    else if slicePins s k 134 1 ≠ 1 then .next (set s { x with ovf := false, clamp := false })
    else
      let last := k % 16 == 15
      let nb := sliceOf s (k + 1)
      let mchi := if last then 0 else if sliceCfg s (k + 1) 1 1 = 1 then nb.sIn.a else south
      let achi := if last then 0 else nb.acc
      let inp : SliceIn :=
        { a := if sliceCfg s k 0 1 = 1 then mchi else BitVec.ofNat 24 (slicePins s k 0 24)
          mq := BitVec.ofNat 24 (slicePins s k 24 24), coef := BitVec.ofNat 20 (slicePins s k 48 20)
          w := BitVec.ofNat 60 (slicePins s k 68 60), fn := BitVec.ofNat 6 (slicePins s k 128 6) }
      let i := if sliceCfg s k 1 1 = 1 then x.sIn else inp
      let pre := sliceT i
      let q := if sliceCfg s k 2 1 = 1 then x.sPre else pre
      let mul := sliceM q
      let r := if sliceCfg s k 3 1 = 1 then x.sMul else mul
      let sum := sliceBase r.fn x.acc achi (sliceCfg s k 5 2) + sliceAddend r
      let acc := BitVec.ofInt 60 sum
      let ovf := satInt 60 sum != sum
      let (rnd, clamp) := sliceRnd s k (if sliceCfg s k 4 1 = 1 then x.acc else acc)
      let s := if ovf then s.count (Reg.FAB_OVF (k / 96)) else s
      .next (set s { sIn := inp, sPre := pre, sMul := mul, acc, rnd, ovf, clamp := clamp || r.sat })

/-! Dictionary ports (R220, R221). -/

/-- A Paddock's dictionary port configuration (Table LDR-3), in the slot it stands in. -/
def dpCfg (s : State) (p lo w : Nat) : Nat :=
  let t := tileAt p 14 14
  slotBits s t ((attached t).length - 1) (1280 + lo) w

/-- The Paddock that serves an object index: the lowest-numbered whose range holds it (R220). -/
def dpServer (s : State) (index : Nat) : Option Nat :=
  if 0xA000 ≤ index ∧ index ≤ 0xEFFF then
    (List.range paddocks).find? (fun p => decide (dpCfg s p 0 16 ≤ index) && decide (index < dpCfg s p 0 16 + dpCfg s p 16 16))
  else none

/-- The abort of a port that does not answer (R221). -/
def abBusy : Nat := 0x0A08

/-- A request issued (R220, R221): an isolated Paddock or one under GSR answers 0x0A08 without being reached; a port that holds
a request makes the next one wait. Answers whether the request has been taken or answered. -/
def dpIssue (s : State) (r : DpReq) : State :=
  match dpServer s r.index with
  | none => s
  | some p =>
    if padIsolated s p || padGsr s p then s.answer r.init abBusy []
    else if (s.fab.dps.any (fun e => e.1 == p)) then s
    else s.setFab { s.fab with dps := sinsert p r s.fab.dps }

/-- A port's request ended with data or an abort; FMP's own is kept for the request it serves (R439). -/
def dpEnd (s : State) (p code data : Nat) : State :=
  match s.fab.dps.find? (fun e => e.1 == p) with
  | none => s
  | some (_, r) =>
    let s := s.setFab { s.fab with dps := sdrop p s.fab.dps }
    if r.fmp then { s with fmp := { s.fmp with user := s.fmp.user.map (fun u => { u with got := some (code, data) }) } }
    else s.answer r.init code (if r.wr ∨ code ≠ 0 then [] else [data])

/-- DP_REQ (R220, R221). -/
def execDpReq (init : Fin 512) (wr : Bool) (index : BitVec 16) (sub : BitVec 8) (word : Fin 16) (data : BitVec 32) (s : State) : Out :=
  .next (dpIssue s { init := init, wr := wr, index := index.toNat, sub := sub.toNat, word := word, data := data.toNat })

/-- DP_ACK (R221): one that answers no request is ignored. -/
def execDpAck (p : Fin 144) (data : BitVec 32) (code : BitVec 16) (s : State) : Out :=
  .next (dpEnd s p code.toNat data.toNat)

/-- DP_TIMEOUT (R221): no DP_ACK within 100 µs. -/
def execDpTimeout (p : Fin 144) (s : State) : Out := .next (dpEnd s p abBusy 0)

end Sys2Proof.Machine
end

