-- ==== Sys2Proof/Machine/Noc.lean ====
section
/-! DEFINITION. The network on chip (R279…R295): injection, Curbs, responses, the fabric's router port; the power states of
scratchpad banks (R300, R302). What a request does at its target stands in Targets.lean. -/

namespace Sys2Proof.Machine

/-! Status codes (Table NOC-4). -/
/-- DECODE. -/
def stDecode : Nat := 1
/-- CURB. -/
def stCurb : Nat := 2
/-- TARGET. -/
def stTarget : Nat := 3
/-- POISON. -/
def stPoison : Nat := 4
/-- ISOLATED. -/
def stIsolated : Nat := 5
/-- OFF. -/
def stOff : Nat := 6
/-- E2E. -/
def stE2e : Nat := 7

/-- Control space (Table SCO-5). -/
def inCtrl (a : Nat) : Bool := decide (ctrlBase ≤ a) && decide (a < 0x50000000)
/-- The Paddock windows' base (R9). -/
def winBase : Nat := 0x100000000
/-- A Paddock's window. -/
def inWin (a : Nat) : Bool := decide (winBase ≤ a) && decide (a < 0x190000000)
/-- The Paddock of a window address. -/
def winPad (a : Nat) : Nat := (a - winBase) / 2 ^ 24
/-- The PCIe outbound range. -/
def inPcie (a : Nat) : Bool := decide (0x40000000000 ≤ a) && decide (a < 0x80000000000)

/-- The router that serves an address (R280, Table NOC-1). -/
def routerOf (s : State) (a : Nat) : Nat :=
  if inScratch a then 158 + spBank a / 8
  else if inSdram a then [156, 157, 166, 167].getD (chanOf s (a - sdBase)) 156
  else if inHdm a then 145
  else if inPcie a then 144
  else if inWin a then winPad a
  else 151

/-- The initiator IDs of Table NOC-5. -/
def initUsed (i : Nat) : Bool :=
  i < 434 || [436, 437, 440, 441, 442, 444, 472, 473, 474].contains i || (448 ≤ i && i < 472)

/-- The class of an initiator's request (R284): control space always CONTROL; a configurable one from its register. -/
def classOf (s : State) (i a : Nat) : Nat :=
  if inCtrl a then 1
  else if (400 ≤ i ∧ i < 432) ∨ i = 444 ∨ (448 ≤ i ∧ i < 456) then s.fld (Reg.NOC_INIT_CFG i) 8 7
  else if i = 432 ∨ i = 436 ∨ i = 437 ∨ i = 474 then 1
  else if i = 440 ∨ i = 441 ∨ i = 442 ∨ i = 473 then 2
  else if i = 472 then 3
  else 0

/-- The AWAIT bit of an initiator's request (R344): speculative reads come only from cores, DMA channels, the stager. -/
def awaitOf (s : State) (i : Nat) : Bool :=
  if i < 256 then s.flag (Reg.CA_CORE_CFG i) 1
  else if 400 ≤ i ∧ i < 432 then s.flag Reg.IMP_AWAIT_DMA (i - 400)
  else if i = 433 then s.flag Reg.IMP_AWAIT_MISC 0
  else true

/-! Monitors (R291). -/

/-- The monitors that count an initiator's requests of a class. -/
def monsOf (s : State) (i cls : Nat) : List Nat :=
  (List.range 32).filter (fun m => let c := Reg.NOC_MON_CFG m; s.flag c 16 && s.fld c 11 0 == i && s.flag c (12 + cls))

/-- A saturating 64-bit count of two words advanced (R20). -/
def count64 (s : State) (a n : Nat) : State :=
  let v := satNat 64 (s.regN a + s.regN (a + 4) * 2 ^ 32 + n)
  (s.setRegN a (v % 2 ^ 32)).setRegN (a + 4) (v / 2 ^ 32)

/-- A request counted by its monitors. -/
def monSend (s : State) (r : NocReq) : State :=
  (monsOf s r.init r.cls).foldl (fun s m => (count64 s (Reg.NOC_MON_BYTES m) r.len).count (Reg.NOC_MON_REQ m)) s
/-- A refusal counted by its monitors. -/
def monRefuse (s : State) (r : NocReq) : State :=
  (monsOf s r.init r.cls).foldl (fun s m => s.count (Reg.NOC_MON_REF m)) s
/-- A response's latency in NoC cycles, which the model does not time: a free value (log entry 15). -/
def monDone (s : State) (r : NocReq) : State :=
  let l := monsOf s r.init r.cls
  if l.isEmpty then s
  else
    let d := s.free % 2 ^ 32
    l.foldl (fun s m =>
      let s := count64 s (Reg.NOC_MON_LSUM m) d
      if s.regN (Reg.NOC_MON_LMAX m) < d then s.setRegN (Reg.NOC_MON_LMAX m) d else s) s.took

/-! Responses (R283). -/

/-- What every error response is noted in (Tables NOC-8 and NOC-10). -/
def errNote (s : State) (r : NocReq) (status : Nat) : State :=
  if status = 0 then s
  else
    let s := (s.setRegN Reg.NOC_LAST_ERR (r.init + status * 2 ^ 12)).setRegN Reg.NOC_LAST_ADDR (r.addr / 2 ^ 16)
    if status = stDecode then (s.count Reg.NOC_DECODE_CNT).raise blkNoc 0
    else if status = stIsolated then s.raise blkNoc 6
    else if status = stOff then s.raise blkNoc 10
    else if status = stE2e then (s.count Reg.NOC_E2E_CNT).raise blkNoc 4
    else s

/-- The tag that marks a request whose response nobody awaits any longer (R295). -/
def orphan : Nat := 256

/-- The one response of a request set on its way; an orphan's is discarded. -/
def respond (s : State) (r : NocReq) (status : Nat) (data : List Byte) : State :=
  let s := errNote s r status
  if orphan ≤ r.tag then s
  else s.setNoc { s.noc with resps := s.noc.resps ++ [{ req := r, status := status, data := data }] }

/-- An answer given to an initiator at once, as a port does (R282, R290, R293). -/
def refuseReq (s : State) (r : NocReq) (status : Nat) : State := (errNote s r status).answer r.init status []

/-! Injection (R282, R289, R290). -/

/-- The bytes lie within one 256-byte block (R282). -/
def oneBlock (a n : Nat) : Bool := decide (a % 256 + n ≤ 256)
/-- The regulator an initiator is bound to. -/
def curbOf (s : State) (i : Nat) : Option Nat :=
  let c := Reg.NOC_INIT_CFG i
  if s.flag c 6 then some (s.fld c 5 0) else none

/-- A request charged and sent, if its Curb lets it pass (R290). -/
def chargeSend (s : State) (r : NocReq) : Option State :=
  let send (s : State) : State := monSend (s.setNoc { s.noc with sent := s.noc.sent ++ [r] }) r
  match curbOf s r.init with
  | none => some (send s)
  | some n =>
    let l := s.fld (Reg.NOC_CURB_LEVEL n) 23 0
    if r.len ≤ l then some (send (s.setRegN (Reg.NOC_CURB_LEVEL n) (l - r.len))) else none

/-- A request at its injecting port (R282, R290). -/
def inject (s : State) (r : NocReq) : State :=
  if !oneBlock r.addr r.len then refuseReq s r stDecode
  else if s.noc.paced.any (fun x => x.init == r.init) then s.setNoc { s.noc with paced := s.noc.paced ++ [r] }
  else
    match chargeSend s r with
    | some s => s
    | none =>
      let n := (curbOf s r.init).getD 0
      if s.flag (Reg.NOC_CURB_RATE n) 31 then s.setNoc { s.noc with paced := s.noc.paced ++ [r] }
      else refuseReq (monRefuse ((s.count (Reg.NOC_CURB_REFUSE n)).raise blkNoc 1) r) r stCurb

/-- The request an initiator makes. -/
def reqOf (s : State) (i op a n tag : Nat) (data : List Byte) : NocReq :=
  { init := i, tag := tag, op := op, cls := classOf s i a, kix := s.fld (Reg.NOC_INIT_CFG i) 14 9, await := awaitOf s i,
    e2e := s.flag (Reg.NOC_INIT_CFG i) 15, addr := a, len := n, data := data }

/-- NOC_INJECT (R290): initiators of Table NOC-5 but the fabric, whose requests come through its router ports, and the debug port,
whose accesses are its own rows (R561). -/
def execNocInject (init : Fin 512) (op : Fin 4) (addr : BitVec 48) (len : Fin 256) (tag : BitVec 8) (data : List Byte) (s : State) : Out :=
  if initUsed init && !(256 ≤ init.val && init.val < 400) && init.val != debugInit then
    .next (inject s (reqOf s init op addr.toNat (len + 1) tag.toNat (padTo (if op.val = 0 then 0 else len + 1) data)))
  else .next s

/-- BURST as it acts: below 256 acts as 256 (R290). -/
def curbBurst (s : State) (n : Nat) : Nat := Nat.max 256 (s.fld (Reg.NOC_CURB_BURST n) 23 0)

/-- Paced requests try again in order; one that still waits stops the later ones of its initiator (R290). -/
def retryPaced (s : State) : State :=
  let l := s.noc.paced
  l.foldl (fun s r =>
    if s.noc.paced.any (fun x => x.init == r.init) then s.setNoc { s.noc with paced := s.noc.paced ++ [r] }
    else match chargeSend s r with
      | some s => s
      | none => s.setNoc { s.noc with paced := s.noc.paced ++ [r] }) (s.setNoc { s.noc with paced := [] })

/-- CURB_REFILL (R290): at a tick boundary every bucket gains RATE up to BURST. -/
def execCurbRefill (s : State) : Out :=
  .next (retryPaced ((List.range 64).foldl (fun s n =>
    s.setRegN (Reg.NOC_CURB_LEVEL n)
      (Nat.min (s.fld (Reg.NOC_CURB_LEVEL n) 23 0 + s.fld (Reg.NOC_CURB_RATE n) 15 0) (curbBurst s n))) s))

/-- NOC_MON_CLR (R291). -/
def execNocMonClr (value : BitVec 32) (s : State) : Out :=
  .next ((List.range 32).foldl (fun s m =>
    if value.getLsbD m then
      [Reg.NOC_MON_BYTES m, Reg.NOC_MON_BYTES m + 4, Reg.NOC_MON_REQ m, Reg.NOC_MON_REF m, Reg.NOC_MON_LSUM m,
        Reg.NOC_MON_LSUM m + 4, Reg.NOC_MON_LMAX m].foldl (fun s a => s.setRegN a 0) s
    else s) s)

/-- LINK_RESEND (R287): a flit arrived bad at a router over its link from one direction and is resent; `good` when that resend
succeeds. The sixteenth failure in a row latches the link and tells the Outrider. -/
def execLinkResend (router : Fin 168) (dir : Fin 4) (good : Bool) (s : State) : Out :=
  let k := 4 * router.val + dir.val
  let n := sget (fun _ => 0) s.noc.fails k + 1
  let s := (s.count (Reg.NOC_LINK_RETRY router)).raise blkNoc 2
  let s := s.setNoc { s.noc with fails := sput (fun _ => 0) s.noc.fails k (if good then 0 else n) }
  if n = 16 then
    let s := if s.flag Reg.NOC_STAT 0 then s else s.setRegN Reg.NOC_STAT (1 + 2 * router)
    .next ((s.raise blkNoc 3).detectNow 19)
  else .next s

/-- NOC_RESPONSE (R283, R289): the response of a tag reaches its initiator; one of an E2E request that fails its check is
delivered with E2E. The answer's words are its bytes. -/
def execNocResponse (init : Fin 512) (tag : BitVec 8) (bad : Bool) (s : State) : Out :=
  match s.noc.resps.findIdx? (fun x => x.req.init == init.val && x.req.tag == tag.toNat) with
  | none => .next s
  | some i =>
    match s.noc.resps[i]? with
    | none => .next s
    | some x =>
      let s := monDone (s.setNoc { s.noc with resps := s.noc.resps.eraseIdx i }) x.req
      if bad && x.req.e2e then .next ((errNote s x.req stE2e).answer init stE2e [])
      else .next (s.answer init x.status (x.data.map (·.toNat)))

/-! The fabric router port (R292…R295). -/

/-- The w bits from lo of a router port's configuration word (R292). -/
def frpCfg (s : State) (p lo w : Nat) : Nat :=
  let t := tileAt p 0 0
  slotBits s t ((attached t).length - 1) (1280 + lo) w

/-- The answer number that stands for Paddock p's router-port pins (log entry 9). -/
def frpPins (p : Nat) : Nat := 512 + p

/-- FRP_REQUEST (R293): refused with CURB when INIT_EN is 0 or the class is not admitted; not seen while isolated. -/
def execFrpRequest (p : Fin 144) (kind : Fin 4) (tag : Fin 16) (addr : BitVec 48) (len : Fin 256) (cls : Fin 4) (kix : Fin 64) (await : Bool) (data : List Byte) (s : State) : Out :=
  if padIsolated s p then .next s
  else
    let i := 256 + p.val
    let r := { reqOf s i kind addr.toNat (len + 1) tag (padTo (if kind.val = 0 then 0 else len + 1) data) with
      cls := if inCtrl addr.toNat then 1 else cls, kix := kix, await := await }
    if frpCfg s p 5 1 = 1 ∧ (frpCfg s p 7 4).testBit cls then .next (inject s r)
    else .next (refuseReq (monRefuse s r) r stCurb)

/-- Accesses waiting for a Paddock's window are delivered while fewer than four are outstanding (R293), each under the lowest
free tag (log entry 10). -/
def winFeed : Nat → State → Nat → State
  | 0, s, _ => s
  | n + 1, s, p =>
    let used := (s.noc.win.filter (fun e => e.1 == p)).map (·.2.1)
    match (List.range 4).find? (fun t => !used.contains t), s.noc.winQ.findIdx? (fun e => e.1 == p) with
    | some t, some i =>
      match s.noc.winQ[i]? with
      | some (_, r) =>
        let s := s.setNoc { s.noc with win := s.noc.win ++ [(p, t, r)], winQ := s.noc.winQ.eraseIdx i,
                                       winOld := s.noc.winOld.filter (fun e => e != (p, t)) }
        winFeed n (s.answer (frpPins p) 0 ([if r.op = 0 then 2 else 3, t, r.addr % 2 ^ 24, r.len - 1] ++ r.data.map (·.toNat))) p
      | none => s
    | _, _ => s

/-- A request for a Paddock's window (R283, R293, R295). -/
def winAccess (s : State) (r : NocReq) : State :=
  let p := winPad r.addr
  if padIsolated s p || !padLoaded s p then respond s r stIsolated []
  else if frpCfg s p 6 1 = 0 then respond s r stDecode []
  else if 2 ≤ r.op then respond s r stTarget []
  else winFeed 1 (s.setNoc { s.noc with winQ := s.noc.winQ ++ [(p, r)] }) p

/-- The outstanding access of a target tag ended. -/
def winEnd (s : State) (p t : Nat) : State :=
  winFeed 4 (s.setNoc { s.noc with win := s.noc.win.filter (fun e => !(e.1 == p && e.2.1 == t)) }) p

/-- FRP_TARGET_RESPONSE (R293, R294): a late answer is discarded. -/
def execFrpTargetResponse (p : Fin 144) (tag : BitVec 8) (status : Fin 8) (data : List Byte) (s : State) : Out :=
  if padIsolated s p then .next s
  else
    match s.noc.win.find? (fun e => e.1 == p.val && e.2.1 == tag.toNat) with
    | some (_, _, r) => .next (winEnd (respond s r status (if r.op = 0 then padTo r.len data else [])) p tag.toNat)
    | none =>
      if s.noc.winOld.contains (p.val, tag.toNat) then
        .next ((s.setNoc { s.noc with winOld := s.noc.winOld.filter (fun e => e != (p.val, tag.toNat)) }).raise blkNoc 7)
      else .next s

/-- TGT_TIMEOUT (R294). -/
def execTgtTimeout (p : Fin 144) (tag : Fin 4) (s : State) : Out :=
  match s.noc.win.find? (fun e => e.1 == p.val && e.2.1 == tag.val) with
  | some (_, _, r) =>
    let s := (respond s r stTarget []).raise blkNoc 5
    .next (winEnd (s.setNoc { s.noc with winOld := s.noc.winOld ++ [(p.val, tag.val)] }) p tag)
  | none => .next s

/-- A Paddock's router port is isolated (R295): its window's accesses are answered ISOLATED, and no response to a request its
design had made is awaited. -/
def frpIsolate (s : State) (p : Nat) : State :=
  let mine (r : NocReq) : NocReq := if r.init = 256 + p then { r with tag := orphan } else r
  let out := (s.noc.win.filter (fun e => e.1 == p)).map (·.2.2) ++ (s.noc.winQ.filter (fun e => e.1 == p)).map (·.2)
  let s := s.setNoc { s.noc with
    win := s.noc.win.filter (fun e => e.1 != p), winQ := s.noc.winQ.filter (fun e => e.1 != p)
    winOld := s.noc.winOld.filter (fun e => e.1 != p), paced := s.noc.paced.map mine, sent := s.noc.sent.map mine
    resps := s.noc.resps.filter (fun x => x.req.init != 256 + p) }
  out.foldl (fun s r => respond s r stIsolated []) s

/-! Scratchpad banks (R300…R302). -/

/-- A bank's state code from a STATE or STBL field: 3 acts as 2. -/
def spCode (v : Nat) : Nat := if v = 3 then 2 else v

/-- A bank's contents lost: zeroed with valid check bits (Table NOC-7). -/
def spClear (s : State) (b : Nat) : State :=
  let lo := scratchBase + 2 ^ 20 * b
  let keep (a : Nat) : Bool := decide (a < lo) || decide (lo + 2 ^ 20 ≤ a)
  State.setNoc { s with mem := s.mem.filter (fun e => keep e.1) } { s.noc with spErr := s.noc.spErr.filter (fun e => keep (8 * e.1)) }

/-- A transition begun, or kept for the end of the present one (R300). -/
def spGo (s : State) (b goal : Nat) : State :=
  if s.noc.spTo.any (fun e => e.1 == b) then
    s.setNoc { s.noc with spNext := sinsert b goal (sdrop b s.noc.spNext) }
  else
    let now := s.fld (Reg.SP_BANK_STAT b) 2 0
    if now = goal then s
    else
      (s.setNoc { s.noc with spTo := sinsert b goal s.noc.spTo }).setFld (Reg.SP_BANK_STAT b) 2 0 (if goal = 0 ∨ now = 2 then 3 else 4)

/-- A transition ends (R300, Table NOC-7); what was written meanwhile then takes effect. -/
def spDone (s : State) (b goal : Nat) : State :=
  let s := (s.setNoc { s.noc with spTo := sdrop b s.noc.spTo }).setFld (Reg.SP_BANK_STAT b) 2 0 goal
  let s := (if goal = 2 then spClear s b else s).raise blkNoc 11
  match s.noc.spNext.find? (fun e => e.1 == b) with
  | some (_, n) => spGo (s.setNoc { s.noc with spNext := sdrop b s.noc.spNext }) b n
  | none => s

/-- SP_BANK_CFG_WRITE (R300). -/
def execSpBankCfgWrite (b : Fin 64) (value : BitVec 32) (s : State) : Out :=
  .next (spGo (s.setReg (Reg.SP_BANK_CFG b) (value &&& 0x33#32)) b (spCode (bitsOf value.toNat 1 0)))

/-- SP_STATE_DONE (R300). -/
def execSpStateDone (b : Fin 64) (s : State) : Out :=
  match s.noc.spTo.find? (fun e => e.1 == b.val) with
  | some (_, goal) => .next (spDone s b goal)
  | none => .next s

/-- SP_FLIP_ARM (R302, R303). -/
def execSpFlipArm (value : BitVec 32) (s : State) : Out :=
  if !modeIn s testModes then .next (s.raise blkNoc 31)
  else
    let v := value.toNat
    let mask := BitVec.ofNat 72 (s.regN Reg.SP_FLIP_0 + s.regN Reg.SP_FLIP_1 * 2 ^ 32 + v % 256 * 2 ^ 64)
    if v.testBit 31 then
      .next ((s.setNoc { s.noc with flip := some (s.fld Reg.SP_FLIP_SEL 5 0, mask) }).setRegN Reg.SP_FLIP_2 (v % 256 + 2 ^ 31))
    else
      .next ((s.setNoc { s.noc with flip := none }).setRegN Reg.SP_FLIP_2 (v % 256 + bit (s.flag Reg.SP_FLIP_2 30) * 2 ^ 30))

end Sys2Proof.Machine
end

