-- ==== Sys2Proof/Machine/Sdram.lean ====
section
/-! DEFINITION. Local SDRAM's controllers, the CXL root port and the PCIe endpoint (R306…R330). -/

namespace Sys2Proof.Machine

/-- The modes of MEM and CXL settings: BLANK, COMMISSION. -/
def setupModes : Nat := 0x14

/-- MERGE_FLUSH (R313): the oldest entry of a channel, 256 cycles after its first write. -/
def execMergeFlush (h : Fin 4) (s : State) : Out := .next (mergeOldest s h)

/-- REF_POSTPONED shows the larger count of the two ranks (DEDUCED, log entry 16). -/
def refShow (s : State) (h : Nat) : State :=
  s.setFld (Reg.MEM_STAT h) 7 4 (Nat.max (chanSt s h).post0 (chanSt s h).post1)

/-- REFRESH_DUE (R315): `busy` while a TIMED request for the rank waits or a training pause runs. -/
def execRefreshDue (h : Fin 4) (rank : Fin 2) (busy : Bool) (s : State) : Out :=
  if !chanReady s h || s.flag (Reg.MEM_STAT h) 2 then .next s
  else
    let c := chanSt s h
    let n := if rank.val = 0 then c.post0 else c.post1
    let put (s : State) (v : Nat) : State :=
      refShow (setChan s h (if rank.val = 0 then { chanSt s h with post0 := v } else { chanSt s h with post1 := v })) h
    if busy && n < 8 then .next (put s (n + 1))
    else if n = 0 then .next s
    else .next (put (s.count (Reg.MEM_REF_BURST_CNT h)) 0)

/-- INIT (R316). -/
def execInit (h : Fin 4) (s : State) : Out :=
  if !modeIn s setupModes then .next (s.raise blkMem 11)
  else if s.fld (Reg.MEM_STAT h) 1 0 = 0 ∨ s.fld (Reg.MEM_STAT h) 1 0 = 3 then .next (s.setFld (Reg.MEM_STAT h) 1 0 1)
  else .next s

/-- INIT_DONE (R316). -/
def execInitDone (h : Fin 4) (ok : Bool) (s : State) : Out :=
  if s.fld (Reg.MEM_STAT h) 1 0 ≠ 1 then .next s
  else if ok then .next ((s.setFld (Reg.MEM_STAT h) 1 0 2).raise blkMem 4)
  else .next (memLog ((s.setFld (Reg.MEM_STAT h) 1 0 3).raise blkMem 5) h 0 6 0 0)

/-- RETRAIN_DUE (R317). -/
def execRetrainDue (h : Fin 4) (s : State) : Out :=
  if chanReady s h then .next (setChan s h { chanSt s h with due := true }) else .next s

/-- The present tick is a training slot of a channel (R317). -/
def trainSlot (s : State) (h : Nat) : Bool :=
  tlT s.tim.tl % 64 == 0 && tlT s.tim.tl / 64 % s.fld (Reg.MEM_SLOT_PERIOD h) 24 0 == s.fld (Reg.MEM_SLOT_OFS h) 24 0

/-- A due retraining done. -/
def retrain (s : State) (h : Nat) : State :=
  (setChan s h { chanSt s h with due := false }).count (Reg.MEM_TRAIN_CNT h)

/-- TRAINING_SLOT (R317). -/
def execTrainingSlot (h : Fin 4) (s : State) : Out :=
  if (chanSt s h).due && trainSlot s h then .next (retrain s h) else .next s

/-- TRAIN_FORCED (R317): MAXWAIT has passed without a slot. -/
def execTrainForced (h : Fin 4) (s : State) : Out :=
  if (chanSt s h).due then .next (((retrain s h).count (Reg.MEM_TRAIN_FORCED_CNT h)).raise blkMem 6) else .next s

/-- The physical address of a channel address: the one of its candidates that R308 sends to the channel. -/
def sysAddr (s : State) (h c : Nat) : Nat :=
  match chCount s with
  | 1 => sdBase + c
  | 2 =>
    let a (b : Nat) : Nat := c % 256 + b * 256 + c / 256 * 512
    sdBase + (if chanOf s (a 0) = h then a 0 else a 1)
  | _ =>
    let a (b : Nat) : Nat := c % 256 + b * 256 + c / 256 * 1024
    sdBase + a (((List.range 4).find? (fun b => chanOf s (a b) == h)).getD 0)

/-- PATROL_READ (R319): the next line of the channel. -/
def execPatrolRead (h : Fin 4) (s : State) : Out :=
  if s.fld (Reg.MEM_PATROL h) 15 0 = 0 ∨ !chanReady s h then .next s
  else
    let c := chanSt s h
    let s := (lineRead s (sysAddr s h (64 * c.patrol) / 64) 4 5).1
    .next (setChan s h { chanSt s h with patrol := (c.patrol + 1) % (chanUse s / 64) })

/-- RETIRE_PAGE (R320): the page's merge entries are flushed and its copy begins. -/
def execRetirePage (h : Fin 4) (s : State) : Out :=
  let page := s.fld (Reg.MEM_RETIRE_ARG h) 23 0
  let used (n : Nat) : Bool := s.flag (Reg.MEM_REMAP h n) 31
  if (List.range 256).any (fun n => used n && s.fld (Reg.MEM_REMAP h n) 23 0 == page) || (chanSt s h).page.isSome then .next s
  else
    match (List.range 256).find? (fun n => !used n) with
    | none => .next (s.raise blkMem 8)
    | some n =>
      let mine := (chanSt s h).merge.filter (fun m => (lineChan s m.line).2 / 4096 == page)
      let s := mine.foldl (fun s m => mergeFlush s h m) s
      .next ((setChan s h { chanSt s h with page := some (page, n) }).setFlag (Reg.MEM_STAT h) 3 true)

/-- A line copied: corrected where it can be, else written as under R314. -/
def lineCopy (s : State) (l : Nat) : State :=
  if lineUe s l then setLineErr (lineFresh s l) l { poison := true } else lineBack s l

/-- RETIRE_PAGE_DONE (R320). -/
def execRetirePageDone (h : Fin 4) (s : State) : Out :=
  match (chanSt s h).page with
  | none => .next s
  | some (page, n) =>
    let s := (List.range 64).foldl (fun s i => lineCopy s (sysAddr s h (4096 * page + 64 * i) / 64)) s
    let s := setChan s h { chanSt s h with page := none }
    let s := (s.setRegN (Reg.MEM_REMAP h n) (page + 2 ^ 31)).setFlag (Reg.MEM_STAT h) 3 (chanSt s h).bank.isSome
    let s := s.setFld (Reg.MEM_STAT h) 16 8 (s.fld (Reg.MEM_STAT h) 16 8 + 1)
    .next (memLog s h (4096 * page) 7 0 0)

/-- RETIRE_BANK (R321). -/
def execRetireBank (h : Fin 4) (s : State) : Out :=
  let c := chanSt s h
  if s.flag (Reg.MEM_SPARE h) 0 && c.bank.isNone && c.retired.isNone then
    let s := setChan s h { c with bank := some (s.fld (Reg.MEM_RETIRE_ARG h) 6 0) }
    .next ((s.setFlag (Reg.MEM_STAT h) 3 true).setRegN (Reg.MEM_RETIRE_ROW h) 0)
  else .next (s.raise blkMem 11)

/-- RETIRE_DONE (R321): every row has been copied; lines with errors are corrected or written as under R314 on the way. -/
def execRetireDone (h : Fin 4) (s : State) : Out :=
  match (chanSt s h).bank with
  | none => .next s
  | some b =>
    let mine := s.ext.errs.filter (fun e => (lineChan s e.1).1 == h.val && (bankOf s h (lineChan s e.1).2).1 == b)
    let s := mine.foldl (fun s e => lineCopy s e.1) s
    let s := setChan s h { chanSt s h with bank := none, retired := some b }
    let s := s.setRegN (Reg.MEM_RETIRE_ROW h) (2 ^ (16 + s.fld (Reg.MEM_CFG 0) 2 2))
    let s := (s.setFlag (Reg.MEM_STAT h) 3 (chanSt s h).page.isSome).raise blkMem 9
    .next (memLog s h 0 8 0 0)

/-- MEM_FLIP_ARM (R322, R330). -/
def execMemFlipArm (h : Fin 4) (value : BitVec 32) (s : State) : Out :=
  if !modeIn s testModes then .next (s.raise blkMem 31)
  else
    let a := Reg.MEM_FLIP_CTL h
    let mask := BitVec.ofNat 160 (((List.range 4).map (fun w => s.regN (Reg.MEM_FLIP h w) * 2 ^ (32 * w))).sum
      + s.regN (Reg.MEM_FLIP_4 h) * 2 ^ 128)
    if value.getLsbD 31 then .next ((setChan s h { chanSt s h with flip := some mask }).setRegN a (2 ^ 31))
    else .next ((setChan s h { chanSt s h with flip := none }).setFlag a 31 false)

/-- MEM_LOG_READ (R318): a normal read of MEM_LOG_3 pops the head. -/
def execMemLogRead (h : Fin 4) (init : Fin 512) (s : State) : Out :=
  let l := (chanSt s h).log
  let s := s.answer init 0 [logWord l 3]
  if init.val = debugInit ∨ l.q.isEmpty then .next s
  else
    let (s, l) := logPop s l (Reg.MEM_LOG_STAT h)
    .next (setChan s h { chanSt s h with log := l })

/-! Rules on writes of the memory settings (R307…R309, R317, R329), for control-space writes that the mode permits. -/

/-- A mask of R308 holds its own bit, and none below 8. -/
def chMaskOk (m k : Nat) : Bool := m.testBit (8 + k) && m % 256 == 0
/-- The channel map obeys R308. -/
def mapOk (s : State) : Bool :=
  chMaskOk (chMask0 s) 0 && chMaskOk (chMask1 s) 1 && s.fld Reg.MEM_MAP 1 0 != 3
    && (s.fld Reg.MEM_MAP 1 0 != 2 || (!(chMask0 s).testBit 9 && !(chMask1 s).testBit 8))
/-- A bank mask holds its own home bit and no other (R309). -/
def homeOk (v k : Nat) : Bool := bitsOf v 11 7 == 2 ^ k

/-- A write taken only when a rule holds after it; else MEM_REFUSED. -/
def writeIf (s t : State) (ok : Bool) : State := if ok then t else s.raise blkMem 11

/-- A write of a memory setting by its rules; none for a register without one. -/
def memHook (s : State) (init a v : Nat) : Option State :=
  let t := s.setRegN a v
  let o := (a - blockBase blkMem) % 0x100000
  if blkMem ≠ blockOf a then none
  else if a = Reg.MEM_MAP ∨ a = Reg.MEM_CH_MASK_0_LO ∨ a = Reg.MEM_CH_MASK_0_HI ∨ a = Reg.MEM_CH_MASK_1_LO ∨ a = Reg.MEM_CH_MASK_1_HI then
    some (writeIf s t (mapOk t))
  else if a = Reg.PCIE_BAR4_TGT then some (if init = 436 ∧ !([blkSec, blkOut, blkDbg].contains v) then t else s)
  else if 0x45400000 ≤ a then none
  else if o = 0 then some (writeIf s t (!(v.testBit 2 && v.testBit 3)))
  else if 0x0C ≤ o ∧ o ≤ 0x1C then some (writeIf s t (homeOk v ((o - 0x0C) / 4)))
  else if o = 0x24 then some (writeIf s t (decide (v ≠ 0) && 30720000 % v == 0))
  else none

/-! CXL (R324…R328). -/

/-- A decoder is committed. -/
def decOn (s : State) (d : Nat) : Bool := s.flag (Reg.CXL_DEC_CTL d) 1
/-- Its base and end in units of 256 MiB. -/
def decBase (s : State) (d : Nat) : Nat := s.fld (Reg.CXL_DEC_BASE d) 11 0
/-- Its end. -/
def decEnd (s : State) (d : Nat) : Nat := decBase s d + s.fld (Reg.CXL_DEC_SIZE d) 12 0
/-- A port's link is up. -/
def cxlUp (s : State) (p : Nat) : Bool := s.flag Reg.CXL_STAT (8 * p)

/-- The decoder of an address. -/
def decOf (s : State) (a : Nat) : Option Nat :=
  let u := (a - hdmBase) / 2 ^ 28
  (List.range 4).find? (fun d => decOn s d && decide (decBase s d ≤ u) && decide (u < decEnd s d))
/-- The port of an address in a decoder (R326). -/
def decPort (s : State) (d a : Nat) : Nat :=
  let c := Reg.CXL_DEC_CTL d
  let w := if s.flag c 3 then (a - hdmBase - decBase s d * 2 ^ 28) / 2 ^ (8 + s.fld c 6 4) % 2 else 0
  s.fld c (7 + w) (7 + w)

/-- A decoder's checks fail (R325). -/
def decBad (s : State) (d : Nat) : Bool :=
  let c := Reg.CXL_DEC_CTL d
  let n := s.fld (Reg.CXL_DEC_SIZE d) 12 0
  let two := s.flag c 3
  decide (n = 0) || (two && n % 2 == 1) || decide (4096 < decEnd s d)
    || (decide (0 < d) && decOn s (d - 1) && decide (decBase s d < decEnd s (d - 1)))
    || (two && !s.flag Reg.CXL_CTL 1) || !cxlUp s (s.fld c 7 7) || (two && !cxlUp s (s.fld c 8 8))

/-- CXL_DEC_COMMIT (R325): a write of CXL_DEC_CTL; once committed only COMMIT = 0 has effect. -/
def execCxlDecCommit (d : Fin 4) (value : BitVec 32) (s : State) : Out :=
  let c := Reg.CXL_DEC_CTL d
  let v := Nat.land value.toNat 0x1F9
  if decOn s d then .next (if v.testBit 0 then s else (s.setFlag c 0 false).setFlag c 1 false)
  else
    let s := s.setRegN c (v + bit (s.flag c 2) * 4)
    if v.testBit 0 then
      if decBad s d then .next ((s.setFlag c 2 true).raise blkMem 14)
      else .next ((s.setFlag c 2 false).setFlag c 1 true)
    else .next s

/-- The outstanding CXL request of a tag. -/
def cxlReq (s : State) (i t : Nat) : Option NocReq := s.ext.cxl.find? (fun r => r.init == i && r.tag == t)
/-- The state without it. -/
def cxlDrop (s : State) (r : NocReq) : State := { s with ext := { s.ext with cxl := s.ext.cxl.erase r } }

/-- CXL_RESPONSE (R326): the request has its effect and is answered; poisoned data is answered POISON. -/
def execCxlResponse (init : Fin 512) (tag : BitVec 8) (poison : Bool) (s : State) : Out :=
  match cxlReq s init tag.toNat with
  | none => .next s
  | some r =>
    let s := cxlDrop s r
    if r.op = 1 then .next (respond (s.viewWrite r.kix r.addr r.data) r 0 [])
    else if poison then .next (respond (s.count Reg.CXL_POISON_CNT) r stPoison [])
    else .next (respond s r 0 (s.viewBytes r.kix r.addr r.len))

/-- CXL_TIMEOUT (R327). -/
def execCxlTimeout (init : Fin 512) (tag : BitVec 8) (s : State) : Out :=
  match cxlReq s init tag.toNat with
  | none => .next s
  | some r => .next ((respond ((cxlDrop s r).count Reg.CXL_TO_CNT) r stTarget []).raise blkMem 13)

/-- A CXL port exists and is enabled (R324). -/
def cxlPortOn (s : State) (p : Nat) : Bool := s.flag Reg.CXL_CTL 0 && (p == 0 || s.flag Reg.CXL_CTL 1)

/-- CXL_LINK_CHG (R327): a link going down answers its outstanding requests TARGET. -/
def execCxlLinkChg (port : Fin 2) (up : Bool) (width : Fin 8) (gen : Fin 8) (s : State) : Out :=
  if up && !cxlPortOn s port || up == cxlUp s port then .next s
  else
    let o := 8 * port.val
    let s := (s.setFld Reg.CXL_STAT (o + 6) o (if up then 1 + 2 * width.val + 16 * gen.val else 0)).raise blkMem 12
    if up then .next s
    else
      let hit (r : NocReq) : Bool := (decOf s r.addr).any (fun d => decPort s d r.addr == port.val)
      let out := s.ext.cxl.filter hit
      .next (out.foldl (fun s r => respond s r stTarget [])
        { s with ext := { s.ext with cxl := s.ext.cxl.filter (fun r => !hit r) } })

/-- CXL_ECAM_ACCESS (R328): forwarded to the function, whose answer is `got`; one that does not answer reads all ones. -/
def execCxlEcamAccess (init : Fin 512) (wr : Bool) (_ofs : Fin 1048576) (_value : BitVec 32) (got : Option (BitVec 32)) (s : State) : Out :=
  .next (s.answer init 0 (if wr then [] else [(got.getD 0xFFFFFFFF#32).toNat]))

/-! The PCIe endpoint (R329). -/

/-- The answer status that stands for a Completer Abort on PCIe (log entry 9). -/
def stAbort : Nat := 8

/-- PCIE_INBOUND (R329): a request through BAR_0, BAR_2 or BAR_4 issued as initiator 444; aborted in STABLE. -/
def execPcieInbound (bar : Fin 3) (wr : Bool) (ofs : BitVec 26) (len : Fin 256) (tag : BitVec 8) (data : List Byte) (s : State) : Out :=
  if !s.flag Reg.PCIE_STAT 0 then .next s
  else if s.mode = mStable then .next (s.answer 444 stAbort [])
  else
    let o := ofs.toNat
    let a := match bar.val with
      | 0 => scratchBase + o
      | 1 => blockBase blkPac + o % 2 ^ 24
      | _ => blockBase (s.fld Reg.PCIE_BAR4_TGT 3 0) + o % 2 ^ 24
    let n := len.val + 1
    .next (inject s (reqOf s 444 (if wr then 1 else 0) a n tag.toNat (padTo (if wr then n else 0) data)))

/-- PCIE_LINK_CHG (R329, R331). -/
def execPcieLinkChg (up : Bool) (width : Fin 32) (gen : Fin 8) (s : State) : Out :=
  .next ((s.setRegN Reg.PCIE_STAT (if up then 1 + 2 * width.val + 64 * gen.val else 0)).raise blkMem 15)

end Sys2Proof.Machine
end

