-- ==== Sys2Proof/Machine/Imp.lean ====
section
/-! DEFINITION. Inline memory encryption and integrity (R333…R355): reads and the late alarm, the tile buffer, nodes and
poisoning, ranges, and the key roll. -/

namespace Sys2Proof.Machine

/-- The modes of range settings: BLANK, COMMISSION, ACQUIRE (R354). -/
def rngModes : Nat := 0x34

/-- IMP_STAT's derived fields: committed ranges, poison entries in use, tile-buffer fill. -/
def impStat (s : State) : State :=
  let r := ((List.range 16).map (fun n => bit (rngOn s n) * 2 ^ n)).sum
  let p := ((List.range 64).filter (fun e => s.flag (Reg.IMP_POISON e) 31)).length
  s.setRegN Reg.IMP_STAT (r + satNat 6 p * 2 ^ 16 + s.imp.buf.length * 2 ^ 24)

/-- Key slots named by committed ENC and ENC_INT ranges and by a roll (Table IMP-5). -/
def slotStat (s : State) : State :=
  let named (k : Nat) : Bool := (List.range 16).any (fun n => rngOn s n && rngMode s n != 0 && s.fld (Reg.IMP_RNG_CTL n) 7 2 == k)
  let rolling := s.fld Reg.IMP_ROLL_STAT 1 0 != 0
  (List.range 64).foldl (fun s k =>
    (s.setFlag (Reg.IMP_KSLOT_STAT k) 1 (named k)).setFlag (Reg.IMP_KSLOT_STAT k) 2 (rolling && s.fld Reg.IMP_ROLL_STAT 21 16 == k)) s

/-- An entry in the IMP log (Table IMP-7). -/
def impLog (s : State) (addr init cause cls : Nat) : State :=
  let (t, l) := logPush s s.imp.log
    (addr % 2 ^ 32 + (addr / 2 ^ 32 + init * 2 ^ 16 + cause * 2 ^ 28) * 2 ^ 32 + s.pt * 2 ^ 64 + cls * 2 ^ 96) 112 Reg.IMP_LOG_STAT blkMem 28
  t.setImp { t.imp with log := l }

/-- A late alarm sent to the Pacer (R345). -/
def impAlarm (s : State) (r : NocReq) (cls : Nat) : State :=
  let s := (s.count Reg.IMP_ALARM_CNT).raise blkMem 17
  let i := r.init
  if i < 256 then s.alarm 0 i r.addr cls
  else if i < 400 then
    ((List.range 512).filter (fun h => hpPaddock h == i - 256)).foldl (fun s h => s.alarm 1 h r.addr cls) s
  else if i < 432 then s.alarm 2 (i - 400) r.addr cls
  else s.alarm 3 0 r.addr cls

/-- Whether a request's reads are speculative (R344). -/
def isSpec (r : NocReq) : Bool := !r.await && (r.init < 432 || r.init == 433)

/-- A read answered POISON at once with zero data, for a lost or poisoned subtree (Table IMP-3). -/
def poisonRead (s : State) (r : NocReq) (cause : Nat) : State :=
  let s := respond s r stPoison []
  let s := if isSpec r then impAlarm s r 2 else s
  impLog s r.addr r.init cause (if isSpec r then 2 else 0)

/-- The boundary tile is claimed by the roll engine (R350). -/
def claimed (s : State) (tile : Nat) : Bool := s.imp.claim && rollB s == 512 * tile

/-- Bytes of a tile for a request. -/
def sliceReq (l : List Byte) (r : NocReq) : List Byte := slice l (r.addr % 512) r.len

/-! The tile buffer (R346). -/

/-- The state with the buffer replaced. -/
def setBuf (s : State) (b : List TileBuf) : State := impStat (s.setImp { s.imp with buf := b })
/-- An entry's written bytes cover its tile. -/
def bufFull (b : TileBuf) : Bool := decide (b.bytes.length = 512)
/-- An entry's plaintext: written bytes over the old contents. -/
def bufPlain (b : TileBuf) : List Byte :=
  (List.range 512).map (fun i => (lastAt b.bytes i).getD ((b.old.getD []).getD i 0))
/-- An entry may be written back: its old contents are known or covered. -/
def bufReady (b : TileBuf) : Bool := b.old.isSome || bufFull b

/-- An entry's writes acknowledged. -/
def bufAck (s : State) (tile : Nat) : State :=
  match tileBuf s tile with
  | none => s
  | some b =>
    let s := setBuf s (s.imp.buf.map (fun x => if x.tile = tile then { x with reqs := [] } else x))
    b.reqs.foldl (fun s r => respond s r 0 []) s

/-- An entry written back and freed (R346). -/
def bufBack (s : State) (b : TileBuf) : State :=
  let s := setBuf s (s.imp.buf.filter (fun x => x.tile != b.tile))
  match impKind s (512 * b.tile) b.kix with
  | .encInt r => tileBack s r b.tile (bufPlain b)
  | .enc k => encWrite s k b.tile (bufPlain b)
  | _ => s

/-- An entry whose verification failed: unless its bytes cover the tile, its writes are answered POISON and it is freed. -/
def bufFail (s : State) (tile : Nat) : State :=
  match tileBuf s tile with
  | none => s
  | some b =>
    if bufFull b then s
    else b.reqs.foldl (fun s r => respond s r stPoison []) (setBuf s (s.imp.buf.filter (fun x => x.tile != tile)))

/-- An entry's old contents verified. -/
def bufOld (s : State) (tile : Nat) (l : List Byte) : State :=
  bufAck (setBuf s (s.imp.buf.map (fun x => if x.tile = tile then { x with old := some l } else x))) tile

/-- A write enters or merges into the buffer (R346). -/
def bufEnter (s : State) (r : NocReq) (k : ImpKind) : State :=
  let tile := r.addr / 512
  let o := r.addr % 512
  match tileBuf s tile with
  | some b =>
    let b := { b with bytes := putBytes b.bytes o r.data, reqs := b.reqs ++ [r] }
    let s := setBuf s (s.imp.buf.map (fun x => if x.tile = tile then b else x))
    if bufReady b then bufAck s tile else s
  | none =>
    let s := setBuf s (s.imp.buf ++ [{ tile := tile, kix := r.kix, bytes := putBytes [] o r.data, reqs := [r] }])
    match k with
    | .enc slot =>
      let (s, ue) := physRead s (512 * tile) 512
      if ue then bufFail s tile else bufOld s tile (encPlain s slot tile)
    | _ => s.setImp { s.imp with reads := s.imp.reads ++ [{ tile := tile, req := none }] }

/-- IMP_TILE_WRITE (R341, R346): a waiting write of a protected tile; with no free entry the oldest that can is written back
first. -/
def execImpTileWrite (init : Fin 512) (tag : BitVec 8) (s : State) : Out :=
  match s.imp.writes.find? (fun r => r.init == init.val && r.tag == tag.toNat) with
  | none => .next s
  | some r =>
    let tile := r.addr / 512
    if claimed s tile then .next s
    else
      let drop (s : State) : State := s.setImp { s.imp with writes := s.imp.writes.erase r }
      let k := impKind s r.addr r.kix
      let bad : Option Nat := match k with
        | .encInt n => if poisonHits s n tile then some stPoison else if ctrFull s n tile then some stTarget else none
        | .enc _ => none
        | _ => some stTarget
      match bad with
      | some st => .next ((respond (drop s) r st []).raise blkMem (if st = stPoison then 22 else 23))
      | none =>
        if (tileBuf s tile).isSome || decide (s.imp.buf.length < 32) then .next (bufEnter (drop s) r k)
        else
          match s.imp.buf.find? bufReady with
          | some b => .next (bufEnter (bufBack (drop s) b) r k)
          | none => .next s

/-- IMP_TILE_WRITEBACK (R346): 128 NoC cycles after an entry's first write. -/
def execImpTileWriteback (tile : BitVec 39) (s : State) : Out :=
  match tileBuf s tile.toNat with
  | some b => if bufReady b then .next (bufBack s b) else .next s
  | none => .next s

/-! Reads of ENC_INT tiles (R343…R345). -/

/-- The nodes of a tile's path are known: cached, or all zero under a counter of 0. -/
def pathKnown (s : State) (r tile : Nat) : Bool :=
  (pathOf s r tile).all (fun p =>
    (cachedNode s r p.1 p.2).isSome || (nodeCtrs s r (p.1 - 1) (p.2 / 8)).getD (p.2 % 8) 0 == 0)

/-- The tag stored for a tile matches its ciphertext under its slot and counter. -/
def tagGood (s : State) (r tile : Nat) : Bool :=
  let ct := physBytes s (512 * tile) 512
  leNat (physBytes s (rngMeta s r + 8 * tileIx s r tile) 8) == (tileTagOf s (slotFor s r tile) tile (tileCtr s r tile) ct).toNat

/-- IMP_TILE_READ (R343, R345): the oldest waiting read of a tile whose path is known. -/
def execImpTileRead (tile : BitVec 39) (s : State) : Out :=
  let t := tile.toNat
  match s.imp.reads.find? (fun x => x.tile == t), rngOf s (512 * t) with
  | some x, some r =>
    let drop (s : State) : State := s.setImp { s.imp with reads := s.imp.reads.erase x }
    if poisonHits s r t then
      match x.req with
      | some q => .next (poisonRead (drop s) q 5)
      | none => .next (bufFail (drop s) t)
    else if claimed s t || !pathKnown s r t then .next s
    else
      let s := drop s
      if tileCtr s r t = 0 then
        match x.req with
        | some q => .next (respond s q 0 (List.replicate q.len 0))
        | none => .next (bufOld s t (List.replicate 512 0))
      else
        let (s, ue) := physRead s (512 * t) 512
        if ue then
          match x.req with
          | some q => .next (respond s q stPoison [])
          | none => .next (bufFail s t)
        else
          let good := tagGood s r t
          let plain := tilePlain s r t
          let (s, tagUe) := physRead s ((rngMeta s r + 8 * tileIx s r t) / 64 * 64) 64
          let spec := x.req.any isSpec
          let s := match x.req with
            | some q => if isSpec q then respond s q 0 (sliceReq plain q) else s
            | none => s
          .next (s.setImp { s.imp with checks := s.imp.checks ++ [{ tile := t, req := x.req, spec, good, tagUe, data := plain }] })
  | _, _ => .next s

/-- The end of a check by its logged cause, 0 when the tag matches (Table IMP-3). -/
def checkEnd (s : State) (c : ImpCheck) (cause : Nat) : State :=
  let s := s.setImp { s.imp with checks := s.imp.checks.erase c }
  if cause = 0 then
    match c.req with
    | some q => if c.spec then s else respond s q 0 (sliceReq c.data q)
    | none => bufOld s c.tile c.data
  else
    let s := (s.count Reg.IMP_TAG_FAIL_CNT).raise blkMem 16
    match c.req with
    | some q =>
      if c.spec then
        let cls := if cause = 3 then 3 else 1
        impLog (impAlarm s q cls) q.addr q.init cause cls
      else impLog (respond s q stPoison []) q.addr q.init cause 0
    | none =>
      let who := ((tileBuf s c.tile).bind (fun b => b.reqs.head?)).map (·.init)
      impLog (bufFail s c.tile) (512 * c.tile) (who.getD 0) cause 0

/-- IMP_TAG_CHECK (R345). -/
def execImpTagCheck (tile : BitVec 39) (s : State) : Out :=
  match s.imp.checks.find? (fun c => c.tile == tile.toNat) with
  | some c => .next (checkEnd s c (if c.tagUe then 3 else if c.good then 0 else 1))
  | none => .next s

/-- IMP_CHECK_TIMEOUT (R345): a check not completed within 200 ns is deemed failed; the tag that arrives later is ignored. -/
def execImpCheckTimeout (tile : BitVec 39) (s : State) : Out :=
  match s.imp.checks.find? (fun c => c.tile == tile.toNat) with
  | some c => .next (checkEnd s c 2)
  | none => .next s

/-! Nodes and poisoning (R342, R347, R348). -/

/-- A tile's path passes through a node. -/
def passes (s : State) (r l j tile : Nat) : Bool :=
  rngOf s (512 * tile) == some r && (l == 0 || (pathOf s r tile).contains (l, j))

/-- A failed node's subtree poisoned (R347). -/
def poisonNode (s : State) (r l j : Nat) : State :=
  let put (s : State) (e lv ix : Nat) : State :=
    (s.setRegN (Reg.IMP_POISON e) (2 ^ 31 + r * 2 ^ 24 + lv * 2 ^ 20)).setRegN (Reg.IMP_POISON e + 4) ix
  let s := match (List.range 64).find? (fun e => !s.flag (Reg.IMP_POISON e) 31) with
    | some e => put s e l j
    | none =>
      let mine := (List.range 64).filter (fun e => poisonOf s e r)
      let s := (mine.foldl (fun (s : State) e => s.setRegN (Reg.IMP_POISON e) 0) s).raise blkMem 20
      match mine with
      | e :: _ => put s e 0 0
      | [] => s
  impStat (((s.setFlag (Reg.IMP_RNG_CTL r) 12 true).count Reg.IMP_POISON_CNT).raise blkMem 19)

/-- The 64 bytes of a node hold counters whose tag verifies under the node's own counter. -/
def nodeGood (s : State) (r addr ctr : Nat) : Bool :=
  let b := physBytes s addr 64
  leNat (b.drop 56) == (nodeTagOf s r addr ctr (b.take 56)).toNat

/-- A read of a node's line: counted as NODE_CE when a correction was made (R347); whether it is uncorrectable. -/
def nodeFetch (s : State) (a : Nat) : State × Bool :=
  let ce := inSdram a && (lineReads s (a / 64)).any (fun x => x != .good) && !lineUe s (a / 64)
  let (s, ue) := physRead s a 64
  (if ce then (s.count Reg.IMP_NODE_CE_CNT).raise blkMem 30 else s, ue)

/-- IMP_NODE_VERIFY (R342, R347): a fetched node whose parent is known is verified, repaired from its twin, or its subtree
poisoned before the reads that wait for it are answered. -/
def execImpNodeVerify (rng : Fin 16) (level : Fin 12) (idx : BitVec 32) (s : State) : Out :=
  let r := rng.val
  let l := level.val
  let j := idx.toNat
  let n := rngTiles s r
  let d := depthOf n
  if !rngOn s r || rngMode s r != 2 || l == 0 || d < l || nodesAt n d l ≤ j || (cachedNode s r l j).isSome
      || (decide (1 < l) && (cachedNode s r (l - 1) (j / 8)).isNone) then .next s
  else
    let c := (nodeCtrs s r (l - 1) (j / 8)).getD (j % 8) 0
    if c = 0 then .next (cacheIn s { rng := r, level := l, idx := j, ctrs := List.replicate 8 0, dirty := false })
    else
      let a := nodeAddr s r l j
      let (s, ue) := nodeFetch s a
      if !ue && nodeGood s r a c then
        .next (cacheIn s { rng := r, level := l, idx := j, ctrs := parseCtrs (physBytes s a 56), dirty := false })
      else
        let t := twinAddr s r l j
        let (s, ue2) := if l ≤ 3 then nodeFetch s t else (s, true)
        if !ue2 && nodeGood s r t c then
          let b := physBytes s t 56
          let s := physWrite s a (b ++ leBytes 8 (nodeTagOf s r a c b).toNat)
          let s := physWrite s t (b ++ leBytes 8 (nodeTagOf s r t c b).toNat)
          let s := (s.count Reg.IMP_NODE_FIX_CNT).raise blkMem 18
          .next (cacheIn s { rng := r, level := l, idx := j, ctrs := parseCtrs b, dirty := false })
        else
          let s := poisonNode s r l j
          let hit := s.imp.reads.filter (fun x => passes s r l j x.tile)
          let s := s.setImp { s.imp with reads := s.imp.reads.filter (fun x => !passes s r l j x.tile) }
          .next (hit.foldl (fun s x => match x.req with
            | some q => poisonRead s q 4
            | none => bufFail s x.tile) s)

/-- A node's ancestors in the cache, as the tree stands. -/
def cacheAbove (s : State) (r l j : Nat) : State :=
  (List.range (l - 1)).foldl (fun s i =>
    let lv := i + 1
    let ix := j / 8 ^ (l - lv)
    match cachedNode s r lv ix with
    | some _ => s
    | none => cacheIn s { rng := r, level := lv, idx := ix, ctrs := nodeCtrs s r lv ix, dirty := false }) s

/-- A node lies in the subtree of another. -/
def nodeUnder (r l j : Nat) (n : Node) : Bool := n.rng == r && decide (l ≤ n.level) && n.idx / 8 ^ (n.level - l) == j

/-- IMP_RESEED (R348). -/
def execImpReseed (value : BitVec 32) (s : State) : Out :=
  let e := bitsOf value.toNat 5 0
  if !s.flag (Reg.IMP_POISON e) 31 then .next s
  else
    let r := s.fld (Reg.IMP_POISON e) 27 24
    let l := s.fld (Reg.IMP_POISON e) 23 20
    let j := s.regN (Reg.IMP_POISON e + 4)
    let s := setBuf s (s.imp.buf.filter (fun b => !passes s r l j b.tile))
    let s := s.setImp { s.imp with cache := s.imp.cache.filter (fun n => !(if l = 0 then n.rng == r else nodeUnder r l j n)) }
    let s :=
      if l = 0 then setCtrs s r 0 0 (List.replicate 8 0)
      else nodeBack (cacheAbove s r l j) { rng := r, level := l, idx := j, ctrs := List.replicate 8 0, dirty := true }
    let s := (s.setRegN (Reg.IMP_POISON e) 0).setRegN (Reg.IMP_POISON e + 4) 0
    let s := s.setFlag (Reg.IMP_RNG_CTL r) 12 ((List.range 64).any (fun x => poisonOf s x r))
    .next ((impStat s).raise blkMem 21)

/-! Ranges (R335, R354). -/

/-- Two byte ranges overlap. -/
def overlap (a n b m : Nat) : Bool := decide (a < b + m) && decide (b < a + n) && decide (0 < n) && decide (0 < m)

/-- A byte range lies wholly in one tier: below local SDRAM's fitted capacity, or in the HDM range without crossing the border
of a committed decoder (R335). 1 local SDRAM, 2 HDM. -/
def tierOf (s : State) (a n : Nat) : Option Nat :=
  if inSdram a then (if a + n ≤ sdBase + sdFitted s then some 1 else none)
  else if inHdm a ∧ a + n ≤ hdmBase + 2 ^ 40 then
    let cross := (List.range 4).any (fun d => decOn s d &&
      let lo := hdmBase + decBase s d * 2 ^ 28
      let hi := hdmBase + decEnd s d * 2 ^ 28
      overlap a n lo (hi - lo) && !(decide (lo ≤ a) && decide (a + n ≤ hi)))
    if cross then none else some 2
  else none

/-- The byte ranges a range takes: its own, and with ENC_INT its metadata region. -/
def rngParts (s : State) (n : Nat) : List (Nat × Nat) :=
  (rngBase s n, rngSize s n) :: (if rngMode s n = 2 then [(rngMeta s n, 4096 * metaUnits (rngTiles s n))] else [])

/-- A commit's checks fail (R335). -/
def commitBad (s : State) (n : Nat) : Bool :=
  let parts := rngParts s n
  let tiers := parts.map (fun p => tierOf s p.1 p.2)
  rngSize s n == 0 || rngMode s n == 3 || decide (2 ^ 40 < rngSize s n)
    || tiers.any (·.isNone) || tiers.any (· != tiers.head?.getD none)
    || (List.range 16).any (fun m => m != n && rngOn s m && (rngParts s m).any (fun q => parts.any (fun p => overlap p.1 p.2 q.1 q.2)))
    || (rngMode s n == 2 && overlap (rngBase s n) (rngSize s n) (rngMeta s n) (4096 * metaUnits (rngTiles s n)))
    || (rngMode s n != 0 && !slotLoaded s (s.fld (Reg.IMP_RNG_CTL n) 7 2))
    || s.flag (Reg.IMP_RNG_CTL n) 11

/-- IMP_RNG_META_SIZE and IMP_RNG_DEPTH of a range's size (R339, R340). -/
def rngShow (s : State) (n : Nat) : State :=
  let t := rngTiles s n
  if t = 0 then (s.setRegN (Reg.IMP_RNG_META_SIZE n) 0).setRegN (Reg.IMP_RNG_DEPTH n) 0
  else (s.setRegN (Reg.IMP_RNG_META_SIZE n) (metaUnits t)).setRegN (Reg.IMP_RNG_DEPTH n) (depthOf t)

/-- The 32 bytes of a key drawn from the TRNG. -/
def freshKey (s : State) : State × List Byte :=
  (List.range 4).foldl (fun (r : State × List Byte) _ => (r.1.took, r.2 ++ leBytes 8 r.1.free)) (s, [])

/-- A commit (R335). -/
def rngCommit (s : State) (n : Nat) : State :=
  let c := Reg.IMP_RNG_CTL n
  if commitBad s n then (s.setFlag c 10 true).raise blkMem 26
  else
    let s := (s.setFlag c 9 true).setFlag c 10 false
    let s := if rngMode s n = 2 then
        let (s, k) := freshKey s
        let s := setCtrs s n 0 0 (List.replicate 8 0)
        s.setImp { s.imp with nkeys := sinsert n k (sdrop n s.imp.nkeys) }
      else s
    slotStat (impStat s)

/-- IMP_RANGE_COMMIT (R335, R354): a write of IMP_RNG_CTL with COMMIT = 1. -/
def execImpRangeCommit (n : Fin 16) (value : BitVec 32) (s : State) : Out :=
  if !modeIn s rngModes then .next (s.raise blkMem 31)
  else if rngOn s n then .next s
  else
    let c := Reg.IMP_RNG_CTL n
    .next (rngCommit (rngShow ((s.setFld c 7 0 value.toNat).setFlag c 8 true) n) n)

/-- Every cached node of a range written back where dirty and dropped, children first. -/
def evictRng : Nat → State → Nat → State
  | 0, s, _ => s
  | k + 1, s, r =>
    match s.imp.cache.find? (fun n => n.rng == r && childless s n) with
    | none => s
    | some n =>
      let s := if n.dirty then nodeBack s n else s
      evictRng k (s.setImp { s.imp with cache := s.imp.cache.filter (fun x => !(x.rng == n.rng && x.level == n.level && x.idx == n.idx)) }) r

/-- A decommit (R335): dirty tiles and nodes written back, then root and node key discarded. -/
def rngDecommit (s : State) (n : Nat) : State :=
  let mine := s.imp.buf.filter (fun b => rngOf s (512 * b.tile) == some n)
  let s := mine.foldl (fun s b => if bufReady b then bufBack s b else bufFail s b.tile) s
  let s := evictRng s.imp.cache.length s n
  let s := s.setImp { s.imp with roots := sdrop n s.imp.roots, nkeys := sdrop n s.imp.nkeys }
  let s := (List.range 64).foldl (fun s e => if poisonOf s e n then (s.setRegN (Reg.IMP_POISON e) 0).setRegN (Reg.IMP_POISON e + 4) 0 else s) s
  slotStat (impStat ((s.setFlag (Reg.IMP_RNG_CTL n) 9 false).setFlag (Reg.IMP_RNG_CTL n) 12 false))

/-- IMP_RANGE_DECOMMIT (R335, R354): a write of IMP_RNG_CTL with COMMIT = 0; ignored during a roll of the range. -/
def execImpRangeDecommit (n : Fin 16) (value : BitVec 32) (s : State) : Out :=
  if !modeIn s rngModes then .next (s.raise blkMem 31)
  else
    let c := Reg.IMP_RNG_CTL n
    if s.flag c 11 then .next s
    else
      let s := if rngOn s n then rngDecommit s n else s
      .next ((s.setFld c 7 0 value.toNat).setFlag c 8 false)

/-! The key roll (R349…R352). -/

/-- ROLL_START (R349). -/
def execRollStart (value : BitVec 32) (s : State) : Out :=
  let r := bitsOf value.toNat 11 8
  let k := bitsOf value.toNat 21 16
  let c := Reg.IMP_RNG_CTL r
  let bad := s.fld Reg.IMP_ROLL_STAT 1 0 != 0 || [mShadow, mStable, mBackup, mBoot, mBlank].contains s.mode
    || !rngOn s r || rngMode s r == 0 || !slotLoaded s k || s.fld c 7 2 == k
  if bad then .next (s.setFlag Reg.IMP_ROLL_STAT 2 true)
  else
    let s := (s.setRegN Reg.IMP_ROLL_STAT (1 + r * 2 ^ 8 + k * 2 ^ 16)).setFlag c 11 true
    .next (slotStat ((s.setRegN Reg.IMP_ROLL_B_LO (rngBase s r)).setRegN Reg.IMP_ROLL_B_HI (rngBase s r / 2 ^ 32)))

/-- The roll engine paused after its present tile. -/
def rollPause (s : State) : State := if s.fld Reg.IMP_ROLL_STAT 1 0 = 1 then s.setFld Reg.IMP_ROLL_STAT 1 0 2 else s
/-- The roll engine running again. -/
def rollResume (s : State) : State := if s.fld Reg.IMP_ROLL_STAT 1 0 = 2 then s.setFld Reg.IMP_ROLL_STAT 1 0 1 else s

/-- ROLL_PAUSE (R352). -/
def execRollPause (s : State) : Out := .next (rollPause s)
/-- ROLL_RESUME (R352). -/
def execRollResume (s : State) : Out := .next (rollResume s)

/-- No access to a tile is outstanding in IMP (R350). -/
def tileIdle (s : State) (t : Nat) : Bool :=
  !s.imp.reads.any (fun x => x.tile == t) && !s.imp.checks.any (fun x => x.tile == t) && (tileBuf s t).isNone
    && !s.imp.writes.any (fun r => r.addr / 512 == t)

/-- The charge of one tile of a roll (R352). -/
def rollCharge : Nat := 1040

/-- ROLL_CLAIM (R350): the boundary tile is claimed when idle and the engine's Curb holds its charge. -/
def execRollClaim (s : State) : Out :=
  if s.fld Reg.IMP_ROLL_STAT 1 0 ≠ 1 ∨ s.imp.claim ∨ !tileIdle s (rollB s / 512) then .next s
  else
    let claim (s : State) : State := s.setImp { s.imp with claim := true }
    match curbOf s 473 with
    | none => .next (claim s)
    | some n =>
      let l := s.fld (Reg.NOC_CURB_LEVEL n) 23 0
      if rollCharge ≤ l then .next (claim (s.setRegN (Reg.NOC_CURB_LEVEL n) (l - rollCharge))) else .next s

/-- B moved up by one tile; at the range's end the new slot takes the range (R351). -/
def rollNext (s : State) (r : Nat) : State :=
  let b := rollB s + 512
  let s := (s.setRegN Reg.IMP_ROLL_B_LO b).setRegN Reg.IMP_ROLL_B_HI (b / 2 ^ 32)
  let s := s.setImp { s.imp with claim := false }
  if rngBase s r + rngSize s r ≤ b then
    let c := Reg.IMP_RNG_CTL r
    let s := (s.setFld c 7 2 (s.fld Reg.IMP_ROLL_STAT 21 16)).setFlag c 11 false
    slotStat ((s.setFld Reg.IMP_ROLL_STAT 1 0 0).raise blkMem 24)
  else s

/-- The claimed tile re-encrypted under the new slot (R351): ENC as it is; ENC_INT with its counter restarted at 1, a bad tile
keeping a bad tag, a tile of counter 0 or in a poisoned subtree skipped. -/
def rollTile (s : State) (r t : Nat) : State :=
  let k := s.fld Reg.IMP_ROLL_STAT 21 16
  if rngMode s r = 1 then
    let plain := encPlain s (slotFor s r t) t
    encWrite s k t plain
  else if poisonHits s r t || tileCtr s r t == 0 then s
  else
    let good := tagGood s r t
    let plain := tilePlain s r t
    let s := cachePath s r t
    let d := depthOf (rngTiles s r)
    let i := tileIx s r t
    let ct := Config.xtsEncrypt (xtsKey s k) (tweak t 1) plain
    let tag := tileTagOf s k t 1 ct
    let s := physWrite s (512 * t) ct
    let s := if good then tagStore s r t tag
      else impLog (physWrite s (rngMeta s r + 8 * i) (leBytes 8 (~~~tag).toNat)) (512 * t) 473 6 0
    let s := setCtrs s r d (i / 8) ((nodeCtrs s r d (i / 8)).set (i % 8) 1)
    jTile s t (rollB s + 512) 1 (tagAt s r t) ct

/-- ROLL_TILE_DONE (R351). -/
def execRollTileDone (s : State) : Out :=
  if s.imp.claim then
    let r := s.fld Reg.IMP_ROLL_STAT 11 8
    .next (rollNext (rollTile s r (rollB s / 512)) r)
  else .next s

/-- ROLL_RETRY (R351): a claimed tile not done within ROLL_TMAX is abandoned. -/
def execRollRetry (s : State) : Out :=
  if s.imp.claim then .next (((s.setImp { s.imp with claim := false }).count Reg.IMP_ROLL_RETRY_CNT).raise blkMem 25)
  else .next s

/-- IMP_TAG_FLIP_ARM (R355). -/
def execImpTagFlipArm (value : BitVec 32) (s : State) : Out :=
  if !modeIn s testModes then .next (s.raise blkMem 31)
  else
    let a := Reg.IMP_TAG_FLIP
    let r := bitsOf value.toNat 3 0
    if value.getLsbD 31 then .next ((s.setImp { s.imp with flip := some r }).setRegN a (r + 2 ^ 31))
    else .next ((s.setImp { s.imp with flip := none }).setRegN a (r + bit (s.flag a 30) * 2 ^ 30))

/-- IMP_LOG_READ (R355). -/
def execImpLogRead (init : Fin 512) (s : State) : Out :=
  let l := s.imp.log
  let s := s.answer init 0 [logWord l 3]
  if init.val = debugInit ∨ l.q.isEmpty then .next s
  else
    let (s, l) := logPop s l Reg.IMP_LOG_STAT
    .next (s.setImp { s.imp with log := l })

/-- IMP writes its tile buffer back, as at STABLE entry (R354). -/
def impSettle (s : State) : State :=
  s.imp.buf.foldl (fun s b => if bufReady b then bufBack s b else s) s

end Sys2Proof.Machine
end

