-- ==== Sys2Proof/Machine/Roles.lean ====
section
/-! DEFINITION. Relay roles (R395, R396, R411): how a device leaves and takes NONE and SECONDARY, with the mode that follows. -/

namespace Sys2Proof.Machine

/-- The references selected anew after the mode has entered or left SHADOW (R38, R39). -/
def refsAnew (s : State) : State := tlGain (tlLose (refSettle s))

/-- Kinds that carry journal entries (Table RLY-4). -/
def jKind (k : Nat) : Bool := (5 ≤ k && k ≤ 12) || k == 14

/-- Journalling stops: the partner is UNSYNCED, buffer and snapshot are discarded, a stall ends, doorbells have nothing left to
journal (R401). -/
def jStop (s : State) : State :=
  let s := s.rly.want.foldl (fun s e => s.setRegN (Reg.RELAY_MP_PROD e.1) e.2) s
  let s := s.setSync 0
  let t := s.lane.teth
  let s := { s with lane := { s.lane with teth := { t with outbox := t.outbox.filter (fun f => !jKind f.1) } } }
  s.setRly { s.rly with buf := [], snap := [], snapEnd := none, stall := false, want := [] }

/-- The role becomes SECONDARY, and the mode beneath SAFE, or the mode, SHADOW (R395, R411). -/
def toSecondary (s : State) : State := refsAnew ((s.setRole rSecondary).moveMode mShadow)

/-- The role left SECONDARY: the mode is D, or COMMISSION while RELEASED is clear (Table MOD-1). RELAY is lost at every exit from
SHADOW (R408). -/
def leaveShadow (s : State) : State :=
  refsAnew (refLose (s.moveMode (if s.released then s.modeD else mCommission)) 4 false)

/-- NONE while EN is clear and in BACKUP, BOOT, BLANK and CONFIGURE (R395); a device with EN set that leaves NONE is SECONDARY at
once, and with ROLE_REQ an election begins (R396). -/
def roleSettle (s : State) : State :=
  if !s.flag Reg.RELAY_CFG 0 || s.under ≤ mConfigure then
    if s.role = 0 then s
    else
      let s := (jStop s).setRole 0
      refLose (s.setRly { s.rly with elect := false, hand := false, fence := false, blocked := false }) 4 false
  else if s.role = 0 then
    toSecondary (s.setRly { s.rly with elect := s.flag Reg.RELAY_CFG 2 })
  else s

/-- A write of RELAY_CFG (R396, R397): setting EN starts FCTR at S × 2^27 and clears the record of the last accepted one. -/
def relayCfg (s : State) (v : Nat) : State :=
  let was := s.flag Reg.RELAY_CFG 0
  let s := s.setRegN Reg.RELAY_CFG (v % 32)
  let s := if !was && v.testBit 0 then s.setRly { s.rly with fctr := tlS s.tim.tl * 2 ^ 27, seen := none }
    else if was && !v.testBit 0 then s.setRly { s.rly with clash := false }
    else s
  roleSettle s

end Sys2Proof.Machine
end

