-- ==== Sys2Proof/Machine/SecBase.lean ====
section
/-! DEFINITION. What other blocks ask of security (R474…R483): OTP, the life cycle, acceptable keys, anti-rollback, the tack
room's access and the TRNG. -/

namespace Sys2Proof.Machine

/-- The state with the security block's own part replaced. -/
def State.setSec (s : State) (x : Security) : State := { s with sec := x }

/-- What an OTP byte of the device holds at reset: the life cycle FACTORY in its three copies, speed grade 3, all else zero (log
entry 27). -/
def otpDefault (a : Nat) : Byte := if a < 3 then 1 else if a = 12 then 3 else 0
/-- An OTP byte. -/
def otpByte (s : State) (a : Nat) : Byte := sget otpDefault s.sec.otp a
/-- OTP bytes. -/
def otpBytes (s : State) (a n : Nat) : List Byte := (List.range n).map (fun i => otpByte s (a + i))
/-- Bits burned into OTP: only from 0 to 1 (R477). -/
def otpBurn (s : State) (a : Nat) (l : List Byte) : State :=
  s.setSec { s.sec with otp := l.zipIdx.foldl (fun m e => sput otpDefault m (a + e.2) (sget otpDefault m (a + e.2) ||| e.1)) s.sec.otp }
/-- The bitwise majority of three copies. -/
def majority (a b c : Byte) : Nat := ((a &&& b) ||| (a &&& c) ||| (b &&& c)).toNat
/-- A triplicated OTP field. -/
def otpVote (s : State) (a : Nat) : Nat := majority (otpByte s a) (otpByte s (a + 1)) (otpByte s (a + 2))
/-- The same byte burned into the three copies in order. -/
def otpBurn3 (s : State) (a v : Nat) : State := otpBurn s a (List.replicate 3 (BitVec.ofNat 8 v))

/-- The life-cycle code of a voted field (R474): code, and whether it is invalid. -/
def lifeOf (v : Nat) : Nat × Bool :=
  match [0, 1, 3, 7, 15, 31].findIdx? (fun x => x == v) with
  | some c => (c, false)
  | none => (5, true)
/-- The life-cycle state read at BOOT. -/
def State.life (s : State) : Nat := s.fld Reg.SEC_LC 2 0

/-- Owner slots programmed. -/
def slotProg (s : State) (k : Nat) : Bool := (otpVote s 9).testBit k
/-- Owner slots revoked. -/
def slotRevoked (s : State) (k : Nat) : Bool := (otpVote s 9).testBit (4 + k)
/-- An owner slot's hash. -/
def slotHash (s : State) (k : Nat) : List Byte := otpBytes s (0x80 + 32 * k) 32
/-- VKH. -/
def vkh (s : State) : List Byte := otpBytes s 0x40 32

/-- The hash h of a public key (R479). -/
def keyHash (pub : List Byte) : List Byte := Config.shake256 pub 32

/-- A public key's hash is accepted under a key slot (R479) in the states that Table SEC-1 gives, but for ADD_SLOT's own case. -/
def keyOk (s : State) (slot : Nat) (h : List Byte) : Bool :=
  !(s.life == 0 || s.life == 5)
    && ((s.life != 4 && decide (slot < 4) && slotProg s slot && !slotRevoked s slot && h == slotHash s slot)
      || ((s.life == 1 || s.life == 4) && h == vkh s))

/-- c_k: the first unburned bit of an anti-rollback counter's 255 (R483). -/
def arbCount (s : State) (k : Nat) : Nat :=
  let v := leNat (otpBytes s (0x100 + 32 * k) 32)
  ((List.range 255).find? (fun i => !v.testBit i)).getD 255

/-- Burned bits of the generation thermometer (R490). -/
def genBits (s : State) : Nat := ((List.range 4).map (fun i => bit ((otpVote s 6).testBit i))).sum
/-- The present generation. -/
def genNow (s : State) : Nat := genBits s - 1
/-- ROOT of a generation. -/
def genRoot (s : State) (g : Nat) : List Byte := otpBytes s (0x280 + 128 * g + 96) 32
/-- An attestation key exists (R490). -/
def attKey (s : State) : Bool := (List.range 4).any (fun g => !allZero (genRoot s g))
/-- Coarse bits burned of a generation (R491). -/
def coarse (s : State) (g : Nat) : Nat :=
  let v := leNat (otpBytes s (0x200 + 32 * g) 32)
  ((List.range 256).map (fun i => bit (v.testBit i))).sum
/-- The policy ERASE_ON_UNLOCK (Table SEC-2). -/
def eraseOnUnlock (s : State) : Bool := (otpVote s 3).testBit 0
/-- The speed grade (Table SEC-2). -/
def grade (s : State) : Nat := (otpByte s 12).toNat

/-- What the registers show of OTP (R483, R490, Table SEC-10). -/
def secShow (s : State) : State :=
  let st := Reg.SEC_STAT
  let s := (s.setFlag st 3 (eraseOnUnlock s)).setFld st 15 8 (otpVote s 9)
  let s := (s.setFld st 17 16 (if attKey s then genNow s else 0)).setFlag st 20 (attKey s)
  let arb (s : State) (o : Nat) : Nat := ((List.range 4).map (fun k => arbCount s (o + k) * 2 ^ (8 * k))).sum
  (s.setRegN Reg.SEC_ARB_LO (arb s 0)).setRegN Reg.SEC_ARB_HI (arb s 4)

/-- OTP and the life cycle read at BOOT (R474); AGE_SENS with them. -/
def otpRead (s : State) : State :=
  let (c, bad) := lifeOf (otpVote s 0)
  let s := (s.setRegN Reg.SEC_LC (c + 8 * bit bad)).raiseIf bad blkSec 2
  secShow (s.setRegN Reg.AGE_SENS (leNat (otpBytes s 16 2)))

/-- The XMSS signature of a message verifies under a public key (R237). -/
def sigOk (pub msg sig : List Byte) : Bool := Config.xmssVerify pub msg sig

/-- The TRNG's tests have passed (R494). -/
def State.trngOk (s : State) : Bool := s.flag Reg.SEC_STAT 0
/-- n random bytes. -/
def drawBytes : Nat → State → State × List Byte
  | 0, s => (s, [])
  | n + 1, s =>
    let (t, l) := drawBytes n s.took
    (t, BitVec.ofNat 8 s.free :: l)

/-- The debug level in force (R496…R498): the life cycle's, or in OWNED and DEPLOYED what has been granted. -/
def State.debugLevel (s : State) : Nat :=
  if s.life = 0 ∨ s.life = 1 ∨ s.life = 4 then 2
  else if s.life = 2 ∨ s.life = 3 then s.sec.grant.getD 0
  else 0

/-- EXTEST is selected and acts: in BLANK, at FULL (R557, R558). -/
def extestOn (s : State) : Bool := s.dbg.ir == 3 && s.debugLevel == 2 && s.mode == mBlank

end Sys2Proof.Machine
end

