-- ==== Sys2Proof/Machine/Loader.lean ====
section
/-! DEFINITION. The loader (R229…R257): Muzal streams, the two passes, isolation, start-up, and the retained manifests. -/

namespace Sys2Proof.Machine

/-- The state with the loader replaced. -/
def State.setLdr (s : State) (l : Loader) : State := { s with ldr := l }
/-- The state with the Farrier replaced. -/
def State.setFar (s : State) (f : Farrier) : State := { s with far := f }

/-! The frame code (R258). -/

/-- The XOR of the indices of the 1 bits of the segments of one parity. -/
def hField (d odd : Nat) : Nat :=
  (List.range 2048).foldl (fun x i => if d.testBit i && i % 2 == odd then Nat.xor x (i / 8) else x) 0
/-- The 48 check bits of a frame's data (Table FAR-1). -/
def frameCheck (d : BitVec 2048) : BitVec 48 :=
  let v := d.toNat
  let p := ((List.range 8).map (fun g => bit (parity ((List.range 256).map (fun m => v.testBit (8 * m + g)))) * 2 ^ g)).sum
  BitVec.ofNat 48 (p + hField v 0 * 2 ^ 8 + hField v 1 * 2 ^ 16 + crc24 (leBytes 256 v) * 2 ^ 24)

/-- The storage rows of a content frame's bits (R232): block memory b of a Paddock, frame m of its 36. -/
def contentFrame (s : State) (fa : Nat) (d : BitVec 2048) : State :=
  let p := fa / padFrames
  let f := fa % padFrames - logicFrames
  let b := 64 * p + f / 36
  let o := 2048 * (f % 36)
  ((List.range 30).map (fun i => o / 72 + i)).foldl (fun s r =>
    if r < 1024 ∧ 72 * r < o + 2048 then
      setBmRow s b r (BitVec.ofNat 72 (((List.range 72).map (fun k =>
        let i := 72 * r + k
        bit (if o ≤ i ∧ i < o + 2048 then d.getLsbD (i - o) else (bmRow s b r).getLsbD k) * 2 ^ k)).sum))
    else s) s

/-- A frame written by a load (R229, R232). -/
def writeFrame (s : State) (fa : Nat) (d : BitVec 2048) : State :=
  if fa % padFrames < logicFrames then setFrame s fa { data := d, check := frameCheck d } else contentFrame s fa d

/-! Sources (R240, R241). -/

/-- Reads of a range of memory are good: it exists and is powered, and nothing in it is uncorrectable or unverifiable. -/
def memOk (s : State) (kix a n : Nat) : Bool :=
  if inScratch a then
    decide (a + n ≤ scratchBase + scratchSize) && (wordsOf a n).all (fun w => spOn s (spBank (8 * w)) && !(spDecode (spErr s w)).double)
  else if inSdram a || inHdm a then
    let there :=
      if inSdram a then
        decide (a + n ≤ sdBase + sdFitted s) && (linesOf a n).all (fun l => chanReady s (lineChan s l).1 && !lineUe s l)
      else (linesOf a n).all (fun l => (decOf s (64 * l)).any (fun d => cxlUp s (decPort s d (64 * l))))
    there && ((List.range (ceilDiv (a % 512 + n) 512)).map (fun i => a / 512 + i)).all (fun t =>
      match impKind s (512 * t) kix with
      | .plain => true
      | .enc _ => true
      | .encInt r => !poisonHits s r t && (tileCtr s r t == 0 || tagGood s r t)
      | _ => false)
  else false

/-- The KIX of a hard engine's requests. -/
def kixOf (s : State) (init : Nat) : Nat := s.fld (Reg.NOC_INIT_CFG init) 14 9

/-- n bytes at offset o of a stream, for initiator `init`: of the CFG port or of host memory as the command carries them, else of
memory (R240, R241). -/
def srcRead (s : State) (init : Nat) (phys : Bool) (src : Nat) (host : Option (List Byte)) (o n : Nat) : Option (List Byte) :=
  if !phys || inPcie (src + o) then host.bind (fun l => if o + n ≤ l.length then some (slice l o n) else none)
  else if memOk s (kixOf s init) (src + o) n then some (s.viewBytes (kixOf s init) (src + o) n)
  else none

/-! Records (R238). -/

/-- A frame that a record names: its address, the offset of the FA word that names it, its data. -/
structure RecFrame where
  fa   : Nat
  at_  : Nat
  data : BitVec 2048
  deriving DecidableEq, Repr

/-- The first of some frames outside the device or the target Paddocks (R238); an FA word with a bit above 20 names no frame. -/
def faBad (tgts : List Nat) (fs : List RecFrame) : Option RecFrame :=
  fs.find? (fun f => decide (allFrames ≤ f.fa) || !tgts.contains (f.fa / padFrames))

/-- The first of some frames that is written before. -/
def faTwice : List Nat → List RecFrame → Option RecFrame
  | _, [] => none
  | seen, f :: r => if seen.contains f.fa then some f else faTwice (f.fa :: seen) r

/-- The frame a byte string of 256 spells. -/
def frameOfBytes (l : List Byte) : BitVec 2048 := BitVec.ofNat 2048 (leNat l)

/-- The records of a chunk from an offset (Table LDR-7): every frame they name in order, or the offset of the first bad record.
`last` is for chunk N − 1. The count bounds the walk. -/
def walkRecs (l : List Byte) (last : Bool) : Nat → Nat → List RecFrame → Nat ⊕ List RecFrame
  | 0, o, _ => .inl o
  | n + 1, o, acc =>
    if l.length < o + 4 then .inl o
    else
      let w := fieldLe l o 4
      let c := bitsOf w 15 4 + 1
      let go (next : Nat) (fs : List RecFrame) : Nat ⊕ List RecFrame :=
        if bitsOf w 31 16 ≠ 0 ∨ l.length < next then .inl o else walkRecs l last n next (acc ++ fs)
      match bitsOf w 3 0 with
      | 1 =>
        let fa := fieldLe l (o + 4) 4
        go (o + 8 + 256 * c) ((List.range c).map (fun i => ⟨fa + i, o + 4, frameOfBytes (slice l (o + 8 + 256 * i) 256)⟩))
      | 2 =>
        let d := frameOfBytes (slice l (o + 4) 256)
        go (o + 260 + 4 * c) ((List.range c).map (fun i => ⟨fieldLe l (o + 260 + 4 * i) 4, o + 260 + 4 * i, d⟩))
      | 3 =>
        let fa := fieldLe l (o + 4) 4
        let d := frameOfBytes ((List.replicate 64 (slice l (o + 8) 4)).flatten)
        go (o + 12) ((List.range c).map (fun i => ⟨fa + i, o + 4, d⟩))
      | 4 => if bitsOf w 15 4 = 0 ∧ bitsOf w 31 17 = 0 ∧ w.testBit 16 = last ∧ o + 4 = l.length then .inr acc else .inl o
      | _ => .inl o

/-- The frames a chunk writes, or the error with the offset of its item: the records first, then the addresses, then duplicates
(step 6 of R243). `seen` are the frames written before. -/
def chunkRecs (l : List Byte) (last : Bool) (tgts seen : List Nat) : (Nat × Nat) ⊕ List (Nat × BitVec 2048) :=
  match walkRecs l last (l.length + 1) 0 [] with
  | .inl o => .inl (8, o)
  | .inr fs =>
    match faBad tgts fs with
    | some f => .inl (9, f.at_)
    | none =>
      match faTwice seen fs with
      | some f => .inl (0xA, f.at_)
      | none => .inr (fs.map (fun f => (f.fa, f.data)))

/-! Pass one (R243). -/

/-- The Paddocks a TARGET field names. -/
def targetsOf (l : List Byte) : List Nat := (List.range paddocks).filter (fun p => (fieldLe l 0 18).testBit p)

/-- The first of a list of checks that fails: (fails, code, offset). -/
def firstBad (l : List (Bool × Nat × Nat)) : Option (Nat × Nat) := (l.find? (·.1)).map (·.2)

/-- Step 1 of R243, on the first 64 bytes. -/
def headBad (h : List Byte) : Option (Nat × Nat) :=
  firstBad [(slice h 0 4 != [0x4D, 0x55, 0x5A, 0x4C], 1, 0), (fieldLe h 6 2 != 0x0C8E, 2, 6), (fieldLe h 8 2 != 8, 2, 8),
    (!(fieldLe h 0xA 2).testBit 1, 2, 0xA)]

/-- Step 2 of R243: the rest of the header in ascending offset; `kind` is 1 FULL, 2 PARTIAL. -/
def headerBad (h : List Byte) (kind : Nat) : Option (Nat × Nat) :=
  let full := kind == 1
  let n := fieldLe h 0x24 4
  firstBad ([(fieldLe h 4 2 != 1, 3, 4), (fieldLe h 0xC 1 != kind, 3, 0xC),
      (if full then (targetsOf (slice h 0x10 18)).length != paddocks else (targetsOf (slice h 0x10 18)).isEmpty, 3, 0x10),
      (!allZero (slice h 0x22 2), 3, 0x22), (n == 0 || decide (16384 < n), 0xC, 0x24), (!allZero (slice h 0x38 8), 3, 0x38)]
    ++ (List.range 19).map (fun i =>
      let v := fieldLe h (0x80 + 8 * i) 8
      (if full then bitsOf v 63 39 != 0 || bitsOf v 38 37 == 3 else v != 0, 3, 0x80 + 8 * i))
    ++ (List.range 48).map (fun k =>
      let v := fieldLe h (0x118 + 4 * k) 4
      (if full then Nat.land v 0x10F1F != v else v != 0, 3, 0x118 + 4 * k))
    ++ [(!allZero (slice h 0x1D8 40), 3, 0x1D8)])

/-- Steps 3 to 5 of R243: the key, the signature over header and manifest, anti-rollback. -/
def signBad (s : State) (h man sig : List Byte) : Option (Nat × Nat) :=
  let slot := fieldLe h 0xD 1
  let k := fieldLe h 0xE 1
  let pub := slice h 0x40 64
  firstBad [(!keyOk s slot (keyHash pub), 4, if slot < 4 then 0x40 else 0xD),
    (!sigOk pub (h ++ man) sig, 5, 0x200 + man.length), (decide (7 < k), 6, 0xE), (decide (fieldLe h 0xF 1 < arbCount s k), 6, 0xF)]

/-- The entries of a manifest. -/
def manifest (l : List Byte) (n : Nat) : List Chunk :=
  (List.range n).map (fun i => ⟨fieldLe l (40 * i) 4, fieldLe l (40 * i + 4) 4, slice l (40 * i + 8) 32⟩)

/-- The chunks of a stream read and checked in order (step 6 of R243): the frames written by each. -/
def walkChunks (rd : Nat → Nat → Option (List Byte)) (tgts : List Nat) :
    List Chunk → Nat → List (List (Nat × BitVec 2048)) → (Nat × Nat) ⊕ List (List (Nat × BitVec 2048))
  | [], _, acc => .inr acc
  | c :: r, o, acc =>
    match rd o c.clen with
    | none => .inl (0xD, o)
    | some b =>
      if Config.shake256 b 32 != c.digest then .inl (7, o)
      else
        match chunkRecs b r.isEmpty tgts ((acc.flatten).map (·.1)) with
        | .inl (e, a) => .inl (e, o + a)
        | .inr fs => walkChunks rd tgts r (o + c.clen) (acc ++ [fs])

/-- Step 7 of R243: each chunk's FRAMES, FRAME_TOTAL, STREAM_LEN. -/
def totalsBad (h : List Byte) (cs : List Chunk) (fs : List (List (Nat × BitVec 2048))) : Option (Nat × Nat) :=
  firstBad ((cs.zip fs).zipIdx.map (fun e => (e.1.1.frames != e.1.2.length, 0xC, 0x200 + 40 * e.2 + 4))
    ++ [(fieldLe h 0x28 4 != (fs.map (·.length)).sum, 0xC, 0x28),
        (fieldLe h 0x2C 4 != 0xD04 + 40 * cs.length + (cs.map (·.clen)).sum, 0xC, 0x2C)])

/-- Step 8 of R243: a line of a target Paddock would have two or more DE bits (R192). -/
def censusBad (tgts : List Nat) (fs : List (Nat × BitVec 2048)) : Bool :=
  let t : State := { fab := { frames := fs.foldl (fun m e => sput (fun _ => {}) m e.1 { data := e.2 }) [] } }
  tgts.any (fun p => (List.range 2048).any (fun n => decide (2 ≤ (driversOf t (2048 * p + n)).length)))

/-- The retained streams once some Paddocks no longer refer to theirs (R254). -/
def keptWithout (l : List Retained) (tgts : List Nat) : List Retained :=
  (l.map (fun r => { r with spans := r.spans.filter (fun x => !tgts.contains x.1) })).filter (fun r => !r.spans.isEmpty)
/-- The bytes the retained streams take; how many one takes is the device's own (log entry 50). -/
def keptBytes (l : List Retained) : Nat := (l.map (fun r => Config.retainedBytes r.chunks.length)).sum

/-- The first and last chunk that wrote each target. -/
def spansOf (tgts : List Nat) (fs : List (List (Nat × BitVec 2048))) : List (Nat × Nat × Nat) :=
  tgts.map (fun p =>
    let l := (fs.zipIdx.filter (fun e => e.1.any (fun f => f.1 / padFrames == p))).map (·.2)
    (p, l.head?.getD 0, l.getLast?.getD 0))

/-- What pass one finds: an error with the offset of its item (none where the spec names no item), or the verified stream with
its header. -/
def passOne (s : State) (kind : Nat) (phys : Bool) (src : Nat) (host : Option (List Byte)) :
    (Nat × Option Nat) ⊕ (Retained × List Byte × List Nat) :=
  let rd := srcRead s 440 phys src host
  let err (e : Nat × Nat) : (Nat × Option Nat) ⊕ (Retained × List Byte × List Nat) := .inl (e.1, some e.2)
  match rd 0 64 with
  | none => err (0xD, 0)
  | some h64 =>
    match headBad h64 with
    | some e => err e
    | none =>
      match rd 0 512 with
      | none => err (0xD, 64)
      | some h =>
        match headerBad h kind with
        | some e => err e
        | none =>
          let n := fieldLe h 0x24 4
          let pub := slice h 0x40 64
          match (if keyOk s (fieldLe h 0xD 1) (keyHash pub) then rd 0x200 (40 * n) else some []), rd (0x200 + 40 * n) 2820 with
          | some man, sig =>
            if !keyOk s (fieldLe h 0xD 1) (keyHash pub) then err (4, if fieldLe h 0xD 1 < 4 then 0x40 else 0xD)
            else
              match sig with
              | none => err (0xD, 0x200 + 40 * n)
              | some sig =>
                match signBad s h man sig with
                | some e => err e
                | none =>
                  let cs := manifest man n
                  match firstBad (cs.zipIdx.map (fun e => (e.1.clen % 4 != 0 || e.1.clen == 0 || decide (65536 < e.1.clen), 0xC, 0x200 + 40 * e.2))) with
                  | some e => err e
                  | none =>
                    let tgts := targetsOf (slice h 0x10 18)
                    match walkChunks rd tgts cs (0xD04 + 40 * n) [] with
                    | .inl e => err e
                    | .inr fs =>
                      match totalsBad h cs fs with
                      | some e => err e
                      | none =>
                        if censusBad tgts fs.flatten then .inl (0xB, none)
                        else if 2 ^ 20 < keptBytes (keptWithout s.ldr.kept tgts) + Config.retainedBytes n then .inl (0xE, none)
                        else .inr (⟨phys, src, fieldLe h 0xD 1, keyHash pub, cs, spansOf tgts fs⟩, h, tgts)
          | none, _ => err (0xD, 0x200)

/-! Phases. -/

/-- CFG_STAT.PHASE; BUSY follows it. -/
def ldrPhase (s : State) : Nat := s.fld Reg.CFG_STAT 2 0
/-- The state with it set. -/
def setPhase (s : State) (n : Nat) : State := (s.setFld Reg.CFG_STAT 2 0 n).setFlag Reg.CFG_STAT 3 (n != 0)

/-- A load begun (R242): pass one, or for EMPTY the wait for its tick. -/
def startLoad (s : State) (kind : Nat) (strap alt : Bool) (tgts : List Nat) : State :=
  let s := s.setLdr { s.ldr with
    kind := kind, strap := strap, alt := alt, altDue := false, tgts := tgts, stream := none, pos := 0, step := 0, start := s.tim.cks }
  setPhase s (if kind = 3 then 2 else 1)

/-- The modes LOAD_FULL is accepted in. -/
def fullModes : Nat := 0x14
/-- The modes LOAD_PARTIAL and EMPTY are accepted in. -/
def partModes : Nat := 0xDF0

/-- The duration of the load, whole µs (Table LDR-13). -/
def loadUs (s : State) : Nat := (s.tim.cks - s.ldr.start) * 625 / 307200

/-- CFG_RET_FILL brought up to date, with RET_HIGH as it passes 75 % (Table LDR-15). -/
def retFill (s : State) : State :=
  let was := s.fld Reg.CFG_RET_FILL 20 0
  let n := keptBytes s.ldr.kept
  (s.setRegN Reg.CFG_RET_FILL n).raiseIf (decide (4 * was ≤ 3 * 2 ^ 20) && decide (3 * 2 ^ 20 < 4 * n)) blkCfg 8

/-! A Paddock's Farrier work abandoned (R271). -/

/-- An engine without what it does for some Paddocks. -/
def engDrop (e : FarEngine) (t : Nat → Bool) : FarEngine :=
  { e with queue := e.queue.filter (fun x => !t (x.fa / padFrames)), fetch := e.fetch.filter (fun x => !t (x.fa / padFrames)),
           lines := e.lines.filter (fun n => !t (n / 2048)) }
/-- Some frame of a Paddock is under repair. -/
def padRepair (s : State) (p : Nat) : Bool :=
  [s.far.a, s.far.b].any (fun e =>
    e.queue.any (fun x => x.fa / padFrames == p) || e.fetch.any (fun x => x.fa / padFrames == p) || e.lines.any (fun n => n / 2048 == p))

/-- What stands of the Farrier's classes (R521, Table OUT-1): CFG_UPSET until the priority Paddocks' repairs end, CFG_LOST until
what was lost is loaded again or leaves the set. -/
def farStand (s : State) : State :=
  let s := if s.flag Reg.OUT_CAUSE 8 && !s.far.set.any (padRepair s) then s.unstand 8 else s
  if s.flag Reg.OUT_CAUSE 9 && !s.far.set.any (fun p => s.flag (Reg.FAR_PAD_STAT p) 3) then s.unstand 9 else s

/-- The Farrier's work on some Paddocks abandoned and their flags down (R268, R271). -/
def farAbandon (s : State) (tgts : List Nat) : State :=
  let t (p : Nat) : Bool := tgts.contains p
  let s := s.setFar { s.far with a := engDrop s.far.a t, b := engDrop s.far.b t }
  farStand (tgts.foldl (fun s p => (s.setFlag (Reg.FAR_PAD_STAT p) 0 false).setFlag (Reg.FAR_PAD_STAT p) 2 false) s)

/-! Isolation (R251, R252, R219, R246). -/

/-- The tile and the bit offset in its frame 14 of user I/O cell c's I/O word, bank 48 a cell at a time (R581). -/
def ioPlace (c : Nat) : Nat × Nat :=
  let k := c / 48
  let j := c % 48
  let p := if k < 8 then 12 * (2 + k) else if k < 16 then 12 * (k - 6) + 11 else if k = 16 then 4 else 7
  let t := if k < 8 then tileAt p (j / 3) 0 else if k < 16 then tileAt p (j / 3) 15 else tileAt p 0 (j / 3)
  (t, 1536 + 32 * (j % 3))
/-- Bits [hi:lo] of a cell's I/O word. -/
def ioWord (s : State) (c lo w : Nat) : Nat := let (t, o) := ioPlace c; cfgBits s t 14 (o + lo) w
/-- The Paddock of a user I/O cell. -/
def ioPad (c : Nat) : Nat := padOf (ioPlace c).1
/-- User I/O cells. -/
def ioCells : Nat := 864

/-- The hitch ports of a Paddock. -/
def padHitch (p : Nat) : List Nat := (List.range 512).filter (fun h => hpPaddock h == p)

/-- The Blinker answers every outstanding tag of a Paddock's hitch ports with status 0xFE (R219). -/
def hitchIsolate (s : State) (p : Nat) : State :=
  (s.pac.tags.filter (fun t => hpPaddock t.port == p)).foldl (fun s t =>
    let s := s.setPac { s.pac with tags := s.pac.tags.filter (fun u => u != t) }
    if t.cancelled then s else reportOr s (opId s t.op) 0xFE) s

/-- The Blinkers of a Paddock enter ISOLATE with latched modes and held values (R198, R199, R251 step 1); `zero` sets constant 0. -/
def blinkIsolate (s : State) (p : Nat) (zero : Bool) : State :=
  let ovr := s.flag Reg.CFG_CTL 2
  let m (g : Nat) : Nat := if ovr then s.fld Reg.CFG_CTL 5 4 else groupMode s p g
  let modes := BitVec.ofNat 128 (((List.range 64).map (fun g => m g * 4 ^ g)).sum)
  let held := (List.range 1024).foldl (fun l i => sput (fun _ => false) l (1024 * p + i) (s.net (.hw (1024 * p + i)))) s.fab.held
  if zero then
    s.setFab { s.fab with blk := sdrop p s.fab.blk, held := s.fab.held.filter (fun e => e.1 / 1024 != p) }
  else if padIsolated s p then s
  else s.setFab { s.fab with blk := sput (fun _ => blkZero) s.fab.blk p modes, held := held }

/-- A Paddock's frames, flip-flops, memories and slices cleared (R244, R251 step 6). -/
def clearPad (s : State) (p : Nat) : State :=
  let f := s.fab
  s.setFab { f with
    frames := f.frames.filter (fun e => e.1 / padFrames != p), ffs := f.ffs.filter (fun e => e.1 / 65536 != p)
    bms := f.bms.filter (fun e => e.1 / 64 != p), rows := f.rows.filter (fun e => e.1 / 65536 != p)
    slices := f.slices.filter (fun e => e.1 / 96 != p), tripped := f.tripped.filter (fun n => n / 2048 != p)
    flip := match f.flip with | some (m, _) => if m / 64 = p then none else f.flip | none => none }

/-- Isolation of a Paddock (R251): Blinkers, PR_HOLD, GSR, drivers, and what its hard interfaces owe. -/
def isolatePad (s : State) (p : Nat) (zero : Bool) : State :=
  let s := keepLines s ((List.range 2048).map (fun n => 2048 * p + n))
  let s := blinkIsolate s p zero
  let io := (List.range ioCells).filter (fun c => ioPad c == p && ioWord s c 9 1 == 1)
  let s := s.setFab { s.fab with
    driven := sdrop p s.fab.driven, ioHold := s.fab.ioHold.filter (fun c => ioPad c != p) ++ (if zero then [] else io) }
  let s := (s.setFlag (Reg.CFG_PAD_STAT p) 2 true).setFlag (Reg.CFG_PAD_STAT p) 3 true
  let s := frpIsolate (hitchIsolate s p) p
  let s := dpEnd s p abBusy 0
  match s.out.bist with
  | some u => if 256 ≤ u ∧ (u - 256) / 64 = p then bistRound (s.setOut { s.out with bist := none }) u else s
  | none => s

/-- Paddocks isolated and cleared together, their state code set. -/
def takePads (s : State) (tgts : List Nat) (zero : Bool) (st : Nat) : State :=
  let s := tgts.foldl (fun s p => (isolatePad s p zero).setFld (Reg.CFG_PAD_STAT p) 1 0 st) (farAbandon s tgts)
  let s := tgts.foldl clearPad s
  retFill (s.setLdr { s.ldr with kept := keptWithout s.ldr.kept tgts })

/-- Every Paddock. -/
def allPads : List Nat := List.range paddocks

/-! The end of a load. -/

/-- A load ends with an error code (R243, R245): reported, counted; a strap load's primary image leaves its alternate due (R240). -/
def loadFail (s : State) (code : Nat) (at_ : Option Nat) : State :=
  let kind := s.ldr.kind
  let late := decide (3 ≤ ldrPhase s)
  let s := match at_ with
    | some a => s.setRegN Reg.CFG_ERR_AT a
    | none => s.took.setRegN Reg.CFG_ERR_AT s.free
  let s := setPhase ((s.setFld Reg.CFG_STAT 15 8 code).setFlag Reg.CFG_STAT 4 false) 0
  let s := ((s.count (Reg.CFG_ERR_CNT code)).raise blkCfg 1).setRegN Reg.CFG_LAST_US (loadUs s)
  let s :=
    if late && kind == 1 then
      let s := takePads s allPads true 0
      roleSettle ((s.raise blkCfg 3).moveMode mBlank)
    else if late then
      let s := s.ldr.tgts.foldl clearPad s
      s.ldr.tgts.foldl (fun s p => (s.setFld (Reg.CFG_PAD_STAT p) 1 0 2).raise blkCfg 4) s
    else s
  let due := s.ldr.strap && !s.ldr.alt && s.flag Reg.CFG_CTL 1 && (late || code != 0x12)
  s.setLdr { s.ldr with kind := 0, stream := none, step := 0, altDue := due }

/-- ABORT (R245): pass one or the wait for the tick ends with no effect, pass two fails; an EMPTY that still waits ends without an
error (R252); start-up runs on (log entry 95). -/
def loadAbort (s : State) : State :=
  if ldrPhase s = 0 ∨ ldrPhase s = 5 then s
  else if s.ldr.kind = 3 then setPhase (s.setLdr { s.ldr with kind := 0 }) 0
  else loadFail s 0x12 none

/-- CFG_CMD (R242): one command at a time, in the modes that accept it, while no load is busy. -/
def cfgCmd (s : State) (v : Nat) : State :=
  if v.testBit 2 then loadAbort s
  else
    let n := bit (v.testBit 0) + bit (v.testBit 1) + bit (v.testBit 3)
    let ok := n == 1 && !extestOn s && ldrPhase s == 0 && modeIn s (if v.testBit 0 then fullModes else partModes)
    if n = 0 then s
    else if !ok then s.raise blkCfg 6
    else
      let tgt := (List.range paddocks).filter (fun p => s.flag (Reg.CFG_TGT (p / 32)) (p % 32))
      startLoad s (if v.testBit 0 then 1 else if v.testBit 1 then 2 else 3) false false (if v.testBit 3 then tgt else [])

/-- LOAD_FULL (R242): a write of CFG_CMD. -/
def execLoadFull (value : BitVec 32) (s : State) : Out := .next (cfgCmd s value.toNat)
/-- LOAD_PARTIAL (R242): a write of CFG_CMD. -/
def execLoadPartial (value : BitVec 32) (s : State) : Out := .next (cfgCmd s value.toNat)
/-- ABORT (R245): a write of CFG_CMD. -/
def execAbort (value : BitVec 32) (s : State) : Out := .next (cfgCmd s value.toNat)
/-- EMPTY (R252): a write of CFG_CMD. -/
def execEmpty (value : BitVec 32) (s : State) : Out := .next (cfgCmd s value.toNat)

/-- The Farrier stopped (R244, R266): its work is abandoned and its numbers begin again at the next start. -/
def farStop (s : State) : State :=
  let s := farAbandon s allPads
  (s.setFar { s.far with a := {}, b := {}, ups := [], restore := false }).setRegN Reg.FAR_STAT 0

/-- A FULL pass two begins (R244). -/
def fullBegin (s : State) : State :=
  let s := roleSettle (s.moveMode mConfigure)
  let s := (List.range 48).foldl (fun s k => gckWrite s k (Nat.land (s.regN (Reg.GCK_CFG k)) 0xF1F)) s
  let s := (List.range 19).foldl (fun s i => setFsyn (s.setRegN (Reg.FSYN_CTL (5 + i)) 0) (5 + i) {}) s
  let s := takePads (farStop s) allPads true 3
  setPhase (s.setRegN Reg.CFG_PROGRESS 0) 3

/-- PASS1_DONE (R243, R244, R251): pass one ends. `host` is the stream as the CFG port or host memory gives it. -/
def execPass1Done (host : Option (List Byte)) (s : State) : Out :=
  if ldrPhase s ≠ 1 then .next s
  else
    let cfg := s.ldr.strap
    let phys := !cfg && s.flag Reg.CFG_SRC_HI 31
    let src := if cfg then (if s.ldr.alt then 0x4000000 else 0) else s.regN Reg.CFG_SRC_LO + s.fld Reg.CFG_SRC_HI 15 0 * 2 ^ 32
    match passOne s s.ldr.kind phys src host with
    | .inl (code, a) => .next (loadFail s code a)
    | .inr (r, h, tgts) =>
      let s := s.setLdr { s.ldr with tgts := tgts, stream := some r, sets := slice h 0x80 344, build := fieldLe h 0x30 8 }
      let s := s.raise blkCfg 2
      if s.ldr.kind = 1 then .next (fullBegin s)
      else if s.flag Reg.CFG_CTL 0 then
        let d := ptSub (s.regN Reg.CFG_PR_TICK) s.pt
        if d = 0 ∨ 2 ^ 31 ≤ d then .next (loadFail s 0xF none)
        else if 2 ^ 28 < d then .next (loadFail s 0x13 none)
        else .next (setPhase s 2)
      else .next (setPhase s 2)

/-- PR_ISOLATE (R251, R252): the isolation tick of a PARTIAL load or of EMPTY. -/
def execPrIsolate (s : State) : Out :=
  if ldrPhase s ≠ 2 ∨ (s.flag Reg.CFG_CTL 0 ∧ !ptReached s.pt (s.regN Reg.CFG_PR_TICK)) then .next s
  else
    let s := s.raise blkCfg 9
    if s.ldr.kind = 3 then
      let s := takePads s s.ldr.tgts false 2
      let s := s.ldr.tgts.foldl (fun s _ => s.raise blkCfg 4) s
      .next (setPhase (s.setLdr { s.ldr with kind := 0 }) 0)
    else .next (setPhase ((takePads s s.ldr.tgts false 3).setRegN Reg.CFG_PROGRESS 0) 3)

/-- The byte offset of chunk i of a stream. -/
def chunkAt (r : Retained) (i : Nat) : Nat := 0xD04 + 40 * r.chunks.length + ((r.chunks.take i).map (·.clen)).sum

/-- PASS2_CHUNK (R244, R245): the next chunk read again, its digest compared, its frames written. -/
def execPass2Chunk (host : Option (List Byte)) (s : State) : Out :=
  match s.ldr.stream with
  | none => .next s
  | some r =>
    if ldrPhase s ≠ 3 ∧ ldrPhase s ≠ 4 then .next s
    else
      match r.chunks[s.ldr.pos]? with
      | none => .next s
      | some c =>
        let o := chunkAt r s.ldr.pos
        match srcRead s 440 r.phys r.src (host.map (fun l => List.replicate o 0 ++ l)) o c.clen with
        | none => .next (loadFail s 0x11 (some o))
        | some b =>
          if Config.shake256 b 32 != c.digest then .next (loadFail s 0x10 (some o))
          else
            let last := s.ldr.pos + 1 == r.chunks.length
            let fs := match chunkRecs b last s.ldr.tgts [] with | .inr l => l | .inl _ => []
            let s := fs.foldl (fun s e => writeFrame s e.1 e.2) s
            let s := setPhase (s.countBy Reg.CFG_PROGRESS fs.length) (if last then 5 else 4)
            .next (s.setLdr { s.ldr with pos := s.ldr.pos + 1, step := if last then 1 else 0 })

/-- LOAD_TIMEOUT (R245): no data for CFG_TIMEOUT ms, in either pass. -/
def execLoadTimeout (s : State) : Out :=
  if ldrPhase s = 1 then .next (loadFail s 0xD none)
  else if ldrPhase s = 3 ∨ ldrPhase s = 4 then
    .next (loadFail s 0x11 (some (match s.ldr.stream with | some r => chunkAt r s.ldr.pos | none => 0)))
  else .next s

/-- ALT_USED (R240): the alternate image follows a strap load whose primary image failed. -/
def execAltUsed (s : State) : Out :=
  if s.ldr.altDue ∧ ldrPhase s = 0 then .next ((startLoad s 1 true true []).raise blkCfg 5) else .next s

/-! Start-up (R247, R248). -/

/-- The units of the Timeline of an ALIGN code: tick, subframe, second. -/
def alignUnit (a : Nat) : Nat := if a = 0 then tickUnit else if a = 1 then 1966080 * tcUnit else secUnit

/-- FSYN_SET's entry for synthesiser 5 + i written, and the synthesiser armed at the first boundary of its unit that lies at least
two ticks ahead (R248). -/
def fsynSet (s : State) (i : Nat) : State :=
  let v := fieldLe s.ldr.sets (8 * i) 8
  let n := 5 + i
  let s := (s.setRegN (Reg.FSYN_NUM n) (bitsOf v 15 0)).setRegN (Reg.FSYN_DEN n) (bitsOf v 35 16)
  if v.testBit 36 then
    let u := alignUnit (bitsOf v 38 37)
    if fsynRange s n then fsynArmAt s n (ceilDiv (s.tim.tl + 2 * tickUnit) u * u) else s.raise blkTim 14
  else s

/-- STARTUP_CLOCKS (step 2 of Table LDR-12). -/
def execStartupClocks (s : State) : Out :=
  if s.ldr.kind = 1 ∧ s.ldr.step = 1 then
    let s := (List.range 19).foldl fsynSet s
    let s := (List.range 48).foldl (fun s k => gckWrite s k (fieldLe s.ldr.sets (152 + 4 * k) 4)) s
    .next (s.setLdr { s.ldr with step := 2 })
  else .next s

/-- DRIVER_RELEASE (step 3 of Table LDR-12, R194): on a FULL load once every enabled tree runs. -/
def execDriverRelease (s : State) : Out :=
  let ready :=
    if s.ldr.kind = 1 then s.ldr.step == 2 && (List.range 48).all (fun k => !s.flag (Reg.GCK_CFG k) 16 || s.flag (Reg.GCK_STAT k) 0)
    else s.ldr.kind == 2 && s.ldr.step == 1
  if ready then
    let s := s.setFab { s.fab with driven := s.ldr.tgts.foldl (fun m p => sput (fun _ => false) m p true) s.fab.driven }
    .next (s.setLdr { s.ldr with step := 3 })
  else .next s

/-- GSR_RELEASE (step 4 of Table LDR-12, R227): flip-flops leave with their INIT, and held I/O cells follow the design. -/
def execGsrRelease (s : State) : Out :=
  if s.ldr.step = 3 then
    let cells := s.ldr.tgts.flatMap (fun p => (List.range 65536).map (fun i => 65536 * p + i))
    let ffs := cells.foldl (fun m c => sput (fun _ => false) m c ((cellWord s c).testBit 11 && (cellWord s c).testBit 16)) s.fab.ffs
    let s := s.setFab { s.fab with ffs := ffs, ioHold := s.fab.ioHold.filter (fun c => !s.ldr.tgts.contains (ioPad c)) }
    let s := s.ldr.tgts.foldl (fun s p => s.setFlag (Reg.CFG_PAD_STAT p) 3 false) s
    .next (s.setLdr { s.ldr with step := 4 })
  else .next s

/-- A Paddock's Blinkers in PASS, LOADED (step 5 of Table LDR-12). -/
def passPad (s : State) (part : Bool) (p : Nat) : State :=
  let a := Reg.CFG_PAD_STAT p
  let s := (s.setFld a 1 0 1).setFlag a 2 false
  let s := if part then s.addFld a 31 16 1 else s
  let s := s.setFab { s.fab with blk := sdrop p s.fab.blk, held := s.fab.held.filter (fun e => e.1 / 1024 != p) }
  (s.setFlag (Reg.FAR_PAD_STAT p) 3 false).setFlag (Reg.FAR_PAD_STAT p) 4 false

/-- The Farrier begins or goes on with loaded Paddocks (R266). -/
def farStart (s : State) : State :=
  if s.flag Reg.FAR_STAT 0 then s
  else
    let s := s.setFar { s.far with a := { start := s.tim.cks }, b := { start := s.tim.cks }, ups := [0], restore := false }
    s.setRegN Reg.FAR_STAT (7 + 16 * 16)

/-- LOAD_DONE (step 5 of Table LDR-12). -/
def execLoadDone (s : State) : Out :=
  match s.ldr.stream with
  | none => .next s
  | some r =>
    if s.ldr.step ≠ 4 then .next s
    else
      let full := s.ldr.kind == 1
      let s := s.ldr.tgts.foldl (fun s p => passPad s (!full) p) s
      let s := setPhase (((s.setFld Reg.CFG_STAT 15 8 0).setFlag Reg.CFG_STAT 4 true).setFlag Reg.CFG_STAT 5 s.ldr.alt) 0
      let s := ((s.count Reg.CFG_LOAD_CNT).setRegN Reg.CFG_LAST_US (loadUs s)).raise blkCfg 0
      let s := retFill (s.setLdr { s.ldr with kind := 0, step := 0, stream := none, kept := s.ldr.kept ++ [r] })
      let s := farStand s
      if full then
        let s := (s.setRegN Reg.CFG_BUILD_LO s.ldr.build).setRegN Reg.CFG_BUILD_HI (s.ldr.build / 2 ^ 32)
        .next (roleSettle ((farStart s).moveMode mCommission))
      else .next s

end Sys2Proof.Machine
end

