-- ==== Sys2Proof/Machine/Farrier.lean ====
section
/-! DEFINITION. The Farrier (R258…R278): decoding frames, passes, repair, re-fetch, contention reports, and self-protection. -/

namespace Sys2Proof.Machine

/-! Decoding (R259). -/

/-- What a read of a frame finds (Table FAR-2). -/
inductive FarCase where
  | clean
  | data (i : Nat)
  | adj (i : Nat)
  | check (j : Nat) (two : Bool)
  | lost
  deriving DecidableEq, Repr

/-- The CRC-24 of the pattern with the bits of a list set. -/
def crcOf (l : List Nat) : Nat := crc24 (leBytes 256 ((l.map (2 ^ ·)).sum))

/-- The outcome of a read (R259, Table FAR-2). -/
def farCase (w : FrameWord) : FarCase :=
  let sy := (w.check ^^^ frameCheck w.data).toNat
  let p := bitsOf sy 7 0
  let e := bitsOf sy 15 8
  let o := bitsOf sy 23 16
  let c := bitsOf sy 47 24
  if sy = 0 then .clean
  else
    let one := (List.range 8).find? (fun g => p == 2 ^ g && (if g % 2 = 0 then o == 0 else e == 0)
      && c == crcOf [8 * (if g % 2 = 0 then e else o) + g])
    let two := (List.range 8).find? (fun g => p == 2 ^ g + 2 ^ ((g + 1) % 8)
      && (if g < 7 then e == o else o ≤ 254 && e == o + 1) && c == crcOf [8 * o + g, 8 * o + g + 1])
    match one, two with
    | some g, _ => .data (8 * (if g % 2 = 0 then e else o) + g)
    | none, some g => .adj (8 * o + g)
    | none, none =>
      match (List.range 48).find? (fun j => sy == 2 ^ j), (List.range 47).find? (fun j => sy == 2 ^ j + 2 ^ (j + 1)) with
      | some j, _ => .check j false
      | none, some j => .check j true
      | none, none => .lost

/-- A frame corrected (Table FAR-2). -/
def farFix (w : FrameWord) : FarCase → FrameWord
  | .data i => { w with data := w.data ^^^ BitVec.ofNat 2048 (2 ^ i) }
  | .adj i => { w with data := w.data ^^^ BitVec.ofNat 2048 (2 ^ i + 2 ^ (i + 1)) }
  | .check _ _ => { w with check := frameCheck w.data }
  | _ => w

/-- KIND, BIT_A, and BIT_B with B_VALID of a decode's log entry (Table FAR-3). -/
def farKind : FarCase → Nat × Nat × Option Nat
  | .clean => (0, 0, none)
  | .data i => (1, i, none)
  | .adj i => (2, i, some (i + 1))
  | .check j two => (3, 2048 + j, if two then some (2049 + j) else none)
  | .lost => (4, 0, none)

/-! Engines. -/

/-- Engine e: 0 F_A, 1 F_B. -/
def farEng (s : State) (e : Nat) : FarEngine := if e = 0 then s.far.a else s.far.b
/-- The state with an engine replaced. -/
def setEng (s : State) (e : Nat) (x : FarEngine) : State :=
  s.setFar (if e = 0 then { s.far with a := x } else { s.far with b := x })
/-- The Farrier runs (R266). -/
def farRuns (s : State) : Bool := s.flag Reg.FAR_STAT 0
/-- An engine is not stalled. -/
def engOk (s : State) (e : Nat) : Bool := s.flag Reg.FAR_STAT (1 + e)
/-- FAR_SEQ_A or FAR_SEQ_B. -/
def seqReg (e : Nat) : Nat := if e = 0 then Reg.FAR_SEQ_A else Reg.FAR_SEQ_B

/-- The engine that serves a Paddock: by parity, or the one that carries them all. -/
def engOf (s : State) (p : Nat) : Nat := if s.far.a.all then 0 else if s.far.b.all then 1 else p % 2

/-- An entry in the Farrier log (Table FAR-3). -/
def farLog (s : State) (e fa kind : Nat) (prio flagged : Bool) (a : Nat) (b : Option Nat) : State :=
  let w0 := fa + kind * 2 ^ 21 + e * 2 ^ 25 + bit prio * 2 ^ 26 + bit flagged * 2 ^ 27
  let w2 := a + (match b with | some x => x * 2 ^ 16 + 2 ^ 28 | none => 0)
  let (t, l) := logPush s s.far.log (w0 + s.pt * 2 ^ 32 + w2 * 2 ^ 64) 96 Reg.FAR_LOG_STAT blkCfg 27
  t.setFar { t.far with log := l }

/-- An upset counted for the adaptive rate (R265). -/
def upsCount (s : State) : State :=
  match s.far.ups with
  | n :: r => s.setFar { s.far with ups := (n + 1) :: r }
  | [] => s.setFar { s.far with ups := [1] }

/-- A Paddock's flag raised (R268): one already up opens no new trigger. -/
def padFlag (s : State) (p : Nat) : State :=
  if s.flag (Reg.FAR_PAD_STAT p) 0 then s
  else reinBack ((s.setFlag (Reg.FAR_PAD_STAT p) 0 true).raise blkCfg 21) 3 p
    (fun o => o.cls == 1 && o.worker.any (fun h => hpPaddock h == p))

/-- The flag and REPAIR bit of a Paddock after its repairs (R268, R270). -/
def padSettle (s : State) (p : Nat) : State :=
  let s := s.setFlag (Reg.FAR_PAD_STAT p) 2 (padRepair s p)
  farStand (if !padRepair s p && !s.flag (Reg.FAR_PAD_STAT p) 3 then s.setFlag (Reg.FAR_PAD_STAT p) 0 false else s)

/-- The FA is under repair in its engine. -/
def inRepair (x : FarEngine) (fa : Nat) : Bool := x.queue.any (fun q => q.fa == fa) || x.fetch.any (fun q => q.fa == fa)

/-- A frame takes its place for repair (R267): its corrected contents in the queue, or a re-fetch. -/
def toRepair (s : State) (e fa : Nat) (prio : Bool) (c : FarCase) : State :=
  let x := farEng s e
  if inRepair x fa then s
  else if c = .lost then setEng s e { x with fetch := x.fetch ++ [{ fa := fa, prio := prio }] }
  else setEng s e { x with queue := x.queue ++ [{ fa := fa, word := farFix (frameOf s fa) c, prio := prio }] }

/-- An upset (R259, R264, R267, R268, R275): counted, logged, signalled for a priority Paddock, flagged, and queued where the
repair queue of 16 has room. -/
def upset (s : State) (e fa : Nat) (prio : Bool) (c : FarCase) : State :=
  let p := fa / padFrames
  let (kind, a, b) := farKind c
  let isCheck := kind == 3
  let up := !isCheck && (s.flag Reg.FAR_CTL 1 || c == .lost)
  let flagged := up && !s.flag (Reg.FAR_PAD_STAT p) 0
  let full := c != .lost && !inRepair (farEng s e) fa && decide (16 ≤ (farEng s e).queue.length)
  let s := upsCount s
  let s := if c = .lost then (s.count (Reg.FAR_PAD_UNC p)).raise blkCfg 17 else (s.count (Reg.FAR_PAD_CORR p)).raise blkCfg 16
  let s := s.setRegN (Reg.FAR_PAD_LAST p) s.pt
  let s := farLog s e fa (if full then 9 else kind) prio flagged a b
  let s := if !isCheck && s.far.set.contains p then s.detect 8 else s
  let s := if full then (s.count Reg.FAR_QFULL_CNT).raise blkCfg 28 else toRepair s e fa prio c
  padSettle (if up then padFlag s p else s) p

/-- The Paddock and frame at place k of an engine's cycle (R261, R274). -/
def basePlace (x : FarEngine) (e k : Nat) : Nat := if x.all then k else (2 * (k / padFrames) + e) * padFrames + k % padFrames
/-- The places of a cycle. -/
def baseLen (x : FarEngine) : Nat := if x.all then allFrames else allFrames / 2

/-- A frame read and decoded, where it is a logic frame of a LOADED Paddock (R261). -/
def farRead (s : State) (e fa : Nat) (prio : Bool) : State :=
  if fa % padFrames < logicFrames ∧ padLoaded s (fa / padFrames) then
    let c := farCase (frameOf s fa)
    if c = .clean then s else upset s e fa prio c
  else s

/-- FRAME_SLOT (R260…R264): a slot of engine e, of its priority pass or its base pass. -/
def execFrameSlot (engine : Fin 2) (prio : Bool) (s : State) : Out :=
  let e := engine.val
  let x := farEng s e
  if !farRuns s then .next s
  else
    let s := s.setRegN (seqReg e) (s.regN (seqReg e) + 1)
    if prio then
      match x.pads[x.ppos / logicFrames]? with
      | none => .next s
      | some p =>
        let s := setEng s e { x with ppos := x.ppos + 1 }
        let s := if x.ppos + 1 = logicFrames * x.pads.length then s.count Reg.FAR_PASS_CNT else s
        .next (farRead s e (p * padFrames + x.ppos % logicFrames) true)
    else
      let last := x.base + 1 == baseLen x
      let s := setEng s e { x with base := if last then 0 else x.base + 1, start := if last then s.tim.cks else x.start }
      let s := if last then
          (s.count Reg.FAR_CYCLE_CNT).setRegN (if e = 0 then Reg.FAR_CYCLE_A else Reg.FAR_CYCLE_B)
            (satNat 32 ((s.tim.cks - x.start) * 625 / 307200))
        else s
      .next (farRead s e (basePlace x e x.base) false)

/-- PRIORITY_PASS_START (R263, R264, R274): a new period begins. A survivor takes every Paddock, or gives them back. -/
def execPriorityPassStart (engine : Fin 2) (s : State) : Out :=
  if !farRuns s then .next s
  else
    let e := engine.val
    let x := farEng s e
    let back := x.all && !x.solo
    let x := if x.solo && !x.all then { x with all := true, base := basePlace x e x.base }
      else if back then { x with all := false, base := x.base % (allFrames / 2) }
      else x
    let mine := s.far.set.filter (fun p => (x.all || p % 2 == e) && padLoaded s p)
    let s := setEng s e { x with pads := mine, ppos := 0 }
    if back then .next ((s.setFlag Reg.FAR_STAT 3 false).raise blkCfg 25) else .next s

/-- The lines of a tile, whose keepers note their values before a driver frame changes. -/
def tileLines (fa : Nat) : List Nat :=
  let t := 256 * (fa / padFrames) + fa % padFrames / 27
  if fa % padFrames < logicFrames ∧ (fa % padFrames % 27 = 13 ∨ 15 ≤ fa % padFrames % 27) then (List.range 128).map (lineOf t) else []

/-- A frame's stored word replaced while the design runs on it. -/
def liveFrame (s : State) (fa : Nat) (w : FrameWord) : State := setFrame (keepLines s (tileLines fa)) fa w

/-- REPAIR_WRITE (R267): the first frame of the queue not yet written. -/
def execRepairWrite (engine : Fin 2) (s : State) : Out :=
  let x := farEng s engine
  match x.queue.find? (fun q => !q.written) with
  | none => .next s
  | some q =>
    let s := liveFrame s q.fa q.word
    .next (setEng s engine { x with queue := x.queue.map (fun y => if y.fa = q.fa then { y with written := true } else y) })

/-- A re-fetch has failed (R270): CFG_LOST for a priority Paddock, and with AUTO_EMPTY the Paddock is isolated and emptied. -/
def fetchFail (s : State) (e fa : Nat) (prio : Bool) : State :=
  let p := fa / padFrames
  let x := farEng s e
  let s := setEng s e { x with fetch := x.fetch.filter (fun f => f.fa != fa), queue := x.queue.filter (fun q => q.fa != fa) }
  let s := (farLog s e fa 7 prio false 0 none).raise blkCfg 19
  let s := s.setFlag (Reg.FAR_PAD_STAT p) 3 true
  let s := if s.far.set.contains p then s.detect 9 else s
  if s.flag Reg.FAR_CTL 2 then (((takePads s [p] false 2).raise blkCfg 9).raise blkCfg 4).raise blkCfg 29
  else padSettle s p

/-- The frames that hold a driver of a line: frame 13 of its tiles and the block slots attached there (R272). -/
def lineFrames (n : Nat) : List Nat :=
  (lineTiles n).flatMap (fun t => tileFrame t 13 :: (List.range (attached t).length).map (fun k => tileFrame t (15 + 6 * k)))
/-- Whether one of them shows a DE bit of the line. -/
def showsDe (s : State) (n fa : Nat) : Bool :=
  (driversOf s n).any (fun d => tileFrame d.tile (match d.slot with | none => 13 | some k => 15 + 6 * k) == fa)

/-- A line under repair looked at (R272): frames that are not CLEAN are repaired; when all are and two DE bits still stand, the
frames that show them are fetched back; when all verify, the sensor is rearmed and the driver released. -/
def lineService (s : State) (e n : Nat) : State :=
  let fs := lineFrames n
  if fs.any (inRepair (farEng s e)) then s
  else
    let bad := fs.filter (fun fa => farCase (frameOf s fa) != .clean)
    if !bad.isEmpty then
      bad.foldl (fun s fa => let c := farCase (frameOf s fa)
        if c = .lost ∨ (farEng s e).queue.length < 16 then toRepair s e fa false c else s) s
    else if 2 ≤ (driversOf s n).length then
      (fs.filter (showsDe s n)).foldl (fun s fa => toRepair s e fa false .lost) s
    else
      let s := s.setFab { s.fab with tripped := s.fab.tripped.filter (· != n) }
      setEng s e { farEng s e with lines := (farEng s e).lines.filter (· != n) }

/-- Every line of an engine looked at, then the Paddock's flag. -/
def linesService (s : State) (e p : Nat) : State :=
  padSettle ((farEng s e).lines.foldl (fun s n => lineService s e n) s) p

/-- REPAIR_VERIFY (R267, R269, R270): the first written frame is read back. -/
def execRepairVerify (engine : Fin 2) (s : State) : Out :=
  let e := engine.val
  let x := farEng s e
  match x.queue.find? (·.written) with
  | none => .next s
  | some q =>
    let p := q.fa / padFrames
    let c := farCase (frameOf s q.fa)
    let drop (s : State) : State := setEng s e { farEng s e with queue := (farEng s e).queue.filter (fun y => y.fa != q.fa) }
    if c = .clean then
      let s := drop s
      let s := if q.fetched then ((farLog s e q.fa 6 q.prio false 0 none).count Reg.FAR_REFETCH_CNT).raise blkCfg 18 else s
      .next (linesService s e p)
    else if q.fetched then .next (fetchFail (upsCount s) e q.fa q.prio)
    else
      let up := farKind c |>.1 |> fun k => k != 3 && (s.flag Reg.FAR_CTL 1 || c == .lost)
      let flagged := up && !s.flag (Reg.FAR_PAD_STAT p) 0
      let s := upsCount (drop s)
      let s := (s.count (Reg.FAR_PAD_UNC p)).setRegN (Reg.FAR_PAD_LAST p) s.pt
      let s := farLog s e q.fa 5 q.prio flagged 0 none
      let s := ((s.count Reg.FAR_STUCK_CNT).raise blkCfg 20).setFlag (Reg.FAR_PAD_STAT p) 4 true
      let s := toRepair s e q.fa q.prio .lost
      .next (padSettle (if up then padFlag s p else s) p)

/-- The retained stream of a Paddock, with its span (R254). -/
def keptOf (s : State) (p : Nat) : Option (Retained × Nat × Nat) :=
  s.ldr.kept.findSome? (fun r => (r.spans.find? (fun x => x.1 == p)).map (fun x => (r, x.2.1, x.2.2)))

/-- A fetched frame enters the queue to be written and verified. -/
def fetched (s : State) (e : Nat) (f : Refetch) (d : BitVec 2048) : State :=
  let x := farEng s e
  setEng s e { x with
    fetch := x.fetch.filter (fun y => y.fa != f.fa)
    queue := x.queue ++ [{ fa := f.fa, word := { data := d, check := frameCheck d }, fetched := true, prio := f.prio }] }

/-- REFETCH_CHUNK (R269, R270, R480): the oldest re-fetch of an engine reads its next chunk; it waits for a load that uses the
CFG port, and for a place in the queue. -/
def execRefetchChunk (engine : Fin 2) (host : Option (List Byte)) (s : State) : Out :=
  let e := engine.val
  let x := farEng s e
  match x.fetch with
  | [] => .next s
  | f :: _ =>
    match keptOf s (f.fa / padFrames) with
    | none => .next (fetchFail s e f.fa f.prio)
    | some (r, lo, hi) =>
      let port := !r.phys && decide (ldrPhase s ≠ 0) && (s.ldr.strap || !s.flag Reg.CFG_SRC_HI 31) && s.ldr.kind != 3
      if port ∨ 16 ≤ x.queue.length then .next s
      else if !keyOk s r.slot r.hash then .next (fetchFail s e f.fa f.prio)
      else
        let i := f.pos.getD lo
        match r.chunks[i]? with
        | none => .next (fetchFail s e f.fa f.prio)
        | some c =>
          let o := chunkAt r i
          match srcRead s (441 + e) r.phys r.src (host.map (fun l => List.replicate o 0 ++ l)) o c.clen with
          | none => .next (fetchFail s e f.fa f.prio)
          | some b =>
            if Config.shake256 b 32 != c.digest then .next (fetchFail s e f.fa f.prio)
            else
              let fs := match chunkRecs b (i + 1 == r.chunks.length) allPads [] with | .inr l => l | .inl _ => []
              match fs.find? (fun y => y.1 == f.fa) with
              | some (_, d) => .next (fetched s e f d)
              | none =>
                if hi ≤ i then .next (fetched s e f 0)
                else .next (setEng s e { x with fetch := x.fetch.map (fun y => if y.fa = f.fa then { y with pos := some (i + 1) } else y) })

/-- CONTENTION_SAMPLE (R193, R272): a line's sensor finds two or more DE bits: its drivers are disabled, the keeper holds one
driver's value or an undefined one, and the line is reported. -/
def execContentionSample (line : Fin 294912) (s : State) : Out :=
  let n := line.val
  let p := n / 2048
  if !padDriven s p || s.fab.tripped.contains n || (driversOf s n).length < 2 then .next s
  else
    let lv := s.free % 2 == 1
    let s := s.took
    let s := s.setFab { s.fab with tripped := s.fab.tripped ++ [n], keepers := sput (fun _ => false) s.fab.keepers n lv }
    let e := engOf s p
    let flagged := !s.flag (Reg.FAR_PAD_STAT p) 0
    let s := upsCount ((s.count Reg.FAR_CONT_CNT).raise blkCfg 22)
    let s := s.setRegN (Reg.FAR_PAD_LAST p) s.pt
    let s := farLog s e (tileFrame ((lineTiles n).headD 0) 13) 8 false flagged (lineL n) none
    let s := setEng s e { farEng s e with lines := (farEng s e).lines ++ [n] }
    let s := if s.far.set.contains p then s.detect 8 else s
    .next (linesService (padFlag s p) e p)

/-! Rate, priority set, self-protection, log, injection. -/

/-- FAR_TMAX as it acts. -/
def farTmax (s : State) : Nat := Nat.max 42 (Nat.min 60000 (s.fld Reg.FAR_TMAX 15 0))
/-- λ as a fraction: the greater of the two means (R265). -/
def farLambda (ups : List Nat) : Nat × Nat :=
  let t := ups.length
  let a := (ups.take 60).sum
  let b := (ups.take 86400).sum
  let ta := Nat.min 60 t
  let tb := Nat.min 86400 t
  if b * ta ≤ a * tb then (a, ta) else (b, tb)
/-- The base rate of R265, limited to 1 in STABLE (R266). -/
def farRate (s : State) (a b : Nat) : Nat :=
  let r :=
    if s.flag Reg.FAR_CTL 0 then
      (let v := s.fld Reg.FAR_RATE 4 0
       if v = 0 ∨ 17 ≤ v then 16 else v)
    else
      let tgt := s.fld Reg.FAR_TGT 15 0
      let slow := ceilDiv 663552 (farTmax s * 1000)
      let fast := if a = 0 then 1 else if tgt = 0 then 16 else ceilDiv (663552 * 65536 * a) (tgt * 1000000 * b)
      Nat.max 1 (Nat.min 16 (Nat.max slow fast))
  if s.mode = mStable ∨ (s.mode = mSafe ∧ s.under = mStable) then 1 else r

/-- FARRIER_RATE_UPDATE (R265): once a second. -/
def execFarrierRateUpdate (s : State) : Out :=
  if !farRuns s then .next s
  else
    let (a, b) := farLambda s.far.ups
    let s := s.setRegN Reg.FAR_LAMBDA (satNat 32 (a * 65536 / b))
    let s := s.setFld Reg.FAR_STAT 8 4 (farRate s a b)
    .next (s.setFar { s.far with ups := 0 :: s.far.ups.take 86399 })

/-- FAR_PRIO_COMMIT (R263): a write of FAR_PRIO_4. A Paddock already marked REFETCH_FAILED that joins the set makes CFG_LOST stand
without a detection (R506). -/
def execFarPrioCommit (value : BitVec 32) (s : State) : Out :=
  let v := value.toNat
  let set := (List.range paddocks).filter (fun p => if p < 128 then s.flag (Reg.FAR_PRIO (p / 32)) (p % 32) else v.testBit (p - 128))
  if 8 < (set.filter (fun p => p % 2 == 0)).length ∨ 8 < (set.filter (fun p => p % 2 == 1)).length ∨ 2 ^ 16 ≤ v then
    .next (s.raise blkCfg 26)
  else
    let s := (s.setRegN (Reg.FAR_PRIO 4) v).setFar { s.far with set := set }
    let s := (List.range paddocks).foldl (fun s p => s.setFlag (Reg.FAR_PAD_STAT p) 1 (set.contains p)) s
    let s := if s.flag Reg.FAR_STAT 3 ∧ !set.isEmpty then s.detect 10 else s
    let s := if s.rcoOk && set.any (fun p => s.flag (Reg.FAR_PAD_STAT p) 3) then s.setFlag Reg.OUT_CAUSE 9 true else s
    .next (farStand (if s.flag Reg.OUT_CAUSE 10 && set.isEmpty && (engOk s 0 || engOk s 1) then s.unstand 10 else s))

/-- PEER_STALL_CHECK (R274): engine e compares its partner's sequence number with the value of 1 ms before. -/
def execPeerStallCheck (engine : Fin 2) (s : State) : Out :=
  if !farRuns s then .next s
  else
    let e := engine.val
    let q := 1 - e
    let x := farEng s e
    let now := s.regN (seqReg q)
    let moved := x.seen != some now
    let first := x.seen.isNone
    let s := setEng s e { x with seen := some now }
    if engOk s q && !moved then
      let s := ((s.count Reg.FAR_STALL_CNT).raise blkCfg 24).setFlag Reg.FAR_STAT (1 + q) false
      let s := s.setFlag Reg.FAR_STAT 3 true
      let s := setEng s e { farEng s e with solo := true }
      let s := s.setFlag Reg.OUT_STAT 7 true
      .next (if !s.far.set.isEmpty || !engOk s e then s.detect 10 else s)
    else if !engOk s q && s.far.restore && moved && !first then
      let s := s.setFlag Reg.FAR_STAT (1 + q) true
      let s := setEng (s.setFar { s.far with restore := false }) e { farEng s e with solo := false }
      .next (if s.flag Reg.OUT_CAUSE 10 then s.unstand 10 else s)
    else .next (s.setFar { s.far with restore := s.far.restore && engOk s q })

/-- RESTORE_PEER (R274): a write of FAR_CMD resets the stalled engine. -/
def execRestorePeer (value : BitVec 32) (s : State) : Out :=
  if value.getLsbD 0 ∧ farRuns s ∧ engOk s 0 != engOk s 1 then
    let q := if engOk s 0 then 1 else 0
    let s := setEng s q { start := s.tim.cks }
    .next (s.setFar { s.far with restore := true })
  else .next s

/-- FAR_LOG_READ (R275): a read of FAR_LOG_3; the debug port's pops nothing. -/
def execFarLogRead (init : Fin 512) (s : State) : Out :=
  let s := s.answer init 0 [logWord s.far.log 3]
  if init.val = debugInit then .next s
  else
    let (t, l) := logPop s s.far.log Reg.FAR_LOG_STAT
    .next (t.setFar { t.far with log := l })

/-- FAR_INJECT (R276): a write of FAR_INJ_BIT. -/
def execFarInject (value : BitVec 32) (s : State) : Out :=
  if !modeIn s testModes then .next (s.raise blkCfg 31)
  else
    let v := value.toNat
    let fa := s.fld Reg.FAR_INJ_FA 20 0
    let i := bitsOf v 11 0
    let two := v.testBit 12 && i != 2047 && i != 2095
    let s := s.setRegN Reg.FAR_INJ_BIT (v % 2 ^ 13)
    if v.testBit 31 ∧ fa < allFrames ∧ padLoaded s (fa / padFrames) ∧ i < 2096 then
      let mask := BitVec.ofNat 2096 (2 ^ i + (if two then 2 ^ (i + 1) else 0))
      let dm := mask.truncate 2048
      if fa % padFrames < logicFrames then
        let w := frameOf s fa
        .next (liveFrame s fa { data := w.data ^^^ dm, check := w.check ^^^ (mask >>> 2048).truncate 48 })
      else
        let b := 64 * (fa / padFrames) + (fa % padFrames - logicFrames) / 36
        let o := 2048 * ((fa % padFrames - logicFrames) % 36)
        .next ((List.range 2).foldl (fun s k =>
          if dm.getLsbD (i + k) then setBmRow s b ((o + i + k) / 72) (bmRow s b ((o + i + k) / 72) ^^^ BitVec.ofNat 72 (2 ^ ((o + i + k) % 72))) else s) s)
    else .next s

end Sys2Proof.Machine
end

