-- ==== Sys2Proof/Machine/Canter.lean ====
section
/-! DEFINITION. A Canter core: local memories, transfers, exceptions, completion, the grant and the switch of banks
(R151…R175). -/

namespace Sys2Proof.Machine

/-! Local memories (0 X, 1 Y, 2 C). -/

/-- A word of a local memory. -/
def locGet (k : CoreState) (mem i : Nat) : BitVec 32 :=
  sget (fun _ => 0) (if mem = 0 then k.x else if mem = 1 then k.y else k.c) (i % memWords mem)
/-- The core with a word of a local memory replaced. -/
def locPut (k : CoreState) (mem i : Nat) (v : BitVec 32) : CoreState :=
  if mem = 0 then { k with x := sput (fun _ => 0) k.x (i % memWords mem) v }
  else if mem = 1 then { k with y := sput (fun _ => 0) k.y (i % memWords mem) v }
  else { k with c := sput (fun _ => 0) k.c (i % memWords mem) v }
/-- A bundle of the instruction memory. -/
def imemBundle (k : CoreState) (i : Nat) : BitVec 64 :=
  sget (fun _ => (0 : BitVec 32)) k.i (2 * i + 1) ++ sget (fun _ => (0 : BitVec 32)) k.i (2 * i)

/-! Transfers (R167, R168). -/

/-- The first n words of a transfer moved. -/
def xferMove (s : State) (c : Nat) (x : Xfer) : Nat → State
  | 0 => s
  | n + 1 =>
    let s := xferMove s c x n
    if x.get then s.setCore c (locPut (s.core c) x.mem (x.loc + n) (BitVec.ofNat 32 (s.memN (x.phys + 4 * n) 4)))
    else s.setMemN (x.phys + 4 * n) 4 (locGet (s.core c) x.mem (x.loc + n)).toNat

/-- A transfer ended early: how many words had been moved the spec leaves open (R168, R174). -/
def xferPartial (s : State) (c : Nat) (x : Xfer) : State := xferMove s.took c x (s.free % (x.len + 1))

/-- The channel freed. -/
def chanFree (s : State) (c ch : Nat) : State := s.setCore c { s.core c with chans := sdrop ch (s.core c).chans }

/-- Every transfer of a bank ended (R174). -/
def endXfers (s : State) (c : Nat) (bank : Bool) : State :=
  let mine := (s.core c).chans.filter (fun e => e.2.bank == bank)
  mine.foldl (fun s e => chanFree (xferPartial s c e.2) c e.1) s

/-- A bank has no transfer on the channels of a mask. -/
def chansIdle (k : CoreState) (bank : Bool) (mask : Nat) : Bool :=
  !(k.chans.any (fun e => e.2.bank == bank && mask.testBit e.1))

/-- A bank's transfer on one of the channels of a mask has failed. -/
def chansFailed (k : CoreState) (bank : Bool) (mask : Nat) : Bool :=
  k.failed.any (fun e => e.2 == bank && mask.testBit e.1)

/-! Exceptions and completion (R169, R171). -/

/-- The bank stopped with a status to report: the pipeline drains, what the bundle at hand owed is dropped when it did not
issue, and the core waits for its transfers. -/
def stopWith (s : State) (c : Nat) (status : Nat) (issued : Bool) : State :=
  let k := s.core c
  let b := k.bank
  let b := if issued then b else { b with owed := b.owed.filter (fun w => w.issued != b.cycle) }
  s.setCore c { k.setBank { b.drain with wait := .ask status } with st := cDraining, cache := none }

/-- The PC and the event of an exception (R171). -/
def excMark (s : State) (c : Nat) (pc ev : Nat) : State := (s.setFld (Reg.CA_CORE_STAT c) 27 16 pc).raise blkCan ev

/-- The operation a core's bank runs, while the Pacer holds it granted to that core. -/
def coreOp (s : State) (c slot : Nat) : Option Op :=
  s.pac.ops.find? (fun o => o.slot == slot && o.cls == 0 && o.st == .running && o.worker == some c)

/-- A report sent to the Pacer, with the team's counts (R112, R171, Table CAN-12). -/
def coreReport (s : State) (c slot status : Nat) : State :=
  let t := teamOf c
  let s := s.setFld (Reg.CA_CORE_STAT c) 15 8 status
  let s := s.raiseIf (status == 0xF0) blkCan 6
  let s := if status = 0 then s.count (Reg.CA_TEAM_OPS t) else if 0xF0 ≤ status then s.count (Reg.CA_TEAM_EXC t) else s
  reportOr s (coreOp s c slot) status

/-- Every transfer failure of a bank forgotten. -/
def clearFailed (k : CoreState) (bank : Bool) : CoreState := { k with failed := k.failed.filter (fun e => e.2 != bank) }

/-- An operation's PREEMPTED mark. -/
def setPreempted (s : State) (c : Nat) (slot : Option Nat) (v : Bool) : State :=
  match slot with
  | some n => match coreOp s c n with
    | some o => setOp s { o with preempted := v }
    | none => s
  | none => s

/-- What a core does with nothing left in its live bank: the preempted operation resumes, else the core asks (R169, R172,
R174). -/
def resumeOrAsk (s : State) (c : Nat) : State :=
  let k := s.core c
  let k := { (clearFailed k k.live).setBank {} with cache := none }
  if k.shadow then
    let k := { k with live := !k.live, shadow := false, st := cRunning }
    let s := (s.setCore c k).raise blkCan 5
    setPreempted s c k.bank.slot false
  else bistTurn (s.setCore c { k with st := cAsking }) c

/-- The report and the ask sent together once the live bank's transfers are complete (R169). -/
def finish (s : State) (c status : Nat) : State :=
  let k := s.core c
  let failed := chansFailed k k.live 15
  let code := if failed ∧ status < 0xF0 then 0xF3 else status
  let s := if failed ∧ status < 0xF0 then excMark s c k.bank.pc 1 else s
  let s := match k.bank.slot with
    | some slot => coreReport s c slot code
    | none => s
  resumeOrAsk s c

/-- What a stopped bank waits for is looked at again: an ASK completes, a WAIT ends or finds a failure (R168), a busy channel
is taken. -/
def settleOnce (s : State) (c : Nat) : State :=
  let k := s.core c
  let b := k.bank
  match b.wait with
  | .none => s
  | .ask st => if k.chans.any (fun e => e.2.bank == k.live) then s else finish s c st
  | .chans m =>
    if !chansIdle k k.live m then s
    else if chansFailed k k.live m then excMark (stopWith s c 0xF3 true) c b.pc 1
    else s.setCore c (k.setBank { b.drain with wait := .none })
  | .chan ch x =>
    if k.chans.any (fun e => e.1 == ch) then s
    else s.setCore c { k.setBank { b.drain with wait := .none } with chans := sinsert ch x k.chans }

/-- The core settled: at most an exception, its report, and the wait of the operation it resumes. -/
def settleCore (s : State) (c : Nat) : State := settleOnce (settleOnce (settleOnce s c) c) c

/-- An exception (R171): the core stops at the bundle at hand, drains, waits for its transfers and reports the code. -/
def coreExcept (s : State) (c code ev : Nat) : State :=
  settleCore (excMark (stopWith s c code false) c (s.core c).bank.pc ev) c

/-- An ILLEGAL bundle (R159). -/
def coreIllegal (s : State) (c : Nat) : State := coreExcept s c 0xF2 0

/-! Issue. -/

/-- The captured body serves a loop (R166). -/
def captured (k : CoreState) (l : Loop) : Bool :=
  match k.cache with
  | some (st, body) => decide (st ≤ l.start) && decide (l.stop < st + body.length)
  | none => false

/-- The loop cache empties when its captured loop has exited (R166). -/
def cacheKeep (k : CoreState) (b : Bank) : Option (Nat × List (BitVec 64)) :=
  match k.cache with
  | some (st, body) =>
    if [b.loop0, b.loop1].any (fun l => l.active && l.start == st && l.stop + 1 == st + body.length) then k.cache else none
  | none => none

/-- The idle cycles a back-edge costs: none for a captured loop, two for any other (R166). -/
def backCost (k : CoreState) (b : Bank) : Nat :=
  if decide (b.nextPc ≤ b.pc) && [b.loop0, b.loop1].any (fun l => l.active && l.start == b.nextPc && !captured k l) then 2 else 0

/-- The core can issue: RUNNING with nothing stopping its live bank. -/
def canIssue (s : State) (c : Nat) : Bool :=
  let k := s.core c
  k.st == cRunning && k.bank.wait == .none

/-- The core cycles spent on a team's operations (CA_TEAM_BUSY), 64 bits. -/
def busyAdd (s : State) (c n : Nat) : State :=
  let a := Reg.CA_TEAM_BUSY (teamOf c)
  let v := s.regN a + s.regN (a + 4) * 2 ^ 32 + n
  (s.setRegN a v).setRegN (a + 4) (v / 2 ^ 32)

/-- A slot of a bundle reached: `fresh` begins the next bundle. Answers the state and whether the slot goes on; a bundle past
4,095 is ILLEGAL (R159). -/
def openSlot (s : State) (c : Nat) (fresh : Bool) : State × Bool :=
  if !canIssue s c then (s, false)
  else if !fresh then (s, true)
  else
    let k := s.core c
    if 4096 ≤ k.bank.nextPc then (coreIllegal s c, false)
    else
      let b := k.bank.issue
      let s := busyAdd s c (b.cycle - k.bank.cycle)
      let k := k.setBank b
      let k := k.setBank { b with stall := backCost k b }
      (s.setCore c { k with cache := cacheKeep k b }, true)

/-- A slot operation that works on its bank alone. -/
def slotOp (s : State) (c : Nat) (fresh : Bool) (f : Bank → Bank) : State :=
  match openSlot s c fresh with
  | (s, false) => s
  | (s, true) => s.setCore c ((s.core c).setBank (f (s.core c).bank))

/-- A slot operation that may be ILLEGAL. -/
def slotOr (s : State) (c : Nat) (fresh : Bool) (bad : Bank → Bool) (f : Bank → Bank) : State :=
  match openSlot s c fresh with
  | (s, false) => s
  | (s, true) =>
    if bad (s.core c).bank then coreIllegal s c
    else s.setCore c ((s.core c).setBank (f (s.core c).bank))

/-! Grants (R170, R172). -/

/-- The bank a grant loads (R170). -/
def grantBank (s : State) (o : Op) : Bank :=
  let d := fun (b : Bank) i v => { b with d := sput (fun _ => 0) b.d i (BitVec.ofNat 32 v) }
  let p := fun (b : Bank) i v => { b with p := sput (fun _ => 0) b.p i (BitVec.ofNat 48 v) }
  let b : Bank := { nextPc := bitsOf o.kernel 14 3, slot := some o.slot }
  let b := d (d (d (d b 0 o.arg) 1 (o.arg / 2 ^ 32)) 2 o.due) 3 (64 * o.slot)
  p (p (p (p b 0 (tokPort s (o.ins.getD 0 none))) 1 (tokPort s (o.ins.getD 1 none))) 2 (tokPort s (o.outs.getD 0 none)))
    3 (tokPort s (o.outs.getD 1 none))

/-- KERNEL names no bundle (R170). -/
def badKernel (o : Op) : Bool := bitsOf o.kernel 2 0 != 0 || bitsOf o.kernel 31 15 != 0

/-- The live bank loaded with a granted operation and started, or BAD_KERNEL reported at once (R170). -/
def loadGrant (s : State) (c : Nat) (o : Op) : State :=
  let s := s.setCore c { (s.core c).setBank (grantBank s o) with st := cRunning, cache := none }
  if badKernel o then settleCore (excMark (stopWith s c 0xF1 true) c (bitsOf o.kernel 14 3) 2) c else s

end Sys2Proof.Machine
end

