-- ==== Sys2Proof/Machine/CanterOps.lean ====
section
/-! DEFINITION. The meanings of the Canter slot operations and of the events of a core (05_canter_cores.md). -/

namespace Sys2Proof.Machine

/-! The MAC slot (Table CAN-3). -/

/-- NOP: a slot that does nothing. -/
def execNop (core : Fin 256) (fresh : Bool) (s : State) : Out := .next (slotOp s core fresh id)

/-- Both components of an accumulator written. -/
def Bank.accPair (b : Bank) (k : Nat) (re im : Int) : Bank := (b.accWrite rMac k false re).accWrite rMac k true im

/-- Both components added to an accumulator. -/
def Bank.accAdd (b : Bank) (k : Nat) (re im : Int) : Bank := b.accPair k (b.accOwn k false + re) (b.accOwn k true + im)

/-- CMAC: p = a × b′, negated with NEG, replacing A_K with CLR and else added to it. -/
def execCmac (core : Fin 256) (fresh : Bool) (k : Fin 4) (ra rb : Fin 32) (cj neg clr : Bool) (s : State) : Out :=
  .next (slotOp s core fresh (fun b =>
    let x := b.dReg ra
    let y := b.dReg rb
    let yi := if cj then -imOf y else imOf y
    let re := reOf x * reOf y - imOf x * yi
    let im := reOf x * yi + imOf x * reOf y
    let re := if neg then -re else re
    let im := if neg then -im else im
    if clr then b.accPair k re im else b.accAdd k re im))

/-- DRMAC: two real products each against the shared modifier. -/
def execDrmac (core : Fin 256) (fresh : Bool) (k : Fin 4) (ra rb md : Fin 32) (s : State) : Out :=
  .next (slotOp s core fresh (fun b =>
    let x := b.dReg ra
    let y := b.dReg rb
    let g := b.dReg md
    b.accAdd k (reOf x * reOf g + imOf x * imOf g) (reOf y * reOf g + imOf y * imOf g)))

/-- PCMAC: A_K += (a + b) × g. -/
def execPcmac (core : Fin 256) (fresh : Bool) (k : Fin 4) (ra rb md : Fin 32) (s : State) : Out :=
  .next (slotOp s core fresh (fun b =>
    let x := b.dReg ra
    let y := b.dReg rb
    let g := b.dReg md
    let re := reOf x + reOf y
    let im := imOf x + imOf y
    b.accAdd k (re * reOf g - im * imOf g) (re * imOf g + im * reOf g)))

/-- EXT: each component of A_K rounded (R155, R156), saturated with SAT, SF set when it clamps; CLR zeroes A_K. -/
def execExt (core : Fin 256) (fresh : Bool) (k : Fin 4) (ra : Fin 32) (sh : Fin 64) (final sat clr : Bool) (s : State) : Out :=
  .next (slotOr s core fresh (fun _ => decide (47 < sh.val)) (fun b =>
    let re := roundBy b.rm final (b.accVis k false) sh
    let im := roundBy b.rm final (b.accVis k true) sh
    let re' := if sat then satInt 16 re else re
    let im' := if sat then satInt 16 im else im
    let b := b.dWrite 2 rMac ra (cplx re' im')
    let b := if re' ≠ re ∨ im' ≠ im then { b with flags := b.flags ||| 0x1000#32 } else b
    if clr then (b.owe 4 rMac (.acc k false) 0).owe 4 rMac (.acc k true) 0 else b))

/-- ASHR: A_K shifted right (R156). -/
def execAshr (core : Fin 256) (fresh : Bool) (k : Fin 4) (sh : Fin 64) (s : State) : Out :=
  .next (slotOr s core fresh (fun _ => decide (47 < sh.val)) (fun b =>
    b.accPair k (roundBy b.rm false (b.accOwn k false) sh) (roundBy b.rm false (b.accOwn k true) sh)))

/-- ALD: A_K := D_RA × 2^RB per component. -/
def execAld (core : Fin 256) (fresh : Bool) (k : Fin 4) (ra : Fin 32) (sh : Fin 32) (s : State) : Out :=
  .next (slotOp s core fresh (fun b => b.accPair k (reOf (b.dReg ra) * 2 ^ sh.val) (imOf (b.dReg ra) * 2 ^ sh.val)))

/-- AMOV: A_K := A_j. -/
def execAmov (core : Fin 256) (fresh : Bool) (k j : Fin 4) (s : State) : Out :=
  .next (slotOp s core fresh (fun b => b.accPair k (b.accVis j false) (b.accVis j true)))

/-- AADD: A_K := A_K + A_j; with j = K both are its own destination (R160). -/
def execAadd (core : Fin 256) (fresh : Bool) (k j : Fin 4) (s : State) : Out :=
  .next (slotOp s core fresh (fun b =>
    if j = k then b.accAdd k (b.accOwn k false) (b.accOwn k true) else b.accAdd k (b.accVis j false) (b.accVis j true)))

/-- CADD: D_RA := D_RB + D_MOD per component, wrapping. -/
def execCadd (core : Fin 256) (fresh : Bool) (ra rb md : Fin 32) (s : State) : Out :=
  .next (slotOp s core fresh (fun b =>
    b.dWrite 1 rMac ra (cplx (reOf (b.dReg rb) + reOf (b.dReg md)) (imOf (b.dReg rb) + imOf (b.dReg md)))))

/-- CSUB: D_RA := D_RB − D_MOD per component, wrapping. -/
def execCsub (core : Fin 256) (fresh : Bool) (ra rb md : Fin 32) (s : State) : Out :=
  .next (slotOp s core fresh (fun b =>
    b.dWrite 1 rMac ra (cplx (reOf (b.dReg rb) - reOf (b.dReg md)) (imOf (b.dReg rb) - imOf (b.dReg md)))))

/-- CADDS: as CADD, saturating. -/
def execCadds (core : Fin 256) (fresh : Bool) (ra rb md : Fin 32) (s : State) : Out :=
  .next (slotOp s core fresh (fun b =>
    b.dWrite 1 rMac ra (cplx (satInt 16 (reOf (b.dReg rb) + reOf (b.dReg md))) (satInt 16 (imOf (b.dReg rb) + imOf (b.dReg md))))))

/-- CSUBS: as CSUB, saturating. -/
def execCsubs (core : Fin 256) (fresh : Bool) (ra rb md : Fin 32) (s : State) : Out :=
  .next (slotOp s core fresh (fun b =>
    b.dWrite 1 rMac ra (cplx (satInt 16 (reOf (b.dReg rb) - reOf (b.dReg md))) (satInt 16 (imOf (b.dReg rb) - imOf (b.dReg md))))))

/-- CONJ: D_RA := conj(D_RB), saturating. -/
def execConj (core : Fin 256) (fresh : Bool) (ra rb : Fin 32) (s : State) : Out :=
  .next (slotOp s core fresh (fun b => b.dWrite 1 rMac ra (cplx (reOf (b.dReg rb)) (satInt 16 (-imOf (b.dReg rb))))))

/-- MOV: D_RA := D_RB. -/
def execMov (core : Fin 256) (fresh : Bool) (ra rb : Fin 32) (s : State) : Out :=
  .next (slotOp s core fresh (fun b => b.dWrite 1 rMac ra (b.dReg rb).toNat))

/-! The X, Y, C and short control slots (R158). -/

/-- The rank of a memory's slot. -/
def slotRank (mem : Nat) : Nat := if mem = 0 then rX else if mem = 1 then rY else rC
/-- The address register of an access: the C slot's is P_15. -/
def slotP (mem p : Nat) : Nat := if mem = 2 then 15 else p
/-- The post-modification owed by an access; the C slot's always. -/
def Bank.owePost (b : Bank) (mem p : Nat) (pm : Bool) : Bank :=
  if pm ∨ mem = 2 then b.owe 1 (slotRank mem) (.p (slotP mem p)) (b.postMod (slotP mem p)) else b

/-- LD (R152, R158): the word of X, Y or C into D, 3 cycles later. -/
def execLd (core : Fin 256) (fresh : Bool) (mem : Fin 3) (p : Fin 16) (d : Fin 32) (pm : Bool) (s : State) : Out :=
  match openSlot s core fresh with
  | (s, false) => .next s
  | (s, true) =>
    let k := s.core core
    let b := k.bank
    let v := locGet k mem (wordIx mem (b.pReg (slotP mem p)))
    .next (s.setCore core (k.setBank ((b.dWrite 3 (slotRank mem) d v.toNat).owePost mem p pm)))

/-- ST (R152, R158): D into the word of X or Y, seen from the next cycle on. -/
def execSt (core : Fin 256) (fresh : Bool) (mem : Fin 2) (p : Fin 16) (d : Fin 32) (pm : Bool) (s : State) : Out :=
  match openSlot s core fresh with
  | (s, false) => .next s
  | (s, true) =>
    let k := s.core core
    let b := k.bank
    let k := locPut k mem (wordIx mem (b.pReg p)) (b.dReg d)
    .next (s.setCore core (k.setBank (b.owePost mem p pm)))

/-- ROT (R165). -/
def execRot (core : Fin 256) (fresh : Bool) (s : State) : Out :=
  .next (slotOp s core fresh (fun b => { b with rots := b.rots + 1 }))

/-- CLRA (R158): the accumulators of the mask zeroed. -/
def execClra (core : Fin 256) (fresh : Bool) (mask : Fin 16) (s : State) : Out :=
  .next (slotOp s core fresh (fun b => (List.range 4).foldl (fun b k =>
    if mask.val.testBit k then (b.owe 4 rCtl (.acc k false) 0).owe 4 rCtl (.acc k true) 0 else b) b))

/-- ASK (R169, R171): issue stops, the pipeline drains, and once the live bank's transfers are complete the report and the
ask go to the Pacer. A kernel status of 0xF0 or above is reported as 0xF0. -/
def execAsk (core : Fin 256) (fresh : Bool) (status : BitVec 8) (s : State) : Out :=
  match openSlot s core fresh with
  | (s, false) => .next s
  | (s, true) =>
    let s := stopWith s core (if 0xF0 ≤ status.toNat then 0xF0 else status.toNat) true
    .next (feedHard (settleCore s core))

/-- WAIT (R168): issue stops until the live bank's transfers on the masked channels are complete; a failed one ends the
operation with status 0xF3. -/
def execWait (core : Fin 256) (fresh : Bool) (mask : Fin 16) (s : State) : Out :=
  match openSlot s core fresh with
  | (s, false) => .next s
  | (s, true) =>
    let k := s.core core
    if chansIdle k k.live mask && !chansFailed k k.live mask then .next s
    else .next (settleCore (s.setCore core (k.setBank { k.bank with wait := .chans mask })) core)

/-! The long control slot (Table CAN-6). -/

/-- The loop on counter LC. -/
def Bank.loopOf (b : Bank) (lc : Bool) : Loop := if lc then b.loop1 else b.loop0

/-- A LOOP that R159 makes ILLEGAL. -/
def loopBad (lc : Bool) (body : Nat) (b : Bank) : Bool :=
  (b.loopOf lc).active || body == 0 || !b.bodyFits (b.pc + 1) (b.pc + body) || b.delay

/-- A loop started (R164, R166): the body is skipped for a count of zero; a body of 32 bundles or fewer is captured unless a
captured one contains it. -/
def startLoop (s : State) (c : Nat) (lc rot : Bool) (body count : Nat) : State :=
  let k := s.core c
  let b := k.bank
  if loopBad lc body b then coreIllegal s c
  else if count = 0 then s.setCore c (k.setBank { b with nextPc := b.pc + body + 1 })
  else
    let l : Loop := { count := count, start := b.pc + 1, stop := b.pc + body, rot := rot, active := true }
    let b := if lc then { b with loop1 := l } else { b with loop0 := l }
    let k := k.setBank b
    let k := if body ≤ 32 ∧ !captured k l then
        { k with cache := some (l.start, (List.range body).map (fun i => imemBundle k (l.start + i))) }
      else k
    s.setCore c k

/-- LOOP (R164). -/
def execLoop (core : Fin 256) (fresh : Bool) (lc rot : Bool) (body : BitVec 12) (count : BitVec 16) (s : State) : Out :=
  match openSlot s core fresh with
  | (s, false) => .next s
  | (s, true) => .next (startLoop s core lc rot body.toNat count.toNat)

/-- LOOPR (R164): the count from D[15:0]. -/
def execLoopr (core : Fin 256) (fresh : Bool) (lc rot : Bool) (body : BitVec 12) (d : Fin 32) (s : State) : Out :=
  match openSlot s core fresh with
  | (s, false) => .next s
  | (s, true) => .next (startLoop s core lc rot body.toNat (bitsOf ((s.core core).bank.dReg d).toNat 15 0))

/-- The condition of a branch (R158). -/
def brTaken (b : Bank) (cond : Nat) (v : Int) : Bool :=
  match cond with
  | 0 => true
  | 1 => v == 0
  | 2 => v != 0
  | 3 => decide (v < 0)
  | 4 => decide (0 ≤ v)
  | 5 => bitsOf b.status.toNat 11 8 != 0
  | _ => b.status.getLsbD 12

/-- BR (R163): two delay bundles follow, whether taken or not. -/
def execBr (core : Fin 256) (fresh : Bool) (cond : Fin 8) (d : Fin 32) (target : BitVec 12) (s : State) : Out :=
  .next (slotOr s core fresh (fun b => cond.val == 7 || b.delay || b.nearEnd) (fun b =>
    { b with branch := some (2, if brTaken b cond (b.dReg d).toInt then some target.toNat else none) }))

/-- MOVIL: D[15:0] := IMM. -/
def execMovil (core : Fin 256) (fresh : Bool) (d : Fin 32) (imm : BitVec 16) (s : State) : Out :=
  .next (slotOp s core fresh (fun b => b.dWrite 1 rCtl d (putBits (b.dReg d).toNat 15 0 imm.toNat)))

/-- MOVIH: D[31:16] := IMM. -/
def execMovih (core : Fin 256) (fresh : Bool) (d : Fin 32) (imm : BitVec 16) (s : State) : Out :=
  .next (slotOp s core fresh (fun b => b.dWrite 1 rCtl d (putBits (b.dReg d).toNat 31 16 imm.toNat)))

/-- ADDP: P_n := P_m + sext(IMM), modulo 2^48. -/
def execAddp (core : Fin 256) (fresh : Bool) (n m : Fin 16) (imm : BitVec 24) (s : State) : Out :=
  .next (slotOp s core fresh (fun b => b.owe 2 rCtl (.p n) (unsigned 48 (b.pReg m + imm.toInt))))

/-- ADDPD: P_n := P_m + sext(D), modulo 2^48. -/
def execAddpd (core : Fin 256) (fresh : Bool) (n m : Fin 16) (d : Fin 32) (s : State) : Out :=
  .next (slotOp s core fresh (fun b => b.owe 2 rCtl (.p n) (unsigned 48 (b.pReg m + (b.dReg d).toInt))))

/-- MOVPD: P_n := D_b[15:0] above D_a. -/
def execMovpd (core : Fin 256) (fresh : Bool) (n : Fin 16) (da db : Fin 32) (s : State) : Out :=
  .next (slotOp s core fresh (fun b => b.owe 2 rCtl (.p n) ((b.dReg da).toNat + bitsOf (b.dReg db).toNat 15 0 * 2 ^ 32)))

/-- SETM: M_n and L_n. -/
def execSetm (core : Fin 256) (fresh : Bool) (n : Fin 16) (size : BitVec 4) (step : BitVec 16) (s : State) : Out :=
  .next (slotOp s core fresh (fun b => (b.owe 2 rCtl (.m n) step.toNat).owe 2 rCtl (.l n) size.toNat))

/-- SETRM: STATUS.RM, seen by the next bundle; RM = 3 is ILLEGAL. -/
def execSetrm (core : Fin 256) (fresh : Bool) (rm : Fin 4) (s : State) : Out :=
  .next (slotOr s core fresh (fun _ => rm.val == 3) (fun b => { b with rmNext := some rm }))

/-- A transfer started on a channel, or issue stopped until the channel is free (R167); LEN = 0 completes at once. -/
def startXfer (s : State) (c ch : Nat) (x : Xfer) : State :=
  let k := s.core c
  if x.len = 0 then s
  else if k.chans.any (fun e => e.1 == ch) then s.setCore c (k.setBank { k.bank with wait := .chan ch x })
  else s.setCore c { k with chans := sinsert ch x k.chans, failed := k.failed.filter (fun e => !(e.1 == ch && e.2 == k.live)) }

/-- The transfer that GET and PUT describe (R167). -/
def xferOf (s : State) (c : Nat) (get : Bool) (pa pl mem len : Nat) : Xfer :=
  let b := (s.core c).bank
  { bank := (s.core c).live, get := get, mem := mem, loc := wordIx mem (b.pReg pl), phys := b.pReg pa / 4 * 4, len := len }

/-- GET (R167). -/
def execGet (core : Fin 256) (fresh : Bool) (ch : Fin 4) (ps pl : Fin 16) (mem : Fin 4) (len : BitVec 16) (s : State) : Out :=
  match openSlot s core fresh with
  | (s, false) => .next s
  | (s, true) =>
    if mem.val = 3 then .next (coreIllegal s core) else .next (startXfer s core ch (xferOf s core true ps pl mem len.toNat))

/-- PUT (R167). -/
def execPut (core : Fin 256) (fresh : Bool) (ch : Fin 4) (pd pl : Fin 16) (mem : Fin 4) (len : BitVec 16) (s : State) : Out :=
  match openSlot s core fresh with
  | (s, false) => .next s
  | (s, true) =>
    if mem.val = 3 then .next (coreIllegal s core) else .next (startXfer s core ch (xferOf s core false pd pl mem len.toNat))

/-- IDLE: the next bundle issues n cycles after this one; 0 acts as 1. -/
def execIdle (core : Fin 256) (fresh : Bool) (n : BitVec 8) (s : State) : Out :=
  .next (slotOp s core fresh (fun b => { b with stall := b.stall + (n.toNat - 1) }))

/-- ILLEGAL (R159): the bundle does not issue and the core ends the operation. -/
def execIllegal (core : Fin 256) (s : State) : Out :=
  if canIssue s core then
    let k := s.core core
    let b := k.bank
    .next (feedHard (coreIllegal (s.setCore core (k.setBank { b with pc := b.nextPc, cycle := b.cycle + 1 })) core))
  else .next s

/-! Events of a core. -/

/-- A transfer ends (R168): every word moved, or an error response that fails it. -/
def xferEnd (s : State) (c ch : Nat) (get : Bool) (noc : Nat) : State :=
  match (s.core c).chans.find? (fun e => e.1 == ch && e.2.get == get) with
  | none => s
  | some (_, x) =>
    let s := if noc = 0 then xferMove s c x x.len else xferPartial s c x
    let s := chanFree s c ch
    let s := if noc = 0 then s else s.setCore c { s.core c with failed := (s.core c).failed ++ [(ch, x.bank)] }
    settleCore s c

/-- GET_COMPLETE (R168). -/
def execGetComplete (core : Fin 256) (ch : Fin 4) (noc : Fin 8) (s : State) : Out := .next (feedHard (xferEnd s core ch true noc))

/-- PUT_COMPLETE (R168). -/
def execPutComplete (core : Fin 256) (ch : Fin 4) (noc : Fin 8) (s : State) : Out := .next (feedHard (xferEnd s core ch false noc))

/-- GRANT_LOAD (R170): the grant loads the live bank; one that finds its team disabled, or its core halted (R566), is returned
unstarted. -/
def execGrantLoad (core : Fin 256) (s : State) : Out :=
  let k := s.core core
  match k.grant with
  | none => .next s
  | some slot =>
    let s := s.setCore core { k with grant := none }
    match coreOp s core slot with
    | none => .next s
    | some o =>
      if s.flag Reg.CA_CTL (teamOf core) ∧ k.st ≠ cHalted then .next (loadGrant s core o)
      else .next ((setOp s { o with st := .ready, worker := none }).raise blkCan 11)

/-- PREEMPT_SWITCH (R172): the live operation goes to the shadow bank and the preempting grant is loaded; a core that has
finished its operation meanwhile loads it as any grant; one still draining takes it afterwards. -/
def execPreemptSwitch (core : Fin 256) (s : State) : Out :=
  let k := s.core core
  match k.pgrant with
  | none => .next s
  | some slot =>
    if k.st = cRunning then
      let s := s.setCore core { k with pgrant := none }
      match coreOp s core slot with
      | none => .next s
      | some o =>
        let s := setPreempted s core k.bank.slot true
        let k := s.core core
        let k := { k.setBank k.bank.drain with live := !k.live, shadow := true }
        let s := ((s.setCore core k).raise blkCan 4).count (Reg.CA_TEAM_PREEMPT (teamOf core))
        .next (loadGrant s core o)
    else if k.st = cAsking then
      let s := s.setCore core { k with pgrant := none }
      match coreOp s core slot with
      | none => .next s
      | some o => .next (loadGrant s core o)
    else if k.st = cHalted then
      let s := s.setCore core { k with pgrant := none }
      match coreOp s core slot with
      | none => .next s
      | some o => .next ((setOp s { o with st := .ready, worker := none }).raise blkCan 11)
    else .next s

/-- ABANDON (R174): an operation the core holds is dropped with its transfers; nothing is reported. -/
def execAbandon (core : Fin 256) (s : State) : Out :=
  let k := s.core core
  match k.drop with
  | [] => .next s
  | slot :: r =>
    let s := s.setCore core { k with drop := r }
    let k := s.core core
    if k.bank.slot = some slot then
      let s := (endXfers s core k.live).raise blkCan 3
      .next (resumeOrAsk (s.count (Reg.CA_TEAM_ABANDON (teamOf core))) core)
    else if k.shadow ∧ k.other.slot = some slot then
      let s := endXfers s core (!k.live)
      let k := s.core core
      let s := s.setCore core { (clearFailed k (!k.live)).setOther {} with shadow := false }
      .next ((s.raise blkCan 3).count (Reg.CA_TEAM_ABANDON (teamOf core)))
    else .next s

/-- A core holds an operation. -/
def coreHolds (k : CoreState) : Bool := k.bank.slot.isSome || k.shadow

/-- The team's domain is on (R453). -/
def teamOn (s : State) (t : Nat) : Bool := s.fld (Reg.PWR_PD_STAT (16 + t)) 2 0 == 1

/-- CA_IMEM_WRITE (R166, R177): the word reaches all 64 cores of the team. -/
def execCaImemWrite (team : Fin 4) (word : Fin 8192) (value : BitVec 32) (s : State) : Out :=
  let cores := (List.range 64).map (fun i => 64 * team.val + i)
  let live := cores.any (fun c => coreHolds (s.core c))
  let s := cores.foldl (fun s c => s.setCore c { s.core c with i := sput (fun _ => 0) (s.core c).i word value }) s
  .next (s.raiseIf live blkCan 7)

/-! Save and restore (R176, Table CAN-11). -/

/-- The save area of a bank. -/
def saveArea (s : State) (c : Nat) (bank : Bool) : Nat :=
  scratchBase + s.fld Reg.CA_SAVE_BASE 25 18 * 2 ^ 18 + 1024 * c + 512 * bit bank

/-- The word of a loop in the save area. -/
def loopWord (l : Loop) : Nat := l.count + l.start * 2 ^ 16 + l.stop * 2 ^ 32 + bit l.active * 2 ^ 63

/-- The 512 bytes of a bank. -/
def bankBytes (b : Bank) (last : Nat) : List Byte :=
  (List.range 32).flatMap (fun i => leBytes 4 (b.dPhys i).toNat)
    ++ (List.range 8).flatMap (fun i => leBytes 8 (unsigned 64 (b.accVis (i / 2) (i % 2 == 1))))
    ++ (List.range 16).flatMap (fun i => leBytes 8 (b.pReg i))
    ++ (List.range 16).flatMap (fun i => leBytes 4 ((b.mReg i).toNat + (b.lReg i).toNat * 2 ^ 16))
    ++ leBytes 8 (loopWord b.loop0) ++ leBytes 8 (loopWord b.loop1)
    ++ leBytes 4 b.status.toNat ++ leBytes 4 (b.nextPc % 4096) ++ leBytes 4 last ++ List.replicate 100 0

/-- The word at 0x198 of bank 0: live bank, preempted operation present, asking, descriptor slot. -/
def saveFlags (k : CoreState) : Nat :=
  bit k.live + 2 * bit k.shadow + 4 * bit (k.st == cAsking) + 8 * (k.bank.slot.getD 0)

/-- A core drained and its banks written to the save area. -/
def saveCore (s : State) (c : Nat) : State :=
  let k := s.core c
  let k := { k with bank0 := k.bank0.drain, bank1 := k.bank1.drain }
  let s := (s.setBytes (saveArea s c false) (bankBytes k.bank0 (saveFlags k))).setBytes (saveArea s c true) (bankBytes k.bank1 0)
  s.setCore c { k with prior := k.st, st := cSaved, cache := none }

/-- SAVE_DONE (R176): commanded by the mode machine, with no transfer left on any core. -/
def execSaveDone (s : State) : Out :=
  if s.flag Reg.CA_STAT 8 ∧ s.mode = mStable ∧ (List.range 256).all (fun c => (s.core c).chans.isEmpty) then
    let s := (List.range 256).foldl (fun s c => if (s.core c).st = cOff then s else saveCore s c) s
    let s := ((s.setFlag Reg.CA_STAT 8 false).setFld Reg.CA_STAT 7 4 15).setFld Reg.CA_STAT 3 0 0
    let s := (List.range 4).foldl (fun s t => s.setFld (Reg.PWR_PD_STAT (16 + t)) 2 0 0) s
    .next (s.raise blkCan 8)
  else .next s

/-- A bank taken from its 512 bytes; what they do not hold stays as it stopped. -/
def bankFrom (l : List Byte) (b : Bank) : Bank :=
  let f (o n : Nat) : Nat := fieldLe l o n
  let d := (List.range 32).foldl (fun m i => sput (fun _ => 0) m i (BitVec.ofNat 32 (f (4 * i) 4))) b.d
  let accs := (List.range 8).foldl (fun m i => sput (fun _ => 0) m i (BitVec.ofNat 48 (f (128 + 8 * i) 6))) b.accs
  let p := (List.range 16).foldl (fun m i => sput (fun _ => 0) m i (BitVec.ofNat 48 (f (192 + 8 * i) 6))) b.p
  let m := (List.range 16).foldl (fun m i => sput (fun _ => 0) m i (BitVec.ofNat 16 (f (320 + 4 * i) 2))) b.m
  let l := (List.range 16).foldl (fun m i => sput (fun _ => 0) m i (BitVec.ofNat 4 (f (322 + 4 * i) 1))) b.l
  let lp := fun (l : Loop) (w : Nat) =>
    { l with count := bitsOf w 15 0, start := bitsOf w 27 16, stop := bitsOf w 43 32, active := w.testBit 63 }
  { b with
    d := d, accs := accs, p := p, m := m, l := l
    loop0 := lp b.loop0 (f 384 8), loop1 := lp b.loop1 (f 392 8)
    status := BitVec.ofNat 32 (f 400 4), nextPc := f 404 4 % 4096 }

/-- A bank read back from the save area. -/
def bankRead (s : State) (a : Nat) (b : Bank) : Bank := bankFrom (s.bytes a 512) b

/-- A core restored from the save area: it resumes where it stopped, or asks. -/
def restoreCore (s : State) (c : Nat) : State :=
  let k := s.core c
  let a := saveArea s c false
  let w := s.memN (a + 408) 4
  let k := { k with
    bank0 := bankRead s a k.bank0, bank1 := bankRead s (saveArea s c true) k.bank1
    live := w.testBit 0, shadow := w.testBit 1, st := if w.testBit 2 then cAsking else k.prior }
  let b := k.bank
  s.setCore c (k.setBank { b with slot := if w.testBit 2 then none else b.slot.map (fun _ => bitsOf w 22 3) })

/-- RESTORE_DONE (R176): on wake, with the teams powered again. -/
def execRestoreDone (s : State) : Out :=
  if s.flag Reg.CA_STAT 8 ∧ s.fld Reg.CA_STAT 7 4 ≠ 0 then
    let s := (List.range 256).foldl (fun s c => if (s.core c).st = cSaved then restoreCore s c else s) s
    let s := ((s.setFlag Reg.CA_STAT 8 false).setFld Reg.CA_STAT 7 4 0)
    .next (s.raise blkCan 9)
  else .next s

end Sys2Proof.Machine
end

