-- ==== Sys2Proof/Machine/Ethernet.lean ====
section
/-! DEFINITION. The Ethernet MACs (R362…R369, R391, R392) and the management port (R370…R372). -/

namespace Sys2Proof.Machine

/-- The state with the lane blocks replaced. -/
def State.setLane (s : State) (l : Lanes) : State := { s with lane := l }
/-- MAC m. -/
def macOf (s : State) (m : Nat) : Mac := sget (fun _ => {}) s.lane.macs m
/-- The state with it replaced. -/
def setMac (s : State) (m : Nat) (x : Mac) : State := s.setLane { s.lane with macs := sput (fun _ => {}) s.lane.macs m x }
/-- The state with its counter k advanced (Table LNE-14). -/
def ethCount (s : State) (m k : Nat) : State := s.count (Reg.ETH_CNT m k)
/-- A MAC is enabled. -/
def macOn (s : State) (m : Nat) : Bool := s.flag (Reg.ETH_CFG m) 0
/-- Its link is up. -/
def macUp (s : State) (m : Nat) : Bool := s.flag (Reg.ETH_STAT m) 0
/-- The lanes are held by STABLE (R387). -/
def laneHold (s : State) : Bool := s.fld Reg.PWR_STBL_STAT 2 0 == 3
/-- The answer number that stands for MAC m's transmit lanes (log entry 9). -/
def ethPins (m : Nat) : Nat := 4096 + m

/-- The lanes of a mode (Table LNE-3). -/
def modeLanes (v : Nat) : Nat := [1, 1, 1, 4, 2, 1, 4, 2, 8, 4].getD v 0

/-- A MAC's link down: its queued entries are discarded and counted (R364, Table LNE-14). -/
def macDrop (s : State) (m : Nat) : State :=
  let x := macOf s m
  let n := (x.qs.map (fun e => e.2.length)).sum
  let s := (List.range 8).foldl (fun s q => s.setRegN (Reg.ETH_TXQ_STAT m q) 0) (setMac s m { x with qs := [] })
  if n = 0 then s else (s.countBy (Reg.ETH_CNT m 8) n).raise blkEth 3

/-- A MAC's link goes up or down; the SyncE reference follows its lane (R369). -/
def linkSet (s : State) (m : Nat) (up : Bool) : State :=
  if macUp s m = up then s
  else
    let s := (s.setRegN (Reg.ETH_STAT m) (if up then 7 else 0)).raise blkEth 0
    let s := if up then s else macDrop s m
    let first := 32 + 8 * (m % 4) + 4 * (m / 4)
    let lane := s.fld (Reg.TL_REF_CFG 3) 21 16
    if first ≤ lane ∧ lane < first + modeLanes (s.fld (Reg.ETH_CFG m) 4 1) then
      if up then (if refEn s 3 then (s.setFlag (Reg.TL_REF_STAT 3) 0 true).raise blkTim 2 else s)
      else if refQual s 3 then (s.setFlag (Reg.TL_REF_STAT 3) 0 false).raise blkTim 3 else s
    else s

/-- A write of ETH_CFG (R362). -/
def ethCfg (s : State) (m v : Nat) : State :=
  let a := Reg.ETH_CFG m
  if macOn s m then
    let s := s.setFlag a 6 (v.testBit 6)
    if v.testBit 0 then s else (linkSet s m false).setFlag a 0 false
  else
    let mode := bitsOf v 4 1
    let twin := if m < 4 then m + 4 else m - 4
    let clash := if m < 4 then modeLanes mode == 8 && macOn s twin else macOn s twin && modeLanes (s.fld (Reg.ETH_CFG twin) 4 1) == 8
    let bad := v.testBit 0 && (decide (9 < mode) || clash || (decide (4 ≤ m) && modeLanes mode == 8))
    (s.setRegN a (bitsOf v 6 1 * 2 + bit (v.testBit 0 && !bad))).raiseIf bad blkEth 1

/-- ETH_ENABLE (R362): a write of ETH_CFG. -/
def execEthEnable (m : Fin 8) (value : BitVec 32) (s : State) : Out := .next (ethCfg s m value.toNat)

/-- LINK_CHG (R364, R369). -/
def execLinkChg (m : Fin 8) (up : Bool) (s : State) : Out :=
  if up && !macOn s m then .next s else .next (linkSet s m up)

/-! Transmit (R364, R365). -/

/-- A queue's entries. -/
def txQueue (s : State) (m q : Nat) : List (Nat × Nat) := sget (fun _ => []) (macOf s m).qs q
/-- The state with them replaced, and ETH_TXQ_STAT. -/
def setTxQueue (s : State) (m q : Nat) (l : List (Nat × Nat)) : State :=
  (setMac s m { macOf s m with qs := sput (fun _ => []) (macOf s m).qs q l }).setRegN (Reg.ETH_TXQ_STAT m q) l.length

/-- An entry for a queue, discarded where the link is down or the length is out of range (R364). -/
def txEnter (s : State) (m q addr len : Nat) : State :=
  if !macUp s m || laneHold s then (ethCount s m 8).raise blkEth 3
  else if len = 0 ∨ 9212 < len then ethCount s m 9
  else setTxQueue s m q (txQueue s m q ++ [(addr, len)])

/-- A Pacer release of REL_KIND ETH (R117, R364): REL_ID[15:3] names the MAC, [2:0] the queue. -/
def ethRelease (s : State) (relId addr len : Nat) : State :=
  let m := relId / 8
  let q := relId % 8
  if 7 < m || !macOn s m then (s.count Reg.ETH_NOMAC_CNT).raise blkEth 9
  else if 64 ≤ (txQueue s m q).length then (ethCount s m 7).raise blkEth 2
  else txEnter s m q addr len

/-- ETH_TXP_PUSH (R365): a write of ETH_TXP_CTL; a full queue refuses it. -/
def execEthTxpPush (m : Fin 8) (value : BitVec 32) (s : State) : Out :=
  let q := bitsOf value.toNat 18 16
  if 64 ≤ (txQueue s m q).length then .next (s.setFlag (Reg.ETH_TXP_STAT m) 0 true)
  else
    let s := s.setFlag (Reg.ETH_TXP_STAT m) 0 false
    let a := s.regN (Reg.ETH_TXP_ADDR_LO m) + s.fld (Reg.ETH_TXP_ADDR_HI m) 15 0 * 2 ^ 32
    .next (txEnter s m q a (bitsOf value.toNat 13 0))

/-- A frame padded to 60 bytes (R364). -/
def framePad (l : List Byte) : List Byte := l ++ List.replicate (60 - l.length) 0

/-- ETH_TX_START (R364): at a frame boundary the head of the highest-numbered queue is fetched; a fetch that fails discards it. -/
def execEthTxStart (m : Fin 8) (noc : Fin 8) (s : State) : Out :=
  if !macOn s m || (macOf s m).cur.isSome || laneHold s then .next s
  else
    match [7, 6, 5, 4, 3, 2, 1, 0].find? (fun q => !(txQueue s m q).isEmpty) with
    | none => .next s
    | some q =>
      match txQueue s m q with
      | [] => .next s
      | (a, n) :: r =>
        let s := setTxQueue s m q r
        if noc.val ≠ 0 then .next ((ethCount s m 10).raise blkEth 4)
        else .next (setMac s m { macOf s m with cur := some (q, framePad (s.viewBytes (kixOf s (448 + m)) a n)) })

/-! PTP (R367, R368). -/

/-- The offset of the payload after at most two VLAN tags, and the EtherType there. -/
def etherOf (l : List Byte) : Nat × Nat :=
  let t (o : Nat) : Nat := fieldBe l o 2
  let tag (o : Nat) : Bool := t o == 0x8100 || t o == 0x88A8
  if tag 12 then (if tag 16 then (22, t 20) else (18, t 16)) else (14, t 12)

/-- A PTP event message of a frame (R368): the offset of its header, and 0 over Ethernet, 1 over UDP/IPv4, 2 over UDP/IPv6. -/
def ptpEvent (l : List Byte) : Option (Nat × Nat) :=
  let (o, t) := etherOf l
  let ev (h k : Nat) : Option (Nat × Nat) :=
    if bitsOf (fieldBe l (h + 1) 1) 3 0 = 2 ∧ [0, 1, 2, 3].contains (bitsOf (fieldBe l h 1) 3 0) ∧ h + 34 ≤ l.length then some (h, k) else none
  if t = 0x88F7 then ev o 0
  else if t = 0x0800 ∧ fieldBe l o 1 = 0x45 ∧ fieldBe l (o + 9) 1 = 17 ∧ fieldBe l (o + 22) 2 = 319 then ev (o + 28) 1
  else if t = 0x86DD ∧ bitsOf (fieldBe l o 1) 7 4 = 6 ∧ fieldBe l (o + 6) 1 = 17 ∧ fieldBe l (o + 42) 2 = 319 then ev (o + 48) 2
  else none

/-- A message timestamp: the Timeline at the instant, F in sixteenths of Tc (R367). -/
def ethStamp (s : State) (ofs : Nat) : Nat := (s.tim.tl + ofs) / 4096 * 4096 % tlWrap

/-- Bytes of a frame replaced from an offset. -/
def patch (l : List Byte) (o : Nat) (b : List Byte) : List Byte := l.take o ++ b ++ l.drop (o + b.length)

/-- A Sync stamped in flight (R368). -/
def oneStep (l : List Byte) (h k tl : Nat) : List Byte :=
  let p := tlT tl * 3125
  let corr := fieldBe l (h + 8) 8 + (p % 6144 * 2 ^ 16 + tlF tl * 3125) / 6144
  let l := patch l (h + 34) (beBytes 6 (tlS tl))
  let l := patch l (h + 40) (beBytes 4 (p / 6144))
  let l := patch l (h + 8) (beBytes 8 (corr % 2 ^ 64))
  if k = 1 then patch l (h - 2) [0, 0] else l

/-- A transmit stamp placed in its FIFO of 64 (R368). -/
def txtsPush (s : State) (m q tl typ seq : Nat) (skipped : Bool) : State :=
  let x := macOf s m
  if 64 ≤ x.txts.length then (ethCount s m 13).raise blkEth 8
  else
    let e := BitVec.ofNat 128 (tlFormat tl + (seq + typ * 2 ^ 16 + q * 2 ^ 20 + bit skipped * 2 ^ 23) * 2 ^ 96)
    let n := x.txts.length + 1
    ((setMac s m { x with txts := x.txts ++ [e] }).setRegN (Reg.ETH_TXTS_STAT m) (2 * n)).raise blkEth 10

/-- ETH_TX_FRAME_DONE (R364, R367, R368): the frame leaves, stamped where its queue asks for it; one whose fetch failed on the
wire ends with an inverted FCS. The answer holds the frame's bytes as they left, without FCS. -/
def execEthTxFrameDone (m : Fin 8) (noc : Fin 8) (ofs : BitVec 18) (s : State) : Out :=
  match (macOf s m).cur with
  | none => .next s
  | some (q, l) =>
    let s := setMac s m { macOf s m with cur := none }
    let out (s : State) (l : List Byte) : State := s.answer (ethPins m) noc.val (l.map (·.toNat))
    if noc.val ≠ 0 then .next (out ((ethCount s m 10).raise blkEth 4) l)
    else
      let s := ethCount s m 0
      let ts := s.fld (Reg.ETH_TXQ_CFG m q) 1 0
      match ptpEvent l with
      | none => .next (out s l)
      | some (h, k) =>
        let tl := ethStamp s ofs.toNat
        let typ := bitsOf (fieldBe l h 1) 3 0
        if ts = 1 then .next (out (txtsPush s m q tl typ (fieldBe l (h + 30) 2) false) l)
        else if ts = 2 then
          if typ = 0 ∧ k < 2 then .next (out (ethCount s m 15) (oneStep l h k tl))
          else .next (out (txtsPush s m q tl typ (fieldBe l (h + 30) 2) true) l)
        else .next (out s l)

/-- ETH_TXTS_READ (R368): a read of ETH_TXTS_3; the debug port's pops nothing. -/
def execEthTxtsRead (m : Fin 8) (init : Fin 512) (s : State) : Out :=
  let x := macOf s m
  let s := s.answer init 0 [((x.txts.head?.getD 0).toNat) / 2 ^ 96]
  if init.val = debugInit || x.txts.isEmpty then .next s
  else
    let r := x.txts.drop 1
    .next ((setMac s m { x with txts := r }).setRegN (Reg.ETH_TXTS_STAT m) (2 * r.length + bit r.isEmpty))

/-! Receive (R366). -/

/-- The destination is accepted. -/
def dstOk (s : State) (m : Nat) (l : List Byte) : Bool :=
  let d := fieldLe l 0 6
  s.flag (Reg.ETH_CFG m) 6 || d == s.regN (Reg.ETH_ADDR_LO m) + s.fld (Reg.ETH_ADDR_HI m) 15 0 * 2 ^ 32 || d % 2 == 1

/-- The receive queue of a frame: PTP_Q for an event message with PTP_EN, else by the outer tag's PCP, else the untagged one. -/
def rxQueue (s : State) (m : Nat) (l : List Byte) : Nat :=
  let a := Reg.ETH_RXQ_MAP m
  let tagged := (etherOf l).1 != 14
  if s.flag a 31 && (ptpEvent l).isSome then s.fld a 30 28
  else if tagged then (let p := bitsOf (fieldBe l 14 1) 7 5; s.fld a (3 * p + 2) (3 * p))
  else s.fld a 26 24

/-- The slot size of a code; 3 is not one of the three. -/
def slotSize (c : Nat) : Nat := if c = 0 then 2048 else if c = 1 then 4096 else 16384

/-- A frame into its ring (R366, Table LNE-4). -/
def rxPlace (s : State) (m q : Nat) (l : List Byte) (tl : Nat) (fec : Bool) : State :=
  let c := Reg.ETH_RXQ_CFG m q
  let n := 2 ^ s.fld c 3 0
  let size := slotSize (s.fld c 5 4)
  let prod := s.fld (Reg.ETH_RXQ_PROD m q) 15 0
  let cons := s.fld (Reg.ETH_RXQ_CONS m q) 15 0
  if !s.flag c 8 || laneHold s || (prod + 2 ^ 16 - cons) % 2 ^ 16 == n then (ethCount s m 5).raise blkEth 5
  else if size < l.length + 32 then ethCount s m 6
  else
    let a := s.fld (Reg.ETH_RXQ_BASE_LO m q) 31 11 * 2048 + s.fld (Reg.ETH_RXQ_BASE_HI m q) 15 0 * 2 ^ 32 + prod % n * size
    let k := kixOf s (448 + m)
    let flags := bit ((etherOf l).1 != 14) + 2 * bit (ptpEvent l).isSome + 4 * bit fec
    let hdr := leBytes 2 l.length ++ leBytes 2 flags ++ leBytes 12 (tlFormat tl) ++ List.replicate 16 0
    let s := (s.viewWrite k (a + 32) l).viewWrite k a hdr
    let s := s.setRegN (Reg.ETH_RXQ_PROD m q) ((prod + 1) % 2 ^ 16)
    ethCount s m 1

/-- ETH_RX_FRAME (R363, R366, R367): a frame without its FCS, whether the FCS was good, the codewords RS-FEC corrected and could
not correct, and the instant of its timestamp point. -/
def execEthRxFrame (m : Fin 8) (frame : List Byte) (fcs : Bool) (corr : BitVec 16) (unc : BitVec 16) (ofs : BitVec 18) (s : State) : Out :=
  if !macOn s m || !macUp s m then .next s
  else
    let s := s.countBy (Reg.ETH_CNT m 11) corr.toNat
    let s := if unc = 0 then s else (s.countBy (Reg.ETH_CNT m 12) unc.toNat).raise blkEth 7
    let n := frame.length + 4
    if !fcs then .next ((ethCount s m 2).raise blkEth 6)
    else if n < 64 ∨ 9216 < n then .next (ethCount s m 3)
    else if (etherOf frame).2 = 0x8808 then .next (ethCount s m 4)
    else if !dstOk s m frame then .next s
    else
      let s := if (ptpEvent frame).isSome then (ethCount s m 14).raise blkEth 11 else s
      .next (rxPlace s m (rxQueue s m frame) frame (ethStamp s ofs.toNat) (corr != 0))

/-! The management port (R370…R372). -/

/-- The answer number that stands for the management port's pins (log entry 9). -/
def mgtPins : Nat := 4104
/-- The state with its counter k advanced. -/
def mgtCount (s : State) (k : Nat) : State := s.count (Reg.MGT_CNT k)
/-- A ring's base in controller SRAM. -/
def mgtBase (s : State) (a : Nat) : Nat := sramBase + s.fld a 20 12 * 4096

/-- A write of MGT_CFG (R370): IF, AN and SPEED take effect when EN goes from 0 to 1. -/
def mgtCfg (s : State) (v : Nat) : State :=
  let was := s.flag Reg.MGT_CFG 0
  let s := s.setRegN Reg.MGT_CFG (v % 32)
  let s := if !was && v.testBit 0 then s.setLane { s.lane with mgt := v % 32 } else s
  if was && !v.testBit 0 && s.flag Reg.MGT_STAT 0 then (s.setRegN Reg.MGT_STAT 0).raise blkEth 12 else s

/-- MGT_LINK_CHG (R370): what auto-negotiation or the fixed setting gave. -/
def execMgtLinkChg (up : Bool) (speed : Fin 4) (an : Bool) (fault : Bool) (s : State) : Out :=
  if !s.flag Reg.MGT_CFG 0 then .next s
  else
    let x := s.lane.mgt
    let sp := if x.testBit 1 then 0 else if x.testBit 2 then speed.val else bitsOf x 4 3
    let sp := if sp = 3 then 0 else sp
    .next ((s.setRegN Reg.MGT_STAT (if up then 1 + 2 * sp + 8 * bit (an && x.testBit 2) + 16 * bit fault else 16 * bit fault)).raise blkEth 12)

/-- MGT_RX_FRAME (R371). -/
def execMgtRxFrame (frame : List Byte) (fcs : Bool) (s : State) : Out :=
  if !s.flag Reg.MGT_CFG 0 || !s.flag Reg.MGT_STAT 0 then .next s
  else
    let tagged := fieldBe frame 12 2 == 0x8100 || fieldBe frame 12 2 == 0x88A8
    let d := fieldLe frame 0 6
    let mine := d == s.regN Reg.MGT_ADDR_LO + s.fld Reg.MGT_ADDR_HI 15 0 * 2 ^ 32 || d == 2 ^ 48 - 1
    let prod := s.fld Reg.MGT_RX_PROD 15 0
    if !fcs then .next (mgtCount s 2)
    else if frame.length < 60 ∨ (if tagged then 1522 else 1518) < frame.length then .next (mgtCount s 3)
    else if !mine then .next (mgtCount s 4)
    else if (prod + 2 ^ 16 - s.fld Reg.MGT_RX_CONS 15 0) % 2 ^ 16 = 16 then .next (mgtCount s 5)
    else
      let a := mgtBase s Reg.MGT_RX_BASE + 2048 * (prod % 16)
      let s := (s.setBytes (a + 32) frame).setBytes a (leBytes 2 frame.length ++ List.replicate 30 0)
      .next ((mgtCount (s.setRegN Reg.MGT_RX_PROD ((prod + 1) % 2 ^ 16)) 1).raise blkEth 13)

/-- MGT_TX_PROD_WRITE (R371). -/
def execMgtTxProdWrite (value : BitVec 32) (s : State) : Out := .next (s.setRegN Reg.MGT_TX_PROD (value.toNat % 2 ^ 16))

/-- MGT_TX_FRAME (R371): the next slot is sent, or skipped where its length is out of range; slots wait while the link is down. -/
def execMgtTxFrame (s : State) : Out :=
  let cons := s.fld Reg.MGT_TX_CONS 15 0
  if !s.flag Reg.MGT_CFG 0 || !s.flag Reg.MGT_STAT 0 || cons == s.fld Reg.MGT_TX_PROD 15 0 then .next s
  else
    let a := mgtBase s Reg.MGT_TX_BASE + 2048 * (cons % 16)
    let n := s.memN a 2
    let s := s.setRegN Reg.MGT_TX_CONS ((cons + 1) % 2 ^ 16)
    if n < 60 ∨ 1518 < n then .next (mgtCount s 6)
    else .next ((mgtCount s 0).answer mgtPins 0 ((s.bytes (a + 32) n).map (·.toNat)))

end Sys2Proof.Machine
end

