-- ==== Sys2Proof/Machine/Reset.lean ====
section
/-! DEFINITION. Resets (R451, R556, R578, R579): what POR, loss of main power and a system reset keep. -/

namespace Sys2Proof.Machine

/-- The place among the debug module's registers of the harts' havereset bits. -/
def dmHaveReset : Nat := 129

/-- The flash's contents, which every reset keeps (R534). -/
def inFlash (a : Nat) : Bool := decide (flashBase ≤ a) && decide (a < 0x21000000)

/-- Registers of PD_34: the calendar's and its store's (Table SCO-6). -/
def backupReg (a : Nat) : Bool :=
  (decide (0x41110000 ≤ a) && decide (a < 0x41120000)) || (decide (0x41180000 ≤ a) && decide (a < 0x41190000))

/-- The device held in reset: only its non-volatile memories and PD_34 are as they were. -/
def powerDown (s : State) : State :=
  { State.reset with
    regs := s.regs.filter (fun e => backupReg e.1)
    mem := s.mem.filter (fun e => inFlash e.1)
    cal := s.cal
    fmp := { sects := s.fmp.sects, at_ := s.fmp.at_ }
    sec := { otp := s.sec.otp, journal := s.sec.journal }
    pw := { main := s.pw.main, hist := s.pw.hist, hours := s.pw.hours }
    tim := { cks := s.tim.cks }
    ans := s.ans, pending := s.pending, freeCtr := s.freeCtr }

/-- The domains of step 6 of Table MOD-3, in order. -/
def bootDomains : List Nat := [21, 20, 29, 16, 17, 18, 19] ++ List.range 16 ++ [22, 23, 24]

/-- The next domain of the boot sequence begins to switch (R451). -/
def seqNext (s : State) : State :=
  match s.pw.seq with
  | d :: _ => s.setFld (Reg.PWR_PD_STAT d) 2 0 4
  | [] => s

/-- A power domain has power, in whatever state. -/
def powered (s : State) (d : Nat) : Bool := [1, 2, 3].contains (s.fld (Reg.PWR_PD_STAT d) 2 0)

/-- The state with the power block's own part replaced. -/
def State.setPw (s : State) (p : Power) : State := { s with pw := p }

/-- A system reset (R451, R556): BOOT from step 2, with its cause (R452). PD_33 with the grant, PD_34, the straps, OUT_FIRST and
OUT_LATCH (R516), the domains that are on, the scratchpad and its banks, the tack room (R488), controller SRAM, flash, OTP and what
stands in memory behind the controllers keep their contents; every halt ends; the asynchronous latch stays until RCO is judged
stable again (R511). -/
def systemReset (s : State) (cause : Nat) : State :=
  let keep (a : Nat) : Bool :=
    backupReg a || decide (blockOf a = blkDbg) || a == Reg.CFG_STRAP || a == Reg.OUT_FIRST || a == Reg.OUT_LATCH
      || a == Reg.OUT_FIRST_PT || (List.range 64).any (fun b => a == Reg.SP_BANK_CFG b || a == Reg.SP_BANK_STAT b)
  let t : State :=
    { State.reset with
      regs := s.regs.filter (fun e => keep e.1)
      mem := s.mem
      cal := s.cal
      pac := { snap := s.pac.snap }
      noc := { spErr := s.noc.spErr, spTo := s.noc.spTo, spNext := s.noc.spNext, spPrev := s.noc.spPrev }
      ext := { errs := s.ext.errs }
      fmp := { sects := s.fmp.sects, at_ := s.fmp.at_ }
      sec := { otp := s.sec.otp, tack := s.sec.tack, roles := s.sec.roles, relay := s.sec.relay, grant := s.sec.grant
               journal := s.sec.journal }
      pw := { main := s.pw.main, hist := s.pw.hist, hours := s.pw.hours, porAt := s.pw.porAt, boot := 1
              oldMute := s.asyncLatch, seq := bootDomains.filter (fun d => !powered s d) }
      out := { left := s.out.left || s.mode == mSafe }
      dbg := { s.dbg with halted := [], gprs := [], dm := sinsert dmHaveReset 3 (sdrop dmHaveReset s.dbg.dm) }
      tim := { cks := s.tim.cks }
      ans := s.ans, pending := s.pending, freeCtr := s.freeCtr }
  let t := ((List.range 35).filter (powered s)).foldl (fun t d => t.setFld (Reg.PWR_PD_STAT d) 2 0 1) t
  let t := (t.setFlag Reg.OUT_STAT 4 s.asyncLatch).setRegN Reg.PWR_RESET_CAUSE (2 ^ cause)
  (otpRead t).outStat

end Sys2Proof.Machine
end

