-- ==== Sys2Proof/Machine/Power.lean ====
section
/-! DEFINITION. Operating modes, power and ageing (R445…R473): start-up, power domains, PWR_CMD, STABLE, adaptive voltage and the
margin re-plan. -/

namespace Sys2Proof.Machine

/-! Start-up (R451, R577…R579). -/

/-- BOOT begins at the release of POR_N with the rails good (R451, R452, R474): straps as sampled, PD_30…PD_34 on, cause POR. -/
def bootStart (s : State) (strap : Nat) : State :=
  let s := if s.mode = mBackup then (s.setRegN Reg.PWR_MODE 0x11).raise blkPwr 0 else s
  let s := (s.setRegN Reg.CFG_STRAP strap).setRegN Reg.PWR_RESET_CAUSE 1
  let s := [30, 31, 32, 33, 34].foldl (fun s d => s.setFld (Reg.PWR_PD_STAT d) 2 0 1) s
  let s := s.setPw { s.pw with boot := 1, early := none, seq := bootDomains, porAt := s.tim.cks }
  let s := { s with dbg := { s.dbg with dm := sinsert dmHaveReset 3 (sdrop dmHaveReset s.dbg.dm) } }
  otpRead ((s.setRegN Reg.AGE_HOURS s.pw.hours).calPowerUp)

/-- The device is held in reset with main power present. -/
def inReset (s : State) : Bool := s.pw.boot == 0 && s.pw.main

/-- POR_RELEASE (R451, R239, R578): the straps are sampled; a release that comes before the rails are good waits for them. -/
def execPorRelease (mode : BitVec 3) (pull : Bool) (rails : Bool) (s : State) : Out :=
  let strap := mode.toNat + 8 * bit pull
  if !inReset s || s.pw.early.isSome then .next s
  else if rails then .next (bootStart s strap)
  else .next (s.setPw { s.pw with early := some strap })

/-- RAIL_MONITOR_RELEASE (R578). -/
def execRailMonitorRelease (s : State) : Out :=
  match s.pw.early with
  | some strap => if inReset s then .next (bootStart s strap) else .next s
  | none => .next s

/-- SRST_N (R451). -/
def execSrstN (s : State) : Out := if s.pw.boot = 0 then .next s else .next (systemReset s 1)

/-- POR_N_LOW (R579). -/
def execPorNLow (s : State) : Out :=
  let t := powerDown s
  .next (if s.mode = mBackup then t.setRegN Reg.PWR_MODE 0 else t)

/-- MAIN_POWER_LOSS (R579): BACKUP, only PD_34 on. -/
def execMainPowerLoss (s : State) : Out :=
  let s := powerDown (s.setPw { s.pw with main := false })
  .next ((s.setRegN Reg.PWR_MODE 0).setFld (Reg.PWR_PD_STAT 34) 2 0 1)

/-- MAIN_POWER_RETURN (R579). -/
def execMainPowerReturn (s : State) : Out := .next (s.setPw { s.pw with main := true })

/-- The committed store image of the highest generation (R436, R437). -/
def storeImage (s : State) : Option (Nat × List (Nat × List Byte)) :=
  ((List.range 8).filterMap (fun i => (sget (fun _ => {}) s.fmp.sects i).image)).foldl
    (fun b x => match b with | some y => if y.1 < x.1 then some x else b | none => some x) none

/-- The stored value of an object (R437). -/
def storedVal (s : State) (index sub : Nat) : Option (List Byte) :=
  (storeImage s).bind (fun i => (i.2.find? (fun e => e.1 == 256 * index + sub)).map (·.2))

/-- The nominal frequencies of R28. -/
def nominals : List Nat :=
  [10000000, 12800000, 19200000, 20000000, 25000000, 30720000, 38400000, 40000000, 50000000, 61440000, 76800000, 100000000]

/-- The nominal nearest a frequency; of two as near, the lower. -/
def nearestNominal (hz : Nat) : Nat :=
  nominals.foldl (fun (b n : Nat) => if ((n : Int) - (hz : Int)).natAbs < ((b : Int) - (hz : Int)).natAbs then n else b) 10000000

/-- The nominal that the boot ROM writes for an oscillator (R28): the stored value, else what the measured frequency is nearest. -/
def bootNominal (s : State) (k : Nat) (hz : Option (BitVec 32)) : Nat :=
  match ((storedVal s (0x2030 + k) 0).map leNat).filter (· ≠ 0) with
  | some n => n
  | none => match hz with | some f => nearestNominal f.toNat | none => 0

/-- An oscillator running at a frequency is good for a nominal: within 200 ppm (R29). -/
def oscFits (nom : Nat) (hz : Option (BitVec 32)) : Bool :=
  match hz with
  | some f => decide (nom ≠ 0) && decide (((f.toNat : Int) - nom).natAbs * 5000 ≤ nom)
  | none => false

/-- FSYN_n started at BOOT with the setting of Table SVC-3. -/
def fsynBoot (s : State) (n : Nat) : State :=
  let (num, den) := if n = 4 ∨ grade s = 3 then (625, 768) else if grade s = 2 then (4375, 6144) else (625, 1024)
  let s := setFsyn (s.setRegN (Reg.FSYN_CTL n) 7) n { armed := false, anchor := s.tim.tl }
  let s := (s.setRegN (Reg.FSYN_NUM n) num).setRegN (Reg.FSYN_DEN n) den
  (s.setRegN (Reg.FSYN_ANCHOR_S n) (tlS s.tim.tl)).setRegN (Reg.FSYN_ANCHOR_T n) (tlT s.tim.tl)

/-- TIMING_PLL_LOCK (R28…R30, R71, R451 steps 4 and 5): nominals set from what is stored or measured; with an oscillator good the
PLL locks, S comes from the calendar (`cyc` crystal cycles into its second) and the models are restored. -/
def execTimingPllLock (hzA hzB : Option (BitVec 32)) (cyc : Fin 32768) (s : State) : Out :=
  if s.pw.boot ≠ 2 ∨ 0 ∈ s.dbg.halted then .next s
  else
    let s := (s.setRegN Reg.TL_OSC_A_HZ (bootNominal s 0 hzA)).setRegN Reg.TL_OSC_B_HZ (bootNominal s 1 hzB)
    let ga := oscFits (s.regN Reg.TL_OSC_A_HZ) hzA
    let gb := oscFits (s.regN Reg.TL_OSC_B_HZ) hzB
    let s := (s.setFlag Reg.TL_OSC_STAT 0 ga).setFlag Reg.TL_OSC_STAT 1 gb
    if !ga && !gb then .next s
    else
      let b := if s.flag Reg.TL_OSC_CFG 0 then gb else !ga
      let S := if s.flag Reg.CAL_STAT 0 then s.cal.s else 0
      let s := s.setFlag Reg.TL_OSC_STAT 2 b
      let s := { s with tim := { s.tim with ckt := true, tl := (S * secUnit + cyc * secUnit / 32768) % tlWrap } }
      let s := ((List.range 5).foldl fsynBoot s).hoRestore
      .next (seqNext (s.setPw { s.pw with boot := if s.pw.seq.isEmpty then 4 else 3 }))

/-! Power domains (R453, R454). -/

/-- The Paddocks of a fabric domain (R454). -/
def domPads (d : Nat) : List Nat :=
  (List.range 9).map (fun i => 12 * (3 * (d / 4) + i / 3) + 3 * (d % 4) + i % 3)

/-- A domain has lost its power: a fabric domain its configuration, a team its memories. -/
def domOff (s : State) (d : Nat) : State :=
  if d < 16 then takePads s (domPads d) true 0
  else if d < 20 then
    let s := { s with can := { s.can with cores := s.can.cores.filter (fun e => teamOf e.1 != d - 16) } }
    s.setFlag Reg.CA_STAT (d - 16) false
  else s

/-- A domain has power again: a team's cores that hold no saved state ask. -/
def domOn (s : State) (d : Nat) : State :=
  if 16 ≤ d ∧ d < 20 then
    let s := s.setFlag Reg.CA_STAT (d - 16) true
    (List.range 64).foldl (fun s i =>
      let c := 64 * (d - 16) + i
      if (s.core c).st = cOff then s.setCore c { s.core c with st := cAsking } else s) s
  else s

/-- Memory, banks and rails resumed after a sleep (steps 1 and 2 of Table MOD-6, R301, R317, R323); the restore of R176 begins once
the teams have power. -/
def sleepOver (s : State) : State :=
  let s :=
    if s.pw.slept then
      let s := s.noc.spPrev.foldl (fun s e => spGo s e.1 e.2) s
      let s := s.setNoc { s.noc with spPrev := [] }
      let s := (List.range 4).foldl (fun s h =>
        if s.flag (Reg.MEM_STAT h) 2 then setChan (s.setFlag (Reg.MEM_STAT h) 2 false) h { chanSt s h with due := true } else s) s
      let s := s.pw.rails.foldl (fun s e => if e.2.back = 0 then s else s.setFld (Reg.AVS_RAIL_V e.1) 9 0 e.2.back) s
      s.setPw { s.pw with slept := false, rails := s.pw.rails.map (fun e => (e.1, { e.2 with back := 0 })) }
    else s
  if s.fld Reg.CA_STAT 7 4 ≠ 0 ∧ (List.range 4).all (fun t => teamOn s t || s.flag (Reg.PWR_PD_CTL (16 + t)) 0) then
    s.setFlag Reg.CA_STAT 8 true
  else s

/-- PD_SWITCH_DONE (R451, R454, R459): a domain completes its switch; in BOOT the next one of the sequence follows. -/
def execPdSwitchDone (d : Fin 35) (s : State) : Out :=
  if s.fld (Reg.PWR_PD_STAT d) 2 0 ≠ 4 then .next s
  else if s.pw.boot = 3 then
    let rest := s.pw.seq.filter (· ≠ d.val)
    let s := domOn (s.setFld (Reg.PWR_PD_STAT d) 2 0 1) d
    .next (seqNext (s.setPw { s.pw with seq := rest, boot := if rest.isEmpty then 4 else 3 }))
  else if s.flag (Reg.PWR_PD_CTL d) 0 then .next (domOff (s.setFld (Reg.PWR_PD_STAT d) 2 0 0) d)
  else .next (sleepOver (domOn (s.setFld (Reg.PWR_PD_STAT d) 2 0 1) d))

/-- The condition of Table MOD-4 for switching a domain off (R454). -/
def mayOff (s : State) (d : Nat) : Bool :=
  s.fld (Reg.PWR_PD_STAT d) 2 0 != 0
    && (if d < 16 then (domPads d).all (fun p => [0, 2].contains (s.fld (Reg.CFG_PAD_STAT p) 1 0))
      else if d < 20 then
        !s.flag Reg.CA_CTL (d - 16) && (List.range 64).all (fun i => !coreHolds (s.core (64 * (d - 16) + i)))
      else if d = 22 then
        (List.range 4).all (fun h => s.fld (Reg.MEM_STAT h) 1 0 == 0) && (List.range 16).all (fun n => !(rngOn s n && inSdram (rngBase s n)))
      else d == 24 && (List.range 8).all (fun m => !macOn s m))

/-- A write of PWR_PD_CTL_d (R454). -/
def pdCtl (s : State) (d : Nat) (off : Bool) : State :=
  let a := Reg.PWR_PD_CTL d
  let st := s.fld (Reg.PWR_PD_STAT d) 2 0
  if off then
    if mayOff s d then (s.setFlag a 0 true).setFld (Reg.PWR_PD_STAT d) 2 0 4 else s.raise blkPwr 8
  else if s.flag a 0 then
    let s := s.setFlag a 0 false
    if st = 0 then s.setFld (Reg.PWR_PD_STAT d) 2 0 4 else s
  else s

/-- PD_OFF_REQ (R454). -/
def execPdOffReq (d : Fin 35) (value : BitVec 32) (s : State) : Out := .next (pdCtl s d (value.getLsbD 0))

/-! The margin re-plan (R467…R469). -/

/-- A rail. -/
def railOf (s : State) (k : Nat) : Rail := sget (fun _ => {}) s.pw.rails k
/-- The state with a rail replaced. -/
def setRail (s : State) (k : Nat) (r : Rail) : State := s.setPw { s.pw with rails := sput (fun _ => {}) s.pw.rails k r }
/-- A rail is enabled. -/
def railOn (s : State) (k : Nat) : Bool := s.flag (Reg.AVS_RAIL_CFG k) 16
/-- The commanded voltage, mV. -/
def railV (s : State) (k : Nat) : Nat := s.fld (Reg.AVS_RAIL_V k) 9 0
/-- A domain is fed by rail k. -/
def feeds (s : State) (k d : Nat) : Bool := s.flag (Reg.AVS_RAIL_MASK k) d
/-- The rail's voltage, kept as the lowest of the loop where it is. -/
def setRailV (s : State) (k v : Nat) : State :=
  let r := railOf s k
  setRail (s.setFld (Reg.AVS_RAIL_V k) 9 0 v) k { r with vmin := Nat.min r.vmin v }

/-- The domain of ring-oscillator pair i (R467). -/
def pairDom (i : Nat) : Nat := if i < 20 then i else [21, 29, 30, 31].getD (i - 20) 21

/-- The re-plan of one rail (R468, R469). The fit of δ(h) is the device's: its value at the end of life and the projected life
are free (log entry 11). -/
def replanRail (s : State) (k : Nat) : State :=
  let r := railOf s k
  let d := ((List.range 24).filter (fun i => feeds s k (pairDom i))).foldl (fun m i => Nat.max m (s.fld (Reg.AGE_RO i) 23 0)) 0
  let eol := s.free % 2 ^ 24
  let s := s.took
  let life := s.free % 2 ^ 32
  let s := s.took
  let res := satNat 10 (ceilDiv ((eol - d) * s.fld Reg.AGE_SENS 15 0) 1000)
  let lo := satNat 8 (6 + ceilDiv d 2000)
  let s := s.setRegN (Reg.AVS_RAIL_SLACK k) (lo + satNat 8 (lo + 6) * 2 ^ 8)
  let s := (s.setRegN (Reg.AGE_LIFE k) life).setRegN (Reg.AGE_RESERVE k) res
  let s := s.raiseIf (decide (850 < r.vmin + res)) blkPwr 14
  let e := leBytes 4 (s.regN Reg.AGE_HOURS) ++ leBytes 1 k ++ leBytes 2 r.vmin ++ leBytes 4 d ++ leBytes 1 lo ++ leBytes 2 res ++ leBytes 4 life
    ++ List.replicate 14 0
  let h := s.pw.hist ++ [e]
  setRail (s.setPw { s.pw with hist := h.drop (h.length - 64) }) k { r with vmin := railV s k }

/-- The re-plan (R468): every enabled rail, then REPLAN_DONE; AGE_HOURS is kept (R467). -/
def replan (s : State) : State :=
  let s := ((List.range 8).filter (railOn s)).foldl replanRail s
  (s.setPw { s.pw with hours := s.regN Reg.AGE_HOURS, since := 0 }).raise blkPwr 13

/-- AGE_PERIOD_REPLAN (R468). -/
def execAgePeriodReplan (s : State) : Out :=
  if s.fld Reg.AGE_CFG 15 0 ≤ s.pw.since then .next (replan s) else .next s

/-- δ in ppm of two counts (R467), saturating; a stressed oscillator that runs no slower reports 0. A reference that counts nothing
leaves it open. -/
def agePpm (s : State) (f r : Nat) : State × Nat :=
  if r = 0 then (s.took, s.free % 2 ^ 24) else (s, satNat 24 ((r - f) * 1000000 / r))

/-- AGE_MEASURE (R467): the counts of the pairs whose domain is on. -/
def execAgeMeasure (counts : List (Fin 24 × BitVec 32 × BitVec 32)) (s : State) : Out :=
  let s := counts.foldl (fun s e =>
    if s.fld (Reg.PWR_PD_STAT (pairDom e.1)) 2 0 = 1 then
      let (t, d) := agePpm s e.2.1.toNat e.2.2.toNat
      t.setRegN (Reg.AGE_RO e.1) d
    else s) s
  let s := s.count Reg.AGE_HOURS
  let h := s.regN Reg.AGE_HOURS
  .next (s.setPw { s.pw with since := s.pw.since + 1, hours := if h % 24 = 0 then h else s.pw.hours })

/-! PWR_CMD (R447). -/

/-- A command not accepted (R447). -/
def cmdRefused (s : State) : State := s.raise blkPwr 7

/-- RELEASE is accepted (R447, R449). -/
def releaseOk (s : State) : Bool :=
  (s.mode == mCommission || (s.mode == mSafe && s.under == mCommission)) && ldrPhase s == 0
/-- RELEASE (R446, R447, R449). -/
def cmdRelease (s : State) : State :=
  if releaseOk s then
    (s.setFlag Reg.PWR_MODE 8 true).moveMode s.modeD
  else cmdRefused s

/-- RECOMMISSION is accepted (R447). -/
def recommOk (s : State) : Bool := decide (mAcquire ≤ s.mode) && decide (s.mode ≤ mFreerun)
/-- RECOMMISSION (R446, R447). -/
def cmdRecommission (s : State) : State :=
  if recommOk s then (s.setFlag Reg.PWR_MODE 8 false).moveMode mCommission else cmdRefused s

/-- LEAVE_SAFE is accepted (R508). -/
def leaveOk (s : State) : Bool := s.mode == mSafe && s.canRelease
/-- LEAVE_SAFE (R448, R508). -/
def cmdLeaveSafe (s : State) : State :=
  if leaveOk s then
    let s := s.setFlag Reg.OUT_STAT 1 false
    (s.enterMode s.under).gateSettle
  else cmdRefused s

/-- PHASE of STABLE. -/
def stblPhase (s : State) : Nat := s.fld Reg.PWR_STBL_STAT 2 0
/-- D is SERVICE or HOLDOVER and so is the mode. -/
def stblFrom (s : State) : Bool := (s.mode == mService || s.mode == mHoldover) && (s.modeD == mService || s.modeD == mHoldover)

/-- STABLE is accepted (R455). -/
def stableOk (s : State) : Bool :=
  let e := s.regN Reg.PWR_STBL_ENTER
  (s.mode == mService || s.mode == mHoldover) && ldrPhase s == 0 && ptLater e (s.pt + 64)
    && !(s.flag Reg.PWR_STBL_CFG 1 && ptLater ((e + 2048) % 2 ^ 32) (s.regN Reg.PWR_STBL_WAKE)) && stblPhase s != 1

/-- STABLE (R455): an entry armed, and a timed wake with it. -/
def cmdStable (s : State) : State :=
  let e := s.regN Reg.PWR_STBL_ENTER
  let w := s.regN Reg.PWR_STBL_WAKE
  let timed := s.flag Reg.PWR_STBL_CFG 1
  if !stableOk s then (cmdRefused s).raise blkPwr 3
  else
    (s.setPw { s.pw with enterAt := e, wakeAt := if timed then some w else none, wakeNow := false }).setFld Reg.PWR_STBL_STAT 2 0 1

/-- An armed entry disarmed. -/
def disarm (s : State) : State := (s.setFld Reg.PWR_STBL_STAT 2 0 0).setPw { s.pw with wakeAt := none }

/-- A write of PWR_CMD (R447): one command at a time. -/
def pwrCmd (s : State) (v : Nat) : State :=
  if s.mode = mBackup then s
  else
    match v % 256 with
    | 0 => s
    | 1 => cmdRelease s
    | 2 => cmdRecommission s
    | 4 => cmdLeaveSafe s
    | 8 => cmdStable s
    | 16 => if stblPhase s = 1 then disarm s else s
    | 32 => if s.mode = mStable then s.setPw { s.pw with wakeNow := true } else s
    | 64 => systemReset s 2
    | 128 => replan s
    | _ => cmdRefused s

/-- RELEASE (R447): a write of PWR_CMD. -/
def execRelease (value : BitVec 32) (s : State) : Out := .next (pwrCmd s value.toNat)
/-- RECOMMISSION (R447): a write of PWR_CMD. -/
def execRecommission (value : BitVec 32) (s : State) : Out := .next (pwrCmd s value.toNat)
/-- LEAVE_SAFE (R448): a write of PWR_CMD. -/
def execLeaveSafe (value : BitVec 32) (s : State) : Out := .next (pwrCmd s value.toNat)
/-- STABLE (R455): a write of PWR_CMD. -/
def execStable (value : BitVec 32) (s : State) : Out := .next (pwrCmd s value.toNat)
/-- CANCEL (R455): a write of PWR_CMD. -/
def execCancel (value : BitVec 32) (s : State) : Out := .next (pwrCmd s value.toNat)
/-- WAKE_NOW (R458): a write of PWR_CMD. -/
def execWakeNow (value : BitVec 32) (s : State) : Out := .next (pwrCmd s value.toNat)
/-- RESET (R447): a write of PWR_CMD. -/
def execReset (value : BitVec 32) (s : State) : Out := .next (pwrCmd s value.toNat)
/-- REPLAN (R468): a write of PWR_CMD. -/
def execReplan (value : BitVec 32) (s : State) : Out := .next (pwrCmd s value.toNat)

/-! STABLE (R456…R461). -/

/-- STABLE_ENTRY (R456): at the armed entry tick the mode becomes STABLE and the save of R176 is commanded, or the entry is
disarmed. -/
def execStableEntry (s : State) : Out :=
  if stblPhase s ≠ 1 ∨ !ptReached s.pt s.pw.enterAt then .next s
  else if stblFrom s then
    let s := ((bistStop s).enterMode mStable).setFld Reg.PWR_STBL_STAT 2 0 2
    .next (s.setFlag Reg.CA_STAT 8 true)
  else .next ((disarm s).raise blkPwr 3)

/-- The rails of fabric domains at retention voltage (step 5 of Table MOD-5). -/
def railsRet (s : State) : State :=
  (List.range 8).foldl (fun s k =>
    if s.flag Reg.AVS_CFG 0 && railOn s k && (List.range 31).any (feeds s k) && (List.range 31).all (fun d => d < 16 || !feeds s k d) then
      setRail (s.setFld (Reg.AVS_RAIL_V k) 9 0 550) k { railOf s k with back := railV s k }
    else s) s

/-- STABLE_ASLEEP (R456, steps 2 to 6 of Table MOD-5): with the save complete, IMP settles, banks and channels follow, lanes hold,
and the fabric's trees are gated with its rails in retention. -/
def execStableAsleep (s : State) : Out :=
  if s.mode ≠ mStable ∨ stblPhase s ≠ 2 ∨ s.flag Reg.CA_STAT 8 then .next s
  else
    let s := rollPause (impSettle s)
    let prev (b : Nat) : Nat := ((s.noc.spTo.find? (fun e => e.1 == b)).map (·.2)).getD (s.fld (Reg.SP_BANK_STAT b) 2 0)
    let s := s.setNoc { s.noc with spPrev := (List.range 64).map (fun b => (b, prev b)) }
    let s := (List.range 64).foldl (fun s b => spGo s b (spCode (s.fld (Reg.SP_BANK_CFG b) 5 4))) s
    let s := (List.range 4).foldl (fun s h => if chanReady s h then s.setFlag (Reg.MEM_STAT h) 2 true else s) s
    let s := (List.range 16).foldl (fun s d => if s.fld (Reg.PWR_PD_STAT d) 2 0 = 1 then s.setFld (Reg.PWR_PD_STAT d) 2 0 2 else s) s
    let s := if s.fld (Reg.PWR_PD_STAT 24) 2 0 = 1 then s.setFld (Reg.PWR_PD_STAT 24) 2 0 3 else s
    let s := railsRet (s.setPw { s.pw with slept := true, gated := true })
    .next ((s.setFld Reg.PWR_STBL_STAT 2 0 3).raise blkPwr 1)

/-- STABLE_WAKE_EVENT (R458): timed, pin, expiry or command, never earlier than 2,048 ticks after the entry. -/
def execStableWakeEvent (cause : Fin 4) (s : State) : Out :=
  let holds : Bool := match cause.val with
    | 0 => s.pw.wakeAt.any (ptReached s.pt)
    | 1 => s.flag Reg.PWR_STBL_CFG 2
    | 2 => s.flag Reg.PWR_STBL_CFG 3 && s.tlState == tlExpired
    | _ => s.pw.wakeNow
  if s.mode = mStable ∧ (stblPhase s = 2 ∨ stblPhase s = 3) ∧ holds ∧ ptReached s.pt ((s.pw.enterAt + 2048) % 2 ^ 32) then
    .next ((s.wakeStart (cause + 1)).setPw { s.pw with wakeAt := none, wakeNow := false })
  else .next s

/-- WAKE_UNGATE (R459, R460): 3,072 ticks after the wake event the fabric's trees run again; a restore not complete is a wake
failure, told to the Outrider. -/
def execWakeUngate (s : State) : Out :=
  if stblPhase s ≠ 4 then .next s
  else
    let s := sleepOver s
    let s := s.setPw { s.pw with gated := false }
    if s.flag Reg.CA_STAT 8 ∨ s.fld Reg.CA_STAT 7 4 ≠ 0 then
      let s := (s.setFlag Reg.PWR_STBL_STAT 7 true).raise blkPwr 4
      .next ((s.setFlag Reg.OUT_CAUSE 15 true).latchClass 15)
    else .next s

/-- STABLE_EXIT (R459, R460): 5,530 ticks after the wake event the mode is D, or SAFE after a wake failure. -/
def execStableExit (s : State) : Out :=
  if stblPhase s ≠ 4 then .next s
  else
    let s := { sleepOver s with pw := { (sleepOver s).pw with gated := false } }
    let s :=
      if s.flag Reg.OUT_CAUSE 15 then ((s.react 15).enterMode mSafe).unstand 15
      else if s.mode = mStable then s.enterMode s.modeD
      else s
    .next (rollResume (s.setFld Reg.PWR_STBL_STAT 2 0 0))

/-! Adaptive voltage (R463…R466). -/

/-- The domain of a canary (Table MOD-9). -/
def canaryDom (c : Nat) : Nat :=
  if c < 576 then c / 4 / 12 / 3 * 4 + c / 4 % 12 / 3 else 16 + (c - 576) / 4

/-- A canary's code reported: the present one and the lowest since it was last read. -/
def canaryTake (s : State) (c v : Nat) : State :=
  let low := match s.pw.canary.find? (fun e => e.1 == c) with | some e => Nat.min e.2.2 v | none => v
  s.setPw { s.pw with canary := sinsert c (v, low) (sdrop c s.pw.canary) }

/-- A rail is not in retention and none of its domains switches. -/
def railActs (s : State) (k : Nat) : Bool :=
  (railOf s k).back == 0 && (List.range 31).all (fun d => !feeds s k d || s.fld (Reg.PWR_PD_STAT d) 2 0 != 4)

/-- A transaction to a rail failed for the third time (R463). -/
def linkFail (s : State) : State := (s.count Reg.AVS_LINK_ERR_CNT).raise blkPwr 9

/-- One period of one rail's loop (R465, R466). -/
def railLoop (s : State) (codes : List (Fin 592 × BitVec 8)) (k : Nat) : State :=
  match codes.filterMap (fun e => if feeds s k (canaryDom e.1) && s.fld (Reg.PWR_PD_STAT (canaryDom e.1)) 2 0 == 1 then some e.2.toNat else none) with
  | [] => s
  | c :: cs =>
    let low := cs.foldl Nat.min c
    let r := railOf s k
    let v := railV s k
    let lo := s.fld (Reg.AVS_RAIL_SLACK k) 7 0
    let hi := s.fld (Reg.AVS_RAIL_SLACK k) 15 8
    let high := if hi < low then r.high + 1 else 0
    let w := if low < lo then v + 10 else if 8 ≤ high then v - 5 else v
    let w := Nat.min (Nat.max w 680) 850
    let zeros := if v = 850 ∧ low = 0 then r.zeros + 1 else 0
    let s := setRailV (setRail s k { r with high := high, zeros := zeros }) k w
    let s := (s.setFld (Reg.AVS_RAIL_V k) 25 16 s.free).took
    if zeros = 3 then (s.raise blkPwr 12).detect 14 else s

/-- AVS_LOOP (R463, R465, R466): one millisecond of every enabled rail's loop; `codes` are the canaries' reports, bit k of `bad`
a transaction to rail k that failed. -/
def execAvsLoop (codes : List (Fin 592 × BitVec 8)) (bad : BitVec 8) (s : State) : Out :=
  let s := codes.foldl (fun s e => canaryTake s e.1 e.2.toNat) s
  if !s.flag Reg.AVS_CFG 0 then .next s
  else
    let s := ((List.range 8).filter (railOn s)).foldl (fun s k =>
      if bad.getLsbD k then linkFail s else if railActs s k then railLoop s codes k else s) s
    if s.flag Reg.OUT_CAUSE 14 ∧ (List.range 8).all (fun k => decide ((railOf s k).zeros < 3)) then .next (s.unstand 14) else .next s

/-- CANARY_TRIP (R466): a code of 0 raises its rail by 20 mV at once. -/
def execCanaryTrip (canary : Fin 592) (s : State) : Out :=
  let d := canaryDom canary
  let s := canaryTake s canary 0
  match (List.range 8).find? (fun k => railOn s k && feeds s k d) with
  | some k =>
    if s.flag Reg.AVS_CFG 0 ∧ s.fld (Reg.PWR_PD_STAT d) 2 0 = 1 ∧ railActs s k then
      .next (((setRailV s k (Nat.min (railV s k + 20) 850)).count Reg.AVS_TRIP_CNT).raise blkPwr 11)
    else .next s
  | none => .next s

/-- PMBUS_ALERT (R463): with BUS = 0, STATUS_WORD is read from every rail. -/
def execPmbusAlert (bad : BitVec 8) (s : State) : Out :=
  if s.flag Reg.AVS_CFG 1 then .next s
  else
    let s := ((List.range 8).filter (fun k => railOn s k && bad.getLsbD k)).foldl (fun s _ => linkFail s) s
    .next (s.raise blkPwr 15)

/-- The settings of a rail that EN refuses (R464). -/
def railBad (s : State) (k : Nat) (linear : Bool) : Bool :=
  let above (j : Nat) : Bool := j != k && railOn s j && (List.range 31).any (fun d => feeds s j d && feeds s k d)
  (List.range 8).any above
    || ((List.range 16).any (feeds s k) && (List.range 31).any (fun d => decide (16 ≤ d) && feeds s k d))
    || (!s.flag Reg.AVS_CFG 1 && !linear)

/-- A write of AVS_RAIL_CFG_k (R464): setting EN checks the rail; `linear` is what VOUT_MODE reports. -/
def railCfg (s : State) (k v : Nat) (linear : Bool) : State :=
  if s.mode ≠ mBlank ∧ s.mode ≠ mCommission then s.raise blkPwr 31
  else
    let a := Reg.AVS_RAIL_CFG k
    let s := s.setRegN a (Nat.land v 0xFF7F)
    if !v.testBit 16 then s
    else if railBad s k linear then s.raise blkPwr 10
    else (setRail s k { railOf s k with high := 0, zeros := 0 }).setFlag a 16 true

/-- AVS_RAIL_ENABLE (R464). -/
def execAvsRailEnable (k : Fin 8) (value : BitVec 32) (linear : Bool) (s : State) : Out := .next (railCfg s k value.toNat linear)

end Sys2Proof.Machine
end

