-- ==== Sys2Proof/Machine/Halt.lean ====
section
/-! DEFINITION. Halts (R540, R564…R568, R570) and the debug level that permits them (R496…R498, R560). -/

namespace Sys2Proof.Machine

/-- The state with the service block's own part replaced. -/
def State.setSvc (s : State) (x : Service) : State := { s with svc := x }
/-- The state with the debug block's own part replaced. -/
def State.setDbg (s : State) (x : Debug) : State := { s with dbg := x }

/-- A pair (0 A, 1 B) is in debug halt. -/
def pairHalted (s : State) (p : Nat) : Bool := s.dbg.halted.contains p
/-- A pair is out of reset and not held in it (R516, R532). -/
def pairUp (s : State) (p : Nat) : Bool := decide (2 ≤ s.pw.boot) && (p == 0 || s.svc.bRun) && !s.svc.held.contains p
/-- A pair runs. -/
def pairRuns (s : State) (p : Nat) : Bool := pairUp s p && !pairHalted s p

/-- Whole cycles of a pair's clock, 800 MHz, in n CKT cycles. -/
def pairCycles (n : Nat) : Nat := n * 3125 / 1920

/-- Unlock windows freeze with their pair's clock and go on with it (R570). -/
def unlockHold (s : State) (p : Nat) (halt : Bool) : State :=
  s.setSvc { s.svc with unlock := s.svc.unlock.map (fun e =>
    if e.1 ≠ p then e
    else if halt then (p, { e.2 with spent := some (s.tim.cks - e.2.since) })
    else match e.2.spent with
      | some n => (p, { e.2 with since := s.tim.cks - n, spent := none })
      | none => e) }

/-! Watchdogs (R537…R540). -/

/-- TIMEOUT in force: the one of the last kick (R539). -/
def wdtTimeout (s : State) (p : Nat) : Nat := sget (fun _ => 2000000) s.svc.tmo p
/-- A watchdog counts: A from BOOT on, B from its pair's first start; frozen in debug halt (R537, R539, R540). -/
def wdtRuns (s : State) (p : Nat) : Bool := decide (2 ≤ s.pw.boot) && (p == 0 || s.svc.bRun) && !pairHalted s p
/-- The present count of a watchdog, in µs of RCO, which no clock of the model times: a free value between what its last step
left and what its next one names (log entry 11); exact while it does not count. -/
def wdtCount (s : State) (p : Nat) : State × Nat :=
  let hi := s.fld (Reg.WDT_COUNT p) 23 0
  let lo := if s.svc.warn.contains p then 1 else wdtTimeout s p / 4 + 1
  if !wdtRuns s p then (s, hi)
  else if hi ≤ lo then (s, hi)
  else
    let v := lo + s.free % (hi - lo + 1)
    (s.took.setRegN (Reg.WDT_COUNT p) v, v)

/-- A pair enters debug mode (R564, R565): clock, peripherals and watchdog stop; class HALT mutes. -/
def haltPair (s : State) (p : Nat) : State :=
  if !pairRuns s p then s
  else
    let s := unlockHold (wdtCount s p).1 p true
    let s := (s.setDbg { s.dbg with halted := s.dbg.halted ++ [p] }).raise blkDbg 0
    if s.flag Reg.OUT_CAUSE 16 then s else s.detect 16

/-- The number of dcsr, which keeps its step bit over a resume. -/
def dcsrNo : Nat := 0x7B0

/-- A pair resumes (R540, R565): its watchdog goes on from at least 1,000 µs. -/
def resumePair (s : State) (p : Nat) : State :=
  if !pairHalted s p then s
  else
    let s := unlockHold (s.setDbg { s.dbg with
      halted := s.dbg.halted.filter (· ≠ p), gprs := s.dbg.gprs.filter (fun e => e.1 / 65536 != p || e.1 % 65536 == dcsrNo) }) p false
    let s := (s.setFld (Reg.WDT_COUNT p) 23 0 (Nat.max 1000 (s.fld (Reg.WDT_COUNT p) 23 0))).raise blkDbg 1
    if s.dbg.halted.isEmpty then s.unstand 16 else s

/-- A core test that a halt ends: one under way, or the core's own before it began (R525). -/
def bistYield (s : State) (c : Nat) : State :=
  match s.out.core with
  | some b => if b.begun || b.core == c then bistStop s else s
  | none => s

/-- A Canter core halted (R175): a test under way ends with its memories restored (R525, R566), transfers ended, its operations reined back, both banks kept. -/
def haltCore (s : State) (c : Nat) : State :=
  let s := bistYield s c
  let s := endXfers (endXfers s c false) c true
  let s := s.setCore c { s.core c with st := cHalted }
  let coming (o : Op) : Bool := (s.core c).grant == some o.slot || (s.core c).pgrant == some o.slot
  let s := reinBack s 5 c (fun o => o.cls == 0 && o.worker == some c && o.st == .running && !coming o)
  let k := s.core c
  feedHard ((s.setCore c { k with drop := [] }).raise blkDbg 2)

/-- A halted core asks without a report (R175, R567). -/
def resumeCore (s : State) (c : Nat) : State :=
  let k := s.core c
  if k.st = cHalted then
    s.setCore c { (({ k with failed := [], cache := none } : CoreState).setBank {}).setOther {} with shadow := false, st := cAsking }
  else s

/-- The level in force has become another (R560, R568): LEVEL_CHG, and a fall resumes every halted pair and core. -/
def levelMoved (s : State) (old : Nat) : State :=
  let new := s.debugLevel
  let s := s.raiseIf (new != old) blkDbg 7
  if new < old then
    let s := s.dbg.halted.foldl resumePair s
    if new < 2 then (List.range 256).foldl resumeCore s else s
  else s

/-- A debug level granted (R497, R498). -/
def grantLevel (s : State) (l : Nat) : State :=
  let old := s.debugLevel
  levelMoved (s.setSec { s.sec with grant := some l }) old

end Sys2Proof.Machine
end

