-- ==== Sys2Proof/Machine/Security.lean ====
section
/-! DEFINITION. Security and life cycle (R474…R503): burning OTP, owner commands, the tack room, attestation, the TRNG, the erase and
full BIST. Firmware verification stands in Boot.lean. -/

namespace Sys2Proof.Machine

/-! Burning OTP (R476…R478). -/

/-- A burn and its verify (R478): where that fails, which of the bits took is open, and OTP_FAIL is set. Answers whether it
verified. -/
def burn (s : State) (a : Nat) (l : List Byte) (fail : Bool) : State × Bool :=
  if fail then
    let (s, m) := drawBytes l.length s
    ((otpBurn s a (List.zipWith (fun x y => x &&& y) l m)).raise blkSec 3, false)
  else (otpBurn s a l, true)

/-- A byte burned into its three copies in order, each verified before the next (R476); a failure at one of them, which one is open. -/
def burn3 (s : State) (a v : Nat) (fail : Bool) : State × Bool :=
  let b := BitVec.ofNat 8 v
  if fail then
    let n := s.free % 3
    burn (otpBurn s.took a (List.replicate n b)) (a + n) [b] true
  else (otpBurn s a [b, b, b], true)

/-- The thermometer code of a life-cycle state (R474). -/
def lifeBits (c : Nat) : Nat := 2 ^ c - 1

/-- A new life-cycle state burned (R476). -/
def burnLife (s : State) (c : Nat) (fail : Bool) : State × Bool :=
  let (s, ok) := burn3 s 0 (lifeBits c) fail
  (if ok then s.tamper 0x11 c else s, ok)

/-! Owner commands (R485…R487). -/

/-- The 3,012 bytes of SEC_CMD_BUF. -/
def cmdBytes (s : State) : List Byte := (List.range 753).flatMap (fun i => leBytes 4 (s.regN (Reg.SEC_CMD_BUF i)))

/-- SEC_NONCE. -/
def secNonce (s : State) : Nat := s.regN Reg.SEC_NONCE_LO + s.regN Reg.SEC_NONCE_HI * 2 ^ 32
/-- SEC_NONCE redrawn from the TRNG; a refused draw leaves it (R486, R494). -/
def redraw (s : State) : State :=
  if s.trngOk then
    let (s, l) := drawBytes 8 s
    (s.setRegN Reg.SEC_NONCE_LO (fieldLe l 0 4)).setRegN Reg.SEC_NONCE_HI (fieldLe l 4 4)
  else s

/-- A command ended with an abort code (R486). -/
def cmdEnd (s : State) (cmd code : Nat) : State :=
  (s.setRegN Reg.SEC_CMD_STAT (cmd * 2 ^ 8 + code * 2 ^ 16)).raise blkSec (if code = 0 then 0 else 1)

/-- The life-cycle states and further state in which a command is accepted (Table SEC-6). -/
def cmdState (s : State) (cmd : Nat) : Bool :=
  let l := s.life
  match cmd with
  | 1 => [1, 2, 3].contains l
  | 2 => [2, 3].contains l
  | 3 => l == 1 && otpVote s 9 % 16 != 0
  | 4 => l == 2
  | 5 => [2, 3].contains l
  | 6 => [1, 2, 3, 4].contains l
  | 7 => [1, 2, 3].contains l
  | 8 => [2, 3].contains l && !eraseOnUnlock s
  | 9 => (l == 1 && genBits s == 0) || l == 4
  | _ => [1, 2].contains l

/-- The arguments of a command are good (R480, R484, R487, R490, R497). -/
def cmdArgs (s : State) (cmd slot level : Nat) (arg : List Byte) : Bool :=
  let slots := otpVote s 9
  match cmd with
  | 1 => decide (slot < 4) && allZero (slotHash s slot) && !slots.testBit slot
  | 2 => decide (slot < 4) && (List.range 4).any (fun k => k != slot && slotProg s k && !slotRevoked s k)
  | 7 => decide (slot < 8) && decide (arbCount s slot < fieldLe arg 0 1)
  | 8 => decide (level ≤ 2)
  | 9 => decide (genBits s < 4)
  | 10 => decide (level ≤ 1)
  | _ => true

/-- An erase asked for (R498): 0 by the debug port, else the life-cycle code it leads to. -/
def eraseAsk (s : State) (c : Nat) : State := s.setSec { s.sec with erase := some (c, false) }

/-- The effect of a command that passed its checks (Table SEC-6), with its abort code; `fail` is a burn whose verify fails. -/
def cmdAct (s : State) (cmd slot level : Nat) (arg : List Byte) (fail : Bool) : State × Nat :=
  let done (r : State × Bool) : State × Nat := (secShow r.1, if r.2 then 0 else 0x0B01)
  match cmd with
  | 1 =>
    let (s, ok) := burn s (0x80 + 32 * slot) arg fail
    if ok then done (burn3 s 9 (2 ^ slot) false) else done (s, false)
  | 2 =>
    let (s, ok) := burn3 s 9 (2 ^ (4 + slot)) fail
    done (if ok then s.tamper 0x12 slot else s, ok)
  | 3 => done (burnLife s 2 fail)
  | 4 => done (burnLife s 3 fail)
  | 5 =>
    let (s, ok) := burn3 s 9 0xF0 fail
    done (if ok then eraseAsk s 4 else s, ok)
  | 6 => (eraseAsk s 5, 0)
  | 7 =>
    let v := fieldLe arg 0 1
    let (s, ok) := burn s (0x100 + 32 * slot) (leBytes 32 (2 ^ v - 2 ^ arbCount s slot)) fail
    done (if ok then s.tamper 0x16 slot else s, ok)
  | 8 => (((grantLevel s level).tamper 0x10 level).raise blkSec 14, 0)
  | 9 =>
    if !s.trngOk || s.sec.keygen.isSome then (s, 0x0A08)
    else
      let g := genBits s
      let (s, ok) := burn3 s 6 (2 ^ g) fail
      if ok then
        let (s, seeds) := drawBytes 96 s
        let s := (otpBurn s (0x280 + 128 * g) seeds).setSec { (otpBurn s (0x280 + 128 * g) seeds).sec with keygen := some g }
        done (((s.setFlag Reg.SEC_STAT 19 true).setRegN Reg.SEC_ATT_IDX 0).tamper 0x15 g, true)
      else done (s, false)
  | _ => if level = 1 then done (burn3 s 3 1 fail) else (s, 0)

/-- An owner command executed (R486, Table SEC-4); a new life-cycle state resets the device (R476), and RETURN and SCRAP stay busy
until their erase has ended. -/
def ownerExec (s : State) (fail : Bool) : State :=
  if s.flag Reg.SEC_CMD_STAT 0 then s.raise blkSec 1
  else
    let b := cmdBytes s
    let cmd := fieldLe b 4 1
    let slot := fieldLe b 6 1
    let level := fieldLe b 7 1
    let arg := slice b 0x20 32
    let pub := slice b 0x80 64
    let h := keyHash pub
    let key := keyOk s (fieldLe b 5 1) h
      || (cmd == 1 && s.life == 1 && decide (slot < 4) && fieldLe b 5 1 == slot && h == arg)
    if slice b 0 4 != [0x4B, 0x4F, 0x43, 0x4D] || cmd == 0 || decide (10 < cmd) || !allZero (slice b 0x40 64) then cmdEnd s cmd 0x0A04
    else
      let nonce := secNonce s
      let s := redraw s
      if slice b 16 16 != otpBytes s 0x20 16 || fieldLe b 8 8 != nonce then cmdEnd s cmd 0x0C01
      else if !key || !sigOk pub (slice b 0 128) (slice b 0xC0 2820) then cmdEnd (s.tamper 0x13 cmd) cmd 0x0C01
      else if !cmdState s cmd then cmdEnd s cmd 0x0A06
      else if !cmdArgs s cmd slot level arg then
        cmdEnd (s.raiseIf (cmd == 7 && decide (slot < 8) && arbCount s slot == 255) blkSec 10) cmd 0x0A04
      else
        let (s, code) := cmdAct s cmd slot level arg fail
        if code ≠ 0 then cmdEnd s cmd code
        else if cmd = 5 ∨ cmd = 6 then s.setRegN Reg.SEC_CMD_STAT (1 + cmd * 2 ^ 8)
        else
          let s := cmdEnd s cmd 0
          if cmd = 3 ∨ cmd = 4 then systemReset s 2 else s

/-- SEC_CMD_CTL.EXEC with the command of a code in SEC_CMD_BUF. -/
def ownerCmd (s : State) (cmd : Nat) (fail : Bool) : State := if fieldLe (cmdBytes s) 4 1 = cmd then ownerExec s fail else s

/-- ADD_SLOT (R487): EXEC of the command in SEC_CMD_BUF; `fail` is a burn whose verify fails (R478). -/
def execAddSlot (fail : Bool) (s : State) : Out := .next (ownerCmd s 1 fail)
/-- REVOKE (R480). -/
def execRevoke (fail : Bool) (s : State) : Out := .next (ownerCmd s 2 fail)
/-- OWN (R487). -/
def execOwn (fail : Bool) (s : State) : Out := .next (ownerCmd s 3 fail)
/-- DEPLOY (R487). -/
def execDeploy (fail : Bool) (s : State) : Out := .next (ownerCmd s 4 fail)
/-- RETURN (R487). -/
def execReturn (fail : Bool) (s : State) : Out := .next (ownerCmd s 5 fail)
/-- SCRAP (R487). -/
def execScrap (fail : Bool) (s : State) : Out := .next (ownerCmd s 6 fail)
/-- ARB_SET (R484). -/
def execArbSet (fail : Bool) (s : State) : Out := .next (ownerCmd s 7 fail)
/-- DEBUG_GRANT (R497). -/
def execDebugGrant (fail : Bool) (s : State) : Out := .next (ownerCmd s 8 fail)
/-- ATT_KEYGEN (R490). -/
def execAttKeygen (fail : Bool) (s : State) : Out := .next (ownerCmd s 9 fail)
/-- BRIDLE_SET (R487). -/
def execBridleSet (fail : Bool) (s : State) : Out := .next (ownerCmd s 10 fail)

/-- KEYGEN_DONE (R490): ROOT computed and burned. -/
def execKeygenDone (fail : Bool) (s : State) : Out :=
  match s.sec.keygen with
  | none => .next s
  | some g =>
    let a := 0x280 + 128 * g
    let (s, ok) := burn s (a + 96) (padTo 32 (Config.xmssRoot (otpBytes s a 96))) fail
    let s := (s.setSec { s.sec with keygen := none }).setFlag Reg.SEC_STAT 19 false
    .next ((secShow s).raiseIf ok blkSec 18)

/-! The tack room (R488, R489). -/

/-- The bytes of SEC_KEY_BUF. -/
def keyBuf (s : State) : List Byte := (List.range 32).flatMap (fun i => leBytes 4 (s.regN (Reg.SEC_KEY_BUF i)))
/-- SEC_KEY_BUF filled from its first byte, zeros after. -/
def setKeyBuf (s : State) (l : List Byte) : State :=
  (List.range 32).foldl (fun s i => s.setRegN (Reg.SEC_KEY_BUF i) (fieldLe l (4 * i) 4)) s

/-- The wrapping key KW (Table SEC-5): customisation 2 stands for "TK8-WRAP". -/
def keyWrap (s : State) : List Byte := Config.kmac (otpBytes s 0x60 32) (otpBytes s 0x20 16) 2 32
/-- The bytes of a key of a class. -/
def keySize (cls : Nat) : Nat := if cls = 2 then 96 else 32
/-- A class and slot of Table SEC-5. -/
def keyPlace (cls slot : Nat) : Bool :=
  (cls == 0 && 1 ≤ slot && slot ≤ 3) || (cls == 1 && slot == 0) || (cls == 2 && decide (slot < 64))
/-- A KS slot that R336 protects. -/
def keyBusy (s : State) (cls slot : Nat) : Bool :=
  cls == 2 && (s.flag (Reg.IMP_KSLOT_STAT slot) 1 || s.flag (Reg.IMP_KSLOT_STAT slot) 2)
/-- A key placed in a slot; an empty one zeroes it. -/
def putKey (s : State) (cls slot : Nat) (k : List Byte) : State :=
  match cls with
  | 0 => s.setSec { s.sec with roles := sput (fun _ => []) s.sec.roles slot k }
  | 1 => s.setSec { s.sec with relay := k }
  | _ => (s.setSec { s.sec with tack := sput (fun _ => []) s.sec.tack slot k }).setFlag (Reg.IMP_KSLOT_STAT slot) 0 (!k.isEmpty)

/-- A key wrapped under KW: IV, ciphertext, tag, the class byte as additional data (R489). -/
def wrapKey (s : State) (cls : Nat) (k : List Byte) : State × List Byte :=
  let (s, iv) := drawBytes 12 s
  let kw := keyWrap s
  (s, iv ++ Config.gcmCrypt kw iv k ++ Config.gcmTag kw iv [BitVec.ofNat 8 cls] k)

/-- The key of a blob of a class, if its tag verifies (R489). -/
def unwrapKey (s : State) (cls : Nat) (blob : List Byte) : Option (List Byte) :=
  let n := keySize cls
  let kw := keyWrap s
  let iv := slice blob 0 12
  let k := Config.gcmCrypt kw iv (slice blob 12 n)
  if Config.gcmTag kw iv [BitVec.ofNat 8 cls] k == slice blob (12 + n) 16 then some k else none

/-- LOAD of a key into a slot (R489): the blob, or none where it was refused; without a good TRNG nothing is loaded (R494). -/
def keyLoad (s : State) (cls slot : Nat) (k : List Byte) : State × Option (List Byte) :=
  if !keyPlace cls slot then (s.setFld Reg.SEC_KEY_STAT 2 1 3, none)
  else if keyBusy s cls slot then ((s.setFld Reg.SEC_KEY_STAT 2 1 2).raise blkSec 5, none)
  else if !s.trngOk then (s, none)
  else
    let (s, b) := wrapKey (s.setFld Reg.SEC_KEY_STAT 2 1 0) cls k
    (putKey s cls slot k, some b)

/-- UNWRAP of a blob into a slot (R489), with whether the key was loaded. -/
def keyUnwrap (s : State) (cls slot : Nat) (blob : List Byte) : State × Bool :=
  if !keyPlace cls slot then (s.setFld Reg.SEC_KEY_STAT 2 1 3, false)
  else if keyBusy s cls slot then ((s.setFld Reg.SEC_KEY_STAT 2 1 2).raise blkSec 5, false)
  else
    match unwrapKey s cls blob with
    | some k => (putKey (s.setFld Reg.SEC_KEY_STAT 2 1 0) cls slot k, true)
    | none => ((s.setFld Reg.SEC_KEY_STAT 2 1 1).raise blkSec 4, false)

/-- A write of SEC_KEY_CMD (R489). -/
def keyCmd (s : State) (v : Nat) : State :=
  let cls := bitsOf v 5 4
  let slot := bitsOf v 13 8
  match bitsOf v 1 0 with
  | 0 =>
    let (s, b) := keyLoad s cls slot ((keyBuf s).take (keySize cls))
    setKeyBuf s (b.getD [])
  | 1 => setKeyBuf (keyUnwrap s cls slot (keyBuf s)).1 []
  | 2 =>
    let s :=
      if !keyPlace cls slot then s.setFld Reg.SEC_KEY_STAT 2 1 3
      else if keyBusy s cls slot then (s.setFld Reg.SEC_KEY_STAT 2 1 2).raise blkSec 5
      else putKey (s.setFld Reg.SEC_KEY_STAT 2 1 0) cls slot []
    setKeyBuf s []
  | _ => setKeyBuf (s.setFld Reg.SEC_KEY_STAT 2 1 3) []

/-- KEY_LOAD (R489): a write of SEC_KEY_CMD. -/
def execKeyLoad (value : BitVec 32) (s : State) : Out := .next (keyCmd s value.toNat)
/-- KEY_UNWRAP (R489): a write of SEC_KEY_CMD. -/
def execKeyUnwrap (value : BitVec 32) (s : State) : Out := .next (keyCmd s value.toNat)
/-- KEY_CLEAR (R489): a write of SEC_KEY_CMD. -/
def execKeyClear (value : BitVec 32) (s : State) : Out := .next (keyCmd s value.toNat)

/-! Attestation (R490…R493). -/

/-- The next leaf. -/
def attIdx (s : State) : Nat := s.fld Reg.SEC_ATT_IDX 20 0
/-- Tokens in the bucket. -/
def attTokens (s : State) : Nat := s.fld Reg.SEC_ATT_BUCKET 6 0

/-- The next leaf set, with ATT_WARN from 943,719 on (R492). -/
def setAttIdx (s : State) (n : Nat) : State :=
  let s := s.setRegN Reg.SEC_ATT_IDX n
  if 943719 ≤ n ∧ !s.flag Reg.SEC_STAT 18 then (s.setFlag Reg.SEC_STAT 18 true).raise blkSec 11
  else if n < 943719 then s.setFlag Reg.SEC_STAT 18 false else s

/-- The index and the bucket at BOOT (R491, R492): from the journal, the bucket from its last record. -/
def attBoot (s : State) : State :=
  let g := genNow s
  let n := ((s.sec.journal.filter (fun r => r.2.2 == g)).map (·.1)).foldl Nat.max 0
  let tokens := match s.sec.journal with | r :: _ => r.2.1 | [] => 0
  setAttIdx (s.setRegN Reg.SEC_ATT_BUCKET tokens) (Nat.max n (4096 * coarse s g))

/-- A record appended to the journal (R491). -/
def attRecord (s : State) : State := s.setSec { s.sec with journal := (attIdx s, attTokens s, genNow s) :: s.sec.journal }

/-- ATT_TOKEN_GAIN (R492). -/
def execAttTokenGain (s : State) : Out := .next (s.setRegN Reg.SEC_ATT_BUCKET (Nat.min 64 (attTokens s + 1)))

/-- BUCKET_RECORD (R492). -/
def execBucketRecord (s : State) : Out := .next (attRecord s)

/-- The JTAG IDCODE (Table DBG-1). -/
def idcode : Nat := 0x1C8E0D2B

/-- The report of Table SEC-7. -/
def attReport (s : State) (challenge : List Byte) : List Byte :=
  [0x4B, 0x41, 0x54, 0x54] ++ leBytes 2 1 ++ leBytes 1 s.life ++ leBytes 1 s.mode ++ leBytes 4 idcode ++ leBytes 4 0 ++ otpBytes s 0x20 16
    ++ padTo 32 challenge ++ padTo 32 s.sec.digest ++ leBytes 4 (s.regN Reg.CFG_BUILD_LO) ++ leBytes 4 (s.regN Reg.CFG_BUILD_HI)
    ++ (List.range 8).map (fun k => BitVec.ofNat 8 (arbCount s k)) ++ leBytes 8 (tlS s.tim.tl)
    ++ leBytes 4 (attIdx s) ++ leBytes 1 (genNow s) ++ leBytes 1 s.tlState ++ leBytes 2 0

/-- A request to sign (R490, R492, R493): the state with its abort code. -/
def attRequest (s : State) (challenge : List Byte) : State × Nat :=
  if genBits s = 0 ∨ s.life = 0 ∨ s.life = 5 then (s, 0x0A06)
  else if s.sec.keygen.isSome ∨ s.sec.sign.isSome then (s, 0x0A08)
  else if allZero (genRoot s (genNow s)) then (s, 0x0A06)
  else if 1048576 ≤ attIdx s then (s.raise blkSec 12, 0x0A06)
  else if attTokens s = 0 then (s.raise blkSec 13, 0x0A08)
  else (s.setSec { s.sec with sign := some (attIdx s, attReport s challenge) }, 0)

/-- ATTEST_CHALLENGE (R493). -/
def execAttestChallenge (challenge : List Byte) (s : State) : Out := .next (attRequest s challenge).1

/-- A signature completed (R491): coarse bits burned, the leaf journalled, the report signed; answers the abort code. -/
def attSign (s : State) (fail : Bool) : State × Nat :=
  match s.sec.sign with
  | none => (s, 0)
  | some (i, rep) =>
    let g := genNow s
    let s := s.setSec { s.sec with sign := none }
    let (s, ok) := burn s (0x200 + 32 * g) (leBytes 32 (2 ^ (i / 4096 + 1) - 1)) fail
    if !ok then (s, 0x0B01)
    else
      let s := setAttIdx (s.setRegN Reg.SEC_ATT_BUCKET (attTokens s - 1)) (i + 1)
      let s := attRecord s
      (s.setSec { s.sec with report := rep ++ padTo 2820 (Config.xmssSign (otpBytes s (0x280 + 128 * g) 128) i rep) }, 0)

/-! TRNG (R494). -/

/-- TRNG_FAIL (R494). -/
def execTrngFail (s : State) : Out := .next ((s.setFlag Reg.SEC_STAT 0 false).raise blkSec 6)
/-- TRNG_OK (R494). -/
def execTrngOk (s : State) : Out := .next (s.setFlag Reg.SEC_STAT 0 true)

/-- SEC_RNG_READ (R494, R501): 32 random bits for initiator 436; what a refused draw reads is open. -/
def execSecRngRead (init : Fin 512) (s : State) : Out :=
  if init.val = 436 then .next (s.took.answer init 0 [s.free % 2 ^ 32])
  else .next (((s.count Reg.NOC_DECODE_CNT).raise blkNoc 0).answer init stDecode [])

/-! Erase and full BIST (R498, R499). -/

/-- Every IMP range without its keys: decommitted without write-back (Table SEC-9). -/
def impForget (s : State) : State :=
  let s := (List.range 16).foldl (fun s n => s.setFld (Reg.IMP_RNG_CTL n) 31 8 0) s
  let s := s.setImp { s.imp with roots := [], nkeys := [], cache := [], reads := [], checks := [], writes := [], buf := [], claim := false }
  let s := (List.range 64).foldl (fun s e => (s.setRegN (Reg.IMP_POISON e) 0).setRegN (Reg.IMP_POISON e + 4) 0) s
  let s := s.setRegN Reg.IMP_ROLL_STAT 0
  let s := (List.range 64).foldl (fun s k => s.setRegN (Reg.IMP_KSLOT_STAT k) 0) s
  impStat s

/-- The tack room zeroed (R488). -/
def tackClear (s : State) : State := s.setSec { s.sec with tack := [], roles := [], relay := [] }

/-- ERASE (R498, steps 1 to 3 of Table SEC-9): transmit muted, keys and ranges gone, every scratchpad bank zeroed and ON. -/
def execErase (s : State) : Out :=
  match s.sec.erase with
  | some (c, false) =>
    let s := ((s.setSec { s.sec with erase := some (c, true) }).detect 17).tamper 0x14 0
    let s := impForget (tackClear s)
    let s := s.setNoc { s.noc with spTo := [], spNext := [], spPrev := [] }
    .next ((List.range 64).foldl (fun s b => (spClear s b).setFld (Reg.SP_BANK_STAT b) 2 0 0) s)
  | _ => .next s

/-- ERASE_DONE (R498, steps 4 and 5 of Table SEC-9): frames cleared, a life-cycle state it leads to burned, the device reset; the
debug port's request leaves FULL granted. ERASED and ERASE_DONE tell of it after the reset. -/
def execEraseDone (fail : Bool) (s : State) : Out :=
  match s.sec.erase with
  | some (c, true) =>
    let s := takePads (farStop s) allPads true 0
    let s := if c = 0 then grantLevel s 2 else (burnLife s c fail).1
    .next (((systemReset s 2).setFlag Reg.SEC_STAT 6 true).raise blkSec 15)
  | _ => .next s

/-- A write of SEC_BIST_CMD (R499). -/
def bistCmd (s : State) (v : Nat) : State :=
  if v % 4 = 0 then s
  else if (s.life = 1 ∨ s.life = 4) ∧ s.mode = mBlank ∧ s.sec.bist = 0 then s.setSec { s.sec with bist := v % 4 }
  else s.raise blkSec 1

/-- BIST_LOGIC (R499): a write of SEC_BIST_CMD. -/
def execBistLogic (value : BitVec 32) (s : State) : Out := .next (bistCmd s value.toNat)
/-- BIST_MEMORY (R499): a write of SEC_BIST_CMD. -/
def execBistMemory (value : BitVec 32) (s : State) : Out := .next (bistCmd s value.toNat)

/-- BIST_DONE (R499): the tack room is cleared (R488), memory BIST leaves no memory of the device but flash as it was, and the device
resets; the result is read after that. -/
def execBistDone (logic memory : Bool) (s : State) : Out :=
  let b := s.sec.bist
  if b = 0 then .next s
  else
    let s := tackClear s
    let s := if b.testBit 1 then
        { s with mem := s.mem.filter (fun e => inFlash e.1 || decide (winBase ≤ e.1)), noc := { s.noc with spErr := [] } }
      else s
    let s := (systemReset s 2).setRegN Reg.SEC_BIST_STAT
      (1 + 2 * bit (b.testBit 0 && logic) + 4 * bit (b.testBit 1 && memory))
    .next ((s.raise blkSec 16).raiseIf ((b.testBit 0 && !logic) || (b.testBit 1 && !memory)) blkSec 17)

end Sys2Proof.Machine
end

