-- ==== Sys2Proof/Machine/Outrider.lean ====
section
/-! DEFINITION. The Outrider (R504…R527): its start, monitors, transmit-window check, gate and online BIST. -/

namespace Sys2Proof.Machine

/-! RCO and the asynchronous path (R511, R522, R523). -/

/-- The asynchronous mute latch set (R511): every TX_MUTE high, FAULT_N low. -/
def asyncSet (s : State) : State :=
  if s.pw.boot = 0 then s
  else ((s.setFlag Reg.OUT_STAT 4 true).raiseIf (!s.asyncLatch) blkOut 9).gateSettle

/-- RCO_STABLE (R511, R522, R523, R451 step 3): the Outrider's logic leaves reset; a latch older than the reset is cleared, one set
since the boot began takes the safe state with class CLOCK; the controllers start, halted where that was asked (R565). -/
def execRcoStable (s : State) : Out :=
  if s.pw.boot ≠ 1 then .next s
  else
    let s := s.setFlag Reg.OUT_STAT 3 true
    let s :=
      if s.pw.oldMute then s.setFlag Reg.OUT_STAT 4 false
      else if s.asyncLatch then (if s.out.clks.isEmpty then s.detectNow 5 else s.detect 5).raise blkOut 5
      else s
    let s := s.setPw { s.pw with boot := 2, oldMute := false }
    .next ((if s.dbg.rhalt.contains 0 then haltPair s 0 else s).outStat)

/-- SELF_DISAGREE (R511, class 18): the two channels disagree. -/
def execSelfDisagree (s : State) : Out := .next ((asyncSet s).detect 18)

/-- RCO_EDGE_LOSS (R511); before RCO is judged stable the trip is of this boot (R523). -/
def execRcoEdgeLoss (s : State) : Out :=
  .next (asyncSet (if s.rcoOk then s else s.setPw { s.pw with oldMute := false }))

/-! The safe state and the gate (R507…R509). -/

/-- SAFE_ENTRY (R507, R523): at the tick boundary after a detection, or after BOOT, the mode becomes SAFE; heartbeats stop and
ROLE_OUT falls with it. -/
def execSafeEntry (s : State) : Out :=
  if s.safeHeld ∧ s.mode ≠ mBoot ∧ s.mode ≠ mBackup then .next (s.enterMode mSafe) else .next s

/-- GATE_OPEN (R509): at a tick boundary, every condition having held for a whole tick. -/
def execGateOpen (s : State) : Out :=
  if !s.gOpen && s.gateHolds then .next ((s.setFlag Reg.OUT_STAT 0 true).raise blkOut 2).outStat else .next s

/-- A W1C write of OUT_LATCH (R508). -/
def latchClear (s : State) (v : Nat) : State :=
  ((List.range 22).foldl (fun s c => if v.testBit c then s.setFlag Reg.OUT_LATCH c false else s) s).outStat

/-- OUT_LATCH_CLEAR (R508). -/
def execOutLatchClear (value : BitVec 32) (s : State) : Out := .next (latchClear s value.toNat)

/-! The transmit-window check (R512, R513). -/

/-- CONFIRM as it acts. -/
def winConfirm (s : State) : Nat := Nat.max 1 (s.fld Reg.OUT_WIN_CFG 9 2)

/-- WINDOW_REPORT (R513): link `link`'s report for the tick that lies `ago` ticks back. A tick that several links report counts
once, with the first of them. -/
def execWindowReport (link : Fin 16) (ago : Fin 4) (active : Bool) (s : State) : Out :=
  if !s.gOpen || !s.flag Reg.OUT_WIN_CFG 0 || !active || !s.flag Reg.OUT_WIN_LINKS link then .next s
  else
    let tl := tlAdd s.tim.tl (-((ago.val * tickUnit : Nat) : Int))
    let t := tl / tickUnit
    let ph := winPhase s tl
    if inWindow s ph (s.fld Reg.OUT_WIN_CFG 23 16) ∨ s.out.last = some t then .next s
    else
      let n := if s.out.last = some (t - 1) then s.out.viols + 1 else 1
      let s := s.setOut { s.out with viols := n, last := some t }
      let s := ((s.count Reg.OUT_WIN_VIOL).setRegN Reg.OUT_WIN_LAST (ph + link * 2 ^ 28)).raise blkOut 3
      .next (if winConfirm s ≤ n then s.detectNow 1 else s)

/-! Monitors (R515…R520). -/

/-- Uo (R515). -/
def outUnc (s : State) : Nat :=
  if s.tlState = tlLocked then (signed 32 (s.regN Reg.TL_PHASE_ERR)).natAbs
  else if s.tlState = tlHoldover ∨ s.tlState = tlExpired then s.regN Reg.HO_UNC
  else 0xFFFFFFFF

/-- TL_UNC_CHECK (R515). -/
def execTlUncCheck (s : State) : Out :=
  let above := decide (s.regN Reg.OUT_TL_LIMIT < outUnc s) && s.txPermit
  if above && !s.flag Reg.OUT_CAUSE 2 then .next (s.detect 2)
  else if !above && s.flag Reg.OUT_CAUSE 2 then .next (s.unstand 2)
  else .next s

/-- LOCKSTEP_MISMATCH (R516): the pair is held in reset; its watchdog goes on. -/
def execLockstepMismatch (pair : Fin 2) (s : State) : Out :=
  let p := pair.val
  if !pairRuns s p || !s.rcoOk then .next s
  else
    let s := s.setSvc { s.svc with held := s.svc.held ++ [p], unlock := s.svc.unlock.filter (fun e => e.1 != p) }
    .next ((s.raise blkOut 4).detect (3 + p))

/-- A clock of Table OUT-3 is monitored (R517): it runs, and a Canter clock's team has power. -/
def clkWatched (s : State) (k : Nat) : Bool :=
  if k = 0 then s.tim.ckt
  else if k = 6 then pairRuns s 0 || pairRuns s 1
  else s.flag (Reg.FSYN_CTL (k - 1)) 1 && (k == 5 || s.fld (Reg.PWR_PD_STAT (15 + k)) 2 0 == 1)

/-- Ten times the cycles of a clock's programmed frequency in 10 µs, as a fraction. -/
def clkNominal (s : State) (k : Nat) : Nat × Nat :=
  if k = 0 then (49152, 1)
  else if k = 5 then (160000, 1)
  else if k = 6 then (80000, 1)
  else (196608 * s.fld (Reg.FSYN_NUM (k - 1)) 15 0, s.fld (Reg.FSYN_DEN (k - 1)) 19 0)

/-- A count over a 10 µs window lies outside ±8 % (R517). -/
def clkOut (s : State) (k n : Nat) : Bool :=
  let (a, b) := clkNominal s k
  decide (1000 * n * b < 92 * a) || decide (108 * a < 1000 * n * b)

/-- A clock found out of its window: CLOCK is detected. -/
def clkTrip (s : State) (k : Nat) : State :=
  if s.out.clks.contains k then s
  else ((s.setOut { s.out with clks := s.out.clks ++ [k] }).raise blkOut 5).detect 5

/-- A clock back in its window, or no longer monitored. -/
def clkGood (s : State) (k : Nat) : State :=
  let s := s.setFlag Reg.OUT_CLK_STAT k false
  let s := s.setOut { s.out with clks := s.out.clks.filter (· ≠ k) }
  if s.out.clks.isEmpty && s.flag Reg.OUT_CAUSE 5 then s.unstand 5 else s

/-- CLOCK_CHECK (R517): a 10 µs window's counts by clock of Table OUT-3; two windows out in a row detect CLOCK. A clock not
counted or not monitored is not judged. -/
def execClockCheck (counts : List (Fin 7 × BitVec 16)) (s : State) : Out :=
  if !s.rcoOk then .next s
  else
    .next ((List.range 7).foldl (fun s k =>
      if !clkWatched s k then clkGood s k
      else match counts.find? (fun e => e.1.val == k) with
        | none => s
        | some (_, n) =>
          if !clkOut s k n.toNat then clkGood s k
          else if s.flag Reg.OUT_CLK_STAT k then clkTrip s k
          else s.setFlag Reg.OUT_CLK_STAT k true) s)

/-- MISSING_EDGE_TRIP (R517, R523): no edge for four nominal periods; before RCO is judged stable, the asynchronous path. -/
def execMissingEdgeTrip (clk : Fin 7) (s : State) : Out :=
  if !s.rcoOk then
    if s.pw.boot = 0 then .next s
    else .next (asyncSet ((s.setPw { s.pw with oldMute := false }).setOut { s.out with clks := s.out.clks ++ [clk.val] }))
  else if clkWatched s clk then .next (clkTrip (s.setFlag Reg.OUT_CLK_STAT clk true) clk)
  else .next s

/-- The trip points of a sensed rail, µV (Table OUT-4): 0…31 VCC_CORE by domain, then VCC_SRAM, SERDES_A, SERDES_B, VCC_AUX. A
fabric domain in RET trips at 0.50 V. -/
def railTrip (s : State) (r : Nat) : Nat × Nat :=
  if r < 32 then (if r < 16 ∧ s.fld (Reg.PWR_PD_STAT r) 2 0 = 2 then 500000 else 640000, 900000)
  else [(750000, 860000), (850000, 950000), (1130000, 1270000), (1680000, 1920000)].getD (r - 32) (0, 0)

/-- RAIL_TRIP (R518): a rail's reading after its filter, in µV; VOLTAGE stands until every rail reads within its points. -/
def execRailTrip (rail : Fin 36) (uv : BitVec 32) (s : State) : Out :=
  let r := rail.val
  let (a, b) := if r < 32 then (Reg.OUT_VMON_STAT, r) else (Reg.OUT_VMON_STAT2, r - 32)
  let (lo, hi) := railTrip s r
  if !s.rcoOk then .next s
  else if uv.toNat < lo ∨ hi < uv.toNat then
    if s.flag a b then .next s else .next (((s.setFlag a b true).raise blkOut 6).detect 6)
  else
    let s := s.setFlag a b false
    .next (if s.regN Reg.OUT_VMON_STAT = 0 ∧ s.regN Reg.OUT_VMON_STAT2 = 0 ∧ s.flag Reg.OUT_CAUSE 6 then s.unstand 6 else s)

/-- Runs of readings by sensor brought up to date. -/
def tempRuns (m : List (Nat × Nat)) (temps : List Int) (above : Int → Bool) : List (Nat × Nat) :=
  temps.zipIdx.foldl (fun m e => sput (fun _ => 0) m e.2 (if above e.1 then sget (fun _ => 0) m e.2 + 1 else 0)) m

/-- TEMP_READ (R519): the 32 junction sensors' readings, 1/256 °C. TEMP stands while any reads above 125 °C, TEMP_WARN until every
one reads 5 K below OUT_TEMP_WARN. -/
def execTempRead (temps : List (BitVec 16)) (s : State) : Out :=
  if !s.rcoOk then .next s
  else
    let ts := (temps.take 32).map (fun t => signed 16 t.toNat)
    let warn := signed 16 (s.fld Reg.OUT_TEMP_WARN 15 0)
    let top := ts.zipIdx.foldl (fun (b : Option (Int × Nat)) e =>
      match b with | none => some e | some y => if y.1 < e.1 then some e else b) none
    let s := match top with
      | some (t, i) => s.setRegN Reg.OUT_TEMP (unsigned 16 t + i * 2 ^ 16)
      | none => s
    let s := s.setOut { s.out with
      hot := tempRuns s.out.hot ts (fun t => decide (32000 < t)), warm := tempRuns s.out.warm ts (fun t => decide (warn ≤ t)) }
    let ten (m : List (Nat × Nat)) : Bool := m.any (fun e => decide (10 ≤ e.2))
    let s :=
      if s.flag Reg.OUT_CAUSE 7 then (if ts.all (fun t => decide (t ≤ 32000)) then s.unstand 7 else s)
      else if ten s.out.hot then (s.raise blkOut 7).detect 7 else s
    .next (
      if s.flag Reg.OUT_CAUSE 20 then (if ts.all (fun t => decide (t ≤ warn - 1280)) then s.unstand 20 else s)
      else if ten s.out.warm then (s.raise blkOut 8).detect 20 else s)

/-- DUAL_TX (R520): ROLE_IN has been high for 10 µs (UNIT 1) or 20 µs (UNIT 0) with the own gate open; low ends the condition. -/
def execDualTx (roleIn : Bool) (s : State) : Out :=
  let s := s.setFlag Reg.RELAY_STAT 8 roleIn
  if !roleIn then .next (s.unstand 13)
  else if s.gOpen && !s.flag Reg.OUT_CAUSE 13 then .next (s.detect 13)
  else .next s

/-! Online BIST (R524…R527). -/

/-- The units of a round: 256 cores, then 9,216 block memories. -/
def bistUnits : Nat := 9472

/-- A unit's test may run (R524). -/
def bistElig (s : State) (u : Nat) : Bool :=
  if u < 256 then
    s.flag Reg.OUT_BIST_CFG 1 && (s.core u).st != cOff && s.flag (Reg.CA_CORE_CFG u) 0 && s.flag Reg.CA_CTL (teamOf u)
  else
    let p := (u - 256) / 64
    s.flag Reg.OUT_BIST_CFG 2 && padLoaded s p && s.flag (Reg.OUT_BIST_PAD (p / 32)) (p % 32)

/-- The first unit from n on, in order and wrapping, whose test may run. -/
def bistFrom (s : State) (n : Nat) : Option Nat :=
  ((List.range bistUnits).map (fun i => (n + i) % bistUnits)).find? (bistElig s)

/-- Online BIST acts (R524). -/
def bistOn (s : State) : Bool :=
  s.flag Reg.OUT_BIST_CFG 0 && s.rcoOk && s.life != 0 && s.life != 5
    && [mCommission, mAcquire, mService, mHoldover, mFreerun, mShadow, mSafe].contains s.mode

/-- BIST_SLOT (R524): the test of the next unit starts; a slot in which a test is still in progress starts nothing. -/
def execBistSlot (s : State) : Out :=
  if !bistOn s || tlT s.tim.tl / 64 % s.fld Reg.OUT_BIST_PERIOD 24 0 != s.fld Reg.OUT_BIST_OFS 24 0
      || s.out.bist.isSome || s.out.core.isSome then .next s
  else
    match bistFrom s (s.fld Reg.OUT_BIST_NEXT 13 0) with
    | none => .next s
    | some u =>
      let s := s.setRegN Reg.OUT_BIST_NEXT ((bistFrom s (u + 1)).getD u)
      if u < 256 then .next (bistTurn (s.setOut { s.out with core := some { core := u } }) u)
      else .next (s.setOut { s.out with bist := some u })

/-- A unit has failed its test (R527). -/
def bistFailed (s : State) (u : Nat) : State := ((s.setRegN Reg.OUT_BIST_FAIL (u + 2 ^ 31)).raise blkOut 13).detectNow 21

/-- BIST_CORE_TEST_END (R525, R527). -/
def execBistCoreTestEnd (fail : Bool) (s : State) : Out :=
  match s.out.core with
  | some b =>
    if !b.begun then .next s
    else
      let s := bistStop s
      .next (if fail then bistFailed (s.setFlag (Reg.CA_CORE_CFG b.core) 0 false) b.core else s)
  | none => .next s

/-- BIST_SKIP (R525): the core was not ASKING within 1 ms of its slot. -/
def execBistSkip (s : State) : Out :=
  match s.out.core with
  | some b => if b.begun then .next s else .next ((bistStop s).raise blkOut 14)
  | none => .next s

/-- BIST_MEMORY_TEST_END (R526, R527): the contents are restored; what a failing memory still holds is free (log entry 1). -/
def execBistMemoryTestEnd (fail : Bool) (s : State) : Out :=
  match s.out.bist with
  | none => .next s
  | some u =>
    let s := bistRound (s.setOut { s.out with bist := none }) u
    if fail then
      let m := u - 256
      .next (bistFailed ((List.range 1024).foldl (fun s r => (setBmRow s m r (BitVec.ofNat 72 s.free)).took) s) u)
    else .next s

end Sys2Proof.Machine
end

