-- ==== Sys2Proof/Machine/Service.lean ====
section
/-! DEFINITION. The Saddle controllers, service pins and serial ports (R532…R553). -/

namespace Sys2Proof.Machine

/-- The initiator number of pair p (R532). -/
def pairInit (p : Nat) : Nat := 436 + p
/-- The pair an initiator is. -/
def initPair (init : Nat) : Option Nat := if init = 436 then some 0 else if init = 437 then some 1 else none

/-! Watchdogs (R537…R540). -/

/-- Firmware has been started in this BOOT (R481, R537). -/
def fwRuns (s : State) : Bool := s.pw.boot == 5 && !s.flag Reg.SEC_STAT 2 && s.life != 0
/-- A watchdog nears zero only while nobody kicks it: the boot ROM kicks watchdog A until it starts firmware (R537). -/
def wdtLeft (s : State) (p : Nat) : Bool := wdtRuns s p && (p == 1 || fwRuns s || !pairRuns s 0)

/-- A watchdog reloaded from its TIMEOUT (R538, R539). -/
def wdtReload (s : State) (p : Nat) : State :=
  let t := Nat.max 1000 (s.fld (Reg.WDT_CFG p) 23 0)
  let s := s.setFld (Reg.WDT_COUNT p) 23 0 t
  s.setSvc { s.svc with tmo := sput (fun _ => 2000000) s.svc.tmo p t, warn := s.svc.warn.filter (· ≠ p) }

/-- A write of WDT_KICK_x (R538). -/
def wdtKick (s : State) (p init v : Nat) : State :=
  if v = 0xA55A ∧ init = pairInit p then wdtReload s p else s.raise blkSvc 0

/-- WDT_KICK (R538). -/
def execWdtKick (x : Fin 2) (init : Fin 512) (value : BitVec 32) (s : State) : Out := .next (wdtKick s x init value.toNat)

/-- WDT_WARNING (R538): the count reaches floor(TIMEOUT / 4). -/
def execWdtWarning (x : Fin 2) (s : State) : Out :=
  let p := x.val
  if wdtLeft s p && !s.svc.warn.contains p then
    .next ((s.setFld (Reg.WDT_COUNT p) 23 0 (wdtTimeout s p / 4)).setSvc { s.svc with warn := s.svc.warn ++ [p] })
  else .next s

/-- WDT_EXPIRE (R538): watchdog A, B, or both in the same cycle, at zero; the device resets. -/
def execWdtExpire (x : Fin 3) (s : State) : Out :=
  let a := x.val != 1 && wdtLeft s 0
  let b := x.val != 0 && wdtLeft s 1
  if a then .next (systemReset s 3) else if b then .next (systemReset s 4) else .next s

/-! Unlock windows (R541, R570, R571). -/

/-- A write of SYS_UNLOCK. -/
def sysUnlock (s : State) (init v : Nat) : State :=
  match initPair init with
  | none => s
  | some p =>
    let now := s.tim.cks
    let w := s.svc.unlock.find? (fun e => e.1 == p && e.2.stage == 1 && pairCycles (now - e.2.since) ≤ 64)
    let rest := s.svc.unlock.filter (fun e => e.1 != p)
    s.setSvc { s.svc with unlock :=
      if v = 0x4B520001 then rest ++ [(p, { stage := 1, since := now })]
      else if v = 0x4B520002 ∧ w.isSome then rest ++ [(p, { stage := 2, since := now })]
      else rest }

/-- SYS_UNLOCK (R541). -/
def execSysUnlock (init : Fin 512) (value : BitVec 32) (s : State) : Out := .next (sysUnlock s init value.toNat)

/-- A write to a protected register: accepted, with the window consumed, or refused with UNLOCK_FAIL (R541, R571). -/
def unlocked (s : State) (init : Nat) : State × Bool :=
  match initPair init with
  | some p =>
    let ok := s.svc.unlock.any (fun e => e.1 == p && e.2.stage == 2 && pairCycles (s.tim.cks - e.2.since) ≤ 64)
    let t := s.setSvc { s.svc with unlock := s.svc.unlock.filter (fun e => !(e.1 == p && e.2.stage == 2)) }
    if ok then (t, true) else (t.raise blkSvc 1, false)
  | none => if init = debugInit ∧ s.debugLevel = 2 then (s, true) else (s.raise blkSvc 1, false)

/-- A write of WDT_CFG_x (R539, R541): EN cannot be cleared. -/
def wdtCfg (s : State) (p init v : Nat) : State :=
  let (s, ok) := unlocked s init
  if ok then s.setRegN (Reg.WDT_CFG p) (2 ^ 31 + Nat.max 1000 (v % 2 ^ 24)) else s

/-! Interrupts (R536). -/

/-- A write of SYS_SWI. -/
def sysSwi (s : State) (v : Nat) : State := s.setRegN Reg.SYS_SWI_STAT (Nat.lor (s.regN Reg.SYS_SWI_STAT) (v % 4))

/-- SYS_SWI (R536). -/
def execSysSwi (value : BitVec 32) (s : State) : Out := .next (sysSwi s value.toNat)

/-- IRQ_PEND as an initiator reads it (Table SVC-2). -/
def irqPend (s : State) (init : Nat) : Nat :=
  let own (p : Nat) : Nat := bit (s.flag Reg.SYS_SWI_STAT p) * 2 ^ 16 + bit (s.svc.warn.contains p) * 2 ^ 17
  ((List.range 15).map (fun b => bit (irqOf s b) * 2 ^ b)).sum + (match initPair init with | some p => own p | none => 0)

/-! Peripherals (R542…R544). Numbers are the bits of PERI_GATE. -/

/-- A peripheral is not gated. -/
def periOn (s : State) (k : Nat) : Bool := s.flag Reg.PERI_GATE k
/-- Its clock has stopped with its pair's (R544). -/
def periFrozen (s : State) (k : Nat) : Bool := pairHalted s (if [1, 4, 5].contains k then 1 else 0)
/-- It runs. -/
def periRuns (s : State) (k : Nat) : Bool := periOn s k && !periFrozen s k

/-- UART u. -/
def uartOf (s : State) (u : Nat) : Uart := sget (fun _ => {}) s.svc.uarts u
/-- The state with a UART replaced, its fills and level event brought up to date (R549). -/
def setUart (s : State) (u : Nat) (x : Uart) : State :=
  let was := s.flag (evtStatus blkPin) (3 * u)
  let s := s.setSvc { s.svc with uarts := sput (fun _ => {}) s.svc.uarts u x }
  let s := s.setRegN (Reg.UART_STAT u) (x.rx.length + x.tx.length * 2 ^ 8 + bit x.sh.isSome * 2 ^ 15)
  if x.rx.isEmpty then s.setFlag (evtStatus blkPin) (3 * u) false
  else s.raiseIf (!was) blkPin (3 * u)

/-- SPI1_STAT's fills brought up to date. -/
def spiStat (s : State) : State :=
  (s.setFld Reg.SPI1_STAT 7 1 s.svc.spiTx.length).setFld Reg.SPI1_STAT 14 8 s.svc.spiRx.length

/-- A peripheral gated: its transfer is abandoned and its FIFOs are emptied (R542). -/
def periGated (s : State) (k : Nat) : State :=
  match k with
  | 0 => setUart s 0 {}
  | 1 => setUart s 1 {}
  | 2 => spiStat ((s.setSvc { s.svc with spiTx := [], spiRx := [], spiCmd := none }).setFlag Reg.SPI1_STAT 0 false)
  | 3 => { s with fmp := { s.fmp with spi := [], spiRx := none } }
  | 4 => (s.setSvc { s.svc with i2c := sdrop 0 s.svc.i2c }).setFlag (Reg.I2C_STAT 0) 0 false
  | 5 => (s.setSvc { s.svc with i2c := sdrop 1 s.svc.i2c }).setFlag (Reg.I2C_STAT 1) 0 false
  | _ => s

/-- A port a hard user needs (R543). -/
def hardUse (s : State) (k : Nat) : Bool :=
  let temp (port : Bool) : Bool := s.flag Reg.HO_TSENS_CFG 16 && s.flag Reg.HO_TSENS_CFG 7 == port
  match k with
  | 3 => s.flag Reg.FMP_CTL 1
  | 4 => temp false
  | 5 => s.flag Reg.AVS_CFG 0 || temp true
  | _ => false

/-- A write of PERI_GATE (R541…R543). -/
def periGate (s : State) (init v : Nat) : State :=
  let (s, ok) := unlocked s init
  if !ok then s
  else
    let kept (k : Nat) : Bool := !v.testBit k && periOn s k && hardUse s k
    let off := (List.range 7).filter (fun k => !v.testBit k && periOn s k && !hardUse s k)
    let any := (List.range 7).any kept
    let s := s.setRegN Reg.PERI_GATE (((List.range 7).map (fun k => bit (v.testBit k || kept k) * 2 ^ k)).sum)
    (off.foldl periGated s).raiseIf any blkPin 12

/-- PERI_GATE_WRITE (R541…R543). -/
def execPeriGateWrite (init : Fin 512) (value : BitVec 32) (s : State) : Out := .next (periGate s init value.toNat)

/-! Pins (R545…R548). -/

/-- FUNC of a pin. -/
def pinFunc (s : State) (n : Nat) : Nat := s.fld (Reg.PIN_CFG n) 3 0
/-- SIG of a pin. -/
def pinSig (s : State) (n : Nat) : Nat := s.fld (Reg.PIN_CFG n) 7 4
/-- A pin is connected to a signal, and not in its break. -/
def pinIs (s : State) (n f g : Nat) : Bool := pinFunc s n == f && pinSig s n == g && !s.svc.broken.contains n
/-- The pins a peripheral input is selected on. -/
def inPins (s : State) (f g : Nat) : List Nat := (List.range 48).filter (fun n => pinIs s n f g)

/-- EXTEST drives the boundary's outputs (R557, R558). -/
def boundLevel (s : State) (n : Nat) : Option Bool :=
  if extestOn s then (s.dbg.bound.find? (fun e => e.1 == n)).map (·.2) else none

/-- What a pin's function puts on it (Table SVC-4): nothing, a level, or a level the spec does not give at this instant (a serial
line in a transfer, RTS_N without FLOW, MOSI at rest). -/
def pinOut (s : State) (n : Nat) : Option (Option Bool) :=
  let g := pinSig s n
  if s.svc.broken.contains n || !s.rcoOk then none
  else
    match pinFunc s n with
    | 0 => if s.flag (Reg.PIN_CFG n) 8 && periOn s 6 then some (some (s.flag (if n < 32 then Reg.GPIO_DOUT_LO else Reg.GPIO_DOUT_HI) (n % 32))) else none
    | 1 | 2 =>
      let u := pinFunc s n - 1
      if g = 0 then some (if (uartOf s u).sh.isSome then none else some true)
      else if g = 2 then
        some (if !periOn s u then some true
          else if s.flag (Reg.UART_CFG u) 24 then some (decide (56 < (uartOf s u).rx.length)) else none)
      else none
    | 3 =>
      if g = 0 then some (if s.svc.spiCmd.isSome then none else some (s.flag Reg.SPI1_CFG 9))
      else if g = 1 then some none
      else if 3 ≤ g ∧ g ≤ 6 then
        some (match s.svc.spiCmd with
          | some c => some (bitsOf c 9 8 != g - 3)
          | none => some (!s.svc.spiHold.contains (g - 3)))
      else none
    | 7 => if g < 8 then some (some (sget (fun _ => {}) s.tim.outs g).pad) else none
    | 8 =>
      if n = 46 then some (some (s.lpp.pps != s.lpp.ctl.getLsbD 1))
      else if n = 47 then some (some (s.lpp.frm != s.lpp.ctl.getLsbD 1)) else none
    | _ => none

/-- The level of a pin that nothing in the device drives: the board's, else its pull's; a floating pin's is free. -/
def pinRest (s : State) (n : Nat) : State × Bool :=
  match s.svc.inputs.find? (fun e => e.1 == n) with
  | some e => (s, e.2)
  | none =>
    match s.fld (Reg.PIN_CFG n) 11 10 with
    | 0 => (s.took, s.free % 2 == 1)
    | 1 => (s, false)
    | _ => (s, true)

/-- The pad level of a pin. An open-drain output drives only low. -/
def pinLevel (s : State) (n : Nat) : State × Bool :=
  match boundLevel s n with
  | some b => (s, b)
  | none =>
    let (t, v) := match pinOut s n with
      | none => (s, none)
      | some (some b) => (s, some b)
      | some none => (s.took, some (s.free % 2 == 1))
    match v with
    | some b => if b && s.flag (Reg.PIN_CFG n) 9 then pinRest t n else (t, b)
    | none => pinRest t n

/-- The pad levels of n pins from one on, as a word (R547). -/
def pinWord (s : State) (n k : Nat) : State × Nat :=
  (List.range k).foldl (fun (r : State × Nat) i => let (t, b) := pinLevel r.1 (n + i); (t, r.2 + bit b * 2 ^ i)) (s, 0)

/-! UARTs (R549). -/

/-- CTS_N of a UART reads low; two pins on one input leave it open (R546). -/
def uartCts (s : State) (u : Nat) : State × Bool :=
  match inPins s (u + 1) 3 with
  | [] => (s, false)
  | [n] => let (t, b) := pinLevel s n; (t, !b)
  | _ => (s.took, s.free % 2 == 1)

/-- The next byte starts when the wire is free and flow control lets it. -/
def uartGo (s : State) (u : Nat) : State :=
  let x := uartOf s u
  match x.sh, x.tx with
  | none, b :: r =>
    if !periRuns s u then s
    else
      let (s, ok) := if s.flag (Reg.UART_CFG u) 24 then uartCts s u else (s, true)
      if ok then setUart s u { x with sh := some b, tx := r } else s
  | _, _ => s

/-- A drop or an error of a UART. -/
def uartErr (s : State) (u : Nat) : State := (s.count (Reg.UART_ERR_CNT u)).raise blkPin (3 * u + 2)

/-- A write of UART_DATA. -/
def uartPush (s : State) (u v : Nat) : State :=
  let x := uartOf s u
  if !periOn s u then s
  else if 64 ≤ x.tx.length then uartErr s u
  else uartGo (setUart s u { x with tx := x.tx ++ [BitVec.ofNat 8 v] }) u

/-- UART_TX_PUSH (R549). -/
def execUartTxPush (u : Fin 2) (value : BitVec 32) (s : State) : Out := .next (uartPush s u value.toNat)

/-- What UART_DATA reads: the oldest word with VALID, zero when empty; a normal read pops it (R549, R562). -/
def uartRead (s : State) (u init : Nat) : State × Nat :=
  let x := uartOf s u
  match x.rx with
  | [] => (s, 0)
  | w :: r => if !periOn s u then (s, 0) else (if init = debugInit then s else setUart s u { x with rx := r }, w + 2 ^ 31)

/-- UART_RX_POP (R549): a read of UART_DATA. -/
def execUartRxPop (u : Fin 2) (init : Fin 512) (s : State) : Out :=
  let (s, w) := uartRead s u init
  .next (s.answer init 0 [w])

/-- UART_RX_BYTE (R549): a frame on the pad that feeds RXD; no pin feeding it, it stays idle. -/
def execUartRxByte (u : Fin 2) (byte : BitVec 8) (perr ferr : Bool) (s : State) : Out :=
  let x := uartOf s u
  if !periRuns s u || (inPins s (u + 1) 1).isEmpty then .next s
  else
    let w := byte.toNat % (if s.flag (Reg.UART_CFG u) 20 then 128 else 256) + bit perr * 2 ^ 8 + bit ferr * 2 ^ 9
    let s := if perr then uartErr s u else s
    let s := if ferr then uartErr s u else s
    .next (if 64 ≤ x.rx.length then uartErr s u else setUart s u { x with rx := x.rx ++ [w] })

/-- UART_TX_BYTE (R549): the last stop bit of a byte has been sent; it is told to the wire (log entry 9), and the next byte starts. -/
def execUartTxByte (u : Fin 2) (s : State) : Out :=
  let x := uartOf s u
  match x.sh with
  | none => .next s
  | some b =>
    if !periRuns s u then .next s
    else
      let s := (setUart s u { x with sh := none }).answer (8192 + u) 0 [b.toNat]
      .next (uartGo (s.raiseIf x.tx.isEmpty blkPin (3 * u + 1)) u)

/-! GPIO and pin functions. -/

/-- Transmitters that waited for CTS_N look again. -/
def uartsGo (s : State) : State := uartGo (uartGo s 0) 1

/-- A write of PIN_CFG_n (R548): a change of FUNC or SIG begins a break. -/
def pinCfg (s : State) (n v : Nat) : State :=
  let new := v % 2 ^ 14
  let moved := bitsOf new 7 0 != s.fld (Reg.PIN_CFG n) 7 0
  let s := s.setRegN (Reg.PIN_CFG n) new
  uartsGo (if moved then s.setSvc { s.svc with broken := s.svc.broken.filter (· ≠ n) ++ [n] } else s)

/-- PIN_CFG_WRITE (R548). -/
def execPinCfgWrite (n : Fin 48) (value : BitVec 32) (s : State) : Out := .next (pinCfg s n value.toNat)

/-- PIN_SWITCH_MAKE (R548): at E + 2 cycles the new output and input are connected. -/
def execPinSwitchMake (n : Fin 48) (s : State) : Out :=
  .next (uartsGo (s.setSvc { s.svc with broken := s.svc.broken.filter (· ≠ n.val) }))

/-- A write of GPIO_DOUT_LO or HI (R547): every bit is stored. -/
def gpioDout (s : State) (hi : Bool) (v : Nat) : State :=
  if !periOn s 6 then s
  else s.setRegN (if hi then Reg.GPIO_DOUT_HI else Reg.GPIO_DOUT_LO) (if hi then v % 2 ^ 16 else v)

/-- GPIO_DOUT_WRITE (R547). -/
def execGpioDoutWrite (hi : Bool) (value : BitVec 32) (s : State) : Out := .next (gpioDout s hi value.toNat)

/-- GPIO_EDGE (R553): the board moves a pin to a level; an enabled edge sets its bit. -/
def execGpioEdge (n : Fin 48) (level : Bool) (s : State) : Out :=
  let k := n.val
  let s := s.setSvc { s.svc with inputs := sinsert k level (sdrop k s.svc.inputs) }
  let s := uartsGo s
  if periRuns s 6 && s.flag (Reg.PIN_CFG k) (if level then 12 else 13) then
    .next ((s.setFlag (if k < 32 then Reg.GPIO_EDGE_LO else Reg.GPIO_EDGE_HI) (k % 32) true).raise blkPin 11)
  else .next s

/-! SPI_1 (R550). -/

/-- A write of SPI1_CMD. -/
def spi1Cmd (s : State) (v : Nat) : State :=
  if !periOn s 2 then s
  else if s.svc.spiCmd.isSome then s.setFlag Reg.SPI1_STAT 15 true
  else ((s.setSvc { s.svc with spiCmd := some (v % 2 ^ 11) }).setFlag Reg.SPI1_STAT 0 true).setFlag Reg.SPI1_STAT 15 false

/-- SPI1_CMD (R550). -/
def execSpi1Cmd (value : BitVec 32) (s : State) : Out := .next (spi1Cmd s value.toNat)

/-- SPI1_DONE (R550): LEN bytes have been clocked; what was sent is told to the wire, what came in on MISO is pushed. A MISO that no
pin feeds is low. Each FIFO holds 64 bytes (log entry 17). -/
def execSpi1Done (miso : List Byte) (s : State) : Out :=
  match s.svc.spiCmd with
  | none => .next s
  | some c =>
    if !periRuns s 2 then .next s
    else
      let n := bitsOf c 5 0 + 1
      let cs := bitsOf c 9 8
      let tx := padTo n s.svc.spiTx
      let rx := if (inPins s 3 2).isEmpty then List.replicate n 0 else padTo n miso
      let hold := s.svc.spiHold.filter (· ≠ cs) ++ (if c.testBit 10 then [cs] else [])
      let s := s.setSvc { s.svc with
        spiCmd := none, spiTx := s.svc.spiTx.drop n, spiRx := (s.svc.spiRx ++ rx).take 64, spiHold := hold }
      .next ((((spiStat s).setFlag Reg.SPI1_STAT 0 false).raise blkPin 6).answer 8194 cs (tx.map (·.toNat)))

/-- A write of SPI1_DATA; a full FIFO drops it. -/
def spi1Push (s : State) (v : Nat) : State :=
  if !periOn s 2 || 64 ≤ s.svc.spiTx.length then s
  else spiStat (s.setSvc { s.svc with spiTx := s.svc.spiTx ++ [BitVec.ofNat 8 v] })

/-- What SPI1_DATA reads; a normal read pops it. What an empty FIFO gives a normal read is free (log entry 1). -/
def spi1Read (s : State) (init : Nat) : State × Nat :=
  if !periOn s 2 then (s, 0)
  else match s.svc.spiRx with
    | [] => if init = debugInit then (s, 0) else (s.took, s.free % 2 ^ 32)
    | b :: r => (if init = debugInit then s else spiStat (s.setSvc { s.svc with spiRx := r }), b.toNat)

/-- SPI1_DATA_ACCESS (R550). -/
def execSpi1DataAccess (init : Fin 512) (wr : Bool) (value : BitVec 32) (s : State) : Out :=
  if wr then .next (spi1Push s value.toNat)
  else
    let (s, w) := spi1Read s init
    .next (s.answer init 0 [w])

/-! I²C ports (R551). -/

/-- A transaction ends with a result (R551). -/
def i2cEnd (s : State) (i r : Nat) : State :=
  let s := (s.setFld (Reg.I2C_STAT i) 3 1 r).raise blkPin (7 + 2 * i)
  if r = 0 then s else (s.count (Reg.I2C_ERR_CNT i)).raise blkPin (8 + 2 * i)

/-- A write of I2C_CMD_i. A length above 32 acts as 32 (log entry 17). -/
def i2cCmd (s : State) (i v : Nat) : State :=
  if !periOn s (4 + i) then s
  else if s.flag (Reg.I2C_STAT i) 0 then i2cEnd s i 6
  else if i = 1 ∧ s.flag Reg.AVS_CFG 0 ∧ s.flag Reg.AVS_CFG 1 then i2cEnd s i 5
  else (s.setSvc { s.svc with i2c := sinsert i v (sdrop i s.svc.i2c) }).setFlag (Reg.I2C_STAT i) 0 true

/-- I2C_CMD (R551). -/
def execI2cCmd (i : Fin 2) (value : BitVec 32) (s : State) : Out := .next (i2cCmd s i value.toNat)

/-- I2C_DONE (R551): OK, NACK, ARB, TIMEOUT or, on I2C_1 with PEC set, PEC, with the bytes read. -/
def execI2cDone (i : Fin 2) (result : Fin 5) (data : List Byte) (s : State) : Out :=
  match s.svc.i2c.find? (fun e => e.1 == i.val) with
  | none => .next s
  | some (_, c) =>
    if !periRuns s (4 + i) || (result.val == 4 && !(i.val == 1 && s.flag (Reg.I2C_CFG 1) 2)) then .next s
    else
      let n := Nat.min (Nat.min (bitsOf c 21 16) 32) data.length
      let s := (data.take n).zipIdx.foldl (fun s e => s.setFld (Reg.I2C_RBUF i (e.2 / 4)) (8 * (e.2 % 4) + 7) (8 * (e.2 % 4)) e.1.toNat) s
      let s := (s.setSvc { s.svc with i2c := sdrop i.val s.svc.i2c }).setFlag (Reg.I2C_STAT i) 0 false
      .next (i2cEnd s i result)

/-! Flash (R534, R535). -/

/-- A write of FLASH_CMD. -/
def flashCmd (s : State) (init v : Nat) : State :=
  let a := s.fld Reg.FLASH_ADDR 23 0
  let e := v.testBit 0
  let p := v.testBit 1
  if !e && !p then s
  else if (initPair init).isNone || s.svc.flash.isSome || (e && p) || (0xF00000 ≤ a && a < 0xF40000) then
    (s.setFlag Reg.FLASH_STAT 1 true).raise blkSvc 7
  else
    let page := (List.range 64).flatMap (fun i => leBytes 4 (s.regN (Reg.FLASH_BUF i)))
    let c : FlashCmd := if e then { erase := true, ofs := a / 65536 * 65536, page := [] } else { erase := false, ofs := a / 256 * 256, page }
    (s.setSvc { s.svc with flash := some c }).setRegN Reg.FLASH_STAT 1

/-- FLASH_ERASE (R535): a write of FLASH_CMD. -/
def execFlashErase (init : Fin 512) (value : BitVec 32) (s : State) : Out := .next (flashCmd s init value.toNat)
/-- FLASH_PROGRAM (R535): a write of FLASH_CMD. -/
def execFlashProgram (init : Fin 512) (value : BitVec 32) (s : State) : Out := .next (flashCmd s init value.toNat)

/-- Free bytes stored from an address on. -/
def scramble (s : State) (a n : Nat) : State :=
  (List.range n).foldl (fun s i => (s.setByte (a + i) (BitVec.ofNat 8 s.free)).took) s

/-- What a command leaves of the persistent store and of the kept hours, whose layouts in flash are the device's own: an erase
takes them, a program may (log entry 18). -/
def flashKept (s : State) (c : FlashCmd) : State :=
  let (s, gone) := if c.erase then (s, true) else (s.took, s.free % 2 == 1)
  if !gone then s
  else if 0xF80000 ≤ c.ofs then
    let i := (c.ofs - 0xF80000) / 65536
    let x := sget (fun _ => {}) s.fmp.sects i
    { s with fmp := { s.fmp with
        sects := sput (fun _ => {}) s.fmp.sects i { x with image := none, count := if c.erase then none else x.count } } }
  else if 0xF40000 ≤ c.ofs then s.setPw { s.pw with hist := [], hours := 0 }
  else s

/-- FLASH_DONE (R535): the command completes and is verified; what it leaves after a failed verify is free. -/
def execFlashDone (bad : Bool) (s : State) : Out :=
  match s.svc.flash with
  | none => .next s
  | some c =>
    let a := flashBase + c.ofs
    let n := if c.erase then 65536 else 256
    let s := s.setSvc { s.svc with flash := none }
    let s := if bad then scramble s a n else s.store a (if c.erase then List.replicate n 0xFF else c.page)
    .next ((flashKept (s.setRegN Reg.FLASH_STAT (4 * bit bad)) c).raise blkSvc 6)

end Sys2Proof.Machine
end

