-- ==== Sys2Proof/Machine/Debug.lean ====
section
/-! DEFINITION. The debug block but for its bus accesses and debug module (R555…R559, R566…R573): Canter halts, delay-list
snapshots, mailboxes, the TAP. -/

namespace Sys2Proof.Machine

/-- The number under which a TAP instruction's captured data is answered (log entry 9). -/
def tapPin : Nat := 8200
/-- A TAP instruction selected. -/
def setIr (s : State) (v : Nat) : State := s.setDbg { s.dbg with ir := v }

/-! Canter cores (R566, R567). -/

/-- A write of DBG_CAN_HALT. -/
def canHalt (s : State) (init v : Nat) : State :=
  let c := v % 256
  let st := (s.core c).st
  if init ≠ debugInit then s
  else if !teamOn s (teamOf c) || s.flag Reg.CA_STAT 8 || st == cBist || st == cHalted || st == cOff then s.raise blkDbg 3
  else haltCore s c

/-- DBG_CAN_HALT (R566). -/
def execDbgCanHalt (init : Fin 512) (value : BitVec 32) (s : State) : Out := .next (canHalt s init value.toNat)

/-- A write of DBG_CAN_RESUME. -/
def canResume (s : State) (init v : Nat) : State := if init = debugInit then resumeCore s (v % 256) else s

/-- DBG_CAN_RESUME (R567). -/
def execDbgCanResume (init : Fin 512) (value : BitVec 32) (s : State) : Out := .next (canResume s init value.toNat)

/-- The selected core and bank of DBG_CAN_REG. -/
def canSel (s : State) : Nat × Bool := (s.fld Reg.DBG_CAN_SEL 7 0, s.flag Reg.DBG_CAN_SEL 8)
/-- The 512 bytes of the selected bank (Table CAN-11). -/
def canBank (s : State) : List Byte :=
  let (c, b) := canSel s
  let k := s.core c
  if b then bankBytes k.bank1 0 else bankBytes k.bank0 (saveFlags k)
/-- DBG_CAN_REG_w: it acts only while the core is HALTED. -/
def canReg (s : State) (w : Nat) : Nat :=
  if (s.core (canSel s).1).st = cHalted then fieldLe (canBank s) (4 * w) 4 else 0
/-- A write of DBG_CAN_REG_w. -/
def canRegSet (s : State) (w v : Nat) : State :=
  let (c, b) := canSel s
  let k := s.core c
  if k.st ≠ cHalted then s
  else
    let l := canBank s
    let l := l.take (4 * w) ++ leBytes 4 v ++ l.drop (4 * w + 4)
    s.setCore c (if b then { k with bank1 := bankFrom l k.bank1 } else { k with bank0 := bankFrom l k.bank0 })

/-! Delay-list snapshots (R569). -/

/-- A delay-list entry (Table PAC-4). -/
def listEntry (o : Op) : BitVec 128 :=
  BitVec.ofNat 128 (o.start + o.due * 2 ^ 32 + o.slot * 2 ^ 64 + o.group * 2 ^ 84 + o.cls * 2 ^ 88 + o.flow * 2 ^ 90
    + bit o.ordered * 2 ^ 100 + bit o.safety * 2 ^ 101 + (if o.ordered then o.seq else 0) * 2 ^ 102 + o.graph * 2 ^ 118 + 2 ^ 127)

/-- A delay list in its order (R108). -/
def listOps (s : State) (l : Nat) : List Op :=
  sortBy (fun a b => !ptLater a.start b.start) (s.pac.ops.filter (fun o => o.list == l))

/-- A write of DBG_PAC_SNAP. -/
def pacSnap (s : State) (init v : Nat) : State :=
  if init ≠ debugInit then s
  else if v.testBit 8 ∧ s.pac.snapReq.isNone then
    ((s.setFld Reg.DBG_PAC_SNAP 2 0 v).setFlag Reg.DBG_PAC_SNAP 8 true).setPac { s.pac with snapReq := some (v % 8) }
  else if s.pac.snapReq.isNone then s.setFld Reg.DBG_PAC_SNAP 2 0 v
  else s

/-- DBG_PAC_SNAP (R569). -/
def execDbgPacSnap (init : Fin 512) (value : BitVec 32) (s : State) : Out := .next (pacSnap s init value.toNat)

/-- PAC_SNAPSHOT (R569): the tick boundary after the request. -/
def execPacSnapshot (s : State) : Out :=
  match s.pac.snapReq with
  | none => .next s
  | some l =>
    let es := (listOps s l).zipIdx.map (fun e => (e.2, listEntry e.1))
    let s := s.setPac { s.pac with snapReq := none, snap := es }
    let s := ((s.setFlag Reg.DBG_PAC_SNAP 8 false).setFlag Reg.DBG_PAC_SNAP 16 true).setRegN Reg.DBG_PAC_SNAP_PT s.pt
    .next (s.raise blkDbg 4)

/-! Mailboxes (R572). -/

/-- DBG_MBOX_STAT brought up to date. -/
def mboxStat (s : State) : State := s.setRegN Reg.DBG_MBOX_STAT (s.dbg.h2d.length + s.dbg.d2h.length * 2 ^ 8)

/-- A write of DBG_MBOX_H2D. -/
def h2dPush (s : State) (init v : Nat) : State :=
  if init ≠ debugInit then s
  else if 16 ≤ s.dbg.h2d.length then s.raise blkDbg 6
  else (mboxStat (s.setDbg { s.dbg with h2d := s.dbg.h2d ++ [BitVec.ofNat 32 v] })).raise blkDbg 5

/-- MBOX_H2D_PUSH (R572). -/
def execMboxH2dPush (init : Fin 512) (value : BitVec 32) (s : State) : Out := .next (h2dPush s init value.toNat)

/-- A read of DBG_MBOX_H2D: a pair's pops. -/
def h2dRead (s : State) (init : Nat) : State × Nat :=
  match s.dbg.h2d with
  | [] => (s, 0)
  | w :: r => (if (initPair init).isSome then mboxStat (s.setDbg { s.dbg with h2d := r }) else s, w.toNat)

/-- MBOX_H2D_POP (R572). -/
def execMboxH2dPop (init : Fin 512) (s : State) : Out :=
  let (s, w) := h2dRead s init
  .next (s.answer init 0 [w])

/-- A write of DBG_MBOX_D2H: a pair pushes, the debugger's 1 pops. -/
def d2hWrite (s : State) (init v : Nat) : State :=
  if (initPair init).isSome then
    if 16 ≤ s.dbg.d2h.length then s.raise blkDbg 6
    else mboxStat (s.setDbg { s.dbg with d2h := s.dbg.d2h ++ [BitVec.ofNat 32 v] })
  else if init = debugInit ∧ v = 1 then mboxStat (s.setDbg { s.dbg with d2h := s.dbg.d2h.drop 1 })
  else s

/-- MBOX_D2H_PUSH (R572). -/
def execMboxD2hPush (init : Fin 512) (value : BitVec 32) (s : State) : Out := .next (d2hWrite s init value.toNat)
/-- MBOX_D2H_POP (R572): a write of 1 by the debugger. -/
def execMboxD2hPop (init : Fin 512) (value : BitVec 32) (s : State) : Out := .next (d2hWrite s init value.toNat)

/-! The TAP (R555, R557…R559). -/

/-- DBG_STAT as it reads (Table DBG-3). -/
def dbgStat (s : State) : Nat :=
  s.debugLevel + 4 * bit (s.flag Reg.SEC_STAT 3) + 8 * bit (pairHalted s 0) + 16 * bit (pairHalted s 1) + 32 * bit (extestOn s)
    + 64 * bit s.sec.erase.isSome

/-- An instruction selected acts as BYPASS. -/
def tapBypass (s : State) (ir : Nat) : State := (setIr s ir).answer tapPin 0 [0]

/-- IDCODE (R557). -/
def execIdcode (s : State) : Out := .next ((setIr s 1).answer tapPin 0 [idcode])

/-- SAMPLE_PRELOAD (R557): the boundary cells of service pins GP_0…GP_47 captured, the given cells preloaded. Where the other cells
stand in the register is the device's own (log entry 19). -/
def execSamplePreload (preload : List (BitVec 12 × Bool)) (s : State) : Out :=
  if s.debugLevel = 0 then .next (tapBypass s 2)
  else
    let (t, w) := pinWord s 0 48
    let t := setIr t 2
    .next ((t.setDbg { t.dbg with
      bound := preload.foldl (fun m e => sinsert e.1.toNat e.2 (sdrop e.1.toNat m)) t.dbg.bound }).answer tapPin 0 [w % 2 ^ 32, w / 2 ^ 32])

/-- EXTEST (R557, R558): in BLANK at FULL the preloaded image drives the pins; elsewhere it acts as BYPASS. -/
def execExtest (s : State) : Out :=
  if s.debugLevel = 2 ∧ s.mode = mBlank then
    let (t, w) := pinWord s 0 48
    .next ((setIr t 3).answer tapPin 0 [w % 2 ^ 32, w / 2 ^ 32])
  else .next (tapBypass s 0xFF)

/-- BYPASS (R557). -/
def execBypass (s : State) : Out := .next (tapBypass s 0xFF)

/-- TAP_RESET (R555): Test-Logic-Reset selects IDCODE; the debug module, the grant and halts are untouched. -/
def execTapReset (s : State) : Out := .next (setIr s 1)

/-- UNLOCK_REQUEST (R559): a scan of DBG_AUTH. -/
def execUnlockRequest (value : BitVec 32) (s : State) : Out :=
  let w := s.debugLevel + 4 * bit (s.flag Reg.SEC_STAT 3) + 8 * bit s.sec.erase.isSome + 16 * s.life
  let s := (setIr s 0x20).answer tapPin 0 [w]
  if value.getLsbD 3 && s.flag Reg.SEC_STAT 3 && (s.life == 2 || s.life == 3) && s.sec.erase.isNone then .next (eraseAsk s 0)
  else .next s

/-! Run control (R560, R564, R565). -/

/-- The place among the debug module's registers of the harts' resumeack bits. -/
def dmResumeAck : Nat := 128
/-- A bit of such a place. -/
def dmBit (s : State) (a p : Nat) : Bool := (sget (fun _ => 0) s.dbg.dm a).getLsbD p
/-- The state with it replaced. -/
def setDmBit (s : State) (a p : Nat) (b : Bool) : State :=
  let v := (sget (fun _ => (0 : BitVec 32)) s.dbg.dm a).toNat
  s.setDbg { s.dbg with dm := sinsert a (BitVec.ofNat 32 (putBits v p p (bit b))) (sdrop a s.dbg.dm) }

/-- haltreq for a pair: at FULL only. -/
def haltReq (s : State) (p : Nat) : State := if s.debugLevel = 2 then haltPair s p else s

/-- HALTREQ (R565). -/
def execHaltreq (pair : Fin 2) (s : State) : Out := .next (haltReq s pair)

/-- dcsr.step of a halted pair. -/
def dcsrStep (s : State) (p : Nat) : Bool := (sget (fun _ => (0 : BitVec 64)) s.dbg.gprs (65536 * p + dcsrNo)).getLsbD 2

/-- resumereq for a pair: at FULL only. A single step runs one instruction and halts again; the cycles it takes of an unlock window
are free (R570, log entry 1). -/
def resumeReq (s : State) (p : Nat) : State :=
  if s.debugLevel ≠ 2 ∨ !pairHalted s p then s
  else
    let step := dcsrStep s p
    let s := setDmBit (resumePair s p) dmResumeAck p true
    if step then
      let n := s.free % 64 + 1
      let s := haltPair s.took p
      s.setSvc { s.svc with unlock := s.svc.unlock.map (fun e => if e.1 = p then (p, { e.2 with spent := e.2.spent.map (· + n) }) else e) }
    else s

/-- RESUMEREQ (R565). -/
def execResumereq (pair : Fin 2) (s : State) : Out := .next (resumeReq s pair)

end Sys2Proof.Machine
end

