-- ==== Sys2Proof/Machine/Lanes.lean ====
section
/-! DEFINITION. Lane groups, equalisers, JESD204C links and lane engines (R358…R361, R373…R379, R387…R390). -/

namespace Sys2Proof.Machine

/-! Lanes: LRL_l is lane l, CVL_l lane 64 + l. -/

/-- CTL of a lane. -/
def laneCtl (l : Nat) : Nat := if l < 64 then Reg.LR_CTL l else Reg.CV_CTL (l - 64)
/-- STAT of a lane. -/
def laneStat (l : Nat) : Nat := if l < 64 then Reg.LR_STAT l else Reg.CV_STAT (l - 64)
/-- EQ_SEL of a lane. -/
def laneSel (l : Nat) : Nat := if l < 64 then Reg.LR_EQ_SEL l else Reg.CV_EQ_SEL (l - 64)
/-- TEST of a lane. -/
def laneTest (l : Nat) : Nat := if l < 64 then Reg.LR_TEST l else Reg.CV_TEST (l - 64)
/-- PRBS_ERR of a lane. -/
def lanePrbs (l : Nat) : Nat := if l < 64 then Reg.LR_PRBS_ERR l else Reg.CV_PRBS_ERR (l - 64)

/-- Converter quad q is enabled. -/
def quadOn (s : State) (q : Nat) : Bool := s.flag (Reg.CV_QUAD_CFG q) 0
/-- Tether is enabled on quad q. -/
def tethOn (s : State) (q : Nat) : Bool := s.flag Reg.TETH_CFG 0 && s.fld Reg.TETH_CFG 4 1 == q
/-- A JESD204C direction of link q is enabled. -/
def jlOn (s : State) (q : Nat) : Bool := s.flag (Reg.JL_TX_CFG q) 0 || s.flag (Reg.JL_RX_CFG q) 0

/-- The protocol code a lane carries (R358, Table LNE-1, Table LNE-11). -/
def laneProto (s : State) (l : Nat) : Nat :=
  if l < 16 then (if s.flag Reg.CXL_CTL 0 then 3 else 0)
  else if l < 32 then (if s.flag (Reg.LR_OCT_CFG 2) 0 && s.flag (Reg.LR_OCT_CFG 3) 0 then 2 else 0)
  else if l < 64 then
    let k := (l - 32) / 8
    let o := l % 8
    if (macOn s k && decide (o < modeLanes (s.fld (Reg.ETH_CFG k) 4 1)))
      || (macOn s (k + 4) && decide (4 ≤ o) && decide (o < 4 + modeLanes (s.fld (Reg.ETH_CFG (k + 4)) 4 1))) then 1 else 0
  else
    let q := (l - 64) / 4
    if tethOn s q then 5 else if jlOn s q then 4 else 0

/-- A lane's STAT as it reads: its own bits, frozen, and the protocol. -/
def laneStatView (s : State) (l : Nat) : Nat :=
  s.fld (laneStat l) 2 0 + 8 * bit (s.flag (laneCtl l) 2) + 16 * laneProto s l

/-- The number of equaliser values of a lane (R361, Table LNE-11). -/
def eqCount (l : Nat) : Nat := if l < 64 then 21 else 6
/-- An equaliser value. -/
def eqVal (s : State) (l i : Nat) : BitVec 16 := sget (fun _ => 0) s.lane.eq (32 * l + i)
/-- The state with one replaced. -/
def setEq (s : State) (l i : Nat) (v : BitVec 16) : State :=
  s.setLane { s.lane with eq := sput (fun _ => 0) s.lane.eq (32 * l + i) v }

/-- A write of EQ_VAL (R361): it acts only with FREEZE = 1. -/
def eqWrite (s : State) (l v : Nat) : State :=
  let i := s.fld (laneSel l) 4 0
  if s.flag (laneCtl l) 2 ∧ i < eqCount l then setEq s l i (BitVec.ofNat 16 v) else s

/-- LANE_SIGNAL_DETECT (R361): adaptation begins, from held values. -/
def execLaneSignalDetect (lane : Fin 128) (s : State) : Out :=
  .next (s.setFld (laneStat lane) 2 0 (3 + 4 * bit (!s.flag (laneCtl lane) 2)))

/-- LANE_LOS (R361, Table LNE-12): the values are held. -/
def execLaneLos (lane : Fin 128) (s : State) : Out :=
  let s := s.raiseIf (s.flag (laneStat lane) 1) blkLane 1
  .next ((s.setFld (laneStat lane) 2 0 0).raise blkLane 0)

/-- EQ_ADAPT_STEP (R361): each value moves to what the adaptation gives, which the spec leaves to it (log entry 11). -/
def execEqAdaptStep (lane : Fin 128) (s : State) : Out :=
  let l := lane.val
  if s.flag (laneStat l) 0 && !s.flag (laneCtl l) 2 && !laneHold s then
    .next ((List.range (eqCount l)).foldl (fun s i => setEq s.took l i (BitVec.ofNat 16 s.free)) (s.setFlag (laneStat l) 2 true))
  else .next s

/-- PRBS_ERROR (R388): a bit error while the lane checks a pattern. -/
def execPrbsError (lane : Fin 128) (s : State) : Out :=
  let t := laneTest lane
  let p := s.fld t 4 2
  if s.flag t 5 ∧ 1 ≤ p ∧ p ≤ (if lane.val < 64 then 4 else 3) then .next ((s.count (lanePrbs lane)).raise blkLane 18) else .next s

/-- PLL_UNLOCK (R390): LR octet 0…7, or CV quad 8…23. -/
def execPllUnlock (group : Fin 24) (s : State) : Out :=
  let a := if group.val < 8 then Reg.LR_OCT_STAT group else Reg.CV_QUAD_STAT (group - 8)
  if s.flag a 0 then .next ((s.setFlag a 0 false).raise blkLane 2) else .next s

/-! Lane groups' settings (R358, R359). -/

/-- A write of LR_OCT_CFG: EN for octets 2 and 3, REF for 4…7 while no MAC of the octet is enabled. -/
def octWrite (s : State) (o v : Nat) : State :=
  let a := Reg.LR_OCT_CFG o
  if o = 2 ∨ o = 3 then
    (s.setFlag a 0 (v.testBit 0)).setFld (Reg.LR_OCT_STAT o) 1 0 (if v.testBit 0 then 3 else 0)
  else if 4 ≤ o then
    (if macOn s (o - 4) || macOn s o then s else s.setFlag a 1 (v.testBit 1))
  else s

/-- A quad's lane rate in Hz lies in 1…32.5 Gb/s (R359): rate = num/den. -/
def rateOk (num den : Nat) : Bool := decide (den ≠ 0) && decide (10 ^ 9 * den ≤ num) && decide (10 * num ≤ 325 * 10 ^ 9 * den)

/-- The rate a quad's settings give is in range. -/
def quadRateOk (s : State) (q v : Nat) : Bool :=
  if v.testBit 1 then
    let m := bitsOf v 16 8
    decide (16 ≤ m) && decide (m ≤ 320) && rateOk (Config.cvRefHz (q / 4) * m) 1
  else
    let n := bitsOf v 6 2
    decide (5 ≤ n) && decide (n < 24) && rateOk (66 * 1966080000 * s.fld (Reg.FSYN_NUM n) 15 0) (s.fld (Reg.FSYN_DEN n) 19 0)

/-- A JESD204C link's two registers cleared of EN when its quad goes. -/
def jlStop (s : State) (q : Nat) : State :=
  ((s.setFlag (Reg.JL_TX_CFG q) 0 false).setFlag (Reg.JL_RX_CFG q) 0 false).setRegN (Reg.JL_STAT q) 0

/-- A write of CV_QUAD_CFG (R359). -/
def quadWrite (s : State) (q v : Nat) : State :=
  let a := Reg.CV_QUAD_CFG q
  let st := Reg.CV_QUAD_STAT q
  if quadOn s q then
    if v.testBit 0 then s else (jlStop s q).setFlag a 0 false |>.setFlag st 0 false
  else
    let ok := quadRateOk s q v
    let s := s.setRegN a (Nat.land v 0x1FF7E)
    if v.testBit 0 then
      if ok then ((s.setFlag a 0 true).setFlag st 0 true).setFlag st 1 false
      else (s.setFlag st 1 true).raise blkLane 3
    else s

/-! JESD204C (R373…R379). -/

/-- L of a configuration word: 1, 2, 4; code 3 is refused. -/
def jlLanes (v : Nat) : Nat := [1, 2, 4, 0].getD (bitsOf v 2 1) 0
/-- E of a configuration word. -/
def jlE (v : Nat) : Nat := bitsOf v 6 3 + 1
/-- The FSYN of a quad. -/
def quadFsyn (s : State) (q : Nat) : Nat := s.fld (Reg.CV_QUAD_CFG q) 6 2

/-- CP_CLK of a converter port is a tree of the quad's FSYN undivided (R376). -/
def cpClkOk (s : State) (q n : Nat) : Bool :=
  match tapTree s (padOf (convTile n)) (slotBits s (convTile n) 1 1280 5) with
  | some g => let v := s.regN (Reg.GCK_CFG g)
    v.testBit 16 && gckSrc v == quadFsyn s q && bitsOf v 11 8 == 0
  | none => false

/-- A link may be enabled with a configuration word (R359, R373, R376). -/
def jlOk (s : State) (q v : Nat) : Bool :=
  quadOn s q && !s.flag (Reg.CV_QUAD_CFG q) 1 && !tethOn s q && jlLanes v != 0
    && (v.testBit 7 || (cpClkOk s q (2 * q) && (decide (jlLanes v < 4) || cpClkOk s q (2 * q + 1))))

/-- A write of JL_TX_CFG, or of JL_RX_CFG. -/
def jlWrite (s : State) (q : Nat) (rx : Bool) (v : Nat) : State :=
  let a := if rx then Reg.JL_RX_CFG q else Reg.JL_TX_CFG q
  let v := Nat.land v (if rx then 0x1FF00FF else 0xFF)
  let bad := v.testBit 0 && !s.flag a 0 && !jlOk s q v
  let s := (s.setRegN a (if bad then v - 1 else v)).raiseIf bad blkLane 4
  if rx then (if s.flag a 0 then s else s.setRegN (Reg.JL_STAT q) (s.fld (Reg.JL_STAT q) 0 0))
  else s.setFlag (Reg.JL_STAT q) 0 (s.flag a 0)

/-- A write of JL_LEMC_OFS (R374). -/
def lemcWrite (s : State) (q v : Nat) : State := if jlOn s q then s else s.setRegN (Reg.JL_LEMC_OFS q) (v % 512)

/-- JL_STAT as it reads: GATED while the transmit gate is closed (R379). -/
def jlStatView (s : State) (q : Nat) : Nat := putBits (s.regN (Reg.JL_STAT q)) 10 10 (bit (s.flag (Reg.JL_STAT q) 0 && !s.gOpen))

/-- E in use on a link. -/
def linkE (s : State) (q : Nat) : Nat := jlE (s.regN (if s.flag (Reg.JL_RX_CFG q) 0 then Reg.JL_RX_CFG q else Reg.JL_TX_CFG q))

/-- The FSYN count nearest a time: NUM, DEN and the anchor of the quad's synthesiser (R374, R375). -/
def fsynCount (s : State) (q tl : Nat) : Int :=
  let n := quadFsyn s q
  let num := s.fld (Reg.FSYN_NUM n) 15 0
  let den := s.fld (Reg.FSYN_DEN n) 19 0 * tcUnit
  let d : Int := (tl : Int) - (fsynOf s n).anchor
  (2 * d * num + den) / (2 * den)

/-- The signed difference in Tc between a time and the nearest LEMC boundary of a link (R375), rounded down. -/
def lemcPhase (s : State) (q tl : Nat) : Int :=
  let n := quadFsyn s q
  let num : Int := s.fld (Reg.FSYN_NUM n) 15 0
  let den : Int := s.fld (Reg.FSYN_DEN n) 19 0
  let per := 32 * (linkE s q : Int) * den * tcUnit
  let x := ((tl : Int) - (fsynOf s n).anchor) * num - (s.fld (Reg.JL_LEMC_OFS q) 8 0 : Int) * den * tcUnit
  let r := (x + per / 2) % per - per / 2
  r / (num * tcUnit)

/-- The adoptions armed, made at an edge (R375). -/
def adoptAll (s : State) (tl : Nat) : State :=
  let m := s.lane.adopt
  let s := s.setLane { s.lane with adopt := 0 }
  (List.range 16).foldl (fun s q =>
    if m.testBit q then
      (s.setRegN (Reg.JL_LEMC_OFS q) (fsynCount s q tl % (32 * linkE s q : Int)).toNat).raise blkLane 10
    else s) s

/-- JSYSREF_EDGE (R375). -/
def execJsysrefEdge (falling : Bool) (ofs : BitVec 18) (s : State) : Out :=
  if falling != s.flag Reg.JSYSREF_CFG 1 then .next s
  else
    let tl := stampAt s ofs.toNat
    let s := s.count Reg.JSYSREF_CNT
    let s :=
      if s.flag Reg.JSYSREF_CFG 0 then
        let d := lemcPhase s (s.fld Reg.JSYSREF_CFG 5 2) tl
        let s := s.setRegN Reg.JSYSREF_PHASE (unsigned 32 (satInt 32 d))
        s.raiseIf (decide (s.fld Reg.JSYSREF_CFG 31 16 < d.natAbs)) blkLane 9
      else s
    .next (adoptAll s tl)

/-- ADOPT (R375): a write of JSYSREF_CMD. -/
def execAdopt (value : BitVec 32) (s : State) : Out :=
  if value.getLsbD 0 then
    let m := bitsOf value.toNat 31 16
    let bad := (List.range 16).any (fun q => m.testBit q && jlOn s q)
    let ok := ((List.range 16).filter (fun q => m.testBit q && !jlOn s q)).map (2 ^ ·) |>.sum
    .next ((s.setLane { s.lane with adopt := Nat.lor s.lane.adopt ok }).raiseIf bad blkLane 11)
  else .next s

/-- A lane engine's buffers. -/
def bufsOf (s : State) (q : Nat) : List CvBuf := sget (fun _ => []) s.lane.bufs q
/-- The state with them replaced. -/
def setBufs (s : State) (q : Nat) (l : List CvBuf) : State := s.setLane { s.lane with bufs := sput (fun _ => []) s.lane.bufs q l }

/-- A Pacer release of REL_KIND CVL (R117, R378): up to eight buffers of whole EMBs; the fetch starts at once. -/
def cvRelease (s : State) (relId addr len : Nat) : State :=
  let v := s.regN (Reg.JL_TX_CFG relId)
  let emb := 256 * jlE v * jlLanes v
  if 15 < relId then s.raise blkLane 19
  else if !v.testBit 7 || !v.testBit 0 || laneHold s || 8 ≤ (bufsOf s relId).length || len == 0 || emb == 0 || len % emb != 0 then
    (s.count (Reg.JL_DROP_CNT relId)).raise blkLane 19
  else setBufs s relId (bufsOf s relId ++ [{ addr := addr, len := len, rel := s.pt }])

/-- JESD_FETCH_DONE (R378): the oldest buffer not yet fetched; one whose fetch fails never completes. -/
def execJesdFetchDone (q : Fin 16) (noc : Fin 8) (s : State) : Out :=
  let l := bufsOf s q
  match l.findIdx? (fun b => b.data.isNone && !b.failed) with
  | none => .next s
  | some i =>
    if noc.val ≠ 0 then .next (setBufs s q (l.modify i (fun b => { b with failed := true })))
    else .next (setBufs s q (l.modify i (fun b => { b with data := some (s.viewBytes (kixOf s (456 + q)) b.addr b.len) })))

/-- The answer number that stands for a JESD204C link's lanes (log entry 9). -/
def jesdPins (q : Nat) : Nat := 4112 + q

/-- JESD_BUFFER_START (R378, R379): at its LEMC boundary the head buffer starts, or is dropped as an underrun; zero payload leaves
while the gate is closed. -/
def execJesdBufferStart (q : Fin 16) (s : State) : Out :=
  match bufsOf s q with
  | [] => .next s
  | b :: r =>
    if !ptReached s.pt ((b.rel + s.fld (Reg.JL_MEM_LEAD q) 15 0) % 2 ^ 32) then .next s
    else
      let s := setBufs s q r
      match b.data with
      | none => .next ((s.count (Reg.JL_UNDERRUN_CNT q)).raise blkLane 8)
      | some d => .next (s.answer (jesdPins q) 0 (if s.gOpen && !laneHold s then d.map (·.toNat) else List.replicate d.length 0))

/-- EMB_LOCK (R377). -/
def execEmbLock (q : Fin 16) (s : State) : Out :=
  let v := s.regN (Reg.JL_RX_CFG q)
  if v.testBit 0 then
    let m := 2 ^ jlLanes v - 1
    .next (((s.setFlag (Reg.JL_STAT q) 1 true).setFld (Reg.JL_STAT q) 5 2 m).setFld (Reg.JL_STAT q) 9 6 m)
  else .next s

/-- JL_LINK_DOWN (R377). -/
def execJlLinkDown (q : Fin 16) (s : State) : Out :=
  if s.flag (Reg.JL_STAT q) 1 then .next ((s.setFld (Reg.JL_STAT q) 9 1 0).raise blkLane 5) else .next s

/-- JESD_RX_EMB (R377, R378): an EMB delivered, with whether its CRC-12 failed and whether its delivery point jumped; with SRC = 1
it is captured. -/
def execJesdRxEmb (q : Fin 16) (data : List Byte) (crc : Bool) (jump : Bool) (s : State) : Out :=
  let v := s.regN (Reg.JL_RX_CFG q)
  if !v.testBit 0 || !s.flag (Reg.JL_STAT q) 1 then .next s
  else
    let s := if crc then (s.count (Reg.JL_CRC_CNT q)).raise blkLane 6 else s
    let s := s.raiseIf jump blkLane 7
    if v.testBit 7 then
      let base := s.fld (Reg.JL_CAP_BASE_LO q) 31 12 * 4096 + s.fld (Reg.JL_CAP_BASE_HI q) 15 0 * 2 ^ 32
      let size := 4096 * 2 ^ s.fld (Reg.JL_CAP_CFG q) 3 0
      let w := s.regN (Reg.JL_CAP_WPTR q)
      let data := padTo (256 * jlE v * jlLanes v) data
      let k := kixOf s (456 + q)
      let s := data.zipIdx.foldl (fun s e => s.viewWrite k (base + (w + e.2) % size) [e.1]) s
      .next (s.setRegN (Reg.JL_CAP_WPTR q) ((w + data.length) % size))
    else .next s

end Sys2Proof.Machine
end

