-- ==== Sys2Proof/Machine/Tether.lean ====
section
/-! DEFINITION. The Tether link (R380…R385). -/

namespace Sys2Proof.Machine

/-- The state with Tether replaced. -/
def setTeth (s : State) (t : Tether) : State := s.setLane { s.lane with teth := t }
/-- Lane l of the quad. -/
def tethLane (s : State) (l : Nat) : TethLane := sget (fun _ => {}) s.lane.teth.lanes l
/-- The state with it replaced. -/
def setTethLane (s : State) (l : Nat) (x : TethLane) : State :=
  setTeth s { s.lane.teth with lanes := sput (fun _ => {}) s.lane.teth.lanes l x }
/-- A lane is LOCKED. -/
def tethLocked (s : State) (l : Nat) : Bool := s.flag Reg.TETH_STAT (4 + l)

/-- The marker. -/
def tethMarker : Nat := 0xB4E21D7A

/-- The next bit of the keystream, and the 31 last bits after it: bit 0 the newest (R382). -/
def keyStep (k : BitVec 31) : Bool × BitVec 31 :=
  let b := k.getLsbD 27 != k.getLsbD 30
  (b, BitVec.ofNat 31 (2 * k.toNat + bit b))
/-- n bits of the keystream, first bit at bit 0. -/
def keyRun : Nat → BitVec 31 → Nat × BitVec 31
  | 0, k => (0, k)
  | n + 1, k =>
    let (b, k1) := keyStep k
    let (v, k2) := keyRun n k1
    (bit b + 2 * v, k2)

/-- TETH_SEED as it acts. -/
def tethSeed (s : State) : BitVec 31 :=
  let v := s.fld Reg.TETH_SEED 30 0
  BitVec.ofNat 31 (if v = 0 then 0x7FFFFFFF else v)

/-- A write of TETH_CFG (R359, R380): the link starts when EN goes to 1 on a quad with SRC = 1. -/
def tethCfg (s : State) (v : Nat) : State :=
  let was := s.flag Reg.TETH_CFG 0
  let v := Nat.land v 0xF01FF
  let v := if was then putBits v 4 1 (s.fld Reg.TETH_CFG 4 1) else v
  let q := bitsOf v 4 1
  let bad := v.testBit 0 && !was && !(quadOn s q && s.flag (Reg.CV_QUAD_CFG q) 1)
  let s := (s.setRegN Reg.TETH_CFG (if bad then v - 1 else v)).raiseIf bad blkLane 4
  if !was && s.flag Reg.TETH_CFG 0 then
    (setTeth s { outbox := s.lane.teth.outbox
                 lanes := (List.range 4).map (fun l => (l, { txKey := tethSeed s })) }).setRegN Reg.TETH_STAT 0
  else if was && !s.flag Reg.TETH_CFG 0 then (setTeth s {}).setRegN Reg.TETH_STAT 0
  else s

/-! Frames (R381…R383). -/

/-- The CRC of a frame's bits 64…1,007. -/
def tethCrc (body : Nat) : Nat := crc16 (leBytes 118 (body % 2 ^ 944))
/-- Bits 64…1,023 of a frame before scrambling. -/
def tethBody (lseq kind : Nat) (pay : List Byte) : Nat :=
  let b := lseq % 4096 + kind % 16 * 2 ^ 12 + leNat (padTo 116 pay) * 2 ^ 16
  b + tethCrc b * 2 ^ 944

/-- Stuffing of a bit string after a run of `same` bits `b` (R383): the bits on the wire, and the run they leave. -/
def stuffBits : List Bool → Bool → Nat → List Bool × Bool × Nat
  | [], b, n => ([], b, n)
  | x :: r, b, n =>
    let (m, y) := if x = b then (n + 1, x) else (1, x)
    if m = 40 then
      let (l, e) := stuffBits r (!y) 1
      (x :: (!y) :: l, e)
    else
      let (l, e) := stuffBits r y m
      (x :: l, e)

/-- The answer number that stands for a Tether lane (log entry 9). -/
def tethPins (l : Nat) : Nat := 4128 + l

/-- The next lane of TX_LANES after the last used. -/
def nextLane (s : State) : Option Nat :=
  [1, 2, 3, 4].map (fun i => (s.lane.teth.last + i) % 4) |>.find? (fun l => s.flag Reg.TETH_CFG (5 + l))

/-! What the Relay has to send (R397, R417). -/

/-- The entry of a snapshot item, and what is left of the item (R417): a mirror range as MEM or TILE, a register as CFG, an
object as OBJ, an unreleased operation as ADMIT, SNAP_END. -/
def snapEntry (s : State) : SnapItem → Option (Nat × List Byte) × List SnapItem
  | .mem a n =>
    match rngOf s a with
    | some r =>
      if rngMode s r = 0 then (some (8, leBytes 6 a ++ 63 :: List.replicate 9 0 ++ s.bytes a 64), if n ≤ 64 then [] else [.mem (a + 64) (n - 64)])
      else
        let t := a / 512
        let (c, g) := if rngMode s r = 2 then (tileCtr s r t, (tagAt s r t).toNat) else (0, 0)
        (some (9, leBytes 6 a ++ leBytes 6 (rollB s) ++ leBytes 7 c ++ leBytes 8 g ++ physBytes s a 512), if n ≤ 512 then [] else [.mem (a + 512) (n - 512)])
    | none => (some (8, leBytes 6 a ++ 63 :: List.replicate 9 0 ++ s.bytes a 64), if n ≤ 64 then [] else [.mem (a + 64) (n - 64)])
  | .cfg off => (some (7, leBytes 4 off ++ leBytes 4 (s.regN (blockBase blkPac + off))), [])
  | .obj i b v => (some (10, leBytes 2 i ++ [BitVec.ofNat 8 b, BitVec.ofNat 8 (v.length - 1), 0, 0, 0, 0] ++ v), [])
  | .adm i =>
    match opId s i with
    | some o => (some (6, leBytes 4 o.slot ++ s.bytes (descAddr o.slot) 64), [])
    | none => (none, [])
  | .done => (some (14, [0]), [])

/-- The next snapshot entry made, where no live frame waits and the buffer has room (R417). -/
def snapFeed (s : State) : State :=
  match s.rly.snap with
  | [] => s
  | i :: r =>
    if !s.lane.teth.outbox.isEmpty || jBlocked s 7 then s
    else
      let (e, l) := snapEntry s i
      let s := s.setRly { s.rly with snap := l ++ r }
      match e with
      | none => s
      | some (k, d) =>
        let s := jEntry s k d
        if k = 14 then s.setRly { s.rly with snapEnd := some (s.regN Reg.RELAY_JSEQ_TX) } else s

/-- The IV of R397. -/
def relIv (unit fctr : Nat) : List Byte := BitVec.ofNat 8 unit :: (List.replicate 3 0 ++ beBytes 8 fctr)
/-- The additional data of R397. -/
def relAad (kind lseq : Nat) : List Byte := [BitVec.ofNat 8 kind] ++ beBytes 2 lseq

/-- A body with the stamps that its sending gives it (R408): t1 of a TIME_REQ, t3 of a TIME_RESP. -/
def relStamp (s : State) (kind : Nat) (body : List Byte) : List Byte :=
  let t := leBytes 12 (tlFormat s.tim.tl)
  if kind = 2 then body.take 12 ++ t ++ body.drop 24
  else if kind = 3 then body.take 36 ++ t ++ body.drop 48
  else body

/-- The frame to be sent next, protected under R397: kind and payload; IDLE where none waits or FCTR is spent. -/
def relNext (s : State) : State × Nat × List Byte :=
  match s.lane.teth.outbox with
  | [] => (s, 0, [])
  | (kind, body) :: r =>
    if 2 ^ 64 ≤ s.rly.fctr then (s, 0, [])
    else
      let f := s.rly.fctr
      let iv := relIv (bit s.unit1) f
      let body := relStamp s kind body
      let aad := relAad kind s.lane.teth.lseq
      let s := (setTeth s { s.lane.teth with outbox := r }).setRly { s.rly with fctr := f + 1 }
      (s, kind, leBytes 8 f ++ Config.gcmCrypt s.sec.relay iv body ++ Config.gcmTag s.sec.relay iv aad body)

/-- TETHER_FRAME_TX (R381…R383, R385, R397): the next frame, IDLE where none waits, on the next lane; the answer is its bits on
the wire in order. -/
def execTetherFrameTx (s : State) : Out :=
  if !s.flag Reg.TETH_CFG 0 then .next s
  else
    match nextLane s with
    | none => .next s
    | some l =>
      let (s, kind, pay) := relNext (snapFeed s)
      let t := s.lane.teth
      let x := tethLane s l
      let (key, k2) := keyRun 960 x.txKey
      let f := tethMarker + x.txKey.toNat * 2 ^ 32 + Nat.xor (tethBody t.lseq kind pay) key * 2 ^ 64
      let (bits, e) := stuffBits ((List.range 1024).map f.testBit) x.bit x.same
      let s := setTeth s { t with lseq := (t.lseq + 1) % 4096, last := l }
      let s := setTethLane s l { x with txKey := k2, bit := e.1, same := e.2 }
      .next (s.answer (tethPins l) 0 (bits.map bit))

/-- Frames held that are next in order are delivered; the count bounds the run. -/
def tethDeliver : Nat → State → State
  | 0, s => s
  | n + 1, s =>
    let t := s.lane.teth
    match t.expect with
    | none => s
    | some e =>
      match t.held.find? (fun f => f.1 == e) with
      | none => s
      | some (_, k, p, tl) =>
        let inbox := if k = 0 then t.inbox else t.inbox ++ [some (k, e, p, tl)]
        tethDeliver n (setTeth s { t with expect := some ((e + 1) % 4096), held := t.held.filter (fun f => f.1 != e), inbox := inbox })

/-- A good frame merged in LSEQ order (R385). -/
def tethMerge (s : State) (lseq kind : Nat) (pay : List Byte) : State :=
  let t := s.lane.teth
  let e := t.expect.getD lseq
  if 2048 ≤ (lseq + 4096 - e) % 4096 then s.count Reg.TETH_LATE_CNT
  else tethDeliver 2048 (setTeth s { t with expect := some e, held := t.held ++ [(lseq, kind, pay, s.tim.tl)] })

/-- A lane back in SEARCH. -/
def tethSearch (s : State) (l : Nat) : State :=
  let s := ((s.setFlag Reg.TETH_STAT l false).setFlag Reg.TETH_STAT (4 + l) false).setFlag Reg.TETH_STAT (8 + l) false
  setTethLane s l { tethLane s l with run := 0, miss := 0, key := none }

/-- A frame on a LOCKED lane descrambled, checked and merged (R381, R382). -/
def tethFrame (s : State) (l f : Nat) : State :=
  let x := tethLane s l
  let st := BitVec.ofNat 31 (bitsOf f 62 32)
  let bad := x.key.any (fun k => k != st)
  let (key, k2) := keyRun 960 st
  let s := (setTethLane s l { x with key := some k2 }).setFlag Reg.TETH_STAT (8 + l) true
  if bad then s.count Reg.TETH_STATE_ERR_CNT
  else
    let b := Nat.xor (f / 2 ^ 64) key
    if tethCrc b != bitsOf b 959 944 then (s.count Reg.TETH_CRC_CNT).raise blkLane 14
    else tethMerge s (bitsOf b 11 0) (bitsOf b 15 12) (leBytes 116 (bitsOf b 943 16))

/-- TETHER_FRAME_RX (R381…R385): a destuffed frame time on a lane; `phase` is where the frame's bit 0 lies against the word grid
the receiver began with, `stuff` that the destuffer found a bit that is not the complement. -/
def execTetherFrameRx (lane : Fin 4) (phase : Fin 32) (frame : BitVec 1024) (stuff : Bool) (s : State) : Out :=
  if !s.flag Reg.TETH_CFG 0 then .next s
  else
    let l := lane.val
    let x := tethLane s l
    let s := if stuff then (s.count Reg.TETH_STUFF_ERR_CNT).raise blkLane 16 else s
    let seen := phase.val == x.slips % 32 && frame.toNat % 2 ^ 32 == tethMarker
    if tethLocked s l then
      let n := if seen then 0 else x.miss + 1
      if n = 4 then .next ((tethSearch s l).raise blkLane 13)
      else
        let s := s.setFlag Reg.TETH_STAT l (decide (n < 2))
        .next (tethFrame (setTethLane s l { x with miss := n }) l frame.toNat)
    else
      let s := s.setFlag Reg.TETH_STAT l seen
      let n := if seen then x.run + 1 else 0
      let s := setTethLane s l { x with run := n }
      if n = 4 then
        .next ((s.setFlag Reg.TETH_STAT (4 + l) true).raise blkLane 12)
      else .next s

/-- SLIP (R384): a write of TETH_CMD; lanes out of SEARCH ignore it. -/
def execSlip (value : BitVec 32) (s : State) : Out :=
  .next ((List.range 4).foldl (fun s l =>
    if value.getLsbD l && s.flag Reg.TETH_CFG 0 && !tethLocked s l then
      let x := tethLane s l
      ((setTethLane s l { x with slips := (x.slips + 1) % 32, run := 0 }).setFlag Reg.TETH_STAT l false).count Reg.TETH_SLIP_CNT
    else s) s)

/-- TETHER_DESKEW_TIMEOUT (R385): the expected LSEQ has not arrived in time behind a later one; it is skipped. -/
def execTetherDeskewTimeout (s : State) : Out :=
  let t := s.lane.teth
  match t.expect with
  | none => .next s
  | some e =>
    if t.held.isEmpty then .next s
    else
      let s := setTeth s { t with expect := some ((e + 1) % 4096), inbox := t.inbox ++ [none] }
      .next (tethDeliver 2048 ((s.count Reg.TETH_GAP_CNT).raise blkLane 15))

/-- TETH_FIFO_ERR (R380). -/
def execTethFifoErr (lane : Fin 4) (s : State) : Out :=
  if s.flag Reg.TETH_CFG 0 then .next ((tethSearch s lane).raise blkLane 17) else .next s

end Sys2Proof.Machine
end

