-- ==== Sys2Proof/Machine/Relay.lean ====
section
/-! DEFINITION. The Relay pair (R394…R417) but for the steps that reach the object dictionary (OBJ, JOIN_REQ). -/

namespace Sys2Proof.Machine

/-! Reception (R397, R398, R400). -/

/-- An ACK (Table RLY-4). -/
def relAck (s : State) (nak bad : Bool) : State :=
  relMsg s 4 (leBytes 4 (s.regN Reg.RELAY_JSEQ_ACK) ++ [BitVec.ofNat 8 (bit nak), BitVec.ofNat 8 (bit bad)])
/-- A secondary asks for a resend (R400). -/
def relNak (s : State) : State := if s.shadowing && s.sync != 0 then relAck s true false else s

/-- A frame's tag verifies under a sender's UNIT; the body. -/
def relOpen (s : State) (unit kind lseq : Nat) (pay : List Byte) : Option (List Byte) :=
  let iv := relIv unit (fieldLe pay 0 8)
  let body := Config.gcmCrypt s.sec.relay iv (slice pay 8 92)
  if s.sec.relay.isEmpty || Config.gcmTag s.sec.relay iv (relAad kind lseq) body != slice pay 100 16 then none else some body

/-- RELAY_FRAME_RX (R397, R398): the oldest frame Tether has delivered is accepted for its kind's step, or discarded; a gap asks
for a resend. A frame under the receiver's own UNIT is opened too, so that UNIT_CLASH can be seen (DEDUCED, log entry 40). -/
def execRelayFrameRx (s : State) : Out :=
  match s.lane.teth.inbox with
  | [] => .next s
  | f :: r =>
    let s := setTeth s { s.lane.teth with inbox := r }
    if s.role = 0 then .next s
    else
      match f with
      | none => .next (relNak s)
      | some (kind, lseq, pay, tl) =>
        let own := bit s.unit1
        let n := fieldLe pay 0 8
        match (relOpen s (1 - own) kind lseq pay).or (relOpen s own kind lseq pay) with
        | some body =>
          if s.rly.seen.any (fun x => n ≤ x) then .next (relNak ((s.count Reg.RELAY_AUTH_CNT).raise blkRly 11))
          else
            let s := s.setRly { s.rly with seen := some n }
            if kind = 15 then .next (s.count Reg.RELAY_MISMATCH_CNT)
            else .next (s.setRly { s.rly with acc := s.rly.acc ++ [(kind, body, tl)] })
        | none => .next (relNak ((s.count Reg.RELAY_AUTH_CNT).raise blkRly 11))

/-- The accepted frame at the head, of a kind: DATA and time of receipt, with the frame taken. -/
def relTake (s : State) (kind : Nat) : Option (State × List Byte × Nat) :=
  match s.rly.acc with
  | (k, b, tl) :: r => if k = kind then some (s.setRly { s.rly with acc := r }, b, tl) else none
  | [] => none

/-! Entries on the secondary (R400…R402). -/

/-- The age of the journal point, in ticks (R401). -/
def lagNow (s : State) : Nat := match s.rly.jpt with | some p => satNat 16 (ptSub s.pt p) | none => 0
/-- RELAY_LAG's peak brought up to date. -/
def lagPeak (s : State) : State :=
  if s.fld Reg.RELAY_LAG 31 16 < lagNow s then s.setFld Reg.RELAY_LAG 31 16 (lagNow s) else s
/-- The journal point moves. -/
def setJpt (s : State) (pt : Nat) : State :=
  let s := lagPeak s
  let s := s.setRly { s.rly with jpt := some pt, shadow := s.rly.shadow.filter (fun e => ptLater e.1 pt) }
  lagPeak s

/-- An entry applied. -/
def jApplied (s : State) (q pt : Nat) : State :=
  setJpt ((s.setRegN Reg.RELAY_JSEQ_ACK q).setRly { s.rly with applied := some q }) pt

/-- An entry that cannot be applied exactly (R402). -/
def mismatch (s : State) : State :=
  relAck (((s.setSync 0).raise blkRly 9).count Reg.RELAY_MISMATCH_CNT) false true

/-- A journal frame of a kind taken (R398, R400): an older entry is ignored, a missing JSEQ or segment asks for a resend; a whole
entry next in order is answered with its number, PT and DATA. -/
def jTake (s : State) (kind : Nat) : State × Option (Nat × Nat × List Byte) :=
  match relTake s kind with
  | none => (s, none)
  | some (s, b, _) =>
    if !s.shadowing || s.sync = 0 then (s, none)
    else
      let q := fieldLe b 0 4
      let i := fieldLe b 8 1 % 16
      let n := fieldLe b 8 1 / 16
      let next := match s.rly.applied with | none => true | some a => q == (a + 1) % 2 ^ 32
      let old := match s.rly.applied with | none => false | some a => ptReached a q
      if old then (s, none)
      else if !next then (relNak s, none)
      else
        let have_ := match s.rly.part with
          | some (q', nx, d) => if q' = q ∧ nx = i then some d else none
          | none => none
        match (if i = 0 then some [] else have_) with
        | none => (relNak (s.setRly { s.rly with part := none }), none)
        | some d =>
          let d := d ++ slice b 12 80
          if n ≤ i then (s.setRly { s.rly with part := none }, some (q, fieldLe b 4 4, d))
          else (s.setRly { s.rly with part := some (q, i + 1, d) }, none)

/-- An entry of a kind taken and applied by a function that refuses with none (R402). -/
def jApply (s : State) (kind : Nat) (f : State → List Byte → Option State) : State :=
  match jTake s kind with
  | (s, none) => s
  | (s, some (q, pt, d)) =>
    match f s d with
    | some s => jApplied s q pt
    | none => mismatch s

/-- MARK (R399). -/
def execMark (s : State) : Out := .next (jApply s 5 (fun s _ => some s))

/-- A carried admission (R407): the descriptor in its slot, admitted with the carried SEQ and ADMIT_TICK. -/
def applyAdmit (s : State) (d : List Byte) : Option State :=
  let slot := fieldLe d 0 4
  if 2 ^ 20 ≤ slot then none
  else
    let s := s.rawWrite (s.fld (Reg.NOC_INIT_CFG 472) 14 9) (descAddr slot) (slice d 4 64)
    let o := descOp s slot
    let seq := fieldLe d 62 2
    if admitCode s slot 0 true ≠ 0 || (o.ordered && s.fld (Reg.PAC_FLOW_STAT o.flow) 15 0 != seq) then none
    else some (acceptAs s slot (fieldLe d 64 4))
/-- ADMIT (R407). -/
def execAdmit (s : State) : Out := .next (jApply s 6 applyAdmit)

/-- CFG (R402). -/
def execCfg (s : State) : Out := .next (jApply s 7 (fun s d => pacCfg s (fieldLe d 0 4) (fieldLe d 4 4)))

/-- A mirrored plain write, by initiator 472. -/
def applyMem (s : State) (d : List Byte) : Option State :=
  let a := fieldLe d 0 6
  let n := fieldLe d 6 1 + 1
  if n ≤ 64 ∧ inMir s a ∧ inMir s (a + n - 1) then
    some (s.rawWrite (s.fld (Reg.NOC_INIT_CFG 472) 14 9) a (slice d 16 n))
  else none
/-- MEM (R403). -/
def execMem (s : State) : Out := .next (jApply s 8 applyMem)

/-- A carried tile stored with its tag; its leaf counter, and B, taken from the journal (R353). -/
def applyTile (s : State) (d : List Byte) : Option State :=
  let a := fieldLe d 0 6
  let t := a / 512
  match rngOf s a with
  | some r =>
    if rngMode s r = 0 || !inMir s a || a % 512 != 0 then none
    else
      let s := (s.setRegN Reg.IMP_ROLL_B_LO (fieldLe d 6 4)).setRegN Reg.IMP_ROLL_B_HI (fieldLe d 10 2)
      let ct := slice d 27 512
      if rngMode s r = 1 then some (physWrite s a ct)
      else
        let s := cachePath s r t
        let l := depthOf (rngTiles s r)
        let i := tileIx s r t
        let s := physWrite s a ct
        let s := physWrite s (rngMeta s r + 8 * i) (slice d 19 8)
        some (setCtrs s r l (i / 8) ((nodeCtrs s r l (i / 8)).set (i % 8) (fieldLe d 12 7)))
  | none => none
/-- TILE (R353, R402). -/
def execTile (s : State) : Out := .next (jApply s 9 applyTile)

/-- The ring slot of a mirror port's message (R406). -/
def mpSlot (s : State) (k ix : Nat) : Nat :=
  scratchBase + s.fld (Reg.RELAY_MP_CFG k) 25 6 * 64 + ix % 2 ^ s.fld (Reg.RELAY_MP_CFG k) 29 26 * 64

/-- A mirror-port message written to its slot (R406). -/
def applyPort (s : State) (d : List Byte) : Option State :=
  let k := fieldLe d 0 1
  let ix := fieldLe d 2 2
  if k < 16 ∧ s.flag (Reg.RELAY_MP_CFG k) 31 then
    let s := s.rawWrite (s.fld (Reg.NOC_INIT_CFG 472) 14 9) (mpSlot s k ix) (slice d 16 64)
    some ((s.setRegN (Reg.RELAY_MP_PROD k) ((ix + 1) % 2 ^ 16)).raise blkRly 16)
  else none
/-- PORT (R406). -/
def execPort (s : State) : Out := .next (jApply s 11 applyPort)

/-- HANDOVER (R414): the secondary takes PRIMARY at the next tick boundary. -/
def execHandover (s : State) : Out := .next (jApply s 12 (fun s _ => some (s.setRly { s.rly with hand := true })))

/-- SNAP_END (R417): complete makes the secondary SYNCED; a refusal ends the join. -/
def execSnapEnd (s : State) : Out :=
  match s.rly.acc with
  | (14, b, _) :: r =>
    if s.shadowing && fieldLe b 12 1 = 1 then
      let s := s.setRly { s.rly with acc := r }
      .next (if s.sync = 1 then (s.setSync 0).raise blkRly 19 else s)
    else .next (jApply s 14 (fun s _ => some (if s.sync = 1 then (s.setSync 2).raise blkRly 18 else s)))
  | _ => .next s

/-! Roles. -/

/-- Every unreleased operation cancelled (R411, R417). -/
def cancelAll (s : State) : State := wholesale s (fun _ => true)

/-- A primary leaves PRIMARY (R411, R414): journalling stops, SECONDARY and UNSYNCED, SHADOW, work cancelled. -/
def demote (s : State) : State :=
  let s := s.setRly { s.rly with elect := false, hand := false, blocked := false }
  cancelAll (toSecondary (s.setSync 0))

/-- The level of RELAY_ROLE_IN as RELAY_STAT shows it; DUAL_TX stands only while it is high (R520). -/
def rolePin (s : State) (roleIn : Bool) : State :=
  let s := s.setFlag Reg.RELAY_STAT 8 roleIn
  if roleIn then s else s.unstand 13

/-- The levels of RELAY_ROLE_IN and RELAY_FENCE_IN as RELAY_STAT shows them. -/
def sidePins (s : State) (roleIn fenceIn : Bool) : State := (rolePin s roleIn).setFlag Reg.RELAY_STAT 6 fenceIn

/-- PRIMARY taken: the mode leaves SHADOW (R412). -/
def toPrimary (s : State) : State := leaveShadow ((s.setRole rPrimary).setSync 0)

/-- ROLE_ELECTION (R396): at 200 µs of the wait, or when either pin goes high in it. -/
def execRoleElection (roleIn fenceIn : Bool) (s : State) : Out :=
  let s := sidePins s roleIn fenceIn
  if s.rly.elect && s.shadowing then
    let s := s.setRly { s.rly with elect := false }
    .next (if roleIn || fenceIn then s else toPrimary s)
  else .next s

/-- ROLE_CONFLICT (R396): both hold PRIMARY and ROLE_IN has been high for 10 µs. -/
def execRoleConflict (s : State) : Out :=
  let s := s.setFlag Reg.RELAY_STAT 8 true
  if s.role = rPrimary ∧ s.unit1 then .next (demote (jStop (s.raise blkRly 13))) else .next s

/-! Messages (R396, R400, R408, R409). -/

/-- HEARTBEAT (R396, R401, R409, R413). -/
def execHeartbeat (s : State) : Out :=
  match relTake s 1 with
  | none => .next s
  | some (s, b, _) =>
    let s := (s.setFlag Reg.RELAY_STAT 5 true).setRly { s.rly with hbLink := true, peer := fieldLe b 12 1 }
    let s := if fieldLe b 15 1 = bit s.unit1 then State.raise (s.setRly { s.rly with clash := true }) blkRly 14 else s
    .next (if s.shadowing && fieldLe b 12 1 = rPrimary && fieldLe b 14 1 = 0 then s.setSync 0 else s)

/-- TIME_REQ (R408): the primary answers with t1 and t2; t3 is stamped as the frame is sent. -/
def execTimeReq (s : State) : Out :=
  match relTake s 2 with
  | none => .next s
  | some (s, b, tl) =>
    .next (if s.role = rPrimary then relMsg s 3 (slice b 12 12 ++ leBytes 12 (tlFormat tl)) else s)

/-- The Timeline a stamp of Table TLN-1 spells. -/
def tlParse (v : Nat) : Nat := tlOf (bitsOf v 95 48) (bitsOf v 47 16) (bitsOf v 15 0)

/-- TIME_RESP (R38, R408): a sample of the RELAY reference. -/
def execTimeResp (s : State) : Out :=
  match relTake s 3 with
  | none => .next s
  | some (s, b, t4) =>
    if !s.shadowing then .next s
    else
      let t (o : Nat) : Int := tlParse (fieldLe b o 12)
      let e := compensated s 4 ((t 12 - t 24 + (t4 : Int) - t 36) / 2)
      let s := s.setRly { s.rly with asked := false, missed := 0 }
      let s := s.setRegN Reg.RELAY_TIME_ERR (errWord e)
      let s := s.raiseIf (s.tlState == tlLocked && s.refAct == some 4 && decide (4 * tcUnit < e.natAbs)) blkRly 15
      let s := if refQual s 4 then s else refQualify s 4
      .next (refSample s 4 e true)

/-- Journalled doorbells go on while the buffer has room (R406); the count bounds them. -/
def mpPump : Nat → State → Nat → Nat → State
  | 0, s, _, _ => s
  | n + 1, s, k, x =>
    let p := s.fld (Reg.RELAY_MP_PROD k) 15 0
    if p = x ∨ jBlocked s 1 then s
    else
      let s := jEntry s 11 ([BitVec.ofNat 8 k, 0] ++ leBytes 2 p ++ List.replicate 12 0 ++ s.bytes (mpSlot s k p) 64)
      mpPump n (s.setRegN (Reg.RELAY_MP_PROD k) ((p + 1) % 2 ^ 16)) k x
/-- Every waiting doorbell goes on; one that has reached its index waits no longer. -/
def mpAll (s : State) : State :=
  let s := s.rly.want.foldl (fun s e => mpPump 65536 s e.1 e.2) s
  s.setRly { s.rly with want := s.rly.want.filter (fun e => s.fld (Reg.RELAY_MP_PROD e.1) 15 0 != e.2) }

/-- Entries sent again in new frames (R400). -/
def jResend (s : State) : State :=
  relSend (s.countBy Reg.RELAY_RESEND_CNT s.rly.buf.length) (s.rly.buf.flatMap jFrames)

/-- ACK (R400…R402): entries up to the one named are freed; a NAK resends what follows; a mismatch ends journalling. -/
def execAck (s : State) : Out :=
  match relTake s 4 with
  | none => .next s
  | some (s, b, _) =>
    if !jOn s then .next s
    else
      let j := fieldLe b 12 4
      let gone := s.rly.buf.filter (fun e => ptReached j e.jseq)
      let s := s.setRegN Reg.RELAY_JSEQ_ACK j
      let s := match gone.getLast? with | some e => setJpt s e.pt | none => s
      let s := s.setRly { s.rly with buf := s.rly.buf.filter (fun e => !ptReached j e.jseq), stall := s.rly.stall && gone.isEmpty }
      let s := if s.rly.snapEnd.any (fun q => gone.any (fun e => e.jseq == q)) then (s.setSync 2).setRly { s.rly with snapEnd := none } else s
      if fieldLe b 17 1 = 1 then .next (jStop s)
      else .next (mpAll (if fieldLe b 16 1 = 1 then jResend s else s))

/-- JOURNAL_MARK (R399). -/
def execJournalMark (s : State) : Out := if jBlocked s 1 then .next (jWait s 1) else .next (jEntry s 5 [])
/-- ACK_PERIODIC (R400). -/
def execAckPeriodic (s : State) : Out := if s.shadowing && s.sync != 0 then .next (relAck s false false) else .next s
/-- JOURNAL_RESEND (R400). -/
def execJournalResend (s : State) : Out := if jOn s then .next (jResend s) else .next s
/-- JOURNAL_STALL (R401). -/
def execJournalStall (s : State) : Out := if jOn s && !s.rly.buf.isEmpty then .next (jStall s) else .next s
/-- PARTNER_UNSYNCED (R401). -/
def execPartnerUnsynced (s : State) : Out :=
  if jOn s && !s.rly.buf.isEmpty then .next ((jStop s).raise blkRly 10) else .next s

/-- TIME_EXCHANGE (R408): an exchange still unanswered has failed; LOS_CNT of them lose RELAY. -/
def execTimeExchange (s : State) : Out :=
  if !s.shadowing then .next s
  else
    let n := if s.rly.asked then s.rly.missed + 1 else 0
    let s := s.setRly { s.rly with asked := true, missed := n }
    let s := if n ≠ 0 ∧ losCnt s 4 ≤ n then refLose s 4 false else s
    .next (relMsg s 2 [])

/-- The answer number that stands for RELAY_HB_OUT (log entry 9). -/
def hbPins : Nat := 4136

/-- HEARTBEAT_SEND (R409): the pin pulse, of 2 ticks, and the frame; a path without a heartbeat in the period has missed one. -/
def execHeartbeatSend (s : State) : Out :=
  if s.role = 0 then .next s
  else
    let s := s.countBy Reg.RELAY_HB_MISS_CNT (bit (!s.rly.hbPin) + bit (!s.rly.hbLink))
    let s := s.setRly { s.rly with hbPin := false, hbLink := false }
    if s.mode = mSafe then .next s
    else
      let q := s.regN (if s.role = rPrimary then Reg.RELAY_JSEQ_TX else Reg.RELAY_JSEQ_ACK)
      let d := [s.role, s.mode, s.sync, bit s.unit1].map (BitVec.ofNat 8) ++ leBytes 4 q
      .next ((relMsg s 1 d).answer hbPins 0 [2])

/-- HB_PIN_PULSE (R409). -/
def execHbPinPulse (ticks : Nat) (s : State) : Out :=
  if s.role ≠ 0 ∧ 1 ≤ ticks ∧ ticks ≤ 8 then
    .next ((s.setFlag Reg.RELAY_STAT 4 true).setRly { s.rly with hbPin := true })
  else .next s

/-- PARTNER_LOST (R410, R411): a primary goes on without journalling; a secondary fences. -/
def execPartnerLost (s : State) : Out :=
  if s.role = 0 then .next s
  else
    let s := (((s.setFlag Reg.RELAY_STAT 4 false).setFlag Reg.RELAY_STAT 5 false).raise blkRly 2)
    if s.shadowing then
      .next (State.raise (s.setRly { s.rly with fence := true, blocked := false }) blkRly 6)
    else .next (jStop s)

/-- HB_PATH_LOST (R410): one path only. A secondary whose link is silent while the pin beats is UNSYNCED. -/
def execHbPathLost (link : Bool) (s : State) : Out :=
  if s.role = 0 then .next s
  else if link then
    let s := (s.setFlag Reg.RELAY_STAT 5 false).raise blkRly 4
    .next (if s.shadowing && s.flag Reg.RELAY_STAT 4 then s.setSync 0 else s)
  else .next ((s.setFlag Reg.RELAY_STAT 4 false).raise blkRly 3)

/-- FENCE_IN_SET (R395, R411): RELAY_FENCE_IN high for 4 CKT cycles is class FENCED while it stays high, and a primary leaves
PRIMARY. -/
def execFenceInSet (high : Bool) (s : State) : Out :=
  if high then
    let s := (s.setFlag Reg.RELAY_STAT 6 true).detect 12
    let s := s.raise blkRly 5
    .next (if s.role = rPrimary then demote (jStop s) else s)
  else .next ((s.setFlag Reg.RELAY_STAT 6 false).unstand 12)

/-! Takeover (R412, R414…R416). -/

/-- Operations released while suppressed that are due in (PT_J, PT_take]. -/
def windowOps (s : State) (j pt : Nat) : List (Nat × Nat × Nat × Bool) :=
  s.rly.shadow.filter (fun e => ptLater e.1 j && ptReached pt e.1)

/-- RELAY_GAP_STAT's EMPTY and fill. -/
def gapStat (s : State) : State :=
  (s.setFlag Reg.RELAY_GAP_STAT 0 s.rly.gaps.isEmpty).setFld Reg.RELAY_GAP_STAT 7 1 s.rly.gaps.length

/-- One entry a flow with operations in the window, dropped when the FIFO of 64 is full (R416). -/
def takeGaps (s : State) (l : List (Nat × Nat × Nat × Bool)) : State :=
  let ord := l.filter (fun e => e.2.2.2)
  let flows := (ord.map (fun e => e.2.1)).eraseDups
  gapStat (flows.foldl (fun s f =>
    let mine := ord.filter (fun e => e.2.1 == f)
    if s.rly.gaps.length < 64 then
      s.setRly { s.rly with gaps := s.rly.gaps ++ [(f, (mine.head?.map (fun e => e.2.2.1)).getD 0, mine.length)] }
    else (s.addFld Reg.RELAY_GAP_STAT 31 16 1).raise blkRly 17) s)

/-- The conditions of R412 besides the time FENCE_OUT has been high. -/
def takeOk (s : State) (roleIn : Bool) : Bool :=
  s.shadowing && (s.rly.fence || s.rly.hand) && !roleIn && !s.flag Reg.RELAY_STAT 6
    && s.rly.acc.isEmpty && s.lane.teth.inbox.isEmpty && (s.sync == 2 || s.flag Reg.RELAY_CFG 3)

/-- TAKEOVER (R412, R415, R416): at a tick boundary, FENCE_OUT high for 10 µs or a HANDOVER applied. -/
def execTakeover (roleIn : Bool) (s : State) : Out :=
  let s := rolePin s roleIn
  if !takeOk s roleIn then .next s
  else
    let unsync := s.sync != 2
    let j := s.rly.jpt.getD s.pt
    let q := s.regN Reg.RELAY_JSEQ_ACK
    let l := windowOps s j s.pt
    let s := ((s.setRegN Reg.RELAY_TAKE_PTJ j).setRegN Reg.RELAY_TAKE_PT s.pt).setRegN Reg.RELAY_TAKE_JSEQ q
    let s := s.setRegN Reg.RELAY_TAKE_STAT (bit unsync + 2 * bit s.rly.hand + 4 * bit s.rly.blocked)
    let s := if unsync then s.setRegN Reg.RELAY_TAKE_UNORD 0
      else takeGaps (s.setRegN Reg.RELAY_TAKE_UNORD (l.filter (fun e => !e.2.2.2)).length) l
    let s := (s.count Reg.RELAY_TAKE_CNT).raise blkRly 7
    let s := s.setRly { s.rly with hand := false, blocked := false, shadow := [], part := none }
    .next (toPrimary (reinBack s 4 q (fun _ => true)))

/-- TAKEOVER_BLOCKED (R412). -/
def execTakeoverBlocked (s : State) : Out :=
  if s.shadowing && s.rly.fence && !s.rly.blocked then
    .next (State.raise (s.setRly { s.rly with blocked := true }) blkRly 8)
  else .next s

/-! Commands. -/

/-- A join begun (R417), or refused. -/
def join (s : State) : State :=
  if !s.shadowing || s.flag Reg.RELAY_STAT 6 || s.rly.clash then s.raise blkRly 19
  else if s.sync ≠ 0 then s
  else
    let s := cancelAll s
    let s := (List.range 16).foldl (fun s k => s.setRegN (Reg.RELAY_MP_PROD k) 0) s
    let s := (s.setSync 1).setRly { s.rly with applied := none, part := none, jpt := none }
    relMsg s 13 (leBytes 4 (s.regN Reg.CFG_BUILD_LO) ++ leBytes 4 (s.regN Reg.CFG_BUILD_HI))

/-- A HANDOVER command (R414). -/
def handover (s : State) : State :=
  if s.role ≠ rPrimary then s
  else if s.sync ≠ 2 then s.raise blkRly 19
  else
    let s := jEntry s 12 []
    demote (s.setRly { s.rly with buf := [], snap := [], snapEnd := none, stall := false, want := [] })

/-- A write of RELAY_CMD: each bit's command. -/
def relayCmd (s : State) (v : Nat) : State :=
  let s := if v.testBit 0 then join s else s
  let s := if v.testBit 1 then handover s else s
  let s := if v.testBit 2 then s.setRly { s.rly with fence := false } else s
  if v.testBit 3 then s.setRly { s.rly with seen := none } else s

/-- JOIN (R417): a write of RELAY_CMD. -/
def execJoin (value : BitVec 32) (s : State) : Out := .next (relayCmd s value.toNat)
/-- RELAY_CMD_HANDOVER (R414): a write of RELAY_CMD. -/
def execRelayCmdHandover (value : BitVec 32) (s : State) : Out := .next (relayCmd s value.toNat)
/-- UNFENCE (R413): a write of RELAY_CMD. -/
def execUnfence (value : BitVec 32) (s : State) : Out := .next (relayCmd s value.toNat)
/-- CTR_CLEAR (R397): a write of RELAY_CMD. -/
def execCtrClear (value : BitVec 32) (s : State) : Out := .next (relayCmd s value.toNat)

/-- A second in CKT cycles. -/
def secCks : Nat := secTc / 4

/-- AUTO_JOIN (R417): at most once a second. -/
def execAutoJoin (s : State) : Out :=
  if s.flag Reg.RELAY_CFG 4 && s.shadowing && s.sync == 0 && !s.rly.autoAt.any (fun t => decide (s.tim.cks < t + secCks)) then
    .next (join (s.setRly { s.rly with autoAt := some s.tim.cks }))
  else .next s

/-- FENCE_RELEASE (R413): the partner's frames have reported SECONDARY for 1 ms. -/
def execFenceRelease (s : State) : Out :=
  if s.role = rPrimary ∧ s.rly.peer = rSecondary then .next (s.setRly { s.rly with fence := false }) else .next s

/-- RELAY_MP_DB (R404, R406). -/
def execRelayMpDb (port : Fin 16) (value : BitVec 32) (s : State) : Out :=
  let x := value.toNat % 2 ^ 16
  if s.role ≠ rPrimary ∨ !s.flag (Reg.RELAY_MP_CFG port) 31 then .next s
  else if jOn s then .next (mpAll (jWait (s.setRly { s.rly with want := s.rly.want.filter (fun e => e.1 != port.val) ++ [(port.val, x)] }) 1))
  else .next (s.setRegN (Reg.RELAY_MP_PROD port) x)

/-- A committed mirror range's checks fail (R405). -/
def mirBad (s : State) (n : Nat) : Bool :=
  let a := mirBase s n
  let z := mirSize s n
  let inside (lo hi : Nat) : Bool := decide (lo ≤ a) && decide (a + z ≤ hi)
  z == 0 || !(inside scratchBase (scratchBase + scratchSize) || inside sdBase 0x5000000000 || inside hdmBase 0x20000000000)
    || (List.range 8).any (fun m => m != n && mirOn s m && overlap a z (mirBase s m) (mirSize s m))

/-- RELAY_MIR_COMMIT (R405): a write of RELAY_MIR_CTL, in BLANK and COMMISSION. -/
def execRelayMirCommit (n : Fin 8) (value : BitVec 32) (s : State) : Out :=
  let c := Reg.RELAY_MIR_CTL n
  if !modeIn s 0x14 then .next (s.raise blkRly 31)
  else if value.getLsbD 0 then
    if mirOn s n then .next s
    else if mirBad s n then .next ((s.setRegN c (1 + 4)).raise blkRly 20)
    else .next (s.setRegN c 3)
  else .next (s.setRegN c 0)

/-- RELAY_GAP_READ (R416): a normal read of RELAY_GAP_HI answers the head's count and pops it. -/
def execRelayGapRead (init : Fin 512) (s : State) : Out :=
  match s.rly.gaps with
  | [] => .next (s.answer init 0 [0])
  | (_, _, n) :: r =>
    let s := s.answer init 0 [satNat 16 n]
    if init.val = debugInit then .next s else .next (gapStat (s.setRly { s.rly with gaps := r }))

end Sys2Proof.Machine
end

