-- ==== Sys2Proof/Machine/RegView.lean ====
section
/-! DEFINITION. What a read of a register returns where it is more than the register's stored value (R12, R15, R542, R562 and the
register maps): views computed from the state, and reads that pop or latch. A debug read pops and latches nothing (R562). -/

namespace Sys2Proof.Machine

/-- The instance of a register that stands at an address: base, stride, number of instances. -/
def nth (a base st n : Nat) : Option Nat :=
  if base ≤ a ∧ (a - base) % st = 0 ∧ (a - base) / st < n then some ((a - base) / st) else none

/-- The state an outcome goes on to; the one before it where it stops. -/
def after (o : Out) (s : State) : State :=
  match o with
  | .next t => t
  | _ => s

/-- The word that a reading row answers, with the state it leaves; the answer itself is the row's, not the read's. -/
def popRead (o : Out) (s : State) : State × Nat :=
  let t := after o s
  ({ t with ans := s.ans }, t.ans.words.headD 0)

/-- A view that leaves the state as it is. -/
def pure? (s : State) (o : Option Nat) : Option (State × Nat) := o.map (fun v => (s, v))

/-- An initiator as the rows name it. -/
def initOf (i : Nat) : Fin 512 := Fin.ofNat 512 i

/-- Controller block (R442, R536, R537). -/
def viewSvc (s : State) (init a : Nat) : Option (State × Nat) :=
  if a = Reg.IRQ_PEND then some (s, irqPend s init)
  else if a = Reg.WDT_COUNT 0 then some (wdtCount s 0)
  else if a = Reg.WDT_COUNT 1 then some (wdtCount s 1)
  else if a = Reg.FMP_STAT then
    let out := (List.range 8).filter (fun k => (sget (fun _ => ({} : Sector)) s.fmp.sects k).retired)
    some (s, s.fmp.queue.length + 16 * bit s.fmp.store.isSome + (8 - out.length) * 2 ^ 8 + (out.map (fun k => 2 ^ (16 + k))).sum)
  else (nth a (Reg.FMP_SECT_CNT 0) 4 8).map (fun k =>
    (s, ((sget (fun _ => ({} : Sector)) s.fmp.sects k).count.getD 0) % 2 ^ 17))

/-- The head of a timestamp FIFO, word w (R56). -/
def tsiWord (s : State) (n w : Nat) : Nat := bitsOf ((tsInput s n).fifo.headD 0).toNat (32 * w + 31) (32 * w)

/-- Timing block (Tables TLN-11, HOC-4). -/
def viewTim (s : State) (init a : Nat) : Option (State × Nat) :=
  if a = Reg.CAL_S_LO then some (if init = debugInit then (s, s.cal.s % 2 ^ 32) else popRead (execCalSRead (initOf init) s) s)
  else
    pure? s ((nth a (Reg.TO_STAT 0) 0x40 8).map (fun n => (s.tout n).queue.length + 8 * bit (s.tout n).pad))
    <|> pure? s ((nth a (Reg.TSI_LO 0) 0x40 10).map (fun n => tsiWord s n 0))
    <|> pure? s ((nth a (Reg.TSI_MID 0) 0x40 10).map (fun n => tsiWord s n 1))
    <|> (nth a (Reg.TSI_HI 0) 0x40 10).map (fun n => popRead (execTsiHiRead (Fin.ofNat 10 n) (initOf init) s) s)

/-- Pacer block (Tables PAC-7, RBK-8). -/
def viewPac (s : State) (init a : Nat) : Option (State × Nat) :=
  if a = Reg.PAC_STAT then
    some (s, bit (s.flag Reg.PAC_CTL 0 && modeAdmits s.mode) + s.pac.admQ.length * 2 ^ 8 + s.pac.ops.length * 2 ^ 16)
  else if a = Reg.PAC_NOW then some (s, s.pt)
  else if a = Reg.RB_LOSS_LO then some (s, (s.pac.lossQ.headD 0).toNat % 2 ^ 32)
  else if a = Reg.RB_LOSS_HI then some (popRead (execRbLossHiRead (initOf init) s) s)
  else none

/-- The words of a log at its head, and the pop of the last. -/
def logView (s : State) (l : Log) (w : Nat) (pop : Out) : State × Nat := if w = 3 then popRead pop s else (s, logWord l w)

/-- Configuration block (R275). -/
def viewCfg (s : State) (init a : Nat) : Option (State × Nat) :=
  (nth a (Reg.FAR_LOG 0) 4 4).map (fun w => logView s s.far.log w (execFarLogRead (initOf init) s))

/-- Memory block (R318, R328, R355). The windows on CXL.io and CXL configuration space read what the attached device answers,
which the spec leaves open: a free value (log entry 1). -/
def viewMem (s : State) (init a : Nat) : Option (State × Nat) :=
  let h := (a - blockBase blkMem) / 0x100000
  if 0x45600000 ≤ a ∧ a < 0x45B00000 then some (s.took, s.free % 2 ^ 32)
  else if h < 4 then
    (nth a (Reg.MEM_LOG h 0) 4 4).map (fun w => logView s (chanSt s h).log w (execMemLogRead (Fin.ofNat 4 h) (initOf init) s))
  else (nth a (Reg.IMP_LOG 0) 4 4).map (fun w => logView s s.imp.log w (execImpLogRead (initOf init) s))

/-- Lanes block (R356, R361, Table LNE-13). -/
def viewLane (s : State) (a : Nat) : Option (State × Nat) :=
  pure? s ((nth a (Reg.LR_STAT 0) 0x40 64).map (fun l => laneStatView s l))
  <|> pure? s ((nth a (Reg.CV_STAT 0) 0x40 64).map (fun l => laneStatView s (64 + l)))
  <|> pure? s ((nth a (Reg.LR_EQ_VAL 0) 0x40 64).map (fun l => (eqVal s l (s.fld (laneSel l) 4 0)).toNat))
  <|> pure? s ((nth a (Reg.CV_EQ_VAL 0) 0x40 64).map (fun l => (eqVal s (64 + l) (s.fld (laneSel (64 + l)) 4 0)).toNat))
  <|> pure? s ((nth a (Reg.JL_STAT 0) 0x100 16).map (jlStatView s))

/-- Ethernet block (R368). -/
def viewEth (s : State) (init a : Nat) : Option (State × Nat) :=
  let m := (a - blockBase blkEth) / 0x10000
  if m < 8 then
    (nth a (Reg.ETH_TXTS m 0) 4 4).map (fun w =>
      if w = 3 then popRead (execEthTxtsRead (Fin.ofNat 8 m) (initOf init) s) s
      else (s, bitsOf ((macOf s m).txts.headD 0).toNat (32 * w + 31) (32 * w)))
  else none

/-- The core the per-core window serves (Table CAN-12). -/
def winCore (s : State) : CoreState := s.core (s.fld Reg.CA_WIN_SEL 7 0)

/-- Canter block (Table CAN-12). -/
def viewCan (s : State) (a : Nat) : Option (State × Nat) :=
  let k := winCore s
  pure? s ((nth a (Reg.CA_CORE_STAT 0) 4 256).map (fun c =>
    putBits (s.regN a) 3 0 ((s.core c).st % 8 + 8 * bit (s.core c).live)))
  <|> pure? s ((nth a (Reg.CA_CORE_SLOT 0) 4 256).map (fun c => match (s.core c).bank.slot with | some n => n + 2 ^ 31 | none => 0))
  <|> pure? s ((nth a 0x48200000 4 8192).map (fun i => (locGet k 0 i).toNat))
  <|> pure? s ((nth a 0x48208000 4 8192).map (fun i => (locGet k 1 i).toNat))
  <|> pure? s ((nth a 0x48210000 4 4096).map (fun i => (locGet k 2 i).toNat))
  <|> pure? s ((nth a 0x48218000 4 8192).map (fun i => (sget (fun _ => (0 : BitVec 32)) k.i i).toNat))

/-- OTP as the window shows it: the device secret and the secret parts of the attestation keys read zero (R478, Table SEC-2). -/
def otpShown (s : State) (a : Nat) : Byte :=
  if (0x60 ≤ a ∧ a < 0x80) ∨ (0x280 ≤ a ∧ a < 0x480 ∧ (a - 0x280) % 128 < 64) then 0 else otpByte s a

/-- Security block (R478, R494, Table SEC-10). -/
def viewSec (s : State) (init a : Nat) : Option (State × Nat) :=
  if a = Reg.SEC_STAT then some (s, putBits (s.regN a) 5 4 s.debugLevel)
  else if a = Reg.SEC_RNG then some (if init = debugInit then (s, 0) else popRead (execSecRngRead (initOf init) s) s)
  else pure? s ((nth a 0x49010000 4 2048).map (fun i => leNat ((List.range 4).map (fun k => otpShown s (4 * i + k)))))

/-- Relay block (R408, R411, Table RLY-8). -/
def viewRly (s : State) (init a : Nat) : Option (State × Nat) :=
  if a = Reg.RELAY_STAT then some (s, putBits (s.regN a) 7 7 (bit (s.rly.fence || s.flag Reg.OUT_STAT 6)))
  else if a = Reg.RELAY_LAG then some (s, putBits (s.regN a) 15 0 (lagNow s))
  else if a = Reg.RELAY_GAP_LO then some (s, match s.rly.gaps with | (f, q, _) :: _ => q + f * 2 ^ 16 | [] => 0)
  else if a = Reg.RELAY_GAP_HI then some (popRead (execRelayGapRead (initOf init) s) s)
  else none

/-- Power block (R358, R465, Table MOD-9): PD_25…PD_28 follow the protocols they serve, and hold while STABLE sleeps. -/
def viewPwr (s : State) (init a : Nat) : Option (State × Nat) :=
  if a = Reg.AVS_CANARY_VAL then
    let c := s.fld Reg.AVS_CANARY_SEL 9 0
    match s.pw.canary.find? (fun e => e.1 == c) with
    | some (_, v, low) =>
      some (if init = debugInit then s else s.setPw { s.pw with canary := sinsert c (v, v) (sdrop c s.pw.canary) }, v + low * 2 ^ 8)
    | none => some (s, 0)
  else
    pure? s ((nth a (Reg.PWR_PD_STAT 25) 4 4).map (fun i =>
      let on :=
        if i = 0 then (List.range 4).any (fun o => s.flag (Reg.LR_OCT_CFG o) 0) || s.flag Reg.CXL_CTL 0
        else if i = 1 then (List.range 8).any (macOn s)
        else (List.range 8).any (fun q => quadOn s (8 * (i - 2) + q))
      if !on then 0 else if laneHold s then 3 else 1))

/-- The peripheral a register of the service-pin block belongs to (R542). -/
def periOf (a : Nat) : Option Nat :=
  let o := a - blockBase blkPin
  if 0x200 ≤ o ∧ o < 0x218 then some 6
  else if 0x10000 ≤ o ∧ o < 0x10200 then some ((o - 0x10000) / 0x100)
  else if 0x20000 ≤ o ∧ o < 0x20010 then some 2
  else if 0x30000 ≤ o ∧ o < 0x30200 then some (4 + (o - 0x30000) / 0x100)
  else none

/-- Service-pin block (R542, R547, R549, R550). -/
def viewPin (s : State) (init a : Nat) : Option (State × Nat) :=
  if (periOf a).any (fun k => !periOn s k) then some (s, 0)
  else if a = Reg.GPIO_DOUT_LO then some (pinWord s 0 32)
  else if a = Reg.GPIO_DOUT_HI then some (pinWord s 32 16)
  else if a = Reg.GPIO_DOUT_Q_LO then some (s, s.regN Reg.GPIO_DOUT_LO)
  else if a = Reg.GPIO_DOUT_Q_HI then some (s, s.regN Reg.GPIO_DOUT_HI)
  else if a = Reg.SPI1_DATA then some (spi1Read s init)
  else (nth a (Reg.UART_DATA 0) 0x100 2).map (fun u => uartRead s u init)

/-- Debug mailbox block (Table DBG-3). -/
def viewDbg (s : State) (init a : Nat) : Option (State × Nat) :=
  if a = Reg.DBG_STAT then some (s, dbgStat s)
  else if a = Reg.DBG_MBOX_H2D then some (h2dRead s init)
  else if a = Reg.DBG_MBOX_D2H then some (s, (s.dbg.d2h.headD 0).toNat)
  else
    pure? s ((nth a (Reg.DBG_CAN_REG 0) 4 128).map (canReg s))
    <|> pure? s ((nth a (Reg.DBG_PAC_ENT 0) 4 8192).map (fun i =>
      bitsOf (sget (fun _ => (0 : BitVec 128)) s.pac.snap (i / 4)).toNat (32 * (i % 4) + 31) (32 * (i % 4))))

/-- The view of a register, where it has one. -/
def regView (s : State) (init a : Nat) : Option (State × Nat) :=
  match blockOf a with
  | 0 => viewSvc s init a
  | 1 => viewTim s init a
  | 2 => viewPac s init a
  | 4 => viewCfg s init a
  | 5 => viewMem s init a
  | 6 => viewLane s a
  | 7 => viewEth s init a
  | 8 => viewCan s a
  | 9 => viewSec s init a
  | 11 => viewRly s init a
  | 12 => viewPwr s init a
  | 13 => viewPin s init a
  | 14 => viewDbg s init a
  | _ => none

/-- A 32-bit word of a mapped register read by an initiator: its view, else its stored value; a register marked WO reads zero (R15). -/
def regRead (s : State) (init a : Nat) (row : RegRow) : State × Nat :=
  if row.acc = .wo then (s, 0)
  else match regView s init a with
    | some r => r
    | none => (s, s.regN a)

/-! Wide registers (R12). -/

/-- The words an initiator has latched of the register at an address. -/
def latchOf (s : State) (init a : Nat) : Option (List Word) := (s.latches.find? (fun e => e.1 == (init, a))).map (·.2)

/-- A word of a register read under R12: word 0 of a wider register latches all of it for the initiator. -/
def wideRead (s : State) (init a w : Nat) (row : RegRow) : State × Nat :=
  if row.words ≤ 1 then regRead s init a row
  else
    let base := a - 4 * w
    if w = 0 then
      let ws := (List.range row.words).map (fun k => BitVec.ofNat 32 (regRead s init (base + 4 * k) row).2)
      ({ s with latches := s.latches.filter (fun e => e.1 != (init, base)) ++ [((init, base), ws)] }, (ws.headD 0).toNat)
    else match latchOf s init base with
      | some ws => (s, (ws.getD w 0).toNat)
      | none => regRead s init a row

end Sys2Proof.Machine
end

