-- ==== Sys2Proof/Machine/RegWrite.lean ====
section
/-! DEFINITION. What a write of a register does: its stored bits, or the act the register's chapter gives it; writes refused by the
mode, by a gate or by the register's own rule (R15…R18, R542 and the register maps). -/

namespace Sys2Proof.Machine

/-! The common event registers (R17…R20). -/

/-- A write of EVT_STATUS of block b; a UART's level bit stays while its FIFO holds a word (R549). -/
def evtClear (s : State) (b v : Nat) : State :=
  let a := evtStatus b
  let s := s.setRegN a (s.regN a - Nat.land (s.regN a) v)
  if b = blkPin then
    [0, 1].foldl (fun s u => if (uartOf s u).rx.isEmpty then s else s.setFlag a (3 * u) true) s
  else s

/-- A write of EVT_COUNT_CLR of block b. -/
def evtCountZero (s : State) (b v : Nat) : State :=
  (List.range 32).foldl (fun s n => if v.testBit n then s.setRegN (evtCount b n) 0 else s) s

/-- A write at an offset of the event registers of block b. -/
def evtSet (s : State) (b off v : Nat) : State :=
  if off = 0xF00000 then evtClear s b v
  else if off = 0xF00004 then s.setRegN (evtEnable b) v
  else if off = 0xF00008 then evtCountZero s b v
  else s

/-! Writes by block. Each answers none where the register has no act of its own. -/

/-- The act at a register of an array. -/
def act (o : Option Nat) (f : Nat → State) : Option State := o.map f

/-- Controller block. -/
def setSvcReg (s : State) (init a v : Nat) : Option State :=
  if a = Reg.SYS_SWI then some (sysSwi s v)
  else if a = Reg.SYS_UNLOCK then some (sysUnlock s init v)
  else if a = Reg.FLASH_CMD then some (flashCmd s init v)
  else
    act (nth a (Reg.WDT_CFG 0) 0x10 2) (fun p => wdtCfg s p init v)
    <|> act (nth a (Reg.WDT_KICK 0) 0x10 2) (fun p => wdtKick s p init v)

/-- A write of TL_CMD (Table TLN-12). -/
def tlCmd (s : State) (v : Nat) : State :=
  let run (s : State) (n : Nat) (o : Out) : State := if v.testBit n then after o s else s
  let s := run s 0 (execCapture s)
  let s := run s 1 (execForceStep s)
  let s := run s 2 (execForceAcquire s)
  run s 3 (execRequalify s)

/-- A write of TL_REF_CFG_r (R34, R39): a reference disabled is no longer qualified, and a new priority selects anew. -/
def refCfg (s : State) (r v : Nat) : State :=
  let was := refEn s r
  let s := s.setRegN (Reg.TL_REF_CFG r) v
  if was && !v.testBit 0 then
    let s := if r < 2 then setGnss s r {} else s
    tlLose (refSettle (s.setFlag (Reg.TL_REF_STAT r) 0 false))
  else refSettle s

/-- A write of FSYN_NUM or FSYN_DEN (R58): refused while the synthesiser is enabled; FSYN_0…FSYN_4 in BOOT, BLANK and COMMISSION only. -/
def fsynRatio (s : State) (n a v : Nat) : State :=
  if n < 5 ∧ !modeIn s 0x16 then s.raise blkTim 31
  else if s.flag (Reg.FSYN_CTL n) 0 then s.raise blkTim 14
  else s.setRegN a v

/-- A write of HO_CMD (Table HOC-4). -/
def hoCmd (s : State) (v : Nat) : State :=
  let s := if v.testBit 0 then after (execSnap s) s else s
  if v.testBit 1 then after (execForget s) s else s

/-- A write of HO_TSENS_CFG: without EN no reading is valid (R64). -/
def tsensCfg (s : State) (v : Nat) : State :=
  let s := s.setRegN Reg.HO_TSENS_CFG v
  if v.testBit 16 then s else s.setFlag Reg.HO_TEMP 16 false

/-- Timing block. `w` is the value as written, `v` its writable bits. -/
def setTimReg (s : State) (a v w : Nat) : Option State :=
  let x := BitVec.ofNat 32 w
  if a = Reg.TL_CMD then some (tlCmd s w)
  else if a = Reg.TL_PTP_MEAS then some (after (execTlPtpMeas x s) s)
  else if a = Reg.TL_PTP_S_LO then some (s.setRegN a w)
  else if a = Reg.TL_PTP_S_HI then some (after (execTlPtpSHi x s) s)
  else if a = Reg.HO_CMD then some (hoCmd s w)
  else if a = Reg.HO_TSENS_CFG then some (tsensCfg s v)
  else if a = Reg.CAL_SET_HI then some (after (execCalSet x s) s)
  else if a = Reg.CAL_LEAP_LO then some (s.setRegN a w)
  else if a = Reg.CAL_LEAP_HI then some (after (execCalLeapAdd x s) s)
  else
    act (nth a (Reg.TL_REF_CFG 0) 0x10 5) (fun r => refCfg s r v)
    <|> act (nth a (Reg.TO_CTL 0) 0x40 8) (fun n => after (execToCtlWrite (Fin.ofNat 8 n) x s) s)
    <|> act (nth a (Reg.TO_EDGE_T 0) 0x40 8) (fun n => after (execToEdgeTWrite (Fin.ofNat 8 n) x s) s)
    <|> act (nth a (Reg.FSYN_CTL 0) 0x20 24) (fun n => after (execFsynArm (Fin.ofNat 24 n) x s) s)
    <|> act (nth a (Reg.FSYN_NUM 0) 0x20 24) (fun n => fsynRatio s n a v)
    <|> act (nth a (Reg.FSYN_DEN 0) 0x20 24) (fun n => fsynRatio s n a v)

/-- Pacer block: the registers of Table RLY-5 by their rules there; a doorbell; PAC_TOK_BASE fixed while EN = 1; RB_TEST. -/
def setPacReg (s : State) (a w : Nat) : Option State :=
  let off := a - blockBase blkPac
  if a = Reg.PAC_TOK_BASE then some (if s.flag Reg.PAC_CTL 0 then s else s.setRegN a (Nat.land w 0x3FC0000))
  else if a = Reg.RB_TEST then some (after (execRbTest (BitVec.ofNat 32 w) s) s)
  else if (pacCfg s off w).isSome then some (pacWrite s off w)
  else act (nth a (Reg.PAC_ADMIT 0) 4 16) (fun n => after (execPacAdmit (Fin.ofNat 16 n) (BitVec.ofNat 32 w) s) s)

/-- NoC block: NOC_CURB_BURST sets the bucket (R290). -/
def setNocReg (s : State) (a v w : Nat) : Option State :=
  let x := BitVec.ofNat 32 w
  if a = Reg.NOC_MON_CLR then some (after (execNocMonClr x s) s)
  else if a = Reg.SP_FLIP_2 then some (after (execSpFlipArm x s) s)
  else
    act (nth a (Reg.NOC_CURB_BURST 0) 0x10 64) (fun n =>
      let s := s.setRegN a v
      retryPaced (s.setRegN (Reg.NOC_CURB_LEVEL n) (curbBurst s n)))
    <|> act (nth a (Reg.SP_BANK_CFG 0) 0x10 64) (fun b => after (execSpBankCfgWrite (Fin.ofNat 64 b) x s) s)

/-- Configuration block. -/
def setCfgReg (s : State) (a w : Nat) : Option State :=
  let x := BitVec.ofNat 32 w
  if a = Reg.CFG_CMD then some (cfgCmd s w)
  else if a = Reg.BM_FLIP_2 then some (after (execBmFlipArm x s) s)
  else if a = Reg.FAR_CMD then some (if w.testBit 0 then after (execRestorePeer x s) s else s)
  else if a = Reg.FAR_PRIO 4 then some (after (execFarPrioCommit x s) s)
  else if a = Reg.FAR_INJ_BIT then some (after (execFarInject x s) s)
  else act (nth a (Reg.GCK_CFG 0) 8 48) (fun k => gckWrite s k w)

/-- A write of MEM_CMD_h. -/
def memCmd (s : State) (h v : Nat) : State :=
  let h := Fin.ofNat 4 h
  let run (s : State) (n : Nat) (o : Out) : State := if v.testBit n then after o s else s
  let s := run s 0 (execInit h s)
  let s := run s 1 (execRetirePage h s)
  run s 2 (execRetireBank h s)

/-- A write of IMP_ROLL_CMD (R350, R352). -/
def rollCmd (s : State) (v : Nat) : State :=
  let s := if v.testBit 0 then after (execRollStart (BitVec.ofNat 32 v) s) s else s
  let s := if v.testBit 1 then rollPause s else s
  if v.testBit 2 then rollResume s else s

/-- A write of IMP_RNG_CTL_n (R335). -/
def rngCtl (s : State) (n v : Nat) : State :=
  let x := BitVec.ofNat 32 v
  if v.testBit 8 then after (execImpRangeCommit (Fin.ofNat 16 n) x s) s else after (execImpRangeDecommit (Fin.ofNat 16 n) x s) s

/-- A write of another register of a range: fixed while the range is committed; SIZE shows what it needs (R335, R340). -/
def rngSet (s : State) (n a v : Nat) : State :=
  if rngOn s n then s
  else
    let s := s.setRegN a v
    if a = Reg.IMP_RNG_SIZE n then rngShow s n else s

/-- Memory block. -/
def setMemReg (s : State) (init a v w : Nat) : Option State :=
  let x := BitVec.ofNat 32 w
  if 0x45600000 ≤ a ∧ a < 0x45B00000 then some s
  else if a = Reg.IMP_ROLL_CMD then some (rollCmd s w)
  else if a = Reg.IMP_RESEED then some (after (execImpReseed x s) s)
  else if a = Reg.IMP_TAG_FLIP then some (after (execImpTagFlipArm x s) s)
  else
    memHook s init a v
    <|> act (nth a (Reg.MEM_CMD 0) 0x100000 4) (fun h => memCmd s h w)
    <|> act (nth a (Reg.MEM_FLIP_CTL 0) 0x100000 4) (fun h => after (execMemFlipArm (Fin.ofNat 4 h) x s) s)
    <|> act (nth a (Reg.CXL_DEC_BASE 0) 0x10 4) (fun d => if decOn s d then s else s.setRegN a v)
    <|> act (nth a (Reg.CXL_DEC_SIZE 0) 0x10 4) (fun d => if decOn s d then s else s.setRegN a v)
    <|> act (nth a (Reg.CXL_DEC_CTL 0) 0x10 4) (fun d => after (execCxlDecCommit (Fin.ofNat 4 d) x s) s)
    <|> act (nth a (Reg.IMP_RNG_BASE_LO 0) 0x20 16) (fun n => rngSet s n a v)
    <|> act (nth a (Reg.IMP_RNG_BASE_HI 0) 0x20 16) (fun n => rngSet s n a v)
    <|> act (nth a (Reg.IMP_RNG_SIZE 0) 0x20 16) (fun n => rngSet s n a v)
    <|> act (nth a (Reg.IMP_RNG_META_LO 0) 0x20 16) (fun n => rngSet s n a v)
    <|> act (nth a (Reg.IMP_RNG_META_HI 0) 0x20 16) (fun n => rngSet s n a v)
    <|> act (nth a (Reg.IMP_RNG_CTL 0) 0x20 16) (fun n => rngCtl s n w)

/-- Lanes block: LR_TXFFE is read-only on PCIe and CXL lanes (R361). -/
def setLaneReg (s : State) (a w : Nat) : Option State :=
  let x := BitVec.ofNat 32 w
  if a = Reg.JSYSREF_CMD then some (after (execAdopt x s) s)
  else if a = Reg.TETH_CFG then some (tethCfg s w)
  else if a = Reg.TETH_CMD then some (after (execSlip x s) s)
  else
    act (nth a (Reg.LR_TXFFE 0) 0x40 64) (fun l => if l < 32 then s else s.setRegN a (Nat.land w 0x3FFFFFFF))
    <|> act (nth a (Reg.LR_EQ_VAL 0) 0x40 64) (fun l => eqWrite s l w)
    <|> act (nth a (Reg.CV_EQ_VAL 0) 0x40 64) (fun l => eqWrite s (64 + l) w)
    <|> act (nth a (Reg.LR_OCT_CFG 0) 0x10 8) (fun o => octWrite s o w)
    <|> act (nth a (Reg.CV_QUAD_CFG 0) 0x10 16) (fun q => quadWrite s q w)
    <|> act (nth a (Reg.JL_TX_CFG 0) 0x100 16) (fun q => jlWrite s q false w)
    <|> act (nth a (Reg.JL_RX_CFG 0) 0x100 16) (fun q => jlWrite s q true w)
    <|> act (nth a (Reg.JL_LEMC_OFS 0) 0x100 16) (fun q => lemcWrite s q w)

/-- Ethernet block. -/
def setEthReg (s : State) (a w : Nat) : Option State :=
  if a = Reg.MGT_CFG then some (mgtCfg s w)
  else
    act (nth a (Reg.ETH_CFG 0) 0x10000 8) (fun m => ethCfg s m w)
    <|> act (nth a (Reg.ETH_TXP_CTL 0) 0x10000 8) (fun m => after (execEthTxpPush (Fin.ofNat 8 m) (BitVec.ofNat 32 w) s) s)

/-- A write of the per-core window: memory X, Y, C or I of the selected core, while its team has power; a write of instruction
memory while a core of the team holds an operation is told (R166). -/
def winSet (s : State) (mem i v : Nat) : State :=
  let c := s.fld Reg.CA_WIN_SEL 7 0
  let x := BitVec.ofNat 32 v
  let t := teamOf c
  if !teamOn s t then s
  else if mem < 3 then s.setCore c (locPut (s.core c) mem i x)
  else
    let live := (List.range 64).any (fun j => coreHolds (s.core (64 * t + j)))
    (s.setCore c { s.core c with i := sput (fun _ => 0) (s.core c).i i x }).raiseIf live blkCan 7

/-- Canter block. -/
def setCanReg (s : State) (a w : Nat) : Option State :=
  if a = Reg.CA_SAVE_BASE then some (if s.flag Reg.CA_STAT 8 then s else s.setRegN a (Nat.land w 0x3FC0000))
  else if 0x48100000 ≤ a ∧ a < 0x48140000 ∧ (a - 0x48100000) % 0x10000 < 0x8000 then
    some (after (execCaImemWrite (Fin.ofNat 4 ((a - 0x48100000) / 0x10000)) (Fin.ofNat 8192 ((a - 0x48100000) % 0x10000 / 4))
      (BitVec.ofNat 32 w) s) s)
  else
    act (nth a 0x48200000 4 8192) (fun i => winSet s 0 i w)
    <|> act (nth a 0x48208000 4 8192) (fun i => winSet s 1 i w)
    <|> act (nth a 0x48210000 4 4096) (fun i => winSet s 2 i w)
    <|> act (nth a 0x48218000 4 8192) (fun i => winSet s 3 i w)

/-- Security block (R485, R489, R499); FW_STAGE acts where a staged image is processed (R482). -/
def setSecReg (s : State) (a w : Nat) : Option State :=
  if a = Reg.SEC_CMD_CTL then some (if w.testBit 0 then ownerExec s false else s)
  else if a = Reg.SEC_KEY_CMD then some (keyCmd s w)
  else if a = Reg.SEC_BIST_CMD then some (bistCmd s w)
  else none

/-- A period that must divide a second's 30,720,000 ticks (R512, R524); another is refused with OUT_REFUSED. -/
def perSet (s : State) (a v : Nat) : State :=
  if v ≠ 0 ∧ 30720000 % v = 0 then (s.setRegN a v).outStat else s.raise blkOut 16

/-- Outrider block: what G and the mute pins rest on is brought up to date (R509). -/
def setOutReg (s : State) (a v w : Nat) : Option State :=
  if a = Reg.OUT_LATCH then some (latchClear s w)
  else if a = Reg.OUT_WIN_PERIOD ∨ a = Reg.OUT_BIST_PERIOD then some (perSet s a v)
  else if a = Reg.OUT_CFG ∨ a = Reg.OUT_MUTE_SW ∨ a = Reg.OUT_WIN_CFG then some (s.setRegN a v).gateSettle
  else none

/-- Relay block. -/
def setRlyReg (s : State) (a w : Nat) : Option State :=
  let x := BitVec.ofNat 32 w
  if a = Reg.RELAY_CFG then some (relayCfg s w)
  else if a = Reg.RELAY_CMD then some (relayCmd s w)
  else
    act (nth a (Reg.RELAY_MIR_CTL 0) 0x10 8) (fun n => after (execRelayMirCommit (Fin.ofNat 8 n) x s) s)
    <|> act (nth a (Reg.RELAY_MP_DB 0) 0x10 16) (fun k => after (execRelayMpDb (Fin.ofNat 16 k) x s) s)

/-- Power block. Whether a regulator reports a linear format is the board's: a free value (R464). -/
def setPwrReg (s : State) (a v w : Nat) : Option State :=
  if a = Reg.PWR_CMD then some (pwrCmd s w)
  else if a = Reg.PWR_POLICY then some (s.setRegN a v).permitSettle
  else
    act (nth a (Reg.PWR_PD_CTL 0) 4 35) (fun d => pdCtl s d (w.testBit 0))
    <|> act (nth a (Reg.AVS_RAIL_CFG 0) 0x10 8) (fun k => railCfg s.took k w (s.free % 2 == 1))

/-- Service-pin block: a gated peripheral's registers ignore writes (R542). -/
def setPinReg (s : State) (init a w : Nat) : Option State :=
  if (periOf a).any (fun k => !periOn s k) then some s
  else if a = Reg.PERI_GATE then some (periGate s init w)
  else if a = Reg.GPIO_DOUT_LO then some (gpioDout s false w)
  else if a = Reg.GPIO_DOUT_HI then some (gpioDout s true w)
  else if a = Reg.SPI1_CMD then some (spi1Cmd s w)
  else if a = Reg.SPI1_DATA then some (spi1Push s w)
  else
    act (nth a (Reg.PIN_CFG 0) 4 48) (fun n => pinCfg s n w)
    <|> act (nth a (Reg.UART_DATA 0) 0x100 2) (fun u => uartPush s u w)
    <|> act (nth a (Reg.I2C_CMD 0) 0x100 2) (fun i => i2cCmd s i w)

/-- Debug mailbox block: written by the debug port, and D2H pushed by the pairs (R572). -/
def setDbgReg (s : State) (init a w : Nat) : Option State :=
  if a = Reg.DBG_MBOX_D2H then some (d2hWrite s init w)
  else if init ≠ debugInit then some s
  else if a = Reg.DBG_CAN_HALT then some (canHalt s init w)
  else if a = Reg.DBG_CAN_RESUME then some (canResume s init w)
  else if a = Reg.DBG_PAC_SNAP then some (pacSnap s init w)
  else if a = Reg.DBG_MBOX_H2D then some (h2dPush s init w)
  else act (nth a (Reg.DBG_CAN_REG 0) 4 128) (fun i => canRegSet s i w)

/-- The act of a write of `w`, whose bits the register can hold are `v`, where the register has one. -/
def regAct (s : State) (init a v w : Nat) : Option State :=
  match blockOf a with
  | 0 => setSvcReg s init a w
  | 1 => setTimReg s a v w
  | 2 => setPacReg s a w
  | 3 => setNocReg s a v w
  | 4 => setCfgReg s a w
  | 5 => setMemReg s init a v w
  | 6 => setLaneReg s a w
  | 7 => setEthReg s a w
  | 8 => setCanReg s a w
  | 9 => setSecReg s a w
  | 10 => setOutReg s a v w
  | 11 => setRlyReg s a w
  | 12 => setPwrReg s a v w
  | 13 => setPinReg s init a w
  | 14 => setDbgReg s init a w
  | _ => none

/-- A word written to a register whatever the mode: its act, else W1C bits cleared, else its writable bits stored. -/
def regPut (s : State) (init a w : Nat) (row : RegRow) : State :=
  let v := Nat.land w row.mask
  match regAct s init a v w with
  | some s => s
  | none =>
    match row.acc with
    | .w1c => s.setRegN a (s.regN a - Nat.land (s.regN a) v)
    | .wo => s
    | _ => s.setRegN a (s.regN a - Nat.land (s.regN a) row.mask + v)

/-- A word written to a mapped register: read-only ones ignore it (R15); an RWM one outside its modes ignores it with MODE_LOCK_VIOL
(R16); else it is put. -/
def regSet (s : State) (init a w : Nat) (row : RegRow) : State :=
  if row.acc = .ro then s
  else if row.acc = .rwm ∧ !modeIn s row.modes then s.raise (blockOf a) 31
  else regPut s init a w row

end Sys2Proof.Machine
end

