-- ==== Sys2Proof/Machine/Dict.lean ====
section
/-! DEFINITION. The values of the object dictionary (R421…R424, R433, R438): which object an index and subindex name, what a read
returns, what a write does, and when a write is refused. -/

namespace Sys2Proof.Machine

/-- The state with FMP's own part replaced. -/
def State.setFmp (s : State) (x : Fmp) : State := { s with fmp := x }

/-! Types (Table ODP-1). -/

/-- The fixed size in bytes of a type code; 0 where it varies. -/
def tySize (t : Nat) : Nat := [0, 1, 1, 2, 4, 8, 1, 2, 4, 8, 12, 4].getD t 0
/-- The names of the type codes 1 to 14. -/
def tyNames : List String :=
  ["BOOL", "U8", "U16", "U32", "U64", "I8", "I16", "I32", "I64", "TIMELINE", "FIXED32", "STRING", "OCTETS", "DOMAIN"]
/-- A type's name as STRING(16). -/
def tyName (t : Nat) : List Byte := padTo 16 ((tyNames.getD (t - 1) "").toList.map (fun c => BitVec.ofNat 8 c.toNat))

/-! Which object (R421, R422, R424, R440). -/

/-- What an index and subindex name: nothing (with the abort code), an object of the manual, a user object, a vendor index. -/
inductive Named where
  | none (code : Nat)
  | obj (o : Obj)
  | user
  | vendor
  deriving DecidableEq, Repr

/-- A constant that the dictionary itself gives. -/
def constObj (index sub ty size v : Nat) : Obj :=
  { index, first := sub, last := sub, from_ := sub, ty, size, acc := .const, role := 1, dflt := v, p := false, m := false, home := .num v }

/-- The type descriptions of indices 0x0001…0x000E (R422). -/
def typeObj (t sub : Nat) : Named :=
  if sub = 0 then .obj (constObj t 0 2 1 2)
  else if sub = 1 then .obj (constObj t 1 4 4 (tySize t))
  else if sub = 2 then .obj (constObj t 2 12 16 (leNat (tyName t)))
  else .none 0x0A02

/-- What an index and subindex name in a life-cycle state. -/
def nameOf (life index sub : Nat) : Named :=
  if 1 ≤ index ∧ index ≤ 14 then typeObj index sub
  else if 0xF000 ≤ index then (if life = 3 then .none 0x0A01 else .vendor)
  else if 0xA000 ≤ index then .user
  else
    let rows := objRows.filter (fun o => o.index == index)
    if rows.isEmpty then .none 0x0A01
    else match rows.find? (fun o => decide (o.first ≤ sub) && decide (sub ≤ o.last)) with
      | some o => .obj o
      | none => if sub = 0 then .obj (constObj index 0 2 1 ((rows.map (·.last)).foldl Nat.max 0)) else .none 0x0A02

/-! Reading. -/

/-- A register as firmware reads it (initiator 436), nothing popped. -/
def regLook (s : State) (a : Nat) : Nat :=
  match regRow a with
  | some (row, _) => (regRead s 436 a row).2
  | none => 0
/-- A register as firmware writes it. -/
def regPoke (s : State) (a v : Nat) : State :=
  match regRow a with
  | some (row, _) => if row.acc = .ro then s else regPut s 436 a v row
  | none => s

/-- n consecutive registers as bytes. -/
def lookWords (s : State) (a n : Nat) : List Byte := (List.range n).flatMap (fun i => leBytes 4 (regLook s (a + 4 * i)))
/-- n consecutive registers written from bytes, from the lowest up. -/
def pokeWords (s : State) (a n : Nat) (v : List Byte) : State :=
  (List.range n).foldl (fun s i => regPoke s (a + 4 * i) (fieldLe v (4 * i) 4)) s

/-- A field of a register written, its other bits as they are. -/
def pokeFld (s : State) (a hi lo v : Nat) : State := regPoke s a (putBits (s.regN a) hi lo v)

/-- The key of a value of FMP's own RAM. -/
def valKey (index sub : Nat) : Nat := 256 * index + sub
/-- A value of FMP's own RAM; its default where nothing has written it. -/
def keptVal (s : State) (o : Obj) (sub : Nat) : List Byte :=
  match s.fmp.vals.find? (fun e => e.1 == valKey o.index sub) with
  | some (_, v) => v
  | none => leBytes o.size o.dflt
/-- The state with such a value replaced. -/
def keep (s : State) (index sub : Nat) (v : List Byte) : State :=
  s.setFmp { s.fmp with vals := sinsert (valKey index sub) v (sdrop (valKey index sub) s.fmp.vals) }

/-- The state of a role of FMP. -/
def fmpRole (s : State) (r : Nat) : FmpRole := sget (fun _ => {}) s.fmp.roles r
/-- The state with a role replaced. -/
def setFmpRole (s : State) (r : Nat) (x : FmpRole) : State := s.setFmp { s.fmp with roles := sput (fun _ => {}) s.fmp.roles r x }

/-- The quad TETH_CFG names. -/
def tethQuad (s : State) : Nat := s.fld Reg.TETH_CFG 4 1
/-- The registers of range n in the order of R357. -/
def rangeRegs (n : Nat) : List Nat :=
  [Reg.IMP_RNG_BASE_LO n, Reg.IMP_RNG_BASE_HI n, Reg.IMP_RNG_SIZE n, Reg.IMP_RNG_CTL n, Reg.IMP_RNG_META_LO n, Reg.IMP_RNG_META_HI n]
/-- A bit set of up to n members as bytes. -/
def bitBytes (n : Nat) (p : Nat → Bool) : List Byte :=
  (List.range (ceilDiv n 8)).map (fun i => BitVec.ofNat 8 (((List.range 8).map (fun b => bit (decide (8 * i + b < n) && p (8 * i + b)) * 2 ^ b)).sum))
/-- A sum of registers, saturating at 32 bits. -/
def regSum (s : State) (f : Nat → Nat) (n : Nat) : Nat := satNat 32 ((List.range n).map (fun i => s.regN (f i))).sum

/-- The value of an object that no register holds as it is, as a number. -/
def ownNum (s : State) (index sub : Nat) : Nat :=
  match index, sub with
  | 0x1003, _ => grade s
  | 0x1007, _ => (s.tim.cks - s.pw.porAt) / secCks
  | 0x1021, r => (fmpRole s r).nonce
  | 0x1031, 3 => s.fmp.abort
  | 0x1031, _ => s.fmp.bad
  | 0x2001, _ => tlFormat s.tim.tl
  | 0x2021, 1 => s.fld Reg.TL_LOCK_CFG 7 0
  | 0x2021, 2 => 2 * s.fld Reg.TL_LOCK_CFG 15 8
  | 0x2021, 3 => 128 * s.fld Reg.TL_LOCK_CFG 23 16
  | 0x2021, 4 => s.fld Reg.TL_LOCK_CFG 31 24
  | 0x2021, _ => 128 * s.fld (Reg.TL_REF_CFG 0) 31 24
  | 0x2110, _ => s.cal.s
  | 0x2130, 1 => s.lpp.ctl.toNat
  | 0x2130, _ => bit s.lpp.keep
  | 0x7402, _ => s.regN Reg.CFG_SRC_LO + s.fld Reg.CFG_SRC_HI 15 0 * 2 ^ 32
  | 0x7413, 1 => regSum s Reg.FAR_PAD_CORR paddocks
  | 0x7413, _ => regSum s Reg.FAR_PAD_UNC paddocks
  | 0x7415, _ => if s.flag Reg.FAR_STAT 3 then (if s.flag Reg.FAR_STAT 1 then 1 else 2) else 0
  | 0x4204, _ => s.fld Reg.IMP_ROLL_STAT 1 0 + s.regN Reg.IMP_ROLL_B_LO * 2 ^ 16 + s.fld Reg.IMP_ROLL_B_HI 15 0 * 2 ^ 48
  | 0x5004, _ => s.regN (Reg.CV_QUAD_CFG (tethQuad s))
  | 0x9003, k => arbCount s (k - 1)
  | 0x9023, 1 => if genBits s = 0 then 0 else attIdx s
  | 0x9023, 2 => attTokens s
  | 0x9023, _ => if genBits s = 0 then 0 else genNow s
  | _, _ => 0

/-- The value of an object of the manual. -/
def objGet (s : State) (o : Obj) (sub : Nat) : List Byte :=
  let i := sub - o.from_
  match o.home with
  | .num v => leBytes o.size v
  | .fld b st hi lo => leBytes o.size (bitsOf (regLook s (b + st * i)) hi lo)
  | .bits b lo w => leBytes o.size (bitsOf (regLook s b) (lo + w * i + w - 1) (lo + w * i))
  | .words b st n => padTo o.size (lookWords s (b + st * i) n)
  | .all b _ _ hi lo => leBytes o.size (bitsOf (regLook s b) hi lo)
  | .kept => keptVal s o sub
  | .own =>
    match o.index with
    | 0x1004 => otpBytes s 0x20 16
    | 0x3201 => bitBytes 256 (fun c => s.flag (Reg.CA_CORE_CFG c) 0)
    | 0x7404 => (List.range paddocks).map (fun p => BitVec.ofNat 8 (s.fld (Reg.CFG_PAD_STAT p) 1 0))
    | 0x7410 => bitBytes paddocks (fun p => s.far.set.contains p)
    | 0x4200 => (rangeRegs i).flatMap (fun a => leBytes 4 (regLook s a))
    | 0x7033 => padTo 2048 (s.pw.hist.flatMap (padTo 32))
    | 0x9002 => slotHash s i
    | 0x9021 => s.sec.report
    | 0x9022 => if genBits s = 0 then List.replicate 64 0 else genRoot s (genNow s) ++ otpBytes s (0x280 + 128 * genNow s + 64) 32
    | 0x9030 => keptVal s o sub
    | 0x9031 => keptVal s o sub
    | 0x9032 => keptVal s o sub
    | _ => leBytes o.size (ownNum s o.index sub)

/-! Whether a write is refused (Table ODP-5, orders 9 to 11). -/

/-- The values the mirror set of 0x1050 names: three bytes each, index then subindex, index 0 unused. -/
def mirNames (v : List Byte) : List (Nat × Nat) :=
  ((List.range 64).map (fun i => (fieldLe v (3 * i) 2, fieldLe v (3 * i + 2) 1))).filter (fun e => e.1 != 0)
/-- The mirror set named in 0x1050. -/
def mirExtra (s : State) : List (Nat × Nat) :=
  match s.fmp.vals.find? (fun e => e.1 == valKey 0x1050 0) with
  | some (_, v) => mirNames v
  | none => []
/-- A value of the mirror set (R438). -/
def mirrored (s : State) (o : Obj) (sub : Nat) : Bool := o.m || (mirExtra s).contains (o.index, sub)
/-- A value 0x1050 may name (R438). -/
def mirMay (s : State) (e : Nat × Nat) : Bool :=
  match nameOf s.life e.1 e.2 with
  | .obj o => !(0x1000 ≤ e.1 && e.1 < 0x2000) && !(0x8000 ≤ e.1 && e.1 < 0xA000) && o.acc != .wo && o.acc != .const
  | _ => false

/-- A rule that keeps an object from being executed or written now (order 9): 0x0A06; or that another step is under way (order 11):
0x0A08; 0 where none does. -/
def objBusy (s : State) (o : Obj) (sub v : Nat) : Nat :=
  let not06 (ok : Bool) : Nat := if v = 0 ∨ ok then 0 else 0x0A06
  match o.index, sub with
  | 0x2130, 2 => if s.lpp.en || s.lpp.running then 0x0A06 else 0
  | 0x2040, 3 => if v = 0 then 0 else if !s.muted then 0x0A06 else if s.tim.pend.isSome then 0x0A08 else 0
  | 0x7001, 1 => not06 (releaseOk s)
  | 0x7001, 2 => not06 (recommOk s)
  | 0x7001, 3 => not06 (leaveOk s)
  | 0x7003, 4 => not06 (stableOk s)
  | 0x7403, 2 => if v = 0 then 0 else if !modeIn s partModes || extestOn s then 0x0A06 else if ldrPhase s ≠ 0 then 0x0A08 else 0
  | 0x9010, _ => if s.flag Reg.SEC_CMD_STAT 0 then 0x0A08 else 0
  | _, _ => 0

/-- The mode lets a value be written (order 9): the RWM list, and in SHADOW no mirrored object (R404). -/
def objMode (s : State) (o : Obj) (sub : Nat) : Bool :=
  (match o.acc with | .rwm m => modeIn s m | _ => true) && !(s.shadowing && mirrored s o sub)

/-- A priority set that R263 takes. -/
def prioOk (v : List Byte) : Bool :=
  let set := (List.range paddocks).filter (fun p => ((v.getD (p / 8) 0).toNat).testBit (p % 8))
  (set.filter (fun p => p % 2 == 0)).length ≤ 8 && (set.filter (fun p => p % 2 == 1)).length ≤ 8

/-- A value lies in the range its type and its chapter give it (R433, order 10). -/
def objRange (s : State) (o : Obj) (sub : Nat) (v : List Byte) : Bool :=
  let n := leNat v
  let ty := if o.ty = 1 then decide (n ≤ 1) else if o.ty = 12 then allZero (v.dropWhile (fun b => b != 0)) else true
  ty && match o.index, sub with
    | 0x1012, 2 => decide (n ≤ 7)
    | 0x1012, 3 => decide (1 ≤ n) && decide (n ≤ 4094)
    | 0x1015, 3 => decide (n ≤ 3)
    | 0x1015, _ => decide (n ≤ 1)
    | 0x1050, _ => (mirNames v).all (mirMay s)
    | 0x2032, _ => decide (n % 8 ≤ 6)
    | 0x2104, _ => decide (n ≤ 2)
    | 0x7402, 1 => decide (n ≤ 1)
    | 0x7410, _ => prioOk v
    | _, _ => true

/-! Writing. -/

/-- A value in units of a register, to the nearest. -/
def rounded (v unit : Nat) : Nat := (v + unit / 2) / unit

/-- The settings of 0x2021 (Table TLN-14). -/
def lockSet (s : State) (sub v : Nat) : State :=
  let c := Reg.TL_LOCK_CFG
  match sub with
  | 1 => pokeFld s c 7 0 v
  | 2 => pokeFld s c 15 8 (rounded v 2)
  | 3 => pokeFld s c 23 16 (rounded v 128)
  | 4 => pokeFld s c 31 24 v
  | _ => (List.range 5).foldl (fun s r => pokeFld s (Reg.TL_REF_CFG r) 31 24 (rounded v 128)) s

/-- The high half staged, then the low half committed (R86). -/
def lppPut (s : State) (v : Nat) : State :=
  let s := after (execLppCtlHWrite (BitVec.ofNat 16 (v / 2 ^ 16)) s) s
  after (execLppCtlLWrite (BitVec.ofNat 16 v) s) s

/-- A plaintext key loaded, its blob kept in a blob object; where the LOAD is refused the abort code is open. -/
def keyWrite (s : State) (cls slot index sub : Nat) (v : List Byte) : State × Nat :=
  match keyLoad s cls slot v with
  | (s, some b) => (keep (setKeyBuf s b) index sub b, 0)
  | (s, none) => ((setKeyBuf s []).took, s.free % 2 ^ 16)

/-- A blob kept and unwrapped (R489). -/
def blobWrite (s : State) (cls slot index sub : Nat) (v : List Byte) : State × Nat :=
  (setKeyBuf (keyUnwrap (keep s index sub v) cls slot v).1 [], 0)

/-- A DOMAIN taken as an owner command (R485). -/
def ownerWrite (s : State) (v : List Byte) : State :=
  ownerExec ((List.range 753).foldl (fun s i => s.setRegN (Reg.SEC_CMD_BUF i) (fieldLe v (4 * i) 4)) s) false

/-- A write of an object that its chapter gives an act of its own; BOOL objects that execute do so on 1. -/
def ownSet (s : State) (index sub : Nat) (v : List Byte) : State × Nat :=
  let n := leNat v
  let on (t : State) : State × Nat := (if n = 0 then s else t, 0)
  match index, sub with
  | 0x1020, r => keyWrite s 0 r 0x9032 r v
  | 0x2021, k => (lockSet s k n, 0)
  | 0x2040, _ => on (s.forceStep (stepOffset s))
  | 0x2112, _ =>
    let eff := match s.fmp.vals.find? (fun e => e.1 == valKey 0x2112 1) with | some (_, b) => leNat b | none => 0
    (s.leapAdd (eff % 2 ^ 48) n, 0)
  | 0x2130, 1 => (lppPut s n, 0)
  | 0x2130, _ => (after (execLppKeepWrite (BitVec.ofNat 16 n) s) s, 0)
  | 0x3201, _ => ((List.range 256).foldl (fun s c => pokeFld s (Reg.CA_CORE_CFG c) 0 0 (bit (n.testBit c))) s, 0)
  | 0x7402, _ => (pokeFld (regPoke s Reg.CFG_SRC_LO n) Reg.CFG_SRC_HI 15 0 (n / 2 ^ 32), 0)
  | 0x7403, _ => on (cfgCmd s 2)
  | 0x7410, _ => (pokeWords s (Reg.FAR_PRIO 0) 5 v, 0)
  | 0x4200, k => (((rangeRegs (k - 1)).zipIdx.filter (fun e => e.2 != 3)).foldl (fun s e => regPoke s e.1 (fieldLe v (4 * e.2) 4)) s
      |> fun s => regPoke s (Reg.IMP_RNG_CTL (k - 1)) (fieldLe v 12 4), 0)
  | 0x4203, _ =>
    let arg (k : Nat) : Nat := match s.fmp.vals.find? (fun e => e.1 == valKey 0x4203 k) with | some (_, b) => leNat b | none => 0
    on (rollCmd s (1 + arg 1 % 16 * 2 ^ 8 + arg 2 % 64 * 2 ^ 16))
  | 0x4205, _ => (regPoke s Reg.IMP_RESEED n, 0)
  | 0x5004, _ => (regPoke s (Reg.CV_QUAD_CFG (tethQuad s)) n, 0)
  | 0x6001, _ => (regPoke s Reg.OUT_LATCH n, 0)
  | 0x7001, 1 => on (pwrCmd s 1)
  | 0x7001, 2 => on (pwrCmd s 2)
  | 0x7001, 3 => on (pwrCmd s 4)
  | 0x7001, _ => on (pwrCmd s 64)
  | 0x7003, _ => on (pwrCmd s 8)
  | 0x7031, _ => on (pwrCmd s 128)
  | 0x8005, k => on (relayCmd s (2 ^ (k - 1)))
  | 0x9010, _ => (ownerWrite s v, 0)
  | 0x9030, _ => blobWrite s 1 0 0x9030 0 v
  | 0x9031, k => blobWrite s 2 (k - 1) 0x9031 k v
  | 0x9032, k => blobWrite s 0 k 0x9032 k v
  | 0x9033, k => keyWrite s 2 (k - 1) 0x9031 k v
  | 0x9034, _ => keyWrite s 1 0 0x9030 0 v
  | _, _ => (s, 0)

/-- A value written to an object of the manual, whatever the mode; with an abort code that its act alone can give. -/
def objSet (s : State) (o : Obj) (sub : Nat) (v : List Byte) : State × Nat :=
  let i := sub - o.from_
  let n := leNat v
  match o.home with
  | .num _ => (s, 0)
  | .fld b st hi lo => (pokeFld s (b + st * i) hi lo n, 0)
  | .bits b lo w => (pokeFld s b (lo + w * i + w - 1) (lo + w * i) n, 0)
  | .words b st k => (pokeWords s (b + st * i) k v, 0)
  | .all b st k hi lo => ((List.range k).foldl (fun s j => pokeFld s (b + st * j) hi lo n) s, 0)
  | .kept => (keep s o.index sub v, 0)
  | .own => ownSet s o.index sub v

/-! The mirror set on a primary (R403, R438). -/

/-- An OBJ entry's DATA (Table RLY-4). -/
def objData (index sub : Nat) (v : List Byte) : List Byte :=
  leBytes 2 index ++ leBytes 1 sub ++ leBytes 1 (v.length - 1) ++ List.replicate 4 0 ++ v
/-- The frames such an entry takes (R398). -/
def objFrames (v : List Byte) : Nat := Nat.max 1 (ceilDiv (8 + v.length) 80)
/-- A write of a mirrored value journalled; a snapshot that still has to send it does so no more (R417). -/
def jObj (s : State) (o : Obj) (sub : Nat) (v : List Byte) : State :=
  if mirrored s o sub && jOn s then
    let s := s.setRly { s.rly with snap := s.rly.snap.filter (fun e => match e with | .obj i k _ => !(i == o.index && k == sub) | _ => true) }
    jEntry s 10 (objData o.index sub v)
  else s

/-- An accepted write: its effect, then its journal entry. -/
def objWrite (s : State) (o : Obj) (sub : Nat) (v : List Byte) : State × Nat :=
  let (s, code) := objSet s o sub v
  (if code = 0 then jObj s o sub v else s, code)

/-- OBJ (R402, R438): a carried value written as by OWNER; one the dictionary refuses is a mismatch. The RWM list does not bar it (log
entry 24). -/
def applyObj (s : State) (d : List Byte) : Option State :=
  let sub := fieldLe d 2 1
  match nameOf s.life (fieldLe d 0 2) sub with
  | .obj o =>
    let v := slice d 8 o.size
    let wr := match o.acc with | .rw => true | .rwm _ => true | _ => false
    if !wr || o.size == 0 || (o.size - 1) % 256 != fieldLe d 3 1 || !objRange s o sub v || objBusy s o sub (leNat v) != 0 then none
    else some (objSet s o sub v).1
  | _ => none
/-- OBJ (R438). -/
def execObj (s : State) : Out := .next (jApply s 10 applyObj)

/-! Joining (R417). -/

/-- Every value of the mirror set. -/
def mirAll (s : State) : List (Obj × Nat) :=
  objRows.flatMap (fun o => ((List.range (o.last + 1 - o.first)).map (fun i => (o, o.first + i))).filter (fun e => mirrored s e.1 e.2))

/-- The offsets of the Pacer registers of Table RLY-5 that can be read. -/
def cfgOffsets : List Nat :=
  [0, 0x0C, 0x14] ++ (List.range 16).flatMap (fun g => [0x400 + 16 * g, 0x404 + 16 * g]) ++ (List.range 1024).map (fun f => 0x10000 + 8 * f)
    ++ (List.range 256).map (fun q => 0x30000 + 4 * q) ++ [0x100000, 0x100004]

/-- The snapshot of R417: mirror ranges, objects, Pacer registers, unreleased operations in acceptance order, SNAP_END. -/
def snapshot (s : State) : List SnapItem :=
  ((List.range 8).filter (mirOn s)).map (fun n => .mem (mirBase s n) (mirSize s n))
    ++ (mirAll s).map (fun e => .obj e.1.index e.2 (objGet s e.1 e.2))
    ++ cfgOffsets.map .cfg ++ s.pac.ops.map (fun o => .adm o.id) ++ [.done]

/-- JOIN_REQ (R417): a primary refuses a different BUILD_ID with SNAP_END, else its partner is JOINING, live entries are journalled and
the snapshot begins. -/
def execJoinReq (s : State) : Out :=
  match relTake s 13 with
  | none => .next s
  | some (s, b, _) =>
    if s.role ≠ rPrimary then .next s
    else if slice b 12 8 != leBytes 4 (s.regN Reg.CFG_BUILD_LO) ++ leBytes 4 (s.regN Reg.CFG_BUILD_HI) then .next (relMsg s 14 [1])
    else
      let s := (jStop s).setSync 1
      .next (s.setRly { s.rly with snap := snapshot s })

end Sys2Proof.Machine
end

