-- ==== Sys2Proof/Machine/Fmp.lean ====
section
/-! DEFINITION. The Floast management protocol (R425…R441): frames, authentication, the request queue, each command, segmented
transfers, user objects, the persistent store, MGMT_SPI. A request is served by the row of its command when it stands at the head of the
queue. -/

namespace Sys2Proof.Machine

/-! Frames (Table ODP-3). -/

/-- A byte of a frame. -/
def fByte (f : List Byte) (i : Nat) : Nat := (f.getD i 0).toNat
/-- ROLE. -/
def fRole (f : List Byte) : Nat := fByte f 3
/-- SEQ. -/
def fSeq (f : List Byte) : Nat := fieldLe f 4 4
/-- CMD. -/
def fCmd (f : List Byte) : Nat := fByte f 16
/-- INDEX. -/
def fIndex (f : List Byte) : Nat := fieldLe f 18 2
/-- SUB. -/
def fSub (f : List Byte) : Nat := fByte f 20
/-- TCODE. -/
def fTcode (f : List Byte) : Nat := fByte f 21
/-- OFFSET. -/
def fOffset (f : List Byte) : Nat := fieldLe f 24 4
/-- LEN. -/
def fLen (f : List Byte) : Nat := fieldLe f 28 2
/-- PAYLOAD. -/
def fPay (f : List Byte) : List Byte := slice f 32 (fLen f)
/-- TAG. -/
def fTag (f : List Byte) : List Byte := slice f (32 + fLen f) 16

/-- The form of a request (R426); reserved are FLAGS[7:1] and bytes 30 and 31. -/
def fForm (f : List Byte) : Bool :=
  decide (48 ≤ f.length) && fByte f 0 == 0x46 && fByte f 1 == 1 && fByte f 2 == 1 && decide (fByte f 17 ≤ 1) && fieldLe f 30 2 == 0
    && decide (fLen f ≤ 1024)

/-- The key of a role; an empty slot of the tack room holds zeros (R488). -/
def fKey (s : State) (r : Nat) : List Byte := padTo 32 (sget (fun _ => []) s.sec.roles r)

/-- A response to a request, tagged under a key where one is given, else with zeros (R428, R430). -/
def fResp (f : List Byte) (key : Option (List Byte)) (code flags tcode : Nat) (pay : List Byte) : List Byte :=
  let b := [0x46, 1, 2] ++ slice f 3 14 ++ [BitVec.ofNat 8 flags] ++ slice f 18 3 ++ [BitVec.ofNat 8 tcode] ++ leBytes 2 code ++ slice f 24 4
    ++ leBytes 2 pay.length ++ [0, 0] ++ pay
  b ++ match key with | some k => padTo 16 (Config.kmac k b 1 16) | none => List.replicate 16 0

/-- A frame dropped (R442, R443). -/
def fmpDrop (s : State) : State := (s.count Reg.FMP_DROP_CNT).raise blkSvc 30

/-- The answer numbers that stand for the management port, the in-band MAC and MGMT_SPI (log entry 9). -/
def fmpWire (via : Nat) : Nat := 8210 + via

/-- A response sent on its transport; MGMT_SPI keeps eight (R441). -/
def fmpSend (s : State) (via peer : Nat) (f : List Byte) : State :=
  if via = 2 then
    if s.fmp.spi.length < 8 then s.setFmp { s.fmp with spi := s.fmp.spi ++ [f] } else fmpDrop s
  else
    (s.setFmp { s.fmp with sent := s.fmp.sent.filter (fun e => e.1 != via) ++ [(via, peer, f)] }).answer (fmpWire via) 0 (f.map (·.toNat))

/-! Service (R425, R431). -/

/-- FMP serves: firmware runs, and pair A is not halted or held. -/
def fmpServes (s : State) : Bool := fwRuns s && pairRuns s 0
/-- A value of FMP's own RAM as a number. -/
def valN (s : State) (index sub dflt : Nat) : Nat :=
  match s.fmp.vals.find? (fun e => e.1 == valKey index sub) with | some (_, v) => leNat v | none => dflt
/-- A transport is enabled (R425, R442): an address of 0 disables it. -/
def fmpOn (s : State) (via : Nat) : Bool :=
  match via with
  | 0 => s.flag Reg.FMP_CTL 0 && valN s 0x1011 2 0 != 0
  | 1 => s.flag Reg.FMP_CTL 2 && valN s 0x1012 4 0 != 0
  | _ => s.flag Reg.FMP_CTL 1

/-- A response to a request taken, stored for its role where the request set LAST_SEQ (R430). -/
def fmpReply (s : State) (q : FmpReq) (key : List Byte) (code flags tcode : Nat) (pay : List Byte) : State :=
  let r := fRole q.frame
  let f := fResp q.frame (if r = 0 then none else some key) code flags tcode pay
  let s := if code = 0 then s else s.count Reg.FMP_ABORT_CNT
  let x := fmpRole s r
  let s := if r ≠ 0 ∧ x.last = fSeq q.frame ∧ x.tag = fTag q.frame then setFmpRole s r { x with rsp := some f } else s
  fmpSend s q.via q.peer f

/-- The commands of Table ODP-4. -/
def fmpCmds : List Nat := [0, 1, 2, 5, 6, 7, 8, 0x10, 0x11, 0x12]

/-- Requests at the head whose command is unknown are answered 0x0A0A (R427); the count bounds them. -/
def fmpSkip : Nat → State → State
  | 0, s => s
  | n + 1, s =>
    match s.fmp.queue with
    | q :: r =>
      if fmpServes s && !fmpCmds.contains (fCmd q.frame) then
        fmpSkip n (fmpReply (s.setFmp { s.fmp with queue := r }) q (fKey s (fRole q.frame)) 0x0A0A 0 0 [])
      else s
    | [] => s

/-- The request at the head, of a command, while FMP serves. -/
def fmpHead (s : State) (cmd : Nat) : Option FmpReq :=
  match s.fmp.queue with
  | q :: _ => if fmpServes s && fCmd q.frame == cmd && !s.fmp.signing then some q else none
  | [] => none

/-- The request at the head leaves the queue. -/
def fmpPop (s : State) : State := s.setFmp { s.fmp with queue := s.fmp.queue.tail, user := none, signing := false }

/-- The request at the head ended with its response, tagged under the key its role had when it was taken; nothing is sent where the
request itself reset the device. -/
def fmpEnd (s : State) (q : FmpReq) (key : List Byte) (code flags tcode : Nat) (pay : List Byte) : State :=
  if s.fmp.queue.head? = some q then fmpReply (fmpPop s) q key code flags tcode pay else s

/-- A row of FMP: the request at the head, of a command, served by a function that answers a state still waiting, or an end with abort
code, FLAGS, TCODE and payload. -/
def fmpRow (s : State) (cmd : Nat) (f : State → FmpReq → State × Option (Nat × Nat × Nat × List Byte)) : State :=
  let s := fmpSkip 8 s
  match fmpHead s cmd with
  | none => s
  | some q =>
    match f s q with
    | (t, none) => t
    | (t, some (code, flags, tcode, pay)) => fmpEnd t q (fKey s (fRole q.frame)) code flags tcode pay

/-- An end with an abort code alone. -/
def ends (s : State) (code : Nat) : State × Option (Nat × Nat × Nat × List Byte) := (s, some (code, 0, 0, []))

/-! Receipt (R426, R429, R430). -/

/-- A request of a role is authentic (R429); EPOCH is exempt from the SEQ condition. -/
def fmpAuth (s : State) (f : List Byte) : Bool :=
  let x := fmpRole s (fRole f)
  fieldLe f 8 8 == x.nonce && fTag f == padTo 16 (Config.kmac (fKey s (fRole f)) (f.take (32 + fLen f)) 0 16)
    && (decide (x.last < fSeq f) || fCmd f == 0x12)

/-- A request that is not authentic (R430): at most 16 answers a second on each transport. -/
def fmpRefuse (s : State) (via peer : Nat) (f : List Byte) : State :=
  let s := (s.count Reg.FMP_AUTH_CNT).raise blkSvc 24
  let now := s.tim.cks
  let (since, n) := match s.fmp.fails.find? (fun e => e.1 == via) with
    | some (_, t, n) => if now < t + secCks then (t, n) else (now, 0)
    | none => (now, 0)
  if 16 ≤ n then fmpDrop s
  else
    let s := s.setFmp { s.fmp with fails := s.fmp.fails.filter (fun e => e.1 != via) ++ [(via, since, n + 1)] }
    fmpSend (s.count Reg.FMP_ABORT_CNT) via peer (fResp f none 0x0C01 0 0 [])

/-- A frame received while firmware runs: form, room in the queue, authenticity, then the queue. A datagram whose length is not its
frame's is dropped (R425). -/
def fmpReceive (s : State) (via peer : Nat) (f : List Byte) : State :=
  let r := fRole f
  let q : FmpReq := { via, peer, frame := f }
  if !fForm f then fmpDrop s
  else if f.length ≠ 48 + fLen f then s
  else if 8 ≤ s.fmp.queue.length then fmpDrop s
  else if r = 0 ∧ fCmd f = 0 then fmpSkip 8 (s.setFmp { s.fmp with queue := s.fmp.queue ++ [q] })
  else if 1 ≤ r ∧ r ≤ 3 ∧ fmpAuth s f then
    let s := setFmpRole s r { fmpRole s r with last := fSeq f, tag := fTag f, rsp := none }
    fmpSkip 8 ((s.count Reg.FMP_REQ_CNT).setFmp { (s.count Reg.FMP_REQ_CNT).fmp with queue := s.fmp.queue ++ [q] })
  else if 1 ≤ r ∧ r ≤ 3 ∧ fSeq f = (fmpRole s r).last ∧ fTag f = (fmpRole s r).tag then
    match (fmpRole s r).rsp with
    | some a => fmpSend s via peer a
    | none => s
  else fmpRefuse s via peer f

/-- FMP_FRAME_RX (R425, R426, R429…R431): a frame on the management port (0) or in band (1) from an address and port, or (2) the frame
MGMT_SPI holds. -/
def execFmpFrameRx (via : Fin 3) (peer : BitVec 48) (frame : List Byte) (s : State) : Out :=
  if !fwRuns s || !fmpOn s via then .next s
  else if via.val = 2 then
    match s.fmp.spiRx with
    | some f => .next (fmpReceive (s.setFmp { s.fmp with spiRx := none }) 2 0 f)
    | none => .next s
  else .next (fmpReceive s via peer.toNat frame)

/-! Identity (R427). -/

/-- HELLO (Table ODP-4). -/
def execHello (s : State) : Out :=
  .next (fmpRow s 0 (fun s _ =>
    (s, some (0, 0, 0, leBytes 4 0x0C8E0008 ++ leBytes 4 idcode ++ leBytes 1 s.mode ++ [0, 0, 0]
      ++ [1, 2, 3].flatMap (fun r => leBytes 8 (fmpRole s r).nonce)))))

/-! What an index names, with its descriptor (R439, R440). -/

/-- A dictionary-port request of FMP's own is under way. -/
def userBusy (s : State) : Bool := s.fab.dps.any (fun e => e.2.fmp)
/-- FMP issues a request to the port that serves an index, or an abort code (R220, R221, R439). -/
def userIssue (s : State) (wr : Bool) (index sub word data : Nat) : State × Option Nat :=
  match dpServer s index with
  | none => (s, some 0x0A01)
  | some p =>
    if padIsolated s p || padGsr s p || s.fab.dps.any (fun e => e.1 == p) then (s, some 0x0A08)
    else (dpIssue s { init := 436, wr, index, sub, word, data, fmp := true }, none)
/-- The user request under way. -/
def userOf (s : State) : UserReq := s.fmp.user.getD {}
/-- The state with it replaced. -/
def setUser (s : State) (u : UserReq) : State := s.setFmp { s.fmp with user := some u }

/-- A descriptor keeps the layout of R439. -/
def userDesc (d : Nat) : Bool :=
  let t := bitsOf d 7 0
  let n := bitsOf d 13 8
  decide (1 ≤ t) && decide (t ≤ 13) && decide (1 ≤ n) && decide (n ≤ 60) && decide (1 ≤ bitsOf d 21 20) && bitsOf d 31 22 == 0
    && (tySize t == 0 || tySize t == n)
/-- The object a descriptor describes. -/
def userObj (index sub d : Nat) : Obj :=
  { index, first := sub, last := sub, from_ := sub, ty := bitsOf d 7 0, size := bitsOf d 13 8
    acc := [OAcc.ro, .rw, .wo, .const].getD (bitsOf d 17 16) .ro
    role := bitsOf d 21 20, dflt := 0, p := false, m := false, home := .own }
/-- An index of the vendor's (R440): read-only for OWNER; its type and size are not in the manual. -/
def vendorObj (index sub t n : Nat) : Obj :=
  { index, first := sub, last := sub, from_ := sub, ty := t % 256, size := n % 1025, acc := .ro, role := 3, dflt := 0, p := false, m := false
    home := .own }

/-- The object a request names: none while a descriptor is awaited, else an abort code or the object. -/
def describe (s : State) (index sub : Nat) : State × Option (Nat × Option Obj) :=
  match nameOf s.life index sub with
  | .none c => (s, some (c, none))
  | .obj o => (s, some (0, some o))
  | .vendor => (s.took.took, some (0, some (vendorObj index sub s.free s.took.free)))
  | .user =>
    let u := userOf s
    match u.desc, u.got with
    | some d, _ => (s, some (0, some (userObj index sub d)))
    | none, some (c, d) =>
      if c ≠ 0 then (s, some (c, none))
      else if !userDesc d then (s, some (0x0A02, none))
      else (setUser s { desc := some d }, some (0, some (userObj index sub d)))
    | none, none =>
      if userBusy s then (s, none)
      else match userIssue (setUser s {}) false index sub 15 0 with
        | (s, some c) => (s, some (c, none))
        | (s, none) => (s, none)

/-- A user index. -/
def isUser (index : Nat) : Bool := decide (0xA000 ≤ index) && decide (index < 0xF000)

/-- The words of a user value moved in order (R439): none while one is awaited, else the abort code. -/
def userMove (s : State) (o : Obj) (wr : Bool) (v : List Byte) : State × Option Nat :=
  let n := ceilDiv o.size 4
  let u := userOf s
  let (u, bad) := match u.got with
    | some (c, d) => ({ u with words := u.words ++ [d], got := none }, c)
    | none => (u, 0)
  let s := setUser s u
  if bad ≠ 0 then (s, some bad)
  else if n ≤ u.words.length then (s, some 0)
  else if userBusy s then (s, none)
  else userIssue s wr o.index o.first u.words.length (if wr then fieldLe v (4 * u.words.length) 4 else 0)

/-- An object's value read: none while it is awaited, else the abort code and the value. -/
def fmpGet (s : State) (o : Obj) (sub : Nat) : State × Option (Nat × List Byte) :=
  if isUser o.index then
    match userMove s o false [] with
    | (s, none) => (s, none)
    | (s, some c) => (s, some (c, ((userOf s).words.flatMap (leBytes 4)).take o.size))
  else if 0xF000 ≤ o.index then
    let (s, b) := drawBytes o.size s
    (s, some (0, b))
  else (s, some (0, objGet s o sub))

/-- An object's value written: none while it waits, for a port or for room in the journal, else the abort code. -/
def fmpPut (s : State) (o : Obj) (sub : Nat) (v : List Byte) : State × Option Nat :=
  if isUser o.index then userMove s o true v
  else if mirrored s o sub && jBlocked s (objFrames v) then (jWait s (objFrames v), none)
  else
    let (s, c) := objWrite s o sub v
    (s, some c)

/-! Checks (Table ODP-5). -/

/-- Orders 6 and 7 of a read. -/
def chkRead (r : Nat) (o : Obj) : Nat := if r < o.role then 0x0A07 else if o.acc = .wo then 0x0A09 else 0
/-- Orders 6 and 7 of a write. -/
def chkWrite (r : Nat) (o : Obj) : Nat := if r < o.role then 0x0A07 else if o.acc = .ro ∨ o.acc = .const then 0x0A05 else 0
/-- A value fits READ and WRITE (R427). -/
def fitsOne (o : Obj) : Bool := o.ty != 14 && decide (o.size ≤ 1024)
/-- Orders 9 to 11 of a write. -/
def chkPut (s : State) (o : Obj) (sub : Nat) (v : List Byte) : Nat :=
  let b := objBusy s o sub (leNat v)
  if !objMode s o sub || b == 0x0A06 then 0x0A06 else if !objRange s o sub v then 0x0A04 else b

/-- The first code that is not zero. -/
def firstCode (l : List Nat) : Nat := (l.find? (fun c => c != 0)).getD 0

/-- READ (R427, R431, R439). -/
def execRead (s : State) : Out :=
  .next (fmpRow s 1 (fun s q =>
    let f := q.frame
    match describe s (fIndex f) (fSub f) with
    | (s, none) => (s, none)
    | (s, some (c, none)) => ends s c
    | (s, some (_, some o)) =>
      let c := firstCode [chkRead (fRole f) o, if fLen f = 0 ∧ fTcode f = 0 ∧ fitsOne o then 0 else 0x0A03]
      if c ≠ 0 then ends s c
      else match fmpGet s o (fSub f) with
        | (s, none) => (s, none)
        | (s, some (c, v)) => if c ≠ 0 then ends s c else (s, some (0, 0, o.ty, v))))

/-- WRITE (R431, R432, R439); a challenge is answered when its signature is done (R493). -/
def execWrite (s : State) : Out :=
  .next (fmpRow s 2 (fun s q =>
    let f := q.frame
    let v := fPay f
    match describe s (fIndex f) (fSub f) with
    | (s, none) => (s, none)
    | (s, some (c, none)) => ends s c
    | (s, some (_, some o)) =>
      let c := firstCode [chkWrite (fRole f) o, if fTcode f = o.ty ∧ fLen f = o.size ∧ fitsOne o then 0 else 0x0A03, chkPut s o (fSub f) v]
      if c ≠ 0 then ends s c
      else if o.index = 0x9020 then
        match attRequest s v with
        | (s, 0) => (s.setFmp { s.fmp with signing := true }, none)
        | (s, c) => ends s c
      else match fmpPut s o (fSub f) v with
        | (s, none) => (s, none)
        | (s, some c) => ends s c))

/-- ATTEST_SIGN_DONE (R491…R493): the signature completes; a WRITE of the challenge is answered. -/
def execAttestSignDone (fail : Bool) (s : State) : Out :=
  if s.sec.sign.isNone then .next s
  else
    let (t, code) := attSign s fail
    match s.fmp.queue with
    | q :: _ => .next (if s.fmp.signing then fmpEnd t q (fKey s (fRole q.frame)) code 0 0 [] else t)
    | [] => .next t

/-! Segmented transfer (R434). -/

/-- The open transfer of a role. -/
def segOf (s : State) (r : Nat) : Option Segs := (s.fmp.segs.find? (fun e => e.1 == r)).map (·.2)
/-- The state with a role's transfer replaced, or ended. -/
def setSeg (s : State) (r : Nat) (x : Option Segs) : State :=
  s.setFmp { s.fmp with segs := match x with | some g => sinsert r g (sdrop r s.fmp.segs) | none => sdrop r s.fmp.segs }

/-- SEG_OPEN (R434). -/
def execSegOpen (s : State) : Out :=
  .next (fmpRow s 5 (fun s q =>
    let f := q.frame
    let r := fRole f
    let wr := fByte f 17 == 1
    match describe s (fIndex f) (fSub f) with
    | (s, none) => (s, none)
    | (s, some (c, none)) => ends s c
    | (s, some (_, some o)) =>
      let n := leNat (fPay f)
      let open_ := if (segOf s r).isSome then 0x0A08 else 0
      if wr then
        let fits := fTcode f == o.ty && fLen f == 4 && (o.ty == 14 || n == o.size)
        let c := firstCode [chkWrite r o, if fits then 0 else 0x0A03, if objMode s o (fSub f) then 0 else 0x0A06, open_]
        if c ≠ 0 then ends s c
        else ends (setSeg s r (some { write := true, index := fIndex f, sub := fSub f, size := n, data := [] })) 0
      else
        let c := firstCode [chkRead r o, if fLen f = 0 ∧ fTcode f = 0 then 0 else 0x0A03, open_]
        if c ≠ 0 then ends s c
        else match fmpGet s o (fSub f) with
          | (s, none) => (s, none)
          | (s, some (c, v)) =>
            if c ≠ 0 then ends s c
            else
              (setSeg s r (some { write := false, index := fIndex f, sub := fSub f, size := v.length, data := v }),
                some (0, 0, 0, leBytes 4 v.length))))

/-- A transfer that a SEG_DATA or SEG_CLOSE names; else the abort code (R431, R434). -/
def segNamed (s : State) (f : List Byte) : Option Segs × Nat :=
  match nameOf s.life (fIndex f) (fSub f) with
  | .none c => (none, c)
  | n =>
    let low := match n with | .obj o => decide (fRole f < o.role) | _ => false
    if low then (none, 0x0A07)
    else match segOf s (fRole f) with
      | some g => if g.index = fIndex f ∧ g.sub = fSub f then (some g, 0) else (none, 0x0A0B)
      | none => (none, 0x0A0B)

/-- The type code of an object of the manual, as a segment carries it; a user value's is not kept. -/
def segTy (s : State) (g : Segs) : Nat := match nameOf s.life g.index g.sub with | .obj o => o.ty | _ => 0

/-- SEG_DATA (R434). -/
def execSegData (s : State) : Out :=
  .next (fmpRow s 6 (fun s q =>
    let f := q.frame
    match segNamed s f with
    | (none, c) => ends s c
    | (some g, _) =>
      if g.write then
        if fOffset f ≠ g.data.length then ends s 0x0A0B
        else if g.size < g.data.length + fLen f then ends s 0x0A03
        else ends (setSeg s (fRole f) (some { g with data := g.data ++ fPay f })) 0
      else if fOffset f ≠ g.pos then ends s 0x0A0B
      else if fLen f ≠ 0 then ends s 0x0A03
      else
        let n := Nat.min 1024 (g.size - g.pos)
        (setSeg s (fRole f) (some { g with pos := g.pos + n }),
          some (0, 2 * bit (decide (g.pos + n < g.size)), segTy s g, slice g.data g.pos n))))

/-- SEG_CLOSE (R434): a write is applied whole; the transfer ends either way. -/
def execSegClose (s : State) : Out :=
  .next (fmpRow s 7 (fun s q =>
    let f := q.frame
    let r := fRole f
    match segNamed s f with
    | (none, c) => ends s c
    | (some g, _) =>
      if fOffset f ≠ 0 then ends s 0x0A0B
      else if fLen f ≠ 0 then ends s 0x0A03
      else if !g.write then ends (setSeg s r none) 0
      else if g.data.length ≠ g.size then ends (setSeg s r none) 0x0A03
      else match describe s g.index g.sub with
        | (s, none) => (s, none)
        | (s, some (c, none)) => ends (setSeg s r none) c
        | (s, some (_, some o)) =>
          let c := firstCode [chkWrite r o, chkPut s o g.sub g.data]
          if c ≠ 0 then ends (setSeg s r none) c
          else match fmpPut s o g.sub g.data with
            | (s, none) => (s, none)
            | (s, some c) => ends (setSeg s r none) c))

/-- SEG_ABORT (R434). -/
def execSegAbort (s : State) : Out := .next (fmpRow s 8 (fun s q => ends (setSeg s (fRole q.frame) none) 0))
/-- SEG_TIMEOUT (R434): 10 s without a SEG_DATA. -/
def execSegTimeout (role : Fin 4) (s : State) : Out := .next (setSeg s role none)

/-! The persistent store (R435, R436). -/

/-- A sector. -/
def sectOf (s : State) (k : Nat) : Sector := sget (fun _ => {}) s.fmp.sects k
/-- The state with a sector replaced. -/
def setSect (s : State) (k : Nat) (x : Sector) : State := s.setFmp { s.fmp with sects := sput (fun _ => {}) s.fmp.sects k x }
/-- A sector's erase count; a blank header takes the highest of the others (R436). -/
def sectCount (s : State) (k : Nat) : Nat :=
  ((sectOf s k).count).getD (((List.range 8).map (fun i => (sectOf s i).count.getD 0)).foldl Nat.max 0)
/-- A sector retired. -/
def sectRetire (s : State) (k : Nat) : State := (setSect s k { sectOf s k with retired := true, image := none }).raise blkSvc 27

/-- The next sector of the rotation taken and erased; worn ones are retired first. None where none remains. -/
def sectTake : Nat → State → Nat → State × Option Nat
  | 0, s, _ => (s, none)
  | n + 1, s, k =>
    if (sectOf s k).retired then sectTake n s ((k + 1) % 8)
    else if 100000 ≤ sectCount s k then sectTake n (sectRetire s k) ((k + 1) % 8)
    else ((setSect s k { count := some (sectCount s k + 1) }).setFmp
      { (setSect s k { count := some (sectCount s k + 1) }).fmp with at_ := k }, some k)

/-- Every P value with its subindex. -/
def persisted : List (Obj × Nat) :=
  (objRows.filter (·.p)).flatMap (fun o => (List.range (o.last + 1 - o.first)).map (fun i => (o, o.first + i)))
/-- The snapshot of a STORE. -/
def storeVals (s : State) : List (Nat × List Byte) := persisted.map (fun e => (valKey e.1.index e.2, objGet s e.1 e.2))

/-- An abort of a STORE noted (object 0x1031 sub 3). -/
def storeAbort (s : State) (c : Nat) : State := s.setFmp { s.fmp with abort := c }

/-- A STORE begun for a request; with no sector left it ends at once (R436). -/
def storeBegin (s : State) (q : FmpReq) : State × Option (Nat × Nat × Nat × List Byte) :=
  match sectTake 8 s ((s.fmp.at_ + 1) % 8) with
  | (t, some k) => (fmpPop (t.setFmp { t.fmp with store := some { by_ := some q, vals := storeVals s, sector := k } }), none)
  | (t, none) => ends ((storeAbort t 0x0B02).raise blkSvc 28) 0x0B02

/-- STORE (R436). -/
def execStore (s : State) : Out :=
  .next (fmpRow s 0x10 (fun s q =>
    let c := firstCode [if fRole q.frame < 2 then 0x0A07 else 0, if fLen q.frame = 0 then 0 else 0x0A03,
      if s.fmp.store.isSome then 0x0A08 else 0]
    if c ≠ 0 then ends s c else storeBegin s q))

/-- Every P value at its default. -/
def toDefaults (s : State) : State := persisted.foldl (fun s e => (objWrite s e.1 e.2 (leBytes e.1.size e.1.dflt)).1) s

/-- RESTORE_DEFAULTS (R427, R436). -/
def execRestoreDefaults (s : State) : Out :=
  .next (fmpRow s 0x11 (fun s q =>
    let c := firstCode [if fRole q.frame < 3 then 0x0A07 else 0, if fLen q.frame = 0 then 0 else 0x0A03,
      if modeIn s 0x14 then 0 else 0x0A06, if s.fmp.store.isSome then 0x0A08 else 0]
    if c ≠ 0 then ends s c
    else if jBlocked s 64 then (jWait s 64, none)
    else storeBegin (toDefaults s) q))

/-- A STORE ended with its answer. -/
def storeEnd (s : State) (x : Storing) (code : Nat) : State :=
  let s := storeAbort (s.setFmp { s.fmp with store := none }) code
  match x.by_ with
  | some q => fmpReply s q (fKey s (fRole q.frame)) code 0 0 []
  | none => s

/-- STORE_DONE (R436): the image's read-back was good and it is committed, or bad: its sector is retired and the image written once to
the next. -/
def execStoreDone (good : Bool) (s : State) : Out :=
  match s.fmp.store with
  | none => .next s
  | some x =>
    if good then
      let g := (s.regN Reg.FMP_STORE_GEN + 1) % 2 ^ 32
      let s := setSect s x.sector { sectOf s x.sector with image := some (g, x.vals) }
      .next (storeEnd ((s.setRegN Reg.FMP_STORE_GEN g).raise blkSvc 25) x 0)
    else
      let s := sectRetire s x.sector
      if x.again then .next (storeEnd (s.raise blkSvc 26) x 0x0B01)
      else match sectTake 8 s ((x.sector + 1) % 8) with
        | (s, some k) => .next (s.setFmp { s.fmp with store := some { x with sector := k, again := true } })
        | (s, none) => .next (storeEnd (s.raise blkSvc 28) x 0x0B02)

/-! EPOCH (R429). -/

/-- A role's nonce drawn anew, its LAST_SEQ zero and its transfer ended. -/
def epoch (s : State) (r : Nat) : State :=
  let (s, b) := drawBytes 8 s
  setSeg (setFmpRole s r { nonce := leNat b }) r none

/-- EPOCH (R429): the response is tagged with the old nonce in its NONCE field; without a good TRNG no nonce is drawn and the code is
open (R494). -/
def execEpoch (s : State) : Out :=
  .next (fmpRow s 0x12 (fun s q =>
    let r := fRole q.frame
    if fLen q.frame ≠ 0 then ends s 0x0A03
    else if !s.trngOk then ends s.took (s.free % 2 ^ 16)
    else
      let s := epoch s r
      (s, some (0, 0, 0, leBytes 8 (fmpRole s r).nonce))))

/-! The management port's other protocols (R425). -/

/-- A packet for the device's own address on the management port, while FMP is served there. -/
def forMgmt (s : State) (ip : BitVec 32) : Bool := fmpServes s && fmpOn s 0 && valN s 0x1011 2 0 == ip.toNat

/-- ARP_REQUEST (R425): answered with the port's MAC address. -/
def execArpRequest (ip : BitVec 32) (s : State) : Out :=
  if forMgmt s ip then .next (s.answer (fmpWire 0) 0 ((padTo 6 (lookWords s Reg.MGT_ADDR_LO 2)).map (·.toNat))) else .next s
/-- ICMP_ECHO (R425): the reply carries the request's data. -/
def execIcmpEcho (ip : BitVec 32) (data : List Byte) (s : State) : Out :=
  if forMgmt s ip then .next (s.answer (fmpWire 0) 0 (data.map (·.toNat))) else .next s

/-! MGMT_SPI (R441). -/

/-- The port answers: enabled and not gated (R542). -/
def spiOn (s : State) : Bool := s.flag Reg.FMP_CTL 1 && periOn s 3

/-- MGMT_SPI_WRITE (R441). -/
def execMgmtSpiWrite (frame : List Byte) (s : State) : Out :=
  if !spiOn s then .next s
  else if s.fmp.spiRx.isSome then .next (s.setFmp { s.fmp with ovf := true })
  else .next (s.setFmp { s.fmp with spiRx := some frame })

/-- MGMT_SPI_STATUS (R441). -/
def execMgmtSpiStatus (s : State) : Out :=
  if !spiOn s then .next s
  else
    let v := bit (!s.fmp.spi.isEmpty) + 2 * bit s.fmp.spiRx.isSome + 4 * bit s.fmp.ovf
    .next ((s.setFmp { s.fmp with ovf := false }).answer (fmpWire 2) 0 [v])

/-- MGMT_SPI_READ (R441): the response is released once shifted out. -/
def execMgmtSpiRead (s : State) : Out :=
  if !spiOn s then .next s
  else
    let f := s.fmp.spi.headD []
    .next ((s.setFmp { s.fmp with spi := s.fmp.spi.tail }).answer (fmpWire 2) 0 ((leBytes 2 f.length ++ f).map (·.toNat)))

end Sys2Proof.Machine
end

