-- ==== Sys2Proof/Machine/Boot.lean ====
section
/-! DEFINITION. The end of BOOT (R451 steps 7 and 8, R481…R483, R537): firmware verified and started, the persistent image applied
(R437), the strap action of Table LDR-8, and images staged in the scratchpad (R482). -/

namespace Sys2Proof.Machine

/-! Firmware images (R481, Table SEC-3). -/

/-- What the boot ROM keeps of an image it has passed: VERSION, DIGEST, LOAD_OFS and the body. -/
structure FwImage where
  version : Nat
  digest  : List Byte
  load    : Nat
  body    : List Byte
  deriving DecidableEq, Repr

/-- The header is good: MAGIC, FAMILY, DEVICE, REV_MASK bit 1 and the zero fields. -/
def fwHeader (h : List Byte) : Bool :=
  slice h 0 4 == [0x4B, 0x46, 0x57, 0x49] && fieldLe h 6 2 == 0x0C8E && fieldLe h 8 2 == 0x0008 && (fieldLe h 0xA 2).testBit 1
    && slice h 0xF 1 == [0] && allZero (slice h 0x24 0x1C) && allZero (slice h 0x60 0x20)

/-- The key is accepted and the signature verifies (R479, R237). -/
def fwSigned (s : State) (h : List Byte) : Bool :=
  keyOk s (fieldLe h 0xC 1) (keyHash (slice h 0x80 64)) && sigOk (slice h 0x80 64) (slice h 0 0xC0) (slice h 0xC0 2820)

/-- Anti-rollback lets an image pass (R483). -/
def arbOk (s : State) (ctr ver : Nat) : Bool := decide (ctr ≤ 7) && decide (arbCount s ctr ≤ ver)

/-- The body lies in controller SRAM. -/
def fwPlace (load len : Nat) : Bool :=
  load % 4096 == 0 && decide (load < 0x200000) && decide (4 ≤ len) && decide (len ≤ 0x200000 - load)

/-- The image that a reader of bytes at offsets shows, where it passes steps 1 to 3 and 5 of R481. -/
def fwImage (s : State) (rd : Nat → Nat → Option (List Byte)) : Option FwImage :=
  (rd 0 0x1000).bind fun h =>
    if fwHeader h && fwSigned s h && arbOk s (fieldLe h 0xD 1) (fieldLe h 0xE 1) && fwPlace (fieldLe h 0x10 4) (fieldLe h 0x14 4) then
      (rd 0x1000 (fieldLe h 0x14 4)).bind fun b =>
        if Config.shake256 b 32 == slice h 0x40 32 then
          some { version := fieldLe h 0x20 4, digest := slice h 0x40 32, load := fieldLe h 0x10 4, body := b }
        else none
    else none

/-- The image in flash at an offset. -/
def fwFlash (s : State) (ofs : Nat) : Option FwImage := fwImage s (fun o n => some (s.stored (flashBase + ofs + o) n))
/-- The image staged at offset 0 of the scratchpad. -/
def fwStaged (s : State) : Option FwImage := fwImage s (srcRead s 436 true scratchBase none)

/-! The persistent image (R437). -/

/-- The order of application: the chapters' own before index order (R83, R393, R489). -/
def applyKey (e : Obj × Nat) : Nat :=
  match e.1.index, e.2 with
  | 0x9032, k => k
  | 0x9030, _ => 4
  | 0x9031, k => 4 + k
  | 0x2130, k => 256 * 0x2130 + 2 - k
  | 0x5003, k => 256 * 0x5000 - 8 + k
  | 0x5004, k => 256 * 0x5000 - 4 + k
  | i, k => 256 * i + k

/-- The P values in the order they are applied; the boot ROM has taken 0x2030 and 0x2031 already (R28). -/
def applyOrder : List (Obj × Nat) :=
  sortBy (fun a b => decide (applyKey a ≤ applyKey b)) (persisted.filter (fun e => e.1.index != 0x2030 && e.1.index != 0x2031))

/-- A stored value refused on application keeps its default. -/
def applyRefused (s : State) : State := (s.setFmp { s.fmp with bad := s.fmp.bad + 1 }).raise blkSvc 29

/-- A stored value applied; an all-zero blob names no key. -/
def applyStored (s : State) (o : Obj) (sub : Nat) (v : List Byte) : State :=
  if 0x9030 ≤ o.index ∧ o.index ≤ 0x9032 ∧ allZero v then keep s o.index sub v
  else if !objRange s o sub v || objBusy s o sub (leNat v) != 0 then applyRefused s
  else (objSet s o sub v).1

/-- A value that is not stored takes its default, where reset has left another; SP_BANK_CFG is kept over a system reset (R451). -/
def applyDefault (s : State) (o : Obj) (sub : Nat) : State :=
  if o.index = 0x4000 ∨ o.index = 0x4001 ∨ (0x9030 ≤ o.index ∧ o.index ≤ 0x9032) ∨ objGet s o sub = leBytes o.size o.dflt then s
  else (objSet s o sub (leBytes o.size o.dflt)).1

/-- A P value at the end of BOOT. -/
def applyOne (s : State) (e : Obj × Nat) : State :=
  match storedVal s e.1.index e.2 with
  | some v => applyStored s e.1 e.2 v
  | none => applyDefault s e.1 e.2

/-- The valid image of the highest generation applied; sectors with a blank header take the highest count (R436, R437). -/
def applyImage (s : State) : State :=
  let s := (List.range 8).foldl (fun s k => setSect s k { sectOf s k with count := some (sectCount s k) }) s
  let s := match storeImage s with | some (g, _) => s.setRegN Reg.FMP_STORE_GEN g | none => s
  applyOrder.foldl applyOne s

/-! Starting firmware. -/

/-- The roles draw their nonces (R429). -/
def fmpStart (s : State) : State := if s.trngOk then [1, 2, 3].foldl epoch s else s

/-- Firmware started (R481 steps 4 and 6, R537): the body stands in SRAM, pair A runs on with watchdog A reloaded, pair B leaves reset
with watchdog B, halted where that was asked (R565). -/
def fwStart (s : State) (f : FwImage) : State :=
  let s := s.store (sramBase + f.load) f.body
  let s := (s.setRegN Reg.SEC_FW_VER f.version).setSec { s.sec with digest := f.digest }
  let s := wdtReload s 0
  let s := wdtReload (s.setSvc { s.svc with bRun := true }) 1
  let s := if s.dbg.rhalt.contains 1 then haltPair s 1 else s
  applyImage (fmpStart s)

/-- The PCIe endpoint enabled by the boot ROM. -/
def pcieOn (s : State) : State := octWrite (octWrite s 2 (s.regN (Reg.LR_OCT_CFG 2) ||| 1)) 3 (s.regN (Reg.LR_OCT_CFG 3) ||| 1)

/-- The strap action (Table LDR-8). -/
def strapAct (s : State) : State :=
  let m := s.fld Reg.CFG_STRAP 2 0
  if m ≤ 1 then startLoad s 1 true false []
  else if m = 2 then pcieOn s
  else s.raiseIf (decide (4 ≤ m)) blkCfg 7

/-- No image passes (R482). -/
def fwNone (s : State) : State := pcieOn (((s.setFlag Reg.SEC_STAT 2 true).raise blkSec 8).tamper 0x17 0)

/-- Step 7 of Table MOD-3: slot A, then slot B; in RAW neither is read (R475). -/
def bootFirmware (s : State) : State :=
  if s.life = 0 then s
  else match fwFlash s 0 with
    | some f => fwStart s f
    | none => match fwFlash s 0x780000 with
      | some f => fwStart (((s.setFlag Reg.SEC_STAT 1 true).raise blkSec 7).tamper 0x17 0) f
      | none => fwNone s

/-- BOOT_COMPLETE (R451 steps 7 and 8): security's nonce and attestation index are ready, firmware runs where an image verifies, and in
BLANK the strap action begins. -/
def execBootComplete (s : State) : Out :=
  if s.pw.boot ≠ 4 ∨ 0 ∈ s.dbg.halted then .next s
  else
    let s := attBoot (redraw s)
    let s := (s.setPw { s.pw with boot := 5 }).enterMode mBlank
    .next (strapAct (bootFirmware s))

/-- SEC_CMD_CTL.FW_STAGE (R482): with FW_NONE set, the image staged in the scratchpad is processed as a slot is; one that passes starts
firmware, with the tamper entry of R500. -/
def fwStage (s : State) : State :=
  if !s.flag Reg.SEC_STAT 2 || s.pw.boot != 5 then s
  else match fwStaged s with
    | some f => fwStart ((s.setFlag Reg.SEC_STAT 2 false).tamper 0x17 1) f
    | none => s

/-- FW_STAGE (R482). -/
def execFwStage (s : State) : Out := .next (fwStage s)

end Sys2Proof.Machine
end

