-- ==== Sys2Proof/Machine/Bus.lean ====
section
/-! DEFINITION. An access as it arrives at the control space (R10…R20, R85, R328, R501): which accesses a register takes, wide registers,
the event registers, the LPP window, and the decode errors of the rest. -/

namespace Sys2Proof.Machine

/-! Decode errors (R10, R532). -/

/-- A decode error is an access fault for the pair that caused it. -/
def accFault (s : State) (init status : Nat) : State :=
  (s.raiseIf (status == stDecode && init == 436) blkSvc 2).raiseIf (status == stDecode && init == 437) blkSvc 3
/-- An error at the control space noted (Tables NOC-8 and NOC-10). -/
def busErr (s : State) (init a status : Nat) : State := accFault (errNote s (reqOf s init 0 a 4 0 []) status) init status

/-! What an access reaches. -/

/-- What an aligned access of the control space reaches: the LPP window, an event register, a word of a register, both words of a
64-bit register, or nothing. -/
inductive CtrlAt where
  | lpp (off : Nat)
  | evt (b off : Nat)
  | word (row : RegRow) (w : Nat)
  | pair (row : RegRow)
  | none
  deriving DecidableEq, Repr

/-- An offset of Table SCO-7. -/
def evtOff (off : Nat) : Bool :=
  [0xF00000, 0xF00004, 0xF00008].contains off || (decide (0xF00040 ≤ off) && decide (off < 0xF000C0) && off % 4 == 0)

/-- What an access of n bytes reaches (R11, R12, R17). -/
def ctrlAt (a n : Nat) : CtrlAt :=
  let off := a % 0x1000000
  if 0x4FFF0000 ≤ a then .lpp (a - 0x4FFF0000)
  else if blockOf a = 15 then .none
  else if 0xF00000 ≤ off then (if n = 4 ∧ evtOff off then .evt (blockOf a) off else .none)
  else match regRow a with
    | some (row, w) =>
      if n = 4 then .word row w
      else if n = 8 ∧ row.words = 2 ∧ w = 0 ∧ off % 8 = 0 then .pair row
      else .none
    | none => .none

/-- The security block answers initiator 436, and the debug port's reads of its first registers (R501). -/
def secSees (s : State) (init a : Nat) (rd : Bool) : Bool :=
  blockOf a != 9 || init == 436 || (rd && init == debugInit && decide (a % 0x1000000 < 0x100) && decide (1 ≤ s.debugLevel))

/-- The CXL.io window with no link up (R328). -/
def ioDown (s : State) (a : Nat) : Bool :=
  decide (0x45600000 ≤ a) && decide (a < 0x45700000) && !cxlUp s 0 && !cxlUp s 1

/-! The LPP window (R85, Table HOC-8). -/

/-- A register of the window. -/
def lppRead (s : State) (off : Nat) : Nat :=
  match off with
  | 0 => s.lpp.ctl.toNat % 2 ^ 16
  | 2 => s.lpp.ctl.toNat / 2 ^ 16
  | 4 => bit s.lpp.keep
  | 6 => bit s.lpp.running + 2 * bit s.lpp.hoStopped + 4 * bit (s.lpp.en && !lppAllowed s) + 8 * bit (lppMay s && !s.lpp.running)
  | 8 => s.lpp.fcnt
  | _ => 0

/-- A write in the window. -/
def lppWrite (s : State) (off v : Nat) : State :=
  let x := BitVec.ofNat 16 v
  match off with
  | 0 => after (execLppCtlLWrite x s) s
  | 2 => after (execLppCtlHWrite x s) s
  | 4 => after (execLppKeepWrite x s) s
  | _ => s

/-! Reads. -/

/-- A read of n bytes at an address of the control space: the state it leaves, the status, the bytes. -/
def ctrlRead (s : State) (init a n : Nat) : State × Nat × List Byte :=
  if !secSees s init a true then (s, stDecode, [])
  else if ioDown s a then (s, stTarget, [])
  else match ctrlAt a n with
    | .lpp off => (s, 0, leBytes n (if n = 2 ∧ off % 2 = 0 then lppRead s off else 0))
    | .evt _ off => (s, 0, leBytes 4 (if off = 0xF00008 then 0 else s.regN a))
    | .word row w =>
      let (s, v) := wideRead s init a w row
      (s, 0, leBytes 4 v)
    | .pair row =>
      let (s, lo) := wideRead s init a 0 row
      let (s, hi) := wideRead s init (a + 4) 1 row
      (s, 0, leBytes 8 (lo + hi * 2 ^ 32))
    | .none => (s, stDecode, [])

/-! Writes. -/

/-- A word written to a register; SEC_CMD_CTL's second bit stages firmware (R482). -/
def wordSet (s : State) (init a v : Nat) (row : RegRow) : State :=
  let s := regSet s init a v row
  if a = Reg.SEC_CMD_CTL ∧ v.testBit 1 then fwStage s else s

/-- The word an initiator has staged for a register's word at an address. -/
def stagedAt (s : State) (init a : Nat) : Option Nat := (s.staged.find? (fun e => e.1 == (init, a))).map (·.2.toNat)

/-- A word of a register written (R12): words below the highest of a wider register are staged, the highest commits them all. -/
def wideWrite (s : State) (init a w v : Nat) (row : RegRow) : State :=
  if row.words ≤ 1 then wordSet s init a v row
  else if row.acc = .ro then s
  else if w + 1 < row.words then
    { s with staged := s.staged.filter (fun e => e.1 != (init, a)) ++ [((init, a), BitVec.ofNat 32 v)] }
  else
    let base := a - 4 * w
    let mine (e : (Nat × Nat) × BitVec 32) : Bool := e.1.1 == init && decide (base ≤ e.1.2) && decide (e.1.2 < base + 4 * row.words)
    let words := (List.range row.words).map (fun k => if k = w then v else (stagedAt s init (base + 4 * k)).getD (regRead s init (base + 4 * k) row).2)
    words.zipIdx.foldl (fun s e => regSet s init (base + 4 * e.2) e.1 row) { s with staged := s.staged.filter (fun e => !mine e) }

/-- A write of bytes at an address of the control space: the state it leaves and the status. -/
def ctrlWrite (s : State) (init a : Nat) (data : List Byte) : State × Nat :=
  let n := data.length
  let v := leNat data
  if !secSees s init a false then (s, stDecode)
  else if ioDown s a then (s, stTarget)
  else match ctrlAt a n with
    | .lpp off => (if n = 2 ∧ off % 2 = 0 then lppWrite s off v else s, 0)
    | .evt b off => (evtSet s b off v, 0)
    | .word row w => (wideWrite s init a w v row, 0)
    | .pair row => (wideWrite (wideWrite s init a 0 (v % 2 ^ 32) row) init (a + 4) 1 (v / 2 ^ 32) row, 0)
    | .none => (s, stDecode)

/-! The rows. -/

/-- A write arriving at the control space, with its answer. -/
def busWrite (s : State) (init a : Nat) (data : List Byte) : State :=
  let (s, st) := ctrlWrite s init a data
  (if st = 0 then s else busErr s init a st).answer init st []

/-- REGISTER_WRITE (R10…R18): a write of any width at an address of the control space. -/
def execRegisterWrite (init : Fin 512) (addr : BitVec 48) (data : List Byte) (s : State) : Out :=
  if inCtrl addr.toNat && initUsed init then .next (busWrite s init addr.toNat data) else .next s

/-- The row of a register wider than 32 bits at an address, and the word. -/
def wideAt (a : Nat) : Option (RegRow × Nat) :=
  match ctrlAt a 4 with
  | .word row w => if 1 < row.words then some (row, w) else none
  | _ => none

/-- WIDE_REGISTER_WORD0_READ (R12): word 0 of a wide register read, and the register latched for the initiator. -/
def execWideRegisterWord0Read (init : Fin 512) (addr : BitVec 48) (s : State) : Out :=
  let a := addr.toNat
  match wideAt a with
  | some (_, 0) =>
    if inCtrl a && initUsed init then
      let (t, st, b) := ctrlRead s init a 4
      .next (if st = 0 then t.answer init 0 [leNat b] else (busErr t init a st).answer init st [])
    else .next s
  | _ => .next s

/-- WIDE_REGISTER_HIGH_WRITE (R12): the highest word of a wide register written. -/
def execWideRegisterHighWrite (init : Fin 512) (addr : BitVec 48) (value : BitVec 32) (s : State) : Out :=
  let a := addr.toNat
  match wideAt a with
  | some (row, w) =>
    if inCtrl a && initUsed init && w + 1 == row.words then .next (busWrite s init a (leBytes 4 value.toNat)) else .next s
  | none => .next s

/-- The events of a block that hardware sets in the same cycle as an access, after it: the set wins (R19). -/
def setSame (s : State) (b : Nat) (same : BitVec 32) : State :=
  (List.range 32).foldl (fun s n => if same.getLsbD n then s.raise b n else s) s

/-- EVT_STATUS_CLEAR (R18, R19): a write of EVT_STATUS; `same` are the events that hardware sets in the same cycle. -/
def execEvtStatusClear (init : Fin 512) (block : Fin 15) (value same : BitVec 32) (s : State) : Out :=
  .next (setSame (busWrite s init (evtStatus block) (leBytes 4 value.toNat)) block same)

/-- EVT_COUNT_CLR (R18, R19): a write of EVT_COUNT_CLR; `same` are the events that hardware sets in the same cycle. -/
def execEvtCountClr (init : Fin 512) (block : Fin 15) (value same : BitVec 32) (s : State) : Out :=
  .next (setSame (busWrite s init (evtCountClr block) (leBytes 4 value.toNat)) block same)

end Sys2Proof.Machine
end

