-- ==== Sys2Proof/Machine/Targets.lean ====
section
/-! DEFINITION. What a request does at its target (R10, R283, R286, R289, R296…R300, R310…R313, R326, R334, R346, R404, R533, R534):
NOC_READ, NOC_WRITE and the atomics. A request that its target cannot serve yet stays where it is. -/

namespace Sys2Proof.Machine

/-! Regions beside those of Noc.lean (Table SCO-5). -/

/-- The boot ROM. -/
def inRom (a : Nat) : Bool := decide (a < 0x40000)
/-- Controller SRAM. -/
def inSram (a : Nat) : Bool := decide (sramBase ≤ a) && decide (a < sramBase + 0x200000)
/-- An address that Table SCO-5 gives a range. -/
def mapped (a : Nat) : Bool :=
  inRom a || inScratch a || inFlash a || inSram a || inCtrl a || inWin a || inSdram a || inHdm a || inPcie a

/-- A request that waits: it stays outstanding. -/
def waits (s : State) : State × Bool := (s, false)
/-- A request answered with a status and, where that is OK, data. -/
def ends_ (s : State) (r : NocReq) (status : Nat) (data : List Byte) : State × Bool :=
  (respond (accFault s r.init status) r status data, true)

/-! Local SDRAM and CXL memory (R310, R316, R325…R327, R334). -/

/-- The status that turns a request away from local SDRAM or CXL memory; 0 where it is served. -/
def memStop (s : State) (r : NocReq) : Nat :=
  let a := r.addr
  let there := if inSdram a then decide (a - sdBase < sdFitted s) else (decOf s a).isSome
  let ready := if inSdram a then chanReady s (chanOf s (a - sdBase)) else (decOf s a).any (fun d => cxlUp s (decPort s d a))
  if !there then stDecode
  else match impKind s a r.kix with
    | .hidden => stDecode
    | .noKey => stTarget
    | _ => if ready then 0 else stTarget

/-- KIX_NO_KEY (R334). -/
def keyNote (s : State) (r : NocReq) : State :=
  s.raiseIf (impKind s r.addr r.kix == .noKey && memStop s r == stTarget) blkMem 27

/-- The channel of an address sleeps, or its page is being copied (R320, R323): the request waits. -/
def memBusy (s : State) (a : Nat) : Bool :=
  inSdram a &&
    let (h, c) := lineChan s (a / 64)
    s.flag (Reg.MEM_STAT h) 2 || (chanSt s h).page.any (fun p => p.1 == c / 4096)

/-- A request sent on to the CXL root port (R326). -/
def cxlSend (s : State) (r : NocReq) : State := { s with ext := { s.ext with cxl := s.ext.cxl ++ [r] } }

/-- A read of local SDRAM or CXL memory that IMP does not check (R312, R326). -/
def memRead (s : State) (r : NocReq) : State × Bool :=
  if inSdram r.addr then
    let (t, ue) := physRead s r.addr r.len
    ends_ t r (if ue then stPoison else 0) (t.viewBytes r.kix r.addr r.len)
  else (cxlSend s r, true)

/-- A read of a protected tile (R343, R346): from the tile buffer, or by IMP's own steps. -/
def tileRead (s : State) (r : NocReq) (k : ImpKind) : State × Bool :=
  let t := r.addr / 512
  match tileBuf s t with
  | some b => if bufReady b then ends_ s r 0 (sliceReq (bufPlain b) r) else waits s
  | none =>
    if s.imp.writes.any (fun x => x.addr / 512 == t) then waits s
    else match k with
      | .encInt _ => (s.setImp { s.imp with reads := s.imp.reads ++ [{ tile := t, req := some r }] }, true)
      | _ => memRead s r

/-- A read at local SDRAM or CXL memory. -/
def extRead (s : State) (r : NocReq) : State × Bool :=
  let st := memStop s r
  if st ≠ 0 then ends_ (keyNote s r) r st []
  else if memBusy s r.addr then waits s
  else match impKind s r.addr r.kix with
    | .plain => memRead s r
    | k => tileRead s r k

/-- A write at local SDRAM or CXL memory, in SHADOW and against a full journal as `writeAt` lets it through. -/
def extWrite (s : State) (r : NocReq) : State × Bool :=
  match impKind s r.addr r.kix with
  | .plain =>
    if inSdram r.addr then ends_ (if r.init = 472 then s.rawWrite r.kix r.addr r.data else s.viewWrite r.kix r.addr r.data) r 0 []
    else (cxlSend s r, true)
  | _ => (s.setImp { s.imp with writes := s.imp.writes ++ [r] }, true)

/-! The scratchpad (R283, R298…R300). -/

/-- An atomic has the form R283 asks. -/
def atomOk (r : NocReq) : Bool := (r.len == 4 || r.len == 8) && r.addr % r.len == 0

/-- The value an atomic stores (R298). -/
def atomVal (op old x n : Nat) : Nat := if op = 2 then (old + x) % 2 ^ (8 * n) else x

/-- An atomic on a bank that is ON (R298, R299). -/
def spAtom (s : State) (r : NocReq) : State × Bool :=
  let (s, bad) := spReadWords s (wordsOf r.addr r.len)
  if bad then ends_ s r stPoison []
  else
    let old := s.viewBytes 0 r.addr r.len
    let v := leBytes r.len (atomVal r.op (leNat old) (leNat r.data) r.len)
    ends_ (s.viewWrite 0 r.addr v) r 0 old

/-- A read of a bank that is ON (R299). -/
def spRead (s : State) (r : NocReq) : State × Bool :=
  let (s, bad) := spReadWords s (wordsOf r.addr r.len)
  ends_ s r (if bad then stPoison else 0) (s.viewBytes 0 r.addr r.len)

/-! Controller SRAM (R533). -/

/-- A read of controller SRAM: `soft` is 1 for a single error found, 2 for a double one, an access fault for a pair. -/
def sramRead (s : State) (r : NocReq) (soft : Nat) : State × Bool :=
  let b := s.stored r.addr r.len
  if soft = 1 then ends_ ((s.count Reg.SRAM_SBE_CNT).raise blkSvc 4) r 0 b
  else if soft = 2 then
    let s := (s.count Reg.SRAM_DBE_CNT).raise blkSvc 5
    ends_ (accFault s r.init stDecode) r stPoison []
  else ends_ s r 0 b

/-! PCIe outbound (R329). -/

/-- The answer number that stands for the host as a target (log entry 9). -/
def hostPin : Nat := 8213
/-- The host address that an outbound address reaches. -/
def hostAddr (s : State) (a : Nat) : Nat :=
  s.regN Reg.PCIE_OB_BASE_LO + s.regN Reg.PCIE_OB_BASE_HI * 2 ^ 32 + (a - 0x40000000000)
/-- A request seen by the host: operation, address, bytes. -/
def hostSees (s : State) (r : NocReq) : State :=
  s.answer hostPin 0 ([r.op, hostAddr s r.addr, r.len] ++ r.data.map (·.toNat))

/-! Every target. -/

/-- Flash as the read window shows it: the store and the kept hours have a layout of the device's own (log entry 18). -/
def flashRead (s : State) (a n : Nat) : State × List Byte :=
  if 0x20F40000 ≤ a then drawBytes n s else (s, s.stored a n)

/-- A READ at its target. `soft` is what controller SRAM's code finds, `host` what the PCIe host returns, none where it does not. -/
def readAt (s : State) (r : NocReq) (soft : Nat) (host : Option (List Byte)) : State × Bool :=
  let a := r.addr
  if inRom a then ends_ s r 0 ((List.range r.len).map (fun i => Config.bootRom (a + i)))
  else if inScratch a then (if spOn s (spBank a) then spRead s r else ends_ s r stOff [])
  else if inFlash a then
    let (s, b) := flashRead s a r.len
    ends_ s r 0 b
  else if inSram a then sramRead s r soft
  else if inCtrl a then
    let (s, st, b) := ctrlRead s r.init a r.len
    ends_ s r st b
  else if inWin a then (winAccess s r, true)
  else if inSdram a || inHdm a then extRead s r
  else if inPcie a then
    if s.flag Reg.PCIE_STAT 0 then
      match host with
      | some l => ends_ (hostSees s r) r 0 (padTo r.len l)
      | none => ends_ (hostSees s r) r stTarget []
    else ends_ s r stTarget []
  else ends_ s r stDecode []

/-- The frames a write would put in the journal: one for each 64-byte line (R398). -/
def jLines (a n : Nat) : Nat := (linesOf a n).length

/-- A write in a mirror range: discarded in SHADOW but for the Relay's own (R404), stalled while the journal has no room (R401). -/
def mirGate (s : State) (r : NocReq) (go : State → State × Bool) : State × Bool :=
  if s.shadowing && mirHit s r.addr r.len && r.init != 472 then ends_ (s.count Reg.RELAY_MIR_DROP_CNT) r 0 []
  else if inMir s r.addr && jBlocked s (jLines r.addr r.len) then waits (jWait s (jLines r.addr r.len))
  else go s

/-- A WRITE at its target. -/
def writeAt (s : State) (r : NocReq) : State × Bool :=
  let a := r.addr
  if inRom a then ends_ s r stTarget []
  else if inScratch a then
    if !spOn s (spBank a) then ends_ s r stOff []
    else mirGate s r (fun s => ends_ (if r.init = 472 then s.rawWrite 0 a r.data else s.viewWrite 0 a r.data) r 0 [])
  else if inFlash a then ends_ s r stDecode []
  else if inSram a then ends_ (s.store a r.data) r 0 []
  else if inCtrl a then
    let (t, st) := ctrlWrite s r.init a r.data
    if t.noc.sent.contains r then ends_ t r st [] else (t, true)
  else if inWin a then (winAccess s r, true)
  else if inSdram a || inHdm a then
    let st := memStop s r
    if st ≠ 0 then ends_ (keyNote s r) r st []
    else if memBusy s a then waits s
    else mirGate s r (fun s => extWrite s r)
  else if inPcie a then (if s.flag Reg.PCIE_STAT 0 then ends_ (hostSees s r) r 0 [] else ends_ s r stTarget [])
  else ends_ s r stDecode []

/-- An atomic at its target (R283): the scratchpad's alone. -/
def atomAt (s : State) (r : NocReq) : State × Bool :=
  let a := r.addr
  if inWin a then (winAccess s r, true)
  else if !mapped a then ends_ s r stDecode []
  else if !inScratch a || !atomOk r then ends_ s r stTarget []
  else if !spOn s (spBank a) then ends_ s r stOff []
  else if s.shadowing && mirHit s a r.len then
    let (s, bad) := spReadWords s (wordsOf a r.len)
    ends_ (s.count Reg.RELAY_MIR_DROP_CNT) r (if bad then stPoison else 0) (s.viewBytes 0 a r.len)
  else mirGate s r (fun s => spAtom s r)

/-! The rows. -/

/-- The oldest outstanding request of an initiator's tag and operation, where none of the initiator's earlier ones of its class goes to
its router (R286). -/
def dueReq (s : State) (i tag op : Nat) : Option NocReq :=
  match s.noc.sent.find? (fun r => r.init == i && r.tag == tag && r.op == op) with
  | none => none
  | some r =>
    if s.noc.sent.find? (fun x => x.init == i && x.cls == r.cls && routerOf s x.addr == routerOf s r.addr) == some r then some r else none

/-- A due request performed, or answered E2E where its check fails at the target (R289); it leaves the network once its target has taken
it. -/
def perform (s : State) (i tag op : Nat) (bad : Bool) (f : State → NocReq → State × Bool) : State :=
  match dueReq s i tag op with
  | none => s
  | some r =>
    let (t, taken) := if bad && r.e2e then ends_ s r stE2e [] else f s r
    if taken then t.setNoc { t.noc with sent := t.noc.sent.erase r } else t

/-- NOC_READ (R283): tag 256 names a request whose answer nobody awaits (R295). -/
def execNocRead (init : Fin 512) (tag : BitVec 9) (bad : Bool) (soft : Fin 3) (host : Option (List Byte)) (s : State) : Out :=
  .next (perform s init tag.toNat 0 bad (fun s r => readAt s r soft host))
/-- NOC_WRITE (R283). -/
def execNocWrite (init : Fin 512) (tag : BitVec 9) (bad : Bool) (s : State) : Out := .next (perform s init tag.toNat 1 bad writeAt)
/-- NOC_ADD (R298). -/
def execNocAdd (init : Fin 512) (tag : BitVec 9) (bad : Bool) (s : State) : Out := .next (perform s init tag.toNat 2 bad atomAt)
/-- NOC_SWAP (R298). -/
def execNocSwap (init : Fin 512) (tag : BitVec 9) (bad : Bool) (s : State) : Out := .next (perform s init tag.toNat 3 bad atomAt)

end Sys2Proof.Machine
end

