-- ==== Sys2Proof/Machine/DbgPort.lean ====
section
/-! DEFINITION. The debug port's system accesses and debug module (R557, R560…R563, R571): DBG_SYS, DTMCS, DMI and abstract commands.
Registers of RISC-V External Debug Support 0.13.2 stand as that document lays them out (PRESUMED, log entry 20). -/

namespace Sys2Proof.Machine

/-! System access (R561, R562). -/

/-- DENIED. -/
def stDenied : Nat := 9

/-- The request a debug access makes: 32 bits, await-verify. -/
def dbgReq (s : State) (op a : Nat) (data : List Byte) : NocReq := { reqOf s debugInit op a 4 orphan data with await := true }

/-- What a debug read of a protected tile finds: status and data, nothing counted (Table IMP-3). -/
def dbgTile (s : State) (r : NocReq) (k : ImpKind) : Nat × List Byte :=
  let t := r.addr / 512
  let data := s.viewBytes r.kix r.addr r.len
  match tileBuf s t, k with
  | some b, _ => if bufReady b then (0, data) else (stPoison, [])
  | none, .encInt n =>
    if poisonHits s n t then (stPoison, [])
    else if tileCtr s n t = 0 then (0, List.replicate r.len 0)
    else if (linesOf (512 * t) 512).any (fun l => inSdram (512 * t) && lineUe s l) || !tagGood s n t then (stPoison, [])
    else (0, data)
  | none, _ => (if inSdram r.addr && (linesOf r.addr r.len).any (lineUe s) then stPoison else 0, data)

/-- A debug read: no register popped, no event or count (R562). What a Paddock's design or a PCIe host answers is free. -/
def dbgRead (s : State) (a : Nat) : State × Nat × List Byte :=
  let r := dbgReq s 0 a []
  if !oneBlock a 4 then (s, stDecode, [])
  else if inRom a then (s, 0, (List.range 4).map (fun i => Config.bootRom (a + i)))
  else if inScratch a then
    if !spOn s (spBank a) then (s, stOff, [])
    else (s, if (wordsOf a 4).any (fun w => (spDecode (spErr s w)).double) then stPoison else 0, s.viewBytes 0 a 4)
  else if inFlash a then
    let (s, b) := flashRead s a 4
    (s, 0, b)
  else if inSram a then (s, 0, s.stored a 4)
  else if inCtrl a then ctrlRead s debugInit a 4
  else if inWin a then
    let p := winPad a
    if padIsolated s p || !padLoaded s p then (s, stIsolated, [])
    else if frpCfg s p 6 1 = 0 then (s, stDecode, [])
    else
      let (s, b) := drawBytes 4 s
      (s, 0, b)
  else if inSdram a || inHdm a then
    let st := memStop s r
    if st ≠ 0 then (s, st, [])
    else
      let (c, b) := dbgTile s r (impKind s a r.kix)
      (s, c, b)
  else if inPcie a then
    if s.flag Reg.PCIE_STAT 0 then
      let (s, b) := drawBytes 4 s
      (s, 0, b)
    else (s, stTarget, [])
  else (s, stDecode, [])

/-- The status of a debug write to a protected tile: refused in a poisoned subtree, at a counter's end, or where the old contents do not
verify (R341, R346). -/
def dbgTileStop (s : State) (r : NocReq) : Nat :=
  let t := r.addr / 512
  match tileBuf s t, impKind s r.addr r.kix with
  | none, .encInt n =>
    if poisonHits s n t then stPoison
    else if ctrFull s n t then stTarget
    else if tileCtr s n t ≠ 0 && !tagGood s n t then stPoison
    else 0
  | _, _ => 0

/-- A debug write: as of any other initiator (R562). -/
def dbgWrite (s : State) (a : Nat) (data : List Byte) : State × Nat :=
  let r := dbgReq s 1 a data
  let bad (s : State) (st : Nat) : State × Nat := (errNote s r st, st)
  if !oneBlock a 4 then bad s stDecode
  else if inCtrl a then
    let (s, st) := ctrlWrite s debugInit a data
    bad s st
  else if inSdram a || inHdm a then
    let st := memStop s r
    let st := if st = 0 then dbgTileStop s r else st
    if st ≠ 0 then bad (keyNote s r) st else (s.viewWrite r.kix a data, 0)
  else if inScratch a then (if spOn s (spBank a) then (s.viewWrite 0 a data, 0) else bad s stOff)
  else if inSram a then (s.store a data, 0)
  else if inWin a then
    let p := winPad a
    if padIsolated s p || !padLoaded s p then bad s stIsolated
    else if frpCfg s p 6 1 = 0 then bad s stDecode
    else (winAccess s r, 0)
  else if inPcie a then (if s.flag Reg.PCIE_STAT 0 then (hostSees s r, 0) else bad s stTarget)
  else if inRom a then bad s stTarget
  else bad s stDecode

/-- What the next Capture-DR of DBG_SYS shows. -/
def dbgDone (s : State) (status v : Nat) : State :=
  (s.setDbg { s.dbg with ir := 0x21, status := status, data := v }).answer tapPin 0 [status, v]

/-- DBG_SYS_READ (R561, R562). -/
def execDbgSysRead (addr : BitVec 48) (s : State) : Out :=
  if s.debugLevel = 0 then .next (dbgDone s stDenied 0)
  else
    let (t, st, b) := dbgRead s addr.toNat
    .next (dbgDone t st (leNat b))

/-- DBG_SYS_WRITE (R561, R562, R571). -/
def execDbgSysWrite (addr : BitVec 48) (data : BitVec 32) (s : State) : Out :=
  if s.debugLevel < 2 then .next (dbgDone s stDenied 0)
  else
    let (t, st) := dbgWrite s addr.toNat (leBytes 4 data.toNat)
    .next (dbgDone t st 0)

/-! The debug module's registers, kept by DMI address. -/

/-- A register of the module as kept. -/
def dmReg (s : State) (a : Nat) : Nat := (sget (fun _ => (0 : BitVec 32)) s.dbg.dm a).toNat
/-- The state with it replaced. -/
def setDmReg (s : State) (a v : Nat) : State := s.setDbg { s.dbg with dm := sinsert a (BitVec.ofNat 32 v) (sdrop a s.dbg.dm) }

/-- dmcontrol's address. -/
def dmControl : Nat := 0x10
/-- abstractcs's address. -/
def dmAbstract : Nat := 0x16
/-- sbcs's address. -/
def dmSbcs : Nat := 0x38

/-- hartsel. -/
def dmHart (s : State) : Nat := bitsOf (dmReg s dmControl) 25 16 + bitsOf (dmReg s dmControl) 15 6 * 2 ^ 10
/-- dmactive. -/
def dmActive (s : State) : Bool := (dmReg s dmControl).testBit 0
/-- Words of abstract data. -/
def dmWords : Nat := Nat.max 2 Config.dmDataCount.toNat

/-- Two bits of dmstatus, any and all, for the one selected hart. -/
def dmPair (lo : Nat) (b : Bool) : Nat := bit b * 3 * 2 ^ lo

/-- dmstatus: version 0.13, authenticated, resethaltreq offered; a pair held in reset is unavailable (R565). -/
def dmStatus (s : State) : Nat :=
  let h := dmHart s
  let there := decide (h < 2)
  let up := there && pairUp s h
  2 + 2 ^ 5 + 2 ^ 7 + dmPair 8 (up && pairHalted s h) + dmPair 10 (up && !pairHalted s h) + dmPair 12 (there && !up) + dmPair 14 (!there)
    + dmPair 16 (there && dmBit s dmResumeAck h) + dmPair 18 (there && dmBit s dmHaveReset h) + bit Config.dmImpebreak * 2 ^ 22

/-- abstractcs: 8 words of program buffer. -/
def dmAbstractcs (s : State) : Nat := dmWords % 16 + bitsOf (dmReg s dmAbstract) 10 8 * 2 ^ 8 + 8 * 2 ^ 24

/-- sbcs: 32-bit accesses at 48-bit addresses. -/
def dmSbcsView (s : State) : Nat :=
  let v := dmReg s dmSbcs
  2 ^ 29 + bitsOf v 20 20 * 2 ^ 20 + bitsOf v 19 17 * 2 ^ 17 + bitsOf v 16 12 * 2 ^ 12 + 48 * 2 ^ 5 + 4

/-- sbaddress. -/
def sbAddr (s : State) : Nat := (dmReg s 0x39 + dmReg s 0x3A * 2 ^ 32) % 2 ^ 48
/-- The address moved on where autoincrement is set. -/
def sbNext (s : State) : State :=
  if (dmReg s dmSbcs).testBit 16 then
    let a := sbAddr s + 4
    setDmReg (setDmReg s 0x39 (a % 2 ^ 32)) 0x3A (a / 2 ^ 32)
  else s
/-- sberror after an access: the NoC's status, or 4 for a size that is not 32 bits. -/
def sbEnd (s : State) (st : Nat) : State :=
  if st = 0 then sbNext s else setDmReg s dmSbcs (putBits (dmReg s dmSbcs) 14 12 st)
/-- An access may start: no error stands. -/
def sbFree (s : State) : Bool := bitsOf (dmReg s dmSbcs) 14 12 == 0
/-- The access size is 32 bits. -/
def sbSize (s : State) : Bool := bitsOf (dmReg s dmSbcs) 19 17 == 2

/-- A system-bus read into sbdata0 (R560, R561). -/
def sbRead (s : State) : State :=
  if !sbFree s then s
  else if !sbSize s then sbEnd s 4
  else
    let (s, st, b) := dbgRead s (sbAddr s)
    sbEnd (if st = 0 then setDmReg s 0x3C (leNat b) else s) st

/-- A system-bus write of sbdata0. -/
def sbWrite (s : State) : State :=
  if !sbFree s then s
  else if !sbSize s then sbEnd s 4
  else
    let (s, st) := dbgWrite s (sbAddr s) (leBytes 4 (dmReg s 0x3C))
    sbEnd s st

/-- What a register of the module reads. -/
def dmView (s : State) (a : Nat) : Nat :=
  if a = dmControl then Nat.land (dmReg s a) 0x03FFFFC3
  else if a = 0x11 then dmStatus s
  else if a = 0x12 then Config.dmHartinfo.toNat
  else if a = dmAbstract then dmAbstractcs s
  else if a = dmSbcs then dmSbcsView s
  else if a = 0x40 then bit (pairHalted s 0) + 2 * bit (pairHalted s 1)
  else if (4 ≤ a ∧ a < 4 + dmWords ∧ a < 0x10) ∨ (0x20 ≤ a ∧ a < 0x28) ∨ a = 0x39 ∨ a = 0x3A ∨ a = 0x3C then dmReg s a
  else 0

/-- The registers that can be read at NON_INVASIVE (R560). -/
def dmOpen (a : Nat) : Bool := [0x11, 0x12, dmAbstract].contains a || (decide (0x38 ≤ a) && decide (a < 0x40))

/-- A read of the module (R560). -/
def dmRead (s : State) (a : Nat) : State × Nat :=
  if s.debugLevel = 0 ∨ (s.debugLevel = 1 ∧ !dmOpen a) then (s, 0)
  else
    let v := dmView s a
    (if a = 0x3C ∧ (dmReg s dmSbcs).testBit 15 then sbRead s else s, v)

/-! Abstract commands (R563). -/

/-- cmderr set. -/
def cmdErr (s : State) (c : Nat) : State := setDmReg s dmAbstract (putBits (dmReg s dmAbstract) 10 8 c)

/-- The value of a pair's register: what was last written or read while it has been halted, else free; x0 is zero. -/
def hartReg (s : State) (p n : Nat) : State × Nat :=
  if n = 0x1000 then (s, 0)
  else if n < 0x1000 then
    let step := bit (n = dcsrNo && dcsrStep s p) * 4
    (s.took, if n = dcsrNo then putBits s.free 2 2 (step / 4) else s.free)
  else match s.dbg.gprs.find? (fun e => e.1 == 65536 * p + n) with
    | some (_, v) => (s, v.toNat)
    | none =>
      let v := BitVec.ofNat 64 s.free
      let s := s.took
      (s.setDbg { s.dbg with gprs := (65536 * p + n, v) :: s.dbg.gprs }, v.toNat)

/-- A pair's register written. -/
def setHartReg (s : State) (p n v : Nat) : State :=
  if n = 0x1000 then s
  else s.setDbg { s.dbg with gprs := (65536 * p + n, BitVec.ofNat 64 v) :: s.dbg.gprs.filter (fun e => e.1 != 65536 * p + n) }

/-- The register number names a register of a pair: a GPR, dcsr, dpc, or a CSR it has. -/
def hartHas (n : Nat) : Bool :=
  (decide (0x1000 ≤ n) && decide (n < 0x1020)) || n == dcsrNo || n == 0x7B1 || (decide (n < 0x1000) && Config.csrThere n)

/-- An abstract command (R563): Access Register alone, for a halted hart; a program buffer run leaves the hart's registers open. -/
def dmCommand (s : State) (v : Nat) : State :=
  let p := dmHart s
  let n := bitsOf v 15 0
  let size := bitsOf v 22 20
  let wide := size = 3
  if bitsOf (dmReg s dmAbstract) 10 8 ≠ 0 then s
  else if v / 2 ^ 24 ≠ 0 then cmdErr s 2
  else if !(decide (p < 2) && pairUp s p && pairHalted s p) then cmdErr s 4
  else
    let move := v.testBit 17
    if move && size != 2 && size != 3 then cmdErr s 2
    else if move && !hartHas n then cmdErr s 3
    else
      let s :=
        if !move then s
        else if v.testBit 16 then
          let (s, hi) := if wide then (s, dmReg s 5) else (s.took, s.free % 2 ^ 32)
          setHartReg s p n (dmReg s 4 + hi * 2 ^ 32)
        else
          let (s, x) := hartReg s p n
          let s := setDmReg s 4 (x % 2 ^ 32)
          if wide then setDmReg s 5 (x / 2 ^ 32) else s
      if v.testBit 18 then
        let bad := s.free % 2 = 1
        let s := s.took
        let s := s.setDbg { s.dbg with gprs := s.dbg.gprs.filter (fun e => e.1 / 65536 != p || e.1 % 65536 == dcsrNo) }
        if bad then cmdErr s 3 else s
      else s

/-! Writes of the module. -/

/-- A write of dmcontrol: with dmactive clear the module resets, halts staying; else the requests for the selected hart, and a reset of
the system, whose recorded cause is open (log entry 20). -/
def dmControlSet (s : State) (v : Nat) : State :=
  if !v.testBit 0 then s.setDbg { s.dbg with dm := s.dbg.dm.filter (fun e => e.1 == dmHaveReset), rhalt := [] }
  else
    let was := (dmReg s dmControl).testBit 1
    let s := setDmReg s dmControl (Nat.land v 0x03FFFFC3)
    let p := dmHart s
    let s :=
      if 2 ≤ p then s
      else
        let s := if v.testBit 28 then setDmBit s dmHaveReset p false else s
        let s := if v.testBit 3 ∧ !s.dbg.rhalt.contains p then s.setDbg { s.dbg with rhalt := s.dbg.rhalt ++ [p] } else s
        let s := if v.testBit 2 then s.setDbg { s.dbg with rhalt := s.dbg.rhalt.filter (· ≠ p) } else s
        if v.testBit 31 then haltReq s p
        else if v.testBit 30 then resumeReq (setDmBit s dmResumeAck p false) p
        else s
    if v.testBit 1 && !was then systemReset s.took (s.free % 5) else s

/-- A write of sbcs: the error cleared by ones, the settings. -/
def dmSbcsSet (s : State) (v : Nat) : State :=
  let o := dmReg s dmSbcs
  let err := bitsOf o 14 12 - Nat.land (bitsOf o 14 12) (bitsOf v 14 12)
  setDmReg s dmSbcs (bitsOf v 20 15 * 2 ^ 15 + err * 2 ^ 12)

/-- A write of the module (R560): at FULL, and with dmactive set but for dmcontrol. -/
def dmWrite (s : State) (a v : Nat) : State :=
  if s.debugLevel ≠ 2 then s
  else if a = dmControl then dmControlSet s v
  else if !dmActive s then s
  else if a = dmAbstract then
    let e := bitsOf (dmReg s a) 10 8
    cmdErr s (e - Nat.land e (bitsOf v 10 8))
  else if a = 0x17 then dmCommand s v
  else if a = dmSbcs then dmSbcsSet s v
  else if a = 0x39 then
    let s := setDmReg s a v
    if (dmReg s dmSbcs).testBit 20 then sbRead s else s
  else if a = 0x3A then setDmReg s a (v % 2 ^ 16)
  else if a = 0x3C then sbWrite (setDmReg s a v)
  else if (4 ≤ a ∧ a < 4 + dmWords ∧ a < 0x10) ∨ (0x20 ≤ a ∧ a < 0x28) then setDmReg s a v
  else s

/-! The rows. -/

/-- DTMCS (R557): version 0.13, abits 7. -/
def execDtmcs (_value : BitVec 32) (s : State) : Out :=
  .next ((setIr s 0x10).answer tapPin 0 [1 + 7 * 2 ^ 4 + Config.dtmIdle.toNat * 2 ^ 12])

/-- DMI (R560): a read or write of the module, with its answer and status. -/
def execDmi (op : BitVec 2) (addr : BitVec 7) (data : BitVec 32) (s : State) : Out :=
  let s := setIr s 0x11
  if op = 1 then
    let (t, v) := dmRead s addr.toNat
    .next (t.answer tapPin 0 [0, v])
  else if op = 2 then .next ((dmWrite s addr.toNat data.toNat).answer tapPin 0 [0, data.toNat])
  else .next (s.answer tapPin 0 [0, 0])

/-- ACCESS_REGISTER (R563): a write of command. -/
def execAccessRegister (command : BitVec 32) (s : State) : Out := .next (dmWrite s 0x17 command.toNat)

end Sys2Proof.Machine
end

