-- ==== Sys2Proof/Machine/Release.lean ====
section
/-! DEFINITION. The decision of an admission (R103…R106, R399) and the release of an operation (R117…R120, R404). -/

namespace Sys2Proof.Machine

/-- The descriptor bytes of a slot. -/
def descBytes (s : State) (slot : Nat) : List Byte := s.bytes (descAddr slot) 64

/-- An ADMIT entry's DATA (Table RLY-4): the slot, then the descriptor with the W14 and W15 acceptance wrote. -/
def admitData (s : State) (slot : Nat) : List Byte := leBytes 4 slot ++ descBytes s slot

/-- ADMISSION_DECIDE (R103, R104, R399): the oldest admission whose descriptor read was issued is decided; `rdStatus` and `wrStatus` are
the NoC's answers to that read and to the write of W14 and W15. A primary whose journal is full waits before it accepts (R399). -/
def execAdmissionDecide (rdStatus : Fin 8) (wrStatus : Fin 8) (s : State) : Out :=
  match s.pac.admRead with
  | [] => .next s
  | a :: r =>
    let slot := a.offset / 64
    let t := s.setPac { s.pac with admRead := r }
    let code := admitCode t slot rdStatus false
    if code ≠ 0 then .next (refuse t a.bell a.offset code (rdStatus.val == 0 || wrStatus.val == 0))
    else if jBlocked s 1 then .next (jWait s 1)
    else
      let t := acceptOp t slot
      .next (jEntry t 6 (admitData t slot))

/-- An operation may be released now: HELD, due, its flow's predecessors final (R117, R120). -/
def releasable (s : State) (o : Op) : Bool := o.st == .held && ptReached s.pt o.due && predsDone s o

/-- a comes before b in the order of R119: DUE_TICK, then delay list, then acceptance. -/
def relBefore (a b : Op) : Bool :=
  ptLater b.due a.due || (a.due == b.due && (decide (a.list < b.list) || (a.list == b.list && decide (a.id < b.id))))

/-- An operation is the next the Pacer releases, and fewer than 256 have been released in this tick (R119). -/
def relTurn (s : State) (o : Op) : Bool :=
  releasable s o && !(s.pac.ops.any (fun x => releasable s x && relBefore x o))
    && (s.pac.relTick != s.pt || decide (s.pac.relCount < 256))

/-- A TIMED release's push (R118): staged entries at once, else a fetch by the stager; nothing where TO_n takes no entries. -/
def relTimed (s : State) (o : Op) : State :=
  if 7 < o.relId ∨ !s.flag (Reg.TO_CTL o.relId) 0 ∨ s.flag (Reg.TO_CTL o.relId) 1 then timedDrop s
  else if o.cls = 3 then pushTimed s o.relId (bufEntries (o.staged.getD []))
  else match o.outs.getD 0 none with
    | some t => s.setPac { s.pac with fetches := s.pac.fetches ++ [(t, o.relId)] }
    | none => s

/-- The target of a release (R117); in SHADOW it receives nothing (R404). -/
def relTarget (s : State) (o : Op) : State :=
  match o.relKind with
  | 0 => s
  | k =>
    if s.shadowing then
      (s.count Reg.RELAY_SUPPRESS_CNT).setRly { s.rly with shadow := s.rly.shadow ++ [(o.due, o.flow, o.seq, o.ordered)] }
    else
      match o.outs.getD 0 none with
      | none => s
      | some t =>
        if k = 1 then ethRelease s o.relId (tokAddr s t) (tokLen s t)
        else if k = 2 then cvRelease s o.relId (tokAddr s t) (tokLen s t)
        else relTimed s o

/-- OP_RELEASE (R117…R120). -/
def execOpRelease (slot : Fin 1048576) (s : State) : Out :=
  match opAt s slot with
  | some o => if relTurn s o then .next (relTarget (releaseCore s o) o) else .next s
  | none => .next s

end Sys2Proof.Machine
end

