-- ==== Sys2Proof/Machine/Dispatch.lean ====
section
/-! DEFINITION. Which meaning each command has: one arm per constructor, each a direct call. -/

namespace Sys2Proof.Machine

def exec (i : Instr) (s : State) : Host.Outcome State Fault Refusal :=
  match i with
  | .registerWrite init addr data => Sys2Proof.Machine.execRegisterWrite init addr data s
  | .wideRegisterWord0Read init addr => Sys2Proof.Machine.execWideRegisterWord0Read init addr s
  | .wideRegisterHighWrite init addr value => Sys2Proof.Machine.execWideRegisterHighWrite init addr value s
  | .evtStatusClear init block value same => Sys2Proof.Machine.execEvtStatusClear init block value same s
  | .evtCountClr init block value same => Sys2Proof.Machine.execEvtCountClr init block value same s
  | .porRelease mode pull rails => Sys2Proof.Machine.execPorRelease mode pull rails s
  | .railMonitorRelease => Sys2Proof.Machine.execRailMonitorRelease s
  | .rcoStable => Sys2Proof.Machine.execRcoStable s
  | .timingPllLock hzA hzB cyc => Sys2Proof.Machine.execTimingPllLock hzA hzB cyc s
  | .bootComplete => Sys2Proof.Machine.execBootComplete s
  | .srstN => Sys2Proof.Machine.execSrstN s
  | .mainPowerLoss => Sys2Proof.Machine.execMainPowerLoss s
  | .mainPowerReturn => Sys2Proof.Machine.execMainPowerReturn s
  | .pdSwitchDone d => Sys2Proof.Machine.execPdSwitchDone d s
  | .oscLost b => Sys2Proof.Machine.execOscLost b s
  | .bothOscLost => Sys2Proof.Machine.execBothOscLost s
  | .oscGoodAgain a b => Sys2Proof.Machine.execOscGoodAgain a b s
  | .oscRevert => Sys2Proof.Machine.execOscRevert s
  | .gnssPpsEdge r rising ofs => Sys2Proof.Machine.execGnssPpsEdge r rising ofs s
  | .gnssPulseMissing r => Sys2Proof.Machine.execGnssPulseMissing r s
  | .todMessage m => Sys2Proof.Machine.execTodMessage m s
  | .tlPtpMeas value => Sys2Proof.Machine.execTlPtpMeas value s
  | .tlPtpSHi value => Sys2Proof.Machine.execTlPtpSHi value s
  | .ptpTimeout => Sys2Proof.Machine.execPtpTimeout s
  | .synceLoss => Sys2Proof.Machine.execSynceLoss s
  | .autoStep => Sys2Proof.Machine.execAutoStep s
  | .holdoverRequalify => Sys2Proof.Machine.execHoldoverRequalify s
  | .capture => Sys2Proof.Machine.execCapture s
  | .forceStep => Sys2Proof.Machine.execForceStep s
  | .forceAcquire => Sys2Proof.Machine.execForceAcquire s
  | .requalify => Sys2Proof.Machine.execRequalify s
  | .stepApply => Sys2Proof.Machine.execStepApply s
  | .toEdgeTWrite n value => Sys2Proof.Machine.execToEdgeTWrite n value s
  | .toCtlWrite n value => Sys2Proof.Machine.execToCtlWrite n value s
  | .toEntryHead n => Sys2Proof.Machine.execToEntryHead n s
  | .toEdgeApply n => Sys2Proof.Machine.execToEdgeApply n s
  | .toPeriodicEdge n => Sys2Proof.Machine.execToPeriodicEdge n s
  | .ppsOutEdge => Sys2Proof.Machine.execPpsOutEdge s
  | .tlioEntryPush cell sec tc level => Sys2Proof.Machine.execTlioEntryPush cell sec tc level s
  | .tlioTsPop cell => Sys2Proof.Machine.execTlioTsPop cell s
  | .tsiEdgeCapture n rising ofs => Sys2Proof.Machine.execTsiEdgeCapture n rising ofs s
  | .tsiHiRead n init => Sys2Proof.Machine.execTsiHiRead n init s
  | .fsynArm n value => Sys2Proof.Machine.execFsynArm n value s
  | .fsynStart n => Sys2Proof.Machine.execFsynStart n s
  | .hoLearnSecond => Sys2Proof.Machine.execHoLearnSecond s
  | .hoRefit => Sys2Proof.Machine.execHoRefit s
  | .hoSnapshot => Sys2Proof.Machine.execHoSnapshot s
  | .snap => Sys2Proof.Machine.execSnap s
  | .forget => Sys2Proof.Machine.execForget s
  | .tsensRead reading => Sys2Proof.Machine.execTsensRead reading s
  | .hoSteerSecond apart worse => Sys2Proof.Machine.execHoSteerSecond apart worse s
  | .holdoverExpiry => Sys2Proof.Machine.execHoldoverExpiry s
  | .calSecond => Sys2Proof.Machine.execCalSecond s
  | .calAutoTrim trim => Sys2Proof.Machine.execCalAutoTrim trim s
  | .vbatBrownout => Sys2Proof.Machine.execVbatBrownout s
  | .xtStop => Sys2Proof.Machine.execXtStop s
  | .vbatCheck low => Sys2Proof.Machine.execVbatCheck low s
  | .calSet value => Sys2Proof.Machine.execCalSet value s
  | .calSRead init => Sys2Proof.Machine.execCalSRead init s
  | .calLeapAdd value => Sys2Proof.Machine.execCalLeapAdd value s
  | .leapApply slot => Sys2Proof.Machine.execLeapApply slot s
  | .lppCtlLWrite value => Sys2Proof.Machine.execLppCtlLWrite value s
  | .lppCtlHWrite value => Sys2Proof.Machine.execLppCtlHWrite value s
  | .lppKeepWrite value => Sys2Proof.Machine.execLppKeepWrite value s
  | .lppCommitApply => Sys2Proof.Machine.execLppCommitApply s
  | .lppStart => Sys2Proof.Machine.execLppStart s
  | .lppPpsPulse active => Sys2Proof.Machine.execLppPpsPulse active s
  | .lppFrameStrobe active => Sys2Proof.Machine.execLppFrameStrobe active s
  | .lppHoldoverStop => Sys2Proof.Machine.execLppHoldoverStop s
  | .pacAdmit bell value => Sys2Proof.Machine.execPacAdmit bell value s
  | .admissionDequeue => Sys2Proof.Machine.execAdmissionDequeue s
  | .admissionDecide rdStatus wrStatus => Sys2Proof.Machine.execAdmissionDecide rdStatus wrStatus s
  | .opStart => Sys2Proof.Machine.execOpStart s
  | .opReady slot => Sys2Proof.Machine.execOpReady slot s
  | .canterGrant core => Sys2Proof.Machine.execCanterGrant core s
  | .preempt slot => Sys2Proof.Machine.execPreempt slot s
  | .hpGrant port => Sys2Proof.Machine.execHpGrant port s
  | .hpDone port tag status => Sys2Proof.Machine.execHpDone port tag status s
  | .dmaComplete chan noc => Sys2Proof.Machine.execDmaComplete chan noc s
  | .stagerFetchDone noc => Sys2Proof.Machine.execStagerFetchDone noc s
  | .opReport slot status => Sys2Proof.Machine.execOpReport slot status s
  | .alarmWindowEnd slot => Sys2Proof.Machine.execAlarmWindowEnd slot s
  | .opDeadline slot => Sys2Proof.Machine.execOpDeadline slot s
  | .opRelease slot => Sys2Proof.Machine.execOpRelease slot s
  | .timedReleaseFetchDone noc => Sys2Proof.Machine.execTimedReleaseFetchDone noc s
  | .pacGraphCfgWrite graph value => Sys2Proof.Machine.execPacGraphCfgWrite graph value s
  | .pacFlowCfgWrite flow value => Sys2Proof.Machine.execPacFlowCfgWrite flow value s
  | .pacCtlWrite value => Sys2Proof.Machine.execPacCtlWrite value s
  | .rbAlarm cls worker addr alarm => Sys2Proof.Machine.execRbAlarm cls worker addr alarm s
  | .rbTokClr value => Sys2Proof.Machine.execRbTokClr value s
  | .rbTest value => Sys2Proof.Machine.execRbTest value s
  | .rbLossHiRead init => Sys2Proof.Machine.execRbLossHiRead init s
  | .nop core fresh => Sys2Proof.Machine.execNop core fresh s
  | .cmac core fresh k ra rb cj neg clr => Sys2Proof.Machine.execCmac core fresh k ra rb cj neg clr s
  | .drmac core fresh k ra rb md => Sys2Proof.Machine.execDrmac core fresh k ra rb md s
  | .pcmac core fresh k ra rb md => Sys2Proof.Machine.execPcmac core fresh k ra rb md s
  | .ext core fresh k ra sh final sat clr => Sys2Proof.Machine.execExt core fresh k ra sh final sat clr s
  | .ashr core fresh k sh => Sys2Proof.Machine.execAshr core fresh k sh s
  | .ald core fresh k ra sh => Sys2Proof.Machine.execAld core fresh k ra sh s
  | .amov core fresh k j => Sys2Proof.Machine.execAmov core fresh k j s
  | .aadd core fresh k j => Sys2Proof.Machine.execAadd core fresh k j s
  | .cadd core fresh ra rb md => Sys2Proof.Machine.execCadd core fresh ra rb md s
  | .csub core fresh ra rb md => Sys2Proof.Machine.execCsub core fresh ra rb md s
  | .cadds core fresh ra rb md => Sys2Proof.Machine.execCadds core fresh ra rb md s
  | .csubs core fresh ra rb md => Sys2Proof.Machine.execCsubs core fresh ra rb md s
  | .conj core fresh ra rb => Sys2Proof.Machine.execConj core fresh ra rb s
  | .mov core fresh ra rb => Sys2Proof.Machine.execMov core fresh ra rb s
  | .ld core fresh mem p d pm => Sys2Proof.Machine.execLd core fresh mem p d pm s
  | .st core fresh mem p d pm => Sys2Proof.Machine.execSt core fresh mem p d pm s
  | .rot core fresh => Sys2Proof.Machine.execRot core fresh s
  | .clra core fresh mask => Sys2Proof.Machine.execClra core fresh mask s
  | .ask core fresh status => Sys2Proof.Machine.execAsk core fresh status s
  | .wait core fresh mask => Sys2Proof.Machine.execWait core fresh mask s
  | .loop core fresh lc rot body count => Sys2Proof.Machine.execLoop core fresh lc rot body count s
  | .loopr core fresh lc rot body d => Sys2Proof.Machine.execLoopr core fresh lc rot body d s
  | .br core fresh cond d target => Sys2Proof.Machine.execBr core fresh cond d target s
  | .movil core fresh d imm => Sys2Proof.Machine.execMovil core fresh d imm s
  | .movih core fresh d imm => Sys2Proof.Machine.execMovih core fresh d imm s
  | .addp core fresh n m imm => Sys2Proof.Machine.execAddp core fresh n m imm s
  | .addpd core fresh n m d => Sys2Proof.Machine.execAddpd core fresh n m d s
  | .movpd core fresh n da db => Sys2Proof.Machine.execMovpd core fresh n da db s
  | .setm core fresh n size step => Sys2Proof.Machine.execSetm core fresh n size step s
  | .setrm core fresh rm => Sys2Proof.Machine.execSetrm core fresh rm s
  | .get core fresh ch ps pl mem len => Sys2Proof.Machine.execGet core fresh ch ps pl mem len s
  | .put core fresh ch pd pl mem len => Sys2Proof.Machine.execPut core fresh ch pd pl mem len s
  | .idle core fresh n => Sys2Proof.Machine.execIdle core fresh n s
  | .getComplete core ch noc => Sys2Proof.Machine.execGetComplete core ch noc s
  | .putComplete core ch noc => Sys2Proof.Machine.execPutComplete core ch noc s
  | .grantLoad core => Sys2Proof.Machine.execGrantLoad core s
  | .preemptSwitch core => Sys2Proof.Machine.execPreemptSwitch core s
  | .abandon core => Sys2Proof.Machine.execAbandon core s
  | .caImemWrite team word value => Sys2Proof.Machine.execCaImemWrite team word value s
  | .saveDone => Sys2Proof.Machine.execSaveDone s
  | .restoreDone => Sys2Proof.Machine.execRestoreDone s
  | .contentionSample line => Sys2Proof.Machine.execContentionSample line s
  | .bmFlipArm value => Sys2Proof.Machine.execBmFlipArm value s
  | .dpReq init wr index sub word data => Sys2Proof.Machine.execDpReq init wr index sub word data s
  | .dpAck p data code => Sys2Proof.Machine.execDpAck p data code s
  | .dpTimeout p => Sys2Proof.Machine.execDpTimeout p s
  | .gckCfgWrite k value => Sys2Proof.Machine.execGckCfgWrite k value s
  | .gckStart k => Sys2Proof.Machine.execGckStart k s
  | .loadFull value => Sys2Proof.Machine.execLoadFull value s
  | .loadPartial value => Sys2Proof.Machine.execLoadPartial value s
  | .abort value => Sys2Proof.Machine.execAbort value s
  | .empty value => Sys2Proof.Machine.execEmpty value s
  | .pass1Done host => Sys2Proof.Machine.execPass1Done host s
  | .loadTimeout => Sys2Proof.Machine.execLoadTimeout s
  | .prIsolate => Sys2Proof.Machine.execPrIsolate s
  | .pass2Chunk host => Sys2Proof.Machine.execPass2Chunk host s
  | .altUsed => Sys2Proof.Machine.execAltUsed s
  | .startupClocks => Sys2Proof.Machine.execStartupClocks s
  | .driverRelease => Sys2Proof.Machine.execDriverRelease s
  | .gsrRelease => Sys2Proof.Machine.execGsrRelease s
  | .loadDone => Sys2Proof.Machine.execLoadDone s
  | .frameSlot engine prio => Sys2Proof.Machine.execFrameSlot engine prio s
  | .priorityPassStart engine => Sys2Proof.Machine.execPriorityPassStart engine s
  | .repairWrite engine => Sys2Proof.Machine.execRepairWrite engine s
  | .repairVerify engine => Sys2Proof.Machine.execRepairVerify engine s
  | .refetchChunk engine host => Sys2Proof.Machine.execRefetchChunk engine host s
  | .farrierRateUpdate => Sys2Proof.Machine.execFarrierRateUpdate s
  | .farPrioCommit value => Sys2Proof.Machine.execFarPrioCommit value s
  | .peerStallCheck engine => Sys2Proof.Machine.execPeerStallCheck engine s
  | .restorePeer value => Sys2Proof.Machine.execRestorePeer value s
  | .farLogRead init => Sys2Proof.Machine.execFarLogRead init s
  | .farInject value => Sys2Proof.Machine.execFarInject value s
  | .nocInject init op addr len tag data => Sys2Proof.Machine.execNocInject init op addr len tag data s
  | .curbRefill => Sys2Proof.Machine.execCurbRefill s
  | .linkResend router dir good => Sys2Proof.Machine.execLinkResend router dir good s
  | .nocRead init tag bad soft host => Sys2Proof.Machine.execNocRead init tag bad soft host s
  | .nocWrite init tag bad => Sys2Proof.Machine.execNocWrite init tag bad s
  | .nocAdd init tag bad => Sys2Proof.Machine.execNocAdd init tag bad s
  | .nocSwap init tag bad => Sys2Proof.Machine.execNocSwap init tag bad s
  | .nocResponse init tag bad => Sys2Proof.Machine.execNocResponse init tag bad s
  | .spBankCfgWrite b value => Sys2Proof.Machine.execSpBankCfgWrite b value s
  | .spStateDone b => Sys2Proof.Machine.execSpStateDone b s
  | .spFlipArm value => Sys2Proof.Machine.execSpFlipArm value s
  | .nocMonClr value => Sys2Proof.Machine.execNocMonClr value s
  | .frpRequest p kind tag addr len cls kix await data => Sys2Proof.Machine.execFrpRequest p kind tag addr len cls kix await data s
  | .frpTargetResponse p tag status data => Sys2Proof.Machine.execFrpTargetResponse p tag status data s
  | .tgtTimeout p tag => Sys2Proof.Machine.execTgtTimeout p tag s
  | .mergeFlush h => Sys2Proof.Machine.execMergeFlush h s
  | .refreshDue h rank busy => Sys2Proof.Machine.execRefreshDue h rank busy s
  | .init h => Sys2Proof.Machine.execInit h s
  | .initDone h ok => Sys2Proof.Machine.execInitDone h ok s
  | .retrainDue h => Sys2Proof.Machine.execRetrainDue h s
  | .trainingSlot h => Sys2Proof.Machine.execTrainingSlot h s
  | .trainForced h => Sys2Proof.Machine.execTrainForced h s
  | .patrolRead h => Sys2Proof.Machine.execPatrolRead h s
  | .retirePage h => Sys2Proof.Machine.execRetirePage h s
  | .retirePageDone h => Sys2Proof.Machine.execRetirePageDone h s
  | .retireBank h => Sys2Proof.Machine.execRetireBank h s
  | .retireDone h => Sys2Proof.Machine.execRetireDone h s
  | .memFlipArm h value => Sys2Proof.Machine.execMemFlipArm h value s
  | .memLogRead h init => Sys2Proof.Machine.execMemLogRead h init s
  | .cxlDecCommit d value => Sys2Proof.Machine.execCxlDecCommit d value s
  | .cxlResponse init tag poison => Sys2Proof.Machine.execCxlResponse init tag poison s
  | .cxlTimeout init tag => Sys2Proof.Machine.execCxlTimeout init tag s
  | .cxlLinkChg port up width gen => Sys2Proof.Machine.execCxlLinkChg port up width gen s
  | .cxlEcamAccess init wr ofs value got => Sys2Proof.Machine.execCxlEcamAccess init wr ofs value got s
  | .pcieInbound bar wr ofs len tag data => Sys2Proof.Machine.execPcieInbound bar wr ofs len tag data s
  | .pcieLinkChg up width gen => Sys2Proof.Machine.execPcieLinkChg up width gen s
  | .impTileRead tile => Sys2Proof.Machine.execImpTileRead tile s
  | .impNodeVerify rng level idx => Sys2Proof.Machine.execImpNodeVerify rng level idx s
  | .impTagCheck tile => Sys2Proof.Machine.execImpTagCheck tile s
  | .impCheckTimeout tile => Sys2Proof.Machine.execImpCheckTimeout tile s
  | .impTileWrite init tag => Sys2Proof.Machine.execImpTileWrite init tag s
  | .impTileWriteback tile => Sys2Proof.Machine.execImpTileWriteback tile s
  | .impRangeCommit n value => Sys2Proof.Machine.execImpRangeCommit n value s
  | .impRangeDecommit n value => Sys2Proof.Machine.execImpRangeDecommit n value s
  | .impReseed value => Sys2Proof.Machine.execImpReseed value s
  | .rollStart value => Sys2Proof.Machine.execRollStart value s
  | .rollPause => Sys2Proof.Machine.execRollPause s
  | .rollResume => Sys2Proof.Machine.execRollResume s
  | .rollClaim => Sys2Proof.Machine.execRollClaim s
  | .rollTileDone => Sys2Proof.Machine.execRollTileDone s
  | .rollRetry => Sys2Proof.Machine.execRollRetry s
  | .impTagFlipArm value => Sys2Proof.Machine.execImpTagFlipArm value s
  | .impLogRead init => Sys2Proof.Machine.execImpLogRead init s
  | .laneSignalDetect lane => Sys2Proof.Machine.execLaneSignalDetect lane s
  | .laneLos lane => Sys2Proof.Machine.execLaneLos lane s
  | .eqAdaptStep lane => Sys2Proof.Machine.execEqAdaptStep lane s
  | .ethEnable m value => Sys2Proof.Machine.execEthEnable m value s
  | .ethTxStart m noc => Sys2Proof.Machine.execEthTxStart m noc s
  | .ethTxFrameDone m noc ofs => Sys2Proof.Machine.execEthTxFrameDone m noc ofs s
  | .ethTxpPush m value => Sys2Proof.Machine.execEthTxpPush m value s
  | .ethRxFrame m frame fcs corr unc ofs => Sys2Proof.Machine.execEthRxFrame m frame fcs corr unc ofs s
  | .linkChg m up => Sys2Proof.Machine.execLinkChg m up s
  | .ethTxtsRead m init => Sys2Proof.Machine.execEthTxtsRead m init s
  | .mgtRxFrame frame fcs => Sys2Proof.Machine.execMgtRxFrame frame fcs s
  | .mgtTxProdWrite value => Sys2Proof.Machine.execMgtTxProdWrite value s
  | .mgtTxFrame => Sys2Proof.Machine.execMgtTxFrame s
  | .mgtLinkChg up speed an fault => Sys2Proof.Machine.execMgtLinkChg up speed an fault s
  | .jsysrefEdge falling ofs => Sys2Proof.Machine.execJsysrefEdge falling ofs s
  | .adopt value => Sys2Proof.Machine.execAdopt value s
  | .jesdBufferStart q => Sys2Proof.Machine.execJesdBufferStart q s
  | .jesdFetchDone q noc => Sys2Proof.Machine.execJesdFetchDone q noc s
  | .jesdRxEmb q data crc jump => Sys2Proof.Machine.execJesdRxEmb q data crc jump s
  | .jlLinkDown q => Sys2Proof.Machine.execJlLinkDown q s
  | .tetherFrameTx => Sys2Proof.Machine.execTetherFrameTx s
  | .tetherFrameRx lane phase frame stuff => Sys2Proof.Machine.execTetherFrameRx lane phase frame stuff s
  | .slip value => Sys2Proof.Machine.execSlip value s
  | .tetherDeskewTimeout => Sys2Proof.Machine.execTetherDeskewTimeout s
  | .tethFifoErr lane => Sys2Proof.Machine.execTethFifoErr lane s
  | .roleElection roleIn fenceIn => Sys2Proof.Machine.execRoleElection roleIn fenceIn s
  | .roleConflict => Sys2Proof.Machine.execRoleConflict s
  | .relayFrameRx => Sys2Proof.Machine.execRelayFrameRx s
  | .heartbeat => Sys2Proof.Machine.execHeartbeat s
  | .timeReq => Sys2Proof.Machine.execTimeReq s
  | .timeResp => Sys2Proof.Machine.execTimeResp s
  | .ack => Sys2Proof.Machine.execAck s
  | .mark => Sys2Proof.Machine.execMark s
  | .admitEntry => Sys2Proof.Machine.execAdmit s
  | .cfg => Sys2Proof.Machine.execCfg s
  | .mem => Sys2Proof.Machine.execMem s
  | .tile => Sys2Proof.Machine.execTile s
  | .obj => Sys2Proof.Machine.execObj s
  | .port => Sys2Proof.Machine.execPort s
  | .handover => Sys2Proof.Machine.execHandover s
  | .joinReq => Sys2Proof.Machine.execJoinReq s
  | .snapEnd => Sys2Proof.Machine.execSnapEnd s
  | .journalMark => Sys2Proof.Machine.execJournalMark s
  | .ackPeriodic => Sys2Proof.Machine.execAckPeriodic s
  | .journalResend => Sys2Proof.Machine.execJournalResend s
  | .journalStall => Sys2Proof.Machine.execJournalStall s
  | .partnerUnsynced => Sys2Proof.Machine.execPartnerUnsynced s
  | .timeExchange => Sys2Proof.Machine.execTimeExchange s
  | .heartbeatSend => Sys2Proof.Machine.execHeartbeatSend s
  | .hbPinPulse ticks => Sys2Proof.Machine.execHbPinPulse ticks s
  | .partnerLost => Sys2Proof.Machine.execPartnerLost s
  | .hbPathLost link => Sys2Proof.Machine.execHbPathLost link s
  | .fenceInSet high => Sys2Proof.Machine.execFenceInSet high s
  | .takeover roleIn => Sys2Proof.Machine.execTakeover roleIn s
  | .takeoverBlocked => Sys2Proof.Machine.execTakeoverBlocked s
  | .join value => Sys2Proof.Machine.execJoin value s
  | .relayCmdHandover value => Sys2Proof.Machine.execRelayCmdHandover value s
  | .unfence value => Sys2Proof.Machine.execUnfence value s
  | .ctrClear value => Sys2Proof.Machine.execCtrClear value s
  | .fenceRelease => Sys2Proof.Machine.execFenceRelease s
  | .relayMpDb port value => Sys2Proof.Machine.execRelayMpDb port value s
  | .relayMirCommit n value => Sys2Proof.Machine.execRelayMirCommit n value s
  | .relayGapRead init => Sys2Proof.Machine.execRelayGapRead init s
  | .fmpFrameRx via peer frame => Sys2Proof.Machine.execFmpFrameRx via peer frame s
  | .hello => Sys2Proof.Machine.execHello s
  | .read => Sys2Proof.Machine.execRead s
  | .write => Sys2Proof.Machine.execWrite s
  | .segOpen => Sys2Proof.Machine.execSegOpen s
  | .segData => Sys2Proof.Machine.execSegData s
  | .segClose => Sys2Proof.Machine.execSegClose s
  | .segAbort => Sys2Proof.Machine.execSegAbort s
  | .segTimeout role => Sys2Proof.Machine.execSegTimeout role s
  | .store => Sys2Proof.Machine.execStore s
  | .storeDone good => Sys2Proof.Machine.execStoreDone good s
  | .restoreDefaults => Sys2Proof.Machine.execRestoreDefaults s
  | .epoch => Sys2Proof.Machine.execEpoch s
  | .arpRequest ip => Sys2Proof.Machine.execArpRequest ip s
  | .icmpEcho ip data => Sys2Proof.Machine.execIcmpEcho ip data s
  | .mgmtSpiWrite frame => Sys2Proof.Machine.execMgmtSpiWrite frame s
  | .mgmtSpiStatus => Sys2Proof.Machine.execMgmtSpiStatus s
  | .mgmtSpiRead => Sys2Proof.Machine.execMgmtSpiRead s
  | .release value => Sys2Proof.Machine.execRelease value s
  | .recommission value => Sys2Proof.Machine.execRecommission value s
  | .leaveSafe value => Sys2Proof.Machine.execLeaveSafe value s
  | .stable value => Sys2Proof.Machine.execStable value s
  | .cancel value => Sys2Proof.Machine.execCancel value s
  | .wakeNow value => Sys2Proof.Machine.execWakeNow value s
  | .reset value => Sys2Proof.Machine.execReset value s
  | .replan value => Sys2Proof.Machine.execReplan value s
  | .pdOffReq d value => Sys2Proof.Machine.execPdOffReq d value s
  | .stableEntry => Sys2Proof.Machine.execStableEntry s
  | .stableAsleep => Sys2Proof.Machine.execStableAsleep s
  | .stableWakeEvent cause => Sys2Proof.Machine.execStableWakeEvent cause s
  | .wakeUngate => Sys2Proof.Machine.execWakeUngate s
  | .stableExit => Sys2Proof.Machine.execStableExit s
  | .avsLoop codes bad => Sys2Proof.Machine.execAvsLoop codes bad s
  | .canaryTrip canary => Sys2Proof.Machine.execCanaryTrip canary s
  | .pmbusAlert bad => Sys2Proof.Machine.execPmbusAlert bad s
  | .avsRailEnable k value linear => Sys2Proof.Machine.execAvsRailEnable k value linear s
  | .ageMeasure counts => Sys2Proof.Machine.execAgeMeasure counts s
  | .agePeriodReplan => Sys2Proof.Machine.execAgePeriodReplan s
  | .addSlot fail => Sys2Proof.Machine.execAddSlot fail s
  | .revoke fail => Sys2Proof.Machine.execRevoke fail s
  | .own fail => Sys2Proof.Machine.execOwn fail s
  | .deploy fail => Sys2Proof.Machine.execDeploy fail s
  | .return fail => Sys2Proof.Machine.execReturn fail s
  | .scrap fail => Sys2Proof.Machine.execScrap fail s
  | .arbSet fail => Sys2Proof.Machine.execArbSet fail s
  | .debugGrant fail => Sys2Proof.Machine.execDebugGrant fail s
  | .attKeygen fail => Sys2Proof.Machine.execAttKeygen fail s
  | .keygenDone fail => Sys2Proof.Machine.execKeygenDone fail s
  | .bridleSet fail => Sys2Proof.Machine.execBridleSet fail s
  | .fwStage => Sys2Proof.Machine.execFwStage s
  | .keyLoad value => Sys2Proof.Machine.execKeyLoad value s
  | .keyUnwrap value => Sys2Proof.Machine.execKeyUnwrap value s
  | .keyClear value => Sys2Proof.Machine.execKeyClear value s
  | .attestChallenge challenge => Sys2Proof.Machine.execAttestChallenge challenge s
  | .attestSignDone fail => Sys2Proof.Machine.execAttestSignDone fail s
  | .attTokenGain => Sys2Proof.Machine.execAttTokenGain s
  | .trngFail => Sys2Proof.Machine.execTrngFail s
  | .secRngRead init => Sys2Proof.Machine.execSecRngRead init s
  | .bistLogic value => Sys2Proof.Machine.execBistLogic value s
  | .bistMemory value => Sys2Proof.Machine.execBistMemory value s
  | .bistDone logic memory => Sys2Proof.Machine.execBistDone logic memory s
  | .erase => Sys2Proof.Machine.execErase s
  | .eraseDone fail => Sys2Proof.Machine.execEraseDone fail s
  | .windowReport link ago active => Sys2Proof.Machine.execWindowReport link ago active s
  | .tlUncCheck => Sys2Proof.Machine.execTlUncCheck s
  | .lockstepMismatch pair => Sys2Proof.Machine.execLockstepMismatch pair s
  | .clockCheck counts => Sys2Proof.Machine.execClockCheck counts s
  | .railTrip rail uv => Sys2Proof.Machine.execRailTrip rail uv s
  | .tempRead temps => Sys2Proof.Machine.execTempRead temps s
  | .dualTx roleIn => Sys2Proof.Machine.execDualTx roleIn s
  | .selfDisagree => Sys2Proof.Machine.execSelfDisagree s
  | .rcoEdgeLoss => Sys2Proof.Machine.execRcoEdgeLoss s
  | .safeEntry => Sys2Proof.Machine.execSafeEntry s
  | .gateOpen => Sys2Proof.Machine.execGateOpen s
  | .outLatchClear value => Sys2Proof.Machine.execOutLatchClear value s
  | .bistSlot => Sys2Proof.Machine.execBistSlot s
  | .bistCoreTestEnd fail => Sys2Proof.Machine.execBistCoreTestEnd fail s
  | .bistSkip => Sys2Proof.Machine.execBistSkip s
  | .bistMemoryTestEnd fail => Sys2Proof.Machine.execBistMemoryTestEnd fail s
  | .wdtKick x init value => Sys2Proof.Machine.execWdtKick x init value s
  | .wdtWarning x => Sys2Proof.Machine.execWdtWarning x s
  | .wdtExpire x => Sys2Proof.Machine.execWdtExpire x s
  | .sysUnlock init value => Sys2Proof.Machine.execSysUnlock init value s
  | .sysSwi value => Sys2Proof.Machine.execSysSwi value s
  | .periGateWrite init value => Sys2Proof.Machine.execPeriGateWrite init value s
  | .pinCfgWrite n value => Sys2Proof.Machine.execPinCfgWrite n value s
  | .pinSwitchMake n => Sys2Proof.Machine.execPinSwitchMake n s
  | .gpioDoutWrite hi value => Sys2Proof.Machine.execGpioDoutWrite hi value s
  | .gpioEdge n level => Sys2Proof.Machine.execGpioEdge n level s
  | .uartTxPush u value => Sys2Proof.Machine.execUartTxPush u value s
  | .uartRxPop u init => Sys2Proof.Machine.execUartRxPop u init s
  | .uartRxByte u byte perr ferr => Sys2Proof.Machine.execUartRxByte u byte perr ferr s
  | .uartTxByte u => Sys2Proof.Machine.execUartTxByte u s
  | .spi1Cmd value => Sys2Proof.Machine.execSpi1Cmd value s
  | .spi1Done miso => Sys2Proof.Machine.execSpi1Done miso s
  | .spi1DataAccess init wr value => Sys2Proof.Machine.execSpi1DataAccess init wr value s
  | .i2cCmd port value => Sys2Proof.Machine.execI2cCmd port value s
  | .i2cDone port result data => Sys2Proof.Machine.execI2cDone port result data s
  | .flashErase init value => Sys2Proof.Machine.execFlashErase init value s
  | .flashProgram init value => Sys2Proof.Machine.execFlashProgram init value s
  | .flashDone bad => Sys2Proof.Machine.execFlashDone bad s
  | .idcode => Sys2Proof.Machine.execIdcode s
  | .samplePreload preload => Sys2Proof.Machine.execSamplePreload preload s
  | .extest => Sys2Proof.Machine.execExtest s
  | .dtmcs value => Sys2Proof.Machine.execDtmcs value s
  | .dmi op addr data => Sys2Proof.Machine.execDmi op addr data s
  | .bypass => Sys2Proof.Machine.execBypass s
  | .tapReset => Sys2Proof.Machine.execTapReset s
  | .unlockRequest value => Sys2Proof.Machine.execUnlockRequest value s
  | .dbgSysRead addr => Sys2Proof.Machine.execDbgSysRead addr s
  | .dbgSysWrite addr data => Sys2Proof.Machine.execDbgSysWrite addr data s
  | .haltreq pair => Sys2Proof.Machine.execHaltreq pair s
  | .resumereq pair => Sys2Proof.Machine.execResumereq pair s
  | .accessRegister command => Sys2Proof.Machine.execAccessRegister command s
  | .dbgCanHalt init value => Sys2Proof.Machine.execDbgCanHalt init value s
  | .dbgCanResume init value => Sys2Proof.Machine.execDbgCanResume init value s
  | .dbgPacSnap init value => Sys2Proof.Machine.execDbgPacSnap init value s
  | .pacSnapshot => Sys2Proof.Machine.execPacSnapshot s
  | .mboxH2dPush init value => Sys2Proof.Machine.execMboxH2dPush init value s
  | .mboxH2dPop init => Sys2Proof.Machine.execMboxH2dPop init s
  | .mboxD2hPush init value => Sys2Proof.Machine.execMboxD2hPush init value s
  | .mboxD2hPop init value => Sys2Proof.Machine.execMboxD2hPop init value s
  | .illegal core => Sys2Proof.Machine.execIllegal core s
  | .cellFlipFlopEdge cell late => Sys2Proof.Machine.execCellFlipFlopEdge cell late s
  | .bmPortAccess m a b => Sys2Proof.Machine.execBmPortAccess m a b s
  | .sliceClockEdge n south => Sys2Proof.Machine.execSliceClockEdge n south s
  | .fsynUnlock n => Sys2Proof.Machine.execFsynUnlock n s
  | .pllUnlock group => Sys2Proof.Machine.execPllUnlock group s
  | .embLock q => Sys2Proof.Machine.execEmbLock q s
  | .prbsError lane => Sys2Proof.Machine.execPrbsError lane s
  | .autoJoin => Sys2Proof.Machine.execAutoJoin s
  | .trngOk => Sys2Proof.Machine.execTrngOk s
  | .bucketRecord => Sys2Proof.Machine.execBucketRecord s
  | .missingEdgeTrip clk => Sys2Proof.Machine.execMissingEdgeTrip clk s
  | .backupDomainPowered => Sys2Proof.Machine.execBackupDomainPowered s
  | .xtRestart => Sys2Proof.Machine.execXtRestart s
  | .porNLow => Sys2Proof.Machine.execPorNLow s

end Sys2Proof.Machine
end

