-- ==== Sys2Proof/Machine/Idle.lean ====
section
/-! DEFINITION. What passes when no command waits: one CKT cycle of the Timeline (log entry 8). -/

namespace Sys2Proof.Machine

/-- One CKT cycle, 4 Tc (R27), on the Timeline while CKT runs; nothing while it does not (log entry 8). -/
def idle (s : State) : State :=
  if s.tim.ckt then { s with tim := { s.tim with tl := tlAdd s.tim.tl cktUnit, cks := s.tim.cks + 1 } } else s

end Sys2Proof.Machine
end

