-- ==== Sys2Proof/Safety.lean ====
section
/-! DEFINITION. What a safe run of the block is, in the terms its statements use. -/

namespace Sys2Proof.Machine

/-- The stored tables are canonical: registers and memory list each key once, by rising key, and nothing that an unlisted
key already reads. -/
def State.Canonical (s : State) : Prop := swf regReset s.regs = true ∧ Memory.wf s.mem

/-- A step that goes on. -/
def State.goesOn (s : State) : Prop := ∃ t, step s = .next t

/-- A command answers a next state, of which P holds. -/
def Completes (c : Instr) (s : State) (P : State → Prop) : Prop := ∃ t, exec c s = .next t ∧ P t

/-- Every byte of memory reads as before. -/
def SameMem (s t : State) : Prop := ∀ a, t.byte a = s.byte a

/-- Every register but those of a set reads as before. -/
def SameRegs (s t : State) (w : Nat → Prop) : Prop := ∀ a, ¬w a → t.reg a = s.reg a

/-- Event n of block b stands. -/
def Raised (t : State) (b n : Nat) : Prop := t.flag (evtStatus b) n = true

/-- An unreleased operation's fields lie in the widths its descriptor gives them (Table PAC-2). -/
def Op.ok (o : Op) : Bool :=
  decide (o.slot < 2 ^ 20) && decide (o.group < 16) && decide (o.cls < 4) && decide (o.list < 8) && decide (o.flow < 1024)
    && decide (o.graph < 256) && (validToks o.ins ++ validToks o.outs).all (fun i => decide (i < 16384))

/-- The Pacer's operations are well formed, and each has an acceptance number of its own, below the next one. -/
def Pacer.ok (p : Pacer) : Bool :=
  p.ops.all (fun o => o.ok && decide (o.id < p.nextId)) && decide ((p.ops.map (·.id)).Nodup)

/-- The registers an event changes: the status and its counter. -/
def evtOf (b n a : Nat) : Prop := a = evtStatus b ∨ a = evtCount b n

end Sys2Proof.Machine
end

