-- ==== Sys2Proof/Certificates/Slice0/Obligations.lean ====
section
/-! DEFINITION. The statements about the model, from the numbered rules of the spec. -/

open Sys2Proof Sys2Proof.Machine

/-- A step takes the command at the front of the queue (00_scope.md). -/
def Obligations.StepRunsFront : Prop :=
  ∀ (c : Instr) (rest : List Instr) (s : State), s.pending = c :: rest → step s = exec c { s with pending := rest }

/-- An idle block passes one CKT cycle: the Timeline advances by 4 Tc (R27, 01_timeline.md). -/
def Obligations.IdleCycle : Prop :=
  (∀ s : State, s.pending = [] → s.tim.ckt = true → s.tim.tl < tlWrap →
    ∃ t, step s = .next t ∧ t.tim.tl = (s.tim.tl + 4 * 65536) % tlWrap ∧ t.regs = s.regs ∧ t.mem = s.mem ∧ t.pending = []) ∧
  (∀ s : State, s.pending = [] → s.tim.ckt = false → step s = .next s)

/-- The machine right after reset (01_timeline.md, 03_pacer.md, 16_modes_power.md). -/
def Obligations.ResetState : Prop :=
  State.reset.pending = [] ∧ State.reset.mem = [] ∧ State.reset.Canonical ∧ State.reset.regN Reg.PWR_MODE = 0x11 ∧
  State.reset.tlState = tlFree ∧ State.reset.regN Reg.TL_LOCK_CFG = 0x3C100820 ∧ State.reset.regN Reg.TL_LOOP_CFG = 0x42 ∧
  ∀ b n : Nat, b < 15 → n < 32 → State.reset.regN (evtStatus b) = 0 ∧ State.reset.regN (evtCount b n) = 0

/-- Every command has an effect: no command faults and none is refused (00_scope.md, 10_noc_scratchpad.md). -/
def Obligations.EveryCommandGoesOn : Prop :=
  ∀ (c : Instr) (s : State), ∃ t, exec c s = .next t

/-- Every step keeps the register table and the memory canonical (00_scope.md). -/
def Obligations.StepKeepsCanonical : Prop :=
  ∀ s t : State, s.Canonical → step s = .next t → t.Canonical

/-- No command touches the queue: the waiting commands are served first in, first out (00_scope.md). -/
def Obligations.StepKeepsQueueOrder : Prop :=
  ∀ (c : Instr) (rest : List Instr) (s t : State), s.pending = c :: rest → step s = .next t → t.pending = rest

/-- A write of a plain register stores its writable bits and nothing else (R12, R15, 00_scope.md). -/
def Obligations.PlainRegisterWrite : Prop :=
  ∀ (s : State) (init : Fin 512) (a : BitVec 48) (w : BitVec 32) (row : RegRow), inCtrl a.toNat = true → initUsed init = true →
    secSees s init a.toNat false = true → ioDown s a.toNat = false → ctrlAt a.toNat 4 = .word row 0 → row.words = 1 → row.acc = .rw →
    row.mask < 2 ^ 32 → regAct s init a.toNat (Nat.land w.toNat row.mask) w.toNat = none → a.toNat ≠ Reg.SEC_CMD_CTL →
    Completes (.registerWrite init a (leBytes 4 w.toNat)) s (fun t => t.ans = ⟨init, 0, []⟩ ∧ (∀ n, n < 32 →
    t.flag a.toNat n = if row.mask.testBit n then w.getLsbD n else s.flag a.toNat n) ∧ SameRegs s t (· = a.toNat) ∧ SameMem s t)

/-- Writes that have no effect: read-only registers, RWM registers outside their modes, addresses that are mapped to nothing (R10, R15, R16). -/
def Obligations.RefusedRegisterWrites : Prop :=
  (∀ (s : State) (init : Fin 512) (a : BitVec 48) (w : BitVec 32) (row : RegRow), inCtrl a.toNat = true → initUsed init = true →
    secSees s init a.toNat false = true → ioDown s a.toNat = false → ctrlAt a.toNat 4 = .word row 0 → row.words = 1 → row.acc = .ro →
    a.toNat ≠ Reg.SEC_CMD_CTL → Completes (.registerWrite init a (leBytes 4 w.toNat)) s (fun t => t = s.answer init 0 [])) ∧
  (∀ (s : State) (init : Fin 512) (a : BitVec 48) (w : BitVec 32) (row : RegRow), inCtrl a.toNat = true → initUsed init = true →
    secSees s init a.toNat false = true → ioDown s a.toNat = false → ctrlAt a.toNat 4 = .word row 0 → row.words = 1 → row.acc = .rwm →
    modeIn s row.modes = false → a.toNat ≠ Reg.SEC_CMD_CTL → Completes (.registerWrite init a (leBytes 4 w.toNat)) s (fun t => t.ans = ⟨init, 0, []⟩ ∧
    Raised t (blockOf a.toNat) 31 ∧ SameRegs s t (evtOf (blockOf a.toNat) 31) ∧ SameMem s t)) ∧
  (∀ (s : State) (init : Fin 512) (a : BitVec 48) (data : List Byte), inCtrl a.toNat = true → initUsed init = true → init ≠ 436 → init ≠ 437 →
    secSees s init a.toNat false = true → ioDown s a.toNat = false → ctrlAt a.toNat data.length = .none →
    Completes (.registerWrite init a data) s (fun t => t.ans = ⟨init, 1, []⟩ ∧ Raised t blkNoc 0 ∧
    t.regN Reg.NOC_DECODE_CNT = satNat 32 (s.regN Reg.NOC_DECODE_CNT + 1) ∧ SameMem s t))

/-- Registers wider than 32 bits: the latch of a read of word 0, and a write of the highest word (R12, 00_scope.md). -/
def Obligations.WideRegisters : Prop :=
  (∀ (s : State) (init : Fin 512) (a : BitVec 48) (row : RegRow), wideAt a.toNat = some (row, 0) → ctrlAt a.toNat 4 = .word row 0 → 1 < row.words →
    inCtrl a.toNat = true → initUsed init = true → secSees s init a.toNat true = true → ioDown s a.toNat = false →
    Completes (.wideRegisterWord0Read init a) s (fun t => t.ans = ⟨init, 0, [(regRead s init a.toNat row).2 % 2 ^ 32]⟩ ∧
    latchOf t init a.toNat = some ((List.range row.words).map fun k => BitVec.ofNat 32 (regRead s init (a.toNat + 4 * k) row).2) ∧
    (∀ i b, (i, b) ≠ (init.val, a.toNat) → latchOf t i b = latchOf s i b) ∧ t.regs = s.regs ∧ t.mem = s.mem)) ∧
  (∀ (s : State) (init : Fin 512) (a : BitVec 48) (v : BitVec 32) (row : RegRow) (w : Nat), wideAt a.toNat = some (row, w) → w + 1 = row.words →
    row.acc = .ro → inCtrl a.toNat = true → initUsed init = true → secSees s init a.toNat false = true → ioDown s a.toNat = false →
    Completes (.wideRegisterHighWrite init a v) s (fun t => t = s.answer init 0 []))

/-- Event status bits and counters: a simultaneous set wins over a clear (R19). -/
def Obligations.EventsW1cAndCounters : Prop :=
  (∀ (s : State) (init : Fin 512) (b : Fin 15) (v same : BitVec 32), Completes (.evtStatusClear init b v same) s (fun t => ∀ n, n < 32 →
    same.getLsbD n = true → t.flag (evtStatus b) n = true ∧ t.fld (evtCount b n) 15 0 = satNat 16 (s.fld (evtCount b n) 15 0 + 1))) ∧
  (∀ (s : State) (init : Fin 512) (b : Fin 15) (v same : BitVec 32), b.val ≠ 13 → secSees s init (evtStatus b) false = true →
    Completes (.evtStatusClear init b v same) s (fun t => ∀ n, n < 32 →
    t.flag (evtStatus b) n = (same.getLsbD n || (s.flag (evtStatus b) n && !v.getLsbD n)))) ∧
  (∀ (s : State) (init : Fin 512) (v same : BitVec 32) (u : Fin 2), (uartOf s u).rx ≠ [] → Completes (.evtStatusClear init 13 v same) s (fun t =>
    t.flag (evtStatus 13) (3 * u.val) = true)) ∧
  (∀ (s : State) (init : Fin 512) (b : Fin 15) (v same : BitVec 32), secSees s init (evtCountClr b) false = true →
    Completes (.evtCountClr init b v same) s (fun t => ∀ n, n < 32 →
    t.fld (evtCount b n) 15 0 = if same.getLsbD n then (if v.getLsbD n then 1 else satNat 16 (s.fld (evtCount b n) 15 0 + 1)) else (if v.getLsbD n then 0 else s.fld (evtCount b n) 15 0)))

/-- An event sets its bit and counts whether or not it is enabled; EVT_ENABLE gates only the interrupt (R18). -/
def Obligations.InterruptGate : Prop :=
  (∀ (s : State) (b n : Nat), n < 32 → Raised (s.raise b n) b n ∧ (s.raise b n).fld (evtCount b n) 15 0 = satNat 16 (s.fld (evtCount b n) 15 0 + 1) ∧
    SameRegs s (s.raise b n) (evtOf b n) ∧ SameMem s (s.raise b n)) ∧
  (∀ (s : State) (b : Nat), irqOf s b = true ↔ ∃ n, n < 32 ∧ s.flag (evtStatus b) n = true ∧ s.flag (evtEnable b) n = true) ∧
  (∀ (s : State) (b n : Nat) (e : Word), n < 32 → ((s.setReg (evtEnable b) e).raise b n).reg (evtStatus b) = (s.raise b n).reg (evtStatus b))

/-- Oscillators: the switch with phase build-out, the VCO, and the return (R29, R30, 01_timeline.md). -/
def Obligations.OscillatorSwitch : Prop :=
  (∀ (s : State) (b : Bool), s.tim.ckt = true → oscActive s = bit b → oscGood s (1 - bit b) = true → Completes (.oscLost b) s (fun t =>
    oscGood t (bit b) = false ∧ oscActive t = 1 - bit b ∧ Raised t blkTim 7 ∧ t.flag Reg.TL_OSC_STAT 3 = false ∧ t.tlState = s.tlState ∧
    t.regN Reg.TL_LAST_CORR = s.regN Reg.TL_LAST_CORR ∧ (∃ d : Int, d.natAbs ≤ 65536 ∧ t.tim.tl = tlAdd s.tim.tl d) ∧ SameMem s t)) ∧
  (∀ (s : State), s.tim.ckt = true → s.tlState ≠ tlFree → Completes (.bothOscLost) s (fun t => oscGood t 0 = false ∧ oscGood t 1 = false ∧
    t.flag Reg.TL_OSC_STAT 3 = true ∧ Raised t blkTim 8 ∧ t.tlState = tlExpired ∧ t.regN Reg.HO_UNC = 0xFFFFFFFF)) ∧
  (∀ (s : State), s.tim.ckt = true → s.tlState = tlFree → Completes (.bothOscLost) s (fun t => t.flag Reg.TL_OSC_STAT 3 = true ∧ Raised t blkTim 8 ∧
    t.tlState = tlFree ∧ t = { s with regs := t.regs, tim := t.tim })) ∧
  (∀ (s : State), oscNominal s 1 ≠ 0 → s.flag Reg.TL_OSC_STAT 3 = true → Completes (.oscGoodAgain false true) s (fun t => oscGood t 1 = true ∧
    oscActive t = 1 ∧ Raised t blkTim 7 ∧ t.flag Reg.TL_OSC_STAT 3 = false ∧ t.tlState = s.tlState ∧
    t.regN Reg.TL_LAST_CORR = s.regN Reg.TL_LAST_CORR ∧ (∃ d : Int, d.natAbs ≤ 65536 ∧ t.tim.tl = tlAdd s.tim.tl d) ∧ SameMem s t)) ∧
  (∀ (s : State), oscNominal s 0 ≠ 0 → oscNominal s 1 ≠ 0 → s.flag Reg.TL_OSC_STAT 3 = true → Completes (.oscGoodAgain true true) s (fun t =>
    oscActive t = s.fld Reg.TL_OSC_CFG 0 0 ∧ Raised t blkTim 7 ∧ t.flag Reg.TL_OSC_STAT 3 = false ∧ t.tlState = s.tlState ∧
    t.regN Reg.TL_LAST_CORR = s.regN Reg.TL_LAST_CORR ∧ (∃ d : Int, d.natAbs ≤ 65536 ∧ t.tim.tl = tlAdd s.tim.tl d) ∧ SameMem s t)) ∧
  (∀ (s : State), s.flag Reg.TL_OSC_CFG 1 = true → s.tim.ckt = true → s.flag Reg.TL_OSC_STAT 3 = false → oscActive s ≠ s.fld Reg.TL_OSC_CFG 0 0 →
    oscGood s (s.fld Reg.TL_OSC_CFG 0 0) = true → Completes (.oscRevert) s (fun t => oscActive t = s.fld Reg.TL_OSC_CFG 0 0 ∧ Raised t blkTim 7 ∧
    t.flag Reg.TL_OSC_STAT 3 = false ∧ t.tlState = s.tlState ∧ t.regN Reg.TL_LAST_CORR = s.regN Reg.TL_LAST_CORR ∧ (∃ d : Int, d.natAbs ≤ 65536 ∧
    t.tim.tl = tlAdd s.tim.tl d) ∧ SameMem s t))

/-- References: qualification, rejection and loss (R33, R35, R36, R37, R39, 01_timeline.md). -/
def Obligations.References : Prop :=
  (∀ (s : State) (r : Fin 2) (rising : Bool) (ofs : BitVec 18), s.tim.ckt = true → refEn s r = true → s.flag (Reg.TL_REF_CFG r) 1 ≠ rising →
    s.tlState = tlLocked → refWindow s < (compensated s r (stampAt s ofs.toNat) - nearSec (compensated s r (stampAt s ofs.toNat)) * secUnit).natAbs →
    Completes (.gnssPpsEdge r rising ofs) s (fun t => Raised t blkTim 5 ∧
    t.fld (Reg.TL_REF_STAT r) 31 16 = satNat 16 (s.fld (Reg.TL_REF_STAT r) 31 16 + 1) ∧ t.tim.tl = s.tim.tl ∧ SameMem s t)) ∧
  (∀ (s : State) (r : Fin 2), refEn s r = true → refQual s r = true → losCnt s r ≤ (gnssOf s r).missing + 1 →
    Completes (.gnssPulseMissing r) s (fun t => refQual t r = false ∧ Raised t blkTim 3 ∧ (gnssOf t r).run = 0 ∧ t.tim.tl = s.tim.tl ∧ SameMem s t)) ∧
  (∀ (s : State) (l : List Byte), s.flag Reg.TL_TOD_CFG 5 = true → s.flag Reg.TL_TOD_CFG 4 = false → crc16 (l.take 14) ≠ fieldBe l 14 2 →
    Completes (.todMessage (.binary l)) s (fun t => t = s.raise blkTim 6)) ∧
  (∀ (s : State) (utc : Nat), s.flag Reg.TL_TOD_CFG 5 = true → s.flag Reg.TL_TOD_CFG 4 = true → (∀ r, r < 2 →
    labelFits (gnssOf s r) ((utc : Int) + s.utcOfs).toNat 0 = true) → Completes (.todMessage (.zda utc true)) s (fun t =>
    t.regN Reg.TL_TOD_S_LO = ((utc : Int) + s.utcOfs).toNat % 2 ^ 32 ∧
    t.fld Reg.TL_TOD_S_HI 15 0 = ((utc : Int) + s.utcOfs).toNat / 2 ^ 32 % 2 ^ 16)) ∧
  (∀ (s : State), refEn s 2 = true → refQual s 2 = true → Completes (.tlPtpMeas 0x80000000#32) s (fun t => refQual t 2 = false ∧ Raised t blkTim 3 ∧
    t.tim.ptpFresh = false ∧ t.tim.tl = s.tim.tl ∧ SameMem s t)) ∧
  (∀ (s : State) (v : BitVec 32), refEn s 2 = true → v ≠ 0x80000000#32 → s.tim.ptpFresh = true → s.tlState = tlLocked →
    s.regN Reg.TL_PTP_S_LO + s.fld Reg.TL_PTP_S_HI 15 0 * 2 ^ 32 ≠ tlS s.tim.tl → Completes (.tlPtpMeas v) s (fun t => Raised t blkTim 4 ∧
    t.fld (Reg.TL_REF_STAT 2) 31 16 = satNat 16 (s.fld (Reg.TL_REF_STAT 2) 31 16 + 1) ∧ t.tlState = tlLocked ∧ t.tim.tl = s.tim.tl ∧
    refQual t 2 = refQual s 2)) ∧
  (∀ (s : State) (v : BitVec 32), Completes (.tlPtpSHi v) s (fun t => t.tim.ptpFresh = true ∧ t.regN Reg.TL_PTP_S_HI = v.toNat % 2 ^ 16 ∧
    SameRegs s t (· = Reg.TL_PTP_S_HI) ∧ t = { s with regs := t.regs, tim := t.tim })) ∧
  (∀ (s : State), refEn s 2 = true → refQual s 2 = true → Completes (.ptpTimeout) s (fun t => refQual t 2 = false ∧ Raised t blkTim 3 ∧
    t.tim.tl = s.tim.tl)) ∧
  (∀ (s : State), refQual s 3 = true → Completes (.synceLoss) s (fun t => refQual t 3 = false ∧ Raised t blkTim 3 ∧ t.tlState = s.tlState ∧
    SameRegs s t (fun a => a = Reg.TL_REF_STAT 3 ∨ evtOf blkTim 3 a) ∧ t = { s with regs := t.regs }))

/-- The loss of SyncE never changes the Timeline state (R37, 01_timeline.md). -/
def Obligations.SyncELossKeepsState : Prop :=
  (∀ s : State, Completes .synceLoss s (fun t => t.reg Reg.TL_STATE = s.reg Reg.TL_STATE ∧ t.tim = s.tim)) ∧
  (∀ (s : State) (e : Int) (sure : Bool), s.refAct ≠ some 3 → (refSample s 3 e sure).tlState = tlLocked → s.tlState = tlLocked)

/-- Steps: automatic in ACQUIRING, forced only while transmit is muted, each a correction event (R41, R43, R44, R45, 01_timeline.md). -/
def Obligations.Steps : Prop :=
  (∀ (s : State) (r : Nat) (e : Int), s.refAct = some r → s.tim.err = some e → s.tlState = tlAcquiring → stepThr s r < e.natAbs →
    Completes (.autoStep) s (fun t => t.tim.tl = tlAdd ((s.tim.tl / tickUnit + 1) * tickUnit) (-e) ∧ t.tim.err = none)) ∧
  (∀ (s : State), s.muted = true → s.tim.pend = none → Completes (.forceStep) s (fun t => t.tim.pend = some ⟨stepOffset s⟩ ∧
    t.flag Reg.TL_STATE 8 = true ∧ t.tim.tl = s.tim.tl ∧ SameRegs s t (· = Reg.TL_STATE) ∧ t = { s with regs := t.regs, tim := t.tim })) ∧
  (∀ (s : State), s.muted = false ∨ s.tim.pend ≠ none → Completes (.forceStep) s (fun t => t = s.raise blkTim 9)) ∧
  (∀ (s : State) (p : PendStep), s.tim.pend = some p → s.tlState = tlFree → Completes (.stepApply) s (fun t =>
    t.tim.tl = tlAdd ((s.tim.tl / tickUnit + 1) * tickUnit) p.offset ∧ t.tim.pend = none ∧ t.tlState = tlFree)) ∧
  (∀ (s : State), s.muted = true → s.tlState = tlLocked → s.refAct = some 0 → activeRef s = some 0 → refQual s 2 = false →
    Completes (.forceAcquire) s (fun t => t.tlState = tlAcquiring ∧ t.tim.tl = s.tim.tl ∧ Raised t blkTim 0)) ∧
  (∀ (s : State), s.muted = false → Completes (.forceAcquire) s (fun t => t = s.raise blkTim 9)) ∧
  (∀ (s : State) (r : Nat), s.refAct = some r → s.tlState = tlHoldover → (signed 32 (s.regN (Reg.TL_REF_OFS r)) * 256).natAbs ≤ refWindow s →
    Completes (.holdoverRequalify) s (fun t => t.tlState = tlLocked ∧ t.tim.tl = s.tim.tl ∧ Raised t blkTim 0)) ∧
  (∀ (s : State), Completes (.requalify) s (fun t => (∀ r, r < 5 → t.flag (Reg.TL_REF_STAT r) 2 = false ∧
    t.flag (Reg.TL_REF_STAT r) 0 = s.flag (Reg.TL_REF_STAT r) 0) ∧ t = { s with regs := t.regs } ∧ SameRegs s t (fun a => ∃ r, r < 5 ∧
    a = Reg.TL_REF_STAT r))) ∧
  (∀ (s : State), Completes (.capture) s (fun t =>
    t.regN Reg.TL_SNAP_LO + t.regN Reg.TL_SNAP_MID * 2 ^ 32 + t.regN Reg.TL_SNAP_HI * 2 ^ 64 = tlFormat s.tim.tl % 2 ^ 96 ∧
    t.regN Reg.TL_SNAP_FPOS = framePos s.tim.tl (s.fld Reg.TL_NUMER 2 0) % 2 ^ 32 ∧
    SameRegs s t (fun a => a = Reg.TL_SNAP_LO ∨ a = Reg.TL_SNAP_MID ∨ a = Reg.TL_SNAP_HI ∨ a = Reg.TL_SNAP_FPOS) ∧ t = { s with regs := t.regs }))

/-- A second step request before the first is applied is refused (R43, R44, 01_timeline.md). -/
def Obligations.SecondStepRefused : Prop :=
  (∀ (s : State) (p : PendStep), s.tim.pend = some p →
    Completes .forceStep s (fun t => t.tim = s.tim ∧ Raised t blkTim 9 ∧ SameRegs s t (evtOf blkTim 9) ∧ SameMem s t)) ∧
  (∀ (s : State) (p : PendStep) (init : Fin 512) (a : BitVec 48) (v : BitVec 32), s.tim.pend = some p →
    (a.toNat = Reg.TL_STEP_LO ∨ a.toNat = Reg.TL_STEP_HI ∨ a.toNat = Reg.TL_STEP_FRAC) →
    Completes (.registerWrite init a (leBytes 4 v.toNat)) s (fun t => t.tim.pend = some p)) ∧
  (∀ (s : State) (p : PendStep), s.tim.pend = some p → s.tlState ≠ tlFree → activeRef s ≠ none →
    Completes .stepApply s (fun t => t.tim.tl = tlAdd ((s.tim.tl / tickUnit + 1) * tickUnit) p.offset ∧ t.tlState = tlAcquiring))

/-- The frame position is a function of the Timeline alone and undefined before the GPS epoch (R25). -/
def Obligations.TimelineFormatAndFrames : Prop :=
  (∀ tl mu : Nat, tlS tl < 315964819 → framePos tl mu = 0) ∧
  (∀ tl mu : Nat, 315964819 ≤ tlS tl → mu ≤ 4 →
    bitsOf (framePos tl mu) 9 0 = ((tlS tl - 315964819) * 100 + tlT tl / 19660800) % 1024 ∧
    bitsOf (framePos tl mu) 13 10 = tlT tl % 19660800 / 1966080 ∧ bitsOf (framePos tl mu) 13 10 ≤ 9 ∧
    bitsOf (framePos tl mu) 21 14 = tlT tl % 19660800 / (1966080 / 2 ^ mu) ∧ bitsOf (framePos tl mu) 21 14 < 10 * 2 ^ mu ∧
    (framePos tl mu).testBit 31 = true)

/-- Timed outputs, timestamp inputs, PPS_OUT and synthesisers (R49, R50, R51, R52, R56, R57, 01_timeline.md). -/
def Obligations.TimedOutputs : Prop :=
  (∀ (s : State) (n : Fin 8) (v : BitVec 32), (s.tout n).queue.length < 4 → (∀ l, (s.tout n).last = some l →
    l ≤ entryTime s (s.regN (Reg.TO_EDGE_S n)) (bitsOf v.toNat 30 0)) → Completes (.toEdgeTWrite n v) s (fun t =>
    (t.tout n).queue = (s.tout n).queue ++ [⟨entryTime s (s.regN (Reg.TO_EDGE_S n)) (bitsOf v.toNat 30 0), v.getLsbD 31⟩] ∧
    (t.tout n).pad = (s.tout n).pad ∧ t.regs = s.regs ∧ t = { s with regs := t.regs, tim := t.tim })) ∧
  (∀ (s : State) (n : Fin 8) (v : BitVec 32), 4 ≤ (s.tout n).queue.length → Completes (.toEdgeTWrite n v) s (fun t => t = s.raise blkTim 12)) ∧
  (∀ (s : State) (cell : Fin 864) (sec : BitVec 32) (tc : BitVec 31) (lv : Bool), (s.tout (8 + cell)).queue = [] → (s.tout (8 + cell)).last = none →
    Completes (.tlioEntryPush cell sec tc lv) s (fun t => (t.tout (8 + cell)).queue = [⟨entryTime s sec.toNat tc.toNat, lv⟩] ∧ t.regs = s.regs ∧
    t = { s with regs := t.regs, tim := t.tim })) ∧
  (∀ (s : State) (n : Fin 8) (v : BitVec 32), v.getLsbD 0 = false → s.flag (Reg.TO_CTL n) 0 = true → Completes (.toCtlWrite n v) s (fun t =>
    (t.tout n).queue = [] ∧ (t.tout n).last = none ∧ (t.tout n).pad = v.getLsbD 2 ∧ t.flag (Reg.TO_CTL n) 0 = false ∧
    SameRegs s t (· = Reg.TO_CTL n) ∧ t = { s with regs := t.regs, tim := t.tim })) ∧
  (∀ (s : State) (n : Fin 8) (v : BitVec 32), v.getLsbD 0 = true → v.getLsbD 1 = true → s.flag (Reg.TO_CTL n) 0 = false → periodicOk s n = false →
    Completes (.toCtlWrite n v) s (fun t => t = s.raise blkTim 11)) ∧
  (∀ (s : State) (n : Fin 872) (e : TimedEntry) (q : List TimedEntry), (s.tout n).queue = e :: q → toEn s n = true → (s.tout n).headOk = false →
    toPeriodic s n = false → e.time * 65536 < s.tim.tl + 128 * 65536 → Completes (.toEntryHead n) s (fun t => (t.tout n).queue = q ∧
    (t.tout n).pad = (s.tout n).pad ∧ Raised t blkTim 10 ∧ SameRegs s t (evtOf blkTim 10) ∧ t = { s with regs := t.regs, tim := t.tim })) ∧
  (∀ (s : State) (n : Fin 872) (e : TimedEntry) (q : List TimedEntry), (s.tout n).queue = e :: q → toEn s n = true → (s.tout n).headOk = false →
    toPeriodic s n = false → s.tim.tl + 128 * 65536 ≤ e.time * 65536 → Completes (.toEntryHead n) s (fun t => (t.tout n).headOk = true ∧
    (t.tout n).queue = (s.tout n).queue ∧ t.regs = s.regs)) ∧
  (∀ (s : State) (n : Fin 872) (e f : TimedEntry) (q : List TimedEntry), (s.tout n).queue = e :: f :: q → f.time ≠ e.time → (s.tout n).headOk = true →
    toEn s n = true → e.time * 65536 ≤ s.tim.tl → Completes (.toEdgeApply n) s (fun t => (t.tout n).queue = f :: q ∧
    (t.tout n).pad = padLevel s n e.level ∧ (t.tout n).headOk = false ∧ t.regs = s.regs)) ∧
  (∀ (s : State) (n : Fin 8) (p : Nat), (s.tout n).nextEdge = some p → toEn s n = true → p * 65536 ≤ s.tim.tl → (s.tout n).up = false →
    Completes (.toPeriodicEdge n) s (fun t => (t.tout n).up = true ∧ (t.tout n).nextEdge = some (p + s.regN (Reg.TO_WIDTH n)) ∧
    (t.tout n).pad = padLevel s n true ∧ t.regs = s.regs)) ∧
  (∀ (s : State) (n : Fin 8) (p : Nat), (s.tout n).nextEdge = some p → toEn s n = true → p * 65536 ≤ s.tim.tl → (s.tout n).up = true →
    Completes (.toPeriodicEdge n) s (fun t => (t.tout n).up = false ∧ (t.tout n).nextEdge = some ((s.tout n).rise + s.regN (Reg.TO_PERIOD n)) ∧
    (t.tout n).pad = padLevel s n false ∧ t.regs = s.regs)) ∧
  (∀ (s : State), Completes (.ppsOutEdge) s (fun t =>
    t.tim.ppsPin = (s.flag Reg.PPS_OUT_CFG 0 && (s.tlState == tlLocked || s.tlState == tlHoldover || s.flag Reg.PPS_OUT_CFG 1) && decide ((tlT s.tim.tl + secTc - s.fld Reg.PPS_OUT_OFS 30 0 % secTc) % secTc < s.fld Reg.PPS_OUT_WIDTH 30 0)) ∧
    t.regs = s.regs ∧ t = { s with regs := t.regs, tim := t.tim })) ∧
  (∀ (s : State) (cell : Fin 864) (w : BitVec 96) (q : List (BitVec 96)), (tsInput s (10 + cell)).fifo = w :: q →
    Completes (.tlioTsPop cell) s (fun t => (tsInput t (10 + cell)).fifo = q ∧ t.ans.words = [w.toNat] ∧ t.regs = s.regs ∧ SameMem s t)) ∧
  (∀ (s : State) (n : Fin 8) (rising : Bool) (ofs : BitVec 18), tsiTakes s n rising = true → (tsInput s n).last = none →
    (tsInput s n).fifo.length < 16 → Completes (.tsiEdgeCapture ⟨n, by omega⟩ rising ofs) s (fun t =>
    (tsInput t n).fifo = (tsInput s n).fifo ++ [BitVec.ofNat 96 (tlFormat (stampAt s ofs.toNat) + bit (!rising) * 2 ^ 47)] ∧ SameMem s t)) ∧
  (∀ (s : State) (n : Fin 8) (rising : Bool) (ofs : BitVec 18), tsiTakes s n rising = true → (tsInput s n).last = none →
    16 ≤ (tsInput s n).fifo.length → Completes (.tsiEdgeCapture ⟨n, by omega⟩ rising ofs) s (fun t => (tsInput t n).fifo = (tsInput s n).fifo ∧
    Raised t blkTim 13 ∧ t.fld (Reg.TSI_DROP n) 15 0 = satNat 16 (s.fld (Reg.TSI_DROP n) 15 0 + 1))) ∧
  (∀ (s : State) (n : Fin 10) (init : Fin 512) (w : BitVec 96) (q : List (BitVec 96)), (tsInput s n).fifo = w :: q → init.val ≠ 474 →
    Completes (.tsiHiRead n init) s (fun t => t.ans = ⟨init, 0, [w.toNat / 2 ^ 64]⟩ ∧ (tsInput t n).fifo = q ∧ SameRegs s t (· = Reg.TSI_STAT n) ∧
    SameMem s t)) ∧
  (∀ (s : State) (n : Fin 10) (init : Fin 512), (tsInput s n).fifo = [] → Completes (.tsiHiRead n init) s (fun t => t = s.answer init 0 [0])) ∧
  (∀ (s : State) (n : Fin 24), (fsynOf s n).armed = true → (fsynOf s n).anchor = s.tim.tl → s.tim.tl < tlWrap → Completes (.fsynStart n) s (fun t =>
    t.flag (Reg.FSYN_CTL n) 1 = true ∧ (fsynOf t n).anchor = s.tim.tl ∧ (fsynOf t n).armed = false ∧ t.regN (Reg.FSYN_ANCHOR_T n) = tlT s.tim.tl ∧
    t.tim.tl = s.tim.tl)) ∧
  (∀ (s : State) (n : Fin 24), (fsynOf s n).armed = true → (fsynOf s n).anchor < s.tim.tl → Completes (.fsynStart n) s (fun t =>
    t.flag (Reg.FSYN_CTL n) 1 = true ∧ (fsynOf t n).anchor = s.tim.tl + 4 * 65536 ∧ t.regN (Reg.FSYN_ANCHOR_T n) = tlT (s.tim.tl + 4 * 65536))) ∧
  (∀ (s : State) (n : Fin 24) (v : BitVec 32), v.getLsbD 0 = true → s.flag (Reg.FSYN_CTL n) 0 = false → fsynRange s n = true →
    Completes (.fsynArm n v) s (fun t => t.flag (Reg.FSYN_CTL n) 0 = true ∧ (fsynOf t n).armed = true ∧ t.tim.tl = s.tim.tl ∧ SameMem s t)) ∧
  (∀ (s : State) (n : Fin 24) (v : BitVec 32), v.getLsbD 0 = true → s.flag (Reg.FSYN_CTL n) 0 = false → fsynRange s n = false →
    Completes (.fsynArm n v) s (fun t => t = s.raise blkTim 14)) ∧
  (∀ (s : State) (n : Fin 24), Completes (.fsynUnlock n) s (fun t => t.flag (Reg.FSYN_CTL n) 2 = false ∧ Raised t blkTim 15 ∧
    SameRegs s t (fun a => a = Reg.FSYN_CTL n ∨ evtOf blkTim 15 a) ∧ t = { s with regs := t.regs }))

/-- The holdover estimator: learning, snapshots, temperature, growth and expiry of the uncertainty (R62, R63, R64, R67, R68, R70, 02_holdover_calendar.md). -/
def Obligations.HoldoverEstimator : Prop :=
  (∀ (s : State), learning s = true → s.ho.secs = 3599 → tempValid s = false → Completes (.hoLearnSecond) s (fun t => t.ho.secs = 0 ∧
    t.ho.upSecs = s.ho.upSecs + 1 ∧ t.fld Reg.HO_STAT 31 16 = satNat 16 (s.fld Reg.HO_STAT 31 16 + 1) ∧
    SameRegs s t (fun a => a = Reg.HO_STAT ∨ evtOf blkTim 18 a) ∧ t = { s with regs := t.regs, ho := t.ho })) ∧
  (∀ (s : State), learning s = true → Completes (.hoRefit) s (fun t => t.tim = s.tim ∧ s.freeCtr < t.freeCtr ∧
    t = { s with regs := t.regs, freeCtr := t.freeCtr } ∧ SameRegs s t (fun a => a = Reg.HO_PREDICT ∨ ∃ k j, k < 2 ∧ j < 16 ∧
    a = Reg.HO_MODEL k j))) ∧
  (∀ (s : State), s.tlState = tlLocked → Completes (.hoSnapshot) s (fun t => Raised t blkTim 19 ∧ t.flag Reg.HO_STAT 1 = true ∧
    t.regN (snapWord 0) = 0x00014853 ∧ t.regN (snapWord 2) = tlS s.tim.tl % 2 ^ 32 ∧
    t.regN (snapWord 63) = crc32 (snapBytes (t.setRegN (snapWord 63) 0)) % 2 ^ 32 ∧ t.tim = s.tim ∧ SameMem s t)) ∧
  (∀ (s : State), s.tlState = tlLocked → Completes (.snap) s (fun t => Raised t blkTim 19 ∧ t.flag Reg.HO_STAT 1 = true ∧
    t.regN (snapWord 0) = 0x00014853 ∧ t.regN (snapWord 1) = s.fld Reg.HO_STAT 31 16 ∧ t.tim = s.tim ∧ SameMem s t)) ∧
  (∀ (s : State), s.tlState ≠ tlHoldover → Completes (.forget) s (fun t => (∀ k, k < 2 → ∀ j, j < 16 → t.regN (Reg.HO_MODEL k j) = 0) ∧
    t.flag Reg.HO_STAT 0 = false ∧ t.fld Reg.HO_STAT 31 16 = 0 ∧ t.ho.secs = 0 ∧ t.tim = s.tim ∧ SameMem s t)) ∧
  (∀ (s : State) (x : BitVec 16), s.flag Reg.HO_TSENS_CFG 16 = true → Completes (.tsensRead (some x)) s (fun t =>
    t.regN Reg.HO_TEMP = x.toNat + 2 ^ 16 ∧ t.ho.fails = 0 ∧ SameRegs s t (· = Reg.HO_TEMP) ∧ t = { s with regs := t.regs, ho := t.ho })) ∧
  (∀ (s : State), s.flag Reg.HO_TSENS_CFG 16 = true → s.ho.fails = 2 → Completes (.tsensRead none) s (fun t => t.flag Reg.HO_TEMP 16 = false ∧
    Raised t blkTim 21 ∧ SameRegs s t (fun a => a = Reg.HO_TEMP ∨ evtOf blkTim 21 a) ∧ t = { s with regs := t.regs, ho := t.ho })) ∧
  (∀ (s : State) (apart worse : Bool), s.tlState = tlHoldover → Completes (.hoSteerSecond apart worse) s (fun t =>
    t.regN Reg.HO_ELAPSED = satNat 32 (s.regN Reg.HO_ELAPSED + 1) ∧ t.tlState = tlHoldover ∧ t.tim = s.tim ∧ s.ho.unc ≤ t.ho.unc ∧ SameMem s t)) ∧
  (∀ (s : State), s.tlState = tlHoldover → s.regN Reg.HO_LIMIT < s.regN Reg.HO_UNC → Completes (.holdoverExpiry) s (fun t => t.tlState = tlExpired ∧
    Raised t blkTim 17 ∧ Raised t blkTim 0 ∧ t.tim.tl = s.tim.tl ∧ SameMem s t))

/-- The calendar clock: seconds, trims, setting, losses, leap seconds and the tamper log (R73, R74, R75, R76, R77, 02_holdover_calendar.md). -/
def Obligations.CalendarClock : Prop :=
  (∀ (s : State), s.flag Reg.CAL_STAT 1 = true → Completes (.calSecond) s (fun t => t.cal.s = (s.cal.s + 1) % 2 ^ 48 ∧ t.cal.since = s.cal.since + 1 ∧
    t.cal.acc = (s.cal.acc + signed 16 (s.regN Reg.CAL_TRIM)) % 1024 ∧ t.fld Reg.CAL_STAT 31 16 = satNat 16 ((s.cal.since + 1) / 86400) ∧
    SameRegs s t (· = Reg.CAL_STAT) ∧ t = { s with regs := t.regs, cal := t.cal })) ∧
  (∀ (s : State) (x : BitVec 16), s.flag Reg.CAL_CTL 0 = true → s.tlState = tlLocked → Completes (.calAutoTrim x) s (fun t => t.cal.s = tlS s.tim.tl ∧
    t.regN Reg.CAL_TRIM = x.toNat ∧ t.flag Reg.CAL_STAT 0 = true ∧ t.fld Reg.CAL_STAT 31 16 = 0 ∧
    SameRegs s t (fun a => a = Reg.CAL_TRIM ∨ a = Reg.CAL_STAT) ∧ t = { s with regs := t.regs, cal := t.cal })) ∧
  (∀ (s : State), s.mode = mBackup → Completes (.vbatBrownout) s (fun t => t.cal.lost = 2 ∧ t = { s with cal := t.cal })) ∧
  (∀ (s : State), Completes (.xtStop) s (fun t => t.flag Reg.CAL_STAT 1 = false ∧ Raised t blkTim 23 ∧ t.cal.lost ≠ 0 ∧
    SameRegs s t (fun a => a = Reg.CAL_STAT ∨ evtOf blkTim 23 a) ∧ t = { s with regs := t.regs, cal := t.cal })) ∧
  (∀ (s : State), Completes (.xtRestart) s (fun t => t.flag Reg.CAL_STAT 1 = true ∧ SameRegs s t (· = Reg.CAL_STAT) ∧
    t = { s with regs := t.regs })) ∧
  (∀ (s : State) (low : Bool), s.mode ≠ mBackup → Completes (.vbatCheck low) s (fun t => t.flag Reg.CAL_STAT 2 = low ∧ (low = true →
    Raised t blkTim 24) ∧ SameRegs s t (fun a => a = Reg.CAL_STAT ∨ evtOf blkTim 24 a) ∧ t = { s with regs := t.regs })) ∧
  (∀ (s : State), Completes (.backupDomainPowered) s (fun t => t.cal.s = 0 ∧ t.flag Reg.CAL_STAT 0 = false ∧ t.flag Reg.CAL_STAT 3 = true ∧
    t.regN Reg.CAL_UTC_OFS = 0 ∧ t.cal.leaps = [] ∧ t.fld (Reg.BBK_STORE 129) 7 0 = 2 ∧ Raised t blkTim 27 ∧ SameMem s t)) ∧
  (∀ (s : State) (v : BitVec 32), calModes s.mode = true → Completes (.calSet v) s (fun t =>
    t.cal.s = s.regN Reg.CAL_SET_LO + v.toNat % 2 ^ 16 * 2 ^ 32 ∧ t.flag Reg.CAL_STAT 0 = true ∧ Raised t blkTim 27 ∧
    t.fld (Reg.BBK_STORE (129 + 2 * s.fld Reg.TLOG_STAT 5 0)) 7 0 = 3 ∧ t.fld Reg.TLOG_STAT 5 0 = (s.fld Reg.TLOG_STAT 5 0 + 1) % 64 ∧ SameMem s t)) ∧
  (∀ (s : State) (v : BitVec 32), calModes s.mode = false → Completes (.calSet v) s (fun t => t = s.raise blkTim 31)) ∧
  (∀ (s : State) (init : Fin 512), Completes (.calSRead init) s (fun t => t.ans = ⟨init, 0, [s.cal.s % 2 ^ 32]⟩ ∧
    t.regN Reg.CAL_S_HI = s.cal.s / 2 ^ 32 % 2 ^ 32 ∧ SameRegs s t (· = Reg.CAL_S_HI) ∧ t = { s with regs := t.regs, ans := t.ans })) ∧
  (∀ (s : State) (v : BitVec 32), Completes (.calLeapAdd v) s (fun t => ∃ i : Fin 16, i.val ∈ t.cal.leaps ∧
    leapS t i = s.regN Reg.CAL_LEAP_LO + v.toNat % 2 ^ 16 * 2 ^ 32 ∧ leapOfs t i = v.toNat / 2 ^ 16 ∧ (tlS s.tim.tl < leapS t i →
    Raised t blkTim 25) ∧ SameMem s t)) ∧
  (∀ (s : State) (i : Fin 16), i.val ∈ s.cal.leaps → leapS s i ≤ tlS s.tim.tl → Completes (.leapApply i) s (fun t =>
    t.regN Reg.CAL_UTC_OFS = leapOfs s i ∧ t.tim = s.tim ∧ SameRegs s t (· = Reg.CAL_UTC_OFS) ∧ t = { s with regs := t.regs }))

/-- The Legacy Pulse Port: staged halves, the commit, KEEP, start and stop (R86, R88, R90, R91, R92, R93, 02_holdover_calendar.md). -/
def Obligations.LegacyPulsePort : Prop :=
  (∀ (s : State) (v : BitVec 16), Completes (.lppCtlHWrite v) s (fun t => t.lpp.high = v ∧ t.lpp.fresh = true ∧ t.lpp.ctl = s.lpp.ctl ∧
    t = { s with lpp := t.lpp })) ∧
  (∀ (s : State) (v : BitVec 16), v.getLsbD 0 = false → Completes (.lppCtlLWrite v) s (fun t => t.lpp.ctl = s.lpp.high ++ v ∧ t.lpp.fresh = false ∧
    t.lpp.pend = none ∧ t.lpp.running = false ∧ t.lpp.pps = false ∧ t.lpp.frm = false ∧ (s.lpp.fresh = false → Raised t blkTim 30) ∧ SameMem s t)) ∧
  (∀ (s : State) (v : BitVec 16), v.getLsbD 0 = true → s.lpp.running = true → Completes (.lppCtlLWrite v) s (fun t =>
    t.lpp.pend = some (s.lpp.high ++ v) ∧ t.lpp.ctl = s.lpp.ctl ∧ t.lpp.running = true ∧ t.lpp.fresh = false)) ∧
  (∀ (s : State) (v : BitVec 16), v.getLsbD 0 = true → s.lpp.running = false → s.lpp.fresh = true → Completes (.lppCtlLWrite v) s (fun t =>
    t.lpp.ctl = s.lpp.high ++ v ∧ t.lpp.pend = none ∧ t.lpp.fresh = false ∧ t = { s with lpp := t.lpp })) ∧
  (∀ (s : State) (v : BitVec 16), s.lpp.en = false → s.lpp.running = false → Completes (.lppKeepWrite v) s (fun t => t.lpp.keep = v.getLsbD 0 ∧
    t = { s with lpp := t.lpp })) ∧
  (∀ (s : State) (v : BitVec 16), s.lpp.en = true → Completes (.lppKeepWrite v) s (fun t => t = s.raise blkTim 29)) ∧
  (∀ (s : State) (w : BitVec 32), s.lpp.pend = some w → Completes (.lppCommitApply) s (fun t => t.lpp.ctl = w ∧ t.lpp.pend = none ∧
    t = { s with lpp := t.lpp })) ∧
  (∀ (s : State), s.lpp.en = true → s.tlState = tlLocked ∨ s.tlState = tlHoldover → s.mode ≠ mSafe → s.mode ≠ mShadow → s.lpp.hoStopped = false →
    s.lpp.running = false → Completes (.lppStart) s (fun t => t.lpp.running = true ∧ t = { s with lpp := t.lpp })) ∧
  (∀ (s : State) (b : Bool), s.lpp.running = true → Completes (.lppPpsPulse b) s (fun t => t.lpp.pps = b ∧ t = { s with lpp := t.lpp })) ∧
  (∀ (s : State), s.lpp.running = true → 315964819 ≤ tlS s.tim.tl → s.lpp.ctl.getLsbD 2 = true → Completes (.lppFrameStrobe true) s (fun t =>
    t.lpp.frm = true ∧ t.lpp.fcnt = ((tlS s.tim.tl - 315964819) * 100 + tlT s.tim.tl / 19660800) % 1024 + 1 ∧ t = { s with lpp := t.lpp })) ∧
  (∀ (s : State), s.lpp.keep = false → s.tlState = tlHoldover → 600 ≤ s.regN Reg.HO_ELAPSED → s.lpp.hoStopped = false → s.lpp.running = true →
    Completes (.lppHoldoverStop) s (fun t => t.lpp.running = false ∧ t.lpp.pps = false ∧ t.lpp.frm = false ∧ t.lpp.hoStopped = true ∧
    Raised t blkTim 28 ∧ SameRegs s t (evtOf blkTim 28) ∧ t = { s with regs := t.regs, lpp := t.lpp }))

/-- Every step keeps the Pacer's operations well formed (03_pacer.md, 04_run_ahead_rein_back.md). -/
def Obligations.PacerStateKept : Prop :=
  ∀ s t : State, s.pac.ok = true → step s = .next t → t.pac.ok = true

/-- The service of a worker: only an eligible READY operation is served, and one is whenever there is one (R110, 03_pacer.md). -/
def Obligations.PacerServiceIsFair : Prop :=
  (∀ (s t : State) (c w : Nat) (o : Op), serve s c w = (t, some o) →
    o ∈ s.pac.ops ∧ o.st = .ready ∧ mayTake o c w = true ∧ t = { s with pac := { s.pac with ptr := t.pac.ptr, deficit := t.pac.deficit } }) ∧
  (∀ (s : State) (c w : Nat), c < 4 → s.pac.ok = true → (∀ g, g < 16 → -254 ≤ deficitOf s c g) → sget (fun _ => 0) s.pac.ptr c < 16 →
    (∃ o ∈ s.pac.ops, o.st = .ready ∧ mayTake o c w = true) → ∃ t o, serve s c w = (t, some o))

/-- Admission: the doorbell, the read, and the decision (R102, R103, R104, 03_pacer.md). -/
def Obligations.Admission : Prop :=
  (∀ (s : State) (b : Fin 16) (v : BitVec 32), v.toNat % 64 = 0 → v.toNat < scratchSize → s.pac.admQ.length < 64 →
    Completes (.pacAdmit b v) s (fun t => t.pac.admQ = s.pac.admQ ++ [⟨b, v.toNat⟩] ∧ t = { s with pac := { s.pac with admQ := t.pac.admQ } })) ∧
  (∀ (s : State) (b : Fin 16) (v : BitVec 32), v.toNat % 64 ≠ 0 ∨ scratchSize ≤ v.toNat → Completes (.pacAdmit b v) s (fun t =>
    t = s.raise blkPac 10)) ∧
  (∀ (s : State) (b : Fin 16) (v : BitVec 32), v.toNat % 64 = 0 → v.toNat < scratchSize → 64 ≤ s.pac.admQ.length →
    Completes (.pacAdmit b v) s (fun t => t.pac = s.pac ∧ Raised t blkPac 0 ∧ t.regN Reg.PAC_ADM_LAST = 1 + b * 2 ^ 8 + v.toNat / 64 * 2 ^ 12 ∧
    t.regN (Reg.PAC_REFUSE_CNT 1) = satNat 32 (s.regN (Reg.PAC_REFUSE_CNT 1) + 1))) ∧
  (∀ (s : State) (a : Adm) (q : List Adm), s.pac.admQ = a :: q → Completes (.admissionDequeue) s (fun t => t.pac.admQ = q ∧
    t.pac.admRead = s.pac.admRead ++ [a] ∧ t = { s with pac := { s.pac with admQ := t.pac.admQ, admRead := t.pac.admRead } })) ∧
  (∀ (s : State) (a : Adm) (q : List Adm) (rd wr : Fin 8), s.pac.admRead = a :: q → a.bell < 16 → a.offset / 64 < 2 ^ 20 →
    admitCode (s.setPac { s.pac with admRead := q }) (a.offset / 64) rd false ≠ 0 → Completes (.admissionDecide rd wr) s (fun t =>
    t.pac.ops = s.pac.ops ∧ t.pac.admRead = q ∧ Raised t blkPac 0 ∧
    t.regN Reg.PAC_ADM_LAST = admitCode (s.setPac { s.pac with admRead := q }) (a.offset / 64) rd false + a.bell * 2 ^ 8 + a.offset / 64 * 2 ^ 12)) ∧
  (∀ (s : State) (a : Adm) (q : List Adm) (wr : Fin 8), s.pac.admRead = a :: q → a.offset / 64 < 2 ^ 20 → s.pac.ok = true →
    admitCode (s.setPac { s.pac with admRead := q }) (a.offset / 64) 0 false = 0 → jBlocked s 1 = false →
    Completes (.admissionDecide 0 wr) s (fun t => t.pac.ops.map (·.id) = s.pac.ops.map (·.id) ++ [s.pac.nextId] ∧ t.pac.nextId = s.pac.nextId + 1 ∧
    t.pac.admRead = q ∧ (∀ i ∈ validToks (descOp s (a.offset / 64)).outs, t.tok i = tPending)))

/-- From the delay list to a worker (R108, R109, R110, R111, R113, R126, 03_pacer.md). -/
def Obligations.PacerDispatch : Prop :=
  (∀ (s : State) (o : Op), s.pac.ok = true → (∀ x ∈ s.pac.ops, x.cls < 2) → o ∈ s.pac.ops → o.st = .waiting → ptReached s.pt o.start = true →
    (dueToStart s o.list).length ≤ 8 → Completes (.opStart) s (fun t =>
    opId t o.id = some { o with st := if insSat s o then .ready else .blocked, slip := false } ∧ SameMem s t ∧
    t = { s with regs := t.regs, pac := { s.pac with ops := t.pac.ops } })) ∧
  (∀ (s : State) (n : Fin 1048576) (o : Op), (∀ x ∈ s.pac.ops, x.cls < 2) → opAt s n = some o → o.st = .blocked → insSat s o = true →
    Completes (.opReady n) s (fun t => opAt t n = some { o with st := .ready } ∧ t.regs = s.regs ∧ t.pac.ops.length = s.pac.ops.length ∧
    SameMem s t)) ∧
  (∀ (s : State) (c : Fin 256) (s1 : State) (o : Op), s.coreAsks c = true → serve s 0 c = (s1, some o) → Completes (.canterGrant c) s (fun t =>
    (t.core c).grant = some o.slot ∧ (∀ k, k < 256 → k ≠ c.val → t.core k = s.core k) ∧
    t.regN (Reg.PAC_DISP_CNT o.cls) = satNat 32 (s.regN (Reg.PAC_DISP_CNT o.cls) + 1) ∧ SameMem s t)) ∧
  (∀ (s : State) (n : Fin 1048576) (o : Op) (c : Nat), opAt s n = some o → s.flag Reg.PAC_CTL 1 = true → o.cls = 0 → o.st = .ready → o.group < 16 →
    s.flag (Reg.PAC_GRP_LIM o.group) 31 = true → (List.range 256).any (fun c => mayTake o 0 c && s.coreAsks c) = false → slackShort s o = true →
    preemptCore s o = some c → Completes (.preempt n) s (fun t => opAt t n = some { o with st := .running, worker := some c } ∧
    (t.core c).pgrant = some o.slot ∧ Raised t blkPac 8 ∧ SameMem s t)) ∧
  (∀ (s : State) (p : Fin 512) (s1 : State) (o : Op), s.flag (Reg.PAC_HP_CFG p) 0 = true → (portTags s p).length < s.fld (Reg.PAC_HP_CFG p) 2 1 + 1 →
    s.flag (Reg.FAR_PAD_STAT (hpPaddock p)) 0 = false → hpIsolated s p = false → serve s 1 p = (s1, some o) → Completes (.hpGrant p) s (fun t =>
    ∃ tag, tag < 4 ∧ (∀ u ∈ portTags s p, u.tag ≠ tag) ∧ t.pac.tags = s.pac.tags ++ [⟨p, tag, o.id, false⟩] ∧ t.ans.who = 1024 + p ∧
    t.ans.words.take 3 = [tag, o.slot, o.kernel] ∧ SameMem s t)) ∧
  (∀ (s : State) (n : Fin 1048576) (o : Op), opAt s n = some o → o.st = .done → ptReached s.pt ((o.report + 8) % 2 ^ 32) = true →
    Completes (.alarmWindowEnd n) s (fun t => opAt t n = some { o with st := .held } ∧ t.regs = s.regs ∧ SameMem s t))

/-- Completion, deadlines and release (R114, R115, R116, R118, 03_pacer.md). -/
def Obligations.PacerCompletion : Prop :=
  (∀ (s : State) (n : Fin 1048576) (o : Op), (∀ x ∈ s.pac.ops, x.cls < 2) → s.pac.ok = true → opAt s n = some o → o.st = .running →
    Completes (.opReport n 0) s (fun t => opAt t n = some { o with st := .done, report := s.pt, preempted := false } ∧
    (∀ i ∈ validToks o.outs, t.tok i = tSpec) ∧ SameMem s t)) ∧
  (∀ (s : State) (n : Fin 1048576) (o : Op) (k : BitVec 8), (∀ x ∈ s.pac.ops, x.cls < 2) → s.pac.ok = true → opAt s n = some o → o.st = .running →
    k ≠ 0 → Completes (.opReport n k) s (fun t => o.id ∉ t.pac.ops.map (·.id) ∧ Raised t blkPac 7 ∧ Raised t blkPac 21)) ∧
  (∀ (s : State) (n : Fin 1048576) (k : BitVec 8), (∀ x ∈ s.pac.ops, x.cls < 2) → opAt s n = none → Completes (.opReport n k) s (fun t =>
    t.regN Reg.PAC_LATE_DONE_CNT = satNat 32 (s.regN Reg.PAC_LATE_DONE_CNT + 1) ∧ Raised t blkPac 6 ∧ t.pac = s.pac ∧ SameMem s t)) ∧
  (∀ (s : State) (p : Fin 512) (tag : Fin 4) (o : Op), hpIsolated s p = false → s.pac.ok = true → s.pac.tags = [⟨p, tag, o.id, false⟩] →
    o ∈ s.pac.ops → o.st = .running → Completes (.hpDone p tag 0) s (fun t => t.pac.tags = [] ∧
    opId t o.id = some { o with st := .done, report := s.pt, preempted := false } ∧ SameMem s t)) ∧
  (∀ (s : State) (p : Fin 512) (tag : Fin 4) (k : BitVec 8), hpIsolated s p = false → (∀ u ∈ s.pac.tags, u.port = p.val → u.tag ≠ tag.val) →
    Completes (.hpDone p tag k) s (fun t => t = s.raise blkPac 9)) ∧
  (∀ (s : State) (ch : Fin 32) (o : Op), s.pac.ok = true → (heldBy s 2 ch).head? = some o → (∀ x ∈ s.pac.ops, x = o ∨ x.cls < 2) →
    Completes (.dmaComplete ch 0) s (fun t => opId t o.id = some { o with st := .done, report := s.pt, preempted := false } ∧
    ∀ i ∈ validToks o.outs, t.tok i = tSpec)) ∧
  (∀ (s : State) (ch : Fin 32) (o : Op) (k : Fin 8), s.pac.ok = true → (heldBy s 2 ch).head? = some o → k ≠ 0 →
    Completes (.dmaComplete ch k) s (fun t => o.id ∉ t.pac.ops.map (·.id) ∧ Raised t blkPac 7)) ∧
  (∀ (s : State) (o : Op), s.pac.ok = true → (heldBy s 3 0).head? = some o → (∀ x ∈ s.pac.ops, x = o ∨ x.cls < 2) →
    Completes (.stagerFetchDone 0) s (fun t =>
    opId t o.id = some { o with st := .done, report := s.pt, preempted := false, staged := (o.outs.getD 0 none).map (tokBytes s) } ∧ SameMem s t)) ∧
  (∀ (s : State) (n : Fin 1048576) (o : Op), s.pac.ok = true → opAt s n = some o → unreported o = true → ptReached s.pt o.due = true →
    Completes (.opDeadline n) s (fun t => o.id ∉ t.pac.ops.map (·.id) ∧ Raised t blkPac 21)) ∧
  (∀ (s : State) (n : Fin 1048576) (o : Op), s.pac.ok = true → opAt s n = some o → relTurn s o = true → o.relKind = 0 →
    Completes (.opRelease n) s (fun t => o.id ∉ t.pac.ops.map (·.id) ∧ t.regN Reg.PAC_REL_CNT = satNat 32 (s.regN Reg.PAC_REL_CNT + 1) ∧
    (∀ i ∈ validToks o.outs, t.tok i = tCommitted) ∧ (s.pt ≠ o.due → Raised t blkPac 5))) ∧
  (∀ (s : State) (i n : Nat) (q : List (Nat × Nat)) (k : Fin 8), s.pac.fetches = (i, n) :: q → k ≠ 0 →
    Completes (.timedReleaseFetchDone k) s (fun t => t.pac.fetches = q ∧ Raised t blkPac 14 ∧
    t.regN Reg.PAC_TIMED_DROP_CNT = satNat 32 (s.regN Reg.PAC_TIMED_DROP_CNT + 1) ∧ t.tim = s.tim ∧ SameMem s t)) ∧
  (∀ (s : State) (i n : Nat) (q : List (Nat × Nat)), s.pac.fetches = (i, n) :: q → n < 8 → tokLen s i = 8 → (s.tout n).queue = [] →
    (s.tout n).last = none → Completes (.timedReleaseFetchDone 0) s (fun t => t.pac.fetches = q ∧ (t.tout n).queue.length = 1 ∧ t.regs = s.regs))

/-- Pacer configuration: graphs, flows, the enable, and rein-back's registers (R98, R106, R120, R137, R404, 03_pacer.md). -/
def Obligations.PacerConfiguration : Prop :=
  (∀ (s : State) (g : Fin 256) (v : BitVec 32), s.shadowing = false → s.flag (Reg.PAC_GRAPH_CFG g) 0 = true → v.getLsbD 0 = false → s.pac.ok = true →
    Completes (.pacGraphCfgWrite g v) s (fun t => t.flag (Reg.PAC_GRAPH_CFG g) 0 = false ∧ Raised t blkPac 12 ∧ Raised t blkPac 25 ∧
    ∀ o ∈ t.pac.ops, ¬(o.nodeValid = true ∧ o.graph = g.val))) ∧
  (∀ (s : State) (f : Fin 1024) (v : BitVec 32), s.shadowing = false → s.flag (Reg.PAC_FLOW_CFG f) 0 = false → v.getLsbD 0 = true →
    Completes (.pacFlowCfgWrite f v) s (fun t => t.fld (Reg.PAC_FLOW_STAT f) 15 0 = v.toNat / 2 ^ 16 ∧
    t.fld (Reg.PAC_FLOW_STAT f) 31 16 = v.toNat / 2 ^ 16 ∧ t.flag (Reg.PAC_FLOW_CFG f) 0 = true ∧ t.pac = s.pac ∧ SameMem s t)) ∧
  (∀ (s : State) (v : BitVec 32), s.shadowing = false → s.flag Reg.PAC_CTL 0 = true → v.getLsbD 0 = false → s.pac.ok = true →
    Completes (.pacCtlWrite v) s (fun t => t.pac.ops = [] ∧ t.flag Reg.PAC_CTL 0 = false ∧ Raised t blkPac 25)) ∧
  (∀ (s : State) (v : BitVec 32), s.shadowing = false → s.flag Reg.PAC_CTL 0 = false → v.getLsbD 0 = true → Completes (.pacCtlWrite v) s (fun t =>
    t.pac.ptr = [] ∧ t.pac.deficit = [] ∧ t.pac.ops = s.pac.ops ∧ t.regN Reg.PAC_CTL = v.toNat % 4 ∧ SameMem s t)) ∧
  (∀ (s : State) (v : BitVec 32), s.shadowing = true → Completes (.pacCtlWrite v) s (fun t => t = s.raise blkPac 31)) ∧
  (∀ (s : State) (v : BitVec 32), s.shadowing = false → s.tok (bitsOf v.toNat 13 0) = tPoisoned →
    (∀ o ∈ s.pac.ops, bitsOf v.toNat 13 0 ∉ validToks o.outs) → Completes (.rbTokClr v) s (fun t => t.tok (bitsOf v.toNat 13 0) = tIdle ∧
    t.pac = s.pac ∧ SameMem s t)) ∧
  (∀ (s : State) (v : BitVec 32), rbTestModes s.mode = false → Completes (.rbTest v) s (fun t => t = s.raise blkPac 31)) ∧
  (∀ (s : State) (v : BitVec 32), rbTestModes s.mode = true → v.getLsbD 31 = true → s.pac.ops = [] → Completes (.rbTest v) s (fun t =>
    t.regN Reg.RB_TEST = bitsOf v.toNat 13 0 ∧ Raised t blkPac 16 ∧ Raised t blkPac 29 ∧
    t.regN Reg.RB_UNATTR_CNT = satNat 32 (s.regN Reg.RB_UNATTR_CNT + 1) ∧ t.pac = s.pac ∧ SameMem s t)) ∧
  (∀ (s : State) (cls : Fin 4) (w : Fin 512) (a : BitVec 48) (al : Fin 16), s.pac.ops = [] → s.pac.lastRel = [] →
    Completes (.rbAlarm cls w a al) s (fun t => Raised t blkPac 16 ∧ Raised t blkPac 29 ∧
    t.regN Reg.RB_UNATTR_CNT = satNat 32 (s.regN Reg.RB_UNATTR_CNT + 1) ∧ t.regN (Reg.RB_TRIG_CNT 1) = satNat 32 (s.regN (Reg.RB_TRIG_CNT 1) + 1) ∧
    t.pac = s.pac ∧ SameMem s t)) ∧
  (∀ (s : State) (init : Fin 512) (e : BitVec 64) (q : List (BitVec 64)), s.pac.lossQ = e :: q → init.val ≠ 474 →
    Completes (.rbLossHiRead init) s (fun t => t.ans = ⟨init, 0, [e.toNat / 2 ^ 32]⟩ ∧ t.pac = { s.pac with lossQ := q } ∧
    t.fld Reg.RB_LOSS_STAT 9 1 = q.length % 512 ∧ SameRegs s t (· = Reg.RB_LOSS_STAT) ∧ SameMem s t))

/-- An operation that ends leaves the machine: its entry, its outputs and one loss entry (R116, R134, R135, R145, 04_run_ahead_rein_back.md). -/
def Obligations.ReinBackLoss : Prop :=
  ∀ (s : State) (o : Op) (final cause : Nat), s.pac.ok = true → o ∈ s.pac.ops →
    (endOne s o final cause).pac.ops.map (·.id) = (s.pac.ops.map (·.id)).filter (· != o.id) ∧
    (∀ i ∈ validToks o.outs, (endOne s o final cause).tok i = tIdle) ∧
    (endOne s o final cause).regN Reg.RB_LOSS_CNT = satNat 32 (s.regN Reg.RB_LOSS_CNT + 1) ∧
    (s.pac.lossQ.length < 256 → (endOne s o final cause).pac.lossQ = s.pac.lossQ ++ [lossEntry o cause final])

/-- A bundle's slots: when one is reached, and what beginning a bundle does (R157, R158, R159, R163, R164, 05_canter_cores.md). -/
def Obligations.CanterIssue : Prop :=
  (∀ (s : State) (c : Fin 256) (fresh : Bool), canIssue s c = false → openSlot s c fresh = (s, false)) ∧
  (∀ (s : State) (c : Fin 256), canIssue s c = true → openSlot s c false = (s, true)) ∧
  (∀ (s : State) (c : Fin 256), canIssue s c = true → (s.core c).bank.nextPc < 4096 → ∃ u, openSlot s c true = (u, true) ∧
    (u.core c).bank.pc = (s.core c).bank.nextPc ∧ (s.core c).bank.cycle < (u.core c).bank.cycle ∧ (∀ k, k ≠ c.val → u.core k = s.core k) ∧
    SameMem s u) ∧
  (∀ (s : State) (c : Fin 256) (fresh : Bool), canIssue s c = false → Completes (.nop c fresh) s (fun t => t = s)) ∧
  (∀ (s : State) (u : State) (c : Fin 256) (fresh : Bool), openSlot s c fresh = (u, true) → Completes (.nop c fresh) s (fun t => t.core c = u.core c ∧
    t = { u with can := t.can } ∧ (∀ k, k ≠ c.val → t.core k = u.core k))) ∧
  (∀ (s : State) (c : Fin 256), canIssue s c = true → (s.core c).bank.slot = none → (s.core c).shadow = false → (s.core c).chans = [] →
    (s.core c).failed = [] → (∀ x ∈ s.pac.ops, x.cls < 2) → s.out.core = none → Completes (.illegal c) s (fun t => (t.core c).st = cAsking ∧
    Raised t blkCan 0 ∧ t.fld (Reg.CA_CORE_STAT c) 27 16 = (s.core c).bank.nextPc % 4096 ∧ (∀ k, k ≠ c.val → t.core k = s.core k) ∧ SameMem s t))

/-- The MAC slot: accumulator arithmetic in 48 bits, exact, with its latency of 4 (R153, R154, R155, R156, R158, R160, 05_canter_cores.md). -/
def Obligations.CanterMac : Prop :=
  (∀ (s : State) (u : State) (c : Fin 256) (fresh : Bool) (k : Fin 4) (ra rb : Fin 32), openSlot s c fresh = (u, true) →
    Completes (.cmac c fresh k ra rb false false true) s (fun t =>
    (t.core c).bank.owed = (u.core c).bank.owed ++ [⟨(u.core c).bank.cycle + 4, (u.core c).bank.cycle, rMac, .acc k false, unsigned 48 (reOf ((u.core c).bank.dReg ra) * reOf ((u.core c).bank.dReg rb) - imOf ((u.core c).bank.dReg ra) * imOf ((u.core c).bank.dReg rb))⟩, ⟨(u.core c).bank.cycle + 4, (u.core c).bank.cycle, rMac, .acc k true, unsigned 48 (reOf ((u.core c).bank.dReg ra) * imOf ((u.core c).bank.dReg rb) + imOf ((u.core c).bank.dReg ra) * reOf ((u.core c).bank.dReg rb))⟩] ∧
    t = { u with can := t.can } ∧ (∀ k, k ≠ c.val → t.core k = u.core k))) ∧
  (∀ (s : State) (u : State) (c : Fin 256) (fresh : Bool) (k : Fin 4) (ra rb : Fin 32), openSlot s c fresh = (u, true) →
    Completes (.cmac c fresh k ra rb true true false) s (fun t =>
    (t.core c).bank.owed = (u.core c).bank.owed ++ [⟨(u.core c).bank.cycle + 4, (u.core c).bank.cycle, rMac, .acc k false, unsigned 48 ((u.core c).bank.accOwn k false + -(reOf ((u.core c).bank.dReg ra) * reOf ((u.core c).bank.dReg rb) - imOf ((u.core c).bank.dReg ra) * -imOf ((u.core c).bank.dReg rb)))⟩, ⟨(u.core c).bank.cycle + 4, (u.core c).bank.cycle, rMac, .acc k true, unsigned 48 ((u.core c).bank.accOwn k true + -(reOf ((u.core c).bank.dReg ra) * -imOf ((u.core c).bank.dReg rb) + imOf ((u.core c).bank.dReg ra) * reOf ((u.core c).bank.dReg rb)))⟩] ∧
    t = { u with can := t.can } ∧ (∀ k, k ≠ c.val → t.core k = u.core k))) ∧
  (∀ (s : State) (u : State) (c : Fin 256) (fresh : Bool) (k : Fin 4) (ra rb md : Fin 32), openSlot s c fresh = (u, true) →
    Completes (.drmac c fresh k ra rb md) s (fun t =>
    (t.core c).bank.owed = (u.core c).bank.owed ++ [⟨(u.core c).bank.cycle + 4, (u.core c).bank.cycle, rMac, .acc k false, unsigned 48 ((u.core c).bank.accOwn k false + (reOf ((u.core c).bank.dReg ra) * reOf ((u.core c).bank.dReg md) + imOf ((u.core c).bank.dReg ra) * imOf ((u.core c).bank.dReg md)))⟩, ⟨(u.core c).bank.cycle + 4, (u.core c).bank.cycle, rMac, .acc k true, unsigned 48 ((u.core c).bank.accOwn k true + (reOf ((u.core c).bank.dReg rb) * reOf ((u.core c).bank.dReg md) + imOf ((u.core c).bank.dReg rb) * imOf ((u.core c).bank.dReg md)))⟩] ∧
    t = { u with can := t.can } ∧ (∀ k, k ≠ c.val → t.core k = u.core k))) ∧
  (∀ (s : State) (u : State) (c : Fin 256) (fresh : Bool) (k : Fin 4) (ra rb md : Fin 32), openSlot s c fresh = (u, true) →
    Completes (.pcmac c fresh k ra rb md) s (fun t =>
    (t.core c).bank.owed = (u.core c).bank.owed ++ [⟨(u.core c).bank.cycle + 4, (u.core c).bank.cycle, rMac, .acc k false, unsigned 48 ((u.core c).bank.accOwn k false + ((reOf ((u.core c).bank.dReg ra) + reOf ((u.core c).bank.dReg rb)) * reOf ((u.core c).bank.dReg md) - (imOf ((u.core c).bank.dReg ra) + imOf ((u.core c).bank.dReg rb)) * imOf ((u.core c).bank.dReg md)))⟩, ⟨(u.core c).bank.cycle + 4, (u.core c).bank.cycle, rMac, .acc k true, unsigned 48 ((u.core c).bank.accOwn k true + ((reOf ((u.core c).bank.dReg ra) + reOf ((u.core c).bank.dReg rb)) * imOf ((u.core c).bank.dReg md) + (imOf ((u.core c).bank.dReg ra) + imOf ((u.core c).bank.dReg rb)) * reOf ((u.core c).bank.dReg md)))⟩] ∧
    t = { u with can := t.can } ∧ (∀ k, k ≠ c.val → t.core k = u.core k))) ∧
  (∀ (s : State) (u : State) (c : Fin 256) (fresh : Bool) (k : Fin 4) (ra sh : Fin 32), openSlot s c fresh = (u, true) →
    Completes (.ald c fresh k ra sh) s (fun t =>
    (t.core c).bank.owed = (u.core c).bank.owed ++ [⟨(u.core c).bank.cycle + 4, (u.core c).bank.cycle, rMac, .acc k false, unsigned 48 (reOf ((u.core c).bank.dReg ra) * 2 ^ sh.val)⟩, ⟨(u.core c).bank.cycle + 4, (u.core c).bank.cycle, rMac, .acc k true, unsigned 48 (imOf ((u.core c).bank.dReg ra) * 2 ^ sh.val)⟩] ∧
    t = { u with can := t.can } ∧ (∀ k, k ≠ c.val → t.core k = u.core k))) ∧
  (∀ (s : State) (u : State) (c : Fin 256) (fresh : Bool) (k j : Fin 4), openSlot s c fresh = (u, true) → Completes (.amov c fresh k j) s (fun t =>
    (t.core c).bank.owed = (u.core c).bank.owed ++ [⟨(u.core c).bank.cycle + 4, (u.core c).bank.cycle, rMac, .acc k false, unsigned 48 ((u.core c).bank.accVis j false)⟩, ⟨(u.core c).bank.cycle + 4, (u.core c).bank.cycle, rMac, .acc k true, unsigned 48 ((u.core c).bank.accVis j true)⟩] ∧
    t = { u with can := t.can } ∧ (∀ k, k ≠ c.val → t.core k = u.core k))) ∧
  (∀ (s : State) (u : State) (c : Fin 256) (fresh : Bool) (k j : Fin 4), openSlot s c fresh = (u, true) → j ≠ k →
    Completes (.aadd c fresh k j) s (fun t =>
    (t.core c).bank.owed = (u.core c).bank.owed ++ [⟨(u.core c).bank.cycle + 4, (u.core c).bank.cycle, rMac, .acc k false, unsigned 48 ((u.core c).bank.accOwn k false + (u.core c).bank.accVis j false)⟩, ⟨(u.core c).bank.cycle + 4, (u.core c).bank.cycle, rMac, .acc k true, unsigned 48 ((u.core c).bank.accOwn k true + (u.core c).bank.accVis j true)⟩] ∧
    t = { u with can := t.can } ∧ (∀ k, k ≠ c.val → t.core k = u.core k))) ∧
  (∀ (s : State) (u : State) (c : Fin 256) (fresh : Bool) (k : Fin 4) (sh : Fin 64), openSlot s c fresh = (u, true) → sh.val ≤ 47 →
    Completes (.ashr c fresh k sh) s (fun t =>
    (t.core c).bank.owed = (u.core c).bank.owed ++ [⟨(u.core c).bank.cycle + 4, (u.core c).bank.cycle, rMac, .acc k false, unsigned 48 (roundBy (u.core c).bank.rm false ((u.core c).bank.accOwn k false) sh)⟩, ⟨(u.core c).bank.cycle + 4, (u.core c).bank.cycle, rMac, .acc k true, unsigned 48 (roundBy (u.core c).bank.rm false ((u.core c).bank.accOwn k true) sh)⟩] ∧
    t = { u with can := t.can } ∧ (∀ k, k ≠ c.val → t.core k = u.core k))) ∧
  (∀ (s : State) (u : State) (c : Fin 256) (fresh : Bool) (k : Fin 4) (ra : Fin 32) (sh : Fin 64) (final : Bool), openSlot s c fresh = (u, true) →
    sh.val ≤ 47 → Completes (.ext c fresh k ra sh final true false) s (fun t =>
    (t.core c).bank.owed = (u.core c).bank.owed ++ [⟨(u.core c).bank.cycle + 2, (u.core c).bank.cycle, rMac, .d ((u.core c).bank.phys ra), cplx (satInt 16 (roundBy (u.core c).bank.rm final ((u.core c).bank.accVis k false) sh)) (satInt 16 (roundBy (u.core c).bank.rm final ((u.core c).bank.accVis k true) sh))⟩] ∧
    t = { u with can := t.can } ∧ (∀ k, k ≠ c.val → t.core k = u.core k))) ∧
  (∀ (s : State) (u : State) (c : Fin 256) (fresh : Bool) (k : Fin 4) (ra : Fin 32) (sh : Fin 64) (final : Bool), openSlot s c fresh = (u, true) →
    sh.val ≤ 47 → Completes (.ext c fresh k ra sh final false true) s (fun t =>
    (t.core c).bank.owed = (u.core c).bank.owed ++ [⟨(u.core c).bank.cycle + 2, (u.core c).bank.cycle, rMac, .d ((u.core c).bank.phys ra), cplx (roundBy (u.core c).bank.rm final ((u.core c).bank.accVis k false) sh) (roundBy (u.core c).bank.rm final ((u.core c).bank.accVis k true) sh)⟩, ⟨(u.core c).bank.cycle + 4, (u.core c).bank.cycle, rMac, .acc k false, 0⟩, ⟨(u.core c).bank.cycle + 4, (u.core c).bank.cycle, rMac, .acc k true, 0⟩] ∧
    t = { u with can := t.can } ∧ (∀ k, k ≠ c.val → t.core k = u.core k)))

/-- Data-register arithmetic of the MAC slot (R154, R158, R160, 05_canter_cores.md). -/
def Obligations.CanterVector : Prop :=
  (∀ (s : State) (u : State) (c : Fin 256) (fresh : Bool) (ra rb md : Fin 32), openSlot s c fresh = (u, true) →
    Completes (.cadd c fresh ra rb md) s (fun t =>
    (t.core c).bank.owed = (u.core c).bank.owed ++ [⟨(u.core c).bank.cycle + 1, (u.core c).bank.cycle, rMac, .d ((u.core c).bank.phys ra), cplx (reOf ((u.core c).bank.dReg rb) + reOf ((u.core c).bank.dReg md)) (imOf ((u.core c).bank.dReg rb) + imOf ((u.core c).bank.dReg md))⟩] ∧
    t = { u with can := t.can } ∧ (∀ k, k ≠ c.val → t.core k = u.core k))) ∧
  (∀ (s : State) (u : State) (c : Fin 256) (fresh : Bool) (ra rb md : Fin 32), openSlot s c fresh = (u, true) →
    Completes (.csub c fresh ra rb md) s (fun t =>
    (t.core c).bank.owed = (u.core c).bank.owed ++ [⟨(u.core c).bank.cycle + 1, (u.core c).bank.cycle, rMac, .d ((u.core c).bank.phys ra), cplx (reOf ((u.core c).bank.dReg rb) - reOf ((u.core c).bank.dReg md)) (imOf ((u.core c).bank.dReg rb) - imOf ((u.core c).bank.dReg md))⟩] ∧
    t = { u with can := t.can } ∧ (∀ k, k ≠ c.val → t.core k = u.core k))) ∧
  (∀ (s : State) (u : State) (c : Fin 256) (fresh : Bool) (ra rb md : Fin 32), openSlot s c fresh = (u, true) →
    Completes (.cadds c fresh ra rb md) s (fun t =>
    (t.core c).bank.owed = (u.core c).bank.owed ++ [⟨(u.core c).bank.cycle + 1, (u.core c).bank.cycle, rMac, .d ((u.core c).bank.phys ra), cplx (satInt 16 (reOf ((u.core c).bank.dReg rb) + reOf ((u.core c).bank.dReg md))) (satInt 16 (imOf ((u.core c).bank.dReg rb) + imOf ((u.core c).bank.dReg md)))⟩] ∧
    t = { u with can := t.can } ∧ (∀ k, k ≠ c.val → t.core k = u.core k))) ∧
  (∀ (s : State) (u : State) (c : Fin 256) (fresh : Bool) (ra rb md : Fin 32), openSlot s c fresh = (u, true) →
    Completes (.csubs c fresh ra rb md) s (fun t =>
    (t.core c).bank.owed = (u.core c).bank.owed ++ [⟨(u.core c).bank.cycle + 1, (u.core c).bank.cycle, rMac, .d ((u.core c).bank.phys ra), cplx (satInt 16 (reOf ((u.core c).bank.dReg rb) - reOf ((u.core c).bank.dReg md))) (satInt 16 (imOf ((u.core c).bank.dReg rb) - imOf ((u.core c).bank.dReg md)))⟩] ∧
    t = { u with can := t.can } ∧ (∀ k, k ≠ c.val → t.core k = u.core k))) ∧
  (∀ (s : State) (u : State) (c : Fin 256) (fresh : Bool) (ra rb : Fin 32), openSlot s c fresh = (u, true) →
    Completes (.conj c fresh ra rb) s (fun t =>
    (t.core c).bank.owed = (u.core c).bank.owed ++ [⟨(u.core c).bank.cycle + 1, (u.core c).bank.cycle, rMac, .d ((u.core c).bank.phys ra), cplx (reOf ((u.core c).bank.dReg rb)) (satInt 16 (-imOf ((u.core c).bank.dReg rb)))⟩] ∧
    t = { u with can := t.can } ∧ (∀ k, k ≠ c.val → t.core k = u.core k))) ∧
  (∀ (s : State) (u : State) (c : Fin 256) (fresh : Bool) (ra rb : Fin 32), openSlot s c fresh = (u, true) →
    Completes (.mov c fresh ra rb) s (fun t =>
    (t.core c).bank.owed = (u.core c).bank.owed ++ [⟨(u.core c).bank.cycle + 1, (u.core c).bank.cycle, rMac, .d ((u.core c).bank.phys ra), ((u.core c).bank.dReg rb).toNat⟩] ∧
    t = { u with can := t.can } ∧ (∀ k, k ≠ c.val → t.core k = u.core k))) ∧
  (∀ (s : State) (u : State) (c : Fin 256) (fresh : Bool) (d : Fin 32) (imm : BitVec 16), openSlot s c fresh = (u, true) →
    Completes (.movil c fresh d imm) s (fun t =>
    (t.core c).bank.owed = (u.core c).bank.owed ++ [⟨(u.core c).bank.cycle + 1, (u.core c).bank.cycle, rCtl, .d ((u.core c).bank.phys d), putBits ((u.core c).bank.dReg d).toNat 15 0 imm.toNat⟩] ∧
    t = { u with can := t.can } ∧ (∀ k, k ≠ c.val → t.core k = u.core k))) ∧
  (∀ (s : State) (u : State) (c : Fin 256) (fresh : Bool) (d : Fin 32) (imm : BitVec 16), openSlot s c fresh = (u, true) →
    Completes (.movih c fresh d imm) s (fun t =>
    (t.core c).bank.owed = (u.core c).bank.owed ++ [⟨(u.core c).bank.cycle + 1, (u.core c).bank.cycle, rCtl, .d ((u.core c).bank.phys d), putBits ((u.core c).bank.dReg d).toNat 31 16 imm.toNat⟩] ∧
    t = { u with can := t.can } ∧ (∀ k, k ≠ c.val → t.core k = u.core k))) ∧
  (∀ (s : State) (u : State) (c : Fin 256) (fresh : Bool), openSlot s c fresh = (u, true) → Completes (.rot c fresh) s (fun t =>
    (t.core c).bank.rots = (u.core c).bank.rots + 1 ∧ t = { u with can := t.can } ∧ (∀ k, k ≠ c.val → t.core k = u.core k))) ∧
  (∀ (s : State) (u : State) (c : Fin 256) (fresh : Bool), openSlot s c fresh = (u, true) → Completes (.clra c fresh 15) s (fun t =>
    (t.core c).bank.owed = (u.core c).bank.owed ++ [⟨(u.core c).bank.cycle + 4, (u.core c).bank.cycle, rCtl, .acc 0 false, 0⟩, ⟨(u.core c).bank.cycle + 4, (u.core c).bank.cycle, rCtl, .acc 0 true, 0⟩, ⟨(u.core c).bank.cycle + 4, (u.core c).bank.cycle, rCtl, .acc 1 false, 0⟩, ⟨(u.core c).bank.cycle + 4, (u.core c).bank.cycle, rCtl, .acc 1 true, 0⟩, ⟨(u.core c).bank.cycle + 4, (u.core c).bank.cycle, rCtl, .acc 2 false, 0⟩, ⟨(u.core c).bank.cycle + 4, (u.core c).bank.cycle, rCtl, .acc 2 true, 0⟩, ⟨(u.core c).bank.cycle + 4, (u.core c).bank.cycle, rCtl, .acc 3 false, 0⟩, ⟨(u.core c).bank.cycle + 4, (u.core c).bank.cycle, rCtl, .acc 3 true, 0⟩] ∧
    t = { u with can := t.can } ∧ (∀ k, k ≠ c.val → t.core k = u.core k))) ∧
  (∀ (s : State) (u : State) (c : Fin 256) (fresh : Bool) (m : Fin 16), openSlot s c fresh = (u, true) → Completes (.clra c fresh m) s (fun t =>
    (t.core c).bank.owed.length = (u.core c).bank.owed.length + 2 * ((List.range 4).filter m.val.testBit).length ∧ t = { u with can := t.can } ∧
    (∀ k, k ≠ c.val → t.core k = u.core k)))

/-- Local memory, addresses, branches, loops and transfers (R152, R158, R161, R163, R164, R167, 05_canter_cores.md). -/
def Obligations.CanterMemoryAndControl : Prop :=
  (∀ (s : State) (u : State) (c : Fin 256) (fresh : Bool) (mem : Fin 3) (p : Fin 16) (d : Fin 32), openSlot s c fresh = (u, true) → mem.val ≠ 2 →
    Completes (.ld c fresh mem p d false) s (fun t =>
    (t.core c).bank.owed = (u.core c).bank.owed ++ [⟨(u.core c).bank.cycle + 3, (u.core c).bank.cycle, (slotRank mem), .d ((u.core c).bank.phys d), (locGet (u.core c) mem (wordIx mem ((u.core c).bank.pReg p))).toNat⟩] ∧
    t = { u with can := t.can } ∧ (∀ k, k ≠ c.val → t.core k = u.core k))) ∧
  (∀ (s : State) (u : State) (c : Fin 256) (fresh : Bool) (p : Fin 16) (d : Fin 32) (pm : Bool), openSlot s c fresh = (u, true) →
    Completes (.ld c fresh 2 p d pm) s (fun t =>
    (t.core c).bank.owed = (u.core c).bank.owed ++ [⟨(u.core c).bank.cycle + 3, (u.core c).bank.cycle, rC, .d ((u.core c).bank.phys d), (locGet (u.core c) 2 (wordIx 2 ((u.core c).bank.pReg 15))).toNat⟩, ⟨(u.core c).bank.cycle + 1, (u.core c).bank.cycle, rC, .p 15, (u.core c).bank.postMod 15⟩] ∧
    t = { u with can := t.can } ∧ (∀ k, k ≠ c.val → t.core k = u.core k))) ∧
  (∀ (s : State) (u : State) (c : Fin 256) (fresh : Bool) (mem : Fin 2) (p : Fin 16) (d : Fin 32), openSlot s c fresh = (u, true) →
    Completes (.st c fresh mem p d true) s (fun t => locGet (t.core c) mem (wordIx mem ((u.core c).bank.pReg p)) = ((u.core c).bank.dReg d) ∧
    (t.core c).bank.owed = (u.core c).bank.owed ++ [⟨(u.core c).bank.cycle + 1, (u.core c).bank.cycle, (slotRank mem), .p p, (u.core c).bank.postMod p⟩] ∧
    t = { u with can := t.can } ∧ (∀ k, k ≠ c.val → t.core k = u.core k))) ∧
  (∀ (s : State) (u : State) (c : Fin 256) (fresh : Bool) (n m : Fin 16) (imm : BitVec 24), openSlot s c fresh = (u, true) →
    Completes (.addp c fresh n m imm) s (fun t =>
    (t.core c).bank.owed = (u.core c).bank.owed ++ [⟨(u.core c).bank.cycle + 2, (u.core c).bank.cycle, rCtl, .p n, unsigned 48 ((u.core c).bank.pReg m + imm.toInt)⟩] ∧
    t = { u with can := t.can } ∧ (∀ k, k ≠ c.val → t.core k = u.core k))) ∧
  (∀ (s : State) (u : State) (c : Fin 256) (fresh : Bool) (n m : Fin 16) (d : Fin 32), openSlot s c fresh = (u, true) →
    Completes (.addpd c fresh n m d) s (fun t =>
    (t.core c).bank.owed = (u.core c).bank.owed ++ [⟨(u.core c).bank.cycle + 2, (u.core c).bank.cycle, rCtl, .p n, unsigned 48 ((u.core c).bank.pReg m + ((u.core c).bank.dReg d).toInt)⟩] ∧
    t = { u with can := t.can } ∧ (∀ k, k ≠ c.val → t.core k = u.core k))) ∧
  (∀ (s : State) (u : State) (c : Fin 256) (fresh : Bool) (n : Fin 16) (da db : Fin 32), openSlot s c fresh = (u, true) →
    Completes (.movpd c fresh n da db) s (fun t =>
    (t.core c).bank.owed = (u.core c).bank.owed ++ [⟨(u.core c).bank.cycle + 2, (u.core c).bank.cycle, rCtl, .p n, ((u.core c).bank.dReg da).toNat + bitsOf ((u.core c).bank.dReg db).toNat 15 0 * 2 ^ 32⟩] ∧
    t = { u with can := t.can } ∧ (∀ k, k ≠ c.val → t.core k = u.core k))) ∧
  (∀ (s : State) (u : State) (c : Fin 256) (fresh : Bool) (n : Fin 16) (size : BitVec 4) (step : BitVec 16), openSlot s c fresh = (u, true) →
    Completes (.setm c fresh n size step) s (fun t =>
    (t.core c).bank.owed = (u.core c).bank.owed ++ [⟨(u.core c).bank.cycle + 2, (u.core c).bank.cycle, rCtl, .m n, step.toNat⟩, ⟨(u.core c).bank.cycle + 2, (u.core c).bank.cycle, rCtl, .l n, size.toNat⟩] ∧
    t = { u with can := t.can } ∧ (∀ k, k ≠ c.val → t.core k = u.core k))) ∧
  (∀ (s : State) (u : State) (c : Fin 256) (fresh : Bool) (rm : Fin 4), openSlot s c fresh = (u, true) → rm.val ≠ 3 →
    Completes (.setrm c fresh rm) s (fun t => (t.core c).bank.rmNext = some rm.val ∧ t = { u with can := t.can } ∧ (∀ k, k ≠ c.val →
    t.core k = u.core k))) ∧
  (∀ (s : State) (u : State) (c : Fin 256) (fresh : Bool) (n : BitVec 8), openSlot s c fresh = (u, true) → Completes (.idle c fresh n) s (fun t =>
    (t.core c).bank.stall = (u.core c).bank.stall + (n.toNat - 1) ∧ t = { u with can := t.can } ∧ (∀ k, k ≠ c.val → t.core k = u.core k))) ∧
  (∀ (s : State) (u : State) (c : Fin 256) (fresh : Bool) (cond : Fin 8) (d : Fin 32) (target : BitVec 12), openSlot s c fresh = (u, true) →
    cond.val ≠ 7 → (u.core c).bank.delay = false → (u.core c).bank.nearEnd = false → Completes (.br c fresh cond d target) s (fun t =>
    (t.core c).bank.branch = some (2, if brTaken (u.core c).bank cond ((u.core c).bank.dReg d).toInt then some target.toNat else none) ∧
    t = { u with can := t.can } ∧ (∀ k, k ≠ c.val → t.core k = u.core k))) ∧
  (∀ (s : State) (u : State) (c : Fin 256) (fresh : Bool) (lc rot : Bool) (body : BitVec 12) (count : BitVec 16), openSlot s c fresh = (u, true) →
    loopBad lc body.toNat (u.core c).bank = false → count ≠ 0 → Completes (.loop c fresh lc rot body count) s (fun t =>
    (t.core c).bank.loopOf lc = { count := count.toNat, start := (u.core c).bank.pc + 1, stop := (u.core c).bank.pc + body.toNat, rot := rot, active := true } ∧
    (t.core c).bank.nextPc = (u.core c).bank.nextPc ∧ t = { u with can := t.can } ∧ (∀ k, k ≠ c.val → t.core k = u.core k))) ∧
  (∀ (s : State) (u : State) (c : Fin 256) (fresh : Bool) (lc rot : Bool) (body : BitVec 12), openSlot s c fresh = (u, true) →
    loopBad lc body.toNat (u.core c).bank = false → Completes (.loop c fresh lc rot body 0) s (fun t =>
    (t.core c).bank.nextPc = (u.core c).bank.pc + body.toNat + 1 ∧ (t.core c).bank.loopOf lc = (u.core c).bank.loopOf lc ∧
    t = { u with can := t.can } ∧ (∀ k, k ≠ c.val → t.core k = u.core k))) ∧
  (∀ (s : State) (u : State) (c : Fin 256) (fresh : Bool) (lc rot : Bool) (body : BitVec 12) (d : Fin 32), openSlot s c fresh = (u, true) →
    loopBad lc body.toNat (u.core c).bank = false → bitsOf ((u.core c).bank.dReg d).toNat 15 0 = 0 →
    Completes (.loopr c fresh lc rot body d) s (fun t => (t.core c).bank.nextPc = (u.core c).bank.pc + body.toNat + 1 ∧ t = { u with can := t.can } ∧
    (∀ k, k ≠ c.val → t.core k = u.core k))) ∧
  (∀ (s : State) (u : State) (c : Fin 256) (fresh : Bool) (ch : Fin 4) (ps pl : Fin 16) (mem : Fin 4) (len : BitVec 16), openSlot s c fresh = (u, true) →
    mem.val ≠ 3 → len ≠ 0 → (∀ e ∈ (u.core c).chans, e.1 ≠ ch.val) → Completes (.get c fresh ch ps pl mem len) s (fun t =>
    (t.core c).chans.find? (fun e => e.1 == ch.val) = some (ch.val, ⟨(u.core c).live, true, mem, wordIx mem ((u.core c).bank.pReg pl), (u.core c).bank.pReg ps / 4 * 4, len.toNat⟩) ∧
    (t.core c).bank = (u.core c).bank ∧ t = { u with can := t.can } ∧ (∀ k, k ≠ c.val → t.core k = u.core k))) ∧
  (∀ (s : State) (u : State) (c : Fin 256) (fresh : Bool) (ch : Fin 4) (pd pl : Fin 16) (mem : Fin 4) (len : BitVec 16), openSlot s c fresh = (u, true) →
    mem.val ≠ 3 → len ≠ 0 → (∀ e ∈ (u.core c).chans, e.1 ≠ ch.val) → Completes (.put c fresh ch pd pl mem len) s (fun t =>
    (t.core c).chans.find? (fun e => e.1 == ch.val) = some (ch.val, ⟨(u.core c).live, false, mem, wordIx mem ((u.core c).bank.pReg pl), (u.core c).bank.pReg pd / 4 * 4, len.toNat⟩) ∧
    (t.core c).bank = (u.core c).bank ∧ t = { u with can := t.can } ∧ (∀ k, k ≠ c.val → t.core k = u.core k))) ∧
  (∀ (s : State) (u : State) (c : Fin 256) (fresh : Bool) (m : Fin 16), openSlot s c fresh = (u, true) →
    chansIdle (u.core c) (u.core c).live m = true → chansFailed (u.core c) (u.core c).live m = false → Completes (.wait c fresh m) s (fun t => t = u ∧
    t = { u with can := t.can } ∧ (∀ k, k ≠ c.val → t.core k = u.core k))) ∧
  (∀ (s : State) (u : State) (c : Fin 256) (fresh : Bool) (k : BitVec 8), openSlot s c fresh = (u, true) → (u.core c).bank.slot = none →
    (u.core c).shadow = false → (u.core c).chans = [] → (u.core c).failed = [] → (∀ x ∈ u.pac.ops, x.cls < 2) → u.out.core = none →
    Completes (.ask c fresh k) s (fun t => (t.core c).st = cAsking ∧ (t.core c).bank = {} ∧ (∀ n, n ≠ c.val → t.core n = u.core n) ∧ SameMem u t))

/-- Events of a core: transfers, grants, preemption, abandonment, programming, save and restore (R168, R170, R172, R174, R176, R177, 05_canter_cores.md). -/
def Obligations.CanterEvents : Prop :=
  (∀ (s : State) (c : Fin 256) (ch : Fin 4) (x : Xfer), (s.core c).chans = [(ch.val, x)] → x.get = true → (s.core c).bank.wait = .none →
    (∀ o ∈ s.pac.ops, o.cls < 2) → Completes (.getComplete c ch 0) s (fun t => (t.core c).chans = [] ∧ (t.core c).st = (s.core c).st ∧
    (∀ n, n ≠ c.val → t.core n = s.core n))) ∧
  (∀ (s : State) (c : Fin 256) (ch : Fin 4) (x : Xfer), (s.core c).chans = [(ch.val, x)] → x.get = false → (s.core c).bank.wait = .none →
    (∀ o ∈ s.pac.ops, o.cls < 2) → Completes (.putComplete c ch 0) s (fun t => (t.core c).chans = [] ∧ (t.core c).st = (s.core c).st ∧
    (∀ n, n ≠ c.val → t.core n = s.core n))) ∧
  (∀ (s : State) (c : Fin 256) (n : Nat) (o : Op), (s.core c).grant = some n → coreOp s c n = some o → s.flag Reg.CA_CTL (teamOf c) = true →
    (s.core c).st ≠ cHalted → badKernel o = false → Completes (.grantLoad c) s (fun t => (t.core c).st = cRunning ∧
    (t.core c).bank.slot = some o.slot ∧ (t.core c).bank.nextPc = o.kernel / 8 ∧ (t.core c).bank.dReg 0 = BitVec.ofNat 32 o.arg ∧
    (t.core c).bank.dReg 2 = BitVec.ofNat 32 o.due ∧ (t.core c).grant = none ∧ (∀ k, k ≠ c.val → t.core k = s.core k) ∧
    t = { s with can := t.can })) ∧
  (∀ (s : State) (c : Fin 256) (n : Nat) (o : Op), (s.core c).grant = some n → coreOp s c n = some o → s.flag Reg.CA_CTL (teamOf c) = false →
    Completes (.grantLoad c) s (fun t => opAt t o.slot = some { o with st := .ready, worker := none } ∧ Raised t blkCan 11 ∧ (t.core c).grant = none ∧
    (t.core c).st = (s.core c).st)) ∧
  (∀ (s : State) (c : Fin 256) (n : Nat) (o : Op), (s.core c).pgrant = some n → (s.core c).st = cRunning → (s.core c).bank.slot = none →
    coreOp s c n = some o → badKernel o = false → Completes (.preemptSwitch c) s (fun t => (t.core c).live = !(s.core c).live ∧
    (t.core c).shadow = true ∧ (t.core c).pgrant = none ∧ (t.core c).bank.slot = some o.slot ∧ (t.core c).st = cRunning ∧ Raised t blkCan 4 ∧
    SameMem s t)) ∧
  (∀ (s : State) (c : Fin 256) (n : Nat) (q : List Nat), (s.core c).drop = n :: q → (s.core c).bank.slot = some n → (s.core c).shadow = false →
    s.out.core = none → Completes (.abandon c) s (fun t => (t.core c).st = cAsking ∧ (t.core c).drop = q ∧ (t.core c).bank = {} ∧ Raised t blkCan 3 ∧
    t.regN (Reg.CA_TEAM_ABANDON (teamOf c)) = satNat 32 (s.regN (Reg.CA_TEAM_ABANDON (teamOf c)) + 1) ∧ t.pac = s.pac ∧ SameMem s t)) ∧
  (∀ (s : State) (team : Fin 4) (w : Fin 8192) (v : BitVec 32) (k : Nat), k < 64 → Completes (.caImemWrite team w v) s (fun t =>
    sget (fun _ => 0) (t.core (64 * team.val + k)).i w = v ∧ (∀ j, teamOf j ≠ team.val → t.core j = s.core j) ∧ SameMem s t)) ∧
  (∀ (s : State), s.flag Reg.CA_STAT 8 = true → s.mode = mStable → (∀ c, c < 256 → (s.core c).chans = []) → Completes (.saveDone) s (fun t =>
    t.flag Reg.CA_STAT 8 = false ∧ t.fld Reg.CA_STAT 7 4 = 15 ∧ Raised t blkCan 8 ∧ (∀ d, d < 4 → t.fld (Reg.PWR_PD_STAT (16 + d)) 2 0 = 0))) ∧
  (∀ (s : State), s.flag Reg.CA_STAT 8 = true → s.fld Reg.CA_STAT 7 4 ≠ 0 → Completes (.restoreDone) s (fun t => t.flag Reg.CA_STAT 8 = false ∧
    t.fld Reg.CA_STAT 7 4 = 0 ∧ Raised t blkCan 9 ∧ (∀ c, c < 256 → (t.core c).st ≠ cSaved ∨ (s.core c).prior = cSaved) ∧ SameMem s t))

/-- The active edge of a cell's flip-flop (R184, R185, R186, 06_fabric.md). -/
def Obligations.FabricCells : Prop :=
  (∀ (s : State) (c : Fin 9437184), padGsr s (c.val / 65536) = false → (cellWord s c).testBit 11 = true →
    tapRuns s (c.val / 65536) (stallBits s (c.val / 16) (5 * bitsOf (cellWord s c) 18 17) 5) = true →
    (s.net (.pin c.val 7) != (cellWord s c).testBit 13) = true → Completes (.cellFlipFlopEdge c false) s (fun t =>
    sget (fun _ => false) t.fab.ffs c.val = (cellWord s c).testBit 14 ∧ t = s.setFab { s.fab with ffs := t.fab.ffs } ∧ (∀ k, k ≠ c.val →
    sget (fun _ => false) t.fab.ffs k = sget (fun _ => false) s.fab.ffs k))) ∧
  (∀ (s : State) (c : Fin 9437184), padGsr s (c.val / 65536) = false → (cellWord s c).testBit 11 = true →
    tapRuns s (c.val / 65536) (stallBits s (c.val / 16) (5 * bitsOf (cellWord s c) 18 17) 5) = true →
    (s.net (.pin c.val 7) != (cellWord s c).testBit 13) = false → (s.net (.pin c.val 6) != (cellWord s c).testBit 12) = true →
    (cellWord s c).testBit 10 = false → Completes (.cellFlipFlopEdge c false) s (fun t => sget (fun _ => false) t.fab.ffs c.val = s.net (.o c.val) ∧
    t = s.setFab { s.fab with ffs := t.fab.ffs } ∧ (∀ k, k ≠ c.val → sget (fun _ => false) t.fab.ffs k = sget (fun _ => false) s.fab.ffs k))) ∧
  (∀ (s : State) (c : Fin 9437184), padGsr s (c.val / 65536) = false → (cellWord s c).testBit 11 = true →
    tapRuns s (c.val / 65536) (stallBits s (c.val / 16) (5 * bitsOf (cellWord s c) 18 17) 5) = true →
    (s.net (.pin c.val 7) != (cellWord s c).testBit 13) = false → (s.net (.pin c.val 6) != (cellWord s c).testBit 12) = true →
    (cellWord s c).testBit 10 = true → Completes (.cellFlipFlopEdge c false) s (fun t =>
    sget (fun _ => false) t.fab.ffs c.val = dMod (bitsOf (cellWord s c) 7 6) (s.net (.pin c.val 3)) ∧ t = s.setFab { s.fab with ffs := t.fab.ffs } ∧
    (∀ k, k ≠ c.val → sget (fun _ => false) t.fab.ffs k = sget (fun _ => false) s.fab.ffs k))) ∧
  (∀ (s : State) (c : Fin 9437184) (late : Bool), padGsr s (c.val / 65536) = false → (cellWord s c).testBit 11 = true →
    tapRuns s (c.val / 65536) (stallBits s (c.val / 16) (5 * bitsOf (cellWord s c) 18 17) 5) = true →
    (s.net (.pin c.val 7) != (cellWord s c).testBit 13) = false → (s.net (.pin c.val 6) != (cellWord s c).testBit 12) = false →
    late = false ∨ (cellWord s c).testBit 15 = false → Completes (.cellFlipFlopEdge c late) s (fun t =>
    sget (fun _ => false) t.fab.ffs c.val = sget (fun _ => false) s.fab.ffs c.val ∧ t = s.setFab { s.fab with ffs := t.fab.ffs } ∧ (∀ k, k ≠ c.val →
    sget (fun _ => false) t.fab.ffs k = sget (fun _ => false) s.fab.ffs k))) ∧
  (∀ (s : State) (c : Fin 9437184) (late : Bool), padGsr s (c.val / 65536) = true ∨ (cellWord s c).testBit 11 = false ∨ tapRuns s (c.val / 65536) (stallBits s (c.val / 16) (5 * bitsOf (cellWord s c) 18 17) 5) = false →
    Completes (.cellFlipFlopEdge c late) s (fun t => t = s))

/-- Global clock trees (R222, R223, 06_fabric.md). -/
def Obligations.FabricClocks : Prop :=
  (∀ (s : State) (k : Fin 48) (v : BitVec 32), s.flag (Reg.GCK_CFG k) 16 = false → v.getLsbD 16 = true → 5 ≤ v.toNat % 32 → v.toNat % 32 ≤ 23 →
    Completes (.gckCfgWrite k v) s (fun t => t.regN (Reg.GCK_CFG k) = Nat.land v.toNat 0x10F1F ∧ t.flag (Reg.GCK_STAT k) 0 = false ∧
    t.flag (Reg.GCK_STAT k) 1 = !s.flag (Reg.FSYN_CTL (v.toNat % 32)) 1 ∧ t.flag (Reg.GCK_STAT k) 2 = false ∧
    SameRegs s t (fun a => a = Reg.GCK_CFG k ∨ a = Reg.GCK_STAT k) ∧ SameMem s t)) ∧
  (∀ (s : State) (k : Fin 48) (v : BitVec 32), s.flag (Reg.GCK_CFG k) 16 = true → bitsOf v.toNat 11 0 ≠ s.fld (Reg.GCK_CFG k) 11 0 ∧
    v.toNat / 32 % 8 = 0 ∧ v.toNat < 2 ^ 17 ∧ v.toNat / 2 ^ 12 % 16 = 0 → Completes (.gckCfgWrite k v) s (fun t =>
    t = s.setFlag (Reg.GCK_STAT k) 2 true)) ∧
  (∀ (s : State) (k : Fin 48) (v : BitVec 32), v.getLsbD 16 = true → v.toNat % 32 < 5 ∨ 23 < v.toNat % 32 → Completes (.gckCfgWrite k v) s (fun t =>
    t = s.setFlag (Reg.GCK_STAT k) 2 true)) ∧
  (∀ (s : State) (k : Fin 48) (v : BitVec 32), s.flag (Reg.GCK_CFG k) 16 = false → v.getLsbD 16 = false → Completes (.gckCfgWrite k v) s (fun t =>
    t.regN (Reg.GCK_CFG k) = Nat.land v.toNat 0xF1F ∧ t.flag (Reg.GCK_STAT k) 0 = false ∧ t.flag (Reg.GCK_STAT k) 1 = false)) ∧
  (∀ (s : State) (k : Fin 48), s.flag (Reg.GCK_CFG k) 16 = true → s.flag (Reg.FSYN_CTL (gckSrc (s.regN (Reg.GCK_CFG k)))) 1 = true →
    Completes (.gckStart k) s (fun t => t.flag (Reg.GCK_STAT k) 0 = true ∧ t.flag (Reg.GCK_STAT k) 1 = false ∧ SameRegs s t (· = Reg.GCK_STAT k) ∧
    t = { s with regs := t.regs }))

/-- Block memories: writes, reads, GSR and the flip test (R206, R207, R209, R210, R226, R228, 06_fabric.md). -/
def Obligations.FabricBlockMemory : Prop :=
  (∀ (s : State) (m : Fin 9216), padGsr s (m.val / 64) = false → s.out.bist ≠ some (256 + m.val) → tapRuns s (m.val / 64) (bmTap s m false) = true →
    s.fab.flip = none → (bmPins s m false).en = true → bmCfg s m 12 1 ≠ 1 → bmCfg s m 0 3 ≠ 7 →
    Nat.land (bmPins s m false).we (weMask (bmCfg s m 0 3)) ≠ 0 → Completes (.bmPortAccess m true false) s (fun t =>
    bmRow t m (bmAct s m false false true).row = (bmRow s m (bmAct s m false false true).row &&& ~~~(bmAct s m false false true).mask) ||| ((bmAct s m false false true).val &&& (bmAct s m false false true).mask) ∧
    t.regs = s.regs ∧ t.mem = s.mem ∧ (∀ r, r / 1024 ≠ m.val →
    sget (fun _ => (0 : BitVec 72)) t.fab.rows r = sget (fun _ => (0 : BitVec 72)) s.fab.rows r))) ∧
  (∀ (s : State) (m : Fin 9216), padGsr s (m.val / 64) = false → s.out.bist ≠ some (256 + m.val) → tapRuns s (m.val / 64) (bmTap s m false) = true →
    s.fab.flip = none → (bmPins s m false).en = true → bmCfg s m 12 1 ≠ 1 → bmCfg s m 0 3 ≠ 7 →
    Nat.land (bmPins s m false).we (weMask (bmCfg s m 0 3)) = 0 → Completes (.bmPortAccess m true false) s (fun t =>
    (bmOf t m).a.arr = BitVec.ofNat 72 (pick (bmRow s m (bmAct s m false false true).row) (bmAct s m false false true).word) ∧
    t.fab.rows = s.fab.rows ∧ t.regs = s.regs ∧ t.mem = s.mem)) ∧
  (∀ (s : State) (m : Fin 9216), padGsr s (m.val / 64) = false → s.out.bist ≠ some (256 + m.val) → tapRuns s (m.val / 64) (bmTap s m false) = true →
    s.fab.flip = none → (bmPins s m false).en = true → bmCfg s m 12 1 = 1 → bmCfg s m 0 3 = 6 → (bmPins s m true).en = false →
    Nat.land (bmPins s m false).we 255 ≠ 0 → Completes (.bmPortAccess m true false) s (fun t =>
    bmRow t m ((bmPins s m false).addr / 64) = rowOf ((bmPins s m false).din % 2 ^ 64) (secCheck ((bmPins s m false).din % 2 ^ 64)) ∧
    t.regs = s.regs ∧ t.mem = s.mem ∧ (∀ r, r / 1024 ≠ m.val →
    sget (fun _ => (0 : BitVec 72)) t.fab.rows r = sget (fun _ => (0 : BitVec 72)) s.fab.rows r))) ∧
  (∀ (s : State) (m : Fin 9216), padGsr s (m.val / 64) = false → s.out.bist ≠ some (256 + m.val) → tapRuns s (m.val / 64) (bmTap s m false) = true →
    s.fab.flip = none → (bmPins s m false).en = true → bmCfg s m 12 1 = 1 → bmCfg s m 0 3 = 6 → (bmPins s m true).en = false →
    Nat.land (bmPins s m false).we 255 = 0 → Completes (.bmPortAccess m true false) s (fun t =>
    (bmOf t m).a.arr = BitVec.ofNat 72 (secDecode (rowData (bmRow s m ((bmPins s m false).addr / 64))) (rowCheck (bmRow s m ((bmPins s m false).addr / 64)))).data ∧
    t.fab.rows = s.fab.rows ∧ SameRegs s t (fun a => a = Reg.FAB_SBE (m / 64) ∨ a = Reg.FAB_DBE (m / 64)) ∧ SameMem s t)) ∧
  (∀ (s : State) (m : Fin 9216) (a b : Bool), padGsr s (m.val / 64) = true → Completes (.bmPortAccess m a b) s (fun t => t = s)) ∧
  (∀ (s : State) (v : BitVec 32), modeIn s testModes = false → Completes (.bmFlipArm v) s (fun t => t = s.raise blkCfg 31)) ∧
  (∀ (s : State) (v : BitVec 32), modeIn s testModes = true → v.getLsbD 31 = true → s.fld Reg.BM_FLIP_SEL 13 0 < 9216 →
    padState s (s.fld Reg.BM_FLIP_SEL 13 0 / 64) ≠ 2 → Completes (.bmFlipArm v) s (fun t =>
    t.fab.flip = some (s.fld Reg.BM_FLIP_SEL 13 0, rowOf (s.regN Reg.BM_FLIP_0 + s.regN Reg.BM_FLIP_1 * 2 ^ 32) (v.toNat % 256)) ∧
    t.regN Reg.BM_FLIP_2 = v.toNat % 256 + 2 ^ 31 ∧ SameRegs s t (· = Reg.BM_FLIP_2) ∧ SameMem s t)) ∧
  (∀ (s : State) (v : BitVec 32), modeIn s testModes = true → v.getLsbD 31 = false → Completes (.bmFlipArm v) s (fun t => t.fab.flip = none ∧
    t.fld Reg.BM_FLIP_2 7 0 = v.toNat % 256 ∧ t.flag Reg.BM_FLIP_2 31 = false ∧ SameRegs s t (· = Reg.BM_FLIP_2)))

/-- Arithmetic slices (R212, R214, R217, R226, 06_fabric.md). -/
def Obligations.FabricSlices : Prop :=
  (∀ (s : State) (n : Fin 13824) (south : BitVec 24), padGsr s (n.val / 96) = false → tapRuns s (n.val / 96) (sliceCfg s n 21 5) = true →
    slicePins s n 135 1 = 1 → Completes (.sliceClockEdge n south) s (fun t => sliceOf t n = {} ∧ t = { s with fab := t.fab } ∧ (∀ k, k ≠ n.val →
    sliceOf t k = sliceOf s k))) ∧
  (∀ (s : State) (n : Fin 13824) (south : BitVec 24), padGsr s (n.val / 96) = false → tapRuns s (n.val / 96) (sliceCfg s n 21 5) = true →
    slicePins s n 135 1 ≠ 1 → slicePins s n 134 1 ≠ 1 → Completes (.sliceClockEdge n south) s (fun t =>
    sliceOf t n = { sliceOf s n with ovf := false, clamp := false } ∧ t = { s with fab := t.fab } ∧ (∀ k, k ≠ n.val → sliceOf t k = sliceOf s k))) ∧
  (∀ (s : State) (n : Fin 13824) (south : BitVec 24), padGsr s (n.val / 96) = false → tapRuns s (n.val / 96) (sliceCfg s n 21 5) = true →
    slicePins s n 135 1 = 0 → slicePins s n 134 1 = 1 → sliceCfg s n 0 8 = 8 → Completes (.sliceClockEdge n south) s (fun t =>
    (sliceOf t n).sMul = sliceM (sliceT (sliceOf t n).sIn) ∧
    (sliceOf t n).acc = BitVec.ofInt 60 (sliceBase (sliceOf s n).sMul.fn (sliceOf s n).acc (if n.val % 16 = 15 then 0 else (sliceOf s (n.val + 1)).acc) (sliceCfg s n 5 2) + sliceAddend (sliceOf s n).sMul) ∧
    (sliceOf t n).sIn.a = BitVec.ofNat 24 (slicePins s n 0 24) ∧ SameMem s t ∧ (∀ k, k ≠ n.val → sliceOf t k = sliceOf s k))) ∧
  (∀ (s : State) (n : Fin 13824) (south : BitVec 24), padGsr s (n.val / 96) = true ∨ tapRuns s (n.val / 96) (sliceCfg s n 21 5) = false →
    Completes (.sliceClockEdge n south) s (fun t => t = s))

/-- Dictionary ports, and contention on a long line (R193, R204, R220, R221, R272, 06_fabric.md). -/
def Obligations.FabricPorts : Prop :=
  (∀ (s : State) (init : Fin 512) (wr : Bool) (ix : BitVec 16) (sub : BitVec 8) (w : Fin 16) (d : BitVec 32) (p : Nat), dpServer s ix.toNat = some p →
    padIsolated s p = true ∨ padGsr s p = true → Completes (.dpReq init wr ix sub w d) s (fun t => t = s.answer init 0x0A08 [])) ∧
  (∀ (s : State) (init : Fin 512) (wr : Bool) (ix : BitVec 16) (sub : BitVec 8) (w : Fin 16) (d : BitVec 32), dpServer s ix.toNat = none →
    Completes (.dpReq init wr ix sub w d) s (fun t => t = s)) ∧
  (∀ (s : State) (p : Fin 144) (d : BitVec 32) (code : BitVec 16) (r : DpReq), s.fab.dps = [(p.val, r)] → r.fmp = false →
    Completes (.dpAck p d code) s (fun t =>
    t = (s.setFab { s.fab with dps := [] }).answer r.init code.toNat (if r.wr ∨ code.toNat ≠ 0 then [] else [d.toNat]))) ∧
  (∀ (s : State) (p : Fin 144) (d : BitVec 32) (code : BitVec 16), s.fab.dps = [] → Completes (.dpAck p d code) s (fun t => t = s)) ∧
  (∀ (s : State) (p : Fin 144) (r : DpReq), s.fab.dps = [(p.val, r)] → r.fmp = false → Completes (.dpTimeout p) s (fun t =>
    t = (s.setFab { s.fab with dps := [] }).answer r.init 0x0A08 [])) ∧
  (∀ (s : State) (n : Fin 294912), padDriven s (n.val / 2048) = false ∨ s.fab.tripped.contains n.val = true ∨ (driversOf s n).length < 2 →
    Completes (.contentionSample n) s (fun t => t = s)) ∧
  (∀ (s : State) (n : Fin 294912), padDriven s (n.val / 2048) = true → s.fab.tripped.contains n.val = false → 2 ≤ (driversOf s n).length →
    Completes (.contentionSample n) s (fun t => t.regN Reg.FAR_CONT_CNT = satNat 32 (s.regN Reg.FAR_CONT_CNT + 1) ∧ Raised t blkCfg 22 ∧
    (s.flag (Reg.FAR_PAD_STAT (n.val / 2048)) 0 = false → Raised t blkCfg 21) ∧ SameMem s t))

/-- Commands of the loader: LOAD_FULL, LOAD_PARTIAL, EMPTY, ABORT, and the limits of a load (R240, R242, R243, R245, 07_loader.md). -/
def Obligations.LoaderCommands : Prop :=
  (∀ (s : State) (v : BitVec 32), v.getLsbD 0 = true → v.getLsbD 1 = false → v.getLsbD 2 = false → v.getLsbD 3 = false → extestOn s = false →
    ldrPhase s = 0 → modeIn s fullModes = true → Completes (.loadFull v) s (fun t => ldrPhase t = 1 ∧ t.flag Reg.CFG_STAT 3 = true ∧ t.ldr.kind = 1 ∧
    t.ldr.strap = false ∧ t.ldr.tgts = [] ∧ SameRegs s t (· = Reg.CFG_STAT) ∧ t = { s with regs := t.regs, ldr := t.ldr } ∧ SameMem s t)) ∧
  (∀ (s : State) (v : BitVec 32), v.getLsbD 0 = true → v.getLsbD 1 = false → v.getLsbD 2 = false → v.getLsbD 3 = false →
    extestOn s = true ∨ ldrPhase s ≠ 0 ∨ modeIn s fullModes = false → Completes (.loadFull v) s (fun t => t = s.raise blkCfg 6)) ∧
  (∀ (s : State) (v : BitVec 32), v.getLsbD 0 = false → v.getLsbD 1 = true → v.getLsbD 2 = false → v.getLsbD 3 = false → extestOn s = false →
    ldrPhase s = 0 → modeIn s partModes = true → Completes (.loadPartial v) s (fun t => ldrPhase t = 1 ∧ t.flag Reg.CFG_STAT 3 = true ∧
    t.ldr.kind = 2 ∧ t.ldr.strap = false ∧ SameRegs s t (· = Reg.CFG_STAT) ∧ t = { s with regs := t.regs, ldr := t.ldr } ∧ SameMem s t)) ∧
  (∀ (s : State) (v : BitVec 32), v.getLsbD 0 = false → v.getLsbD 1 = true → v.getLsbD 2 = false → v.getLsbD 3 = false →
    extestOn s = true ∨ ldrPhase s ≠ 0 ∨ modeIn s partModes = false → Completes (.loadPartial v) s (fun t => t = s.raise blkCfg 6)) ∧
  (∀ (s : State) (v : BitVec 32), v.getLsbD 0 = false → v.getLsbD 1 = false → v.getLsbD 2 = false → v.getLsbD 3 = true → extestOn s = false →
    ldrPhase s = 0 → modeIn s partModes = true → Completes (.empty v) s (fun t => ldrPhase t = 2 ∧ t.flag Reg.CFG_STAT 3 = true ∧ t.ldr.kind = 3 ∧
    t.ldr.strap = false ∧ t.ldr.tgts = (List.range 144).filter (fun p => s.flag (Reg.CFG_TGT (p / 32)) (p % 32)) ∧ SameRegs s t (· = Reg.CFG_STAT) ∧
    t = { s with regs := t.regs, ldr := t.ldr } ∧ SameMem s t)) ∧
  (∀ (s : State) (v : BitVec 32), v.getLsbD 0 = false → v.getLsbD 1 = false → v.getLsbD 2 = false → v.getLsbD 3 = true →
    extestOn s = true ∨ ldrPhase s ≠ 0 ∨ modeIn s partModes = false → Completes (.empty v) s (fun t => t = s.raise blkCfg 6)) ∧
  (∀ (s : State) (v : BitVec 32), v.getLsbD 2 = true → ldrPhase s = 0 → Completes (.abort v) s (fun t => t = s)) ∧
  (∀ (s : State) (v : BitVec 32), v.getLsbD 2 = true → ldrPhase s = 5 → Completes (.abort v) s (fun t => t = s)) ∧
  (∀ (s : State) (v : BitVec 32), v.getLsbD 2 = true → ldrPhase s = 1 ∨ ldrPhase s = 2 → s.ldr.kind = 3 → Completes (.abort v) s (fun t =>
    ldrPhase t = 0 ∧ t.ldr.kind = 0 ∧ SameRegs s t (· = Reg.CFG_STAT) ∧ t = { s with regs := t.regs, ldr := t.ldr } ∧ SameMem s t)) ∧
  (∀ (s : State) (v : BitVec 32), v.getLsbD 2 = true → ldrPhase s = 1 ∨ ldrPhase s = 2 → s.ldr.kind ≠ 3 → Completes (.abort v) s (fun t =>
    t.fld Reg.CFG_STAT 15 8 = 0x12 ∧ ldrPhase t = 0 ∧ t.flag Reg.CFG_STAT 3 = false ∧ Raised t blkCfg 1 ∧
    t.regN (Reg.CFG_ERR_CNT 0x12) = satNat 32 (s.regN (Reg.CFG_ERR_CNT 0x12) + 1) ∧ t.ldr.kind = 0 ∧ t.ldr.stream = none ∧ t.fab = s.fab ∧
    SameMem s t)) ∧
  (∀ (s : State) (v : BitVec 32), v.getLsbD 2 = true → ldrPhase s = 3 ∨ ldrPhase s = 4 → s.ldr.kind = 2 → (∀ p ∈ s.ldr.tgts, p < 144) →
    Completes (.abort v) s (fun t => t.fld Reg.CFG_STAT 15 8 = 0x12 ∧ ldrPhase t = 0 ∧ t.flag Reg.CFG_STAT 3 = false ∧ Raised t blkCfg 1 ∧
    t.regN (Reg.CFG_ERR_CNT 0x12) = satNat 32 (s.regN (Reg.CFG_ERR_CNT 0x12) + 1) ∧ t.ldr.kind = 0 ∧ t.ldr.stream = none ∧
    (∀ p ∈ s.ldr.tgts, padState t p = 2) ∧ (∀ f, f / 9216 ∈ s.ldr.tgts → frameOf t f = {}) ∧ SameMem s t)) ∧
  (∀ (s : State), ldrPhase s = 1 → Completes (.loadTimeout) s (fun t => t.fld Reg.CFG_STAT 15 8 = 0xD ∧ ldrPhase t = 0 ∧
    t.flag Reg.CFG_STAT 3 = false ∧ Raised t blkCfg 1 ∧ t.regN (Reg.CFG_ERR_CNT 0xD) = satNat 32 (s.regN (Reg.CFG_ERR_CNT 0xD) + 1) ∧ t.ldr.kind = 0 ∧
    t.ldr.stream = none ∧ t.fab = s.fab ∧ SameMem s t)) ∧
  (∀ (s : State), ldrPhase s = 0 ∨ ldrPhase s = 2 ∨ 5 ≤ ldrPhase s → Completes (.loadTimeout) s (fun t => t = s)) ∧
  (∀ (s : State), s.ldr.altDue = true → ldrPhase s = 0 → Completes (.altUsed) s (fun t => ldrPhase t = 1 ∧ t.ldr.kind = 1 ∧ t.ldr.strap = true ∧
    t.ldr.alt = true ∧ t.ldr.altDue = false ∧ Raised t blkCfg 5 ∧ t = { s with regs := t.regs, ldr := t.ldr } ∧ SameMem s t))

/-- The two passes of a load, isolation, and start-up (R243, R244, R245, R247, R248, R251, R252, R227, 07_loader.md). -/
def Obligations.LoaderPasses : Prop :=
  (∀ (s : State) (host : Option (List Byte)), ldrPhase s = 1 → s.ldr.strap = false → s.ldr.kind = 2 → s.flag Reg.CFG_CTL 0 = false →
    Completes (.pass1Done host) s (fun t =>
    (∀ code o, passOne s 2 (s.flag Reg.CFG_SRC_HI 31) (s.regN Reg.CFG_SRC_LO + s.fld Reg.CFG_SRC_HI 15 0 * 2 ^ 32) host = .inl (code, some o) →
    t.fld Reg.CFG_STAT 15 8 = code % 256 ∧ ldrPhase t = 0 ∧ t.regN Reg.CFG_ERR_AT = o % 2 ^ 32 ∧ Raised t blkCfg 1) ∧
    (∀ r h p, passOne s 2 (s.flag Reg.CFG_SRC_HI 31) (s.regN Reg.CFG_SRC_LO + s.fld Reg.CFG_SRC_HI 15 0 * 2 ^ 32) host = .inr (r, h, p) →
    ldrPhase t = 2 ∧ t.ldr.stream = some r ∧ t.ldr.tgts = p ∧ Raised t blkCfg 2 ∧ SameRegs s t (fun a => a = Reg.CFG_STAT ∨ evtOf blkCfg 2 a)) ∧
    t.fab = s.fab ∧ SameMem s t)) ∧
  (∀ (s : State) (host : Option (List Byte)), ldrPhase s = 1 → s.ldr.strap = false → s.ldr.kind = 1 → s.mode = mBlank →
    Completes (.pass1Done host) s (fun t =>
    (∀ code o, passOne s 1 (s.flag Reg.CFG_SRC_HI 31) (s.regN Reg.CFG_SRC_LO + s.fld Reg.CFG_SRC_HI 15 0 * 2 ^ 32) host = .inl (code, some o) →
    t.fld Reg.CFG_STAT 15 8 = code % 256 ∧ ldrPhase t = 0 ∧ Raised t blkCfg 1 ∧ t.fab = s.fab ∧ t.mode = mBlank) ∧
    (∀ r h p, passOne s 1 (s.flag Reg.CFG_SRC_HI 31) (s.regN Reg.CFG_SRC_LO + s.fld Reg.CFG_SRC_HI 15 0 * 2 ^ 32) host = .inr (r, h, p) →
    ldrPhase t = 3 ∧ t.ldr.stream = some r ∧ t.regN Reg.CFG_PROGRESS = 0 ∧ (∀ q, q < 144 → padState t q = 3 ∧ padIsolated t q = true ∧
    padGsr t q = true) ∧ ∀ f, f < 1327104 → frameOf t f = {}))) ∧
  (∀ (s : State), ldrPhase s = 2 → s.flag Reg.CFG_CTL 0 = false → s.ldr.kind = 3 → s.pac.tags = [] → s.fab.dps = [] → s.noc.win = [] →
    s.noc.winQ = [] → s.out.bist = none → s.out.core = none → (∀ p ∈ s.ldr.tgts, p < 144) → s.flag Reg.OUT_CAUSE 8 = false →
    s.flag Reg.OUT_CAUSE 9 = false → Completes (.prIsolate) s (fun t => ldrPhase t = 0 ∧ Raised t blkCfg 9 ∧ (∀ p ∈ s.ldr.tgts, padState t p = 2 ∧
    padIsolated t p = true ∧ padGsr t p = true ∧ padDriven t p = false) ∧ (∀ f, f / 9216 ∈ s.ldr.tgts → frameOf t f = {}) ∧
    (∀ f, f / 9216 ∉ s.ldr.tgts → frameOf t f = frameOf s f) ∧ SameMem s t)) ∧
  (∀ (s : State), ldrPhase s = 2 → s.flag Reg.CFG_CTL 0 = false → s.ldr.kind = 2 → s.pac.tags = [] → s.fab.dps = [] → s.noc.win = [] →
    s.noc.winQ = [] → s.out.bist = none → s.out.core = none → (∀ p ∈ s.ldr.tgts, p < 144) → s.flag Reg.OUT_CAUSE 8 = false →
    s.flag Reg.OUT_CAUSE 9 = false → Completes (.prIsolate) s (fun t => ldrPhase t = 3 ∧ t.regN Reg.CFG_PROGRESS = 0 ∧ Raised t blkCfg 9 ∧
    (∀ p ∈ s.ldr.tgts, padState t p = 3 ∧ padIsolated t p = true ∧ padGsr t p = true ∧ padDriven t p = false) ∧ (∀ f, f / 9216 ∈ s.ldr.tgts →
    frameOf t f = {}) ∧ (∀ f, f / 9216 ∉ s.ldr.tgts → frameOf t f = frameOf s f) ∧ SameMem s t)) ∧
  (∀ (s : State), ldrPhase s = 2 → s.flag Reg.CFG_CTL 0 = true → ptReached s.pt (s.regN Reg.CFG_PR_TICK) = false → Completes (.prIsolate) s (fun t =>
    t = s)) ∧
  (∀ (s : State) (r : Retained) (c : Chunk) (b : List Byte) (fs : List (Nat × BitVec 2048)) (host : Option (List Byte)), s.ldr.stream = some r →
    ldrPhase s = 3 ∨ ldrPhase s = 4 → r.phys = true → r.chunks[s.ldr.pos]? = some c →
    srcRead s 440 true r.src (host.map (fun l => List.replicate (chunkAt r s.ldr.pos) 0 ++ l)) (chunkAt r s.ldr.pos) c.clen = some b →
    chunkRecs b (s.ldr.pos + 1 == r.chunks.length) s.ldr.tgts [] = .inr fs → (fs.map (·.1)).Nodup → (∀ e ∈ fs, e.1 % 9216 < 6912) →
    Config.shake256 b 32 = c.digest → Completes (.pass2Chunk host) s (fun t => (∀ e ∈ fs, frameOf t e.1 = { data := e.2, check := frameCheck e.2 }) ∧
    t.ldr.pos = s.ldr.pos + 1 ∧ t.regN Reg.CFG_PROGRESS = satNat 32 (s.regN Reg.CFG_PROGRESS + fs.length) ∧
    ldrPhase t = (if s.ldr.pos + 1 = r.chunks.length then 5 else 4) ∧ SameMem s t)) ∧
  (∀ (s : State) (r : Retained) (c : Chunk) (host : Option (List Byte)), s.ldr.stream = some r → ldrPhase s = 3 ∨ ldrPhase s = 4 → s.ldr.kind = 2 →
    r.phys = true → r.chunks[s.ldr.pos]? = some c →
    srcRead s 440 true r.src (host.map (fun l => List.replicate (chunkAt r s.ldr.pos) 0 ++ l)) (chunkAt r s.ldr.pos) c.clen = none →
    Completes (.pass2Chunk host) s (fun t => t.fld Reg.CFG_STAT 15 8 = 0x11 ∧ ldrPhase t = 0 ∧ t.regN Reg.CFG_ERR_AT = chunkAt r s.ldr.pos % 2 ^ 32 ∧
    Raised t blkCfg 1 ∧ SameMem s t)) ∧
  (∀ (s : State), s.ldr.kind = 1 → s.ldr.step = 1 → s.mode = mConfigure → Completes (.startupClocks) s (fun t => t.ldr.step = 2 ∧ t.fab = s.fab ∧
    (∀ k, k < 48 → s.flag (Reg.GCK_CFG k) 16 = false → 5 ≤ fieldLe s.ldr.sets (152 + 4 * k) 4 % 32 → fieldLe s.ldr.sets (152 + 4 * k) 4 % 32 ≤ 23 →
    t.regN (Reg.GCK_CFG k) = Nat.land (fieldLe s.ldr.sets (152 + 4 * k) 4) 0x10F1F) ∧ SameMem s t)) ∧
  (∀ (s : State), s.ldr.kind = 2 → s.ldr.step = 1 → Completes (.driverRelease) s (fun t => (∀ p ∈ s.ldr.tgts, padDriven t p = true) ∧ t.ldr.step = 3 ∧
    t = { s with fab := t.fab, ldr := t.ldr } ∧ t.fab.frames = s.fab.frames)) ∧
  (∀ (s : State), s.ldr.kind = 1 → s.ldr.step = 2 → (∀ k, k < 48 → s.flag (Reg.GCK_CFG k) 16 = true → s.flag (Reg.GCK_STAT k) 0 = true) →
    Completes (.driverRelease) s (fun t => (∀ p ∈ s.ldr.tgts, padDriven t p = true) ∧ t.ldr.step = 3 ∧ t = { s with fab := t.fab, ldr := t.ldr } ∧
    t.fab.frames = s.fab.frames)) ∧
  (∀ (s : State), s.ldr.step = 3 → (∀ p ∈ s.ldr.tgts, p < 144) → Completes (.gsrRelease) s (fun t => (∀ p ∈ s.ldr.tgts, padGsr t p = false ∧
    padState t p = padState s p ∧ padIsolated t p = padIsolated s p) ∧ (∀ c, c / 65536 ∈ s.ldr.tgts →
    sget (fun _ => false) t.fab.ffs c = ((cellWord s c).testBit 11 && (cellWord s c).testBit 16)) ∧ t.ldr.step = 4 ∧ SameMem s t)) ∧
  (∀ (s : State) (r : Retained), s.ldr.stream = some r → s.ldr.step = 4 → s.ldr.kind = 2 → (∀ p ∈ s.ldr.tgts, p < 144) → s.ldr.tgts.Nodup →
    s.flag Reg.OUT_CAUSE 8 = false → s.flag Reg.OUT_CAUSE 9 = false → Completes (.loadDone) s (fun t => (∀ p ∈ s.ldr.tgts, padState t p = 1 ∧
    padIsolated t p = false ∧ t.fld (Reg.CFG_PAD_STAT p) 31 16 = satNat 16 (s.fld (Reg.CFG_PAD_STAT p) 31 16 + 1) ∧
    t.flag (Reg.FAR_PAD_STAT p) 3 = false) ∧ ldrPhase t = 0 ∧ t.flag Reg.CFG_STAT 4 = true ∧ t.fld Reg.CFG_STAT 15 8 = 0 ∧ Raised t blkCfg 0 ∧
    t.ldr.kept = s.ldr.kept ++ [r] ∧ t.mode = s.mode ∧ t.fab.frames = s.fab.frames ∧ SameMem s t)) ∧
  (∀ (s : State) (p : Fin 144) (r : Retained), s.ldr.stream = some r → s.ldr.step = 4 → s.ldr.kind = 1 → s.ldr.tgts = [p.val] → s.mode = mConfigure →
    s.flag Reg.OUT_CAUSE 8 = false → s.flag Reg.OUT_CAUSE 9 = false → s.flag Reg.FAR_STAT 0 = false → Completes (.loadDone) s (fun t =>
    padState t p = 1 ∧ padIsolated t p = false ∧ ldrPhase t = 0 ∧ t.mode = (if s.flag Reg.RELAY_CFG 0 = true ∧
    s.role = 0 then mShadow else mCommission) ∧ t.flag Reg.FAR_STAT 0 = true ∧ t.regN Reg.CFG_BUILD_LO = s.ldr.build % 2 ^ 32 ∧ Raised t blkCfg 0 ∧
    SameMem s t))

/-- The Farrier: slots, passes, rate, priority set and self-protection (R259, R260, R261, R263, R264, R265, R266, R274, 08_farrier.md). -/
def Obligations.FarrierPasses : Prop :=
  (∀ (s : State) (e : Fin 2) (prio : Bool), farRuns s = false → Completes (.frameSlot e prio) s (fun t => t = s)) ∧
  (∀ (s : State) (e : Fin 2), farRuns s = true → (farEng s e).base + 1 ≠ baseLen (farEng s e) →
    6912 ≤ (basePlace (farEng s e) e (farEng s e).base) % 9216 ∨ padLoaded s ((basePlace (farEng s e) e (farEng s e).base) / 9216) = false ∨ farCase (frameOf s (basePlace (farEng s e) e (farEng s e).base)) = .clean →
    Completes (.frameSlot e false) s (fun t => t.regN (seqReg e) = (s.regN (seqReg e) + 1) % 2 ^ 32 ∧ (farEng t e).base = (farEng s e).base + 1 ∧
    farEng t (1 - e.val) = farEng s (1 - e.val) ∧ t.fab = s.fab ∧ SameRegs s t (· = seqReg e) ∧ SameMem s t)) ∧
  (∀ (s : State) (e : Fin 2) (i : Nat), farRuns s = true → (farEng s e).base + 1 ≠ baseLen (farEng s e) →
    (basePlace (farEng s e) e (farEng s e).base) % 9216 < 6912 → padLoaded s ((basePlace (farEng s e) e (farEng s e).base) / 9216) = true →
    farCase (frameOf s (basePlace (farEng s e) e (farEng s e).base)) = .data i → (farEng s e).queue.length < 16 →
    inRepair (farEng s e) (basePlace (farEng s e) e (farEng s e).base) = false → s.flag Reg.FAR_CTL 1 = false → s.far.set = [] →
    s.flag Reg.OUT_CAUSE 8 = false → s.flag Reg.OUT_CAUSE 9 = false → Completes (.frameSlot e false) s (fun t =>
    (farEng t e).queue = (farEng s e).queue ++ [{ fa := (basePlace (farEng s e) e (farEng s e).base), word := farFix (frameOf s (basePlace (farEng s e) e (farEng s e).base)) (.data i), prio := false }] ∧
    t.regN (Reg.FAR_PAD_CORR ((basePlace (farEng s e) e (farEng s e).base) / 9216)) = satNat 32 (s.regN (Reg.FAR_PAD_CORR ((basePlace (farEng s e) e (farEng s e).base) / 9216)) + 1) ∧
    Raised t blkCfg 16 ∧ t.fab = s.fab ∧ t.flag (Reg.FAR_PAD_STAT ((basePlace (farEng s e) e (farEng s e).base) / 9216)) 2 = true ∧ SameMem s t)) ∧
  (∀ (s : State) (e : Fin 2) (p : Nat), farRuns s = true → (farEng s e).pads[(farEng s e).ppos / 6912]? = some p →
    (farEng s e).ppos + 1 ≠ 6912 * (farEng s e).pads.length →
    padLoaded s p = false ∨ farCase (frameOf s (p * 9216 + (farEng s e).ppos % 6912)) = .clean → Completes (.frameSlot e true) s (fun t =>
    (farEng t e).ppos = (farEng s e).ppos + 1 ∧ (farEng t e).base = (farEng s e).base ∧ t.fab = s.fab ∧ SameRegs s t (· = seqReg e) ∧ SameMem s t)) ∧
  (∀ (s : State) (e : Fin 2), farRuns s = false → Completes (.priorityPassStart e) s (fun t => t = s)) ∧
  (∀ (s : State) (e : Fin 2), farRuns s = true → (farEng s e).solo = false → (farEng s e).all = false → Completes (.priorityPassStart e) s (fun t =>
    (farEng t e).pads = s.far.set.filter (fun p => p % 2 == e.val && padLoaded s p) ∧ (farEng t e).ppos = 0 ∧ (farEng t e).base = (farEng s e).base ∧
    t = { s with far := t.far })) ∧
  (∀ (s : State) (e : Fin 2), farRuns s = true → (farEng s e).solo = true → (farEng s e).all = false → Completes (.priorityPassStart e) s (fun t =>
    (farEng t e).all = true ∧ (farEng t e).pads = s.far.set.filter (fun p => padLoaded s p) ∧
    (farEng t e).base = basePlace (farEng s e) e (farEng s e).base ∧ t = { s with far := t.far })) ∧
  (∀ (s : State), farRuns s = true → Completes (.farrierRateUpdate) s (fun t => 1 ≤ t.fld Reg.FAR_STAT 8 4 ∧ t.fld Reg.FAR_STAT 8 4 ≤ 16 ∧
    (s.mode = mStable → t.fld Reg.FAR_STAT 8 4 = 1) ∧ t.far.ups = 0 :: s.far.ups.take 86399 ∧
    SameRegs s t (fun a => a = Reg.FAR_LAMBDA ∨ a = Reg.FAR_STAT) ∧ t = { s with regs := t.regs, far := t.far } ∧ SameMem s t)) ∧
  (∀ (s : State), farRuns s = true → s.flag Reg.FAR_CTL 0 = true → s.mode ≠ mStable → s.mode ≠ mSafe → Completes (.farrierRateUpdate) s (fun t =>
    t.fld Reg.FAR_STAT 8 4 = (if s.fld Reg.FAR_RATE 4 0 = 0 ∨ 17 ≤ s.fld Reg.FAR_RATE 4 0 then 16 else s.fld Reg.FAR_RATE 4 0))) ∧
  (∀ (s : State) (v : BitVec 32), 8 < (((List.range 144).filter (fun p => if p < 128 then s.flag (Reg.FAR_PRIO (p / 32)) (p % 32) else v.toNat.testBit (p - 128))).filter (fun p => p % 2 == 0)).length ∨ 8 < (((List.range 144).filter (fun p => if p < 128 then s.flag (Reg.FAR_PRIO (p / 32)) (p % 32) else v.toNat.testBit (p - 128))).filter (fun p => p % 2 == 1)).length ∨ 2 ^ 16 ≤ v.toNat →
    Completes (.farPrioCommit v) s (fun t => t = s.raise blkCfg 26)) ∧
  (∀ (s : State) (v : BitVec 32), (((List.range 144).filter (fun p => if p < 128 then s.flag (Reg.FAR_PRIO (p / 32)) (p % 32) else v.toNat.testBit (p - 128))).filter (fun p => p % 2 == 0)).length ≤ 8 →
    (((List.range 144).filter (fun p => if p < 128 then s.flag (Reg.FAR_PRIO (p / 32)) (p % 32) else v.toNat.testBit (p - 128))).filter (fun p => p % 2 == 1)).length ≤ 8 →
    v.toNat < 2 ^ 16 → s.flag Reg.FAR_STAT 3 = false → s.flag Reg.OUT_CAUSE 8 = false → s.flag Reg.OUT_CAUSE 9 = false →
    s.flag Reg.OUT_CAUSE 10 = false → Completes (.farPrioCommit v) s (fun t =>
    t.far.set = ((List.range 144).filter (fun p => if p < 128 then s.flag (Reg.FAR_PRIO (p / 32)) (p % 32) else v.toNat.testBit (p - 128))) ∧
    t.regN (Reg.FAR_PRIO 4) = v.toNat ∧ (∀ p, p < 144 → t.flag (Reg.FAR_PAD_STAT p) 1 = t.far.set.contains p) ∧
    t = { s with regs := t.regs, far := t.far } ∧ SameMem s t)) ∧
  (∀ (s : State) (e : Fin 2), farRuns s = false → Completes (.peerStallCheck e) s (fun t => t = s)) ∧
  (∀ (s : State) (e : Fin 2), farRuns s = true → engOk s (1 - e.val) = true → (farEng s e).seen ≠ some (s.regN (seqReg (1 - e.val))) →
    Completes (.peerStallCheck e) s (fun t => (farEng t e).seen = some (s.regN (seqReg (1 - e.val))) ∧ t.regs = s.regs ∧
    t = { s with far := t.far })) ∧
  (∀ (s : State) (e : Fin 2), farRuns s = true → engOk s e = true → engOk s (1 - e.val) = true →
    (farEng s e).seen = some (s.regN (seqReg (1 - e.val))) → s.far.set = [] → Completes (.peerStallCheck e) s (fun t => (farEng t e).solo = true ∧
    engOk t (1 - e.val) = false ∧ t.flag Reg.FAR_STAT 3 = true ∧ t.flag Reg.OUT_STAT 7 = true ∧ Raised t blkCfg 24 ∧
    t.regN Reg.FAR_STALL_CNT = satNat 32 (s.regN Reg.FAR_STALL_CNT + 1) ∧ SameMem s t)) ∧
  (∀ (s : State) (v : BitVec 32), v.getLsbD 0 = true → farRuns s = true → engOk s 0 = true → engOk s 1 = false →
    Completes (.restorePeer v) s (fun t => t.far.restore = true ∧ t.far.b = { start := s.tim.cks } ∧ t.far.a = s.far.a ∧
    t = { s with far := t.far })) ∧
  (∀ (s : State) (v : BitVec 32), v.getLsbD 0 = false ∨ farRuns s = false ∨ engOk s 0 = engOk s 1 → Completes (.restorePeer v) s (fun t => t = s))

/-- The Farrier's repairs, its log and its test injection (R267, R269, R270, R275, R276, 08_farrier.md). -/
def Obligations.FarrierRepair : Prop :=
  (∀ (s : State) (e : Fin 2) (q : FarItem), (farEng s e).queue.find? (fun q => !q.written) = some q → Completes (.repairWrite e) s (fun t =>
    frameOf t q.fa = q.word ∧ (∀ f, f ≠ q.fa → frameOf t f = frameOf s f) ∧
    (farEng t e).queue = (farEng s e).queue.map (fun y => if y.fa = q.fa then { y with written := true } else y) ∧ t.regs = s.regs ∧ t.mem = s.mem)) ∧
  (∀ (s : State) (e : Fin 2), (∀ q ∈ (farEng s e).queue, q.written = true) → Completes (.repairWrite e) s (fun t => t = s)) ∧
  (∀ (s : State) (e : Fin 2) (q : FarItem), (farEng s e).queue.find? (·.written) = some q → farCase (frameOf s q.fa) = .clean → q.fetched = false →
    (farEng s e).lines = [] → s.flag Reg.OUT_CAUSE 8 = false → s.flag Reg.OUT_CAUSE 9 = false → Completes (.repairVerify e) s (fun t =>
    (farEng t e).queue = (farEng s e).queue.filter (fun y => y.fa != q.fa) ∧ t.flag (Reg.FAR_PAD_STAT (q.fa / 9216)) 2 = padRepair t (q.fa / 9216) ∧
    t.fab = s.fab ∧ SameRegs s t (· = Reg.FAR_PAD_STAT (q.fa / 9216)) ∧ SameMem s t)) ∧
  (∀ (s : State) (e : Fin 2) (q : FarItem), (farEng s e).queue.find? (·.written) = some q → farCase (frameOf s q.fa) = .clean → q.fetched = true →
    (farEng s e).lines = [] → s.flag Reg.OUT_CAUSE 8 = false → s.flag Reg.OUT_CAUSE 9 = false → Completes (.repairVerify e) s (fun t =>
    (farEng t e).queue = (farEng s e).queue.filter (fun y => y.fa != q.fa) ∧ t.regN Reg.FAR_REFETCH_CNT = satNat 32 (s.regN Reg.FAR_REFETCH_CNT + 1) ∧
    Raised t blkCfg 18 ∧ t.fab = s.fab ∧ SameMem s t)) ∧
  (∀ (s : State) (e : Fin 2) (q : FarItem) (i : Nat), (farEng s e).queue.find? (·.written) = some q → farCase (frameOf s q.fa) = .data i →
    q.fetched = false → s.flag Reg.FAR_CTL 1 = false →
    inRepair { farEng s e with queue := (farEng s e).queue.filter (fun y => y.fa != q.fa) } q.fa = false → (farEng s e).lines = [] →
    s.flag Reg.OUT_CAUSE 8 = false → s.flag Reg.OUT_CAUSE 9 = false → Completes (.repairVerify e) s (fun t =>
    (farEng t e).fetch = (farEng s e).fetch ++ [{ fa := q.fa, prio := q.prio }] ∧ t.flag (Reg.FAR_PAD_STAT (q.fa / 9216)) 4 = true ∧
    t.regN Reg.FAR_STUCK_CNT = satNat 32 (s.regN Reg.FAR_STUCK_CNT + 1) ∧ Raised t blkCfg 20 ∧ t.fab = s.fab ∧ SameMem s t)) ∧
  (∀ (s : State) (e : Fin 2) (f : Refetch) (q : List Refetch) (host : Option (List Byte)), (farEng s e).fetch = f :: q →
    keptOf s (f.fa / 9216) = none → s.flag Reg.FAR_CTL 2 = false → s.far.set = [] → s.flag Reg.OUT_CAUSE 8 = false → s.flag Reg.OUT_CAUSE 9 = false →
    Completes (.refetchChunk e host) s (fun t => t.flag (Reg.FAR_PAD_STAT (f.fa / 9216)) 3 = true ∧ Raised t blkCfg 19 ∧
    (∀ y ∈ (farEng t e).fetch, y.fa ≠ f.fa) ∧ t.fab = s.fab ∧ SameMem s t)) ∧
  (∀ (s : State) (e : Fin 2) (f : Refetch) (q : List Refetch) (r : Retained) (hi : Nat) (c : Chunk) (b : List Byte) (fs : List (Nat × BitVec 2048)) (fa : Nat) (d : BitVec 2048) (host : Option (List Byte)), (farEng s e).fetch = f :: q →
    keptOf s (f.fa / 9216) = some (r, f.pos.getD 0, hi) → r.phys = true → (farEng s e).queue.length < 16 → keyOk s r.slot r.hash = true →
    r.chunks[f.pos.getD 0]? = some c →
    srcRead s (441 + e) true r.src (host.map (fun l => List.replicate (chunkAt r (f.pos.getD 0)) 0 ++ l)) (chunkAt r (f.pos.getD 0)) c.clen = some b →
    chunkRecs b (f.pos.getD 0 + 1 == r.chunks.length) allPads [] = .inr fs → fs.find? (fun y => y.1 == f.fa) = some (fa, d) →
    Config.shake256 b 32 = c.digest → Completes (.refetchChunk e host) s (fun t =>
    (farEng t e).queue = (farEng s e).queue ++ [{ fa := f.fa, word := { data := d, check := frameCheck d }, fetched := true, prio := f.prio }] ∧
    (∀ y ∈ (farEng t e).fetch, y.fa ≠ f.fa) ∧ t = { s with far := t.far })) ∧
  (∀ (s : State) (init : Fin 512), init.val ≠ 474 → Completes (.farLogRead init) s (fun t => t.ans = ⟨init, 0, [(logWord s.far.log 3) % 2 ^ 32]⟩ ∧
    t.far.log.q = s.far.log.q.drop 1 ∧ t.flag Reg.FAR_LOG_STAT 0 = (s.far.log.q.drop 1).isEmpty ∧ SameRegs s t (· = Reg.FAR_LOG_STAT) ∧
    SameMem s t)) ∧
  (∀ (s : State) (init : Fin 512), init.val = 474 → Completes (.farLogRead init) s (fun t => t = s.answer init 0 [logWord s.far.log 3])) ∧
  (∀ (s : State) (v : BitVec 32), modeIn s testModes = false → Completes (.farInject v) s (fun t => t = s.raise blkCfg 31)) ∧
  (∀ (s : State) (v : BitVec 32), modeIn s testModes = true → v.getLsbD 31 = true → s.fld Reg.FAR_INJ_FA 20 0 < 1327104 →
    padLoaded s (s.fld Reg.FAR_INJ_FA 20 0 / 9216) = true → v.toNat % 4096 < 2048 → v.getLsbD 12 = false → s.fld Reg.FAR_INJ_FA 20 0 % 9216 < 6912 →
    Completes (.farInject v) s (fun t =>
    (frameOf t (s.fld Reg.FAR_INJ_FA 20 0)).data = (frameOf s (s.fld Reg.FAR_INJ_FA 20 0)).data ^^^ BitVec.ofNat 2048 (2 ^ (v.toNat % 4096)) ∧
    (frameOf t (s.fld Reg.FAR_INJ_FA 20 0)).check = (frameOf s (s.fld Reg.FAR_INJ_FA 20 0)).check ∧ (∀ f, f ≠ s.fld Reg.FAR_INJ_FA 20 0 →
    frameOf t f = frameOf s f) ∧ SameRegs s t (· = Reg.FAR_INJ_BIT) ∧ SameMem s t)) ∧
  (∀ (s : State) (v : BitVec 32), modeIn s testModes = true → v.getLsbD 31 = false → Completes (.farInject v) s (fun t =>
    t = s.setRegN Reg.FAR_INJ_BIT (v.toNat % 2 ^ 13)))

/-- The network: injection, Curbs, responses, links and monitors (R282, R283, R287, R289, R290, R291, 10_noc_scratchpad.md). -/
def Obligations.NocTransport : Prop :=
  (∀ (s : State) (init : Fin 512) (op : Fin 4) (addr : BitVec 48) (len : Fin 256) (tag : BitVec 8) (data : List Byte), initUsed init.val = true →
    init.val < 256 ∨ 400 ≤ init.val → init.val ≠ 474 → oneBlock addr.toNat (len.val + 1) = true → curbOf s init = none →
    (∀ x ∈ s.noc.paced, x.init ≠ init.val) → (∀ m, m < 32 → s.flag (Reg.NOC_MON_CFG m) 16 = false) →
    Completes (.nocInject init op addr len tag data) s (fun t =>
    t.noc.sent = s.noc.sent ++ [reqOf s init op addr.toNat (len.val + 1) tag.toNat (padTo (if op.val = 0 then 0 else len.val + 1) data)] ∧
    t = { s with noc := t.noc } ∧ t.noc = { s.noc with sent := t.noc.sent })) ∧
  (∀ (s : State) (init : Fin 512) (op : Fin 4) (addr : BitVec 48) (len : Fin 256) (tag : BitVec 8) (data : List Byte) (n : Nat), initUsed init.val = true →
    init.val < 256 ∨ 400 ≤ init.val → init.val ≠ 474 → oneBlock addr.toNat (len.val + 1) = true → curbOf s init = some n →
    len.val + 1 ≤ s.fld (Reg.NOC_CURB_LEVEL n) 23 0 → (∀ x ∈ s.noc.paced, x.init ≠ init.val) → (∀ m, m < 32 → s.flag (Reg.NOC_MON_CFG m) 16 = false) →
    Completes (.nocInject init op addr len tag data) s (fun t =>
    t.noc.sent = s.noc.sent ++ [reqOf s init op addr.toNat (len.val + 1) tag.toNat (padTo (if op.val = 0 then 0 else len.val + 1) data)] ∧
    t.regN (Reg.NOC_CURB_LEVEL n) = s.fld (Reg.NOC_CURB_LEVEL n) 23 0 - (len.val + 1) ∧ SameRegs s t (· = Reg.NOC_CURB_LEVEL n) ∧ SameMem s t)) ∧
  (∀ (s : State) (init : Fin 512) (op : Fin 4) (addr : BitVec 48) (len : Fin 256) (tag : BitVec 8) (data : List Byte) (n : Nat), initUsed init.val = true →
    init.val < 256 ∨ 400 ≤ init.val → init.val ≠ 474 → oneBlock addr.toNat (len.val + 1) = true → curbOf s init = some n →
    s.fld (Reg.NOC_CURB_LEVEL n) 23 0 < len.val + 1 → s.flag (Reg.NOC_CURB_RATE n) 31 = true → (∀ x ∈ s.noc.paced, x.init ≠ init.val) → (∀ m, m < 32 →
    s.flag (Reg.NOC_MON_CFG m) 16 = false) → Completes (.nocInject init op addr len tag data) s (fun t =>
    t.noc.paced = s.noc.paced ++ [reqOf s init op addr.toNat (len.val + 1) tag.toNat (padTo (if op.val = 0 then 0 else len.val + 1) data)] ∧
    t.noc.sent = s.noc.sent ∧ t = { s with noc := t.noc })) ∧
  (∀ (s : State) (init : Fin 512) (op : Fin 4) (addr : BitVec 48) (len : Fin 256) (tag : BitVec 8) (data : List Byte) (n : Nat), initUsed init.val = true →
    init.val < 256 ∨ 400 ≤ init.val → init.val ≠ 474 → oneBlock addr.toNat (len.val + 1) = true → curbOf s init = some n →
    s.fld (Reg.NOC_CURB_LEVEL n) 23 0 < len.val + 1 → s.flag (Reg.NOC_CURB_RATE n) 31 = false → (∀ x ∈ s.noc.paced, x.init ≠ init.val) →
    (∀ m, m < 32 → s.flag (Reg.NOC_MON_CFG m) 16 = false) → Completes (.nocInject init op addr len tag data) s (fun t => t.ans = ⟨init, 2, []⟩ ∧
    t.noc = s.noc ∧ t.regN (Reg.NOC_CURB_REFUSE n) = satNat 32 (s.regN (Reg.NOC_CURB_REFUSE n) + 1) ∧ Raised t blkNoc 1 ∧ SameMem s t)) ∧
  (∀ (s : State) (init : Fin 512) (op : Fin 4) (addr : BitVec 48) (len : Fin 256) (tag : BitVec 8) (data : List Byte), initUsed init.val = true →
    init.val < 256 ∨ 400 ≤ init.val → init.val ≠ 474 → oneBlock addr.toNat (len.val + 1) = false →
    Completes (.nocInject init op addr len tag data) s (fun t => t.ans = ⟨init, 1, []⟩ ∧ t.noc = s.noc ∧ Raised t blkNoc 0 ∧
    t.regN Reg.NOC_DECODE_CNT = satNat 32 (s.regN Reg.NOC_DECODE_CNT + 1) ∧ SameMem s t)) ∧
  (∀ (s : State) (n : Nat), s.noc.paced = [] → n < 64 → Completes (.curbRefill) s (fun t =>
    t.regN (Reg.NOC_CURB_LEVEL n) = Nat.min (s.fld (Reg.NOC_CURB_LEVEL n) 23 0 + s.fld (Reg.NOC_CURB_RATE n) 15 0) (Nat.max 256 (s.fld (Reg.NOC_CURB_BURST n) 23 0)) ∧
    SameRegs s t (fun a => ∃ k, k < 64 ∧ a = Reg.NOC_CURB_LEVEL k) ∧ SameMem s t)) ∧
  (∀ (s : State) (router : Fin 168) (dir : Fin 4), sget (fun _ => 0) s.noc.fails (4 * router.val + dir.val) ≠ 15 →
    Completes (.linkResend router dir true) s (fun t => sget (fun _ => 0) t.noc.fails (4 * router.val + dir.val) = 0 ∧
    t.regN (Reg.NOC_LINK_RETRY router) = satNat 32 (s.regN (Reg.NOC_LINK_RETRY router) + 1) ∧ Raised t blkNoc 2 ∧
    SameRegs s t (fun a => a = Reg.NOC_LINK_RETRY router ∨ evtOf blkNoc 2 a) ∧ SameMem s t)) ∧
  (∀ (s : State) (router : Fin 168) (dir : Fin 4), sget (fun _ => 0) s.noc.fails (4 * router.val + dir.val) = 15 → s.flag Reg.NOC_STAT 0 = false →
    Completes (.linkResend router dir false) s (fun t => t.regN Reg.NOC_STAT = 1 + 2 * router.val ∧ Raised t blkNoc 3 ∧ SameMem s t)) ∧
  (∀ (s : State) (init : Fin 512) (tag : BitVec 8) (x : NocResp) (q : List NocResp) (bad : Bool), s.noc.resps = x :: q → x.req.init = init.val →
    x.req.tag = tag.toNat → bad = false ∨ x.req.e2e = false → (∀ m, m < 32 → s.flag (Reg.NOC_MON_CFG m) 16 = false) →
    Completes (.nocResponse init tag bad) s (fun t => t.ans = ⟨init, x.status, x.data.map (·.toNat)⟩ ∧ t.noc = { s.noc with resps := q } ∧
    t.regs = s.regs ∧ t.mem = s.mem)) ∧
  (∀ (s : State) (init : Fin 512) (tag : BitVec 8) (x : NocResp) (q : List NocResp), s.noc.resps = x :: q → x.req.init = init.val →
    x.req.tag = tag.toNat → x.req.e2e = true → (∀ m, m < 32 → s.flag (Reg.NOC_MON_CFG m) 16 = false) →
    Completes (.nocResponse init tag true) s (fun t => t.ans = ⟨init, 7, []⟩ ∧ t.noc = { s.noc with resps := q } ∧ Raised t blkNoc 4 ∧
    t.regN Reg.NOC_E2E_CNT = satNat 32 (s.regN Reg.NOC_E2E_CNT + 1) ∧ SameMem s t)) ∧
  (∀ (s : State) (v : BitVec 32) (m a : Nat), m < 32 → v.getLsbD m = true →
    (a = Reg.NOC_MON_BYTES m ∨ a = Reg.NOC_MON_BYTES m + 4 ∨ a = Reg.NOC_MON_REQ m ∨ a = Reg.NOC_MON_REF m ∨ a = Reg.NOC_MON_LSUM m ∨ a = Reg.NOC_MON_LSUM m + 4 ∨ a = Reg.NOC_MON_LMAX m) →
    Completes (.nocMonClr v) s (fun t => t.regN a = 0 ∧ t = { s with regs := t.regs })) ∧
  (∀ (s : State) (v : BitVec 32), Completes (.nocMonClr v) s (fun t => SameRegs s t (fun a => ∃ m, m < 32 ∧ v.getLsbD m = true ∧
    (a = Reg.NOC_MON_BYTES m ∨ a = Reg.NOC_MON_BYTES m + 4 ∨ a = Reg.NOC_MON_REQ m ∨ a = Reg.NOC_MON_REF m ∨ a = Reg.NOC_MON_LSUM m ∨ a = Reg.NOC_MON_LSUM m + 4 ∨ a = Reg.NOC_MON_LMAX m)) ∧
    SameMem s t))

/-- The fabric's router port, and scratchpad banks (R293, R294, R295, R300, R302, 10_noc_scratchpad.md). -/
def Obligations.NocPortsBanks : Prop :=
  (∀ (s : State) (p : Fin 144) (kind : Fin 4) (tag : Fin 16) (addr : BitVec 48) (len : Fin 256) (cls : Fin 4) (kix : Fin 64) (await : Bool) (data : List Byte), padIsolated s p = true →
    Completes (.frpRequest p kind tag addr len cls kix await data) s (fun t => t = s)) ∧
  (∀ (s : State) (p : Fin 144) (kind : Fin 4) (tag : Fin 16) (addr : BitVec 48) (len : Fin 256) (cls : Fin 4) (kix : Fin 64) (await : Bool) (data : List Byte), padIsolated s p = false →
    frpCfg s p 5 1 ≠ 1 ∨ (frpCfg s p 7 4).testBit cls.val = false → (∀ m, m < 32 → s.flag (Reg.NOC_MON_CFG m) 16 = false) →
    Completes (.frpRequest p kind tag addr len cls kix await data) s (fun t => t.ans = ⟨256 + p.val, 2, []⟩ ∧ t.noc = s.noc ∧ SameMem s t)) ∧
  (∀ (s : State) (p : Fin 144) (kind : Fin 4) (tag : Fin 16) (addr : BitVec 48) (len : Fin 256) (cls : Fin 4) (kix : Fin 64) (await : Bool) (data : List Byte), padIsolated s p = false →
    frpCfg s p 5 1 = 1 → (frpCfg s p 7 4).testBit cls.val = true → oneBlock addr.toNat (len.val + 1) = true → curbOf s (256 + p) = none →
    (∀ x ∈ s.noc.paced, x.init ≠ 256 + p.val) → (∀ m, m < 32 → s.flag (Reg.NOC_MON_CFG m) 16 = false) →
    Completes (.frpRequest p kind tag addr len cls kix await data) s (fun t => ∃ r, t.noc.sent = s.noc.sent ++ [r] ∧ r.init = 256 + p.val ∧
    r.tag = tag.val ∧ r.op = kind.val ∧ r.addr = addr.toNat ∧ r.len = len.val + 1 ∧ r.kix = kix.val ∧ r.await = await ∧
    r.cls = (if inCtrl addr.toNat then 1 else cls.val) ∧ t = { s with noc := t.noc })) ∧
  (∀ (s : State) (p : Fin 144) (tag : BitVec 8) (status : Fin 8) (data : List Byte) (r : NocReq), padIsolated s p = false →
    s.noc.win = [(p.val, tag.toNat, r)] → s.noc.winQ = [] → r.tag < 256 → status.val = 0 → r.op = 0 →
    Completes (.frpTargetResponse p tag status data) s (fun t => t.noc.resps = s.noc.resps ++ [⟨r, 0, padTo r.len data⟩] ∧ t.noc.win = [] ∧
    t.regs = s.regs ∧ SameMem s t)) ∧
  (∀ (s : State) (p : Fin 144) (tag : BitVec 8) (status : Fin 8) (data : List Byte), padIsolated s p = false → s.noc.win = [] →
    s.noc.winOld.contains (p.val, tag.toNat) = true → Completes (.frpTargetResponse p tag status data) s (fun t => Raised t blkNoc 7 ∧
    (p.val, tag.toNat) ∉ t.noc.winOld ∧ t.noc.resps = s.noc.resps ∧ SameRegs s t (evtOf blkNoc 7) ∧ SameMem s t)) ∧
  (∀ (s : State) (p : Fin 144) (tag : Fin 4) (r : NocReq), s.noc.win = [(p.val, tag.val, r)] → s.noc.winQ = [] → r.tag < 256 →
    Completes (.tgtTimeout p tag) s (fun t => t.noc.resps = s.noc.resps ++ [⟨r, 3, []⟩] ∧ t.noc.win = [] ∧
    t.noc.winOld = s.noc.winOld ++ [(p.val, tag.val)] ∧ Raised t blkNoc 5 ∧ SameMem s t)) ∧
  (∀ (s : State) (b : Fin 64) (v : BitVec 32), (∀ e ∈ s.noc.spTo, e.1 ≠ b.val) → s.fld (Reg.SP_BANK_STAT b) 2 0 ≠ spCode (v.toNat % 4) →
    Completes (.spBankCfgWrite b v) s (fun t => t.regN (Reg.SP_BANK_CFG b) = Nat.land v.toNat 0x33 ∧
    t.noc.spTo.find? (fun e => e.1 == b.val) = some (b.val, spCode (v.toNat % 4)) ∧
    t.fld (Reg.SP_BANK_STAT b) 2 0 = (if spCode (v.toNat % 4) = 0 ∨ s.fld (Reg.SP_BANK_STAT b) 2 0 = 2 then 3 else 4) ∧
    SameRegs s t (fun a => a = Reg.SP_BANK_CFG b ∨ a = Reg.SP_BANK_STAT b) ∧ SameMem s t)) ∧
  (∀ (s : State) (b : Fin 64) (v : BitVec 32) (g : Nat), s.noc.spTo.find? (fun e => e.1 == b.val) = some (b.val, g) →
    Completes (.spBankCfgWrite b v) s (fun t => t.noc.spNext.find? (fun e => e.1 == b.val) = some (b.val, spCode (v.toNat % 4)) ∧
    t.noc.spTo = s.noc.spTo ∧ SameRegs s t (· = Reg.SP_BANK_CFG b) ∧ SameMem s t)) ∧
  (∀ (s : State) (b : Fin 64) (g : Nat), s.noc.spTo = [(b.val, g)] → g < 2 → (∀ e ∈ s.noc.spNext, e.1 ≠ b.val) →
    Completes (.spStateDone b) s (fun t => t.fld (Reg.SP_BANK_STAT b) 2 0 = g ∧ t.noc.spTo = [] ∧ Raised t blkNoc 11 ∧
    SameRegs s t (fun a => a = Reg.SP_BANK_STAT b ∨ evtOf blkNoc 11 a) ∧ SameMem s t)) ∧
  (∀ (s : State) (b : Fin 64) (x : Nat), s.noc.spTo = [(b.val, 2)] → (∀ e ∈ s.noc.spNext, e.1 ≠ b.val) → s.Canonical →
    Completes (.spStateDone b) s (fun t => t.fld (Reg.SP_BANK_STAT b) 2 0 = 2 ∧ Raised t blkNoc 11 ∧ t.byte x = if 0x10000000 + 2 ^ 20 * b.val ≤ x ∧
    x < 0x10000000 + 2 ^ 20 * (b.val + 1) then memDefault x else s.byte x)) ∧
  (∀ (s : State) (v : BitVec 32), modeIn s testModes = false → Completes (.spFlipArm v) s (fun t => t = s.raise blkNoc 31)) ∧
  (∀ (s : State) (v : BitVec 32), modeIn s testModes = true → v.getLsbD 31 = true → Completes (.spFlipArm v) s (fun t =>
    t.noc.flip = some (s.fld Reg.SP_FLIP_SEL 5 0, BitVec.ofNat 72 (s.regN Reg.SP_FLIP_0 + s.regN Reg.SP_FLIP_1 * 2 ^ 32 + v.toNat % 256 * 2 ^ 64)) ∧
    t.regN Reg.SP_FLIP_2 = v.toNat % 256 + 2 ^ 31 ∧ SameRegs s t (· = Reg.SP_FLIP_2) ∧ SameMem s t))

/-- A request at its target: reads, writes and atomics (R10, R283, R286, R289, R298, R299, R300, 10_noc_scratchpad.md). -/
def Obligations.NocTargets : Prop :=
  (∀ (s : State) (init : Fin 512) (tag : BitVec 9) (r : NocReq), dueReq s init.val tag.toNat 0 = some r → r.tag < 256 → inScratch r.addr = true →
    spOn s (spBank r.addr) = true → (∀ w ∈ wordsOf r.addr r.len, spErr s w = 0) → Completes (.nocRead init tag false 0 none) s (fun t =>
    t.noc.sent = s.noc.sent.erase r ∧ t.noc.resps = s.noc.resps ++ [⟨r, 0, s.stored r.addr r.len⟩] ∧ t.regs = s.regs ∧ t.mem = s.mem)) ∧
  (∀ (s : State) (init : Fin 512) (tag : BitVec 9) (r : NocReq), dueReq s init.val tag.toNat 0 = some r → r.tag < 256 → inScratch r.addr = true →
    spOn s (spBank r.addr) = false → Completes (.nocRead init tag false 0 none) s (fun t => t.noc.sent = s.noc.sent.erase r ∧
    t.noc.resps = s.noc.resps ++ [⟨r, 6, []⟩] ∧ Raised t blkNoc 10 ∧ SameMem s t)) ∧
  (∀ (s : State) (init : Fin 512) (tag : BitVec 9) (r : NocReq), dueReq s init.val tag.toNat 0 = some r → r.tag < 256 → mapped r.addr = false →
    init.val ≠ 436 → init.val ≠ 437 → Completes (.nocRead init tag false 0 none) s (fun t => t.noc.sent = s.noc.sent.erase r ∧
    t.noc.resps = s.noc.resps ++ [⟨r, 1, []⟩] ∧ Raised t blkNoc 0 ∧ SameMem s t)) ∧
  (∀ (s : State) (init : Fin 512) (tag : BitVec 9) (r : NocReq), dueReq s init.val tag.toNat 0 = some r → r.tag < 256 → r.e2e = true →
    Completes (.nocRead init tag true 0 none) s (fun t => t.noc.sent = s.noc.sent.erase r ∧ t.noc.resps = s.noc.resps ++ [⟨r, 7, []⟩] ∧
    Raised t blkNoc 4 ∧ SameMem s t)) ∧
  (∀ (s : State) (init : Fin 512) (tag : BitVec 9) (bad : Bool) (soft : Fin 3) (host : Option (List Byte)), (∀ x ∈ s.noc.sent, ¬(x.init = init.val ∧
    x.tag = tag.toNat ∧ x.op = 0)) → Completes (.nocRead init tag bad soft host) s (fun t => t = s)) ∧
  (∀ (s : State) (init : Fin 512) (tag : BitVec 9) (r : NocReq) (x : Nat), dueReq s init.val tag.toNat 1 = some r → r.tag < 256 →
    inScratch r.addr = true → spOn s (spBank r.addr) = true → s.shadowing = false → jOn s = false → s.noc.flip = none → r.init ≠ 472 →
    r.data.length = r.len → (spBank (r.addr + r.len - 1)) = spBank r.addr → mirHit s r.addr r.len = false → inMir s r.addr = false →
    Completes (.nocWrite init tag false) s (fun t => t.byte x = (if r.addr ≤ x ∧ x < r.addr + r.len then r.data.getD (x - r.addr) 0 else s.byte x) ∧
    t.noc.sent = s.noc.sent.erase r ∧ t.noc.resps = s.noc.resps ++ [⟨r, 0, []⟩])) ∧
  (∀ (s : State) (init : Fin 512) (tag : BitVec 9) (r : NocReq), dueReq s init.val tag.toNat 1 = some r → r.tag < 256 → mapped r.addr = false →
    init.val ≠ 436 → init.val ≠ 437 → Completes (.nocWrite init tag false) s (fun t => t.noc.sent = s.noc.sent.erase r ∧
    t.noc.resps = s.noc.resps ++ [⟨r, 1, []⟩] ∧ Raised t blkNoc 0 ∧ SameMem s t)) ∧
  (∀ (s : State) (init : Fin 512) (tag : BitVec 9) (r : NocReq), dueReq s init.val tag.toNat 2 = some r → r.tag < 256 → inScratch r.addr = true →
    spOn s (spBank r.addr) = true → s.shadowing = false → jOn s = false → s.noc.flip = none → r.init ≠ 472 → r.len = 4 ∨ r.len = 8 →
    r.addr % r.len = 0 → mirHit s r.addr r.len = false → inMir s r.addr = false → (∀ w ∈ wordsOf r.addr r.len, spErr s w = 0) →
    Completes (.nocAdd init tag false) s (fun t =>
    t.stored r.addr r.len = leBytes r.len ((leNat (s.stored r.addr r.len) + leNat r.data) % 2 ^ (8 * r.len)) ∧ (∀ x, x < r.addr ∨ r.addr + r.len ≤ x →
    t.byte x = s.byte x) ∧ t.noc.sent = s.noc.sent.erase r ∧ t.noc.resps = s.noc.resps ++ [⟨r, 0, s.stored r.addr r.len⟩])) ∧
  (∀ (s : State) (init : Fin 512) (tag : BitVec 9) (r : NocReq), dueReq s init.val tag.toNat 3 = some r → r.tag < 256 → inScratch r.addr = true →
    spOn s (spBank r.addr) = true → s.shadowing = false → jOn s = false → s.noc.flip = none → r.init ≠ 472 → r.len = 4 ∨ r.len = 8 →
    r.addr % r.len = 0 → mirHit s r.addr r.len = false → inMir s r.addr = false → (∀ w ∈ wordsOf r.addr r.len, spErr s w = 0) →
    r.data.length = r.len → Completes (.nocSwap init tag false) s (fun t => t.stored r.addr r.len = r.data ∧ (∀ x, x < r.addr ∨ r.addr + r.len ≤ x →
    t.byte x = s.byte x) ∧ t.noc.sent = s.noc.sent.erase r ∧ t.noc.resps = s.noc.resps ++ [⟨r, 0, s.stored r.addr r.len⟩])) ∧
  (∀ (s : State) (init : Fin 512) (tag : BitVec 9) (r : NocReq), dueReq s init.val tag.toNat 2 = some r → r.tag < 256 → mapped r.addr = true →
    inWin r.addr = false → inScratch r.addr = false → Completes (.nocAdd init tag false) s (fun t => t.noc.sent = s.noc.sent.erase r ∧
    t.noc.resps = s.noc.resps ++ [⟨r, 3, []⟩] ∧ SameMem s t))

/-- Local SDRAM channels: merging, refresh, initialisation, training, patrol, retirement (R312, R313, R315, R316, R317, R319, R320, R321, R322, R330, 11_memory.md). -/
def Obligations.SdramChannels : Prop :=
  (∀ (s : State) (h : Fin 4) (m : Merge) (q : List Merge) (i : Nat), (chanSt s h).merge = m :: q → ((∀ x ∈ q, x.line ≠ m.line)) →
    (lineChan s m.line).1 = h.val → lineErr s m.line = {} → (chanSt s h).flip = none → i < 64 → Completes (.mergeFlush h) s (fun t =>
    t.byte (64 * m.line + i) = (lastAt m.bytes i).getD (s.byte (64 * m.line + i)) ∧ (chanSt t h).merge = q ∧
    t.regN (Reg.MEM_MERGE_CNT h) = satNat 32 (s.regN (Reg.MEM_MERGE_CNT h) + 1) ∧ (∀ a, a / 64 ≠ m.line → t.byte a = s.byte a) ∧
    SameRegs s t (· = Reg.MEM_MERGE_CNT h))) ∧
  (∀ (s : State) (h : Fin 4), (chanSt s h).merge = [] → Completes (.mergeFlush h) s (fun t => t = s)) ∧
  (∀ (s : State) (h : Fin 4) (rank : Fin 2), chanReady s h = true → s.flag (Reg.MEM_STAT h) 2 = false →
    (if rank.val = 0 then (chanSt s h).post0 else (chanSt s h).post1) < 8 → Completes (.refreshDue h rank true) s (fun t =>
    (if rank.val = 0 then (chanSt t h).post0 else (chanSt t h).post1) = (if rank.val = 0 then (chanSt s h).post0 else (chanSt s h).post1) + 1 ∧
    SameRegs s t (· = Reg.MEM_STAT h) ∧ SameMem s t)) ∧
  (∀ (s : State) (h : Fin 4) (rank : Fin 2), chanReady s h = true → s.flag (Reg.MEM_STAT h) 2 = false →
    (if rank.val = 0 then (chanSt s h).post0 else (chanSt s h).post1) ≠ 0 → Completes (.refreshDue h rank false) s (fun t =>
    (if rank.val = 0 then (chanSt t h).post0 else (chanSt t h).post1) = 0 ∧
    t.regN (Reg.MEM_REF_BURST_CNT h) = satNat 32 (s.regN (Reg.MEM_REF_BURST_CNT h) + 1) ∧
    SameRegs s t (fun a => a = Reg.MEM_STAT h ∨ a = Reg.MEM_REF_BURST_CNT h) ∧ SameMem s t)) ∧
  (∀ (s : State) (h : Fin 4), modeIn s setupModes = true → s.fld (Reg.MEM_STAT h) 1 0 = 0 ∨ s.fld (Reg.MEM_STAT h) 1 0 = 3 →
    Completes (.init h) s (fun t => t = s.setFld (Reg.MEM_STAT h) 1 0 1)) ∧
  (∀ (s : State) (h : Fin 4), modeIn s setupModes = false → Completes (.init h) s (fun t => t = s.raise blkMem 11)) ∧
  (∀ (s : State) (h : Fin 4), s.fld (Reg.MEM_STAT h) 1 0 = 1 → Completes (.initDone h true) s (fun t => t.fld (Reg.MEM_STAT h) 1 0 = 2 ∧
    Raised t blkMem 4 ∧ SameRegs s t (fun a => a = Reg.MEM_STAT h ∨ evtOf blkMem 4 a) ∧ SameMem s t)) ∧
  (∀ (s : State) (h : Fin 4), s.fld (Reg.MEM_STAT h) 1 0 = 1 → Completes (.initDone h false) s (fun t => t.fld (Reg.MEM_STAT h) 1 0 = 3 ∧
    Raised t blkMem 5 ∧ SameMem s t)) ∧
  (∀ (s : State) (h : Fin 4) (ok : Bool), s.fld (Reg.MEM_STAT h) 1 0 ≠ 1 → Completes (.initDone h ok) s (fun t => t = s)) ∧
  (∀ (s : State) (h : Fin 4), chanReady s h = true → Completes (.retrainDue h) s (fun t => (chanSt t h).due = true ∧
    (chanSt t h).merge = (chanSt s h).merge ∧ t = { s with ext := t.ext })) ∧
  (∀ (s : State) (h : Fin 4), (chanSt s h).due = true → trainSlot s h = true → Completes (.trainingSlot h) s (fun t => (chanSt t h).due = false ∧
    t.regN (Reg.MEM_TRAIN_CNT h) = satNat 32 (s.regN (Reg.MEM_TRAIN_CNT h) + 1) ∧ SameRegs s t (· = Reg.MEM_TRAIN_CNT h) ∧ SameMem s t)) ∧
  (∀ (s : State) (h : Fin 4), (chanSt s h).due = true → Completes (.trainForced h) s (fun t => (chanSt t h).due = false ∧
    t.regN (Reg.MEM_TRAIN_FORCED_CNT h) = satNat 32 (s.regN (Reg.MEM_TRAIN_FORCED_CNT h) + 1) ∧ Raised t blkMem 6 ∧ SameMem s t)) ∧
  (∀ (s : State) (h : Fin 4), (chanSt s h).due = false → Completes (.trainForced h) s (fun t => t = s)) ∧
  (∀ (s : State) (h : Fin 4), s.fld (Reg.MEM_PATROL h) 15 0 ≠ 0 → chanReady s h = true →
    lineErr s (sysAddr s h (64 * (chanSt s h).patrol) / 64) = {} → Completes (.patrolRead h) s (fun t =>
    (chanSt t h).patrol = ((chanSt s h).patrol + 1) % (chanUse s / 64) ∧ t = { s with ext := t.ext } ∧ t.ext.errs = s.ext.errs)) ∧
  (∀ (s : State) (h : Fin 4), s.fld (Reg.MEM_PATROL h) 15 0 = 0 ∨ chanReady s h = false → Completes (.patrolRead h) s (fun t => t = s)) ∧
  (∀ (s : State) (h : Fin 4), (∀ n, n < 256 → s.flag (Reg.MEM_REMAP h n) 31 = false) → (chanSt s h).page = none → (chanSt s h).merge = [] →
    Completes (.retirePage h) s (fun t => (chanSt t h).page = some (s.fld (Reg.MEM_RETIRE_ARG h) 23 0, 0) ∧ t.flag (Reg.MEM_STAT h) 3 = true ∧
    SameRegs s t (· = Reg.MEM_STAT h) ∧ SameMem s t)) ∧
  (∀ (s : State) (h : Fin 4), (chanSt s h).page ≠ none → Completes (.retirePage h) s (fun t => t = s)) ∧
  (∀ (s : State) (h : Fin 4) (page n : Nat), (chanSt s h).page = some (page, n) → n < 256 → page < 2 ^ 24 → s.ext.errs = [] → (∀ c, c < 4 →
    (chanSt s c).flip = none) → s.fld (Reg.MEM_STAT h) 16 8 < 256 → Completes (.retirePageDone h) s (fun t =>
    t.regN (Reg.MEM_REMAP h n) = page + 2 ^ 31 ∧ (chanSt t h).page = none ∧ t.fld (Reg.MEM_STAT h) 16 8 = s.fld (Reg.MEM_STAT h) 16 8 + 1 ∧
    t.flag (Reg.MEM_STAT h) 3 = (chanSt s h).bank.isSome ∧ SameMem s t)) ∧
  (∀ (s : State) (h : Fin 4), s.flag (Reg.MEM_SPARE h) 0 = true → (chanSt s h).bank = none → (chanSt s h).retired = none →
    Completes (.retireBank h) s (fun t => (chanSt t h).bank = some (s.fld (Reg.MEM_RETIRE_ARG h) 6 0) ∧ t.flag (Reg.MEM_STAT h) 3 = true ∧
    t.regN (Reg.MEM_RETIRE_ROW h) = 0 ∧ SameMem s t)) ∧
  (∀ (s : State) (h : Fin 4), s.flag (Reg.MEM_SPARE h) 0 = false ∨ (chanSt s h).bank ≠ none ∨ (chanSt s h).retired ≠ none →
    Completes (.retireBank h) s (fun t => t = s.raise blkMem 11)) ∧
  (∀ (s : State) (h : Fin 4) (b : Nat), (chanSt s h).bank = some b → s.ext.errs = [] → Completes (.retireDone h) s (fun t =>
    (chanSt t h).bank = none ∧ (chanSt t h).retired = some b ∧ Raised t blkMem 9 ∧
    t.regN (Reg.MEM_RETIRE_ROW h) = 2 ^ (16 + s.fld (Reg.MEM_CFG 0) 2 2) ∧ SameMem s t)) ∧
  (∀ (s : State) (h : Fin 4) (v : BitVec 32), modeIn s testModes = false → Completes (.memFlipArm h v) s (fun t => t = s.raise blkMem 31)) ∧
  (∀ (s : State) (h : Fin 4) (v : BitVec 32), modeIn s testModes = true → v.getLsbD 31 = true → Completes (.memFlipArm h v) s (fun t =>
    (chanSt t h).flip ≠ none ∧ t.regN (Reg.MEM_FLIP_CTL h) = 2 ^ 31 ∧ SameRegs s t (· = Reg.MEM_FLIP_CTL h) ∧ SameMem s t)) ∧
  (∀ (s : State) (h : Fin 4) (v : BitVec 32), modeIn s testModes = true → v.getLsbD 31 = false → Completes (.memFlipArm h v) s (fun t =>
    (chanSt t h).flip = none ∧ t.flag (Reg.MEM_FLIP_CTL h) 31 = false ∧ SameRegs s t (· = Reg.MEM_FLIP_CTL h) ∧ SameMem s t)) ∧
  (∀ (s : State) (h : Fin 4) (init : Fin 512), init.val ≠ 474 → (chanSt s h).log.q ≠ [] → Completes (.memLogRead h init) s (fun t =>
    t.ans.who = init.val ∧ t.ans.status = 0 ∧ (chanSt t h).log.q = (chanSt s h).log.q.drop 1 ∧
    t.flag (Reg.MEM_LOG_STAT h) 0 = ((chanSt s h).log.q.drop 1).isEmpty ∧ SameRegs s t (· = Reg.MEM_LOG_STAT h) ∧ SameMem s t))

/-- CXL memory and the PCIe endpoint (R324, R325, R326, R327, R328, R329, R331, 11_memory.md). -/
def Obligations.CxlAndPcie : Prop :=
  (∀ (s : State) (d : Fin 4) (v : BitVec 32), decOn s d = false → v.getLsbD 0 = true →
    decBad (s.setRegN (Reg.CXL_DEC_CTL d) (Nat.land v.toNat 0x1F9 + bit (s.flag (Reg.CXL_DEC_CTL d) 2) * 4)) d = false →
    Completes (.cxlDecCommit d v) s (fun t => decOn t d = true ∧ t.flag (Reg.CXL_DEC_CTL d) 2 = false ∧ t.flag (Reg.CXL_DEC_CTL d) 0 = true ∧
    SameRegs s t (· = Reg.CXL_DEC_CTL d) ∧ SameMem s t)) ∧
  (∀ (s : State) (d : Fin 4) (v : BitVec 32), decOn s d = false → v.getLsbD 0 = true →
    decBad (s.setRegN (Reg.CXL_DEC_CTL d) (Nat.land v.toNat 0x1F9 + bit (s.flag (Reg.CXL_DEC_CTL d) 2) * 4)) d = true →
    Completes (.cxlDecCommit d v) s (fun t => decOn t d = false ∧ t.flag (Reg.CXL_DEC_CTL d) 2 = true ∧ Raised t blkMem 14 ∧ SameMem s t)) ∧
  (∀ (s : State) (d : Fin 4) (v : BitVec 32), decOn s d = true → v.getLsbD 0 = true → Completes (.cxlDecCommit d v) s (fun t => t = s)) ∧
  (∀ (s : State) (d : Fin 4) (v : BitVec 32), decOn s d = true → v.getLsbD 0 = false → Completes (.cxlDecCommit d v) s (fun t => decOn t d = false ∧
    t.flag (Reg.CXL_DEC_CTL d) 0 = false ∧ SameRegs s t (· = Reg.CXL_DEC_CTL d) ∧ SameMem s t)) ∧
  (∀ (s : State) (init : Fin 512) (tag : BitVec 8) (r : NocReq), cxlReq s init.val tag.toNat = some r → r.tag < 256 → r.op ≠ 1 →
    Completes (.cxlResponse init tag false) s (fun t => t.ext.cxl = s.ext.cxl.erase r ∧
    t.noc.resps = s.noc.resps ++ [⟨r, 0, s.viewBytes r.kix r.addr r.len⟩] ∧ t.regs = s.regs ∧ t.mem = s.mem)) ∧
  (∀ (s : State) (init : Fin 512) (tag : BitVec 8) (r : NocReq), cxlReq s init.val tag.toNat = some r → r.tag < 256 → r.op ≠ 1 →
    Completes (.cxlResponse init tag true) s (fun t => t.ext.cxl = s.ext.cxl.erase r ∧ t.noc.resps = s.noc.resps ++ [⟨r, 4, []⟩] ∧
    t.regN Reg.CXL_POISON_CNT = satNat 32 (s.regN Reg.CXL_POISON_CNT + 1) ∧ SameMem s t)) ∧
  (∀ (s : State) (init : Fin 512) (tag : BitVec 8) (r : NocReq) (x : Nat) (p : Bool), cxlReq s init.val tag.toNat = some r → r.tag < 256 → r.op = 1 →
    inHdm r.addr = true → s.shadowing = false → jOn s = false → r.data.length = r.len → r.addr % 512 + r.len ≤ 512 → impKind s r.addr r.kix = .plain →
    mirHit s r.addr r.len = false → r.addr ≤ x → x < r.addr + r.len → Completes (.cxlResponse init tag p) s (fun t =>
    t.byte x = r.data.getD (x - r.addr) 0 ∧ (∀ y, y < r.addr ∨ r.addr + r.len ≤ y → t.byte y = s.byte y) ∧
    t.noc.resps = s.noc.resps ++ [⟨r, 0, []⟩])) ∧
  (∀ (s : State) (init : Fin 512) (tag : BitVec 8) (p : Bool), s.ext.cxl = [] → Completes (.cxlResponse init tag p) s (fun t => t = s)) ∧
  (∀ (s : State) (init : Fin 512) (tag : BitVec 8) (r : NocReq), cxlReq s init.val tag.toNat = some r → r.tag < 256 →
    Completes (.cxlTimeout init tag) s (fun t => t.ext.cxl = s.ext.cxl.erase r ∧ t.noc.resps = s.noc.resps ++ [⟨r, 3, []⟩] ∧
    t.regN Reg.CXL_TO_CNT = satNat 32 (s.regN Reg.CXL_TO_CNT + 1) ∧ Raised t blkMem 13 ∧ SameMem s t)) ∧
  (∀ (s : State) (p : Fin 2) (w g : Fin 8), cxlPortOn s p = true → cxlUp s p = false → Completes (.cxlLinkChg p true w g) s (fun t =>
    cxlUp t p = true ∧ t.fld Reg.CXL_STAT (8 * p.val + 6) (8 * p.val) = 1 + 2 * w.val + 16 * g.val ∧ cxlUp t (1 - p.val) = cxlUp s (1 - p.val) ∧
    Raised t blkMem 12 ∧ t.ext = s.ext ∧ SameMem s t)) ∧
  (∀ (s : State) (p : Fin 2) (w g : Fin 8), cxlUp s p = true →
    (∀ r ∈ s.ext.cxl, ¬((decOf s r.addr).any (fun d => decPort s d r.addr == p.val) = true)) → Completes (.cxlLinkChg p false w g) s (fun t =>
    cxlUp t p = false ∧ Raised t blkMem 12 ∧ t.ext = s.ext ∧ t.noc = s.noc ∧ SameMem s t)) ∧
  (∀ (s : State) (p : Fin 2) (up : Bool) (w g : Fin 8), up = cxlUp s p ∨ (up = true ∧ cxlPortOn s p = false) →
    Completes (.cxlLinkChg p up w g) s (fun t => t = s)) ∧
  (∀ (s : State) (init : Fin 512) (ofs : Fin 1048576) (v : BitVec 32) (got : Option (BitVec 32)), Completes (.cxlEcamAccess init false ofs v got) s (fun t =>
    t = s.answer init 0 [(got.getD 0xFFFFFFFF#32).toNat])) ∧
  (∀ (s : State) (init : Fin 512) (ofs : Fin 1048576) (v : BitVec 32) (got : Option (BitVec 32)), Completes (.cxlEcamAccess init true ofs v got) s (fun t =>
    t = s.answer init 0 [])) ∧
  (∀ (s : State) (bar : Fin 3) (wr : Bool) (ofs : BitVec 26) (len : Fin 256) (tag : BitVec 8) (data : List Byte), s.flag Reg.PCIE_STAT 0 = false →
    Completes (.pcieInbound bar wr ofs len tag data) s (fun t => t = s)) ∧
  (∀ (s : State) (bar : Fin 3) (wr : Bool) (ofs : BitVec 26) (len : Fin 256) (tag : BitVec 8) (data : List Byte), s.flag Reg.PCIE_STAT 0 = true →
    s.mode = mStable → Completes (.pcieInbound bar wr ofs len tag data) s (fun t => t = s.answer 444 8 [])) ∧
  (∀ (s : State) (bar : Fin 3) (wr : Bool) (ofs : BitVec 26) (len : Fin 256) (tag : BitVec 8) (data : List Byte) (a : Nat), s.flag Reg.PCIE_STAT 0 = true →
    s.mode ≠ mStable →
    a = (if bar.val = 0 then 0x10000000 + ofs.toNat else if bar.val = 1 then blockBase blkPac + ofs.toNat % 2 ^ 24 else blockBase (s.fld Reg.PCIE_BAR4_TGT 3 0) + ofs.toNat % 2 ^ 24) →
    oneBlock a (len.val + 1) = true → curbOf s 444 = none → (∀ x ∈ s.noc.paced, x.init ≠ 444) → (∀ m, m < 32 →
    s.flag (Reg.NOC_MON_CFG m) 16 = false) → Completes (.pcieInbound bar wr ofs len tag data) s (fun t => ∃ r, t.noc.sent = s.noc.sent ++ [r] ∧
    r.init = 444 ∧ r.addr = a ∧ r.len = len.val + 1 ∧ r.op = (if wr then 1 else 0) ∧ r.tag = tag.toNat ∧ t = { s with noc := t.noc })) ∧
  (∀ (s : State) (w : Fin 32) (g : Fin 8), Completes (.pcieLinkChg true w g) s (fun t => t.regN Reg.PCIE_STAT = 1 + 2 * w.val + 64 * g.val ∧
    Raised t blkMem 15 ∧ SameRegs s t (fun a => a = Reg.PCIE_STAT ∨ evtOf blkMem 15 a) ∧ SameMem s t)) ∧
  (∀ (s : State) (w : Fin 32) (g : Fin 8), Completes (.pcieLinkChg false w g) s (fun t => t.regN Reg.PCIE_STAT = 0 ∧ Raised t blkMem 15 ∧
    SameRegs s t (fun a => a = Reg.PCIE_STAT ∨ evtOf blkMem 15 a) ∧ SameMem s t))

/-- Accesses of protected tiles: reads and their late check, the tile buffer, and nodes (R337, R341, R342, R343, R344, R345, R346, R347, 12_imp.md). -/
def Obligations.ImpAccess : Prop :=
  (∀ (s : State) (tile : BitVec 39) (q : NocReq) (r : Nat), s.imp.reads.find? (fun x => x.tile == tile.toNat) = some ⟨tile.toNat, some q⟩ →
    rngOf s (512 * tile.toNat) = some r → poisonHits s r tile.toNat = false → claimed s tile.toNat = false → pathKnown s r tile.toNat = true →
    tileCtr s r tile.toNat = 0 → q.tag < 256 → Completes (.impTileRead tile) s (fun t =>
    t.noc.resps = s.noc.resps ++ [⟨q, 0, List.replicate q.len 0⟩] ∧ t.imp.reads = s.imp.reads.erase ⟨tile.toNat, some q⟩ ∧ t.regs = s.regs ∧
    t.mem = s.mem)) ∧
  (∀ (s : State) (tile : BitVec 39) (q : NocReq) (r : Nat), s.imp.reads.find? (fun x => x.tile == tile.toNat) = some ⟨tile.toNat, some q⟩ →
    rngOf s (512 * tile.toNat) = some r → poisonHits s r tile.toNat = true → q.tag < 256 → Completes (.impTileRead tile) s (fun t =>
    t.noc.resps = s.noc.resps ++ [⟨q, 4, []⟩] ∧ t.imp.reads = s.imp.reads.erase ⟨tile.toNat, some q⟩ ∧ t.imp.checks = s.imp.checks ∧ SameMem s t)) ∧
  (∀ (s : State) (tile : BitVec 39) (q : NocReq) (r : Nat), s.imp.reads.find? (fun x => x.tile == tile.toNat) = some ⟨tile.toNat, some q⟩ →
    rngOf s (512 * tile.toNat) = some r → poisonHits s r tile.toNat = false → claimed s tile.toNat = true ∨ pathKnown s r tile.toNat = false →
    Completes (.impTileRead tile) s (fun t => t = s)) ∧
  (∀ (s : State) (tile : BitVec 39) (q : NocReq) (r : Nat), s.imp.reads.find? (fun x => x.tile == tile.toNat) = some ⟨tile.toNat, some q⟩ →
    rngOf s (512 * tile.toNat) = some r → poisonHits s r tile.toNat = false → claimed s tile.toNat = false → pathKnown s r tile.toNat = true →
    tileCtr s r tile.toNat ≠ 0 → q.tag < 256 → s.ext.errs = [] → isSpec q = true → Completes (.impTileRead tile) s (fun t =>
    t.noc.resps = s.noc.resps ++ [⟨q, 0, sliceReq (tilePlain s r tile.toNat) q⟩] ∧
    t.imp.checks = s.imp.checks ++ [{ tile := tile.toNat, req := some q, spec := isSpec q, good := tagGood s r tile.toNat, tagUe := false, data := tilePlain s r tile.toNat }] ∧
    t.regs = s.regs ∧ SameMem s t)) ∧
  (∀ (s : State) (tile : BitVec 39) (q : NocReq) (r : Nat), s.imp.reads.find? (fun x => x.tile == tile.toNat) = some ⟨tile.toNat, some q⟩ →
    rngOf s (512 * tile.toNat) = some r → poisonHits s r tile.toNat = false → claimed s tile.toNat = false → pathKnown s r tile.toNat = true →
    tileCtr s r tile.toNat ≠ 0 → q.tag < 256 → s.ext.errs = [] → isSpec q = false → Completes (.impTileRead tile) s (fun t =>
    t.noc.resps = s.noc.resps ∧
    t.imp.checks = s.imp.checks ++ [{ tile := tile.toNat, req := some q, spec := isSpec q, good := tagGood s r tile.toNat, tagUe := false, data := tilePlain s r tile.toNat }] ∧
    t.regs = s.regs ∧ SameMem s t)) ∧
  (∀ (s : State) (tile : BitVec 39) (c : ImpCheck) (q : NocReq), s.imp.checks.find? (fun x => x.tile == tile.toNat) = some c → c.req = some q →
    q.tag < 256 → c.tagUe = false → c.good = true → c.spec = false → Completes (.impTagCheck tile) s (fun t =>
    t.noc.resps = s.noc.resps ++ [⟨q, 0, sliceReq c.data q⟩] ∧ t.imp = { s.imp with checks := s.imp.checks.erase c } ∧ t.regs = s.regs ∧
    t.mem = s.mem)) ∧
  (∀ (s : State) (tile : BitVec 39) (c : ImpCheck) (q : NocReq), s.imp.checks.find? (fun x => x.tile == tile.toNat) = some c → c.req = some q →
    q.tag < 256 → c.tagUe = false → c.good = true → c.spec = true → Completes (.impTagCheck tile) s (fun t =>
    t = s.setImp { s.imp with checks := s.imp.checks.erase c })) ∧
  (∀ (s : State) (tile : BitVec 39) (c : ImpCheck) (q : NocReq), s.imp.checks.find? (fun x => x.tile == tile.toNat) = some c → c.req = some q →
    q.tag < 256 → c.tagUe = false → c.good = false → c.spec = false → Completes (.impTagCheck tile) s (fun t =>
    t.noc.resps = s.noc.resps ++ [⟨q, 4, []⟩] ∧ t.imp.checks = s.imp.checks.erase c ∧
    t.regN Reg.IMP_TAG_FAIL_CNT = satNat 32 (s.regN Reg.IMP_TAG_FAIL_CNT + 1) ∧ Raised t blkMem 16 ∧ SameMem s t)) ∧
  (∀ (s : State) (tile : BitVec 39) (c : ImpCheck) (q : NocReq), s.imp.checks.find? (fun x => x.tile == tile.toNat) = some c → c.req = some q →
    q.tag < 256 → c.good = false → c.tagUe = false → c.spec = true → s.pac.ops = [] → s.pac.lastRel = [] → Completes (.impTagCheck tile) s (fun t =>
    t.imp.checks = s.imp.checks.erase c ∧ Raised t blkMem 17 ∧ Raised t blkPac 16 ∧ t.noc.resps = s.noc.resps ∧
    t.regN Reg.IMP_TAG_FAIL_CNT = satNat 32 (s.regN Reg.IMP_TAG_FAIL_CNT + 1) ∧ Raised t blkMem 16 ∧ SameMem s t)) ∧
  (∀ (s : State) (tile : BitVec 39) (c : ImpCheck) (q : NocReq), s.imp.checks.find? (fun x => x.tile == tile.toNat) = some c → c.req = some q →
    q.tag < 256 → c.spec = false → Completes (.impCheckTimeout tile) s (fun t => t.noc.resps = s.noc.resps ++ [⟨q, 4, []⟩] ∧
    t.imp.checks = s.imp.checks.erase c ∧ t.regN Reg.IMP_TAG_FAIL_CNT = satNat 32 (s.regN Reg.IMP_TAG_FAIL_CNT + 1) ∧ Raised t blkMem 16 ∧
    SameMem s t)) ∧
  (∀ (s : State) (tile : BitVec 39), (∀ c ∈ s.imp.checks, c.tile ≠ tile.toNat) → Completes (.impCheckTimeout tile) s (fun t => t = s)) ∧
  (∀ (s : State) (init : Fin 512) (tag : BitVec 8) (q : NocReq) (r : Nat), s.imp.writes.find? (fun x => x.init == init.val && x.tag == tag.toNat) = some q →
    claimed s (q.addr / 512) = false → impKind s q.addr q.kix = .encInt r → poisonHits s r (q.addr / 512) = false →
    ctrFull s r (q.addr / 512) = false → tileBuf s (q.addr / 512) = none → s.imp.buf.length < 32 → Completes (.impTileWrite init tag) s (fun t =>
    t.imp.writes = s.imp.writes.erase q ∧
    t.imp.buf = s.imp.buf ++ [{ tile := q.addr / 512, kix := q.kix, bytes := putBytes [] (q.addr % 512) q.data, reqs := [q] }] ∧
    t.imp.reads = s.imp.reads ++ [⟨q.addr / 512, none⟩] ∧ t.noc = s.noc ∧ SameRegs s t (· = Reg.IMP_STAT) ∧ SameMem s t)) ∧
  (∀ (s : State) (init : Fin 512) (tag : BitVec 8) (q : NocReq) (r : Nat), s.imp.writes.find? (fun x => x.init == init.val && x.tag == tag.toNat) = some q →
    claimed s (q.addr / 512) = false → impKind s q.addr q.kix = .encInt r → poisonHits s r (q.addr / 512) = true → q.tag < 256 →
    Completes (.impTileWrite init tag) s (fun t => t.imp.writes = s.imp.writes.erase q ∧ t.imp.buf = s.imp.buf ∧
    t.noc.resps = s.noc.resps ++ [⟨q, 4, []⟩] ∧ Raised t blkMem 22 ∧ SameMem s t)) ∧
  (∀ (s : State) (tile : BitVec 39) (b : TileBuf) (r : Nat), tileBuf s tile.toNat = some b → bufReady b = true →
    impKind s (512 * tile.toNat) b.kix = .encInt r → rngOf s (512 * tile.toNat) = some r → ctrFull s r tile.toNat = false →
    (∀ p ∈ pathOf s r tile.toNat, (cachedNode s r p.1 p.2).isSome = true) → (∀ n ∈ s.imp.cache, n.ctrs.length = 8) → s.imp.flip = none →
    jOn s = false → Completes (.impTileWriteback tile) s (fun t => tileBuf t tile.toNat = none ∧ tileCtr t r tile.toNat = tileCtr s r tile.toNat + 1 ∧
    t.noc = s.noc)) ∧
  (∀ (s : State) (tile : BitVec 39), (∀ b ∈ s.imp.buf, b.tile = tile.toNat → bufReady b = false) → Completes (.impTileWriteback tile) s (fun t =>
    t = s)) ∧
  (∀ (s : State) (rng : Fin 16) (lv : Fin 12) (ix : BitVec 32), rngOn s rng = true → rngMode s rng = 2 → lv.val = 1 →
    ix.toNat < nodesAt (rngTiles s rng) (depthOf (rngTiles s rng)) 1 → cachedNode s rng 1 ix.toNat = none → s.imp.cache.length < 16384 →
    ix.toNat < 8 → (rootOf s rng).getD (ix.toNat % 8) 0 = 0 → Completes (.impNodeVerify rng lv ix) s (fun t =>
    t.imp.cache = s.imp.cache ++ [⟨rng, 1, ix.toNat, List.replicate 8 0, false⟩] ∧ t = { s with imp := t.imp })) ∧
  (∀ (s : State) (rng : Fin 16) (lv : Fin 12) (ix : BitVec 32), rngOn s rng = true → rngMode s rng = 2 → lv.val = 1 →
    ix.toNat < nodesAt (rngTiles s rng) (depthOf (rngTiles s rng)) 1 → cachedNode s rng 1 ix.toNat = none → s.imp.cache.length < 16384 →
    ix.toNat < 8 → (rootOf s rng).getD (ix.toNat % 8) 0 ≠ 0 → s.ext.errs = [] → Completes (.impNodeVerify rng lv ix) s (fun t =>
    (nodeGood s rng (nodeAddr s rng 1 ix.toNat) ((rootOf s rng).getD (ix.toNat % 8) 0) = true →
    t.imp.cache = s.imp.cache ++ [⟨rng, 1, ix.toNat, parseCtrs (physBytes s (nodeAddr s rng 1 ix.toNat) 56), false⟩] ∧ t.regs = s.regs ∧
    SameMem s t) ∧ (nodeGood s rng (nodeAddr s rng 1 ix.toNat) ((rootOf s rng).getD (ix.toNat % 8) 0) = false →
    nodeGood s rng (twinAddr s rng 1 ix.toNat) ((rootOf s rng).getD (ix.toNat % 8) 0) = false → t.flag (Reg.IMP_RNG_CTL rng) 12 = true ∧
    Raised t blkMem 19 ∧ t.imp.cache = s.imp.cache ∧ SameMem s t))) ∧
  (∀ (s : State) (rng : Fin 16) (lv : Fin 12) (ix : BitVec 32), rngOn s rng = false ∨ rngMode s rng ≠ 2 ∨ lv.val = 0 →
    Completes (.impNodeVerify rng lv ix) s (fun t => t = s))

/-- Ranges, reseeding and the key roll (R335, R348, R349, R350, R351, R352, R354, R355, 12_imp.md). -/
def Obligations.ImpRanges : Prop :=
  (∀ (s : State) (n : Fin 16) (v : BitVec 32), modeIn s rngModes = false → Completes (.impRangeCommit n v) s (fun t => t = s.raise blkMem 31)) ∧
  (∀ (s : State) (n : Fin 16) (v : BitVec 32), modeIn s rngModes = true → rngOn s n = true → Completes (.impRangeCommit n v) s (fun t => t = s)) ∧
  (∀ (s : State) (n : Fin 16) (v : BitVec 32), modeIn s rngModes = true → rngOn s n = false →
    commitBad (rngShow ((s.setFld (Reg.IMP_RNG_CTL n) 7 0 v.toNat).setFlag (Reg.IMP_RNG_CTL n) 8 true) n) n = true →
    Completes (.impRangeCommit n v) s (fun t => rngOn t n = false ∧ t.flag (Reg.IMP_RNG_CTL n) 10 = true ∧
    t.fld (Reg.IMP_RNG_CTL n) 7 0 = v.toNat % 256 ∧ Raised t blkMem 26 ∧ t.imp = s.imp ∧ SameMem s t)) ∧
  (∀ (s : State) (n : Fin 16) (v : BitVec 32), modeIn s rngModes = true → rngOn s n = false →
    commitBad (rngShow ((s.setFld (Reg.IMP_RNG_CTL n) 7 0 v.toNat).setFlag (Reg.IMP_RNG_CTL n) 8 true) n) n = false → v.toNat % 4 = 2 →
    Completes (.impRangeCommit n v) s (fun t => rngOn t n = true ∧ t.flag (Reg.IMP_RNG_CTL n) 10 = false ∧ rootOf t n = List.replicate 8 0 ∧
    (nodeKey t n).length = 32 ∧ t.imp.cache = s.imp.cache ∧ SameMem s t)) ∧
  (∀ (s : State) (n : Fin 16) (v : BitVec 32), modeIn s rngModes = true → rngOn s n = false →
    commitBad (rngShow ((s.setFld (Reg.IMP_RNG_CTL n) 7 0 v.toNat).setFlag (Reg.IMP_RNG_CTL n) 8 true) n) n = false → v.toNat % 4 ≠ 2 →
    Completes (.impRangeCommit n v) s (fun t => rngOn t n = true ∧ t.flag (Reg.IMP_RNG_CTL n) 10 = false ∧ t.imp = s.imp ∧ SameMem s t)) ∧
  (∀ (s : State) (n : Fin 16) (v : BitVec 32), modeIn s rngModes = false → Completes (.impRangeDecommit n v) s (fun t => t = s.raise blkMem 31)) ∧
  (∀ (s : State) (n : Fin 16) (v : BitVec 32), modeIn s rngModes = true → s.flag (Reg.IMP_RNG_CTL n) 11 = true →
    Completes (.impRangeDecommit n v) s (fun t => t = s)) ∧
  (∀ (s : State) (n : Fin 16) (v : BitVec 32), modeIn s rngModes = true → s.flag (Reg.IMP_RNG_CTL n) 11 = false → rngOn s n = true → s.imp.buf = [] →
    s.imp.cache = [] → Completes (.impRangeDecommit n v) s (fun t => rngOn t n = false ∧ t.fld (Reg.IMP_RNG_CTL n) 7 0 = v.toNat % 256 ∧
    t.flag (Reg.IMP_RNG_CTL n) 8 = false ∧ t.flag (Reg.IMP_RNG_CTL n) 12 = false ∧ (∀ e ∈ t.imp.roots, e.1 ≠ n.val) ∧
    (∀ e ∈ t.imp.nkeys, e.1 ≠ n.val) ∧ SameMem s t)) ∧
  (∀ (s : State) (v : BitVec 32), s.flag (Reg.IMP_POISON (v.toNat % 64)) 31 = false → Completes (.impReseed v) s (fun t => t = s)) ∧
  (∀ (s : State) (v : BitVec 32), s.flag (Reg.IMP_POISON (v.toNat % 64)) 31 = true → s.fld (Reg.IMP_POISON (v.toNat % 64)) 23 20 = 0 →
    Completes (.impReseed v) s (fun t => rootOf t (s.fld (Reg.IMP_POISON (v.toNat % 64)) 27 24) = List.replicate 8 0 ∧
    t.flag (Reg.IMP_POISON (v.toNat % 64)) 31 = false ∧ (∀ n ∈ t.imp.cache, n.rng ≠ s.fld (Reg.IMP_POISON (v.toNat % 64)) 27 24) ∧
    Raised t blkMem 21 ∧ SameMem s t)) ∧
  (∀ (s : State) (v : BitVec 32) (r k : Nat), r = bitsOf v.toNat 11 8 → k = bitsOf v.toNat 21 16 → s.fld Reg.IMP_ROLL_STAT 1 0 = 0 →
    [mShadow, mStable, mBackup, mBoot, mBlank].contains s.mode = false → rngOn s r = true → rngMode s r ≠ 0 → slotLoaded s k = true →
    s.fld (Reg.IMP_RNG_CTL r) 7 2 ≠ k → Completes (.rollStart v) s (fun t => t.regN Reg.IMP_ROLL_STAT = 1 + r * 2 ^ 8 + k * 2 ^ 16 ∧
    t.flag (Reg.IMP_RNG_CTL r) 11 = true ∧ rollB t = rngBase s r ∧ t.imp = s.imp ∧ SameMem s t)) ∧
  (∀ (s : State) (v : BitVec 32), s.fld Reg.IMP_ROLL_STAT 1 0 ≠ 0 ∨ s.mode = mStable ∨ rngOn s (bitsOf v.toNat 11 8) = false ∨ slotLoaded s (bitsOf v.toNat 21 16) = false →
    Completes (.rollStart v) s (fun t => t = s.setFlag Reg.IMP_ROLL_STAT 2 true)) ∧
  (∀ (s : State), s.fld Reg.IMP_ROLL_STAT 1 0 = 1 → Completes (.rollPause) s (fun t => t = s.setFld Reg.IMP_ROLL_STAT 1 0 2)) ∧
  (∀ (s : State), s.fld Reg.IMP_ROLL_STAT 1 0 ≠ 1 → Completes (.rollPause) s (fun t => t = s)) ∧
  (∀ (s : State), s.fld Reg.IMP_ROLL_STAT 1 0 = 2 → Completes (.rollResume) s (fun t => t = s.setFld Reg.IMP_ROLL_STAT 1 0 1)) ∧
  (∀ (s : State), s.fld Reg.IMP_ROLL_STAT 1 0 = 1 → s.imp.claim = false → tileIdle s (rollB s / 512) = true → curbOf s 473 = none →
    Completes (.rollClaim) s (fun t => t = s.setImp { s.imp with claim := true })) ∧
  (∀ (s : State) (n : Nat), s.fld Reg.IMP_ROLL_STAT 1 0 = 1 → s.imp.claim = false → tileIdle s (rollB s / 512) = true → curbOf s 473 = some n →
    1040 ≤ s.fld (Reg.NOC_CURB_LEVEL n) 23 0 → Completes (.rollClaim) s (fun t => t.imp.claim = true ∧
    t.regN (Reg.NOC_CURB_LEVEL n) = s.fld (Reg.NOC_CURB_LEVEL n) 23 0 - 1040 ∧ SameRegs s t (· = Reg.NOC_CURB_LEVEL n) ∧ SameMem s t)) ∧
  (∀ (s : State), s.fld Reg.IMP_ROLL_STAT 1 0 ≠ 1 ∨ s.imp.claim = true ∨ tileIdle s (rollB s / 512) = false → Completes (.rollClaim) s (fun t =>
    t = s)) ∧
  (∀ (s : State), s.imp.claim = true → rngMode s (s.fld Reg.IMP_ROLL_STAT 11 8) = 1 →
    rollB s + 512 < rngBase s (s.fld Reg.IMP_ROLL_STAT 11 8) + rngSize s (s.fld Reg.IMP_ROLL_STAT 11 8) →
    rngBase s (s.fld Reg.IMP_ROLL_STAT 11 8) + rngSize s (s.fld Reg.IMP_ROLL_STAT 11 8) ≤ 2 ^ 48 → Completes (.rollTileDone) s (fun t =>
    rollB t = rollB s + 512 ∧ t.imp.claim = false ∧ t.fld Reg.IMP_ROLL_STAT 1 0 = s.fld Reg.IMP_ROLL_STAT 1 0 ∧ t.imp.buf = s.imp.buf)) ∧
  (∀ (s : State), s.imp.claim = true → rngMode s (s.fld Reg.IMP_ROLL_STAT 11 8) = 1 →
    rngBase s (s.fld Reg.IMP_ROLL_STAT 11 8) + rngSize s (s.fld Reg.IMP_ROLL_STAT 11 8) ≤ rollB s + 512 → Completes (.rollTileDone) s (fun t =>
    t.fld (Reg.IMP_RNG_CTL (s.fld Reg.IMP_ROLL_STAT 11 8)) 7 2 = s.fld Reg.IMP_ROLL_STAT 21 16 ∧
    t.flag (Reg.IMP_RNG_CTL (s.fld Reg.IMP_ROLL_STAT 11 8)) 11 = false ∧ t.fld Reg.IMP_ROLL_STAT 1 0 = 0 ∧ Raised t blkMem 24 ∧
    t.imp.claim = false)) ∧
  (∀ (s : State), s.imp.claim = true → Completes (.rollRetry) s (fun t => t.imp = { s.imp with claim := false } ∧
    t.regN Reg.IMP_ROLL_RETRY_CNT = satNat 32 (s.regN Reg.IMP_ROLL_RETRY_CNT + 1) ∧ Raised t blkMem 25 ∧
    SameRegs s t (fun a => a = Reg.IMP_ROLL_RETRY_CNT ∨ evtOf blkMem 25 a) ∧ SameMem s t)) ∧
  (∀ (s : State), s.imp.claim = false → Completes (.rollRetry) s (fun t => t = s)) ∧
  (∀ (s : State) (v : BitVec 32), modeIn s testModes = false → Completes (.impTagFlipArm v) s (fun t => t = s.raise blkMem 31)) ∧
  (∀ (s : State) (v : BitVec 32), modeIn s testModes = true → v.getLsbD 31 = true → Completes (.impTagFlipArm v) s (fun t =>
    t.imp = { s.imp with flip := some (v.toNat % 16) } ∧ t.regN Reg.IMP_TAG_FLIP = v.toNat % 16 + 2 ^ 31 ∧ SameRegs s t (· = Reg.IMP_TAG_FLIP) ∧
    SameMem s t)) ∧
  (∀ (s : State) (init : Fin 512), init.val ≠ 474 → s.imp.log.q ≠ [] → Completes (.impLogRead init) s (fun t => t.ans.who = init.val ∧
    t.ans.status = 0 ∧ t.imp.log.q = s.imp.log.q.drop 1 ∧ t.flag Reg.IMP_LOG_STAT 0 = (s.imp.log.q.drop 1).isEmpty ∧
    SameRegs s t (· = Reg.IMP_LOG_STAT) ∧ SameMem s t))

/-- Lanes, equalisers and JESD204C links (R361, R375, R377, R378, R379, R388, R390, 13_lanes_ethernet_tether.md). -/
def Obligations.LanesAndConverters : Prop :=
  (∀ (s : State) (lane : Fin 128), Completes (.laneSignalDetect lane) s (fun t =>
    t = s.setFld (laneStat lane) 2 0 (3 + 4 * bit (!s.flag (laneCtl lane) 2)))) ∧
  (∀ (s : State) (lane : Fin 128), Completes (.laneLos lane) s (fun t => t.fld (laneStat lane) 2 0 = 0 ∧ Raised t blkLane 0 ∧
    (s.flag (laneStat lane) 1 = true → Raised t blkLane 1) ∧ SameRegs s t (fun a => a = laneStat lane ∨ evtOf blkLane 0 a ∨ evtOf blkLane 1 a) ∧
    SameMem s t)) ∧
  (∀ (s : State) (lane : Fin 128), s.flag (laneStat lane) 0 = true → s.flag (laneCtl lane) 2 = false → laneHold s = false →
    Completes (.eqAdaptStep lane) s (fun t => t.flag (laneStat lane) 2 = true ∧ SameRegs s t (· = laneStat lane) ∧ (∀ i, i / 32 ≠ lane.val →
    sget (fun _ => (0 : BitVec 16)) t.lane.eq i = sget (fun _ => (0 : BitVec 16)) s.lane.eq i) ∧ SameMem s t)) ∧
  (∀ (s : State) (lane : Fin 128), s.flag (laneStat lane) 0 = false ∨ s.flag (laneCtl lane) 2 = true ∨ laneHold s = true →
    Completes (.eqAdaptStep lane) s (fun t => t = s)) ∧
  (∀ (s : State) (lane : Fin 128), s.flag (laneTest lane) 5 = true → 1 ≤ s.fld (laneTest lane) 4 2 →
    s.fld (laneTest lane) 4 2 ≤ (if lane.val < 64 then 4 else 3) → Completes (.prbsError lane) s (fun t =>
    t.regN (lanePrbs lane) = satNat 32 (s.regN (lanePrbs lane) + 1) ∧ Raised t blkLane 18 ∧
    SameRegs s t (fun a => a = lanePrbs lane ∨ evtOf blkLane 18 a) ∧ SameMem s t)) ∧
  (∀ (s : State) (lane : Fin 128), s.flag (laneTest lane) 5 = false → Completes (.prbsError lane) s (fun t => t = s)) ∧
  (∀ (s : State) (g : Fin 24), s.flag (if g.val < 8 then Reg.LR_OCT_STAT g else Reg.CV_QUAD_STAT (g.val - 8)) 0 = true →
    Completes (.pllUnlock g) s (fun t => t.flag (if g.val < 8 then Reg.LR_OCT_STAT g else Reg.CV_QUAD_STAT (g.val - 8)) 0 = false ∧
    Raised t blkLane 2 ∧ SameRegs s t (fun a => a = (if g.val < 8 then Reg.LR_OCT_STAT g else Reg.CV_QUAD_STAT (g.val - 8)) ∨ evtOf blkLane 2 a) ∧
    SameMem s t)) ∧
  (∀ (s : State) (g : Fin 24), s.flag (if g.val < 8 then Reg.LR_OCT_STAT g else Reg.CV_QUAD_STAT (g.val - 8)) 0 = false →
    Completes (.pllUnlock g) s (fun t => t = s)) ∧
  (∀ (s : State) (f : Bool) (ofs : BitVec 18), f ≠ s.flag Reg.JSYSREF_CFG 1 → Completes (.jsysrefEdge f ofs) s (fun t => t = s)) ∧
  (∀ (s : State) (f : Bool) (ofs : BitVec 18), f = s.flag Reg.JSYSREF_CFG 1 → s.flag Reg.JSYSREF_CFG 0 = false →
    Completes (.jsysrefEdge f ofs) s (fun t => t.regN Reg.JSYSREF_CNT = satNat 32 (s.regN Reg.JSYSREF_CNT + 1) ∧ t.lane.adopt = 0 ∧ (∀ q, q < 16 →
    s.lane.adopt.testBit q = false → t.reg (Reg.JL_LEMC_OFS q) = s.reg (Reg.JL_LEMC_OFS q)) ∧ (∀ q, q < 16 → s.lane.adopt.testBit q = true →
    Raised t blkLane 10) ∧ SameMem s t)) ∧
  (∀ (s : State) (v : BitVec 32), v.getLsbD 0 = true → (∀ q, q < 16 → jlOn s q = false) → Completes (.adopt v) s (fun t =>
    t.lane.adopt = Nat.lor s.lane.adopt (v.toNat / 2 ^ 16) ∧ t = { s with lane := t.lane })) ∧
  (∀ (s : State) (v : BitVec 32) (q : Nat), v.getLsbD 0 = true → q < 16 → v.getLsbD (16 + q) = true → jlOn s q = true →
    Completes (.adopt v) s (fun t => Raised t blkLane 11 ∧ (t.lane.adopt.testBit q = s.lane.adopt.testBit q) ∧ SameRegs s t (evtOf blkLane 11) ∧
    SameMem s t)) ∧
  (∀ (s : State) (v : BitVec 32), v.getLsbD 0 = false → Completes (.adopt v) s (fun t => t = s)) ∧
  (∀ (s : State) (q : Fin 16) (b : CvBuf) (r : List CvBuf), bufsOf s q = b :: r → b.data = none → b.failed = false →
    Completes (.jesdFetchDone q 0) s (fun t => bufsOf t q = { b with data := some (s.viewBytes (kixOf s (456 + q)) b.addr b.len) } :: r ∧
    t = { s with lane := t.lane })) ∧
  (∀ (s : State) (q : Fin 16) (b : CvBuf) (r : List CvBuf) (k : Fin 8), bufsOf s q = b :: r → b.data = none → b.failed = false → k.val ≠ 0 →
    Completes (.jesdFetchDone q k) s (fun t => bufsOf t q = { b with failed := true } :: r ∧ t = { s with lane := t.lane })) ∧
  (∀ (s : State) (q : Fin 16) (b : CvBuf) (r : List CvBuf) (d : List Byte), bufsOf s q = b :: r →
    ptReached s.pt ((b.rel + s.fld (Reg.JL_MEM_LEAD q) 15 0) % 2 ^ 32) = true → b.data = some d → s.gOpen = true → laneHold s = false →
    Completes (.jesdBufferStart q) s (fun t => bufsOf t q = r ∧ t.ans = ⟨4112 + q.val, 0, d.map (·.toNat)⟩ ∧ t.regs = s.regs ∧ t.mem = s.mem)) ∧
  (∀ (s : State) (q : Fin 16) (b : CvBuf) (r : List CvBuf) (d : List Byte), bufsOf s q = b :: r →
    ptReached s.pt ((b.rel + s.fld (Reg.JL_MEM_LEAD q) 15 0) % 2 ^ 32) = true → b.data = some d → s.gOpen = false ∨ laneHold s = true →
    Completes (.jesdBufferStart q) s (fun t => bufsOf t q = r ∧ t.ans = ⟨4112 + q.val, 0, List.replicate d.length 0⟩ ∧ t.regs = s.regs ∧
    t.mem = s.mem)) ∧
  (∀ (s : State) (q : Fin 16) (b : CvBuf) (r : List CvBuf), bufsOf s q = b :: r →
    ptReached s.pt ((b.rel + s.fld (Reg.JL_MEM_LEAD q) 15 0) % 2 ^ 32) = true → b.data = none → Completes (.jesdBufferStart q) s (fun t =>
    bufsOf t q = r ∧ t.regN (Reg.JL_UNDERRUN_CNT q) = satNat 32 (s.regN (Reg.JL_UNDERRUN_CNT q) + 1) ∧ Raised t blkLane 8 ∧ SameMem s t)) ∧
  (∀ (s : State) (q : Fin 16), bufsOf s q = [] → Completes (.jesdBufferStart q) s (fun t => t = s)) ∧
  (∀ (s : State) (q : Fin 16), s.flag (Reg.JL_RX_CFG q) 0 = true → jlLanes (s.regN (Reg.JL_RX_CFG q)) ≠ 0 → Completes (.embLock q) s (fun t =>
    t.flag (Reg.JL_STAT q) 1 = true ∧ t.fld (Reg.JL_STAT q) 5 2 = 2 ^ jlLanes (s.regN (Reg.JL_RX_CFG q)) - 1 ∧
    t.fld (Reg.JL_STAT q) 9 6 = 2 ^ jlLanes (s.regN (Reg.JL_RX_CFG q)) - 1 ∧ SameRegs s t (· = Reg.JL_STAT q) ∧ SameMem s t)) ∧
  (∀ (s : State) (q : Fin 16), s.flag (Reg.JL_STAT q) 1 = true → Completes (.jlLinkDown q) s (fun t => t.fld (Reg.JL_STAT q) 9 1 = 0 ∧
    Raised t blkLane 5 ∧ SameRegs s t (fun a => a = Reg.JL_STAT q ∨ evtOf blkLane 5 a) ∧ SameMem s t)) ∧
  (∀ (s : State) (q : Fin 16), s.flag (Reg.JL_STAT q) 1 = false → Completes (.jlLinkDown q) s (fun t => t = s)) ∧
  (∀ (s : State) (q : Fin 16) (data : List Byte) (crc jump : Bool), s.flag (Reg.JL_RX_CFG q) 0 = true → s.flag (Reg.JL_STAT q) 1 = true →
    s.flag (Reg.JL_RX_CFG q) 7 = false → Completes (.jesdRxEmb q data crc jump) s (fun t => (crc = true →
    t.regN (Reg.JL_CRC_CNT q) = satNat 32 (s.regN (Reg.JL_CRC_CNT q) + 1) ∧ Raised t blkLane 6) ∧ (jump = true → Raised t blkLane 7) ∧
    SameRegs s t (fun a => a = Reg.JL_CRC_CNT q ∨ evtOf blkLane 6 a ∨ evtOf blkLane 7 a) ∧ SameMem s t)) ∧
  (∀ (s : State) (q : Fin 16) (data : List Byte), s.flag (Reg.JL_RX_CFG q) 0 = true → s.flag (Reg.JL_STAT q) 1 = true →
    s.flag (Reg.JL_RX_CFG q) 7 = true → Completes (.jesdRxEmb q data false false) s (fun t =>
    t.regN (Reg.JL_CAP_WPTR q) = (s.regN (Reg.JL_CAP_WPTR q) + 256 * jlE (s.regN (Reg.JL_RX_CFG q)) * jlLanes (s.regN (Reg.JL_RX_CFG q))) % (4096 * 2 ^ s.fld (Reg.JL_CAP_CFG q) 3 0))) ∧
  (∀ (s : State) (q : Fin 16) (data : List Byte) (crc jump : Bool), s.flag (Reg.JL_RX_CFG q) 0 = false ∨ s.flag (Reg.JL_STAT q) 1 = false →
    Completes (.jesdRxEmb q data crc jump) s (fun t => t = s))

/-- Ethernet MACs and the management port (R362, R364, R365, R366, R367, R368, R369, R371, 13_lanes_ethernet_tether.md). -/
def Obligations.EthernetPorts : Prop :=
  (∀ (s : State) (m : Fin 8) (v : BitVec 32), macOn s m = false → v.getLsbD 0 = true → 9 < bitsOf v.toNat 4 1 → Completes (.ethEnable m v) s (fun t =>
    macOn t m = false ∧ Raised t blkEth 1 ∧ t.fld (Reg.ETH_CFG m) 6 1 = bitsOf v.toNat 6 1 ∧ SameMem s t)) ∧
  (∀ (s : State) (m : Fin 8) (v : BitVec 32), macOn s m = false → macOn s (if m.val < 4 then m.val + 4 else m.val - 4) = false → v.getLsbD 0 = true →
    bitsOf v.toNat 4 1 ≤ 9 → modeLanes (bitsOf v.toNat 4 1) ≠ 8 → Completes (.ethEnable m v) s (fun t => macOn t m = true ∧
    t.regN (Reg.ETH_CFG m) = bitsOf v.toNat 6 0 ∧ SameRegs s t (· = Reg.ETH_CFG m) ∧ t = { s with regs := t.regs } ∧ SameMem s t)) ∧
  (∀ (s : State) (m : Fin 8) (v : BitVec 32), macOn s m = true → macUp s m = false → v.getLsbD 0 = false → Completes (.ethEnable m v) s (fun t =>
    macOn t m = false ∧ t.flag (Reg.ETH_CFG m) 6 = v.getLsbD 6 ∧ SameRegs s t (· = Reg.ETH_CFG m) ∧ SameMem s t)) ∧
  (∀ (s : State) (m : Fin 8), macOn s m = true → macUp s m = false → refEn s 3 = false → Completes (.linkChg m true) s (fun t =>
    t.regN (Reg.ETH_STAT m) = 7 ∧ Raised t blkEth 0 ∧ SameRegs s t (fun a => a = Reg.ETH_STAT m ∨ evtOf blkEth 0 a) ∧ SameMem s t)) ∧
  (∀ (s : State) (m : Fin 8), macUp s m = true → Completes (.linkChg m false) s (fun t => macUp t m = false ∧ Raised t blkEth 0 ∧ SameMem s t)) ∧
  (∀ (s : State) (m : Fin 8) (up : Bool), macUp s m = up ∨ (up = true ∧ macOn s m = false) → Completes (.linkChg m up) s (fun t => t = s)) ∧
  (∀ (s : State) (m : Fin 8) (v : BitVec 32), (txQueue s m (v.toNat / 2 ^ 16 % 8)).length < 64 → macUp s m = true → laneHold s = false →
    v.toNat % 2 ^ 14 ≠ 0 → v.toNat % 2 ^ 14 ≤ 9212 → Completes (.ethTxpPush m v) s (fun t =>
    txQueue t m (v.toNat / 2 ^ 16 % 8) = txQueue s m (v.toNat / 2 ^ 16 % 8) ++ [(s.regN (Reg.ETH_TXP_ADDR_LO m) + s.fld (Reg.ETH_TXP_ADDR_HI m) 15 0 * 2 ^ 32, v.toNat % 2 ^ 14)] ∧
    t.flag (Reg.ETH_TXP_STAT m) 0 = false ∧ SameRegs s t (fun a => a = Reg.ETH_TXP_STAT m ∨ a = Reg.ETH_TXQ_STAT m (v.toNat / 2 ^ 16 % 8)) ∧
    SameMem s t)) ∧
  (∀ (s : State) (m : Fin 8) (v : BitVec 32), 64 ≤ (txQueue s m (v.toNat / 2 ^ 16 % 8)).length → Completes (.ethTxpPush m v) s (fun t =>
    t = s.setFlag (Reg.ETH_TXP_STAT m) 0 true)) ∧
  (∀ (s : State) (m : Fin 8) (v : BitVec 32), (txQueue s m (v.toNat / 2 ^ 16 % 8)).length < 64 → macUp s m = false →
    Completes (.ethTxpPush m v) s (fun t => txQueue t m (v.toNat / 2 ^ 16 % 8) = txQueue s m (v.toNat / 2 ^ 16 % 8) ∧
    t.regN (Reg.ETH_CNT m 8) = satNat 32 (s.regN (Reg.ETH_CNT m 8) + 1) ∧ Raised t blkEth 3 ∧ SameMem s t)) ∧
  (∀ (s : State) (m : Fin 8) (q a n : Nat) (r : List (Nat × Nat)), macOn s m = true → (macOf s m).cur = none → laneHold s = false →
    txQueue s m q = (a, n) :: r → (∀ k, k < 8 → q < k → txQueue s m k = []) → q < 8 → Completes (.ethTxStart m 0) s (fun t =>
    (macOf t m).cur = some (q, framePad (s.viewBytes (kixOf s (448 + m)) a n)) ∧ txQueue t m q = r ∧
    t.regN (Reg.ETH_TXQ_STAT m q) = r.length % 2 ^ 32 ∧ SameRegs s t (· = Reg.ETH_TXQ_STAT m q) ∧ SameMem s t)) ∧
  (∀ (s : State) (m : Fin 8) (q a n : Nat) (r : List (Nat × Nat)) (k : Fin 8), macOn s m = true → (macOf s m).cur = none → laneHold s = false →
    txQueue s m q = (a, n) :: r → (∀ k, k < 8 → q < k → txQueue s m k = []) → q < 8 → k.val ≠ 0 → Completes (.ethTxStart m k) s (fun t =>
    (macOf t m).cur = none ∧ txQueue t m q = r ∧ t.regN (Reg.ETH_CNT m 10) = satNat 32 (s.regN (Reg.ETH_CNT m 10) + 1) ∧ Raised t blkEth 4 ∧
    SameMem s t)) ∧
  (∀ (s : State) (m : Fin 8) (q : Nat) (l : List Byte) (ofs : BitVec 18), (macOf s m).cur = some (q, l) →
    ptpEvent l = none ∨ s.fld (Reg.ETH_TXQ_CFG m q) 1 0 = 0 → Completes (.ethTxFrameDone m 0 ofs) s (fun t => (macOf t m).cur = none ∧
    t.ans = ⟨4096 + m.val, 0, l.map (·.toNat)⟩ ∧ t.regN (Reg.ETH_CNT m 0) = satNat 32 (s.regN (Reg.ETH_CNT m 0) + 1) ∧
    SameRegs s t (· = Reg.ETH_CNT m 0) ∧ SameMem s t)) ∧
  (∀ (s : State) (m : Fin 8) (q : Nat) (l : List Byte) (h k : Nat) (ofs : BitVec 18), (macOf s m).cur = some (q, l) → ptpEvent l = some (h, k) →
    s.fld (Reg.ETH_TXQ_CFG m q) 1 0 = 1 → (macOf s m).txts.length < 64 → Completes (.ethTxFrameDone m 0 ofs) s (fun t => (macOf t m).cur = none ∧
    (macOf t m).txts.length = (macOf s m).txts.length + 1 ∧ Raised t blkEth 10 ∧ t.ans.words = l.map (·.toNat) ∧ SameMem s t)) ∧
  (∀ (s : State) (m : Fin 8) (ofs : BitVec 18) (k : Fin 8), (macOf s m).cur = none → Completes (.ethTxFrameDone m k ofs) s (fun t => t = s)) ∧
  (∀ (s : State) (m : Fin 8) (init : Fin 512) (e : BitVec 128) (r : List (BitVec 128)), (macOf s m).txts = e :: r → init.val ≠ 474 →
    Completes (.ethTxtsRead m init) s (fun t => t.ans = ⟨init, 0, [e.toNat / 2 ^ 96]⟩ ∧ (macOf t m).txts = r ∧
    t.regN (Reg.ETH_TXTS_STAT m) = (2 * r.length + bit r.isEmpty) % 2 ^ 32 ∧ SameRegs s t (· = Reg.ETH_TXTS_STAT m) ∧ SameMem s t)) ∧
  (∀ (s : State) (m : Fin 8) (init : Fin 512) (e : BitVec 128) (r : List (BitVec 128)), (macOf s m).txts = e :: r → init.val = 474 →
    Completes (.ethTxtsRead m init) s (fun t => t = s.answer init 0 [e.toNat / 2 ^ 96])) ∧
  (∀ (s : State) (m : Fin 8) (f : List Byte) (fcs : Bool) (corr unc : BitVec 16) (ofs : BitVec 18), macOn s m = false ∨ macUp s m = false →
    Completes (.ethRxFrame m f fcs corr unc ofs) s (fun t => t = s)) ∧
  (∀ (s : State) (m : Fin 8) (f : List Byte) (ofs : BitVec 18), macOn s m = true → macUp s m = true →
    Completes (.ethRxFrame m f false 0 0 ofs) s (fun t => t.regN (Reg.ETH_CNT m 2) = satNat 32 (s.regN (Reg.ETH_CNT m 2) + 1) ∧ Raised t blkEth 6 ∧
    t.lane = s.lane ∧ SameMem s t)) ∧
  (∀ (s : State) (m : Fin 8) (f : List Byte) (ofs : BitVec 18), macOn s m = true → macUp s m = true → f.length + 4 < 64 ∨ 9216 < f.length + 4 →
    Completes (.ethRxFrame m f true 0 0 ofs) s (fun t => t.regN (Reg.ETH_CNT m 3) = satNat 32 (s.regN (Reg.ETH_CNT m 3) + 1) ∧
    SameRegs s t (fun a => a = Reg.ETH_CNT m 3 ∨ a = Reg.ETH_CNT m 11) ∧ SameMem s t)) ∧
  (∀ (s : State) (m : Fin 8) (f : List Byte) (ofs : BitVec 18), macOn s m = true → macUp s m = true → 60 ≤ f.length → f.length + 4 ≤ 9216 →
    (etherOf f).2 ≠ 0x8808 → ptpEvent f = none → dstOk s m f = true →
    s.flag (Reg.ETH_RXQ_CFG m (rxQueue s m f)) 8 = false ∨ laneHold s = true ∨ (s.fld (Reg.ETH_RXQ_PROD m (rxQueue s m f)) 15 0 + 2 ^ 16 - s.fld (Reg.ETH_RXQ_CONS m (rxQueue s m f)) 15 0) % 2 ^ 16 = 2 ^ s.fld (Reg.ETH_RXQ_CFG m (rxQueue s m f)) 3 0 →
    Completes (.ethRxFrame m f true 0 0 ofs) s (fun t => t.regN (Reg.ETH_CNT m 5) = satNat 32 (s.regN (Reg.ETH_CNT m 5) + 1) ∧ Raised t blkEth 5 ∧
    SameMem s t)) ∧
  (∀ (s : State) (m : Fin 8) (f : List Byte) (ofs : BitVec 18), macOn s m = true → macUp s m = true → 60 ≤ f.length → f.length + 4 ≤ 9216 →
    (etherOf f).2 ≠ 0x8808 → ptpEvent f = none → dstOk s m f = true → s.flag (Reg.ETH_RXQ_CFG m (rxQueue s m f)) 8 = true → laneHold s = false →
    (s.fld (Reg.ETH_RXQ_PROD m (rxQueue s m f)) 15 0 + 2 ^ 16 - s.fld (Reg.ETH_RXQ_CONS m (rxQueue s m f)) 15 0) % 2 ^ 16 ≠ 2 ^ s.fld (Reg.ETH_RXQ_CFG m (rxQueue s m f)) 3 0 →
    f.length + 32 ≤ slotSize (s.fld (Reg.ETH_RXQ_CFG m (rxQueue s m f)) 5 4) → Completes (.ethRxFrame m f true 0 0 ofs) s (fun t =>
    t.regN (Reg.ETH_RXQ_PROD m (rxQueue s m f)) = (s.fld (Reg.ETH_RXQ_PROD m (rxQueue s m f)) 15 0 + 1) % 2 ^ 16 ∧
    t.regN (Reg.ETH_CNT m 1) = satNat 32 (s.regN (Reg.ETH_CNT m 1) + 1))) ∧
  (∀ (s : State) (v : BitVec 32), Completes (.mgtTxProdWrite v) s (fun t => t = s.setRegN Reg.MGT_TX_PROD (v.toNat % 2 ^ 16))) ∧
  (∀ (s : State) (up : Bool) (sp : Fin 4) (an fault : Bool), s.flag Reg.MGT_CFG 0 = true → Completes (.mgtLinkChg up sp an fault) s (fun t =>
    t.flag Reg.MGT_STAT 0 = up ∧ t.flag Reg.MGT_STAT 4 = fault ∧ Raised t blkEth 12 ∧ SameRegs s t (fun a => a = Reg.MGT_STAT ∨ evtOf blkEth 12 a) ∧
    SameMem s t)) ∧
  (∀ (s : State), s.flag Reg.MGT_CFG 0 = true → s.flag Reg.MGT_STAT 0 = true → s.fld Reg.MGT_TX_CONS 15 0 ≠ s.fld Reg.MGT_TX_PROD 15 0 →
    60 ≤ s.memN (mgtBase s Reg.MGT_TX_BASE + 2048 * (s.fld Reg.MGT_TX_CONS 15 0 % 16)) 2 →
    s.memN (mgtBase s Reg.MGT_TX_BASE + 2048 * (s.fld Reg.MGT_TX_CONS 15 0 % 16)) 2 ≤ 1518 → Completes (.mgtTxFrame) s (fun t =>
    t.regN Reg.MGT_TX_CONS = (s.fld Reg.MGT_TX_CONS 15 0 + 1) % 2 ^ 16 ∧
    t.ans.words = (s.bytes ((mgtBase s Reg.MGT_TX_BASE + 2048 * (s.fld Reg.MGT_TX_CONS 15 0 % 16)) + 32) (s.memN (mgtBase s Reg.MGT_TX_BASE + 2048 * (s.fld Reg.MGT_TX_CONS 15 0 % 16)) 2)).map (·.toNat) ∧
    t.regN (Reg.MGT_CNT 0) = satNat 32 (s.regN (Reg.MGT_CNT 0) + 1) ∧ SameRegs s t (fun a => a = Reg.MGT_TX_CONS ∨ a = Reg.MGT_CNT 0) ∧
    SameMem s t)) ∧
  (∀ (s : State), s.flag Reg.MGT_CFG 0 = true → s.flag Reg.MGT_STAT 0 = true → s.fld Reg.MGT_TX_CONS 15 0 ≠ s.fld Reg.MGT_TX_PROD 15 0 →
    s.memN (mgtBase s Reg.MGT_TX_BASE + 2048 * (s.fld Reg.MGT_TX_CONS 15 0 % 16)) 2 < 60 ∨ 1518 < s.memN (mgtBase s Reg.MGT_TX_BASE + 2048 * (s.fld Reg.MGT_TX_CONS 15 0 % 16)) 2 →
    Completes (.mgtTxFrame) s (fun t => t.regN Reg.MGT_TX_CONS = (s.fld Reg.MGT_TX_CONS 15 0 + 1) % 2 ^ 16 ∧
    t.regN (Reg.MGT_CNT 6) = satNat 32 (s.regN (Reg.MGT_CNT 6) + 1) ∧ t.ans = s.ans ∧ SameMem s t)) ∧
  (∀ (s : State), s.flag Reg.MGT_CFG 0 = false ∨ s.flag Reg.MGT_STAT 0 = false ∨ s.fld Reg.MGT_TX_CONS 15 0 = s.fld Reg.MGT_TX_PROD 15 0 →
    Completes (.mgtTxFrame) s (fun t => t = s)) ∧
  (∀ (s : State) (f : List Byte), s.flag Reg.MGT_CFG 0 = true → s.flag Reg.MGT_STAT 0 = true → Completes (.mgtRxFrame f false) s (fun t =>
    t = mgtCount s 2)) ∧
  (∀ (s : State) (f : List Byte), s.flag Reg.MGT_CFG 0 = true → s.flag Reg.MGT_STAT 0 = true → 60 ≤ f.length → f.length ≤ 1518 →
    fieldLe f 0 6 = 2 ^ 48 - 1 → (s.fld Reg.MGT_RX_PROD 15 0 + 2 ^ 16 - s.fld Reg.MGT_RX_CONS 15 0) % 2 ^ 16 ≠ 16 →
    Completes (.mgtRxFrame f true) s (fun t => t.regN Reg.MGT_RX_PROD = (s.fld Reg.MGT_RX_PROD 15 0 + 1) % 2 ^ 16 ∧
    t.regN (Reg.MGT_CNT 1) = satNat 32 (s.regN (Reg.MGT_CNT 1) + 1) ∧ Raised t blkEth 13))

/-- The Tether link: frames out and in, slips, deskew (R380, R381, R383, R384, R385, R387, 13_lanes_ethernet_tether.md). -/
def Obligations.TetherLink : Prop :=
  (∀ (s : State), s.flag Reg.TETH_CFG 0 = false → Completes (.tetherFrameTx) s (fun t => t = s)) ∧
  (∀ (s : State) (l : Nat), s.flag Reg.TETH_CFG 0 = true → nextLane s = some l → s.rly.snap = [] → s.lane.teth.outbox = [] →
    Completes (.tetherFrameTx) s (fun t => t.lane.teth.lseq = (s.lane.teth.lseq + 1) % 4096 ∧ t.lane.teth.last = l ∧ t.ans.who = 4128 + l ∧
    (t.ans.words.take 32 = (List.range 32).map (fun i => bit (tethMarker.testBit i)) ∨ (tethLane s l).same ≠ 0) ∧ t.rly = s.rly ∧ t.regs = s.regs ∧
    t.mem = s.mem)) ∧
  (∀ (s : State) (l : Fin 4) (p : Fin 32) (f : BitVec 1024) (st : Bool), s.flag Reg.TETH_CFG 0 = false →
    Completes (.tetherFrameRx l p f st) s (fun t => t = s)) ∧
  (∀ (s : State) (l : Fin 4) (p : Fin 32) (f : BitVec 1024), s.flag Reg.TETH_CFG 0 = true → tethLocked s l = false →
    p.val = (tethLane s l).slips % 32 → f.toNat % 2 ^ 32 = tethMarker → (tethLane s l).run = 3 → Completes (.tetherFrameRx l p f false) s (fun t =>
    tethLocked t l = true ∧ Raised t blkLane 12 ∧ t.flag Reg.TETH_STAT l = true ∧ SameMem s t)) ∧
  (∀ (s : State) (l : Fin 4) (p : Fin 32) (f : BitVec 1024), s.flag Reg.TETH_CFG 0 = true → tethLocked s l = false →
    p.val ≠ (tethLane s l).slips % 32 ∨ f.toNat % 2 ^ 32 ≠ tethMarker → Completes (.tetherFrameRx l p f false) s (fun t => tethLocked t l = false ∧
    (tethLane t l).run = 0 ∧ t.flag Reg.TETH_STAT l = false ∧ SameRegs s t (· = Reg.TETH_STAT) ∧ SameMem s t)) ∧
  (∀ (s : State) (l : Fin 4) (p : Fin 32) (f : BitVec 1024), s.flag Reg.TETH_CFG 0 = true → tethLocked s l = true → f.toNat % 2 ^ 32 ≠ tethMarker →
    (tethLane s l).miss = 3 → Completes (.tetherFrameRx l p f false) s (fun t => tethLocked t l = false ∧ Raised t blkLane 13 ∧
    (tethLane t l).miss = 0 ∧ t.lane.teth.inbox = s.lane.teth.inbox ∧ SameMem s t)) ∧
  (∀ (s : State) (v : BitVec 32) (l : Fin 4), s.flag Reg.TETH_CFG 0 = true → tethLocked s l = false → v.getLsbD l.val = true → (∀ k, k < 4 →
    k ≠ l.val → v.getLsbD k = false) → Completes (.slip v) s (fun t => (tethLane t l).slips = ((tethLane s l).slips + 1) % 32 ∧
    (tethLane t l).run = 0 ∧ t.regN Reg.TETH_SLIP_CNT = satNat 32 (s.regN Reg.TETH_SLIP_CNT + 1) ∧
    SameRegs s t (fun a => a = Reg.TETH_STAT ∨ a = Reg.TETH_SLIP_CNT) ∧ SameMem s t)) ∧
  (∀ (s : State) (v : BitVec 32), (∀ k, k < 4 → v.getLsbD k = true → tethLocked s k = true) → Completes (.slip v) s (fun t => t = s)) ∧
  (∀ (s : State) (e : Nat), s.lane.teth.expect = some e → s.lane.teth.held ≠ [] → (∀ f ∈ s.lane.teth.held, f.1 ≠ (e + 1) % 4096) →
    Completes (.tetherDeskewTimeout) s (fun t => t.lane.teth.expect = some ((e + 1) % 4096) ∧ t.lane.teth.inbox = s.lane.teth.inbox ++ [none] ∧
    t.regN Reg.TETH_GAP_CNT = satNat 32 (s.regN Reg.TETH_GAP_CNT + 1) ∧ Raised t blkLane 15 ∧ SameMem s t)) ∧
  (∀ (s : State) (l : Fin 4), s.flag Reg.TETH_CFG 0 = true → Completes (.tethFifoErr l) s (fun t => tethLocked t l = false ∧
    t.flag Reg.TETH_STAT l = false ∧ Raised t blkLane 17 ∧ SameRegs s t (fun a => a = Reg.TETH_STAT ∨ evtOf blkLane 17 a) ∧ SameMem s t)) ∧
  (∀ (s : State) (l : Fin 4), s.flag Reg.TETH_CFG 0 = false → Completes (.tethFifoErr l) s (fun t => t = s))

/-- The Relay's frames and journal (R397, R398, R399, R400, R401, R402, R403, R406, R407, R414, R417, 14_relay.md). -/
def Obligations.RelayJournal : Prop :=
  (∀ (s : State) (f : Nat × Nat × List Byte × Nat) (r : List (Option (Nat × Nat × List Byte × Nat))), s.lane.teth.inbox = some f :: r → s.role = 1 →
    s.rly.seen = none → f.1 ≠ 15 → Completes (.relayFrameRx) s (fun t => t.lane.teth.inbox = r ∧
    (∀ b, ((relOpen s (1 - bit s.unit1) f.1 f.2.1 f.2.2.1).or (relOpen s (bit s.unit1) f.1 f.2.1 f.2.2.1)) = some b →
    t.rly.acc = s.rly.acc ++ [(f.1, b, f.2.2.2)] ∧ t.rly.seen = some (fieldLe f.2.2.1 0 8) ∧ t.regs = s.regs) ∧
    (((relOpen s (1 - bit s.unit1) f.1 f.2.1 f.2.2.1).or (relOpen s (bit s.unit1) f.1 f.2.1 f.2.2.1)) = none → t.rly = s.rly ∧
    t.regN Reg.RELAY_AUTH_CNT = satNat 32 (s.regN Reg.RELAY_AUTH_CNT + 1) ∧ Raised t blkRly 11) ∧ SameMem s t)) ∧
  (∀ (s : State) (f : Option (Nat × Nat × List Byte × Nat)) (r : List (Option (Nat × Nat × List Byte × Nat))), s.lane.teth.inbox = f :: r →
    s.role = 0 → Completes (.relayFrameRx) s (fun t => t.lane.teth.inbox = r ∧ t.rly = s.rly ∧ t.regs = s.regs ∧ t.mem = s.mem)) ∧
  (∀ (s : State) (q a pt tl : Nat) (d : List Byte) (r : List (Nat × List Byte × Nat)), s.rly.acc = (5, relBody q pt 0 d, tl) :: r →
    s.shadowing = true → s.sync ≠ 0 → s.rly.applied = some a → q = (a + 1) % 2 ^ 32 → a < 2 ^ 32 → pt < 2 ^ 32 → d.length ≤ 80 →
    Completes (.mark) s (fun t => t.rly.applied = some q ∧ t.regN Reg.RELAY_JSEQ_ACK = q ∧ t.rly.jpt = some pt ∧ t.rly.acc = r ∧ t.pac = s.pac ∧
    SameMem s t)) ∧
  (∀ (s : State) (q a pt tl : Nat) (d : List Byte) (r : List (Nat × List Byte × Nat)), s.rly.acc = (5, relBody q pt 0 d, tl) :: r →
    s.shadowing = true → s.sync ≠ 0 → s.rly.applied = some a → q < 2 ^ 32 → q ≠ (a + 1) % 2 ^ 32 → ptReached a q = false →
    Completes (.mark) s (fun t => t.rly.applied = some a ∧ t.rly.acc = r ∧ t.lane.teth.outbox.length = s.lane.teth.outbox.length + 1 ∧
    t.regs = s.regs ∧ t.mem = s.mem)) ∧
  (∀ (s : State) (q a pt tl : Nat) (d : List Byte) (r : List (Nat × List Byte × Nat)), s.rly.acc = (5, relBody q pt 0 d, tl) :: r →
    s.shadowing = true → s.sync ≠ 0 → s.rly.applied = some a → q < 2 ^ 32 → ptReached a q = true → Completes (.mark) s (fun t =>
    t = s.setRly { s.rly with acc := r })) ∧
  (∀ (s : State) (q a pt tl : Nat) (d : List Byte) (r : List (Nat × List Byte × Nat)) (v : BitVec 32), s.rly.acc = (7, relBody q pt 0 d, tl) :: r →
    s.shadowing = true → s.sync ≠ 0 → s.rly.applied = some a → q = (a + 1) % 2 ^ 32 → a < 2 ^ 32 → pt < 2 ^ 32 → d.length ≤ 80 →
    d = leBytes 4 0x0C ++ leBytes 4 v.toNat → Completes (.cfg) s (fun t => t.regN Reg.PAC_MIN_LEAD = Nat.max 16 (v.toNat % 2 ^ 16) ∧
    t.rly.applied = some q ∧ t.regN Reg.RELAY_JSEQ_ACK = q ∧ t.rly.jpt = some pt ∧ t.rly.acc = r ∧ SameMem s t)) ∧
  (∀ (s : State) (q a pt tl : Nat) (d : List Byte) (r : List (Nat × List Byte × Nat)), s.rly.acc = (7, relBody q pt 0 d, tl) :: r →
    s.shadowing = true → s.sync ≠ 0 → s.rly.applied = some a → q = (a + 1) % 2 ^ 32 → a < 2 ^ 32 → pt < 2 ^ 32 → d.length ≤ 80 →
    d = leBytes 4 0x10 ++ leBytes 4 7 → Completes (.cfg) s (fun t => t.sync = 0 ∧ Raised t blkRly 9 ∧
    t.regN Reg.RELAY_MISMATCH_CNT = satNat 32 (s.regN Reg.RELAY_MISMATCH_CNT + 1) ∧ t.rly.applied = s.rly.applied ∧ t.rly.acc = r ∧ t.pac = s.pac ∧
    SameMem s t)) ∧
  (∀ (s : State) (q a pt tl : Nat) (d : List Byte) (r : List (Nat × List Byte × Nat)) (a0 n x : Nat) (w : List Byte), s.rly.acc = (8, relBody q pt 0 d, tl) :: r →
    s.shadowing = true → s.sync ≠ 0 → s.rly.applied = some a → q = (a + 1) % 2 ^ 32 → a < 2 ^ 32 → pt < 2 ^ 32 → d.length ≤ 80 →
    d = (leBytes 6 a0 ++ [BitVec.ofNat 8 (n - 1)] ++ List.replicate 9 0 ++ w) → inScratch a0 = true → 1 ≤ n → n ≤ 64 → w.length = n →
    inMir s a0 = true → inMir s (a0 + n - 1) = true → s.noc.flip = none → Completes (.mem) s (fun t => t.byte x = (if a0 ≤ x ∧
    x < a0 + n then w.getD (x - a0) 0 else s.byte x) ∧ t.rly.applied = some q ∧ t.regN Reg.RELAY_JSEQ_ACK = q ∧ t.rly.jpt = some pt ∧
    t.rly.acc = r)) ∧
  (∀ (s : State) (q a pt tl : Nat) (d : List Byte) (r : List (Nat × List Byte × Nat)), s.rly.acc = (8, relBody q pt 0 d, tl) :: r →
    s.shadowing = true → s.sync ≠ 0 → s.rly.applied = some a → q = (a + 1) % 2 ^ 32 → a < 2 ^ 32 → pt < 2 ^ 32 → d.length ≤ 80 →
    inMir s (fieldLe d 0 6) = false → Completes (.mem) s (fun t => t.sync = 0 ∧ Raised t blkRly 9 ∧
    t.regN Reg.RELAY_MISMATCH_CNT = satNat 32 (s.regN Reg.RELAY_MISMATCH_CNT + 1) ∧ t.rly.applied = s.rly.applied ∧ t.rly.acc = r ∧ SameMem s t)) ∧
  (∀ (s : State) (q a pt tl : Nat) (dp dl : List Byte) (r : List (Nat × List Byte × Nat)) (i : Fin 512), s.rly.acc = (9, relBody q pt 102 dl, tl) :: r →
    s.shadowing = true → s.sync ≠ 0 → s.rly.applied = some a → q = (a + 1) % 2 ^ 32 → a < 2 ^ 32 → pt < 2 ^ 32 → dl.length = 80 →
    s.rly.part = some (q, 6, dp) → dp.length = 480 → rngOf s (fieldLe dp 0 6) = some 0 → rngMode s 0 = 1 → inMir s (fieldLe dp 0 6) = true →
    fieldLe dp 0 6 % 512 = 0 → inSdram (fieldLe dp 0 6) = true → (∀ h, h < 4 → (chanSt s h).flip = none) → Completes (.tile) s (fun t =>
    t.byte (fieldLe dp 0 6 + i.val) = (dp ++ dl).getD (27 + i.val) 0 ∧ t.rly.part = none ∧ t.rly.applied = some q ∧ t.regN Reg.RELAY_JSEQ_ACK = q ∧
    t.rly.jpt = some pt ∧ t.rly.acc = r)) ∧
  (∀ (s : State) (q a pt tl : Nat) (d : List Byte) (r : List (Nat × List Byte × Nat)), s.rly.acc = (9, relBody q pt 0 d, tl) :: r →
    s.shadowing = true → s.sync ≠ 0 → s.rly.applied = some a → q = (a + 1) % 2 ^ 32 → a < 2 ^ 32 → pt < 2 ^ 32 → d.length ≤ 80 →
    rngOf s (fieldLe d 0 6) = none → Completes (.tile) s (fun t => t.sync = 0 ∧ Raised t blkRly 9 ∧
    t.regN Reg.RELAY_MISMATCH_CNT = satNat 32 (s.regN Reg.RELAY_MISMATCH_CNT + 1) ∧ t.rly.applied = s.rly.applied ∧ t.rly.acc = r ∧ SameMem s t)) ∧
  (∀ (s : State) (q a pt tl : Nat) (d : List Byte) (r : List (Nat × List Byte × Nat)) (u : State), s.rly.acc = (10, relBody q pt 0 d, tl) :: r →
    s.shadowing = true → s.sync ≠ 0 → s.rly.applied = some a → q = (a + 1) % 2 ^ 32 → a < 2 ^ 32 → pt < 2 ^ 32 → d.length ≤ 80 →
    applyObj (s.setRly { s.rly with acc := r, part := none }) (padTo 80 d) = some u → u.rly.acc = r → Completes (.obj) s (fun t =>
    t.regs = (jApplied u q pt).regs ∧ t.mem = u.mem ∧ t.rly.applied = some q ∧ t.regN Reg.RELAY_JSEQ_ACK = q ∧ t.rly.jpt = some pt ∧ t.rly.acc = r)) ∧
  (∀ (s : State) (q a pt tl : Nat) (d : List Byte) (r : List (Nat × List Byte × Nat)), s.rly.acc = (10, relBody q pt 0 d, tl) :: r →
    s.shadowing = true → s.sync ≠ 0 → s.rly.applied = some a → q = (a + 1) % 2 ^ 32 → a < 2 ^ 32 → pt < 2 ^ 32 → d.length ≤ 80 →
    applyObj (s.setRly { s.rly with acc := r, part := none }) (padTo 80 d) = none → Completes (.obj) s (fun t => t.sync = 0 ∧ Raised t blkRly 9 ∧
    t.regN Reg.RELAY_MISMATCH_CNT = satNat 32 (s.regN Reg.RELAY_MISMATCH_CNT + 1) ∧ t.rly.applied = s.rly.applied ∧ t.rly.acc = r ∧ SameMem s t)) ∧
  (∀ (s : State) (q a pt tl : Nat) (d : List Byte) (r : List (Nat × List Byte × Nat)), s.rly.acc = (6, relBody q pt 0 d, tl) :: r →
    s.shadowing = true → s.sync ≠ 0 → s.rly.applied = some a → q = (a + 1) % 2 ^ 32 → a < 2 ^ 32 → pt < 2 ^ 32 → d.length ≤ 80 →
    applyAdmit (s.setRly { s.rly with acc := r, part := none }) (padTo 80 d) = none → Completes (.admitEntry) s (fun t => t.sync = 0 ∧
    Raised t blkRly 9 ∧ t.regN Reg.RELAY_MISMATCH_CNT = satNat 32 (s.regN Reg.RELAY_MISMATCH_CNT + 1) ∧ t.rly.applied = s.rly.applied ∧
    t.rly.acc = r ∧ t.pac = s.pac ∧ SameMem s t)) ∧
  (∀ (s : State) (q a pt tl : Nat) (d : List Byte) (r : List (Nat × List Byte × Nat)) (u : State), s.rly.acc = (6, relBody q pt 0 d, tl) :: r →
    s.shadowing = true → s.sync ≠ 0 → s.rly.applied = some a → q = (a + 1) % 2 ^ 32 → a < 2 ^ 32 → pt < 2 ^ 32 → d.length ≤ 80 →
    applyAdmit (s.setRly { s.rly with acc := r, part := none }) (padTo 80 d) = some u → u.rly.acc = r → Completes (.admitEntry) s (fun t =>
    t.pac = u.pac ∧ t.pac.nextId = s.pac.nextId + 1 ∧ t.pac.ops.map (·.id) = s.pac.ops.map (·.id) ++ [s.pac.nextId] ∧ t.rly.applied = some q ∧
    t.regN Reg.RELAY_JSEQ_ACK = q ∧ t.rly.jpt = some pt ∧ t.rly.acc = r)) ∧
  (∀ (s : State) (q a pt tl : Nat) (d : List Byte) (r : List (Nat × List Byte × Nat)) (k ix : Nat) (w : List Byte), s.rly.acc = (11, relBody q pt 0 d, tl) :: r →
    s.shadowing = true → s.sync ≠ 0 → s.rly.applied = some a → q = (a + 1) % 2 ^ 32 → a < 2 ^ 32 → pt < 2 ^ 32 → d.length ≤ 80 →
    d = ([BitVec.ofNat 8 k, 0] ++ leBytes 2 ix ++ List.replicate 12 0 ++ w) → k < 16 → ix < 2 ^ 16 → w.length = 64 →
    s.flag (Reg.RELAY_MP_CFG k) 31 = true → Completes (.port) s (fun t => t.regN (Reg.RELAY_MP_PROD k) = (ix + 1) % 2 ^ 16 ∧ Raised t blkRly 16 ∧
    t.rly.applied = some q ∧ t.regN Reg.RELAY_JSEQ_ACK = q ∧ t.rly.jpt = some pt ∧ t.rly.acc = r)) ∧
  (∀ (s : State) (q a pt tl : Nat) (d : List Byte) (r : List (Nat × List Byte × Nat)), s.rly.acc = (12, relBody q pt 0 d, tl) :: r →
    s.shadowing = true → s.sync ≠ 0 → s.rly.applied = some a → q = (a + 1) % 2 ^ 32 → a < 2 ^ 32 → pt < 2 ^ 32 → d.length ≤ 80 →
    Completes (.handover) s (fun t => t.rly.hand = true ∧ t.rly.applied = some q ∧ t.regN Reg.RELAY_JSEQ_ACK = q ∧ t.rly.jpt = some pt ∧
    t.rly.acc = r ∧ t.role = s.role ∧ t.mode = s.mode ∧ SameMem s t)) ∧
  (∀ (s : State) (q a pt tl : Nat) (d : List Byte) (r : List (Nat × List Byte × Nat)), s.rly.acc = (14, relBody q pt 0 d, tl) :: r →
    s.shadowing = true → s.rly.applied = some a → q = (a + 1) % 2 ^ 32 → a < 2 ^ 32 → pt < 2 ^ 32 → d.length ≤ 80 → s.sync = 1 → d = [0] →
    Completes (.snapEnd) s (fun t => t.sync = 2 ∧ Raised t blkRly 18 ∧ t.rly.applied = some q ∧ t.regN Reg.RELAY_JSEQ_ACK = q ∧ t.rly.jpt = some pt ∧
    t.rly.acc = r ∧ SameMem s t)) ∧
  (∀ (s : State) (q pt tl : Nat) (r : List (Nat × List Byte × Nat)), s.rly.acc = (14, relBody q pt 0 [1], tl) :: r → s.shadowing = true → s.sync = 1 →
    Completes (.snapEnd) s (fun t => t.sync = 0 ∧ Raised t blkRly 19 ∧ t.rly = { s.rly with acc := r } ∧ SameMem s t)) ∧
  (∀ (s : State), jOn s = true → jBlocked s 1 = false → Completes (.journalMark) s (fun t =>
    t.regN Reg.RELAY_JSEQ_TX = (s.regN Reg.RELAY_JSEQ_TX + 1) % 2 ^ 32 ∧
    t.rly.buf = s.rly.buf ++ [{ jseq := (s.regN Reg.RELAY_JSEQ_TX + 1) % 2 ^ 32, pt := s.pt, kind := 5, data := [] }] ∧
    t.lane.teth.outbox.length = s.lane.teth.outbox.length + 1 ∧ SameRegs s t (· = Reg.RELAY_JSEQ_TX) ∧ SameMem s t)) ∧
  (∀ (s : State), jOn s = false → Completes (.journalMark) s (fun t => t = s)) ∧
  (∀ (s : State), jBlocked s 1 = true → Completes (.journalMark) s (fun t => t.rly.buf = s.rly.buf ∧ (jFits s 1 = false → t.rly.stall = true) ∧
    SameMem s t)) ∧
  (∀ (s : State), s.shadowing = true → s.sync ≠ 0 → Completes (.ackPeriodic) s (fun t =>
    t = relSend s [(4, relBody 0 s.pt 0 (leBytes 4 (s.regN Reg.RELAY_JSEQ_ACK) ++ [0, 0]))])) ∧
  (∀ (s : State) (j : BitVec 32) (tl q pt : Nat) (e : JEntry) (r : List (Nat × List Byte × Nat)), s.rly.acc = (4, relBody q pt 0 (leBytes 4 j.toNat ++ [0, 0]), tl) :: r →
    jOn s = true → s.rly.buf = [e] → ptReached j.toNat e.jseq = true → s.rly.snapEnd = none → s.rly.want = [] → Completes (.ack) s (fun t =>
    t.rly.buf = [] ∧ t.rly.stall = false ∧ t.regN Reg.RELAY_JSEQ_ACK = j.toNat ∧ t.rly.jpt = some e.pt ∧ t.rly.acc = r ∧ SameMem s t)) ∧
  (∀ (s : State) (j : BitVec 32) (tl q pt : Nat) (e : JEntry) (r : List (Nat × List Byte × Nat)), s.rly.acc = (4, relBody q pt 0 (leBytes 4 j.toNat ++ [1, 0]), tl) :: r →
    jOn s = true → s.rly.buf = [e] → ptReached j.toNat e.jseq = false → s.rly.want = [] → Completes (.ack) s (fun t => t.rly.buf = [e] ∧
    t.lane.teth.outbox = s.lane.teth.outbox ++ jFrames e ∧ t.regN Reg.RELAY_RESEND_CNT = satNat 32 (s.regN Reg.RELAY_RESEND_CNT + 1) ∧ SameMem s t)) ∧
  (∀ (s : State), jOn s = true → Completes (.journalResend) s (fun t => t.lane.teth.outbox = s.lane.teth.outbox ++ s.rly.buf.flatMap jFrames ∧
    t.rly = s.rly ∧ t.regN Reg.RELAY_RESEND_CNT = satNat 32 (s.regN Reg.RELAY_RESEND_CNT + s.rly.buf.length) ∧ SameMem s t)) ∧
  (∀ (s : State), jOn s = true → s.rly.buf ≠ [] → s.rly.stall = false → Completes (.journalStall) s (fun t => t.rly = { s.rly with stall := true } ∧
    t.regN Reg.RELAY_STALL_CNT = satNat 32 (s.regN Reg.RELAY_STALL_CNT + 1) ∧ Raised t blkRly 12 ∧ SameMem s t)) ∧
  (∀ (s : State), jOn s = false ∨ s.rly.buf = [] → Completes (.journalStall) s (fun t => t = s)) ∧
  (∀ (s : State), jOn s = true → s.rly.buf ≠ [] → Completes (.partnerUnsynced) s (fun t => t.sync = 0 ∧ t.rly.buf = [] ∧ t.rly.stall = false ∧
    Raised t blkRly 10 ∧ t.role = s.role ∧ SameMem s t)) ∧
  (∀ (s : State) (q pt tl : Nat) (d : List Byte) (r : List (Nat × List Byte × Nat)), s.rly.acc = (13, relBody q pt 0 d, tl) :: r → s.role = 1 →
    d = leBytes 4 (s.regN Reg.CFG_BUILD_LO) ++ leBytes 4 (s.regN Reg.CFG_BUILD_HI) → Completes (.joinReq) s (fun t => t.sync = 1 ∧ t.rly.buf = [] ∧
    t.rly.acc = r ∧ t.rly.snap.getLast? = some .done ∧ t.rly.stall = false ∧ SameMem s t)) ∧
  (∀ (s : State) (p : Fin 16) (v : BitVec 32), s.role = 1 → s.flag (Reg.RELAY_MP_CFG p) 31 = true → jOn s = false →
    Completes (.relayMpDb p v) s (fun t => t = s.setRegN (Reg.RELAY_MP_PROD p) (v.toNat % 2 ^ 16))) ∧
  (∀ (s : State) (p : Fin 16) (v : BitVec 32), s.role ≠ 1 ∨ s.flag (Reg.RELAY_MP_CFG p) 31 = false → Completes (.relayMpDb p v) s (fun t => t = s))

/-- The Relay's roles, partner and time (R38, R396, R404, R405, R408, R409, R410, R411, R412, R413, R416, R417). -/
def Obligations.RelayRoles : Prop :=
  (∀ (s : State) (f : Bool), s.rly.elect = true → s.shadowing = true → Completes (.roleElection true f) s (fun t => t.rly.elect = false ∧
    t.role = s.role ∧ t.mode = s.mode ∧ t.flag Reg.RELAY_STAT 8 = true ∧ t.flag Reg.RELAY_STAT 6 = f ∧ SameMem s t)) ∧
  (∀ (s : State), s.rly.elect = true → s.shadowing = true → s.mode ≠ mSafe → Completes (.roleElection false false) s (fun t => t.rly.elect = false ∧
    t.role = rPrimary ∧ t.sync = 0 ∧ t.mode ≠ mShadow ∧ SameMem s t)) ∧
  (∀ (s : State), s.role = 1 → s.unit1 = true → s.pac.ops = [] → s.mode ≠ mSafe → Completes (.roleConflict) s (fun t => t.role = rSecondary ∧
    t.mode = mShadow ∧ t.sync = 0 ∧ t.rly.buf = [] ∧ Raised t blkRly 13 ∧ SameMem s t)) ∧
  (∀ (s : State), s.role ≠ 1 ∨ s.unit1 = false → Completes (.roleConflict) s (fun t => t = s.setFlag Reg.RELAY_STAT 8 true)) ∧
  (∀ (s : State) (q pt tl : Nat) (d : List Byte) (r : List (Nat × List Byte × Nat)), s.rly.acc = (1, relBody q pt 0 d, tl) :: r → d.length = 8 →
    s.shadowing = false → fieldLe d 3 1 ≠ bit s.unit1 → Completes (.heartbeat) s (fun t => t.flag Reg.RELAY_STAT 5 = true ∧
    t.rly = { s.rly with acc := r, hbLink := true, peer := fieldLe d 0 1 } ∧ SameRegs s t (· = Reg.RELAY_STAT) ∧ SameMem s t)) ∧
  (∀ (s : State) (q pt tl : Nat) (d : List Byte) (r : List (Nat × List Byte × Nat)), s.rly.acc = (2, relBody q pt 0 d, tl) :: r → s.role = 1 →
    Completes (.timeReq) s (fun t => t.rly = { s.rly with acc := r } ∧ (∃ f, t.lane.teth.outbox = s.lane.teth.outbox ++ [f] ∧ f.1 = 3) ∧
    t.regs = s.regs ∧ t.mem = s.mem)) ∧
  (∀ (s : State) (q pt tl : Nat) (d : List Byte) (r : List (Nat × List Byte × Nat)), s.rly.acc = (3, relBody q pt 0 d, tl) :: r → s.shadowing = true →
    Completes (.timeResp) s (fun t => t.rly.asked = false ∧ t.rly.missed = 0 ∧ t.rly.acc = r ∧ SameMem s t)) ∧
  (∀ (s : State), s.shadowing = true → s.rly.asked = false → Completes (.timeExchange) s (fun t => t.rly = { s.rly with asked := true, missed := 0 } ∧
    t.lane.teth.outbox = s.lane.teth.outbox ++ [(2, relBody 0 s.pt 0 [])] ∧ t.regs = s.regs ∧ t.mem = s.mem)) ∧
  (∀ (s : State), s.shadowing = false → Completes (.timeExchange) s (fun t => t = s)) ∧
  (∀ (s : State), s.role ≠ 0 → s.mode ≠ mSafe → Completes (.heartbeatSend) s (fun t => t.rly = { s.rly with hbPin := false, hbLink := false } ∧
    t.lane.teth.outbox.length = s.lane.teth.outbox.length + 1 ∧ t.ans = ⟨4136, 0, [2]⟩ ∧
    t.regN Reg.RELAY_HB_MISS_CNT = satNat 32 (s.regN Reg.RELAY_HB_MISS_CNT + bit (!s.rly.hbPin) + bit (!s.rly.hbLink)) ∧
    SameRegs s t (· = Reg.RELAY_HB_MISS_CNT) ∧ SameMem s t)) ∧
  (∀ (s : State), s.role = 0 → Completes (.heartbeatSend) s (fun t => t = s)) ∧
  (∀ (s : State) (n : Nat), s.role ≠ 0 → 1 ≤ n → n ≤ 8 → Completes (.hbPinPulse n) s (fun t => t.flag Reg.RELAY_STAT 4 = true ∧
    t.rly = { s.rly with hbPin := true } ∧ SameRegs s t (· = Reg.RELAY_STAT) ∧ SameMem s t)) ∧
  (∀ (s : State) (n : Nat), s.role = 0 ∨ n = 0 ∨ 8 < n → Completes (.hbPinPulse n) s (fun t => t = s)) ∧
  (∀ (s : State), s.shadowing = true → Completes (.partnerLost) s (fun t => t.rly = { s.rly with fence := true, blocked := false } ∧
    t.flag Reg.RELAY_STAT 4 = false ∧ t.flag Reg.RELAY_STAT 5 = false ∧ t.role = s.role ∧ Raised t blkRly 2 ∧ Raised t blkRly 6 ∧ SameMem s t)) ∧
  (∀ (s : State), s.role = 1 → Completes (.partnerLost) s (fun t => t.sync = 0 ∧ t.rly.buf = [] ∧ t.role = s.role ∧ Raised t blkRly 2 ∧
    SameMem s t)) ∧
  (∀ (s : State), s.shadowing = true → s.flag Reg.RELAY_STAT 4 = true → Completes (.hbPathLost true) s (fun t => t.flag Reg.RELAY_STAT 5 = false ∧
    t.sync = 0 ∧ t.role = s.role ∧ Raised t blkRly 4 ∧ SameMem s t)) ∧
  (∀ (s : State), s.role ≠ 0 → Completes (.hbPathLost false) s (fun t => t.flag Reg.RELAY_STAT 4 = false ∧ t.sync = s.sync ∧ Raised t blkRly 3 ∧
    t.rly = s.rly ∧ SameRegs s t (fun a => a = Reg.RELAY_STAT ∨ evtOf blkRly 3 a) ∧ SameMem s t)) ∧
  (∀ (s : State), s.rcoOk = true → s.role ≠ 1 → Completes (.fenceInSet true) s (fun t => t.flag Reg.RELAY_STAT 6 = true ∧
    t.flag Reg.OUT_CAUSE 12 = true ∧ Raised t blkRly 5 ∧ t.role = s.role ∧ SameMem s t)) ∧
  (∀ (s : State), Completes (.fenceInSet false) s (fun t => t.flag Reg.RELAY_STAT 6 = false ∧ t.flag Reg.OUT_CAUSE 12 = false ∧ t.role = s.role ∧
    t.rly = s.rly ∧ SameMem s t)) ∧
  (∀ (s : State), takeOk s false = true → s.sync = 2 → s.rly.shadow = [] → s.pac.ops = [] → s.mode ≠ mSafe → Completes (.takeover false) s (fun t =>
    t.role = rPrimary ∧ t.sync = 0 ∧ t.mode ≠ mShadow ∧ t.regN Reg.RELAY_TAKE_PT = s.pt ∧ t.regN Reg.RELAY_TAKE_JSEQ = s.regN Reg.RELAY_JSEQ_ACK ∧
    Raised t blkRly 7 ∧ t.regN Reg.RELAY_TAKE_CNT = satNat 32 (s.regN Reg.RELAY_TAKE_CNT + 1) ∧ t.rly.hand = false ∧ SameMem s t)) ∧
  (∀ (s : State) (ri : Bool), takeOk s ri = false → Completes (.takeover ri) s (fun t => t.role = s.role ∧ t.sync = s.sync ∧ t.mode = s.mode ∧
    t.rly = s.rly ∧ t.flag Reg.RELAY_STAT 8 = ri ∧ SameMem s t)) ∧
  (∀ (s : State), s.shadowing = true → s.rly.fence = true → s.rly.blocked = false → Completes (.takeoverBlocked) s (fun t =>
    t.rly = { s.rly with blocked := true } ∧ Raised t blkRly 8 ∧ SameRegs s t (evtOf blkRly 8) ∧ SameMem s t)) ∧
  (∀ (s : State) (v : BitVec 32), v.getLsbD 0 = true → v.getLsbD 1 = false → v.getLsbD 2 = false → v.getLsbD 3 = false → s.shadowing = true →
    s.flag Reg.RELAY_STAT 6 = false → s.rly.clash = false → s.sync = 0 → s.pac.ops = [] → Completes (.join v) s (fun t => t.sync = 1 ∧
    t.rly.applied = none ∧ t.rly.part = none ∧ t.role = s.role ∧ (∀ k, k < 16 → t.regN (Reg.RELAY_MP_PROD k) = 0) ∧
    t.lane.teth.outbox = s.lane.teth.outbox ++ [(13, relBody 0 s.pt 0 (leBytes 4 (s.regN Reg.CFG_BUILD_LO) ++ leBytes 4 (s.regN Reg.CFG_BUILD_HI)))] ∧
    SameMem s t)) ∧
  (∀ (s : State) (v : BitVec 32), v.getLsbD 0 = true → v.getLsbD 1 = false → v.getLsbD 2 = false → v.getLsbD 3 = false →
    s.shadowing = false ∨ s.flag Reg.RELAY_STAT 6 = true ∨ s.rly.clash = true → Completes (.join v) s (fun t => t = s.raise blkRly 19)) ∧
  (∀ (s : State), s.flag Reg.RELAY_CFG 4 = true → s.shadowing = true → s.flag Reg.RELAY_STAT 6 = false → s.rly.clash = false → s.sync = 0 →
    s.pac.ops = [] → s.rly.autoAt = none → Completes (.autoJoin) s (fun t => t.sync = 1 ∧ t.rly.autoAt = some s.tim.cks ∧ t.rly.applied = none ∧
    SameMem s t)) ∧
  (∀ (s : State), s.flag Reg.RELAY_CFG 4 = false ∨ s.shadowing = false ∨ s.sync ≠ 0 → Completes (.autoJoin) s (fun t => t = s)) ∧
  (∀ (s : State) (v : BitVec 32), v.getLsbD 0 = false → v.getLsbD 1 = true → v.getLsbD 2 = false → v.getLsbD 3 = false → s.role = 1 → s.sync = 2 →
    s.pac.ops = [] → s.mode ≠ mSafe → Completes (.relayCmdHandover v) s (fun t => t.role = rSecondary ∧ t.mode = mShadow ∧ t.sync = 0 ∧
    t.regN Reg.RELAY_JSEQ_TX = (s.regN Reg.RELAY_JSEQ_TX + 1) % 2 ^ 32 ∧ t.rly.buf = [] ∧ SameMem s t)) ∧
  (∀ (s : State) (v : BitVec 32), v.getLsbD 0 = false → v.getLsbD 1 = true → v.getLsbD 2 = false → v.getLsbD 3 = false → s.role = 1 → s.sync ≠ 2 →
    Completes (.relayCmdHandover v) s (fun t => t = s.raise blkRly 19)) ∧
  (∀ (s : State) (v : BitVec 32), v.getLsbD 0 = false → v.getLsbD 1 = false → v.getLsbD 2 = true → v.getLsbD 3 = false →
    Completes (.unfence v) s (fun t => t = s.setRly { s.rly with fence := false })) ∧
  (∀ (s : State) (v : BitVec 32), v.getLsbD 0 = false → v.getLsbD 1 = false → v.getLsbD 2 = false → v.getLsbD 3 = true →
    Completes (.ctrClear v) s (fun t => t = s.setRly { s.rly with seen := none })) ∧
  (∀ (s : State), s.role = rPrimary → s.rly.peer = rSecondary → Completes (.fenceRelease) s (fun t => t = s.setRly { s.rly with fence := false })) ∧
  (∀ (s : State), s.role ≠ rPrimary ∨ s.rly.peer ≠ rSecondary → Completes (.fenceRelease) s (fun t => t = s)) ∧
  (∀ (s : State) (n : Fin 8) (v : BitVec 32), modeIn s 0x14 = false → Completes (.relayMirCommit n v) s (fun t => t = s.raise blkRly 31)) ∧
  (∀ (s : State) (n : Fin 8) (v : BitVec 32), modeIn s 0x14 = true → v.getLsbD 0 = true → mirOn s n = false → mirBad s n = false →
    Completes (.relayMirCommit n v) s (fun t => t = s.setRegN (Reg.RELAY_MIR_CTL n) 3)) ∧
  (∀ (s : State) (n : Fin 8) (v : BitVec 32), modeIn s 0x14 = true → v.getLsbD 0 = true → mirOn s n = false → mirBad s n = true →
    Completes (.relayMirCommit n v) s (fun t => t.regN (Reg.RELAY_MIR_CTL n) = 5 ∧ Raised t blkRly 20 ∧
    SameRegs s t (fun a => a = Reg.RELAY_MIR_CTL n ∨ evtOf blkRly 20 a) ∧ SameMem s t)) ∧
  (∀ (s : State) (n : Fin 8) (v : BitVec 32), modeIn s 0x14 = true → v.getLsbD 0 = false → Completes (.relayMirCommit n v) s (fun t =>
    t = s.setRegN (Reg.RELAY_MIR_CTL n) 0)) ∧
  (∀ (s : State) (init : Fin 512) (f q n : Nat) (r : List (Nat × Nat × Nat)), s.rly.gaps = (f, q, n) :: r → init.val ≠ 474 →
    Completes (.relayGapRead init) s (fun t => t.ans = ⟨init, 0, [satNat 16 n]⟩ ∧ t.rly = { s.rly with gaps := r } ∧
    t.flag Reg.RELAY_GAP_STAT 0 = r.isEmpty ∧ SameRegs s t (· = Reg.RELAY_GAP_STAT) ∧ SameMem s t)) ∧
  (∀ (s : State) (init : Fin 512), s.rly.gaps = [] → Completes (.relayGapRead init) s (fun t => t = s.answer init 0 [0]))

/-- FMP: receipt, the commands, segmented transfers, the store, MGMT_SPI (R421, R423, R425, R426, R429, R430, R431, R434, R436, R441, 15_object_dictionary.md). -/
def Obligations.ManagementProtocol : Prop :=
  (∀ (s : State) (via : Fin 3) (peer : BitVec 48) (frame : List Byte), fwRuns s = false ∨ fmpOn s via.val = false →
    Completes (.fmpFrameRx via peer frame) s (fun t => t = s)) ∧
  (∀ (s : State) (via : Fin 3) (peer : BitVec 48) (frame : List Byte), fwRuns s = true → fmpOn s via.val = true → via.val ≠ 2 → fForm frame = false →
    Completes (.fmpFrameRx via peer frame) s (fun t => t.regN Reg.FMP_DROP_CNT = satNat 32 (s.regN Reg.FMP_DROP_CNT + 1) ∧ Raised t blkSvc 30 ∧
    t.fmp = s.fmp ∧ t.ans = s.ans ∧ SameRegs s t (fun a => a = Reg.FMP_DROP_CNT ∨ evtOf blkSvc 30 a) ∧ SameMem s t)) ∧
  (∀ (s : State) (via : Fin 3) (peer : BitVec 48) (frame : List Byte), fwRuns s = true → fmpOn s via.val = true → via.val ≠ 2 → fForm frame = true →
    frame.length = 48 + fLen frame → 8 ≤ s.fmp.queue.length → Completes (.fmpFrameRx via peer frame) s (fun t =>
    t.regN Reg.FMP_DROP_CNT = satNat 32 (s.regN Reg.FMP_DROP_CNT + 1) ∧ t.fmp = s.fmp ∧ t.ans = s.ans ∧ SameMem s t)) ∧
  (∀ (s : State) (via : Fin 3) (peer : BitVec 48) (frame : List Byte), fwRuns s = true → fmpOn s via.val = true → via.val ≠ 2 → fForm frame = true →
    frame.length = 48 + fLen frame → s.fmp.queue = [] → fmpCmds.contains (fCmd frame) = true → fRole frame = 0 → fCmd frame = 0 →
    Completes (.fmpFrameRx via peer frame) s (fun t => t = s.setFmp { s.fmp with queue := [⟨via.val, peer.toNat, frame⟩] })) ∧
  (∀ (s : State) (via : Fin 3) (peer : BitVec 48) (frame : List Byte), fwRuns s = true → fmpOn s via.val = true → via.val ≠ 2 → fForm frame = true →
    frame.length = 48 + fLen frame → s.fmp.queue = [] → fmpCmds.contains (fCmd frame) = true → 1 ≤ fRole frame → fRole frame ≤ 3 → s.fmp.fails = [] →
    fSeq frame ≠ (fmpRole s (fRole frame)).last → Completes (.fmpFrameRx via peer frame) s (fun t => (fmpAuth s frame = true →
    t.fmp.queue = [⟨via.val, peer.toNat, frame⟩] ∧ (fmpRole t (fRole frame)).last = fSeq frame ∧
    (fmpRole t (fRole frame)).nonce = (fmpRole s (fRole frame)).nonce ∧ t.regN Reg.FMP_REQ_CNT = satNat 32 (s.regN Reg.FMP_REQ_CNT + 1) ∧
    SameRegs s t (· = Reg.FMP_REQ_CNT)) ∧ (fmpAuth s frame = false → t.fmp.queue = [] ∧ t.fmp.roles = s.fmp.roles ∧
    t.ans = ⟨8210 + via.val, 0, (fResp frame none 0x0C01 0 0 []).map (·.toNat)⟩ ∧ t.regN Reg.FMP_AUTH_CNT = satNat 32 (s.regN Reg.FMP_AUTH_CNT + 1) ∧
    Raised t blkSvc 24) ∧ SameMem s t)) ∧
  (∀ (s : State) (f : List Byte) (peer : BitVec 48) (frame : List Byte), fwRuns s = true → s.flag Reg.FMP_CTL 1 = true → s.fmp.spiRx = some f →
    s.fmp.queue = [] → fForm f = true → f.length = 48 + fLen f → fRole f = 0 → fCmd f = 0 → Completes (.fmpFrameRx 2 peer frame) s (fun t =>
    t = s.setFmp { s.fmp with spiRx := none, queue := [⟨2, 0, f⟩] })) ∧
  (∀ (s : State) (q : FmpReq) (r : List FmpReq), s.fmp.queue = q :: r → fmpServes s = true → s.fmp.signing = false → fCmd q.frame = 0 → q.via ≠ 2 →
    Completes (.hello) s (fun t => t.fmp.queue = r ∧
    t.ans = ⟨8210 + q.via, 0, (fResp q.frame (if fRole q.frame = 0 then none else some (fKey s (fRole q.frame))) 0 0 (0) (leBytes 4 0x0C8E0008 ++ leBytes 4 idcode ++ leBytes 1 s.mode ++ [0, 0, 0] ++ leBytes 8 (fmpRole s 1).nonce ++ leBytes 8 (fmpRole s 2).nonce ++ leBytes 8 (fmpRole s 3).nonce)).map (·.toNat)⟩ ∧
    t.regs = s.regs ∧ SameMem s t)) ∧
  (∀ (s : State) (q : FmpReq) (r : List FmpReq) (o : Obj), s.fmp.queue = q :: r → fmpServes s = true → s.fmp.signing = false → fCmd q.frame = 1 →
    q.via ≠ 2 → nameOf s.life (fIndex q.frame) (fSub q.frame) = .obj o → o.index < 0xA000 → o.role ≤ fRole q.frame → o.acc ≠ .wo → fLen q.frame = 0 →
    fTcode q.frame = 0 → o.ty ≠ 14 → o.size ≤ 1024 → Completes (.read) s (fun t => t.fmp.queue = r ∧
    t.ans = ⟨8210 + q.via, 0, (fResp q.frame (if fRole q.frame = 0 then none else some (fKey s (fRole q.frame))) 0 0 (o.ty) (objGet s o (fSub q.frame))).map (·.toNat)⟩ ∧
    t.regs = s.regs ∧ t.fmp.vals = s.fmp.vals ∧ t.mem = s.mem)) ∧
  (∀ (s : State) (q : FmpReq) (r : List FmpReq) (c : Nat), s.fmp.queue = q :: r → fmpServes s = true → s.fmp.signing = false → fCmd q.frame = 1 →
    q.via ≠ 2 → nameOf s.life (fIndex q.frame) (fSub q.frame) = .none c → c ≠ 0 → Completes (.read) s (fun t => t.fmp.queue = r ∧
    t.ans = ⟨8210 + q.via, 0, (fResp q.frame (if fRole q.frame = 0 then none else some (fKey s (fRole q.frame))) c 0 (0) ([])).map (·.toNat)⟩ ∧
    t.regN Reg.FMP_ABORT_CNT = satNat 32 (s.regN Reg.FMP_ABORT_CNT + 1) ∧ SameRegs s t (· = Reg.FMP_ABORT_CNT) ∧ t.fmp.vals = s.fmp.vals ∧
    t.fmp.segs = s.fmp.segs ∧ t.fmp.store = s.fmp.store ∧ SameMem s t)) ∧
  (∀ (s : State) (q : FmpReq) (r : List FmpReq) (o : Obj), s.fmp.queue = q :: r → fmpServes s = true → s.fmp.signing = false → fCmd q.frame = 1 →
    q.via ≠ 2 → nameOf s.life (fIndex q.frame) (fSub q.frame) = .obj o → o.index < 0xA000 → fRole q.frame < o.role → Completes (.read) s (fun t =>
    t.fmp.queue = r ∧
    t.ans = ⟨8210 + q.via, 0, (fResp q.frame (if fRole q.frame = 0 then none else some (fKey s (fRole q.frame))) 0x0A07 0 (0) ([])).map (·.toNat)⟩ ∧
    t.regN Reg.FMP_ABORT_CNT = satNat 32 (s.regN Reg.FMP_ABORT_CNT + 1) ∧ SameRegs s t (· = Reg.FMP_ABORT_CNT) ∧ t.fmp.vals = s.fmp.vals ∧
    t.fmp.segs = s.fmp.segs ∧ t.fmp.store = s.fmp.store ∧ SameMem s t)) ∧
  (∀ (s : State) (q : FmpReq) (r : List FmpReq) (o : Obj), s.fmp.queue = q :: r → fmpServes s = true → s.fmp.signing = false → fCmd q.frame = 1 →
    q.via ≠ 2 → nameOf s.life (fIndex q.frame) (fSub q.frame) = .obj o → o.index < 0xA000 → o.role ≤ fRole q.frame → o.acc = .wo →
    Completes (.read) s (fun t => t.fmp.queue = r ∧
    t.ans = ⟨8210 + q.via, 0, (fResp q.frame (if fRole q.frame = 0 then none else some (fKey s (fRole q.frame))) 0x0A09 0 (0) ([])).map (·.toNat)⟩ ∧
    t.regN Reg.FMP_ABORT_CNT = satNat 32 (s.regN Reg.FMP_ABORT_CNT + 1) ∧ SameRegs s t (· = Reg.FMP_ABORT_CNT) ∧ t.fmp.vals = s.fmp.vals ∧
    t.fmp.segs = s.fmp.segs ∧ t.fmp.store = s.fmp.store ∧ SameMem s t)) ∧
  (∀ (s : State) (q : FmpReq) (r : List FmpReq), s.fmp.queue = q :: r → fmpServes s = true → s.fmp.signing = false → fCmd q.frame = 1 → q.via ≠ 2 →
    nameOf s.life (fIndex q.frame) (fSub q.frame) = .user → s.fmp.user = none → userBusy s = false → dpServer s (fIndex q.frame) = none →
    Completes (.read) s (fun t => t.fmp.queue = r ∧
    t.ans = ⟨8210 + q.via, 0, (fResp q.frame (if fRole q.frame = 0 then none else some (fKey s (fRole q.frame))) 0x0A01 0 (0) ([])).map (·.toNat)⟩ ∧
    SameMem s t)) ∧
  (∀ (s : State) (q : FmpReq) (r : List FmpReq) (o : Obj), s.fmp.queue = q :: r → fmpServes s = true → s.fmp.signing = false → fCmd q.frame = 2 →
    q.via ≠ 2 → nameOf s.life (fIndex q.frame) (fSub q.frame) = .obj o → o.index < 0xA000 → o.role ≤ fRole q.frame → o.acc ≠ .ro → o.acc ≠ .const →
    fTcode q.frame = o.ty → fLen q.frame = o.size → o.ty ≠ 14 → o.size ≤ 1024 → o.acc = .rw → s.shadowing = false → jOn s = false → o.ty ≠ 1 →
    o.ty ≠ 12 → o.home = .kept → objBusy s o (fSub q.frame) (leNat (fPay q.frame)) = 0 → objRange s o (fSub q.frame) (fPay q.frame) = true →
    o.index ≠ 0x9020 → Completes (.write) s (fun t => t.fmp.queue = r ∧
    t.ans = ⟨8210 + q.via, 0, (fResp q.frame (if fRole q.frame = 0 then none else some (fKey s (fRole q.frame))) 0 0 (0) ([])).map (·.toNat)⟩ ∧
    (t.fmp.vals.find? (fun e => e.1 == valKey o.index (fSub q.frame))).map (·.2) = some (fPay q.frame) ∧ t.regs = s.regs ∧ SameMem s t)) ∧
  (∀ (s : State) (q : FmpReq) (r : List FmpReq) (v : BitVec 32), s.fmp.queue = q :: r → fmpServes s = true → s.fmp.signing = false →
    fCmd q.frame = 2 → q.via ≠ 2 → fIndex q.frame = 0x2101 → fSub q.frame = 0 → fTcode q.frame = 4 → fRole q.frame = 3 → fLen q.frame = 4 →
    fPay q.frame = leBytes 4 v.toNat → jOn s = false → s.shadowing = false → s.fmp.vals = [] → Completes (.write) s (fun t => t.fmp.queue = r ∧
    t.ans = ⟨8210 + q.via, 0, (fResp q.frame (if fRole q.frame = 0 then none else some (fKey s (fRole q.frame))) 0 0 (0) ([])).map (·.toNat)⟩ ∧
    t.regN Reg.HO_LIMIT = v.toNat ∧ SameRegs s t (· = Reg.HO_LIMIT) ∧ SameMem s t)) ∧
  (∀ (s : State) (q : FmpReq) (r : List FmpReq) (o : Obj), s.fmp.queue = q :: r → fmpServes s = true → s.fmp.signing = false → fCmd q.frame = 2 →
    q.via ≠ 2 → nameOf s.life (fIndex q.frame) (fSub q.frame) = .obj o → o.index < 0xA000 → o.role ≤ fRole q.frame → o.acc = .ro ∨ o.acc = .const →
    Completes (.write) s (fun t => t.fmp.queue = r ∧
    t.ans = ⟨8210 + q.via, 0, (fResp q.frame (if fRole q.frame = 0 then none else some (fKey s (fRole q.frame))) 0x0A05 0 (0) ([])).map (·.toNat)⟩ ∧
    t.regN Reg.FMP_ABORT_CNT = satNat 32 (s.regN Reg.FMP_ABORT_CNT + 1) ∧ SameRegs s t (· = Reg.FMP_ABORT_CNT) ∧ t.fmp.vals = s.fmp.vals ∧
    t.fmp.segs = s.fmp.segs ∧ t.fmp.store = s.fmp.store ∧ SameMem s t)) ∧
  (∀ (s : State) (q : FmpReq) (r : List FmpReq) (o : Obj), s.fmp.queue = q :: r → fmpServes s = true → s.fmp.signing = false → fCmd q.frame = 2 →
    q.via ≠ 2 → nameOf s.life (fIndex q.frame) (fSub q.frame) = .obj o → o.index < 0xA000 → o.role ≤ fRole q.frame → o.acc ≠ .ro → o.acc ≠ .const →
    fTcode q.frame ≠ o.ty ∨ fLen q.frame ≠ o.size → Completes (.write) s (fun t => t.fmp.queue = r ∧
    t.ans = ⟨8210 + q.via, 0, (fResp q.frame (if fRole q.frame = 0 then none else some (fKey s (fRole q.frame))) 0x0A03 0 (0) ([])).map (·.toNat)⟩ ∧
    t.regN Reg.FMP_ABORT_CNT = satNat 32 (s.regN Reg.FMP_ABORT_CNT + 1) ∧ SameRegs s t (· = Reg.FMP_ABORT_CNT) ∧ t.fmp.vals = s.fmp.vals ∧
    t.fmp.segs = s.fmp.segs ∧ t.fmp.store = s.fmp.store ∧ SameMem s t)) ∧
  (∀ (s : State) (q : FmpReq) (r : List FmpReq) (o : Obj), s.fmp.queue = q :: r → fmpServes s = true → s.fmp.signing = false → fCmd q.frame = 2 →
    q.via ≠ 2 → nameOf s.life (fIndex q.frame) (fSub q.frame) = .obj o → o.index < 0xA000 → o.role ≤ fRole q.frame → o.acc ≠ .ro → o.acc ≠ .const →
    fTcode q.frame = o.ty → fLen q.frame = o.size → o.ty ≠ 14 → o.size ≤ 1024 → objMode s o (fSub q.frame) = false → Completes (.write) s (fun t =>
    t.fmp.queue = r ∧
    t.ans = ⟨8210 + q.via, 0, (fResp q.frame (if fRole q.frame = 0 then none else some (fKey s (fRole q.frame))) 0x0A06 0 (0) ([])).map (·.toNat)⟩ ∧
    t.regN Reg.FMP_ABORT_CNT = satNat 32 (s.regN Reg.FMP_ABORT_CNT + 1) ∧ SameRegs s t (· = Reg.FMP_ABORT_CNT) ∧ t.fmp.vals = s.fmp.vals ∧
    t.fmp.segs = s.fmp.segs ∧ t.fmp.store = s.fmp.store ∧ SameMem s t)) ∧
  (∀ (s : State) (q : FmpReq) (r : List FmpReq) (o : Obj), s.fmp.queue = q :: r → fmpServes s = true → s.fmp.signing = false → fCmd q.frame = 2 →
    q.via ≠ 2 → nameOf s.life (fIndex q.frame) (fSub q.frame) = .obj o → o.index < 0xA000 → o.role ≤ fRole q.frame → o.acc ≠ .ro → o.acc ≠ .const →
    fTcode q.frame = o.ty → fLen q.frame = o.size → o.ty ≠ 14 → o.size ≤ 1024 → objMode s o (fSub q.frame) = true →
    objBusy s o (fSub q.frame) (leNat (fPay q.frame)) = 0 → objRange s o (fSub q.frame) (fPay q.frame) = false → Completes (.write) s (fun t =>
    t.fmp.queue = r ∧
    t.ans = ⟨8210 + q.via, 0, (fResp q.frame (if fRole q.frame = 0 then none else some (fKey s (fRole q.frame))) 0x0A04 0 (0) ([])).map (·.toNat)⟩ ∧
    t.regN Reg.FMP_ABORT_CNT = satNat 32 (s.regN Reg.FMP_ABORT_CNT + 1) ∧ SameRegs s t (· = Reg.FMP_ABORT_CNT) ∧ t.fmp.vals = s.fmp.vals ∧
    t.fmp.segs = s.fmp.segs ∧ t.fmp.store = s.fmp.store ∧ SameMem s t)) ∧
  (∀ (s : State) (q : FmpReq) (r : List FmpReq) (o : Obj), s.fmp.queue = q :: r → fmpServes s = true → s.fmp.signing = false → fCmd q.frame = 5 →
    q.via ≠ 2 → nameOf s.life (fIndex q.frame) (fSub q.frame) = .obj o → o.index < 0xA000 → o.role ≤ fRole q.frame → o.acc ≠ .wo → fLen q.frame = 0 →
    fTcode q.frame = 0 → fByte q.frame 17 = 0 → segOf s (fRole q.frame) = none → Completes (.segOpen) s (fun t => t.fmp.queue = r ∧
    t.ans = ⟨8210 + q.via, 0, (fResp q.frame (if fRole q.frame = 0 then none else some (fKey s (fRole q.frame))) 0 0 (0) (leBytes 4 (objGet s o (fSub q.frame)).length)).map (·.toNat)⟩ ∧
    segOf t (fRole q.frame) = some { write := false, index := fIndex q.frame, sub := fSub q.frame, size := (objGet s o (fSub q.frame)).length, data := objGet s o (fSub q.frame) } ∧
    t.regs = s.regs ∧ SameMem s t)) ∧
  (∀ (s : State) (q : FmpReq) (r : List FmpReq) (o : Obj), s.fmp.queue = q :: r → fmpServes s = true → s.fmp.signing = false → fCmd q.frame = 5 →
    q.via ≠ 2 → nameOf s.life (fIndex q.frame) (fSub q.frame) = .obj o → o.index < 0xA000 → o.role ≤ fRole q.frame → o.acc = .rw →
    s.shadowing = false → fByte q.frame 17 = 1 → fTcode q.frame = o.ty → fLen q.frame = 4 → leNat (fPay q.frame) = o.size →
    segOf s (fRole q.frame) = none → Completes (.segOpen) s (fun t => t.fmp.queue = r ∧
    t.ans = ⟨8210 + q.via, 0, (fResp q.frame (if fRole q.frame = 0 then none else some (fKey s (fRole q.frame))) 0 0 (0) ([])).map (·.toNat)⟩ ∧
    segOf t (fRole q.frame) = some { write := true, index := fIndex q.frame, sub := fSub q.frame, size := o.size, data := [] } ∧ t.regs = s.regs ∧
    SameMem s t)) ∧
  (∀ (s : State) (q : FmpReq) (r : List FmpReq) (o : Obj), s.fmp.queue = q :: r → fmpServes s = true → s.fmp.signing = false → fCmd q.frame = 5 →
    q.via ≠ 2 → nameOf s.life (fIndex q.frame) (fSub q.frame) = .obj o → o.index < 0xA000 → o.role ≤ fRole q.frame → o.acc ≠ .wo → fLen q.frame = 0 →
    fTcode q.frame = 0 → fByte q.frame 17 = 0 → (segOf s (fRole q.frame)).isSome = true → Completes (.segOpen) s (fun t => t.fmp.queue = r ∧
    t.ans = ⟨8210 + q.via, 0, (fResp q.frame (if fRole q.frame = 0 then none else some (fKey s (fRole q.frame))) 0x0A08 0 (0) ([])).map (·.toNat)⟩ ∧
    t.regN Reg.FMP_ABORT_CNT = satNat 32 (s.regN Reg.FMP_ABORT_CNT + 1) ∧ SameRegs s t (· = Reg.FMP_ABORT_CNT) ∧ t.fmp.vals = s.fmp.vals ∧
    t.fmp.segs = s.fmp.segs ∧ t.fmp.store = s.fmp.store ∧ SameMem s t)) ∧
  (∀ (s : State) (q : FmpReq) (r : List FmpReq) (o : Obj) (g : Segs), s.fmp.queue = q :: r → fmpServes s = true → s.fmp.signing = false →
    fCmd q.frame = 6 → q.via ≠ 2 → nameOf s.life (fIndex q.frame) (fSub q.frame) = .obj o → o.index < 0xA000 → o.role ≤ fRole q.frame →
    segOf s (fRole q.frame) = some g → g.index = fIndex q.frame → g.sub = fSub q.frame → g.write = true → fOffset q.frame = g.data.length →
    g.data.length + fLen q.frame ≤ g.size → Completes (.segData) s (fun t => t.fmp.queue = r ∧
    t.ans = ⟨8210 + q.via, 0, (fResp q.frame (if fRole q.frame = 0 then none else some (fKey s (fRole q.frame))) 0 0 (0) ([])).map (·.toNat)⟩ ∧
    segOf t (fRole q.frame) = some { g with data := g.data ++ fPay q.frame } ∧ t.regs = s.regs ∧ SameMem s t)) ∧
  (∀ (s : State) (q : FmpReq) (r : List FmpReq) (o : Obj) (g : Segs), s.fmp.queue = q :: r → fmpServes s = true → s.fmp.signing = false →
    fCmd q.frame = 6 → q.via ≠ 2 → nameOf s.life (fIndex q.frame) (fSub q.frame) = .obj o → o.index < 0xA000 → o.role ≤ fRole q.frame →
    segOf s (fRole q.frame) = some g → g.index = fIndex q.frame → g.sub = fSub q.frame → g.write = false → fOffset q.frame = g.pos →
    fLen q.frame = 0 → Completes (.segData) s (fun t => t.fmp.queue = r ∧
    t.ans = ⟨8210 + q.via, 0, (fResp q.frame (if fRole q.frame = 0 then none else some (fKey s (fRole q.frame))) 0 (if g.pos + 1024 < g.size then 2 else 0) ((segTy s g)) (slice g.data g.pos (Nat.min 1024 (g.size - g.pos)))).map (·.toNat)⟩ ∧
    segOf t (fRole q.frame) = some { g with pos := g.pos + Nat.min 1024 (g.size - g.pos) } ∧ t.regs = s.regs ∧ SameMem s t)) ∧
  (∀ (s : State) (q : FmpReq) (r : List FmpReq) (o : Obj) (g : Segs), s.fmp.queue = q :: r → fmpServes s = true → s.fmp.signing = false →
    fCmd q.frame = 6 → q.via ≠ 2 → nameOf s.life (fIndex q.frame) (fSub q.frame) = .obj o → o.index < 0xA000 → o.role ≤ fRole q.frame →
    segOf s (fRole q.frame) = some g → g.index = fIndex q.frame → g.sub = fSub q.frame →
    fOffset q.frame ≠ (if g.write then g.data.length else g.pos) → Completes (.segData) s (fun t => t.fmp.queue = r ∧
    t.ans = ⟨8210 + q.via, 0, (fResp q.frame (if fRole q.frame = 0 then none else some (fKey s (fRole q.frame))) 0x0A0B 0 (0) ([])).map (·.toNat)⟩ ∧
    t.regN Reg.FMP_ABORT_CNT = satNat 32 (s.regN Reg.FMP_ABORT_CNT + 1) ∧ SameRegs s t (· = Reg.FMP_ABORT_CNT) ∧ t.fmp.vals = s.fmp.vals ∧
    t.fmp.segs = s.fmp.segs ∧ t.fmp.store = s.fmp.store ∧ SameMem s t)) ∧
  (∀ (s : State) (q : FmpReq) (r : List FmpReq) (o : Obj) (g : Segs), s.fmp.queue = q :: r → fmpServes s = true → s.fmp.signing = false →
    fCmd q.frame = 7 → q.via ≠ 2 → nameOf s.life (fIndex q.frame) (fSub q.frame) = .obj o → o.index < 0xA000 → o.role ≤ fRole q.frame →
    segOf s (fRole q.frame) = some g → g.index = fIndex q.frame → g.sub = fSub q.frame → g.write = true → fOffset q.frame = 0 → fLen q.frame = 0 →
    g.data.length = g.size → o.acc = .rw → o.home = .kept → s.shadowing = false → jOn s = false → objBusy s o g.sub (leNat g.data) = 0 →
    objRange s o g.sub g.data = true → Completes (.segClose) s (fun t => t.fmp.queue = r ∧
    t.ans = ⟨8210 + q.via, 0, (fResp q.frame (if fRole q.frame = 0 then none else some (fKey s (fRole q.frame))) 0 0 (0) ([])).map (·.toNat)⟩ ∧
    segOf t (fRole q.frame) = none ∧ (t.fmp.vals.find? (fun e => e.1 == valKey o.index g.sub)).map (·.2) = some g.data ∧ t.regs = s.regs ∧
    SameMem s t)) ∧
  (∀ (s : State) (q : FmpReq) (r : List FmpReq) (o : Obj) (g : Segs), s.fmp.queue = q :: r → fmpServes s = true → s.fmp.signing = false →
    fCmd q.frame = 7 → q.via ≠ 2 → nameOf s.life (fIndex q.frame) (fSub q.frame) = .obj o → o.index < 0xA000 → o.role ≤ fRole q.frame →
    segOf s (fRole q.frame) = some g → g.index = fIndex q.frame → g.sub = fSub q.frame → g.write = true → fOffset q.frame = 0 → fLen q.frame = 0 →
    g.data.length ≠ g.size → Completes (.segClose) s (fun t => t.fmp.queue = r ∧
    t.ans = ⟨8210 + q.via, 0, (fResp q.frame (if fRole q.frame = 0 then none else some (fKey s (fRole q.frame))) 0x0A03 0 (0) ([])).map (·.toNat)⟩ ∧
    segOf t (fRole q.frame) = none ∧ t.fmp.vals = s.fmp.vals ∧ SameRegs s t (· = Reg.FMP_ABORT_CNT) ∧ SameMem s t)) ∧
  (∀ (s : State) (q : FmpReq) (r : List FmpReq), s.fmp.queue = q :: r → fmpServes s = true → s.fmp.signing = false → fCmd q.frame = 8 → q.via ≠ 2 →
    Completes (.segAbort) s (fun t => t.fmp.queue = r ∧
    t.ans = ⟨8210 + q.via, 0, (fResp q.frame (if fRole q.frame = 0 then none else some (fKey s (fRole q.frame))) 0 0 (0) ([])).map (·.toNat)⟩ ∧
    segOf t (fRole q.frame) = none ∧ t.fmp.vals = s.fmp.vals ∧ t.regs = s.regs ∧ SameMem s t)) ∧
  (∀ (s : State) (role : Fin 4), Completes (.segTimeout role) s (fun t => segOf t role = none ∧ (∀ k, k ≠ role.val → segOf t k = segOf s k) ∧
    t.fmp.queue = s.fmp.queue ∧ t.fmp.vals = s.fmp.vals ∧ t.regs = s.regs ∧ t.mem = s.mem)) ∧
  (∀ (s : State) (q : FmpReq) (r : List FmpReq), s.fmp.queue = q :: r → fmpServes s = true → s.fmp.signing = false → fCmd q.frame = 16 → q.via ≠ 2 →
    2 ≤ fRole q.frame → fLen q.frame = 0 → s.fmp.store = none → (sectOf s ((s.fmp.at_ + 1) % 8)).retired = false →
    sectCount s ((s.fmp.at_ + 1) % 8) < 100000 → Completes (.store) s (fun t => t.fmp.queue = r ∧ t.ans = s.ans ∧
    t.fmp.store = some { by_ := some q, vals := storeVals s, sector := (s.fmp.at_ + 1) % 8 } ∧
    (sectOf t ((s.fmp.at_ + 1) % 8)).count = some (sectCount s ((s.fmp.at_ + 1) % 8) + 1) ∧ (sectOf t ((s.fmp.at_ + 1) % 8)).image = none ∧
    t.fmp.at_ = (s.fmp.at_ + 1) % 8 ∧ t.regs = s.regs ∧ SameMem s t)) ∧
  (∀ (s : State) (q : FmpReq) (r : List FmpReq), s.fmp.queue = q :: r → fmpServes s = true → s.fmp.signing = false → fCmd q.frame = 16 → q.via ≠ 2 →
    fRole q.frame < 2 → Completes (.store) s (fun t => t.fmp.queue = r ∧
    t.ans = ⟨8210 + q.via, 0, (fResp q.frame (if fRole q.frame = 0 then none else some (fKey s (fRole q.frame))) 0x0A07 0 (0) ([])).map (·.toNat)⟩ ∧
    t.regN Reg.FMP_ABORT_CNT = satNat 32 (s.regN Reg.FMP_ABORT_CNT + 1) ∧ SameRegs s t (· = Reg.FMP_ABORT_CNT) ∧ t.fmp.vals = s.fmp.vals ∧
    t.fmp.segs = s.fmp.segs ∧ t.fmp.store = s.fmp.store ∧ SameMem s t)) ∧
  (∀ (s : State) (q : FmpReq) (r : List FmpReq), s.fmp.queue = q :: r → fmpServes s = true → s.fmp.signing = false → fCmd q.frame = 16 → q.via ≠ 2 →
    2 ≤ fRole q.frame → fLen q.frame = 0 → s.fmp.store.isSome = true → Completes (.store) s (fun t => t.fmp.queue = r ∧
    t.ans = ⟨8210 + q.via, 0, (fResp q.frame (if fRole q.frame = 0 then none else some (fKey s (fRole q.frame))) 0x0A08 0 (0) ([])).map (·.toNat)⟩ ∧
    t.regN Reg.FMP_ABORT_CNT = satNat 32 (s.regN Reg.FMP_ABORT_CNT + 1) ∧ SameRegs s t (· = Reg.FMP_ABORT_CNT) ∧ t.fmp.vals = s.fmp.vals ∧
    t.fmp.segs = s.fmp.segs ∧ t.fmp.store = s.fmp.store ∧ SameMem s t)) ∧
  (∀ (s : State) (x : Storing) (q : FmpReq), s.fmp.store = some x → x.by_ = some q → q.via ≠ 2 → Completes (.storeDone true) s (fun t =>
    t.fmp.store = none ∧ t.fmp.abort = 0 ∧ t.regN Reg.FMP_STORE_GEN = (s.regN Reg.FMP_STORE_GEN + 1) % 2 ^ 32 ∧
    (sectOf t x.sector).image = some ((s.regN Reg.FMP_STORE_GEN + 1) % 2 ^ 32, x.vals) ∧ Raised t blkSvc 25 ∧
    t.ans = ⟨8210 + q.via, 0, (fResp q.frame (if fRole q.frame = 0 then none else some (fKey s (fRole q.frame))) 0 0 0 []).map (·.toNat)⟩ ∧
    SameMem s t)) ∧
  (∀ (s : State) (x : Storing), s.fmp.store = some x → x.again = true → Completes (.storeDone false) s (fun t => t.fmp.store = none ∧
    t.fmp.abort = 0x0B01 ∧ (sectOf t x.sector).retired = true ∧ (sectOf t x.sector).image = none ∧ Raised t blkSvc 26 ∧ Raised t blkSvc 27 ∧
    t.regN Reg.FMP_STORE_GEN = s.regN Reg.FMP_STORE_GEN ∧ SameMem s t)) ∧
  (∀ (s : State) (x : Storing), s.fmp.store = some x → x.again = false → (sectOf s ((x.sector + 1) % 8)).retired = false → x.sector < 8 →
    sectCount s ((x.sector + 1) % 8) < 100000 → ((sectOf s ((x.sector + 1) % 8)).count).isSome = true → Completes (.storeDone false) s (fun t =>
    t.fmp.store = some { x with sector := (x.sector + 1) % 8, again := true } ∧ (sectOf t x.sector).retired = true ∧ Raised t blkSvc 27 ∧
    t.ans = s.ans ∧ SameMem s t)) ∧
  (∀ (s : State) (good : Bool), s.fmp.store = none → Completes (.storeDone good) s (fun t => t = s)) ∧
  (∀ (s : State) (q : FmpReq) (r : List FmpReq), s.fmp.queue = q :: r → fmpServes s = true → s.fmp.signing = false → fCmd q.frame = 17 → q.via ≠ 2 →
    fRole q.frame < 3 → Completes (.restoreDefaults) s (fun t => t.fmp.queue = r ∧
    t.ans = ⟨8210 + q.via, 0, (fResp q.frame (if fRole q.frame = 0 then none else some (fKey s (fRole q.frame))) 0x0A07 0 (0) ([])).map (·.toNat)⟩ ∧
    t.regN Reg.FMP_ABORT_CNT = satNat 32 (s.regN Reg.FMP_ABORT_CNT + 1) ∧ SameRegs s t (· = Reg.FMP_ABORT_CNT) ∧ t.fmp.vals = s.fmp.vals ∧
    t.fmp.segs = s.fmp.segs ∧ t.fmp.store = s.fmp.store ∧ SameMem s t)) ∧
  (∀ (s : State) (q : FmpReq) (r : List FmpReq), s.fmp.queue = q :: r → fmpServes s = true → s.fmp.signing = false → fCmd q.frame = 17 → q.via ≠ 2 →
    fRole q.frame = 3 → fLen q.frame = 0 → modeIn s 0x14 = false → Completes (.restoreDefaults) s (fun t => t.fmp.queue = r ∧
    t.ans = ⟨8210 + q.via, 0, (fResp q.frame (if fRole q.frame = 0 then none else some (fKey s (fRole q.frame))) 0x0A06 0 (0) ([])).map (·.toNat)⟩ ∧
    t.regN Reg.FMP_ABORT_CNT = satNat 32 (s.regN Reg.FMP_ABORT_CNT + 1) ∧ SameRegs s t (· = Reg.FMP_ABORT_CNT) ∧ t.fmp.vals = s.fmp.vals ∧
    t.fmp.segs = s.fmp.segs ∧ t.fmp.store = s.fmp.store ∧ SameMem s t)) ∧
  (∀ (s : State) (q : FmpReq) (r : List FmpReq), s.fmp.queue = q :: r → fmpServes s = true → s.fmp.signing = false → fCmd q.frame = 17 → q.via ≠ 2 →
    fRole q.frame = 3 → fLen q.frame = 0 → modeIn s 0x14 = true → s.fmp.store = none → jOn s = false → Completes (.restoreDefaults) s (fun t =>
    ((toDefaults s).fmp.queue = q :: r → (sectOf (toDefaults s) (((toDefaults s).fmp.at_ + 1) % 8)).retired = false →
    sectCount (toDefaults s) (((toDefaults s).fmp.at_ + 1) % 8) < 100000 → t.fmp.queue = r ∧
    t.fmp.store = some { by_ := some q, vals := storeVals (toDefaults s), sector := ((toDefaults s).fmp.at_ + 1) % 8 } ∧
    t.fmp.vals = (toDefaults s).fmp.vals ∧ t.regs = (toDefaults s).regs ∧ t.mem = (toDefaults s).mem))) ∧
  (∀ (s : State) (q : FmpReq) (r : List FmpReq), s.fmp.queue = q :: r → fmpServes s = true → s.fmp.signing = false → fCmd q.frame = 18 → q.via ≠ 2 →
    fLen q.frame = 0 → s.trngOk = true → Completes (.epoch) s (fun t => t.fmp.queue = r ∧ (fmpRole t (fRole q.frame)).last = 0 ∧
    segOf t (fRole q.frame) = none ∧ t.freeCtr = s.freeCtr + 8 ∧
    t.ans = ⟨8210 + q.via, 0, (fResp q.frame (if fRole q.frame = 0 then none else some (fKey s (fRole q.frame))) 0 0 0 (leBytes 8 (fmpRole t (fRole q.frame)).nonce)).map (·.toNat)⟩ ∧
    (∀ k, k ≠ fRole q.frame → fmpRole t k = fmpRole s k) ∧ t.regs = s.regs ∧ SameMem s t)) ∧
  (∀ (s : State) (ip : BitVec 32), fmpServes s = true → s.flag Reg.FMP_CTL 0 = true → valN s 0x1011 2 0 = ip.toNat → ip ≠ 0 →
    Completes (.arpRequest ip) s (fun t => t.ans = ⟨8210, 0, (padTo 6 (lookWords s Reg.MGT_ADDR_LO 2)).map (·.toNat)⟩ ∧
    t = { s with ans := t.ans })) ∧
  (∀ (s : State) (ip : BitVec 32), fmpServes s = false ∨ s.flag Reg.FMP_CTL 0 = false ∨ valN s 0x1011 2 0 ≠ ip.toNat ∨ ip = 0 →
    Completes (.arpRequest ip) s (fun t => t = s)) ∧
  (∀ (s : State) (ip : BitVec 32) (data : List Byte), fmpServes s = true → s.flag Reg.FMP_CTL 0 = true → valN s 0x1011 2 0 = ip.toNat → ip ≠ 0 →
    Completes (.icmpEcho ip data) s (fun t => t = s.answer 8210 0 (data.map (·.toNat)))) ∧
  (∀ (s : State) (frame : List Byte), spiOn s = true → s.fmp.spiRx = none → Completes (.mgmtSpiWrite frame) s (fun t =>
    t = s.setFmp { s.fmp with spiRx := some frame })) ∧
  (∀ (s : State) (frame : List Byte), spiOn s = true → s.fmp.spiRx.isSome = true → Completes (.mgmtSpiWrite frame) s (fun t =>
    t = s.setFmp { s.fmp with ovf := true })) ∧
  (∀ (s : State) (frame : List Byte), spiOn s = false → Completes (.mgmtSpiWrite frame) s (fun t => t = s)) ∧
  (∀ (s : State), spiOn s = true → Completes (.mgmtSpiStatus) s (fun t =>
    t = (s.setFmp { s.fmp with ovf := false }).answer 8212 0 [(if s.fmp.spi = [] then 0 else 1) + (if s.fmp.spiRx = none then 0 else 2) + (if s.fmp.ovf then 4 else 0)])) ∧
  (∀ (s : State) (f : List Byte) (l : List (List Byte)), spiOn s = true → s.fmp.spi = f :: l → Completes (.mgmtSpiRead) s (fun t =>
    t = (s.setFmp { s.fmp with spi := l }).answer 8212 0 ((leBytes 2 f.length ++ f).map (·.toNat))))

/-- Start-up, resets, power domains, the mode commands, STABLE, adaptive voltage and ageing (R445, R447, R448, R451, R452, R454, R455, R458, R460, R464, R579, 16_modes_power.md). -/
def Obligations.ModesPowerAndAgeing : Prop :=
  (∀ (s : State) (mode : BitVec 3) (pull : Bool), inReset s = true → s.pw.early = none → Completes (.porRelease mode pull true) s (fun t =>
    t.pw.boot = 1 ∧ t.regN Reg.CFG_STRAP = mode.toNat + 8 * bit pull ∧ t.regN Reg.PWR_RESET_CAUSE = 1 ∧ t.fld (Reg.PWR_PD_STAT 30) 2 0 = 1 ∧
    t.fld (Reg.PWR_PD_STAT 34) 2 0 = 1 ∧ (s.mode = mBackup → t.mode = mBoot) ∧ t.pw.porAt = s.tim.cks ∧ SameMem s t)) ∧
  (∀ (s : State) (mode : BitVec 3) (pull : Bool), inReset s = true → s.pw.early = none → Completes (.porRelease mode pull false) s (fun t =>
    t = s.setPw { s.pw with early := some (mode.toNat + 8 * bit pull) })) ∧
  (∀ (s : State) (mode : BitVec 3) (pull rails : Bool), inReset s = false → Completes (.porRelease mode pull rails) s (fun t => t = s)) ∧
  (∀ (s : State) (x : Nat), inReset s = true → s.pw.early = some x → x < 16 → Completes (.railMonitorRelease) s (fun t => t.pw.boot = 1 ∧
    t.regN Reg.CFG_STRAP = x ∧ t.regN Reg.PWR_RESET_CAUSE = 1 ∧ t.fld (Reg.PWR_PD_STAT 30) 2 0 = 1 ∧ t.fld (Reg.PWR_PD_STAT 34) 2 0 = 1 ∧
    (s.mode = mBackup → t.mode = mBoot) ∧ t.pw.porAt = s.tim.cks ∧ SameMem s t ∧ t.pw.early = none)) ∧
  (∀ (s : State), s.pw.early = none → Completes (.railMonitorRelease) s (fun t => t = s)) ∧
  (∀ (s : State), s.pw.boot = 1 → s.asyncLatch = false → s.pw.oldMute = false → 0 ∉ s.dbg.rhalt → Completes (.rcoStable) s (fun t => t.rcoOk = true ∧
    t.pw.boot = 2 ∧ t.asyncLatch = false ∧ t.gOpen = s.gOpen ∧ t.mode = s.mode ∧ SameMem s t)) ∧
  (∀ (s : State), s.pw.boot ≠ 1 → Completes (.rcoStable) s (fun t => t = s)) ∧
  (∀ (s : State) (hzA hzB : Option (BitVec 32)) (cyc : Fin 32768), s.pw.boot ≠ 2 → Completes (.timingPllLock hzA hzB cyc) s (fun t => t = s)) ∧
  (∀ (s : State) (f : BitVec 32) (cyc : Fin 32768), s.pw.boot = 2 → 0 ∉ s.dbg.halted → storeImage s = none →
    oscFits (nearestNominal f.toNat) (some f) = true → Completes (.timingPllLock (some f) none cyc) s (fun t => t.tim.ckt = true ∧
    t.tim.tl = ((if s.flag Reg.CAL_STAT 0 then s.cal.s else 0) * secUnit + cyc.val * secUnit / 32768) % tlWrap ∧
    t.regN Reg.TL_OSC_A_HZ = nearestNominal f.toNat ∧ t.flag Reg.TL_OSC_STAT 0 = true ∧ t.flag Reg.TL_OSC_STAT 1 = false ∧
    t.pw.boot = (if s.pw.seq = [] then 4 else 3) ∧ SameMem s t)) ∧
  (∀ (s : State) (cyc : Fin 32768), s.pw.boot = 2 → 0 ∉ s.dbg.halted → storeImage s = none → Completes (.timingPllLock none none cyc) s (fun t =>
    t.tim = s.tim ∧ t.pw = s.pw ∧ t.flag Reg.TL_OSC_STAT 0 = false ∧ t.flag Reg.TL_OSC_STAT 1 = false ∧ SameMem s t)) ∧
  (∀ (s : State), s.pw.boot = 4 → 0 ∉ s.dbg.halted → s.life = 0 → s.fld Reg.CFG_STRAP 2 0 = 3 → Completes (.bootComplete) s (fun t =>
    t.mode = mBlank ∧ t.pw.boot = 5 ∧ (s.mode = mBoot → t.released = false ∧ Raised t blkPwr 0) ∧ t.flag Reg.SEC_STAT 2 = s.flag Reg.SEC_STAT 2 ∧
    SameMem s t)) ∧
  (∀ (s : State), s.pw.boot = 4 → 0 ∉ s.dbg.halted → s.life ≠ 0 → s.fld Reg.CFG_STRAP 2 0 = 3 → s.stored flashBase 4 ≠ [0x4B, 0x46, 0x57, 0x49] →
    s.stored (flashBase + 0x780000) 4 ≠ [0x4B, 0x46, 0x57, 0x49] → Completes (.bootComplete) s (fun t => t.mode = mBlank ∧ t.pw.boot = 5 ∧
    t.flag Reg.SEC_STAT 2 = true ∧ Raised t blkSec 8 ∧ t.flag (Reg.LR_OCT_CFG 2) 0 = true ∧ t.svc.bRun = s.svc.bRun ∧ SameMem s t)) ∧
  (∀ (s : State), s.pw.boot ≠ 4 → Completes (.bootComplete) s (fun t => t = s)) ∧
  (∀ (s : State), s.pw.boot ≠ 0 → Completes (.srstN) s (fun t => t.mode = mBoot ∧ t.regN Reg.PWR_RESET_CAUSE = 2 ∧ t.pw.boot = 1 ∧ t.rcoOk = false ∧
    t.gOpen = false ∧ t.asyncLatch = s.asyncLatch ∧ t.regN Reg.CFG_STRAP = s.regN Reg.CFG_STRAP ∧ t.regN Reg.OUT_LATCH = s.regN Reg.OUT_LATCH ∧
    t.pac.ops = [] ∧ t.fmp.queue = [] ∧ t.dbg.halted = [] ∧ t.sec.tack = s.sec.tack ∧ t.sec.otp = s.sec.otp ∧ t.cal = s.cal ∧ SameMem s t)) ∧
  (∀ (s : State), s.pw.boot = 0 → Completes (.srstN) s (fun t => t = s)) ∧
  (∀ (s : State), Completes (.mainPowerLoss) s (fun t => t.mode = mBackup ∧ t.pw.main = false ∧ t.pw.boot = 0 ∧ t.fld (Reg.PWR_PD_STAT 34) 2 0 = 1 ∧
    t.cal = s.cal ∧ t.sec.otp = s.sec.otp ∧ t.sec.tack = [] ∧ t.fmp.sects = s.fmp.sects ∧ (∀ k, k < 384 →
    t.regN (Reg.BBK_STORE k) = s.regN (Reg.BBK_STORE k)) ∧ t.rcoOk = false ∧ t.gOpen = false)) ∧
  (∀ (s : State), Completes (.mainPowerReturn) s (fun t => t = s.setPw { s.pw with main := true })) ∧
  (∀ (s : State), Completes (.porNLow) s (fun t => t.pw.boot = 0 ∧ t.pw.main = s.pw.main ∧ t.cal = s.cal ∧ t.sec.otp = s.sec.otp ∧ t.sec.tack = [] ∧
    t.fmp.sects = s.fmp.sects ∧ t.rcoOk = false ∧ t.gOpen = false ∧ (s.mode = mBackup → t.mode = mBackup))) ∧
  (∀ (s : State) (d : Fin 35), s.fld (Reg.PWR_PD_STAT d) 2 0 ≠ 4 → Completes (.pdSwitchDone d) s (fun t => t = s)) ∧
  (∀ (s : State) (d : Fin 35), s.fld (Reg.PWR_PD_STAT d) 2 0 = 4 → s.pw.boot ≠ 3 → 20 ≤ d.val → s.flag (Reg.PWR_PD_CTL d) 0 = true →
    Completes (.pdSwitchDone d) s (fun t => t.fld (Reg.PWR_PD_STAT d) 2 0 = 0 ∧ SameRegs s t (· = Reg.PWR_PD_STAT d) ∧ SameMem s t)) ∧
  (∀ (s : State) (d : Fin 35), s.fld (Reg.PWR_PD_STAT d) 2 0 = 4 → s.pw.boot ≠ 3 → 20 ≤ d.val → s.flag (Reg.PWR_PD_CTL d) 0 = false →
    s.pw.slept = false → s.fld Reg.CA_STAT 7 4 = 0 → Completes (.pdSwitchDone d) s (fun t => t.fld (Reg.PWR_PD_STAT d) 2 0 = 1 ∧
    SameRegs s t (· = Reg.PWR_PD_STAT d) ∧ SameMem s t)) ∧
  (∀ (s : State) (d : Fin 35), s.fld (Reg.PWR_PD_STAT d) 2 0 = 4 → s.pw.boot ≠ 3 → 16 ≤ d.val → d.val < 20 → s.flag (Reg.PWR_PD_CTL d) 0 = true →
    Completes (.pdSwitchDone d) s (fun t => t.fld (Reg.PWR_PD_STAT d) 2 0 = 0 ∧ t.flag Reg.CA_STAT (d.val - 16) = false ∧ (∀ c, c < 256 →
    teamOf c = d.val - 16 → t.core c = ({ State.reset with can := {} } : State).core c) ∧ SameMem s t)) ∧
  (∀ (s : State) (d e : Fin 35) (r : List Nat), s.fld (Reg.PWR_PD_STAT d) 2 0 = 4 → s.pw.boot = 3 → 20 ≤ d.val → s.pw.seq = d.val :: e.val :: r →
    d.val ∉ e.val :: r → Completes (.pdSwitchDone d) s (fun t => t.fld (Reg.PWR_PD_STAT d) 2 0 = 1 ∧ t.fld (Reg.PWR_PD_STAT e) 2 0 = 4 ∧
    t.pw.seq = e.val :: r ∧ t.pw.boot = 3 ∧ SameRegs s t (fun a => a = Reg.PWR_PD_STAT d ∨ a = Reg.PWR_PD_STAT e) ∧ SameMem s t)) ∧
  (∀ (s : State) (d : Fin 35), s.fld (Reg.PWR_PD_STAT d) 2 0 = 4 → s.pw.boot = 3 → 20 ≤ d.val → s.pw.seq = [d.val] →
    Completes (.pdSwitchDone d) s (fun t => t.fld (Reg.PWR_PD_STAT d) 2 0 = 1 ∧ t.pw.boot = 4 ∧ SameMem s t)) ∧
  (∀ (s : State) (d : Fin 35) (v : BitVec 32), v.getLsbD 0 = true → mayOff s d = true → Completes (.pdOffReq d v) s (fun t =>
    t.flag (Reg.PWR_PD_CTL d) 0 = true ∧ t.fld (Reg.PWR_PD_STAT d) 2 0 = 4 ∧ SameRegs s t (fun a => a = Reg.PWR_PD_CTL d ∨ a = Reg.PWR_PD_STAT d) ∧
    SameMem s t)) ∧
  (∀ (s : State) (d : Fin 35) (v : BitVec 32), v.getLsbD 0 = true → mayOff s d = false → Completes (.pdOffReq d v) s (fun t =>
    t = s.raise blkPwr 8)) ∧
  (∀ (s : State) (d : Fin 35) (v : BitVec 32), v.getLsbD 0 = false → s.flag (Reg.PWR_PD_CTL d) 0 = true → s.fld (Reg.PWR_PD_STAT d) 2 0 = 0 →
    Completes (.pdOffReq d v) s (fun t => t.flag (Reg.PWR_PD_CTL d) 0 = false ∧ t.fld (Reg.PWR_PD_STAT d) 2 0 = 4 ∧
    SameRegs s t (fun a => a = Reg.PWR_PD_CTL d ∨ a = Reg.PWR_PD_STAT d) ∧ SameMem s t)) ∧
  (∀ (s : State) (d : Fin 35) (v : BitVec 32), v.getLsbD 0 = false → s.flag (Reg.PWR_PD_CTL d) 0 = false → Completes (.pdOffReq d v) s (fun t =>
    t = s)) ∧
  (∀ (s : State) (v : BitVec 32), v.toNat % 256 = 1 → s.mode = mCommission → ldrPhase s = 0 → Completes (.release v) s (fun t => t.mode = s.modeD ∧
    t.released = true ∧ t.txPermit = permits s.modeD (s.flag Reg.PWR_POLICY 0) ∧ Raised t blkPwr 0 ∧ t.tlState = s.tlState ∧ t.pac = s.pac ∧
    SameMem s t)) ∧
  (∀ (s : State) (v : BitVec 32), v.toNat % 256 = 1 → s.mode = mSafe → s.under = mCommission → ldrPhase s = 0 → Completes (.release v) s (fun t =>
    t.mode = mSafe ∧ t.under = s.modeD ∧ t.released = true ∧ SameRegs s t (· = Reg.PWR_MODE) ∧ SameMem s t)) ∧
  (∀ (s : State) (v : BitVec 32), v.toNat % 256 = 1 → s.mode ≠ mBackup → releaseOk s = false → Completes (.release v) s (fun t =>
    t = s.raise blkPwr 7)) ∧
  (∀ (s : State) (v : BitVec 32), v.toNat % 256 = 2 → mAcquire ≤ s.mode → s.mode ≤ mFreerun → Completes (.recommission v) s (fun t =>
    t.mode = mCommission ∧ t.released = false ∧ t.txPermit = false ∧ t.gOpen = false ∧ Raised t blkPwr 0 ∧ t.pac = s.pac ∧ SameMem s t)) ∧
  (∀ (s : State) (v : BitVec 32), v.toNat % 256 = 2 → s.mode ≠ mBackup → recommOk s = false → Completes (.recommission v) s (fun t =>
    t = s.raise blkPwr 7)) ∧
  (∀ (s : State) (v : BitVec 32), v.toNat % 256 = 4 → s.mode = mSafe → s.canRelease = true → s.under ≠ mSafe → Completes (.leaveSafe v) s (fun t =>
    t.mode = s.under ∧ t.safeHeld = false ∧ Raised t blkPwr 6 ∧ t.txPermit = permits s.under (s.flag Reg.PWR_POLICY 0) ∧ SameMem s t)) ∧
  (∀ (s : State) (v : BitVec 32), v.toNat % 256 = 4 → s.mode ≠ mBackup → leaveOk s = false → Completes (.leaveSafe v) s (fun t =>
    t = s.raise blkPwr 7)) ∧
  (∀ (s : State) (v : BitVec 32), v.toNat % 256 = 8 → stableOk s = true → Completes (.stable v) s (fun t => t.pw.enterAt = s.regN Reg.PWR_STBL_ENTER ∧
    t.pw.wakeAt = (if s.flag Reg.PWR_STBL_CFG 1 then some (s.regN Reg.PWR_STBL_WAKE) else none) ∧ stblPhase t = 1 ∧ t.mode = s.mode ∧
    SameRegs s t (· = Reg.PWR_STBL_STAT) ∧ SameMem s t)) ∧
  (∀ (s : State) (v : BitVec 32), v.toNat % 256 = 8 → s.mode ≠ mBackup → stableOk s = false → Completes (.stable v) s (fun t =>
    t = (s.raise blkPwr 7).raise blkPwr 3)) ∧
  (∀ (s : State) (v : BitVec 32), v.toNat % 256 = 16 → s.mode ≠ mBackup → stblPhase s = 1 → Completes (.cancel v) s (fun t => stblPhase t = 0 ∧
    t.pw.wakeAt = none ∧ t.mode = s.mode ∧ SameRegs s t (· = Reg.PWR_STBL_STAT) ∧ SameMem s t)) ∧
  (∀ (s : State) (v : BitVec 32), v.toNat % 256 = 32 → s.mode = mStable → Completes (.wakeNow v) s (fun t =>
    t = s.setPw { s.pw with wakeNow := true })) ∧
  (∀ (s : State) (v : BitVec 32), v.toNat % 256 = 64 → s.mode ≠ mBackup → Completes (.reset v) s (fun t => t.mode = mBoot ∧
    t.regN Reg.PWR_RESET_CAUSE = 4 ∧ t.pw.boot = 1 ∧ t.rcoOk = false ∧ t.gOpen = false ∧ t.asyncLatch = s.asyncLatch ∧
    t.regN Reg.CFG_STRAP = s.regN Reg.CFG_STRAP ∧ t.regN Reg.OUT_LATCH = s.regN Reg.OUT_LATCH ∧ t.pac.ops = [] ∧ t.fmp.queue = [] ∧
    t.dbg.halted = [] ∧ t.sec.tack = s.sec.tack ∧ t.sec.otp = s.sec.otp ∧ t.cal = s.cal ∧ SameMem s t)) ∧
  (∀ (s : State) (v : BitVec 32), v.toNat % 256 = 128 → s.mode ≠ mBackup → (∀ k, k < 8 → railOn s k = false) → Completes (.replan v) s (fun t =>
    t.pw.since = 0 ∧ t.pw.hours = s.regN Reg.AGE_HOURS ∧ Raised t blkPwr 13 ∧ t.pw.hist = s.pw.hist ∧ SameRegs s t (evtOf blkPwr 13) ∧ SameMem s t)) ∧
  (∀ (s : State) (v : BitVec 32) (k : Fin 8), v.toNat % 256 = 128 → s.mode ≠ mBackup → (List.range 8).filter (railOn s) = [k.val] →
    Completes (.replan v) s (fun t => t.regN (Reg.AGE_LIFE k) = s.took.free % 2 ^ 32 ∧ t.freeCtr = s.freeCtr + 2 ∧
    t.pw.hist.length = Nat.min 64 (s.pw.hist.length + 1) ∧ t.pw.since = 0 ∧ Raised t blkPwr 13 ∧
    SameRegs s t (fun a => a = Reg.AVS_RAIL_SLACK k ∨ a = Reg.AGE_LIFE k ∨ a = Reg.AGE_RESERVE k ∨ evtOf blkPwr 13 a ∨ evtOf blkPwr 14 a) ∧
    SameMem s t)) ∧
  (∀ (s : State), stblPhase s ≠ 1 ∨ ptReached s.pt s.pw.enterAt = false → Completes (.stableEntry) s (fun t => t = s)) ∧
  (∀ (s : State), stblPhase s = 1 → ptReached s.pt s.pw.enterAt = true → stblFrom s = true → Completes (.stableEntry) s (fun t => t.mode = mStable ∧
    stblPhase t = 2 ∧ t.flag Reg.CA_STAT 8 = true ∧ t.txPermit = false ∧ t.gOpen = false ∧ Raised t blkPwr 0)) ∧
  (∀ (s : State), stblPhase s = 1 → ptReached s.pt s.pw.enterAt = true → stblFrom s = false → Completes (.stableEntry) s (fun t => t.mode = s.mode ∧
    stblPhase t = 0 ∧ t.pw.wakeAt = none ∧ Raised t blkPwr 3 ∧ SameRegs s t (fun a => a = Reg.PWR_STBL_STAT ∨ evtOf blkPwr 3 a) ∧ SameMem s t)) ∧
  (∀ (s : State), s.mode = mStable → stblPhase s = 2 → s.flag Reg.CA_STAT 8 = false → s.imp.buf = [] → Completes (.stableAsleep) s (fun t =>
    stblPhase t = 3 ∧ t.mode = mStable ∧ t.pw.gated = true ∧ t.pw.slept = true ∧ Raised t blkPwr 1 ∧ (∀ d, d < 16 →
    t.fld (Reg.PWR_PD_STAT d) 2 0 = (if s.fld (Reg.PWR_PD_STAT d) 2 0 = 1 then 2 else s.fld (Reg.PWR_PD_STAT d) 2 0)) ∧ t.pac = s.pac ∧
    SameMem s t)) ∧
  (∀ (s : State), s.mode ≠ mStable ∨ stblPhase s ≠ 2 ∨ s.flag Reg.CA_STAT 8 = true → Completes (.stableAsleep) s (fun t => t = s)) ∧
  (∀ (s : State), s.mode = mStable → stblPhase s = 2 ∨ stblPhase s = 3 → ptReached s.pt ((s.pw.enterAt + 2048) % 2 ^ 32) = true →
    s.pw.wakeNow = true → Completes (.stableWakeEvent 3) s (fun t => stblPhase t = 4 ∧ t.regN Reg.PWR_WAKE_PT = s.pt ∧
    t.fld Reg.PWR_STBL_STAT 6 4 = 4 ∧ t.pw.wakeAt = none ∧ t.pw.wakeNow = false ∧ t.mode = mStable ∧ Raised t blkPwr 2 ∧ SameMem s t)) ∧
  (∀ (s : State) (w : Nat), s.mode = mStable → stblPhase s = 2 ∨ stblPhase s = 3 → ptReached s.pt ((s.pw.enterAt + 2048) % 2 ^ 32) = true →
    s.pw.wakeAt = some w → ptReached s.pt w = true → Completes (.stableWakeEvent 0) s (fun t => stblPhase t = 4 ∧ t.regN Reg.PWR_WAKE_PT = s.pt ∧
    t.fld Reg.PWR_STBL_STAT 6 4 = 1 ∧ t.pw.wakeAt = none ∧ t.pw.wakeNow = false ∧ t.mode = mStable ∧ Raised t blkPwr 2 ∧ SameMem s t)) ∧
  (∀ (s : State) (cause : Fin 4), s.mode ≠ mStable ∨ stblPhase s = 4 → Completes (.stableWakeEvent cause) s (fun t => t = s)) ∧
  (∀ (s : State), stblPhase s ≠ 4 → Completes (.wakeUngate) s (fun t => t = s)) ∧
  (∀ (s : State), stblPhase s = 4 → s.pw.slept = false → s.fld Reg.CA_STAT 7 4 = 0 → s.flag Reg.CA_STAT 8 = false →
    Completes (.wakeUngate) s (fun t => t = s.setPw { s.pw with gated := false })) ∧
  (∀ (s : State), stblPhase s = 4 → s.pw.slept = false → s.fld Reg.CA_STAT 7 4 = 0 → s.flag Reg.CA_STAT 8 = true → Completes (.wakeUngate) s (fun t =>
    t.pw.gated = false ∧ t.flag Reg.PWR_STBL_STAT 7 = true ∧ t.flag Reg.OUT_CAUSE 15 = true ∧ t.flag Reg.OUT_LATCH 15 = true ∧ Raised t blkPwr 4 ∧
    t.mode = s.mode ∧ SameMem s t)) ∧
  (∀ (s : State), stblPhase s = 4 → s.pw.slept = false → s.fld Reg.CA_STAT 7 4 = 0 → s.flag Reg.OUT_CAUSE 15 = false → s.mode = mStable →
    Completes (.stableExit) s (fun t => t.mode = s.modeD ∧ stblPhase t = 0 ∧ t.pw.gated = false ∧ Raised t blkPwr 0 ∧
    t.txPermit = permits s.modeD (s.flag Reg.PWR_POLICY 0) ∧ SameMem s t)) ∧
  (∀ (s : State), stblPhase s = 4 → s.pw.slept = false → s.fld Reg.CA_STAT 7 4 = 0 → s.flag Reg.OUT_CAUSE 15 = true → s.mode = mStable →
    Completes (.stableExit) s (fun t => t.mode = mSafe ∧ t.under = s.modeD ∧ t.safeHeld = true ∧ t.gOpen = false ∧ t.flag Reg.OUT_CAUSE 15 = false ∧
    stblPhase t = 0 ∧ Raised t blkPwr 5 ∧ SameMem s t)) ∧
  (∀ (s : State), stblPhase s ≠ 4 → Completes (.stableExit) s (fun t => t = s)) ∧
  (∀ (s : State) (c : Fin 592) (v bad : BitVec 8) (k : Fin 8), (List.range 8).filter (railOn s) = [k.val] → s.flag Reg.AVS_CFG 0 = true →
    feeds s k (canaryDom c) = true → s.fld (Reg.PWR_PD_STAT (canaryDom c)) 2 0 = 1 → railActs s k = true → bad.getLsbD k = false →
    v.toNat < s.fld (Reg.AVS_RAIL_SLACK k) 7 0 → v ≠ 0 → s.flag Reg.OUT_CAUSE 14 = false → Completes (.avsLoop [(c, v)] bad) s (fun t =>
    railV t k = Nat.min (Nat.max (railV s k + 10) 680) 850 ∧ SameRegs s t (· = Reg.AVS_RAIL_V k) ∧ SameMem s t)) ∧
  (∀ (s : State) (c : Fin 592) (v bad : BitVec 8) (k : Fin 8), (List.range 8).filter (railOn s) = [k.val] → s.flag Reg.AVS_CFG 0 = true →
    bad.getLsbD k = true → s.flag Reg.OUT_CAUSE 14 = false → Completes (.avsLoop [(c, v)] bad) s (fun t => railV t k = railV s k ∧
    t.regN Reg.AVS_LINK_ERR_CNT = satNat 32 (s.regN Reg.AVS_LINK_ERR_CNT + 1) ∧ Raised t blkPwr 9 ∧
    SameRegs s t (fun a => a = Reg.AVS_LINK_ERR_CNT ∨ evtOf blkPwr 9 a) ∧ SameMem s t)) ∧
  (∀ (s : State) (codes : List (Fin 592 × BitVec 8)) (bad : BitVec 8), s.flag Reg.AVS_CFG 0 = false → Completes (.avsLoop codes bad) s (fun t =>
    t.regs = s.regs ∧ t.mem = s.mem ∧ t.pw.rails = s.pw.rails)) ∧
  (∀ (s : State) (c : Fin 592) (k : Fin 8), (List.range 8).find? (fun k => railOn s k && feeds s k (canaryDom c)) = some k.val →
    s.flag Reg.AVS_CFG 0 = true → feeds s k (canaryDom c) = true → s.fld (Reg.PWR_PD_STAT (canaryDom c)) 2 0 = 1 → railActs s k = true →
    Completes (.canaryTrip c) s (fun t => railV t k = Nat.min (railV s k + 20) 850 ∧
    t.regN Reg.AVS_TRIP_CNT = satNat 32 (s.regN Reg.AVS_TRIP_CNT + 1) ∧ Raised t blkPwr 11 ∧
    SameRegs s t (fun a => a = Reg.AVS_RAIL_V k ∨ a = Reg.AVS_TRIP_CNT ∨ evtOf blkPwr 11 a) ∧ SameMem s t)) ∧
  (∀ (s : State) (c : Fin 592), s.flag Reg.AVS_CFG 0 = false → Completes (.canaryTrip c) s (fun t => t.regs = s.regs ∧ t.mem = s.mem ∧
    t.pw.rails = s.pw.rails)) ∧
  (∀ (s : State) (bad : BitVec 8), s.flag Reg.AVS_CFG 1 = true → Completes (.pmbusAlert bad) s (fun t => t = s)) ∧
  (∀ (s : State) (bad : BitVec 8), s.flag Reg.AVS_CFG 1 = false → bad = 0 → Completes (.pmbusAlert bad) s (fun t => t = s.raise blkPwr 15)) ∧
  (∀ (s : State) (k : Fin 8) (v : BitVec 32) (lin : Bool), s.mode ≠ mBlank → s.mode ≠ mCommission → Completes (.avsRailEnable k v lin) s (fun t =>
    t = s.raise blkPwr 31)) ∧
  (∀ (s : State) (k : Fin 8) (v : BitVec 32) (lin : Bool), s.mode = mBlank ∨ s.mode = mCommission → v.getLsbD 16 = true →
    railBad (s.setRegN (Reg.AVS_RAIL_CFG k) (Nat.land v.toNat 0xFF7F)) k lin = false → Completes (.avsRailEnable k v lin) s (fun t =>
    t.regN (Reg.AVS_RAIL_CFG k) = Nat.land v.toNat 0xFF7F + 2 ^ 16 ∧ SameRegs s t (· = Reg.AVS_RAIL_CFG k) ∧ SameMem s t)) ∧
  (∀ (s : State) (k : Fin 8) (v : BitVec 32) (lin : Bool), s.mode = mBlank ∨ s.mode = mCommission → v.getLsbD 16 = true →
    railBad (s.setRegN (Reg.AVS_RAIL_CFG k) (Nat.land v.toNat 0xFF7F)) k lin = true → Completes (.avsRailEnable k v lin) s (fun t =>
    railOn t k = false ∧ Raised t blkPwr 10 ∧ SameRegs s t (fun a => a = Reg.AVS_RAIL_CFG k ∨ evtOf blkPwr 10 a) ∧ SameMem s t)) ∧
  (∀ (s : State) (i : Fin 24) (f r : BitVec 32), s.fld (Reg.PWR_PD_STAT (pairDom i)) 2 0 = 1 → r ≠ 0 → Completes (.ageMeasure [(i, f, r)]) s (fun t =>
    t.regN (Reg.AGE_RO i) = satNat 24 ((r.toNat - f.toNat) * 1000000 / r.toNat) ∧ t.regN Reg.AGE_HOURS = satNat 32 (s.regN Reg.AGE_HOURS + 1) ∧
    t.pw.since = s.pw.since + 1 ∧ SameRegs s t (fun a => a = Reg.AGE_RO i ∨ a = Reg.AGE_HOURS) ∧ SameMem s t)) ∧
  (∀ (s : State), s.pw.since < s.fld Reg.AGE_CFG 15 0 → Completes (.agePeriodReplan) s (fun t => t = s)) ∧
  (∀ (s : State), s.fld Reg.AGE_CFG 15 0 ≤ s.pw.since → (∀ k, k < 8 → railOn s k = false) → Completes (.agePeriodReplan) s (fun t => t.pw.since = 0 ∧
    t.pw.hours = s.regN Reg.AGE_HOURS ∧ Raised t blkPwr 13 ∧ SameMem s t)) ∧
  (∀ (s : State), Completes (.bucketRecord) s (fun t => t.sec.journal = (attIdx s, attTokens s, genNow s) :: s.sec.journal ∧
    t = { s with sec := t.sec } ∧ t.sec = { s.sec with journal := t.sec.journal }))

/-- Owner commands, the tack room, attestation, the TRNG, the erase and full BIST (R476, R480, R484, R486, R487, R489, R490, R493, R494, R497, R498, R499). -/
def Obligations.SecurityAndLifeCycle : Prop :=
  (∀ (s : State) (b : List Byte), cmdBytes s = b → s.flag Reg.SEC_CMD_STAT 0 = false → slice b 0 4 = [0x4B, 0x4F, 0x43, 0x4D] →
    allZero (slice b 0x40 64) = true → slice b 16 16 = otpBytes s 0x20 16 → fieldLe b 8 8 = secNonce s → fieldLe b 4 1 = 1 → cmdState s 1 = true →
    cmdArgs s 1 (fieldLe b 6 1) (fieldLe b 7 1) (slice b 0x20 32) = true → Completes (.addSlot false) s (fun t =>
    (keyOk s (fieldLe b 5 1) (keyHash (slice b 0x80 64)) = true → sigOk (slice b 0x80 64) (slice b 0 128) (slice b 0xC0 2820) = true →
    t.sec.otp = (otpBurn (otpBurn s (0x80 + 32 * (fieldLe b 6 1)) (slice b 0x20 32)) 9 (List.replicate 3 (BitVec.ofNat 8 (2 ^ (fieldLe b 6 1))))).sec.otp ∧
    t.regN Reg.SEC_CMD_STAT = 256 ∧ Raised t blkSec 0 ∧ SameMem s t) ∧ (sigOk (slice b 0x80 64) (slice b 0 128) (slice b 0xC0 2820) = false →
    t.regN Reg.SEC_CMD_STAT = 256 + 0x0C01 * 2 ^ 16 ∧ t.sec = s.sec ∧ Raised t blkSec 1 ∧ Raised t blkTim 27 ∧ SameMem s t))) ∧
  (∀ (s : State) (b : List Byte), cmdBytes s = b → s.flag Reg.SEC_CMD_STAT 0 = true → fieldLe b 4 1 = 1 → Completes (.addSlot false) s (fun t =>
    t = s.raise blkSec 1)) ∧
  (∀ (s : State) (b : List Byte), cmdBytes s = b → s.flag Reg.SEC_CMD_STAT 0 = false → fieldLe b 4 1 = 1 → slice b 0 4 ≠ [0x4B, 0x4F, 0x43, 0x4D] →
    Completes (.addSlot false) s (fun t => t.regN Reg.SEC_CMD_STAT = 256 + 0x0A04 * 2 ^ 16 ∧ t.sec = s.sec ∧ Raised t blkSec 1 ∧
    secNonce t = secNonce s ∧ SameMem s t)) ∧
  (∀ (s : State) (b : List Byte), cmdBytes s = b → fieldLe b 4 1 ≠ 1 → Completes (.addSlot false) s (fun t => t = s)) ∧
  (∀ (s : State) (b : List Byte), cmdBytes s = b → s.flag Reg.SEC_CMD_STAT 0 = false → slice b 0 4 = [0x4B, 0x4F, 0x43, 0x4D] →
    allZero (slice b 0x40 64) = true → fieldLe b 4 1 = 6 → fieldLe b 8 8 ≠ secNonce s → Completes (.scrap false) s (fun t =>
    t.regN Reg.SEC_CMD_STAT = 6 * 256 + 0x0C01 * 2 ^ 16 ∧ t.sec = s.sec ∧ Raised t blkSec 1 ∧ SameMem s t)) ∧
  (∀ (s : State) (b : List Byte), cmdBytes s = b → s.flag Reg.SEC_CMD_STAT 0 = false → slice b 0 4 = [0x4B, 0x4F, 0x43, 0x4D] →
    allZero (slice b 0x40 64) = true → slice b 16 16 = otpBytes s 0x20 16 → fieldLe b 8 8 = secNonce s → fieldLe b 4 1 = 4 → cmdState s 4 = false →
    Completes (.deploy false) s (fun t => (keyOk s (fieldLe b 5 1) (keyHash (slice b 0x80 64)) = true →
    sigOk (slice b 0x80 64) (slice b 0 128) (slice b 0xC0 2820) = true → t.regN Reg.SEC_CMD_STAT = 4 * 256 + 0x0A06 * 2 ^ 16) ∧ t.sec = s.sec ∧
    Raised t blkSec 1 ∧ SameMem s t)) ∧
  (∀ (s : State) (b : List Byte), cmdBytes s = b → s.flag Reg.SEC_CMD_STAT 0 = false → slice b 0 4 = [0x4B, 0x4F, 0x43, 0x4D] →
    allZero (slice b 0x40 64) = true → slice b 16 16 = otpBytes s 0x20 16 → fieldLe b 8 8 = secNonce s → fieldLe b 4 1 = 2 → cmdState s 2 = true →
    cmdArgs s 2 (fieldLe b 6 1) (fieldLe b 7 1) (slice b 0x20 32) = true → Completes (.revoke false) s (fun t =>
    (keyOk s (fieldLe b 5 1) (keyHash (slice b 0x80 64)) = true → sigOk (slice b 0x80 64) (slice b 0 128) (slice b 0xC0 2820) = true →
    t.sec.otp = (otpBurn s 9 (List.replicate 3 (BitVec.ofNat 8 (2 ^ (4 + (fieldLe b 6 1)))))).sec.otp ∧ Raised t blkTim 27 ∧
    t.regN Reg.SEC_CMD_STAT = 512 ∧ Raised t blkSec 0 ∧ SameMem s t) ∧ (sigOk (slice b 0x80 64) (slice b 0 128) (slice b 0xC0 2820) = false →
    t.regN Reg.SEC_CMD_STAT = 512 + 0x0C01 * 2 ^ 16 ∧ t.sec = s.sec ∧ Raised t blkSec 1 ∧ Raised t blkTim 27 ∧ SameMem s t))) ∧
  (∀ (s : State) (b : List Byte), cmdBytes s = b → s.flag Reg.SEC_CMD_STAT 0 = false → slice b 0 4 = [0x4B, 0x4F, 0x43, 0x4D] →
    allZero (slice b 0x40 64) = true → slice b 16 16 = otpBytes s 0x20 16 → fieldLe b 8 8 = secNonce s → fieldLe b 4 1 = 3 → cmdState s 3 = true →
    cmdArgs s 3 (fieldLe b 6 1) (fieldLe b 7 1) (slice b 0x20 32) = true → Completes (.own false) s (fun t =>
    (keyOk s (fieldLe b 5 1) (keyHash (slice b 0x80 64)) = true → sigOk (slice b 0x80 64) (slice b 0 128) (slice b 0xC0 2820) = true →
    t.sec.otp = (otpBurn s 0 (List.replicate 3 3)).sec.otp ∧ t.mode = mBoot ∧ t.regN Reg.PWR_RESET_CAUSE = 4 ∧ SameMem s t) ∧
    (sigOk (slice b 0x80 64) (slice b 0 128) (slice b 0xC0 2820) = false → t.regN Reg.SEC_CMD_STAT = 768 + 0x0C01 * 2 ^ 16 ∧ t.sec = s.sec ∧
    Raised t blkSec 1 ∧ Raised t blkTim 27 ∧ SameMem s t))) ∧
  (∀ (s : State) (b : List Byte), cmdBytes s = b → s.flag Reg.SEC_CMD_STAT 0 = false → slice b 0 4 = [0x4B, 0x4F, 0x43, 0x4D] →
    allZero (slice b 0x40 64) = true → slice b 16 16 = otpBytes s 0x20 16 → fieldLe b 8 8 = secNonce s → fieldLe b 4 1 = 4 → cmdState s 4 = true →
    cmdArgs s 4 (fieldLe b 6 1) (fieldLe b 7 1) (slice b 0x20 32) = true → Completes (.deploy false) s (fun t =>
    (keyOk s (fieldLe b 5 1) (keyHash (slice b 0x80 64)) = true → sigOk (slice b 0x80 64) (slice b 0 128) (slice b 0xC0 2820) = true →
    t.sec.otp = (otpBurn s 0 (List.replicate 3 7)).sec.otp ∧ t.mode = mBoot ∧ t.regN Reg.PWR_RESET_CAUSE = 4 ∧ SameMem s t) ∧
    (sigOk (slice b 0x80 64) (slice b 0 128) (slice b 0xC0 2820) = false → t.regN Reg.SEC_CMD_STAT = 1024 + 0x0C01 * 2 ^ 16 ∧ t.sec = s.sec ∧
    Raised t blkSec 1 ∧ Raised t blkTim 27 ∧ SameMem s t))) ∧
  (∀ (s : State) (b : List Byte), cmdBytes s = b → s.flag Reg.SEC_CMD_STAT 0 = false → slice b 0 4 = [0x4B, 0x4F, 0x43, 0x4D] →
    allZero (slice b 0x40 64) = true → slice b 16 16 = otpBytes s 0x20 16 → fieldLe b 8 8 = secNonce s → fieldLe b 4 1 = 5 → cmdState s 5 = true →
    cmdArgs s 5 (fieldLe b 6 1) (fieldLe b 7 1) (slice b 0x20 32) = true → Completes (.return false) s (fun t =>
    (keyOk s (fieldLe b 5 1) (keyHash (slice b 0x80 64)) = true → sigOk (slice b 0x80 64) (slice b 0 128) (slice b 0xC0 2820) = true →
    t.sec.otp = (otpBurn s 9 (List.replicate 3 0xF0)).sec.otp ∧ t.sec.erase = some (4, false) ∧ t.regN Reg.SEC_CMD_STAT = 1 + 1280 ∧ SameMem s t) ∧
    (sigOk (slice b 0x80 64) (slice b 0 128) (slice b 0xC0 2820) = false → t.regN Reg.SEC_CMD_STAT = 1280 + 0x0C01 * 2 ^ 16 ∧ t.sec = s.sec ∧
    Raised t blkSec 1 ∧ Raised t blkTim 27 ∧ SameMem s t))) ∧
  (∀ (s : State) (b : List Byte), cmdBytes s = b → s.flag Reg.SEC_CMD_STAT 0 = false → slice b 0 4 = [0x4B, 0x4F, 0x43, 0x4D] →
    allZero (slice b 0x40 64) = true → slice b 16 16 = otpBytes s 0x20 16 → fieldLe b 8 8 = secNonce s → fieldLe b 4 1 = 6 → cmdState s 6 = true →
    cmdArgs s 6 (fieldLe b 6 1) (fieldLe b 7 1) (slice b 0x20 32) = true → Completes (.scrap false) s (fun t =>
    (keyOk s (fieldLe b 5 1) (keyHash (slice b 0x80 64)) = true → sigOk (slice b 0x80 64) (slice b 0 128) (slice b 0xC0 2820) = true →
    t.sec.otp = s.sec.otp ∧ t.sec.erase = some (5, false) ∧ t.regN Reg.SEC_CMD_STAT = 1 + 1536 ∧ SameMem s t) ∧
    (sigOk (slice b 0x80 64) (slice b 0 128) (slice b 0xC0 2820) = false → t.regN Reg.SEC_CMD_STAT = 1536 + 0x0C01 * 2 ^ 16 ∧ t.sec = s.sec ∧
    Raised t blkSec 1 ∧ Raised t blkTim 27 ∧ SameMem s t))) ∧
  (∀ (s : State) (b : List Byte), cmdBytes s = b → s.flag Reg.SEC_CMD_STAT 0 = false → slice b 0 4 = [0x4B, 0x4F, 0x43, 0x4D] →
    allZero (slice b 0x40 64) = true → slice b 16 16 = otpBytes s 0x20 16 → fieldLe b 8 8 = secNonce s → fieldLe b 4 1 = 7 → cmdState s 7 = true →
    cmdArgs s 7 (fieldLe b 6 1) (fieldLe b 7 1) (slice b 0x20 32) = true → Completes (.arbSet false) s (fun t =>
    (keyOk s (fieldLe b 5 1) (keyHash (slice b 0x80 64)) = true → sigOk (slice b 0x80 64) (slice b 0 128) (slice b 0xC0 2820) = true →
    t.sec.otp = (otpBurn s (0x100 + 32 * (fieldLe b 6 1)) (leBytes 32 (2 ^ fieldLe b 0x20 1 - 2 ^ arbCount s (fieldLe b 6 1)))).sec.otp ∧
    Raised t blkTim 27 ∧ t.regN Reg.SEC_CMD_STAT = 1792 ∧ Raised t blkSec 0 ∧ SameMem s t) ∧
    (sigOk (slice b 0x80 64) (slice b 0 128) (slice b 0xC0 2820) = false → t.regN Reg.SEC_CMD_STAT = 1792 + 0x0C01 * 2 ^ 16 ∧ t.sec = s.sec ∧
    Raised t blkSec 1 ∧ Raised t blkTim 27 ∧ SameMem s t))) ∧
  (∀ (s : State) (b : List Byte), cmdBytes s = b → s.flag Reg.SEC_CMD_STAT 0 = false → slice b 0 4 = [0x4B, 0x4F, 0x43, 0x4D] →
    allZero (slice b 0x40 64) = true → slice b 16 16 = otpBytes s 0x20 16 → fieldLe b 8 8 = secNonce s → fieldLe b 4 1 = 8 → cmdState s 8 = true →
    cmdArgs s 8 (fieldLe b 6 1) (fieldLe b 7 1) (slice b 0x20 32) = true → Completes (.debugGrant false) s (fun t =>
    (keyOk s (fieldLe b 5 1) (keyHash (slice b 0x80 64)) = true → sigOk (slice b 0x80 64) (slice b 0 128) (slice b 0xC0 2820) = true →
    t.sec.grant = some (fieldLe b 7 1) ∧ t.sec.otp = s.sec.otp ∧ Raised t blkSec 14 ∧ Raised t blkTim 27 ∧ t.regN Reg.SEC_CMD_STAT = 2048 ∧
    Raised t blkSec 0 ∧ SameMem s t) ∧ (sigOk (slice b 0x80 64) (slice b 0 128) (slice b 0xC0 2820) = false →
    t.regN Reg.SEC_CMD_STAT = 2048 + 0x0C01 * 2 ^ 16 ∧ t.sec = s.sec ∧ Raised t blkSec 1 ∧ Raised t blkTim 27 ∧ SameMem s t))) ∧
  (∀ (s : State) (b : List Byte), cmdBytes s = b → s.flag Reg.SEC_CMD_STAT 0 = false → slice b 0 4 = [0x4B, 0x4F, 0x43, 0x4D] →
    allZero (slice b 0x40 64) = true → slice b 16 16 = otpBytes s 0x20 16 → fieldLe b 8 8 = secNonce s → fieldLe b 4 1 = 9 → cmdState s 9 = true →
    cmdArgs s 9 (fieldLe b 6 1) (fieldLe b 7 1) (slice b 0x20 32) = true → s.trngOk = true → s.sec.keygen = none →
    Completes (.attKeygen false) s (fun t => (keyOk s (fieldLe b 5 1) (keyHash (slice b 0x80 64)) = true →
    sigOk (slice b 0x80 64) (slice b 0 128) (slice b 0xC0 2820) = true → t.sec.keygen = some (genBits s) ∧ t.flag Reg.SEC_STAT 19 = true ∧
    t.regN Reg.SEC_ATT_IDX = 0 ∧ Raised t blkTim 27 ∧ t.regN Reg.SEC_CMD_STAT = 2304 ∧ Raised t blkSec 0 ∧ SameMem s t) ∧
    (sigOk (slice b 0x80 64) (slice b 0 128) (slice b 0xC0 2820) = false → t.regN Reg.SEC_CMD_STAT = 2304 + 0x0C01 * 2 ^ 16 ∧ t.sec = s.sec ∧
    Raised t blkSec 1 ∧ Raised t blkTim 27 ∧ SameMem s t))) ∧
  (∀ (s : State) (b : List Byte), cmdBytes s = b → s.flag Reg.SEC_CMD_STAT 0 = false → slice b 0 4 = [0x4B, 0x4F, 0x43, 0x4D] →
    allZero (slice b 0x40 64) = true → slice b 16 16 = otpBytes s 0x20 16 → fieldLe b 8 8 = secNonce s → fieldLe b 4 1 = 10 → cmdState s 10 = true →
    cmdArgs s 10 (fieldLe b 6 1) (fieldLe b 7 1) (slice b 0x20 32) = true → Completes (.bridleSet false) s (fun t =>
    (keyOk s (fieldLe b 5 1) (keyHash (slice b 0x80 64)) = true → sigOk (slice b 0x80 64) (slice b 0 128) (slice b 0xC0 2820) = true →
    t.sec.otp = (if (fieldLe b 7 1) = 1 then (otpBurn s 3 (List.replicate 3 1)).sec.otp else s.sec.otp) ∧ t.regN Reg.SEC_CMD_STAT = 2560 ∧
    Raised t blkSec 0 ∧ SameMem s t) ∧ (sigOk (slice b 0x80 64) (slice b 0 128) (slice b 0xC0 2820) = false →
    t.regN Reg.SEC_CMD_STAT = 2560 + 0x0C01 * 2 ^ 16 ∧ t.sec = s.sec ∧ Raised t blkSec 1 ∧ Raised t blkTim 27 ∧ SameMem s t))) ∧
  (∀ (s : State) (g : Nat), s.sec.keygen = some g → Completes (.keygenDone false) s (fun t =>
    t.sec.otp = (otpBurn s (0x280 + 128 * g + 96) (padTo 32 (Config.xmssRoot (otpBytes s (0x280 + 128 * g) 96)))).sec.otp ∧ t.sec.keygen = none ∧
    t.flag Reg.SEC_STAT 19 = false ∧ Raised t blkSec 18 ∧ SameMem s t)) ∧
  (∀ (s : State) (fail : Bool), s.sec.keygen = none → Completes (.keygenDone fail) s (fun t => t = s)) ∧
  (∀ (s : State), s.flag Reg.SEC_STAT 2 = true → s.pw.boot = 5 → Completes (.fwStage) s (fun t => (∀ f, fwStaged s = some f →
    t = fwStart ((s.setFlag Reg.SEC_STAT 2 false).tamper 0x17 1) f) ∧ (fwStaged s = none → t = s))) ∧
  (∀ (s : State), s.flag Reg.SEC_STAT 2 = false → Completes (.fwStage) s (fun t => t = s)) ∧
  (∀ (s : State) (v : BitVec 32), bitsOf v.toNat 1 0 = 0 → bitsOf v.toNat 5 4 = 2 → keyBusy s 2 (bitsOf v.toNat 13 8) = false → s.trngOk = true →
    Completes (.keyLoad v) s (fun t => sget (fun _ => []) t.sec.tack (bitsOf v.toNat 13 8) = (keyBuf s).take 96 ∧
    t.flag (Reg.IMP_KSLOT_STAT (bitsOf v.toNat 13 8)) 0 = true ∧ t.fld Reg.SEC_KEY_STAT 2 1 = 0 ∧ t.sec.roles = s.sec.roles ∧
    t.freeCtr = s.freeCtr + 12 ∧ SameMem s t)) ∧
  (∀ (s : State) (v : BitVec 32), bitsOf v.toNat 1 0 = 0 → bitsOf v.toNat 5 4 = 0 → 1 ≤ bitsOf v.toNat 13 8 → bitsOf v.toNat 13 8 ≤ 3 →
    s.trngOk = true → Completes (.keyLoad v) s (fun t => sget (fun _ => []) t.sec.roles (bitsOf v.toNat 13 8) = (keyBuf s).take 32 ∧
    t.sec.tack = s.sec.tack ∧ t.fld Reg.SEC_KEY_STAT 2 1 = 0 ∧ SameMem s t)) ∧
  (∀ (s : State) (v : BitVec 32), bitsOf v.toNat 1 0 = 0 → bitsOf v.toNat 5 4 = 2 → keyBusy s 2 (bitsOf v.toNat 13 8) = true →
    Completes (.keyLoad v) s (fun t => t.sec = s.sec ∧ t.fld Reg.SEC_KEY_STAT 2 1 = 2 ∧ Raised t blkSec 5 ∧ (∀ i : Nat, i < 32 →
    t.regN (Reg.SEC_KEY_BUF i) = 0) ∧ SameMem s t)) ∧
  (∀ (s : State) (v : BitVec 32), bitsOf v.toNat 1 0 = 0 → keyPlace (bitsOf v.toNat 5 4) (bitsOf v.toNat 13 8) = false →
    Completes (.keyLoad v) s (fun t => t.sec = s.sec ∧ t.fld Reg.SEC_KEY_STAT 2 1 = 3 ∧ SameMem s t)) ∧
  (∀ (s : State) (v : BitVec 32), bitsOf v.toNat 1 0 = 1 → bitsOf v.toNat 5 4 = 1 → bitsOf v.toNat 13 8 = 0 → Completes (.keyUnwrap v) s (fun t =>
    (∀ k, unwrapKey s 1 (keyBuf s) = some k → t.sec = { s.sec with relay := k } ∧ t.fld Reg.SEC_KEY_STAT 2 1 = 0) ∧ (unwrapKey s 1 (keyBuf s) = none →
    t.sec = s.sec ∧ t.fld Reg.SEC_KEY_STAT 2 1 = 1 ∧ Raised t blkSec 4) ∧ (∀ i : Nat, i < 32 → t.regN (Reg.SEC_KEY_BUF i) = 0) ∧ SameMem s t)) ∧
  (∀ (s : State) (v : BitVec 32), bitsOf v.toNat 1 0 = 2 → bitsOf v.toNat 5 4 = 2 → keyBusy s 2 (bitsOf v.toNat 13 8) = false →
    Completes (.keyClear v) s (fun t => sget (fun _ => []) t.sec.tack (bitsOf v.toNat 13 8) = [] ∧
    t.flag (Reg.IMP_KSLOT_STAT (bitsOf v.toNat 13 8)) 0 = false ∧ t.fld Reg.SEC_KEY_STAT 2 1 = 0 ∧ (∀ i : Nat, i < 32 →
    t.regN (Reg.SEC_KEY_BUF i) = 0) ∧ SameMem s t)) ∧
  (∀ (s : State) (challenge : List Byte), genBits s ≠ 0 → s.life ≠ 0 → s.life ≠ 5 → s.sec.keygen = none → s.sec.sign = none →
    allZero (genRoot s (genNow s)) = false → attIdx s < 1048576 → attTokens s ≠ 0 → Completes (.attestChallenge challenge) s (fun t =>
    t = s.setSec { s.sec with sign := some (attIdx s, attReport s challenge) })) ∧
  (∀ (s : State) (challenge : List Byte), genBits s = 0 ∨ s.life = 0 ∨ s.life = 5 → Completes (.attestChallenge challenge) s (fun t => t = s)) ∧
  (∀ (s : State) (i : Nat) (rep : List Byte), s.sec.sign = some (i, rep) → i < 1048576 → s.fmp.queue = [] → genBits s ≠ 0 →
    Completes (.attestSignDone false) s (fun t => attIdx t = i + 1 ∧ attTokens t = attTokens s - 1 ∧ t.sec.sign = none ∧
    t.sec.journal = (i + 1, attTokens s - 1, genNow t) :: s.sec.journal ∧
    t.sec.report = rep ++ padTo 2820 (Config.xmssSign (otpBytes t (0x280 + 128 * genNow s) 128) i rep) ∧
    t.sec.otp = (otpBurn s (0x200 + 32 * genNow s) (leBytes 32 (2 ^ (i / 4096 + 1) - 1))).sec.otp ∧ SameMem s t)) ∧
  (∀ (s : State) (fail : Bool), s.sec.sign = none → Completes (.attestSignDone fail) s (fun t => t = s)) ∧
  (∀ (s : State), Completes (.attTokenGain) s (fun t => attTokens t = Nat.min 64 (attTokens s + 1) ∧ SameRegs s t (· = Reg.SEC_ATT_BUCKET) ∧
    SameMem s t)) ∧
  (∀ (s : State), Completes (.trngFail) s (fun t => t.trngOk = false ∧ Raised t blkSec 6 ∧ t.sec = s.sec ∧
    SameRegs s t (fun a => a = Reg.SEC_STAT ∨ evtOf blkSec 6 a) ∧ SameMem s t)) ∧
  (∀ (s : State), Completes (.trngOk) s (fun t => t.trngOk = true ∧ SameRegs s t (· = Reg.SEC_STAT) ∧ t.sec = s.sec ∧ SameMem s t)) ∧
  (∀ (s : State), Completes (.secRngRead 436) s (fun t => t = s.took.answer 436 0 [s.free % 2 ^ 32])) ∧
  (∀ (s : State) (init : Fin 512), init.val ≠ 436 → Completes (.secRngRead init) s (fun t => t.ans = ⟨init, 1, []⟩ ∧ t.freeCtr = s.freeCtr ∧
    Raised t blkNoc 0 ∧ t.regN Reg.NOC_DECODE_CNT = satNat 32 (s.regN Reg.NOC_DECODE_CNT + 1) ∧ SameMem s t)) ∧
  (∀ (s : State) (v : BitVec 32), v.toNat % 4 = 1 → s.life = 1 ∨ s.life = 4 → s.mode = mBlank → s.sec.bist = 0 → Completes (.bistLogic v) s (fun t =>
    t = s.setSec { s.sec with bist := 1 })) ∧
  (∀ (s : State) (v : BitVec 32), v.toNat % 4 = 1 → s.mode ≠ mBlank → Completes (.bistLogic v) s (fun t => t = s.raise blkSec 1)) ∧
  (∀ (s : State) (v : BitVec 32), v.toNat % 4 = 2 → s.life = 1 ∨ s.life = 4 → s.mode = mBlank → s.sec.bist = 0 → Completes (.bistMemory v) s (fun t =>
    t = s.setSec { s.sec with bist := 2 })) ∧
  (∀ (s : State) (v : BitVec 32), v.toNat % 4 = 2 → s.mode ≠ mBlank → Completes (.bistMemory v) s (fun t => t = s.raise blkSec 1)) ∧
  (∀ (s : State) (logic memory : Bool), s.sec.bist = 3 → Completes (.bistDone logic memory) s (fun t =>
    t.regN Reg.SEC_BIST_STAT = 1 + 2 * bit logic + 4 * bit memory ∧ t.sec.tack = [] ∧ t.sec.roles = [] ∧ t.sec.relay = [] ∧ t.sec.otp = s.sec.otp ∧
    t.mode = mBoot ∧ Raised t blkSec 16 ∧ ((logic && memory) = false → Raised t blkSec 17) ∧ (∀ x, inFlash x = true → t.byte x = s.byte x))) ∧
  (∀ (s : State) (logic memory : Bool), s.sec.bist = 0 → Completes (.bistDone logic memory) s (fun t => t = s)) ∧
  (∀ (s : State) (c x : Nat), s.sec.erase = some (c, false) → s.rcoOk = true → inScratch x = true → Completes (.erase) s (fun t => t.sec.tack = [] ∧
    t.sec.roles = [] ∧ t.sec.relay = [] ∧ t.sec.erase = some (c, true) ∧ t.sec.otp = s.sec.otp ∧ t.gOpen = false ∧ t.flag Reg.OUT_LATCH 17 = true ∧
    (∀ b : Nat, b < 64 → t.fld (Reg.SP_BANK_STAT b) 2 0 = 0) ∧ t.byte x = memDefault x ∧ t.imp.roots = [] ∧ Raised t blkTim 27)) ∧
  (∀ (s : State), s.sec.erase = none → Completes (.erase) s (fun t => t = s)) ∧
  (∀ (s : State), s.sec.erase = some (0, true) → Completes (.eraseDone false) s (fun t => t.sec.grant = some 2 ∧ t.sec.otp = s.sec.otp ∧
    t.mode = mBoot ∧ t.flag Reg.SEC_STAT 6 = true ∧ Raised t blkSec 15 ∧ t.sec.erase = none ∧ SameMem s t)) ∧
  (∀ (s : State) (c : Nat), s.sec.erase = some (c, true) → c = 4 ∨ c = 5 → Completes (.eraseDone false) s (fun t =>
    t.sec.otp = (otpBurn s 0 (List.replicate 3 (BitVec.ofNat 8 (2 ^ c - 1)))).sec.otp ∧ t.mode = mBoot ∧ t.regN Reg.PWR_RESET_CAUSE = 4 ∧
    t.flag Reg.SEC_STAT 6 = true ∧ Raised t blkSec 15 ∧ SameMem s t)) ∧
  (∀ (s : State) (fail : Bool), s.sec.erase = none → Completes (.eraseDone fail) s (fun t => t = s))

/-- The Outrider: classes, the gate, the asynchronous path, the monitors and online BIST (R506, R507, R508, R509, R511, R513, R515, R516, R517, R518, R519, 18_safety_outrider.md). -/
def Obligations.OutriderAndGate : Prop :=
  (∀ (s : State) (link : Fin 16) (ago : Fin 4) (active : Bool), s.gOpen = false ∨ s.flag Reg.OUT_WIN_CFG 0 = false ∨ active = false ∨ s.flag Reg.OUT_WIN_LINKS link = false →
    Completes (.windowReport link ago active) s (fun t => t = s)) ∧
  (∀ (s : State) (link : Fin 16) (ago : Fin 4), s.gOpen = true → s.flag Reg.OUT_WIN_CFG 0 = true → s.flag Reg.OUT_WIN_LINKS link = true →
    inWindow s (winPhase s (tlAdd s.tim.tl (-((ago.val * tickUnit : Nat) : Int)))) (s.fld Reg.OUT_WIN_CFG 23 16) = true →
    Completes (.windowReport link ago true) s (fun t => t = s)) ∧
  (∀ (s : State) (link : Fin 16) (ago : Fin 4), s.gOpen = true → s.flag Reg.OUT_WIN_CFG 0 = true → s.flag Reg.OUT_WIN_LINKS link = true →
    inWindow s (winPhase s (tlAdd s.tim.tl (-((ago.val * tickUnit : Nat) : Int)))) (s.fld Reg.OUT_WIN_CFG 23 16) = false → s.out.last = none →
    winConfirm s = 2 → Completes (.windowReport link ago true) s (fun t => t.regN Reg.OUT_WIN_VIOL = satNat 32 (s.regN Reg.OUT_WIN_VIOL + 1) ∧
    t.regN Reg.OUT_WIN_LAST = winPhase s (tlAdd s.tim.tl (-((ago.val * tickUnit : Nat) : Int))) + link.val * 2 ^ 28 ∧ Raised t blkOut 3 ∧
    t.out.viols = 1 ∧ t.safeHeld = s.safeHeld ∧ t.gOpen = true ∧ t.mode = s.mode ∧ SameMem s t)) ∧
  (∀ (s : State) (link : Fin 16) (ago : Fin 4), s.gOpen = true → s.flag Reg.OUT_WIN_CFG 0 = true → s.flag Reg.OUT_WIN_LINKS link = true →
    inWindow s (winPhase s (tlAdd s.tim.tl (-((ago.val * tickUnit : Nat) : Int)))) (s.fld Reg.OUT_WIN_CFG 23 16) = false → s.out.last = none →
    winConfirm s = 1 → s.rcoOk = true → Completes (.windowReport link ago true) s (fun t =>
    t.regN Reg.OUT_WIN_VIOL = satNat 32 (s.regN Reg.OUT_WIN_VIOL + 1) ∧
    t.regN Reg.OUT_WIN_LAST = winPhase s (tlAdd s.tim.tl (-((ago.val * tickUnit : Nat) : Int))) + link.val * 2 ^ 28 ∧ Raised t blkOut 3 ∧
    t.out.viols = 1 ∧ t.flag Reg.OUT_LATCH 1 = true ∧ t.flag Reg.OUT_CAUSE 1 = false ∧ t.safeHeld = true ∧ t.gOpen = false ∧ t.mode = s.mode ∧
    SameMem s t)) ∧
  (∀ (s : State), s.rcoOk = true → s.regN Reg.OUT_TL_LIMIT < outUnc s → s.txPermit = true → s.flag Reg.OUT_CAUSE 2 = false →
    Completes (.tlUncCheck) s (fun t => t.flag Reg.OUT_CAUSE 2 = true ∧ t.flag Reg.OUT_LATCH 2 = true ∧
    t.regN (Reg.OUT_CLASS_CNT 2) = satNat 32 (s.regN (Reg.OUT_CLASS_CNT 2) + 1) ∧ t.safeHeld = true ∧ t.gOpen = false ∧ t.mode = s.mode ∧
    SameMem s t)) ∧
  (∀ (s : State), ¬(s.regN Reg.OUT_TL_LIMIT < outUnc s) ∨ s.txPermit = false → s.flag Reg.OUT_CAUSE 2 = true → Completes (.tlUncCheck) s (fun t =>
    t.flag Reg.OUT_CAUSE 2 = false ∧ t.flag Reg.OUT_LATCH 2 = s.flag Reg.OUT_LATCH 2 ∧ t.safeHeld = s.safeHeld ∧ SameMem s t)) ∧
  (∀ (s : State), ¬(s.regN Reg.OUT_TL_LIMIT < outUnc s) ∨ s.txPermit = false → s.flag Reg.OUT_CAUSE 2 = false → Completes (.tlUncCheck) s (fun t =>
    t = s)) ∧
  (∀ (s : State) (p : Fin 2), pairRuns s p = true → s.rcoOk = true → Completes (.lockstepMismatch p) s (fun t =>
    t.flag Reg.OUT_CAUSE (3 + p.val) = true ∧ t.flag Reg.OUT_LATCH (3 + p.val) = true ∧
    t.regN (Reg.OUT_CLASS_CNT (3 + p.val)) = satNat 32 (s.regN (Reg.OUT_CLASS_CNT (3 + p.val)) + 1) ∧ t.svc.held = s.svc.held ++ [p.val] ∧
    pairRuns t p = false ∧ Raised t blkOut 4 ∧ t.safeHeld = true ∧ t.gOpen = false ∧ t.mode = s.mode ∧ SameMem s t)) ∧
  (∀ (s : State) (p : Fin 2), pairRuns s p = false ∨ s.rcoOk = false → Completes (.lockstepMismatch p) s (fun t => t = s)) ∧
  (∀ (s : State) (n : BitVec 16), s.rcoOk = true → s.tim.ckt = true → (∀ k, k < 7 → 1 ≤ k → clkWatched s k = false) → clkOut s 0 n.toNat = true →
    s.flag Reg.OUT_CLK_STAT 0 = false → s.flag Reg.OUT_CAUSE 5 = false → Completes (.clockCheck [(0, n)]) s (fun t =>
    t.flag Reg.OUT_CLK_STAT 0 = true ∧ t.flag Reg.OUT_CAUSE 5 = false ∧ t.flag Reg.OUT_LATCH 5 = s.flag Reg.OUT_LATCH 5 ∧ t.safeHeld = s.safeHeld ∧
    SameMem s t)) ∧
  (∀ (s : State) (n : BitVec 16), s.rcoOk = true → s.tim.ckt = true → (∀ k, k < 7 → 1 ≤ k → clkWatched s k = false) → clkOut s 0 n.toNat = true →
    s.flag Reg.OUT_CLK_STAT 0 = true → s.out.clks = [] → Completes (.clockCheck [(0, n)]) s (fun t => t.flag Reg.OUT_CAUSE 5 = true ∧
    t.flag Reg.OUT_LATCH 5 = true ∧ t.regN (Reg.OUT_CLASS_CNT 5) = satNat 32 (s.regN (Reg.OUT_CLASS_CNT 5) + 1) ∧ t.out.clks = [0] ∧
    Raised t blkOut 5 ∧ t.safeHeld = true ∧ t.gOpen = false ∧ t.mode = s.mode ∧ SameMem s t)) ∧
  (∀ (s : State) (counts : List (Fin 7 × BitVec 16)), s.rcoOk = false → Completes (.clockCheck counts) s (fun t => t = s)) ∧
  (∀ (s : State) (k : Fin 7), s.rcoOk = true → clkWatched s k = true → k.val ∉ s.out.clks → Completes (.missingEdgeTrip k) s (fun t =>
    t.flag Reg.OUT_CAUSE 5 = true ∧ t.flag Reg.OUT_LATCH 5 = true ∧ t.regN (Reg.OUT_CLASS_CNT 5) = satNat 32 (s.regN (Reg.OUT_CLASS_CNT 5) + 1) ∧
    t.flag Reg.OUT_CLK_STAT k = true ∧ t.out.clks = s.out.clks ++ [k.val] ∧ Raised t blkOut 5 ∧ t.safeHeld = true ∧ t.gOpen = false ∧
    t.mode = s.mode ∧ SameMem s t)) ∧
  (∀ (s : State) (k : Fin 7), s.rcoOk = false → s.pw.boot ≠ 0 → Completes (.missingEdgeTrip k) s (fun t => t.asyncLatch = true ∧ t.gOpen = false ∧
    t.faultN = false ∧ (s.asyncLatch = false → Raised t blkOut 9) ∧ t.mode = s.mode ∧ SameMem s t ∧ t.out.clks = s.out.clks ++ [k.val] ∧
    t.pw.oldMute = false)) ∧
  (∀ (s : State), s.pw.boot ≠ 0 → Completes (.rcoEdgeLoss) s (fun t => t.asyncLatch = true ∧ t.gOpen = false ∧ t.faultN = false ∧
    (s.asyncLatch = false → Raised t blkOut 9) ∧ t.mode = s.mode ∧ SameMem s t)) ∧
  (∀ (s : State), s.pw.boot = 0 → s.rcoOk = true → Completes (.rcoEdgeLoss) s (fun t => t = s)) ∧
  (∀ (s : State), s.pw.boot ≠ 0 → s.rcoOk = true → Completes (.selfDisagree) s (fun t => t.asyncLatch = true ∧ t.gOpen = false ∧ t.faultN = false ∧
    (s.asyncLatch = false → Raised t blkOut 9) ∧ t.mode = s.mode ∧ SameMem s t ∧ t.safeHeld = true ∧ t.flag Reg.OUT_CAUSE 18 = true ∧
    t.flag Reg.OUT_LATCH 18 = true ∧ t.regN (Reg.OUT_CLASS_CNT 18) = satNat 32 (s.regN (Reg.OUT_CLASS_CNT 18) + 1))) ∧
  (∀ (s : State), s.safeHeld = true → s.mode ≠ mBoot → s.mode ≠ mBackup → s.mode ≠ mSafe → Completes (.safeEntry) s (fun t => t.mode = mSafe ∧
    t.under = (if s.mode = mStable then s.modeD else s.mode) ∧ t.released = s.released ∧ t.txPermit = false ∧ t.gOpen = false ∧ Raised t blkPwr 5 ∧
    SameMem s t)) ∧
  (∀ (s : State), s.safeHeld = false ∨ s.mode = mBoot ∨ s.mode = mBackup → Completes (.safeEntry) s (fun t => t = s)) ∧
  (∀ (s : State), s.gOpen = false → s.gateHolds = true → Completes (.gateOpen) s (fun t => t.gOpen = true ∧ Raised t blkOut 2 ∧ t.mode = s.mode ∧
    SameRegs s t (fun a => a = Reg.OUT_STAT ∨ evtOf blkOut 2 a ∨ evtOf blkOut 11 a) ∧ SameMem s t)) ∧
  (∀ (s : State), s.gOpen = true ∨ s.gateHolds = false → Completes (.gateOpen) s (fun t => t = s)) ∧
  (∀ (s : State) (v : BitVec 32) (c : Nat), c < 22 → Completes (.outLatchClear v) s (fun t =>
    t.flag Reg.OUT_LATCH c = (s.flag Reg.OUT_LATCH c && !v.getLsbD c) ∧ t.safeHeld = s.safeHeld ∧ t.regN Reg.OUT_CAUSE = s.regN Reg.OUT_CAUSE ∧
    SameRegs s t (fun a => a = Reg.OUT_LATCH ∨ a = Reg.OUT_STAT ∨ evtOf blkOut 11 a) ∧ SameMem s t)) ∧
  (∀ (s : State) (r : Fin 36) (uv : BitVec 32), s.rcoOk = true → r.val < 32 → uv.toNat < (railTrip s r).1 ∨ (railTrip s r).2 < uv.toNat →
    s.flag Reg.OUT_VMON_STAT r = false → Completes (.railTrip r uv) s (fun t => t.flag Reg.OUT_CAUSE 6 = true ∧ t.flag Reg.OUT_LATCH 6 = true ∧
    t.regN (Reg.OUT_CLASS_CNT 6) = satNat 32 (s.regN (Reg.OUT_CLASS_CNT 6) + 1) ∧ t.flag Reg.OUT_VMON_STAT r = true ∧ Raised t blkOut 6 ∧
    t.safeHeld = true ∧ t.gOpen = false ∧ t.mode = s.mode ∧ SameMem s t)) ∧
  (∀ (s : State) (r : Fin 36) (uv : BitVec 32), s.rcoOk = true → r.val < 32 → (railTrip s r).1 ≤ uv.toNat → uv.toNat ≤ (railTrip s r).2 →
    s.regN Reg.OUT_VMON_STAT = 2 ^ r.val → s.regN Reg.OUT_VMON_STAT2 = 0 → s.flag Reg.OUT_CAUSE 6 = true → Completes (.railTrip r uv) s (fun t =>
    t.regN Reg.OUT_VMON_STAT = 0 ∧ t.flag Reg.OUT_CAUSE 6 = false ∧ t.flag Reg.OUT_LATCH 6 = s.flag Reg.OUT_LATCH 6 ∧ t.safeHeld = s.safeHeld ∧
    SameMem s t)) ∧
  (∀ (s : State) (r : Fin 36) (uv : BitVec 32), s.rcoOk = false → Completes (.railTrip r uv) s (fun t => t = s)) ∧
  (∀ (s : State) (x : BitVec 16), s.rcoOk = true → s.flag Reg.OUT_CAUSE 7 = false → s.flag Reg.OUT_CAUSE 20 = false → s.out.hot = [(0, 9)] →
    32000 < signed 16 x.toNat → s.out.warm = [] → Completes (.tempRead [x]) s (fun t => t.flag Reg.OUT_CAUSE 7 = true ∧
    t.flag Reg.OUT_LATCH 7 = true ∧ t.regN (Reg.OUT_CLASS_CNT 7) = satNat 32 (s.regN (Reg.OUT_CLASS_CNT 7) + 1) ∧ Raised t blkOut 7 ∧
    t.safeHeld = true ∧ t.gOpen = false ∧ t.mode = s.mode ∧ SameMem s t)) ∧
  (∀ (s : State) (x : BitVec 16), s.rcoOk = true → s.flag Reg.OUT_CAUSE 7 = false → s.flag Reg.OUT_CAUSE 20 = false → s.out.hot = [] →
    s.out.warm = [] → signed 16 x.toNat ≤ 32000 → signed 16 x.toNat < signed 16 (s.fld Reg.OUT_TEMP_WARN 15 0) → Completes (.tempRead [x]) s (fun t =>
    t.regN Reg.OUT_TEMP = x.toNat ∧ t.out.hot = [] ∧ t.out.warm = [] ∧ SameRegs s t (· = Reg.OUT_TEMP) ∧ SameMem s t)) ∧
  (∀ (s : State) (ts : List (BitVec 16)), s.rcoOk = false → Completes (.tempRead ts) s (fun t => t = s)) ∧
  (∀ (s : State), s.rcoOk = true → s.gOpen = true → s.flag Reg.OUT_CAUSE 13 = false → Completes (.dualTx true) s (fun t =>
    t.flag Reg.RELAY_STAT 8 = true ∧ t.gOpen = false ∧ t.mode = s.mode ∧ SameMem s t ∧ t.flag Reg.OUT_CAUSE 13 = true ∧
    t.flag Reg.OUT_LATCH 13 = true ∧ t.regN (Reg.OUT_CLASS_CNT 13) = satNat 32 (s.regN (Reg.OUT_CLASS_CNT 13) + 1))) ∧
  (∀ (s : State), Completes (.dualTx false) s (fun t => t.flag Reg.RELAY_STAT 8 = false ∧ t.flag Reg.OUT_CAUSE 13 = false ∧
    t.flag Reg.OUT_LATCH 13 = s.flag Reg.OUT_LATCH 13 ∧ t.safeHeld = s.safeHeld ∧ SameMem s t)) ∧
  (∀ (s : State) (u : Nat), bistOn s = true → tlT s.tim.tl / 64 % s.fld Reg.OUT_BIST_PERIOD 24 0 = s.fld Reg.OUT_BIST_OFS 24 0 → s.out.bist = none →
    s.out.core = none → bistFrom s (s.fld Reg.OUT_BIST_NEXT 13 0) = some u → u < 256 → (s.core u).st ≠ cAsking → Completes (.bistSlot) s (fun t =>
    t.out.core = some { core := u } ∧ t.regN Reg.OUT_BIST_NEXT = (bistFrom s (u + 1)).getD u ∧ t.can = s.can ∧ SameRegs s t (· = Reg.OUT_BIST_NEXT) ∧
    SameMem s t)) ∧
  (∀ (s : State), bistOn s = false ∨ s.out.bist.isSome = true ∨ s.out.core.isSome = true → Completes (.bistSlot) s (fun t => t = s)) ∧
  (∀ (s : State) (b : BistCore), s.out.core = some b → b.begun = true → Completes (.bistCoreTestEnd false) s (fun t => t.out.core = none ∧
    t.core b.core = { s.core b.core with i := memBack s (bistArea s) 8192, x := memBack s (bistArea s + 32768) 8192, y := memBack s (bistArea s + 65536) 8192, c := memBack s (bistArea s + 98304) 4096, st := cAsking } ∧
    (∀ k, k ≠ b.core → t.core k = s.core k) ∧ SameMem s t)) ∧
  (∀ (s : State) (b : BistCore), s.out.core = some b → b.begun = true → b.core < 256 → s.rcoOk = true → Completes (.bistCoreTestEnd true) s (fun t =>
    t.out.core = none ∧ (t.core b.core).st = cAsking ∧ t.flag (Reg.CA_CORE_CFG b.core) 0 = false ∧ t.regN Reg.OUT_BIST_FAIL = b.core + 2 ^ 31 ∧
    Raised t blkOut 13 ∧ t.flag Reg.OUT_LATCH 21 = true ∧ t.safeHeld = s.safeHeld ∧ SameMem s t)) ∧
  (∀ (s : State), s.out.core = none → Completes (.bistCoreTestEnd true) s (fun t => t = s)) ∧
  (∀ (s : State) (b : BistCore), s.out.core = some b → b.begun = false → Completes (.bistSkip) s (fun t => t.out.core = none ∧ Raised t blkOut 14 ∧
    t.can = s.can ∧ SameMem s t)) ∧
  (∀ (s : State) (b : BistCore), s.out.core = some b → b.begun = true → Completes (.bistSkip) s (fun t => t = s)) ∧
  (∀ (s : State) (u : Nat), s.out.bist = some u → Completes (.bistMemoryTestEnd false) s (fun t => t.out.bist = none ∧ t.fab = s.fab ∧
    (s.fld Reg.OUT_BIST_NEXT 13 0 ≤ u → t.regN Reg.OUT_BIST_RUNS = satNat 32 (s.regN Reg.OUT_BIST_RUNS + 1) ∧ Raised t blkOut 12) ∧ SameMem s t)) ∧
  (∀ (s : State) (u : Nat), s.out.bist = some u → 256 ≤ u → u < 9472 → s.rcoOk = true → Completes (.bistMemoryTestEnd true) s (fun t =>
    t.out.bist = none ∧ t.regN Reg.OUT_BIST_FAIL = u + 2 ^ 31 ∧ Raised t blkOut 13 ∧ t.flag Reg.OUT_LATCH 21 = true ∧ t.freeCtr = s.freeCtr + 1024 ∧
    SameMem s t)) ∧
  (∀ (s : State) (fail : Bool), s.out.bist = none → Completes (.bistMemoryTestEnd fail) s (fun t => t = s))

/-- Watchdogs, unlock windows, pins, serial ports, flash and mailboxes (R535, R536, R538, R541, R542, R547, R548, R549, R550, R551, R553, R572). -/
def Obligations.ServicePorts : Prop :=
  (∀ (s : State) (x : Fin 2) (init : Fin 512), init.val = 436 + x.val → Completes (.wdtKick x init 0xA55A) s (fun t =>
    t.fld (Reg.WDT_COUNT x) 23 0 = Nat.max 1000 (s.fld (Reg.WDT_CFG x) 23 0) ∧ wdtTimeout t x = Nat.max 1000 (s.fld (Reg.WDT_CFG x) 23 0) ∧
    x.val ∉ t.svc.warn ∧ SameRegs s t (· = Reg.WDT_COUNT x) ∧ SameMem s t)) ∧
  (∀ (s : State) (x : Fin 2) (init : Fin 512) (v : BitVec 32), v ≠ 0xA55A ∨ init.val ≠ 436 + x.val → Completes (.wdtKick x init v) s (fun t =>
    t = s.raise blkSvc 0)) ∧
  (∀ (s : State) (x : Fin 2), wdtLeft s x = true → x.val ∉ s.svc.warn → Completes (.wdtWarning x) s (fun t => t.svc.warn = s.svc.warn ++ [x.val] ∧
    t.fld (Reg.WDT_COUNT x) 23 0 = wdtTimeout s x / 4 % 2 ^ 24 ∧ SameRegs s t (· = Reg.WDT_COUNT x) ∧ SameMem s t)) ∧
  (∀ (s : State) (x : Fin 2), wdtLeft s x = false → Completes (.wdtWarning x) s (fun t => t = s)) ∧
  (∀ (s : State) (x : Fin 3), x.val ≠ 1 → wdtLeft s 0 = true → Completes (.wdtExpire x) s (fun t => t.mode = mBoot ∧ t.regN Reg.PWR_RESET_CAUSE = 8 ∧
    t.pw.boot = 1 ∧ t.gOpen = false ∧ t.sec.otp = s.sec.otp ∧ SameMem s t)) ∧
  (∀ (s : State) (x : Fin 3), x.val = 1 → wdtLeft s 1 = true → Completes (.wdtExpire x) s (fun t => t.mode = mBoot ∧ t.regN Reg.PWR_RESET_CAUSE = 16 ∧
    t.pw.boot = 1 ∧ t.gOpen = false ∧ t.sec.otp = s.sec.otp ∧ SameMem s t)) ∧
  (∀ (s : State) (x : Fin 3), wdtLeft s 0 = false → wdtLeft s 1 = false → Completes (.wdtExpire x) s (fun t => t = s)) ∧
  (∀ (s : State) (init : Fin 512) (p : Nat), initPair init = some p → Completes (.sysUnlock init 0x4B520001) s (fun t =>
    t = s.setSvc { s.svc with unlock := s.svc.unlock.filter (fun e => e.1 != p) ++ [(p, { stage := 1, since := s.tim.cks })] })) ∧
  (∀ (s : State) (init : Fin 512) (p : Nat), initPair init = some p →
    s.svc.unlock.any (fun e => e.1 == p && e.2.stage == 1 && decide (pairCycles (s.tim.cks - e.2.since) ≤ 64)) = true →
    Completes (.sysUnlock init 0x4B520002) s (fun t =>
    t = s.setSvc { s.svc with unlock := s.svc.unlock.filter (fun e => e.1 != p) ++ [(p, { stage := 2, since := s.tim.cks })] })) ∧
  (∀ (s : State) (init : Fin 512) (v : BitVec 32) (p : Nat), initPair init = some p → v ≠ 0x4B520001 → v ≠ 0x4B520002 →
    Completes (.sysUnlock init v) s (fun t => t = s.setSvc { s.svc with unlock := s.svc.unlock.filter (fun e => e.1 != p) })) ∧
  (∀ (s : State) (v : BitVec 32), Completes (.sysSwi v) s (fun t => t.regN Reg.SYS_SWI_STAT = Nat.lor (s.regN Reg.SYS_SWI_STAT) (v.toNat % 4) ∧
    SameRegs s t (· = Reg.SYS_SWI_STAT) ∧ SameMem s t)) ∧
  (∀ (s : State) (init : Fin 512) (v : BitVec 32), init.val = debugInit → s.debugLevel = 2 → (∀ k, k < 7 → v.getLsbD k = true) →
    Completes (.periGateWrite init v) s (fun t => t.regN Reg.PERI_GATE = 127 ∧ SameRegs s t (· = Reg.PERI_GATE) ∧ t.svc = s.svc ∧ SameMem s t)) ∧
  (∀ (s : State) (init : Fin 512) (v : BitVec 32), init.val = debugInit → s.debugLevel = 2 → periOn s 2 = true → v.toNat % 128 = 123 →
    Completes (.periGateWrite init v) s (fun t => t.regN Reg.PERI_GATE = 123 ∧ t.svc.spiTx = [] ∧ t.svc.spiRx = [] ∧ t.svc.spiCmd = none ∧
    t.flag Reg.SPI1_STAT 0 = false ∧ SameMem s t)) ∧
  (∀ (s : State) (init : Fin 512) (v : BitVec 32), initPair init ≠ none → s.svc.unlock = [] → Completes (.periGateWrite init v) s (fun t =>
    t = s.raise blkSvc 1)) ∧
  (∀ (s : State) (p : Fin 2) (init : Fin 512) (v : BitVec 32), init.val = 436 + p.val → s.svc.unlock = [(p.val, { stage := 2, since := s.tim.cks })] →
    (∀ k, k < 7 → v.getLsbD k = true) → Completes (.periGateWrite init v) s (fun t => t.regN Reg.PERI_GATE = 127 ∧ t.svc.unlock = [] ∧
    SameRegs s t (· = Reg.PERI_GATE) ∧ SameMem s t)) ∧
  (∀ (s : State) (n : Fin 48) (v : BitVec 32), s.svc.uarts = [] → bitsOf v.toNat 7 0 ≠ s.fld (Reg.PIN_CFG n) 7 0 →
    Completes (.pinCfgWrite n v) s (fun t => t.regN (Reg.PIN_CFG n) = v.toNat % 2 ^ 14 ∧ t.svc.broken = s.svc.broken.filter (· ≠ n.val) ++ [n.val] ∧
    SameRegs s t (· = Reg.PIN_CFG n) ∧ SameMem s t)) ∧
  (∀ (s : State) (n : Fin 48) (v : BitVec 32), s.svc.uarts = [] → bitsOf v.toNat 7 0 = s.fld (Reg.PIN_CFG n) 7 0 →
    Completes (.pinCfgWrite n v) s (fun t => t.regN (Reg.PIN_CFG n) = v.toNat % 2 ^ 14 ∧ t.svc = s.svc ∧ SameRegs s t (· = Reg.PIN_CFG n) ∧
    SameMem s t)) ∧
  (∀ (s : State) (n : Fin 48), s.svc.uarts = [] → Completes (.pinSwitchMake n) s (fun t =>
    t = s.setSvc { s.svc with broken := s.svc.broken.filter (· ≠ n.val) })) ∧
  (∀ (s : State) (v : BitVec 32), periOn s 6 = true → Completes (.gpioDoutWrite false v) s (fun t => t.regN Reg.GPIO_DOUT_LO = v.toNat ∧
    SameRegs s t (· = Reg.GPIO_DOUT_LO) ∧ SameMem s t)) ∧
  (∀ (s : State) (v : BitVec 32), periOn s 6 = true → Completes (.gpioDoutWrite true v) s (fun t => t.regN Reg.GPIO_DOUT_HI = v.toNat % 2 ^ 16 ∧
    SameRegs s t (· = Reg.GPIO_DOUT_HI) ∧ SameMem s t)) ∧
  (∀ (s : State) (hi : Bool) (v : BitVec 32), periOn s 6 = false → Completes (.gpioDoutWrite hi v) s (fun t => t = s)) ∧
  (∀ (s : State) (n : Fin 48) (lv : Bool), s.svc.uarts = [] → periRuns s 6 = true → s.flag (Reg.PIN_CFG n) (if lv then 12 else 13) = true →
    Completes (.gpioEdge n lv) s (fun t => t.flag (if n.val < 32 then Reg.GPIO_EDGE_LO else Reg.GPIO_EDGE_HI) (n.val % 32) = true ∧
    Raised t blkPin 11 ∧ t.svc.inputs.find? (fun e => e.1 == n.val) = some (n.val, lv) ∧
    SameRegs s t (fun a => a = (if n.val < 32 then Reg.GPIO_EDGE_LO else Reg.GPIO_EDGE_HI) ∨ evtOf blkPin 11 a) ∧ SameMem s t)) ∧
  (∀ (s : State) (n : Fin 48) (lv : Bool), s.svc.uarts = [] → s.flag (Reg.PIN_CFG n) (if lv then 12 else 13) = false →
    Completes (.gpioEdge n lv) s (fun t => t.svc.inputs.find? (fun e => e.1 == n.val) = some (n.val, lv) ∧ t.regs = s.regs ∧ t.mem = s.mem)) ∧
  (∀ (s : State) (u : Fin 2) (v : BitVec 32), periRuns s u = true → (uartOf s u).sh = none → (uartOf s u).tx = [] →
    s.flag (Reg.UART_CFG u) 24 = false → Completes (.uartTxPush u v) s (fun t =>
    uartOf t u = { uartOf s u with sh := some (BitVec.ofNat 8 v.toNat) } ∧ t.flag (Reg.UART_STAT u) 15 = true ∧
    SameRegs s t (fun a => a = Reg.UART_STAT u ∨ evtOf blkPin (3 * u.val) a) ∧ SameMem s t)) ∧
  (∀ (s : State) (u : Fin 2) (v : BitVec 32), periOn s u = true → (uartOf s u).sh.isSome = true → (uartOf s u).tx.length < 64 →
    Completes (.uartTxPush u v) s (fun t => uartOf t u = { uartOf s u with tx := (uartOf s u).tx ++ [BitVec.ofNat 8 v.toNat] } ∧
    SameRegs s t (fun a => a = Reg.UART_STAT u ∨ evtOf blkPin (3 * u.val) a) ∧ SameMem s t)) ∧
  (∀ (s : State) (u : Fin 2) (v : BitVec 32), periOn s u = true → 64 ≤ (uartOf s u).tx.length → Completes (.uartTxPush u v) s (fun t =>
    t.regN (Reg.UART_ERR_CNT u) = satNat 32 (s.regN (Reg.UART_ERR_CNT u) + 1) ∧ Raised t blkPin (3 * u.val + 2) ∧ uartOf t u = uartOf s u ∧
    SameMem s t)) ∧
  (∀ (s : State) (u : Fin 2) (init : Fin 512) (w : Nat) (r : List Nat), periOn s u = true → init.val ≠ debugInit → (uartOf s u).rx = w :: r →
    Completes (.uartRxPop u init) s (fun t => uartOf t u = { uartOf s u with rx := r } ∧ t.ans = ⟨init, 0, [w + 2 ^ 31]⟩ ∧
    SameRegs s t (fun a => a = Reg.UART_STAT u ∨ evtOf blkPin (3 * u.val) a) ∧ SameMem s t)) ∧
  (∀ (s : State) (u : Fin 2) (init : Fin 512), (uartOf s u).rx = [] → Completes (.uartRxPop u init) s (fun t => t = s.answer init 0 [0])) ∧
  (∀ (s : State) (u : Fin 2) (b : BitVec 8), periRuns s u = true → inPins s (u.val + 1) 1 ≠ [] → s.flag (Reg.UART_CFG u) 20 = false →
    (uartOf s u).rx.length < 64 → Completes (.uartRxByte u b false false) s (fun t =>
    uartOf t u = { uartOf s u with rx := (uartOf s u).rx ++ [b.toNat] } ∧ Raised t blkPin (3 * u.val) ∧ SameMem s t)) ∧
  (∀ (s : State) (u : Fin 2) (b : BitVec 8), periRuns s u = true → inPins s (u.val + 1) 1 ≠ [] → 64 ≤ (uartOf s u).rx.length →
    Completes (.uartRxByte u b false false) s (fun t => t.regN (Reg.UART_ERR_CNT u) = satNat 32 (s.regN (Reg.UART_ERR_CNT u) + 1) ∧
    Raised t blkPin (3 * u.val + 2) ∧ uartOf t u = uartOf s u ∧ SameMem s t)) ∧
  (∀ (s : State) (u : Fin 2) (b : BitVec 8) (pe fe : Bool), periRuns s u = false ∨ inPins s (u.val + 1) 1 = [] →
    Completes (.uartRxByte u b pe fe) s (fun t => t = s)) ∧
  (∀ (s : State) (u : Fin 2) (b : BitVec 8), periRuns s u = true → (uartOf s u).sh = some b → (uartOf s u).tx = [] →
    Completes (.uartTxByte u) s (fun t => uartOf t u = { uartOf s u with sh := none } ∧ t.ans = ⟨8192 + u.val, 0, [b.toNat]⟩ ∧
    Raised t blkPin (3 * u.val + 1) ∧ SameMem s t)) ∧
  (∀ (s : State) (u : Fin 2) (b c : BitVec 8) (r : List (BitVec 8)), periRuns s u = true → (uartOf s u).sh = some b → (uartOf s u).tx = c :: r →
    s.flag (Reg.UART_CFG u) 24 = false → Completes (.uartTxByte u) s (fun t => uartOf t u = { uartOf s u with sh := some c, tx := r } ∧
    t.ans = ⟨8192 + u.val, 0, [b.toNat]⟩ ∧ SameMem s t)) ∧
  (∀ (s : State) (u : Fin 2), (uartOf s u).sh = none → Completes (.uartTxByte u) s (fun t => t = s)) ∧
  (∀ (s : State) (v : BitVec 32), periOn s 2 = true → s.svc.spiCmd = none → Completes (.spi1Cmd v) s (fun t =>
    t.svc.spiCmd = some (v.toNat % 2 ^ 11) ∧ t.flag Reg.SPI1_STAT 0 = true ∧ t.flag Reg.SPI1_STAT 15 = false ∧ SameRegs s t (· = Reg.SPI1_STAT) ∧
    SameMem s t)) ∧
  (∀ (s : State) (v : BitVec 32), periOn s 2 = true → s.svc.spiCmd.isSome = true → Completes (.spi1Cmd v) s (fun t => t.svc = s.svc ∧
    t.flag Reg.SPI1_STAT 15 = true ∧ SameRegs s t (· = Reg.SPI1_STAT) ∧ SameMem s t)) ∧
  (∀ (s : State) (m : List Byte) (c : Nat), periRuns s 2 = true → s.svc.spiCmd = some c → inPins s 3 2 ≠ [] → Completes (.spi1Done m) s (fun t =>
    t.svc.spiCmd = none ∧ t.svc.spiTx = s.svc.spiTx.drop (bitsOf c 5 0 + 1) ∧ t.svc.spiRx = (s.svc.spiRx ++ padTo (bitsOf c 5 0 + 1) m).take 64 ∧
    t.ans = ⟨8194, bitsOf c 9 8, (padTo (bitsOf c 5 0 + 1) s.svc.spiTx).map (·.toNat)⟩ ∧ t.flag Reg.SPI1_STAT 0 = false ∧ Raised t blkPin 6 ∧
    SameRegs s t (fun a => a = Reg.SPI1_STAT ∨ evtOf blkPin 6 a) ∧ SameMem s t)) ∧
  (∀ (s : State) (m : List Byte), s.svc.spiCmd = none → Completes (.spi1Done m) s (fun t => t = s)) ∧
  (∀ (s : State) (init : Fin 512) (v : BitVec 32), periOn s 2 = true → s.svc.spiTx.length < 64 → Completes (.spi1DataAccess init true v) s (fun t =>
    t.svc = { s.svc with spiTx := s.svc.spiTx ++ [BitVec.ofNat 8 v.toNat] } ∧ SameRegs s t (· = Reg.SPI1_STAT) ∧ SameMem s t)) ∧
  (∀ (s : State) (init : Fin 512) (v : BitVec 32) (b : BitVec 8) (r : List (BitVec 8)), periOn s 2 = true → init.val ≠ debugInit →
    s.svc.spiRx = b :: r → Completes (.spi1DataAccess init false v) s (fun t => t.svc = { s.svc with spiRx := r } ∧ t.ans = ⟨init, 0, [b.toNat]⟩ ∧
    SameRegs s t (· = Reg.SPI1_STAT) ∧ SameMem s t)) ∧
  (∀ (s : State) (i : Fin 2) (v : BitVec 32), periOn s (4 + i.val) = true → s.flag (Reg.I2C_STAT i) 0 = false →
    i.val = 0 ∨ s.flag Reg.AVS_CFG 0 = false → Completes (.i2cCmd i v) s (fun t => t.svc.i2c.find? (fun e => e.1 == i.val) = some (i.val, v.toNat) ∧
    t.flag (Reg.I2C_STAT i) 0 = true ∧ SameRegs s t (· = Reg.I2C_STAT i) ∧ SameMem s t)) ∧
  (∀ (s : State) (i : Fin 2) (v : BitVec 32), periOn s (4 + i.val) = true → s.flag (Reg.I2C_STAT i) 0 = true → Completes (.i2cCmd i v) s (fun t =>
    t.svc = s.svc ∧ t.fld (Reg.I2C_STAT i) 3 1 = 6 ∧ Raised t blkPin (7 + 2 * i.val) ∧ Raised t blkPin (8 + 2 * i.val) ∧
    t.regN (Reg.I2C_ERR_CNT i) = satNat 32 (s.regN (Reg.I2C_ERR_CNT i) + 1) ∧ SameMem s t)) ∧
  (∀ (s : State) (i : Fin 2) (c : Nat) (d : List Byte), periRuns s (4 + i.val) = true → s.svc.i2c.find? (fun e => e.1 == i.val) = some (i.val, c) →
    bitsOf c 21 16 = 2 → d.length = 2 → Completes (.i2cDone i 0 d) s (fun t => t.flag (Reg.I2C_STAT i) 0 = false ∧ t.fld (Reg.I2C_STAT i) 3 1 = 0 ∧
    t.fld (Reg.I2C_RBUF i 0) 7 0 = (d.getD 0 0).toNat ∧ t.fld (Reg.I2C_RBUF i 0) 15 8 = (d.getD 1 0).toNat ∧ (∀ e ∈ t.svc.i2c, e.1 ≠ i.val) ∧
    Raised t blkPin (7 + 2 * i.val) ∧ t.regN (Reg.I2C_ERR_CNT i) = s.regN (Reg.I2C_ERR_CNT i) ∧ SameMem s t)) ∧
  (∀ (s : State) (i : Fin 2) (c : Nat) (r : Fin 5), periRuns s (4 + i.val) = true → s.svc.i2c.find? (fun e => e.1 == i.val) = some (i.val, c) →
    r.val = 1 ∨ r.val = 2 ∨ r.val = 3 → Completes (.i2cDone i r []) s (fun t => t.flag (Reg.I2C_STAT i) 0 = false ∧
    t.fld (Reg.I2C_STAT i) 3 1 = r.val ∧ Raised t blkPin (8 + 2 * i.val) ∧ t.regN (Reg.I2C_ERR_CNT i) = satNat 32 (s.regN (Reg.I2C_ERR_CNT i) + 1) ∧
    SameMem s t)) ∧
  (∀ (s : State) (i : Fin 2) (r : Fin 5) (d : List Byte), (∀ e ∈ s.svc.i2c, e.1 ≠ i.val) → Completes (.i2cDone i r d) s (fun t => t = s)) ∧
  (∀ (s : State) (init : Fin 512) (v : BitVec 32), initPair init ≠ none → s.svc.flash = none →
    s.fld Reg.FLASH_ADDR 23 0 < 0xF00000 ∨ 0xF40000 ≤ s.fld Reg.FLASH_ADDR 23 0 → v.toNat % 4 = 1 → Completes (.flashErase init v) s (fun t =>
    t.svc.flash = some { erase := true, ofs := s.fld Reg.FLASH_ADDR 23 0 / 65536 * 65536, page := [] } ∧ t.regN Reg.FLASH_STAT = 1 ∧
    SameRegs s t (· = Reg.FLASH_STAT) ∧ SameMem s t)) ∧
  (∀ (s : State) (init : Fin 512) (v : BitVec 32), initPair init = none ∨ s.svc.flash.isSome = true ∨ (0xF00000 ≤ s.fld Reg.FLASH_ADDR 23 0 ∧
    s.fld Reg.FLASH_ADDR 23 0 < 0xF40000) → v.toNat % 4 = 1 → Completes (.flashErase init v) s (fun t => t.svc = s.svc ∧
    t.flag Reg.FLASH_STAT 1 = true ∧ Raised t blkSvc 7 ∧ SameMem s t)) ∧
  (∀ (s : State) (init : Fin 512) (v : BitVec 32), initPair init ≠ none → s.svc.flash = none →
    s.fld Reg.FLASH_ADDR 23 0 < 0xF00000 ∨ 0xF40000 ≤ s.fld Reg.FLASH_ADDR 23 0 → v.toNat % 4 = 2 → Completes (.flashProgram init v) s (fun t =>
    t.svc.flash = some { erase := false, ofs := s.fld Reg.FLASH_ADDR 23 0 / 256 * 256, page := (List.range 64).flatMap (fun i => leBytes 4 (s.regN (Reg.FLASH_BUF i))) } ∧
    t.regN Reg.FLASH_STAT = 1 ∧ SameRegs s t (· = Reg.FLASH_STAT) ∧ SameMem s t)) ∧
  (∀ (s : State) (c : FlashCmd) (x : Nat), s.svc.flash = some c → c.erase = false → c.page.length = 256 → c.ofs < 0xF40000 →
    Completes (.flashDone false) s (fun t => t.svc.flash = none ∧ t.regN Reg.FLASH_STAT = 0 ∧ Raised t blkSvc 6 ∧
    t.byte x = (if flashBase + c.ofs ≤ x ∧ x < flashBase + c.ofs + 256 then c.page.getD (x - (flashBase + c.ofs)) 0 else s.byte x) ∧
    SameRegs s t (fun a => a = Reg.FLASH_STAT ∨ evtOf blkSvc 6 a))) ∧
  (∀ (s : State) (c : FlashCmd) (x : Nat), s.svc.flash = some c → c.erase = true → c.ofs < 0xF40000 → Completes (.flashDone false) s (fun t =>
    t.svc.flash = none ∧ t.regN Reg.FLASH_STAT = 0 ∧ Raised t blkSvc 6 ∧ t.byte x = (if flashBase + c.ofs ≤ x ∧
    x < flashBase + c.ofs + 65536 then 0xFF else s.byte x) ∧ SameRegs s t (fun a => a = Reg.FLASH_STAT ∨ evtOf blkSvc 6 a))) ∧
  (∀ (s : State) (bad : Bool), s.svc.flash = none → Completes (.flashDone bad) s (fun t => t = s)) ∧
  (∀ (s : State) (v : BitVec 32), s.dbg.h2d.length < 16 → Completes (.mboxH2dPush 474 v) s (fun t => t.dbg = { s.dbg with h2d := s.dbg.h2d ++ [v] } ∧
    Raised t blkDbg 5 ∧ SameRegs s t (fun a => a = Reg.DBG_MBOX_STAT ∨ evtOf blkDbg 5 a) ∧ SameMem s t)) ∧
  (∀ (s : State) (v : BitVec 32), 16 ≤ s.dbg.h2d.length → Completes (.mboxH2dPush 474 v) s (fun t => t = s.raise blkDbg 6)) ∧
  (∀ (s : State) (init : Fin 512) (w : BitVec 32) (r : List (BitVec 32)), initPair init ≠ none → s.dbg.h2d = w :: r →
    Completes (.mboxH2dPop init) s (fun t => t.dbg = { s.dbg with h2d := r } ∧ t.ans = ⟨init, 0, [w.toNat]⟩ ∧ SameRegs s t (· = Reg.DBG_MBOX_STAT) ∧
    SameMem s t)) ∧
  (∀ (s : State) (init : Fin 512), s.dbg.h2d = [] → Completes (.mboxH2dPop init) s (fun t => t = s.answer init 0 [0])) ∧
  (∀ (s : State) (init : Fin 512) (v : BitVec 32), initPair init ≠ none → s.dbg.d2h.length < 16 → Completes (.mboxD2hPush init v) s (fun t =>
    t.dbg = { s.dbg with d2h := s.dbg.d2h ++ [v] } ∧ SameRegs s t (· = Reg.DBG_MBOX_STAT) ∧ SameMem s t)) ∧
  (∀ (s : State) (init : Fin 512) (v : BitVec 32), initPair init ≠ none → 16 ≤ s.dbg.d2h.length → Completes (.mboxD2hPush init v) s (fun t =>
    t = s.raise blkDbg 6)) ∧
  (∀ (s : State), Completes (.mboxD2hPop 474 1) s (fun t => t.dbg = { s.dbg with d2h := s.dbg.d2h.drop 1 } ∧ SameRegs s t (· = Reg.DBG_MBOX_STAT) ∧
    SameMem s t))

/-- The TAP, system access by debug, run control, Canter halts and delay-list snapshots (R555, R557, R558, R559, R560, R561, R562, R563, R565, R566, R567, R569). -/
def Obligations.DebugPort : Prop :=
  (∀ (s : State), Completes (.idcode) s (fun t => t = (setIr s 1).answer 8200 0 [0x1C8E0D2B])) ∧
  (∀ (s : State) (l : List (BitVec 12 × Bool)), s.debugLevel = 0 → Completes (.samplePreload l) s (fun t => t = (setIr s 2).answer 8200 0 [0])) ∧
  (∀ (s : State) (c : BitVec 12) (b : Bool), s.debugLevel ≠ 0 → Completes (.samplePreload [(c, b)]) s (fun t => t.dbg.ir = 2 ∧
    t.dbg.bound.find? (fun e => e.1 == c.toNat) = some (c.toNat, b) ∧ t.ans.who = 8200 ∧ t.regs = s.regs ∧ t.mem = s.mem)) ∧
  (∀ (s : State), s.debugLevel = 2 → s.mode = mBlank → Completes (.extest) s (fun t => t.dbg.ir = 3 ∧ extestOn t = true ∧ t.ans.who = 8200 ∧
    t.regs = s.regs ∧ t.mem = s.mem)) ∧
  (∀ (s : State), s.debugLevel ≠ 2 ∨ s.mode ≠ mBlank → Completes (.extest) s (fun t => t = (setIr s 0xFF).answer 8200 0 [0])) ∧
  (∀ (s : State), Completes (.bypass) s (fun t => t = (setIr s 0xFF).answer 8200 0 [0])) ∧
  (∀ (s : State), Completes (.tapReset) s (fun t => t = setIr s 1)) ∧
  (∀ (s : State) (v : BitVec 32), Completes (.dtmcs v) s (fun t => t = (setIr s 0x10).answer 8200 0 [0x71 + 2 ^ 12 * Config.dtmIdle.toNat])) ∧
  (∀ (s : State) (v : BitVec 32), v.getLsbD 3 = true → s.flag Reg.SEC_STAT 3 = true → s.life = 2 ∨ s.life = 3 → s.sec.erase = none →
    Completes (.unlockRequest v) s (fun t => t.sec = { s.sec with erase := some (0, false) } ∧ t.dbg = { s.dbg with ir := 0x20 } ∧
    t.ans = ⟨8200, 0, [s.debugLevel + 4 * bit (s.flag Reg.SEC_STAT 3) + 8 * bit s.sec.erase.isSome + 16 * s.life]⟩ ∧ t.regs = s.regs ∧
    t.mem = s.mem)) ∧
  (∀ (s : State) (v : BitVec 32), v.getLsbD 3 = false ∨ s.flag Reg.SEC_STAT 3 = false → Completes (.unlockRequest v) s (fun t =>
    t = (setIr s 0x20).answer 8200 0 [s.debugLevel + 4 * bit (s.flag Reg.SEC_STAT 3) + 8 * bit s.sec.erase.isSome + 16 * s.life])) ∧
  (∀ (s : State) (a : BitVec 48), s.debugLevel = 0 → Completes (.dbgSysRead a) s (fun t => t.dbg.ir = 0x21 ∧ t.dbg.status = 9 ∧ t.dbg.data = 0 ∧
    t.ans = ⟨8200, 0, [9, 0]⟩ ∧ t.regs = s.regs ∧ t.mem = s.mem)) ∧
  (∀ (s : State) (a : BitVec 48), s.debugLevel ≠ 0 → oneBlock a.toNat 4 = true → inScratch a.toNat = true → spOn s (spBank a.toNat) = true →
    (∀ w ∈ wordsOf a.toNat 4, spErr s w = 0) → Completes (.dbgSysRead a) s (fun t => t.dbg.ir = 0x21 ∧ t.dbg.status = 0 ∧
    t.dbg.data = leNat (s.stored a.toNat 4) ∧ t.ans = ⟨8200, 0, [0, leNat (s.stored a.toNat 4)]⟩ ∧ t.regs = s.regs ∧ t.mem = s.mem)) ∧
  (∀ (s : State) (a : BitVec 48), s.debugLevel ≠ 0 → oneBlock a.toNat 4 = false → Completes (.dbgSysRead a) s (fun t => t.dbg.ir = 0x21 ∧
    t.dbg.status = 1 ∧ t.dbg.data = 0 ∧ t.ans = ⟨8200, 0, [1, 0]⟩ ∧ t.regs = s.regs ∧ t.mem = s.mem)) ∧
  (∀ (s : State) (a : BitVec 48) (d : BitVec 32), s.debugLevel < 2 → Completes (.dbgSysWrite a d) s (fun t => t.dbg.ir = 0x21 ∧ t.dbg.status = 9 ∧
    t.dbg.data = 0 ∧ t.ans = ⟨8200, 0, [9, 0]⟩ ∧ t.regs = s.regs ∧ t.mem = s.mem)) ∧
  (∀ (s : State) (a : BitVec 48) (d : BitVec 32) (x : Nat), s.debugLevel = 2 → oneBlock a.toNat 4 = true → inScratch a.toNat = true →
    spOn s (spBank a.toNat) = true → s.shadowing = false → jOn s = false → s.noc.flip = none → Completes (.dbgSysWrite a d) s (fun t =>
    t.dbg.ir = 0x21 ∧ t.dbg.status = 0 ∧ t.dbg.data = 0 ∧ t.ans = ⟨8200, 0, [0, 0]⟩ ∧ t.byte x = (if a.toNat ≤ x ∧
    x < a.toNat + 4 then (leBytes 4 d.toNat).getD (x - a.toNat) 0 else s.byte x))) ∧
  (∀ (s : State) (p : Fin 2), s.debugLevel = 2 → pairRuns s p = true → s.rcoOk = true → s.flag Reg.OUT_CAUSE 16 = false →
    Completes (.haltreq p) s (fun t => t.dbg.halted = s.dbg.halted ++ [p.val] ∧ pairRuns t p = false ∧ t.gOpen = false ∧ Raised t blkDbg 0 ∧
    t.mode = s.mode ∧ SameMem s t ∧ t.flag Reg.OUT_CAUSE 16 = true ∧ t.flag Reg.OUT_LATCH 16 = true ∧
    t.regN (Reg.OUT_CLASS_CNT 16) = satNat 32 (s.regN (Reg.OUT_CLASS_CNT 16) + 1))) ∧
  (∀ (s : State) (p : Fin 2), s.debugLevel ≠ 2 ∨ pairRuns s p = false → Completes (.haltreq p) s (fun t => t = s)) ∧
  (∀ (s : State) (p : Fin 2), s.debugLevel = 2 → s.dbg.halted = [p.val] → dcsrStep s p = false → Completes (.resumereq p) s (fun t =>
    t.dbg.halted = [] ∧ t.fld (Reg.WDT_COUNT p) 23 0 = Nat.max 1000 (s.fld (Reg.WDT_COUNT p) 23 0) ∧ t.flag Reg.OUT_CAUSE 16 = false ∧
    dmBit t dmResumeAck p = true ∧ Raised t blkDbg 1 ∧ t.mode = s.mode ∧ SameMem s t)) ∧
  (∀ (s : State) (p : Fin 2), s.debugLevel ≠ 2 ∨ p.val ∉ s.dbg.halted → Completes (.resumereq p) s (fun t => t = s)) ∧
  (∀ (s : State) (n : Fin 32), s.debugLevel = 2 → dmActive s = true → bitsOf (dmReg s dmAbstract) 10 8 = 0 → dmHart s < 2 →
    pairUp s (dmHart s) = true → dmHart s ∈ s.dbg.halted → n.val ≠ 0 → Completes (.accessRegister (BitVec.ofNat 32 (0x331000 + n.val))) s (fun t =>
    t.dbg.gprs.find? (fun e => e.1 == 65536 * dmHart s + 0x1000 + n.val) = some (65536 * dmHart s + 0x1000 + n.val, BitVec.ofNat 64 (dmReg s 4 + dmReg s 5 * 2 ^ 32)) ∧
    t.dbg.dm = s.dbg.dm ∧ t.regs = s.regs ∧ t.mem = s.mem)) ∧
  (∀ (s : State) (n : Fin 32) (v : BitVec 64), s.debugLevel = 2 → dmActive s = true → bitsOf (dmReg s dmAbstract) 10 8 = 0 → dmHart s < 2 →
    pairUp s (dmHart s) = true → dmHart s ∈ s.dbg.halted → n.val ≠ 0 →
    s.dbg.gprs.find? (fun e => e.1 == 65536 * dmHart s + (0x1000 + n.val)) = some (65536 * dmHart s + (0x1000 + n.val), v) →
    Completes (.accessRegister (BitVec.ofNat 32 (0x321000 + n.val))) s (fun t => dmReg t 4 = v.toNat % 2 ^ 32 ∧ dmReg t 5 = v.toNat / 2 ^ 32 ∧
    t.dbg.gprs = s.dbg.gprs ∧ t.regs = s.regs ∧ t.mem = s.mem)) ∧
  (∀ (s : State) (n : Fin 32), s.debugLevel = 2 → dmActive s = true → bitsOf (dmReg s dmAbstract) 10 8 = 0 →
    pairUp s (dmHart s) = false ∨ dmHart s ∉ s.dbg.halted ∨ 2 ≤ dmHart s →
    Completes (.accessRegister (BitVec.ofNat 32 (0x331000 + n.val))) s (fun t => bitsOf (dmReg t dmAbstract) 10 8 = 4 ∧ t.dbg.gprs = s.dbg.gprs ∧
    t.regs = s.regs ∧ t.mem = s.mem)) ∧
  (∀ (s : State) (a : BitVec 7) (d : BitVec 32), s.debugLevel = 2 → dmActive s = true → a = 4 ∨ a = 5 ∨ (0x20 ≤ a.toNat ∧ a.toNat < 0x28) →
    Completes (.dmi 2 a d) s (fun t => dmReg t a.toNat = d.toNat ∧ t.dbg.ir = 0x11 ∧ t.ans = ⟨8200, 0, [0, d.toNat]⟩ ∧ t.dbg.halted = s.dbg.halted ∧
    t.regs = s.regs ∧ t.mem = s.mem)) ∧
  (∀ (s : State) (a : BitVec 7) (d : BitVec 32), s.debugLevel ≠ 2 → Completes (.dmi 2 a d) s (fun t =>
    t = (setIr s 0x11).answer 8200 0 [0, d.toNat])) ∧
  (∀ (s : State) (d : BitVec 32), s.debugLevel ≠ 0 → Completes (.dmi 1 0x11 d) s (fun t => t = (setIr s 0x11).answer 8200 0 [0, dmStatus s])) ∧
  (∀ (s : State) (a : BitVec 7) (d : BitVec 32), s.debugLevel = 0 → Completes (.dmi 1 a d) s (fun t => t = (setIr s 0x11).answer 8200 0 [0, 0])) ∧
  (∀ (s : State) (init : Fin 512) (v : BitVec 32), init.val = debugInit → teamOn s (teamOf (v.toNat % 256)) = true → s.flag Reg.CA_STAT 8 = false →
    (s.core (v.toNat % 256)).st ≠ cBist → (s.core (v.toNat % 256)).st ≠ cHalted → (s.core (v.toNat % 256)).st ≠ cOff → s.pac.ops = [] →
    s.out.core = none → Completes (.dbgCanHalt init v) s (fun t => (t.core (v.toNat % 256)).st = cHalted ∧
    (t.core (v.toNat % 256)).bank0 = (s.core (v.toNat % 256)).bank0 ∧ (t.core (v.toNat % 256)).bank1 = (s.core (v.toNat % 256)).bank1 ∧
    Raised t blkDbg 2 ∧ SameMem s t)) ∧
  (∀ (s : State) (init : Fin 512) (v : BitVec 32), init.val = debugInit →
    teamOn s (teamOf (v.toNat % 256)) = false ∨ (s.core (v.toNat % 256)).st = cBist ∨ (s.core (v.toNat % 256)).st = cHalted ∨ (s.core (v.toNat % 256)).st = cOff →
    Completes (.dbgCanHalt init v) s (fun t => t = s.raise blkDbg 3)) ∧
  (∀ (s : State) (init : Fin 512) (v : BitVec 32), init.val ≠ debugInit → Completes (.dbgCanHalt init v) s (fun t => t = s)) ∧
  (∀ (s : State) (init : Fin 512) (v : BitVec 32), init.val = debugInit → (s.core (v.toNat % 256)).st = cHalted →
    Completes (.dbgCanResume init v) s (fun t => (t.core (v.toNat % 256)).st = cAsking ∧ (t.core (v.toNat % 256)).shadow = false ∧
    (t.core (v.toNat % 256)).bank0 = {} ∧ (t.core (v.toNat % 256)).bank1 = {} ∧ (t.core (v.toNat % 256)).i = (s.core (v.toNat % 256)).i ∧
    (∀ k, k ≠ v.toNat % 256 → t.core k = s.core k) ∧ t.regs = s.regs ∧ t.mem = s.mem)) ∧
  (∀ (s : State) (init : Fin 512) (v : BitVec 32), init.val ≠ debugInit ∨ (s.core (v.toNat % 256)).st ≠ cHalted →
    Completes (.dbgCanResume init v) s (fun t => t = s)) ∧
  (∀ (s : State) (init : Fin 512) (v : BitVec 32), init.val = debugInit → v.getLsbD 8 = true → s.pac.snapReq = none →
    Completes (.dbgPacSnap init v) s (fun t => t.pac = { s.pac with snapReq := some (v.toNat % 8) } ∧ t.fld Reg.DBG_PAC_SNAP 2 0 = v.toNat % 8 ∧
    t.flag Reg.DBG_PAC_SNAP 8 = true ∧ SameRegs s t (· = Reg.DBG_PAC_SNAP) ∧ SameMem s t)) ∧
  (∀ (s : State) (init : Fin 512) (v : BitVec 32), init.val ≠ debugInit → Completes (.dbgPacSnap init v) s (fun t => t = s)) ∧
  (∀ (s : State) (l : Nat), s.pac.snapReq = some l → Completes (.pacSnapshot) s (fun t =>
    t.pac.snap = (listOps s l).zipIdx.map (fun e => (e.2, listEntry e.1)) ∧ t.pac.snapReq = none ∧ t.pac.ops = s.pac.ops ∧
    t.flag Reg.DBG_PAC_SNAP 8 = false ∧ t.flag Reg.DBG_PAC_SNAP 16 = true ∧ t.regN Reg.DBG_PAC_SNAP_PT = s.pt ∧ Raised t blkDbg 4 ∧ SameMem s t)) ∧
  (∀ (s : State), s.pac.snapReq = none → Completes (.pacSnapshot) s (fun t => t = s))
end

