-- ==== Sys2Proof/Laws/Exec.lean ====
section
/-! SUPPORT. The meaning each command has, as an equation, so that no proof unfolds the table of arms. -/

namespace Sys2Proof.Machine

@[simp] theorem exec_registerWrite (init : Fin 512) (addr : BitVec 48) (data : List Byte) (s : State) : exec (.registerWrite init addr data) s = execRegisterWrite init addr data s := rfl
@[simp] theorem exec_wideRegisterWord0Read (init : Fin 512) (addr : BitVec 48) (s : State) : exec (.wideRegisterWord0Read init addr) s = execWideRegisterWord0Read init addr s := rfl
@[simp] theorem exec_wideRegisterHighWrite (init : Fin 512) (addr : BitVec 48) (value : BitVec 32) (s : State) : exec (.wideRegisterHighWrite init addr value) s = execWideRegisterHighWrite init addr value s := rfl
@[simp] theorem exec_evtStatusClear (init : Fin 512) (block : Fin 15) (value same : BitVec 32) (s : State) : exec (.evtStatusClear init block value same) s = execEvtStatusClear init block value same s := rfl
@[simp] theorem exec_evtCountClr (init : Fin 512) (block : Fin 15) (value same : BitVec 32) (s : State) : exec (.evtCountClr init block value same) s = execEvtCountClr init block value same s := rfl
@[simp] theorem exec_porRelease (mode : BitVec 3) (pull : Bool) (rails : Bool) (s : State) : exec (.porRelease mode pull rails) s = execPorRelease mode pull rails s := rfl
@[simp] theorem exec_railMonitorRelease (s : State) : exec (.railMonitorRelease) s = execRailMonitorRelease s := rfl
@[simp] theorem exec_rcoStable (s : State) : exec (.rcoStable) s = execRcoStable s := rfl
@[simp] theorem exec_timingPllLock (hzA hzB : Option (BitVec 32)) (cyc : Fin 32768) (s : State) : exec (.timingPllLock hzA hzB cyc) s = execTimingPllLock hzA hzB cyc s := rfl
@[simp] theorem exec_bootComplete (s : State) : exec (.bootComplete) s = execBootComplete s := rfl
@[simp] theorem exec_srstN (s : State) : exec (.srstN) s = execSrstN s := rfl
@[simp] theorem exec_mainPowerLoss (s : State) : exec (.mainPowerLoss) s = execMainPowerLoss s := rfl
@[simp] theorem exec_mainPowerReturn (s : State) : exec (.mainPowerReturn) s = execMainPowerReturn s := rfl
@[simp] theorem exec_pdSwitchDone (d : Fin 35) (s : State) : exec (.pdSwitchDone d) s = execPdSwitchDone d s := rfl
@[simp] theorem exec_oscLost (b : Bool) (s : State) : exec (.oscLost b) s = execOscLost b s := rfl
@[simp] theorem exec_bothOscLost (s : State) : exec (.bothOscLost) s = execBothOscLost s := rfl
@[simp] theorem exec_oscGoodAgain (a b : Bool) (s : State) : exec (.oscGoodAgain a b) s = execOscGoodAgain a b s := rfl
@[simp] theorem exec_oscRevert (s : State) : exec (.oscRevert) s = execOscRevert s := rfl
@[simp] theorem exec_gnssPpsEdge (r : Fin 2) (rising : Bool) (ofs : BitVec 18) (s : State) : exec (.gnssPpsEdge r rising ofs) s = execGnssPpsEdge r rising ofs s := rfl
@[simp] theorem exec_gnssPulseMissing (r : Fin 2) (s : State) : exec (.gnssPulseMissing r) s = execGnssPulseMissing r s := rfl
@[simp] theorem exec_todMessage (m : TodMsg) (s : State) : exec (.todMessage m) s = execTodMessage m s := rfl
@[simp] theorem exec_tlPtpMeas (value : BitVec 32) (s : State) : exec (.tlPtpMeas value) s = execTlPtpMeas value s := rfl
@[simp] theorem exec_tlPtpSHi (value : BitVec 32) (s : State) : exec (.tlPtpSHi value) s = execTlPtpSHi value s := rfl
@[simp] theorem exec_ptpTimeout (s : State) : exec (.ptpTimeout) s = execPtpTimeout s := rfl
@[simp] theorem exec_synceLoss (s : State) : exec (.synceLoss) s = execSynceLoss s := rfl
@[simp] theorem exec_autoStep (s : State) : exec (.autoStep) s = execAutoStep s := rfl
@[simp] theorem exec_holdoverRequalify (s : State) : exec (.holdoverRequalify) s = execHoldoverRequalify s := rfl
@[simp] theorem exec_capture (s : State) : exec (.capture) s = execCapture s := rfl
@[simp] theorem exec_forceStep (s : State) : exec (.forceStep) s = execForceStep s := rfl
@[simp] theorem exec_forceAcquire (s : State) : exec (.forceAcquire) s = execForceAcquire s := rfl
@[simp] theorem exec_requalify (s : State) : exec (.requalify) s = execRequalify s := rfl
@[simp] theorem exec_stepApply (s : State) : exec (.stepApply) s = execStepApply s := rfl
@[simp] theorem exec_toEdgeTWrite (n : Fin 8) (value : BitVec 32) (s : State) : exec (.toEdgeTWrite n value) s = execToEdgeTWrite n value s := rfl
@[simp] theorem exec_toCtlWrite (n : Fin 8) (value : BitVec 32) (s : State) : exec (.toCtlWrite n value) s = execToCtlWrite n value s := rfl
@[simp] theorem exec_toEntryHead (n : Fin 872) (s : State) : exec (.toEntryHead n) s = execToEntryHead n s := rfl
@[simp] theorem exec_toEdgeApply (n : Fin 872) (s : State) : exec (.toEdgeApply n) s = execToEdgeApply n s := rfl
@[simp] theorem exec_toPeriodicEdge (n : Fin 8) (s : State) : exec (.toPeriodicEdge n) s = execToPeriodicEdge n s := rfl
@[simp] theorem exec_ppsOutEdge (s : State) : exec (.ppsOutEdge) s = execPpsOutEdge s := rfl
@[simp] theorem exec_tlioEntryPush (cell : Fin 864) (sec : BitVec 32) (tc : BitVec 31) (level : Bool) (s : State) : exec (.tlioEntryPush cell sec tc level) s = execTlioEntryPush cell sec tc level s := rfl
@[simp] theorem exec_tlioTsPop (cell : Fin 864) (s : State) : exec (.tlioTsPop cell) s = execTlioTsPop cell s := rfl
@[simp] theorem exec_tsiEdgeCapture (n : Fin 874) (rising : Bool) (ofs : BitVec 18) (s : State) : exec (.tsiEdgeCapture n rising ofs) s = execTsiEdgeCapture n rising ofs s := rfl
@[simp] theorem exec_tsiHiRead (n : Fin 10) (init : Fin 512) (s : State) : exec (.tsiHiRead n init) s = execTsiHiRead n init s := rfl
@[simp] theorem exec_fsynArm (n : Fin 24) (value : BitVec 32) (s : State) : exec (.fsynArm n value) s = execFsynArm n value s := rfl
@[simp] theorem exec_fsynStart (n : Fin 24) (s : State) : exec (.fsynStart n) s = execFsynStart n s := rfl
@[simp] theorem exec_hoLearnSecond (s : State) : exec (.hoLearnSecond) s = execHoLearnSecond s := rfl
@[simp] theorem exec_hoRefit (s : State) : exec (.hoRefit) s = execHoRefit s := rfl
@[simp] theorem exec_hoSnapshot (s : State) : exec (.hoSnapshot) s = execHoSnapshot s := rfl
@[simp] theorem exec_snap (s : State) : exec (.snap) s = execSnap s := rfl
@[simp] theorem exec_forget (s : State) : exec (.forget) s = execForget s := rfl
@[simp] theorem exec_tsensRead (reading : Option (BitVec 16)) (s : State) : exec (.tsensRead reading) s = execTsensRead reading s := rfl
@[simp] theorem exec_hoSteerSecond (apart worse : Bool) (s : State) : exec (.hoSteerSecond apart worse) s = execHoSteerSecond apart worse s := rfl
@[simp] theorem exec_holdoverExpiry (s : State) : exec (.holdoverExpiry) s = execHoldoverExpiry s := rfl
@[simp] theorem exec_calSecond (s : State) : exec (.calSecond) s = execCalSecond s := rfl
@[simp] theorem exec_calAutoTrim (trim : BitVec 16) (s : State) : exec (.calAutoTrim trim) s = execCalAutoTrim trim s := rfl
@[simp] theorem exec_vbatBrownout (s : State) : exec (.vbatBrownout) s = execVbatBrownout s := rfl
@[simp] theorem exec_xtStop (s : State) : exec (.xtStop) s = execXtStop s := rfl
@[simp] theorem exec_vbatCheck (low : Bool) (s : State) : exec (.vbatCheck low) s = execVbatCheck low s := rfl
@[simp] theorem exec_calSet (value : BitVec 32) (s : State) : exec (.calSet value) s = execCalSet value s := rfl
@[simp] theorem exec_calSRead (init : Fin 512) (s : State) : exec (.calSRead init) s = execCalSRead init s := rfl
@[simp] theorem exec_calLeapAdd (value : BitVec 32) (s : State) : exec (.calLeapAdd value) s = execCalLeapAdd value s := rfl
@[simp] theorem exec_leapApply (slot : Fin 16) (s : State) : exec (.leapApply slot) s = execLeapApply slot s := rfl
@[simp] theorem exec_lppCtlLWrite (value : BitVec 16) (s : State) : exec (.lppCtlLWrite value) s = execLppCtlLWrite value s := rfl
@[simp] theorem exec_lppCtlHWrite (value : BitVec 16) (s : State) : exec (.lppCtlHWrite value) s = execLppCtlHWrite value s := rfl
@[simp] theorem exec_lppKeepWrite (value : BitVec 16) (s : State) : exec (.lppKeepWrite value) s = execLppKeepWrite value s := rfl
@[simp] theorem exec_lppCommitApply (s : State) : exec (.lppCommitApply) s = execLppCommitApply s := rfl
@[simp] theorem exec_lppStart (s : State) : exec (.lppStart) s = execLppStart s := rfl
@[simp] theorem exec_lppPpsPulse (active : Bool) (s : State) : exec (.lppPpsPulse active) s = execLppPpsPulse active s := rfl
@[simp] theorem exec_lppFrameStrobe (active : Bool) (s : State) : exec (.lppFrameStrobe active) s = execLppFrameStrobe active s := rfl
@[simp] theorem exec_lppHoldoverStop (s : State) : exec (.lppHoldoverStop) s = execLppHoldoverStop s := rfl
@[simp] theorem exec_pacAdmit (bell : Fin 16) (value : BitVec 32) (s : State) : exec (.pacAdmit bell value) s = execPacAdmit bell value s := rfl
@[simp] theorem exec_admissionDequeue (s : State) : exec (.admissionDequeue) s = execAdmissionDequeue s := rfl
@[simp] theorem exec_admissionDecide (rdStatus : Fin 8) (wrStatus : Fin 8) (s : State) : exec (.admissionDecide rdStatus wrStatus) s = execAdmissionDecide rdStatus wrStatus s := rfl
@[simp] theorem exec_opStart (s : State) : exec (.opStart) s = execOpStart s := rfl
@[simp] theorem exec_opReady (slot : Fin 1048576) (s : State) : exec (.opReady slot) s = execOpReady slot s := rfl
@[simp] theorem exec_canterGrant (core : Fin 256) (s : State) : exec (.canterGrant core) s = execCanterGrant core s := rfl
@[simp] theorem exec_preempt (slot : Fin 1048576) (s : State) : exec (.preempt slot) s = execPreempt slot s := rfl
@[simp] theorem exec_hpGrant (port : Fin 512) (s : State) : exec (.hpGrant port) s = execHpGrant port s := rfl
@[simp] theorem exec_hpDone (port : Fin 512) (tag : Fin 4) (status : BitVec 8) (s : State) : exec (.hpDone port tag status) s = execHpDone port tag status s := rfl
@[simp] theorem exec_dmaComplete (chan : Fin 32) (noc : Fin 8) (s : State) : exec (.dmaComplete chan noc) s = execDmaComplete chan noc s := rfl
@[simp] theorem exec_stagerFetchDone (noc : Fin 8) (s : State) : exec (.stagerFetchDone noc) s = execStagerFetchDone noc s := rfl
@[simp] theorem exec_opReport (slot : Fin 1048576) (status : BitVec 8) (s : State) : exec (.opReport slot status) s = execOpReport slot status s := rfl
@[simp] theorem exec_alarmWindowEnd (slot : Fin 1048576) (s : State) : exec (.alarmWindowEnd slot) s = execAlarmWindowEnd slot s := rfl
@[simp] theorem exec_opDeadline (slot : Fin 1048576) (s : State) : exec (.opDeadline slot) s = execOpDeadline slot s := rfl
@[simp] theorem exec_opRelease (slot : Fin 1048576) (s : State) : exec (.opRelease slot) s = execOpRelease slot s := rfl
@[simp] theorem exec_timedReleaseFetchDone (noc : Fin 8) (s : State) : exec (.timedReleaseFetchDone noc) s = execTimedReleaseFetchDone noc s := rfl
@[simp] theorem exec_pacGraphCfgWrite (graph : Fin 256) (value : BitVec 32) (s : State) : exec (.pacGraphCfgWrite graph value) s = execPacGraphCfgWrite graph value s := rfl
@[simp] theorem exec_pacFlowCfgWrite (flow : Fin 1024) (value : BitVec 32) (s : State) : exec (.pacFlowCfgWrite flow value) s = execPacFlowCfgWrite flow value s := rfl
@[simp] theorem exec_pacCtlWrite (value : BitVec 32) (s : State) : exec (.pacCtlWrite value) s = execPacCtlWrite value s := rfl
@[simp] theorem exec_rbAlarm (cls : Fin 4) (worker : Fin 512) (addr : BitVec 48) (alarm : Fin 16) (s : State) : exec (.rbAlarm cls worker addr alarm) s = execRbAlarm cls worker addr alarm s := rfl
@[simp] theorem exec_rbTokClr (value : BitVec 32) (s : State) : exec (.rbTokClr value) s = execRbTokClr value s := rfl
@[simp] theorem exec_rbTest (value : BitVec 32) (s : State) : exec (.rbTest value) s = execRbTest value s := rfl
@[simp] theorem exec_rbLossHiRead (init : Fin 512) (s : State) : exec (.rbLossHiRead init) s = execRbLossHiRead init s := rfl
@[simp] theorem exec_nop (core : Fin 256) (fresh : Bool) (s : State) : exec (.nop core fresh) s = execNop core fresh s := rfl
@[simp] theorem exec_cmac (core : Fin 256) (fresh : Bool) (k : Fin 4) (ra rb : Fin 32) (cj neg clr : Bool) (s : State) : exec (.cmac core fresh k ra rb cj neg clr) s = execCmac core fresh k ra rb cj neg clr s := rfl
@[simp] theorem exec_drmac (core : Fin 256) (fresh : Bool) (k : Fin 4) (ra rb md : Fin 32) (s : State) : exec (.drmac core fresh k ra rb md) s = execDrmac core fresh k ra rb md s := rfl
@[simp] theorem exec_pcmac (core : Fin 256) (fresh : Bool) (k : Fin 4) (ra rb md : Fin 32) (s : State) : exec (.pcmac core fresh k ra rb md) s = execPcmac core fresh k ra rb md s := rfl
@[simp] theorem exec_ext (core : Fin 256) (fresh : Bool) (k : Fin 4) (ra : Fin 32) (sh : Fin 64) (final sat clr : Bool) (s : State) : exec (.ext core fresh k ra sh final sat clr) s = execExt core fresh k ra sh final sat clr s := rfl
@[simp] theorem exec_ashr (core : Fin 256) (fresh : Bool) (k : Fin 4) (sh : Fin 64) (s : State) : exec (.ashr core fresh k sh) s = execAshr core fresh k sh s := rfl
@[simp] theorem exec_ald (core : Fin 256) (fresh : Bool) (k : Fin 4) (ra : Fin 32) (sh : Fin 32) (s : State) : exec (.ald core fresh k ra sh) s = execAld core fresh k ra sh s := rfl
@[simp] theorem exec_amov (core : Fin 256) (fresh : Bool) (k j : Fin 4) (s : State) : exec (.amov core fresh k j) s = execAmov core fresh k j s := rfl
@[simp] theorem exec_aadd (core : Fin 256) (fresh : Bool) (k j : Fin 4) (s : State) : exec (.aadd core fresh k j) s = execAadd core fresh k j s := rfl
@[simp] theorem exec_cadd (core : Fin 256) (fresh : Bool) (ra rb md : Fin 32) (s : State) : exec (.cadd core fresh ra rb md) s = execCadd core fresh ra rb md s := rfl
@[simp] theorem exec_csub (core : Fin 256) (fresh : Bool) (ra rb md : Fin 32) (s : State) : exec (.csub core fresh ra rb md) s = execCsub core fresh ra rb md s := rfl
@[simp] theorem exec_cadds (core : Fin 256) (fresh : Bool) (ra rb md : Fin 32) (s : State) : exec (.cadds core fresh ra rb md) s = execCadds core fresh ra rb md s := rfl
@[simp] theorem exec_csubs (core : Fin 256) (fresh : Bool) (ra rb md : Fin 32) (s : State) : exec (.csubs core fresh ra rb md) s = execCsubs core fresh ra rb md s := rfl
@[simp] theorem exec_conj (core : Fin 256) (fresh : Bool) (ra rb : Fin 32) (s : State) : exec (.conj core fresh ra rb) s = execConj core fresh ra rb s := rfl
@[simp] theorem exec_mov (core : Fin 256) (fresh : Bool) (ra rb : Fin 32) (s : State) : exec (.mov core fresh ra rb) s = execMov core fresh ra rb s := rfl
@[simp] theorem exec_ld (core : Fin 256) (fresh : Bool) (mem : Fin 3) (p : Fin 16) (d : Fin 32) (pm : Bool) (s : State) : exec (.ld core fresh mem p d pm) s = execLd core fresh mem p d pm s := rfl
@[simp] theorem exec_st (core : Fin 256) (fresh : Bool) (mem : Fin 2) (p : Fin 16) (d : Fin 32) (pm : Bool) (s : State) : exec (.st core fresh mem p d pm) s = execSt core fresh mem p d pm s := rfl
@[simp] theorem exec_rot (core : Fin 256) (fresh : Bool) (s : State) : exec (.rot core fresh) s = execRot core fresh s := rfl
@[simp] theorem exec_clra (core : Fin 256) (fresh : Bool) (mask : Fin 16) (s : State) : exec (.clra core fresh mask) s = execClra core fresh mask s := rfl
@[simp] theorem exec_ask (core : Fin 256) (fresh : Bool) (status : BitVec 8) (s : State) : exec (.ask core fresh status) s = execAsk core fresh status s := rfl
@[simp] theorem exec_wait (core : Fin 256) (fresh : Bool) (mask : Fin 16) (s : State) : exec (.wait core fresh mask) s = execWait core fresh mask s := rfl
@[simp] theorem exec_loop (core : Fin 256) (fresh : Bool) (lc rot : Bool) (body : BitVec 12) (count : BitVec 16) (s : State) : exec (.loop core fresh lc rot body count) s = execLoop core fresh lc rot body count s := rfl
@[simp] theorem exec_loopr (core : Fin 256) (fresh : Bool) (lc rot : Bool) (body : BitVec 12) (d : Fin 32) (s : State) : exec (.loopr core fresh lc rot body d) s = execLoopr core fresh lc rot body d s := rfl
@[simp] theorem exec_br (core : Fin 256) (fresh : Bool) (cond : Fin 8) (d : Fin 32) (target : BitVec 12) (s : State) : exec (.br core fresh cond d target) s = execBr core fresh cond d target s := rfl
@[simp] theorem exec_movil (core : Fin 256) (fresh : Bool) (d : Fin 32) (imm : BitVec 16) (s : State) : exec (.movil core fresh d imm) s = execMovil core fresh d imm s := rfl
@[simp] theorem exec_movih (core : Fin 256) (fresh : Bool) (d : Fin 32) (imm : BitVec 16) (s : State) : exec (.movih core fresh d imm) s = execMovih core fresh d imm s := rfl
@[simp] theorem exec_addp (core : Fin 256) (fresh : Bool) (n m : Fin 16) (imm : BitVec 24) (s : State) : exec (.addp core fresh n m imm) s = execAddp core fresh n m imm s := rfl
@[simp] theorem exec_addpd (core : Fin 256) (fresh : Bool) (n m : Fin 16) (d : Fin 32) (s : State) : exec (.addpd core fresh n m d) s = execAddpd core fresh n m d s := rfl
@[simp] theorem exec_movpd (core : Fin 256) (fresh : Bool) (n : Fin 16) (da db : Fin 32) (s : State) : exec (.movpd core fresh n da db) s = execMovpd core fresh n da db s := rfl
@[simp] theorem exec_setm (core : Fin 256) (fresh : Bool) (n : Fin 16) (size : BitVec 4) (step : BitVec 16) (s : State) : exec (.setm core fresh n size step) s = execSetm core fresh n size step s := rfl
@[simp] theorem exec_setrm (core : Fin 256) (fresh : Bool) (rm : Fin 4) (s : State) : exec (.setrm core fresh rm) s = execSetrm core fresh rm s := rfl
@[simp] theorem exec_get (core : Fin 256) (fresh : Bool) (ch : Fin 4) (ps pl : Fin 16) (mem : Fin 4) (len : BitVec 16) (s : State) : exec (.get core fresh ch ps pl mem len) s = execGet core fresh ch ps pl mem len s := rfl
@[simp] theorem exec_put (core : Fin 256) (fresh : Bool) (ch : Fin 4) (pd pl : Fin 16) (mem : Fin 4) (len : BitVec 16) (s : State) : exec (.put core fresh ch pd pl mem len) s = execPut core fresh ch pd pl mem len s := rfl
@[simp] theorem exec_idle (core : Fin 256) (fresh : Bool) (n : BitVec 8) (s : State) : exec (.idle core fresh n) s = execIdle core fresh n s := rfl
@[simp] theorem exec_getComplete (core : Fin 256) (ch : Fin 4) (noc : Fin 8) (s : State) : exec (.getComplete core ch noc) s = execGetComplete core ch noc s := rfl
@[simp] theorem exec_putComplete (core : Fin 256) (ch : Fin 4) (noc : Fin 8) (s : State) : exec (.putComplete core ch noc) s = execPutComplete core ch noc s := rfl
@[simp] theorem exec_grantLoad (core : Fin 256) (s : State) : exec (.grantLoad core) s = execGrantLoad core s := rfl
@[simp] theorem exec_preemptSwitch (core : Fin 256) (s : State) : exec (.preemptSwitch core) s = execPreemptSwitch core s := rfl
@[simp] theorem exec_abandon (core : Fin 256) (s : State) : exec (.abandon core) s = execAbandon core s := rfl
@[simp] theorem exec_caImemWrite (team : Fin 4) (word : Fin 8192) (value : BitVec 32) (s : State) : exec (.caImemWrite team word value) s = execCaImemWrite team word value s := rfl
@[simp] theorem exec_saveDone (s : State) : exec (.saveDone) s = execSaveDone s := rfl
@[simp] theorem exec_restoreDone (s : State) : exec (.restoreDone) s = execRestoreDone s := rfl
@[simp] theorem exec_contentionSample (line : Fin 294912) (s : State) : exec (.contentionSample line) s = execContentionSample line s := rfl
@[simp] theorem exec_bmFlipArm (value : BitVec 32) (s : State) : exec (.bmFlipArm value) s = execBmFlipArm value s := rfl
@[simp] theorem exec_dpReq (init : Fin 512) (wr : Bool) (index : BitVec 16) (sub : BitVec 8) (word : Fin 16) (data : BitVec 32) (s : State) : exec (.dpReq init wr index sub word data) s = execDpReq init wr index sub word data s := rfl
@[simp] theorem exec_dpAck (p : Fin 144) (data : BitVec 32) (code : BitVec 16) (s : State) : exec (.dpAck p data code) s = execDpAck p data code s := rfl
@[simp] theorem exec_dpTimeout (p : Fin 144) (s : State) : exec (.dpTimeout p) s = execDpTimeout p s := rfl
@[simp] theorem exec_gckCfgWrite (k : Fin 48) (value : BitVec 32) (s : State) : exec (.gckCfgWrite k value) s = execGckCfgWrite k value s := rfl
@[simp] theorem exec_gckStart (k : Fin 48) (s : State) : exec (.gckStart k) s = execGckStart k s := rfl
@[simp] theorem exec_loadFull (value : BitVec 32) (s : State) : exec (.loadFull value) s = execLoadFull value s := rfl
@[simp] theorem exec_loadPartial (value : BitVec 32) (s : State) : exec (.loadPartial value) s = execLoadPartial value s := rfl
@[simp] theorem exec_abort (value : BitVec 32) (s : State) : exec (.abort value) s = execAbort value s := rfl
@[simp] theorem exec_empty (value : BitVec 32) (s : State) : exec (.empty value) s = execEmpty value s := rfl
@[simp] theorem exec_pass1Done (host : Option (List Byte)) (s : State) : exec (.pass1Done host) s = execPass1Done host s := rfl
@[simp] theorem exec_loadTimeout (s : State) : exec (.loadTimeout) s = execLoadTimeout s := rfl
@[simp] theorem exec_prIsolate (s : State) : exec (.prIsolate) s = execPrIsolate s := rfl
@[simp] theorem exec_pass2Chunk (host : Option (List Byte)) (s : State) : exec (.pass2Chunk host) s = execPass2Chunk host s := rfl
@[simp] theorem exec_altUsed (s : State) : exec (.altUsed) s = execAltUsed s := rfl
@[simp] theorem exec_startupClocks (s : State) : exec (.startupClocks) s = execStartupClocks s := rfl
@[simp] theorem exec_driverRelease (s : State) : exec (.driverRelease) s = execDriverRelease s := rfl
@[simp] theorem exec_gsrRelease (s : State) : exec (.gsrRelease) s = execGsrRelease s := rfl
@[simp] theorem exec_loadDone (s : State) : exec (.loadDone) s = execLoadDone s := rfl
@[simp] theorem exec_frameSlot (engine : Fin 2) (prio : Bool) (s : State) : exec (.frameSlot engine prio) s = execFrameSlot engine prio s := rfl
@[simp] theorem exec_priorityPassStart (engine : Fin 2) (s : State) : exec (.priorityPassStart engine) s = execPriorityPassStart engine s := rfl
@[simp] theorem exec_repairWrite (engine : Fin 2) (s : State) : exec (.repairWrite engine) s = execRepairWrite engine s := rfl
@[simp] theorem exec_repairVerify (engine : Fin 2) (s : State) : exec (.repairVerify engine) s = execRepairVerify engine s := rfl
@[simp] theorem exec_refetchChunk (engine : Fin 2) (host : Option (List Byte)) (s : State) : exec (.refetchChunk engine host) s = execRefetchChunk engine host s := rfl
@[simp] theorem exec_farrierRateUpdate (s : State) : exec (.farrierRateUpdate) s = execFarrierRateUpdate s := rfl
@[simp] theorem exec_farPrioCommit (value : BitVec 32) (s : State) : exec (.farPrioCommit value) s = execFarPrioCommit value s := rfl
@[simp] theorem exec_peerStallCheck (engine : Fin 2) (s : State) : exec (.peerStallCheck engine) s = execPeerStallCheck engine s := rfl
@[simp] theorem exec_restorePeer (value : BitVec 32) (s : State) : exec (.restorePeer value) s = execRestorePeer value s := rfl
@[simp] theorem exec_farLogRead (init : Fin 512) (s : State) : exec (.farLogRead init) s = execFarLogRead init s := rfl
@[simp] theorem exec_farInject (value : BitVec 32) (s : State) : exec (.farInject value) s = execFarInject value s := rfl
@[simp] theorem exec_nocInject (init : Fin 512) (op : Fin 4) (addr : BitVec 48) (len : Fin 256) (tag : BitVec 8) (data : List Byte) (s : State) : exec (.nocInject init op addr len tag data) s = execNocInject init op addr len tag data s := rfl
@[simp] theorem exec_curbRefill (s : State) : exec (.curbRefill) s = execCurbRefill s := rfl
@[simp] theorem exec_linkResend (router : Fin 168) (dir : Fin 4) (good : Bool) (s : State) : exec (.linkResend router dir good) s = execLinkResend router dir good s := rfl
@[simp] theorem exec_nocRead (init : Fin 512) (tag : BitVec 9) (bad : Bool) (soft : Fin 3) (host : Option (List Byte)) (s : State) : exec (.nocRead init tag bad soft host) s = execNocRead init tag bad soft host s := rfl
@[simp] theorem exec_nocWrite (init : Fin 512) (tag : BitVec 9) (bad : Bool) (s : State) : exec (.nocWrite init tag bad) s = execNocWrite init tag bad s := rfl
@[simp] theorem exec_nocAdd (init : Fin 512) (tag : BitVec 9) (bad : Bool) (s : State) : exec (.nocAdd init tag bad) s = execNocAdd init tag bad s := rfl
@[simp] theorem exec_nocSwap (init : Fin 512) (tag : BitVec 9) (bad : Bool) (s : State) : exec (.nocSwap init tag bad) s = execNocSwap init tag bad s := rfl
@[simp] theorem exec_nocResponse (init : Fin 512) (tag : BitVec 8) (bad : Bool) (s : State) : exec (.nocResponse init tag bad) s = execNocResponse init tag bad s := rfl
@[simp] theorem exec_spBankCfgWrite (b : Fin 64) (value : BitVec 32) (s : State) : exec (.spBankCfgWrite b value) s = execSpBankCfgWrite b value s := rfl
@[simp] theorem exec_spStateDone (b : Fin 64) (s : State) : exec (.spStateDone b) s = execSpStateDone b s := rfl
@[simp] theorem exec_spFlipArm (value : BitVec 32) (s : State) : exec (.spFlipArm value) s = execSpFlipArm value s := rfl
@[simp] theorem exec_nocMonClr (value : BitVec 32) (s : State) : exec (.nocMonClr value) s = execNocMonClr value s := rfl
@[simp] theorem exec_frpRequest (p : Fin 144) (kind : Fin 4) (tag : Fin 16) (addr : BitVec 48) (len : Fin 256) (cls : Fin 4) (kix : Fin 64) (await : Bool) (data : List Byte) (s : State) : exec (.frpRequest p kind tag addr len cls kix await data) s = execFrpRequest p kind tag addr len cls kix await data s := rfl
@[simp] theorem exec_frpTargetResponse (p : Fin 144) (tag : BitVec 8) (status : Fin 8) (data : List Byte) (s : State) : exec (.frpTargetResponse p tag status data) s = execFrpTargetResponse p tag status data s := rfl
@[simp] theorem exec_tgtTimeout (p : Fin 144) (tag : Fin 4) (s : State) : exec (.tgtTimeout p tag) s = execTgtTimeout p tag s := rfl
@[simp] theorem exec_mergeFlush (h : Fin 4) (s : State) : exec (.mergeFlush h) s = execMergeFlush h s := rfl
@[simp] theorem exec_refreshDue (h : Fin 4) (rank : Fin 2) (busy : Bool) (s : State) : exec (.refreshDue h rank busy) s = execRefreshDue h rank busy s := rfl
@[simp] theorem exec_init (h : Fin 4) (s : State) : exec (.init h) s = execInit h s := rfl
@[simp] theorem exec_initDone (h : Fin 4) (ok : Bool) (s : State) : exec (.initDone h ok) s = execInitDone h ok s := rfl
@[simp] theorem exec_retrainDue (h : Fin 4) (s : State) : exec (.retrainDue h) s = execRetrainDue h s := rfl
@[simp] theorem exec_trainingSlot (h : Fin 4) (s : State) : exec (.trainingSlot h) s = execTrainingSlot h s := rfl
@[simp] theorem exec_trainForced (h : Fin 4) (s : State) : exec (.trainForced h) s = execTrainForced h s := rfl
@[simp] theorem exec_patrolRead (h : Fin 4) (s : State) : exec (.patrolRead h) s = execPatrolRead h s := rfl
@[simp] theorem exec_retirePage (h : Fin 4) (s : State) : exec (.retirePage h) s = execRetirePage h s := rfl
@[simp] theorem exec_retirePageDone (h : Fin 4) (s : State) : exec (.retirePageDone h) s = execRetirePageDone h s := rfl
@[simp] theorem exec_retireBank (h : Fin 4) (s : State) : exec (.retireBank h) s = execRetireBank h s := rfl
@[simp] theorem exec_retireDone (h : Fin 4) (s : State) : exec (.retireDone h) s = execRetireDone h s := rfl
@[simp] theorem exec_memFlipArm (h : Fin 4) (value : BitVec 32) (s : State) : exec (.memFlipArm h value) s = execMemFlipArm h value s := rfl
@[simp] theorem exec_memLogRead (h : Fin 4) (init : Fin 512) (s : State) : exec (.memLogRead h init) s = execMemLogRead h init s := rfl
@[simp] theorem exec_cxlDecCommit (d : Fin 4) (value : BitVec 32) (s : State) : exec (.cxlDecCommit d value) s = execCxlDecCommit d value s := rfl
@[simp] theorem exec_cxlResponse (init : Fin 512) (tag : BitVec 8) (poison : Bool) (s : State) : exec (.cxlResponse init tag poison) s = execCxlResponse init tag poison s := rfl
@[simp] theorem exec_cxlTimeout (init : Fin 512) (tag : BitVec 8) (s : State) : exec (.cxlTimeout init tag) s = execCxlTimeout init tag s := rfl
@[simp] theorem exec_cxlLinkChg (port : Fin 2) (up : Bool) (width : Fin 8) (gen : Fin 8) (s : State) : exec (.cxlLinkChg port up width gen) s = execCxlLinkChg port up width gen s := rfl
@[simp] theorem exec_cxlEcamAccess (init : Fin 512) (wr : Bool) (ofs : Fin 1048576) (value : BitVec 32) (got : Option (BitVec 32)) (s : State) : exec (.cxlEcamAccess init wr ofs value got) s = execCxlEcamAccess init wr ofs value got s := rfl
@[simp] theorem exec_pcieInbound (bar : Fin 3) (wr : Bool) (ofs : BitVec 26) (len : Fin 256) (tag : BitVec 8) (data : List Byte) (s : State) : exec (.pcieInbound bar wr ofs len tag data) s = execPcieInbound bar wr ofs len tag data s := rfl
@[simp] theorem exec_pcieLinkChg (up : Bool) (width : Fin 32) (gen : Fin 8) (s : State) : exec (.pcieLinkChg up width gen) s = execPcieLinkChg up width gen s := rfl
@[simp] theorem exec_impTileRead (tile : BitVec 39) (s : State) : exec (.impTileRead tile) s = execImpTileRead tile s := rfl
@[simp] theorem exec_impNodeVerify (rng : Fin 16) (level : Fin 12) (idx : BitVec 32) (s : State) : exec (.impNodeVerify rng level idx) s = execImpNodeVerify rng level idx s := rfl
@[simp] theorem exec_impTagCheck (tile : BitVec 39) (s : State) : exec (.impTagCheck tile) s = execImpTagCheck tile s := rfl
@[simp] theorem exec_impCheckTimeout (tile : BitVec 39) (s : State) : exec (.impCheckTimeout tile) s = execImpCheckTimeout tile s := rfl
@[simp] theorem exec_impTileWrite (init : Fin 512) (tag : BitVec 8) (s : State) : exec (.impTileWrite init tag) s = execImpTileWrite init tag s := rfl
@[simp] theorem exec_impTileWriteback (tile : BitVec 39) (s : State) : exec (.impTileWriteback tile) s = execImpTileWriteback tile s := rfl
@[simp] theorem exec_impRangeCommit (n : Fin 16) (value : BitVec 32) (s : State) : exec (.impRangeCommit n value) s = execImpRangeCommit n value s := rfl
@[simp] theorem exec_impRangeDecommit (n : Fin 16) (value : BitVec 32) (s : State) : exec (.impRangeDecommit n value) s = execImpRangeDecommit n value s := rfl
@[simp] theorem exec_impReseed (value : BitVec 32) (s : State) : exec (.impReseed value) s = execImpReseed value s := rfl
@[simp] theorem exec_rollStart (value : BitVec 32) (s : State) : exec (.rollStart value) s = execRollStart value s := rfl
@[simp] theorem exec_rollPause (s : State) : exec (.rollPause) s = execRollPause s := rfl
@[simp] theorem exec_rollResume (s : State) : exec (.rollResume) s = execRollResume s := rfl
@[simp] theorem exec_rollClaim (s : State) : exec (.rollClaim) s = execRollClaim s := rfl
@[simp] theorem exec_rollTileDone (s : State) : exec (.rollTileDone) s = execRollTileDone s := rfl
@[simp] theorem exec_rollRetry (s : State) : exec (.rollRetry) s = execRollRetry s := rfl
@[simp] theorem exec_impTagFlipArm (value : BitVec 32) (s : State) : exec (.impTagFlipArm value) s = execImpTagFlipArm value s := rfl
@[simp] theorem exec_impLogRead (init : Fin 512) (s : State) : exec (.impLogRead init) s = execImpLogRead init s := rfl
@[simp] theorem exec_laneSignalDetect (lane : Fin 128) (s : State) : exec (.laneSignalDetect lane) s = execLaneSignalDetect lane s := rfl
@[simp] theorem exec_laneLos (lane : Fin 128) (s : State) : exec (.laneLos lane) s = execLaneLos lane s := rfl
@[simp] theorem exec_eqAdaptStep (lane : Fin 128) (s : State) : exec (.eqAdaptStep lane) s = execEqAdaptStep lane s := rfl
@[simp] theorem exec_ethEnable (m : Fin 8) (value : BitVec 32) (s : State) : exec (.ethEnable m value) s = execEthEnable m value s := rfl
@[simp] theorem exec_ethTxStart (m : Fin 8) (noc : Fin 8) (s : State) : exec (.ethTxStart m noc) s = execEthTxStart m noc s := rfl
@[simp] theorem exec_ethTxFrameDone (m : Fin 8) (noc : Fin 8) (ofs : BitVec 18) (s : State) : exec (.ethTxFrameDone m noc ofs) s = execEthTxFrameDone m noc ofs s := rfl
@[simp] theorem exec_ethTxpPush (m : Fin 8) (value : BitVec 32) (s : State) : exec (.ethTxpPush m value) s = execEthTxpPush m value s := rfl
@[simp] theorem exec_ethRxFrame (m : Fin 8) (frame : List Byte) (fcs : Bool) (corr : BitVec 16) (unc : BitVec 16) (ofs : BitVec 18) (s : State) : exec (.ethRxFrame m frame fcs corr unc ofs) s = execEthRxFrame m frame fcs corr unc ofs s := rfl
@[simp] theorem exec_linkChg (m : Fin 8) (up : Bool) (s : State) : exec (.linkChg m up) s = execLinkChg m up s := rfl
@[simp] theorem exec_ethTxtsRead (m : Fin 8) (init : Fin 512) (s : State) : exec (.ethTxtsRead m init) s = execEthTxtsRead m init s := rfl
@[simp] theorem exec_mgtRxFrame (frame : List Byte) (fcs : Bool) (s : State) : exec (.mgtRxFrame frame fcs) s = execMgtRxFrame frame fcs s := rfl
@[simp] theorem exec_mgtTxProdWrite (value : BitVec 32) (s : State) : exec (.mgtTxProdWrite value) s = execMgtTxProdWrite value s := rfl
@[simp] theorem exec_mgtTxFrame (s : State) : exec (.mgtTxFrame) s = execMgtTxFrame s := rfl
@[simp] theorem exec_mgtLinkChg (up : Bool) (speed : Fin 4) (an : Bool) (fault : Bool) (s : State) : exec (.mgtLinkChg up speed an fault) s = execMgtLinkChg up speed an fault s := rfl
@[simp] theorem exec_jsysrefEdge (falling : Bool) (ofs : BitVec 18) (s : State) : exec (.jsysrefEdge falling ofs) s = execJsysrefEdge falling ofs s := rfl
@[simp] theorem exec_adopt (value : BitVec 32) (s : State) : exec (.adopt value) s = execAdopt value s := rfl
@[simp] theorem exec_jesdBufferStart (q : Fin 16) (s : State) : exec (.jesdBufferStart q) s = execJesdBufferStart q s := rfl
@[simp] theorem exec_jesdFetchDone (q : Fin 16) (noc : Fin 8) (s : State) : exec (.jesdFetchDone q noc) s = execJesdFetchDone q noc s := rfl
@[simp] theorem exec_jesdRxEmb (q : Fin 16) (data : List Byte) (crc : Bool) (jump : Bool) (s : State) : exec (.jesdRxEmb q data crc jump) s = execJesdRxEmb q data crc jump s := rfl
@[simp] theorem exec_jlLinkDown (q : Fin 16) (s : State) : exec (.jlLinkDown q) s = execJlLinkDown q s := rfl
@[simp] theorem exec_tetherFrameTx (s : State) : exec (.tetherFrameTx) s = execTetherFrameTx s := rfl
@[simp] theorem exec_tetherFrameRx (lane : Fin 4) (phase : Fin 32) (frame : BitVec 1024) (stuff : Bool) (s : State) : exec (.tetherFrameRx lane phase frame stuff) s = execTetherFrameRx lane phase frame stuff s := rfl
@[simp] theorem exec_slip (value : BitVec 32) (s : State) : exec (.slip value) s = execSlip value s := rfl
@[simp] theorem exec_tetherDeskewTimeout (s : State) : exec (.tetherDeskewTimeout) s = execTetherDeskewTimeout s := rfl
@[simp] theorem exec_tethFifoErr (lane : Fin 4) (s : State) : exec (.tethFifoErr lane) s = execTethFifoErr lane s := rfl
@[simp] theorem exec_roleElection (roleIn : Bool) (fenceIn : Bool) (s : State) : exec (.roleElection roleIn fenceIn) s = execRoleElection roleIn fenceIn s := rfl
@[simp] theorem exec_roleConflict (s : State) : exec (.roleConflict) s = execRoleConflict s := rfl
@[simp] theorem exec_relayFrameRx (s : State) : exec (.relayFrameRx) s = execRelayFrameRx s := rfl
@[simp] theorem exec_heartbeat (s : State) : exec (.heartbeat) s = execHeartbeat s := rfl
@[simp] theorem exec_timeReq (s : State) : exec (.timeReq) s = execTimeReq s := rfl
@[simp] theorem exec_timeResp (s : State) : exec (.timeResp) s = execTimeResp s := rfl
@[simp] theorem exec_ack (s : State) : exec (.ack) s = execAck s := rfl
@[simp] theorem exec_mark (s : State) : exec (.mark) s = execMark s := rfl
@[simp] theorem exec_admitEntry (s : State) : exec (.admitEntry) s = execAdmit s := rfl
@[simp] theorem exec_cfg (s : State) : exec (.cfg) s = execCfg s := rfl
@[simp] theorem exec_mem (s : State) : exec (.mem) s = execMem s := rfl
@[simp] theorem exec_tile (s : State) : exec (.tile) s = execTile s := rfl
@[simp] theorem exec_obj (s : State) : exec (.obj) s = execObj s := rfl
@[simp] theorem exec_port (s : State) : exec (.port) s = execPort s := rfl
@[simp] theorem exec_handover (s : State) : exec (.handover) s = execHandover s := rfl
@[simp] theorem exec_joinReq (s : State) : exec (.joinReq) s = execJoinReq s := rfl
@[simp] theorem exec_snapEnd (s : State) : exec (.snapEnd) s = execSnapEnd s := rfl
@[simp] theorem exec_journalMark (s : State) : exec (.journalMark) s = execJournalMark s := rfl
@[simp] theorem exec_ackPeriodic (s : State) : exec (.ackPeriodic) s = execAckPeriodic s := rfl
@[simp] theorem exec_journalResend (s : State) : exec (.journalResend) s = execJournalResend s := rfl
@[simp] theorem exec_journalStall (s : State) : exec (.journalStall) s = execJournalStall s := rfl
@[simp] theorem exec_partnerUnsynced (s : State) : exec (.partnerUnsynced) s = execPartnerUnsynced s := rfl
@[simp] theorem exec_timeExchange (s : State) : exec (.timeExchange) s = execTimeExchange s := rfl
@[simp] theorem exec_heartbeatSend (s : State) : exec (.heartbeatSend) s = execHeartbeatSend s := rfl
@[simp] theorem exec_hbPinPulse (ticks : Nat) (s : State) : exec (.hbPinPulse ticks) s = execHbPinPulse ticks s := rfl
@[simp] theorem exec_partnerLost (s : State) : exec (.partnerLost) s = execPartnerLost s := rfl
@[simp] theorem exec_hbPathLost (link : Bool) (s : State) : exec (.hbPathLost link) s = execHbPathLost link s := rfl
@[simp] theorem exec_fenceInSet (high : Bool) (s : State) : exec (.fenceInSet high) s = execFenceInSet high s := rfl
@[simp] theorem exec_takeover (roleIn : Bool) (s : State) : exec (.takeover roleIn) s = execTakeover roleIn s := rfl
@[simp] theorem exec_takeoverBlocked (s : State) : exec (.takeoverBlocked) s = execTakeoverBlocked s := rfl
@[simp] theorem exec_join (value : BitVec 32) (s : State) : exec (.join value) s = execJoin value s := rfl
@[simp] theorem exec_relayCmdHandover (value : BitVec 32) (s : State) : exec (.relayCmdHandover value) s = execRelayCmdHandover value s := rfl
@[simp] theorem exec_unfence (value : BitVec 32) (s : State) : exec (.unfence value) s = execUnfence value s := rfl
@[simp] theorem exec_ctrClear (value : BitVec 32) (s : State) : exec (.ctrClear value) s = execCtrClear value s := rfl
@[simp] theorem exec_fenceRelease (s : State) : exec (.fenceRelease) s = execFenceRelease s := rfl
@[simp] theorem exec_relayMpDb (port : Fin 16) (value : BitVec 32) (s : State) : exec (.relayMpDb port value) s = execRelayMpDb port value s := rfl
@[simp] theorem exec_relayMirCommit (n : Fin 8) (value : BitVec 32) (s : State) : exec (.relayMirCommit n value) s = execRelayMirCommit n value s := rfl
@[simp] theorem exec_relayGapRead (init : Fin 512) (s : State) : exec (.relayGapRead init) s = execRelayGapRead init s := rfl
@[simp] theorem exec_fmpFrameRx (via : Fin 3) (peer : BitVec 48) (frame : List Byte) (s : State) : exec (.fmpFrameRx via peer frame) s = execFmpFrameRx via peer frame s := rfl
@[simp] theorem exec_hello (s : State) : exec (.hello) s = execHello s := rfl
@[simp] theorem exec_read (s : State) : exec (.read) s = execRead s := rfl
@[simp] theorem exec_write (s : State) : exec (.write) s = execWrite s := rfl
@[simp] theorem exec_segOpen (s : State) : exec (.segOpen) s = execSegOpen s := rfl
@[simp] theorem exec_segData (s : State) : exec (.segData) s = execSegData s := rfl
@[simp] theorem exec_segClose (s : State) : exec (.segClose) s = execSegClose s := rfl
@[simp] theorem exec_segAbort (s : State) : exec (.segAbort) s = execSegAbort s := rfl
@[simp] theorem exec_segTimeout (role : Fin 4) (s : State) : exec (.segTimeout role) s = execSegTimeout role s := rfl
@[simp] theorem exec_store (s : State) : exec (.store) s = execStore s := rfl
@[simp] theorem exec_storeDone (good : Bool) (s : State) : exec (.storeDone good) s = execStoreDone good s := rfl
@[simp] theorem exec_restoreDefaults (s : State) : exec (.restoreDefaults) s = execRestoreDefaults s := rfl
@[simp] theorem exec_epoch (s : State) : exec (.epoch) s = execEpoch s := rfl
@[simp] theorem exec_arpRequest (ip : BitVec 32) (s : State) : exec (.arpRequest ip) s = execArpRequest ip s := rfl
@[simp] theorem exec_icmpEcho (ip : BitVec 32) (data : List Byte) (s : State) : exec (.icmpEcho ip data) s = execIcmpEcho ip data s := rfl
@[simp] theorem exec_mgmtSpiWrite (frame : List Byte) (s : State) : exec (.mgmtSpiWrite frame) s = execMgmtSpiWrite frame s := rfl
@[simp] theorem exec_mgmtSpiStatus (s : State) : exec (.mgmtSpiStatus) s = execMgmtSpiStatus s := rfl
@[simp] theorem exec_mgmtSpiRead (s : State) : exec (.mgmtSpiRead) s = execMgmtSpiRead s := rfl
@[simp] theorem exec_release (value : BitVec 32) (s : State) : exec (.release value) s = execRelease value s := rfl
@[simp] theorem exec_recommission (value : BitVec 32) (s : State) : exec (.recommission value) s = execRecommission value s := rfl
@[simp] theorem exec_leaveSafe (value : BitVec 32) (s : State) : exec (.leaveSafe value) s = execLeaveSafe value s := rfl
@[simp] theorem exec_stable (value : BitVec 32) (s : State) : exec (.stable value) s = execStable value s := rfl
@[simp] theorem exec_cancel (value : BitVec 32) (s : State) : exec (.cancel value) s = execCancel value s := rfl
@[simp] theorem exec_wakeNow (value : BitVec 32) (s : State) : exec (.wakeNow value) s = execWakeNow value s := rfl
@[simp] theorem exec_reset (value : BitVec 32) (s : State) : exec (.reset value) s = execReset value s := rfl
@[simp] theorem exec_replan (value : BitVec 32) (s : State) : exec (.replan value) s = execReplan value s := rfl
@[simp] theorem exec_pdOffReq (d : Fin 35) (value : BitVec 32) (s : State) : exec (.pdOffReq d value) s = execPdOffReq d value s := rfl
@[simp] theorem exec_stableEntry (s : State) : exec (.stableEntry) s = execStableEntry s := rfl
@[simp] theorem exec_stableAsleep (s : State) : exec (.stableAsleep) s = execStableAsleep s := rfl
@[simp] theorem exec_stableWakeEvent (cause : Fin 4) (s : State) : exec (.stableWakeEvent cause) s = execStableWakeEvent cause s := rfl
@[simp] theorem exec_wakeUngate (s : State) : exec (.wakeUngate) s = execWakeUngate s := rfl
@[simp] theorem exec_stableExit (s : State) : exec (.stableExit) s = execStableExit s := rfl
@[simp] theorem exec_avsLoop (codes : List (Fin 592 × BitVec 8)) (bad : BitVec 8) (s : State) : exec (.avsLoop codes bad) s = execAvsLoop codes bad s := rfl
@[simp] theorem exec_canaryTrip (canary : Fin 592) (s : State) : exec (.canaryTrip canary) s = execCanaryTrip canary s := rfl
@[simp] theorem exec_pmbusAlert (bad : BitVec 8) (s : State) : exec (.pmbusAlert bad) s = execPmbusAlert bad s := rfl
@[simp] theorem exec_avsRailEnable (k : Fin 8) (value : BitVec 32) (linear : Bool) (s : State) : exec (.avsRailEnable k value linear) s = execAvsRailEnable k value linear s := rfl
@[simp] theorem exec_ageMeasure (counts : List (Fin 24 × BitVec 32 × BitVec 32)) (s : State) : exec (.ageMeasure counts) s = execAgeMeasure counts s := rfl
@[simp] theorem exec_agePeriodReplan (s : State) : exec (.agePeriodReplan) s = execAgePeriodReplan s := rfl
@[simp] theorem exec_addSlot (fail : Bool) (s : State) : exec (.addSlot fail) s = execAddSlot fail s := rfl
@[simp] theorem exec_revoke (fail : Bool) (s : State) : exec (.revoke fail) s = execRevoke fail s := rfl
@[simp] theorem exec_own (fail : Bool) (s : State) : exec (.own fail) s = execOwn fail s := rfl
@[simp] theorem exec_deploy (fail : Bool) (s : State) : exec (.deploy fail) s = execDeploy fail s := rfl
@[simp] theorem exec_return (fail : Bool) (s : State) : exec (.return fail) s = execReturn fail s := rfl
@[simp] theorem exec_scrap (fail : Bool) (s : State) : exec (.scrap fail) s = execScrap fail s := rfl
@[simp] theorem exec_arbSet (fail : Bool) (s : State) : exec (.arbSet fail) s = execArbSet fail s := rfl
@[simp] theorem exec_debugGrant (fail : Bool) (s : State) : exec (.debugGrant fail) s = execDebugGrant fail s := rfl
@[simp] theorem exec_attKeygen (fail : Bool) (s : State) : exec (.attKeygen fail) s = execAttKeygen fail s := rfl
@[simp] theorem exec_keygenDone (fail : Bool) (s : State) : exec (.keygenDone fail) s = execKeygenDone fail s := rfl
@[simp] theorem exec_bridleSet (fail : Bool) (s : State) : exec (.bridleSet fail) s = execBridleSet fail s := rfl
@[simp] theorem exec_fwStage (s : State) : exec (.fwStage) s = execFwStage s := rfl
@[simp] theorem exec_keyLoad (value : BitVec 32) (s : State) : exec (.keyLoad value) s = execKeyLoad value s := rfl
@[simp] theorem exec_keyUnwrap (value : BitVec 32) (s : State) : exec (.keyUnwrap value) s = execKeyUnwrap value s := rfl
@[simp] theorem exec_keyClear (value : BitVec 32) (s : State) : exec (.keyClear value) s = execKeyClear value s := rfl
@[simp] theorem exec_attestChallenge (challenge : List Byte) (s : State) : exec (.attestChallenge challenge) s = execAttestChallenge challenge s := rfl
@[simp] theorem exec_attestSignDone (fail : Bool) (s : State) : exec (.attestSignDone fail) s = execAttestSignDone fail s := rfl
@[simp] theorem exec_attTokenGain (s : State) : exec (.attTokenGain) s = execAttTokenGain s := rfl
@[simp] theorem exec_trngFail (s : State) : exec (.trngFail) s = execTrngFail s := rfl
@[simp] theorem exec_secRngRead (init : Fin 512) (s : State) : exec (.secRngRead init) s = execSecRngRead init s := rfl
@[simp] theorem exec_bistLogic (value : BitVec 32) (s : State) : exec (.bistLogic value) s = execBistLogic value s := rfl
@[simp] theorem exec_bistMemory (value : BitVec 32) (s : State) : exec (.bistMemory value) s = execBistMemory value s := rfl
@[simp] theorem exec_bistDone (logic : Bool) (memory : Bool) (s : State) : exec (.bistDone logic memory) s = execBistDone logic memory s := rfl
@[simp] theorem exec_erase (s : State) : exec (.erase) s = execErase s := rfl
@[simp] theorem exec_eraseDone (fail : Bool) (s : State) : exec (.eraseDone fail) s = execEraseDone fail s := rfl
@[simp] theorem exec_windowReport (link : Fin 16) (ago : Fin 4) (active : Bool) (s : State) : exec (.windowReport link ago active) s = execWindowReport link ago active s := rfl
@[simp] theorem exec_tlUncCheck (s : State) : exec (.tlUncCheck) s = execTlUncCheck s := rfl
@[simp] theorem exec_lockstepMismatch (pair : Fin 2) (s : State) : exec (.lockstepMismatch pair) s = execLockstepMismatch pair s := rfl
@[simp] theorem exec_clockCheck (counts : List (Fin 7 × BitVec 16)) (s : State) : exec (.clockCheck counts) s = execClockCheck counts s := rfl
@[simp] theorem exec_railTrip (rail : Fin 36) (uv : BitVec 32) (s : State) : exec (.railTrip rail uv) s = execRailTrip rail uv s := rfl
@[simp] theorem exec_tempRead (temps : List (BitVec 16)) (s : State) : exec (.tempRead temps) s = execTempRead temps s := rfl
@[simp] theorem exec_dualTx (roleIn : Bool) (s : State) : exec (.dualTx roleIn) s = execDualTx roleIn s := rfl
@[simp] theorem exec_selfDisagree (s : State) : exec (.selfDisagree) s = execSelfDisagree s := rfl
@[simp] theorem exec_rcoEdgeLoss (s : State) : exec (.rcoEdgeLoss) s = execRcoEdgeLoss s := rfl
@[simp] theorem exec_safeEntry (s : State) : exec (.safeEntry) s = execSafeEntry s := rfl
@[simp] theorem exec_gateOpen (s : State) : exec (.gateOpen) s = execGateOpen s := rfl
@[simp] theorem exec_outLatchClear (value : BitVec 32) (s : State) : exec (.outLatchClear value) s = execOutLatchClear value s := rfl
@[simp] theorem exec_bistSlot (s : State) : exec (.bistSlot) s = execBistSlot s := rfl
@[simp] theorem exec_bistCoreTestEnd (fail : Bool) (s : State) : exec (.bistCoreTestEnd fail) s = execBistCoreTestEnd fail s := rfl
@[simp] theorem exec_bistSkip (s : State) : exec (.bistSkip) s = execBistSkip s := rfl
@[simp] theorem exec_bistMemoryTestEnd (fail : Bool) (s : State) : exec (.bistMemoryTestEnd fail) s = execBistMemoryTestEnd fail s := rfl
@[simp] theorem exec_wdtKick (x : Fin 2) (init : Fin 512) (value : BitVec 32) (s : State) : exec (.wdtKick x init value) s = execWdtKick x init value s := rfl
@[simp] theorem exec_wdtWarning (x : Fin 2) (s : State) : exec (.wdtWarning x) s = execWdtWarning x s := rfl
@[simp] theorem exec_wdtExpire (x : Fin 3) (s : State) : exec (.wdtExpire x) s = execWdtExpire x s := rfl
@[simp] theorem exec_sysUnlock (init : Fin 512) (value : BitVec 32) (s : State) : exec (.sysUnlock init value) s = execSysUnlock init value s := rfl
@[simp] theorem exec_sysSwi (value : BitVec 32) (s : State) : exec (.sysSwi value) s = execSysSwi value s := rfl
@[simp] theorem exec_periGateWrite (init : Fin 512) (value : BitVec 32) (s : State) : exec (.periGateWrite init value) s = execPeriGateWrite init value s := rfl
@[simp] theorem exec_pinCfgWrite (n : Fin 48) (value : BitVec 32) (s : State) : exec (.pinCfgWrite n value) s = execPinCfgWrite n value s := rfl
@[simp] theorem exec_pinSwitchMake (n : Fin 48) (s : State) : exec (.pinSwitchMake n) s = execPinSwitchMake n s := rfl
@[simp] theorem exec_gpioDoutWrite (hi : Bool) (value : BitVec 32) (s : State) : exec (.gpioDoutWrite hi value) s = execGpioDoutWrite hi value s := rfl
@[simp] theorem exec_gpioEdge (n : Fin 48) (level : Bool) (s : State) : exec (.gpioEdge n level) s = execGpioEdge n level s := rfl
@[simp] theorem exec_uartTxPush (u : Fin 2) (value : BitVec 32) (s : State) : exec (.uartTxPush u value) s = execUartTxPush u value s := rfl
@[simp] theorem exec_uartRxPop (u : Fin 2) (init : Fin 512) (s : State) : exec (.uartRxPop u init) s = execUartRxPop u init s := rfl
@[simp] theorem exec_uartRxByte (u : Fin 2) (byte : BitVec 8) (perr ferr : Bool) (s : State) : exec (.uartRxByte u byte perr ferr) s = execUartRxByte u byte perr ferr s := rfl
@[simp] theorem exec_uartTxByte (u : Fin 2) (s : State) : exec (.uartTxByte u) s = execUartTxByte u s := rfl
@[simp] theorem exec_spi1Cmd (value : BitVec 32) (s : State) : exec (.spi1Cmd value) s = execSpi1Cmd value s := rfl
@[simp] theorem exec_spi1Done (miso : List Byte) (s : State) : exec (.spi1Done miso) s = execSpi1Done miso s := rfl
@[simp] theorem exec_spi1DataAccess (init : Fin 512) (wr : Bool) (value : BitVec 32) (s : State) : exec (.spi1DataAccess init wr value) s = execSpi1DataAccess init wr value s := rfl
@[simp] theorem exec_i2cCmd (port : Fin 2) (value : BitVec 32) (s : State) : exec (.i2cCmd port value) s = execI2cCmd port value s := rfl
@[simp] theorem exec_i2cDone (port : Fin 2) (result : Fin 5) (data : List Byte) (s : State) : exec (.i2cDone port result data) s = execI2cDone port result data s := rfl
@[simp] theorem exec_flashErase (init : Fin 512) (value : BitVec 32) (s : State) : exec (.flashErase init value) s = execFlashErase init value s := rfl
@[simp] theorem exec_flashProgram (init : Fin 512) (value : BitVec 32) (s : State) : exec (.flashProgram init value) s = execFlashProgram init value s := rfl
@[simp] theorem exec_flashDone (bad : Bool) (s : State) : exec (.flashDone bad) s = execFlashDone bad s := rfl
@[simp] theorem exec_idcode (s : State) : exec (.idcode) s = execIdcode s := rfl
@[simp] theorem exec_samplePreload (preload : List (BitVec 12 × Bool)) (s : State) : exec (.samplePreload preload) s = execSamplePreload preload s := rfl
@[simp] theorem exec_extest (s : State) : exec (.extest) s = execExtest s := rfl
@[simp] theorem exec_dtmcs (value : BitVec 32) (s : State) : exec (.dtmcs value) s = execDtmcs value s := rfl
@[simp] theorem exec_dmi (op : BitVec 2) (addr : BitVec 7) (data : BitVec 32) (s : State) : exec (.dmi op addr data) s = execDmi op addr data s := rfl
@[simp] theorem exec_bypass (s : State) : exec (.bypass) s = execBypass s := rfl
@[simp] theorem exec_tapReset (s : State) : exec (.tapReset) s = execTapReset s := rfl
@[simp] theorem exec_unlockRequest (value : BitVec 32) (s : State) : exec (.unlockRequest value) s = execUnlockRequest value s := rfl
@[simp] theorem exec_dbgSysRead (addr : BitVec 48) (s : State) : exec (.dbgSysRead addr) s = execDbgSysRead addr s := rfl
@[simp] theorem exec_dbgSysWrite (addr : BitVec 48) (data : BitVec 32) (s : State) : exec (.dbgSysWrite addr data) s = execDbgSysWrite addr data s := rfl
@[simp] theorem exec_haltreq (pair : Fin 2) (s : State) : exec (.haltreq pair) s = execHaltreq pair s := rfl
@[simp] theorem exec_resumereq (pair : Fin 2) (s : State) : exec (.resumereq pair) s = execResumereq pair s := rfl
@[simp] theorem exec_accessRegister (command : BitVec 32) (s : State) : exec (.accessRegister command) s = execAccessRegister command s := rfl
@[simp] theorem exec_dbgCanHalt (init : Fin 512) (value : BitVec 32) (s : State) : exec (.dbgCanHalt init value) s = execDbgCanHalt init value s := rfl
@[simp] theorem exec_dbgCanResume (init : Fin 512) (value : BitVec 32) (s : State) : exec (.dbgCanResume init value) s = execDbgCanResume init value s := rfl
@[simp] theorem exec_dbgPacSnap (init : Fin 512) (value : BitVec 32) (s : State) : exec (.dbgPacSnap init value) s = execDbgPacSnap init value s := rfl
@[simp] theorem exec_pacSnapshot (s : State) : exec (.pacSnapshot) s = execPacSnapshot s := rfl
@[simp] theorem exec_mboxH2dPush (init : Fin 512) (value : BitVec 32) (s : State) : exec (.mboxH2dPush init value) s = execMboxH2dPush init value s := rfl
@[simp] theorem exec_mboxH2dPop (init : Fin 512) (s : State) : exec (.mboxH2dPop init) s = execMboxH2dPop init s := rfl
@[simp] theorem exec_mboxD2hPush (init : Fin 512) (value : BitVec 32) (s : State) : exec (.mboxD2hPush init value) s = execMboxD2hPush init value s := rfl
@[simp] theorem exec_mboxD2hPop (init : Fin 512) (value : BitVec 32) (s : State) : exec (.mboxD2hPop init value) s = execMboxD2hPop init value s := rfl
@[simp] theorem exec_illegal (core : Fin 256) (s : State) : exec (.illegal core) s = execIllegal core s := rfl
@[simp] theorem exec_cellFlipFlopEdge (cell : Fin 9437184) (late : Bool) (s : State) : exec (.cellFlipFlopEdge cell late) s = execCellFlipFlopEdge cell late s := rfl
@[simp] theorem exec_bmPortAccess (m : Fin 9216) (a : Bool) (b : Bool) (s : State) : exec (.bmPortAccess m a b) s = execBmPortAccess m a b s := rfl
@[simp] theorem exec_sliceClockEdge (n : Fin 13824) (south : BitVec 24) (s : State) : exec (.sliceClockEdge n south) s = execSliceClockEdge n south s := rfl
@[simp] theorem exec_fsynUnlock (n : Fin 24) (s : State) : exec (.fsynUnlock n) s = execFsynUnlock n s := rfl
@[simp] theorem exec_pllUnlock (group : Fin 24) (s : State) : exec (.pllUnlock group) s = execPllUnlock group s := rfl
@[simp] theorem exec_embLock (q : Fin 16) (s : State) : exec (.embLock q) s = execEmbLock q s := rfl
@[simp] theorem exec_prbsError (lane : Fin 128) (s : State) : exec (.prbsError lane) s = execPrbsError lane s := rfl
@[simp] theorem exec_autoJoin (s : State) : exec (.autoJoin) s = execAutoJoin s := rfl
@[simp] theorem exec_trngOk (s : State) : exec (.trngOk) s = execTrngOk s := rfl
@[simp] theorem exec_bucketRecord (s : State) : exec (.bucketRecord) s = execBucketRecord s := rfl
@[simp] theorem exec_missingEdgeTrip (clk : Fin 7) (s : State) : exec (.missingEdgeTrip clk) s = execMissingEdgeTrip clk s := rfl
@[simp] theorem exec_backupDomainPowered (s : State) : exec (.backupDomainPowered) s = execBackupDomainPowered s := rfl
@[simp] theorem exec_xtRestart (s : State) : exec (.xtRestart) s = execXtRestart s := rfl
@[simp] theorem exec_porNLow (s : State) : exec (.porNLow) s = execPorNLow s := rfl

end Sys2Proof.Machine
end

