-- ==== Sys2Proof/Laws/State.lean ====
section
/-! SUPPORT. What each named update of the state leaves of each field: one lemma a field, so that no proof unfolds an update. -/

namespace Sys2Proof.Machine

@[simp] theorem State.setCal_regs (s : State) (x : Calendar) : (s.setCal x).regs = s.regs := rfl
@[simp] theorem State.setCal_mem (s : State) (x : Calendar) : (s.setCal x).mem = s.mem := rfl
@[simp] theorem State.setCal_latches (s : State) (x : Calendar) : (s.setCal x).latches = s.latches := rfl
@[simp] theorem State.setCal_staged (s : State) (x : Calendar) : (s.setCal x).staged = s.staged := rfl
@[simp] theorem State.setCal_ans (s : State) (x : Calendar) : (s.setCal x).ans = s.ans := rfl
@[simp] theorem State.setCal_tim (s : State) (x : Calendar) : (s.setCal x).tim = s.tim := rfl
@[simp] theorem State.setCal_ho (s : State) (x : Calendar) : (s.setCal x).ho = s.ho := rfl
@[simp] theorem State.setCal_cal (s : State) (x : Calendar) : (s.setCal x).cal = x := rfl
@[simp] theorem State.setCal_lpp (s : State) (x : Calendar) : (s.setCal x).lpp = s.lpp := rfl
@[simp] theorem State.setCal_pac (s : State) (x : Calendar) : (s.setCal x).pac = s.pac := rfl
@[simp] theorem State.setCal_can (s : State) (x : Calendar) : (s.setCal x).can = s.can := rfl
@[simp] theorem State.setCal_fab (s : State) (x : Calendar) : (s.setCal x).fab = s.fab := rfl
@[simp] theorem State.setCal_ldr (s : State) (x : Calendar) : (s.setCal x).ldr = s.ldr := rfl
@[simp] theorem State.setCal_far (s : State) (x : Calendar) : (s.setCal x).far = s.far := rfl
@[simp] theorem State.setCal_noc (s : State) (x : Calendar) : (s.setCal x).noc = s.noc := rfl
@[simp] theorem State.setCal_ext (s : State) (x : Calendar) : (s.setCal x).ext = s.ext := rfl
@[simp] theorem State.setCal_imp (s : State) (x : Calendar) : (s.setCal x).imp = s.imp := rfl
@[simp] theorem State.setCal_lane (s : State) (x : Calendar) : (s.setCal x).lane = s.lane := rfl
@[simp] theorem State.setCal_rly (s : State) (x : Calendar) : (s.setCal x).rly = s.rly := rfl
@[simp] theorem State.setCal_fmp (s : State) (x : Calendar) : (s.setCal x).fmp = s.fmp := rfl
@[simp] theorem State.setCal_pw (s : State) (x : Calendar) : (s.setCal x).pw = s.pw := rfl
@[simp] theorem State.setCal_sec (s : State) (x : Calendar) : (s.setCal x).sec = s.sec := rfl
@[simp] theorem State.setCal_out (s : State) (x : Calendar) : (s.setCal x).out = s.out := rfl
@[simp] theorem State.setCal_svc (s : State) (x : Calendar) : (s.setCal x).svc = s.svc := rfl
@[simp] theorem State.setCal_dbg (s : State) (x : Calendar) : (s.setCal x).dbg = s.dbg := rfl
@[simp] theorem State.setCal_pending (s : State) (x : Calendar) : (s.setCal x).pending = s.pending := rfl
@[simp] theorem State.setCal_freeCtr (s : State) (x : Calendar) : (s.setCal x).freeCtr = s.freeCtr := rfl
@[simp] theorem State.setLpp_regs (s : State) (x : Lpp) : (s.setLpp x).regs = s.regs := rfl
@[simp] theorem State.setLpp_mem (s : State) (x : Lpp) : (s.setLpp x).mem = s.mem := rfl
@[simp] theorem State.setLpp_latches (s : State) (x : Lpp) : (s.setLpp x).latches = s.latches := rfl
@[simp] theorem State.setLpp_staged (s : State) (x : Lpp) : (s.setLpp x).staged = s.staged := rfl
@[simp] theorem State.setLpp_ans (s : State) (x : Lpp) : (s.setLpp x).ans = s.ans := rfl
@[simp] theorem State.setLpp_tim (s : State) (x : Lpp) : (s.setLpp x).tim = s.tim := rfl
@[simp] theorem State.setLpp_ho (s : State) (x : Lpp) : (s.setLpp x).ho = s.ho := rfl
@[simp] theorem State.setLpp_cal (s : State) (x : Lpp) : (s.setLpp x).cal = s.cal := rfl
@[simp] theorem State.setLpp_lpp (s : State) (x : Lpp) : (s.setLpp x).lpp = x := rfl
@[simp] theorem State.setLpp_pac (s : State) (x : Lpp) : (s.setLpp x).pac = s.pac := rfl
@[simp] theorem State.setLpp_can (s : State) (x : Lpp) : (s.setLpp x).can = s.can := rfl
@[simp] theorem State.setLpp_fab (s : State) (x : Lpp) : (s.setLpp x).fab = s.fab := rfl
@[simp] theorem State.setLpp_ldr (s : State) (x : Lpp) : (s.setLpp x).ldr = s.ldr := rfl
@[simp] theorem State.setLpp_far (s : State) (x : Lpp) : (s.setLpp x).far = s.far := rfl
@[simp] theorem State.setLpp_noc (s : State) (x : Lpp) : (s.setLpp x).noc = s.noc := rfl
@[simp] theorem State.setLpp_ext (s : State) (x : Lpp) : (s.setLpp x).ext = s.ext := rfl
@[simp] theorem State.setLpp_imp (s : State) (x : Lpp) : (s.setLpp x).imp = s.imp := rfl
@[simp] theorem State.setLpp_lane (s : State) (x : Lpp) : (s.setLpp x).lane = s.lane := rfl
@[simp] theorem State.setLpp_rly (s : State) (x : Lpp) : (s.setLpp x).rly = s.rly := rfl
@[simp] theorem State.setLpp_fmp (s : State) (x : Lpp) : (s.setLpp x).fmp = s.fmp := rfl
@[simp] theorem State.setLpp_pw (s : State) (x : Lpp) : (s.setLpp x).pw = s.pw := rfl
@[simp] theorem State.setLpp_sec (s : State) (x : Lpp) : (s.setLpp x).sec = s.sec := rfl
@[simp] theorem State.setLpp_out (s : State) (x : Lpp) : (s.setLpp x).out = s.out := rfl
@[simp] theorem State.setLpp_svc (s : State) (x : Lpp) : (s.setLpp x).svc = s.svc := rfl
@[simp] theorem State.setLpp_dbg (s : State) (x : Lpp) : (s.setLpp x).dbg = s.dbg := rfl
@[simp] theorem State.setLpp_pending (s : State) (x : Lpp) : (s.setLpp x).pending = s.pending := rfl
@[simp] theorem State.setLpp_freeCtr (s : State) (x : Lpp) : (s.setLpp x).freeCtr = s.freeCtr := rfl
@[simp] theorem State.setOut_regs (s : State) (x : Outrider) : (s.setOut x).regs = s.regs := rfl
@[simp] theorem State.setOut_mem (s : State) (x : Outrider) : (s.setOut x).mem = s.mem := rfl
@[simp] theorem State.setOut_latches (s : State) (x : Outrider) : (s.setOut x).latches = s.latches := rfl
@[simp] theorem State.setOut_staged (s : State) (x : Outrider) : (s.setOut x).staged = s.staged := rfl
@[simp] theorem State.setOut_ans (s : State) (x : Outrider) : (s.setOut x).ans = s.ans := rfl
@[simp] theorem State.setOut_tim (s : State) (x : Outrider) : (s.setOut x).tim = s.tim := rfl
@[simp] theorem State.setOut_ho (s : State) (x : Outrider) : (s.setOut x).ho = s.ho := rfl
@[simp] theorem State.setOut_cal (s : State) (x : Outrider) : (s.setOut x).cal = s.cal := rfl
@[simp] theorem State.setOut_lpp (s : State) (x : Outrider) : (s.setOut x).lpp = s.lpp := rfl
@[simp] theorem State.setOut_pac (s : State) (x : Outrider) : (s.setOut x).pac = s.pac := rfl
@[simp] theorem State.setOut_can (s : State) (x : Outrider) : (s.setOut x).can = s.can := rfl
@[simp] theorem State.setOut_fab (s : State) (x : Outrider) : (s.setOut x).fab = s.fab := rfl
@[simp] theorem State.setOut_ldr (s : State) (x : Outrider) : (s.setOut x).ldr = s.ldr := rfl
@[simp] theorem State.setOut_far (s : State) (x : Outrider) : (s.setOut x).far = s.far := rfl
@[simp] theorem State.setOut_noc (s : State) (x : Outrider) : (s.setOut x).noc = s.noc := rfl
@[simp] theorem State.setOut_ext (s : State) (x : Outrider) : (s.setOut x).ext = s.ext := rfl
@[simp] theorem State.setOut_imp (s : State) (x : Outrider) : (s.setOut x).imp = s.imp := rfl
@[simp] theorem State.setOut_lane (s : State) (x : Outrider) : (s.setOut x).lane = s.lane := rfl
@[simp] theorem State.setOut_rly (s : State) (x : Outrider) : (s.setOut x).rly = s.rly := rfl
@[simp] theorem State.setOut_fmp (s : State) (x : Outrider) : (s.setOut x).fmp = s.fmp := rfl
@[simp] theorem State.setOut_pw (s : State) (x : Outrider) : (s.setOut x).pw = s.pw := rfl
@[simp] theorem State.setOut_sec (s : State) (x : Outrider) : (s.setOut x).sec = s.sec := rfl
@[simp] theorem State.setOut_out (s : State) (x : Outrider) : (s.setOut x).out = x := rfl
@[simp] theorem State.setOut_svc (s : State) (x : Outrider) : (s.setOut x).svc = s.svc := rfl
@[simp] theorem State.setOut_dbg (s : State) (x : Outrider) : (s.setOut x).dbg = s.dbg := rfl
@[simp] theorem State.setOut_pending (s : State) (x : Outrider) : (s.setOut x).pending = s.pending := rfl
@[simp] theorem State.setOut_freeCtr (s : State) (x : Outrider) : (s.setOut x).freeCtr = s.freeCtr := rfl
@[simp] theorem State.setFmp_regs (s : State) (x : Fmp) : (s.setFmp x).regs = s.regs := rfl
@[simp] theorem State.setFmp_mem (s : State) (x : Fmp) : (s.setFmp x).mem = s.mem := rfl
@[simp] theorem State.setFmp_latches (s : State) (x : Fmp) : (s.setFmp x).latches = s.latches := rfl
@[simp] theorem State.setFmp_staged (s : State) (x : Fmp) : (s.setFmp x).staged = s.staged := rfl
@[simp] theorem State.setFmp_ans (s : State) (x : Fmp) : (s.setFmp x).ans = s.ans := rfl
@[simp] theorem State.setFmp_tim (s : State) (x : Fmp) : (s.setFmp x).tim = s.tim := rfl
@[simp] theorem State.setFmp_ho (s : State) (x : Fmp) : (s.setFmp x).ho = s.ho := rfl
@[simp] theorem State.setFmp_cal (s : State) (x : Fmp) : (s.setFmp x).cal = s.cal := rfl
@[simp] theorem State.setFmp_lpp (s : State) (x : Fmp) : (s.setFmp x).lpp = s.lpp := rfl
@[simp] theorem State.setFmp_pac (s : State) (x : Fmp) : (s.setFmp x).pac = s.pac := rfl
@[simp] theorem State.setFmp_can (s : State) (x : Fmp) : (s.setFmp x).can = s.can := rfl
@[simp] theorem State.setFmp_fab (s : State) (x : Fmp) : (s.setFmp x).fab = s.fab := rfl
@[simp] theorem State.setFmp_ldr (s : State) (x : Fmp) : (s.setFmp x).ldr = s.ldr := rfl
@[simp] theorem State.setFmp_far (s : State) (x : Fmp) : (s.setFmp x).far = s.far := rfl
@[simp] theorem State.setFmp_noc (s : State) (x : Fmp) : (s.setFmp x).noc = s.noc := rfl
@[simp] theorem State.setFmp_ext (s : State) (x : Fmp) : (s.setFmp x).ext = s.ext := rfl
@[simp] theorem State.setFmp_imp (s : State) (x : Fmp) : (s.setFmp x).imp = s.imp := rfl
@[simp] theorem State.setFmp_lane (s : State) (x : Fmp) : (s.setFmp x).lane = s.lane := rfl
@[simp] theorem State.setFmp_rly (s : State) (x : Fmp) : (s.setFmp x).rly = s.rly := rfl
@[simp] theorem State.setFmp_fmp (s : State) (x : Fmp) : (s.setFmp x).fmp = x := rfl
@[simp] theorem State.setFmp_pw (s : State) (x : Fmp) : (s.setFmp x).pw = s.pw := rfl
@[simp] theorem State.setFmp_sec (s : State) (x : Fmp) : (s.setFmp x).sec = s.sec := rfl
@[simp] theorem State.setFmp_out (s : State) (x : Fmp) : (s.setFmp x).out = s.out := rfl
@[simp] theorem State.setFmp_svc (s : State) (x : Fmp) : (s.setFmp x).svc = s.svc := rfl
@[simp] theorem State.setFmp_dbg (s : State) (x : Fmp) : (s.setFmp x).dbg = s.dbg := rfl
@[simp] theorem State.setFmp_pending (s : State) (x : Fmp) : (s.setFmp x).pending = s.pending := rfl
@[simp] theorem State.setFmp_freeCtr (s : State) (x : Fmp) : (s.setFmp x).freeCtr = s.freeCtr := rfl
@[simp] theorem State.setLane_regs (s : State) (x : Lanes) : (s.setLane x).regs = s.regs := rfl
@[simp] theorem State.setLane_mem (s : State) (x : Lanes) : (s.setLane x).mem = s.mem := rfl
@[simp] theorem State.setLane_latches (s : State) (x : Lanes) : (s.setLane x).latches = s.latches := rfl
@[simp] theorem State.setLane_staged (s : State) (x : Lanes) : (s.setLane x).staged = s.staged := rfl
@[simp] theorem State.setLane_ans (s : State) (x : Lanes) : (s.setLane x).ans = s.ans := rfl
@[simp] theorem State.setLane_tim (s : State) (x : Lanes) : (s.setLane x).tim = s.tim := rfl
@[simp] theorem State.setLane_ho (s : State) (x : Lanes) : (s.setLane x).ho = s.ho := rfl
@[simp] theorem State.setLane_cal (s : State) (x : Lanes) : (s.setLane x).cal = s.cal := rfl
@[simp] theorem State.setLane_lpp (s : State) (x : Lanes) : (s.setLane x).lpp = s.lpp := rfl
@[simp] theorem State.setLane_pac (s : State) (x : Lanes) : (s.setLane x).pac = s.pac := rfl
@[simp] theorem State.setLane_can (s : State) (x : Lanes) : (s.setLane x).can = s.can := rfl
@[simp] theorem State.setLane_fab (s : State) (x : Lanes) : (s.setLane x).fab = s.fab := rfl
@[simp] theorem State.setLane_ldr (s : State) (x : Lanes) : (s.setLane x).ldr = s.ldr := rfl
@[simp] theorem State.setLane_far (s : State) (x : Lanes) : (s.setLane x).far = s.far := rfl
@[simp] theorem State.setLane_noc (s : State) (x : Lanes) : (s.setLane x).noc = s.noc := rfl
@[simp] theorem State.setLane_ext (s : State) (x : Lanes) : (s.setLane x).ext = s.ext := rfl
@[simp] theorem State.setLane_imp (s : State) (x : Lanes) : (s.setLane x).imp = s.imp := rfl
@[simp] theorem State.setLane_lane (s : State) (x : Lanes) : (s.setLane x).lane = x := rfl
@[simp] theorem State.setLane_rly (s : State) (x : Lanes) : (s.setLane x).rly = s.rly := rfl
@[simp] theorem State.setLane_fmp (s : State) (x : Lanes) : (s.setLane x).fmp = s.fmp := rfl
@[simp] theorem State.setLane_pw (s : State) (x : Lanes) : (s.setLane x).pw = s.pw := rfl
@[simp] theorem State.setLane_sec (s : State) (x : Lanes) : (s.setLane x).sec = s.sec := rfl
@[simp] theorem State.setLane_out (s : State) (x : Lanes) : (s.setLane x).out = s.out := rfl
@[simp] theorem State.setLane_svc (s : State) (x : Lanes) : (s.setLane x).svc = s.svc := rfl
@[simp] theorem State.setLane_dbg (s : State) (x : Lanes) : (s.setLane x).dbg = s.dbg := rfl
@[simp] theorem State.setLane_pending (s : State) (x : Lanes) : (s.setLane x).pending = s.pending := rfl
@[simp] theorem State.setLane_freeCtr (s : State) (x : Lanes) : (s.setLane x).freeCtr = s.freeCtr := rfl
@[simp] theorem State.setFab_regs (s : State) (x : Fabric) : (s.setFab x).regs = s.regs := rfl
@[simp] theorem State.setFab_mem (s : State) (x : Fabric) : (s.setFab x).mem = s.mem := rfl
@[simp] theorem State.setFab_latches (s : State) (x : Fabric) : (s.setFab x).latches = s.latches := rfl
@[simp] theorem State.setFab_staged (s : State) (x : Fabric) : (s.setFab x).staged = s.staged := rfl
@[simp] theorem State.setFab_ans (s : State) (x : Fabric) : (s.setFab x).ans = s.ans := rfl
@[simp] theorem State.setFab_tim (s : State) (x : Fabric) : (s.setFab x).tim = s.tim := rfl
@[simp] theorem State.setFab_ho (s : State) (x : Fabric) : (s.setFab x).ho = s.ho := rfl
@[simp] theorem State.setFab_cal (s : State) (x : Fabric) : (s.setFab x).cal = s.cal := rfl
@[simp] theorem State.setFab_lpp (s : State) (x : Fabric) : (s.setFab x).lpp = s.lpp := rfl
@[simp] theorem State.setFab_pac (s : State) (x : Fabric) : (s.setFab x).pac = s.pac := rfl
@[simp] theorem State.setFab_can (s : State) (x : Fabric) : (s.setFab x).can = s.can := rfl
@[simp] theorem State.setFab_fab (s : State) (x : Fabric) : (s.setFab x).fab = x := rfl
@[simp] theorem State.setFab_ldr (s : State) (x : Fabric) : (s.setFab x).ldr = s.ldr := rfl
@[simp] theorem State.setFab_far (s : State) (x : Fabric) : (s.setFab x).far = s.far := rfl
@[simp] theorem State.setFab_noc (s : State) (x : Fabric) : (s.setFab x).noc = s.noc := rfl
@[simp] theorem State.setFab_ext (s : State) (x : Fabric) : (s.setFab x).ext = s.ext := rfl
@[simp] theorem State.setFab_imp (s : State) (x : Fabric) : (s.setFab x).imp = s.imp := rfl
@[simp] theorem State.setFab_lane (s : State) (x : Fabric) : (s.setFab x).lane = s.lane := rfl
@[simp] theorem State.setFab_rly (s : State) (x : Fabric) : (s.setFab x).rly = s.rly := rfl
@[simp] theorem State.setFab_fmp (s : State) (x : Fabric) : (s.setFab x).fmp = s.fmp := rfl
@[simp] theorem State.setFab_pw (s : State) (x : Fabric) : (s.setFab x).pw = s.pw := rfl
@[simp] theorem State.setFab_sec (s : State) (x : Fabric) : (s.setFab x).sec = s.sec := rfl
@[simp] theorem State.setFab_out (s : State) (x : Fabric) : (s.setFab x).out = s.out := rfl
@[simp] theorem State.setFab_svc (s : State) (x : Fabric) : (s.setFab x).svc = s.svc := rfl
@[simp] theorem State.setFab_dbg (s : State) (x : Fabric) : (s.setFab x).dbg = s.dbg := rfl
@[simp] theorem State.setFab_pending (s : State) (x : Fabric) : (s.setFab x).pending = s.pending := rfl
@[simp] theorem State.setFab_freeCtr (s : State) (x : Fabric) : (s.setFab x).freeCtr = s.freeCtr := rfl
@[simp] theorem State.setSvc_regs (s : State) (x : Service) : (s.setSvc x).regs = s.regs := rfl
@[simp] theorem State.setSvc_mem (s : State) (x : Service) : (s.setSvc x).mem = s.mem := rfl
@[simp] theorem State.setSvc_latches (s : State) (x : Service) : (s.setSvc x).latches = s.latches := rfl
@[simp] theorem State.setSvc_staged (s : State) (x : Service) : (s.setSvc x).staged = s.staged := rfl
@[simp] theorem State.setSvc_ans (s : State) (x : Service) : (s.setSvc x).ans = s.ans := rfl
@[simp] theorem State.setSvc_tim (s : State) (x : Service) : (s.setSvc x).tim = s.tim := rfl
@[simp] theorem State.setSvc_ho (s : State) (x : Service) : (s.setSvc x).ho = s.ho := rfl
@[simp] theorem State.setSvc_cal (s : State) (x : Service) : (s.setSvc x).cal = s.cal := rfl
@[simp] theorem State.setSvc_lpp (s : State) (x : Service) : (s.setSvc x).lpp = s.lpp := rfl
@[simp] theorem State.setSvc_pac (s : State) (x : Service) : (s.setSvc x).pac = s.pac := rfl
@[simp] theorem State.setSvc_can (s : State) (x : Service) : (s.setSvc x).can = s.can := rfl
@[simp] theorem State.setSvc_fab (s : State) (x : Service) : (s.setSvc x).fab = s.fab := rfl
@[simp] theorem State.setSvc_ldr (s : State) (x : Service) : (s.setSvc x).ldr = s.ldr := rfl
@[simp] theorem State.setSvc_far (s : State) (x : Service) : (s.setSvc x).far = s.far := rfl
@[simp] theorem State.setSvc_noc (s : State) (x : Service) : (s.setSvc x).noc = s.noc := rfl
@[simp] theorem State.setSvc_ext (s : State) (x : Service) : (s.setSvc x).ext = s.ext := rfl
@[simp] theorem State.setSvc_imp (s : State) (x : Service) : (s.setSvc x).imp = s.imp := rfl
@[simp] theorem State.setSvc_lane (s : State) (x : Service) : (s.setSvc x).lane = s.lane := rfl
@[simp] theorem State.setSvc_rly (s : State) (x : Service) : (s.setSvc x).rly = s.rly := rfl
@[simp] theorem State.setSvc_fmp (s : State) (x : Service) : (s.setSvc x).fmp = s.fmp := rfl
@[simp] theorem State.setSvc_pw (s : State) (x : Service) : (s.setSvc x).pw = s.pw := rfl
@[simp] theorem State.setSvc_sec (s : State) (x : Service) : (s.setSvc x).sec = s.sec := rfl
@[simp] theorem State.setSvc_out (s : State) (x : Service) : (s.setSvc x).out = s.out := rfl
@[simp] theorem State.setSvc_svc (s : State) (x : Service) : (s.setSvc x).svc = x := rfl
@[simp] theorem State.setSvc_dbg (s : State) (x : Service) : (s.setSvc x).dbg = s.dbg := rfl
@[simp] theorem State.setSvc_pending (s : State) (x : Service) : (s.setSvc x).pending = s.pending := rfl
@[simp] theorem State.setSvc_freeCtr (s : State) (x : Service) : (s.setSvc x).freeCtr = s.freeCtr := rfl
@[simp] theorem State.setDbg_regs (s : State) (x : Debug) : (s.setDbg x).regs = s.regs := rfl
@[simp] theorem State.setDbg_mem (s : State) (x : Debug) : (s.setDbg x).mem = s.mem := rfl
@[simp] theorem State.setDbg_latches (s : State) (x : Debug) : (s.setDbg x).latches = s.latches := rfl
@[simp] theorem State.setDbg_staged (s : State) (x : Debug) : (s.setDbg x).staged = s.staged := rfl
@[simp] theorem State.setDbg_ans (s : State) (x : Debug) : (s.setDbg x).ans = s.ans := rfl
@[simp] theorem State.setDbg_tim (s : State) (x : Debug) : (s.setDbg x).tim = s.tim := rfl
@[simp] theorem State.setDbg_ho (s : State) (x : Debug) : (s.setDbg x).ho = s.ho := rfl
@[simp] theorem State.setDbg_cal (s : State) (x : Debug) : (s.setDbg x).cal = s.cal := rfl
@[simp] theorem State.setDbg_lpp (s : State) (x : Debug) : (s.setDbg x).lpp = s.lpp := rfl
@[simp] theorem State.setDbg_pac (s : State) (x : Debug) : (s.setDbg x).pac = s.pac := rfl
@[simp] theorem State.setDbg_can (s : State) (x : Debug) : (s.setDbg x).can = s.can := rfl
@[simp] theorem State.setDbg_fab (s : State) (x : Debug) : (s.setDbg x).fab = s.fab := rfl
@[simp] theorem State.setDbg_ldr (s : State) (x : Debug) : (s.setDbg x).ldr = s.ldr := rfl
@[simp] theorem State.setDbg_far (s : State) (x : Debug) : (s.setDbg x).far = s.far := rfl
@[simp] theorem State.setDbg_noc (s : State) (x : Debug) : (s.setDbg x).noc = s.noc := rfl
@[simp] theorem State.setDbg_ext (s : State) (x : Debug) : (s.setDbg x).ext = s.ext := rfl
@[simp] theorem State.setDbg_imp (s : State) (x : Debug) : (s.setDbg x).imp = s.imp := rfl
@[simp] theorem State.setDbg_lane (s : State) (x : Debug) : (s.setDbg x).lane = s.lane := rfl
@[simp] theorem State.setDbg_rly (s : State) (x : Debug) : (s.setDbg x).rly = s.rly := rfl
@[simp] theorem State.setDbg_fmp (s : State) (x : Debug) : (s.setDbg x).fmp = s.fmp := rfl
@[simp] theorem State.setDbg_pw (s : State) (x : Debug) : (s.setDbg x).pw = s.pw := rfl
@[simp] theorem State.setDbg_sec (s : State) (x : Debug) : (s.setDbg x).sec = s.sec := rfl
@[simp] theorem State.setDbg_out (s : State) (x : Debug) : (s.setDbg x).out = s.out := rfl
@[simp] theorem State.setDbg_svc (s : State) (x : Debug) : (s.setDbg x).svc = s.svc := rfl
@[simp] theorem State.setDbg_dbg (s : State) (x : Debug) : (s.setDbg x).dbg = x := rfl
@[simp] theorem State.setDbg_pending (s : State) (x : Debug) : (s.setDbg x).pending = s.pending := rfl
@[simp] theorem State.setDbg_freeCtr (s : State) (x : Debug) : (s.setDbg x).freeCtr = s.freeCtr := rfl
@[simp] theorem State.setHo_regs (s : State) (x : Holdover) : (s.setHo x).regs = s.regs := rfl
@[simp] theorem State.setHo_mem (s : State) (x : Holdover) : (s.setHo x).mem = s.mem := rfl
@[simp] theorem State.setHo_latches (s : State) (x : Holdover) : (s.setHo x).latches = s.latches := rfl
@[simp] theorem State.setHo_staged (s : State) (x : Holdover) : (s.setHo x).staged = s.staged := rfl
@[simp] theorem State.setHo_ans (s : State) (x : Holdover) : (s.setHo x).ans = s.ans := rfl
@[simp] theorem State.setHo_tim (s : State) (x : Holdover) : (s.setHo x).tim = s.tim := rfl
@[simp] theorem State.setHo_ho (s : State) (x : Holdover) : (s.setHo x).ho = x := rfl
@[simp] theorem State.setHo_cal (s : State) (x : Holdover) : (s.setHo x).cal = s.cal := rfl
@[simp] theorem State.setHo_lpp (s : State) (x : Holdover) : (s.setHo x).lpp = s.lpp := rfl
@[simp] theorem State.setHo_pac (s : State) (x : Holdover) : (s.setHo x).pac = s.pac := rfl
@[simp] theorem State.setHo_can (s : State) (x : Holdover) : (s.setHo x).can = s.can := rfl
@[simp] theorem State.setHo_fab (s : State) (x : Holdover) : (s.setHo x).fab = s.fab := rfl
@[simp] theorem State.setHo_ldr (s : State) (x : Holdover) : (s.setHo x).ldr = s.ldr := rfl
@[simp] theorem State.setHo_far (s : State) (x : Holdover) : (s.setHo x).far = s.far := rfl
@[simp] theorem State.setHo_noc (s : State) (x : Holdover) : (s.setHo x).noc = s.noc := rfl
@[simp] theorem State.setHo_ext (s : State) (x : Holdover) : (s.setHo x).ext = s.ext := rfl
@[simp] theorem State.setHo_imp (s : State) (x : Holdover) : (s.setHo x).imp = s.imp := rfl
@[simp] theorem State.setHo_lane (s : State) (x : Holdover) : (s.setHo x).lane = s.lane := rfl
@[simp] theorem State.setHo_rly (s : State) (x : Holdover) : (s.setHo x).rly = s.rly := rfl
@[simp] theorem State.setHo_fmp (s : State) (x : Holdover) : (s.setHo x).fmp = s.fmp := rfl
@[simp] theorem State.setHo_pw (s : State) (x : Holdover) : (s.setHo x).pw = s.pw := rfl
@[simp] theorem State.setHo_sec (s : State) (x : Holdover) : (s.setHo x).sec = s.sec := rfl
@[simp] theorem State.setHo_out (s : State) (x : Holdover) : (s.setHo x).out = s.out := rfl
@[simp] theorem State.setHo_svc (s : State) (x : Holdover) : (s.setHo x).svc = s.svc := rfl
@[simp] theorem State.setHo_dbg (s : State) (x : Holdover) : (s.setHo x).dbg = s.dbg := rfl
@[simp] theorem State.setHo_pending (s : State) (x : Holdover) : (s.setHo x).pending = s.pending := rfl
@[simp] theorem State.setHo_freeCtr (s : State) (x : Holdover) : (s.setHo x).freeCtr = s.freeCtr := rfl
@[simp] theorem State.setLdr_regs (s : State) (x : Loader) : (s.setLdr x).regs = s.regs := rfl
@[simp] theorem State.setLdr_mem (s : State) (x : Loader) : (s.setLdr x).mem = s.mem := rfl
@[simp] theorem State.setLdr_latches (s : State) (x : Loader) : (s.setLdr x).latches = s.latches := rfl
@[simp] theorem State.setLdr_staged (s : State) (x : Loader) : (s.setLdr x).staged = s.staged := rfl
@[simp] theorem State.setLdr_ans (s : State) (x : Loader) : (s.setLdr x).ans = s.ans := rfl
@[simp] theorem State.setLdr_tim (s : State) (x : Loader) : (s.setLdr x).tim = s.tim := rfl
@[simp] theorem State.setLdr_ho (s : State) (x : Loader) : (s.setLdr x).ho = s.ho := rfl
@[simp] theorem State.setLdr_cal (s : State) (x : Loader) : (s.setLdr x).cal = s.cal := rfl
@[simp] theorem State.setLdr_lpp (s : State) (x : Loader) : (s.setLdr x).lpp = s.lpp := rfl
@[simp] theorem State.setLdr_pac (s : State) (x : Loader) : (s.setLdr x).pac = s.pac := rfl
@[simp] theorem State.setLdr_can (s : State) (x : Loader) : (s.setLdr x).can = s.can := rfl
@[simp] theorem State.setLdr_fab (s : State) (x : Loader) : (s.setLdr x).fab = s.fab := rfl
@[simp] theorem State.setLdr_ldr (s : State) (x : Loader) : (s.setLdr x).ldr = x := rfl
@[simp] theorem State.setLdr_far (s : State) (x : Loader) : (s.setLdr x).far = s.far := rfl
@[simp] theorem State.setLdr_noc (s : State) (x : Loader) : (s.setLdr x).noc = s.noc := rfl
@[simp] theorem State.setLdr_ext (s : State) (x : Loader) : (s.setLdr x).ext = s.ext := rfl
@[simp] theorem State.setLdr_imp (s : State) (x : Loader) : (s.setLdr x).imp = s.imp := rfl
@[simp] theorem State.setLdr_lane (s : State) (x : Loader) : (s.setLdr x).lane = s.lane := rfl
@[simp] theorem State.setLdr_rly (s : State) (x : Loader) : (s.setLdr x).rly = s.rly := rfl
@[simp] theorem State.setLdr_fmp (s : State) (x : Loader) : (s.setLdr x).fmp = s.fmp := rfl
@[simp] theorem State.setLdr_pw (s : State) (x : Loader) : (s.setLdr x).pw = s.pw := rfl
@[simp] theorem State.setLdr_sec (s : State) (x : Loader) : (s.setLdr x).sec = s.sec := rfl
@[simp] theorem State.setLdr_out (s : State) (x : Loader) : (s.setLdr x).out = s.out := rfl
@[simp] theorem State.setLdr_svc (s : State) (x : Loader) : (s.setLdr x).svc = s.svc := rfl
@[simp] theorem State.setLdr_dbg (s : State) (x : Loader) : (s.setLdr x).dbg = s.dbg := rfl
@[simp] theorem State.setLdr_pending (s : State) (x : Loader) : (s.setLdr x).pending = s.pending := rfl
@[simp] theorem State.setLdr_freeCtr (s : State) (x : Loader) : (s.setLdr x).freeCtr = s.freeCtr := rfl
@[simp] theorem State.setFar_regs (s : State) (x : Farrier) : (s.setFar x).regs = s.regs := rfl
@[simp] theorem State.setFar_mem (s : State) (x : Farrier) : (s.setFar x).mem = s.mem := rfl
@[simp] theorem State.setFar_latches (s : State) (x : Farrier) : (s.setFar x).latches = s.latches := rfl
@[simp] theorem State.setFar_staged (s : State) (x : Farrier) : (s.setFar x).staged = s.staged := rfl
@[simp] theorem State.setFar_ans (s : State) (x : Farrier) : (s.setFar x).ans = s.ans := rfl
@[simp] theorem State.setFar_tim (s : State) (x : Farrier) : (s.setFar x).tim = s.tim := rfl
@[simp] theorem State.setFar_ho (s : State) (x : Farrier) : (s.setFar x).ho = s.ho := rfl
@[simp] theorem State.setFar_cal (s : State) (x : Farrier) : (s.setFar x).cal = s.cal := rfl
@[simp] theorem State.setFar_lpp (s : State) (x : Farrier) : (s.setFar x).lpp = s.lpp := rfl
@[simp] theorem State.setFar_pac (s : State) (x : Farrier) : (s.setFar x).pac = s.pac := rfl
@[simp] theorem State.setFar_can (s : State) (x : Farrier) : (s.setFar x).can = s.can := rfl
@[simp] theorem State.setFar_fab (s : State) (x : Farrier) : (s.setFar x).fab = s.fab := rfl
@[simp] theorem State.setFar_ldr (s : State) (x : Farrier) : (s.setFar x).ldr = s.ldr := rfl
@[simp] theorem State.setFar_far (s : State) (x : Farrier) : (s.setFar x).far = x := rfl
@[simp] theorem State.setFar_noc (s : State) (x : Farrier) : (s.setFar x).noc = s.noc := rfl
@[simp] theorem State.setFar_ext (s : State) (x : Farrier) : (s.setFar x).ext = s.ext := rfl
@[simp] theorem State.setFar_imp (s : State) (x : Farrier) : (s.setFar x).imp = s.imp := rfl
@[simp] theorem State.setFar_lane (s : State) (x : Farrier) : (s.setFar x).lane = s.lane := rfl
@[simp] theorem State.setFar_rly (s : State) (x : Farrier) : (s.setFar x).rly = s.rly := rfl
@[simp] theorem State.setFar_fmp (s : State) (x : Farrier) : (s.setFar x).fmp = s.fmp := rfl
@[simp] theorem State.setFar_pw (s : State) (x : Farrier) : (s.setFar x).pw = s.pw := rfl
@[simp] theorem State.setFar_sec (s : State) (x : Farrier) : (s.setFar x).sec = s.sec := rfl
@[simp] theorem State.setFar_out (s : State) (x : Farrier) : (s.setFar x).out = s.out := rfl
@[simp] theorem State.setFar_svc (s : State) (x : Farrier) : (s.setFar x).svc = s.svc := rfl
@[simp] theorem State.setFar_dbg (s : State) (x : Farrier) : (s.setFar x).dbg = s.dbg := rfl
@[simp] theorem State.setFar_pending (s : State) (x : Farrier) : (s.setFar x).pending = s.pending := rfl
@[simp] theorem State.setFar_freeCtr (s : State) (x : Farrier) : (s.setFar x).freeCtr = s.freeCtr := rfl
@[simp] theorem State.setNoc_regs (s : State) (x : Noc) : (s.setNoc x).regs = s.regs := rfl
@[simp] theorem State.setNoc_mem (s : State) (x : Noc) : (s.setNoc x).mem = s.mem := rfl
@[simp] theorem State.setNoc_latches (s : State) (x : Noc) : (s.setNoc x).latches = s.latches := rfl
@[simp] theorem State.setNoc_staged (s : State) (x : Noc) : (s.setNoc x).staged = s.staged := rfl
@[simp] theorem State.setNoc_ans (s : State) (x : Noc) : (s.setNoc x).ans = s.ans := rfl
@[simp] theorem State.setNoc_tim (s : State) (x : Noc) : (s.setNoc x).tim = s.tim := rfl
@[simp] theorem State.setNoc_ho (s : State) (x : Noc) : (s.setNoc x).ho = s.ho := rfl
@[simp] theorem State.setNoc_cal (s : State) (x : Noc) : (s.setNoc x).cal = s.cal := rfl
@[simp] theorem State.setNoc_lpp (s : State) (x : Noc) : (s.setNoc x).lpp = s.lpp := rfl
@[simp] theorem State.setNoc_pac (s : State) (x : Noc) : (s.setNoc x).pac = s.pac := rfl
@[simp] theorem State.setNoc_can (s : State) (x : Noc) : (s.setNoc x).can = s.can := rfl
@[simp] theorem State.setNoc_fab (s : State) (x : Noc) : (s.setNoc x).fab = s.fab := rfl
@[simp] theorem State.setNoc_ldr (s : State) (x : Noc) : (s.setNoc x).ldr = s.ldr := rfl
@[simp] theorem State.setNoc_far (s : State) (x : Noc) : (s.setNoc x).far = s.far := rfl
@[simp] theorem State.setNoc_noc (s : State) (x : Noc) : (s.setNoc x).noc = x := rfl
@[simp] theorem State.setNoc_ext (s : State) (x : Noc) : (s.setNoc x).ext = s.ext := rfl
@[simp] theorem State.setNoc_imp (s : State) (x : Noc) : (s.setNoc x).imp = s.imp := rfl
@[simp] theorem State.setNoc_lane (s : State) (x : Noc) : (s.setNoc x).lane = s.lane := rfl
@[simp] theorem State.setNoc_rly (s : State) (x : Noc) : (s.setNoc x).rly = s.rly := rfl
@[simp] theorem State.setNoc_fmp (s : State) (x : Noc) : (s.setNoc x).fmp = s.fmp := rfl
@[simp] theorem State.setNoc_pw (s : State) (x : Noc) : (s.setNoc x).pw = s.pw := rfl
@[simp] theorem State.setNoc_sec (s : State) (x : Noc) : (s.setNoc x).sec = s.sec := rfl
@[simp] theorem State.setNoc_out (s : State) (x : Noc) : (s.setNoc x).out = s.out := rfl
@[simp] theorem State.setNoc_svc (s : State) (x : Noc) : (s.setNoc x).svc = s.svc := rfl
@[simp] theorem State.setNoc_dbg (s : State) (x : Noc) : (s.setNoc x).dbg = s.dbg := rfl
@[simp] theorem State.setNoc_pending (s : State) (x : Noc) : (s.setNoc x).pending = s.pending := rfl
@[simp] theorem State.setNoc_freeCtr (s : State) (x : Noc) : (s.setNoc x).freeCtr = s.freeCtr := rfl
@[simp] theorem State.setImp_regs (s : State) (x : Imp) : (s.setImp x).regs = s.regs := rfl
@[simp] theorem State.setImp_mem (s : State) (x : Imp) : (s.setImp x).mem = s.mem := rfl
@[simp] theorem State.setImp_latches (s : State) (x : Imp) : (s.setImp x).latches = s.latches := rfl
@[simp] theorem State.setImp_staged (s : State) (x : Imp) : (s.setImp x).staged = s.staged := rfl
@[simp] theorem State.setImp_ans (s : State) (x : Imp) : (s.setImp x).ans = s.ans := rfl
@[simp] theorem State.setImp_tim (s : State) (x : Imp) : (s.setImp x).tim = s.tim := rfl
@[simp] theorem State.setImp_ho (s : State) (x : Imp) : (s.setImp x).ho = s.ho := rfl
@[simp] theorem State.setImp_cal (s : State) (x : Imp) : (s.setImp x).cal = s.cal := rfl
@[simp] theorem State.setImp_lpp (s : State) (x : Imp) : (s.setImp x).lpp = s.lpp := rfl
@[simp] theorem State.setImp_pac (s : State) (x : Imp) : (s.setImp x).pac = s.pac := rfl
@[simp] theorem State.setImp_can (s : State) (x : Imp) : (s.setImp x).can = s.can := rfl
@[simp] theorem State.setImp_fab (s : State) (x : Imp) : (s.setImp x).fab = s.fab := rfl
@[simp] theorem State.setImp_ldr (s : State) (x : Imp) : (s.setImp x).ldr = s.ldr := rfl
@[simp] theorem State.setImp_far (s : State) (x : Imp) : (s.setImp x).far = s.far := rfl
@[simp] theorem State.setImp_noc (s : State) (x : Imp) : (s.setImp x).noc = s.noc := rfl
@[simp] theorem State.setImp_ext (s : State) (x : Imp) : (s.setImp x).ext = s.ext := rfl
@[simp] theorem State.setImp_imp (s : State) (x : Imp) : (s.setImp x).imp = x := rfl
@[simp] theorem State.setImp_lane (s : State) (x : Imp) : (s.setImp x).lane = s.lane := rfl
@[simp] theorem State.setImp_rly (s : State) (x : Imp) : (s.setImp x).rly = s.rly := rfl
@[simp] theorem State.setImp_fmp (s : State) (x : Imp) : (s.setImp x).fmp = s.fmp := rfl
@[simp] theorem State.setImp_pw (s : State) (x : Imp) : (s.setImp x).pw = s.pw := rfl
@[simp] theorem State.setImp_sec (s : State) (x : Imp) : (s.setImp x).sec = s.sec := rfl
@[simp] theorem State.setImp_out (s : State) (x : Imp) : (s.setImp x).out = s.out := rfl
@[simp] theorem State.setImp_svc (s : State) (x : Imp) : (s.setImp x).svc = s.svc := rfl
@[simp] theorem State.setImp_dbg (s : State) (x : Imp) : (s.setImp x).dbg = s.dbg := rfl
@[simp] theorem State.setImp_pending (s : State) (x : Imp) : (s.setImp x).pending = s.pending := rfl
@[simp] theorem State.setImp_freeCtr (s : State) (x : Imp) : (s.setImp x).freeCtr = s.freeCtr := rfl
@[simp] theorem State.setPac_regs (s : State) (x : Pacer) : (s.setPac x).regs = s.regs := rfl
@[simp] theorem State.setPac_mem (s : State) (x : Pacer) : (s.setPac x).mem = s.mem := rfl
@[simp] theorem State.setPac_latches (s : State) (x : Pacer) : (s.setPac x).latches = s.latches := rfl
@[simp] theorem State.setPac_staged (s : State) (x : Pacer) : (s.setPac x).staged = s.staged := rfl
@[simp] theorem State.setPac_ans (s : State) (x : Pacer) : (s.setPac x).ans = s.ans := rfl
@[simp] theorem State.setPac_tim (s : State) (x : Pacer) : (s.setPac x).tim = s.tim := rfl
@[simp] theorem State.setPac_ho (s : State) (x : Pacer) : (s.setPac x).ho = s.ho := rfl
@[simp] theorem State.setPac_cal (s : State) (x : Pacer) : (s.setPac x).cal = s.cal := rfl
@[simp] theorem State.setPac_lpp (s : State) (x : Pacer) : (s.setPac x).lpp = s.lpp := rfl
@[simp] theorem State.setPac_pac (s : State) (x : Pacer) : (s.setPac x).pac = x := rfl
@[simp] theorem State.setPac_can (s : State) (x : Pacer) : (s.setPac x).can = s.can := rfl
@[simp] theorem State.setPac_fab (s : State) (x : Pacer) : (s.setPac x).fab = s.fab := rfl
@[simp] theorem State.setPac_ldr (s : State) (x : Pacer) : (s.setPac x).ldr = s.ldr := rfl
@[simp] theorem State.setPac_far (s : State) (x : Pacer) : (s.setPac x).far = s.far := rfl
@[simp] theorem State.setPac_noc (s : State) (x : Pacer) : (s.setPac x).noc = s.noc := rfl
@[simp] theorem State.setPac_ext (s : State) (x : Pacer) : (s.setPac x).ext = s.ext := rfl
@[simp] theorem State.setPac_imp (s : State) (x : Pacer) : (s.setPac x).imp = s.imp := rfl
@[simp] theorem State.setPac_lane (s : State) (x : Pacer) : (s.setPac x).lane = s.lane := rfl
@[simp] theorem State.setPac_rly (s : State) (x : Pacer) : (s.setPac x).rly = s.rly := rfl
@[simp] theorem State.setPac_fmp (s : State) (x : Pacer) : (s.setPac x).fmp = s.fmp := rfl
@[simp] theorem State.setPac_pw (s : State) (x : Pacer) : (s.setPac x).pw = s.pw := rfl
@[simp] theorem State.setPac_sec (s : State) (x : Pacer) : (s.setPac x).sec = s.sec := rfl
@[simp] theorem State.setPac_out (s : State) (x : Pacer) : (s.setPac x).out = s.out := rfl
@[simp] theorem State.setPac_svc (s : State) (x : Pacer) : (s.setPac x).svc = s.svc := rfl
@[simp] theorem State.setPac_dbg (s : State) (x : Pacer) : (s.setPac x).dbg = s.dbg := rfl
@[simp] theorem State.setPac_pending (s : State) (x : Pacer) : (s.setPac x).pending = s.pending := rfl
@[simp] theorem State.setPac_freeCtr (s : State) (x : Pacer) : (s.setPac x).freeCtr = s.freeCtr := rfl
@[simp] theorem State.setRly_regs (s : State) (x : Relay) : (s.setRly x).regs = s.regs := rfl
@[simp] theorem State.setRly_mem (s : State) (x : Relay) : (s.setRly x).mem = s.mem := rfl
@[simp] theorem State.setRly_latches (s : State) (x : Relay) : (s.setRly x).latches = s.latches := rfl
@[simp] theorem State.setRly_staged (s : State) (x : Relay) : (s.setRly x).staged = s.staged := rfl
@[simp] theorem State.setRly_ans (s : State) (x : Relay) : (s.setRly x).ans = s.ans := rfl
@[simp] theorem State.setRly_tim (s : State) (x : Relay) : (s.setRly x).tim = s.tim := rfl
@[simp] theorem State.setRly_ho (s : State) (x : Relay) : (s.setRly x).ho = s.ho := rfl
@[simp] theorem State.setRly_cal (s : State) (x : Relay) : (s.setRly x).cal = s.cal := rfl
@[simp] theorem State.setRly_lpp (s : State) (x : Relay) : (s.setRly x).lpp = s.lpp := rfl
@[simp] theorem State.setRly_pac (s : State) (x : Relay) : (s.setRly x).pac = s.pac := rfl
@[simp] theorem State.setRly_can (s : State) (x : Relay) : (s.setRly x).can = s.can := rfl
@[simp] theorem State.setRly_fab (s : State) (x : Relay) : (s.setRly x).fab = s.fab := rfl
@[simp] theorem State.setRly_ldr (s : State) (x : Relay) : (s.setRly x).ldr = s.ldr := rfl
@[simp] theorem State.setRly_far (s : State) (x : Relay) : (s.setRly x).far = s.far := rfl
@[simp] theorem State.setRly_noc (s : State) (x : Relay) : (s.setRly x).noc = s.noc := rfl
@[simp] theorem State.setRly_ext (s : State) (x : Relay) : (s.setRly x).ext = s.ext := rfl
@[simp] theorem State.setRly_imp (s : State) (x : Relay) : (s.setRly x).imp = s.imp := rfl
@[simp] theorem State.setRly_lane (s : State) (x : Relay) : (s.setRly x).lane = s.lane := rfl
@[simp] theorem State.setRly_rly (s : State) (x : Relay) : (s.setRly x).rly = x := rfl
@[simp] theorem State.setRly_fmp (s : State) (x : Relay) : (s.setRly x).fmp = s.fmp := rfl
@[simp] theorem State.setRly_pw (s : State) (x : Relay) : (s.setRly x).pw = s.pw := rfl
@[simp] theorem State.setRly_sec (s : State) (x : Relay) : (s.setRly x).sec = s.sec := rfl
@[simp] theorem State.setRly_out (s : State) (x : Relay) : (s.setRly x).out = s.out := rfl
@[simp] theorem State.setRly_svc (s : State) (x : Relay) : (s.setRly x).svc = s.svc := rfl
@[simp] theorem State.setRly_dbg (s : State) (x : Relay) : (s.setRly x).dbg = s.dbg := rfl
@[simp] theorem State.setRly_pending (s : State) (x : Relay) : (s.setRly x).pending = s.pending := rfl
@[simp] theorem State.setRly_freeCtr (s : State) (x : Relay) : (s.setRly x).freeCtr = s.freeCtr := rfl
@[simp] theorem State.setPw_regs (s : State) (x : Power) : (s.setPw x).regs = s.regs := rfl
@[simp] theorem State.setPw_mem (s : State) (x : Power) : (s.setPw x).mem = s.mem := rfl
@[simp] theorem State.setPw_latches (s : State) (x : Power) : (s.setPw x).latches = s.latches := rfl
@[simp] theorem State.setPw_staged (s : State) (x : Power) : (s.setPw x).staged = s.staged := rfl
@[simp] theorem State.setPw_ans (s : State) (x : Power) : (s.setPw x).ans = s.ans := rfl
@[simp] theorem State.setPw_tim (s : State) (x : Power) : (s.setPw x).tim = s.tim := rfl
@[simp] theorem State.setPw_ho (s : State) (x : Power) : (s.setPw x).ho = s.ho := rfl
@[simp] theorem State.setPw_cal (s : State) (x : Power) : (s.setPw x).cal = s.cal := rfl
@[simp] theorem State.setPw_lpp (s : State) (x : Power) : (s.setPw x).lpp = s.lpp := rfl
@[simp] theorem State.setPw_pac (s : State) (x : Power) : (s.setPw x).pac = s.pac := rfl
@[simp] theorem State.setPw_can (s : State) (x : Power) : (s.setPw x).can = s.can := rfl
@[simp] theorem State.setPw_fab (s : State) (x : Power) : (s.setPw x).fab = s.fab := rfl
@[simp] theorem State.setPw_ldr (s : State) (x : Power) : (s.setPw x).ldr = s.ldr := rfl
@[simp] theorem State.setPw_far (s : State) (x : Power) : (s.setPw x).far = s.far := rfl
@[simp] theorem State.setPw_noc (s : State) (x : Power) : (s.setPw x).noc = s.noc := rfl
@[simp] theorem State.setPw_ext (s : State) (x : Power) : (s.setPw x).ext = s.ext := rfl
@[simp] theorem State.setPw_imp (s : State) (x : Power) : (s.setPw x).imp = s.imp := rfl
@[simp] theorem State.setPw_lane (s : State) (x : Power) : (s.setPw x).lane = s.lane := rfl
@[simp] theorem State.setPw_rly (s : State) (x : Power) : (s.setPw x).rly = s.rly := rfl
@[simp] theorem State.setPw_fmp (s : State) (x : Power) : (s.setPw x).fmp = s.fmp := rfl
@[simp] theorem State.setPw_pw (s : State) (x : Power) : (s.setPw x).pw = x := rfl
@[simp] theorem State.setPw_sec (s : State) (x : Power) : (s.setPw x).sec = s.sec := rfl
@[simp] theorem State.setPw_out (s : State) (x : Power) : (s.setPw x).out = s.out := rfl
@[simp] theorem State.setPw_svc (s : State) (x : Power) : (s.setPw x).svc = s.svc := rfl
@[simp] theorem State.setPw_dbg (s : State) (x : Power) : (s.setPw x).dbg = s.dbg := rfl
@[simp] theorem State.setPw_pending (s : State) (x : Power) : (s.setPw x).pending = s.pending := rfl
@[simp] theorem State.setPw_freeCtr (s : State) (x : Power) : (s.setPw x).freeCtr = s.freeCtr := rfl
@[simp] theorem State.setSec_regs (s : State) (x : Security) : (s.setSec x).regs = s.regs := rfl
@[simp] theorem State.setSec_mem (s : State) (x : Security) : (s.setSec x).mem = s.mem := rfl
@[simp] theorem State.setSec_latches (s : State) (x : Security) : (s.setSec x).latches = s.latches := rfl
@[simp] theorem State.setSec_staged (s : State) (x : Security) : (s.setSec x).staged = s.staged := rfl
@[simp] theorem State.setSec_ans (s : State) (x : Security) : (s.setSec x).ans = s.ans := rfl
@[simp] theorem State.setSec_tim (s : State) (x : Security) : (s.setSec x).tim = s.tim := rfl
@[simp] theorem State.setSec_ho (s : State) (x : Security) : (s.setSec x).ho = s.ho := rfl
@[simp] theorem State.setSec_cal (s : State) (x : Security) : (s.setSec x).cal = s.cal := rfl
@[simp] theorem State.setSec_lpp (s : State) (x : Security) : (s.setSec x).lpp = s.lpp := rfl
@[simp] theorem State.setSec_pac (s : State) (x : Security) : (s.setSec x).pac = s.pac := rfl
@[simp] theorem State.setSec_can (s : State) (x : Security) : (s.setSec x).can = s.can := rfl
@[simp] theorem State.setSec_fab (s : State) (x : Security) : (s.setSec x).fab = s.fab := rfl
@[simp] theorem State.setSec_ldr (s : State) (x : Security) : (s.setSec x).ldr = s.ldr := rfl
@[simp] theorem State.setSec_far (s : State) (x : Security) : (s.setSec x).far = s.far := rfl
@[simp] theorem State.setSec_noc (s : State) (x : Security) : (s.setSec x).noc = s.noc := rfl
@[simp] theorem State.setSec_ext (s : State) (x : Security) : (s.setSec x).ext = s.ext := rfl
@[simp] theorem State.setSec_imp (s : State) (x : Security) : (s.setSec x).imp = s.imp := rfl
@[simp] theorem State.setSec_lane (s : State) (x : Security) : (s.setSec x).lane = s.lane := rfl
@[simp] theorem State.setSec_rly (s : State) (x : Security) : (s.setSec x).rly = s.rly := rfl
@[simp] theorem State.setSec_fmp (s : State) (x : Security) : (s.setSec x).fmp = s.fmp := rfl
@[simp] theorem State.setSec_pw (s : State) (x : Security) : (s.setSec x).pw = s.pw := rfl
@[simp] theorem State.setSec_sec (s : State) (x : Security) : (s.setSec x).sec = x := rfl
@[simp] theorem State.setSec_out (s : State) (x : Security) : (s.setSec x).out = s.out := rfl
@[simp] theorem State.setSec_svc (s : State) (x : Security) : (s.setSec x).svc = s.svc := rfl
@[simp] theorem State.setSec_dbg (s : State) (x : Security) : (s.setSec x).dbg = s.dbg := rfl
@[simp] theorem State.setSec_pending (s : State) (x : Security) : (s.setSec x).pending = s.pending := rfl
@[simp] theorem State.setSec_freeCtr (s : State) (x : Security) : (s.setSec x).freeCtr = s.freeCtr := rfl
@[simp] theorem State.setTim_regs (s : State) (x : Timing) : (s.setTim x).regs = s.regs := rfl
@[simp] theorem State.setTim_mem (s : State) (x : Timing) : (s.setTim x).mem = s.mem := rfl
@[simp] theorem State.setTim_latches (s : State) (x : Timing) : (s.setTim x).latches = s.latches := rfl
@[simp] theorem State.setTim_staged (s : State) (x : Timing) : (s.setTim x).staged = s.staged := rfl
@[simp] theorem State.setTim_ans (s : State) (x : Timing) : (s.setTim x).ans = s.ans := rfl
@[simp] theorem State.setTim_tim (s : State) (x : Timing) : (s.setTim x).tim = x := rfl
@[simp] theorem State.setTim_ho (s : State) (x : Timing) : (s.setTim x).ho = s.ho := rfl
@[simp] theorem State.setTim_cal (s : State) (x : Timing) : (s.setTim x).cal = s.cal := rfl
@[simp] theorem State.setTim_lpp (s : State) (x : Timing) : (s.setTim x).lpp = s.lpp := rfl
@[simp] theorem State.setTim_pac (s : State) (x : Timing) : (s.setTim x).pac = s.pac := rfl
@[simp] theorem State.setTim_can (s : State) (x : Timing) : (s.setTim x).can = s.can := rfl
@[simp] theorem State.setTim_fab (s : State) (x : Timing) : (s.setTim x).fab = s.fab := rfl
@[simp] theorem State.setTim_ldr (s : State) (x : Timing) : (s.setTim x).ldr = s.ldr := rfl
@[simp] theorem State.setTim_far (s : State) (x : Timing) : (s.setTim x).far = s.far := rfl
@[simp] theorem State.setTim_noc (s : State) (x : Timing) : (s.setTim x).noc = s.noc := rfl
@[simp] theorem State.setTim_ext (s : State) (x : Timing) : (s.setTim x).ext = s.ext := rfl
@[simp] theorem State.setTim_imp (s : State) (x : Timing) : (s.setTim x).imp = s.imp := rfl
@[simp] theorem State.setTim_lane (s : State) (x : Timing) : (s.setTim x).lane = s.lane := rfl
@[simp] theorem State.setTim_rly (s : State) (x : Timing) : (s.setTim x).rly = s.rly := rfl
@[simp] theorem State.setTim_fmp (s : State) (x : Timing) : (s.setTim x).fmp = s.fmp := rfl
@[simp] theorem State.setTim_pw (s : State) (x : Timing) : (s.setTim x).pw = s.pw := rfl
@[simp] theorem State.setTim_sec (s : State) (x : Timing) : (s.setTim x).sec = s.sec := rfl
@[simp] theorem State.setTim_out (s : State) (x : Timing) : (s.setTim x).out = s.out := rfl
@[simp] theorem State.setTim_svc (s : State) (x : Timing) : (s.setTim x).svc = s.svc := rfl
@[simp] theorem State.setTim_dbg (s : State) (x : Timing) : (s.setTim x).dbg = s.dbg := rfl
@[simp] theorem State.setTim_pending (s : State) (x : Timing) : (s.setTim x).pending = s.pending := rfl
@[simp] theorem State.setTim_freeCtr (s : State) (x : Timing) : (s.setTim x).freeCtr = s.freeCtr := rfl
@[simp] theorem State.withRegs_regs (s : State) (r : List (Nat × Word)) : (s.withRegs r).regs = r := rfl
@[simp] theorem State.withRegs_mem (s : State) (r : List (Nat × Word)) : (s.withRegs r).mem = s.mem := rfl
@[simp] theorem State.withRegs_latches (s : State) (r : List (Nat × Word)) : (s.withRegs r).latches = s.latches := rfl
@[simp] theorem State.withRegs_staged (s : State) (r : List (Nat × Word)) : (s.withRegs r).staged = s.staged := rfl
@[simp] theorem State.withRegs_ans (s : State) (r : List (Nat × Word)) : (s.withRegs r).ans = s.ans := rfl
@[simp] theorem State.withRegs_tim (s : State) (r : List (Nat × Word)) : (s.withRegs r).tim = s.tim := rfl
@[simp] theorem State.withRegs_ho (s : State) (r : List (Nat × Word)) : (s.withRegs r).ho = s.ho := rfl
@[simp] theorem State.withRegs_cal (s : State) (r : List (Nat × Word)) : (s.withRegs r).cal = s.cal := rfl
@[simp] theorem State.withRegs_lpp (s : State) (r : List (Nat × Word)) : (s.withRegs r).lpp = s.lpp := rfl
@[simp] theorem State.withRegs_pac (s : State) (r : List (Nat × Word)) : (s.withRegs r).pac = s.pac := rfl
@[simp] theorem State.withRegs_can (s : State) (r : List (Nat × Word)) : (s.withRegs r).can = s.can := rfl
@[simp] theorem State.withRegs_fab (s : State) (r : List (Nat × Word)) : (s.withRegs r).fab = s.fab := rfl
@[simp] theorem State.withRegs_ldr (s : State) (r : List (Nat × Word)) : (s.withRegs r).ldr = s.ldr := rfl
@[simp] theorem State.withRegs_far (s : State) (r : List (Nat × Word)) : (s.withRegs r).far = s.far := rfl
@[simp] theorem State.withRegs_noc (s : State) (r : List (Nat × Word)) : (s.withRegs r).noc = s.noc := rfl
@[simp] theorem State.withRegs_ext (s : State) (r : List (Nat × Word)) : (s.withRegs r).ext = s.ext := rfl
@[simp] theorem State.withRegs_imp (s : State) (r : List (Nat × Word)) : (s.withRegs r).imp = s.imp := rfl
@[simp] theorem State.withRegs_lane (s : State) (r : List (Nat × Word)) : (s.withRegs r).lane = s.lane := rfl
@[simp] theorem State.withRegs_rly (s : State) (r : List (Nat × Word)) : (s.withRegs r).rly = s.rly := rfl
@[simp] theorem State.withRegs_fmp (s : State) (r : List (Nat × Word)) : (s.withRegs r).fmp = s.fmp := rfl
@[simp] theorem State.withRegs_pw (s : State) (r : List (Nat × Word)) : (s.withRegs r).pw = s.pw := rfl
@[simp] theorem State.withRegs_sec (s : State) (r : List (Nat × Word)) : (s.withRegs r).sec = s.sec := rfl
@[simp] theorem State.withRegs_out (s : State) (r : List (Nat × Word)) : (s.withRegs r).out = s.out := rfl
@[simp] theorem State.withRegs_svc (s : State) (r : List (Nat × Word)) : (s.withRegs r).svc = s.svc := rfl
@[simp] theorem State.withRegs_dbg (s : State) (r : List (Nat × Word)) : (s.withRegs r).dbg = s.dbg := rfl
@[simp] theorem State.withRegs_pending (s : State) (r : List (Nat × Word)) : (s.withRegs r).pending = s.pending := rfl
@[simp] theorem State.withRegs_freeCtr (s : State) (r : List (Nat × Word)) : (s.withRegs r).freeCtr = s.freeCtr := rfl
@[simp] theorem State.withMem_regs (s : State) (r : List Host.Cell) : (s.withMem r).regs = s.regs := rfl
@[simp] theorem State.withMem_mem (s : State) (r : List Host.Cell) : (s.withMem r).mem = r := rfl
@[simp] theorem State.withMem_latches (s : State) (r : List Host.Cell) : (s.withMem r).latches = s.latches := rfl
@[simp] theorem State.withMem_staged (s : State) (r : List Host.Cell) : (s.withMem r).staged = s.staged := rfl
@[simp] theorem State.withMem_ans (s : State) (r : List Host.Cell) : (s.withMem r).ans = s.ans := rfl
@[simp] theorem State.withMem_tim (s : State) (r : List Host.Cell) : (s.withMem r).tim = s.tim := rfl
@[simp] theorem State.withMem_ho (s : State) (r : List Host.Cell) : (s.withMem r).ho = s.ho := rfl
@[simp] theorem State.withMem_cal (s : State) (r : List Host.Cell) : (s.withMem r).cal = s.cal := rfl
@[simp] theorem State.withMem_lpp (s : State) (r : List Host.Cell) : (s.withMem r).lpp = s.lpp := rfl
@[simp] theorem State.withMem_pac (s : State) (r : List Host.Cell) : (s.withMem r).pac = s.pac := rfl
@[simp] theorem State.withMem_can (s : State) (r : List Host.Cell) : (s.withMem r).can = s.can := rfl
@[simp] theorem State.withMem_fab (s : State) (r : List Host.Cell) : (s.withMem r).fab = s.fab := rfl
@[simp] theorem State.withMem_ldr (s : State) (r : List Host.Cell) : (s.withMem r).ldr = s.ldr := rfl
@[simp] theorem State.withMem_far (s : State) (r : List Host.Cell) : (s.withMem r).far = s.far := rfl
@[simp] theorem State.withMem_noc (s : State) (r : List Host.Cell) : (s.withMem r).noc = s.noc := rfl
@[simp] theorem State.withMem_ext (s : State) (r : List Host.Cell) : (s.withMem r).ext = s.ext := rfl
@[simp] theorem State.withMem_imp (s : State) (r : List Host.Cell) : (s.withMem r).imp = s.imp := rfl
@[simp] theorem State.withMem_lane (s : State) (r : List Host.Cell) : (s.withMem r).lane = s.lane := rfl
@[simp] theorem State.withMem_rly (s : State) (r : List Host.Cell) : (s.withMem r).rly = s.rly := rfl
@[simp] theorem State.withMem_fmp (s : State) (r : List Host.Cell) : (s.withMem r).fmp = s.fmp := rfl
@[simp] theorem State.withMem_pw (s : State) (r : List Host.Cell) : (s.withMem r).pw = s.pw := rfl
@[simp] theorem State.withMem_sec (s : State) (r : List Host.Cell) : (s.withMem r).sec = s.sec := rfl
@[simp] theorem State.withMem_out (s : State) (r : List Host.Cell) : (s.withMem r).out = s.out := rfl
@[simp] theorem State.withMem_svc (s : State) (r : List Host.Cell) : (s.withMem r).svc = s.svc := rfl
@[simp] theorem State.withMem_dbg (s : State) (r : List Host.Cell) : (s.withMem r).dbg = s.dbg := rfl
@[simp] theorem State.withMem_pending (s : State) (r : List Host.Cell) : (s.withMem r).pending = s.pending := rfl
@[simp] theorem State.withMem_freeCtr (s : State) (r : List Host.Cell) : (s.withMem r).freeCtr = s.freeCtr := rfl
@[simp] theorem State.setReg_mem (s : State) (a : Nat) (v : Word) : (s.setReg a v).mem = s.mem := s.withRegs_mem _
@[simp] theorem State.setReg_latches (s : State) (a : Nat) (v : Word) : (s.setReg a v).latches = s.latches := s.withRegs_latches _
@[simp] theorem State.setReg_staged (s : State) (a : Nat) (v : Word) : (s.setReg a v).staged = s.staged := s.withRegs_staged _
@[simp] theorem State.setReg_ans (s : State) (a : Nat) (v : Word) : (s.setReg a v).ans = s.ans := s.withRegs_ans _
@[simp] theorem State.setReg_tim (s : State) (a : Nat) (v : Word) : (s.setReg a v).tim = s.tim := s.withRegs_tim _
@[simp] theorem State.setReg_ho (s : State) (a : Nat) (v : Word) : (s.setReg a v).ho = s.ho := s.withRegs_ho _
@[simp] theorem State.setReg_cal (s : State) (a : Nat) (v : Word) : (s.setReg a v).cal = s.cal := s.withRegs_cal _
@[simp] theorem State.setReg_lpp (s : State) (a : Nat) (v : Word) : (s.setReg a v).lpp = s.lpp := s.withRegs_lpp _
@[simp] theorem State.setReg_pac (s : State) (a : Nat) (v : Word) : (s.setReg a v).pac = s.pac := s.withRegs_pac _
@[simp] theorem State.setReg_can (s : State) (a : Nat) (v : Word) : (s.setReg a v).can = s.can := s.withRegs_can _
@[simp] theorem State.setReg_fab (s : State) (a : Nat) (v : Word) : (s.setReg a v).fab = s.fab := s.withRegs_fab _
@[simp] theorem State.setReg_ldr (s : State) (a : Nat) (v : Word) : (s.setReg a v).ldr = s.ldr := s.withRegs_ldr _
@[simp] theorem State.setReg_far (s : State) (a : Nat) (v : Word) : (s.setReg a v).far = s.far := s.withRegs_far _
@[simp] theorem State.setReg_noc (s : State) (a : Nat) (v : Word) : (s.setReg a v).noc = s.noc := s.withRegs_noc _
@[simp] theorem State.setReg_ext (s : State) (a : Nat) (v : Word) : (s.setReg a v).ext = s.ext := s.withRegs_ext _
@[simp] theorem State.setReg_imp (s : State) (a : Nat) (v : Word) : (s.setReg a v).imp = s.imp := s.withRegs_imp _
@[simp] theorem State.setReg_lane (s : State) (a : Nat) (v : Word) : (s.setReg a v).lane = s.lane := s.withRegs_lane _
@[simp] theorem State.setReg_rly (s : State) (a : Nat) (v : Word) : (s.setReg a v).rly = s.rly := s.withRegs_rly _
@[simp] theorem State.setReg_fmp (s : State) (a : Nat) (v : Word) : (s.setReg a v).fmp = s.fmp := s.withRegs_fmp _
@[simp] theorem State.setReg_pw (s : State) (a : Nat) (v : Word) : (s.setReg a v).pw = s.pw := s.withRegs_pw _
@[simp] theorem State.setReg_sec (s : State) (a : Nat) (v : Word) : (s.setReg a v).sec = s.sec := s.withRegs_sec _
@[simp] theorem State.setReg_out (s : State) (a : Nat) (v : Word) : (s.setReg a v).out = s.out := s.withRegs_out _
@[simp] theorem State.setReg_svc (s : State) (a : Nat) (v : Word) : (s.setReg a v).svc = s.svc := s.withRegs_svc _
@[simp] theorem State.setReg_dbg (s : State) (a : Nat) (v : Word) : (s.setReg a v).dbg = s.dbg := s.withRegs_dbg _
@[simp] theorem State.setReg_pending (s : State) (a : Nat) (v : Word) : (s.setReg a v).pending = s.pending := s.withRegs_pending _
@[simp] theorem State.setReg_freeCtr (s : State) (a : Nat) (v : Word) : (s.setReg a v).freeCtr = s.freeCtr := s.withRegs_freeCtr _
@[simp] theorem State.setRegN_mem (s : State) (a v : Nat) : (s.setRegN a v).mem = s.mem := s.setReg_mem a _
@[simp] theorem State.setRegN_latches (s : State) (a v : Nat) : (s.setRegN a v).latches = s.latches := s.setReg_latches a _
@[simp] theorem State.setRegN_staged (s : State) (a v : Nat) : (s.setRegN a v).staged = s.staged := s.setReg_staged a _
@[simp] theorem State.setRegN_ans (s : State) (a v : Nat) : (s.setRegN a v).ans = s.ans := s.setReg_ans a _
@[simp] theorem State.setRegN_tim (s : State) (a v : Nat) : (s.setRegN a v).tim = s.tim := s.setReg_tim a _
@[simp] theorem State.setRegN_ho (s : State) (a v : Nat) : (s.setRegN a v).ho = s.ho := s.setReg_ho a _
@[simp] theorem State.setRegN_cal (s : State) (a v : Nat) : (s.setRegN a v).cal = s.cal := s.setReg_cal a _
@[simp] theorem State.setRegN_lpp (s : State) (a v : Nat) : (s.setRegN a v).lpp = s.lpp := s.setReg_lpp a _
@[simp] theorem State.setRegN_pac (s : State) (a v : Nat) : (s.setRegN a v).pac = s.pac := s.setReg_pac a _
@[simp] theorem State.setRegN_can (s : State) (a v : Nat) : (s.setRegN a v).can = s.can := s.setReg_can a _
@[simp] theorem State.setRegN_fab (s : State) (a v : Nat) : (s.setRegN a v).fab = s.fab := s.setReg_fab a _
@[simp] theorem State.setRegN_ldr (s : State) (a v : Nat) : (s.setRegN a v).ldr = s.ldr := s.setReg_ldr a _
@[simp] theorem State.setRegN_far (s : State) (a v : Nat) : (s.setRegN a v).far = s.far := s.setReg_far a _
@[simp] theorem State.setRegN_noc (s : State) (a v : Nat) : (s.setRegN a v).noc = s.noc := s.setReg_noc a _
@[simp] theorem State.setRegN_ext (s : State) (a v : Nat) : (s.setRegN a v).ext = s.ext := s.setReg_ext a _
@[simp] theorem State.setRegN_imp (s : State) (a v : Nat) : (s.setRegN a v).imp = s.imp := s.setReg_imp a _
@[simp] theorem State.setRegN_lane (s : State) (a v : Nat) : (s.setRegN a v).lane = s.lane := s.setReg_lane a _
@[simp] theorem State.setRegN_rly (s : State) (a v : Nat) : (s.setRegN a v).rly = s.rly := s.setReg_rly a _
@[simp] theorem State.setRegN_fmp (s : State) (a v : Nat) : (s.setRegN a v).fmp = s.fmp := s.setReg_fmp a _
@[simp] theorem State.setRegN_pw (s : State) (a v : Nat) : (s.setRegN a v).pw = s.pw := s.setReg_pw a _
@[simp] theorem State.setRegN_sec (s : State) (a v : Nat) : (s.setRegN a v).sec = s.sec := s.setReg_sec a _
@[simp] theorem State.setRegN_out (s : State) (a v : Nat) : (s.setRegN a v).out = s.out := s.setReg_out a _
@[simp] theorem State.setRegN_svc (s : State) (a v : Nat) : (s.setRegN a v).svc = s.svc := s.setReg_svc a _
@[simp] theorem State.setRegN_dbg (s : State) (a v : Nat) : (s.setRegN a v).dbg = s.dbg := s.setReg_dbg a _
@[simp] theorem State.setRegN_pending (s : State) (a v : Nat) : (s.setRegN a v).pending = s.pending := s.setReg_pending a _
@[simp] theorem State.setRegN_freeCtr (s : State) (a v : Nat) : (s.setRegN a v).freeCtr = s.freeCtr := s.setReg_freeCtr a _
@[simp] theorem State.setFld_mem (s : State) (a hi lo v : Nat) : (s.setFld a hi lo v).mem = s.mem := s.setRegN_mem a _
@[simp] theorem State.setFld_latches (s : State) (a hi lo v : Nat) : (s.setFld a hi lo v).latches = s.latches := s.setRegN_latches a _
@[simp] theorem State.setFld_staged (s : State) (a hi lo v : Nat) : (s.setFld a hi lo v).staged = s.staged := s.setRegN_staged a _
@[simp] theorem State.setFld_ans (s : State) (a hi lo v : Nat) : (s.setFld a hi lo v).ans = s.ans := s.setRegN_ans a _
@[simp] theorem State.setFld_tim (s : State) (a hi lo v : Nat) : (s.setFld a hi lo v).tim = s.tim := s.setRegN_tim a _
@[simp] theorem State.setFld_ho (s : State) (a hi lo v : Nat) : (s.setFld a hi lo v).ho = s.ho := s.setRegN_ho a _
@[simp] theorem State.setFld_cal (s : State) (a hi lo v : Nat) : (s.setFld a hi lo v).cal = s.cal := s.setRegN_cal a _
@[simp] theorem State.setFld_lpp (s : State) (a hi lo v : Nat) : (s.setFld a hi lo v).lpp = s.lpp := s.setRegN_lpp a _
@[simp] theorem State.setFld_pac (s : State) (a hi lo v : Nat) : (s.setFld a hi lo v).pac = s.pac := s.setRegN_pac a _
@[simp] theorem State.setFld_can (s : State) (a hi lo v : Nat) : (s.setFld a hi lo v).can = s.can := s.setRegN_can a _
@[simp] theorem State.setFld_fab (s : State) (a hi lo v : Nat) : (s.setFld a hi lo v).fab = s.fab := s.setRegN_fab a _
@[simp] theorem State.setFld_ldr (s : State) (a hi lo v : Nat) : (s.setFld a hi lo v).ldr = s.ldr := s.setRegN_ldr a _
@[simp] theorem State.setFld_far (s : State) (a hi lo v : Nat) : (s.setFld a hi lo v).far = s.far := s.setRegN_far a _
@[simp] theorem State.setFld_noc (s : State) (a hi lo v : Nat) : (s.setFld a hi lo v).noc = s.noc := s.setRegN_noc a _
@[simp] theorem State.setFld_ext (s : State) (a hi lo v : Nat) : (s.setFld a hi lo v).ext = s.ext := s.setRegN_ext a _
@[simp] theorem State.setFld_imp (s : State) (a hi lo v : Nat) : (s.setFld a hi lo v).imp = s.imp := s.setRegN_imp a _
@[simp] theorem State.setFld_lane (s : State) (a hi lo v : Nat) : (s.setFld a hi lo v).lane = s.lane := s.setRegN_lane a _
@[simp] theorem State.setFld_rly (s : State) (a hi lo v : Nat) : (s.setFld a hi lo v).rly = s.rly := s.setRegN_rly a _
@[simp] theorem State.setFld_fmp (s : State) (a hi lo v : Nat) : (s.setFld a hi lo v).fmp = s.fmp := s.setRegN_fmp a _
@[simp] theorem State.setFld_pw (s : State) (a hi lo v : Nat) : (s.setFld a hi lo v).pw = s.pw := s.setRegN_pw a _
@[simp] theorem State.setFld_sec (s : State) (a hi lo v : Nat) : (s.setFld a hi lo v).sec = s.sec := s.setRegN_sec a _
@[simp] theorem State.setFld_out (s : State) (a hi lo v : Nat) : (s.setFld a hi lo v).out = s.out := s.setRegN_out a _
@[simp] theorem State.setFld_svc (s : State) (a hi lo v : Nat) : (s.setFld a hi lo v).svc = s.svc := s.setRegN_svc a _
@[simp] theorem State.setFld_dbg (s : State) (a hi lo v : Nat) : (s.setFld a hi lo v).dbg = s.dbg := s.setRegN_dbg a _
@[simp] theorem State.setFld_pending (s : State) (a hi lo v : Nat) : (s.setFld a hi lo v).pending = s.pending := s.setRegN_pending a _
@[simp] theorem State.setFld_freeCtr (s : State) (a hi lo v : Nat) : (s.setFld a hi lo v).freeCtr = s.freeCtr := s.setRegN_freeCtr a _
@[simp] theorem State.setFlag_mem (s : State) (a n : Nat) (b : Bool) : (s.setFlag a n b).mem = s.mem := s.setFld_mem a n n _
@[simp] theorem State.setFlag_latches (s : State) (a n : Nat) (b : Bool) : (s.setFlag a n b).latches = s.latches := s.setFld_latches a n n _
@[simp] theorem State.setFlag_staged (s : State) (a n : Nat) (b : Bool) : (s.setFlag a n b).staged = s.staged := s.setFld_staged a n n _
@[simp] theorem State.setFlag_ans (s : State) (a n : Nat) (b : Bool) : (s.setFlag a n b).ans = s.ans := s.setFld_ans a n n _
@[simp] theorem State.setFlag_tim (s : State) (a n : Nat) (b : Bool) : (s.setFlag a n b).tim = s.tim := s.setFld_tim a n n _
@[simp] theorem State.setFlag_ho (s : State) (a n : Nat) (b : Bool) : (s.setFlag a n b).ho = s.ho := s.setFld_ho a n n _
@[simp] theorem State.setFlag_cal (s : State) (a n : Nat) (b : Bool) : (s.setFlag a n b).cal = s.cal := s.setFld_cal a n n _
@[simp] theorem State.setFlag_lpp (s : State) (a n : Nat) (b : Bool) : (s.setFlag a n b).lpp = s.lpp := s.setFld_lpp a n n _
@[simp] theorem State.setFlag_pac (s : State) (a n : Nat) (b : Bool) : (s.setFlag a n b).pac = s.pac := s.setFld_pac a n n _
@[simp] theorem State.setFlag_can (s : State) (a n : Nat) (b : Bool) : (s.setFlag a n b).can = s.can := s.setFld_can a n n _
@[simp] theorem State.setFlag_fab (s : State) (a n : Nat) (b : Bool) : (s.setFlag a n b).fab = s.fab := s.setFld_fab a n n _
@[simp] theorem State.setFlag_ldr (s : State) (a n : Nat) (b : Bool) : (s.setFlag a n b).ldr = s.ldr := s.setFld_ldr a n n _
@[simp] theorem State.setFlag_far (s : State) (a n : Nat) (b : Bool) : (s.setFlag a n b).far = s.far := s.setFld_far a n n _
@[simp] theorem State.setFlag_noc (s : State) (a n : Nat) (b : Bool) : (s.setFlag a n b).noc = s.noc := s.setFld_noc a n n _
@[simp] theorem State.setFlag_ext (s : State) (a n : Nat) (b : Bool) : (s.setFlag a n b).ext = s.ext := s.setFld_ext a n n _
@[simp] theorem State.setFlag_imp (s : State) (a n : Nat) (b : Bool) : (s.setFlag a n b).imp = s.imp := s.setFld_imp a n n _
@[simp] theorem State.setFlag_lane (s : State) (a n : Nat) (b : Bool) : (s.setFlag a n b).lane = s.lane := s.setFld_lane a n n _
@[simp] theorem State.setFlag_rly (s : State) (a n : Nat) (b : Bool) : (s.setFlag a n b).rly = s.rly := s.setFld_rly a n n _
@[simp] theorem State.setFlag_fmp (s : State) (a n : Nat) (b : Bool) : (s.setFlag a n b).fmp = s.fmp := s.setFld_fmp a n n _
@[simp] theorem State.setFlag_pw (s : State) (a n : Nat) (b : Bool) : (s.setFlag a n b).pw = s.pw := s.setFld_pw a n n _
@[simp] theorem State.setFlag_sec (s : State) (a n : Nat) (b : Bool) : (s.setFlag a n b).sec = s.sec := s.setFld_sec a n n _
@[simp] theorem State.setFlag_out (s : State) (a n : Nat) (b : Bool) : (s.setFlag a n b).out = s.out := s.setFld_out a n n _
@[simp] theorem State.setFlag_svc (s : State) (a n : Nat) (b : Bool) : (s.setFlag a n b).svc = s.svc := s.setFld_svc a n n _
@[simp] theorem State.setFlag_dbg (s : State) (a n : Nat) (b : Bool) : (s.setFlag a n b).dbg = s.dbg := s.setFld_dbg a n n _
@[simp] theorem State.setFlag_pending (s : State) (a n : Nat) (b : Bool) : (s.setFlag a n b).pending = s.pending := s.setFld_pending a n n _
@[simp] theorem State.setFlag_freeCtr (s : State) (a n : Nat) (b : Bool) : (s.setFlag a n b).freeCtr = s.freeCtr := s.setFld_freeCtr a n n _
@[simp] theorem State.addFld_mem (s : State) (a hi lo n : Nat) : (s.addFld a hi lo n).mem = s.mem := s.setFld_mem a hi lo _
@[simp] theorem State.addFld_latches (s : State) (a hi lo n : Nat) : (s.addFld a hi lo n).latches = s.latches := s.setFld_latches a hi lo _
@[simp] theorem State.addFld_staged (s : State) (a hi lo n : Nat) : (s.addFld a hi lo n).staged = s.staged := s.setFld_staged a hi lo _
@[simp] theorem State.addFld_ans (s : State) (a hi lo n : Nat) : (s.addFld a hi lo n).ans = s.ans := s.setFld_ans a hi lo _
@[simp] theorem State.addFld_tim (s : State) (a hi lo n : Nat) : (s.addFld a hi lo n).tim = s.tim := s.setFld_tim a hi lo _
@[simp] theorem State.addFld_ho (s : State) (a hi lo n : Nat) : (s.addFld a hi lo n).ho = s.ho := s.setFld_ho a hi lo _
@[simp] theorem State.addFld_cal (s : State) (a hi lo n : Nat) : (s.addFld a hi lo n).cal = s.cal := s.setFld_cal a hi lo _
@[simp] theorem State.addFld_lpp (s : State) (a hi lo n : Nat) : (s.addFld a hi lo n).lpp = s.lpp := s.setFld_lpp a hi lo _
@[simp] theorem State.addFld_pac (s : State) (a hi lo n : Nat) : (s.addFld a hi lo n).pac = s.pac := s.setFld_pac a hi lo _
@[simp] theorem State.addFld_can (s : State) (a hi lo n : Nat) : (s.addFld a hi lo n).can = s.can := s.setFld_can a hi lo _
@[simp] theorem State.addFld_fab (s : State) (a hi lo n : Nat) : (s.addFld a hi lo n).fab = s.fab := s.setFld_fab a hi lo _
@[simp] theorem State.addFld_ldr (s : State) (a hi lo n : Nat) : (s.addFld a hi lo n).ldr = s.ldr := s.setFld_ldr a hi lo _
@[simp] theorem State.addFld_far (s : State) (a hi lo n : Nat) : (s.addFld a hi lo n).far = s.far := s.setFld_far a hi lo _
@[simp] theorem State.addFld_noc (s : State) (a hi lo n : Nat) : (s.addFld a hi lo n).noc = s.noc := s.setFld_noc a hi lo _
@[simp] theorem State.addFld_ext (s : State) (a hi lo n : Nat) : (s.addFld a hi lo n).ext = s.ext := s.setFld_ext a hi lo _
@[simp] theorem State.addFld_imp (s : State) (a hi lo n : Nat) : (s.addFld a hi lo n).imp = s.imp := s.setFld_imp a hi lo _
@[simp] theorem State.addFld_lane (s : State) (a hi lo n : Nat) : (s.addFld a hi lo n).lane = s.lane := s.setFld_lane a hi lo _
@[simp] theorem State.addFld_rly (s : State) (a hi lo n : Nat) : (s.addFld a hi lo n).rly = s.rly := s.setFld_rly a hi lo _
@[simp] theorem State.addFld_fmp (s : State) (a hi lo n : Nat) : (s.addFld a hi lo n).fmp = s.fmp := s.setFld_fmp a hi lo _
@[simp] theorem State.addFld_pw (s : State) (a hi lo n : Nat) : (s.addFld a hi lo n).pw = s.pw := s.setFld_pw a hi lo _
@[simp] theorem State.addFld_sec (s : State) (a hi lo n : Nat) : (s.addFld a hi lo n).sec = s.sec := s.setFld_sec a hi lo _
@[simp] theorem State.addFld_out (s : State) (a hi lo n : Nat) : (s.addFld a hi lo n).out = s.out := s.setFld_out a hi lo _
@[simp] theorem State.addFld_svc (s : State) (a hi lo n : Nat) : (s.addFld a hi lo n).svc = s.svc := s.setFld_svc a hi lo _
@[simp] theorem State.addFld_dbg (s : State) (a hi lo n : Nat) : (s.addFld a hi lo n).dbg = s.dbg := s.setFld_dbg a hi lo _
@[simp] theorem State.addFld_pending (s : State) (a hi lo n : Nat) : (s.addFld a hi lo n).pending = s.pending := s.setFld_pending a hi lo _
@[simp] theorem State.addFld_freeCtr (s : State) (a hi lo n : Nat) : (s.addFld a hi lo n).freeCtr = s.freeCtr := s.setFld_freeCtr a hi lo _
@[simp] theorem State.count_mem (s : State) (a : Nat) : (s.count a).mem = s.mem := s.setRegN_mem a _
@[simp] theorem State.count_latches (s : State) (a : Nat) : (s.count a).latches = s.latches := s.setRegN_latches a _
@[simp] theorem State.count_staged (s : State) (a : Nat) : (s.count a).staged = s.staged := s.setRegN_staged a _
@[simp] theorem State.count_ans (s : State) (a : Nat) : (s.count a).ans = s.ans := s.setRegN_ans a _
@[simp] theorem State.count_tim (s : State) (a : Nat) : (s.count a).tim = s.tim := s.setRegN_tim a _
@[simp] theorem State.count_ho (s : State) (a : Nat) : (s.count a).ho = s.ho := s.setRegN_ho a _
@[simp] theorem State.count_cal (s : State) (a : Nat) : (s.count a).cal = s.cal := s.setRegN_cal a _
@[simp] theorem State.count_lpp (s : State) (a : Nat) : (s.count a).lpp = s.lpp := s.setRegN_lpp a _
@[simp] theorem State.count_pac (s : State) (a : Nat) : (s.count a).pac = s.pac := s.setRegN_pac a _
@[simp] theorem State.count_can (s : State) (a : Nat) : (s.count a).can = s.can := s.setRegN_can a _
@[simp] theorem State.count_fab (s : State) (a : Nat) : (s.count a).fab = s.fab := s.setRegN_fab a _
@[simp] theorem State.count_ldr (s : State) (a : Nat) : (s.count a).ldr = s.ldr := s.setRegN_ldr a _
@[simp] theorem State.count_far (s : State) (a : Nat) : (s.count a).far = s.far := s.setRegN_far a _
@[simp] theorem State.count_noc (s : State) (a : Nat) : (s.count a).noc = s.noc := s.setRegN_noc a _
@[simp] theorem State.count_ext (s : State) (a : Nat) : (s.count a).ext = s.ext := s.setRegN_ext a _
@[simp] theorem State.count_imp (s : State) (a : Nat) : (s.count a).imp = s.imp := s.setRegN_imp a _
@[simp] theorem State.count_lane (s : State) (a : Nat) : (s.count a).lane = s.lane := s.setRegN_lane a _
@[simp] theorem State.count_rly (s : State) (a : Nat) : (s.count a).rly = s.rly := s.setRegN_rly a _
@[simp] theorem State.count_fmp (s : State) (a : Nat) : (s.count a).fmp = s.fmp := s.setRegN_fmp a _
@[simp] theorem State.count_pw (s : State) (a : Nat) : (s.count a).pw = s.pw := s.setRegN_pw a _
@[simp] theorem State.count_sec (s : State) (a : Nat) : (s.count a).sec = s.sec := s.setRegN_sec a _
@[simp] theorem State.count_out (s : State) (a : Nat) : (s.count a).out = s.out := s.setRegN_out a _
@[simp] theorem State.count_svc (s : State) (a : Nat) : (s.count a).svc = s.svc := s.setRegN_svc a _
@[simp] theorem State.count_dbg (s : State) (a : Nat) : (s.count a).dbg = s.dbg := s.setRegN_dbg a _
@[simp] theorem State.count_pending (s : State) (a : Nat) : (s.count a).pending = s.pending := s.setRegN_pending a _
@[simp] theorem State.count_freeCtr (s : State) (a : Nat) : (s.count a).freeCtr = s.freeCtr := s.setRegN_freeCtr a _
@[simp] theorem State.countBy_mem (s : State) (a n : Nat) : (s.countBy a n).mem = s.mem := s.setRegN_mem a _
@[simp] theorem State.countBy_latches (s : State) (a n : Nat) : (s.countBy a n).latches = s.latches := s.setRegN_latches a _
@[simp] theorem State.countBy_staged (s : State) (a n : Nat) : (s.countBy a n).staged = s.staged := s.setRegN_staged a _
@[simp] theorem State.countBy_ans (s : State) (a n : Nat) : (s.countBy a n).ans = s.ans := s.setRegN_ans a _
@[simp] theorem State.countBy_tim (s : State) (a n : Nat) : (s.countBy a n).tim = s.tim := s.setRegN_tim a _
@[simp] theorem State.countBy_ho (s : State) (a n : Nat) : (s.countBy a n).ho = s.ho := s.setRegN_ho a _
@[simp] theorem State.countBy_cal (s : State) (a n : Nat) : (s.countBy a n).cal = s.cal := s.setRegN_cal a _
@[simp] theorem State.countBy_lpp (s : State) (a n : Nat) : (s.countBy a n).lpp = s.lpp := s.setRegN_lpp a _
@[simp] theorem State.countBy_pac (s : State) (a n : Nat) : (s.countBy a n).pac = s.pac := s.setRegN_pac a _
@[simp] theorem State.countBy_can (s : State) (a n : Nat) : (s.countBy a n).can = s.can := s.setRegN_can a _
@[simp] theorem State.countBy_fab (s : State) (a n : Nat) : (s.countBy a n).fab = s.fab := s.setRegN_fab a _
@[simp] theorem State.countBy_ldr (s : State) (a n : Nat) : (s.countBy a n).ldr = s.ldr := s.setRegN_ldr a _
@[simp] theorem State.countBy_far (s : State) (a n : Nat) : (s.countBy a n).far = s.far := s.setRegN_far a _
@[simp] theorem State.countBy_noc (s : State) (a n : Nat) : (s.countBy a n).noc = s.noc := s.setRegN_noc a _
@[simp] theorem State.countBy_ext (s : State) (a n : Nat) : (s.countBy a n).ext = s.ext := s.setRegN_ext a _
@[simp] theorem State.countBy_imp (s : State) (a n : Nat) : (s.countBy a n).imp = s.imp := s.setRegN_imp a _
@[simp] theorem State.countBy_lane (s : State) (a n : Nat) : (s.countBy a n).lane = s.lane := s.setRegN_lane a _
@[simp] theorem State.countBy_rly (s : State) (a n : Nat) : (s.countBy a n).rly = s.rly := s.setRegN_rly a _
@[simp] theorem State.countBy_fmp (s : State) (a n : Nat) : (s.countBy a n).fmp = s.fmp := s.setRegN_fmp a _
@[simp] theorem State.countBy_pw (s : State) (a n : Nat) : (s.countBy a n).pw = s.pw := s.setRegN_pw a _
@[simp] theorem State.countBy_sec (s : State) (a n : Nat) : (s.countBy a n).sec = s.sec := s.setRegN_sec a _
@[simp] theorem State.countBy_out (s : State) (a n : Nat) : (s.countBy a n).out = s.out := s.setRegN_out a _
@[simp] theorem State.countBy_svc (s : State) (a n : Nat) : (s.countBy a n).svc = s.svc := s.setRegN_svc a _
@[simp] theorem State.countBy_dbg (s : State) (a n : Nat) : (s.countBy a n).dbg = s.dbg := s.setRegN_dbg a _
@[simp] theorem State.countBy_pending (s : State) (a n : Nat) : (s.countBy a n).pending = s.pending := s.setRegN_pending a _
@[simp] theorem State.countBy_freeCtr (s : State) (a n : Nat) : (s.countBy a n).freeCtr = s.freeCtr := s.setRegN_freeCtr a _
@[simp] theorem State.raise_mem (s : State) (b n : Nat) : (s.raise b n).mem = s.mem := (State.addFld_mem _ _ _ _ _).trans (s.setFlag_mem _ _ _)
@[simp] theorem State.raise_latches (s : State) (b n : Nat) : (s.raise b n).latches = s.latches := (State.addFld_latches _ _ _ _ _).trans (s.setFlag_latches _ _ _)
@[simp] theorem State.raise_staged (s : State) (b n : Nat) : (s.raise b n).staged = s.staged := (State.addFld_staged _ _ _ _ _).trans (s.setFlag_staged _ _ _)
@[simp] theorem State.raise_ans (s : State) (b n : Nat) : (s.raise b n).ans = s.ans := (State.addFld_ans _ _ _ _ _).trans (s.setFlag_ans _ _ _)
@[simp] theorem State.raise_tim (s : State) (b n : Nat) : (s.raise b n).tim = s.tim := (State.addFld_tim _ _ _ _ _).trans (s.setFlag_tim _ _ _)
@[simp] theorem State.raise_ho (s : State) (b n : Nat) : (s.raise b n).ho = s.ho := (State.addFld_ho _ _ _ _ _).trans (s.setFlag_ho _ _ _)
@[simp] theorem State.raise_cal (s : State) (b n : Nat) : (s.raise b n).cal = s.cal := (State.addFld_cal _ _ _ _ _).trans (s.setFlag_cal _ _ _)
@[simp] theorem State.raise_lpp (s : State) (b n : Nat) : (s.raise b n).lpp = s.lpp := (State.addFld_lpp _ _ _ _ _).trans (s.setFlag_lpp _ _ _)
@[simp] theorem State.raise_pac (s : State) (b n : Nat) : (s.raise b n).pac = s.pac := (State.addFld_pac _ _ _ _ _).trans (s.setFlag_pac _ _ _)
@[simp] theorem State.raise_can (s : State) (b n : Nat) : (s.raise b n).can = s.can := (State.addFld_can _ _ _ _ _).trans (s.setFlag_can _ _ _)
@[simp] theorem State.raise_fab (s : State) (b n : Nat) : (s.raise b n).fab = s.fab := (State.addFld_fab _ _ _ _ _).trans (s.setFlag_fab _ _ _)
@[simp] theorem State.raise_ldr (s : State) (b n : Nat) : (s.raise b n).ldr = s.ldr := (State.addFld_ldr _ _ _ _ _).trans (s.setFlag_ldr _ _ _)
@[simp] theorem State.raise_far (s : State) (b n : Nat) : (s.raise b n).far = s.far := (State.addFld_far _ _ _ _ _).trans (s.setFlag_far _ _ _)
@[simp] theorem State.raise_noc (s : State) (b n : Nat) : (s.raise b n).noc = s.noc := (State.addFld_noc _ _ _ _ _).trans (s.setFlag_noc _ _ _)
@[simp] theorem State.raise_ext (s : State) (b n : Nat) : (s.raise b n).ext = s.ext := (State.addFld_ext _ _ _ _ _).trans (s.setFlag_ext _ _ _)
@[simp] theorem State.raise_imp (s : State) (b n : Nat) : (s.raise b n).imp = s.imp := (State.addFld_imp _ _ _ _ _).trans (s.setFlag_imp _ _ _)
@[simp] theorem State.raise_lane (s : State) (b n : Nat) : (s.raise b n).lane = s.lane := (State.addFld_lane _ _ _ _ _).trans (s.setFlag_lane _ _ _)
@[simp] theorem State.raise_rly (s : State) (b n : Nat) : (s.raise b n).rly = s.rly := (State.addFld_rly _ _ _ _ _).trans (s.setFlag_rly _ _ _)
@[simp] theorem State.raise_fmp (s : State) (b n : Nat) : (s.raise b n).fmp = s.fmp := (State.addFld_fmp _ _ _ _ _).trans (s.setFlag_fmp _ _ _)
@[simp] theorem State.raise_pw (s : State) (b n : Nat) : (s.raise b n).pw = s.pw := (State.addFld_pw _ _ _ _ _).trans (s.setFlag_pw _ _ _)
@[simp] theorem State.raise_sec (s : State) (b n : Nat) : (s.raise b n).sec = s.sec := (State.addFld_sec _ _ _ _ _).trans (s.setFlag_sec _ _ _)
@[simp] theorem State.raise_out (s : State) (b n : Nat) : (s.raise b n).out = s.out := (State.addFld_out _ _ _ _ _).trans (s.setFlag_out _ _ _)
@[simp] theorem State.raise_svc (s : State) (b n : Nat) : (s.raise b n).svc = s.svc := (State.addFld_svc _ _ _ _ _).trans (s.setFlag_svc _ _ _)
@[simp] theorem State.raise_dbg (s : State) (b n : Nat) : (s.raise b n).dbg = s.dbg := (State.addFld_dbg _ _ _ _ _).trans (s.setFlag_dbg _ _ _)
@[simp] theorem State.raise_pending (s : State) (b n : Nat) : (s.raise b n).pending = s.pending := (State.addFld_pending _ _ _ _ _).trans (s.setFlag_pending _ _ _)
@[simp] theorem State.raise_freeCtr (s : State) (b n : Nat) : (s.raise b n).freeCtr = s.freeCtr := (State.addFld_freeCtr _ _ _ _ _).trans (s.setFlag_freeCtr _ _ _)
@[simp] theorem State.raiseIf_mem (s : State) (c : Bool) (b n : Nat) : (s.raiseIf c b n).mem = s.mem := by cases c; exacts [rfl, s.raise_mem b n]
@[simp] theorem State.raiseIf_latches (s : State) (c : Bool) (b n : Nat) : (s.raiseIf c b n).latches = s.latches := by cases c; exacts [rfl, s.raise_latches b n]
@[simp] theorem State.raiseIf_staged (s : State) (c : Bool) (b n : Nat) : (s.raiseIf c b n).staged = s.staged := by cases c; exacts [rfl, s.raise_staged b n]
@[simp] theorem State.raiseIf_ans (s : State) (c : Bool) (b n : Nat) : (s.raiseIf c b n).ans = s.ans := by cases c; exacts [rfl, s.raise_ans b n]
@[simp] theorem State.raiseIf_tim (s : State) (c : Bool) (b n : Nat) : (s.raiseIf c b n).tim = s.tim := by cases c; exacts [rfl, s.raise_tim b n]
@[simp] theorem State.raiseIf_ho (s : State) (c : Bool) (b n : Nat) : (s.raiseIf c b n).ho = s.ho := by cases c; exacts [rfl, s.raise_ho b n]
@[simp] theorem State.raiseIf_cal (s : State) (c : Bool) (b n : Nat) : (s.raiseIf c b n).cal = s.cal := by cases c; exacts [rfl, s.raise_cal b n]
@[simp] theorem State.raiseIf_lpp (s : State) (c : Bool) (b n : Nat) : (s.raiseIf c b n).lpp = s.lpp := by cases c; exacts [rfl, s.raise_lpp b n]
@[simp] theorem State.raiseIf_pac (s : State) (c : Bool) (b n : Nat) : (s.raiseIf c b n).pac = s.pac := by cases c; exacts [rfl, s.raise_pac b n]
@[simp] theorem State.raiseIf_can (s : State) (c : Bool) (b n : Nat) : (s.raiseIf c b n).can = s.can := by cases c; exacts [rfl, s.raise_can b n]
@[simp] theorem State.raiseIf_fab (s : State) (c : Bool) (b n : Nat) : (s.raiseIf c b n).fab = s.fab := by cases c; exacts [rfl, s.raise_fab b n]
@[simp] theorem State.raiseIf_ldr (s : State) (c : Bool) (b n : Nat) : (s.raiseIf c b n).ldr = s.ldr := by cases c; exacts [rfl, s.raise_ldr b n]
@[simp] theorem State.raiseIf_far (s : State) (c : Bool) (b n : Nat) : (s.raiseIf c b n).far = s.far := by cases c; exacts [rfl, s.raise_far b n]
@[simp] theorem State.raiseIf_noc (s : State) (c : Bool) (b n : Nat) : (s.raiseIf c b n).noc = s.noc := by cases c; exacts [rfl, s.raise_noc b n]
@[simp] theorem State.raiseIf_ext (s : State) (c : Bool) (b n : Nat) : (s.raiseIf c b n).ext = s.ext := by cases c; exacts [rfl, s.raise_ext b n]
@[simp] theorem State.raiseIf_imp (s : State) (c : Bool) (b n : Nat) : (s.raiseIf c b n).imp = s.imp := by cases c; exacts [rfl, s.raise_imp b n]
@[simp] theorem State.raiseIf_lane (s : State) (c : Bool) (b n : Nat) : (s.raiseIf c b n).lane = s.lane := by cases c; exacts [rfl, s.raise_lane b n]
@[simp] theorem State.raiseIf_rly (s : State) (c : Bool) (b n : Nat) : (s.raiseIf c b n).rly = s.rly := by cases c; exacts [rfl, s.raise_rly b n]
@[simp] theorem State.raiseIf_fmp (s : State) (c : Bool) (b n : Nat) : (s.raiseIf c b n).fmp = s.fmp := by cases c; exacts [rfl, s.raise_fmp b n]
@[simp] theorem State.raiseIf_pw (s : State) (c : Bool) (b n : Nat) : (s.raiseIf c b n).pw = s.pw := by cases c; exacts [rfl, s.raise_pw b n]
@[simp] theorem State.raiseIf_sec (s : State) (c : Bool) (b n : Nat) : (s.raiseIf c b n).sec = s.sec := by cases c; exacts [rfl, s.raise_sec b n]
@[simp] theorem State.raiseIf_out (s : State) (c : Bool) (b n : Nat) : (s.raiseIf c b n).out = s.out := by cases c; exacts [rfl, s.raise_out b n]
@[simp] theorem State.raiseIf_svc (s : State) (c : Bool) (b n : Nat) : (s.raiseIf c b n).svc = s.svc := by cases c; exacts [rfl, s.raise_svc b n]
@[simp] theorem State.raiseIf_dbg (s : State) (c : Bool) (b n : Nat) : (s.raiseIf c b n).dbg = s.dbg := by cases c; exacts [rfl, s.raise_dbg b n]
@[simp] theorem State.raiseIf_pending (s : State) (c : Bool) (b n : Nat) : (s.raiseIf c b n).pending = s.pending := by cases c; exacts [rfl, s.raise_pending b n]
@[simp] theorem State.raiseIf_freeCtr (s : State) (c : Bool) (b n : Nat) : (s.raiseIf c b n).freeCtr = s.freeCtr := by cases c; exacts [rfl, s.raise_freeCtr b n]
@[simp] theorem State.took_regs (s : State)  : s.took.regs = s.regs := rfl
@[simp] theorem State.took_mem (s : State)  : s.took.mem = s.mem := rfl
@[simp] theorem State.took_latches (s : State)  : s.took.latches = s.latches := rfl
@[simp] theorem State.took_staged (s : State)  : s.took.staged = s.staged := rfl
@[simp] theorem State.took_ans (s : State)  : s.took.ans = s.ans := rfl
@[simp] theorem State.took_tim (s : State)  : s.took.tim = s.tim := rfl
@[simp] theorem State.took_ho (s : State)  : s.took.ho = s.ho := rfl
@[simp] theorem State.took_cal (s : State)  : s.took.cal = s.cal := rfl
@[simp] theorem State.took_lpp (s : State)  : s.took.lpp = s.lpp := rfl
@[simp] theorem State.took_pac (s : State)  : s.took.pac = s.pac := rfl
@[simp] theorem State.took_can (s : State)  : s.took.can = s.can := rfl
@[simp] theorem State.took_fab (s : State)  : s.took.fab = s.fab := rfl
@[simp] theorem State.took_ldr (s : State)  : s.took.ldr = s.ldr := rfl
@[simp] theorem State.took_far (s : State)  : s.took.far = s.far := rfl
@[simp] theorem State.took_noc (s : State)  : s.took.noc = s.noc := rfl
@[simp] theorem State.took_ext (s : State)  : s.took.ext = s.ext := rfl
@[simp] theorem State.took_imp (s : State)  : s.took.imp = s.imp := rfl
@[simp] theorem State.took_lane (s : State)  : s.took.lane = s.lane := rfl
@[simp] theorem State.took_rly (s : State)  : s.took.rly = s.rly := rfl
@[simp] theorem State.took_fmp (s : State)  : s.took.fmp = s.fmp := rfl
@[simp] theorem State.took_pw (s : State)  : s.took.pw = s.pw := rfl
@[simp] theorem State.took_sec (s : State)  : s.took.sec = s.sec := rfl
@[simp] theorem State.took_out (s : State)  : s.took.out = s.out := rfl
@[simp] theorem State.took_svc (s : State)  : s.took.svc = s.svc := rfl
@[simp] theorem State.took_dbg (s : State)  : s.took.dbg = s.dbg := rfl
@[simp] theorem State.took_pending (s : State)  : s.took.pending = s.pending := rfl
@[simp] theorem State.took_freeCtr (s : State)  : s.took.freeCtr = s.freeCtr + 1 := rfl
@[simp] theorem State.answer_regs (s : State) (i k : Nat) (l : List Nat) : (s.answer i k l).regs = s.regs := rfl
@[simp] theorem State.answer_mem (s : State) (i k : Nat) (l : List Nat) : (s.answer i k l).mem = s.mem := rfl
@[simp] theorem State.answer_latches (s : State) (i k : Nat) (l : List Nat) : (s.answer i k l).latches = s.latches := rfl
@[simp] theorem State.answer_staged (s : State) (i k : Nat) (l : List Nat) : (s.answer i k l).staged = s.staged := rfl
@[simp] theorem State.answer_ans (s : State) (i k : Nat) (l : List Nat) : (s.answer i k l).ans = ⟨i, k, l⟩ := rfl
@[simp] theorem State.answer_tim (s : State) (i k : Nat) (l : List Nat) : (s.answer i k l).tim = s.tim := rfl
@[simp] theorem State.answer_ho (s : State) (i k : Nat) (l : List Nat) : (s.answer i k l).ho = s.ho := rfl
@[simp] theorem State.answer_cal (s : State) (i k : Nat) (l : List Nat) : (s.answer i k l).cal = s.cal := rfl
@[simp] theorem State.answer_lpp (s : State) (i k : Nat) (l : List Nat) : (s.answer i k l).lpp = s.lpp := rfl
@[simp] theorem State.answer_pac (s : State) (i k : Nat) (l : List Nat) : (s.answer i k l).pac = s.pac := rfl
@[simp] theorem State.answer_can (s : State) (i k : Nat) (l : List Nat) : (s.answer i k l).can = s.can := rfl
@[simp] theorem State.answer_fab (s : State) (i k : Nat) (l : List Nat) : (s.answer i k l).fab = s.fab := rfl
@[simp] theorem State.answer_ldr (s : State) (i k : Nat) (l : List Nat) : (s.answer i k l).ldr = s.ldr := rfl
@[simp] theorem State.answer_far (s : State) (i k : Nat) (l : List Nat) : (s.answer i k l).far = s.far := rfl
@[simp] theorem State.answer_noc (s : State) (i k : Nat) (l : List Nat) : (s.answer i k l).noc = s.noc := rfl
@[simp] theorem State.answer_ext (s : State) (i k : Nat) (l : List Nat) : (s.answer i k l).ext = s.ext := rfl
@[simp] theorem State.answer_imp (s : State) (i k : Nat) (l : List Nat) : (s.answer i k l).imp = s.imp := rfl
@[simp] theorem State.answer_lane (s : State) (i k : Nat) (l : List Nat) : (s.answer i k l).lane = s.lane := rfl
@[simp] theorem State.answer_rly (s : State) (i k : Nat) (l : List Nat) : (s.answer i k l).rly = s.rly := rfl
@[simp] theorem State.answer_fmp (s : State) (i k : Nat) (l : List Nat) : (s.answer i k l).fmp = s.fmp := rfl
@[simp] theorem State.answer_pw (s : State) (i k : Nat) (l : List Nat) : (s.answer i k l).pw = s.pw := rfl
@[simp] theorem State.answer_sec (s : State) (i k : Nat) (l : List Nat) : (s.answer i k l).sec = s.sec := rfl
@[simp] theorem State.answer_out (s : State) (i k : Nat) (l : List Nat) : (s.answer i k l).out = s.out := rfl
@[simp] theorem State.answer_svc (s : State) (i k : Nat) (l : List Nat) : (s.answer i k l).svc = s.svc := rfl
@[simp] theorem State.answer_dbg (s : State) (i k : Nat) (l : List Nat) : (s.answer i k l).dbg = s.dbg := rfl
@[simp] theorem State.answer_pending (s : State) (i k : Nat) (l : List Nat) : (s.answer i k l).pending = s.pending := rfl
@[simp] theorem State.answer_freeCtr (s : State) (i k : Nat) (l : List Nat) : (s.answer i k l).freeCtr = s.freeCtr := rfl
@[simp] theorem State.setByte_regs (s : State) (a : Nat) (b : Byte) : (s.setByte a b).regs = s.regs := s.withMem_regs _
@[simp] theorem State.setByte_latches (s : State) (a : Nat) (b : Byte) : (s.setByte a b).latches = s.latches := s.withMem_latches _
@[simp] theorem State.setByte_staged (s : State) (a : Nat) (b : Byte) : (s.setByte a b).staged = s.staged := s.withMem_staged _
@[simp] theorem State.setByte_ans (s : State) (a : Nat) (b : Byte) : (s.setByte a b).ans = s.ans := s.withMem_ans _
@[simp] theorem State.setByte_tim (s : State) (a : Nat) (b : Byte) : (s.setByte a b).tim = s.tim := s.withMem_tim _
@[simp] theorem State.setByte_ho (s : State) (a : Nat) (b : Byte) : (s.setByte a b).ho = s.ho := s.withMem_ho _
@[simp] theorem State.setByte_cal (s : State) (a : Nat) (b : Byte) : (s.setByte a b).cal = s.cal := s.withMem_cal _
@[simp] theorem State.setByte_lpp (s : State) (a : Nat) (b : Byte) : (s.setByte a b).lpp = s.lpp := s.withMem_lpp _
@[simp] theorem State.setByte_pac (s : State) (a : Nat) (b : Byte) : (s.setByte a b).pac = s.pac := s.withMem_pac _
@[simp] theorem State.setByte_can (s : State) (a : Nat) (b : Byte) : (s.setByte a b).can = s.can := s.withMem_can _
@[simp] theorem State.setByte_fab (s : State) (a : Nat) (b : Byte) : (s.setByte a b).fab = s.fab := s.withMem_fab _
@[simp] theorem State.setByte_ldr (s : State) (a : Nat) (b : Byte) : (s.setByte a b).ldr = s.ldr := s.withMem_ldr _
@[simp] theorem State.setByte_far (s : State) (a : Nat) (b : Byte) : (s.setByte a b).far = s.far := s.withMem_far _
@[simp] theorem State.setByte_noc (s : State) (a : Nat) (b : Byte) : (s.setByte a b).noc = s.noc := s.withMem_noc _
@[simp] theorem State.setByte_ext (s : State) (a : Nat) (b : Byte) : (s.setByte a b).ext = s.ext := s.withMem_ext _
@[simp] theorem State.setByte_imp (s : State) (a : Nat) (b : Byte) : (s.setByte a b).imp = s.imp := s.withMem_imp _
@[simp] theorem State.setByte_lane (s : State) (a : Nat) (b : Byte) : (s.setByte a b).lane = s.lane := s.withMem_lane _
@[simp] theorem State.setByte_rly (s : State) (a : Nat) (b : Byte) : (s.setByte a b).rly = s.rly := s.withMem_rly _
@[simp] theorem State.setByte_fmp (s : State) (a : Nat) (b : Byte) : (s.setByte a b).fmp = s.fmp := s.withMem_fmp _
@[simp] theorem State.setByte_pw (s : State) (a : Nat) (b : Byte) : (s.setByte a b).pw = s.pw := s.withMem_pw _
@[simp] theorem State.setByte_sec (s : State) (a : Nat) (b : Byte) : (s.setByte a b).sec = s.sec := s.withMem_sec _
@[simp] theorem State.setByte_out (s : State) (a : Nat) (b : Byte) : (s.setByte a b).out = s.out := s.withMem_out _
@[simp] theorem State.setByte_svc (s : State) (a : Nat) (b : Byte) : (s.setByte a b).svc = s.svc := s.withMem_svc _
@[simp] theorem State.setByte_dbg (s : State) (a : Nat) (b : Byte) : (s.setByte a b).dbg = s.dbg := s.withMem_dbg _
@[simp] theorem State.setByte_pending (s : State) (a : Nat) (b : Byte) : (s.setByte a b).pending = s.pending := s.withMem_pending _
@[simp] theorem State.setByte_freeCtr (s : State) (a : Nat) (b : Byte) : (s.setByte a b).freeCtr = s.freeCtr := s.withMem_freeCtr _
@[simp] theorem State.store_regs (s : State) (a : Nat) (l : List Byte) : (s.store a l).regs = s.regs := s.withMem_regs _
@[simp] theorem State.store_latches (s : State) (a : Nat) (l : List Byte) : (s.store a l).latches = s.latches := s.withMem_latches _
@[simp] theorem State.store_staged (s : State) (a : Nat) (l : List Byte) : (s.store a l).staged = s.staged := s.withMem_staged _
@[simp] theorem State.store_ans (s : State) (a : Nat) (l : List Byte) : (s.store a l).ans = s.ans := s.withMem_ans _
@[simp] theorem State.store_tim (s : State) (a : Nat) (l : List Byte) : (s.store a l).tim = s.tim := s.withMem_tim _
@[simp] theorem State.store_ho (s : State) (a : Nat) (l : List Byte) : (s.store a l).ho = s.ho := s.withMem_ho _
@[simp] theorem State.store_cal (s : State) (a : Nat) (l : List Byte) : (s.store a l).cal = s.cal := s.withMem_cal _
@[simp] theorem State.store_lpp (s : State) (a : Nat) (l : List Byte) : (s.store a l).lpp = s.lpp := s.withMem_lpp _
@[simp] theorem State.store_pac (s : State) (a : Nat) (l : List Byte) : (s.store a l).pac = s.pac := s.withMem_pac _
@[simp] theorem State.store_can (s : State) (a : Nat) (l : List Byte) : (s.store a l).can = s.can := s.withMem_can _
@[simp] theorem State.store_fab (s : State) (a : Nat) (l : List Byte) : (s.store a l).fab = s.fab := s.withMem_fab _
@[simp] theorem State.store_ldr (s : State) (a : Nat) (l : List Byte) : (s.store a l).ldr = s.ldr := s.withMem_ldr _
@[simp] theorem State.store_far (s : State) (a : Nat) (l : List Byte) : (s.store a l).far = s.far := s.withMem_far _
@[simp] theorem State.store_noc (s : State) (a : Nat) (l : List Byte) : (s.store a l).noc = s.noc := s.withMem_noc _
@[simp] theorem State.store_ext (s : State) (a : Nat) (l : List Byte) : (s.store a l).ext = s.ext := s.withMem_ext _
@[simp] theorem State.store_imp (s : State) (a : Nat) (l : List Byte) : (s.store a l).imp = s.imp := s.withMem_imp _
@[simp] theorem State.store_lane (s : State) (a : Nat) (l : List Byte) : (s.store a l).lane = s.lane := s.withMem_lane _
@[simp] theorem State.store_rly (s : State) (a : Nat) (l : List Byte) : (s.store a l).rly = s.rly := s.withMem_rly _
@[simp] theorem State.store_fmp (s : State) (a : Nat) (l : List Byte) : (s.store a l).fmp = s.fmp := s.withMem_fmp _
@[simp] theorem State.store_pw (s : State) (a : Nat) (l : List Byte) : (s.store a l).pw = s.pw := s.withMem_pw _
@[simp] theorem State.store_sec (s : State) (a : Nat) (l : List Byte) : (s.store a l).sec = s.sec := s.withMem_sec _
@[simp] theorem State.store_out (s : State) (a : Nat) (l : List Byte) : (s.store a l).out = s.out := s.withMem_out _
@[simp] theorem State.store_svc (s : State) (a : Nat) (l : List Byte) : (s.store a l).svc = s.svc := s.withMem_svc _
@[simp] theorem State.store_dbg (s : State) (a : Nat) (l : List Byte) : (s.store a l).dbg = s.dbg := s.withMem_dbg _
@[simp] theorem State.store_pending (s : State) (a : Nat) (l : List Byte) : (s.store a l).pending = s.pending := s.withMem_pending _
@[simp] theorem State.store_freeCtr (s : State) (a : Nat) (l : List Byte) : (s.store a l).freeCtr = s.freeCtr := s.withMem_freeCtr _
@[simp] theorem State.withFront_regs (s : State) (c : Instr) : (s.withFront c).regs = s.regs := rfl
@[simp] theorem State.withFront_mem (s : State) (c : Instr) : (s.withFront c).mem = s.mem := rfl
@[simp] theorem State.withFront_latches (s : State) (c : Instr) : (s.withFront c).latches = s.latches := rfl
@[simp] theorem State.withFront_staged (s : State) (c : Instr) : (s.withFront c).staged = s.staged := rfl
@[simp] theorem State.withFront_ans (s : State) (c : Instr) : (s.withFront c).ans = s.ans := rfl
@[simp] theorem State.withFront_tim (s : State) (c : Instr) : (s.withFront c).tim = s.tim := rfl
@[simp] theorem State.withFront_ho (s : State) (c : Instr) : (s.withFront c).ho = s.ho := rfl
@[simp] theorem State.withFront_cal (s : State) (c : Instr) : (s.withFront c).cal = s.cal := rfl
@[simp] theorem State.withFront_lpp (s : State) (c : Instr) : (s.withFront c).lpp = s.lpp := rfl
@[simp] theorem State.withFront_pac (s : State) (c : Instr) : (s.withFront c).pac = s.pac := rfl
@[simp] theorem State.withFront_can (s : State) (c : Instr) : (s.withFront c).can = s.can := rfl
@[simp] theorem State.withFront_fab (s : State) (c : Instr) : (s.withFront c).fab = s.fab := rfl
@[simp] theorem State.withFront_ldr (s : State) (c : Instr) : (s.withFront c).ldr = s.ldr := rfl
@[simp] theorem State.withFront_far (s : State) (c : Instr) : (s.withFront c).far = s.far := rfl
@[simp] theorem State.withFront_noc (s : State) (c : Instr) : (s.withFront c).noc = s.noc := rfl
@[simp] theorem State.withFront_ext (s : State) (c : Instr) : (s.withFront c).ext = s.ext := rfl
@[simp] theorem State.withFront_imp (s : State) (c : Instr) : (s.withFront c).imp = s.imp := rfl
@[simp] theorem State.withFront_lane (s : State) (c : Instr) : (s.withFront c).lane = s.lane := rfl
@[simp] theorem State.withFront_rly (s : State) (c : Instr) : (s.withFront c).rly = s.rly := rfl
@[simp] theorem State.withFront_fmp (s : State) (c : Instr) : (s.withFront c).fmp = s.fmp := rfl
@[simp] theorem State.withFront_pw (s : State) (c : Instr) : (s.withFront c).pw = s.pw := rfl
@[simp] theorem State.withFront_sec (s : State) (c : Instr) : (s.withFront c).sec = s.sec := rfl
@[simp] theorem State.withFront_out (s : State) (c : Instr) : (s.withFront c).out = s.out := rfl
@[simp] theorem State.withFront_svc (s : State) (c : Instr) : (s.withFront c).svc = s.svc := rfl
@[simp] theorem State.withFront_dbg (s : State) (c : Instr) : (s.withFront c).dbg = s.dbg := rfl
@[simp] theorem State.withFront_pending (s : State) (c : Instr) : (s.withFront c).pending = c :: s.pending := rfl
@[simp] theorem State.withFront_freeCtr (s : State) (c : Instr) : (s.withFront c).freeCtr = s.freeCtr := rfl

end Sys2Proof.Machine
end

