-- ==== Sys2Proof/Laws/Ops.lean ====
section
/-! SUPPORT. What the shared operations do: sparse tables, registers and their fields, events, memory. A proof cites these and
unfolds no update. -/

namespace Sys2Proof.Machine

/-! Sparse tables. -/

theorem sget_sdrop_same {α : Type} (d : Nat → α) (m : List (Nat × α)) (k : Nat) : sget d (sdrop k m) k = d k := by
  induction m with
  | nil => rfl
  | cons e r ih =>
    by_cases h : e.1 = k
    · simpa [sdrop, h] using ih
    · simpa [sdrop, h, sget] using ih

theorem sget_sdrop_ne {α : Type} (d : Nat → α) (m : List (Nat × α)) {k j : Nat} (h : k ≠ j) :
    sget d (sdrop k m) j = sget d m j := by
  induction m with
  | nil => rfl
  | cons e r ih =>
    by_cases h1 : e.1 = k
    · have : e.1 ≠ j := by omega
      simpa [sdrop, h1, sget, h] using ih
    · by_cases h2 : e.1 = j
      · simp [sdrop, sget, h2, show j ≠ k from fun c => h c.symm]
      · simpa [sdrop, h1, sget, h2] using ih

theorem mem_sdrop {α : Type} {m : List (Nat × α)} {k : Nat} {e : Nat × α} : e ∈ sdrop k m ↔ e ∈ m ∧ e.1 ≠ k := by
  simp [sdrop]

theorem sget_sinsert_same {α : Type} (d : Nat → α) (v : α) (k : Nat) (m : List (Nat × α)) (h : ∀ e ∈ m, e.1 ≠ k) :
    sget d (sinsert k v m) k = v := by
  induction m with
  | nil => simp [sinsert, sget]
  | cons e r ih =>
    by_cases h1 : k ≤ e.1
    · simp [sinsert, h1, sget]
    · have := h e (by simp)
      simpa [sinsert, h1, sget, this] using ih (fun x hx => h x (by simp [hx]))

theorem sget_sinsert_ne {α : Type} (d : Nat → α) (v : α) {k j : Nat} (m : List (Nat × α)) (h : k ≠ j) :
    sget d (sinsert k v m) j = sget d m j := by
  induction m with
  | nil => simp [sinsert, sget, h]
  | cons e r ih =>
    by_cases h1 : k ≤ e.1
    · simp [sinsert, h1, sget, h]
    · by_cases h2 : e.1 = j
      · rw [show sinsert k v (e :: r) = e :: sinsert k v r by simp [sinsert, h1]]; simp [sget, h2]
      · simpa [sinsert, h1, sget, h2] using ih

/-- The key written reads the value. -/
theorem sget_sput_same {α : Type} [DecidableEq α] (d : Nat → α) (m : List (Nat × α)) (k : Nat) (v : α) :
    sget d (sput d m k v) k = v := by
  unfold sput
  split
  · next h => rw [sget_sdrop_same, h]
  · exact sget_sinsert_same d v k _ (fun e he => (mem_sdrop.mp he).2)

/-- Every other key reads as before. -/
theorem sget_sput_ne {α : Type} [DecidableEq α] (d : Nat → α) (m : List (Nat × α)) {k j : Nat} (v : α) (h : k ≠ j) :
    sget d (sput d m k v) j = sget d m j := by
  unfold sput
  split
  · exact sget_sdrop_ne d m h
  · rw [sget_sinsert_ne d v _ h, sget_sdrop_ne d m h]

theorem sget_sput {α : Type} [DecidableEq α] (d : Nat → α) (m : List (Nat × α)) (k j : Nat) (v : α) :
    sget d (sput d m k v) j = if k = j then v else sget d m j := by
  split
  · next h => rw [← h, sget_sput_same]
  · next h => exact sget_sput_ne d m v h

/-! The canonical form. -/

theorem swf_iff {α : Type} [DecidableEq α] {d : Nat → α} {m : List (Nat × α)} :
    swf d m = true ↔ m.Pairwise (fun x y => x.1 < y.1) ∧ ∀ e ∈ m, e.2 ≠ d e.1 := by
  simp [swf, List.pairwise_map]

/-- Leaving entries out keeps the canonical form. -/
theorem swf_filter {α : Type} [DecidableEq α] {d : Nat → α} {m : List (Nat × α)} (p : Nat × α → Bool)
    (h : swf d m = true) : swf d (m.filter p) = true := by
  rw [swf_iff] at h ⊢
  exact ⟨h.1.filter p, fun e he => h.2 e (List.mem_filter.mp he).1⟩

theorem swf_sdrop {α : Type} [DecidableEq α] {d : Nat → α} {m : List (Nat × α)} (k : Nat)
    (h : swf d m = true) : swf d (sdrop k m) = true := swf_filter _ h

theorem mem_sinsert {α : Type} {k : Nat} {v : α} {m : List (Nat × α)} {e : Nat × α} :
    e ∈ sinsert k v m ↔ e = (k, v) ∨ e ∈ m := by
  induction m with
  | nil => simp [sinsert]
  | cons x r ih =>
    by_cases h : k ≤ x.1
    · simp [sinsert, h]
    · simp only [sinsert, h, if_false, List.mem_cons, ih]; tauto

theorem swf_sinsert {α : Type} [DecidableEq α] {d : Nat → α} {m : List (Nat × α)} {k : Nat} {v : α}
    (h : swf d m = true) (hk : ∀ e ∈ m, e.1 ≠ k) (hv : v ≠ d k) : swf d (sinsert k v m) = true := by
  rw [swf_iff] at h ⊢
  refine ⟨?_, fun e he => ?_⟩
  · obtain ⟨hp, -⟩ := h
    induction m with
    | nil => simp [sinsert]
    | cons x r ih =>
      rw [List.pairwise_cons] at hp
      by_cases h1 : k ≤ x.1
      · have h2 : k < x.1 := lt_of_le_of_ne h1 (fun c => hk x (by simp) c.symm)
        simp only [sinsert, h1, if_true, List.pairwise_cons, List.mem_cons]
        exact ⟨fun y hy => hy.elim (fun c => c ▸ h2) (fun c => h2.trans (hp.1 y c)), hp.1, hp.2⟩
      · simp only [sinsert, h1, if_false, List.pairwise_cons]
        refine ⟨fun y hy => ?_, ih (fun e he => hk e (by simp [he])) hp.2⟩
        rcases mem_sinsert.mp hy with c | c
        · subst c; exact Nat.lt_of_not_le h1
        · exact hp.1 y c
  · rcases mem_sinsert.mp he with c | c
    · subst c; exact hv
    · exact h.2 e c

/-- Writing a key keeps the canonical form. -/
theorem swf_sput {α : Type} [DecidableEq α] {d : Nat → α} {m : List (Nat × α)} (k : Nat) (v : α)
    (h : swf d m = true) : swf d (sput d m k v) = true := by
  unfold sput
  split
  · exact swf_sdrop k h
  · next hv => exact swf_sinsert (swf_sdrop k h) (fun e he => (mem_sdrop.mp he).2) hv

/-! Memory. -/

theorem byte_setByte (s : State) (a j : Nat) (b : Byte) : (s.setByte a b).byte j = if a = j then b else s.byte j :=
  sget_sput memDefault s.mem a j b

theorem sget_writeBytes (l : List Byte) : ∀ (m : List Host.Cell) (a j : Nat),
    sget memDefault (writeBytes m a l) j = if a ≤ j ∧ j < a + l.length then l.getD (j - a) 0 else sget memDefault m j := by
  induction l with
  | nil => intro m a j; simp only [writeBytes, List.length_nil]; rw [if_neg (by omega)]
  | cons b r ih =>
    intro m a j
    simp only [writeBytes, ih, sget_sput, List.length_cons]
    by_cases h1 : a = j
    · subst h1; simp
    · by_cases h2 : a + 1 ≤ j ∧ j < a + 1 + r.length
      · rw [if_pos h2, if_pos (by omega)]
        obtain ⟨n, rfl⟩ : ∃ n, j = a + 1 + n := ⟨j - (a + 1), by omega⟩
        rw [show a + 1 + n - (a + 1) = n by omega, show a + 1 + n - a = n + 1 by omega]; rfl
      · rw [if_neg h2, if_neg h1, if_neg (by omega)]

/-- A store writes its bytes and no other. -/
theorem byte_store (s : State) (a j : Nat) (l : List Byte) :
    (s.store a l).byte j = if a ≤ j ∧ j < a + l.length then l.getD (j - a) 0 else s.byte j := sget_writeBytes l s.mem a j

/-- Writing bytes keeps the memory's canonical form. -/
theorem wf_writeBytes (l : List Byte) : ∀ {m : List Host.Cell} (a : Nat), Memory.wf m → Memory.wf (writeBytes m a l) := by
  induction l with
  | nil => intro m a h; exact h
  | cons b r ih => intro m a h; exact ih (a + 1) (swf_sput a b h)

theorem wf_setByte {s : State} (a : Nat) (b : Byte) (h : Memory.wf s.mem) : Memory.wf (s.setByte a b).mem := swf_sput a b h

theorem wf_store {s : State} (a : Nat) (l : List Byte) (h : Memory.wf s.mem) : Memory.wf (s.store a l).mem := wf_writeBytes l a h

/-! Bit fields. -/

theorem bitsOf_lt (v hi lo : Nat) : bitsOf v hi lo < 2 ^ (hi + 1 - lo) := Nat.mod_lt _ (by positivity)

/-- A word as what lies above a field, the field and what lies below it. -/
theorem bitsOf_split (v hi lo : Nat) (h : lo ≤ hi) :
    v = (v / 2 ^ (hi + 1) * 2 ^ (hi + 1 - lo) + bitsOf v hi lo) * 2 ^ lo + v % 2 ^ lo := by
  have h1 : v / 2 ^ (hi + 1) = v / 2 ^ lo / 2 ^ (hi + 1 - lo) := by
    rw [Nat.div_div_eq_div_mul, ← pow_add]; congr 2; omega
  have h2 := Nat.div_add_mod (v / 2 ^ lo) (2 ^ (hi + 1 - lo))
  have h3 := Nat.div_add_mod v (2 ^ lo)
  rw [h1, bitsOf, mul_comm (_ / _) _, h2, mul_comm (v / 2 ^ lo)]
  exact h3.symm

theorem putBits_eq (v hi lo x : Nat) (h : lo ≤ hi) :
    putBits v hi lo x = (v / 2 ^ (hi + 1) * 2 ^ (hi + 1 - lo) + x % 2 ^ (hi + 1 - lo)) * 2 ^ lo + v % 2 ^ lo := by
  have := bitsOf_split v hi lo h
  unfold putBits
  rw [add_mul]
  have e : v = v / 2 ^ (hi + 1) * 2 ^ (hi + 1 - lo) * 2 ^ lo + bitsOf v hi lo * 2 ^ lo + v % 2 ^ lo := by
    rw [← add_mul]; exact this
  omega

/-- The field written reads the value, cut to its width. -/
theorem bitsOf_putBits (v hi lo x : Nat) (h : lo ≤ hi) : bitsOf (putBits v hi lo x) hi lo = x % 2 ^ (hi + 1 - lo) := by
  rw [putBits_eq v hi lo x h, bitsOf, mul_comm _ (2 ^ lo), Nat.mul_add_div (by positivity),
    Nat.div_eq_of_lt (Nat.mod_lt v (by positivity)), add_zero, Nat.mul_add_mod_self_right, Nat.mod_mod]

/-- A bit outside the field written is as it was. -/
theorem testBit_putBits (v hi lo x n : Nat) (h : lo ≤ hi) :
    (putBits v hi lo x).testBit n = if lo ≤ n ∧ n ≤ hi then x.testBit (n - lo) else v.testBit n := by
  rw [putBits_eq v hi lo x h, mul_comm, Nat.testBit_two_pow_mul_add _ (Nat.mod_lt v (by positivity)),
    mul_comm, Nat.testBit_two_pow_mul_add _ (Nat.mod_lt x (by positivity))]
  split
  · rw [if_neg (by omega), Nat.testBit_mod_two_pow]; simp [*]
  · split
    · rw [if_pos (by omega), Nat.testBit_mod_two_pow]; simp [*]
    · rw [if_neg (by omega), Nat.testBit_div_two_pow]; congr 1; omega

theorem testBit_bitsOf (v hi lo n : Nat) : (bitsOf v hi lo).testBit n = (decide (n < hi + 1 - lo) && v.testBit (n + lo)) := by
  rw [bitsOf, Nat.testBit_mod_two_pow, Nat.testBit_div_two_pow]

/-- A field apart from the one written is as it was. -/
theorem bitsOf_putBits_ne (v hi lo x h' l' : Nat) (h : lo ≤ hi) (d : h' < lo ∨ hi < l') :
    bitsOf (putBits v hi lo x) h' l' = bitsOf v h' l' := by
  apply Nat.eq_of_testBit_eq; intro n
  rw [testBit_bitsOf, testBit_bitsOf, testBit_putBits _ _ _ _ _ h]
  by_cases c : n < h' + 1 - l'
  · rw [if_neg (by omega)]
  · simp [c]

theorem putBits_lt (v hi lo x n : Nat) (h : lo ≤ hi) (hv : v < 2 ^ n) (hn : hi < n) : putBits v hi lo x < 2 ^ n := by
  apply Nat.lt_pow_two_of_testBit; intro i hi'
  rw [testBit_putBits _ _ _ _ _ h, if_neg (by omega)]
  exact Nat.testBit_lt_two_pow (lt_of_lt_of_le hv (Nat.pow_le_pow_right (by omega) hi'))

/-! Registers. -/

theorem reg_setReg (s : State) (a j : Nat) (v : Word) : (s.setReg a v).reg j = if a = j then v else s.reg j :=
  sget_sput regReset s.regs a j v

@[simp] theorem reg_setReg_same (s : State) (a : Nat) (v : Word) : (s.setReg a v).reg a = v := by simp [reg_setReg]

theorem regN_lt (s : State) (a : Nat) : s.regN a < 2 ^ 32 := (s.reg a).isLt

theorem regN_setRegN (s : State) (a j v : Nat) : (s.setRegN a v).regN j = if a = j then v % 2 ^ 32 else s.regN j := by
  unfold State.regN State.setRegN; rw [reg_setReg]; split <;> simp

theorem regN_setFld (s : State) (a j hi lo v : Nat) (h : lo ≤ hi) (h32 : hi < 32) :
    (s.setFld a hi lo v).regN j = if a = j then putBits (s.regN a) hi lo v else s.regN j := by
  unfold State.setFld; rw [regN_setRegN]
  split
  · exact Nat.mod_eq_of_lt (putBits_lt _ _ _ _ _ h (regN_lt s a) h32)
  · rfl

theorem reg_setRegN_ne (s : State) {a j : Nat} (v : Nat) (h : a ≠ j) : (s.setRegN a v).reg j = s.reg j := by
  unfold State.setRegN; rw [reg_setReg, if_neg h]

theorem reg_setFld_ne (s : State) {a j : Nat} (hi lo v : Nat) (h : a ≠ j) : (s.setFld a hi lo v).reg j = s.reg j :=
  reg_setRegN_ne s _ h

theorem reg_setFlag_ne (s : State) {a j : Nat} (n : Nat) (b : Bool) (h : a ≠ j) : (s.setFlag a n b).reg j = s.reg j :=
  reg_setRegN_ne s _ h

theorem reg_addFld_ne (s : State) {a j : Nat} (hi lo n : Nat) (h : a ≠ j) : (s.addFld a hi lo n).reg j = s.reg j :=
  reg_setRegN_ne s _ h

/-- A register field written reads the value, cut to its width. -/
theorem fld_setFld (s : State) (a hi lo v : Nat) (h : lo ≤ hi) (h32 : hi < 32) :
    (s.setFld a hi lo v).fld a hi lo = v % 2 ^ (hi + 1 - lo) := by
  unfold State.fld; rw [regN_setFld s a a hi lo v h h32, if_pos rfl, bitsOf_putBits _ _ _ _ h]

/-- A field of the same register apart from it reads as before. -/
theorem fld_setFld_apart (s : State) (a hi lo v h' l' : Nat) (h : lo ≤ hi) (h32 : hi < 32) (d : h' < lo ∨ hi < l') :
    (s.setFld a hi lo v).fld a h' l' = s.fld a h' l' := by
  unfold State.fld; rw [regN_setFld s a a hi lo v h h32, if_pos rfl, bitsOf_putBits_ne _ _ _ _ _ _ h d]

theorem flag_setFlag (s : State) (a n : Nat) (b : Bool) (h : n < 32) : (s.setFlag a n b).flag a n = b := by
  unfold State.flag State.setFlag
  rw [regN_setFld s a a n n _ (le_refl n) h, if_pos rfl, testBit_putBits _ _ _ _ _ (le_refl n), if_pos ⟨le_refl n, le_refl n⟩]
  cases b <;> simp [bit]

theorem flag_setFlag_ne (s : State) (a n j : Nat) (b : Bool) (h : n < 32) (hj : n ≠ j) : (s.setFlag a n b).flag a j = s.flag a j := by
  unfold State.flag State.setFlag
  rw [regN_setFld s a a n n _ (le_refl n) h, if_pos rfl, testBit_putBits _ _ _ _ _ (le_refl n), if_neg (by omega)]

theorem regN_of_reg {s t : State} {a : Nat} (h : t.reg a = s.reg a) : t.regN a = s.regN a := by unfold State.regN; rw [h]
theorem fld_of_reg {s t : State} {a : Nat} (hi lo : Nat) (h : t.reg a = s.reg a) : t.fld a hi lo = s.fld a hi lo := by
  unfold State.fld; rw [regN_of_reg h]
theorem flag_of_reg {s t : State} {a : Nat} (n : Nat) (h : t.reg a = s.reg a) : t.flag a n = s.flag a n := by
  unfold State.flag; rw [regN_of_reg h]

/-! Events. -/

theorem evt_apart (b n : Nat) : evtCount b n ≠ evtStatus b := by unfold evtCount evtStatus; omega

/-- An event sets its status bit. -/
theorem flag_raise (s : State) (b n : Nat) (h : n < 32) : (s.raise b n).flag (evtStatus b) n = true := by
  unfold State.raise
  rw [flag_of_reg n (reg_addFld_ne _ 15 0 1 (evt_apart b n)), flag_setFlag _ _ _ _ h]

/-- An event's counter advances, and stays at all-ones. -/
theorem fld_raise (s : State) (b n : Nat) :
    (s.raise b n).fld (evtCount b n) 15 0 = satNat 16 (s.fld (evtCount b n) 15 0 + 1) := by
  unfold State.raise State.addFld
  rw [fld_setFld _ _ _ _ _ (by omega) (by omega), fld_of_reg 15 0 (reg_setFlag_ne _ _ _ (evt_apart b n).symm)]
  exact Nat.mod_eq_of_lt (by unfold satNat; split <;> omega)

/-- An event changes no other register. -/
theorem reg_raise (s : State) (b n a : Nat) (h : a ≠ evtStatus b) (h' : a ≠ evtCount b n) : (s.raise b n).reg a = s.reg a := by
  unfold State.raise; rw [reg_addFld_ne _ _ _ _ h'.symm, reg_setFlag_ne _ _ _ h.symm]

/-- An event leaves the other events' status bits. -/
theorem flag_raise_ne (s : State) (b n j : Nat) (h : n < 32) (hj : n ≠ j) :
    (s.raise b n).flag (evtStatus b) j = s.flag (evtStatus b) j := by
  unfold State.raise
  rw [flag_of_reg j (reg_addFld_ne _ 15 0 1 (evt_apart b n)), flag_setFlag_ne _ _ _ _ _ h hj]

/-! Canonical states: what each update keeps. -/

theorem wf_setReg {s : State} (a : Nat) (v : Word) (h : swf regReset s.regs = true) : swf regReset (s.setReg a v).regs = true :=
  swf_sput a v h

end Sys2Proof.Machine
end

