-- ==== Sys2Proof/Laws/Memory.lean ====
section
/-! SUPPORT. The canonical form of the memory: reset's memory has it, and every operation that writes memory keeps it. -/

namespace Sys2Proof.Machine

/-- The memory of the state is in canonical form. -/
abbrev MemWf (s : State) : Prop := Memory.wf s.mem

theorem memWf_reset : MemWf State.reset := by rfl

theorem memWf_of_eq {s t : State} (h : t.mem = s.mem) (w : MemWf s) : MemWf t := by unfold MemWf; rw [h]; exact w

/-- Steps of a fold that each keep the form keep it together. -/
theorem memWf_foldl {α : Type} (f : State → α → State) (hf : ∀ s x, MemWf s → MemWf (f s x)) (l : List α) :
    ∀ s, MemWf s → MemWf (l.foldl f s) := by
  induction l with
  | nil => exact fun _ h => h
  | cons x r ih => exact fun s h => ih _ (hf s x h)

/-- Steps of a fold that leave the memory leave it together. -/
theorem mem_foldl {α : Type} (f : State → α → State) (hf : ∀ s x, (f s x).mem = s.mem) (l : List α) :
    ∀ s, (l.foldl f s).mem = s.mem := by
  induction l with
  | nil => exact fun _ => rfl
  | cons x r ih => exact fun s => (ih _).trans (hf s x)

/-! The scratchpad. -/

@[simp] theorem setSpErr_mem (s : State) (w : Nat) (e : BitVec 72) : (setSpErr s w e).mem = s.mem := rfl

theorem spWord_mem (s : State) (a n w : Nat) : (spWord s a n w).mem = s.mem := by
  unfold spWord; dsimp only; split <;> exact setSpErr_mem _ _ _

theorem spFlipDone_mem (s : State) (a : Nat) : (spFlipDone s a).mem = s.mem := by
  unfold spFlipDone; repeat' split
  all_goals simp

theorem memWf_spWrite {s : State} (a : Nat) (l : List Byte) (h : MemWf s) : MemWf (spWrite s a l) := by
  unfold spWrite; split
  · exact h
  · exact memWf_of_eq ((spFlipDone_mem _ _).trans (mem_foldl _ (fun s w => spWord_mem s a l.length w) _ _)) (wf_store a l h)

/-- A bank whose contents end. -/
theorem memWf_spClear {s : State} (b : Nat) (h : MemWf s) : MemWf (spClear s b) := swf_filter _ h

/-! Local SDRAM. -/

theorem logPush_mem (s : State) (l : Log) (w sh a b e : Nat) : (logPush s l w sh a b e).1.mem = s.mem := by
  unfold logPush; dsimp only; split <;> simp

@[simp] theorem setChan_mem (s : State) (h : Nat) (c : Channel) : (setChan s h c).mem = s.mem := rfl
@[simp] theorem setLineErr_mem (s : State) (l : Nat) (e : LineErr) : (setLineErr s l e).mem = s.mem := rfl

@[simp] theorem memLog_mem (s : State) (h c k y w : Nat) : (memLog s h c k y w).mem = s.mem := logPush_mem s _ _ _ _ _ _

@[simp] theorem lineFresh_mem (s : State) (l : Nat) : (lineFresh s l).mem = s.mem := by
  unfold lineFresh; dsimp only; split <;> simp

theorem memWf_lineBack {s : State} (l : Nat) (h : MemWf s) : MemWf (lineBack s l) :=
  memWf_of_eq (lineFresh_mem _ _) (wf_store _ _ h)

theorem memWf_lineRead {s : State} (l c u : Nat) (h : MemWf s) : MemWf (lineRead s l c u).1 := by
  unfold lineRead; dsimp only
  have e : ∀ (t : State) (p : CwRead × Nat), MemWf t → MemWf (match p.1 with
      | .ce i _ => (memLog (t.count (Reg.MEM_CE_CNT (lineChan s l).1)) (lineChan s l).1 (lineChan s l).2 c i p.2).raise blkMem 0
      | .ue => (memLog (t.count (Reg.MEM_UE_CNT (lineChan s l).1)) (lineChan s l).1 (lineChan s l).2 u 0 p.2).raise blkMem 1
      | .good => t) := fun t p w => by
    split
    · exact memWf_of_eq (by simp) w
    · exact memWf_of_eq (by simp) w
    · exact w
  split
  · exact memWf_lineBack l (memWf_foldl _ e _ s h)
  · exact memWf_foldl _ e _ s h

theorem memWf_lineWrite {s : State} (l : Nat) (b : List Byte) (h : MemWf s) : MemWf (lineWrite s l b) :=
  memWf_of_eq (lineFresh_mem _ _) (wf_store _ _ (memWf_of_eq (setChan_mem _ _ _) h))

theorem memWf_mergeFlush {s : State} (c : Nat) (m : Merge) (h : MemWf s) : MemWf (mergeFlush s c m) := by
  unfold mergeFlush; dsimp only; split
  · exact memWf_of_eq (by simp) h
  · exact memWf_lineWrite _ _ (memWf_lineRead _ _ _ (memWf_of_eq (by simp) h))

theorem memWf_mergeOldest {s : State} (c : Nat) (h : MemWf s) : MemWf (mergeOldest s c) := by
  unfold mergeOldest; split
  · exact memWf_mergeFlush _ _ h
  · exact h

theorem memWf_mergeWrite {s : State} (l o : Nat) (b : List Byte) (h : MemWf s) : MemWf (mergeWrite s l o b) := by
  unfold mergeWrite; dsimp only
  split
  · exact h
  · split
    · exact memWf_mergeOldest _ h
    · exact h

theorem memWf_sdWrite {s : State} (a : Nat) (b : List Byte) (h : MemWf s) : MemWf (sdWrite s a b) :=
  memWf_foldl _ (fun s l w => by
    dsimp only; split
    · exact memWf_lineWrite _ _ w
    · exact memWf_mergeWrite _ _ _ w) _ s h

theorem memWf_sdRead {s : State} (a n : Nat) (h : MemWf s) : MemWf (sdRead s a n).1 := by
  have e : ∀ (l : List Nat) (r : State × Bool), MemWf r.1 →
      MemWf (l.foldl (fun (r : State × Bool) l => let (t, u) := lineRead r.1 l 1 2; (t, r.2 || u)) r).1 := by
    intro l
    induction l with
    | nil => exact fun _ w => w
    | cons x t ih => exact fun r w => ih _ (memWf_lineRead x 1 2 w)
  exact e _ (s, false) h

/-! Beneath IMP. -/

theorem memWf_physWrite {s : State} (a : Nat) (b : List Byte) (h : MemWf s) : MemWf (physWrite s a b) := by
  unfold physWrite; split
  · exact memWf_sdWrite a b h
  · exact wf_store a b h

theorem memWf_physRead {s : State} (a n : Nat) (h : MemWf s) : MemWf (physRead s a n).1 := by
  unfold physRead; split
  · exact memWf_sdRead a n h
  · exact h

/-! IMP: protected tiles and the metadata of their ranges. -/

@[simp] theorem jEntry_mem (s : State) (k : Nat) (d : List Byte) : (jEntry s k d).mem = s.mem := by
  unfold jEntry relSend; split
  · simp
  · rfl

@[simp] theorem jTile_mem (s : State) (t b c : Nat) (g : BitVec 64) (x : List Byte) : (jTile s t b c g x).mem = s.mem := by
  unfold jTile; split
  · exact jEntry_mem _ _ _
  · rfl

@[simp] theorem jMem_mem (s : State) (f : Nat → Bool) (a : Nat) (b : List Byte) : (jMem s f a b).mem = s.mem := by
  unfold jMem; split
  · exact mem_foldl _ (fun s l => by dsimp only; split; exacts [jEntry_mem _ _ _, rfl]) _ _
  · rfl

@[simp] theorem setCtrs_mem (s : State) (r l j : Nat) (c : List Nat) : (setCtrs s r l j c).mem = s.mem := by
  unfold setCtrs; split <;> simp

theorem memWf_nodeBack {s : State} (n : Node) (h : MemWf s) : MemWf (nodeBack s n) := by
  unfold nodeBack; dsimp only
  split
  · exact memWf_physWrite _ _ (memWf_physWrite _ _ (memWf_of_eq (setCtrs_mem _ _ _ _ _) h))
  · exact memWf_physWrite _ _ (memWf_of_eq (setCtrs_mem _ _ _ _ _) h)

theorem memWf_evictOne {s : State} (h : MemWf s) : MemWf (evictOne s) := by
  unfold evictOne; dsimp only; split
  · exact h
  · refine memWf_of_eq (State.setImp_mem _ _) ?_
    split
    · exact memWf_nodeBack _ h
    · exact h

theorem memWf_cacheIn {s : State} (n : Node) (h : MemWf s) : MemWf (cacheIn s n) := by
  refine memWf_of_eq (State.setImp_mem _ _) ?_
  split
  · exact memWf_evictOne h
  · exact h

theorem memWf_cachePath {s : State} (r t : Nat) (h : MemWf s) : MemWf (cachePath s r t) :=
  memWf_foldl _ (fun s p w => by split; exacts [w, memWf_cacheIn _ w]) _ s h

theorem memWf_tagStore {s : State} (r t : Nat) (g : BitVec 64) (h : MemWf s) : MemWf (tagStore s r t g) := by
  unfold tagStore; dsimp only; split
  · exact memWf_of_eq ((State.raise_mem _ _ _).trans ((State.setFlag_mem _ _ _ _).trans ((State.setFlag_mem _ _ _ _).trans (State.setImp_mem _ _))))
      (memWf_physWrite _ _ h)
  · exact memWf_physWrite _ _ h

theorem memWf_tileWriteAt {s : State} (r t c : Nat) (p : List Byte) (h : MemWf s) : MemWf (tileWriteAt s r t c p) :=
  memWf_of_eq ((jTile_mem _ _ _ _ _ _).trans (setCtrs_mem _ _ _ _ _))
    (memWf_tagStore _ _ _ (memWf_physWrite _ _ (memWf_cachePath _ _ h)))

theorem memWf_tileBack {s : State} (r t : Nat) (p : List Byte) (h : MemWf s) : MemWf (tileBack s r t p) := by
  unfold tileBack; split
  · exact memWf_of_eq (State.raise_mem _ _ _) h
  · exact memWf_tileWriteAt _ _ _ _ h

theorem memWf_encWrite {s : State} (k t : Nat) (p : List Byte) (h : MemWf s) : MemWf (encWrite s k t p) := by
  unfold encWrite; dsimp only; split
  · exact memWf_of_eq (jTile_mem _ _ _ _ _ _) (memWf_physWrite _ _ h)
  · exact memWf_physWrite _ _ h

theorem memWf_tilePut {s : State} (k : ImpKind) (t o : Nat) (b : List Byte) (h : MemWf s) : MemWf (tilePut s k t o b) := by
  unfold tilePut; dsimp only; split
  · exact h
  · split
    · exact memWf_tileBack _ _ _ h
    · exact memWf_encWrite _ _ _ h
    · exact h

/-! As initiators write. -/

theorem memWf_rawWrite {s : State} (x a : Nat) (b : List Byte) (h : MemWf s) : MemWf (s.rawWrite x a b) := by
  unfold State.rawWrite; split
  · exact memWf_spWrite a b h
  · split
    · refine memWf_foldl _ (fun s t w => ?_) _ s h
      dsimp only; split
      · exact memWf_physWrite _ _ w
      · exact w
      · exact w
      · exact memWf_tilePut _ _ _ _ w
    · exact wf_store a b h

/-- A write by any initiator keeps the canonical form. -/
theorem memWf_viewWrite {s : State} (x a : Nat) (b : List Byte) (h : MemWf s) : MemWf (s.viewWrite x a b) := by
  unfold State.viewWrite; dsimp only; split
  · exact memWf_of_eq (State.count_mem _ _) (memWf_foldl _ (fun s p w => memWf_rawWrite x _ _ w) _ s h)
  · exact memWf_of_eq (jMem_mem _ _ _ _) (memWf_rawWrite x a b h)

theorem memWf_setBytes {s : State} (a : Nat) (b : List Byte) (h : MemWf s) : MemWf (s.setBytes a b) := memWf_viewWrite 0 a b h

theorem memWf_setMemN {s : State} (a n v : Nat) (h : MemWf s) : MemWf (s.setMemN a n v) := memWf_setBytes a _ h

/-! What ends contents: a failed flash operation, power and resets. -/

theorem memWf_scramble {s : State} (a n : Nat) (h : MemWf s) : MemWf (scramble s a n) :=
  memWf_foldl _ (fun _ i w => memWf_of_eq (State.took_mem _) (wf_setByte (a + i) _ w)) _ s h

theorem memWf_powerDown {s : State} (h : MemWf s) : MemWf (powerDown s) := swf_filter _ h

end Sys2Proof.Machine
end

