-- ==== Sys2Proof/WellFormed.lean ====
section
/-! DEFINITION. Which commands are well formed: the bounds on their operands that their types do not already give. -/

namespace Sys2Proof

/-- The operands lie in the ranges the spec gives them. -/
def Instr.wellFormed : Instr → Bool
  | .registerWrite _ addr data => decide (1 ≤ data.length) && decide (data.length ≤ 256) && decide (0x40000000 ≤ addr.toNat) && decide (addr.toNat < 0x50000000)
  | .wideRegisterWord0Read _ _ => true
  | .wideRegisterHighWrite _ _ _ => true
  | .evtStatusClear _ _ _ _ => true
  | .evtCountClr _ _ _ _ => true
  | .porRelease _ _ _ => true
  | .railMonitorRelease => true
  | .rcoStable => true
  | .timingPllLock _ _ _ => true
  | .bootComplete => true
  | .srstN => true
  | .mainPowerLoss => true
  | .mainPowerReturn => true
  | .pdSwitchDone _ => true
  | .oscLost _ => true
  | .bothOscLost => true
  | .oscGoodAgain _ _ => true
  | .oscRevert => true
  | .gnssPpsEdge _ _ _ => true
  | .gnssPulseMissing _ => true
  | .todMessage _ => true
  | .tlPtpMeas _ => true
  | .tlPtpSHi _ => true
  | .ptpTimeout => true
  | .synceLoss => true
  | .autoStep => true
  | .holdoverRequalify => true
  | .capture => true
  | .forceStep => true
  | .forceAcquire => true
  | .requalify => true
  | .stepApply => true
  | .toEdgeTWrite _ _ => true
  | .toCtlWrite _ _ => true
  | .toEntryHead _ => true
  | .toEdgeApply _ => true
  | .toPeriodicEdge _ => true
  | .ppsOutEdge => true
  | .tlioEntryPush _ _ _ _ => true
  | .tlioTsPop _ => true
  | .tsiEdgeCapture _ _ _ => true
  | .tsiHiRead _ _ => true
  | .fsynArm _ _ => true
  | .fsynStart _ => true
  | .hoLearnSecond => true
  | .hoRefit => true
  | .hoSnapshot => true
  | .snap => true
  | .forget => true
  | .tsensRead _ => true
  | .hoSteerSecond _ _ => true
  | .holdoverExpiry => true
  | .calSecond => true
  | .calAutoTrim _ => true
  | .vbatBrownout => true
  | .xtStop => true
  | .vbatCheck _ => true
  | .calSet _ => true
  | .calSRead _ => true
  | .calLeapAdd _ => true
  | .leapApply _ => true
  | .lppCtlLWrite _ => true
  | .lppCtlHWrite _ => true
  | .lppKeepWrite _ => true
  | .lppCommitApply => true
  | .lppStart => true
  | .lppPpsPulse _ => true
  | .lppFrameStrobe _ => true
  | .lppHoldoverStop => true
  | .pacAdmit _ _ => true
  | .admissionDequeue => true
  | .admissionDecide _ _ => true
  | .opStart => true
  | .opReady _ => true
  | .canterGrant _ => true
  | .preempt _ => true
  | .hpGrant _ => true
  | .hpDone _ _ _ => true
  | .dmaComplete _ _ => true
  | .stagerFetchDone _ => true
  | .opReport _ _ => true
  | .alarmWindowEnd _ => true
  | .opDeadline _ => true
  | .opRelease _ => true
  | .timedReleaseFetchDone _ => true
  | .pacGraphCfgWrite _ _ => true
  | .pacFlowCfgWrite _ _ => true
  | .pacCtlWrite _ => true
  | .rbAlarm _ _ _ _ => true
  | .rbTokClr _ => true
  | .rbTest _ => true
  | .rbLossHiRead _ => true
  | .nop _ _ => true
  | .cmac _ _ _ _ _ _ _ _ => true
  | .drmac _ _ _ _ _ _ => true
  | .pcmac _ _ _ _ _ _ => true
  | .ext _ _ _ _ _ _ _ _ => true
  | .ashr _ _ _ _ => true
  | .ald _ _ _ _ _ => true
  | .amov _ _ _ _ => true
  | .aadd _ _ _ _ => true
  | .cadd _ _ _ _ _ => true
  | .csub _ _ _ _ _ => true
  | .cadds _ _ _ _ _ => true
  | .csubs _ _ _ _ _ => true
  | .conj _ _ _ _ => true
  | .mov _ _ _ _ => true
  | .ld _ _ _ _ _ _ => true
  | .st _ _ _ _ _ _ => true
  | .rot _ _ => true
  | .clra _ _ _ => true
  | .ask _ _ _ => true
  | .wait _ _ _ => true
  | .loop _ _ _ _ _ _ => true
  | .loopr _ _ _ _ _ _ => true
  | .br _ _ _ _ _ => true
  | .movil _ _ _ _ => true
  | .movih _ _ _ _ => true
  | .addp _ _ _ _ _ => true
  | .addpd _ _ _ _ _ => true
  | .movpd _ _ _ _ _ => true
  | .setm _ _ _ _ _ => true
  | .setrm _ _ _ => true
  | .get _ _ _ _ _ _ _ => true
  | .put _ _ _ _ _ _ _ => true
  | .idle _ _ _ => true
  | .getComplete _ _ _ => true
  | .putComplete _ _ _ => true
  | .grantLoad _ => true
  | .preemptSwitch _ => true
  | .abandon _ => true
  | .caImemWrite _ _ _ => true
  | .saveDone => true
  | .restoreDone => true
  | .contentionSample _ => true
  | .bmFlipArm _ => true
  | .dpReq _ _ _ _ _ _ => true
  | .dpAck _ _ _ => true
  | .dpTimeout _ => true
  | .gckCfgWrite _ _ => true
  | .gckStart _ => true
  | .loadFull value => value.getLsbD 0
  | .loadPartial value => value.getLsbD 1
  | .abort value => value.getLsbD 2
  | .empty value => value.getLsbD 3
  | .pass1Done _ => true
  | .loadTimeout => true
  | .prIsolate => true
  | .pass2Chunk _ => true
  | .altUsed => true
  | .startupClocks => true
  | .driverRelease => true
  | .gsrRelease => true
  | .loadDone => true
  | .frameSlot _ _ => true
  | .priorityPassStart _ => true
  | .repairWrite _ => true
  | .repairVerify _ => true
  | .refetchChunk _ _ => true
  | .farrierRateUpdate => true
  | .farPrioCommit _ => true
  | .peerStallCheck _ => true
  | .restorePeer _ => true
  | .farLogRead _ => true
  | .farInject _ => true
  | .nocInject _ op _ len _ data => data.length == (if op.val == 0 then 0 else len.val + 1)
  | .curbRefill => true
  | .linkResend _ _ _ => true
  | .nocRead _ _ _ _ _ => true
  | .nocWrite _ _ _ => true
  | .nocAdd _ _ _ => true
  | .nocSwap _ _ _ => true
  | .nocResponse _ _ _ => true
  | .spBankCfgWrite _ _ => true
  | .spStateDone _ => true
  | .spFlipArm _ => true
  | .nocMonClr _ => true
  | .frpRequest _ kind _ _ len _ _ _ data => data.length == (if kind.val == 0 then 0 else len.val + 1)
  | .frpTargetResponse _ _ _ _ => true
  | .tgtTimeout _ _ => true
  | .mergeFlush _ => true
  | .refreshDue _ _ _ => true
  | .init _ => true
  | .initDone _ _ => true
  | .retrainDue _ => true
  | .trainingSlot _ => true
  | .trainForced _ => true
  | .patrolRead _ => true
  | .retirePage _ => true
  | .retirePageDone _ => true
  | .retireBank _ => true
  | .retireDone _ => true
  | .memFlipArm _ _ => true
  | .memLogRead _ _ => true
  | .cxlDecCommit _ _ => true
  | .cxlResponse _ _ _ => true
  | .cxlTimeout _ _ => true
  | .cxlLinkChg _ _ _ _ => true
  | .cxlEcamAccess _ _ _ _ _ => true
  | .pcieInbound _ wr _ len _ data => data.length == (if wr then len.val + 1 else 0)
  | .pcieLinkChg _ _ _ => true
  | .impTileRead _ => true
  | .impNodeVerify _ _ _ => true
  | .impTagCheck _ => true
  | .impCheckTimeout _ => true
  | .impTileWrite _ _ => true
  | .impTileWriteback _ => true
  | .impRangeCommit _ value => value.getLsbD 8
  | .impRangeDecommit _ value => !value.getLsbD 8
  | .impReseed _ => true
  | .rollStart _ => true
  | .rollPause => true
  | .rollResume => true
  | .rollClaim => true
  | .rollTileDone => true
  | .rollRetry => true
  | .impTagFlipArm _ => true
  | .impLogRead _ => true
  | .laneSignalDetect _ => true
  | .laneLos _ => true
  | .eqAdaptStep _ => true
  | .ethEnable _ _ => true
  | .ethTxStart _ _ => true
  | .ethTxFrameDone _ _ _ => true
  | .ethTxpPush _ _ => true
  | .ethRxFrame _ _ _ _ _ _ => true
  | .linkChg _ _ => true
  | .ethTxtsRead _ _ => true
  | .mgtRxFrame _ _ => true
  | .mgtTxProdWrite _ => true
  | .mgtTxFrame => true
  | .mgtLinkChg _ _ _ _ => true
  | .jsysrefEdge _ _ => true
  | .adopt _ => true
  | .jesdBufferStart _ => true
  | .jesdFetchDone _ _ => true
  | .jesdRxEmb _ _ _ _ => true
  | .jlLinkDown _ => true
  | .tetherFrameTx => true
  | .tetherFrameRx _ _ _ _ => true
  | .slip _ => true
  | .tetherDeskewTimeout => true
  | .tethFifoErr _ => true
  | .roleElection _ _ => true
  | .roleConflict => true
  | .relayFrameRx => true
  | .heartbeat => true
  | .timeReq => true
  | .timeResp => true
  | .ack => true
  | .mark => true
  | .admitEntry => true
  | .cfg => true
  | .mem => true
  | .tile => true
  | .obj => true
  | .port => true
  | .handover => true
  | .joinReq => true
  | .snapEnd => true
  | .journalMark => true
  | .ackPeriodic => true
  | .journalResend => true
  | .journalStall => true
  | .partnerUnsynced => true
  | .timeExchange => true
  | .heartbeatSend => true
  | .hbPinPulse _ => true
  | .partnerLost => true
  | .hbPathLost _ => true
  | .fenceInSet _ => true
  | .takeover _ => true
  | .takeoverBlocked => true
  | .join _ => true
  | .relayCmdHandover _ => true
  | .unfence _ => true
  | .ctrClear _ => true
  | .fenceRelease => true
  | .relayMpDb _ _ => true
  | .relayMirCommit _ _ => true
  | .relayGapRead _ => true
  | .fmpFrameRx _ _ _ => true
  | .hello => true
  | .read => true
  | .write => true
  | .segOpen => true
  | .segData => true
  | .segClose => true
  | .segAbort => true
  | .segTimeout _ => true
  | .store => true
  | .storeDone _ => true
  | .restoreDefaults => true
  | .epoch => true
  | .arpRequest _ => true
  | .icmpEcho _ _ => true
  | .mgmtSpiWrite frame => decide (frame.length < 65536)
  | .mgmtSpiStatus => true
  | .mgmtSpiRead => true
  | .release _ => true
  | .recommission _ => true
  | .leaveSafe _ => true
  | .stable _ => true
  | .cancel _ => true
  | .wakeNow _ => true
  | .reset _ => true
  | .replan _ => true
  | .pdOffReq _ _ => true
  | .stableEntry => true
  | .stableAsleep => true
  | .stableWakeEvent _ => true
  | .wakeUngate => true
  | .stableExit => true
  | .avsLoop _ _ => true
  | .canaryTrip _ => true
  | .pmbusAlert _ => true
  | .avsRailEnable _ _ _ => true
  | .ageMeasure _ => true
  | .agePeriodReplan => true
  | .addSlot _ => true
  | .revoke _ => true
  | .own _ => true
  | .deploy _ => true
  | .return _ => true
  | .scrap _ => true
  | .arbSet _ => true
  | .debugGrant _ => true
  | .attKeygen _ => true
  | .keygenDone _ => true
  | .bridleSet _ => true
  | .fwStage => true
  | .keyLoad _ => true
  | .keyUnwrap _ => true
  | .keyClear _ => true
  | .attestChallenge challenge => decide (challenge.length = 32)
  | .attestSignDone _ => true
  | .attTokenGain => true
  | .trngFail => true
  | .secRngRead _ => true
  | .bistLogic _ => true
  | .bistMemory _ => true
  | .bistDone _ _ => true
  | .erase => true
  | .eraseDone _ => true
  | .windowReport _ _ _ => true
  | .tlUncCheck => true
  | .lockstepMismatch _ => true
  | .clockCheck _ => true
  | .railTrip _ _ => true
  | .tempRead temps => temps.length == 32
  | .dualTx _ => true
  | .selfDisagree => true
  | .rcoEdgeLoss => true
  | .safeEntry => true
  | .gateOpen => true
  | .outLatchClear _ => true
  | .bistSlot => true
  | .bistCoreTestEnd _ => true
  | .bistSkip => true
  | .bistMemoryTestEnd _ => true
  | .wdtKick _ _ _ => true
  | .wdtWarning _ => true
  | .wdtExpire _ => true
  | .sysUnlock _ _ => true
  | .sysSwi _ => true
  | .periGateWrite _ _ => true
  | .pinCfgWrite _ _ => true
  | .pinSwitchMake _ => true
  | .gpioDoutWrite _ _ => true
  | .gpioEdge _ _ => true
  | .uartTxPush _ _ => true
  | .uartRxPop _ _ => true
  | .uartRxByte _ _ _ _ => true
  | .uartTxByte _ => true
  | .spi1Cmd _ => true
  | .spi1Done miso => decide (miso.length ≤ 64)
  | .spi1DataAccess _ _ _ => true
  | .i2cCmd _ _ => true
  | .i2cDone _ _ data => decide (data.length ≤ 32)
  | .flashErase _ value => value.getLsbD 0
  | .flashProgram _ value => value.getLsbD 1
  | .flashDone _ => true
  | .idcode => true
  | .samplePreload _ => true
  | .extest => true
  | .dtmcs _ => true
  | .dmi _ _ _ => true
  | .bypass => true
  | .tapReset => true
  | .unlockRequest _ => true
  | .dbgSysRead _ => true
  | .dbgSysWrite _ _ => true
  | .haltreq _ => true
  | .resumereq _ => true
  | .accessRegister command => decide (command.toNat / 2 ^ 24 = 0)
  | .dbgCanHalt _ _ => true
  | .dbgCanResume _ _ => true
  | .dbgPacSnap _ _ => true
  | .pacSnapshot => true
  | .mboxH2dPush _ _ => true
  | .mboxH2dPop _ => true
  | .mboxD2hPush _ _ => true
  | .mboxD2hPop _ _ => true
  | .illegal _ => true
  | .cellFlipFlopEdge _ _ => true
  | .bmPortAccess _ _ _ => true
  | .sliceClockEdge _ _ => true
  | .fsynUnlock _ => true
  | .pllUnlock _ => true
  | .embLock _ => true
  | .prbsError _ => true
  | .autoJoin => true
  | .trngOk => true
  | .bucketRecord => true
  | .missingEdgeTrip _ => true
  | .backupDomainPowered => true
  | .xtRestart => true
  | .porNLow => true

end Sys2Proof
end

