-- ==== Sys2Proof/Tests/Slice0.lean ====
section
/-! SUPPORT. Tests: well-formedness, worked examples of the spec, and for every statement with hypotheses a state and operands that meet
them, clause by clause. Expected results are the spec's own. -/

open Sys2Proof Sys2Proof.Machine

namespace Sys2Proof.Tests

section
set_option Elab.async false
set_option maxRecDepth 100000
set_option linter.unusedVariables false

/-! Well-formedness: each check refuses an ill-formed term. -/

theorem test_wf_registerWrite : (Instr.registerWrite 0 0x30000000 [1]).wellFormed = false := by decide
theorem test_wf_registerWrite_empty : (Instr.registerWrite 0 0x40000000 []).wellFormed = false := by decide
theorem test_wf_registerWrite_ok : (Instr.registerWrite 0 0x40000000 [1]).wellFormed = true := by decide
theorem test_wf_loadFull : (Instr.loadFull 2).wellFormed = false := by decide
theorem test_wf_loadPartial : (Instr.loadPartial 1).wellFormed = false := by decide
theorem test_wf_abort : (Instr.abort 1).wellFormed = false := by decide
theorem test_wf_empty : (Instr.empty 1).wellFormed = false := by decide
theorem test_wf_nocInject : (Instr.nocInject 0 1 0 3 0 [1, 2, 3]).wellFormed = false := by decide
theorem test_wf_frpRequest : (Instr.frpRequest 0 0 0 0 3 0 0 false [1]).wellFormed = false := by decide
theorem test_wf_pcieInbound : (Instr.pcieInbound 0 true 0 3 0 [1]).wellFormed = false := by decide
theorem test_wf_impRangeCommit : (Instr.impRangeCommit 0 1).wellFormed = false := by decide
theorem test_wf_impRangeDecommit : (Instr.impRangeDecommit 0 0x100).wellFormed = false := by decide
theorem test_wf_mgmtSpiWrite : (Instr.mgmtSpiWrite (List.replicate 65536 0)).wellFormed = false := by
  rw [Instr.wellFormed, List.length_replicate]; rfl
theorem test_wf_attestChallenge : (Instr.attestChallenge [1]).wellFormed = false := by decide
theorem test_wf_tempRead : (Instr.tempRead [1]).wellFormed = false := by decide
theorem test_wf_spi1Done : (Instr.spi1Done (List.replicate 65 0)).wellFormed = false := by decide +kernel
theorem test_wf_i2cDone : (Instr.i2cDone 0 0 (List.replicate 33 0)).wellFormed = false := by decide +kernel
theorem test_wf_flashErase : (Instr.flashErase 436 2).wellFormed = false := by decide
theorem test_wf_flashProgram : (Instr.flashProgram 436 1).wellFormed = false := by decide
theorem test_wf_accessRegister : (Instr.accessRegister 0x01000000).wellFormed = false := by decide

/-! Worked examples of the spec. -/

/-- The Timeline's example of Table TLN-15, step 4: S = 1,700,000,037, T = 714,670,080. -/
theorem test_frame_position : framePos (tlOf 1700000037 714670080 0) 1 = 0x8001CD2C := by decide +kernel
/-- The same capture's low and middle words. -/
theorem test_snap_words : tlFormat (tlOf 1700000037 714670080 0) % 2 ^ 64 = 0xF1252A9900000000 := by decide +kernel
/-- Table CAN-4, the row −5, 1. -/
theorem test_rounding_negative : (roundTrunc (-5) 1, roundHalfUp (-5) 1) = (-3, -2) := by decide
/-- Table CAN-4, the row −7, 2. -/
theorem test_rounding_tie : (roundTrunc (-7) 2, roundHalfUp (-7) 2) = (-2, -2) := by decide
/-- The example of FINAL_HALF_UP: 46 by ASHR 2, then EXT with SH 3 and FINAL. -/
theorem test_final_half_up : (roundBy 2 false 46 2, roundBy 2 true 11 3) = (11, 1) := by decide
/-- The same under HALF_UP. -/
theorem test_half_up_twice : (roundBy 1 false 46 2, roundBy 1 true 12 3) = (12, 2) := by decide
/-- The window of Paddock 77 (chapter 0). -/
theorem test_window_of_paddock : winPad 0x00014D000000 = 77 := by decide
/-- The address of Table SDC-2 goes to channel 3. -/
theorem test_sdram_channel : chanOf State.reset 0x23456780 = 3 := by decide +kernel
/-- Object 0x3003 is PAC_PREEMPT_SLACK, a U16 of OPERATOR (chapter 15's example); a value written reaches its register. -/
theorem test_object_write :
    (match nameOf 1 0x3003 0 with
      | .obj o => (o.ty, o.role, ((objWrite State.reset o 0 [0x60, 0]).1).regN Reg.PAC_PREEMPT_SLACK)
      | _ => (0, 0, 0)) = (3, 2, 0x60) := by decide +kernel
/-- LPP_CTL_H := 0x0464, then LPP_CTL_L := 0x0007 commit the word 0x0464_0007 (chapter 2's example). -/
theorem test_lpp_commit : (match execLppCtlHWrite 0x0464 State.reset with
    | .next t => (match execLppCtlLWrite 0x0007 t with | .next u => u.lpp.ctl.toNat | _ => 0) | _ => 0) = 0x04640007 := by decide +kernel

/-! Witnesses: the hypotheses of each statement hold together. -/

theorem wit_PlainRegisterWrite : ∃ (s : State) (init : Fin 512) (a : BitVec 48) (w : BitVec 32) (row : RegRow),
      (inCtrl a.toNat = true) ∧ (initUsed init = true) ∧ (secSees s init a.toNat false = true) ∧ (ioDown s a.toNat = false) ∧ (ctrlAt a.toNat 4 = .word row 0) ∧ (row.words = 1) ∧ (row.acc = .rw) ∧ (row.mask < 2 ^ 32) ∧ (regAct s init a.toNat (Nat.land w.toNat row.mask) w.toNat = none) ∧ (a.toNat ≠ Reg.SEC_CMD_CTL) :=
  ⟨State.reset, 436, 0x41000020#48, 5#32, ⟨"TL_NUMER", 0x20, [], 1, .rw, 1, 7, 0xFFFF⟩, by decide +kernel⟩

theorem wit_RefusedRegisterWrites :
    (∃ (s : State) (init : Fin 512) (a : BitVec 48) (w : BitVec 32) (row : RegRow),
      (inCtrl a.toNat = true) ∧ (initUsed init = true) ∧ (secSees s init a.toNat false = true) ∧ (ioDown s a.toNat = false) ∧ (ctrlAt a.toNat 4 = .word row 0) ∧ (row.words = 1) ∧ (row.acc = .ro) ∧ (a.toNat ≠ Reg.SEC_CMD_CTL)) ∧
    (∃ (s : State) (init : Fin 512) (a : BitVec 48) (w : BitVec 32) (row : RegRow),
      (inCtrl a.toNat = true) ∧ (initUsed init = true) ∧ (secSees s init a.toNat false = true) ∧ (ioDown s a.toNat = false) ∧ (ctrlAt a.toNat 4 = .word row 0) ∧ (row.words = 1) ∧ (row.acc = .rwm) ∧ (modeIn s row.modes = false) ∧ (a.toNat ≠ Reg.SEC_CMD_CTL)) ∧
    (∃ (s : State) (init : Fin 512) (a : BitVec 48) (data : List Byte),
      (inCtrl a.toNat = true) ∧ (initUsed init = true) ∧ (init ≠ 436) ∧ (init ≠ 437) ∧ (secSees s init a.toNat false = true) ∧ (ioDown s a.toNat = false) ∧ (ctrlAt a.toNat data.length = .none)) :=
  ⟨⟨State.reset, 436, 0x41000000#48, 5#32, ⟨"TL_STATE", 0, [], 1, .ro, 0, 0, 0xFFFF⟩, by decide +kernel⟩,
  ⟨State.reset.setFld Reg.PWR_MODE 3 0 6, 436, 0x41000054#48, 5#32, ⟨"TL_OSC_A_HZ", 0x54, [], 1, .rwm, 0, 0xFFFFFFFF, 0x36⟩, by decide +kernel⟩,
  ⟨State.reset, 440, 0x41000021#48, [0#8, 0#8, 0#8, 0#8], by decide +kernel⟩⟩

theorem wit_WideRegisters :
    (∃ (s : State) (init : Fin 512) (a : BitVec 48) (row : RegRow),
      (wideAt a.toNat = some (row, 0)) ∧ (ctrlAt a.toNat 4 = .word row 0) ∧ (1 < row.words) ∧ (inCtrl a.toNat = true) ∧ (initUsed init = true) ∧ (secSees s init a.toNat true = true) ∧ (ioDown s a.toNat = false)) ∧
    (∃ (s : State) (init : Fin 512) (a : BitVec 48) (v : BitVec 32) (row : RegRow) (w : Nat),
      (wideAt a.toNat = some (row, w)) ∧ (w + 1 = row.words) ∧ (row.acc = .ro) ∧ (inCtrl a.toNat = true) ∧ (initUsed init = true) ∧ (secSees s init a.toNat false = true) ∧ (ioDown s a.toNat = false)) :=
  ⟨⟨State.reset, 436, 0x42110000#48, ⟨"RB_REC_n", 0x110000, [(0x10, 64)], 4, .ro, 0x00000000, 0x00000000, 0xFFFF⟩, by decide +kernel⟩,
  ⟨State.reset, 436, 0x4211000C#48, 7#32, ⟨"RB_REC_n", 0x110000, [(0x10, 64)], 4, .ro, 0x00000000, 0x00000000, 0xFFFF⟩, 3, by decide +kernel⟩⟩

theorem wit_EventsW1cAndCounters :
    (∃ (s : State) (init : Fin 512) (b : Fin 15) (v same : BitVec 32),
      (b.val ≠ 13) ∧ (secSees s init (evtStatus b) false = true)) ∧
    (∃ (s : State) (init : Fin 512) (v same : BitVec 32) (u : Fin 2),
      ((uartOf s u).rx ≠ [])) ∧
    (∃ (s : State) (init : Fin 512) (b : Fin 15) (v same : BitVec 32),
      (secSees s init (evtCountClr b) false = true)) :=
  ⟨⟨(State.reset.raise 3 1).raise 3 2, 436, 3, 2#32, 1#32, by decide +kernel⟩,
  ⟨(State.reset.setSvc { uarts := [(1, { rx := [65] })] }), 436, 8#32, 0#32, 1, by decide +kernel⟩,
  ⟨State.reset, 436, 9, 1#32, 1#32, by decide +kernel⟩⟩

theorem wit_InterruptGate :
    (∃ (s : State) (b n : Nat),
      (n < 32)) ∧
    (∃ (s : State) (b n : Nat) (e : Word),
      (n < 32)) :=
  ⟨⟨State.reset, 3, 5, by decide +kernel⟩,
  ⟨State.reset, 1, 1, 5#32, by decide +kernel⟩⟩

theorem wit_OscillatorSwitch :
    (∃ (s : State) (b : Bool),
      (s.tim.ckt = true) ∧ (oscActive s = bit b) ∧ (oscGood s (1 - bit b) = true)) ∧
    (∃ (s : State),
      (s.tim.ckt = true) ∧ (s.tlState ≠ tlFree)) ∧
    (∃ (s : State),
      (s.tim.ckt = true) ∧ (s.tlState = tlFree)) ∧
    (∃ (s : State),
      (oscNominal s 1 ≠ 0) ∧ (s.flag Reg.TL_OSC_STAT 3 = true)) ∧
    (∃ (s : State),
      (oscNominal s 0 ≠ 0) ∧ (oscNominal s 1 ≠ 0) ∧ (s.flag Reg.TL_OSC_STAT 3 = true)) ∧
    (∃ (s : State),
      (s.flag Reg.TL_OSC_CFG 1 = true) ∧ (s.tim.ckt = true) ∧ (s.flag Reg.TL_OSC_STAT 3 = false) ∧ (oscActive s ≠ s.fld Reg.TL_OSC_CFG 0 0) ∧ (oscGood s (s.fld Reg.TL_OSC_CFG 0 0) = true)) :=
  ⟨⟨(((State.reset.setTim { ckt := true }).setFld Reg.TL_OSC_STAT 2 0 3).setRegN Reg.TL_OSC_A_HZ 40000000).setRegN Reg.TL_OSC_B_HZ 40000000, false, by decide +kernel⟩,
  ⟨(State.reset.setTim { ckt := true }).setFld Reg.TL_STATE 2 0 2, by decide +kernel⟩,
  ⟨State.reset.setTim { ckt := true }, by decide +kernel⟩,
  ⟨(((((State.reset.setTim { ckt := true }).setFld Reg.TL_OSC_STAT 2 0 3).setRegN Reg.TL_OSC_A_HZ 40000000).setRegN Reg.TL_OSC_B_HZ 40000000).setFlag Reg.TL_OSC_STAT 3 true), by decide +kernel⟩,
  ⟨(((((State.reset.setTim { ckt := true }).setFld Reg.TL_OSC_STAT 2 0 3).setRegN Reg.TL_OSC_A_HZ 40000000).setRegN Reg.TL_OSC_B_HZ 40000000).setFlag Reg.TL_OSC_STAT 3 true), by decide +kernel⟩,
  ⟨((((State.reset.setTim { ckt := true }).setFld Reg.TL_OSC_STAT 2 0 3).setRegN Reg.TL_OSC_A_HZ 40000000).setRegN Reg.TL_OSC_B_HZ 40000000).setRegN Reg.TL_OSC_CFG 3, by decide +kernel⟩⟩

theorem wit_References :
    (∃ (s : State) (r : Fin 2) (rising : Bool) (ofs : BitVec 18),
      (s.tim.ckt = true) ∧ (refEn s r = true) ∧ (s.flag (Reg.TL_REF_CFG r) 1 ≠ rising) ∧ (s.tlState = tlLocked) ∧ (refWindow s < (compensated s r (stampAt s ofs.toNat) - nearSec (compensated s r (stampAt s ofs.toNat)) * secUnit).natAbs)) ∧
    (∃ (s : State) (r : Fin 2),
      (refEn s r = true) ∧ (refQual s r = true) ∧ (losCnt s r ≤ (gnssOf s r).missing + 1)) ∧
    (∃ (s : State) (l : List Byte),
      (s.flag Reg.TL_TOD_CFG 5 = true) ∧ (s.flag Reg.TL_TOD_CFG 4 = false) ∧ (crc16 (l.take 14) ≠ fieldBe l 14 2)) ∧
    (∃ (s : State) (utc : Nat),
      (s.flag Reg.TL_TOD_CFG 5 = true) ∧ (s.flag Reg.TL_TOD_CFG 4 = true) ∧ (∀ r, r < 2 → labelFits (gnssOf s r) ((utc : Int) + s.utcOfs).toNat 0 = true)) ∧
    (∃ (s : State),
      (refEn s 2 = true) ∧ (refQual s 2 = true)) ∧
    (∃ (s : State) (v : BitVec 32),
      (refEn s 2 = true) ∧ (v ≠ 0x80000000#32) ∧ (s.tim.ptpFresh = true) ∧ (s.tlState = tlLocked) ∧ (s.regN Reg.TL_PTP_S_LO + s.fld Reg.TL_PTP_S_HI 15 0 * 2 ^ 32 ≠ tlS s.tim.tl)) ∧
    (∃ (s : State),
      (refEn s 2 = true) ∧ (refQual s 2 = true)) ∧
    (∃ (s : State),
      (refQual s 3 = true)) :=
  ⟨⟨((((State.reset.setTim { ckt := true, tl := 1000000000 * tcUnit }).setFlag (Reg.TL_REF_CFG 0) 0 true).setFld Reg.TL_STATE 2 0 2)), 0, true, 0, by decide +kernel⟩,
  ⟨((State.reset.setFlag (Reg.TL_REF_CFG 1) 0 true).setFld (Reg.TL_REF_CFG 1) 11 8 1).setFlag (Reg.TL_REF_STAT 1) 0 true, 1, by decide +kernel⟩,
  ⟨State.reset.setFlag Reg.TL_TOD_CFG 5 true, [0#8], by decide +kernel⟩,
  ⟨(State.reset.setFlag Reg.TL_TOD_CFG 5 true).setFlag Reg.TL_TOD_CFG 4 true, 1000, by decide +kernel⟩,
  ⟨(State.reset.setFlag (Reg.TL_REF_CFG 2) 0 true).setFlag (Reg.TL_REF_STAT 2) 0 true, by decide +kernel⟩,
  ⟨(((State.reset.setTim { ptpFresh := true }).setFlag (Reg.TL_REF_CFG 2) 0 true).setFld Reg.TL_STATE 2 0 2).setRegN Reg.TL_PTP_S_LO 5, 7#32, by decide +kernel⟩,
  ⟨(State.reset.setFlag (Reg.TL_REF_CFG 2) 0 true).setFlag (Reg.TL_REF_STAT 2) 0 true, by decide +kernel⟩,
  ⟨State.reset.setFlag (Reg.TL_REF_STAT 3) 0 true, by decide +kernel⟩⟩

theorem wit_Steps :
    (∃ (s : State) (r : Nat) (e : Int),
      (s.refAct = some r) ∧ (s.tim.err = some e) ∧ (s.tlState = tlAcquiring) ∧ (stepThr s r < e.natAbs)) ∧
    (∃ (s : State),
      (s.muted = true) ∧ (s.tim.pend = none)) ∧
    (∃ (s : State),
      (s.muted = false ∨ s.tim.pend ≠ none)) ∧
    (∃ (s : State) (p : PendStep),
      (s.tim.pend = some p) ∧ (s.tlState = tlFree)) ∧
    (∃ (s : State),
      (s.muted = true) ∧ (s.tlState = tlLocked) ∧ (s.refAct = some 0) ∧ (activeRef s = some 0) ∧ (refQual s 2 = false)) ∧
    (∃ (s : State),
      (s.muted = false)) ∧
    (∃ (s : State) (r : Nat),
      (s.refAct = some r) ∧ (s.tlState = tlHoldover) ∧ ((signed 32 (s.regN (Reg.TL_REF_OFS r)) * 256).natAbs ≤ refWindow s)) :=
  ⟨⟨((State.reset.setTim { err := some (-500000000) }).setFld Reg.TL_STATE 2 0 1).setFlag Reg.TL_STATE 7 true, 0, -500000000, by decide +kernel⟩,
  ⟨State.reset, by decide +kernel⟩,
  ⟨State.reset.setTim { pend := some ⟨4⟩ }, by decide +kernel⟩,
  ⟨State.reset.setTim { pend := some ⟨65536⟩ }, ⟨65536⟩, by decide +kernel⟩,
  ⟨((State.reset.setRegN Reg.TL_STATE 0x82).setFlag (Reg.TL_REF_CFG 0) 0 true).setFlag (Reg.TL_REF_STAT 0) 0 true, by decide +kernel⟩,
  ⟨((State.reset.setFld Reg.PWR_MODE 3 0 6).setFld Reg.OUT_STAT 15 8 0).setFlag Reg.OUT_STAT 0 true, by decide +kernel⟩,
  ⟨(State.reset.setFld Reg.TL_STATE 2 0 3).setFlag Reg.TL_STATE 7 true, 0, by decide +kernel⟩⟩

theorem wit_TimedOutputs_1 :
    (∃ (s : State) (n : Fin 8) (v : BitVec 32),
      ((s.tout n).queue.length < 4) ∧ (∀ l, (s.tout n).last = some l → l ≤ entryTime s (s.regN (Reg.TO_EDGE_S n)) (bitsOf v.toNat 30 0))) ∧
    (∃ (s : State) (n : Fin 8) (v : BitVec 32),
      (4 ≤ (s.tout n).queue.length)) ∧
    (∃ (s : State) (cell : Fin 864) (sec : BitVec 32) (tc : BitVec 31) (lv : Bool),
      ((s.tout (8 + cell)).queue = []) ∧ ((s.tout (8 + cell)).last = none)) ∧
    (∃ (s : State) (n : Fin 8) (v : BitVec 32),
      (v.getLsbD 0 = false) ∧ (s.flag (Reg.TO_CTL n) 0 = true)) ∧
    (∃ (s : State) (n : Fin 8) (v : BitVec 32),
      (v.getLsbD 0 = true) ∧ (v.getLsbD 1 = true) ∧ (s.flag (Reg.TO_CTL n) 0 = false) ∧ (periodicOk s n = false)) ∧
    (∃ (s : State) (n : Fin 872) (e : TimedEntry) (q : List TimedEntry),
      ((s.tout n).queue = e :: q) ∧ (toEn s n = true) ∧ ((s.tout n).headOk = false) ∧ (toPeriodic s n = false) ∧ (e.time * 65536 < s.tim.tl + 128 * 65536)) ∧
    (∃ (s : State) (n : Fin 872) (e : TimedEntry) (q : List TimedEntry),
      ((s.tout n).queue = e :: q) ∧ (toEn s n = true) ∧ ((s.tout n).headOk = false) ∧ (toPeriodic s n = false) ∧ (s.tim.tl + 128 * 65536 ≤ e.time * 65536)) ∧
    (∃ (s : State) (n : Fin 872) (e f : TimedEntry) (q : List TimedEntry),
      ((s.tout n).queue = e :: f :: q) ∧ (f.time ≠ e.time) ∧ ((s.tout n).headOk = true) ∧ (toEn s n = true) ∧ (e.time * 65536 ≤ s.tim.tl)) ∧
    (∃ (s : State) (n : Fin 8) (p : Nat),
      ((s.tout n).nextEdge = some p) ∧ (toEn s n = true) ∧ (p * 65536 ≤ s.tim.tl) ∧ ((s.tout n).up = false)) ∧
    (∃ (s : State) (n : Fin 8) (p : Nat),
      ((s.tout n).nextEdge = some p) ∧ (toEn s n = true) ∧ (p * 65536 ≤ s.tim.tl) ∧ ((s.tout n).up = true)) ∧
    (∃ (s : State) (cell : Fin 864) (w : BitVec 96) (q : List (BitVec 96)),
      ((tsInput s (10 + cell)).fifo = w :: q)) ∧
    (∃ (s : State) (n : Fin 8) (rising : Bool) (ofs : BitVec 18),
      (tsiTakes s n rising = true) ∧ ((tsInput s n).last = none) ∧ ((tsInput s n).fifo.length < 16)) :=
  ⟨⟨State.reset, 3, 0x80001000#32, by decide +kernel⟩,
  ⟨State.reset.setTim { outs := [(0, { queue := List.replicate 4 ⟨5000, true⟩ })] }, 0, 0#32, by decide +kernel⟩,
  ⟨State.reset, 5, 1#32, 9#31, true, by decide +kernel⟩,
  ⟨(State.reset.setTim { outs := [(0, { queue := [{ time := 5000, level := true }] })] }).setFlag (Reg.TO_CTL 0) 0 true, 0, 4#32, by decide +kernel⟩,
  ⟨State.reset.setRegN (Reg.TO_PERIOD 2) 7, 2, 3#32, by decide +kernel⟩,
  ⟨State.reset.setTim { tl := 4900 * 65536, outs := [(9, { queue := [{ time := 5000, level := true }] })] }, 9, ⟨5000, true⟩, [], by decide +kernel⟩,
  ⟨State.reset.setTim { tl := 4872 * 65536, outs := [(9, { queue := [{ time := 5000, level := true }] })] }, 9, ⟨5000, true⟩, [], by decide +kernel⟩,
  ⟨State.reset.setTim { tl := 5000 * 65536, outs := [(9, { headOk := true, queue := [{ time := 5000, level := true }, ⟨5008, false⟩] })] }, 9, ⟨5000, true⟩, ⟨5008, false⟩, [], by decide +kernel⟩,
  ⟨(State.reset.setTim { tl := 5000 * 65536, outs := [(1, { nextEdge := some 5000 })] }).setFlag (Reg.TO_CTL 1) 0 true, 1, 5000, by decide +kernel⟩,
  ⟨(State.reset.setTim { tl := 5000 * 65536, outs := [(1, { nextEdge := some 5000, up := true })] }).setFlag (Reg.TO_CTL 1) 0 true, 1, 5000, by decide +kernel⟩,
  ⟨State.reset.setTim { ins := [(12, { fifo := [7#96] })] }, 2, 7#96, [], by decide +kernel⟩,
  ⟨(State.reset.setFlag (Reg.TSI_CFG 4) 0 true), 4, true, 100, by decide +kernel⟩⟩

theorem wit_TimedOutputs_2 :
    (∃ (s : State) (n : Fin 8) (rising : Bool) (ofs : BitVec 18),
      (tsiTakes s n rising = true) ∧ ((tsInput s n).last = none) ∧ (16 ≤ (tsInput s n).fifo.length)) ∧
    (∃ (s : State) (n : Fin 10) (init : Fin 512) (w : BitVec 96) (q : List (BitVec 96)),
      ((tsInput s n).fifo = w :: q) ∧ (init.val ≠ 474)) ∧
    (∃ (s : State) (n : Fin 10) (init : Fin 512),
      ((tsInput s n).fifo = [])) ∧
    (∃ (s : State) (n : Fin 24),
      ((fsynOf s n).armed = true) ∧ ((fsynOf s n).anchor = s.tim.tl) ∧ (s.tim.tl < tlWrap)) ∧
    (∃ (s : State) (n : Fin 24),
      ((fsynOf s n).armed = true) ∧ ((fsynOf s n).anchor < s.tim.tl)) ∧
    (∃ (s : State) (n : Fin 24) (v : BitVec 32),
      (v.getLsbD 0 = true) ∧ (s.flag (Reg.FSYN_CTL n) 0 = false) ∧ (fsynRange s n = true)) ∧
    (∃ (s : State) (n : Fin 24) (v : BitVec 32),
      (v.getLsbD 0 = true) ∧ (s.flag (Reg.FSYN_CTL n) 0 = false) ∧ (fsynRange s n = false)) :=
  ⟨⟨(State.reset.setFlag (Reg.TSI_CFG 4) 0 true).setTim { ins := [(4, { fifo := List.replicate 16 0 })] }, 4, true, 100, by decide +kernel⟩,
  ⟨State.reset.setTim { ins := [(9, { fifo := [7#96] })] }, 9, 436, 7#96, [], by decide +kernel⟩,
  ⟨State.reset, 0, 436, by decide +kernel⟩,
  ⟨State.reset.setTim { tl := 4 * cktUnit, fsyns := [(7, { armed := true, anchor := 4 * cktUnit })] }, 7, by decide +kernel⟩,
  ⟨State.reset.setTim { tl := 4 * cktUnit, fsyns := [(7, { armed := true, anchor := 3 * cktUnit })] }, 7, by decide +kernel⟩,
  ⟨(State.reset.setRegN (Reg.FSYN_NUM 9) 1875).setRegN (Reg.FSYN_DEN 9) 4096, 9, 1#32, by decide +kernel⟩,
  ⟨(State.reset.setRegN (Reg.FSYN_NUM 9) 1).setRegN (Reg.FSYN_DEN 9) 4096, 9, 1#32, by decide +kernel⟩⟩

theorem wit_HoldoverEstimator :
    (∃ (s : State),
      (learning s = true) ∧ (s.ho.secs = 3599) ∧ (tempValid s = false)) ∧
    (∃ (s : State),
      (learning s = true)) ∧
    (∃ (s : State),
      (s.tlState = tlLocked)) ∧
    (∃ (s : State),
      (s.tlState = tlLocked)) ∧
    (∃ (s : State),
      (s.tlState ≠ tlHoldover)) ∧
    (∃ (s : State) (x : BitVec 16),
      (s.flag Reg.HO_TSENS_CFG 16 = true)) ∧
    (∃ (s : State),
      (s.flag Reg.HO_TSENS_CFG 16 = true) ∧ (s.ho.fails = 2)) ∧
    (∃ (s : State) (apart worse : Bool),
      (s.tlState = tlHoldover)) ∧
    (∃ (s : State),
      (s.tlState = tlHoldover) ∧ (s.regN Reg.HO_LIMIT < s.regN Reg.HO_UNC)) :=
  ⟨⟨((State.reset.setFld Reg.TL_STATE 2 0 2).setFlag Reg.HO_CTL 0 true).setHo { secs := 3599 }, by decide +kernel⟩,
  ⟨((State.reset.setFld Reg.TL_STATE 2 0 2).setFlag Reg.HO_CTL 0 true), by decide +kernel⟩,
  ⟨((State.reset.setFld Reg.TL_STATE 2 0 2).setFlag Reg.HO_CTL 0 true), by decide +kernel⟩,
  ⟨((State.reset.setFld Reg.TL_STATE 2 0 2).setFlag Reg.HO_CTL 0 true), by decide +kernel⟩,
  ⟨State.reset, by decide +kernel⟩,
  ⟨State.reset.setFlag Reg.HO_TSENS_CFG 16 true, 700#16, by decide +kernel⟩,
  ⟨(State.reset.setFlag Reg.HO_TSENS_CFG 16 true).setHo { fails := 2 }, by decide +kernel⟩,
  ⟨State.reset.setFld Reg.TL_STATE 2 0 3, true, false, by decide +kernel⟩,
  ⟨((State.reset.setFld Reg.TL_STATE 2 0 3).setRegN Reg.HO_LIMIT 5).setRegN Reg.HO_UNC 6, by decide +kernel⟩⟩

theorem wit_CalendarClock :
    (∃ (s : State),
      (s.flag Reg.CAL_STAT 1 = true)) ∧
    (∃ (s : State) (x : BitVec 16),
      (s.flag Reg.CAL_CTL 0 = true) ∧ (s.tlState = tlLocked)) ∧
    (∃ (s : State),
      (s.mode = mBackup)) ∧
    (∃ (s : State) (low : Bool),
      (s.mode ≠ mBackup)) ∧
    (∃ (s : State) (v : BitVec 32),
      (calModes s.mode = true)) ∧
    (∃ (s : State) (v : BitVec 32),
      (calModes s.mode = false)) ∧
    (∃ (s : State) (i : Fin 16),
      (i.val ∈ s.cal.leaps) ∧ (leapS s i ≤ tlS s.tim.tl)) :=
  ⟨⟨(State.reset.setFlag Reg.CAL_STAT 1 true).setCal { s := 2 ^ 48 - 1 }, by decide +kernel⟩,
  ⟨((State.reset.setFld Reg.TL_STATE 2 0 2).setFlag Reg.HO_CTL 0 true).setFlag Reg.CAL_CTL 0 true, 9#16, by decide +kernel⟩,
  ⟨State.reset.setFld Reg.PWR_MODE 3 0 0, by decide +kernel⟩,
  ⟨State.reset, true, by decide +kernel⟩,
  ⟨State.reset.setFld Reg.PWR_MODE 3 0 2, 7#32, by decide +kernel⟩,
  ⟨State.reset.setFld Reg.PWR_MODE 3 0 6, 7#32, by decide +kernel⟩,
  ⟨(State.reset.setCal { leaps := [4] }).setTim { tl := secUnit }, 4, by decide +kernel⟩⟩

theorem wit_LegacyPulsePort :
    (∃ (s : State) (v : BitVec 16),
      (v.getLsbD 0 = false)) ∧
    (∃ (s : State) (v : BitVec 16),
      (v.getLsbD 0 = true) ∧ (s.lpp.running = true)) ∧
    (∃ (s : State) (v : BitVec 16),
      (v.getLsbD 0 = true) ∧ (s.lpp.running = false) ∧ (s.lpp.fresh = true)) ∧
    (∃ (s : State) (v : BitVec 16),
      (s.lpp.en = false) ∧ (s.lpp.running = false)) ∧
    (∃ (s : State) (v : BitVec 16),
      (s.lpp.en = true)) ∧
    (∃ (s : State) (w : BitVec 32),
      (s.lpp.pend = some w)) ∧
    (∃ (s : State),
      (s.lpp.en = true) ∧ (s.tlState = tlLocked ∨ s.tlState = tlHoldover) ∧ (s.mode ≠ mSafe) ∧ (s.mode ≠ mShadow) ∧ (s.lpp.hoStopped = false) ∧ (s.lpp.running = false)) ∧
    (∃ (s : State) (b : Bool),
      (s.lpp.running = true)) ∧
    (∃ (s : State),
      (s.lpp.running = true) ∧ (315964819 ≤ tlS s.tim.tl) ∧ (s.lpp.ctl.getLsbD 2 = true)) ∧
    (∃ (s : State),
      (s.lpp.keep = false) ∧ (s.tlState = tlHoldover) ∧ (600 ≤ s.regN Reg.HO_ELAPSED) ∧ (s.lpp.hoStopped = false) ∧ (s.lpp.running = true)) :=
  ⟨⟨State.reset, 2#16, by decide +kernel⟩,
  ⟨State.reset.setLpp { running := true }, 3#16, by decide +kernel⟩,
  ⟨State.reset.setLpp { fresh := true }, 3#16, by decide +kernel⟩,
  ⟨State.reset, 1#16, by decide +kernel⟩,
  ⟨State.reset.setLpp { ctl := 1 }, 1#16, by decide +kernel⟩,
  ⟨State.reset.setLpp { pend := some 7 }, 7, by decide +kernel⟩,
  ⟨(State.reset.setLpp { ctl := 1 }).setFld Reg.TL_STATE 2 0 2, by decide +kernel⟩,
  ⟨State.reset.setLpp { running := true }, true, by decide +kernel⟩,
  ⟨(State.reset.setLpp { running := true, ctl := 4 }).setTim { tl := 315964819 * secUnit }, by decide +kernel⟩,
  ⟨((State.reset.setLpp { running := true }).setFld Reg.TL_STATE 2 0 3).setRegN Reg.HO_ELAPSED 600, by decide +kernel⟩⟩

theorem wit_Admission :
    (∃ (s : State) (b : Fin 16) (v : BitVec 32),
      (v.toNat % 64 = 0) ∧ (v.toNat < scratchSize) ∧ (s.pac.admQ.length < 64)) ∧
    (∃ (s : State) (b : Fin 16) (v : BitVec 32),
      (v.toNat % 64 ≠ 0 ∨ scratchSize ≤ v.toNat)) ∧
    (∃ (s : State) (b : Fin 16) (v : BitVec 32),
      (v.toNat % 64 = 0) ∧ (v.toNat < scratchSize) ∧ (64 ≤ s.pac.admQ.length)) ∧
    (∃ (s : State) (a : Adm) (q : List Adm),
      (s.pac.admQ = a :: q)) ∧
    (∃ (s : State) (a : Adm) (q : List Adm) (rd wr : Fin 8),
      (s.pac.admRead = a :: q) ∧ (a.bell < 16) ∧ (a.offset / 64 < 2 ^ 20) ∧ (admitCode (s.setPac { s.pac with admRead := q }) (a.offset / 64) rd false ≠ 0)) ∧
    (∃ (s : State) (a : Adm) (q : List Adm) (wr : Fin 8),
      (s.pac.admRead = a :: q) ∧ (a.offset / 64 < 2 ^ 20) ∧ (s.pac.ok = true) ∧ (admitCode (s.setPac { s.pac with admRead := q }) (a.offset / 64) 0 false = 0) ∧ (jBlocked s 1 = false)) :=
  ⟨⟨State.reset, 3, 128#32, by decide +kernel⟩,
  ⟨State.reset, 3, 0x4000000#32, by decide +kernel⟩,
  ⟨State.reset.setPac { admQ := List.replicate 64 ⟨0, 0⟩ }, 3, 128#32, by decide +kernel⟩,
  ⟨State.reset.setPac { admQ := [⟨1, 64⟩] }, ⟨1, 64⟩, [], by decide +kernel⟩,
  ⟨State.reset.setPac { admRead := [⟨1, 64⟩] }, ⟨1, 64⟩, [], 0, 0, by decide +kernel⟩,
  ⟨((((State.reset.setPac { admRead := [⟨1, 64⟩] }).setFlag Reg.PAC_CTL 0 true).setFld Reg.PWR_MODE 3 0 6).setRegN (Reg.PAC_GRP_LIM 0) 0xFFFFF).withMem [(0x10000041, 1), (0x10000045, 1)], ⟨1, 64⟩, [], 0, by decide +kernel⟩⟩

theorem wit_PacerDispatch :
    (∃ (s : State) (o : Op),
      (s.pac.ok = true) ∧ (∀ x ∈ s.pac.ops, x.cls < 2) ∧ (o ∈ s.pac.ops) ∧ (o.st = .waiting) ∧ (ptReached s.pt o.start = true) ∧ ((dueToStart s o.list).length ≤ 8)) ∧
    (∃ (s : State) (n : Fin 1048576) (o : Op),
      (∀ x ∈ s.pac.ops, x.cls < 2) ∧ (opAt s n = some o) ∧ (o.st = .blocked) ∧ (insSat s o = true)) ∧
    (∃ (s : State) (c : Fin 256) (s1 : State) (o : Op),
      (s.coreAsks c = true) ∧ (serve s 0 c = (s1, some o))) ∧
    (∃ (s : State) (n : Fin 1048576) (o : Op) (c : Nat),
      (opAt s n = some o) ∧ (s.flag Reg.PAC_CTL 1 = true) ∧ (o.cls = 0) ∧ (o.st = .ready) ∧ (o.group < 16) ∧ (s.flag (Reg.PAC_GRP_LIM o.group) 31 = true) ∧ ((List.range 256).any (fun c => mayTake o 0 c && s.coreAsks c) = false) ∧ (slackShort s o = true) ∧ (preemptCore s o = some c)) ∧
    (∃ (s : State) (p : Fin 512) (s1 : State) (o : Op),
      (s.flag (Reg.PAC_HP_CFG p) 0 = true) ∧ ((portTags s p).length < s.fld (Reg.PAC_HP_CFG p) 2 1 + 1) ∧ (s.flag (Reg.FAR_PAD_STAT (hpPaddock p)) 0 = false) ∧ (hpIsolated s p = false) ∧ (serve s 1 p = (s1, some o))) ∧
    (∃ (s : State) (n : Fin 1048576) (o : Op),
      (opAt s n = some o) ∧ (o.st = .done) ∧ (ptReached s.pt ((o.report + 8) % 2 ^ 32) = true)) :=
  ⟨⟨State.reset.setPac { ops := [({ id := 0, slot := 5, due := 100, start := 0, cost := 4, group := 2, cls := 0, list := 1, ordered := false, flow := 0, safety := false, seq := 0, graph := 0, nodeValid := false, kernel := 0, target := 3, any := false, teamMask := 0, relKind := 0, relId := 0, arg := 16, ins := [some 7, none], outs := [some 8, none], admitPt := 0, st := .waiting, worker := none } : Op)], nextId := 1 }, ({ id := 0, slot := 5, due := 100, start := 0, cost := 4, group := 2, cls := 0, list := 1, ordered := false, flow := 0, safety := false, seq := 0, graph := 0, nodeValid := false, kernel := 0, target := 3, any := false, teamMask := 0, relKind := 0, relId := 0, arg := 16, ins := [some 7, none], outs := [some 8, none], admitPt := 0, st := .waiting, worker := none } : Op), by decide +kernel⟩,
  ⟨State.reset.setPac { ops := [({ id := 0, slot := 5, due := 100, start := 0, cost := 4, group := 2, cls := 0, list := 1, ordered := false, flow := 0, safety := false, seq := 0, graph := 0, nodeValid := false, kernel := 0, target := 3, any := false, teamMask := 0, relKind := 0, relId := 0, arg := 16, ins := [some 7, none], outs := [some 8, none], admitPt := 0, st := .blocked, worker := none } : Op)], nextId := 1 }, 5, ({ id := 0, slot := 5, due := 100, start := 0, cost := 4, group := 2, cls := 0, list := 1, ordered := false, flow := 0, safety := false, seq := 0, graph := 0, nodeValid := false, kernel := 0, target := 3, any := false, teamMask := 0, relKind := 0, relId := 0, arg := 16, ins := [some 7, none], outs := [some 8, none], admitPt := 0, st := .blocked, worker := none } : Op), by decide +kernel⟩,
  ⟨((State.reset.setPac { ops := [({ id := 0, slot := 5, due := 100, start := 0, cost := 4, group := 2, cls := 0, list := 1, ordered := false, flow := 0, safety := false, seq := 0, graph := 0, nodeValid := false, kernel := 0, target := 3, any := false, teamMask := 0, relKind := 0, relId := 0, arg := 16, ins := [some 7, none], outs := [some 8, none], admitPt := 0, st := .ready, worker := none } : Op)], nextId := 1 }).setCore 3 { st := 1 }).setFlag (Reg.CA_CORE_CFG 3) 0 true |>.setFlag Reg.CA_CTL 0 true |>.setFld Reg.PWR_MODE 3 0 6, 3, (serve (((State.reset.setPac { ops := [({ id := 0, slot := 5, due := 100, start := 0, cost := 4, group := 2, cls := 0, list := 1, ordered := false, flow := 0, safety := false, seq := 0, graph := 0, nodeValid := false, kernel := 0, target := 3, any := false, teamMask := 0, relKind := 0, relId := 0, arg := 16, ins := [some 7, none], outs := [some 8, none], admitPt := 0, st := .ready, worker := none } : Op)], nextId := 1 }).setCore 3 { st := 1 }).setFlag (Reg.CA_CORE_CFG 3) 0 true |>.setFlag Reg.CA_CTL 0 true |>.setFld Reg.PWR_MODE 3 0 6) 0 3).1, ({ id := 0, slot := 5, due := 100, start := 0, cost := 4, group := 2, cls := 0, list := 1, ordered := false, flow := 0, safety := false, seq := 0, graph := 0, nodeValid := false, kernel := 0, target := 3, any := false, teamMask := 0, relKind := 0, relId := 0, arg := 16, ins := [some 7, none], outs := [some 8, none], admitPt := 0, st := .ready, worker := none } : Op), by decide +kernel⟩,
  ⟨(((State.reset.setPac { ops := [({ id := 0, slot := 5, due := 100, start := 0, cost := 4, group := 2, cls := 0, list := 1, ordered := false, flow := 0, safety := false, seq := 0, graph := 0, nodeValid := false, kernel := 0, target := 3, any := false, teamMask := 0, relKind := 0, relId := 0, arg := 16, ins := [some 7, none], outs := [some 8, none], admitPt := 0, st := .ready, worker := none } : Op), { (({ id := 0, slot := 5, due := 100, start := 0, cost := 4, group := 2, cls := 0, list := 1, ordered := false, flow := 0, safety := false, seq := 0, graph := 0, nodeValid := false, kernel := 0, target := 3, any := false, teamMask := 0, relKind := 0, relId := 0, arg := 16, ins := [some 7, none], outs := [some 8, none], admitPt := 0, st := .running, worker := some 3 } : Op)) with id := 1, slot := 6, group := 1 }], nextId := 2 }).setCore 3 { st := 2 }).setFlag (Reg.PAC_GRP_LIM 2) 31 true).setFlag Reg.PAC_CTL 1 true |>.setRegN Reg.PAC_PREEMPT_SLACK 200, 5, ({ id := 0, slot := 5, due := 100, start := 0, cost := 4, group := 2, cls := 0, list := 1, ordered := false, flow := 0, safety := false, seq := 0, graph := 0, nodeValid := false, kernel := 0, target := 3, any := false, teamMask := 0, relKind := 0, relId := 0, arg := 16, ins := [some 7, none], outs := [some 8, none], admitPt := 0, st := .ready, worker := none } : Op), 3, by decide +kernel⟩,
  ⟨(State.reset.setPac { ops := [({ id := 0, slot := 5, due := 100, start := 0, cost := 4, group := 2, cls := 1, list := 1, ordered := false, flow := 0, safety := false, seq := 0, graph := 0, nodeValid := false, kernel := 0, target := 3, any := false, teamMask := 0, relKind := 0, relId := 0, arg := 16, ins := [some 7, none], outs := [some 8, none], admitPt := 0, st := .ready, worker := none } : Op)], nextId := 1 }).setFld (Reg.CFG_PAD_STAT (hpPaddock 3)) 2 2 0 |>.setFlag (Reg.PAC_HP_CFG 3) 0 true, 3, (serve ((State.reset.setPac { ops := [({ id := 0, slot := 5, due := 100, start := 0, cost := 4, group := 2, cls := 1, list := 1, ordered := false, flow := 0, safety := false, seq := 0, graph := 0, nodeValid := false, kernel := 0, target := 3, any := false, teamMask := 0, relKind := 0, relId := 0, arg := 16, ins := [some 7, none], outs := [some 8, none], admitPt := 0, st := .ready, worker := none } : Op)], nextId := 1 }).setFld (Reg.CFG_PAD_STAT (hpPaddock 3)) 2 2 0 |>.setFlag (Reg.PAC_HP_CFG 3) 0 true) 1 3).1, ({ id := 0, slot := 5, due := 100, start := 0, cost := 4, group := 2, cls := 1, list := 1, ordered := false, flow := 0, safety := false, seq := 0, graph := 0, nodeValid := false, kernel := 0, target := 3, any := false, teamMask := 0, relKind := 0, relId := 0, arg := 16, ins := [some 7, none], outs := [some 8, none], admitPt := 0, st := .ready, worker := none } : Op), by decide +kernel⟩,
  ⟨(State.reset.setTim { tl := 8 * tickUnit }).setPac { ops := [({ id := 0, slot := 5, due := 100, start := 0, cost := 4, group := 2, cls := 0, list := 1, ordered := false, flow := 0, safety := false, seq := 0, graph := 0, nodeValid := false, kernel := 0, target := 3, any := false, teamMask := 0, relKind := 0, relId := 0, arg := 16, ins := [some 7, none], outs := [some 8, none], admitPt := 0, st := .done, worker := none } : Op)], nextId := 1 }, 5, ({ id := 0, slot := 5, due := 100, start := 0, cost := 4, group := 2, cls := 0, list := 1, ordered := false, flow := 0, safety := false, seq := 0, graph := 0, nodeValid := false, kernel := 0, target := 3, any := false, teamMask := 0, relKind := 0, relId := 0, arg := 16, ins := [some 7, none], outs := [some 8, none], admitPt := 0, st := .done, worker := none } : Op), by decide +kernel⟩⟩

theorem wit_PacerCompletion :
    (∃ (s : State) (n : Fin 1048576) (o : Op),
      (∀ x ∈ s.pac.ops, x.cls < 2) ∧ (s.pac.ok = true) ∧ (opAt s n = some o) ∧ (o.st = .running)) ∧
    (∃ (s : State) (n : Fin 1048576) (o : Op) (k : BitVec 8),
      (∀ x ∈ s.pac.ops, x.cls < 2) ∧ (s.pac.ok = true) ∧ (opAt s n = some o) ∧ (o.st = .running) ∧ (k ≠ 0)) ∧
    (∃ (s : State) (n : Fin 1048576) (k : BitVec 8),
      (∀ x ∈ s.pac.ops, x.cls < 2) ∧ (opAt s n = none)) ∧
    (∃ (s : State) (p : Fin 512) (tag : Fin 4) (o : Op),
      (hpIsolated s p = false) ∧ (s.pac.ok = true) ∧ (s.pac.tags = [⟨p, tag, o.id, false⟩]) ∧ (o ∈ s.pac.ops) ∧ (o.st = .running)) ∧
    (∃ (s : State) (p : Fin 512) (tag : Fin 4) (k : BitVec 8),
      (hpIsolated s p = false) ∧ (∀ u ∈ s.pac.tags, u.port = p.val → u.tag ≠ tag.val)) ∧
    (∃ (s : State) (ch : Fin 32) (o : Op),
      (s.pac.ok = true) ∧ ((heldBy s 2 ch).head? = some o) ∧ (∀ x ∈ s.pac.ops, x = o ∨ x.cls < 2)) ∧
    (∃ (s : State) (ch : Fin 32) (o : Op) (k : Fin 8),
      (s.pac.ok = true) ∧ ((heldBy s 2 ch).head? = some o) ∧ (k ≠ 0)) ∧
    (∃ (s : State) (o : Op),
      (s.pac.ok = true) ∧ ((heldBy s 3 0).head? = some o) ∧ (∀ x ∈ s.pac.ops, x = o ∨ x.cls < 2)) ∧
    (∃ (s : State) (n : Fin 1048576) (o : Op),
      (s.pac.ok = true) ∧ (opAt s n = some o) ∧ (unreported o = true) ∧ (ptReached s.pt o.due = true)) ∧
    (∃ (s : State) (n : Fin 1048576) (o : Op),
      (s.pac.ok = true) ∧ (opAt s n = some o) ∧ (relTurn s o = true) ∧ (o.relKind = 0)) ∧
    (∃ (s : State) (i n : Nat) (q : List (Nat × Nat)) (k : Fin 8),
      (s.pac.fetches = (i, n) :: q) ∧ (k ≠ 0)) ∧
    (∃ (s : State) (i n : Nat) (q : List (Nat × Nat)),
      (s.pac.fetches = (i, n) :: q) ∧ (n < 8) ∧ (tokLen s i = 8) ∧ ((s.tout n).queue = []) ∧ ((s.tout n).last = none)) :=
  ⟨⟨State.reset.setPac { ops := [({ id := 0, slot := 5, due := 100, start := 0, cost := 4, group := 2, cls := 0, list := 1, ordered := false, flow := 0, safety := false, seq := 0, graph := 0, nodeValid := false, kernel := 0, target := 3, any := false, teamMask := 0, relKind := 0, relId := 0, arg := 16, ins := [some 7, none], outs := [some 8, none], admitPt := 0, st := .running, worker := some 3 } : Op)], nextId := 1 }, 5, ({ id := 0, slot := 5, due := 100, start := 0, cost := 4, group := 2, cls := 0, list := 1, ordered := false, flow := 0, safety := false, seq := 0, graph := 0, nodeValid := false, kernel := 0, target := 3, any := false, teamMask := 0, relKind := 0, relId := 0, arg := 16, ins := [some 7, none], outs := [some 8, none], admitPt := 0, st := .running, worker := some 3 } : Op), by decide +kernel⟩,
  ⟨State.reset.setPac { ops := [({ id := 0, slot := 5, due := 100, start := 0, cost := 4, group := 2, cls := 0, list := 1, ordered := false, flow := 0, safety := false, seq := 0, graph := 0, nodeValid := false, kernel := 0, target := 3, any := false, teamMask := 0, relKind := 0, relId := 0, arg := 16, ins := [some 7, none], outs := [some 8, none], admitPt := 0, st := .running, worker := some 3 } : Op)], nextId := 1 }, 5, ({ id := 0, slot := 5, due := 100, start := 0, cost := 4, group := 2, cls := 0, list := 1, ordered := false, flow := 0, safety := false, seq := 0, graph := 0, nodeValid := false, kernel := 0, target := 3, any := false, teamMask := 0, relKind := 0, relId := 0, arg := 16, ins := [some 7, none], outs := [some 8, none], admitPt := 0, st := .running, worker := some 3 } : Op), 7, by decide +kernel⟩,
  ⟨State.reset, 5, 7, by decide +kernel⟩,
  ⟨(State.reset.setPac { ops := [({ id := 0, slot := 5, due := 100, start := 0, cost := 4, group := 2, cls := 1, list := 1, ordered := false, flow := 0, safety := false, seq := 0, graph := 0, nodeValid := false, kernel := 0, target := 3, any := false, teamMask := 0, relKind := 0, relId := 0, arg := 16, ins := [some 7, none], outs := [some 8, none], admitPt := 0, st := .running, worker := some 3 } : Op)], nextId := 1, tags := [⟨3, 1, 0, false⟩] }).setFld (Reg.CFG_PAD_STAT (hpPaddock 3)) 2 2 0, 3, 1, ({ id := 0, slot := 5, due := 100, start := 0, cost := 4, group := 2, cls := 1, list := 1, ordered := false, flow := 0, safety := false, seq := 0, graph := 0, nodeValid := false, kernel := 0, target := 3, any := false, teamMask := 0, relKind := 0, relId := 0, arg := 16, ins := [some 7, none], outs := [some 8, none], admitPt := 0, st := .running, worker := some 3 } : Op), by decide +kernel⟩,
  ⟨State.reset.setFld (Reg.CFG_PAD_STAT (hpPaddock 3)) 2 2 0, 3, 1, 0, by decide +kernel⟩,
  ⟨State.reset.setPac { ops := [({ id := 0, slot := 5, due := 100, start := 0, cost := 4, group := 2, cls := 2, list := 1, ordered := false, flow := 0, safety := false, seq := 0, graph := 0, nodeValid := false, kernel := 0, target := 3, any := false, teamMask := 0, relKind := 0, relId := 0, arg := 16, ins := [some 7, none], outs := [some 8, none], admitPt := 0, st := .running, worker := some 3 } : Op)], nextId := 1 }, 3, ({ id := 0, slot := 5, due := 100, start := 0, cost := 4, group := 2, cls := 2, list := 1, ordered := false, flow := 0, safety := false, seq := 0, graph := 0, nodeValid := false, kernel := 0, target := 3, any := false, teamMask := 0, relKind := 0, relId := 0, arg := 16, ins := [some 7, none], outs := [some 8, none], admitPt := 0, st := .running, worker := some 3 } : Op), by decide +kernel⟩,
  ⟨State.reset.setPac { ops := [({ id := 0, slot := 5, due := 100, start := 0, cost := 4, group := 2, cls := 2, list := 1, ordered := false, flow := 0, safety := false, seq := 0, graph := 0, nodeValid := false, kernel := 0, target := 3, any := false, teamMask := 0, relKind := 0, relId := 0, arg := 16, ins := [some 7, none], outs := [some 8, none], admitPt := 0, st := .running, worker := some 3 } : Op)], nextId := 1 }, 3, ({ id := 0, slot := 5, due := 100, start := 0, cost := 4, group := 2, cls := 2, list := 1, ordered := false, flow := 0, safety := false, seq := 0, graph := 0, nodeValid := false, kernel := 0, target := 3, any := false, teamMask := 0, relKind := 0, relId := 0, arg := 16, ins := [some 7, none], outs := [some 8, none], admitPt := 0, st := .running, worker := some 3 } : Op), 2, by decide +kernel⟩,
  ⟨State.reset.setPac { ops := [({ id := 0, slot := 5, due := 100, start := 0, cost := 4, group := 2, cls := 3, list := 1, ordered := false, flow := 0, safety := false, seq := 0, graph := 0, nodeValid := false, kernel := 0, target := 3, any := false, teamMask := 0, relKind := 0, relId := 0, arg := 16, ins := [some 7, none], outs := [some 8, none], admitPt := 0, st := .running, worker := some 0 } : Op)], nextId := 1 }, ({ id := 0, slot := 5, due := 100, start := 0, cost := 4, group := 2, cls := 3, list := 1, ordered := false, flow := 0, safety := false, seq := 0, graph := 0, nodeValid := false, kernel := 0, target := 3, any := false, teamMask := 0, relKind := 0, relId := 0, arg := 16, ins := [some 7, none], outs := [some 8, none], admitPt := 0, st := .running, worker := some 0 } : Op), by decide +kernel⟩,
  ⟨(State.reset.setTim { tl := 100 * tickUnit }).setPac { ops := [({ id := 0, slot := 5, due := 100, start := 0, cost := 4, group := 2, cls := 0, list := 1, ordered := false, flow := 0, safety := false, seq := 0, graph := 0, nodeValid := false, kernel := 0, target := 3, any := false, teamMask := 0, relKind := 0, relId := 0, arg := 16, ins := [some 7, none], outs := [some 8, none], admitPt := 0, st := .ready, worker := none } : Op)], nextId := 1 }, 5, ({ id := 0, slot := 5, due := 100, start := 0, cost := 4, group := 2, cls := 0, list := 1, ordered := false, flow := 0, safety := false, seq := 0, graph := 0, nodeValid := false, kernel := 0, target := 3, any := false, teamMask := 0, relKind := 0, relId := 0, arg := 16, ins := [some 7, none], outs := [some 8, none], admitPt := 0, st := .ready, worker := none } : Op), by decide +kernel⟩,
  ⟨(State.reset.setTim { tl := 100 * tickUnit }).setPac { ops := [({ id := 0, slot := 5, due := 100, start := 0, cost := 4, group := 2, cls := 0, list := 1, ordered := false, flow := 0, safety := false, seq := 0, graph := 0, nodeValid := false, kernel := 0, target := 3, any := false, teamMask := 0, relKind := 0, relId := 0, arg := 16, ins := [some 7, none], outs := [some 8, none], admitPt := 0, st := .held, worker := none } : Op)], nextId := 1 }, 5, ({ id := 0, slot := 5, due := 100, start := 0, cost := 4, group := 2, cls := 0, list := 1, ordered := false, flow := 0, safety := false, seq := 0, graph := 0, nodeValid := false, kernel := 0, target := 3, any := false, teamMask := 0, relKind := 0, relId := 0, arg := 16, ins := [some 7, none], outs := [some 8, none], admitPt := 0, st := .held, worker := none } : Op), by decide +kernel⟩,
  ⟨State.reset.setPac { fetches := [(1, 2)] }, 1, 2, [], 3, by decide +kernel⟩,
  ⟨(State.reset.setPac { fetches := [(1, 2)] }).withMem [(0x10000018, 8)], 1, 2, [], by decide +kernel⟩⟩

theorem wit_PacerConfiguration :
    (∃ (s : State) (g : Fin 256) (v : BitVec 32),
      (s.shadowing = false) ∧ (s.flag (Reg.PAC_GRAPH_CFG g) 0 = true) ∧ (v.getLsbD 0 = false) ∧ (s.pac.ok = true)) ∧
    (∃ (s : State) (f : Fin 1024) (v : BitVec 32),
      (s.shadowing = false) ∧ (s.flag (Reg.PAC_FLOW_CFG f) 0 = false) ∧ (v.getLsbD 0 = true)) ∧
    (∃ (s : State) (v : BitVec 32),
      (s.shadowing = false) ∧ (s.flag Reg.PAC_CTL 0 = true) ∧ (v.getLsbD 0 = false) ∧ (s.pac.ok = true)) ∧
    (∃ (s : State) (v : BitVec 32),
      (s.shadowing = false) ∧ (s.flag Reg.PAC_CTL 0 = false) ∧ (v.getLsbD 0 = true)) ∧
    (∃ (s : State) (v : BitVec 32),
      (s.shadowing = true)) ∧
    (∃ (s : State) (v : BitVec 32),
      (s.shadowing = false) ∧ (s.tok (bitsOf v.toNat 13 0) = tPoisoned) ∧ (∀ o ∈ s.pac.ops, bitsOf v.toNat 13 0 ∉ validToks o.outs)) ∧
    (∃ (s : State) (v : BitVec 32),
      (rbTestModes s.mode = false)) ∧
    (∃ (s : State) (v : BitVec 32),
      (rbTestModes s.mode = true) ∧ (v.getLsbD 31 = true) ∧ (s.pac.ops = [])) ∧
    (∃ (s : State) (cls : Fin 4) (w : Fin 512) (a : BitVec 48) (al : Fin 16),
      (s.pac.ops = []) ∧ (s.pac.lastRel = [])) ∧
    (∃ (s : State) (init : Fin 512) (e : BitVec 64) (q : List (BitVec 64)),
      (s.pac.lossQ = e :: q) ∧ (init.val ≠ 474)) :=
  ⟨⟨(State.reset).setFlag (Reg.PAC_GRAPH_CFG 0) 0 true, 0, 0#32, by decide +kernel⟩,
  ⟨State.reset, 1023, 0x70001#32, by decide +kernel⟩,
  ⟨(State.reset.setPac { ops := [({ id := 0, slot := 5, due := 100, start := 0, cost := 4, group := 2, cls := 0, list := 1, ordered := false, flow := 0, safety := false, seq := 0, graph := 0, nodeValid := false, kernel := 0, target := 3, any := false, teamMask := 0, relKind := 0, relId := 0, arg := 16, ins := [some 7, none], outs := [some 8, none], admitPt := 0, st := .ready, worker := none } : Op)], nextId := 1 }).setFlag Reg.PAC_CTL 0 true, 0#32, by decide +kernel⟩,
  ⟨State.reset, 1#32, by decide +kernel⟩,
  ⟨State.reset.setFld Reg.RELAY_STAT 1 0 2, 1#32, by decide +kernel⟩,
  ⟨State.reset.setTok 9 4, 9#32, by decide +kernel⟩,
  ⟨State.reset, 1#32, by decide +kernel⟩,
  ⟨State.reset.setFld Reg.PWR_MODE 3 0 6, 0x80000001#32, by decide +kernel⟩,
  ⟨State.reset, 0, 3, 0, 1, by decide +kernel⟩,
  ⟨State.reset.setPac { lossQ := [7] }, 436, 7, [], by decide +kernel⟩⟩

theorem wit_CanterIssue :
    (∃ (s : State) (c : Fin 256) (fresh : Bool),
      (canIssue s c = false)) ∧
    (∃ (s : State) (c : Fin 256),
      (canIssue s c = true)) ∧
    (∃ (s : State) (c : Fin 256),
      (canIssue s c = true) ∧ ((s.core c).bank.nextPc < 4096)) ∧
    (∃ (s : State) (c : Fin 256) (fresh : Bool),
      (canIssue s c = false)) ∧
    (∃ (s : State) (u : State) (c : Fin 256) (fresh : Bool),
      (openSlot s c fresh = (u, true))) ∧
    (∃ (s : State) (c : Fin 256),
      (canIssue s c = true) ∧ ((s.core c).bank.slot = none) ∧ ((s.core c).shadow = false) ∧ ((s.core c).chans = []) ∧ ((s.core c).failed = []) ∧ (∀ x ∈ s.pac.ops, x.cls < 2) ∧ (s.out.core = none)) :=
  ⟨⟨State.reset, 3, true, by decide +kernel⟩,
  ⟨State.reset.setCore 3 { st := 2, i := [(0, 7)], x := [(0, 9)] }, 3, by decide +kernel⟩,
  ⟨State.reset.setCore 3 { st := 2, i := [(0, 7)], x := [(0, 9)] }, 3, by decide +kernel⟩,
  ⟨State.reset, 3, true, by decide +kernel⟩,
  ⟨State.reset.setCore 3 { st := 2, i := [(0, 7)], x := [(0, 9)] }, State.reset.setCore 3 { st := 2, i := [(0, 7)], x := [(0, 9)] }, 3, false, by decide +kernel⟩,
  ⟨State.reset.setCore 3 { st := 2, i := [(0, 7)], x := [(0, 9)] }, 3, by decide +kernel⟩⟩

theorem wit_CanterMac :
    (∃ (s : State) (u : State) (c : Fin 256) (fresh : Bool) (k : Fin 4) (ra rb : Fin 32),
      (openSlot s c fresh = (u, true))) ∧
    (∃ (s : State) (u : State) (c : Fin 256) (fresh : Bool) (k : Fin 4) (ra rb : Fin 32),
      (openSlot s c fresh = (u, true))) ∧
    (∃ (s : State) (u : State) (c : Fin 256) (fresh : Bool) (k : Fin 4) (ra rb md : Fin 32),
      (openSlot s c fresh = (u, true))) ∧
    (∃ (s : State) (u : State) (c : Fin 256) (fresh : Bool) (k : Fin 4) (ra rb md : Fin 32),
      (openSlot s c fresh = (u, true))) ∧
    (∃ (s : State) (u : State) (c : Fin 256) (fresh : Bool) (k : Fin 4) (ra sh : Fin 32),
      (openSlot s c fresh = (u, true))) ∧
    (∃ (s : State) (u : State) (c : Fin 256) (fresh : Bool) (k j : Fin 4),
      (openSlot s c fresh = (u, true))) ∧
    (∃ (s : State) (u : State) (c : Fin 256) (fresh : Bool) (k j : Fin 4),
      (openSlot s c fresh = (u, true)) ∧ (j ≠ k)) ∧
    (∃ (s : State) (u : State) (c : Fin 256) (fresh : Bool) (k : Fin 4) (sh : Fin 64),
      (openSlot s c fresh = (u, true)) ∧ (sh.val ≤ 47)) ∧
    (∃ (s : State) (u : State) (c : Fin 256) (fresh : Bool) (k : Fin 4) (ra : Fin 32) (sh : Fin 64) (final : Bool),
      (openSlot s c fresh = (u, true)) ∧ (sh.val ≤ 47)) ∧
    (∃ (s : State) (u : State) (c : Fin 256) (fresh : Bool) (k : Fin 4) (ra : Fin 32) (sh : Fin 64) (final : Bool),
      (openSlot s c fresh = (u, true)) ∧ (sh.val ≤ 47)) :=
  ⟨⟨State.reset.setCore 3 { st := 2, i := [(0, 7)], x := [(0, 9)] }, State.reset.setCore 3 { st := 2, i := [(0, 7)], x := [(0, 9)] }, 3, false, 1, 5, 6, by decide +kernel⟩,
  ⟨State.reset.setCore 3 { st := 2, i := [(0, 7)], x := [(0, 9)] }, State.reset.setCore 3 { st := 2, i := [(0, 7)], x := [(0, 9)] }, 3, false, 1, 5, 6, by decide +kernel⟩,
  ⟨State.reset.setCore 3 { st := 2, i := [(0, 7)], x := [(0, 9)] }, State.reset.setCore 3 { st := 2, i := [(0, 7)], x := [(0, 9)] }, 3, false, 1, 5, 6, 20, by decide +kernel⟩,
  ⟨State.reset.setCore 3 { st := 2, i := [(0, 7)], x := [(0, 9)] }, State.reset.setCore 3 { st := 2, i := [(0, 7)], x := [(0, 9)] }, 3, false, 1, 5, 6, 20, by decide +kernel⟩,
  ⟨State.reset.setCore 3 { st := 2, i := [(0, 7)], x := [(0, 9)] }, State.reset.setCore 3 { st := 2, i := [(0, 7)], x := [(0, 9)] }, 3, false, 1, 5, 31, by decide +kernel⟩,
  ⟨State.reset.setCore 3 { st := 2, i := [(0, 7)], x := [(0, 9)] }, State.reset.setCore 3 { st := 2, i := [(0, 7)], x := [(0, 9)] }, 3, false, 1, 2, by decide +kernel⟩,
  ⟨State.reset.setCore 3 { st := 2, i := [(0, 7)], x := [(0, 9)] }, State.reset.setCore 3 { st := 2, i := [(0, 7)], x := [(0, 9)] }, 3, false, 1, 2, by decide +kernel⟩,
  ⟨State.reset.setCore 3 { st := 2, i := [(0, 7)], x := [(0, 9)] }, State.reset.setCore 3 { st := 2, i := [(0, 7)], x := [(0, 9)] }, 3, false, 1, 47, by decide +kernel⟩,
  ⟨State.reset.setCore 3 { st := 2, i := [(0, 7)], x := [(0, 9)] }, State.reset.setCore 3 { st := 2, i := [(0, 7)], x := [(0, 9)] }, 3, false, 1, 5, 47, true, by decide +kernel⟩,
  ⟨State.reset.setCore 3 { st := 2, i := [(0, 7)], x := [(0, 9)] }, State.reset.setCore 3 { st := 2, i := [(0, 7)], x := [(0, 9)] }, 3, false, 1, 5, 47, true, by decide +kernel⟩⟩

theorem wit_CanterVector :
    (∃ (s : State) (u : State) (c : Fin 256) (fresh : Bool) (ra rb md : Fin 32),
      (openSlot s c fresh = (u, true))) ∧
    (∃ (s : State) (u : State) (c : Fin 256) (fresh : Bool) (ra rb md : Fin 32),
      (openSlot s c fresh = (u, true))) ∧
    (∃ (s : State) (u : State) (c : Fin 256) (fresh : Bool) (ra rb md : Fin 32),
      (openSlot s c fresh = (u, true))) ∧
    (∃ (s : State) (u : State) (c : Fin 256) (fresh : Bool) (ra rb md : Fin 32),
      (openSlot s c fresh = (u, true))) ∧
    (∃ (s : State) (u : State) (c : Fin 256) (fresh : Bool) (ra rb : Fin 32),
      (openSlot s c fresh = (u, true))) ∧
    (∃ (s : State) (u : State) (c : Fin 256) (fresh : Bool) (ra rb : Fin 32),
      (openSlot s c fresh = (u, true))) ∧
    (∃ (s : State) (u : State) (c : Fin 256) (fresh : Bool) (d : Fin 32) (imm : BitVec 16),
      (openSlot s c fresh = (u, true))) ∧
    (∃ (s : State) (u : State) (c : Fin 256) (fresh : Bool) (d : Fin 32) (imm : BitVec 16),
      (openSlot s c fresh = (u, true))) ∧
    (∃ (s : State) (u : State) (c : Fin 256) (fresh : Bool),
      (openSlot s c fresh = (u, true))) ∧
    (∃ (s : State) (u : State) (c : Fin 256) (fresh : Bool),
      (openSlot s c fresh = (u, true))) ∧
    (∃ (s : State) (u : State) (c : Fin 256) (fresh : Bool) (m : Fin 16),
      (openSlot s c fresh = (u, true))) :=
  ⟨⟨State.reset.setCore 3 { st := 2, i := [(0, 7)], x := [(0, 9)] }, State.reset.setCore 3 { st := 2, i := [(0, 7)], x := [(0, 9)] }, 3, false, 1, 2, 3, by decide +kernel⟩,
  ⟨State.reset.setCore 3 { st := 2, i := [(0, 7)], x := [(0, 9)] }, State.reset.setCore 3 { st := 2, i := [(0, 7)], x := [(0, 9)] }, 3, false, 1, 2, 3, by decide +kernel⟩,
  ⟨State.reset.setCore 3 { st := 2, i := [(0, 7)], x := [(0, 9)] }, State.reset.setCore 3 { st := 2, i := [(0, 7)], x := [(0, 9)] }, 3, false, 1, 2, 3, by decide +kernel⟩,
  ⟨State.reset.setCore 3 { st := 2, i := [(0, 7)], x := [(0, 9)] }, State.reset.setCore 3 { st := 2, i := [(0, 7)], x := [(0, 9)] }, 3, false, 1, 2, 3, by decide +kernel⟩,
  ⟨State.reset.setCore 3 { st := 2, i := [(0, 7)], x := [(0, 9)] }, State.reset.setCore 3 { st := 2, i := [(0, 7)], x := [(0, 9)] }, 3, false, 1, 2, by decide +kernel⟩,
  ⟨State.reset.setCore 3 { st := 2, i := [(0, 7)], x := [(0, 9)] }, State.reset.setCore 3 { st := 2, i := [(0, 7)], x := [(0, 9)] }, 3, false, 17, 31, by decide +kernel⟩,
  ⟨State.reset.setCore 3 { st := 2, i := [(0, 7)], x := [(0, 9)] }, State.reset.setCore 3 { st := 2, i := [(0, 7)], x := [(0, 9)] }, 3, false, 1, 7, by decide +kernel⟩,
  ⟨State.reset.setCore 3 { st := 2, i := [(0, 7)], x := [(0, 9)] }, State.reset.setCore 3 { st := 2, i := [(0, 7)], x := [(0, 9)] }, 3, false, 1, 7, by decide +kernel⟩,
  ⟨State.reset.setCore 3 { st := 2, i := [(0, 7)], x := [(0, 9)] }, State.reset.setCore 3 { st := 2, i := [(0, 7)], x := [(0, 9)] }, 3, false, by decide +kernel⟩,
  ⟨State.reset.setCore 3 { st := 2, i := [(0, 7)], x := [(0, 9)] }, State.reset.setCore 3 { st := 2, i := [(0, 7)], x := [(0, 9)] }, 3, false, by decide +kernel⟩,
  ⟨State.reset.setCore 3 { st := 2, i := [(0, 7)], x := [(0, 9)] }, State.reset.setCore 3 { st := 2, i := [(0, 7)], x := [(0, 9)] }, 3, false, 5, by decide +kernel⟩⟩

theorem wit_CanterMemoryAndControl_1 :
    (∃ (s : State) (u : State) (c : Fin 256) (fresh : Bool) (mem : Fin 3) (p : Fin 16) (d : Fin 32),
      (openSlot s c fresh = (u, true)) ∧ (mem.val ≠ 2)) ∧
    (∃ (s : State) (u : State) (c : Fin 256) (fresh : Bool) (p : Fin 16) (d : Fin 32) (pm : Bool),
      (openSlot s c fresh = (u, true))) ∧
    (∃ (s : State) (u : State) (c : Fin 256) (fresh : Bool) (mem : Fin 2) (p : Fin 16) (d : Fin 32),
      (openSlot s c fresh = (u, true))) ∧
    (∃ (s : State) (u : State) (c : Fin 256) (fresh : Bool) (n m : Fin 16) (imm : BitVec 24),
      (openSlot s c fresh = (u, true))) ∧
    (∃ (s : State) (u : State) (c : Fin 256) (fresh : Bool) (n m : Fin 16) (d : Fin 32),
      (openSlot s c fresh = (u, true))) ∧
    (∃ (s : State) (u : State) (c : Fin 256) (fresh : Bool) (n : Fin 16) (da db : Fin 32),
      (openSlot s c fresh = (u, true))) ∧
    (∃ (s : State) (u : State) (c : Fin 256) (fresh : Bool) (n : Fin 16) (size : BitVec 4) (step : BitVec 16),
      (openSlot s c fresh = (u, true))) ∧
    (∃ (s : State) (u : State) (c : Fin 256) (fresh : Bool) (rm : Fin 4),
      (openSlot s c fresh = (u, true)) ∧ (rm.val ≠ 3)) ∧
    (∃ (s : State) (u : State) (c : Fin 256) (fresh : Bool) (n : BitVec 8),
      (openSlot s c fresh = (u, true))) ∧
    (∃ (s : State) (u : State) (c : Fin 256) (fresh : Bool) (cond : Fin 8) (d : Fin 32) (target : BitVec 12),
      (openSlot s c fresh = (u, true)) ∧ (cond.val ≠ 7) ∧ ((u.core c).bank.delay = false) ∧ ((u.core c).bank.nearEnd = false)) ∧
    (∃ (s : State) (u : State) (c : Fin 256) (fresh : Bool) (lc rot : Bool) (body : BitVec 12) (count : BitVec 16),
      (openSlot s c fresh = (u, true)) ∧ (loopBad lc body.toNat (u.core c).bank = false) ∧ (count ≠ 0)) ∧
    (∃ (s : State) (u : State) (c : Fin 256) (fresh : Bool) (lc rot : Bool) (body : BitVec 12),
      (openSlot s c fresh = (u, true)) ∧ (loopBad lc body.toNat (u.core c).bank = false)) :=
  ⟨⟨State.reset.setCore 3 { st := 2, i := [(0, 7)], x := [(0, 9)] }, State.reset.setCore 3 { st := 2, i := [(0, 7)], x := [(0, 9)] }, 3, false, 0, 5, 6, by decide +kernel⟩,
  ⟨State.reset.setCore 3 { st := 2, i := [(0, 7)], x := [(0, 9)] }, State.reset.setCore 3 { st := 2, i := [(0, 7)], x := [(0, 9)] }, 3, false, 5, 6, false, by decide +kernel⟩,
  ⟨State.reset.setCore 3 { st := 2, i := [(0, 7)], x := [(0, 9)] }, State.reset.setCore 3 { st := 2, i := [(0, 7)], x := [(0, 9)] }, 3, false, 1, 5, 6, by decide +kernel⟩,
  ⟨State.reset.setCore 3 { st := 2, i := [(0, 7)], x := [(0, 9)] }, State.reset.setCore 3 { st := 2, i := [(0, 7)], x := [(0, 9)] }, 3, false, 1, 2, 0xFFFFFF#24, by decide +kernel⟩,
  ⟨State.reset.setCore 3 { st := 2, i := [(0, 7)], x := [(0, 9)] }, State.reset.setCore 3 { st := 2, i := [(0, 7)], x := [(0, 9)] }, 3, false, 1, 2, 3, by decide +kernel⟩,
  ⟨State.reset.setCore 3 { st := 2, i := [(0, 7)], x := [(0, 9)] }, State.reset.setCore 3 { st := 2, i := [(0, 7)], x := [(0, 9)] }, 3, false, 1, 2, 3, by decide +kernel⟩,
  ⟨State.reset.setCore 3 { st := 2, i := [(0, 7)], x := [(0, 9)] }, State.reset.setCore 3 { st := 2, i := [(0, 7)], x := [(0, 9)] }, 3, false, 1, 5, 9, by decide +kernel⟩,
  ⟨State.reset.setCore 3 { st := 2, i := [(0, 7)], x := [(0, 9)] }, State.reset.setCore 3 { st := 2, i := [(0, 7)], x := [(0, 9)] }, 3, false, 2, by decide +kernel⟩,
  ⟨State.reset.setCore 3 { st := 2, i := [(0, 7)], x := [(0, 9)] }, State.reset.setCore 3 { st := 2, i := [(0, 7)], x := [(0, 9)] }, 3, false, 9, by decide +kernel⟩,
  ⟨State.reset.setCore 3 { st := 2, i := [(0, 7)], x := [(0, 9)] }, State.reset.setCore 3 { st := 2, i := [(0, 7)], x := [(0, 9)] }, 3, false, 0, 1, 9, by decide +kernel⟩,
  ⟨State.reset.setCore 3 { st := 2, i := [(0, 7)], x := [(0, 9)] }, State.reset.setCore 3 { st := 2, i := [(0, 7)], x := [(0, 9)] }, 3, false, false, true, 4, 9, by decide +kernel⟩,
  ⟨State.reset.setCore 3 { st := 2, i := [(0, 7)], x := [(0, 9)] }, State.reset.setCore 3 { st := 2, i := [(0, 7)], x := [(0, 9)] }, 3, false, false, true, 4, by decide +kernel⟩⟩

theorem wit_CanterMemoryAndControl_2 :
    (∃ (s : State) (u : State) (c : Fin 256) (fresh : Bool) (lc rot : Bool) (body : BitVec 12) (d : Fin 32),
      (openSlot s c fresh = (u, true)) ∧ (loopBad lc body.toNat (u.core c).bank = false) ∧ (bitsOf ((u.core c).bank.dReg d).toNat 15 0 = 0)) ∧
    (∃ (s : State) (u : State) (c : Fin 256) (fresh : Bool) (ch : Fin 4) (ps pl : Fin 16) (mem : Fin 4) (len : BitVec 16),
      (openSlot s c fresh = (u, true)) ∧ (mem.val ≠ 3) ∧ (len ≠ 0) ∧ (∀ e ∈ (u.core c).chans, e.1 ≠ ch.val)) ∧
    (∃ (s : State) (u : State) (c : Fin 256) (fresh : Bool) (ch : Fin 4) (pd pl : Fin 16) (mem : Fin 4) (len : BitVec 16),
      (openSlot s c fresh = (u, true)) ∧ (mem.val ≠ 3) ∧ (len ≠ 0) ∧ (∀ e ∈ (u.core c).chans, e.1 ≠ ch.val)) ∧
    (∃ (s : State) (u : State) (c : Fin 256) (fresh : Bool) (m : Fin 16),
      (openSlot s c fresh = (u, true)) ∧ (chansIdle (u.core c) (u.core c).live m = true) ∧ (chansFailed (u.core c) (u.core c).live m = false)) ∧
    (∃ (s : State) (u : State) (c : Fin 256) (fresh : Bool) (k : BitVec 8),
      (openSlot s c fresh = (u, true)) ∧ ((u.core c).bank.slot = none) ∧ ((u.core c).shadow = false) ∧ ((u.core c).chans = []) ∧ ((u.core c).failed = []) ∧ (∀ x ∈ u.pac.ops, x.cls < 2) ∧ (u.out.core = none)) :=
  ⟨⟨State.reset.setCore 3 { st := 2, i := [(0, 7)], x := [(0, 9)] }, State.reset.setCore 3 { st := 2, i := [(0, 7)], x := [(0, 9)] }, 3, false, false, true, 4, 1, by decide +kernel⟩,
  ⟨State.reset.setCore 3 { st := 2, i := [(0, 7)], x := [(0, 9)] }, State.reset.setCore 3 { st := 2, i := [(0, 7)], x := [(0, 9)] }, 3, false, 2, 1, 3, 0, 16, by decide +kernel⟩,
  ⟨State.reset.setCore 3 { st := 2, i := [(0, 7)], x := [(0, 9)] }, State.reset.setCore 3 { st := 2, i := [(0, 7)], x := [(0, 9)] }, 3, false, 2, 1, 3, 0, 16, by decide +kernel⟩,
  ⟨State.reset.setCore 3 { st := 2, i := [(0, 7)], x := [(0, 9)] }, State.reset.setCore 3 { st := 2, i := [(0, 7)], x := [(0, 9)] }, 3, false, 15, by decide +kernel⟩,
  ⟨State.reset.setCore 3 { st := 2, i := [(0, 7)], x := [(0, 9)] }, State.reset.setCore 3 { st := 2, i := [(0, 7)], x := [(0, 9)] }, 3, false, 0, by decide +kernel⟩⟩

theorem wit_CanterEvents :
    (∃ (s : State) (c : Fin 256) (ch : Fin 4) (x : Xfer),
      ((s.core c).chans = [(ch.val, x)]) ∧ (x.get = true) ∧ ((s.core c).bank.wait = .none) ∧ (∀ o ∈ s.pac.ops, o.cls < 2)) ∧
    (∃ (s : State) (c : Fin 256) (ch : Fin 4) (x : Xfer),
      ((s.core c).chans = [(ch.val, x)]) ∧ (x.get = false) ∧ ((s.core c).bank.wait = .none) ∧ (∀ o ∈ s.pac.ops, o.cls < 2)) ∧
    (∃ (s : State) (c : Fin 256) (n : Nat) (o : Op),
      ((s.core c).grant = some n) ∧ (coreOp s c n = some o) ∧ (s.flag Reg.CA_CTL (teamOf c) = true) ∧ ((s.core c).st ≠ cHalted) ∧ (badKernel o = false)) ∧
    (∃ (s : State) (c : Fin 256) (n : Nat) (o : Op),
      ((s.core c).grant = some n) ∧ (coreOp s c n = some o) ∧ (s.flag Reg.CA_CTL (teamOf c) = false)) ∧
    (∃ (s : State) (c : Fin 256) (n : Nat) (o : Op),
      ((s.core c).pgrant = some n) ∧ ((s.core c).st = cRunning) ∧ ((s.core c).bank.slot = none) ∧ (coreOp s c n = some o) ∧ (badKernel o = false)) ∧
    (∃ (s : State) (c : Fin 256) (n : Nat) (q : List Nat),
      ((s.core c).drop = n :: q) ∧ ((s.core c).bank.slot = some n) ∧ ((s.core c).shadow = false) ∧ (s.out.core = none)) ∧
    (∃ (s : State) (team : Fin 4) (w : Fin 8192) (v : BitVec 32) (k : Nat),
      (k < 64)) ∧
    (∃ (s : State),
      (s.flag Reg.CA_STAT 8 = true) ∧ (s.mode = mStable) ∧ (∀ c, c < 256 → (s.core c).chans = [])) ∧
    (∃ (s : State),
      (s.flag Reg.CA_STAT 8 = true) ∧ (s.fld Reg.CA_STAT 7 4 ≠ 0)) :=
  ⟨⟨State.reset.setCore 3 { st := 2, chans := [(1, ⟨false, true, 0, 0, 0x10000000, 1⟩)] }, 3, 1, ⟨false, true, 0, 0, 0x10000000, 1⟩, by decide +kernel⟩,
  ⟨State.reset.setCore 3 { st := 2, chans := [(1, ⟨false, false, 0, 0, 0x10000000, 1⟩)] }, 3, 1, ⟨false, false, 0, 0, 0x10000000, 1⟩, by decide +kernel⟩,
  ⟨((State.reset.setPac { ops := [({ id := 0, slot := 5, due := 100, start := 0, cost := 4, group := 2, cls := 0, list := 1, ordered := false, flow := 0, safety := false, seq := 0, graph := 0, nodeValid := false, kernel := 0, target := 3, any := false, teamMask := 0, relKind := 0, relId := 0, arg := 16, ins := [some 7, none], outs := [some 8, none], admitPt := 0, st := .running, worker := some 3 } : Op)], nextId := 1 }).setCore 3 { st := 1, grant := some 5 }).setFlag Reg.CA_CTL 0 true, 3, 5, ({ id := 0, slot := 5, due := 100, start := 0, cost := 4, group := 2, cls := 0, list := 1, ordered := false, flow := 0, safety := false, seq := 0, graph := 0, nodeValid := false, kernel := 0, target := 3, any := false, teamMask := 0, relKind := 0, relId := 0, arg := 16, ins := [some 7, none], outs := [some 8, none], admitPt := 0, st := .running, worker := some 3 } : Op), by decide +kernel⟩,
  ⟨(State.reset.setPac { ops := [({ id := 0, slot := 5, due := 100, start := 0, cost := 4, group := 2, cls := 0, list := 1, ordered := false, flow := 0, safety := false, seq := 0, graph := 0, nodeValid := false, kernel := 0, target := 3, any := false, teamMask := 0, relKind := 0, relId := 0, arg := 16, ins := [some 7, none], outs := [some 8, none], admitPt := 0, st := .running, worker := some 3 } : Op)], nextId := 1 }).setCore 3 { st := 1, grant := some 5 } |>.setFlag Reg.CA_CTL 0 false, 3, 5, ({ id := 0, slot := 5, due := 100, start := 0, cost := 4, group := 2, cls := 0, list := 1, ordered := false, flow := 0, safety := false, seq := 0, graph := 0, nodeValid := false, kernel := 0, target := 3, any := false, teamMask := 0, relKind := 0, relId := 0, arg := 16, ins := [some 7, none], outs := [some 8, none], admitPt := 0, st := .running, worker := some 3 } : Op), by decide +kernel⟩,
  ⟨(State.reset.setPac { ops := [({ id := 0, slot := 5, due := 100, start := 0, cost := 4, group := 2, cls := 0, list := 1, ordered := false, flow := 0, safety := false, seq := 0, graph := 0, nodeValid := false, kernel := 0, target := 3, any := false, teamMask := 0, relKind := 0, relId := 0, arg := 16, ins := [some 7, none], outs := [some 8, none], admitPt := 0, st := .running, worker := some 3 } : Op)], nextId := 1 }).setCore 3 { st := 2, pgrant := some 5 }, 3, 5, ({ id := 0, slot := 5, due := 100, start := 0, cost := 4, group := 2, cls := 0, list := 1, ordered := false, flow := 0, safety := false, seq := 0, graph := 0, nodeValid := false, kernel := 0, target := 3, any := false, teamMask := 0, relKind := 0, relId := 0, arg := 16, ins := [some 7, none], outs := [some 8, none], admitPt := 0, st := .running, worker := some 3 } : Op), by decide +kernel⟩,
  ⟨State.reset.setCore 3 { st := 2, drop := [5], bank0 := { slot := some 5 } }, 3, 5, [], by decide +kernel⟩,
  ⟨State.reset, 2, 8191, 7#32, 63, by decide +kernel⟩,
  ⟨(State.reset.setFlag Reg.CA_STAT 8 true).setFld Reg.PWR_MODE 3 0 9, by decide +kernel⟩,
  ⟨State.reset.setRegN Reg.CA_STAT 0x1F0, by decide +kernel⟩⟩

theorem wit_FabricCells :
    (∃ (s : State) (c : Fin 9437184),
      (padGsr s (c.val / 65536) = false) ∧ ((cellWord s c).testBit 11 = true) ∧ (tapRuns s (c.val / 65536) (stallBits s (c.val / 16) (5 * bitsOf (cellWord s c) 18 17) 5) = true) ∧ ((s.net (.pin c.val 7) != (cellWord s c).testBit 13) = true)) ∧
    (∃ (s : State) (c : Fin 9437184),
      (padGsr s (c.val / 65536) = false) ∧ ((cellWord s c).testBit 11 = true) ∧ (tapRuns s (c.val / 65536) (stallBits s (c.val / 16) (5 * bitsOf (cellWord s c) 18 17) 5) = true) ∧ ((s.net (.pin c.val 7) != (cellWord s c).testBit 13) = false) ∧ ((s.net (.pin c.val 6) != (cellWord s c).testBit 12) = true) ∧ ((cellWord s c).testBit 10 = false)) ∧
    (∃ (s : State) (c : Fin 9437184),
      (padGsr s (c.val / 65536) = false) ∧ ((cellWord s c).testBit 11 = true) ∧ (tapRuns s (c.val / 65536) (stallBits s (c.val / 16) (5 * bitsOf (cellWord s c) 18 17) 5) = true) ∧ ((s.net (.pin c.val 7) != (cellWord s c).testBit 13) = false) ∧ ((s.net (.pin c.val 6) != (cellWord s c).testBit 12) = true) ∧ ((cellWord s c).testBit 10 = true)) ∧
    (∃ (s : State) (c : Fin 9437184) (late : Bool),
      (padGsr s (c.val / 65536) = false) ∧ ((cellWord s c).testBit 11 = true) ∧ (tapRuns s (c.val / 65536) (stallBits s (c.val / 16) (5 * bitsOf (cellWord s c) 18 17) 5) = true) ∧ ((s.net (.pin c.val 7) != (cellWord s c).testBit 13) = false) ∧ ((s.net (.pin c.val 6) != (cellWord s c).testBit 12) = false) ∧ (late = false ∨ (cellWord s c).testBit 15 = false)) ∧
    (∃ (s : State) (c : Fin 9437184) (late : Bool),
      (padGsr s (c.val / 65536) = true ∨ (cellWord s c).testBit 11 = false ∨ tapRuns s (c.val / 65536) (stallBits s (c.val / 16) (5 * bitsOf (cellWord s c) 18 17) 5) = false)) :=
  ⟨⟨((State.reset.setFld (Reg.CFG_PAD_STAT 0) 3 0 1).setFlag (Reg.GCK_STAT 0) 0 true).setFab { frames := [(0, { data := BitVec.ofNat 2048 0x6800 }), (4, { data := BitVec.ofNat 2048 0xFFFFFFFFFFFFFF })] }, 0, by decide +kernel⟩,
  ⟨((State.reset.setFld (Reg.CFG_PAD_STAT 0) 3 0 1).setFlag (Reg.GCK_STAT 0) 0 true).setFab { frames := [(0, { data := BitVec.ofNat 2048 0x1800 }), (4, { data := BitVec.ofNat 2048 0xFFFFFFFFFFFFFF })] }, 0, by decide +kernel⟩,
  ⟨((State.reset.setFld (Reg.CFG_PAD_STAT 0) 3 0 1).setFlag (Reg.GCK_STAT 0) 0 true).setFab { frames := [(0, { data := BitVec.ofNat 2048 0x1C40 }), (4, { data := BitVec.ofNat 2048 0xFFFFFFFFFFFFFF })] }, 0, by decide +kernel⟩,
  ⟨((State.reset.setFld (Reg.CFG_PAD_STAT 0) 3 0 1).setFlag (Reg.GCK_STAT 0) 0 true).setFab { frames := [(0, { data := BitVec.ofNat 2048 0x800 }), (4, { data := BitVec.ofNat 2048 0xFFFFFFFFFFFFFF })] }, 0, true, by decide +kernel⟩,
  ⟨State.reset, 9437183, true, by decide +kernel⟩⟩

theorem wit_FabricClocks :
    (∃ (s : State) (k : Fin 48) (v : BitVec 32),
      (s.flag (Reg.GCK_CFG k) 16 = false) ∧ (v.getLsbD 16 = true) ∧ (5 ≤ v.toNat % 32) ∧ (v.toNat % 32 ≤ 23)) ∧
    (∃ (s : State) (k : Fin 48) (v : BitVec 32),
      (s.flag (Reg.GCK_CFG k) 16 = true) ∧ (bitsOf v.toNat 11 0 ≠ s.fld (Reg.GCK_CFG k) 11 0 ∧ v.toNat / 32 % 8 = 0 ∧ v.toNat < 2 ^ 17 ∧ v.toNat / 2 ^ 12 % 16 = 0)) ∧
    (∃ (s : State) (k : Fin 48) (v : BitVec 32),
      (v.getLsbD 16 = true) ∧ (v.toNat % 32 < 5 ∨ 23 < v.toNat % 32)) ∧
    (∃ (s : State) (k : Fin 48) (v : BitVec 32),
      (s.flag (Reg.GCK_CFG k) 16 = false) ∧ (v.getLsbD 16 = false)) ∧
    (∃ (s : State) (k : Fin 48),
      (s.flag (Reg.GCK_CFG k) 16 = true) ∧ (s.flag (Reg.FSYN_CTL (gckSrc (s.regN (Reg.GCK_CFG k)))) 1 = true)) :=
  ⟨⟨State.reset, 47, 0x10005#32, by decide +kernel⟩,
  ⟨State.reset.setRegN (Reg.GCK_CFG 1) 0x10005, 1, 0x10006#32, by decide +kernel⟩,
  ⟨State.reset, 1, 0x10004#32, by decide +kernel⟩,
  ⟨State.reset, 1, 0x10F#32, by decide +kernel⟩,
  ⟨(State.reset.setRegN (Reg.GCK_CFG 1) 0x10005).setRegN (Reg.FSYN_CTL 5) 3, 1, by decide +kernel⟩⟩

theorem wit_FabricBlockMemory :
    (∃ (s : State) (m : Fin 9216),
      (padGsr s (m.val / 64) = false) ∧ (s.out.bist ≠ some (256 + m.val)) ∧ (tapRuns s (m.val / 64) (bmTap s m false) = true) ∧ (s.fab.flip = none) ∧ ((bmPins s m false).en = true) ∧ (bmCfg s m 12 1 ≠ 1) ∧ (bmCfg s m 0 3 ≠ 7) ∧ (Nat.land (bmPins s m false).we (weMask (bmCfg s m 0 3)) ≠ 0)) ∧
    (∃ (s : State) (m : Fin 9216),
      (padGsr s (m.val / 64) = false) ∧ (s.out.bist ≠ some (256 + m.val)) ∧ (tapRuns s (m.val / 64) (bmTap s m false) = true) ∧ (s.fab.flip = none) ∧ ((bmPins s m false).en = true) ∧ (bmCfg s m 12 1 ≠ 1) ∧ (bmCfg s m 0 3 ≠ 7) ∧ (Nat.land (bmPins s m false).we (weMask (bmCfg s m 0 3)) = 0)) ∧
    (∃ (s : State) (m : Fin 9216),
      (padGsr s (m.val / 64) = false) ∧ (s.out.bist ≠ some (256 + m.val)) ∧ (tapRuns s (m.val / 64) (bmTap s m false) = true) ∧ (s.fab.flip = none) ∧ ((bmPins s m false).en = true) ∧ (bmCfg s m 12 1 = 1) ∧ (bmCfg s m 0 3 = 6) ∧ ((bmPins s m true).en = false) ∧ (Nat.land (bmPins s m false).we 255 ≠ 0)) ∧
    (∃ (s : State) (m : Fin 9216),
      (padGsr s (m.val / 64) = false) ∧ (s.out.bist ≠ some (256 + m.val)) ∧ (tapRuns s (m.val / 64) (bmTap s m false) = true) ∧ (s.fab.flip = none) ∧ ((bmPins s m false).en = true) ∧ (bmCfg s m 12 1 = 1) ∧ (bmCfg s m 0 3 = 6) ∧ ((bmPins s m true).en = false) ∧ (Nat.land (bmPins s m false).we 255 = 0)) ∧
    (∃ (s : State) (m : Fin 9216) (a b : Bool),
      (padGsr s (m.val / 64) = true)) ∧
    (∃ (s : State) (v : BitVec 32),
      (modeIn s testModes = false)) ∧
    (∃ (s : State) (v : BitVec 32),
      (modeIn s testModes = true) ∧ (v.getLsbD 31 = true) ∧ (s.fld Reg.BM_FLIP_SEL 13 0 < 9216) ∧ (padState s (s.fld Reg.BM_FLIP_SEL 13 0 / 64) ≠ 2)) ∧
    (∃ (s : State) (v : BitVec 32),
      (modeIn s testModes = true) ∧ (v.getLsbD 31 = false)) :=
  ⟨⟨(State.reset.setFld (Reg.CFG_PAD_STAT 0) 3 0 1).setFlag (Reg.GCK_STAT 0) 0 true |>.setFab { frames := [(42, { data := BitVec.ofNat 2048 0x783C1E0F0783C1E0F0783C1E0F0783C1E0F0783C1E0F0783C1E1F0783C1E1F0783C1E0F0783C1E0F0783C1E0F0783C1E0F0783C1E0F0783C1E0F0783C1E0F0783C1E0F0783C1E1F0783C1E0F0783C1E00000000000000000000000000000000000000000000000000000000000000000000000000000000000000000000000000000000000000000000000000000000000000000000000000000000000000000000000000000000000000000000000000000000000000000000000000000000000000000000000000000000000000000000000000000000000000000000000000000000000000000000000000000000000000000000000000000000000000000 }), (43, { data := BitVec.ofNat 2048 0x783C1E0F0783C1E0F0783C1E0F0783C1E0F0783C1E0F0783C1E0F0783C1E0F0 }), (474, { data := BitVec.ofNat 2048 0x783C1E0F0783C1E0F0783C1E0F0783C1E0F0783C1E0F0783C1E0F0783C1E0F0783C1E0F0783C1E0F0783C1E0F0783C1E0F0783C1E0F0783C1E0F0783C1E0F0783C1E0F0783C1E0F0783C1E0F0783C1E00000000000000000000000000000000000000000000000000000000000000000000000000000000000000000000000000000000000000000000000000000000000000000000000000000000000000000000000000000000000000000000000000000000000000000000000000000000000000000000000000000000000000000000000000000000000000000000000000000000000000000000000000000000000000000000000000000000000000000 }), (475, { data := BitVec.ofNat 2048 0x783C1E0F0783C1E0F0783C1E0F0783C1E0F0783C1E0F0783C1E0F0783C1E0F0 })] }, 0, by decide +kernel⟩,
  ⟨(State.reset.setFld (Reg.CFG_PAD_STAT 0) 3 0 1).setFlag (Reg.GCK_STAT 0) 0 true |>.setFab { frames := [(42, { data := BitVec.ofNat 2048 0x783C1E0F0783C1E0F0783C1E0F0783C1E0F0783C1E0F0783C1E1F0783C1E0F0783C1E0F0783C1E0F0783C1E0F0783C1E0F0783C1E0F0783C1E0F0783C1E0F0783C1E0F0783C1E0F0783C1E0F0783C1E00000000000000000000000000000000000000000000000000000000000000000000000000000000000000000000000000000000000000000000000000000000000000000000000000000000000000000000000000000000000000000000000000000000000000000000000000000000000000000000000000000000000000000000000000000000000000000000000000000000000000000000000000000000000000000000000000000000000000000 }), (43, { data := BitVec.ofNat 2048 0x783C1E0F0783C1E0F0783C1E0F0783C1E0F0783C1E0F0783C1E0F0783C1E0F0 }), (474, { data := BitVec.ofNat 2048 0x783C1E0F0783C1E0F0783C1E0F0783C1E0F0783C1E0F0783C1E0F0783C1E0F0783C1E0F0783C1E0F0783C1E0F0783C1E0F0783C1E0F0783C1E0F0783C1E0F0783C1E0F0783C1E0F0783C1E0F0783C1E00000000000000000000000000000000000000000000000000000000000000000000000000000000000000000000000000000000000000000000000000000000000000000000000000000000000000000000000000000000000000000000000000000000000000000000000000000000000000000000000000000000000000000000000000000000000000000000000000000000000000000000000000000000000000000000000000000000000000000 }), (475, { data := BitVec.ofNat 2048 0x783C1E0F0783C1E0F0783C1E0F0783C1E0F0783C1E0F0783C1E0F0783C1E0F0 })] }, 0, by decide +kernel⟩,
  ⟨(State.reset.setFld (Reg.CFG_PAD_STAT 0) 3 0 1).setFlag (Reg.GCK_STAT 0) 0 true |>.setFab { frames := [(42, { data := BitVec.ofNat 2048 0x783C1E0F0783C1E0F0783C1E0F0783C1E0F0783C1E0F0783C1E1F0783C1E1F0783C1E0F0783C1E0F0783C1E0F0783C1E0F0783C1E0F0783C1E0F0783C1E0F0783C1E0F0783C1E1F0783C1E0F0783C1E00000000000000000000000000000100600000000000000000000000000000000000000000000000000000000000000000000000000000000000000000000000000000000000000000000000000000000000000000000000000000000000000000000000000000000000000000000000000000000000000000000000000000000000000000000000000000000000000000000000000000000000000000000000000000000000000000000000000000000 }), (43, { data := BitVec.ofNat 2048 0x783C1E0F0783C1E0F0783C1E0F0783C1E0F0783C1E0F0783C1E0F0783C1E0F0 }), (474, { data := BitVec.ofNat 2048 0x783C1E0F0783C1E0F0783C1E0F0783C1E0F0783C1E0F0783C1E0F0783C1E0F0783C1E0F0783C1E0F0783C1E0F0783C1E0F0783C1E0F0783C1E0F0783C1E0F0783C1E0F0783C1E0F0783C1E0F0783C1E00000000000000000000000000000000000000000000000000000000000000000000000000000000000000000000000000000000000000000000000000000000000000000000000000000000000000000000000000000000000000000000000000000000000000000000000000000000000000000000000000000000000000000000000000000000000000000000000000000000000000000000000000000000000000000000000000000000000000000 }), (475, { data := BitVec.ofNat 2048 0x783C1E0F0783C1E0F0783C1E0F0783C1E0F0783C1E0F0783C1E0F0783C1E0F0 })] }, 0, by decide +kernel⟩,
  ⟨(State.reset.setFld (Reg.CFG_PAD_STAT 0) 3 0 1).setFlag (Reg.GCK_STAT 0) 0 true |>.setFab { frames := [(42, { data := BitVec.ofNat 2048 0x783C1E0F0783C1E0F0783C1E0F0783C1E0F0783C1E0F0783C1E1F0783C1E0F0783C1E0F0783C1E0F0783C1E0F0783C1E0F0783C1E0F0783C1E0F0783C1E0F0783C1E0F0783C1E0F0783C1E0F0783C1E00000000000000000000000000000100600000000000000000000000000000000000000000000000000000000000000000000000000000000000000000000000000000000000000000000000000000000000000000000000000000000000000000000000000000000000000000000000000000000000000000000000000000000000000000000000000000000000000000000000000000000000000000000000000000000000000000000000000000000 }), (43, { data := BitVec.ofNat 2048 0x783C1E0F0783C1E0F0783C1E0F0783C1E0F0783C1E0F0783C1E0F0783C1E0F0 }), (474, { data := BitVec.ofNat 2048 0x783C1E0F0783C1E0F0783C1E0F0783C1E0F0783C1E0F0783C1E0F0783C1E0F0783C1E0F0783C1E0F0783C1E0F0783C1E0F0783C1E0F0783C1E0F0783C1E0F0783C1E0F0783C1E0F0783C1E0F0783C1E00000000000000000000000000000000000000000000000000000000000000000000000000000000000000000000000000000000000000000000000000000000000000000000000000000000000000000000000000000000000000000000000000000000000000000000000000000000000000000000000000000000000000000000000000000000000000000000000000000000000000000000000000000000000000000000000000000000000000000 }), (475, { data := BitVec.ofNat 2048 0x783C1E0F0783C1E0F0783C1E0F0783C1E0F0783C1E0F0783C1E0F0783C1E0F0 })] }, 0, by decide +kernel⟩,
  ⟨State.reset, 9215, true, true, by decide +kernel⟩,
  ⟨State.reset, 0x80000000#32, by decide +kernel⟩,
  ⟨State.reset.setFld Reg.PWR_MODE 3 0 6, 0x80000003#32, by decide +kernel⟩,
  ⟨State.reset.setFld Reg.PWR_MODE 3 0 6, 3#32, by decide +kernel⟩⟩

theorem wit_FabricSlices :
    (∃ (s : State) (n : Fin 13824) (south : BitVec 24),
      (padGsr s (n.val / 96) = false) ∧ (tapRuns s (n.val / 96) (sliceCfg s n 21 5) = true) ∧ (slicePins s n 135 1 = 1)) ∧
    (∃ (s : State) (n : Fin 13824) (south : BitVec 24),
      (padGsr s (n.val / 96) = false) ∧ (tapRuns s (n.val / 96) (sliceCfg s n 21 5) = true) ∧ (slicePins s n 135 1 ≠ 1) ∧ (slicePins s n 134 1 ≠ 1)) ∧
    (∃ (s : State) (n : Fin 13824) (south : BitVec 24),
      (padGsr s (n.val / 96) = false) ∧ (tapRuns s (n.val / 96) (sliceCfg s n 21 5) = true) ∧ (slicePins s n 135 1 = 0) ∧ (slicePins s n 134 1 = 1) ∧ (sliceCfg s n 0 8 = 8)) ∧
    (∃ (s : State) (n : Fin 13824) (south : BitVec 24),
      (padGsr s (n.val / 96) = true ∨ tapRuns s (n.val / 96) (sliceCfg s n 21 5) = false)) :=
  ⟨⟨(State.reset.setFld (Reg.CFG_PAD_STAT 0) 3 0 1).setFlag (Reg.GCK_STAT 0) 0 true |>.setFab { frames := [(70, { data := BitVec.ofNat 2048 0xF0800000000000000000000000000000000000000000000000000000000000000000000000000000000000000000000000000000000000000000000000000000000000000000000000 })] }, 0, 5#24, by decide +kernel⟩,
  ⟨(State.reset.setFld (Reg.CFG_PAD_STAT 0) 3 0 1).setFlag (Reg.GCK_STAT 0) 0 true |>.setFab { frames := [] }, 0, 5#24, by decide +kernel⟩,
  ⟨(State.reset.setFld (Reg.CFG_PAD_STAT 0) 3 0 1).setFlag (Reg.GCK_STAT 0) 0 true |>.setFab { frames := [(69, { data := BitVec.ofNat 2048 0x1E10000000000000000000000000000000000000000000000000000000000000000000000000000000000000000000000000000000001E10000000000000000000000000000000800000000000000000000000000000000000000000000000000000000000000000000000000000000000000000000000000000000000000000000000000000000000000000000000000000000000000000000000000000000000000000000000000000000000000000000000000000000000000000000000000000000000000000000000000000000000000000000000000000000000000000000000000000000 }), (70, { data := BitVec.ofNat 2048 0x78400000000001E100000000000000000000000000000000000000000000000000000000000000000000000000000000000000000000000000000000000000000000000000000000 })] }, 0, 5#24, by decide +kernel⟩,
  ⟨State.reset, 13823, 5#24, by decide +kernel⟩⟩

theorem wit_FabricPorts :
    (∃ (s : State) (init : Fin 512) (wr : Bool) (ix : BitVec 16) (sub : BitVec 8) (w : Fin 16) (d : BitVec 32) (p : Nat),
      (dpServer s ix.toNat = some p) ∧ (padIsolated s p = true ∨ padGsr s p = true)) ∧
    (∃ (s : State) (init : Fin 512) (wr : Bool) (ix : BitVec 16) (sub : BitVec 8) (w : Fin 16) (d : BitVec 32),
      (dpServer s ix.toNat = none)) ∧
    (∃ (s : State) (p : Fin 144) (d : BitVec 32) (code : BitVec 16) (r : DpReq),
      (s.fab.dps = [(p.val, r)]) ∧ (r.fmp = false)) ∧
    (∃ (s : State) (p : Fin 144) (d : BitVec 32) (code : BitVec 16),
      (s.fab.dps = [])) ∧
    (∃ (s : State) (p : Fin 144) (r : DpReq),
      (s.fab.dps = [(p.val, r)]) ∧ (r.fmp = false)) ∧
    (∃ (s : State) (n : Fin 294912),
      (padDriven s (n.val / 2048) = false ∨ s.fab.tripped.contains n.val = true ∨ (driversOf s n).length < 2)) ∧
    (∃ (s : State) (n : Fin 294912),
      (padDriven s (n.val / 2048) = true) ∧ (s.fab.tripped.contains n.val = false) ∧ (2 ≤ (driversOf s n).length)) :=
  ⟨⟨State.reset.setFab { frames := [(6441, { data := BitVec.ofNat 2048 ((0xA000 + 0x10000) * 2 ^ 1280) })] }, 436, false, 0xA000#16, 1, 2, 7#32, 0, by decide +kernel⟩,
  ⟨State.reset, 436, false, 0x2000#16, 1, 2, 7#32, by decide +kernel⟩,
  ⟨State.reset.setFab { dps := [(3, ({ init := 4, wr := false, index := 0xA000, sub := 0, word := 0, data := 0 } : DpReq))] }, 3, 7#32, 0#16, { init := 4, wr := false, index := 0xA000, sub := 0, word := 0, data := 0 }, by decide +kernel⟩,
  ⟨State.reset, 3, 7#32, 0#16, by decide +kernel⟩,
  ⟨State.reset.setFab { dps := [(3, ({ init := 4, wr := false, index := 0xA000, sub := 0, word := 0, data := 0 } : DpReq))] }, 3, { init := 4, wr := false, index := 0xA000, sub := 0, word := 0, data := 0 }, by decide +kernel⟩,
  ⟨State.reset, 294911, by decide +kernel⟩,
  ⟨State.reset.setFab { driven := [(0, true)], frames := [(13, { data := BitVec.ofNat 2048 (2 ^ 1024) }), (40, { data := BitVec.ofNat 2048 (2 ^ 1024) })] }, 0, by decide +kernel⟩⟩

theorem wit_LoaderCommands_1 :
    (∃ (s : State) (v : BitVec 32),
      (v.getLsbD 0 = true) ∧ (v.getLsbD 1 = false) ∧ (v.getLsbD 2 = false) ∧ (v.getLsbD 3 = false) ∧ (extestOn s = false) ∧ (ldrPhase s = 0) ∧ (modeIn s fullModes = true)) ∧
    (∃ (s : State) (v : BitVec 32),
      (v.getLsbD 0 = true) ∧ (v.getLsbD 1 = false) ∧ (v.getLsbD 2 = false) ∧ (v.getLsbD 3 = false) ∧ (extestOn s = true ∨ ldrPhase s ≠ 0 ∨ modeIn s fullModes = false)) ∧
    (∃ (s : State) (v : BitVec 32),
      (v.getLsbD 0 = false) ∧ (v.getLsbD 1 = true) ∧ (v.getLsbD 2 = false) ∧ (v.getLsbD 3 = false) ∧ (extestOn s = false) ∧ (ldrPhase s = 0) ∧ (modeIn s partModes = true)) ∧
    (∃ (s : State) (v : BitVec 32),
      (v.getLsbD 0 = false) ∧ (v.getLsbD 1 = true) ∧ (v.getLsbD 2 = false) ∧ (v.getLsbD 3 = false) ∧ (extestOn s = true ∨ ldrPhase s ≠ 0 ∨ modeIn s partModes = false)) ∧
    (∃ (s : State) (v : BitVec 32),
      (v.getLsbD 0 = false) ∧ (v.getLsbD 1 = false) ∧ (v.getLsbD 2 = false) ∧ (v.getLsbD 3 = true) ∧ (extestOn s = false) ∧ (ldrPhase s = 0) ∧ (modeIn s partModes = true)) ∧
    (∃ (s : State) (v : BitVec 32),
      (v.getLsbD 0 = false) ∧ (v.getLsbD 1 = false) ∧ (v.getLsbD 2 = false) ∧ (v.getLsbD 3 = true) ∧ (extestOn s = true ∨ ldrPhase s ≠ 0 ∨ modeIn s partModes = false)) ∧
    (∃ (s : State) (v : BitVec 32),
      (v.getLsbD 2 = true) ∧ (ldrPhase s = 0)) ∧
    (∃ (s : State) (v : BitVec 32),
      (v.getLsbD 2 = true) ∧ (ldrPhase s = 5)) ∧
    (∃ (s : State) (v : BitVec 32),
      (v.getLsbD 2 = true) ∧ (ldrPhase s = 1 ∨ ldrPhase s = 2) ∧ (s.ldr.kind = 3)) ∧
    (∃ (s : State) (v : BitVec 32),
      (v.getLsbD 2 = true) ∧ (ldrPhase s = 1 ∨ ldrPhase s = 2) ∧ (s.ldr.kind ≠ 3)) ∧
    (∃ (s : State) (v : BitVec 32),
      (v.getLsbD 2 = true) ∧ (ldrPhase s = 3 ∨ ldrPhase s = 4) ∧ (s.ldr.kind = 2) ∧ (∀ p ∈ s.ldr.tgts, p < 144)) ∧
    (∃ (s : State),
      (ldrPhase s = 1)) :=
  ⟨⟨State.reset.setFld Reg.PWR_MODE 3 0 2, 1#32, by decide +kernel⟩,
  ⟨State.reset, 1#32, by decide +kernel⟩,
  ⟨State.reset.setFld Reg.PWR_MODE 3 0 6, 2#32, by decide +kernel⟩,
  ⟨State.reset, 2#32, by decide +kernel⟩,
  ⟨State.reset.setFld Reg.PWR_MODE 3 0 6, 8#32, by decide +kernel⟩,
  ⟨State.reset, 8#32, by decide +kernel⟩,
  ⟨State.reset, 4#32, by decide +kernel⟩,
  ⟨State.reset.setFld Reg.CFG_STAT 3 0 13, 4#32, by decide +kernel⟩,
  ⟨(State.reset.setFld Reg.CFG_STAT 3 0 10).setLdr { kind := 3 }, 4#32, by decide +kernel⟩,
  ⟨State.reset.setFld Reg.CFG_STAT 3 0 9, 4#32, by decide +kernel⟩,
  ⟨(State.reset.setFld Reg.CFG_STAT 3 0 11).setLdr { kind := 2, tgts := [3, 143] }, 4#32, by decide +kernel⟩,
  ⟨State.reset.setFld Reg.CFG_STAT 3 0 9, by decide +kernel⟩⟩

theorem wit_LoaderCommands_2 :
    (∃ (s : State),
      (ldrPhase s = 0 ∨ ldrPhase s = 2 ∨ 5 ≤ ldrPhase s)) ∧
    (∃ (s : State),
      (s.ldr.altDue = true) ∧ (ldrPhase s = 0)) :=
  ⟨⟨State.reset, by decide +kernel⟩,
  ⟨State.reset.setLdr { strap := true, altDue := true }, by decide +kernel⟩⟩

theorem wit_LoaderPasses_1 :
    (∃ (s : State) (host : Option (List Byte)),
      (ldrPhase s = 1) ∧ (s.ldr.strap = false) ∧ (s.ldr.kind = 2) ∧ (s.flag Reg.CFG_CTL 0 = false)) ∧
    (∃ (s : State) (host : Option (List Byte)),
      (ldrPhase s = 1) ∧ (s.ldr.strap = false) ∧ (s.ldr.kind = 1) ∧ (s.mode = mBlank)) ∧
    (∃ (s : State),
      (ldrPhase s = 2) ∧ (s.flag Reg.CFG_CTL 0 = false) ∧ (s.ldr.kind = 3) ∧ (s.pac.tags = []) ∧ (s.fab.dps = []) ∧ (s.noc.win = []) ∧ (s.noc.winQ = []) ∧ (s.out.bist = none) ∧ (s.out.core = none) ∧ (∀ p ∈ s.ldr.tgts, p < 144) ∧ (s.flag Reg.OUT_CAUSE 8 = false) ∧ (s.flag Reg.OUT_CAUSE 9 = false)) ∧
    (∃ (s : State),
      (ldrPhase s = 2) ∧ (s.flag Reg.CFG_CTL 0 = false) ∧ (s.ldr.kind = 2) ∧ (s.pac.tags = []) ∧ (s.fab.dps = []) ∧ (s.noc.win = []) ∧ (s.noc.winQ = []) ∧ (s.out.bist = none) ∧ (s.out.core = none) ∧ (∀ p ∈ s.ldr.tgts, p < 144) ∧ (s.flag Reg.OUT_CAUSE 8 = false) ∧ (s.flag Reg.OUT_CAUSE 9 = false)) ∧
    (∃ (s : State),
      (ldrPhase s = 2) ∧ (s.flag Reg.CFG_CTL 0 = true) ∧ (ptReached s.pt (s.regN Reg.CFG_PR_TICK) = false)) ∧
    (∃ (s : State) (r : Retained) (c : Chunk) (b : List Byte) (fs : List (Nat × BitVec 2048)) (host : Option (List Byte)),
      (s.ldr.stream = some r) ∧ (ldrPhase s = 3 ∨ ldrPhase s = 4) ∧ (r.phys = true) ∧ (r.chunks[s.ldr.pos]? = some c) ∧ (srcRead s 440 true r.src (host.map (fun l => List.replicate (chunkAt r s.ldr.pos) 0 ++ l)) (chunkAt r s.ldr.pos) c.clen = some b) ∧ (chunkRecs b (s.ldr.pos + 1 == r.chunks.length) s.ldr.tgts [] = .inr fs) ∧ ((fs.map (·.1)).Nodup) ∧ (∀ e ∈ fs, e.1 % 9216 < 6912) ∧ (Config.shake256 b 32 = c.digest)) ∧
    (∃ (s : State) (r : Retained) (c : Chunk) (host : Option (List Byte)),
      (s.ldr.stream = some r) ∧ (ldrPhase s = 3 ∨ ldrPhase s = 4) ∧ (s.ldr.kind = 2) ∧ (r.phys = true) ∧ (r.chunks[s.ldr.pos]? = some c) ∧ (srcRead s 440 true r.src (host.map (fun l => List.replicate (chunkAt r s.ldr.pos) 0 ++ l)) (chunkAt r s.ldr.pos) c.clen = none)) ∧
    (∃ (s : State),
      (s.ldr.kind = 1) ∧ (s.ldr.step = 1) ∧ (s.mode = mConfigure)) ∧
    (∃ (s : State),
      (s.ldr.kind = 2) ∧ (s.ldr.step = 1)) ∧
    (∃ (s : State),
      (s.ldr.kind = 1) ∧ (s.ldr.step = 2) ∧ (∀ k, k < 48 → s.flag (Reg.GCK_CFG k) 16 = true → s.flag (Reg.GCK_STAT k) 0 = true)) ∧
    (∃ (s : State),
      (s.ldr.step = 3) ∧ (∀ p ∈ s.ldr.tgts, p < 144)) ∧
    (∃ (s : State) (r : Retained),
      (s.ldr.stream = some r) ∧ (s.ldr.step = 4) ∧ (s.ldr.kind = 2) ∧ (∀ p ∈ s.ldr.tgts, p < 144) ∧ (s.ldr.tgts.Nodup) ∧ (s.flag Reg.OUT_CAUSE 8 = false) ∧ (s.flag Reg.OUT_CAUSE 9 = false)) :=
  ⟨⟨(State.reset.setFld Reg.CFG_STAT 3 0 9).setLdr { kind := 2 }, none, by decide +kernel⟩,
  ⟨((State.reset.setFld Reg.CFG_STAT 3 0 9).setLdr { kind := 1 }).setFld Reg.PWR_MODE 3 0 2, none, by decide +kernel⟩,
  ⟨(State.reset.setFld Reg.CFG_STAT 3 0 10).setLdr { kind := 3, tgts := [3] }, by decide +kernel⟩,
  ⟨(State.reset.setFld Reg.CFG_STAT 3 0 10).setLdr { kind := 2, tgts := [3] }, by decide +kernel⟩,
  ⟨((State.reset.setFld Reg.CFG_STAT 3 0 10).setLdr { kind := 2, tgts := [3] }).setFlag Reg.CFG_CTL 0 true |>.setRegN Reg.CFG_PR_TICK 100, by decide +kernel⟩,
  ⟨((State.reset.setFld Reg.CFG_STAT 3 0 11).withMem [(0x10000D2C, 3#8), (0x10000D30, 5#8), (0x10000D34, 0xAA#8), (0x10000D38, 4#8), (0x10000D3A, 1#8)]).setLdr { kind := 2, tgts := [0], stream := some ({ phys := true, src := 0x10000000, slot := 0, hash := vkh State.reset, chunks := [⟨16, 1, Config.shake256 [3#8, 0#8, 0#8, 0#8, 5#8, 0#8, 0#8, 0#8, 0xAA#8, 0#8, 0#8, 0#8, 4#8, 0#8, 1#8, 0#8] 32⟩], spans := [(0, 0, 0)] } : Retained) }, ({ phys := true, src := 0x10000000, slot := 0, hash := vkh State.reset, chunks := [⟨16, 1, Config.shake256 [3#8, 0#8, 0#8, 0#8, 5#8, 0#8, 0#8, 0#8, 0xAA#8, 0#8, 0#8, 0#8, 4#8, 0#8, 1#8, 0#8] 32⟩], spans := [(0, 0, 0)] } : Retained), ⟨16, 1, Config.shake256 [3#8, 0#8, 0#8, 0#8, 5#8, 0#8, 0#8, 0#8, 0xAA#8, 0#8, 0#8, 0#8, 4#8, 0#8, 1#8, 0#8] 32⟩, [3#8, 0#8, 0#8, 0#8, 5#8, 0#8, 0#8, 0#8, 0xAA#8, 0#8, 0#8, 0#8, 4#8, 0#8, 1#8, 0#8], [(5, BitVec.ofNat 2048 ((List.range 64).map (fun i => 0xAA * 2 ^ (32 * i))).sum)], none, rfl, by decide +kernel, by decide +kernel, rfl, by decide +kernel, by decide +kernel, by decide +kernel, by decide +kernel, rfl⟩,
  ⟨(State.reset.setFld Reg.CFG_STAT 3 0 11).setLdr { kind := 2, tgts := [0], stream := some { phys := true, src := 0, slot := 0, hash := [], chunks := [⟨16, 1, []⟩], spans := [] } }, { phys := true, src := 0, slot := 0, hash := [], chunks := [⟨16, 1, []⟩], spans := [] }, ⟨16, 1, []⟩, none, by decide +kernel⟩,
  ⟨(State.reset.setLdr { kind := 1, step := 1, sets := List.replicate 344 0 }).setFld Reg.PWR_MODE 3 0 3, by decide +kernel⟩,
  ⟨State.reset.setLdr { kind := 2, step := 1, tgts := [3] }, by decide +kernel⟩,
  ⟨State.reset.setLdr { kind := 1, step := 2, tgts := [3] }, by decide +kernel⟩,
  ⟨State.reset.setLdr { kind := 2, step := 3, tgts := [3] }, by decide +kernel⟩,
  ⟨State.reset.setLdr { kind := 2, step := 4, tgts := [3, 143], stream := some ⟨true, 0, 0, [], [], [(3, 0, 0)]⟩ }, ⟨true, 0, 0, [], [], [(3, 0, 0)]⟩, by decide +kernel⟩⟩

theorem wit_LoaderPasses_2 : ∃ (s : State) (p : Fin 144) (r : Retained),
      (s.ldr.stream = some r) ∧ (s.ldr.step = 4) ∧ (s.ldr.kind = 1) ∧ (s.ldr.tgts = [p.val]) ∧ (s.mode = mConfigure) ∧ (s.flag Reg.OUT_CAUSE 8 = false) ∧ (s.flag Reg.OUT_CAUSE 9 = false) ∧ (s.flag Reg.FAR_STAT 0 = false) :=
  ⟨(State.reset.setLdr { kind := 1, step := 4, tgts := [3], stream := some ⟨true, 0, 0, [], [], [(3, 0, 0)]⟩ }).setFld Reg.PWR_MODE 3 0 3, 3, ⟨true, 0, 0, [], [], [(3, 0, 0)]⟩, by decide +kernel⟩

theorem wit_FarrierPasses_1 :
    (∃ (s : State) (e : Fin 2) (prio : Bool),
      (farRuns s = false)) ∧
    (∃ (s : State) (e : Fin 2),
      (farRuns s = true) ∧ ((farEng s e).base + 1 ≠ baseLen (farEng s e)) ∧ (6912 ≤ (basePlace (farEng s e) e (farEng s e).base) % 9216 ∨ padLoaded s ((basePlace (farEng s e) e (farEng s e).base) / 9216) = false ∨ farCase (frameOf s (basePlace (farEng s e) e (farEng s e).base)) = .clean)) ∧
    (∃ (s : State) (e : Fin 2) (i : Nat),
      (farRuns s = true) ∧ ((farEng s e).base + 1 ≠ baseLen (farEng s e)) ∧ ((basePlace (farEng s e) e (farEng s e).base) % 9216 < 6912) ∧ (padLoaded s ((basePlace (farEng s e) e (farEng s e).base) / 9216) = true) ∧ (farCase (frameOf s (basePlace (farEng s e) e (farEng s e).base)) = .data i) ∧ ((farEng s e).queue.length < 16) ∧ (inRepair (farEng s e) (basePlace (farEng s e) e (farEng s e).base) = false) ∧ (s.flag Reg.FAR_CTL 1 = false) ∧ (s.far.set = []) ∧ (s.flag Reg.OUT_CAUSE 8 = false) ∧ (s.flag Reg.OUT_CAUSE 9 = false)) ∧
    (∃ (s : State) (e : Fin 2) (p : Nat),
      (farRuns s = true) ∧ ((farEng s e).pads[(farEng s e).ppos / 6912]? = some p) ∧ ((farEng s e).ppos + 1 ≠ 6912 * (farEng s e).pads.length) ∧ (padLoaded s p = false ∨ farCase (frameOf s (p * 9216 + (farEng s e).ppos % 6912)) = .clean)) ∧
    (∃ (s : State) (e : Fin 2),
      (farRuns s = false)) ∧
    (∃ (s : State) (e : Fin 2),
      (farRuns s = true) ∧ ((farEng s e).solo = false) ∧ ((farEng s e).all = false)) ∧
    (∃ (s : State) (e : Fin 2),
      (farRuns s = true) ∧ ((farEng s e).solo = true) ∧ ((farEng s e).all = false)) ∧
    (∃ (s : State),
      (farRuns s = true)) ∧
    (∃ (s : State),
      (farRuns s = true) ∧ (s.flag Reg.FAR_CTL 0 = true) ∧ (s.mode ≠ mStable) ∧ (s.mode ≠ mSafe)) ∧
    (∃ (s : State) (v : BitVec 32),
      (8 < (((List.range 144).filter (fun p => if p < 128 then s.flag (Reg.FAR_PRIO (p / 32)) (p % 32) else v.toNat.testBit (p - 128))).filter (fun p => p % 2 == 0)).length ∨ 8 < (((List.range 144).filter (fun p => if p < 128 then s.flag (Reg.FAR_PRIO (p / 32)) (p % 32) else v.toNat.testBit (p - 128))).filter (fun p => p % 2 == 1)).length ∨ 2 ^ 16 ≤ v.toNat)) ∧
    (∃ (s : State) (v : BitVec 32),
      ((((List.range 144).filter (fun p => if p < 128 then s.flag (Reg.FAR_PRIO (p / 32)) (p % 32) else v.toNat.testBit (p - 128))).filter (fun p => p % 2 == 0)).length ≤ 8) ∧ ((((List.range 144).filter (fun p => if p < 128 then s.flag (Reg.FAR_PRIO (p / 32)) (p % 32) else v.toNat.testBit (p - 128))).filter (fun p => p % 2 == 1)).length ≤ 8) ∧ (v.toNat < 2 ^ 16) ∧ (s.flag Reg.FAR_STAT 3 = false) ∧ (s.flag Reg.OUT_CAUSE 8 = false) ∧ (s.flag Reg.OUT_CAUSE 9 = false) ∧ (s.flag Reg.OUT_CAUSE 10 = false)) ∧
    (∃ (s : State) (e : Fin 2),
      (farRuns s = false)) :=
  ⟨⟨State.reset, 1, true, by decide +kernel⟩,
  ⟨(State.reset.setRegN Reg.FAR_STAT 0x107), 1, by decide +kernel⟩,
  ⟨(((State.reset.setRegN Reg.FAR_STAT 0x107).setFld (Reg.CFG_PAD_STAT 0) 3 0 1).setFab { frames := [(0, { data := 2 })] }).setFlag Reg.FAR_CTL 1 false, 0, 1, by decide +kernel⟩,
  ⟨((State.reset.setRegN Reg.FAR_STAT 0x107).setFld (Reg.CFG_PAD_STAT 0) 3 0 1).setFar { a := { pads := [0] } }, 0, 0, by decide +kernel⟩,
  ⟨State.reset, 1, by decide +kernel⟩,
  ⟨((State.reset.setRegN Reg.FAR_STAT 0x107).setFld (Reg.CFG_PAD_STAT 0) 3 0 1).setFar { set := [0, 1] }, 0, by decide +kernel⟩,
  ⟨((State.reset.setRegN Reg.FAR_STAT 0x107).setFld (Reg.CFG_PAD_STAT 0) 3 0 1).setFar { set := [0, 1], a := { solo := true } }, 0, by decide +kernel⟩,
  ⟨(State.reset.setRegN Reg.FAR_STAT 0x107).setFar { ups := [3, 1] }, by decide +kernel⟩,
  ⟨((State.reset.setRegN Reg.FAR_STAT 0x107).setFar { ups := [3] }).setFlag Reg.FAR_CTL 0 true, by decide +kernel⟩,
  ⟨State.reset, 0x10000#32, by decide +kernel⟩,
  ⟨State.reset, 0x8001#32, by decide +kernel⟩,
  ⟨State.reset, 1, by decide +kernel⟩⟩

theorem wit_FarrierPasses_2 :
    (∃ (s : State) (e : Fin 2),
      (farRuns s = true) ∧ (engOk s (1 - e.val) = true) ∧ ((farEng s e).seen ≠ some (s.regN (seqReg (1 - e.val))))) ∧
    (∃ (s : State) (e : Fin 2),
      (farRuns s = true) ∧ (engOk s e = true) ∧ (engOk s (1 - e.val) = true) ∧ ((farEng s e).seen = some (s.regN (seqReg (1 - e.val)))) ∧ (s.far.set = [])) ∧
    (∃ (s : State) (v : BitVec 32),
      (v.getLsbD 0 = true) ∧ (farRuns s = true) ∧ (engOk s 0 = true) ∧ (engOk s 1 = false)) ∧
    (∃ (s : State) (v : BitVec 32),
      (v.getLsbD 0 = false ∨ farRuns s = false ∨ engOk s 0 = engOk s 1)) :=
  ⟨⟨(State.reset.setRegN Reg.FAR_STAT 0x107), 1, by decide +kernel⟩,
  ⟨(State.reset.setRegN Reg.FAR_STAT 0x107).setFar { a := { seen := some 0 } }, 0, by decide +kernel⟩,
  ⟨State.reset.setRegN Reg.FAR_STAT 3, 1#32, by decide +kernel⟩,
  ⟨State.reset, 1#32, by decide +kernel⟩⟩

theorem wit_FarrierRepair :
    (∃ (s : State) (e : Fin 2) (q : FarItem),
      ((farEng s e).queue.find? (fun q => !q.written) = some q)) ∧
    (∃ (s : State) (e : Fin 2),
      (∀ q ∈ (farEng s e).queue, q.written = true)) ∧
    (∃ (s : State) (e : Fin 2) (q : FarItem),
      ((farEng s e).queue.find? (·.written) = some q) ∧ (farCase (frameOf s q.fa) = .clean) ∧ (q.fetched = false) ∧ ((farEng s e).lines = []) ∧ (s.flag Reg.OUT_CAUSE 8 = false) ∧ (s.flag Reg.OUT_CAUSE 9 = false)) ∧
    (∃ (s : State) (e : Fin 2) (q : FarItem),
      ((farEng s e).queue.find? (·.written) = some q) ∧ (farCase (frameOf s q.fa) = .clean) ∧ (q.fetched = true) ∧ ((farEng s e).lines = []) ∧ (s.flag Reg.OUT_CAUSE 8 = false) ∧ (s.flag Reg.OUT_CAUSE 9 = false)) ∧
    (∃ (s : State) (e : Fin 2) (q : FarItem) (i : Nat),
      ((farEng s e).queue.find? (·.written) = some q) ∧ (farCase (frameOf s q.fa) = .data i) ∧ (q.fetched = false) ∧ (s.flag Reg.FAR_CTL 1 = false) ∧ (inRepair { farEng s e with queue := (farEng s e).queue.filter (fun y => y.fa != q.fa) } q.fa = false) ∧ ((farEng s e).lines = []) ∧ (s.flag Reg.OUT_CAUSE 8 = false) ∧ (s.flag Reg.OUT_CAUSE 9 = false)) ∧
    (∃ (s : State) (e : Fin 2) (f : Refetch) (q : List Refetch) (host : Option (List Byte)),
      ((farEng s e).fetch = f :: q) ∧ (keptOf s (f.fa / 9216) = none) ∧ (s.flag Reg.FAR_CTL 2 = false) ∧ (s.far.set = []) ∧ (s.flag Reg.OUT_CAUSE 8 = false) ∧ (s.flag Reg.OUT_CAUSE 9 = false)) ∧
    (∃ (s : State) (e : Fin 2) (f : Refetch) (q : List Refetch) (r : Retained) (hi : Nat) (c : Chunk) (b : List Byte) (fs : List (Nat × BitVec 2048)) (fa : Nat) (d : BitVec 2048) (host : Option (List Byte)),
      ((farEng s e).fetch = f :: q) ∧ (keptOf s (f.fa / 9216) = some (r, f.pos.getD 0, hi)) ∧ (r.phys = true) ∧ ((farEng s e).queue.length < 16) ∧ (keyOk s r.slot r.hash = true) ∧ (r.chunks[f.pos.getD 0]? = some c) ∧ (srcRead s (441 + e) true r.src (host.map (fun l => List.replicate (chunkAt r (f.pos.getD 0)) 0 ++ l)) (chunkAt r (f.pos.getD 0)) c.clen = some b) ∧ (chunkRecs b (f.pos.getD 0 + 1 == r.chunks.length) allPads [] = .inr fs) ∧ (fs.find? (fun y => y.1 == f.fa) = some (fa, d)) ∧ (Config.shake256 b 32 = c.digest)) ∧
    (∃ (s : State) (init : Fin 512),
      (init.val ≠ 474)) ∧
    (∃ (s : State) (init : Fin 512),
      (init.val = 474)) ∧
    (∃ (s : State) (v : BitVec 32),
      (modeIn s testModes = false)) ∧
    (∃ (s : State) (v : BitVec 32),
      (modeIn s testModes = true) ∧ (v.getLsbD 31 = true) ∧ (s.fld Reg.FAR_INJ_FA 20 0 < 1327104) ∧ (padLoaded s (s.fld Reg.FAR_INJ_FA 20 0 / 9216) = true) ∧ (v.toNat % 4096 < 2048) ∧ (v.getLsbD 12 = false) ∧ (s.fld Reg.FAR_INJ_FA 20 0 % 9216 < 6912)) ∧
    (∃ (s : State) (v : BitVec 32),
      (modeIn s testModes = true) ∧ (v.getLsbD 31 = false)) :=
  ⟨⟨(State.reset.setRegN Reg.FAR_STAT 0x107).setFar { a := { queue := [{ fa := 0, word := { data := 6 } }] } }, 0, { fa := 0, word := { data := 6 } }, by decide +kernel⟩,
  ⟨State.reset, 0, by decide +kernel⟩,
  ⟨(State.reset.setRegN Reg.FAR_STAT 0x107).setFar { a := { queue := [{ fa := 5, word := {}, written := true }] } }, 0, { fa := 5, word := {}, written := true }, by decide +kernel⟩,
  ⟨(State.reset.setRegN Reg.FAR_STAT 0x107).setFar { a := { queue := [{ fa := 5, word := {}, written := true, fetched := true }] } }, 0, { fa := 5, word := {}, written := true, fetched := true }, by decide +kernel⟩,
  ⟨(((State.reset.setRegN Reg.FAR_STAT 0x107).setFar { a := { queue := [{ fa := 5, word := {}, written := true }] } }).setFab { frames := [(5, { data := 2 })] }).setFlag Reg.FAR_CTL 1 false, 0, { fa := 5, word := {}, written := true }, 1, by decide +kernel⟩,
  ⟨((State.reset.setRegN Reg.FAR_STAT 0x107).setFar { a := { fetch := [{ fa := 5, prio := false }] } }).setFlag Reg.FAR_CTL 2 false, 0, { fa := 5, prio := false }, [], none, by decide +kernel⟩,
  ⟨((State.reset.setRegN Reg.FAR_STAT 0x107).withMem [(0x10000D2C, 3#8), (0x10000D30, 5#8), (0x10000D34, 0xAA#8), (0x10000D38, 4#8), (0x10000D3A, 1#8)]).setLdr { kept := [({ phys := true, src := 0x10000000, slot := 0, hash := vkh State.reset, chunks := [⟨16, 1, Config.shake256 [3#8, 0#8, 0#8, 0#8, 5#8, 0#8, 0#8, 0#8, 0xAA#8, 0#8, 0#8, 0#8, 4#8, 0#8, 1#8, 0#8] 32⟩], spans := [(0, 0, 0)] } : Retained)] } |>.setFar { a := { fetch := [{ fa := 5, prio := false }] } }, 0, { fa := 5, prio := false }, [], ({ phys := true, src := 0x10000000, slot := 0, hash := vkh State.reset, chunks := [⟨16, 1, Config.shake256 [3#8, 0#8, 0#8, 0#8, 5#8, 0#8, 0#8, 0#8, 0xAA#8, 0#8, 0#8, 0#8, 4#8, 0#8, 1#8, 0#8] 32⟩], spans := [(0, 0, 0)] } : Retained), 0, ⟨16, 1, Config.shake256 [3#8, 0#8, 0#8, 0#8, 5#8, 0#8, 0#8, 0#8, 0xAA#8, 0#8, 0#8, 0#8, 4#8, 0#8, 1#8, 0#8] 32⟩, [3#8, 0#8, 0#8, 0#8, 5#8, 0#8, 0#8, 0#8, 0xAA#8, 0#8, 0#8, 0#8, 4#8, 0#8, 1#8, 0#8], [(5, BitVec.ofNat 2048 ((List.range 64).map (fun i => 0xAA * 2 ^ (32 * i))).sum)], 5, BitVec.ofNat 2048 ((List.range 64).map (fun i => 0xAA * 2 ^ (32 * i))).sum, none, by decide +kernel, rfl, by decide +kernel, by decide +kernel, by decide +kernel, rfl, by decide +kernel, by decide +kernel, by decide +kernel, rfl⟩,
  ⟨State.reset.setFar { log := { q := [7#128] } }, 436, by decide +kernel⟩,
  ⟨State.reset.setFar { log := { q := [7#128] } }, 474, by decide +kernel⟩,
  ⟨State.reset, 0x80000000#32, by decide +kernel⟩,
  ⟨((State.reset.setRegN Reg.FAR_STAT 0x107).setFld (Reg.CFG_PAD_STAT 0) 3 0 1).setFld Reg.PWR_MODE 3 0 6, 0x80000005#32, by decide +kernel⟩,
  ⟨((State.reset.setRegN Reg.FAR_STAT 0x107).setFld (Reg.CFG_PAD_STAT 0) 3 0 1).setFld Reg.PWR_MODE 3 0 6, 5#32, by decide +kernel⟩⟩

theorem wit_NocTransport :
    (∃ (s : State) (init : Fin 512) (op : Fin 4) (addr : BitVec 48) (len : Fin 256) (tag : BitVec 8) (data : List Byte),
      (initUsed init.val = true) ∧ (init.val < 256 ∨ 400 ≤ init.val) ∧ (init.val ≠ 474) ∧ (oneBlock addr.toNat (len.val + 1) = true) ∧ (curbOf s init = none) ∧ (∀ x ∈ s.noc.paced, x.init ≠ init.val) ∧ (∀ m, m < 32 → s.flag (Reg.NOC_MON_CFG m) 16 = false)) ∧
    (∃ (s : State) (init : Fin 512) (op : Fin 4) (addr : BitVec 48) (len : Fin 256) (tag : BitVec 8) (data : List Byte) (n : Nat),
      (initUsed init.val = true) ∧ (init.val < 256 ∨ 400 ≤ init.val) ∧ (init.val ≠ 474) ∧ (oneBlock addr.toNat (len.val + 1) = true) ∧ (curbOf s init = some n) ∧ (len.val + 1 ≤ s.fld (Reg.NOC_CURB_LEVEL n) 23 0) ∧ (∀ x ∈ s.noc.paced, x.init ≠ init.val) ∧ (∀ m, m < 32 → s.flag (Reg.NOC_MON_CFG m) 16 = false)) ∧
    (∃ (s : State) (init : Fin 512) (op : Fin 4) (addr : BitVec 48) (len : Fin 256) (tag : BitVec 8) (data : List Byte) (n : Nat),
      (initUsed init.val = true) ∧ (init.val < 256 ∨ 400 ≤ init.val) ∧ (init.val ≠ 474) ∧ (oneBlock addr.toNat (len.val + 1) = true) ∧ (curbOf s init = some n) ∧ (s.fld (Reg.NOC_CURB_LEVEL n) 23 0 < len.val + 1) ∧ (s.flag (Reg.NOC_CURB_RATE n) 31 = true) ∧ (∀ x ∈ s.noc.paced, x.init ≠ init.val) ∧ (∀ m, m < 32 → s.flag (Reg.NOC_MON_CFG m) 16 = false)) ∧
    (∃ (s : State) (init : Fin 512) (op : Fin 4) (addr : BitVec 48) (len : Fin 256) (tag : BitVec 8) (data : List Byte) (n : Nat),
      (initUsed init.val = true) ∧ (init.val < 256 ∨ 400 ≤ init.val) ∧ (init.val ≠ 474) ∧ (oneBlock addr.toNat (len.val + 1) = true) ∧ (curbOf s init = some n) ∧ (s.fld (Reg.NOC_CURB_LEVEL n) 23 0 < len.val + 1) ∧ (s.flag (Reg.NOC_CURB_RATE n) 31 = false) ∧ (∀ x ∈ s.noc.paced, x.init ≠ init.val) ∧ (∀ m, m < 32 → s.flag (Reg.NOC_MON_CFG m) 16 = false)) ∧
    (∃ (s : State) (init : Fin 512) (op : Fin 4) (addr : BitVec 48) (len : Fin 256) (tag : BitVec 8) (data : List Byte),
      (initUsed init.val = true) ∧ (init.val < 256 ∨ 400 ≤ init.val) ∧ (init.val ≠ 474) ∧ (oneBlock addr.toNat (len.val + 1) = false)) ∧
    (∃ (s : State) (n : Nat),
      (s.noc.paced = []) ∧ (n < 64)) ∧
    (∃ (s : State) (router : Fin 168) (dir : Fin 4),
      (sget (fun _ => 0) s.noc.fails (4 * router.val + dir.val) ≠ 15)) ∧
    (∃ (s : State) (router : Fin 168) (dir : Fin 4),
      (sget (fun _ => 0) s.noc.fails (4 * router.val + dir.val) = 15) ∧ (s.flag Reg.NOC_STAT 0 = false)) ∧
    (∃ (s : State) (init : Fin 512) (tag : BitVec 8) (x : NocResp) (q : List NocResp) (bad : Bool),
      (s.noc.resps = x :: q) ∧ (x.req.init = init.val) ∧ (x.req.tag = tag.toNat) ∧ (bad = false ∨ x.req.e2e = false) ∧ (∀ m, m < 32 → s.flag (Reg.NOC_MON_CFG m) 16 = false)) ∧
    (∃ (s : State) (init : Fin 512) (tag : BitVec 8) (x : NocResp) (q : List NocResp),
      (s.noc.resps = x :: q) ∧ (x.req.init = init.val) ∧ (x.req.tag = tag.toNat) ∧ (x.req.e2e = true) ∧ (∀ m, m < 32 → s.flag (Reg.NOC_MON_CFG m) 16 = false)) ∧
    (∃ (s : State) (v : BitVec 32) (m a : Nat),
      (m < 32) ∧ (v.getLsbD m = true) ∧ ((a = Reg.NOC_MON_BYTES m ∨ a = Reg.NOC_MON_BYTES m + 4 ∨ a = Reg.NOC_MON_REQ m ∨ a = Reg.NOC_MON_REF m ∨ a = Reg.NOC_MON_LSUM m ∨ a = Reg.NOC_MON_LSUM m + 4 ∨ a = Reg.NOC_MON_LMAX m))) :=
  ⟨⟨State.reset, 0, 1, 0x10000040#48, 7, 1#8, [1, 2, 3], by decide +kernel⟩,
  ⟨(State.reset.setRegN (Reg.NOC_INIT_CFG 0) 0x43).setRegN (Reg.NOC_CURB_LEVEL 3) 100, 0, 1, 0x10000040#48, 7, 1#8, [1, 2, 3], 3, by decide +kernel⟩,
  ⟨((State.reset.setRegN (Reg.NOC_INIT_CFG 0) 0x43).setFlag (Reg.NOC_CURB_RATE 3) 31 true).setRegN (Reg.NOC_CURB_LEVEL 3) 7, 0, 1, 0x10000040#48, 7, 1#8, [1, 2, 3], 3, by decide +kernel⟩,
  ⟨(State.reset.setRegN (Reg.NOC_INIT_CFG 0) 0x43).setRegN (Reg.NOC_CURB_LEVEL 3) 7, 0, 1, 0x10000040#48, 7, 1#8, [1, 2, 3], 3, by decide +kernel⟩,
  ⟨State.reset, 0, 1, 0x100000FF#48, 7, 1#8, [], by decide +kernel⟩,
  ⟨State.reset.setRegN (Reg.NOC_CURB_RATE 63) 300, 63, by decide +kernel⟩,
  ⟨State.reset, 167, 3, by decide +kernel⟩,
  ⟨State.reset.setNoc { fails := [(671, 15)] }, 167, 3, by decide +kernel⟩,
  ⟨State.reset.setNoc { resps := [⟨({ init := 0, tag := 1, op := 0, cls := 0, kix := 0, await := false, e2e := false, addr := 0x10000040, len := 8, data := [] } : NocReq), 0, [7]⟩] }, 0, 1#8, ⟨({ init := 0, tag := 1, op := 0, cls := 0, kix := 0, await := false, e2e := false, addr := 0x10000040, len := 8, data := [] } : NocReq), 0, [7]⟩, [], true, by decide +kernel⟩,
  ⟨State.reset.setNoc { resps := [⟨({ init := 0, tag := 1, op := 0, cls := 0, kix := 0, await := false, e2e := true, addr := 0x10000040, len := 8, data := [] } : NocReq), 0, [7]⟩] }, 0, 1#8, ⟨({ init := 0, tag := 1, op := 0, cls := 0, kix := 0, await := false, e2e := true, addr := 0x10000040, len := 8, data := [] } : NocReq), 0, [7]⟩, [], by decide +kernel⟩,
  ⟨State.reset, 0x80000000#32, 31, Reg.NOC_MON_REQ 31, by decide +kernel⟩⟩

theorem wit_NocPortsBanks :
    (∃ (s : State) (p : Fin 144) (kind : Fin 4) (tag : Fin 16) (addr : BitVec 48) (len : Fin 256) (cls : Fin 4) (kix : Fin 64) (await : Bool) (data : List Byte),
      (padIsolated s p = true)) ∧
    (∃ (s : State) (p : Fin 144) (kind : Fin 4) (tag : Fin 16) (addr : BitVec 48) (len : Fin 256) (cls : Fin 4) (kix : Fin 64) (await : Bool) (data : List Byte),
      (padIsolated s p = false) ∧ (frpCfg s p 5 1 ≠ 1 ∨ (frpCfg s p 7 4).testBit cls.val = false) ∧ (∀ m, m < 32 → s.flag (Reg.NOC_MON_CFG m) 16 = false)) ∧
    (∃ (s : State) (p : Fin 144) (kind : Fin 4) (tag : Fin 16) (addr : BitVec 48) (len : Fin 256) (cls : Fin 4) (kix : Fin 64) (await : Bool) (data : List Byte),
      (padIsolated s p = false) ∧ (frpCfg s p 5 1 = 1) ∧ ((frpCfg s p 7 4).testBit cls.val = true) ∧ (oneBlock addr.toNat (len.val + 1) = true) ∧ (curbOf s (256 + p) = none) ∧ (∀ x ∈ s.noc.paced, x.init ≠ 256 + p.val) ∧ (∀ m, m < 32 → s.flag (Reg.NOC_MON_CFG m) 16 = false)) ∧
    (∃ (s : State) (p : Fin 144) (tag : BitVec 8) (status : Fin 8) (data : List Byte) (r : NocReq),
      (padIsolated s p = false) ∧ (s.noc.win = [(p.val, tag.toNat, r)]) ∧ (s.noc.winQ = []) ∧ (r.tag < 256) ∧ (status.val = 0) ∧ (r.op = 0)) ∧
    (∃ (s : State) (p : Fin 144) (tag : BitVec 8) (status : Fin 8) (data : List Byte),
      (padIsolated s p = false) ∧ (s.noc.win = []) ∧ (s.noc.winOld.contains (p.val, tag.toNat) = true)) ∧
    (∃ (s : State) (p : Fin 144) (tag : Fin 4) (r : NocReq),
      (s.noc.win = [(p.val, tag.val, r)]) ∧ (s.noc.winQ = []) ∧ (r.tag < 256)) ∧
    (∃ (s : State) (b : Fin 64) (v : BitVec 32),
      (∀ e ∈ s.noc.spTo, e.1 ≠ b.val) ∧ (s.fld (Reg.SP_BANK_STAT b) 2 0 ≠ spCode (v.toNat % 4))) ∧
    (∃ (s : State) (b : Fin 64) (v : BitVec 32) (g : Nat),
      (s.noc.spTo.find? (fun e => e.1 == b.val) = some (b.val, g))) ∧
    (∃ (s : State) (b : Fin 64) (g : Nat),
      (s.noc.spTo = [(b.val, g)]) ∧ (g < 2) ∧ (∀ e ∈ s.noc.spNext, e.1 ≠ b.val)) ∧
    (∃ (s : State) (b : Fin 64) (x : Nat),
      (s.noc.spTo = [(b.val, 2)]) ∧ (∀ e ∈ s.noc.spNext, e.1 ≠ b.val) ∧ (s.Canonical)) ∧
    (∃ (s : State) (v : BitVec 32),
      (modeIn s testModes = false)) ∧
    (∃ (s : State) (v : BitVec 32),
      (modeIn s testModes = true) ∧ (v.getLsbD 31 = true)) :=
  ⟨⟨State.reset, 0, 1, 2, 0x10000040#48, 7, 2, 5, true, [1], by decide +kernel⟩,
  ⟨(State.reset.setFld (Reg.CFG_PAD_STAT 0) 3 0 1).setFab { frames := [(21, { data := BitVec.ofNat 2048 0x78000000000000000000000000000000000000000000000000000000000000000000000000000000000000000000000000000000000000000000000000000000000000000000000000000000000000000000000000000000000000000000000000000000000000000000000000000000000000000000000000000000000000000000000000000000000000000000000000000000000000000000000000000000000 })] }, 0, 1, 2, 0x10000040#48, 7, 2, 5, true, [1], by decide +kernel⟩,
  ⟨(State.reset.setFld (Reg.CFG_PAD_STAT 0) 3 0 1).setFab { frames := [(21, { data := BitVec.ofNat 2048 0x7A000000000000000000000000000000000000000000000000000000000000000000000000000000000000000000000000000000000000000000000000000000000000000000000000000000000000000000000000000000000000000000000000000000000000000000000000000000000000000000000000000000000000000000000000000000000000000000000000000000000000000000000000000000000 })] }, 0, 1, 2, 0x10000040#48, 7, 2, 5, true, [1], by decide +kernel⟩,
  ⟨((State.reset.setFld (Reg.CFG_PAD_STAT 0) 3 0 1).setFab { frames := [(21, { data := BitVec.ofNat 2048 0x7E000000000000000000000000000000000000000000000000000000000000000000000000000000000000000000000000000000000000000000000000000000000000000000000000000000000000000000000000000000000000000000000000000000000000000000000000000000000000000000000000000000000000000000000000000000000000000000000000000000000000000000000000000000000 })] }).setNoc { win := [(0, 2, ({ init := 0, tag := 1, op := 0, cls := 0, kix := 0, await := false, e2e := false, addr := 0x100000000, len := 4, data := [] } : NocReq))] }, 0, 2#8, 0, [1, 2, 3, 4], ({ init := 0, tag := 1, op := 0, cls := 0, kix := 0, await := false, e2e := false, addr := 0x100000000, len := 4, data := [] } : NocReq), by decide +kernel⟩,
  ⟨((State.reset.setFld (Reg.CFG_PAD_STAT 0) 3 0 1).setFab { frames := [(21, { data := BitVec.ofNat 2048 0x7E000000000000000000000000000000000000000000000000000000000000000000000000000000000000000000000000000000000000000000000000000000000000000000000000000000000000000000000000000000000000000000000000000000000000000000000000000000000000000000000000000000000000000000000000000000000000000000000000000000000000000000000000000000000 })] }).setNoc { winOld := [(0, 2)] }, 0, 2#8, 0, [], by decide +kernel⟩,
  ⟨State.reset.setNoc { win := [(0, 2, ({ init := 0, tag := 1, op := 0, cls := 0, kix := 0, await := false, e2e := false, addr := 0x100000000, len := 4, data := [] } : NocReq))] }, 0, 2, ({ init := 0, tag := 1, op := 0, cls := 0, kix := 0, await := false, e2e := false, addr := 0x100000000, len := 4, data := [] } : NocReq), by decide +kernel⟩,
  ⟨State.reset, 63, 3#32, by decide +kernel⟩,
  ⟨State.reset.setNoc { spTo := [(63, 1)] }, 63, 0#32, 1, by decide +kernel⟩,
  ⟨State.reset.setNoc { spTo := [(63, 1)] }, 63, 1, by decide +kernel⟩,
  ⟨(State.reset.setNoc { spTo := [(1, 2)] }).withMem [(0x10100000, 5)], 1, 0x10100000, by decide +kernel, by decide +kernel, ⟨by decide +kernel, by decide +kernel⟩⟩,
  ⟨State.reset, 0x80000000#32, by decide +kernel⟩,
  ⟨State.reset.setFld Reg.PWR_MODE 3 0 6, 0x80000003#32, by decide +kernel⟩⟩

theorem wit_NocTargets :
    (∃ (s : State) (init : Fin 512) (tag : BitVec 9) (r : NocReq),
      (dueReq s init.val tag.toNat 0 = some r) ∧ (r.tag < 256) ∧ (inScratch r.addr = true) ∧ (spOn s (spBank r.addr) = true) ∧ (∀ w ∈ wordsOf r.addr r.len, spErr s w = 0)) ∧
    (∃ (s : State) (init : Fin 512) (tag : BitVec 9) (r : NocReq),
      (dueReq s init.val tag.toNat 0 = some r) ∧ (r.tag < 256) ∧ (inScratch r.addr = true) ∧ (spOn s (spBank r.addr) = false)) ∧
    (∃ (s : State) (init : Fin 512) (tag : BitVec 9) (r : NocReq),
      (dueReq s init.val tag.toNat 0 = some r) ∧ (r.tag < 256) ∧ (mapped r.addr = false) ∧ (init.val ≠ 436) ∧ (init.val ≠ 437)) ∧
    (∃ (s : State) (init : Fin 512) (tag : BitVec 9) (r : NocReq),
      (dueReq s init.val tag.toNat 0 = some r) ∧ (r.tag < 256) ∧ (r.e2e = true)) ∧
    (∃ (s : State) (init : Fin 512) (tag : BitVec 9) (bad : Bool) (soft : Fin 3) (host : Option (List Byte)),
      (∀ x ∈ s.noc.sent, ¬(x.init = init.val ∧ x.tag = tag.toNat ∧ x.op = 0))) ∧
    (∃ (s : State) (init : Fin 512) (tag : BitVec 9) (r : NocReq) (x : Nat),
      (dueReq s init.val tag.toNat 1 = some r) ∧ (r.tag < 256) ∧ (inScratch r.addr = true) ∧ (spOn s (spBank r.addr) = true) ∧ (s.shadowing = false) ∧ (jOn s = false) ∧ (s.noc.flip = none) ∧ (r.init ≠ 472) ∧ (r.data.length = r.len) ∧ ((spBank (r.addr + r.len - 1)) = spBank r.addr) ∧ (mirHit s r.addr r.len = false) ∧ (inMir s r.addr = false)) ∧
    (∃ (s : State) (init : Fin 512) (tag : BitVec 9) (r : NocReq),
      (dueReq s init.val tag.toNat 1 = some r) ∧ (r.tag < 256) ∧ (mapped r.addr = false) ∧ (init.val ≠ 436) ∧ (init.val ≠ 437)) ∧
    (∃ (s : State) (init : Fin 512) (tag : BitVec 9) (r : NocReq),
      (dueReq s init.val tag.toNat 2 = some r) ∧ (r.tag < 256) ∧ (inScratch r.addr = true) ∧ (spOn s (spBank r.addr) = true) ∧ (s.shadowing = false) ∧ (jOn s = false) ∧ (s.noc.flip = none) ∧ (r.init ≠ 472) ∧ (r.len = 4 ∨ r.len = 8) ∧ (r.addr % r.len = 0) ∧ (mirHit s r.addr r.len = false) ∧ (inMir s r.addr = false) ∧ (∀ w ∈ wordsOf r.addr r.len, spErr s w = 0)) ∧
    (∃ (s : State) (init : Fin 512) (tag : BitVec 9) (r : NocReq),
      (dueReq s init.val tag.toNat 3 = some r) ∧ (r.tag < 256) ∧ (inScratch r.addr = true) ∧ (spOn s (spBank r.addr) = true) ∧ (s.shadowing = false) ∧ (jOn s = false) ∧ (s.noc.flip = none) ∧ (r.init ≠ 472) ∧ (r.len = 4 ∨ r.len = 8) ∧ (r.addr % r.len = 0) ∧ (mirHit s r.addr r.len = false) ∧ (inMir s r.addr = false) ∧ (∀ w ∈ wordsOf r.addr r.len, spErr s w = 0) ∧ (r.data.length = r.len)) ∧
    (∃ (s : State) (init : Fin 512) (tag : BitVec 9) (r : NocReq),
      (dueReq s init.val tag.toNat 2 = some r) ∧ (r.tag < 256) ∧ (mapped r.addr = true) ∧ (inWin r.addr = false) ∧ (inScratch r.addr = false)) :=
  ⟨⟨(State.reset.setNoc { sent := [({ init := 0, tag := 1, op := 0, cls := 0, kix := 0, await := false, e2e := false, addr := 0x10000040, len := 8, data := [] } : NocReq)] }).withMem [(0x10000041, 5)], 0, 1#9, ({ init := 0, tag := 1, op := 0, cls := 0, kix := 0, await := false, e2e := false, addr := 0x10000040, len := 8, data := [] } : NocReq), by decide +kernel⟩,
  ⟨(State.reset.setNoc { sent := [({ init := 0, tag := 1, op := 0, cls := 0, kix := 0, await := false, e2e := false, addr := 0x10000040, len := 8, data := [] } : NocReq)] }).setFld (Reg.SP_BANK_STAT 0) 2 0 2, 0, 1#9, ({ init := 0, tag := 1, op := 0, cls := 0, kix := 0, await := false, e2e := false, addr := 0x10000040, len := 8, data := [] } : NocReq), by decide +kernel⟩,
  ⟨(State.reset.setNoc { sent := [({ init := 0, tag := 1, op := 0, cls := 0, kix := 0, await := false, e2e := false, addr := 0x800000000000, len := 8, data := [] } : NocReq)] }), 0, 1#9, ({ init := 0, tag := 1, op := 0, cls := 0, kix := 0, await := false, e2e := false, addr := 0x800000000000, len := 8, data := [] } : NocReq), by decide +kernel⟩,
  ⟨(State.reset.setNoc { sent := [({ init := 0, tag := 1, op := 0, cls := 0, kix := 0, await := false, e2e := true, addr := 0x10000040, len := 8, data := [] } : NocReq)] }), 0, 1#9, ({ init := 0, tag := 1, op := 0, cls := 0, kix := 0, await := false, e2e := true, addr := 0x10000040, len := 8, data := [] } : NocReq), by decide +kernel⟩,
  ⟨(State.reset.setNoc { sent := [({ init := 0, tag := 1, op := 1, cls := 0, kix := 0, await := false, e2e := false, addr := 0x10000040, len := 8, data := [] } : NocReq)] }), 0, 1#9, true, 0, none, by decide +kernel⟩,
  ⟨(State.reset.setNoc { sent := [({ init := 0, tag := 1, op := 1, cls := 0, kix := 0, await := false, e2e := false, addr := 0x10000040, len := 8, data := [1, 2, 3, 4, 5, 6, 7, 8] } : NocReq)] }), 0, 1#9, ({ init := 0, tag := 1, op := 1, cls := 0, kix := 0, await := false, e2e := false, addr := 0x10000040, len := 8, data := [1, 2, 3, 4, 5, 6, 7, 8] } : NocReq), 0x10000043, by decide +kernel⟩,
  ⟨(State.reset.setNoc { sent := [({ init := 0, tag := 1, op := 1, cls := 0, kix := 0, await := false, e2e := false, addr := 0x800000000000, len := 8, data := [] } : NocReq)] }), 0, 1#9, ({ init := 0, tag := 1, op := 1, cls := 0, kix := 0, await := false, e2e := false, addr := 0x800000000000, len := 8, data := [] } : NocReq), by decide +kernel⟩,
  ⟨(State.reset.setNoc { sent := [({ init := 0, tag := 1, op := 2, cls := 0, kix := 0, await := false, e2e := false, addr := 0x10000040, len := 4, data := [255, 255, 255, 255] } : NocReq)] }).withMem [(0x10000040, 5)], 0, 1#9, ({ init := 0, tag := 1, op := 2, cls := 0, kix := 0, await := false, e2e := false, addr := 0x10000040, len := 4, data := [255, 255, 255, 255] } : NocReq), by decide +kernel⟩,
  ⟨(State.reset.setNoc { sent := [({ init := 0, tag := 1, op := 3, cls := 0, kix := 0, await := false, e2e := false, addr := 0x10000040, len := 4, data := [9, 8, 7, 6] } : NocReq)] }).withMem [(0x10000040, 5)], 0, 1#9, ({ init := 0, tag := 1, op := 3, cls := 0, kix := 0, await := false, e2e := false, addr := 0x10000040, len := 4, data := [9, 8, 7, 6] } : NocReq), by decide +kernel⟩,
  ⟨(State.reset.setNoc { sent := [({ init := 0, tag := 1, op := 2, cls := 0, kix := 0, await := false, e2e := false, addr := 0x30000000, len := 8, data := [] } : NocReq)] }), 0, 1#9, ({ init := 0, tag := 1, op := 2, cls := 0, kix := 0, await := false, e2e := false, addr := 0x30000000, len := 8, data := [] } : NocReq), by decide +kernel⟩⟩

theorem wit_SdramChannels_1 :
    (∃ (s : State) (h : Fin 4) (m : Merge) (q : List Merge) (i : Nat),
      ((chanSt s h).merge = m :: q) ∧ ((∀ x ∈ q, x.line ≠ m.line)) ∧ ((lineChan s m.line).1 = h.val) ∧ (lineErr s m.line = {}) ∧ ((chanSt s h).flip = none) ∧ (i < 64)) ∧
    (∃ (s : State) (h : Fin 4),
      ((chanSt s h).merge = [])) ∧
    (∃ (s : State) (h : Fin 4) (rank : Fin 2),
      (chanReady s h = true) ∧ (s.flag (Reg.MEM_STAT h) 2 = false) ∧ ((if rank.val = 0 then (chanSt s h).post0 else (chanSt s h).post1) < 8)) ∧
    (∃ (s : State) (h : Fin 4) (rank : Fin 2),
      (chanReady s h = true) ∧ (s.flag (Reg.MEM_STAT h) 2 = false) ∧ ((if rank.val = 0 then (chanSt s h).post0 else (chanSt s h).post1) ≠ 0)) ∧
    (∃ (s : State) (h : Fin 4),
      (modeIn s setupModes = true) ∧ (s.fld (Reg.MEM_STAT h) 1 0 = 0 ∨ s.fld (Reg.MEM_STAT h) 1 0 = 3)) ∧
    (∃ (s : State) (h : Fin 4),
      (modeIn s setupModes = false)) ∧
    (∃ (s : State) (h : Fin 4),
      (s.fld (Reg.MEM_STAT h) 1 0 = 1)) ∧
    (∃ (s : State) (h : Fin 4),
      (s.fld (Reg.MEM_STAT h) 1 0 = 1)) ∧
    (∃ (s : State) (h : Fin 4) (ok : Bool),
      (s.fld (Reg.MEM_STAT h) 1 0 ≠ 1)) ∧
    (∃ (s : State) (h : Fin 4),
      (chanReady s h = true)) ∧
    (∃ (s : State) (h : Fin 4),
      ((chanSt s h).due = true) ∧ (trainSlot s h = true)) ∧
    (∃ (s : State) (h : Fin 4),
      ((chanSt s h).due = true)) :=
  ⟨⟨(setChan State.reset 0 { merge := [{ line := sdBase / 64, bytes := [(3, 7)] }] }), 0, { line := sdBase / 64, bytes := [(3, 7)] }, [], 3, by decide +kernel⟩,
  ⟨State.reset, 1, by decide +kernel⟩,
  ⟨(State.reset.setFld (Reg.MEM_STAT 0) 1 0 2), 0, 1, by decide +kernel⟩,
  ⟨(setChan (State.reset.setFld (Reg.MEM_STAT 0) 1 0 2) 0 { post1 := 3 }), 0, 1, by decide +kernel⟩,
  ⟨State.reset.setFld Reg.PWR_MODE 3 0 2, 1, by decide +kernel⟩,
  ⟨State.reset, 1, by decide +kernel⟩,
  ⟨State.reset.setFld (Reg.MEM_STAT 1) 1 0 1, 1, by decide +kernel⟩,
  ⟨State.reset.setFld (Reg.MEM_STAT 1) 1 0 1, 1, by decide +kernel⟩,
  ⟨State.reset, 1, true, by decide +kernel⟩,
  ⟨(State.reset.setFld (Reg.MEM_STAT 0) 1 0 2), 0, by decide +kernel⟩,
  ⟨(setChan State.reset 0 { due := true }), 0, by decide +kernel⟩,
  ⟨(setChan State.reset 0 { due := true }), 0, by decide +kernel⟩⟩

theorem wit_SdramChannels_2 :
    (∃ (s : State) (h : Fin 4),
      ((chanSt s h).due = false)) ∧
    (∃ (s : State) (h : Fin 4),
      (s.fld (Reg.MEM_PATROL h) 15 0 ≠ 0) ∧ (chanReady s h = true) ∧ (lineErr s (sysAddr s h (64 * (chanSt s h).patrol) / 64) = {})) ∧
    (∃ (s : State) (h : Fin 4),
      (s.fld (Reg.MEM_PATROL h) 15 0 = 0 ∨ chanReady s h = false)) ∧
    (∃ (s : State) (h : Fin 4),
      (∀ n, n < 256 → s.flag (Reg.MEM_REMAP h n) 31 = false) ∧ ((chanSt s h).page = none) ∧ ((chanSt s h).merge = [])) ∧
    (∃ (s : State) (h : Fin 4),
      ((chanSt s h).page ≠ none)) ∧
    (∃ (s : State) (h : Fin 4) (page n : Nat),
      ((chanSt s h).page = some (page, n)) ∧ (n < 256) ∧ (page < 2 ^ 24) ∧ (s.ext.errs = []) ∧ (∀ c, c < 4 → (chanSt s c).flip = none) ∧ (s.fld (Reg.MEM_STAT h) 16 8 < 256)) ∧
    (∃ (s : State) (h : Fin 4),
      (s.flag (Reg.MEM_SPARE h) 0 = true) ∧ ((chanSt s h).bank = none) ∧ ((chanSt s h).retired = none)) ∧
    (∃ (s : State) (h : Fin 4),
      (s.flag (Reg.MEM_SPARE h) 0 = false ∨ (chanSt s h).bank ≠ none ∨ (chanSt s h).retired ≠ none)) ∧
    (∃ (s : State) (h : Fin 4) (b : Nat),
      ((chanSt s h).bank = some b) ∧ (s.ext.errs = [])) ∧
    (∃ (s : State) (h : Fin 4) (v : BitVec 32),
      (modeIn s testModes = false)) ∧
    (∃ (s : State) (h : Fin 4) (v : BitVec 32),
      (modeIn s testModes = true) ∧ (v.getLsbD 31 = true)) ∧
    (∃ (s : State) (h : Fin 4) (v : BitVec 32),
      (modeIn s testModes = true) ∧ (v.getLsbD 31 = false)) :=
  ⟨⟨State.reset, 0, by decide +kernel⟩,
  ⟨(State.reset.setFld (Reg.MEM_STAT 0) 1 0 2).setRegN (Reg.MEM_PATROL 0) 5, 0, by decide +kernel⟩,
  ⟨State.reset, 0, by decide +kernel⟩,
  ⟨State.reset.setRegN (Reg.MEM_RETIRE_ARG 1) 77, 1, by decide +kernel⟩,
  ⟨(setChan State.reset 0 { page := some (1, 0) }), 0, by decide +kernel⟩,
  ⟨(setChan State.reset 0 { page := some (1, 255) }), 0, 1, 255, by decide +kernel⟩,
  ⟨State.reset.setFlag (Reg.MEM_SPARE 1) 0 true, 1, by decide +kernel⟩,
  ⟨State.reset.setFlag (Reg.MEM_SPARE 1) 0 false, 1, by decide +kernel⟩,
  ⟨(setChan State.reset 0 { bank := some 5 }), 0, 5, by decide +kernel⟩,
  ⟨State.reset, 3, 0x80000000#32, by decide +kernel⟩,
  ⟨State.reset.setFld Reg.PWR_MODE 3 0 6, 3, 0x80000000#32, by decide +kernel⟩,
  ⟨State.reset.setFld Reg.PWR_MODE 3 0 6, 3, 0#32, by decide +kernel⟩⟩

theorem wit_SdramChannels_3 : ∃ (s : State) (h : Fin 4) (init : Fin 512),
      (init.val ≠ 474) ∧ ((chanSt s h).log.q ≠ []) :=
  ⟨(setChan State.reset 0 { log := { q := [7#128] } }), 0, 436, by decide +kernel⟩

theorem wit_CxlAndPcie_1 :
    (∃ (s : State) (d : Fin 4) (v : BitVec 32),
      (decOn s d = false) ∧ (v.getLsbD 0 = true) ∧ (decBad (s.setRegN (Reg.CXL_DEC_CTL d) (Nat.land v.toNat 0x1F9 + bit (s.flag (Reg.CXL_DEC_CTL d) 2) * 4)) d = false)) ∧
    (∃ (s : State) (d : Fin 4) (v : BitVec 32),
      (decOn s d = false) ∧ (v.getLsbD 0 = true) ∧ (decBad (s.setRegN (Reg.CXL_DEC_CTL d) (Nat.land v.toNat 0x1F9 + bit (s.flag (Reg.CXL_DEC_CTL d) 2) * 4)) d = true)) ∧
    (∃ (s : State) (d : Fin 4) (v : BitVec 32),
      (decOn s d = true) ∧ (v.getLsbD 0 = true)) ∧
    (∃ (s : State) (d : Fin 4) (v : BitVec 32),
      (decOn s d = true) ∧ (v.getLsbD 0 = false)) ∧
    (∃ (s : State) (init : Fin 512) (tag : BitVec 8) (r : NocReq),
      (cxlReq s init.val tag.toNat = some r) ∧ (r.tag < 256) ∧ (r.op ≠ 1)) ∧
    (∃ (s : State) (init : Fin 512) (tag : BitVec 8) (r : NocReq),
      (cxlReq s init.val tag.toNat = some r) ∧ (r.tag < 256) ∧ (r.op ≠ 1)) ∧
    (∃ (s : State) (init : Fin 512) (tag : BitVec 8) (r : NocReq) (x : Nat) (p : Bool),
      (cxlReq s init.val tag.toNat = some r) ∧ (r.tag < 256) ∧ (r.op = 1) ∧ (inHdm r.addr = true) ∧ (s.shadowing = false) ∧ (jOn s = false) ∧ (r.data.length = r.len) ∧ (r.addr % 512 + r.len ≤ 512) ∧ (impKind s r.addr r.kix = .plain) ∧ (mirHit s r.addr r.len = false) ∧ (r.addr ≤ x) ∧ (x < r.addr + r.len)) ∧
    (∃ (s : State) (init : Fin 512) (tag : BitVec 8) (p : Bool),
      (s.ext.cxl = [])) ∧
    (∃ (s : State) (init : Fin 512) (tag : BitVec 8) (r : NocReq),
      (cxlReq s init.val tag.toNat = some r) ∧ (r.tag < 256)) ∧
    (∃ (s : State) (p : Fin 2) (w g : Fin 8),
      (cxlPortOn s p = true) ∧ (cxlUp s p = false)) ∧
    (∃ (s : State) (p : Fin 2) (w g : Fin 8),
      (cxlUp s p = true) ∧ (∀ r ∈ s.ext.cxl, ¬((decOf s r.addr).any (fun d => decPort s d r.addr == p.val) = true))) ∧
    (∃ (s : State) (p : Fin 2) (up : Bool) (w g : Fin 8),
      (up = cxlUp s p ∨ (up = true ∧ cxlPortOn s p = false))) :=
  ⟨⟨((State.reset.setRegN Reg.CXL_CTL 1).setRegN Reg.CXL_STAT 1).setRegN (Reg.CXL_DEC_SIZE 0) 1, 0, 1#32, by decide +kernel⟩,
  ⟨State.reset, 0, 1#32, by decide +kernel⟩,
  ⟨State.reset.setRegN (Reg.CXL_DEC_CTL 1) 3, 1, 1#32, by decide +kernel⟩,
  ⟨State.reset.setRegN (Reg.CXL_DEC_CTL 1) 3, 1, 0#32, by decide +kernel⟩,
  ⟨{ State.reset with ext := { cxl := [({ init := 0, tag := 1, op := 0, cls := 0, kix := 0, await := false, e2e := false, addr := hdmBase, len := 4, data := [] } : NocReq)] } }, 0, 1#8, ({ init := 0, tag := 1, op := 0, cls := 0, kix := 0, await := false, e2e := false, addr := hdmBase, len := 4, data := [] } : NocReq), by decide +kernel⟩,
  ⟨{ State.reset with ext := { cxl := [({ init := 0, tag := 1, op := 0, cls := 0, kix := 0, await := false, e2e := false, addr := hdmBase, len := 4, data := [] } : NocReq)] } }, 0, 1#8, ({ init := 0, tag := 1, op := 0, cls := 0, kix := 0, await := false, e2e := false, addr := hdmBase, len := 4, data := [] } : NocReq), by decide +kernel⟩,
  ⟨{ State.reset with ext := { cxl := [({ init := 0, tag := 1, op := 1, cls := 0, kix := 0, await := false, e2e := false, addr := hdmBase, len := 4, data := [1, 2, 3, 4] } : NocReq)] } }, 0, 1#8, ({ init := 0, tag := 1, op := 1, cls := 0, kix := 0, await := false, e2e := false, addr := hdmBase, len := 4, data := [1, 2, 3, 4] } : NocReq), hdmBase + 3, false, by decide +kernel⟩,
  ⟨State.reset, 0, 1#8, true, by decide +kernel⟩,
  ⟨{ State.reset with ext := { cxl := [({ init := 0, tag := 1, op := 0, cls := 0, kix := 0, await := false, e2e := false, addr := hdmBase, len := 4, data := [] } : NocReq)] } }, 0, 1#8, ({ init := 0, tag := 1, op := 0, cls := 0, kix := 0, await := false, e2e := false, addr := hdmBase, len := 4, data := [] } : NocReq), by decide +kernel⟩,
  ⟨State.reset.setRegN Reg.CXL_CTL 3, 1, 7, 5, by decide +kernel⟩,
  ⟨(State.reset.setRegN Reg.CXL_CTL 1).setRegN Reg.CXL_STAT 1, 0, 1, 1, by decide +kernel⟩,
  ⟨State.reset, 0, true, 1, 1, by decide +kernel⟩⟩

theorem wit_CxlAndPcie_2 :
    (∃ (s : State) (bar : Fin 3) (wr : Bool) (ofs : BitVec 26) (len : Fin 256) (tag : BitVec 8) (data : List Byte),
      (s.flag Reg.PCIE_STAT 0 = false)) ∧
    (∃ (s : State) (bar : Fin 3) (wr : Bool) (ofs : BitVec 26) (len : Fin 256) (tag : BitVec 8) (data : List Byte),
      (s.flag Reg.PCIE_STAT 0 = true) ∧ (s.mode = mStable)) ∧
    (∃ (s : State) (bar : Fin 3) (wr : Bool) (ofs : BitVec 26) (len : Fin 256) (tag : BitVec 8) (data : List Byte) (a : Nat),
      (s.flag Reg.PCIE_STAT 0 = true) ∧ (s.mode ≠ mStable) ∧ (a = (if bar.val = 0 then 0x10000000 + ofs.toNat else if bar.val = 1 then blockBase blkPac + ofs.toNat % 2 ^ 24 else blockBase (s.fld Reg.PCIE_BAR4_TGT 3 0) + ofs.toNat % 2 ^ 24)) ∧ (oneBlock a (len.val + 1) = true) ∧ (curbOf s 444 = none) ∧ (∀ x ∈ s.noc.paced, x.init ≠ 444) ∧ (∀ m, m < 32 → s.flag (Reg.NOC_MON_CFG m) 16 = false)) :=
  ⟨⟨State.reset, 0, false, 5#26, 3, 1#8, [], by decide +kernel⟩,
  ⟨(State.reset.setRegN Reg.PCIE_STAT 1).setFld Reg.PWR_MODE 3 0 9, 0, false, 5#26, 3, 1#8, [], by decide +kernel⟩,
  ⟨State.reset.setRegN Reg.PCIE_STAT 1, 0, false, 5#26, 3, 1#8, [], 0x10000005, by decide +kernel⟩⟩

theorem wit_ImpAccess_1 :
    (∃ (s : State) (tile : BitVec 39) (q : NocReq) (r : Nat),
      (s.imp.reads.find? (fun x => x.tile == tile.toNat) = some ⟨tile.toNat, some q⟩) ∧ (rngOf s (512 * tile.toNat) = some r) ∧ (poisonHits s r tile.toNat = false) ∧ (claimed s tile.toNat = false) ∧ (pathKnown s r tile.toNat = true) ∧ (tileCtr s r tile.toNat = 0) ∧ (q.tag < 256)) ∧
    (∃ (s : State) (tile : BitVec 39) (q : NocReq) (r : Nat),
      (s.imp.reads.find? (fun x => x.tile == tile.toNat) = some ⟨tile.toNat, some q⟩) ∧ (rngOf s (512 * tile.toNat) = some r) ∧ (poisonHits s r tile.toNat = true) ∧ (q.tag < 256)) ∧
    (∃ (s : State) (tile : BitVec 39) (q : NocReq) (r : Nat),
      (s.imp.reads.find? (fun x => x.tile == tile.toNat) = some ⟨tile.toNat, some q⟩) ∧ (rngOf s (512 * tile.toNat) = some r) ∧ (poisonHits s r tile.toNat = false) ∧ (claimed s tile.toNat = true ∨ pathKnown s r tile.toNat = false)) ∧
    (∃ (s : State) (tile : BitVec 39) (q : NocReq) (r : Nat),
      (s.imp.reads.find? (fun x => x.tile == tile.toNat) = some ⟨tile.toNat, some q⟩) ∧ (rngOf s (512 * tile.toNat) = some r) ∧ (poisonHits s r tile.toNat = false) ∧ (claimed s tile.toNat = false) ∧ (pathKnown s r tile.toNat = true) ∧ (tileCtr s r tile.toNat ≠ 0) ∧ (q.tag < 256) ∧ (s.ext.errs = []) ∧ (isSpec q = true)) ∧
    (∃ (s : State) (tile : BitVec 39) (q : NocReq) (r : Nat),
      (s.imp.reads.find? (fun x => x.tile == tile.toNat) = some ⟨tile.toNat, some q⟩) ∧ (rngOf s (512 * tile.toNat) = some r) ∧ (poisonHits s r tile.toNat = false) ∧ (claimed s tile.toNat = false) ∧ (pathKnown s r tile.toNat = true) ∧ (tileCtr s r tile.toNat ≠ 0) ∧ (q.tag < 256) ∧ (s.ext.errs = []) ∧ (isSpec q = false)) ∧
    (∃ (s : State) (tile : BitVec 39) (c : ImpCheck) (q : NocReq),
      (s.imp.checks.find? (fun x => x.tile == tile.toNat) = some c) ∧ (c.req = some q) ∧ (q.tag < 256) ∧ (c.tagUe = false) ∧ (c.good = true) ∧ (c.spec = false)) ∧
    (∃ (s : State) (tile : BitVec 39) (c : ImpCheck) (q : NocReq),
      (s.imp.checks.find? (fun x => x.tile == tile.toNat) = some c) ∧ (c.req = some q) ∧ (q.tag < 256) ∧ (c.tagUe = false) ∧ (c.good = true) ∧ (c.spec = true)) ∧
    (∃ (s : State) (tile : BitVec 39) (c : ImpCheck) (q : NocReq),
      (s.imp.checks.find? (fun x => x.tile == tile.toNat) = some c) ∧ (c.req = some q) ∧ (q.tag < 256) ∧ (c.tagUe = false) ∧ (c.good = false) ∧ (c.spec = false)) ∧
    (∃ (s : State) (tile : BitVec 39) (c : ImpCheck) (q : NocReq),
      (s.imp.checks.find? (fun x => x.tile == tile.toNat) = some c) ∧ (c.req = some q) ∧ (q.tag < 256) ∧ (c.good = false) ∧ (c.tagUe = false) ∧ (c.spec = true) ∧ (s.pac.ops = []) ∧ (s.pac.lastRel = [])) ∧
    (∃ (s : State) (tile : BitVec 39) (c : ImpCheck) (q : NocReq),
      (s.imp.checks.find? (fun x => x.tile == tile.toNat) = some c) ∧ (c.req = some q) ∧ (q.tag < 256) ∧ (c.spec = false)) ∧
    (∃ (s : State) (tile : BitVec 39),
      (∀ c ∈ s.imp.checks, c.tile ≠ tile.toNat)) ∧
    (∃ (s : State) (init : Fin 512) (tag : BitVec 8) (q : NocReq) (r : Nat),
      (s.imp.writes.find? (fun x => x.init == init.val && x.tag == tag.toNat) = some q) ∧ (claimed s (q.addr / 512) = false) ∧ (impKind s q.addr q.kix = .encInt r) ∧ (poisonHits s r (q.addr / 512) = false) ∧ (ctrFull s r (q.addr / 512) = false) ∧ (tileBuf s (q.addr / 512) = none) ∧ (s.imp.buf.length < 32)) :=
  ⟨⟨(((((((State.reset.setRegN (Reg.IMP_RNG_BASE_HI 0) 0x10).setRegN (Reg.IMP_RNG_SIZE 0) 1).setRegN (Reg.IMP_RNG_META_HI 0) 0x10).setRegN (Reg.IMP_RNG_META_LO 0) 0x10000).setRegN (Reg.IMP_RNG_CTL 0) 0x306)).setImp { reads := [⟨0x8000000, some ({ init := 0, tag := 1, op := 0, cls := 0, kix := 0, await := false, e2e := false, addr := 0x1000000000, len := 4, data := [] } : NocReq)⟩] }), 0x8000000#39, ({ init := 0, tag := 1, op := 0, cls := 0, kix := 0, await := false, e2e := false, addr := 0x1000000000, len := 4, data := [] } : NocReq), 0, by decide +kernel⟩,
  ⟨(((((((State.reset.setRegN (Reg.IMP_RNG_BASE_HI 0) 0x10).setRegN (Reg.IMP_RNG_SIZE 0) 1).setRegN (Reg.IMP_RNG_META_HI 0) 0x10).setRegN (Reg.IMP_RNG_META_LO 0) 0x10000).setRegN (Reg.IMP_RNG_CTL 0) 0x306).setFlag (Reg.IMP_RNG_CTL 0) 12 true).setImp { reads := [⟨0x8000000, some ({ init := 0, tag := 1, op := 0, cls := 0, kix := 0, await := true, e2e := false, addr := 0x1000000000, len := 4, data := [] } : NocReq)⟩] }), 0x8000000#39, ({ init := 0, tag := 1, op := 0, cls := 0, kix := 0, await := true, e2e := false, addr := 0x1000000000, len := 4, data := [] } : NocReq), 0, by decide +kernel⟩,
  ⟨(((((((State.reset.setRegN (Reg.IMP_RNG_BASE_HI 0) 0x10).setRegN (Reg.IMP_RNG_SIZE 0) 1).setRegN (Reg.IMP_RNG_META_HI 0) 0x10).setRegN (Reg.IMP_RNG_META_LO 0) 0x10000).setRegN (Reg.IMP_RNG_CTL 0) 0x306)).setImp { reads := [⟨0x8000000, some ({ init := 0, tag := 1, op := 0, cls := 0, kix := 0, await := false, e2e := false, addr := 0x1000000000, len := 4, data := [] } : NocReq)⟩], roots := [(0, [1, 0, 0, 0, 0, 0, 0, 0])] }), 0x8000000#39, ({ init := 0, tag := 1, op := 0, cls := 0, kix := 0, await := false, e2e := false, addr := 0x1000000000, len := 4, data := [] } : NocReq), 0, by decide +kernel⟩,
  ⟨(((((((State.reset.setRegN (Reg.IMP_RNG_BASE_HI 0) 0x10).setRegN (Reg.IMP_RNG_SIZE 0) 1).setRegN (Reg.IMP_RNG_META_HI 0) 0x10).setRegN (Reg.IMP_RNG_META_LO 0) 0x10000).setRegN (Reg.IMP_RNG_CTL 0) 0x306)).setImp { reads := [⟨0x8000000, some ({ init := 0, tag := 1, op := 0, cls := 0, kix := 0, await := false, e2e := false, addr := 0x1000000000, len := 4, data := [] } : NocReq)⟩], cache := [⟨0, 1, 0, [1, 0, 0, 0, 0, 0, 0, 0], false⟩] }), 0x8000000#39, ({ init := 0, tag := 1, op := 0, cls := 0, kix := 0, await := false, e2e := false, addr := 0x1000000000, len := 4, data := [] } : NocReq), 0, by decide +kernel⟩,
  ⟨(((((((State.reset.setRegN (Reg.IMP_RNG_BASE_HI 0) 0x10).setRegN (Reg.IMP_RNG_SIZE 0) 1).setRegN (Reg.IMP_RNG_META_HI 0) 0x10).setRegN (Reg.IMP_RNG_META_LO 0) 0x10000).setRegN (Reg.IMP_RNG_CTL 0) 0x306)).setImp { reads := [⟨0x8000000, some ({ init := 0, tag := 1, op := 0, cls := 0, kix := 0, await := true, e2e := false, addr := 0x1000000000, len := 4, data := [] } : NocReq)⟩], cache := [⟨0, 1, 0, [1, 0, 0, 0, 0, 0, 0, 0], false⟩] }), 0x8000000#39, ({ init := 0, tag := 1, op := 0, cls := 0, kix := 0, await := true, e2e := false, addr := 0x1000000000, len := 4, data := [] } : NocReq), 0, by decide +kernel⟩,
  ⟨State.reset.setImp { checks := [({ tile := 0x8000000, req := some ({ init := 0, tag := 1, op := 0, cls := 0, kix := 0, await := true, e2e := false, addr := 0x1000000000, len := 4, data := [] } : NocReq), spec := false, good := true, tagUe := false, data := [1, 2, 3, 4] } : ImpCheck)] }, 0x8000000#39, ({ tile := 0x8000000, req := some ({ init := 0, tag := 1, op := 0, cls := 0, kix := 0, await := true, e2e := false, addr := 0x1000000000, len := 4, data := [] } : NocReq), spec := false, good := true, tagUe := false, data := [1, 2, 3, 4] } : ImpCheck), ({ init := 0, tag := 1, op := 0, cls := 0, kix := 0, await := true, e2e := false, addr := 0x1000000000, len := 4, data := [] } : NocReq), by decide +kernel⟩,
  ⟨State.reset.setImp { checks := [({ tile := 0x8000000, req := some ({ init := 0, tag := 1, op := 0, cls := 0, kix := 0, await := false, e2e := false, addr := 0x1000000000, len := 4, data := [] } : NocReq), spec := true, good := true, tagUe := false, data := [1, 2, 3, 4] } : ImpCheck)] }, 0x8000000#39, ({ tile := 0x8000000, req := some ({ init := 0, tag := 1, op := 0, cls := 0, kix := 0, await := false, e2e := false, addr := 0x1000000000, len := 4, data := [] } : NocReq), spec := true, good := true, tagUe := false, data := [1, 2, 3, 4] } : ImpCheck), ({ init := 0, tag := 1, op := 0, cls := 0, kix := 0, await := false, e2e := false, addr := 0x1000000000, len := 4, data := [] } : NocReq), by decide +kernel⟩,
  ⟨State.reset.setImp { checks := [({ tile := 0x8000000, req := some ({ init := 0, tag := 1, op := 0, cls := 0, kix := 0, await := true, e2e := false, addr := 0x1000000000, len := 4, data := [] } : NocReq), spec := false, good := false, tagUe := false, data := [1, 2, 3, 4] } : ImpCheck)] }, 0x8000000#39, ({ tile := 0x8000000, req := some ({ init := 0, tag := 1, op := 0, cls := 0, kix := 0, await := true, e2e := false, addr := 0x1000000000, len := 4, data := [] } : NocReq), spec := false, good := false, tagUe := false, data := [1, 2, 3, 4] } : ImpCheck), ({ init := 0, tag := 1, op := 0, cls := 0, kix := 0, await := true, e2e := false, addr := 0x1000000000, len := 4, data := [] } : NocReq), by decide +kernel⟩,
  ⟨State.reset.setImp { checks := [({ tile := 0x8000000, req := some ({ init := 0, tag := 1, op := 0, cls := 0, kix := 0, await := false, e2e := false, addr := 0x1000000000, len := 4, data := [] } : NocReq), spec := true, good := false, tagUe := false, data := [1, 2, 3, 4] } : ImpCheck)] }, 0x8000000#39, ({ tile := 0x8000000, req := some ({ init := 0, tag := 1, op := 0, cls := 0, kix := 0, await := false, e2e := false, addr := 0x1000000000, len := 4, data := [] } : NocReq), spec := true, good := false, tagUe := false, data := [1, 2, 3, 4] } : ImpCheck), ({ init := 0, tag := 1, op := 0, cls := 0, kix := 0, await := false, e2e := false, addr := 0x1000000000, len := 4, data := [] } : NocReq), by decide +kernel⟩,
  ⟨State.reset.setImp { checks := [({ tile := 0x8000000, req := some ({ init := 0, tag := 1, op := 0, cls := 0, kix := 0, await := true, e2e := false, addr := 0x1000000000, len := 4, data := [] } : NocReq), spec := false, good := true, tagUe := false, data := [1, 2, 3, 4] } : ImpCheck)] }, 0x8000000#39, ({ tile := 0x8000000, req := some ({ init := 0, tag := 1, op := 0, cls := 0, kix := 0, await := true, e2e := false, addr := 0x1000000000, len := 4, data := [] } : NocReq), spec := false, good := true, tagUe := false, data := [1, 2, 3, 4] } : ImpCheck), ({ init := 0, tag := 1, op := 0, cls := 0, kix := 0, await := true, e2e := false, addr := 0x1000000000, len := 4, data := [] } : NocReq), by decide +kernel⟩,
  ⟨State.reset, 0x8000000#39, by decide +kernel⟩,
  ⟨(((((((State.reset.setRegN (Reg.IMP_RNG_BASE_HI 0) 0x10).setRegN (Reg.IMP_RNG_SIZE 0) 1).setRegN (Reg.IMP_RNG_META_HI 0) 0x10).setRegN (Reg.IMP_RNG_META_LO 0) 0x10000).setRegN (Reg.IMP_RNG_CTL 0) 0x306)).setImp { writes := [({ init := 0, tag := 1, op := 1, cls := 0, kix := 0, await := false, e2e := false, addr := 0x1000000000, len := 4, data := [1, 2, 3, 4] } : NocReq)] }), 0, 1#8, ({ init := 0, tag := 1, op := 1, cls := 0, kix := 0, await := false, e2e := false, addr := 0x1000000000, len := 4, data := [1, 2, 3, 4] } : NocReq), 0, by decide +kernel⟩⟩

theorem wit_ImpAccess_2 :
    (∃ (s : State) (init : Fin 512) (tag : BitVec 8) (q : NocReq) (r : Nat),
      (s.imp.writes.find? (fun x => x.init == init.val && x.tag == tag.toNat) = some q) ∧ (claimed s (q.addr / 512) = false) ∧ (impKind s q.addr q.kix = .encInt r) ∧ (poisonHits s r (q.addr / 512) = true) ∧ (q.tag < 256)) ∧
    (∃ (s : State) (tile : BitVec 39) (b : TileBuf) (r : Nat),
      (tileBuf s tile.toNat = some b) ∧ (bufReady b = true) ∧ (impKind s (512 * tile.toNat) b.kix = .encInt r) ∧ (rngOf s (512 * tile.toNat) = some r) ∧ (ctrFull s r tile.toNat = false) ∧ (∀ p ∈ pathOf s r tile.toNat, (cachedNode s r p.1 p.2).isSome = true) ∧ (∀ n ∈ s.imp.cache, n.ctrs.length = 8) ∧ (s.imp.flip = none) ∧ (jOn s = false)) ∧
    (∃ (s : State) (tile : BitVec 39),
      (∀ b ∈ s.imp.buf, b.tile = tile.toNat → bufReady b = false)) ∧
    (∃ (s : State) (rng : Fin 16) (lv : Fin 12) (ix : BitVec 32),
      (rngOn s rng = true) ∧ (rngMode s rng = 2) ∧ (lv.val = 1) ∧ (ix.toNat < nodesAt (rngTiles s rng) (depthOf (rngTiles s rng)) 1) ∧ (cachedNode s rng 1 ix.toNat = none) ∧ (s.imp.cache.length < 16384) ∧ (ix.toNat < 8) ∧ ((rootOf s rng).getD (ix.toNat % 8) 0 = 0)) ∧
    (∃ (s : State) (rng : Fin 16) (lv : Fin 12) (ix : BitVec 32),
      (rngOn s rng = true) ∧ (rngMode s rng = 2) ∧ (lv.val = 1) ∧ (ix.toNat < nodesAt (rngTiles s rng) (depthOf (rngTiles s rng)) 1) ∧ (cachedNode s rng 1 ix.toNat = none) ∧ (s.imp.cache.length < 16384) ∧ (ix.toNat < 8) ∧ ((rootOf s rng).getD (ix.toNat % 8) 0 ≠ 0) ∧ (s.ext.errs = [])) ∧
    (∃ (s : State) (rng : Fin 16) (lv : Fin 12) (ix : BitVec 32),
      (rngOn s rng = false ∨ rngMode s rng ≠ 2 ∨ lv.val = 0)) :=
  ⟨⟨(((((((State.reset.setRegN (Reg.IMP_RNG_BASE_HI 0) 0x10).setRegN (Reg.IMP_RNG_SIZE 0) 1).setRegN (Reg.IMP_RNG_META_HI 0) 0x10).setRegN (Reg.IMP_RNG_META_LO 0) 0x10000).setRegN (Reg.IMP_RNG_CTL 0) 0x306).setFlag (Reg.IMP_RNG_CTL 0) 12 true).setImp { writes := [({ init := 0, tag := 1, op := 1, cls := 0, kix := 0, await := false, e2e := false, addr := 0x1000000000, len := 4, data := [1, 2, 3, 4] } : NocReq)] }), 0, 1#8, ({ init := 0, tag := 1, op := 1, cls := 0, kix := 0, await := false, e2e := false, addr := 0x1000000000, len := 4, data := [1, 2, 3, 4] } : NocReq), 0, by decide +kernel⟩,
  ⟨(((((((State.reset.setRegN (Reg.IMP_RNG_BASE_HI 0) 0x10).setRegN (Reg.IMP_RNG_SIZE 0) 1).setRegN (Reg.IMP_RNG_META_HI 0) 0x10).setRegN (Reg.IMP_RNG_META_LO 0) 0x10000).setRegN (Reg.IMP_RNG_CTL 0) 0x306)).setImp { buf := [{ tile := 0x8000000, old := some [] }], cache := [⟨0, 1, 0, [1, 0, 0, 0, 0, 0, 0, 0], false⟩] }), 0x8000000#39, { tile := 0x8000000, old := some [] }, 0, by decide +kernel⟩,
  ⟨State.reset, 0x8000000#39, by decide +kernel⟩,
  ⟨((((((State.reset.setRegN (Reg.IMP_RNG_BASE_HI 0) 0x10).setRegN (Reg.IMP_RNG_SIZE 0) 1).setRegN (Reg.IMP_RNG_META_HI 0) 0x10).setRegN (Reg.IMP_RNG_META_LO 0) 0x10000).setRegN (Reg.IMP_RNG_CTL 0) 0x306)), 0, 1, 0#32, by decide +kernel⟩,
  ⟨(((((((State.reset.setRegN (Reg.IMP_RNG_BASE_HI 0) 0x10).setRegN (Reg.IMP_RNG_SIZE 0) 1).setRegN (Reg.IMP_RNG_META_HI 0) 0x10).setRegN (Reg.IMP_RNG_META_LO 0) 0x10000).setRegN (Reg.IMP_RNG_CTL 0) 0x306)).setImp { roots := [(0, [1, 0, 0, 0, 0, 0, 0, 0])] }), 0, 1, 0#32, by decide +kernel⟩,
  ⟨State.reset, 0, 1, 0#32, by decide +kernel⟩⟩

theorem wit_ImpRanges_1 :
    (∃ (s : State) (n : Fin 16) (v : BitVec 32),
      (modeIn s rngModes = false)) ∧
    (∃ (s : State) (n : Fin 16) (v : BitVec 32),
      (modeIn s rngModes = true) ∧ (rngOn s n = true)) ∧
    (∃ (s : State) (n : Fin 16) (v : BitVec 32),
      (modeIn s rngModes = true) ∧ (rngOn s n = false) ∧ (commitBad (rngShow ((s.setFld (Reg.IMP_RNG_CTL n) 7 0 v.toNat).setFlag (Reg.IMP_RNG_CTL n) 8 true) n) n = true)) ∧
    (∃ (s : State) (n : Fin 16) (v : BitVec 32),
      (modeIn s rngModes = true) ∧ (rngOn s n = false) ∧ (commitBad (rngShow ((s.setFld (Reg.IMP_RNG_CTL n) 7 0 v.toNat).setFlag (Reg.IMP_RNG_CTL n) 8 true) n) n = false) ∧ (v.toNat % 4 = 2)) ∧
    (∃ (s : State) (n : Fin 16) (v : BitVec 32),
      (modeIn s rngModes = true) ∧ (rngOn s n = false) ∧ (commitBad (rngShow ((s.setFld (Reg.IMP_RNG_CTL n) 7 0 v.toNat).setFlag (Reg.IMP_RNG_CTL n) 8 true) n) n = false) ∧ (v.toNat % 4 ≠ 2)) ∧
    (∃ (s : State) (n : Fin 16) (v : BitVec 32),
      (modeIn s rngModes = false)) ∧
    (∃ (s : State) (n : Fin 16) (v : BitVec 32),
      (modeIn s rngModes = true) ∧ (s.flag (Reg.IMP_RNG_CTL n) 11 = true)) ∧
    (∃ (s : State) (n : Fin 16) (v : BitVec 32),
      (modeIn s rngModes = true) ∧ (s.flag (Reg.IMP_RNG_CTL n) 11 = false) ∧ (rngOn s n = true) ∧ (s.imp.buf = []) ∧ (s.imp.cache = [])) ∧
    (∃ (s : State) (v : BitVec 32),
      (s.flag (Reg.IMP_POISON (v.toNat % 64)) 31 = false)) ∧
    (∃ (s : State) (v : BitVec 32),
      (s.flag (Reg.IMP_POISON (v.toNat % 64)) 31 = true) ∧ (s.fld (Reg.IMP_POISON (v.toNat % 64)) 23 20 = 0)) ∧
    (∃ (s : State) (v : BitVec 32) (r k : Nat),
      (r = bitsOf v.toNat 11 8) ∧ (k = bitsOf v.toNat 21 16) ∧ (s.fld Reg.IMP_ROLL_STAT 1 0 = 0) ∧ ([mShadow, mStable, mBackup, mBoot, mBlank].contains s.mode = false) ∧ (rngOn s r = true) ∧ (rngMode s r ≠ 0) ∧ (slotLoaded s k = true) ∧ (s.fld (Reg.IMP_RNG_CTL r) 7 2 ≠ k)) ∧
    (∃ (s : State) (v : BitVec 32),
      (s.fld Reg.IMP_ROLL_STAT 1 0 ≠ 0 ∨ s.mode = mStable ∨ rngOn s (bitsOf v.toNat 11 8) = false ∨ slotLoaded s (bitsOf v.toNat 21 16) = false)) :=
  ⟨⟨State.reset, 15, 0x104#32, by decide +kernel⟩,
  ⟨((((((State.reset.setRegN (Reg.IMP_RNG_BASE_HI 0) 0x10).setRegN (Reg.IMP_RNG_SIZE 0) 1).setRegN (Reg.IMP_RNG_META_HI 0) 0x10).setRegN (Reg.IMP_RNG_META_LO 0) 0x10000).setRegN (Reg.IMP_RNG_CTL 0) 0x305)).setFld Reg.PWR_MODE 3 0 4, 0, 0x104#32, by decide +kernel⟩,
  ⟨State.reset.setFld Reg.PWR_MODE 3 0 4, 15, 0x104#32, by decide +kernel⟩,
  ⟨((((((State.reset.setRegN (Reg.IMP_RNG_BASE_HI 0) 0x10).setRegN (Reg.IMP_RNG_SIZE 0) 1).setRegN (Reg.IMP_RNG_META_HI 0) 0x10).setRegN (Reg.IMP_RNG_META_LO 0) 0x10000).setRegN (Reg.IMP_RNG_CTL 0) 0x306)).setFlag (Reg.IMP_RNG_CTL 0) 9 false |>.setFld Reg.PWR_MODE 3 0 4 |>.setFlag (Reg.IMP_KSLOT_STAT 1) 0 true, 0, 0x106#32, by decide +kernel⟩,
  ⟨((((((State.reset.setRegN (Reg.IMP_RNG_BASE_HI 0) 0x10).setRegN (Reg.IMP_RNG_SIZE 0) 1).setRegN (Reg.IMP_RNG_META_HI 0) 0x10).setRegN (Reg.IMP_RNG_META_LO 0) 0x10000).setRegN (Reg.IMP_RNG_CTL 0) 0x305)).setFlag (Reg.IMP_RNG_CTL 0) 9 false |>.setFld Reg.PWR_MODE 3 0 4 |>.setFlag (Reg.IMP_KSLOT_STAT 1) 0 true, 0, 0x105#32, by decide +kernel⟩,
  ⟨State.reset, 15, 4#32, by decide +kernel⟩,
  ⟨(State.reset.setFlag (Reg.IMP_RNG_CTL 1) 11 true).setFld Reg.PWR_MODE 3 0 4, 1, 4#32, by decide +kernel⟩,
  ⟨(((((((State.reset.setRegN (Reg.IMP_RNG_BASE_HI 0) 0x10).setRegN (Reg.IMP_RNG_SIZE 0) 1).setRegN (Reg.IMP_RNG_META_HI 0) 0x10).setRegN (Reg.IMP_RNG_META_LO 0) 0x10000).setRegN (Reg.IMP_RNG_CTL 0) 0x306)).setImp { roots := [(0, [1])], nkeys := [(0, [])] }).setFld Reg.PWR_MODE 3 0 4, 0, 4#32, by decide +kernel⟩,
  ⟨State.reset, 63#32, by decide +kernel⟩,
  ⟨(((((((State.reset.setRegN (Reg.IMP_RNG_BASE_HI 0) 0x10).setRegN (Reg.IMP_RNG_SIZE 0) 1).setRegN (Reg.IMP_RNG_META_HI 0) 0x10).setRegN (Reg.IMP_RNG_META_LO 0) 0x10000).setRegN (Reg.IMP_RNG_CTL 0) 0x306)).setImp { cache := [⟨0, 1, 0, [1, 0, 0, 0, 0, 0, 0, 0], false⟩] }).setRegN (Reg.IMP_POISON 5) 0x80000000, 5#32, by decide +kernel⟩,
  ⟨((((((State.reset.setRegN (Reg.IMP_RNG_BASE_HI 0) 0x10).setRegN (Reg.IMP_RNG_SIZE 0) 1).setRegN (Reg.IMP_RNG_META_HI 0) 0x10).setRegN (Reg.IMP_RNG_META_LO 0) 0x10000).setRegN (Reg.IMP_RNG_CTL 0) 0x305)).setFld Reg.PWR_MODE 3 0 6 |>.setFlag (Reg.IMP_KSLOT_STAT 2) 0 true |>.setRegN Reg.PWR_MODE 6, 0x20000#32, 0, 2, by decide +kernel⟩,
  ⟨State.reset, 0#32, by decide +kernel⟩⟩

theorem wit_ImpRanges_2 :
    (∃ (s : State),
      (s.fld Reg.IMP_ROLL_STAT 1 0 = 1)) ∧
    (∃ (s : State),
      (s.fld Reg.IMP_ROLL_STAT 1 0 ≠ 1)) ∧
    (∃ (s : State),
      (s.fld Reg.IMP_ROLL_STAT 1 0 = 2)) ∧
    (∃ (s : State),
      (s.fld Reg.IMP_ROLL_STAT 1 0 = 1) ∧ (s.imp.claim = false) ∧ (tileIdle s (rollB s / 512) = true) ∧ (curbOf s 473 = none)) ∧
    (∃ (s : State) (n : Nat),
      (s.fld Reg.IMP_ROLL_STAT 1 0 = 1) ∧ (s.imp.claim = false) ∧ (tileIdle s (rollB s / 512) = true) ∧ (curbOf s 473 = some n) ∧ (1040 ≤ s.fld (Reg.NOC_CURB_LEVEL n) 23 0)) ∧
    (∃ (s : State),
      (s.fld Reg.IMP_ROLL_STAT 1 0 ≠ 1 ∨ s.imp.claim = true ∨ tileIdle s (rollB s / 512) = false)) ∧
    (∃ (s : State),
      (s.imp.claim = true) ∧ (rngMode s (s.fld Reg.IMP_ROLL_STAT 11 8) = 1) ∧ (rollB s + 512 < rngBase s (s.fld Reg.IMP_ROLL_STAT 11 8) + rngSize s (s.fld Reg.IMP_ROLL_STAT 11 8)) ∧ (rngBase s (s.fld Reg.IMP_ROLL_STAT 11 8) + rngSize s (s.fld Reg.IMP_ROLL_STAT 11 8) ≤ 2 ^ 48)) ∧
    (∃ (s : State),
      (s.imp.claim = true) ∧ (rngMode s (s.fld Reg.IMP_ROLL_STAT 11 8) = 1) ∧ (rngBase s (s.fld Reg.IMP_ROLL_STAT 11 8) + rngSize s (s.fld Reg.IMP_ROLL_STAT 11 8) ≤ rollB s + 512)) ∧
    (∃ (s : State),
      (s.imp.claim = true)) ∧
    (∃ (s : State),
      (s.imp.claim = false)) ∧
    (∃ (s : State) (v : BitVec 32),
      (modeIn s testModes = false)) ∧
    (∃ (s : State) (v : BitVec 32),
      (modeIn s testModes = true) ∧ (v.getLsbD 31 = true)) :=
  ⟨⟨State.reset.setRegN Reg.IMP_ROLL_STAT 1, by decide +kernel⟩,
  ⟨State.reset, by decide +kernel⟩,
  ⟨State.reset.setRegN Reg.IMP_ROLL_STAT 2, by decide +kernel⟩,
  ⟨(State.reset.setRegN Reg.IMP_ROLL_STAT 1).setFlag (Reg.NOC_INIT_CFG 473) 6 false, by decide +kernel⟩,
  ⟨((State.reset.setRegN Reg.IMP_ROLL_STAT 1).setRegN (Reg.NOC_INIT_CFG 473) 0x43).setRegN (Reg.NOC_CURB_LEVEL 3) 2000, 3, by decide +kernel⟩,
  ⟨State.reset, by decide +kernel⟩,
  ⟨(((((((State.reset.setRegN (Reg.IMP_RNG_BASE_HI 0) 0x10).setRegN (Reg.IMP_RNG_SIZE 0) 1).setRegN (Reg.IMP_RNG_META_HI 0) 0x10).setRegN (Reg.IMP_RNG_META_LO 0) 0x10000).setRegN (Reg.IMP_RNG_CTL 0) 0x305)).setImp { claim := true }).setRegN Reg.IMP_ROLL_STAT 0x20001 |>.setFlag (Reg.IMP_RNG_CTL 0) 11 true |>.setRegN Reg.IMP_ROLL_B_HI 0x10, by decide +kernel⟩,
  ⟨(((((((State.reset.setRegN (Reg.IMP_RNG_BASE_HI 0) 0x10).setRegN (Reg.IMP_RNG_SIZE 0) 1).setRegN (Reg.IMP_RNG_META_HI 0) 0x10).setRegN (Reg.IMP_RNG_META_LO 0) 0x10000).setRegN (Reg.IMP_RNG_CTL 0) 0x305)).setImp { claim := true }).setRegN Reg.IMP_ROLL_STAT 0x20001 |>.setFlag (Reg.IMP_RNG_CTL 0) 11 true |>.setRegN Reg.IMP_ROLL_B_HI 0x10 |>.setRegN Reg.IMP_ROLL_B_LO 0xE00, by decide +kernel⟩,
  ⟨State.reset.setImp { claim := true }, by decide +kernel⟩,
  ⟨State.reset, by decide +kernel⟩,
  ⟨State.reset, 0x80000003#32, by decide +kernel⟩,
  ⟨State.reset.setFld Reg.PWR_MODE 3 0 6, 0x80000003#32, by decide +kernel⟩⟩

theorem wit_ImpRanges_3 : ∃ (s : State) (init : Fin 512),
      (init.val ≠ 474) ∧ (s.imp.log.q ≠ []) :=
  ⟨State.reset.setImp { log := { q := [7#128] } }, 436, by decide +kernel⟩

theorem wit_LanesAndConverters_1 :
    (∃ (s : State) (lane : Fin 128),
      (s.flag (laneStat lane) 0 = true) ∧ (s.flag (laneCtl lane) 2 = false) ∧ (laneHold s = false)) ∧
    (∃ (s : State) (lane : Fin 128),
      (s.flag (laneStat lane) 0 = false ∨ s.flag (laneCtl lane) 2 = true ∨ laneHold s = true)) ∧
    (∃ (s : State) (lane : Fin 128),
      (s.flag (laneTest lane) 5 = true) ∧ (1 ≤ s.fld (laneTest lane) 4 2) ∧ (s.fld (laneTest lane) 4 2 ≤ (if lane.val < 64 then 4 else 3))) ∧
    (∃ (s : State) (lane : Fin 128),
      (s.flag (laneTest lane) 5 = false)) ∧
    (∃ (s : State) (g : Fin 24),
      (s.flag (if g.val < 8 then Reg.LR_OCT_STAT g else Reg.CV_QUAD_STAT (g.val - 8)) 0 = true)) ∧
    (∃ (s : State) (g : Fin 24),
      (s.flag (if g.val < 8 then Reg.LR_OCT_STAT g else Reg.CV_QUAD_STAT (g.val - 8)) 0 = false)) ∧
    (∃ (s : State) (f : Bool) (ofs : BitVec 18),
      (f ≠ s.flag Reg.JSYSREF_CFG 1)) ∧
    (∃ (s : State) (f : Bool) (ofs : BitVec 18),
      (f = s.flag Reg.JSYSREF_CFG 1) ∧ (s.flag Reg.JSYSREF_CFG 0 = false)) ∧
    (∃ (s : State) (v : BitVec 32),
      (v.getLsbD 0 = true) ∧ (∀ q, q < 16 → jlOn s q = false)) ∧
    (∃ (s : State) (v : BitVec 32) (q : Nat),
      (v.getLsbD 0 = true) ∧ (q < 16) ∧ (v.getLsbD (16 + q) = true) ∧ (jlOn s q = true)) ∧
    (∃ (s : State) (v : BitVec 32),
      (v.getLsbD 0 = false)) ∧
    (∃ (s : State) (q : Fin 16) (b : CvBuf) (r : List CvBuf),
      (bufsOf s q = b :: r) ∧ (b.data = none) ∧ (b.failed = false)) :=
  ⟨⟨State.reset.setFlag (laneStat 70) 0 true, 70, by decide +kernel⟩,
  ⟨State.reset, 70, by decide +kernel⟩,
  ⟨State.reset.setRegN (laneTest 70) 0x24, 70, by decide +kernel⟩,
  ⟨State.reset, 70, by decide +kernel⟩,
  ⟨State.reset.setFlag (Reg.CV_QUAD_STAT 15) 0 true, 23, by decide +kernel⟩,
  ⟨State.reset, 23, by decide +kernel⟩,
  ⟨State.reset, true, 5#18, by decide +kernel⟩,
  ⟨State.reset.setLane { adopt := 2 }, false, 5#18, by decide +kernel⟩,
  ⟨State.reset, 0x80010001#32, by decide +kernel⟩,
  ⟨State.reset.setFlag (Reg.JL_TX_CFG 3) 0 true, 0x80001#32, 3, by decide +kernel⟩,
  ⟨State.reset, 2#32, by decide +kernel⟩,
  ⟨setBufs (State.reset.setRegN (Reg.JL_MEM_LEAD 3) 0) 3 [{ addr := 0x10000000, len := 2, rel := 0 }], 3, { addr := 0x10000000, len := 2, rel := 0 }, [], by decide +kernel⟩⟩

theorem wit_LanesAndConverters_2 :
    (∃ (s : State) (q : Fin 16) (b : CvBuf) (r : List CvBuf) (k : Fin 8),
      (bufsOf s q = b :: r) ∧ (b.data = none) ∧ (b.failed = false) ∧ (k.val ≠ 0)) ∧
    (∃ (s : State) (q : Fin 16) (b : CvBuf) (r : List CvBuf) (d : List Byte),
      (bufsOf s q = b :: r) ∧ (ptReached s.pt ((b.rel + s.fld (Reg.JL_MEM_LEAD q) 15 0) % 2 ^ 32) = true) ∧ (b.data = some d) ∧ (s.gOpen = true) ∧ (laneHold s = false)) ∧
    (∃ (s : State) (q : Fin 16) (b : CvBuf) (r : List CvBuf) (d : List Byte),
      (bufsOf s q = b :: r) ∧ (ptReached s.pt ((b.rel + s.fld (Reg.JL_MEM_LEAD q) 15 0) % 2 ^ 32) = true) ∧ (b.data = some d) ∧ (s.gOpen = false ∨ laneHold s = true)) ∧
    (∃ (s : State) (q : Fin 16) (b : CvBuf) (r : List CvBuf),
      (bufsOf s q = b :: r) ∧ (ptReached s.pt ((b.rel + s.fld (Reg.JL_MEM_LEAD q) 15 0) % 2 ^ 32) = true) ∧ (b.data = none)) ∧
    (∃ (s : State) (q : Fin 16),
      (bufsOf s q = [])) ∧
    (∃ (s : State) (q : Fin 16),
      (s.flag (Reg.JL_RX_CFG q) 0 = true) ∧ (jlLanes (s.regN (Reg.JL_RX_CFG q)) ≠ 0)) ∧
    (∃ (s : State) (q : Fin 16),
      (s.flag (Reg.JL_STAT q) 1 = true)) ∧
    (∃ (s : State) (q : Fin 16),
      (s.flag (Reg.JL_STAT q) 1 = false)) ∧
    (∃ (s : State) (q : Fin 16) (data : List Byte) (crc jump : Bool),
      (s.flag (Reg.JL_RX_CFG q) 0 = true) ∧ (s.flag (Reg.JL_STAT q) 1 = true) ∧ (s.flag (Reg.JL_RX_CFG q) 7 = false)) ∧
    (∃ (s : State) (q : Fin 16) (data : List Byte),
      (s.flag (Reg.JL_RX_CFG q) 0 = true) ∧ (s.flag (Reg.JL_STAT q) 1 = true) ∧ (s.flag (Reg.JL_RX_CFG q) 7 = true)) ∧
    (∃ (s : State) (q : Fin 16) (data : List Byte) (crc jump : Bool),
      (s.flag (Reg.JL_RX_CFG q) 0 = false ∨ s.flag (Reg.JL_STAT q) 1 = false)) :=
  ⟨⟨setBufs (State.reset.setRegN (Reg.JL_MEM_LEAD 3) 0) 3 [{ addr := 0x10000000, len := 2, rel := 0 }], 3, { addr := 0x10000000, len := 2, rel := 0 }, [], 5, by decide +kernel⟩,
  ⟨(setBufs (State.reset.setRegN (Reg.JL_MEM_LEAD 3) 0) 3 [{ addr := 0x10000000, len := 2, rel := 0, data := some [1, 2] }]).setFlag Reg.OUT_STAT 0 true, 3, { addr := 0x10000000, len := 2, rel := 0, data := some [1, 2] }, [], [1, 2], by decide +kernel⟩,
  ⟨(setBufs (State.reset.setRegN (Reg.JL_MEM_LEAD 3) 0) 3 [{ addr := 0x10000000, len := 2, rel := 0, data := some [1, 2] }]).setFlag Reg.OUT_STAT 0 false, 3, { addr := 0x10000000, len := 2, rel := 0, data := some [1, 2] }, [], [1, 2], by decide +kernel⟩,
  ⟨setBufs (State.reset.setRegN (Reg.JL_MEM_LEAD 3) 0) 3 [{ addr := 0x10000000, len := 2, rel := 0 }], 3, { addr := 0x10000000, len := 2, rel := 0 }, [], by decide +kernel⟩,
  ⟨State.reset, 3, by decide +kernel⟩,
  ⟨State.reset.setRegN (Reg.JL_RX_CFG 3) 5, 3, by decide +kernel⟩,
  ⟨State.reset.setFlag (Reg.JL_STAT 3) 1 true, 3, by decide +kernel⟩,
  ⟨State.reset, 3, by decide +kernel⟩,
  ⟨(State.reset.setRegN (Reg.JL_RX_CFG 3) 5).setFlag (Reg.JL_STAT 3) 1 true, 3, [], true, true, by decide +kernel⟩,
  ⟨(State.reset.setRegN (Reg.JL_RX_CFG 3) 0x81).setFlag (Reg.JL_STAT 3) 1 true, 3, [7], by decide +kernel⟩,
  ⟨State.reset, 3, [], true, true, by decide +kernel⟩⟩

theorem wit_EthernetPorts_1 :
    (∃ (s : State) (m : Fin 8) (v : BitVec 32),
      (macOn s m = false) ∧ (v.getLsbD 0 = true) ∧ (9 < bitsOf v.toNat 4 1)) ∧
    (∃ (s : State) (m : Fin 8) (v : BitVec 32),
      (macOn s m = false) ∧ (macOn s (if m.val < 4 then m.val + 4 else m.val - 4) = false) ∧ (v.getLsbD 0 = true) ∧ (bitsOf v.toNat 4 1 ≤ 9) ∧ (modeLanes (bitsOf v.toNat 4 1) ≠ 8)) ∧
    (∃ (s : State) (m : Fin 8) (v : BitVec 32),
      (macOn s m = true) ∧ (macUp s m = false) ∧ (v.getLsbD 0 = false)) ∧
    (∃ (s : State) (m : Fin 8),
      (macOn s m = true) ∧ (macUp s m = false) ∧ (refEn s 3 = false)) ∧
    (∃ (s : State) (m : Fin 8),
      (macUp s m = true)) ∧
    (∃ (s : State) (m : Fin 8) (up : Bool),
      (macUp s m = up ∨ (up = true ∧ macOn s m = false))) ∧
    (∃ (s : State) (m : Fin 8) (v : BitVec 32),
      ((txQueue s m (v.toNat / 2 ^ 16 % 8)).length < 64) ∧ (macUp s m = true) ∧ (laneHold s = false) ∧ (v.toNat % 2 ^ 14 ≠ 0) ∧ (v.toNat % 2 ^ 14 ≤ 9212)) ∧
    (∃ (s : State) (m : Fin 8) (v : BitVec 32),
      (64 ≤ (txQueue s m (v.toNat / 2 ^ 16 % 8)).length)) ∧
    (∃ (s : State) (m : Fin 8) (v : BitVec 32),
      ((txQueue s m (v.toNat / 2 ^ 16 % 8)).length < 64) ∧ (macUp s m = false)) ∧
    (∃ (s : State) (m : Fin 8) (q a n : Nat) (r : List (Nat × Nat)),
      (macOn s m = true) ∧ ((macOf s m).cur = none) ∧ (laneHold s = false) ∧ (txQueue s m q = (a, n) :: r) ∧ (∀ k, k < 8 → q < k → txQueue s m k = []) ∧ (q < 8)) ∧
    (∃ (s : State) (m : Fin 8) (q a n : Nat) (r : List (Nat × Nat)) (k : Fin 8),
      (macOn s m = true) ∧ ((macOf s m).cur = none) ∧ (laneHold s = false) ∧ (txQueue s m q = (a, n) :: r) ∧ (∀ k, k < 8 → q < k → txQueue s m k = []) ∧ (q < 8) ∧ (k.val ≠ 0)) ∧
    (∃ (s : State) (m : Fin 8) (q : Nat) (l : List Byte) (ofs : BitVec 18),
      ((macOf s m).cur = some (q, l)) ∧ (ptpEvent l = none ∨ s.fld (Reg.ETH_TXQ_CFG m q) 1 0 = 0)) :=
  ⟨⟨State.reset, 1, 0x15#32, by decide +kernel⟩,
  ⟨State.reset, 1, 0x41#32, by decide +kernel⟩,
  ⟨(State.reset.setRegN (Reg.ETH_CFG 1) 1), 1, 0x40#32, by decide +kernel⟩,
  ⟨(State.reset.setRegN (Reg.ETH_CFG 1) 1), 1, by decide +kernel⟩,
  ⟨((State.reset.setRegN (Reg.ETH_CFG 1) 1).setRegN (Reg.ETH_STAT 1) 7), 1, by decide +kernel⟩,
  ⟨State.reset, 1, true, by decide +kernel⟩,
  ⟨((State.reset.setRegN (Reg.ETH_CFG 1) 1).setRegN (Reg.ETH_STAT 1) 7), 1, 0x70040#32, by decide +kernel⟩,
  ⟨setTxQueue State.reset 1 7 (List.replicate 64 (0, 60)), 1, 0x70040#32, by decide +kernel⟩,
  ⟨State.reset, 1, 0x70040#32, by decide +kernel⟩,
  ⟨setTxQueue ((State.reset.setRegN (Reg.ETH_CFG 1) 1).setRegN (Reg.ETH_STAT 1) 7) 1 3 [(0x10000000, 4)], 1, 3, 0x10000000, 4, [], by decide +kernel⟩,
  ⟨setTxQueue ((State.reset.setRegN (Reg.ETH_CFG 1) 1).setRegN (Reg.ETH_STAT 1) 7) 1 3 [(0x10000000, 4)], 1, 3, 0x10000000, 4, [], 5, by decide +kernel⟩,
  ⟨setMac State.reset 1 { cur := some (3, List.replicate 60 0) }, 1, 3, List.replicate 60 0, 5#18, by decide +kernel⟩⟩

theorem wit_EthernetPorts_2 :
    (∃ (s : State) (m : Fin 8) (q : Nat) (l : List Byte) (h k : Nat) (ofs : BitVec 18),
      ((macOf s m).cur = some (q, l)) ∧ (ptpEvent l = some (h, k)) ∧ (s.fld (Reg.ETH_TXQ_CFG m q) 1 0 = 1) ∧ ((macOf s m).txts.length < 64)) ∧
    (∃ (s : State) (m : Fin 8) (ofs : BitVec 18) (k : Fin 8),
      ((macOf s m).cur = none)) ∧
    (∃ (s : State) (m : Fin 8) (init : Fin 512) (e : BitVec 128) (r : List (BitVec 128)),
      ((macOf s m).txts = e :: r) ∧ (init.val ≠ 474)) ∧
    (∃ (s : State) (m : Fin 8) (init : Fin 512) (e : BitVec 128) (r : List (BitVec 128)),
      ((macOf s m).txts = e :: r) ∧ (init.val = 474)) ∧
    (∃ (s : State) (m : Fin 8) (f : List Byte) (fcs : Bool) (corr unc : BitVec 16) (ofs : BitVec 18),
      (macOn s m = false ∨ macUp s m = false)) ∧
    (∃ (s : State) (m : Fin 8) (f : List Byte) (ofs : BitVec 18),
      (macOn s m = true) ∧ (macUp s m = true)) ∧
    (∃ (s : State) (m : Fin 8) (f : List Byte) (ofs : BitVec 18),
      (macOn s m = true) ∧ (macUp s m = true) ∧ (f.length + 4 < 64 ∨ 9216 < f.length + 4)) ∧
    (∃ (s : State) (m : Fin 8) (f : List Byte) (ofs : BitVec 18),
      (macOn s m = true) ∧ (macUp s m = true) ∧ (60 ≤ f.length) ∧ (f.length + 4 ≤ 9216) ∧ ((etherOf f).2 ≠ 0x8808) ∧ (ptpEvent f = none) ∧ (dstOk s m f = true) ∧ (s.flag (Reg.ETH_RXQ_CFG m (rxQueue s m f)) 8 = false ∨ laneHold s = true ∨ (s.fld (Reg.ETH_RXQ_PROD m (rxQueue s m f)) 15 0 + 2 ^ 16 - s.fld (Reg.ETH_RXQ_CONS m (rxQueue s m f)) 15 0) % 2 ^ 16 = 2 ^ s.fld (Reg.ETH_RXQ_CFG m (rxQueue s m f)) 3 0)) ∧
    (∃ (s : State) (m : Fin 8) (f : List Byte) (ofs : BitVec 18),
      (macOn s m = true) ∧ (macUp s m = true) ∧ (60 ≤ f.length) ∧ (f.length + 4 ≤ 9216) ∧ ((etherOf f).2 ≠ 0x8808) ∧ (ptpEvent f = none) ∧ (dstOk s m f = true) ∧ (s.flag (Reg.ETH_RXQ_CFG m (rxQueue s m f)) 8 = true) ∧ (laneHold s = false) ∧ ((s.fld (Reg.ETH_RXQ_PROD m (rxQueue s m f)) 15 0 + 2 ^ 16 - s.fld (Reg.ETH_RXQ_CONS m (rxQueue s m f)) 15 0) % 2 ^ 16 ≠ 2 ^ s.fld (Reg.ETH_RXQ_CFG m (rxQueue s m f)) 3 0) ∧ (f.length + 32 ≤ slotSize (s.fld (Reg.ETH_RXQ_CFG m (rxQueue s m f)) 5 4))) ∧
    (∃ (s : State) (up : Bool) (sp : Fin 4) (an fault : Bool),
      (s.flag Reg.MGT_CFG 0 = true)) ∧
    (∃ (s : State),
      (s.flag Reg.MGT_CFG 0 = true) ∧ (s.flag Reg.MGT_STAT 0 = true) ∧ (s.fld Reg.MGT_TX_CONS 15 0 ≠ s.fld Reg.MGT_TX_PROD 15 0) ∧ (60 ≤ s.memN (mgtBase s Reg.MGT_TX_BASE + 2048 * (s.fld Reg.MGT_TX_CONS 15 0 % 16)) 2) ∧ (s.memN (mgtBase s Reg.MGT_TX_BASE + 2048 * (s.fld Reg.MGT_TX_CONS 15 0 % 16)) 2 ≤ 1518)) ∧
    (∃ (s : State),
      (s.flag Reg.MGT_CFG 0 = true) ∧ (s.flag Reg.MGT_STAT 0 = true) ∧ (s.fld Reg.MGT_TX_CONS 15 0 ≠ s.fld Reg.MGT_TX_PROD 15 0) ∧ (s.memN (mgtBase s Reg.MGT_TX_BASE + 2048 * (s.fld Reg.MGT_TX_CONS 15 0 % 16)) 2 < 60 ∨ 1518 < s.memN (mgtBase s Reg.MGT_TX_BASE + 2048 * (s.fld Reg.MGT_TX_CONS 15 0 % 16)) 2)) :=
  ⟨⟨(setMac State.reset 1 { cur := some (3, (List.replicate 12 0 ++ [0x88, 0xF7, 0x00, 0x02] ++ List.replicate 44 0)) }).setRegN (Reg.ETH_TXQ_CFG 1 3) 1, 1, 3, (List.replicate 12 0 ++ [0x88, 0xF7, 0x00, 0x02] ++ List.replicate 44 0), 14, 0, 5#18, by decide +kernel⟩,
  ⟨State.reset, 1, 5#18, 0, by decide +kernel⟩,
  ⟨setMac State.reset 1 { txts := [7] }, 1, 436, 7, [], by decide +kernel⟩,
  ⟨setMac State.reset 1 { txts := [7] }, 1, 474, 7, [], by decide +kernel⟩,
  ⟨State.reset, 1, [], true, 0#16, 0#16, 5#18, by decide +kernel⟩,
  ⟨((State.reset.setRegN (Reg.ETH_CFG 1) 1).setRegN (Reg.ETH_STAT 1) 7), 1, [], 5#18, by decide +kernel⟩,
  ⟨((State.reset.setRegN (Reg.ETH_CFG 1) 1).setRegN (Reg.ETH_STAT 1) 7), 1, [], 5#18, by decide +kernel⟩,
  ⟨((State.reset.setRegN (Reg.ETH_CFG 1) 1).setRegN (Reg.ETH_STAT 1) 7).setFlag (Reg.ETH_CFG 1) 6 true, 1, List.replicate 60 0, 5#18, by decide +kernel⟩,
  ⟨((State.reset.setRegN (Reg.ETH_CFG 1) 1).setRegN (Reg.ETH_STAT 1) 7).setFlag (Reg.ETH_CFG 1) 6 true |>.setRegN (Reg.ETH_RXQ_CFG 1 0) 0x132 |>.setRegN (Reg.ETH_RXQ_BASE_LO 1 0) 0x10000000, 1, List.replicate 60 0, 5#18, by decide +kernel⟩,
  ⟨(State.reset.setFlag Reg.MGT_CFG 0 true), true, 2, true, false, by decide +kernel⟩,
  ⟨(((State.reset.setFlag Reg.MGT_CFG 0 true).setRegN Reg.MGT_STAT 1).setRegN Reg.MGT_TX_PROD 1).withMem [(sramBase, 60)], by decide +kernel⟩,
  ⟨((State.reset.setFlag Reg.MGT_CFG 0 true).setRegN Reg.MGT_STAT 1).setRegN Reg.MGT_TX_PROD 1, by decide +kernel⟩⟩

theorem wit_EthernetPorts_3 :
    (∃ (s : State),
      (s.flag Reg.MGT_CFG 0 = false ∨ s.flag Reg.MGT_STAT 0 = false ∨ s.fld Reg.MGT_TX_CONS 15 0 = s.fld Reg.MGT_TX_PROD 15 0)) ∧
    (∃ (s : State) (f : List Byte),
      (s.flag Reg.MGT_CFG 0 = true) ∧ (s.flag Reg.MGT_STAT 0 = true)) ∧
    (∃ (s : State) (f : List Byte),
      (s.flag Reg.MGT_CFG 0 = true) ∧ (s.flag Reg.MGT_STAT 0 = true) ∧ (60 ≤ f.length) ∧ (f.length ≤ 1518) ∧ (fieldLe f 0 6 = 2 ^ 48 - 1) ∧ ((s.fld Reg.MGT_RX_PROD 15 0 + 2 ^ 16 - s.fld Reg.MGT_RX_CONS 15 0) % 2 ^ 16 ≠ 16)) :=
  ⟨⟨State.reset, by decide +kernel⟩,
  ⟨((State.reset.setFlag Reg.MGT_CFG 0 true).setRegN Reg.MGT_STAT 1), [], by decide +kernel⟩,
  ⟨((State.reset.setFlag Reg.MGT_CFG 0 true).setRegN Reg.MGT_STAT 1), List.replicate 60 255, by decide +kernel⟩⟩

theorem wit_TetherLink :
    (∃ (s : State),
      (s.flag Reg.TETH_CFG 0 = false)) ∧
    (∃ (s : State) (l : Nat),
      (s.flag Reg.TETH_CFG 0 = true) ∧ (nextLane s = some l) ∧ (s.rly.snap = []) ∧ (s.lane.teth.outbox = [])) ∧
    (∃ (s : State) (l : Fin 4) (p : Fin 32) (f : BitVec 1024) (st : Bool),
      (s.flag Reg.TETH_CFG 0 = false)) ∧
    (∃ (s : State) (l : Fin 4) (p : Fin 32) (f : BitVec 1024),
      (s.flag Reg.TETH_CFG 0 = true) ∧ (tethLocked s l = false) ∧ (p.val = (tethLane s l).slips % 32) ∧ (f.toNat % 2 ^ 32 = tethMarker) ∧ ((tethLane s l).run = 3)) ∧
    (∃ (s : State) (l : Fin 4) (p : Fin 32) (f : BitVec 1024),
      (s.flag Reg.TETH_CFG 0 = true) ∧ (tethLocked s l = false) ∧ (p.val ≠ (tethLane s l).slips % 32 ∨ f.toNat % 2 ^ 32 ≠ tethMarker)) ∧
    (∃ (s : State) (l : Fin 4) (p : Fin 32) (f : BitVec 1024),
      (s.flag Reg.TETH_CFG 0 = true) ∧ (tethLocked s l = true) ∧ (f.toNat % 2 ^ 32 ≠ tethMarker) ∧ ((tethLane s l).miss = 3)) ∧
    (∃ (s : State) (v : BitVec 32) (l : Fin 4),
      (s.flag Reg.TETH_CFG 0 = true) ∧ (tethLocked s l = false) ∧ (v.getLsbD l.val = true) ∧ (∀ k, k < 4 → k ≠ l.val → v.getLsbD k = false)) ∧
    (∃ (s : State) (v : BitVec 32),
      (∀ k, k < 4 → v.getLsbD k = true → tethLocked s k = true)) ∧
    (∃ (s : State) (e : Nat),
      (s.lane.teth.expect = some e) ∧ (s.lane.teth.held ≠ []) ∧ (∀ f ∈ s.lane.teth.held, f.1 ≠ (e + 1) % 4096)) ∧
    (∃ (s : State) (l : Fin 4),
      (s.flag Reg.TETH_CFG 0 = true)) ∧
    (∃ (s : State) (l : Fin 4),
      (s.flag Reg.TETH_CFG 0 = false)) :=
  ⟨⟨State.reset, by decide +kernel⟩,
  ⟨(State.reset.setRegN Reg.TETH_CFG 0x21), 0, by decide +kernel⟩,
  ⟨State.reset, 3, 5, 0#1024, true, by decide +kernel⟩,
  ⟨setTethLane (State.reset.setRegN Reg.TETH_CFG 0x21) 3 { run := 3 }, 3, 0, 0xB4E21D7A#1024, by decide +kernel⟩,
  ⟨(State.reset.setRegN Reg.TETH_CFG 0x21), 3, 1, 0#1024, by decide +kernel⟩,
  ⟨(setTethLane (State.reset.setRegN Reg.TETH_CFG 0x21) 3 { miss := 3 }).setFlag Reg.TETH_STAT 7 true, 3, 0, 0#1024, by decide +kernel⟩,
  ⟨(State.reset.setRegN Reg.TETH_CFG 0x21), 8#32, 3, by decide +kernel⟩,
  ⟨State.reset, 0x10#32, by decide +kernel⟩,
  ⟨setTeth State.reset { expect := some 4095, held := [(3, 0, [], 0)] }, 4095, by decide +kernel⟩,
  ⟨(State.reset.setRegN Reg.TETH_CFG 0x21).setFlag Reg.TETH_STAT 7 true, 3, by decide +kernel⟩,
  ⟨State.reset, 3, by decide +kernel⟩⟩

theorem wit_RelayJournal_1 :
    (∃ (s : State) (f : Nat × Nat × List Byte × Nat) (r : List (Option (Nat × Nat × List Byte × Nat))),
      (s.lane.teth.inbox = some f :: r) ∧ (s.role = 1) ∧ (s.rly.seen = none) ∧ (f.1 ≠ 15)) ∧
    (∃ (s : State) (f : Option (Nat × Nat × List Byte × Nat)) (r : List (Option (Nat × Nat × List Byte × Nat))),
      (s.lane.teth.inbox = f :: r) ∧ (s.role = 0)) ∧
    (∃ (s : State) (q a pt tl : Nat) (d : List Byte) (r : List (Nat × List Byte × Nat)),
      (s.rly.acc = (5, relBody q pt 0 d, tl) :: r) ∧ (s.shadowing = true) ∧ (s.sync ≠ 0) ∧ (s.rly.applied = some a) ∧ (q = (a + 1) % 2 ^ 32) ∧ (a < 2 ^ 32) ∧ (pt < 2 ^ 32) ∧ (d.length ≤ 80)) ∧
    (∃ (s : State) (q a pt tl : Nat) (d : List Byte) (r : List (Nat × List Byte × Nat)),
      (s.rly.acc = (5, relBody q pt 0 d, tl) :: r) ∧ (s.shadowing = true) ∧ (s.sync ≠ 0) ∧ (s.rly.applied = some a) ∧ (q < 2 ^ 32) ∧ (q ≠ (a + 1) % 2 ^ 32) ∧ (ptReached a q = false)) ∧
    (∃ (s : State) (q a pt tl : Nat) (d : List Byte) (r : List (Nat × List Byte × Nat)),
      (s.rly.acc = (5, relBody q pt 0 d, tl) :: r) ∧ (s.shadowing = true) ∧ (s.sync ≠ 0) ∧ (s.rly.applied = some a) ∧ (q < 2 ^ 32) ∧ (ptReached a q = true)) ∧
    (∃ (s : State) (q a pt tl : Nat) (d : List Byte) (r : List (Nat × List Byte × Nat)) (v : BitVec 32),
      (s.rly.acc = (7, relBody q pt 0 d, tl) :: r) ∧ (s.shadowing = true) ∧ (s.sync ≠ 0) ∧ (s.rly.applied = some a) ∧ (q = (a + 1) % 2 ^ 32) ∧ (a < 2 ^ 32) ∧ (pt < 2 ^ 32) ∧ (d.length ≤ 80) ∧ (d = leBytes 4 0x0C ++ leBytes 4 v.toNat)) ∧
    (∃ (s : State) (q a pt tl : Nat) (d : List Byte) (r : List (Nat × List Byte × Nat)),
      (s.rly.acc = (7, relBody q pt 0 d, tl) :: r) ∧ (s.shadowing = true) ∧ (s.sync ≠ 0) ∧ (s.rly.applied = some a) ∧ (q = (a + 1) % 2 ^ 32) ∧ (a < 2 ^ 32) ∧ (pt < 2 ^ 32) ∧ (d.length ≤ 80) ∧ (d = leBytes 4 0x10 ++ leBytes 4 7)) ∧
    (∃ (s : State) (q a pt tl : Nat) (d : List Byte) (r : List (Nat × List Byte × Nat)) (a0 n x : Nat) (w : List Byte),
      (s.rly.acc = (8, relBody q pt 0 d, tl) :: r) ∧ (s.shadowing = true) ∧ (s.sync ≠ 0) ∧ (s.rly.applied = some a) ∧ (q = (a + 1) % 2 ^ 32) ∧ (a < 2 ^ 32) ∧ (pt < 2 ^ 32) ∧ (d.length ≤ 80) ∧ (d = (leBytes 6 a0 ++ [BitVec.ofNat 8 (n - 1)] ++ List.replicate 9 0 ++ w)) ∧ (inScratch a0 = true) ∧ (1 ≤ n) ∧ (n ≤ 64) ∧ (w.length = n) ∧ (inMir s a0 = true) ∧ (inMir s (a0 + n - 1) = true) ∧ (s.noc.flip = none)) ∧
    (∃ (s : State) (q a pt tl : Nat) (d : List Byte) (r : List (Nat × List Byte × Nat)),
      (s.rly.acc = (8, relBody q pt 0 d, tl) :: r) ∧ (s.shadowing = true) ∧ (s.sync ≠ 0) ∧ (s.rly.applied = some a) ∧ (q = (a + 1) % 2 ^ 32) ∧ (a < 2 ^ 32) ∧ (pt < 2 ^ 32) ∧ (d.length ≤ 80) ∧ (inMir s (fieldLe d 0 6) = false)) ∧
    (∃ (s : State) (q a pt tl : Nat) (dp dl : List Byte) (r : List (Nat × List Byte × Nat)) (i : Fin 512),
      (s.rly.acc = (9, relBody q pt 102 dl, tl) :: r) ∧ (s.shadowing = true) ∧ (s.sync ≠ 0) ∧ (s.rly.applied = some a) ∧ (q = (a + 1) % 2 ^ 32) ∧ (a < 2 ^ 32) ∧ (pt < 2 ^ 32) ∧ (dl.length = 80) ∧ (s.rly.part = some (q, 6, dp)) ∧ (dp.length = 480) ∧ (rngOf s (fieldLe dp 0 6) = some 0) ∧ (rngMode s 0 = 1) ∧ (inMir s (fieldLe dp 0 6) = true) ∧ (fieldLe dp 0 6 % 512 = 0) ∧ (inSdram (fieldLe dp 0 6) = true) ∧ (∀ h, h < 4 → (chanSt s h).flip = none)) ∧
    (∃ (s : State) (q a pt tl : Nat) (d : List Byte) (r : List (Nat × List Byte × Nat)),
      (s.rly.acc = (9, relBody q pt 0 d, tl) :: r) ∧ (s.shadowing = true) ∧ (s.sync ≠ 0) ∧ (s.rly.applied = some a) ∧ (q = (a + 1) % 2 ^ 32) ∧ (a < 2 ^ 32) ∧ (pt < 2 ^ 32) ∧ (d.length ≤ 80) ∧ (rngOf s (fieldLe d 0 6) = none)) ∧
    (∃ (s : State) (q a pt tl : Nat) (d : List Byte) (r : List (Nat × List Byte × Nat)) (u : State),
      (s.rly.acc = (10, relBody q pt 0 d, tl) :: r) ∧ (s.shadowing = true) ∧ (s.sync ≠ 0) ∧ (s.rly.applied = some a) ∧ (q = (a + 1) % 2 ^ 32) ∧ (a < 2 ^ 32) ∧ (pt < 2 ^ 32) ∧ (d.length ≤ 80) ∧ (applyObj (s.setRly { s.rly with acc := r, part := none }) (padTo 80 d) = some u) ∧ (u.rly.acc = r)) :=
  ⟨⟨setTeth (State.reset.setRegN Reg.RELAY_STAT 0x9) { inbox := [some (1, 0, [], 0)] }, (1, 0, [], 0), [], by decide +kernel⟩,
  ⟨setTeth State.reset { inbox := [none] }, none, [], by decide +kernel⟩,
  ⟨((State.reset.setRegN Reg.RELAY_STAT 0xA)).setRly { acc := [(5, relBody 5 100 0 [], 0)], applied := some 4 }, 5, 4, 100, 0, [], [], by decide +kernel⟩,
  ⟨((State.reset.setRegN Reg.RELAY_STAT 0xA)).setRly { acc := [(5, relBody 7 100 0 [], 0)], applied := some 4 }, 7, 4, 100, 0, [], [], by decide +kernel⟩,
  ⟨((State.reset.setRegN Reg.RELAY_STAT 0xA)).setRly { acc := [(5, relBody 4 100 0 [], 0)], applied := some 4 }, 4, 4, 100, 0, [], [], by decide +kernel⟩,
  ⟨((State.reset.setRegN Reg.RELAY_STAT 0xA)).setRly { acc := [(7, relBody 5 100 0 (leBytes 4 0x0C ++ leBytes 4 99), 0)], applied := some 4 }, 5, 4, 100, 0, (leBytes 4 0x0C ++ leBytes 4 99), [], 99#32, by decide +kernel⟩,
  ⟨((State.reset.setRegN Reg.RELAY_STAT 0xA)).setRly { acc := [(7, relBody 5 100 0 (leBytes 4 0x10 ++ leBytes 4 7), 0)], applied := some 4 }, 5, 4, 100, 0, (leBytes 4 0x10 ++ leBytes 4 7), [], by decide +kernel⟩,
  ⟨((((((State.reset.setRegN Reg.RELAY_STAT 0xA).setRegN (Reg.RELAY_MIR_BASE_LO 0) 0x10000000).setRegN (Reg.RELAY_MIR_SIZE 0) 1).setRegN (Reg.RELAY_MIR_CTL 0) 3))).setRly { acc := [(8, relBody 5 100 0 (leBytes 6 0x10000040 ++ [BitVec.ofNat 8 (2 - 1)] ++ List.replicate 9 0 ++ [7, 8]), 0)], applied := some 4 }, 5, 4, 100, 0, (leBytes 6 0x10000040 ++ [BitVec.ofNat 8 (2 - 1)] ++ List.replicate 9 0 ++ [7, 8]), [], 0x10000040, 2, 0x10000041, [7, 8], by decide +kernel⟩,
  ⟨((State.reset.setRegN Reg.RELAY_STAT 0xA)).setRly { acc := [(8, relBody 5 100 0 [1], 0)], applied := some 4 }, 5, 4, 100, 0, [1], [], by decide +kernel⟩,
  ⟨(((((((((((State.reset.setRegN (Reg.IMP_RNG_BASE_HI 0) 0x10).setRegN (Reg.IMP_RNG_SIZE 0) 1).setRegN (Reg.IMP_RNG_META_HI 0) 0x10).setRegN (Reg.IMP_RNG_META_LO 0) 0x10000).setRegN (Reg.IMP_RNG_CTL 0) 0x305)).setRegN Reg.RELAY_STAT 0xA).setRegN (Reg.RELAY_MIR_BASE_HI 0) 0x10).setRegN (Reg.RELAY_MIR_SIZE 0) 1).setRegN (Reg.RELAY_MIR_CTL 0) 3)).setRly { acc := [(9, relBody 5 100 102 (List.replicate 80 3), 0)], applied := some 4, part := some (5, 6, (leBytes 6 0x1000000000 ++ List.replicate 474 9)) }, 5, 4, 100, 0, (leBytes 6 0x1000000000 ++ List.replicate 474 9), List.replicate 80 3, [], 511, by decide +kernel⟩,
  ⟨((State.reset.setRegN Reg.RELAY_STAT 0xA)).setRly { acc := [(9, relBody 5 100 0 [1], 0)], applied := some 4 }, 5, 4, 100, 0, [1], [], by decide +kernel⟩,
  ⟨((State.reset.setRegN Reg.RELAY_STAT 0xA)).setRly { acc := [(10, relBody 5 100 0 (leBytes 2 0x3000 ++ [0, 1, 0, 0, 0, 0] ++ leBytes 2 99), 0)], applied := some 4 }, 5, 4, 100, 0, (leBytes 2 0x3000 ++ [0, 1, 0, 0, 0, 0] ++ leBytes 2 99), [], ((applyObj (((State.reset.setRegN Reg.RELAY_STAT 0xA)).setRly { acc := [], applied := some 4 }) (padTo 80 (leBytes 2 0x3000 ++ [0, 1, 0, 0, 0, 0] ++ leBytes 2 99))).getD State.reset), by decide +kernel⟩⟩

theorem wit_RelayJournal_2 :
    (∃ (s : State) (q a pt tl : Nat) (d : List Byte) (r : List (Nat × List Byte × Nat)),
      (s.rly.acc = (10, relBody q pt 0 d, tl) :: r) ∧ (s.shadowing = true) ∧ (s.sync ≠ 0) ∧ (s.rly.applied = some a) ∧ (q = (a + 1) % 2 ^ 32) ∧ (a < 2 ^ 32) ∧ (pt < 2 ^ 32) ∧ (d.length ≤ 80) ∧ (applyObj (s.setRly { s.rly with acc := r, part := none }) (padTo 80 d) = none)) ∧
    (∃ (s : State) (q a pt tl : Nat) (d : List Byte) (r : List (Nat × List Byte × Nat)),
      (s.rly.acc = (6, relBody q pt 0 d, tl) :: r) ∧ (s.shadowing = true) ∧ (s.sync ≠ 0) ∧ (s.rly.applied = some a) ∧ (q = (a + 1) % 2 ^ 32) ∧ (a < 2 ^ 32) ∧ (pt < 2 ^ 32) ∧ (d.length ≤ 80) ∧ (applyAdmit (s.setRly { s.rly with acc := r, part := none }) (padTo 80 d) = none)) ∧
    (∃ (s : State) (q a pt tl : Nat) (d : List Byte) (r : List (Nat × List Byte × Nat)) (u : State),
      (s.rly.acc = (6, relBody q pt 0 d, tl) :: r) ∧ (s.shadowing = true) ∧ (s.sync ≠ 0) ∧ (s.rly.applied = some a) ∧ (q = (a + 1) % 2 ^ 32) ∧ (a < 2 ^ 32) ∧ (pt < 2 ^ 32) ∧ (d.length ≤ 80) ∧ (applyAdmit (s.setRly { s.rly with acc := r, part := none }) (padTo 80 d) = some u) ∧ (u.rly.acc = r)) ∧
    (∃ (s : State) (q a pt tl : Nat) (d : List Byte) (r : List (Nat × List Byte × Nat)) (k ix : Nat) (w : List Byte),
      (s.rly.acc = (11, relBody q pt 0 d, tl) :: r) ∧ (s.shadowing = true) ∧ (s.sync ≠ 0) ∧ (s.rly.applied = some a) ∧ (q = (a + 1) % 2 ^ 32) ∧ (a < 2 ^ 32) ∧ (pt < 2 ^ 32) ∧ (d.length ≤ 80) ∧ (d = ([BitVec.ofNat 8 k, 0] ++ leBytes 2 ix ++ List.replicate 12 0 ++ w)) ∧ (k < 16) ∧ (ix < 2 ^ 16) ∧ (w.length = 64) ∧ (s.flag (Reg.RELAY_MP_CFG k) 31 = true)) ∧
    (∃ (s : State) (q a pt tl : Nat) (d : List Byte) (r : List (Nat × List Byte × Nat)),
      (s.rly.acc = (12, relBody q pt 0 d, tl) :: r) ∧ (s.shadowing = true) ∧ (s.sync ≠ 0) ∧ (s.rly.applied = some a) ∧ (q = (a + 1) % 2 ^ 32) ∧ (a < 2 ^ 32) ∧ (pt < 2 ^ 32) ∧ (d.length ≤ 80)) ∧
    (∃ (s : State) (q a pt tl : Nat) (d : List Byte) (r : List (Nat × List Byte × Nat)),
      (s.rly.acc = (14, relBody q pt 0 d, tl) :: r) ∧ (s.shadowing = true) ∧ (s.rly.applied = some a) ∧ (q = (a + 1) % 2 ^ 32) ∧ (a < 2 ^ 32) ∧ (pt < 2 ^ 32) ∧ (d.length ≤ 80) ∧ (s.sync = 1) ∧ (d = [0])) ∧
    (∃ (s : State) (q pt tl : Nat) (r : List (Nat × List Byte × Nat)),
      (s.rly.acc = (14, relBody q pt 0 [1], tl) :: r) ∧ (s.shadowing = true) ∧ (s.sync = 1)) ∧
    (∃ (s : State),
      (jOn s = true) ∧ (jBlocked s 1 = false)) ∧
    (∃ (s : State),
      (jOn s = false)) ∧
    (∃ (s : State),
      (jBlocked s 1 = true)) ∧
    (∃ (s : State),
      (s.shadowing = true) ∧ (s.sync ≠ 0)) ∧
    (∃ (s : State) (j : BitVec 32) (tl q pt : Nat) (e : JEntry) (r : List (Nat × List Byte × Nat)),
      (s.rly.acc = (4, relBody q pt 0 (leBytes 4 j.toNat ++ [0, 0]), tl) :: r) ∧ (jOn s = true) ∧ (s.rly.buf = [e]) ∧ (ptReached j.toNat e.jseq = true) ∧ (s.rly.snapEnd = none) ∧ (s.rly.want = [])) :=
  ⟨⟨((State.reset.setRegN Reg.RELAY_STAT 0xA)).setRly { acc := [(10, relBody 5 100 0 [], 0)], applied := some 4 }, 5, 4, 100, 0, [], [], by decide +kernel⟩,
  ⟨((State.reset.setRegN Reg.RELAY_STAT 0xA)).setRly { acc := [(6, relBody 5 100 0 [255, 255, 255, 255], 0)], applied := some 4 }, 5, 4, 100, 0, [255, 255, 255, 255], [], by decide +kernel⟩,
  ⟨((((State.reset.setRegN Reg.RELAY_STAT 0xA).setFlag Reg.PAC_CTL 0 true).setRegN (Reg.PAC_GRP_LIM 0) 0xFFFFF)).setRly { acc := [(6, relBody 5 100 0 (leBytes 4 1 ++ [0, 1, 0, 0, 0, 1] ++ List.replicate 58 0), 0)], applied := some 4 }, 5, 4, 100, 0, (leBytes 4 1 ++ [0, 1, 0, 0, 0, 1] ++ List.replicate 58 0), [], ((applyAdmit (((((State.reset.setRegN Reg.RELAY_STAT 0xA).setFlag Reg.PAC_CTL 0 true).setRegN (Reg.PAC_GRP_LIM 0) 0xFFFFF)).setRly { acc := [], applied := some 4 }) (padTo 80 (leBytes 4 1 ++ [0, 1, 0, 0, 0, 1] ++ List.replicate 58 0))).getD State.reset), by decide +kernel⟩,
  ⟨((State.reset.setRegN Reg.RELAY_STAT 0xA).setFlag (Reg.RELAY_MP_CFG 3) 31 true).setRly { acc := [(11, relBody 5 100 0 ([BitVec.ofNat 8 3, 0] ++ leBytes 2 9 ++ List.replicate 12 0 ++ List.replicate 64 5), 0)], applied := some 4 }, 5, 4, 100, 0, ([BitVec.ofNat 8 3, 0] ++ leBytes 2 9 ++ List.replicate 12 0 ++ List.replicate 64 5), [], 3, 9, List.replicate 64 5, by decide +kernel⟩,
  ⟨((State.reset.setRegN Reg.RELAY_STAT 0xA)).setRly { acc := [(12, relBody 5 100 0 [], 0)], applied := some 4 }, 5, 4, 100, 0, [], [], by decide +kernel⟩,
  ⟨((State.reset.setRegN Reg.RELAY_STAT 6)).setRly { acc := [(14, relBody 5 100 0 [0], 0)], applied := some 4 }, 5, 4, 100, 0, [0], [], by decide +kernel⟩,
  ⟨((State.reset.setRegN Reg.RELAY_STAT 6)).setRly { acc := [(14, relBody 5 100 0 [1], 0)], applied := some 4 }, 5, 100, 0, [], by decide +kernel⟩,
  ⟨(State.reset.setRegN Reg.RELAY_STAT 0x9), by decide +kernel⟩,
  ⟨State.reset, by decide +kernel⟩,
  ⟨((State.reset.setRegN Reg.RELAY_STAT 0x9)).setRly { stall := true }, by decide +kernel⟩,
  ⟨(State.reset.setRegN Reg.RELAY_STAT 0xA), by decide +kernel⟩,
  ⟨((State.reset.setRegN Reg.RELAY_STAT 0x9)).setRly { buf := [{ jseq := 5, pt := 100, kind := 5, data := [] }], acc := [(4, relBody 0 0 0 (leBytes 4 5 ++ [0, 0]), 0)], stall := true }, 5#32, 0, 0, 0, { jseq := 5, pt := 100, kind := 5, data := [] }, [], by decide +kernel⟩⟩

theorem wit_RelayJournal_3 :
    (∃ (s : State) (j : BitVec 32) (tl q pt : Nat) (e : JEntry) (r : List (Nat × List Byte × Nat)),
      (s.rly.acc = (4, relBody q pt 0 (leBytes 4 j.toNat ++ [1, 0]), tl) :: r) ∧ (jOn s = true) ∧ (s.rly.buf = [e]) ∧ (ptReached j.toNat e.jseq = false) ∧ (s.rly.want = [])) ∧
    (∃ (s : State),
      (jOn s = true)) ∧
    (∃ (s : State),
      (jOn s = true) ∧ (s.rly.buf ≠ []) ∧ (s.rly.stall = false)) ∧
    (∃ (s : State),
      (jOn s = false ∨ s.rly.buf = [])) ∧
    (∃ (s : State),
      (jOn s = true) ∧ (s.rly.buf ≠ [])) ∧
    (∃ (s : State) (q pt tl : Nat) (d : List Byte) (r : List (Nat × List Byte × Nat)),
      (s.rly.acc = (13, relBody q pt 0 d, tl) :: r) ∧ (s.role = 1) ∧ (d = leBytes 4 (s.regN Reg.CFG_BUILD_LO) ++ leBytes 4 (s.regN Reg.CFG_BUILD_HI))) ∧
    (∃ (s : State) (p : Fin 16) (v : BitVec 32),
      (s.role = 1) ∧ (s.flag (Reg.RELAY_MP_CFG p) 31 = true) ∧ (jOn s = false)) ∧
    (∃ (s : State) (p : Fin 16) (v : BitVec 32),
      (s.role ≠ 1 ∨ s.flag (Reg.RELAY_MP_CFG p) 31 = false)) :=
  ⟨⟨((State.reset.setRegN Reg.RELAY_STAT 0x9)).setRly { buf := [{ jseq := 5, pt := 100, kind := 5, data := [] }], acc := [(4, relBody 0 0 0 (leBytes 4 4 ++ [1, 0]), 0)] }, 4#32, 0, 0, 0, { jseq := 5, pt := 100, kind := 5, data := [] }, [], by decide +kernel⟩,
  ⟨((State.reset.setRegN Reg.RELAY_STAT 0x9)).setRly { buf := [{ jseq := 5, pt := 100, kind := 5, data := [] }], stall := true }, by decide +kernel⟩,
  ⟨((State.reset.setRegN Reg.RELAY_STAT 0x9)).setRly { buf := [{ jseq := 5, pt := 100, kind := 5, data := [] }], stall := false }, by decide +kernel⟩,
  ⟨State.reset, by decide +kernel⟩,
  ⟨((State.reset.setRegN Reg.RELAY_STAT 0x9)).setRly { buf := [{ jseq := 5, pt := 100, kind := 5, data := [] }], stall := true }, by decide +kernel⟩,
  ⟨((State.reset.setRegN Reg.RELAY_STAT 0x9)).setRly { acc := [(13, relBody 0 0 0 (leBytes 4 0 ++ leBytes 4 0), 0)] }, 0, 0, 0, (leBytes 4 0 ++ leBytes 4 0), [], by decide +kernel⟩,
  ⟨(State.reset.setRegN Reg.RELAY_STAT 1).setFlag (Reg.RELAY_MP_CFG 3) 31 true, 3, 0x70009#32, by decide +kernel⟩,
  ⟨State.reset, 3, 0x70009#32, by decide +kernel⟩⟩

theorem wit_RelayRoles_1 :
    (∃ (s : State) (f : Bool),
      (s.rly.elect = true) ∧ (s.shadowing = true)) ∧
    (∃ (s : State),
      (s.rly.elect = true) ∧ (s.shadowing = true) ∧ (s.mode ≠ mSafe)) ∧
    (∃ (s : State),
      (s.role = 1) ∧ (s.unit1 = true) ∧ (s.pac.ops = []) ∧ (s.mode ≠ mSafe)) ∧
    (∃ (s : State),
      (s.role ≠ 1 ∨ s.unit1 = false)) ∧
    (∃ (s : State) (q pt tl : Nat) (d : List Byte) (r : List (Nat × List Byte × Nat)),
      (s.rly.acc = (1, relBody q pt 0 d, tl) :: r) ∧ (d.length = 8) ∧ (s.shadowing = false) ∧ (fieldLe d 3 1 ≠ bit s.unit1)) ∧
    (∃ (s : State) (q pt tl : Nat) (d : List Byte) (r : List (Nat × List Byte × Nat)),
      (s.rly.acc = (2, relBody q pt 0 d, tl) :: r) ∧ (s.role = 1)) ∧
    (∃ (s : State) (q pt tl : Nat) (d : List Byte) (r : List (Nat × List Byte × Nat)),
      (s.rly.acc = (3, relBody q pt 0 d, tl) :: r) ∧ (s.shadowing = true)) ∧
    (∃ (s : State),
      (s.shadowing = true) ∧ (s.rly.asked = false)) ∧
    (∃ (s : State),
      (s.shadowing = false)) ∧
    (∃ (s : State),
      (s.role ≠ 0) ∧ (s.mode ≠ mSafe)) ∧
    (∃ (s : State),
      (s.role = 0)) ∧
    (∃ (s : State) (n : Nat),
      (s.role ≠ 0) ∧ (1 ≤ n) ∧ (n ≤ 8)) :=
  ⟨⟨((State.reset.setRegN Reg.RELAY_STAT 0xA)).setRly { elect := true }, true, by decide +kernel⟩,
  ⟨(((State.reset.setRegN Reg.RELAY_STAT 0xA)).setRly { elect := true }).setFld Reg.PWR_MODE 3 0 10, by decide +kernel⟩,
  ⟨(State.reset.setRegN Reg.RELAY_STAT 9).setFlag Reg.RELAY_CFG 1 true |>.setFld Reg.PWR_MODE 3 0 6, by decide +kernel⟩,
  ⟨State.reset, by decide +kernel⟩,
  ⟨((State.reset.setRegN Reg.RELAY_STAT 0x9)).setRly { acc := [(1, relBody 0 0 0 [2, 6, 0, 1, 0, 0, 0, 0], 0)] }, 0, 0, 0, [2, 6, 0, 1, 0, 0, 0, 0], [], by decide +kernel⟩,
  ⟨((State.reset.setRegN Reg.RELAY_STAT 0x9)).setRly { acc := [(2, relBody 0 0 0 [], 0)] }, 0, 0, 0, [], [], by decide +kernel⟩,
  ⟨((State.reset.setRegN Reg.RELAY_STAT 0xA)).setRly { acc := [(3, relBody 0 0 0 [], 0)], asked := true }, 0, 0, 0, [], [], by decide +kernel⟩,
  ⟨(State.reset.setRegN Reg.RELAY_STAT 0xA), by decide +kernel⟩,
  ⟨State.reset, by decide +kernel⟩,
  ⟨(State.reset.setRegN Reg.RELAY_STAT 0xA), by decide +kernel⟩,
  ⟨State.reset, by decide +kernel⟩,
  ⟨(State.reset.setRegN Reg.RELAY_STAT 0xA), 8, by decide +kernel⟩⟩

theorem wit_RelayRoles_2 :
    (∃ (s : State) (n : Nat),
      (s.role = 0 ∨ n = 0 ∨ 8 < n)) ∧
    (∃ (s : State),
      (s.shadowing = true)) ∧
    (∃ (s : State),
      (s.role = 1)) ∧
    (∃ (s : State),
      (s.shadowing = true) ∧ (s.flag Reg.RELAY_STAT 4 = true)) ∧
    (∃ (s : State),
      (s.role ≠ 0)) ∧
    (∃ (s : State),
      (s.rcoOk = true) ∧ (s.role ≠ 1)) ∧
    (∃ (s : State),
      (takeOk s false = true) ∧ (s.sync = 2) ∧ (s.rly.shadow = []) ∧ (s.pac.ops = []) ∧ (s.mode ≠ mSafe)) ∧
    (∃ (s : State) (ri : Bool),
      (takeOk s ri = false)) ∧
    (∃ (s : State),
      (s.shadowing = true) ∧ (s.rly.fence = true) ∧ (s.rly.blocked = false)) ∧
    (∃ (s : State) (v : BitVec 32),
      (v.getLsbD 0 = true) ∧ (v.getLsbD 1 = false) ∧ (v.getLsbD 2 = false) ∧ (v.getLsbD 3 = false) ∧ (s.shadowing = true) ∧ (s.flag Reg.RELAY_STAT 6 = false) ∧ (s.rly.clash = false) ∧ (s.sync = 0) ∧ (s.pac.ops = [])) ∧
    (∃ (s : State) (v : BitVec 32),
      (v.getLsbD 0 = true) ∧ (v.getLsbD 1 = false) ∧ (v.getLsbD 2 = false) ∧ (v.getLsbD 3 = false) ∧ (s.shadowing = false ∨ s.flag Reg.RELAY_STAT 6 = true ∨ s.rly.clash = true)) ∧
    (∃ (s : State),
      (s.flag Reg.RELAY_CFG 4 = true) ∧ (s.shadowing = true) ∧ (s.flag Reg.RELAY_STAT 6 = false) ∧ (s.rly.clash = false) ∧ (s.sync = 0) ∧ (s.pac.ops = []) ∧ (s.rly.autoAt = none)) :=
  ⟨⟨State.reset, 9, by decide +kernel⟩,
  ⟨(State.reset.setRegN Reg.RELAY_STAT 0xA), by decide +kernel⟩,
  ⟨(State.reset.setRegN Reg.RELAY_STAT 0x9), by decide +kernel⟩,
  ⟨(State.reset.setRegN Reg.RELAY_STAT 0xA).setFlag Reg.RELAY_STAT 4 true, by decide +kernel⟩,
  ⟨(State.reset.setRegN Reg.RELAY_STAT 0xA), by decide +kernel⟩,
  ⟨State.reset.setFlag Reg.OUT_STAT 3 true, by decide +kernel⟩,
  ⟨(((State.reset.setRegN Reg.RELAY_STAT 0xA)).setRly { fence := true }).setFld Reg.PWR_MODE 3 0 10, by decide +kernel⟩,
  ⟨State.reset, true, by decide +kernel⟩,
  ⟨(((State.reset.setRegN Reg.RELAY_STAT 0xA)).setRly { fence := true }).setFld Reg.PWR_MODE 3 0 10, by decide +kernel⟩,
  ⟨(State.reset.setRegN Reg.RELAY_STAT 2), 1#32, by decide +kernel⟩,
  ⟨State.reset, 1#32, by decide +kernel⟩,
  ⟨(State.reset.setRegN Reg.RELAY_STAT 2).setFlag Reg.RELAY_CFG 4 true, by decide +kernel⟩⟩

theorem wit_RelayRoles_3 :
    (∃ (s : State),
      (s.flag Reg.RELAY_CFG 4 = false ∨ s.shadowing = false ∨ s.sync ≠ 0)) ∧
    (∃ (s : State) (v : BitVec 32),
      (v.getLsbD 0 = false) ∧ (v.getLsbD 1 = true) ∧ (v.getLsbD 2 = false) ∧ (v.getLsbD 3 = false) ∧ (s.role = 1) ∧ (s.sync = 2) ∧ (s.pac.ops = []) ∧ (s.mode ≠ mSafe)) ∧
    (∃ (s : State) (v : BitVec 32),
      (v.getLsbD 0 = false) ∧ (v.getLsbD 1 = true) ∧ (v.getLsbD 2 = false) ∧ (v.getLsbD 3 = false) ∧ (s.role = 1) ∧ (s.sync ≠ 2)) ∧
    (∃ (s : State) (v : BitVec 32),
      (v.getLsbD 0 = false) ∧ (v.getLsbD 1 = false) ∧ (v.getLsbD 2 = true) ∧ (v.getLsbD 3 = false)) ∧
    (∃ (s : State) (v : BitVec 32),
      (v.getLsbD 0 = false) ∧ (v.getLsbD 1 = false) ∧ (v.getLsbD 2 = false) ∧ (v.getLsbD 3 = true)) ∧
    (∃ (s : State),
      (s.role = rPrimary) ∧ (s.rly.peer = rSecondary)) ∧
    (∃ (s : State),
      (s.role ≠ rPrimary ∨ s.rly.peer ≠ rSecondary)) ∧
    (∃ (s : State) (n : Fin 8) (v : BitVec 32),
      (modeIn s 0x14 = false)) ∧
    (∃ (s : State) (n : Fin 8) (v : BitVec 32),
      (modeIn s 0x14 = true) ∧ (v.getLsbD 0 = true) ∧ (mirOn s n = false) ∧ (mirBad s n = false)) ∧
    (∃ (s : State) (n : Fin 8) (v : BitVec 32),
      (modeIn s 0x14 = true) ∧ (v.getLsbD 0 = true) ∧ (mirOn s n = false) ∧ (mirBad s n = true)) ∧
    (∃ (s : State) (n : Fin 8) (v : BitVec 32),
      (modeIn s 0x14 = true) ∧ (v.getLsbD 0 = false)) ∧
    (∃ (s : State) (init : Fin 512) (f q n : Nat) (r : List (Nat × Nat × Nat)),
      (s.rly.gaps = (f, q, n) :: r) ∧ (init.val ≠ 474)) :=
  ⟨⟨State.reset, by decide +kernel⟩,
  ⟨(State.reset.setRegN Reg.RELAY_STAT 9).setFld Reg.PWR_MODE 3 0 6, 2#32, by decide +kernel⟩,
  ⟨State.reset.setRegN Reg.RELAY_STAT 5, 2#32, by decide +kernel⟩,
  ⟨State.reset.setRly { fence := true }, 4#32, by decide +kernel⟩,
  ⟨State.reset.setRly { seen := some 3 }, 8#32, by decide +kernel⟩,
  ⟨((State.reset.setRegN Reg.RELAY_STAT 0x9)).setRly { fence := true, peer := 2 }, by decide +kernel⟩,
  ⟨State.reset, by decide +kernel⟩,
  ⟨State.reset, 7, 1#32, by decide +kernel⟩,
  ⟨((State.reset.setRegN (Reg.RELAY_MIR_BASE_LO 7) 0x10000000).setRegN (Reg.RELAY_MIR_SIZE 7) 1).setFld Reg.PWR_MODE 3 0 4, 7, 1#32, by decide +kernel⟩,
  ⟨State.reset.setFld Reg.PWR_MODE 3 0 4, 7, 1#32, by decide +kernel⟩,
  ⟨State.reset.setFld Reg.PWR_MODE 3 0 4, 7, 0#32, by decide +kernel⟩,
  ⟨State.reset.setRly { gaps := [(1, 2, 3)] }, 436, 1, 2, 3, [], by decide +kernel⟩⟩

theorem wit_RelayRoles_4 : ∃ (s : State) (init : Fin 512),
      (s.rly.gaps = []) :=
  ⟨State.reset, 436, by decide +kernel⟩

theorem wit_ManagementProtocol_1 :
    (∃ (s : State) (via : Fin 3) (peer : BitVec 48) (frame : List Byte),
      (fwRuns s = false ∨ fmpOn s via.val = false)) ∧
    (∃ (s : State) (via : Fin 3) (peer : BitVec 48) (frame : List Byte),
      (fwRuns s = true) ∧ (fmpOn s via.val = true) ∧ (via.val ≠ 2) ∧ (fForm frame = false)) ∧
    (∃ (s : State) (via : Fin 3) (peer : BitVec 48) (frame : List Byte),
      (fwRuns s = true) ∧ (fmpOn s via.val = true) ∧ (via.val ≠ 2) ∧ (fForm frame = true) ∧ (frame.length = 48 + fLen frame) ∧ (8 ≤ s.fmp.queue.length)) ∧
    (∃ (s : State) (via : Fin 3) (peer : BitVec 48) (frame : List Byte),
      (fwRuns s = true) ∧ (fmpOn s via.val = true) ∧ (via.val ≠ 2) ∧ (fForm frame = true) ∧ (frame.length = 48 + fLen frame) ∧ (s.fmp.queue = []) ∧ (fmpCmds.contains (fCmd frame) = true) ∧ (fRole frame = 0) ∧ (fCmd frame = 0)) ∧
    (∃ (s : State) (via : Fin 3) (peer : BitVec 48) (frame : List Byte),
      (fwRuns s = true) ∧ (fmpOn s via.val = true) ∧ (via.val ≠ 2) ∧ (fForm frame = true) ∧ (frame.length = 48 + fLen frame) ∧ (s.fmp.queue = []) ∧ (fmpCmds.contains (fCmd frame) = true) ∧ (1 ≤ fRole frame) ∧ (fRole frame ≤ 3) ∧ (s.fmp.fails = []) ∧ (fSeq frame ≠ (fmpRole s (fRole frame)).last)) ∧
    (∃ (s : State) (f : List Byte) (peer : BitVec 48) (frame : List Byte),
      (fwRuns s = true) ∧ (s.flag Reg.FMP_CTL 1 = true) ∧ (s.fmp.spiRx = some f) ∧ (s.fmp.queue = []) ∧ (fForm f = true) ∧ (f.length = 48 + fLen f) ∧ (fRole f = 0) ∧ (fCmd f = 0)) ∧
    (∃ (s : State) (q : FmpReq) (r : List FmpReq),
      (s.fmp.queue = q :: r) ∧ (fmpServes s = true) ∧ (s.fmp.signing = false) ∧ (fCmd q.frame = 0) ∧ (q.via ≠ 2)) ∧
    (∃ (s : State) (q : FmpReq) (r : List FmpReq) (o : Obj),
      (s.fmp.queue = q :: r) ∧ (fmpServes s = true) ∧ (s.fmp.signing = false) ∧ (fCmd q.frame = 1) ∧ (q.via ≠ 2) ∧ (nameOf s.life (fIndex q.frame) (fSub q.frame) = .obj o) ∧ (o.index < 0xA000) ∧ (o.role ≤ fRole q.frame) ∧ (o.acc ≠ .wo) ∧ (fLen q.frame = 0) ∧ (fTcode q.frame = 0) ∧ (o.ty ≠ 14) ∧ (o.size ≤ 1024)) ∧
    (∃ (s : State) (q : FmpReq) (r : List FmpReq) (c : Nat),
      (s.fmp.queue = q :: r) ∧ (fmpServes s = true) ∧ (s.fmp.signing = false) ∧ (fCmd q.frame = 1) ∧ (q.via ≠ 2) ∧ (nameOf s.life (fIndex q.frame) (fSub q.frame) = .none c) ∧ (c ≠ 0)) ∧
    (∃ (s : State) (q : FmpReq) (r : List FmpReq) (o : Obj),
      (s.fmp.queue = q :: r) ∧ (fmpServes s = true) ∧ (s.fmp.signing = false) ∧ (fCmd q.frame = 1) ∧ (q.via ≠ 2) ∧ (nameOf s.life (fIndex q.frame) (fSub q.frame) = .obj o) ∧ (o.index < 0xA000) ∧ (fRole q.frame < o.role)) ∧
    (∃ (s : State) (q : FmpReq) (r : List FmpReq) (o : Obj),
      (s.fmp.queue = q :: r) ∧ (fmpServes s = true) ∧ (s.fmp.signing = false) ∧ (fCmd q.frame = 1) ∧ (q.via ≠ 2) ∧ (nameOf s.life (fIndex q.frame) (fSub q.frame) = .obj o) ∧ (o.index < 0xA000) ∧ (o.role ≤ fRole q.frame) ∧ (o.acc = .wo)) ∧
    (∃ (s : State) (q : FmpReq) (r : List FmpReq),
      (s.fmp.queue = q :: r) ∧ (fmpServes s = true) ∧ (s.fmp.signing = false) ∧ (fCmd q.frame = 1) ∧ (q.via ≠ 2) ∧ (nameOf s.life (fIndex q.frame) (fSub q.frame) = .user) ∧ (s.fmp.user = none) ∧ (userBusy s = false) ∧ (dpServer s (fIndex q.frame) = none)) :=
  ⟨⟨State.reset, 0, 9#48, [], by decide +kernel⟩,
  ⟨(State.setFmp ({ State.reset with pw := { State.reset.pw with boot := 5 } }) { vals := [(valKey 0x1011 2, [1, 2, 3, 4])] }), 0, 9#48, [0x46], by decide +kernel⟩,
  ⟨(State.setFmp ({ State.reset with pw := { State.reset.pw with boot := 5 } }) { vals := [(valKey 0x1011 2, [1, 2, 3, 4])], queue := List.replicate 8 ⟨0, 0, []⟩ }), 0, 9#48, ([0x46, 1, 1, 1] ++ leBytes 4 1 ++ List.replicate 8 0 ++ [1, 0] ++ leBytes 2 0 ++ [0, 0, 0, 0] ++ leBytes 4 0 ++ leBytes 2 0 ++ [0, 0] ++ [] ++ List.replicate 16 0), by decide +kernel⟩,
  ⟨(State.setFmp ({ State.reset with pw := { State.reset.pw with boot := 5 } }) { vals := [(valKey 0x1011 2, [1, 2, 3, 4])] }), 0, 9#48, ([0x46, 1, 1, 0] ++ leBytes 4 1 ++ List.replicate 8 0 ++ [0, 0] ++ leBytes 2 0 ++ [0, 0, 0, 0] ++ leBytes 4 0 ++ leBytes 2 0 ++ [0, 0] ++ [] ++ List.replicate 16 0), by decide +kernel⟩,
  ⟨(State.setFmp ({ State.reset with pw := { State.reset.pw with boot := 5 } }) { vals := [(valKey 0x1011 2, [1, 2, 3, 4])] }), 0, 9#48, ([0x46, 1, 1, 1] ++ leBytes 4 1 ++ List.replicate 8 0 ++ [1, 0] ++ leBytes 2 0 ++ [0, 0, 0, 0] ++ leBytes 4 0 ++ leBytes 2 0 ++ [0, 0] ++ [] ++ List.replicate 16 0), by decide +kernel⟩,
  ⟨(State.setFmp ({ State.reset with pw := { State.reset.pw with boot := 5 } }) { spiRx := some ([0x46, 1, 1, 0] ++ leBytes 4 1 ++ List.replicate 8 0 ++ [0, 0] ++ leBytes 2 0 ++ [0, 0, 0, 0] ++ leBytes 4 0 ++ leBytes 2 0 ++ [0, 0] ++ [] ++ List.replicate 16 0) }).setFlag Reg.FMP_CTL 1 true, ([0x46, 1, 1, 0] ++ leBytes 4 1 ++ List.replicate 8 0 ++ [0, 0] ++ leBytes 2 0 ++ [0, 0, 0, 0] ++ leBytes 4 0 ++ leBytes 2 0 ++ [0, 0] ++ [] ++ List.replicate 16 0), 0, [], by decide +kernel⟩,
  ⟨(State.setFmp ({ State.reset with pw := { State.reset.pw with boot := 5 } }) { queue := [⟨0, 0, ([0x46, 1, 1, 0] ++ leBytes 4 1 ++ List.replicate 8 0 ++ [0, 0] ++ leBytes 2 0 ++ [0, 0, 0, 0] ++ leBytes 4 0 ++ leBytes 2 0 ++ [0, 0] ++ [] ++ List.replicate 16 0)⟩] }), ⟨0, 0, ([0x46, 1, 1, 0] ++ leBytes 4 1 ++ List.replicate 8 0 ++ [0, 0] ++ leBytes 2 0 ++ [0, 0, 0, 0] ++ leBytes 4 0 ++ leBytes 2 0 ++ [0, 0] ++ [] ++ List.replicate 16 0)⟩, [], by decide +kernel⟩,
  ⟨(State.setFmp ({ State.reset with pw := { State.reset.pw with boot := 5 } }) { queue := [⟨0, 0, ([0x46, 1, 1, 3] ++ leBytes 4 1 ++ List.replicate 8 0 ++ [1, 0] ++ leBytes 2 4113 ++ [2, 0, 0, 0] ++ leBytes 4 0 ++ leBytes 2 0 ++ [0, 0] ++ [] ++ List.replicate 16 0)⟩] }), ⟨0, 0, ([0x46, 1, 1, 3] ++ leBytes 4 1 ++ List.replicate 8 0 ++ [1, 0] ++ leBytes 2 4113 ++ [2, 0, 0, 0] ++ leBytes 4 0 ++ leBytes 2 0 ++ [0, 0] ++ [] ++ List.replicate 16 0)⟩, [], ⟨0x1011, 2, 2, 2, 4, 4, .rw, 3, 0x0, true, false, .kept⟩, by decide +kernel⟩,
  ⟨(State.setFmp ({ State.reset with pw := { State.reset.pw with boot := 5 } }) { queue := [⟨0, 0, ([0x46, 1, 1, 3] ++ leBytes 4 1 ++ List.replicate 8 0 ++ [1, 0] ++ leBytes 2 5376 ++ [0, 0, 0, 0] ++ leBytes 4 0 ++ leBytes 2 0 ++ [0, 0] ++ [] ++ List.replicate 16 0)⟩] }), ⟨0, 0, ([0x46, 1, 1, 3] ++ leBytes 4 1 ++ List.replicate 8 0 ++ [1, 0] ++ leBytes 2 5376 ++ [0, 0, 0, 0] ++ leBytes 4 0 ++ leBytes 2 0 ++ [0, 0] ++ [] ++ List.replicate 16 0)⟩, [], 0x0A01, by decide +kernel⟩,
  ⟨(State.setFmp ({ State.reset with pw := { State.reset.pw with boot := 5 } }) { queue := [⟨0, 0, ([0x46, 1, 1, 1] ++ leBytes 4 1 ++ List.replicate 8 0 ++ [1, 0] ++ leBytes 2 4113 ++ [2, 0, 0, 0] ++ leBytes 4 0 ++ leBytes 2 0 ++ [0, 0] ++ [] ++ List.replicate 16 0)⟩] }), ⟨0, 0, ([0x46, 1, 1, 1] ++ leBytes 4 1 ++ List.replicate 8 0 ++ [1, 0] ++ leBytes 2 4113 ++ [2, 0, 0, 0] ++ leBytes 4 0 ++ leBytes 2 0 ++ [0, 0] ++ [] ++ List.replicate 16 0)⟩, [], ⟨0x1011, 2, 2, 2, 4, 4, .rw, 3, 0x0, true, false, .kept⟩, by decide +kernel⟩,
  ⟨(State.setFmp ({ State.reset with pw := { State.reset.pw with boot := 5 } }) { queue := [⟨0, 0, ([0x46, 1, 1, 3] ++ leBytes 4 1 ++ List.replicate 8 0 ++ [1, 0] ++ leBytes 2 4128 ++ [1, 0, 0, 0] ++ leBytes 4 0 ++ leBytes 2 0 ++ [0, 0] ++ [] ++ List.replicate 16 0)⟩] }), ⟨0, 0, ([0x46, 1, 1, 3] ++ leBytes 4 1 ++ List.replicate 8 0 ++ [1, 0] ++ leBytes 2 4128 ++ [1, 0, 0, 0] ++ leBytes 4 0 ++ leBytes 2 0 ++ [0, 0] ++ [] ++ List.replicate 16 0)⟩, [], ⟨0x1020, 1, 3, 1, 13, 32, .wo, 3, 0x0, false, false, .own⟩, by decide +kernel⟩,
  ⟨(State.setFmp ({ State.reset with pw := { State.reset.pw with boot := 5 } }) { queue := [⟨0, 0, ([0x46, 1, 1, 3] ++ leBytes 4 1 ++ List.replicate 8 0 ++ [1, 0] ++ leBytes 2 40960 ++ [0, 0, 0, 0] ++ leBytes 4 0 ++ leBytes 2 0 ++ [0, 0] ++ [] ++ List.replicate 16 0)⟩] }), ⟨0, 0, ([0x46, 1, 1, 3] ++ leBytes 4 1 ++ List.replicate 8 0 ++ [1, 0] ++ leBytes 2 40960 ++ [0, 0, 0, 0] ++ leBytes 4 0 ++ leBytes 2 0 ++ [0, 0] ++ [] ++ List.replicate 16 0)⟩, [], by decide +kernel⟩⟩

theorem wit_ManagementProtocol_2 :
    (∃ (s : State) (q : FmpReq) (r : List FmpReq) (o : Obj),
      (s.fmp.queue = q :: r) ∧ (fmpServes s = true) ∧ (s.fmp.signing = false) ∧ (fCmd q.frame = 2) ∧ (q.via ≠ 2) ∧ (nameOf s.life (fIndex q.frame) (fSub q.frame) = .obj o) ∧ (o.index < 0xA000) ∧ (o.role ≤ fRole q.frame) ∧ (o.acc ≠ .ro) ∧ (o.acc ≠ .const) ∧ (fTcode q.frame = o.ty) ∧ (fLen q.frame = o.size) ∧ (o.ty ≠ 14) ∧ (o.size ≤ 1024) ∧ (o.acc = .rw) ∧ (s.shadowing = false) ∧ (jOn s = false) ∧ (o.ty ≠ 1) ∧ (o.ty ≠ 12) ∧ (o.home = .kept) ∧ (objBusy s o (fSub q.frame) (leNat (fPay q.frame)) = 0) ∧ (objRange s o (fSub q.frame) (fPay q.frame) = true) ∧ (o.index ≠ 0x9020)) ∧
    (∃ (s : State) (q : FmpReq) (r : List FmpReq) (v : BitVec 32),
      (s.fmp.queue = q :: r) ∧ (fmpServes s = true) ∧ (s.fmp.signing = false) ∧ (fCmd q.frame = 2) ∧ (q.via ≠ 2) ∧ (fIndex q.frame = 0x2101) ∧ (fSub q.frame = 0) ∧ (fTcode q.frame = 4) ∧ (fRole q.frame = 3) ∧ (fLen q.frame = 4) ∧ (fPay q.frame = leBytes 4 v.toNat) ∧ (jOn s = false) ∧ (s.shadowing = false) ∧ (s.fmp.vals = [])) ∧
    (∃ (s : State) (q : FmpReq) (r : List FmpReq) (o : Obj),
      (s.fmp.queue = q :: r) ∧ (fmpServes s = true) ∧ (s.fmp.signing = false) ∧ (fCmd q.frame = 2) ∧ (q.via ≠ 2) ∧ (nameOf s.life (fIndex q.frame) (fSub q.frame) = .obj o) ∧ (o.index < 0xA000) ∧ (o.role ≤ fRole q.frame) ∧ (o.acc = .ro ∨ o.acc = .const)) ∧
    (∃ (s : State) (q : FmpReq) (r : List FmpReq) (o : Obj),
      (s.fmp.queue = q :: r) ∧ (fmpServes s = true) ∧ (s.fmp.signing = false) ∧ (fCmd q.frame = 2) ∧ (q.via ≠ 2) ∧ (nameOf s.life (fIndex q.frame) (fSub q.frame) = .obj o) ∧ (o.index < 0xA000) ∧ (o.role ≤ fRole q.frame) ∧ (o.acc ≠ .ro) ∧ (o.acc ≠ .const) ∧ (fTcode q.frame ≠ o.ty ∨ fLen q.frame ≠ o.size)) ∧
    (∃ (s : State) (q : FmpReq) (r : List FmpReq) (o : Obj),
      (s.fmp.queue = q :: r) ∧ (fmpServes s = true) ∧ (s.fmp.signing = false) ∧ (fCmd q.frame = 2) ∧ (q.via ≠ 2) ∧ (nameOf s.life (fIndex q.frame) (fSub q.frame) = .obj o) ∧ (o.index < 0xA000) ∧ (o.role ≤ fRole q.frame) ∧ (o.acc ≠ .ro) ∧ (o.acc ≠ .const) ∧ (fTcode q.frame = o.ty) ∧ (fLen q.frame = o.size) ∧ (o.ty ≠ 14) ∧ (o.size ≤ 1024) ∧ (objMode s o (fSub q.frame) = false)) ∧
    (∃ (s : State) (q : FmpReq) (r : List FmpReq) (o : Obj),
      (s.fmp.queue = q :: r) ∧ (fmpServes s = true) ∧ (s.fmp.signing = false) ∧ (fCmd q.frame = 2) ∧ (q.via ≠ 2) ∧ (nameOf s.life (fIndex q.frame) (fSub q.frame) = .obj o) ∧ (o.index < 0xA000) ∧ (o.role ≤ fRole q.frame) ∧ (o.acc ≠ .ro) ∧ (o.acc ≠ .const) ∧ (fTcode q.frame = o.ty) ∧ (fLen q.frame = o.size) ∧ (o.ty ≠ 14) ∧ (o.size ≤ 1024) ∧ (objMode s o (fSub q.frame) = true) ∧ (objBusy s o (fSub q.frame) (leNat (fPay q.frame)) = 0) ∧ (objRange s o (fSub q.frame) (fPay q.frame) = false)) ∧
    (∃ (s : State) (q : FmpReq) (r : List FmpReq) (o : Obj),
      (s.fmp.queue = q :: r) ∧ (fmpServes s = true) ∧ (s.fmp.signing = false) ∧ (fCmd q.frame = 5) ∧ (q.via ≠ 2) ∧ (nameOf s.life (fIndex q.frame) (fSub q.frame) = .obj o) ∧ (o.index < 0xA000) ∧ (o.role ≤ fRole q.frame) ∧ (o.acc ≠ .wo) ∧ (fLen q.frame = 0) ∧ (fTcode q.frame = 0) ∧ (fByte q.frame 17 = 0) ∧ (segOf s (fRole q.frame) = none)) ∧
    (∃ (s : State) (q : FmpReq) (r : List FmpReq) (o : Obj),
      (s.fmp.queue = q :: r) ∧ (fmpServes s = true) ∧ (s.fmp.signing = false) ∧ (fCmd q.frame = 5) ∧ (q.via ≠ 2) ∧ (nameOf s.life (fIndex q.frame) (fSub q.frame) = .obj o) ∧ (o.index < 0xA000) ∧ (o.role ≤ fRole q.frame) ∧ (o.acc = .rw) ∧ (s.shadowing = false) ∧ (fByte q.frame 17 = 1) ∧ (fTcode q.frame = o.ty) ∧ (fLen q.frame = 4) ∧ (leNat (fPay q.frame) = o.size) ∧ (segOf s (fRole q.frame) = none)) ∧
    (∃ (s : State) (q : FmpReq) (r : List FmpReq) (o : Obj),
      (s.fmp.queue = q :: r) ∧ (fmpServes s = true) ∧ (s.fmp.signing = false) ∧ (fCmd q.frame = 5) ∧ (q.via ≠ 2) ∧ (nameOf s.life (fIndex q.frame) (fSub q.frame) = .obj o) ∧ (o.index < 0xA000) ∧ (o.role ≤ fRole q.frame) ∧ (o.acc ≠ .wo) ∧ (fLen q.frame = 0) ∧ (fTcode q.frame = 0) ∧ (fByte q.frame 17 = 0) ∧ ((segOf s (fRole q.frame)).isSome = true)) ∧
    (∃ (s : State) (q : FmpReq) (r : List FmpReq) (o : Obj) (g : Segs),
      (s.fmp.queue = q :: r) ∧ (fmpServes s = true) ∧ (s.fmp.signing = false) ∧ (fCmd q.frame = 6) ∧ (q.via ≠ 2) ∧ (nameOf s.life (fIndex q.frame) (fSub q.frame) = .obj o) ∧ (o.index < 0xA000) ∧ (o.role ≤ fRole q.frame) ∧ (segOf s (fRole q.frame) = some g) ∧ (g.index = fIndex q.frame) ∧ (g.sub = fSub q.frame) ∧ (g.write = true) ∧ (fOffset q.frame = g.data.length) ∧ (g.data.length + fLen q.frame ≤ g.size)) ∧
    (∃ (s : State) (q : FmpReq) (r : List FmpReq) (o : Obj) (g : Segs),
      (s.fmp.queue = q :: r) ∧ (fmpServes s = true) ∧ (s.fmp.signing = false) ∧ (fCmd q.frame = 6) ∧ (q.via ≠ 2) ∧ (nameOf s.life (fIndex q.frame) (fSub q.frame) = .obj o) ∧ (o.index < 0xA000) ∧ (o.role ≤ fRole q.frame) ∧ (segOf s (fRole q.frame) = some g) ∧ (g.index = fIndex q.frame) ∧ (g.sub = fSub q.frame) ∧ (g.write = false) ∧ (fOffset q.frame = g.pos) ∧ (fLen q.frame = 0)) ∧
    (∃ (s : State) (q : FmpReq) (r : List FmpReq) (o : Obj) (g : Segs),
      (s.fmp.queue = q :: r) ∧ (fmpServes s = true) ∧ (s.fmp.signing = false) ∧ (fCmd q.frame = 6) ∧ (q.via ≠ 2) ∧ (nameOf s.life (fIndex q.frame) (fSub q.frame) = .obj o) ∧ (o.index < 0xA000) ∧ (o.role ≤ fRole q.frame) ∧ (segOf s (fRole q.frame) = some g) ∧ (g.index = fIndex q.frame) ∧ (g.sub = fSub q.frame) ∧ (fOffset q.frame ≠ (if g.write then g.data.length else g.pos))) :=
  ⟨⟨(State.setFmp ({ State.reset with pw := { State.reset.pw with boot := 5 } }) { queue := [⟨0, 0, ([0x46, 1, 1, 3] ++ leBytes 4 1 ++ List.replicate 8 0 ++ [2, 0] ++ leBytes 2 4113 ++ [2, 4, 0, 0] ++ leBytes 4 0 ++ leBytes 2 4 ++ [0, 0] ++ [10, 0, 0, 1] ++ List.replicate 16 0)⟩] }), ⟨0, 0, ([0x46, 1, 1, 3] ++ leBytes 4 1 ++ List.replicate 8 0 ++ [2, 0] ++ leBytes 2 4113 ++ [2, 4, 0, 0] ++ leBytes 4 0 ++ leBytes 2 4 ++ [0, 0] ++ [10, 0, 0, 1] ++ List.replicate 16 0)⟩, [], ⟨0x1011, 2, 2, 2, 4, 4, .rw, 3, 0x0, true, false, .kept⟩, by decide +kernel⟩,
  ⟨(State.setFmp ({ State.reset with pw := { State.reset.pw with boot := 5 } }) { queue := [⟨0, 0, ([0x46, 1, 1, 3] ++ leBytes 4 1 ++ List.replicate 8 0 ++ [2, 0] ++ leBytes 2 8449 ++ [0, 4, 0, 0] ++ leBytes 4 0 ++ leBytes 2 4 ++ [0, 0] ++ (leBytes 4 99) ++ List.replicate 16 0)⟩] }), ⟨0, 0, ([0x46, 1, 1, 3] ++ leBytes 4 1 ++ List.replicate 8 0 ++ [2, 0] ++ leBytes 2 8449 ++ [0, 4, 0, 0] ++ leBytes 4 0 ++ leBytes 2 4 ++ [0, 0] ++ (leBytes 4 99) ++ List.replicate 16 0)⟩, [], 99#32, by decide +kernel⟩,
  ⟨(State.setFmp ({ State.reset with pw := { State.reset.pw with boot := 5 } }) { queue := [⟨0, 0, ([0x46, 1, 1, 3] ++ leBytes 4 1 ++ List.replicate 8 0 ++ [2, 0] ++ leBytes 2 4116 ++ [0, 0, 0, 0] ++ leBytes 4 0 ++ leBytes 2 0 ++ [0, 0] ++ [] ++ List.replicate 16 0)⟩] }), ⟨0, 0, ([0x46, 1, 1, 3] ++ leBytes 4 1 ++ List.replicate 8 0 ++ [2, 0] ++ leBytes 2 4116 ++ [0, 0, 0, 0] ++ leBytes 4 0 ++ leBytes 2 0 ++ [0, 0] ++ [] ++ List.replicate 16 0)⟩, [], ⟨0x1014, 0, 0, 0, 1, 1, .ro, 1, 0x0, false, false, .fld Reg.MGT_STAT 0x0 0 0⟩, by decide +kernel⟩,
  ⟨(State.setFmp ({ State.reset with pw := { State.reset.pw with boot := 5 } }) { queue := [⟨0, 0, ([0x46, 1, 1, 3] ++ leBytes 4 1 ++ List.replicate 8 0 ++ [2, 0] ++ leBytes 2 4113 ++ [2, 4, 0, 0] ++ leBytes 4 0 ++ leBytes 2 1 ++ [0, 0] ++ [1] ++ List.replicate 16 0)⟩] }), ⟨0, 0, ([0x46, 1, 1, 3] ++ leBytes 4 1 ++ List.replicate 8 0 ++ [2, 0] ++ leBytes 2 4113 ++ [2, 4, 0, 0] ++ leBytes 4 0 ++ leBytes 2 1 ++ [0, 0] ++ [1] ++ List.replicate 16 0)⟩, [], ⟨0x1011, 2, 2, 2, 4, 4, .rw, 3, 0x0, true, false, .kept⟩, by decide +kernel⟩,
  ⟨(State.setFmp ({ State.reset with pw := { State.reset.pw with boot := 5 } }) { queue := [⟨0, 0, ([0x46, 1, 1, 3] ++ leBytes 4 1 ++ List.replicate 8 0 ++ [2, 0] ++ leBytes 2 8240 ++ [0, 4, 0, 0] ++ leBytes 4 0 ++ leBytes 2 4 ++ [0, 0] ++ [1, 2, 3, 4] ++ List.replicate 16 0)⟩] }), ⟨0, 0, ([0x46, 1, 1, 3] ++ leBytes 4 1 ++ List.replicate 8 0 ++ [2, 0] ++ leBytes 2 8240 ++ [0, 4, 0, 0] ++ leBytes 4 0 ++ leBytes 2 4 ++ [0, 0] ++ [1, 2, 3, 4] ++ List.replicate 16 0)⟩, [], ⟨0x2030, 0, 0, 0, 4, 4, (.rwm 0x34), 3, 0x0, true, false, .fld Reg.TL_OSC_A_HZ 0x0 31 0⟩, by decide +kernel⟩,
  ⟨(State.setFmp ({ State.reset with pw := { State.reset.pw with boot := 5 } }) { queue := [⟨0, 0, ([0x46, 1, 1, 3] ++ leBytes 4 1 ++ List.replicate 8 0 ++ [2, 0] ++ leBytes 2 8452 ++ [1, 2, 0, 0] ++ leBytes 4 0 ++ leBytes 2 1 ++ [0, 0] ++ [3] ++ List.replicate 16 0)⟩] }), ⟨0, 0, ([0x46, 1, 1, 3] ++ leBytes 4 1 ++ List.replicate 8 0 ++ [2, 0] ++ leBytes 2 8452 ++ [1, 2, 0, 0] ++ leBytes 4 0 ++ leBytes 2 1 ++ [0, 0] ++ [3] ++ List.replicate 16 0)⟩, [], ⟨0x2104, 1, 2, 1, 2, 1, .rw, 3, 0x0, true, false, .bits Reg.HO_CTL 4 2⟩, by decide +kernel⟩,
  ⟨(State.setFmp ({ State.reset with pw := { State.reset.pw with boot := 5 } }) { queue := [⟨0, 0, ([0x46, 1, 1, 3] ++ leBytes 4 1 ++ List.replicate 8 0 ++ [5, 0] ++ leBytes 2 4113 ++ [2, 0, 0, 0] ++ leBytes 4 0 ++ leBytes 2 0 ++ [0, 0] ++ [] ++ List.replicate 16 0)⟩] }), ⟨0, 0, ([0x46, 1, 1, 3] ++ leBytes 4 1 ++ List.replicate 8 0 ++ [5, 0] ++ leBytes 2 4113 ++ [2, 0, 0, 0] ++ leBytes 4 0 ++ leBytes 2 0 ++ [0, 0] ++ [] ++ List.replicate 16 0)⟩, [], ⟨0x1011, 2, 2, 2, 4, 4, .rw, 3, 0x0, true, false, .kept⟩, by decide +kernel⟩,
  ⟨(State.setFmp ({ State.reset with pw := { State.reset.pw with boot := 5 } }) { queue := [⟨0, 0, ([0x46, 1, 1, 3] ++ leBytes 4 1 ++ List.replicate 8 0 ++ [5, 1] ++ leBytes 2 4113 ++ [2, 4, 0, 0] ++ leBytes 4 0 ++ leBytes 2 4 ++ [0, 0] ++ [4, 0, 0, 0] ++ List.replicate 16 0)⟩] }), ⟨0, 0, ([0x46, 1, 1, 3] ++ leBytes 4 1 ++ List.replicate 8 0 ++ [5, 1] ++ leBytes 2 4113 ++ [2, 4, 0, 0] ++ leBytes 4 0 ++ leBytes 2 4 ++ [0, 0] ++ [4, 0, 0, 0] ++ List.replicate 16 0)⟩, [], ⟨0x1011, 2, 2, 2, 4, 4, .rw, 3, 0x0, true, false, .kept⟩, by decide +kernel⟩,
  ⟨(State.setFmp ({ State.reset with pw := { State.reset.pw with boot := 5 } }) { queue := [⟨0, 0, ([0x46, 1, 1, 3] ++ leBytes 4 1 ++ List.replicate 8 0 ++ [5, 0] ++ leBytes 2 4113 ++ [2, 0, 0, 0] ++ leBytes 4 0 ++ leBytes 2 0 ++ [0, 0] ++ [] ++ List.replicate 16 0)⟩], segs := [(3, ⟨false, 1, 1, 1, [], 0⟩)] }), ⟨0, 0, ([0x46, 1, 1, 3] ++ leBytes 4 1 ++ List.replicate 8 0 ++ [5, 0] ++ leBytes 2 4113 ++ [2, 0, 0, 0] ++ leBytes 4 0 ++ leBytes 2 0 ++ [0, 0] ++ [] ++ List.replicate 16 0)⟩, [], ⟨0x1011, 2, 2, 2, 4, 4, .rw, 3, 0x0, true, false, .kept⟩, by decide +kernel⟩,
  ⟨(State.setFmp ({ State.reset with pw := { State.reset.pw with boot := 5 } }) { queue := [⟨0, 0, ([0x46, 1, 1, 3] ++ leBytes 4 1 ++ List.replicate 8 0 ++ [6, 0] ++ leBytes 2 4113 ++ [2, 0, 0, 0] ++ leBytes 4 1 ++ leBytes 2 2 ++ [0, 0] ++ [5, 6] ++ List.replicate 16 0)⟩], segs := [(3, ⟨true, 0x1011, 2, 4, [4], 0⟩)] }), ⟨0, 0, ([0x46, 1, 1, 3] ++ leBytes 4 1 ++ List.replicate 8 0 ++ [6, 0] ++ leBytes 2 4113 ++ [2, 0, 0, 0] ++ leBytes 4 1 ++ leBytes 2 2 ++ [0, 0] ++ [5, 6] ++ List.replicate 16 0)⟩, [], ⟨0x1011, 2, 2, 2, 4, 4, .rw, 3, 0x0, true, false, .kept⟩, ⟨true, 0x1011, 2, 4, [4], 0⟩, by decide +kernel⟩,
  ⟨(State.setFmp ({ State.reset with pw := { State.reset.pw with boot := 5 } }) { queue := [⟨0, 0, ([0x46, 1, 1, 3] ++ leBytes 4 1 ++ List.replicate 8 0 ++ [6, 0] ++ leBytes 2 4113 ++ [2, 0, 0, 0] ++ leBytes 4 1 ++ leBytes 2 0 ++ [0, 0] ++ [] ++ List.replicate 16 0)⟩], segs := [(3, ⟨false, 0x1011, 2, 4, [4, 3, 2, 1], 1⟩)] }), ⟨0, 0, ([0x46, 1, 1, 3] ++ leBytes 4 1 ++ List.replicate 8 0 ++ [6, 0] ++ leBytes 2 4113 ++ [2, 0, 0, 0] ++ leBytes 4 1 ++ leBytes 2 0 ++ [0, 0] ++ [] ++ List.replicate 16 0)⟩, [], ⟨0x1011, 2, 2, 2, 4, 4, .rw, 3, 0x0, true, false, .kept⟩, ⟨false, 0x1011, 2, 4, [4, 3, 2, 1], 1⟩, by decide +kernel⟩,
  ⟨(State.setFmp ({ State.reset with pw := { State.reset.pw with boot := 5 } }) { queue := [⟨0, 0, ([0x46, 1, 1, 3] ++ leBytes 4 1 ++ List.replicate 8 0 ++ [6, 0] ++ leBytes 2 4113 ++ [2, 0, 0, 0] ++ leBytes 4 9 ++ leBytes 2 0 ++ [0, 0] ++ [] ++ List.replicate 16 0)⟩], segs := [(3, ⟨false, 0x1011, 2, 4, [4, 3, 2, 1], 1⟩)] }), ⟨0, 0, ([0x46, 1, 1, 3] ++ leBytes 4 1 ++ List.replicate 8 0 ++ [6, 0] ++ leBytes 2 4113 ++ [2, 0, 0, 0] ++ leBytes 4 9 ++ leBytes 2 0 ++ [0, 0] ++ [] ++ List.replicate 16 0)⟩, [], ⟨0x1011, 2, 2, 2, 4, 4, .rw, 3, 0x0, true, false, .kept⟩, ⟨false, 0x1011, 2, 4, [4, 3, 2, 1], 1⟩, by decide +kernel⟩⟩

theorem wit_ManagementProtocol_3 :
    (∃ (s : State) (q : FmpReq) (r : List FmpReq) (o : Obj) (g : Segs),
      (s.fmp.queue = q :: r) ∧ (fmpServes s = true) ∧ (s.fmp.signing = false) ∧ (fCmd q.frame = 7) ∧ (q.via ≠ 2) ∧ (nameOf s.life (fIndex q.frame) (fSub q.frame) = .obj o) ∧ (o.index < 0xA000) ∧ (o.role ≤ fRole q.frame) ∧ (segOf s (fRole q.frame) = some g) ∧ (g.index = fIndex q.frame) ∧ (g.sub = fSub q.frame) ∧ (g.write = true) ∧ (fOffset q.frame = 0) ∧ (fLen q.frame = 0) ∧ (g.data.length = g.size) ∧ (o.acc = .rw) ∧ (o.home = .kept) ∧ (s.shadowing = false) ∧ (jOn s = false) ∧ (objBusy s o g.sub (leNat g.data) = 0) ∧ (objRange s o g.sub g.data = true)) ∧
    (∃ (s : State) (q : FmpReq) (r : List FmpReq) (o : Obj) (g : Segs),
      (s.fmp.queue = q :: r) ∧ (fmpServes s = true) ∧ (s.fmp.signing = false) ∧ (fCmd q.frame = 7) ∧ (q.via ≠ 2) ∧ (nameOf s.life (fIndex q.frame) (fSub q.frame) = .obj o) ∧ (o.index < 0xA000) ∧ (o.role ≤ fRole q.frame) ∧ (segOf s (fRole q.frame) = some g) ∧ (g.index = fIndex q.frame) ∧ (g.sub = fSub q.frame) ∧ (g.write = true) ∧ (fOffset q.frame = 0) ∧ (fLen q.frame = 0) ∧ (g.data.length ≠ g.size)) ∧
    (∃ (s : State) (q : FmpReq) (r : List FmpReq),
      (s.fmp.queue = q :: r) ∧ (fmpServes s = true) ∧ (s.fmp.signing = false) ∧ (fCmd q.frame = 8) ∧ (q.via ≠ 2)) ∧
    (∃ (s : State) (q : FmpReq) (r : List FmpReq),
      (s.fmp.queue = q :: r) ∧ (fmpServes s = true) ∧ (s.fmp.signing = false) ∧ (fCmd q.frame = 16) ∧ (q.via ≠ 2) ∧ (2 ≤ fRole q.frame) ∧ (fLen q.frame = 0) ∧ (s.fmp.store = none) ∧ ((sectOf s ((s.fmp.at_ + 1) % 8)).retired = false) ∧ (sectCount s ((s.fmp.at_ + 1) % 8) < 100000)) ∧
    (∃ (s : State) (q : FmpReq) (r : List FmpReq),
      (s.fmp.queue = q :: r) ∧ (fmpServes s = true) ∧ (s.fmp.signing = false) ∧ (fCmd q.frame = 16) ∧ (q.via ≠ 2) ∧ (fRole q.frame < 2)) ∧
    (∃ (s : State) (q : FmpReq) (r : List FmpReq),
      (s.fmp.queue = q :: r) ∧ (fmpServes s = true) ∧ (s.fmp.signing = false) ∧ (fCmd q.frame = 16) ∧ (q.via ≠ 2) ∧ (2 ≤ fRole q.frame) ∧ (fLen q.frame = 0) ∧ (s.fmp.store.isSome = true)) ∧
    (∃ (s : State) (x : Storing) (q : FmpReq),
      (s.fmp.store = some x) ∧ (x.by_ = some q) ∧ (q.via ≠ 2)) ∧
    (∃ (s : State) (x : Storing),
      (s.fmp.store = some x) ∧ (x.again = true)) ∧
    (∃ (s : State) (x : Storing),
      (s.fmp.store = some x) ∧ (x.again = false) ∧ ((sectOf s ((x.sector + 1) % 8)).retired = false) ∧ (x.sector < 8) ∧ (sectCount s ((x.sector + 1) % 8) < 100000) ∧ (((sectOf s ((x.sector + 1) % 8)).count).isSome = true)) ∧
    (∃ (s : State) (good : Bool),
      (s.fmp.store = none)) ∧
    (∃ (s : State) (q : FmpReq) (r : List FmpReq),
      (s.fmp.queue = q :: r) ∧ (fmpServes s = true) ∧ (s.fmp.signing = false) ∧ (fCmd q.frame = 17) ∧ (q.via ≠ 2) ∧ (fRole q.frame < 3)) ∧
    (∃ (s : State) (q : FmpReq) (r : List FmpReq),
      (s.fmp.queue = q :: r) ∧ (fmpServes s = true) ∧ (s.fmp.signing = false) ∧ (fCmd q.frame = 17) ∧ (q.via ≠ 2) ∧ (fRole q.frame = 3) ∧ (fLen q.frame = 0) ∧ (modeIn s 0x14 = false)) :=
  ⟨⟨(State.setFmp ({ State.reset with pw := { State.reset.pw with boot := 5 } }) { queue := [⟨0, 0, ([0x46, 1, 1, 3] ++ leBytes 4 1 ++ List.replicate 8 0 ++ [7, 0] ++ leBytes 2 4113 ++ [2, 0, 0, 0] ++ leBytes 4 0 ++ leBytes 2 0 ++ [0, 0] ++ [] ++ List.replicate 16 0)⟩], segs := [(3, ⟨true, 0x1011, 2, 4, [4, 3, 2, 1], 0⟩)] }), ⟨0, 0, ([0x46, 1, 1, 3] ++ leBytes 4 1 ++ List.replicate 8 0 ++ [7, 0] ++ leBytes 2 4113 ++ [2, 0, 0, 0] ++ leBytes 4 0 ++ leBytes 2 0 ++ [0, 0] ++ [] ++ List.replicate 16 0)⟩, [], ⟨0x1011, 2, 2, 2, 4, 4, .rw, 3, 0x0, true, false, .kept⟩, ⟨true, 0x1011, 2, 4, [4, 3, 2, 1], 0⟩, by decide +kernel⟩,
  ⟨(State.setFmp ({ State.reset with pw := { State.reset.pw with boot := 5 } }) { queue := [⟨0, 0, ([0x46, 1, 1, 3] ++ leBytes 4 1 ++ List.replicate 8 0 ++ [7, 0] ++ leBytes 2 4113 ++ [2, 0, 0, 0] ++ leBytes 4 0 ++ leBytes 2 0 ++ [0, 0] ++ [] ++ List.replicate 16 0)⟩], segs := [(3, ⟨true, 0x1011, 2, 4, [4], 0⟩)] }), ⟨0, 0, ([0x46, 1, 1, 3] ++ leBytes 4 1 ++ List.replicate 8 0 ++ [7, 0] ++ leBytes 2 4113 ++ [2, 0, 0, 0] ++ leBytes 4 0 ++ leBytes 2 0 ++ [0, 0] ++ [] ++ List.replicate 16 0)⟩, [], ⟨0x1011, 2, 2, 2, 4, 4, .rw, 3, 0x0, true, false, .kept⟩, ⟨true, 0x1011, 2, 4, [4], 0⟩, by decide +kernel⟩,
  ⟨(State.setFmp ({ State.reset with pw := { State.reset.pw with boot := 5 } }) { queue := [⟨0, 0, ([0x46, 1, 1, 3] ++ leBytes 4 1 ++ List.replicate 8 0 ++ [8, 0] ++ leBytes 2 0 ++ [0, 0, 0, 0] ++ leBytes 4 0 ++ leBytes 2 0 ++ [0, 0] ++ [] ++ List.replicate 16 0)⟩], segs := [(3, ⟨true, 0x1011, 2, 4, [4], 0⟩)] }), ⟨0, 0, ([0x46, 1, 1, 3] ++ leBytes 4 1 ++ List.replicate 8 0 ++ [8, 0] ++ leBytes 2 0 ++ [0, 0, 0, 0] ++ leBytes 4 0 ++ leBytes 2 0 ++ [0, 0] ++ [] ++ List.replicate 16 0)⟩, [], by decide +kernel⟩,
  ⟨(State.setFmp ({ State.reset with pw := { State.reset.pw with boot := 5 } }) { queue := [⟨0, 0, ([0x46, 1, 1, 3] ++ leBytes 4 1 ++ List.replicate 8 0 ++ [16, 0] ++ leBytes 2 0 ++ [0, 0, 0, 0] ++ leBytes 4 0 ++ leBytes 2 0 ++ [0, 0] ++ [] ++ List.replicate 16 0)⟩] }), ⟨0, 0, ([0x46, 1, 1, 3] ++ leBytes 4 1 ++ List.replicate 8 0 ++ [16, 0] ++ leBytes 2 0 ++ [0, 0, 0, 0] ++ leBytes 4 0 ++ leBytes 2 0 ++ [0, 0] ++ [] ++ List.replicate 16 0)⟩, [], by decide +kernel⟩,
  ⟨(State.setFmp ({ State.reset with pw := { State.reset.pw with boot := 5 } }) { queue := [⟨0, 0, ([0x46, 1, 1, 1] ++ leBytes 4 1 ++ List.replicate 8 0 ++ [16, 0] ++ leBytes 2 0 ++ [0, 0, 0, 0] ++ leBytes 4 0 ++ leBytes 2 0 ++ [0, 0] ++ [] ++ List.replicate 16 0)⟩] }), ⟨0, 0, ([0x46, 1, 1, 1] ++ leBytes 4 1 ++ List.replicate 8 0 ++ [16, 0] ++ leBytes 2 0 ++ [0, 0, 0, 0] ++ leBytes 4 0 ++ leBytes 2 0 ++ [0, 0] ++ [] ++ List.replicate 16 0)⟩, [], by decide +kernel⟩,
  ⟨(State.setFmp ({ State.reset with pw := { State.reset.pw with boot := 5 } }) { queue := [⟨0, 0, ([0x46, 1, 1, 3] ++ leBytes 4 1 ++ List.replicate 8 0 ++ [16, 0] ++ leBytes 2 0 ++ [0, 0, 0, 0] ++ leBytes 4 0 ++ leBytes 2 0 ++ [0, 0] ++ [] ++ List.replicate 16 0)⟩], store := some { by_ := some ⟨0, 0, ([0x46, 1, 1, 3] ++ leBytes 4 1 ++ List.replicate 8 0 ++ [16, 0] ++ leBytes 2 0 ++ [0, 0, 0, 0] ++ leBytes 4 0 ++ leBytes 2 0 ++ [0, 0] ++ [] ++ List.replicate 16 0)⟩, vals := [], sector := 3 } }), ⟨0, 0, ([0x46, 1, 1, 3] ++ leBytes 4 1 ++ List.replicate 8 0 ++ [16, 0] ++ leBytes 2 0 ++ [0, 0, 0, 0] ++ leBytes 4 0 ++ leBytes 2 0 ++ [0, 0] ++ [] ++ List.replicate 16 0)⟩, [], by decide +kernel⟩,
  ⟨State.setFmp ({ State.reset with pw := { State.reset.pw with boot := 5 } }) { store := some { by_ := some ⟨0, 0, ([0x46, 1, 1, 3] ++ leBytes 4 1 ++ List.replicate 8 0 ++ [16, 0] ++ leBytes 2 0 ++ [0, 0, 0, 0] ++ leBytes 4 0 ++ leBytes 2 0 ++ [0, 0] ++ [] ++ List.replicate 16 0)⟩, vals := [], sector := 3 } }, { by_ := some ⟨0, 0, ([0x46, 1, 1, 3] ++ leBytes 4 1 ++ List.replicate 8 0 ++ [16, 0] ++ leBytes 2 0 ++ [0, 0, 0, 0] ++ leBytes 4 0 ++ leBytes 2 0 ++ [0, 0] ++ [] ++ List.replicate 16 0)⟩, vals := [], sector := 3 }, ⟨0, 0, ([0x46, 1, 1, 3] ++ leBytes 4 1 ++ List.replicate 8 0 ++ [16, 0] ++ leBytes 2 0 ++ [0, 0, 0, 0] ++ leBytes 4 0 ++ leBytes 2 0 ++ [0, 0] ++ [] ++ List.replicate 16 0)⟩, by decide +kernel⟩,
  ⟨State.setFmp ({ State.reset with pw := { State.reset.pw with boot := 5 } }) { store := some { by_ := none, vals := [], sector := 3, again := true } }, { by_ := none, vals := [], sector := 3, again := true }, by decide +kernel⟩,
  ⟨State.setFmp ({ State.reset with pw := { State.reset.pw with boot := 5 } }) { store := some { by_ := none, vals := [], sector := 7 } }, { by_ := none, vals := [], sector := 7 }, by decide +kernel⟩,
  ⟨State.reset, true, by decide +kernel⟩,
  ⟨(State.setFmp ({ State.reset with pw := { State.reset.pw with boot := 5 } }) { queue := [⟨0, 0, ([0x46, 1, 1, 2] ++ leBytes 4 1 ++ List.replicate 8 0 ++ [17, 0] ++ leBytes 2 0 ++ [0, 0, 0, 0] ++ leBytes 4 0 ++ leBytes 2 0 ++ [0, 0] ++ [] ++ List.replicate 16 0)⟩] }), ⟨0, 0, ([0x46, 1, 1, 2] ++ leBytes 4 1 ++ List.replicate 8 0 ++ [17, 0] ++ leBytes 2 0 ++ [0, 0, 0, 0] ++ leBytes 4 0 ++ leBytes 2 0 ++ [0, 0] ++ [] ++ List.replicate 16 0)⟩, [], by decide +kernel⟩,
  ⟨(State.setFmp ({ State.reset with pw := { State.reset.pw with boot := 5 } }) { queue := [⟨0, 0, ([0x46, 1, 1, 3] ++ leBytes 4 1 ++ List.replicate 8 0 ++ [17, 0] ++ leBytes 2 0 ++ [0, 0, 0, 0] ++ leBytes 4 0 ++ leBytes 2 0 ++ [0, 0] ++ [] ++ List.replicate 16 0)⟩] }), ⟨0, 0, ([0x46, 1, 1, 3] ++ leBytes 4 1 ++ List.replicate 8 0 ++ [17, 0] ++ leBytes 2 0 ++ [0, 0, 0, 0] ++ leBytes 4 0 ++ leBytes 2 0 ++ [0, 0] ++ [] ++ List.replicate 16 0)⟩, [], by decide +kernel⟩⟩

theorem wit_ManagementProtocol_4 :
    (∃ (s : State) (q : FmpReq) (r : List FmpReq),
      (s.fmp.queue = q :: r) ∧ (fmpServes s = true) ∧ (s.fmp.signing = false) ∧ (fCmd q.frame = 17) ∧ (q.via ≠ 2) ∧ (fRole q.frame = 3) ∧ (fLen q.frame = 0) ∧ (modeIn s 0x14 = true) ∧ (s.fmp.store = none) ∧ (jOn s = false)) ∧
    (∃ (s : State) (q : FmpReq) (r : List FmpReq),
      (s.fmp.queue = q :: r) ∧ (fmpServes s = true) ∧ (s.fmp.signing = false) ∧ (fCmd q.frame = 18) ∧ (q.via ≠ 2) ∧ (fLen q.frame = 0) ∧ (s.trngOk = true)) ∧
    (∃ (s : State) (ip : BitVec 32),
      (fmpServes s = true) ∧ (s.flag Reg.FMP_CTL 0 = true) ∧ (valN s 0x1011 2 0 = ip.toNat) ∧ (ip ≠ 0)) ∧
    (∃ (s : State) (ip : BitVec 32),
      (fmpServes s = false ∨ s.flag Reg.FMP_CTL 0 = false ∨ valN s 0x1011 2 0 ≠ ip.toNat ∨ ip = 0)) ∧
    (∃ (s : State) (ip : BitVec 32) (data : List Byte),
      (fmpServes s = true) ∧ (s.flag Reg.FMP_CTL 0 = true) ∧ (valN s 0x1011 2 0 = ip.toNat) ∧ (ip ≠ 0)) ∧
    (∃ (s : State) (frame : List Byte),
      (spiOn s = true) ∧ (s.fmp.spiRx = none)) ∧
    (∃ (s : State) (frame : List Byte),
      (spiOn s = true) ∧ (s.fmp.spiRx.isSome = true)) ∧
    (∃ (s : State) (frame : List Byte),
      (spiOn s = false)) ∧
    (∃ (s : State),
      (spiOn s = true)) ∧
    (∃ (s : State) (f : List Byte) (l : List (List Byte)),
      (spiOn s = true) ∧ (s.fmp.spi = f :: l)) :=
  ⟨⟨(State.setFmp (State.setFld ({ State.reset with pw := { State.reset.pw with boot := 5 } }) Reg.PWR_MODE 3 0 4) { queue := [⟨0, 0, ([0x46, 1, 1, 3] ++ leBytes 4 1 ++ List.replicate 8 0 ++ [17, 0] ++ leBytes 2 0 ++ [0, 0, 0, 0] ++ leBytes 4 0 ++ leBytes 2 0 ++ [0, 0] ++ [] ++ List.replicate 16 0)⟩] }), ⟨0, 0, ([0x46, 1, 1, 3] ++ leBytes 4 1 ++ List.replicate 8 0 ++ [17, 0] ++ leBytes 2 0 ++ [0, 0, 0, 0] ++ leBytes 4 0 ++ leBytes 2 0 ++ [0, 0] ++ [] ++ List.replicate 16 0)⟩, [], by decide +kernel⟩,
  ⟨(State.setFmp (State.setFlag ({ State.reset with pw := { State.reset.pw with boot := 5 } }) Reg.SEC_STAT 0 true) { queue := [⟨0, 0, ([0x46, 1, 1, 3] ++ leBytes 4 1 ++ List.replicate 8 0 ++ [18, 0] ++ leBytes 2 0 ++ [0, 0, 0, 0] ++ leBytes 4 0 ++ leBytes 2 0 ++ [0, 0] ++ [] ++ List.replicate 16 0)⟩] }), ⟨0, 0, ([0x46, 1, 1, 3] ++ leBytes 4 1 ++ List.replicate 8 0 ++ [18, 0] ++ leBytes 2 0 ++ [0, 0, 0, 0] ++ leBytes 4 0 ++ leBytes 2 0 ++ [0, 0] ++ [] ++ List.replicate 16 0)⟩, [], by decide +kernel⟩,
  ⟨(State.setFmp ({ State.reset with pw := { State.reset.pw with boot := 5 } }) { vals := [(valKey 0x1011 2, [1, 2, 3, 4])] }), 0x04030201#32, by decide +kernel⟩,
  ⟨(State.setFmp ({ State.reset with pw := { State.reset.pw with boot := 5 } }) { vals := [(valKey 0x1011 2, [1, 2, 3, 4])] }), 0#32, by decide +kernel⟩,
  ⟨(State.setFmp ({ State.reset with pw := { State.reset.pw with boot := 5 } }) { vals := [(valKey 0x1011 2, [1, 2, 3, 4])] }), 0x04030201#32, [7], by decide +kernel⟩,
  ⟨(State.setFmp ((State.reset.setFlag Reg.FMP_CTL 1 true).setFlag Reg.PERI_GATE 3 true) {  }), [1], by decide +kernel⟩,
  ⟨(State.setFmp ((State.reset.setFlag Reg.FMP_CTL 1 true).setFlag Reg.PERI_GATE 3 true) { spiRx := some [] }), [1], by decide +kernel⟩,
  ⟨State.reset.setFlag Reg.PERI_GATE 3 false, [1], by decide +kernel⟩,
  ⟨(State.setFmp ((State.reset.setFlag Reg.FMP_CTL 1 true).setFlag Reg.PERI_GATE 3 true) { ovf := true, spi := [[1]] }), by decide +kernel⟩,
  ⟨(State.setFmp ((State.reset.setFlag Reg.FMP_CTL 1 true).setFlag Reg.PERI_GATE 3 true) { spi := [[1, 2]] }), [1, 2], [], by decide +kernel⟩⟩

theorem wit_ModesPowerAndAgeing_1 :
    (∃ (s : State) (mode : BitVec 3) (pull : Bool),
      (inReset s = true) ∧ (s.pw.early = none)) ∧
    (∃ (s : State) (mode : BitVec 3) (pull : Bool),
      (inReset s = true) ∧ (s.pw.early = none)) ∧
    (∃ (s : State) (mode : BitVec 3) (pull rails : Bool),
      (inReset s = false)) ∧
    (∃ (s : State) (x : Nat),
      (inReset s = true) ∧ (s.pw.early = some x) ∧ (x < 16)) ∧
    (∃ (s : State),
      (s.pw.early = none)) ∧
    (∃ (s : State),
      (s.pw.boot = 1) ∧ (s.asyncLatch = false) ∧ (s.pw.oldMute = false) ∧ (0 ∉ s.dbg.rhalt)) ∧
    (∃ (s : State),
      (s.pw.boot ≠ 1)) ∧
    (∃ (s : State) (hzA hzB : Option (BitVec 32)) (cyc : Fin 32768),
      (s.pw.boot ≠ 2)) ∧
    (∃ (s : State) (f : BitVec 32) (cyc : Fin 32768),
      (s.pw.boot = 2) ∧ (0 ∉ s.dbg.halted) ∧ (storeImage s = none) ∧ (oscFits (nearestNominal f.toNat) (some f) = true)) ∧
    (∃ (s : State) (cyc : Fin 32768),
      (s.pw.boot = 2) ∧ (0 ∉ s.dbg.halted) ∧ (storeImage s = none)) ∧
    (∃ (s : State),
      (s.pw.boot = 4) ∧ (0 ∉ s.dbg.halted) ∧ (s.life = 0) ∧ (s.fld Reg.CFG_STRAP 2 0 = 3)) ∧
    (∃ (s : State),
      (s.pw.boot = 4) ∧ (0 ∉ s.dbg.halted) ∧ (s.life ≠ 0) ∧ (s.fld Reg.CFG_STRAP 2 0 = 3) ∧ (s.stored flashBase 4 ≠ [0x4B, 0x46, 0x57, 0x49]) ∧ (s.stored (flashBase + 0x780000) 4 ≠ [0x4B, 0x46, 0x57, 0x49])) :=
  ⟨⟨State.reset, 5, true, by decide +kernel⟩,
  ⟨State.reset, 5, true, by decide +kernel⟩,
  ⟨({ (State.reset) with pw := { (State.reset).pw with boot := 1 } } : State), 5, true, false, by decide +kernel⟩,
  ⟨({ (State.reset) with pw := { (State.reset).pw with early := some 13 } } : State), 13, by decide +kernel⟩,
  ⟨State.reset, by decide +kernel⟩,
  ⟨({ (State.reset) with pw := { (State.reset).pw with boot := 1 } } : State), by decide +kernel⟩,
  ⟨State.reset, by decide +kernel⟩,
  ⟨State.reset, none, none, 0, by decide +kernel⟩,
  ⟨({ (State.reset) with pw := { (State.reset).pw with boot := 2 } } : State), 38400001#32, 16384, by decide +kernel⟩,
  ⟨({ (State.reset) with pw := { (State.reset).pw with boot := 2 } } : State), 3, by decide +kernel⟩,
  ⟨({ (State.reset) with pw := { (State.reset).pw with boot := 4 } } : State).setRegN Reg.SEC_LC 0 |>.setRegN Reg.CFG_STRAP 3, by decide +kernel⟩,
  ⟨({ (State.reset) with pw := { (State.reset).pw with boot := 4 } } : State).setRegN Reg.CFG_STRAP 3, by decide +kernel⟩⟩

theorem wit_ModesPowerAndAgeing_2 :
    (∃ (s : State),
      (s.pw.boot ≠ 4)) ∧
    (∃ (s : State),
      (s.pw.boot ≠ 0)) ∧
    (∃ (s : State),
      (s.pw.boot = 0)) ∧
    (∃ (s : State) (d : Fin 35),
      (s.fld (Reg.PWR_PD_STAT d) 2 0 ≠ 4)) ∧
    (∃ (s : State) (d : Fin 35),
      (s.fld (Reg.PWR_PD_STAT d) 2 0 = 4) ∧ (s.pw.boot ≠ 3) ∧ (20 ≤ d.val) ∧ (s.flag (Reg.PWR_PD_CTL d) 0 = true)) ∧
    (∃ (s : State) (d : Fin 35),
      (s.fld (Reg.PWR_PD_STAT d) 2 0 = 4) ∧ (s.pw.boot ≠ 3) ∧ (20 ≤ d.val) ∧ (s.flag (Reg.PWR_PD_CTL d) 0 = false) ∧ (s.pw.slept = false) ∧ (s.fld Reg.CA_STAT 7 4 = 0)) ∧
    (∃ (s : State) (d : Fin 35),
      (s.fld (Reg.PWR_PD_STAT d) 2 0 = 4) ∧ (s.pw.boot ≠ 3) ∧ (16 ≤ d.val) ∧ (d.val < 20) ∧ (s.flag (Reg.PWR_PD_CTL d) 0 = true)) ∧
    (∃ (s : State) (d e : Fin 35) (r : List Nat),
      (s.fld (Reg.PWR_PD_STAT d) 2 0 = 4) ∧ (s.pw.boot = 3) ∧ (20 ≤ d.val) ∧ (s.pw.seq = d.val :: e.val :: r) ∧ (d.val ∉ e.val :: r)) ∧
    (∃ (s : State) (d : Fin 35),
      (s.fld (Reg.PWR_PD_STAT d) 2 0 = 4) ∧ (s.pw.boot = 3) ∧ (20 ≤ d.val) ∧ (s.pw.seq = [d.val])) ∧
    (∃ (s : State) (d : Fin 35) (v : BitVec 32),
      (v.getLsbD 0 = true) ∧ (mayOff s d = true)) ∧
    (∃ (s : State) (d : Fin 35) (v : BitVec 32),
      (v.getLsbD 0 = true) ∧ (mayOff s d = false)) ∧
    (∃ (s : State) (d : Fin 35) (v : BitVec 32),
      (v.getLsbD 0 = false) ∧ (s.flag (Reg.PWR_PD_CTL d) 0 = true) ∧ (s.fld (Reg.PWR_PD_STAT d) 2 0 = 0)) :=
  ⟨⟨State.reset, by decide +kernel⟩,
  ⟨({ (State.reset) with pw := { (State.reset).pw with boot := 5 } } : State), by decide +kernel⟩,
  ⟨State.reset, by decide +kernel⟩,
  ⟨State.reset, 34, by decide +kernel⟩,
  ⟨(State.reset.setFld (Reg.PWR_PD_STAT 22) 2 0 4).setFlag (Reg.PWR_PD_CTL 22) 0 true, 22, by decide +kernel⟩,
  ⟨(State.reset.setFld (Reg.PWR_PD_STAT 22) 2 0 4), 22, by decide +kernel⟩,
  ⟨(State.reset.setFld (Reg.PWR_PD_STAT 17) 2 0 4).setFlag (Reg.PWR_PD_CTL 17) 0 true, 17, by decide +kernel⟩,
  ⟨({ (State.reset) with pw := { (State.reset).pw with boot := 3, seq := [21, 20, 29] } } : State).setFld (Reg.PWR_PD_STAT 21) 2 0 4, 21, 20, [29], by decide +kernel⟩,
  ⟨({ (State.reset) with pw := { (State.reset).pw with boot := 3, seq := [24] } } : State).setFld (Reg.PWR_PD_STAT 24) 2 0 4, 24, by decide +kernel⟩,
  ⟨State.reset.setFld (Reg.PWR_PD_STAT 24) 2 0 1, 24, 1#32, by decide +kernel⟩,
  ⟨State.reset, 21, 1#32, by decide +kernel⟩,
  ⟨State.reset.setFlag (Reg.PWR_PD_CTL 24) 0 true, 24, 0#32, by decide +kernel⟩⟩

theorem wit_ModesPowerAndAgeing_3 :
    (∃ (s : State) (d : Fin 35) (v : BitVec 32),
      (v.getLsbD 0 = false) ∧ (s.flag (Reg.PWR_PD_CTL d) 0 = false)) ∧
    (∃ (s : State) (v : BitVec 32),
      (v.toNat % 256 = 1) ∧ (s.mode = mCommission) ∧ (ldrPhase s = 0)) ∧
    (∃ (s : State) (v : BitVec 32),
      (v.toNat % 256 = 1) ∧ (s.mode = mSafe) ∧ (s.under = mCommission) ∧ (ldrPhase s = 0)) ∧
    (∃ (s : State) (v : BitVec 32),
      (v.toNat % 256 = 1) ∧ (s.mode ≠ mBackup) ∧ (releaseOk s = false)) ∧
    (∃ (s : State) (v : BitVec 32),
      (v.toNat % 256 = 2) ∧ (mAcquire ≤ s.mode) ∧ (s.mode ≤ mFreerun)) ∧
    (∃ (s : State) (v : BitVec 32),
      (v.toNat % 256 = 2) ∧ (s.mode ≠ mBackup) ∧ (recommOk s = false)) ∧
    (∃ (s : State) (v : BitVec 32),
      (v.toNat % 256 = 4) ∧ (s.mode = mSafe) ∧ (s.canRelease = true) ∧ (s.under ≠ mSafe)) ∧
    (∃ (s : State) (v : BitVec 32),
      (v.toNat % 256 = 4) ∧ (s.mode ≠ mBackup) ∧ (leaveOk s = false)) ∧
    (∃ (s : State) (v : BitVec 32),
      (v.toNat % 256 = 8) ∧ (stableOk s = true)) ∧
    (∃ (s : State) (v : BitVec 32),
      (v.toNat % 256 = 8) ∧ (s.mode ≠ mBackup) ∧ (stableOk s = false)) ∧
    (∃ (s : State) (v : BitVec 32),
      (v.toNat % 256 = 16) ∧ (s.mode ≠ mBackup) ∧ (stblPhase s = 1)) ∧
    (∃ (s : State) (v : BitVec 32),
      (v.toNat % 256 = 32) ∧ (s.mode = mStable)) :=
  ⟨⟨State.reset, 24, 0#32, by decide +kernel⟩,
  ⟨((State.reset).setFld Reg.PWR_MODE 7 0 68), 1#32, by decide +kernel⟩,
  ⟨((State.reset).setFld Reg.PWR_MODE 7 0 75), 1#32, by decide +kernel⟩,
  ⟨((State.reset).setFld Reg.PWR_MODE 7 0 34), 1#32, by decide +kernel⟩,
  ⟨((State.reset).setFld Reg.PWR_MODE 7 0 102), 2#32, by decide +kernel⟩,
  ⟨((State.reset).setFld Reg.PWR_MODE 7 0 68), 2#32, by decide +kernel⟩,
  ⟨((State.reset).setFld Reg.PWR_MODE 7 0 107).setFlag Reg.OUT_STAT 1 true, 4#32, by decide +kernel⟩,
  ⟨((State.reset).setFld Reg.PWR_MODE 7 0 107), 4#32, by decide +kernel⟩,
  ⟨((((State.reset).setFld Reg.PWR_MODE 7 0 102)).setRegN Reg.PWR_STBL_ENTER 100), 8#32, by decide +kernel⟩,
  ⟨((State.reset).setFld Reg.PWR_MODE 7 0 102), 8#32, by decide +kernel⟩,
  ⟨((State.reset).setFld Reg.PWR_MODE 7 0 102).setRegN Reg.PWR_STBL_STAT 1, 16#32, by decide +kernel⟩,
  ⟨((State.reset).setFld Reg.PWR_MODE 7 0 153), 32#32, by decide +kernel⟩⟩

theorem wit_ModesPowerAndAgeing_4 :
    (∃ (s : State) (v : BitVec 32),
      (v.toNat % 256 = 64) ∧ (s.mode ≠ mBackup)) ∧
    (∃ (s : State) (v : BitVec 32),
      (v.toNat % 256 = 128) ∧ (s.mode ≠ mBackup) ∧ (∀ k, k < 8 → railOn s k = false)) ∧
    (∃ (s : State) (v : BitVec 32) (k : Fin 8),
      (v.toNat % 256 = 128) ∧ (s.mode ≠ mBackup) ∧ ((List.range 8).filter (railOn s) = [k.val])) ∧
    (∃ (s : State),
      (stblPhase s ≠ 1 ∨ ptReached s.pt s.pw.enterAt = false)) ∧
    (∃ (s : State),
      (stblPhase s = 1) ∧ (ptReached s.pt s.pw.enterAt = true) ∧ (stblFrom s = true)) ∧
    (∃ (s : State),
      (stblPhase s = 1) ∧ (ptReached s.pt s.pw.enterAt = true) ∧ (stblFrom s = false)) ∧
    (∃ (s : State),
      (s.mode = mStable) ∧ (stblPhase s = 2) ∧ (s.flag Reg.CA_STAT 8 = false) ∧ (s.imp.buf = [])) ∧
    (∃ (s : State),
      (s.mode ≠ mStable ∨ stblPhase s ≠ 2 ∨ s.flag Reg.CA_STAT 8 = true)) ∧
    (∃ (s : State),
      (s.mode = mStable) ∧ (stblPhase s = 2 ∨ stblPhase s = 3) ∧ (ptReached s.pt ((s.pw.enterAt + 2048) % 2 ^ 32) = true) ∧ (s.pw.wakeNow = true)) ∧
    (∃ (s : State) (w : Nat),
      (s.mode = mStable) ∧ (stblPhase s = 2 ∨ stblPhase s = 3) ∧ (ptReached s.pt ((s.pw.enterAt + 2048) % 2 ^ 32) = true) ∧ (s.pw.wakeAt = some w) ∧ (ptReached s.pt w = true)) ∧
    (∃ (s : State) (cause : Fin 4),
      (s.mode ≠ mStable ∨ stblPhase s = 4)) ∧
    (∃ (s : State),
      (stblPhase s ≠ 4)) :=
  ⟨⟨((State.reset).setFld Reg.PWR_MODE 7 0 102), 64#32, by decide +kernel⟩,
  ⟨((State.reset).setFld Reg.PWR_MODE 7 0 102), 128#32, by decide +kernel⟩,
  ⟨((State.reset).setFld Reg.PWR_MODE 7 0 102).setFlag (Reg.AVS_RAIL_CFG 7) 16 true, 128#32, 7, by decide +kernel⟩,
  ⟨State.reset, by decide +kernel⟩,
  ⟨((State.reset).setFld Reg.PWR_MODE 7 0 102).setRegN Reg.PWR_STBL_STAT 1 |>.setFld Reg.TL_STATE 2 0 2, by decide +kernel⟩,
  ⟨((State.reset).setFld Reg.PWR_MODE 7 0 102).setRegN Reg.PWR_STBL_STAT 1, by decide +kernel⟩,
  ⟨((State.reset).setFld Reg.PWR_MODE 7 0 153).setRegN Reg.PWR_STBL_STAT 2, by decide +kernel⟩,
  ⟨State.reset, by decide +kernel⟩,
  ⟨({ (((({ State.reset with tim := { State.reset.tim with tl := 3000 * tickUnit } } : State)).setFld Reg.PWR_MODE 7 0 153).setRegN Reg.PWR_STBL_STAT 3) with pw := { (((({ State.reset with tim := { State.reset.tim with tl := 3000 * tickUnit } } : State)).setFld Reg.PWR_MODE 7 0 153).setRegN Reg.PWR_STBL_STAT 3).pw with wakeNow := true } } : State), by decide +kernel⟩,
  ⟨({ (((({ State.reset with tim := { State.reset.tim with tl := 3000 * tickUnit } } : State)).setFld Reg.PWR_MODE 7 0 153).setRegN Reg.PWR_STBL_STAT 3) with pw := { (((({ State.reset with tim := { State.reset.tim with tl := 3000 * tickUnit } } : State)).setFld Reg.PWR_MODE 7 0 153).setRegN Reg.PWR_STBL_STAT 3).pw with wakeAt := some 2900 } } : State), 2900, by decide +kernel⟩,
  ⟨State.reset, 2, by decide +kernel⟩,
  ⟨State.reset, by decide +kernel⟩⟩

theorem wit_ModesPowerAndAgeing_5 :
    (∃ (s : State),
      (stblPhase s = 4) ∧ (s.pw.slept = false) ∧ (s.fld Reg.CA_STAT 7 4 = 0) ∧ (s.flag Reg.CA_STAT 8 = false)) ∧
    (∃ (s : State),
      (stblPhase s = 4) ∧ (s.pw.slept = false) ∧ (s.fld Reg.CA_STAT 7 4 = 0) ∧ (s.flag Reg.CA_STAT 8 = true)) ∧
    (∃ (s : State),
      (stblPhase s = 4) ∧ (s.pw.slept = false) ∧ (s.fld Reg.CA_STAT 7 4 = 0) ∧ (s.flag Reg.OUT_CAUSE 15 = false) ∧ (s.mode = mStable)) ∧
    (∃ (s : State),
      (stblPhase s = 4) ∧ (s.pw.slept = false) ∧ (s.fld Reg.CA_STAT 7 4 = 0) ∧ (s.flag Reg.OUT_CAUSE 15 = true) ∧ (s.mode = mStable)) ∧
    (∃ (s : State),
      (stblPhase s ≠ 4)) ∧
    (∃ (s : State) (c : Fin 592) (v bad : BitVec 8) (k : Fin 8),
      ((List.range 8).filter (railOn s) = [k.val]) ∧ (s.flag Reg.AVS_CFG 0 = true) ∧ (feeds s k (canaryDom c) = true) ∧ (s.fld (Reg.PWR_PD_STAT (canaryDom c)) 2 0 = 1) ∧ (railActs s k = true) ∧ (bad.getLsbD k = false) ∧ (v.toNat < s.fld (Reg.AVS_RAIL_SLACK k) 7 0) ∧ (v ≠ 0) ∧ (s.flag Reg.OUT_CAUSE 14 = false)) ∧
    (∃ (s : State) (c : Fin 592) (v bad : BitVec 8) (k : Fin 8),
      ((List.range 8).filter (railOn s) = [k.val]) ∧ (s.flag Reg.AVS_CFG 0 = true) ∧ (bad.getLsbD k = true) ∧ (s.flag Reg.OUT_CAUSE 14 = false)) ∧
    (∃ (s : State) (codes : List (Fin 592 × BitVec 8)) (bad : BitVec 8),
      (s.flag Reg.AVS_CFG 0 = false)) ∧
    (∃ (s : State) (c : Fin 592) (k : Fin 8),
      ((List.range 8).find? (fun k => railOn s k && feeds s k (canaryDom c)) = some k.val) ∧ (s.flag Reg.AVS_CFG 0 = true) ∧ (feeds s k (canaryDom c) = true) ∧ (s.fld (Reg.PWR_PD_STAT (canaryDom c)) 2 0 = 1) ∧ (railActs s k = true)) ∧
    (∃ (s : State) (c : Fin 592),
      (s.flag Reg.AVS_CFG 0 = false)) ∧
    (∃ (s : State) (bad : BitVec 8),
      (s.flag Reg.AVS_CFG 1 = true)) ∧
    (∃ (s : State) (bad : BitVec 8),
      (s.flag Reg.AVS_CFG 1 = false) ∧ (bad = 0)) :=
  ⟨⟨({ (((State.reset).setFld Reg.PWR_MODE 7 0 153).setRegN Reg.PWR_STBL_STAT 4) with pw := { (((State.reset).setFld Reg.PWR_MODE 7 0 153).setRegN Reg.PWR_STBL_STAT 4).pw with gated := true } } : State), by decide +kernel⟩,
  ⟨((State.reset).setFld Reg.PWR_MODE 7 0 153).setRegN Reg.PWR_STBL_STAT 4 |>.setFlag Reg.CA_STAT 8 true, by decide +kernel⟩,
  ⟨((State.reset).setFld Reg.PWR_MODE 7 0 153).setRegN Reg.PWR_STBL_STAT 4, by decide +kernel⟩,
  ⟨((State.reset).setFld Reg.PWR_MODE 7 0 153).setRegN Reg.PWR_STBL_STAT 4 |>.setFlag Reg.OUT_CAUSE 15 true, by decide +kernel⟩,
  ⟨State.reset, by decide +kernel⟩,
  ⟨((State.reset.setFlag Reg.AVS_CFG 0 true).setFlag (Reg.AVS_RAIL_CFG 3) 16 true).setRegN (Reg.AVS_RAIL_MASK 3) 0x20000 |>.setFld (Reg.PWR_PD_STAT 17) 2 0 1 |>.setFld (Reg.AVS_RAIL_V 3) 9 0 800 |>.setRegN (Reg.AVS_RAIL_SLACK 3) 0xC06, 581, 3#8, 0#8, 3, by decide +kernel⟩,
  ⟨((State.reset.setFlag Reg.AVS_CFG 0 true).setFlag (Reg.AVS_RAIL_CFG 3) 16 true).setRegN (Reg.AVS_RAIL_MASK 3) 0x20000 |>.setFld (Reg.PWR_PD_STAT 17) 2 0 1 |>.setFld (Reg.AVS_RAIL_V 3) 9 0 800 |>.setRegN (Reg.AVS_RAIL_SLACK 3) 0xC06, 581, 3#8, 8#8, 3, by decide +kernel⟩,
  ⟨State.reset, [(3, 4)], 0, by decide +kernel⟩,
  ⟨((State.reset.setFlag Reg.AVS_CFG 0 true).setFlag (Reg.AVS_RAIL_CFG 3) 16 true).setRegN (Reg.AVS_RAIL_MASK 3) 0x20000 |>.setFld (Reg.PWR_PD_STAT 17) 2 0 1 |>.setFld (Reg.AVS_RAIL_V 3) 9 0 800 |>.setRegN (Reg.AVS_RAIL_SLACK 3) 0xC06, 581, 3, by decide +kernel⟩,
  ⟨State.reset, 5, by decide +kernel⟩,
  ⟨State.reset.setFlag Reg.AVS_CFG 1 true, 1#8, by decide +kernel⟩,
  ⟨State.reset, 0#8, by decide +kernel⟩⟩

theorem wit_ModesPowerAndAgeing_6 :
    (∃ (s : State) (k : Fin 8) (v : BitVec 32) (lin : Bool),
      (s.mode ≠ mBlank) ∧ (s.mode ≠ mCommission)) ∧
    (∃ (s : State) (k : Fin 8) (v : BitVec 32) (lin : Bool),
      (s.mode = mBlank ∨ s.mode = mCommission) ∧ (v.getLsbD 16 = true) ∧ (railBad (s.setRegN (Reg.AVS_RAIL_CFG k) (Nat.land v.toNat 0xFF7F)) k lin = false)) ∧
    (∃ (s : State) (k : Fin 8) (v : BitVec 32) (lin : Bool),
      (s.mode = mBlank ∨ s.mode = mCommission) ∧ (v.getLsbD 16 = true) ∧ (railBad (s.setRegN (Reg.AVS_RAIL_CFG k) (Nat.land v.toNat 0xFF7F)) k lin = true)) ∧
    (∃ (s : State) (i : Fin 24) (f r : BitVec 32),
      (s.fld (Reg.PWR_PD_STAT (pairDom i)) 2 0 = 1) ∧ (r ≠ 0)) ∧
    (∃ (s : State),
      (s.pw.since < s.fld Reg.AGE_CFG 15 0)) ∧
    (∃ (s : State),
      (s.fld Reg.AGE_CFG 15 0 ≤ s.pw.since) ∧ (∀ k, k < 8 → railOn s k = false)) :=
  ⟨⟨State.reset, 7, 0x10000#32, true, by decide +kernel⟩,
  ⟨((State.reset).setFld Reg.PWR_MODE 7 0 34), 7, 0x10012#32, true, by decide +kernel⟩,
  ⟨((State.reset).setFld Reg.PWR_MODE 7 0 34), 7, 0x10012#32, false, by decide +kernel⟩,
  ⟨State.reset.setFld (Reg.PWR_PD_STAT 31) 2 0 1, 23, 995#32, 1000#32, by decide +kernel⟩,
  ⟨State.reset.setRegN Reg.AGE_CFG 5, by decide +kernel⟩,
  ⟨({ (State.reset) with pw := { (State.reset).pw with since := 9 } } : State).setRegN Reg.AGE_CFG 5, by decide +kernel⟩⟩

theorem wit_SecurityAndLifeCycle_1 :
    (∃ (s : State) (b : List Byte),
      (cmdBytes s = b) ∧ (s.flag Reg.SEC_CMD_STAT 0 = false) ∧ (slice b 0 4 = [0x4B, 0x4F, 0x43, 0x4D]) ∧ (allZero (slice b 0x40 64) = true) ∧ (slice b 16 16 = otpBytes s 0x20 16) ∧ (fieldLe b 8 8 = secNonce s) ∧ (fieldLe b 4 1 = 1) ∧ (cmdState s 1 = true) ∧ (cmdArgs s 1 (fieldLe b 6 1) (fieldLe b 7 1) (slice b 0x20 32) = true)) ∧
    (∃ (s : State) (b : List Byte),
      (cmdBytes s = b) ∧ (s.flag Reg.SEC_CMD_STAT 0 = true) ∧ (fieldLe b 4 1 = 1)) ∧
    (∃ (s : State) (b : List Byte),
      (cmdBytes s = b) ∧ (s.flag Reg.SEC_CMD_STAT 0 = false) ∧ (fieldLe b 4 1 = 1) ∧ (slice b 0 4 ≠ [0x4B, 0x4F, 0x43, 0x4D])) ∧
    (∃ (s : State) (b : List Byte),
      (cmdBytes s = b) ∧ (fieldLe b 4 1 ≠ 1)) ∧
    (∃ (s : State) (b : List Byte),
      (cmdBytes s = b) ∧ (s.flag Reg.SEC_CMD_STAT 0 = false) ∧ (slice b 0 4 = [0x4B, 0x4F, 0x43, 0x4D]) ∧ (allZero (slice b 0x40 64) = true) ∧ (fieldLe b 4 1 = 6) ∧ (fieldLe b 8 8 ≠ secNonce s)) ∧
    (∃ (s : State) (b : List Byte),
      (cmdBytes s = b) ∧ (s.flag Reg.SEC_CMD_STAT 0 = false) ∧ (slice b 0 4 = [0x4B, 0x4F, 0x43, 0x4D]) ∧ (allZero (slice b 0x40 64) = true) ∧ (slice b 16 16 = otpBytes s 0x20 16) ∧ (fieldLe b 8 8 = secNonce s) ∧ (fieldLe b 4 1 = 4) ∧ (cmdState s 4 = false)) ∧
    (∃ (s : State) (b : List Byte),
      (cmdBytes s = b) ∧ (s.flag Reg.SEC_CMD_STAT 0 = false) ∧ (slice b 0 4 = [0x4B, 0x4F, 0x43, 0x4D]) ∧ (allZero (slice b 0x40 64) = true) ∧ (slice b 16 16 = otpBytes s 0x20 16) ∧ (fieldLe b 8 8 = secNonce s) ∧ (fieldLe b 4 1 = 2) ∧ (cmdState s 2 = true) ∧ (cmdArgs s 2 (fieldLe b 6 1) (fieldLe b 7 1) (slice b 0x20 32) = true)) ∧
    (∃ (s : State) (b : List Byte),
      (cmdBytes s = b) ∧ (s.flag Reg.SEC_CMD_STAT 0 = false) ∧ (slice b 0 4 = [0x4B, 0x4F, 0x43, 0x4D]) ∧ (allZero (slice b 0x40 64) = true) ∧ (slice b 16 16 = otpBytes s 0x20 16) ∧ (fieldLe b 8 8 = secNonce s) ∧ (fieldLe b 4 1 = 3) ∧ (cmdState s 3 = true) ∧ (cmdArgs s 3 (fieldLe b 6 1) (fieldLe b 7 1) (slice b 0x20 32) = true)) ∧
    (∃ (s : State) (b : List Byte),
      (cmdBytes s = b) ∧ (s.flag Reg.SEC_CMD_STAT 0 = false) ∧ (slice b 0 4 = [0x4B, 0x4F, 0x43, 0x4D]) ∧ (allZero (slice b 0x40 64) = true) ∧ (slice b 16 16 = otpBytes s 0x20 16) ∧ (fieldLe b 8 8 = secNonce s) ∧ (fieldLe b 4 1 = 4) ∧ (cmdState s 4 = true) ∧ (cmdArgs s 4 (fieldLe b 6 1) (fieldLe b 7 1) (slice b 0x20 32) = true)) ∧
    (∃ (s : State) (b : List Byte),
      (cmdBytes s = b) ∧ (s.flag Reg.SEC_CMD_STAT 0 = false) ∧ (slice b 0 4 = [0x4B, 0x4F, 0x43, 0x4D]) ∧ (allZero (slice b 0x40 64) = true) ∧ (slice b 16 16 = otpBytes s 0x20 16) ∧ (fieldLe b 8 8 = secNonce s) ∧ (fieldLe b 4 1 = 5) ∧ (cmdState s 5 = true) ∧ (cmdArgs s 5 (fieldLe b 6 1) (fieldLe b 7 1) (slice b 0x20 32) = true)) ∧
    (∃ (s : State) (b : List Byte),
      (cmdBytes s = b) ∧ (s.flag Reg.SEC_CMD_STAT 0 = false) ∧ (slice b 0 4 = [0x4B, 0x4F, 0x43, 0x4D]) ∧ (allZero (slice b 0x40 64) = true) ∧ (slice b 16 16 = otpBytes s 0x20 16) ∧ (fieldLe b 8 8 = secNonce s) ∧ (fieldLe b 4 1 = 6) ∧ (cmdState s 6 = true) ∧ (cmdArgs s 6 (fieldLe b 6 1) (fieldLe b 7 1) (slice b 0x20 32) = true)) ∧
    (∃ (s : State) (b : List Byte),
      (cmdBytes s = b) ∧ (s.flag Reg.SEC_CMD_STAT 0 = false) ∧ (slice b 0 4 = [0x4B, 0x4F, 0x43, 0x4D]) ∧ (allZero (slice b 0x40 64) = true) ∧ (slice b 16 16 = otpBytes s 0x20 16) ∧ (fieldLe b 8 8 = secNonce s) ∧ (fieldLe b 4 1 = 7) ∧ (cmdState s 7 = true) ∧ (cmdArgs s 7 (fieldLe b 6 1) (fieldLe b 7 1) (slice b 0x20 32) = true)) :=
  ⟨⟨((((State.reset).setRegN Reg.SEC_LC 1).setRegN (Reg.SEC_CMD_BUF 0) 0x4D434F4B).setRegN (Reg.SEC_CMD_BUF 1) 131073).setRegN (Reg.SEC_CMD_BUF 8) 9, cmdBytes (((((State.reset).setRegN Reg.SEC_LC 1).setRegN (Reg.SEC_CMD_BUF 0) 0x4D434F4B).setRegN (Reg.SEC_CMD_BUF 1) 131073).setRegN (Reg.SEC_CMD_BUF 8) 9), rfl, by decide +kernel, by decide +kernel, by decide +kernel, by decide +kernel, by decide +kernel, by decide +kernel, by decide +kernel, by decide +kernel⟩,
  ⟨((((State.reset).setRegN Reg.SEC_LC 1).setRegN (Reg.SEC_CMD_BUF 0) 0x4D434F4B).setRegN (Reg.SEC_CMD_BUF 1) 1).setRegN (Reg.SEC_CMD_BUF 8) 0 |>.setFlag Reg.SEC_CMD_STAT 0 true, cmdBytes (((((State.reset).setRegN Reg.SEC_LC 1).setRegN (Reg.SEC_CMD_BUF 0) 0x4D434F4B).setRegN (Reg.SEC_CMD_BUF 1) 1).setRegN (Reg.SEC_CMD_BUF 8) 0 |>.setFlag Reg.SEC_CMD_STAT 0 true), rfl, by decide +kernel, by decide +kernel⟩,
  ⟨State.reset.setRegN (Reg.SEC_CMD_BUF 1) 1, cmdBytes (State.reset.setRegN (Reg.SEC_CMD_BUF 1) 1), rfl, by decide +kernel, by decide +kernel, by decide +kernel⟩,
  ⟨((((State.reset).setRegN Reg.SEC_LC 1).setRegN (Reg.SEC_CMD_BUF 0) 0x4D434F4B).setRegN (Reg.SEC_CMD_BUF 1) 2).setRegN (Reg.SEC_CMD_BUF 8) 0, cmdBytes (((((State.reset).setRegN Reg.SEC_LC 1).setRegN (Reg.SEC_CMD_BUF 0) 0x4D434F4B).setRegN (Reg.SEC_CMD_BUF 1) 2).setRegN (Reg.SEC_CMD_BUF 8) 0), rfl, by decide +kernel⟩,
  ⟨((((State.reset).setRegN Reg.SEC_LC 1).setRegN (Reg.SEC_CMD_BUF 0) 0x4D434F4B).setRegN (Reg.SEC_CMD_BUF 1) 6).setRegN (Reg.SEC_CMD_BUF 8) 0 |>.setRegN Reg.SEC_NONCE_LO 5, cmdBytes (((((State.reset).setRegN Reg.SEC_LC 1).setRegN (Reg.SEC_CMD_BUF 0) 0x4D434F4B).setRegN (Reg.SEC_CMD_BUF 1) 6).setRegN (Reg.SEC_CMD_BUF 8) 0 |>.setRegN Reg.SEC_NONCE_LO 5), rfl, by decide +kernel, by decide +kernel, by decide +kernel, by decide +kernel, by decide +kernel⟩,
  ⟨((((State.reset).setRegN Reg.SEC_LC 1).setRegN (Reg.SEC_CMD_BUF 0) 0x4D434F4B).setRegN (Reg.SEC_CMD_BUF 1) 4).setRegN (Reg.SEC_CMD_BUF 8) 0, cmdBytes (((((State.reset).setRegN Reg.SEC_LC 1).setRegN (Reg.SEC_CMD_BUF 0) 0x4D434F4B).setRegN (Reg.SEC_CMD_BUF 1) 4).setRegN (Reg.SEC_CMD_BUF 8) 0), rfl, by decide +kernel, by decide +kernel, by decide +kernel, by decide +kernel, by decide +kernel, by decide +kernel, by decide +kernel⟩,
  ⟨((((State.setSec State.reset { otp := [(9, 3), (10, 3), (11, 3)] }).setRegN Reg.SEC_LC 2).setRegN (Reg.SEC_CMD_BUF 0) 0x4D434F4B).setRegN (Reg.SEC_CMD_BUF 1) 65538).setRegN (Reg.SEC_CMD_BUF 8) 0, cmdBytes (((((State.setSec State.reset { otp := [(9, 3), (10, 3), (11, 3)] }).setRegN Reg.SEC_LC 2).setRegN (Reg.SEC_CMD_BUF 0) 0x4D434F4B).setRegN (Reg.SEC_CMD_BUF 1) 65538).setRegN (Reg.SEC_CMD_BUF 8) 0), rfl, by decide +kernel, by decide +kernel, by decide +kernel, by decide +kernel, by decide +kernel, by decide +kernel, by decide +kernel, by decide +kernel⟩,
  ⟨((((State.setSec State.reset { otp := [(9, 1), (10, 1), (11, 1)] }).setRegN Reg.SEC_LC 1).setRegN (Reg.SEC_CMD_BUF 0) 0x4D434F4B).setRegN (Reg.SEC_CMD_BUF 1) 3).setRegN (Reg.SEC_CMD_BUF 8) 0, cmdBytes (((((State.setSec State.reset { otp := [(9, 1), (10, 1), (11, 1)] }).setRegN Reg.SEC_LC 1).setRegN (Reg.SEC_CMD_BUF 0) 0x4D434F4B).setRegN (Reg.SEC_CMD_BUF 1) 3).setRegN (Reg.SEC_CMD_BUF 8) 0), rfl, by decide +kernel, by decide +kernel, by decide +kernel, by decide +kernel, by decide +kernel, by decide +kernel, by decide +kernel, by decide +kernel⟩,
  ⟨((((State.reset).setRegN Reg.SEC_LC 2).setRegN (Reg.SEC_CMD_BUF 0) 0x4D434F4B).setRegN (Reg.SEC_CMD_BUF 1) 4).setRegN (Reg.SEC_CMD_BUF 8) 0, cmdBytes (((((State.reset).setRegN Reg.SEC_LC 2).setRegN (Reg.SEC_CMD_BUF 0) 0x4D434F4B).setRegN (Reg.SEC_CMD_BUF 1) 4).setRegN (Reg.SEC_CMD_BUF 8) 0), rfl, by decide +kernel, by decide +kernel, by decide +kernel, by decide +kernel, by decide +kernel, by decide +kernel, by decide +kernel, by decide +kernel⟩,
  ⟨((((State.reset).setRegN Reg.SEC_LC 3).setRegN (Reg.SEC_CMD_BUF 0) 0x4D434F4B).setRegN (Reg.SEC_CMD_BUF 1) 5).setRegN (Reg.SEC_CMD_BUF 8) 0, cmdBytes (((((State.reset).setRegN Reg.SEC_LC 3).setRegN (Reg.SEC_CMD_BUF 0) 0x4D434F4B).setRegN (Reg.SEC_CMD_BUF 1) 5).setRegN (Reg.SEC_CMD_BUF 8) 0), rfl, by decide +kernel, by decide +kernel, by decide +kernel, by decide +kernel, by decide +kernel, by decide +kernel, by decide +kernel, by decide +kernel⟩,
  ⟨((((State.reset).setRegN Reg.SEC_LC 4).setRegN (Reg.SEC_CMD_BUF 0) 0x4D434F4B).setRegN (Reg.SEC_CMD_BUF 1) 6).setRegN (Reg.SEC_CMD_BUF 8) 0, cmdBytes (((((State.reset).setRegN Reg.SEC_LC 4).setRegN (Reg.SEC_CMD_BUF 0) 0x4D434F4B).setRegN (Reg.SEC_CMD_BUF 1) 6).setRegN (Reg.SEC_CMD_BUF 8) 0), rfl, by decide +kernel, by decide +kernel, by decide +kernel, by decide +kernel, by decide +kernel, by decide +kernel, by decide +kernel, by decide +kernel⟩,
  ⟨((((State.reset).setRegN Reg.SEC_LC 1).setRegN (Reg.SEC_CMD_BUF 0) 0x4D434F4B).setRegN (Reg.SEC_CMD_BUF 1) 458759).setRegN (Reg.SEC_CMD_BUF 8) 3, cmdBytes (((((State.reset).setRegN Reg.SEC_LC 1).setRegN (Reg.SEC_CMD_BUF 0) 0x4D434F4B).setRegN (Reg.SEC_CMD_BUF 1) 458759).setRegN (Reg.SEC_CMD_BUF 8) 3), rfl, by decide +kernel, by decide +kernel, by decide +kernel, by decide +kernel, by decide +kernel, by decide +kernel, by decide +kernel, by decide +kernel⟩⟩

theorem wit_SecurityAndLifeCycle_2 :
    (∃ (s : State) (b : List Byte),
      (cmdBytes s = b) ∧ (s.flag Reg.SEC_CMD_STAT 0 = false) ∧ (slice b 0 4 = [0x4B, 0x4F, 0x43, 0x4D]) ∧ (allZero (slice b 0x40 64) = true) ∧ (slice b 16 16 = otpBytes s 0x20 16) ∧ (fieldLe b 8 8 = secNonce s) ∧ (fieldLe b 4 1 = 8) ∧ (cmdState s 8 = true) ∧ (cmdArgs s 8 (fieldLe b 6 1) (fieldLe b 7 1) (slice b 0x20 32) = true)) ∧
    (∃ (s : State) (b : List Byte),
      (cmdBytes s = b) ∧ (s.flag Reg.SEC_CMD_STAT 0 = false) ∧ (slice b 0 4 = [0x4B, 0x4F, 0x43, 0x4D]) ∧ (allZero (slice b 0x40 64) = true) ∧ (slice b 16 16 = otpBytes s 0x20 16) ∧ (fieldLe b 8 8 = secNonce s) ∧ (fieldLe b 4 1 = 9) ∧ (cmdState s 9 = true) ∧ (cmdArgs s 9 (fieldLe b 6 1) (fieldLe b 7 1) (slice b 0x20 32) = true) ∧ (s.trngOk = true) ∧ (s.sec.keygen = none)) ∧
    (∃ (s : State) (b : List Byte),
      (cmdBytes s = b) ∧ (s.flag Reg.SEC_CMD_STAT 0 = false) ∧ (slice b 0 4 = [0x4B, 0x4F, 0x43, 0x4D]) ∧ (allZero (slice b 0x40 64) = true) ∧ (slice b 16 16 = otpBytes s 0x20 16) ∧ (fieldLe b 8 8 = secNonce s) ∧ (fieldLe b 4 1 = 10) ∧ (cmdState s 10 = true) ∧ (cmdArgs s 10 (fieldLe b 6 1) (fieldLe b 7 1) (slice b 0x20 32) = true)) ∧
    (∃ (s : State) (g : Nat),
      (s.sec.keygen = some g)) ∧
    (∃ (s : State) (fail : Bool),
      (s.sec.keygen = none)) ∧
    (∃ (s : State),
      (s.flag Reg.SEC_STAT 2 = true) ∧ (s.pw.boot = 5)) ∧
    (∃ (s : State),
      (s.flag Reg.SEC_STAT 2 = false)) ∧
    (∃ (s : State) (v : BitVec 32),
      (bitsOf v.toNat 1 0 = 0) ∧ (bitsOf v.toNat 5 4 = 2) ∧ (keyBusy s 2 (bitsOf v.toNat 13 8) = false) ∧ (s.trngOk = true)) ∧
    (∃ (s : State) (v : BitVec 32),
      (bitsOf v.toNat 1 0 = 0) ∧ (bitsOf v.toNat 5 4 = 0) ∧ (1 ≤ bitsOf v.toNat 13 8) ∧ (bitsOf v.toNat 13 8 ≤ 3) ∧ (s.trngOk = true)) ∧
    (∃ (s : State) (v : BitVec 32),
      (bitsOf v.toNat 1 0 = 0) ∧ (bitsOf v.toNat 5 4 = 2) ∧ (keyBusy s 2 (bitsOf v.toNat 13 8) = true)) ∧
    (∃ (s : State) (v : BitVec 32),
      (bitsOf v.toNat 1 0 = 0) ∧ (keyPlace (bitsOf v.toNat 5 4) (bitsOf v.toNat 13 8) = false)) ∧
    (∃ (s : State) (v : BitVec 32),
      (bitsOf v.toNat 1 0 = 1) ∧ (bitsOf v.toNat 5 4 = 1) ∧ (bitsOf v.toNat 13 8 = 0)) :=
  ⟨⟨((((State.reset).setRegN Reg.SEC_LC 3).setRegN (Reg.SEC_CMD_BUF 0) 0x4D434F4B).setRegN (Reg.SEC_CMD_BUF 1) 33554440).setRegN (Reg.SEC_CMD_BUF 8) 0, cmdBytes (((((State.reset).setRegN Reg.SEC_LC 3).setRegN (Reg.SEC_CMD_BUF 0) 0x4D434F4B).setRegN (Reg.SEC_CMD_BUF 1) 33554440).setRegN (Reg.SEC_CMD_BUF 8) 0), rfl, by decide +kernel, by decide +kernel, by decide +kernel, by decide +kernel, by decide +kernel, by decide +kernel, by decide +kernel, by decide +kernel⟩,
  ⟨((((State.reset.setFlag Reg.SEC_STAT 0 true).setRegN Reg.SEC_LC 1).setRegN (Reg.SEC_CMD_BUF 0) 0x4D434F4B).setRegN (Reg.SEC_CMD_BUF 1) 9).setRegN (Reg.SEC_CMD_BUF 8) 0, cmdBytes (((((State.reset.setFlag Reg.SEC_STAT 0 true).setRegN Reg.SEC_LC 1).setRegN (Reg.SEC_CMD_BUF 0) 0x4D434F4B).setRegN (Reg.SEC_CMD_BUF 1) 9).setRegN (Reg.SEC_CMD_BUF 8) 0), rfl, by decide +kernel, by decide +kernel, by decide +kernel, by decide +kernel, by decide +kernel, by decide +kernel, by decide +kernel, by decide +kernel, by decide +kernel, by decide +kernel⟩,
  ⟨((((State.reset).setRegN Reg.SEC_LC 2).setRegN (Reg.SEC_CMD_BUF 0) 0x4D434F4B).setRegN (Reg.SEC_CMD_BUF 1) 16777226).setRegN (Reg.SEC_CMD_BUF 8) 0, cmdBytes (((((State.reset).setRegN Reg.SEC_LC 2).setRegN (Reg.SEC_CMD_BUF 0) 0x4D434F4B).setRegN (Reg.SEC_CMD_BUF 1) 16777226).setRegN (Reg.SEC_CMD_BUF 8) 0), rfl, by decide +kernel, by decide +kernel, by decide +kernel, by decide +kernel, by decide +kernel, by decide +kernel, by decide +kernel, by decide +kernel⟩,
  ⟨State.setSec State.reset { keygen := some 3 }, 3, by decide +kernel⟩,
  ⟨State.reset, true, by decide +kernel⟩,
  ⟨{ State.reset.setFlag Reg.SEC_STAT 2 true with pw := { State.reset.pw with boot := 5 } }, by decide +kernel⟩,
  ⟨State.reset, by decide +kernel⟩,
  ⟨(State.reset.setFlag Reg.SEC_STAT 0 true), 0x3F20#32, by decide +kernel⟩,
  ⟨(State.reset.setFlag Reg.SEC_STAT 0 true), 0x300#32, by decide +kernel⟩,
  ⟨(State.reset.setFlag Reg.SEC_STAT 0 true).setFlag (Reg.IMP_KSLOT_STAT 63) 1 true, 0x3F20#32, by decide +kernel⟩,
  ⟨(State.reset.setFlag Reg.SEC_STAT 0 true), 0x400#32, by decide +kernel⟩,
  ⟨State.reset, 0x11#32, by decide +kernel⟩⟩

theorem wit_SecurityAndLifeCycle_3 :
    (∃ (s : State) (v : BitVec 32),
      (bitsOf v.toNat 1 0 = 2) ∧ (bitsOf v.toNat 5 4 = 2) ∧ (keyBusy s 2 (bitsOf v.toNat 13 8) = false)) ∧
    (∃ (s : State) (challenge : List Byte),
      (genBits s ≠ 0) ∧ (s.life ≠ 0) ∧ (s.life ≠ 5) ∧ (s.sec.keygen = none) ∧ (s.sec.sign = none) ∧ (allZero (genRoot s (genNow s)) = false) ∧ (attIdx s < 1048576) ∧ (attTokens s ≠ 0)) ∧
    (∃ (s : State) (challenge : List Byte),
      (genBits s = 0 ∨ s.life = 0 ∨ s.life = 5)) ∧
    (∃ (s : State) (i : Nat) (rep : List Byte),
      (s.sec.sign = some (i, rep)) ∧ (i < 1048576) ∧ (s.fmp.queue = []) ∧ (genBits s ≠ 0)) ∧
    (∃ (s : State) (fail : Bool),
      (s.sec.sign = none)) ∧
    (∃ (s : State) (init : Fin 512),
      (init.val ≠ 436)) ∧
    (∃ (s : State) (v : BitVec 32),
      (v.toNat % 4 = 1) ∧ (s.life = 1 ∨ s.life = 4) ∧ (s.mode = mBlank) ∧ (s.sec.bist = 0)) ∧
    (∃ (s : State) (v : BitVec 32),
      (v.toNat % 4 = 1) ∧ (s.mode ≠ mBlank)) ∧
    (∃ (s : State) (v : BitVec 32),
      (v.toNat % 4 = 2) ∧ (s.life = 1 ∨ s.life = 4) ∧ (s.mode = mBlank) ∧ (s.sec.bist = 0)) ∧
    (∃ (s : State) (v : BitVec 32),
      (v.toNat % 4 = 2) ∧ (s.mode ≠ mBlank)) ∧
    (∃ (s : State) (logic memory : Bool),
      (s.sec.bist = 3)) ∧
    (∃ (s : State) (logic memory : Bool),
      (s.sec.bist = 0)) :=
  ⟨⟨State.setSec State.reset { tack := [(63, [1])] }, 0x3F22#32, by decide +kernel⟩,
  ⟨(State.setSec State.reset { otp := [(6, 1), (7, 1), (8, 1), (0x2E0, 7)] }).setRegN Reg.SEC_ATT_BUCKET 64, List.replicate 32 5, by decide +kernel⟩,
  ⟨State.reset, [], by decide +kernel⟩,
  ⟨State.setSec State.reset { sign := some (1048575, [1]), otp := [(6, 1), (7, 1), (8, 1)] }, 1048575, [1], by decide +kernel⟩,
  ⟨State.reset, true, by decide +kernel⟩,
  ⟨State.reset, 437, by decide +kernel⟩,
  ⟨((State.reset).setFld Reg.PWR_MODE 7 0 34), 1#32, by decide +kernel⟩,
  ⟨((State.reset).setFld Reg.PWR_MODE 7 0 68), 1#32, by decide +kernel⟩,
  ⟨((State.reset).setFld Reg.PWR_MODE 7 0 34), 2#32, by decide +kernel⟩,
  ⟨((State.reset).setFld Reg.PWR_MODE 7 0 68), 2#32, by decide +kernel⟩,
  ⟨State.setSec State.reset { bist := 3, roles := [(1, [1])] }, true, false, by decide +kernel⟩,
  ⟨State.reset, true, true, by decide +kernel⟩⟩

theorem wit_SecurityAndLifeCycle_4 :
    (∃ (s : State) (c x : Nat),
      (s.sec.erase = some (c, false)) ∧ (s.rcoOk = true) ∧ (inScratch x = true)) ∧
    (∃ (s : State),
      (s.sec.erase = none)) ∧
    (∃ (s : State),
      (s.sec.erase = some (0, true))) ∧
    (∃ (s : State) (c : Nat),
      (s.sec.erase = some (c, true)) ∧ (c = 4 ∨ c = 5)) ∧
    (∃ (s : State) (fail : Bool),
      (s.sec.erase = none)) :=
  ⟨⟨(State.setSec State.reset { erase := some (4, false), tack := [(1, [1])] }).setFlag Reg.OUT_STAT 3 true |>.withMem [(0x10000001, 7)], 4, 0x10000001, by decide +kernel⟩,
  ⟨State.reset, by decide +kernel⟩,
  ⟨State.setSec State.reset { erase := some (0, true) }, by decide +kernel⟩,
  ⟨State.setSec State.reset { erase := some (5, true) }, 5, by decide +kernel⟩,
  ⟨State.reset, true, by decide +kernel⟩⟩

theorem wit_OutriderAndGate_1 :
    (∃ (s : State) (link : Fin 16) (ago : Fin 4) (active : Bool),
      (s.gOpen = false ∨ s.flag Reg.OUT_WIN_CFG 0 = false ∨ active = false ∨ s.flag Reg.OUT_WIN_LINKS link = false)) ∧
    (∃ (s : State) (link : Fin 16) (ago : Fin 4),
      (s.gOpen = true) ∧ (s.flag Reg.OUT_WIN_CFG 0 = true) ∧ (s.flag Reg.OUT_WIN_LINKS link = true) ∧ (inWindow s (winPhase s (tlAdd s.tim.tl (-((ago.val * tickUnit : Nat) : Int)))) (s.fld Reg.OUT_WIN_CFG 23 16) = true)) ∧
    (∃ (s : State) (link : Fin 16) (ago : Fin 4),
      (s.gOpen = true) ∧ (s.flag Reg.OUT_WIN_CFG 0 = true) ∧ (s.flag Reg.OUT_WIN_LINKS link = true) ∧ (inWindow s (winPhase s (tlAdd s.tim.tl (-((ago.val * tickUnit : Nat) : Int)))) (s.fld Reg.OUT_WIN_CFG 23 16) = false) ∧ (s.out.last = none) ∧ (winConfirm s = 2)) ∧
    (∃ (s : State) (link : Fin 16) (ago : Fin 4),
      (s.gOpen = true) ∧ (s.flag Reg.OUT_WIN_CFG 0 = true) ∧ (s.flag Reg.OUT_WIN_LINKS link = true) ∧ (inWindow s (winPhase s (tlAdd s.tim.tl (-((ago.val * tickUnit : Nat) : Int)))) (s.fld Reg.OUT_WIN_CFG 23 16) = false) ∧ (s.out.last = none) ∧ (winConfirm s = 1) ∧ (s.rcoOk = true)) ∧
    (∃ (s : State),
      (s.rcoOk = true) ∧ (s.regN Reg.OUT_TL_LIMIT < outUnc s) ∧ (s.txPermit = true) ∧ (s.flag Reg.OUT_CAUSE 2 = false)) ∧
    (∃ (s : State),
      (¬(s.regN Reg.OUT_TL_LIMIT < outUnc s) ∨ s.txPermit = false) ∧ (s.flag Reg.OUT_CAUSE 2 = true)) ∧
    (∃ (s : State),
      (¬(s.regN Reg.OUT_TL_LIMIT < outUnc s) ∨ s.txPermit = false) ∧ (s.flag Reg.OUT_CAUSE 2 = false)) ∧
    (∃ (s : State) (p : Fin 2),
      (pairRuns s p = true) ∧ (s.rcoOk = true)) ∧
    (∃ (s : State) (p : Fin 2),
      (pairRuns s p = false ∨ s.rcoOk = false)) ∧
    (∃ (s : State) (n : BitVec 16),
      (s.rcoOk = true) ∧ (s.tim.ckt = true) ∧ (∀ k, k < 7 → 1 ≤ k → clkWatched s k = false) ∧ (clkOut s 0 n.toNat = true) ∧ (s.flag Reg.OUT_CLK_STAT 0 = false) ∧ (s.flag Reg.OUT_CAUSE 5 = false)) ∧
    (∃ (s : State) (n : BitVec 16),
      (s.rcoOk = true) ∧ (s.tim.ckt = true) ∧ (∀ k, k < 7 → 1 ≤ k → clkWatched s k = false) ∧ (clkOut s 0 n.toNat = true) ∧ (s.flag Reg.OUT_CLK_STAT 0 = true) ∧ (s.out.clks = [])) ∧
    (∃ (s : State) (counts : List (Fin 7 × BitVec 16)),
      (s.rcoOk = false)) :=
  ⟨⟨State.reset, 15, 3, true, by decide +kernel⟩,
  ⟨((State.reset.setFlag Reg.OUT_STAT 3 true).setFlag Reg.OUT_STAT 0 true).setRegN Reg.OUT_WIN_CFG 0x1 |>.setRegN Reg.OUT_WIN_LINKS 0x8000 |>.setRegN Reg.OUT_WIN_PERIOD 100 |>.setRegN (Reg.OUT_WIN_L 31) 100, 15, 0, by decide +kernel⟩,
  ⟨((State.reset.setFlag Reg.OUT_STAT 3 true).setFlag Reg.OUT_STAT 0 true).setRegN Reg.OUT_WIN_CFG 0x9 |>.setRegN Reg.OUT_WIN_LINKS 0x8000 |>.setRegN Reg.OUT_WIN_PERIOD 100, 15, 3, by decide +kernel⟩,
  ⟨((State.reset.setFlag Reg.OUT_STAT 3 true).setFlag Reg.OUT_STAT 0 true).setRegN Reg.OUT_WIN_CFG 0x5 |>.setRegN Reg.OUT_WIN_LINKS 0x8000 |>.setRegN Reg.OUT_WIN_PERIOD 100, 15, 3, by decide +kernel⟩,
  ⟨(State.reset.setFlag Reg.OUT_STAT 3 true).setFlag Reg.PWR_MODE 9 true, by decide +kernel⟩,
  ⟨(State.reset.setFlag Reg.OUT_STAT 3 true).setFlag Reg.OUT_CAUSE 2 true, by decide +kernel⟩,
  ⟨(State.reset.setFlag Reg.OUT_STAT 3 true), by decide +kernel⟩,
  ⟨({ (State.reset.setFlag Reg.OUT_STAT 3 true) with pw := { State.reset.pw with boot := 5 } } : State), 0, by decide +kernel⟩,
  ⟨State.reset, 1, by decide +kernel⟩,
  ⟨({ (State.reset.setFlag Reg.OUT_STAT 3 true) with tim := { State.reset.tim with ckt := true } } : State), 4000#16, by decide +kernel⟩,
  ⟨({ (State.reset.setFlag Reg.OUT_STAT 3 true) with tim := { State.reset.tim with ckt := true } } : State).setFlag Reg.OUT_CLK_STAT 0 true, 4000#16, by decide +kernel⟩,
  ⟨State.reset, [], by decide +kernel⟩⟩

theorem wit_OutriderAndGate_2 :
    (∃ (s : State) (k : Fin 7),
      (s.rcoOk = true) ∧ (clkWatched s k = true) ∧ (k.val ∉ s.out.clks)) ∧
    (∃ (s : State) (k : Fin 7),
      (s.rcoOk = false) ∧ (s.pw.boot ≠ 0)) ∧
    (∃ (s : State),
      (s.pw.boot ≠ 0)) ∧
    (∃ (s : State),
      (s.pw.boot = 0) ∧ (s.rcoOk = true)) ∧
    (∃ (s : State),
      (s.pw.boot ≠ 0) ∧ (s.rcoOk = true)) ∧
    (∃ (s : State),
      (s.safeHeld = true) ∧ (s.mode ≠ mBoot) ∧ (s.mode ≠ mBackup) ∧ (s.mode ≠ mSafe)) ∧
    (∃ (s : State),
      (s.safeHeld = false ∨ s.mode = mBoot ∨ s.mode = mBackup)) ∧
    (∃ (s : State),
      (s.gOpen = false) ∧ (s.gateHolds = true)) ∧
    (∃ (s : State),
      (s.gOpen = true ∨ s.gateHolds = false)) ∧
    (∃ (s : State) (v : BitVec 32) (c : Nat),
      (c < 22)) ∧
    (∃ (s : State) (r : Fin 36) (uv : BitVec 32),
      (s.rcoOk = true) ∧ (r.val < 32) ∧ (uv.toNat < (railTrip s r).1 ∨ (railTrip s r).2 < uv.toNat) ∧ (s.flag Reg.OUT_VMON_STAT r = false)) ∧
    (∃ (s : State) (r : Fin 36) (uv : BitVec 32),
      (s.rcoOk = true) ∧ (r.val < 32) ∧ ((railTrip s r).1 ≤ uv.toNat) ∧ (uv.toNat ≤ (railTrip s r).2) ∧ (s.regN Reg.OUT_VMON_STAT = 2 ^ r.val) ∧ (s.regN Reg.OUT_VMON_STAT2 = 0) ∧ (s.flag Reg.OUT_CAUSE 6 = true)) :=
  ⟨⟨({ (State.reset.setFlag Reg.OUT_STAT 3 true) with tim := { State.reset.tim with ckt := true } } : State), 0, by decide +kernel⟩,
  ⟨{ State.reset with pw := { State.reset.pw with boot := 1 } }, 6, by decide +kernel⟩,
  ⟨({ (State.reset.setFlag Reg.OUT_STAT 3 true) with pw := { State.reset.pw with boot := 5 } } : State), by decide +kernel⟩,
  ⟨(State.reset.setFlag Reg.OUT_STAT 3 true), by decide +kernel⟩,
  ⟨({ (State.reset.setFlag Reg.OUT_STAT 3 true) with pw := { State.reset.pw with boot := 5 } } : State), by decide +kernel⟩,
  ⟨((State.reset.setFlag Reg.OUT_STAT 3 true).setFlag Reg.OUT_STAT 1 true).setFld Reg.PWR_MODE 7 0 0x66, by decide +kernel⟩,
  ⟨State.reset, by decide +kernel⟩,
  ⟨((State.reset.setFlag Reg.OUT_STAT 3 true).setFlag Reg.PWR_MODE 9 true).setRegN Reg.OUT_CFG 0, by decide +kernel⟩,
  ⟨State.reset, by decide +kernel⟩,
  ⟨State.reset.setRegN Reg.OUT_LATCH 0x3FFFFE, 0x200000#32, 21, by decide +kernel⟩,
  ⟨(State.reset.setFlag Reg.OUT_STAT 3 true), 31, 639999#32, by decide +kernel⟩,
  ⟨(State.reset.setFlag Reg.OUT_STAT 3 true).setRegN Reg.OUT_VMON_STAT 0x80000000 |>.setFlag Reg.OUT_CAUSE 6 true, 31, 640000#32, by decide +kernel⟩⟩

theorem wit_OutriderAndGate_3 :
    (∃ (s : State) (r : Fin 36) (uv : BitVec 32),
      (s.rcoOk = false)) ∧
    (∃ (s : State) (x : BitVec 16),
      (s.rcoOk = true) ∧ (s.flag Reg.OUT_CAUSE 7 = false) ∧ (s.flag Reg.OUT_CAUSE 20 = false) ∧ (s.out.hot = [(0, 9)]) ∧ (32000 < signed 16 x.toNat) ∧ (s.out.warm = [])) ∧
    (∃ (s : State) (x : BitVec 16),
      (s.rcoOk = true) ∧ (s.flag Reg.OUT_CAUSE 7 = false) ∧ (s.flag Reg.OUT_CAUSE 20 = false) ∧ (s.out.hot = []) ∧ (s.out.warm = []) ∧ (signed 16 x.toNat ≤ 32000) ∧ (signed 16 x.toNat < signed 16 (s.fld Reg.OUT_TEMP_WARN 15 0))) ∧
    (∃ (s : State) (ts : List (BitVec 16)),
      (s.rcoOk = false)) ∧
    (∃ (s : State),
      (s.rcoOk = true) ∧ (s.gOpen = true) ∧ (s.flag Reg.OUT_CAUSE 13 = false)) ∧
    (∃ (s : State) (u : Nat),
      (bistOn s = true) ∧ (tlT s.tim.tl / 64 % s.fld Reg.OUT_BIST_PERIOD 24 0 = s.fld Reg.OUT_BIST_OFS 24 0) ∧ (s.out.bist = none) ∧ (s.out.core = none) ∧ (bistFrom s (s.fld Reg.OUT_BIST_NEXT 13 0) = some u) ∧ (u < 256) ∧ ((s.core u).st ≠ cAsking)) ∧
    (∃ (s : State),
      (bistOn s = false ∨ s.out.bist.isSome = true ∨ s.out.core.isSome = true)) ∧
    (∃ (s : State) (b : BistCore),
      (s.out.core = some b) ∧ (b.begun = true)) ∧
    (∃ (s : State) (b : BistCore),
      (s.out.core = some b) ∧ (b.begun = true) ∧ (b.core < 256) ∧ (s.rcoOk = true)) ∧
    (∃ (s : State),
      (s.out.core = none)) ∧
    (∃ (s : State) (b : BistCore),
      (s.out.core = some b) ∧ (b.begun = false)) ∧
    (∃ (s : State) (b : BistCore),
      (s.out.core = some b) ∧ (b.begun = true)) :=
  ⟨⟨State.reset, 35, 0, by decide +kernel⟩,
  ⟨((State.reset.setFlag Reg.OUT_STAT 3 true)).setOut { State.reset.out with hot := [(0, 9)] }, 32001#16, by decide +kernel⟩,
  ⟨(State.reset.setFlag Reg.OUT_STAT 3 true).setRegN Reg.OUT_TEMP_WARN 25600, 0xFF00#16, by decide +kernel⟩,
  ⟨State.reset, [], by decide +kernel⟩,
  ⟨((State.reset.setFlag Reg.OUT_STAT 3 true).setFlag Reg.OUT_STAT 0 true), by decide +kernel⟩,
  ⟨((((State.reset.setFlag Reg.OUT_STAT 3 true).setRegN Reg.OUT_BIST_CFG 3).setFlag (Reg.CA_CORE_CFG 0) 0 true).setFlag Reg.CA_CTL 0 true).setCore 0 { st := cRunning } |>.setFld Reg.PWR_MODE 3 0 4, 0, by decide +kernel⟩,
  ⟨State.reset, by decide +kernel⟩,
  ⟨((State.reset.setFlag Reg.OUT_STAT 3 true)).setOut { State.reset.out with core := some { core := 255, begun := true } } |>.setCore 255 { st := cBist }, { core := 255, begun := true }, by decide +kernel⟩,
  ⟨((State.reset.setFlag Reg.OUT_STAT 3 true)).setOut { State.reset.out with core := some { core := 255, begun := true } } |>.setCore 255 { st := cBist }, { core := 255, begun := true }, by decide +kernel⟩,
  ⟨State.reset, by decide +kernel⟩,
  ⟨((State.reset.setFlag Reg.OUT_STAT 3 true)).setOut { State.reset.out with core := some { core := 255 } }, { core := 255 }, by decide +kernel⟩,
  ⟨((State.reset.setFlag Reg.OUT_STAT 3 true)).setOut { State.reset.out with core := some { core := 255, begun := true } } |>.setCore 255 { st := cBist }, { core := 255, begun := true }, by decide +kernel⟩⟩

theorem wit_OutriderAndGate_4 :
    (∃ (s : State) (u : Nat),
      (s.out.bist = some u)) ∧
    (∃ (s : State) (u : Nat),
      (s.out.bist = some u) ∧ (256 ≤ u) ∧ (u < 9472) ∧ (s.rcoOk = true)) ∧
    (∃ (s : State) (fail : Bool),
      (s.out.bist = none)) :=
  ⟨⟨((State.reset.setFlag Reg.OUT_STAT 3 true)).setOut { State.reset.out with bist := some 9471 }, 9471, by decide +kernel⟩,
  ⟨((State.reset.setFlag Reg.OUT_STAT 3 true)).setOut { State.reset.out with bist := some 9471 }, 9471, by decide +kernel⟩,
  ⟨State.reset, true, by decide +kernel⟩⟩

theorem wit_ServicePorts_1 :
    (∃ (s : State) (x : Fin 2) (init : Fin 512),
      (init.val = 436 + x.val)) ∧
    (∃ (s : State) (x : Fin 2) (init : Fin 512) (v : BitVec 32),
      (v ≠ 0xA55A ∨ init.val ≠ 436 + x.val)) ∧
    (∃ (s : State) (x : Fin 2),
      (wdtLeft s x = true) ∧ (x.val ∉ s.svc.warn)) ∧
    (∃ (s : State) (x : Fin 2),
      (wdtLeft s x = false)) ∧
    (∃ (s : State) (x : Fin 3),
      (x.val ≠ 1) ∧ (wdtLeft s 0 = true)) ∧
    (∃ (s : State) (x : Fin 3),
      (x.val = 1) ∧ (wdtLeft s 1 = true)) ∧
    (∃ (s : State) (x : Fin 3),
      (wdtLeft s 0 = false) ∧ (wdtLeft s 1 = false)) ∧
    (∃ (s : State) (init : Fin 512) (p : Nat),
      (initPair init = some p)) ∧
    (∃ (s : State) (init : Fin 512) (p : Nat),
      (initPair init = some p) ∧ (s.svc.unlock.any (fun e => e.1 == p && e.2.stage == 1 && decide (pairCycles (s.tim.cks - e.2.since) ≤ 64)) = true)) ∧
    (∃ (s : State) (init : Fin 512) (v : BitVec 32) (p : Nat),
      (initPair init = some p) ∧ (v ≠ 0x4B520001) ∧ (v ≠ 0x4B520002)) ∧
    (∃ (s : State) (init : Fin 512) (v : BitVec 32),
      (init.val = debugInit) ∧ (s.debugLevel = 2) ∧ (∀ k, k < 7 → v.getLsbD k = true)) ∧
    (∃ (s : State) (init : Fin 512) (v : BitVec 32),
      (init.val = debugInit) ∧ (s.debugLevel = 2) ∧ (periOn s 2 = true) ∧ (v.toNat % 128 = 123)) :=
  ⟨⟨State.reset, 1, 437, by decide +kernel⟩,
  ⟨State.reset, 1, 436, 0xA55A#32, by decide +kernel⟩,
  ⟨({ State.reset with pw := { State.reset.pw with boot := 5 }, svc := { State.reset.svc with bRun := true, warn := [] } } : State), 1, by decide +kernel⟩,
  ⟨State.reset, 1, by decide +kernel⟩,
  ⟨({ State.reset with pw := { State.reset.pw with boot := 5 }, svc := { State.reset.svc with bRun := true, warn := [] } } : State), 2, by decide +kernel⟩,
  ⟨({ State.reset with pw := { State.reset.pw with boot := 5 }, svc := { State.reset.svc with bRun := true, warn := [] } } : State), 1, by decide +kernel⟩,
  ⟨State.reset, 2, by decide +kernel⟩,
  ⟨State.reset, 437, 1, by decide +kernel⟩,
  ⟨(State.setSvc (State.reset) { (State.reset).svc with unlock := [(0, { stage := 1, since := 0 })] }), 436, 0, by decide +kernel⟩,
  ⟨State.reset, 436, 5, 0, by decide +kernel⟩,
  ⟨State.reset, 474, 0xFF#32, by decide +kernel⟩,
  ⟨(State.setSvc (State.reset.setFlag Reg.PERI_GATE 2 true) { (State.reset.setFlag Reg.PERI_GATE 2 true).svc with spiTx := [1], spiCmd := some 0 }), 474, 0x7B#32, by decide +kernel⟩⟩

theorem wit_ServicePorts_2 :
    (∃ (s : State) (init : Fin 512) (v : BitVec 32),
      (initPair init ≠ none) ∧ (s.svc.unlock = [])) ∧
    (∃ (s : State) (p : Fin 2) (init : Fin 512) (v : BitVec 32),
      (init.val = 436 + p.val) ∧ (s.svc.unlock = [(p.val, { stage := 2, since := s.tim.cks })]) ∧ (∀ k, k < 7 → v.getLsbD k = true)) ∧
    (∃ (s : State) (n : Fin 48) (v : BitVec 32),
      (s.svc.uarts = []) ∧ (bitsOf v.toNat 7 0 ≠ s.fld (Reg.PIN_CFG n) 7 0)) ∧
    (∃ (s : State) (n : Fin 48) (v : BitVec 32),
      (s.svc.uarts = []) ∧ (bitsOf v.toNat 7 0 = s.fld (Reg.PIN_CFG n) 7 0)) ∧
    (∃ (s : State) (n : Fin 48),
      (s.svc.uarts = [])) ∧
    (∃ (s : State) (v : BitVec 32),
      (periOn s 6 = true)) ∧
    (∃ (s : State) (v : BitVec 32),
      (periOn s 6 = true)) ∧
    (∃ (s : State) (hi : Bool) (v : BitVec 32),
      (periOn s 6 = false)) ∧
    (∃ (s : State) (n : Fin 48) (lv : Bool),
      (s.svc.uarts = []) ∧ (periRuns s 6 = true) ∧ (s.flag (Reg.PIN_CFG n) (if lv then 12 else 13) = true)) ∧
    (∃ (s : State) (n : Fin 48) (lv : Bool),
      (s.svc.uarts = []) ∧ (s.flag (Reg.PIN_CFG n) (if lv then 12 else 13) = false)) ∧
    (∃ (s : State) (u : Fin 2) (v : BitVec 32),
      (periRuns s u = true) ∧ ((uartOf s u).sh = none) ∧ ((uartOf s u).tx = []) ∧ (s.flag (Reg.UART_CFG u) 24 = false)) ∧
    (∃ (s : State) (u : Fin 2) (v : BitVec 32),
      (periOn s u = true) ∧ ((uartOf s u).sh.isSome = true) ∧ ((uartOf s u).tx.length < 64)) :=
  ⟨⟨State.reset, 436, 0x7F#32, by decide +kernel⟩,
  ⟨(State.setSvc (State.reset) { (State.reset).svc with unlock := [(1, { stage := 2, since := 0 })] }), 1, 437, 0x7F#32, by decide +kernel⟩,
  ⟨State.reset, 47, 0xFFFFFF11#32, by decide +kernel⟩,
  ⟨State.reset.setRegN (Reg.PIN_CFG 47) 0x1245, 47, 0xF45#32, by decide +kernel⟩,
  ⟨(State.setSvc (State.reset) { (State.reset).svc with broken := [3, 47] }), 47, by decide +kernel⟩,
  ⟨State.reset.setFlag Reg.PERI_GATE 6 true, 0xFFFFFFFF#32, by decide +kernel⟩,
  ⟨State.reset.setFlag Reg.PERI_GATE 6 true, 0xFFFFFFFF#32, by decide +kernel⟩,
  ⟨State.reset.setFlag Reg.PERI_GATE 6 false, true, 1#32, by decide +kernel⟩,
  ⟨(State.reset.setFlag Reg.PERI_GATE 6 true).setFlag (Reg.PIN_CFG 47) 13 true, 47, false, by decide +kernel⟩,
  ⟨State.reset, 47, true, by decide +kernel⟩,
  ⟨((State.reset.setRegN Reg.PERI_GATE 127)), 1, 0x141#32, by decide +kernel⟩,
  ⟨(setUart ((State.reset.setRegN Reg.PERI_GATE 127)) 1 { sh := some 1 }), 1, 0x141#32, by decide +kernel⟩⟩

theorem wit_ServicePorts_3 :
    (∃ (s : State) (u : Fin 2) (v : BitVec 32),
      (periOn s u = true) ∧ (64 ≤ (uartOf s u).tx.length)) ∧
    (∃ (s : State) (u : Fin 2) (init : Fin 512) (w : Nat) (r : List Nat),
      (periOn s u = true) ∧ (init.val ≠ debugInit) ∧ ((uartOf s u).rx = w :: r)) ∧
    (∃ (s : State) (u : Fin 2) (init : Fin 512),
      ((uartOf s u).rx = [])) ∧
    (∃ (s : State) (u : Fin 2) (b : BitVec 8),
      (periRuns s u = true) ∧ (inPins s (u.val + 1) 1 ≠ []) ∧ (s.flag (Reg.UART_CFG u) 20 = false) ∧ ((uartOf s u).rx.length < 64)) ∧
    (∃ (s : State) (u : Fin 2) (b : BitVec 8),
      (periRuns s u = true) ∧ (inPins s (u.val + 1) 1 ≠ []) ∧ (64 ≤ (uartOf s u).rx.length)) ∧
    (∃ (s : State) (u : Fin 2) (b : BitVec 8) (pe fe : Bool),
      (periRuns s u = false ∨ inPins s (u.val + 1) 1 = [])) ∧
    (∃ (s : State) (u : Fin 2) (b : BitVec 8),
      (periRuns s u = true) ∧ ((uartOf s u).sh = some b) ∧ ((uartOf s u).tx = [])) ∧
    (∃ (s : State) (u : Fin 2) (b c : BitVec 8) (r : List (BitVec 8)),
      (periRuns s u = true) ∧ ((uartOf s u).sh = some b) ∧ ((uartOf s u).tx = c :: r) ∧ (s.flag (Reg.UART_CFG u) 24 = false)) ∧
    (∃ (s : State) (u : Fin 2),
      ((uartOf s u).sh = none)) ∧
    (∃ (s : State) (v : BitVec 32),
      (periOn s 2 = true) ∧ (s.svc.spiCmd = none)) ∧
    (∃ (s : State) (v : BitVec 32),
      (periOn s 2 = true) ∧ (s.svc.spiCmd.isSome = true)) ∧
    (∃ (s : State) (m : List Byte) (c : Nat),
      (periRuns s 2 = true) ∧ (s.svc.spiCmd = some c) ∧ (inPins s 3 2 ≠ [])) :=
  ⟨⟨(setUart ((State.reset.setRegN Reg.PERI_GATE 127)) 1 { tx := List.replicate 64 1 }), 1, 1#32, by decide +kernel⟩,
  ⟨(setUart ((State.reset.setRegN Reg.PERI_GATE 127)) 1 { rx := [65, 66] }), 1, 436, 65, [66], by decide +kernel⟩,
  ⟨State.reset, 1, 436, by decide +kernel⟩,
  ⟨((State.reset.setRegN Reg.PERI_GATE 127)).setRegN (Reg.PIN_CFG 47) 0x12, 1, 0xFF#8, by decide +kernel⟩,
  ⟨setUart (((State.reset.setRegN Reg.PERI_GATE 127)).setRegN (Reg.PIN_CFG 47) 0x12) 1 { rx := List.replicate 64 1 }, 1, 0xFF#8, by decide +kernel⟩,
  ⟨State.reset, 1, 1#8, true, true, by decide +kernel⟩,
  ⟨(setUart ((State.reset.setRegN Reg.PERI_GATE 127)) 1 { sh := some 7 }), 1, 7, by decide +kernel⟩,
  ⟨(setUart ((State.reset.setRegN Reg.PERI_GATE 127)) 1 { sh := some 7, tx := [8] }), 1, 7, 8, [], by decide +kernel⟩,
  ⟨State.reset, 1, by decide +kernel⟩,
  ⟨((State.reset.setRegN Reg.PERI_GATE 127)), 0xFFF#32, by decide +kernel⟩,
  ⟨(State.setSvc (((State.reset.setRegN Reg.PERI_GATE 127))) { (((State.reset.setRegN Reg.PERI_GATE 127))).svc with spiCmd := some 1 }), 0xFFF#32, by decide +kernel⟩,
  ⟨(State.setSvc (((State.reset.setRegN Reg.PERI_GATE 127)).setRegN (Reg.PIN_CFG 47) 0x23) { (((State.reset.setRegN Reg.PERI_GATE 127)).setRegN (Reg.PIN_CFG 47) 0x23).svc with spiCmd := some 0x201, spiTx := [1, 2, 3] }), [7], 0x201, by decide +kernel⟩⟩

theorem wit_ServicePorts_4 :
    (∃ (s : State) (m : List Byte),
      (s.svc.spiCmd = none)) ∧
    (∃ (s : State) (init : Fin 512) (v : BitVec 32),
      (periOn s 2 = true) ∧ (s.svc.spiTx.length < 64)) ∧
    (∃ (s : State) (init : Fin 512) (v : BitVec 32) (b : BitVec 8) (r : List (BitVec 8)),
      (periOn s 2 = true) ∧ (init.val ≠ debugInit) ∧ (s.svc.spiRx = b :: r)) ∧
    (∃ (s : State) (i : Fin 2) (v : BitVec 32),
      (periOn s (4 + i.val) = true) ∧ (s.flag (Reg.I2C_STAT i) 0 = false) ∧ (i.val = 0 ∨ s.flag Reg.AVS_CFG 0 = false)) ∧
    (∃ (s : State) (i : Fin 2) (v : BitVec 32),
      (periOn s (4 + i.val) = true) ∧ (s.flag (Reg.I2C_STAT i) 0 = true)) ∧
    (∃ (s : State) (i : Fin 2) (c : Nat) (d : List Byte),
      (periRuns s (4 + i.val) = true) ∧ (s.svc.i2c.find? (fun e => e.1 == i.val) = some (i.val, c)) ∧ (bitsOf c 21 16 = 2) ∧ (d.length = 2)) ∧
    (∃ (s : State) (i : Fin 2) (c : Nat) (r : Fin 5),
      (periRuns s (4 + i.val) = true) ∧ (s.svc.i2c.find? (fun e => e.1 == i.val) = some (i.val, c)) ∧ (r.val = 1 ∨ r.val = 2 ∨ r.val = 3)) ∧
    (∃ (s : State) (i : Fin 2) (r : Fin 5) (d : List Byte),
      (∀ e ∈ s.svc.i2c, e.1 ≠ i.val)) ∧
    (∃ (s : State) (init : Fin 512) (v : BitVec 32),
      (initPair init ≠ none) ∧ (s.svc.flash = none) ∧ (s.fld Reg.FLASH_ADDR 23 0 < 0xF00000 ∨ 0xF40000 ≤ s.fld Reg.FLASH_ADDR 23 0) ∧ (v.toNat % 4 = 1)) ∧
    (∃ (s : State) (init : Fin 512) (v : BitVec 32),
      (initPair init = none ∨ s.svc.flash.isSome = true ∨ (0xF00000 ≤ s.fld Reg.FLASH_ADDR 23 0 ∧ s.fld Reg.FLASH_ADDR 23 0 < 0xF40000)) ∧ (v.toNat % 4 = 1)) ∧
    (∃ (s : State) (init : Fin 512) (v : BitVec 32),
      (initPair init ≠ none) ∧ (s.svc.flash = none) ∧ (s.fld Reg.FLASH_ADDR 23 0 < 0xF00000 ∨ 0xF40000 ≤ s.fld Reg.FLASH_ADDR 23 0) ∧ (v.toNat % 4 = 2)) ∧
    (∃ (s : State) (c : FlashCmd) (x : Nat),
      (s.svc.flash = some c) ∧ (c.erase = false) ∧ (c.page.length = 256) ∧ (c.ofs < 0xF40000)) :=
  ⟨⟨State.reset, [], by decide +kernel⟩,
  ⟨((State.reset.setRegN Reg.PERI_GATE 127)), 436, 0x1FF#32, by decide +kernel⟩,
  ⟨(State.setSvc (((State.reset.setRegN Reg.PERI_GATE 127))) { (((State.reset.setRegN Reg.PERI_GATE 127))).svc with spiRx := [9] }), 436, 0, 9, [], by decide +kernel⟩,
  ⟨((State.reset.setRegN Reg.PERI_GATE 127)), 1, 0x12345#32, by decide +kernel⟩,
  ⟨((State.reset.setRegN Reg.PERI_GATE 127)).setFlag (Reg.I2C_STAT 1) 0 true, 1, 0#32, by decide +kernel⟩,
  ⟨(State.setSvc (((State.reset.setRegN Reg.PERI_GATE 127))) { (((State.reset.setRegN Reg.PERI_GATE 127))).svc with i2c := [(1, 0x20000)] }), 1, 0x20000, [3, 4], by decide +kernel⟩,
  ⟨(State.setSvc (((State.reset.setRegN Reg.PERI_GATE 127))) { (((State.reset.setRegN Reg.PERI_GATE 127))).svc with i2c := [(1, 0x20000)] }), 1, 0x20000, 3, by decide +kernel⟩,
  ⟨State.reset, 1, 4, [], by decide +kernel⟩,
  ⟨State.reset.setRegN Reg.FLASH_ADDR 0xF50123, 436, 1#32, by decide +kernel⟩,
  ⟨State.reset.setRegN Reg.FLASH_ADDR 0xF50123, 0, 1#32, by decide +kernel⟩,
  ⟨State.reset.setRegN Reg.FLASH_ADDR 0xF50123, 437, 2#32, by decide +kernel⟩,
  ⟨(State.setSvc (State.reset) { (State.reset).svc with flash := some { erase := false, ofs := 0x12300, page := List.replicate 256 7 } }), { erase := false, ofs := 0x12300, page := List.replicate 256 7 }, flashBase + 0x123FF, by decide +kernel⟩⟩

theorem wit_ServicePorts_5 :
    (∃ (s : State) (c : FlashCmd) (x : Nat),
      (s.svc.flash = some c) ∧ (c.erase = true) ∧ (c.ofs < 0xF40000)) ∧
    (∃ (s : State) (bad : Bool),
      (s.svc.flash = none)) ∧
    (∃ (s : State) (v : BitVec 32),
      (s.dbg.h2d.length < 16)) ∧
    (∃ (s : State) (v : BitVec 32),
      (16 ≤ s.dbg.h2d.length)) ∧
    (∃ (s : State) (init : Fin 512) (w : BitVec 32) (r : List (BitVec 32)),
      (initPair init ≠ none) ∧ (s.dbg.h2d = w :: r)) ∧
    (∃ (s : State) (init : Fin 512),
      (s.dbg.h2d = [])) ∧
    (∃ (s : State) (init : Fin 512) (v : BitVec 32),
      (initPair init ≠ none) ∧ (s.dbg.d2h.length < 16)) ∧
    (∃ (s : State) (init : Fin 512) (v : BitVec 32),
      (initPair init ≠ none) ∧ (16 ≤ s.dbg.d2h.length)) :=
  ⟨⟨(State.setSvc (State.reset) { (State.reset).svc with flash := some { erase := true, ofs := 0x120000, page := [] } }), { erase := true, ofs := 0x120000, page := [] }, flashBase + 0x12FFFF, by decide +kernel⟩,
  ⟨State.reset, true, by decide +kernel⟩,
  ⟨State.reset, 7#32, by decide +kernel⟩,
  ⟨(State.setDbg (State.reset) { (State.reset).dbg with h2d := List.replicate 16 1 }), 7#32, by decide +kernel⟩,
  ⟨(State.setDbg (State.reset) { (State.reset).dbg with h2d := [1, 2] }), 436, 1, [2], by decide +kernel⟩,
  ⟨State.reset, 436, by decide +kernel⟩,
  ⟨State.reset, 437, 7#32, by decide +kernel⟩,
  ⟨(State.setDbg (State.reset) { (State.reset).dbg with d2h := List.replicate 16 1 }), 437, 7#32, by decide +kernel⟩⟩

theorem wit_DebugPort_1 :
    (∃ (s : State) (l : List (BitVec 12 × Bool)),
      (s.debugLevel = 0)) ∧
    (∃ (s : State) (c : BitVec 12) (b : Bool),
      (s.debugLevel ≠ 0)) ∧
    (∃ (s : State),
      (s.debugLevel = 2) ∧ (s.mode = mBlank)) ∧
    (∃ (s : State),
      (s.debugLevel ≠ 2 ∨ s.mode ≠ mBlank)) ∧
    (∃ (s : State) (v : BitVec 32),
      (v.getLsbD 3 = true) ∧ (s.flag Reg.SEC_STAT 3 = true) ∧ (s.life = 2 ∨ s.life = 3) ∧ (s.sec.erase = none)) ∧
    (∃ (s : State) (v : BitVec 32),
      (v.getLsbD 3 = false ∨ s.flag Reg.SEC_STAT 3 = false)) ∧
    (∃ (s : State) (a : BitVec 48),
      (s.debugLevel = 0)) ∧
    (∃ (s : State) (a : BitVec 48),
      (s.debugLevel ≠ 0) ∧ (oneBlock a.toNat 4 = true) ∧ (inScratch a.toNat = true) ∧ (spOn s (spBank a.toNat) = true) ∧ (∀ w ∈ wordsOf a.toNat 4, spErr s w = 0)) ∧
    (∃ (s : State) (a : BitVec 48),
      (s.debugLevel ≠ 0) ∧ (oneBlock a.toNat 4 = false)) ∧
    (∃ (s : State) (a : BitVec 48) (d : BitVec 32),
      (s.debugLevel < 2)) ∧
    (∃ (s : State) (a : BitVec 48) (d : BitVec 32) (x : Nat),
      (s.debugLevel = 2) ∧ (oneBlock a.toNat 4 = true) ∧ (inScratch a.toNat = true) ∧ (spOn s (spBank a.toNat) = true) ∧ (s.shadowing = false) ∧ (jOn s = false) ∧ (s.noc.flip = none)) ∧
    (∃ (s : State) (p : Fin 2),
      (s.debugLevel = 2) ∧ (pairRuns s p = true) ∧ (s.rcoOk = true) ∧ (s.flag Reg.OUT_CAUSE 16 = false)) :=
  ⟨⟨(State.reset.setRegN Reg.SEC_LC 2), [(3, true)], by decide +kernel⟩,
  ⟨((State.reset.setRegN Reg.SEC_LC 2).setSec { grant := some 1 }), 47, true, by decide +kernel⟩,
  ⟨((State.reset).setFld Reg.PWR_MODE 7 0 34), by decide +kernel⟩,
  ⟨State.reset, by decide +kernel⟩,
  ⟨(State.reset.setRegN Reg.SEC_LC 2).setFlag Reg.SEC_STAT 3 true, 8#32, by decide +kernel⟩,
  ⟨State.reset, 8#32, by decide +kernel⟩,
  ⟨(State.reset.setRegN Reg.SEC_LC 2), 0x10000000#48, by decide +kernel⟩,
  ⟨((State.reset.setRegN Reg.SEC_LC 2).setSec { grant := some 1 }).withMem [(0x10000041, 5)], 0x10000040#48, by decide +kernel⟩,
  ⟨State.reset, 0x100000FE#48, by decide +kernel⟩,
  ⟨((State.reset.setRegN Reg.SEC_LC 2).setSec { grant := some 1 }), 0x10000000#48, 1#32, by decide +kernel⟩,
  ⟨State.reset, 0x10000040#48, 0x12345678#32, 0x10000041, by decide +kernel⟩,
  ⟨({ (State.reset.setFlag Reg.OUT_STAT 3 true) with pw := { State.reset.pw with boot := 5 } } : State), 0, by decide +kernel⟩⟩

theorem wit_DebugPort_2 :
    (∃ (s : State) (p : Fin 2),
      (s.debugLevel ≠ 2 ∨ pairRuns s p = false)) ∧
    (∃ (s : State) (p : Fin 2),
      (s.debugLevel = 2) ∧ (s.dbg.halted = [p.val]) ∧ (dcsrStep s p = false)) ∧
    (∃ (s : State) (p : Fin 2),
      (s.debugLevel ≠ 2 ∨ p.val ∉ s.dbg.halted)) ∧
    (∃ (s : State) (n : Fin 32),
      (s.debugLevel = 2) ∧ (dmActive s = true) ∧ (bitsOf (dmReg s dmAbstract) 10 8 = 0) ∧ (dmHart s < 2) ∧ (pairUp s (dmHart s) = true) ∧ (dmHart s ∈ s.dbg.halted) ∧ (n.val ≠ 0)) ∧
    (∃ (s : State) (n : Fin 32) (v : BitVec 64),
      (s.debugLevel = 2) ∧ (dmActive s = true) ∧ (bitsOf (dmReg s dmAbstract) 10 8 = 0) ∧ (dmHart s < 2) ∧ (pairUp s (dmHart s) = true) ∧ (dmHart s ∈ s.dbg.halted) ∧ (n.val ≠ 0) ∧ (s.dbg.gprs.find? (fun e => e.1 == 65536 * dmHart s + (0x1000 + n.val)) = some (65536 * dmHart s + (0x1000 + n.val), v))) ∧
    (∃ (s : State) (n : Fin 32),
      (s.debugLevel = 2) ∧ (dmActive s = true) ∧ (bitsOf (dmReg s dmAbstract) 10 8 = 0) ∧ (pairUp s (dmHart s) = false ∨ dmHart s ∉ s.dbg.halted ∨ 2 ≤ dmHart s)) ∧
    (∃ (s : State) (a : BitVec 7) (d : BitVec 32),
      (s.debugLevel = 2) ∧ (dmActive s = true) ∧ (a = 4 ∨ a = 5 ∨ (0x20 ≤ a.toNat ∧ a.toNat < 0x28))) ∧
    (∃ (s : State) (a : BitVec 7) (d : BitVec 32),
      (s.debugLevel ≠ 2)) ∧
    (∃ (s : State) (d : BitVec 32),
      (s.debugLevel ≠ 0)) ∧
    (∃ (s : State) (a : BitVec 7) (d : BitVec 32),
      (s.debugLevel = 0)) ∧
    (∃ (s : State) (init : Fin 512) (v : BitVec 32),
      (init.val = debugInit) ∧ (teamOn s (teamOf (v.toNat % 256)) = true) ∧ (s.flag Reg.CA_STAT 8 = false) ∧ ((s.core (v.toNat % 256)).st ≠ cBist) ∧ ((s.core (v.toNat % 256)).st ≠ cHalted) ∧ ((s.core (v.toNat % 256)).st ≠ cOff) ∧ (s.pac.ops = []) ∧ (s.out.core = none)) ∧
    (∃ (s : State) (init : Fin 512) (v : BitVec 32),
      (init.val = debugInit) ∧ (teamOn s (teamOf (v.toNat % 256)) = false ∨ (s.core (v.toNat % 256)).st = cBist ∨ (s.core (v.toNat % 256)).st = cHalted ∨ (s.core (v.toNat % 256)).st = cOff)) :=
  ⟨⟨State.reset, 0, by decide +kernel⟩,
  ⟨(State.setDbg (({ (State.reset.setFlag Reg.OUT_STAT 3 true) with pw := { State.reset.pw with boot := 5 } } : State)) { (({ (State.reset.setFlag Reg.OUT_STAT 3 true) with pw := { State.reset.pw with boot := 5 } } : State)).dbg with halted := [0] }), 0, by decide +kernel⟩,
  ⟨State.reset, 1, by decide +kernel⟩,
  ⟨(State.setDbg (({ (State.reset.setFlag Reg.OUT_STAT 3 true) with pw := { State.reset.pw with boot := 5 } } : State)) { (({ (State.reset.setFlag Reg.OUT_STAT 3 true) with pw := { State.reset.pw with boot := 5 } } : State)).dbg with dm := [(4, 0xAABBCCDD), (5, 0x11223344), (0x10, 1)], halted := [0] }), 31, by decide +kernel⟩,
  ⟨(State.setDbg (({ (State.reset.setFlag Reg.OUT_STAT 3 true) with pw := { State.reset.pw with boot := 5 } } : State)) { (({ (State.reset.setFlag Reg.OUT_STAT 3 true) with pw := { State.reset.pw with boot := 5 } } : State)).dbg with dm := [(4, 0xAABBCCDD), (5, 0x11223344), (0x10, 1)], halted := [0], gprs := [(0x101F, 0x123456789ABCDEF0)] }), 31, 0x123456789ABCDEF0#64, by decide +kernel⟩,
  ⟨(State.setDbg (State.reset) { (State.reset).dbg with dm := [(4, 0xAABBCCDD), (5, 0x11223344), (0x10, 1)] }), 31, by decide +kernel⟩,
  ⟨(State.setDbg (({ (State.reset.setFlag Reg.OUT_STAT 3 true) with pw := { State.reset.pw with boot := 5 } } : State)) { (({ (State.reset.setFlag Reg.OUT_STAT 3 true) with pw := { State.reset.pw with boot := 5 } } : State)).dbg with dm := [(4, 0xAABBCCDD), (5, 0x11223344), (0x10, 1)], halted := [0] }), 0x27#7, 77#32, by decide +kernel⟩,
  ⟨((State.reset.setRegN Reg.SEC_LC 2).setSec { grant := some 1 }), 4#7, 77#32, by decide +kernel⟩,
  ⟨((State.reset.setRegN Reg.SEC_LC 2).setSec { grant := some 1 }), 0, by decide +kernel⟩,
  ⟨(State.reset.setRegN Reg.SEC_LC 2), 0x11#7, 0, by decide +kernel⟩,
  ⟨((State.reset.setFlag Reg.CA_STAT 3 true).setFld (Reg.PWR_PD_STAT 19) 2 0 1).setCore 255 { st := cAsking }, 474, 0xFF#32, by decide +kernel⟩,
  ⟨State.reset, 474, 0xFF#32, by decide +kernel⟩⟩

theorem wit_DebugPort_3 :
    (∃ (s : State) (init : Fin 512) (v : BitVec 32),
      (init.val ≠ debugInit)) ∧
    (∃ (s : State) (init : Fin 512) (v : BitVec 32),
      (init.val = debugInit) ∧ ((s.core (v.toNat % 256)).st = cHalted)) ∧
    (∃ (s : State) (init : Fin 512) (v : BitVec 32),
      (init.val ≠ debugInit ∨ (s.core (v.toNat % 256)).st ≠ cHalted)) ∧
    (∃ (s : State) (init : Fin 512) (v : BitVec 32),
      (init.val = debugInit) ∧ (v.getLsbD 8 = true) ∧ (s.pac.snapReq = none)) ∧
    (∃ (s : State) (init : Fin 512) (v : BitVec 32),
      (init.val ≠ debugInit)) ∧
    (∃ (s : State) (l : Nat),
      (s.pac.snapReq = some l)) ∧
    (∃ (s : State),
      (s.pac.snapReq = none)) :=
  ⟨⟨((State.reset.setFlag Reg.CA_STAT 3 true).setFld (Reg.PWR_PD_STAT 19) 2 0 1).setCore 255 { st := cAsking }, 436, 0xFF#32, by decide +kernel⟩,
  ⟨State.reset.setCore 255 { st := cHalted, shadow := true, live := true }, 474, 0xFF#32, by decide +kernel⟩,
  ⟨State.reset, 474, 0xFF#32, by decide +kernel⟩,
  ⟨State.reset, 474, 0x107#32, by decide +kernel⟩,
  ⟨State.reset, 436, 0x107#32, by decide +kernel⟩,
  ⟨State.reset.setPac { State.reset.pac with snapReq := some 7 }, 7, by decide +kernel⟩,
  ⟨State.reset, by decide +kernel⟩⟩

end

end Sys2Proof.Tests
end

section
/-! PROOFS. The statements of 00_scope.md: writes of registers (R10, R12, R15, R16), events and their interrupt (R18, R19), and a
request at its target (R283). -/

namespace Sys2Proof.Machine

/-! Bits and bytes. -/

/-- Bits under a mask replaced: a masked bit is the new value's, any other as it was. -/
theorem testBit_replace : ∀ (n x m w : Nat),
    (x - Nat.land x m + Nat.land w m).testBit n = if m.testBit n then w.testBit n else x.testBit n
  | 0, x, m, w => by
    have hx : x &&& m ≤ x := Nat.and_le_left
    have h1 := @Nat.and_mod_two_eq_one x m
    have h2 := @Nat.and_mod_two_eq_one w m
    change (x - (x &&& m) + (w &&& m)).testBit 0 = _
    simp only [Nat.testBit_zero, decide_eq_true_eq]
    split <;> exact decide_eq_decide.mpr (by omega)
  | n + 1, x, m, w => by
    have hx : x &&& m ≤ x := Nat.and_le_left
    have h1 := @Nat.and_mod_two_eq_one x m
    have h2 := @Nat.and_mod_two_eq_one w m
    have h3 := @Nat.and_div_two x m
    have h4 := @Nat.and_div_two w m
    have e : (x - (x &&& m) + (w &&& m)) / 2 = x / 2 - (x / 2 &&& m / 2) + (w / 2 &&& m / 2) := by omega
    have ih := testBit_replace n (x / 2) (m / 2) (w / 2)
    change (x - (x &&& m) + (w &&& m)).testBit (n + 1) = _
    simp only [Nat.testBit_succ, e]
    exact ih

/-- Bits written as ones cleared (W1C). -/
theorem testBit_sub_land (x v n : Nat) : (x - Nat.land x v).testBit n = (x.testBit n && !v.testBit n) := by
  have h := testBit_replace n x v 0
  rw [show Nat.land 0 v = 0 from Nat.zero_and v, Nat.add_zero] at h
  rw [h]
  cases v.testBit n
  · simp
  · simp

theorem replace_lt {x m : Nat} (w : Nat) (hx : x < 2 ^ 32) (hm : m < 2 ^ 32) :
    x - Nat.land x m + Nat.land w m < 2 ^ 32 := by
  refine Nat.lt_pow_two_of_testBit _ fun i hi => ?_
  have below {v : Nat} (hv : v < 2 ^ 32) : v.testBit i = false :=
    Nat.testBit_lt_two_pow (lt_of_lt_of_le hv (Nat.pow_le_pow_right (by omega) hi))
  rw [testBit_replace, below hm, below hx]; rfl

@[simp] theorem length_leBytes : ∀ n v : Nat, (leBytes n v).length = n
  | 0, _ => rfl
  | n + 1, v => congrArg (· + 1) (length_leBytes n (v / 256))

theorem leNat_leBytes : ∀ n v : Nat, leNat (leBytes n v) = v % 2 ^ (8 * n)
  | 0, v => by simp [leBytes, leNat, Nat.mod_one]
  | n + 1, v => by
    rw [leBytes, leNat, leNat_leBytes n, BitVec.toNat_ofNat, show 8 * (n + 1) = 8 + 8 * n by ring, pow_add, Nat.mod_mul]
    rfl

@[simp] theorem leNat_leBytes_word (w : BitVec 32) : leNat (leBytes 4 w.toNat) = w.toNat :=
  (leNat_leBytes 4 w.toNat).trans (Nat.mod_eq_of_lt w.isLt)

/-! Registers and memory that an update leaves. -/

theorem sameMem_of_mem {s t : State} (h : t.mem = s.mem) : SameMem s t := fun a => by unfold State.byte; rw [h]

@[simp] theorem reg_answer (s : State) (i k : Nat) (l : List Nat) (a : Nat) : (s.answer i k l).reg a = s.reg a := rfl
@[simp] theorem regN_answer (s : State) (i k : Nat) (l : List Nat) (a : Nat) : (s.answer i k l).regN a = s.regN a := rfl
@[simp] theorem flag_answer (s : State) (i k : Nat) (l : List Nat) (a n : Nat) : (s.answer i k l).flag a n = s.flag a n := rfl
@[simp] theorem fld_answer (s : State) (i k : Nat) (l : List Nat) (a hi lo : Nat) : (s.answer i k l).fld a hi lo = s.fld a hi lo := rfl

@[simp] theorem raised_answer (s : State) (i k : Nat) (l : List Nat) (b n : Nat) : Raised (s.answer i k l) b n ↔ Raised s b n := Iff.rfl
@[simp] theorem sameRegs_answer (s t : State) (i k : Nat) (l : List Nat) (w : Nat → Prop) : SameRegs s (t.answer i k l) w ↔ SameRegs s t w := Iff.rfl
@[simp] theorem sameMem_answer (s t : State) (i k : Nat) (l : List Nat) : SameMem s (t.answer i k l) ↔ SameMem s t := Iff.rfl

theorem flag_setRegN (s : State) (a n : Nat) {v : Nat} (h : v < 2 ^ 32) : (s.setRegN a v).flag a n = v.testBit n := by
  unfold State.flag; rw [regN_setRegN, if_pos rfl, Nat.mod_eq_of_lt h]

theorem satNat_lt (w v : Nat) : satNat w v < 2 ^ w := by
  unfold satNat; split
  · assumption
  · exact Nat.sub_lt (by positivity) (by omega)

theorem regN_count (s : State) (a : Nat) : (s.count a).regN a = satNat 32 (s.regN a + 1) := by
  unfold State.count; rw [regN_setRegN, if_pos rfl, Nat.mod_eq_of_lt (satNat_lt _ _)]

/-! Events (R18). -/

theorem evtCount_inj (b : Nat) {n j : Nat} : evtCount b n = evtCount b j ↔ n = j := by unfold evtCount; omega

theorem sameRegs_raise (s : State) (b n : Nat) : SameRegs s (s.raise b n) (evtOf b n) := fun a h =>
  reg_raise s b n a (fun c => h (.inl c)) (fun c => h (.inr c))

/-- The status register after an event depends on what it held and on nothing else. -/
theorem reg_raise_status (s : State) (b n : Nat) :
    (s.raise b n).reg (evtStatus b) = BitVec.ofNat 32 (putBits (s.regN (evtStatus b)) n n 1) := by
  unfold State.raise
  rw [reg_addFld_ne _ _ _ _ (evt_apart b n)]
  exact reg_setReg_same _ _ _

theorem flag_raiseIf (s : State) (c : Bool) (b : Nat) {n : Nat} (j : Nat) (h : n < 32) :
    (s.raiseIf c b n).flag (evtStatus b) j = (c && decide (n = j) || s.flag (evtStatus b) j) := by
  cases c
  · rfl
  · change (s.raise b n).flag (evtStatus b) j = _
    by_cases e : n = j
    · subst e; simp [flag_raise s b n h]
    · simp [flag_raise_ne s b n j h e, e]

theorem fld_raiseIf_count (s : State) (c : Bool) (b n j : Nat) :
    (s.raiseIf c b n).fld (evtCount b j) 15 0 =
      if c = true ∧ n = j then satNat 16 (s.fld (evtCount b j) 15 0 + 1) else s.fld (evtCount b j) 15 0 := by
  cases c
  · rfl
  · change (s.raise b n).fld (evtCount b j) 15 0 = _
    by_cases e : n = j
    · subst e; simp [fld_raise s b n]
    · rw [if_neg (by simp [e])]
      exact fld_of_reg 15 0 (reg_raise s b n _ (evt_apart b j) (fun c => e ((evtCount_inj b).mp c.symm)))

/-- The events below k of those that come with an access. -/
def raiseBelow (s : State) (b : Nat) (same : BitVec 32) (k : Nat) : State :=
  (List.range k).foldl (fun s n => s.raiseIf (same.getLsbD n) b n) s

theorem raiseBelow_succ (s : State) (b : Nat) (same : BitVec 32) (k : Nat) :
    raiseBelow s b same (k + 1) = (raiseBelow s b same k).raiseIf (same.getLsbD k) b k := by
  simp [raiseBelow, List.range_succ]

theorem setSame_eq (s : State) (b : Nat) (same : BitVec 32) : setSame s b same = raiseBelow s b same 32 := rfl

theorem flag_raiseBelow (s : State) (b : Nat) (same : BitVec 32) (j : Nat) : ∀ k, k ≤ 32 →
    (raiseBelow s b same k).flag (evtStatus b) j = (same.getLsbD j && decide (j < k) || s.flag (evtStatus b) j)
  | 0, _ => by simp [raiseBelow]
  | k + 1, h => by
    rw [raiseBelow_succ, flag_raiseIf _ _ _ _ (by omega), flag_raiseBelow s b same j k (by omega)]
    rcases lt_trichotomy j k with c | rfl | c
    · simp [c, show k ≠ j by omega, show j < k + 1 by omega]
    · simp
    · simp [show ¬j < k by omega, show k ≠ j by omega, show ¬j < k + 1 by omega]

theorem fld_raiseBelow (s : State) (b : Nat) (same : BitVec 32) (j : Nat) : ∀ k,
    (raiseBelow s b same k).fld (evtCount b j) 15 0 =
      if same.getLsbD j = true ∧ j < k then satNat 16 (s.fld (evtCount b j) 15 0 + 1) else s.fld (evtCount b j) 15 0
  | 0 => by simp [raiseBelow]
  | k + 1 => by
    rw [raiseBelow_succ, fld_raiseIf_count, fld_raiseBelow s b same j k]
    rcases lt_trichotomy j k with c | rfl | c
    · simp [c, show k ≠ j by omega, show j < k + 1 by omega]
    · simp
    · simp [show ¬j < k by omega, show k ≠ j by omega, show ¬j < k + 1 by omega]

/-- An event that hardware sets with an access stands after it (R19). -/
theorem flag_setSame (s : State) (b : Nat) (same : BitVec 32) {j : Nat} (h : j < 32) :
    (setSame s b same).flag (evtStatus b) j = (same.getLsbD j || s.flag (evtStatus b) j) := by
  rw [setSame_eq, flag_raiseBelow _ _ _ _ _ le_rfl]; simp [h]

/-- Its counter counts it (R19). -/
theorem fld_setSame (s : State) (b : Nat) (same : BitVec 32) {j : Nat} (h : j < 32) :
    (setSame s b same).fld (evtCount b j) 15 0 =
      if same.getLsbD j then satNat 16 (s.fld (evtCount b j) 15 0 + 1) else s.fld (evtCount b j) 15 0 := by
  rw [setSame_eq, fld_raiseBelow]; simp [h]

/-! The interrupt of a block (R18). -/

theorem irqOf_iff (s : State) (b : Nat) :
    irqOf s b = true ↔ ∃ n, n < 32 ∧ s.flag (evtStatus b) n = true ∧ s.flag (evtEnable b) n = true := by
  unfold irqOf State.flag State.regN
  simp only [decide_eq_true_eq, BitVec.testBit_toNat]
  constructor
  · intro h
    by_contra c
    push Not at c
    refine h (BitVec.eq_of_getLsbD_eq fun i hi => ?_)
    have := c i hi
    simpa [BitVec.getLsbD_and] using this
  · rintro ⟨n, -, h1, h2⟩ h
    have := congrArg (·.getLsbD n) h
    simp [BitVec.getLsbD_and, h1, h2] at this

/-! Accesses of the control space (R10…R18). -/

theorem busWrite_word {s : State} {init a k : Nat} {row : RegRow} (w : BitVec 32) (hs : secSees s init a false = true)
    (hi : ioDown s a = false) (hc : ctrlAt a 4 = .word row k) :
    busWrite s init a (leBytes 4 w.toNat) = (wideWrite s init a k w.toNat row).answer init 0 [] := by
  simp [busWrite, ctrlWrite, hs, hi, hc]

theorem busWrite_unseen {s : State} {init a : Nat} {data : List Byte} (h : secSees s init a false = false) :
    busWrite s init a data = (busErr s init a stDecode).answer init stDecode [] := by
  simp [busWrite, ctrlWrite, h, stDecode]

theorem busWrite_none {s : State} {init a : Nat} {data : List Byte} (hs : secSees s init a false = true)
    (hi : ioDown s a = false) (hc : ctrlAt a data.length = .none) :
    busWrite s init a data = (busErr s init a stDecode).answer init stDecode [] := by
  simp [busWrite, ctrlWrite, hs, hi, hc, stDecode]

/-- A 32-bit register is written at once. -/
theorem wideWrite_narrow (s : State) (init : Nat) {a v : Nat} {row : RegRow} (hw : row.words = 1) (ha : a ≠ Reg.SEC_CMD_CTL) :
    wideWrite s init a 0 v row = regSet s init a v row := by
  simp [wideWrite, hw, wordSet, ha]

theorem execRegisterWrite_eq {s : State} {init : Fin 512} {a : BitVec 48} (data : List Byte) (hc : inCtrl a.toNat = true)
    (hu : initUsed init = true) : execRegisterWrite init a data s = .next (busWrite s init a.toNat data) := by
  simp [execRegisterWrite, hc, hu]

theorem regSet_ro (s : State) (init a v : Nat) {row : RegRow} (h : row.acc = .ro) : regSet s init a v row = s := by
  simp [regSet, h]

theorem regSet_rwm_refused {s : State} (init a v : Nat) {row : RegRow} (h : row.acc = .rwm) (hm : modeIn s row.modes = false) :
    regSet s init a v row = s.raise (blockOf a) 31 := by
  simp [regSet, h, hm]

/-- A register with no act of its own keeps the bits outside its mask. -/
theorem regSet_rw {s : State} {init a v : Nat} {row : RegRow} (h : row.acc = .rw)
    (hn : regAct s init a (Nat.land v row.mask) v = none) :
    regSet s init a v row = s.setRegN a (s.regN a - Nat.land (s.regN a) row.mask + Nat.land v row.mask) := by
  unfold regSet regPut
  simp only [h, hn, reduceCtorEq, false_and, if_false]

/-- A 32-bit register written by an initiator that its block answers. -/
theorem exec_registerWrite_word {s : State} {init : Fin 512} {a : BitVec 48} (w : BitVec 32) {row : RegRow}
    (hc : inCtrl a.toNat = true) (hu : initUsed init = true) (hs : secSees s init a.toNat false = true)
    (hi : ioDown s a.toNat = false) (ha : ctrlAt a.toNat 4 = .word row 0) (hw : row.words = 1) (hx : a.toNat ≠ Reg.SEC_CMD_CTL) :
    exec (.registerWrite init a (leBytes 4 w.toNat)) s = .next ((regSet s init a.toNat w.toNat row).answer init 0 []) := by
  rw [exec_registerWrite, execRegisterWrite_eq _ hc hu, busWrite_word w hs hi ha, wideWrite_narrow s init hw hx]

/-! Decode errors (R10). -/

/-- A decode error is noted and counted. -/
theorem errNote_decode (s : State) (r : NocReq) : errNote s r stDecode =
    (((s.setRegN Reg.NOC_LAST_ERR (r.init + stDecode * 2 ^ 12)).setRegN Reg.NOC_LAST_ADDR (r.addr / 2 ^ 16)).count
      Reg.NOC_DECODE_CNT).raise blkNoc 0 := by
  simp [errNote, stDecode]

/-- Only a Saddle pair takes an access fault. -/
theorem accFault_other (s : State) {init : Nat} (status : Nat) (h6 : init ≠ 436) (h7 : init ≠ 437) : accFault s init status = s := by
  simp [accFault, h6, h7, State.raiseIf]

/-! What a decode error writes lies in the controller block and the NoC's, below 0x4400_0000. -/

theorem evtStatus_low {b : Nat} (h : b < 4) : evtStatus b < 0x44000000 := by unfold evtStatus blockBase ctrlBase; omega

theorem evtCount_low {b n : Nat} (h : b < 4) (hn : n < 32) : evtCount b n < 0x44000000 := by
  unfold evtCount blockBase ctrlBase; omega

theorem evtCount_high {b : Nat} (h : 4 ≤ b) (n : Nat) : 0x44000000 ≤ evtCount b n := by
  unfold evtCount blockBase ctrlBase; omega

section
variable {j : Nat} (h : 0x44000000 ≤ j)
include h

theorem reg_raise_high (s : State) {b n : Nat} (hb : b < 4) (hn : n < 32) : (s.raise b n).reg j = s.reg j :=
  reg_raise s b n j (by have := evtStatus_low hb; omega) (by have := evtCount_low hb hn; omega)

theorem reg_raiseIf_high (s : State) (c : Bool) {b n : Nat} (hb : b < 4) (hn : n < 32) : (s.raiseIf c b n).reg j = s.reg j := by
  cases c
  · rfl
  · exact reg_raise_high h s hb hn

theorem reg_setRegN_high (s : State) {k : Nat} (v : Nat) (hk : k < 0x44000000) : (s.setRegN k v).reg j = s.reg j :=
  reg_setRegN_ne s v (by omega)

theorem reg_busErr_decode (s : State) (init a : Nat) : (busErr s init a stDecode).reg j = s.reg j := by
  unfold busErr accFault
  rw [reg_raiseIf_high h _ _ (by decide) (by decide), reg_raiseIf_high h _ _ (by decide) (by decide), errNote_decode,
    reg_raise_high h _ (by decide) (by decide), State.count, reg_setRegN_high h _ _ (by decide),
    reg_setRegN_high h _ _ (by decide), reg_setRegN_high h _ _ (by decide)]

end

/-! Registers wider than 32 bits (R12). -/

theorem wideAt_some {a w : Nat} {row : RegRow} (h : wideAt a = some (row, w)) : ctrlAt a 4 = .word row w ∧ 1 < row.words := by
  unfold wideAt at h
  split at h
  case h_1 r k hc =>
    split at h
    case isTrue hw => cases h; exact ⟨hc, hw⟩
    case isFalse => cases h
  case h_2 => cases h

/-- The state with the words an initiator latches of the register at an address. -/
def State.latch (s : State) (init a : Nat) (ws : List Word) : State :=
  { s with latches := s.latches.filter (fun e => e.1 != (init, a)) ++ [((init, a), ws)] }

theorem latchOf_latch_same (s : State) (init a : Nat) (ws : List Word) : latchOf (s.latch init a ws) init a = some ws := by
  have absent : (s.latches.filter (fun e => e.1 != (init, a))).find? (fun e => e.1 == (init, a)) = none := by
    simp [List.find?_eq_none]
  simp [latchOf, State.latch, List.find?_append, absent]

theorem latchOf_latch_ne (s : State) {init a i b : Nat} (ws : List Word) (h : (i, b) ≠ (init, a)) :
    latchOf (s.latch init a ws) i b = latchOf s i b := by
  have kept : (fun e : (Nat × Nat) × List Word => decide (e.1 != (init, a) ∧ e.1 == (i, b))) = fun e => e.1 == (i, b) := by
    funext e
    by_cases c : e.1 = (i, b)
    · simp [c, h]
    · simp [c]
  simp only [latchOf, State.latch, List.find?_append, List.find?_filter, kept]
  simp [h.symm]

/-- A read of word 0 of a wider register latches it. -/
theorem wideRead_zero (s : State) (init a : Nat) {row : RegRow} (h : 1 < row.words) :
    wideRead s init a 0 row =
      (s.latch init a ((List.range row.words).map fun k => BitVec.ofNat 32 (regRead s init (a + 4 * k) row).2),
        (regRead s init a row).2 % 2 ^ 32) := by
  have first : ((List.range row.words).map fun k => BitVec.ofNat 32 (regRead s init (a + 4 * k) row).2).headD 0 =
      BitVec.ofNat 32 (regRead s init a row).2 := by
    obtain ⟨n, hn⟩ : ∃ n, row.words = n + 1 := ⟨row.words - 1, by omega⟩
    simp [hn, List.range_succ_eq_map]
  rw [wideRead, if_neg (Nat.not_le.mpr h)]
  simp only [if_true, Nat.mul_zero, Nat.sub_zero, first, BitVec.toNat_ofNat, State.latch]

theorem ctrlRead_word {s : State} {init a k : Nat} {row : RegRow} (hs : secSees s init a true = true) (hi : ioDown s a = false)
    (hc : ctrlAt a 4 = .word row k) :
    ctrlRead s init a 4 = ((wideRead s init a k row).1, 0, leBytes 4 (wideRead s init a k row).2) := by
  simp [ctrlRead, hs, hi, hc]

theorem wideWrite_ro (s : State) (init a k v : Nat) {row : RegRow} (hw : 1 < row.words) (hro : row.acc = .ro) :
    wideWrite s init a k v row = s := by
  simp [wideWrite, Nat.not_le.mpr hw, hro]

/-! Writes of the event registers (R17…R20). -/

theorem evtOff_bounds {off : Nat} (h : evtOff off = true) : 0xF00000 ≤ off ∧ off < 0xF000C0 := by
  simp only [evtOff, Bool.or_eq_true, Bool.and_eq_true, decide_eq_true_eq, List.contains_iff_mem, List.mem_cons,
    List.not_mem_nil, or_false] at h
  omega

theorem evtOff_status : evtOff 0xF00000 = true := by decide
theorem evtOff_countClr : evtOff 0xF00008 = true := by decide

/-! An address given as a block's base and the offset of an event register falls apart into the two again. -/

theorem offset_evt (b : Nat) {off : Nat} (ho : evtOff off = true) : (blockBase b + off) % 0x1000000 = off := by
  obtain ⟨lo, hi⟩ := evtOff_bounds ho
  unfold blockBase ctrlBase; omega

theorem blockOf_evt {b off : Nat} (hb : b < 15) (ho : evtOff off = true) : blockOf (blockBase b + off) = b := by
  obtain ⟨lo, hi⟩ := evtOff_bounds ho
  unfold blockOf blockBase ctrlBase; omega

theorem blockOf_evtStatus {b : Nat} (hb : b < 15) : blockOf (evtStatus b) = b := by
  unfold evtStatus; exact blockOf_evt hb evtOff_status

theorem evt_below_lpp {b off : Nat} (hb : b < 15) (ho : evtOff off = true) : ¬0x4FFF0000 ≤ blockBase b + off := by
  obtain ⟨lo, hi⟩ := evtOff_bounds ho
  unfold blockBase ctrlBase; omega

theorem ctrlAt_evt {b off : Nat} (hb : b < 15) (ho : evtOff off = true) : ctrlAt (blockBase b + off) 4 = .evt b off := by
  unfold ctrlAt; dsimp only
  rw [if_neg (evt_below_lpp hb ho), blockOf_evt hb ho, offset_evt b ho, if_neg (by omega), if_pos (evtOff_bounds ho).1,
    if_pos ⟨rfl, ho⟩]

theorem evt_outside_io (b : Nat) {off : Nat} (ho : evtOff off = true) (lo : 0x45600000 ≤ blockBase b + off) :
    ¬blockBase b + off < 0x45700000 := by
  obtain ⟨lo, hi⟩ := evtOff_bounds ho
  unfold blockBase ctrlBase at *; omega

theorem ioDown_evt (s : State) (b : Nat) {off : Nat} (ho : evtOff off = true) : ioDown s (blockBase b + off) = false := by
  unfold ioDown
  by_cases c : 0x45600000 ≤ blockBase b + off
  · simp [evt_outside_io b ho c]
  · simp [c]

/-- A write of an event register by an initiator that its block answers. -/
theorem busWrite_evt {s : State} {init b off : Nat} (v : BitVec 32) (hb : b < 15) (ho : evtOff off = true)
    (hs : secSees s init (blockBase b + off) false = true) :
    busWrite s init (blockBase b + off) (leBytes 4 v.toNat) = (evtSet s b off v.toNat).answer init 0 [] := by
  simp [busWrite, ctrlWrite, hs, ioDown_evt s b ho, ctrlAt_evt hb ho]

theorem evtSet_status (s : State) (b v : Nat) : evtSet s b 0xF00000 v = evtClear s b v := by simp [evtSet]
theorem evtSet_countClr (s : State) (b v : Nat) : evtSet s b 0xF00008 v = evtCountZero s b v := by simp [evtSet]

theorem busWrite_evtStatus {s : State} {init b : Nat} (v : BitVec 32) (hb : b < 15) (hs : secSees s init (evtStatus b) false = true) :
    busWrite s init (evtStatus b) (leBytes 4 v.toNat) = (evtClear s b v.toNat).answer init 0 [] :=
  (busWrite_evt v hb evtOff_status hs).trans (by rw [evtSet_status])

theorem busWrite_evtCountClr {s : State} {init b : Nat} (v : BitVec 32) (hb : b < 15) (hs : secSees s init (evtCountClr b) false = true) :
    busWrite s init (evtCountClr b) (leBytes 4 v.toNat) = (evtCountZero s b v.toNat).answer init 0 [] :=
  (busWrite_evt v hb evtOff_countClr hs).trans (by rw [evtSet_countClr])

/-! EVT_STATUS, W1C (R19). -/

/-- A UART's level bit set while its FIFO holds a word (R549). -/
def uartLevel (s : State) (u : Nat) : State :=
  if (uartOf s u).rx.isEmpty then s else s.setFlag (evtStatus blkPin) (3 * u) true

theorem evtClear_eq (s : State) (b v : Nat) : evtClear s b v =
    let t := s.setRegN (evtStatus b) (s.regN (evtStatus b) - Nat.land (s.regN (evtStatus b)) v)
    if b = blkPin then uartLevel (uartLevel t 0) 1 else t := by
  unfold evtClear
  dsimp only
  split
  case isTrue h => subst h; rfl
  case isFalse => rfl

theorem uartOf_uartLevel (s : State) (u w : Nat) : uartOf (uartLevel s u) w = uartOf s w := by
  unfold uartLevel uartOf; split <;> simp

theorem reg_uartLevel_ne (s : State) (u : Nat) {a : Nat} (h : evtStatus blkPin ≠ a) : (uartLevel s u).reg a = s.reg a := by
  unfold uartLevel; split
  · rfl
  · exact reg_setFlag_ne _ _ _ h

theorem flag_uartLevel_same {s : State} {u : Nat} (hu : 3 * u < 32) (h : (uartOf s u).rx ≠ []) :
    (uartLevel s u).flag (evtStatus blkPin) (3 * u) = true := by
  rw [uartLevel, if_neg (by simpa using h)]
  exact flag_setFlag _ _ _ _ hu

theorem flag_uartLevel_of_flag {s : State} {u j : Nat} (hu : 3 * u < 32) (h : s.flag (evtStatus blkPin) j = true) :
    (uartLevel s u).flag (evtStatus blkPin) j = true := by
  unfold uartLevel; split
  · exact h
  · by_cases c : 3 * u = j
    · subst c; exact flag_setFlag _ _ _ _ hu
    · rw [flag_setFlag_ne _ _ _ _ _ hu c, h]

/-- The bits written as ones are cleared where no level holds them. -/
theorem flag_evtClear (s : State) {b : Nat} (v n : Nat) (h : b ≠ blkPin) :
    (evtClear s b v).flag (evtStatus b) n = (s.flag (evtStatus b) n && !v.testBit n) := by
  rw [evtClear_eq, if_neg h, flag_setRegN _ _ _ (lt_of_le_of_lt (Nat.sub_le _ _) (regN_lt s _)), testBit_sub_land]
  rfl

theorem reg_evtClear_ne (s : State) (b v : Nat) {a : Nat} (h : evtStatus b ≠ a) : (evtClear s b v).reg a = s.reg a := by
  rw [evtClear_eq]; dsimp only; split
  case isTrue e =>
    rw [e] at h ⊢
    rw [reg_uartLevel_ne _ _ h, reg_uartLevel_ne _ _ h, reg_setRegN_ne _ _ h]
  case isFalse => exact reg_setRegN_ne _ _ h

/-- A UART's level bit stays while its FIFO holds a word (R549). -/
theorem flag_evtClear_uart {s : State} {u : Nat} (v : Nat) (hu : u < 2) (h : (uartOf s u).rx ≠ []) :
    (evtClear s blkPin v).flag (evtStatus blkPin) (3 * u) = true := by
  rw [evtClear_eq, if_pos rfl]
  have held (t : Nat) : uartOf (s.setRegN (evtStatus blkPin) t) u = uartOf s u := by unfold uartOf; simp
  obtain rfl | rfl : u = 0 ∨ u = 1 := by omega
  · exact flag_uartLevel_of_flag (by omega) (flag_uartLevel_same (by omega) (by rwa [held]))
  · exact flag_uartLevel_same (by omega) (by rwa [uartOf_uartLevel, held])

/-! EVT_COUNT_CLR. -/

/-- The counters below k whose bit is one cleared. -/
def zeroBelow (s : State) (b v k : Nat) : State :=
  (List.range k).foldl (fun s n => if v.testBit n then s.setRegN (evtCount b n) 0 else s) s

theorem fld_zeroBelow (s : State) (b v j : Nat) : ∀ k, (zeroBelow s b v k).fld (evtCount b j) 15 0 =
    if v.testBit j = true ∧ j < k then 0 else s.fld (evtCount b j) 15 0
  | 0 => by simp [zeroBelow]
  | k + 1 => by
    have step : zeroBelow s b v (k + 1) =
        if v.testBit k then (zeroBelow s b v k).setRegN (evtCount b k) 0 else zeroBelow s b v k := by
      simp [zeroBelow, List.range_succ]
    rw [step]
    by_cases e : k = j
    · subst e
      by_cases c : v.testBit k = true
      · simp [c, State.fld, regN_setRegN, bitsOf]
      · simp [c, fld_zeroBelow s b v k k]
    · have apart : (if v.testBit k then (zeroBelow s b v k).setRegN (evtCount b k) 0 else zeroBelow s b v k).reg (evtCount b j) =
          (zeroBelow s b v k).reg (evtCount b j) := by
        split
        · exact reg_setRegN_ne _ _ (fun c => e ((evtCount_inj b).mp c))
        · rfl
      rw [fld_of_reg 15 0 apart, fld_zeroBelow s b v j k]
      simp only [show j < k + 1 ↔ j < k by omega]

/-- A counter whose bit is one is cleared, another keeps its count. -/
theorem fld_evtCountZero (s : State) (b v : Nat) {j : Nat} (h : j < 32) :
    (evtCountZero s b v).fld (evtCount b j) 15 0 = if v.testBit j then 0 else s.fld (evtCount b j) 15 0 :=
  (fld_zeroBelow s b v j 32).trans (by simp [h])

/-! A write of EVT_STATUS and the counters: also where the security block does not answer the initiator (R501). -/

theorem secSees_false_block {s : State} {init a : Nat} {rd : Bool} (h : secSees s init a rd = false) : blockOf a = 9 := by
  unfold secSees at h
  simp only [Bool.or_eq_false_iff, bne_eq_false_iff_eq] at h
  obtain ⟨⟨hblk, -⟩, -⟩ := h
  exact hblk

theorem reg_busWrite_evtStatus_count (s : State) (init : Nat) {b : Nat} (n : Nat) (v : BitVec 32) (hb : b < 15) :
    (busWrite s init (evtStatus b) (leBytes 4 v.toNat)).reg (evtCount b n) = s.reg (evtCount b n) := by
  cases hs : secSees s init (evtStatus b) false
  case true => rw [busWrite_evtStatus v hb hs, reg_answer, reg_evtClear_ne _ _ _ (evt_apart b n).symm]
  case false =>
    have hsec : b = 9 := (blockOf_evtStatus hb).symm.trans (secSees_false_block hs)
    rw [busWrite_unseen hs, reg_answer, reg_busErr_decode (evtCount_high (by omega) n)]

/-! A READ at the scratchpad (R283, R298, R299). -/

theorem spDecode_zero : spDecode 0 = ⟨0, false, false⟩ := by decide +kernel

theorem spReadWord_clean {s : State} {w : Nat} (h : spErr s w = 0) : spReadWord s w = (s, false) := by
  unfold spReadWord
  rw [h, spDecode_zero]; rfl

theorem spReadWords_clean {s : State} : ∀ {l : List Nat}, (∀ w ∈ l, spErr s w = 0) → spReadWords s l = (s, false)
  | [], _ => rfl
  | w :: l, h => by
    have rest := spReadWords_clean (fun x hx => h x (List.mem_cons_of_mem w hx))
    unfold spReadWords at rest ⊢
    rw [List.foldl_cons, spReadWord_clean (h w List.mem_cons_self)]
    exact rest

theorem inRom_of_inScratch {a : Nat} (h : inScratch a = true) : inRom a = false := by
  simp only [inScratch, Bool.and_eq_true, decide_eq_true_eq] at h
  unfold scratchBase at h
  simp only [inRom, decide_eq_false_iff_not]; omega

/-- An answer of status OK adds its response and changes nothing else. -/
theorem ends_ok (s : State) {r : NocReq} (data : List Byte) (h : r.tag < 256) :
    ends_ s r 0 data = (s.setNoc { s.noc with resps := s.noc.resps ++ [⟨r, 0, data⟩] }, true) := by
  simp [ends_, accFault, respond, errNote, State.raiseIf, stDecode, orphan, Nat.not_le.mpr h]

section
variable {s : State} {r : NocReq} (ha : inScratch r.addr = true) (hb : spOn s (spBank r.addr) = true)
  (hw : ∀ w ∈ wordsOf r.addr r.len, spErr s w = 0)
include ha hb hw

/-- A read whose first bank is ON and whose words have no errors answers the bytes as an initiator without a KIX sees them. -/
theorem readAt_scratch (soft : Nat) (host : Option (List Byte)) : readAt s r soft host = ends_ s r 0 (s.viewBytes 0 r.addr r.len) := by
  simp [readAt, inRom_of_inScratch ha, ha, hb, spRead, spReadWords_clean hw]

theorem exec_nocRead_scratch {init : Fin 512} {tag : BitVec 9} (hd : dueReq s init.val tag.toNat 0 = some r) (ht : r.tag < 256) :
    exec (.nocRead init tag false 0 none) s = .next (s.setNoc
      { s.noc with resps := s.noc.resps ++ [⟨r, 0, s.viewBytes 0 r.addr r.len⟩], sent := s.noc.sent.erase r }) := by
  simp [execNocRead, perform, hd, readAt_scratch ha hb hw, ends_ok _ _ ht, State.setNoc]

end

theorem resps_data_inj {l : List NocResp} {r : NocReq} {k : Nat} {d e : List Byte}
    (h : l ++ [⟨r, k, d⟩] = l ++ [⟨r, k, e⟩]) : d = e := by
  simpa using h

theorem viewByte_eq_of_viewBytes {s : State} {k a n i : Nat} (h : s.viewBytes k a n = s.stored a n) (hi : i < n) :
    viewByte s k (a + i) = s.byte (a + i) :=
  List.map_inj_left.mp h i (List.mem_range.mpr hi)

/-! A request longer than any packet (R282: a request's bytes lie in one 256-byte block). -/

/-- A READ from the scratchpad's base that goes on to the first byte of local SDRAM. -/
def longRead : NocReq :=
  { init := 0, tag := 1, op := 0, cls := 0, kix := 0, await := false, e2e := false, addr := scratchBase,
    len := sdBase - scratchBase + 1, data := [] }

/-- Reset with that request outstanding and local SDRAM's first byte written but still in its merge entry (R313). -/
def longReadState : State :=
  State.setNoc { State.reset with ext := { chans := [(0, { merge := [{ line := sdBase / 64, bytes := [(0, 1)] }] })] } }
    { sent := [longRead] }

theorem viewByte_longRead : viewByte longReadState 0 (longRead.addr + (sdBase - scratchBase)) = 1 := by decide +kernel
theorem byte_longRead : longReadState.byte (longRead.addr + (sdBase - scratchBase)) = 0 := by decide +kernel

/-! The statements. -/

/-- Settles O7: a row without an act comes down to one register write, and its bits are those of `testBit_replace`. -/
theorem plainRegisterWrite : Obligations.PlainRegisterWrite := by
  intro s init a w row hc hu hs hi ha hw hrw hm hn hx
  refine ⟨_, exec_registerWrite_word w hc hu hs hi ha hw hx, rfl, fun n _ => ?_, fun j hj => ?_, sameMem_of_mem ?_⟩ <;>
    rw [regSet_rw hrw hn]
  · rw [flag_answer, flag_setRegN _ _ _ (replace_lt _ (regN_lt s _) hm), testBit_replace, BitVec.testBit_toNat]; rfl
  · rw [reg_answer, reg_setRegN_ne s _ (fun c => hj c.symm)]
  · simp

/-- Settles O8: the two refusals of `regSet`, and the decode error of an access that reaches nothing. -/
theorem refusedRegisterWrites : Obligations.RefusedRegisterWrites := by
  refine ⟨fun s init a w row hc hu hs hi ha hw hro hx => ?_, fun s init a w row hc hu hs hi ha hw hrwm hm hx => ?_,
    fun s init a data hc hu h6 h7 hs hi ha => ?_⟩
  case refine_1 => exact ⟨_, exec_registerWrite_word w hc hu hs hi ha hw hx, by rw [regSet_ro _ _ _ _ hro]⟩
  case refine_2 =>
    refine ⟨_, exec_registerWrite_word w hc hu hs hi ha hw hx, ?_⟩
    rw [regSet_rwm_refused _ _ _ hrwm hm]
    simp only [raised_answer, sameRegs_answer, sameMem_answer]
    exact ⟨rfl, flag_raise s _ 31 (by omega), sameRegs_raise s _ 31, sameMem_of_mem (s.raise_mem _ 31)⟩
  case refine_3 =>
    refine ⟨_, by rw [exec_registerWrite, execRegisterWrite_eq _ hc hu, busWrite_none hs hi ha], rfl, ?_⟩
    rw [busErr, accFault_other _ _ (fun c => h6 (Fin.ext c)) (fun c => h7 (Fin.ext c)), errNote_decode]
    simp only [raised_answer, sameMem_answer]
    refine ⟨flag_raise _ _ 0 (by omega), ?_, sameMem_of_mem (by simp)⟩
    rw [regN_answer, regN_of_reg (reg_raise _ _ _ _ (by decide) (by decide)), regN_count,
      regN_of_reg (reg_setRegN_ne _ _ (by decide)), regN_of_reg (reg_setRegN_ne _ _ (by decide))]

/-- Settles O9: word 0 read is `State.latch`; a read-only wide register takes no word. -/
theorem wideRegisters : Obligations.WideRegisters := by
  refine ⟨fun s init a row hwide hc hw hctrl hu hs hi => ?_, fun s init a v row w hwide hlast hro hctrl hu hs hi => ?_⟩
  case refine_1 =>
    refine ⟨(s.latch init a.toNat _).answer init 0 [(regRead s init a.toNat row).2 % 2 ^ 32], ?_, rfl,
      latchOf_latch_same s init a.toNat _, fun i b h => latchOf_latch_ne s _ h, rfl, rfl⟩
    simp [execWideRegisterWord0Read, hwide, hctrl, hu, ctrlRead_word hs hi hc, wideRead_zero s init a.toNat hw, leNat_leBytes]
  case refine_2 =>
    obtain ⟨hc, hw⟩ := wideAt_some hwide
    refine ⟨_, ?_, rfl⟩
    simp [execWideRegisterHighWrite, hwide, hctrl, hu, hlast, busWrite_word v hs hi hc, wideWrite_ro s _ _ _ _ hw hro]

/-- Settles O10: the events of the same cycle act after the write, so their bits and counts survive it. -/
theorem eventsW1cAndCounters : Obligations.EventsW1cAndCounters := by
  refine ⟨fun s init b v same => ⟨_, rfl, fun n hn hsame => ⟨?_, ?_⟩⟩, fun s init b v same hb hs => ⟨_, rfl, fun n hn => ?_⟩,
    fun s init v same u hu => ⟨_, rfl, ?_⟩, fun s init b v same hs => ⟨_, rfl, fun n hn => ?_⟩⟩
  case refine_1 => rw [flag_setSame _ _ _ hn, hsame, Bool.true_or]
  case refine_2 =>
    rw [fld_setSame _ _ _ hn, if_pos hsame, fld_of_reg 15 0 (reg_busWrite_evtStatus_count s init n v b.isLt)]
  case refine_3 =>
    rw [flag_setSame _ _ _ hn, busWrite_evtStatus v b.isLt hs, flag_answer, flag_evtClear _ _ _ hb, BitVec.testBit_toNat]
  case refine_4 =>
    have hs : secSees s init (evtStatus 13) false = true := rfl
    have hw : busWrite s init (evtStatus 13) (leBytes 4 v.toNat) = _ := busWrite_evtStatus v (by decide) hs
    change (setSame (busWrite s init (evtStatus 13) (leBytes 4 v.toNat)) 13 same).flag (evtStatus 13) (3 * u.val) = true
    rw [flag_setSame _ _ _ (by omega), hw, flag_answer]
    exact Bool.or_eq_true_iff.mpr (.inr (flag_evtClear_uart _ u.isLt hu))
  case refine_5 =>
    rw [fld_setSame _ _ _ hn, busWrite_evtCountClr v b.isLt hs, fld_answer, fld_evtCountZero _ _ _ hn, BitVec.testBit_toNat]
    cases v.getLsbD n <;> rfl

/-- Settles O11: no step of `State.raise` reads EVT_ENABLE, and the interrupt is a bit of the two registers' conjunction. -/
theorem interruptGate : Obligations.InterruptGate := by
  unfold Obligations.InterruptGate
  refine ⟨fun s b n h => ⟨flag_raise s b n h, fld_raise s b n, sameRegs_raise s b n, sameMem_of_mem (s.raise_mem b n)⟩,
    irqOf_iff, fun s b n e _ => ?_⟩
  have hs : (s.setReg (evtEnable b) e).regN (evtStatus b) = s.regN (evtStatus b) :=
    regN_of_reg (by rw [reg_setReg, if_neg (by unfold evtEnable evtStatus; omega)])
  rw [reg_raise_status, reg_raise_status, hs]

/-- Refutes O45: its clause of a READ at the scratchpad bounds no length. One that goes on past the scratchpad to a byte of local
SDRAM that stands in a merge entry answers the merged byte (R313), not the stored one. A request of R282 has at most 256 bytes; the
premise the clause lacks is `r.len ≤ 256`. -/
theorem not_nocTargets : ¬ Obligations.NocTargets := by
  intro h
  obtain ⟨read, -⟩ := h
  have clean : ∀ w ∈ wordsOf longRead.addr longRead.len, spErr longReadState w = 0 := fun _ _ => rfl
  have due : dueReq longReadState (0 : Fin 512).val (1 : BitVec 9).toNat 0 = some longRead := by decide +kernel
  have there : inScratch longRead.addr = true := by decide
  have on : spOn longReadState (spBank longRead.addr) = true := by decide +kernel
  obtain ⟨t, ht, -, claimed, -, -⟩ := read longReadState 0 1 longRead due (by decide) there on clean
  have answered := congrArg (·.noc.resps) (Host.Outcome.next.inj (ht.symm.trans (exec_nocRead_scratch there on clean due (by decide))))
  have same : longReadState.viewBytes 0 longRead.addr longRead.len = longReadState.stored longRead.addr longRead.len :=
    resps_data_inj (answered.symm.trans claimed)
  have last := viewByte_eq_of_viewBytes same (i := sdBase - scratchBase) (by decide)
  rw [viewByte_longRead, byte_longRead] at last
  exact absurd last (by decide)

end Sys2Proof.Machine
end

section
/-! SUPPORT. What the transitions of the Timeline state, of the mode and of the references keep: one invariant of a step, `Kept`, carried
through the functions that call each other here, so that a statement about a command names only the bits it reads. -/

namespace Sys2Proof.Machine

/-! Bits and fields of a register. -/

/-- A bit after a field of some register was written: the value's inside the field, else as before. -/
theorem flag_setFld (s : State) (a hi lo v j n : Nat) (h : lo ≤ hi) (h32 : hi < 32) :
    (s.setFld a hi lo v).flag j n = if a = j ∧ lo ≤ n ∧ n ≤ hi then v.testBit (n - lo) else s.flag j n := by
  unfold State.flag
  rw [regN_setFld s a j hi lo v h h32]
  by_cases e : a = j
  · subst e; simp [testBit_putBits _ _ _ _ _ h]
  · simp [e]

theorem fld_single (s : State) (a n : Nat) : s.fld a n n = bit (s.flag a n) := by
  rw [State.fld, bitsOf, Nat.add_sub_cancel_left, pow_one, ← Nat.toNat_testBit]
  unfold State.flag bit; cases (s.regN a).testBit n <;> rfl

theorem fld_eq_of_flag {s t : State} {a hi lo : Nat} (h : ∀ n, lo ≤ n → n ≤ hi → t.flag a n = s.flag a n) :
    t.fld a hi lo = s.fld a hi lo := by
  apply Nat.eq_of_testBit_eq; intro n
  simp only [State.fld, testBit_bitsOf]
  by_cases c : n < hi + 1 - lo
  · have e : (t.regN a).testBit (n + lo) = (s.regN a).testBit (n + lo) := h (n + lo) (by omega) (by omega)
    rw [e]
  · simp [c]

theorem regN_eq_of_flag {s t : State} {a : Nat} (h : ∀ n, t.flag a n = s.flag a n) : t.regN a = s.regN a :=
  Nat.eq_of_testBit_eq h

@[simp] theorem flag_setTim (s : State) (x : Timing) (a n : Nat) : (s.setTim x).flag a n = s.flag a n := rfl

theorem fld_addFld (s : State) (a hi lo n : Nat) (h : lo ≤ hi) (h32 : hi < 32) :
    (s.addFld a hi lo n).fld a hi lo = satNat (hi + 1 - lo) (s.fld a hi lo + n) := by
  unfold State.addFld
  rw [fld_setFld _ _ _ _ _ h h32, Nat.mod_eq_of_lt (satNat_lt _ _)]

/-- The flags of a timing-block register below the event registers read as before an event. -/
theorem flag_raise_below (s : State) {b n a j : Nat} (ha : a < evtStatus blkTim) (hb : 1 ≤ b) :
    (s.raise b n).flag a j = s.flag a j := by
  refine flag_of_reg j (reg_raise s b n a ?_ ?_)
  · unfold evtStatus blockBase blkTim at *; omega
  · unfold evtStatus evtCount blockBase blkTim at *; omega

theorem fld_raise_below (s : State) {b n a hi lo : Nat} (ha : a < evtStatus blkTim) (hb : 1 ≤ b) :
    (s.raise b n).fld a hi lo = s.fld a hi lo := fld_eq_of_flag fun _ _ _ => flag_raise_below s ha hb

/-- A state that differs from another in its registers alone. -/
def OnlyRegs (s t : State) : Prop := ∃ r, t = s.withRegs r

namespace OnlyRegs

variable {s t : State}

theorem refl (s : State) : OnlyRegs s s := ⟨s.regs, rfl⟩

theorem setRegN (h : OnlyRegs s t) (a v : Nat) : OnlyRegs s (t.setRegN a v) := by
  obtain ⟨r, rfl⟩ := h; exact ⟨_, rfl⟩

theorem setFld (h : OnlyRegs s t) (a hi lo v : Nat) : OnlyRegs s (t.setFld a hi lo v) := h.setRegN _ _
theorem setFlag (h : OnlyRegs s t) (a n : Nat) (b : Bool) : OnlyRegs s (t.setFlag a n b) := h.setRegN _ _
theorem raise (h : OnlyRegs s t) (b n : Nat) : OnlyRegs s (t.raise b n) := (h.setRegN _ _).setRegN _ _

theorem eq (h : OnlyRegs s t) : t = { s with regs := t.regs } := by obtain ⟨r, rfl⟩ := h; rfl
theorem tim (h : OnlyRegs s t) : t.tim = s.tim := by obtain ⟨r, rfl⟩ := h; rfl
theorem eq_tim (h : OnlyRegs s t) : t = { s with regs := t.regs, tim := t.tim } := by obtain ⟨r, rfl⟩ := h; rfl

end OnlyRegs

/-! What the Timeline's state machine, the mode machine and the gate keep. -/

/-- The registers below the timing block's event registers keep every bit but those of W, its events stand on, and memory and
the parts of the timing core that no transition of a state or a mode touches are as before. -/
structure Kept (W : Nat → Nat → Prop) (s t : State) : Prop where
  mem    : t.mem = s.mem
  tl     : t.tim.tl = s.tim.tl
  gnss   : t.tim.gnss = s.tim.gnss
  fresh  : t.tim.ptpFresh = s.tim.ptpFresh
  raised : ∀ n, Raised s blkTim n → Raised t blkTim n
  bits   : ∀ a n, a < evtStatus blkTim → ¬W a n → t.flag a n = s.flag a n

namespace Kept

variable {W V : Nat → Nat → Prop} {s t u : State}

theorem refl (s : State) : Kept W s s := ⟨rfl, rfl, rfl, rfl, fun _ h => h, fun _ _ _ _ => rfl⟩

theorem trans (h : Kept W s t) (k : Kept W t u) : Kept W s u :=
  ⟨k.mem.trans h.mem, k.tl.trans h.tl, k.gnss.trans h.gnss, k.fresh.trans h.fresh, fun n r => k.raised n (h.raised n r),
    fun a n ha hw => (k.bits a n ha hw).trans (h.bits a n ha hw)⟩

theorem mono (h : Kept W s t) (hv : ∀ a n, W a n → V a n) : Kept V s t :=
  ⟨h.mem, h.tl, h.gnss, h.fresh, h.raised, fun a n ha hw => h.bits a n ha (fun c => hw (hv a n c))⟩

/-- A step that leaves memory and the timing core. -/
theorem step (h : Kept W s t) (hm : u.mem = t.mem) (ht : u.tim = t.tim) (he : ∀ n, Raised t blkTim n → Raised u blkTim n)
    (hb : ∀ a n, a < evtStatus blkTim → ¬W a n → u.flag a n = t.flag a n) : Kept W s u :=
  h.trans ⟨hm, congrArg (·.tl) ht, congrArg (·.gnss) ht, congrArg (·.ptpFresh) ht, he, hb⟩

theorem sameMem (h : Kept W s t) : SameMem s t := sameMem_of_mem h.mem

theorem fld (h : Kept W s t) {a hi lo : Nat} (ha : a < evtStatus blkTim) (hw : ∀ n, lo ≤ n → n ≤ hi → ¬W a n) :
    t.fld a hi lo = s.fld a hi lo :=
  fld_eq_of_flag fun n hl hh => h.bits a n ha (hw n hl hh)

theorem regN (h : Kept W s t) {a : Nat} (ha : a < evtStatus blkTim) (hw : ∀ n, ¬W a n) : t.regN a = s.regN a :=
  regN_eq_of_flag fun n => h.bits a n ha (hw n)

/-- A change of nothing that is kept. -/
theorem of_regs (h : Kept W s t) (hr : u.regs = t.regs) (hm : u.mem = t.mem) (h1 : u.tim.tl = t.tim.tl)
    (h2 : u.tim.gnss = t.tim.gnss) (h3 : u.tim.ptpFresh = t.tim.ptpFresh) : Kept W s u := by
  have reg (a : Nat) : u.reg a = t.reg a := by unfold State.reg; rw [hr]
  exact h.trans ⟨hm, h1, h2, h3, fun n r => (flag_of_reg n (reg _)).trans r, fun a n _ _ => flag_of_reg n (reg a)⟩

/-- A write of a field whose bits may change. -/
theorem setFld (h : Kept W s t) {a hi lo v : Nat} (ha : a ≠ evtStatus blkTim) (hlo : lo ≤ hi) (hhi : hi < 32)
    (hw : ∀ n, lo ≤ n → n ≤ hi → W a n) : Kept W s (t.setFld a hi lo v) := by
  refine h.step (State.setFld_mem ..) (State.setFld_tim ..) (fun n r => ?_) (fun j n _ hj => ?_)
  · exact (flag_of_reg n (reg_setFld_ne t hi lo v ha)).trans r
  · rw [flag_setFld _ _ _ _ _ _ _ hlo hhi, if_neg]
    rintro ⟨rfl, hl, hh⟩
    exact hj (hw n hl hh)

theorem setFlag (h : Kept W s t) {a n : Nat} {b : Bool} (ha : a ≠ evtStatus blkTim) (hn : n < 32) (hw : W a n) :
    Kept W s (t.setFlag a n b) :=
  h.setFld ha le_rfl hn fun _ hl hh => Nat.le_antisymm hl hh ▸ hw

/-- A write of a register whose every bit may change. -/
theorem setRegN (h : Kept W s t) {a v : Nat} (ha : a ≠ evtStatus blkTim) (hw : a < evtStatus blkTim → ∀ n, W a n) :
    Kept W s (t.setRegN a v) := by
  refine h.step (State.setRegN_mem ..) (State.setRegN_tim ..) (fun n r => ?_) (fun j n hlt hj => ?_)
  · exact (flag_of_reg n (reg_setRegN_ne t v ha)).trans r
  · exact flag_of_reg n (reg_setRegN_ne t v fun e => hj (e ▸ hw (e ▸ hlt) n))

/-! Registers above: those of the blocks from 2 on, and the counters of the timing block's events. -/

theorem setRegN_above (h : Kept W s t) {a v : Nat} (ha : evtStatus blkTim < a) : Kept W s (t.setRegN a v) :=
  h.setRegN ha.ne' fun c => absurd c ha.asymm

theorem setFld_above (h : Kept W s t) {a hi lo v : Nat} (ha : evtStatus blkTim < a) : Kept W s (t.setFld a hi lo v) :=
  h.setRegN_above ha

theorem setFlag_above (h : Kept W s t) {a n : Nat} {b : Bool} (ha : evtStatus blkTim < a) : Kept W s (t.setFlag a n b) :=
  h.setRegN_above ha

theorem raise (h : Kept W s t) {b n : Nat} (hb : 1 ≤ b) (hn : n < 32) : Kept W s (t.raise b n) := by
  have hs : evtStatus blkTim ≤ evtStatus b := by unfold evtStatus blockBase blkTim; omega
  have hc : evtStatus blkTim < evtCount b n := by unfold evtStatus evtCount blockBase blkTim; omega
  refine h.step (State.raise_mem ..) (State.raise_tim ..) (fun m r => ?_) (fun a m ha _ => ?_)
  · unfold Raised at *
    by_cases e : b = blkTim
    · subst e
      by_cases c : n = m
      · subst c; exact flag_raise t _ n hn
      · rw [flag_raise_ne t _ n m hn c, r]
    · rw [flag_of_reg m (reg_raise t b n _ ?_ hc.ne), r]
      unfold evtStatus blockBase; omega
  · exact flag_of_reg m (reg_raise t b n a (by omega) (by omega))

theorem raiseIf (h : Kept W s t) {c : Bool} {b n : Nat} (hb : 1 ≤ b) (hn : n < 32) : Kept W s (t.raiseIf c b n) := by
  unfold State.raiseIf; split
  · exact h.raise hb hn
  · exact h

/-! Parts of the state beside the registers. -/

theorem lpp (h : Kept W s t) (x : Lpp) : Kept W s { t with lpp := x } := h.of_regs rfl rfl rfl rfl rfl
theorem ho (h : Kept W s t) (x : Holdover) : Kept W s { t with ho := x } := h.of_regs rfl rfl rfl rfl rfl
theorem took (h : Kept W s t) : Kept W s t.took := h.of_regs rfl rfl rfl rfl rfl
theorem tim (h : Kept W s t) {x : Timing} (h1 : x.tl = t.tim.tl) (h2 : x.gnss = t.tim.gnss)
    (h3 : x.ptpFresh = t.tim.ptpFresh) : Kept W s { t with tim := x } := h.of_regs rfl rfl h1 h2 h3

/-! The transmit gate (R509). -/

theorem outStat (h : Kept W s t) : Kept W s t.outStat := by
  unfold State.outStat; dsimp only
  exact ((((h.setFlag_above (by decide)).setFlag_above (by decide)).setFlag_above (by decide)).raiseIf (by decide)
    (by decide)).setFld_above (by decide)

theorem gateSettle (h : Kept W s t) : Kept W s t.gateSettle := by
  unfold State.gateSettle; split
  · have shut : Kept W s (t.setFlag Reg.OUT_STAT 0 false) := h.setFlag_above (by decide)
    exact ((shut.tim (x := { t.tim with outs := gatePads (t.setFlag Reg.OUT_STAT 0 false) }) rfl rfl rfl).raise (by decide)
      (by decide)).outStat
  · exact h.outStat

/-! The mode machine (R445, R458). -/

theorem permitSettle (h : Kept W s t) : Kept W s t.permitSettle := (h.setFlag_above (by decide)).gateSettle

theorem lppCut (h : Kept W s t) : Kept W s t.lppCut := by
  unfold State.lppCut; split
  · exact (h.lpp _).raise (by decide) (by decide)
  · exact h

theorem wakeStart (h : Kept W s t) (cause : Nat) : Kept W s (t.wakeStart cause) := by
  unfold State.wakeStart; split
  · exact h
  · have woken : Kept W s (((t.setRegN Reg.PWR_STBL_STAT (4 + cause * 16)).setRegN Reg.PWR_WAKE_PT t.pt).raise blkPwr 2) :=
      ((h.setRegN_above (by decide)).setRegN_above (by decide)).raise (by decide) (by decide)
    refine List.foldlRecOn _ _ ?_ fun u k d _ => ?_
    · split
      · exact woken.setFlag_above (by decide)
      · exact woken
    · dsimp only; split
      · exact k.setFld_above (by unfold Reg.PWR_PD_STAT evtStatus blockBase ctrlBase blkTim; omega)
      · exact k

theorem enterMode (h : Kept W s t) (m : Nat) : Kept W s (t.enterMode m) := by
  unfold State.enterMode
  by_cases same : t.mode = m
  · rw [if_pos same]; exact h
  · rw [if_neg same]; extract_lets old s1 s2 s3 s4 s5 s6 s7 s8
    have k1 : Kept W s s1 := by
      unfold s1; split
      · exact h.wakeStart _
      · exact h
    have k3 : Kept W s s3 := (k1.setFld_above (by decide)).setFld_above (by decide)
    have k4 : Kept W s s4 := by
      unfold s4; split
      · exact k3.setFlag_above (by decide)
      · exact k3
    have k6 : Kept W s s6 := (k4.raise (by decide) (by decide)).raiseIf (by decide) (by decide)
    have k7 : Kept W s s7 := by
      unfold s7; split
      · exact k6.lppCut
      · exact k6
    have k8 : Kept W s s8 := by
      unfold s8; split
      · exact (k7.raise (by decide) (by decide)).setRegN_above (by decide)
      · exact k7
    exact k8.permitSettle

theorem moveMode (h : Kept W s t) (m : Nat) : Kept W s (t.moveMode m) := by
  unfold State.moveMode
  split
  · split
    · exact h
    · have under : Kept W s (t.setFld Reg.PWR_MODE 7 4 m) := h.setFld_above (by decide)
      dsimp only; split
      · exact under.setFlag_above (by decide)
      · exact under
  · exact h.enterMode m

theorem followD (h : Kept W s t) : Kept W s t.followD := by
  unfold State.followD; dsimp only; split
  · exact h.moveMode _
  · exact h

end Kept

/-! Transitions of the Timeline state (R47, R67). -/

/-- The estimator's registers that a transition of the Timeline state writes. -/
def hoBits (a _n : Nat) : Prop := a = Reg.HO_UNC ∨ a = Reg.HO_ELAPSED

/-- These, and the state itself in TL_STATE. -/
def stateBits (a n : Nat) : Prop := hoBits a n ∨ (a = Reg.TL_STATE ∧ n < 3)

variable {s t : State}

theorem Kept.hoEnter (h : Kept hoBits s t) : Kept hoBits s t.hoEnter := by
  unfold State.hoEnter; extract_lets u s1 a s2 b s3 c s4
  have written : Kept hoBits s s1 :=
    ((h.setRegN (by decide) fun _ _ => .inl rfl).setRegN (by decide) fun _ _ => .inr rfl).raise (by decide) (by decide)
  exact written.took.took.took.ho _

theorem Kept.hoSaturate (h : Kept hoBits s t) : Kept hoBits s t.hoSaturate :=
  (h.setRegN (by decide) fun _ _ => .inl rfl).ho _

/-- The new Timeline state's bits in TL_STATE, STATE_CHG, and the loop's counts. -/
def State.putTl (s : State) (c : Nat) : State :=
  ((s.setFld Reg.TL_STATE 2 0 c).raise blkTim 0).setTim
    { s.tim with lockRun := 0, sSure := if c = tlAcquiring then false else s.tim.sSure }

/-- What the state entered brings to the estimator and the Legacy Pulse Port. -/
def State.enterTl (s : State) (c : Nat) : State :=
  if c = tlHoldover then s.hoEnter
  else if c = tlExpired then s.lppCut
  else if c = tlLocked then
    { s with ho := { s.ho with grow := false, zeroWt := none }, lpp := { s.lpp with hoStopped := false } }
  else State.lppCut { s with ho := { s.ho with grow := false } }

theorem setTl_of_ne {c : Nat} (h : s.tlState ≠ c) : s.setTl c = ((s.putTl c).enterTl c).followD := by
  rw [State.setTl, if_neg h]; rfl

theorem Kept.enterTl (h : Kept hoBits s t) (c : Nat) : Kept hoBits s (t.enterTl c) := by
  unfold State.enterTl
  split
  · exact h.hoEnter
  · split
    · exact h.lppCut
    · split
      · exact h.of_regs rfl rfl rfl rfl rfl
      · exact (h.ho _).lppCut

/-- All that follows the change of TL_STATE keeps TL_STATE. -/
theorem kept_after_state {c : Nat} (h : s.tlState ≠ c) : Kept hoBits (s.setFld Reg.TL_STATE 2 0 c) (s.setTl c) := by
  have put : Kept hoBits (s.setFld Reg.TL_STATE 2 0 c) (s.putTl c) :=
    ((Kept.refl (s.setFld Reg.TL_STATE 2 0 c)).raise (b := blkTim) (n := 0) (by decide) (by decide)).tim rfl rfl rfl
  rw [setTl_of_ne h]
  exact (put.enterTl c).followD

theorem kept_setTl (s : State) (c : Nat) : Kept stateBits s (s.setTl c) := by
  by_cases h : s.tlState = c
  · rw [State.setTl, if_pos h]; exact .refl s
  · exact ((Kept.refl s).setFld (by decide) (by decide) (by decide) fun n _ hn => .inr ⟨rfl, by omega⟩).trans
      ((kept_after_state h).mono fun _ _ => .inl)

theorem tlState_setTl (s : State) {c : Nat} (hc : c < 8) : (s.setTl c).tlState = c := by
  by_cases h : s.tlState = c
  · rw [State.setTl, if_pos h]; exact h
  · exact ((kept_after_state h).fld (by decide) (by unfold hoBits; decide)).trans
      ((fld_setFld s _ _ _ _ (by decide) (by decide)).trans (Nat.mod_eq_of_lt hc))

/-! The references (R38, R39, Table TLN-9). -/

/-- A register is the status of a reference. -/
def isRefStat (a : Nat) : Prop := ∃ r < 5, a = Reg.TL_REF_STAT r

/-- The bits that a new selection of the active reference writes, with those of a change of state. -/
def selectBits (a n : Nat) : Prop := hoBits a n ∨ a = Reg.TL_STATE ∨ (isRefStat a ∧ n = 1)

/-- These, and the flags of a reference qualified or lost. -/
def refBits (a n : Nat) : Prop := hoBits a n ∨ a = Reg.TL_STATE ∨ (isRefStat a ∧ n < 3)

theorem selectBits_of_stateBits {a n : Nat} (h : stateBits a n) : selectBits a n := h.imp_right fun c => .inl c.1
theorem refBits_of_selectBits {a n : Nat} (h : selectBits a n) : refBits a n := by
  refine h.imp_right fun c => c.imp_right fun ⟨hr, hn⟩ => ⟨hr, ?_⟩
  omega

theorem refStat_ne_evtStatus (r : Nat) : Reg.TL_REF_STAT r ≠ evtStatus blkTim := by
  unfold Reg.TL_REF_STAT evtStatus blockBase ctrlBase blkTim; omega

theorem kept_refSettle (s : State) : Kept selectBits s (refSettle s) := by
  have inState {n : Nat} : selectBits Reg.TL_STATE n := .inr (.inl rfl)
  unfold refSettle; dsimp only
  have start : Kept selectBits s (if activeRef s = s.refAct then s else s.setTim { s.tim with lockRun := 0 }) := by
    split
    · exact .refl s
    · exact (Kept.refl s).tim rfl rfl rfl
  have marked := List.foldlRecOn (List.range 5) (fun s' r => s'.setFlag (Reg.TL_REF_STAT r) 1 (activeRef s == some r)) start
    fun u k r hr => k.setFlag (refStat_ne_evtStatus r) (by decide) (.inr (.inr ⟨⟨r, List.mem_range.mp hr, rfl⟩, rfl⟩))
  split
  · exact (marked.setFlag (by decide) (by decide) inState).setFld (by decide) (by decide) (by decide) fun _ _ _ => inState
  · exact marked.setFlag (by decide) (by decide) inState

theorem kept_tlLose (s : State) : Kept selectBits s (tlLose s) := by
  have moved (c : Nat) := (kept_setTl s c).mono fun _ _ => selectBits_of_stateBits
  unfold tlLose; split
  · exact moved _
  · split
    · exact moved _
    · exact .refl s

theorem kept_tlGain (s : State) : Kept stateBits s (tlGain s) := by
  unfold tlGain; split
  · exact kept_setTl s _
  · exact .refl s

theorem kept_refQualify (s : State) {r : Nat} (hr : r < 5) : Kept refBits s (refQualify s r) := by
  have own : refBits (Reg.TL_REF_STAT r) 0 := .inr (.inr ⟨⟨r, hr, rfl⟩, by decide⟩)
  have first : Kept refBits s ((s.setFlag (Reg.TL_REF_STAT r) 0 true).raise blkTim 2) :=
    ((Kept.refl s).setFlag (refStat_ne_evtStatus r) (by decide) own).raise (by decide) (by decide)
  have selected (t : State) : Kept refBits t (tlGain (refSettle t)) :=
    ((kept_refSettle t).trans ((kept_tlGain _).mono fun _ _ => selectBits_of_stateBits)).mono fun _ _ => refBits_of_selectBits
  unfold refQualify; dsimp only
  refine .trans ?_ (selected _)
  split
  · exact first.tim rfl rfl rfl
  · exact first

/-- A reference's own flags and events of its loss written, before the selection anew. -/
def refDrop (s : State) (r : Nat) (dis : Bool) : State :=
  let s := if dis then (s.setFlag (Reg.TL_REF_STAT r) 2 true).raise blkTim 4 else s
  let s := (s.setFlag (Reg.TL_REF_STAT r) 0 false).raise blkTim 3
  if r = 2 then s.setTim { s.tim with requal := false } else s

theorem refLose_eq (s : State) (r : Nat) (dis : Bool) :
    refLose s r dis = if refQual s r || (r == 2 && s.tim.requal) then tlLose (refSettle (refDrop s r dis)) else s := rfl

theorem kept_refDrop (s : State) {r : Nat} (dis : Bool) (hr : r < 5) : Kept refBits s (refDrop s r dis) := by
  have own {n : Nat} (hn : n < 3) : refBits (Reg.TL_REF_STAT r) n := .inr (.inr ⟨⟨r, hr, rfl⟩, hn⟩)
  unfold refDrop; extract_lets s1 s2
  have k1 : Kept refBits s s1 := by
    unfold s1; split
    · exact ((Kept.refl s).setFlag (refStat_ne_evtStatus r) (by decide) (own (by decide))).raise (by decide) (by decide)
    · exact .refl s
  have k2 : Kept refBits s s2 :=
    (k1.setFlag (refStat_ne_evtStatus r) (by decide) (own (by decide))).raise (by decide) (by decide)
  split
  · exact k2.tim rfl rfl rfl
  · exact k2

theorem refStat_below {r : Nat} (hr : r < 5) : Reg.TL_REF_STAT r < evtStatus blkTim := by
  unfold Reg.TL_REF_STAT evtStatus blockBase ctrlBase blkTim; omega

theorem lost_marked (s : State) {r : Nat} (hr : r < 5) :
    refQual ((s.setFlag (Reg.TL_REF_STAT r) 0 false).raise blkTim 3) r = false ∧
      Raised ((s.setFlag (Reg.TL_REF_STAT r) 0 false).raise blkTim 3) blkTim 3 := by
  refine ⟨?_, flag_raise _ _ _ (by decide)⟩
  unfold refQual
  rw [flag_raise_below _ (refStat_below hr) (by decide), flag_setFlag _ _ _ _ (by decide)]

theorem refDrop_lost (s : State) {r : Nat} (dis : Bool) (hr : r < 5) :
    refQual (refDrop s r dis) r = false ∧ Raised (refDrop s r dis) blkTim 3 := by
  unfold refDrop; dsimp only
  generalize (if dis = true then (s.setFlag (Reg.TL_REF_STAT r) 2 true).raise blkTim 4 else s) = u
  split
  · simp only [refQual, Raised, flag_setTim]
    exact lost_marked u hr
  · exact lost_marked u hr

theorem kept_select (s : State) : Kept selectBits s (tlLose (refSettle s)) := (kept_refSettle s).trans (kept_tlLose _)

theorem kept_refLose (s : State) {r : Nat} (dis : Bool) (hr : r < 5) : Kept refBits s (refLose s r dis) := by
  rw [refLose_eq]; split
  · exact (kept_refDrop s dis hr).trans ((kept_select _).mono fun _ _ => refBits_of_selectBits)
  · exact .refl s

theorem not_selectBits_refStat {r n : Nat} (hr : r < 5) (hn : n ≠ 1) : ¬selectBits (Reg.TL_REF_STAT r) n := by
  unfold selectBits hoBits Reg.TL_REF_STAT Reg.HO_UNC Reg.HO_ELAPSED Reg.TL_STATE
  rintro ((h | h) | h | ⟨-, h⟩)
  · omega
  · omega
  · omega
  · exact hn h

/-- A qualified reference lost (Table TLN-4). -/
theorem refLose_lost {s : State} {r : Nat} (dis : Bool) (hr : r < 5) (h : refQual s r = true) :
    refQual (refLose s r dis) r = false ∧ Raised (refLose s r dis) blkTim 3 := by
  obtain ⟨hq, he⟩ := refDrop_lost s dis hr
  rw [refLose_eq, h, Bool.true_or, if_pos rfl]
  exact ⟨((kept_select _).bits _ 0 (refStat_below hr) (not_selectBits_refStat hr (by decide))).trans hq,
    (kept_select _).raised 3 he⟩

end Sys2Proof.Machine
end

section
/-! PROOFS. The statements of 01_timeline.md: cycles and frames (R25, R27), oscillators (R29, R30), references (R33…R37); a statement
about steps (R44) and one about the Relay's roles (R396) refuted. -/

namespace Sys2Proof.Machine

/-! Oscillators (R29, R30). -/

/-- The state in which the PLL has taken oscillator k, before the build-out moves the Timeline. -/
def oscMark (s : State) (k : Nat) (fromVco : Bool) : State :=
  let s := ((s.setFlag Reg.TL_OSC_STAT 2 (k == 1)).setFlag Reg.TL_OSC_STAT 3 false).raise blkTim 7
  if s.tlState = tlHoldover ∧ !fromVco then setUnc s (s.ho.unc + 256 * 2 ^ 40) else s

/-- The build-out's move of the Timeline, a free value. -/
def oscMove (s : State) : Int := (s.free % 131073 : Nat) - 65536

theorem natAbs_oscMove (s : State) : (oscMove s).natAbs ≤ 65536 := by unfold oscMove; omega

theorem oscTake_eq (s : State) (k : Nat) (fromVco : Bool) : oscTake s k fromVco =
    (oscMark s k fromVco).took.setTim
      { (oscMark s k fromVco).tim with tl := tlAdd (oscMark s k fromVco).tim.tl (oscMove (oscMark s k fromVco)) } := rfl

/-- Bits 2 and 3 of TL_OSC_STAT, and the estimator's. -/
def oscBits (a n : Nat) : Prop := hoBits a n ∨ (a = Reg.TL_OSC_STAT ∧ 2 ≤ n)

theorem kept_setUnc {W : Nat → Nat → Prop} {s t : State} (h : Kept W s t) (u : Nat) (hw : ∀ n, W Reg.HO_UNC n) :
    Kept W s (setUnc t u) := (h.ho _).setRegN (by decide) fun _ n => hw n

theorem kept_oscMark (s : State) (k : Nat) (fromVco : Bool) : Kept oscBits s (oscMark s k fromVco) := by
  have inOsc {n : Nat} (h : 2 ≤ n) : oscBits Reg.TL_OSC_STAT n := .inr ⟨rfl, h⟩
  unfold oscMark; extract_lets s1
  have k1 : Kept oscBits s s1 := (((Kept.refl s).setFlag (by decide) (by decide) (inOsc (by decide))).setFlag (by decide)
    (by decide) (inOsc (by decide))).raise (by decide) (by decide)
  split
  · exact kept_setUnc k1 _ fun _ => .inl (.inl rfl)
  · exact k1

theorem oscMark_spec (s : State) (k : Nat) (fromVco : Bool) : (oscMark s k fromVco).flag Reg.TL_OSC_STAT 2 = (k == 1) ∧
    (oscMark s k fromVco).flag Reg.TL_OSC_STAT 3 = false ∧ Raised (oscMark s k fromVco) blkTim 7 := by
  unfold oscMark; extract_lets s1
  have marked : s1.flag Reg.TL_OSC_STAT 2 = (k == 1) ∧ s1.flag Reg.TL_OSC_STAT 3 = false ∧ Raised s1 blkTim 7 := by
    refine ⟨?_, ?_, flag_raise _ _ _ (by decide)⟩
    · rw [flag_raise_below _ (by decide) (by decide), flag_setFlag_ne _ _ _ _ _ (by decide) (by decide),
        flag_setFlag _ _ _ _ (by decide)]
    · rw [flag_raise_below _ (by decide) (by decide), flag_setFlag _ _ _ _ (by decide)]
  split
  · have k2 : Kept hoBits s1 (setUnc s1 (s1.ho.unc + 256 * 2 ^ 40)) := kept_setUnc (.refl s1) _ fun _ => .inl rfl
    obtain ⟨h2, h3, h7⟩ := marked
    exact ⟨(k2.bits _ 2 (by decide) (by unfold hoBits; decide)).trans h2,
      (k2.bits _ 3 (by decide) (by unfold hoBits; decide)).trans h3, k2.raised 7 h7⟩
  · exact marked

/-- What every switch of the PLL to oscillator k shows (R29, R30): no correction event, no change of the Timeline state. -/
def Switched (k : Nat) (s t : State) : Prop :=
  oscActive t = k ∧ Raised t blkTim 7 ∧ t.flag Reg.TL_OSC_STAT 3 = false ∧ t.tlState = s.tlState ∧
    t.regN Reg.TL_LAST_CORR = s.regN Reg.TL_LAST_CORR ∧ (∃ d : Int, d.natAbs ≤ 65536 ∧ t.tim.tl = tlAdd s.tim.tl d) ∧ SameMem s t

/-- TL_OSC_STAT's bits, and the estimator's. -/
def oscStatBits (a n : Nat) : Prop := hoBits a n ∨ a = Reg.TL_OSC_STAT

theorem oscTake_switched {s u : State} {k : Nat} (fromVco : Bool) (hk : k < 2) (h : Kept oscStatBits s u) :
    Switched k s (oscTake u k fromVco) := by
  obtain ⟨h2, h3, h7⟩ := oscMark_spec u k fromVco
  have kept := h.trans ((kept_oscMark u k fromVco).mono fun _ _ => Or.imp_right And.left)
  rw [oscTake_eq]
  refine ⟨?_, h7, h3, kept.fld (by decide) fun _ _ _ => ?_, kept.regN (by decide) fun _ => ?_,
    ⟨oscMove (oscMark u k fromVco), natAbs_oscMove _, ?_⟩, kept.sameMem⟩
  · refine (fld_single (oscMark u k fromVco) Reg.TL_OSC_STAT 2).trans ?_
    rw [h2]
    obtain rfl | rfl : k = 0 ∨ k = 1 := by omega
    · rfl
    · rfl
  · unfold oscStatBits hoBits; decide
  · unfold oscStatBits hoBits; decide
  · exact congrArg (tlAdd · _) kept.tl

/-- A switch leaves the oscillators' quality. -/
theorem oscGood_oscTake (s : State) (k : Nat) (fromVco : Bool) {j : Nat} (hj : j < 2) :
    oscGood (oscTake s k fromVco) j = oscGood s j :=
  (kept_oscMark s k fromVco).bits _ j (by decide) (by unfold oscBits hoBits Reg.TL_OSC_STAT Reg.HO_UNC Reg.HO_ELAPSED; omega)

theorem kept_setOscGood (s : State) {k : Nat} (b : Bool) (hk : k < 32) :
    Kept oscStatBits s (s.setFlag Reg.TL_OSC_STAT k b) :=
  (Kept.refl s).setFlag (by decide) hk (.inr rfl)

/-- The oscillator lost is the one the PLL runs on and the other is good: OSC_LOST switches. -/
theorem exec_oscLost_switch {s : State} {b : Bool} (hckt : s.tim.ckt = true) (hact : oscActive s = bit b)
    (hgood : oscGood s (1 - bit b) = true) :
    exec (.oscLost b) s = .next (oscTake (s.setFlag Reg.TL_OSC_STAT (bit b) false) (1 - bit b) false) := by
  have hb : bit b < 2 := by cases b <;> decide
  have active : oscActive (s.setFlag Reg.TL_OSC_STAT (bit b) false) = bit b :=
    (fld_setFld_apart s _ _ _ _ _ _ le_rfl (by omega) (by omega)).trans hact
  have good : oscGood (s.setFlag Reg.TL_OSC_STAT (bit b) false) (1 - bit b) = true :=
    (flag_setFlag_ne _ _ _ _ _ (by omega) (by omega)).trans hgood
  rw [exec_oscLost, execOscLost, if_pos ⟨by rw [State.setFlag_tim]; exact hckt, active, good⟩]

/-- The state in which both oscillators have been lost, before the Timeline state follows. -/
def onVco (s : State) : State := ((s.setFld Reg.TL_OSC_STAT 1 0 0).setFlag Reg.TL_OSC_STAT 3 true).raise blkTim 8

theorem kept_onVco (s : State) : Kept oscStatBits s (onVco s) :=
  (((Kept.refl s).setFld (by decide) (by decide) (by decide) fun _ _ _ => .inr rfl).setFlag (by decide) (by decide)
    (.inr rfl)).raise (by decide) (by decide)

theorem tlState_onVco (s : State) : (onVco s).tlState = s.tlState :=
  (kept_onVco s).fld (by decide) (by unfold oscStatBits hoBits; decide)

theorem onVco_flags (s : State) : oscGood (onVco s) 0 = false ∧ oscGood (onVco s) 1 = false ∧
    (onVco s).flag Reg.TL_OSC_STAT 3 = true ∧ Raised (onVco s) blkTim 8 := by
  refine ⟨?_, ?_, ?_, flag_raise _ _ _ (by decide)⟩
  · rw [oscGood, onVco, flag_raise_below _ (by decide) (by decide), flag_setFlag_ne _ _ _ _ _ (by decide) (by decide),
      flag_setFld _ _ _ _ _ _ _ (by decide) (by decide), if_pos (by decide)]
    decide
  · rw [oscGood, onVco, flag_raise_below _ (by decide) (by decide), flag_setFlag_ne _ _ _ _ _ (by decide) (by decide),
      flag_setFld _ _ _ _ _ _ _ (by decide) (by decide), if_pos (by decide)]
    decide
  · rw [onVco, flag_raise_below _ (by decide) (by decide), flag_setFlag _ _ _ _ (by decide)]

theorem onVco_onlyRegs (s : State) : OnlyRegs s (onVco s) :=
  (((OnlyRegs.refl s).setFld _ _ _ _).setFlag _ _ _).raise _ _

theorem regN_hoSaturate (s : State) : s.hoSaturate.regN Reg.HO_UNC = 0xFFFFFFFF := by
  change (s.setRegN Reg.HO_UNC 0xFFFFFFFF).regN Reg.HO_UNC = _
  rw [regN_setRegN, if_pos rfl]; rfl

theorem not_stateBits_oscStat (n : Nat) : ¬stateBits Reg.TL_OSC_STAT n := by
  unfold stateBits hoBits Reg.TL_OSC_STAT Reg.HO_UNC Reg.HO_ELAPSED Reg.TL_STATE; omega

theorem exec_bothOscLost_ckt {s : State} (h : s.tim.ckt = true) : exec .bothOscLost s =
    if s.tlState = tlFree then .next (onVco s) else .next ((onVco s).setTl tlExpired).hoSaturate := by
  have hckt : (s.setFld Reg.TL_OSC_STAT 1 0 0).tim.ckt = true := by rw [State.setFld_tim]; exact h
  rw [exec_bothOscLost, execBothOscLost]
  dsimp only
  rw [if_pos hckt, ← tlState_onVco s]
  rfl

theorem exec_oscGoodAgain_b {s : State} (hb : oscNominal s 1 ≠ 0) (hvco : s.flag Reg.TL_OSC_STAT 3 = true) :
    exec (.oscGoodAgain false true) s = .next (oscTake (s.setFlag Reg.TL_OSC_STAT 1 true) 1 true) := by
  have vco : (s.setFlag Reg.TL_OSC_STAT 1 true).flag Reg.TL_OSC_STAT 3 = true :=
    (flag_setFlag_ne _ _ _ _ _ (by decide) (by decide)).trans hvco
  simp [execOscGoodAgain, hb, vco, bit]

theorem exec_oscGoodAgain_both {s : State} (ha : oscNominal s 0 ≠ 0) (hb : oscNominal s 1 ≠ 0)
    (hvco : s.flag Reg.TL_OSC_STAT 3 = true) : exec (.oscGoodAgain true true) s =
      .next (oscTake ((s.setFlag Reg.TL_OSC_STAT 0 true).setFlag Reg.TL_OSC_STAT 1 true) (s.fld Reg.TL_OSC_CFG 0 0) true) := by
  have vco : ((s.setFlag Reg.TL_OSC_STAT 0 true).setFlag Reg.TL_OSC_STAT 1 true).flag Reg.TL_OSC_STAT 3 = true := by
    rw [flag_setFlag_ne _ _ _ _ _ (by decide) (by decide), flag_setFlag_ne _ _ _ _ _ (by decide) (by decide), hvco]
  have preferred : ((s.setFlag Reg.TL_OSC_STAT 0 true).setFlag Reg.TL_OSC_STAT 1 true).fld Reg.TL_OSC_CFG 0 0 =
      s.fld Reg.TL_OSC_CFG 0 0 :=
    fld_of_reg 0 0 ((reg_setFlag_ne _ _ _ (by decide)).trans (reg_setFlag_ne _ _ _ (by decide)))
  simp [execOscGoodAgain, ha, hb, vco, preferred]

theorem fld_bit_lt (s : State) (a : Nat) : s.fld a 0 0 < 2 := bitsOf_lt _ 0 0

/-- Settles O12: every switch is `oscTake`; the loss of both is `onVco` and then the state's transition, which keeps what
`onVco` shows. -/
theorem oscillatorSwitch : Obligations.OscillatorSwitch := by
  refine ⟨fun s b hckt hact hgood => ?_, fun s hckt hfree => ?_, fun s hckt hfree => ?_, fun s hb hvco => ?_,
    fun s ha hb hvco => ?_, fun s hrev hckt hvco hact hgood => ?_⟩
  case refine_1 =>
    have hb : bit b < 2 := by cases b <;> decide
    refine ⟨_, exec_oscLost_switch hckt hact hgood, ?_, oscTake_switched false (by omega) (kept_setOscGood s false (by omega))⟩
    rw [oscGood_oscTake _ _ _ hb]
    exact flag_setFlag _ _ _ _ (by omega)
  case refine_2 =>
    refine ⟨_, (exec_bothOscLost_ckt hckt).trans (if_neg hfree), ?_⟩
    obtain ⟨h0, h1, h3, h8⟩ := onVco_flags s
    have kept : Kept stateBits (onVco s) ((onVco s).setTl tlExpired).hoSaturate :=
      (kept_setTl _ _).trans ((Kept.refl _).hoSaturate.mono fun _ _ => .inl)
    have osc (n : Nat) : ((onVco s).setTl tlExpired).hoSaturate.flag Reg.TL_OSC_STAT n = (onVco s).flag Reg.TL_OSC_STAT n :=
      kept.bits _ n (by decide) (not_stateBits_oscStat n)
    refine ⟨(osc 0).trans h0, (osc 1).trans h1, (osc 3).trans h3, kept.raised 8 h8, ?_, ?_⟩
    · exact ((Kept.refl _).hoSaturate.fld (by decide) (by unfold hoBits; decide)).trans (tlState_setTl _ (by decide))
    · exact regN_hoSaturate _
  case refine_3 =>
    obtain ⟨-, -, h3, h8⟩ := onVco_flags s
    exact ⟨_, (exec_bothOscLost_ckt hckt).trans (if_pos hfree), h3, h8, (tlState_onVco s).trans hfree, (onVco_onlyRegs s).eq_tim⟩
  case refine_4 =>
    refine ⟨_, exec_oscGoodAgain_b hb hvco, ?_, oscTake_switched true (by decide) (kept_setOscGood s true (by decide))⟩
    rw [oscGood_oscTake _ _ _ (by decide)]
    exact flag_setFlag _ _ _ _ (by decide)
  case refine_5 =>
    exact ⟨_, exec_oscGoodAgain_both ha hb hvco, oscTake_switched true (fld_bit_lt s _)
      ((kept_setOscGood s true (by decide)).trans (kept_setOscGood _ true (by decide)))⟩
  case refine_6 =>
    refine ⟨oscTake s (s.fld Reg.TL_OSC_CFG 0 0) false, ?_, oscTake_switched false (fld_bit_lt s _) (.refl s)⟩
    simp [execOscRevert, hrev, hckt, hvco, hact, hgood]

/-! The passing of a cycle (R27). -/

theorem tlAdd_natCast (tl d : Nat) : tlAdd tl d = (tl + d) % tlWrap := by
  rw [tlAdd, ← Int.natCast_add, ← Int.natCast_emod, Int.toNat_natCast]

/-- Settles O2: on an empty queue a step is `idle`. -/
theorem idleCycle : Obligations.IdleCycle := by
  refine ⟨fun s hq hckt _ => ⟨idle s, by simp [step, hq], ?_⟩, fun s hq hckt => by simp [step, hq, idle, hckt]⟩
  have moved : (idle s).tim.tl = (s.tim.tl + 4 * 65536) % tlWrap := by
    rw [idle, if_pos hckt]; exact tlAdd_natCast _ _
  refine ⟨moved, ?_⟩
  rw [idle, if_pos hckt]
  exact ⟨rfl, rfl, hq⟩

/-! The frame position (R25). -/

/-- The word of R25 from its parts. -/
def frameWord (sfn sub slot : Nat) : Nat := sfn + sub * 2 ^ 10 + slot * 2 ^ 14 + 2 ^ 31

variable {sfn sub slot : Nat}

theorem frameWord_sfn (h : sfn < 1024) : bitsOf (frameWord sfn sub slot) 9 0 = sfn := by unfold bitsOf frameWord; omega

theorem frameWord_sub (h : sfn < 1024) (h2 : sub < 16) : bitsOf (frameWord sfn sub slot) 13 10 = sub := by
  unfold bitsOf frameWord; omega

theorem frameWord_slot (h : sfn < 1024) (h2 : sub < 16) (h3 : slot < 256) : bitsOf (frameWord sfn sub slot) 21 14 = slot := by
  unfold bitsOf frameWord; omega

theorem frameWord_valid (h : sfn < 1024) (h2 : sub < 16) (h3 : slot < 256) : (frameWord sfn sub slot).testBit 31 = true := by
  rw [Nat.testBit_eq_decide_div_mod_eq, decide_eq_true_eq]; unfold frameWord; omega

theorem framePos_eq {tl mu : Nat} (hs : 315964819 ≤ tlS tl) (hm : mu ≤ 4) : framePos tl mu =
    frameWord (((tlS tl - 315964819) * 100 + tlT tl / 19660800) % 1024) (tlT tl % 19660800 / 1966080)
      (tlT tl % 19660800 / (1966080 / 2 ^ mu)) := by
  simp [framePos, frameWord, Nat.not_lt.mpr hs, Nat.not_lt.mpr hm]

/-- A frame of 10 ms has 10 × 2^µ slots (R25). -/
theorem slot_lt (x : Nat) {mu : Nat} (hm : mu ≤ 4) : x % 19660800 / (1966080 / 2 ^ mu) < 10 * 2 ^ mu := by
  interval_cases mu <;> omega

/-- Settles O17: the parts stay in their fields of the word. -/
theorem timelineFormatAndFrames : Obligations.TimelineFormatAndFrames := by
  refine ⟨fun tl mu h => if_pos h, fun tl mu hs hm => ?_⟩
  have hsub : tlT tl % 19660800 / 1966080 ≤ 9 := by omega
  have hslot := slot_lt (tlT tl) hm
  have hfit : 10 * 2 ^ mu ≤ 160 := Nat.mul_le_mul_left 10 (Nat.pow_le_pow_right (by decide) hm)
  have h1 : ((tlS tl - 315964819) * 100 + tlT tl / 19660800) % 1024 < 1024 := Nat.mod_lt _ (by decide)
  have h2 : tlT tl % 19660800 / 1966080 < 16 := by omega
  have h3 : tlT tl % 19660800 / (1966080 / 2 ^ mu) < 256 := by omega
  rw [framePos_eq hs hm, frameWord_sfn h1, frameWord_sub h1 h2, frameWord_slot h1 h2 h3]
  exact ⟨rfl, rfl, hsub, rfl, hslot, frameWord_valid h1 h2 h3⟩

/-! SyncE (R37). -/

theorem exec_synceLoss_qual {s : State} (h : refQual s 3 = true) :
    exec .synceLoss s = .next ((s.setFlag (Reg.TL_REF_STAT 3) 0 false).raise blkTim 3) := by
  rw [exec_synceLoss, execSynceLoss, if_pos h]

/-- What TL_STATE reports of the active reference is kept by a transition of the state. -/
theorem refAct_tlGain (s : State) : (tlGain s).refAct = s.refAct := by
  have active : (tlGain s).flag Reg.TL_STATE 7 = s.flag Reg.TL_STATE 7 :=
    (kept_tlGain s).bits _ 7 (by decide) (by unfold stateBits hoBits; decide)
  have number : (tlGain s).fld Reg.TL_STATE 6 4 = s.fld Reg.TL_STATE 6 4 :=
    (kept_tlGain s).fld (by decide) fun n hn _ => by
      unfold stateBits hoBits Reg.TL_STATE Reg.HO_UNC Reg.HO_ELAPSED; omega
  unfold State.refAct; rw [active, number]

/-- A gain of references reaches ACQUIRING at most, so a state LOCKED after it was LOCKED before. -/
theorem locked_of_tlGain {s : State} (h : (tlGain s).tlState = tlLocked) : s.tlState = tlLocked := by
  unfold tlGain at h
  split at h
  · rw [tlState_setTl s (by decide)] at h
    exact absurd h (by decide)
  · exact h

/-- Settles O14: SYNCE_LOSS writes TL_REF_STAT and an event; a sample of a reference that is not active ends in `tlGain`. -/
theorem syncELossKeepsState : Obligations.SyncELossKeepsState := by
  refine ⟨fun s => ?_, fun s e sure hact hlock => ?_⟩
  case refine_1 =>
    cases h : refQual s 3
    case false => exact ⟨s, by rw [exec_synceLoss, execSynceLoss, if_neg (by simp [h])], rfl, rfl⟩
    case true =>
      refine ⟨_, exec_synceLoss_qual h, ?_, (((OnlyRegs.refl s).setFlag _ _ _).raise _ _).tim⟩
      rw [reg_raise _ _ _ _ (by decide) (by decide), reg_setFlag_ne _ _ _ (by decide)]
  case refine_2 =>
    have entry : (s.setRegN (Reg.TL_REF_OFS 3) (errWord e)).refAct = s.refAct := by
      unfold State.refAct
      rw [flag_of_reg 7 (reg_setRegN_ne _ _ (by decide)), fld_of_reg 6 4 (reg_setRegN_ne _ _ (by decide))]
    have passive : (tlGain (s.setRegN (Reg.TL_REF_OFS 3) (errWord e))).refAct ≠ some 3 := by
      rw [refAct_tlGain, entry]; exact hact
    rw [refSample] at hlock
    dsimp only at hlock
    rw [if_neg passive] at hlock
    exact (fld_of_reg 2 0 (reg_setRegN_ne _ _ (by decide))).symm.trans (locked_of_tlGain hlock)

/-! GNSS (R33, R34). -/

/-- The registers of the timestamp inputs. -/
def tsiBits (a _n : Nat) : Prop := 0x41030000 ≤ a

theorem tsiStat_range {n : Nat} (h : n < 10) : 0x41030000 ≤ Reg.TSI_STAT n ∧ Reg.TSI_STAT n < evtStatus blkTim := by
  unfold Reg.TSI_STAT evtStatus blockBase ctrlBase blkTim; omega

theorem tsiDrop_range {n : Nat} (h : n < 10) : 0x41030000 ≤ Reg.TSI_DROP n ∧ Reg.TSI_DROP n < evtStatus blkTim := by
  unfold Reg.TSI_DROP evtStatus blockBase ctrlBase blkTim; omega

theorem kept_setTsInput {W : Nat → Nat → Prop} {s t : State} (h : Kept W s t) (n : Nat) (i : TsInput) :
    Kept W s (setTsInput t n i) := h.tim rfl rfl rfl

/-- The capture of an edge writes its input's registers and events. -/
theorem kept_tsiCapture (s : State) {n : Nat} (rising : Bool) (v : Nat) (h : n < 10) :
    Kept tsiBits s (tsiCapture s n rising v) := by
  obtain ⟨hs, hs'⟩ := tsiStat_range h
  obtain ⟨hd, hd'⟩ := tsiDrop_range h
  unfold tsiCapture
  split
  · exact .refl s
  · dsimp only; split
    · exact (Kept.refl s).setFld hs'.ne (by decide) (by decide) fun _ _ _ => hs
    · split
      · exact ((kept_setTsInput (.refl s) n _).setFld hd'.ne (by decide) (by decide) fun _ _ _ => hd).raise (by decide) (by decide)
      · unfold tsiStat; rw [if_pos h]
        exact ((kept_setTsInput (.refl s) n _).setFlag hs'.ne (by decide) hs).setFld hs'.ne (by decide) (by decide) fun _ _ _ => hs

/-- What a capture leaves of the reference path. -/
theorem reference_of_capture {s t : State} (h : Kept tsiBits s t) {r : Nat} (hr : r < 5) :
    refEn t r = refEn s r ∧ t.flag (Reg.TL_REF_CFG r) 1 = s.flag (Reg.TL_REF_CFG r) 1 ∧ t.tlState = s.tlState ∧
      (∀ x, compensated t r x = compensated s r x) ∧
      t.fld (Reg.TL_REF_STAT r) 31 16 = s.fld (Reg.TL_REF_STAT r) 31 16 ∧ (s.tlState = tlLocked → refWindow t = refWindow s) := by
  have cfg : Reg.TL_REF_CFG r < 0x41030000 := by unfold Reg.TL_REF_CFG; omega
  have dly : Reg.TL_REF_DLY r < 0x41030000 := by unfold Reg.TL_REF_DLY; omega
  have stat : Reg.TL_REF_STAT r < 0x41030000 := by unfold Reg.TL_REF_STAT; omega
  have top : 0x41030000 < evtStatus blkTim := by decide
  have below {a : Nat} (ha : a < 0x41030000) (n : Nat) : ¬tsiBits a n := Nat.not_le.mpr ha
  have state : t.tlState = s.tlState := h.fld (by decide) fun n _ _ => below (by decide) n
  refine ⟨h.bits _ 0 (by omega) (below cfg 0), h.bits _ 1 (by omega) (below cfg 1), state, fun x => ?_,
    h.fld (by omega) fun n _ _ => below stat n, fun locked => ?_⟩
  · unfold compensated; rw [h.regN (by omega) (below dly)]
  · unfold refWindow
    rw [state, locked, h.fld (a := Reg.TL_LOCK_CFG) (by decide) fun n _ _ => below (by decide) n, if_neg (by decide), if_neg (by decide)]

/-- A pulse missing or rejected, as its input records it. -/
def gnssMiss (s : State) (r : Nat) : State := setGnss s r { gnssOf s r with missing := (gnssOf s r).missing + 1, run := 0 }

theorem gnssBad_eq (s : State) (r : Nat) (rejected : Bool) : gnssBad s r rejected =
    if losCnt s r ≤ (gnssOf s r).missing + 1 then refLose (gnssMiss s r) r (rejected && s.tlState == tlLocked)
    else gnssMiss s r := rfl

theorem gnssOf_setGnss (s : State) (r : Nat) (g : Gnss) : gnssOf (setGnss s r g) r = g := sget_sput_same _ _ _ _

theorem not_refBits_refStat {r n : Nat} (hr : r < 5) (hn : 3 ≤ n) : ¬refBits (Reg.TL_REF_STAT r) n := by
  unfold refBits hoBits Reg.TL_REF_STAT Reg.HO_UNC Reg.HO_ELAPSED Reg.TL_STATE
  rintro ((h | h) | h | ⟨-, h⟩)
  · omega
  · omega
  · omega
  · omega

/-- A pulse missing or rejected keeps the count of rejections, the events that stand, the Timeline and memory, whether or not the
reference is lost by it. -/
theorem gnssBad_keeps (s : State) {r : Nat} (rejected : Bool) (hr : r < 5) :
    (∀ n, Raised s blkTim n → Raised (gnssBad s r rejected) blkTim n) ∧
    (gnssBad s r rejected).fld (Reg.TL_REF_STAT r) 31 16 = s.fld (Reg.TL_REF_STAT r) 31 16 ∧
    (gnssBad s r rejected).tim.tl = s.tim.tl ∧ (gnssBad s r rejected).mem = s.mem := by
  have kept : Kept refBits (gnssMiss s r) (gnssBad s r rejected) := by
    rw [gnssBad_eq]; split
    · exact kept_refLose _ _ hr
    · exact .refl _
  exact ⟨kept.raised, kept.fld (refStat_below hr) fun n hn _ => not_refBits_refStat hr (by omega), kept.tl, kept.mem⟩

/-- An edge rejected (R33): the count of rejections and PPS_REJECT. -/
def edgeReject (s : State) (r : Nat) : State := (s.addFld (Reg.TL_REF_STAT r) 31 16 1).raise blkTim 5

theorem edgeReject_spec (s : State) {r : Nat} (hr : r < 5) : Raised (edgeReject s r) blkTim 5 ∧
    (edgeReject s r).fld (Reg.TL_REF_STAT r) 31 16 = satNat 16 (s.fld (Reg.TL_REF_STAT r) 31 16 + 1) := by
  refine ⟨flag_raise _ _ _ (by decide), ?_⟩
  rw [edgeReject, fld_raise_below _ (refStat_below hr) (by decide), fld_addFld _ _ _ _ _ (by decide) (by decide)]

theorem exec_gnssPpsEdge_reject {s : State} {r : Fin 2} {rising : Bool} {ofs : BitVec 18} (hckt : s.tim.ckt = true)
    (hen : refEn s r = true) (hsel : s.flag (Reg.TL_REF_CFG r) 1 ≠ rising) (hlock : s.tlState = tlLocked)
    (hwin : refWindow s < (compensated s r (stampAt s ofs.toNat) - nearSec (compensated s r (stampAt s ofs.toNat)) * secUnit).natAbs) :
    exec (.gnssPpsEdge r rising ofs) s =
      .next (gnssBad (edgeReject (tsiCapture s (8 + r) rising (stampAt s ofs.toNat)) r) r true) := by
  obtain ⟨en, sel, state, comp, -, win⟩ :=
    reference_of_capture (kept_tsiCapture s (n := 8 + r) rising (stampAt s ofs.toNat) (by omega)) (r := r) (by omega)
  have off : ¬(!s.tim.ckt) = true := by simp [hckt]
  have taken : ¬((!refEn s r) = true ∨ s.flag (Reg.TL_REF_CFG r) 1 = rising) := by simp [hen, hsel]
  rw [exec_gnssPpsEdge, execGnssPpsEdge, if_neg off]
  dsimp only
  rw [en, sel, if_neg taken, comp, state, win hlock, if_pos ⟨.inl hlock, hwin⟩]
  rfl

/-- A qualified input lost to missing pulses. -/
theorem exec_gnssPulseMissing_lose {s : State} {r : Fin 2} (hen : refEn s r = true) (hlos : losCnt s r ≤ (gnssOf s r).missing + 1) :
    exec (.gnssPulseMissing r) s = .next (refLose (gnssMiss s r) r false) := by
  rw [exec_gnssPulseMissing, execGnssPulseMissing, if_pos hen, gnssBad_eq, if_pos hlos, Bool.false_and]

/-! Time of day (R35). -/

theorem kept_calCompare (s : State) (sec : Nat) {W : Nat → Nat → Prop} : Kept W s (s.calCompare sec) := by
  unfold State.calCompare
  split
  · exact .refl s
  · have compared : Kept W s (s.setCal { s.cal with compared := true }) := (Kept.refl s).of_regs rfl rfl rfl rfl rfl
    exact compared.raiseIf (by decide) (by decide)

/-- The labelling of one input's last pulse by a ZDA sentence (R34, R35). -/
def zdaLabel (sec : Nat) (s : State) (r : Nat) : State :=
  match (gnssOf s r).pulse with
  | none => s
  | some v =>
    let t := setGnss s r { gnssOf s r with lastLab := some (v, sec) }
    if 4 ≤ (gnssOf s r).run ∧ !refQual t r ∧ refEn t r then refQualify t r else t

theorem todZda_of_fits {s : State} {utc : Nat}
    (h : ∀ r, r < 2 → labelFits (gnssOf s r) ((utc : Int) + s.utcOfs).toNat 0 = true) :
    todZda s utc = (List.range 2).foldl (zdaLabel ((utc : Int) + s.utcOfs).toNat) (todTake s ((utc : Int) + s.utcOfs).toNat) := by
  have fits : ¬(!((List.range 2).all (fun r => labelFits (gnssOf s r) ((utc : Int) + s.utcOfs).toNat 0))) = true := by
    simp only [Bool.not_eq_true', Bool.not_eq_false, List.all_eq_true, List.mem_range]
    exact h
  unfold todZda
  dsimp only
  rw [if_neg fits]
  rfl

/-- A label leaves the registers that no reference's status lies in. -/
theorem regN_zdaLabel (sec : Nat) (s : State) {r a : Nat} (hr : r < 5) (ha : a < evtStatus blkTim) (hw : ∀ n, ¬refBits a n) :
    (zdaLabel sec s r).regN a = s.regN a := by
  unfold zdaLabel
  split
  · rfl
  · dsimp only; split
    · exact (kept_refQualify _ hr).regN ha hw
    · rfl

theorem not_refBits_tod {a : Nat} (h : a = Reg.TL_TOD_S_LO ∨ a = Reg.TL_TOD_S_HI) (n : Nat) : ¬refBits a n := by
  unfold refBits hoBits isRefStat Reg.TL_REF_STAT Reg.HO_UNC Reg.HO_ELAPSED Reg.TL_STATE
  unfold Reg.TL_TOD_S_LO Reg.TL_TOD_S_HI at h
  rintro ((c | c) | c | ⟨⟨r, -, c⟩, -⟩)
  · omega
  · omega
  · omega
  · omega

/-- A ZDA label's seconds stand in TL_TOD_S. -/
theorem regN_todZda {s : State} {utc a : Nat}
    (h : ∀ r, r < 2 → labelFits (gnssOf s r) ((utc : Int) + s.utcOfs).toNat 0 = true)
    (ha : a = Reg.TL_TOD_S_LO ∨ a = Reg.TL_TOD_S_HI) :
    (todZda s utc).regN a = (todTake s ((utc : Int) + s.utcOfs).toNat).regN a := by
  have below : a < evtStatus blkTim := by rcases ha with rfl | rfl <;> decide
  rw [todZda_of_fits h]
  refine List.foldlRecOn (motive := fun t => t.regN a = (todTake s ((utc : Int) + s.utcOfs).toNat).regN a) (List.range 2)
    (zdaLabel _) rfl fun t k r hr => ?_
  have hr := List.mem_range.mp hr
  rw [regN_zdaLabel _ t (by omega) below (not_refBits_tod ha), k]

theorem regN_todTake (s : State) (sec : Nat) : (todTake s sec).regN Reg.TL_TOD_S_LO = sec % 2 ^ 32 ∧
    (todTake s sec).regN Reg.TL_TOD_S_HI = sec / 2 ^ 32 % 2 ^ 16 := by
  have stored (a : Nat) (ha : a < evtStatus blkTim) : (todTake s sec).regN a =
      ((s.setRegN Reg.TL_TOD_S_LO sec).setRegN Reg.TL_TOD_S_HI (sec / 2 ^ 32 % 2 ^ 16)).regN a :=
    (kept_calCompare (W := fun _ _ => False) _ sec).regN ha fun _ => id
  refine ⟨?_, ?_⟩
  · rw [stored _ (by decide), regN_setRegN, if_neg (by decide), regN_setRegN, if_pos rfl]
  · rw [stored _ (by decide), regN_setRegN, if_pos rfl]; omega

/-! PTP (R36). -/

/-- The seconds that TL_PTP_S_HI and TL_PTP_S_LO hold. -/
def ptpSeconds (s : State) : Nat := s.regN Reg.TL_PTP_S_LO + s.fld Reg.TL_PTP_S_HI 15 0 * 2 ^ 32

theorem exec_tlPtpMeas_invalid {s : State} (hen : refEn s 2 = true) : exec (.tlPtpMeas 0x80000000#32) s =
    .next (refLose (s.setTim { s.tim with ptpFresh := false }) 2 false) := by
  have en : ¬(!refEn (s.setTim { s.tim with ptpFresh := false }) 2) = true := by
    rw [refEn, flag_setTim, ← refEn, hen]; decide
  rw [exec_tlPtpMeas, execTlPtpMeas]
  dsimp only
  rw [if_neg en, if_pos rfl]

/-- A PTP sample rejected for its seconds (R36): DISAGREE, the count of rejections and REF_DISAGREE. -/
def ptpReject (s : State) : State :=
  ((s.setFlag (Reg.TL_REF_STAT 2) 2 true).addFld (Reg.TL_REF_STAT 2) 31 16 1).raise blkTim 4

theorem kept_ptpReject (s : State) : Kept (fun a n => a = Reg.TL_REF_STAT 2 ∧ 2 ≤ n) s (ptpReject s) :=
  (((Kept.refl s).setFlag (by decide) (by decide) ⟨rfl, le_rfl⟩).setFld (by decide) (by decide) (by decide)
    fun _ h _ => ⟨rfl, by omega⟩).raise (by decide) (by decide)

theorem ptpReject_spec (s : State) : Raised (ptpReject s) blkTim 4 ∧
    (ptpReject s).fld (Reg.TL_REF_STAT 2) 31 16 = satNat 16 (s.fld (Reg.TL_REF_STAT 2) 31 16 + 1) := by
  refine ⟨flag_raise _ _ _ (by decide), ?_⟩
  rw [ptpReject, fld_raise_below _ (by decide) (by decide), fld_addFld _ _ _ _ _ (by decide) (by decide), State.setFlag,
    fld_setFld_apart _ _ _ _ _ _ _ (by decide) (by decide) (by decide)]

theorem exec_tlPtpMeas_reject {s : State} {v : BitVec 32} (hen : refEn s 2 = true) (hv : v ≠ 0x80000000#32)
    (hfresh : s.tim.ptpFresh = true) (hlock : s.tlState = tlLocked) (hsec : ptpSeconds s ≠ tlS s.tim.tl) :
    exec (.tlPtpMeas v) s =
      .next (ptpReject ((s.setTim { s.tim with ptpFresh := false }).calCompare (ptpSeconds s))) := by
  have en : ¬(!refEn (s.setTim { s.tim with ptpFresh := false }) 2) = true := by
    rw [refEn, flag_setTim, ← refEn, hen]; decide
  have kept := kept_calCompare (W := fun _ _ => False) (s.setTim { s.tim with ptpFresh := false }) (ptpSeconds s)
  have locked : ((s.setTim { s.tim with ptpFresh := false }).calCompare (ptpSeconds s)).tlState = tlLocked :=
    (kept.fld (by decide) fun _ _ _ => id).trans hlock
  have other : ptpSeconds s ≠ tlS ((s.setTim { s.tim with ptpFresh := false }).calCompare (ptpSeconds s)).tim.tl := by
    rw [kept.tl]; exact hsec
  rw [exec_tlPtpMeas, execTlPtpMeas]
  dsimp only
  rw [if_neg en, if_neg hv, if_pos hfresh]
  exact if_pos ⟨.inl locked, other⟩

/-- Settles O13: a rejection counts and raises its event before what follows of it, and a loss is `refLose`; what follows keeps
the reference's flags, its events and the Timeline. -/
theorem references : Obligations.References := by
  refine ⟨fun s r rising ofs hckt hen hsel hlock hwin => ?_, fun s r hen hq hlos => ?_, fun s l hon hfmt hcrc => ?_,
    fun s utc hon hfmt hfit => ?_, fun s hen hq => ?_, fun s v hen hv hfresh hlock hsec => ?_, fun s v => ?_,
    fun s hen hq => ?_, fun s hq => ?_⟩
  case refine_1 =>
    have hr : r.val < 5 := by omega
    have captured := kept_tsiCapture s (n := 8 + r) rising (stampAt s ofs.toNat) (by omega)
    obtain ⟨-, -, -, -, counted, -⟩ := reference_of_capture captured hr
    obtain ⟨raised, count⟩ := edgeReject_spec (tsiCapture s (8 + r) rising (stampAt s ofs.toNat)) hr
    have rejected : Kept (fun a _ => a = Reg.TL_REF_STAT r) (tsiCapture s (8 + r) rising (stampAt s ofs.toNat)) (edgeReject _ r) :=
      ((Kept.refl _).setFld (refStat_ne_evtStatus r) (by decide) (by decide) fun _ _ _ => rfl).raise (by decide) (by decide)
    obtain ⟨events, counter, tl, mem⟩ := gnssBad_keeps (edgeReject (tsiCapture s (8 + r) rising (stampAt s ofs.toNat)) r) true hr
    refine ⟨_, exec_gnssPpsEdge_reject hckt hen hsel hlock hwin, events 5 raised, ?_, ?_, ?_⟩
    · rw [counter, count, counted]
    · exact tl.trans (rejected.tl.trans captured.tl)
    · exact sameMem_of_mem (mem.trans (rejected.mem.trans captured.mem))
  case refine_2 =>
    have hr : r.val < 5 := by omega
    obtain ⟨lost, raised⟩ := refLose_lost (s := gnssMiss s r) false hr hq
    have kept := kept_refLose (gnssMiss s r) false hr
    refine ⟨_, exec_gnssPulseMissing_lose hen hlos, lost, raised, ?_, kept.tl, sameMem_of_mem kept.mem⟩
    rw [gnssOf, kept.gnss, ← gnssOf, gnssMiss, gnssOf_setGnss]
  case refine_3 => exact ⟨_, by simp [execTodMessage, hon, hfmt, hcrc], rfl⟩
  case refine_4 =>
    obtain ⟨lo, hi⟩ := regN_todTake s ((utc : Int) + s.utcOfs).toNat
    refine ⟨todZda s utc, by simp [execTodMessage, hon, hfmt], (regN_todZda hfit (.inl rfl)).trans lo, ?_⟩
    rw [State.fld, regN_todZda hfit (.inr rfl), hi]
    unfold bitsOf; omega
  case refine_5 =>
    obtain ⟨lost, raised⟩ := refLose_lost (s := s.setTim { s.tim with ptpFresh := false }) (r := 2) false (by decide) hq
    have kept := kept_refLose (s.setTim { s.tim with ptpFresh := false }) (r := 2) false (by decide)
    exact ⟨_, exec_tlPtpMeas_invalid hen, lost, raised, kept.fresh, kept.tl, sameMem_of_mem kept.mem⟩
  case refine_6 =>
    have compared := kept_calCompare (W := fun _ _ => False) (s.setTim { s.tim with ptpFresh := false }) (ptpSeconds s)
    obtain ⟨raised, count⟩ := ptpReject_spec ((s.setTim { s.tim with ptpFresh := false }).calCompare (ptpSeconds s))
    have kept := (compared.mono fun _ _ => False.elim).trans (kept_ptpReject _)
    refine ⟨_, exec_tlPtpMeas_reject hen hv hfresh hlock hsec, raised, ?_, ?_, kept.tl, ?_⟩
    · rw [count, compared.fld (by decide) fun _ _ _ => id]; rfl
    · exact (kept.fld (by decide) fun _ _ _ c => absurd c.1 (by decide)).trans hlock
    · exact kept.bits _ 0 (by decide) (by decide)
  case refine_7 =>
    refine ⟨_, rfl, rfl, ?_, fun a ha => reg_setRegN_ne s _ fun c => ha c.symm, rfl⟩
    refine (regN_setRegN s Reg.TL_PTP_S_HI _ _).trans ?_
    rw [if_pos rfl]; omega
  case refine_8 =>
    obtain ⟨lost, raised⟩ := refLose_lost (r := 2) false (by decide) hq
    exact ⟨_, by rw [exec_ptpTimeout, execPtpTimeout, if_pos hen], lost, raised, (kept_refLose s (r := 2) false (by decide)).tl⟩
  case refine_9 =>
    obtain ⟨lost, raised⟩ := lost_marked s (r := 3) (by decide)
    refine ⟨_, exec_synceLoss_qual hq, lost, raised, ?_, fun a ha => ?_, (((OnlyRegs.refl s).setFlag _ _ _).raise _ _).eq⟩
    · exact fld_of_reg 2 0 ((reg_raise _ _ _ _ (by decide) (by decide)).trans (reg_setFlag_ne _ _ _ (by decide)))
    · rw [not_or] at ha
      exact (sameRegs_raise _ _ _ a ha.2).trans (reg_setFlag_ne _ _ _ fun c => ha.1 c.symm)

/-! Steps (R43, R44). -/

/-- A state no run reaches: SHADOW with SERVICE beneath it, LOCKED on RELAY, and a step of offset zero pending. -/
def shadowOverService : State :=
  State.setTim ((((State.reset.setRegN Reg.PWR_MODE (mShadow + 16 * mService)).setFld Reg.TL_STATE 2 0 tlLocked).setFlag
    (Reg.TL_REF_CFG 4) 0 true).setFlag (Reg.TL_REF_STAT 4) 0 true) { pend := some ⟨0⟩ }

theorem stepApply_to_free : (after (exec .stepApply shadowOverService) shadowOverService).tlState = tlFree := by decide +kernel

/-- Refutes O16: its last clause does not ask that the mode and UNDER agree outside SAFE. In SHADOW with SERVICE beneath it, which
no run reaches, the step's ACQUIRING moves the mode to ACQUIRE (R445), where RELAY may not be the active reference (R38): none is
left and the state goes on to FREE. What the clause lacks is the premise `s.mode = mShadow → s.under = mShadow`. -/
theorem not_secondStepRefused : ¬Obligations.SecondStepRefused := by
  rintro ⟨-, -, apply⟩
  obtain ⟨t, ht, -, claimed⟩ := apply shadowOverService ⟨0⟩ rfl (by decide +kernel) (by decide +kernel)
  have reached := stepApply_to_free
  rw [ht] at reached
  exact absurd (claimed.symm.trans reached) (by decide)

/-! The Relay's roles (R396, R411). -/

/-- A state no run reaches: unit 1 PRIMARY in SHADOW with SERVICE beneath it, the Timeline LOCKED without a reference. -/
def primaryInShadow : State :=
  (((State.reset.setRegN Reg.PWR_MODE (mShadow + 16 * mService)).setFld Reg.TL_STATE 2 0 tlLocked).setFld Reg.RELAY_STAT 1 0
    rPrimary).setFlag Reg.RELAY_CFG 1 true

theorem roleConflict_to_holdover : (after (exec .roleConflict primaryInShadow) primaryInShadow).mode = mHoldover := by
  decide +kernel

/-- Refutes O54: its clause of ROLE_CONFLICT does not ask that the mode and UNDER agree outside SAFE. A PRIMARY in SHADOW with SERVICE
beneath it, which no run reaches, takes SHADOW as a mode it is in already (R445) and keeps UNDER; the references selected anew
then leave LOCKED for HOLDOVER, and the mode follows D. What the clause lacks is the premise `s.mode = mShadow → s.under = mShadow`. -/
theorem not_relayRoles : ¬Obligations.RelayRoles := by
  rintro ⟨-, -, conflict, -⟩
  obtain ⟨t, ht, -, claimed, -⟩ := conflict primaryInShadow (by decide +kernel) (by decide +kernel) rfl (by decide +kernel)
  have reached := roleConflict_to_holdover
  rw [ht] at reached
  exact absurd (claimed.symm.trans reached) (by decide)

end Sys2Proof.Machine
end

section
/-! PROOFS. A statement of 02_holdover_calendar.md: the holdover estimator (R62…R70). -/

namespace Sys2Proof.Machine

/-! What the estimator's steps change. -/

/-- The state differs in registers of W, in the estimator's own part and in the free values taken, and in nothing else. -/
structure Estimated (W : Nat → Prop) (s t : State) : Prop where
  eq   : t = { s with regs := t.regs, ho := t.ho, freeCtr := t.freeCtr }
  regs : SameRegs s t W
  ctr  : s.freeCtr ≤ t.freeCtr

namespace Estimated

variable {W V : Nat → Prop} {s t u : State}

theorem refl (s : State) : Estimated W s s := ⟨rfl, fun _ _ => rfl, le_rfl⟩

theorem trans (h : Estimated W s t) (k : Estimated W t u) : Estimated W s u :=
  ⟨by rw [k.eq, h.eq], fun a ha => (k.regs a ha).trans (h.regs a ha), h.ctr.trans k.ctr⟩

theorem mono (h : Estimated W s t) (hv : ∀ a, W a → V a) : Estimated V s t :=
  ⟨h.eq, fun a ha => h.regs a fun c => ha (hv a c), h.ctr⟩

theorem setReg (h : Estimated W s t) {a : Nat} {v : Word} (ha : W a) : Estimated W s (t.setReg a v) :=
  h.trans ⟨rfl, fun j hj => (reg_setReg t a j v).trans (if_neg fun c : a = j => hj (c ▸ ha)), le_rfl⟩

theorem setRegN (h : Estimated W s t) {a v : Nat} (ha : W a) : Estimated W s (t.setRegN a v) := h.setReg ha
theorem setFld (h : Estimated W s t) {a hi lo v : Nat} (ha : W a) : Estimated W s (t.setFld a hi lo v) := h.setReg ha
theorem setFlag (h : Estimated W s t) {a n : Nat} {b : Bool} (ha : W a) : Estimated W s (t.setFlag a n b) := h.setReg ha

theorem raise (h : Estimated W s t) {b n : Nat} (hw : ∀ a, evtOf b n a → W a) : Estimated W s (t.raise b n) :=
  (h.setFlag (hw _ (.inl rfl))).setFld (hw _ (.inr rfl))

theorem setHo (h : Estimated W s t) (x : Holdover) : Estimated W s (t.setHo x) := h.trans ⟨rfl, fun _ _ => rfl, le_rfl⟩
theorem took (h : Estimated W s t) : Estimated W s t.took := h.trans ⟨rfl, fun _ _ => rfl, Nat.le_succ _⟩

theorem foldl {α : Type} {l : List α} {f : State → α → State} (h : Estimated W s t)
    (hf : ∀ u, ∀ x ∈ l, Estimated W u (f u x)) : Estimated W s (l.foldl f t) :=
  List.foldlRecOn l f h fun u k x hx => k.trans (hf u x hx)

theorem tim (h : Estimated W s t) : t.tim = s.tim := by rw [h.eq]
theorem mem (h : Estimated W s t) : t.mem = s.mem := by rw [h.eq]
theorem sameMem (h : Estimated W s t) : SameMem s t := sameMem_of_mem h.mem
theorem regN (h : Estimated W s t) {a : Nat} (ha : ¬W a) : t.regN a = s.regN a := regN_of_reg (h.regs a ha)
theorem fld (h : Estimated W s t) {a hi lo : Nat} (ha : ¬W a) : t.fld a hi lo = s.fld a hi lo := fld_of_reg _ _ (h.regs a ha)

/-- No free value taken. -/
theorem eq_ho (h : Estimated W s t) (hc : t.freeCtr = s.freeCtr) : t = { s with regs := t.regs, ho := t.ho } :=
  h.eq.trans (by rw [hc])

/-- The estimator's own part as it was. -/
theorem eq_free (h : Estimated W s t) (hh : t.ho = s.ho) : t = { s with regs := t.regs, freeCtr := t.freeCtr } :=
  h.eq.trans (by rw [hh])

end Estimated

@[simp] theorem raised_setHo (s : State) (x : Holdover) (b n : Nat) : Raised (s.setHo x) b n ↔ Raised s b n := Iff.rfl
@[simp] theorem flag_setHo (s : State) (x : Holdover) (a n : Nat) : (s.setHo x).flag a n = s.flag a n := rfl
@[simp] theorem fld_setHo (s : State) (x : Holdover) (a hi lo : Nat) : (s.setHo x).fld a hi lo = s.fld a hi lo := rfl
@[simp] theorem regN_setHo (s : State) (x : Holdover) (a : Nat) : (s.setHo x).regN a = s.regN a := rfl

/-! A second of learning (R62, R63, R69). -/

/-- HO_STAT and the registers of TRAINED's event. -/
def learnRegs (a : Nat) : Prop := a = Reg.HO_STAT ∨ evtOf blkTim 18 a

theorem estimated_trainedCheck (s : State) : Estimated learnRegs s (trainedCheck s) := by
  unfold trainedCheck; split
  · exact ((Estimated.refl s).setFlag (.inl rfl)).raise fun _ => .inr
  · exact .refl s

/-- TRAINED writes neither the hours learned nor the estimator's own part. -/
theorem trainedCheck_keeps (s : State) : (trainedCheck s).fld Reg.HO_STAT 31 16 = s.fld Reg.HO_STAT 31 16 ∧
    (trainedCheck s).ho = s.ho ∧ (trainedCheck s).freeCtr = s.freeCtr := by
  unfold trainedCheck; split
  · refine ⟨?_, by simp, by simp⟩
    rw [fld_raise_below _ (by decide) (by decide), State.setFlag,
      fld_setFld_apart _ _ _ _ _ _ _ (by decide) (by decide) (by decide)]
  · exact ⟨rfl, rfl, rfl⟩

/-- The second that completes an hour, before TRAINED is looked at. -/
def hourLearned (s : State) : State :=
  (s.setHo { s.ho with secs := 0, upSecs := s.ho.upSecs + 1 }).addFld Reg.HO_STAT 31 16 1

theorem execHoLearnSecond_hour {s : State} (hl : learning s = true) (hs : s.ho.secs = 3599) (ht : tempValid s = false) :
    execHoLearnSecond s = .next (trainedCheck (hourLearned s)) := by
  have cold : tempValid (hourLearned s) = false := by
    rw [tempValid, hourLearned, flag_of_reg _ (reg_addFld_ne _ _ _ _ (by decide)), flag_setHo]; exact ht
  have same : rangeTake (hourLearned s) = hourLearned s := by simp [rangeTake, cold]
  rw [execHoLearnSecond, if_pos hl, hs, ← same]; rfl

/-! The refit (R63, R64). -/

/-- The registers that the fit writes. -/
def fitRegs (a : Nat) : Prop := a = Reg.HO_PREDICT ∨ ∃ k j, k < 2 ∧ j < 16 ∧ a = Reg.HO_MODEL k j

theorem fitRegs_model {k j : Nat} (hk : k < 2) (hj : j < 16) : fitRegs (Reg.HO_MODEL k j) := .inr ⟨k, j, hk, hj, rfl⟩

theorem Estimated.freeReg {W : Nat → Prop} {s t : State} (h : Estimated W s t) {a : Nat} (ha : W a) :
    Estimated W s (freeReg t a) := (h.setRegN ha).took

theorem ho_freeReg (s : State) (a : Nat) : (freeReg s a).ho = s.ho := s.setRegN_ho a s.free

theorem estimated_freeModel {s t : State} (h : Estimated fitRegs s t) {k : Nat} (hk : k < 2) {l : List Nat} (hl : ∀ j ∈ l, j < 16) :
    Estimated fitRegs s (l.foldl (fun s j => freeReg s (Reg.HO_MODEL k j)) t) :=
  h.foldl fun u j hj => (Estimated.refl u).freeReg (fitRegs_model hk (hl j hj))

theorem ho_freeModel (s : State) (k : Nat) (l : List Nat) : (l.foldl (fun s j => freeReg s (Reg.HO_MODEL k j)) s).ho = s.ho :=
  List.foldlRecOn (motive := fun t => t.ho = s.ho) l _ rfl fun u h _ _ => (ho_freeReg u _).trans h

theorem estimated_refitOne (s : State) {k : Nat} (hk : k < 2) : Estimated fitRegs s (refitOne s k) := by
  have rates := estimated_freeModel (.refl s) hk (l := [1, 2, 3, 4]) (by decide)
  unfold refitOne; split
  · dsimp only
    refine .freeReg (.setReg ?_ (fitRegs_model hk (by decide))) (fitRegs_model hk (by decide))
    split
    · exact estimated_freeModel rates hk (by decide)
    · exact rates
  · exact .refl s

theorem ho_refitOne (s : State) (k : Nat) : (refitOne s k).ho = s.ho := by
  unfold refitOne; split
  · dsimp only
    rw [ho_freeReg, State.setReg_ho]
    split
    · rw [ho_freeModel, ho_freeModel]
    · rw [ho_freeModel]
  · rfl

/-! The snapshot (R63, R70, Table HOC-3). -/

theorem snapWord_inj {i j : Nat} : snapWord i = snapWord j ↔ i = j := by unfold snapWord Reg.BBK_STORE; omega

/-- The snapshot's words lie above the estimator's registers and below the events. -/
theorem snapWord_range {i : Nat} (h : i < 64) : Reg.HO_STAT < snapWord i ∧ snapWord i < evtStatus blkTim := by
  unfold snapWord Reg.BBK_STORE Reg.HO_STAT evtStatus blockBase ctrlBase blkTim; omega

/-- The words of the snapshot. -/
def snapArea (a : Nat) : Prop := ∃ i < 64, a = snapWord i

theorem snapArea_word {i : Nat} (h : i < 64) : snapArea (snapWord i) := ⟨i, h, rfl⟩

theorem not_snapArea {a : Nat} (h : a ≤ Reg.HO_STAT) : ¬snapArea a := by
  rintro ⟨i, hi, rfl⟩
  exact absurd h (Nat.not_le.mpr (snapWord_range hi).1)

/-- The snapshot area cleared, θref taken from the fit. -/
def snapBlank (s : State) : State :=
  (List.range 64).foldl (fun s i => s.setRegN (snapWord i) 0) (s.setHo { s.ho with thetaRef := BitVec.ofNat 32 s.free }).took

/-- The header of Table HOC-3, words 0 to 4. -/
def snapHead (s : State) : State :=
  ((((s.setRegN (snapWord 0) 0x00014853).setRegN (snapWord 1) (s.fld Reg.HO_STAT 31 16)).setRegN (snapWord 2)
    (tlS s.tim.tl)).setRegN (snapWord 3) (tlS s.tim.tl / 2 ^ 32)).setRegN (snapWord 4) s.ho.thetaRef.toNat

/-- Both models copied to words 8 to 19 and 32 to 43. -/
def snapModels (s : State) : State := (List.range 12).foldl (fun s j =>
  (s.setRegN (snapWord (8 + j)) (s.regN (Reg.HO_MODEL 0 j))).setRegN (snapWord (32 + j)) (s.regN (Reg.HO_MODEL 1 j))) s

/-- The snapshot without its CRC. -/
def snapBody (s : State) : State := snapModels (snapHead (snapBlank s))

/-- The snapshot with its CRC. -/
def snapFull (s : State) : State := (snapBody s).setRegN (snapWord 63) (crc32 (snapBytes (snapBody s)))

theorem snapWrite_eq (s : State) : snapWrite s = ((snapFull s).setFlag Reg.HO_STAT 1 true).raise blkTim 19 := rfl

theorem estimated_snapBlank (s : State) : Estimated snapArea s (snapBlank s) :=
  (((Estimated.refl s).setHo _).took).foldl fun u _ hi => (Estimated.refl u).setRegN (snapArea_word (List.mem_range.mp hi))

theorem estimated_snapHead (s : State) : Estimated snapArea s (snapHead s) :=
  (((((Estimated.refl s).setRegN (snapArea_word (by decide))).setRegN (snapArea_word (by decide))).setRegN
    (snapArea_word (by decide))).setRegN (snapArea_word (by decide))).setRegN (snapArea_word (by decide))

/-- The words between the header and the CRC. -/
def modelWords (a : Nat) : Prop := ∃ i, 8 ≤ i ∧ i < 63 ∧ a = snapWord i

theorem estimated_snapModels (s : State) : Estimated modelWords s (snapModels s) :=
  (Estimated.refl s).foldl fun u j hj =>
    have hj := List.mem_range.mp hj
    ((Estimated.refl u).setRegN ⟨8 + j, by omega, by omega, rfl⟩).setRegN ⟨32 + j, by omega, by omega, rfl⟩

theorem not_modelWords {i : Nat} (h : i < 8) : ¬modelWords (snapWord i) := by
  rintro ⟨j, hj, -, e⟩
  have := snapWord_inj.mp e
  omega

theorem estimated_snapBody (s : State) : Estimated snapArea s (snapBody s) :=
  ((estimated_snapBlank s).trans (estimated_snapHead _)).trans
    ((estimated_snapModels _).mono fun _ ⟨i, _, hi, e⟩ => ⟨i, by omega, e⟩)

/-- What a snapshot writes beside its words: SNAP_VALID and its event. -/
def snapRegs (a : Nat) : Prop := snapArea a ∨ a = Reg.HO_STAT ∨ evtOf blkTim 19 a

theorem estimated_snapWrite (s : State) : Estimated snapRegs s (snapWrite s) :=
  ((((estimated_snapBody s).setRegN (snapArea_word (by decide))).mono fun _ => .inl).setFlag (.inr (.inl rfl))).raise
    fun _ c => .inr (.inr c)

/-- SNAP_VALID and SNAP_DONE leave the snapshot's words. -/
theorem regN_snapWrite (s : State) {i : Nat} (h : i < 64) : (snapWrite s).regN (snapWord i) = (snapFull s).regN (snapWord i) := by
  obtain ⟨above, below⟩ := snapWord_range h
  rw [snapWrite_eq, regN_eq_of_flag fun n => flag_raise_below _ below (by decide)]
  exact regN_of_reg (reg_setFlag_ne _ _ _ above.ne)

/-- The CRC leaves the words before it. -/
theorem regN_snapFull (s : State) {i : Nat} (h : i < 63) : (snapFull s).regN (snapWord i) = (snapBody s).regN (snapWord i) :=
  regN_of_reg (reg_setRegN_ne _ _ fun c => absurd (snapWord_inj.mp c) (by omega))

/-- The header as written, with the reading of LEARN_H and of the Timeline that the snapshot began with. -/
theorem snapBody_header (s : State) : (snapBody s).regN (snapWord 0) = 0x00014853 ∧
    (snapBody s).regN (snapWord 1) = s.fld Reg.HO_STAT 31 16 ∧ (snapBody s).regN (snapWord 2) = tlS s.tim.tl % 2 ^ 32 := by
  have models (i : Nat) (h : i < 8) : (snapBody s).regN (snapWord i) = (snapHead (snapBlank s)).regN (snapWord i) :=
    (estimated_snapModels _).regN (not_modelWords h)
  have learned : (snapBlank s).fld Reg.HO_STAT 31 16 = s.fld Reg.HO_STAT 31 16 :=
    (estimated_snapBlank s).fld (not_snapArea le_rfl)
  have fits : s.fld Reg.HO_STAT 31 16 < 2 ^ 16 := bitsOf_lt _ 31 16
  rw [models 0 (by decide), models 1 (by decide), models 2 (by decide), snapHead, learned, (estimated_snapBlank s).tim]
  refine ⟨?_, ?_, ?_⟩
  · simp [regN_setRegN, snapWord_inj]
  · simp [regN_setRegN, snapWord_inj]; omega
  · simp [regN_setRegN, snapWord_inj]

/-- The CRC covers words 0 to 62 alone. -/
theorem snapBytes_congr {s t : State} (h : ∀ i < 63, t.regN (snapWord i) = s.regN (snapWord i)) : snapBytes t = snapBytes s :=
  List.flatMap_congr fun i hi => by rw [h i (List.mem_range.mp hi)]

/-- A snapshot as it stands in the battery-backed store (R70, Table HOC-3). -/
theorem snapWrite_spec (s : State) : Raised (snapWrite s) blkTim 19 ∧ (snapWrite s).flag Reg.HO_STAT 1 = true ∧
    (snapWrite s).regN (snapWord 0) = 0x00014853 ∧ (snapWrite s).regN (snapWord 1) = s.fld Reg.HO_STAT 31 16 ∧
    (snapWrite s).regN (snapWord 2) = tlS s.tim.tl % 2 ^ 32 ∧
    (snapWrite s).regN (snapWord 63) = crc32 (snapBytes ((snapWrite s).setRegN (snapWord 63) 0)) % 2 ^ 32 := by
  have word (i : Nat) (h : i < 63) : (snapWrite s).regN (snapWord i) = (snapBody s).regN (snapWord i) :=
    (regN_snapWrite s (by omega)).trans (regN_snapFull s h)
  have covered : snapBytes ((snapWrite s).setRegN (snapWord 63) 0) = snapBytes (snapBody s) := snapBytes_congr fun i h =>
    (regN_of_reg (reg_setRegN_ne _ _ fun c => absurd (snapWord_inj.mp c) (by omega))).trans (word i h)
  obtain ⟨magic, hours, seconds⟩ := snapBody_header s
  refine ⟨flag_raise _ _ _ (by decide), ?_, (word 0 (by decide)).trans magic, (word 1 (by decide)).trans hours,
    (word 2 (by decide)).trans seconds, ?_⟩
  · rw [snapWrite_eq, flag_raise_below _ (by decide) (by decide), flag_setFlag _ _ _ _ (by decide)]
  · rw [regN_snapWrite s (by decide), covered, snapFull, regN_setRegN, if_pos rfl]

theorem estimated_refitTau (s : State) {k : Nat} (hk : k < 2) : Estimated fitRegs s (refitTau s k) := by
  unfold refitTau; split
  · exact ((Estimated.refl s).setRegN (fitRegs_model hk (by decide))).took
  · exact .refl s

/-! FORGET (Table HOC-4). -/

/-- Zeros written leave a zero, and make one of each register they name. -/
theorem regN_foldl_zero (f : Nat → Nat) (a : Nat) : ∀ (l : List Nat) (s : State), (∃ i ∈ l, a = f i) ∨ s.regN a = 0 →
    (l.foldl (fun s i => s.setRegN (f i) 0) s).regN a = 0
  | [], _, h => h.resolve_left (by simp)
  | i :: l, s, h => by
    refine regN_foldl_zero f a l (s.setRegN (f i) 0) ?_
    rw [regN_setRegN]
    by_cases e : f i = a
    · exact .inr (if_pos e)
    · rw [if_neg e]
      exact h.imp_left fun ⟨x, hx, c⟩ => ⟨x, (List.mem_cons.mp hx).resolve_left fun d => e (c.trans (d ▸ rfl)).symm, c⟩

theorem regN_modelClear {s : State} {k a : Nat} (h : (∃ j < 16, a = Reg.HO_MODEL k j) ∨ s.regN a = 0) :
    (modelClear s k).regN a = 0 :=
  regN_foldl_zero (Reg.HO_MODEL k) a _ s (h.imp_left fun ⟨j, hj, e⟩ => ⟨j, List.mem_range.mpr hj, e⟩)

theorem estimated_modelClear (s : State) {k : Nat} (hk : k < 2) : Estimated fitRegs s (modelClear s k) :=
  (Estimated.refl s).foldl fun u _ hj => (Estimated.refl u).setRegN (fitRegs_model hk (List.mem_range.mp hj))

theorem regN_bothCleared (s : State) {k j : Nat} (hk : k < 2) (hj : j < 16) :
    (modelClear (modelClear s 0) 1).regN (Reg.HO_MODEL k j) = 0 := by
  obtain rfl | rfl : k = 0 ∨ k = 1 := by omega
  · exact regN_modelClear (.inr (regN_modelClear (.inl ⟨j, hj, rfl⟩)))
  · exact regN_modelClear (.inl ⟨j, hj, rfl⟩)

/-- HO_STAT after FORGET: TRAINED, the restored marks and the hours cleared. -/
def forgetStat (s : State) : State := ((s.setFlag Reg.HO_STAT 0 false).setFld Reg.HO_STAT 3 2 0).setFld Reg.HO_STAT 31 16 0

theorem forgetStat_spec (s : State) : (forgetStat s).flag Reg.HO_STAT 0 = false ∧ (forgetStat s).fld Reg.HO_STAT 31 16 = 0 := by
  refine ⟨?_, fld_setFld _ _ _ _ _ (by decide) (by decide)⟩
  rw [forgetStat, flag_setFld _ _ _ _ _ _ _ (by decide) (by decide), if_neg (by decide),
    flag_setFld _ _ _ _ _ _ _ (by decide) (by decide), if_neg (by decide), flag_setFlag _ _ _ _ (by decide)]

theorem estimated_forgetStat (s : State) : Estimated (· = Reg.HO_STAT) s (forgetStat s) :=
  (((Estimated.refl (W := (· = Reg.HO_STAT)) s).setFlag rfl).setFld rfl).setFld rfl

/-- The state in which both models and what they rest on are cleared. -/
def forgotten (s : State) : State :=
  let t := forgetStat (modelClear (modelClear s 0) 1)
  t.setHo { t.ho with secs := 0, upSecs := 0, ranged := false }

theorem execForget_eq {s : State} (h : s.tlState ≠ tlHoldover) : execForget s = .next (forgotten s) := by
  rw [execForget, if_neg h]; rfl

theorem estimated_forgotten (s : State) : Estimated (fun a => fitRegs a ∨ a = Reg.HO_STAT) s (forgotten s) :=
  have models := (estimated_modelClear s (k := 0) (by decide)).trans (estimated_modelClear (modelClear s 0) (k := 1) (by decide))
  ((models.mono fun _ => .inl).trans ((estimated_forgetStat _).mono fun _ => .inr)).setHo _

theorem forgotten_spec (s : State) : (∀ k, k < 2 → ∀ j, j < 16 → (forgotten s).regN (Reg.HO_MODEL k j) = 0) ∧
    (forgotten s).flag Reg.HO_STAT 0 = false ∧ (forgotten s).fld Reg.HO_STAT 31 16 = 0 ∧ (forgotten s).ho.secs = 0 := by
  obtain ⟨trained, hours⟩ := forgetStat_spec (modelClear (modelClear s 0) 1)
  rw [forgotten, flag_setHo, fld_setHo, State.setHo_ho]
  refine ⟨fun k hk j hj => ?_, trained, hours, rfl⟩
  rw [regN_setHo, (estimated_forgetStat _).regN (by unfold Reg.HO_MODEL Reg.HO_STAT; omega), regN_bothCleared s hk hj]

/-! The board sensor (R64). -/

/-- A board reading, valid. -/
def tempRead (s : State) (x : BitVec 16) : State := (s.setRegN Reg.HO_TEMP (x.toNat + 2 ^ 16)).setHo { s.ho with fails := 0 }

/-- The third failed read in a row. -/
def tempFailed (s : State) : State := ((s.setFlag Reg.HO_TEMP 16 false).raise blkTim 21).setHo { s.ho with fails := 0 }

section
variable {s : State} (h : s.flag Reg.HO_TSENS_CFG 16 = true)
include h

theorem execTsensRead_some (x : BitVec 16) : execTsensRead (some x) s = .next (tempRead s x) := by
  rw [execTsensRead, h]; rfl

theorem execTsensRead_third (hf : s.ho.fails = 2) : execTsensRead none s = .next (tempFailed s) := by
  rw [execTsensRead, h, if_neg (by decide)]
  exact if_pos hf

end

theorem estimated_tempRead (s : State) (x : BitVec 16) : Estimated (· = Reg.HO_TEMP) s (tempRead s x) :=
  ((Estimated.refl (W := (· = Reg.HO_TEMP)) s).setRegN rfl).setHo _

theorem regN_tempRead (s : State) (x : BitVec 16) : (tempRead s x).regN Reg.HO_TEMP = x.toNat + 2 ^ 16 := by
  rw [tempRead, regN_setHo, regN_setRegN, if_pos rfl]; omega

theorem estimated_tempFailed (s : State) : Estimated (fun a => a = Reg.HO_TEMP ∨ evtOf blkTim 21 a) s (tempFailed s) :=
  (((Estimated.refl s).setFlag (.inl rfl)).raise fun _ => .inr).setHo _

theorem tempFailed_spec (s : State) : (tempFailed s).flag Reg.HO_TEMP 16 = false ∧ Raised (tempFailed s) blkTim 21 := by
  rw [tempFailed, raised_setHo, flag_setHo, flag_raise_below _ (by decide) (by decide)]
  exact ⟨flag_setFlag _ _ _ _ (by decide), flag_raise _ _ _ (by decide)⟩

/-! A second of holdover (R65, R66, R67). -/

/-- The registers of a second's growth, and of a disagreement. -/
def steerRegs (a : Nat) : Prop := a = Reg.HO_UNC ∨ a = Reg.TL_FREQ_EST ∨ evtOf blkTim 22 a

theorem Estimated.setUnc {W : Nat → Prop} {s t : State} (h : Estimated W s t) (u : Nat) (hw : W Reg.HO_UNC) :
    Estimated W s (setUnc t u) := (h.setHo _).setRegN hw

theorem unc_setUnc (s : State) (u : Nat) : (setUnc s u).ho.unc = u := congrArg Holdover.unc (State.setRegN_ho _ _ _)

theorem estimated_uncGrow (s : State) : Estimated steerRegs s (uncGrow s) := by
  unfold uncGrow; split
  · exact ((Estimated.refl s).setHo _).setUnc _ (.inl rfl)
  · exact .refl s

/-- U never falls by a second's growth. -/
theorem unc_uncGrow (s : State) : s.ho.unc ≤ (uncGrow s).ho.unc := by
  unfold uncGrow; split
  · rw [unc_setUnc]; omega
  · exact le_rfl

theorem estimated_ensemble (s : State) (apart worse : Bool) : Estimated steerRegs s (ensemble s apart worse) := by
  unfold ensemble; split
  · split
    · exact ((((Estimated.refl s).setUnc _ (.inl rfl)).took).setHo _).raise fun _ c => .inr (.inr c)
    · split
      · exact (Estimated.refl s).setHo _
      · exact .refl s
  · exact (Estimated.refl s).setHo _

/-- A disagreement adds to U. -/
theorem unc_ensemble (s : State) (apart worse : Bool) : s.ho.unc ≤ (ensemble s apart worse).ho.unc := by
  unfold ensemble; split
  · split
    · rw [State.raise_ho, State.setHo_ho]
      change s.ho.unc ≤ (setUnc s _).ho.unc
      rw [unc_setUnc]
      exact Nat.le_add_right _ _
    · split
      · exact le_rfl
      · exact le_rfl
  · exact le_rfl

theorem estimated_freqMove (s : State) (b : Int) : Estimated steerRegs s (freqMove s b) :=
  ((Estimated.refl s).setRegN (.inr (.inl rfl))).took

theorem ho_freqMove (s : State) (b : Int) : (freqMove s b).ho = s.ho := by
  unfold freqMove; dsimp only; rw [State.took_ho, State.setRegN_ho]

/-- U grown, and the second counted. -/
def steered (s : State) : State := (uncGrow s).setRegN Reg.HO_ELAPSED (satNat 32 ((uncGrow s).regN Reg.HO_ELAPSED + 1))

theorem execHoSteerSecond_holdover {s : State} (apart worse : Bool) (h : s.tlState = tlHoldover) :
    execHoSteerSecond apart worse s = .next (freqMove (ensemble (steered s) apart worse) 1099) := by
  rw [execHoSteerSecond, if_pos h]; rfl

theorem not_steerRegs {a : Nat} (ha : a = Reg.HO_ELAPSED ∨ a = Reg.TL_STATE) : ¬steerRegs a := by
  rcases ha with rfl | rfl
  · unfold steerRegs evtOf; decide
  · unfold steerRegs evtOf; decide

/-! Expiry (R68). -/

/-- A change of the Timeline state raises STATE_CHG. -/
theorem raised_setTl {s : State} {c : Nat} (h : s.tlState ≠ c) : Raised (s.setTl c) blkTim 0 := by
  rw [setTl_of_ne h]
  exact ((Kept.refl (s.putTl c)).enterTl c).followD.raised 0 (flag_raise _ _ _ (by decide))

/-- Settles O19: each command of the estimator is `Estimated` over a named set of registers, which gives its frame; what it writes is the
specification of the update named. Expiry is the Timeline's transition. -/
theorem holdoverEstimator : Obligations.HoldoverEstimator := by
  refine ⟨fun s hl hs ht => ?_, fun s hl => ?_, fun s hlock => ?_, fun s hlock => ?_, fun s hst => ?_, fun s x hen => ?_,
    fun s hen hf => ?_, fun s apart worse hst => ?_, fun s hst hlim => ?_⟩
  case refine_1 =>
    obtain ⟨hours, ho, ctr⟩ := trainedCheck_keeps (hourLearned s)
    have hour : Estimated learnRegs s (hourLearned s) := ((Estimated.refl s).setHo _).setFld (.inl rfl)
    have all := hour.trans (estimated_trainedCheck _)
    have counted : (hourLearned s).ho = { s.ho with secs := 0, upSecs := s.ho.upSecs + 1 } := State.addFld_ho _ _ _ _ _
    refine ⟨_, execHoLearnSecond_hour hl hs ht, ?_, ?_, ?_, all.regs, all.eq_ho (ctr.trans (State.addFld_freeCtr _ _ _ _ _))⟩
    · rw [ho, counted]
    · rw [ho, counted]
    · rw [hours]; exact fld_addFld _ _ _ _ _ (by decide) (by decide)
  case refine_2 =>
    have models := (estimated_refitOne s (k := 0) (by decide)).trans (estimated_refitOne (refitOne s 0) (k := 1) (by decide))
    have all := models.freeReg (a := Reg.HO_PREDICT) (.inl rfl)
    have ho : (freeReg (refitOne (refitOne s 0) 1) Reg.HO_PREDICT).ho = s.ho := by rw [ho_freeReg, ho_refitOne, ho_refitOne]
    exact ⟨_, by rw [exec_hoRefit, execHoRefit, if_pos hl], all.tim, Nat.lt_succ_of_le models.ctr, all.eq_free ho, all.regs⟩
  case refine_3 =>
    have fitted := (estimated_refitTau s (k := 0) (by decide)).trans (estimated_refitTau (refitTau s 0) (k := 1) (by decide))
    have written := estimated_snapWrite (refitTau (refitTau s 0) 1)
    obtain ⟨done, valid, magic, -, seconds, crc⟩ := snapWrite_spec (refitTau (refitTau s 0) 1)
    rw [fitted.tim] at seconds
    exact ⟨_, by rw [exec_hoSnapshot, execHoSnapshot, if_pos hlock], done, valid, magic, seconds, crc,
      written.tim.trans fitted.tim, sameMem_of_mem (written.mem.trans fitted.mem)⟩
  case refine_4 =>
    obtain ⟨done, valid, magic, hours, -, -⟩ := snapWrite_spec s
    have written := estimated_snapWrite s
    exact ⟨_, by rw [exec_snap, execSnap, if_pos hlock], done, valid, magic, hours, written.tim, written.sameMem⟩
  case refine_5 =>
    have all := estimated_forgotten s
    obtain ⟨models, trained, hours, secs⟩ := forgotten_spec s
    exact ⟨_, (exec_forget s).trans (execForget_eq hst), models, trained, hours, secs, all.tim, all.sameMem⟩
  case refine_6 =>
    have all := estimated_tempRead s x
    have ctr : (tempRead s x).freeCtr = s.freeCtr := by rw [tempRead, State.setHo_freeCtr, State.setRegN_freeCtr]
    exact ⟨_, (exec_tsensRead _ s).trans (execTsensRead_some hen x), regN_tempRead s x, by rw [tempRead, State.setHo_ho], all.regs,
      all.eq_ho ctr⟩
  case refine_7 =>
    have all := estimated_tempFailed s
    have ctr : (tempFailed s).freeCtr = s.freeCtr := by
      rw [tempFailed, State.setHo_freeCtr, State.raise_freeCtr, State.setFlag_freeCtr]
    obtain ⟨invalid, raised⟩ := tempFailed_spec s
    exact ⟨_, (exec_tsensRead _ s).trans (execTsensRead_third hen hf), invalid, raised, all.regs, all.eq_ho ctr⟩
  case refine_8 =>
    have grown := estimated_uncGrow s
    have counted : Estimated (· = Reg.HO_ELAPSED) (uncGrow s) (steered s) := (Estimated.refl _).setRegN rfl
    have moved := (estimated_ensemble (steered s) apart worse).trans (estimated_freqMove _ 1099)
    refine ⟨_, (exec_hoSteerSecond apart worse s).trans (execHoSteerSecond_holdover apart worse hst), ?_, ?_,
      moved.tim.trans (counted.tim.trans grown.tim), ?_, sameMem_of_mem (moved.mem.trans (counted.mem.trans grown.mem))⟩
    · rw [moved.regN (not_steerRegs (.inl rfl)), steered, regN_setRegN, if_pos rfl, grown.regN (not_steerRegs (.inl rfl)),
        Nat.mod_eq_of_lt (satNat_lt _ _)]
    · exact (moved.fld (not_steerRegs (.inr rfl))).trans ((counted.fld (by decide)).trans
        ((grown.fld (not_steerRegs (.inr rfl))).trans hst))
    · calc s.ho.unc ≤ (uncGrow s).ho.unc := unc_uncGrow s
        _ = (steered s).ho.unc := by rw [steered, State.setRegN_ho]
        _ ≤ (ensemble (steered s) apart worse).ho.unc := unc_ensemble _ apart worse
        _ = (freqMove (ensemble (steered s) apart worse) 1099).ho.unc := by rw [ho_freqMove]
  case refine_9 =>
    have kept := kept_setTl (s.raise blkTim 17) tlExpired
    have state : (s.raise blkTim 17).tlState = tlHoldover := (fld_raise_below s (by decide) (by decide)).trans hst
    refine ⟨_, by rw [exec_holdoverExpiry, execHoldoverExpiry, if_pos ⟨hst, hlim⟩], tlState_setTl _ (by decide),
      kept.raised 17 (flag_raise _ _ _ (by decide)), raised_setTl (by rw [state]; decide), ?_, sameMem_of_mem ?_⟩
    · rw [kept.tl, State.raise_tim]
    · rw [kept.mem, State.raise_mem]

end Sys2Proof.Machine
end

section
/-! PROOFS. A statement of 02_holdover_calendar.md: the Legacy Pulse Port (R86…R93). -/

namespace Sys2Proof.Machine

/-! Updates of a part of the state beside the registers. -/

theorem OnlyRegs.eq_setLpp {s t : State} (h : OnlyRegs s t) (l : Lpp) :
    t.setLpp l = { s with regs := t.regs, lpp := l } := by obtain ⟨r, rfl⟩ := h; rfl

@[simp] theorem raised_setLpp (s : State) (l : Lpp) (b n : Nat) : Raised (s.setLpp l) b n ↔ Raised s b n := Iff.rfl
@[simp] theorem sameRegs_setLpp (s t : State) (l : Lpp) (w : Nat → Prop) : SameRegs s (t.setLpp l) w ↔ SameRegs s t w := Iff.rfl

/-! The port's control word (R86, R93). -/

section
variable {s : State} {v : BitVec 16}

/-- EN = 0 commits and stops at once. -/
theorem execLppCtlLWrite_stop (hv : v.getLsbD 0 = false) : execLppCtlLWrite v s =
    .next ((s.raiseIf (!s.lpp.fresh) blkTim 30).setLpp { s.lpp with
      ctl := s.lpp.high ++ v, fresh := false, pend := none, running := false, pps := false, frm := false }) := by
  rw [execLppCtlLWrite, hv]; rfl

/-- A running port's commit waits for the second boundary. -/
theorem execLppCtlLWrite_running (hv : v.getLsbD 0 = true) (hr : s.lpp.running = true) : execLppCtlLWrite v s =
    .next ((s.raiseIf (!s.lpp.fresh) blkTim 30).setLpp { s.lpp with fresh := false, pend := some (s.lpp.high ++ v) }) := by
  simp [execLppCtlLWrite, hv, hr]

/-- A stopped port's commit acts at once. -/
theorem execLppCtlLWrite_stopped (hv : v.getLsbD 0 = true) (hr : s.lpp.running = false) : execLppCtlLWrite v s =
    .next ((s.raiseIf (!s.lpp.fresh) blkTim 30).setLpp { s.lpp with
      ctl := s.lpp.high ++ v, fresh := false, pend := none }) := by
  simp [execLppCtlLWrite, hv, hr]

end

/-- A state and a mode that let the port run (R90). -/
theorem lppAllowed_iff {s : State} : lppAllowed s = true ↔
    (s.tlState = tlLocked ∨ s.tlState = tlHoldover) ∧ s.mode ≠ mSafe ∧ s.mode ≠ mShadow := by
  simp [lppAllowed, and_assoc]

/-! The frame strobe (R88, R89). -/

/-- From the GPS epoch on the frame position is valid and its low field is the SFN (R25). -/
theorem framePos_valid {tl : Nat} (h : 315964819 ≤ tlS tl) : (framePos tl 0).testBit 31 = true ∧
    framePos tl 0 % 1024 = ((tlS tl - 315964819) * 100 + tlT tl / 19660800) % 1024 := by
  obtain ⟨-, frames⟩ := timelineFormatAndFrames
  obtain ⟨sfn, -, -, -, -, valid⟩ := frames tl 0 h (by decide)
  refine ⟨valid, ?_⟩
  rw [← sfn]; unfold bitsOf; omega

theorem execLppFrameStrobe_lead {s : State} (hr : s.lpp.running = true) (hs : 315964819 ≤ tlS s.tim.tl)
    (hfrm : s.lpp.ctl.getLsbD 2 = true) : execLppFrameStrobe true s =
      .next (s.setLpp { s.lpp with
        frm := true, fcnt := ((tlS s.tim.tl - 315964819) * 100 + tlT s.tim.tl / 19660800) % 1024 + 1 }) := by
  obtain ⟨valid, sfn⟩ := framePos_valid hs
  simp [execLppFrameStrobe, hr, hfrm, valid, sfn]

/-- The stop of a running port after 600 s of HOLDOVER without KEEP (R91). -/
theorem execLppHoldoverStop_running {s : State} (hk : s.lpp.keep = false) (hs : s.tlState = tlHoldover)
    (he : 600 ≤ s.regN Reg.HO_ELAPSED) (hh : s.lpp.hoStopped = false) (hr : s.lpp.running = true) :
    execLppHoldoverStop s = .next ((s.raise blkTim 28).setLpp { s.lpp with
      running := false, pps := false, frm := false, hoStopped := true }) := by
  simp [execLppHoldoverStop, hk, hs, he, hh, hr, State.raiseIf]

/-- Settles O21: the three cases of a commit, and one equation for each command of the port; none but the stop and a commit without a
fresh half writes a register. -/
theorem legacyPulsePort : Obligations.LegacyPulsePort := by
  refine ⟨fun s v => ?_, fun s v hv => ?_, fun s v hv hr => ?_, fun s v hv hr hf => ?_, fun s v hen hr => ?_, fun s v hen => ?_,
    fun s w hw => ?_, fun s hen hst hsafe hshadow hho hr => ?_, fun s b hr => ?_, fun s hr hs hfrm => ?_,
    fun s hk hs he hh hr => ?_⟩
  case refine_1 => exact ⟨_, rfl, rfl, rfl, rfl, rfl⟩
  case refine_2 =>
    refine ⟨_, (exec_lppCtlLWrite v s).trans (execLppCtlLWrite_stop hv), rfl, rfl, rfl, rfl, rfl, rfl, fun hf => ?_, ?_⟩
    · rw [raised_setLpp, hf]; exact flag_raise s _ _ (by decide)
    · exact sameMem_of_mem (s.raiseIf_mem _ _ _)
  case refine_3 =>
    exact ⟨_, (exec_lppCtlLWrite v s).trans (execLppCtlLWrite_running hv hr), rfl, rfl, hr, rfl⟩
  case refine_4 =>
    refine ⟨_, (exec_lppCtlLWrite v s).trans (execLppCtlLWrite_stopped hv hr), rfl, rfl, rfl, ?_⟩
    rw [hf]; rfl
  case refine_5 => exact ⟨s.setLpp { s.lpp with keep := v.getLsbD 0 }, by simp [execLppKeepWrite, hen, hr], rfl, rfl⟩
  case refine_6 => exact ⟨_, by simp [execLppKeepWrite, hen], rfl⟩
  case refine_7 => exact ⟨s.setLpp { s.lpp with ctl := w, pend := none }, by simp [execLppCommitApply, hw], rfl, rfl, rfl⟩
  case refine_8 =>
    have may : lppMay s = true := by simp [lppMay, hen, lppAllowed_iff.mpr ⟨hst, hsafe, hshadow⟩, hho]
    exact ⟨s.setLpp { s.lpp with running := true }, by simp [execLppStart, may, hr], rfl, rfl⟩
  case refine_9 => exact ⟨s.setLpp { s.lpp with pps := b }, by simp [execLppPpsPulse, hr], rfl, rfl⟩
  case refine_10 => exact ⟨_, (exec_lppFrameStrobe true s).trans (execLppFrameStrobe_lead hr hs hfrm), rfl, rfl, rfl⟩
  case refine_11 =>
    refine ⟨_, (exec_lppHoldoverStop s).trans (execLppHoldoverStop_running hk hs he hh hr), rfl, rfl, rfl, rfl, ?_, ?_, ?_⟩
    · rw [raised_setLpp]; exact flag_raise s _ _ (by decide)
    · rw [sameRegs_setLpp]; exact sameRegs_raise s _ _
    · exact ((OnlyRegs.refl s).raise _ _).eq_setLpp _

end Sys2Proof.Machine
end

section
/-! SUPPORT. What a write of memory leaves: the blocks it passes through (the network's scratchpad, local SDRAM, IMP, the Relay's journal)
are the only ones it changes, and every register below theirs reads as before. -/

namespace Sys2Proof.Machine

/-- Only memory, the blocks beneath it and the Relay's journal differ, and no register below the NoC's control block. -/
structure MemWritten (s t : State) : Prop where
  eq   : t = { s with regs := t.regs, mem := t.mem, noc := t.noc, ext := t.ext, imp := t.imp, rly := t.rly, lane := t.lane }
  regs : ∀ a, a < blockBase blkNoc → t.reg a = s.reg a

namespace MemWritten

variable {s t u : State}

theorem refl (s : State) : MemWritten s s := ⟨rfl, fun _ _ => rfl⟩

theorem trans (h : MemWritten s t) (k : MemWritten t u) : MemWritten s u :=
  ⟨by rw [k.eq, h.eq], fun a ha => (k.regs a ha).trans (h.regs a ha)⟩

theorem pac (h : MemWritten s t) : t.pac = s.pac := by rw [h.eq]
theorem tim (h : MemWritten s t) : t.tim = s.tim := by rw [h.eq]
theorem can (h : MemWritten s t) : t.can = s.can := by rw [h.eq]

theorem setNoc (h : MemWritten s t) (x : Noc) : MemWritten s (t.setNoc x) := h.trans ⟨rfl, fun _ _ => rfl⟩
theorem setImp (h : MemWritten s t) (x : Imp) : MemWritten s (t.setImp x) := h.trans ⟨rfl, fun _ _ => rfl⟩
theorem setRly (h : MemWritten s t) (x : Relay) : MemWritten s (t.setRly x) := h.trans ⟨rfl, fun _ _ => rfl⟩
theorem setChan (h : MemWritten s t) (n : Nat) (c : Channel) : MemWritten s (setChan t n c) := h.trans ⟨rfl, fun _ _ => rfl⟩
theorem setLineErr (h : MemWritten s t) (l : Nat) (e : LineErr) : MemWritten s (setLineErr t l e) := h.trans ⟨rfl, fun _ _ => rfl⟩
theorem relSend (h : MemWritten s t) (l : List (Nat × List Byte)) : MemWritten s (relSend t l) := h.trans ⟨rfl, fun _ _ => rfl⟩
theorem store (h : MemWritten s t) (a : Nat) (l : List Byte) : MemWritten s (t.store a l) := h.trans ⟨rfl, fun _ _ => rfl⟩

theorem setRegN (h : MemWritten s t) {a v : Nat} (ha : blockBase blkNoc ≤ a) : MemWritten s (t.setRegN a v) :=
  h.trans ⟨rfl, fun _ hj => reg_setRegN_ne t v (by omega)⟩

theorem setFld (h : MemWritten s t) {a hi lo v : Nat} (ha : blockBase blkNoc ≤ a) : MemWritten s (t.setFld a hi lo v) := h.setRegN ha
theorem setFlag (h : MemWritten s t) {a n : Nat} {b : Bool} (ha : blockBase blkNoc ≤ a) : MemWritten s (t.setFlag a n b) := h.setRegN ha
theorem addFld (h : MemWritten s t) {a hi lo n : Nat} (ha : blockBase blkNoc ≤ a) : MemWritten s (t.addFld a hi lo n) := h.setRegN ha
theorem count (h : MemWritten s t) {a : Nat} (ha : blockBase blkNoc ≤ a) : MemWritten s (t.count a) := h.setRegN ha

theorem raise (h : MemWritten s t) {b n : Nat} (hb : blkNoc ≤ b) : MemWritten s (t.raise b n) :=
  (h.setFlag (by unfold evtStatus blockBase; omega)).addFld (by unfold evtCount blockBase; omega)

theorem foldl {α : Type} {l : List α} {f : State → α → State} (h : MemWritten s t) (hf : ∀ u x, MemWritten u (f u x)) :
    MemWritten s (l.foldl f t) :=
  List.foldlRecOn l f h fun u k x _ => k.trans (hf u x)

end MemWritten

/-! The registers a write of memory counts in. -/

theorem le_memCe (h : Nat) : blockBase blkNoc ≤ Reg.MEM_CE_CNT h := by unfold Reg.MEM_CE_CNT blockBase blkNoc ctrlBase; omega
theorem le_memUe (h : Nat) : blockBase blkNoc ≤ Reg.MEM_UE_CNT h := by unfold Reg.MEM_UE_CNT blockBase blkNoc ctrlBase; omega
theorem le_memMerge (h : Nat) : blockBase blkNoc ≤ Reg.MEM_MERGE_CNT h := by unfold Reg.MEM_MERGE_CNT blockBase blkNoc ctrlBase; omega
theorem le_memLog (h : Nat) : blockBase blkNoc ≤ Reg.MEM_LOG_STAT h := by unfold Reg.MEM_LOG_STAT blockBase blkNoc ctrlBase; omega
theorem le_memFlip (h : Nat) : blockBase blkNoc ≤ Reg.MEM_FLIP_CTL h := by unfold Reg.MEM_FLIP_CTL blockBase blkNoc ctrlBase; omega

section
variable (s : State)

/-! The scratchpad. -/

theorem memWritten_spWord (a n w : Nat) : MemWritten s (spWord s a n w) := by
  unfold spWord; dsimp only
  split
  · exact (MemWritten.refl s).setNoc _
  · exact (MemWritten.refl s).setNoc _

theorem memWritten_spFlipDone (a : Nat) : MemWritten s (spFlipDone s a) := by
  unfold spFlipDone
  split
  · split
    · exact ((((MemWritten.refl s).setNoc _).setFlag (by decide)).setFlag (by decide)).raise (by decide)
    · exact .refl s
  · exact .refl s

theorem memWritten_spWrite (a : Nat) (l : List Byte) : MemWritten s (spWrite s a l) := by
  unfold spWrite
  split
  · exact .refl s
  · exact (((MemWritten.refl s).store a l).foldl fun u w => memWritten_spWord u a l.length w).trans (memWritten_spFlipDone _ a)

/-! Local SDRAM. -/

theorem memWritten_logPush (l : Log) (w sh : Nat) {stat blk : Nat} (evt : Nat) (hs : blockBase blkNoc ≤ stat) (hb : blkNoc ≤ blk) :
    MemWritten s (logPush s l w sh stat blk evt).1 := by
  unfold logPush; dsimp only
  split
  · exact ((MemWritten.refl s).setFlag hs).setFld hs
  · exact ((MemWritten.refl s).addFld hs).raise hb

theorem memWritten_memLog (h c k y w : Nat) : MemWritten s (memLog s h c k y w) :=
  (memWritten_logPush s _ _ _ _ (le_memLog h) (by decide)).setChan _ _

theorem memWritten_lineFresh (l : Nat) : MemWritten s (lineFresh s l) := by
  unfold lineFresh; dsimp only
  split
  · exact (((((MemWritten.refl s).setLineErr _ _).setChan _ _).setFlag (le_memFlip _)).setFlag (le_memFlip _)).raise (by decide)
  · exact (MemWritten.refl s).setLineErr _ _

theorem memWritten_lineBack (l : Nat) : MemWritten s (lineBack s l) :=
  ((MemWritten.refl s).store _ _).trans (memWritten_lineFresh _ l)

/-- The counts and log entries of a line's codewords. -/
theorem memWritten_codeword (h c k y : Nat) (p : CwRead × Nat) : MemWritten s (match p.1 with
    | .ce i _ => (memLog (s.count (Reg.MEM_CE_CNT h)) h c k i p.2).raise blkMem 0
    | .ue => (memLog (s.count (Reg.MEM_UE_CNT h)) h c y 0 p.2).raise blkMem 1
    | .good => s) := by
  split
  · exact (((MemWritten.refl s).count (le_memCe h)).trans (memWritten_memLog _ _ _ _ _ _)).raise (by decide)
  · exact (((MemWritten.refl s).count (le_memUe h)).trans (memWritten_memLog _ _ _ _ _ _)).raise (by decide)
  · exact .refl s

theorem memWritten_lineRead (l c u : Nat) : MemWritten s (lineRead s l c u).1 := by
  unfold lineRead; dsimp only
  have counted := (MemWritten.refl s).foldl (l := (lineReads s l).zipIdx)
    fun t p => memWritten_codeword t (lineChan s l).1 (lineChan s l).2 c u p
  split
  · exact counted.trans (memWritten_lineBack _ l)
  · exact counted

theorem memWritten_lineWrite (l : Nat) (b : List Byte) : MemWritten s (lineWrite s l b) :=
  (((MemWritten.refl s).setChan _ _).store _ _).trans (memWritten_lineFresh _ l)

theorem memWritten_mergeFlush (h : Nat) (m : Merge) : MemWritten s (mergeFlush s h m) := by
  have freed : MemWritten s _ := ((MemWritten.refl s).count (le_memMerge h)).setChan h
    { chanSt (s.count (Reg.MEM_MERGE_CNT h)) h with
      merge := (chanSt (s.count (Reg.MEM_MERGE_CNT h)) h).merge.filter (fun x => x.line != m.line) }
  unfold mergeFlush; dsimp only
  split
  · exact ((((freed.trans (memWritten_lineFresh _ _)).setLineErr _ _).count (le_memUe h)).trans
      (memWritten_memLog _ _ _ _ _ _)).raise (by decide)
  · exact (freed.trans (memWritten_lineRead _ _ _ _)).trans (memWritten_lineWrite _ _ _)

theorem memWritten_mergeOldest (h : Nat) : MemWritten s (mergeOldest s h) := by
  unfold mergeOldest
  split
  · exact memWritten_mergeFlush s _ _
  · exact .refl s

theorem memWritten_mergeWrite (l o : Nat) (b : List Byte) : MemWritten s (mergeWrite s l o b) := by
  unfold mergeWrite; dsimp only
  split
  · exact (MemWritten.refl s).setChan _ _
  · refine MemWritten.setChan ?_ _ _
    split
    · exact memWritten_mergeOldest s _
    · exact .refl s

theorem memWritten_sdWrite (a : Nat) (b : List Byte) : MemWritten s (sdWrite s a b) :=
  (MemWritten.refl s).foldl fun u l => by
    dsimp only
    split
    · exact memWritten_lineWrite u _ _
    · exact memWritten_mergeWrite u _ _ _

theorem memWritten_physWrite (a : Nat) (b : List Byte) : MemWritten s (physWrite s a b) := by
  unfold physWrite
  split
  · exact memWritten_sdWrite s a b
  · exact (MemWritten.refl s).store a b

/-! The Relay's journal. -/

theorem memWritten_jEntry (k : Nat) (d : List Byte) : MemWritten s (jEntry s k d) := by
  unfold jEntry
  split
  · exact (((MemWritten.refl s).setRegN (by decide)).setRly _).relSend _
  · exact .refl s

theorem memWritten_jTile (t b c : Nat) (g : BitVec 64) (x : List Byte) : MemWritten s (jTile s t b c g x) := by
  unfold jTile
  split
  · exact memWritten_jEntry s _ _
  · exact .refl s

theorem memWritten_jMem (f : Nat → Bool) (a : Nat) (b : List Byte) : MemWritten s (jMem s f a b) := by
  unfold jMem
  split
  · refine (MemWritten.refl s).foldl fun u l => ?_
    dsimp only
    split
    · exact memWritten_jEntry u _ _
    · exact .refl u
  · exact .refl s

/-! IMP. -/

theorem memWritten_setCtrs (r l j : Nat) (c : List Nat) : MemWritten s (setCtrs s r l j c) := by
  unfold setCtrs
  split
  · exact (MemWritten.refl s).setImp _
  · exact (MemWritten.refl s).setImp _

theorem memWritten_nodeBack (n : Node) : MemWritten s (nodeBack s n) := by
  unfold nodeBack; dsimp only
  split
  · exact ((memWritten_setCtrs s _ _ _ _).trans (memWritten_physWrite _ _ _)).trans (memWritten_physWrite _ _ _)
  · exact (memWritten_setCtrs s _ _ _ _).trans (memWritten_physWrite _ _ _)

theorem memWritten_evictOne : MemWritten s (evictOne s) := by
  unfold evictOne; dsimp only
  split
  · exact .refl s
  · refine MemWritten.setImp ?_ _
    split
    · exact memWritten_nodeBack s _
    · exact .refl s

theorem memWritten_cacheIn (n : Node) : MemWritten s (cacheIn s n) := by
  unfold cacheIn; dsimp only
  refine MemWritten.setImp ?_ _
  split
  · exact memWritten_evictOne s
  · exact .refl s

theorem memWritten_cachePath (r t : Nat) : MemWritten s (cachePath s r t) :=
  (MemWritten.refl s).foldl fun u p => by
    split
    · exact .refl u
    · exact memWritten_cacheIn u _

theorem memWritten_tagStore (r t : Nat) (g : BitVec 64) : MemWritten s (tagStore s r t g) := by
  unfold tagStore; dsimp only
  split
  · exact ((((memWritten_physWrite s _ _).setImp _).setFlag (by decide)).setFlag (by decide)).raise (by decide)
  · exact memWritten_physWrite s _ _

theorem memWritten_tileWriteAt (r t c : Nat) (p : List Byte) : MemWritten s (tileWriteAt s r t c p) :=
  ((((memWritten_cachePath s r t).trans (memWritten_physWrite _ _ _)).trans (memWritten_tagStore _ _ _ _)).trans
    (memWritten_setCtrs _ _ _ _ _)).trans (memWritten_jTile _ _ _ _ _ _)

theorem memWritten_tileBack (r t : Nat) (p : List Byte) : MemWritten s (tileBack s r t p) := by
  unfold tileBack
  split
  · exact (MemWritten.refl s).raise (by decide)
  · exact memWritten_tileWriteAt s _ _ _ _

theorem memWritten_encWrite (k t : Nat) (p : List Byte) : MemWritten s (encWrite s k t p) := by
  unfold encWrite; dsimp only
  split
  · exact (memWritten_physWrite s _ _).trans (memWritten_jTile _ _ _ _ _ _)
  · exact memWritten_physWrite s _ _

theorem memWritten_tilePut (k : ImpKind) (t o : Nat) (b : List Byte) : MemWritten s (tilePut s k t o b) := by
  unfold tilePut; dsimp only
  split
  · exact (MemWritten.refl s).setImp _
  · split
    · exact memWritten_tileBack s _ _ _
    · exact memWritten_encWrite s _ _ _
    · exact .refl s

/-! As initiators write. -/

theorem memWritten_rawWrite (k a : Nat) (b : List Byte) : MemWritten s (s.rawWrite k a b) := by
  unfold State.rawWrite
  split
  · exact memWritten_spWrite s a b
  · split
    · refine (MemWritten.refl s).foldl fun u t => ?_
      dsimp only
      split
      · exact memWritten_physWrite u _ _
      · exact .refl u
      · exact .refl u
      · exact memWritten_tilePut u _ _ _ _
    · exact (MemWritten.refl s).store a b

theorem memWritten_viewWrite (k a : Nat) (b : List Byte) : MemWritten s (s.viewWrite k a b) := by
  unfold State.viewWrite; dsimp only
  split
  · exact ((MemWritten.refl s).foldl fun u p => memWritten_rawWrite u k _ _).count (by decide)
  · exact (memWritten_rawWrite s k a b).trans (memWritten_jMem _ _ _ _)

theorem memWritten_setBytes (a : Nat) (b : List Byte) : MemWritten s (s.setBytes a b) := memWritten_viewWrite s 0 a b

end

end Sys2Proof.Machine
end

section
/-! PROOFS. A statement of 03_pacer.md: the service of a worker (R110). -/

namespace Sys2Proof.Machine

/-! The well-formedness of the Pacer's operations. -/

theorem Op.ok_iff {o : Op} : o.ok = true ↔ o.slot < 2 ^ 20 ∧ o.group < 16 ∧ o.cls < 4 ∧ o.list < 8 ∧ o.flow < 1024 ∧ o.graph < 256 ∧
    (∀ i ∈ validToks o.ins, i < 16384) ∧ ∀ i ∈ validToks o.outs, i < 16384 := by
  simp [Op.ok, and_assoc]

theorem Pacer.ok_iff {p : Pacer} : p.ok = true ↔ (∀ o ∈ p.ops, o.ok = true ∧ o.id < p.nextId) ∧ (p.ops.map (·.id)).Nodup := by
  simp [Pacer.ok]

/-- The bounds that ending, granting and releasing an operation write within. -/
theorem bounds_of_ok {p : Pacer} (h : p.ok = true) {o : Op} (ho : o ∈ p.ops) : o.ok = true := by
  obtain ⟨all, -⟩ := Pacer.ok_iff.mp h
  exact (all o ho).1

/-! The first READY operation of a group. -/

/-- The better of two operations: the earlier due, else the one found first. -/
def sooner (best : Option Op) (o : Op) : Option Op :=
  match best with
  | none => some o
  | some b => if ptLater b.due o.due then some o else some b

theorem sooner_eq (b : Option Op) (o : Op) : sooner b o = some o ∨ sooner b o = b := by
  cases b with
  | none => exact .inl rfl
  | some b =>
    unfold sooner; dsimp only
    split
    · exact .inl rfl
    · exact .inr rfl

theorem foldl_sooner_mem {o : Op} : ∀ {l : List Op} {b : Option Op}, l.foldl sooner b = some o → b = some o ∨ o ∈ l
  | [], _, h => .inl h
  | x :: l, b, h => by
    rcases foldl_sooner_mem (l := l) h with c | c
    · rcases sooner_eq b x with e | e
      · exact .inr (by rw [e] at c; cases c; exact List.mem_cons_self)
      · exact .inl (e ▸ c)
    · exact .inr (List.mem_cons_of_mem x c)

theorem foldl_sooner_isSome : ∀ (l : List Op) (b : Option Op), (l.foldl sooner b).isSome = (b.isSome || !l.isEmpty)
  | [], b => by simp
  | x :: l, b => by
    rw [List.foldl_cons, foldl_sooner_isSome l]
    rcases sooner_eq b x with e | e
    · simp [e]
    · cases b with
      | none => cases e
      | some _ => simp [e]

theorem firstReady_eq (s : State) (g c w : Nat) : firstReady s g c w =
    (s.pac.ops.filter (fun o => o.st == .ready && o.group == g && mayTake o c w)).foldl sooner none := rfl

theorem firstReady_mem {s : State} {g c w : Nat} {o : Op} (h : firstReady s g c w = some o) :
    o ∈ s.pac.ops ∧ o.st = .ready ∧ mayTake o c w = true := by
  rcases foldl_sooner_mem (firstReady_eq s g c w ▸ h) with e | e
  · cases e
  · obtain ⟨mem, fit⟩ := List.mem_filter.mp e
    simp only [Bool.and_eq_true, beq_iff_eq] at fit
    exact ⟨mem, fit.1.1, fit.2⟩

theorem firstReady_isSome {s : State} {c w : Nat} {o : Op} (ho : o ∈ s.pac.ops) (hst : o.st = .ready) (hm : mayTake o c w = true) :
    (firstReady s o.group c w).isSome = true := by
  have fits : o ∈ s.pac.ops.filter (fun x => x.st == .ready && x.group == o.group && mayTake x c w) :=
    List.mem_filter.mpr ⟨ho, by simp [hst, hm]⟩
  rw [firstReady_eq, foldl_sooner_isSome]
  simpa using List.ne_nil_of_mem fits

/-! The loop of R110. -/

/-- The group a class's pointer stands at. -/
def turnOf (s : State) (c : Nat) : Nat := sget (fun _ => 0) s.pac.ptr c

/-- The group at the pointer left with a deficit, and the pointer moved on. -/
def passTurn (s : State) (c : Nat) (d : Int) : State :=
  (setDeficit s c (turnOf s c) d).setPac { (setDeficit s c (turnOf s c) d).pac with
    ptr := sput (fun _ => 0) s.pac.ptr c ((turnOf s c + 1) % 16) }

@[simp] theorem turnOf_passTurn (s : State) (c : Nat) (d : Int) : turnOf (passTurn s c d) c = (turnOf s c + 1) % 16 :=
  sget_sput_same _ _ _ _

theorem deficitOf_passTurn (s : State) (c : Nat) (d : Int) (g : Nat) :
    deficitOf (passTurn s c d) c g = if turnOf s c = g then d else deficitOf s c g := by
  have e : deficitOf (passTurn s c d) c g = if 16 * c + turnOf s c = 16 * c + g then d else deficitOf s c g :=
    sget_sput _ _ _ _ _
  simpa using e

@[simp] theorem firstReady_passTurn (s : State) (k : Nat) (d : Int) (g c w : Nat) :
    firstReady (passTurn s k d) g c w = firstReady s g c w := rfl

section
variable {s : State} {c w : Nat} {o : Op} (n : Nat)

theorem serveLoop_serves (h : firstReady s (turnOf s c) c w = some o) (hd : 0 < deficitOf s c (turnOf s c)) :
    serveLoop (n + 1) s c w = (setDeficit s c (turnOf s c) (deficitOf s c (turnOf s c) - o.cost), some o) := by
  unfold turnOf at *; rw [serveLoop, h]; exact if_pos hd

theorem serveLoop_waits (h : firstReady s (turnOf s c) c w = some o) (hd : ¬0 < deficitOf s c (turnOf s c)) :
    serveLoop (n + 1) s c w =
      serveLoop n (passTurn s c (deficitOf s c (turnOf s c) + weight s (turnOf s c) c)) c w := by
  unfold turnOf at *; rw [serveLoop, h]; exact if_neg hd

theorem serveLoop_skips (h : firstReady s (turnOf s c) c w = none) :
    serveLoop (n + 1) s c w = serveLoop n (passTurn s c 0) c w := by
  unfold turnOf at *; rw [serveLoop, h]; rfl

end

/-- Only the pointers and the deficits differ. -/
def Turned (s t : State) : Prop := ∃ p d, t = s.setPac { s.pac with ptr := p, deficit := d }

theorem Turned.refl (s : State) : Turned s s := ⟨_, _, rfl⟩

theorem Turned.trans {s t u : State} (h : Turned s t) (k : Turned t u) : Turned s u := by
  obtain ⟨p, d, rfl⟩ := h
  obtain ⟨p', d', rfl⟩ := k
  exact ⟨p', d', rfl⟩

theorem turned_passTurn (s : State) (c : Nat) (d : Int) : Turned s (passTurn s c d) := ⟨_, _, rfl⟩

/-- What the loop yields may be served, and the loop changes only pointers and deficits. -/
theorem serveLoop_spec (c w : Nat) : ∀ (n : Nat) (s : State), Turned s (serveLoop n s c w).1 ∧
    ∀ o, (serveLoop n s c w).2 = some o → o ∈ s.pac.ops ∧ o.st = .ready ∧ mayTake o c w = true
  | 0, s => ⟨.refl s, fun _ h => nomatch h⟩
  | n + 1, s => by
    cases hr : firstReady s (turnOf s c) c w with
    | none =>
      rw [serveLoop_skips n hr]
      obtain ⟨turned, yields⟩ := serveLoop_spec c w n (passTurn s c 0)
      exact ⟨(turned_passTurn s c _).trans turned, yields⟩
    | some x =>
      by_cases hd : 0 < deficitOf s c (turnOf s c)
      · rw [serveLoop_serves n hr hd]
        exact ⟨⟨_, _, rfl⟩, fun o h => by cases h; exact firstReady_mem hr⟩
      · rw [serveLoop_waits n hr hd]
        obtain ⟨turned, yields⟩ := serveLoop_spec c w n _
        exact ⟨(turned_passTurn s c _).trans turned, yields⟩

theorem serve_spec (s : State) (c w : Nat) : Turned s (serve s c w).1 ∧
    ∀ o, (serve s c w).2 = some o → o ∈ s.pac.ops ∧ o.st = .ready ∧ mayTake o c w = true := by
  unfold serve
  split
  · exact serveLoop_spec c w _ s
  · exact ⟨.refl s, fun _ h => nomatch h⟩

theorem one_le_weight (s : State) (g c : Nat) : 1 ≤ weight s g c := by
  unfold weight; dsimp only
  split
  · exact le_rfl
  · omega

/-- The visits a group still has to wait for: 16 for each step its deficit has to rise, and those of the groups before it. -/
def visitsLeft (s : State) (c g : Nat) : Nat := 16 * (1 - deficitOf s c g).toNat + (g + 16 - turnOf s c) % 16

/-- A turn passed brings a group with a READY operation nearer to its service. -/
theorem visitsLeft_passTurn {s : State} {c g : Nat} {d : Int} (hg : g < 16) (hp : turnOf s c < 16)
    (hd : turnOf s c = g → deficitOf s c g ≤ 0 ∧ deficitOf s c g < d) :
    visitsLeft (passTurn s c d) c g < visitsLeft s c g := by
  unfold visitsLeft
  rw [turnOf_passTurn, deficitOf_passTurn]
  by_cases e : turnOf s c = g
  · obtain ⟨low, rises⟩ := hd e
    rw [if_pos e]; omega
  · rw [if_neg e]; omega

/-- A group with a READY operation is served, or another before it. -/
theorem serveLoop_yields {c w g : Nat} (hg : g < 16) {n : Nat} : ∀ {s : State}, turnOf s c < 16 →
    (firstReady s g c w).isSome = true → visitsLeft s c g < n → ∃ t o, serveLoop n s c w = (t, some o) := by
  induction n with
  | zero => exact fun _ _ hn => absurd hn (Nat.not_lt_zero _)
  | succ n ih =>
    intro s hp hs hn
    have hp' (d : Int) : turnOf (passTurn s c d) c < 16 := by rw [turnOf_passTurn]; exact Nat.mod_lt _ (by decide)
    cases hr : firstReady s (turnOf s c) c w with
    | none =>
      have near := visitsLeft_passTurn (d := 0) hg hp fun e => by rw [← e, hr] at hs; cases hs
      rw [serveLoop_skips n hr]
      exact ih (hp' _) hs (by omega)
    | some o =>
      by_cases hd : 0 < deficitOf s c (turnOf s c)
      · exact ⟨_, _, serveLoop_serves n hr hd⟩
      · have rises := one_le_weight s (turnOf s c) c
        have near := visitsLeft_passTurn (d := deficitOf s c (turnOf s c) + weight s (turnOf s c) c) hg hp fun e => by
          rw [e] at hd ⊢; rw [e] at rises; omega
        rw [serveLoop_waits n hr hd]
        exact ih (hp' _) hs (by omega)

/-- Settles O23: `serveLoop_spec` for what is served; for progress, each turn passed lowers `visitsLeft` of the group of the READY
operation, which begins below the loop's bound. -/
theorem pacerServiceIsFair : Obligations.PacerServiceIsFair := by
  refine ⟨fun s t c w o h => ?_, fun s c w _ hok hdef hptr ⟨o, ho, hst, hm⟩ => ?_⟩
  case refine_1 =>
    obtain ⟨⟨p, d, ht⟩, yields⟩ := serve_spec s c w
    rw [h] at ht yields
    obtain ⟨mem, ready, may⟩ := yields o rfl
    exact ⟨mem, ready, may, by rw [show t = _ from ht]; rfl⟩
  case refine_2 =>
    obtain ⟨-, hg, -⟩ := Op.ok_iff.mp (bounds_of_ok hok ho)
    have some_ready := firstReady_isSome ho hst hm
    have bound : visitsLeft s c o.group < 4352 := by
      have := hdef o.group hg
      unfold visitsLeft; omega
    have any : (List.range 16).any (fun g => (firstReady s g c w).isSome) = true :=
      List.any_eq_true.mpr ⟨o.group, List.mem_range.mpr hg, some_ready⟩
    rw [serve, if_pos any]
    exact serveLoop_yields hg hptr some_ready bound

end Sys2Proof.Machine
end

section
/-! SUPPORT. What the Pacer's operations do to tokens, counts and the list of unreleased operations: one frame, `PacKept`, carried through
the parts of an end, a grant and a release. -/

namespace Sys2Proof.Machine

/-! Reads of memory do not look at the Pacer. -/

section
variable (s : State) (p : Pacer)

theorem nodeCtrs_setPac (r : Nat) : ∀ l j, nodeCtrs (s.setPac p) r l j = nodeCtrs s r l j
  | 0, _ => rfl
  | l + 1, j => by
    unfold nodeCtrs
    rw [nodeCtrs_setPac r l]
    rfl

theorem tileCtr_setPac (r t : Nat) : tileCtr (s.setPac p) r t = tileCtr s r t := by
  unfold tileCtr; dsimp only; rw [nodeCtrs_setPac]; rfl

theorem tilePlain_setPac (r t : Nat) : tilePlain (s.setPac p) r t = tilePlain s r t := by
  unfold tilePlain; rw [tileCtr_setPac]; rfl

theorem tileByte_setPac (k : ImpKind) (a : Nat) : tileByte (s.setPac p) k a = tileByte s k a := by
  cases k with
  | encInt r => unfold tileByte; dsimp only; rw [tilePlain_setPac]; rfl
  | _ => rfl

theorem viewByte_setPac (k a : Nat) : viewByte (s.setPac p) k a = viewByte s k a := by
  have kind : impKind (s.setPac p) a k = impKind s a k := rfl
  unfold viewByte
  simp only [kind, tileByte_setPac]
  rfl

theorem memN_setPac (a n : Nat) : (s.setPac p).memN a n = s.memN a n := by
  unfold State.memN State.bytes State.viewBytes
  simp only [viewByte_setPac]

theorem descWord_setPac (slot k : Nat) : descWord (s.setPac p) slot k = descWord s slot k := memN_setPac s p _ _

theorem descOp_setPac (slot : Nat) : descOp (s.setPac p) slot = { descOp s slot with id := p.nextId } := by
  unfold descOp
  simp only [descWord_setPac]
  rfl

theorem tokLen_setPac (i : Nat) : tokLen (s.setPac p) i = tokLen s i := memN_setPac s p _ _

end

/-! States that differ in their registers alone. -/

namespace OnlyRegs

variable {s t u : State}

theorem trans (h : OnlyRegs s t) (k : OnlyRegs t u) : OnlyRegs s u := by
  obtain ⟨r, rfl⟩ := h
  obtain ⟨r', rfl⟩ := k
  exact ⟨r', rfl⟩

theorem count (h : OnlyRegs s t) (a : Nat) : OnlyRegs s (t.count a) := h.setRegN _ _
theorem addFld (h : OnlyRegs s t) (a hi lo n : Nat) : OnlyRegs s (t.addFld a hi lo n) := h.setRegN _ _

theorem raiseIf (h : OnlyRegs s t) (c : Bool) (b n : Nat) : OnlyRegs s (t.raiseIf c b n) := by
  cases c
  · exact h
  · exact h.raise b n

theorem foldl {α : Type} {l : List α} {f : State → α → State} (h : OnlyRegs s t) (hf : ∀ u x, OnlyRegs u (f u x)) :
    OnlyRegs s (l.foldl f t) :=
  List.foldlRecOn l f h fun u k x _ => k.trans (hf u x)

theorem pac (h : OnlyRegs s t) : t.pac = s.pac := by obtain ⟨r, rfl⟩ := h; rfl
theorem mem (h : OnlyRegs s t) : t.mem = s.mem := by obtain ⟨r, rfl⟩ := h; rfl
theorem sameMem (h : OnlyRegs s t) : SameMem s t := sameMem_of_mem h.mem

end OnlyRegs

theorem onlyRegs_setOuts (s : State) (o : Op) (v : Nat) : OnlyRegs s (setOuts s o v) :=
  (OnlyRegs.refl s).foldl fun u _ => (OnlyRegs.refl u).setRegN _ _

theorem onlyRegs_fillRegs (s : State) (l g : Nat) : OnlyRegs s (fillRegs s l g) := by
  unfold fillRegs; dsimp only
  refine OnlyRegs.setRegN ?_ _ _
  split
  · exact ((OnlyRegs.refl s).setFld _ _ _ _).setFld _ _ _ _
  · exact (OnlyRegs.refl s).setFld _ _ _ _

theorem onlyRegs_lossStat (s : State) : OnlyRegs s (lossStat s) := ((OnlyRegs.refl s).setFlag _ _ _).setFld _ _ _ _
theorem onlyRegs_recStat (s : State) : OnlyRegs s (recStat s) := ((OnlyRegs.refl s).setFld _ _ _ _).setFld _ _ _ _
theorem onlyRegs_lateDone (s : State) : OnlyRegs s (lateDone s) := ((OnlyRegs.refl s).count _).raise _ _
theorem onlyRegs_timedDrop (s : State) : OnlyRegs s (timedDrop s) := ((OnlyRegs.refl s).count _).raise _ _

/-! Memory written by the Pacer. -/

theorem memWritten_writeW (s : State) (slot st code seq pt : Nat) : MemWritten s (writeW s slot st code seq pt) :=
  (memWritten_setBytes s _ _).trans (memWritten_setBytes _ _ _)

theorem memWritten_dmaCopy (s : State) (o : Op) (n : Nat) : MemWritten s (dmaCopy s o n) := by
  unfold dmaCopy
  split
  · exact memWritten_setBytes s _ _
  · exact .refl s

@[simp] theorem pac_writeW (s : State) (slot st code seq pt : Nat) : (writeW s slot st code seq pt).pac = s.pac :=
  (memWritten_writeW s slot st code seq pt).pac

@[simp] theorem pac_setOuts (s : State) (o : Op) (v : Nat) : (setOuts s o v).pac = s.pac := (onlyRegs_setOuts s o v).pac
@[simp] theorem pac_fillRegs (s : State) (l g : Nat) : (fillRegs s l g).pac = s.pac := (onlyRegs_fillRegs s l g).pac
@[simp] theorem pac_lossStat (s : State) : (lossStat s).pac = s.pac := (onlyRegs_lossStat s).pac
@[simp] theorem pac_recStat (s : State) : (recStat s).pac = s.pac := (onlyRegs_recStat s).pac

/-! Tokens (R99). -/

theorem tokStat_inj {i j : Nat} : Reg.PAC_TOK_STAT i = Reg.PAC_TOK_STAT j ↔ i = j := by unfold Reg.PAC_TOK_STAT; omega

theorem tok_of_reg {s t : State} {i : Nat} (h : t.reg (Reg.PAC_TOK_STAT i) = s.reg (Reg.PAC_TOK_STAT i)) : t.tok i = s.tok i :=
  fld_of_reg _ _ h

theorem tok_setTok (s : State) (i j : Nat) {v : Nat} (hv : v < 8) : (s.setTok i v).tok j = if i = j then v else s.tok j := by
  split
  case isTrue h =>
    subst h
    unfold State.tok State.setTok State.fld bitsOf
    rw [regN_setRegN, if_pos rfl]; omega
  case isFalse h => exact tok_of_reg (reg_setRegN_ne _ _ fun c => h (tokStat_inj.mp c))

theorem tok_foldl_setTok {v : Nat} (hv : v < 8) (i : Nat) : ∀ (l : List Nat) (s : State),
    (l.foldl (fun s i => s.setTok i v) s).tok i = if i ∈ l then v else s.tok i
  | [], s => by simp
  | j :: l, s => by
    rw [List.foldl_cons, tok_foldl_setTok hv i l, tok_setTok s j i hv]
    by_cases h : i ∈ l
    · simp [h]
    · by_cases e : j = i
      · simp [e]
      · simp [h, e, Ne.symm e]

/-- Each output takes the state. -/
theorem tok_setOuts (s : State) {o : Op} {v i : Nat} (hv : v < 8) (hi : i ∈ validToks o.outs) : (setOuts s o v).tok i = v :=
  (tok_foldl_setTok hv i _ s).trans (if_pos hi)

/-! The frame of a Pacer operation. -/

/-- Time passes not; below the counts of wholesale cancellation no register but those of W changes, and the Pacer's events stand on. (Event
11, whose bit shares its number with a record's OPEN flag, is left out: a record of an unbounded slot would reach the event register.) -/
structure PacKept (W : Nat → Prop) (s t : State) : Prop where
  tim    : t.tim = s.tim
  regs   : ∀ a, a < Reg.RB_WHOLESALE_CNT → ¬W a → t.reg a = s.reg a
  stands : ∀ n, n ≠ 11 → Raised s blkPac n → Raised t blkPac n

theorem lt_of_below {a : Nat} (h : a < Reg.RB_WHOLESALE_CNT) : a < evtStatus blkPac := lt_trans h (by decide)

namespace PacKept

variable {W V : Nat → Prop} {s t u : State}

theorem refl (s : State) : PacKept W s s := ⟨rfl, fun _ _ _ => rfl, fun _ _ h => h⟩

theorem trans (h : PacKept W s t) (k : PacKept W t u) : PacKept W s u :=
  ⟨k.tim.trans h.tim, fun a ha hw => (k.regs a ha hw).trans (h.regs a ha hw), fun n hn r => k.stands n hn (h.stands n hn r)⟩

theorem mono (h : PacKept W s t) (hv : ∀ a, W a → V a) : PacKept V s t :=
  ⟨h.tim, fun a ha hw => h.regs a ha fun c => hw (hv a c), h.stands⟩

theorem foldl {α : Type} {l : List α} {f : State → α → State} (h : PacKept W s t) (hf : ∀ u, ∀ x ∈ l, PacKept W u (f u x)) :
    PacKept W s (l.foldl f t) :=
  List.foldlRecOn l f h fun u k x hx => k.trans (hf u x hx)

/-- Nothing that is kept differs. -/
theorem of_eq (ht : t.tim = s.tim) (hr : t.regs = s.regs) : PacKept W s t := by
  have same (a : Nat) : t.reg a = s.reg a := by unfold State.reg; rw [hr]
  exact ⟨ht, fun a _ _ => same a, fun n _ h => by unfold Raised at h ⊢; rw [flag_of_reg n (same _)]; exact h⟩

theorem of_written (h : MemWritten s t) : PacKept W s t :=
  ⟨h.tim, fun a ha _ => h.regs a (lt_trans ha (by decide)), fun n _ r => by
    unfold Raised at r ⊢; rw [flag_of_reg n (h.regs _ (by decide))]; exact r⟩

theorem setPac (h : PacKept W s t) (p : Pacer) : PacKept W s (t.setPac p) := h.trans (of_eq rfl rfl)
theorem setCore (h : PacKept W s t) (c : Nat) (k : CoreState) : PacKept W s (t.setCore c k) := h.trans (of_eq rfl rfl)

theorem setRegN (h : PacKept W s t) {a v : Nat} (ha : a ≠ evtStatus blkPac) (hw : a < Reg.RB_WHOLESALE_CNT → W a) :
    PacKept W s (t.setRegN a v) :=
  h.trans ⟨rfl, fun _ hj hn => reg_setRegN_ne t v fun c => hn (c ▸ hw (c ▸ hj)), fun n _ r => by
    unfold Raised at r ⊢; rw [flag_of_reg n (reg_setRegN_ne t v ha)]; exact r⟩

theorem setFld (h : PacKept W s t) {a hi lo v : Nat} (ha : a ≠ evtStatus blkPac) (hw : a < Reg.RB_WHOLESALE_CNT → W a) :
    PacKept W s (t.setFld a hi lo v) := h.setRegN ha hw
theorem addFld (h : PacKept W s t) {a hi lo n : Nat} (ha : a ≠ evtStatus blkPac) (hw : a < Reg.RB_WHOLESALE_CNT → W a) :
    PacKept W s (t.addFld a hi lo n) := h.setRegN ha hw
theorem setFlag (h : PacKept W s t) {a n : Nat} {b : Bool} (ha : a ≠ evtStatus blkPac) (hw : a < Reg.RB_WHOLESALE_CNT → W a) :
    PacKept W s (t.setFlag a n b) := h.setRegN ha hw
theorem count (h : PacKept W s t) {a : Nat} (ha : a ≠ evtStatus blkPac) (hw : a < Reg.RB_WHOLESALE_CNT → W a) :
    PacKept W s (t.count a) := h.setRegN ha hw

theorem raise (h : PacKept W s t) {n : Nat} (hn : n < 32) : PacKept W s (t.raise blkPac n) :=
  h.trans ⟨rfl, fun a ha _ => reg_raise t _ _ a (lt_of_below ha).ne
      (by have := lt_of_below ha; unfold evtCount evtStatus at *; omega),
    fun k _ r => by
      by_cases e : n = k
      · subst e; exact flag_raise t _ _ hn
      · exact (flag_raise_ne t _ _ _ hn e).trans r⟩

theorem raiseIf (h : PacKept W s t) {c : Bool} {n : Nat} (hn : n < 32) : PacKept W s (t.raiseIf c blkPac n) := by
  cases c
  · exact h
  · exact h.raise hn

/-- The OPEN flag of a record closed. -/
theorem closeRec (h : PacKept W s t) (slot : Nat) (b : Bool) : PacKept W s (t.setFlag (Reg.RB_REC slot) 11 b) := by
  refine h.trans ⟨rfl, fun a ha _ => reg_setFlag_ne _ _ _ ?_, fun n hn r => ?_⟩
  · unfold Reg.RB_REC Reg.RB_WHOLESALE_CNT at *; omega
  · unfold Raised State.setFlag at *
    rw [flag_setFld _ _ _ _ _ _ _ (by omega) (by omega), if_neg (by omega)]; exact r

theorem regN (h : PacKept W s t) {a : Nat} (ha : a < Reg.RB_WHOLESALE_CNT) (hw : ¬W a) : t.regN a = s.regN a :=
  regN_of_reg (h.regs a ha hw)

theorem flag (h : PacKept W s t) {a : Nat} (n : Nat) (ha : a < Reg.RB_WHOLESALE_CNT) (hw : ¬W a) : t.flag a n = s.flag a n :=
  flag_of_reg n (h.regs a ha hw)

theorem tok (h : PacKept W s t) {i : Nat} (hi : i < 16384) (hw : ¬W (Reg.PAC_TOK_STAT i)) : t.tok i = s.tok i :=
  tok_of_reg (h.regs _ (by unfold Reg.PAC_TOK_STAT Reg.RB_WHOLESALE_CNT; omega) hw)

theorem pt (h : PacKept W s t) : t.pt = s.pt := by unfold State.pt; rw [h.tim]

end PacKept

/-! The parts of an end. -/

/-- The tokens' states. -/
def tokRegs (a : Nat) : Prop := ∃ i < 16384, a = Reg.PAC_TOK_STAT i
/-- The fill of a delay list and the outstanding cost of a group. -/
def fillBits (a : Nat) : Prop := (∃ l < 8, a = Reg.PAC_LIST_FILL l) ∨ ∃ g < 16, a = Reg.PAC_GRP_OUT g
/-- What an end writes below the counts of wholesale cancellation. -/
def endRegs (a : Nat) : Prop := tokRegs a ∨ fillBits a ∨ a = Reg.RB_LOSS_CNT ∨ a = Reg.RB_STAT

theorem listFill_ne {l : Nat} (h : l < 8) : Reg.PAC_LIST_FILL l ≠ evtStatus blkPac := by
  unfold Reg.PAC_LIST_FILL evtStatus blockBase ctrlBase blkPac; omega
theorem grpOut_ne {g : Nat} (h : g < 16) : Reg.PAC_GRP_OUT g ≠ evtStatus blkPac := by
  unfold Reg.PAC_GRP_OUT evtStatus blockBase ctrlBase blkPac; omega
theorem tokStat_ne {i : Nat} (h : i < 16384) : Reg.PAC_TOK_STAT i ≠ evtStatus blkPac := by
  unfold Reg.PAC_TOK_STAT evtStatus blockBase ctrlBase blkPac; omega
theorem recCount_ne (n : Nat) : Reg.RB_REC n + 12 ≠ evtStatus blkPac := by
  unfold Reg.RB_REC evtStatus blockBase ctrlBase blkPac; omega

theorem not_fillBits_tok {i : Nat} (h : i < 16384) : ¬fillBits (Reg.PAC_TOK_STAT i) := by
  rintro (⟨l, hl, e⟩ | ⟨g, hg, e⟩)
  · unfold Reg.PAC_TOK_STAT Reg.PAC_LIST_FILL at e; omega
  · unfold Reg.PAC_TOK_STAT Reg.PAC_GRP_OUT at e; omega

/-- The lists' and groups' registers lie from 0x4200_0300 up to 0x4200_0500. -/
theorem fillBits_range {a : Nat} (h : fillBits a) : 0x42000300 ≤ a ∧ a < 0x42000500 := by
  rcases h with ⟨l, hl, e⟩ | ⟨g, hg, e⟩
  · unfold Reg.PAC_LIST_FILL at e; omega
  · unfold Reg.PAC_GRP_OUT at e; omega

theorem tokRegs_range {a : Nat} (h : tokRegs a) : 0x42040000 ≤ a ∧ a < 0x42050000 := by
  obtain ⟨i, hi, e⟩ := h
  unfold Reg.PAC_TOK_STAT at e; omega

/-- A register of the Pacer's configuration is none that an end writes. -/
theorem not_endRegs {a : Nat} (h1 : a < 0x42000300 ∨ 0x42000500 ≤ a) (h2 : a < 0x42040000) : ¬endRegs a := by
  rintro (c | c | rfl | rfl)
  · have := tokRegs_range c; omega
  · have := fillBits_range c; omega
  · revert h2; decide
  · revert h2; decide

section
variable (s : State)

theorem pacKept_setOuts {o : Op} (v : Nat) (h : ∀ i ∈ validToks o.outs, i < 16384) : PacKept tokRegs s (setOuts s o v) :=
  (PacKept.refl s).foldl fun u i hi => (PacKept.refl u).setRegN (tokStat_ne (h i hi)) fun _ => ⟨i, h i hi, rfl⟩

theorem pacKept_fillRegs {l g : Nat} (hl : l < 8) (hg : g < 16) : PacKept fillBits s (fillRegs s l g) := by
  have list {t : State} {hi lo v : Nat} (h : PacKept fillBits s t) : PacKept fillBits s (t.setFld (Reg.PAC_LIST_FILL l) hi lo v) :=
    h.setFld (listFill_ne hl) fun _ => .inl ⟨l, hl, rfl⟩
  unfold fillRegs; dsimp only
  refine PacKept.setRegN ?_ (grpOut_ne hg) fun _ => .inr ⟨g, hg, rfl⟩
  split
  · exact list (list (.refl s))
  · exact list (.refl s)

theorem pacKept_lossStat {W : Nat → Prop} : PacKept W s (lossStat s) :=
  ((PacKept.refl s).setFlag (by decide) (fun c => absurd c (by decide))).setFld (by decide) fun c => absurd c (by decide)

theorem pacKept_closeRecs {W : Nat → Prop} (hw : W Reg.RB_STAT) : PacKept W s (closeRecs s) :=
  ((((PacKept.refl s).foldl fun u r _ => (PacKept.refl u).closeRec r.slot false).setPac _).setFld (by decide) fun _ => hw).setFld
    (by decide) fun _ => hw

theorem pacKept_recFinal {W : Nat → Prop} (i : Nat) (lost : Bool) (hw : W Reg.RB_STAT) : PacKept W s (recFinal s i lost) := by
  unfold recFinal; dsimp only
  refine (PacKept.setPac ?_ _).trans (pacKept_closeRecs _ hw)
  split
  · exact (PacKept.refl s).foldl fun u r _ => (PacKept.refl u).addFld (recCount_ne r.slot) fun c => by
      unfold Reg.RB_REC Reg.RB_WHOLESALE_CNT at c; omega
  · exact .refl s

theorem pacKept_abandonOp {W : Nat → Prop} (o : Op) : PacKept W s (abandonOp s o) := by
  unfold abandonOp; dsimp only
  split
  · split
    · exact (PacKept.refl s).setCore _ _
    · split
      · exact (PacKept.refl s).setCore _ _
      · exact (PacKept.refl s).setCore _ _
  · exact (PacKept.refl s).setPac _
  · exact .refl s

theorem pacKept_leaveRunning {W : Nat → Prop} (o : Op) : PacKept W s (leaveRunning s o) := by
  unfold leaveRunning
  split
  · split
    · exact (PacKept.refl s).setPac _
    · exact .refl s
  · exact .refl s

/-! What they leave of the Pacer's own part. -/

theorem pac_closeRecs : ∃ r, (closeRecs s).pac = { s.pac with recs := r } := by
  have shut : ∀ l : List OpenRec, (l.foldl (fun s r => s.setFlag (Reg.RB_REC r.slot) 11 false) s).pac = s.pac := fun l =>
    ((OnlyRegs.refl s).foldl fun u r => (OnlyRegs.refl u).setFlag _ _ _).pac
  unfold closeRecs; dsimp only
  rw [pac_recStat, State.setPac_pac, shut]
  exact ⟨_, rfl⟩

theorem pac_recFinal (i : Nat) (lost : Bool) : ∃ r, (recFinal s i lost).pac = { s.pac with recs := r } := by
  have noted : ∀ l : List OpenRec, (l.foldl (fun s r => s.addFld (Reg.RB_REC r.slot + 12) 31 16 1) s).pac = s.pac := fun l =>
    ((OnlyRegs.refl s).foldl fun u r => (OnlyRegs.refl u).addFld _ _ _ _).pac
  unfold recFinal; dsimp only
  obtain ⟨r, hr⟩ := pac_closeRecs ((if lost then (s.pac.recs.filter (fun r => r.pendOps.contains i)).foldl
    (fun s r => s.addFld (Reg.RB_REC r.slot + 12) 31 16 1) s else s).setPac
      { s.pac with recs := s.pac.recs.map (fun r => { r with pendOps := r.pendOps.filter (· != i) }) })
  refine ⟨r, ?_⟩
  cases lost
  · exact hr
  · simp only [if_true, noted] at hr ⊢
    exact hr

@[simp] theorem ops_recFinal (i : Nat) (lost : Bool) : (recFinal s i lost).pac.ops = s.pac.ops := by
  obtain ⟨r, h⟩ := pac_recFinal s i lost; rw [h]
@[simp] theorem lossQ_recFinal (i : Nat) (lost : Bool) : (recFinal s i lost).pac.lossQ = s.pac.lossQ := by
  obtain ⟨r, h⟩ := pac_recFinal s i lost; rw [h]

@[simp] theorem ops_abandonOp (o : Op) : (abandonOp s o).pac.ops = s.pac.ops := by
  unfold abandonOp; dsimp only; repeat' split
  all_goals rfl
@[simp] theorem lossQ_abandonOp (o : Op) : (abandonOp s o).pac.lossQ = s.pac.lossQ := by
  unfold abandonOp; dsimp only; repeat' split
  all_goals rfl
@[simp] theorem ops_leaveRunning (o : Op) : (leaveRunning s o).pac.ops = s.pac.ops := by
  unfold leaveRunning; repeat' split
  all_goals rfl
@[simp] theorem lossQ_leaveRunning (o : Op) : (leaveRunning s o).pac.lossQ = s.pac.lossQ := by
  unfold leaveRunning; repeat' split
  all_goals rfl

end

/-! The loss entry (R145). -/

section
variable (s : State) (o : Op) (cause final : Nat)

/-- The loss counted and its event raised. -/
def lossCounted : State := (s.count Reg.RB_LOSS_CNT).raise blkPac 21

@[simp] theorem pac_lossCounted : (lossCounted s).pac = s.pac := by simp [lossCounted]

theorem pacKept_lossCounted : PacKept (· = Reg.RB_LOSS_CNT) s (lossCounted s) := by
  have counted : PacKept (· = Reg.RB_LOSS_CNT) s (s.count Reg.RB_LOSS_CNT) := (PacKept.refl s).count (by decide) fun _ => rfl
  exact counted.raise (by decide)

theorem pushLoss_room (h : s.pac.lossQ.length < 256) : pushLoss s o cause final =
    lossStat ((lossCounted s).setPac { s.pac with lossQ := s.pac.lossQ ++ [lossEntry o cause final] }) := by
  unfold pushLoss; dsimp only
  rw [← lossCounted, pac_lossCounted, if_pos h]

theorem pushLoss_full (h : ¬s.pac.lossQ.length < 256) : pushLoss s o cause final =
    ((lossCounted s).addFld Reg.RB_LOSS_STAT 31 16 1).raise blkPac 22 := by
  unfold pushLoss; dsimp only
  rw [← lossCounted, pac_lossCounted, if_neg h]

theorem pacKept_pushLoss_counted {W : Nat → Prop} : PacKept W (lossCounted s) (pushLoss s o cause final) := by
  by_cases h : s.pac.lossQ.length < 256
  · rw [pushLoss_room s o cause final h]
    exact ((PacKept.refl _).setPac _).trans (pacKept_lossStat _)
  · rw [pushLoss_full s o cause final h]
    exact ((PacKept.refl _).addFld (by decide) fun c => absurd c (by decide)).raise (by decide)

theorem pacKept_pushLoss : PacKept (· = Reg.RB_LOSS_CNT) s (pushLoss s o cause final) :=
  (pacKept_lossCounted s).trans (pacKept_pushLoss_counted s o cause final)

theorem regN_pushLoss : (pushLoss s o cause final).regN Reg.RB_LOSS_CNT = satNat 32 (s.regN Reg.RB_LOSS_CNT + 1) := by
  have counted : (lossCounted s).regN Reg.RB_LOSS_CNT = satNat 32 (s.regN Reg.RB_LOSS_CNT + 1) := by
    rw [lossCounted, regN_of_reg (reg_raise _ _ _ _ (by decide) (by decide)), regN_count]
  rw [(pacKept_pushLoss_counted (W := fun _ => False) s o cause final).regN (by decide) id, counted]

theorem raised_pushLoss : Raised (pushLoss s o cause final) blkPac 21 :=
  (pacKept_pushLoss_counted (W := fun _ => False) s o cause final).stands 21 (by decide) (flag_raise _ _ _ (by decide))

@[simp] theorem ops_pushLoss : (pushLoss s o cause final).pac.ops = s.pac.ops := by
  by_cases h : s.pac.lossQ.length < 256
  · rw [pushLoss_room s o cause final h]; simp
  · rw [pushLoss_full s o cause final h]; simp

theorem lossQ_pushLoss (h : s.pac.lossQ.length < 256) :
    (pushLoss s o cause final).pac.lossQ = s.pac.lossQ ++ [lossEntry o cause final] := by
  rw [pushLoss_room s o cause final h]; simp

end

/-! The end of one operation (R116, R134, R135). -/

section
variable (s : State) (o : Op) (final cause : Nat)

/-- The state of an end with its worker told and its entry and W14 written. -/
def entryGone : State :=
  let s := if cause = 1 ∨ cause = 5 then leaveRunning s o else abandonOp s o
  writeW (s.setPac { s.pac with ops := s.pac.ops.filter (fun x => x.id != o.id) }) o.slot final 0 (if o.ordered then o.seq else 0) o.admitPt

/-- The state of an end just before its loss entry. -/
def cleared : State := fillRegs (setOuts (entryGone s o final cause) o tIdle) o.list o.group

theorem endOne_eq : endOne s o final cause = recFinal (pushLoss (cleared s o final cause) o cause final) o.id (final != 6) := rfl

theorem pacKept_entryGone {W : Nat → Prop} : PacKept W s (entryGone s o final cause) := by
  unfold entryGone; dsimp only
  refine (PacKept.setPac ?_ _).trans (.of_written (memWritten_writeW _ _ _ _ _ _))
  split
  · exact pacKept_leaveRunning s o
  · exact pacKept_abandonOp s o

@[simp] theorem ops_entryGone : (entryGone s o final cause).pac.ops = s.pac.ops.filter (fun x => x.id != o.id) := by
  unfold entryGone; dsimp only
  split <;> simp

@[simp] theorem lossQ_entryGone : (entryGone s o final cause).pac.lossQ = s.pac.lossQ := by
  unfold entryGone; dsimp only
  split <;> simp

@[simp] theorem ops_endOne : (endOne s o final cause).pac.ops = s.pac.ops.filter (fun x => x.id != o.id) := by
  simp [endOne_eq, cleared]

theorem lossQ_endOne (h : s.pac.lossQ.length < 256) :
    (endOne s o final cause).pac.lossQ = s.pac.lossQ ++ [lossEntry o cause final] := by
  have q : (cleared s o final cause).pac.lossQ = s.pac.lossQ := by simp [cleared]
  rw [endOne_eq, lossQ_recFinal, lossQ_pushLoss _ _ _ _ (by rw [q]; exact h), q]

variable {o}

theorem pacKept_cleared (h : o.ok = true) : PacKept (fun a => tokRegs a ∨ fillBits a) s (cleared s o final cause) := by
  obtain ⟨-, hg, -, hl, -, -, -, ho⟩ := Op.ok_iff.mp h
  exact ((pacKept_entryGone s o final cause).trans ((pacKept_setOuts _ _ ho).mono fun _ => .inl)).trans
    ((pacKept_fillRegs _ hl hg).mono fun _ => .inr)

/-- What comes after the outputs returned to IDLE leaves them. -/
theorem pacKept_after_outs (h : o.ok = true) : PacKept (fun a => fillBits a ∨ a = Reg.RB_LOSS_CNT ∨ a = Reg.RB_STAT)
    (setOuts (entryGone s o final cause) o tIdle) (endOne s o final cause) := by
  obtain ⟨-, hg, -, hl, -⟩ := Op.ok_iff.mp h
  exact (((pacKept_fillRegs _ hl hg).mono fun _ => .inl).trans ((pacKept_pushLoss _ o cause final).mono fun _ e => .inr (.inl e))).trans
    (pacKept_recFinal _ _ _ (.inr (.inr rfl)))

theorem pacKept_endOne (h : o.ok = true) : PacKept endRegs s (endOne s o final cause) :=
  (((pacKept_cleared s final cause h).mono fun _ c => c.imp_right .inl).trans
    ((pacKept_pushLoss _ o cause final).mono fun _ e => .inr (.inr (.inl e)))).trans
    (pacKept_recFinal _ _ _ (.inr (.inr (.inr rfl))))

theorem tok_endOne (h : o.ok = true) {i : Nat} (hi : i ∈ validToks o.outs) : (endOne s o final cause).tok i = tIdle := by
  obtain ⟨-, -, -, -, -, -, -, ho⟩ := Op.ok_iff.mp h
  rw [(pacKept_after_outs s final cause h).tok (ho i hi) ?_, tok_setOuts _ (by decide) hi]
  rintro (c | c | c)
  · exact not_fillBits_tok (ho i hi) c
  · have := tokRegs_range ⟨i, ho i hi, rfl⟩; rw [c] at this; revert this; decide
  · have := tokRegs_range ⟨i, ho i hi, rfl⟩; rw [c] at this; revert this; decide

theorem lossCnt_endOne (h : o.ok = true) :
    (endOne s o final cause).regN Reg.RB_LOSS_CNT = satNat 32 (s.regN Reg.RB_LOSS_CNT + 1) := by
  have apart : ¬(tokRegs Reg.RB_LOSS_CNT ∨ fillBits Reg.RB_LOSS_CNT) := by
    rintro (c | c)
    · have := tokRegs_range c; revert this; decide
    · have := fillBits_range c; revert this; decide
  rw [endOne_eq, (pacKept_recFinal (W := (· = Reg.RB_STAT)) _ _ _ rfl).regN (by decide) (by decide), regN_pushLoss,
    (pacKept_cleared s final cause h).regN (by decide) apart]

theorem raised_endOne (o : Op) : Raised (endOne s o final cause) blkPac 21 :=
  (pacKept_recFinal (W := fun _ => True) _ _ _ trivial).stands 21 (by decide) (raised_pushLoss _ _ _ _)

end

/-! Operations that end together (R135, R137). -/

/-- Some operations have ended: those left stood before, and the frame of an end. -/
structure Ended (s t : State) : Prop where
  kept : PacKept endRegs s t
  ops  : t.pac.ops.Sublist s.pac.ops

/-- Every unreleased operation is well formed. -/
def OpsOk (s : State) : Prop := ∀ o ∈ s.pac.ops, o.ok = true

namespace Ended

variable {s t u : State}

theorem refl (s : State) : Ended s s := ⟨.refl s, .refl _⟩
theorem trans (h : Ended s t) (k : Ended t u) : Ended s u := ⟨h.kept.trans k.kept, k.ops.trans h.ops⟩
theorem opsOk (h : Ended s t) (hs : OpsOk s) : OpsOk t := fun o ho => hs o (h.ops.subset ho)

theorem endOne (h : Ended s t) {o : Op} (final cause : Nat) (ho : o.ok = true) : Ended s (endOne t o final cause) :=
  h.trans ⟨pacKept_endOne t final cause ho, by rw [ops_endOne]; exact List.filter_sublist⟩

theorem foldl_endOne (h : Ended s t) {l : List Op} (final cause : Nat) (hl : ∀ o ∈ l, o.ok = true) :
    Ended s (l.foldl (fun s o => Machine.endOne s o final cause) t) :=
  List.foldlRecOn l _ h fun _ k o ho => k.endOne final cause (hl o ho)

/-- What has ended stays so. -/
theorem absent (h : Ended s t) {i : Nat} (hi : i ∉ s.pac.ops.map (·.id)) : i ∉ t.pac.ops.map (·.id) := fun c =>
  hi ((h.ops.map _).subset c)

end Ended

theorem absent_endOne (s : State) (o : Op) (final cause : Nat) : o.id ∉ (endOne s o final cause).pac.ops.map (·.id) := by
  simp [ops_endOne]

theorem absent_foldl_endOne {o : Op} (final cause : Nat) {l : List Op} (hl : ∀ x ∈ l, x.ok = true) (ho : o ∈ l) :
    ∀ s : State, o.id ∉ (l.foldl (fun s o => endOne s o final cause) s).pac.ops.map (·.id) := by
  induction l with
  | nil => cases ho
  | cons x l ih =>
    intro s
    have rest : ∀ y ∈ l, y.ok = true := fun y hy => hl y (List.mem_cons_of_mem x hy)
    rcases List.mem_cons.mp ho with rfl | mem
    · exact ((Ended.refl _).foldl_endOne final cause rest).absent (absent_endOne s o final cause)
    · exact ih rest mem _

theorem ended_endConsumers : ∀ (n : Nat) {s : State} (l : List Nat), OpsOk s → Ended s (endConsumers n s l)
  | 0, s, _, _ => .refl s
  | n + 1, s, l, hs => by
    unfold endConsumers; dsimp only
    split
    · exact .refl s
    · have ends : Ended s _ := (Ended.refl s).foldl_endOne 4 4
        (l := s.pac.ops.filter (fun o => (validToks o.ins).any (fun t => l.contains t))) fun o ho => hs o (List.mem_filter.mp ho).1
      exact ends.trans (ended_endConsumers n _ (ends.opsOk hs))

section
variable {s : State} {l : List Op} (final cause : Nat) (hs : OpsOk s) (hl : ∀ o ∈ l, o.ok = true)
include hs hl

theorem ended_endOps : Ended s (endOps s l final cause) := by
  have ends := (Ended.refl s).foldl_endOne final cause hl
  exact ends.trans (ended_endConsumers _ _ (ends.opsOk hs))

theorem absent_endOps {o : Op} (ho : o ∈ l) : o.id ∉ (endOps s l final cause).pac.ops.map (·.id) :=
  (ended_endConsumers _ _ (((Ended.refl s).foldl_endOne final cause hl).opsOk hs)).absent (absent_foldl_endOne final cause hl ho s)

end

/-- An operation that ends raises LOSS. -/
theorem raised_endOps {s : State} {o : Op} (final cause : Nat) (hs : OpsOk s) (ho : o.ok = true) :
    Raised (endOps s [o] final cause) blkPac 21 :=
  have one := (Ended.refl s).endOne final cause ho
  (ended_endConsumers _ _ (one.opsOk hs)).kept.stands 21 (by decide) (raised_endOne s final cause o)

/-- The state in which a wholesale cancellation has been counted. -/
def wholesaleCounted (s : State) : State := (s.count Reg.RB_WHOLESALE_CNT).raise blkPac 25

theorem ended_wholesaleCounted (s : State) : Ended s (wholesaleCounted s) :=
  ⟨((PacKept.refl s).count (by decide) fun c => absurd c (by decide)).raise (by decide), by simp [wholesaleCounted]⟩

section
variable {s : State} (p : Op → Bool) (hs : OpsOk s)
include hs

theorem ended_wholesale : Ended s (wholesale s p) ∧ Ended (wholesaleCounted s) (wholesale s p) := by
  have ok := (ended_wholesaleCounted s).opsOk hs
  have ends := ended_endOps 5 7 ok (l := (wholesaleCounted s).pac.ops.filter p) fun o ho => ok o (List.mem_filter.mp ho).1
  exact ⟨(ended_wholesaleCounted s).trans ends, ends⟩

theorem raised_wholesale : Raised (wholesale s p) blkPac 25 :=
  (ended_wholesale p hs).2.kept.stands 25 (by decide) (flag_raise _ _ _ (by decide))

/-- None of the operations picked is left. -/
theorem gone_wholesale {o : Op} (ho : o ∈ (wholesale s p).pac.ops) : p o = false := by
  have ok := (ended_wholesaleCounted s).opsOk hs
  by_contra picked
  refine absent_endOps 5 7 ok (l := (wholesaleCounted s).pac.ops.filter p) (fun x hx => ok x (List.mem_filter.mp hx).1)
    (List.mem_filter.mpr ⟨(ended_wholesale p hs).2.ops.subset ho, by simpa using picked⟩) ?_
  exact List.mem_map_of_mem ho

end

/-- Settles O28: the parts of `endOne`, in their order. -/
theorem reinBackLoss : Obligations.ReinBackLoss := by
  intro s o final cause hok ho
  have ok := bounds_of_ok hok ho
  refine ⟨?_, fun i hi => tok_endOne s final cause ok hi, lossCnt_endOne s final cause ok, lossQ_endOne s o final cause⟩
  rw [ops_endOne, List.filter_map]; rfl

end Sys2Proof.Machine
end

section
/-! PROOFS. A statement of 03_pacer.md: from the delay list to a worker (R108…R113, R126). -/

namespace Sys2Proof.Machine

/-! Sorted lists. -/

theorem insertBy_perm {α : Type} (le : α → α → Bool) (x : α) : ∀ l : List α, (insertBy le x l).Perm (x :: l)
  | [] => .refl _
  | y :: l => by
    unfold insertBy
    split
    · exact .refl _
    · exact ((insertBy_perm le x l).cons y).trans (.swap x y l)

theorem sortBy_perm {α : Type} (le : α → α → Bool) : ∀ l : List α, (sortBy le l).Perm l
  | [] => .refl _
  | x :: l => (insertBy_perm le x _).trans ((sortBy_perm le l).cons x)

/-! One operation replaced. -/

/-- Where a search finds the operation replaced, it finds what replaces it. -/
theorem find?_replace {p : Op → Bool} {o o' : Op} (hid : o'.id = o.id) (hp : p o' = true) : ∀ {l : List Op}, l.find? p = some o →
    (l.map fun x => if x.id = o'.id then o' else x).find? p = some o'
  | x :: l, h => by
    rw [List.map_cons, List.find?_cons]
    by_cases e : x.id = o'.id
    · simp [e, hp]
    · cases hx : p x with
      | true =>
        rw [List.find?_cons, hx] at h
        cases h
        exact absurd hid.symm e
      | false =>
        rw [List.find?_cons, hx] at h
        simp only [e, if_false, hx]
        exact find?_replace hid hp h

theorem opAt_setOp {s : State} {n : Nat} {o o' : Op} (h : opAt s n = some o) (hid : o'.id = o.id) (hs : o'.slot = o.slot) :
    opAt (setOp s o') n = some o' := by
  have slot := List.find?_some h
  exact find?_replace hid (by simpa [hs] using slot) h

theorem opId_setOp {s : State} {i : Nat} {o o' : Op} (h : opId s i = some o) (hid : o'.id = o.id) : opId (setOp s o') i = some o' := by
  have id := List.find?_some h
  exact find?_replace hid (by simpa [hid] using id) h

theorem opId_setOp_ne (s : State) {i : Nat} {o : Op} (h : o.id ≠ i) : opId (setOp s o) i = opId s i := by
  unfold opId setOp
  rw [State.setPac_pac]
  dsimp only
  generalize s.pac.ops = l
  induction l with
  | nil => rfl
  | cons x l ih =>
    rw [List.map_cons, List.find?_cons, List.find?_cons, ih]
    by_cases e : x.id = o.id
    · have other : (o.id == i) = false := beq_eq_false_iff_ne.mpr h
      simp [e, other]
    · simp [e]

/-- With numbers of their own, an operation is found by its number. -/
theorem opId_of_mem {s : State} (hn : (s.pac.ops.map (·.id)).Nodup) {o : Op} (ho : o ∈ s.pac.ops) : opId s o.id = some o := by
  unfold opId
  generalize s.pac.ops = l at *
  induction l with
  | nil => cases ho
  | cons x l ih =>
    obtain ⟨fresh, rest⟩ := List.nodup_cons.mp (List.map_cons ▸ hn)
    rw [List.find?_cons]
    rcases List.mem_cons.mp ho with rfl | mem
    · simp
    · have ne : x.id ≠ o.id := fun c => fresh (c ▸ List.mem_map_of_mem mem)
      simp only [beq_eq_false_iff_ne.mpr ne]
      exact ih rest mem

theorem opAt_of_ops {s t : State} {n : Nat} (h : t.pac.ops = s.pac.ops) : opAt t n = opAt s n := by unfold opAt; rw [h]
theorem opId_of_ops {s t : State} {n : Nat} (h : t.pac.ops = s.pac.ops) : opId t n = opId s n := by unfold opId; rw [h]
@[simp] theorem opAt_setCore (s : State) (c : Nat) (k : CoreState) (n : Nat) : opAt (s.setCore c k) n = opAt s n := rfl

theorem opAt_mem {s : State} {n : Nat} {o : Op} (h : opAt s n = some o) : o ∈ s.pac.ops := List.mem_of_find?_eq_some h
theorem opId_mem {s : State} {n : Nat} {o : Op} (h : opId s n = some o) : o ∈ s.pac.ops := List.mem_of_find?_eq_some h

theorem eq_of_id {l : List Op} (hn : (l.map (·.id)).Nodup) {x y : Op} (hx : x ∈ l) (hy : y ∈ l) (h : x.id = y.id) : x = y :=
  List.inj_on_of_nodup_map hn hx hy h

theorem mem_setOp {s : State} {o x : Op} (h : x ∈ (setOp s o).pac.ops) : x = o ∨ (x ∈ s.pac.ops ∧ x.id ≠ o.id) := by
  obtain ⟨y, hy, e⟩ := List.mem_map.mp h
  by_cases c : y.id = o.id
  · rw [if_pos c] at e; exact .inl e.symm
  · rw [if_neg c] at e; subst e; exact .inr ⟨hy, c⟩

@[simp] theorem length_setOp (s : State) (o : Op) : (setOp s o).pac.ops.length = s.pac.ops.length := List.length_map ..

theorem ids_setOp (s : State) (o : Op) : (setOp s o).pac.ops.map (·.id) = s.pac.ops.map (·.id) := by
  unfold setOp
  rw [State.setPac_pac, List.map_map]
  refine List.map_congr_left fun x _ => ?_
  by_cases e : x.id = o.id
  · simp [e]
  · simp [e]

@[simp] theorem regN_setPac (s : State) (p : Pacer) (a : Nat) : (s.setPac p).regN a = s.regN a := rfl
@[simp] theorem regN_setOp (s : State) (o : Op) (a : Nat) : (setOp s o).regN a = s.regN a := rfl
@[simp] theorem mem_setCore (s : State) (c : Nat) (k : CoreState) : (s.setCore c k).mem = s.mem := rfl
@[simp] theorem regN_setCore (s : State) (c : Nat) (k : CoreState) (a : Nat) : (s.setCore c k).regN a = s.regN a := rfl

/-! The DMA channels and the stager (R110, R115). -/

/-- A DMA channel or the stager served if it is free. -/
def feedWorker (s : State) (c w : Nat) : State :=
  if (heldBy s c w).isEmpty && !s.pac.busy.contains (workerKey c w) then
    match serve s c w with
    | (s, some o) => grantOp s o w
    | (s, none) => s
  else s

theorem feedDma_succ (n : Nat) (s : State) : feedDma (n + 1) s = feedDma n (feedWorker s 2 (32 - (n + 1))) := rfl
theorem feedHard_workers (s : State) : feedHard s = feedWorker (feedDma 32 s) 3 0 := by
  unfold feedHard
  generalize feedDma 32 s = t
  rfl

/-- No READY operation is a DMA channel's or the stager's. -/
def NoHardWork (s : State) : Prop := ∀ x ∈ s.pac.ops, x.st = .ready → x.cls < 2

theorem serve_idle {s : State} (h : NoHardWork s) {c : Nat} (hc : 2 ≤ c) (w : Nat) : serve s c w = (s, none) := by
  have none_ready : (List.range 16).any (fun g => (firstReady s g c w).isSome) = false := by
    refine List.any_eq_false.mpr fun g _ some_ready => ?_
    obtain ⟨o, ho⟩ := Option.isSome_iff_exists.mp some_ready
    obtain ⟨mem, ready, may⟩ := firstReady_mem ho
    have cls : o.cls = c := by simp only [mayTake, Bool.and_eq_true, beq_iff_eq] at may; exact may.1
    have := h o mem ready
    omega
  rw [serve, none_ready]; rfl

theorem feedWorker_idle {s : State} (h : NoHardWork s) {c : Nat} (hc : 2 ≤ c) (w : Nat) : feedWorker s c w = s := by
  rw [feedWorker, serve_idle h hc]
  exact ite_self s

theorem feedHard_idle {s : State} (h : NoHardWork s) : feedHard s = s := by
  have dma : ∀ n, feedDma n s = s := fun n => by
    induction n with
    | zero => rfl
    | succ n ih => rw [feedDma_succ, feedWorker_idle h (le_refl 2), ih]
  rw [feedHard_workers, dma, feedWorker_idle h (by decide)]

theorem noHardWork_of_cls {s : State} (h : ∀ x ∈ s.pac.ops, x.cls < 2) : NoHardWork s := fun x hx _ => h x hx

/-! The start of a list's entries (R109). -/

/-- Entries of the lists in P have moved: an entry keeps its number, list and class, one of another list is as it was, and beside the
entries only registers differ, below the counts of wholesale cancellation only the one of slips. -/
structure Moved (P : Nat → Prop) (s t : State) : Prop where
  kept : PacKept (· = Reg.PAC_START_SLIP_CNT) s t
  eq   : t = { s with regs := t.regs, pac := { s.pac with ops := t.pac.ops } }
  ops  : ∃ f : Op → Op, t.pac.ops = s.pac.ops.map f ∧ ∀ x ∈ s.pac.ops,
    ((f x).id = x.id ∧ (f x).list = x.list ∧ (f x).cls = x.cls) ∧ (¬P x.list → f x = x)

namespace Moved

variable {P Q : Nat → Prop} {s t u : State}

theorem of_regs (h : OnlyRegs s t) (k : PacKept (· = Reg.PAC_START_SLIP_CNT) s t) : Moved P s t := by
  obtain ⟨r, rfl⟩ := h
  exact ⟨k, rfl, id, (List.map_id _).symm, fun x _ => ⟨⟨rfl, rfl, rfl⟩, fun _ => rfl⟩⟩

theorem refl (s : State) : Moved P s s := of_regs (.refl s) (.refl s)

theorem trans (h : Moved P s t) (k : Moved P t u) : Moved P s u := by
  obtain ⟨f, hf, pf⟩ := h.ops
  obtain ⟨g, hg, pg⟩ := k.ops
  refine ⟨h.kept.trans k.kept, by rw [k.eq, h.eq], g ∘ f, by rw [hg, hf, List.map_map], fun x hx => ?_⟩
  obtain ⟨⟨id₁, list₁, cls₁⟩, still₁⟩ := pf x hx
  obtain ⟨⟨id₂, list₂, cls₂⟩, still₂⟩ := pg (f x) (hf ▸ List.mem_map_of_mem hx)
  refine ⟨⟨id₂.trans id₁, list₂.trans list₁, cls₂.trans cls₁⟩, fun hp => ?_⟩
  exact (still₂ (list₁ ▸ hp)).trans (still₁ hp)

theorem mono (h : Moved P s t) (hq : ∀ l, P l → Q l) : Moved Q s t := by
  obtain ⟨f, hf, pf⟩ := h.ops
  exact ⟨h.kept, h.eq, f, hf, fun x hx => ⟨(pf x hx).1, fun c => (pf x hx).2 fun p => c (hq _ p)⟩⟩

theorem foldl {α : Type} {l : List α} {f : State → α → State} (h : Moved P s t) (hf : ∀ u, Moved P s u → ∀ x ∈ l, Moved P u (f u x)) :
    Moved P s (l.foldl f t) :=
  List.foldlRecOn l f h fun u k x hx => k.trans (hf u k x hx)

theorem ids (h : Moved P s t) : t.pac.ops.map (·.id) = s.pac.ops.map (·.id) := by
  obtain ⟨f, hf, pf⟩ := h.ops
  rw [hf, List.map_map]
  refine List.map_congr_left fun x hx => ?_
  obtain ⟨⟨id, -⟩, -⟩ := pf x hx
  exact id

theorem nodup (h : Moved P s t) (hn : (s.pac.ops.map (·.id)).Nodup) : (t.pac.ops.map (·.id)).Nodup := h.ids ▸ hn

theorem cls (h : Moved P s t) (hs : ∀ x ∈ s.pac.ops, x.cls < 2) : ∀ x ∈ t.pac.ops, x.cls < 2 := by
  obtain ⟨f, hf, pf⟩ := h.ops
  rw [hf]
  intro y hy
  obtain ⟨x, hx, rfl⟩ := List.mem_map.mp hy
  obtain ⟨⟨-, -, cls⟩, -⟩ := pf x hx
  exact cls ▸ hs x hx

/-- An entry of another list is still there. -/
theorem mem (h : Moved P s t) {o : Op} (ho : o ∈ s.pac.ops) (hp : ¬P o.list) : o ∈ t.pac.ops := by
  obtain ⟨f, hf, pf⟩ := h.ops
  obtain ⟨-, still⟩ := pf o ho
  rw [hf, ← still hp]
  exact List.mem_map_of_mem ho

/-- An entry keeps its list and class under its number. -/
theorem place (h : Moved P s t) (hn : (s.pac.ops.map (·.id)).Nodup) {d x : Op} (hd : d ∈ s.pac.ops) (hx : x ∈ t.pac.ops)
    (e : x.id = d.id) : x.list = d.list ∧ x.cls = d.cls := by
  obtain ⟨f, hf, pf⟩ := h.ops
  rw [hf] at hx
  obtain ⟨y, hy, rfl⟩ := List.mem_map.mp hx
  obtain ⟨⟨id, list, cls⟩, -⟩ := pf y hy
  obtain rfl := eq_of_id hn hy hd (id.symm.trans e)
  exact ⟨list, cls⟩

/-- Another list has the same entries due. -/
theorem due (h : Moved P s t) {l : Nat} (hl : ¬P l) : dueToStart t l = dueToStart s l := by
  obtain ⟨f, hf, pf⟩ := h.ops
  have entries : ∀ ops : List Op, (∀ x ∈ ops, (f x).list = x.list ∧ (¬P x.list → f x = x)) →
      (ops.map f).filter (fun o => o.list == l && o.st == .waiting && ptReached s.pt o.start) =
        ops.filter (fun o => o.list == l && o.st == .waiting && ptReached s.pt o.start) := fun ops hx => by
    induction ops with
    | nil => rfl
    | cons x ops ih =>
      obtain ⟨list, still⟩ := hx x List.mem_cons_self
      rw [List.map_cons, List.filter_cons, List.filter_cons, ih fun y hy => hx y (List.mem_cons_of_mem x hy)]
      by_cases e : x.list = l
      · rw [still (e ▸ hl)]
      · simp [list, e]
  unfold dueToStart
  rw [h.kept.pt, hf, entries _ fun x hx => ⟨(pf x hx).1.2.1, (pf x hx).2⟩]

end Moved

theorem moved_setOp {P : Nat → Prop} {s : State} {o : Op} (hp : P o.list)
    (hs : ∀ x ∈ s.pac.ops, x.id = o.id → x.list = o.list ∧ x.cls = o.cls) : Moved P s (setOp s o) := by
  refine ⟨(PacKept.refl s).setPac _, rfl, _, rfl, fun x hx => ?_⟩
  by_cases e : x.id = o.id
  · obtain ⟨list, cls⟩ := hs x hx e
    simp only [if_pos e]
    exact ⟨⟨e.symm, list.symm, cls.symm⟩, fun c => absurd (list ▸ hp) c⟩
  · simp [e]

/-- A slip counted where the entry had slipped. -/
def slipCounted (s : State) (o : Op) : State := if o.slip then (s.count Reg.PAC_START_SLIP_CNT).raise blkPac 4 else s

/-- The entry as it stands after its start. -/
def started (s : State) (o : Op) : Op := { o with st := if insSat s o then .ready else .blocked, slip := false }

theorem startOne_eq (s : State) (o : Op) : startOne s o = setOp (slipCounted s o) (started (slipCounted s o) o) := rfl

theorem moved_slipCounted {P : Nat → Prop} (s : State) (o : Op) : Moved P s (slipCounted s o) := by
  have counted : PacKept (· = Reg.PAC_START_SLIP_CNT) s (s.count Reg.PAC_START_SLIP_CNT) :=
    (PacKept.refl s).count (by decide) fun _ => rfl
  unfold slipCounted
  split
  · exact .of_regs (((OnlyRegs.refl s).count _).raise _ _) (counted.raise (by decide))
  · exact .refl s

section
variable {s u : State} {d : Op} {l : Nat} (hn : (s.pac.ops.map (·.id)).Nodup) (h : Moved (· = l) s u) (hd : d ∈ s.pac.ops) (hl : d.list = l)
include hn h hd hl

theorem moved_startOne : Moved (· = l) u (startOne u d) :=
  have counted := moved_slipCounted (P := (· = l)) u d
  counted.trans (moved_setOp hl fun _ hx e => (h.trans counted).place hn (d := d) hd hx e)

theorem moved_slip : Moved (· = l) u (setOp u { d with slip := true }) := moved_setOp hl fun _ hx e => h.place hn (d := d) hd hx e

end

theorem mem_dueToStart {s : State} {l : Nat} {o : Op} :
    o ∈ dueToStart s l ↔ o ∈ s.pac.ops ∧ o.list = l ∧ o.st = .waiting ∧ ptReached s.pt o.start = true := by
  unfold dueToStart
  rw [(sortBy_perm _ _).mem_iff, List.mem_filter]
  simp [and_assoc]

theorem moved_startList {s : State} (hn : (s.pac.ops.map (·.id)).Nodup) (l : Nat) : Moved (· = l) s (startList s l) := by
  have started : Moved (· = l) s (((dueToStart s l).take 8).foldl startOne s) := (Moved.refl s).foldl fun u k d hd => by
    obtain ⟨mem, list, -⟩ := mem_dueToStart.mp (List.mem_of_mem_take hd)
    exact moved_startOne hn k mem list
  exact started.foldl fun u k d hd => by
    obtain ⟨mem, list, -⟩ := mem_dueToStart.mp (List.mem_of_mem_drop hd)
    exact moved_slip hn k mem list

theorem moved_startLists {s : State} (hn : (s.pac.ops.map (·.id)).Nodup) (ls : List Nat) : Moved (· ∈ ls) s (ls.foldl startList s) :=
  (Moved.refl s).foldl fun _ k l hl => (moved_startList (k.nodup hn) l).mono fun _ e => e ▸ hl

/-- Satisfaction reads the inputs' states and producers. -/
theorem insSat_congr {s t : State} {o : Op} (ht : ∀ i ∈ validToks o.ins, t.tok i = s.tok i) (hp : t.pac.prods = s.pac.prods) :
    insSat t o = insSat s o := by
  have each : ∀ i ∈ validToks o.ins, tokSat t o i = tokSat s o i := fun i hi => by unfold tokSat; rw [ht i hi, hp]
  unfold insSat
  rw [Bool.eq_iff_iff, List.all_eq_true, List.all_eq_true]
  exact forall₂_congr fun i hi => by rw [each i hi]

theorem started_congr {P : Nat → Prop} {s t : State} (h : Moved P s t) {o : Op} (hi : ∀ i ∈ validToks o.ins, i < 16384) :
    started t o = started s o := by
  have prods : t.pac.prods = s.pac.prods := by rw [h.eq]
  have sat : insSat t o = insSat s o := insSat_congr (fun i hm => h.kept.tok (hi i hm) (by
    have := hi i hm; unfold Reg.PAC_TOK_STAT Reg.PAC_START_SLIP_CNT; omega)) prods
  unfold started; rw [sat]

theorem opId_startOne_ne {s : State} {d : Op} {i : Nat} (h : d.id ≠ i) : opId (startOne s d) i = opId s i := by
  rw [startOne_eq, opId_setOp_ne _ (show (started _ d).id ≠ i from h)]
  unfold slipCounted opId; split <;> simp

theorem opId_foldl_startOne_ne {i : Nat} : ∀ {l : List Op} {s : State}, (∀ d ∈ l, d.id ≠ i) → opId (l.foldl startOne s) i = opId s i
  | [], _, _ => rfl
  | x :: _, _, h => (opId_foldl_startOne_ne fun d hd => h d (List.mem_cons_of_mem x hd)).trans
      (opId_startOne_ne (h x List.mem_cons_self))

/-- An entry among the at most eight that are due is started. -/
theorem opId_startList {s : State} {o : Op} (hn : (s.pac.ops.map (·.id)).Nodup) (ho : o ∈ dueToStart s o.list)
    (h8 : (dueToStart s o.list).length ≤ 8) (hi : ∀ i ∈ validToks o.ins, i < 16384) :
    opId (startList s o.list) o.id = some (started s o) := by
  have numbers : ((dueToStart s o.list).map (·.id)).Nodup := by
    unfold dueToStart
    exact ((sortBy_perm _ _).map Op.id).nodup_iff.mpr (hn.sublist (List.filter_sublist.map _))
  obtain ⟨mem, -⟩ := mem_dueToStart.mp ho
  have all : ∀ d ∈ dueToStart s o.list, d ∈ s.pac.ops ∧ d.list = o.list := fun d hd =>
    ⟨(mem_dueToStart.mp hd).1, (mem_dueToStart.mp hd).2.1⟩
  unfold startList; dsimp only
  rw [List.take_of_length_le h8, List.drop_of_length_le h8, List.foldl_nil]
  obtain ⟨a, b, e⟩ := List.append_of_mem ho
  rw [e] at numbers all ⊢
  rw [List.map_append, List.map_cons, List.nodup_append] at numbers
  obtain ⟨-, tail, apart⟩ := numbers
  obtain ⟨later, -⟩ := List.nodup_cons.mp tail
  have before : ∀ d ∈ a, d.id ≠ o.id := fun d hd => apart d.id (List.mem_map_of_mem hd) o.id List.mem_cons_self
  have after : ∀ d ∈ b, d.id ≠ o.id := fun d hd c => later (c ▸ List.mem_map_of_mem hd)
  have moved : Moved (· = o.list) s (a.foldl startOne s) := (Moved.refl s).foldl fun u k d hd => by
    obtain ⟨mem, list⟩ := all d (List.mem_append_left _ hd)
    exact moved_startOne hn k mem list
  rw [List.foldl_append, List.foldl_cons, opId_foldl_startOne_ne after, startOne_eq,
    started_congr (moved.trans (moved_slipCounted _ o)) hi]
  have found : opId (a.foldl startOne s) o.id = some o := (opId_foldl_startOne_ne before).trans (opId_of_mem hn mem)
  refine opId_setOp (o := o) ?_ rfl
  rw [← found]; unfold slipCounted opId; split <;> simp

/-- The start of every list starts an entry that is due with at most seven others of its list. -/
theorem opId_startLists {s : State} {o : Op} (hok : s.pac.ok = true) (ho : o ∈ s.pac.ops) (hst : o.st = .waiting)
    (hpt : ptReached s.pt o.start = true) (h8 : (dueToStart s o.list).length ≤ 8) :
    opId ((List.range 8).foldl startList s) o.id = some (started s o) := by
  obtain ⟨-, hn⟩ := Pacer.ok_iff.mp hok
  obtain ⟨-, -, -, hl, -, -, hi, -⟩ := Op.ok_iff.mp (bounds_of_ok hok ho)
  obtain ⟨a, b, e⟩ := List.append_of_mem (List.mem_range.mpr hl)
  have once := List.nodup_range (n := 8)
  rw [e, List.nodup_append] at once
  obtain ⟨-, tail, apart⟩ := once
  have before : o.list ∉ a := fun c => apart _ c _ List.mem_cons_self rfl
  have after : o.list ∉ b := (List.nodup_cons.mp tail).1
  have first : Moved (· ∈ a) s (a.foldl startList s) := moved_startLists hn a
  have due := first.due before
  have hn₁ := first.nodup hn
  have own : opId (startList (a.foldl startList s) o.list) o.id = some (started s o) := by
    rw [← started_congr first hi]
    exact opId_startList hn₁ (by rw [due]; exact mem_dueToStart.mpr ⟨ho, rfl, hst, hpt⟩) (by rw [due]; exact h8) hi
  have hn₂ := (moved_startList hn₁ o.list).nodup hn₁
  have last := moved_startLists hn₂ b
  rw [e, List.foldl_append, List.foldl_cons]
  exact opId_of_mem (last.nodup hn₂) (last.mem (opId_mem own) after)

theorem execOpStart_soft {s : State} (hok : s.pac.ok = true) (hc : ∀ x ∈ s.pac.ops, x.cls < 2) :
    execOpStart s = .next ((List.range 8).foldl startList s) := by
  obtain ⟨-, hn⟩ := Pacer.ok_iff.mp hok
  rw [execOpStart, feedHard_idle (noHardWork_of_cls ((moved_startLists hn _).cls hc))]

/-! A BLOCKED operation becomes READY (R109); a DONE one is HELD (R126). -/

theorem cls_setOp {s : State} {o : Op} (hs : ∀ x ∈ s.pac.ops, x.cls < 2) (ho : o.cls < 2) : ∀ x ∈ (setOp s o).pac.ops, x.cls < 2 := by
  intro x hx
  rcases mem_setOp hx with rfl | ⟨mem, -⟩
  · exact ho
  · exact hs x mem

theorem execOpReady_sat {s : State} {n : Fin 1048576} {o : Op} (hc : ∀ x ∈ s.pac.ops, x.cls < 2) (ho : opAt s n = some o)
    (hst : o.st = .blocked) (hi : insSat s o = true) : execOpReady n s = .next (setOp s { o with st := .ready }) := by
  have soft := cls_setOp (o := { o with st := .ready }) hc (hc o (opAt_mem ho))
  simp [execOpReady, ho, hst, hi, feedHard_idle (noHardWork_of_cls soft)]

theorem execAlarmWindowEnd_held {s : State} {n : Fin 1048576} {o : Op} (ho : opAt s n = some o) (hst : o.st = .done)
    (hpt : ptReached s.pt ((o.report + 8) % 2 ^ 32) = true) :
    execAlarmWindowEnd n s = .next (setOp s { o with st := .held }) := by
  have h := hpt
  norm_num at h
  simp [execAlarmWindowEnd, ho, hst, h]

/-! Grants (R110, R111, R113). -/

theorem Turned.regN {s t : State} (h : Turned s t) (a : Nat) : t.regN a = s.regN a := by obtain ⟨p, d, rfl⟩ := h; rfl
theorem Turned.mem {s t : State} (h : Turned s t) : t.mem = s.mem := by obtain ⟨p, d, rfl⟩ := h; rfl
theorem Turned.core {s t : State} (h : Turned s t) (c : Nat) : t.core c = s.core c := by obtain ⟨p, d, rfl⟩ := h; rfl
theorem Turned.tags {s t : State} (h : Turned s t) : t.pac.tags = s.pac.tags := by obtain ⟨p, d, rfl⟩ := h; rfl

theorem turned_of_serve {s t : State} {c w : Nat} {o : Op} (h : serve s c w = (t, some o)) : Turned s t ∧ o.cls = c := by
  obtain ⟨turned, yields⟩ := serve_spec s c w
  rw [h] at turned yields
  obtain ⟨-, -, may⟩ := yields o rfl
  simp only [mayTake, Bool.and_eq_true, beq_iff_eq] at may
  exact ⟨turned, may.1⟩

section
variable (s : State) (o : Op) (w : Nat)

/-- The dispatch counts of a grant. -/
def dispatched : State := (s.count (Reg.PAC_GRP_DISP o.group)).count (Reg.PAC_DISP_CNT o.cls)

theorem onlyRegs_dispatched : OnlyRegs s (dispatched s o) := ((OnlyRegs.refl s).count _).count _

theorem grantOp_eq : grantOp s o w =
    setOp ((dispatched s o).setPac { (dispatched s o).pac with lastRel := sdrop (workerKey o.cls w) (dispatched s o).pac.lastRel })
      { o with st := .running, worker := some w } := rfl

theorem mem_grantOp : (grantOp s o w).mem = s.mem := (onlyRegs_dispatched s o).mem
theorem core_grantOp (c : Nat) : (grantOp s o w).core c = s.core c := by
  obtain ⟨r, h⟩ := onlyRegs_dispatched s o
  rw [grantOp_eq, h]; rfl
theorem tags_grantOp : (grantOp s o w).pac.tags = s.pac.tags := by
  have same : (dispatched s o).pac.tags = s.pac.tags := by rw [(onlyRegs_dispatched s o).pac]
  exact same

theorem opAt_grantOp {n : Nat} {o : Op} (h : opAt s n = some o) :
    opAt (grantOp s o w) n = some { o with st := .running, worker := some w } := by
  have before : ((dispatched s o).setPac { (dispatched s o).pac with
      lastRel := sdrop (workerKey o.cls w) (dispatched s o).pac.lastRel }).pac.ops = s.pac.ops := by
    rw [State.setPac_pac, (onlyRegs_dispatched s o).pac]
  rw [grantOp_eq]
  exact opAt_setOp (o := o) ((opAt_of_ops before).trans h) rfl rfl

variable {o}

theorem dispCnt_grantOp (h : o.cls < 3) :
    (grantOp s o w).regN (Reg.PAC_DISP_CNT o.cls) = satNat 32 (s.regN (Reg.PAC_DISP_CNT o.cls) + 1) := by
  rw [grantOp_eq, regN_setOp, regN_setPac, dispatched, regN_count, State.count, regN_of_reg (reg_setRegN_ne _ _ ?_)]
  unfold Reg.PAC_GRP_DISP Reg.PAC_DISP_CNT; omega

theorem dispCnt_ne (h : o.cls < 4) : Reg.PAC_DISP_CNT o.cls ≠ evtStatus blkPac := by
  unfold Reg.PAC_DISP_CNT evtStatus blockBase ctrlBase blkPac; omega
theorem grpDisp_ne (h : o.group < 16) : Reg.PAC_GRP_DISP o.group ≠ evtStatus blkPac := by
  unfold Reg.PAC_GRP_DISP evtStatus blockBase ctrlBase blkPac; omega

theorem pacKept_grantOp (hg : o.group < 16) (hc : o.cls < 4) : PacKept (fun _ => True) s (grantOp s o w) :=
  ((((PacKept.refl s).count (grpDisp_ne hg) fun _ => trivial).count (dispCnt_ne hc) fun _ => trivial).setPac _).setPac _

end

theorem core_setCore (s : State) (c j : Nat) (k : CoreState) : (s.setCore c k).core j = if c = j then k else s.core j :=
  sget_sput _ _ _ _ _

theorem execCanterGrant_served {s t : State} {c : Fin 256} {o : Op} (ha : s.coreAsks c = true) (h : serve s 0 c = (t, some o)) :
    execCanterGrant c s = .next ((grantOp t o c).setCore c { (grantOp t o c).core c with grant := some o.slot }) := by
  simp [execCanterGrant, ha, h]

theorem execPreempt_may {s : State} {n : Fin 1048576} {o : Op} {c : Nat} (ho : opAt s n = some o) (he : s.flag Reg.PAC_CTL 1 = true)
    (hc : o.cls = 0) (hst : o.st = .ready) (hl : s.flag (Reg.PAC_GRP_LIM o.group) 31 = true)
    (hn : (List.range 256).any (fun c => mayTake o 0 c && s.coreAsks c) = false) (hs : slackShort s o = true)
    (hp : preemptCore s o = some c) : execPreempt n s = .next ((grantOp (s.raise blkPac 8) o c).setCore c
      { (grantOp (s.raise blkPac 8) o c).core c with pgrant := some o.slot }) := by
  have may : (s.flag Reg.PAC_CTL 1 && o.cls == 0 && o.st == .ready && s.flag (Reg.PAC_GRP_LIM o.group) 31
      && !((List.range 256).any (fun c => mayTake o 0 c && s.coreAsks c)) && slackShort s o) = true := by
    rw [he, hc, hst, hl, hn, hs]; rfl
  simp only [execPreempt, ho, may, if_true, hp]

/-- The lowest tag that none of a port's outstanding ones has. -/
def freeTag (used : List HpTag) : Nat := ((List.range 4).find? (fun t => !(used.any (fun u => u.tag == t)))).getD 0

/-- With fewer than four outstanding there is one. -/
theorem freeTag_free {used : List HpTag} (h : used.length < 4) : freeTag used < 4 ∧ ∀ u ∈ used, u.tag ≠ freeTag used := by
  unfold freeTag
  cases hf : (List.range 4).find? (fun t => !(used.any (fun u => u.tag == t))) with
  | some t =>
    have free := List.find?_some hf
    have mem := List.mem_of_find?_eq_some hf
    refine ⟨List.mem_range.mp mem, fun u hu c => ?_⟩
    simp only [Bool.not_eq_true', List.any_eq_false, beq_iff_eq] at free
    exact free u hu c
  | none =>
    have taken : List.range 4 ⊆ used.map (·.tag) := fun t ht => by
      have := List.find?_eq_none.mp hf t ht
      simp only [Bool.not_eq_true', Bool.not_eq_false, List.any_eq_true, beq_iff_eq] at this
      obtain ⟨u, hu, e⟩ := this
      exact e ▸ List.mem_map_of_mem hu
    have := (List.subperm_of_subset List.nodup_range taken).length_le
    rw [List.length_range, List.length_map] at this
    omega

/-- A grant on a hitch port, with its tag and its payload. -/
def portGranted (s t : State) (p : Nat) (o : Op) : State :=
  let tag := freeTag (portTags s p)
  let g := grantOp t { o with tag := tag } p
  (g.setPac { g.pac with tags := g.pac.tags ++ [{ port := p, tag := tag, op := o.id, cancelled := false }] }).answer (pinsOf p) 0
    (grantWords (g.setPac { g.pac with tags := g.pac.tags ++ [{ port := p, tag := tag, op := o.id, cancelled := false }] }) o tag)

theorem tags_portGranted (s t : State) (p : Nat) (o : Op) :
    (portGranted s t p o).pac.tags = t.pac.tags ++ [⟨p, freeTag (portTags s p), o.id, false⟩] := by
  unfold portGranted; dsimp only
  rw [State.answer_pac, State.setPac_pac, tags_grantOp]

theorem mem_portGranted (s t : State) (p : Nat) (o : Op) : (portGranted s t p o).mem = t.mem := by
  unfold portGranted; dsimp only
  rw [State.answer_mem, State.setPac_mem, mem_grantOp]

theorem who_portGranted (s t : State) (p : Nat) (o : Op) : (portGranted s t p o).ans.who = 1024 + p := rfl

theorem words_portGranted (s t : State) (p : Nat) (o : Op) :
    (portGranted s t p o).ans.words.take 3 = [freeTag (portTags s p), o.slot, o.kernel] := rfl

theorem execHpGrant_served {s t : State} {p : Fin 512} {o : Op} (he : s.flag (Reg.PAC_HP_CFG p) 0 = true)
    (hu : (portTags s p).length < s.fld (Reg.PAC_HP_CFG p) 2 1 + 1) (hf : s.flag (Reg.FAR_PAD_STAT (hpPaddock p)) 0 = false)
    (hi : hpIsolated s p = false) (h : serve s 1 p = (t, some o)) : execHpGrant p s = .next (portGranted s t p o) := by
  unfold portGranted freeTag
  simp only [execHpGrant, he, hu, hf, hi, decide_true, Bool.and_self, Bool.not_false, if_true, h]

/-- Settles O25: the start of a list is `Moved`, which no other list sees; each of the other commands is one equation, and what it grants
is what `serve_spec` says. -/
theorem pacerDispatch : Obligations.PacerDispatch := by
  refine ⟨fun s o hok hc ho hst hpt h8 => ?_, fun s n o hc ho hst hi => ?_, fun s c t o ha h => ?_,
    fun s n o c ho he hc hst hg hl hn hs hp => ?_, fun s p t o he hu hf hi h => ?_, fun s n o ho hst hpt => ?_⟩
  case refine_1 =>
    obtain ⟨-, hn⟩ := Pacer.ok_iff.mp hok
    have moved := moved_startLists hn (List.range 8)
    exact ⟨_, (exec_opStart s).trans (execOpStart_soft hok hc), opId_startLists hok ho hst hpt h8,
      sameMem_of_mem (by rw [moved.eq]), moved.eq⟩
  case refine_2 =>
    exact ⟨_, (exec_opReady n s).trans (execOpReady_sat hc ho hst hi), opAt_setOp ho rfl rfl, rfl, length_setOp _ _,
      sameMem_of_mem rfl⟩
  case refine_3 =>
    obtain ⟨turned, cls⟩ := turned_of_serve h
    refine ⟨_, (exec_canterGrant c s).trans (execCanterGrant_served ha h), by rw [core_setCore, if_pos rfl], fun k _ hk => ?_, ?_,
      sameMem_of_mem ((mem_setCore _ _ _).trans ((mem_grantOp t o c).trans turned.mem))⟩
    · rw [core_setCore, if_neg hk.symm, core_grantOp, turned.core]
    · rw [regN_setCore, dispCnt_grantOp t c (by omega), turned.regN]
  case refine_4 =>
    have struck : Raised (s.raise blkPac 8) blkPac 8 := flag_raise s _ _ (by decide)
    have kept := pacKept_grantOp (s.raise blkPac 8) c hg (by omega : o.cls < 4)
    have mem : (grantOp (s.raise blkPac 8) o c).mem = s.mem := (mem_grantOp _ o c).trans (s.raise_mem _ _)
    refine ⟨_, (exec_preempt n s).trans (execPreempt_may ho he hc hst hl hn hs hp), ?_, by rw [core_setCore, if_pos rfl],
      (kept.setCore c _).stands 8 (by decide) struck, sameMem_of_mem ((mem_setCore _ _ _).trans mem)⟩
    rw [opAt_setCore]
    exact opAt_grantOp _ c ((opAt_of_ops (by rw [State.raise_pac])).trans ho)
  case refine_5 =>
    obtain ⟨turned, -⟩ := turned_of_serve h
    have four : s.fld (Reg.PAC_HP_CFG p) 2 1 < 4 := bitsOf_lt _ 2 1
    obtain ⟨small, free⟩ := freeTag_free (used := portTags s p) (by omega)
    exact ⟨_, (exec_hpGrant p s).trans (execHpGrant_served he hu hf hi h), _, small, free,
      by rw [tags_portGranted, turned.tags], who_portGranted .., words_portGranted ..,
      sameMem_of_mem ((mem_portGranted s t p o).trans turned.mem)⟩
  case refine_6 =>
    exact ⟨_, (exec_alarmWindowEnd n s).trans (execAlarmWindowEnd_held ho hst hpt), opAt_setOp ho rfl rfl, rfl, sameMem_of_mem rfl⟩

end Sys2Proof.Machine
end

section
/-! PROOFS. A statement of 03_pacer.md: completion, deadlines and release (R114…R120). -/

namespace Sys2Proof.Machine

theorem opsOk_of_ok {s : State} (h : s.pac.ok = true) : OpsOk s := fun _ => bounds_of_ok h
theorem nodup_of_ok {s : State} (h : s.pac.ok = true) : (s.pac.ops.map (·.id)).Nodup := (Pacer.ok_iff.mp h).2
theorem opsOk_of_pac {s t : State} (h : t.pac = s.pac) (hs : OpsOk s) : OpsOk t := fun o ho => hs o (h ▸ ho)

theorem heldBy_head {s : State} {c w : Nat} {o : Op} (h : (heldBy s c w).head? = some o) :
    o ∈ s.pac.ops ∧ o.st = .running ∧ o.cls = c := by
  obtain ⟨mem, held⟩ := List.mem_filter.mp (List.mem_of_head? h)
  simp only [Bool.and_eq_true, beq_iff_eq] at held
  exact ⟨mem, held.1.1, held.1.2⟩

/-! A report of status 0x00 (R116, R126). -/

/-- The operation as its report of success leaves it. -/
def reported (s : State) (o : Op) : Op := { o with st := .done, report := s.pt, preempted := false }

section
variable {s : State} {o : Op}

theorem report_zero (s : State) (o : Op) : report s o 0 = setOp (setOuts s o tSpec) (reported s o) := by
  have now : (setOuts s o tSpec).pt = s.pt := by unfold State.pt; rw [(onlyRegs_setOuts s o tSpec).tim]
  unfold report reported
  rw [if_pos rfl, ← now]

theorem opId_report {x : Op} (h : opId s o.id = some x) : opId (report s o 0) o.id = some (reported s o) := by
  have number : x.id = o.id := by simpa using List.find?_some h
  rw [report_zero]
  exact opId_setOp (o := x) ((opId_of_ops (by rw [pac_setOuts])).trans h) number.symm

theorem opAt_report {n : Nat} (h : opAt s n = some o) : opAt (report s o 0) n = some (reported s o) := by
  rw [report_zero]
  exact opAt_setOp (o := o) ((opAt_of_ops (by rw [pac_setOuts])).trans h) rfl rfl

theorem tok_report {i : Nat} (hi : i ∈ validToks o.outs) : (report s o 0).tok i = tSpec := by
  have spec : (setOuts s o tSpec).tok i = tSpec := tok_setOuts s (by decide) hi
  rw [report_zero]
  exact (tok_of_reg (s := setOuts s o tSpec) rfl).trans spec

theorem mem_report : (report s o 0).mem = s.mem := by
  rw [report_zero]
  exact (State.setPac_mem _ _).trans (onlyRegs_setOuts s o tSpec).mem

/-- A report leaves the DMA channels and the stager nothing to take where only the reported operation was theirs. -/
theorem noHardWork_report (h : ∀ x ∈ s.pac.ops, x.id = o.id ∨ x.cls < 2) : NoHardWork (report s o 0) := by
  intro x hx hst
  rw [report_zero] at hx
  rcases mem_setOp hx with rfl | ⟨mem, ne⟩
  · cases hst
  · rw [pac_setOuts] at mem
    exact (h x mem).resolve_left ne

/-! A report of another status (R116). -/

theorem report_fail {k : Nat} (h : k ≠ 0) : report s o k = endOps (s.raise blkPac 7) [{ o with st := .done }] 6 8 := by
  unfold report; rw [if_neg h]

theorem report_failed {k : Nat} (hs : OpsOk s) (ho : o.ok = true) (hk : k ≠ 0) : Ended (s.raise blkPac 7) (report s o k) ∧
    o.id ∉ (report s o k).pac.ops.map (·.id) ∧ Raised (report s o k) blkPac 7 ∧ Raised (report s o k) blkPac 21 := by
  have ok := opsOk_of_pac (s.raise_pac blkPac 7) hs
  have one : ∀ x ∈ [{ o with st := .done }], x.ok = true := fun x hx => by rw [List.mem_singleton.mp hx]; exact ho
  have ends := ended_endOps 6 8 ok one
  have failed : Raised (s.raise blkPac 7) blkPac 7 := flag_raise s _ _ (by decide)
  rw [report_fail hk]
  exact ⟨ends, absent_endOps (o := { o with st := .done }) 6 8 ok one List.mem_cons_self, ends.kept.stands 7 (by decide) failed,
    raised_endOps (o := { o with st := .done }) 6 8 ok ho⟩

end

/-! A report that is late (R116). -/

theorem regN_lateDone (s : State) : (lateDone s).regN Reg.PAC_LATE_DONE_CNT = satNat 32 (s.regN Reg.PAC_LATE_DONE_CNT + 1) := by
  unfold lateDone
  rw [regN_of_reg (reg_raise _ _ _ _ (by decide) (by decide)), regN_count]

theorem raised_lateDone (s : State) : Raised (lateDone s) blkPac 6 := flag_raise _ _ _ (by decide)

/-! What the DMA channels and the stager take next (R110, R115). -/

/-- Operations have been granted: each keeps its number, all stay well formed, and the events stand on. -/
structure Fed (s t : State) : Prop where
  kept : PacKept (fun _ => True) s t
  ids  : t.pac.ops.map (·.id) = s.pac.ops.map (·.id)
  ok   : OpsOk s → OpsOk t

namespace Fed

variable {s t u : State}

theorem refl (s : State) : Fed s s := ⟨.refl s, rfl, id⟩
theorem trans (h : Fed s t) (k : Fed t u) : Fed s u := ⟨h.kept.trans k.kept, k.ids.trans h.ids, k.ok ∘ h.ok⟩

theorem of_turned (h : Turned s t) : Fed s t := by
  obtain ⟨p, d, rfl⟩ := h
  exact ⟨(PacKept.refl s).setPac _, rfl, id⟩

end Fed

theorem fed_grantOp {s : State} {o : Op} (w : Nat) (ho : o.ok = true) : Fed s (grantOp s o w) := by
  obtain ⟨-, hg, hc, -⟩ := Op.ok_iff.mp ho
  refine ⟨pacKept_grantOp s w hg hc, ?_, fun hs x hx => ?_⟩
  · rw [grantOp_eq, ids_setOp, State.setPac_pac, (onlyRegs_dispatched s o).pac]
  · rw [grantOp_eq] at hx
    rcases mem_setOp hx with rfl | ⟨mem, -⟩
    · exact ho
    · rw [State.setPac_pac, (onlyRegs_dispatched s o).pac] at mem
      exact hs x mem

theorem fed_feedWorker {s : State} (hs : OpsOk s) (c w : Nat) : Fed s (feedWorker s c w) := by
  obtain ⟨turned, yields⟩ := serve_spec s c w
  unfold feedWorker
  rcases served : serve s c w with ⟨t, _ | o⟩ <;> rw [served] at turned yields
  · split
    · exact .of_turned turned
    · exact .refl s
  · split
    · exact (Fed.of_turned turned).trans (fed_grantOp w (hs o (yields o rfl).1))
    · exact .refl s

theorem fed_feedDma : ∀ (n : Nat) {s : State}, OpsOk s → Fed s (feedDma n s)
  | 0, s, _ => .refl s
  | n + 1, s, hs => by
    have first := fed_feedWorker hs 2 (32 - (n + 1))
    rw [feedDma_succ]
    exact first.trans (fed_feedDma n (first.ok hs))

theorem fed_feedHard {s : State} (hs : OpsOk s) : Fed s (feedHard s) := by
  have dma := fed_feedDma 32 hs
  rw [feedHard_workers]
  exact dma.trans (fed_feedWorker (dma.ok hs) 3 0)

/-! The commands of a completion. -/

/-- The stager's operation with the bytes it fetched. -/
def stagedOp (s : State) (o : Op) : Op := { o with staged := (o.outs.getD 0 none).map (tokBytes s) }

section
variable {s : State} {n : Fin 1048576} {o : Op}

theorem execOpReport_running (k : BitVec 8) (ho : opAt s n = some o) (hst : o.st = .running) :
    execOpReport n k s = .next (feedHard (report s o k.toNat)) := by
  simp [execOpReport, reportOr, ho, hst]

theorem execOpReport_late (k : BitVec 8) (hc : ∀ x ∈ s.pac.ops, x.cls < 2) (ho : opAt s n = none) :
    execOpReport n k s = .next (lateDone s) := by
  have idle : NoHardWork (lateDone s) := noHardWork_of_cls (by rw [(onlyRegs_lateDone s).pac]; exact hc)
  simp [execOpReport, reportOr, ho, feedHard_idle idle]

theorem execHpDone_last {p : Fin 512} {tag : Fin 4} (hi : hpIsolated s p = false) (hn : (s.pac.ops.map (·.id)).Nodup)
    (ht : s.pac.tags = [⟨p, tag, o.id, false⟩]) (ho : o ∈ s.pac.ops) (hst : o.st = .running) :
    execHpDone p tag 0 s = .next (report (s.setPac { s.pac with tags := [] }) o 0) := by
  have found : opId (s.setPac { s.pac with tags := [] }) o.id = some o := opId_of_mem hn ho
  simp [execHpDone, hi, ht, reportOr, found, hst]

theorem execHpDone_stray {p : Fin 512} {tag : Fin 4} (k : BitVec 8) (hi : hpIsolated s p = false)
    (ht : ∀ u ∈ s.pac.tags, u.port = p.val → u.tag ≠ tag.val) : execHpDone p tag k s = .next (s.raise blkPac 9) := by
  have none_out : s.pac.tags.find? (fun t => t.port == p.val && t.tag == tag.val) = none :=
    List.find?_eq_none.mpr fun u hu => by simpa using ht u hu
  simp [execHpDone, hi, none_out]

theorem execDmaComplete_ok {ch : Fin 32} (h : (heldBy s 2 ch).head? = some o) :
    execDmaComplete ch 0 s = .next (feedHard (report (dmaCopy s o (o.arg % 2 ^ 32)) o 0)) := by
  unfold execDmaComplete; rw [h]; exact if_pos rfl

theorem execDmaComplete_fail {ch : Fin 32} {k : Fin 8} (h : (heldBy s 2 ch).head? = some o) (hk : k ≠ 0) :
    execDmaComplete ch k s = .next (feedHard (report (dmaCopy s.took o (s.free % (o.arg % 2 ^ 32 + 1))) o 0xF3)) := by
  unfold execDmaComplete; rw [h]; exact if_neg fun c => hk (Fin.ext c)

theorem execStagerFetchDone_ok (h : (heldBy s 3 0).head? = some o) :
    execStagerFetchDone 0 s = .next (feedHard (report s (stagedOp s o) 0)) := by
  unfold execStagerFetchDone; rw [h]; exact if_pos rfl

theorem execOpDeadline_missed (ho : opAt s n = some o) (hu : unreported o = true) (hd : ptReached s.pt o.due = true) :
    execOpDeadline n s =
      .next (endOps s [o] 4 (if (validToks o.ins).any (fun t => s.tok t == tPoisoned) then 5 else 1)) := by
  unfold execOpDeadline; rw [ho]; exact if_pos ⟨hu, hd⟩

end

/-! Release (R117…R120). -/

/-- A release counted, with its slip. -/
def relLate (s : State) (o : Op) : State :=
  let late := s.pt != o.due
  let s := s.count Reg.PAC_REL_CNT
  let s := if late then (s.count Reg.PAC_REL_SLIP_CNT).raise blkPac 5 else s
  s.raiseIf (late && ptLater ((o.report + 8) % 2 ^ 32) o.due) blkPac 30

/-- The flow of a release moved on. -/
def relFlow (s : State) (o : Op) : State :=
  let gap := o.ordered && s.fld (Reg.PAC_FLOW_STAT o.flow) 31 16 != o.seq
  let s := s.raiseIf gap blkPac 11
  if o.ordered then s.setFld (Reg.PAC_FLOW_STAT o.flow) 31 16 (o.seq + 1) else s

/-- The entry of a release freed and its W14 written. -/
def relClose (s : State) (o : Op) : State :=
  let s := s.setPac { s.pac with
    ops := s.pac.ops.filter (fun x => x.id != o.id)
    relTick := s.pt, relCount := (if s.pac.relTick = s.pt then s.pac.relCount else 0) + 1
    lastRel := match o.worker with
      | some w => sinsert (workerKey o.cls w) ⟨o.seq, o.flow, o.ordered, o.safety, o.slot, o.graph⟩ (sdrop (workerKey o.cls w) s.pac.lastRel)
      | none => s.pac.lastRel }
  let s := fillRegs s o.list o.group
  let s := writeW s o.slot 3 0 (if o.ordered then o.seq else 0) o.admitPt
  recFinal s o.id false

theorem releaseCore_eq (s : State) (o : Op) : releaseCore s o = relClose (setOuts (relFlow (relLate s o) o) o tCommitted) o := rfl

section
variable (s : State) {o : Op}

theorem pacKept_relLate : PacKept (· = Reg.PAC_REL_SLIP_CNT) (s.count Reg.PAC_REL_CNT) (relLate s o) := by
  unfold relLate; dsimp only
  refine PacKept.raiseIf ?_ (by decide)
  split
  · refine PacKept.raise ?_ (by decide)
    exact (PacKept.refl _).count (by decide) fun _ => rfl
  · exact .refl _

theorem raised_relLate (h : s.pt ≠ o.due) : Raised (relLate s o) blkPac 5 := by
  have late : (s.pt != o.due) = true := bne_iff_ne.mpr h
  have slipped : Raised (((s.count Reg.PAC_REL_CNT).count Reg.PAC_REL_SLIP_CNT).raise blkPac 5) blkPac 5 := flag_raise _ _ _ (by decide)
  unfold relLate; dsimp only
  rw [if_pos late]
  exact ((PacKept.refl (W := fun _ => True) _).raiseIf (by decide)).stands 5 (by decide) slipped

theorem pacKept_relFlow (h : o.flow < 1024) : PacKept (· = Reg.PAC_FLOW_STAT o.flow) s (relFlow s o) := by
  unfold relFlow; dsimp only
  split
  · refine PacKept.setFld (PacKept.raiseIf (.refl s) (by decide)) ?_ fun _ => rfl
    unfold Reg.PAC_FLOW_STAT evtStatus blockBase ctrlBase blkPac; omega
  · exact (PacKept.refl s).raiseIf (by decide)

theorem pacKept_relClose (hl : o.list < 8) (hg : o.group < 16) : PacKept (fun a => fillBits a ∨ a = Reg.RB_STAT) s (relClose s o) :=
  ((((PacKept.refl s).setPac _).trans ((pacKept_fillRegs _ hl hg).mono fun _ => .inl)).trans
    (.of_written (memWritten_writeW _ _ _ _ _ _))).trans (pacKept_recFinal _ _ _ (.inr rfl))

theorem ops_relClose (o : Op) : (relClose s o).pac.ops = s.pac.ops.filter (fun x => x.id != o.id) := by
  unfold relClose; dsimp only
  rw [ops_recFinal, pac_writeW, pac_fillRegs, State.setPac_pac]

theorem absent_releaseCore (o : Op) : o.id ∉ (releaseCore s o).pac.ops.map (·.id) := by
  simp [releaseCore_eq, ops_relClose]

variable (h : o.ok = true)
include h

/-- What comes after the outputs committed. -/
theorem pacKept_released : PacKept (fun a => fillBits a ∨ a = Reg.RB_STAT) (setOuts (relFlow (relLate s o) o) o tCommitted)
    (releaseCore s o) := by
  obtain ⟨-, hg, -, hl, -⟩ := Op.ok_iff.mp h
  exact pacKept_relClose _ hl hg

theorem tok_releaseCore {i : Nat} (hi : i ∈ validToks o.outs) : (releaseCore s o).tok i = tCommitted := by
  obtain ⟨-, -, -, -, -, -, -, ho⟩ := Op.ok_iff.mp h
  rw [(pacKept_released s h).tok (ho i hi) ?_, tok_setOuts _ (by decide) hi]
  rintro (c | c)
  · exact not_fillBits_tok (ho i hi) c
  · have := tokRegs_range ⟨i, ho i hi, rfl⟩; rw [c] at this; revert this; decide

/-- The registers that a release writes beside its count. -/
def relRegs (o : Op) (a : Nat) : Prop :=
  a = Reg.PAC_REL_SLIP_CNT ∨ a = Reg.PAC_FLOW_STAT o.flow ∨ tokRegs a ∨ fillBits a ∨ a = Reg.RB_STAT

theorem pacKept_flow_released : PacKept (relRegs o) (relLate s o) (releaseCore s o) := by
  obtain ⟨-, -, -, -, hf, -, -, ho⟩ := Op.ok_iff.mp h
  exact (((pacKept_relFlow _ hf).mono fun _ e => .inr (.inl e)).trans ((pacKept_setOuts _ _ ho).mono fun _ c => .inr (.inr (.inl c)))).trans
    ((pacKept_released s h).mono fun _ c => .inr (.inr (.inr c)))

theorem relCnt_releaseCore : (releaseCore s o).regN Reg.PAC_REL_CNT = satNat 32 (s.regN Reg.PAC_REL_CNT + 1) := by
  obtain ⟨-, -, -, -, hf, -⟩ := Op.ok_iff.mp h
  have apart : ¬relRegs o Reg.PAC_REL_CNT := by
    rintro (c | c | c | c | c)
    · exact absurd c (by decide)
    · unfold Reg.PAC_REL_CNT Reg.PAC_FLOW_STAT at c; omega
    · have := tokRegs_range c; revert this; decide
    · have := fillBits_range c; revert this; decide
    · exact absurd c (by decide)
  rw [(pacKept_flow_released s h).regN (by decide) apart, (pacKept_relLate s).regN (by decide) (by decide), regN_count]

theorem raised_releaseCore (hd : s.pt ≠ o.due) : Raised (releaseCore s o) blkPac 5 :=
  (pacKept_flow_released s h).stands 5 (by decide) (raised_relLate s hd)

end

theorem execOpRelease_untargeted {s : State} {n : Fin 1048576} {o : Op} (ho : opAt s n = some o) (ht : relTurn s o = true)
    (hk : o.relKind = 0) : execOpRelease n s = .next (releaseCore s o) := by
  simp [execOpRelease, ho, ht, relTarget, hk]

/-! A TIMED release's fetch (R118). -/

theorem execTimedReleaseFetchDone_fail {s : State} {i n : Nat} {q : List (Nat × Nat)} {k : Fin 8} (h : s.pac.fetches = (i, n) :: q)
    (hk : k ≠ 0) : execTimedReleaseFetchDone k s = .next (timedDrop (s.setPac { s.pac with fetches := q })) := by
  unfold execTimedReleaseFetchDone; rw [h]; exact if_neg fun c => hk (Fin.ext c)

theorem regN_timedDrop (s : State) : (timedDrop s).regN Reg.PAC_TIMED_DROP_CNT = satNat 32 (s.regN Reg.PAC_TIMED_DROP_CNT + 1) := by
  unfold timedDrop
  rw [regN_of_reg (reg_raise _ _ _ _ (by decide) (by decide)), regN_count]

theorem length_tokBytes (s : State) (i : Nat) : (tokBytes s i).length = tokLen s i := by
  simp [tokBytes, State.bytes, State.viewBytes]

/-- A buffer of eight bytes is one entry. -/
theorem bufEntries_one {l : List Byte} (h : l.length = 8) : bufEntries l = [BitVec.ofNat 64 (fieldLe l 0 8)] := by
  simp [bufEntries, h]

/-- The one entry of such a buffer, as its fetch is pushed. -/
theorem execTimedReleaseFetchDone_one {s : State} {i n : Nat} {q : List (Nat × Nat)} (h : s.pac.fetches = (i, n) :: q)
    (hl : tokLen s i = 8) : ∃ e, execTimedReleaseFetchDone 0 s = .next (pushTimed (s.setPac { s.pac with fetches := q }) n [e]) := by
  have one := bufEntries_one ((length_tokBytes (s.setPac { s.pac with fetches := q }) i).trans ((tokLen_setPac _ _ _).trans hl))
  refine ⟨_, Eq.trans ?_ (congrArg (fun l => Host.Outcome.next (pushTimed (s.setPac { s.pac with fetches := q }) n l)) one)⟩
  unfold execTimedReleaseFetchDone; rw [h]; exact if_pos rfl

/-- An empty output takes an entry. -/
theorem pushTimed_empty {s : State} {n : Nat} (hq : (s.tout n).queue = []) (hl : (s.tout n).last = none) (e : BitVec 64) :
    ∃ x, pushTimed s n [e] = s.setTout n { s.tout n with queue := [x], last := some x.time } := by
  refine ⟨{ time := entryTime s (bitsOf e.toNat 31 0) (bitsOf e.toNat 62 32), level := e.toNat.testBit 63 }, ?_⟩
  simp [pushTimed, State.pushEntry, hq, hl]

theorem tout_setTout (s : State) (n : Nat) (o : TimedOut) : (s.setTout n o).tout n = o := sget_sput_same _ _ _ _

/-- Settles O26: a report of success is `report_zero`, one of failure `report_failed`; a miss and a release are the parts of their ends;
only a failed DMA copy lets the DMA channels take more, which `Fed` covers. -/
theorem pacerCompletion : Obligations.PacerCompletion := by
  refine ⟨fun s n o hc hok ho hst => ?_, fun s n o k hc hok ho hst hk => ?_, fun s n k hc ho => ?_,
    fun s p tag o hi hok ht ho hst => ?_, fun s p tag k hi ht => ?_, fun s ch o hok h hc => ?_, fun s ch o k hok h hk => ?_,
    fun s o hok h hc => ?_, fun s n o hok ho hu hd => ?_, fun s n o hok ho ht hk => ?_, fun s i n q k h hk => ?_,
    fun s i n q h _ hl hq hlast => ?_⟩
  case refine_1 =>
    have idle := noHardWork_report (s := s) (o := o) fun x hx => .inr (hc x hx)
    refine ⟨report s o 0, ?_, opAt_report ho, fun i hi => tok_report hi, sameMem_of_mem mem_report⟩
    rw [exec_opReport, execOpReport_running 0 ho hst]
    exact congrArg _ (feedHard_idle idle)
  case refine_2 =>
    have status : k.toNat ≠ 0 := fun c => hk (BitVec.eq_of_toNat_eq c)
    have hs := opsOk_of_ok hok
    obtain ⟨ends, gone, failed, lost⟩ := report_failed hs (hs o (opAt_mem ho)) status
    have idle : NoHardWork (report s o k.toNat) := noHardWork_of_cls fun x hx => hc x (by simpa using ends.ops.subset hx)
    refine ⟨report s o k.toNat, ?_, gone, failed, lost⟩
    rw [exec_opReport, execOpReport_running k ho hst, feedHard_idle idle]
  case refine_3 =>
    exact ⟨_, (exec_opReport n k s).trans (execOpReport_late k hc ho), regN_lateDone s, raised_lateDone s, (onlyRegs_lateDone s).pac,
      (onlyRegs_lateDone s).sameMem⟩
  case refine_4 =>
    have hn := nodup_of_ok hok
    refine ⟨_, (exec_hpDone p tag 0 s).trans (execHpDone_last hi hn ht ho hst), ?_, ?_, sameMem_of_mem mem_report⟩
    · rw [report_zero]
      exact congrArg Pacer.tags (pac_setOuts _ o tSpec)
    · exact opId_report (s := s.setPac { s.pac with tags := [] }) (opId_of_mem hn ho)
  case refine_5 => exact ⟨_, (exec_hpDone p tag k s).trans (execHpDone_stray k hi ht), rfl⟩
  case refine_6 =>
    obtain ⟨mem, -⟩ := heldBy_head h
    have copied := memWritten_dmaCopy s o (o.arg % 2 ^ 32)
    have same : reported (dmaCopy s o (o.arg % 2 ^ 32)) o = reported s o := by unfold reported State.pt; rw [copied.tim]
    have idle := noHardWork_report (s := dmaCopy s o (o.arg % 2 ^ 32)) (o := o) fun x hx =>
      (hc x (copied.pac ▸ hx)).imp_left (congrArg Op.id)
    refine ⟨report (dmaCopy s o (o.arg % 2 ^ 32)) o 0, ?_, ?_, fun i hi => tok_report hi⟩
    · rw [exec_dmaComplete, execDmaComplete_ok h, feedHard_idle idle]
    · rw [opId_report ((opId_of_ops (by rw [copied.pac])).trans (opId_of_mem (nodup_of_ok hok) mem)), same]; rfl
  case refine_7 =>
    obtain ⟨mem, -⟩ := heldBy_head h
    have hs := opsOk_of_ok hok
    have copied := memWritten_dmaCopy s.took o (s.free % (o.arg % 2 ^ 32 + 1))
    obtain ⟨ends, gone, failed, -⟩ := report_failed (k := 0xF3) (opsOk_of_pac (copied.pac.trans s.took_pac) hs) (hs o mem) (by decide)
    have fed := fed_feedHard (ends.opsOk (opsOk_of_pac (State.raise_pac _ _ _) (opsOk_of_pac (copied.pac.trans s.took_pac) hs)))
    exact ⟨_, (exec_dmaComplete ch k s).trans (execDmaComplete_fail h hk), by rw [fed.ids]; exact gone, fed.kept.stands 7 (by decide) failed⟩
  case refine_8 =>
    obtain ⟨mem, -⟩ := heldBy_head h
    have idle := noHardWork_report (s := s) (o := stagedOp s o) fun x hx => (hc x hx).imp_left fun e => by rw [e]; rfl
    have found : opId s (stagedOp s o).id = some o := opId_of_mem (nodup_of_ok hok) mem
    refine ⟨report s (stagedOp s o) 0, ?_, opId_report found, sameMem_of_mem mem_report⟩
    rw [exec_stagerFetchDone, execStagerFetchDone_ok h, feedHard_idle idle]
  case refine_9 =>
    have hs := opsOk_of_ok hok
    have ok : ∀ x ∈ [o], x.ok = true := fun x hx => List.mem_singleton.mp hx ▸ hs o (opAt_mem ho)
    exact ⟨_, (exec_opDeadline n s).trans (execOpDeadline_missed ho hu hd), absent_endOps 4 _ hs ok List.mem_cons_self,
      raised_endOps 4 _ hs (hs o (opAt_mem ho))⟩
  case refine_10 =>
    have ok := opsOk_of_ok hok o (opAt_mem ho)
    exact ⟨_, (exec_opRelease n s).trans (execOpRelease_untargeted ho ht hk), absent_releaseCore s o, relCnt_releaseCore s ok,
      fun i hi => tok_releaseCore s ok hi, raised_releaseCore s ok⟩
  case refine_11 =>
    have dropped := onlyRegs_timedDrop (s.setPac { s.pac with fetches := q })
    exact ⟨_, (exec_timedReleaseFetchDone k s).trans (execTimedReleaseFetchDone_fail h hk), congrArg Pacer.fetches dropped.pac,
      flag_raise _ _ _ (by decide), regN_timedDrop _, dropped.tim, sameMem_of_mem dropped.mem⟩
  case refine_12 =>
    obtain ⟨e, pushed⟩ := execTimedReleaseFetchDone_one h hl
    obtain ⟨x, taken⟩ := pushTimed_empty (s := s.setPac { s.pac with fetches := q }) (n := n) hq hlast e
    refine ⟨_, (exec_timedReleaseFetchDone 0 s).trans (pushed.trans (congrArg _ taken)), rfl, ?_, rfl⟩
    rw [tout_setTout]; rfl

end Sys2Proof.Machine
end

section
/-! PROOFS. A statement of 03_pacer.md: admission (R102…R106). -/

namespace Sys2Proof.Machine

/-! The doorbell (R102, R103). -/

section
variable {s : State} {b : Fin 16} {v : BitVec 32}

theorem execPacAdmit_bad (h : v.toNat % 64 ≠ 0 ∨ scratchSize ≤ v.toNat) : execPacAdmit b v s = .next (s.raise blkPac 10) := if_pos h

theorem execPacAdmit_joins (ha : v.toNat % 64 = 0) (hr : v.toNat < scratchSize) (hq : s.pac.admQ.length < 64) :
    execPacAdmit b v s = .next (s.setPac { s.pac with admQ := s.pac.admQ ++ [⟨b, v.toNat⟩] }) := by
  unfold execPacAdmit; dsimp only
  rw [if_neg (by omega), if_neg (by omega)]

theorem execPacAdmit_full (ha : v.toNat % 64 = 0) (hr : v.toNat < scratchSize) (hq : 64 ≤ s.pac.admQ.length) :
    execPacAdmit b v s = .next (refuse s b v.toNat 1 true) := by
  unfold execPacAdmit; dsimp only
  rw [if_neg (by omega), if_pos hq]

end

/-! A refusal (R103, R104). -/

/-- PAC_ADM_LAST's word. -/
def lastWord (bell offset code : Nat) : Nat := code + bell * 2 ^ 8 + offset / 64 * 2 ^ 12

theorem lastWord_lt {bell offset code : Nat} (hb : bell < 16) (ho : offset / 64 < 2 ^ 20) (hc : code < 16) :
    lastWord bell offset code < 2 ^ 32 := by
  unfold lastWord; omega

/-- The state of a refusal before it is counted. -/
def refusalNoted (s : State) (bell offset code : Nat) (canWrite : Bool) : State :=
  (if canWrite then writeW s (offset / 64) 2 code 0 s.pt else s).setRegN Reg.PAC_ADM_LAST (lastWord bell offset code)

/-- The refusal counted. -/
def refusalCounted (s : State) (bell offset code : Nat) (canWrite : Bool) : State :=
  ((refusalNoted s bell offset code canWrite).count (Reg.PAC_REFUSE_CNT code)).raise blkPac 0

section
variable (s : State) {bell offset code : Nat} (canWrite : Bool)

theorem refuse_eq (bell offset code : Nat) : refuse s bell offset code canWrite =
    (((refusalCounted s bell offset code canWrite).raiseIf (code == 3) blkPac 1).raiseIf (code == 0x0A) blkPac 3).raiseIf
      (code == 0x0B) blkPac 13 := rfl

theorem pacKept_refusalNoted (bell offset code : Nat) :
    PacKept (· = Reg.PAC_ADM_LAST) s (refusalNoted s bell offset code canWrite) := by
  refine PacKept.setRegN ?_ (by decide) fun _ => rfl
  split
  · exact .of_written (memWritten_writeW _ _ _ _ _ _)
  · exact .refl s

theorem pacKept_refuse_counted {W : Nat → Prop} (bell offset code : Nat) :
    PacKept W (refusalCounted s bell offset code canWrite) (refuse s bell offset code canWrite) := by
  rw [refuse_eq]
  exact (((PacKept.refl _).raiseIf (by decide)).raiseIf (by decide)).raiseIf (by decide)

theorem pac_refuse (bell offset code : Nat) : (refuse s bell offset code canWrite).pac = s.pac := by
  have written : (if canWrite then writeW s (offset / 64) 2 code 0 s.pt else s).pac = s.pac := by
    split
    · exact pac_writeW _ _ _ _ _ _
    · rfl
  rw [refuse_eq, refusalCounted, refusalNoted]
  simpa using written

theorem raised_refuse (bell offset code : Nat) : Raised (refuse s bell offset code canWrite) blkPac 0 := by
  have counted : Raised (refusalCounted s bell offset code canWrite) blkPac 0 := flag_raise _ _ _ (by decide)
  exact (pacKept_refuse_counted (W := fun _ => False) s canWrite bell offset code).stands 0 (by decide) counted

variable (hc : code < 16)
include hc

theorem refuseCnt_range : Reg.PAC_ADM_LAST < Reg.PAC_REFUSE_CNT code ∧ Reg.PAC_REFUSE_CNT code < Reg.RB_WHOLESALE_CNT := by
  unfold Reg.PAC_ADM_LAST Reg.PAC_REFUSE_CNT Reg.RB_WHOLESALE_CNT; omega

theorem pacKept_refusalCounted : PacKept (· = Reg.PAC_REFUSE_CNT code) (refusalNoted s bell offset code canWrite)
    (refusalCounted s bell offset code canWrite) := by
  have counted : PacKept (· = Reg.PAC_REFUSE_CNT code) (refusalNoted s bell offset code canWrite)
      ((refusalNoted s bell offset code canWrite).count (Reg.PAC_REFUSE_CNT code)) :=
    (PacKept.refl _).count (lt_of_below (refuseCnt_range hc).2).ne fun _ => rfl
  exact counted.raise (by decide)

/-- PAC_ADM_LAST holds the code, the doorbell and the slot. -/
theorem admLast_refuse (hb : bell < 16) (ho : offset / 64 < 2 ^ 20) :
    (refuse s bell offset code canWrite).regN Reg.PAC_ADM_LAST = lastWord bell offset code := by
  have kept := (pacKept_refusalCounted (bell := bell) (offset := offset) s canWrite hc).trans
    (pacKept_refuse_counted s canWrite bell offset code)
  rw [kept.regN (by decide) (refuseCnt_range hc).1.ne, refusalNoted, regN_setRegN, if_pos rfl,
    Nat.mod_eq_of_lt (lastWord_lt hb ho hc)]

/-- The code's count advances. -/
theorem refuseCnt_refuse : (refuse s bell offset code canWrite).regN (Reg.PAC_REFUSE_CNT code) =
    satNat 32 (s.regN (Reg.PAC_REFUSE_CNT code) + 1) := by
  obtain ⟨above, below⟩ := refuseCnt_range hc
  have apart : ¬evtOf blkPac 0 (Reg.PAC_REFUSE_CNT code) := by
    rintro (c | c)
    · exact (lt_of_below below).ne c
    · unfold Reg.PAC_REFUSE_CNT evtCount blockBase ctrlBase blkPac at c; omega
  rw [(pacKept_refuse_counted (W := fun _ => False) s canWrite bell offset code).regN below id, refusalCounted,
    regN_of_reg (sameRegs_raise _ _ _ _ apart), regN_count,
    (pacKept_refusalNoted s canWrite bell offset code).regN below above.ne']

end

/-- The codes of Table PAC-3. -/
theorem admitCode_lt (s : State) (slot rd : Nat) (shadow : Bool) : admitCode s slot rd shadow < 16 := by
  unfold admitCode; dsimp only
  repeat' split
  all_goals decide

/-! Acceptance (R104). -/

/-- The operation as it is accepted. -/
def acceptedOp (s : State) (slot pt : Nat) : Op :=
  { descOp s slot with
    admitPt := pt
    seq := if (descOp s slot).ordered then s.fld (Reg.PAC_FLOW_STAT (descOp s slot).flow) 15 0 else 0 }

/-- The next sequence number of an ordered operation's flow taken. -/
def flowTaken (s : State) (o : Op) : State := if o.ordered then s.setFld (Reg.PAC_FLOW_STAT o.flow) 15 0 (o.seq + 1) else s

/-- The operation entered among the unreleased ones. -/
def entered (s : State) (o : Op) : State :=
  s.setPac { s.pac with
    ops := s.pac.ops ++ [o], nextId := s.pac.nextId + 1
    prods := (validToks o.outs).foldl (fun m t => sinsert t ⟨o.id, o.nodeValid, o.graph⟩ (sdrop t m)) s.pac.prods
    lastDue := if o.ordered then sinsert o.flow o.due (sdrop o.flow s.pac.lastDue) else s.pac.lastDue }

/-- The entry's list and cost brought up to date, and W14 written. -/
def entryWritten (s : State) (o : Op) (slot : Nat) : State :=
  let s := fillRegs s o.list o.group
  writeW (s.raiseIf (listFill s o.list == 1793) blkPac 2) slot 1 0 o.seq o.admitPt

theorem acceptAs_eq (s : State) (slot pt : Nat) : acceptAs s slot pt =
    recheck (entryWritten (entered (setOuts (flowTaken s (acceptedOp s slot pt)) (acceptedOp s slot pt) tPending) (acceptedOp s slot pt))
      (acceptedOp s slot pt) slot) := rfl

theorem pac_flowTaken (s : State) (o : Op) : (flowTaken s o).pac = s.pac := by
  unfold flowTaken; split
  · exact State.setFld_pac _ _ _ _ _
  · rfl

theorem pac_entryWritten (s : State) (o : Op) (slot : Nat) : (entryWritten s o slot).pac = s.pac := by
  unfold entryWritten; dsimp only
  rw [pac_writeW, ((OnlyRegs.refl _).raiseIf _ _ _).pac, pac_fillRegs]

/-- READY operations sent back to BLOCKED keep their numbers, and nothing else of the Pacer's changes. -/
theorem pac_recheck (s : State) : (recheck s).pac.ops.map (·.id) = s.pac.ops.map (·.id) ∧
    (recheck s).pac = { s.pac with ops := (recheck s).pac.ops } := by
  refine ⟨?_, rfl⟩
  unfold recheck
  rw [State.setPac_pac, List.map_map]
  exact List.map_congr_left fun o _ => by dsimp only [Function.comp_apply]; split <;> rfl

section
variable (s : State) (slot pt : Nat)

theorem pac_acceptAs : (acceptAs s slot pt).pac.ops.map (·.id) = s.pac.ops.map (·.id) ++ [s.pac.nextId] ∧
    (acceptAs s slot pt).pac.nextId = s.pac.nextId + 1 ∧ (acceptAs s slot pt).pac.admRead = s.pac.admRead := by
  have before : (setOuts (flowTaken s (acceptedOp s slot pt)) (acceptedOp s slot pt) tPending).pac = s.pac := by
    rw [pac_setOuts, pac_flowTaken]
  rw [acceptAs_eq]
  obtain ⟨ids, rest⟩ := pac_recheck (entryWritten (entered (setOuts (flowTaken s (acceptedOp s slot pt)) (acceptedOp s slot pt) tPending)
    (acceptedOp s slot pt)) (acceptedOp s slot pt) slot)
  rw [ids, rest, pac_entryWritten, entered, State.setPac_pac, before]
  exact ⟨by rw [List.map_append]; rfl, rfl, rfl⟩

theorem lt_of_mem_descOp_outs {i : Nat} (h : i ∈ validToks (descOp s slot).outs) : i < 16384 := by
  obtain ⟨t, ht, rfl⟩ : ∃ t, t ∈ (descOp s slot).outs ∧ t = some i := by simpa [validToks] using h
  have tok : ∀ w : Nat, (if w.testBit 31 then some (bitsOf w 13 0) else none) = some i → i < 16384 := fun w hw => by
    split at hw
    · cases hw; exact bitsOf_lt w 13 0
    · cases hw
  rcases List.mem_pair.mp ht with e | e
  · exact tok _ e.symm
  · exact tok _ e.symm

/-- Acceptance leaves its outputs PENDING. -/
theorem tok_acceptAs {i : Nat} (h : i ∈ validToks (descOp s slot).outs) : (acceptAs s slot pt).tok i = tPending := by
  have hi := lt_of_mem_descOp_outs s slot h
  have hl : (acceptedOp s slot pt).list < 8 := bitsOf_lt _ 24 22
  have hg : (acceptedOp s slot pt).group < 16 := bitsOf_lt _ 19 16
  have kept (u : State) : PacKept fillBits u (recheck (entryWritten (entered u (acceptedOp s slot pt)) (acceptedOp s slot pt) slot)) :=
    (((((PacKept.refl u).setPac _).trans (pacKept_fillRegs _ hl hg)).raiseIf (by decide)).trans
      (.of_written (memWritten_writeW _ _ _ _ _ _))).setPac _
  have own : i ∈ validToks (acceptedOp s slot pt).outs := h
  rw [acceptAs_eq, (kept _).tok hi (not_fillBits_tok hi), tok_setOuts _ (by decide) own]

end

/-! The decision (R103, R104, R399). -/

section
variable {s : State} {a : Adm} {q : List Adm} {rd wr : Fin 8} (h : s.pac.admRead = a :: q)
include h

theorem execAdmissionDecide_refuses (hc : admitCode (s.setPac { s.pac with admRead := q }) (a.offset / 64) rd false ≠ 0) :
    execAdmissionDecide rd wr s = .next (refuse (s.setPac { s.pac with admRead := q }) a.bell a.offset
      (admitCode (s.setPac { s.pac with admRead := q }) (a.offset / 64) rd false) (rd.val == 0 || wr.val == 0)) := by
  unfold execAdmissionDecide; rw [h]; exact if_pos hc

theorem execAdmissionDecide_accepts (hc : admitCode (s.setPac { s.pac with admRead := q }) (a.offset / 64) 0 false = 0)
    (hj : jBlocked s 1 = false) : execAdmissionDecide 0 wr s =
      .next (jEntry (acceptOp (s.setPac { s.pac with admRead := q }) (a.offset / 64)) 6
        (admitData (acceptOp (s.setPac { s.pac with admRead := q }) (a.offset / 64)) (a.offset / 64))) := by
  unfold execAdmissionDecide; rw [h]
  exact (if_neg (not_not.mpr hc)).trans (if_neg (by rw [hj]; decide))

end

/-- Settles O24: the three answers to a doorbell, and the decision as `refuse` or `acceptAs` and its journal entry. -/
theorem admission : Obligations.Admission := by
  refine ⟨fun s b v ha hr hq => ?_, fun s b v hb => ?_, fun s b v ha hr hq => ?_, fun s a q h => ?_,
    fun s a q rd wr h hb ho hc => ?_, fun s a q wr h ho _ hc hj => ?_⟩
  case refine_1 => exact ⟨_, (exec_pacAdmit b v s).trans (execPacAdmit_joins ha hr hq), rfl, rfl⟩
  case refine_2 => exact ⟨_, (exec_pacAdmit b v s).trans (execPacAdmit_bad hb), rfl⟩
  case refine_3 =>
    have slot : v.toNat / 64 < 2 ^ 20 := by unfold scratchSize at hr; omega
    exact ⟨_, (exec_pacAdmit b v s).trans (execPacAdmit_full ha hr hq), pac_refuse _ _ _ _ _, raised_refuse _ _ _ _ _,
      admLast_refuse s true (by decide) b.isLt slot, refuseCnt_refuse s true (by decide)⟩
  case refine_4 =>
    refine ⟨s.setPac { s.pac with admQ := q, admRead := s.pac.admRead ++ [a] }, ?_, rfl, rfl, rfl⟩
    simp [execAdmissionDequeue, h]
  case refine_5 =>
    have pac := pac_refuse (s.setPac { s.pac with admRead := q }) (rd.val == 0 || wr.val == 0) a.bell a.offset
      (admitCode (s.setPac { s.pac with admRead := q }) (a.offset / 64) rd false)
    exact ⟨_, (exec_admissionDecide rd wr s).trans (execAdmissionDecide_refuses h hc), by rw [pac]; rfl, by rw [pac]; rfl,
      raised_refuse _ _ _ _ _, admLast_refuse _ _ (admitCode_lt _ _ _ _) hb ho⟩
  case refine_6 =>
    have journalled := memWritten_jEntry (acceptOp (s.setPac { s.pac with admRead := q }) (a.offset / 64)) 6
      (admitData (acceptOp (s.setPac { s.pac with admRead := q }) (a.offset / 64)) (a.offset / 64))
    obtain ⟨ids, next, reads⟩ := pac_acceptAs (s.setPac { s.pac with admRead := q }) (a.offset / 64) (s.setPac { s.pac with admRead := q }).pt
    refine ⟨_, (exec_admissionDecide 0 wr s).trans (execAdmissionDecide_accepts h hc hj), by rw [journalled.pac]; exact ids,
      by rw [journalled.pac]; exact next, by rw [journalled.pac]; exact reads, fun i hi => ?_⟩
    have own : i ∈ validToks (descOp (s.setPac { s.pac with admRead := q }) (a.offset / 64)).outs := by rw [descOp_setPac]; exact hi
    rw [(PacKept.of_written (W := fun _ => False) journalled).tok (lt_of_mem_descOp_outs _ _ own) id]
    exact tok_acceptAs _ _ _ own

end Sys2Proof.Machine
end

section
/-! PROOFS. A statement of 03_pacer.md: the Pacer's configuration and rein-back's registers (R98, R106, R120, R129, R130, R137, R145,
R404). -/

namespace Sys2Proof.Machine

/-! Writes of the registers a primary mirrors (Table RLY-5). -/

theorem memWritten_jCfg (s : State) (off v : Nat) : MemWritten s (jCfg s off v) := memWritten_jEntry s _ _
theorem sameMem_jCfg (s : State) (off v : Nat) : SameMem s (jCfg s off v) := sameMem_of_mem (jEntry_mem s _ _)

theorem pacWrite_shadowing {s : State} (h : s.shadowing = true) (off v : Nat) : pacWrite s off v = s.raise blkPac 31 := if_pos h

theorem pacWrite_cfg {s t : State} {off v : Nat} (h : s.shadowing = false) (hc : pacCfg s off v = some t) :
    pacWrite s off v = jCfg t off v := by
  unfold pacWrite
  rw [h, hc]; rfl

section
variable (s : State) (v : Nat)

theorem pacCfg_ctl : pacCfg s 0 v = some (pacCtl s v) := if_pos rfl

theorem pacCfg_flow {f : Nat} (h : f < 1024) : pacCfg s (0x10000 + 8 * f) v = some (flowCfg s f v) := by
  unfold pacCfg
  rw [if_neg (by omega), if_neg (by omega), if_neg (by omega), if_neg (by omega), if_neg (by omega), if_pos (by omega),
    show (0x10000 + 8 * f - 0x10000) / 8 = f by omega]

theorem pacCfg_graph {g : Nat} (h : g < 256) : pacCfg s (0x30000 + 4 * g) v = some (graphCfg s g v) := by
  unfold pacCfg
  rw [if_neg (by omega), if_neg (by omega), if_neg (by omega), if_neg (by omega), if_neg (by omega), if_neg (by omega),
    if_pos (by omega), show (0x30000 + 4 * g - 0x30000) / 4 = g by omega]

theorem pacCfg_tokClr : pacCfg s 0x10000C v = some (tokClr s v) := by
  unfold pacCfg
  rw [if_neg (by omega), if_neg (by omega), if_neg (by omega), if_neg (by omega), if_neg (by omega), if_neg (by omega),
    if_neg (by omega), if_neg (by omega), if_neg (by omega), if_pos rfl]

end

section
variable {s : State} {v : BitVec 32}

/-- The bits of the value under the mask of the enable and one more. -/
theorem land_three (n : Nat) : Nat.land n 3 = n % 4 := Nat.and_two_pow_sub_one_eq_mod n 2

theorem testBit_zero_toNat (v : BitVec 32) : v.toNat.testBit 0 = v.getLsbD 0 := BitVec.testBit_toNat v

/-! A graph disabled (R98). -/

theorem graphCfg_disable {g : Nat} (h : s.flag (Reg.PAC_GRAPH_CFG g) 0 = true) (hv : v.getLsbD 0 = false) :
    graphCfg s g v.toNat =
      (wholesale (s.setFlag (Reg.PAC_GRAPH_CFG g) 0 false) (fun o => o.nodeValid && o.graph == g)).raise blkPac 12 := by
  have off : ¬v.toNat.testBit 0 = true := by rw [testBit_zero_toNat, hv]; decide
  unfold graphCfg; dsimp only
  rw [if_pos h, if_neg off]

/-! A flow enabled (R120). -/

theorem flowCfg_enable {f : Nat} (h : s.flag (Reg.PAC_FLOW_CFG f) 0 = false) (hv : v.getLsbD 0 = true) :
    flowCfg s f v.toNat = (s.setRegN (Reg.PAC_FLOW_CFG f) (Nat.land v.toNat 0xFFFF0003)).setRegN (Reg.PAC_FLOW_STAT f)
      (v.toNat / 2 ^ 16 + v.toNat / 2 ^ 16 * 2 ^ 16) := by
  have first : bitsOf v.toNat 31 16 = v.toNat / 2 ^ 16 := by
    have := v.isLt
    unfold bitsOf; omega
  simp only [flowCfg, h, testBit_zero_toNat, hv, first, Bool.false_and, Bool.not_false, Bool.and_self, if_true]
  rfl

/-- A number below 2^16 written in both halves of a word reads back from each. -/
theorem bitsOf_twice {n : Nat} (h : n < 2 ^ 16) : n + n * 2 ^ 16 < 2 ^ 32 ∧
    bitsOf (n + n * 2 ^ 16) 15 0 = n ∧ bitsOf (n + n * 2 ^ 16) 31 16 = n := by
  have high : (n + n * 2 ^ 16) / 2 ^ 16 = n := by
    rw [Nat.add_mul_div_right _ _ (Nat.two_pow_pos 16), Nat.div_eq_of_lt h, Nat.zero_add]
  refine ⟨by omega, ?_, ?_⟩
  · exact (congrArg (· % 2 ^ 16) (Nat.div_one _)).trans ((Nat.add_mul_mod_self_right _ _ _).trans (Nat.mod_eq_of_lt h))
  · exact (congrArg (· % 2 ^ 16) high).trans (Nat.mod_eq_of_lt h)

theorem flowStat_enabled {f : Nat} (h : s.flag (Reg.PAC_FLOW_CFG f) 0 = false) (hv : v.getLsbD 0 = true) :
    (flowCfg s f v.toNat).fld (Reg.PAC_FLOW_STAT f) 15 0 = v.toNat / 2 ^ 16 ∧
      (flowCfg s f v.toNat).fld (Reg.PAC_FLOW_STAT f) 31 16 = v.toNat / 2 ^ 16 ∧
      (flowCfg s f v.toNat).flag (Reg.PAC_FLOW_CFG f) 0 = true := by
  have := v.isLt
  have apart : Reg.PAC_FLOW_STAT f ≠ Reg.PAC_FLOW_CFG f := by unfold Reg.PAC_FLOW_STAT Reg.PAC_FLOW_CFG; omega
  have masked : Nat.land v.toNat 0xFFFF0003 < 2 ^ 32 := lt_of_le_of_lt Nat.and_le_left v.isLt
  have enable : (Nat.land v.toNat 0xFFFF0003).testBit 0 = true :=
    (Nat.testBit_and _ _ _).trans (by rw [testBit_zero_toNat, hv]; decide)
  have half : v.toNat / 2 ^ 16 < 2 ^ 16 := by omega
  rw [flowCfg_enable h hv]
  obtain ⟨word, low, high⟩ := bitsOf_twice half
  refine ⟨?_, ?_, ?_⟩
  · rw [State.fld, regN_setRegN, if_pos rfl, Nat.mod_eq_of_lt word, low]
  · rw [State.fld, regN_setRegN, if_pos rfl, Nat.mod_eq_of_lt word, high]
  · rw [flag_of_reg 0 (reg_setRegN_ne _ _ apart), flag_setRegN _ _ _ masked, enable]

/-! The enable (R110, R137). -/

theorem pacCtl_clear (h : s.flag Reg.PAC_CTL 0 = true) (hv : v.getLsbD 0 = false) :
    pacCtl s v.toNat = wholesale (s.setRegN Reg.PAC_CTL (v.toNat % 4)) (fun _ => true) := by
  simp only [pacCtl, h, testBit_zero_toNat, hv, land_three, Bool.not_false, Bool.and_self, if_true]

theorem pacCtl_set (h : s.flag Reg.PAC_CTL 0 = false) (hv : v.getLsbD 0 = true) : pacCtl s v.toNat =
    (s.setRegN Reg.PAC_CTL (v.toNat % 4)).setPac { (s.setRegN Reg.PAC_CTL (v.toNat % 4)).pac with ptr := [], deficit := [] } := by
  simp only [pacCtl, h, testBit_zero_toNat, hv, land_three, Bool.false_and, Bool.not_false, Bool.and_self, if_true]
  rfl

/-! A poisoned token freed (R130). -/

theorem tokClr_frees (ht : s.tok (bitsOf v.toNat 13 0) = tPoisoned)
    (hp : ∀ o ∈ s.pac.ops, bitsOf v.toNat 13 0 ∉ validToks o.outs) : tokClr s v.toNat = s.setTok (bitsOf v.toNat 13 0) tIdle := by
  have free : (s.pac.ops.any (fun o => (validToks o.outs).contains (bitsOf v.toNat 13 0))) = false :=
    List.any_eq_false.mpr fun o ho => by simpa using hp o ho
  unfold tokClr; dsimp only
  rw [free]
  exact if_pos ⟨ht, rfl⟩

end

/-! A trigger with nothing to rein back, and an alarm that names nobody (R128, R129). -/

/-- The trigger counted and its event raised. -/
def triggered (s : State) (trig : Nat) : State := (s.count (Reg.RB_TRIG_CNT trig)).raise blkPac (15 + trig)
/-- An unattributed alarm counted and its event raised. -/
def unattributed (s : State) : State := (s.count Reg.RB_UNATTR_CNT).raise blkPac 29

section
variable (s : State)

theorem onlyRegs_unattributed : OnlyRegs s (unattributed (triggered s 1)) :=
  ((((OnlyRegs.refl s).count _).raise _ _).count _).raise _ _

theorem regs_triggered : SameRegs (s.count (Reg.RB_TRIG_CNT 1)) (triggered s 1) (evtOf blkPac 16) := sameRegs_raise _ _ _
theorem regs_unattributed : SameRegs (s.count Reg.RB_UNATTR_CNT) (unattributed s) (evtOf blkPac 29) := sameRegs_raise _ _ _

/-- Both events stand and both counts have advanced. -/
theorem alarm_counted : Raised (unattributed (triggered s 1)) blkPac 16 ∧ Raised (unattributed (triggered s 1)) blkPac 29 ∧
    (unattributed (triggered s 1)).regN Reg.RB_UNATTR_CNT = satNat 32 (s.regN Reg.RB_UNATTR_CNT + 1) ∧
    (unattributed (triggered s 1)).regN (Reg.RB_TRIG_CNT 1) = satNat 32 (s.regN (Reg.RB_TRIG_CNT 1) + 1) := by
  have sixteen : Raised (triggered s 1) blkPac 16 := flag_raise _ _ _ (by decide)
  have counted : ((triggered s 1).count Reg.RB_UNATTR_CNT).flag (evtStatus blkPac) 16 = (triggered s 1).flag (evtStatus blkPac) 16 :=
    flag_of_reg 16 (reg_setRegN_ne _ _ (by decide))
  refine ⟨?_, flag_raise _ _ _ (by decide), ?_, ?_⟩
  · exact ((flag_raise_ne _ _ _ _ (by decide) (by decide)).trans counted).trans sixteen
  · rw [regN_of_reg (regs_unattributed _ _ (by unfold evtOf; decide)), regN_count,
      regN_of_reg (regs_triggered _ _ (by unfold evtOf; decide)), State.count, regN_of_reg (reg_setRegN_ne _ _ (by decide))]
  · rw [regN_of_reg (regs_unattributed _ _ (by unfold evtOf; decide)), State.count, regN_of_reg (reg_setRegN_ne _ _ (by decide)),
      regN_of_reg (regs_triggered _ _ (by unfold evtOf; decide)), regN_count]

variable {s}

theorem reinBack_nothing (h : s.pac.ops = []) (trig detail : Nat) (seed : Op → Bool) :
    reinBack s trig detail seed = triggered s trig := by
  have none_left : ((s.count (Reg.RB_TRIG_CNT trig)).raise blkPac (15 + trig)).pac.ops = [] := by simp [h]
  unfold reinBack; dsimp only
  rw [none_left]; rfl

theorem alarm_nobody (h : s.pac.ops = []) (hl : s.pac.lastRel = []) (cls worker addr code : Nat) :
    s.alarm cls worker addr code = unattributed (triggered s 1) := by
  have last : (triggered s 1).pac.lastRel = [] := by simp [triggered, hl]
  unfold State.alarm; dsimp only
  rw [h, List.filter_nil, List.isEmpty_nil, if_pos rfl, alarmNone, reinBack_nothing h, last]; rfl

/-! RB_TEST (Table RBK-8). -/

theorem execRbTest_refused {v : BitVec 32} (h : rbTestModes s.mode = false) : execRbTest v s = .next (s.raise blkPac 31) := by
  simp [execRbTest, h]

theorem execRbTest_nobody {v : BitVec 32} (h : rbTestModes s.mode = true) (hv : v.getLsbD 31 = true) (ho : s.pac.ops = []) :
    execRbTest v s = .next (unattributed (triggered (s.setRegN Reg.RB_TEST (bitsOf v.toNat 13 0)) 1)) := by
  have nobody : (s.setRegN Reg.RB_TEST (bitsOf v.toNat 13 0)).pac.ops = [] := by simp [ho]
  simp [execRbTest, h, hv, ho, reinBack_nothing nobody, unattributed]

/-! RB_LOSS_HI (R145). -/

theorem execRbLossHiRead_pops {init : Fin 512} {e : BitVec 64} {q : List (BitVec 64)} (h : s.pac.lossQ = e :: q)
    (hi : init.val ≠ 474) : execRbLossHiRead init s =
      .next (lossStat ((s.answer init 0 [e.toNat / 2 ^ 32]).setPac { s.pac with lossQ := q })) := by
  unfold execRbLossHiRead; rw [h]; exact if_neg hi

theorem fill_lossStat (s : State) : (lossStat s).fld Reg.RB_LOSS_STAT 9 1 = s.pac.lossQ.length % 512 :=
  fld_setFld _ _ _ _ _ (by decide) (by decide)

theorem sameRegs_lossStat (s : State) : SameRegs s (lossStat s) (· = Reg.RB_LOSS_STAT) := fun a ha => by
  unfold lossStat; dsimp only
  rw [reg_setFld_ne _ _ _ _ (Ne.symm ha), reg_setFlag_ne _ _ _ (Ne.symm ha)]

theorem ans_lossStat (s : State) : (lossStat s).ans = s.ans := by simp [lossStat]

end

/-- Settles O27: each write is an equation and a journal entry, which touches nothing of the Pacer; what ends does so by `wholesale`. -/
theorem pacerConfiguration : Obligations.PacerConfiguration := by
  refine ⟨fun s g v hs h hv hok => ?_, fun s f v hs h hv => ?_, fun s v hs h hv hok => ?_, fun s v hs h hv => ?_, fun s v hs => ?_,
    fun s v hs ht hp => ?_, fun s v h => ?_, fun s v h hv ho => ?_, fun s cls w a al ho hl => ?_, fun s init e q h hi => ?_⟩
  case refine_1 =>
    have hs' : OpsOk (s.setFlag (Reg.PAC_GRAPH_CFG g) 0 false) := opsOk_of_pac (s.setFlag_pac _ _ _) (opsOk_of_ok hok)
    have range : 0x42000500 ≤ Reg.PAC_GRAPH_CFG g ∧ Reg.PAC_GRAPH_CFG g < 0x42040000 := by unfold Reg.PAC_GRAPH_CFG; omega
    have below : Reg.PAC_GRAPH_CFG g < Reg.RB_WHOLESALE_CNT := lt_trans range.2 (by decide)
    obtain ⟨ends, -⟩ := ended_wholesale (fun o => o.nodeValid && o.graph == g.val) hs'
    have noted := (PacKept.refl (W := endRegs) (wholesale (s.setFlag (Reg.PAC_GRAPH_CFG g) 0 false)
      (fun o => o.nodeValid && o.graph == g.val))).raise (n := 12) (by decide)
    have journalled := memWritten_jCfg (graphCfg s g v.toNat) (0x30000 + 4 * g.val) v.toNat
    have kept := PacKept.of_written (W := endRegs) journalled
    rw [graphCfg_disable h hv] at journalled kept
    refine ⟨_, by rw [exec_pacGraphCfgWrite, execPacGraphCfgWrite, pacWrite_cfg hs (pacCfg_graph s _ g.isLt), graphCfg_disable h hv],
      ?_, ?_, ?_, fun o mem picked => ?_⟩
    · rw [((ends.kept.trans noted).trans kept).flag 0 below (not_endRegs (.inr range.1) range.2), flag_setFlag _ _ _ _ (by decide)]
    · exact kept.stands 12 (by decide) (flag_raise _ _ _ (by decide))
    · exact (noted.trans kept).stands 25 (by decide) (raised_wholesale _ hs')
    · rw [journalled.pac, State.raise_pac] at mem
      have spared := gone_wholesale _ hs' mem
      simp [picked.1, picked.2] at spared
  case refine_2 =>
    obtain ⟨low, high, enabled⟩ := flowStat_enabled h hv
    have written : OnlyRegs s (flowCfg s f v.toNat) := by
      rw [flowCfg_enable h hv]; exact ((OnlyRegs.refl s).setRegN _ _).setRegN _ _
    have journalled := memWritten_jCfg (flowCfg s f v.toNat) (0x10000 + 8 * f.val) v.toNat
    have stat := journalled.regs (Reg.PAC_FLOW_STAT f) (by unfold Reg.PAC_FLOW_STAT blockBase ctrlBase blkNoc; omega)
    have cfg := journalled.regs (Reg.PAC_FLOW_CFG f) (by unfold Reg.PAC_FLOW_CFG blockBase ctrlBase blkNoc; omega)
    exact ⟨_, by rw [exec_pacFlowCfgWrite, execPacFlowCfgWrite, pacWrite_cfg hs (pacCfg_flow s _ f.isLt)],
      (fld_of_reg _ _ stat).trans low, (fld_of_reg _ _ stat).trans high, (flag_of_reg _ cfg).trans enabled,
      journalled.pac.trans written.pac, fun a => (sameMem_jCfg _ _ _ a).trans (written.sameMem a)⟩
  case refine_3 =>
    have hs' : OpsOk (s.setRegN Reg.PAC_CTL (v.toNat % 4)) := opsOk_of_pac (s.setRegN_pac _ _) (opsOk_of_ok hok)
    have cleared : (s.setRegN Reg.PAC_CTL (v.toNat % 4)).flag Reg.PAC_CTL 0 = false := by
      rw [flag_setRegN _ _ _ (by omega), show (4 : Nat) = 2 ^ 2 from rfl, Nat.testBit_mod_two_pow, testBit_zero_toNat, hv]; rfl
    obtain ⟨ends, -⟩ := ended_wholesale (fun _ => true) hs'
    have journalled := memWritten_jCfg (wholesale (s.setRegN Reg.PAC_CTL (v.toNat % 4)) (fun _ => true)) 0 v.toNat
    have kept := PacKept.of_written (W := endRegs) journalled
    refine ⟨_, by rw [exec_pacCtlWrite, execPacCtlWrite, pacWrite_cfg hs (pacCfg_ctl s _), pacCtl_clear h hv], ?_, ?_, ?_⟩
    · rw [journalled.pac]
      exact List.eq_nil_iff_forall_not_mem.mpr fun o mem => absurd (gone_wholesale _ hs' mem) (by decide)
    · rw [(ends.kept.trans kept).flag 0 (by decide) (not_endRegs (.inl (by decide)) (by decide)), cleared]
    · exact kept.stands 25 (by decide) (raised_wholesale _ hs')
  case refine_4 =>
    have journalled := memWritten_jCfg (pacCtl s v.toNat) 0 v.toNat
    have mem := sameMem_jCfg (pacCtl s v.toNat) 0 v.toNat
    rw [pacCtl_set h hv] at journalled mem
    refine ⟨_, by rw [exec_pacCtlWrite, execPacCtlWrite, pacWrite_cfg hs (pacCfg_ctl s _), pacCtl_set h hv], ?_, ?_, ?_, ?_, mem⟩
    · rw [journalled.pac]; rfl
    · rw [journalled.pac]; rfl
    · rw [journalled.pac]; rfl
    · rw [regN_of_reg (journalled.regs _ (by decide)), regN_setPac, regN_setRegN, if_pos rfl]; omega
  case refine_5 => exact ⟨_, by rw [exec_pacCtlWrite, execPacCtlWrite, pacWrite_shadowing hs], rfl⟩
  case refine_6 =>
    have small : bitsOf v.toNat 13 0 < 16384 := bitsOf_lt _ 13 0
    have journalled := memWritten_jCfg (s.setTok (bitsOf v.toNat 13 0) tIdle) 0x10000C v.toNat
    refine ⟨_, by rw [exec_rbTokClr, execRbTokClr, pacWrite_cfg hs (pacCfg_tokClr s _), tokClr_frees ht hp], ?_, journalled.pac,
      sameMem_jCfg _ _ _⟩
    rw [(PacKept.of_written (W := fun _ => False) journalled).tok small id, tok_setTok _ _ _ (by decide), if_pos rfl]
  case refine_7 => exact ⟨_, (exec_rbTest v s).trans (execRbTest_refused h), rfl⟩
  case refine_8 =>
    have written := onlyRegs_unattributed (s.setRegN Reg.RB_TEST (bitsOf v.toNat 13 0))
    obtain ⟨trigger, unnamed, count, -⟩ := alarm_counted (s.setRegN Reg.RB_TEST (bitsOf v.toNat 13 0))
    refine ⟨_, (exec_rbTest v s).trans (execRbTest_nobody h hv ho), ?_, trigger, unnamed, ?_, written.pac, written.sameMem⟩
    · have small : bitsOf v.toNat 13 0 < 2 ^ 14 := bitsOf_lt _ 13 0
      rw [regN_of_reg (regs_unattributed _ _ (by unfold evtOf; decide)), State.count, regN_of_reg (reg_setRegN_ne _ _ (by decide)),
        regN_of_reg (regs_triggered _ _ (by unfold evtOf; decide)), State.count, regN_of_reg (reg_setRegN_ne _ _ (by decide)),
        regN_setRegN, if_pos rfl]
      omega
    · rw [count, regN_of_reg (reg_setRegN_ne _ _ (by decide))]
  case refine_9 =>
    have written := onlyRegs_unattributed s
    obtain ⟨trigger, unnamed, count, triggers⟩ := alarm_counted s
    exact ⟨_, by rw [exec_rbAlarm, execRbAlarm, alarm_nobody ho hl], trigger, unnamed, count, triggers,
      written.pac, written.sameMem⟩
  case refine_10 =>
    refine ⟨_, (exec_rbLossHiRead init s).trans (execRbLossHiRead_pops h hi), ?_, pac_lossStat _, fill_lossStat _, ?_,
      sameMem_of_mem (onlyRegs_lossStat _).mem⟩
    · rw [ans_lossStat]; rfl
    · exact sameRegs_lossStat _

end Sys2Proof.Machine
end

section
/-! SUPPORT. A slot operation of a Canter core (R157, R160): where the slot is reached it works on the live bank alone, and its results
join the writes that bank owes. -/

namespace Sys2Proof.Machine

/-! The live bank of a core. -/

@[simp] theorem CoreState.bank_setBank (k : CoreState) (b : Bank) : (k.setBank b).bank = b := by
  cases h : k.live <;> simp [CoreState.setBank, CoreState.bank, h]

section
variable {i : Instr} {s u : State} {c : Fin 256} {fresh : Bool} {bad : Bank → Bool} {f : Bank → Bank}

theorem slotOp_reached (h : openSlot s c fresh = (u, true)) :
    slotOp s c fresh f = u.setCore c ((u.core c).setBank (f (u.core c).bank)) := by
  simp only [slotOp, h]

/-- Where its check finds no fault, an operation that may be ILLEGAL is like any other. -/
theorem slotOr_legal (h : openSlot s c fresh = (u, true)) (hb : bad (u.core c).bank = false) :
    slotOr s c fresh bad f = slotOp s c fresh f := by
  simp only [slotOr, slotOp, h, hb, Bool.false_eq_true, if_false]

/-- A slot operation that is reached leaves the bank it computes, every other core and the rest of the state; `g` is what a statement
says of that bank. -/
theorem completes_slotOp {α : Type} (g : Bank → α) {v : α} (hi : exec i s = .next (slotOp s c fresh f))
    (h : openSlot s c fresh = (u, true)) (hv : g (f (u.core c).bank) = v) :
    Completes i s (fun t => g (t.core c).bank = v ∧ t = { u with can := t.can } ∧ (∀ k, k ≠ c.val → t.core k = u.core k)) := by
  refine ⟨_, hi.trans (congrArg _ (slotOp_reached h)), ?_, rfl, fun k hk => ?_⟩
  · rw [core_setCore, if_pos rfl, CoreState.bank_setBank, hv]
  · rw [core_setCore, if_neg hk.symm]

end

/-! The writes a bank owes (R160, Table CAN-7). -/

/-- What an operation on both components of an accumulator owes: two writes, four cycles on. -/
def Bank.accWrites (b : Bank) (rank k re im : Nat) : List PendWrite :=
  [⟨b.cycle + 4, b.cycle, rank, .acc k false, re⟩, ⟨b.cycle + 4, b.cycle, rank, .acc k true, im⟩]

section
variable (b : Bank) (rank k : Nat)

theorem Bank.owed_owe (lat : Nat) (dest : Dest) (v : Nat) :
    (b.owe lat rank dest v).owed = b.owed ++ [⟨b.cycle + lat, b.cycle, rank, dest, v⟩] := rfl
@[simp] theorem Bank.cycle_owe (lat : Nat) (dest : Dest) (v : Nat) : (b.owe lat rank dest v).cycle = b.cycle := rfl

theorem Bank.owed_dWrite (lat n v : Nat) :
    (b.dWrite lat rank n v).owed = b.owed ++ [⟨b.cycle + lat, b.cycle, rank, .d (b.phys n), v⟩] := rfl

theorem Bank.owed_owe_pair (re im : Nat) :
    ((b.owe 4 rank (.acc k false) re).owe 4 rank (.acc k true) im).owed = b.owed ++ b.accWrites rank k re im := by
  rw [owed_owe, owed_owe, cycle_owe, List.append_assoc]; rfl

/-- The overflow flag of R154 is not among the writes owed. -/
theorem Bank.owed_accWrite (im : Bool) (v : Int) :
    (b.accWrite rank k im v).owed = b.owed ++ [⟨b.cycle + 4, b.cycle, rank, .acc k im, unsigned 48 v⟩] := by
  unfold accWrite; split <;> rfl
@[simp] theorem Bank.cycle_accWrite (im : Bool) (v : Int) : (b.accWrite rank k im v).cycle = b.cycle := by
  unfold accWrite; split <;> rfl

theorem Bank.owed_accPair (re im : Int) :
    (b.accPair k re im).owed = b.owed ++ b.accWrites rMac k (unsigned 48 re) (unsigned 48 im) := by
  rw [accPair, owed_accWrite, owed_accWrite, cycle_accWrite, List.append_assoc]; rfl

theorem Bank.owed_accAdd (re im : Int) : (b.accAdd k re im).owed =
    b.owed ++ b.accWrites rMac k (unsigned 48 (b.accOwn k false + re)) (unsigned 48 (b.accOwn k true + im)) :=
  b.owed_accPair k _ _

/-- A flag set under a condition, as EXT sets SF, is not among the writes owed. -/
theorem Bank.owed_flagsIf (p : Prop) [Decidable p] (w : BitVec 32) : (if p then { b with flags := w } else b).owed = b.owed := by
  split <;> rfl
theorem Bank.cycle_flagsIf (p : Prop) [Decidable p] (w : BitVec 32) : (if p then { b with flags := w } else b).cycle = b.cycle := by
  split <;> rfl

end

/-- Accumulators zeroed one after the other, as CLRA does. -/
theorem Bank.owed_clear (m : Nat) : ∀ (l : List Nat) (b : Bank), (l.foldl (fun b k =>
      if m.testBit k then (b.owe 4 rCtl (.acc k false) 0).owe 4 rCtl (.acc k true) 0 else b) b).owed =
    b.owed ++ (l.filter m.testBit).flatMap (fun k => b.accWrites rCtl k 0 0)
  | [], b => by simp
  | k :: l, b => by
    rw [List.foldl_cons, owed_clear m l]
    cases hk : m.testBit k with
    | false => simp [hk]
    | true =>
      rw [if_pos rfl, owed_owe_pair, List.filter_cons_of_pos hk, List.flatMap_cons, List.append_assoc]
      rfl

end Sys2Proof.Machine
end

section
/-! PROOFS. Statements of 05_canter_cores.md: the accumulators and the data registers of a Canter core (R153…R156, R158, R160, R165). -/

namespace Sys2Proof.Machine

/-! Shifts of an accumulator (R155, R156, R159). -/

section
variable {s u : State} {c : Fin 256} {fresh final sat clr : Bool} {k : Fin 4} {ra : Fin 32} {sh : Fin 64}
  (h : openSlot s c fresh = (u, true)) (hs : sh.val ≤ 47)

include h hs in
theorem execAshr_legal : execAshr c fresh k sh s = .next (slotOp s c fresh (fun b =>
    b.accPair k (roundBy b.rm false (b.accOwn k false) sh) (roundBy b.rm false (b.accOwn k true) sh))) :=
  congrArg _ (slotOr_legal h (decide_eq_false (Nat.not_lt.mpr hs)))

/-- A component as EXT writes it: rounded, and saturated with SAT. -/
def extPart (b : Bank) (k sh : Nat) (final sat im : Bool) : Int :=
  if sat then satInt 16 (roundBy b.rm final (b.accVis k im) sh) else roundBy b.rm final (b.accVis k im) sh

/-- What EXT makes of its bank: the data register, SF, and with CLR the accumulator zeroed. -/
def extBank (k : Fin 4) (ra : Fin 32) (sh : Fin 64) (final sat clr : Bool) (b : Bank) : Bank :=
  let w := b.dWrite 2 rMac ra (cplx (extPart b k sh final sat false) (extPart b k sh final sat true))
  let w := if extPart b k sh final sat false ≠ roundBy b.rm final (b.accVis k false) sh ∨
      extPart b k sh final sat true ≠ roundBy b.rm final (b.accVis k true) sh then { w with flags := w.flags ||| 0x1000#32 } else w
  if clr then (w.owe 4 rMac (.acc k false) 0).owe 4 rMac (.acc k true) 0 else w

include h hs in
theorem execExt_legal :
    execExt c fresh k ra sh final sat clr s = .next (slotOp s c fresh (extBank k ra sh final sat clr)) :=
  congrArg _ (slotOr_legal h (decide_eq_false (Nat.not_lt.mpr hs)))

theorem owed_extBank (b : Bank) : (extBank k ra sh final sat clr b).owed = b.owed ++
    ⟨b.cycle + 2, b.cycle, rMac, .d (b.phys ra), cplx (extPart b k sh final sat false) (extPart b k sh final sat true)⟩ ::
      (if clr then b.accWrites rMac k 0 0 else []) := by
  cases clr with
  | false => exact Bank.owed_flagsIf _ _ _
  | true =>
    simp only [extBank, if_true, Bank.owed_owe_pair, Bank.accWrites, Bank.owed_flagsIf, Bank.cycle_flagsIf]
    simp [Bank.dWrite, Bank.owed_owe]

end

/-- Settles O30: each operation is a slot operation that owes the two components of an accumulator, or with EXT a data register. -/
theorem canterMac : Obligations.CanterMac := by
  refine ⟨fun s u c fresh k ra rb h => ?_, fun s u c fresh k ra rb h => ?_, fun s u c fresh k ra rb md h => ?_,
    fun s u c fresh k ra rb md h => ?_, fun s u c fresh k ra sh h => ?_, fun s u c fresh k j h => ?_, fun s u c fresh k j h hj => ?_,
    fun s u c fresh k sh h hs => ?_, fun s u c fresh k ra sh final h hs => ?_, fun s u c fresh k ra sh final h hs => ?_⟩
  case refine_1 => exact completes_slotOp Bank.owed (exec_cmac c fresh k ra rb false false true s) h (Bank.owed_accPair _ _ _ _)
  case refine_2 => exact completes_slotOp Bank.owed (exec_cmac c fresh k ra rb true true false s) h (Bank.owed_accAdd _ _ _ _)
  case refine_3 => exact completes_slotOp Bank.owed (exec_drmac c fresh k ra rb md s) h (Bank.owed_accAdd _ _ _ _)
  case refine_4 => exact completes_slotOp Bank.owed (exec_pcmac c fresh k ra rb md s) h (Bank.owed_accAdd _ _ _ _)
  case refine_5 => exact completes_slotOp Bank.owed (exec_ald c fresh k ra sh s) h (Bank.owed_accPair _ _ _ _)
  case refine_6 => exact completes_slotOp Bank.owed (exec_amov c fresh k j s) h (Bank.owed_accPair _ _ _ _)
  case refine_7 =>
    refine completes_slotOp Bank.owed (exec_aadd c fresh k j s) h ?_
    rw [if_neg hj]
    exact Bank.owed_accAdd _ _ _ _
  case refine_8 => exact completes_slotOp Bank.owed ((exec_ashr c fresh k sh s).trans (execAshr_legal h hs)) h (Bank.owed_accPair _ _ _ _)
  case refine_9 =>
    exact completes_slotOp Bank.owed ((exec_ext c fresh k ra sh final true false s).trans (execExt_legal h hs)) h (owed_extBank _)
  case refine_10 =>
    exact completes_slotOp Bank.owed ((exec_ext c fresh k ra sh final false true s).trans (execExt_legal h hs)) h (owed_extBank _)

/-- Settles O31: each operation is a slot operation that owes one data register, but for ROT, which owes a rotation, and CLRA, which owes
the accumulators of its mask. -/
theorem canterVector : Obligations.CanterVector := by
  refine ⟨fun s u c fresh ra rb md h => ?_, fun s u c fresh ra rb md h => ?_, fun s u c fresh ra rb md h => ?_,
    fun s u c fresh ra rb md h => ?_, fun s u c fresh ra rb h => ?_, fun s u c fresh ra rb h => ?_, fun s u c fresh d imm h => ?_,
    fun s u c fresh d imm h => ?_, fun s u c fresh h => ?_, fun s u c fresh h => ?_, fun s u c fresh m h => ?_⟩
  case refine_1 => exact completes_slotOp Bank.owed (exec_cadd c fresh ra rb md s) h (Bank.owed_dWrite _ _ _ _ _)
  case refine_2 => exact completes_slotOp Bank.owed (exec_csub c fresh ra rb md s) h (Bank.owed_dWrite _ _ _ _ _)
  case refine_3 => exact completes_slotOp Bank.owed (exec_cadds c fresh ra rb md s) h (Bank.owed_dWrite _ _ _ _ _)
  case refine_4 => exact completes_slotOp Bank.owed (exec_csubs c fresh ra rb md s) h (Bank.owed_dWrite _ _ _ _ _)
  case refine_5 => exact completes_slotOp Bank.owed (exec_conj c fresh ra rb s) h (Bank.owed_dWrite _ _ _ _ _)
  case refine_6 => exact completes_slotOp Bank.owed (exec_mov c fresh ra rb s) h (Bank.owed_dWrite _ _ _ _ _)
  case refine_7 => exact completes_slotOp Bank.owed (exec_movil c fresh d imm s) h (Bank.owed_dWrite _ _ _ _ _)
  case refine_8 => exact completes_slotOp Bank.owed (exec_movih c fresh d imm s) h (Bank.owed_dWrite _ _ _ _ _)
  case refine_9 => exact completes_slotOp Bank.rots (exec_rot c fresh s) h rfl
  case refine_10 => exact completes_slotOp Bank.owed (exec_clra c fresh 15 s) h (Bank.owed_clear 15 (List.range 4) _)
  case refine_11 =>
    refine completes_slotOp (fun b => b.owed.length) (exec_clra c fresh m s) h ?_
    have owed := congrArg List.length (Bank.owed_clear m (List.range 4) (u.core c).bank)
    simpa [List.length_flatMap, Bank.accWrites, Nat.mul_comm] using owed

end Sys2Proof.Machine
end

section
/-! PROOFS. A statement of 06_fabric_cells_routing.md: the flip-flop of a cell (R184, R186). -/

namespace Sys2Proof.Machine

/-! One flip-flop written. -/

/-- The flip-flop of cell `c` takes `v`. -/
def State.setFf (s : State) (c : Nat) (v : Bool) : State := s.setFab { s.fab with ffs := sput (fun _ => false) s.fab.ffs c v }

/-- A command that writes one flip-flop leaves the value in it, every other flip-flop and the rest of the state. -/
theorem completes_setFf {i : Instr} {s : State} {c : Nat} {v w : Bool} (hi : exec i s = .next (s.setFf c v)) (hv : v = w) :
    Completes i s (fun t => sget (fun _ => false) t.fab.ffs c = w ∧ t = s.setFab { s.fab with ffs := t.fab.ffs } ∧
      (∀ k, k ≠ c → sget (fun _ => false) t.fab.ffs k = sget (fun _ => false) s.fab.ffs k)) :=
  ⟨_, hi, (sget_sput_same _ _ _ _).trans hv, rfl, fun _ hk => sget_sput_ne _ _ _ hk.symm⟩

/-! The active edge (R184). -/

/-- What CE lets into the flip-flop of a cell: the data FFD selects, or the value it holds. -/
def ffNext (s : State) (c : Nat) : Bool :=
  if (s.net (.pin c 6) != (cellWord s c).testBit 12) then
    if (cellWord s c).testBit 10 then dMod (bitsOf (cellWord s c) 7 6) (s.net (.pin c 3)) else s.net (.o c)
  else sget (fun _ => false) s.fab.ffs c

section
variable {s : State} {c : Fin 9437184} {late : Bool}

theorem execCellFlipFlopEdge_idle (h : padGsr s (c.val / 65536) = true ∨ (cellWord s c).testBit 11 = false ∨
    tapRuns s (c.val / 65536) (stallBits s (c.val / 16) (5 * bitsOf (cellWord s c) 18 17) 5) = false) :
    execCellFlipFlopEdge c late s = .next s := by
  refine if_pos ?_
  obtain h | h | h := h <;> simp only [h, Bool.not_false, Bool.or_true, Bool.true_or]

section
variable (gsr : padGsr s (c.val / 65536) = false) (ffen : (cellWord s c).testBit 11 = true)
  (clock : tapRuns s (c.val / 65536) (stallBits s (c.val / 16) (5 * bitsOf (cellWord s c) 18 17) 5) = true)

include gsr ffen clock in
theorem execCellFlipFlopEdge_sr (sr : (s.net (.pin c.val 7) != (cellWord s c).testBit 13) = true) :
    execCellFlipFlopEdge c late s = .next (s.setFf c ((cellWord s c).testBit 14)) := by
  simp only [execCellFlipFlopEdge, gsr, ffen, clock, sr, State.setFf, Bool.not_true, Bool.or_self, Bool.false_eq_true, if_false, if_true]

include gsr ffen clock in
/-- Without SR, where no asynchronous SR was released too late. -/
theorem execCellFlipFlopEdge_next (sr : (s.net (.pin c.val 7) != (cellWord s c).testBit 13) = false)
    (inTime : late = false ∨ (cellWord s c).testBit 15 = false) :
    execCellFlipFlopEdge c late s = .next (s.setFf c (ffNext s c)) := by
  have choice : (late && (cellWord s c).testBit 15) = false := Bool.and_eq_false_iff.mpr inTime
  simp only [execCellFlipFlopEdge, gsr, ffen, clock, sr, choice, ffNext, State.setFf, Bool.not_true, Bool.or_self, Bool.false_eq_true,
    if_false]

end

end

/-! The three cases of `ffNext`. -/

theorem ffNext_logic {s : State} {c : Nat} (ce : (s.net (.pin c 6) != (cellWord s c).testBit 12) = true)
    (dsel : (cellWord s c).testBit 10 = false) : ffNext s c = s.net (.o c) := by
  simp only [ffNext, ce, dsel, if_true, Bool.false_eq_true, if_false]

theorem ffNext_bypass {s : State} {c : Nat} (ce : (s.net (.pin c 6) != (cellWord s c).testBit 12) = true)
    (dsel : (cellWord s c).testBit 10 = true) : ffNext s c = dMod (bitsOf (cellWord s c) 7 6) (s.net (.pin c 3)) := by
  simp only [ffNext, ce, dsel, if_true]

theorem ffNext_hold {s : State} {c : Nat} (ce : (s.net (.pin c 6) != (cellWord s c).testBit 12) = false) :
    ffNext s c = sget (fun _ => false) s.fab.ffs c := by
  simp only [ffNext, ce, Bool.false_eq_true, if_false]

/-- Settles O34: an edge that acts writes one flip-flop, with SRVAL under SR and else with `ffNext`; any other edge leaves the state. -/
theorem fabricCells : Obligations.FabricCells := by
  refine ⟨fun s c gsr ffen clock sr => ?_, fun s c gsr ffen clock sr ce dsel => ?_, fun s c gsr ffen clock sr ce dsel => ?_,
    fun s c late gsr ffen clock sr ce inTime => ?_, fun s c late idle => ?_⟩
  case refine_1 => exact completes_setFf ((exec_cellFlipFlopEdge _ _ _).trans (execCellFlipFlopEdge_sr gsr ffen clock sr)) rfl
  case refine_2 => exact completes_setFf ((exec_cellFlipFlopEdge _ _ _).trans (execCellFlipFlopEdge_next gsr ffen clock sr (.inl rfl))) (ffNext_logic ce dsel)
  case refine_3 => exact completes_setFf ((exec_cellFlipFlopEdge _ _ _).trans (execCellFlipFlopEdge_next gsr ffen clock sr (.inl rfl))) (ffNext_bypass ce dsel)
  case refine_4 => exact completes_setFf ((exec_cellFlipFlopEdge _ _ _).trans (execCellFlipFlopEdge_next gsr ffen clock sr inTime)) (ffNext_hold ce)
  case refine_5 => exact ⟨s, (exec_cellFlipFlopEdge _ _ _).trans (execCellFlipFlopEdge_idle idle), rfl⟩

end Sys2Proof.Machine
end

section
/-! PROOFS. A statement of 07_fabric_memories_slices_clocks.md: the global clock trees (R222, R223). -/

namespace Sys2Proof.Machine

/-! Registers written one after another. -/

/-- A flag after some flag was written: the value where it is the one written, else as before. -/
theorem flag_setFlag_eq (s : State) (a n : Nat) (b : Bool) (j i : Nat) (h : n < 32) :
    (s.setFlag a n b).flag j i = if a = j ∧ n = i then b else s.flag j i := by
  by_cases ha : a = j
  · subst ha
    by_cases hi : n = i
    · subst hi; simp [flag_setFlag _ _ _ _ h]
    · simp [flag_setFlag_ne _ _ _ _ _ h hi, hi]
  · simp [flag_of_reg _ (reg_setFlag_ne s n b ha), ha]

namespace SameRegs

variable {s t : State} {w : Nat → Prop} {a : Nat}

theorem refl (s : State) (w : Nat → Prop) : SameRegs s s w := fun _ _ => rfl

theorem setRegN (h : SameRegs s t w) (ha : w a) (v : Nat) : SameRegs s (t.setRegN a v) w := fun j hj =>
  (reg_setRegN_ne t v (by rintro rfl; exact hj ha)).trans (h j hj)

theorem setFlag (h : SameRegs s t w) (ha : w a) (n : Nat) (b : Bool) : SameRegs s (t.setFlag a n b) w := h.setRegN ha _
theorem count (h : SameRegs s t w) (ha : w a) : SameRegs s (t.count a) w := h.setRegN ha _

end SameRegs

/-! The fields of GCK_CFG under its writable bits (Table BMC-7). -/

/-- What a write of a value leaves in GCK_CFG: SRC, DIV and EN. -/
def gckWord (v : Nat) : Nat := Nat.land v 0x10F1F

theorem testBit_gckWord (v n : Nat) : (gckWord v).testBit n = (v.testBit n && Nat.testBit 0x10F1F n) := Nat.testBit_and v 0x10F1F n

theorem gckWord_lt (v : Nat) : gckWord v < 2 ^ 32 := lt_of_le_of_lt Nat.and_le_right (by decide)

theorem en_gckWord (v : Nat) : (gckWord v).testBit 16 = v.testBit 16 := (testBit_gckWord v 16).trans (Bool.and_true _)

theorem gckSrc_gckWord (v : Nat) : gckSrc (gckWord v) = v % 32 := by
  have low : (v &&& 0x10F1F) % 2 ^ 5 = v % 2 ^ 5 &&& 2 ^ 5 - 1 := Nat.and_mod_two_pow
  rw [Nat.and_two_pow_sub_one_eq_mod, Nat.mod_mod] at low
  rwa [gckSrc, bitsOf, pow_zero, Nat.div_one]

/-- SRC and DIV as written, where the bits between them are written as zero. -/
theorem ratio_gckWord {v : Nat} (gap : v / 32 % 8 = 0) : bitsOf (gckWord v) 11 0 = bitsOf v 11 0 := by
  have writable : ∀ n < 12, (5 ≤ n ∧ n < 8) ∨ Nat.testBit 0x10F1F n = true := by decide
  refine Nat.eq_of_testBit_eq fun n => ?_
  rw [testBit_bitsOf, testBit_bitsOf, testBit_gckWord]
  change (decide (n < 12) && (v.testBit n && Nat.testBit 0x10F1F n)) = (decide (n < 12) && v.testBit n)
  by_cases hn : n < 12
  · obtain ⟨h5, h8⟩ | h := writable n hn
    · have clear : (bitsOf v 7 5).testBit (n - 5) = false := by rw [show bitsOf v 7 5 = 0 from gap, Nat.zero_testBit]
      rw [testBit_bitsOf, Nat.sub_add_cancel h5, decide_eq_true (by omega), Bool.true_and] at clear
      rw [clear, Bool.false_and]
    · rw [h, Bool.and_true]
  · rw [decide_eq_false hn, Bool.false_and, Bool.false_and]

/-- With EN written as zero only SRC and DIV are kept. -/
theorem gckWord_disabled {v : Nat} (en : v.testBit 16 = false) : gckWord v = Nat.land v 0xF1F := by
  have split : v &&& (0xF1F ||| 2 ^ 16) = v &&& 0xF1F ||| v &&& 2 ^ 16 := Nat.and_or_distrib_left v 0xF1F (2 ^ 16)
  have off : v &&& 2 ^ 16 = 0 := by rw [Nat.and_two_pow, en]; rfl
  rw [off, Nat.or_zero] at split
  exact split

/-! The registers of a tree lie apart, and apart from a synthesiser's. -/

theorem gckCfg_ne_gckStat (k : Nat) : Reg.GCK_CFG k ≠ Reg.GCK_STAT k := by unfold Reg.GCK_CFG Reg.GCK_STAT; omega

theorem fsynCtl_apart_gck {n : Nat} (hn : n < 32) (k : Nat) : Reg.GCK_CFG k ≠ Reg.FSYN_CTL n ∧ Reg.GCK_STAT k ≠ Reg.FSYN_CTL n := by
  unfold Reg.GCK_CFG Reg.GCK_STAT Reg.FSYN_CTL; omega

/-! A write of GCK_CFG (R223). -/

section
variable (s : State) (k v : Nat)

/-- A write of GCK_CFG that is accepted, before the tree starts or stops. -/
def gckAccepted : State := (s.setRegN (Reg.GCK_CFG k) (gckWord v)).setFlag (Reg.GCK_STAT k) 2 false

theorem regN_gckAccepted : (gckAccepted s k v).regN (Reg.GCK_CFG k) = gckWord v := by
  rw [gckAccepted, regN_of_reg (reg_setFlag_ne _ _ _ (gckCfg_ne_gckStat k).symm), regN_setRegN, if_pos rfl, Nat.mod_eq_of_lt (gckWord_lt v)]

theorem refused_gckAccepted : (gckAccepted s k v).flag (Reg.GCK_STAT k) 2 = false := flag_setFlag _ _ _ _ (by decide)

theorem flag_gckAccepted_fsyn {n : Nat} (hn : n < 32) (i : Nat) : (gckAccepted s k v).flag (Reg.FSYN_CTL n) i = s.flag (Reg.FSYN_CTL n) i :=
  flag_of_reg i ((reg_setFlag_ne _ _ _ (fsynCtl_apart_gck hn k).2).trans (reg_setRegN_ne s _ (fsynCtl_apart_gck hn k).1))

theorem sameRegs_gckAccepted : SameRegs s (gckAccepted s k v) (fun a => a = Reg.GCK_CFG k ∨ a = Reg.GCK_STAT k) :=
  ((SameRegs.refl s _).setRegN (.inl rfl) _).setFlag (.inr rfl) _ _

theorem onlyRegs_gckAccepted : OnlyRegs s (gckAccepted s k v) := ((OnlyRegs.refl s).setRegN _ _).setFlag _ _ _

/-- RUNNING and PENDING of a tree written, REFUSED and the setting left. -/
def gckShow (run pend : Bool) : State := (s.setFlag (Reg.GCK_STAT k) 0 run).setFlag (Reg.GCK_STAT k) 1 pend

variable {s k v} {run pend : Bool}

theorem flag_gckShow : (gckShow s k run pend).flag (Reg.GCK_STAT k) 0 = run ∧ (gckShow s k run pend).flag (Reg.GCK_STAT k) 1 = pend ∧
    (gckShow s k run pend).flag (Reg.GCK_STAT k) 2 = s.flag (Reg.GCK_STAT k) 2 := by
  simp [gckShow, flag_setFlag_eq]

theorem regN_gckShow : (gckShow s k run pend).regN (Reg.GCK_CFG k) = s.regN (Reg.GCK_CFG k) :=
  regN_of_reg ((reg_setFlag_ne _ _ _ (gckCfg_ne_gckStat k).symm).trans (reg_setFlag_ne _ _ _ (gckCfg_ne_gckStat k).symm))

theorem SameRegs.gckShow {t : State} {w : Nat → Prop} (h : SameRegs s t w) (hw : w (Reg.GCK_STAT k)) :
    SameRegs s (gckShow t k run pend) w := (h.setFlag hw _ _).setFlag hw _ _

theorem OnlyRegs.gckShow {t : State} (h : OnlyRegs s t) : OnlyRegs s (gckShow t k run pend) := (h.setFlag _ _ _).setFlag _ _ _

theorem gckWrite_eq : gckWrite s k v =
    if (s.flag (Reg.GCK_CFG k) 16 && bitsOf (gckWord v) 11 0 != s.fld (Reg.GCK_CFG k) 11 0) || (v.testBit 16 && !decide (5 ≤ v % 32 ∧ v % 32 ≤ 23)) then
      s.setFlag (Reg.GCK_STAT k) 2 true
    else if v.testBit 16 then (if s.flag (Reg.GCK_CFG k) 16 then gckAccepted s k v else gckWait (gckAccepted s k v) k)
    else gckShow (gckAccepted s k v) k false false := by
  rw [← en_gckWord v, ← gckSrc_gckWord v, Bool.decide_and]
  rfl

/-- A change of SRC or DIV under EN, or an enable with no synthesiser of the fabric's, only sets REFUSED. -/
theorem gckWrite_refused (h : (s.flag (Reg.GCK_CFG k) 16 = true ∧ bitsOf (gckWord v) 11 0 ≠ s.fld (Reg.GCK_CFG k) 11 0) ∨
    (v.testBit 16 = true ∧ (v % 32 < 5 ∨ 23 < v % 32))) : gckWrite s k v = s.setFlag (Reg.GCK_STAT k) 2 true := by
  rw [gckWrite_eq, if_pos]
  obtain ⟨en, moved⟩ | ⟨en, bad⟩ := h
  · rw [en, bne_iff_ne.mpr moved]; rfl
  · rw [en, decide_eq_false (by omega), Bool.not_false, Bool.true_and, Bool.or_true]

theorem gckWrite_enables (was : s.flag (Reg.GCK_CFG k) 16 = false) (en : v.testBit 16 = true) (lo : 5 ≤ v % 32) (hi : v % 32 ≤ 23) :
    gckWrite s k v = gckShow (gckAccepted s k v) k false (!s.flag (Reg.FSYN_CTL (v % 32)) 1) := by
  have wait : gckWrite s k v = gckWait (gckAccepted s k v) k := by simp [gckWrite_eq, was, en, lo, hi]
  rw [wait, gckWait, regN_gckAccepted, gckSrc_gckWord, flag_gckAccepted_fsyn s k v (by omega)]
  rfl

theorem gckWrite_disables (kept : s.flag (Reg.GCK_CFG k) 16 = false ∨ bitsOf (gckWord v) 11 0 = s.fld (Reg.GCK_CFG k) 11 0)
    (en : v.testBit 16 = false) : gckWrite s k v = gckShow (gckAccepted s k v) k false false := by
  rw [gckWrite_eq]
  obtain h | h := kept <;> simp [h, en]

theorem completes_gckWrite {k : Fin 48} {v : BitVec 32} {t : State} {P : State → Prop} (h : gckWrite s k v.toNat = t) (hP : P t) :
    Completes (.gckCfgWrite k v) s P :=
  ⟨t, (exec_gckCfgWrite k v s).trans (congrArg Host.Outcome.next h), hP⟩

end

/-- An enabled tree whose synthesiser runs starts. -/
theorem execGckStart_runs {s : State} {k : Fin 48} (en : s.flag (Reg.GCK_CFG k) 16 = true)
    (fsyn : s.flag (Reg.FSYN_CTL (gckSrc (s.regN (Reg.GCK_CFG k)))) 1 = true) :
    execGckStart k s = .next (gckShow s k true false) := if_pos ⟨en, fsyn⟩

/-- Settles O35: a write of GCK_CFG only sets REFUSED, or it is accepted and RUNNING and PENDING follow from EN and the synthesiser; a
start shows RUNNING. -/
theorem fabricClocks : Obligations.FabricClocks := by
  refine ⟨fun s k v was en lo hi => ?_, fun s k v was ⟨moved, gap, _, _⟩ => ?_, fun s k v en src => ?_, fun s k v was en => ?_,
    fun s k en fsyn => ?_⟩
  case refine_1 =>
    obtain ⟨running, pending, refused⟩ := flag_gckShow (s := gckAccepted s k v.toNat) (k := k) (run := false)
      (pend := !s.flag (Reg.FSYN_CTL (v.toNat % 32)) 1)
    exact completes_gckWrite (gckWrite_enables was en lo hi) ⟨regN_gckShow.trans (regN_gckAccepted ..), running, pending,
      refused.trans (refused_gckAccepted ..), (sameRegs_gckAccepted s k v.toNat).gckShow (.inr rfl), (onlyRegs_gckAccepted ..).gckShow.sameMem⟩
  case refine_2 => exact completes_gckWrite (gckWrite_refused (.inl ⟨was, (ratio_gckWord gap).trans_ne moved⟩)) rfl
  case refine_3 => exact completes_gckWrite (gckWrite_refused (.inr ⟨en, src⟩)) rfl
  case refine_4 =>
    obtain ⟨running, pending, _⟩ := flag_gckShow (s := gckAccepted s k v.toNat) (k := k) (run := false) (pend := false)
    exact completes_gckWrite (gckWrite_disables (.inl was) en)
      ⟨(regN_gckShow.trans (regN_gckAccepted ..)).trans (gckWord_disabled en), running, pending⟩
  case refine_5 =>
    obtain ⟨running, pending, _⟩ := flag_gckShow (s := s) (k := k) (run := true) (pend := false)
    exact ⟨_, (exec_gckStart k s).trans (execGckStart_runs en fsyn), running, pending, (SameRegs.refl s _).gckShow rfl, (OnlyRegs.refl s).gckShow.eq⟩

end Sys2Proof.Machine
end

section
/-! PROOFS. A statement of 07_fabric_memories_slices_clocks.md: the block memories (R205…R210, R226, R228). -/

namespace Sys2Proof.Machine

/-! Numbers spelt by bits. -/

/-- A number is below the power its bits reach. -/
theorem sum_bits_lt (f : Nat → Bool) : ∀ w, ((List.range w).map (fun i => bit (f i) * 2 ^ i)).sum < 2 ^ w
  | 0 => Nat.one_pos
  | w + 1 => by
    have ih := sum_bits_lt f w
    have last : bit (f w) * 2 ^ w ≤ 2 ^ w := by cases f w <;> simp [bit]
    rw [List.range_succ, List.map_append, List.sum_append, pow_succ]
    simp only [List.map_cons, List.map_nil, List.sum_singleton]
    omega

theorem testBit_sum_bits (f : Nat → Bool) (n : Nat) : ∀ w,
    ((List.range w).map (fun i => bit (f i) * 2 ^ i)).sum.testBit n = (decide (n < w) && f n)
  | 0 => Nat.zero_testBit n
  | w + 1 => by
    rw [List.range_succ, List.map_append, List.sum_append, List.map_singleton, List.sum_singleton, add_comm, mul_comm,
      Nat.testBit_two_pow_mul_add _ (sum_bits_lt f w), testBit_sum_bits f n w]
    obtain lt | rfl | gt := Nat.lt_trichotomy n w
    · simp [lt, Nat.lt_succ_of_lt lt]
    · cases f n <;> simp [bit]
    · have above : (bit (f w)).testBit (n - w) = false := by
        refine Nat.testBit_lt_two_pow (lt_of_le_of_lt ?_ (Nat.one_lt_two_pow (by omega)))
        cases f w <;> simp [bit]
      simp [above, Nat.not_lt_of_gt gt, show ¬n < w + 1 by omega]

/-! The rows of a memory, and its ports (R206). -/

section
variable (s : State) (m : Nat)

theorem pinsN_lt (tiles : List (Nat × Nat)) (n w : Nat) : pinsN s tiles n w < 2 ^ w := sum_bits_lt (fun i => blockPin s tiles (n + i)) w

theorem bmPins_addr_lt (portB : Bool) : (bmPins s m portB).addr < 2 ^ 16 :=
  pinsN_lt s (bmTiles m) (if portB then 99 else 0) 16

/-- A port's word lies in the row of its address, or in row 0. -/
theorem bmWord_row_le (code addr : Nat) : (bmWord code addr).1 ≤ addr / 64 := by
  unfold bmWord; dsimp only
  split
  · exact Nat.div_le_div_right (Nat.div_mul_le_self _ _)
  · split
    · next narrow wide =>
      refine le_of_eq ?_
      rw [Nat.div_div_eq_div_mul, ← pow_add, show code + (3 - (code - 3)) = 6 by omega]
      rfl
    · exact Nat.zero_le _

@[simp] theorem bmWord_row_full (addr : Nat) : (bmWord 6 addr).1 = addr / 64 := Nat.div_one _

theorem bmRow_setBmRow_same (r : Nat) (v : BitVec 72) : bmRow (setBmRow s m r v) m r = v := sget_sput_same _ _ _ _

/-- A row of one memory is no row of another. -/
theorem rows_setBmRow_ne {r : Nat} (v : BitVec 72) (hr : r < 1024) {j : Nat} (hj : j / 1024 ≠ m) :
    sget (fun _ => (0 : BitVec 72)) (setBmRow s m r v).fab.rows j = sget (fun _ => (0 : BitVec 72)) s.fab.rows j :=
  sget_sput_ne _ _ _ (by rintro rfl; omega)

/-- A memory's configuration stands in frames, which its outputs are no part of. -/
theorem bmCfg_setBm (x : BlockMem) (k lo w : Nat) : bmCfg (setBm s m x) k lo w = bmCfg s k lo w := rfl

@[simp] theorem bmOf_setBm_same (x : BlockMem) : bmOf (setBm s m x) m = x := sget_sput_same _ _ _ _

/-! What a port does, by field. -/

variable (portB ecc on : Bool)

@[simp] theorem bmAct_on : (bmAct s m portB ecc on).on = (on && (bmPins s m portB).en) := by cases ecc <;> rfl

@[simp] theorem bmAct_wr : (bmAct s m portB ecc on).wr =
    (Nat.land (bmPins s m portB).we (weMask (bmCfg s m (if portB then 3 else 0) 3)) != 0) := by cases ecc <;> rfl

theorem bmAct_row : (bmAct s m portB ecc on).row = (bmWord (bmCfg s m (if portB then 3 else 0) 3) (bmPins s m portB).addr).1 := by
  cases ecc <;> rfl

theorem bmAct_row_lt : (bmAct s m portB ecc on).row < 1024 := by
  have row := bmWord_row_le (bmCfg s m (if portB then 3 else 0) 3) (bmPins s m portB).addr
  have addr := bmPins_addr_lt s m portB
  rw [bmAct_row]
  omega

/-- With ECC a write takes the whole row, as DIN and its check bits (R209). -/
theorem bmAct_ecc : (bmAct s m portB true on).mask = BitVec.allOnes 72 ∧
    (bmAct s m portB true on).val = rowOf ((bmPins s m portB).din % 2 ^ 64) (secCheck ((bmPins s m portB).din % 2 ^ 64)) := ⟨rfl, rfl⟩

end

/-! A port's store. -/

section
variable {s : State} {m : Nat} {x : BmAct}

theorem bmStore_on (on : x.on = true) (wr : x.wr = true) :
    bmStore s m x = setBmRow s m x.row ((bmRow s m x.row &&& ~~~x.mask) ||| (x.val &&& x.mask)) := if_pos (by rw [on, wr]; rfl)

theorem bmStore_off (off : x.on = false) : bmStore s m x = s := if_neg (by simp [off])
theorem bmStore_read (wr : x.wr = false) : bmStore s m x = s := if_neg (by simp [wr])

theorem bmFlipTake_none (h : s.fab.flip = none) : bmFlipTake s m x = (s, x) := by simp [bmFlipTake, h]

end

/-! What a port shows (R207, R209). -/

/-- The registers that count a Paddock's corrected and uncorrectable reads. -/
def eccCounts (m a : Nat) : Prop := a = Reg.FAB_SBE (m / 64) ∨ a = Reg.FAB_DBE (m / 64)

/-- A port of memory `m` has shown its word: beside the memory's outputs only the free counter and, where a read under ECC
`counts`, the two counts may have changed. -/
structure BmShown (s : State) (m : Nat) (counts : Bool) (t : State) : Prop where
  rows : t.fab.rows = s.fab.rows
  mem  : t.mem = s.mem
  ecc  : SameRegs s t (eccCounts m)
  regs : counts = false → t.regs = s.regs

namespace BmShown

variable {s t : State} {m : Nat} {c : Bool}

theorem refl (s : State) (m : Nat) (c : Bool) : BmShown s m c s := ⟨rfl, rfl, fun _ _ => rfl, fun _ => rfl⟩

theorem setBm (h : BmShown s m c t) (x : BlockMem) : BmShown s m c (setBm t m x) := ⟨h.rows, h.mem, h.ecc, h.regs⟩
theorem of_setBm {k : Nat} {x : BlockMem} (h : BmShown (Machine.setBm s k x) m c t) : BmShown s m c t := ⟨h.rows, h.mem, h.ecc, h.regs⟩
theorem took (h : BmShown s m c t) : BmShown s m c t.took := ⟨h.rows, h.mem, h.ecc, h.regs⟩

theorem countIf (h : BmShown s m true t) (b : Bool) {a : Nat} (ha : eccCounts m a) :
    BmShown s m true (if b then t.count a else t) := by
  cases b
  · exact h
  · exact ⟨(congrArg _ (State.count_fab t a)).trans h.rows, (State.count_mem t a).trans h.mem, SameRegs.count h.ecc ha, nofun⟩

end BmShown

section
variable (s : State) (m : Nat) (portB ecc : Bool) (x : BmAct) (old new : BitVec 72)

theorem bmShown_bmShow : BmShown s m (ecc && !x.wr) (bmShow s m portB ecc x old new) := by
  have same {c : Bool} := BmShown.refl s m c
  unfold bmShow
  extract_lets bm before osen osclr pt put code view
  have put_shown {u : State} {c : Bool} (h : BmShown s m c u) (q : BmPort) : BmShown s m c (put u q) := h.setBm _
  clear_value put code
  split
  · exact put_shown same _
  split
  · exact put_shown same.took _
  split
  · split <;> exact put_shown same _
  · next read =>
    split
    · next he =>
      rw [he, Bool.eq_false_of_not_eq_true read]
      exact put_shown ((same.countIf _ (.inl rfl)).countIf _ (.inr rfl)) _
    · exact put_shown same _

variable {s m ecc x old new}

/-- A read on port A shows the word as it was, or under ECC the data as decoded. -/
theorem arr_bmShow_read (on : x.on = true) (wr : x.wr = false) (code : bmCfg s m 0 3 ≠ 7) :
    (bmOf (bmShow s m false ecc x old new) m).a.arr =
      BitVec.ofNat 72 (if ecc then (secDecode (rowData old) (rowCheck old)).data else pick old x.word) := by
  cases ecc <;> simp [bmShow, on, wr, code]

end

/-! An access of port A alone, no flip armed. -/

/-- ECC acts: the ECC bit is set and every enabled port is of width code 6 (R209). -/
def bmEcc (s : State) (m : Nat) : Bool :=
  bmCfg s m 12 1 == 1 && (!(bmPins s m false).en || bmCfg s m 0 3 == 6) && (!(bmPins s m true).en || bmCfg s m 3 3 == 6)

/-- The state after an access of port A: the store, COLLIDE low, and what the port shows. -/
def bmAccessed (s : State) (m : Nat) (ecc : Bool) : State :=
  let x := bmAct s m false ecc true
  let u := bmStore s m x
  bmShow (setBm u m { bmOf u m with collide := false }) m false ecc x (bmRow s m x.row) (bmRow u m x.row)

section
variable {s : State} {m : Fin 9216}

theorem execBmPortAccess_gsr {a b : Bool} (gsr : padGsr s (m.val / 64) = true) : execBmPortAccess m a b s = .next s := if_pos gsr

theorem execBmPortAccess_portA (gsr : padGsr s (m.val / 64) = false) (bist : s.out.bist ≠ some (256 + m.val))
    (clock : tapRuns s (m.val / 64) (bmTap s m false) = true) (flip : s.fab.flip = none) :
    execBmPortAccess m true false s = .next (bmAccessed s m (bmEcc s m)) := by
  have portB : (bmAct s m true (bmEcc s m) false).on = false := by rw [bmAct_on, Bool.false_and]
  unfold execBmPortAccess
  simp only [gsr, bist, clock, Bool.false_and, Bool.and_self, Bool.false_eq_true, if_false, if_true, bmFlipTake_none flip]
  rw [show (bmCfg s m 12 1 == 1 && (!(bmPins s m false).en || bmCfg s m 0 3 == 6) && (!(bmPins s m true).en || bmCfg s m 3 3 == 6)) = bmEcc s m from rfl]
  simp only [portB, bmStore_off portB, Bool.and_false, Bool.false_and, Bool.false_eq_true, if_false]
  rfl

end

section
variable {s : State} {m : Nat} {ecc : Bool} (en : (bmPins s m false).en = true)

theorem bmShown_bmAccessed (s : State) (m : Nat) (ecc : Bool) :
    BmShown (bmStore s m (bmAct s m false ecc true)) m (ecc && !(bmAct s m false ecc true).wr) (bmAccessed s m ecc) :=
  (bmShown_bmShow _ m false ecc _ _ _).of_setBm

include en in
/-- An enabled write stores the enabled bits in its row and changes no row of another memory, no register and no byte of memory. -/
theorem bmAccessed_write (wr : Nat.land (bmPins s m false).we (weMask (bmCfg s m 0 3)) ≠ 0) :
    let x := bmAct s m false ecc true
    let t := bmAccessed s m ecc
    bmRow t m x.row = ((bmRow s m x.row &&& ~~~x.mask) ||| (x.val &&& x.mask)) ∧ t.regs = s.regs ∧ t.mem = s.mem ∧
      ∀ r, r / 1024 ≠ m → sget (fun _ => (0 : BitVec 72)) t.fab.rows r = sget (fun _ => (0 : BitVec 72)) s.fab.rows r := by
  intro x t
  have on : x.on = true := by rw [bmAct_on, en]; rfl
  have writes : x.wr = true := by rw [bmAct_wr]; exact bne_iff_ne.mpr wr
  obtain ⟨rows, mem, -, regs⟩ := bmShown_bmAccessed s m ecc
  rw [bmStore_on on writes] at rows mem regs
  refine ⟨?_, regs ?_, mem, fun r hr => ?_⟩
  · exact (congrArg (sget _ · _) rows).trans (bmRow_setBmRow_same s m _ _)
  · rw [show (bmAct s m false ecc true).wr = true from writes, Bool.not_true, Bool.and_false]
  · exact (congrArg (sget _ · _) rows).trans (rows_setBmRow_ne s m _ (bmAct_row_lt s m false ecc true) hr)

include en in
/-- An enabled read shows its word and changes no row. -/
theorem bmAccessed_read (code : bmCfg s m 0 3 ≠ 7) (rd : Nat.land (bmPins s m false).we (weMask (bmCfg s m 0 3)) = 0) :
    let x := bmAct s m false ecc true
    let old := bmRow s m x.row
    let t := bmAccessed s m ecc
    (bmOf t m).a.arr = BitVec.ofNat 72 (if ecc then (secDecode (rowData old) (rowCheck old)).data else pick old x.word) ∧
      BmShown s m ecc t := by
  intro x old t
  have on : x.on = true := by rw [bmAct_on, en]; rfl
  have reads : x.wr = false := by rw [bmAct_wr, bne_eq_false_iff_eq]; exact rd
  have shown := bmShown_bmAccessed s m ecc
  rw [bmStore_read reads, reads, Bool.not_false, Bool.and_true] at shown
  refine ⟨?_, shown⟩
  have keep : bmStore s m x = s := bmStore_read reads
  show (bmOf (bmShow (setBm (bmStore s m x) m _) m false ecc x _ _) m).a.arr = _
  rw [keep]
  exact arr_bmShow_read on reads ((bmCfg_setBm s m _ m 0 3).trans_ne code)

end

theorem bmEcc_off {s : State} {m : Nat} (h : bmCfg s m 12 1 ≠ 1) : bmEcc s m = false := by simp [bmEcc, h]

theorem bmEcc_portA {s : State} {m : Nat} (h : bmCfg s m 12 1 = 1) (code : bmCfg s m 0 3 = 6) (enB : (bmPins s m true).en = false) :
    bmEcc s m = true := by simp [bmEcc, h, code, enB]

theorem completes_portA {s : State} {m : Fin 9216} {ecc : Bool} {P : State → Prop} (gsr : padGsr s (m.val / 64) = false)
    (bist : s.out.bist ≠ some (256 + m.val)) (clock : tapRuns s (m.val / 64) (bmTap s m false) = true) (flip : s.fab.flip = none)
    (acts : bmEcc s m = ecc) (hP : P (bmAccessed s m ecc)) : Completes (.bmPortAccess m true false) s P :=
  ⟨_, (exec_bmPortAccess m true false s).trans (execBmPortAccess_portA gsr bist clock flip), acts.symm ▸ hP⟩

/-- A row of width code 6 whose every bit is written holds what was written. -/
theorem merge_allOnes (old val : BitVec 72) : (old &&& ~~~(BitVec.allOnes 72)) ||| (val &&& BitVec.allOnes 72) = val := by
  rw [BitVec.not_allOnes, BitVec.and_zero, BitVec.and_allOnes, BitVec.zero_or]

/-! BM_FLIP_2 (R210, Table BMC-7). -/

section
variable {s : State} {v : BitVec 32}

theorem execBmFlipArm_refused (mode : modeIn s testModes = false) : execBmFlipArm v s = .next (s.raise blkCfg 31) :=
  if_pos (by rw [mode]; rfl)

/-- One flip armed for a memory. -/
def flipArmed (s : State) (v : Nat) : State :=
  (s.setFab { s.fab with flip := some (s.fld Reg.BM_FLIP_SEL 13 0, rowOf (s.regN Reg.BM_FLIP_0 + s.regN Reg.BM_FLIP_1 * 2 ^ 32) (v % 256)) }).setRegN
    Reg.BM_FLIP_2 (v % 256 + 2 ^ 31)

/-- No flip armed, DONE left. -/
def flipDisarmed (s : State) (v : Nat) : State :=
  (s.setFab { s.fab with flip := none }).setRegN Reg.BM_FLIP_2 (v % 256 + bit (s.flag Reg.BM_FLIP_2 30) * 2 ^ 30)

theorem sameRegs_flipArmed (s : State) (v : Nat) : SameRegs s (flipArmed s v) (· = Reg.BM_FLIP_2) :=
  SameRegs.setRegN (t := s.setFab _) (w := (· = Reg.BM_FLIP_2)) (fun _ _ => rfl) rfl _

theorem sameRegs_flipDisarmed (s : State) (v : Nat) : SameRegs s (flipDisarmed s v) (· = Reg.BM_FLIP_2) :=
  SameRegs.setRegN (t := s.setFab _) (w := (· = Reg.BM_FLIP_2)) (fun _ _ => rfl) rfl _

theorem execBmFlipArm_arms (mode : modeIn s testModes = true) (arm : v.getLsbD 31 = true) (named : s.fld Reg.BM_FLIP_SEL 13 0 < 9216)
    (full : padState s (s.fld Reg.BM_FLIP_SEL 13 0 / 64) ≠ 2) : execBmFlipArm v s = .next (flipArmed s v.toNat) := by
  have armed : v.toNat.testBit 31 = true := arm
  unfold execBmFlipArm
  rw [mode]
  exact (if_pos armed).trans (if_pos ⟨named, full⟩)

theorem execBmFlipArm_disarms (mode : modeIn s testModes = true) (arm : v.getLsbD 31 = false) :
    execBmFlipArm v s = .next (flipDisarmed s v.toNat) := by
  have disarmed : ¬v.toNat.testBit 31 = true := ne_true_of_eq_false arm
  unfold execBmFlipArm
  rw [mode]
  exact if_neg disarmed

/-- A word of BM_FLIP_2: the check mask, and nothing from bit 31 up. -/
theorem flipWord (c : Nat) (done : Bool) : bitsOf (c % 256 + bit done * 2 ^ 30) 7 0 = c % 256 ∧ c % 256 + bit done * 2 ^ 30 < 2 ^ 31 := by
  cases done <;> simp only [bitsOf, bit, if_true, Bool.false_eq_true, if_false] <;> omega

end

/-- Settles O36: an enabled write of port A stores its bits in its row, a read shows its word and changes no row, no access acts under GSR,
and BM_FLIP_2 arms or disarms the flip in its modes alone. -/
theorem fabricBlockMemory : Obligations.FabricBlockMemory := by
  refine ⟨fun s m gsr bist clock flip en ecc _ wr => ?_, fun s m gsr bist clock flip en ecc code rd => ?_,
    fun s m gsr bist clock flip en ecc code enB wr => ?_, fun s m gsr bist clock flip en ecc code enB rd => ?_, fun s m a b gsr => ?_,
    fun s v mode => ?_, fun s v mode arm named full => ?_, fun s v mode arm => ?_⟩
  case refine_1 => exact completes_portA gsr bist clock flip (bmEcc_off ecc) (bmAccessed_write en wr)
  case refine_2 =>
    obtain ⟨word, shown⟩ := bmAccessed_read (ecc := false) en code rd
    rw [if_neg Bool.false_ne_true] at word
    exact completes_portA gsr bist clock flip (bmEcc_off ecc) ⟨word, shown.rows, shown.regs rfl, shown.mem⟩
  case refine_3 =>
    have enables : Nat.land (bmPins s m false).we (weMask (bmCfg s m 0 3)) ≠ 0 := by rw [code]; exact wr
    obtain ⟨row, regs, mem, rows⟩ := bmAccessed_write (ecc := true) en enables
    obtain ⟨mask, val⟩ := bmAct_ecc s m false true
    rw [mask, val, merge_allOnes, bmAct_row, if_neg Bool.false_ne_true, code, bmWord_row_full] at row
    exact completes_portA gsr bist clock flip (bmEcc_portA ecc code enB) ⟨row, regs, mem, rows⟩
  case refine_4 =>
    have enables : Nat.land (bmPins s m false).we (weMask (bmCfg s m 0 3)) = 0 := by rw [code]; exact rd
    obtain ⟨word, shown⟩ := bmAccessed_read (ecc := true) en (by rw [code]; decide) enables
    rw [bmAct_row, if_neg Bool.false_ne_true, code, bmWord_row_full, if_pos rfl] at word
    exact completes_portA gsr bist clock flip (bmEcc_portA ecc code enB) ⟨word, shown.rows, shown.ecc, sameMem_of_mem shown.mem⟩
  case refine_5 => exact ⟨s, (exec_bmPortAccess m a b s).trans (execBmPortAccess_gsr gsr), rfl⟩
  case refine_6 => exact ⟨_, (exec_bmFlipArm v s).trans (execBmFlipArm_refused mode), rfl⟩
  case refine_7 =>
    refine ⟨_, (exec_bmFlipArm v s).trans (execBmFlipArm_arms mode arm named full), congrArg Fabric.flip (State.setRegN_fab _ _ _), ?_,
      sameRegs_flipArmed s v.toNat, sameMem_of_mem (State.setRegN_mem _ _ _)⟩
    rw [flipArmed, regN_setRegN, if_pos rfl, Nat.mod_eq_of_lt (by omega)]
  case refine_8 =>
    obtain ⟨mask, bound⟩ := flipWord v.toNat (s.flag Reg.BM_FLIP_2 30)
    refine ⟨_, (exec_bmFlipArm v s).trans (execBmFlipArm_disarms mode arm), congrArg Fabric.flip (State.setRegN_fab _ _ _), ?_, ?_,
      sameRegs_flipDisarmed s v.toNat⟩
    · rw [State.fld, flipDisarmed, regN_setRegN, if_pos rfl, Nat.mod_eq_of_lt (by omega), mask]
    · rw [flipDisarmed, flag_setRegN _ _ _ (by omega), Nat.testBit_lt_two_pow bound]

end Sys2Proof.Machine
end

section
/-! PROOFS. A statement of 07_fabric_memories_slices_clocks.md: the arithmetic slices (R212…R217, R226). -/

namespace Sys2Proof.Machine

/-! Fields of a configuration word. -/

theorem testBit_cfgBits (s : State) (t j o w n : Nat) : (cfgBits s t j o w).testBit n = (decide (n < w) && cfgBit s t j (o + n)) :=
  testBit_sum_bits (fun i => cfgBit s t j (o + i)) n w

/-- One bit of a wider field, read alone. -/
theorem cfgBits_one {s : State} {t j o w n : Nat} (h : n < w) : cfgBits s t j (o + n) 1 = bit ((cfgBits s t j o w).testBit n) := by
  rw [testBit_cfgBits, decide_eq_true h, Bool.true_and]
  simp [cfgBits]

/-- A bit of the eight that hold MSRC, STAGES, RM and FINAL. -/
theorem sliceCfg_one {s : State} {n b : Nat} (h : b < 8) : sliceCfg s n b 1 = bit ((sliceCfg s n 0 8).testBit b) := cfgBits_one h

/-! One slice written. -/

/-- Slice `n` holds `v`. -/
def State.setSlice (s : State) (n : Nat) (v : Slice) : State :=
  s.setFab { s.fab with slices := sput (fun _ => {}) s.fab.slices n v }

theorem sliceOf_setSlice_same (s : State) (n : Nat) (v : Slice) : sliceOf (s.setSlice n v) n = v := sget_sput_same _ _ _ _

theorem sliceOf_setSlice_ne (s : State) {n k : Nat} (v : Slice) (h : k ≠ n) : sliceOf (s.setSlice n v) k = sliceOf s k :=
  sget_sput_ne _ _ _ h.symm

theorem eq_setSlice (s : State) (n : Nat) (v : Slice) : s.setSlice n v = { s with fab := (s.setSlice n v).fab } := rfl

/-! A count that advances on a condition touches neither memory nor the fabric. -/

theorem mem_countIf (s : State) (c : Bool) (a : Nat) : (if c then s.count a else s).mem = s.mem := by
  cases c
  · rfl
  · exact State.count_mem s a

theorem fab_countIf (s : State) (c : Bool) (a : Nat) : (if c then s.count a else s).fab = s.fab := by
  cases c
  · rfl
  · exact State.count_fab s a

/-! The edge of a slice. -/

section
variable {s : State} {n : Fin 13824} {south : BitVec 24}

theorem execSliceClockEdge_idle (h : padGsr s (n.val / 96) = true ∨ tapRuns s (n.val / 96) (sliceCfg s n 21 5) = false) :
    execSliceClockEdge n south s = .next s := by
  refine if_pos ?_
  obtain h | h := h <;> simp only [h, Bool.not_false, Bool.or_true, Bool.true_or]

/-- What the inputs of a slice carry where MSRC is MA and S_IN is clear. -/
def sliceInputs (s : State) (n : Nat) : SliceIn where
  a := BitVec.ofNat 24 (slicePins s n 0 24)
  mq := BitVec.ofNat 24 (slicePins s n 24 24)
  coef := BitVec.ofNat 20 (slicePins s n 48 20)
  w := BitVec.ofNat 60 (slicePins s n 68 60)
  fn := BitVec.ofNat 6 (slicePins s n 128 6)

/-- The exact sum an edge forms from what S_MUL holds (R214, R216). -/
def sliceSum (s : State) (n : Nat) : Int :=
  sliceBase (sliceOf s n).sMul.fn (sliceOf s n).acc (if n % 16 = 15 then 0 else (sliceOf s (n + 1)).acc) (sliceCfg s n 5 2) +
    sliceAddend (sliceOf s n).sMul

/-- A slice after an edge with CE, with S_MUL its one stage (R217). -/
def sliceStepped (s : State) (n : Nat) : Slice where
  sIn := sliceInputs s n
  sPre := sliceT (sliceInputs s n)
  sMul := sliceM (sliceT (sliceInputs s n))
  acc := BitVec.ofInt 60 (sliceSum s n)
  rnd := (sliceRnd s n (BitVec.ofInt 60 (sliceSum s n))).1
  ovf := satInt 60 (sliceSum s n) != sliceSum s n
  clamp := (sliceRnd s n (BitVec.ofInt 60 (sliceSum s n))).2 || (sliceOf s n).sMul.sat

variable (gsr : padGsr s (n.val / 96) = false) (clock : tapRuns s (n.val / 96) (sliceCfg s n 21 5) = true)
include gsr clock

theorem slice_acts : ¬(padGsr s (n.val / 96) || !tapRuns s (n.val / 96) (sliceCfg s n 21 5)) = true := by
  rw [gsr, clock]
  decide

theorem execSliceClockEdge_clr (clr : slicePins s n 135 1 = 1) : execSliceClockEdge n south s = .next (s.setSlice n {}) :=
  (if_neg (slice_acts gsr clock)).trans (if_pos clr)

theorem execSliceClockEdge_hold (clr : slicePins s n 135 1 ≠ 1) (ce : slicePins s n 134 1 ≠ 1) :
    execSliceClockEdge n south s = .next (s.setSlice n { sliceOf s n with ovf := false, clamp := false }) :=
  (if_neg (slice_acts gsr clock)).trans ((if_neg clr).trans (if_pos ce))

theorem execSliceClockEdge_sMul (clr : slicePins s n 135 1 = 0) (ce : slicePins s n 134 1 = 1) (stages : sliceCfg s n 0 8 = 8) :
    execSliceClockEdge n south s = .next ((if (sliceStepped s n).ovf then s.count (Reg.FAB_OVF (n.val / 96)) else s).setSlice n (sliceStepped s n)) := by
  have bits (b : Nat) (h : b < 8) : sliceCfg s n b 1 = bit (Nat.testBit 8 b) := by rw [sliceCfg_one h, stages]
  have msrc : sliceCfg s n 0 1 = 0 := bits 0 (by decide)
  have sIn : sliceCfg s n 1 1 = 0 := bits 1 (by decide)
  have sPre : sliceCfg s n 2 1 = 0 := bits 2 (by decide)
  have sMul : sliceCfg s n 3 1 = 1 := bits 3 (by decide)
  have sOut : sliceCfg s n 4 1 = 0 := bits 4 (by decide)
  unfold execSliceClockEdge
  simp only [gsr, clock, clr, ce, msrc, sIn, sPre, sMul, sOut, Bool.not_true, Bool.or_self, Bool.false_eq_true, if_false, ne_eq, not_true_eq_false,
    zero_ne_one, if_true, beq_iff_eq]
  rfl

end

/-- Settles O37: an edge that acts writes one slice, with zeros under CLR, with the pulses ended without CE, and else with the stages and
the sum; any other edge leaves the state. -/
theorem fabricSlices : Obligations.FabricSlices := by
  refine ⟨fun s n south gsr clock clr => ?_, fun s n south gsr clock clr ce => ?_, fun s n south gsr clock clr ce stages => ?_,
    fun s n south idle => ?_⟩
  case refine_1 =>
    exact ⟨_, (exec_sliceClockEdge n south s).trans (execSliceClockEdge_clr gsr clock clr), sliceOf_setSlice_same .., eq_setSlice ..,
      fun _ hk => sliceOf_setSlice_ne s _ hk⟩
  case refine_2 =>
    exact ⟨_, (exec_sliceClockEdge n south s).trans (execSliceClockEdge_hold gsr clock clr ce), sliceOf_setSlice_same .., eq_setSlice ..,
      fun _ hk => sliceOf_setSlice_ne s _ hk⟩
  case refine_3 =>
    refine ⟨_, (exec_sliceClockEdge n south s).trans (execSliceClockEdge_sMul gsr clock clr ce stages), ?_, ?_, ?_,
      sameMem_of_mem ((State.setFab_mem _ _).trans (mem_countIf ..)), fun k hk => ?_⟩
    · rw [sliceOf_setSlice_same]; rfl
    · rw [sliceOf_setSlice_same]; rfl
    · rw [sliceOf_setSlice_same]; rfl
    · rw [sliceOf_setSlice_ne _ _ hk, sliceOf, fab_countIf, sliceOf]
  case refine_4 => exact ⟨s, (exec_sliceClockEdge n south s).trans (execSliceClockEdge_idle idle), rfl⟩

end Sys2Proof.Machine
end

section
/-! SUPPORT. The loader: what CFG_CMD comes to, a load begun, and a load that ends with an error code (R240, R242, R243, R245). -/

namespace Sys2Proof.Machine

/-! The phase of the loader. -/

theorem onlyRegs_setPhase (s : State) (n : Nat) : OnlyRegs s (setPhase s n) := ((OnlyRegs.refl s).setFld _ _ _ _).setFlag _ _ _

theorem sameRegs_setPhase (s : State) (n : Nat) : SameRegs s (setPhase s n) (· = Reg.CFG_STAT) :=
  ((SameRegs.refl s (· = Reg.CFG_STAT)).setRegN rfl _).setFlag rfl _ _

theorem ldrPhase_setPhase (s : State) {n : Nat} (h : n < 8) : ldrPhase (setPhase s n) = n :=
  (fld_setFld_apart _ _ 3 3 _ 2 0 (by decide) (by decide) (by decide)).trans
    ((fld_setFld _ _ 2 0 n (by decide) (by decide)).trans (Nat.mod_eq_of_lt h))

theorem busy_setPhase (s : State) (n : Nat) : (setPhase s n).flag Reg.CFG_STAT 3 = (n != 0) := flag_setFlag _ _ _ _ (by decide)

theorem code_setPhase (s : State) (n : Nat) : (setPhase s n).fld Reg.CFG_STAT 15 8 = s.fld Reg.CFG_STAT 15 8 :=
  (fld_setFld_apart _ _ 3 3 _ 15 8 (by decide) (by decide) (by decide)).trans
    (fld_setFld_apart _ _ 2 0 n 15 8 (by decide) (by decide) (by decide))

theorem ldrPhase_of_reg {s t : State} (h : t.reg Reg.CFG_STAT = s.reg Reg.CFG_STAT) : ldrPhase t = ldrPhase s := fld_of_reg 2 0 h

/-- A change of the loader and then of registers leaves the rest of the state. -/
theorem OnlyRegs.eq_setLdr {s t : State} {l : Loader} (h : OnlyRegs (s.setLdr l) t) : t = { s with regs := t.regs, ldr := t.ldr } := by
  obtain ⟨r, rfl⟩ := h; rfl

/-! A load begun (R242). -/

/-- The loader's own state as a load begins. -/
def ldrBegun (s : State) (kind : Nat) (strap alt : Bool) (tgts : List Nat) : Loader :=
  { s.ldr with kind := kind, strap := strap, alt := alt, altDue := false, tgts := tgts, stream := none, pos := 0, step := 0, start := s.tim.cks }

section
variable (s : State) (kind : Nat) (strap alt : Bool) (tgts : List Nat)

theorem onlyRegs_startLoad : OnlyRegs (s.setLdr (ldrBegun s kind strap alt tgts)) (startLoad s kind strap alt tgts) := onlyRegs_setPhase _ _

theorem ldrPhase_startLoad : ldrPhase (startLoad s kind strap alt tgts) = if kind = 3 then 2 else 1 :=
  ldrPhase_setPhase _ (by split <;> decide)

theorem busy_startLoad : (startLoad s kind strap alt tgts).flag Reg.CFG_STAT 3 = true :=
  (busy_setPhase _ _).trans (by split <;> rfl)

theorem sameRegs_startLoad : SameRegs s (startLoad s kind strap alt tgts) (· = Reg.CFG_STAT) := sameRegs_setPhase (s.setLdr _) _

theorem sameMem_startLoad : SameMem s (startLoad s kind strap alt tgts) := (onlyRegs_startLoad s kind strap alt tgts).sameMem

end

/-! A write of CFG_CMD (R242). -/

/-- The modes a command of CFG_CMD is accepted in. -/
def cmdModes (full : Bool) : Nat := if full then fullModes else partModes

/-- What CFG_TGT marks. -/
def marked (s : State) : List Nat := (List.range 144).filter (fun p => s.flag (Reg.CFG_TGT (p / 32)) (p % 32))

section
variable {s : State} {v : BitVec 32}

theorem cfgCmd_abort (h : v.getLsbD 2 = true) : cfgCmd s v.toNat = loadAbort s := if_pos ((BitVec.testBit_toNat v).trans h)

section
variable {full part empty : Bool} (h0 : v.getLsbD 0 = full) (h1 : v.getLsbD 1 = part) (h2 : v.getLsbD 2 = false) (h3 : v.getLsbD 3 = empty)
  (one : bit full + bit part + bit empty = 1)
include h0 h1 h2 h3 one

/-- One command named: it begins, or is turned away with one event. -/
theorem cfgCmd_one : cfgCmd s v.toNat =
    if extestOn s = false ∧ ldrPhase s = 0 ∧ modeIn s (cmdModes full) = true then
      startLoad s (if full then 1 else if part then 2 else 3) false false (if empty then marked s else [])
    else s.raise blkCfg 6 := by
  unfold cfgCmd
  simp only [BitVec.testBit_toNat, h0, h1, h2, h3, one, Bool.false_eq_true, if_false, one_ne_zero, beq_self_eq_true, Bool.true_and]
  by_cases ok : extestOn s = false ∧ ldrPhase s = 0 ∧ modeIn s (cmdModes full) = true
  case pos =>
    obtain ⟨ext, idle, mode⟩ := ok
    unfold cmdModes at mode
    simp [ext, idle, mode, cmdModes, marked, paddocks]
  case neg =>
    rw [if_neg ok, if_pos]
    unfold cmdModes at ok
    simpa [or_iff_not_imp_left, or_assoc] using ok

theorem cfgCmd_begins (ext : extestOn s = false) (idle : ldrPhase s = 0) (mode : modeIn s (cmdModes full) = true) : cfgCmd s v.toNat =
    startLoad s (if full then 1 else if part then 2 else 3) false false (if empty then marked s else []) :=
  (cfgCmd_one h0 h1 h2 h3 one).trans (if_pos ⟨ext, idle, mode⟩)

theorem cfgCmd_refused (h : extestOn s = true ∨ ldrPhase s ≠ 0 ∨ modeIn s (cmdModes full) = false) : cfgCmd s v.toNat = s.raise blkCfg 6 :=
  (cfgCmd_one h0 h1 h2 h3 one).trans <| if_neg fun ⟨ext, idle, mode⟩ => by
    obtain h | h | h := h
    · exact Bool.false_ne_true (ext.symm.trans h)
    · exact h idle
    · exact Bool.false_ne_true (h.symm.trans mode)

end

/-! ABORT (R245). -/

theorem loadAbort_still (h : ldrPhase s = 0 ∨ ldrPhase s = 5) : loadAbort s = s := if_pos h

theorem loadAbort_empty (h : ¬(ldrPhase s = 0 ∨ ldrPhase s = 5)) (kind : s.ldr.kind = 3) :
    loadAbort s = setPhase (s.setLdr { s.ldr with kind := 0 }) 0 := (if_neg h).trans (if_pos kind)

theorem loadAbort_load (h : ¬(ldrPhase s = 0 ∨ ldrPhase s = 5)) (kind : s.ldr.kind ≠ 3) : loadAbort s = loadFail s 0x12 none :=
  (if_neg h).trans (if_neg kind)

end

/-! The end of a load with an error code (R243, R245). -/

/-- CFG_ERR_AT written: the offset named, or a value the spec leaves open. -/
def State.putErrAt (s : State) : Option Nat → State
  | some a => s.setRegN Reg.CFG_ERR_AT a
  | none => s.took.setRegN Reg.CFG_ERR_AT s.free

/-- CFG_STAT of a failed load: its code, and neither DONE nor BUSY. -/
def failStat (s : State) (code : Nat) (at_ : Option Nat) : State :=
  setPhase (((s.putErrAt at_).setFld Reg.CFG_STAT 15 8 code).setFlag Reg.CFG_STAT 4 false) 0

/-- The failure counted and raised. -/
def failCounted (s : State) (code : Nat) : State := (s.count (Reg.CFG_ERR_CNT code)).raise blkCfg 1

/-- The failure reported, with the load's duration. -/
def failReport (s : State) (code : Nat) (at_ : Option Nat) : State :=
  (failCounted (failStat s code at_) code).setRegN Reg.CFG_LAST_US (loadUs (failStat s code at_))

/-- The loader idle after a failure. -/
def State.loadEnded (s : State) (due : Bool) : State := s.setLdr { s.ldr with kind := 0, stream := none, step := 0, altDue := due }

/-- A Paddock left EMPTY by a failed PARTIAL load. -/
def padEmptied (s : State) (p : Nat) : State := (s.setFld (Reg.CFG_PAD_STAT p) 1 0 2).raise blkCfg 4

/-- The targets of a failed PARTIAL load, cleared and then EMPTY. -/
def padsEmptied (s : State) : State := let s := s.ldr.tgts.foldl clearPad s; s.ldr.tgts.foldl padEmptied s

/-- What a failure does to the fabric: in pass two a FULL load leaves it BLANK, a PARTIAL load its targets EMPTY. -/
def failEffect (s : State) (late full : Bool) : State :=
  if late && full then roleSettle (((takePads s allPads true 0).raise blkCfg 3).moveMode mBlank) else if late then padsEmptied s else s

/-- Whether the alternate image follows a failure reported in s: of a strap load's primary image, but not of an ABORT before pass two. -/
def altFollows (s : State) (code : Nat) (late : Bool) : Bool := s.ldr.strap && !s.ldr.alt && s.flag Reg.CFG_CTL 1 && (late || code != 0x12)

section
variable {s t u : State} {code p : Nat} {at_ : Option Nat}

/-- A failure is its report, then its effect on the fabric, then the loader idle. -/
theorem loadFail_eq : loadFail s code at_ = (failEffect (failReport s code at_) (decide (3 ≤ ldrPhase s)) (s.ldr.kind == 1)).loadEnded
    (altFollows (failEffect (failReport s code at_) (decide (3 ≤ ldrPhase s)) (s.ldr.kind == 1)) code (decide (3 ≤ ldrPhase s))) := by
  cases at_
  case none => rfl
  case some => rfl

theorem loadFail_early (h : ldrPhase s < 3) : ∃ due, loadFail s code at_ = (failReport s code at_).loadEnded due := by
  have e := loadFail_eq (s := s) (code := code) (at_ := at_)
  rw [decide_eq_false (Nat.not_le.mpr h)] at e
  exact ⟨_, e⟩

theorem loadFail_part (h : 3 ≤ ldrPhase s) (kind : s.ldr.kind ≠ 1) :
    ∃ due, loadFail s code at_ = (padsEmptied (failReport s code at_)).loadEnded due := by
  have e := loadFail_eq (s := s) (code := code) (at_ := at_)
  rw [decide_eq_true h, beq_eq_false_iff_ne.mpr kind] at e
  exact ⟨_, e⟩

/-! What the report shows. -/

/-- An error code shown: the load over, its event raised, its count at n. -/
structure FailShown (code n : Nat) (t : State) : Prop where
  errCode : t.fld Reg.CFG_STAT 15 8 = code
  phase   : ldrPhase t = 0
  busy    : t.flag Reg.CFG_STAT 3 = false
  raised  : Raised t blkCfg 1
  count   : t.regN (Reg.CFG_ERR_CNT code) = n

/-- It stands while CFG_STAT, the counter and the event do. -/
theorem FailShown.step {n : Nat} (h : FailShown code n t) (stat : u.reg Reg.CFG_STAT = t.reg Reg.CFG_STAT)
    (count : u.reg (Reg.CFG_ERR_CNT code) = t.reg (Reg.CFG_ERR_CNT code)) (raised : Raised t blkCfg 1 → Raised u blkCfg 1) :
    FailShown code n u where
  errCode := (fld_of_reg 15 8 stat).trans h.errCode
  phase := (ldrPhase_of_reg stat).trans h.phase
  busy := (flag_of_reg 3 stat).trans h.busy
  raised := raised h.raised
  count := (regN_of_reg count).trans h.count

theorem errCnt_range (h : code < 19) : Reg.CFG_LAST_US < Reg.CFG_ERR_CNT code ∧ Reg.CFG_ERR_CNT code < evtStatus blkCfg := by
  unfold Reg.CFG_LAST_US Reg.CFG_ERR_CNT evtStatus blockBase ctrlBase blkCfg; omega

theorem padStat_range (h : p < 144) : Reg.CFG_LAST_US < Reg.CFG_PAD_STAT p ∧ Reg.CFG_PAD_STAT p < Reg.CFG_ERR_CNT 0 := by
  unfold Reg.CFG_LAST_US Reg.CFG_PAD_STAT Reg.CFG_ERR_CNT; omega

theorem errCnt_le (code : Nat) : Reg.CFG_ERR_CNT 0 ≤ Reg.CFG_ERR_CNT code := by unfold Reg.CFG_ERR_CNT; omega

/-- The block's registers below its events read as before one. -/
theorem reg_raise_cfg (s : State) (n : Nat) {a : Nat} (h : a < evtStatus blkCfg) : (s.raise blkCfg n).reg a = s.reg a :=
  reg_raise s blkCfg n a (Nat.ne_of_lt h) (by unfold evtStatus evtCount at *; omega)

theorem reg_putErrAt (s : State) (at_ : Option Nat) {a : Nat} (h : a ≠ Reg.CFG_ERR_AT) : (s.putErrAt at_).reg a = s.reg a := by
  cases at_
  case none => exact reg_setRegN_ne s.took _ h.symm
  case some => exact reg_setRegN_ne s _ h.symm

theorem reg_failStat (s : State) (code : Nat) (at_ : Option Nat) {a : Nat} (h : a ≠ Reg.CFG_ERR_AT) (h' : a ≠ Reg.CFG_STAT) :
    (failStat s code at_).reg a = s.reg a := by
  unfold failStat
  rw [sameRegs_setPhase _ 0 a h', reg_setFlag_ne _ _ _ h'.symm, reg_setFld_ne _ _ _ _ h'.symm, reg_putErrAt s at_ h]

theorem code_failStat (s : State) (h : code < 256) (at_ : Option Nat) : (failStat s code at_).fld Reg.CFG_STAT 15 8 = code := by
  unfold failStat State.setFlag
  rw [code_setPhase, fld_setFld_apart _ _ 4 4 _ 15 8 (by decide) (by decide) (by decide),
    fld_setFld _ _ 15 8 _ (by decide) (by decide)]
  exact Nat.mod_eq_of_lt h

theorem reg_failReport_stat (s : State) (h : code < 19) (at_ : Option Nat) :
    (failReport s code at_).reg Reg.CFG_STAT = (failStat s code at_).reg Reg.CFG_STAT := by
  unfold failReport failCounted
  rw [reg_setRegN_ne _ _ (by decide), reg_raise_cfg _ _ (by decide)]
  exact reg_setRegN_ne _ _ (lt_trans (by decide) (errCnt_range h).1).ne'

theorem regN_failReport_count (s : State) (h : code < 19) (at_ : Option Nat) :
    (failReport s code at_).regN (Reg.CFG_ERR_CNT code) = satNat 32 (s.regN (Reg.CFG_ERR_CNT code) + 1) := by
  obtain ⟨above, below⟩ := errCnt_range h
  unfold failReport failCounted
  rw [regN_of_reg (reg_setRegN_ne _ _ above.ne), regN_of_reg (reg_raise_cfg _ _ below), regN_count,
    regN_of_reg (reg_failStat s code at_ (lt_trans (by decide) above).ne' (lt_trans (by decide) above).ne')]

theorem raised_failReport (s : State) (code : Nat) (at_ : Option Nat) : Raised (failReport s code at_) blkCfg 1 :=
  (flag_of_reg 1 (reg_setRegN_ne _ _ (by decide))).trans (flag_raise _ _ 1 (by decide))

theorem failShown_failReport (s : State) (h : code < 19) (at_ : Option Nat) :
    FailShown code (satNat 32 (s.regN (Reg.CFG_ERR_CNT code) + 1)) (failReport s code at_) where
  errCode := (fld_of_reg 15 8 (reg_failReport_stat s h at_)).trans (code_failStat s (by omega) at_)
  phase := (ldrPhase_of_reg (reg_failReport_stat s h at_)).trans (ldrPhase_setPhase _ (by decide))
  busy := (flag_of_reg 3 (reg_failReport_stat s h at_)).trans (busy_setPhase _ 0)
  raised := raised_failReport s code at_
  count := regN_failReport_count s h at_

/-! What it leaves. -/

theorem putErrAt_keeps (s : State) (at_ : Option Nat) :
    (s.putErrAt at_).mem = s.mem ∧ (s.putErrAt at_).fab = s.fab ∧ (s.putErrAt at_).ldr = s.ldr := by
  cases at_
  case none => exact ⟨rfl, rfl, rfl⟩
  case some => exact ⟨rfl, rfl, rfl⟩

theorem onlyRegs_failReport (s : State) (code : Nat) (at_ : Option Nat) : OnlyRegs (s.putErrAt at_) (failReport s code at_) :=
  (((((OnlyRegs.refl _).setFld _ _ _ _).setFlag _ _ _).trans (onlyRegs_setPhase _ 0)).count _ |>.raise _ _).setRegN _ _

theorem failReport_keeps (s : State) (code : Nat) (at_ : Option Nat) :
    (failReport s code at_).mem = s.mem ∧ (failReport s code at_).fab = s.fab ∧ (failReport s code at_).ldr = s.ldr := by
  obtain ⟨mem, fab, ldr⟩ := putErrAt_keeps s at_
  obtain ⟨r, h⟩ := onlyRegs_failReport s code at_
  rw [h]
  exact ⟨mem, fab, ldr⟩

theorem FailShown.loadEnded {n : Nat} (h : FailShown code n t) (due : Bool) : FailShown code n (t.loadEnded due) := h.step rfl rfl id

/-! Paddocks emptied. -/

theorem sget_filter {α : Type} (d : Nat → α) (q : Nat → Bool) (k : Nat) : ∀ m : List (Nat × α),
    sget d (m.filter (fun e => q e.1)) k = if q k then sget d m k else d k
  | [] => (ite_self _).symm
  | (j, v) :: m => by
    have ih := sget_filter d q k m
    by_cases hj : j = k
    · subst hj
      cases hq : q j
      · simpa [hq] using ih
      · simp [hq, sget]
    · cases hq : q j
      · simpa [hq, hj, sget] using ih
      · simpa [hq, hj, sget] using ih

theorem frameOf_clearPad (s : State) (p f : Nat) : frameOf (clearPad s p) f = if f / 9216 = p then {} else frameOf s f := by
  refine (sget_filter _ (fun n => n / padFrames != p) f _).trans ?_
  by_cases h : f / 9216 = p
  · rw [if_pos h, if_neg (by simp [padFrames, h])]
  · rw [if_neg h, if_pos (by simp [padFrames, h])]; rfl

theorem frameOf_clearPads (f : Nat) : ∀ (l : List Nat) (s : State),
    frameOf (l.foldl clearPad s) f = if f / 9216 ∈ l then {} else frameOf s f
  | [], s => (if_neg (List.not_mem_nil)).symm
  | p :: l, s => by
    rw [List.foldl_cons, frameOf_clearPads f l, frameOf_clearPad]
    by_cases hl : f / 9216 ∈ l
    · rw [if_pos hl, if_pos (List.mem_cons_of_mem p hl)]
    · simp only [hl, List.mem_cons, or_false, if_false]

theorem ldr_clearPads : ∀ (l : List Nat) (s : State), (l.foldl clearPad s).ldr = s.ldr
  | [], _ => rfl
  | p :: l, s => ldr_clearPads l (clearPad s p)

theorem padsEmptied_eq (s : State) : padsEmptied s = s.ldr.tgts.foldl padEmptied (s.ldr.tgts.foldl clearPad s) := by
  unfold padsEmptied
  dsimp only
  rw [ldr_clearPads]

theorem onlyRegs_padsEmptied (s : State) : OnlyRegs (s.ldr.tgts.foldl clearPad s) (padsEmptied s) := by
  rw [padsEmptied_eq]
  exact (OnlyRegs.refl _).foldl fun u p => ((OnlyRegs.refl u).setFld _ _ _ _).raise _ _

theorem mem_padsEmptied (s : State) : (padsEmptied s).mem = s.mem :=
  (onlyRegs_padsEmptied s).mem.trans (mem_foldl clearPad (fun _ _ => rfl) s.ldr.tgts s)

theorem frameOf_padsEmptied {s : State} {f : Nat} (h : f / 9216 ∈ s.ldr.tgts) : frameOf (padsEmptied s) f = {} := by
  have cleared : frameOf (padsEmptied s) f = frameOf (s.ldr.tgts.foldl clearPad s) f := by
    obtain ⟨r, e⟩ := onlyRegs_padsEmptied s
    rw [e]; rfl
  rw [cleared, frameOf_clearPads, if_pos h]

theorem padState_padEmptied (s : State) (p : Nat) {q : Nat} (hq : q < 144) : padState (padEmptied s p) q = if p = q then 2 else padState s q := by
  have read : padState (padEmptied s p) q = padState (s.setFld (Reg.CFG_PAD_STAT p) 1 0 2) q :=
    fld_of_reg 1 0 (reg_raise_cfg _ _ (lt_trans (padStat_range hq).2 (errCnt_range (by decide)).2))
  rw [read]
  by_cases h : p = q
  · subst h
    rw [if_pos rfl]
    exact fld_setFld _ _ 1 0 2 (by decide) (by decide)
  · rw [if_neg h]
    exact fld_of_reg 1 0 (reg_setFld_ne _ _ _ _ (by unfold Reg.CFG_PAD_STAT; omega))

theorem padState_foldl_padEmptied {q : Nat} (hq : q < 144) : ∀ (l : List Nat) (s : State),
    padState (l.foldl padEmptied s) q = if q ∈ l then 2 else padState s q
  | [], _ => (if_neg List.not_mem_nil).symm
  | p :: l, s => by
    rw [List.foldl_cons, padState_foldl_padEmptied hq l, padState_padEmptied s p hq]
    by_cases hl : q ∈ l
    · rw [if_pos hl, if_pos (List.mem_cons_of_mem p hl)]
    · simp only [hl, List.mem_cons, or_false, if_false, eq_comm]

theorem padState_padsEmptied {s : State} {q : Nat} (hq : q < 144) (h : q ∈ s.ldr.tgts) : padState (padsEmptied s) q = 2 := by
  rw [padsEmptied_eq, padState_foldl_padEmptied hq, if_pos h]

theorem FailShown.padEmptied {n : Nat} (h : FailShown code n t) (hc : code < 19) (hp : p < 144) : FailShown code n (padEmptied t p) := by
  obtain ⟨above, below⟩ := padStat_range hp
  have apart : Reg.CFG_PAD_STAT p < Reg.CFG_ERR_CNT code := lt_of_lt_of_le below (errCnt_le code)
  have below : Reg.CFG_PAD_STAT p < evtStatus blkCfg := lt_trans apart (errCnt_range hc).2
  refine h.step ?_ ?_ fun raised => ?_
  · exact (reg_raise_cfg _ _ (by decide)).trans (reg_setFld_ne _ _ _ _ (lt_trans (by decide) above).ne')
  · exact (reg_raise_cfg _ _ (errCnt_range hc).2).trans (reg_setFld_ne _ _ _ _ apart.ne)
  · exact (flag_raise_ne _ blkCfg 4 1 (by decide) (by decide)).trans ((flag_of_reg 1 (reg_setFld_ne _ _ _ _ below.ne)).trans raised)

theorem FailShown.padsEmptied {n : Nat} (h : FailShown code n t) (hc : code < 19) (hl : ∀ p ∈ t.ldr.tgts, p < 144) :
    FailShown code n (padsEmptied t) := by
  have cleared : FailShown code n (t.ldr.tgts.foldl clearPad t) := List.foldlRecOn _ clearPad h fun _ k _ _ => k.step rfl rfl id
  rw [padsEmptied_eq]
  exact List.foldlRecOn _ Machine.padEmptied cleared fun _ k p hp => k.padEmptied hc (hl p hp)

end

end Sys2Proof.Machine
end

section
/-! PROOFS. A statement of 08_configuration.md: the loader's commands and the limits of a load (R240, R242, R243, R245). -/

namespace Sys2Proof.Machine

/-- A failure before pass two: reported, with no effect on the fabric. -/
def FailedEarly (s : State) (code : Nat) (t : State) : Prop :=
  t.fld Reg.CFG_STAT 15 8 = code ∧ ldrPhase t = 0 ∧ t.flag Reg.CFG_STAT 3 = false ∧ Raised t blkCfg 1 ∧
  t.regN (Reg.CFG_ERR_CNT code) = satNat 32 (s.regN (Reg.CFG_ERR_CNT code) + 1) ∧ t.ldr.kind = 0 ∧ t.ldr.stream = none ∧ t.fab = s.fab ∧
  SameMem s t

theorem failedEarly_loadFail {s : State} {code : Nat} (at_ : Option Nat) (hc : code < 19) (h : ldrPhase s < 3) :
    FailedEarly s code (loadFail s code at_) := by
  obtain ⟨due, e⟩ := loadFail_early (code := code) (at_ := at_) h
  obtain ⟨mem, fab, -⟩ := failReport_keeps s code at_
  have shown := (failShown_failReport s hc at_).loadEnded due
  rw [e]
  exact ⟨shown.errCode, shown.phase, shown.busy, shown.raised, shown.count, rfl, rfl, (State.setLdr_fab _ _).trans fab,
    sameMem_of_mem ((State.setLdr_mem _ _).trans mem)⟩

/-- A failure in pass two of a PARTIAL load: reported, its targets EMPTY and cleared. -/
def FailedPart (s : State) (code : Nat) (t : State) : Prop :=
  t.fld Reg.CFG_STAT 15 8 = code ∧ ldrPhase t = 0 ∧ t.flag Reg.CFG_STAT 3 = false ∧ Raised t blkCfg 1 ∧
  t.regN (Reg.CFG_ERR_CNT code) = satNat 32 (s.regN (Reg.CFG_ERR_CNT code) + 1) ∧ t.ldr.kind = 0 ∧ t.ldr.stream = none ∧
  (∀ p ∈ s.ldr.tgts, padState t p = 2) ∧ (∀ f, f / 9216 ∈ s.ldr.tgts → frameOf t f = {}) ∧ SameMem s t

theorem failedPart_loadFail {s : State} {code : Nat} (at_ : Option Nat) (hc : code < 19) (h : 3 ≤ ldrPhase s) (kind : s.ldr.kind ≠ 1)
    (tgts : ∀ p ∈ s.ldr.tgts, p < 144) : FailedPart s code (loadFail s code at_) := by
  obtain ⟨due, e⟩ := loadFail_part (code := code) (at_ := at_) h kind
  obtain ⟨mem, -, ldr⟩ := failReport_keeps s code at_
  rw [← ldr] at tgts
  have shown := ((failShown_failReport s hc at_).padsEmptied hc tgts).loadEnded due
  rw [e, FailedPart, ← ldr]
  exact ⟨shown.errCode, shown.phase, shown.busy, shown.raised, shown.count, rfl, rfl, fun p hp => padState_padsEmptied (tgts p hp) hp,
    fun f hf => frameOf_padsEmptied hf, sameMem_of_mem ((State.setLdr_mem _ _).trans ((mem_padsEmptied _).trans mem))⟩

/-- Settles O39: one command of CFG_CMD is `startLoad` or one event, ABORT is a failure but for an EMPTY that waits, and a failure before
pass two is its report alone. -/
theorem loaderCommands : Obligations.LoaderCommands := by
  refine ⟨fun s v h0 h1 h2 h3 ext idle mode => ?_, fun s v h0 h1 h2 h3 no => ?_, fun s v h0 h1 h2 h3 ext idle mode => ?_,
    fun s v h0 h1 h2 h3 no => ?_, fun s v h0 h1 h2 h3 ext idle mode => ?_, fun s v h0 h1 h2 h3 no => ?_, fun s v h2 idle => ?_,
    fun s v h2 start => ?_, fun s v h2 phase kind => ?_, fun s v h2 phase kind => ?_, fun s v h2 phase kind tgts => ?_, fun s pass1 => ?_,
    fun s phase => ?_, fun s due idle => ?_⟩
  case refine_1 =>
    have begins := cfgCmd_begins (full := true) (part := false) (empty := false) h0 h1 h2 h3 rfl ext idle mode
    exact ⟨startLoad s 1 false false [], congrArg Host.Outcome.next begins, ldrPhase_startLoad .., busy_startLoad ..,
      rfl, rfl, rfl, sameRegs_startLoad _ _ _ _ _, (onlyRegs_startLoad ..).eq_setLdr, sameMem_startLoad _ _ _ _ _⟩
  case refine_2 => exact ⟨_, rfl, cfgCmd_refused h0 h1 h2 h3 rfl no⟩
  case refine_3 =>
    have begins := cfgCmd_begins (full := false) (part := true) (empty := false) h0 h1 h2 h3 rfl ext idle mode
    exact ⟨startLoad s 2 false false [], congrArg Host.Outcome.next begins, ldrPhase_startLoad .., busy_startLoad ..,
      rfl, rfl, sameRegs_startLoad _ _ _ _ _, (onlyRegs_startLoad ..).eq_setLdr, sameMem_startLoad _ _ _ _ _⟩
  case refine_4 => exact ⟨_, rfl, cfgCmd_refused h0 h1 h2 h3 rfl no⟩
  case refine_5 =>
    have begins := cfgCmd_begins (full := false) (part := false) (empty := true) h0 h1 h2 h3 rfl ext idle mode
    exact ⟨startLoad s 3 false false (marked s), congrArg Host.Outcome.next begins, ldrPhase_startLoad ..,
      busy_startLoad .., rfl, rfl, rfl, sameRegs_startLoad _ _ _ _ _, (onlyRegs_startLoad ..).eq_setLdr, sameMem_startLoad _ _ _ _ _⟩
  case refine_6 => exact ⟨_, rfl, cfgCmd_refused h0 h1 h2 h3 rfl no⟩
  case refine_7 => exact ⟨_, rfl, (cfgCmd_abort h2).trans (loadAbort_still (.inl idle))⟩
  case refine_8 => exact ⟨_, rfl, (cfgCmd_abort h2).trans (loadAbort_still (.inr start))⟩
  case refine_9 =>
    have ends := loadAbort_empty (by omega) kind
    exact ⟨_, congrArg Host.Outcome.next ((cfgCmd_abort h2).trans ends), ldrPhase_setPhase _ (by decide), rfl, sameRegs_setPhase (s.setLdr _) 0,
      (onlyRegs_setPhase _ 0).eq_setLdr, (onlyRegs_setPhase (s.setLdr _) 0).sameMem⟩
  case refine_10 =>
    have fails := loadAbort_load (by omega) kind
    exact ⟨_, congrArg Host.Outcome.next ((cfgCmd_abort h2).trans fails), failedEarly_loadFail none (by decide) (by omega)⟩
  case refine_11 =>
    have fails := loadAbort_load (s := s) (by omega) (by omega)
    exact ⟨_, congrArg Host.Outcome.next ((cfgCmd_abort h2).trans fails), failedPart_loadFail none (by decide) (by omega) (by omega) tgts⟩
  case refine_12 => exact ⟨_, if_pos pass1, failedEarly_loadFail none (by decide) (by omega)⟩
  case refine_13 => exact ⟨_, (if_neg (by omega)).trans (if_neg (by omega)), rfl⟩
  case refine_14 =>
    have onlyRegs : OnlyRegs (s.setLdr (ldrBegun s 1 true true [])) ((startLoad s 1 true true []).raise blkCfg 5) :=
      (onlyRegs_startLoad ..).raise _ _
    exact ⟨_, if_pos ⟨due, idle⟩, (ldrPhase_of_reg (reg_raise_cfg _ _ (by decide))).trans (ldrPhase_startLoad ..), rfl, rfl, rfl, rfl,
      flag_raise _ _ 5 (by decide), onlyRegs.eq_setLdr, onlyRegs.sameMem⟩

end Sys2Proof.Machine
end

section
/-! SUPPORT. The Farrier's repairs: what a log entry, a Paddock's settled flag and the gate behind it keep of the engines, of the fabric and
of the registers (R267, R268, R275), and what a frame replaced is read as. -/

namespace Sys2Proof.Machine

/-! An engine replaced. -/

section
variable (s : State) (e : Nat) (x : FarEngine)

@[simp] theorem setEng_mem : (setEng s e x).mem = s.mem := rfl
@[simp] theorem setEng_fab : (setEng s e x).fab = s.fab := rfl
@[simp] theorem reg_setEng (a : Nat) : (setEng s e x).reg a = s.reg a := rfl
@[simp] theorem regN_setEng (a : Nat) : (setEng s e x).regN a = s.regN a := rfl
@[simp] theorem flag_setEng (a n : Nat) : (setEng s e x).flag a n = s.flag a n := rfl

@[simp] theorem raised_setEng (b n : Nat) : Raised (setEng s e x) b n ↔ Raised s b n := Iff.rfl

@[simp] theorem farEng_setEng : farEng (setEng s e x) e = x := by
  unfold farEng setEng; split <;> rfl

@[simp] theorem set_setEng : (setEng s e x).far.set = s.far.set := by
  unfold setEng; split <;> rfl

end

/-! A state that differs in its registers alone has the same engines and the same fabric. -/

namespace OnlyRegs

variable {s t : State}

theorem far (h : OnlyRegs s t) : t.far = s.far := by obtain ⟨r, rfl⟩ := h; rfl
theorem fab (h : OnlyRegs s t) : t.fab = s.fab := by obtain ⟨r, rfl⟩ := h; rfl
theorem farEng (h : OnlyRegs s t) (e : Nat) : farEng t e = farEng s e := by unfold Machine.farEng; rw [h.far]

end OnlyRegs

/-! The frame of the Farrier's bookkeeping. -/

/-- Memory, the fabric, the engines and the priority set are as before, and so is every register below the Paddocks' but those of W;
from there on, at the addresses of FAR_PAD_STAT and EVT_STATUS, no bit is cleared but FLAGGED and REPAIR (0 and 2). -/
structure FarKept (W : Nat → Prop) (s t : State) : Prop where
  mem   : t.mem = s.mem
  fab   : t.fab = s.fab
  eng   : ∀ e, farEng t e = farEng s e
  set   : t.far.set = s.far.set
  regs  : ∀ a < Reg.FAR_PAD_STAT 0, ¬W a → t.reg a = s.reg a
  marks : ∀ a n, Reg.FAR_PAD_STAT 0 ≤ a → a % 16 = 0 → n ≠ 0 → n ≠ 2 → s.flag a n = true → t.flag a n = true

theorem farPad_mark (p : Nat) : Reg.FAR_PAD_STAT 0 ≤ Reg.FAR_PAD_STAT p ∧ Reg.FAR_PAD_STAT p % 16 = 0 := by
  unfold Reg.FAR_PAD_STAT; omega

theorem evtStatus_mark {b : Nat} (h : 4 ≤ b) : Reg.FAR_PAD_STAT 0 ≤ evtStatus b ∧ evtStatus b % 16 = 0 := by
  unfold Reg.FAR_PAD_STAT evtStatus blockBase ctrlBase; omega

theorem evtCount_side {b n : Nat} (h : 4 ≤ b) (hn : n % 4 ≠ 0) : Reg.FAR_PAD_STAT 0 ≤ evtCount b n ∧ evtCount b n % 16 ≠ 0 := by
  unfold Reg.FAR_PAD_STAT evtCount blockBase ctrlBase; omega

theorem farUnc_side (p : Nat) : Reg.FAR_PAD_STAT 0 ≤ Reg.FAR_PAD_UNC p ∧ Reg.FAR_PAD_UNC p % 16 ≠ 0 := by
  unfold Reg.FAR_PAD_STAT Reg.FAR_PAD_UNC; omega

theorem farLast_side (p : Nat) : Reg.FAR_PAD_STAT 0 ≤ Reg.FAR_PAD_LAST p ∧ Reg.FAR_PAD_LAST p % 16 ≠ 0 := by
  unfold Reg.FAR_PAD_STAT Reg.FAR_PAD_LAST; omega

namespace FarKept

variable {W : Nat → Prop} {s t u : State}

theorem refl (s : State) : FarKept W s s := ⟨rfl, rfl, fun _ => rfl, rfl, fun _ _ _ => rfl, fun _ _ _ _ _ _ h => h⟩

theorem trans (h : FarKept W s t) (k : FarKept W t u) : FarKept W s u where
  mem := k.mem.trans h.mem
  fab := k.fab.trans h.fab
  eng e := (k.eng e).trans (h.eng e)
  set := k.set.trans h.set
  regs a ha hw := (k.regs a ha hw).trans (h.regs a ha hw)
  marks a n ha h16 h0 h2 f := k.marks a n ha h16 h0 h2 (h.marks a n ha h16 h0 h2 f)

theorem regN (h : FarKept W s t) {a : Nat} (ha : a < Reg.FAR_PAD_STAT 0) (hw : ¬W a) : t.regN a = s.regN a :=
  regN_of_reg (h.regs a ha hw)

theorem flag (h : FarKept W s t) {a : Nat} (n : Nat) (ha : a < Reg.FAR_PAD_STAT 0) (hw : ¬W a) : t.flag a n = s.flag a n :=
  flag_of_reg n (h.regs a ha hw)

theorem padMark (h : FarKept W s t) {p n : Nat} (h0 : n ≠ 0) (h2 : n ≠ 2) (f : s.flag (Reg.FAR_PAD_STAT p) n = true) :
    t.flag (Reg.FAR_PAD_STAT p) n = true :=
  h.marks _ n (farPad_mark p).1 (farPad_mark p).2 h0 h2 f

theorem raised (h : FarKept W s t) {n : Nat} (h0 : n ≠ 0) (h2 : n ≠ 2) (r : Raised s blkCfg n) : Raised t blkCfg n :=
  h.marks _ n (evtStatus_mark le_rfl).1 (evtStatus_mark le_rfl).2 h0 h2 r

/-- A step that changes registers and what is no part of the frame. -/
theorem step (h : FarKept W s t) (mem : u.mem = t.mem) (fab : u.fab = t.fab) (far : u.far = t.far)
    (regs : ∀ a < Reg.FAR_PAD_STAT 0, ¬W a → u.reg a = t.reg a)
    (marks : ∀ a n, Reg.FAR_PAD_STAT 0 ≤ a → a % 16 = 0 → n ≠ 0 → n ≠ 2 → t.flag a n = true → u.flag a n = true) : FarKept W s u :=
  h.trans ⟨mem, fab, fun e => by unfold farEng; rw [far], congrArg Farrier.set far, regs, marks⟩

/-- A register of W below the Paddocks'. -/
theorem setLow (h : FarKept W s t) {a : Nat} (v : Nat) (ha : a < Reg.FAR_PAD_STAT 0) (hw : W a) : FarKept W s (t.setRegN a v) :=
  h.step (State.setRegN_mem ..) (State.setRegN_fab ..) (State.setRegN_far ..) (fun j _ hj => reg_setRegN_ne t v (by rintro rfl; exact hj hw))
    (fun j n hj _ _ _ f => (flag_of_reg n (reg_setRegN_ne t v (by omega))).trans f)

/-- A register from the Paddocks' on that is at the address of no FAR_PAD_STAT and no EVT_STATUS. -/
theorem setSide (h : FarKept W s t) {a : Nat} (v : Nat) (ha : Reg.FAR_PAD_STAT 0 ≤ a ∧ a % 16 ≠ 0) : FarKept W s (t.setRegN a v) := by
  obtain ⟨high, side⟩ := ha
  exact h.step (State.setRegN_mem ..) (State.setRegN_fab ..) (State.setRegN_far ..) (fun j hj _ => reg_setRegN_ne t v (by omega))
    (fun j n _ h16 _ _ f => (flag_of_reg n (reg_setRegN_ne t v (by rintro rfl; exact side h16))).trans f)

/-- A bit of a FAR_PAD_STAT or an EVT_STATUS: set, or FLAGGED or REPAIR. -/
theorem setMark (h : FarKept W s t) {a n : Nat} {b : Bool} (ha : Reg.FAR_PAD_STAT 0 ≤ a ∧ a % 16 = 0) (hn : n < 32)
    (hb : b = true ∨ n = 0 ∨ n = 2) : FarKept W s (t.setFlag a n b) := by
  refine h.step (State.setFlag_mem ..) (State.setFlag_fab ..) (State.setFlag_far ..) (fun j hj _ => reg_setFlag_ne t n b (by omega))
    (fun j i _ _ h0 h2 f => ?_)
  rw [flag_setFlag_eq _ _ _ _ _ _ hn, f, ite_eq_right_iff]
  rintro ⟨-, rfl⟩
  exact hb.resolve_right (by omega)

theorem raise (h : FarKept W s t) {b n : Nat} (hb : 4 ≤ b) (hn : n < 32) (h4 : n % 4 ≠ 0) : FarKept W s (t.raise b n) :=
  (h.setMark (evtStatus_mark hb) hn (.inl rfl)).setSide _ (evtCount_side hb h4)

theorem raiseIf (h : FarKept W s t) {c : Bool} {b n : Nat} (hb : 4 ≤ b) (hn : n < 32) (h4 : n % 4 ≠ 0) : FarKept W s (t.raiseIf c b n) := by
  cases c
  · exact h
  · exact h.raise hb hn h4

/-! The transmit gate, and what stands of the Farrier's classes (R509, R521). -/

theorem outStat (h : FarKept W s t) : FarKept W s t.outStat :=
  ((((h.setSide _ (by decide)).setSide _ (by decide)).setSide _ (by decide)).raiseIf (by decide) (by decide) (by decide)).setSide _ (by decide)

theorem gateSettle (h : FarKept W s t) : FarKept W s t.gateSettle := by
  unfold State.gateSettle; split
  · have shut : FarKept W s (t.setFlag Reg.OUT_STAT 0 false) := h.setSide _ (by decide)
    have pads : FarKept W s { t.setFlag Reg.OUT_STAT 0 false with tim := { t.tim with outs := gatePads (t.setFlag Reg.OUT_STAT 0 false) } } :=
      shut.step rfl rfl rfl (fun _ _ _ => rfl) (fun _ _ _ _ _ _ f => f)
    exact (pads.raise (b := blkOut) (n := 1) (by decide) (by decide) (by decide)).outStat
  · exact h.outStat

theorem unstand (h : FarKept W s t) (c : Nat) : FarKept W s (t.unstand c) :=
  FarKept.gateSettle (h.setSide (a := Reg.OUT_CAUSE) _ (by decide))

theorem farStand (h : FarKept W s t) : FarKept W s (farStand t) := by
  unfold Machine.farStand; extract_lets u
  have hu : FarKept W s u := by
    unfold u; split
    · exact h.unstand 8
    · exact h
  split
  · exact hu.unstand 9
  · exact hu

theorem padSettle (h : FarKept W s t) (p : Nat) : FarKept W s (padSettle t p) := by
  have repair : FarKept W s (t.setFlag (Reg.FAR_PAD_STAT p) 2 (padRepair t p)) := h.setMark (farPad_mark p) (by decide) (.inr (.inr rfl))
  unfold Machine.padSettle; dsimp only; split
  · exact (repair.setMark (farPad_mark p) (by decide) (by decide)).farStand
  · exact repair.farStand

/-! The log, and the count of upsets (R265, R275). -/

theorem farLog (h : FarKept W s t) (hw : W Reg.FAR_LOG_STAT) (e fa kind : Nat) (prio flagged : Bool) (a : Nat) (b : Option Nat) :
    FarKept W s (farLog t e fa kind prio flagged a b) := by
  have low : Reg.FAR_LOG_STAT < Reg.FAR_PAD_STAT 0 := by decide
  have pushed (w : Nat) : FarKept W s (logPush t t.far.log w 96 Reg.FAR_LOG_STAT blkCfg 27).1 := by
    unfold logPush; dsimp only; split
    · exact (h.setLow _ low hw).setLow _ low hw
    · exact (h.setLow _ low hw).raise (by decide) (by decide) (by decide)
  unfold Machine.farLog; extract_lets w0 w2
  exact (pushed (w0 + t.pt * 2 ^ 32 + w2 * 2 ^ 64)).trans ⟨rfl, rfl, fun _ => rfl, rfl, fun _ _ _ => rfl, fun _ _ _ _ _ _ f => f⟩

theorem upsCount (h : FarKept W s t) : FarKept W s (upsCount t) := by
  refine h.trans ?_
  unfold Machine.upsCount
  split <;> exact ⟨rfl, rfl, fun _ => rfl, rfl, fun _ _ _ => rfl, fun _ _ _ _ _ _ f => f⟩

end FarKept

theorem farKept_padSettle (s : State) (p : Nat) : FarKept (fun _ => False) s (padSettle s p) := (FarKept.refl s).padSettle p

/-! The settled flag of a Paddock while neither CFG_UPSET nor CFG_LOST stands. -/

theorem farStand_idle {s : State} (h8 : s.flag Reg.OUT_CAUSE 8 = false) (h9 : s.flag Reg.OUT_CAUSE 9 = false) : farStand s = s := by
  simp [farStand, h8, h9]

/-- REPAIR and, where nothing is left to mend, FLAGGED. -/
def padShown (s : State) (p : Nat) : State :=
  let t := s.setFlag (Reg.FAR_PAD_STAT p) 2 (padRepair s p)
  if !padRepair t p && !t.flag (Reg.FAR_PAD_STAT p) 3 then t.setFlag (Reg.FAR_PAD_STAT p) 0 false else t

section
variable (s : State) (p : Nat)

theorem sameRegs_padShown : SameRegs s (padShown s p) (· = Reg.FAR_PAD_STAT p) := by
  have repair := (SameRegs.refl s (· = Reg.FAR_PAD_STAT p)).setFlag rfl 2 (padRepair s p)
  unfold padShown; dsimp only; split
  · exact repair.setFlag rfl 0 false
  · exact repair

theorem flag_padShown : (padShown s p).flag (Reg.FAR_PAD_STAT p) 2 = padRepair s p := by
  unfold padShown; dsimp only; split
  · rw [flag_setFlag_ne _ _ _ _ _ (by decide) (by decide), flag_setFlag _ _ _ _ (by decide)]
  · exact flag_setFlag _ _ _ _ (by decide)

end

theorem padSettle_idle {s : State} (p : Nat) (h8 : s.flag Reg.OUT_CAUSE 8 = false) (h9 : s.flag Reg.OUT_CAUSE 9 = false) :
    padSettle s p = padShown s p := by
  have cause : (padShown s p).reg Reg.OUT_CAUSE = s.reg Reg.OUT_CAUSE :=
    sameRegs_padShown s p _ (by unfold Reg.OUT_CAUSE Reg.FAR_PAD_STAT; omega)
  exact farStand_idle ((flag_of_reg 8 cause).trans h8) ((flag_of_reg 9 cause).trans h9)

theorem padRepair_congr {s t : State} (h : ∀ e, farEng t e = farEng s e) (p : Nat) : padRepair t p = padRepair s p := by
  have a : t.far.a = s.far.a := h 0
  have b : t.far.b = s.far.b := h 1
  unfold padRepair; rw [a, b]

/-! A frame replaced. -/

theorem frameOf_liveFrame (s : State) (fa f : Nat) (w : FrameWord) : frameOf (liveFrame s fa w) f = if fa = f then w else frameOf s f :=
  sget_sput _ _ _ _ _

end Sys2Proof.Machine
end

section
/-! PROOFS. The statements of 09_upsets_farrier.md: the Farrier's slots (R260, R261), and its repairs, its log and its test injection
(R267, R269, R270, R275, R276). -/

namespace Sys2Proof.Machine

/-! Repairs (R267, R269). -/

section
variable {s : State} {e : Fin 2} {q : FarItem}

/-- The engine with an item of its queue marked written. -/
def markWritten (x : FarEngine) (fa : Nat) : FarEngine :=
  { x with queue := x.queue.map (fun y => if y.fa = fa then { y with written := true } else y) }

/-- The engine without what its queue holds of a frame. -/
def queueDrop (x : FarEngine) (fa : Nat) : FarEngine := { x with queue := x.queue.filter (fun y => y.fa != fa) }

theorem execRepairWrite_writes (h : (farEng s e).queue.find? (fun q => !q.written) = some q) :
    execRepairWrite e s = .next (setEng (liveFrame s q.fa q.word) e (markWritten (farEng s e) q.fa)) := by
  unfold execRepairWrite; simp only [h]; rfl

theorem execRepairWrite_none (h : ∀ q ∈ (farEng s e).queue, q.written = true) : execRepairWrite e s = .next s := by
  have none : (farEng s e).queue.find? (fun q => !q.written) = none := List.find?_eq_none.mpr fun q hq => by simp [h q hq]
  unfold execRepairWrite; simp only [none]

theorem linesService_none {e p : Nat} (h : (farEng s e).lines = []) : linesService s e p = padSettle s p := by
  unfold linesService; rw [h]; rfl

/-- A re-fetched frame that reads back clean, logged and counted. -/
def refetchGood (s : State) (e : Nat) (q : FarItem) : State :=
  ((farLog s e q.fa 6 q.prio false 0 none).count Reg.FAR_REFETCH_CNT).raise blkCfg 18

theorem execRepairVerify_clean (h : (farEng s e).queue.find? (·.written) = some q) (clean : farCase (frameOf s q.fa) = .clean) :
    execRepairVerify e s = .next (linesService (if q.fetched then refetchGood (setEng s e (queueDrop (farEng s e) q.fa)) e q
      else setEng s e (queueDrop (farEng s e) q.fa)) e (q.fa / padFrames)) := by
  unfold execRepairVerify; simp only [h, clean, if_true]; rfl

/-- An upset at a frame just repaired, counted and logged. -/
def stuckLogged (s : State) (e : Nat) (q : FarItem) : State :=
  farLog (((upsCount s).count (Reg.FAR_PAD_UNC (q.fa / padFrames))).setRegN (Reg.FAR_PAD_LAST (q.fa / padFrames))
    ((upsCount s).count (Reg.FAR_PAD_UNC (q.fa / padFrames))).pt) e q.fa 5 q.prio false 0 none

/-- The stuck frame counted as such, and its Paddock marked. -/
def stuckFound (s : State) (e : Nat) (q : FarItem) : State :=
  (((stuckLogged s e q).count Reg.FAR_STUCK_CNT).raise blkCfg 20).setFlag (Reg.FAR_PAD_STAT (q.fa / padFrames)) 4 true

theorem execRepairVerify_stuck {i : Nat} (h : (farEng s e).queue.find? (·.written) = some q) (data : farCase (frameOf s q.fa) = .data i)
    (own : q.fetched = false) (lone : s.flag Reg.FAR_CTL 1 = false) :
    execRepairVerify e s = .next (padSettle (toRepair (stuckFound (setEng s e (queueDrop (farEng s e) q.fa)) e q) e q.fa q.prio .lost)
      (q.fa / padFrames)) := by
  have single : ((farKind (.data i)).1 != 3 && (false || FarCase.data i == .lost)) = false := by simp [farKind]
  unfold execRepairVerify; simp only [h, data, own, lone, single, reduceCtorEq, Bool.false_eq_true, if_false, Bool.false_and]
  rfl

theorem toRepair_lost {e fa : Nat} (prio : Bool) (h : inRepair (farEng s e) fa = false) : toRepair s e fa prio .lost =
    setEng s e { farEng s e with fetch := (farEng s e).fetch ++ [{ fa := fa, prio := prio }] } := by
  unfold toRepair; simp only [h, Bool.false_eq_true, if_false, if_true]

end

/-! What a verification leaves. -/

section
variable (s : State) (e : Nat) (q : FarItem)

theorem farKept_refetchGood : FarKept (fun a => a = Reg.FAR_LOG_STAT ∨ a = Reg.FAR_REFETCH_CNT) s (refetchGood s e q) := by
  have logged := (FarKept.refl s).farLog (W := fun a => a = Reg.FAR_LOG_STAT ∨ a = Reg.FAR_REFETCH_CNT) (.inl rfl) e q.fa 6 q.prio false 0 none
  exact FarKept.raise (logged.setLow _ (by decide) (.inr rfl)) (by decide) (by decide) (by decide)

theorem refetchGood_shown : (refetchGood s e q).regN Reg.FAR_REFETCH_CNT = satNat 32 (s.regN Reg.FAR_REFETCH_CNT + 1) ∧
    Raised (refetchGood s e q) blkCfg 18 := by
  have logged := (FarKept.refl s).farLog (W := (· = Reg.FAR_LOG_STAT)) rfl e q.fa 6 q.prio false 0 none
  refine ⟨?_, flag_raise _ _ _ (by decide)⟩
  unfold refetchGood
  rw [regN_of_reg (reg_raise_cfg _ _ (by decide)), regN_count, logged.regN (by decide) (by decide)]

theorem farKept_stuckLogged : FarKept (· = Reg.FAR_LOG_STAT) s (stuckLogged s e q) := by
  have marked := (FarKept.refl (W := (· = Reg.FAR_LOG_STAT)) s).upsCount.setSide
    (satNat 32 ((upsCount s).regN (Reg.FAR_PAD_UNC (q.fa / padFrames)) + 1)) (farUnc_side (q.fa / padFrames))
  exact (marked.setSide _ (farLast_side (q.fa / padFrames))).farLog rfl e q.fa 5 q.prio false 0 none

theorem stuckFound_keeps : (∀ k, farEng (stuckFound s e q) k = farEng s k) ∧ (stuckFound s e q).fab = s.fab ∧ (stuckFound s e q).mem = s.mem := by
  have logged := farKept_stuckLogged s e q
  have only : OnlyRegs (stuckLogged s e q) (stuckFound s e q) := (((OnlyRegs.refl _).count _).raise _ _).setFlag _ _ _
  exact ⟨fun k => (only.farEng k).trans (logged.eng k), only.fab.trans logged.fab, only.mem.trans logged.mem⟩

theorem stuckFound_shown : (stuckFound s e q).regN Reg.FAR_STUCK_CNT = satNat 32 (s.regN Reg.FAR_STUCK_CNT + 1) ∧
    Raised (stuckFound s e q) blkCfg 20 ∧ (stuckFound s e q).flag (Reg.FAR_PAD_STAT (q.fa / padFrames)) 4 = true := by
  refine ⟨?_, ?_, flag_setFlag _ _ _ _ (by decide)⟩
  · unfold stuckFound
    rw [regN_of_reg (reg_setFlag_ne _ _ _ (by unfold Reg.FAR_PAD_STAT Reg.FAR_STUCK_CNT; omega)),
      regN_of_reg (reg_raise_cfg _ _ (by decide)), regN_count, (farKept_stuckLogged s e q).regN (by decide) (by decide)]
  · unfold Raised stuckFound
    rw [flag_setFlag_eq _ _ _ _ _ _ (by decide), flag_raise _ _ _ (by decide), ite_self]

end

/-! Re-fetches (R269, R270). -/

section
variable {s : State} {e : Fin 2} {f : Refetch} {q : List Refetch} {host : Option (List Byte)}

/-- The engine without its work on a frame. -/
def frameDrop (x : FarEngine) (fa : Nat) : FarEngine :=
  { x with fetch := x.fetch.filter (fun f => f.fa != fa), queue := x.queue.filter (fun q => q.fa != fa) }

/-- A frame given up: logged, raised, its Paddock marked. -/
def frameLost (s : State) (e fa : Nat) (prio : Bool) : State :=
  ((farLog (setEng s e (frameDrop (farEng s e) fa)) e fa 7 prio false 0 none).raise blkCfg 19).setFlag (Reg.FAR_PAD_STAT (fa / padFrames)) 3 true

theorem farKept_frameLost (s : State) (e fa : Nat) (prio : Bool) :
    FarKept (· = Reg.FAR_LOG_STAT) (setEng s e (frameDrop (farEng s e) fa)) (frameLost s e fa prio) := by
  have logged := (FarKept.refl (W := (· = Reg.FAR_LOG_STAT)) (setEng s e (frameDrop (farEng s e) fa))).farLog rfl e fa 7 prio false 0 none
  exact (logged.raise (b := blkCfg) (n := 19) (by decide) (by decide) (by decide)).setMark (farPad_mark _) (by decide) (.inl rfl)

theorem frameLost_shown (s : State) (e fa : Nat) (prio : Bool) : Raised (frameLost s e fa prio) blkCfg 19 ∧
    (frameLost s e fa prio).flag (Reg.FAR_PAD_STAT (fa / padFrames)) 3 = true := by
  refine ⟨?_, flag_setFlag _ _ _ _ (by decide)⟩
  unfold Raised frameLost
  rw [flag_setFlag_eq _ _ _ _ _ _ (by decide), flag_raise _ _ _ (by decide), ite_self]

theorem fetchFail_eq (s : State) (e fa : Nat) (prio : Bool) (set : s.far.set = []) (ctl : s.flag Reg.FAR_CTL 2 = false) :
    fetchFail s e fa prio = padSettle (frameLost s e fa prio) (fa / padFrames) := by
  have kept := farKept_frameLost s e fa prio
  have outside : (frameLost s e fa prio).far.set.contains (fa / padFrames) = false := by
    rw [kept.set, set_setEng, set]; rfl
  have stays : (frameLost s e fa prio).flag Reg.FAR_CTL 2 = false := (kept.flag 2 (by decide) (by decide)).trans ctl
  unfold fetchFail; extract_lets p x engine logged lost classed
  have unclassed : classed = frameLost s e fa prio := if_neg (Bool.eq_false_iff.mp outside)
  rw [unclassed, stays, if_neg Bool.false_ne_true]

theorem execRefetchChunk_sourceless (h : (farEng s e).fetch = f :: q) (gone : keptOf s (f.fa / padFrames) = none) :
    execRefetchChunk e host s = .next (fetchFail s e f.fa f.prio) := by
  unfold execRefetchChunk; simp only [h, gone]

theorem execRefetchChunk_finds {r : Retained} {lo hi i fa : Nat} {c : Chunk} {b : List Byte} {fs : List (Nat × BitVec 2048)} {d : BitVec 2048}
    (h : (farEng s e).fetch = f :: q) (kept : keptOf s (f.fa / padFrames) = some (r, lo, hi)) (phys : r.phys = true)
    (room : (farEng s e).queue.length < 16) (key : keyOk s r.slot r.hash = true) (next : f.pos.getD lo = i) (chunk : r.chunks[i]? = some c)
    (read : srcRead s (441 + e) true r.src (host.map (fun l => List.replicate (chunkAt r i) 0 ++ l)) (chunkAt r i) c.clen = some b)
    (recs : chunkRecs b (i + 1 == r.chunks.length) allPads [] = .inr fs) (found : fs.find? (fun y => y.1 == f.fa) = some (fa, d))
    (digest : Config.shake256 b 32 = c.digest) : execRefetchChunk e host s = .next (fetched s e f d) := by
  have waits : ¬((!r.phys && decide (ldrPhase s ≠ 0) && (s.ldr.strap || !s.flag Reg.CFG_SRC_HI 31) && s.ldr.kind != 3) = true ∨
      16 ≤ (farEng s e).queue.length) := by simp [phys, room]
  unfold execRefetchChunk
  simp only [h, kept, if_neg waits]
  simp only [key, next, chunk, phys, read, recs, found, digest, bne_self_eq_false, Bool.not_true, Bool.false_eq_true, if_false]

end

/-! The log read (R275). -/

section
variable {s : State} {init : Fin 512}

/-- The log's head answered and popped. -/
def logTaken (s : State) (init : Nat) : State :=
  let r := logPop (s.answer init 0 [logWord s.far.log 3]) s.far.log Reg.FAR_LOG_STAT
  r.1.setFar { r.1.far with log := r.2 }

theorem mem_logTaken (s : State) (init : Nat) : (logTaken s init).mem = s.mem := by
  simp only [logTaken, logPop, State.setFar_mem, State.setFld_mem, State.setFlag_mem, State.answer_mem]

theorem logTaken_shown (s : State) (init : Nat) : (logTaken s init).ans = ⟨init, 0, [logWord s.far.log 3 % 2 ^ 32]⟩ ∧
    (logTaken s init).flag Reg.FAR_LOG_STAT 0 = (s.far.log.q.drop 1).isEmpty ∧ SameRegs s (logTaken s init) (· = Reg.FAR_LOG_STAT) := by
  have word : logWord s.far.log 3 % 2 ^ 32 = logWord s.far.log 3 := Nat.mod_eq_of_lt (bitsOf_lt _ 127 96)
  refine ⟨?_, ?_, ((SameRegs.refl s (· = Reg.FAR_LOG_STAT)).setFlag rfl 0 _).setRegN rfl _⟩
  · have ans : (logTaken s init).ans = ⟨init, 0, [logWord s.far.log 3]⟩ := by
      simp only [logTaken, logPop, State.setFar_ans, State.setFld_ans, State.setFlag_ans, State.answer_ans]
    rw [ans, word]
  · exact (flag_setFld _ _ _ _ _ _ _ (by decide) (by decide)).trans ((if_neg (by decide)).trans (flag_setFlag _ _ _ _ (by decide)))

theorem execFarLogRead_pops (h : init.val ≠ 474) : execFarLogRead init s = .next (logTaken s init) := if_neg h

theorem execFarLogRead_debug (h : init.val = 474) : execFarLogRead init s = .next (s.answer init 0 [logWord s.far.log 3]) := if_pos h

end

/-! Test injection (R276). -/

section
variable {s : State} {v : BitVec 32}

/-- FAR_INJ_BIT as a write leaves it: the bit's number and ADJ, not the trigger. -/
def injectNamed (s : State) (v : BitVec 32) : State := s.setRegN Reg.FAR_INJ_BIT (v.toNat % 2 ^ 13)

theorem execFarInject_refused (mode : modeIn s testModes = false) : execFarInject v s = .next (s.raise blkCfg 31) := by
  unfold execFarInject; simp only [mode, Bool.not_false, if_true]

theorem execFarInject_idle (mode : modeIn s testModes = true) (go : v.getLsbD 31 = false) :
    execFarInject v s = .next (injectNamed s v) := by
  unfold execFarInject
  simp only [mode, BitVec.testBit_toNat, go, Bool.not_true, Bool.false_eq_true, if_false, false_and]
  rfl

/-- A single bit below n truncates to itself at width n, and nothing of it lies above. -/
theorem oneBit_parts (k : Nat) {n m i : Nat} (hm : n ≤ m) (h : i < n) : (BitVec.ofNat m (2 ^ i)).truncate n = BitVec.ofNat n (2 ^ i) ∧
    ((BitVec.ofNat m (2 ^ i)) >>> n).truncate k = 0#k := by
  have small : 2 ^ i < 2 ^ n := Nat.pow_lt_pow_right Nat.one_lt_two h
  constructor
  · apply BitVec.eq_of_toNat_eq
    rw [BitVec.truncate, BitVec.toNat_setWidth, BitVec.toNat_ofNat, BitVec.toNat_ofNat, Nat.mod_mod_of_dvd _ (pow_dvd_pow 2 hm)]
  · apply BitVec.eq_of_toNat_eq
    rw [BitVec.truncate, BitVec.toNat_setWidth, BitVec.toNat_ushiftRight, BitVec.toNat_ofNat, Nat.shiftRight_eq_div_pow,
      Nat.div_eq_of_lt (lt_of_le_of_lt (Nat.mod_le _ _) small), BitVec.toNat_ofNat]

theorem execFarInject_data {fa : Nat} (mode : modeIn s testModes = true) (go : v.getLsbD 31 = true) (at_ : s.fld Reg.FAR_INJ_FA 20 0 = fa)
    (range : fa < 1327104) (loaded : padLoaded s (fa / 9216) = true) (data : v.toNat % 4096 < 2048) (single : v.getLsbD 12 = false)
    (logic : fa % 9216 < 6912) : execFarInject v s = .next (liveFrame (injectNamed s v) fa
      { data := (frameOf s fa).data ^^^ BitVec.ofNat 2048 (2 ^ (v.toNat % 4096)), check := (frameOf s fa).check }) := by
  obtain ⟨dataMask, checkMask⟩ := oneBit_parts 48 (n := 2048) (m := 2096) (by decide) data
  have bits : bitsOf v.toNat 11 0 = v.toNat % 4096 := by simp [bitsOf]
  have status : (injectNamed s v).reg (Reg.CFG_PAD_STAT (fa / 9216)) = s.reg (Reg.CFG_PAD_STAT (fa / 9216)) :=
    reg_setRegN_ne _ _ (by unfold Reg.CFG_PAD_STAT Reg.FAR_INJ_BIT; omega)
  have still : padLoaded (injectNamed s v) (fa / 9216) = true := by
    rw [padLoaded, padState, fld_of_reg 1 0 status]; exact loaded
  have acts : v.getLsbD 31 = true ∧ fa < allFrames ∧ padLoaded (injectNamed s v) (fa / padFrames) = true ∧ v.toNat % 4096 < 2096 :=
    ⟨go, range, still, by omega⟩
  unfold execFarInject
  simp only [mode, at_, BitVec.testBit_toNat, single, Bool.false_and, Bool.not_true, Bool.false_eq_true, if_false, Nat.add_zero, bits, dataMask,
    checkMask, BitVec.xor_zero]
  exact (if_pos acts).trans (if_pos logic)

end

/-! The statement of repairs. -/

/-- Settles O42: a repair written is `liveFrame`; what a verification or a failed re-fetch logs, counts and marks keeps the engines, the
fabric and the marks made before (`FarKept`), also where the Paddock's flag settles the gate behind it; a re-fetch that finds its digest good
only queues its word; a read of the log pops it; an injection is one frame's word with one bit turned. -/
theorem farrierRepair : Obligations.FarrierRepair := by
  refine ⟨fun s e q unwritten => ?_, fun s e written => ?_, fun s e q found clean own lines h8 h9 => ?_,
    fun s e q found clean refetched lines _ _ => ?_, fun s e q i found data own lone free _ _ _ => ?_,
    fun s e f q host oldest gone ctl set _ _ => ?_, fun s e f q r hi c b fs fa d host oldest kept phys room key chunk read recs found digest => ?_,
    fun s init other => ?_, fun s init debug => ?_, fun s v mode => ?_, fun s v mode go range loaded data single logic => ?_,
    fun s v mode go => ?_⟩
  case refine_1 =>
    exact ⟨_, execRepairWrite_writes unwritten, (frameOf_liveFrame ..).trans (if_pos rfl),
      fun f hf => (frameOf_liveFrame ..).trans (if_neg hf.symm), congrArg FarEngine.queue (farEng_setEng ..), rfl, rfl⟩
  case refine_2 => exact ⟨s, execRepairWrite_none written, rfl⟩
  case refine_3 =>
    set u := setEng s e (queueDrop (farEng s e) q.fa)
    have eng : farEng u e = queueDrop (farEng s e) q.fa := farEng_setEng ..
    have done := execRepairVerify_clean found clean
    rw [own, if_neg Bool.false_ne_true, linesService_none ((congrArg FarEngine.lines eng).trans lines)] at done
    have kept := farKept_padSettle u (q.fa / padFrames)
    have shown : padSettle u (q.fa / padFrames) = padShown u (q.fa / padFrames) := padSettle_idle _ h8 h9
    refine ⟨_, done, congrArg FarEngine.queue ((kept.eng e).trans eng), ?_, kept.fab, ?_, sameMem_of_mem kept.mem⟩
    · rw [padRepair_congr kept.eng, shown]; exact flag_padShown _ _
    · rw [shown]; exact fun a ha => (sameRegs_padShown u _ a ha).trans (reg_setEng ..)
  case refine_4 =>
    set u := setEng s e (queueDrop (farEng s e) q.fa)
    have good := farKept_refetchGood u e q
    obtain ⟨count, raised⟩ := refetchGood_shown u e q
    have eng : farEng (refetchGood u e q) e = queueDrop (farEng s e) q.fa := (good.eng e).trans (farEng_setEng ..)
    have done := execRepairVerify_clean found clean
    rw [refetched, if_pos rfl, linesService_none ((congrArg FarEngine.lines eng).trans lines)] at done
    have kept := farKept_padSettle (refetchGood u e q) (q.fa / padFrames)
    exact ⟨_, done, congrArg FarEngine.queue ((kept.eng e).trans eng), (kept.regN (by decide) id).trans count,
      kept.raised (by decide) (by decide) raised, kept.fab.trans good.fab, sameMem_of_mem (kept.mem.trans good.mem)⟩
  case refine_5 =>
    set u := setEng s e (queueDrop (farEng s e) q.fa)
    obtain ⟨keepsEng, fab, mem⟩ := stuckFound_keeps u e q
    obtain ⟨count, raised, marked⟩ := stuckFound_shown u e q
    have eng : farEng (stuckFound u e q) e = queueDrop (farEng s e) q.fa := (keepsEng e).trans (farEng_setEng ..)
    have waiting : inRepair (farEng (stuckFound u e q) e) q.fa = false := by rw [eng]; exact free
    have done := execRepairVerify_stuck found data own lone
    rw [toRepair_lost _ waiting, eng] at done
    have kept := farKept_padSettle (setEng (stuckFound u e q) e { queueDrop (farEng s e) q.fa with
      fetch := (queueDrop (farEng s e) q.fa).fetch ++ [{ fa := q.fa, prio := q.prio }] }) (q.fa / padFrames)
    exact ⟨_, done, congrArg FarEngine.fetch ((kept.eng e).trans (farEng_setEng ..)),
      kept.padMark (by decide) (by decide) ((flag_setEng ..).trans marked), (kept.regN (by decide) id).trans ((regN_setEng ..).trans count),
      kept.raised (by decide) (by decide) ((raised_setEng ..).mpr raised),
      by rw [kept.fab, setEng_fab, fab, setEng_fab], sameMem_of_mem (by rw [kept.mem, setEng_mem, mem, setEng_mem])⟩
  case refine_6 =>
    have lost := farKept_frameLost s e f.fa f.prio
    have kept := farKept_padSettle (frameLost s e f.fa f.prio) (f.fa / padFrames)
    obtain ⟨raised, marked⟩ := frameLost_shown s e f.fa f.prio
    have eng := (kept.eng e).trans ((lost.eng e).trans (farEng_setEng ..))
    refine ⟨_, (execRefetchChunk_sourceless oldest gone).trans (congrArg _ (fetchFail_eq s e f.fa f.prio set ctl)),
      kept.padMark (by decide) (by decide) marked, kept.raised (by decide) (by decide) raised, ?_, kept.fab.trans lost.fab,
      sameMem_of_mem (kept.mem.trans lost.mem)⟩
    rw [eng]; simp [frameDrop]
  case refine_7 =>
    have next : f.pos.getD (f.pos.getD 0) = f.pos.getD 0 := by cases f.pos <;> rfl
    refine ⟨_, execRefetchChunk_finds oldest kept phys room key next chunk read recs found digest, ?_, ?_, rfl⟩
    · exact congrArg FarEngine.queue (farEng_setEng ..)
    · rw [fetched, farEng_setEng]; simp
  case refine_8 =>
    obtain ⟨ans, empty, regs⟩ := logTaken_shown s init
    exact ⟨_, execFarLogRead_pops other, ans, rfl, empty, regs, sameMem_of_mem (mem_logTaken ..)⟩
  case refine_9 => exact ⟨_, execFarLogRead_debug debug, rfl⟩
  case refine_10 => exact ⟨_, execFarInject_refused mode, rfl⟩
  case refine_11 =>
    have named : SameRegs s (injectNamed s v) (· = Reg.FAR_INJ_BIT) := (SameRegs.refl s (· = Reg.FAR_INJ_BIT)).setRegN rfl _
    refine ⟨_, execFarInject_data mode go rfl range loaded data single logic, ?_, ?_,
      fun f hf => (frameOf_liveFrame ..).trans (if_neg hf.symm), named, sameMem_of_mem rfl⟩
    · rw [frameOf_liveFrame, if_pos rfl]
    · rw [frameOf_liveFrame, if_pos rfl]
  case refine_12 => exact ⟨_, execFarInject_idle mode go, rfl⟩

/-! A slot at a place past an engine's cycle. -/

/-- A place past the cycle, in a Paddock that does not exist: its CFG_PAD_STAT would stand at the address of FAR_SEQ_A. -/
def slotPastEnd : Nat := 0x3FFC9 * 9216

theorem padStat_slotPastEnd : Reg.CFG_PAD_STAT (slotPastEnd / 9216) = seqReg 0 := by decide +kernel

/-- A state no run reaches: engine F_A carries all Paddocks and stands at `slotPastEnd`, where a frame with one data bit wrong is
stored; FAR_SEQ_A reads 1, which as a CFG_PAD_STAT is LOADED. -/
def slotPastEndState : State :=
  ((((State.reset.setFlag Reg.FAR_STAT 0 true).setRegN (seqReg 0) 1).setFlag Reg.FAR_CTL 1 false).setFar
    { a := { all := true, base := slotPastEnd } }).setFab { frames := [(slotPastEnd, { data := 2 })] }

theorem place_slotPastEndState :
    basePlace (farEng slotPastEndState (0 : Fin 2)) (0 : Fin 2) (farEng slotPastEndState (0 : Fin 2)).base = slotPastEnd := rfl

theorem slotPastEnd_not_last : (farEng slotPastEndState (0 : Fin 2)).base + 1 ≠ baseLen (farEng slotPastEndState (0 : Fin 2)) := by
  have place : (farEng slotPastEndState (0 : Fin 2)).base = slotPastEnd := rfl
  have places : baseLen (farEng slotPastEndState (0 : Fin 2)) = allFrames := rfl
  rw [place, places]
  decide

set_option maxRecDepth 100000 in
theorem farCase_slotPastEndState : farCase (frameOf slotPastEndState slotPastEnd) = .data 1 := by decide +kernel

/-- The slot makes FAR_SEQ_A 2, so the Paddock no longer reads LOADED and the frame passes unread. -/
theorem queue_frameSlot_slotPastEndState :
    (farEng (after (exec (.frameSlot 0 false) slotPastEndState) slotPastEndState) 0).queue = [] := by decide +kernel

/-- Refutes O41: its clause of an upset in a base slot does not ask that the engine's place lie in its cycle. At a place past every
frame, which no run reaches, the Paddock read LOADED in the state before is the slot's own sequence number, which the slot advances
first (R261): nothing is read, counted or queued. What the clause lacks is the premise `(farEng s e).base < baseLen (farEng s e)`. -/
theorem not_farrierPasses : ¬ Obligations.FarrierPasses := by
  rintro ⟨-, -, upset, -⟩
  have loaded : padLoaded slotPastEndState (slotPastEnd / 9216) = true := by
    rw [padLoaded, padState, padStat_slotPastEnd]; decide +kernel
  have claimed := upset slotPastEndState 0 1 (by decide +kernel) slotPastEnd_not_last
  rw [place_slotPastEndState] at claimed
  obtain ⟨t, ht, queue, -⟩ := claimed (by decide +kernel) loaded farCase_slotPastEndState (by decide) rfl
    (by decide +kernel) rfl (by decide +kernel) (by decide +kernel)
  have unread := queue_frameSlot_slotPastEndState
  rw [ht] at unread
  exact absurd (queue.symm.trans unread) (by simp)

end Sys2Proof.Machine
end

section
/-! SUPPORT. The network on chip: the registers its errors are noted in, its monitors while they are off, and a request at its
injecting port (R282, R283, R290, R291). -/

namespace Sys2Proof.Machine

/-! A state whose network alone differs has the same registers, and one whose registers alone differ the same network. -/

section
variable (s : State) (x : Noc)

@[simp] theorem reg_setNoc (a : Nat) : (s.setNoc x).reg a = s.reg a := rfl
@[simp] theorem regN_setNoc (a : Nat) : (s.setNoc x).regN a = s.regN a := rfl
@[simp] theorem flag_setNoc (a n : Nat) : (s.setNoc x).flag a n = s.flag a n := rfl
@[simp] theorem raised_setNoc (b n : Nat) : Raised (s.setNoc x) b n ↔ Raised s b n := Iff.rfl
@[simp] theorem sameRegs_setNoc (t : State) (w : Nat → Prop) : SameRegs s (t.setNoc x) w ↔ SameRegs s t w := Iff.rfl

end

namespace OnlyRegs

variable {s t : State}

theorem noc (h : OnlyRegs s t) : t.noc = s.noc := by obtain ⟨r, rfl⟩ := h; rfl
theorem ans (h : OnlyRegs s t) : t.ans = s.ans := by obtain ⟨r, rfl⟩ := h; rfl

theorem answer (h : OnlyRegs s t) (i k : Nat) (l : List Nat) : OnlyRegs (s.answer i k l) (t.answer i k l) := by
  obtain ⟨r, rfl⟩ := h; exact ⟨r, rfl⟩

end OnlyRegs

/-- An event below the registers of events. -/
theorem reg_raise_noc (s : State) {n a : Nat} (h : a < evtStatus blkNoc) : (s.raise blkNoc n).reg a = s.reg a :=
  reg_raise s blkNoc n a h.ne (by unfold evtStatus at h; unfold evtCount; omega)

theorem regN_raise_noc (s : State) {n a : Nat} (h : a < evtStatus blkNoc) : (s.raise blkNoc n).regN a = s.regN a :=
  regN_of_reg (reg_raise_noc s h)

/-- A register below those of events leaves the events. -/
theorem raised_setRegN_noc (s : State) {n a v : Nat} (h : a < evtStatus blkNoc) :
    Raised (s.setRegN a v) blkNoc n ↔ Raised s blkNoc n := by
  unfold Raised; rw [flag_of_reg n (reg_setRegN_ne s v h.ne)]

/-! Errors noted (Tables NOC-8 and NOC-10). -/

/-- NOC_LAST_ERR and NOC_LAST_ADDR of an error response. -/
def errNoted (s : State) (r : NocReq) (status : Nat) : State :=
  (s.setRegN Reg.NOC_LAST_ERR (r.init + status * 2 ^ 12)).setRegN Reg.NOC_LAST_ADDR (r.addr / 2 ^ 16)

section
variable (s : State) (r : NocReq) (status : Nat)

theorem onlyRegs_errNoted : OnlyRegs s (errNoted s r status) := ((OnlyRegs.refl s).setRegN _ _).setRegN _ _

theorem reg_errNoted {a : Nat} (h : a ≠ Reg.NOC_LAST_ERR) (h' : a ≠ Reg.NOC_LAST_ADDR) : (errNoted s r status).reg a = s.reg a := by
  unfold errNoted; rw [reg_setRegN_ne _ _ h'.symm, reg_setRegN_ne _ _ h.symm]

theorem raised_errNoted (n : Nat) : Raised (errNoted s r status) blkNoc n ↔ Raised s blkNoc n :=
  (raised_setRegN_noc _ (by decide)).trans (raised_setRegN_noc _ (by decide))

@[simp] theorem errNote_ok : errNote s r 0 = s := rfl
theorem errNote_curb : errNote s r stCurb = errNoted s r stCurb := rfl
theorem errNote_target : errNote s r stTarget = errNoted s r stTarget := rfl
theorem errNote_e2e : errNote s r stE2e = ((errNoted s r stE2e).count Reg.NOC_E2E_CNT).raise blkNoc 4 := rfl

theorem onlyRegs_errNote : OnlyRegs s (errNote s r status) := by
  have noted := onlyRegs_errNoted s r status
  unfold errNote; dsimp only
  split
  · exact .refl s
  split
  · exact (noted.count _).raise _ _
  split
  · exact noted.raise _ _
  split
  · exact noted.raise _ _
  split
  · exact (noted.count _).raise _ _
  · exact noted

/-- A request refused at its port is answered, and nothing but registers changes beside. -/
theorem onlyRegs_refuseReq {t : State} (h : OnlyRegs s t) : OnlyRegs (s.answer r.init status []) (refuseReq t r status) :=
  (h.trans (onlyRegs_errNote t r status)).answer _ _ _

end

/-! Monitors that are off (R291). -/

/-- No monitor is enabled. -/
def MonitorsOff (s : State) : Prop := ∀ m, m < 32 → s.flag (Reg.NOC_MON_CFG m) 16 = false

section
variable {s t : State}

theorem MonitorsOff.of_reg (h : MonitorsOff s) (same : ∀ m, m < 32 → t.reg (Reg.NOC_MON_CFG m) = s.reg (Reg.NOC_MON_CFG m)) :
    MonitorsOff t := fun m hm => (flag_of_reg 16 (same m hm)).trans (h m hm)

variable (h : MonitorsOff s)
include h

theorem monsOf_off (i cls : Nat) : monsOf s i cls = [] :=
  List.filter_eq_nil_iff.mpr fun m hm => by simp [h m (List.mem_range.mp hm)]

theorem monSend_off (r : NocReq) : monSend s r = s := by unfold monSend; rw [monsOf_off h]; rfl
theorem monRefuse_off (r : NocReq) : monRefuse s r = s := by unfold monRefuse; rw [monsOf_off h]; rfl
theorem monDone_off (r : NocReq) : monDone s r = s := by unfold monDone; rw [monsOf_off h]; rfl

end

/-! A Curb (R290). -/

theorem curbOf_lt {s : State} {i n : Nat} (h : curbOf s i = some n) : n < 64 := by
  simp only [curbOf] at h
  split at h
  · cases h; exact bitsOf_lt _ 5 0
  · cases h

/-- A request under way. -/
def sendReq (s : State) (r : NocReq) : State := s.setNoc { s.noc with sent := s.noc.sent ++ [r] }
/-- A request that waits at its port. -/
def paceReq (s : State) (r : NocReq) : State := s.setNoc { s.noc with paced := s.noc.paced ++ [r] }
/-- A request charged to regulator n. -/
def charge (s : State) (r : NocReq) (n : Nat) : State := s.setRegN (Reg.NOC_CURB_LEVEL n) (s.fld (Reg.NOC_CURB_LEVEL n) 23 0 - r.len)
/-- A refusal counted by regulator n. -/
def curbRefused (s : State) (n : Nat) : State := (s.count (Reg.NOC_CURB_REFUSE n)).raise blkNoc 1

section
variable {s : State} {r : NocReq} {n : Nat}

theorem MonitorsOff.charge (h : MonitorsOff s) : MonitorsOff (charge s r n) := h.of_reg fun m _ =>
  reg_setRegN_ne s _ (by unfold Reg.NOC_CURB_LEVEL Reg.NOC_MON_CFG; omega)

theorem MonitorsOff.curbRefused (h : MonitorsOff s) : MonitorsOff (curbRefused s n) := h.of_reg fun m hm => by
  have below : Reg.NOC_MON_CFG m < evtStatus blkNoc := by unfold Reg.NOC_MON_CFG evtStatus blockBase blkNoc ctrlBase; omega
  exact (reg_raise_noc _ below).trans (reg_setRegN_ne s _ (by unfold Reg.NOC_CURB_REFUSE Reg.NOC_MON_CFG; omega))

theorem regN_charge (s : State) (r : NocReq) (n : Nat) :
    (charge s r n).regN (Reg.NOC_CURB_LEVEL n) = s.fld (Reg.NOC_CURB_LEVEL n) 23 0 - r.len := by
  have level : s.fld (Reg.NOC_CURB_LEVEL n) 23 0 < 2 ^ 24 := bitsOf_lt _ 23 0
  unfold charge; rw [regN_setRegN, if_pos rfl]; omega

/-- A request is sent uncharged where its initiator has no Curb. -/
theorem chargeSend_free (off : MonitorsOff s) (h : curbOf s r.init = none) : chargeSend s r = some (sendReq s r) := by
  have off' : MonitorsOff (sendReq s r) := off
  simp only [chargeSend, h]; exact congrArg some (monSend_off off' r)

theorem chargeSend_charged (off : MonitorsOff s) (h : curbOf s r.init = some n) (room : r.len ≤ s.fld (Reg.NOC_CURB_LEVEL n) 23 0) :
    chargeSend s r = some (sendReq (charge s r n) r) := by
  have off' : MonitorsOff (sendReq (charge s r n) r) := off.charge
  simp only [chargeSend, h, if_pos room]; exact congrArg some (monSend_off off' r)

theorem chargeSend_beyond (h : curbOf s r.init = some n) (low : s.fld (Reg.NOC_CURB_LEVEL n) 23 0 < r.len) : chargeSend s r = none := by
  simp only [chargeSend, h, if_neg (Nat.not_le.mpr low)]

/-! A request at its injecting port (R282, R290). -/

theorem inject_across (h : oneBlock r.addr r.len = false) : inject s r = refuseReq s r stDecode := by simp [inject, h]

variable (block : oneBlock r.addr r.len = true) (first : ∀ x ∈ s.noc.paced, x.init ≠ r.init)
include block first

theorem inject_sends {t : State} (h : chargeSend s r = some t) : inject s r = t := by
  have unpaced : s.noc.paced.any (fun x => x.init == r.init) = false := by simpa using first
  simp [inject, block, unpaced, h]

theorem inject_paces (h : chargeSend s r = none) (curb : curbOf s r.init = some n) (pace : s.flag (Reg.NOC_CURB_RATE n) 31 = true) :
    inject s r = paceReq s r := by
  have unpaced : s.noc.paced.any (fun x => x.init == r.init) = false := by simpa using first
  simp [inject, block, unpaced, h, curb, pace, paceReq]

theorem inject_refuses (off : MonitorsOff s) (h : chargeSend s r = none) (curb : curbOf s r.init = some n)
    (pace : s.flag (Reg.NOC_CURB_RATE n) 31 = false) : inject s r = refuseReq (curbRefused s n) r stCurb := by
  have unpaced : s.noc.paced.any (fun x => x.init == r.init) = false := by simpa using first
  have counted : monRefuse ((s.count (Reg.NOC_CURB_REFUSE n)).raise blkNoc 1) r = curbRefused s n :=
    monRefuse_off off.curbRefused r
  simp [inject, block, unpaced, h, curb, pace, counted]

end

end Sys2Proof.Machine
end

section
/-! PROOFS. A statement of 10_noc_scratchpad.md: injection, Curbs, links, responses and monitors (R282, R283, R287, R289, R290, R291). -/

namespace Sys2Proof.Machine

/-! Injection (R282, R290). -/

section
variable {s : State} {r : NocReq} {n : Nat}

theorem sendReq_frame (s : State) (r : NocReq) :
    sendReq s r = { s with noc := (sendReq s r).noc } ∧ (sendReq s r).noc = { s.noc with sent := (sendReq s r).noc.sent } := ⟨rfl, rfl⟩

theorem sameRegs_charge (s : State) (r : NocReq) (n : Nat) : SameRegs s (charge s r n) (· = Reg.NOC_CURB_LEVEL n) :=
  SameRegs.setRegN (w := (· = Reg.NOC_CURB_LEVEL n)) (.refl s _) rfl _

theorem onlyRegs_charge (s : State) (r : NocReq) (n : Nat) : OnlyRegs s (charge s r n) := (OnlyRegs.refl s).setRegN _ _
theorem onlyRegs_curbRefused (s : State) (n : Nat) : OnlyRegs s (curbRefused s n) := ((OnlyRegs.refl s).count _).raise _ _

theorem raised_refused (s : State) (r : NocReq) (n : Nat) : Raised (refuseReq (curbRefused s n) r stCurb) blkNoc 1 := by
  unfold refuseReq
  rw [raised_answer, errNote_curb, raised_errNoted]
  exact flag_raise _ _ 1 (by decide)

theorem regN_refused (s : State) (r : NocReq) {n : Nat} (hn : n < 64) :
    (refuseReq (curbRefused s n) r stCurb).regN (Reg.NOC_CURB_REFUSE n) = satNat 32 (s.regN (Reg.NOC_CURB_REFUSE n) + 1) := by
  have below : Reg.NOC_CURB_REFUSE n < evtStatus blkNoc := by unfold Reg.NOC_CURB_REFUSE evtStatus blockBase blkNoc ctrlBase; omega
  unfold refuseReq
  rw [regN_answer, errNote_curb, regN_of_reg (reg_errNoted _ _ _ ?_ ?_), curbRefused, regN_raise_noc _ below, regN_count]
  · unfold Reg.NOC_CURB_REFUSE Reg.NOC_LAST_ERR; omega
  · unfold Reg.NOC_CURB_REFUSE Reg.NOC_LAST_ADDR; omega

theorem raised_across (s : State) (r : NocReq) : Raised (refuseReq s r stDecode) blkNoc 0 := by
  unfold refuseReq; rw [raised_answer, errNote_decode]; exact flag_raise _ _ 0 (by decide)

theorem regN_across (s : State) (r : NocReq) :
    (refuseReq s r stDecode).regN Reg.NOC_DECODE_CNT = satNat 32 (s.regN Reg.NOC_DECODE_CNT + 1) := by
  unfold refuseReq
  rw [regN_answer, errNote_decode, regN_raise_noc _ (by decide), regN_count]
  exact congrArg (fun k => satNat 32 (k + 1)) (regN_of_reg (reg_errNoted s r stDecode (by decide) (by decide)))

end

section
variable {s : State} {init : Fin 512} {op : Fin 4} {addr : BitVec 48} {len : Fin 256} {tag : BitVec 8} {data : List Byte}

/-- The request of NOC_INJECT. -/
def injected (s : State) (init : Fin 512) (op : Fin 4) (addr : BitVec 48) (len : Fin 256) (tag : BitVec 8) (data : List Byte) : NocReq :=
  reqOf s init op addr.toNat (len.val + 1) tag.toNat (padTo (if op.val = 0 then 0 else len.val + 1) data)

theorem exec_nocInject_used (hu : initUsed init.val = true) (hf : init.val < 256 ∨ 400 ≤ init.val) (hd : init.val ≠ 474) :
    exec (.nocInject init op addr len tag data) s = .next (inject s (injected s init op addr len tag data)) := by
  rw [exec_nocInject]; unfold execNocInject
  rw [if_pos (by simpa [hu, debugInit, hd] using hf)]; rfl

end

/-! The refill of the buckets (R290). -/

/-- What CURB_REFILL leaves in a bucket. -/
def refilled (s : State) (n : Nat) : Nat :=
  Nat.min (s.fld (Reg.NOC_CURB_LEVEL n) 23 0 + s.fld (Reg.NOC_CURB_RATE n) 15 0) (curbBurst s n)

/-- The buckets below k refilled. -/
def refillBelow (s : State) (k : Nat) : State := (List.range k).foldl (fun s n => s.setRegN (Reg.NOC_CURB_LEVEL n) (refilled s n)) s

section
variable (s : State)

theorem refillBelow_succ (k : Nat) :
    refillBelow s (k + 1) = (refillBelow s k).setRegN (Reg.NOC_CURB_LEVEL k) (refilled (refillBelow s k) k) := by
  simp [refillBelow, List.range_succ]

theorem onlyRegs_refillBelow (k : Nat) : OnlyRegs s (refillBelow s k) := (OnlyRegs.refl s).foldl fun u _ => (OnlyRegs.refl u).setRegN _ _

theorem sameRegs_refillBelow : ∀ k, SameRegs s (refillBelow s k) (fun a => ∃ j, j < k ∧ a = Reg.NOC_CURB_LEVEL j)
  | 0 => SameRegs.refl s _
  | k + 1 => by
    rw [refillBelow_succ]
    have below : SameRegs s (refillBelow s k) (fun a => ∃ j, j < k + 1 ∧ a = Reg.NOC_CURB_LEVEL j) := fun a ha =>
      sameRegs_refillBelow k a fun ⟨j, hj, e⟩ => ha ⟨j, by omega, e⟩
    exact below.setRegN ⟨k, by omega, rfl⟩ _

theorem refilled_lt (n : Nat) : refilled s n < 2 ^ 32 := by
  have burst : s.fld (Reg.NOC_CURB_BURST n) 23 0 < 2 ^ 24 := bitsOf_lt _ 23 0
  exact lt_of_le_of_lt (Nat.min_le_right _ _) (lt_trans (Nat.max_lt.mpr ⟨by decide, burst⟩) (by decide))

/-- A bucket's refill reads only its own regulator's registers. -/
theorem refilled_refillBelow {k n : Nat} (h : k ≤ n) : refilled (refillBelow s k) n = refilled s n := by
  have same := sameRegs_refillBelow s k
  have level := same (Reg.NOC_CURB_LEVEL n) (by unfold Reg.NOC_CURB_LEVEL; omega)
  have rate := same (Reg.NOC_CURB_RATE n) (by unfold Reg.NOC_CURB_LEVEL Reg.NOC_CURB_RATE; omega)
  have burst := same (Reg.NOC_CURB_BURST n) (by unfold Reg.NOC_CURB_LEVEL Reg.NOC_CURB_BURST; omega)
  unfold refilled curbBurst
  rw [fld_of_reg 23 0 level, fld_of_reg 15 0 rate, fld_of_reg 23 0 burst]

theorem regN_refillBelow {n : Nat} : ∀ k, n < k → (refillBelow s k).regN (Reg.NOC_CURB_LEVEL n) = refilled s n
  | 0, h => absurd h (Nat.not_lt_zero n)
  | k + 1, h => by
    rw [refillBelow_succ, regN_setRegN]
    by_cases e : k = n
    · rw [if_pos (by rw [e]), refilled_refillBelow s (by omega), e, Nat.mod_eq_of_lt (refilled_lt s n)]
    · rw [if_neg (by unfold Reg.NOC_CURB_LEVEL; omega), regN_refillBelow k (by omega)]

theorem retryPaced_idle {s : State} (h : s.noc.paced = []) : retryPaced s = s := by
  have same : { s.noc with paced := [] } = s.noc := by rw [← h]
  unfold retryPaced; rw [h, same]; rfl

theorem exec_curbRefill_idle (h : s.noc.paced = []) : exec .curbRefill s = .next (refillBelow s 64) := by
  have idle : (refillBelow s 64).noc.paced = [] := by rw [(onlyRegs_refillBelow s 64).noc, h]
  rw [exec_curbRefill]
  exact congrArg Host.Outcome.next (retryPaced_idle idle)

end

/-! The Outrider told (R506, R507): memory and the registers below its block are as before. -/

/-- Only the Outrider's registers and what is neither memory nor a register differ. -/
structure OutKept (s t : State) : Prop where
  mem  : t.mem = s.mem
  regs : ∀ a, a < blockBase blkOut → t.reg a = s.reg a

namespace OutKept

variable {s t : State}

theorem refl (s : State) : OutKept s s := ⟨rfl, fun _ _ => rfl⟩

theorem setRegN (h : OutKept s t) {a : Nat} (v : Nat) (ha : blockBase blkOut ≤ a) : OutKept s (t.setRegN a v) :=
  ⟨(State.setRegN_mem ..).trans h.mem, fun j hj => (reg_setRegN_ne t v (by omega)).trans (h.regs j hj)⟩

theorem raise (h : OutKept s t) (n : Nat) : OutKept s (t.raise blkOut n) :=
  OutKept.setRegN (h.setRegN _ (by decide)) _ (by unfold evtCount; omega)

theorem raiseIf (h : OutKept s t) (c : Bool) (n : Nat) : OutKept s (t.raiseIf c blkOut n) := by
  cases c
  · exact h
  · exact h.raise n

theorem tim (h : OutKept s t) (x : Timing) : OutKept s { t with tim := x } := ⟨h.mem, h.regs⟩
theorem out (h : OutKept s t) (x : Outrider) : OutKept s { t with out := x } := ⟨h.mem, h.regs⟩

theorem outStat (h : OutKept s t) : OutKept s t.outStat :=
  OutKept.setRegN ((((h.setRegN _ (by decide)).setRegN _ (by decide)).setRegN _ (by decide)).raiseIf _ _) _ (by decide)

theorem gateSettle (h : OutKept s t) : OutKept s t.gateSettle := by
  unfold State.gateSettle; split
  · have shut : OutKept s (t.setFlag Reg.OUT_STAT 0 false) := h.setRegN _ (by decide)
    exact ((shut.tim _).raise 1).outStat
  · exact h.outStat

theorem latchClass (h : OutKept s t) (c : Nat) : OutKept s (t.latchClass c) := by
  unfold State.latchClass; extract_lets s1 s2
  have k2 : OutKept s s2 :=
    (h.setRegN (a := Reg.OUT_LATCH) _ (by decide)).setRegN _ (by unfold Reg.OUT_CLASS_CNT blockBase ctrlBase blkOut; omega)
  split
  · exact (OutKept.setRegN (k2.setRegN _ (by decide)) _ (by decide)).out _
  · exact k2

theorem react (h : OutKept s t) (c : Nat) : OutKept s (t.react c) := by
  unfold State.react; dsimp only
  refine OutKept.gateSettle ?_
  split
  · exact h.raise 10
  split
  · exact h
  · exact OutKept.setRegN (h.raiseIf _ 0) _ (by decide)

theorem detectNow (h : OutKept s t) (c : Nat) : OutKept s (t.detectNow c) := by
  have detected : OutKept s (t.detect c) := by
    unfold State.detect; split
    · exact ((h.setRegN _ (by decide)).latchClass c).react c
    · exact h
  exact OutKept.gateSettle (detected.setRegN _ (by decide))

end OutKept

/-! A resend (R287). -/

/-- A resend counted, with the failures in a row that its link then has. -/
def linkResent (s : State) (router dir n : Nat) : State :=
  ((s.count (Reg.NOC_LINK_RETRY router)).raise blkNoc 2).setNoc
    { s.noc with fails := sput (fun _ => 0) s.noc.fails (4 * router + dir) n }

/-- A link latched as failed, before the Outrider is told. -/
def linkFailed (s : State) (router dir : Nat) : State :=
  ((linkResent s router dir 16).setRegN Reg.NOC_STAT (1 + 2 * router)).raise blkNoc 3

section
variable {s : State} {router : Fin 168} {dir : Fin 4}

theorem linkRetry_below (router : Fin 168) : Reg.NOC_LINK_RETRY router < evtStatus blkNoc := by
  unfold Reg.NOC_LINK_RETRY evtStatus blockBase blkNoc ctrlBase; omega

section
variable (s router dir) (n : Nat)

theorem fails_linkResent : sget (fun _ => 0) (linkResent s router dir n).noc.fails (4 * router.val + dir.val) = n := sget_sput_same _ _ _ _

theorem regN_linkResent :
    (linkResent s router dir n).regN (Reg.NOC_LINK_RETRY router) = satNat 32 (s.regN (Reg.NOC_LINK_RETRY router) + 1) := by
  rw [linkResent, regN_setNoc, regN_raise_noc _ (linkRetry_below router), regN_count]

theorem raised_linkResent : Raised (linkResent s router dir n) blkNoc 2 := by
  rw [linkResent, raised_setNoc]; exact flag_raise _ _ 2 (by decide)

theorem sameRegs_linkResent : SameRegs s (linkResent s router dir n) (fun a => a = Reg.NOC_LINK_RETRY router ∨ evtOf blkNoc 2 a) := by
  rw [linkResent, sameRegs_setNoc]
  exact fun a ha => (sameRegs_raise _ _ _ a fun e => ha (.inr e)).trans (reg_setRegN_ne s _ fun e => ha (.inl e.symm))

theorem mem_linkResent : (linkResent s router dir n).mem = s.mem := by simp [linkResent]

end

theorem exec_linkResend_good (h : sget (fun _ => 0) s.noc.fails (4 * router.val + dir.val) ≠ 15) :
    exec (.linkResend router dir true) s = .next (linkResent s router dir 0) := by
  simp [execLinkResend, linkResent, h, State.count]

theorem exec_linkResend_sixteenth (h : sget (fun _ => 0) s.noc.fails (4 * router.val + dir.val) = 15)
    (first : s.flag Reg.NOC_STAT 0 = false) : exec (.linkResend router dir false) s = .next ((linkFailed s router dir).detectNow 19) := by
  have unlatched : ((s.count (Reg.NOC_LINK_RETRY router)).raise blkNoc 2).flag Reg.NOC_STAT 0 = false := by
    rw [flag_of_reg 0 (reg_raise_noc _ (by decide)), State.count,
      flag_of_reg 0 (reg_setRegN_ne _ _ (by unfold Reg.NOC_LINK_RETRY Reg.NOC_STAT; omega)), first]
  simp [execLinkResend, linkFailed, linkResent, h, unlatched]

end

/-! A response delivered (R283, R289). -/

/-- The responses left under way. -/
def respsLeft (s : State) (q : List NocResp) : State := s.setNoc { s.noc with resps := q }

section
variable {s : State} {init : Fin 512} {tag : BitVec 8} {x : NocResp} {q : List NocResp} {bad : Bool}
  (head : s.noc.resps = x :: q) (hi : x.req.init = init.val) (ht : x.req.tag = tag.toNat) (off : MonitorsOff s)
include head hi ht off

theorem exec_nocResponse_head : exec (.nocResponse init tag bad) s = .next
    (if bad && x.req.e2e then (errNote (respsLeft s q) x.req stE2e).answer init stE2e []
      else (respsLeft s q).answer init x.status (x.data.map (·.toNat))) := by
  have off' : MonitorsOff (respsLeft s q) := off
  have done : monDone (respsLeft s q) x.req = respsLeft s q := monDone_off off' x.req
  unfold respsLeft at *
  simp only [exec_nocResponse, execNocResponse, head, List.findIdx?_cons, hi, ht, beq_self_eq_true, Bool.and_self, if_true,
    List.getElem?_cons_zero, List.eraseIdx_cons_zero, done]
  split <;> rfl

end

/-! Monitors zeroed (R291). -/

/-- The counts of monitor m. -/
def monCounts (m : Nat) : List Nat :=
  [Reg.NOC_MON_BYTES m, Reg.NOC_MON_BYTES m + 4, Reg.NOC_MON_REQ m, Reg.NOC_MON_REF m, Reg.NOC_MON_LSUM m, Reg.NOC_MON_LSUM m + 4,
    Reg.NOC_MON_LMAX m]

/-- The counts of the monitors a value selects. -/
def selectedCounts (v : BitVec 32) : List Nat := (List.range 32).flatMap fun m => if v.getLsbD m then monCounts m else []

/-- Registers zeroed one after another. -/
def zeroRegs (s : State) (l : List Nat) : State := l.foldl (fun s a => s.setRegN a 0) s

theorem mem_selectedCounts {v : BitVec 32} {a : Nat} :
    a ∈ selectedCounts v ↔ ∃ m, m < 32 ∧ v.getLsbD m = true ∧ a ∈ monCounts m := by
  simp only [selectedCounts, List.mem_flatMap, List.mem_range, List.mem_ite_nil_right]

theorem reg_zeroRegs (a : Nat) : ∀ (l : List Nat) (s : State), (zeroRegs s l).reg a = if a ∈ l then 0 else s.reg a
  | [], _ => rfl
  | b :: l, s => by
    have rest : (zeroRegs s (b :: l)).reg a = if a ∈ l then 0 else (s.setRegN b 0).reg a := reg_zeroRegs a l _
    rw [rest, State.setRegN, reg_setReg]
    by_cases hl : a ∈ l
    · simp [hl]
    · simp [hl, eq_comm]

theorem onlyRegs_zeroRegs (s : State) (l : List Nat) : OnlyRegs s (zeroRegs s l) :=
  (OnlyRegs.refl s).foldl fun u _ => (OnlyRegs.refl u).setRegN _ _

theorem exec_nocMonClr_eq (v : BitVec 32) (s : State) : exec (.nocMonClr v) s = .next (zeroRegs s (selectedCounts v)) := by
  rw [exec_nocMonClr, zeroRegs, selectedCounts, List.foldl_flatMap]
  refine congrArg Host.Outcome.next (congrArg (fun f => List.foldl f s (List.range 32)) ?_)
  funext u m
  split <;> rfl

theorem mem_monCounts {m a : Nat} : a ∈ monCounts m ↔
    a = Reg.NOC_MON_BYTES m ∨ a = Reg.NOC_MON_BYTES m + 4 ∨ a = Reg.NOC_MON_REQ m ∨
    a = Reg.NOC_MON_REF m ∨ a = Reg.NOC_MON_LSUM m ∨ a = Reg.NOC_MON_LSUM m + 4 ∨ a = Reg.NOC_MON_LMAX m := by
  simp [monCounts]

/-! The statement. -/

/-- Settles O43: a request is one of `inject`'s four cases, and each of the others writes the registers its rule names. -/
theorem nocTransport : Obligations.NocTransport := by
  refine ⟨fun s init op addr len tag data hu hf hd block curb first off => ?_,
    fun s init op addr len tag data n hu hf hd block curb room first off => ?_,
    fun s init op addr len tag data n hu hf hd block curb low pace first off => ?_,
    fun s init op addr len tag data n hu hf hd block curb low pace first off => ?_,
    fun s init op addr len tag data hu hf hd across => ?_, fun s n idle hn => ?_, fun s router dir h => ?_,
    fun s router dir h unlatched => ?_, fun s init tag x q bad head hi ht plain off => ?_,
    fun s init tag x q head hi ht checked off => ?_, fun s v m a hm hv ha => ?_, fun s v => ?_⟩
  case refine_1 =>
    refine ⟨_, exec_nocInject_used hu hf hd, ?_⟩
    rw [inject_sends (r := injected s init op addr len tag data) block first (chargeSend_free off curb)]
    exact ⟨rfl, sendReq_frame s _⟩
  case refine_2 =>
    refine ⟨_, exec_nocInject_used hu hf hd, ?_⟩
    rw [inject_sends (r := injected s init op addr len tag data) block first (chargeSend_charged off curb room)]
    exact ⟨rfl, regN_charge s _ n, sameRegs_charge s _ n, (onlyRegs_charge s (injected s init op addr len tag data) n).sameMem⟩
  case refine_3 =>
    refine ⟨_, exec_nocInject_used hu hf hd, ?_⟩
    rw [inject_paces (r := injected s init op addr len tag data) block first (chargeSend_beyond curb low) curb pace]
    exact ⟨rfl, rfl, rfl⟩
  case refine_4 =>
    refine ⟨_, exec_nocInject_used hu hf hd, ?_⟩
    rw [inject_refuses (r := injected s init op addr len tag data) block first off (chargeSend_beyond curb low) curb pace]
    have only := onlyRegs_refuseReq s (injected s init op addr len tag data) stCurb (onlyRegs_curbRefused s n)
    exact ⟨only.ans, only.noc, regN_refused s _ (curbOf_lt curb), raised_refused s _ n, only.sameMem⟩
  case refine_5 =>
    refine ⟨_, exec_nocInject_used hu hf hd, ?_⟩
    rw [inject_across (r := injected s init op addr len tag data) across]
    have only := onlyRegs_refuseReq s (injected s init op addr len tag data) stDecode (.refl s)
    exact ⟨only.ans, only.noc, raised_across s _, regN_across s _, only.sameMem⟩
  case refine_6 =>
    exact ⟨_, exec_curbRefill_idle s idle, regN_refillBelow s 64 hn, sameRegs_refillBelow s 64, (onlyRegs_refillBelow s 64).sameMem⟩
  case refine_7 =>
    exact ⟨_, exec_linkResend_good h, fails_linkResent s router dir 0, regN_linkResent s router dir 0, raised_linkResent s router dir 0,
      sameRegs_linkResent s router dir 0, sameMem_of_mem (mem_linkResent s router dir 0)⟩
  case refine_8 =>
    have told : OutKept (linkFailed s router dir) ((linkFailed s router dir).detectNow 19) := (OutKept.refl _).detectNow 19
    refine ⟨_, exec_linkResend_sixteenth h unlatched, ?_, ?_, sameMem_of_mem ?_⟩
    · rw [regN_of_reg (told.regs _ (by decide)), linkFailed, regN_raise_noc _ (by decide), regN_setRegN, if_pos rfl]; omega
    · unfold Raised
      rw [flag_of_reg 3 (told.regs _ (by decide))]
      exact flag_raise _ _ 3 (by decide)
    · rw [told.mem, linkFailed, State.raise_mem, State.setRegN_mem, mem_linkResent]
  case refine_9 =>
    have used : (bad && x.req.e2e) = false := by rcases plain with h | h <;> simp [h]
    refine ⟨_, exec_nocResponse_head head hi ht off, ?_⟩
    rw [used]
    exact ⟨rfl, rfl, rfl, rfl⟩
  case refine_10 =>
    have only := (onlyRegs_errNote (respsLeft s q) x.req stE2e).answer init stE2e []
    refine ⟨_, exec_nocResponse_head head hi ht off, ?_⟩
    rw [checked, Bool.and_self, if_pos rfl]
    refine ⟨only.ans, only.noc, ?_, ?_, only.sameMem⟩
    · rw [raised_answer, errNote_e2e]; exact flag_raise _ _ 4 (by decide)
    · rw [regN_answer, errNote_e2e, regN_raise_noc _ (by decide), regN_count, regN_of_reg (reg_errNoted _ _ _ (by decide) (by decide)),
        respsLeft, regN_setNoc]
  case refine_11 =>
    refine ⟨_, exec_nocMonClr_eq v s, ?_, (onlyRegs_zeroRegs s _).eq⟩
    unfold State.regN
    rw [reg_zeroRegs, if_pos (mem_selectedCounts.mpr ⟨m, hm, hv, mem_monCounts.mpr ha⟩)]; rfl
  case refine_12 =>
    refine ⟨_, exec_nocMonClr_eq v s, fun a ha => ?_, (onlyRegs_zeroRegs s _).sameMem⟩
    simp only [← mem_monCounts, ← mem_selectedCounts] at ha
    rw [reg_zeroRegs, if_neg ha]

end Sys2Proof.Machine
end

section
/-! PROOFS. A statement of 10_noc_scratchpad.md: the fabric's router port (R293, R294, R295), and the power states and the test
corruption of scratchpad banks (R300, R302). -/

namespace Sys2Proof.Machine

/-! Requests of the fabric (R293). -/

section
variable {s : State} {p : Fin 144} {kind : Fin 4} {tag : Fin 16} {addr : BitVec 48} {len : Fin 256} {cls : Fin 4} {kix : Fin 64}
  {await : Bool} {data : List Byte}

/-- The request of FRP_REQUEST. -/
def frpReq (s : State) (p : Fin 144) (kind : Fin 4) (tag : Fin 16) (addr : BitVec 48) (len : Fin 256) (cls : Fin 4) (kix : Fin 64)
    (await : Bool) (data : List Byte) : NocReq :=
  { reqOf s (256 + p.val) kind addr.toNat (len.val + 1) tag (padTo (if kind.val = 0 then 0 else len.val + 1) data) with
    cls := if inCtrl addr.toNat then 1 else cls, kix := kix, await := await }

theorem exec_frpRequest_isolated (h : padIsolated s p = true) : exec (.frpRequest p kind tag addr len cls kix await data) s = .next s := by
  simp [execFrpRequest, h]

theorem exec_frpRequest_admitted (h : padIsolated s p = false) (en : frpCfg s p 5 1 = 1) (adm : (frpCfg s p 7 4).testBit cls.val = true) :
    exec (.frpRequest p kind tag addr len cls kix await data) s = .next (inject s (frpReq s p kind tag addr len cls kix await data)) := by
  simp only [exec_frpRequest, execFrpRequest, h, en, adm, and_self, if_true, Bool.false_eq_true, if_false]; rfl

theorem exec_frpRequest_refused (h : padIsolated s p = false) (no : frpCfg s p 5 1 ≠ 1 ∨ (frpCfg s p 7 4).testBit cls.val = false)
    (off : MonitorsOff s) : exec (.frpRequest p kind tag addr len cls kix await data) s =
      .next (refuseReq s (frpReq s p kind tag addr len cls kix await data) stCurb) := by
  have barred : ¬(frpCfg s p 5 1 = 1 ∧ (frpCfg s p 7 4).testBit cls.val = true) := by
    rintro ⟨en, adm⟩; rcases no with h | h
    · exact h en
    · rw [adm] at h; cases h
  have uncounted := monRefuse_off off (frpReq s p kind tag addr len cls kix await data)
  simp only [exec_frpRequest, execFrpRequest, h, barred, Bool.false_eq_true, if_false]
  exact congrArg (fun t => Host.Outcome.next (refuseReq t _ stCurb)) uncounted

end

/-! Accesses of a Paddock's window (R293, R294). -/

section
variable {s : State} {p : Fin 144} {r : NocReq} {t status : Nat} {data : List Byte}

theorem respond_awaited (awaited : r.tag < 256) :
    respond s r status data = (errNote s r status).setNoc { s.noc with resps := s.noc.resps ++ [⟨r, status, data⟩] } := by
  unfold respond
  rw [if_neg (by unfold orphan; omega), (onlyRegs_errNote s r status).noc]

/-- An awaited response joins those under way. -/
theorem noc_respond (awaited : r.tag < 256) : (respond s r status data).noc =
    { s.noc with resps := s.noc.resps ++ [⟨r, status, data⟩] } := by
  rw [respond_awaited awaited, State.setNoc_noc]

theorem regs_respond_ok (awaited : r.tag < 256) : (respond s r 0 data).regs = s.regs := by
  rw [respond_awaited awaited, State.setNoc_regs, errNote_ok]

theorem mem_respond (awaited : r.tag < 256) : (respond s r status data).mem = s.mem := by
  rw [respond_awaited awaited, State.setNoc_mem, (onlyRegs_errNote s r status).mem]

theorem winFeed_idle (n p : Nat) (h : s.noc.winQ = []) : winFeed n s p = s := by
  cases n with
  | zero => rfl
  | succ n => simp [winFeed, h]

/-- The window's accesses are over. -/
def winEmpty (s : State) : State := s.setNoc { s.noc with win := [] }

theorem mem_winEmpty (s : State) : (winEmpty s).mem = s.mem := rfl

/-- The only outstanding access of a window ended, with none that waits. -/
theorem winEnd_only (only : s.noc.win = [(p.val, t, r)]) (idle : s.noc.winQ = []) : winEnd s p t = winEmpty s := by
  have dropped : s.noc.win.filter (fun e => !(e.1 == p.val && e.2.1 == t)) = [] := by simp [only]
  unfold winEnd
  rw [winFeed_idle _ _ (by exact idle), dropped]; rfl

theorem find?_only (p t : Nat) (r : NocReq) : [(p, t, r)].find? (fun e => e.1 == p && e.2.1 == t) = some (p, t, r) := by simp

theorem exec_frpTargetResponse_read {tag : BitVec 8} {status : Fin 8} (seen : padIsolated s p = false)
    (only : s.noc.win = [(p.val, tag.toNat, r)]) (idle : s.noc.winQ = []) (awaited : r.tag < 256) (ok : status.val = 0) (read : r.op = 0) :
    exec (.frpTargetResponse p tag status data) s = .next (winEmpty (respond s r 0 (padTo r.len data))) := by
  have still : (respond s r 0 (padTo r.len data)).noc.win = [(p.val, tag.toNat, r)] := by rw [noc_respond awaited]; exact only
  have idleStill : (respond s r 0 (padTo r.len data)).noc.winQ = [] := by rw [noc_respond awaited]; exact idle
  simp only [exec_frpTargetResponse, execFrpTargetResponse, seen, only, find?_only, read, ok, Bool.false_eq_true, if_false, if_true]
  rw [winEnd_only still idleStill]

/-- A late answer leaves the list of tags timed out. -/
theorem exec_frpTargetResponse_late {tag : BitVec 8} {status : Fin 8} (seen : padIsolated s p = false)
    (ended : s.noc.win = []) (late : s.noc.winOld.contains (p.val, tag.toNat) = true) :
    exec (.frpTargetResponse p tag status data) s =
      .next ((s.setNoc { s.noc with winOld := s.noc.winOld.filter (fun e => e != (p.val, tag.toNat)) }).raise blkNoc 7) := by
  simp only [exec_frpTargetResponse, execFrpTargetResponse, seen, ended, late, List.find?_nil, Bool.false_eq_true, if_false, if_true]

/-- An access answered TARGET, with its tag kept for a late answer. -/
def timedOut (s : State) (r : NocReq) (p t : Nat) : State :=
  let u := (respond s r stTarget []).raise blkNoc 5
  u.setNoc { u.noc with winOld := u.noc.winOld ++ [(p, t)] }

theorem noc_timedOut (p t : Nat) (awaited : r.tag < 256) : (timedOut s r p t).noc =
    { s.noc with resps := s.noc.resps ++ [⟨r, stTarget, []⟩], winOld := s.noc.winOld ++ [(p, t)] } := by
  unfold timedOut; dsimp only
  rw [State.setNoc_noc, State.raise_noc, noc_respond awaited]

theorem raised_timedOut (s : State) (r : NocReq) (p t : Nat) : Raised (timedOut s r p t) blkNoc 5 := by
  unfold timedOut; dsimp only
  rw [raised_setNoc]; exact flag_raise _ _ 5 (by decide)

theorem mem_timedOut (p t : Nat) (awaited : r.tag < 256) : (timedOut s r p t).mem = s.mem := by
  unfold timedOut; dsimp only
  rw [State.setNoc_mem, State.raise_mem, mem_respond awaited]

theorem exec_tgtTimeout_only {tag : Fin 4} (only : s.noc.win = [(p.val, tag.val, r)]) (idle : s.noc.winQ = []) (awaited : r.tag < 256) :
    exec (.tgtTimeout p tag) s = .next (winEmpty (timedOut s r p tag)) := by
  have still : (timedOut s r p tag).noc.win = [(p.val, tag.val, r)] := by rw [noc_timedOut _ _ awaited]; exact only
  have idleStill : (timedOut s r p tag).noc.winQ = [] := by rw [noc_timedOut _ _ awaited]; exact idle
  simp only [exec_tgtTimeout, execTgtTimeout, only, find?_only]
  exact congrArg Host.Outcome.next (winEnd_only still idleStill)

end

/-! The power states of a bank (R300). -/

theorem find?_sinsert {α : Type} {k : Nat} {v : α} : ∀ {m : List (Nat × α)}, (∀ e ∈ m, e.1 ≠ k) →
    (sinsert k v m).find? (fun e => e.1 == k) = some (k, v)
  | [], _ => by simp [sinsert]
  | (j, w) :: m, h => by
    have rest := find?_sinsert (v := v) (m := m) fun e he => h e (List.mem_cons_of_mem _ he)
    have other : j ≠ k := h (j, w) List.mem_cons_self
    unfold sinsert; split
    · simp
    · simpa [other] using rest

theorem find?_sinsert_sdrop {α : Type} (k : Nat) (v : α) (m : List (Nat × α)) :
    (sinsert k v (sdrop k m)).find? (fun e => e.1 == k) = some (k, v) :=
  find?_sinsert fun _ he => (mem_sdrop.mp he).2

section
variable {s : State} {b : Fin 64} {goal : Nat}

theorem spGo_busy (h : s.noc.spTo.any (fun e => e.1 == b.val) = true) :
    spGo s b goal = s.setNoc { s.noc with spNext := sinsert b.val goal (sdrop b s.noc.spNext) } := by
  unfold spGo; rw [if_pos h]

/-- What SP_BANK_STAT shows of a bank in transition: WAKING to ON or out of OFF, otherwise on the way down. -/
def spMoving (now goal : Nat) : Nat := if goal = 0 ∨ now = 2 then 3 else 4

theorem spGo_begins (rests : ∀ e ∈ s.noc.spTo, e.1 ≠ b.val) (new : s.fld (Reg.SP_BANK_STAT b) 2 0 ≠ goal) :
    spGo s b goal = (s.setNoc { s.noc with spTo := sinsert b.val goal s.noc.spTo }).setFld (Reg.SP_BANK_STAT b) 2 0
      (spMoving (s.fld (Reg.SP_BANK_STAT b) 2 0) goal) := by
  have absent : s.noc.spTo.any (fun e => e.1 == b.val) = false := List.any_eq_false.mpr fun e he => by simpa using rests e he
  simp only [spGo, absent, new, Bool.false_eq_true, if_false]; rfl

theorem spMoving_lt (now goal : Nat) : spMoving now goal < 2 ^ 3 := by unfold spMoving; split <;> decide

/-- A write of SP_BANK_CFG stored. -/
def spCfgSet (s : State) (b : Nat) (v : BitVec 32) : State := s.setReg (Reg.SP_BANK_CFG b) (v &&& 0x33#32)

theorem exec_spBankCfgWrite_eq (s : State) (b : Fin 64) (v : BitVec 32) :
    exec (.spBankCfgWrite b v) s = .next (spGo (spCfgSet s b v) b (spCode (v.toNat % 4))) := by
  rw [exec_spBankCfgWrite, execSpBankCfgWrite, bitsOf, pow_zero, Nat.div_one]; rfl

theorem regN_spCfgSet (s : State) (b : Nat) (v : BitVec 32) : (spCfgSet s b v).regN (Reg.SP_BANK_CFG b) = Nat.land v.toNat 0x33 := by
  unfold spCfgSet State.regN; rw [reg_setReg_same, BitVec.toNat_and]; rfl

theorem reg_spCfgSet_ne (s : State) {b a : Nat} (v : BitVec 32) (h : Reg.SP_BANK_CFG b ≠ a) : (spCfgSet s b v).reg a = s.reg a := by
  unfold spCfgSet; rw [reg_setReg, if_neg h]

/-! The end of a transition (R300, Table NOC-7). -/

/-- A bank at rest in a state. -/
def spRest (s : State) (b goal : Nat) : State := (s.setNoc { s.noc with spTo := sdrop b s.noc.spTo }).setFld (Reg.SP_BANK_STAT b) 2 0 goal

/-- Its contents are lost where that is OFF, and SP_STATE_DONE stands. -/
def spSettled (s : State) (b goal : Nat) : State := (if goal = 2 then spClear (spRest s b goal) b else spRest s b goal).raise blkNoc 11

theorem spDone_last (no : ∀ e ∈ s.noc.spNext, e.1 ≠ b.val) :
    spDone s b goal = spSettled s b goal := by
  have absent : s.noc.spNext.find? (fun e => e.1 == b.val) = none := List.find?_eq_none.mpr fun e he => by simpa using no e he
  have same : (spSettled s b goal).noc.spNext = s.noc.spNext := by
    rw [spSettled, State.raise_noc]; split <;> rfl
  rw [← same] at absent
  unfold spDone; dsimp only
  unfold spSettled spRest at *
  rw [absent]

theorem exec_spStateDone_last (only : s.noc.spTo = [(b.val, goal)]) (no : ∀ e ∈ s.noc.spNext, e.1 ≠ b.val) :
    exec (.spStateDone b) s = .next (spSettled s b goal) := by
  rw [← spDone_last no]
  simp [execSpStateDone, only]

theorem byte_spClear (s : State) (b x : Nat) : (spClear s b).byte x =
    if 0x10000000 + 2 ^ 20 * b ≤ x ∧ x < 0x10000000 + 2 ^ 20 * (b + 1) then memDefault x else s.byte x := by
  refine (sget_filter memDefault (fun a => decide (a < scratchBase + 2 ^ 20 * b) || decide (scratchBase + 2 ^ 20 * b + 2 ^ 20 ≤ a)) x
    s.mem).trans ?_
  unfold scratchBase
  by_cases h : 0x10000000 + 2 ^ 20 * b ≤ x ∧ x < 0x10000000 + 2 ^ 20 * (b + 1)
  · rw [if_pos h, if_neg (by simp only [Bool.or_eq_true, decide_eq_true_eq]; omega)]
  · rw [if_neg h, if_pos (by simp only [Bool.or_eq_true, decide_eq_true_eq]; omega)]; rfl

theorem byte_raise (s : State) (k n x : Nat) : (s.raise k n).byte x = s.byte x := by unfold State.byte; rw [State.raise_mem]
theorem byte_spRest (s : State) (b goal x : Nat) : (spRest s b goal).byte x = s.byte x := by
  unfold spRest State.byte; rw [State.setFld_mem, State.setNoc_mem]

theorem spStat_below (b : Fin 64) : Reg.SP_BANK_STAT b < evtStatus blkNoc := by
  unfold Reg.SP_BANK_STAT evtStatus blockBase blkNoc ctrlBase; omega

end

/-! SP_FLIP (R302). -/

section
variable {s : State} {v : BitVec 32}

theorem exec_spFlipArm_barred (h : modeIn s testModes = false) : exec (.spFlipArm v) s = .next (s.raise blkNoc 31) := by
  simp [execSpFlipArm, h]

/-- The mask of SP_FLIP_0 and SP_FLIP_1 and the check bits of a value for SP_FLIP_2. -/
def spFlipMask (s : State) (v : Nat) : BitVec 72 :=
  BitVec.ofNat 72 (s.regN Reg.SP_FLIP_0 + s.regN Reg.SP_FLIP_1 * 2 ^ 32 + v % 256 * 2 ^ 64)

/-- The mask armed for the bank of SP_FLIP_SEL. -/
def spFlipArmed (s : State) (v : Nat) : State := s.setNoc { s.noc with flip := some (s.fld Reg.SP_FLIP_SEL 5 0, spFlipMask s v) }

theorem exec_spFlipArm_arms (h : modeIn s testModes = true) (arm : v.getLsbD 31 = true) :
    exec (.spFlipArm v) s = .next ((spFlipArmed s v.toNat).setRegN Reg.SP_FLIP_2 (v.toNat % 256 + 2 ^ 31)) := by
  have arm' : v.toNat.testBit 31 = true := (BitVec.testBit_toNat v).trans arm
  simp only [exec_spFlipArm, execSpFlipArm, h, arm', Bool.not_true, Bool.false_eq_true, if_false, if_true]; rfl

end

/-! The statement. -/

/-- Settles O44: the fabric's requests go through `inject`, a window's accesses end in `winEnd`, and a bank moves by `spGo` and
`spDone`. -/
theorem nocPortsBanks : Obligations.NocPortsBanks := by
  refine ⟨fun s p kind tag addr len cls kix await data iso => ⟨s, exec_frpRequest_isolated iso, rfl⟩,
    fun s p kind tag addr len cls kix await data seen no off => ?_,
    fun s p kind tag addr len cls kix await data seen en adm block curb first off => ?_,
    fun s p tag status data r seen only idle awaited ok read => ?_, fun s p tag status data seen ended late => ?_,
    fun s p tag r only idle awaited => ?_, fun s b v rests new => ?_, fun s b v g busy => ?_, fun s b g only low no => ?_,
    fun s b x only no _ => ?_, fun s v barred => ⟨_, exec_spFlipArm_barred barred, rfl⟩, fun s v test arm => ?_⟩
  case refine_1 =>
    have only := onlyRegs_refuseReq s (frpReq s p kind tag addr len cls kix await data) stCurb (.refl s)
    exact ⟨_, exec_frpRequest_refused seen no off, only.ans, only.noc, only.sameMem⟩
  case refine_2 =>
    refine ⟨_, exec_frpRequest_admitted seen en adm, ?_⟩
    rw [inject_sends (r := frpReq s p kind tag addr len cls kix await data) block first (chargeSend_free off curb)]
    exact ⟨_, rfl, rfl, rfl, rfl, rfl, rfl, rfl, rfl, rfl, rfl⟩
  case refine_3 =>
    refine ⟨_, exec_frpTargetResponse_read seen only idle awaited ok read, ?_, rfl, regs_respond_ok awaited,
      sameMem_of_mem ((mem_winEmpty _).trans (mem_respond awaited))⟩
    exact congrArg Noc.resps (noc_respond awaited)
  case refine_4 =>
    refine ⟨_, exec_frpTargetResponse_late seen ended late, flag_raise _ _ 7 (by decide), ?_, ?_, ?_, sameMem_of_mem ?_⟩
    · simp
    · simp
    · exact sameRegs_raise (s.setNoc _) blkNoc 7
    · simp
  case refine_5 =>
    have noc := noc_timedOut (s := s) p.val tag.val awaited
    exact ⟨_, exec_tgtTimeout_only only idle awaited, congrArg Noc.resps noc, rfl, congrArg Noc.winOld noc, raised_timedOut s r p tag,
      sameMem_of_mem ((mem_winEmpty _).trans (mem_timedOut p.val tag.val awaited))⟩
  case refine_6 =>
    have cfgStat : Reg.SP_BANK_CFG b ≠ Reg.SP_BANK_STAT b := by unfold Reg.SP_BANK_CFG Reg.SP_BANK_STAT; omega
    have now := fld_of_reg 2 0 (reg_spCfgSet_ne s v cfgStat)
    refine ⟨_, exec_spBankCfgWrite_eq s b v, ?_⟩
    rw [spGo_begins (s := spCfgSet s b v) rests (by rwa [now]), now]
    refine ⟨?_, ?_, ?_, fun a ha => ?_, sameMem_of_mem rfl⟩
    · rw [regN_of_reg (reg_setFld_ne _ 2 0 _ cfgStat.symm), regN_setNoc, regN_spCfgSet]
    · exact find?_sinsert rests
    · rw [fld_setFld _ _ _ _ _ (by decide) (by decide), Nat.mod_eq_of_lt (spMoving_lt _ _)]; rfl
    · rw [reg_setFld_ne _ 2 0 _ fun e => ha (.inr e.symm), reg_setNoc, reg_spCfgSet_ne s v fun e => ha (.inl e.symm)]
  case refine_7 =>
    have moving : (spCfgSet s b v).noc.spTo.any (fun e => e.1 == b.val) = true :=
      List.any_eq_true.mpr ⟨_, List.mem_of_find?_eq_some busy, by simp⟩
    refine ⟨_, exec_spBankCfgWrite_eq s b v, ?_⟩
    rw [spGo_busy moving]
    exact ⟨find?_sinsert_sdrop _ _ _, rfl, fun a ha => reg_spCfgSet_ne s v fun e => ha e.symm, sameMem_of_mem rfl⟩
  case refine_8 =>
    refine ⟨_, exec_spStateDone_last only no, ?_⟩
    rw [spSettled, if_neg (by omega)]
    refine ⟨?_, ?_, flag_raise _ _ 11 (by decide), fun a ha => ?_, sameMem_of_mem ?_⟩
    · rw [fld_of_reg 2 0 (reg_raise_noc _ (spStat_below b)), spRest, fld_setFld _ _ _ _ _ (by decide) (by decide)]; omega
    · simp [spRest, only, sdrop]
    · rw [sameRegs_raise _ _ _ a fun e => ha (.inr e), spRest, reg_setFld_ne _ 2 0 _ fun e => ha (.inl e.symm), reg_setNoc]
    · simp [spRest]
  case refine_9 =>
    refine ⟨_, exec_spStateDone_last only no, ?_⟩
    rw [spSettled, if_pos rfl]
    refine ⟨?_, flag_raise _ _ 11 (by decide), ?_⟩
    · rw [fld_of_reg 2 0 (reg_raise_noc _ (spStat_below b))]
      exact fld_setFld _ _ _ _ _ (by decide) (by decide)
    · rw [byte_raise, byte_spClear, byte_spRest]
  case refine_10 =>
    refine ⟨_, exec_spFlipArm_arms test arm, rfl, ?_, fun a ha => reg_setRegN_ne _ _ fun e => ha e.symm,
      sameMem_of_mem (State.setRegN_mem ..)⟩
    rw [regN_setRegN, if_pos rfl]; omega

end Sys2Proof.Machine
end

section
/-! SUPPORT. Local SDRAM: the channel map, a channel beside its registers, lines without errors, and a channel's log (R308, R311…R314,
R318). -/

namespace Sys2Proof.Machine

/-! Registers of the memory block (11_sdram_cxl.md). -/

/-- An event leaves the registers below those of events. -/
theorem reg_raise_mem (s : State) (n : Nat) {a : Nat} (h : a < evtStatus blkMem) : (s.raise blkMem n).reg a = s.reg a :=
  reg_raise s blkMem n a h.ne (by unfold evtStatus at h; unfold evtCount; omega)

/-- A register below those of events leaves the events. -/
theorem raised_setRegN_mem (s : State) {n a v : Nat} (h : a < evtStatus blkMem) :
    Raised (s.setRegN a v) blkMem n ↔ Raised s blkMem n := by
  unfold Raised; rw [flag_of_reg n (reg_setRegN_ne s v h.ne)]

/-- An event stands on when another occurs. -/
theorem raised_raise_ne {s : State} {b n j : Nat} (hn : n < 32) (ne : n ≠ j) : Raised (s.raise b n) b j ↔ Raised s b j := by
  unfold Raised; rw [flag_raise_ne s b n j hn ne]

theorem memStat_below (h : Fin 4) : Reg.MEM_STAT h < evtStatus blkMem := by
  unfold Reg.MEM_STAT evtStatus blockBase blkMem ctrlBase; omega

theorem memLogStat_below (h : Fin 4) : Reg.MEM_LOG_STAT h < evtStatus blkMem := by
  unfold Reg.MEM_LOG_STAT evtStatus blockBase blkMem ctrlBase; omega

theorem memRetireRow_below (h : Fin 4) : Reg.MEM_RETIRE_ROW h < evtStatus blkMem := by
  unfold Reg.MEM_RETIRE_ROW evtStatus blockBase blkMem ctrlBase; omega

namespace SameRegs

variable {s t u : State} {w : Nat → Prop} {a : Nat}

theorem trans (h : SameRegs s t w) (k : SameRegs t u w) : SameRegs s u w := fun j hj => (k j hj).trans (h j hj)

theorem setFld (h : SameRegs s t w) (ha : w a) (hi lo v : Nat) : SameRegs s (t.setFld a hi lo v) w := h.setRegN ha _

theorem raise (h : SameRegs s t w) {b n : Nat} (hw : ∀ a, evtOf b n a → w a) : SameRegs s (t.raise b n) w :=
  h.trans fun j hj => sameRegs_raise t b n j fun e => hj (hw j e)

end SameRegs

/-! States that differ in registers alone have the same channels, error patterns and CXL requests. -/

namespace OnlyRegs

variable {s t : State}

theorem ext (h : OnlyRegs s t) : t.ext = s.ext := by obtain ⟨r, rfl⟩ := h; rfl
theorem chanSt (h : OnlyRegs s t) (k : Nat) : chanSt t k = chanSt s k := by unfold Machine.chanSt; rw [h.ext]

end OnlyRegs

/-! The channel map (R308). -/

/-- The channel map reads MEM_MAP and the channel masks alone. -/
theorem chanOf_of_reg {s t : State} (same : ∀ a, Reg.MEM_MAP ≤ a → t.reg a = s.reg a) (a : Nat) : chanOf t a = chanOf s a := by
  have map := fld_of_reg 1 0 (same Reg.MEM_MAP (by decide))
  have lo0 := regN_of_reg (same Reg.MEM_CH_MASK_0_LO (by decide))
  have hi0 := fld_of_reg 5 0 (same Reg.MEM_CH_MASK_0_HI (by decide))
  have lo1 := regN_of_reg (same Reg.MEM_CH_MASK_1_LO (by decide))
  have hi1 := fld_of_reg 5 0 (same Reg.MEM_CH_MASK_1_HI (by decide))
  unfold chanOf chCount chMask0 chMask1
  rw [map, lo0, hi0, lo1, hi1]

theorem chanOf_lt (s : State) (a : Nat) : chanOf s a < 4 := by
  have bound (v : Nat) : par v < 2 := Nat.mod_lt _ (by decide)
  have low := bound (Nat.land a (chMask0 s))
  have high := bound (Nat.land a (chMask1 s))
  unfold chanOf; split <;> omega

/-! A channel replaced. -/

section
variable (s : State) (h : Nat) (c : Channel)

@[simp] theorem chanSt_setChan_same : chanSt (setChan s h c) h = c := sget_sput_same _ _ _ _
@[simp] theorem fld_setChan (a hi lo : Nat) : (setChan s h c).fld a hi lo = s.fld a hi lo := rfl
@[simp] theorem flag_setChan (a n : Nat) : (setChan s h c).flag a n = s.flag a n := rfl
@[simp] theorem raised_setChan (b n : Nat) : Raised (setChan s h c) b n ↔ Raised s b n := Iff.rfl
@[simp] theorem sameRegs_setChan (t : State) (w : Nat → Prop) : SameRegs s (setChan t h c) w ↔ SameRegs s t w := Iff.rfl

end

@[simp] theorem chanSt_store (s : State) (a k : Nat) (b : List Byte) : chanSt (s.store a b) k = chanSt s k := rfl
@[simp] theorem chanSt_setLineErr (s : State) (l k : Nat) (e : LineErr) : chanSt (setLineErr s l e) k = chanSt s k := rfl
@[simp] theorem byte_setLineErr (s : State) (l a : Nat) (e : LineErr) : (setLineErr s l e).byte a = s.byte a := rfl

/-! A line that is as it was written (R311, R312). -/

section
variable {s : State} {l : Nat}

theorem lineReads_clean (clean : lineErr s l = {}) : lineReads s l = [.good, .good, .good, .good] := by
  unfold lineReads; rw [clean]; decide +kernel

theorem lineUe_clean (clean : lineErr s l = {}) : lineUe s l = false := by unfold lineUe; rw [lineReads_clean clean]; rfl

theorem lineMask_clean (clean : lineErr s l = {}) : lineMask s l = 0#512 := by
  unfold lineMask; rw [lineReads_clean clean, clean]
  exact congrArg (BitVec.ofNat 512) (by decide +kernel : _ = 0)

/-- A read of it finds nothing to correct, to count or to log. -/
theorem lineRead_clean (clean : lineErr s l = {}) (ce ue : Nat) : lineRead s l ce ue = (s, false) := by
  unfold lineRead; rw [lineReads_clean clean, lineUe_clean clean]; rfl

theorem correction_clean (clean : lineErr s l = {}) (hi lo : Nat) : BitVec.ofNat 8 (bitsOf (lineMask s l).toNat hi lo) = 0 := by
  rw [lineMask_clean clean, BitVec.toNat_zero, bitsOf, Nat.zero_div, Nat.zero_mod]; rfl

theorem sdByte_clean {a : Nat} (clean : lineErr s (a / 64) = {}) (unmerged : mergeOf s (a / 64) = none) : sdByte s a = s.byte a := by
  simp [sdByte, unmerged, correction_clean clean]

/-- A line written while no MEM_FLIP of its channel is armed has fresh checks. -/
theorem lineFresh_unarmed (unarmed : (chanSt s (lineChan s l).1).flip = none) : lineFresh s l = setLineErr s l {} := by
  simp [lineFresh, unarmed]

end

/-! An entry of a channel's log (R318): its status register, its overflow event and the log itself change. -/

section
variable (s : State) (h c kind sym cw : Nat)

theorem onlyRegs_logPush (l : Log) (w sh stat blk evt : Nat) : OnlyRegs s (logPush s l w sh stat blk evt).1 := by
  unfold logPush; dsimp only; split
  · exact ((OnlyRegs.refl s).setFlag _ _ _).setFld _ _ _ _
  · exact ((OnlyRegs.refl s).addFld _ _ _ _).raise _ _

theorem chanSt_memLog : ∃ l, chanSt (memLog s h c kind sym cw) h = { chanSt s h with log := l } := by
  unfold memLog; dsimp only
  exact ⟨_, by rw [chanSt_setChan_same, (onlyRegs_logPush s _ _ _ _ _ _).chanSt]⟩

theorem sameRegs_memLog : SameRegs s (memLog s h c kind sym cw) (fun a => a = Reg.MEM_LOG_STAT h ∨ evtOf blkMem 3 a) := by
  have none := SameRegs.refl s (fun a => a = Reg.MEM_LOG_STAT h ∨ evtOf blkMem 3 a)
  unfold memLog logPush; dsimp only; rw [sameRegs_setChan]; split
  · exact (none.setFlag (.inl rfl) _ _).setFld (.inl rfl) _ _ _
  · exact (none.setFld (.inl rfl) _ _ _).raise fun _ => .inr

end

/-- A register below those of events, other than the log's own, stands through an entry. -/
theorem reg_memLog (s : State) {h c kind sym cw a : Nat} (below : a < evtStatus blkMem) (apart : a ≠ Reg.MEM_LOG_STAT h) :
    (memLog s h c kind sym cw).reg a = s.reg a :=
  sameRegs_memLog s h c kind sym cw a (by unfold evtOf evtCount; unfold evtStatus at *; omega)

/-- Another event than a lost entry stands on. -/
theorem raised_memLog {s : State} {h : Fin 4} {c kind sym cw n : Nat} (hn : n ≠ 3) (stands : Raised s blkMem n) :
    Raised (memLog s h c kind sym cw) blkMem n := by
  unfold memLog logPush; dsimp only; rw [raised_setChan]; split
  · exact (raised_setRegN_mem _ (memLogStat_below h)).mpr ((raised_setRegN_mem _ (memLogStat_below h)).mpr stands)
  · exact (raised_raise_ne (by decide) hn.symm).mpr ((raised_setRegN_mem _ (memLogStat_below h)).mpr stands)

end Sys2Proof.Machine
end

section
/-! PROOFS. A statement of 11_sdram_cxl.md: the local SDRAM channels (R312, R313, R315, R316, R317, R318, R319, R320, R321, R322, R330). -/

namespace Sys2Proof.Machine

/-! A merge entry flushed (R313). -/

/-- A channel without its entries of a line. -/
def unmerge (s : State) (h l : Nat) : State :=
  setChan s h { chanSt s h with merge := (chanSt s h).merge.filter (fun m => m.line != l) }

/-- The line of a merge entry, with the entry's bytes applied. -/
def merged (s : State) (m : Merge) : List Byte := (List.range 64).map (fun i => (lastAt m.bytes i).getD (s.byte (64 * m.line + i)))

/-- A merge entry taken out of its channel, and counted. -/
def taken (s : State) (h : Nat) (m : Merge) : State := unmerge (s.count (Reg.MEM_MERGE_CNT h)) h m.line

/-- What a flush leaves where the entry's line has no errors. -/
def flushed (s : State) (h : Nat) (m : Merge) : State :=
  setLineErr ((unmerge (taken s h m) h m.line).store (64 * m.line) (merged s m)) m.line {}

theorem mem_taken (s : State) (h : Nat) (m : Merge) : (taken s h m).mem = s.mem := by
  rw [taken, unmerge, setChan_mem, State.count_mem]

section
variable {s : State} {h : Fin 4} {m : Merge} {q : List Merge}

theorem lineChan_taken (chan : (lineChan s m.line).1 = h.val) : (lineChan (taken s h m) m.line).1 = h.val := by
  rw [← chan]
  refine chanOf_of_reg (fun a ha => ?_) _
  exact reg_setRegN_ne s _ (by unfold Reg.MEM_MAP at ha; unfold Reg.MEM_MERGE_CNT; omega)

theorem lineChan_unmerge_store (u : State) (l a k : Nat) (b : List Byte) : lineChan ((unmerge u h l).store a b) k = lineChan u k := rfl

/-- An entry taken out is no longer read for its line. -/
theorem mergeOf_taken (chan : (lineChan s m.line).1 = h.val) : mergeOf (taken s h m) m.line = none := by
  have same : chanOf (taken s h m) (64 * m.line - sdBase) = h.val := lineChan_taken chan
  unfold mergeOf
  rw [same, taken, unmerge, chanSt_setChan_same]
  simp [List.find?_filter]

theorem flip_unmerge (k : Nat) : (chanSt (unmerge s h k) h).flip = (chanSt s h).flip := by
  rw [unmerge, chanSt_setChan_same]

theorem merge_taken (head : (chanSt s h).merge = m :: q) (other : ∀ x ∈ q, x.line ≠ m.line) : (chanSt (taken s h m) h).merge = q := by
  have counted : chanSt (s.count (Reg.MEM_MERGE_CNT h)) h = chanSt s h := ((OnlyRegs.refl s).count _).chanSt h
  rw [taken, unmerge, chanSt_setChan_same, counted, head]
  simpa using other

theorem mergeFlush_clean (chan : (lineChan s m.line).1 = h.val) (clean : lineErr s m.line = {}) (unarmed : (chanSt s h).flip = none) :
    mergeFlush s h m = flushed s h m := by
  have clean' : lineErr (taken s h m) m.line = {} := clean
  have read (i : Nat) (hi : i < 64) : sdByte (taken s h m) (64 * m.line + i) = s.byte (64 * m.line + i) := by
    have line : (64 * m.line + i) / 64 = m.line := by omega
    exact sdByte_clean (by rwa [line]) (by rw [line, mergeOf_taken chan])
  have bytes : (List.range 64).map (fun i => (lastAt m.bytes i).getD (sdByte (taken s h m) (64 * m.line + i))) = merged s m :=
    List.map_congr_left fun i hi => by rw [read i (List.mem_range.mp hi)]
  have written : lineWrite (taken s h m) m.line (merged s m) =
      lineFresh ((unmerge (taken s h m) h m.line).store (64 * m.line) (merged s m)) m.line := by
    unfold lineWrite; dsimp only; rw [lineChan_taken chan]; rfl
  have flip : (chanSt ((unmerge (taken s h m) h m.line).store (64 * m.line) (merged s m)) h).flip = none := by
    rw [chanSt_store, flip_unmerge, taken, flip_unmerge, ((OnlyRegs.refl s).count _).chanSt, unarmed]
  have fresh := lineFresh_unarmed (l := m.line) (s := (unmerge (taken s h m) h m.line).store (64 * m.line) (merged s m))
    (by rw [lineChan_unmerge_store, lineChan_taken chan, flip])
  have flush : mergeFlush s h m = if lineUe (taken s h m) m.line then _ else
      lineWrite (lineRead (taken s h m) m.line 1 2).1 m.line
        ((List.range 64).map fun i => (lastAt m.bytes i).getD (sdByte (lineRead (taken s h m) m.line 1 2).1 (64 * m.line + i))) := rfl
  rw [flush, lineUe_clean clean', lineRead_clean clean', if_neg Bool.false_ne_true, bytes, written, fresh, flushed]

/-- A flush writes the entry's bytes into its line, and no other byte. -/
theorem byte_flushed (a : Nat) : (flushed s h m).byte a =
    if 64 * m.line ≤ a ∧ a < 64 * m.line + 64 then (lastAt m.bytes (a - 64 * m.line)).getD (s.byte a) else s.byte a := by
  have length : (merged s m).length = 64 := by simp [merged]
  have before : (unmerge (taken s h m) h m.line).byte a = s.byte a := sameMem_of_mem (mem_taken s h m) a
  rw [flushed, byte_setLineErr, byte_store, length, before]
  refine ite_congr rfl (fun inside => ?_) fun _ => rfl
  have place : 64 * m.line + (a - 64 * m.line) = a := by omega
  simp [merged, show a - 64 * m.line < 64 by omega, place]

theorem merge_flushed (head : (chanSt s h).merge = m :: q) (other : ∀ x ∈ q, x.line ≠ m.line) :
    (chanSt (flushed s h m) h).merge = q := by
  rw [flushed, chanSt_setLineErr, chanSt_store, unmerge, chanSt_setChan_same, merge_taken head other]
  simpa using other

theorem exec_mergeFlush_head (head : (chanSt s h).merge = m :: q) : exec (.mergeFlush h) s = .next (mergeFlush s h m) := by
  rw [exec_mergeFlush, execMergeFlush, mergeOldest, head]

theorem exec_mergeFlush_empty (empty : (chanSt s h).merge = []) : exec (.mergeFlush h) s = .next s := by
  rw [exec_mergeFlush, execMergeFlush, mergeOldest, empty]

end

/-! Refreshes (R315). -/

/-- The refreshes postponed of a rank of a channel. -/
def postponed (c : Channel) (rank : Fin 2) : Nat := if rank.val = 0 then c.post0 else c.post1
/-- The channel with that count replaced. -/
def putPostponed (c : Channel) (rank : Fin 2) (n : Nat) : Channel := if rank.val = 0 then { c with post0 := n } else { c with post1 := n }
/-- The count replaced, and shown in MEM_STAT. -/
def refreshed (s : State) (h : Nat) (rank : Fin 2) (n : Nat) : State := refShow (setChan s h (putPostponed (chanSt s h) rank n)) h

section
variable {s : State} {h : Fin 4} {rank : Fin 2}

theorem postponed_put (c : Channel) (rank : Fin 2) (n : Nat) : postponed (putPostponed c rank n) rank = n := by
  unfold postponed putPostponed; split <;> rfl

theorem postponed_refreshed (s : State) (h : Fin 4) (rank : Fin 2) (n : Nat) : postponed (chanSt (refreshed s h rank n) h) rank = n := by
  have shown : chanSt (refreshed s h rank n) h = putPostponed (chanSt s h) rank n :=
    (((OnlyRegs.refl _).setFld _ _ _ _).chanSt h).trans (chanSt_setChan_same _ _ _)
  rw [shown, postponed_put]

theorem sameRegs_refreshed (s : State) (h : Fin 4) (rank : Fin 2) (n : Nat) :
    SameRegs s (refreshed s h rank n) (· = Reg.MEM_STAT h) :=
  SameRegs.setFld (w := (· = Reg.MEM_STAT h)) (.refl s _) rfl _ _ _

theorem mem_refreshed (s : State) (h : Fin 4) (rank : Fin 2) (n : Nat) : (refreshed s h rank n).mem = s.mem := by
  rw [refreshed, refShow, State.setFld_mem, setChan_mem]

variable (ready : chanReady s h = true) (awake : s.flag (Reg.MEM_STAT h) 2 = false)
include ready awake

theorem exec_refreshDue_postpones (room : postponed (chanSt s h) rank < 8) :
    exec (.refreshDue h rank true) s = .next (refreshed s h rank (postponed (chanSt s h) rank + 1)) := by
  unfold postponed at *
  simp only [exec_refreshDue, execRefreshDue, ready, awake, room, Bool.not_true, Bool.or_self, Bool.true_and, decide_true,
    Bool.false_eq_true, if_false, if_true]
  rfl

theorem exec_refreshDue_bursts (some : postponed (chanSt s h) rank ≠ 0) :
    exec (.refreshDue h rank false) s = .next (refreshed (s.count (Reg.MEM_REF_BURST_CNT h)) h rank 0) := by
  unfold postponed at *
  simp only [exec_refreshDue, execRefreshDue, ready, awake, some, Bool.not_true, Bool.or_self, Bool.false_and,
    Bool.false_eq_true, if_false]
  rfl

end

/-! Initialisation (R316). -/

section
variable {s : State} {h : Fin 4}

theorem exec_init_starts (mode : modeIn s setupModes = true) (rest : s.fld (Reg.MEM_STAT h) 1 0 = 0 ∨ s.fld (Reg.MEM_STAT h) 1 0 = 3) :
    exec (.init h) s = .next (s.setFld (Reg.MEM_STAT h) 1 0 1) := by
  simp [execInit, mode, rest]

theorem exec_init_barred (mode : modeIn s setupModes = false) : exec (.init h) s = .next (s.raise blkMem 11) := by
  simp [execInit, mode]

theorem exec_initDone_ready (under : s.fld (Reg.MEM_STAT h) 1 0 = 1) :
    exec (.initDone h true) s = .next ((s.setFld (Reg.MEM_STAT h) 1 0 2).raise blkMem 4) := by
  simp [execInitDone, under]

theorem exec_initDone_fails (under : s.fld (Reg.MEM_STAT h) 1 0 = 1) :
    exec (.initDone h false) s = .next (memLog ((s.setFld (Reg.MEM_STAT h) 1 0 3).raise blkMem 5) h 0 6 0 0) := by
  simp [execInitDone, under]

theorem exec_initDone_idle {ok : Bool} (idle : s.fld (Reg.MEM_STAT h) 1 0 ≠ 1) : exec (.initDone h ok) s = .next s := by
  simp [execInitDone, idle]

/-- The state of a channel stands through an event. -/
theorem state_raise (s : State) (n : Nat) (h : Fin 4) : (s.raise blkMem n).fld (Reg.MEM_STAT h) 1 0 = s.fld (Reg.MEM_STAT h) 1 0 :=
  fld_of_reg 1 0 (reg_raise_mem s n (memStat_below h))

end

/-! Training (R317). -/

section
variable {s : State} {h : Fin 4}

theorem exec_retrainDue_ready (ready : chanReady s h = true) :
    exec (.retrainDue h) s = .next (setChan s h { chanSt s h with due := true }) := by
  simp [execRetrainDue, ready]

theorem exec_trainingSlot_due (due : (chanSt s h).due = true) (slot : trainSlot s h = true) :
    exec (.trainingSlot h) s = .next (retrain s h) := by
  simp [execTrainingSlot, due, slot]

/-- A retraining forced, with its own count and event. -/
def retrainForced (s : State) (h : Nat) : State := ((retrain s h).count (Reg.MEM_TRAIN_FORCED_CNT h)).raise blkMem 6

theorem exec_trainForced_due (due : (chanSt s h).due = true) : exec (.trainForced h) s = .next (retrainForced s h) := by
  simp [execTrainForced, retrainForced, due]

theorem exec_trainForced_idle (idle : (chanSt s h).due = false) : exec (.trainForced h) s = .next s := by
  simp [execTrainForced, idle]

theorem due_retrain (s : State) (h : Nat) : (chanSt (retrain s h) h).due = false := by
  rw [retrain, ((OnlyRegs.refl _).count _).chanSt, chanSt_setChan_same]

theorem onlyRegs_retrainForced (s : State) (h : Nat) : OnlyRegs (retrain s h) (retrainForced s h) :=
  ((OnlyRegs.refl _).count _).raise _ _

theorem mem_retrain (s : State) (h : Nat) : (retrain s h).mem = s.mem := by rw [retrain, State.count_mem, setChan_mem]

theorem sameRegs_retrain (s : State) (h : Nat) : SameRegs s (retrain s h) (· = Reg.MEM_TRAIN_CNT h) :=
  SameRegs.count (w := (· = Reg.MEM_TRAIN_CNT h)) (.refl s _) rfl

theorem regN_retrainForced (s : State) (h : Fin 4) :
    (retrainForced s h).regN (Reg.MEM_TRAIN_FORCED_CNT h) = satNat 32 (s.regN (Reg.MEM_TRAIN_FORCED_CNT h) + 1) := by
  have below : Reg.MEM_TRAIN_FORCED_CNT h < evtStatus blkMem := by
    unfold Reg.MEM_TRAIN_FORCED_CNT evtStatus blockBase blkMem ctrlBase; omega
  have apart : Reg.MEM_TRAIN_FORCED_CNT h ≠ Reg.MEM_TRAIN_CNT h := by unfold Reg.MEM_TRAIN_FORCED_CNT Reg.MEM_TRAIN_CNT; omega
  rw [retrainForced, regN_of_reg (reg_raise_mem _ _ below), regN_count, regN_of_reg (sameRegs_retrain s h _ apart)]

end

/-! Patrol (R319). -/

section
variable {s : State} {h : Fin 4}

theorem exec_patrolRead_clean (on : s.fld (Reg.MEM_PATROL h) 15 0 ≠ 0) (ready : chanReady s h = true)
    (clean : lineErr s (sysAddr s h (64 * (chanSt s h).patrol) / 64) = {}) : exec (.patrolRead h) s =
      .next (setChan s h { chanSt s h with patrol := ((chanSt s h).patrol + 1) % (chanUse s / 64) }) := by
  simp [execPatrolRead, on, ready, lineRead_clean clean]

theorem exec_patrolRead_off (off : s.fld (Reg.MEM_PATROL h) 15 0 = 0 ∨ chanReady s h = false) : exec (.patrolRead h) s = .next s := by
  rw [exec_patrolRead, execPatrolRead, if_pos (off.imp_right fun c => by rw [c]; rfl)]

end

/-! Retirement of a page (R320). -/

/-- The page of MEM_RETIRE_ARG being copied to spare n. -/
def pageBegun (s : State) (h n : Nat) : State :=
  (setChan s h { chanSt s h with page := some (s.fld (Reg.MEM_RETIRE_ARG h) 23 0, n) }).setFlag (Reg.MEM_STAT h) 3 true

section
variable {s : State} {h : Fin 4}

theorem exec_retirePage_begins (free : ∀ n, n < 256 → s.flag (Reg.MEM_REMAP h n) 31 = false) (rests : (chanSt s h).page = none)
    (empty : (chanSt s h).merge = []) : exec (.retirePage h) s = .next (pageBegun s h 0) := by
  have unmapped : (List.range 256).any (fun n => s.flag (Reg.MEM_REMAP h n) 31 && s.fld (Reg.MEM_REMAP h n) 23 0 ==
      s.fld (Reg.MEM_RETIRE_ARG h) 23 0) = false :=
    List.any_eq_false.mpr fun n hn => by simp [free n (List.mem_range.mp hn)]
  have first : (List.range 256).find? (fun n => !s.flag (Reg.MEM_REMAP h n) 31) = some 0 := by
    rw [List.range_succ_eq_map, List.find?_cons_of_pos (by rw [free 0 (by decide)]; rfl)]
  simp only [exec_retirePage, execRetirePage, unmapped, rests, first, empty, Option.isSome_none, Bool.or_self, Bool.false_eq_true,
    if_false, List.filter_nil, List.foldl_nil, pageBegun]

theorem exec_retirePage_under (under : (chanSt s h).page ≠ none) : exec (.retirePage h) s = .next s := by
  rw [exec_retirePage, execRetirePage]
  exact if_pos (by rw [Option.isSome_iff_ne_none.mpr under, Bool.or_true])

theorem page_pageBegun (s : State) (h n : Nat) : (chanSt (pageBegun s h n) h).page = some (s.fld (Reg.MEM_RETIRE_ARG h) 23 0, n) := by
  rw [pageBegun, ((OnlyRegs.refl _).setFlag _ _ _).chanSt, chanSt_setChan_same]

end

/-! Lines copied while none has an error and no MEM_FLIP is armed: the bytes are written back as they are. -/

/-- Memory alone differs, and every byte reads as before. -/
structure Recopied (s t : State) : Prop where
  eq      : t = { s with mem := t.mem }
  sameMem : SameMem s t

namespace Recopied

variable {s t u : State}

theorem refl (s : State) : Recopied s s := ⟨rfl, fun _ => rfl⟩

theorem trans (h : Recopied s t) (k : Recopied t u) : Recopied s u :=
  ⟨by rw [k.eq, h.eq], fun a => (k.sameMem a).trans (h.sameMem a)⟩

theorem ext (h : Recopied s t) : t.ext = s.ext := by rw [h.eq]
theorem regs (h : Recopied s t) : t.regs = s.regs := by rw [h.eq]

end Recopied

/-- No line has an error and no channel an armed MEM_FLIP. -/
structure Sound (s : State) : Prop where
  errs    : s.ext.errs = []
  unarmed : ∀ c, c < 4 → (chanSt s c).flip = none

/-- It depends on the memory block's part of the state alone. -/
theorem Sound.of_ext {s t : State} (h : Sound s) (same : t.ext = s.ext) : Sound t :=
  ⟨by rw [same, h.errs], fun c hc => by unfold chanSt; rw [same]; exact h.unarmed c hc⟩

section
variable {s : State} (sound : Sound s)
include sound

theorem lineErr_sound (l : Nat) : lineErr s l = {} := by rw [lineErr, sound.errs, sget]

theorem setLineErr_sound (l : Nat) : setLineErr s l {} = s := by
  have kept : sput (fun _ => ({} : LineErr)) s.ext.errs l {} = s.ext.errs := by simp [sound.errs, sput, sdrop]
  unfold setLineErr; rw [kept]

theorem recopied_lineCopy (l : Nat) : Recopied s (lineCopy s l) := by
  have clean := lineErr_sound sound l
  have line : (List.range 64).map (fun i => s.byte (64 * l + i) ^^^ BitVec.ofNat 8 (bitsOf (lineMask s l).toNat (8 * i + 7) (8 * i))) =
      s.stored (64 * l) 64 := List.map_congr_left fun i _ => by rw [correction_clean clean]; exact BitVec.xor_zero
  have copied : lineCopy s l = s.store (64 * l) (s.stored (64 * l) 64) := by
    have fresh := lineFresh_unarmed (s := s.store (64 * l) (s.stored (64 * l) 64)) (l := l) (sound.unarmed _ (chanOf_lt _ _))
    unfold lineCopy lineBack
    rw [lineUe_clean clean, if_neg Bool.false_ne_true, line]
    exact fresh.trans (setLineErr_sound (s := s.store _ _) (sound.of_ext rfl) l)
  rw [copied]
  refine ⟨rfl, fun a => ?_⟩
  rw [byte_store, State.stored, List.length_map, List.length_range]
  split
  next inside =>
    have place : 64 * l + (a - 64 * l) = a := by omega
    simp [show a - 64 * l < 64 by omega, place]
  next => rfl

theorem recopied_lineCopies (f : Nat → State → Nat) (n : Nat) :
    Recopied s ((List.range n).foldl (fun s i => lineCopy s (f i s)) s) :=
  List.foldlRecOn (motive := Recopied s) _ _ (.refl s) fun _ k _ _ => k.trans (recopied_lineCopy (sound.of_ext k.ext) _)

end

/-- The end of a page's copy in its channel. -/
def pageFreed (s : State) (h : Nat) : State := setChan s h { chanSt s h with page := none }
/-- Its spare in MEM_REMAP, and COPYING left to a bank that is still copied. -/
def pageRemapped (s : State) (h page n : Nat) : State :=
  ((pageFreed s h).setRegN (Reg.MEM_REMAP h n) (page + 2 ^ 31)).setFlag (Reg.MEM_STAT h) 3 (chanSt (pageFreed s h) h).bank.isSome
/-- The pages retired counted. -/
def pageCounted (s : State) (h page n : Nat) : State :=
  (pageRemapped s h page n).setFld (Reg.MEM_STAT h) 16 8 ((pageRemapped s h page n).fld (Reg.MEM_STAT h) 16 8 + 1)

section
variable {s : State} {h : Fin 4} {page n : Nat}

theorem exec_retirePageDone_copied (under : (chanSt s h).page = some (page, n)) (sound : Sound s) :
    ∃ u, Recopied s u ∧ exec (.retirePageDone h) s = .next (memLog (pageCounted u h page n) h (4096 * page) 7 0 0) := by
  refine ⟨_, recopied_lineCopies sound (fun i s => sysAddr s h (4096 * page + 64 * i) / 64) 64, ?_⟩
  rw [exec_retirePageDone, execRetirePageDone, under]; rfl

theorem onlyRegs_pageCounted : OnlyRegs (pageFreed s h) (pageCounted s h page n) :=
  ((((OnlyRegs.refl _).setRegN _ _).setFlag _ _ _).setFld _ _ _ _)

theorem page_pageCounted : (chanSt (pageCounted s h page n) h).page = none := by
  rw [onlyRegs_pageCounted.chanSt, pageFreed, chanSt_setChan_same]

theorem mem_pageCounted : (pageCounted s h page n).mem = s.mem := by
  rw [onlyRegs_pageCounted.mem, pageFreed, setChan_mem]

theorem memRemap_below (h : Fin 4) (small : n < 256) : Reg.MEM_REMAP h n < evtStatus blkMem := by
  unfold Reg.MEM_REMAP evtStatus blockBase blkMem ctrlBase; omega

theorem memStat_ne_memRemap (h : Fin 4) (small : n < 256) : Reg.MEM_STAT h ≠ Reg.MEM_REMAP h n := by
  unfold Reg.MEM_STAT Reg.MEM_REMAP; omega

theorem memStat_ne_memLogStat (h : Nat) : Reg.MEM_STAT h ≠ Reg.MEM_LOG_STAT h := by unfold Reg.MEM_STAT Reg.MEM_LOG_STAT; omega

theorem regN_memRemap_pageCounted (small : n < 256) (page24 : page < 2 ^ 24) :
    (pageCounted s h page n).regN (Reg.MEM_REMAP h n) = page + 2 ^ 31 := by
  have apart := memStat_ne_memRemap h small
  rw [pageCounted, regN_of_reg (reg_setFld_ne _ _ _ _ apart), pageRemapped, regN_of_reg (reg_setFlag_ne _ _ _ apart), regN_setRegN,
    if_pos rfl]
  omega

theorem fld_pageCounted (small : n < 256) (room : s.fld (Reg.MEM_STAT h) 16 8 < 256) :
    (pageCounted s h page n).fld (Reg.MEM_STAT h) 16 8 = s.fld (Reg.MEM_STAT h) 16 8 + 1 := by
  have before : (pageRemapped s h page n).fld (Reg.MEM_STAT h) 16 8 = s.fld (Reg.MEM_STAT h) 16 8 := by
    rw [pageRemapped, State.setFlag, fld_setFld_apart _ _ _ _ _ _ _ (by decide) (by decide) (by decide),
      fld_of_reg _ _ (reg_setRegN_ne _ _ (memStat_ne_memRemap h small).symm), pageFreed, fld_setChan]
  rw [pageCounted, fld_setFld _ _ _ _ _ (by decide) (by decide), before]
  omega

theorem copying_pageCounted : (pageCounted s h page n).flag (Reg.MEM_STAT h) 3 = (chanSt s h).bank.isSome := by
  rw [pageCounted, flag_setFld _ _ _ _ _ _ _ (by decide) (by decide), if_neg (by omega), pageRemapped, flag_setFlag _ _ _ _ (by decide),
    pageFreed, chanSt_setChan_same]

end

/-! Retirement of a bank (R321). -/

/-- The bank of MEM_RETIRE_ARG being copied to the spare. -/
def bankBegun (s : State) (h : Nat) : State :=
  ((setChan s h { chanSt s h with bank := some (s.fld (Reg.MEM_RETIRE_ARG h) 6 0) }).setFlag (Reg.MEM_STAT h) 3 true).setRegN
    (Reg.MEM_RETIRE_ROW h) 0
/-- A channel whose bank has been copied. -/
def bankFreed (s : State) (h b : Nat) : State := setChan s h { chanSt s h with bank := none, retired := some b }
/-- Every row copied, and COPYING left to a page that is still copied. -/
def bankDone (s : State) (h b : Nat) : State :=
  (((bankFreed s h b).setRegN (Reg.MEM_RETIRE_ROW h) (2 ^ (16 + s.fld (Reg.MEM_CFG 0) 2 2))).setFlag (Reg.MEM_STAT h) 3
    (chanSt (bankFreed s h b) h).page.isSome).raise blkMem 9

section
variable {s : State} {h : Fin 4} {b : Nat}

theorem exec_retireBank_begins (spare : s.flag (Reg.MEM_SPARE h) 0 = true) (rests : (chanSt s h).bank = none)
    (fresh : (chanSt s h).retired = none) : exec (.retireBank h) s = .next (bankBegun s h) := by
  simp [execRetireBank, spare, rests, fresh, bankBegun]

theorem exec_retireBank_refused (no : s.flag (Reg.MEM_SPARE h) 0 = false ∨ (chanSt s h).bank ≠ none ∨ (chanSt s h).retired ≠ none) :
    exec (.retireBank h) s = .next (s.raise blkMem 11) := by
  have barred : (s.flag (Reg.MEM_SPARE h) 0 && (chanSt s h).bank.isNone && (chanSt s h).retired.isNone) = false := by
    rcases no with spare | bank | retired
    · simp [spare]
    · simp [bank]
    · rw [Option.isNone_eq_false_iff.mpr (Option.isSome_iff_ne_none.mpr retired), Bool.and_false]
  rw [exec_retireBank, execRetireBank]
  exact if_neg (by rw [barred]; decide)

theorem bank_bankBegun (s : State) (h : Nat) : (chanSt (bankBegun s h) h).bank = some (s.fld (Reg.MEM_RETIRE_ARG h) 6 0) := by
  rw [bankBegun, (((OnlyRegs.refl _).setFlag _ _ _).setRegN _ _).chanSt, chanSt_setChan_same]

theorem memStat_ne_retireRow (h : Nat) : Reg.MEM_STAT h ≠ Reg.MEM_RETIRE_ROW h := by unfold Reg.MEM_STAT Reg.MEM_RETIRE_ROW; omega

theorem copying_bankBegun (s : State) (h : Nat) : (bankBegun s h).flag (Reg.MEM_STAT h) 3 = true := by
  rw [bankBegun, flag_of_reg 3 (reg_setRegN_ne _ _ (memStat_ne_retireRow h).symm), flag_setFlag _ _ _ _ (by decide)]

theorem mem_bankBegun (s : State) (h : Nat) : (bankBegun s h).mem = s.mem := by
  rw [bankBegun, State.setRegN_mem, State.setFlag_mem, setChan_mem]

theorem exec_retireDone_sound (under : (chanSt s h).bank = some b) (sound : s.ext.errs = []) :
    exec (.retireDone h) s = .next (memLog (bankDone s h b) h 0 8 0 0) := by
  rw [exec_retireDone, execRetireDone, under]
  simp only [sound, List.filter_nil, List.foldl_nil]
  rfl

theorem onlyRegs_bankDone : OnlyRegs (bankFreed s h b) (bankDone s h b) := (((OnlyRegs.refl _).setRegN _ _).setFlag _ _ _).raise _ _

theorem regN_retireRow_bankDone : (bankDone s h b).regN (Reg.MEM_RETIRE_ROW h) = 2 ^ (16 + s.fld (Reg.MEM_CFG 0) 2 2) := by
  have width : s.fld (Reg.MEM_CFG 0) 2 2 < 2 := bitsOf_lt _ 2 2
  have fits : 2 ^ (16 + s.fld (Reg.MEM_CFG 0) 2 2) < 2 ^ 32 := Nat.pow_lt_pow_right (by decide) (by omega)
  rw [bankDone, regN_of_reg (reg_raise_mem _ _ (memRetireRow_below h)), regN_of_reg (reg_setFlag_ne _ _ _ (memStat_ne_retireRow h)),
    regN_setRegN, if_pos rfl, Nat.mod_eq_of_lt fits]

theorem retireRow_ne_memLogStat (h : Nat) : Reg.MEM_RETIRE_ROW h ≠ Reg.MEM_LOG_STAT h := by
  unfold Reg.MEM_RETIRE_ROW Reg.MEM_LOG_STAT; omega

theorem mem_bankDone : (bankDone s h b).mem = s.mem := by rw [onlyRegs_bankDone.mem, bankFreed, setChan_mem]

end

/-! MEM_FLIP armed (R322). -/

/-- A channel with its MEM_FLIP replaced. -/
def putFlip (s : State) (h : Nat) (f : Option (BitVec 160)) : State := setChan s h { chanSt s h with flip := f }

section
variable {s : State} {h : Fin 4} {v : BitVec 32}

theorem exec_memFlipArm_barred (barred : modeIn s testModes = false) : exec (.memFlipArm h v) s = .next (s.raise blkMem 31) := by
  simp [execMemFlipArm, barred]

theorem exec_memFlipArm_arms (test : modeIn s testModes = true) (arm : v.getLsbD 31 = true) :
    ∃ m, exec (.memFlipArm h v) s = .next ((putFlip s h (some m)).setRegN (Reg.MEM_FLIP_CTL h) (2 ^ 31)) := by
  simp only [exec_memFlipArm, execMemFlipArm, test, arm, Bool.not_true, Bool.false_eq_true, if_false, if_true]
  exact ⟨_, rfl⟩

theorem exec_memFlipArm_disarms (test : modeIn s testModes = true) (disarm : v.getLsbD 31 = false) :
    exec (.memFlipArm h v) s = .next ((putFlip s h none).setFlag (Reg.MEM_FLIP_CTL h) 31 false) := by
  simp only [exec_memFlipArm, execMemFlipArm, test, disarm, Bool.not_true, Bool.false_eq_true, if_false]
  rfl

end

/-! The log read (R318). -/

/-- The log's head answered and popped. -/
def memLogTaken (s : State) (h init : Nat) : State :=
  let r := logPop (s.answer init 0 [logWord (chanSt s h).log 3]) (chanSt s h).log (Reg.MEM_LOG_STAT h)
  setChan r.1 h { chanSt r.1 h with log := r.2 }

section
variable {s : State} {h : Fin 4} {init : Fin 512}

theorem exec_memLogRead_pops (user : init.val ≠ 474) (some : (chanSt s h).log.q ≠ []) :
    exec (.memLogRead h init) s = .next (memLogTaken s h init) := by
  rw [exec_memLogRead, execMemLogRead]
  exact if_neg (by simpa [debugInit, user] using some)

theorem onlyRegs_logPop (s : State) (l : Log) (a : Nat) : OnlyRegs s (logPop s l a).1 := ((OnlyRegs.refl s).setFlag _ _ _).setFld _ _ _ _

theorem log_memLogTaken : (chanSt (memLogTaken s h init) h).log.q = (chanSt s h).log.q.drop 1 := by
  rw [memLogTaken, chanSt_setChan_same]; rfl

theorem flag_memLogTaken : (memLogTaken s h init).flag (Reg.MEM_LOG_STAT h) 0 = ((chanSt s h).log.q.drop 1).isEmpty := by
  rw [memLogTaken, flag_setChan, logPop]
  exact (flag_setFld _ _ _ _ _ _ _ (by decide) (by decide)).trans ((if_neg (by omega)).trans (flag_setFlag _ _ _ _ (by decide)))

theorem sameRegs_memLogTaken : SameRegs s (memLogTaken s h init) (· = Reg.MEM_LOG_STAT h) :=
  have answered : SameRegs s (s.answer init 0 [logWord (chanSt s h).log 3]) (· = Reg.MEM_LOG_STAT h) := .refl s _
  (answered.setFlag rfl 0 _).setFld rfl _ _ _

theorem mem_memLogTaken : (memLogTaken s h init).mem = s.mem := by
  rw [memLogTaken, setChan_mem, (onlyRegs_logPop _ _ _).mem]; rfl

end

/-! The statement. -/

/-- Settles O46: a flush, a copy and a patrol read of lines without errors write back what they hold; each of the others writes its
channel and the registers its rule names. -/
theorem sdramChannels : Obligations.SdramChannels := by
  refine ⟨fun s h m q i head other chan clean unarmed small => ?_, fun s h empty => ⟨s, exec_mergeFlush_empty empty, rfl⟩,
    fun s h rank ready awake room => ?_, fun s h rank ready awake some => ?_,
    fun s h mode rest => ⟨_, exec_init_starts mode rest, rfl⟩, fun s h mode => ⟨_, exec_init_barred mode, rfl⟩,
    fun s h under => ?_, fun s h under => ?_, fun s h ok idle => ⟨s, exec_initDone_idle idle, rfl⟩, fun s h ready => ?_,
    fun s h due slot => ?_, fun s h due => ?_, fun s h idle => ⟨s, exec_trainForced_idle idle, rfl⟩, fun s h on ready clean => ?_,
    fun s h off => ⟨s, exec_patrolRead_off off, rfl⟩, fun s h free rests empty => ?_,
    fun s h under => ⟨s, exec_retirePage_under under, rfl⟩, fun s h page n under small page24 errs unarmed room => ?_,
    fun s h spare rests fresh => ?_, fun s h no => ⟨_, exec_retireBank_refused no, rfl⟩, fun s h b under errs => ?_,
    fun s h v barred => ⟨_, exec_memFlipArm_barred barred, rfl⟩, fun s h v test arm => ?_, fun s h v test disarm => ?_,
    fun s h init user some => ?_⟩
  case refine_1 =>
    refine ⟨flushed s h m, (exec_mergeFlush_head head).trans (congrArg _ (mergeFlush_clean chan clean unarmed)), ?_,
      merge_flushed head other, regN_count s _, fun a ha => ?_, SameRegs.count (w := (· = Reg.MEM_MERGE_CNT h)) (.refl s _) rfl⟩
    · rw [byte_flushed, if_pos (by omega), Nat.add_sub_cancel_left]
    · rw [byte_flushed, if_neg (by omega)]
  case refine_2 =>
    exact ⟨_, exec_refreshDue_postpones ready awake room, postponed_refreshed s h rank _, sameRegs_refreshed s h rank _,
      sameMem_of_mem (mem_refreshed s h rank _)⟩
  case refine_3 =>
    have apart : Reg.MEM_REF_BURST_CNT h ≠ Reg.MEM_STAT h := by unfold Reg.MEM_REF_BURST_CNT Reg.MEM_STAT; omega
    refine ⟨_, exec_refreshDue_bursts ready awake some, postponed_refreshed _ h rank 0, ?_, fun a ha => ?_, sameMem_of_mem ?_⟩
    · rw [regN_of_reg (sameRegs_refreshed _ h rank 0 _ apart), regN_count]
    · rw [sameRegs_refreshed _ h rank 0 a fun e => ha (.inl e)]
      exact reg_setRegN_ne s _ fun e => ha (.inr e.symm)
    · rw [mem_refreshed, State.count_mem]
  case refine_4 =>
    refine ⟨_, exec_initDone_ready under, ?_, flag_raise _ _ 4 (by decide), fun a ha => ?_, sameMem_of_mem ?_⟩
    · rw [state_raise, fld_setFld _ _ _ _ _ (by decide) (by decide)]; rfl
    · rw [sameRegs_raise _ _ _ a fun e => ha (.inr e), reg_setFld_ne _ _ _ _ fun e => ha (.inl e.symm)]
    · rw [State.raise_mem, State.setFld_mem]
  case refine_5 =>
    refine ⟨_, exec_initDone_fails under, ?_, raised_memLog (by decide) (flag_raise _ _ 5 (by decide)), sameMem_of_mem ?_⟩
    · rw [fld_of_reg 1 0 (reg_memLog _ (memStat_below h) (memStat_ne_memLogStat h)), state_raise,
        fld_setFld _ _ _ _ _ (by decide) (by decide)]; rfl
    · rw [memLog_mem, State.raise_mem, State.setFld_mem]
  case refine_6 => exact ⟨_, exec_retrainDue_ready ready, by rw [chanSt_setChan_same], by rw [chanSt_setChan_same], rfl⟩
  case refine_7 =>
    exact ⟨_, exec_trainingSlot_due due slot, due_retrain s h, regN_count _ _, sameRegs_retrain s h, sameMem_of_mem (mem_retrain s h)⟩
  case refine_8 =>
    refine ⟨_, exec_trainForced_due due, ?_, regN_retrainForced s h, flag_raise _ _ 6 (by decide), sameMem_of_mem ?_⟩
    · rw [(onlyRegs_retrainForced s h).chanSt, due_retrain]
    · rw [(onlyRegs_retrainForced s h).mem, mem_retrain]
  case refine_9 => exact ⟨_, exec_patrolRead_clean on ready clean, by rw [chanSt_setChan_same], rfl, rfl⟩
  case refine_10 =>
    exact ⟨_, exec_retirePage_begins free rests empty, page_pageBegun s h 0, flag_setFlag _ _ _ _ (by decide),
      SameRegs.setFlag (w := (· = Reg.MEM_STAT h)) (.refl s _) rfl _ _, sameMem_of_mem rfl⟩
  case refine_11 =>
    obtain ⟨u, copied, done⟩ := exec_retirePageDone_copied under ⟨errs, unarmed⟩
    have bank : (chanSt u h).bank = (chanSt s h).bank := by unfold chanSt; rw [copied.ext]
    have stat : u.fld (Reg.MEM_STAT h) 16 8 = s.fld (Reg.MEM_STAT h) 16 8 := fld_of_reg 16 8 (by unfold State.reg; rw [copied.regs])
    have logged := reg_memLog (pageCounted u h page n) (c := 4096 * page) (kind := 7) (sym := 0) (cw := 0) (memStat_below h)
      (memStat_ne_memLogStat h)
    have remap : Reg.MEM_REMAP h n ≠ Reg.MEM_LOG_STAT h := by unfold Reg.MEM_REMAP Reg.MEM_LOG_STAT; omega
    refine ⟨_, done, ?_, ?_, ?_, ?_, fun a => ?_⟩
    · rw [regN_of_reg (reg_memLog _ (memRemap_below h small) remap), regN_memRemap_pageCounted small page24]
    · obtain ⟨l, log⟩ := chanSt_memLog (pageCounted u h page n) h (4096 * page) 7 0 0
      rw [log]; exact page_pageCounted
    · rw [fld_of_reg 16 8 logged, fld_pageCounted small (by rwa [stat]), stat]
    · rw [flag_of_reg 3 logged, copying_pageCounted, bank]
    · exact (sameMem_of_mem ((memLog_mem ..).trans mem_pageCounted) a).trans (copied.sameMem a)
  case refine_12 =>
    exact ⟨_, exec_retireBank_begins spare rests fresh, bank_bankBegun s h, copying_bankBegun s h,
      by rw [bankBegun, regN_setRegN, if_pos rfl]; rfl, sameMem_of_mem (mem_bankBegun s h)⟩
  case refine_13 =>
    obtain ⟨l, log⟩ := chanSt_memLog (bankDone s h b) h 0 8 0 0
    have freed : chanSt (bankDone s h b) h = chanSt (bankFreed s h b) h := onlyRegs_bankDone.chanSt h
    refine ⟨_, exec_retireDone_sound under errs, ?_, ?_, raised_memLog (by decide) (flag_raise _ _ 9 (by decide)), ?_,
      sameMem_of_mem ?_⟩
    · rw [log, freed, bankFreed, chanSt_setChan_same]
    · rw [log, freed, bankFreed, chanSt_setChan_same]
    · rw [regN_of_reg (reg_memLog _ (memRetireRow_below h) (retireRow_ne_memLogStat h)), regN_retireRow_bankDone]
    · rw [memLog_mem, mem_bankDone]
  case refine_14 =>
    obtain ⟨m, armed⟩ := exec_memFlipArm_arms (s := s) (h := h) test arm
    refine ⟨_, armed, ?_, ?_, SameRegs.setRegN (w := (· = Reg.MEM_FLIP_CTL h)) (.refl s _) rfl _,
      sameMem_of_mem (State.setRegN_mem ..)⟩
    · rw [((OnlyRegs.refl _).setRegN _ _).chanSt, putFlip, chanSt_setChan_same]; exact Option.some_ne_none m
    · rw [regN_setRegN, if_pos rfl]; rfl
  case refine_15 =>
    refine ⟨_, exec_memFlipArm_disarms test disarm, ?_, flag_setFlag _ _ _ _ (by decide),
      SameRegs.setFlag (w := (· = Reg.MEM_FLIP_CTL h)) (.refl s _) rfl _ _, sameMem_of_mem (State.setFlag_mem ..)⟩
    rw [((OnlyRegs.refl _).setFlag _ _ _).chanSt, putFlip, chanSt_setChan_same]
  case refine_16 =>
    exact ⟨_, exec_memLogRead_pops user some, rfl, rfl, log_memLogTaken, flag_memLogTaken, sameRegs_memLogTaken,
      sameMem_of_mem mem_memLogTaken⟩

end Sys2Proof.Machine
end

section
/-! PROOFS. A statement of 11_sdram_cxl.md: CXL memory and the PCIe endpoint (R324…R329, R331). -/

namespace Sys2Proof.Machine

/-! Reads of memory do not look at the CXL requests outstanding. -/

section
variable (s : State) (c : List NocReq)

/-- The state with the outstanding CXL requests replaced. -/
def withCxl : State := { s with ext := { s.ext with cxl := c } }

theorem nodeCtrs_withCxl (r : Nat) : ∀ l j, nodeCtrs (withCxl s c) r l j = nodeCtrs s r l j
  | 0, _ => rfl
  | l + 1, j => by
    unfold nodeCtrs
    rw [nodeCtrs_withCxl r l]
    rfl

theorem tilePlain_withCxl (r t : Nat) : tilePlain (withCxl s c) r t = tilePlain s r t := by
  have ctr : tileCtr (withCxl s c) r t = tileCtr s r t := by unfold tileCtr; dsimp only; rw [nodeCtrs_withCxl]; rfl
  unfold tilePlain; rw [ctr]; rfl

theorem viewByte_withCxl (k a : Nat) : viewByte (withCxl s c) k a = viewByte s k a := by
  have kind : impKind (withCxl s c) a k = impKind s a k := rfl
  have tile (x : ImpKind) : tileByte (withCxl s c) x a = tileByte s x a := by
    cases x with
    | encInt r => unfold tileByte; dsimp only; rw [tilePlain_withCxl]; rfl
    | _ => rfl
  unfold viewByte
  simp only [kind, tile]
  rfl

theorem viewBytes_withCxl (k a n : Nat) : (withCxl s c).viewBytes k a n = s.viewBytes k a n := by
  unfold State.viewBytes; simp only [viewByte_withCxl]

end

/-! The HDM decoders (R325). -/

section
variable {s : State} {d : Fin 4} {v : BitVec 32}

/-- CXL_DEC_CTL with a write's settings, ERR kept. -/
def decWritten (s : State) (d : Nat) (v : BitVec 32) : State :=
  s.setRegN (Reg.CXL_DEC_CTL d) (Nat.land v.toNat 0x1F9 + bit (s.flag (Reg.CXL_DEC_CTL d) 2) * 4)

/-- A decoder committed. -/
def decCommitted (s : State) (d : Nat) (v : BitVec 32) : State :=
  ((decWritten s d v).setFlag (Reg.CXL_DEC_CTL d) 2 false).setFlag (Reg.CXL_DEC_CTL d) 1 true
/-- A commit refused, and reported. -/
def decRefused (s : State) (d : Nat) (v : BitVec 32) : State :=
  ((decWritten s d v).setFlag (Reg.CXL_DEC_CTL d) 2 true).raise blkMem 14
/-- A decoder uncommitted. -/
def decFreed (s : State) (d : Nat) : State := (s.setFlag (Reg.CXL_DEC_CTL d) 0 false).setFlag (Reg.CXL_DEC_CTL d) 1 false

theorem testBit_settings_zero (v : BitVec 32) : (Nat.land v.toNat 0x1F9).testBit 0 = v.getLsbD 0 :=
  (Nat.testBit_and v.toNat 0x1F9 0).trans (by rw [BitVec.testBit_toNat, show Nat.testBit 0x1F9 0 = true by decide, Bool.and_true])

theorem exec_cxlDecCommit_commits (off : decOn s d = false) (commit : v.getLsbD 0 = true) (good : decBad (decWritten s d v) d = false) :
    exec (.cxlDecCommit d v) s = .next (decCommitted s d v) := by
  unfold decWritten at good
  simp only [exec_cxlDecCommit, execCxlDecCommit, off, testBit_settings_zero, commit, good, Bool.false_eq_true, if_false, if_true]
  rfl

theorem exec_cxlDecCommit_refuses (off : decOn s d = false) (commit : v.getLsbD 0 = true) (bad : decBad (decWritten s d v) d = true) :
    exec (.cxlDecCommit d v) s = .next (decRefused s d v) := by
  unfold decWritten at bad
  simp only [exec_cxlDecCommit, execCxlDecCommit, off, testBit_settings_zero, commit, bad, Bool.false_eq_true, if_false, if_true]
  rfl

theorem exec_cxlDecCommit_held (on : decOn s d = true) (commit : v.getLsbD 0 = true) : exec (.cxlDecCommit d v) s = .next s := by
  simp only [exec_cxlDecCommit, execCxlDecCommit, on, testBit_settings_zero, commit, if_true]

theorem exec_cxlDecCommit_frees (on : decOn s d = true) (free : v.getLsbD 0 = false) :
    exec (.cxlDecCommit d v) s = .next (decFreed s d) := by
  simp only [exec_cxlDecCommit, execCxlDecCommit, on, testBit_settings_zero, free, Bool.false_eq_true, if_true, if_false]
  rfl

theorem decCtl_below (d : Fin 4) : Reg.CXL_DEC_CTL d < evtStatus blkMem := by
  unfold Reg.CXL_DEC_CTL evtStatus blockBase blkMem ctrlBase; omega

theorem testBit_add_mul_four (x y : Nat) {n : Nat} (low : n < 2) : (x + y * 4).testBit n = x.testBit n := by
  have cut (z : Nat) : (z % 2 ^ 2).testBit n = z.testBit n := by rw [Nat.testBit_mod_two_pow, decide_eq_true low, Bool.true_and]
  rw [← cut, ← cut x]
  exact congrArg (Nat.testBit · n) (Nat.add_mul_mod_self_right x y 4)

/-- A write's settings take COMMIT from the value, and never COMMITTED. -/
theorem flag_decWritten (s : State) (d : Nat) (v : BitVec 32) : (decWritten s d v).flag (Reg.CXL_DEC_CTL d) 0 = v.getLsbD 0 ∧
    decOn (decWritten s d v) d = false := by
  have masked : Nat.land v.toNat 0x1F9 < 2 ^ 9 := lt_of_le_of_lt Nat.and_le_right (by decide)
  have err : bit (s.flag (Reg.CXL_DEC_CTL d) 2) ≤ 1 := by unfold bit; split <;> decide
  have committed : (Nat.land v.toNat 0x1F9).testBit 1 = false :=
    (Nat.testBit_and v.toNat 0x1F9 1).trans (by rw [show Nat.testBit 0x1F9 1 = false by decide, Bool.and_false])
  unfold decOn decWritten
  rw [flag_setRegN _ _ _ (by omega), flag_setRegN _ _ _ (by omega), testBit_add_mul_four _ _ (by decide),
    testBit_add_mul_four _ _ (by decide)]
  exact ⟨testBit_settings_zero v, committed⟩

theorem sameRegs_decWritten (s : State) (d : Nat) (v : BitVec 32) : SameRegs s (decWritten s d v) (· = Reg.CXL_DEC_CTL d) :=
  SameRegs.setRegN (w := (· = Reg.CXL_DEC_CTL d)) (.refl s _) rfl _

theorem onlyRegs_decWritten (s : State) (d : Nat) (v : BitVec 32) : OnlyRegs s (decWritten s d v) := (OnlyRegs.refl s).setRegN _ _

theorem decCommitted_flags (s : State) (d : Nat) (v : BitVec 32) : decOn (decCommitted s d v) d = true ∧
    (decCommitted s d v).flag (Reg.CXL_DEC_CTL d) 2 = false ∧ (decCommitted s d v).flag (Reg.CXL_DEC_CTL d) 0 = v.getLsbD 0 := by
  obtain ⟨commit, -⟩ := flag_decWritten s d v
  refine ⟨flag_setFlag _ _ _ _ (by decide), ?_, ?_⟩
  · rw [decCommitted, flag_setFlag_ne _ _ _ _ _ (by decide) (by decide), flag_setFlag _ _ _ _ (by decide)]
  · rw [decCommitted, flag_setFlag_ne _ _ _ _ _ (by decide) (by decide), flag_setFlag_ne _ _ _ _ _ (by decide) (by decide), commit]

theorem decRefused_flags (s : State) (d : Fin 4) (v : BitVec 32) : decOn (decRefused s d v) d = false ∧
    (decRefused s d v).flag (Reg.CXL_DEC_CTL d) 2 = true := by
  have evented (n : Nat) := flag_of_reg n (reg_raise_mem ((decWritten s d v).setFlag (Reg.CXL_DEC_CTL d) 2 true) 14 (decCtl_below d))
  obtain ⟨-, committed⟩ := flag_decWritten s d v
  unfold decOn at *
  refine ⟨?_, (evented 2).trans (flag_setFlag _ _ _ _ (by decide))⟩
  rw [decRefused, evented, flag_setFlag_ne _ _ _ _ _ (by decide) (by decide), committed]

theorem decFreed_flags (s : State) (d : Nat) : decOn (decFreed s d) d = false ∧ (decFreed s d).flag (Reg.CXL_DEC_CTL d) 0 = false :=
  ⟨flag_setFlag _ _ _ _ (by decide), by
    rw [decFreed, flag_setFlag_ne _ _ _ _ _ (by decide) (by decide), flag_setFlag _ _ _ _ (by decide)]⟩

end

/-! Requests of CXL memory (R326, R327). -/

/-- An awaited response leaves the memory block's state beside its registers. -/
theorem ext_respond {s : State} {r : NocReq} {status : Nat} {data : List Byte} (awaited : r.tag < 256) :
    (respond s r status data).ext = s.ext := by
  rw [respond_awaited awaited, State.setNoc_ext, (onlyRegs_errNote s r status).ext]

/-- POISON and TARGET are noted in NOC_LAST_ERR and NOC_LAST_ADDR alone. -/
theorem reg_respond_quiet {s : State} {r : NocReq} {status a : Nat} {data : List Byte} (awaited : r.tag < 256)
    (quiet : status = stPoison ∨ status = stTarget) (apart : a ≠ Reg.NOC_LAST_ERR ∧ a ≠ Reg.NOC_LAST_ADDR) :
    (respond s r status data).reg a = s.reg a := by
  have noted : errNote s r status = errNoted s r status := by rcases quiet with rfl | rfl <;> rfl
  rw [respond_awaited awaited, reg_setNoc, noted, reg_errNoted _ _ _ apart.1 apart.2]

section
variable {s : State} {init : Fin 512} {tag : BitVec 8} {r : NocReq} (under : cxlReq s init.val tag.toNat = some r)
include under

theorem exec_cxlResponse_read (read : r.op ≠ 1) : exec (.cxlResponse init tag false) s =
    .next (respond (cxlDrop s r) r 0 (s.viewBytes r.kix r.addr r.len)) := by
  have view : (cxlDrop s r).viewBytes r.kix r.addr r.len = s.viewBytes r.kix r.addr r.len := viewBytes_withCxl s (s.ext.cxl.erase r) _ _ _
  simp only [exec_cxlResponse, execCxlResponse, under, read, view, Bool.false_eq_true, if_false]

theorem exec_cxlResponse_poison (read : r.op ≠ 1) : exec (.cxlResponse init tag true) s =
    .next (respond ((cxlDrop s r).count Reg.CXL_POISON_CNT) r stPoison []) := by
  simp only [exec_cxlResponse, execCxlResponse, under, read, if_false, if_true]

theorem exec_cxlResponse_write {p : Bool} (write : r.op = 1) : exec (.cxlResponse init tag p) s =
    .next (respond ((cxlDrop s r).viewWrite r.kix r.addr r.data) r 0 []) := by
  simp only [exec_cxlResponse, execCxlResponse, under, write, if_true]

theorem exec_cxlTimeout_ends : exec (.cxlTimeout init tag) s =
    .next ((respond ((cxlDrop s r).count Reg.CXL_TO_CNT) r stTarget []).raise blkMem 13) := by
  simp only [exec_cxlTimeout, execCxlTimeout, under]

end

theorem exec_cxlResponse_none {s : State} {init : Fin 512} {tag : BitVec 8} {p : Bool} (none : s.ext.cxl = []) :
    exec (.cxlResponse init tag p) s = .next s := by
  simp [execCxlResponse, cxlReq, none]

/-! A write of HDM as an initiator makes it (R326). -/

section
variable {s : State} {k a : Nat} {b : List Byte}

/-- Bytes within one tile that IMP does not protect are stored as they are. -/
theorem rawWrite_hdm (hdm : inHdm a = true) (tile : a % 512 + b.length ≤ 512) (some : 0 < b.length) (plain : impKind s a k = .plain) :
    s.rawWrite k a b = s.store a b := by
  have range : hdmBase ≤ a := by simp only [inHdm, Bool.and_eq_true, decide_eq_true_eq] at hdm; exact hdm.1
  unfold hdmBase at range
  have scratch : inScratch a = false := by
    rw [inScratch, Bool.and_eq_false_iff]; exact .inr (decide_eq_false (by unfold scratchBase scratchSize; omega))
  have sdram : inSdram a = false := by rw [inSdram, Bool.and_eq_false_iff]; exact .inr (decide_eq_false (by omega))
  have tiles : ceilDiv (a % 512 + b.length) 512 = 1 := by unfold ceilDiv; omega
  have lo : Nat.max a (512 * (a / 512)) = a := Nat.max_eq_left (by omega)
  have hi : Nat.min (a + b.length) (512 * (a / 512) + 512) = a + b.length := Nat.min_eq_left (by omega)
  have whole : slice b 0 b.length = b := by simp [slice]
  simp only [State.rawWrite, scratch, sdram, hdm, tiles, Bool.false_or, Bool.false_eq_true, if_false, if_true, List.range_one,
    List.map_cons, List.map_nil, Nat.add_zero, List.foldl_cons, List.foldl_nil, lo, hi, Nat.sub_self,
    Nat.add_sub_cancel_left, whole, plain, physWrite]

/-- Without a journal and outside SHADOW a write has no other effect (R403, R404). -/
theorem viewWrite_unjournalled (shadow : s.shadowing = false) (off : jOn s = false) (raw : s.rawWrite k a b = s.store a b) :
    s.viewWrite k a b = s.store a b := by
  have off' : jOn (s.store a b) = false := off
  simp only [State.viewWrite, shadow, raw, jMem, off', Bool.false_and, Bool.false_eq_true, if_false]

end

/-! The links of CXL (R327). -/

/-- A port's link as CXL_STAT shows it, and its change reported. -/
def linkShown (s : State) (p n : Nat) : State := (s.setFld Reg.CXL_STAT (8 * p + 6) (8 * p) n).raise blkMem 12

section
variable {s : State} {p : Fin 2} {w g : Fin 8} {n : Nat}

theorem exec_cxlLinkChg_up (on : cxlPortOn s p = true) (down : cxlUp s p = false) :
    exec (.cxlLinkChg p true w g) s = .next (linkShown s p (1 + 2 * w.val + 16 * g.val)) := by
  simp [execCxlLinkChg, on, down, linkShown]

theorem exec_cxlLinkChg_same {up : Bool} (same : up = cxlUp s p ∨ (up = true ∧ cxlPortOn s p = false)) :
    exec (.cxlLinkChg p up w g) s = .next s := by
  have idle : (up && !cxlPortOn s p || up == cxlUp s p) = true := by
    rcases same with rfl | ⟨rfl, off⟩
    · simp
    · simp [off]
  rw [exec_cxlLinkChg, execCxlLinkChg]
  exact if_pos idle

theorem onlyRegs_linkShown (s : State) (p n : Nat) : OnlyRegs s (linkShown s p n) := ((OnlyRegs.refl s).setFld _ _ _ _).raise _ _

/-- The decoders' registers stand while CXL_STAT is written and the change is reported. -/
theorem reg_linkShown {a : Nat} (below : a < evtStatus blkMem) (apart : Reg.CXL_STAT ≠ a) : (linkShown s p n).reg a = s.reg a := by
  rw [linkShown, reg_raise_mem _ _ below, reg_setFld_ne _ _ _ _ apart]

theorem flag_linkShown (q : Nat) : cxlUp (linkShown s p n) q =
    if 8 * p.val ≤ 8 * q ∧ 8 * q ≤ 8 * p.val + 6 then n.testBit (8 * q - 8 * p.val) else cxlUp s q := by
  unfold cxlUp
  rw [linkShown, flag_of_reg _ (reg_raise_mem _ _ (by decide)), flag_setFld _ _ _ _ _ _ _ (by omega) (by omega)]
  simp

theorem fld_linkShown : (linkShown s p n).fld Reg.CXL_STAT (8 * p.val + 6) (8 * p.val) = n % 2 ^ 7 := by
  rw [linkShown, fld_of_reg _ _ (reg_raise_mem _ _ (by decide)), fld_setFld _ _ _ _ _ (by omega) (by omega),
    show 8 * p.val + 6 + 1 - 8 * p.val = 7 by omega]

theorem reg_decoder_linkShown {a : Nat} (first : Reg.CXL_DEC_BASE 0 ≤ a) (last : a ≤ Reg.CXL_DEC_CTL 3) :
    (linkShown s p n).reg a = s.reg a :=
  reg_linkShown (lt_of_le_of_lt last (by decide)) (by unfold Reg.CXL_DEC_BASE at first; unfold Reg.CXL_STAT; omega)

theorem decRegs_linkShown {d : Nat} (hd : d < 4) :
    (linkShown s p n).reg (Reg.CXL_DEC_BASE d) = s.reg (Reg.CXL_DEC_BASE d) ∧
    (linkShown s p n).reg (Reg.CXL_DEC_SIZE d) = s.reg (Reg.CXL_DEC_SIZE d) ∧
    (linkShown s p n).reg (Reg.CXL_DEC_CTL d) = s.reg (Reg.CXL_DEC_CTL d) :=
  ⟨reg_decoder_linkShown (by unfold Reg.CXL_DEC_BASE; omega) (by unfold Reg.CXL_DEC_BASE Reg.CXL_DEC_CTL; omega),
    reg_decoder_linkShown (by unfold Reg.CXL_DEC_BASE Reg.CXL_DEC_SIZE; omega) (by unfold Reg.CXL_DEC_SIZE Reg.CXL_DEC_CTL; omega),
    reg_decoder_linkShown (by unfold Reg.CXL_DEC_BASE Reg.CXL_DEC_CTL; omega) (by unfold Reg.CXL_DEC_CTL; omega)⟩

theorem decOf_linkShown (a : Nat) : decOf (linkShown s p n) a = decOf s a := by
  unfold decOf
  refine List.find?_congr fun d hd => ?_
  obtain ⟨base, size, ctl⟩ := decRegs_linkShown (s := s) (p := p) (n := n) (List.mem_range.mp hd)
  unfold decOn decEnd decBase
  rw [fld_of_reg _ _ base, fld_of_reg _ _ size, flag_of_reg _ ctl]

theorem decPort_linkShown {d : Nat} (hd : d < 4) (a : Nat) : decPort (linkShown s p n) d a = decPort s d a := by
  obtain ⟨base, -, ctl⟩ := decRegs_linkShown (s := s) (p := p) (n := n) hd
  unfold decPort decBase; dsimp only
  rw [fld_of_reg _ _ base, flag_of_reg _ ctl, fld_of_reg 6 4 ctl, fld_of_reg _ _ ctl]

theorem decOf_lt {a d : Nat} (found : decOf s a = some d) : d < 4 := by
  unfold decOf at found
  exact List.mem_range.mp (List.mem_of_find?_eq_some found)

/-- A request's port is read in the decoders' registers, so a link's change leaves it. -/
theorem linkHit_linkShown (a q : Nat) :
    (decOf (linkShown s p n) a).any (fun d => decPort (linkShown s p n) d a == q) = (decOf s a).any (fun d => decPort s d a == q) := by
  rw [decOf_linkShown]
  cases found : decOf s a with
  | none => rw [Option.any_none, Option.any_none]
  | some d => rw [Option.any_some, Option.any_some, decPort_linkShown (decOf_lt found)]

/-- A link that goes down with no request of its own outstanding answers none. -/
theorem exec_cxlLinkChg_down (up : cxlUp s p = true)
    (others : ∀ r ∈ s.ext.cxl, ¬((decOf s r.addr).any (fun d => decPort s d r.addr == p.val) = true)) :
    exec (.cxlLinkChg p false w g) s = .next (linkShown s p 0) := by
  have ext := (onlyRegs_linkShown s p 0).ext
  have hits : (linkShown s p 0).ext.cxl.filter (fun r => (decOf (linkShown s p 0) r.addr).any
      (fun d => decPort (linkShown s p 0) d r.addr == p.val)) = [] := by
    rw [ext]; exact List.filter_eq_nil_iff.mpr fun r hr => by rw [linkHit_linkShown]; exact others r hr
  have rest : (linkShown s p 0).ext.cxl.filter (fun r => !(decOf (linkShown s p 0) r.addr).any
      (fun d => decPort (linkShown s p 0) d r.addr == p.val)) = (linkShown s p 0).ext.cxl := by
    rw [ext]; exact List.filter_eq_self.mpr fun r hr => by rw [linkHit_linkShown, Bool.not_eq_true', Bool.eq_false_iff]; exact others r hr
  unfold linkShown at *
  simp only [exec_cxlLinkChg, execCxlLinkChg, up, Bool.false_and, Bool.false_or, Bool.false_beq, Bool.not_true,
    Bool.false_eq_true, if_false, hits, rest, List.foldl_nil]

end

/-! The PCIe endpoint (R329, R331). -/

section
variable {s : State} {bar : Fin 3} {wr : Bool} {ofs : BitVec 26} {len : Fin 256} {tag : BitVec 8} {data : List Byte}

/-- The address a request through a BAR stands for. -/
def barAddr (s : State) (bar : Fin 3) (ofs : BitVec 26) : Nat :=
  if bar.val = 0 then 0x10000000 + ofs.toNat
  else if bar.val = 1 then blockBase blkPac + ofs.toNat % 2 ^ 24
  else blockBase (s.fld Reg.PCIE_BAR4_TGT 3 0) + ofs.toNat % 2 ^ 24

/-- The request of PCIE_INBOUND. -/
def pcieReq (s : State) (bar : Fin 3) (wr : Bool) (ofs : BitVec 26) (len : Fin 256) (tag : BitVec 8) (data : List Byte) : NocReq :=
  reqOf s 444 (if wr then 1 else 0) (barAddr s bar ofs) (len.val + 1) tag.toNat (padTo (if wr then len.val + 1 else 0) data)

theorem exec_pcieInbound_down (down : s.flag Reg.PCIE_STAT 0 = false) : exec (.pcieInbound bar wr ofs len tag data) s = .next s := by
  simp [execPcieInbound, down]

theorem exec_pcieInbound_aborts (up : s.flag Reg.PCIE_STAT 0 = true) (stable : s.mode = mStable) :
    exec (.pcieInbound bar wr ofs len tag data) s = .next (s.answer 444 stAbort []) := by
  simp [execPcieInbound, up, stable]

theorem exec_pcieInbound_injects (up : s.flag Reg.PCIE_STAT 0 = true) (out : s.mode ≠ mStable) :
    exec (.pcieInbound bar wr ofs len tag data) s = .next (inject s (pcieReq s bar wr ofs len tag data)) := by
  simp only [exec_pcieInbound, execPcieInbound, up, out, Bool.not_true, Bool.false_eq_true, if_false, pcieReq]
  match bar with
  | 0 => rfl
  | 1 => rfl
  | 2 => rfl

end

/-- The host's link as PCIE_STAT shows it, and its change reported. -/
def pcieShown (s : State) (n : Nat) : State := (s.setRegN Reg.PCIE_STAT n).raise blkMem 15

theorem pcieShown_spec (s : State) {n : Nat} (small : n < 2 ^ 32) : (pcieShown s n).regN Reg.PCIE_STAT = n ∧
    Raised (pcieShown s n) blkMem 15 ∧ SameRegs s (pcieShown s n) (fun a => a = Reg.PCIE_STAT ∨ evtOf blkMem 15 a) ∧
    SameMem s (pcieShown s n) := by
  refine ⟨?_, flag_raise _ _ 15 (by decide), ?_, sameMem_of_mem ?_⟩
  · rw [pcieShown, regN_of_reg (reg_raise_mem _ _ (by decide)), regN_setRegN, if_pos rfl, Nat.mod_eq_of_lt small]
  · have shown := (SameRegs.refl s (fun a => a = Reg.PCIE_STAT ∨ evtOf blkMem 15 a)).setRegN (.inl rfl) n
    exact shown.raise fun _ => .inr
  · rw [pcieShown, State.raise_mem, State.setRegN_mem]

theorem exec_pcieLinkChg_up (s : State) (w : Fin 32) (g : Fin 8) :
    exec (.pcieLinkChg true w g) s = .next (pcieShown s (1 + 2 * w.val + 64 * g.val)) := rfl

theorem exec_pcieLinkChg_down (s : State) (w : Fin 32) (g : Fin 8) : exec (.pcieLinkChg false w g) s = .next (pcieShown s 0) := rfl

/-! The statement. -/

/-- Settles O47: a write of CXL_DEC_CTL has four outcomes, a request of CXL memory ends in `respond`, a link's change in `linkShown`, and
a PCIe request that is taken goes through `inject`. -/
theorem cxlAndPcie : Obligations.CxlAndPcie := by
  refine ⟨fun s d v off commit good => ?_, fun s d v off commit bad => ?_,
    fun s d v on commit => ⟨s, exec_cxlDecCommit_held on commit, rfl⟩, fun s d v on free => ?_,
    fun s init tag r under awaited read => ?_, fun s init tag r under awaited read => ?_,
    fun s init tag r x p under awaited write hdm shadow unjournalled length tile plain _ lo hi => ?_,
    fun s init tag p none => ⟨s, exec_cxlResponse_none none, rfl⟩, fun s init tag r under awaited => ?_,
    fun s p w g on down => ?_, fun s p w g up others => ?_, fun s p up w g same => ⟨s, exec_cxlLinkChg_same same, rfl⟩,
    fun s init ofs v got => ⟨_, rfl, rfl⟩, fun s init ofs v got => ⟨_, rfl, rfl⟩,
    fun s bar wr ofs len tag data down => ⟨s, exec_pcieInbound_down down, rfl⟩,
    fun s bar wr ofs len tag data up stable => ⟨_, exec_pcieInbound_aborts up stable, rfl⟩,
    fun s bar wr ofs len tag data a up out addr block curb first off => ?_,
    fun s w g => ⟨_, exec_pcieLinkChg_up s w g, pcieShown_spec s (by omega)⟩,
    fun s w g => ⟨_, exec_pcieLinkChg_down s w g, pcieShown_spec s (by decide)⟩⟩
  case refine_1 =>
    obtain ⟨on, err, set⟩ := decCommitted_flags s d v
    exact ⟨_, exec_cxlDecCommit_commits off commit good, on, err, set.trans commit,
      ((sameRegs_decWritten s d v).setFlag rfl _ _).setFlag rfl _ _,
      (((onlyRegs_decWritten s d v).setFlag _ _ _).setFlag _ _ _).sameMem⟩
  case refine_2 =>
    obtain ⟨still, err⟩ := decRefused_flags s d v
    exact ⟨_, exec_cxlDecCommit_refuses off commit bad, still, err, flag_raise _ _ 14 (by decide),
      (((onlyRegs_decWritten s d v).setFlag _ _ _).raise _ _).sameMem⟩
  case refine_3 =>
    obtain ⟨freed, clear⟩ := decFreed_flags s d
    exact ⟨_, exec_cxlDecCommit_frees on free, freed, clear,
      ((SameRegs.refl s (· = Reg.CXL_DEC_CTL d)).setFlag rfl _ _).setFlag rfl _ _, sameMem_of_mem rfl⟩
  case refine_4 =>
    exact ⟨_, exec_cxlResponse_read under read, congrArg Ext.cxl (ext_respond awaited), congrArg Noc.resps (noc_respond awaited),
      regs_respond_ok awaited, mem_respond awaited⟩
  case refine_5 =>
    refine ⟨_, exec_cxlResponse_poison under read, congrArg Ext.cxl (ext_respond awaited), congrArg Noc.resps (noc_respond awaited), ?_,
      sameMem_of_mem (mem_respond awaited)⟩
    rw [regN_of_reg (reg_respond_quiet awaited (.inl rfl) (by decide)), regN_count]; rfl
  case refine_6 =>
    have raw := rawWrite_hdm (s := cxlDrop s r) (b := r.data) hdm (by rw [length]; exact tile) (by omega) plain
    have stored := viewWrite_unjournalled (s := cxlDrop s r) shadow unjournalled raw
    have byte (y : Nat) : (respond ((cxlDrop s r).store r.addr r.data) r 0 []).byte y =
        if r.addr ≤ y ∧ y < r.addr + r.len then r.data.getD (y - r.addr) 0 else s.byte y :=
      (sameMem_of_mem (mem_respond awaited) y).trans (by rw [byte_store, length]; rfl)
    refine ⟨respond ((cxlDrop s r).store r.addr r.data) r 0 [], (exec_cxlResponse_write under write).trans (by rw [stored]), ?_,
      fun y out => ?_, congrArg Noc.resps (noc_respond awaited)⟩
    · rw [byte, if_pos ⟨lo, hi⟩]
    · rw [byte, if_neg (by omega)]
  case refine_7 =>
    refine ⟨_, exec_cxlTimeout_ends under, ?_, ?_, ?_, flag_raise _ _ 13 (by decide), sameMem_of_mem ?_⟩
    · rw [State.raise_ext, ext_respond awaited]; rfl
    · rw [State.raise_noc, noc_respond awaited]; rfl
    · rw [regN_of_reg (reg_raise_mem _ _ (by decide)), regN_of_reg (reg_respond_quiet awaited (.inr rfl) (by decide)), regN_count]; rfl
    · rw [State.raise_mem, mem_respond awaited]; rfl
  case refine_8 =>
    have only := onlyRegs_linkShown s p (1 + 2 * w.val + 16 * g.val)
    refine ⟨_, exec_cxlLinkChg_up on down, ?_, ?_, ?_, flag_raise _ _ 12 (by decide), only.ext, only.sameMem⟩
    · rw [flag_linkShown, if_pos (by omega), Nat.sub_self, Nat.testBit_zero, decide_eq_true_eq]; omega
    · rw [fld_linkShown]; omega
    · rw [flag_linkShown, if_neg (by omega)]
  case refine_9 =>
    have only := onlyRegs_linkShown s p 0
    refine ⟨_, exec_cxlLinkChg_down up others, ?_, flag_raise _ _ 12 (by decide), only.ext, only.noc, only.sameMem⟩
    rw [flag_linkShown, if_pos (by omega), Nat.zero_testBit]
  case refine_10 =>
    have there : barAddr s bar ofs = a := addr.symm
    refine ⟨_, exec_pcieInbound_injects up out, pcieReq s bar wr ofs len tag data, ?_⟩
    rw [inject_sends (r := pcieReq s bar wr ofs len tag data) (by rw [← there] at block; exact block) first (chargeSend_free off curb)]
    exact ⟨rfl, rfl, there, rfl, rfl, rfl, rfl⟩

end Sys2Proof.Machine
end

section
/-! SUPPORT. What no step of the block disturbs: the queue behind the command, and the canonical form of the register table and of the
memory. One rule per function of the model: an orderly state goes to an orderly one. A rule is proved from the rules of the functions that
its function calls, in the order of its text, so that the last rule says it of every command. -/

namespace Sys2Proof.Machine

/-- What no step of the block disturbs: the waiting commands stand as they were, and a canonical register table and memory stay
canonical. -/
structure Orderly (s t : State) : Prop where
  pending : t.pending = s.pending
  regs    : swf regReset s.regs = true → swf regReset t.regs = true
  mem     : Memory.wf s.mem → Memory.wf t.mem

/-- The same of the state that a result may hold. -/
def OrderlyOpt (s : State) (o : Option State) : Prop := ∀ ⦃u⦄, o = some u → Orderly s u

/-- The same of a result that may hold a state with a value. -/
def OrderlyOptFst {α : Type} (s : State) (o : Option (State × α)) : Prop := ∀ ⦃u⦄, o = some u → Orderly s u.1

/-- An outcome that is a next state, in order. -/
def GoesOn (s : State) (o : Out) : Prop := ∃ t, o = .next t ∧ Orderly s t

variable {s t u v : State} {α β : Type}

/-- A value known by its name alone: what the kernel shall not evaluate in a proof. -/
theorem named (x : α) : ∃ y, x = y := ⟨x, rfl⟩

namespace Orderly

theorem refl (s : State) : Orderly s s := ⟨rfl, id, id⟩

theorem trans (h : Orderly s t) (k : Orderly t u) : Orderly s u :=
  ⟨k.pending.trans h.pending, k.regs ∘ h.regs, k.mem ∘ h.mem⟩

/-- Where none of the three parts changes. -/
theorem same (h : Orderly s t) (hp : u.pending = t.pending) (hr : u.regs = t.regs) (hm : u.mem = t.mem) : Orderly s u :=
  ⟨hp.trans h.pending, hr ▸ h.regs, hm ▸ h.mem⟩

/-! The parts of the state that are none of the three. -/

theorem setTim {x : Timing} (h : Orderly s t) : Orderly s (t.setTim x) := h.same rfl rfl rfl
theorem setHo {x : Holdover} (h : Orderly s t) : Orderly s (t.setHo x) := h.same rfl rfl rfl
theorem setCal {x : Calendar} (h : Orderly s t) : Orderly s (t.setCal x) := h.same rfl rfl rfl
theorem setLpp {x : Lpp} (h : Orderly s t) : Orderly s (t.setLpp x) := h.same rfl rfl rfl
theorem setFab {x : Fabric} (h : Orderly s t) : Orderly s (t.setFab x) := h.same rfl rfl rfl
theorem setLdr {x : Loader} (h : Orderly s t) : Orderly s (t.setLdr x) := h.same rfl rfl rfl
theorem setFar {x : Farrier} (h : Orderly s t) : Orderly s (t.setFar x) := h.same rfl rfl rfl
theorem setNoc {x : Noc} (h : Orderly s t) : Orderly s (t.setNoc x) := h.same rfl rfl rfl
theorem setImp {x : Imp} (h : Orderly s t) : Orderly s (t.setImp x) := h.same rfl rfl rfl
theorem setLane {x : Lanes} (h : Orderly s t) : Orderly s (t.setLane x) := h.same rfl rfl rfl
theorem setRly {x : Relay} (h : Orderly s t) : Orderly s (t.setRly x) := h.same rfl rfl rfl
theorem setFmp {x : Fmp} (h : Orderly s t) : Orderly s (t.setFmp x) := h.same rfl rfl rfl
theorem setPw {x : Power} (h : Orderly s t) : Orderly s (t.setPw x) := h.same rfl rfl rfl
theorem setSec {x : Security} (h : Orderly s t) : Orderly s (t.setSec x) := h.same rfl rfl rfl
theorem setOut {x : Outrider} (h : Orderly s t) : Orderly s (t.setOut x) := h.same rfl rfl rfl
theorem setSvc {x : Service} (h : Orderly s t) : Orderly s (t.setSvc x) := h.same rfl rfl rfl
theorem setDbg {x : Debug} (h : Orderly s t) : Orderly s (t.setDbg x) := h.same rfl rfl rfl
theorem setPac {x : Pacer} (h : Orderly s t) : Orderly s (t.setPac x) := h.same rfl rfl rfl
theorem setCan {x : Canter} (h : Orderly s t) : Orderly s { t with can := x } := h.same rfl rfl rfl
theorem setExt {x : Ext} (h : Orderly s t) : Orderly s { t with ext := x } := h.same rfl rfl rfl
theorem setLatches {x : List ((Nat × Nat) × List Word)} (h : Orderly s t) : Orderly s { t with latches := x } := h.same rfl rfl rfl
theorem setStaged {x : List ((Nat × Nat) × Word)} (h : Orderly s t) : Orderly s { t with staged := x } := h.same rfl rfl rfl

theorem setHoLpp {x : Holdover} {y : Lpp} (h : Orderly s t) : Orderly s { t with ho := x, lpp := y } := h.same rfl rfl rfl

theorem ite {c : Prop} {_ : Decidable c} (h : Orderly s t) (k : Orderly s u) : Orderly s (if c then t else u) := by
  split
  · exact h
  · exact k

/-- An update that is made where a condition holds; where it does not; one of two. -/
theorem when {c : Prop} {_ : Decidable c} (h : Orderly s t) (k : Orderly s t → Orderly s u) : Orderly s (if c then u else t) :=
  .ite (k h) h
theorem whenNot {c : Prop} {_ : Decidable c} (h : Orderly s t) (k : Orderly s t → Orderly s u) : Orderly s (if c then t else u) :=
  .ite h (k h)
theorem both {c : Prop} {_ : Decidable c} (h : Orderly s t) (k : Orderly s t → Orderly s u) (l : Orderly s t → Orderly s v) :
    Orderly s (if c then u else v) := .ite (k h) (l h)

theorem foldl {f : State → α → State} {l : List α} (h : Orderly s t) (hf : ∀ u x, Orderly s u → Orderly s (f u x)) :
    Orderly s (l.foldl f t) :=
  List.foldlRecOn l f h fun u k x _ => hf u x k

theorem foldlFst {f : State × β → α → State × β} {l : List α} {p : State × β} (h : Orderly s p.1)
    (hf : ∀ q x, Orderly s q.1 → Orderly s (f q x).1) : Orderly s (l.foldl f p).1 :=
  List.foldlRecOn (motive := fun q => Orderly s q.1) l f h fun q k x _ => hf q x k

theorem iteFst {c : Prop} {_ : Decidable c} {p q : State × α} (h : Orderly s p.1) (k : Orderly s q.1) :
    Orderly s (if c then p else q).1 := by
  split
  · exact h
  · exact k

/-- A state that comes with a value. -/
theorem pair {x : α} (h : Orderly s t) : Orderly s (t, x).1 := h

theorem of_fst {p : State × α} {x : α} (h : Orderly s p.1) (e : p = (u, x)) : Orderly s u := by subst e; exact h

end Orderly

namespace OrderlyOpt

theorem none : OrderlyOpt s none := fun _ e => nomatch e
theorem some (h : Orderly s t) : OrderlyOpt s (some t) := fun _ e => Option.some.inj e ▸ h
theorem act {o : Option Nat} {f : Nat → State} (h : ∀ n, Orderly s (f n)) : OrderlyOpt s (act o f) := by
  intro u e
  obtain ⟨n, -, rfl⟩ := Option.map_eq_some_iff.mp e
  exact h n
theorem orElse {x y : Option State} (h : OrderlyOpt s x) (k : OrderlyOpt s y) : OrderlyOpt s (x <|> y) := by
  cases x with
  | none => exact k
  | some v => exact h

theorem ite {c : Prop} {_ : Decidable c} {x y : Option State} (h : OrderlyOpt s x) (k : OrderlyOpt s y) :
    OrderlyOpt s (if c then x else y) := by
  split
  · exact h
  · exact k

end OrderlyOpt

namespace OrderlyOptFst

theorem none : OrderlyOptFst s (none : Option (State × α)) := fun _ e => nomatch e
theorem some {p : State × α} (h : Orderly s p.1) : OrderlyOptFst s (some p) := fun _ e => Option.some.inj e ▸ h
theorem map {o : Option β} {f : β → State × α} (h : ∀ x, Orderly s (f x).1) : OrderlyOptFst s (o.map f) := by
  intro u e
  obtain ⟨x, -, rfl⟩ := Option.map_eq_some_iff.mp e
  exact h x
theorem orElse {x y : Option (State × α)} (h : OrderlyOptFst s x) (k : OrderlyOptFst s y) : OrderlyOptFst s (x <|> y) := by
  cases x with
  | none => exact k
  | some v => exact h

theorem ite {c : Prop} {_ : Decidable c} {x y : Option (State × α)} (h : OrderlyOptFst s x) (k : OrderlyOptFst s y) :
    OrderlyOptFst s (if c then x else y) := by
  split
  · exact h
  · exact k

end OrderlyOptFst

namespace GoesOn

theorem next (h : Orderly s t) : GoesOn s (.next t) := ⟨t, rfl, h⟩
theorem ite {c : Prop} {_ : Decidable c} {x y : Out} (h : GoesOn s x) (k : GoesOn s y) : GoesOn s (if c then x else y) := by
  split
  · exact h
  · exact k
theorem after {o : Out} (h : GoesOn s o) : Orderly s (after o t) := by
  obtain ⟨u, rfl, k⟩ := h
  exact k

end GoesOn



/-! Ops.lean. -/

/-- A register table that stays canonical. -/
theorem Orderly.withRegs {r : List (Nat × Word)} (h : Orderly s t) (k : swf regReset t.regs = true → swf regReset r = true) :
    Orderly s (t.withRegs r) := h.trans ⟨rfl, k, id⟩
theorem Orderly.setReg {a : Nat} {v : Word} (h : Orderly s t) : Orderly s (t.setReg a v) := h.withRegs (wf_setReg a v)
theorem Orderly.setRegN {a v : Nat} (h : Orderly s t) : Orderly s (t.setRegN a v) := h.setReg
theorem Orderly.setFld {a hi lo v : Nat} (h : Orderly s t) : Orderly s (t.setFld a hi lo v) := h.setRegN
theorem Orderly.setFlag {a n : Nat} {b : Bool} (h : Orderly s t) : Orderly s (t.setFlag a n b) := h.setFld
theorem Orderly.addFld {a hi lo n : Nat} (h : Orderly s t) : Orderly s (t.addFld a hi lo n) := h.setFld
theorem Orderly.count {a : Nat} (h : Orderly s t) : Orderly s (t.count a) := h.setRegN
theorem Orderly.countBy {a n : Nat} (h : Orderly s t) : Orderly s (t.countBy a n) := h.setRegN
theorem Orderly.took (h : Orderly s t) : Orderly s t.took := h.same rfl rfl rfl
theorem Orderly.answer {init status : Nat} {words : List Nat} (h : Orderly s t) : Orderly s (t.answer init status words) := h.same rfl rfl rfl
/-- A memory that stays canonical. -/
theorem Orderly.withMem {m : List Host.Cell} (h : Orderly s t) (k : Memory.wf t.mem → Memory.wf m) : Orderly s (t.withMem m) :=
  h.trans ⟨rfl, id, k⟩
theorem Orderly.setByte {a : Nat} {b : Byte} (h : Orderly s t) : Orderly s (t.setByte a b) := h.withMem (wf_setByte a b)
theorem Orderly.store {a : Nat} {l : List Byte} (h : Orderly s t) : Orderly s (t.store a l) := h.withMem (wf_store a l)

/-! Flags.lean. -/

theorem Orderly.raise {b n : Nat} (h : Orderly s t) : Orderly s (t.raise b n) := h.setFlag.addFld
theorem Orderly.raiseIf {c : Bool} {b n : Nat} (h : Orderly s t) : Orderly s (t.raiseIf c b n) := .ite h.raise h

/-! Mode.lean. -/

theorem Orderly.outStat (h : Orderly s t) : Orderly s (t.outStat) := h.setFlag.setFlag.setFlag.raiseIf.setFld
theorem Orderly.gateSettle (h : Orderly s t) : Orderly s (t.gateSettle) := .ite h.setFlag.setTim.raise.outStat h.outStat
theorem Orderly.latchClass {c : Nat} (h : Orderly s t) : Orderly s (t.latchClass c) :=
  h.setFlag.count.when (·.setRegN.setRegN.setOut)
theorem Orderly.react {c : Nat} (h : Orderly s t) : Orderly s (t.react c) := (h.raise.ite (.ite h h.raiseIf.setFlag)).gateSettle
theorem Orderly.detect {c : Nat} (h : Orderly s t) : Orderly s (t.detect c) := .ite h.setFlag.latchClass.react h
theorem Orderly.unstand {c : Nat} (h : Orderly s t) : Orderly s (t.unstand c) := h.setFlag.gateSettle
theorem Orderly.detectNow {c : Nat} (h : Orderly s t) : Orderly s (t.detectNow c) := h.detect.unstand
theorem Orderly.lppCut (h : Orderly s t) : Orderly s (t.lppCut) := .ite h.setLpp.raise h
theorem Orderly.permitSettle (h : Orderly s t) : Orderly s (t.permitSettle) := h.setFlag.gateSettle
theorem Orderly.wakeStart {cause : Nat} (h : Orderly s t) : Orderly s (t.wakeStart cause) :=
  .ite h ((h.setRegN.setRegN.raise.when (·.setFlag)).foldl fun _ _ k => .ite k.setFld k)
theorem Orderly.enterMode {m : Nat} (h : Orderly s t) : Orderly s (t.enterMode m) :=
  .ite h ((((h.wakeStart.ite h).setFld.setFld.when (·.setFlag)).raise.raiseIf.when (·.lppCut)).raise.setRegN.ite
    (((h.wakeStart.ite h).setFld.setFld.when (·.setFlag)).raise.raiseIf.when (·.lppCut))).permitSettle
theorem Orderly.moveMode {m : Nat} (h : Orderly s t) : Orderly s (t.moveMode m) :=
  .ite (.ite h (.ite h.setFld.setFlag h.setFld)) h.enterMode
theorem Orderly.followD (h : Orderly s t) : Orderly s (t.followD) := .ite h.moveMode h
theorem Orderly.hoEnter (h : Orderly s t) : Orderly s (t.hoEnter) := h.setRegN.setRegN.raise.took.took.took.setHo
theorem Orderly.hoSaturate (h : Orderly s t) : Orderly s (t.hoSaturate) := h.setRegN.setHo
theorem Orderly.setTl {c : Nat} (h : Orderly s t) : Orderly s (t.setTl c) :=
  .ite h (h.setFld.raise.setTim.hoEnter.ite (.ite h.setFld.raise.setTim.lppCut (h.setFld.raise.setTim.both (·.setHoLpp)
    (·.setHo.lppCut)))).followD


/-! Calendar.lean. -/

theorem Orderly.tamper {source detail : Nat} (h : Orderly s t) : Orderly s (t.tamper source detail) :=
  (h.setRegN.setRegN.when (·.addFld)).setFld.setCal.raise
theorem Orderly.storeZero (h : Orderly s t) : Orderly s (storeZero t) := h.foldl fun _ _ k => k.setRegN
theorem Orderly.calLost {cause : Nat} (h : Orderly s t) : Orderly s (t.calLost cause) :=
  h.storeZero.setFlag.setRegN.setRegN.setCal.setFlag.tamper
theorem Orderly.calPowerUp (h : Orderly s t) : Orderly s (t.calPowerUp) := .ite h.setFlag h.calLost
theorem Orderly.leapAdd {eff ofs : Nat} (h : Orderly s t) : Orderly s (t.leapAdd eff ofs) := h.setRegN.setRegN.setCal.raiseIf
theorem Orderly.calCompare {sec : Nat} (h : Orderly s t) : Orderly s (t.calCompare sec) := .ite h h.setCal.raiseIf
theorem Orderly.execCalSecond (h : Orderly s t) : GoesOn s (execCalSecond t) := .ite (.next h) (.next h.setCal.setFld)
theorem Orderly.execCalAutoTrim {trim : BitVec 16} (h : Orderly s t) : GoesOn s (execCalAutoTrim trim t) :=
  .ite (.next h.setRegN.setFlag.setFld.setCal) (.next h)
theorem Orderly.execVbatBrownout (h : Orderly s t) : GoesOn s (execVbatBrownout t) := .ite (.next h.setCal) (.next h)
theorem Orderly.execXtStop (h : Orderly s t) : GoesOn s (execXtStop t) := .next h.setFlag.raise.setCal
theorem Orderly.execXtRestart (h : Orderly s t) : GoesOn s (execXtRestart t) := .next h.setFlag
theorem Orderly.execVbatCheck {low : Bool} (h : Orderly s t) : GoesOn s (execVbatCheck low t) :=
  .ite (.next h) (.next h.setFlag.raiseIf)
theorem Orderly.execBackupDomainPowered (h : Orderly s t) : GoesOn s (execBackupDomainPowered t) := .next h.calLost
theorem Orderly.execCalSet {value : BitVec 32} (h : Orderly s t) : GoesOn s (execCalSet value t) :=
  .ite (.next h.setRegN.setCal.setFlag.tamper) (.next h.raise)
theorem Orderly.execCalSRead {init : Fin 512} (h : Orderly s t) : GoesOn s (execCalSRead init t) := .next h.setRegN.answer
theorem Orderly.execCalLeapAdd {value : BitVec 32} (h : Orderly s t) : GoesOn s (execCalLeapAdd value t) := .next h.leapAdd
theorem Orderly.execLeapApply {slot : Fin 16} (h : Orderly s t) : GoesOn s (execLeapApply slot t) :=
  .ite (.next h.setRegN) (.next h)

theorem Orderly.execLppCtlLWrite {value : BitVec 16} (h : Orderly s t) : GoesOn s (execLppCtlLWrite value t) :=
  .ite (.next h.raiseIf.setLpp) (.ite (.next h.raiseIf.setLpp) (.next h.raiseIf.setLpp))
theorem Orderly.execLppCtlHWrite {value : BitVec 16} (h : Orderly s t) : GoesOn s (execLppCtlHWrite value t) := .next h.setLpp
theorem Orderly.execLppKeepWrite {value : BitVec 16} (h : Orderly s t) : GoesOn s (execLppKeepWrite value t) :=
  .ite (.next h.raise) (.next h.setLpp)
theorem Orderly.execLppCommitApply (h : Orderly s t) : GoesOn s (execLppCommitApply t) := by
  unfold Machine.execLppCommitApply
  split
  · exact .next h.setLpp
  · exact .next h
theorem Orderly.execLppStart (h : Orderly s t) : GoesOn s (execLppStart t) := .ite (.next h.setLpp) (.next h)
theorem Orderly.execLppPpsPulse {active : Bool} (h : Orderly s t) : GoesOn s (execLppPpsPulse active t) :=
  .ite (.next h.setLpp) (.next h)
theorem Orderly.execLppFrameStrobe {active : Bool} (h : Orderly s t) : GoesOn s (execLppFrameStrobe active t) :=
  .ite (.next h) (.ite (.next h.setLpp) (.ite (.next h.setLpp) (.ite (.next h.setLpp) (.next h))))
theorem Orderly.execLppHoldoverStop (h : Orderly s t) : GoesOn s (execLppHoldoverStop t) := .ite (.next h.raiseIf.setLpp) (.next h)


/-! Holdover.lean. -/

theorem Orderly.rangeTake (h : Orderly s t) : Orderly s (rangeTake t) := .ite ((h.setRegN.ite h).when (·.setRegN)).setHo h
theorem Orderly.trainedCheck (h : Orderly s t) : Orderly s (trainedCheck t) := .ite h.setFlag.raise h
theorem Orderly.execHoLearnSecond (h : Orderly s t) : GoesOn s (execHoLearnSecond t) :=
  .ite (.next (h.setHo.addFld.ite h.setHo).rangeTake.trainedCheck) (.next h)
theorem Orderly.freeReg {a : Nat} (h : Orderly s t) : Orderly s (freeReg t a) := h.setRegN.took
theorem Orderly.refitOne {k : Nat} (h : Orderly s t) : Orderly s (refitOne t k) :=
  .ite (((h.foldl fun _ _ k => k.freeReg).foldl fun _ _ k => k.freeReg).ite (h.foldl fun _ _ k => k.freeReg)).setReg.freeReg h
theorem Orderly.execHoRefit (h : Orderly s t) : GoesOn s (execHoRefit t) := .ite (.next h.refitOne.refitOne.freeReg) (.next h)
theorem Orderly.refitTau {k : Nat} (h : Orderly s t) : Orderly s (refitTau t k) := .ite h.setRegN.took h
theorem Orderly.snapWrite (h : Orderly s t) : Orderly s (snapWrite t) :=
  ((h.setHo.took.foldl fun _ _ k => k.setRegN).setRegN.setRegN.setRegN.setRegN.setRegN.foldl fun _ _ k =>
    k.setRegN.setRegN).setRegN.setFlag.raise
theorem Orderly.execHoSnapshot (h : Orderly s t) : GoesOn s (execHoSnapshot t) :=
  .ite (.next h.refitTau.refitTau.snapWrite) (.next h)
theorem Orderly.execSnap (h : Orderly s t) : GoesOn s (execSnap t) := .ite (.next h.snapWrite) (.next h)
theorem Orderly.modelClear {k : Nat} (h : Orderly s t) : Orderly s (modelClear t k) := h.foldl fun _ _ k => k.setRegN
theorem Orderly.execForget (h : Orderly s t) : GoesOn s (execForget t) :=
  .ite (.next h) (.next h.modelClear.modelClear.setFlag.setFld.setFld.setHo)
theorem Orderly.execTsensRead {reading : Option (BitVec 16)} (h : Orderly s t) : GoesOn s (execTsensRead reading t) := by
  unfold Machine.execTsensRead
  refine .ite (.next h) ?_
  split
  · exact .next h.setRegN.setHo
  · exact .ite (.next h.setFlag.raise.setHo) (.next h.setHo)
theorem Orderly.setUnc {u : Nat} (h : Orderly s t) : Orderly s (setUnc t u) := h.setHo.setRegN
theorem Orderly.uncGrow (h : Orderly s t) : Orderly s (uncGrow t) := .ite h.setHo.setUnc h
theorem Orderly.freqMove {b : ℤ} (h : Orderly s t) : Orderly s (freqMove t b) := h.setRegN.took
theorem Orderly.ensemble {apart worse : Bool} (h : Orderly s t) : Orderly s (ensemble t apart worse) :=
  .ite (.ite h.setUnc.took.setHo.raise (.ite h.setHo h)) h.setHo
theorem Orderly.execHoSteerSecond {apart worse : Bool} (h : Orderly s t) : GoesOn s (execHoSteerSecond apart worse t) :=
  .ite (.next h.uncGrow.setRegN.ensemble.freqMove) (.ite (.next h.uncGrow) (.next h))
theorem Orderly.execHoldoverExpiry (h : Orderly s t) : GoesOn s (execHoldoverExpiry t) := .ite (.next h.raise.setTl) (.next h)
theorem Orderly.restoreOne {k : Nat} (h : Orderly s t) : Orderly s (restoreOne t k) :=
  .ite (h.foldl fun _ _ k => k.setRegN).setFlag.setFld.setHo h.modelClear.raise
theorem Orderly.hoRestore (h : Orderly s t) : Orderly s (t.hoRestore) := .ite h.setFlag.restoreOne.restoreOne h.setFlag


/-! RelayBase.lean. -/

theorem Orderly.setSync {v : Nat} (h : Orderly s t) : Orderly s (t.setSync v) := .ite h h.setFld.raise
theorem Orderly.setRole {r : Nat} (h : Orderly s t) : Orderly s (t.setRole r) := .ite h h.setFld.raise
theorem Orderly.relSend {l : List (Nat × List Byte)} (h : Orderly s t) : Orderly s (relSend t l) := h.setLane
theorem Orderly.relMsg {kind : Nat} {data : List Byte} (h : Orderly s t) : Orderly s (relMsg t kind data) := h.relSend
theorem Orderly.jStall (h : Orderly s t) : Orderly s (jStall t) := .ite h h.setRly.count.raise
theorem Orderly.jWait {n : Nat} (h : Orderly s t) : Orderly s (jWait t n) := .ite h h.jStall
theorem Orderly.jEntry {kind : Nat} {data : List Byte} (h : Orderly s t) : Orderly s (jEntry t kind data) :=
  .ite h.setRegN.setRly.relSend h
theorem Orderly.jCfg {off v : Nat} (h : Orderly s t) : Orderly s (jCfg t off v) := h.jEntry
theorem Orderly.jTile {tile b ctr : Nat} {tag : BitVec 64} {ct : List Byte} (h : Orderly s t) : Orderly s
    (jTile t tile b ctr tag ct) :=
  .ite h.jEntry h
theorem Orderly.jMem {plain : Nat → Bool} {a : Nat} {b : List Byte} (h : Orderly s t) : Orderly s (jMem t plain a b) :=
  .ite (h.foldl fun _ _ k => .ite k.jEntry k) h

/-! Memory.lean. -/

theorem Orderly.logPush {l : Log} {w sh stat blk evt : Nat} (h : Orderly s t) : Orderly s (logPush t l w sh stat blk evt).1 :=
  .iteFst h.setFlag.setFld h.addFld.raise
theorem Orderly.logPop {l : Log} {stat : Nat} (h : Orderly s t) : Orderly s (logPop t l stat).1 := h.setFlag.setFld

theorem Orderly.setSpErr {w : Nat} {e : BitVec 72} (h : Orderly s t) : Orderly s (setSpErr t w e) := h.setNoc
theorem Orderly.spWord {a n w : Nat} (h : Orderly s t) : Orderly s (spWord t a n w) := by
  unfold Machine.spWord; dsimp only
  split <;> exact h.setSpErr
theorem Orderly.spFlipDone {a : Nat} (h : Orderly s t) : Orderly s (spFlipDone t a) := by
  unfold Machine.spFlipDone
  split
  · exact .ite h.setNoc.setFlag.setFlag.raise h
  · exact h
theorem Orderly.spWrite {a : Nat} {l : List Byte} (h : Orderly s t) : Orderly s (spWrite t a l) :=
  .ite h (h.store.foldl fun _ _ k => k.spWord).spFlipDone
theorem Orderly.spReadWord {w : Nat} (h : Orderly s t) : Orderly s (spReadWord t w).1 := by
  unfold Machine.spReadWord; dsimp only
  exact .iteFst h.setSpErr.count.raise.pair (.iteFst h.count.raise.pair h)
theorem Orderly.spReadWords {l : List Nat} (h : Orderly s t) : Orderly s (spReadWords t l).1 := by
  refine h.foldlFst fun q w k => ?_
  have k : Orderly s (Machine.spReadWord q.1 w).1 := k.spReadWord
  revert k
  cases Machine.spReadWord q.1 w
  exact id
theorem Orderly.setChan {x1 : Nat} {c : Channel} (h : Orderly s t) : Orderly s (setChan t x1 c) := h.setExt
theorem Orderly.setLineErr {l : Nat} {e : LineErr} (h : Orderly s t) : Orderly s (setLineErr t l e) := h.setExt
theorem Orderly.memLog {x1 c kind sym cw : Nat} (h : Orderly s t) : Orderly s (memLog t x1 c kind sym cw) := h.logPush.setChan
theorem Orderly.lineFresh {l : Nat} (h : Orderly s t) : Orderly s (lineFresh t l) := by
  unfold Machine.lineFresh; dsimp only
  split
  · exact h.setLineErr.setChan.setFlag.setFlag.raise
  · exact h.setLineErr
theorem Orderly.lineBack {l : Nat} (h : Orderly s t) : Orderly s (lineBack t l) := h.store.lineFresh
theorem Orderly.lineRead {l ce ue : Nat} (h : Orderly s t) : Orderly s (lineRead t l ce ue).1 := by
  unfold Machine.lineRead; dsimp only
  refine .iteFst ?_ ?_
  · refine .lineBack ?_
    refine h.foldl fun _ _ k => ?_
    split
    · exact k.count.memLog.raise
    · exact k.count.memLog.raise
    · exact k
  · refine h.foldl fun _ _ k => ?_
    split
    · exact k.count.memLog.raise
    · exact k.count.memLog.raise
    · exact k
theorem Orderly.lineWrite {l : Nat} {b : List Byte} (h : Orderly s t) : Orderly s (lineWrite t l b) := h.setChan.store.lineFresh
theorem Orderly.mergeFlush {x1 : Nat} {m : Merge} (h : Orderly s t) : Orderly s (mergeFlush t x1 m) :=
  h.count.setChan.both (·.lineFresh.setLineErr.count.memLog.raise) (·.lineRead.lineWrite)
theorem Orderly.mergeOldest {x1 : Nat} (h : Orderly s t) : Orderly s (mergeOldest t x1) := by
  unfold Machine.mergeOldest
  split
  · exact h.mergeFlush
  · exact h
theorem Orderly.mergeWrite {l o : Nat} {b : List Byte} (h : Orderly s t) : Orderly s (mergeWrite t l o b) :=
  .ite h.setChan (h.mergeOldest.ite h).setChan
theorem Orderly.sdWrite {a : Nat} {b : List Byte} (h : Orderly s t) : Orderly s (sdWrite t a b) :=
  h.foldl fun _ _ k => .ite k.lineWrite k.mergeWrite
theorem Orderly.sdRead {a n : Nat} (h : Orderly s t) : Orderly s (sdRead t a n).1 := h.foldlFst fun _ _ k => k.lineRead
theorem Orderly.physWrite {a : Nat} {b : List Byte} (h : Orderly s t) : Orderly s (physWrite t a b) := .ite h.sdWrite h.store
theorem Orderly.physRead {a n : Nat} (h : Orderly s t) : Orderly s (physRead t a n).1 := .iteFst h.sdRead h

theorem Orderly.setCtrs {r l j : Nat} {c : List Nat} (h : Orderly s t) : Orderly s (setCtrs t r l j c) := .ite h.setImp h.setImp
theorem Orderly.nodeBack {n : Node} (h : Orderly s t) : Orderly s (nodeBack t n) := h.setCtrs.physWrite.when (·.physWrite)
theorem Orderly.evictOne (h : Orderly s t) : Orderly s (evictOne t) := by
  unfold Machine.evictOne; dsimp only
  split
  · exact h
  · exact (h.nodeBack.ite h).setImp
theorem Orderly.cacheIn {n : Node} (h : Orderly s t) : Orderly s (cacheIn t n) := (h.evictOne.ite h).setImp
theorem Orderly.cachePath {r tile : Nat} (h : Orderly s t) : Orderly s (cachePath t r tile) := by
  unfold Machine.cachePath
  refine h.foldl fun _ _ k => ?_
  split
  · exact k
  · exact k.cacheIn
theorem Orderly.tagStore {r tile : Nat} {x3 : BitVec 64} (h : Orderly s t) : Orderly s (tagStore t r tile x3) :=
  .ite h.physWrite.setImp.setFlag.setFlag.raise h.physWrite
theorem Orderly.tileWriteAt {r tile c : Nat} {plain : List Byte} (h : Orderly s t) : Orderly s (tileWriteAt t r tile c plain) :=
  h.cachePath.physWrite.tagStore.setCtrs.jTile
theorem Orderly.encWrite {slot tile : Nat} {plain : List Byte} (h : Orderly s t) : Orderly s (encWrite t slot tile plain) :=
  .ite h.physWrite.jTile h.physWrite
theorem Orderly.tileBack {r tile : Nat} {plain : List Byte} (h : Orderly s t) : Orderly s (tileBack t r tile plain) :=
  .ite h.raise h.tileWriteAt
theorem Orderly.tilePut {k : ImpKind} {tile o : Nat} {b : List Byte} (h : Orderly s t) : Orderly s (tilePut t k tile o b) := by
  unfold Machine.tilePut; dsimp only
  split
  · exact h.setImp
  · split
    · exact h.tileBack
    · exact h.encWrite
    · exact h
theorem Orderly.rawWrite {kix a : Nat} {b : List Byte} (h : Orderly s t) : Orderly s (t.rawWrite kix a b) := by
  unfold Machine.State.rawWrite; dsimp only
  refine .ite h.spWrite ?_
  refine .ite ?_ h.store
  refine h.foldl fun _ _ k => ?_
  split
  · exact k.physWrite
  · exact k
  · exact k
  · exact k.tilePut
theorem Orderly.viewWrite {kix a : Nat} {b : List Byte} (h : Orderly s t) : Orderly s (t.viewWrite kix a b) :=
  .ite (h.foldl fun _ _ k => k.rawWrite).count h.rawWrite.jMem
theorem Orderly.setBytes {a : Nat} {b : List Byte} (h : Orderly s t) : Orderly s (t.setBytes a b) := h.viewWrite
theorem Orderly.setMemN {a n v : Nat} (h : Orderly s t) : Orderly s (t.setMemN a n v) := h.setBytes

/-! Cores.lean. -/

theorem Orderly.setCore {c : Nat} {k : CoreState} (h : Orderly s t) : Orderly s (t.setCore c k) := h.setCan

theorem Orderly.bistTurn {c : Nat} (h : Orderly s t) : Orderly s (bistTurn t c) := .ite h.setBytes.setOut.setCore h
theorem Orderly.bistRound {u : Nat} (h : Orderly s t) : Orderly s (bistRound t u) := .ite h.count.raise h
theorem Orderly.bistStop (h : Orderly s t) : Orderly s (bistStop t) := by
  unfold Machine.bistStop; dsimp only
  split
  · exact h
  · exact (h.setOut.setCore.ite h.setOut).bistRound
theorem Orderly.setTout {n : Nat} {o : TimedOut} (h : Orderly s t) : Orderly s (t.setTout n o) := h.setTim
theorem Orderly.pushEntry {n s32 t31 : Nat} {level : Bool} (h : Orderly s t) : Orderly s (t.pushEntry n s32 t31 level) :=
  .ite h.raise (.ite h.raise h.setTout)


/-! Pacer.lean. -/

theorem Orderly.setTok {i v : Nat} (h : Orderly s t) : Orderly s (t.setTok i v) := h.setRegN
theorem Orderly.setOuts {o : Op} {v : Nat} (h : Orderly s t) : Orderly s (setOuts t o v) := h.foldl fun _ _ k => k.setTok
theorem Orderly.setOp {o : Op} (h : Orderly s t) : Orderly s (setOp t o) := h.setPac
theorem Orderly.writeW {slot st code seq pt : Nat} (h : Orderly s t) : Orderly s (writeW t slot st code seq pt) := h.setMemN.setMemN
theorem Orderly.fillRegs {l g : Nat} (h : Orderly s t) : Orderly s (fillRegs t l g) := (h.setFld.setFld.ite h.setFld).setRegN
theorem Orderly.lossStat (h : Orderly s t) : Orderly s (lossStat t) := h.setFlag.setFld
theorem Orderly.pushLoss {o : Op} {cause final : Nat} (h : Orderly s t) : Orderly s (pushLoss t o cause final) :=
  h.count.raise.both (·.setPac.lossStat) (·.addFld.raise)
theorem Orderly.recStat (h : Orderly s t) : Orderly s (recStat t) := h.setFld.setFld
theorem Orderly.closeRecs (h : Orderly s t) : Orderly s (closeRecs t) := (h.foldl fun _ _ k => k.setFlag).setPac.recStat
theorem Orderly.recFinal {i : Nat} {lost : Bool} (h : Orderly s t) : Orderly s (recFinal t i lost) :=
  ((h.foldl fun _ _ k => k.addFld).ite h).setPac.closeRecs
theorem Orderly.abandonOp {o : Op} (h : Orderly s t) : Orderly s (abandonOp t o) := by
  unfold Machine.abandonOp; dsimp only
  split
  · exact .ite h.setCore (.ite h.setCore h.setCore)
  · exact h.setPac
  · exact h
theorem Orderly.leaveRunning {o : Op} (h : Orderly s t) : Orderly s (leaveRunning t o) := by
  unfold Machine.leaveRunning
  split
  · exact .ite h.setPac h
  · exact h
theorem Orderly.endOne {o : Op} {final cause : Nat} (h : Orderly s t) : Orderly s (endOne t o final cause) :=
  (h.leaveRunning.ite h.abandonOp).setPac.writeW.setOuts.fillRegs.pushLoss.recFinal
theorem Orderly.endConsumers : ∀ {n : Nat} {t : State} {toks : List Nat}, Orderly s t → Orderly s (endConsumers n t toks)
  | 0, _, _, h => h
  | n + 1, t, toks, h => by
    unfold Machine.endConsumers; dsimp only
    split
    · exact h
    · exact (h.foldl fun _ _ k => k.endOne).endConsumers
theorem Orderly.endOps {l : List Op} {final cause : Nat} (h : Orderly s t) : Orderly s (endOps t l final cause) :=
  (h.foldl fun _ _ k => k.endOne).endConsumers
theorem Orderly.wholesale {p : Op → Bool} (h : Orderly s t) : Orderly s (wholesale t p) := h.count.raise.endOps
theorem Orderly.taintOne {o : Op} (h : Orderly s t) : Orderly s (taintOne t o).1 := by
  unfold Machine.taintOne; dsimp only
  split
  · exact h
  · exact .iteFst (h.foldl fun _ _ k => .ite k k.setTok).abandonOp.count.setOp (h.foldl fun _ _ k => .ite k k.setTok).raiseIf.endOps
theorem Orderly.recheck (h : Orderly s t) : Orderly s (recheck t) := h.setPac
theorem Orderly.makeRoom (h : Orderly s t) : Orderly s (makeRoom t) := by
  unfold Machine.makeRoom; dsimp only
  split
  · exact h
  · exact .ite h h.wholesale.setFlag.setPac.closeRecs
theorem Orderly.reinBack {trig detail : Nat} {seed : Op → Bool} (h : Orderly s t) : Orderly s (reinBack t trig detail seed) :=
  .ite h.count.raise (h.count.raise.makeRoom.countBy.setRegN.setRegN.setRegN.setRegN.setPac.raiseIf.foldl fun _ _ k => .ite
    k.taintOne.addFld k.taintOne).closeRecs.recheck
theorem Orderly.correction {old : Nat} {d : ℤ} (h : Orderly s t) : Orderly s (t.correction old d) :=
  .ite h.raise.setRegN.reinBack.wholesale (h.raise.setRegN.reinBack.when (·.endOps))
theorem Orderly.refuse {bell offset code : Nat} {canWrite : Bool} (h : Orderly s t) : Orderly s
    (refuse t bell offset code canWrite) :=
  (h.writeW.ite h).setRegN.count.raise.raiseIf.raiseIf.raiseIf
theorem Orderly.acceptAs {slot pt : Nat} (h : Orderly s t) : Orderly s (acceptAs t slot pt) :=
  (h.setFld.ite h).setOuts.setPac.fillRegs.raiseIf.writeW.recheck
theorem Orderly.acceptOp {slot : Nat} (h : Orderly s t) : Orderly s (acceptOp t slot) := h.acceptAs
theorem Orderly.setDeficit {c g : Nat} {v : ℤ} (h : Orderly s t) : Orderly s (setDeficit t c g v) := h.setPac
theorem Orderly.serveLoop {n c w : Nat} (h : Orderly s t) : Orderly s (serveLoop n t c w).1 := by
  obtain ⟨x, y, e⟩ := (serveLoop_spec c w n t).1
  exact e ▸ h.same rfl rfl rfl
theorem Orderly.serve {c w : Nat} (h : Orderly s t) : Orderly s (serve t c w).1 := .iteFst h.serveLoop h
theorem Orderly.grantOp {o : Op} {w : Nat} (h : Orderly s t) : Orderly s (grantOp t o w) := h.count.count.setPac.setOp
theorem Orderly.feedDma : ∀ {n : Nat} {t : State}, Orderly s t → Orderly s (feedDma n t)
  | 0, _, h => h
  | n + 1, t, h => by
    refine Orderly.feedDma (n := n) (.ite ?_ h)
    split
    next u _ e => exact (h.serve.of_fst e).grantOp
    next u e => exact h.serve.of_fst e
theorem Orderly.feedHard (h : Orderly s t) : Orderly s (feedHard t) := by
  unfold Machine.feedHard; dsimp only
  refine .ite ?_ h.feedDma
  split
  next u _ e => exact (h.feedDma.serve.of_fst e).grantOp
  next u e => exact h.feedDma.serve.of_fst e
theorem Orderly.report {o : Op} {status : Nat} (h : Orderly s t) : Orderly s (report t o status) :=
  .ite h.setOuts.setOp h.raise.endOps
theorem Orderly.lateDone (h : Orderly s t) : Orderly s (lateDone t) := h.count.raise
theorem Orderly.pushTimed {n : Nat} {l : List (BitVec 64)} (h : Orderly s t) : Orderly s (pushTimed t n l) :=
  h.foldl fun _ _ k => k.pushEntry
theorem Orderly.timedDrop (h : Orderly s t) : Orderly s (timedDrop t) := h.count.raise
theorem Orderly.releaseCore {o : Op} (h : Orderly s t) : Orderly s (releaseCore t o) :=
  ((h.count.count.raise.ite h.count).raiseIf.raiseIf.when (·.setFld)).setOuts.setPac.fillRegs.writeW.recFinal

/-! PacerCmds.lean. -/

theorem Orderly.execPacAdmit {bell : Fin 16} {value : BitVec 32} (h : Orderly s t) : GoesOn s (execPacAdmit bell value t) :=
  .ite (.next h.raise) (.ite (.next h.refuse) (.next h.setPac))
theorem Orderly.execAdmissionDequeue (h : Orderly s t) : GoesOn s (execAdmissionDequeue t) := by
  unfold Machine.execAdmissionDequeue
  split
  · exact .next h
  · exact .next h.setPac
theorem Orderly.startOne {o : Op} (h : Orderly s t) : Orderly s (startOne t o) := (h.count.raise.ite h).setOp
theorem Orderly.startList {l : Nat} (h : Orderly s t) : Orderly s (startList t l) :=
  (h.foldl fun _ _ k => k.startOne).foldl fun _ _ k => k.setOp
theorem Orderly.execOpStart (h : Orderly s t) : GoesOn s (execOpStart t) := .next (h.foldl fun _ _ k => k.startList).feedHard
theorem Orderly.execOpReady {slot : Fin 1048576} (h : Orderly s t) : GoesOn s (execOpReady slot t) := by
  unfold Machine.execOpReady
  split
  · exact .ite (.next h.setOp.feedHard) (.next h)
  · exact .next h
theorem Orderly.execCanterGrant {core : Fin 256} (h : Orderly s t) : GoesOn s (execCanterGrant core t) := by
  unfold Machine.execCanterGrant; dsimp only
  refine .ite ?_ (.next h)
  split
  next u _ e => exact .next (h.serve.of_fst e).grantOp.setCore
  next u e => exact .next (h.serve.of_fst e)
theorem Orderly.execPreempt {slot : Fin 1048576} (h : Orderly s t) : GoesOn s (execPreempt slot t) := by
  unfold Machine.execPreempt; dsimp only
  split
  · exact .next h
  · split
    · exact .next h
    · exact .next h.raise.grantOp.setCore
theorem Orderly.execHpGrant {port : Fin 512} (h : Orderly s t) : GoesOn s (execHpGrant port t) := by
  unfold Machine.execHpGrant; dsimp only
  refine .ite ?_ (.next h)
  split
  next u _ e => exact .next (h.serve.of_fst e).grantOp.setPac.answer
  next u e => exact .next (h.serve.of_fst e)
theorem Orderly.reportOr {o : Option Op} {status : Nat} (h : Orderly s t) : Orderly s (reportOr t o status) := by
  unfold Machine.reportOr
  split
  · exact .ite h.report h
  · exact h.lateDone
theorem Orderly.execHpDone {port : Fin 512} {tag : Fin 4} {status : BitVec 8} (h : Orderly s t) : GoesOn s
    (execHpDone port tag status t) :=
  by
  unfold Machine.execHpDone; dsimp only
  refine .ite (.next h) ?_
  split
  · exact .next h.raise
  · exact .ite (.next h.setPac) (.next h.setPac.reportOr)
theorem Orderly.freeBusy {k : Nat} (h : Orderly s t) : Orderly s (freeBusy t k) := .ite h.setPac.lateDone h
theorem Orderly.dmaCopy {o : Op} {n : Nat} (h : Orderly s t) : Orderly s (dmaCopy t o n) := by
  unfold Machine.dmaCopy
  split
  · exact h.setBytes
  · exact h
theorem Orderly.execDmaComplete {chan : Fin 32} {noc : Fin 8} (h : Orderly s t) : GoesOn s (execDmaComplete chan noc t) := by
  unfold Machine.execDmaComplete; dsimp only
  split
  · exact .next h.freeBusy.feedHard
  · exact .ite (.next h.dmaCopy.report.feedHard) (.next h.took.dmaCopy.report.feedHard)
theorem Orderly.execStagerFetchDone {noc : Fin 8} (h : Orderly s t) : GoesOn s (execStagerFetchDone noc t) := by
  unfold Machine.execStagerFetchDone
  split
  · exact .next h.freeBusy.feedHard
  · exact .ite (.next h.report.feedHard) (.next h.report.feedHard)
theorem Orderly.execOpReport {slot : Fin 1048576} {status : BitVec 8} (h : Orderly s t) : GoesOn s (execOpReport slot status t) :=
  .next h.reportOr.feedHard
theorem Orderly.execAlarmWindowEnd {slot : Fin 1048576} (h : Orderly s t) : GoesOn s (execAlarmWindowEnd slot t) := by
  unfold Machine.execAlarmWindowEnd
  split
  · exact .ite (.next h.setOp) (.next h)
  · exact .next h
theorem Orderly.execOpDeadline {slot : Fin 1048576} (h : Orderly s t) : GoesOn s (execOpDeadline slot t) := by
  unfold Machine.execOpDeadline
  split
  · exact .ite (.next h.endOps) (.next h)
  · exact .next h
theorem Orderly.execTimedReleaseFetchDone {noc : Fin 8} (h : Orderly s t) : GoesOn s (execTimedReleaseFetchDone noc t) := by
  unfold Machine.execTimedReleaseFetchDone; dsimp only
  split
  · exact .next h
  · exact .ite (.next h.setPac.pushTimed) (.next h.setPac.timedDrop)
theorem Orderly.graphCfg {graph v : Nat} (h : Orderly s t) : Orderly s (graphCfg t graph v) :=
  .ite (.ite h h.setFlag.wholesale.raise) h.setRegN
theorem Orderly.flowCfg {flow v : Nat} (h : Orderly s t) : Orderly s (flowCfg t flow v) := .ite h (.ite h.setRegN.setRegN h.setRegN)
theorem Orderly.pacCtl {v : Nat} (h : Orderly s t) : Orderly s (pacCtl t v) :=
  .ite h.setRegN.wholesale (.ite h.setRegN.setPac h.setRegN)
theorem Orderly.tokClr {v : Nat} (h : Orderly s t) : Orderly s (tokClr t v) := .ite h.setTok h
theorem Orderly.pacCfg {off v : Nat} (h : Orderly s t) : OrderlyOpt s (pacCfg t off v) :=
  .ite (.some h.pacCtl) (.ite (.some h.setRegN) (.ite (.some h.setRegN) (.ite (.some h.setRegN) (.ite (.some h.setRegN) (.ite
    (.some h.flowCfg) (.ite (.some h.graphCfg) (.ite (.some h.setRegN) (.ite (.some h.setRegN) (.ite (.some h.tokClr) .none)))))))))
theorem Orderly.pacWrite {off v : Nat} (h : Orderly s t) : Orderly s (pacWrite t off v) := by
  unfold Machine.pacWrite
  refine .ite h.raise ?_
  split
  next u e => exact (h.pacCfg e).jCfg
  · exact h
theorem Orderly.execPacGraphCfgWrite {graph : Fin 256} {value : BitVec 32} (h : Orderly s t) : GoesOn s
    (execPacGraphCfgWrite graph value t) :=
  .next h.pacWrite
theorem Orderly.execPacFlowCfgWrite {flow : Fin 1024} {value : BitVec 32} (h : Orderly s t) : GoesOn s
    (execPacFlowCfgWrite flow value t) :=
  .next h.pacWrite
theorem Orderly.execPacCtlWrite {value : BitVec 32} (h : Orderly s t) : GoesOn s (execPacCtlWrite value t) := .next h.pacWrite
theorem Orderly.poison {i : Nat} (h : Orderly s t) : Orderly s (poison t i) := h.setTok.raise
theorem Orderly.alarmToken {i cls worker alarm : Nat} (h : Orderly s t) : Orderly s (alarmToken t i cls worker alarm) :=
  (h.poison.ite h).reinBack
theorem Orderly.postRelease {r : LastRel} {alarm : Nat} (h : Orderly s t) : Orderly s (postRelease t r alarm) :=
  h.setRegN.setRegN.count.raise.when (·.raise.detectNow)
theorem Orderly.alarmNone {cls worker alarm : Nat} (h : Orderly s t) : Orderly s (alarmNone t cls worker alarm) := by
  unfold Machine.alarmNone; dsimp only
  split
  · exact h.reinBack.postRelease
  · exact h.reinBack.count.raise
theorem Orderly.alarm {cls worker addr alarm : Nat} (h : Orderly s t) : Orderly s (t.alarm cls worker addr alarm) := by
  unfold Machine.State.alarm; dsimp only
  refine .ite h.alarmNone ?_
  split
  · exact h.alarmToken
  · exact h.reinBack
theorem Orderly.execRbAlarm {cls : Fin 4} {worker : Fin 512} {addr : BitVec 48} {alarm : Fin 16} (h : Orderly s t) : GoesOn s
    (execRbAlarm cls worker addr alarm t) :=
  .next h.alarm
theorem Orderly.execRbTokClr {value : BitVec 32} (h : Orderly s t) : GoesOn s (execRbTokClr value t) := .next h.pacWrite
theorem Orderly.execRbTest {value : BitVec 32} (h : Orderly s t) : GoesOn s (execRbTest value t) := by
  unfold Machine.execRbTest; dsimp only
  refine .ite (.next h.raise) ?_
  refine .ite ?_ (.next h.setRegN)
  split
  · exact .next h.setRegN.alarmToken
  · exact .next h.setRegN.reinBack.count.raise
theorem Orderly.execRbLossHiRead {init : Fin 512} (h : Orderly s t) : GoesOn s (execRbLossHiRead init t) := by
  unfold Machine.execRbLossHiRead; dsimp only
  split
  · exact .next h.answer
  · exact .ite (.next h.answer) (.next h.answer.setPac.lossStat)


/-! Timeline.lean. -/

theorem Orderly.oscTake {k : Nat} {fromVco : Bool} (h : Orderly s t) : Orderly s (oscTake t k fromVco) :=
  (h.setFlag.setFlag.raise.when (·.setUnc)).took.setTim
theorem Orderly.execOscLost {b : Bool} (h : Orderly s t) : GoesOn s (execOscLost b t) :=
  .ite (.next h.setFlag.oscTake) (.next h.setFlag)
theorem Orderly.execBothOscLost (h : Orderly s t) : GoesOn s (execBothOscLost t) :=
  .ite (.ite (.next h.setFld.setFlag.raise) (.next h.setFld.setFlag.raise.setTl.hoSaturate)) (.next h.setFld)
theorem Orderly.execOscGoodAgain {a b : Bool} (h : Orderly s t) : GoesOn s (execOscGoodAgain a b t) :=
  .ite (.next ((h.setFlag.ite h).when (·.setFlag)).oscTake) (.next ((h.setFlag.ite h).when (·.setFlag)))
theorem Orderly.execOscRevert (h : Orderly s t) : GoesOn s (execOscRevert t) := .ite (.next h.oscTake) (.next h)
theorem Orderly.refSettle (h : Orderly s t) : Orderly s (refSettle t) := by
  unfold Machine.refSettle; dsimp only
  split
  · exact ((h.ite h.setTim).foldl fun _ _ k => k.setFlag).setFlag.setFld
  · exact ((h.ite h.setTim).foldl fun _ _ k => k.setFlag).setFlag
theorem Orderly.tlLose (h : Orderly s t) : Orderly s (tlLose t) := .ite h.setTl (.ite h.setTl h)
theorem Orderly.tlGain (h : Orderly s t) : Orderly s (tlGain t) := .ite h.setTl h
theorem Orderly.refQualify {r : Nat} (h : Orderly s t) : Orderly s (refQualify t r) :=
  (h.setFlag.raise.when (·.setTim)).refSettle.tlGain
theorem Orderly.refLose {r : Nat} {dis : Bool} (h : Orderly s t) : Orderly s (refLose t r dis) :=
  .ite ((h.setFlag.raise.ite h).setFlag.raise.when (·.setTim)).refSettle.tlLose h
theorem Orderly.acquireSample {r : Nat} {e : ℤ} {sure : Bool} (h : Orderly s t) : Orderly s (acquireSample t r e sure) :=
  .ite h.setTim (.ite h.setTim.setTl h.setTim)
theorem Orderly.refSample {r : Nat} {e : ℤ} {sure : Bool} (h : Orderly s t) : Orderly s (refSample t r e sure) :=
  .ite (.ite h.setRegN.tlGain.setRegN.setTim.freqMove.acquireSample (h.setRegN.tlGain.setRegN.setTim.when
    (·.freqMove))) h.setRegN.tlGain
theorem Orderly.setGnss {r : Nat} {g : Gnss} (h : Orderly s t) : Orderly s (setGnss t r g) := h.setTim
theorem Orderly.gnssBad {r : Nat} {rejected : Bool} (h : Orderly s t) : Orderly s (gnssBad t r rejected) :=
  .ite h.setGnss.refLose h.setGnss
theorem Orderly.gnssAccept {r v : Nat} (h : Orderly s t) : Orderly s (gnssAccept t r v) :=
  ((h.setGnss.calCompare.ite h.setGnss).when (·.refQualify)).refSample
theorem Orderly.setTsInput {n : Nat} {i : TsInput} (h : Orderly s t) : Orderly s (setTsInput t n i) := h.setTim
theorem Orderly.tsiStat {n : Nat} (h : Orderly s t) : Orderly s (tsiStat t n) := .ite h.setFlag.setFld h
theorem Orderly.tsiCapture {n : Nat} {rising : Bool} {v : Nat} (h : Orderly s t) : Orderly s (tsiCapture t n rising v) :=
  .ite h (.ite (.ite h.addFld h) (.ite (h.setTsInput.both (·.addFld.raise) (·.raise)) h.setTsInput.tsiStat))
theorem Orderly.execGnssPpsEdge {r : Fin 2} {rising : Bool} {ofs : BitVec 18} (h : Orderly s t) : GoesOn s
    (execGnssPpsEdge r rising ofs t) :=
  .ite (.next h) (.ite (.next h.tsiCapture) (.ite (.next h.tsiCapture.addFld.raise.gnssBad) (.next h.tsiCapture.gnssAccept)))
theorem Orderly.execGnssPulseMissing {r : Fin 2} (h : Orderly s t) : GoesOn s (execGnssPulseMissing r t) :=
  .ite (.next h.gnssBad) (.next h)
theorem Orderly.todTake {sec : Nat} (h : Orderly s t) : Orderly s (todTake t sec) := h.setRegN.setRegN.calCompare
theorem Orderly.todBinary {m : List Byte} (h : Orderly s t) : Orderly s (todBinary t m) :=
  .ite h (.ite h.raise (((h.ite h.setRegN).when (·.leapAdd)).todTake.foldl fun _ _ k => k.setGnss))
theorem Orderly.todZda {utc : Nat} (h : Orderly s t) : Orderly s (todZda t utc) := by
  unfold Machine.todZda; dsimp only
  refine .ite h.raise ?_
  refine h.todTake.foldl fun _ _ k => ?_
  split
  · exact k
  · exact .ite k.setGnss.refQualify k.setGnss
theorem Orderly.execTodMessage {m : TodMsg} (h : Orderly s t) : GoesOn s (execTodMessage m t) := by
  unfold Machine.execTodMessage
  refine .ite (.next h) ?_
  split
  · exact .ite (.next h) (.ite (.next h.raise) (.ite (.next h) (.next h.todBinary)))
  · exact .ite (.next h) (.ite (.next h.todZda) (.next h.raise))
  · exact .next h
theorem Orderly.ptpAccept {e : ℤ} {secs : Bool} (h : Orderly s t) : Orderly s (ptpAccept t e secs) := (h.refQualify.ite h).refSample
theorem Orderly.execTlPtpMeas {value : BitVec 32} (h : Orderly s t) : GoesOn s (execTlPtpMeas value t) :=
  .ite (.next h.setTim) (.ite (.next h.setTim.refLose) (.ite (.ite (.next h.setTim.calCompare.setFlag.addFld.raise)
    (.next h.setTim.calCompare.ptpAccept)) (.next h.setTim.ptpAccept)))
theorem Orderly.execTlPtpSHi {value : BitVec 32} (h : Orderly s t) : GoesOn s (execTlPtpSHi value t) := .next h.setRegN.setTim
theorem Orderly.execPtpTimeout (h : Orderly s t) : GoesOn s (execPtpTimeout t) := .ite (.next h.refLose) (.next h)
theorem Orderly.execSynceLoss (h : Orderly s t) : GoesOn s (execSynceLoss t) := .ite (.next h.setFlag.raise) (.next h)
theorem Orderly.fsynShift {d : ℤ} {n : Nat} (h : Orderly s t) : Orderly s (fsynShift t d n) := .ite h.setTim.setRegN.setRegN h
theorem Orderly.applyStep {d : ℤ} (h : Orderly s t) : Orderly s (applyStep t d) :=
  (h.setTim.foldl fun _ _ k => k.fsynShift).setTim.setTim.correction
theorem Orderly.execAutoStep (h : Orderly s t) : GoesOn s (execAutoStep t) := by
  unfold Machine.execAutoStep; dsimp only
  split
  · exact .ite (.next h.setTim.applyStep) (.next h)
  · exact .next h
theorem Orderly.execHoldoverRequalify (h : Orderly s t) : GoesOn s (execHoldoverRequalify t) := by
  unfold Machine.execHoldoverRequalify
  split
  · exact .ite (.next h.setTl) (.next h)
  · exact .next h
theorem Orderly.execCapture (h : Orderly s t) : GoesOn s (execCapture t) := .next h.setRegN.setRegN.setRegN.setRegN
theorem Orderly.forceStep {d : ℤ} (h : Orderly s t) : Orderly s (t.forceStep d) := h.setTim.setFlag
theorem Orderly.execForceStep (h : Orderly s t) : GoesOn s (execForceStep t) := .ite (.next h.forceStep) (.next h.raise)
theorem Orderly.execForceAcquire (h : Orderly s t) : GoesOn s (execForceAcquire t) :=
  .ite (.ite (.next (h.setFlag.setTim.ite h).refSettle) (.next (h.setFlag.setTim.ite h).refSettle.setTl.tlLose)) (.next h.raise)
theorem Orderly.execRequalify (h : Orderly s t) : GoesOn s (execRequalify t) := .next (h.foldl fun _ _ k => k.setFlag)
theorem Orderly.execStepApply (h : Orderly s t) : GoesOn s (execStepApply t) := by
  unfold Machine.execStepApply; dsimp only
  split
  · exact .next h
  · exact .ite (.next h.setTim.setFlag.applyStep) (.next h.setTim.setFlag.applyStep.setTl.tlLose)

/-! TimedIo.lean. -/

theorem Orderly.execToEdgeTWrite {n : Fin 8} {value : BitVec 32} (h : Orderly s t) : GoesOn s (execToEdgeTWrite n value t) :=
  .next h.pushEntry
theorem Orderly.execToCtlWrite {n : Fin 8} {value : BitVec 32} (h : Orderly s t) : GoesOn s (execToCtlWrite n value t) :=
  .ite (.next h.raise) (.ite (.ite (.next h.setReg.setTout) (.next h.setReg.setTout)) (.ite (.next h.setReg.setTout) (.ite
    (.next h.setReg.setTout) (.next h.setReg))))
theorem Orderly.execToEntryHead {n : Fin 872} (h : Orderly s t) : GoesOn s (execToEntryHead n t) := by
  unfold Machine.execToEntryHead; dsimp only
  split
  · exact .next h
  · exact .ite (.next h) (.ite (.next h.setTout.raise) (.ite (.next h.setTout) (.next h.setTout)))
theorem Orderly.execToEdgeApply {n : Fin 872} (h : Orderly s t) : GoesOn s (execToEdgeApply n t) := by
  unfold Machine.execToEdgeApply; dsimp only
  split
  · exact .next h
  · exact .ite (.next h.setTout) (.next h)
theorem Orderly.execToPeriodicEdge {n : Fin 8} (h : Orderly s t) : GoesOn s (execToPeriodicEdge n t) := by
  unfold Machine.execToPeriodicEdge; dsimp only
  split
  · exact .next h
  · exact .ite (.ite (.next h.setTout) (.next h.setTout)) (.next h)
theorem Orderly.execPpsOutEdge (h : Orderly s t) : GoesOn s (execPpsOutEdge t) := .next h.setTim
theorem Orderly.execTlioEntryPush {cell : Fin 864} {sec : BitVec 32} {tc : BitVec 31} {level : Bool} (h : Orderly s t) : GoesOn s
    (execTlioEntryPush cell sec tc level t) :=
  .next h.pushEntry
theorem Orderly.execTlioTsPop {cell : Fin 864} (h : Orderly s t) : GoesOn s (execTlioTsPop cell t) := by
  unfold Machine.execTlioTsPop; dsimp only
  split
  · exact .next h
  · exact .next h.setTsInput.answer
theorem Orderly.execTsiEdgeCapture {n : Fin 874} {rising : Bool} {ofs : BitVec 18} (h : Orderly s t) : GoesOn s
    (execTsiEdgeCapture n rising ofs t) :=
  .next h.tsiCapture
theorem Orderly.execTsiHiRead {n : Fin 10} {init : Fin 512} (h : Orderly s t) : GoesOn s (execTsiHiRead n init t) := by
  unfold Machine.execTsiHiRead; dsimp only
  split
  · exact .next h.answer
  · exact .ite (.next h.answer) (.next h.answer.setTsInput.tsiStat)
theorem Orderly.setFsyn {n : Nat} {f : Fsyn} (h : Orderly s t) : Orderly s (setFsyn t n f) := h.setTim
theorem Orderly.fsynArmAt {n anchor : Nat} (h : Orderly s t) : Orderly s (fsynArmAt t n anchor) := h.setRegN.setFsyn
theorem Orderly.execFsynStart {n : Fin 24} (h : Orderly s t) : GoesOn s (execFsynStart n t) :=
  .ite (.next h.setRegN.setFsyn.setRegN.setRegN) (.next h)
theorem Orderly.execFsynUnlock {n : Fin 24} (h : Orderly s t) : GoesOn s (execFsynUnlock n t) := .next h.setFlag.raise


/-! Fabric.lean. -/

theorem Orderly.setFrame {fa : Nat} {w : FrameWord} (h : Orderly s t) : Orderly s (setFrame t fa w) := h.setFab
theorem Orderly.keepLines {l : List Nat} (h : Orderly s t) : Orderly s (keepLines t l) := h.setFab
theorem Orderly.execCellFlipFlopEdge {cell : Fin 9437184} {late : Bool} (h : Orderly s t) : GoesOn s
    (execCellFlipFlopEdge cell late t) :=
  .ite (.next h) (.ite (.next h.setFab) (.ite (.next h.took.setFab) (.next h.setFab)))
theorem Orderly.gckWait {k : Nat} (h : Orderly s t) : Orderly s (gckWait t k) := h.setFlag.setFlag
theorem Orderly.gckWrite {k v : Nat} (h : Orderly s t) : Orderly s (gckWrite t k v) :=
  .ite h.setFlag (.ite (h.setRegN.setFlag.whenNot (·.gckWait)) h.setRegN.setFlag.setFlag.setFlag)
theorem Orderly.execGckCfgWrite {k : Fin 48} {value : BitVec 32} (h : Orderly s t) : GoesOn s (execGckCfgWrite k value t) :=
  .next h.gckWrite
theorem Orderly.execGckStart {k : Fin 48} (h : Orderly s t) : GoesOn s (execGckStart k t) :=
  .ite (.next h.setFlag.setFlag) (.next h)
theorem Orderly.treesStop {n : Nat} (h : Orderly s t) : Orderly s (treesStop t n) := h.foldl fun _ _ k => .ite k.gckWait k
theorem Orderly.execFsynArm {n : Fin 24} {value : BitVec 32} (h : Orderly s t) : GoesOn s (execFsynArm n value t) :=
  .ite (.ite (.next h) (.ite (.next h.fsynArmAt) (.next h.raise))) (.next h.setRegN.setFsyn.treesStop)

/-! FabricBlocks.lean. -/

theorem Orderly.setBm {m : Nat} {x : BlockMem} (h : Orderly s t) : Orderly s (setBm t m x) := h.setFab
theorem Orderly.setBmRow {m r : Nat} {v : BitVec 72} (h : Orderly s t) : Orderly s (setBmRow t m r v) := h.setFab
theorem Orderly.bmStore {m : Nat} {x : BmAct} (h : Orderly s t) : Orderly s (bmStore t m x) := .ite h.setBmRow h
theorem Orderly.bmFlipTake {m : Nat} {x : BmAct} (h : Orderly s t) : Orderly s (bmFlipTake t m x).1 := by
  unfold Machine.bmFlipTake; dsimp only
  split
  · exact .iteFst h.setFab.setFlag.setFlag h
  · exact h
theorem Orderly.bmShow {m : Nat} {portB ecc : Bool} {x : BmAct} {old new : BitVec 72} (h : Orderly s t) : Orderly s
    (bmShow t m portB ecc x old new) :=
  by
  unfold Machine.bmShow; dsimp only
  refine .ite h.setBm ?_
  refine .ite h.took.setBm ?_
  refine .ite ?_ (.ite ((h.count.ite h).when (·.count)).setBm h.setBm)
  split <;> exact h.setBm
theorem Orderly.bmBist {m : Nat} {portB on : Bool} (h : Orderly s t) : Orderly s (bmBist t m portB on) := .ite h.setBm.count.raise h
theorem Orderly.execBmPortAccess {m : Fin 9216} {a b : Bool} (h : Orderly s t) : GoesOn s (execBmPortAccess m a b t) :=
  .ite (.next h) (.ite (.next h.bmBist.bmBist) (.next (.ite ((h.bmFlipTake.bmStore.bmStore.when (·.count)).setBm.when
    (·.bmShow)).bmShow ((h.bmFlipTake.bmStore.bmStore.when (·.count)).setBm.when (·.bmShow)))))
theorem Orderly.execBmFlipArm {value : BitVec 32} (h : Orderly s t) : GoesOn s (execBmFlipArm value t) :=
  .ite (.next h.raise) (.ite (.ite (.next h.setFab.setRegN) (.next h.setRegN)) (.next h.setFab.setRegN))
theorem Orderly.execSliceClockEdge {n : Fin 13824} {south : BitVec 24} (h : Orderly s t) : GoesOn s (execSliceClockEdge n south t)
    :=
  .ite (.next h) (.ite (.next h.setFab) (.ite (.next h.setFab) (.next (h.count.ite h).setFab)))
theorem Orderly.dpIssue {r : DpReq} (h : Orderly s t) : Orderly s (dpIssue t r) := by
  unfold Machine.dpIssue
  split
  · exact h
  · exact .ite h.answer (.ite h h.setFab)
theorem Orderly.dpEnd {p code data : Nat} (h : Orderly s t) : Orderly s (dpEnd t p code data) := by
  unfold Machine.dpEnd; dsimp only
  split
  · exact h
  · exact .ite h.setFab.setFmp h.setFab.answer
theorem Orderly.execDpReq {init : Fin 512} {wr : Bool} {index : BitVec 16} {sub : BitVec 8} {word : Fin 16} {data : BitVec 32} (h
    : Orderly s t) : GoesOn s (execDpReq init wr index sub word data t) :=
  .next h.dpIssue
theorem Orderly.execDpAck {p : Fin 144} {data : BitVec 32} {code : BitVec 16} (h : Orderly s t) : GoesOn s
    (execDpAck p data code t) :=
  .next h.dpEnd
theorem Orderly.execDpTimeout {p : Fin 144} (h : Orderly s t) : GoesOn s (execDpTimeout p t) := .next h.dpEnd

/-! Noc.lean. -/

theorem Orderly.count64 {a n : Nat} (h : Orderly s t) : Orderly s (count64 t a n) := h.setRegN.setRegN
theorem Orderly.monSend {r : NocReq} (h : Orderly s t) : Orderly s (monSend t r) := h.foldl fun _ _ k => k.count64.count
theorem Orderly.monRefuse {r : NocReq} (h : Orderly s t) : Orderly s (monRefuse t r) := h.foldl fun _ _ k => k.count
theorem Orderly.monDone {r : NocReq} (h : Orderly s t) : Orderly s (monDone t r) :=
  .ite h (h.took.foldl fun _ _ k => .ite k.count64.setRegN k.count64)
theorem Orderly.errNote {r : NocReq} {status : Nat} (h : Orderly s t) : Orderly s (errNote t r status) :=
  .ite h (.ite h.setRegN.setRegN.count.raise (.ite h.setRegN.setRegN.raise (.ite h.setRegN.setRegN.raise (h.setRegN.setRegN.when
    (·.count.raise)))))
theorem Orderly.respond {r : NocReq} {status : Nat} {data : List Byte} (h : Orderly s t) : Orderly s (respond t r status data) :=
  .ite h.errNote h.errNote.setNoc
theorem Orderly.refuseReq {r : NocReq} {status : Nat} (h : Orderly s t) : Orderly s (refuseReq t r status) := h.errNote.answer
theorem Orderly.chargeSend {r : NocReq} (h : Orderly s t) : OrderlyOpt s (chargeSend t r) := by
  unfold Machine.chargeSend; dsimp only
  split
  · exact .some h.setNoc.monSend
  · exact .ite (.some h.setRegN.setNoc.monSend) .none
theorem Orderly.inject {r : NocReq} (h : Orderly s t) : Orderly s (inject t r) := by
  unfold Machine.inject; dsimp only
  refine .ite h.refuseReq ?_
  refine .ite h.setNoc ?_
  split
  next u e => exact h.chargeSend e
  · exact .ite h.setNoc h.count.raise.monRefuse.refuseReq
theorem Orderly.execNocInject {init : Fin 512} {op : Fin 4} {addr : BitVec 48} {len : Fin 256} {tag : BitVec 8} {data : List Byte}
    (h : Orderly s t) : GoesOn s (execNocInject init op addr len tag data t) :=
  .ite (.next h.inject) (.next h)
theorem Orderly.retryPaced (h : Orderly s t) : Orderly s (retryPaced t) := by
  unfold Machine.retryPaced; dsimp only
  refine h.setNoc.foldl fun _ _ k => ?_
  refine .ite k.setNoc ?_
  split
  next u e => exact k.chargeSend e
  · exact k.setNoc
theorem Orderly.execCurbRefill (h : Orderly s t) : GoesOn s (execCurbRefill t) := .next (h.foldl fun _ _ k => k.setRegN).retryPaced
theorem Orderly.execNocMonClr {value : BitVec 32} (h : Orderly s t) : GoesOn s (execNocMonClr value t) :=
  .next (h.foldl fun _ _ k => .ite (k.foldl fun _ _ k => k.setRegN) k)
theorem Orderly.execLinkResend {router : Fin 168} {dir : Fin 4} {good : Bool} (h : Orderly s t) : GoesOn s
    (execLinkResend router dir good t) :=
  .ite (.next (h.count.raise.setNoc.whenNot (·.setRegN)).raise.detectNow) (.next h.count.raise.setNoc)
theorem Orderly.execNocResponse {init : Fin 512} {tag : BitVec 8} {bad : Bool} (h : Orderly s t) : GoesOn s
    (execNocResponse init tag bad t) :=
  by
  unfold Machine.execNocResponse; dsimp only
  split
  · exact .next h
  · split
    · exact .next h
    · exact .ite (.next h.setNoc.monDone.errNote.answer) (.next h.setNoc.monDone.answer)
theorem Orderly.execFrpRequest {p : Fin 144} {kind : Fin 4} {tag : Fin 16} {addr : BitVec 48} {len : Fin 256} {cls : Fin 4} {kix
    : Fin 64} {await : Bool} {data : List Byte} (h : Orderly s t) : GoesOn s (execFrpRequest p kind tag addr len cls kix await data
    t) :=
  .ite (.next h) (.ite (.next h.inject) (.next h.monRefuse.refuseReq))
theorem Orderly.winFeed : ∀ {n : Nat} {t : State} {p : Nat}, Orderly s t → Orderly s (winFeed n t p)
  | 0, _, _, h => h
  | n + 1, t, p, h => by
    unfold Machine.winFeed; dsimp only
    split
    · split
      · exact h.setNoc.answer.winFeed
      · exact h
    · exact h
theorem Orderly.winAccess {r : NocReq} (h : Orderly s t) : Orderly s (winAccess t r) :=
  .ite h.respond (.ite h.respond (.ite h.respond h.setNoc.winFeed))
theorem Orderly.winEnd {p x2 : Nat} (h : Orderly s t) : Orderly s (winEnd t p x2) := h.setNoc.winFeed
theorem Orderly.execFrpTargetResponse {p : Fin 144} {tag : BitVec 8} {status : Fin 8} {data : List Byte} (h : Orderly s t)
    : GoesOn s (execFrpTargetResponse p tag status data t) :=
  by
  unfold Machine.execFrpTargetResponse
  refine .ite (.next h) ?_
  split
  · exact .next h.respond.winEnd
  · exact .ite (.next h.setNoc.raise) (.next h)
theorem Orderly.execTgtTimeout {p : Fin 144} {tag : Fin 4} (h : Orderly s t) : GoesOn s (execTgtTimeout p tag t) := by
  unfold Machine.execTgtTimeout; dsimp only
  split
  · exact .next h.respond.raise.setNoc.winEnd
  · exact .next h
theorem Orderly.frpIsolate {p : Nat} (h : Orderly s t) : Orderly s (frpIsolate t p) := h.setNoc.foldl fun _ _ k => k.respond
theorem Orderly.spClear {b : Nat} (h : Orderly s t) : Orderly s (spClear t b) := h.trans ⟨rfl, id, memWf_spClear b⟩
theorem Orderly.spGo {b goal : Nat} (h : Orderly s t) : Orderly s (spGo t b goal) := .ite h.setNoc (.ite h h.setNoc.setFld)
theorem Orderly.spDone {b goal : Nat} (h : Orderly s t) : Orderly s (spDone t b goal) := by
  unfold Machine.spDone; dsimp only
  split
  · exact (h.setNoc.setFld.when (·.spClear)).raise.setNoc.spGo
  · exact (h.setNoc.setFld.when (·.spClear)).raise
theorem Orderly.execSpBankCfgWrite {b : Fin 64} {value : BitVec 32} (h : Orderly s t) : GoesOn s (execSpBankCfgWrite b value t) :=
  .next h.setReg.spGo
theorem Orderly.execSpStateDone {b : Fin 64} (h : Orderly s t) : GoesOn s (execSpStateDone b t) := by
  unfold Machine.execSpStateDone
  split
  · exact .next h.spDone
  · exact .next h
theorem Orderly.execSpFlipArm {value : BitVec 32} (h : Orderly s t) : GoesOn s (execSpFlipArm value t) :=
  .ite (.next h.raise) (.ite (.next h.setNoc.setRegN) (.next h.setNoc.setRegN))

/-! Sdram.lean. -/

theorem Orderly.execMergeFlush {x0 : Fin 4} (h : Orderly s t) : GoesOn s (execMergeFlush x0 t) := .next h.mergeOldest
theorem Orderly.refShow {x1 : Nat} (h : Orderly s t) : Orderly s (refShow t x1) := h.setFld
theorem Orderly.execRefreshDue {x0 : Fin 4} {rank : Fin 2} {busy : Bool} (h : Orderly s t) : GoesOn s
    (execRefreshDue x0 rank busy t) :=
  .ite (.next h) (.ite (.next h.setChan.refShow) (.ite (.next h) (.next h.count.setChan.refShow)))
theorem Orderly.execInit {x0 : Fin 4} (h : Orderly s t) : GoesOn s (execInit x0 t) :=
  .ite (.next h.raise) (.ite (.next h.setFld) (.next h))
theorem Orderly.execInitDone {x0 : Fin 4} {ok : Bool} (h : Orderly s t) : GoesOn s (execInitDone x0 ok t) :=
  .ite (.next h) (.ite (.next h.setFld.raise) (.next h.setFld.raise.memLog))
theorem Orderly.execRetrainDue {x0 : Fin 4} (h : Orderly s t) : GoesOn s (execRetrainDue x0 t) := .ite (.next h.setChan) (.next h)
theorem Orderly.retrain {x1 : Nat} (h : Orderly s t) : Orderly s (retrain t x1) := h.setChan.count
theorem Orderly.execTrainingSlot {x0 : Fin 4} (h : Orderly s t) : GoesOn s (execTrainingSlot x0 t) :=
  .ite (.next h.retrain) (.next h)
theorem Orderly.execTrainForced {x0 : Fin 4} (h : Orderly s t) : GoesOn s (execTrainForced x0 t) :=
  .ite (.next h.retrain.count.raise) (.next h)
theorem Orderly.execPatrolRead {x0 : Fin 4} (h : Orderly s t) : GoesOn s (execPatrolRead x0 t) :=
  .ite (.next h) (.next h.lineRead.setChan)
theorem Orderly.execRetirePage {x0 : Fin 4} (h : Orderly s t) : GoesOn s (execRetirePage x0 t) := by
  unfold Machine.execRetirePage; dsimp only
  refine .ite (.next h) ?_
  split
  · exact .next h.raise
  · exact .next (h.foldl fun _ _ k => k.mergeFlush).setChan.setFlag
theorem Orderly.lineCopy {l : Nat} (h : Orderly s t) : Orderly s (lineCopy t l) := .ite h.lineFresh.setLineErr h.lineBack
theorem Orderly.execRetirePageDone {x0 : Fin 4} (h : Orderly s t) : GoesOn s (execRetirePageDone x0 t) := by
  unfold Machine.execRetirePageDone; dsimp only
  split
  · exact .next h
  · exact .next (h.foldl fun _ _ k => k.lineCopy).setChan.setRegN.setFlag.setFld.memLog
theorem Orderly.execRetireBank {x0 : Fin 4} (h : Orderly s t) : GoesOn s (execRetireBank x0 t) :=
  .ite (.next h.setChan.setFlag.setRegN) (.next h.raise)
theorem Orderly.execRetireDone {x0 : Fin 4} (h : Orderly s t) : GoesOn s (execRetireDone x0 t) := by
  unfold Machine.execRetireDone; dsimp only
  split
  · exact .next h
  · exact .next (h.foldl fun _ _ k => k.lineCopy).setChan.setRegN.setFlag.raise.memLog
theorem Orderly.execMemFlipArm {x0 : Fin 4} {value : BitVec 32} (h : Orderly s t) : GoesOn s (execMemFlipArm x0 value t) :=
  .ite (.next h.raise) (.ite (.next h.setChan.setRegN) (.next h.setChan.setFlag))
theorem Orderly.execMemLogRead {x0 : Fin 4} {init : Fin 512} (h : Orderly s t) : GoesOn s (execMemLogRead x0 init t) :=
  .ite (.next h.answer) (.next h.answer.logPop.setChan)
theorem Orderly.writeIf {ok : Bool} (h : Orderly s t) (k : Orderly s u) : Orderly s (writeIf t u ok) := .ite k h.raise
theorem Orderly.memHook {init a v : Nat} (h : Orderly s t) : OrderlyOpt s (memHook t init a v) :=
  .ite .none (.ite (.some (h.writeIf h.setRegN)) (.ite (.some (.ite h.setRegN h)) (.ite .none (.ite (.some (h.writeIf h.setRegN))
    (.ite (.some (h.writeIf h.setRegN)) (.ite (.some (h.writeIf h.setRegN)) .none))))))
theorem Orderly.execCxlDecCommit {d : Fin 4} {value : BitVec 32} (h : Orderly s t) : GoesOn s (execCxlDecCommit d value t) :=
  .ite (.next (.ite h h.setFlag.setFlag)) (.ite (.ite (.next h.setRegN.setFlag.raise) (.next h.setRegN.setFlag.setFlag))
    (.next h.setRegN))
theorem Orderly.cxlDrop {r : NocReq} (h : Orderly s t) : Orderly s (cxlDrop t r) := h.setExt
theorem Orderly.execCxlResponse {init : Fin 512} {tag : BitVec 8} {poison : Bool} (h : Orderly s t) : GoesOn s
    (execCxlResponse init tag poison t) :=
  by
  unfold Machine.execCxlResponse; dsimp only
  split
  · exact .next h
  · exact .ite (.next h.cxlDrop.viewWrite.respond) (.ite (.next h.cxlDrop.count.respond) (.next h.cxlDrop.respond))
theorem Orderly.execCxlTimeout {init : Fin 512} {tag : BitVec 8} (h : Orderly s t) : GoesOn s (execCxlTimeout init tag t) := by
  unfold Machine.execCxlTimeout
  split
  · exact .next h
  · exact .next h.cxlDrop.count.respond.raise
theorem Orderly.execCxlLinkChg {port : Fin 2} {up : Bool} {width gen : Fin 8} (h : Orderly s t) : GoesOn s
    (execCxlLinkChg port up width gen t) :=
  .ite (.next h) (.ite (.next h.setFld.raise) (.next (h.setFld.raise.setExt.foldl fun _ _ k => k.respond)))
theorem Orderly.execCxlEcamAccess {init : Fin 512} {wr : Bool} {ofs : Fin 1048576} {value : BitVec 32} {got : Option (BitVec 32)}
    (h : Orderly s t) : GoesOn s (execCxlEcamAccess init wr ofs value got t) :=
  .next h.answer
theorem Orderly.execPcieInbound {bar : Fin 3} {wr : Bool} {ofs : BitVec 26} {len : Fin 256} {tag : BitVec 8} {data : List Byte} (h
    : Orderly s t) : GoesOn s (execPcieInbound bar wr ofs len tag data t) :=
  .ite (.next h) (.ite (.next h.answer) (.next h.inject))
theorem Orderly.execPcieLinkChg {up : Bool} {width : Fin 32} {gen : Fin 8} (h : Orderly s t) : GoesOn s
    (execPcieLinkChg up width gen t) :=
  .next h.setRegN.raise

/-! Imp.lean. -/

theorem Orderly.impStat (h : Orderly s t) : Orderly s (impStat t) := h.setRegN
theorem Orderly.slotStat (h : Orderly s t) : Orderly s (slotStat t) := h.foldl fun _ _ k => k.setFlag.setFlag
theorem Orderly.impLog {addr init cause cls : Nat} (h : Orderly s t) : Orderly s (impLog t addr init cause cls) := h.logPush.setImp
theorem Orderly.impAlarm {r : NocReq} {cls : Nat} (h : Orderly s t) : Orderly s (impAlarm t r cls) :=
  .ite h.count.raise.alarm (.ite (h.count.raise.foldl fun _ _ k => k.alarm) (.ite h.count.raise.alarm h.count.raise.alarm))
theorem Orderly.poisonRead {r : NocReq} {cause : Nat} (h : Orderly s t) : Orderly s (poisonRead t r cause) :=
  (h.respond.impAlarm.ite h.respond).impLog
theorem Orderly.setBuf {b : List TileBuf} (h : Orderly s t) : Orderly s (setBuf t b) := h.setImp.impStat
theorem Orderly.bufAck {tile : Nat} (h : Orderly s t) : Orderly s (bufAck t tile) := by
  unfold Machine.bufAck; dsimp only
  split
  · exact h
  · exact h.setBuf.foldl fun _ _ k => k.respond
theorem Orderly.bufBack {b : TileBuf} (h : Orderly s t) : Orderly s (bufBack t b) := by
  conv => arg 2; fun; fun; delta Machine.bufBack
  dsimp only
  split
  · exact h.setBuf.tileBack
  · exact h.setBuf.encWrite
  · exact h.setBuf
theorem Orderly.bufFail {tile : Nat} (h : Orderly s t) : Orderly s (bufFail t tile) := by
  unfold Machine.bufFail
  split
  · exact h
  · exact .ite h (h.setBuf.foldl fun _ _ k => k.respond)
theorem Orderly.bufOld {tile : Nat} {l : List Byte} (h : Orderly s t) : Orderly s (bufOld t tile l) := h.setBuf.bufAck
theorem Orderly.bufEnter {r : NocReq} {k : ImpKind} (h : Orderly s t) : Orderly s (bufEnter t r k) := by
  unfold Machine.bufEnter; dsimp only
  split
  · exact .ite h.setBuf.bufAck h.setBuf
  · split
    · exact h.setBuf.physRead.both (·.bufFail) (·.bufOld)
    · exact h.setBuf.setImp
theorem Orderly.execImpTileWrite {init : Fin 512} {tag : BitVec 8} (h : Orderly s t) : GoesOn s (execImpTileWrite init tag t) := by
  unfold Machine.execImpTileWrite; dsimp only
  split
  · exact .next h
  · refine .ite (.next h) ?_
    split
    · exact .next h.setImp.respond.raise
    · refine .ite (.next h.setImp.bufEnter) ?_
      split
      · exact .next h.setImp.bufBack.bufEnter
      · exact .next h
theorem Orderly.execImpTileWriteback {tile : BitVec 39} (h : Orderly s t) : GoesOn s (execImpTileWriteback tile t) := by
  unfold Machine.execImpTileWriteback
  split
  · exact .ite (.next h.bufBack) (.next h)
  · exact .next h
theorem Orderly.execImpTileRead {tile : BitVec 39} (h : Orderly s t) : GoesOn s (execImpTileRead tile t) := by
  have k : ∀ {u a n}, Orderly s u → Orderly s (Machine.physRead u a n).1 := fun h => h.physRead
  unfold Machine.execImpTileRead
  obtain ⟨R, eR⟩ := named Machine.physRead
  obtain ⟨f, ef⟩ := named Machine.rngOf
  rw [eR] at k
  rw [eR, ef]
  dsimp only
  split
  · refine .ite ?_ (.ite (.next h) (.ite ?_ (.ite ?_ (.next (.setImp ?_)))))
    · split
      · exact .next h.setImp.poisonRead
      · exact .next h.setImp.bufFail
    · split
      · exact .next h.setImp.respond
      · exact .next h.setImp.bufOld
    · split
      · exact .next (k h.setImp).respond
      · exact .next (k h.setImp).bufFail
    · split
      · exact (k (k h.setImp)).when (·.respond)
      · exact k (k h.setImp)
  · exact .next h
theorem Orderly.checkEnd {c : ImpCheck} {cause : Nat} (h : Orderly s t) : Orderly s (checkEnd t c cause) := by
  unfold Machine.checkEnd; dsimp only
  refine .ite ?_ ?_
  · split
    · exact .ite h.setImp h.setImp.respond
    · exact h.setImp.bufOld
  · split
    · exact h.setImp.count.raise.both (·.impAlarm.impLog) (·.respond.impLog)
    · exact h.setImp.count.raise.bufFail.impLog
theorem Orderly.execImpTagCheck {tile : BitVec 39} (h : Orderly s t) : GoesOn s (execImpTagCheck tile t) := by
  unfold Machine.execImpTagCheck
  split
  · exact .next h.checkEnd
  · exact .next h
theorem Orderly.execImpCheckTimeout {tile : BitVec 39} (h : Orderly s t) : GoesOn s (execImpCheckTimeout tile t) := by
  unfold Machine.execImpCheckTimeout
  split
  · exact .next h.checkEnd
  · exact .next h
theorem Orderly.poisonNode {r l j : Nat} (h : Orderly s t) : Orderly s (poisonNode t r l j) := by
  unfold Machine.poisonNode; dsimp only
  refine .impStat (.raise (.count (.setFlag ?_)))
  split
  · exact h.setRegN.setRegN
  · split
    · exact (h.foldl fun _ _ k => k.setRegN).raise.setRegN.setRegN
    · exact (h.foldl fun _ _ k => k.setRegN).raise
theorem Orderly.nodeFetch {a : Nat} (h : Orderly s t) : Orderly s (nodeFetch t a).1 := .ite h.physRead.count.raise h.physRead
theorem Orderly.execImpNodeVerify {rng : Fin 16} {level : Fin 12} {idx : BitVec 32} (h : Orderly s t) :
    GoesOn s (execImpNodeVerify rng level idx t) := by
  have k : ∀ {u a}, Orderly s u → Orderly s (Machine.nodeFetch u a).1 := fun h => h.nodeFetch
  unfold Machine.execImpNodeVerify
  obtain ⟨R, eR⟩ := named Machine.nodeFetch
  rw [eR] at k
  rw [eR]
  dsimp only
  refine .ite (.next h) (.ite (.next h.cacheIn) (.ite (.next (k h).cacheIn) ?_))
  have j : ∀ {a b c} {_ : Decidable c}, Orderly s (if c then R (R t a).1 b else ((R t a).1, true)).1 :=
    .iteFst (k (k h)) (k h)
  refine .ite (.next j.physWrite.physWrite.count.raise.cacheIn) (.next ?_)
  refine j.poisonNode.setImp.foldl fun _ x k => ?_
  split
  · exact k.poisonRead
  · exact k.bufFail
theorem Orderly.cacheAbove {r l j : Nat} (h : Orderly s t) : Orderly s (cacheAbove t r l j) := by
  unfold Machine.cacheAbove; dsimp only
  refine h.foldl fun _ _ k => ?_
  split
  · exact k
  · exact k.cacheIn
theorem Orderly.execImpReseed {value : BitVec 32} (h : Orderly s t) : GoesOn s (execImpReseed value t) :=
  .ite (.next h) (.next (h.setBuf.setImp.both (·.setCtrs) (·.cacheAbove.nodeBack)).setRegN.setRegN.setFlag.impStat.raise)
theorem Orderly.rngShow {n : Nat} (h : Orderly s t) : Orderly s (rngShow t n) := .ite h.setRegN.setRegN h.setRegN.setRegN
theorem Orderly.freshKey (h : Orderly s t) : Orderly s (freshKey t).1 := h.foldlFst fun _ _ k => k.took
theorem Orderly.rngCommit {n : Nat} (h : Orderly s t) : Orderly s (rngCommit t n) :=
  .ite h.setFlag.raise (h.setFlag.setFlag.when (·.freshKey.setCtrs.setImp)).impStat.slotStat
theorem Orderly.execImpRangeCommit {n : Fin 16} {value : BitVec 32} (h : Orderly s t) : GoesOn s (execImpRangeCommit n value t) :=
  .ite (.next h.raise) (.ite (.next h) (.next h.setFld.setFlag.rngShow.rngCommit))
theorem Orderly.evictRng : ∀ {n : Nat} {t : State} {r : Nat}, Orderly s t → Orderly s (evictRng n t r)
  | 0, _, _, h => h
  | n + 1, t, r, h => by
    unfold Machine.evictRng; dsimp only
    split
    · exact h
    · exact (h.nodeBack.ite h).setImp.evictRng
theorem Orderly.rngDecommit {n : Nat} (h : Orderly s t) : Orderly s (rngDecommit t n) := by
  unfold Machine.rngDecommit; dsimp only
  exact ((h.foldl fun _ _ k => .ite k.bufBack k.bufFail).evictRng.setImp.foldl fun _ _ k =>
    .ite k.setRegN.setRegN k).setFlag.setFlag.impStat.slotStat
theorem Orderly.execImpRangeDecommit {n : Fin 16} {value : BitVec 32} (h : Orderly s t) : GoesOn s (execImpRangeDecommit n value t)
    :=
  .ite (.next h.raise) (.ite (.next h) (.next (h.rngDecommit.ite h).setFld.setFlag))
theorem Orderly.execRollStart {value : BitVec 32} (h : Orderly s t) : GoesOn s (execRollStart value t) :=
  .ite (.next h.setFlag) (.next h.setRegN.setFlag.setRegN.setRegN.slotStat)
theorem Orderly.rollPause (h : Orderly s t) : Orderly s (rollPause t) := .ite h.setFld h
theorem Orderly.rollResume (h : Orderly s t) : Orderly s (rollResume t) := .ite h.setFld h
theorem Orderly.execRollPause (h : Orderly s t) : GoesOn s (execRollPause t) := .next h.rollPause
theorem Orderly.execRollResume (h : Orderly s t) : GoesOn s (execRollResume t) := .next h.rollResume
theorem Orderly.execRollClaim (h : Orderly s t) : GoesOn s (execRollClaim t) := by
  unfold Machine.execRollClaim; dsimp only
  refine .ite (.next h) ?_
  split
  · exact .next h.setImp
  · exact .ite (.next h.setRegN.setImp) (.next h)
theorem Orderly.rollNext {r : Nat} (h : Orderly s t) : Orderly s (rollNext t r) :=
  h.setRegN.setRegN.setImp.when (·.setFld.setFlag.setFld.raise.slotStat)
theorem Orderly.rollTile {r x2 : Nat} (h : Orderly s t) : Orderly s (rollTile t r x2) :=
  .ite h.encWrite (.ite h (h.cachePath.physWrite.both (·.tagStore) (·.physWrite.impLog)).setCtrs.jTile)
theorem Orderly.execRollTileDone (h : Orderly s t) : GoesOn s (execRollTileDone t) := .ite (.next h.rollTile.rollNext) (.next h)
theorem Orderly.execRollRetry (h : Orderly s t) : GoesOn s (execRollRetry t) := .ite (.next h.setImp.count.raise) (.next h)
theorem Orderly.execImpTagFlipArm {value : BitVec 32} (h : Orderly s t) : GoesOn s (execImpTagFlipArm value t) :=
  .ite (.next h.raise) (.ite (.next h.setImp.setRegN) (.next h.setImp.setRegN))
theorem Orderly.execImpLogRead {init : Fin 512} (h : Orderly s t) : GoesOn s (execImpLogRead init t) :=
  .ite (.next h.answer) (.next h.answer.logPop.setImp)
theorem Orderly.impSettle (h : Orderly s t) : Orderly s (impSettle t) := h.foldl fun _ _ k => .ite k.bufBack k

/-! Roles.lean. -/

theorem Orderly.refsAnew (h : Orderly s t) : Orderly s (refsAnew t) := h.refSettle.tlLose.tlGain
theorem Orderly.jStop (h : Orderly s t) : Orderly s (jStop t) := (h.foldl fun _ _ k => k.setRegN).setSync.setLane.setRly
theorem Orderly.toSecondary (h : Orderly s t) : Orderly s (toSecondary t) := h.setRole.moveMode.refsAnew
theorem Orderly.leaveShadow (h : Orderly s t) : Orderly s (leaveShadow t) := h.moveMode.refLose.refsAnew
theorem Orderly.roleSettle (h : Orderly s t) : Orderly s (roleSettle t) :=
  .ite (.ite h h.jStop.setRole.setRly.refLose) (.ite h.setRly.toSecondary h)
theorem Orderly.relayCfg {v : Nat} (h : Orderly s t) : Orderly s (relayCfg t v) :=
  (h.setRegN.setRly.ite (.ite h.setRegN.setRly h.setRegN)).roleSettle


/-! SecBase.lean. -/

theorem Orderly.otpBurn {a : Nat} {l : List Byte} (h : Orderly s t) : Orderly s (otpBurn t a l) := h.setSec
theorem Orderly.otpBurn3 {a v : Nat} (h : Orderly s t) : Orderly s (otpBurn3 t a v) := h.otpBurn
theorem Orderly.secShow (h : Orderly s t) : Orderly s (secShow t) := h.setFlag.setFld.setFld.setFlag.setRegN.setRegN
theorem Orderly.otpRead (h : Orderly s t) : Orderly s (otpRead t) := h.setRegN.raiseIf.setRegN.secShow
theorem Orderly.drawBytes : ∀ {n : Nat} {t : State}, Orderly s t → Orderly s (drawBytes n t).1
  | 0, _, h => h
  | n + 1, _, h => Orderly.drawBytes (n := n) h.took



/-! Loader.lean. -/

theorem Orderly.contentFrame {fa : Nat} {d : BitVec 2048} (h : Orderly s t) : Orderly s (contentFrame t fa d) :=
  h.foldl fun _ _ k => .ite k.setBmRow k
theorem Orderly.writeFrame {fa : Nat} {d : BitVec 2048} (h : Orderly s t) : Orderly s (writeFrame t fa d) :=
  .ite h.setFrame h.contentFrame
theorem Orderly.setPhase {n : Nat} (h : Orderly s t) : Orderly s (setPhase t n) := h.setFld.setFlag
theorem Orderly.startLoad {kind : Nat} {strap alt : Bool} {tgts : List Nat} (h : Orderly s t) : Orderly s
    (startLoad t kind strap alt tgts) :=
  h.setLdr.setPhase
theorem Orderly.retFill (h : Orderly s t) : Orderly s (retFill t) := h.setRegN.raiseIf
theorem Orderly.farStand (h : Orderly s t) : Orderly s (farStand t) := (h.unstand.ite h).when (·.unstand)
theorem Orderly.farAbandon {tgts : List Nat} (h : Orderly s t) : Orderly s (farAbandon t tgts) :=
  (h.setFar.foldl fun _ _ k => k.setFlag.setFlag).farStand
theorem Orderly.hitchIsolate {p : Nat} (h : Orderly s t) : Orderly s (hitchIsolate t p) :=
  h.foldl fun _ _ k => .ite k.setPac k.setPac.reportOr
theorem Orderly.blinkIsolate {p : Nat} {zero : Bool} (h : Orderly s t) : Orderly s (blinkIsolate t p zero) :=
  .ite h.setFab (.ite h h.setFab)
theorem Orderly.clearPad {p : Nat} (h : Orderly s t) : Orderly s (clearPad t p) := h.setFab
theorem Orderly.isolatePad {p : Nat} {zero : Bool} (h : Orderly s t) : Orderly s (isolatePad t p zero) := by
  unfold Machine.isolatePad; dsimp only
  split
  · exact h.keepLines.blinkIsolate.setFab.setFlag.setFlag.hitchIsolate.frpIsolate.dpEnd.when (·.setOut.bistRound)
  · exact h.keepLines.blinkIsolate.setFab.setFlag.setFlag.hitchIsolate.frpIsolate.dpEnd
theorem Orderly.takePads {tgts : List Nat} {zero : Bool} {st : Nat} (h : Orderly s t) : Orderly s (takePads t tgts zero st) :=
  ((h.farAbandon.foldl fun _ _ k => k.isolatePad.setFld).foldl fun _ _ k => k.clearPad).setLdr.retFill
theorem Orderly.loadFail {code : Nat} {at_ : Option Nat} (h : Orderly s t) : Orderly s (loadFail t code at_) := by
  unfold Machine.loadFail; dsimp only
  refine .setLdr ?_
  refine .ite ?_ ?_
  · refine .roleSettle (.moveMode (.raise (.takePads (.setRegN (.raise (.count (.setPhase (.setFlag (.setFld ?_)))))))))
    split
    · exact h.setRegN
    · exact h.took.setRegN
  · refine .ite ?_ ?_
    · refine .foldl ?_ fun _ _ k => ?_
      · refine .foldl ?_ fun _ _ k => ?_
        · refine .setRegN (.raise (.count (.setPhase (.setFlag (.setFld ?_)))))
          split
          · exact h.setRegN
          · exact h.took.setRegN
        · exact k.clearPad
      · exact k.setFld.raise
    · refine .setRegN (.raise (.count (.setPhase (.setFlag (.setFld ?_)))))
      split
      · exact h.setRegN
      · exact h.took.setRegN
theorem Orderly.loadAbort (h : Orderly s t) : Orderly s (loadAbort t) := .ite h (.ite h.setLdr.setPhase h.loadFail)
theorem Orderly.cfgCmd {v : Nat} (h : Orderly s t) : Orderly s (cfgCmd t v) := .ite h.loadAbort (.ite h (.ite h.raise h.startLoad))
theorem Orderly.execLoadFull {value : BitVec 32} (h : Orderly s t) : GoesOn s (execLoadFull value t) := .next h.cfgCmd
theorem Orderly.execLoadPartial {value : BitVec 32} (h : Orderly s t) : GoesOn s (execLoadPartial value t) := .next h.cfgCmd
theorem Orderly.execAbort {value : BitVec 32} (h : Orderly s t) : GoesOn s (execAbort value t) := .next h.cfgCmd
theorem Orderly.execEmpty {value : BitVec 32} (h : Orderly s t) : GoesOn s (execEmpty value t) := .next h.cfgCmd
theorem Orderly.farStop (h : Orderly s t) : Orderly s (farStop t) := h.farAbandon.setFar.setRegN
theorem Orderly.fullBegin (h : Orderly s t) : Orderly s (fullBegin t) :=
  ((h.moveMode.roleSettle.foldl fun _ _ k => k.gckWrite).foldl fun _ _ k => k.setRegN.setFsyn).farStop.takePads.setRegN.setPhase
theorem Orderly.execPass1Done {host : Option (List Byte)} (h : Orderly s t) : GoesOn s (execPass1Done host t) := by
  unfold Machine.execPass1Done; dsimp only
  refine .ite (.next h) ?_
  split
  · exact .next h.loadFail
  · exact .ite (.next h.setLdr.raise.fullBegin) (.ite (.ite (.next h.setLdr.raise.loadFail) (.ite (.next h.setLdr.raise.loadFail)
      (.next h.setLdr.raise.setPhase))) (.next h.setLdr.raise.setPhase))
theorem Orderly.execPrIsolate (h : Orderly s t) : GoesOn s (execPrIsolate t) :=
  .ite (.next h) (.ite (.next (h.raise.takePads.foldl fun _ _ k => k.raise).setLdr.setPhase)
    (.next h.raise.takePads.setRegN.setPhase))
theorem Orderly.execPass2Chunk {host : Option (List Byte)} (h : Orderly s t) : GoesOn s (execPass2Chunk host t) := by
  unfold Machine.execPass2Chunk; dsimp only
  split
  · exact .next h
  · refine .ite (.next h) ?_
    split
    · exact .next h
    · split
      · exact .next h.loadFail
      · exact .ite (.next h.loadFail) (.next (h.foldl fun _ _ k => k.writeFrame).countBy.setPhase.setLdr)
theorem Orderly.execLoadTimeout (h : Orderly s t) : GoesOn s (execLoadTimeout t) :=
  .ite (.next h.loadFail) (.ite (.next h.loadFail) (.next h))
theorem Orderly.execAltUsed (h : Orderly s t) : GoesOn s (execAltUsed t) := .ite (.next h.startLoad.raise) (.next h)
theorem Orderly.fsynSet {i : Nat} (h : Orderly s t) : Orderly s (fsynSet t i) :=
  .ite (h.setRegN.setRegN.both (·.fsynArmAt) (·.raise)) h.setRegN.setRegN
theorem Orderly.execStartupClocks (h : Orderly s t) : GoesOn s (execStartupClocks t) :=
  .ite (.next ((h.foldl fun _ _ k => k.fsynSet).foldl fun _ _ k => k.gckWrite).setLdr) (.next h)
theorem Orderly.execDriverRelease (h : Orderly s t) : GoesOn s (execDriverRelease t) := .ite (.next h.setFab.setLdr) (.next h)
theorem Orderly.execGsrRelease (h : Orderly s t) : GoesOn s (execGsrRelease t) :=
  .ite (.next (h.setFab.foldl fun _ _ k => k.setFlag).setLdr) (.next h)
theorem Orderly.passPad {part : Bool} {p : Nat} (h : Orderly s t) : Orderly s (passPad t part p) :=
  (h.setFld.setFlag.when (·.addFld)).setFab.setFlag.setFlag
theorem Orderly.farStart (h : Orderly s t) : Orderly s (farStart t) := .ite h h.setFar.setRegN
theorem Orderly.execLoadDone (h : Orderly s t) : GoesOn s (execLoadDone t) := by
  have k : Orderly s (t.ldr.tgts.foldl (fun s p => Machine.passPad s (!(t.ldr.kind == 1)) p) t) := h.foldl fun _ _ k => k.passPad
  unfold Machine.execLoadDone; dsimp only
  split
  · exact .next h
  · exact .ite (.next h) (.ite
      (.next k.setFld.setFlag.setFlag.setPhase.count.setRegN.raise.setLdr.retFill.farStand.setRegN.setRegN.farStart.moveMode.roleSettle)
      (.next k.setFld.setFlag.setFlag.setPhase.count.setRegN.raise.setLdr.retFill.farStand))

/-! Farrier.lean. -/

theorem Orderly.setEng {e : Nat} {x : FarEngine} (h : Orderly s t) : Orderly s (setEng t e x) := h.setFar
theorem Orderly.farLog {e fa kind : Nat} {prio flagged : Bool} {a : Nat} {b : Option Nat} (h : Orderly s t) : Orderly s
    (farLog t e fa kind prio flagged a b) :=
  h.logPush.setFar
theorem Orderly.upsCount (h : Orderly s t) : Orderly s (upsCount t) := by
  unfold Machine.upsCount
  split <;> exact h.setFar
theorem Orderly.padFlag {p : Nat} (h : Orderly s t) : Orderly s (padFlag t p) := .ite h h.setFlag.raise.reinBack
theorem Orderly.padSettle {p : Nat} (h : Orderly s t) : Orderly s (padSettle t p) := (h.setFlag.setFlag.ite h.setFlag).farStand
theorem Orderly.toRepair {e fa : Nat} {prio : Bool} {c : FarCase} (h : Orderly s t) : Orderly s (toRepair t e fa prio c) :=
  .ite h (.ite h.setEng h.setEng)
theorem Orderly.upset {e fa : Nat} {prio : Bool} {c : FarCase} (h : Orderly s t) : Orderly s (upset t e fa prio c) :=
  ((((h.upsCount.count.raise.ite h.upsCount.count.raise).setRegN.farLog.when (·.detect)).both (·.count.raise)
    (·.toRepair)).padFlag.ite (((h.upsCount.count.raise.ite h.upsCount.count.raise).setRegN.farLog.when (·.detect)).both
    (·.count.raise) (·.toRepair))).padSettle
theorem Orderly.farRead {e fa : Nat} {prio : Bool} (h : Orderly s t) : Orderly s (farRead t e fa prio) := .ite (.ite h h.upset) h
theorem Orderly.execFrameSlot {engine : Fin 2} {prio : Bool} (h : Orderly s t) : GoesOn s (execFrameSlot engine prio t) := by
  unfold Machine.execFrameSlot; dsimp only
  refine .ite (.next h) ?_
  refine .ite ?_ (.next (h.setRegN.setEng.when (·.count.setRegN)).farRead)
  split
  · exact .next h.setRegN
  · exact .next (h.setRegN.setEng.when (·.count)).farRead
theorem Orderly.execPriorityPassStart {engine : Fin 2} (h : Orderly s t) : GoesOn s (execPriorityPassStart engine t) :=
  .ite (.next h) (.ite (.next h.setEng.setFlag.raise) (.next h.setEng))
theorem Orderly.liveFrame {fa : Nat} {w : FrameWord} (h : Orderly s t) : Orderly s (liveFrame t fa w) := h.keepLines.setFrame
theorem Orderly.execRepairWrite {engine : Fin 2} (h : Orderly s t) : GoesOn s (execRepairWrite engine t) := by
  unfold Machine.execRepairWrite; dsimp only
  split
  · exact .next h
  · exact .next h.liveFrame.setEng
theorem Orderly.fetchFail {e fa : Nat} {prio : Bool} (h : Orderly s t) : Orderly s (fetchFail t e fa prio) :=
  (h.setEng.farLog.raise.setFlag.when (·.detect)).both (·.takePads.raise.raise.raise) (·.padSettle)
theorem Orderly.lineService {e n : Nat} (h : Orderly s t) : Orderly s (lineService t e n) :=
  .ite h (.ite (h.foldl fun _ _ k => .ite k.toRepair k) (.ite (h.foldl fun _ _ k => k.toRepair) h.setFab.setEng))
theorem Orderly.linesService {e p : Nat} (h : Orderly s t) : Orderly s (linesService t e p) :=
  (h.foldl fun _ _ k => k.lineService).padSettle
theorem Orderly.execRepairVerify {engine : Fin 2} (h : Orderly s t) : GoesOn s (execRepairVerify engine t) := by
  unfold Machine.execRepairVerify; dsimp only
  split
  · exact .next h
  · exact .ite (.next (h.setEng.farLog.count.raise.ite h.setEng).linesService) (.ite (.next h.upsCount.fetchFail) (.next
      (h.setEng.upsCount.count.setRegN.farLog.count.raise.setFlag.toRepair.when (·.padFlag)).padSettle))
theorem Orderly.fetched {e : Nat} {f : Refetch} {d : BitVec 2048} (h : Orderly s t) : Orderly s (fetched t e f d) := h.setEng
theorem Orderly.execRefetchChunk {engine : Fin 2} {host : Option (List Byte)} (h : Orderly s t) : GoesOn s
    (execRefetchChunk engine host t) :=
  by
  unfold Machine.execRefetchChunk; dsimp only
  split
  · exact .next h
  · split
    · exact .next h.fetchFail
    · refine .ite (.next h) ?_
      refine .ite (.next h.fetchFail) ?_
      split
      · exact .next h.fetchFail
      · split
        · exact .next h.fetchFail
        · refine .ite (.next h.fetchFail) ?_
          split
          · exact .next h.fetched
          · exact .ite (.next h.fetched) (.next h.setEng)
theorem Orderly.execContentionSample {line : Fin 294912} (h : Orderly s t) : GoesOn s (execContentionSample line t) :=
  .ite (.next h) (.next (h.took.setFab.count.raise.upsCount.setRegN.farLog.setEng.when (·.detect)).padFlag.linesService)
theorem Orderly.execFarrierRateUpdate (h : Orderly s t) : GoesOn s (execFarrierRateUpdate t) :=
  .ite (.next h) (.next h.setRegN.setFld.setFar)
theorem Orderly.execFarPrioCommit {value : BitVec 32} (h : Orderly s t) : GoesOn s (execFarPrioCommit value t) :=
  .ite (.next h.raise) (.next ((((h.setRegN.setFar.foldl fun _ _ k => k.setFlag).detect.ite
    (h.setRegN.setFar.foldl fun _ _ k => k.setFlag)).when (·.setFlag)).unstand.ite
    (((h.setRegN.setFar.foldl fun _ _ k => k.setFlag).detect.ite (h.setRegN.setFar.foldl fun _ _ k => k.setFlag)).when
    (·.setFlag))).farStand)
theorem Orderly.execPeerStallCheck {engine : Fin 2} (h : Orderly s t) : GoesOn s (execPeerStallCheck engine t) :=
  .ite (.next h) (.ite (.next (h.setEng.count.raise.setFlag.setFlag.setEng.setFlag.when (·.detect))) (.ite (.next
    (h.setEng.setFlag.setFar.setEng.when (·.unstand))) (.next h.setEng.setFar)))
theorem Orderly.execRestorePeer {value : BitVec 32} (h : Orderly s t) : GoesOn s (execRestorePeer value t) :=
  .ite (.next h.setEng.setFar) (.next h)
theorem Orderly.execFarLogRead {init : Fin 512} (h : Orderly s t) : GoesOn s (execFarLogRead init t) :=
  .ite (.next h.answer) (.next h.answer.logPop.setFar)
theorem Orderly.execFarInject {value : BitVec 32} (h : Orderly s t) : GoesOn s (execFarInject value t) :=
  .ite (.next h.raise) (.ite (.ite (.next h.setRegN.liveFrame) (.next (h.setRegN.foldl fun _ _ k => .ite k.setBmRow k)))
    (.next h.setRegN))

/-! Canter.lean. -/

theorem Orderly.xferMove {c : Nat} {x : Xfer} (h : Orderly s t) : ∀ {n : Nat}, Orderly s (xferMove t c x n)
  | 0 => h
  | _ + 1 => .ite h.xferMove.setCore h.xferMove.setMemN
theorem Orderly.xferPartial {c : Nat} {x : Xfer} (h : Orderly s t) : Orderly s (xferPartial t c x) := h.took.xferMove
theorem Orderly.chanFree {c ch : Nat} (h : Orderly s t) : Orderly s (chanFree t c ch) := h.setCore
theorem Orderly.endXfers {c : Nat} {bank : Bool} (h : Orderly s t) : Orderly s (endXfers t c bank) :=
  h.foldl fun _ _ k => k.xferPartial.chanFree
theorem Orderly.stopWith {c status : Nat} {issued : Bool} (h : Orderly s t) : Orderly s (stopWith t c status issued) := h.setCore
theorem Orderly.excMark {c pc ev : Nat} (h : Orderly s t) : Orderly s (excMark t c pc ev) := h.setFld.raise
theorem Orderly.coreReport {c slot status : Nat} (h : Orderly s t) : Orderly s (coreReport t c slot status) :=
  (h.setFld.raiseIf.count.ite (h.setFld.raiseIf.when (·.count))).reportOr
theorem Orderly.setPreempted {c : Nat} {slot : Option Nat} {v : Bool} (h : Orderly s t) : Orderly s (setPreempted t c slot v) := by
  unfold Machine.setPreempted
  split
  · split
    · exact h.setOp
    · exact h
  · exact h
theorem Orderly.resumeOrAsk {c : Nat} (h : Orderly s t) : Orderly s (resumeOrAsk t c) :=
  .ite h.setCore.raise.setPreempted h.setCore.bistTurn
theorem Orderly.finish {c status : Nat} (h : Orderly s t) : Orderly s (finish t c status) := by
  unfold Machine.finish; dsimp only
  refine .resumeOrAsk ?_
  split
  · exact (h.excMark.ite h).coreReport
  · exact .ite h.excMark h
theorem Orderly.settleOnce {c : Nat} (h : Orderly s t) : Orderly s (settleOnce t c) := by
  unfold Machine.settleOnce; dsimp only
  split
  · exact h
  · exact .ite h h.finish
  · exact .ite h (.ite h.stopWith.excMark h.setCore)
  · exact .ite h h.setCore
theorem Orderly.settleCore {c : Nat} (h : Orderly s t) : Orderly s (settleCore t c) := h.settleOnce.settleOnce.settleOnce
theorem Orderly.coreExcept {c code ev : Nat} (h : Orderly s t) : Orderly s (coreExcept t c code ev) := h.stopWith.excMark.settleCore
theorem Orderly.coreIllegal {c : Nat} (h : Orderly s t) : Orderly s (coreIllegal t c) := h.coreExcept
theorem Orderly.busyAdd {c n : Nat} (h : Orderly s t) : Orderly s (busyAdd t c n) := h.setRegN.setRegN
theorem Orderly.openSlot {c : Nat} {fresh : Bool} (h : Orderly s t) : Orderly s (openSlot t c fresh).1 :=
  .iteFst h (.iteFst h (.iteFst h.coreIllegal h.busyAdd.setCore))
theorem Orderly.slotOp {c : Nat} {fresh : Bool} {f : Bank → Bank} (h : Orderly s t) : Orderly s (slotOp t c fresh f) := by
  unfold Machine.slotOp
  split
  next u e => exact h.openSlot.of_fst e
  next u e => exact (h.openSlot.of_fst e).setCore
theorem Orderly.slotOr {c : Nat} {fresh : Bool} {bad : Bank → Bool} {f : Bank → Bank} (h : Orderly s t) : Orderly s
    (slotOr t c fresh bad f) :=
  by
  unfold Machine.slotOr
  split
  next u e => exact h.openSlot.of_fst e
  next u e => exact (h.openSlot.of_fst e).both (·.coreIllegal) (·.setCore)
theorem Orderly.loadGrant {c : Nat} {o : Op} (h : Orderly s t) : Orderly s (loadGrant t c o) :=
  .ite h.setCore.stopWith.excMark.settleCore h.setCore

/-! CanterOps.lean. -/

theorem Orderly.execNop {core : Fin 256} {fresh : Bool} (h : Orderly s t) : GoesOn s (execNop core fresh t) := .next h.slotOp
theorem Orderly.execCmac {core : Fin 256} {fresh : Bool} {k : Fin 4} {ra rb : Fin 32} {cj neg clr : Bool} (h : Orderly s t)
    : GoesOn s (execCmac core fresh k ra rb cj neg clr t) :=
  .next h.slotOp
theorem Orderly.execDrmac {core : Fin 256} {fresh : Bool} {k : Fin 4} {ra rb md : Fin 32} (h : Orderly s t) : GoesOn s
    (execDrmac core fresh k ra rb md t) :=
  .next h.slotOp
theorem Orderly.execPcmac {core : Fin 256} {fresh : Bool} {k : Fin 4} {ra rb md : Fin 32} (h : Orderly s t) : GoesOn s
    (execPcmac core fresh k ra rb md t) :=
  .next h.slotOp
theorem Orderly.execExt {core : Fin 256} {fresh : Bool} {k : Fin 4} {ra : Fin 32} {sh : Fin 64} {final sat clr : Bool} (h
    : Orderly s t) : GoesOn s (execExt core fresh k ra sh final sat clr t) :=
  .next h.slotOr
theorem Orderly.execAshr {core : Fin 256} {fresh : Bool} {k : Fin 4} {sh : Fin 64} (h : Orderly s t) : GoesOn s
    (execAshr core fresh k sh t) :=
  .next h.slotOr
theorem Orderly.execAld {core : Fin 256} {fresh : Bool} {k : Fin 4} {ra sh : Fin 32} (h : Orderly s t) : GoesOn s
    (execAld core fresh k ra sh t) :=
  .next h.slotOp
theorem Orderly.execAmov {core : Fin 256} {fresh : Bool} {k j : Fin 4} (h : Orderly s t) : GoesOn s (execAmov core fresh k j t) :=
  .next h.slotOp
theorem Orderly.execAadd {core : Fin 256} {fresh : Bool} {k j : Fin 4} (h : Orderly s t) : GoesOn s (execAadd core fresh k j t) :=
  .next h.slotOp
theorem Orderly.execCadd {core : Fin 256} {fresh : Bool} {ra rb md : Fin 32} (h : Orderly s t) : GoesOn s
    (execCadd core fresh ra rb md t) :=
  .next h.slotOp
theorem Orderly.execCsub {core : Fin 256} {fresh : Bool} {ra rb md : Fin 32} (h : Orderly s t) : GoesOn s
    (execCsub core fresh ra rb md t) :=
  .next h.slotOp
theorem Orderly.execCadds {core : Fin 256} {fresh : Bool} {ra rb md : Fin 32} (h : Orderly s t) : GoesOn s
    (execCadds core fresh ra rb md t) :=
  .next h.slotOp
theorem Orderly.execCsubs {core : Fin 256} {fresh : Bool} {ra rb md : Fin 32} (h : Orderly s t) : GoesOn s
    (execCsubs core fresh ra rb md t) :=
  .next h.slotOp
theorem Orderly.execConj {core : Fin 256} {fresh : Bool} {ra rb : Fin 32} (h : Orderly s t) : GoesOn s
    (execConj core fresh ra rb t) :=
  .next h.slotOp
theorem Orderly.execMov {core : Fin 256} {fresh : Bool} {ra rb : Fin 32} (h : Orderly s t) : GoesOn s (execMov core fresh ra rb t)
    :=
  .next h.slotOp
theorem Orderly.execLd {core : Fin 256} {fresh : Bool} {mem : Fin 3} {p : Fin 16} {d : Fin 32} {pm : Bool} (h : Orderly s t)
    : GoesOn s (execLd core fresh mem p d pm t) :=
  by
  unfold Machine.execLd; dsimp only
  split
  next u e => exact .next (h.openSlot.of_fst e)
  next u e => exact .next (h.openSlot.of_fst e).setCore
theorem Orderly.execSt {core : Fin 256} {fresh : Bool} {mem : Fin 2} {p : Fin 16} {d : Fin 32} {pm : Bool} (h : Orderly s t)
    : GoesOn s (execSt core fresh mem p d pm t) :=
  by
  unfold Machine.execSt; dsimp only
  split
  next u e => exact .next (h.openSlot.of_fst e)
  next u e => exact .next (h.openSlot.of_fst e).setCore
theorem Orderly.execRot {core : Fin 256} {fresh : Bool} (h : Orderly s t) : GoesOn s (execRot core fresh t) := .next h.slotOp
theorem Orderly.execClra {core : Fin 256} {fresh : Bool} {mask : Fin 16} (h : Orderly s t) : GoesOn s (execClra core fresh mask t)
    :=
  .next h.slotOp
theorem Orderly.execAsk {core : Fin 256} {fresh : Bool} {status : BitVec 8} (h : Orderly s t) : GoesOn s
    (execAsk core fresh status t) :=
  by
  unfold Machine.execAsk; dsimp only
  split
  next u e => exact .next (h.openSlot.of_fst e)
  next u e => exact .next (h.openSlot.of_fst e).stopWith.settleCore.feedHard
theorem Orderly.execWait {core : Fin 256} {fresh : Bool} {mask : Fin 16} (h : Orderly s t) : GoesOn s (execWait core fresh mask t)
    :=
  by
  unfold Machine.execWait; dsimp only
  split
  next u e => exact .next (h.openSlot.of_fst e)
  next u e => exact .ite (.next (h.openSlot.of_fst e)) (.next (h.openSlot.of_fst e).setCore.settleCore)
theorem Orderly.startLoop {c : Nat} {lc rot : Bool} {body count : Nat} (h : Orderly s t) : Orderly s
    (startLoop t c lc rot body count) :=
  .ite h.coreIllegal (.ite h.setCore h.setCore)
theorem Orderly.execLoop {core : Fin 256} {fresh lc rot : Bool} {body : BitVec 12} {count : BitVec 16} (h : Orderly s t) : GoesOn s
    (execLoop core fresh lc rot body count t) :=
  by
  unfold Machine.execLoop
  split
  next u e => exact .next (h.openSlot.of_fst e)
  next u e => exact .next (h.openSlot.of_fst e).startLoop
theorem Orderly.execLoopr {core : Fin 256} {fresh lc rot : Bool} {body : BitVec 12} {d : Fin 32} (h : Orderly s t) : GoesOn s
    (execLoopr core fresh lc rot body d t) :=
  by
  unfold Machine.execLoopr
  split
  next u e => exact .next (h.openSlot.of_fst e)
  next u e => exact .next (h.openSlot.of_fst e).startLoop
theorem Orderly.execBr {core : Fin 256} {fresh : Bool} {cond : Fin 8} {d : Fin 32} {target : BitVec 12} (h : Orderly s t)
    : GoesOn s (execBr core fresh cond d target t) :=
  .next h.slotOr
theorem Orderly.execMovil {core : Fin 256} {fresh : Bool} {d : Fin 32} {imm : BitVec 16} (h : Orderly s t) : GoesOn s
    (execMovil core fresh d imm t) :=
  .next h.slotOp
theorem Orderly.execMovih {core : Fin 256} {fresh : Bool} {d : Fin 32} {imm : BitVec 16} (h : Orderly s t) : GoesOn s
    (execMovih core fresh d imm t) :=
  .next h.slotOp
theorem Orderly.execAddp {core : Fin 256} {fresh : Bool} {n m : Fin 16} {imm : BitVec 24} (h : Orderly s t) : GoesOn s
    (execAddp core fresh n m imm t) :=
  .next h.slotOp
theorem Orderly.execAddpd {core : Fin 256} {fresh : Bool} {n m : Fin 16} {d : Fin 32} (h : Orderly s t) : GoesOn s
    (execAddpd core fresh n m d t) :=
  .next h.slotOp
theorem Orderly.execMovpd {core : Fin 256} {fresh : Bool} {n : Fin 16} {da db : Fin 32} (h : Orderly s t) : GoesOn s
    (execMovpd core fresh n da db t) :=
  .next h.slotOp
theorem Orderly.execSetm {core : Fin 256} {fresh : Bool} {n : Fin 16} {size : BitVec 4} {step : BitVec 16} (h : Orderly s t)
    : GoesOn s (execSetm core fresh n size step t) :=
  .next h.slotOp
theorem Orderly.execSetrm {core : Fin 256} {fresh : Bool} {rm : Fin 4} (h : Orderly s t) : GoesOn s (execSetrm core fresh rm t) :=
  .next h.slotOr
theorem Orderly.startXfer {c ch : Nat} {x : Xfer} (h : Orderly s t) : Orderly s (startXfer t c ch x) :=
  .ite h (.ite h.setCore h.setCore)
theorem Orderly.execGet {core : Fin 256} {fresh : Bool} {ch : Fin 4} {ps pl : Fin 16} {mem : Fin 4} {len : BitVec 16} (h
    : Orderly s t) : GoesOn s (execGet core fresh ch ps pl mem len t) :=
  by
  unfold Machine.execGet
  split
  next u e => exact .next (h.openSlot.of_fst e)
  next u e => exact .ite (.next (h.openSlot.of_fst e).coreIllegal) (.next (h.openSlot.of_fst e).startXfer)
theorem Orderly.execPut {core : Fin 256} {fresh : Bool} {ch : Fin 4} {pd pl : Fin 16} {mem : Fin 4} {len : BitVec 16} (h
    : Orderly s t) : GoesOn s (execPut core fresh ch pd pl mem len t) :=
  by
  unfold Machine.execPut
  split
  next u e => exact .next (h.openSlot.of_fst e)
  next u e => exact .ite (.next (h.openSlot.of_fst e).coreIllegal) (.next (h.openSlot.of_fst e).startXfer)
theorem Orderly.execIdle {core : Fin 256} {fresh : Bool} {n : BitVec 8} (h : Orderly s t) : GoesOn s (execIdle core fresh n t) :=
  .next h.slotOp
theorem Orderly.execIllegal {core : Fin 256} (h : Orderly s t) : GoesOn s (execIllegal core t) :=
  .ite (.next h.setCore.coreIllegal.feedHard) (.next h)
theorem Orderly.xferEnd {c ch : Nat} {get : Bool} {noc : Nat} (h : Orderly s t) : Orderly s (xferEnd t c ch get noc) := by
  unfold Machine.xferEnd; dsimp only
  split
  · exact h
  · exact ((h.xferMove.ite h.xferPartial).chanFree.whenNot (·.setCore)).settleCore
theorem Orderly.execGetComplete {core : Fin 256} {ch : Fin 4} {noc : Fin 8} (h : Orderly s t) : GoesOn s
    (execGetComplete core ch noc t) :=
  .next h.xferEnd.feedHard
theorem Orderly.execPutComplete {core : Fin 256} {ch : Fin 4} {noc : Fin 8} (h : Orderly s t) : GoesOn s
    (execPutComplete core ch noc t) :=
  .next h.xferEnd.feedHard
theorem Orderly.execGrantLoad {core : Fin 256} (h : Orderly s t) : GoesOn s (execGrantLoad core t) := by
  unfold Machine.execGrantLoad; dsimp only
  split
  · exact .next h
  · split
    · exact .next h.setCore
    · exact .ite (.next h.setCore.loadGrant) (.next h.setCore.setOp.raise)
theorem Orderly.execPreemptSwitch {core : Fin 256} (h : Orderly s t) : GoesOn s (execPreemptSwitch core t) := by
  unfold Machine.execPreemptSwitch; dsimp only
  split
  · exact .next h
  · refine .ite ?_ ?_
    · split
      · exact .next h.setCore
      · exact .next h.setCore.setPreempted.setCore.raise.count.loadGrant
    · refine .ite ?_ ?_
      · split
        · exact .next h.setCore
        · exact .next h.setCore.loadGrant
      · refine .ite ?_ (.next h)
        split
        · exact .next h.setCore
        · exact .next h.setCore.setOp.raise
theorem Orderly.execAbandon {core : Fin 256} (h : Orderly s t) : GoesOn s (execAbandon core t) := by
  unfold Machine.execAbandon; dsimp only
  split
  · exact .next h
  · exact .ite (.next h.setCore.endXfers.raise.count.resumeOrAsk) (.ite (.next h.setCore.endXfers.setCore.raise.count)
      (.next h.setCore))
theorem Orderly.execCaImemWrite {team : Fin 4} {word : Fin 8192} {value : BitVec 32} (h : Orderly s t) : GoesOn s
    (execCaImemWrite team word value t) :=
  .next (h.foldl fun _ _ k => k.setCore).raiseIf
theorem Orderly.saveCore {c : Nat} (h : Orderly s t) : Orderly s (saveCore t c) := h.setBytes.setBytes.setCore
theorem Orderly.execSaveDone (h : Orderly s t) : GoesOn s (execSaveDone t) :=
  .ite (.next ((h.foldl fun _ _ k => .ite k k.saveCore).setFlag.setFld.setFld.foldl fun _ _ k => k.setFld).raise) (.next h)
theorem Orderly.restoreCore {c : Nat} (h : Orderly s t) : Orderly s (restoreCore t c) := h.setCore
theorem Orderly.execRestoreDone (h : Orderly s t) : GoesOn s (execRestoreDone t) :=
  .ite (.next (h.foldl fun _ _ k => .ite k.restoreCore k).setFlag.setFld.raise) (.next h)


/-! Ethernet.lean. -/

theorem Orderly.setMac {m : Nat} {x : Mac} (h : Orderly s t) : Orderly s (setMac t m x) := h.setLane
theorem Orderly.ethCount {m k : Nat} (h : Orderly s t) : Orderly s (ethCount t m k) := h.count
theorem Orderly.macDrop {m : Nat} (h : Orderly s t) : Orderly s (macDrop t m) :=
  .ite (h.setMac.foldl fun _ _ k => k.setRegN) (h.setMac.foldl fun _ _ k => k.setRegN).countBy.raise
theorem Orderly.linkSet {m : Nat} {up : Bool} (h : Orderly s t) : Orderly s (linkSet t m up) :=
  .ite h (.ite (.ite (.ite (h.setRegN.raise.whenNot (·.macDrop)).setFlag.raise (h.setRegN.raise.whenNot (·.macDrop))) (.ite
    (h.setRegN.raise.whenNot (·.macDrop)).setFlag.raise (h.setRegN.raise.whenNot (·.macDrop)))) (h.setRegN.raise.whenNot
    (·.macDrop)))
theorem Orderly.ethCfg {m v : Nat} (h : Orderly s t) : Orderly s (ethCfg t m v) :=
  .ite (.ite h.setFlag h.setFlag.linkSet.setFlag) h.setRegN.raiseIf
theorem Orderly.execEthEnable {m : Fin 8} {value : BitVec 32} (h : Orderly s t) : GoesOn s (execEthEnable m value t) :=
  .next h.ethCfg
theorem Orderly.execLinkChg {m : Fin 8} {up : Bool} (h : Orderly s t) : GoesOn s (execLinkChg m up t) :=
  .ite (.next h) (.next h.linkSet)
theorem Orderly.setTxQueue {m q : Nat} {l : List (Nat × Nat)} (h : Orderly s t) : Orderly s (setTxQueue t m q l) := h.setMac.setRegN
theorem Orderly.txEnter {m q addr len : Nat} (h : Orderly s t) : Orderly s (txEnter t m q addr len) :=
  .ite h.ethCount.raise (.ite h.ethCount h.setTxQueue)
theorem Orderly.ethRelease {relId addr len : Nat} (h : Orderly s t) : Orderly s (ethRelease t relId addr len) :=
  .ite h.count.raise (.ite h.ethCount.raise h.txEnter)
theorem Orderly.execEthTxpPush {m : Fin 8} {value : BitVec 32} (h : Orderly s t) : GoesOn s (execEthTxpPush m value t) :=
  .ite (.next h.setFlag) (.next h.setFlag.txEnter)
theorem Orderly.execEthTxStart {m noc : Fin 8} (h : Orderly s t) : GoesOn s (execEthTxStart m noc t) := by
  unfold Machine.execEthTxStart; dsimp only
  refine .ite (.next h) ?_
  split
  · exact .next h
  · split
    · exact .next h
    · exact .ite (.next h.setTxQueue.ethCount.raise) (.next h.setTxQueue.setMac)
theorem Orderly.txtsPush {m q tl typ seq : Nat} {skipped : Bool} (h : Orderly s t) : Orderly s (txtsPush t m q tl typ seq skipped)
    :=
  .ite h.ethCount.raise h.setMac.setRegN.raise
theorem Orderly.execEthTxFrameDone {m noc : Fin 8} {ofs : BitVec 18} (h : Orderly s t) : GoesOn s (execEthTxFrameDone m noc ofs t)
    :=
  by
  unfold Machine.execEthTxFrameDone; dsimp only
  split
  · exact .next h
  · refine .ite (.next h.setMac.ethCount.raise.answer) ?_
    split
    · exact .next h.setMac.ethCount.answer
    · exact .ite (.next h.setMac.ethCount.txtsPush.answer) (.ite (.ite (.next h.setMac.ethCount.ethCount.answer)
        (.next h.setMac.ethCount.txtsPush.answer)) (.next h.setMac.ethCount.answer))
theorem Orderly.execEthTxtsRead {m : Fin 8} {init : Fin 512} (h : Orderly s t) : GoesOn s (execEthTxtsRead m init t) :=
  .ite (.next h.answer) (.next h.answer.setMac.setRegN)
theorem Orderly.rxPlace {m q : Nat} {l : List Byte} {tl : Nat} {fec : Bool} (h : Orderly s t) : Orderly s (rxPlace t m q l tl fec)
    :=
  .ite h.ethCount.raise (.ite h.ethCount h.viewWrite.viewWrite.setRegN.ethCount)
theorem Orderly.execEthRxFrame {m : Fin 8} {frame : List Byte} {fcs : Bool} {corr unc : BitVec 16} {ofs : BitVec 18} (h
    : Orderly s t) : GoesOn s (execEthRxFrame m frame fcs corr unc ofs t) :=
  .ite (.next h) (.ite (.next (h.countBy.ite h.countBy.countBy.raise).ethCount.raise) (.ite (.next
    (h.countBy.ite h.countBy.countBy.raise).ethCount) (.ite (.next (h.countBy.ite h.countBy.countBy.raise).ethCount) (.ite (.next
    (.ite h.countBy h.countBy.countBy.raise)) (.next ((h.countBy.ite h.countBy.countBy.raise).when (·.ethCount.raise)).rxPlace)))))
theorem Orderly.mgtCount {k : Nat} (h : Orderly s t) : Orderly s (mgtCount t k) := h.count
theorem Orderly.mgtCfg {v : Nat} (h : Orderly s t) : Orderly s (mgtCfg t v) :=
  (h.setRegN.setLane.ite h.setRegN).when (·.setRegN.raise)
theorem Orderly.execMgtLinkChg {up : Bool} {speed : Fin 4} {an fault : Bool} (h : Orderly s t) : GoesOn s
    (execMgtLinkChg up speed an fault t) :=
  .ite (.next h) (.next h.setRegN.raise)
theorem Orderly.execMgtRxFrame {frame : List Byte} {fcs : Bool} (h : Orderly s t) : GoesOn s (execMgtRxFrame frame fcs t) :=
  .ite (.next h) (.ite (.next h.mgtCount) (.ite (.next h.mgtCount) (.ite (.next h.mgtCount) (.ite (.next h.mgtCount)
    (.next h.setBytes.setBytes.setRegN.mgtCount.raise)))))
theorem Orderly.execMgtTxProdWrite {value : BitVec 32} (h : Orderly s t) : GoesOn s (execMgtTxProdWrite value t) := .next h.setRegN
theorem Orderly.execMgtTxFrame (h : Orderly s t) : GoesOn s (execMgtTxFrame t) :=
  .ite (.next h) (.ite (.next h.setRegN.mgtCount) (.next h.setRegN.mgtCount.answer))

/-! Reset.lean. -/

theorem Orderly.powerDown (h : Orderly s t) : Orderly s (powerDown t) := h.trans ⟨rfl, swf_filter _, memWf_powerDown⟩
theorem Orderly.seqNext (h : Orderly s t) : Orderly s (seqNext t) := by
  unfold Machine.seqNext
  split
  · exact h.setFld
  · exact h

/-- What a system reset keeps before it looks at the domains. -/
theorem Orderly.filtered {f : Nat × Word → Bool} (h : Orderly s t) (hp : u.pending = t.pending)
    (hr : u.regs = t.regs.filter f) (hm : u.mem = t.mem) : Orderly s u :=
  h.trans ⟨hp, fun k => hr ▸ swf_filter f k, fun k => hm ▸ k⟩
theorem Orderly.systemReset {cause : Nat} (h : Orderly s t) : Orderly s (systemReset t cause) := by
  unfold Machine.systemReset
  exact ((h.filtered (by rfl) (by rfl) (by rfl)).foldl fun _ _ k => k.setFld).setFlag.setRegN.otpRead.outStat

/-! Power.lean. -/

theorem Orderly.bootStart {strap : Nat} (h : Orderly s t) : Orderly s (bootStart t strap) :=
  ((h.setRegN.raise.ite h).setRegN.setRegN.foldl fun _ _ k => k.setFld).setPw.setDbg.setRegN.calPowerUp.otpRead
theorem Orderly.execPorRelease {mode : BitVec 3} {pull rails : Bool} (h : Orderly s t) : GoesOn s
    (execPorRelease mode pull rails t) :=
  .ite (.next h) (.ite (.next h.bootStart) (.next h.setPw))
theorem Orderly.execRailMonitorRelease (h : Orderly s t) : GoesOn s (execRailMonitorRelease t) := by
  unfold Machine.execRailMonitorRelease
  split
  · exact .ite (.next h.bootStart) (.next h)
  · exact .next h
theorem Orderly.execSrstN (h : Orderly s t) : GoesOn s (execSrstN t) := .ite (.next h) (.next h.systemReset)
theorem Orderly.execPorNLow (h : Orderly s t) : GoesOn s (execPorNLow t) := .next (.ite h.powerDown.setRegN h.powerDown)
theorem Orderly.execMainPowerLoss (h : Orderly s t) : GoesOn s (execMainPowerLoss t) := .next h.setPw.powerDown.setRegN.setFld
theorem Orderly.execMainPowerReturn (h : Orderly s t) : GoesOn s (execMainPowerReturn t) := .next h.setPw
theorem Orderly.fsynBoot {n : Nat} (h : Orderly s t) : Orderly s (fsynBoot t n) := h.setRegN.setFsyn.setRegN.setRegN.setRegN.setRegN
theorem Orderly.execTimingPllLock {hzA hzB : Option (BitVec 32)} {cyc : Fin 32768} (h : Orderly s t) : GoesOn s
    (execTimingPllLock hzA hzB cyc t) :=
  .ite (.next h) (.ite (.next h.setRegN.setRegN.setFlag.setFlag) (.next (h.setRegN.setRegN.setFlag.setFlag.setFlag.setTim.foldl fun
    _ _ k => k.fsynBoot).hoRestore.setPw.seqNext))
theorem Orderly.domOff {d : Nat} (h : Orderly s t) : Orderly s (domOff t d) := .ite h.takePads (.ite h.setCan.setFlag h)
theorem Orderly.domOn {d : Nat} (h : Orderly s t) : Orderly s (domOn t d) := .ite (h.setFlag.foldl fun _ _ k => .ite k.setCore k) h
theorem Orderly.sleepOver (h : Orderly s t) : Orderly s (sleepOver t) :=
  ((((h.foldl fun _ _ k => k.spGo).setNoc.foldl fun _ _ k => .ite k.setFlag.setChan k).foldl fun _ _ k => .ite k
    k.setFld).setPw.ite h).when (·.setFlag)
theorem Orderly.execPdSwitchDone {d : Fin 35} (h : Orderly s t) : GoesOn s (execPdSwitchDone d t) :=
  .ite (.next h) (.ite (.next h.setFld.domOn.setPw.seqNext) (.ite (.next h.setFld.domOff) (.next h.setFld.domOn.sleepOver)))
theorem Orderly.pdCtl {d : Nat} {off : Bool} (h : Orderly s t) : Orderly s (pdCtl t d off) :=
  .ite (.ite h.setFlag.setFld h.raise) (.ite (.ite h.setFlag.setFld h.setFlag) h)
theorem Orderly.execPdOffReq {d : Fin 35} {value : BitVec 32} (h : Orderly s t) : GoesOn s (execPdOffReq d value t) := .next h.pdCtl
theorem Orderly.setRail {k : Nat} {r : Rail} (h : Orderly s t) : Orderly s (setRail t k r) := h.setPw
theorem Orderly.setRailV {k v : Nat} (h : Orderly s t) : Orderly s (setRailV t k v) := h.setFld.setRail
theorem Orderly.replanRail {k : Nat} (h : Orderly s t) : Orderly s (replanRail t k) :=
  h.took.took.setRegN.setRegN.setRegN.raiseIf.setPw.setRail
theorem Orderly.replan (h : Orderly s t) : Orderly s (replan t) := (h.foldl fun _ _ k => k.replanRail).setPw.raise
theorem Orderly.execAgePeriodReplan (h : Orderly s t) : GoesOn s (execAgePeriodReplan t) := .ite (.next h.replan) (.next h)
theorem Orderly.agePpm {f r : Nat} (h : Orderly s t) : Orderly s (agePpm t f r).1 := .iteFst h.took h
theorem Orderly.execAgeMeasure {counts : List (Fin 24 × BitVec 32 × BitVec 32)} (h : Orderly s t) : GoesOn s
    (execAgeMeasure counts t) :=
  .next (h.foldl fun _ _ k => .ite k.agePpm.setRegN k).count.setPw
theorem Orderly.cmdRefused (h : Orderly s t) : Orderly s (cmdRefused t) := h.raise
theorem Orderly.cmdRelease (h : Orderly s t) : Orderly s (cmdRelease t) := .ite h.setFlag.moveMode h.cmdRefused
theorem Orderly.cmdRecommission (h : Orderly s t) : Orderly s (cmdRecommission t) := .ite h.setFlag.moveMode h.cmdRefused
theorem Orderly.cmdLeaveSafe (h : Orderly s t) : Orderly s (cmdLeaveSafe t) := .ite h.setFlag.enterMode.gateSettle h.cmdRefused
theorem Orderly.cmdStable (h : Orderly s t) : Orderly s (cmdStable t) := .ite h.cmdRefused.raise h.setPw.setFld
theorem Orderly.disarm (h : Orderly s t) : Orderly s (disarm t) := h.setFld.setPw
theorem Orderly.pwrCmd {v : Nat} (h : Orderly s t) : Orderly s (pwrCmd t v) := by
  unfold Machine.pwrCmd
  refine .ite h ?_
  split
  · exact h
  · exact h.cmdRelease
  · exact h.cmdRecommission
  · exact h.cmdLeaveSafe
  · exact h.cmdStable
  · exact .ite h.disarm h
  · exact .ite h.setPw h
  · exact h.systemReset
  · exact h.replan
  · exact h.cmdRefused
theorem Orderly.execRelease {value : BitVec 32} (h : Orderly s t) : GoesOn s (execRelease value t) := .next h.pwrCmd
theorem Orderly.execRecommission {value : BitVec 32} (h : Orderly s t) : GoesOn s (execRecommission value t) := .next h.pwrCmd
theorem Orderly.execLeaveSafe {value : BitVec 32} (h : Orderly s t) : GoesOn s (execLeaveSafe value t) := .next h.pwrCmd
theorem Orderly.execStable {value : BitVec 32} (h : Orderly s t) : GoesOn s (execStable value t) := .next h.pwrCmd
theorem Orderly.execCancel {value : BitVec 32} (h : Orderly s t) : GoesOn s (execCancel value t) := .next h.pwrCmd
theorem Orderly.execWakeNow {value : BitVec 32} (h : Orderly s t) : GoesOn s (execWakeNow value t) := .next h.pwrCmd
theorem Orderly.execReset {value : BitVec 32} (h : Orderly s t) : GoesOn s (execReset value t) := .next h.pwrCmd
theorem Orderly.execReplan {value : BitVec 32} (h : Orderly s t) : GoesOn s (execReplan value t) := .next h.pwrCmd
theorem Orderly.execStableEntry (h : Orderly s t) : GoesOn s (execStableEntry t) :=
  .ite (.next h) (.ite (.next h.bistStop.enterMode.setFld.setFlag) (.next h.disarm.raise))
theorem Orderly.railsRet (h : Orderly s t) : Orderly s (railsRet t) := h.foldl fun _ _ k => .ite k.setFld.setRail k
theorem Orderly.execStableAsleep (h : Orderly s t) : GoesOn s (execStableAsleep t) :=
  .ite (.next h) (.next ((((h.impSettle.rollPause.setNoc.foldl fun _ _ k => k.spGo).foldl fun _ _ k => .ite k.setFlag k).foldl fun
    _ _ k => .ite k.setFld k).setFld.ite (((h.impSettle.rollPause.setNoc.foldl fun _ _ k => k.spGo).foldl fun _ _ k => .ite
    k.setFlag k).foldl fun _ _ k => .ite k.setFld k)).setPw.railsRet.setFld.raise)
theorem Orderly.execStableWakeEvent {cause : Fin 4} (h : Orderly s t) : GoesOn s (execStableWakeEvent cause t) :=
  .ite (.next h.wakeStart.setPw) (.next h)
theorem Orderly.execWakeUngate (h : Orderly s t) : GoesOn s (execWakeUngate t) :=
  .ite (.next h) (.ite (.next h.sleepOver.setPw.setFlag.raise.setFlag.latchClass) (.next h.sleepOver.setPw))
theorem Orderly.execStableExit (h : Orderly s t) : GoesOn s (execStableExit t) :=
  .ite (.next h) (.next (h.sleepOver.setPw.react.enterMode.unstand.ite (h.sleepOver.setPw.when (·.enterMode))).setFld.rollResume)
theorem Orderly.canaryTake {c v : Nat} (h : Orderly s t) : Orderly s (canaryTake t c v) := h.setPw
theorem Orderly.linkFail (h : Orderly s t) : Orderly s (linkFail t) := h.count.raise
theorem Orderly.railLoop {codes : List (Fin 592 × BitVec 8)} {k : Nat} (h : Orderly s t) : Orderly s (railLoop t codes k) := by
  unfold Machine.railLoop; dsimp only
  split
  · exact h
  · exact h.setRail.setRailV.setFld.took.when (·.raise.detect)
theorem Orderly.execAvsLoop {codes : List (Fin 592 × BitVec 8)} {bad : BitVec 8} (h : Orderly s t) : GoesOn s
    (execAvsLoop codes bad t) :=
  .ite (.next (h.foldl fun _ _ k => k.canaryTake)) (.ite (.next ((h.foldl fun _ _ k => k.canaryTake).foldl fun _ _ k => .ite
    k.linkFail (.ite k.railLoop k)).unstand) (.next ((h.foldl fun _ _ k => k.canaryTake).foldl fun _ _ k => .ite k.linkFail
    (.ite k.railLoop k))))
theorem Orderly.execCanaryTrip {canary : Fin 592} (h : Orderly s t) : GoesOn s (execCanaryTrip canary t) := by
  unfold Machine.execCanaryTrip; dsimp only
  split
  · exact .ite (.next h.canaryTake.setRailV.count.raise) (.next h.canaryTake)
  · exact .next h.canaryTake
theorem Orderly.execPmbusAlert {bad : BitVec 8} (h : Orderly s t) : GoesOn s (execPmbusAlert bad t) :=
  .ite (.next h) (.next (h.foldl fun _ _ k => k.linkFail).raise)
theorem Orderly.railCfg {k v : Nat} {linear : Bool} (h : Orderly s t) : Orderly s (railCfg t k v linear) :=
  .ite h.raise (.ite h.setRegN (.ite h.setRegN.raise h.setRegN.setRail.setFlag))
theorem Orderly.execAvsRailEnable {k : Fin 8} {value : BitVec 32} {linear : Bool} (h : Orderly s t) : GoesOn s
    (execAvsRailEnable k value linear t) :=
  .next h.railCfg



/-! Halt.lean. -/

theorem Orderly.unlockHold {p : Nat} {halt : Bool} (h : Orderly s t) : Orderly s (unlockHold t p halt) := h.setSvc
theorem Orderly.wdtCount {p : Nat} (h : Orderly s t) : Orderly s (wdtCount t p).1 := .iteFst h (.iteFst h h.took.setRegN)
theorem Orderly.haltPair {p : Nat} (h : Orderly s t) : Orderly s (haltPair t p) :=
  .ite h (h.wdtCount.unlockHold.setDbg.raise.whenNot (·.detect))
theorem Orderly.resumePair {p : Nat} (h : Orderly s t) : Orderly s (resumePair t p) :=
  .ite h (h.setDbg.unlockHold.setFld.raise.when (·.unstand))
theorem Orderly.bistYield {c : Nat} (h : Orderly s t) : Orderly s (bistYield t c) := by
  unfold Machine.bistYield
  split
  · exact .ite h.bistStop h
  · exact h
theorem Orderly.haltCore {c : Nat} (h : Orderly s t) : Orderly s (haltCore t c) := by
  unfold Machine.haltCore; dsimp only
  exact h.bistYield.endXfers.endXfers.setCore.reinBack.setCore.raise.feedHard
theorem Orderly.resumeCore {c : Nat} (h : Orderly s t) : Orderly s (resumeCore t c) := .ite h.setCore h
theorem Orderly.levelMoved {old : Nat} (h : Orderly s t) : Orderly s (levelMoved t old) :=
  .ite (.ite ((h.raiseIf.foldl fun _ _ k => k.resumePair).foldl fun _ _ k => k.resumeCore)
    (h.raiseIf.foldl fun _ _ k => k.resumePair)) h.raiseIf
theorem Orderly.grantLevel {l : Nat} (h : Orderly s t) : Orderly s (grantLevel t l) := h.setSec.levelMoved

/-! Security.lean. -/

theorem Orderly.burn {a : Nat} {l : List Byte} {fail : Bool} (h : Orderly s t) : Orderly s (burn t a l fail).1 :=
  .iteFst h.drawBytes.otpBurn.raise h.otpBurn
theorem Orderly.burn3 {a v : Nat} {fail : Bool} (h : Orderly s t) : Orderly s (burn3 t a v fail).1 :=
  .iteFst h.took.otpBurn.burn h.otpBurn
theorem Orderly.burnLife {c : Nat} {fail : Bool} (h : Orderly s t) : Orderly s (burnLife t c fail).1 := .ite h.burn3.tamper h.burn3
theorem Orderly.redraw (h : Orderly s t) : Orderly s (redraw t) := by
  unfold Machine.redraw; dsimp only
  exact .ite h.drawBytes.setRegN.setRegN h
theorem Orderly.cmdEnd {cmd code : Nat} (h : Orderly s t) : Orderly s (cmdEnd t cmd code) := h.setRegN.raise
theorem Orderly.eraseAsk {c : Nat} (h : Orderly s t) : Orderly s (eraseAsk t c) := h.setSec
theorem Orderly.cmdAct {cmd slot level : Nat} {arg : List Byte} {fail : Bool} (h : Orderly s t) : Orderly s
    (cmdAct t cmd slot level arg fail).1 :=
  by
  unfold Machine.cmdAct; dsimp only
  split
  · exact .iteFst h.burn.burn3.secShow h.burn.secShow
  · exact (h.burn3.tamper.ite h.burn3).secShow
  · exact h.burnLife.secShow
  · exact h.burnLife.secShow
  · exact (h.burn3.eraseAsk.ite h.burn3).secShow
  · exact h.eraseAsk
  · exact (h.burn.tamper.ite h.burn).secShow
  · exact h.grantLevel.tamper.raise
  · exact .iteFst h (.iteFst h.burn3.drawBytes.otpBurn.setSec.setFlag.setRegN.tamper.secShow h.burn3.secShow)
  · exact .iteFst h.burn3.secShow h
theorem Orderly.ownerExec {fail : Bool} (h : Orderly s t) : Orderly s (ownerExec t fail) := by
  unfold Machine.ownerExec; dsimp only
  refine .ite h.raise (.ite h.cmdEnd (.ite h.redraw.cmdEnd (.ite h.redraw.tamper.cmdEnd (.ite h.redraw.cmdEnd ?_))))
  exact .ite h.redraw.raiseIf.cmdEnd (.ite h.redraw.cmdAct.cmdEnd (.ite h.redraw.cmdAct.setRegN
    (h.redraw.cmdAct.cmdEnd.when (·.systemReset))))
theorem Orderly.ownerCmd {cmd : Nat} {fail : Bool} (h : Orderly s t) : Orderly s (ownerCmd t cmd fail) := .ite h.ownerExec h
theorem Orderly.execAddSlot {fail : Bool} (h : Orderly s t) : GoesOn s (execAddSlot fail t) := .next h.ownerCmd
theorem Orderly.execRevoke {fail : Bool} (h : Orderly s t) : GoesOn s (execRevoke fail t) := .next h.ownerCmd
theorem Orderly.execOwn {fail : Bool} (h : Orderly s t) : GoesOn s (execOwn fail t) := .next h.ownerCmd
theorem Orderly.execDeploy {fail : Bool} (h : Orderly s t) : GoesOn s (execDeploy fail t) := .next h.ownerCmd
theorem Orderly.execReturn {fail : Bool} (h : Orderly s t) : GoesOn s (execReturn fail t) := .next h.ownerCmd
theorem Orderly.execScrap {fail : Bool} (h : Orderly s t) : GoesOn s (execScrap fail t) := .next h.ownerCmd
theorem Orderly.execArbSet {fail : Bool} (h : Orderly s t) : GoesOn s (execArbSet fail t) := .next h.ownerCmd
theorem Orderly.execDebugGrant {fail : Bool} (h : Orderly s t) : GoesOn s (execDebugGrant fail t) := .next h.ownerCmd
theorem Orderly.execAttKeygen {fail : Bool} (h : Orderly s t) : GoesOn s (execAttKeygen fail t) := .next h.ownerCmd
theorem Orderly.execBridleSet {fail : Bool} (h : Orderly s t) : GoesOn s (execBridleSet fail t) := .next h.ownerCmd
theorem Orderly.execKeygenDone {fail : Bool} (h : Orderly s t) : GoesOn s (execKeygenDone fail t) := by
  unfold Machine.execKeygenDone; dsimp only
  split
  · exact .next h
  · exact .next h.burn.setSec.setFlag.secShow.raiseIf
theorem Orderly.setKeyBuf {l : List Byte} (h : Orderly s t) : Orderly s (setKeyBuf t l) := h.foldl fun _ _ k => k.setRegN
theorem Orderly.putKey {cls slot : Nat} {k : List Byte} (h : Orderly s t) : Orderly s (putKey t cls slot k) := by
  unfold Machine.putKey
  split
  · exact h.setSec
  · exact h.setSec
  · exact h.setSec.setFlag
theorem Orderly.wrapKey {cls : Nat} {k : List Byte} (h : Orderly s t) : Orderly s (wrapKey t cls k).1 := by
  unfold Machine.wrapKey; dsimp only
  exact h.drawBytes
theorem Orderly.keyLoad {cls slot : Nat} {k : List Byte} (h : Orderly s t) : Orderly s (keyLoad t cls slot k).1 :=
  .iteFst h.setFld (.iteFst h.setFld.raise (.iteFst h h.setFld.wrapKey.putKey))
theorem Orderly.keyUnwrap {cls slot : Nat} {blob : List Byte} (h : Orderly s t) : Orderly s (keyUnwrap t cls slot blob).1 := by
  unfold Machine.keyUnwrap
  refine .iteFst h.setFld ?_
  refine .iteFst h.setFld.raise ?_
  split
  · exact h.setFld.putKey
  · exact h.setFld.raise
theorem Orderly.keyCmd {v : Nat} (h : Orderly s t) : Orderly s (keyCmd t v) := by
  unfold Machine.keyCmd; dsimp only
  split
  · exact h.keyLoad.setKeyBuf
  · exact h.keyUnwrap.setKeyBuf
  · exact (h.setFld.ite (.ite h.setFld.raise h.setFld.putKey)).setKeyBuf
  · exact h.setFld.setKeyBuf
theorem Orderly.execKeyLoad {value : BitVec 32} (h : Orderly s t) : GoesOn s (execKeyLoad value t) := .next h.keyCmd
theorem Orderly.execKeyUnwrap {value : BitVec 32} (h : Orderly s t) : GoesOn s (execKeyUnwrap value t) := .next h.keyCmd
theorem Orderly.execKeyClear {value : BitVec 32} (h : Orderly s t) : GoesOn s (execKeyClear value t) := .next h.keyCmd
theorem Orderly.setAttIdx {n : Nat} (h : Orderly s t) : Orderly s (setAttIdx t n) :=
  .ite h.setRegN.setFlag.raise (.ite h.setRegN.setFlag h.setRegN)
theorem Orderly.attBoot (h : Orderly s t) : Orderly s (attBoot t) := h.setRegN.setAttIdx
theorem Orderly.attRecord (h : Orderly s t) : Orderly s (attRecord t) := h.setSec
theorem Orderly.execAttTokenGain (h : Orderly s t) : GoesOn s (execAttTokenGain t) := .next h.setRegN
theorem Orderly.execBucketRecord (h : Orderly s t) : GoesOn s (execBucketRecord t) := .next h.attRecord
theorem Orderly.attRequest {challenge : List Byte} (h : Orderly s t) : Orderly s (attRequest t challenge).1 :=
  .iteFst h (.iteFst h (.iteFst h (.iteFst h.raise (.iteFst h.raise h.setSec))))
theorem Orderly.execAttestChallenge {challenge : List Byte} (h : Orderly s t) : GoesOn s (execAttestChallenge challenge t) :=
  .next h.attRequest
theorem Orderly.attSign {fail : Bool} (h : Orderly s t) : Orderly s (attSign t fail).1 := by
  unfold Machine.attSign; dsimp only
  split
  · exact h
  · exact .iteFst h.setSec.burn h.setSec.burn.setRegN.setAttIdx.attRecord.setSec
theorem Orderly.execTrngFail (h : Orderly s t) : GoesOn s (execTrngFail t) := .next h.setFlag.raise
theorem Orderly.execTrngOk (h : Orderly s t) : GoesOn s (execTrngOk t) := .next h.setFlag
theorem Orderly.execSecRngRead {init : Fin 512} (h : Orderly s t) : GoesOn s (execSecRngRead init t) :=
  .ite (.next h.took.answer) (.next h.count.raise.answer)
theorem Orderly.impForget (h : Orderly s t) : Orderly s (impForget t) :=
  (((h.foldl fun _ _ k => k.setFld).setImp.foldl fun _ _ k => k.setRegN.setRegN).setRegN.foldl fun _ _ k => k.setRegN).impStat
theorem Orderly.tackClear (h : Orderly s t) : Orderly s (tackClear t) := h.setSec
theorem Orderly.execErase (h : Orderly s t) : GoesOn s (execErase t) := by
  unfold Machine.execErase; dsimp only
  split
  · exact .next (h.setSec.detect.tamper.tackClear.impForget.setNoc.foldl fun _ _ k => k.spClear.setFld)
  · exact .next h
theorem Orderly.execEraseDone {fail : Bool} (h : Orderly s t) : GoesOn s (execEraseDone fail t) := by
  unfold Machine.execEraseDone; dsimp only
  split
  · exact .next (h.farStop.takePads.both (·.grantLevel) (·.burnLife)).systemReset.setFlag.raise
  · exact .next h
theorem Orderly.bistCmd {v : Nat} (h : Orderly s t) : Orderly s (bistCmd t v) := .ite h (.ite h.setSec h.raise)
theorem Orderly.execBistLogic {value : BitVec 32} (h : Orderly s t) : GoesOn s (execBistLogic value t) := .next h.bistCmd
theorem Orderly.execBistMemory {value : BitVec 32} (h : Orderly s t) : GoesOn s (execBistMemory value t) := .next h.bistCmd
theorem Orderly.execBistDone {logic memory : Bool} (h : Orderly s t) : GoesOn s (execBistDone logic memory t) := by
  refine .ite (.next h) (.next (.raiseIf (.raise (.setRegN (.systemReset (.ite ?_ h.tackClear))))))
  exact h.tackClear.trans ⟨rfl, id, swf_filter _⟩

/-! Outrider.lean. -/

theorem Orderly.asyncSet (h : Orderly s t) : Orderly s (asyncSet t) := .ite h h.setFlag.raiseIf.gateSettle
theorem Orderly.execRcoStable (h : Orderly s t) : GoesOn s (execRcoStable t) :=
  .ite (.next h) (.next ((h.setFlag.setFlag.ite (.ite (h.setFlag.detectNow.ite h.setFlag.detect).raise h.setFlag)).setPw.when
    (·.haltPair)).outStat)
theorem Orderly.execSelfDisagree (h : Orderly s t) : GoesOn s (execSelfDisagree t) := .next h.asyncSet.detect
theorem Orderly.execRcoEdgeLoss (h : Orderly s t) : GoesOn s (execRcoEdgeLoss t) := .next (h.ite h.setPw).asyncSet
theorem Orderly.execSafeEntry (h : Orderly s t) : GoesOn s (execSafeEntry t) := .ite (.next h.enterMode) (.next h)
theorem Orderly.execGateOpen (h : Orderly s t) : GoesOn s (execGateOpen t) := .ite (.next h.setFlag.raise.outStat) (.next h)
theorem Orderly.latchClear {v : Nat} (h : Orderly s t) : Orderly s (latchClear t v) :=
  (h.foldl fun _ _ k => .ite k.setFlag k).outStat
theorem Orderly.execOutLatchClear {value : BitVec 32} (h : Orderly s t) : GoesOn s (execOutLatchClear value t) := .next h.latchClear
theorem Orderly.execWindowReport {link : Fin 16} {ago : Fin 4} {active : Bool} (h : Orderly s t) : GoesOn s
    (execWindowReport link ago active t) :=
  .ite (.next h) (.ite (.next h) (.next (h.setOut.count.setRegN.raise.when (·.detectNow))))
theorem Orderly.execTlUncCheck (h : Orderly s t) : GoesOn s (execTlUncCheck t) :=
  .ite (.next h.detect) (.ite (.next h.unstand) (.next h))
theorem Orderly.execLockstepMismatch {pair : Fin 2} (h : Orderly s t) : GoesOn s (execLockstepMismatch pair t) :=
  .ite (.next h) (.next h.setSvc.raise.detect)
theorem Orderly.clkTrip {k : Nat} (h : Orderly s t) : Orderly s (clkTrip t k) := .ite h h.setOut.raise.detect
theorem Orderly.clkGood {k : Nat} (h : Orderly s t) : Orderly s (clkGood t k) := h.setFlag.setOut.when (·.unstand)
theorem Orderly.execClockCheck {counts : List (Fin 7 × BitVec 16)} (h : Orderly s t) : GoesOn s (execClockCheck counts t) := by
  unfold Machine.execClockCheck
  refine .ite (.next h) ?_
  refine .next ?_
  refine h.foldl fun _ _ k => ?_
  refine .ite k.clkGood ?_
  split
  · exact k
  · exact .ite k.clkGood (.ite k.clkTrip k.setFlag)
theorem Orderly.execMissingEdgeTrip {clk : Fin 7} (h : Orderly s t) : GoesOn s (execMissingEdgeTrip clk t) :=
  .ite (.ite (.next h) (.next h.setPw.setOut.asyncSet)) (.ite (.next h.setFlag.clkTrip) (.next h))
theorem Orderly.execRailTrip {rail : Fin 36} {uv : BitVec 32} (h : Orderly s t) : GoesOn s (execRailTrip rail uv t) :=
  .ite (.next h) (.ite (.ite (.next h) (.next h.setFlag.raise.detect)) (.next (.ite h.setFlag.unstand h.setFlag)))
theorem Orderly.execTempRead {temps : List (BitVec 16)} (h : Orderly s t) : GoesOn s (execTempRead temps t) := by
  unfold Machine.execTempRead; dsimp only
  refine .ite (.next h) ?_
  refine .next ?_
  refine .ite ?_ ?_
  · refine .ite ?_ ?_
    · refine .unstand ?_
      refine .ite ?_ ?_
      · refine .ite ?_ ?_
        · refine .unstand (.setOut ?_)
          split
          · exact h.setRegN
          · exact h
        · refine .setOut ?_
          split
          · exact h.setRegN
          · exact h
      · refine .ite ?_ ?_
        · refine .detect (.raise (.setOut ?_))
          split
          · exact h.setRegN
          · exact h
        · refine .setOut ?_
          split
          · exact h.setRegN
          · exact h
    · refine .ite ?_ ?_
      · refine .ite ?_ ?_
        · refine .unstand (.setOut ?_)
          split
          · exact h.setRegN
          · exact h
        · refine .setOut ?_
          split
          · exact h.setRegN
          · exact h
      · refine .ite ?_ ?_
        · refine .detect (.raise (.setOut ?_))
          split
          · exact h.setRegN
          · exact h
        · refine .setOut ?_
          split
          · exact h.setRegN
          · exact h
  · refine .ite ?_ ?_
    · refine .detect (.raise ?_)
      refine .ite ?_ ?_
      · refine .ite ?_ ?_
        · refine .unstand (.setOut ?_)
          split
          · exact h.setRegN
          · exact h
        · refine .setOut ?_
          split
          · exact h.setRegN
          · exact h
      · refine .ite ?_ ?_
        · refine .detect (.raise (.setOut ?_))
          split
          · exact h.setRegN
          · exact h
        · refine .setOut ?_
          split
          · exact h.setRegN
          · exact h
    · refine .ite ?_ ?_
      · refine .ite ?_ ?_
        · refine .unstand (.setOut ?_)
          split
          · exact h.setRegN
          · exact h
        · refine .setOut ?_
          split
          · exact h.setRegN
          · exact h
      · refine .ite ?_ ?_
        · refine .detect (.raise (.setOut ?_))
          split
          · exact h.setRegN
          · exact h
        · refine .setOut ?_
          split
          · exact h.setRegN
          · exact h
theorem Orderly.execDualTx {roleIn : Bool} (h : Orderly s t) : GoesOn s (execDualTx roleIn t) :=
  .ite (.next h.setFlag.unstand) (.ite (.next h.setFlag.detect) (.next h.setFlag))
theorem Orderly.execBistSlot (h : Orderly s t) : GoesOn s (execBistSlot t) := by
  unfold Machine.execBistSlot; dsimp only
  refine .ite (.next h) ?_
  split
  · exact .next h
  · exact .ite (.next h.setRegN.setOut.bistTurn) (.next h.setRegN.setOut)
theorem Orderly.bistFailed {u : Nat} (h : Orderly s t) : Orderly s (bistFailed t u) := h.setRegN.raise.detectNow
theorem Orderly.execBistCoreTestEnd {fail : Bool} (h : Orderly s t) : GoesOn s (execBistCoreTestEnd fail t) := by
  unfold Machine.execBistCoreTestEnd; dsimp only
  split
  · exact .ite (.next h) (.next (.ite h.bistStop.setFlag.bistFailed h.bistStop))
  · exact .next h
theorem Orderly.execBistSkip (h : Orderly s t) : GoesOn s (execBistSkip t) := by
  unfold Machine.execBistSkip
  split
  · exact .ite (.next h) (.next h.bistStop.raise)
  · exact .next h
theorem Orderly.execBistMemoryTestEnd {fail : Bool} (h : Orderly s t) : GoesOn s (execBistMemoryTestEnd fail t) := by
  unfold Machine.execBistMemoryTestEnd; dsimp only
  split
  · exact .next h
  · exact .ite (.next (h.setOut.bistRound.foldl fun _ _ k => k.setBmRow.took).bistFailed) (.next h.setOut.bistRound)

/-! Service.lean. -/

theorem Orderly.wdtReload {p : Nat} (h : Orderly s t) : Orderly s (wdtReload t p) := h.setFld.setSvc
theorem Orderly.wdtKick {p init v : Nat} (h : Orderly s t) : Orderly s (wdtKick t p init v) := .ite h.wdtReload h.raise
theorem Orderly.execWdtKick {x : Fin 2} {init : Fin 512} {value : BitVec 32} (h : Orderly s t) : GoesOn s
    (execWdtKick x init value t) :=
  .next h.wdtKick
theorem Orderly.execWdtWarning {x : Fin 2} (h : Orderly s t) : GoesOn s (execWdtWarning x t) :=
  .ite (.next h.setFld.setSvc) (.next h)
theorem Orderly.execWdtExpire {x : Fin 3} (h : Orderly s t) : GoesOn s (execWdtExpire x t) :=
  .ite (.next h.systemReset) (.ite (.next h.systemReset) (.next h))
theorem Orderly.sysUnlock {init v : Nat} (h : Orderly s t) : Orderly s (sysUnlock t init v) := by
  unfold Machine.sysUnlock; dsimp only
  split
  · exact h
  · exact h.setSvc
theorem Orderly.execSysUnlock {init : Fin 512} {value : BitVec 32} (h : Orderly s t) : GoesOn s (execSysUnlock init value t) :=
  .next h.sysUnlock
theorem Orderly.unlocked {init : Nat} (h : Orderly s t) : Orderly s (unlocked t init).1 := by
  unfold Machine.unlocked; dsimp only
  split
  · exact .iteFst h.setSvc h.setSvc.raise
  · exact .iteFst h h.raise
theorem Orderly.wdtCfg {p init v : Nat} (h : Orderly s t) : Orderly s (wdtCfg t p init v) := .ite h.unlocked.setRegN h.unlocked
theorem Orderly.sysSwi {v : Nat} (h : Orderly s t) : Orderly s (sysSwi t v) := h.setRegN
theorem Orderly.execSysSwi {value : BitVec 32} (h : Orderly s t) : GoesOn s (execSysSwi value t) := .next h.sysSwi
theorem Orderly.setUart {u : Nat} {x : Uart} (h : Orderly s t) : Orderly s (setUart t u x) :=
  h.setSvc.setRegN.both (·.setFlag) (·.raiseIf)
theorem Orderly.spiStat (h : Orderly s t) : Orderly s (spiStat t) := h.setFld.setFld
theorem Orderly.periGated {k : Nat} (h : Orderly s t) : Orderly s (periGated t k) := by
  unfold Machine.periGated
  split
  · exact h.setUart
  · exact h.setUart
  · exact h.setSvc.setFlag.spiStat
  · exact h.setFmp
  · exact h.setSvc.setFlag
  · exact h.setSvc.setFlag
  · exact h
theorem Orderly.periGate {init v : Nat} (h : Orderly s t) : Orderly s (periGate t init v) :=
  .ite h.unlocked (h.unlocked.setRegN.foldl fun _ _ k => k.periGated).raiseIf
theorem Orderly.execPeriGateWrite {init : Fin 512} {value : BitVec 32} (h : Orderly s t) : GoesOn s
    (execPeriGateWrite init value t) :=
  .next h.periGate
theorem Orderly.pinRest {n : Nat} (h : Orderly s t) : Orderly s (pinRest t n).1 := by
  unfold Machine.pinRest
  split
  · exact h
  · split
    · exact h.took
    · exact h
    · exact h
theorem Orderly.pinLevel {n : Nat} (h : Orderly s t) : Orderly s (pinLevel t n).1 := by
  unfold Machine.pinLevel; dsimp only
  split
  · exact h
  · split
    · refine .iteFst ?_ ?_
      · refine .pinRest ?_
        split
        · exact h
        · exact h
        · exact h.took
      · split
        · exact h
        · exact h
        · exact h.took
    · refine .pinRest ?_
      split
      · exact h
      · exact h
      · exact h.took
theorem Orderly.pinWord {n k : Nat} (h : Orderly s t) : Orderly s (pinWord t n k).1 := h.foldlFst fun _ _ k => k.pinLevel
theorem Orderly.uartCts {u : Nat} (h : Orderly s t) : Orderly s (uartCts t u).1 := by
  unfold Machine.uartCts; dsimp only
  split
  · exact h
  · exact h.pinLevel
  · exact h.took
theorem Orderly.uartGo {u : Nat} (h : Orderly s t) : Orderly s (uartGo t u) := by
  unfold Machine.uartGo; dsimp only
  split
  · exact .ite h (.ite (h.uartCts.iteFst h).setUart (.iteFst h.uartCts h))
  · exact h
theorem Orderly.uartErr {u : Nat} (h : Orderly s t) : Orderly s (uartErr t u) := h.count.raise
theorem Orderly.uartPush {u v : Nat} (h : Orderly s t) : Orderly s (uartPush t u v) := .ite h (.ite h.uartErr h.setUart.uartGo)
theorem Orderly.execUartTxPush {u : Fin 2} {value : BitVec 32} (h : Orderly s t) : GoesOn s (execUartTxPush u value t) :=
  .next h.uartPush
theorem Orderly.uartRead {u init : Nat} (h : Orderly s t) : Orderly s (uartRead t u init).1 := by
  unfold Machine.uartRead; dsimp only
  split
  · exact h
  · exact .iteFst h (.ite h h.setUart)
theorem Orderly.execUartRxPop {u : Fin 2} {init : Fin 512} (h : Orderly s t) : GoesOn s (execUartRxPop u init t) :=
  .next h.uartRead.answer
theorem Orderly.execUartRxByte {u : Fin 2} {byte : BitVec 8} {perr ferr : Bool} (h : Orderly s t) : GoesOn s
    (execUartRxByte u byte perr ferr t) :=
  .ite (.next h) (.next (((h.uartErr.ite h).when (·.uartErr)).both (·.uartErr) (·.setUart)))
theorem Orderly.execUartTxByte {u : Fin 2} (h : Orderly s t) : GoesOn s (execUartTxByte u t) := by
  unfold Machine.execUartTxByte; dsimp only
  split
  · exact .next h
  · exact .ite (.next h) (.next h.setUart.answer.raiseIf.uartGo)
theorem Orderly.uartsGo (h : Orderly s t) : Orderly s (uartsGo t) := h.uartGo.uartGo
theorem Orderly.pinCfg {n v : Nat} (h : Orderly s t) : Orderly s (pinCfg t n v) := (h.setRegN.setSvc.ite h.setRegN).uartsGo
theorem Orderly.execPinCfgWrite {n : Fin 48} {value : BitVec 32} (h : Orderly s t) : GoesOn s (execPinCfgWrite n value t) :=
  .next h.pinCfg
theorem Orderly.execPinSwitchMake {n : Fin 48} (h : Orderly s t) : GoesOn s (execPinSwitchMake n t) := .next h.setSvc.uartsGo
theorem Orderly.gpioDout {hi : Bool} {v : Nat} (h : Orderly s t) : Orderly s (gpioDout t hi v) := .ite h h.setRegN
theorem Orderly.execGpioDoutWrite {hi : Bool} {value : BitVec 32} (h : Orderly s t) : GoesOn s (execGpioDoutWrite hi value t) :=
  .next h.gpioDout
theorem Orderly.execGpioEdge {n : Fin 48} {level : Bool} (h : Orderly s t) : GoesOn s (execGpioEdge n level t) :=
  .ite (.next h.setSvc.uartsGo.setFlag.raise) (.next h.setSvc.uartsGo)
theorem Orderly.spi1Cmd {v : Nat} (h : Orderly s t) : Orderly s (spi1Cmd t v) := .ite h (.ite h.setFlag h.setSvc.setFlag.setFlag)
theorem Orderly.execSpi1Cmd {value : BitVec 32} (h : Orderly s t) : GoesOn s (execSpi1Cmd value t) := .next h.spi1Cmd
theorem Orderly.execSpi1Done {miso : List Byte} (h : Orderly s t) : GoesOn s (execSpi1Done miso t) := by
  unfold Machine.execSpi1Done; dsimp only
  split
  · exact .next h
  · exact .ite (.next h) (.next h.setSvc.spiStat.setFlag.raise.answer)
theorem Orderly.spi1Push {v : Nat} (h : Orderly s t) : Orderly s (spi1Push t v) := .ite h h.setSvc.spiStat
theorem Orderly.spi1Read {init : Nat} (h : Orderly s t) : Orderly s (spi1Read t init).1 := by
  unfold Machine.spi1Read
  refine .iteFst h ?_
  split
  · exact .iteFst h h.took
  · exact .ite h h.setSvc.spiStat
theorem Orderly.execSpi1DataAccess {init : Fin 512} {wr : Bool} {value : BitVec 32} (h : Orderly s t) : GoesOn s
    (execSpi1DataAccess init wr value t) :=
  .ite (.next h.spi1Push) (.next h.spi1Read.answer)
theorem Orderly.i2cEnd {i r : Nat} (h : Orderly s t) : Orderly s (i2cEnd t i r) := h.setFld.raise.whenNot (·.count.raise)
theorem Orderly.i2cCmd {i v : Nat} (h : Orderly s t) : Orderly s (i2cCmd t i v) :=
  .ite h (.ite h.i2cEnd (.ite h.i2cEnd h.setSvc.setFlag))
theorem Orderly.execI2cCmd {i : Fin 2} {value : BitVec 32} (h : Orderly s t) : GoesOn s (execI2cCmd i value t) := .next h.i2cCmd
theorem Orderly.execI2cDone {i : Fin 2} {result : Fin 5} {data : List Byte} (h : Orderly s t) : GoesOn s
    (execI2cDone i result data t) :=
  by
  unfold Machine.execI2cDone; dsimp only
  split
  · exact .next h
  · exact .ite (.next h) (.next (h.foldl fun _ _ k => k.setFld).setSvc.setFlag.i2cEnd)
theorem Orderly.flashCmd {init v : Nat} (h : Orderly s t) : Orderly s (flashCmd t init v) :=
  .ite h (.ite h.setFlag.raise h.setSvc.setRegN)
theorem Orderly.execFlashErase {init : Fin 512} {value : BitVec 32} (h : Orderly s t) : GoesOn s (execFlashErase init value t) :=
  .next h.flashCmd
theorem Orderly.execFlashProgram {init : Fin 512} {value : BitVec 32} (h : Orderly s t) : GoesOn s (execFlashProgram init value t)
    :=
  .next h.flashCmd
theorem Orderly.scramble {a n : Nat} (h : Orderly s t) : Orderly s (scramble t a n) := h.foldl fun _ _ k => k.setByte.took
theorem Orderly.flashKept {c : FlashCmd} (h : Orderly s t) : Orderly s (flashKept t c) :=
  .ite (.iteFst h h.took) (.ite (h.iteFst h.took).setFmp (.ite (h.iteFst h.took).setPw (.iteFst h h.took)))
theorem Orderly.execFlashDone {bad : Bool} (h : Orderly s t) : GoesOn s (execFlashDone bad t) := by
  unfold Machine.execFlashDone; dsimp only
  split
  · exact .next h
  · exact .next (h.setSvc.scramble.ite h.setSvc.store).setRegN.flashKept.raise

/-! Debug.lean. -/

theorem Orderly.setIr {v : Nat} (h : Orderly s t) : Orderly s (setIr t v) := h.setDbg
theorem Orderly.canHalt {init v : Nat} (h : Orderly s t) : Orderly s (canHalt t init v) := .ite h (.ite h.raise h.haltCore)
theorem Orderly.execDbgCanHalt {init : Fin 512} {value : BitVec 32} (h : Orderly s t) : GoesOn s (execDbgCanHalt init value t) :=
  .next h.canHalt
theorem Orderly.canResume {init v : Nat} (h : Orderly s t) : Orderly s (canResume t init v) := .ite h.resumeCore h
theorem Orderly.execDbgCanResume {init : Fin 512} {value : BitVec 32} (h : Orderly s t) : GoesOn s (execDbgCanResume init value t)
    :=
  .next h.canResume
theorem Orderly.canRegSet {w v : Nat} (h : Orderly s t) : Orderly s (canRegSet t w v) := .ite h h.setCore
theorem Orderly.pacSnap {init v : Nat} (h : Orderly s t) : Orderly s (pacSnap t init v) :=
  .ite h (.ite h.setFld.setFlag.setPac (.ite h.setFld h))
theorem Orderly.execDbgPacSnap {init : Fin 512} {value : BitVec 32} (h : Orderly s t) : GoesOn s (execDbgPacSnap init value t) :=
  .next h.pacSnap
theorem Orderly.execPacSnapshot (h : Orderly s t) : GoesOn s (execPacSnapshot t) := by
  unfold Machine.execPacSnapshot; dsimp only
  split
  · exact .next h
  · exact .next h.setPac.setFlag.setFlag.setRegN.raise
theorem Orderly.mboxStat (h : Orderly s t) : Orderly s (mboxStat t) := h.setRegN
theorem Orderly.h2dPush {init v : Nat} (h : Orderly s t) : Orderly s (h2dPush t init v) :=
  .ite h (.ite h.raise h.setDbg.mboxStat.raise)
theorem Orderly.execMboxH2dPush {init : Fin 512} {value : BitVec 32} (h : Orderly s t) : GoesOn s (execMboxH2dPush init value t) :=
  .next h.h2dPush
theorem Orderly.h2dRead {init : Nat} (h : Orderly s t) : Orderly s (h2dRead t init).1 := by
  unfold Machine.h2dRead
  split
  · exact h
  · exact .ite h.setDbg.mboxStat h
theorem Orderly.execMboxH2dPop {init : Fin 512} (h : Orderly s t) : GoesOn s (execMboxH2dPop init t) := .next h.h2dRead.answer
theorem Orderly.d2hWrite {init v : Nat} (h : Orderly s t) : Orderly s (d2hWrite t init v) :=
  .ite (.ite h.raise h.setDbg.mboxStat) (.ite h.setDbg.mboxStat h)
theorem Orderly.execMboxD2hPush {init : Fin 512} {value : BitVec 32} (h : Orderly s t) : GoesOn s (execMboxD2hPush init value t) :=
  .next h.d2hWrite
theorem Orderly.execMboxD2hPop {init : Fin 512} {value : BitVec 32} (h : Orderly s t) : GoesOn s (execMboxD2hPop init value t) :=
  .next h.d2hWrite
theorem Orderly.tapBypass {ir : Nat} (h : Orderly s t) : Orderly s (tapBypass t ir) := h.setIr.answer
theorem Orderly.execIdcode (h : Orderly s t) : GoesOn s (execIdcode t) := .next h.setIr.answer
theorem Orderly.execSamplePreload {preload : List (BitVec 12 × Bool)} (h : Orderly s t) : GoesOn s (execSamplePreload preload t) :=
  by
  unfold Machine.execSamplePreload; dsimp only
  exact .ite (.next h.tapBypass) (.next h.pinWord.setIr.setDbg.answer)
theorem Orderly.execExtest (h : Orderly s t) : GoesOn s (execExtest t) := by
  unfold Machine.execExtest; dsimp only
  exact .ite (.next h.pinWord.setIr.answer) (.next h.tapBypass)
theorem Orderly.execBypass (h : Orderly s t) : GoesOn s (execBypass t) := .next h.tapBypass
theorem Orderly.execTapReset (h : Orderly s t) : GoesOn s (execTapReset t) := .next h.setIr
theorem Orderly.execUnlockRequest {value : BitVec 32} (h : Orderly s t) : GoesOn s (execUnlockRequest value t) :=
  .ite (.next h.setIr.answer.eraseAsk) (.next h.setIr.answer)
theorem Orderly.setDmBit {a p : Nat} {b : Bool} (h : Orderly s t) : Orderly s (setDmBit t a p b) := h.setDbg
theorem Orderly.haltReq {p : Nat} (h : Orderly s t) : Orderly s (haltReq t p) := .ite h.haltPair h
theorem Orderly.execHaltreq {pair : Fin 2} (h : Orderly s t) : GoesOn s (execHaltreq pair t) := .next h.haltReq
theorem Orderly.resumeReq {p : Nat} (h : Orderly s t) : Orderly s (resumeReq t p) :=
  .ite h (h.resumePair.setDmBit.when (·.took.haltPair.setSvc))
theorem Orderly.execResumereq {pair : Fin 2} (h : Orderly s t) : GoesOn s (execResumereq pair t) := .next h.resumeReq

/-! Lanes.lean. -/

theorem Orderly.setEq {l i : Nat} {v : BitVec 16} (h : Orderly s t) : Orderly s (setEq t l i v) := h.setLane
theorem Orderly.eqWrite {l v : Nat} (h : Orderly s t) : Orderly s (eqWrite t l v) := .ite h.setEq h
theorem Orderly.execLaneSignalDetect {lane : Fin 128} (h : Orderly s t) : GoesOn s (execLaneSignalDetect lane t) := .next h.setFld
theorem Orderly.execLaneLos {lane : Fin 128} (h : Orderly s t) : GoesOn s (execLaneLos lane t) := .next h.raiseIf.setFld.raise
theorem Orderly.execEqAdaptStep {lane : Fin 128} (h : Orderly s t) : GoesOn s (execEqAdaptStep lane t) :=
  .ite (.next (h.setFlag.foldl fun _ _ k => k.took.setEq)) (.next h)
theorem Orderly.execPrbsError {lane : Fin 128} (h : Orderly s t) : GoesOn s (execPrbsError lane t) :=
  .ite (.next h.count.raise) (.next h)
theorem Orderly.execPllUnlock {group : Fin 24} (h : Orderly s t) : GoesOn s (execPllUnlock group t) :=
  .ite (.next h.setFlag.raise) (.next h)
theorem Orderly.octWrite {o v : Nat} (h : Orderly s t) : Orderly s (octWrite t o v) :=
  .ite h.setFlag.setFld (.ite (.ite h h.setFlag) h)
theorem Orderly.jlStop {q : Nat} (h : Orderly s t) : Orderly s (jlStop t q) := h.setFlag.setFlag.setRegN
theorem Orderly.quadWrite {q v : Nat} (h : Orderly s t) : Orderly s (quadWrite t q v) := by
  unfold Machine.quadWrite; dsimp only
  exact .ite (.ite h h.jlStop.setFlag.setFlag) (.ite (h.setRegN.both (·.setFlag.setFlag.setFlag) (·.setFlag.raise)) h.setRegN)
theorem Orderly.jlWrite {q : Nat} {rx : Bool} {v : Nat} (h : Orderly s t) : Orderly s (jlWrite t q rx v) :=
  .ite (h.setRegN.raiseIf.whenNot (·.setRegN)) h.setRegN.raiseIf.setFlag
theorem Orderly.lemcWrite {q v : Nat} (h : Orderly s t) : Orderly s (lemcWrite t q v) := .ite h h.setRegN
theorem Orderly.adoptAll {tl : Nat} (h : Orderly s t) : Orderly s (adoptAll t tl) :=
  h.setLane.foldl fun _ _ k => .ite k.setRegN.raise k
theorem Orderly.execJsysrefEdge {falling : Bool} {ofs : BitVec 18} (h : Orderly s t) : GoesOn s (execJsysrefEdge falling ofs t) :=
  .ite (.next h) (.next (h.count.setRegN.raiseIf.ite h.count).adoptAll)
theorem Orderly.execAdopt {value : BitVec 32} (h : Orderly s t) : GoesOn s (execAdopt value t) :=
  .ite (.next h.setLane.raiseIf) (.next h)
theorem Orderly.setBufs {q : Nat} {l : List CvBuf} (h : Orderly s t) : Orderly s (setBufs t q l) := h.setLane
theorem Orderly.cvRelease {relId addr len : Nat} (h : Orderly s t) : Orderly s (cvRelease t relId addr len) :=
  .ite h.raise (.ite h.count.raise h.setBufs)
theorem Orderly.execJesdFetchDone {q : Fin 16} {noc : Fin 8} (h : Orderly s t) : GoesOn s (execJesdFetchDone q noc t) := by
  unfold Machine.execJesdFetchDone; dsimp only
  split
  · exact .next h
  · exact .ite (.next h.setBufs) (.next h.setBufs)
theorem Orderly.execJesdBufferStart {q : Fin 16} (h : Orderly s t) : GoesOn s (execJesdBufferStart q t) := by
  unfold Machine.execJesdBufferStart; dsimp only
  split
  · exact .next h
  · refine .ite (.next h) ?_
    split
    · exact .next h.setBufs.count.raise
    · exact .next h.setBufs.answer
theorem Orderly.execEmbLock {q : Fin 16} (h : Orderly s t) : GoesOn s (execEmbLock q t) :=
  .ite (.next h.setFlag.setFld.setFld) (.next h)
theorem Orderly.execJlLinkDown {q : Fin 16} (h : Orderly s t) : GoesOn s (execJlLinkDown q t) :=
  .ite (.next h.setFld.raise) (.next h)
theorem Orderly.execJesdRxEmb {q : Fin 16} {data : List Byte} {crc jump : Bool} (h : Orderly s t) : GoesOn s
    (execJesdRxEmb q data crc jump t) :=
  .ite (.next h) (.ite (.next ((h.count.raise.ite h).raiseIf.foldl fun _ _ k => k.viewWrite).setRegN) (.next
    (h.count.raise.ite h).raiseIf))

/-! Tether.lean. -/

theorem Orderly.setTeth {x1 : Tether} (h : Orderly s t) : Orderly s (setTeth t x1) := h.setLane
theorem Orderly.setTethLane {l : Nat} {x : TethLane} (h : Orderly s t) : Orderly s (setTethLane t l x) := h.setTeth
theorem Orderly.tethCfg {v : Nat} (h : Orderly s t) : Orderly s (tethCfg t v) :=
  .ite h.setRegN.raiseIf.setTeth.setRegN (h.setRegN.raiseIf.when (·.setTeth.setRegN))
theorem Orderly.snapFeed (h : Orderly s t) : Orderly s (snapFeed t) := by
  unfold Machine.snapFeed; dsimp only
  split
  · exact h
  · refine .ite h ?_
    split
    · exact h.setRly
    · exact h.setRly.jEntry.when (·.setRly)
theorem Orderly.relNext (h : Orderly s t) : Orderly s (relNext t).1 := by
  unfold Machine.relNext; dsimp only
  split
  · exact h
  · exact .iteFst h h.setTeth.setRly
theorem Orderly.execTetherFrameTx (h : Orderly s t) : GoesOn s (execTetherFrameTx t) := by
  have k := h.snapFeed.relNext
  unfold Machine.execTetherFrameTx
  obtain ⟨R, eR⟩ := named Machine.relNext
  obtain ⟨K, eK⟩ := named Machine.keyRun
  obtain ⟨S, eS⟩ := named Machine.stuffBits
  obtain ⟨L, eL⟩ := named Machine.nextLane
  rw [eR] at k
  rw [eR, eK, eS, eL]
  dsimp only
  refine .ite (.next h) ?_
  split
  · exact .next h
  · exact .next k.setTeth.setTethLane.answer
theorem Orderly.tethDeliver : ∀ {n : Nat} {t : State}, Orderly s t → Orderly s (tethDeliver n t)
  | 0, _, h => h
  | n + 1, t, h => by
    unfold Machine.tethDeliver; dsimp only
    split
    · exact h
    · split
      · exact h
      · exact h.setTeth.tethDeliver
theorem Orderly.tethMerge {lseq kind : Nat} {pay : List Byte} (h : Orderly s t) : Orderly s (tethMerge t lseq kind pay) :=
  .ite h.count h.setTeth.tethDeliver
theorem Orderly.tethSearch {l : Nat} (h : Orderly s t) : Orderly s (tethSearch t l) := h.setFlag.setFlag.setFlag.setTethLane
theorem Orderly.tethFrame {l f : Nat} (h : Orderly s t) : Orderly s (tethFrame t l f) := by
  unfold Machine.tethFrame; dsimp only
  exact .ite h.setTethLane.setFlag.count (h.setTethLane.setFlag.both (·.count.raise) (·.tethMerge))
theorem Orderly.execTetherFrameRx {lane : Fin 4} {phase : Fin 32} {frame : BitVec 1024} {stuff : Bool} (h : Orderly s t) : GoesOn s
    (execTetherFrameRx lane phase frame stuff t) :=
  .ite (.next h) (.ite (.ite (.next (h.count.raise.ite h).tethSearch.raise) (.next
    (h.count.raise.ite h).setFlag.setTethLane.tethFrame)) (.ite (.next (h.count.raise.ite h).setFlag.setTethLane.setFlag.raise)
    (.next (h.count.raise.ite h).setFlag.setTethLane)))
theorem Orderly.execSlip {value : BitVec 32} (h : Orderly s t) : GoesOn s (execSlip value t) :=
  .next (h.foldl fun _ _ k => .ite k.setTethLane.setFlag.count k)
theorem Orderly.execTetherDeskewTimeout (h : Orderly s t) : GoesOn s (execTetherDeskewTimeout t) := by
  unfold Machine.execTetherDeskewTimeout; dsimp only
  split
  · exact .next h
  · exact .ite (.next h) (.next h.setTeth.count.raise.tethDeliver)
theorem Orderly.execTethFifoErr {lane : Fin 4} (h : Orderly s t) : GoesOn s (execTethFifoErr lane t) :=
  .ite (.next h.tethSearch.raise) (.next h)

/-! Relay.lean. -/

theorem Orderly.relAck {nak bad : Bool} (h : Orderly s t) : Orderly s (relAck t nak bad) := h.relMsg
theorem Orderly.relNak (h : Orderly s t) : Orderly s (relNak t) := .ite h.relAck h
theorem Orderly.execRelayFrameRx (h : Orderly s t) : GoesOn s (execRelayFrameRx t) := by
  unfold Machine.execRelayFrameRx; dsimp only
  split
  · exact .next h
  · refine .ite (.next h.setTeth) ?_
    split
    · exact .next h.setTeth.relNak
    · split
      · exact .ite (.next h.setTeth.count.raise.relNak) (.ite (.next h.setTeth.setRly.count) (.next h.setTeth.setRly.setRly))
      · exact .next h.setTeth.count.raise.relNak
theorem Orderly.relTake {kind : Nat} (h : Orderly s t) : OrderlyOptFst s (relTake t kind) := by
  unfold Machine.relTake
  split
  · exact .ite (.some h.setRly) .none
  · exact .none
theorem Orderly.lagPeak (h : Orderly s t) : Orderly s (lagPeak t) := .ite h.setFld h
theorem Orderly.setJpt {pt : Nat} (h : Orderly s t) : Orderly s (setJpt t pt) := h.lagPeak.setRly.lagPeak
theorem Orderly.jApplied {q pt : Nat} (h : Orderly s t) : Orderly s (jApplied t q pt) := h.setRegN.setRly.setJpt
theorem Orderly.mismatch (h : Orderly s t) : Orderly s (mismatch t) := h.setSync.raise.count.relAck
theorem Orderly.jTake {kind : Nat} (h : Orderly s t) : Orderly s (jTake t kind).1 := by
  unfold Machine.jTake; dsimp only
  split
  · exact h
  next u _ _ e =>
    refine .iteFst (h.relTake e) ?_
    refine .iteFst (h.relTake e) ?_
    refine .iteFst (h.relTake e).relNak ?_
    split
    · exact (h.relTake e).setRly.relNak
    · exact .iteFst (h.relTake e).setRly (h.relTake e).setRly
theorem Orderly.jApply {kind : Nat} {f : State → List Byte → Option State} (h : Orderly s t)
    (hf : ∀ u d, Orderly s u → OrderlyOpt s (f u d)) : Orderly s (jApply t kind f) := by
  unfold Machine.jApply
  split
  next u e => exact h.jTake.of_fst e
  next u _ _ d e =>
    have k := h.jTake.of_fst e
    split
    next w e' => exact (hf u d k e').jApplied
    · exact k.mismatch
theorem Orderly.execMark (h : Orderly s t) : GoesOn s (execMark t) := .next (h.jApply fun _ _ k => .some k)
theorem Orderly.applyAdmit {d : List Byte} (h : Orderly s t) : OrderlyOpt s (applyAdmit t d) :=
  .ite .none (.ite .none (.some h.rawWrite.acceptAs))
theorem Orderly.execAdmit (h : Orderly s t) : GoesOn s (execAdmit t) := .next (h.jApply fun _ _ k => k.applyAdmit)
theorem Orderly.execCfg (h : Orderly s t) : GoesOn s (execCfg t) := .next (h.jApply fun _ _ k => k.pacCfg)
theorem Orderly.applyMem {d : List Byte} (h : Orderly s t) : OrderlyOpt s (applyMem t d) := .ite (.some h.rawWrite) .none
theorem Orderly.execMem (h : Orderly s t) : GoesOn s (execMem t) := .next (h.jApply fun _ _ k => k.applyMem)
theorem Orderly.applyTile {d : List Byte} (h : Orderly s t) : OrderlyOpt s (applyTile t d) := by
  unfold Machine.applyTile; dsimp only
  split
  · exact .ite .none (.ite (.some h.setRegN.setRegN.physWrite) (.some h.setRegN.setRegN.cachePath.physWrite.physWrite.setCtrs))
  · exact .none
theorem Orderly.execTile (h : Orderly s t) : GoesOn s (execTile t) := .next (h.jApply fun _ _ k => k.applyTile)
theorem Orderly.applyPort {d : List Byte} (h : Orderly s t) : OrderlyOpt s (applyPort t d) :=
  .ite (.some h.rawWrite.setRegN.raise) .none
theorem Orderly.execPort (h : Orderly s t) : GoesOn s (execPort t) := .next (h.jApply fun _ _ k => k.applyPort)
theorem Orderly.execHandover (h : Orderly s t) : GoesOn s (execHandover t) := .next (h.jApply fun _ _ k => .some k.setRly)
theorem Orderly.execSnapEnd (h : Orderly s t) : GoesOn s (execSnapEnd t) := by
  unfold Machine.execSnapEnd; dsimp only
  split
  · exact .ite (.next (.ite h.setRly.setSync.raise h.setRly)) (.next (h.jApply fun _ _ k => .some (.ite k.setSync.raise k)))
  · exact .next h
theorem Orderly.cancelAll (h : Orderly s t) : Orderly s (cancelAll t) := h.wholesale
theorem Orderly.demote (h : Orderly s t) : Orderly s (demote t) := h.setRly.setSync.toSecondary.cancelAll
theorem Orderly.rolePin {roleIn : Bool} (h : Orderly s t) : Orderly s (rolePin t roleIn) := .ite h.setFlag h.setFlag.unstand
theorem Orderly.sidePins {roleIn fenceIn : Bool} (h : Orderly s t) : Orderly s (sidePins t roleIn fenceIn) := h.rolePin.setFlag
theorem Orderly.toPrimary (h : Orderly s t) : Orderly s (toPrimary t) := h.setRole.setSync.leaveShadow
theorem Orderly.execRoleElection {roleIn fenceIn : Bool} (h : Orderly s t) : GoesOn s (execRoleElection roleIn fenceIn t) :=
  .ite (.next (h.sidePins.setRly.whenNot (·.toPrimary))) (.next h.sidePins)
theorem Orderly.execRoleConflict (h : Orderly s t) : GoesOn s (execRoleConflict t) :=
  .ite (.next h.setFlag.raise.jStop.demote) (.next h.setFlag)
theorem Orderly.execHeartbeat (h : Orderly s t) : GoesOn s (execHeartbeat t) := by
  unfold Machine.execHeartbeat; dsimp only
  split
  · exact .next h
  next u _ _ e => exact .next (.ite ((h.relTake e).setFlag.setRly.when (·.setRly.raise)).setSync ((h.relTake e).setFlag.setRly.when
      (·.setRly.raise)))
theorem Orderly.execTimeReq (h : Orderly s t) : GoesOn s (execTimeReq t) := by
  unfold Machine.execTimeReq
  split
  · exact .next h
  next u _ _ e => exact .next ((h.relTake e).when (·.relMsg))
theorem Orderly.execTimeResp (h : Orderly s t) : GoesOn s (execTimeResp t) := by
  unfold Machine.execTimeResp; dsimp only
  split
  · exact .next h
  next u _ _ e => exact .ite (.next (h.relTake e)) (.next ((h.relTake e).setRly.setRegN.raiseIf.whenNot (·.refQualify)).refSample)
theorem Orderly.mpPump : ∀ {n : Nat} {t : State} {k x : Nat}, Orderly s t → Orderly s (mpPump n t k x)
  | 0, _, _, _, h => h
  | _ + 1, _, _, _, h => .ite h h.jEntry.setRegN.mpPump
theorem Orderly.mpAll (h : Orderly s t) : Orderly s (mpAll t) := (h.foldl fun _ _ k => k.mpPump).setRly
theorem Orderly.jResend (h : Orderly s t) : Orderly s (jResend t) := h.countBy.relSend
theorem Orderly.execAck (h : Orderly s t) : GoesOn s (execAck t) := by
  unfold Machine.execAck; dsimp only
  split
  · exact .next h
  next u _ _ e =>
    refine .ite (.next (h.relTake e)) ?_
    refine .ite ?_ ?_
    · refine .next (.jStop ?_)
      refine .ite ?_ ?_
      · refine .setRly (.setSync (.setRly ?_))
        split
        · exact (h.relTake e).setRegN.setJpt
        · exact (h.relTake e).setRegN
      · refine .setRly ?_
        split
        · exact (h.relTake e).setRegN.setJpt
        · exact (h.relTake e).setRegN
    · refine .next (.mpAll ?_)
      refine .ite ?_ ?_
      · refine .jResend ?_
        refine .ite ?_ ?_
        · refine .setRly (.setSync (.setRly ?_))
          split
          · exact (h.relTake e).setRegN.setJpt
          · exact (h.relTake e).setRegN
        · refine .setRly ?_
          split
          · exact (h.relTake e).setRegN.setJpt
          · exact (h.relTake e).setRegN
      · refine .ite ?_ ?_
        · refine .setRly (.setSync (.setRly ?_))
          split
          · exact (h.relTake e).setRegN.setJpt
          · exact (h.relTake e).setRegN
        · refine .setRly ?_
          split
          · exact (h.relTake e).setRegN.setJpt
          · exact (h.relTake e).setRegN
theorem Orderly.execJournalMark (h : Orderly s t) : GoesOn s (execJournalMark t) := .ite (.next h.jWait) (.next h.jEntry)
theorem Orderly.execAckPeriodic (h : Orderly s t) : GoesOn s (execAckPeriodic t) := .ite (.next h.relAck) (.next h)
theorem Orderly.execJournalResend (h : Orderly s t) : GoesOn s (execJournalResend t) := .ite (.next h.jResend) (.next h)
theorem Orderly.execJournalStall (h : Orderly s t) : GoesOn s (execJournalStall t) := .ite (.next h.jStall) (.next h)
theorem Orderly.execPartnerUnsynced (h : Orderly s t) : GoesOn s (execPartnerUnsynced t) := .ite (.next h.jStop.raise) (.next h)
theorem Orderly.execTimeExchange (h : Orderly s t) : GoesOn s (execTimeExchange t) :=
  .ite (.next h) (.next (h.setRly.refLose.ite h.setRly).relMsg)
theorem Orderly.execHeartbeatSend (h : Orderly s t) : GoesOn s (execHeartbeatSend t) :=
  .ite (.next h) (.ite (.next h.countBy.setRly) (.next h.countBy.setRly.relMsg.answer))
theorem Orderly.execHbPinPulse {ticks : Nat} (h : Orderly s t) : GoesOn s (execHbPinPulse ticks t) :=
  .ite (.next h.setFlag.setRly) (.next h)
theorem Orderly.execPartnerLost (h : Orderly s t) : GoesOn s (execPartnerLost t) :=
  .ite (.next h) (.ite (.next h.setFlag.setFlag.raise.setRly.raise) (.next h.setFlag.setFlag.raise.jStop))
theorem Orderly.execHbPathLost {link : Bool} (h : Orderly s t) : GoesOn s (execHbPathLost link t) :=
  .ite (.next h) (.ite (.next (h.setFlag.raise.when (·.setSync))) (.next h.setFlag.raise))
theorem Orderly.execFenceInSet {high : Bool} (h : Orderly s t) : GoesOn s (execFenceInSet high t) :=
  .ite (.next (h.setFlag.detect.raise.when (·.jStop.demote))) (.next h.setFlag.unstand)
theorem Orderly.gapStat (h : Orderly s t) : Orderly s (gapStat t) := h.setFlag.setFld
theorem Orderly.takeGaps {l : List (Nat × Nat × Nat × Bool)} (h : Orderly s t) : Orderly s (takeGaps t l) :=
  (h.foldl fun _ _ k => .ite k.setRly k.addFld.raise).gapStat
theorem Orderly.execTakeover {roleIn : Bool} (h : Orderly s t) : GoesOn s (execTakeover roleIn t) := by
  unfold Machine.execTakeover; dsimp only
  exact .ite (.next h.rolePin) (.next ((h.rolePin.setRegN.setRegN.setRegN.setRegN.both (·.setRegN)
    (·.setRegN.takeGaps)).count.raise.setRly.reinBack.toPrimary))
theorem Orderly.execTakeoverBlocked (h : Orderly s t) : GoesOn s (execTakeoverBlocked t) := .ite (.next h.setRly.raise) (.next h)
theorem Orderly.join (h : Orderly s t) : Orderly s (join t) :=
  .ite h.raise (.ite h (h.cancelAll.foldl fun _ _ k => k.setRegN).setSync.setRly.relMsg)
theorem Orderly.handover (h : Orderly s t) : Orderly s (handover t) := .ite h (.ite h.raise h.jEntry.setRly.demote)
theorem Orderly.relayCmd {v : Nat} (h : Orderly s t) : Orderly s (relayCmd t v) :=
  (((h.join.ite h).when (·.handover)).setRly.ite ((h.join.ite h).when (·.handover))).when (·.setRly)
theorem Orderly.execJoin {value : BitVec 32} (h : Orderly s t) : GoesOn s (execJoin value t) := .next h.relayCmd
theorem Orderly.execRelayCmdHandover {value : BitVec 32} (h : Orderly s t) : GoesOn s (execRelayCmdHandover value t) :=
  .next h.relayCmd
theorem Orderly.execUnfence {value : BitVec 32} (h : Orderly s t) : GoesOn s (execUnfence value t) := .next h.relayCmd
theorem Orderly.execCtrClear {value : BitVec 32} (h : Orderly s t) : GoesOn s (execCtrClear value t) := .next h.relayCmd
theorem Orderly.execAutoJoin (h : Orderly s t) : GoesOn s (execAutoJoin t) := .ite (.next h.setRly.join) (.next h)
theorem Orderly.execFenceRelease (h : Orderly s t) : GoesOn s (execFenceRelease t) := .ite (.next h.setRly) (.next h)
theorem Orderly.execRelayMpDb {port : Fin 16} {value : BitVec 32} (h : Orderly s t) : GoesOn s (execRelayMpDb port value t) :=
  .ite (.next h) (.ite (.next h.setRly.jWait.mpAll) (.next h.setRegN))
theorem Orderly.execRelayMirCommit {n : Fin 8} {value : BitVec 32} (h : Orderly s t) : GoesOn s (execRelayMirCommit n value t) :=
  .ite (.next h.raise) (.ite (.ite (.next h) (.ite (.next h.setRegN.raise) (.next h.setRegN))) (.next h.setRegN))
theorem Orderly.execRelayGapRead {init : Fin 512} (h : Orderly s t) : GoesOn s (execRelayGapRead init t) := by
  unfold Machine.execRelayGapRead; dsimp only
  split
  · exact .next h.answer
  · exact .ite (.next h.answer) (.next h.answer.setRly.gapStat)


/-! RegView.lean. -/

/-- The answer of a read is its initiator's alone. -/
theorem Orderly.popRead {o : Out} (h : GoesOn s o) : Orderly s (popRead o t).1 := h.after.same rfl rfl rfl
theorem Orderly.pure? {o : Option Nat} (h : Orderly s t) : OrderlyOptFst s (pure? t o) := .map fun _ => h
theorem Orderly.viewSvc {init a : Nat} (h : Orderly s t) : OrderlyOptFst s (viewSvc t init a) :=
  .ite (.some h) (.ite (.some h.wdtCount) (.ite (.some h.wdtCount) (.ite (.some h) (.map fun _ => h))))
theorem Orderly.viewTim {init a : Nat} (h : Orderly s t) : OrderlyOptFst s (viewTim t init a) :=
  .ite (.some (.iteFst h (.popRead h.execCalSRead))) (.orElse h.pure? (.orElse h.pure? (.orElse h.pure?
    (.map fun _ => .popRead h.execTsiHiRead))))
theorem Orderly.viewPac {init a : Nat} (h : Orderly s t) : OrderlyOptFst s (viewPac t init a) :=
  .ite (.some h) (.ite (.some h) (.ite (.some h) (.ite (.some (.popRead h.execRbLossHiRead)) .none)))
theorem Orderly.logView {l : Log} {w : Nat} {pop : Out} (h : Orderly s t) (k : GoesOn s pop) : Orderly s (logView t l w pop).1 :=
  .iteFst (.popRead k) h
theorem Orderly.viewCfg {init a : Nat} (h : Orderly s t) : OrderlyOptFst s (viewCfg t init a) :=
  .map fun _ => h.logView h.execFarLogRead
theorem Orderly.viewMem {init a : Nat} (h : Orderly s t) : OrderlyOptFst s (viewMem t init a) :=
  .ite (.some h.took) (.ite (.map fun _ => h.logView h.execMemLogRead) (.map fun _ => h.logView h.execImpLogRead))
theorem Orderly.viewLane {a : Nat} (h : Orderly s t) : OrderlyOptFst s (viewLane t a) :=
  .orElse h.pure? (.orElse h.pure? (.orElse h.pure? (.orElse h.pure? h.pure?)))
theorem Orderly.viewEth {init a : Nat} (h : Orderly s t) : OrderlyOptFst s (viewEth t init a) :=
  .ite (.map fun _ => .iteFst (.popRead h.execEthTxtsRead) h) .none
theorem Orderly.viewCan {a : Nat} (h : Orderly s t) : OrderlyOptFst s (viewCan t a) :=
  .orElse h.pure? (.orElse h.pure? (.orElse h.pure? (.orElse h.pure? (.orElse h.pure? h.pure?))))
theorem Orderly.viewSec {init a : Nat} (h : Orderly s t) : OrderlyOptFst s (viewSec t init a) :=
  .ite (.some h) (.ite (.some (.iteFst h (.popRead h.execSecRngRead))) h.pure?)
theorem Orderly.viewRly {init a : Nat} (h : Orderly s t) : OrderlyOptFst s (viewRly t init a) :=
  .ite (.some h) (.ite (.some h) (.ite (.some h) (.ite (.some (.popRead h.execRelayGapRead)) .none)))
theorem Orderly.viewPwr {init a : Nat} (h : Orderly s t) : OrderlyOptFst s (viewPwr t init a) := by
  unfold Machine.viewPwr; dsimp only
  refine .ite ?_ h.pure?
  split
  · exact .some (.ite h h.setPw)
  · exact .some h
theorem Orderly.viewPin {init a : Nat} (h : Orderly s t) : OrderlyOptFst s (viewPin t init a) :=
  .ite (.some h) (.ite (.some h.pinWord) (.ite (.some h.pinWord) (.ite (.some h) (.ite (.some h) (.ite (.some h.spi1Read)
    (.map fun _ => h.uartRead))))))
theorem Orderly.viewDbg {init a : Nat} (h : Orderly s t) : OrderlyOptFst s (viewDbg t init a) :=
  .ite (.some h) (.ite (.some h.h2dRead) (.ite (.some h) (.orElse h.pure? h.pure?)))
theorem Orderly.regView {init a : Nat} (h : Orderly s t) : OrderlyOptFst s (regView t init a) := by
  unfold Machine.regView
  split
  · exact h.viewSvc
  · exact h.viewTim
  · exact h.viewPac
  · exact h.viewCfg
  · exact h.viewMem
  · exact h.viewLane
  · exact h.viewEth
  · exact h.viewCan
  · exact h.viewSec
  · exact h.viewRly
  · exact h.viewPwr
  · exact h.viewPin
  · exact h.viewDbg
  · exact .none
theorem Orderly.regRead {init a : Nat} {row : RegRow} (h : Orderly s t) : Orderly s (regRead t init a row).1 := by
  unfold Machine.regRead
  refine .iteFst h ?_
  split
  next e => exact h.regView e
  · exact h
theorem Orderly.wideRead {init a w : Nat} {row : RegRow} (h : Orderly s t) : Orderly s (wideRead t init a w row).1 := by
  unfold Machine.wideRead; dsimp only
  refine .iteFst h.regRead ?_
  refine .iteFst h.setLatches ?_
  split
  · exact h
  · exact h.regRead

/-! RegWrite.lean. -/

theorem Orderly.evtClear {b v : Nat} (h : Orderly s t) : Orderly s (evtClear t b v) :=
  .ite (h.setRegN.foldl fun _ _ k => .ite k k.setFlag) h.setRegN
theorem Orderly.evtCountZero {b v : Nat} (h : Orderly s t) : Orderly s (evtCountZero t b v) := h.foldl fun _ _ k => .ite k.setRegN k
theorem Orderly.evtSet {b off v : Nat} (h : Orderly s t) : Orderly s (evtSet t b off v) :=
  .ite h.evtClear (.ite h.setRegN (.ite h.evtCountZero h))
theorem Orderly.setSvcReg {init a v : Nat} (h : Orderly s t) : OrderlyOpt s (setSvcReg t init a v) :=
  .ite (.some h.sysSwi) (.ite (.some h.sysUnlock) (.ite (.some h.flashCmd) (.orElse (.act fun _ => h.wdtCfg)
    (.act fun _ => h.wdtKick))))
theorem Orderly.tlCmd {v : Nat} (h : Orderly s t) : Orderly s (tlCmd t v) :=
  (((h.execCapture.after.ite h).when (·.execForceStep.after)).execForceAcquire.after.ite ((h.execCapture.after.ite h).when
    (·.execForceStep.after))).when (·.execRequalify.after)
theorem Orderly.refCfg {r v : Nat} (h : Orderly s t) : Orderly s (refCfg t r v) :=
  .ite (h.setRegN.setGnss.ite h.setRegN).setFlag.refSettle.tlLose h.setRegN.refSettle
theorem Orderly.fsynRatio {n a v : Nat} (h : Orderly s t) : Orderly s (fsynRatio t n a v) := .ite h.raise (.ite h.raise h.setRegN)
theorem Orderly.hoCmd {v : Nat} (h : Orderly s t) : Orderly s (hoCmd t v) := (h.execSnap.after.ite h).when (·.execForget.after)
theorem Orderly.tsensCfg {v : Nat} (h : Orderly s t) : Orderly s (tsensCfg t v) := .ite h.setRegN h.setRegN.setFlag
theorem Orderly.setTimReg {a v w : Nat} (h : Orderly s t) : OrderlyOpt s (setTimReg t a v w) :=
  .ite (.some h.tlCmd) (.ite (.some h.execTlPtpMeas.after) (.ite (.some h.setRegN) (.ite (.some h.execTlPtpSHi.after) (.ite
    (.some h.hoCmd) (.ite (.some h.tsensCfg) (.ite (.some h.execCalSet.after) (.ite (.some h.setRegN) (.ite
    (.some h.execCalLeapAdd.after) (.orElse (.act fun _ => h.refCfg) (.orElse (.act fun _ => h.execToCtlWrite.after) (.orElse
    (.act fun _ => h.execToEdgeTWrite.after) (.orElse (.act fun _ => h.execFsynArm.after) (.orElse (.act fun _ => h.fsynRatio)
    (.act fun _ => h.fsynRatio))))))))))))))
theorem Orderly.setPacReg {a w : Nat} (h : Orderly s t) : OrderlyOpt s (setPacReg t a w) :=
  .ite (.some (.ite h h.setRegN)) (.ite (.some h.execRbTest.after) (.ite (.some h.pacWrite) (.act fun _ => h.execPacAdmit.after)))
theorem Orderly.setNocReg {a v w : Nat} (h : Orderly s t) : OrderlyOpt s (setNocReg t a v w) :=
  .ite (.some h.execNocMonClr.after) (.ite (.some h.execSpFlipArm.after) (.orElse (.act fun _ => h.setRegN.setRegN.retryPaced)
    (.act fun _ => h.execSpBankCfgWrite.after)))
theorem Orderly.setCfgReg {a w : Nat} (h : Orderly s t) : OrderlyOpt s (setCfgReg t a w) :=
  .ite (.some h.cfgCmd) (.ite (.some h.execBmFlipArm.after) (.ite (.some (.ite h.execRestorePeer.after h)) (.ite
    (.some h.execFarPrioCommit.after) (.ite (.some h.execFarInject.after) (.act fun _ => h.gckWrite)))))
theorem Orderly.memCmd {x1 v : Nat} (h : Orderly s t) : Orderly s (memCmd t x1 v) :=
  .ite ((h.execInit.after.ite h).when (·.execRetirePage.after)).execRetireBank.after ((h.execInit.after.ite h).when
    (·.execRetirePage.after))
theorem Orderly.rollCmd {v : Nat} (h : Orderly s t) : Orderly s (rollCmd t v) :=
  .ite ((h.execRollStart.after.ite h).when (·.rollPause)).rollResume ((h.execRollStart.after.ite h).when (·.rollPause))
theorem Orderly.rngCtl {n v : Nat} (h : Orderly s t) : Orderly s (rngCtl t n v) :=
  .ite h.execImpRangeCommit.after h.execImpRangeDecommit.after
theorem Orderly.rngSet {n a v : Nat} (h : Orderly s t) : Orderly s (rngSet t n a v) := .ite h (.ite h.setRegN.rngShow h.setRegN)
theorem Orderly.setMemReg {init a v w : Nat} (h : Orderly s t) : OrderlyOpt s (setMemReg t init a v w) :=
  .ite (.some h) (.ite (.some h.rollCmd) (.ite (.some h.execImpReseed.after) (.ite (.some h.execImpTagFlipArm.after)
    (.orElse h.memHook (.orElse (.act fun _ => h.memCmd) (.orElse (.act fun _ => h.execMemFlipArm.after) (.orElse
    (.act fun _ => .ite h h.setRegN) (.orElse (.act fun _ => .ite h h.setRegN) (.orElse (.act fun _ => h.execCxlDecCommit.after)
    (.orElse (.act fun _ => h.rngSet) (.orElse (.act fun _ => h.rngSet) (.orElse (.act fun _ => h.rngSet) (.orElse
    (.act fun _ => h.rngSet) (.orElse (.act fun _ => h.rngSet) (.act fun _ => h.rngCtl)))))))))))))))
theorem Orderly.setLaneReg {a w : Nat} (h : Orderly s t) : OrderlyOpt s (setLaneReg t a w) := by
  unfold Machine.setLaneReg; dsimp only
  exact .ite (.some h.execAdopt.after) (.ite (.some h.tethCfg) (.ite (.some h.execSlip.after)
    (.orElse (.act fun _ => .ite h h.setRegN) (.orElse (.act fun _ => h.eqWrite) (.orElse (.act fun _ => h.eqWrite)
    (.orElse (.act fun _ => h.octWrite) (.orElse (.act fun _ => h.quadWrite) (.orElse (.act fun _ => h.jlWrite)
    (.orElse (.act fun _ => h.jlWrite) (.act fun _ => h.lemcWrite))))))))))
theorem Orderly.setEthReg {a w : Nat} (h : Orderly s t) : OrderlyOpt s (setEthReg t a w) :=
  .ite (.some h.mgtCfg) (.orElse (.act fun _ => h.ethCfg) (.act fun _ => h.execEthTxpPush.after))
theorem Orderly.winSet {mem i v : Nat} (h : Orderly s t) : Orderly s (winSet t mem i v) := .ite h (.ite h.setCore h.setCore.raiseIf)
theorem Orderly.setCanReg {a w : Nat} (h : Orderly s t) : OrderlyOpt s (setCanReg t a w) :=
  .ite (.some (.ite h h.setRegN)) (.ite (.some h.execCaImemWrite.after) (.orElse (.act fun _ => h.winSet) (.orElse
    (.act fun _ => h.winSet) (.orElse (.act fun _ => h.winSet) (.act fun _ => h.winSet)))))
theorem Orderly.setSecReg {a w : Nat} (h : Orderly s t) : OrderlyOpt s (setSecReg t a w) :=
  .ite (.some (.ite h.ownerExec h)) (.ite (.some h.keyCmd) (.ite (.some h.bistCmd) .none))
theorem Orderly.perSet {a v : Nat} (h : Orderly s t) : Orderly s (perSet t a v) := .ite h.setRegN.outStat h.raise
theorem Orderly.setOutReg {a v w : Nat} (h : Orderly s t) : OrderlyOpt s (setOutReg t a v w) :=
  .ite (.some h.latchClear) (.ite (.some h.perSet) (.ite (.some h.setRegN.gateSettle) .none))
theorem Orderly.setRlyReg {a w : Nat} (h : Orderly s t) : OrderlyOpt s (setRlyReg t a w) :=
  .ite (.some h.relayCfg) (.ite (.some h.relayCmd) (.orElse (.act fun _ => h.execRelayMirCommit.after)
    (.act fun _ => h.execRelayMpDb.after)))
theorem Orderly.setPwrReg {a v w : Nat} (h : Orderly s t) : OrderlyOpt s (setPwrReg t a v w) :=
  .ite (.some h.pwrCmd) (.ite (.some h.setRegN.permitSettle) (.orElse (.act fun _ => h.pdCtl) (.act fun _ => h.took.railCfg)))
theorem Orderly.setPinReg {init a w : Nat} (h : Orderly s t) : OrderlyOpt s (setPinReg t init a w) :=
  .ite (.some h) (.ite (.some h.periGate) (.ite (.some h.gpioDout) (.ite (.some h.gpioDout) (.ite (.some h.spi1Cmd) (.ite
    (.some h.spi1Push) (.orElse (.act fun _ => h.pinCfg) (.orElse (.act fun _ => h.uartPush) (.act fun _ => h.i2cCmd))))))))
theorem Orderly.setDbgReg {init a w : Nat} (h : Orderly s t) : OrderlyOpt s (setDbgReg t init a w) :=
  .ite (.some h.d2hWrite) (.ite (.some h) (.ite (.some h.canHalt) (.ite (.some h.canResume) (.ite (.some h.pacSnap) (.ite
    (.some h.h2dPush) (.act fun _ => h.canRegSet))))))
theorem Orderly.regAct {init a v w : Nat} (h : Orderly s t) : OrderlyOpt s (regAct t init a v w) := by
  unfold Machine.regAct
  split
  · exact h.setSvcReg
  · exact h.setTimReg
  · exact h.setPacReg
  · exact h.setNocReg
  · exact h.setCfgReg
  · exact h.setMemReg
  · exact h.setLaneReg
  · exact h.setEthReg
  · exact h.setCanReg
  · exact h.setSecReg
  · exact h.setOutReg
  · exact h.setRlyReg
  · exact h.setPwrReg
  · exact h.setPinReg
  · exact h.setDbgReg
  · exact .none
theorem Orderly.regPut {init a w : Nat} {row : RegRow} (h : Orderly s t) : Orderly s (regPut t init a w row) := by
  unfold Machine.regPut; dsimp only
  split
  next u e => exact h.regAct e
  · split
    · exact h.setRegN
    · exact h
    · exact h.setRegN
theorem Orderly.regSet {init a w : Nat} {row : RegRow} (h : Orderly s t) : Orderly s (regSet t init a w row) :=
  .ite h (.ite h.raise h.regPut)


/-! Dict.lean. -/

theorem Orderly.regPoke {a v : Nat} (h : Orderly s t) : Orderly s (regPoke t a v) := by
  unfold Machine.regPoke
  split
  · exact .ite h h.regPut
  · exact h
theorem Orderly.pokeWords {a n : Nat} {v : List Byte} (h : Orderly s t) : Orderly s (pokeWords t a n v) :=
  h.foldl fun _ _ k => k.regPoke
theorem Orderly.pokeFld {a hi lo v : Nat} (h : Orderly s t) : Orderly s (pokeFld t a hi lo v) := h.regPoke
theorem Orderly.keep {index sub : Nat} {v : List Byte} (h : Orderly s t) : Orderly s (keep t index sub v) := h.setFmp
theorem Orderly.setFmpRole {r : Nat} {x : FmpRole} (h : Orderly s t) : Orderly s (setFmpRole t r x) := h.setFmp
theorem Orderly.lockSet {sub v : Nat} (h : Orderly s t) : Orderly s (lockSet t sub v) := by
  unfold Machine.lockSet; dsimp only
  split
  · exact h.pokeFld
  · exact h.pokeFld
  · exact h.pokeFld
  · exact h.pokeFld
  · exact h.foldl fun _ _ k => k.pokeFld
theorem Orderly.lppPut {v : Nat} (h : Orderly s t) : Orderly s (lppPut t v) := h.execLppCtlHWrite.after.execLppCtlLWrite.after
theorem Orderly.keyWrite {cls slot index sub : Nat} {v : List Byte} (h : Orderly s t) : Orderly s
    (keyWrite t cls slot index sub v).1 :=
  by
  unfold Machine.keyWrite
  split
  next u _ e => exact (h.keyLoad.of_fst e).setKeyBuf.keep
  next u e => exact (h.keyLoad.of_fst e).setKeyBuf.took
theorem Orderly.blobWrite {cls slot index sub : Nat} {v : List Byte} (h : Orderly s t) : Orderly s
    (blobWrite t cls slot index sub v).1 :=
  h.keep.keyUnwrap.setKeyBuf
theorem Orderly.ownerWrite {v : List Byte} (h : Orderly s t) : Orderly s (ownerWrite t v) :=
  (h.foldl fun _ _ k => k.setRegN).ownerExec
theorem Orderly.ownSet {index sub : Nat} {v : List Byte} (h : Orderly s t) : Orderly s (ownSet t index sub v).1 := by
  unfold Machine.ownSet; dsimp only
  split
  · exact h.keyWrite
  · exact h.lockSet
  · exact .ite h h.forceStep
  · exact h.leapAdd
  · exact h.lppPut
  · exact h.execLppKeepWrite.after
  · exact (h.foldl fun _ _ k => k.pokeFld).pair
  · exact h.regPoke.pokeFld.pair
  · exact .ite h h.cfgCmd
  · exact h.pokeWords.pair
  · exact (h.foldl fun _ _ k => k.regPoke).regPoke.pair
  · exact .ite h h.rollCmd
  · exact h.regPoke.pair
  · exact h.regPoke.pair
  · exact h.regPoke.pair
  · exact .ite h h.pwrCmd
  · exact .ite h h.pwrCmd
  · exact .ite h h.pwrCmd
  · exact .ite h h.pwrCmd
  · exact .ite h h.pwrCmd
  · exact .ite h h.pwrCmd
  · exact .ite h h.relayCmd
  · exact h.ownerWrite
  · exact h.blobWrite
  · exact h.blobWrite
  · exact h.blobWrite
  · exact h.keyWrite
  · exact h.keyWrite
  · exact h
theorem Orderly.objSet {o : Obj} {sub : Nat} {v : List Byte} (h : Orderly s t) : Orderly s (objSet t o sub v).1 := by
  unfold Machine.objSet; dsimp only
  split
  · exact h
  · exact h.pokeFld
  · exact h.pokeFld
  · exact h.pokeWords
  · exact h.foldl fun _ _ k => k.pokeFld
  · exact h.keep
  · exact h.ownSet
theorem Orderly.jObj {o : Obj} {sub : Nat} {v : List Byte} (h : Orderly s t) : Orderly s (jObj t o sub v) := .ite h.setRly.jEntry h
theorem Orderly.objWrite {o : Obj} {sub : Nat} {v : List Byte} (h : Orderly s t) : Orderly s (objWrite t o sub v).1 :=
  .ite h.objSet.jObj h.objSet
theorem Orderly.applyObj {d : List Byte} (h : Orderly s t) : OrderlyOpt s (applyObj t d) := by
  unfold Machine.applyObj; dsimp only
  split
  · exact .ite .none (.some h.objSet)
  · exact .none
theorem Orderly.execObj (h : Orderly s t) : GoesOn s (execObj t) := .next (h.jApply fun _ _ k => k.applyObj)
theorem Orderly.execJoinReq (h : Orderly s t) : GoesOn s (execJoinReq t) := by
  unfold Machine.execJoinReq; dsimp only
  split
  · exact .next h
  next u _ _ e => exact .ite (.next (h.relTake e)) (.ite (.next (h.relTake e).relMsg) (.next (h.relTake e).jStop.setSync.setRly))

/-! Fmp.lean. -/

theorem Orderly.fmpDrop (h : Orderly s t) : Orderly s (fmpDrop t) := h.count.raise
theorem Orderly.fmpSend {via peer : Nat} {f : List Byte} (h : Orderly s t) : Orderly s (fmpSend t via peer f) :=
  .ite (.ite h.setFmp h.fmpDrop) h.setFmp.answer
theorem Orderly.fmpReply {q : FmpReq} {key : List Byte} {code flags tcode : Nat} {pay : List Byte} (h : Orderly s t) : Orderly s
    (fmpReply t q key code flags tcode pay) :=
  ((h.ite h.count).when (·.setFmpRole)).fmpSend
theorem Orderly.fmpSkip : ∀ {n : Nat} {t : State}, Orderly s t → Orderly s (fmpSkip n t)
  | 0, _, h => h
  | n + 1, t, h => by
    unfold Machine.fmpSkip
    split
    · exact .ite h.setFmp.fmpReply.fmpSkip h
    · exact h
theorem Orderly.fmpPop (h : Orderly s t) : Orderly s (fmpPop t) := h.setFmp
theorem Orderly.fmpEnd {q : FmpReq} {key : List Byte} {code flags tcode : Nat} {pay : List Byte} (h : Orderly s t) : Orderly s
    (fmpEnd t q key code flags tcode pay) :=
  .ite h.fmpPop.fmpReply h
theorem Orderly.fmpRow {cmd : Nat} {f : State → FmpReq → State × Option (Nat × Nat × Nat × List Byte)} (h : Orderly s t)
    (hf : ∀ u q, Orderly s u → Orderly s (f u q).1) : Orderly s (fmpRow t cmd f) := by
  unfold Machine.fmpRow; dsimp only
  split
  · exact h.fmpSkip
  · split
    next e => exact (hf _ _ h.fmpSkip).of_fst e
    next e => exact ((hf _ _ h.fmpSkip).of_fst e).fmpEnd
theorem Orderly.ends {code : Nat} (h : Orderly s t) : Orderly s (ends t code).1 := h
theorem Orderly.fmpRefuse {via peer : Nat} {f : List Byte} (h : Orderly s t) : Orderly s (fmpRefuse t via peer f) :=
  h.count.raise.both (·.fmpDrop) (·.setFmp.count.fmpSend)
theorem Orderly.fmpReceive {via peer : Nat} {f : List Byte} (h : Orderly s t) : Orderly s (fmpReceive t via peer f) := by
  unfold Machine.fmpReceive; dsimp only
  refine .ite h.fmpDrop ?_
  refine .ite h ?_
  refine .ite h.fmpDrop ?_
  refine .ite h.setFmp.fmpSkip ?_
  refine .ite h.setFmpRole.count.setFmp.fmpSkip ?_
  refine .ite ?_ h.fmpRefuse
  split
  · exact h.fmpSend
  · exact h
theorem Orderly.execFmpFrameRx {via : Fin 3} {peer : BitVec 48} {frame : List Byte} (h : Orderly s t) : GoesOn s
    (execFmpFrameRx via peer frame t) :=
  by
  unfold Machine.execFmpFrameRx
  refine .ite (.next h) ?_
  refine .ite ?_ (.next h.fmpReceive)
  split
  · exact .next h.setFmp.fmpReceive
  · exact .next h
theorem Orderly.execHello (h : Orderly s t) : GoesOn s (execHello t) := .next (h.fmpRow fun _ _ k => k)
theorem Orderly.userIssue {wr : Bool} {index sub word data : Nat} (h : Orderly s t) : Orderly s
    (userIssue t wr index sub word data).1 :=
  by
  unfold Machine.userIssue
  split
  · exact h
  · exact .iteFst h h.dpIssue
theorem Orderly.setUser {u : UserReq} (h : Orderly s t) : Orderly s (setUser t u) := h.setFmp
theorem Orderly.describe {index sub : Nat} (h : Orderly s t) : Orderly s (describe t index sub).1 := by
  unfold Machine.describe; dsimp only
  split
  · exact h
  · exact h
  · exact h.took.took
  · split
    · exact h
    · exact .iteFst h (.iteFst h h.setUser)
    · refine .iteFst h ?_
      split
      next u _ e => exact h.setUser.userIssue.of_fst e
      next u e => exact h.setUser.userIssue.of_fst e
theorem Orderly.userMove {o : Obj} {wr : Bool} {v : List Byte} (h : Orderly s t) : Orderly s (userMove t o wr v).1 :=
  .iteFst h.setUser (.iteFst h.setUser (.iteFst h.setUser h.setUser.userIssue))
theorem Orderly.fmpGet {o : Obj} {sub : Nat} (h : Orderly s t) : Orderly s (fmpGet t o sub).1 := by
  unfold Machine.fmpGet; dsimp only
  refine .iteFst ?_ (.iteFst h.drawBytes h)
  split
  next u e => exact h.userMove.of_fst e
  next u _ e => exact h.userMove.of_fst e
theorem Orderly.fmpPut {o : Obj} {sub : Nat} {v : List Byte} (h : Orderly s t) : Orderly s (fmpPut t o sub v).1 :=
  .iteFst h.userMove (.iteFst h.jWait h.objWrite)
theorem Orderly.execRead (h : Orderly s t) : GoesOn s (execRead t) := by
  unfold Machine.execRead; dsimp only
  refine .next ?_
  refine h.fmpRow fun _ _ k => ?_
  split
  next u e => exact k.describe.of_fst e
  next u _ e => exact (k.describe.of_fst e).ends
  next u _ _ e =>
    refine .iteFst (k.describe.of_fst e).ends ?_
    split
    next u e₁ => exact (k.describe.of_fst e).fmpGet.of_fst e₁
    next u _ _ e₁ => exact .iteFst ((k.describe.of_fst e).fmpGet.of_fst e₁).ends ((k.describe.of_fst e).fmpGet.of_fst e₁)
theorem Orderly.execWrite (h : Orderly s t) : GoesOn s (execWrite t) := by
  unfold Machine.execWrite; dsimp only
  refine .next ?_
  refine h.fmpRow fun _ _ k => ?_
  split
  next u e => exact k.describe.of_fst e
  next u _ e => exact (k.describe.of_fst e).ends
  next u _ _ e =>
    refine .iteFst (k.describe.of_fst e).ends ?_
    refine .iteFst ?_ ?_
    · split
      next u e₁ => exact ((k.describe.of_fst e).attRequest.of_fst e₁).setFmp
      next u _ e₁ => exact ((k.describe.of_fst e).attRequest.of_fst e₁).ends
    · split
      next u e₁ => exact (k.describe.of_fst e).fmpPut.of_fst e₁
      next u _ e₁ => exact ((k.describe.of_fst e).fmpPut.of_fst e₁).ends
theorem Orderly.execAttestSignDone {fail : Bool} (h : Orderly s t) : GoesOn s (execAttestSignDone fail t) := by
  unfold Machine.execAttestSignDone; dsimp only
  refine .ite (.next h) ?_
  split
  · exact .next (.ite h.attSign.fmpEnd h.attSign)
  · exact .next h.attSign
theorem Orderly.setSeg {r : Nat} {x : Option Segs} (h : Orderly s t) : Orderly s (setSeg t r x) := h.setFmp
theorem Orderly.execSegOpen (h : Orderly s t) : GoesOn s (execSegOpen t) := by
  unfold Machine.execSegOpen; dsimp only
  refine .next (h.fmpRow fun _ _ k => ?_)
  split
  next u e => exact (k.describe.of_fst e).pair
  next u _ e => exact (k.describe.of_fst e).ends
  next u _ _ e =>
    have k := k.describe.of_fst e
    refine .iteFst (.iteFst k.ends k.setSeg.ends) (.iteFst k.ends ?_)
    split
    next u e => exact (k.fmpGet.of_fst e).pair
    next u _ _ e => exact .iteFst (k.fmpGet.of_fst e).ends (k.fmpGet.of_fst e).setSeg.pair
theorem Orderly.execSegData (h : Orderly s t) : GoesOn s (execSegData t) := by
  unfold Machine.execSegData; dsimp only
  refine .next (h.fmpRow fun _ _ k => ?_)
  split
  · exact k.ends
  · exact .iteFst (.iteFst k.ends (.iteFst k.ends k.setSeg.ends)) (.iteFst k.ends (.iteFst k.ends k.setSeg.pair))
theorem Orderly.execSegClose (h : Orderly s t) : GoesOn s (execSegClose t) := by
  unfold Machine.execSegClose; dsimp only
  refine .next ?_
  refine h.fmpRow fun _ _ k => ?_
  split
  · exact k.ends
  · refine .iteFst k.ends ?_
    refine .iteFst k.ends ?_
    refine .iteFst k.setSeg.ends ?_
    refine .iteFst k.setSeg.ends ?_
    split
    next u e => exact k.describe.of_fst e
    next u _ e => exact (k.describe.of_fst e).setSeg.ends
    next u _ _ e =>
      refine .iteFst (k.describe.of_fst e).setSeg.ends ?_
      split
      next u e₁ => exact (k.describe.of_fst e).fmpPut.of_fst e₁
      next u _ e₁ => exact ((k.describe.of_fst e).fmpPut.of_fst e₁).setSeg.ends
theorem Orderly.execSegAbort (h : Orderly s t) : GoesOn s (execSegAbort t) := .next (h.fmpRow fun _ _ k => k.setSeg.ends)
theorem Orderly.execSegTimeout {role : Fin 4} (h : Orderly s t) : GoesOn s (execSegTimeout role t) := .next h.setSeg
theorem Orderly.setSect {k : Nat} {x : Sector} (h : Orderly s t) : Orderly s (setSect t k x) := h.setFmp
theorem Orderly.sectRetire {k : Nat} (h : Orderly s t) : Orderly s (sectRetire t k) := h.setSect.raise
theorem Orderly.sectTake : ∀ {n : Nat} {t : State} {k : Nat}, Orderly s t → Orderly s (sectTake n t k).1
  | 0, _, _, h => h
  | _ + 1, _, _, h => .iteFst h.sectTake (.iteFst h.sectRetire.sectTake h.setSect.setFmp)
theorem Orderly.storeAbort {c : Nat} (h : Orderly s t) : Orderly s (storeAbort t c) := h.setFmp
theorem Orderly.storeBegin {q : FmpReq} (h : Orderly s t) : Orderly s (storeBegin t q).1 := by
  unfold Machine.storeBegin
  split
  next u _ e => exact (h.sectTake.of_fst e).setFmp.fmpPop
  next u e => exact (h.sectTake.of_fst e).storeAbort.raise.ends
theorem Orderly.execStore (h : Orderly s t) : GoesOn s (execStore t) := .next (h.fmpRow fun _ _ k => .iteFst k.ends k.storeBegin)
theorem Orderly.toDefaults (h : Orderly s t) : Orderly s (toDefaults t) := h.foldl fun _ _ k => k.objWrite
theorem Orderly.execRestoreDefaults (h : Orderly s t) : GoesOn s (execRestoreDefaults t) := by
  unfold Machine.execRestoreDefaults; dsimp only
  refine .next (h.fmpRow fun _ _ k => .iteFst k.ends (.iteFst k.jWait.pair ?_))
  exact k.toDefaults.storeBegin
theorem Orderly.storeEnd {x : Storing} {code : Nat} (h : Orderly s t) : Orderly s (storeEnd t x code) := by
  unfold Machine.storeEnd; dsimp only
  split
  · exact h.setFmp.storeAbort.fmpReply
  · exact h.setFmp.storeAbort
theorem Orderly.execStoreDone {good : Bool} (h : Orderly s t) : GoesOn s (execStoreDone good t) := by
  unfold Machine.execStoreDone; dsimp only
  split
  · exact .next h
  · refine .ite (.next h.setSect.setRegN.raise.storeEnd) ?_
    refine .ite (.next h.sectRetire.raise.storeEnd) ?_
    split
    next u _ e => exact .next (h.sectRetire.sectTake.of_fst e).setFmp
    next u e => exact .next (h.sectRetire.sectTake.of_fst e).raise.storeEnd
theorem Orderly.epoch {r : Nat} (h : Orderly s t) : Orderly s (epoch t r) := by
  unfold Machine.epoch; dsimp only
  exact h.drawBytes.setFmpRole.setSeg
theorem Orderly.execEpoch (h : Orderly s t) : GoesOn s (execEpoch t) :=
  .next (h.fmpRow fun _ _ k => .iteFst k.ends (.iteFst k.took.ends k.epoch))
theorem Orderly.execArpRequest {ip : BitVec 32} (h : Orderly s t) : GoesOn s (execArpRequest ip t) :=
  .ite (.next h.answer) (.next h)
theorem Orderly.execIcmpEcho {ip : BitVec 32} {data : List Byte} (h : Orderly s t) : GoesOn s (execIcmpEcho ip data t) :=
  .ite (.next h.answer) (.next h)
theorem Orderly.execMgmtSpiWrite {frame : List Byte} (h : Orderly s t) : GoesOn s (execMgmtSpiWrite frame t) :=
  .ite (.next h) (.ite (.next h.setFmp) (.next h.setFmp))
theorem Orderly.execMgmtSpiStatus (h : Orderly s t) : GoesOn s (execMgmtSpiStatus t) := .ite (.next h) (.next h.setFmp.answer)
theorem Orderly.execMgmtSpiRead (h : Orderly s t) : GoesOn s (execMgmtSpiRead t) := .ite (.next h) (.next h.setFmp.answer)

/-! Boot.lean. -/

theorem Orderly.applyRefused (h : Orderly s t) : Orderly s (applyRefused t) := h.setFmp.raise
theorem Orderly.applyStored {o : Obj} {sub : Nat} {v : List Byte} (h : Orderly s t) : Orderly s (applyStored t o sub v) :=
  .ite h.keep (.ite h.applyRefused h.objSet)
theorem Orderly.applyDefault {o : Obj} {sub : Nat} (h : Orderly s t) : Orderly s (applyDefault t o sub) := .ite h h.objSet
theorem Orderly.applyOne {e : Obj × Nat} (h : Orderly s t) : Orderly s (applyOne t e) := by
  unfold Machine.applyOne
  split
  · exact h.applyStored
  · exact h.applyDefault
theorem Orderly.applyImage (h : Orderly s t) : Orderly s (applyImage t) := by
  unfold Machine.applyImage; dsimp only
  refine .foldl ?_ fun _ _ k => ?_
  · split
    · exact (h.foldl fun _ _ k => k.setSect).setRegN
    · exact h.foldl fun _ _ k => k.setSect
  · exact k.applyOne
theorem Orderly.fmpStart (h : Orderly s t) : Orderly s (fmpStart t) := .ite (h.foldl fun _ _ k => k.epoch) h
theorem Orderly.fwStart {f : FwImage} (h : Orderly s t) : Orderly s (fwStart t f) := by
  unfold Machine.fwStart; dsimp only
  exact (h.store.setRegN.setSec.wdtReload.setSvc.wdtReload.when (·.haltPair)).fmpStart.applyImage
theorem Orderly.pcieOn (h : Orderly s t) : Orderly s (pcieOn t) := h.octWrite.octWrite
theorem Orderly.strapAct (h : Orderly s t) : Orderly s (strapAct t) := .ite h.startLoad (.ite h.pcieOn h.raiseIf)
theorem Orderly.fwNone (h : Orderly s t) : Orderly s (fwNone t) := h.setFlag.raise.tamper.pcieOn
theorem Orderly.bootFirmware (h : Orderly s t) : Orderly s (bootFirmware t) := by
  unfold Machine.bootFirmware
  refine .ite h ?_
  split
  · exact h.fwStart
  · split
    · exact h.setFlag.raise.tamper.fwStart
    · exact h.fwNone
theorem Orderly.execBootComplete (h : Orderly s t) : GoesOn s (execBootComplete t) :=
  .ite (.next h) (.next h.redraw.attBoot.setPw.enterMode.bootFirmware.strapAct)
theorem Orderly.fwStage (h : Orderly s t) : Orderly s (fwStage t) := by
  unfold Machine.fwStage
  refine .ite h ?_
  split
  · exact h.setFlag.tamper.fwStart
  · exact h
theorem Orderly.execFwStage (h : Orderly s t) : GoesOn s (execFwStage t) := .next h.fwStage

/-! Bus.lean. -/

theorem Orderly.accFault {init status : Nat} (h : Orderly s t) : Orderly s (accFault t init status) := h.raiseIf.raiseIf
theorem Orderly.busErr {init a status : Nat} (h : Orderly s t) : Orderly s (busErr t init a status) := h.errNote.accFault
theorem Orderly.lppWrite {off v : Nat} (h : Orderly s t) : Orderly s (lppWrite t off v) := by
  unfold Machine.lppWrite; dsimp only
  split
  · exact h.execLppCtlLWrite.after
  · exact h.execLppCtlHWrite.after
  · exact h.execLppKeepWrite.after
  · exact h
theorem Orderly.ctrlRead {init a n : Nat} (h : Orderly s t) : Orderly s (ctrlRead t init a n).1 := by
  unfold Machine.ctrlRead; dsimp only
  refine .iteFst h ?_
  refine .iteFst h ?_
  split
  · exact h
  · exact h
  · exact h.wideRead
  · exact h.wideRead.wideRead
  · exact h
theorem Orderly.wordSet {init a v : Nat} {row : RegRow} (h : Orderly s t) : Orderly s (wordSet t init a v row) :=
  .ite h.regSet.fwStage h.regSet
theorem Orderly.wideWrite {init a w v : Nat} {row : RegRow} (h : Orderly s t) : Orderly s (wideWrite t init a w v row) :=
  .ite h.wordSet (.ite h (.ite h.setStaged (h.setStaged.foldl fun _ _ k => k.regSet)))
theorem Orderly.ctrlWrite {init a : Nat} {data : List Byte} (h : Orderly s t) : Orderly s (ctrlWrite t init a data).1 := by
  unfold Machine.ctrlWrite; dsimp only
  refine .iteFst h ?_
  refine .iteFst h ?_
  split
  · exact .ite h.lppWrite h
  · exact h.evtSet
  · exact h.wideWrite
  · exact h.wideWrite.wideWrite
  · exact h
theorem Orderly.busWrite {init a : Nat} {data : List Byte} (h : Orderly s t) : Orderly s (busWrite t init a data) :=
  (h.ctrlWrite.ite h.ctrlWrite.busErr).answer
theorem Orderly.execRegisterWrite {init : Fin 512} {addr : BitVec 48} {data : List Byte} (h : Orderly s t) : GoesOn s
    (execRegisterWrite init addr data t) :=
  .ite (.next h.busWrite) (.next h)
theorem Orderly.execWideRegisterWord0Read {init : Fin 512} {addr : BitVec 48} (h : Orderly s t) : GoesOn s
    (execWideRegisterWord0Read init addr t) :=
  by
  unfold Machine.execWideRegisterWord0Read; dsimp only
  split
  · exact .ite (.next (.ite h.ctrlRead.answer h.ctrlRead.busErr.answer)) (.next h)
  · exact .next h
theorem Orderly.execWideRegisterHighWrite {init : Fin 512} {addr : BitVec 48} {value : BitVec 32} (h : Orderly s t) : GoesOn s
    (execWideRegisterHighWrite init addr value t) :=
  by
  unfold Machine.execWideRegisterHighWrite; dsimp only
  split
  · exact .ite (.next h.busWrite) (.next h)
  · exact .next h
theorem Orderly.setSame {b : Nat} {same : BitVec 32} (h : Orderly s t) : Orderly s (setSame t b same) :=
  h.foldl fun _ _ k => .ite k.raise k
theorem Orderly.execEvtStatusClear {init : Fin 512} {block : Fin 15} {value same : BitVec 32} (h : Orderly s t) : GoesOn s
    (execEvtStatusClear init block value same t) :=
  .next h.busWrite.setSame
theorem Orderly.execEvtCountClr {init : Fin 512} {block : Fin 15} {value same : BitVec 32} (h : Orderly s t) : GoesOn s
    (execEvtCountClr init block value same t) :=
  .next h.busWrite.setSame

/-! Targets.lean. -/

theorem Orderly.waits (h : Orderly s t) : Orderly s (waits t).1 := h
theorem Orderly.ends_ {r : NocReq} {status : Nat} {data : List Byte} (h : Orderly s t) : Orderly s (ends_ t r status data).1 :=
  h.accFault.respond
theorem Orderly.keyNote {r : NocReq} (h : Orderly s t) : Orderly s (keyNote t r) := h.raiseIf
theorem Orderly.cxlSend {r : NocReq} (h : Orderly s t) : Orderly s (cxlSend t r) := h.setExt
theorem Orderly.memRead {r : NocReq} (h : Orderly s t) : Orderly s (memRead t r).1 := .iteFst h.physRead.ends_ h.cxlSend
theorem Orderly.tileRead {r : NocReq} {k : ImpKind} (h : Orderly s t) : Orderly s (tileRead t r k).1 := by
  unfold Machine.tileRead; dsimp only
  split
  · exact .iteFst h.ends_ h.waits
  · refine .iteFst h.waits ?_
    split
    · exact h.setImp
    · exact h.memRead
theorem Orderly.extRead {r : NocReq} (h : Orderly s t) : Orderly s (extRead t r).1 := by
  unfold Machine.extRead; dsimp only
  refine .iteFst h.keyNote.ends_ ?_
  refine .iteFst h.waits ?_
  split
  · exact h.memRead
  · exact h.tileRead
theorem Orderly.extWrite {r : NocReq} (h : Orderly s t) : Orderly s (extWrite t r).1 := by
  unfold Machine.extWrite
  split
  · exact .iteFst (h.rawWrite.ite h.viewWrite).ends_ h.cxlSend
  · exact h.setImp
theorem Orderly.spAtom {r : NocReq} (h : Orderly s t) : Orderly s (spAtom t r).1 :=
  .iteFst h.spReadWords.ends_ h.spReadWords.viewWrite.ends_
theorem Orderly.spRead {r : NocReq} (h : Orderly s t) : Orderly s (spRead t r).1 := h.spReadWords.ends_
theorem Orderly.sramRead {r : NocReq} {soft : Nat} (h : Orderly s t) : Orderly s (sramRead t r soft).1 :=
  .iteFst h.count.raise.ends_ (.iteFst h.count.raise.accFault.ends_ h.ends_)
theorem Orderly.hostSees {r : NocReq} (h : Orderly s t) : Orderly s (hostSees t r) := h.answer
theorem Orderly.flashRead {a n : Nat} (h : Orderly s t) : Orderly s (flashRead t a n).1 := .iteFst h.drawBytes h
theorem Orderly.readAt {r : NocReq} {soft : Nat} {host : Option (List Byte)} (h : Orderly s t) : Orderly s (readAt t r soft host).1
    :=
  by
  unfold Machine.readAt; dsimp only
  refine .iteFst h.ends_ ?_
  refine .iteFst (.iteFst h.spRead h.ends_) ?_
  refine .iteFst h.flashRead.ends_ ?_
  refine .iteFst h.sramRead ?_
  refine .iteFst h.ctrlRead.ends_ ?_
  refine .iteFst h.winAccess ?_
  refine .iteFst h.extRead ?_
  refine .iteFst ?_ h.ends_
  refine .iteFst ?_ h.ends_
  split <;> exact h.hostSees.ends_
theorem Orderly.mirGate {r : NocReq} {go : State → State × Bool} (h : Orderly s t) (hg : Orderly s (go t).1) :
    Orderly s (mirGate t r go).1 := .iteFst h.count.ends_ (.iteFst h.jWait.waits hg)
theorem Orderly.writeAt {r : NocReq} (h : Orderly s t) : Orderly s (writeAt t r).1 :=
  .iteFst h.ends_ (.iteFst (.iteFst h.ends_ (h.mirGate (h.rawWrite.ite h.viewWrite).ends_)) (.iteFst h.ends_ (.iteFst h.store.ends_
    (.iteFst (.iteFst h.ctrlWrite.ends_ h.ctrlWrite) (.iteFst h.winAccess (.iteFst (.iteFst h.keyNote.ends_ (.iteFst h.waits
    (h.mirGate h.extWrite))) (.iteFst (.iteFst h.hostSees.ends_ h.ends_) h.ends_)))))))
theorem Orderly.atomAt {r : NocReq} (h : Orderly s t) : Orderly s (atomAt t r).1 :=
  .iteFst h.winAccess (.iteFst h.ends_ (.iteFst h.ends_ (.iteFst h.ends_ (.iteFst h.spReadWords.count.ends_ (h.mirGate h.spAtom)))))
theorem Orderly.perform {i tag op : Nat} {bad : Bool} {f : State → NocReq → State × Bool} (h : Orderly s t)
    (hf : ∀ u r, Orderly s u → Orderly s (f u r).1) : Orderly s (perform t i tag op bad f) := by
  unfold Machine.perform; dsimp only
  split
  · exact h
  next r _ =>
    have k : Orderly s (if (bad && r.e2e) = true then Machine.ends_ t r stE2e [] else f t r).1 := .iteFst h.ends_ (hf t r h)
    exact .ite k.setNoc k
theorem Orderly.execNocRead {init : Fin 512} {tag : BitVec 9} {bad : Bool} {soft : Fin 3} {host : Option (List Byte)} (h
    : Orderly s t) : GoesOn s (execNocRead init tag bad soft host t) :=
  .next (h.perform fun _ _ k => k.readAt)
theorem Orderly.execNocWrite {init : Fin 512} {tag : BitVec 9} {bad : Bool} (h : Orderly s t) : GoesOn s
    (execNocWrite init tag bad t) :=
  .next (h.perform fun _ _ k => k.writeAt)
theorem Orderly.execNocAdd {init : Fin 512} {tag : BitVec 9} {bad : Bool} (h : Orderly s t) : GoesOn s (execNocAdd init tag bad t)
    :=
  .next (h.perform fun _ _ k => k.atomAt)
theorem Orderly.execNocSwap {init : Fin 512} {tag : BitVec 9} {bad : Bool} (h : Orderly s t) : GoesOn s
    (execNocSwap init tag bad t) :=
  .next (h.perform fun _ _ k => k.atomAt)

/-! DbgPort.lean. -/

theorem Orderly.dbgRead {a : Nat} (h : Orderly s t) : Orderly s (dbgRead t a).1 :=
  .iteFst h (.iteFst h (.iteFst (.iteFst h h) (.iteFst h.flashRead (.iteFst h (.iteFst h.ctrlRead (.iteFst (.iteFst h
    (.iteFst h h.drawBytes)) (.iteFst (.iteFst h h) (.iteFst (.iteFst h.drawBytes h) h))))))))
theorem Orderly.dbgWrite {a : Nat} {data : List Byte} (h : Orderly s t) : Orderly s (dbgWrite t a data).1 := by
  unfold Machine.dbgWrite; dsimp only
  exact .iteFst h.errNote.pair (.iteFst h.ctrlWrite.errNote.pair (.iteFst (.iteFst h.keyNote.errNote.pair h.viewWrite)
    (.iteFst (.iteFst h.viewWrite h.errNote.pair) (.iteFst h.store.pair (.iteFst (.iteFst h.errNote.pair
    (.iteFst h.errNote.pair h.winAccess.pair)) (.iteFst (.iteFst h.hostSees.pair h.errNote.pair)
    (.iteFst h.errNote.pair h.errNote.pair)))))))
theorem Orderly.dbgDone {status v : Nat} (h : Orderly s t) : Orderly s (dbgDone t status v) := h.setDbg.answer
theorem Orderly.execDbgSysRead {addr : BitVec 48} (h : Orderly s t) : GoesOn s (execDbgSysRead addr t) :=
  .ite (.next h.dbgDone) (.next h.dbgRead.dbgDone)
theorem Orderly.execDbgSysWrite {addr : BitVec 48} {data : BitVec 32} (h : Orderly s t) : GoesOn s (execDbgSysWrite addr data t) :=
  .ite (.next h.dbgDone) (.next h.dbgWrite.dbgDone)
theorem Orderly.setDmReg {a v : Nat} (h : Orderly s t) : Orderly s (setDmReg t a v) := h.setDbg
theorem Orderly.sbNext (h : Orderly s t) : Orderly s (sbNext t) := .ite h.setDmReg.setDmReg h
theorem Orderly.sbEnd {st : Nat} (h : Orderly s t) : Orderly s (sbEnd t st) := .ite h.sbNext h.setDmReg
theorem Orderly.sbRead (h : Orderly s t) : Orderly s (sbRead t) := by
  unfold Machine.sbRead
  refine .ite h (.ite h.sbEnd ?_)
  split
  next e =>
    have k := h.dbgRead.of_fst e
    exact (k.setDmReg.ite k).sbEnd
theorem Orderly.sbWrite (h : Orderly s t) : Orderly s (sbWrite t) := by
  unfold Machine.sbWrite
  refine .ite h (.ite h.sbEnd ?_)
  split
  next e => exact (h.dbgWrite.of_fst e).sbEnd
theorem Orderly.dmRead {a : Nat} (h : Orderly s t) : Orderly s (dmRead t a).1 := .iteFst h (.ite h.sbRead h)
theorem Orderly.cmdErr {c : Nat} (h : Orderly s t) : Orderly s (cmdErr t c) := h.setDmReg
theorem Orderly.hartReg {p n : Nat} (h : Orderly s t) : Orderly s (hartReg t p n).1 := by
  unfold Machine.hartReg; dsimp only
  refine .iteFst h ?_
  refine .iteFst h.took ?_
  split
  · exact h
  · exact h.took.setDbg
theorem Orderly.setHartReg {p n v : Nat} (h : Orderly s t) : Orderly s (setHartReg t p n v) := .ite h h.setDbg
theorem Orderly.dmCommand {v : Nat} (h : Orderly s t) : Orderly s (dmCommand t v) :=
  .ite h (.ite h.cmdErr (.ite h.cmdErr (.ite h.cmdErr (.ite h.cmdErr (.ite ((h.ite (.ite (h.iteFst h.took).setHartReg
    (h.hartReg.setDmReg.when (·.setDmReg)))).took.setDbg.when (·.cmdErr)) (.ite h (.ite (h.iteFst h.took).setHartReg
    (h.hartReg.setDmReg.when (·.setDmReg)))))))))
theorem Orderly.dmControlSet {v : Nat} (h : Orderly s t) : Orderly s (dmControlSet t v) :=
  .ite h.setDbg ((h.setDmReg.ite (.ite (((h.setDmReg.setDmBit.ite h.setDmReg).when (·.setDbg)).setDbg.ite
    ((h.setDmReg.setDmBit.ite h.setDmReg).when (·.setDbg))).haltReq ((((h.setDmReg.setDmBit.ite h.setDmReg).when
    (·.setDbg)).setDbg.ite ((h.setDmReg.setDmBit.ite h.setDmReg).when (·.setDbg))).when (·.setDmBit.resumeReq)))).when
    (·.took.systemReset))
theorem Orderly.dmSbcsSet {v : Nat} (h : Orderly s t) : Orderly s (dmSbcsSet t v) := h.setDmReg
theorem Orderly.dmWrite {a v : Nat} (h : Orderly s t) : Orderly s (dmWrite t a v) :=
  .ite h (.ite h.dmControlSet (.ite h (.ite h.cmdErr (.ite h.dmCommand (.ite h.dmSbcsSet (.ite (.ite h.setDmReg.sbRead h.setDmReg)
    (.ite h.setDmReg (.ite h.setDmReg.sbWrite (.ite h.setDmReg h)))))))))
theorem Orderly.execDtmcs {value : BitVec 32} (h : Orderly s t) : GoesOn s (execDtmcs value t) := .next h.setIr.answer
theorem Orderly.execDmi {op : BitVec 2} {addr : BitVec 7} {data : BitVec 32} (h : Orderly s t) : GoesOn s (execDmi op addr data t)
    :=
  .ite (.next h.setIr.dmRead.answer) (.ite (.next h.setIr.dmWrite.answer) (.next h.setIr.answer))
theorem Orderly.execAccessRegister {command : BitVec 32} (h : Orderly s t) : GoesOn s (execAccessRegister command t) :=
  .next h.dmWrite

/-! Release.lean. -/

theorem Orderly.execAdmissionDecide {rdStatus wrStatus : Fin 8} (h : Orderly s t) : GoesOn s
    (execAdmissionDecide rdStatus wrStatus t) :=
  by
  unfold Machine.execAdmissionDecide; dsimp only
  split
  · exact .next h
  · exact .ite (.next h.setPac.refuse) (.ite (.next h.jWait) (.next h.setPac.acceptOp.jEntry))
theorem Orderly.relTimed {o : Op} (h : Orderly s t) : Orderly s (relTimed t o) := by
  unfold Machine.relTimed
  refine .ite h.timedDrop ?_
  refine .ite h.pushTimed ?_
  split
  · exact h.setPac
  · exact h
theorem Orderly.relTarget {o : Op} (h : Orderly s t) : Orderly s (relTarget t o) := by
  unfold Machine.relTarget
  split
  · exact h
  · refine .ite h.count.setRly ?_
    split
    · exact h
    · exact .ite h.ethRelease (.ite h.cvRelease h.relTimed)
theorem Orderly.execOpRelease {slot : Fin 1048576} (h : Orderly s t) : GoesOn s (execOpRelease slot t) := by
  unfold Machine.execOpRelease
  split
  · exact .ite (.next h.releaseCore.relTarget) (.next h)
  · exact .next h

/-! The commands together. -/

theorem exec_goesOn (c : Instr) (s : State) : GoesOn s (exec c s) :=
  have h := Orderly.refl s
  match c with
  | .registerWrite .. => h.execRegisterWrite
  | .wideRegisterWord0Read .. => h.execWideRegisterWord0Read
  | .wideRegisterHighWrite .. => h.execWideRegisterHighWrite
  | .evtStatusClear .. => h.execEvtStatusClear
  | .evtCountClr .. => h.execEvtCountClr
  | .porRelease .. => h.execPorRelease
  | .railMonitorRelease => h.execRailMonitorRelease
  | .rcoStable => h.execRcoStable
  | .timingPllLock .. => h.execTimingPllLock
  | .bootComplete => h.execBootComplete
  | .srstN => h.execSrstN
  | .mainPowerLoss => h.execMainPowerLoss
  | .mainPowerReturn => h.execMainPowerReturn
  | .pdSwitchDone .. => h.execPdSwitchDone
  | .oscLost .. => h.execOscLost
  | .bothOscLost => h.execBothOscLost
  | .oscGoodAgain .. => h.execOscGoodAgain
  | .oscRevert => h.execOscRevert
  | .gnssPpsEdge .. => h.execGnssPpsEdge
  | .gnssPulseMissing .. => h.execGnssPulseMissing
  | .todMessage .. => h.execTodMessage
  | .tlPtpMeas .. => h.execTlPtpMeas
  | .tlPtpSHi .. => h.execTlPtpSHi
  | .ptpTimeout => h.execPtpTimeout
  | .synceLoss => h.execSynceLoss
  | .autoStep => h.execAutoStep
  | .holdoverRequalify => h.execHoldoverRequalify
  | .capture => h.execCapture
  | .forceStep => h.execForceStep
  | .forceAcquire => h.execForceAcquire
  | .requalify => h.execRequalify
  | .stepApply => h.execStepApply
  | .toEdgeTWrite .. => h.execToEdgeTWrite
  | .toCtlWrite .. => h.execToCtlWrite
  | .toEntryHead .. => h.execToEntryHead
  | .toEdgeApply .. => h.execToEdgeApply
  | .toPeriodicEdge .. => h.execToPeriodicEdge
  | .ppsOutEdge => h.execPpsOutEdge
  | .tlioEntryPush .. => h.execTlioEntryPush
  | .tlioTsPop .. => h.execTlioTsPop
  | .tsiEdgeCapture .. => h.execTsiEdgeCapture
  | .tsiHiRead .. => h.execTsiHiRead
  | .fsynArm .. => h.execFsynArm
  | .fsynStart .. => h.execFsynStart
  | .hoLearnSecond => h.execHoLearnSecond
  | .hoRefit => h.execHoRefit
  | .hoSnapshot => h.execHoSnapshot
  | .snap => h.execSnap
  | .forget => h.execForget
  | .tsensRead .. => h.execTsensRead
  | .hoSteerSecond .. => h.execHoSteerSecond
  | .holdoverExpiry => h.execHoldoverExpiry
  | .calSecond => h.execCalSecond
  | .calAutoTrim .. => h.execCalAutoTrim
  | .vbatBrownout => h.execVbatBrownout
  | .xtStop => h.execXtStop
  | .vbatCheck .. => h.execVbatCheck
  | .calSet .. => h.execCalSet
  | .calSRead .. => h.execCalSRead
  | .calLeapAdd .. => h.execCalLeapAdd
  | .leapApply .. => h.execLeapApply
  | .lppCtlLWrite .. => h.execLppCtlLWrite
  | .lppCtlHWrite .. => h.execLppCtlHWrite
  | .lppKeepWrite .. => h.execLppKeepWrite
  | .lppCommitApply => h.execLppCommitApply
  | .lppStart => h.execLppStart
  | .lppPpsPulse .. => h.execLppPpsPulse
  | .lppFrameStrobe .. => h.execLppFrameStrobe
  | .lppHoldoverStop => h.execLppHoldoverStop
  | .pacAdmit .. => h.execPacAdmit
  | .admissionDequeue => h.execAdmissionDequeue
  | .admissionDecide .. => h.execAdmissionDecide
  | .opStart => h.execOpStart
  | .opReady .. => h.execOpReady
  | .canterGrant .. => h.execCanterGrant
  | .preempt .. => h.execPreempt
  | .hpGrant .. => h.execHpGrant
  | .hpDone .. => h.execHpDone
  | .dmaComplete .. => h.execDmaComplete
  | .stagerFetchDone .. => h.execStagerFetchDone
  | .opReport .. => h.execOpReport
  | .alarmWindowEnd .. => h.execAlarmWindowEnd
  | .opDeadline .. => h.execOpDeadline
  | .opRelease .. => h.execOpRelease
  | .timedReleaseFetchDone .. => h.execTimedReleaseFetchDone
  | .pacGraphCfgWrite .. => h.execPacGraphCfgWrite
  | .pacFlowCfgWrite .. => h.execPacFlowCfgWrite
  | .pacCtlWrite .. => h.execPacCtlWrite
  | .rbAlarm .. => h.execRbAlarm
  | .rbTokClr .. => h.execRbTokClr
  | .rbTest .. => h.execRbTest
  | .rbLossHiRead .. => h.execRbLossHiRead
  | .nop .. => h.execNop
  | .cmac .. => h.execCmac
  | .drmac .. => h.execDrmac
  | .pcmac .. => h.execPcmac
  | .ext .. => h.execExt
  | .ashr .. => h.execAshr
  | .ald .. => h.execAld
  | .amov .. => h.execAmov
  | .aadd .. => h.execAadd
  | .cadd .. => h.execCadd
  | .csub .. => h.execCsub
  | .cadds .. => h.execCadds
  | .csubs .. => h.execCsubs
  | .conj .. => h.execConj
  | .mov .. => h.execMov
  | .ld .. => h.execLd
  | .st .. => h.execSt
  | .rot .. => h.execRot
  | .clra .. => h.execClra
  | .ask .. => h.execAsk
  | .wait .. => h.execWait
  | .loop .. => h.execLoop
  | .loopr .. => h.execLoopr
  | .br .. => h.execBr
  | .movil .. => h.execMovil
  | .movih .. => h.execMovih
  | .addp .. => h.execAddp
  | .addpd .. => h.execAddpd
  | .movpd .. => h.execMovpd
  | .setm .. => h.execSetm
  | .setrm .. => h.execSetrm
  | .get .. => h.execGet
  | .put .. => h.execPut
  | .idle .. => h.execIdle
  | .getComplete .. => h.execGetComplete
  | .putComplete .. => h.execPutComplete
  | .grantLoad .. => h.execGrantLoad
  | .preemptSwitch .. => h.execPreemptSwitch
  | .abandon .. => h.execAbandon
  | .caImemWrite .. => h.execCaImemWrite
  | .saveDone => h.execSaveDone
  | .restoreDone => h.execRestoreDone
  | .contentionSample .. => h.execContentionSample
  | .bmFlipArm .. => h.execBmFlipArm
  | .dpReq .. => h.execDpReq
  | .dpAck .. => h.execDpAck
  | .dpTimeout .. => h.execDpTimeout
  | .gckCfgWrite .. => h.execGckCfgWrite
  | .gckStart .. => h.execGckStart
  | .loadFull .. => h.execLoadFull
  | .loadPartial .. => h.execLoadPartial
  | .abort .. => h.execAbort
  | .empty .. => h.execEmpty
  | .pass1Done .. => h.execPass1Done
  | .loadTimeout => h.execLoadTimeout
  | .prIsolate => h.execPrIsolate
  | .pass2Chunk .. => h.execPass2Chunk
  | .altUsed => h.execAltUsed
  | .startupClocks => h.execStartupClocks
  | .driverRelease => h.execDriverRelease
  | .gsrRelease => h.execGsrRelease
  | .loadDone => h.execLoadDone
  | .frameSlot .. => h.execFrameSlot
  | .priorityPassStart .. => h.execPriorityPassStart
  | .repairWrite .. => h.execRepairWrite
  | .repairVerify .. => h.execRepairVerify
  | .refetchChunk .. => h.execRefetchChunk
  | .farrierRateUpdate => h.execFarrierRateUpdate
  | .farPrioCommit .. => h.execFarPrioCommit
  | .peerStallCheck .. => h.execPeerStallCheck
  | .restorePeer .. => h.execRestorePeer
  | .farLogRead .. => h.execFarLogRead
  | .farInject .. => h.execFarInject
  | .nocInject .. => h.execNocInject
  | .curbRefill => h.execCurbRefill
  | .linkResend .. => h.execLinkResend
  | .nocRead .. => h.execNocRead
  | .nocWrite .. => h.execNocWrite
  | .nocAdd .. => h.execNocAdd
  | .nocSwap .. => h.execNocSwap
  | .nocResponse .. => h.execNocResponse
  | .spBankCfgWrite .. => h.execSpBankCfgWrite
  | .spStateDone .. => h.execSpStateDone
  | .spFlipArm .. => h.execSpFlipArm
  | .nocMonClr .. => h.execNocMonClr
  | .frpRequest .. => h.execFrpRequest
  | .frpTargetResponse .. => h.execFrpTargetResponse
  | .tgtTimeout .. => h.execTgtTimeout
  | .mergeFlush .. => h.execMergeFlush
  | .refreshDue .. => h.execRefreshDue
  | .init .. => h.execInit
  | .initDone .. => h.execInitDone
  | .retrainDue .. => h.execRetrainDue
  | .trainingSlot .. => h.execTrainingSlot
  | .trainForced .. => h.execTrainForced
  | .patrolRead .. => h.execPatrolRead
  | .retirePage .. => h.execRetirePage
  | .retirePageDone .. => h.execRetirePageDone
  | .retireBank .. => h.execRetireBank
  | .retireDone .. => h.execRetireDone
  | .memFlipArm .. => h.execMemFlipArm
  | .memLogRead .. => h.execMemLogRead
  | .cxlDecCommit .. => h.execCxlDecCommit
  | .cxlResponse .. => h.execCxlResponse
  | .cxlTimeout .. => h.execCxlTimeout
  | .cxlLinkChg .. => h.execCxlLinkChg
  | .cxlEcamAccess _ _ ofs value _ => h.execCxlEcamAccess (ofs := ofs) (value := value)
  | .pcieInbound .. => h.execPcieInbound
  | .pcieLinkChg .. => h.execPcieLinkChg
  | .impTileRead .. => h.execImpTileRead
  | .impNodeVerify .. => h.execImpNodeVerify
  | .impTagCheck .. => h.execImpTagCheck
  | .impCheckTimeout .. => h.execImpCheckTimeout
  | .impTileWrite .. => h.execImpTileWrite
  | .impTileWriteback .. => h.execImpTileWriteback
  | .impRangeCommit .. => h.execImpRangeCommit
  | .impRangeDecommit .. => h.execImpRangeDecommit
  | .impReseed .. => h.execImpReseed
  | .rollStart .. => h.execRollStart
  | .rollPause => h.execRollPause
  | .rollResume => h.execRollResume
  | .rollClaim => h.execRollClaim
  | .rollTileDone => h.execRollTileDone
  | .rollRetry => h.execRollRetry
  | .impTagFlipArm .. => h.execImpTagFlipArm
  | .impLogRead .. => h.execImpLogRead
  | .laneSignalDetect .. => h.execLaneSignalDetect
  | .laneLos .. => h.execLaneLos
  | .eqAdaptStep .. => h.execEqAdaptStep
  | .ethEnable .. => h.execEthEnable
  | .ethTxStart .. => h.execEthTxStart
  | .ethTxFrameDone .. => h.execEthTxFrameDone
  | .ethTxpPush .. => h.execEthTxpPush
  | .ethRxFrame .. => h.execEthRxFrame
  | .linkChg .. => h.execLinkChg
  | .ethTxtsRead .. => h.execEthTxtsRead
  | .mgtRxFrame .. => h.execMgtRxFrame
  | .mgtTxProdWrite .. => h.execMgtTxProdWrite
  | .mgtTxFrame => h.execMgtTxFrame
  | .mgtLinkChg .. => h.execMgtLinkChg
  | .jsysrefEdge .. => h.execJsysrefEdge
  | .adopt .. => h.execAdopt
  | .jesdBufferStart .. => h.execJesdBufferStart
  | .jesdFetchDone .. => h.execJesdFetchDone
  | .jesdRxEmb .. => h.execJesdRxEmb
  | .jlLinkDown .. => h.execJlLinkDown
  | .tetherFrameTx => h.execTetherFrameTx
  | .tetherFrameRx .. => h.execTetherFrameRx
  | .slip .. => h.execSlip
  | .tetherDeskewTimeout => h.execTetherDeskewTimeout
  | .tethFifoErr .. => h.execTethFifoErr
  | .roleElection .. => h.execRoleElection
  | .roleConflict => h.execRoleConflict
  | .relayFrameRx => h.execRelayFrameRx
  | .heartbeat => h.execHeartbeat
  | .timeReq => h.execTimeReq
  | .timeResp => h.execTimeResp
  | .ack => h.execAck
  | .mark => h.execMark
  | .admitEntry => h.execAdmit
  | .cfg => h.execCfg
  | .mem => h.execMem
  | .tile => h.execTile
  | .obj => h.execObj
  | .port => h.execPort
  | .handover => h.execHandover
  | .joinReq => h.execJoinReq
  | .snapEnd => h.execSnapEnd
  | .journalMark => h.execJournalMark
  | .ackPeriodic => h.execAckPeriodic
  | .journalResend => h.execJournalResend
  | .journalStall => h.execJournalStall
  | .partnerUnsynced => h.execPartnerUnsynced
  | .timeExchange => h.execTimeExchange
  | .heartbeatSend => h.execHeartbeatSend
  | .hbPinPulse .. => h.execHbPinPulse
  | .partnerLost => h.execPartnerLost
  | .hbPathLost .. => h.execHbPathLost
  | .fenceInSet .. => h.execFenceInSet
  | .takeover .. => h.execTakeover
  | .takeoverBlocked => h.execTakeoverBlocked
  | .join .. => h.execJoin
  | .relayCmdHandover .. => h.execRelayCmdHandover
  | .unfence .. => h.execUnfence
  | .ctrClear .. => h.execCtrClear
  | .fenceRelease => h.execFenceRelease
  | .relayMpDb .. => h.execRelayMpDb
  | .relayMirCommit .. => h.execRelayMirCommit
  | .relayGapRead .. => h.execRelayGapRead
  | .fmpFrameRx .. => h.execFmpFrameRx
  | .hello => h.execHello
  | .read => h.execRead
  | .write => h.execWrite
  | .segOpen => h.execSegOpen
  | .segData => h.execSegData
  | .segClose => h.execSegClose
  | .segAbort => h.execSegAbort
  | .segTimeout .. => h.execSegTimeout
  | .store => h.execStore
  | .storeDone .. => h.execStoreDone
  | .restoreDefaults => h.execRestoreDefaults
  | .epoch => h.execEpoch
  | .arpRequest .. => h.execArpRequest
  | .icmpEcho .. => h.execIcmpEcho
  | .mgmtSpiWrite .. => h.execMgmtSpiWrite
  | .mgmtSpiStatus => h.execMgmtSpiStatus
  | .mgmtSpiRead => h.execMgmtSpiRead
  | .release .. => h.execRelease
  | .recommission .. => h.execRecommission
  | .leaveSafe .. => h.execLeaveSafe
  | .stable .. => h.execStable
  | .cancel .. => h.execCancel
  | .wakeNow .. => h.execWakeNow
  | .reset .. => h.execReset
  | .replan .. => h.execReplan
  | .pdOffReq .. => h.execPdOffReq
  | .stableEntry => h.execStableEntry
  | .stableAsleep => h.execStableAsleep
  | .stableWakeEvent .. => h.execStableWakeEvent
  | .wakeUngate => h.execWakeUngate
  | .stableExit => h.execStableExit
  | .avsLoop .. => h.execAvsLoop
  | .canaryTrip .. => h.execCanaryTrip
  | .pmbusAlert .. => h.execPmbusAlert
  | .avsRailEnable .. => h.execAvsRailEnable
  | .ageMeasure .. => h.execAgeMeasure
  | .agePeriodReplan => h.execAgePeriodReplan
  | .addSlot .. => h.execAddSlot
  | .revoke .. => h.execRevoke
  | .own .. => h.execOwn
  | .deploy .. => h.execDeploy
  | .return .. => h.execReturn
  | .scrap .. => h.execScrap
  | .arbSet .. => h.execArbSet
  | .debugGrant .. => h.execDebugGrant
  | .attKeygen .. => h.execAttKeygen
  | .keygenDone .. => h.execKeygenDone
  | .bridleSet .. => h.execBridleSet
  | .fwStage => h.execFwStage
  | .keyLoad .. => h.execKeyLoad
  | .keyUnwrap .. => h.execKeyUnwrap
  | .keyClear .. => h.execKeyClear
  | .attestChallenge .. => h.execAttestChallenge
  | .attestSignDone .. => h.execAttestSignDone
  | .attTokenGain => h.execAttTokenGain
  | .trngFail => h.execTrngFail
  | .secRngRead .. => h.execSecRngRead
  | .bistLogic .. => h.execBistLogic
  | .bistMemory .. => h.execBistMemory
  | .bistDone .. => h.execBistDone
  | .erase => h.execErase
  | .eraseDone .. => h.execEraseDone
  | .windowReport .. => h.execWindowReport
  | .tlUncCheck => h.execTlUncCheck
  | .lockstepMismatch .. => h.execLockstepMismatch
  | .clockCheck .. => h.execClockCheck
  | .railTrip .. => h.execRailTrip
  | .tempRead .. => h.execTempRead
  | .dualTx .. => h.execDualTx
  | .selfDisagree => h.execSelfDisagree
  | .rcoEdgeLoss => h.execRcoEdgeLoss
  | .safeEntry => h.execSafeEntry
  | .gateOpen => h.execGateOpen
  | .outLatchClear .. => h.execOutLatchClear
  | .bistSlot => h.execBistSlot
  | .bistCoreTestEnd .. => h.execBistCoreTestEnd
  | .bistSkip => h.execBistSkip
  | .bistMemoryTestEnd .. => h.execBistMemoryTestEnd
  | .wdtKick .. => h.execWdtKick
  | .wdtWarning .. => h.execWdtWarning
  | .wdtExpire .. => h.execWdtExpire
  | .sysUnlock .. => h.execSysUnlock
  | .sysSwi .. => h.execSysSwi
  | .periGateWrite .. => h.execPeriGateWrite
  | .pinCfgWrite .. => h.execPinCfgWrite
  | .pinSwitchMake .. => h.execPinSwitchMake
  | .gpioDoutWrite .. => h.execGpioDoutWrite
  | .gpioEdge .. => h.execGpioEdge
  | .uartTxPush .. => h.execUartTxPush
  | .uartRxPop .. => h.execUartRxPop
  | .uartRxByte .. => h.execUartRxByte
  | .uartTxByte .. => h.execUartTxByte
  | .spi1Cmd .. => h.execSpi1Cmd
  | .spi1Done .. => h.execSpi1Done
  | .spi1DataAccess .. => h.execSpi1DataAccess
  | .i2cCmd .. => h.execI2cCmd
  | .i2cDone .. => h.execI2cDone
  | .flashErase .. => h.execFlashErase
  | .flashProgram .. => h.execFlashProgram
  | .flashDone .. => h.execFlashDone
  | .idcode => h.execIdcode
  | .samplePreload p =>
    have k := h.execSamplePreload (preload := p)
    k
  | .extest => h.execExtest
  | .dtmcs value => h.execDtmcs (value := value)
  | .dmi .. => h.execDmi
  | .bypass => h.execBypass
  | .tapReset => h.execTapReset
  | .unlockRequest .. => h.execUnlockRequest
  | .dbgSysRead .. => h.execDbgSysRead
  | .dbgSysWrite .. => h.execDbgSysWrite
  | .haltreq .. => h.execHaltreq
  | .resumereq .. => h.execResumereq
  | .accessRegister .. => h.execAccessRegister
  | .dbgCanHalt .. => h.execDbgCanHalt
  | .dbgCanResume .. => h.execDbgCanResume
  | .dbgPacSnap .. => h.execDbgPacSnap
  | .pacSnapshot => h.execPacSnapshot
  | .mboxH2dPush .. => h.execMboxH2dPush
  | .mboxH2dPop .. => h.execMboxH2dPop
  | .mboxD2hPush .. => h.execMboxD2hPush
  | .mboxD2hPop .. => h.execMboxD2hPop
  | .illegal .. => h.execIllegal
  | .cellFlipFlopEdge .. => h.execCellFlipFlopEdge
  | .bmPortAccess .. => h.execBmPortAccess
  | .sliceClockEdge .. => h.execSliceClockEdge
  | .fsynUnlock .. => h.execFsynUnlock
  | .pllUnlock .. => h.execPllUnlock
  | .embLock .. => h.execEmbLock
  | .prbsError .. => h.execPrbsError
  | .autoJoin => h.execAutoJoin
  | .trngOk => h.execTrngOk
  | .bucketRecord => h.execBucketRecord
  | .missingEdgeTrip .. => h.execMissingEdgeTrip
  | .backupDomainPowered => h.execBackupDomainPowered
  | .xtRestart => h.execXtRestart
  | .porNLow => h.execPorNLow

end Sys2Proof.Machine
end

section
/-! PROOFS. The queue, the step and the state right after reset: O1, O3, O4, O5 and O6. -/

namespace Sys2Proof.Machine

theorem Orderly.idle {s t : State} (h : Orderly s t) : Orderly s (idle t) := by
  unfold Machine.idle
  exact .ite (h.setTim (x := { t.tim with tl := _, cks := _ })) h

/-- A step goes on from the state whose queue has lost its first command. -/
theorem step_goesOn (s : State) : GoesOn { s with pending := s.pending.tail } (step s) := by
  unfold step
  split
  next e =>
    have h : Orderly { s with pending := s.pending.tail } s := ⟨by rw [e, List.tail_nil], id, id⟩
    exact .next h.idle
  next e =>
    rw [e]
    exact exec_goesOn _ _

theorem orderly_of_step {s t : State} (e : step s = .next t) : Orderly { s with pending := s.pending.tail } t := by
  obtain ⟨u, e', h⟩ := step_goesOn s
  exact Host.Outcome.next.inj (e.symm.trans e') ▸ h

/-- Settles O1, by the step's case of a waiting command. -/
theorem stepRunsFront : Obligations.StepRunsFront := by
  intro c rest s h
  simp only [step, h]

/-- Settles O3: the registers named read their tables' reset values, and no event register has one. -/
theorem resetState : Obligations.ResetState := by
  have events : ∀ b < 15, ∀ n < 32, State.reset.regN (evtStatus b) = 0 ∧ State.reset.regN (evtCount b n) = 0 := by decide +kernel
  exact ⟨rfl, rfl, ⟨rfl, memWf_reset⟩, by decide +kernel, by decide +kernel, by decide +kernel, by decide +kernel,
    fun b n hb hn => events b hb n hn⟩

/-- Settles O4: every command's meaning has its rule of order, which gives the next state. -/
theorem everyCommandGoesOn : Obligations.EveryCommandGoesOn := fun c s =>
  have ⟨t, e, _⟩ := exec_goesOn c s
  ⟨t, e⟩

/-- Settles O5, by the rules of order. -/
theorem stepKeepsCanonical : Obligations.StepKeepsCanonical := by
  intro s t ⟨hr, hm⟩ e
  have h := orderly_of_step e
  exact ⟨h.regs hr, h.mem hm⟩

/-- Settles O6, by the rules of order. -/
theorem stepKeepsQueueOrder : Obligations.StepKeepsQueueOrder := by
  intro c rest s t hp e
  rw [(orderly_of_step e).pending, hp, List.tail_cons]

end Sys2Proof.Machine
end

section
/-! PROOFS. The Pacer's operations after a step: O22. -/

namespace Sys2Proof.Machine

/-- A device in SERVICE whose Pacer has issued the read of a descriptor at slot 2^20, past the scratchpad's last one; the descriptor is a
good one, due in 256 ticks. -/
def farAdmission : State :=
  let s := State.reset.setPac { admRead := [⟨0, 2 ^ 26⟩] }
  let s := ((s.setFlag Reg.PAC_CTL 0 true).setFld Reg.PWR_MODE 3 0 6).setRegN (Reg.PAC_GRP_LIM 0) 0xFFFFF
  { s with mem := [(0x14000001, 1), (0x14000005, 1)], pending := [.admissionDecide 0 0] }

/-- Refutes O22: the decision of an admission takes its slot from the read that was issued, with no bound of its own, and `Pacer.ok` does
not speak of the reads. -/
theorem not_pacerStateKept : ¬ Obligations.PacerStateKept := by
  intro h
  have ok : farAdmission.pac.ok = true := rfl
  have bad : (match step farAdmission with | .next t => t.pac.ok | _ => true) = false := by decide +kernel
  obtain ⟨t, e, -⟩ := step_goesOn farAdmission
  rw [e] at bad
  exact Bool.false_ne_true (bad.symm.trans (h farAdmission t ok e))

end Sys2Proof.Machine
end

section
/-! PROOFS. A statement of 12_imp.md: accesses of protected tiles (O48). -/

namespace Sys2Proof.Machine

/-- The descriptor in slot 1, running on core 0. -/
def runsOnCore0 : Op :=
  { id := 0, slot := 1, due := 4, start := 0, cost := 100, group := 0, cls := 0, list := 0, ordered := false, flow := 0, safety := false
    seq := 0, graph := 0, nodeValid := false, kernel := 0, target := 0, any := true, teamMask := 0, relKind := 0, relId := 0, arg := 0
    ins := [], outs := [], admitPt := 0, st := .running, worker := some 0 }

/-- A read of core 0, not awaited. -/
def aheadRead : NocReq := { init := 0, tag := 0, op := 0, cls := 0, kix := 0, await := false, e2e := false, addr := 0, len := 1, data := [] }

/-- A device whose range 0 is committed in ENC_INT and marked POISONED, with core 0's read of its first tile waiting while core 0 runs a
descriptor. -/
def poisonedAhead : State :=
  let s := State.reset.setImp { reads := [⟨0, some aheadRead⟩] }
  let s := (s.setRegN (Reg.IMP_RNG_CTL 0) (2 + 2 ^ 9 + 2 ^ 12)).setRegN (Reg.IMP_RNG_SIZE 0) 1
  s.setPac { ops := [runsOnCore0], nextId := 1 }

/-- Refutes O48: a poisoned read that is speculative raises the late alarm, which reins back the operation that made it; an operation
with no time left is MISSED, and its outcome is written into its descriptor. -/
theorem not_impAccess : ¬ Obligations.ImpAccess := by
  intro h
  obtain ⟨-, poisoned, -⟩ := h
  have found : poisonedAhead.imp.reads.find? (fun x => x.tile == (0 : BitVec 39).toNat) = some ⟨(0 : BitVec 39).toNat, some aheadRead⟩ := rfl
  obtain ⟨t, e, -, -, -, same⟩ := poisoned poisonedAhead 0 aheadRead 0 found (by decide +kernel) (by decide +kernel) (by decide)
  have written : (match exec (.impTileRead 0) poisonedAhead with | .next t => t.byte 0x10000078 | _ => 0) = 4 := by decide +kernel
  have was : poisonedAhead.byte 0x10000078 = 0 := rfl
  rw [e] at written
  exact absurd (written.symm.trans ((same _).trans was)) (by decide)

end Sys2Proof.Machine
end

section
/-! PROOFS. A statement of 19_controller_service_pins.md: the service ports (O59). -/

namespace Sys2Proof.Machine

/-- UART_STAT's fills and SHIFT of a UART, which `setUart` writes as one sum. -/
def uartStat (x : Uart) : Nat := x.rx.length + x.tx.length * 2 ^ 8 + bit x.sh.isSome * 2 ^ 15

theorem regN_setUart (s : State) (u : Nat) (x : Uart) : (setUart s u x).regN (Reg.UART_STAT u) = uartStat x % 2 ^ 32 := by
  have apart : evtStatus blkPin ≠ Reg.UART_STAT u := by unfold Reg.UART_STAT evtStatus blockBase ctrlBase blkPin; omega
  have counter : Reg.UART_STAT u ≠ evtCount blkPin (3 * u) := by unfold Reg.UART_STAT evtCount blockBase ctrlBase blkPin; omega
  unfold setUart; dsimp only; split
  · rw [regN_of_reg (reg_setFlag_ne _ _ _ apart), regN_setRegN, if_pos rfl]; rfl
  · unfold State.raiseIf; split
    · rw [regN_of_reg (reg_raise _ _ _ _ apart.symm counter), regN_setRegN, if_pos rfl]; rfl
    · rw [regN_setRegN, if_pos rfl]; rfl

theorem uartOf_setUart (s : State) (u : Nat) (x : Uart) : uartOf (setUart s u x) u = x := by
  have put : uartOf (s.setSvc { s.svc with uarts := sput (fun _ => {}) s.svc.uarts u x }) u = x := sget_sput_same _ _ _ _
  unfold setUart uartOf at *; dsimp only; split <;> simpa using put

theorem dbg_setUart (s : State) (u : Nat) (x : Uart) : (setUart s u x).dbg = s.dbg := by
  unfold setUart; dsimp only; split <;> simp

theorem reg_setUart_ne (s : State) (u : Nat) (x : Uart) {a : Nat} (stat : a ≠ Reg.UART_STAT u) (status : a ≠ evtStatus blkPin)
    (counter : a ≠ evtCount blkPin (3 * u)) : (setUart s u x).reg a = s.reg a := by
  have put : ((s.setSvc { s.svc with uarts := sput (fun _ => {}) s.svc.uarts u x }).setRegN (Reg.UART_STAT u) (uartStat x)).reg a =
      s.reg a := reg_setRegN_ne _ _ stat.symm
  unfold setUart; dsimp only; split
  · rw [reg_setFlag_ne _ _ _ status.symm]; exact put
  · unfold State.raiseIf; split
    · rw [reg_raise _ _ _ _ status counter]; exact put
    · exact put

theorem periRuns_setUart (s : State) (u : Nat) (x : Uart) (k : Nat) : periRuns (setUart s u x) k = periRuns s k := by
  have gate : (setUart s u x).reg Reg.PERI_GATE = s.reg Reg.PERI_GATE :=
    reg_setUart_ne s u x (by unfold Reg.PERI_GATE Reg.UART_STAT; omega) (by decide)
      (by unfold Reg.PERI_GATE evtCount blockBase ctrlBase blkPin; omega)
  unfold periRuns periOn periFrozen pairHalted
  rw [flag_of_reg _ gate, dbg_setUart]

/-- A byte pushed to a UART that runs without flow control and has nothing to send starts at once. -/
theorem uartPush_starts {s : State} {u : Nat} (v : Nat) (hu : u < 2) (runs : periRuns s u = true) (idle : (uartOf s u).sh = none)
    (empty : (uartOf s u).tx = []) (flow : s.flag (Reg.UART_CFG u) 24 = false) : ∃ t,
    uartPush s u v = setUart t u { uartOf s u with sh := some (BitVec.ofNat 8 v), tx := [] } := by
  have on : periOn s u = true := by unfold periRuns at runs; exact (Bool.and_eq_true_iff.mp runs).1
  have cfg (x : Uart) : (setUart s u x).reg (Reg.UART_CFG u) = s.reg (Reg.UART_CFG u) :=
    reg_setUart_ne s u x (by unfold Reg.UART_CFG Reg.UART_STAT; omega)
      (by unfold Reg.UART_CFG evtStatus blockBase ctrlBase blkPin; omega)
      (by unfold Reg.UART_CFG evtCount blockBase ctrlBase blkPin; omega)
  refine ⟨setUart s u { uartOf s u with tx := [BitVec.ofNat 8 v] }, ?_⟩
  simp [uartPush, uartGo, on, empty, uartOf_setUart, idle, periRuns_setUart, runs, flag_of_reg _ (cfg _), flow]

/-- A device whose UART 0 lists n received words and has nothing to send. -/
def uartHolding (n : Nat) : State := State.reset.setSvc { uarts := [(0, { rx := List.replicate n 0 })] }

theorem uartHolding_runs (n : Nat) : periRuns (uartHolding n) 0 = true := by
  have on : State.reset.flag Reg.PERI_GATE 0 = true := by decide +kernel
  exact congrArg (· && true) on

theorem uartHolding_flow (n : Nat) : (uartHolding n).flag (Reg.UART_CFG 0) 24 = false :=
  (by decide +kernel : State.reset.flag (Reg.UART_CFG 0) 24 = false)

theorem uartHolding_idle (n : Nat) : (uartOf (uartHolding n) 0).sh = none ∧ (uartOf (uartHolding n) 0).tx = [] := ⟨rfl, rfl⟩

/-- The bit that tells of a byte on the wire, after the write of one to a UART of n listed words. -/
theorem shift_uartHolding (n : Nat) :
    (uartPush (uartHolding n) 0 0).flag (Reg.UART_STAT 0) 15 = ((n + 2 ^ 15) % 2 ^ 32).testBit 15 := by
  obtain ⟨u, pushed⟩ := uartPush_starts 0 (by decide) (uartHolding_runs n) rfl rfl (uartHolding_flow n)
  have fills : uartStat { rx := List.replicate n 0, sh := some (BitVec.ofNat 8 0), tx := [] } = n + 2 ^ 15 := by
    rw [uartStat, List.length_replicate, List.length_nil, Nat.zero_mul, Nat.add_zero]; exact congrArg (n + ·) (Nat.one_mul _)
  unfold State.flag
  rw [pushed, regN_setUart]
  exact congrArg (fun v => (v % 2 ^ 32).testBit 15) fills

/-- Refutes O59: `setUart` writes the fill of the receive FIFO, in no bound of its own, and the bit that tells of a byte on the wire as
one sum, so that 2^15 listed words carry out of the fill and clear the bit. -/
theorem not_servicePorts : ¬ Obligations.ServicePorts := by
  intro h
  obtain ⟨-, -, -, -, -, -, -, -, -, -, -, -, -, -, -, -, -, -, -, -, -, -, -, starts, -⟩ := h
  obtain ⟨n, many⟩ : ∃ n, n = 2 ^ 15 := ⟨_, rfl⟩
  obtain ⟨idle, empty⟩ := uartHolding_idle n
  obtain ⟨t, e, -, set, -⟩ := starts (uartHolding n) 0 0 (uartHolding_runs n) idle empty (uartHolding_flow n)
  obtain rfl : uartPush (uartHolding n) 0 0 = t := Host.Outcome.next.inj e
  have clear := (shift_uartHolding n).trans (by rw [many]; decide : _ = false)
  exact Bool.false_ne_true (clear.symm.trans set)

end Sys2Proof.Machine
end

section
/-! SUPPORT. Events and counts of any block: what an event leaves, and what leaves an event standing (R18, R20). -/

namespace Sys2Proof.Machine

/-- An event leaves the registers below its block's events. -/
theorem reg_raise_lt (s : State) {b n a : Nat} (h : a < evtStatus b) : (s.raise b n).reg a = s.reg a :=
  reg_raise s b n a h.ne (by unfold evtStatus at h; unfold evtCount; omega)

theorem reg_raiseIf_lt (s : State) (c : Bool) {b n a : Nat} (h : a < evtStatus b) : (s.raiseIf c b n).reg a = s.reg a := by
  cases c; exacts [rfl, reg_raise_lt s h]

theorem reg_count_ne (s : State) {a j : Nat} (h : a ≠ j) : (s.count a).reg j = s.reg j := reg_setRegN_ne s _ h

theorem raised_raise (s : State) {b n : Nat} (hn : n < 32) : Raised (s.raise b n) b n := flag_raise s b n hn

theorem sameRegs_raiseIf (s : State) (c : Bool) (b n : Nat) : SameRegs s (s.raiseIf c b n) (evtOf b n) := by
  cases c; exacts [SameRegs.refl s _, sameRegs_raise s b n]

theorem SameRegs.raiseIf {s t : State} {w : Nat → Prop} (h : SameRegs s t w) (c : Bool) {b n : Nat} (hw : ∀ a, evtOf b n a → w a) :
    SameRegs s (t.raiseIf c b n) w := by
  cases c; exacts [h, h.raise hw]

namespace Raised

variable {s : State} {b n a : Nat}

/-- An event stands on through a write of a register that is not its block's status. -/
theorem setRegN (h : Raised s b n) (v : Nat) (ha : a ≠ evtStatus b) : Raised (s.setRegN a v) b n :=
  (flag_of_reg n (reg_setRegN_ne s v ha)).trans h

theorem setFld (h : Raised s b n) (hi lo v : Nat) (ha : a ≠ evtStatus b) : Raised (s.setFld a hi lo v) b n := h.setRegN _ ha
theorem setFlag (h : Raised s b n) (k : Nat) (c : Bool) (ha : a ≠ evtStatus b) : Raised (s.setFlag a k c) b n := h.setRegN _ ha
theorem count (h : Raised s b n) (ha : a ≠ evtStatus b) : Raised (s.count a) b n := h.setRegN _ ha

/-- An event stands on through every other. -/
theorem raise (h : Raised s b n) (c : Nat) {k : Nat} (hk : k < 32) : Raised (s.raise c k) b n := by
  by_cases e : c = b
  · subst e
    by_cases f : k = n
    · subst f; exact raised_raise s hk
    · exact (raised_raise_ne hk f).mpr h
  · have status : evtStatus b ≠ evtStatus c := by unfold evtStatus blockBase; omega
    have count : evtStatus b ≠ evtCount c k := by unfold evtStatus evtCount blockBase; omega
    exact (flag_of_reg n (reg_raise s c k _ status count)).trans h

theorem raiseIf (h : Raised s b n) (q : Bool) (c : Nat) {k : Nat} (hk : k < 32) : Raised (s.raiseIf q c k) b n := by
  cases q; exacts [h, h.raise c hk]

end Raised

end Sys2Proof.Machine
end

section
/-! PROOFS. A statement of 13_lanes_ethernet_tether.md: lanes, equalisers and JESD204C links (O50). -/

namespace Sys2Proof.Machine

/-! The lane block's registers lie below its events. -/

theorem laneStat_below (l : Fin 128) : laneStat l < evtStatus blkLane := by
  unfold laneStat Reg.LR_STAT Reg.CV_STAT evtStatus blockBase ctrlBase blkLane; split <;> omega

theorem lanePrbs_below (l : Fin 128) : lanePrbs l < evtStatus blkLane := by
  unfold lanePrbs Reg.LR_PRBS_ERR Reg.CV_PRBS_ERR evtStatus blockBase ctrlBase blkLane; split <;> omega

/-- The status register of a PLL group: LR octet 0…7, or CV quad 8…23. -/
def pllStat (g : Fin 24) : Nat := if g.val < 8 then Reg.LR_OCT_STAT g else Reg.CV_QUAD_STAT (g.val - 8)

theorem pllStat_below (g : Fin 24) : pllStat g < evtStatus blkLane := by
  unfold pllStat Reg.LR_OCT_STAT Reg.CV_QUAD_STAT evtStatus blockBase ctrlBase blkLane; split <;> omega

/-- A register of link q: nothing but its offset in the link's row, below the lane block's events. -/
theorem jlReg_below (q : Fin 16) {o : Nat} (ho : o < 0x100) : 0x46030000 + o + 0x100 * q.val < evtStatus blkLane := by
  unfold evtStatus blockBase ctrlBase blkLane; omega

/-! Lanes (R361, R388, R390). -/

section
variable {s : State} {l : Fin 128}

/-- A signal lost, reported as an unlock where the lane had locked. -/
def signalLost (s : State) (l : Fin 128) : State :=
  ((s.raiseIf (s.flag (laneStat l) 1) blkLane 1).setFld (laneStat l) 2 0 0).raise blkLane 0

theorem signalLost_spec (s : State) (l : Fin 128) : (signalLost s l).fld (laneStat l) 2 0 = 0 ∧ Raised (signalLost s l) blkLane 0 ∧
    (s.flag (laneStat l) 1 = true → Raised (signalLost s l) blkLane 1) ∧
    SameRegs s (signalLost s l) (fun a => a = laneStat l ∨ evtOf blkLane 0 a ∨ evtOf blkLane 1 a) ∧ SameMem s (signalLost s l) := by
  have below := laneStat_below l
  refine ⟨?_, raised_raise _ (by decide), fun was => ?_, ?_, ?_⟩
  · rw [signalLost, fld_of_reg 2 0 (reg_raise_lt _ below), fld_setFld _ _ _ _ _ (by decide) (by decide), Nat.zero_mod]
  · have unlocked : Raised (s.raiseIf (s.flag (laneStat l) 1) blkLane 1) blkLane 1 := by rw [was]; exact raised_raise s (by decide)
    exact (unlocked.setFld 2 0 0 below.ne).raise _ (by decide)
  · exact (((SameRegs.refl s _).raiseIf _ fun _ e => .inr (.inr e)).setFld (.inl rfl) _ _ _).raise fun _ e => .inr (.inl e)
  · exact ((((OnlyRegs.refl s).raiseIf _ _ _).setFld _ _ _ _).raise _ _).sameMem

/-- The equaliser values of a lane moved to what its adaptation gives, in the order of its first k. -/
def adapted (s : State) (l : Fin 128) (k : Nat) : State :=
  (List.range k).foldl (fun s i => setEq s.took l i (BitVec.ofNat 16 s.free)) (s.setFlag (laneStat l) 2 true)

theorem adapted_succ (s : State) (l : Fin 128) (k : Nat) :
    adapted s l (k + 1) = setEq (adapted s l k).took l k (BitVec.ofNat 16 (adapted s l k).free) := by
  rw [adapted, List.range_succ, List.foldl_append]; rfl

theorem reg_adapted (s : State) (l : Fin 128) (a : Nat) : ∀ k, (adapted s l k).reg a = (s.setFlag (laneStat l) 2 true).reg a
  | 0 => rfl
  | k + 1 => by rw [adapted_succ]; exact reg_adapted s l a k

theorem mem_adapted (s : State) (l : Fin 128) : ∀ k, (adapted s l k).mem = s.mem
  | 0 => State.setFlag_mem _ _ _ _
  | k + 1 => by rw [adapted_succ]; exact mem_adapted s l k

theorem eq_adapted (s : State) (l : Fin 128) {i : Nat} (other : i / 32 ≠ l.val) : ∀ k, k ≤ 32 →
    sget (fun _ => (0 : BitVec 16)) (adapted s l k).lane.eq i = sget (fun _ => (0 : BitVec 16)) s.lane.eq i
  | 0, _ => by rw [adapted]; exact congrArg (fun x => sget (fun _ => (0 : BitVec 16)) (Lanes.eq x) i) (State.setFlag_lane s _ _ _)
  | k + 1, h => by
    rw [adapted_succ]
    exact (sget_sput_ne _ _ _ (by omega)).trans (eq_adapted s l other k (by omega))

theorem eqCount_le (l : Nat) : eqCount l ≤ 32 := by unfold eqCount; split <;> omega

theorem exec_eqAdaptStep_moves (signal : s.flag (laneStat l) 0 = true) (free : s.flag (laneCtl l) 2 = false) (runs : laneHold s = false) :
    exec (.eqAdaptStep l) s = .next (adapted s l (eqCount l)) := by
  simp [execEqAdaptStep, signal, free, runs, adapted]

theorem exec_eqAdaptStep_stays (held : s.flag (laneStat l) 0 = false ∨ s.flag (laneCtl l) 2 = true ∨ laneHold s = true) :
    exec (.eqAdaptStep l) s = .next s := by
  rcases held with h | h | h <;> simp [execEqAdaptStep, h]

theorem exec_prbsError_counts (checks : s.flag (laneTest l) 5 = true) (one : 1 ≤ s.fld (laneTest l) 4 2)
    (last : s.fld (laneTest l) 4 2 ≤ (if l.val < 64 then 4 else 3)) :
    exec (.prbsError l) s = .next ((s.count (lanePrbs l)).raise blkLane 18) := by
  simp only [exec_prbsError, execPrbsError]
  exact if_pos ⟨checks, one, last⟩

theorem exec_prbsError_idle (off : s.flag (laneTest l) 5 = false) : exec (.prbsError l) s = .next s := by simp [execPrbsError, off]

end

section
variable {s : State} {g : Fin 24}

theorem exec_pllUnlock_reports (locked : s.flag (pllStat g) 0 = true) :
    exec (.pllUnlock g) s = .next ((s.setFlag (pllStat g) 0 false).raise blkLane 2) := by
  simp only [exec_pllUnlock, execPllUnlock]
  exact if_pos locked

theorem exec_pllUnlock_known (lost : s.flag (pllStat g) 0 = false) : exec (.pllUnlock g) s = .next s := by
  simp only [exec_pllUnlock, execPllUnlock]
  exact if_neg (ne_true_of_eq_false lost)

end

/-- A register counted once more and an event of the lane block: what each shows, and what stands. -/
theorem counted_spec (s : State) {a n : Nat} (below : a < evtStatus blkLane) (hn : n < 32) :
    ((s.count a).raise blkLane n).regN a = satNat 32 (s.regN a + 1) ∧ Raised ((s.count a).raise blkLane n) blkLane n ∧
    SameRegs s ((s.count a).raise blkLane n) (fun j => j = a ∨ evtOf blkLane n j) ∧ SameMem s ((s.count a).raise blkLane n) := by
  refine ⟨?_, raised_raise _ hn, ((SameRegs.refl s _).count (.inl rfl)).raise fun _ => .inr, (((OnlyRegs.refl s).count _).raise _ _).sameMem⟩
  rw [regN_of_reg (reg_raise_lt _ below), regN_count]

/-! SYSREF and the adoptions (R375). -/

/-- Adoptions made of the links below k. -/
def adoptBelow (s : State) (tl m k : Nat) : State :=
  (List.range k).foldl (fun s q =>
    if m.testBit q then
      (s.setRegN (Reg.JL_LEMC_OFS q) (fsynCount s q tl % (32 * linkE s q : Int)).toNat).raise blkLane 10
    else s) s

theorem adoptAll_eq (s : State) (tl : Nat) :
    adoptAll s tl = adoptBelow (s.setLane { s.lane with adopt := 0 }) tl s.lane.adopt 16 := rfl

section
variable (s : State) (tl m : Nat)

theorem adoptBelow_succ (k : Nat) : adoptBelow s tl m (k + 1) = if m.testBit k then
    ((adoptBelow s tl m k).setRegN (Reg.JL_LEMC_OFS k) (fsynCount (adoptBelow s tl m k) k tl % (32 * linkE (adoptBelow s tl m k) k : Int)).toNat).raise
      blkLane 10 else adoptBelow s tl m k := by
  rw [adoptBelow, List.range_succ, List.foldl_append]; rfl

theorem onlyRegs_adoptBelow : ∀ k, OnlyRegs s (adoptBelow s tl m k)
  | 0 => OnlyRegs.refl s
  | k + 1 => by
    rw [adoptBelow_succ]; split
    · exact ((onlyRegs_adoptBelow k).setRegN _ _).raise _ _
    · exact onlyRegs_adoptBelow k

/-- Only the offsets of the links adopted change below the events. -/
theorem reg_adoptBelow {a : Nat} (below : a < evtStatus blkLane) : ∀ k, (∀ q, q < k → m.testBit q = true → a ≠ Reg.JL_LEMC_OFS q) →
    (adoptBelow s tl m k).reg a = s.reg a
  | 0, _ => rfl
  | k + 1, apart => by
    have before := reg_adoptBelow below k fun q hq => apart q (by omega)
    rw [adoptBelow_succ]; split
    case isTrue set => rw [reg_raise_lt _ below, reg_setRegN_ne _ _ (apart k (by omega) set).symm, before]
    case isFalse => exact before

/-- Each link adopted is reported. -/
theorem raised_adoptBelow {q : Nat} (set : m.testBit q = true) : ∀ k, k ≤ 16 → q < k → Raised (adoptBelow s tl m k) blkLane 10
  | k + 1, h16, hq => by
    rw [adoptBelow_succ]
    by_cases last : q = k
    · subst last; rw [if_pos set]; exact raised_raise _ (by decide)
    · have before := raised_adoptBelow set k (by omega) (by omega)
      have apart : Reg.JL_LEMC_OFS k ≠ evtStatus blkLane := by unfold Reg.JL_LEMC_OFS evtStatus blockBase ctrlBase blkLane; omega
      split
      · exact (before.setRegN _ apart).raise _ (by decide)
      · exact before

end

theorem exec_jsysrefEdge_other {s : State} {f : Bool} (ofs : BitVec 18) (other : f ≠ s.flag Reg.JSYSREF_CFG 1) :
    exec (.jsysrefEdge f ofs) s = .next s := by
  simp [execJsysrefEdge, other]

theorem exec_jsysrefEdge_counts {s : State} {f : Bool} (ofs : BitVec 18) (same : f = s.flag Reg.JSYSREF_CFG 1)
    (off : s.flag Reg.JSYSREF_CFG 0 = false) :
    exec (.jsysrefEdge f ofs) s = .next (adoptAll (s.count Reg.JSYSREF_CNT) (stampAt s ofs.toNat)) := by
  have still : (s.count Reg.JSYSREF_CNT).flag Reg.JSYSREF_CFG 0 = false := (flag_of_reg 0 (reg_count_ne s (by decide))).trans off
  simp [execJsysrefEdge, same, still]

/-- The bits below n that a test picks, as one word. -/
def bitSum (p : Nat → Bool) (n : Nat) : Nat := (((List.range n).filter p).map (2 ^ ·)).sum

theorem bitSum_succ (p : Nat → Bool) (n : Nat) : bitSum p (n + 1) = bitSum p n + bit (p n) * 2 ^ n := by
  unfold bitSum
  cases h : p n <;> simp [List.range_succ, List.filter_append, h, bit]

theorem bitSum_lt (p : Nat → Bool) : ∀ n, bitSum p n < 2 ^ n
  | 0 => by simp [bitSum]
  | n + 1 => by
    have before := bitSum_lt p n
    rw [bitSum_succ, pow_succ]
    cases p n <;> simp [bit] <;> omega

theorem testBit_bitSum (p : Nat → Bool) (q : Nat) : ∀ n, (bitSum p n).testBit q = (decide (q < n) && p q)
  | 0 => by simp [bitSum]
  | n + 1 => by
    rw [bitSum_succ, Nat.add_comm, Nat.mul_comm, Nat.testBit_two_pow_mul_add _ (bitSum_lt p n)]
    by_cases below : q < n
    · simp [below, testBit_bitSum p q n, show q < n + 1 by omega]
    · rw [if_neg below]
      by_cases last : q = n
      · subst last; cases p q <;> simp [bit]
      · have above : (bit (p n)).testBit (q - n) = false := Nat.testBit_lt_two_pow (lt_of_lt_of_le (by cases p n <;> decide : bit (p n) < 2 ^ 1)
          (Nat.pow_le_pow_right (by decide) (by omega)))
        simp [above, show ¬q < n + 1 by omega]

/-- A word is the sum of its bits. -/
theorem bitSum_testBit {m n : Nat} (h : m < 2 ^ n) : bitSum m.testBit n = m := by
  refine Nat.eq_of_testBit_eq fun q => ?_
  rw [testBit_bitSum]
  by_cases below : q < n
  · simp [below]
  · simp [below, Nat.testBit_lt_two_pow (lt_of_lt_of_le h (Nat.pow_le_pow_right (by decide) (not_lt.mp below)))]

/-- ADOPT's mask cut to the links it arms. -/
def adoptMask (s : State) (v : BitVec 32) : Nat := bitSum (fun q => (bitsOf v.toNat 31 16).testBit q && !jlOn s q) 16

/-- A link that ADOPT names while it is on. -/
def adoptBad (s : State) (v : BitVec 32) : Bool := (List.range 16).any (fun q => (bitsOf v.toNat 31 16).testBit q && jlOn s q)

theorem exec_adopt_arms {s : State} {v : BitVec 32} (set : v.getLsbD 0 = true) :
    exec (.adopt v) s = .next ((s.setLane { s.lane with adopt := Nat.lor s.lane.adopt (adoptMask s v) }).raiseIf (adoptBad s v) blkLane 11) := by
  simp only [exec_adopt, execAdopt]
  exact if_pos set

theorem exec_adopt_idle {s : State} {v : BitVec 32} (clear : v.getLsbD 0 = false) : exec (.adopt v) s = .next s := by
  simp only [exec_adopt, execAdopt]
  exact if_neg (ne_true_of_eq_false clear)

theorem adoptMask_off {s : State} (v : BitVec 32) (off : ∀ q, q < 16 → jlOn s q = false) : adoptMask s v = v.toNat / 2 ^ 16 := by
  have high : bitsOf v.toNat 31 16 = v.toNat / 2 ^ 16 := Nat.mod_eq_of_lt (by have := v.isLt; omega)
  have picks : ∀ q ∈ List.range 16, ((bitsOf v.toNat 31 16).testBit q && !jlOn s q) = (bitsOf v.toNat 31 16).testBit q := fun q hq => by
    rw [off q (List.mem_range.mp hq), Bool.not_false, Bool.and_true]
  rw [adoptMask, bitSum, List.filter_congr picks, ← high]
  exact bitSum_testBit (bitsOf_lt _ _ _)

theorem adoptBad_off {s : State} (v : BitVec 32) (off : ∀ q, q < 16 → jlOn s q = false) : adoptBad s v = false := by
  refine List.any_eq_false.mpr fun q hq => ?_
  rw [off q (List.mem_range.mp hq), Bool.and_false]; exact Bool.false_ne_true

section
variable {s : State} {v : BitVec 32} {q : Nat}

theorem testBit_adoptMask_on (on : jlOn s q = true) : (adoptMask s v).testBit q = false := by simp [adoptMask, testBit_bitSum, on]

theorem adoptBad_on (hq : q < 16) (names : v.getLsbD (16 + q) = true) (on : jlOn s q = true) : adoptBad s v = true := by
  have bit : (bitsOf v.toNat 31 16).testBit q = true := by
    rw [testBit_bitsOf, decide_eq_true (by omega), Bool.true_and, Nat.add_comm]; exact names
  exact List.any_eq_true.mpr ⟨q, List.mem_range.mpr hq, by rw [bit, on]; rfl⟩

end

/-! The lane engines' buffers (R378, R379). -/

section
variable {s : State} {q : Fin 16} {b : CvBuf} {r : List CvBuf}

@[simp] theorem bufsOf_setBufs (s : State) (q : Nat) (l : List CvBuf) : bufsOf (setBufs s q l) q = l := sget_sput_same _ _ _ _

theorem exec_jesdFetchDone_ok (bufs : bufsOf s q = b :: r) (due : b.data = none) (sound : b.failed = false) :
    exec (.jesdFetchDone q 0) s =
      .next (setBufs s q ({ b with data := some (s.viewBytes (kixOf s (456 + q)) b.addr b.len) } :: r)) := by
  have head : (b :: r).findIdx? (fun b => b.data.isNone && !b.failed) = some 0 := by simp [List.findIdx?_cons, due, sound]
  simp [execJesdFetchDone, head, bufs]

theorem exec_jesdFetchDone_fails {k : Fin 8} (bufs : bufsOf s q = b :: r) (due : b.data = none) (sound : b.failed = false) (bad : k.val ≠ 0) :
    exec (.jesdFetchDone q k) s = .next (setBufs s q ({ b with failed := true } :: r)) := by
  have head : (b :: r).findIdx? (fun b => b.data.isNone && !b.failed) = some 0 := by simp [List.findIdx?_cons, due, sound]
  have ne : k ≠ 0 := fun c => bad (congrArg Fin.val c)
  simp [execJesdFetchDone, head, bufs, ne]

/-- What a buffer whose bytes are there sends: its bytes while the gate is open and the lanes are not held, zeros otherwise. -/
def cvSent (s : State) (d : List Byte) : List Nat := if s.gOpen && !laneHold s then d.map (·.toNat) else List.replicate d.length 0

theorem exec_jesdBufferStart_sends {d : List Byte} (bufs : bufsOf s q = b :: r)
    (reached : ptReached s.pt ((b.rel + s.fld (Reg.JL_MEM_LEAD q) 15 0) % 2 ^ 32) = true) (data : b.data = some d) :
    exec (.jesdBufferStart q) s = .next ((setBufs s q r).answer (4112 + q) 0 (cvSent s d)) := by
  simp only [exec_jesdBufferStart, execJesdBufferStart, bufs, reached, data]
  rfl

theorem exec_jesdBufferStart_drops (bufs : bufsOf s q = b :: r)
    (reached : ptReached s.pt ((b.rel + s.fld (Reg.JL_MEM_LEAD q) 15 0) % 2 ^ 32) = true) (data : b.data = none) :
    exec (.jesdBufferStart q) s = .next (((setBufs s q r).count (Reg.JL_UNDERRUN_CNT q)).raise blkLane 8) := by
  simp only [exec_jesdBufferStart, execJesdBufferStart, bufs, reached, data]
  rfl

end

/-! Receive links (R377, R378). -/

theorem jlLanes_le (v : Nat) : jlLanes v ≤ 4 := by
  have code : bitsOf v 2 1 < 4 := bitsOf_lt v 2 1
  unfold jlLanes
  interval_cases bitsOf v 2 1 <;> decide

/-- A link's status with lock, and the lanes of its word aligned. -/
def embLocked (s : State) (q : Fin 16) : State :=
  let m := 2 ^ jlLanes (s.regN (Reg.JL_RX_CFG q)) - 1
  ((s.setFlag (Reg.JL_STAT q) 1 true).setFld (Reg.JL_STAT q) 5 2 m).setFld (Reg.JL_STAT q) 9 6 m

theorem embLocked_spec (s : State) (q : Fin 16) : (embLocked s q).flag (Reg.JL_STAT q) 1 = true ∧
    (embLocked s q).fld (Reg.JL_STAT q) 5 2 = 2 ^ jlLanes (s.regN (Reg.JL_RX_CFG q)) - 1 ∧
    (embLocked s q).fld (Reg.JL_STAT q) 9 6 = 2 ^ jlLanes (s.regN (Reg.JL_RX_CFG q)) - 1 ∧
    SameRegs s (embLocked s q) (· = Reg.JL_STAT q) ∧ SameMem s (embLocked s q) := by
  have four : 2 ^ jlLanes (s.regN (Reg.JL_RX_CFG q)) - 1 < 2 ^ 4 :=
    lt_of_lt_of_le (Nat.sub_lt (by positivity) (by decide)) (Nat.pow_le_pow_right (by decide) (jlLanes_le _))
  refine ⟨?_, ?_, ?_, ?_, sameMem_of_mem rfl⟩
  · rw [embLocked, flag_setFld _ _ _ _ _ _ _ (by decide) (by decide), flag_setFld _ _ _ _ _ _ _ (by decide) (by decide)]
    simp [flag_setFlag _ _ 1 _ (by decide : 1 < 32)]
  · rw [embLocked, fld_setFld_apart _ _ _ _ _ _ _ (by decide) (by decide) (.inl (by decide)), fld_setFld _ _ _ _ _ (by decide) (by decide),
      Nat.mod_eq_of_lt four]
  · rw [embLocked, fld_setFld _ _ _ _ _ (by decide) (by decide), Nat.mod_eq_of_lt four]
  · exact (((SameRegs.refl s (· = Reg.JL_STAT q)).setFlag rfl _ _).setFld rfl _ _ _).setFld rfl _ _ _

section
variable {s : State} {q : Fin 16} {data : List Byte} {crc jump : Bool}

theorem exec_jesdRxEmb_idle (h : s.flag (Reg.JL_RX_CFG q) 0 = false ∨ s.flag (Reg.JL_STAT q) 1 = false) :
    exec (.jesdRxEmb q data crc jump) s = .next s := by
  have idle : (!(s.regN (Reg.JL_RX_CFG q)).testBit 0 || !s.flag (Reg.JL_STAT q) 1) = true := by
    rcases h with h | h
    · have h' : (s.regN (Reg.JL_RX_CFG q)).testBit 0 = false := h
      rw [h']; rfl
    · rw [h, Bool.not_false, Bool.or_true]
  simp only [exec_jesdRxEmb, execJesdRxEmb]
  exact if_pos idle

/-- The errors of an EMB counted and reported. -/
def embNoted (s : State) (q : Fin 16) (crc jump : Bool) : State :=
  (if crc then (s.count (Reg.JL_CRC_CNT q)).raise blkLane 6 else s).raiseIf jump blkLane 7

theorem exec_jesdRxEmb_notes (on : s.flag (Reg.JL_RX_CFG q) 0 = true) (locked : s.flag (Reg.JL_STAT q) 1 = true)
    (fabric : s.flag (Reg.JL_RX_CFG q) 7 = false) : exec (.jesdRxEmb q data crc jump) s = .next (embNoted s q crc jump) := by
  unfold State.flag at on fabric
  simp only [exec_jesdRxEmb, execJesdRxEmb, on, locked, fabric]
  rfl

theorem jlCrc_below (q : Fin 16) : Reg.JL_CRC_CNT q < evtStatus blkLane := by
  unfold Reg.JL_CRC_CNT evtStatus blockBase ctrlBase blkLane; omega

theorem embNoted_spec (s : State) (q : Fin 16) (crc jump : Bool) : (crc = true →
    (embNoted s q crc jump).regN (Reg.JL_CRC_CNT q) = satNat 32 (s.regN (Reg.JL_CRC_CNT q) + 1) ∧ Raised (embNoted s q crc jump) blkLane 6) ∧
    (jump = true → Raised (embNoted s q crc jump) blkLane 7) ∧
    SameRegs s (embNoted s q crc jump) (fun a => a = Reg.JL_CRC_CNT q ∨ evtOf blkLane 6 a ∨ evtOf blkLane 7 a) ∧
    SameMem s (embNoted s q crc jump) := by
  obtain ⟨counts, raised, only, mem⟩ := counted_spec s (jlCrc_below q) (by decide : 6 < 32)
  have crcOnly : SameRegs s (if crc then (s.count (Reg.JL_CRC_CNT q)).raise blkLane 6 else s)
      (fun a => a = Reg.JL_CRC_CNT q ∨ evtOf blkLane 6 a ∨ evtOf blkLane 7 a) := by
    split
    · exact fun a out => only a fun e => out (e.imp_right .inl)
    · exact SameRegs.refl s _
  refine ⟨fun bad => ?_, fun moved => ?_, crcOnly.raiseIf _ fun _ e => .inr (.inr e), sameMem_of_mem ?_⟩
  · subst bad
    exact ⟨(regN_of_reg (reg_raiseIf_lt _ _ (jlCrc_below q))).trans counts, raised.raiseIf _ _ (by decide)⟩
  · subst moved; exact raised_raise _ (by decide)
  · rw [embNoted, State.raiseIf_mem]; split
    · rw [State.raise_mem, State.count_mem]
    · rfl

@[simp] theorem length_padTo (n : Nat) (l : List Byte) : (padTo n l).length = n := by
  simp only [padTo, List.length_append, List.length_take, List.length_replicate]; omega

/-- A captured EMB moves the ring's write pointer by its bytes (R378). -/
theorem exec_jesdRxEmb_captures (on : s.flag (Reg.JL_RX_CFG q) 0 = true) (locked : s.flag (Reg.JL_STAT q) 1 = true)
    (memory : s.flag (Reg.JL_RX_CFG q) 7 = true) : ∃ t : State, exec (.jesdRxEmb q data false false) s = .next (t.setRegN (Reg.JL_CAP_WPTR q)
      ((s.regN (Reg.JL_CAP_WPTR q) + 256 * jlE (s.regN (Reg.JL_RX_CFG q)) * jlLanes (s.regN (Reg.JL_RX_CFG q))) %
        (4096 * 2 ^ s.fld (Reg.JL_CAP_CFG q) 3 0))) := by
  unfold State.flag at on memory
  simp only [exec_jesdRxEmb, execJesdRxEmb, on, locked, memory, length_padTo]
  exact ⟨_, rfl⟩

end

theorem jlRing_lt (s : State) (q : Fin 16) (w : Nat) : w % (4096 * 2 ^ s.fld (Reg.JL_CAP_CFG q) 3 0) < 2 ^ 32 := by
  have size : s.fld (Reg.JL_CAP_CFG q) 3 0 < 2 ^ 4 := bitsOf_lt _ _ _
  have small : 4096 * 2 ^ s.fld (Reg.JL_CAP_CFG q) 3 0 ≤ 2 ^ 32 :=
    Nat.mul_le_mul_left 4096 (Nat.pow_le_pow_right (by decide) (by omega : _ ≤ 20))
  exact lt_of_lt_of_le (Nat.mod_lt _ (by positivity)) small

/-- A link that goes down: lock and alignment cleared, and reported. -/
def linkDown (s : State) (q : Fin 16) : State := (s.setFld (Reg.JL_STAT q) 9 1 0).raise blkLane 5

theorem linkDown_spec (s : State) (q : Fin 16) : (linkDown s q).fld (Reg.JL_STAT q) 9 1 = 0 ∧ Raised (linkDown s q) blkLane 5 ∧
    SameRegs s (linkDown s q) (fun a => a = Reg.JL_STAT q ∨ evtOf blkLane 5 a) ∧ SameMem s (linkDown s q) := by
  have below : Reg.JL_STAT q < evtStatus blkLane := by unfold Reg.JL_STAT evtStatus blockBase ctrlBase blkLane; omega
  refine ⟨?_, raised_raise _ (by decide), ((SameRegs.refl s _).setFld (.inl rfl) _ _ _).raise fun _ => .inr,
    (((OnlyRegs.refl s).setFld _ _ _ _).raise _ _).sameMem⟩
  rw [linkDown, fld_of_reg 9 1 (reg_raise_lt _ below), fld_setFld _ _ _ _ _ (by decide) (by decide), Nat.zero_mod]

/-- Settles O50: a lane's signal, a link's lock and a link's end each write one status register; the adoptions are a walk over the armed
links, and a buffer leaves its queue whatever it sends. -/
theorem lanesAndConverters : Obligations.LanesAndConverters := by
  refine ⟨fun s l => ⟨_, rfl, rfl⟩, fun s l => ⟨_, rfl, signalLost_spec s l⟩, fun s l signal free runs => ?_,
    fun s l held => ⟨s, exec_eqAdaptStep_stays held, rfl⟩, fun s l checks one last => ?_, fun s l off => ⟨s, exec_prbsError_idle off, rfl⟩,
    fun s g locked => ?_, fun s g lost => ⟨s, exec_pllUnlock_known lost, rfl⟩,
    fun s f ofs other => ⟨s, exec_jsysrefEdge_other ofs other, rfl⟩, fun s f ofs same off => ?_, fun s v set off => ?_,
    fun s v q set hq names on => ?_, fun s v clear => ⟨s, exec_adopt_idle clear, rfl⟩,
    fun s q b r bufs due sound => ⟨_, exec_jesdFetchDone_ok bufs due sound, bufsOf_setBufs _ _ _, rfl⟩,
    fun s q b r k bufs due sound bad => ⟨_, exec_jesdFetchDone_fails bufs due sound bad, bufsOf_setBufs _ _ _, rfl⟩,
    fun s q b r d bufs reached data opened free => ?_, fun s q b r d bufs reached data closed => ?_, fun s q b r bufs reached data => ?_,
    fun s q bufs => ⟨s, by simp only [exec_jesdBufferStart, execJesdBufferStart, bufs], rfl⟩,
    fun s q on lanes => ⟨_, ?_, embLocked_spec s q⟩, fun s q up => ⟨_, ?_, linkDown_spec s q⟩,
    fun s q down => ⟨s, ?_, rfl⟩,
    fun s q data crc jump on locked fabric => ⟨_, exec_jesdRxEmb_notes on locked fabric, embNoted_spec s q crc jump⟩,
    fun s q data on locked memory => ?_, fun s q data crc jump idle => ⟨s, exec_jesdRxEmb_idle idle, rfl⟩⟩
  case refine_1 =>
    refine ⟨_, exec_eqAdaptStep_moves signal free runs, ?_, fun a out => ?_, fun i other => eq_adapted s l other _ (eqCount_le _),
      sameMem_of_mem (mem_adapted s l _)⟩
    · rw [flag_of_reg 2 (reg_adapted s l _ _), flag_setFlag _ _ _ _ (by decide)]
    · rw [reg_adapted, reg_setFlag_ne _ _ _ (Ne.symm out)]
  case refine_2 => exact ⟨_, exec_prbsError_counts checks one last, counted_spec s (lanePrbs_below l) (by decide)⟩
  case refine_3 =>
    refine ⟨_, exec_pllUnlock_reports locked, ?_, raised_raise _ (by decide), ((SameRegs.refl s _).setFlag (.inl rfl) _ _).raise fun _ => .inr,
      (((OnlyRegs.refl s).setFlag _ _ _).raise _ _).sameMem⟩
    exact (flag_of_reg 0 (reg_raise_lt _ (pllStat_below g))).trans (flag_setFlag _ _ _ _ (by decide))
  case refine_4 =>
    have only := onlyRegs_adoptBelow ((s.count Reg.JSYSREF_CNT).setLane { (s.count Reg.JSYSREF_CNT).lane with adopt := 0 })
      (stampAt s ofs.toNat) s.lane.adopt 16
    have held : (s.count Reg.JSYSREF_CNT).lane.adopt = s.lane.adopt := congrArg Lanes.adopt (State.count_lane s _)
    refine ⟨_, exec_jsysrefEdge_counts ofs same off, ?_⟩
    rw [adoptAll_eq, held]
    refine ⟨?_, ?_, fun q hq clear => ?_, fun q hq set => raised_adoptBelow _ _ _ set 16 (le_refl _) hq, ?_⟩
    · rw [regN_of_reg (reg_adoptBelow _ _ _ (by decide) 16 fun q hq _ => by unfold Reg.JSYSREF_CNT Reg.JL_LEMC_OFS; omega)]
      exact regN_count s _
    · obtain ⟨r, e⟩ := only; rw [e]; rfl
    · have below : Reg.JL_LEMC_OFS q < evtStatus blkLane := by unfold Reg.JL_LEMC_OFS evtStatus blockBase ctrlBase blkLane; omega
      rw [reg_adoptBelow _ _ _ below 16 fun j hj set e => by
        have : q = j := by unfold Reg.JL_LEMC_OFS at e; omega
        subst this; exact Bool.false_ne_true (clear.symm.trans set)]
      exact reg_count_ne s (by unfold Reg.JSYSREF_CNT Reg.JL_LEMC_OFS; omega)
    · exact sameMem_of_mem (only.mem.trans (State.count_mem s Reg.JSYSREF_CNT))
  case refine_5 =>
    refine ⟨_, exec_adopt_arms set, ?_, ?_⟩ <;> rw [adoptBad_off v off, adoptMask_off v off] <;> rfl
  case refine_6 =>
    refine ⟨_, exec_adopt_arms set, ?_⟩
    rw [adoptBad_on hq names on]
    refine ⟨raised_raise _ (by decide), ?_, sameRegs_raise _ _ _, sameMem_of_mem (State.raise_mem _ _ _)⟩
    have lane := State.raise_lane (s.setLane { s.lane with adopt := Nat.lor s.lane.adopt (adoptMask s v) }) blkLane 11
    have armed : (Nat.lor s.lane.adopt (adoptMask s v)).testBit q = s.lane.adopt.testBit q :=
      (Nat.testBit_or _ _ _).trans (by rw [testBit_adoptMask_on on, Bool.or_false])
    exact (congrArg (fun x => (Lanes.adopt x).testBit q) lane).trans armed
  case refine_7 =>
    have sent : cvSent s d = d.map (·.toNat) := by rw [cvSent, opened, free]; rfl
    exact ⟨_, exec_jesdBufferStart_sends bufs reached data, bufsOf_setBufs _ _ _, by rw [sent]; rfl, rfl, rfl⟩
  case refine_8 =>
    have sent : cvSent s d = List.replicate d.length 0 := by rcases closed with h | h <;> rw [cvSent, h] <;> simp
    exact ⟨_, exec_jesdBufferStart_sends bufs reached data, bufsOf_setBufs _ _ _, by rw [sent]; rfl, rfl, rfl⟩
  case refine_9 =>
    have below : Reg.JL_UNDERRUN_CNT q < evtStatus blkLane := by unfold Reg.JL_UNDERRUN_CNT evtStatus blockBase ctrlBase blkLane; omega
    obtain ⟨counts, raised, -, mem⟩ := counted_spec (setBufs s q r) below (by decide : 8 < 32)
    refine ⟨_, exec_jesdBufferStart_drops bufs reached data, ?_, counts, raised, mem⟩
    rw [bufsOf, State.raise_lane, State.count_lane]; exact bufsOf_setBufs s q r
  case refine_10 =>
    simp only [exec_embLock, execEmbLock]; exact if_pos on
  case refine_11 => simp only [exec_jlLinkDown, execJlLinkDown]; exact if_pos up
  case refine_12 => simp only [exec_jlLinkDown, execJlLinkDown]; exact if_neg (ne_true_of_eq_false down)
  case refine_13 =>
    obtain ⟨t, e⟩ := exec_jesdRxEmb_captures (data := data) on locked memory
    exact ⟨_, e, (regN_setRegN _ _ _ _).trans ((if_pos rfl).trans (Nat.mod_eq_of_lt (jlRing_lt s q _)))⟩

end Sys2Proof.Machine
end

section
/-! PROOFS. A statement of 13_lanes_ethernet_tether.md: the Tether link (O52). -/

namespace Sys2Proof.Machine

/-! A lane of the quad replaced. -/

section
variable (s : State) (l : Nat) (x : TethLane)

@[simp] theorem tethLane_setTethLane : tethLane (setTethLane s l x) l = x := sget_sput_same _ _ _ _
@[simp] theorem reg_setTethLane (a : Nat) : (setTethLane s l x).reg a = s.reg a := rfl
@[simp] theorem flag_setTethLane (a n : Nat) : (setTethLane s l x).flag a n = s.flag a n := rfl
@[simp] theorem mem_setTethLane : (setTethLane s l x).mem = s.mem := rfl
@[simp] theorem inbox_setTethLane : (setTethLane s l x).lane.teth.inbox = s.lane.teth.inbox := rfl

end

/-- States that differ in registers alone have the same lanes. -/
theorem OnlyRegs.lane {s t : State} (h : OnlyRegs s t) : t.lane = s.lane := by obtain ⟨r, rfl⟩ := h; rfl

theorem OnlyRegs.tethLane {s t : State} (h : OnlyRegs s t) (l : Nat) : tethLane t l = tethLane s l := by
  unfold Machine.tethLane; rw [h.lane]

/-! Frames out (R381, R383). -/

/-- Fewer bits than a run of 40 can hold are sent as they are. -/
theorem take_stuffBits : ∀ (k : Nat) (l : List Bool) (b : Bool) (n : Nat), n + k < 40 → (stuffBits l b n).1.take k = l.take k
  | 0, l, b, n, _ => rfl
  | k + 1, [], b, n, _ => rfl
  | k + 1, x :: r, b, n, h => by
    have short : (if x = b then (n + 1, x) else (1, x)).1 ≠ 40 := by split <;> dsimp only <;> omega
    have rest : (if x = b then (n + 1, x) else (1, x)).1 + k < 40 := by split <;> dsimp only <;> omega
    rw [stuffBits]
    dsimp only
    rw [if_neg short, List.take_succ_cons, List.take_succ_cons, take_stuffBits k r _ _ rest]

/-- The bits below a power of two of a word with nothing below it added. -/
theorem testBit_add_high (m w k i : Nat) (low : m < 2 ^ k) (hi : i < k) : (m + w * 2 ^ k).testBit i = m.testBit i := by
  rw [Nat.add_comm, Nat.mul_comm, Nat.testBit_two_pow_mul_add _ low, if_pos hi]

/-- A frame begins with its low bits where the wire's run does not stuff them. -/
theorem take_frame {n k m : Nat} (w : Nat) (b : Bool) (long : 32 ≤ n) (low : m < 2 ^ k) (bits : 32 ≤ k) :
    ((stuffBits ((List.range n).map (m + w * 2 ^ k).testBit) b 0).1.map bit).take 32 = (List.range 32).map (fun i => bit (m.testBit i)) := by
  have cut : (List.range n).take 32 = List.range 32 := by rw [List.take_range, Nat.min_eq_left long]
  rw [← List.map_take, take_stuffBits 32 _ b 0 (by decide), ← List.map_take, cut, List.map_map]
  exact List.map_congr_left fun i hi => congrArg bit (testBit_add_high m w k i low (by have := List.mem_range.mp hi; omega))

/-- Two fields one after the other above a word's low bits, as one. -/
theorem add_fields (m x y k : Nat) : m + x * 2 ^ k + y * 2 ^ (k + k) = m + (x + y * 2 ^ k) * 2 ^ k := by
  rw [Nat.add_mul, Nat.mul_assoc, ← pow_add, Nat.add_assoc]

/-- The link's counters after a frame on lane l. -/
def frameCounted (s : State) (l : Nat) : State :=
  setTeth s { s.lane.teth with lseq := (s.lane.teth.lseq + 1) % 4096, last := l }

/-- An IDLE frame: the marker, what the lane's keystream gives, and the lane's state after it. -/
theorem exec_tetherFrameTx_idle {s : State} {l : Nat} (on : s.flag Reg.TETH_CFG 0 = true) (next : nextLane s = some l)
    (quiet : s.rly.snap = []) (empty : s.lane.teth.outbox = []) : ∃ (w : Nat) (x : TethLane) (wire : List Bool),
    (stuffBits ((List.range 1024).map (tethMarker + w * 2 ^ 32).testBit) (tethLane s l).bit (tethLane s l).same).1 = wire ∧
    exec .tetherFrameTx s = .next ((setTethLane (frameCounted s l) l x).answer (4128 + l) 0 (wire.map bit)) := by
  have fed : snapFeed s = s := by rw [snapFeed, quiet]
  have idle : relNext s = (s, 0, []) := by rw [relNext, empty]
  obtain ⟨keys, isKeys⟩ := named keyRun
  obtain ⟨stuff, isStuff⟩ := named stuffBits
  rw [exec_tetherFrameTx, execTetherFrameTx, on, Bool.not_true, if_neg Bool.false_ne_true, next, isKeys, isStuff]
  dsimp only
  rw [fed, idle]
  dsimp only
  obtain ⟨⟨key, k2⟩, drawn⟩ := named (keys 960 (tethLane s l).txKey)
  rw [drawn]
  dsimp only
  obtain ⟨body, framed⟩ := named (Nat.xor (tethBody s.lane.teth.lseq 0 []) key)
  rw [framed, add_fields tethMarker (tethLane s l).txKey.toNat body 32]
  refine ⟨(tethLane s l).txKey.toNat + body * 2 ^ 32, _, _, rfl, rfl⟩

/-! Frames in (R381, R383, R384). -/

section
variable {s : State} {l : Fin 4} {p : Fin 32} {f : BitVec 1024}

/-- A searching lane that has seen the marker, n times in a row. -/
def markerSeen (s : State) (l : Nat) (seen : Bool) (n : Nat) : State :=
  setTethLane (s.setFlag Reg.TETH_STAT l seen) l { tethLane s l with run := n }

/-- A lane that locks. -/
def laneLocked (s : State) (l : Nat) : State := ((markerSeen s l true 4).setFlag Reg.TETH_STAT (4 + l) true).raise blkLane 12

theorem tethStat_below : Reg.TETH_STAT < evtStatus blkLane := by decide

theorem exec_tetherFrameRx_locks (on : s.flag Reg.TETH_CFG 0 = true) (search : tethLocked s l = false)
    (phase : p.val = (tethLane s l).slips % 32) (marker : f.toNat % 2 ^ 32 = tethMarker) (third : (tethLane s l).run = 3) :
    exec (.tetherFrameRx l p f false) s = .next (laneLocked s l) := by
  have seen : (p.val == (tethLane s l).slips % 32 && f.toNat % 2 ^ 32 == tethMarker) = true := by
    rw [marker, phase, beq_self_eq_true, beq_self_eq_true]; rfl
  simp only [exec_tetherFrameRx, execTetherFrameRx, on, search, seen, third, Bool.not_true, Bool.false_eq_true, if_false, if_true]
  rfl

theorem exec_tetherFrameRx_searches (on : s.flag Reg.TETH_CFG 0 = true) (search : tethLocked s l = false)
    (other : p.val ≠ (tethLane s l).slips % 32 ∨ f.toNat % 2 ^ 32 ≠ tethMarker) :
    exec (.tetherFrameRx l p f false) s = .next (markerSeen s l false 0) := by
  have unseen : (p.val == (tethLane s l).slips % 32 && f.toNat % 2 ^ 32 == tethMarker) = false := by
    rcases other with h | h
    · rw [beq_eq_false_iff_ne.mpr h, Bool.false_and]
    · rw [beq_eq_false_iff_ne.mpr h, Bool.and_false]
  simp only [exec_tetherFrameRx, execTetherFrameRx, on, search, unseen, Bool.not_true, Bool.false_eq_true, if_false]
  rfl

theorem exec_tetherFrameRx_unlocks (on : s.flag Reg.TETH_CFG 0 = true) (lock : tethLocked s l = true)
    (other : f.toNat % 2 ^ 32 ≠ tethMarker) (third : (tethLane s l).miss = 3) :
    exec (.tetherFrameRx l p f false) s = .next ((tethSearch s l).raise blkLane 13) := by
  have unseen : (p.val == (tethLane s l).slips % 32 && f.toNat % 2 ^ 32 == tethMarker) = false := by
    rw [beq_eq_false_iff_ne.mpr other, Bool.and_false]
  simp only [exec_tetherFrameRx, execTetherFrameRx, on, lock, unseen, third, Bool.not_true, Bool.false_eq_true, if_false, if_true]

theorem exec_tetherFrameRx_off {st : Bool} (off : s.flag Reg.TETH_CFG 0 = false) : exec (.tetherFrameRx l p f st) s = .next s := by
  simp [execTetherFrameRx, off]

theorem laneLocked_spec (s : State) (l : Fin 4) : tethLocked (laneLocked s l) l = true ∧ Raised (laneLocked s l) blkLane 12 ∧
    (laneLocked s l).flag Reg.TETH_STAT l = true ∧ SameMem s (laneLocked s l) := by
  refine ⟨?_, raised_raise _ (by decide), ?_, sameMem_of_mem ?_⟩
  · rw [tethLocked, laneLocked, flag_of_reg _ (reg_raise_lt _ tethStat_below), flag_setFlag _ _ _ _ (by omega)]
  · rw [laneLocked, flag_of_reg _ (reg_raise_lt _ tethStat_below), flag_setFlag_ne _ _ _ _ _ (by omega) (by omega), markerSeen,
      flag_setTethLane, flag_setFlag _ _ _ _ (by omega)]
  · rw [laneLocked, State.raise_mem, State.setFlag_mem, markerSeen, mem_setTethLane, State.setFlag_mem]

theorem markerSeen_spec (search : tethLocked s l = false) : tethLocked (markerSeen s l false 0) l = false ∧
    (tethLane (markerSeen s l false 0) l).run = 0 ∧ (markerSeen s l false 0).flag Reg.TETH_STAT l = false ∧
    SameRegs s (markerSeen s l false 0) (· = Reg.TETH_STAT) ∧ SameMem s (markerSeen s l false 0) := by
  refine ⟨?_, ?_, ?_, (SameRegs.refl s (· = Reg.TETH_STAT)).setFlag rfl l.val false, sameMem_of_mem (State.setFlag_mem s Reg.TETH_STAT l.val false)⟩
  · rw [tethLocked, markerSeen, flag_setTethLane, flag_setFlag_ne _ _ _ _ _ (by omega) (by omega)]; exact search
  · rw [markerSeen, tethLane_setTethLane]
  · rw [markerSeen, flag_setTethLane, flag_setFlag _ _ _ _ (by omega)]

/-- A lane back in SEARCH, which changes its status bits and itself. -/
theorem tethSearch_spec (s : State) (l : Fin 4) : tethLocked (tethSearch s l) l = false ∧ (tethSearch s l).flag Reg.TETH_STAT l = false ∧
    (tethLane (tethSearch s l) l).miss = 0 ∧ (tethSearch s l).lane.teth.inbox = s.lane.teth.inbox ∧
    SameRegs s (tethSearch s l) (· = Reg.TETH_STAT) ∧ (tethSearch s l).mem = s.mem := by
  refine ⟨?_, ?_, ?_, ?_, ?_, rfl⟩
  · rw [tethLocked, tethSearch, flag_setTethLane, flag_setFlag_ne _ _ _ _ _ (by omega) (by omega), flag_setFlag _ _ _ _ (by omega)]
  · rw [tethSearch, flag_setTethLane, flag_setFlag_ne _ _ _ _ _ (by omega) (by omega), flag_setFlag_ne _ _ _ _ _ (by omega) (by omega),
      flag_setFlag _ _ _ _ (by omega)]
  · rw [tethSearch, tethLane_setTethLane]
  · rfl
  · exact (((SameRegs.refl s (· = Reg.TETH_STAT)).setFlag rfl l.val false).setFlag rfl (4 + l.val) false).setFlag rfl (8 + l.val) false

end

/-- A lane sent back to SEARCH, reported as an event. -/
theorem tethSearch_raise_spec (s : State) (l : Fin 4) {n : Nat} (hn : n < 32) :
    tethLocked ((tethSearch s l).raise blkLane n) l = false ∧ ((tethSearch s l).raise blkLane n).flag Reg.TETH_STAT l = false ∧
    (tethLane ((tethSearch s l).raise blkLane n) l).miss = 0 ∧
    ((tethSearch s l).raise blkLane n).lane.teth.inbox = s.lane.teth.inbox ∧ Raised ((tethSearch s l).raise blkLane n) blkLane n ∧
    SameRegs s ((tethSearch s l).raise blkLane n) (fun a => a = Reg.TETH_STAT ∨ evtOf blkLane n a) ∧
    SameMem s ((tethSearch s l).raise blkLane n) := by
  obtain ⟨open_, clear, miss, inbox, only, mem⟩ := tethSearch_spec s l
  have event := (OnlyRegs.refl (tethSearch s l)).raise blkLane n
  refine ⟨?_, ?_, ?_, ?_, raised_raise _ hn, ?_, sameMem_of_mem (event.mem.trans mem)⟩
  · rw [tethLocked, flag_of_reg _ (reg_raise_lt _ tethStat_below)]; exact open_
  · rw [flag_of_reg _ (reg_raise_lt _ tethStat_below)]; exact clear
  · rw [event.tethLane]; exact miss
  · rw [event.lane]; exact inbox
  · exact SameRegs.raise (fun a out => only a fun e => out (.inl e)) fun _ => .inr

/-! Slips (R384). -/

/-- What a slip makes of a searching lane. -/
def slipped (s : State) (l : Nat) : State :=
  ((setTethLane s l { tethLane s l with slips := ((tethLane s l).slips + 1) % 32, run := 0 }).setFlag Reg.TETH_STAT l false).count Reg.TETH_SLIP_CNT

/-- The slips of a write of TETH_CMD, lane by lane. -/
def slipBelow (s : State) (v : BitVec 32) (k : Nat) : State :=
  (List.range k).foldl (fun s l => if v.getLsbD l && s.flag Reg.TETH_CFG 0 && !tethLocked s l then slipped s l else s) s

theorem slipBelow_succ (s : State) (v : BitVec 32) (k : Nat) : slipBelow s v (k + 1) =
    if v.getLsbD k && (slipBelow s v k).flag Reg.TETH_CFG 0 && !tethLocked (slipBelow s v k) k then slipped (slipBelow s v k) k
    else slipBelow s v k := by
  rw [slipBelow, List.range_succ, List.foldl_append]; rfl

theorem exec_slip_eq (v : BitVec 32) (s : State) : exec (.slip v) s = .next (slipBelow s v 4) := rfl

/-- A lane that the write does not name, or that is out of SEARCH, ignores it. -/
theorem slipBelow_idle {s : State} {v : BitVec 32} : ∀ k, (∀ j, j < k → v.getLsbD j = true → tethLocked s j = true) → slipBelow s v k = s
  | 0, _ => rfl
  | k + 1, idle => by
    have before := slipBelow_idle k fun j hj => idle j (by omega)
    rw [slipBelow_succ, before]
    cases set : v.getLsbD k
    · rfl
    · rw [idle k (by omega) set, Bool.not_true, Bool.and_false]; rfl

/-- One lane named, in SEARCH: it alone slips. -/
theorem slipBelow_one {s : State} {v : BitVec 32} {l : Fin 4} (on : s.flag Reg.TETH_CFG 0 = true) (search : tethLocked s l = false)
    (named : v.getLsbD l.val = true) (others : ∀ k, k < 4 → k ≠ l.val → v.getLsbD k = false) :
    ∀ k, k ≤ 4 → slipBelow s v k = if l.val < k then slipped s l else s
  | 0, _ => rfl
  | k + 1, h4 => by
    have before := slipBelow_one on search named others k (by omega)
    rw [slipBelow_succ, before]
    by_cases here : k = l.val
    · subst here
      rw [if_neg (lt_irrefl _), if_pos (Nat.lt_succ_self _), named, on, search]; rfl
    · simp only [others k (by omega) here, Bool.false_and, Bool.false_eq_true, if_false]
      exact if_congr (by omega) rfl rfl

theorem slipped_spec (s : State) (l : Fin 4) : (tethLane (slipped s l) l).slips = ((tethLane s l).slips + 1) % 32 ∧
    (tethLane (slipped s l) l).run = 0 ∧ (slipped s l).regN Reg.TETH_SLIP_CNT = satNat 32 (s.regN Reg.TETH_SLIP_CNT + 1) ∧
    SameRegs s (slipped s l) (fun a => a = Reg.TETH_STAT ∨ a = Reg.TETH_SLIP_CNT) ∧ SameMem s (slipped s l) := by
  have lane : tethLane (slipped s l) l = { tethLane s l with slips := ((tethLane s l).slips + 1) % 32, run := 0 } := by
    rw [slipped, (((OnlyRegs.refl _).setFlag Reg.TETH_STAT l.val false).count Reg.TETH_SLIP_CNT).tethLane, tethLane_setTethLane]
  refine ⟨by rw [lane], by rw [lane], ?_, ?_, sameMem_of_mem rfl⟩
  · rw [slipped, regN_count, regN_of_reg (reg_setFlag_ne _ _ _ (by decide))]; rfl
  · exact ((SameRegs.refl s (fun a => a = Reg.TETH_STAT ∨ a = Reg.TETH_SLIP_CNT)).setFlag (.inl rfl) l.val false).count (.inr rfl)

/-! Deskew (R385). -/

/-- A held frame that is not next is not delivered. -/
theorem tethDeliver_waits {s : State} {e : Nat} (next : s.lane.teth.expect = some e) (none : ∀ f ∈ s.lane.teth.held, f.1 ≠ e) (n : Nat) :
    tethDeliver (n + 1) s = s := by
  have absent : s.lane.teth.held.find? (fun f => f.1 == e) = Option.none := List.find?_eq_none.mpr fun f hf => by
    rw [beq_eq_false_iff_ne.mpr (none f hf)]; exact Bool.false_ne_true
  rw [tethDeliver]
  simp only [next, absent]

/-- An expected frame given up: a gap delivered in its place, counted and reported. -/
def gapGiven (s : State) (e : Nat) : State :=
  ((setTeth s { s.lane.teth with expect := some ((e + 1) % 4096), inbox := s.lane.teth.inbox ++ [none] }).count Reg.TETH_GAP_CNT).raise blkLane 15

theorem onlyRegs_gapGiven (s : State) (e : Nat) :
    OnlyRegs (setTeth s { s.lane.teth with expect := some ((e + 1) % 4096), inbox := s.lane.teth.inbox ++ [none] }) (gapGiven s e) :=
  ((OnlyRegs.refl _).count _).raise _ _

theorem exec_tetherDeskewTimeout_gives {s : State} {e : Nat} (next : s.lane.teth.expect = some e) (held : s.lane.teth.held ≠ [])
    (later : ∀ f ∈ s.lane.teth.held, f.1 ≠ (e + 1) % 4096) : exec .tetherDeskewTimeout s = .next (gapGiven s e) := by
  have lane := (onlyRegs_gapGiven s e).lane
  have waits := tethDeliver_waits (s := gapGiven s e) (e := (e + 1) % 4096) (by rw [lane]; rfl) (by rw [lane]; exact later) 2047
  have more : s.lane.teth.held.isEmpty = false := by simpa using held
  simp only [exec_tetherDeskewTimeout, execTetherDeskewTimeout, next, more, Bool.false_eq_true, if_false]
  exact congrArg Host.Outcome.next waits

theorem exec_tethFifoErr_on {s : State} {l : Fin 4} (on : s.flag Reg.TETH_CFG 0 = true) :
    exec (.tethFifoErr l) s = .next ((tethSearch s l).raise blkLane 17) := by
  simp only [exec_tethFifoErr, execTethFifoErr]; exact if_pos on

theorem exec_tethFifoErr_off {s : State} {l : Fin 4} (off : s.flag Reg.TETH_CFG 0 = false) : exec (.tethFifoErr l) s = .next s := by
  simp only [exec_tethFifoErr, execTethFifoErr]; exact if_neg (ne_true_of_eq_false off)

/-- Settles O52: the marker passes unstuffed, a lane's status follows its run of markers, and a given-up frame stands as a gap. -/
theorem tetherLink : Obligations.TetherLink := by
  refine ⟨fun s off => ⟨s, by simp [execTetherFrameTx, off], rfl⟩, fun s l on next quiet empty => ?_,
    fun s l p f st off => ⟨s, exec_tetherFrameRx_off off, rfl⟩,
    fun s l p f on search phase marker third => ⟨_, exec_tetherFrameRx_locks on search phase marker third, laneLocked_spec s l⟩,
    fun s l p f on search other => ⟨_, exec_tetherFrameRx_searches on search other, markerSeen_spec search⟩,
    fun s l p f on lock other third => ?_, fun s v l on search named others => ?_, fun s v idle => ⟨s, ?_, rfl⟩,
    fun s e next held later => ?_, fun s l on => ?_, fun s l off => ⟨s, exec_tethFifoErr_off off, rfl⟩⟩
  case refine_1 =>
    obtain ⟨w, x, wire, stuffed, e⟩ := exec_tetherFrameTx_idle on next quiet empty
    refine ⟨_, e, rfl, rfl, rfl, ?_, rfl, rfl, rfl⟩
    by_cases fresh : (tethLane s l).same = 0
    · rw [fresh] at stuffed
      exact .inl ((congrArg (fun b => (b.map bit).take 32) stuffed.symm).trans (take_frame w _ (by decide) (by decide) (by decide)))
    · exact .inr fresh
  case refine_2 =>
    obtain ⟨search, -, miss, inbox, raised, -, mem⟩ := tethSearch_raise_spec s l (by decide : 13 < 32)
    exact ⟨_, exec_tetherFrameRx_unlocks on lock other third, search, raised, miss, inbox, mem⟩
  case refine_3 =>
    refine ⟨slipped s l, ?_, slipped_spec s l⟩
    rw [exec_slip_eq, slipBelow_one on search named others 4 (le_refl _), if_pos l.isLt]
  case refine_4 => rw [exec_slip_eq, slipBelow_idle 4 idle]
  case refine_5 =>
    have only := onlyRegs_gapGiven s e
    refine ⟨_, exec_tetherDeskewTimeout_gives next held later, ?_, ?_, ?_, raised_raise _ (by decide), sameMem_of_mem only.mem⟩
    · rw [only.lane]; rfl
    · rw [only.lane]; rfl
    · rw [gapGiven, regN_of_reg (reg_raise_lt _ (by decide)), regN_count]; rfl
  case refine_6 =>
    obtain ⟨search, clear, -, -, raised, only, mem⟩ := tethSearch_raise_spec s l (by decide : 17 < 32)
    exact ⟨_, exec_tethFifoErr_on on, search, clear, raised, only, mem⟩

end Sys2Proof.Machine
end

section
/-! PROOFS. A statement of 13_lanes_ethernet_tether.md: the Ethernet ports (O51). -/

namespace Sys2Proof.Machine

/-- A Sync message over Ethernet, of 60 bytes. -/
def syncFrame : List Byte := List.replicate 12 0 ++ [0x88, 0xF7, 0, 2] ++ List.replicate 44 0

/-- MAC 0 sends a Sync message of a queue numbered 248, whose ETH_TXQ_CFG would stand at the address of the MAC's first counter. -/
def macSending : State := setMac State.reset 0 { cur := some (248, syncFrame) }

/-- Refutes O51: with a frame under way of a queue numbered 248, which no bound keeps from `cur`, the end of the frame counts in ETH_CNT 0
before the same address is read as the queue's ETH_TXQ_CFG, and the frame takes a stamp that its queue did not ask for. -/
theorem not_ethernetPorts : ¬ Obligations.EthernetPorts := by
  intro h
  obtain ⟨-, -, -, -, -, -, -, -, -, -, -, unstamped, -⟩ := h
  have asks : macSending.fld (Reg.ETH_TXQ_CFG 0 248) 1 0 = 0 := by decide +kernel
  obtain ⟨t, e, -, -, -, same, -⟩ := unstamped macSending 0 248 syncFrame 0 rfl (Or.inr asks)
  have stamped : (match exec (.ethTxFrameDone 0 0 0) macSending with | .next t => t.reg (Reg.ETH_TXTS_STAT 0) | _ => 0) = 2 := by
    decide +kernel
  have was : macSending.reg (Reg.ETH_TXTS_STAT 0) ≠ 2 := by decide +kernel
  rw [e] at stamped
  exact was ((same _ (by decide)).symm.trans stamped)

end Sys2Proof.Machine
end

section
/-! PROOFS. A statement of 12_imp.md: ranges, reseeding and the key roll (O49). -/

namespace Sys2Proof.Machine

/-! What writes beneath IMP leave of IMP's own. -/

/-- An address of IMP's register blocks. -/
def isImpReg (a : Nat) : Prop := Reg.IMP_CTL ≤ a ∧ a < 0x45B40000

/-- IMP and its registers stand as they were. -/
structure ImpKept (s t : State) : Prop where
  imp : t.imp = s.imp
  reg : ∀ a, isImpReg a → t.reg a = s.reg a

namespace ImpKept

variable {s t u : State}

theorem refl (s : State) : ImpKept s s := ⟨rfl, fun _ _ => rfl⟩
theorem trans (h : ImpKept s t) (k : ImpKept t u) : ImpKept s u := ⟨k.imp.trans h.imp, fun a ha => (k.reg a ha).trans (h.reg a ha)⟩
theorem store (h : ImpKept s t) (a : Nat) (b : List Byte) : ImpKept s (t.store a b) := ⟨h.imp, h.reg⟩
theorem setChan (h : ImpKept s t) (k : Nat) (c : Channel) : ImpKept s (setChan t k c) := ⟨h.imp, h.reg⟩
theorem setLineErr (h : ImpKept s t) (l : Nat) (e : LineErr) : ImpKept s (setLineErr t l e) := ⟨h.imp, h.reg⟩

theorem setRegN (h : ImpKept s t) {a : Nat} (v : Nat) (apart : ¬isImpReg a) : ImpKept s (t.setRegN a v) :=
  ⟨h.imp, fun b hb => (reg_setRegN_ne t v (by rintro rfl; exact apart hb)).trans (h.reg b hb)⟩

theorem setFld (h : ImpKept s t) {a : Nat} (hi lo v : Nat) (apart : ¬isImpReg a) : ImpKept s (t.setFld a hi lo v) := h.setRegN _ apart
theorem count (h : ImpKept s t) {a : Nat} (apart : ¬isImpReg a) : ImpKept s (t.count a) := h.setRegN _ apart
theorem setFlag (h : ImpKept s t) {a : Nat} (n : Nat) (b : Bool) (apart : ¬isImpReg a) : ImpKept s (t.setFlag a n b) := h.setRegN _ apart

theorem raise (h : ImpKept s t) (b : Nat) {n : Nat} (hn : n < 32) : ImpKept s (t.raise b n) :=
  (h.setFlag n true (by unfold isImpReg evtStatus blockBase ctrlBase Reg.IMP_CTL; omega)).setRegN _
    (by unfold isImpReg evtCount blockBase ctrlBase Reg.IMP_CTL; omega)

theorem foldl {α : Type} {f : State → α → State} (h : ImpKept s t) (l : List α) (hf : ∀ u x, ImpKept u (f u x)) : ImpKept s (l.foldl f t) := by
  induction l generalizing t with
  | nil => exact h
  | cons x l ih => exact ih (h.trans (hf t x))

end ImpKept

section
variable (s : State)

/-- A register of a channel, by its offset in the channel's row, lies apart from IMP's. -/
theorem memRow_apart {o h : Nat} (ho : o < 0x1000) (hh : h < 4) : ¬isImpReg (0x45000000 + o + 0x100000 * h) := by
  unfold isImpReg Reg.IMP_CTL; omega

theorem impKept_memLog {h : Nat} (hh : h < 4) (c kind sym cw : Nat) : ImpKept s (memLog s h c kind sym cw) := by
  have apart : ¬isImpReg (Reg.MEM_LOG_STAT h) := memRow_apart (o := 0x90) (by decide) hh
  unfold memLog logPush; dsimp only; split
  · exact (((ImpKept.refl s).setFlag _ _ apart).setFld _ _ _ apart).setChan _ _
  · exact (((ImpKept.refl s).setFld _ _ _ apart).raise _ (by decide)).setChan _ _

theorem impKept_lineFresh (l : Nat) : ImpKept s (lineFresh s l) := by
  have apart : ¬isImpReg (Reg.MEM_FLIP_CTL (lineChan s l).1) := memRow_apart (o := 0x74) (by decide) (chanOf_lt s _)
  unfold lineFresh; dsimp only; split
  · exact (((((ImpKept.refl s).setLineErr _ _).setChan _ _).setFlag _ _ apart).setFlag _ _ apart).raise _ (by decide)
  · exact (ImpKept.refl s).setLineErr _ _

theorem impKept_lineWrite (l : Nat) (b : List Byte) : ImpKept s (lineWrite s l b) :=
  (((ImpKept.refl s).setChan _ _).store _ _).trans (impKept_lineFresh _ l)

theorem impKept_codeword {h : Nat} (hh : h < 4) (c k y : Nat) (p : CwRead × Nat) : ImpKept s (match p.1 with
    | .ce i _ => (memLog (s.count (Reg.MEM_CE_CNT h)) h c k i p.2).raise blkMem 0
    | .ue => (memLog (s.count (Reg.MEM_UE_CNT h)) h c y 0 p.2).raise blkMem 1
    | .good => s) := by
  split
  · exact (((ImpKept.refl s).count (memRow_apart (o := 0x40) (by decide) hh)).trans (impKept_memLog _ hh _ _ _ _)).raise _ (by decide)
  · exact (((ImpKept.refl s).count (memRow_apart (o := 0x44) (by decide) hh)).trans (impKept_memLog _ hh _ _ _ _)).raise _ (by decide)
  · exact .refl s

theorem impKept_lineRead (l c u : Nat) : ImpKept s (lineRead s l c u).1 := by
  have counted := (ImpKept.refl s).foldl (lineReads s l).zipIdx
    fun t p => impKept_codeword t (chanOf_lt s (64 * l - sdBase)) (lineChan s l).2 c u p
  unfold lineRead; dsimp only; split
  · exact (counted.store _ _).trans (impKept_lineFresh _ l)
  · exact counted

theorem impKept_mergeFlush {h : Nat} (hh : h < 4) (m : Merge) : ImpKept s (mergeFlush s h m) := by
  have freed := ((ImpKept.refl s).count (memRow_apart (o := 0x54) (by decide) hh)).setChan h
    { chanSt (s.count (Reg.MEM_MERGE_CNT h)) h with
      merge := (chanSt (s.count (Reg.MEM_MERGE_CNT h)) h).merge.filter (fun x => x.line != m.line) }
  unfold mergeFlush; dsimp only; split
  · exact ((((freed.trans (impKept_lineFresh _ _)).setLineErr _ _).count (memRow_apart (o := 0x44) (by decide) hh)).trans
      (impKept_memLog _ hh _ _ _ _)).raise _ (by decide)
  · exact (freed.trans (impKept_lineRead _ _ _ _)).trans (impKept_lineWrite _ _ _)

theorem impKept_mergeWrite (l o : Nat) (b : List Byte) : ImpKept s (mergeWrite s l o b) := by
  have hh : (lineChan s l).1 < 4 := chanOf_lt s _
  have oldest : ImpKept s (mergeOldest s (lineChan s l).1) := by
    unfold mergeOldest; split
    · exact impKept_mergeFlush s hh _
    · exact .refl s
  unfold mergeWrite; dsimp only; split
  · exact (ImpKept.refl s).setChan _ _
  · split
    · exact oldest.setChan _ _
    · exact (ImpKept.refl s).setChan _ _

theorem impKept_physWrite (a : Nat) (b : List Byte) : ImpKept s (physWrite s a b) := by
  have lines : ImpKept s (sdWrite s a b) := (ImpKept.refl s).foldl _ fun u l => by
    dsimp only; split
    · exact impKept_lineWrite u _ _
    · exact impKept_mergeWrite u _ _ _
  unfold physWrite; split
  · exact lines
  · exact (ImpKept.refl s).store a b

theorem impKept_jEntry (k : Nat) (d : List Byte) : ImpKept s (jEntry s k d) := by
  have sent := (ImpKept.refl s).setRegN (a := Reg.RELAY_JSEQ_TX) ((s.regN Reg.RELAY_JSEQ_TX + 1) % 2 ^ 32) (by unfold isImpReg; decide)
  unfold jEntry; split
  · exact ⟨sent.imp, sent.reg⟩
  · exact .refl s

theorem impKept_encWrite (k t : Nat) (p : List Byte) : ImpKept s (encWrite s k t p) := by
  unfold encWrite jTile; dsimp only; split
  · split
    · exact (impKept_physWrite s _ _).trans (impKept_jEntry _ _ _)
    · exact impKept_physWrite s _ _
  · exact impKept_physWrite s _ _

end

/-! The registers that show what the ranges are. -/

section
variable (s : State) {a : Nat}

/-- A write of a range's control register takes SLOT and MODE and sets COMMIT; IMP shows what its size needs. -/
def rngAsked (s : State) (n v : Nat) : State := rngShow ((s.setFld (Reg.IMP_RNG_CTL n) 7 0 v).setFlag (Reg.IMP_RNG_CTL n) 8 true) n

theorem onlyRegs_rngShow (n : Nat) : OnlyRegs s (rngShow s n) := by
  unfold rngShow; dsimp only; split
  · exact ((OnlyRegs.refl s).setRegN _ _).setRegN _ _
  · exact ((OnlyRegs.refl s).setRegN _ _).setRegN _ _

theorem onlyRegs_rngAsked (n v : Nat) : OnlyRegs s (rngAsked s n v) :=
  (((OnlyRegs.refl s).setFld _ _ _ _).setFlag _ _ _).trans (onlyRegs_rngShow _ n)

theorem reg_rngShow {n : Nat} (size : a ≠ Reg.IMP_RNG_META_SIZE n) (depth : a ≠ Reg.IMP_RNG_DEPTH n) : (rngShow s n).reg a = s.reg a := by
  unfold rngShow; dsimp only; split
  · rw [reg_setRegN_ne _ _ depth.symm, reg_setRegN_ne _ _ size.symm]
  · rw [reg_setRegN_ne _ _ depth.symm, reg_setRegN_ne _ _ size.symm]

theorem onlyRegs_impStat : OnlyRegs s (impStat s) := (OnlyRegs.refl s).setRegN _ _
theorem reg_impStat (h : a ≠ Reg.IMP_STAT) : (impStat s).reg a = s.reg a := reg_setRegN_ne s _ h.symm

theorem onlyRegs_slotStat : OnlyRegs s (slotStat s) := (OnlyRegs.refl s).foldl fun u _ => ((OnlyRegs.refl u).setFlag _ _ _).setFlag _ _ _

theorem reg_slotStat (h : ∀ k, k < 64 → a ≠ Reg.IMP_KSLOT_STAT k) : (slotStat s).reg a = s.reg a :=
  List.foldlRecOn (motive := fun t : State => t.reg a = s.reg a) _ _ rfl fun _ before k hk => by
    have apart := (h k (List.mem_range.mp hk)).symm
    rw [reg_setFlag_ne _ _ _ apart, reg_setFlag_ne _ _ _ apart, before]

/-- The register of a range's control, and what shows the slots and IMP as a whole. -/
theorem rngCtl_slot (n : Fin 16) (k : Nat) : Reg.IMP_RNG_CTL n ≠ Reg.IMP_KSLOT_STAT k := by
  unfold Reg.IMP_RNG_CTL Reg.IMP_KSLOT_STAT; omega
theorem rngCtl_stat (n : Nat) : Reg.IMP_RNG_CTL n ≠ Reg.IMP_STAT := by unfold Reg.IMP_RNG_CTL Reg.IMP_STAT; omega

theorem reg_rngCtl_shown (n : Fin 16) : (slotStat (impStat s)).reg (Reg.IMP_RNG_CTL n) = s.reg (Reg.IMP_RNG_CTL n) :=
  (reg_slotStat _ fun _ _ => rngCtl_slot n _).trans (reg_impStat s (rngCtl_stat n))

theorem onlyRegs_shown : OnlyRegs s (slotStat (impStat s)) := (onlyRegs_impStat s).trans (onlyRegs_slotStat _)

end

theorem reg_setImp (s : State) (x : Imp) (a : Nat) : (s.setImp x).reg a = s.reg a := rfl

/-! A commit (R335, R354). -/

theorem OnlyRegs.imp {s t : State} (h : OnlyRegs s t) : t.imp = s.imp := by obtain ⟨r, rfl⟩ := h; rfl

section
variable {s : State} {n : Fin 16} {v : BitVec 32}

/-- The control register as a commit finds it. -/
theorem rngAsked_ctl (s : State) (n : Fin 16) (v : BitVec 32) : (rngAsked s n v.toNat).fld (Reg.IMP_RNG_CTL n) 7 0 = v.toNat % 256 ∧
    rngOn (rngAsked s n v.toNat) n = rngOn s n := by
  have shown (t : State) : (rngShow t n).reg (Reg.IMP_RNG_CTL n) = t.reg (Reg.IMP_RNG_CTL n) :=
    reg_rngShow t (by unfold Reg.IMP_RNG_CTL Reg.IMP_RNG_META_SIZE; omega) (by unfold Reg.IMP_RNG_CTL Reg.IMP_RNG_DEPTH; omega)
  constructor
  · rw [rngAsked, fld_of_reg _ _ (shown _), State.setFlag, fld_setFld_apart _ _ _ _ _ _ _ (by decide) (by decide) (by decide),
      fld_setFld _ _ _ _ _ (by decide) (by decide)]
    rfl
  · rw [rngOn, rngAsked, flag_of_reg _ (shown _), flag_setFlag_ne _ _ _ _ _ (by decide) (by decide),
      flag_setFld _ _ _ _ _ _ _ (by decide) (by decide), if_neg (by omega)]; rfl

/-- MODE is the low part of what a write of the control register takes. -/
theorem rngMode_of_low {t : State} {n w : Nat} (h : t.fld (Reg.IMP_RNG_CTL n) 7 0 = w) : rngMode t n = w % 4 := by
  rw [← h, rngMode, State.fld, State.fld, bitsOf, bitsOf]; omega

theorem exec_impRangeCommit_barred (barred : modeIn s rngModes = false) : exec (.impRangeCommit n v) s = .next (s.raise blkMem 31) := by
  simp [execImpRangeCommit, barred]

theorem exec_impRangeCommit_again (mode : modeIn s rngModes = true) (on : rngOn s n = true) : exec (.impRangeCommit n v) s = .next s := by
  simp [execImpRangeCommit, mode, on]

theorem exec_impRangeCommit_asks (mode : modeIn s rngModes = true) (off : rngOn s n = false) :
    exec (.impRangeCommit n v) s = .next (rngCommit (rngAsked s n v.toNat) n) := by
  simp [execImpRangeCommit, mode, off, rngAsked]

/-- COMMITTED set, ERR clear. -/
def committed (t : State) (n : Nat) : State := (t.setFlag (Reg.IMP_RNG_CTL n) 9 true).setFlag (Reg.IMP_RNG_CTL n) 10 false

theorem committed_ctl (t : State) (n : Nat) : rngOn (committed t n) n = true ∧ (committed t n).flag (Reg.IMP_RNG_CTL n) 10 = false ∧
    rngMode (committed t n) n = rngMode t n := by
  refine ⟨?_, flag_setFlag _ _ _ _ (by decide), ?_⟩
  · rw [rngOn, committed, flag_setFlag_ne _ _ _ _ _ (by decide) (by decide), flag_setFlag _ _ _ _ (by decide)]
  · rw [rngMode, committed, State.setFlag, State.setFlag, fld_setFld_apart _ _ _ _ _ _ _ (by decide) (by decide) (by decide),
      fld_setFld_apart _ _ _ _ _ _ _ (by decide) (by decide) (by decide)]; rfl

theorem onlyRegs_committed (t : State) (n : Nat) : OnlyRegs t (committed t n) := ((OnlyRegs.refl t).setFlag _ _ _).setFlag _ _ _

/-- A range of ENC_INT takes a root of zeros and a node key. -/
def keyed (t : State) (n : Nat) (k : List Byte) : State :=
  t.setImp { t.imp with roots := sinsert n (List.replicate 8 0) (t.imp.roots.filter (fun e => e.1 != n))
                        nkeys := sinsert n k (sdrop n t.imp.nkeys) }

/-- Eight bytes drawn for each entry of a list change nothing but the count of draws. -/
theorem drawn_eq (t : State) : ∀ (l : List Nat) (c : Nat) (k : List Byte), ∃ c' k',
    l.foldl (fun (r : State × List Byte) _ => (r.1.took, r.2 ++ leBytes 8 r.1.free)) ({ t with freeCtr := c }, k) = ({ t with freeCtr := c' }, k') ∧
    k'.length = k.length + 8 * l.length
  | [], c, k => ⟨c, k, rfl, rfl⟩
  | _ :: l, c, k => by
    obtain ⟨c', k', e, long⟩ := drawn_eq t l (c + 1) (k ++ leBytes 8 ({ t with freeCtr := c } : State).free)
    refine ⟨c', k', e, ?_⟩
    rw [long, List.length_append, length_leBytes, List.length_cons]; omega

theorem freshKey_eq (t : State) : ∃ c k, freshKey t = ({ t with freeCtr := c }, k) ∧ k.length = 32 := drawn_eq t (List.range 4) t.freeCtr []

theorem keyed_of_drawn {t : State} {n c : Nat} {k : List Byte} (drawn : freshKey t = ({ t with freeCtr := c }, k)) :
    (let (s, k) := freshKey t
     let s := setCtrs s n 0 0 (List.replicate 8 0)
     s.setImp { s.imp with nkeys := sinsert n k (sdrop n s.imp.nkeys) }) = keyed { t with freeCtr := c } n k := by
  rw [drawn]; rfl

theorem rngCommit_bad {t : State} (bad : commitBad t n = true) : rngCommit t n = (t.setFlag (Reg.IMP_RNG_CTL n) 10 true).raise blkMem 26 := by
  simp [rngCommit, bad]

theorem rngCommit_plain {t : State} (good : commitBad t n = false) (mode : rngMode t n ≠ 2) :
    rngCommit t n = slotStat (impStat (committed t n)) := by
  obtain ⟨-, -, same⟩ := committed_ctl t n
  have other : rngMode (committed t n) n ≠ 2 := by rwa [same]
  simp only [rngCommit, good, Bool.false_eq_true, if_false]
  exact congrArg (fun u => slotStat (impStat u)) (if_neg other)

theorem rngCommit_encInt {t : State} (good : commitBad t n = false) (mode : rngMode t n = 2) : ∃ k c, k.length = 32 ∧
    rngCommit t n = slotStat (impStat (keyed { committed t n with freeCtr := c } n k)) := by
  obtain ⟨-, -, same⟩ := committed_ctl t n
  obtain ⟨c, k, drawn, long⟩ := freshKey_eq (committed t n)
  refine ⟨k, c, long, ?_⟩
  have encInt : rngMode (committed t n) n = 2 := by rwa [same]
  simp only [rngCommit, good, Bool.false_eq_true, if_false]
  exact congrArg (fun u => slotStat (impStat u)) ((if_pos encInt).trans (keyed_of_drawn drawn))

end

section
variable {s : State} {n : Fin 16} {v : BitVec 32}

theorem rngAsked_bad_spec (off : rngOn s n = false) :
    let t := ((rngAsked s n v.toNat).setFlag (Reg.IMP_RNG_CTL n) 10 true).raise blkMem 26
    rngOn t n = false ∧ t.flag (Reg.IMP_RNG_CTL n) 10 = true ∧ t.fld (Reg.IMP_RNG_CTL n) 7 0 = v.toNat % 256 ∧ Raised t blkMem 26 ∧
      t.imp = s.imp ∧ SameMem s t := by
  obtain ⟨low, on⟩ := rngAsked_ctl s n v
  have below : Reg.IMP_RNG_CTL n < evtStatus blkMem := by unfold Reg.IMP_RNG_CTL evtStatus blockBase ctrlBase blkMem; omega
  have only := ((onlyRegs_rngAsked s n v.toNat).setFlag (Reg.IMP_RNG_CTL n) 10 true).raise blkMem 26
  refine ⟨?_, ?_, ?_, raised_raise _ (by decide), only.imp, only.sameMem⟩
  · rw [rngOn, flag_of_reg _ (reg_raise_lt _ below), flag_setFlag_ne _ _ _ _ _ (by decide) (by decide)]; exact on.trans off
  · rw [flag_of_reg _ (reg_raise_lt _ below), flag_setFlag _ _ _ _ (by decide)]
  · rw [fld_of_reg _ _ (reg_raise_lt _ below), State.setFlag, fld_setFld_apart _ _ _ _ _ _ _ (by decide) (by decide) (by decide)]; exact low

/-- A range committed shows it, whatever its keys. -/
theorem committed_shown (t : State) (n : Fin 16) {u : State} (regs : u.regs = (committed t n).regs) :
    rngOn (slotStat (impStat u)) n = true ∧ (slotStat (impStat u)).flag (Reg.IMP_RNG_CTL n) 10 = false := by
  obtain ⟨on, clear, -⟩ := committed_ctl t n
  have same : (slotStat (impStat u)).reg (Reg.IMP_RNG_CTL n) = (committed t n).reg (Reg.IMP_RNG_CTL n) :=
    (reg_rngCtl_shown u n).trans (by unfold State.reg; rw [regs])
  exact ⟨(flag_of_reg 9 same).trans on, (flag_of_reg 10 same).trans clear⟩

theorem rootOf_keyed {t u : State} {k : List Byte} (imp : u.imp = (keyed t n k).imp) : rootOf u n = List.replicate 8 0 ∧ nodeKey u n = k ∧
    u.imp.cache = t.imp.cache := by
  unfold rootOf nodeKey
  rw [imp, keyed, State.setImp_imp]
  exact ⟨congrArg (fun e => (e.map (·.2)).getD (List.replicate 8 0)) (find?_sinsert_sdrop n.val _ t.imp.roots),
    congrArg (fun e => (e.map (·.2)).getD []) (find?_sinsert_sdrop n.val k t.imp.nkeys), rfl⟩

theorem rngCommit_encInt_spec {t : State} (good : commitBad t n = false) (mode : rngMode t n = 2) : let u := rngCommit t n
    rngOn u n = true ∧ u.flag (Reg.IMP_RNG_CTL n) 10 = false ∧ rootOf u n = List.replicate 8 0 ∧ (nodeKey u n).length = 32 ∧
      u.imp.cache = t.imp.cache ∧ u.mem = t.mem := by
  obtain ⟨k, c, long, e⟩ := rngCommit_encInt good mode
  obtain ⟨m, marked⟩ := named { committed t n with freeCtr := c }
  have before := onlyRegs_committed t n
  obtain ⟨sameRegs, sameMem, sameImp⟩ : m.regs = (committed t n).regs ∧ m.mem = (committed t n).mem ∧ m.imp = (committed t n).imp := by
    refine ⟨?_, ?_, ?_⟩ <;> rw [← marked]
  have regs : (keyed m n k).regs = (committed t n).regs := by rw [keyed, State.setImp_regs, sameRegs]
  have mem : (keyed m n k).mem = t.mem := by rw [keyed, State.setImp_mem, sameMem, before.mem]
  have cache : m.imp.cache = t.imp.cache := congrArg Imp.cache (sameImp.trans before.imp)
  obtain ⟨on, clear⟩ := committed_shown t n regs
  have only := onlyRegs_shown (keyed m n k)
  obtain ⟨root, key, same⟩ := rootOf_keyed only.imp
  dsimp only
  rw [e, marked]
  exact ⟨on, clear, root, (congrArg List.length key).trans long, same.trans cache, only.mem.trans mem⟩

theorem rngCommit_plain_spec {t : State} (good : commitBad t n = false) (mode : rngMode t n ≠ 2) : let u := rngCommit t n
    rngOn u n = true ∧ u.flag (Reg.IMP_RNG_CTL n) 10 = false ∧ OnlyRegs t u := by
  obtain ⟨on, clear⟩ := committed_shown t n rfl
  dsimp only
  rw [rngCommit_plain good mode]
  exact ⟨on, clear, (onlyRegs_committed t n).trans (onlyRegs_shown _)⟩

/-! A decommit (R335, R354). -/

theorem exec_impRangeDecommit_barred (barred : modeIn s rngModes = false) :
    exec (.impRangeDecommit n v) s = .next (s.raise blkMem 31) := by
  simp [execImpRangeDecommit, barred]

theorem exec_impRangeDecommit_rolls (mode : modeIn s rngModes = true) (rolls : s.flag (Reg.IMP_RNG_CTL n) 11 = true) :
    exec (.impRangeDecommit n v) s = .next s := by
  simp [execImpRangeDecommit, mode, rolls]

/-- The state with a range's root and node key discarded. -/
def keyless (s : State) (n : Nat) : State := s.setImp { s.imp with roots := sdrop n s.imp.roots, nkeys := sdrop n s.imp.nkeys }

/-- The state with a range's poison entries freed. -/
def unpoisoned (s : State) (n : Nat) : State :=
  (List.range 64).foldl (fun s e => if poisonOf s e n then (s.setRegN (Reg.IMP_POISON e) 0).setRegN (Reg.IMP_POISON e + 4) 0 else s) s

theorem onlyRegs_unpoisoned (s : State) (n : Nat) : OnlyRegs s (unpoisoned s n) := (OnlyRegs.refl s).foldl fun u e => by
  split
  · exact ((OnlyRegs.refl u).setRegN _ _).setRegN _ _
  · exact .refl u

/-- The control register of a range no longer committed. -/
def freed (u : State) (n : Nat) : State := (u.setFlag (Reg.IMP_RNG_CTL n) 9 false).setFlag (Reg.IMP_RNG_CTL n) 12 false

/-- The state a decommit leaves where nothing of the range is buffered or cached. -/
def decommitted (s : State) (n v : Nat) : State :=
  ((slotStat (impStat (freed (unpoisoned (keyless s n) n) n))).setFld (Reg.IMP_RNG_CTL n) 7 0 v).setFlag (Reg.IMP_RNG_CTL n) 8 false

theorem exec_impRangeDecommit_frees (mode : modeIn s rngModes = true) (still : s.flag (Reg.IMP_RNG_CTL n) 11 = false)
    (on : rngOn s n = true) (unbuffered : s.imp.buf = []) (uncached : s.imp.cache = []) :
    exec (.impRangeDecommit n v) s = .next (decommitted s n v.toNat) := by
  have gone : rngDecommit s n = slotStat (impStat (freed (unpoisoned (keyless s n) n) n)) := by
    obtain ⟨b, settled⟩ := named ((s.imp.buf.filter (fun b => rngOf s (512 * b.tile) == some n)).foldl
      (fun s b => if bufReady b then bufBack s b else bufFail s b.tile) s)
    have shape : rngDecommit s n = slotStat (impStat (freed (unpoisoned (keyless (evictRng b.imp.cache.length b n) n) n) n)) := by
      rw [← settled]; rfl
    have none : b = s := by rw [← settled, unbuffered]; rfl
    rw [shape, none, uncached]; rfl
  simp only [exec_impRangeDecommit, execImpRangeDecommit, mode, still, on, Bool.not_true, Bool.false_eq_true, if_false, if_true]
  rw [gone]; rfl

theorem decommitted_spec (s : State) (n : Fin 16) (v : Nat) : let t := decommitted s n v
    rngOn t n = false ∧ t.fld (Reg.IMP_RNG_CTL n) 7 0 = v % 256 ∧ t.flag (Reg.IMP_RNG_CTL n) 8 = false ∧ t.flag (Reg.IMP_RNG_CTL n) 12 = false ∧
      (∀ e ∈ t.imp.roots, e.1 ≠ n.val) ∧ (∀ e ∈ t.imp.nkeys, e.1 ≠ n.val) ∧ SameMem s t := by
  have only : OnlyRegs (keyless s n) (decommitted s n v) :=
    (((((onlyRegs_unpoisoned (keyless s n) n).setFlag _ _ _).setFlag _ _ _).trans (onlyRegs_shown _)).setFld _ _ _ _).setFlag _ _ _
  have shown := reg_rngCtl_shown (freed (unpoisoned (keyless s n) n) n) n
  have above {k : Nat} (hk : 8 < k) : (decommitted s n v).flag (Reg.IMP_RNG_CTL n) k =
      (freed (unpoisoned (keyless s n) n) n).flag (Reg.IMP_RNG_CTL n) k := by
    rw [decommitted, flag_setFlag_ne _ _ _ _ _ (by decide) (by omega), flag_setFld _ _ _ _ _ _ _ (by decide) (by decide),
      if_neg (by omega), flag_of_reg _ shown]
  refine ⟨?_, ?_, flag_setFlag _ _ _ _ (by decide), ?_, ?_, ?_, only.sameMem⟩
  · rw [rngOn, above (by decide), freed, flag_setFlag_ne _ _ _ _ _ (by decide) (by decide), flag_setFlag _ _ _ _ (by decide)]
  · rw [decommitted, State.setFlag, fld_setFld_apart _ _ _ _ _ _ _ (by decide) (by decide) (by decide),
      fld_setFld _ _ _ _ _ (by decide) (by decide)]; rfl
  · rw [above (by decide), freed, flag_setFlag _ _ _ _ (by decide)]
  · rw [only.imp]; exact fun e he => (mem_sdrop.mp he).2
  · rw [only.imp]; exact fun e he => (mem_sdrop.mp he).2

end

/-! Reseeding (R348). -/

section
variable {s : State} {v : BitVec 32}

theorem exec_impReseed_idle (free : s.flag (Reg.IMP_POISON (v.toNat % 64)) 31 = false) : exec (.impReseed v) s = .next s := by
  have slot : bitsOf v.toNat 5 0 = v.toNat % 64 := congrArg (· % 64) (Nat.div_one _)
  simp [execImpReseed, slot, free]

/-- A range's root reseeded: its cached nodes dropped. -/
def rootReseeded (s : State) (r : Nat) (b : List TileBuf) : State :=
  let t := setBuf s b
  setCtrs (t.setImp { t.imp with cache := t.imp.cache.filter (fun n => !(n.rng == r)) }) r 0 0 (List.replicate 8 0)

/-- A poison entry freed, and the mark of its range with it where it was the last. -/
def entryFreed (t : State) (e r : Nat) (more : Bool) : State :=
  (impStat (((t.setRegN (Reg.IMP_POISON e) 0).setRegN (Reg.IMP_POISON e + 4) 0).setFlag (Reg.IMP_RNG_CTL r) 12 more)).raise blkMem 21

theorem exec_impReseed_root {e r : Nat} (slot : v.toNat % 64 = e) (set : s.flag (Reg.IMP_POISON e) 31 = true)
    (rng : s.fld (Reg.IMP_POISON e) 27 24 = r) (root : s.fld (Reg.IMP_POISON e) 23 20 = 0) : ∃ b more,
    exec (.impReseed v) s = .next (entryFreed (rootReseeded s r b) e r more) := by
  have at_ : bitsOf v.toNat 5 0 = e := (congrArg (· % 64) (Nat.div_one _)).trans slot
  obtain ⟨b, kept⟩ := named (s.imp.buf.filter (fun b => !passes s r 0 (s.regN (Reg.IMP_POISON e + 4)) b.tile))
  refine ⟨b, (List.range 64).any fun x =>
    poisonOf (((rootReseeded s r b).setRegN (Reg.IMP_POISON e) 0).setRegN (Reg.IMP_POISON e + 4) 0) x r, ?_⟩
  simp only [exec_impReseed, execImpReseed, at_, set, rng, root, kept, Bool.not_true, Bool.false_eq_true, if_false, if_true]
  rfl

theorem onlyRegs_entryFreed (t : State) (e r : Nat) (more : Bool) : OnlyRegs t (entryFreed t e r more) :=
  ((((OnlyRegs.refl t).setRegN _ _).setRegN _ _).setFlag _ _ _).trans (onlyRegs_impStat _) |>.raise _ _

theorem flag_entryFreed (t : State) {e r : Nat} (he : e < 64) (more : Bool) :
    (entryFreed t e r more).flag (Reg.IMP_POISON e) 31 = false := by
  have below : Reg.IMP_POISON e < evtStatus blkMem := by unfold Reg.IMP_POISON evtStatus blockBase ctrlBase blkMem; omega
  have ctl : Reg.IMP_RNG_CTL r ≠ Reg.IMP_POISON e := by unfold Reg.IMP_RNG_CTL Reg.IMP_POISON; omega
  have stat : Reg.IMP_POISON e ≠ Reg.IMP_STAT := by unfold Reg.IMP_POISON Reg.IMP_STAT; omega
  rw [entryFreed, flag_of_reg _ (reg_raise_lt _ below), flag_of_reg _ (reg_impStat _ stat), flag_of_reg _ (reg_setFlag_ne _ _ _ ctl),
    flag_of_reg _ (reg_setRegN_ne _ _ (by omega)), State.flag, regN_setRegN, if_pos rfl, Nat.zero_mod, Nat.zero_testBit]

/-- A root of zeros given to a range. -/
theorem rooted_imp (t : State) (r : Nat) : rootOf (setCtrs t r 0 0 (List.replicate 8 0)) r = List.replicate 8 0 ∧
    (setCtrs t r 0 0 (List.replicate 8 0)).imp.cache = t.imp.cache ∧ (setCtrs t r 0 0 (List.replicate 8 0)).mem = t.mem := by
  refine ⟨?_, ?_, setCtrs_mem _ _ _ _ _⟩
  · rw [rootOf, setCtrs, if_pos rfl, State.setImp_imp]
    exact congrArg (fun e => (e.map (·.2)).getD (List.replicate 8 0)) (find?_sinsert_sdrop r _ t.imp.roots)
  · rw [setCtrs, if_pos rfl, State.setImp_imp]

theorem rootReseeded_imp (s : State) (r : Nat) (b : List TileBuf) : rootOf (rootReseeded s r b) r = List.replicate 8 0 ∧
    (∀ n ∈ (rootReseeded s r b).imp.cache, n.rng ≠ r) ∧ (rootReseeded s r b).mem = s.mem := by
  obtain ⟨root, cache, mem⟩ := rooted_imp ((setBuf s b).setImp { (setBuf s b).imp with
    cache := (setBuf s b).imp.cache.filter (fun n => !(n.rng == r)) }) r
  refine ⟨root, fun n hn => ?_, mem.trans ((State.setImp_mem _ _).trans ((onlyRegs_impStat _).mem.trans (State.setImp_mem _ _)))⟩
  rw [rootReseeded, cache] at hn
  simpa using (List.mem_filter.mp hn).2

end

/-! The key roll (R349…R352). -/

section
variable {s : State} {v : BitVec 32} {r k : Nat}

/-- The state with a roll of range r to slot k begun at the range's base. -/
def rollBegun (s : State) (r k : Nat) : State :=
  slotStat ((((s.setRegN Reg.IMP_ROLL_STAT (1 + r * 2 ^ 8 + k * 2 ^ 16)).setFlag (Reg.IMP_RNG_CTL r) 11 true).setRegN Reg.IMP_ROLL_B_LO
    (rngBase ((s.setRegN Reg.IMP_ROLL_STAT (1 + r * 2 ^ 8 + k * 2 ^ 16)).setFlag (Reg.IMP_RNG_CTL r) 11 true) r)).setRegN Reg.IMP_ROLL_B_HI
    (rngBase ((s.setRegN Reg.IMP_ROLL_STAT (1 + r * 2 ^ 8 + k * 2 ^ 16)).setFlag (Reg.IMP_RNG_CTL r) 11 true) r / 2 ^ 32))

theorem exec_rollStart_begins (range : bitsOf v.toNat 11 8 = r) (slot : bitsOf v.toNat 21 16 = k) (idle : s.fld Reg.IMP_ROLL_STAT 1 0 = 0)
    (mode : [mShadow, mStable, mBackup, mBoot, mBlank].contains s.mode = false) (on : rngOn s r = true) (prot : rngMode s r ≠ 0)
    (loaded : slotLoaded s k = true) (other : s.fld (Reg.IMP_RNG_CTL r) 7 2 ≠ k) : exec (.rollStart v) s = .next (rollBegun s r k) := by
  have good : (s.fld Reg.IMP_ROLL_STAT 1 0 != 0 || [mShadow, mStable, mBackup, mBoot, mBlank].contains s.mode || !rngOn s r || rngMode s r == 0 ||
      !slotLoaded s k || s.fld (Reg.IMP_RNG_CTL r) 7 2 == k) = false := by
    rw [idle, mode, on, loaded, beq_eq_false_iff_ne.mpr prot, beq_eq_false_iff_ne.mpr other]; rfl
  simp only [exec_rollStart, execRollStart, range, slot]
  exact if_neg (ne_true_of_eq_false good)

theorem exec_rollStart_refused (bad : s.fld Reg.IMP_ROLL_STAT 1 0 ≠ 0 ∨ s.mode = mStable ∨ rngOn s (bitsOf v.toNat 11 8) = false ∨
    slotLoaded s (bitsOf v.toNat 21 16) = false) : exec (.rollStart v) s = .next (s.setFlag Reg.IMP_ROLL_STAT 2 true) := by
  have refused : (s.fld Reg.IMP_ROLL_STAT 1 0 != 0 || [mShadow, mStable, mBackup, mBoot, mBlank].contains s.mode || !rngOn s (bitsOf v.toNat 11 8)
      || rngMode s (bitsOf v.toNat 11 8) == 0 || !slotLoaded s (bitsOf v.toNat 21 16)
      || s.fld (Reg.IMP_RNG_CTL (bitsOf v.toNat 11 8)) 7 2 == bitsOf v.toNat 21 16) = true := by
    rcases bad with h | h | h | h
    · simp [h]
    · rw [h]; simp
    · simp [h]
    · simp [h]
  simp only [exec_rollStart, execRollStart]
  exact if_pos refused

theorem exec_rollPause_pauses (runs : s.fld Reg.IMP_ROLL_STAT 1 0 = 1) : exec .rollPause s = .next (s.setFld Reg.IMP_ROLL_STAT 1 0 2) := by
  simp [execRollPause, rollPause, runs]
theorem exec_rollPause_idle (not : s.fld Reg.IMP_ROLL_STAT 1 0 ≠ 1) : exec .rollPause s = .next s := by simp [execRollPause, rollPause, not]
theorem exec_rollResume_resumes (paused : s.fld Reg.IMP_ROLL_STAT 1 0 = 2) :
    exec .rollResume s = .next (s.setFld Reg.IMP_ROLL_STAT 1 0 1) := by
  simp [execRollResume, rollResume, paused]

/-- A range's base lies in 48 bits. -/
theorem rngBase_lt (s : State) (r : Nat) : rngBase s r < 2 ^ 48 := by
  have lo : s.fld (Reg.IMP_RNG_BASE_LO r) 31 12 < 2 ^ 20 := bitsOf_lt _ _ _
  have hi : s.fld (Reg.IMP_RNG_BASE_HI r) 15 0 < 2 ^ 16 := bitsOf_lt _ _ _
  unfold rngBase; omega

/-- The boundary, written as two words, reads as it is. -/
theorem rollB_written (s : State) {b : Nat} (small : b < 2 ^ 48) :
    rollB ((s.setRegN Reg.IMP_ROLL_B_LO b).setRegN Reg.IMP_ROLL_B_HI (b / 2 ^ 32)) = b := by
  have high : ((s.setRegN Reg.IMP_ROLL_B_LO b).setRegN Reg.IMP_ROLL_B_HI (b / 2 ^ 32)).fld Reg.IMP_ROLL_B_HI 15 0 = b / 2 ^ 32 := by
    rw [State.fld, regN_setRegN, if_pos rfl, bitsOf, pow_zero, Nat.div_one]; omega
  rw [rollB, high, regN_of_reg (reg_setRegN_ne _ _ (by decide)), regN_setRegN, if_pos rfl]; omega

theorem rollB_of_reg {s t : State} (lo : t.reg Reg.IMP_ROLL_B_LO = s.reg Reg.IMP_ROLL_B_LO) (hi : t.reg Reg.IMP_ROLL_B_HI = s.reg Reg.IMP_ROLL_B_HI) :
    rollB t = rollB s := by
  rw [rollB, rollB, regN_of_reg lo, fld_of_reg _ _ hi]

theorem rngBase_of_reg {s t : State} (lo : t.reg (Reg.IMP_RNG_BASE_LO r) = s.reg (Reg.IMP_RNG_BASE_LO r))
    (hi : t.reg (Reg.IMP_RNG_BASE_HI r) = s.reg (Reg.IMP_RNG_BASE_HI r)) : rngBase t r = rngBase s r := by
  rw [rngBase, rngBase, fld_of_reg _ _ lo, fld_of_reg _ _ hi]

/-- Registers of the roll lie below those of the slots. -/
theorem reg_slotStat_low (s : State) {a : Nat} (low : a < Reg.IMP_KSLOT_STAT 0) : (slotStat s).reg a = s.reg a :=
  reg_slotStat s fun k _ => by unfold Reg.IMP_KSLOT_STAT at *; omega

theorem rollBegun_spec (s : State) (hr : r < 16) (hk : k < 64) : let t := rollBegun s r k
    t.regN Reg.IMP_ROLL_STAT = 1 + r * 2 ^ 8 + k * 2 ^ 16 ∧ t.flag (Reg.IMP_RNG_CTL r) 11 = true ∧ rollB t = rngBase s r ∧ t.imp = s.imp ∧
      SameMem s t := by
  obtain ⟨u, begun⟩ := named ((s.setRegN Reg.IMP_ROLL_STAT (1 + r * 2 ^ 8 + k * 2 ^ 16)).setFlag (Reg.IMP_RNG_CTL r) 11 true)
  have only : OnlyRegs s u := begun ▸ ((OnlyRegs.refl s).setRegN _ _).setFlag _ _ _
  have whole : rollBegun s r k = slotStat ((u.setRegN Reg.IMP_ROLL_B_LO (rngBase u r)).setRegN Reg.IMP_ROLL_B_HI (rngBase u r / 2 ^ 32)) := by
    rw [rollBegun, begun]
  have ctl : Reg.IMP_RNG_CTL r < Reg.IMP_KSLOT_STAT 0 := by unfold Reg.IMP_RNG_CTL Reg.IMP_KSLOT_STAT; omega
  have base : rngBase u r = rngBase s r := by
    rw [← begun]
    refine rngBase_of_reg ?_ ?_
    · rw [reg_setFlag_ne _ _ _ (by unfold Reg.IMP_RNG_CTL Reg.IMP_RNG_BASE_LO; omega),
        reg_setRegN_ne _ _ (by unfold Reg.IMP_ROLL_STAT Reg.IMP_RNG_BASE_LO; omega)]
    · rw [reg_setFlag_ne _ _ _ (by unfold Reg.IMP_RNG_CTL Reg.IMP_RNG_BASE_HI; omega),
        reg_setRegN_ne _ _ (by unfold Reg.IMP_ROLL_STAT Reg.IMP_RNG_BASE_HI; omega)]
  have apart : Reg.IMP_RNG_CTL r ≠ Reg.IMP_ROLL_STAT ∧ Reg.IMP_ROLL_B_LO ≠ Reg.IMP_RNG_CTL r ∧ Reg.IMP_ROLL_B_HI ≠ Reg.IMP_RNG_CTL r := by
    unfold Reg.IMP_RNG_CTL Reg.IMP_ROLL_STAT Reg.IMP_ROLL_B_LO Reg.IMP_ROLL_B_HI; omega
  obtain ⟨stat, lo, hi⟩ := apart
  have all := ((only.setRegN Reg.IMP_ROLL_B_LO (rngBase u r)).setRegN Reg.IMP_ROLL_B_HI (rngBase u r / 2 ^ 32)).trans (onlyRegs_slotStat _)
  dsimp only
  rw [whole]
  refine ⟨?_, ?_, ?_, all.imp, all.sameMem⟩
  · rw [regN_of_reg (reg_slotStat_low _ (by decide)), regN_of_reg (reg_setRegN_ne _ _ (by decide)),
      regN_of_reg (reg_setRegN_ne _ _ (by decide)), ← begun, regN_of_reg (reg_setFlag_ne _ _ _ stat), regN_setRegN, if_pos rfl]
    omega
  · rw [flag_of_reg _ (reg_slotStat_low _ ctl), flag_of_reg _ (reg_setRegN_ne _ _ hi), flag_of_reg _ (reg_setRegN_ne _ _ lo), ← begun,
      flag_setFlag _ _ _ _ (by decide)]
  · rw [rollB_of_reg (reg_slotStat_low _ (by decide)) (reg_slotStat_low _ (by decide)), rollB_written _ (rngBase_lt u r), base]

/-! A claim of the boundary tile (R350). -/

theorem exec_rollClaim_free (runs : s.fld Reg.IMP_ROLL_STAT 1 0 = 1) (unclaimed : s.imp.claim = false)
    (idle : tileIdle s (rollB s / 512) = true) (curb : curbOf s 473 = none) :
    exec .rollClaim s = .next (s.setImp { s.imp with claim := true }) := by
  simp [execRollClaim, runs, unclaimed, idle, curb]

/-- The boundary tile claimed, its charge taken from regulator n. -/
def claimCharged (s : State) (n : Nat) : State :=
  let t := s.setRegN (Reg.NOC_CURB_LEVEL n) (s.fld (Reg.NOC_CURB_LEVEL n) 23 0 - rollCharge)
  t.setImp { t.imp with claim := true }

theorem exec_rollClaim_charges {n : Nat} (runs : s.fld Reg.IMP_ROLL_STAT 1 0 = 1) (unclaimed : s.imp.claim = false)
    (idle : tileIdle s (rollB s / 512) = true) (curb : curbOf s 473 = some n) (room : 1040 ≤ s.fld (Reg.NOC_CURB_LEVEL n) 23 0) :
    exec .rollClaim s = .next (claimCharged s n) := by
  have free : ¬(s.fld Reg.IMP_ROLL_STAT 1 0 ≠ 1 ∨ s.imp.claim = true ∨ (!tileIdle s (rollB s / 512)) = true) := by simp [runs, unclaimed, idle]
  have charge : rollCharge ≤ s.fld (Reg.NOC_CURB_LEVEL n) 23 0 := room
  simp only [exec_rollClaim, execRollClaim, if_neg free, curb, if_pos charge]; rfl

theorem exec_rollClaim_idle (not : s.fld Reg.IMP_ROLL_STAT 1 0 ≠ 1 ∨ s.imp.claim = true ∨ tileIdle s (rollB s / 512) = false) :
    exec .rollClaim s = .next s := by
  rcases not with h | h | h <;> simp [execRollClaim, h]

theorem claimCharged_spec (s : State) (n : Nat) : (claimCharged s n).imp.claim = true ∧
    (claimCharged s n).regN (Reg.NOC_CURB_LEVEL n) = s.fld (Reg.NOC_CURB_LEVEL n) 23 0 - 1040 ∧
    SameRegs s (claimCharged s n) (· = Reg.NOC_CURB_LEVEL n) ∧ SameMem s (claimCharged s n) := by
  have level : s.fld (Reg.NOC_CURB_LEVEL n) 23 0 < 2 ^ 24 := bitsOf_lt _ _ _
  have charged := (SameRegs.refl s (· = Reg.NOC_CURB_LEVEL n)).setRegN rfl (s.fld (Reg.NOC_CURB_LEVEL n) 23 0 - rollCharge)
  refine ⟨by rw [claimCharged, State.setImp_imp], ?_, fun a ha => ?_, sameMem_of_mem ?_⟩
  · rw [claimCharged, regN_of_reg (reg_setImp _ _ _), regN_setRegN, if_pos rfl, rollCharge]; omega
  · rw [claimCharged, reg_setImp]; exact charged a ha
  · rw [claimCharged, State.setImp_mem, State.setRegN_mem]

/-! A claimed tile done or given back (R351). -/

/-- The boundary moved up by one tile. -/
def rollMoved (u : State) : State :=
  let t := (u.setRegN Reg.IMP_ROLL_B_LO (rollB u + 512)).setRegN Reg.IMP_ROLL_B_HI ((rollB u + 512) / 2 ^ 32)
  t.setImp { t.imp with claim := false }

/-- The range handed to the new slot. -/
def rollEnded (u : State) (r : Nat) : State :=
  let t := rollMoved u
  let t := (t.setFld (Reg.IMP_RNG_CTL r) 7 2 (t.fld Reg.IMP_ROLL_STAT 21 16)).setFlag (Reg.IMP_RNG_CTL r) 11 false
  slotStat ((t.setFld Reg.IMP_ROLL_STAT 1 0 0).raise blkMem 24)

theorem reg_rollMoved (u : State) {a : Nat} (lo : a ≠ Reg.IMP_ROLL_B_LO) (hi : a ≠ Reg.IMP_ROLL_B_HI) : (rollMoved u).reg a = u.reg a := by
  rw [rollMoved, reg_setImp, reg_setRegN_ne _ _ hi.symm, reg_setRegN_ne _ _ lo.symm]

/-- The end of a range after the boundary has moved. -/
theorem rngEnd_rollMoved (u : State) (r : Nat) : rngBase (rollMoved u) r + rngSize (rollMoved u) r = rngBase u r + rngSize u r := by
  have row {o : Nat} (ho : o < 0x20) : (rollMoved u).reg (0x45B10000 + o + 0x20 * r) = u.reg (0x45B10000 + o + 0x20 * r) :=
    reg_rollMoved u (by unfold Reg.IMP_ROLL_B_LO; omega) (by unfold Reg.IMP_ROLL_B_HI; omega)
  have size : rngSize (rollMoved u) r = rngSize u r :=
    congrArg (· * 4096) (fld_of_reg 28 0 (row (o := 8) (by decide)))
  rw [size, rngBase_of_reg (row (o := 0) (by decide)) (row (o := 4) (by decide))]

theorem rollNext_moves {u : State} (more : rollB u + 512 < rngBase u r + rngSize u r) : rollNext u r = rollMoved u := by
  have inside : ¬rngBase (rollMoved u) r + rngSize (rollMoved u) r ≤ rollB u + 512 := by rw [rngEnd_rollMoved]; omega
  rw [rollNext]
  exact if_neg inside

theorem rollNext_ends {u : State} (last : rngBase u r + rngSize u r ≤ rollB u + 512) : rollNext u r = rollEnded u r := by
  have past : rngBase (rollMoved u) r + rngSize (rollMoved u) r ≤ rollB u + 512 := by rw [rngEnd_rollMoved]; exact last
  rw [rollNext]
  exact if_pos past

theorem exec_rollTileDone_claimed (claim : s.imp.claim = true) (range : s.fld Reg.IMP_ROLL_STAT 11 8 = r) :
    exec .rollTileDone s = .next (rollNext (rollTile s r (rollB s / 512)) r) := by
  simp [execRollTileDone, claim, range]

/-- A tile of an ENC range is re-encrypted with nothing of IMP's own changed. -/
theorem impKept_rollTile (enc : rngMode s r = 1) (t : Nat) : ImpKept s (rollTile s r t) := by
  rw [rollTile]
  simp only [enc, if_true]
  exact impKept_encWrite s _ _ _

/-- What a tile's end reads of the range and the roll stands through the tile's writes. -/
theorem ImpKept.roll {u : State} (h : ImpKept s u) (hr : r < 16) : rollB u = rollB s ∧ rngBase u r + rngSize u r = rngBase s r + rngSize s r := by
  have row {o : Nat} (ho : o < 0x20) : u.reg (0x45B10000 + o + 0x20 * r) = s.reg (0x45B10000 + o + 0x20 * r) :=
    h.reg _ (by unfold isImpReg Reg.IMP_CTL; omega)
  have size : rngSize u r = rngSize s r := congrArg (· * 4096) (fld_of_reg 28 0 (row (o := 8) (by decide)))
  refine ⟨rollB_of_reg (h.reg _ (by unfold isImpReg; decide)) (h.reg _ (by unfold isImpReg; decide)), ?_⟩
  rw [size, rngBase_of_reg (row (o := 0) (by decide)) (row (o := 4) (by decide))]

theorem rollMoved_spec {u : State} (small : rollB u + 512 < 2 ^ 48) : rollB (rollMoved u) = rollB u + 512 ∧ (rollMoved u).imp.claim = false ∧
    (rollMoved u).fld Reg.IMP_ROLL_STAT 1 0 = u.fld Reg.IMP_ROLL_STAT 1 0 ∧ (rollMoved u).imp.buf = u.imp.buf := by
  have only := ((OnlyRegs.refl u).setRegN Reg.IMP_ROLL_B_LO (rollB u + 512)).setRegN Reg.IMP_ROLL_B_HI ((rollB u + 512) / 2 ^ 32)
  refine ⟨(rollB_of_reg (reg_setImp _ _ _) (reg_setImp _ _ _)).trans (rollB_written u small), ?_,
    fld_of_reg _ _ (reg_rollMoved u (by decide) (by decide)), ?_⟩
  · rw [rollMoved, State.setImp_imp]
  · rw [rollMoved, State.setImp_imp, only.imp]

theorem rollEnded_spec (u : State) (hr : r < 16) : let t := rollEnded u r
    t.fld (Reg.IMP_RNG_CTL r) 7 2 = u.fld Reg.IMP_ROLL_STAT 21 16 ∧ t.flag (Reg.IMP_RNG_CTL r) 11 = false ∧ t.fld Reg.IMP_ROLL_STAT 1 0 = 0 ∧
      Raised t blkMem 24 ∧ t.imp.claim = false := by
  have ctl : Reg.IMP_RNG_CTL r < Reg.IMP_KSLOT_STAT 0 := by unfold Reg.IMP_RNG_CTL Reg.IMP_KSLOT_STAT; omega
  have stat : Reg.IMP_ROLL_STAT ≠ Reg.IMP_RNG_CTL r := by unfold Reg.IMP_RNG_CTL Reg.IMP_ROLL_STAT; omega
  have below : Reg.IMP_RNG_CTL r < evtStatus blkMem := ctl.trans (by decide)
  have slot : (rollMoved u).fld Reg.IMP_ROLL_STAT 21 16 = u.fld Reg.IMP_ROLL_STAT 21 16 := fld_of_reg _ _ (reg_rollMoved u (by decide) (by decide))
  have six : u.fld Reg.IMP_ROLL_STAT 21 16 < 2 ^ 6 := bitsOf_lt _ _ _
  obtain ⟨m, moved⟩ := named (rollMoved u)
  have claim : m.imp.claim = false := by rw [← moved, rollMoved, State.setImp_imp]
  rw [moved] at slot
  have shape : rollEnded u r = slotStat ((((m.setFld (Reg.IMP_RNG_CTL r) 7 2 (m.fld Reg.IMP_ROLL_STAT 21 16)).setFlag (Reg.IMP_RNG_CTL r) 11
      false).setFld Reg.IMP_ROLL_STAT 1 0 0).raise blkMem 24) := by rw [← moved]; rfl
  dsimp only
  rw [shape]
  refine ⟨?_, ?_, ?_, ?_, ?_⟩
  · rw [fld_of_reg _ _ (reg_slotStat_low _ ctl), fld_of_reg _ _ (reg_raise_lt _ below), fld_of_reg _ _ (reg_setFld_ne _ _ _ _ stat), State.setFlag,
      fld_setFld_apart _ _ _ _ _ _ _ (by decide) (by decide) (by decide), fld_setFld _ _ _ _ _ (by decide) (by decide), slot]
    exact Nat.mod_eq_of_lt six
  · rw [flag_of_reg _ (reg_slotStat_low _ ctl), flag_of_reg _ (reg_raise_lt _ below), flag_of_reg _ (reg_setFld_ne _ _ _ _ stat),
      flag_setFlag _ _ _ _ (by decide)]
  · rw [fld_of_reg _ _ (reg_slotStat_low _ (by decide)), fld_of_reg _ _ (reg_raise_lt _ (by decide)), fld_setFld _ _ _ _ _ (by decide) (by decide),
      Nat.zero_mod]
  · exact (flag_of_reg _ (reg_slotStat _ fun k _ => by unfold Reg.IMP_KSLOT_STAT evtStatus blockBase ctrlBase blkMem; omega)).trans
      (raised_raise _ (by decide))
  · rw [(onlyRegs_slotStat _).imp, ((((OnlyRegs.refl m).setFld _ _ _ _).setFlag _ _ _).setFld _ _ _ _).raise _ _ |>.imp, claim]

/-- A claimed tile given back. -/
def rollRetried (s : State) : State := ((s.setImp { s.imp with claim := false }).count Reg.IMP_ROLL_RETRY_CNT).raise blkMem 25

theorem rollRetried_spec (s : State) : (rollRetried s).imp = { s.imp with claim := false } ∧
    (rollRetried s).regN Reg.IMP_ROLL_RETRY_CNT = satNat 32 (s.regN Reg.IMP_ROLL_RETRY_CNT + 1) ∧ Raised (rollRetried s) blkMem 25 ∧
    SameRegs s (rollRetried s) (fun a => a = Reg.IMP_ROLL_RETRY_CNT ∨ evtOf blkMem 25 a) ∧ SameMem s (rollRetried s) := by
  have only : OnlyRegs (s.setImp { s.imp with claim := false }) (rollRetried s) := ((OnlyRegs.refl _).count _).raise _ _
  have given : SameRegs s (s.setImp { s.imp with claim := false }) (fun a => a = Reg.IMP_ROLL_RETRY_CNT ∨ evtOf blkMem 25 a) := .refl s _
  refine ⟨only.imp, ?_, raised_raise _ (by decide), (given.count (.inl rfl)).raise fun _ => .inr, only.sameMem⟩
  rw [rollRetried, regN_of_reg (reg_raise_lt _ (by decide)), regN_count]; rfl

theorem exec_rollRetry_gives (claim : s.imp.claim = true) : exec .rollRetry s = .next (rollRetried s) := by simp [execRollRetry, claim, rollRetried]
theorem exec_rollRetry_idle (claim : s.imp.claim = false) : exec .rollRetry s = .next s := by simp [execRollRetry, claim]

end

/-! Tests and the log (R355). -/

section
variable {s : State} {v : BitVec 32} {init : Fin 512}

theorem exec_impTagFlipArm_barred (barred : modeIn s testModes = false) : exec (.impTagFlipArm v) s = .next (s.raise blkMem 31) := by
  simp [execImpTagFlipArm, barred]

/-- The tag of range r's next tile to be stored inverted. -/
def tagFlipArmed (s : State) (r : Nat) : State := (s.setImp { s.imp with flip := some r }).setRegN Reg.IMP_TAG_FLIP (r + 2 ^ 31)

theorem exec_impTagFlipArm_arms (mode : modeIn s testModes = true) (arm : v.getLsbD 31 = true) :
    exec (.impTagFlipArm v) s = .next (tagFlipArmed s (v.toNat % 16)) := by
  have range : bitsOf v.toNat 3 0 = v.toNat % 16 := congrArg (· % 16) (Nat.div_one _)
  simp only [exec_impTagFlipArm, execImpTagFlipArm, mode, arm, range, Bool.not_true, Bool.false_eq_true, if_false, if_true]
  rfl

theorem tagFlipArmed_spec (s : State) {r : Nat} (hr : r < 16) : (tagFlipArmed s r).imp = { s.imp with flip := some r } ∧
    (tagFlipArmed s r).regN Reg.IMP_TAG_FLIP = r + 2 ^ 31 ∧ SameRegs s (tagFlipArmed s r) (· = Reg.IMP_TAG_FLIP) ∧ SameMem s (tagFlipArmed s r) := by
  have armed : SameRegs s (s.setImp { s.imp with flip := some r }) (· = Reg.IMP_TAG_FLIP) := .refl s _
  refine ⟨((OnlyRegs.refl _).setRegN _ _).imp, ?_, armed.setRegN rfl _, ((OnlyRegs.refl (s.setImp _)).setRegN _ _).sameMem⟩
  rw [tagFlipArmed, regN_setRegN, if_pos rfl]; omega

/-- The log's head answered and popped. -/
def impLogTaken (s : State) (init : Nat) : State :=
  let r := logPop (s.answer init 0 [logWord s.imp.log 3]) s.imp.log Reg.IMP_LOG_STAT
  r.1.setImp { r.1.imp with log := r.2 }

theorem exec_impLogRead_pops (user : init.val ≠ 474) (some : s.imp.log.q ≠ []) : exec (.impLogRead init) s = .next (impLogTaken s init) := by
  rw [exec_impLogRead, execImpLogRead]
  exact if_neg (by simpa [debugInit, user] using some)

theorem impLogTaken_spec (s : State) (init : Nat) : (impLogTaken s init).ans.who = init ∧ (impLogTaken s init).ans.status = 0 ∧
    (impLogTaken s init).imp.log.q = s.imp.log.q.drop 1 ∧ (impLogTaken s init).flag Reg.IMP_LOG_STAT 0 = (s.imp.log.q.drop 1).isEmpty ∧
    SameRegs s (impLogTaken s init) (· = Reg.IMP_LOG_STAT) ∧ SameMem s (impLogTaken s init) := by
  have answered : SameRegs s (s.answer init 0 [logWord s.imp.log 3]) (· = Reg.IMP_LOG_STAT) := .refl s _
  have only := onlyRegs_logPop (s.answer init 0 [logWord s.imp.log 3]) s.imp.log Reg.IMP_LOG_STAT
  have ans : (impLogTaken s init).ans = ⟨init, 0, [logWord s.imp.log 3]⟩ := by rw [impLogTaken, State.setImp_ans, only.ans]; rfl
  refine ⟨by rw [ans], by rw [ans], by rw [impLogTaken, State.setImp_imp]; rfl, ?_, (answered.setFlag rfl 0 _).setFld rfl _ _ _,
    sameMem_of_mem (by rw [impLogTaken, State.setImp_mem, only.mem]; rfl)⟩
  rw [impLogTaken, flag_of_reg _ (reg_setImp _ _ _), logPop]
  exact (flag_setFld _ _ _ _ _ _ _ (by decide) (by decide)).trans ((if_neg (by omega)).trans (flag_setFlag _ _ _ _ (by decide)))

end

/-- Settles O49: a range's control register keeps its other bits through what shows the ranges, and a tile of a roll is written beneath IMP
with nothing of IMP's own changed. -/
theorem impRanges : Obligations.ImpRanges := by
  refine ⟨fun s n v barred => ⟨_, exec_impRangeCommit_barred barred, rfl⟩,
    fun s n v mode on => ⟨s, exec_impRangeCommit_again mode on, rfl⟩,
    fun s n v mode off bad => ⟨_, (exec_impRangeCommit_asks mode off).trans (congrArg _ (rngCommit_bad bad)), rngAsked_bad_spec off⟩,
    fun s n v mode off good two => ?_, fun s n v mode off good other => ?_,
    fun s n v barred => ⟨_, exec_impRangeDecommit_barred barred, rfl⟩,
    fun s n v mode rolls => ⟨s, exec_impRangeDecommit_rolls mode rolls, rfl⟩,
    fun s n v mode still on buf cache => ⟨_, exec_impRangeDecommit_frees mode still on buf cache, decommitted_spec s n v.toNat⟩,
    fun s v free => ⟨s, exec_impReseed_idle free, rfl⟩, fun s v set root => ?_,
    fun s v r k hr hk idle mode on prot loaded other => ⟨_, exec_rollStart_begins hr.symm hk.symm idle mode on prot loaded other,
      rollBegun_spec s (hr ▸ bitsOf_lt _ _ _) (hk ▸ bitsOf_lt _ _ _)⟩,
    fun s v bad => ⟨_, exec_rollStart_refused bad, rfl⟩,
    fun s runs => ⟨_, exec_rollPause_pauses runs, rfl⟩, fun s not => ⟨s, exec_rollPause_idle not, rfl⟩,
    fun s paused => ⟨_, exec_rollResume_resumes paused, rfl⟩,
    fun s runs free idle curb => ⟨_, exec_rollClaim_free runs free idle curb, rfl⟩,
    fun s n runs free idle curb room => ⟨_, exec_rollClaim_charges runs free idle curb room, claimCharged_spec s n⟩,
    fun s not => ⟨s, exec_rollClaim_idle not, rfl⟩, fun s claim enc more fits => ?_, fun s claim enc last => ?_,
    fun s claim => ⟨_, exec_rollRetry_gives claim, rollRetried_spec s⟩, fun s claim => ⟨s, exec_rollRetry_idle claim, rfl⟩,
    fun s v barred => ⟨_, exec_impTagFlipArm_barred barred, rfl⟩,
    fun s v mode arm => ⟨_, exec_impTagFlipArm_arms mode arm, tagFlipArmed_spec s (Nat.mod_lt _ (by decide))⟩,
    fun s init user some => ⟨_, exec_impLogRead_pops user some, impLogTaken_spec s init⟩⟩
  case refine_1 =>
    obtain ⟨low, -⟩ := rngAsked_ctl s n v
    have only := onlyRegs_rngAsked s n v.toNat
    obtain ⟨on, clear, root, key, cache, mem⟩ :=
      rngCommit_encInt_spec (t := rngAsked s n v.toNat) good ((rngMode_of_low low).trans (by omega))
    exact ⟨_, exec_impRangeCommit_asks mode off, on, clear, root, key, cache.trans (congrArg Imp.cache only.imp), sameMem_of_mem (mem.trans only.mem)⟩
  case refine_2 =>
    obtain ⟨low, -⟩ := rngAsked_ctl s n v
    have one : rngMode (rngAsked s n v.toNat) n ≠ 2 := fun two => other (by rw [rngMode_of_low low] at two; omega)
    obtain ⟨on, clear, only⟩ := rngCommit_plain_spec (t := rngAsked s n v.toNat) good one
    have all := (onlyRegs_rngAsked s n v.toNat).trans only
    exact ⟨_, exec_impRangeCommit_asks mode off, on, clear, all.imp, all.sameMem⟩
  case refine_3 =>
    obtain ⟨b, more, e⟩ := exec_impReseed_root rfl set rfl root
    have only := onlyRegs_entryFreed (rootReseeded s (s.fld (Reg.IMP_POISON (v.toNat % 64)) 27 24) b) (v.toNat % 64)
      (s.fld (Reg.IMP_POISON (v.toNat % 64)) 27 24) more
    obtain ⟨zeros, cache, mem⟩ := rootReseeded_imp s (s.fld (Reg.IMP_POISON (v.toNat % 64)) 27 24) b
    refine ⟨_, e, ?_, flag_entryFreed _ (Nat.mod_lt _ (by decide)) _, ?_, raised_raise _ (by decide), sameMem_of_mem (only.mem.trans mem)⟩
    · rw [rootOf, only.imp]; exact zeros
    · rw [only.imp]; exact cache
  case refine_4 =>
    have kept := impKept_rollTile enc (rollB s / 512)
    obtain ⟨b, ends⟩ := kept.roll (bitsOf_lt _ 11 8)
    have e := rollNext_moves (u := rollTile s (s.fld Reg.IMP_ROLL_STAT 11 8) (rollB s / 512)) (by rw [b, ends]; exact more)
    obtain ⟨moved, claimed, stat, buf⟩ := rollMoved_spec (u := rollTile s (s.fld Reg.IMP_ROLL_STAT 11 8) (rollB s / 512)) (by rw [b]; omega)
    refine ⟨_, (exec_rollTileDone_claimed claim rfl).trans (congrArg _ e), moved.trans (by rw [b]), claimed, stat.trans ?_, buf.trans ?_⟩
    · exact fld_of_reg _ _ (kept.reg _ (by unfold isImpReg; decide))
    · rw [kept.imp]
  case refine_5 =>
    have kept := impKept_rollTile enc (rollB s / 512)
    obtain ⟨b, ends⟩ := kept.roll (bitsOf_lt _ 11 8)
    have e := rollNext_ends (u := rollTile s (s.fld Reg.IMP_ROLL_STAT 11 8) (rollB s / 512)) (by rw [b, ends]; exact last)
    obtain ⟨slot, rest⟩ := rollEnded_spec (rollTile s (s.fld Reg.IMP_ROLL_STAT 11 8) (rollB s / 512)) (bitsOf_lt (s.regN Reg.IMP_ROLL_STAT) 11 8)
    exact ⟨_, (exec_rollTileDone_claimed claim rfl).trans (congrArg _ e),
      slot.trans (fld_of_reg _ _ (kept.reg _ (by unfold isImpReg; decide))), rest⟩

end Sys2Proof.Machine
end

section
/-! PROOFS. Facts of 14_relay_pair.md's frames, entries and journal (R397, R398, R399, R400, R401, R402). -/

namespace Sys2Proof.Machine

/-! Fields of byte strings (R13). -/

theorem leNat_append_zeros : ∀ (l : List Byte) (k : Nat), leNat (l ++ List.replicate k 0) = leNat l
  | [], 0 => rfl
  | [], k + 1 => by
    have zeros : leNat (List.replicate k 0) = 0 := leNat_append_zeros [] k
    rw [List.nil_append, List.replicate_succ]
    exact (congrArg (fun n => 0 + 256 * n) zeros).trans rfl
  | b :: r, k => by rw [List.cons_append, leNat, leNat, leNat_append_zeros r k]

theorem padTo_short {n : Nat} {l : List Byte} (short : l.length ≤ n) : padTo n l = l ++ List.replicate (n - l.length) 0 := by
  rw [padTo, List.take_of_length_le short]

/-- The zeros a string is padded with do not show in its fields. -/
theorem fieldLe_padTo {n : Nat} {l : List Byte} (short : l.length ≤ n) (o k : Nat) : fieldLe (padTo n l) o k = fieldLe l o k := by
  rw [fieldLe, fieldLe, slice, slice, padTo_short short, List.drop_append, List.drop_replicate, List.take_append, List.take_replicate,
    leNat_append_zeros]

/-! The body of a frame (Table RLY-3). -/

section
variable (q pt seg : Nat) (d : List Byte)

theorem fieldLe_relBody_seq : fieldLe (relBody q pt seg d) 0 4 = q % 2 ^ 32 := leNat_leBytes 4 q
theorem fieldLe_relBody_pt : fieldLe (relBody q pt seg d) 4 4 = pt % 2 ^ 32 := leNat_leBytes 4 pt
theorem fieldLe_relBody_seg : fieldLe (relBody q pt seg d) 8 1 = seg % 256 := leNat_leBytes 1 seg
theorem drop_relBody : (relBody q pt seg d).drop 12 = padTo 80 d := rfl
theorem slice_relBody_data : slice (relBody q pt seg d) 12 80 = padTo 80 d := by
  rw [slice, drop_relBody, List.take_of_length_le (by rw [length_padTo])]

/-- A field of the body's data. -/
theorem fieldLe_relBody_data (o k : Nat) : fieldLe (relBody q pt seg d) (12 + o) k = fieldLe (padTo 80 d) o k := by
  rw [fieldLe, fieldLe, slice, slice, ← drop_relBody q pt seg d, List.drop_drop]

end

/-! A frame sent changes neither register nor memory. -/

section
variable (s : State) (l : List (Nat × List Byte)) (nak bad : Bool)

@[simp] theorem regs_relSend : (relSend s l).regs = s.regs := rfl
@[simp] theorem mem_relSend : (relSend s l).mem = s.mem := rfl
@[simp] theorem rly_relSend : (relSend s l).rly = s.rly := rfl
@[simp] theorem pac_relSend : (relSend s l).pac = s.pac := rfl
@[simp] theorem outbox_relSend : (relSend s l).lane.teth.outbox = s.lane.teth.outbox ++ l := rfl

@[simp] theorem regN_relAck (a : Nat) : (relAck s nak bad).regN a = s.regN a := rfl
@[simp] theorem sync_relAck : (relAck s nak bad).sync = s.sync := rfl
@[simp] theorem raised_relAck (b n : Nat) : Raised (relAck s nak bad) b n ↔ Raised s b n := Iff.rfl
@[simp] theorem mem_relAck : (relAck s nak bad).mem = s.mem := rfl
@[simp] theorem rly_relAck : (relAck s nak bad).rly = s.rly := rfl
@[simp] theorem pac_relAck : (relAck s nak bad).pac = s.pac := rfl

end

/-! SYNC changed. -/

section
variable (s : State) (v : Nat)

theorem relayStat_below : Reg.RELAY_STAT < evtStatus blkRly := by decide

theorem onlyRegs_setSync : OnlyRegs s (s.setSync v) := by
  unfold State.setSync; split
  · exact .refl s
  · exact ((OnlyRegs.refl s).setFld _ _ _ _).raise _ _

theorem sameRegs_setSync : SameRegs s (s.setSync v) (fun a => a = Reg.RELAY_STAT ∨ evtOf blkRly 1 a) := by
  unfold State.setSync; split
  · exact .refl s _
  · exact ((SameRegs.refl s _).setFld (.inl rfl) _ _ _).raise fun _ => .inr

theorem sync_setSync (hv : v < 4) : (s.setSync v).sync = v := by
  unfold State.setSync; split
  · assumption
  · exact (fld_of_reg 3 2 (reg_raise_lt _ relayStat_below)).trans
      ((fld_setFld s Reg.RELAY_STAT 3 2 v (by decide) (by decide)).trans (Nat.mod_eq_of_lt hv))

theorem role_setSync : (s.setSync v).role = s.role := by
  unfold State.setSync; split
  · rfl
  · exact (fld_of_reg 1 0 (reg_raise_lt _ relayStat_below)).trans
      (fld_setFld_apart s Reg.RELAY_STAT 3 2 v 1 0 (by decide) (by decide) (by decide))

end

theorem OnlyRegs.rly {s t : State} (h : OnlyRegs s t) : t.rly = s.rly := by obtain ⟨r, rfl⟩ := h; rfl

/-! The journal point moved (R401), an entry applied. -/

section
variable (s : State) (q pt : Nat)

theorem onlyRegs_lagPeak : OnlyRegs s (lagPeak s) := by
  unfold lagPeak; split
  · exact (OnlyRegs.refl s).setFld _ _ _ _
  · exact .refl s

theorem sameRegs_lagPeak : SameRegs s (lagPeak s) (· = Reg.RELAY_LAG) := by
  unfold lagPeak; split
  · exact (SameRegs.refl s (· = Reg.RELAY_LAG)).setFld rfl _ _ _
  · exact .refl s _

/-- The Relay's part once its journal point has moved. -/
def pointMoved (r : Relay) (pt : Nat) : Relay := { r with jpt := some pt, shadow := r.shadow.filter (fun e => ptLater e.1 pt) }

theorem setJpt_eq : setJpt s pt = lagPeak ((lagPeak s).setRly (pointMoved (lagPeak s).rly pt)) := rfl

theorem rly_setJpt : (setJpt s pt).rly = pointMoved s.rly pt := by
  rw [setJpt_eq, (onlyRegs_lagPeak _).rly, State.setRly_rly, (onlyRegs_lagPeak s).rly]

theorem reg_setJpt {a : Nat} (ha : a ≠ Reg.RELAY_LAG) : (setJpt s pt).reg a = s.reg a := by
  rw [setJpt_eq, sameRegs_lagPeak _ a ha]; exact sameRegs_lagPeak s a ha

theorem pac_setJpt : (setJpt s pt).pac = s.pac := by
  rw [setJpt_eq, (onlyRegs_lagPeak _).pac, State.setRly_pac, (onlyRegs_lagPeak s).pac]
theorem mem_setJpt : (setJpt s pt).mem = s.mem := by
  rw [setJpt_eq, (onlyRegs_lagPeak _).mem, State.setRly_mem, (onlyRegs_lagPeak s).mem]

theorem rly_jApplied : (jApplied s q pt).rly = pointMoved { s.rly with applied := some q } pt := rly_setJpt _ pt
theorem pac_jApplied : (jApplied s q pt).pac = s.pac := pac_setJpt _ pt
theorem mem_jApplied : (jApplied s q pt).mem = s.mem := mem_setJpt _ pt

theorem reg_jApplied {a : Nat} (lag : a ≠ Reg.RELAY_LAG) (ack : Reg.RELAY_JSEQ_ACK ≠ a) : (jApplied s q pt).reg a = s.reg a := by
  rw [jApplied, reg_setJpt _ pt lag]; exact reg_setRegN_ne s q ack

theorem ack_jApplied (hq : q < 2 ^ 32) : (jApplied s q pt).regN Reg.RELAY_JSEQ_ACK = q := by
  have last : (jApplied s q pt).regN Reg.RELAY_JSEQ_ACK = (s.setRegN Reg.RELAY_JSEQ_ACK q).regN Reg.RELAY_JSEQ_ACK :=
    regN_of_reg (reg_setJpt _ pt (by decide))
  rw [last, regN_setRegN, if_pos rfl, Nat.mod_eq_of_lt hq]

/-- What every entry leaves once it is applied: its number and its point. -/
theorem jApplied_point (hq : q < 2 ^ 32) : (jApplied s q pt).rly.applied = some q ∧ (jApplied s q pt).regN Reg.RELAY_JSEQ_ACK = q ∧
    (jApplied s q pt).rly.jpt = some pt ∧ (jApplied s q pt).rly.acc = s.rly.acc := by
  refine ⟨?_, ack_jApplied s q pt hq, ?_, ?_⟩ <;> rw [rly_jApplied] <;> rfl

theorem raised_jApplied {n : Nat} (stands : Raised s blkRly n) : Raised (jApplied s q pt) blkRly n := by
  exact (flag_of_reg n (reg_jApplied s q pt (by decide) (by decide))).trans stands

end

/-! An entry that cannot be applied (R402). -/

section
variable (s : State)

/-- The state a mismatch leaves, before the partner is told. -/
def unmatched (s : State) : State := ((s.setSync 0).raise blkRly 9).count Reg.RELAY_MISMATCH_CNT

theorem onlyRegs_unmatched : OnlyRegs s (unmatched s) := ((onlyRegs_setSync s 0).raise _ _).count _

theorem mismatch_spec : (mismatch s).sync = 0 ∧ Raised (mismatch s) blkRly 9 ∧
    (mismatch s).regN Reg.RELAY_MISMATCH_CNT = satNat 32 (s.regN Reg.RELAY_MISMATCH_CNT + 1) ∧ (mismatch s).rly = s.rly ∧
    (mismatch s).pac = s.pac ∧ (mismatch s).mem = s.mem := by
  have told : mismatch s = relAck (unmatched s) false true := rfl
  have stat : (unmatched s).fld Reg.RELAY_STAT 3 2 = (s.setSync 0).fld Reg.RELAY_STAT 3 2 := by
    rw [unmatched, fld_of_reg 3 2 (reg_count_ne _ (by decide)), fld_of_reg 3 2 (reg_raise_lt _ relayStat_below)]
  have event : Raised (unmatched s) blkRly 9 := by
    unfold Raised; rw [unmatched, flag_of_reg 9 (reg_count_ne _ (by decide))]; exact raised_raise _ (by decide)
  have before : ((s.setSync 0).raise blkRly 9).regN Reg.RELAY_MISMATCH_CNT = s.regN Reg.RELAY_MISMATCH_CNT :=
    regN_of_reg ((reg_raise_lt _ (by decide)).trans (sameRegs_setSync s 0 _ (by unfold evtOf; decide)))
  have counted : (unmatched s).regN Reg.RELAY_MISMATCH_CNT = satNat 32 (s.regN Reg.RELAY_MISMATCH_CNT + 1) := by
    rw [unmatched, regN_count, before]
  rw [told, sync_relAck, raised_relAck, regN_relAck, rly_relAck, pac_relAck, mem_relAck]
  exact ⟨stat.trans (sync_setSync s 0 (by decide)), event, counted, (onlyRegs_unmatched s).rly, (onlyRegs_unmatched s).pac,
    (onlyRegs_unmatched s).mem⟩

end

/-! Entries taken (R398, R400). -/

/-- The state with a whole entry taken. -/
def entryTaken (s : State) (r : List (Nat × List Byte × Nat)) : State := s.setRly { s.rly with acc := r, part := none }

/-- The number after one below 2^32 has not been reached with it. -/
theorem not_ptReached_next {a : Nat} (ha : a < 2 ^ 32) : ptReached a ((a + 1) % 2 ^ 32) = false := by
  unfold ptReached ptSub; exact decide_eq_false (by omega)

section
variable {s : State} {kind q pt tl a : Nat} {d : List Byte} {r : List (Nat × List Byte × Nat)}

theorem relTake_head {b : List Byte} (acc : s.rly.acc = (kind, b, tl) :: r) :
    relTake s kind = some (s.setRly { s.rly with acc := r }, b, tl) := by
  rw [relTake, acc]; exact if_pos rfl

section
variable {u : State} {seg : Nat} (take : relTake s kind = some (u, relBody q pt seg d, tl)) (shadow : u.shadowing = true) (joined : u.sync ≠ 0)
  (applied : u.rly.applied = some a) (number : q < 2 ^ 32)
include take shadow joined applied number

theorem jTake_old (old : ptReached a q = true) : jTake s kind = (u, none) := by
  simp only [jTake, take, shadow, decide_eq_false joined, applied, fieldLe_relBody_seq, Nat.mod_eq_of_lt number, old, Bool.not_true,
    Bool.or_false, Bool.false_eq_true, if_false, if_true]

theorem jTake_outOfOrder (new : ptReached a q = false) (other : q ≠ (a + 1) % 2 ^ 32) : jTake s kind = (relNak u, none) := by
  have gap : (q == (a + 1) % 2 ^ 32) = false := beq_eq_false_iff_ne.mpr other
  simp only [jTake, take, shadow, decide_eq_false joined, applied, fieldLe_relBody_seq, Nat.mod_eq_of_lt number, new, gap, Bool.not_true,
    Bool.not_false, Bool.or_false, Bool.false_eq_true, if_false, if_true]

theorem jTake_last {e : List Byte} (new : ptReached a q = false) (next : q = (a + 1) % 2 ^ 32) (hseg : seg < 256) (point : pt < 2 ^ 32)
    (last : seg / 16 ≤ seg % 16) (begun : seg % 16 = 0 ∧ e = [] ∨ seg % 16 ≠ 0 ∧ u.rly.part = some (q, seg % 16, e)) :
    jTake s kind = (u.setRly { u.rly with part := none }, some (q, pt, e ++ padTo 80 d)) := by
  have inOrder : (q == (a + 1) % 2 ^ 32) = true := beq_iff_eq.mpr next
  rcases begun with ⟨first, rfl⟩ | ⟨later, part⟩
  · simp only [jTake, take, shadow, decide_eq_false joined, applied, fieldLe_relBody_seq, fieldLe_relBody_pt, fieldLe_relBody_seg,
      slice_relBody_data, Nat.mod_eq_of_lt number, Nat.mod_eq_of_lt point, Nat.mod_eq_of_lt hseg, new, inOrder, first, Bool.not_true,
      Bool.or_false, Bool.false_eq_true, if_false, if_true]
    exact if_pos (first ▸ last)
  · simp only [jTake, take, shadow, decide_eq_false joined, applied, fieldLe_relBody_seq, fieldLe_relBody_pt, fieldLe_relBody_seg,
      slice_relBody_data, Nat.mod_eq_of_lt number, Nat.mod_eq_of_lt point, Nat.mod_eq_of_lt hseg, new, inOrder, if_neg later, part,
      Bool.not_true, Bool.or_false, Bool.false_eq_true, and_self, if_false, if_true, if_pos last]

end

/-- A whole entry that is the next in order. -/
structure NextEntry (s : State) (kind q pt : Nat) (d : List Byte) (tl : Nat) (r : List (Nat × List Byte × Nat)) (a : Nat) : Prop where
  acc : s.rly.acc = (kind, relBody q pt 0 d, tl) :: r
  shadow : s.shadowing = true
  joined : s.sync ≠ 0
  applied : s.rly.applied = some a
  next : q = (a + 1) % 2 ^ 32
  last : a < 2 ^ 32
  point : pt < 2 ^ 32

namespace NextEntry

theorem number (h : NextEntry s kind q pt d tl r a) : q < 2 ^ 32 := h.next ▸ Nat.mod_lt _ (by decide)

theorem jTake (h : NextEntry s kind q pt d tl r a) : jTake s kind = (entryTaken s r, some (q, pt, padTo 80 d)) := by
  have new : ptReached a q = false := h.next ▸ not_ptReached_next h.last
  exact jTake_last (relTake_head h.acc) h.shadow h.joined h.applied h.number new h.next (by decide) h.point (by decide) (.inl ⟨rfl, rfl⟩)

variable {f : State → List Byte → Option State}

theorem jApply_some (h : NextEntry s kind q pt d tl r a) {u : State} (acts : f (entryTaken s r) (padTo 80 d) = some u) :
    jApply s kind f = jApplied u q pt := by
  unfold jApply; rw [h.jTake]; dsimp only; rw [acts]

theorem jApply_none (h : NextEntry s kind q pt d tl r a) (refuses : f (entryTaken s r) (padTo 80 d) = none) :
    jApply s kind f = mismatch (entryTaken s r) := by
  unfold jApply; rw [h.jTake]; dsimp only; rw [refuses]

/-- What a refused entry leaves. -/
theorem refused (h : NextEntry s kind q pt d tl r a) (refuses : f (entryTaken s r) (padTo 80 d) = none) :
    (jApply s kind f).sync = 0 ∧ Raised (jApply s kind f) blkRly 9 ∧
    (jApply s kind f).regN Reg.RELAY_MISMATCH_CNT = satNat 32 (s.regN Reg.RELAY_MISMATCH_CNT + 1) ∧
    (jApply s kind f).rly.applied = s.rly.applied ∧ (jApply s kind f).rly.acc = r ∧ (jApply s kind f).pac = s.pac ∧
    SameMem s (jApply s kind f) := by
  obtain ⟨sync, event, count, rly, pac, mem⟩ := mismatch_spec (entryTaken s r)
  rw [h.jApply_none refuses]
  exact ⟨sync, event, count, by rw [rly]; rfl, by rw [rly]; rfl, pac, sameMem_of_mem mem⟩

/-- What an entry leaves once it is applied. -/
theorem accepted (h : NextEntry s kind q pt d tl r a) {u : State} (acts : f (entryTaken s r) (padTo 80 d) = some u) (rest : u.rly.acc = r) :
    (jApply s kind f).rly.applied = some q ∧ (jApply s kind f).regN Reg.RELAY_JSEQ_ACK = q ∧ (jApply s kind f).rly.jpt = some pt ∧
    (jApply s kind f).rly.acc = r := by
  rw [h.jApply_some acts, ← rest]; exact jApplied_point u q pt h.number

end NextEntry

end

end Sys2Proof.Machine
end

section
/-! PROOFS. A statement of 14_relay_pair.md: the entries a secondary applies (R402, R403, R405, R406, R407, R414, R417). -/

namespace Sys2Proof.Machine

/-! Whole writes of memory: the bytes they leave, and the Relay's part, which they keep. -/

section
variable (s : State)

/-- Writing bytes leaves them in memory, and the Relay's part as it was. -/
structure Written (s t : State) (a : Nat) (b : List Byte) : Prop where
  mem : t.mem = (s.store a b).mem
  rly : t.rly = s.rly

theorem Written.byte {s t : State} {a : Nat} {b : List Byte} (h : Written s t a b) (x : Nat) :
    t.byte x = if a ≤ x ∧ x < a + b.length then b.getD (x - a) 0 else s.byte x := by
  rw [← byte_store]; exact sameMem_of_mem h.mem x

theorem spWord_kept (a n w : Nat) : (spWord s a n w).mem = s.mem ∧ (spWord s a n w).rly = s.rly := by
  have kept (e : BitVec 72) : (setSpErr s w e).mem = s.mem ∧ (setSpErr s w e).rly = s.rly := ⟨rfl, rfl⟩
  unfold spWord; dsimp only; split
  · exact kept _
  · exact kept _

theorem spFlipDone_kept (a : Nat) : (spFlipDone s a).mem = s.mem ∧ (spFlipDone s a).rly = s.rly := by
  unfold spFlipDone; split
  · split
    · exact ⟨by simp, by simp⟩
    · exact ⟨rfl, rfl⟩
  · exact ⟨rfl, rfl⟩

theorem written_spWrite (a : Nat) (b : List Byte) : Written s (spWrite s a b) a b := by
  unfold spWrite; split
  next empty =>
    obtain rfl : b = [] := List.isEmpty_iff.mp empty
    exact ⟨rfl, rfl⟩
  next =>
    have words := List.foldlRecOn (motive := fun u => u.mem = (s.store a b).mem ∧ u.rly = s.rly) (wordsOf a b.length)
      (fun s w => spWord s a b.length w) ⟨rfl, State.store_rly s a b⟩
      fun u hu w _ => ⟨(spWord_kept u a _ w).1.trans hu.1, (spWord_kept u a _ w).2.trans hu.2⟩
    obtain ⟨mem, rly⟩ := spFlipDone_kept ((wordsOf a b.length).foldl (fun s w => spWord s a b.length w) (s.store a b)) a
    exact ⟨mem.trans words.1, rly.trans words.2⟩

/-- Below local SDRAM a write goes to the scratchpad or straight to memory. -/
theorem written_rawWrite_low {a : Nat} (low : a < sdBase) (k : Nat) (b : List Byte) : Written s (s.rawWrite k a b) a b := by
  have sdram : inSdram a = false := by unfold inSdram; rw [decide_eq_false (by omega)]; rfl
  have hdm : inHdm a = false := by unfold inHdm; rw [decide_eq_false (by unfold hdmBase; unfold sdBase at low; omega)]; rfl
  unfold State.rawWrite; split
  · exact written_spWrite s a b
  · rw [sdram, hdm]; exact ⟨rfl, State.store_rly s a b⟩

theorem rly_setChan (h : Nat) (c : Channel) : (setChan s h c).rly = s.rly := rfl
theorem rly_setLineErr (l : Nat) (e : LineErr) : (setLineErr s l e).rly = s.rly := rfl

theorem lineFresh_kept (l : Nat) : (lineFresh s l).mem = s.mem ∧ (lineFresh s l).rly = s.rly := by
  unfold lineFresh; dsimp only; split
  · simp only [State.raise_mem, State.setFlag_mem, State.raise_rly, State.setFlag_rly]
    exact ⟨setChan_mem _ _ _, rly_setChan _ _ _⟩
  · exact ⟨setLineErr_mem _ _ _, rly_setLineErr _ _ _⟩

theorem written_lineWrite (l : Nat) (b : List Byte) : Written s (lineWrite s l b) (64 * l) b := by
  obtain ⟨mem, rly⟩ := lineFresh_kept ((unmerge s (lineChan s l).1 l).store (64 * l) b) l
  exact ⟨mem, rly.trans (State.store_rly _ _ _)⟩

end

theorem getD_slice (l : List Byte) {o n i : Nat} (hi : i < n) : (slice l o n).getD i 0 = l.getD (o + i) 0 := by
  simp [slice, List.getD_eq_getElem?_getD, List.getElem?_drop, hi]

theorem length_slice {l : List Byte} {o n : Nat} (long : o + n ≤ l.length) : (slice l o n).length = n := by
  simp [slice]; omega

/-- The part of a write of local SDRAM that falls in one line. -/
def lineStep (a : Nat) (b : List Byte) (s : State) (l : Nat) : State :=
  let lo := Nat.max a (64 * l)
  let hi := Nat.min (a + b.length) (64 * l + 64)
  let p := slice b (lo - a) (hi - lo)
  if hi - lo = 64 then lineWrite s l p else mergeWrite s l (lo - 64 * l) p

theorem sdWrite_eq (s : State) (a : Nat) (b : List Byte) : sdWrite s a b = (linesOf a b.length).foldl (lineStep a b) s := rfl

section
variable {l0 n : Nat} {b : List Byte}

theorem lineStep_whole (whole : b.length = 64 * n) {i : Nat} (hi : i < n) (s : State) :
    lineStep (64 * l0) b s (l0 + i) = lineWrite s (l0 + i) (slice b (64 * i) 64) := by
  have lo : Nat.max (64 * l0) (64 * (l0 + i)) = 64 * (l0 + i) := Nat.max_eq_right (by omega)
  have hi : Nat.min (64 * l0 + b.length) (64 * (l0 + i) + 64) = 64 * (l0 + i) + 64 := Nat.min_eq_right (by omega)
  have size : 64 * (l0 + i) + 64 - 64 * (l0 + i) = 64 := by omega
  have start : 64 * (l0 + i) - 64 * l0 = 64 * i := by omega
  unfold lineStep; dsimp only
  rw [lo, hi, size, start, if_pos rfl]

/-- The first k lines of a write of whole lines. -/
theorem lineSteps_whole (whole : b.length = 64 * n) (s : State) : ∀ k ≤ n,
    (((List.range k).map (l0 + ·)).foldl (lineStep (64 * l0) b) s).rly = s.rly ∧
    ∀ x, (((List.range k).map (l0 + ·)).foldl (lineStep (64 * l0) b) s).byte x =
      if 64 * l0 ≤ x ∧ x < 64 * l0 + 64 * k then b.getD (x - 64 * l0) 0 else s.byte x
  | 0, _ => ⟨rfl, fun x => (if_neg (by omega)).symm⟩
  | k + 1, hk => by
    obtain ⟨rly, byte⟩ := lineSteps_whole whole s k (by omega)
    rw [List.range_succ, List.map_append, List.foldl_append]
    generalize ((List.range k).map (l0 + ·)).foldl (lineStep (64 * l0) b) s = u at rly byte
    have step : [k].map (l0 + ·) = [l0 + k] := rfl
    rw [step, List.foldl_cons, List.foldl_nil, lineStep_whole whole (by omega)]
    have line := written_lineWrite u (l0 + k) (slice b (64 * k) 64)
    refine ⟨line.rly.trans rly, fun x => ?_⟩
    rw [line.byte, byte, length_slice (by omega)]
    by_cases inLine : 64 * (l0 + k) ≤ x ∧ x < 64 * (l0 + k) + 64
    · rw [if_pos inLine, if_pos (by omega), getD_slice b (by omega)]
      congr 1; omega
    · rw [if_neg inLine]
      by_cases before : 64 * l0 ≤ x ∧ x < 64 * l0 + 64 * k
      · rw [if_pos before, if_pos (by omega)]
      · rw [if_neg before, if_neg (by omega)]

/-- A write of whole lines of local SDRAM leaves its bytes. -/
theorem sdWrite_whole (whole : b.length = 64 * n) (some : 0 < n) (s : State) : (sdWrite s (64 * l0) b).rly = s.rly ∧
    ∀ x, (sdWrite s (64 * l0) b).byte x = if 64 * l0 ≤ x ∧ x < 64 * l0 + 64 * n then b.getD (x - 64 * l0) 0 else s.byte x := by
  have lines : linesOf (64 * l0) b.length = (List.range n).map (l0 + ·) := by
    have first : 64 * l0 / 64 = l0 := by omega
    have count : (64 * l0 + 64 * n - 1) / 64 - l0 + 1 = n := by omega
    rw [linesOf, whole, if_neg (by omega), first, count]
  rw [sdWrite_eq, lines]; exact lineSteps_whole whole s n le_rfl

end

/-! The entries by kind. -/

namespace NextEntry

variable {s : State} {q pt tl a : Nat} {d : List Byte} {r : List (Nat × List Byte × Nat)}

theorem mark (h : NextEntry s 5 q pt d tl r a) : Completes .mark s fun t => t.rly.applied = some q ∧ t.regN Reg.RELAY_JSEQ_ACK = q ∧
    t.rly.jpt = some pt ∧ t.rly.acc = r ∧ t.pac = s.pac ∧ SameMem s t := by
  have acts : (fun (s : State) (_ : List Byte) => some s) (entryTaken s r) (padTo 80 d) = some (entryTaken s r) := rfl
  obtain ⟨applied, ack, point, rest⟩ := h.accepted (f := fun s _ => some s) acts rfl
  refine ⟨_, rfl, applied, ack, point, rest, ?_, ?_⟩
  · rw [h.jApply_some acts]; exact pac_jApplied _ q pt
  · rw [h.jApply_some acts]; exact sameMem_of_mem (mem_jApplied _ q pt)

/-! CFG. -/

theorem cfg_minLead (h : NextEntry s 7 q pt d tl r a) (v : BitVec 32) (data : d = leBytes 4 0x0C ++ leBytes 4 v.toNat) :
    Completes .cfg s fun t => t.regN Reg.PAC_MIN_LEAD = Nat.max 16 (v.toNat % 2 ^ 16) ∧ t.rly.applied = some q ∧
    t.regN Reg.RELAY_JSEQ_ACK = q ∧ t.rly.jpt = some pt ∧ t.rly.acc = r ∧ SameMem s t := by
  have short : d.length ≤ 80 := by rw [data, List.length_append, length_leBytes, length_leBytes]; decide
  have off : fieldLe (padTo 80 d) 0 4 = 0x0C := by rw [fieldLe_padTo short, data]; exact leNat_leBytes 4 0x0C
  have value : fieldLe (padTo 80 d) 4 4 = v.toNat := by
    rw [fieldLe_padTo short, data]; exact leNat_leBytes_word v
  have small : Nat.max 16 (v.toNat % 2 ^ 16) < 2 ^ 32 := Nat.max_lt.mpr ⟨by decide, by omega⟩
  have acts : (fun s d => pacCfg s (fieldLe d 0 4) (fieldLe d 4 4)) (entryTaken s r) (padTo 80 d) =
      some ((entryTaken s r).setRegN Reg.PAC_MIN_LEAD (Nat.max 16 (v.toNat % 2 ^ 16))) := by
    dsimp only; rw [off, value]; rfl
  obtain ⟨applied, ack, point, rest⟩ := h.accepted (f := fun s d => pacCfg s (fieldLe d 0 4) (fieldLe d 4 4)) acts rfl
  refine ⟨_, rfl, ?_, applied, ack, point, rest, ?_⟩
  · rw [h.jApply_some acts, regN_of_reg (reg_jApplied _ q pt (by decide) (by decide)), regN_setRegN, if_pos rfl, Nat.mod_eq_of_lt small]
  · rw [h.jApply_some acts]; exact sameMem_of_mem (mem_jApplied _ q pt)

theorem cfg_unlisted (h : NextEntry s 7 q pt d tl r a) (data : d = leBytes 4 0x10 ++ leBytes 4 7) :
    (fun s d => pacCfg s (fieldLe d 0 4) (fieldLe d 4 4)) (entryTaken s r) (padTo 80 d) = none := by
  subst data; rfl

/-! MEM and TILE. -/

theorem mem_stored (h : NextEntry s 8 q pt d tl r a) {a0 n : Nat} {w : List Byte} (x : Nat) (short : d.length ≤ 80)
    (data : d = leBytes 6 a0 ++ [BitVec.ofNat 8 (n - 1)] ++ List.replicate 9 0 ++ w) (scratch : inScratch a0 = true) (one : 1 ≤ n)
    (most : n ≤ 64) (len : w.length = n) (first : inMir s a0 = true) (last : inMir s (a0 + n - 1) = true) :
    Completes .mem s fun t => t.byte x = (if a0 ≤ x ∧ x < a0 + n then w.getD (x - a0) 0 else s.byte x) ∧ t.rly.applied = some q ∧
    t.regN Reg.RELAY_JSEQ_ACK = q ∧ t.rly.jpt = some pt ∧ t.rly.acc = r := by
  have low : a0 < sdBase := by
    have top := of_decide_eq_true (Bool.and_eq_true_iff.mp scratch).2
    unfold scratchBase scratchSize at top; unfold sdBase; omega
  have addr : fieldLe (padTo 80 d) 0 6 = a0 := by
    rw [fieldLe_padTo short, data]
    exact (leNat_leBytes 6 a0).trans (Nat.mod_eq_of_lt (by unfold sdBase at low; omega))
  have count : fieldLe (padTo 80 d) 6 1 + 1 = n := by
    have byte : fieldLe (padTo 80 d) 6 1 = (n - 1) % 256 := by
      rw [fieldLe_padTo short, data]
      exact leNat_leBytes 1 (n - 1)
    omega
  have bytes : slice (padTo 80 d) 16 n = w := by
    have cut : (padTo 80 d).drop 16 = w ++ List.replicate (80 - d.length) 0 := by rw [padTo_short short, data]; rfl
    rw [slice, cut, ← len, List.take_left]
  have kind (k : Nat) : Written (entryTaken s r) ((entryTaken s r).rawWrite k a0 w) a0 w := written_rawWrite_low _ low k w
  have acts : applyMem (entryTaken s r) (padTo 80 d) =
      some ((entryTaken s r).rawWrite ((entryTaken s r).fld (Reg.NOC_INIT_CFG 472) 14 9) a0 w) := by
    unfold applyMem; dsimp only; rw [addr, count, bytes]
    exact if_pos ⟨most, first, last⟩
  obtain ⟨applied, ack, point, rest⟩ := h.accepted acts (by rw [(kind _).rly]; rfl)
  refine ⟨_, rfl, ?_, applied, ack, point, rest⟩
  rw [h.jApply_some acts, sameMem_of_mem (mem_jApplied _ q pt) x, (kind _).byte, len]; rfl

theorem mem_unmirrored (short : d.length ≤ 80) (out : inMir s (fieldLe d 0 6) = false) :
    applyMem (entryTaken s r) (padTo 80 d) = none := by
  have out' : inMir (entryTaken s r) (fieldLe d 0 6) = false := out
  simp [applyMem, fieldLe_padTo short, out']

theorem tile_unprotected (short : d.length ≤ 80) (out : rngOf s (fieldLe d 0 6) = none) :
    applyTile (entryTaken s r) (padTo 80 d) = none := by
  have out' : rngOf (entryTaken s r) (fieldLe d 0 6) = none := out
  unfold applyTile; dsimp only; rw [fieldLe_padTo short, out']

/-! ADMIT. -/

theorem admit_carried (h : NextEntry s 6 q pt d tl r a) {u : State} (acts : applyAdmit (entryTaken s r) (padTo 80 d) = some u)
    (acc : u.rly.acc = r) : Completes .admitEntry s fun t => t.pac = u.pac ∧ t.pac.nextId = s.pac.nextId + 1 ∧
    t.pac.ops.map (·.id) = s.pac.ops.map (·.id) ++ [s.pac.nextId] ∧ t.rly.applied = some q ∧ t.regN Reg.RELAY_JSEQ_ACK = q ∧
    t.rly.jpt = some pt ∧ t.rly.acc = r := by
  have entered : ∃ (k x : Nat) (b : List Byte) (slot p : Nat), u = acceptAs ((entryTaken s r).rawWrite k x b) slot p := by
    unfold applyAdmit at acts; dsimp only at acts
    split at acts
    · exact absurd acts nofun
    · split at acts
      · exact absurd acts nofun
      · exact ⟨_, _, _, _, _, (Option.some.inj acts).symm⟩
  obtain ⟨k, x, b, slot, p, rfl⟩ := entered
  have before : ((entryTaken s r).rawWrite k x b).pac = s.pac := (memWritten_rawWrite _ _ _ _).pac
  obtain ⟨ids, next, -⟩ := pac_acceptAs ((entryTaken s r).rawWrite k x b) slot p
  obtain ⟨applied, ack, point, rest⟩ := h.accepted acts acc
  have pac := (congrArg State.pac (h.jApply_some acts)).trans (pac_jApplied _ q pt)
  exact ⟨_, rfl, pac, by rw [pac, next, before], by rw [pac, ids, before], applied, ack, point, rest⟩

/-! PORT. -/

theorem mpSlot_low (s : State) (k ix : Nat) : mpSlot s k ix < sdBase := by
  have base : s.fld (Reg.RELAY_MP_CFG k) 25 6 < 2 ^ 20 := bitsOf_lt _ 25 6
  have size : s.fld (Reg.RELAY_MP_CFG k) 29 26 < 2 ^ 4 := bitsOf_lt _ 29 26
  have place : ix % 2 ^ s.fld (Reg.RELAY_MP_CFG k) 29 26 < 2 ^ 15 :=
    (Nat.mod_lt _ (by positivity)).trans_le (Nat.pow_le_pow_right (by decide) (by omega))
  unfold mpSlot scratchBase sdBase; omega

theorem port_delivered (h : NextEntry s 11 q pt d tl r a) {k ix : Nat} {w : List Byte} (short : d.length ≤ 80)
    (data : d = [BitVec.ofNat 8 k, 0] ++ leBytes 2 ix ++ List.replicate 12 0 ++ w) (port : k < 16) (index : ix < 2 ^ 16)
    (open_ : s.flag (Reg.RELAY_MP_CFG k) 31 = true) : Completes .port s fun t => t.regN (Reg.RELAY_MP_PROD k) = (ix + 1) % 2 ^ 16 ∧
    Raised t blkRly 16 ∧ t.rly.applied = some q ∧ t.regN Reg.RELAY_JSEQ_ACK = q ∧ t.rly.jpt = some pt ∧ t.rly.acc = r := by
  have number : fieldLe (padTo 80 d) 0 1 = k := by
    rw [fieldLe_padTo short, data]
    exact (leNat_leBytes 1 k).trans (Nat.mod_eq_of_lt (by omega))
  have place : fieldLe (padTo 80 d) 2 2 = ix := by
    rw [fieldLe_padTo short, data]
    exact (leNat_leBytes 2 ix).trans (Nat.mod_eq_of_lt index)
  obtain ⟨u, acts, kept⟩ : ∃ u : State, applyPort (entryTaken s r) (padTo 80 d) =
      some ((u.setRegN (Reg.RELAY_MP_PROD k) ((ix + 1) % 2 ^ 16)).raise blkRly 16) ∧ u.rly = (entryTaken s r).rly := by
    refine ⟨_, ?_, (written_rawWrite_low (entryTaken s r) (mpSlot_low (entryTaken s r) k ix)
      ((entryTaken s r).fld (Reg.NOC_INIT_CFG 472) 14 9) (slice (padTo 80 d) 16 64)).rly⟩
    unfold applyPort; dsimp only; rw [number, place]
    exact if_pos ⟨port, open_⟩
  obtain ⟨applied, ack, point, rest⟩ := h.accepted acts (by rw [State.raise_rly, State.setRegN_rly, kept]; rfl)
  have below : Reg.RELAY_MP_PROD k < evtStatus blkRly := by unfold Reg.RELAY_MP_PROD evtStatus blockBase ctrlBase blkRly; omega
  refine ⟨_, rfl, ?_, ?_, applied, ack, point, rest⟩
  · rw [h.jApply_some acts, regN_of_reg (reg_jApplied _ q pt (by unfold Reg.RELAY_MP_PROD Reg.RELAY_LAG; omega)
      (by unfold Reg.RELAY_MP_PROD Reg.RELAY_JSEQ_ACK; omega)), regN_of_reg (reg_raise_lt _ below), regN_setRegN, if_pos rfl]
    omega
  · rw [h.jApply_some acts]; exact raised_jApplied _ q pt (raised_raise _ (by decide))

/-! HANDOVER and SNAP_END. -/

theorem handover (h : NextEntry s 12 q pt d tl r a) : Completes .handover s fun t => t.rly.hand = true ∧ t.rly.applied = some q ∧
    t.regN Reg.RELAY_JSEQ_ACK = q ∧ t.rly.jpt = some pt ∧ t.rly.acc = r ∧ t.role = s.role ∧ t.mode = s.mode ∧ SameMem s t := by
  have acts : (fun (s : State) (_ : List Byte) => some (s.setRly { s.rly with hand := true })) (entryTaken s r) (padTo 80 d) =
      some ((entryTaken s r).setRly { (entryTaken s r).rly with hand := true }) := rfl
  obtain ⟨applied, ack, point, rest⟩ := h.accepted (f := fun s _ => some (s.setRly { s.rly with hand := true })) acts rfl
  refine ⟨_, rfl, ?_, applied, ack, point, rest, ?_, ?_, ?_⟩
  · rw [h.jApply_some acts, rly_jApplied]; rfl
  · rw [h.jApply_some acts]; exact fld_of_reg 1 0 (reg_jApplied _ q pt (by decide) (by decide))
  · rw [h.jApply_some acts]; exact fld_of_reg _ _ (reg_jApplied _ q pt (by decide) (by decide))
  · rw [h.jApply_some acts]; exact sameMem_of_mem (mem_jApplied _ q pt)

/-- The join completed (R417). -/
def joinDone (s : State) : State := (s.setSync 2).raise blkRly 18

theorem joinDone_spec (s : State) : (joinDone s).sync = 2 ∧ Raised (joinDone s) blkRly 18 ∧ (joinDone s).rly = s.rly ∧ (joinDone s).mem = s.mem :=
  ⟨(fld_of_reg 3 2 (reg_raise_lt _ relayStat_below)).trans (sync_setSync s 2 (by decide)), raised_raise _ (by decide),
    ((onlyRegs_setSync s 2).raise _ _).rly, ((onlyRegs_setSync s 2).raise _ _).mem⟩

theorem snapEnd_complete (h : NextEntry s 14 q pt [0] tl r a) (joining : s.sync = 1) : Completes .snapEnd s fun t => t.sync = 2 ∧
    Raised t blkRly 18 ∧ t.rly.applied = some q ∧ t.regN Reg.RELAY_JSEQ_ACK = q ∧ t.rly.jpt = some pt ∧ t.rly.acc = r ∧ SameMem s t := by
  have joining' : (entryTaken s r).sync = 1 := joining
  have acts : (fun (s : State) (_ : List Byte) => some (if s.sync = 1 then (s.setSync 2).raise blkRly 18 else s)) (entryTaken s r)
      (padTo 80 [0]) = some (joinDone (entryTaken s r)) := by
    dsimp only; rw [if_pos joining']; rfl
  have whole : fieldLe (relBody q pt 0 [0]) 12 1 = 0 := fieldLe_relBody_data q pt 0 [0] 0 1
  have run : exec .snapEnd s = .next (jApply s 14 fun s _ => some (if s.sync = 1 then (s.setSync 2).raise blkRly 18 else s)) := by
    simp only [exec_snapEnd, execSnapEnd, h.acc, whole]; exact if_neg (by simp)
  obtain ⟨sync, event, rly, mem⟩ := joinDone_spec (entryTaken s r)
  obtain ⟨applied, ack, point, rest⟩ := h.accepted
    (f := fun s _ => some (if s.sync = 1 then (s.setSync 2).raise blkRly 18 else s)) acts (by rw [rly]; rfl)
  refine ⟨_, run, ?_, ?_, applied, ack, point, rest, ?_⟩
  · rw [h.jApply_some acts]; exact (fld_of_reg 3 2 (reg_jApplied _ q pt (by decide) (by decide))).trans sync
  · rw [h.jApply_some acts]; exact raised_jApplied _ q pt event
  · rw [h.jApply_some acts]; exact sameMem_of_mem ((mem_jApplied _ q pt).trans mem)

end NextEntry

theorem snapEnd_refused {s : State} {q pt tl : Nat} {r : List (Nat × List Byte × Nat)} (acc : s.rly.acc = (14, relBody q pt 0 [1], tl) :: r)
    (shadow : s.shadowing = true) (joining : s.sync = 1) : Completes .snapEnd s fun t => t.sync = 0 ∧ Raised t blkRly 19 ∧
    t.rly = { s.rly with acc := r } ∧ SameMem s t := by
  obtain ⟨u, isU⟩ := named (s.setRly { s.rly with acc := r })
  have joining' : u.sync = 1 := isU ▸ joining
  have refusal : fieldLe (relBody q pt 0 [1]) 12 1 = 1 := fieldLe_relBody_data q pt 0 [1] 0 1
  have run : exec .snapEnd s = .next ((u.setSync 0).raise blkRly 19) := by
    simp only [exec_snapEnd, execSnapEnd, acc, refusal, shadow, isU, joining', decide_true, Bool.and_true, if_true]
  refine ⟨_, run, (fld_of_reg 3 2 (reg_raise_lt _ relayStat_below)).trans (sync_setSync u 0 (by decide)), raised_raise _ (by decide), ?_, ?_⟩
  · rw [((onlyRegs_setSync u 0).raise _ _).rly, ← isU, State.setRly_rly]
  · exact sameMem_of_mem (((onlyRegs_setSync u 0).raise _ _).mem.trans (isU ▸ rfl))

/-! The last frame of a tile's entry. -/

theorem tile_stored {s : State} {q pt tl a : Nat} {dp dl : List Byte} {r : List (Nat × List Byte × Nat)} (i : Fin 512)
    (acc : s.rly.acc = (9, relBody q pt 102 dl, tl) :: r) (shadow : s.shadowing = true) (joined : s.sync ≠ 0)
    (applied : s.rly.applied = some a) (next : q = (a + 1) % 2 ^ 32) (last : a < 2 ^ 32) (point : pt < 2 ^ 32) (len : dl.length = 80)
    (part : s.rly.part = some (q, 6, dp)) (begun : dp.length = 480) (rng : rngOf s (fieldLe dp 0 6) = some 0) (enc : rngMode s 0 = 1)
    (mir : inMir s (fieldLe dp 0 6) = true) (aligned : fieldLe dp 0 6 % 512 = 0) (sdram : inSdram (fieldLe dp 0 6) = true) :
    Completes .tile s fun t => t.byte (fieldLe dp 0 6 + i.val) = (dp ++ dl).getD (27 + i.val) 0 ∧ t.rly.part = none ∧
    t.rly.applied = some q ∧ t.regN Reg.RELAY_JSEQ_ACK = q ∧ t.rly.jpt = some pt ∧ t.rly.acc = r := by
  have number : q < 2 ^ 32 := next ▸ Nat.mod_lt _ (by decide)
  have new : ptReached a q = false := next ▸ not_ptReached_next last
  have take := jTake_last (e := dp) (relTake_head acc) shadow joined applied number new next (by decide) point (by decide)
    (.inr ⟨by decide, part⟩)
  have tail : padTo 80 dl = dl := by rw [padTo_short (by omega), len]; exact List.append_nil _
  rw [tail] at take
  have addr : fieldLe (dp ++ dl) 0 6 = fieldLe dp 0 6 := by
    unfold fieldLe slice; rw [List.drop_zero, List.drop_zero, List.take_append_of_le_length (by omega)]
  generalize fieldLe dp 0 6 = x at *
  obtain ⟨u, isU⟩ : ∃ u : State, applyTile (entryTaken s r) (dp ++ dl) = some (physWrite u x (slice (dp ++ dl) 27 512)) ∧
      u.rly = (entryTaken s r).rly := by
    obtain ⟨u, isU⟩ := named (((entryTaken s r).setRegN Reg.IMP_ROLL_B_LO (fieldLe (dp ++ dl) 6 4)).setRegN Reg.IMP_ROLL_B_HI
      (fieldLe (dp ++ dl) 10 2))
    have noted : OnlyRegs (entryTaken s r) u := isU ▸ ((OnlyRegs.refl _).setRegN _ _).setRegN _ _
    have rng0 : u.reg (Reg.IMP_RNG_CTL 0) = s.reg (Reg.IMP_RNG_CTL 0) := by
      rw [← isU, reg_setRegN_ne _ _ (by decide), reg_setRegN_ne _ _ (by decide)]; rfl
    have rng' : rngOf (entryTaken s r) x = some 0 := rng
    have enc' : rngMode (entryTaken s r) 0 = 1 := enc
    have enc'' : rngMode u 0 = 1 := (fld_of_reg 1 0 rng0).trans enc
    have mir' : inMir (entryTaken s r) x = true := mir
    refine ⟨u, ?_, noted.rly⟩
    unfold applyTile; dsimp only; rw [addr, rng']; dsimp only; rw [isU, enc', enc'', mir', aligned]; rfl
  obtain ⟨acts, kept⟩ := isU
  obtain ⟨l0, rfl⟩ : ∃ l0, x = 64 * l0 := ⟨x / 64, by omega⟩
  have ct : (slice (dp ++ dl) 27 512).length = 512 := length_slice (by rw [List.length_append]; omega)
  obtain ⟨rly, byte⟩ := sdWrite_whole (l0 := l0) (n := 8) ct (by decide) u
  have stored : physWrite u (64 * l0) (slice (dp ++ dl) 27 512) = sdWrite u (64 * l0) (slice (dp ++ dl) 27 512) := by
    rw [physWrite, if_pos sdram]
  rw [stored] at acts
  have run : jApply s 9 applyTile = jApplied (sdWrite u (64 * l0) (slice (dp ++ dl) 27 512)) q pt := by
    unfold jApply; rw [take]; dsimp only
    rw [show applyTile ((s.setRly { s.rly with acc := r }).setRly { (s.setRly { s.rly with acc := r }).rly with part := none }) (dp ++ dl) =
      _ from acts]
  have relay := rly.trans kept
  obtain ⟨done, ack, moved, rest⟩ := jApplied_point (sdWrite u (64 * l0) (slice (dp ++ dl) 27 512)) q pt number
  refine ⟨_, congrArg Host.Outcome.next run, ?_, ?_, done, ack, moved, ?_⟩
  · rw [sameMem_of_mem (mem_jApplied _ q pt), byte, if_pos ⟨by omega, by have := i.isLt; omega⟩, Nat.add_sub_cancel_left,
      getD_slice _ i.isLt]
  · rw [rly_jApplied, relay]; rfl
  · rw [rest, relay]; rfl

end Sys2Proof.Machine
end

section
/-! PROOFS. A statement of 14_relay_pair.md: the Relay's frames and journal (O53). -/

namespace Sys2Proof.Machine

/-! Frames received (R397, R398). -/

section
variable {s : State} {r : List (Option (Nat × Nat × List Byte × Nat))}

/-- The state with the oldest delivered frame taken. -/
def frameTaken (s : State) (r : List (Option (Nat × Nat × List Byte × Nat))) : State := setTeth s { s.lane.teth with inbox := r }

theorem relNak_primary {s : State} (role : s.role = 1) : relNak s = s := by
  have other : s.shadowing = false := by rw [State.shadowing, role]; rfl
  rw [relNak, other]; rfl

theorem exec_relayFrameRx_off {f : Option (Nat × Nat × List Byte × Nat)} (inbox : s.lane.teth.inbox = f :: r) (role : s.role = 0) :
    exec .relayFrameRx s = .next (frameTaken s r) := by
  simp only [exec_relayFrameRx, execRelayFrameRx, inbox]; exact if_pos role

section
variable {kind lseq tl : Nat} {pay : List Byte} (inbox : s.lane.teth.inbox = some (kind, lseq, pay, tl) :: r) (role : s.role = 1)
include inbox role

theorem exec_relayFrameRx_opened {b : List Byte} (unseen : s.rly.seen = none) (other : kind ≠ 15)
    (opens : (relOpen s (1 - bit s.unit1) kind lseq pay).or (relOpen s (bit s.unit1) kind lseq pay) = some b) :
    exec .relayFrameRx s =
      .next ((frameTaken s r).setRly { s.rly with seen := some (fieldLe pay 0 8), acc := s.rly.acc ++ [(kind, b, tl)] }) := by
  have role' : (frameTaken s r).role ≠ 0 := fun h => absurd (role.symm.trans h) (by decide)
  have opens' : (relOpen (frameTaken s r) (1 - bit (frameTaken s r).unit1) kind lseq pay).or
      (relOpen (frameTaken s r) (bit (frameTaken s r).unit1) kind lseq pay) = some b := opens
  have unseen' : (frameTaken s r).rly.seen = none := unseen
  have taken : setTeth s { s.lane.teth with inbox := r } = frameTaken s r := rfl
  simp only [exec_relayFrameRx, execRelayFrameRx, inbox, taken, if_neg role', opens', unseen', Option.any_none, Bool.false_eq_true, if_false,
    if_neg other]
  rfl

theorem exec_relayFrameRx_unverified
    (fails : (relOpen s (1 - bit s.unit1) kind lseq pay).or (relOpen s (bit s.unit1) kind lseq pay) = none) :
    exec .relayFrameRx s = .next (((frameTaken s r).count Reg.RELAY_AUTH_CNT).raise blkRly 11) := by
  have role' : (frameTaken s r).role ≠ 0 := fun h => absurd (role.symm.trans h) (by decide)
  have fails' : (relOpen (frameTaken s r) (1 - bit (frameTaken s r).unit1) kind lseq pay).or
      (relOpen (frameTaken s r) (bit (frameTaken s r).unit1) kind lseq pay) = none := fails
  have counted : (((frameTaken s r).count Reg.RELAY_AUTH_CNT).raise blkRly 11).role = 1 := by
    unfold State.role
    rw [fld_of_reg 1 0 (reg_raise_lt _ relayStat_below), fld_of_reg 1 0 (reg_count_ne _ (by decide))]
    exact role
  have taken : setTeth s { s.lane.teth with inbox := r } = frameTaken s r := rfl
  simp only [exec_relayFrameRx, execRelayFrameRx, inbox, taken, if_neg role', fails']
  exact congrArg Host.Outcome.next (relNak_primary counted)

end

theorem frameUnverified_spec : (((frameTaken s r).count Reg.RELAY_AUTH_CNT).raise blkRly 11).lane.teth.inbox = r ∧
    (((frameTaken s r).count Reg.RELAY_AUTH_CNT).raise blkRly 11).rly = s.rly ∧
    (((frameTaken s r).count Reg.RELAY_AUTH_CNT).raise blkRly 11).regN Reg.RELAY_AUTH_CNT = satNat 32 (s.regN Reg.RELAY_AUTH_CNT + 1) ∧
    Raised (((frameTaken s r).count Reg.RELAY_AUTH_CNT).raise blkRly 11) blkRly 11 ∧
    SameMem s (((frameTaken s r).count Reg.RELAY_AUTH_CNT).raise blkRly 11) := by
  refine ⟨?_, ?_, ?_, raised_raise _ (by decide), sameMem_of_mem ?_⟩
  · rw [State.raise_lane, State.count_lane]; rfl
  · rw [State.raise_rly, State.count_rly]; rfl
  · rw [regN_of_reg (reg_raise_lt _ (by decide)), regN_count]; rfl
  · rw [State.raise_mem, State.count_mem]; rfl

theorem relayFrameRx_received {f : Nat × Nat × List Byte × Nat} (inbox : s.lane.teth.inbox = some f :: r) (role : s.role = 1)
    (unseen : s.rly.seen = none) (other : f.1 ≠ 15) : Completes .relayFrameRx s fun t => t.lane.teth.inbox = r ∧
    (∀ b, ((relOpen s (1 - bit s.unit1) f.1 f.2.1 f.2.2.1).or (relOpen s (bit s.unit1) f.1 f.2.1 f.2.2.1)) = some b →
      t.rly.acc = s.rly.acc ++ [(f.1, b, f.2.2.2)] ∧ t.rly.seen = some (fieldLe f.2.2.1 0 8) ∧ t.regs = s.regs) ∧
    (((relOpen s (1 - bit s.unit1) f.1 f.2.1 f.2.2.1).or (relOpen s (bit s.unit1) f.1 f.2.1 f.2.2.1)) = none → t.rly = s.rly ∧
      t.regN Reg.RELAY_AUTH_CNT = satNat 32 (s.regN Reg.RELAY_AUTH_CNT + 1) ∧ Raised t blkRly 11) ∧ SameMem s t := by
  obtain ⟨kind, lseq, pay, tl⟩ := f
  rcases opened : (relOpen s (1 - bit s.unit1) kind lseq pay).or (relOpen s (bit s.unit1) kind lseq pay) with _ | b
  · obtain ⟨taken, rly, count, event, mem⟩ := frameUnverified_spec (s := s) (r := r)
    refine ⟨_, exec_relayFrameRx_unverified inbox role opened, taken, fun b hb => ?_, fun _ => ⟨rly, count, event⟩, mem⟩
    exact absurd hb nofun
  · refine ⟨_, exec_relayFrameRx_opened inbox role unseen other opened, rfl, fun b' hb => ?_, fun none => absurd none nofun, sameMem_of_mem rfl⟩
    obtain rfl := Option.some.inj hb
    exact ⟨rfl, rfl, rfl⟩

end

/-! Entries that are not the next in order (R400). -/

section
variable {s : State} {kind q a pt tl : Nat} {d : List Byte} {r : List (Nat × List Byte × Nat)}

theorem jApply_ignored {u : State} {f : State → List Byte → Option State} (take : jTake s kind = (u, none)) : jApply s kind f = u := by
  unfold jApply; rw [take]

theorem relNak_joined (shadow : s.shadowing = true) (joined : s.sync ≠ 0) : relNak s = relAck s true false := by
  have asks : (s.shadowing && s.sync != 0) = true := by rw [shadow, bne_iff_ne.mpr joined]; rfl
  exact if_pos asks

theorem mark_outOfOrder (acc : s.rly.acc = (5, relBody q pt 0 d, tl) :: r) (shadow : s.shadowing = true) (joined : s.sync ≠ 0)
    (applied : s.rly.applied = some a) (number : q < 2 ^ 32) (other : q ≠ (a + 1) % 2 ^ 32) (new : ptReached a q = false) :
    Completes .mark s fun t => t.rly.applied = some a ∧ t.rly.acc = r ∧ t.lane.teth.outbox.length = s.lane.teth.outbox.length + 1 ∧
    t.regs = s.regs ∧ t.mem = s.mem := by
  have take := jTake_outOfOrder (relTake_head acc) shadow joined applied number new other
  have asks : relNak (s.setRly { s.rly with acc := r }) = relAck (s.setRly { s.rly with acc := r }) true false := relNak_joined shadow joined
  refine ⟨_, congrArg Host.Outcome.next ((jApply_ignored take).trans asks), applied, rfl, ?_, rfl, rfl⟩
  exact List.length_append

end

/-! The primary's journal (R399, R401). -/

section
variable {s : State}

/-- The entry JOURNAL_MARK makes. -/
def markEntry (s : State) : JEntry := { jseq := (s.regN Reg.RELAY_JSEQ_TX + 1) % 2 ^ 32, pt := s.pt, kind := 5, data := [] }

/-- The state with it in the journal, and sent. -/
def markSent (s : State) : State :=
  relSend ((s.setRegN Reg.RELAY_JSEQ_TX (markEntry s).jseq).setRly { s.rly with buf := s.rly.buf ++ [markEntry s] }) (jFrames (markEntry s))

theorem exec_journalMark_free (on : jOn s = true) (free : jBlocked s 1 = false) : exec .journalMark s = .next (markSent s) := by
  rw [exec_journalMark, execJournalMark, free, if_neg Bool.false_ne_true, jEntry, if_pos on]; rfl

theorem exec_journalMark_off (off : jOn s = false) : exec .journalMark s = .next s := by
  have free : jBlocked s 1 = false := by rw [jBlocked, off]; rfl
  rw [exec_journalMark, execJournalMark, free, if_neg Bool.false_ne_true, jEntry, off, if_neg Bool.false_ne_true]

theorem sameRegs_markSent : SameRegs s (markSent s) (· = Reg.RELAY_JSEQ_TX) :=
  (SameRegs.refl s (· = Reg.RELAY_JSEQ_TX)).setRegN rfl (markEntry s).jseq

theorem markSent_spec : (markSent s).regN Reg.RELAY_JSEQ_TX = (s.regN Reg.RELAY_JSEQ_TX + 1) % 2 ^ 32 ∧
    (markSent s).rly.buf = s.rly.buf ++ [markEntry s] ∧ (markSent s).lane.teth.outbox.length = s.lane.teth.outbox.length + 1 ∧
    SameRegs s (markSent s) (· = Reg.RELAY_JSEQ_TX) ∧ SameMem s (markSent s) := by
  have next : (markSent s).regN Reg.RELAY_JSEQ_TX = (s.setRegN Reg.RELAY_JSEQ_TX (markEntry s).jseq).regN Reg.RELAY_JSEQ_TX := rfl
  have one : (jFrames (markEntry s)).length = 1 := by simp [jFrames, jSegs, markEntry, ceilDiv]
  refine ⟨?_, rfl, ?_, sameRegs_markSent, sameMem_of_mem rfl⟩
  · rw [next, regN_setRegN, if_pos rfl]; exact Nat.mod_mod _ _
  · rw [markSent, outbox_relSend, List.length_append, one]; rfl

/-- A stall begun stops the journal and changes nothing of it. -/
theorem jStall_spec (s : State) : (jStall s).rly.stall = true ∧ (jStall s).rly.buf = s.rly.buf ∧ (jStall s).mem = s.mem := by
  unfold jStall; split
  next stalled => exact ⟨stalled, rfl, rfl⟩
  next =>
    rw [State.raise_rly, State.count_rly, State.raise_mem, State.count_mem]
    exact ⟨rfl, rfl, rfl⟩

theorem journalMark_blocked (blocked : jBlocked s 1 = true) : Completes .journalMark s fun t => t.rly.buf = s.rly.buf ∧
    (jFits s 1 = false → t.rly.stall = true) ∧ SameMem s t := by
  have run : exec .journalMark s = .next (jWait s 1) := by rw [exec_journalMark, execJournalMark, if_pos blocked]
  refine ⟨_, run, ?_⟩
  unfold jWait; split
  next fits => exact ⟨rfl, fun full => absurd (fits.symm.trans full) nofun, fun _ => rfl⟩
  next => exact ⟨(jStall_spec s).2.1, fun _ => (jStall_spec s).1, sameMem_of_mem (jStall_spec s).2.2⟩

theorem jStall_begins (running : s.rly.stall = false) : jStall s = ((s.setRly { s.rly with stall := true }).count Reg.RELAY_STALL_CNT).raise blkRly 12 := by
  rw [jStall, running, if_neg Bool.false_ne_true]

theorem holdsEntries (on : jOn s = true) (held : s.rly.buf ≠ []) : (jOn s && !s.rly.buf.isEmpty) = true := by
  rw [on, List.isEmpty_eq_false_iff.mpr held]; rfl

theorem holdsNone (quiet : jOn s = false ∨ s.rly.buf = []) : (jOn s && !s.rly.buf.isEmpty) = false := by
  rcases quiet with off | empty
  · rw [off]; rfl
  · rw [empty]; exact Bool.and_false _

theorem journalStall_begins (on : jOn s = true) (held : s.rly.buf ≠ []) (running : s.rly.stall = false) :
    Completes .journalStall s fun t => t.rly = { s.rly with stall := true } ∧
    t.regN Reg.RELAY_STALL_CNT = satNat 32 (s.regN Reg.RELAY_STALL_CNT + 1) ∧ Raised t blkRly 12 ∧ SameMem s t := by
  have run : exec .journalStall s = .next (((s.setRly { s.rly with stall := true }).count Reg.RELAY_STALL_CNT).raise blkRly 12) := by
    rw [exec_journalStall, execJournalStall, if_pos (holdsEntries on held), jStall_begins running]
  refine ⟨_, run, ?_, ?_, raised_raise _ (by decide), sameMem_of_mem ?_⟩
  · rw [State.raise_rly, State.count_rly, State.setRly_rly]
  · rw [regN_of_reg (reg_raise_lt _ (by decide)), regN_count]; rfl
  · rw [State.raise_mem, State.count_mem, State.setRly_mem]

/-! Journalling stopped. -/

/-- What a stop of the journal leaves. -/
theorem jStop_spec (s : State) : (jStop s).sync = 0 ∧
    (jStop s).rly = { s.rly with buf := [], snap := [], snapEnd := none, stall := false, want := [] } ∧ (jStop s).role = s.role ∧
    (jStop s).mem = s.mem := by
  obtain ⟨u, isU⟩ := named (s.rly.want.foldl (fun s e => s.setRegN (Reg.RELAY_MP_PROD e.1) e.2) s)
  have doorbells : OnlyRegs s u := isU ▸ (OnlyRegs.refl s).foldl fun v e => (OnlyRegs.refl v).setRegN _ _
  have stat : u.reg Reg.RELAY_STAT = s.reg Reg.RELAY_STAT := isU ▸
    List.foldlRecOn (motive := fun v => v.reg Reg.RELAY_STAT = s.reg Reg.RELAY_STAT) _ _ rfl fun v same e _ =>
      (reg_setRegN_ne v _ (by unfold Reg.RELAY_MP_PROD Reg.RELAY_STAT; omega)).trans same
  have stopped : jStop s = (setTeth (u.setSync 0) { (u.setSync 0).lane.teth with
      outbox := (u.setSync 0).lane.teth.outbox.filter (fun f => !jKind f.1) }).setRly
      { (u.setSync 0).rly with buf := [], snap := [], snapEnd := none, stall := false, want := [] } := by
    rw [← isU]; rfl
  obtain ⟨v, isV⟩ := named (u.setSync 0)
  have sync : v.sync = 0 := isV ▸ sync_setSync u 0 (by decide)
  have role : v.role = s.role := isV ▸ (role_setSync u 0).trans (fld_of_reg 1 0 stat)
  have only : OnlyRegs s v := isV ▸ doorbells.trans (onlyRegs_setSync u 0)
  rw [stopped, isV, State.setRly_rly, only.rly]
  exact ⟨sync, rfl, role, only.mem⟩

theorem partnerUnsynced_spec (on : jOn s = true) (held : s.rly.buf ≠ []) : Completes .partnerUnsynced s fun t => t.sync = 0 ∧
    t.rly.buf = [] ∧ t.rly.stall = false ∧ Raised t blkRly 10 ∧ t.role = s.role ∧ SameMem s t := by
  have run : exec .partnerUnsynced s = .next ((jStop s).raise blkRly 10) := by
    rw [exec_partnerUnsynced, execPartnerUnsynced, if_pos (holdsEntries on held)]
  obtain ⟨sync, rly, role, mem⟩ := jStop_spec s
  refine ⟨_, run, (fld_of_reg 3 2 (reg_raise_lt _ relayStat_below)).trans sync, ?_, ?_, raised_raise _ (by decide),
    (fld_of_reg 1 0 (reg_raise_lt _ relayStat_below)).trans role, sameMem_of_mem ?_⟩
  · rw [State.raise_rly, rly]
  · rw [State.raise_rly, rly]
  · rw [State.raise_mem, mem]

theorem joinReq_granted {q pt tl : Nat} {d : List Byte} {r : List (Nat × List Byte × Nat)}
    (acc : s.rly.acc = (13, relBody q pt 0 d, tl) :: r) (role : s.role = 1)
    (build : d = leBytes 4 (s.regN Reg.CFG_BUILD_LO) ++ leBytes 4 (s.regN Reg.CFG_BUILD_HI)) : Completes .joinReq s fun t => t.sync = 1 ∧
    t.rly.buf = [] ∧ t.rly.acc = r ∧ t.rly.snap.getLast? = some .done ∧ t.rly.stall = false ∧ SameMem s t := by
  obtain ⟨u, isU⟩ := named (s.setRly { s.rly with acc := r })
  have role' : u.role = 1 := isU ▸ role
  have same : slice (relBody q pt 0 d) 12 8 = leBytes 4 (u.regN Reg.CFG_BUILD_LO) ++ leBytes 4 (u.regN Reg.CFG_BUILD_HI) := by
    rw [slice, drop_relBody, build, ← isU]; rfl
  obtain ⟨v, isV⟩ := named ((jStop u).setSync 1)
  have run : exec .joinReq s = .next (v.setRly { v.rly with snap := snapshot v }) := by
    have stays : ¬u.role ≠ rPrimary := fun h => h role'
    have equal : (slice (relBody q pt 0 d) 12 8 != leBytes 4 (u.regN Reg.CFG_BUILD_LO) ++ leBytes 4 (u.regN Reg.CFG_BUILD_HI)) = false :=
      bne_eq_false_iff_eq.mpr same
    rw [exec_joinReq, execJoinReq, relTake_head acc, isU]; dsimp only
    rw [if_neg stays, equal, if_neg Bool.false_ne_true, isV]
  obtain ⟨-, rly, -, mem⟩ := jStop_spec u
  have only : OnlyRegs (jStop u) v := isV ▸ onlyRegs_setSync _ 1
  have sync : v.sync = 1 := isV ▸ sync_setSync _ 1 (by decide)
  refine ⟨_, run, sync, ?_, ?_, ?_, ?_, sameMem_of_mem (only.mem.trans (mem.trans (isU ▸ rfl)))⟩
  · rw [State.setRly_rly, only.rly, rly]
  · rw [State.setRly_rly, only.rly, rly, ← isU]; rfl
  · exact List.getLast?_concat ..
  · rw [State.setRly_rly, only.rly, rly]

/-! Entries sent again, and acknowledged (R400). -/

theorem jResend_spec (s : State) : (jResend s).lane.teth.outbox = s.lane.teth.outbox ++ s.rly.buf.flatMap jFrames ∧ (jResend s).rly = s.rly ∧
    (jResend s).regN Reg.RELAY_RESEND_CNT = satNat 32 (s.regN Reg.RELAY_RESEND_CNT + s.rly.buf.length) ∧ (jResend s).mem = s.mem := by
  have counted : (s.countBy Reg.RELAY_RESEND_CNT s.rly.buf.length).regN Reg.RELAY_RESEND_CNT =
      satNat 32 (s.regN Reg.RELAY_RESEND_CNT + s.rly.buf.length) := by
    unfold State.countBy; rw [regN_setRegN, if_pos rfl, Nat.mod_eq_of_lt (satNat_lt _ _)]
  unfold jResend
  rw [outbox_relSend, State.countBy_lane, rly_relSend, State.countBy_rly, mem_relSend, State.countBy_mem]
  exact ⟨rfl, rfl, counted, rfl⟩

theorem mpAll_quiet (quiet : s.rly.want = []) : mpAll s = s.setRly { s.rly with want := [] } := by
  unfold mpAll; rw [quiet]; dsimp only [List.foldl_nil]; rw [quiet]; rfl

section
variable {tl q pt : Nat} {e : JEntry} {r : List (Nat × List Byte × Nat)} {j : BitVec 32} {nak : Byte}

theorem fieldLe_ack_number : fieldLe (relBody q pt 0 (leBytes 4 j.toNat ++ [nak, 0])) 12 4 = j.toNat := leNat_leBytes_word j
theorem fieldLe_ack_nak : fieldLe (relBody q pt 0 (leBytes 4 j.toNat ++ [nak, 0])) 16 1 = nak.toNat := rfl
theorem fieldLe_ack_bad : fieldLe (relBody q pt 0 (leBytes 4 j.toNat ++ [nak, 0])) 17 1 = 0 := rfl

theorem ack_frees (acc : s.rly.acc = (4, relBody q pt 0 (leBytes 4 j.toNat ++ [0, 0]), tl) :: r) (on : jOn s = true) (buf : s.rly.buf = [e])
    (reached : ptReached j.toNat e.jseq = true) (noEnd : s.rly.snapEnd = none) (quiet : s.rly.want = []) : Completes .ack s fun t =>
    t.rly.buf = [] ∧ t.rly.stall = false ∧ t.regN Reg.RELAY_JSEQ_ACK = j.toNat ∧ t.rly.jpt = some e.pt ∧ t.rly.acc = r ∧ SameMem s t := by
  obtain ⟨u, isU⟩ := named (s.setRly { s.rly with acc := r })
  have on' : jOn u = true := isU ▸ on
  have rly : u.rly = { s.rly with acc := r } := isU ▸ rfl
  obtain ⟨v, isV⟩ := named (setJpt (u.setRegN Reg.RELAY_JSEQ_ACK j.toNat) e.pt)
  have moved : v.rly = pointMoved { s.rly with acc := r } e.pt := by rw [← isV, rly_setJpt, State.setRegN_rly, rly]
  have buf' : u.rly.buf = [e] := by rw [rly]; exact buf
  have buf'' : v.rly.buf = [e] := by rw [moved]; exact buf
  have noEnd' : v.rly.snapEnd = none := by rw [moved]; exact noEnd
  have quiet' : v.rly.want = [] := by rw [moved]; exact quiet
  have gone : ([e].filter fun e => ptReached j.toNat e.jseq) = [e] := by simp [reached]
  have kept : ([e].filter fun e => !ptReached j.toNat e.jseq) = [] := by simp [reached]
  have run : exec .ack s = .next (mpAll (v.setRly { v.rly with buf := [], stall := false })) := by
    rw [exec_ack, execAck, relTake_head acc, isU]; dsimp only
    rw [on', fieldLe_ack_number, fieldLe_ack_nak, fieldLe_ack_bad, buf', gone]
    simp only [List.getLast?_singleton, isV, buf'', kept, noEnd', List.isEmpty_cons, Bool.and_false, Bool.not_true,
      Bool.false_eq_true, if_false, Option.any_none, State.setRly_rly]
    rfl
  have number : v.regN Reg.RELAY_JSEQ_ACK = j.toNat := by
    rw [← isV, regN_of_reg (reg_setJpt _ e.pt (by decide)), regN_setRegN, if_pos rfl, Nat.mod_eq_of_lt j.isLt]
  have mem : v.mem = s.mem := by rw [← isV, mem_setJpt, State.setRegN_mem, ← isU]; rfl
  have settled : mpAll (v.setRly { v.rly with buf := [], stall := false }) = (v.setRly { v.rly with buf := [], stall := false }).setRly
      { v.rly with buf := [], stall := false, want := [] } := mpAll_quiet quiet'
  refine ⟨_, run.trans (congrArg _ settled), rfl, rfl, number, ?_, ?_, sameMem_of_mem mem⟩
  · rw [State.setRly_rly, moved]; rfl
  · rw [State.setRly_rly, moved]; rfl

theorem ack_resends (acc : s.rly.acc = (4, relBody q pt 0 (leBytes 4 j.toNat ++ [1, 0]), tl) :: r) (on : jOn s = true) (buf : s.rly.buf = [e])
    (later : ptReached j.toNat e.jseq = false) (quiet : s.rly.want = []) : Completes .ack s fun t => t.rly.buf = [e] ∧
    t.lane.teth.outbox = s.lane.teth.outbox ++ jFrames e ∧ t.regN Reg.RELAY_RESEND_CNT = satNat 32 (s.regN Reg.RELAY_RESEND_CNT + 1) ∧
    SameMem s t := by
  obtain ⟨u, isU⟩ := named (s.setRly { s.rly with acc := r })
  have on' : jOn u = true := isU ▸ on
  obtain ⟨v, isV⟩ := named (u.setRegN Reg.RELAY_JSEQ_ACK j.toNat)
  have rly : v.rly = { s.rly with acc := r } := by rw [← isV, State.setRegN_rly, ← isU]; rfl
  have buf' : v.rly.buf = [e] := by rw [rly]; exact buf
  have gone : ([e].filter fun e => ptReached j.toNat e.jseq) = [] := by simp [later]
  have kept : ([e].filter fun e => !ptReached j.toNat e.jseq) = [e] := by simp [later]
  obtain ⟨w, isW⟩ := named (v.setRly { v.rly with buf := [e], stall := v.rly.stall && true })
  have held : u.rly.buf = [e] := by rw [← isU]; exact buf
  have noneGone (o : Option Nat) : (o.any fun q => ([] : List JEntry).any fun e => e.jseq == q) = false := by cases o <;> rfl
  have run : exec .ack s = .next (mpAll (jResend w)) := by
    rw [exec_ack, execAck, relTake_head acc, isU]; dsimp only
    rw [on', fieldLe_ack_number, fieldLe_ack_nak, fieldLe_ack_bad, isV, held, gone]
    simp only [List.getLast?_nil, buf', kept, List.isEmpty_nil, isW, noneGone, Bool.not_true, Bool.false_eq_true, if_false]
    rfl
  have buf'' : w.rly.buf = [e] := by rw [← isW]; rfl
  obtain ⟨outbox, relay, count, mem⟩ := jResend_spec w
  have quiet' : (jResend w).rly.want = [] := by rw [relay, ← isW, State.setRly_rly]; dsimp only; rw [rly]; exact quiet
  refine ⟨_, run.trans (congrArg _ (mpAll_quiet quiet')), ?_, ?_, ?_, sameMem_of_mem ?_⟩
  · rw [State.setRly_rly]; dsimp only; rw [relay, buf'']
  · rw [State.setRly_lane, outbox, buf'', List.flatMap_singleton, ← isW, State.setRly_lane, ← isV, State.setRegN_lane, ← isU]; rfl
  · have before : w.regN Reg.RELAY_RESEND_CNT = s.regN Reg.RELAY_RESEND_CNT := by
      have resent : w.regN Reg.RELAY_RESEND_CNT = v.regN Reg.RELAY_RESEND_CNT := by rw [← isW]; rfl
      rw [resent, ← isV, regN_of_reg (reg_setRegN_ne _ _ (by decide)), ← isU]; rfl
    rw [buf'', before] at count; exact count
  · rw [State.setRly_mem, mem, ← isW, State.setRly_mem, ← isV, State.setRegN_mem, ← isU]; rfl

end

/-! Doorbells of mirror ports (R406). -/

theorem exec_relayMpDb_plain {p : Fin 16} {v : BitVec 32} (role : s.role = 1) (open_ : s.flag (Reg.RELAY_MP_CFG p) 31 = true)
    (off : jOn s = false) : exec (.relayMpDb p v) s = .next (s.setRegN (Reg.RELAY_MP_PROD p) (v.toNat % 2 ^ 16)) := by
  have stays : ¬(s.role ≠ rPrimary ∨ (!s.flag (Reg.RELAY_MP_CFG p) 31) = true) := by simp [role, rPrimary, open_]
  rw [exec_relayMpDb, execRelayMpDb, if_neg stays, off, if_neg Bool.false_ne_true]

theorem exec_relayMpDb_ignored {p : Fin 16} {v : BitVec 32} (out : s.role ≠ 1 ∨ s.flag (Reg.RELAY_MP_CFG p) 31 = false) :
    exec (.relayMpDb p v) s = .next s := by
  have leaves : s.role ≠ rPrimary ∨ (!s.flag (Reg.RELAY_MP_CFG p) 31) = true := out.imp id fun h => by rw [h]; rfl
  rw [exec_relayMpDb, execRelayMpDb, if_pos leaves]

end

/-! The statement. -/

theorem mark_old {s : State} {q a pt tl : Nat} {d : List Byte} {r : List (Nat × List Byte × Nat)}
    (acc : s.rly.acc = (5, relBody q pt 0 d, tl) :: r) (shadow : s.shadowing = true) (joined : s.sync ≠ 0)
    (applied : s.rly.applied = some a) (number : q < 2 ^ 32) (old : ptReached a q = true) :
    exec .mark s = .next (s.setRly { s.rly with acc := r }) :=
  congrArg Host.Outcome.next (jApply_ignored (jTake_old (relTake_head acc) shadow joined applied number old))

theorem exec_ackPeriodic_joined {s : State} (shadow : s.shadowing = true) (joined : s.sync ≠ 0) : exec .ackPeriodic s =
    .next (relSend s [(4, relBody 0 s.pt 0 (leBytes 4 (s.regN Reg.RELAY_JSEQ_ACK) ++ [0, 0]))]) := by
  have due : (s.shadowing && s.sync != 0) = true := by rw [shadow, bne_iff_ne.mpr joined]; rfl
  rw [exec_ackPeriodic, execAckPeriodic, if_pos due]; rfl

/-- What a refused entry leaves of all but the Pacer. -/
theorem NextEntry.refused_frame {s : State} {kind q pt tl a : Nat} {d : List Byte} {r : List (Nat × List Byte × Nat)}
    {f : State → List Byte → Option State} (h : NextEntry s kind q pt d tl r a) (refuses : f (entryTaken s r) (padTo 80 d) = none) :
    (jApply s kind f).sync = 0 ∧ Raised (jApply s kind f) blkRly 9 ∧
    (jApply s kind f).regN Reg.RELAY_MISMATCH_CNT = satNat 32 (s.regN Reg.RELAY_MISMATCH_CNT + 1) ∧
    (jApply s kind f).rly.applied = s.rly.applied ∧ (jApply s kind f).rly.acc = r ∧ SameMem s (jApply s kind f) := by
  obtain ⟨sync, event, count, applied, rest, -, mem⟩ := h.refused refuses
  exact ⟨sync, event, count, applied, rest, mem⟩

/-- Settles O53: a frame is taken by what opening it gives, a secondary's entry by its number and its kind, and a primary's journal grows,
is freed, sent again or stopped. -/
theorem relayJournal : Obligations.RelayJournal := by
  unfold Obligations.RelayJournal
  refine ⟨?_, ?_, ?_, ?_, ?_, ?_, ?_, ?_, ?_, ?_, ?_, ?_, ?_, ?_, ?_, ?_, ?_, ?_, ?_, ?_, ?_, ?_, ?_, ?_, ?_, ?_, ?_, ?_, ?_, ?_, ?_, ?_⟩
  case refine_1 => exact fun s f r inbox role unseen other => relayFrameRx_received inbox role unseen other
  case refine_2 => exact fun s f r inbox role => ⟨_, exec_relayFrameRx_off inbox role, rfl, rfl, rfl, rfl⟩
  case refine_3 =>
    exact fun s q a pt tl d r acc shadow joined applied next last point _ =>
      NextEntry.mark ⟨acc, shadow, joined, applied, next, last, point⟩
  case refine_4 =>
    exact fun s q a pt tl d r acc shadow joined applied number other new =>
      mark_outOfOrder acc shadow joined applied number other new
  case refine_5 => exact fun s q a pt tl d r acc shadow joined applied number old => ⟨_, mark_old acc shadow joined applied number old, rfl⟩
  case refine_6 =>
    exact fun s q a pt tl d r v acc shadow joined applied next last point _ data =>
      NextEntry.cfg_minLead ⟨acc, shadow, joined, applied, next, last, point⟩ v data
  case refine_7 =>
    exact fun s q a pt tl d r acc shadow joined applied next last point _ data =>
      have h : NextEntry s 7 q pt d tl r a := ⟨acc, shadow, joined, applied, next, last, point⟩
      ⟨_, rfl, h.refused (h.cfg_unlisted data)⟩
  case refine_8 =>
    exact fun s q a pt tl d r a0 n x w acc shadow joined applied next last point short data scratch one most len first final _ =>
      NextEntry.mem_stored ⟨acc, shadow, joined, applied, next, last, point⟩ x short data scratch one most len first final
  case refine_9 =>
    exact fun s q a pt tl d r acc shadow joined applied next last point short out =>
      ⟨_, rfl, NextEntry.refused_frame ⟨acc, shadow, joined, applied, next, last, point⟩ (NextEntry.mem_unmirrored short out)⟩
  case refine_10 =>
    exact fun s q a pt tl dp dl r i acc shadow joined applied next last point len part begun rng enc mir aligned sdram _ =>
      tile_stored i acc shadow joined applied next last point len part begun rng enc mir aligned sdram
  case refine_11 =>
    exact fun s q a pt tl d r acc shadow joined applied next last point short out =>
      ⟨_, rfl, NextEntry.refused_frame ⟨acc, shadow, joined, applied, next, last, point⟩ (NextEntry.tile_unprotected short out)⟩
  case refine_12 =>
    intro s q a pt tl d r u acc shadow joined applied next last point short acts rest
    have h : NextEntry s 10 q pt d tl r a := ⟨acc, shadow, joined, applied, next, last, point⟩
    have done : jApply s 10 applyObj = jApplied u q pt := h.jApply_some acts
    exact ⟨_, rfl, congrArg State.regs done, (congrArg State.mem done).trans (mem_jApplied u q pt), h.accepted acts rest⟩
  case refine_13 =>
    exact fun s q a pt tl d r acc shadow joined applied next last point short refuses =>
      ⟨_, rfl, NextEntry.refused_frame ⟨acc, shadow, joined, applied, next, last, point⟩ refuses⟩
  case refine_14 =>
    exact fun s q a pt tl d r acc shadow joined applied next last point short refuses =>
      ⟨_, rfl, NextEntry.refused ⟨acc, shadow, joined, applied, next, last, point⟩ refuses⟩
  case refine_15 =>
    exact fun s q a pt tl d r u acc shadow joined applied next last point short acts rest =>
      NextEntry.admit_carried ⟨acc, shadow, joined, applied, next, last, point⟩ acts rest
  case refine_16 =>
    exact fun s q a pt tl d r k ix w acc shadow joined applied next last point short data port index _ opened =>
      NextEntry.port_delivered ⟨acc, shadow, joined, applied, next, last, point⟩ short data port index opened
  case refine_17 =>
    exact fun s q a pt tl d r acc shadow joined applied next last point _ =>
      NextEntry.handover ⟨acc, shadow, joined, applied, next, last, point⟩
  case refine_18 =>
    rintro s q a pt tl d r acc shadow applied next last point - joining rfl
    exact NextEntry.snapEnd_complete ⟨acc, shadow, by rw [joining]; decide, applied, next, last, point⟩ joining
  case refine_19 => exact fun s q pt tl r acc shadow joining => snapEnd_refused acc shadow joining
  case refine_20 => exact fun s on free => ⟨_, exec_journalMark_free on free, markSent_spec⟩
  case refine_21 => exact fun s off => ⟨_, exec_journalMark_off off, rfl⟩
  case refine_22 => exact fun s blocked => journalMark_blocked blocked
  case refine_23 => exact fun s shadow joined => ⟨_, exec_ackPeriodic_joined shadow joined, rfl⟩
  case refine_24 => exact fun s j tl q pt e r acc on buf reached noEnd quiet => ack_frees acc on buf reached noEnd quiet
  case refine_25 => exact fun s j tl q pt e r acc on buf later quiet => ack_resends acc on buf later quiet
  case refine_26 =>
    intro s on
    obtain ⟨outbox, rly, count, mem⟩ := jResend_spec s
    exact ⟨_, if_pos on, outbox, rly, count, sameMem_of_mem mem⟩
  case refine_27 => exact fun s on held running => journalStall_begins on held running
  case refine_28 => exact fun s quiet => ⟨_, if_neg (ne_true_of_eq_false (holdsNone quiet)), rfl⟩
  case refine_29 => exact fun s on held => partnerUnsynced_spec on held
  case refine_30 => exact fun s q pt tl d r acc role build => joinReq_granted acc role build
  case refine_31 => exact fun s p v role opened off => ⟨_, exec_relayMpDb_plain role opened off, rfl⟩
  case refine_32 => exact fun s p v out => ⟨_, exec_relayMpDb_ignored out, rfl⟩

end Sys2Proof.Machine
end

section
/-! PROOFS. Facts of 15_object_dictionary.md's protocol: answers, the request queue, segmented transfers (R426, R430, R431, R434). -/

namespace Sys2Proof.Machine

/-! The first of several abort codes. -/

@[simp] theorem firstCode_nil : firstCode [] = 0 := rfl
@[simp] theorem firstCode_zero (l : List Nat) : firstCode (0 :: l) = firstCode l := rfl
theorem firstCode_ne {c : Nat} (l : List Nat) (h : c ≠ 0) : firstCode (c :: l) = c := by
  rw [firstCode, List.find?_cons_of_pos (by simpa using h)]; rfl

/-! A response counted, noted for its role, and sent. -/

section
variable (s : State) (q : FmpReq) (code : Nat) (f : List Byte)

/-- A response with an abort code is counted. -/
def abortCounted : State := if code = 0 then s else s.count Reg.FMP_ABORT_CNT
/-- A response is stored for its role where the request set LAST_SEQ. -/
def respNoted : State :=
  if fRole q.frame ≠ 0 ∧ (fmpRole s (fRole q.frame)).last = fSeq q.frame ∧ (fmpRole s (fRole q.frame)).tag = fTag q.frame then
    setFmpRole s (fRole q.frame) { fmpRole s (fRole q.frame) with rsp := some f }
  else s

theorem fmpReply_eq (key : List Byte) (flags tcode : Nat) (pay : List Byte) : fmpReply s q key code flags tcode pay =
    fmpSend (respNoted (abortCounted s code) q (fResp q.frame (if fRole q.frame = 0 then none else some key) code flags tcode pay)) q.via q.peer
      (fResp q.frame (if fRole q.frame = 0 then none else some key) code flags tcode pay) := rfl

/-- Two states of FMP that differ in what a response changes alone: the responses of the roles and of the transports. -/
structure Replied (s t : State) : Prop where
  fmp : t.fmp = { s.fmp with roles := t.fmp.roles, spi := t.fmp.spi, sent := t.fmp.sent }
  last : ∀ k, (fmpRole t k).last = (fmpRole s k).last
  nonce : ∀ k, (fmpRole t k).nonce = (fmpRole s k).nonce
  mem : t.mem = s.mem
  freeCtr : t.freeCtr = s.freeCtr
  regs : SameRegs s t (fun a => a = Reg.FMP_ABORT_CNT ∨ a = Reg.FMP_DROP_CNT ∨ evtOf blkSvc 30 a)
  stands : ∀ n, Raised s blkSvc n → Raised t blkSvc n

namespace Replied

variable {s t u : State}

theorem refl (s : State) : Replied s s := ⟨rfl, fun _ => rfl, fun _ => rfl, rfl, rfl, .refl s _, fun _ h => h⟩

theorem trans (h : Replied s t) (k : Replied t u) : Replied s u :=
  ⟨k.fmp.trans (by rw [h.fmp]), fun n => (k.last n).trans (h.last n), fun n => (k.nonce n).trans (h.nonce n), k.mem.trans h.mem,
    k.freeCtr.trans h.freeCtr, h.regs.trans k.regs, fun n r => k.stands n (h.stands n r)⟩

theorem queue (h : Replied s t) : t.fmp.queue = s.fmp.queue := by rw [h.fmp]
theorem vals (h : Replied s t) : t.fmp.vals = s.fmp.vals := by rw [h.fmp]
theorem segs (h : Replied s t) : t.fmp.segs = s.fmp.segs := by rw [h.fmp]
theorem store (h : Replied s t) : t.fmp.store = s.fmp.store := by rw [h.fmp]
theorem abort (h : Replied s t) : t.fmp.abort = s.fmp.abort := by rw [h.fmp]
theorem seg (h : Replied s t) (r : Nat) : segOf t r = segOf s r := by unfold segOf; rw [h.segs]
theorem sect (h : Replied s t) (k : Nat) : sectOf t k = sectOf s k := by unfold sectOf; rw [h.fmp]

end Replied

/-- A state of FMP that shares its part has the same roles. -/
theorem fmpRole_of_fmp {s t : State} (h : t.fmp = s.fmp) (k : Nat) : fmpRole t k = fmpRole s k := by unfold fmpRole; rw [h]

theorem fmpRole_setFmpRole (s : State) (r k : Nat) (x : FmpRole) : fmpRole (setFmpRole s r x) k = if r = k then x else fmpRole s k :=
  sget_sput _ _ _ _ _

theorem replied_abortCounted : Replied s (abortCounted s code) := by
  have below : Reg.FMP_ABORT_CNT < evtStatus blkSvc := by decide
  unfold abortCounted; split
  · exact .refl s
  · have role (k : Nat) : fmpRole (s.count Reg.FMP_ABORT_CNT) k = fmpRole s k := fmpRole_of_fmp (s.count_fmp _) k
    refine ⟨?_, fun k => by rw [role], fun k => by rw [role], s.count_mem _, s.count_freeCtr _,
      (SameRegs.refl s _).count (.inl rfl), fun n h => (flag_of_reg n (reg_count_ne _ below.ne)).trans h⟩
    rw [s.count_fmp]

theorem fmpRole_respNoted (k : Nat) : (fmpRole (respNoted s q f) k).last = (fmpRole s k).last ∧
    (fmpRole (respNoted s q f) k).nonce = (fmpRole s k).nonce ∧ (k ≠ fRole q.frame → fmpRole (respNoted s q f) k = fmpRole s k) := by
  unfold respNoted; split
  · rw [fmpRole_setFmpRole]; split
    next own => subst own; exact ⟨rfl, rfl, fun h => absurd rfl h⟩
    next => exact ⟨rfl, rfl, fun _ => rfl⟩
  · exact ⟨rfl, rfl, fun _ => rfl⟩

theorem regs_respNoted : (respNoted s q f).regs = s.regs := by unfold respNoted; split <;> rfl

theorem sameRegs_of_regs {s t : State} (h : t.regs = s.regs) (w : Nat → Prop) : SameRegs s t w := fun a _ => by
  unfold State.reg; rw [h]
theorem raised_of_regs {s t : State} (h : t.regs = s.regs) {b n : Nat} (r : Raised s b n) : Raised t b n := by
  unfold Raised; rw [flag_of_reg n (sameRegs_of_regs h (fun _ => False) _ id)]; exact r

theorem replied_respNoted : Replied s (respNoted s q f) := by
  have role := fmpRole_respNoted s q f
  have regs := regs_respNoted s q f
  refine ⟨?_, fun k => (role k).1, fun k => (role k).2.1, ?_, ?_, sameRegs_of_regs regs _, fun n => raised_of_regs regs⟩
  · unfold respNoted; split <;> rfl
  · unfold respNoted; split <;> rfl
  · unfold respNoted; split <;> rfl

theorem replied_fmpDrop : Replied s (fmpDrop s) := by
  have only : OnlyRegs s (fmpDrop s) := ((OnlyRegs.refl s).count _).raise _ _
  have fmp : (fmpDrop s).fmp = s.fmp := by rw [fmpDrop, State.raise_fmp, State.count_fmp]
  have role (k : Nat) : fmpRole (fmpDrop s) k = fmpRole s k := fmpRole_of_fmp fmp k
  refine ⟨by rw [fmp], fun k => by rw [role], fun k => by rw [role], only.mem, ?_, ?_, fun n h => ?_⟩
  · rw [fmpDrop, State.raise_freeCtr, State.count_freeCtr]
  · exact ((SameRegs.refl s _).count (.inr (.inl rfl))).raise fun _ h => .inr (.inr h)
  · exact (h.count (a := Reg.FMP_DROP_CNT) (by decide)).raise blkSvc (by decide)

/-- The response sent on a transport other than MGMT_SPI. -/
theorem fmpSend_wire {via peer : Nat} (wire : via ≠ 2) : fmpSend s via peer f =
    (s.setFmp { s.fmp with sent := s.fmp.sent.filter (fun e => e.1 != via) ++ [(via, peer, f)] }).answer (8210 + via) 0 (f.map (·.toNat)) :=
  if_neg wire

theorem replied_fmpSend (via peer : Nat) : Replied s (fmpSend s via peer f) := by
  unfold fmpSend; split
  · split
    · exact ⟨rfl, fun _ => rfl, fun _ => rfl, rfl, rfl, sameRegs_of_regs rfl _, fun n => raised_of_regs rfl⟩
    · exact replied_fmpDrop s
  · exact ⟨rfl, fun _ => rfl, fun _ => rfl, rfl, rfl, sameRegs_of_regs rfl _, fun n => raised_of_regs rfl⟩

theorem replied_fmpReply (key : List Byte) (flags tcode : Nat) (pay : List Byte) : Replied s (fmpReply s q key code flags tcode pay) := by
  rw [fmpReply_eq]
  exact (replied_abortCounted s code).trans ((replied_respNoted _ q _).trans (replied_fmpSend _ _ _ _))

/-- The response to a request on another transport than MGMT_SPI. -/
theorem fmpReply_wire (wire : q.via ≠ 2) (key : List Byte) (flags tcode : Nat) (pay : List Byte) :
    (fmpReply s q key code flags tcode pay).ans =
      ⟨8210 + q.via, 0, (fResp q.frame (if fRole q.frame = 0 then none else some key) code flags tcode pay).map (·.toNat)⟩ ∧
    (fmpReply s q key code flags tcode pay).regs = (abortCounted s code).regs ∧
    ∀ k, k ≠ fRole q.frame → fmpRole (fmpReply s q key code flags tcode pay) k = fmpRole s k := by
  obtain ⟨x, isX⟩ := named (fResp q.frame (if fRole q.frame = 0 then none else some key) code flags tcode pay)
  rw [fmpReply_eq, isX, fmpSend_wire _ _ wire]
  refine ⟨rfl, regs_respNoted _ q x, fun k hk => ?_⟩
  refine ((fmpRole_respNoted (abortCounted s code) q x k).2.2 hk).trans (fmpRole_of_fmp ?_ k)
  unfold abortCounted; split
  · rfl
  · rw [State.count_fmp]

end

/-! The request at the head of the queue, served by its row (R431). -/

/-- The request q, of a command, is at the head of the queue and is served; it came on another transport than MGMT_SPI. -/
structure Head (s : State) (q : FmpReq) (r : List FmpReq) (cmd : Nat) : Prop where
  queue : s.fmp.queue = q :: r
  serves : fmpServes s = true
  idle : s.fmp.signing = false
  cmd : fCmd q.frame = cmd
  wire : q.via ≠ 2

/-- The answer to a request, under the key its role had. -/
def answerOf (s : State) (q : FmpReq) (code flags tcode : Nat) (pay : List Byte) : Answer :=
  ⟨8210 + q.via, 0, (fResp q.frame (if fRole q.frame = 0 then none else some (fKey s (fRole q.frame))) code flags tcode pay).map (·.toNat)⟩

/-- What a refusal with an abort code leaves: nothing but the queue, the answer and the count of refusals has changed. -/
def Refused (s : State) (q : FmpReq) (r : List FmpReq) (code : Nat) (t : State) : Prop :=
  t.fmp.queue = r ∧ t.ans = answerOf s q code 0 0 [] ∧
  t.regN Reg.FMP_ABORT_CNT = satNat 32 (s.regN Reg.FMP_ABORT_CNT + 1) ∧ SameRegs s t (· = Reg.FMP_ABORT_CNT) ∧ t.fmp.vals = s.fmp.vals ∧
  t.fmp.segs = s.fmp.segs ∧ t.fmp.store = s.fmp.store ∧ SameMem s t

/-- A known command at the head waits for its row. -/
theorem fmpSkip_known {s : State} {q : FmpReq} {r : List FmpReq} (n : Nat) (queue : s.fmp.queue = q :: r)
    (known : fmpCmds.contains (fCmd q.frame) = true) : fmpSkip n s = s := by
  cases n with
  | zero => rfl
  | succ n =>
    rw [fmpSkip, queue]; dsimp only
    rw [known, Bool.not_true, Bool.and_false, if_neg Bool.false_ne_true]

namespace Head

variable {s t : State} {q : FmpReq} {r : List FmpReq} {cmd code flags tcode : Nat} {pay : List Byte}
  {f : State → FmpReq → State × Option (Nat × Nat × Nat × List Byte)}

theorem fmpHead (h : Head s q r cmd) : fmpHead s cmd = some q := by
  have at_ : (fmpServes s && fCmd q.frame == cmd && !s.fmp.signing) = true := by rw [h.serves, h.cmd, h.idle, beq_self_eq_true]; rfl
  rw [Machine.fmpHead, h.queue]; exact if_pos at_

theorem row_waits (h : Head s q r cmd) (known : fmpCmds.contains cmd = true) (waits : f s q = (t, none)) : fmpRow s cmd f = t := by
  rw [fmpRow, fmpSkip_known 8 h.queue (h.cmd ▸ known), h.fmpHead]; dsimp only
  rw [waits]

theorem row_ends (h : Head s q r cmd) (known : fmpCmds.contains cmd = true) (ends : f s q = (t, some (code, flags, tcode, pay)))
    (kept : t.fmp.queue = q :: r) : fmpRow s cmd f = fmpReply (fmpPop t) q (fKey s (fRole q.frame)) code flags tcode pay := by
  rw [fmpRow, fmpSkip_known 8 h.queue (h.cmd ▸ known), h.fmpHead]; dsimp only
  rw [ends]; dsimp only
  rw [fmpEnd, kept]; exact if_pos rfl

/-- A request ended with an answer: the queue's rest, the answer, and what the row left. -/
theorem ended (h : Head s q r cmd) (known : fmpCmds.contains cmd = true) (ends : f s q = (t, some (code, flags, tcode, pay)))
    (kept : t.fmp.queue = q :: r) : (fmpRow s cmd f).fmp.queue = r ∧ (fmpRow s cmd f).ans = answerOf s q code flags tcode pay ∧
    (fmpRow s cmd f).regs = (abortCounted t code).regs ∧ Replied (fmpPop t) (fmpRow s cmd f) ∧
    ∀ k, k ≠ fRole q.frame → fmpRole (fmpRow s cmd f) k = fmpRole t k := by
  obtain ⟨ans, regs, roles⟩ := fmpReply_wire (fmpPop t) q code h.wire (fKey s (fRole q.frame)) flags tcode pay
  rw [h.row_ends known ends kept]
  have replied := replied_fmpReply (fmpPop t) q code (fKey s (fRole q.frame)) flags tcode pay
  refine ⟨replied.queue.trans (congrArg List.tail kept), ans, regs.trans ?_, replied, fun k hk => (roles k hk).trans rfl⟩
  unfold abortCounted; split <;> rfl

theorem regs_counted {u : State} (regs : u.regs = (s.count Reg.FMP_ABORT_CNT).regs) :
    u.regN Reg.FMP_ABORT_CNT = satNat 32 (s.regN Reg.FMP_ABORT_CNT + 1) ∧ SameRegs s u (· = Reg.FMP_ABORT_CNT) := by
  have same := sameRegs_of_regs regs (fun _ => False)
  refine ⟨?_, fun a ha => ?_⟩
  · rw [regN_of_reg (same _ id), regN_count]
  · rw [same a id, reg_count_ne _ (Ne.symm ha)]

theorem refused (h : Head s q r cmd) (known : fmpCmds.contains cmd = true) (refuses : f s q = Machine.ends s code) (bad : code ≠ 0) :
    Refused s q r code (fmpRow s cmd f) := by
  obtain ⟨queue, ans, regs, replied, -⟩ := h.ended known refuses h.queue
  rw [abortCounted, if_neg bad] at regs
  obtain ⟨count, same⟩ := regs_counted regs
  exact ⟨queue, ans, count, same, replied.vals, replied.segs, replied.store, sameMem_of_mem replied.mem⟩

/-- A command that ends its request leaves what the answer, the queue's rest and the row's own state give. -/
theorem completes (h : Head s q r cmd) {c : Instr} {P : State → Prop} (run : exec c s = .next (fmpRow s cmd f))
    (known : fmpCmds.contains cmd = true) (ends : f s q = (t, some (code, flags, tcode, pay))) (kept : t.fmp.queue = q :: r)
    (post : ∀ u, u.fmp.queue = r → u.ans = answerOf s q code flags tcode pay → u.regs = (abortCounted t code).regs → Replied (fmpPop t) u →
      (∀ k, k ≠ fRole q.frame → fmpRole u k = fmpRole t k) → P u) : Completes c s P := by
  obtain ⟨queue, ans, regs, replied, roles⟩ := h.ended known ends kept
  exact ⟨_, run, post _ queue ans regs replied roles⟩

theorem refuses (h : Head s q r cmd) {c : Instr} (run : exec c s = .next (fmpRow s cmd f)) (known : fmpCmds.contains cmd = true)
    (refuses : f s q = Machine.ends s code) (bad : code ≠ 0) : Completes c s (Refused s q r code) := ⟨_, run, h.refused known refuses bad⟩

end Head

/-! Segmented transfers of the roles (R434). -/

section
variable (s : State) (r : Nat)

theorem segOf_setSeg_some (g : Segs) : segOf (setSeg s r (some g)) r = some g := by
  have found := find?_sinsert_sdrop r g s.fmp.segs
  exact congrArg (Option.map (·.2)) found

theorem segOf_setSeg_none : segOf (setSeg s r none) r = none := by
  have gone : (sdrop r s.fmp.segs).find? (fun e => e.1 == r) = none :=
    List.find?_eq_none.mpr fun e he => by simpa using (mem_sdrop.mp he).2
  exact congrArg (Option.map (·.2)) gone

theorem segOf_setSeg_none_ne {k : Nat} (hk : k ≠ r) : segOf (setSeg s r none) k = segOf s k := by
  have other : (sdrop r s.fmp.segs).find? (fun e => e.1 == k) = s.fmp.segs.find? (fun e => e.1 == k) := by
    unfold sdrop; rw [List.find?_filter]
    congr 1; funext e
    by_cases own : e.1 = k
    · simp [own, hk]
    · simp [own]
  exact congrArg (Option.map (·.2)) other

end

end Sys2Proof.Machine
end

section
/-! PROOFS. A statement of 15_object_dictionary.md: the protocol's receipt, reads, writes and segmented transfers (O55). -/

namespace Sys2Proof.Machine

/-! Frames received (R425, R426, R429, R430). -/

section
variable {s : State} {via : Fin 3} {peer : BitVec 48} {frame : List Byte}

theorem exec_fmpFrameRx_off (off : fwRuns s = false ∨ fmpOn s via.val = false) : exec (.fmpFrameRx via peer frame) s = .next s := by
  have stays : (!fwRuns s || !fmpOn s via) = true := by rcases off with h | h <;> simp [h]
  rw [exec_fmpFrameRx, execFmpFrameRx, if_pos stays]

section
variable (fw : fwRuns s = true) (on : fmpOn s via.val = true)
include fw on

theorem fmp_listens : (!fwRuns s || !fmpOn s via) = false := by rw [fw, on]; rfl

theorem exec_fmpFrameRx_wire (wire : via.val ≠ 2) :
    exec (.fmpFrameRx via peer frame) s = .next (fmpReceive s via peer.toNat frame) := by
  rw [exec_fmpFrameRx, execFmpFrameRx, fmp_listens fw on, if_neg Bool.false_ne_true, if_neg wire]

end

theorem fmpDrop_spec (s : State) : (fmpDrop s).regN Reg.FMP_DROP_CNT = satNat 32 (s.regN Reg.FMP_DROP_CNT + 1) ∧ Raised (fmpDrop s) blkSvc 30 ∧
    (fmpDrop s).fmp = s.fmp ∧ (fmpDrop s).ans = s.ans ∧ SameRegs s (fmpDrop s) (fun a => a = Reg.FMP_DROP_CNT ∨ evtOf blkSvc 30 a) ∧
    SameMem s (fmpDrop s) := by
  refine ⟨?_, raised_raise _ (by decide), ?_, ?_, ((SameRegs.refl s _).count (.inl rfl)).raise fun _ => .inr,
    sameMem_of_mem (replied_fmpDrop s).mem⟩
  · rw [fmpDrop, regN_of_reg (reg_raise_lt _ (by decide)), regN_count]
  · rw [fmpDrop, State.raise_fmp, State.count_fmp]
  · rw [fmpDrop, State.raise_ans, State.count_ans]

theorem fmpReceive_malformed {v p : Nat} (form : fForm frame = false) : fmpReceive s v p frame = fmpDrop s := by
  rw [fmpReceive, form]; rfl

/-- A role with its request taken. -/
def roleTaken (s : State) (frame : List Byte) : State :=
  setFmpRole s (fRole frame) { fmpRole s (fRole frame) with last := fSeq frame, tag := fTag frame, rsp := none }

/-- A refused request counted. -/
def authCounted (s : State) : State := (s.count Reg.FMP_AUTH_CNT).raise blkSvc 24
/-- Its answer noted for its transport. -/
def authNoted (u : State) (v : Nat) : State := u.setFmp { u.fmp with fails := [(v, u.tim.cks, 1)] }

theorem fmp_authCounted (s : State) : (authCounted s).fmp = s.fmp := by rw [authCounted, State.raise_fmp, State.count_fmp]

section
variable {v p : Nat} (form : fForm frame = true) (whole : frame.length = 48 + fLen frame)
include form whole

theorem fmpReceive_full (full : 8 ≤ s.fmp.queue.length) : fmpReceive s v p frame = fmpDrop s := by
  simp only [fmpReceive, form, whole, full, ne_eq, not_true_eq_false, Bool.not_true, Bool.false_eq_true, if_false, if_true]

theorem fmpReceive_hello (empty : s.fmp.queue = []) (role : fRole frame = 0) (cmd : fCmd frame = 0) :
    fmpReceive s v p frame = s.setFmp { s.fmp with queue := [⟨v, p, frame⟩] } := by
  have known : fmpCmds.contains (fCmd frame) = true := by rw [cmd]; rfl
  have room : ¬8 ≤ s.fmp.queue.length := by rw [empty]; decide
  simp only [fmpReceive, form, whole, if_neg room, role, cmd, ne_eq, not_true_eq_false, Bool.not_true, Bool.false_eq_true, and_self,
    if_false, if_true]
  rw [empty]
  exact fmpSkip_known (q := ⟨v, p, frame⟩) 8 rfl known

section
variable (empty : s.fmp.queue = []) (known : fmpCmds.contains (fCmd frame) = true) (least : 1 ≤ fRole frame) (most : fRole frame ≤ 3)
include empty least most

include known in
theorem fmpReceive_authentic (auth : fmpAuth s frame = true) : fmpReceive s v p frame =
    ((roleTaken s frame).count Reg.FMP_REQ_CNT).setFmp { (roleTaken s frame).fmp with queue := [⟨v, p, frame⟩] } := by
  have room : ¬8 ≤ s.fmp.queue.length := by rw [empty]; decide
  have role : ¬(fRole frame = 0 ∧ fCmd frame = 0) := fun h => by omega
  have taken : ((roleTaken s frame).count Reg.FMP_REQ_CNT).fmp = (roleTaken s frame).fmp := State.count_fmp _ _
  have rest : (roleTaken s frame).fmp.queue = [] := empty
  have step : fmpReceive s v p frame = fmpSkip 8 (((roleTaken s frame).count Reg.FMP_REQ_CNT).setFmp
      { ((roleTaken s frame).count Reg.FMP_REQ_CNT).fmp with queue := (roleTaken s frame).fmp.queue ++ [⟨v, p, frame⟩] }) := by
    simp only [fmpReceive, form, whole, if_neg room, if_neg role, auth, least, most, ne_eq, not_true_eq_false, Bool.not_true,
      Bool.false_eq_true, and_self, if_false, if_true]
    rfl
  rw [step, taken, rest]
  exact fmpSkip_known (q := ⟨v, p, frame⟩) 8 rfl known

theorem fmpReceive_unauthentic (new : fSeq frame ≠ (fmpRole s (fRole frame)).last) (auth : fmpAuth s frame = false) (fails : s.fmp.fails = []) :
    fmpReceive s v p frame = fmpSend ((authNoted (authCounted s) v).count Reg.FMP_ABORT_CNT) v p (fResp frame none 0x0C01 0 0 []) := by
  have room : ¬8 ≤ s.fmp.queue.length := by rw [empty]; decide
  have role : ¬(fRole frame = 0 ∧ fCmd frame = 0) := fun h => by omega
  have other : ¬(1 ≤ fRole frame ∧ fRole frame ≤ 3 ∧ fSeq frame = (fmpRole s (fRole frame)).last ∧ fTag frame = (fmpRole s (fRole frame)).tag) :=
    fun h => new h.2.2.1
  obtain ⟨u, isU⟩ := named (authCounted s)
  have fails' : u.fmp.fails = [] := by rw [← isU, fmp_authCounted, fails]
  have step : fmpReceive s v p frame = fmpRefuse s v p frame := by
    simp only [fmpReceive, form, whole, if_neg room, if_neg role, auth, if_neg other, ne_eq, not_true_eq_false, Bool.not_true,
      Bool.false_eq_true, and_false, if_false]
  have refuse : fmpRefuse s v p frame = fmpSend ((u.setFmp { u.fmp with fails := [(v, u.tim.cks, 1)] }).count Reg.FMP_ABORT_CNT) v p
      (fResp frame none 0x0C01 0 0 []) := by
    rw [fmpRefuse, ← authCounted, isU, fails']; rfl
  rw [step, refuse, isU, authNoted]

end

end

/-- What an authentic request's receipt leaves. -/
theorem received_spec (s : State) (q : FmpReq) :
    (((roleTaken s q.frame).count Reg.FMP_REQ_CNT).setFmp { (roleTaken s q.frame).fmp with queue := [q] }).fmp.queue = [q] ∧
    (fmpRole (((roleTaken s q.frame).count Reg.FMP_REQ_CNT).setFmp { (roleTaken s q.frame).fmp with queue := [q] }) (fRole q.frame)).last = fSeq q.frame ∧
    (fmpRole (((roleTaken s q.frame).count Reg.FMP_REQ_CNT).setFmp { (roleTaken s q.frame).fmp with queue := [q] }) (fRole q.frame)).nonce =
      (fmpRole s (fRole q.frame)).nonce ∧
    (((roleTaken s q.frame).count Reg.FMP_REQ_CNT).setFmp { (roleTaken s q.frame).fmp with queue := [q] }).regN Reg.FMP_REQ_CNT =
      satNat 32 (s.regN Reg.FMP_REQ_CNT + 1) ∧
    SameRegs s (((roleTaken s q.frame).count Reg.FMP_REQ_CNT).setFmp { (roleTaken s q.frame).fmp with queue := [q] }) (· = Reg.FMP_REQ_CNT) ∧
    SameMem s (((roleTaken s q.frame).count Reg.FMP_REQ_CNT).setFmp { (roleTaken s q.frame).fmp with queue := [q] }) := by
  obtain ⟨u, isU⟩ := named (roleTaken s q.frame)
  have regs : u.regs = s.regs := isU ▸ rfl
  have role : fmpRole u (fRole q.frame) = { fmpRole s (fRole q.frame) with last := fSeq q.frame, tag := fTag q.frame, rsp := none } :=
    isU ▸ (fmpRole_setFmpRole s _ _ _).trans (if_pos rfl)
  have role' : fmpRole ((u.count Reg.FMP_REQ_CNT).setFmp { u.fmp with queue := [q] }) (fRole q.frame) = fmpRole u (fRole q.frame) := rfl
  have same := sameRegs_of_regs regs (fun _ => False)
  have count : ((u.count Reg.FMP_REQ_CNT).setFmp { u.fmp with queue := [q] }).regN Reg.FMP_REQ_CNT =
      (u.count Reg.FMP_REQ_CNT).regN Reg.FMP_REQ_CNT := rfl
  rw [isU]
  refine ⟨rfl, ?_, ?_, ?_, fun a ha => ?_, sameMem_of_mem ?_⟩
  · rw [role', role]
  · rw [role', role]
  · rw [count, regN_count, regN_of_reg (same _ id)]
  · exact (reg_count_ne u (Ne.symm ha)).trans (same a id)
  · rw [State.setFmp_mem, State.count_mem, ← isU]; rfl

/-- What an unauthentic request's refusal leaves. -/
theorem refusal_spec (s : State) {v p : Nat} (wire : v ≠ 2) (f : List Byte) {t : State}
    (sent : t = fmpSend ((authNoted (authCounted s) v).count Reg.FMP_ABORT_CNT) v p f) : t.fmp.queue = s.fmp.queue ∧ t.fmp.roles = s.fmp.roles ∧
    t.ans = ⟨8210 + v, 0, f.map (·.toNat)⟩ ∧ t.regN Reg.FMP_AUTH_CNT = satNat 32 (s.regN Reg.FMP_AUTH_CNT + 1) ∧ Raised t blkSvc 24 ∧
    SameMem s t := by
  obtain ⟨u, isU⟩ := named (authCounted s)
  have fmp : u.fmp = s.fmp := isU ▸ fmp_authCounted s
  have mem : u.mem = s.mem := by rw [← isU, authCounted, State.raise_mem, State.count_mem]
  have count : u.regN Reg.FMP_AUTH_CNT = satNat 32 (s.regN Reg.FMP_AUTH_CNT + 1) := by
    rw [← isU, authCounted, regN_of_reg (reg_raise_lt _ (by decide)), regN_count]
  have event : Raised u blkSvc 24 := isU ▸ raised_raise _ (by decide)
  obtain ⟨w, isW⟩ := named ((authNoted (authCounted s) v).count Reg.FMP_ABORT_CNT)
  have noted : authNoted (authCounted s) v = u.setFmp { u.fmp with fails := [(v, u.tim.cks, 1)] } := by rw [isU, authNoted]
  have fmp' : w.fmp = { s.fmp with fails := [(v, u.tim.cks, 1)] } := by rw [← isW, State.count_fmp, noted, State.setFmp_fmp, fmp]
  have mem' : w.mem = s.mem := by rw [← isW, State.count_mem, noted, State.setFmp_mem, mem]
  have reg' {a : Nat} (ha : Reg.FMP_ABORT_CNT ≠ a) : w.reg a = u.reg a := by rw [← isW, reg_count_ne _ ha, noted]; rfl
  have count' : w.regN Reg.FMP_AUTH_CNT = u.regN Reg.FMP_AUTH_CNT := regN_of_reg (reg' (by decide))
  have event' : Raised w blkSvc 24 := (flag_of_reg 24 (reg' (by decide))).trans event
  rw [sent, isW, fmpSend_wire _ _ wire]
  refine ⟨?_, ?_, rfl, count'.trans count, event', sameMem_of_mem mem'⟩
  · exact Eq.trans (b := w.fmp.queue) rfl (by rw [fmp'])
  · exact Eq.trans (b := w.fmp.roles) rfl (by rw [fmp'])

theorem exec_fmpFrameRx_spi {f : List Byte} (fw : fwRuns s = true) (on : s.flag Reg.FMP_CTL 1 = true) (held : s.fmp.spiRx = some f) :
    exec (.fmpFrameRx 2 peer frame) s = .next (fmpReceive (s.setFmp { s.fmp with spiRx := none }) 2 0 f) := by
  have listens : (!fwRuns s || !fmpOn s (2 : Fin 3)) = false := fmp_listens (via := 2) fw on
  rw [exec_fmpFrameRx, execFmpFrameRx, listens, held]; rfl

end

/-! What an index names (R439). -/

section
variable {s : State} {index sub c : Nat} {o : Obj}

theorem describe_obj (name : nameOf s.life index sub = .obj o) : describe s index sub = (s, some (0, some o)) := by
  rw [describe, name]

theorem describe_none (name : nameOf s.life index sub = .none c) : describe s index sub = (s, some (c, none)) := by
  rw [describe, name]

theorem describe_unserved (name : nameOf s.life index sub = .user) (new : s.fmp.user = none) (idle : userBusy s = false)
    (unserved : dpServer s index = none) : describe s index sub = (setUser s {}, some (0x0A01, none)) := by
  have unserved' : dpServer (setUser s {}) index = none := unserved
  have fresh : userOf s = {} := by rw [userOf, new]; rfl
  rw [describe, name]; dsimp only
  rw [fresh, idle]; dsimp only
  rw [if_neg Bool.false_ne_true, userIssue, unserved']

theorem isUser_low (low : index < 0xA000) : isUser index = false := by rw [isUser, decide_eq_false (by omega)]; rfl

theorem fmpGet_plain (low : o.index < 0xA000) : fmpGet s o sub = (s, some (0, objGet s o sub)) := by
  rw [fmpGet, isUser_low low, if_neg Bool.false_ne_true, if_neg (by omega)]

theorem jObj_off {v : List Byte} (off : jOn s = false) : jObj s o sub v = s := by
  rw [jObj, off, Bool.and_false, if_neg Bool.false_ne_true]

theorem fmpPut_plain {v : List Byte} {t : State} (low : o.index < 0xA000) (off : jOn s = false) (put : objSet s o sub v = (t, 0))
    (off' : jOn t = false) : fmpPut s o sub v = (t, some 0) := by
  have free : (mirrored s o sub && jBlocked s (objFrames v)) = false := by rw [jBlocked, off, Bool.false_and, Bool.and_false]
  rw [fmpPut, isUser_low low, if_neg Bool.false_ne_true, free, if_neg Bool.false_ne_true, objWrite, put]; dsimp only
  rw [jObj_off off']; rfl

end

/-! The checks in order (Table ODP-5). -/

section
variable {s : State} {r sub : Nat} {o : Obj} {v : List Byte}

theorem chkRead_low (low : r < o.role) : chkRead r o = 0x0A07 := if_pos low
theorem chkRead_wo (role : o.role ≤ r) (wo : o.acc = .wo) : chkRead r o = 0x0A09 := by rw [chkRead, if_neg (by omega), if_pos wo]
theorem chkRead_ok (role : o.role ≤ r) (acc : o.acc ≠ .wo) : chkRead r o = 0 := by rw [chkRead, if_neg (by omega), if_neg acc]
theorem chkWrite_ro (role : o.role ≤ r) (ro : o.acc = .ro ∨ o.acc = .const) : chkWrite r o = 0x0A05 := by
  rw [chkWrite, if_neg (by omega), if_pos ro]
theorem chkWrite_ok (role : o.role ≤ r) (ro : o.acc ≠ .ro) (const : o.acc ≠ .const) : chkWrite r o = 0 := by
  rw [chkWrite, if_neg (by omega), if_neg (not_or.mpr ⟨ro, const⟩)]

theorem fitsOne_ok (ty : o.ty ≠ 14) (size : o.size ≤ 1024) : fitsOne o = true := by
  rw [fitsOne, bne_iff_ne.mpr ty, decide_eq_true size]; rfl

theorem objMode_rw (rw_ : o.acc = .rw) (open_ : s.shadowing = false) : objMode s o sub = true := by
  rw [objMode, rw_, open_]; rfl

theorem chkPut_mode (mode : objMode s o sub = false) : chkPut s o sub v = 0x0A06 := by rw [chkPut, mode]; rfl

theorem chkPut_range (mode : objMode s o sub = true) (busy : objBusy s o sub (leNat v) = 0) (range : objRange s o sub v = false) :
    chkPut s o sub v = 0x0A04 := by rw [chkPut, mode, busy, range]; rfl

theorem chkPut_ok (mode : objMode s o sub = true) (busy : objBusy s o sub (leNat v) = 0) (range : objRange s o sub v = true) :
    chkPut s o sub v = 0 := by rw [chkPut, mode, busy, range]; rfl

end

/-- A value kept in FMP's RAM is the one found there. -/
theorem vals_keep (s : State) (index sub : Nat) (v : List Byte) :
    ((keep s index sub v).fmp.vals.find? (fun e => e.1 == valKey index sub)).map (·.2) = some v :=
  congrArg (Option.map (·.2)) (find?_sinsert_sdrop (valKey index sub) v s.fmp.vals)

/-! The rows of the commands. -/

section
variable {s : State} {q : FmpReq} {r : List FmpReq} {o : Obj}

theorem hello_answered (h : Head s q r 0) : Completes .hello s fun t => t.fmp.queue = r ∧
    t.ans = answerOf s q 0 0 0 (leBytes 4 0x0C8E0008 ++ leBytes 4 idcode ++ leBytes 1 s.mode ++ [0, 0, 0] ++ leBytes 8 (fmpRole s 1).nonce ++
      leBytes 8 (fmpRole s 2).nonce ++ leBytes 8 (fmpRole s 3).nonce) ∧ t.regs = s.regs ∧ SameMem s t := by
  have nonces : [1, 2, 3].flatMap (fun r => leBytes 8 (fmpRole s r).nonce) =
      leBytes 8 (fmpRole s 1).nonce ++ leBytes 8 (fmpRole s 2).nonce ++ leBytes 8 (fmpRole s 3).nonce := by
    simp [List.flatMap_cons]
  refine h.completes (exec_hello s) (by decide) rfl h.queue fun u queue ans regs replied _ => ⟨queue, ?_, regs, sameMem_of_mem replied.mem⟩
  rw [ans, nonces, ← List.append_assoc, ← List.append_assoc]

/-! READ (R427). -/

theorem read_value (h : Head s q r 1) (name : nameOf s.life (fIndex q.frame) (fSub q.frame) = .obj o) (low : o.index < 0xA000)
    (role : o.role ≤ fRole q.frame) (acc : o.acc ≠ .wo) (len : fLen q.frame = 0) (tcode : fTcode q.frame = 0) (ty : o.ty ≠ 14)
    (size : o.size ≤ 1024) : Completes .read s fun t => t.fmp.queue = r ∧ t.ans = answerOf s q 0 0 o.ty (objGet s o (fSub q.frame)) ∧
    t.regs = s.regs ∧ t.fmp.vals = s.fmp.vals ∧ t.mem = s.mem := by
  refine h.completes (exec_read s) (code := 0) (t := s) (by decide) ?_ h.queue fun u queue ans regs replied _ => ⟨queue, ans, regs, replied.vals, replied.mem⟩
  simp only [describe_obj name, chkRead_ok role acc, len, tcode, fitsOne_ok ty size, and_self, if_true, firstCode_zero, firstCode_nil,
    ne_eq, not_true_eq_false, if_false, fmpGet_plain low]

theorem read_unnamed {c : Nat} (h : Head s q r 1) (name : nameOf s.life (fIndex q.frame) (fSub q.frame) = .none c) (bad : c ≠ 0) :
    Completes .read s (Refused s q r c) :=
  h.refuses (exec_read s) (by decide) (by simp only [describe_none name]) bad

theorem read_below (h : Head s q r 1) (name : nameOf s.life (fIndex q.frame) (fSub q.frame) = .obj o) (low : fRole q.frame < o.role) :
    Completes .read s (Refused s q r 0x0A07) := by
  have code (l : List Nat) : firstCode (chkRead (fRole q.frame) o :: l) = 0x0A07 := by rw [chkRead_low low]; exact firstCode_ne l (by decide)
  exact h.refuses (exec_read s) (by decide) (by simp only [describe_obj name, code]; rfl) (by decide)

theorem read_writeOnly (h : Head s q r 1) (name : nameOf s.life (fIndex q.frame) (fSub q.frame) = .obj o) (role : o.role ≤ fRole q.frame)
    (wo : o.acc = .wo) : Completes .read s (Refused s q r 0x0A09) := by
  have code (l : List Nat) : firstCode (chkRead (fRole q.frame) o :: l) = 0x0A09 := by rw [chkRead_wo role wo]; exact firstCode_ne l (by decide)
  exact h.refuses (exec_read s) (by decide) (by simp only [describe_obj name, code]; rfl) (by decide)

theorem read_unserved (h : Head s q r 1) (name : nameOf s.life (fIndex q.frame) (fSub q.frame) = .user) (new : s.fmp.user = none)
    (idle : userBusy s = false) (unserved : dpServer s (fIndex q.frame) = none) : Completes .read s fun t => t.fmp.queue = r ∧
    t.ans = answerOf s q 0x0A01 0 0 [] ∧ SameMem s t :=
  h.completes (exec_read s) (t := setUser s {}) (by decide) (by simp only [describe_unserved name new idle unserved]; rfl) h.queue
    fun _ queue ans _ replied _ => ⟨queue, ans, sameMem_of_mem replied.mem⟩

/-! WRITE (R432). -/

section
variable (h : Head s q r 2) (name : nameOf s.life (fIndex q.frame) (fSub q.frame) = .obj o) (role : o.role ≤ fRole q.frame)
include h name role

theorem write_readOnly (ro : o.acc = .ro ∨ o.acc = .const) : Completes .write s (Refused s q r 0x0A05) := by
  have code (l : List Nat) : firstCode (chkWrite (fRole q.frame) o :: l) = 0x0A05 := by rw [chkWrite_ro role ro]; exact firstCode_ne l (by decide)
  exact h.refuses (exec_write s) (by decide) (by simp only [describe_obj name, code]; rfl) (by decide)

section
variable (ro : o.acc ≠ .ro) (const : o.acc ≠ .const)
include ro const

theorem write_misfit (misfit : fTcode q.frame ≠ o.ty ∨ fLen q.frame ≠ o.size) : Completes .write s (Refused s q r 0x0A03) := by
  have fits : ¬(fTcode q.frame = o.ty ∧ fLen q.frame = o.size ∧ fitsOne o = true) := fun ⟨ty, size, _⟩ => misfit.elim (· ty) (· size)
  have code (l : List Nat) : firstCode (0x0A03 :: l) = 0x0A03 := firstCode_ne l (by decide)
  exact h.refuses (exec_write s) (by decide)
    (by simp only [describe_obj name, chkWrite_ok role ro const, firstCode_zero, if_neg fits, code]; rfl) (by decide)

section
variable (tcode : fTcode q.frame = o.ty) (size : fLen q.frame = o.size) (ty : o.ty ≠ 14) (fits : o.size ≤ 1024)
include tcode size ty fits

theorem write_refused {c : Nat} (check : chkPut s o (fSub q.frame) (fPay q.frame) = c) (bad : c ≠ 0) :
    Completes .write s (Refused s q r c) :=
  h.refuses (exec_write s) (by decide)
    (by simp only [describe_obj name, chkWrite_ok role ro const, firstCode_zero, tcode, size, fitsOne_ok ty fits, and_self, if_true, check,
      firstCode_ne [] bad, ne_eq, bad, not_false_eq_true]) bad

/-- A write that passes the checks leaves what its object's write leaves, and is answered. -/
theorem write_put (low : o.index < 0xA000) (off : jOn s = false) (check : chkPut s o (fSub q.frame) (fPay q.frame) = 0)
    (other : o.index ≠ 0x9020) {t : State} (put : objSet s o (fSub q.frame) (fPay q.frame) = (t, 0)) (off' : jOn t = false)
    (kept : t.fmp.queue = q :: r) {P : State → Prop}
    (post : ∀ u, u.fmp.queue = r → u.ans = answerOf s q 0 0 0 [] → u.regs = t.regs → Replied (fmpPop t) u → P u) :
    Completes .write s P :=
  h.completes (exec_write s) (by decide)
    (by simp only [describe_obj name, chkWrite_ok role ro const, firstCode_zero, firstCode_nil, tcode, size, fitsOne_ok ty fits, and_self,
      if_true, check, ne_eq, not_true_eq_false, if_false, other, fmpPut_plain low off put off']; rfl) kept
    fun u queue ans regs replied _ => post u queue ans regs replied

end

end

end

/-- An object kept in FMP's RAM is written there. -/
theorem objSet_kept {sub : Nat} {v : List Byte} (home : o.home = .kept) : objSet s o sub v = (keep s o.index sub v, 0) := by
  rw [objSet, home]

/-! SEG_OPEN, SEG_DATA, SEG_CLOSE, SEG_ABORT (R434). -/

/-- The transfer of an object read in segments: its snapshot. -/
def snapshotOf (s : State) (q : FmpReq) (o : Obj) : Segs where
  write := false
  index := fIndex q.frame
  sub := fSub q.frame
  size := (objGet s o (fSub q.frame)).length
  data := objGet s o (fSub q.frame)

/-- The transfer of an object written in segments, before its first. -/
def writeBegun (q : FmpReq) (o : Obj) : Segs where
  write := true
  index := fIndex q.frame
  sub := fSub q.frame
  size := o.size
  data := []

section
variable {g : Segs}

theorem segOpen_read (h : Head s q r 5) (name : nameOf s.life (fIndex q.frame) (fSub q.frame) = .obj o) (low : o.index < 0xA000)
    (role : o.role ≤ fRole q.frame) (acc : o.acc ≠ .wo) (len : fLen q.frame = 0) (tcode : fTcode q.frame = 0) (dir : fByte q.frame 17 = 0)
    (free : segOf s (fRole q.frame) = none) : Completes .segOpen s fun t => t.fmp.queue = r ∧
    t.ans = answerOf s q 0 0 0 (leBytes 4 (objGet s o (fSub q.frame)).length) ∧
    segOf t (fRole q.frame) = some (snapshotOf s q o) ∧ t.regs = s.regs ∧ SameMem s t := by
  have reads : (fByte q.frame 17 == 1) = false := by rw [dir]; rfl
  refine h.completes (exec_segOpen s) (code := 0) (flags := 0) (tcode := 0) (t := setSeg s (fRole q.frame) (some (snapshotOf s q o))) (by decide) ?_ h.queue
    fun u queue ans regs replied _ => ⟨queue, ans, (replied.seg _).trans (segOf_setSeg_some _ _ _), regs, sameMem_of_mem replied.mem⟩
  simp only [describe_obj name, reads, chkRead_ok role acc, len, tcode, free, and_self, if_true, firstCode_zero, firstCode_nil,
    Option.isSome_none, Bool.false_eq_true, ne_eq, not_true_eq_false, if_false, fmpGet_plain low]
  rfl

theorem segOpen_busy (h : Head s q r 5) (name : nameOf s.life (fIndex q.frame) (fSub q.frame) = .obj o)
    (role : o.role ≤ fRole q.frame) (acc : o.acc ≠ .wo) (len : fLen q.frame = 0) (tcode : fTcode q.frame = 0) (dir : fByte q.frame 17 = 0)
    (busy : (segOf s (fRole q.frame)).isSome = true) : Completes .segOpen s (Refused s q r 0x0A08) := by
  have reads : (fByte q.frame 17 == 1) = false := by rw [dir]; rfl
  have code : firstCode [0x0A08] = 0x0A08 := rfl
  exact h.refuses (exec_segOpen s) (by decide)
    (by simp only [describe_obj name, reads, chkRead_ok role acc, len, tcode, busy, and_self, if_true, firstCode_zero, code,
      Bool.false_eq_true, if_false]; rfl) (by decide)

theorem segOpen_write (h : Head s q r 5) (name : nameOf s.life (fIndex q.frame) (fSub q.frame) = .obj o)
    (role : o.role ≤ fRole q.frame) (acc : o.acc = .rw) (open_ : s.shadowing = false) (dir : fByte q.frame 17 = 1)
    (tcode : fTcode q.frame = o.ty) (len : fLen q.frame = 4) (size : leNat (fPay q.frame) = o.size) (free : segOf s (fRole q.frame) = none) :
    Completes .segOpen s fun t => t.fmp.queue = r ∧ t.ans = answerOf s q 0 0 0 [] ∧
    segOf t (fRole q.frame) = some (writeBegun q o) ∧
    t.regs = s.regs ∧ SameMem s t := by
  have writes : (fByte q.frame 17 == 1) = true := by rw [dir]; rfl
  have fits : (fTcode q.frame == o.ty && fLen q.frame == 4 && (o.ty == 14 || leNat (fPay q.frame) == o.size)) = true := by
    rw [tcode, len, size, beq_self_eq_true, beq_self_eq_true]; simp
  have ok : chkWrite (fRole q.frame) o = 0 := chkWrite_ok role (by rw [acc]; decide) (by rw [acc]; decide)
  refine h.completes (exec_segOpen s) (t := setSeg s (fRole q.frame) (some (writeBegun q o))) (code := 0) (flags := 0) (tcode := 0) (pay := []) (by decide) ?_ h.queue
    fun u queue ans regs replied _ => ⟨queue, ans, (replied.seg _).trans (segOf_setSeg_some _ _ _), regs, sameMem_of_mem replied.mem⟩
  simp only [describe_obj name, writes, ok, fits, objMode_rw acc open_, free, if_true, firstCode_zero, firstCode_nil,
    Option.isSome_none, Bool.false_eq_true, ne_eq, not_true_eq_false, if_false]
  rw [size]; rfl

theorem segNamed_open (name : nameOf s.life (fIndex q.frame) (fSub q.frame) = .obj o) (role : o.role ≤ fRole q.frame)
    (opened : segOf s (fRole q.frame) = some g) (index : g.index = fIndex q.frame) (sub : g.sub = fSub q.frame) :
    segNamed s q.frame = (some g, 0) := by
  have high : ¬decide (fRole q.frame < o.role) = true := by rw [decide_eq_true_eq]; omega
  rw [segNamed, name]; dsimp only
  rw [if_neg high, opened]; exact if_pos ⟨index, sub⟩

section
variable (named_ : segNamed s q.frame = (some g, 0))
include named_

theorem segData_write (h : Head s q r 6) (write : g.write = true) (offset : fOffset q.frame = g.data.length)
    (fits : g.data.length + fLen q.frame ≤ g.size) : Completes .segData s fun t => t.fmp.queue = r ∧ t.ans = answerOf s q 0 0 0 [] ∧
    segOf t (fRole q.frame) = some { g with data := g.data ++ fPay q.frame } ∧ t.regs = s.regs ∧ SameMem s t := by
  refine h.completes (exec_segData s) (t := setSeg s (fRole q.frame) (some { g with data := g.data ++ fPay q.frame })) (code := 0) (flags := 0)
    (tcode := 0) (pay := []) (by decide) ?_ h.queue
    fun u queue ans regs replied _ => ⟨queue, ans, (replied.seg _).trans (segOf_setSeg_some _ _ _), regs, sameMem_of_mem replied.mem⟩
  simp only [named_, write, offset, if_neg (Nat.not_lt.mpr fits), if_true, ne_eq, not_true_eq_false, if_false]
  rfl

theorem segData_read (h : Head s q r 6) (read : g.write = false) (offset : fOffset q.frame = g.pos) (len : fLen q.frame = 0) :
    Completes .segData s fun t => t.fmp.queue = r ∧
    t.ans = answerOf s q 0 (if g.pos + 1024 < g.size then 2 else 0) (segTy s g) (slice g.data g.pos (Nat.min 1024 (g.size - g.pos))) ∧
    segOf t (fRole q.frame) = some { g with pos := g.pos + Nat.min 1024 (g.size - g.pos) } ∧ t.regs = s.regs ∧ SameMem s t := by
  have more : 2 * bit (decide (g.pos + Nat.min 1024 (g.size - g.pos) < g.size)) = if g.pos + 1024 < g.size then 2 else 0 := by
    have least : Nat.min 1024 (g.size - g.pos) = min 1024 (g.size - g.pos) := rfl
    rw [least]
    by_cases longer : g.pos + 1024 < g.size
    · rw [if_pos longer, decide_eq_true (by omega)]; rfl
    · rw [if_neg longer, decide_eq_false (by omega)]; rfl
  refine h.completes (exec_segData s) (t := setSeg s (fRole q.frame) (some { g with pos := g.pos + Nat.min 1024 (g.size - g.pos) })) (code := 0)
    (flags := if g.pos + 1024 < g.size then 2 else 0) (tcode := segTy s g) (pay := slice g.data g.pos (Nat.min 1024 (g.size - g.pos)))
    (by decide) ?_ h.queue
    fun u queue ans regs replied _ => ⟨queue, ans, (replied.seg _).trans (segOf_setSeg_some _ _ _), regs, sameMem_of_mem replied.mem⟩
  simp only [named_, read, offset, len, more, Bool.false_eq_true, ne_eq, not_true_eq_false, if_false]

theorem segData_misplaced (h : Head s q r 6) (offset : fOffset q.frame ≠ if g.write then g.data.length else g.pos) :
    Completes .segData s (Refused s q r 0x0A0B) := by
  refine h.refuses (exec_segData s) (by decide) ?_ (by decide)
  simp only [named_]
  cases write : g.write
  · rw [write] at offset
    simp only [Bool.false_eq_true, if_false, if_pos (show fOffset q.frame ≠ g.pos from offset)]
  · rw [write] at offset
    simp only [if_true, if_pos (show fOffset q.frame ≠ g.data.length from offset)]

section
variable (h : Head s q r 7) (write : g.write = true) (offset : fOffset q.frame = 0) (len : fLen q.frame = 0)
include h write offset len

theorem segClose_short (short : g.data.length ≠ g.size) : Completes .segClose s fun t => t.fmp.queue = r ∧ t.ans = answerOf s q 0x0A03 0 0 [] ∧
    segOf t (fRole q.frame) = none ∧ t.fmp.vals = s.fmp.vals ∧ SameRegs s t (· = Reg.FMP_ABORT_CNT) ∧ SameMem s t := by
  refine h.completes (exec_segClose s) (t := setSeg s (fRole q.frame) none) (code := 0x0A03) (flags := 0) (tcode := 0) (pay := []) (by decide)
    ?_ h.queue fun u queue ans regs replied _ => ⟨queue, ans, (replied.seg _).trans (segOf_setSeg_none _ _), replied.vals,
      (Head.regs_counted (s := setSeg s (fRole q.frame) none) regs).2, sameMem_of_mem replied.mem⟩
  simp only [named_, write, offset, len, if_pos short, Bool.not_true, Bool.false_eq_true, ne_eq, not_true_eq_false, if_false]
  rfl

theorem segClose_whole (name : nameOf s.life g.index g.sub = .obj o) (low : o.index < 0xA000) (role : o.role ≤ fRole q.frame)
    (whole : g.data.length = g.size) (acc : o.acc = .rw) (home : o.home = .kept) (open_ : s.shadowing = false) (off : jOn s = false)
    (busy : objBusy s o g.sub (leNat g.data) = 0) (range : objRange s o g.sub g.data = true) : Completes .segClose s fun t => t.fmp.queue = r ∧
    t.ans = answerOf s q 0 0 0 [] ∧ segOf t (fRole q.frame) = none ∧
    (t.fmp.vals.find? (fun e => e.1 == valKey o.index g.sub)).map (·.2) = some g.data ∧ t.regs = s.regs ∧ SameMem s t := by
  have ok : chkWrite (fRole q.frame) o = 0 := chkWrite_ok role (by rw [acc]; decide) (by rw [acc]; decide)
  have check := chkPut_ok (objMode_rw (sub := g.sub) acc open_) busy range
  have off' : jOn (keep s o.index g.sub g.data) = false := off
  refine h.completes (exec_segClose s) (t := setSeg (keep s o.index g.sub g.data) (fRole q.frame) none) (code := 0) (flags := 0) (tcode := 0)
    (pay := []) (by decide) ?_ h.queue fun u queue ans regs replied _ => ⟨queue, ans, (replied.seg _).trans (segOf_setSeg_none _ _), ?_, regs,
      sameMem_of_mem replied.mem⟩
  · simp only [named_, write, offset, len, whole, describe_obj name, ok, check, firstCode_zero, firstCode_nil,
      fmpPut_plain low off (objSet_kept home) off', Bool.not_true, Bool.false_eq_true, ne_eq, not_true_eq_false, if_false]
    rfl
  · rw [replied.vals]; exact vals_keep s o.index g.sub g.data

end

end

theorem segAbort_ends (h : Head s q r 8) : Completes .segAbort s fun t => t.fmp.queue = r ∧ t.ans = answerOf s q 0 0 0 [] ∧
    segOf t (fRole q.frame) = none ∧ t.fmp.vals = s.fmp.vals ∧ t.regs = s.regs ∧ SameMem s t :=
  h.completes (exec_segAbort s) (by decide) rfl h.queue
    fun _ queue ans regs replied _ => ⟨queue, ans, (replied.seg _).trans (segOf_setSeg_none _ _), replied.vals, regs, sameMem_of_mem replied.mem⟩

end

end

end Sys2Proof.Machine
end

section
/-! PROOFS. A statement of 15_object_dictionary.md: the management protocol (O55). -/

namespace Sys2Proof.Machine

/-! The persistent store (R436). -/

section
variable (s : State) (q : FmpReq) (x : Storing) (k : Nat)

theorem sectOf_setSect (j : Nat) (y : Sector) : sectOf (setSect s k y) j = if k = j then y else sectOf s j := sget_sput _ _ _ _ _

theorem sectOf_of_fmp {s t : State} (h : t.fmp = s.fmp) (k : Nat) : sectOf t k = sectOf s k := by rw [sectOf, h, sectOf]

/-- A sector replaced, and the last one written. -/
def sectPut (y : Sector) : State := (setSect s k y).setFmp { (setSect s k y).fmp with at_ := k }

theorem sectPut_spec (y : Sector) : (sectPut s k y).fmp.queue = s.fmp.queue ∧ (sectPut s k y).ans = s.ans ∧ (sectPut s k y).fmp.at_ = k ∧
    (sectPut s k y).fmp.vals = s.fmp.vals ∧ (sectPut s k y).regs = s.regs ∧ (sectPut s k y).mem = s.mem := ⟨rfl, rfl, rfl, rfl, rfl, rfl⟩

theorem sectOf_sectPut (j : Nat) (y : Sector) : sectOf (sectPut s k y) j = if k = j then y else sectOf s j := sectOf_setSect s k j y

/-- A sector taken and erased. -/
def sectTaken : State := sectPut s k { count := some (sectCount s k + 1) }

variable {s k} in
theorem sectTake_fresh (n : Nat) (fresh : (sectOf s k).retired = false) (unworn : sectCount s k < 100000) :
    sectTake (n + 1) s k = (sectTaken s k, some k) := by
  rw [sectTake, fresh, if_neg Bool.false_ne_true, if_neg (by omega)]; rfl

theorem sectOf_sectTaken (j : Nat) : sectOf (sectTaken s k) j = if k = j then { count := some (sectCount s k + 1) } else sectOf s j :=
  sectOf_sectPut s k j _

/-- A STORE noted as under way. -/
def storing : State := s.setFmp { s.fmp with store := some x }

theorem storing_spec : (fmpPop (storing s x)).fmp.queue = s.fmp.queue.tail ∧ (fmpPop (storing s x)).fmp.store = some x ∧
    (fmpPop (storing s x)).ans = s.ans ∧ (fmpPop (storing s x)).fmp.at_ = s.fmp.at_ ∧ (fmpPop (storing s x)).fmp.vals = s.fmp.vals ∧
    (fmpPop (storing s x)).regs = s.regs ∧ (fmpPop (storing s x)).mem = s.mem := ⟨rfl, rfl, rfl, rfl, rfl, rfl, rfl⟩

/-- A STORE begun in a sector. -/
def storeBegun : State := fmpPop (storing (sectTaken s k) { by_ := some q, vals := storeVals s, sector := k })

variable {s q} in
theorem storeBegin_fresh (fresh : (sectOf s ((s.fmp.at_ + 1) % 8)).retired = false) (unworn : sectCount s ((s.fmp.at_ + 1) % 8) < 100000) :
    storeBegin s q = (storeBegun s q ((s.fmp.at_ + 1) % 8), none) := by
  rw [storeBegin, sectTake_fresh 7 fresh unworn]; rfl

theorem storeBegun_spec : (storeBegun s q k).fmp.queue = s.fmp.queue.tail ∧ (storeBegun s q k).ans = s.ans ∧
    (storeBegun s q k).fmp.store = some { by_ := some q, vals := storeVals s, sector := k } ∧ (storeBegun s q k).fmp.at_ = k ∧
    (storeBegun s q k).fmp.vals = s.fmp.vals ∧ (storeBegun s q k).regs = s.regs ∧ (storeBegun s q k).mem = s.mem := by
  obtain ⟨queue, ans, place, vals, regs, mem⟩ := sectPut_spec s k { count := some (sectCount s k + 1) }
  obtain ⟨queue', store, ans', place', vals', regs', mem'⟩ := storing_spec (sectTaken s k) { by_ := some q, vals := storeVals s, sector := k }
  exact ⟨queue'.trans (congrArg List.tail queue), ans'.trans ans, store, place'.trans place, vals'.trans vals, regs'.trans regs, mem'.trans mem⟩

theorem sectOf_storeBegun : sectOf (storeBegun s q k) k = { count := some (sectCount s k + 1) } :=
  (sectOf_sectTaken s k k).trans (if_pos rfl)

/-- What a reply to a STORE's end keeps. -/
theorem replied_storeEnd (code : Nat) : Replied (storeAbort (s.setFmp { s.fmp with store := none }) code) (storeEnd s x code) := by
  unfold storeEnd; dsimp only; split
  · exact replied_fmpReply _ _ _ _ _ _ _
  · exact .refl _

theorem fKey_of_sec {s t : State} (h : t.sec = s.sec) (r : Nat) : fKey t r = fKey s r := by rw [fKey, h, fKey]

/-- The state of an image committed in the sector of its STORE. -/
def imageDone : State :=
  ((setSect s x.sector { sectOf s x.sector with image := some ((s.regN Reg.FMP_STORE_GEN + 1) % 2 ^ 32, x.vals) }).setRegN Reg.FMP_STORE_GEN
    ((s.regN Reg.FMP_STORE_GEN + 1) % 2 ^ 32)).raise blkSvc 25

theorem fmp_imageDone : (imageDone s x).fmp =
    (setSect s x.sector { sectOf s x.sector with image := some ((s.regN Reg.FMP_STORE_GEN + 1) % 2 ^ 32, x.vals) }).fmp := by
  rw [imageDone, State.raise_fmp, State.setRegN_fmp]

end

section
variable {s : State} {x : Storing} {q : FmpReq}

theorem exec_storeDone_good (store : s.fmp.store = some x) : exec (.storeDone true) s = .next (storeEnd (imageDone s x) x 0) := by
  rw [exec_storeDone, execStoreDone, store]; rfl

theorem exec_storeDone_again (store : s.fmp.store = some x) (again : x.again = true) :
    exec (.storeDone false) s = .next (storeEnd ((sectRetire s x.sector).raise blkSvc 26) x 0x0B01) := by
  rw [exec_storeDone, execStoreDone, store]; dsimp only
  rw [if_neg Bool.false_ne_true, if_pos again]

theorem storeDone_commits (store : s.fmp.store = some x) (by_ : x.by_ = some q) (wire : q.via ≠ 2) : Completes (.storeDone true) s fun t =>
    t.fmp.store = none ∧ t.fmp.abort = 0 ∧ t.regN Reg.FMP_STORE_GEN = (s.regN Reg.FMP_STORE_GEN + 1) % 2 ^ 32 ∧
    (sectOf t x.sector).image = some ((s.regN Reg.FMP_STORE_GEN + 1) % 2 ^ 32, x.vals) ∧ Raised t blkSvc 25 ∧
    t.ans = answerOf s q 0 0 0 [] ∧ SameMem s t := by
  obtain ⟨u, isU⟩ := named (imageDone s x)
  have fmp := isU ▸ fmp_imageDone s x
  have gen : u.regN Reg.FMP_STORE_GEN = (s.regN Reg.FMP_STORE_GEN + 1) % 2 ^ 32 := by
    rw [← isU, imageDone, regN_of_reg (reg_raise_lt _ (by decide)), regN_setRegN, if_pos rfl, Nat.mod_mod]
  have event : Raised u blkSvc 25 := isU ▸ raised_raise _ (by decide)
  have mem : u.mem = s.mem := by rw [← isU, imageDone, State.raise_mem, State.setRegN_mem]; rfl
  have sec : u.sec = s.sec := by rw [← isU, imageDone, State.raise_sec, State.setRegN_sec]; rfl
  have image : (sectOf u x.sector).image = some ((s.regN Reg.FMP_STORE_GEN + 1) % 2 ^ 32, x.vals) := by
    have same : sectOf u x.sector = sectOf (setSect s x.sector
        { sectOf s x.sector with image := some ((s.regN Reg.FMP_STORE_GEN + 1) % 2 ^ 32, x.vals) }) x.sector := sectOf_of_fmp fmp _
    rw [same, sectOf_setSect, if_pos rfl]
  have replied := replied_storeEnd u x 0
  have run : storeEnd u x 0 = fmpReply (storeAbort (u.setFmp { u.fmp with store := none }) 0) q (fKey s (fRole q.frame)) 0 0 0 [] := by
    rw [storeEnd, by_, ← fKey_of_sec sec]; rfl
  have ans := (fmpReply_wire (storeAbort (u.setFmp { u.fmp with store := none }) 0) q 0 wire (fKey s (fRole q.frame)) 0 0 []).1
  refine ⟨_, (exec_storeDone_good store).trans (by rw [isU]), replied.store, replied.abort, ?_, ?_, replied.stands 25 event, ?_,
    sameMem_of_mem (replied.mem.trans mem)⟩
  · rw [regN_of_reg (replied.regs _ (by unfold evtOf; decide))]; exact gen
  · rw [replied.sect]; exact image
  · rw [run]; exact ans

/-- A retired sector, and the others as they were. -/
theorem sectOf_sectRetire (s : State) (k j : Nat) : sectOf (sectRetire s k) j =
    if k = j then { sectOf s k with retired := true, image := none } else sectOf s j := by
  have same : sectOf (sectRetire s k) j = sectOf (setSect s k { sectOf s k with retired := true, image := none }) j := by
    exact sectOf_of_fmp (by rw [sectRetire, State.raise_fmp]) j
  rw [same, sectOf_setSect]

theorem raised_sectRetire (s : State) (k : Nat) : Raised (sectRetire s k) blkSvc 27 := raised_raise _ (by decide)
theorem mem_sectRetire (s : State) (k : Nat) : (sectRetire s k).mem = s.mem := by rw [sectRetire, State.raise_mem]; rfl
theorem ans_sectRetire (s : State) (k : Nat) : (sectRetire s k).ans = s.ans := by rw [sectRetire, State.raise_ans]; rfl
theorem reg_sectRetire (s : State) (k : Nat) {a : Nat} (below : a < evtStatus blkSvc) : (sectRetire s k).reg a = s.reg a := by
  rw [sectRetire, reg_raise_lt _ below]; rfl

theorem storeDone_fails (store : s.fmp.store = some x) (again : x.again = true) : Completes (.storeDone false) s fun t => t.fmp.store = none ∧
    t.fmp.abort = 0x0B01 ∧ (sectOf t x.sector).retired = true ∧ (sectOf t x.sector).image = none ∧ Raised t blkSvc 26 ∧ Raised t blkSvc 27 ∧
    t.regN Reg.FMP_STORE_GEN = s.regN Reg.FMP_STORE_GEN ∧ SameMem s t := by
  obtain ⟨u, isU⟩ := named ((sectRetire s x.sector).raise blkSvc 26)
  have retry : Raised u blkSvc 27 := isU ▸ (raised_sectRetire s x.sector).raise blkSvc (by decide)
  have event : Raised u blkSvc 26 := isU ▸ raised_raise _ (by decide)
  have sect : sectOf u x.sector = { sectOf s x.sector with retired := true, image := none } := by
    have same : sectOf u x.sector = sectOf (sectRetire s x.sector) x.sector := sectOf_of_fmp (by rw [← isU, State.raise_fmp]) _
    rw [same, sectOf_sectRetire, if_pos rfl]
  have gen : u.reg Reg.FMP_STORE_GEN = s.reg Reg.FMP_STORE_GEN := by
    rw [← isU, reg_raise_lt _ (by decide)]; exact reg_sectRetire s x.sector (by decide)
  have mem : u.mem = s.mem := by rw [← isU, State.raise_mem, mem_sectRetire]
  have replied := replied_storeEnd u x 0x0B01
  have kept : sectOf (storeAbort (u.setFmp { u.fmp with store := none }) 0x0B01) x.sector = sectOf u x.sector := rfl
  refine ⟨_, (exec_storeDone_again store again).trans (by rw [isU]), replied.store, replied.abort, ?_, ?_, replied.stands 26 event,
    replied.stands 27 retry, regN_of_reg ((replied.regs _ (by unfold evtOf; decide)).trans gen), sameMem_of_mem (replied.mem.trans mem)⟩
  · rw [replied.sect, kept, sect]
  · rw [replied.sect, kept, sect]

theorem storeDone_retries (store : s.fmp.store = some x) (first : x.again = false) (fresh : (sectOf s ((x.sector + 1) % 8)).retired = false)
    (unworn : sectCount s ((x.sector + 1) % 8) < 100000)
    (header : ((sectOf s ((x.sector + 1) % 8)).count).isSome = true) : Completes (.storeDone false) s fun t =>
    t.fmp.store = some { x with sector := (x.sector + 1) % 8, again := true } ∧ (sectOf t x.sector).retired = true ∧ Raised t blkSvc 27 ∧
    t.ans = s.ans ∧ SameMem s t := by
  have other : x.sector ≠ (x.sector + 1) % 8 := by omega
  obtain ⟨k, isK⟩ := named ((x.sector + 1) % 8)
  rw [isK] at fresh unworn header other ⊢
  obtain ⟨u, isU⟩ := named (sectRetire s x.sector)
  have sect : sectOf u k = sectOf s k := by rw [← isU, sectOf_sectRetire, if_neg other]
  have count : sectCount u k = sectCount s k := by
    obtain ⟨c, hc⟩ := Option.isSome_iff_exists.mp header
    rw [sectCount, sectCount, sect, hc, Option.getD_some, Option.getD_some]
  have take := sectTake_fresh 7 (by rw [sect]; exact fresh) (by rw [count]; exact unworn)
  have run : exec (.storeDone false) s = .next (storing (sectTaken u k) { x with sector := k, again := true }) := by
    rw [exec_storeDone, execStoreDone, store]; dsimp only
    rw [if_neg Bool.false_ne_true, first, if_neg Bool.false_ne_true, isU, isK, take]; rfl
  have retired : (sectOf (sectTaken u k) x.sector).retired = true := by
    rw [sectOf_sectTaken, if_neg other.symm, ← isU, sectOf_sectRetire, if_pos rfl]
  have event : Raised u blkSvc 27 := isU ▸ raised_sectRetire s x.sector
  have mem : u.mem = s.mem := isU ▸ mem_sectRetire s x.sector
  have ans : u.ans = s.ans := isU ▸ ans_sectRetire s x.sector
  obtain ⟨v, isV⟩ := named (sectTaken u k)
  obtain ⟨-, ans', -, -, regs', mem'⟩ := sectPut_spec u k { count := some (sectCount u k + 1) }
  have event' : Raised (sectTaken u k) blkSvc 27 := raised_of_regs regs' event
  have ans'' : (sectTaken u k).ans = s.ans := ans'.trans ans
  have mem'' : (sectTaken u k).mem = s.mem := mem'.trans mem
  rw [isV] at run retired event' ans'' mem''
  exact ⟨_, run, rfl, retired, event', ans'', sameMem_of_mem mem''⟩

theorem exec_storeDone_idle {good : Bool} (idle : s.fmp.store = none) : exec (.storeDone good) s = .next s := by
  rw [exec_storeDone, execStoreDone, idle]

variable {r : List FmpReq}

theorem store_begins (h : Head s q r 0x10) (role : 2 ≤ fRole q.frame) (len : fLen q.frame = 0) (idle : s.fmp.store = none)
    (fresh : (sectOf s ((s.fmp.at_ + 1) % 8)).retired = false) (unworn : sectCount s ((s.fmp.at_ + 1) % 8) < 100000) :
    Completes .store s fun t => t.fmp.queue = r ∧ t.ans = s.ans ∧
    t.fmp.store = some { by_ := some q, vals := storeVals s, sector := (s.fmp.at_ + 1) % 8 } ∧
    (sectOf t ((s.fmp.at_ + 1) % 8)).count = some (sectCount s ((s.fmp.at_ + 1) % 8) + 1) ∧ (sectOf t ((s.fmp.at_ + 1) % 8)).image = none ∧
    t.fmp.at_ = (s.fmp.at_ + 1) % 8 ∧ t.regs = s.regs ∧ SameMem s t := by
  have begins := storeBegin_fresh (q := q) fresh unworn
  have run : exec .store s = .next (storeBegun s q ((s.fmp.at_ + 1) % 8)) := by
    refine (exec_store s).trans (congrArg Host.Outcome.next (h.row_waits (by decide) ?_))
    simp only [if_neg (Nat.not_lt.mpr role), len, idle, Option.isSome_none, Bool.false_eq_true, if_true, if_false, firstCode_zero, firstCode_nil,
      ne_eq, not_true_eq_false, begins]
  obtain ⟨queue, ans, store, place, -, regs, mem⟩ := storeBegun_spec s q ((s.fmp.at_ + 1) % 8)
  refine ⟨_, run, queue.trans (congrArg List.tail h.queue), ans, store, ?_, ?_, place, regs, sameMem_of_mem mem⟩
  · rw [sectOf_storeBegun]
  · rw [sectOf_storeBegun]

theorem store_below (h : Head s q r 0x10) (role : fRole q.frame < 2) : Completes .store s (Refused s q r 0x0A07) := by
  have code (l : List Nat) : firstCode (0x0A07 :: l) = 0x0A07 := firstCode_ne l (by decide)
  exact h.refuses (exec_store s) (by decide) (by simp only [if_pos role, code]; rfl) (by decide)

theorem store_busy (h : Head s q r 0x10) (role : 2 ≤ fRole q.frame) (len : fLen q.frame = 0) (busy : s.fmp.store.isSome = true) :
    Completes .store s (Refused s q r 0x0A08) := by
  have code : firstCode [0x0A08] = 0x0A08 := rfl
  exact h.refuses (exec_store s) (by decide)
    (by simp only [if_neg (Nat.not_lt.mpr role), len, busy, if_true, firstCode_zero, code]; rfl) (by decide)

/-! RESTORE_DEFAULTS (R427). -/

theorem restoreDefaults_below (h : Head s q r 0x11) (role : fRole q.frame < 3) : Completes .restoreDefaults s (Refused s q r 0x0A07) := by
  have code (l : List Nat) : firstCode (0x0A07 :: l) = 0x0A07 := firstCode_ne l (by decide)
  exact h.refuses (exec_restoreDefaults s) (by decide) (by simp only [if_pos role, code]; rfl) (by decide)

theorem restoreDefaults_mode (h : Head s q r 0x11) (role : fRole q.frame = 3) (len : fLen q.frame = 0) (mode : modeIn s 0x14 = false) :
    Completes .restoreDefaults s (Refused s q r 0x0A06) := by
  have code (l : List Nat) : firstCode (0x0A06 :: l) = 0x0A06 := firstCode_ne l (by decide)
  exact h.refuses (exec_restoreDefaults s) (by decide)
    (by simp only [role, len, mode, Nat.lt_irrefl, Bool.false_eq_true, if_true, if_false, firstCode_zero, code]; rfl) (by decide)

theorem restoreDefaults_begins (h : Head s q r 0x11) (role : fRole q.frame = 3) (len : fLen q.frame = 0) (mode : modeIn s 0x14 = true)
    (idle : s.fmp.store = none) (off : jOn s = false) {u : State} (isU : toDefaults s = u) : Completes .restoreDefaults s fun t =>
    (u.fmp.queue = q :: r → (sectOf u ((u.fmp.at_ + 1) % 8)).retired = false → sectCount u ((u.fmp.at_ + 1) % 8) < 100000 →
    t.fmp.queue = r ∧ t.fmp.store = some { by_ := some q, vals := storeVals u, sector := (u.fmp.at_ + 1) % 8 } ∧
    t.fmp.vals = u.fmp.vals ∧ t.regs = u.regs ∧ t.mem = u.mem) := by
  have free : jBlocked s 64 = false := by rw [jBlocked, off]; rfl
  obtain ⟨f, run⟩ : ∃ f, exec .restoreDefaults s = .next (fmpRow s 0x11 f) ∧ f s q = storeBegin u q := by
    refine ⟨_, exec_restoreDefaults s, ?_⟩
    simp only [role, len, mode, idle, free, isU, Nat.lt_irrefl, Option.isSome_none, Bool.false_eq_true, if_true, if_false,
      firstCode_zero, firstCode_nil, ne_eq, not_true_eq_false]
  obtain ⟨run, begins⟩ := run
  refine ⟨_, run, fun queue fresh unworn => ?_⟩
  rw [h.row_waits (by decide) (begins.trans (storeBegin_fresh fresh unworn))]
  obtain ⟨rest, -, store, -, vals, regs, mem⟩ := storeBegun_spec u q ((u.fmp.at_ + 1) % 8)
  exact ⟨rest.trans (congrArg List.tail queue), store, vals, regs, mem⟩

/-! EPOCH (R429). -/

theorem drawBytes_fst : ∀ (n : Nat) (s : State), (drawBytes n s).1 = { s with freeCtr := s.freeCtr + n }
  | 0, s => rfl
  | n + 1, s => by
    rw [drawBytes]; dsimp only
    rw [drawBytes_fst n s.took, State.took, Nat.add_assoc, Nat.add_comm 1 n]

theorem epoch_spec (s : State) (r : Nat) : (fmpRole (epoch s r) r).last = 0 ∧ segOf (epoch s r) r = none ∧
    (epoch s r).freeCtr = s.freeCtr + 8 ∧ (∀ k, k ≠ r → fmpRole (epoch s r) k = fmpRole s k) ∧ (epoch s r).regs = s.regs ∧
    (epoch s r).mem = s.mem ∧ (epoch s r).fmp.queue = s.fmp.queue := by
  obtain ⟨⟨u, b⟩, drawn⟩ := named (drawBytes 8 s)
  have isU : u = { s with freeCtr := s.freeCtr + 8 } := by rw [← drawBytes_fst 8 s, drawn]
  have regs : u.regs = s.regs := by rw [isU]
  have mem : u.mem = s.mem := by rw [isU]
  have step : epoch s r = setSeg (setFmpRole u r { nonce := leNat b }) r none := by rw [epoch, drawn]
  have role (k : Nat) : fmpRole (epoch s r) k = if r = k then { nonce := leNat b } else fmpRole u k := by
    rw [step]; exact fmpRole_setFmpRole u r k _
  refine ⟨by rw [role, if_pos rfl], by rw [step]; exact segOf_setSeg_none _ _, ?_, fun k hk => ?_, ?_, ?_, ?_⟩
  · rw [step]; exact (congrArg State.freeCtr isU : u.freeCtr = s.freeCtr + 8)
  · rw [role, if_neg (Ne.symm hk), isU]; rfl
  · rw [step]; exact regs
  · rw [step]; exact mem
  · rw [step]; exact (congrArg (fun v => v.fmp.queue) isU : u.fmp.queue = s.fmp.queue)

theorem epoch_drawn (h : Head s q r 0x12) (len : fLen q.frame = 0) (trng : s.trngOk = true) : Completes .epoch s fun t => t.fmp.queue = r ∧
    (fmpRole t (fRole q.frame)).last = 0 ∧ segOf t (fRole q.frame) = none ∧ t.freeCtr = s.freeCtr + 8 ∧
    t.ans = answerOf s q 0 0 0 (leBytes 8 (fmpRole t (fRole q.frame)).nonce) ∧ (∀ k, k ≠ fRole q.frame → fmpRole t k = fmpRole s k) ∧
    t.regs = s.regs ∧ SameMem s t := by
  obtain ⟨last, seg, ctr, roles, regs, mem, queue⟩ := epoch_spec s (fRole q.frame)
  obtain ⟨u, isU⟩ := named (epoch s (fRole q.frame))
  rw [isU] at last seg ctr roles regs mem queue
  refine h.completes (exec_epoch s) (t := u) (code := 0) (flags := 0) (tcode := 0) (pay := leBytes 8 (fmpRole u (fRole q.frame)).nonce) (by decide)
    ?_ (queue.trans h.queue) fun t rest ans regs' replied roles' => ⟨rest, ?_, ?_, replied.freeCtr.trans ctr, ?_,
      fun k hk => (roles' k hk).trans (roles k hk), regs'.trans regs, sameMem_of_mem (replied.mem.trans mem)⟩
  · simp only [len, trng, isU, ne_eq, not_true_eq_false, Bool.not_true, Bool.false_eq_true, if_false]
  · exact (replied.last _).trans last
  · exact (replied.seg _).trans seg
  · rw [ans, replied.nonce]; rfl

end

/-! A written register: HO_LIMIT by its object 0x2101 (Table ODP-6). -/

/-- The object of HO_LIMIT. -/
def hoLimitObj : Obj := ⟨0x2101, 0, 0, 0, 4, 4, .rw, 3, 0x872b0, true, false, .fld Reg.HO_LIMIT 0x0 31 0⟩

theorem nameOf_hoLimit (life : Nat) : nameOf life 0x2101 0 = .obj hoLimitObj := by
  unfold nameOf
  rw [if_neg (by decide), if_neg (by decide), if_neg (by decide)]
  decide +kernel

/-- The register's row in its block's map. -/
def hoLimitRow : RegRow := ⟨"HO_LIMIT", 0x10000C, [], 1, .rw, 0x000872B0, 0xFFFFFFFF, 0xFFFF⟩

theorem regRow_hoLimit : regRow Reg.HO_LIMIT = some (hoLimitRow, 0) := by decide +kernel

theorem land_word {v : Nat} (hv : v < 2 ^ 32) : Nat.land v 0xFFFFFFFF = v :=
  (Nat.and_two_pow_sub_one_eq_mod v 32).trans (Nat.mod_eq_of_lt hv)

theorem regAct_hoLimit (s : State) (m w : Nat) : regAct s 436 Reg.HO_LIMIT m w = none := rfl

theorem regPut_hoLimit (s : State) {v : Nat} (hv : v < 2 ^ 32) : regPut s 436 Reg.HO_LIMIT v hoLimitRow = s.setRegN Reg.HO_LIMIT v := by
  have word : s.regN Reg.HO_LIMIT < 2 ^ 32 := (s.reg Reg.HO_LIMIT).isLt
  have cleared : s.regN Reg.HO_LIMIT - Nat.land (s.regN Reg.HO_LIMIT) 0xFFFFFFFF + Nat.land v 0xFFFFFFFF = v := by
    rw [land_word word, land_word hv]; omega
  unfold regPut; dsimp only
  rw [regAct_hoLimit]
  exact congrArg (s.setRegN Reg.HO_LIMIT) cleared

/-- A register that is not read-only is put as its row says. -/
theorem regPoke_of_row {s : State} {a w v : Nat} {row : RegRow} (lies : regRow a = some (row, w)) (acc : row.acc ≠ .ro) :
    regPoke s a v = regPut s 436 a v row := by
  unfold regPoke; rw [lies]; exact if_neg acc

theorem regPoke_hoLimit (s : State) {v : Nat} (hv : v < 2 ^ 32) : regPoke s Reg.HO_LIMIT v = s.setRegN Reg.HO_LIMIT v :=
  (regPoke_of_row regRow_hoLimit (by decide)).trans (regPut_hoLimit s hv)

theorem putBits_word {x v : Nat} (hx : x < 2 ^ 32) (hv : v < 2 ^ 32) : putBits x 31 0 v = v := by
  have whole : bitsOf x 31 0 = x := by rw [bitsOf, Nat.pow_zero, Nat.div_one]; exact Nat.mod_eq_of_lt hx
  rw [putBits, whole, Nat.pow_zero, Nat.mul_one, Nat.mul_one, Nat.mod_eq_of_lt (by simpa using hv)]; omega

theorem objSet_hoLimit (s : State) {v : List Byte} (hv : leNat v < 2 ^ 32) :
    objSet s hoLimitObj 0 v = (s.setRegN Reg.HO_LIMIT (leNat v), 0) := by
  have poke : pokeFld s Reg.HO_LIMIT 31 0 (leNat v) = s.setRegN Reg.HO_LIMIT (leNat v) := by
    rw [pokeFld, putBits_word (show s.regN Reg.HO_LIMIT < 2 ^ 32 from (s.reg Reg.HO_LIMIT).isLt) hv, regPoke_hoLimit s hv]
  exact congrArg (·, 0) poke

theorem write_hoLimit {s : State} {q : FmpReq} {r : List FmpReq} (h : Head s q r 2) (v : BitVec 32) (index : fIndex q.frame = 0x2101)
    (sub : fSub q.frame = 0) (tcode : fTcode q.frame = 4) (role : fRole q.frame = 3) (len : fLen q.frame = 4)
    (pay : fPay q.frame = leBytes 4 v.toNat) (off : jOn s = false) (open_ : s.shadowing = false) : Completes .write s fun t =>
    t.fmp.queue = r ∧ t.ans = answerOf s q 0 0 0 [] ∧ t.regN Reg.HO_LIMIT = v.toNat ∧ SameRegs s t (· = Reg.HO_LIMIT) ∧ SameMem s t := by
  have value : leNat (fPay q.frame) = v.toNat := by rw [pay, leNat_leBytes_word]
  have name : nameOf s.life (fIndex q.frame) (fSub q.frame) = .obj hoLimitObj := by rw [index, sub, nameOf_hoLimit]
  obtain ⟨u, isU⟩ := named (s.setRegN Reg.HO_LIMIT v.toNat)
  have put : objSet s hoLimitObj (fSub q.frame) (fPay q.frame) = (u, 0) := by
    rw [sub, objSet_hoLimit s (value ▸ v.isLt), value, isU]
  have limit : u.regN Reg.HO_LIMIT = v.toNat := by rw [← isU, regN_setRegN, if_pos rfl, Nat.mod_eq_of_lt v.isLt]
  have same : SameRegs s u (· = Reg.HO_LIMIT) := isU ▸ (SameRegs.refl s (· = Reg.HO_LIMIT)).setRegN rfl _
  have only : OnlyRegs s u := isU ▸ (OnlyRegs.refl s).setRegN _ _
  have stat := same Reg.RELAY_STAT (by decide)
  have off' : jOn u = false := by
    have role := fld_of_reg 1 0 stat
    have sync := fld_of_reg 3 2 stat
    unfold jOn State.role State.sync at off ⊢; rw [role, sync]; exact off
  have fmp : u.fmp = s.fmp := by obtain ⟨w, rfl⟩ := only; rfl
  have check : chkPut s hoLimitObj (fSub q.frame) (fPay q.frame) = 0 := by
    rw [sub]; exact chkPut_ok (objMode_rw rfl open_) rfl rfl
  refine write_put h name (le_of_eq role.symm) (by decide) (by decide) tcode len (by decide) (by decide) (by decide) off check (by decide) put off'
    (by rw [fmp]; exact h.queue) fun t queue ans regs replied => ⟨queue, ans, ?_, fun a ha => ?_, sameMem_of_mem (replied.mem.trans only.mem)⟩
  · rw [regN_of_reg (sameRegs_of_regs regs (fun _ => False) _ id), limit]
  · rw [sameRegs_of_regs regs (fun _ => False) a id]; exact same a ha

theorem write_kept {s : State} {q : FmpReq} {r : List FmpReq} {o : Obj} (h : Head s q r 2)
    (name : nameOf s.life (fIndex q.frame) (fSub q.frame) = .obj o) (low : o.index < 0xA000) (role : o.role ≤ fRole q.frame)
    (tcode : fTcode q.frame = o.ty) (size : fLen q.frame = o.size) (ty : o.ty ≠ 14) (fits : o.size ≤ 1024) (acc : o.acc = .rw)
    (open_ : s.shadowing = false) (off : jOn s = false) (home : o.home = .kept)
    (busy : objBusy s o (fSub q.frame) (leNat (fPay q.frame)) = 0) (range : objRange s o (fSub q.frame) (fPay q.frame) = true)
    (other : o.index ≠ 0x9020) : Completes .write s fun t => t.fmp.queue = r ∧ t.ans = answerOf s q 0 0 0 [] ∧
    (t.fmp.vals.find? (fun e => e.1 == valKey o.index (fSub q.frame))).map (·.2) = some (fPay q.frame) ∧ t.regs = s.regs ∧ SameMem s t := by
  have off' : jOn (keep s o.index (fSub q.frame) (fPay q.frame)) = false := off
  refine write_put h name role (by rw [acc]; decide) (by rw [acc]; decide) tcode size ty fits low off
    (chkPut_ok (objMode_rw acc open_) busy range) other (objSet_kept home) off' h.queue
    fun t queue ans regs replied => ⟨queue, ans, ?_, regs, sameMem_of_mem replied.mem⟩
  rw [replied.vals]; exact vals_keep s o.index (fSub q.frame) (fPay q.frame)

/-! The management port's other protocols, and MGMT_SPI (R425, R441). -/

section
variable {s : State} {ip : BitVec 32}

theorem forMgmt_own (serves : fmpServes s = true) (on : s.flag Reg.FMP_CTL 0 = true) (addr : valN s 0x1011 2 0 = ip.toNat) (some_ : ip ≠ 0) :
    forMgmt s ip = true := by
  have nonzero : ip.toNat ≠ 0 := fun h => some_ (BitVec.eq_of_toNat_eq h)
  rw [forMgmt, fmpOn, serves, on, addr, bne_iff_ne.mpr nonzero, beq_self_eq_true]; rfl

theorem forMgmt_other (other : fmpServes s = false ∨ s.flag Reg.FMP_CTL 0 = false ∨ valN s 0x1011 2 0 ≠ ip.toNat ∨ ip = 0) :
    forMgmt s ip = false := by
  rw [forMgmt, fmpOn]
  rcases other with serves | on | addr | rfl
  · rw [serves]; rfl
  · rw [on, Bool.false_and, Bool.and_false]; rfl
  · rw [beq_eq_false_iff_ne.mpr addr, Bool.and_false]
  · by_cases zero : valN s 0x1011 2 0 = 0
    · rw [zero]; simp
    · have differs : (valN s 0x1011 2 0 == (0 : BitVec 32).toNat) = false := beq_eq_false_iff_ne.mpr zero
      rw [differs, Bool.and_false]

theorem exec_mgmtSpiStatus_on (on : spiOn s = true) : exec .mgmtSpiStatus s = .next ((s.setFmp { s.fmp with ovf := false }).answer 8212 0
    [(if s.fmp.spi = [] then 0 else 1) + (if s.fmp.spiRx = none then 0 else 2) + (if s.fmp.ovf then 4 else 0)]) := by
  have held : bit (!s.fmp.spi.isEmpty) = if s.fmp.spi = [] then 0 else 1 := by cases s.fmp.spi <;> rfl
  have rx : 2 * bit s.fmp.spiRx.isSome = if s.fmp.spiRx = none then 0 else 2 := by cases s.fmp.spiRx <;> rfl
  have ovf : 4 * bit s.fmp.ovf = if s.fmp.ovf then 4 else 0 := by cases s.fmp.ovf <;> rfl
  rw [exec_mgmtSpiStatus, execMgmtSpiStatus, on, Bool.not_true, if_neg Bool.false_ne_true]; dsimp only
  rw [held, rx, ovf]; rfl

theorem exec_mgmtSpiRead_held {f : List Byte} {l : List (List Byte)} (on : spiOn s = true) (held : s.fmp.spi = f :: l) :
    exec .mgmtSpiRead s = .next ((s.setFmp { s.fmp with spi := l }).answer 8212 0 ((leBytes 2 f.length ++ f).map (·.toNat))) := by
  rw [exec_mgmtSpiRead, execMgmtSpiRead, on, Bool.not_true, if_neg Bool.false_ne_true]; dsimp only
  rw [held]; rfl

variable {frame : List Byte}

theorem exec_mgmtSpiWrite_free (on : spiOn s = true) (free : s.fmp.spiRx = none) :
    exec (.mgmtSpiWrite frame) s = .next (s.setFmp { s.fmp with spiRx := some frame }) := by
  rw [exec_mgmtSpiWrite, execMgmtSpiWrite, on, free]; rfl

theorem exec_mgmtSpiWrite_full (on : spiOn s = true) (full : s.fmp.spiRx.isSome = true) :
    exec (.mgmtSpiWrite frame) s = .next (s.setFmp { s.fmp with ovf := true }) := by
  rw [exec_mgmtSpiWrite, execMgmtSpiWrite, on, full]; rfl

end

/-- Settles O55: a frame is received or dropped by its form, the queue and its tag; each row answers the request at the head by the first
check that fails, or with its effect; the store takes the next sector that is neither retired nor worn. -/
theorem managementProtocol : Obligations.ManagementProtocol := by
  unfold Obligations.ManagementProtocol
  refine ⟨?_, ?_, ?_, ?_, ?_, ?_, ?_, ?_, ?_, ?_, ?_, ?_, ?_, ?_, ?_, ?_, ?_, ?_, ?_, ?_, ?_, ?_, ?_, ?_, ?_, ?_, ?_, ?_, ?_, ?_, ?_, ?_, ?_, ?_, ?_, ?_, ?_,
    ?_, ?_, ?_, ?_, ?_, ?_, ?_, ?_, ?_⟩
  case refine_1 => exact fun s via peer frame off => ⟨_, exec_fmpFrameRx_off off, rfl⟩
  case refine_2 =>
    intro s via peer frame fw on wire form
    exact ⟨_, (exec_fmpFrameRx_wire fw on wire).trans (congrArg _ (fmpReceive_malformed form)), fmpDrop_spec s⟩
  case refine_3 =>
    intro s via peer frame fw on wire form whole full
    obtain ⟨count, -, fmp, ans, -, mem⟩ := fmpDrop_spec s
    exact ⟨_, (exec_fmpFrameRx_wire fw on wire).trans (congrArg _ (fmpReceive_full form whole full)), count, fmp, ans, mem⟩
  case refine_4 =>
    intro s via peer frame fw on wire form whole empty _ role cmd
    exact ⟨_, (exec_fmpFrameRx_wire fw on wire).trans (congrArg _ (fmpReceive_hello form whole empty role cmd)), rfl⟩
  case refine_5 =>
    intro s via peer frame fw on wire form whole empty known least most fails new
    have run := exec_fmpFrameRx_wire (peer := peer) (frame := frame) fw on wire
    cases auth : fmpAuth s frame with
    | true =>
      obtain ⟨queue, last, nonce, count, same, mem⟩ := received_spec s ⟨via.val, peer.toNat, frame⟩
      have received := fmpReceive_authentic (v := via.val) (p := peer.toNat) form whole empty known least most auth
      exact ⟨_, run.trans (congrArg _ received), fun _ => ⟨queue, last, nonce, count, same⟩, nofun, mem⟩
    | false =>
      have refused := fmpReceive_unauthentic (v := via.val) (p := peer.toNat) form whole empty least most new auth fails
      obtain ⟨queue, roles, ans, count, event, mem⟩ := refusal_spec s wire _ refused
      exact ⟨_, run, nofun, fun _ => ⟨queue.trans empty, roles, ans, count, event⟩, mem⟩
  case refine_6 =>
    intro s f peer frame fw on held empty form whole role cmd
    exact ⟨_, (exec_fmpFrameRx_spi fw on held).trans (congrArg _ (fmpReceive_hello form whole empty role cmd)), rfl⟩
  case refine_7 => exact fun s q r queue serves idle cmd wire => hello_answered ⟨queue, serves, idle, cmd, wire⟩
  case refine_8 =>
    exact fun s q r o queue serves idle cmd wire name low role acc len tcode ty size =>
      read_value ⟨queue, serves, idle, cmd, wire⟩ name low role acc len tcode ty size
  case refine_9 => exact fun s q r c queue serves idle cmd wire name bad => read_unnamed ⟨queue, serves, idle, cmd, wire⟩ name bad
  case refine_10 => exact fun s q r o queue serves idle cmd wire name _ role => read_below ⟨queue, serves, idle, cmd, wire⟩ name role
  case refine_11 =>
    exact fun s q r o queue serves idle cmd wire name _ role wo => read_writeOnly ⟨queue, serves, idle, cmd, wire⟩ name role wo
  case refine_12 =>
    exact fun s q r queue serves idle cmd wire name new free unserved =>
      read_unserved ⟨queue, serves, idle, cmd, wire⟩ name new free unserved
  case refine_13 =>
    exact fun s q r o queue serves idle cmd wire name low role _ _ tcode size ty fits acc opened off _ _ home busy range other =>
      write_kept ⟨queue, serves, idle, cmd, wire⟩ name low role tcode size ty fits acc opened off home busy range other
  case refine_14 =>
    exact fun s q r v queue serves idle cmd wire index sub tcode role len pay off opened _ =>
      write_hoLimit ⟨queue, serves, idle, cmd, wire⟩ v index sub tcode role len pay off opened
  case refine_15 =>
    exact fun s q r o queue serves idle cmd wire name _ role ro => write_readOnly ⟨queue, serves, idle, cmd, wire⟩ name role ro
  case refine_16 =>
    exact fun s q r o queue serves idle cmd wire name _ role ro const misfit =>
      write_misfit ⟨queue, serves, idle, cmd, wire⟩ name role ro const misfit
  case refine_17 =>
    exact fun s q r o queue serves idle cmd wire name _ role ro const tcode size ty fits mode =>
      write_refused ⟨queue, serves, idle, cmd, wire⟩ name role ro const tcode size ty fits (chkPut_mode mode) (by decide)
  case refine_18 =>
    exact fun s q r o queue serves idle cmd wire name _ role ro const tcode size ty fits mode busy range =>
      write_refused ⟨queue, serves, idle, cmd, wire⟩ name role ro const tcode size ty fits (chkPut_range mode busy range) (by decide)
  case refine_19 =>
    exact fun s q r o queue serves idle cmd wire name low role acc len tcode dir free =>
      segOpen_read ⟨queue, serves, idle, cmd, wire⟩ name low role acc len tcode dir free
  case refine_20 =>
    exact fun s q r o queue serves idle cmd wire name _ role acc opened dir tcode len size free =>
      segOpen_write ⟨queue, serves, idle, cmd, wire⟩ name role acc opened dir tcode len size free
  case refine_21 =>
    exact fun s q r o queue serves idle cmd wire name _ role acc len tcode dir busy =>
      segOpen_busy ⟨queue, serves, idle, cmd, wire⟩ name role acc len tcode dir busy
  case refine_22 =>
    exact fun s q r o g queue serves idle cmd wire name _ role opened index sub write offset fits =>
      segData_write (segNamed_open name role opened index sub) ⟨queue, serves, idle, cmd, wire⟩ write offset fits
  case refine_23 =>
    exact fun s q r o g queue serves idle cmd wire name _ role opened index sub read offset len =>
      segData_read (segNamed_open name role opened index sub) ⟨queue, serves, idle, cmd, wire⟩ read offset len
  case refine_24 =>
    exact fun s q r o g queue serves idle cmd wire name _ role opened index sub offset =>
      segData_misplaced (segNamed_open name role opened index sub) ⟨queue, serves, idle, cmd, wire⟩ offset
  case refine_25 =>
    exact fun s q r o g queue serves idle cmd wire name low role opened index sub write offset len whole acc home shadow off busy range =>
      segClose_whole (segNamed_open name role opened index sub) ⟨queue, serves, idle, cmd, wire⟩ write offset len (index ▸ sub ▸ name) low role whole
        acc home shadow off busy range
  case refine_26 =>
    exact fun s q r o g queue serves idle cmd wire name _ role opened index sub write offset len short =>
      segClose_short (segNamed_open name role opened index sub) ⟨queue, serves, idle, cmd, wire⟩ write offset len short
  case refine_27 => exact fun s q r queue serves idle cmd wire => segAbort_ends ⟨queue, serves, idle, cmd, wire⟩
  case refine_28 =>
    exact fun s role => ⟨_, exec_segTimeout role s, segOf_setSeg_none _ _, fun k hk => segOf_setSeg_none_ne _ _ hk, rfl, rfl, rfl, rfl⟩
  case refine_29 =>
    exact fun s q r queue serves idle cmd wire role len free fresh unworn =>
      store_begins ⟨queue, serves, idle, cmd, wire⟩ role len free fresh unworn
  case refine_30 => exact fun s q r queue serves idle cmd wire role => store_below ⟨queue, serves, idle, cmd, wire⟩ role
  case refine_31 => exact fun s q r queue serves idle cmd wire role len busy => store_busy ⟨queue, serves, idle, cmd, wire⟩ role len busy
  case refine_32 => exact fun s x q store by_ wire => storeDone_commits store by_ wire
  case refine_33 => exact fun s x store again => storeDone_fails store again
  case refine_34 => exact fun s x store first fresh _ unworn header => storeDone_retries store first fresh unworn header
  case refine_35 => exact fun s good idle => ⟨_, exec_storeDone_idle idle, rfl⟩
  case refine_36 => exact fun s q r queue serves idle cmd wire role => restoreDefaults_below ⟨queue, serves, idle, cmd, wire⟩ role
  case refine_37 =>
    exact fun s q r queue serves idle cmd wire role len mode => restoreDefaults_mode ⟨queue, serves, idle, cmd, wire⟩ role len mode
  case refine_38 =>
    exact fun s q r queue serves idle cmd wire role len mode free off =>
      restoreDefaults_begins ⟨queue, serves, idle, cmd, wire⟩ role len mode free off rfl
  case refine_39 => exact fun s q r queue serves idle cmd wire len trng => epoch_drawn ⟨queue, serves, idle, cmd, wire⟩ len trng
  case refine_40 =>
    exact fun s ip serves on addr some => ⟨_, if_pos (forMgmt_own serves on addr some), rfl, rfl⟩
  case refine_41 => exact fun s ip other => ⟨_, if_neg (ne_true_of_eq_false (forMgmt_other other)), rfl⟩
  case refine_42 => exact fun s ip data serves on addr some => ⟨_, if_pos (forMgmt_own serves on addr some), rfl⟩
  case refine_43 => exact fun s frame on free => ⟨_, exec_mgmtSpiWrite_free on free, rfl⟩
  case refine_44 => exact fun s frame on full => ⟨_, exec_mgmtSpiWrite_full on full, rfl⟩
  case refine_45 => exact fun s frame off => ⟨_, if_pos (by rw [off]; rfl), rfl⟩
  case refine_46 => exact ⟨fun s on => ⟨_, exec_mgmtSpiStatus_on on, rfl⟩, fun s f l on held => ⟨_, exec_mgmtSpiRead_held on held, rfl⟩⟩

end Sys2Proof.Machine
end
section
/-! PROOFS. What a change of the mode moves: the gate, the mode machine and the mode commands of PWR_CMD (R445…R448, R455, R508, R509). -/

namespace Sys2Proof.Machine

/-! A change of the mode moves the registers it names, the Legacy Pulse Port, the gated pads and the Outrider's own part; every
other part of the state is as it was (R445, R509). -/

/-- The registers that the gate itself writes (R509). -/
def gateRegs (a : Nat) : Prop := a = Reg.OUT_STAT ∨ evtOf blkOut 1 a ∨ evtOf blkOut 11 a

/-- Registers of W alone, the pulse port, the gated pads and the Outrider's part differ; the power block's events stand on. -/
structure Moves (W : Nat → Prop) (s t : State) : Prop where
  rest   : ∃ r l o u, t = { s with regs := r, lpp := l, tim := { s.tim with outs := o }, out := u }
  regs   : SameRegs s t W
  raised : ∀ n, Raised s blkPwr n → Raised t blkPwr n

namespace Moves

variable {W V : Nat → Prop} {s t u : State} {a n : Nat}

theorem refl (s : State) : Moves W s s := ⟨⟨s.regs, s.lpp, s.tim.outs, s.out, rfl⟩, SameRegs.refl s W, fun _ h => h⟩

theorem trans (h : Moves W s t) (k : Moves W t u) : Moves W s u := by
  obtain ⟨⟨r, l, o, x, ht⟩, hr, he⟩ := h
  obtain ⟨⟨r', l', o', x', hu⟩, kr, ke⟩ := k
  exact ⟨⟨r', l', o', x', by rw [hu, ht]⟩, hr.trans kr, fun n e => ke n (he n e)⟩

theorem mono (h : Moves W s t) (sub : ∀ a, W a → V a) : Moves V s t :=
  ⟨h.rest, fun a ha => h.regs a fun w => ha (sub a w), h.raised⟩

theorem rest_setRegN (h : ∃ r l o u, t = { s with regs := r, lpp := l, tim := { s.tim with outs := o }, out := u }) (a v : Nat) :
    ∃ r l o u, t.setRegN a v = { s with regs := r, lpp := l, tim := { s.tim with outs := o }, out := u } := by
  obtain ⟨r, l, o, x, rfl⟩ := h; exact ⟨_, l, o, x, rfl⟩

theorem setRegN (h : Moves W s t) (v : Nat) (ha : W a) (status : a ≠ evtStatus blkPwr) : Moves W s (t.setRegN a v) :=
  ⟨rest_setRegN h.rest a v, h.regs.setRegN ha v, fun n e => (h.raised n e).setRegN v status⟩

theorem setFld (h : Moves W s t) (hi lo v : Nat) (ha : W a) (status : a ≠ evtStatus blkPwr) : Moves W s (t.setFld a hi lo v) :=
  h.setRegN _ ha status
theorem setFlag (h : Moves W s t) (n : Nat) (b : Bool) (ha : W a) (status : a ≠ evtStatus blkPwr) : Moves W s (t.setFlag a n b) :=
  h.setRegN _ ha status
theorem count (h : Moves W s t) (ha : W a) (status : a ≠ evtStatus blkPwr) : Moves W s (t.count a) := h.setRegN _ ha status

theorem raise (h : Moves W s t) {b : Nat} (hn : n < 32) (hw : ∀ a, evtOf b n a → W a) : Moves W s (t.raise b n) :=
  ⟨rest_setRegN (rest_setRegN h.rest _ _) _ _, h.regs.raise hw, fun m e => (h.raised m e).raise b hn⟩

theorem raiseIf (h : Moves W s t) (c : Bool) {b : Nat} (hn : n < 32) (hw : ∀ a, evtOf b n a → W a) : Moves W s (t.raiseIf c b n) := by
  cases c; exacts [h, h.raise hn hw]

theorem lpp (h : Moves W s t) (x : Lpp) : Moves W s { t with lpp := x } := by
  obtain ⟨⟨r, l, o, y, rfl⟩, hr, he⟩ := h; exact ⟨⟨_, _, _, _, rfl⟩, hr, he⟩
theorem outs (h : Moves W s t) (x : List (Nat × TimedOut)) : Moves W s { t with tim := { t.tim with outs := x } } := by
  obtain ⟨⟨r, l, o, y, rfl⟩, hr, he⟩ := h; exact ⟨⟨_, _, _, _, rfl⟩, hr, he⟩
theorem out (h : Moves W s t) (x : Outrider) : Moves W s { t with out := x } := by
  obtain ⟨⟨r, l, o, y, rfl⟩, hr, he⟩ := h; exact ⟨⟨_, _, _, _, rfl⟩, hr, he⟩

theorem mem (h : Moves W s t) : t.mem = s.mem := by obtain ⟨⟨r, l, o, x, rfl⟩, -, -⟩ := h; rfl
theorem pac (h : Moves W s t) : t.pac = s.pac := by obtain ⟨⟨r, l, o, x, rfl⟩, -, -⟩ := h; rfl
theorem pw (h : Moves W s t) : t.pw = s.pw := by obtain ⟨⟨r, l, o, x, rfl⟩, -, -⟩ := h; rfl
theorem svc (h : Moves W s t) : t.svc = s.svc := by obtain ⟨⟨r, l, o, x, rfl⟩, -, -⟩ := h; rfl
theorem fld (h : Moves W s t) (hi lo : Nat) (ha : ¬W a) : t.fld a hi lo = s.fld a hi lo := fld_of_reg hi lo (h.regs a ha)
theorem flag (h : Moves W s t) (n : Nat) (ha : ¬W a) : t.flag a n = s.flag a n := flag_of_reg n (h.regs a ha)

end Moves

section
variable {s t : State}

/-- A write touches its own register alone. -/
theorem sameRegs_setRegN (s : State) (a v : Nat) : SameRegs s (s.setRegN a v) (· = a) := (SameRegs.refl s (· = a)).setRegN rfl v
theorem sameRegs_setFld (s : State) (a hi lo v : Nat) : SameRegs s (s.setFld a hi lo v) (· = a) := sameRegs_setRegN s a _
theorem sameRegs_setFlag (s : State) (a n : Nat) (b : Bool) : SameRegs s (s.setFlag a n b) (· = a) := sameRegs_setRegN s a _

/-! The gate (R509). -/

theorem moves_outStat (s : State) : Moves gateRegs s s.outStat := by
  unfold State.outStat
  exact ((((Moves.refl s).setFlag _ _ (.inl rfl) (by decide)).setFlag _ _ (.inl rfl) (by decide)).setFlag _ _ (.inl rfl) (by decide)).raiseIf _
    (by decide) (fun a e => .inr (.inr e)) |>.setFld _ _ _ (.inl rfl) (by decide)

/-- The bits of OUT_STAT below the derived ones: G, the safe state, RCO and the asynchronous latch. -/
theorem flag_outStat (s : State) {n : Nat} (hn : n = 0 ∨ n = 1 ∨ n = 3 ∨ n = 4) : s.outStat.flag Reg.OUT_STAT n = s.flag Reg.OUT_STAT n := by
  unfold State.outStat; extract_lets s1 s2 was s3 s4
  have shown : s4.flag Reg.OUT_STAT n = s.flag Reg.OUT_STAT n := by
    unfold s4; rw [flag_of_reg n (reg_raiseIf_lt _ _ (by decide))]
    unfold s3; rw [flag_setFlag_ne _ _ _ _ _ (by decide) (by omega)]
    unfold s2; rw [flag_setFlag_ne _ _ _ _ _ (by decide) (by omega)]
    unfold s1; rw [flag_setFlag_ne _ _ _ _ _ (by decide) (by omega)]
  rw [flag_setFld _ _ _ _ _ _ _ (by decide) (by decide), if_neg (by omega), shown]

theorem moves_gateSettle (s : State) : Moves gateRegs s s.gateSettle := by
  unfold State.gateSettle; split
  · exact (((Moves.refl s).setFlag 0 false (.inl rfl) (by decide)).outs _ |>.raise (by decide) fun a e => .inr (.inl e)).trans (moves_outStat _)
  · exact moves_outStat s

/-- The state's own bits of OUT_STAT outlive a settling of the gate. -/
theorem flag_gateSettle (s : State) {n : Nat} (hn : n = 1 ∨ n = 3 ∨ n = 4) : s.gateSettle.flag Reg.OUT_STAT n = s.flag Reg.OUT_STAT n := by
  unfold State.gateSettle; split
  · rw [flag_outStat _ (by omega), flag_of_reg n (reg_raise_lt _ (by decide))]
    exact flag_setFlag_ne s _ _ _ _ (by decide) (by omega)
  · exact flag_outStat s (by omega)

/-- G stays open exactly while its conditions hold. -/
theorem gOpen_gateSettle (s : State) : s.gateSettle.gOpen = (s.gOpen && s.gateHolds) := by
  unfold State.gateSettle; split
  next shut =>
    rw [Bool.and_eq_true, Bool.not_eq_true'] at shut
    rw [shut.2, Bool.and_false, State.gOpen, flag_outStat _ (.inl rfl), flag_of_reg 0 (reg_raise_lt _ (by decide))]
    exact flag_setFlag s _ _ _ (by decide)
  next stays =>
    rw [State.gOpen, flag_outStat _ (.inl rfl)]
    change s.gOpen = _
    cases g : s.gOpen
    · rfl
    · rw [g, Bool.true_and, Bool.not_eq_true'] at stays
      rw [Bool.true_and]; cases h : s.gateHolds
      · exact absurd h (by simpa using stays)
      · rfl

theorem gOpen_gateSettle_muted (muted : s.txPermit = false) : s.gateSettle.gOpen = false := by
  rw [gOpen_gateSettle, State.gateHolds, muted]; simp

theorem gOpen_gateSettle_held (held : s.safeHeld = true) : s.gateSettle.gOpen = false := by
  rw [gOpen_gateSettle, State.gateHolds, held]; simp

/-! The pulse port and TX_PERMIT (R90, R445). -/

theorem moves_lppCut (s : State) : Moves (evtOf blkTim 28) s s.lppCut := by
  unfold State.lppCut; split
  · exact ((Moves.refl s).lpp _).raise (by decide) fun a e => e
  · exact Moves.refl s

/-- What a settling of TX_PERMIT may write. -/
def permitRegs (a : Nat) : Prop := a = Reg.PWR_MODE ∨ gateRegs a

theorem mode_gate : ¬gateRegs Reg.PWR_MODE := by unfold gateRegs evtOf; decide

theorem moves_permitSettle (s : State) : Moves permitRegs s s.permitSettle :=
  ((Moves.refl s).setFlag 9 _ (.inl rfl) (by decide)).trans ((moves_gateSettle _).mono fun _ => .inr)

/-- TX_PERMIT follows the mode and the policy; the rest of PWR_MODE stays. -/
theorem permitSettle_spec (s : State) : s.permitSettle.mode = s.mode ∧ s.permitSettle.under = s.under ∧ s.permitSettle.released = s.released ∧
    s.permitSettle.txPermit = permits s.mode (s.flag Reg.PWR_POLICY 0) ∧
    (permits s.mode (s.flag Reg.PWR_POLICY 0) = false → s.permitSettle.gOpen = false) ∧ s.permitSettle.safeHeld = s.safeHeld := by
  have settles := moves_gateSettle (s.setFlag Reg.PWR_MODE 9 (permits s.mode (s.flag Reg.PWR_POLICY 0)))
  have apart {hi lo : Nat} (h : hi < 9) := fld_setFld_apart s Reg.PWR_MODE 9 9 (bit (permits s.mode (s.flag Reg.PWR_POLICY 0))) hi lo
    (le_refl 9) (by decide) (.inl h)
  have permit := flag_setFlag s Reg.PWR_MODE 9 (permits s.mode (s.flag Reg.PWR_POLICY 0)) (by decide)
  refine ⟨(settles.fld 3 0 mode_gate).trans (apart (by decide)), (settles.fld 7 4 mode_gate).trans (apart (by decide)),
    (settles.flag 8 mode_gate).trans (flag_setFlag_ne s _ _ _ _ (by decide) (by decide)), (settles.flag 9 mode_gate).trans permit, fun muted => ?_, ?_⟩
  · exact gOpen_gateSettle_muted (permit.trans muted)
  · exact (flag_gateSettle _ (.inl rfl)).trans (flag_of_reg 1 (reg_setFlag_ne s _ _ (by decide)))

/-! A transition of the mode machine (R445, R446, R448). -/

/-- The events of a transition, and the first class that leaving SAFE forgets. -/
def announceRegs (a : Nat) : Prop := evtOf blkTim 28 a ∨ a = Reg.OUT_FIRST ∨ evtOf blkPwr 0 a ∨ evtOf blkPwr 5 a ∨ evtOf blkPwr 6 a
/-- What a transition may write besides what a wake writes. -/
def modeRegs (a : Nat) : Prop := a = Reg.PWR_MODE ∨ gateRegs a ∨ announceRegs a


theorem modeRegs_gate : ∀ a, gateRegs a → modeRegs a := fun _ h => .inr (.inl h)

/-- PWR_MODE named anew: the mode, UNDER beneath it, RELEASED lost in BOOT, BLANK and CONFIGURE. -/
def renamed (s : State) (m u : Nat) : State :=
  let s := (s.setFld Reg.PWR_MODE 7 4 u).setFld Reg.PWR_MODE 3 0 m
  if m = mBoot ∨ m = mBlank ∨ m = mConfigure then s.setFlag Reg.PWR_MODE 8 false else s

theorem renamed_spec (s : State) {m u : Nat} (hm : m < 16) (hu : u < 16) : (renamed s m u).mode = m ∧ (renamed s m u).under = u ∧
    (renamed s m u).released = (if m = mBoot ∨ m = mBlank ∨ m = mConfigure then false else s.released) ∧
    Moves (· = Reg.PWR_MODE) s (renamed s m u) := by
  have mode : ((s.setFld Reg.PWR_MODE 7 4 u).setFld Reg.PWR_MODE 3 0 m).mode = m :=
    (fld_setFld _ _ _ _ _ (by decide) (by decide)).trans (Nat.mod_eq_of_lt hm)
  have under : ((s.setFld Reg.PWR_MODE 7 4 u).setFld Reg.PWR_MODE 3 0 m).under = u :=
    (fld_setFld_apart _ _ _ _ _ _ _ (by decide) (by decide) (by decide)).trans
      ((fld_setFld _ _ _ _ _ (by decide) (by decide)).trans (Nat.mod_eq_of_lt hu))
  have released : ((s.setFld Reg.PWR_MODE 7 4 u).setFld Reg.PWR_MODE 3 0 m).released = s.released := by
    unfold State.released
    rw [flag_setFld _ _ _ _ _ _ _ (by decide) (by decide), if_neg (by decide), flag_setFld _ _ _ _ _ _ _ (by decide) (by decide),
      if_neg (by decide)]
  have moves : Moves (· = Reg.PWR_MODE) s ((s.setFld Reg.PWR_MODE 7 4 u).setFld Reg.PWR_MODE 3 0 m) :=
    (Moves.setFld (W := (· = Reg.PWR_MODE)) (Moves.refl s) 7 4 u rfl (by decide)).setFld 3 0 m rfl (by decide)
  unfold renamed; dsimp only; split
  · exact ⟨(fld_setFld_apart _ _ _ _ _ _ _ (by decide) (by decide) (by decide)).trans mode,
      (fld_setFld_apart _ _ _ _ _ _ _ (by decide) (by decide) (by decide)).trans under, flag_setFlag _ _ _ _ (by decide),
      moves.setFlag _ _ rfl (by decide)⟩
  · exact ⟨mode, under, released, moves⟩

/-- The events of a transition, and the ports that end with it. -/
def announced (s : State) (old m : Nat) : State :=
  let s := (s.raise blkPwr 0).raiseIf (m == mSafe) blkPwr 5
  let s := if m = mSafe ∨ m = mShadow then s.lppCut else s
  if old = mSafe then (s.raise blkPwr 6).setRegN Reg.OUT_FIRST 0 else s

theorem announced_spec (s : State) (old m : Nat) : Raised (announced s old m) blkPwr 0 ∧ (m = mSafe → Raised (announced s old m) blkPwr 5) ∧
    (old = mSafe → Raised (announced s old m) blkPwr 6) ∧ Moves announceRegs s (announced s old m) := by
  have moved0 : Moves announceRegs s (s.raise blkPwr 0) :=
    (Moves.refl s).raise (by decide) fun a e => .inr (.inr (.inl e))
  have moved1 : Moves announceRegs (s.raise blkPwr 0) ((s.raise blkPwr 0).raiseIf (m == mSafe) blkPwr 5) :=
    (Moves.refl _).raiseIf _ (by decide) fun a e => .inr (.inr (.inr (.inl e)))
  have safe1 : m = mSafe → Raised ((s.raise blkPwr 0).raiseIf (m == mSafe) blkPwr 5) blkPwr 5 := fun e => by
    rw [beq_iff_eq.mpr e]; exact raised_raise _ (by decide)
  unfold announced; extract_lets s1 s2
  have moved2 : Moves announceRegs s1 s2 := by
    unfold s2; split
    · exact (moves_lppCut s1).mono fun a e => .inl e
    · exact Moves.refl _
  have rose : Raised s2 blkPwr 0 := moved2.raised 0 (moved1.raised 0 (raised_raise s (by decide)))
  have safe2 : m = mSafe → Raised s2 blkPwr 5 := fun e => moved2.raised 5 (safe1 e)
  have moved := (moved0.trans moved1).trans moved2
  split
  next leaves =>
    exact ⟨(rose.raise _ (by decide)).setRegN _ (by decide), fun e => ((safe2 e).raise _ (by decide)).setRegN _ (by decide),
      fun _ => (raised_raise _ (by decide)).setRegN _ (by decide),
      (moved.raise (by decide) fun a e => .inr (.inr (.inr (.inr e)))).setRegN _
        (.inr (.inl rfl)) (by decide)⟩
  next stays => exact ⟨rose, safe2, fun e => absurd e stays, moved⟩

/-- A transition that no wake begins with. -/
theorem enterMode_eq {m : Nat} (new : s.mode ≠ m) (awake : s.mode = mStable → m = mSafe ∨ m = mShadow → s.fld Reg.PWR_STBL_STAT 2 0 = 4) :
    s.enterMode m = (announced (renamed s m (if m = mSafe then (if s.mode = mStable then s.modeD else s.mode) else m)) s.mode m).permitSettle := by
  have awoken (c : Nat) : (if s.mode = mStable ∧ (m = mSafe ∨ m = mShadow) then s.wakeStart c else s) = s := by
    split
    next h => exact if_pos (awake h.1 h.2)
    next => rfl
  unfold State.enterMode; rw [if_neg new]; dsimp only; rw [awoken]; rfl

theorem modeD_lt (s : State) : s.modeD < 16 := by unfold State.modeD; split_ifs <;> decide
theorem mode_lt (s : State) : s.mode < 16 := bitsOf_lt _ 3 0

/-- What a transition into another mode comes to. -/
structure Entered (s t : State) (m u : Nat) : Prop where
  mode     : t.mode = m
  under    : t.under = u
  released : t.released = (if m = mBoot ∨ m = mBlank ∨ m = mConfigure then false else s.released)
  permit   : t.txPermit = permits m (s.flag Reg.PWR_POLICY 0)
  shut     : permits m (s.flag Reg.PWR_POLICY 0) = false → t.gOpen = false
  event    : Raised t blkPwr 0
  safe     : m = mSafe → Raised t blkPwr 5
  left     : s.mode = mSafe → Raised t blkPwr 6
  held     : t.safeHeld = s.safeHeld
  moves    : Moves modeRegs s t

theorem entered_renamed {m u : Nat} (hm : m < 16) (hu : u < 16) : Entered s (announced (renamed s m u) s.mode m).permitSettle m u := by
  obtain ⟨mode, under, released, first⟩ := renamed_spec s hm hu
  obtain ⟨event, safe, left, second⟩ := announced_spec (renamed s m u) s.mode m
  obtain ⟨v, isV⟩ := named (announced (renamed s m u) s.mode m)
  rw [isV] at event safe left second ⊢
  have kept : ¬announceRegs Reg.PWR_MODE := by unfold announceRegs evtOf; decide
  have policy : v.flag Reg.PWR_POLICY 0 = s.flag Reg.PWR_POLICY 0 :=
    (second.flag 0 (by unfold announceRegs evtOf; decide)).trans (first.flag 0 (by decide))
  obtain ⟨pmode, punder, preleased, permit, shut, held⟩ := permitSettle_spec v
  have third := moves_permitSettle v
  have vmode : v.mode = m := (second.fld 3 0 kept).trans mode
  have keepsHeld : v.safeHeld = s.safeHeld :=
    (second.flag 1 (by unfold announceRegs evtOf; decide)).trans (first.flag 1 (by decide))
  rw [vmode, policy] at permit shut
  exact ⟨pmode.trans vmode, punder.trans ((second.fld 7 4 kept).trans under), preleased.trans ((second.flag 8 kept).trans released), permit, shut,
    third.raised 0 event, fun e => third.raised 5 (safe e), fun e => third.raised 6 (left e), held.trans keepsHeld,
    ((first.mono fun a e => .inl e).trans (second.mono fun a e => .inr (.inr e))).trans (third.mono fun a e => e.elim .inl (modeRegs_gate a))⟩

end

/-! A write of PWR_CMD (R447). -/

section
variable {s : State} {v : BitVec 32}

theorem pwrCmd_release {v : Nat} (code : v % 256 = 1) (main : s.mode ≠ mBackup) : pwrCmd s v = cmdRelease s := by
  simp only [pwrCmd, if_neg main, code]
theorem pwrCmd_recommission {v : Nat} (code : v % 256 = 2) (main : s.mode ≠ mBackup) : pwrCmd s v = cmdRecommission s := by
  simp only [pwrCmd, if_neg main, code]
theorem pwrCmd_leaveSafe {v : Nat} (code : v % 256 = 4) (main : s.mode ≠ mBackup) : pwrCmd s v = cmdLeaveSafe s := by
  simp only [pwrCmd, if_neg main, code]
theorem pwrCmd_stable {v : Nat} (code : v % 256 = 8) (main : s.mode ≠ mBackup) : pwrCmd s v = cmdStable s := by
  simp only [pwrCmd, if_neg main, code]
theorem pwrCmd_cancel {v : Nat} (code : v % 256 = 16) (main : s.mode ≠ mBackup) : pwrCmd s v = if stblPhase s = 1 then disarm s else s := by
  simp only [pwrCmd, if_neg main, code]
theorem pwrCmd_wakeNow {v : Nat} (code : v % 256 = 32) (main : s.mode ≠ mBackup) :
    pwrCmd s v = if s.mode = mStable then s.setPw { s.pw with wakeNow := true } else s := by
  simp only [pwrCmd, if_neg main, code]
theorem pwrCmd_reset {v : Nat} (code : v % 256 = 64) (main : s.mode ≠ mBackup) : pwrCmd s v = systemReset s 2 := by
  simp only [pwrCmd, if_neg main, code]
theorem pwrCmd_replan {v : Nat} (code : v % 256 = 128) (main : s.mode ≠ mBackup) : pwrCmd s v = replan s := by
  simp only [pwrCmd, if_neg main, code]

/-! RELEASE, RECOMMISSION, LEAVE_SAFE (R446, R447, R448, R508). -/

theorem enterMode_entered {m : Nat} (hm : m < 16) (new : s.mode ≠ m)
    (awake : s.mode = mStable → m = mSafe ∨ m = mShadow → s.fld Reg.PWR_STBL_STAT 2 0 = 4) :
    Entered s (s.enterMode m) m (if m = mSafe then (if s.mode = mStable then s.modeD else s.mode) else m) := by
  rw [enterMode_eq new awake]
  refine entered_renamed hm ?_
  split
  · split
    · exact modeD_lt s
    · exact mode_lt s
  · exact hm

/-- From a mode other than STABLE into one other than SAFE. -/
theorem enterMode_plain {m : Nat} (hm : m < 16) (new : s.mode ≠ m) (up : s.mode ≠ mStable) (other : m ≠ mSafe) :
    Entered s (s.enterMode m) m m := by
  have e := enterMode_entered hm new fun h => absurd h up
  rwa [if_neg other] at e

theorem modeD_ge (s : State) : mAcquire ≤ s.modeD := by unfold State.modeD; split_ifs <;> decide
theorem modeD_le (s : State) : s.modeD ≤ mFreerun := by unfold State.modeD; split_ifs <;> decide

/-- D depends on the Timeline state alone. -/
theorem modeD_of_reg {t : State} (h : t.reg Reg.TL_STATE = s.reg Reg.TL_STATE) : t.modeD = s.modeD := by
  unfold State.modeD State.tlState; rw [fld_of_reg 2 0 h]

/-- RELEASED set or cleared leaves mode and UNDER. -/
theorem setReleased_spec (s : State) (b : Bool) : (s.setFlag Reg.PWR_MODE 8 b).mode = s.mode ∧ (s.setFlag Reg.PWR_MODE 8 b).under = s.under ∧
    (s.setFlag Reg.PWR_MODE 8 b).released = b ∧ (s.setFlag Reg.PWR_MODE 8 b).modeD = s.modeD ∧
    Moves (· = Reg.PWR_MODE) s (s.setFlag Reg.PWR_MODE 8 b) :=
  ⟨fld_setFld_apart _ _ _ _ _ _ _ (by decide) (by decide) (by decide), fld_setFld_apart _ _ _ _ _ _ _ (by decide) (by decide) (by decide),
    flag_setFlag _ _ _ _ (by decide), modeD_of_reg (reg_setFlag_ne s _ _ (by decide)),
    Moves.setFlag (W := (· = Reg.PWR_MODE)) (Moves.refl s) 8 b rfl (by decide)⟩

theorem not_modeRegs_tlState : ¬modeRegs Reg.TL_STATE := by unfold modeRegs announceRegs gateRegs evtOf; decide

theorem release_commissioned (code : v.toNat % 256 = 1) (mode : s.mode = mCommission) (idle : ldrPhase s = 0) :
    Completes (.release v) s fun t => t.mode = s.modeD ∧ t.released = true ∧ t.txPermit = permits s.modeD (s.flag Reg.PWR_POLICY 0) ∧
      Raised t blkPwr 0 ∧ t.tlState = s.tlState ∧ t.pac = s.pac ∧ SameMem s t := by
  have low := modeD_ge s
  have high := modeD_le s
  obtain ⟨umode, -, ureleased, uD, first⟩ := setReleased_spec s true
  refine ⟨_, congrArg Host.Outcome.next (pwrCmd_release code (by rw [mode]; decide)), ?_⟩
  unfold cmdRelease State.moveMode
  rw [if_pos (by simp [releaseOk, mode, idle])]
  obtain ⟨u, isU⟩ := named (s.setFlag Reg.PWR_MODE 8 true)
  rw [isU] at umode ureleased uD first ⊢
  unfold mAcquire mFreerun at *
  have e := enterMode_plain (s := u) (m := s.modeD) (modeD_lt s) (by rw [umode, mode]; unfold mCommission; omega) (by rw [umode, mode]; decide)
    (by unfold mSafe; omega)
  rw [if_neg (by rw [umode, mode]; decide)]
  have policy : u.flag Reg.PWR_POLICY 0 = s.flag Reg.PWR_POLICY 0 := first.flag 0 (by decide)
  refine ⟨e.mode, e.released.trans ?_, e.permit.trans (by rw [policy]), e.event,
    (e.moves.fld 2 0 not_modeRegs_tlState).trans (first.fld 2 0 (by decide)), e.moves.pac.trans first.pac, sameMem_of_mem (e.moves.mem.trans first.mem)⟩
  rw [if_neg (by unfold mBoot mBlank mConfigure; omega), ureleased]

theorem release_safe (code : v.toNat % 256 = 1) (mode : s.mode = mSafe) (under : s.under = mCommission) (idle : ldrPhase s = 0) :
    Completes (.release v) s fun t => t.mode = mSafe ∧ t.under = s.modeD ∧ t.released = true ∧ SameRegs s t (· = Reg.PWR_MODE) ∧ SameMem s t := by
  have low := modeD_ge s
  have high := modeD_le s
  obtain ⟨umode, -, ureleased, uD, first⟩ := setReleased_spec s true
  refine ⟨_, congrArg Host.Outcome.next (pwrCmd_release code (by rw [mode]; decide)), ?_⟩
  unfold cmdRelease State.moveMode
  rw [if_pos (by simp [releaseOk, mode, under, idle])]
  obtain ⟨u, isU⟩ := named (s.setFlag Reg.PWR_MODE 8 true)
  rw [isU] at umode ureleased uD first ⊢
  unfold mAcquire mFreerun at *
  rw [if_pos (umode.trans mode), if_neg (by unfold mStable mSafe; omega)]
  dsimp only
  rw [if_neg (by unfold mBlank mConfigure; omega)]
  refine ⟨(fld_setFld_apart _ _ _ _ _ _ _ (by decide) (by decide) (by decide)).trans (umode.trans mode),
    (fld_setFld _ _ _ _ _ (by decide) (by decide)).trans (Nat.mod_eq_of_lt (modeD_lt s)), ?_, first.regs.setFld rfl _ _ _,
    sameMem_of_mem ((State.setFld_mem ..).trans first.mem)⟩
  unfold State.released
  rw [flag_setFld _ _ _ _ _ _ _ (by decide) (by decide), if_neg (by decide)]
  exact ureleased

theorem release_refused (code : v.toNat % 256 = 1) (main : s.mode ≠ mBackup) (bad : releaseOk s = false) :
    exec (.release v) s = .next (s.raise blkPwr 7) := by
  refine congrArg Host.Outcome.next ((pwrCmd_release code main).trans ?_)
  unfold cmdRelease; rw [bad]; rfl

theorem recommission_enters (code : v.toNat % 256 = 2) (low : mAcquire ≤ s.mode) (high : s.mode ≤ mFreerun) :
    Completes (.recommission v) s fun t => t.mode = mCommission ∧ t.released = false ∧ t.txPermit = false ∧ t.gOpen = false ∧ Raised t blkPwr 0 ∧
      t.pac = s.pac ∧ SameMem s t := by
  obtain ⟨umode, -, ureleased, -, first⟩ := setReleased_spec s false
  unfold mAcquire mFreerun at *
  refine ⟨_, congrArg Host.Outcome.next (pwrCmd_recommission code (by unfold mBackup; omega)), ?_⟩
  unfold cmdRecommission State.moveMode
  rw [if_pos (by unfold recommOk mAcquire mFreerun; simp only [Bool.and_eq_true, decide_eq_true_eq]; omega)]
  obtain ⟨u, isU⟩ := named (s.setFlag Reg.PWR_MODE 8 false)
  rw [isU] at umode ureleased first ⊢
  rw [if_neg (by rw [umode]; unfold mSafe; omega)]
  have e := enterMode_plain (s := u) (m := mCommission) (by decide) (by rw [umode]; unfold mCommission; omega) (by rw [umode]; unfold mStable; omega)
    (by decide)
  exact ⟨e.mode, e.released.trans ureleased, e.permit, e.shut rfl, e.event, e.moves.pac.trans first.pac,
    sameMem_of_mem (e.moves.mem.trans first.mem)⟩

theorem recommission_refused (code : v.toNat % 256 = 2) (main : s.mode ≠ mBackup) (bad : recommOk s = false) :
    exec (.recommission v) s = .next (s.raise blkPwr 7) := by
  refine congrArg Host.Outcome.next ((pwrCmd_recommission code main).trans ?_)
  unfold cmdRecommission; rw [bad]; rfl

theorem leaveSafe_leaves (code : v.toNat % 256 = 4) (mode : s.mode = mSafe) (can : s.canRelease = true) (under : s.under ≠ mSafe) :
    Completes (.leaveSafe v) s fun t => t.mode = s.under ∧ t.safeHeld = false ∧ Raised t blkPwr 6 ∧
      t.txPermit = permits s.under (s.flag Reg.PWR_POLICY 0) ∧ SameMem s t := by
  refine ⟨_, congrArg Host.Outcome.next (pwrCmd_leaveSafe code (by rw [mode]; decide)), ?_⟩
  unfold cmdLeaveSafe
  rw [if_pos (by rw [leaveOk, mode, can]; rfl)]; dsimp only
  have first : Moves (· = Reg.OUT_STAT) s (s.setFlag Reg.OUT_STAT 1 false) :=
    Moves.setFlag (W := (· = Reg.OUT_STAT)) (Moves.refl s) 1 false rfl (by decide)
  have freed : (s.setFlag Reg.OUT_STAT 1 false).safeHeld = false := flag_setFlag _ _ _ _ (by decide)
  obtain ⟨u, isU⟩ := named (s.setFlag Reg.OUT_STAT 1 false)
  rw [isU] at first freed ⊢
  have umode : u.mode = mSafe := (first.fld 3 0 (by decide)).trans mode
  have uunder : u.under = s.under := first.fld 7 4 (by decide)
  rw [uunder]
  have e := enterMode_plain (s := u) (m := s.under) (bitsOf_lt _ 7 4) (by rw [umode]; exact under.symm) (by rw [umode]; decide) under
  have last := moves_gateSettle (u.enterMode s.under)
  have policy : u.flag Reg.PWR_POLICY 0 = s.flag Reg.PWR_POLICY 0 := first.flag 0 (by decide)
  exact ⟨(last.fld 3 0 mode_gate).trans e.mode, (flag_gateSettle _ (.inl rfl)).trans (e.held.trans freed), last.raised 6 (e.left umode),
    (last.flag 9 mode_gate).trans (e.permit.trans (by rw [policy])), sameMem_of_mem (last.mem.trans (e.moves.mem.trans first.mem))⟩

theorem leaveSafe_refused (code : v.toNat % 256 = 4) (main : s.mode ≠ mBackup) (bad : leaveOk s = false) :
    exec (.leaveSafe v) s = .next (s.raise blkPwr 7) := by
  refine congrArg Host.Outcome.next ((pwrCmd_leaveSafe code main).trans ?_)
  unfold cmdLeaveSafe; rw [bad]; rfl

/-! STABLE, CANCEL and WAKE_NOW (R455, R458). -/

theorem stable_arms (code : v.toNat % 256 = 8) (ok : stableOk s = true) : Completes (.stable v) s fun t => t.pw.enterAt = s.regN Reg.PWR_STBL_ENTER ∧
    t.pw.wakeAt = (if s.flag Reg.PWR_STBL_CFG 1 then some (s.regN Reg.PWR_STBL_WAKE) else none) ∧ stblPhase t = 1 ∧ t.mode = s.mode ∧
    SameRegs s t (· = Reg.PWR_STBL_STAT) ∧ SameMem s t := by
  have main : s.mode ≠ mBackup := fun e => by simp [stableOk, e, mBackup, mService, mHoldover] at ok
  refine ⟨_, congrArg Host.Outcome.next (pwrCmd_stable code main), ?_⟩
  unfold cmdStable; dsimp only
  rw [if_neg (by simp [ok])]
  exact ⟨rfl, rfl, fld_setFld _ _ _ _ _ (by decide) (by decide), fld_of_reg 3 0 (reg_setFld_ne _ _ _ _ (by decide)),
    sameRegs_setFld (s.setPw _) _ _ _ _, sameMem_of_mem rfl⟩

theorem stable_refused (code : v.toNat % 256 = 8) (main : s.mode ≠ mBackup) (bad : stableOk s = false) :
    exec (.stable v) s = .next ((s.raise blkPwr 7).raise blkPwr 3) := by
  refine congrArg Host.Outcome.next ((pwrCmd_stable code main).trans ?_)
  unfold cmdStable; rw [bad]; rfl

theorem disarmed_spec (s : State) : stblPhase (disarm s) = 0 ∧ (disarm s).pw.wakeAt = none ∧ (disarm s).mode = s.mode ∧
    SameRegs s (disarm s) (· = Reg.PWR_STBL_STAT) ∧ (disarm s).mem = s.mem :=
  ⟨fld_setFld _ _ _ _ _ (by decide) (by decide), rfl, fld_of_reg 3 0 (reg_setFld_ne _ _ _ _ (by decide)),
    sameRegs_setFld s _ _ _ _, rfl⟩

theorem cancel_disarms (code : v.toNat % 256 = 16) (main : s.mode ≠ mBackup) (armed : stblPhase s = 1) :
    Completes (.cancel v) s fun t => stblPhase t = 0 ∧ t.pw.wakeAt = none ∧ t.mode = s.mode ∧ SameRegs s t (· = Reg.PWR_STBL_STAT) ∧ SameMem s t := by
  obtain ⟨phase, wake, mode, regs, mem⟩ := disarmed_spec s
  exact ⟨_, congrArg Host.Outcome.next ((pwrCmd_cancel code main).trans (if_pos armed)), phase, wake, mode, regs, sameMem_of_mem mem⟩

theorem wakeNow_asks (code : v.toNat % 256 = 32) (mode : s.mode = mStable) :
    exec (.wakeNow v) s = .next (s.setPw { s.pw with wakeNow := true }) :=
  congrArg Host.Outcome.next ((pwrCmd_wakeNow code (by rw [mode]; decide)).trans (if_pos mode))

end

end Sys2Proof.Machine
end

section
/-! PROOFS. Power domains and STABLE: the switch of a domain, entry, sleep, wake and exit (R453…R461). -/

namespace Sys2Proof.Machine

/-! Power domains (R453, R454). -/

section
variable {s : State} {d : Fin 35}

/-- PWR_PD_CTL of one domain is PWR_PD_STAT of none. -/
theorem pdCtl_ne_pdStat (d : Fin 35) (e : Nat) : Reg.PWR_PD_CTL d ≠ Reg.PWR_PD_STAT e := by unfold Reg.PWR_PD_CTL Reg.PWR_PD_STAT; omega
theorem pdStat_ne {d e : Nat} (h : d ≠ e) : Reg.PWR_PD_STAT d ≠ Reg.PWR_PD_STAT e := by unfold Reg.PWR_PD_STAT; omega
theorem not_pdStat_ca (d : Nat) : Reg.PWR_PD_STAT d ≠ Reg.CA_STAT := by unfold Reg.PWR_PD_STAT Reg.CA_STAT; omega

theorem fld_pdStat (s : State) (d v : Nat) (hv : v < 8) : (s.setFld (Reg.PWR_PD_STAT d) 2 0 v).fld (Reg.PWR_PD_STAT d) 2 0 = v :=
  (fld_setFld _ _ _ _ _ (by decide) (by decide)).trans (Nat.mod_eq_of_lt hv)

theorem exec_pdSwitchDone_idle (still : s.fld (Reg.PWR_PD_STAT d) 2 0 ≠ 4) : exec (.pdSwitchDone d) s = .next s := by
  simp only [exec_pdSwitchDone, execPdSwitchDone, if_pos still]

theorem exec_pdSwitchDone_off (turns : s.fld (Reg.PWR_PD_STAT d) 2 0 = 4) (run : s.pw.boot ≠ 3) (off : s.flag (Reg.PWR_PD_CTL d) 0 = true) :
    exec (.pdSwitchDone d) s = .next (domOff (s.setFld (Reg.PWR_PD_STAT d) 2 0 0) d) := by
  simp only [exec_pdSwitchDone, execPdSwitchDone, turns, ne_eq, not_true_eq_false, if_false, if_neg run, off, if_true]

theorem exec_pdSwitchDone_on (turns : s.fld (Reg.PWR_PD_STAT d) 2 0 = 4) (run : s.pw.boot ≠ 3) (on : s.flag (Reg.PWR_PD_CTL d) 0 = false) :
    exec (.pdSwitchDone d) s = .next (sleepOver (domOn (s.setFld (Reg.PWR_PD_STAT d) 2 0 1) d)) := by
  simp only [exec_pdSwitchDone, execPdSwitchDone, turns, ne_eq, not_true_eq_false, if_false, if_neg run, on, Bool.false_eq_true]

/-- A step of the boot sequence: the domain is on, and the next of the rest begins. -/
def seqStepped (s : State) (d : Nat) (rest : List Nat) : State :=
  seqNext ((domOn (s.setFld (Reg.PWR_PD_STAT d) 2 0 1) d).setPw
    { (domOn (s.setFld (Reg.PWR_PD_STAT d) 2 0 1) d).pw with seq := rest, boot := if rest.isEmpty then 4 else 3 })

theorem exec_pdSwitchDone_boot (turns : s.fld (Reg.PWR_PD_STAT d) 2 0 = 4) (boots : s.pw.boot = 3) :
    exec (.pdSwitchDone d) s = .next (seqStepped s d (s.pw.seq.filter (· ≠ d.val))) := by
  simp only [exec_pdSwitchDone, execPdSwitchDone, turns, ne_eq, not_true_eq_false, if_false, if_pos boots]; rfl

theorem domOff_plain (high : 20 ≤ d.val) (t : State) : domOff t d = t := by
  unfold domOff; rw [if_neg (by omega), if_neg (by omega)]

theorem domOn_plain (high : 20 ≤ d.val) (t : State) : domOn t d = t := by unfold domOn; rw [if_neg (by omega)]

/-- Nothing slept, and no team's saved state waits. -/
theorem sleepOver_idle {t : State} (awake : t.pw.slept = false) (none : t.fld Reg.CA_STAT 7 4 = 0) : sleepOver t = t := by
  simp only [sleepOver, awake, Bool.false_eq_true, if_false, none, ne_eq, not_true_eq_false, false_and]

theorem pdSwitchDone_off (turns : s.fld (Reg.PWR_PD_STAT d) 2 0 = 4) (run : s.pw.boot ≠ 3) (high : 20 ≤ d.val)
    (off : s.flag (Reg.PWR_PD_CTL d) 0 = true) : Completes (.pdSwitchDone d) s fun t => t.fld (Reg.PWR_PD_STAT d) 2 0 = 0 ∧
      SameRegs s t (· = Reg.PWR_PD_STAT d) ∧ SameMem s t := by
  refine ⟨_, exec_pdSwitchDone_off turns run off, ?_⟩
  rw [domOff_plain high]
  exact ⟨fld_pdStat s _ 0 (by decide), sameRegs_setFld s _ _ _ _, sameMem_of_mem (State.setFld_mem ..)⟩

theorem pdSwitchDone_on (turns : s.fld (Reg.PWR_PD_STAT d) 2 0 = 4) (run : s.pw.boot ≠ 3) (high : 20 ≤ d.val)
    (on : s.flag (Reg.PWR_PD_CTL d) 0 = false) (awake : s.pw.slept = false) (none : s.fld Reg.CA_STAT 7 4 = 0) :
    Completes (.pdSwitchDone d) s fun t => t.fld (Reg.PWR_PD_STAT d) 2 0 = 1 ∧ SameRegs s t (· = Reg.PWR_PD_STAT d) ∧ SameMem s t := by
  refine ⟨_, exec_pdSwitchDone_on turns run on, ?_⟩
  rw [domOn_plain high, sleepOver_idle ((congrArg (·.slept) (State.setFld_pw ..)).trans awake)
    ((fld_of_reg 7 4 (reg_setFld_ne s _ _ _ (not_pdStat_ca d))).trans none)]
  exact ⟨fld_pdStat s _ 1 (by decide), sameRegs_setFld s _ _ _ _, sameMem_of_mem (State.setFld_mem ..)⟩

/-- A team that loses its power loses its cores. -/
theorem pdSwitchDone_team (turns : s.fld (Reg.PWR_PD_STAT d) 2 0 = 4) (run : s.pw.boot ≠ 3) (low : 16 ≤ d.val) (high : d.val < 20)
    (off : s.flag (Reg.PWR_PD_CTL d) 0 = true) : Completes (.pdSwitchDone d) s fun t => t.fld (Reg.PWR_PD_STAT d) 2 0 = 0 ∧
      t.flag Reg.CA_STAT (d.val - 16) = false ∧
      (∀ c, c < 256 → teamOf c = d.val - 16 → t.core c = ({ State.reset with can := {} } : State).core c) ∧ SameMem s t := by
  refine ⟨_, exec_pdSwitchDone_off turns run off, ?_⟩
  have dark := fld_pdStat s d 0 (by decide)
  have mem := State.setFld_mem s (Reg.PWR_PD_STAT d) 2 0 0
  obtain ⟨u, isU⟩ := named (s.setFld (Reg.PWR_PD_STAT d) 2 0 0)
  rw [isU] at dark mem ⊢
  unfold domOff; rw [if_neg (by omega), if_pos high]; dsimp only
  refine ⟨(fld_of_reg 2 0 (reg_setFlag_ne _ _ _ (not_pdStat_ca d).symm)).trans dark, flag_setFlag _ _ _ _ (by omega), fun c _ team => ?_,
    sameMem_of_mem mem⟩
  exact (sget_filter (fun _ => {}) (fun x => teamOf x != d.val - 16) c u.can.cores).trans (if_neg (by rw [team]; simp))

theorem pdSwitchDone_next {e : Fin 35} {r : List Nat} (turns : s.fld (Reg.PWR_PD_STAT d) 2 0 = 4) (boots : s.pw.boot = 3) (high : 20 ≤ d.val)
    (seq : s.pw.seq = d.val :: e.val :: r) (once : d.val ∉ e.val :: r) : Completes (.pdSwitchDone d) s fun t =>
      t.fld (Reg.PWR_PD_STAT d) 2 0 = 1 ∧ t.fld (Reg.PWR_PD_STAT e) 2 0 = 4 ∧ t.pw.seq = e.val :: r ∧ t.pw.boot = 3 ∧
      SameRegs s t (fun a => a = Reg.PWR_PD_STAT d ∨ a = Reg.PWR_PD_STAT e) ∧ SameMem s t := by
  have rest : s.pw.seq.filter (· ≠ d.val) = e.val :: r := by
    rw [seq, List.filter_cons_of_neg (by simp), List.filter_eq_self]
    intro x hx; simp only [ne_eq, decide_eq_true_eq]; rintro rfl; exact once hx
  have apart : Reg.PWR_PD_STAT e ≠ Reg.PWR_PD_STAT d := pdStat_ne fun h => once (h ▸ List.mem_cons_self)
  refine ⟨_, exec_pdSwitchDone_boot turns boots, ?_⟩
  rw [rest]; unfold seqStepped; rw [domOn_plain high]
  have on := fld_pdStat s d 1 (by decide)
  have mem := State.setFld_mem s (Reg.PWR_PD_STAT d) 2 0 1
  have regs := sameRegs_setFld s (Reg.PWR_PD_STAT d) 2 0 1
  obtain ⟨u, isU⟩ := named (s.setFld (Reg.PWR_PD_STAT d) 2 0 1)
  rw [isU] at on mem regs ⊢
  exact ⟨(fld_of_reg 2 0 (reg_setFld_ne _ _ _ _ apart)).trans on, fld_pdStat _ _ 4 (by decide), rfl, rfl,
    SameRegs.trans (fun a ha => regs a fun h => ha (.inl h)) fun a ha => reg_setFld_ne _ _ _ _ fun h => ha (.inr h.symm), sameMem_of_mem mem⟩

theorem pdSwitchDone_last (turns : s.fld (Reg.PWR_PD_STAT d) 2 0 = 4) (boots : s.pw.boot = 3) (high : 20 ≤ d.val) (seq : s.pw.seq = [d.val]) :
    Completes (.pdSwitchDone d) s fun t => t.fld (Reg.PWR_PD_STAT d) 2 0 = 1 ∧ t.pw.boot = 4 ∧ SameMem s t := by
  have rest : s.pw.seq.filter (· ≠ d.val) = [] := by rw [seq]; simp
  refine ⟨_, exec_pdSwitchDone_boot turns boots, ?_⟩
  rw [rest]; unfold seqStepped; rw [domOn_plain high]
  exact ⟨fld_pdStat s d 1 (by decide), rfl, sameMem_of_mem rfl⟩

/-! A write of PWR_PD_CTL (R454). -/

variable {v : BitVec 32}

/-- A control bit written and the switch begun. -/
def switching (s : State) (d : Fin 35) (b : Bool) : State := (s.setFlag (Reg.PWR_PD_CTL d) 0 b).setFld (Reg.PWR_PD_STAT d) 2 0 4

theorem switching_spec (s : State) (d : Fin 35) (b : Bool) : (switching s d b).flag (Reg.PWR_PD_CTL d) 0 = b ∧
    (switching s d b).fld (Reg.PWR_PD_STAT d) 2 0 = 4 ∧
    SameRegs s (switching s d b) (fun a => a = Reg.PWR_PD_CTL d ∨ a = Reg.PWR_PD_STAT d) ∧ SameMem s (switching s d b) :=
  ⟨(flag_of_reg 0 (reg_setFld_ne _ _ _ _ (pdCtl_ne_pdStat d d).symm)).trans (flag_setFlag _ _ _ _ (by decide)), fld_pdStat _ _ 4 (by decide),
    ((SameRegs.refl s _).setFlag (.inl rfl) _ _).setFld (.inr rfl) _ _ _, sameMem_of_mem rfl⟩

theorem pdOffReq_granted (off : v.getLsbD 0 = true) (may : mayOff s d = true) : Completes (.pdOffReq d v) s fun t =>
    t.flag (Reg.PWR_PD_CTL d) 0 = true ∧ t.fld (Reg.PWR_PD_STAT d) 2 0 = 4 ∧
    SameRegs s t (fun a => a = Reg.PWR_PD_CTL d ∨ a = Reg.PWR_PD_STAT d) ∧ SameMem s t :=
  ⟨_, by simp only [exec_pdOffReq, execPdOffReq, pdCtl, off, may, if_true]; rfl, switching_spec s d true⟩

theorem pdOffReq_refused (off : v.getLsbD 0 = true) (may : mayOff s d = false) : exec (.pdOffReq d v) s = .next (s.raise blkPwr 8) := by
  simp only [exec_pdOffReq, execPdOffReq, pdCtl, off, may, if_true, Bool.false_eq_true, if_false]

theorem pdOffReq_returns (on : v.getLsbD 0 = false) (was : s.flag (Reg.PWR_PD_CTL d) 0 = true) (dark : s.fld (Reg.PWR_PD_STAT d) 2 0 = 0) :
    Completes (.pdOffReq d v) s fun t => t.flag (Reg.PWR_PD_CTL d) 0 = false ∧ t.fld (Reg.PWR_PD_STAT d) 2 0 = 4 ∧
      SameRegs s t (fun a => a = Reg.PWR_PD_CTL d ∨ a = Reg.PWR_PD_STAT d) ∧ SameMem s t :=
  ⟨_, by simp only [exec_pdOffReq, execPdOffReq, pdCtl, on, was, dark, if_true, Bool.false_eq_true, if_false]; rfl, switching_spec s d false⟩

theorem pdOffReq_idle (on : v.getLsbD 0 = false) (was : s.flag (Reg.PWR_PD_CTL d) 0 = false) : exec (.pdOffReq d v) s = .next s := by
  simp only [exec_pdOffReq, execPdOffReq, pdCtl, on, was, Bool.false_eq_true, if_false]

end

/-! STABLE: entry, sleep and wake (R456, R458). -/

section
variable {s : State}

theorem exec_stableEntry_idle (h : stblPhase s ≠ 1 ∨ ptReached s.pt s.pw.enterAt = false) : exec .stableEntry s = .next s := by
  simp only [exec_stableEntry, execStableEntry]
  rw [if_pos (h.imp id fun e => by rw [e]; rfl)]

theorem exec_stableEntry_late (armed : stblPhase s = 1) (due : ptReached s.pt s.pw.enterAt = true) (other : stblFrom s = false) :
    exec .stableEntry s = .next ((disarm s).raise blkPwr 3) := by
  simp only [exec_stableEntry, execStableEntry, armed, due, other, ne_eq, not_true_eq_false, Bool.not_true, Bool.false_eq_true, or_self, if_false]

theorem exec_stableEntry_enters (armed : stblPhase s = 1) (due : ptReached s.pt s.pw.enterAt = true) (from_ : stblFrom s = true) :
    exec .stableEntry s = .next ((((bistStop s).enterMode mStable).setFld Reg.PWR_STBL_STAT 2 0 2).setFlag Reg.CA_STAT 8 true) := by
  simp only [exec_stableEntry, execStableEntry, armed, due, from_, ne_eq, not_true_eq_false, Bool.not_true, Bool.false_eq_true, or_self, if_false,
    if_true]

theorem reg_bistRound (s : State) (u : Nat) {a : Nat} (runs : Reg.OUT_BIST_RUNS ≠ a) (event : ¬evtOf blkOut 12 a) :
    (bistRound s u).reg a = s.reg a := by
  unfold bistRound; split
  · exact (sameRegs_raise _ _ _ a event).trans (reg_count_ne s runs)
  · rfl

/-- The end of a core's test touches the Outrider's registers alone. -/
theorem mode_bistStop (s : State) : (bistStop s).mode = s.mode := by
  unfold bistStop; split
  · rfl
  · refine (fld_of_reg 3 0 (reg_bistRound _ _ (by decide) (by unfold evtOf; decide))).trans ?_
    dsimp only; split <;> rfl

theorem stableEntry_enters (armed : stblPhase s = 1) (due : ptReached s.pt s.pw.enterAt = true) (from_ : stblFrom s = true) :
    Completes .stableEntry s fun t => t.mode = mStable ∧ stblPhase t = 2 ∧ t.flag Reg.CA_STAT 8 = true ∧ t.txPermit = false ∧ t.gOpen = false ∧
      Raised t blkPwr 0 := by
  refine ⟨_, exec_stableEntry_enters armed due from_, ?_⟩
  have up : s.mode = mService ∨ s.mode = mHoldover := by
    simp only [stblFrom, Bool.and_eq_true, Bool.or_eq_true, beq_iff_eq] at from_; exact from_.1
  have mode := mode_bistStop s
  obtain ⟨u, isU⟩ := named (bistStop s)
  rw [isU] at mode ⊢
  unfold mService mHoldover at up
  have e := enterMode_plain (s := u) (m := mStable) (by decide) (by rw [mode]; unfold mStable; omega) (by rw [mode]; unfold mStable; omega) (by decide)
  obtain ⟨v, isV⟩ := named (u.enterMode mStable)
  rw [isV] at e ⊢
  have regs : SameRegs v ((v.setFld Reg.PWR_STBL_STAT 2 0 2).setFlag Reg.CA_STAT 8 true) (fun a => a = Reg.PWR_STBL_STAT ∨ a = Reg.CA_STAT) :=
    ((SameRegs.refl v _).setFld (.inl rfl) _ _ _).setFlag (.inr rfl) _ _
  exact ⟨(fld_of_reg 3 0 (regs _ (by decide))).trans e.mode,
    (fld_of_reg 2 0 (reg_setFlag_ne _ _ _ (by decide))).trans (fld_setFld _ _ _ _ _ (by decide) (by decide)), flag_setFlag _ _ _ _ (by decide),
    (flag_of_reg 9 (regs _ (by decide))).trans e.permit, (flag_of_reg 0 (regs Reg.OUT_STAT (by decide))).trans (e.shut rfl),
    (e.event.setFld _ _ _ (by decide)).setFlag _ _ (by decide)⟩

theorem stableEntry_late (armed : stblPhase s = 1) (due : ptReached s.pt s.pw.enterAt = true) (other : stblFrom s = false) :
    Completes .stableEntry s fun t => t.mode = s.mode ∧ stblPhase t = 0 ∧ t.pw.wakeAt = none ∧ Raised t blkPwr 3 ∧
      SameRegs s t (fun a => a = Reg.PWR_STBL_STAT ∨ evtOf blkPwr 3 a) ∧ SameMem s t := by
  obtain ⟨phase, wake, mode, regs, mem⟩ := disarmed_spec s
  refine ⟨_, exec_stableEntry_late armed due other, ?_⟩
  obtain ⟨u, isU⟩ := named (disarm s)
  rw [isU] at phase wake mode regs mem ⊢
  exact ⟨(fld_of_reg 3 0 (reg_raise_lt u (by decide))).trans mode, (fld_of_reg 2 0 (reg_raise_lt u (by decide))).trans phase,
    (congrArg (·.wakeAt) (State.raise_pw ..)).trans wake, raised_raise u (by decide),
    SameRegs.raise (fun a ha => regs a fun h => ha (.inl h)) fun a e => .inr e, sameMem_of_mem ((State.raise_mem ..).trans mem)⟩

/-! What falling asleep leaves: memory, the Pacer's part and the registers outside W (steps 2 to 6 of Table MOD-5). -/

/-- Memory, the Pacer's part, and STABLE's marks are as before, and so are the registers outside W. -/
structure Rests (W : Nat → Prop) (s t : State) : Prop where
  mem  : t.mem = s.mem
  pac  : t.pac = s.pac
  regs : SameRegs s t W

namespace Rests

variable {W V : Nat → Prop} {s t u : State} {a : Nat}

theorem refl (s : State) : Rests W s s := ⟨rfl, rfl, SameRegs.refl s W⟩
theorem trans (h : Rests W s t) (k : Rests W t u) : Rests W s u := ⟨k.mem.trans h.mem, k.pac.trans h.pac, h.regs.trans k.regs⟩
theorem mono (h : Rests W s t) (sub : ∀ a, W a → V a) : Rests V s t := ⟨h.mem, h.pac, fun a ha => h.regs a fun w => ha (sub a w)⟩
theorem setRegN (h : Rests W s t) (v : Nat) (ha : W a) : Rests W s (t.setRegN a v) := ⟨h.mem, h.pac, h.regs.setRegN ha v⟩
theorem setFld (h : Rests W s t) (hi lo v : Nat) (ha : W a) : Rests W s (t.setFld a hi lo v) := h.setRegN _ ha
theorem setFlag (h : Rests W s t) (n : Nat) (b : Bool) (ha : W a) : Rests W s (t.setFlag a n b) := h.setRegN _ ha

theorem foldl {α : Type} {f : State → α → State} {l : List α} (h : Rests W s t) (hf : ∀ u, ∀ x ∈ l, Rests W u (f u x)) : Rests W s (l.foldl f t) :=
  List.foldlRecOn l f h fun u k x hx => k.trans (hf u x hx)

end Rests

theorem rests_spGo (b goal : Nat) : Rests (· = Reg.SP_BANK_STAT b) s (spGo s b goal) := by
  unfold spGo; split
  · exact ⟨rfl, rfl, sameRegs_of_regs rfl _⟩
  · dsimp only; split
    · exact Rests.refl s
    · exact ⟨rfl, rfl, SameRegs.trans (sameRegs_of_regs (t := s.setNoc _) rfl _) (sameRegs_setFld _ _ _ _ _)⟩

/-- The first k fabric domains at rest: those that are on sleep. -/
def padsAsleep (s : State) (k : Nat) : State := (List.range k).foldl
  (fun s d => if s.fld (Reg.PWR_PD_STAT d) 2 0 = 1 then s.setFld (Reg.PWR_PD_STAT d) 2 0 2 else s) s

theorem padsAsleep_succ (s : State) (k : Nat) : padsAsleep s (k + 1) =
    if (padsAsleep s k).fld (Reg.PWR_PD_STAT k) 2 0 = 1 then (padsAsleep s k).setFld (Reg.PWR_PD_STAT k) 2 0 2 else padsAsleep s k := by
  unfold padsAsleep; rw [List.range_succ, List.foldl_append]; rfl

theorem rests_padsAsleep (s : State) (k : Nat) : Rests (fun a => ∃ d, d < k ∧ a = Reg.PWR_PD_STAT d) s (padsAsleep s k) :=
  (Rests.refl s).foldl fun u d hd => by
    split
    · exact (Rests.refl u).setFld _ _ _ ⟨d, List.mem_range.mp hd, rfl⟩
    · exact Rests.refl u

theorem fld_padsAsleep (s : State) : ∀ k d, d < k → (padsAsleep s k).fld (Reg.PWR_PD_STAT d) 2 0 =
    if s.fld (Reg.PWR_PD_STAT d) 2 0 = 1 then 2 else s.fld (Reg.PWR_PD_STAT d) 2 0
  | k + 1, d, hd => by
    rw [padsAsleep_succ]
    by_cases e : d = k
    · subst e
      have before : (padsAsleep s d).fld (Reg.PWR_PD_STAT d) 2 0 = s.fld (Reg.PWR_PD_STAT d) 2 0 :=
        fld_of_reg 2 0 ((rests_padsAsleep s d).regs _ fun ⟨j, hj, h⟩ => pdStat_ne (Nat.ne_of_gt hj) h)
      rw [before]; split
      · exact fld_pdStat _ _ 2 (by decide)
      · exact before
    · have ih := fld_padsAsleep s k d (by omega)
      split
      · exact (fld_of_reg 2 0 (reg_setFld_ne _ _ _ _ (pdStat_ne (Ne.symm e)))).trans ih
      · exact ih

/-- A rail held at retention voltage, its own kept. -/
def railHeld (s : State) (k : Nat) : State := setRail (s.setFld (Reg.AVS_RAIL_V k) 9 0 550) k { railOf s k with back := railV s k }

theorem railHeld_spec (s : State) (k : Nat) : Rests (· = Reg.AVS_RAIL_V k) s (railHeld s k) ∧ (railHeld s k).pw.slept = s.pw.slept ∧
    (railHeld s k).pw.gated = s.pw.gated := by
  have mem := State.setFld_mem s (Reg.AVS_RAIL_V k) 9 0 550
  have pac := State.setFld_pac s (Reg.AVS_RAIL_V k) 9 0 550
  have pw := State.setFld_pw s (Reg.AVS_RAIL_V k) 9 0 550
  have regs := sameRegs_setFld s (Reg.AVS_RAIL_V k) 9 0 550
  unfold railHeld
  obtain ⟨u, isU⟩ := named (s.setFld (Reg.AVS_RAIL_V k) 9 0 550)
  rw [isU] at mem pac pw regs ⊢
  exact ⟨⟨mem, pac, regs⟩, congrArg (·.slept) pw, congrArg (·.gated) pw⟩

/-- Rails of fabric domains at retention voltage change their AVS_RAIL_V and their own part. -/
theorem railsRet_spec (s : State) : Rests (fun a => ∃ k, k < 8 ∧ a = Reg.AVS_RAIL_V k) s (railsRet s) ∧ (railsRet s).pw.slept = s.pw.slept ∧
    (railsRet s).pw.gated = s.pw.gated := by
  unfold railsRet
  refine List.foldlRecOn (motive := fun u => Rests (fun a => ∃ k, k < 8 ∧ a = Reg.AVS_RAIL_V k) s u ∧ u.pw.slept = s.pw.slept ∧
    u.pw.gated = s.pw.gated) _ _ ⟨Rests.refl s, rfl, rfl⟩ fun u ⟨rests, slept, gated⟩ k hk => ?_
  obtain ⟨held, keepsSlept, keepsGated⟩ := railHeld_spec u k
  split
  · exact ⟨rests.trans (held.mono fun a e => ⟨k, List.mem_range.mp hk, e⟩), keepsSlept.trans slept, keepsGated.trans gated⟩
  · exact ⟨rests, slept, gated⟩

/-- The banks begin to change, their present goals remembered. -/
def banksAsleep (s : State) : State :=
  let prev (b : Nat) : Nat := ((s.noc.spTo.find? (fun e => e.1 == b)).map (·.2)).getD (s.fld (Reg.SP_BANK_STAT b) 2 0)
  (List.range 64).foldl (fun s b => spGo s b (spCode (s.fld (Reg.SP_BANK_CFG b) 5 4)))
    (s.setNoc { s.noc with spPrev := (List.range 64).map (fun b => (b, prev b)) })

/-- What step 2 of Table MOD-5 leaves of a state whose tile buffer is empty: the roll paused, banks and channels at rest. -/
def storesAsleep (s : State) : State :=
  (List.range 4).foldl (fun s h => if chanReady s h then s.setFlag (Reg.MEM_STAT h) 2 true else s) (banksAsleep (rollPause s))

/-- The registers of stores that fall asleep. -/
def storeRegs (a : Nat) : Prop := a = Reg.IMP_ROLL_STAT ∨ (∃ b, b < 64 ∧ a = Reg.SP_BANK_STAT b) ∨ ∃ h, h < 4 ∧ a = Reg.MEM_STAT h

theorem rests_rollPause (s : State) : Rests (· = Reg.IMP_ROLL_STAT) s (rollPause s) := by
  unfold rollPause; split
  · exact ⟨rfl, rfl, sameRegs_setFld s _ _ _ _⟩
  · exact Rests.refl s

theorem rests_banksAsleep (s : State) : Rests (fun a => ∃ b, b < 64 ∧ a = Reg.SP_BANK_STAT b) s (banksAsleep s) := by
  unfold banksAsleep; extract_lets prev
  exact Rests.foldl ⟨rfl, rfl, sameRegs_of_regs rfl _⟩ fun u b hb => (rests_spGo b _).mono fun a e => ⟨b, List.mem_range.mp hb, e⟩

theorem rests_storesAsleep (s : State) : Rests storeRegs s (storesAsleep s) := by
  have paused : Rests storeRegs s (rollPause s) := (rests_rollPause s).mono fun a => .inl
  have banks : Rests storeRegs (rollPause s) (banksAsleep (rollPause s)) := (rests_banksAsleep _).mono fun a e => .inr (.inl e)
  refine (paused.trans banks).foldl fun u h hh => ?_
  split
  · exact (Rests.refl u).setFlag _ _ (.inr (.inr ⟨h, List.mem_range.mp hh, rfl⟩))
  · exact Rests.refl u

/-- The power block asleep: fabric domains and Ethernet's at rest, trees gated, rails in retention. -/
def powerAsleep (s : State) : State :=
  let s := padsAsleep s 16
  let s := if s.fld (Reg.PWR_PD_STAT 24) 2 0 = 1 then s.setFld (Reg.PWR_PD_STAT 24) 2 0 3 else s
  railsRet (s.setPw { s.pw with slept := true, gated := true })

theorem exec_stableAsleep_sleeps (mode : s.mode = mStable) (phase : stblPhase s = 2) (saved : s.flag Reg.CA_STAT 8 = false) (settled : s.imp.buf = []) :
    exec .stableAsleep s = .next (((powerAsleep (storesAsleep s)).setFld Reg.PWR_STBL_STAT 2 0 3).raise blkPwr 1) := by
  have idle : impSettle s = s := by unfold impSettle; rw [settled]; rfl
  simp only [exec_stableAsleep, execStableAsleep, mode, phase, saved, idle, ne_eq, not_true_eq_false, Bool.false_eq_true, or_self, if_false]
  rfl

theorem powerAsleep_spec (s : State) : Rests (fun a => (∃ d, a = Reg.PWR_PD_STAT d) ∨ ∃ k, k < 8 ∧ a = Reg.AVS_RAIL_V k) s (powerAsleep s) ∧
    (powerAsleep s).pw.gated = true ∧ (powerAsleep s).pw.slept = true ∧ ∀ d, d < 16 → (powerAsleep s).fld (Reg.PWR_PD_STAT d) 2 0 =
      if s.fld (Reg.PWR_PD_STAT d) 2 0 = 1 then 2 else s.fld (Reg.PWR_PD_STAT d) 2 0 := by
  unfold powerAsleep; extract_lets s1 s2
  have k1 : Rests (fun a => ∃ d, a = Reg.PWR_PD_STAT d) s s1 := (rests_padsAsleep s 16).mono fun a ⟨d, _, e⟩ => ⟨d, e⟩
  have k2 : Rests (· = Reg.PWR_PD_STAT 24) s1 s2 := by
    unfold s2; split
    · exact Rests.setFld (W := (· = Reg.PWR_PD_STAT 24)) (Rests.refl s1) 2 0 3 rfl
    · exact Rests.refl s1
  have marked : Rests (fun _ => False) s2 (s2.setPw { s2.pw with slept := true, gated := true }) := ⟨rfl, rfl, sameRegs_of_regs rfl _⟩
  have slept2 : (s2.setPw { s2.pw with slept := true, gated := true }).pw.slept = true := rfl
  have gated2 : (s2.setPw { s2.pw with slept := true, gated := true }).pw.gated = true := rfl
  obtain ⟨u, isU⟩ := named (s2.setPw { s2.pw with slept := true, gated := true })
  rw [isU] at marked slept2 gated2 ⊢
  obtain ⟨k3, slept, gated⟩ := railsRet_spec u
  refine ⟨((k1.trans (k2.mono fun a e => ⟨24, e⟩)).mono fun a e => .inl e).trans
    ((marked.mono fun _ => False.elim).trans (k3.mono fun a e => .inr e)), gated.trans gated2, slept.trans slept2, fun d hd => ?_⟩
  refine (fld_of_reg 2 0 ((k3.regs _ ?_).trans ((marked.regs _ id).trans (k2.regs _ (pdStat_ne (by omega)))))).trans (fld_padsAsleep s 16 d hd)
  rintro ⟨k, -, e⟩; revert e; unfold Reg.PWR_PD_STAT Reg.AVS_RAIL_V; omega

theorem stableAsleep_sleeps (mode : s.mode = mStable) (phase : stblPhase s = 2) (saved : s.flag Reg.CA_STAT 8 = false) (settled : s.imp.buf = []) :
    Completes .stableAsleep s fun t => stblPhase t = 3 ∧ t.mode = mStable ∧ t.pw.gated = true ∧ t.pw.slept = true ∧ Raised t blkPwr 1 ∧
      (∀ d, d < 16 → t.fld (Reg.PWR_PD_STAT d) 2 0 = (if s.fld (Reg.PWR_PD_STAT d) 2 0 = 1 then 2 else s.fld (Reg.PWR_PD_STAT d) 2 0)) ∧
      t.pac = s.pac ∧ SameMem s t := by
  have stores := rests_storesAsleep s
  refine ⟨_, exec_stableAsleep_sleeps mode phase saved settled, ?_⟩
  obtain ⟨r, isR⟩ := named (storesAsleep s)
  rw [isR] at stores ⊢
  obtain ⟨power, gated, slept, pads⟩ := powerAsleep_spec r
  obtain ⟨u, isU⟩ := named (powerAsleep r)
  rw [isU] at power gated slept pads ⊢
  have asleep : stblPhase (u.setFld Reg.PWR_STBL_STAT 2 0 3) = 3 := fld_setFld _ _ _ _ _ (by decide) (by decide)
  have pw := State.setFld_pw u Reg.PWR_STBL_STAT 2 0 3
  have pac := State.setFld_pac u Reg.PWR_STBL_STAT 2 0 3
  have mem := State.setFld_mem u Reg.PWR_STBL_STAT 2 0 3
  have below {a : Nat} (other : Reg.PWR_STBL_STAT ≠ a) : (u.setFld Reg.PWR_STBL_STAT 2 0 3).reg a = u.reg a := reg_setFld_ne _ _ _ _ other
  obtain ⟨v, isV⟩ := named (u.setFld Reg.PWR_STBL_STAT 2 0 3)
  rw [isV] at asleep pw pac mem below ⊢
  have mode_apart : ¬storeRegs Reg.PWR_MODE := by
    rintro (h | ⟨b, hb, h⟩ | ⟨c, hc, h⟩) <;> revert h
    · decide
    · unfold Reg.SP_BANK_STAT Reg.PWR_MODE; omega
    · unfold Reg.MEM_STAT Reg.PWR_MODE; omega
  have pad_apart {d : Nat} (hd : d < 16) : ¬storeRegs (Reg.PWR_PD_STAT d) := by
    rintro (h | ⟨b, hb, h⟩ | ⟨c, hc, h⟩) <;> revert h
    · unfold Reg.IMP_ROLL_STAT Reg.PWR_PD_STAT; omega
    · unfold Reg.SP_BANK_STAT Reg.PWR_PD_STAT; omega
    · unfold Reg.MEM_STAT Reg.PWR_PD_STAT; omega
  have mode_power : ¬((∃ d, Reg.PWR_MODE = Reg.PWR_PD_STAT d) ∨ ∃ k, k < 8 ∧ Reg.PWR_MODE = Reg.AVS_RAIL_V k) := by
    unfold Reg.PWR_MODE Reg.PWR_PD_STAT Reg.AVS_RAIL_V; omega
  have modeV : v.mode = mStable :=
    (fld_of_reg 3 0 ((below (by decide)).trans ((power.regs _ mode_power).trans (stores.regs _ mode_apart)))).trans mode
  refine ⟨(fld_of_reg 2 0 (reg_raise_lt v (by decide))).trans asleep, (fld_of_reg 3 0 (reg_raise_lt v (by decide))).trans modeV, ?_, ?_,
    raised_raise v (by decide), fun d hd => ?_, (State.raise_pac ..).trans (pac.trans (power.pac.trans stores.pac)),
    sameMem_of_mem ((State.raise_mem ..).trans (mem.trans (power.mem.trans stores.mem)))⟩
  · rw [State.raise_pw, pw]; exact gated
  · rw [State.raise_pw, pw]; exact slept
  have same : s.fld (Reg.PWR_PD_STAT d) 2 0 = r.fld (Reg.PWR_PD_STAT d) 2 0 := (fld_of_reg 2 0 (stores.regs _ (pad_apart hd))).symm
  rw [same, ← pads d hd]
  exact fld_of_reg 2 0 ((reg_raise_lt v (by unfold Reg.PWR_PD_STAT evtStatus blockBase ctrlBase blkPwr; omega)).trans
    (below (by unfold Reg.PWR_STBL_STAT Reg.PWR_PD_STAT; omega)))

theorem exec_stableAsleep_idle (h : s.mode ≠ mStable ∨ stblPhase s ≠ 2 ∨ s.flag Reg.CA_STAT 8 = true) : exec .stableAsleep s = .next s := by
  simp only [exec_stableAsleep, execStableAsleep]; rw [if_pos h]

end

/-! STABLE: the wake and the exit (R458, R459, R460). -/

section
variable {s : State}

/-- The marks of a wake event: its phase with the cause, its tick, its event. -/
def wakeMarked (s : State) (cause : Nat) : State :=
  ((s.setRegN Reg.PWR_STBL_STAT (4 + cause * 16)).setRegN Reg.PWR_WAKE_PT s.pt).raise blkPwr 2

theorem wakeMarked_spec (s : State) {cause : Nat} (hc : cause < 8) : stblPhase (wakeMarked s cause) = 4 ∧
    (wakeMarked s cause).fld Reg.PWR_STBL_STAT 6 4 = cause ∧ (wakeMarked s cause).regN Reg.PWR_WAKE_PT = s.pt ∧ Raised (wakeMarked s cause) blkPwr 2 ∧
    (wakeMarked s cause).mode = s.mode ∧ (wakeMarked s cause).mem = s.mem ∧ (wakeMarked s cause).pw = s.pw := by
  have stat : (wakeMarked s cause).regN Reg.PWR_STBL_STAT = 4 + cause * 16 := by
    unfold wakeMarked
    rw [regN_of_reg (reg_raise_lt _ (by decide)), regN_setRegN, if_neg (by decide), regN_setRegN, if_pos rfl]
    exact Nat.mod_eq_of_lt (by omega)
  have point : (wakeMarked s cause).regN Reg.PWR_WAKE_PT = s.pt := by
    unfold wakeMarked
    rw [regN_of_reg (reg_raise_lt _ (by decide)), regN_setRegN, if_pos rfl]
    exact Nat.mod_eq_of_lt (Nat.mod_lt _ (by decide))
  refine ⟨?_, ?_, point, raised_raise _ (by decide), fld_of_reg 3 0 ?_,
    (State.raise_mem ..).trans ((State.setRegN_mem ..).trans (State.setRegN_mem ..)),
    (State.raise_pw ..).trans ((State.setRegN_pw ..).trans (State.setRegN_pw ..))⟩
  · unfold stblPhase State.fld; rw [stat]; unfold bitsOf; omega
  · unfold State.fld; rw [stat]; unfold bitsOf; omega
  · exact (reg_raise_lt _ (by decide)).trans ((reg_setRegN_ne _ _ (by decide)).trans (reg_setRegN_ne _ _ (by decide)))

/-- The first k domains that sleep or are off for STABLE begin to switch. -/
def padsWake (s : State) (k : Nat) : State := (List.range k).foldl (fun s d =>
  let v := s.fld (Reg.PWR_PD_STAT d) 2 0
  if v = 2 ∨ v = 3 ∨ (16 ≤ d ∧ d < 20 ∧ v = 0 ∧ !s.flag (Reg.PWR_PD_CTL d) 0) then s.setFld (Reg.PWR_PD_STAT d) 2 0 4 else s) s

/-- The domains' switches write their own registers and leave the rest of the state. -/
theorem padsWake_spec (s : State) (k : Nat) : OnlyRegs s (padsWake s k) ∧ SameRegs s (padsWake s k) (fun a => ∃ d < k, a = Reg.PWR_PD_STAT d) := by
  unfold padsWake
  refine List.foldlRecOn (motive := fun u => OnlyRegs s u ∧ SameRegs s u (fun a => ∃ d < k, a = Reg.PWR_PD_STAT d)) _ _
    ⟨OnlyRegs.refl s, SameRegs.refl s _⟩ fun u ⟨only, same⟩ d hd => ?_
  dsimp only; split
  · exact ⟨only.setFld _ _ _ _, same.setFld ⟨d, List.mem_range.mp hd, rfl⟩ _ _ _⟩
  · exact ⟨only, same⟩

theorem wakeStart_eq {cause : Nat} (sleeps : s.fld Reg.PWR_STBL_STAT 2 0 ≠ 4) : s.wakeStart cause =
    padsWake (if (wakeMarked s cause).fld Reg.CA_STAT 7 4 = 0 then (wakeMarked s cause).setFlag Reg.CA_STAT 8 false else wakeMarked s cause) 29 := by
  unfold State.wakeStart; rw [if_neg sleeps]; rfl

/-- What a wake event comes to. -/
structure Woken (s t : State) (cause : Nat) : Prop where
  phase : stblPhase t = 4
  point : t.regN Reg.PWR_WAKE_PT = s.pt
  cause : t.fld Reg.PWR_STBL_STAT 6 4 = cause
  mode  : t.mode = s.mode
  event : Raised t blkPwr 2
  mem   : t.mem = s.mem

theorem woken {cause : Nat} (hc : cause < 8) (sleeps : s.fld Reg.PWR_STBL_STAT 2 0 ≠ 4) : Woken s (s.wakeStart cause) cause := by
  rw [wakeStart_eq sleeps]
  obtain ⟨phase, shown, point, event, mode, mem, -⟩ := wakeMarked_spec s hc
  obtain ⟨u, isU⟩ := named (wakeMarked s cause)
  rw [isU] at phase shown point event mode mem ⊢
  have told : OnlyRegs u (if u.fld Reg.CA_STAT 7 4 = 0 then u.setFlag Reg.CA_STAT 8 false else u) ∧
      SameRegs u (if u.fld Reg.CA_STAT 7 4 = 0 then u.setFlag Reg.CA_STAT 8 false else u) (· = Reg.CA_STAT) := by
    split
    · exact ⟨(OnlyRegs.refl u).setFlag _ _ _, sameRegs_setFlag u _ _ _⟩
    · exact ⟨OnlyRegs.refl u, SameRegs.refl u _⟩
  obtain ⟨v, isV⟩ := named (if u.fld Reg.CA_STAT 7 4 = 0 then u.setFlag Reg.CA_STAT 8 false else u)
  rw [isV] at told ⊢
  obtain ⟨only, switched⟩ := padsWake_spec v 29
  have same {a : Nat} (ca : a ≠ Reg.CA_STAT) (pads : ∀ d < 29, a ≠ Reg.PWR_PD_STAT d) : (padsWake v 29).reg a = u.reg a :=
    (switched a fun ⟨d, hd, e⟩ => pads d hd e).trans (told.2 a ca)
  have stat := same (a := Reg.PWR_STBL_STAT) (by decide) fun d hd => by unfold Reg.PWR_STBL_STAT Reg.PWR_PD_STAT; omega
  exact ⟨(fld_of_reg 2 0 stat).trans phase, (regN_of_reg (same (by decide) fun d hd => by unfold Reg.PWR_WAKE_PT Reg.PWR_PD_STAT; omega)).trans point,
    (fld_of_reg 6 4 stat).trans shown, (fld_of_reg 3 0 (same (by decide) fun d hd => by unfold Reg.PWR_MODE Reg.PWR_PD_STAT; omega)).trans mode,
    (flag_of_reg 2 (same (a := evtStatus blkPwr) (by decide) fun d hd => by unfold evtStatus blockBase ctrlBase blkPwr Reg.PWR_PD_STAT; omega)).trans event,
    only.mem.trans (told.1.mem.trans mem)⟩

/-- The condition of a wake cause (R458). -/
def wakeHolds (s : State) (cause : Fin 4) : Bool :=
  match cause.val with
  | 0 => s.pw.wakeAt.any (ptReached s.pt)
  | 1 => s.flag Reg.PWR_STBL_CFG 2
  | 2 => s.flag Reg.PWR_STBL_CFG 3 && s.tlState == tlExpired
  | _ => s.pw.wakeNow

theorem exec_stableWakeEvent_eq (cause : Fin 4) (s : State) : exec (.stableWakeEvent cause) s =
    if s.mode = mStable ∧ (stblPhase s = 2 ∨ stblPhase s = 3) ∧ wakeHolds s cause ∧ ptReached s.pt ((s.pw.enterAt + 2048) % 2 ^ 32) then
      .next ((s.wakeStart (cause + 1)).setPw { s.pw with wakeAt := none, wakeNow := false }) else .next s := rfl

theorem stableWakeEvent_wakes {cause : Fin 4} (mode : s.mode = mStable) (phase : stblPhase s = 2 ∨ stblPhase s = 3)
    (due : ptReached s.pt ((s.pw.enterAt + 2048) % 2 ^ 32) = true) (holds : wakeHolds s cause = true) :
    Completes (.stableWakeEvent cause) s fun t => stblPhase t = 4 ∧ t.regN Reg.PWR_WAKE_PT = s.pt ∧ t.fld Reg.PWR_STBL_STAT 6 4 = cause + 1 ∧
      t.pw.wakeAt = none ∧ t.pw.wakeNow = false ∧ t.mode = mStable ∧ Raised t blkPwr 2 ∧ SameMem s t := by
  have w := woken (s := s) (cause := cause + 1) (by omega) (by unfold stblPhase at phase; omega)
  obtain ⟨u, isU⟩ := named (s.wakeStart (cause + 1))
  refine ⟨_, (exec_stableWakeEvent_eq cause s).trans (if_pos ⟨mode, phase, holds, due⟩), ?_⟩
  rw [isU] at w ⊢
  exact ⟨w.phase, w.point, w.cause, rfl, rfl, w.mode.trans mode, w.event, sameMem_of_mem w.mem⟩

theorem exec_stableWakeEvent_idle (cause : Fin 4) (h : s.mode ≠ mStable ∨ stblPhase s = 4) : exec (.stableWakeEvent cause) s = .next s := by
  rw [exec_stableWakeEvent_eq, if_neg]
  rintro ⟨mode, phase, -⟩
  exact h.elim (fun c => c mode) fun c => by omega

/-! The trees run again (R459). -/

theorem exec_wakeUngate_idle (other : stblPhase s ≠ 4) : exec .wakeUngate s = .next s := by
  simp only [exec_wakeUngate, execWakeUngate, if_pos other]

theorem exec_wakeUngate_runs (phase : stblPhase s = 4) (awake : s.pw.slept = false) (none : s.fld Reg.CA_STAT 7 4 = 0)
    (done : s.flag Reg.CA_STAT 8 = false) : exec .wakeUngate s = .next (s.setPw { s.pw with gated := false }) := by
  have kept : (s.setPw { s.pw with gated := false }).flag Reg.CA_STAT 8 = false := done
  have rest : (s.setPw { s.pw with gated := false }).fld Reg.CA_STAT 7 4 = 0 := none
  simp only [exec_wakeUngate, execWakeUngate, phase, sleepOver_idle awake none, kept, rest, ne_eq, not_true_eq_false, Bool.false_eq_true, or_self,
    if_false]

/-- A restore that is late: told in PWR_STBL_STAT, and to the Outrider as class 15. -/
def wakeFailed (s : State) : State := (((s.setFlag Reg.PWR_STBL_STAT 7 true).raise blkPwr 4).setFlag Reg.OUT_CAUSE 15 true).latchClass 15

theorem exec_wakeUngate_late (phase : stblPhase s = 4) (awake : s.pw.slept = false) (none : s.fld Reg.CA_STAT 7 4 = 0)
    (late : s.flag Reg.CA_STAT 8 = true) : exec .wakeUngate s = .next (wakeFailed (s.setPw { s.pw with gated := false })) := by
  have kept : (s.setPw { s.pw with gated := false }).flag Reg.CA_STAT 8 = true := late
  simp only [exec_wakeUngate, execWakeUngate, phase, sleepOver_idle awake none, kept, ne_eq, not_true_eq_false, true_or, if_false, if_true]
  rfl

/-- The registers that the latching of class 15 writes. -/
def latchRegs (a : Nat) : Prop := a = Reg.OUT_LATCH ∨ a = Reg.OUT_CLASS_CNT 15 ∨ a = Reg.OUT_FIRST ∨ a = Reg.OUT_FIRST_PT

/-- The first class noted, where none has been or the noted one is from before the reset (R506). -/
def firstNoted (s : State) (c : Nat) : State :=
  if s.fld Reg.OUT_FIRST 4 0 = 0 ∨ s.out.left then
    { ((s.setRegN Reg.OUT_FIRST c).setRegN Reg.OUT_FIRST_PT s.pt) with out := { s.out with left := false } }
  else s

theorem latchClass_eq (s : State) (c : Nat) :
    s.latchClass c = firstNoted ((s.setFlag Reg.OUT_LATCH c true).count (Reg.OUT_CLASS_CNT c)) c := rfl

theorem moves_firstNoted (s : State) (c : Nat) : Moves (fun a => a = Reg.OUT_FIRST ∨ a = Reg.OUT_FIRST_PT) s (firstNoted s c) := by
  have first : Moves (fun a => a = Reg.OUT_FIRST ∨ a = Reg.OUT_FIRST_PT) s ((s.setRegN Reg.OUT_FIRST c).setRegN Reg.OUT_FIRST_PT s.pt) :=
    ((Moves.refl s).setRegN _ (.inl rfl) (by decide)).setRegN _ (.inr rfl) (by decide)
  unfold firstNoted
  obtain ⟨u, isU⟩ := named ((s.setRegN Reg.OUT_FIRST c).setRegN Reg.OUT_FIRST_PT s.pt)
  rw [isU] at first ⊢
  split
  · exact first.out _
  · exact Moves.refl s

theorem latchClass_spec (s : State) : (s.latchClass 15).flag Reg.OUT_LATCH 15 = true ∧ Moves latchRegs s (s.latchClass 15) := by
  have latched := flag_setFlag s Reg.OUT_LATCH 15 true (by decide)
  have moves : Moves latchRegs s (s.setFlag Reg.OUT_LATCH 15 true) := (Moves.refl s).setFlag _ _ (.inl rfl) (by decide)
  rw [latchClass_eq]
  obtain ⟨u, isU⟩ := named (s.setFlag Reg.OUT_LATCH 15 true)
  rw [isU] at latched moves ⊢
  have counted := moves.count (a := Reg.OUT_CLASS_CNT 15) (.inr (.inl rfl)) (by decide)
  have stands : (u.count (Reg.OUT_CLASS_CNT 15)).flag Reg.OUT_LATCH 15 = true := (flag_of_reg 15 (reg_count_ne u (by decide))).trans latched
  obtain ⟨v, isV⟩ := named (u.count (Reg.OUT_CLASS_CNT 15))
  rw [isV] at counted stands ⊢
  have noted := moves_firstNoted v 15
  exact ⟨(noted.flag 15 (by decide)).trans stands, counted.trans (noted.mono fun a e => .inr (.inr e))⟩

theorem wakeFailed_spec (s : State) : (wakeFailed s).pw = s.pw ∧ (wakeFailed s).flag Reg.PWR_STBL_STAT 7 = true ∧
    (wakeFailed s).flag Reg.OUT_CAUSE 15 = true ∧ (wakeFailed s).flag Reg.OUT_LATCH 15 = true ∧ Raised (wakeFailed s) blkPwr 4 ∧
    (wakeFailed s).mode = s.mode ∧ (wakeFailed s).mem = s.mem := by
  have told : ((s.setFlag Reg.PWR_STBL_STAT 7 true).raise blkPwr 4).flag Reg.PWR_STBL_STAT 7 = true :=
    (flag_of_reg 7 (reg_raise_lt _ (by decide))).trans (flag_setFlag s _ _ _ (by decide))
  have event : Raised ((s.setFlag Reg.PWR_STBL_STAT 7 true).raise blkPwr 4) blkPwr 4 := raised_raise _ (by decide)
  have mode : ((s.setFlag Reg.PWR_STBL_STAT 7 true).raise blkPwr 4).mode = s.mode :=
    fld_of_reg 3 0 ((reg_raise_lt _ (by decide)).trans (reg_setFlag_ne s _ _ (by decide)))
  have mem : ((s.setFlag Reg.PWR_STBL_STAT 7 true).raise blkPwr 4).mem = s.mem := (State.raise_mem ..).trans (State.setFlag_mem ..)
  have pw : ((s.setFlag Reg.PWR_STBL_STAT 7 true).raise blkPwr 4).pw = s.pw := (State.raise_pw ..).trans (State.setFlag_pw ..)
  unfold wakeFailed
  obtain ⟨u, isU⟩ := named ((s.setFlag Reg.PWR_STBL_STAT 7 true).raise blkPwr 4)
  rw [isU] at told event mode mem pw ⊢
  have cause := flag_setFlag u Reg.OUT_CAUSE 15 true (by decide)
  have moves : Moves (· = Reg.OUT_CAUSE) u (u.setFlag Reg.OUT_CAUSE 15 true) :=
    Moves.setFlag (W := (· = Reg.OUT_CAUSE)) (Moves.refl u) 15 true rfl (by decide)
  obtain ⟨v, isV⟩ := named (u.setFlag Reg.OUT_CAUSE 15 true)
  rw [isV] at cause moves ⊢
  obtain ⟨latched, last⟩ := latchClass_spec v
  exact ⟨last.pw.trans (moves.pw.trans pw), (last.flag 7 (by unfold latchRegs; decide)).trans ((moves.flag 7 (by decide)).trans told),
    (last.flag 15 (by unfold latchRegs; decide)).trans cause, latched, last.raised 4 (moves.raised 4 event),
    (last.fld 3 0 (by unfold latchRegs; decide)).trans ((moves.fld 3 0 (by decide)).trans mode), last.mem.trans (moves.mem.trans mem)⟩

theorem wakeUngate_late (phase : stblPhase s = 4) (awake : s.pw.slept = false) (none : s.fld Reg.CA_STAT 7 4 = 0) (late : s.flag Reg.CA_STAT 8 = true) :
    Completes .wakeUngate s fun t => t.pw.gated = false ∧ t.flag Reg.PWR_STBL_STAT 7 = true ∧ t.flag Reg.OUT_CAUSE 15 = true ∧
      t.flag Reg.OUT_LATCH 15 = true ∧ Raised t blkPwr 4 ∧ t.mode = s.mode ∧ SameMem s t := by
  obtain ⟨pw, told, cause, latched, event, mode, mem⟩ := wakeFailed_spec (s.setPw { s.pw with gated := false })
  exact ⟨_, exec_wakeUngate_late phase awake none late, by rw [pw]; rfl, told, cause, latched, event, mode, sameMem_of_mem mem⟩

/-! The end of the sleep (R459, R460). -/

theorem exec_stableExit_idle (other : stblPhase s ≠ 4) : exec .stableExit s = .next s := by
  simp only [exec_stableExit, execStableExit, if_pos other]

/-- The phase cleared, and the key roll resumed. -/
def roused (s : State) : State := rollResume (s.setFld Reg.PWR_STBL_STAT 2 0 0)

theorem roused_spec (s : State) : stblPhase (roused s) = 0 ∧ Moves (fun a => a = Reg.PWR_STBL_STAT ∨ a = Reg.IMP_ROLL_STAT) s (roused s) := by
  have clear := fld_setFld s Reg.PWR_STBL_STAT 2 0 0 (by decide) (by decide)
  have moves : Moves (fun a => a = Reg.PWR_STBL_STAT ∨ a = Reg.IMP_ROLL_STAT) s (s.setFld Reg.PWR_STBL_STAT 2 0 0) :=
    (Moves.refl s).setFld _ _ _ (.inl rfl) (by decide)
  unfold roused rollResume
  obtain ⟨u, isU⟩ := named (s.setFld Reg.PWR_STBL_STAT 2 0 0)
  rw [isU] at clear moves ⊢
  split
  · exact ⟨(fld_of_reg 2 0 (reg_setFld_ne u _ _ _ (by decide))).trans clear, moves.setFld _ _ _ (.inr rfl) (by decide)⟩
  · exact ⟨clear, moves⟩

theorem exec_stableExit_awake (phase : stblPhase s = 4) (awake : s.pw.slept = false) (none : s.fld Reg.CA_STAT 7 4 = 0) (mode : s.mode = mStable)
    (sound : s.flag Reg.OUT_CAUSE 15 = false) :
    exec .stableExit s = .next (roused ((s.setPw { s.pw with gated := false }).enterMode s.modeD)) := by
  have eq : ({ s with pw := { s.pw with gated := false } } : State) = s.setPw { s.pw with gated := false } := rfl
  have sound' : (s.setPw { s.pw with gated := false }).flag Reg.OUT_CAUSE 15 = false := sound
  have mode' : (s.setPw { s.pw with gated := false }).mode = mStable := mode
  simp only [exec_stableExit, execStableExit, phase, sleepOver_idle awake none, eq, sound', mode', ne_eq, not_true_eq_false, Bool.false_eq_true,
    if_false, if_true]
  rfl

theorem exec_stableExit_failed (phase : stblPhase s = 4) (awake : s.pw.slept = false) (none : s.fld Reg.CA_STAT 7 4 = 0)
    (failed : s.flag Reg.OUT_CAUSE 15 = true) :
    exec .stableExit s = .next (roused ((((s.setPw { s.pw with gated := false }).react 15).enterMode mSafe).unstand 15)) := by
  have eq : ({ s with pw := { s.pw with gated := false } } : State) = s.setPw { s.pw with gated := false } := rfl
  have failed' : (s.setPw { s.pw with gated := false }).flag Reg.OUT_CAUSE 15 = true := failed
  simp only [exec_stableExit, execStableExit, phase, sleepOver_idle awake none, eq, failed', ne_eq, not_true_eq_false, if_false, if_true]
  rfl

theorem stableExit_awake (phase : stblPhase s = 4) (awake : s.pw.slept = false) (none : s.fld Reg.CA_STAT 7 4 = 0)
    (sound : s.flag Reg.OUT_CAUSE 15 = false) (mode : s.mode = mStable) : Completes .stableExit s fun t => t.mode = s.modeD ∧ stblPhase t = 0 ∧
      t.pw.gated = false ∧ Raised t blkPwr 0 ∧ t.txPermit = permits s.modeD (s.flag Reg.PWR_POLICY 0) ∧ SameMem s t := by
  refine ⟨_, exec_stableExit_awake phase awake none mode sound, ?_⟩
  have low := modeD_ge s
  have high := modeD_le s
  unfold mAcquire mFreerun at *
  have ungated : Rests (fun _ => False) s (s.setPw { s.pw with gated := false }) ∧ (s.setPw { s.pw with gated := false }).pw.gated = false :=
    ⟨⟨rfl, rfl, sameRegs_of_regs rfl _⟩, rfl⟩
  obtain ⟨u, isU⟩ := named (s.setPw { s.pw with gated := false })
  rw [isU] at ungated ⊢
  obtain ⟨same, gated⟩ := ungated
  have modeU : u.mode = mStable := (fld_of_reg 3 0 (same.regs _ id)).trans mode
  have e := enterMode_entered (s := u) (m := s.modeD) (modeD_lt s) (by rw [modeU]; unfold mStable; omega)
    fun _ h => absurd h (by unfold mSafe mShadow; omega)
  obtain ⟨v, isV⟩ := named (u.enterMode s.modeD)
  rw [isV] at e ⊢
  obtain ⟨cleared, last⟩ := roused_spec v
  have apart : ¬(Reg.PWR_MODE = Reg.PWR_STBL_STAT ∨ Reg.PWR_MODE = Reg.IMP_ROLL_STAT) := by decide
  exact ⟨(last.fld 3 0 apart).trans e.mode, cleared, (congrArg (·.gated) (last.pw.trans e.moves.pw)).trans gated, last.raised 0 e.event,
    (last.flag 9 apart).trans (e.permit.trans (by rw [flag_of_reg 0 (same.regs Reg.PWR_POLICY id)])),
    sameMem_of_mem (last.mem.trans (e.moves.mem.trans same.mem))⟩

/-- Class 15 takes the safe state and shuts the gate. -/
theorem react_wake (s : State) : (s.react 15).safeHeld = true ∧ Moves (fun a => gateRegs a ∨ evtOf blkOut 0 a) s (s.react 15) := by
  have reacts : s.react 15 = ((s.raiseIf (!s.safeHeld) blkOut 0).setFlag Reg.OUT_STAT 1 true).gateSettle := by
    unfold State.react classMutes; rfl
  rw [reacts]
  have first : Moves (fun a => gateRegs a ∨ evtOf blkOut 0 a) s (s.raiseIf (!s.safeHeld) blkOut 0) :=
    (Moves.refl s).raiseIf _ (by decide) fun a e => .inr e
  obtain ⟨u, isU⟩ := named (s.raiseIf (!s.safeHeld) blkOut 0)
  rw [isU] at first ⊢
  exact ⟨(flag_gateSettle _ (.inl rfl)).trans (flag_setFlag u _ _ _ (by decide)),
    (first.setFlag 1 true (.inl (.inl rfl)) (by decide)).trans ((moves_gateSettle _).mono fun a => .inl)⟩

theorem unstand_spec (s : State) : (s.unstand 15).flag Reg.OUT_CAUSE 15 = false ∧ (s.unstand 15).safeHeld = s.safeHeld ∧
    (s.safeHeld = true → (s.unstand 15).gOpen = false) ∧ Moves (fun a => a = Reg.OUT_CAUSE ∨ gateRegs a) s (s.unstand 15) := by
  unfold State.unstand
  have clear := flag_setFlag s Reg.OUT_CAUSE 15 false (by decide)
  have first : Moves (· = Reg.OUT_CAUSE) s (s.setFlag Reg.OUT_CAUSE 15 false) :=
    Moves.setFlag (W := (· = Reg.OUT_CAUSE)) (Moves.refl s) 15 false rfl (by decide)
  obtain ⟨u, isU⟩ := named (s.setFlag Reg.OUT_CAUSE 15 false)
  rw [isU] at clear first ⊢
  have held : u.safeHeld = s.safeHeld := first.flag 1 (by decide)
  have last := moves_gateSettle u
  exact ⟨(last.flag 15 (by unfold gateRegs evtOf; decide)).trans clear, (flag_gateSettle u (.inl rfl)).trans held,
    fun h => gOpen_gateSettle_held (held.trans h), (first.mono fun a => .inl).trans (last.mono fun a => .inr)⟩

theorem stableExit_failed (phase : stblPhase s = 4) (awake : s.pw.slept = false) (none : s.fld Reg.CA_STAT 7 4 = 0)
    (failed : s.flag Reg.OUT_CAUSE 15 = true) (mode : s.mode = mStable) : Completes .stableExit s fun t => t.mode = mSafe ∧ t.under = s.modeD ∧
      t.safeHeld = true ∧ t.gOpen = false ∧ t.flag Reg.OUT_CAUSE 15 = false ∧ stblPhase t = 0 ∧ Raised t blkPwr 5 ∧ SameMem s t := by
  refine ⟨_, exec_stableExit_failed phase awake none failed, ?_⟩
  have same : Rests (fun _ => False) s (s.setPw { s.pw with gated := false }) := ⟨rfl, rfl, sameRegs_of_regs rfl _⟩
  obtain ⟨u, isU⟩ := named (s.setPw { s.pw with gated := false })
  rw [isU] at same ⊢
  obtain ⟨heldR, reacts⟩ := react_wake u
  obtain ⟨r, isR⟩ := named (u.react 15)
  rw [isR] at heldR reacts ⊢
  have kept {a : Nat} (ha : ¬(gateRegs a ∨ evtOf blkOut 0 a)) : r.reg a = s.reg a := (reacts.regs a ha).trans (same.regs a id)
  have modeR : r.mode = mStable := (fld_of_reg 3 0 (kept (by unfold gateRegs evtOf; decide))).trans mode
  have phaseR : r.fld Reg.PWR_STBL_STAT 2 0 = 4 := (fld_of_reg 2 0 (kept (by unfold gateRegs evtOf; decide))).trans phase
  have modeD : r.modeD = s.modeD := modeD_of_reg (kept (by unfold gateRegs evtOf; decide))
  have e := enterMode_entered (s := r) (m := mSafe) (by decide) (by rw [modeR]; decide) fun _ _ => phaseR
  rw [if_pos rfl, if_pos modeR, modeD] at e
  obtain ⟨v, isV⟩ := named (r.enterMode mSafe)
  rw [isV] at e ⊢
  have heldV : v.safeHeld = true := e.held.trans heldR
  obtain ⟨clear, heldW, shut, stands⟩ := unstand_spec v
  obtain ⟨w, isW⟩ := named (v.unstand 15)
  rw [isW] at clear heldW shut stands ⊢
  obtain ⟨cleared, last⟩ := roused_spec w
  have apart : ¬(Reg.PWR_MODE = Reg.OUT_CAUSE ∨ gateRegs Reg.PWR_MODE) := by unfold gateRegs evtOf; decide
  exact ⟨(last.fld 3 0 (by decide)).trans ((stands.fld 3 0 apart).trans e.mode), (last.fld 7 4 (by decide)).trans ((stands.fld 7 4 apart).trans e.under),
    (last.flag 1 (a := Reg.OUT_STAT) (by decide)).trans (heldW.trans heldV), (last.flag 0 (a := Reg.OUT_STAT) (by decide)).trans (shut heldV),
    (last.flag 15 (by decide)).trans clear, cleared, last.raised 5 (stands.raised 5 (e.safe rfl)),
    sameMem_of_mem (last.mem.trans (stands.mem.trans (e.moves.mem.trans (reacts.mem.trans same.mem))))⟩

end

end Sys2Proof.Machine
end

section
/-! PROOFS. Adaptive voltage and ageing: the rails' loops, canary trips, rail settings and the re-plan (R463…R469). -/

namespace Sys2Proof.Machine

/-! Adaptive voltage (R463, R464, R465, R466). -/

section
variable {s : State} {k : Fin 8} {c : Fin 592}

theorem pmbusAlert_other {bad : BitVec 8} (bus : s.flag Reg.AVS_CFG 1 = true) : exec (.pmbusAlert bad) s = .next s := by
  simp only [exec_pmbusAlert, execPmbusAlert, bus, if_true]

theorem pmbusAlert_sound (bus : s.flag Reg.AVS_CFG 1 = false) : exec (.pmbusAlert 0) s = .next (s.raise blkPwr 15) := by
  have none : (List.range 8).filter (fun k => railOn s k && (0 : BitVec 8).getLsbD k) = [] := by simp
  simp only [exec_pmbusAlert, execPmbusAlert, bus, none, Bool.false_eq_true, if_false, List.foldl_nil]

/-- The voltage of one rail moved: its register's field, and its own part. -/
theorem setRailV_spec (s : State) (k : Nat) {w : Nat} (hw : w < 1024) : railV (setRailV s k w) k = w ∧
    SameRegs s (setRailV s k w) (· = Reg.AVS_RAIL_V k) ∧ (setRailV s k w).mem = s.mem := by
  have volts := (fld_setFld s (Reg.AVS_RAIL_V k) 9 0 w (by decide) (by decide)).trans (Nat.mod_eq_of_lt hw)
  have regs := sameRegs_setFld s (Reg.AVS_RAIL_V k) 9 0 w
  have mem := State.setFld_mem s (Reg.AVS_RAIL_V k) 9 0 w
  unfold setRailV; dsimp only
  obtain ⟨u, isU⟩ := named (s.setFld (Reg.AVS_RAIL_V k) 9 0 w)
  rw [isU] at volts regs mem ⊢
  exact ⟨volts, regs, mem⟩

/-- A rail's loop that moves it: its record, its voltage, and the telemetry read back. -/
def railMoved (s : State) (k : Nat) (r : Rail) (w x : Nat) : State := ((setRailV (setRail s k r) k w).setFld (Reg.AVS_RAIL_V k) 25 16 x).took

theorem railMoved_spec (s : State) (k : Nat) (r : Rail) {w : Nat} (hw : w < 1024) (x : Nat) : railV (railMoved s k r w x) k = w ∧
    SameRegs s (railMoved s k r w x) (· = Reg.AVS_RAIL_V k) ∧ (railMoved s k r w x).mem = s.mem := by
  obtain ⟨volts, regs, mem⟩ := setRailV_spec (setRail s k r) k hw
  unfold railMoved
  obtain ⟨u, isU⟩ := named (setRailV (setRail s k r) k w)
  rw [isU] at volts regs mem ⊢
  have volts' : railV (u.setFld (Reg.AVS_RAIL_V k) 25 16 x) k = w :=
    (fld_setFld_apart u _ _ _ _ _ _ (by decide) (by decide) (by decide)).trans volts
  have regs' := regs.trans (sameRegs_setFld u (Reg.AVS_RAIL_V k) 25 16 x)
  have mem' := (State.setFld_mem u (Reg.AVS_RAIL_V k) 25 16 x).trans mem
  obtain ⟨v, isV⟩ := named (u.setFld (Reg.AVS_RAIL_V k) 25 16 x)
  rw [isV] at volts' regs' mem' ⊢
  exact ⟨volts', regs', mem'⟩

/-- Below the slack the voltage goes up by 10 mV, within the rail's range. -/
theorem railLoop_raises {v : BitVec 8} (fed : feeds s k (canaryDom c) = true) (on : s.fld (Reg.PWR_PD_STAT (canaryDom c)) 2 0 = 1)
    (low : v.toNat < s.fld (Reg.AVS_RAIL_SLACK k) 7 0) (some : v ≠ 0) :
    ∃ r x, railLoop s [(c, v)] k = railMoved s k r (Nat.min (Nat.max (railV s k + 10) 680) 850) x := by
  have code : [(c, v)].filterMap (fun e => if feeds s k (canaryDom e.1) && s.fld (Reg.PWR_PD_STAT (canaryDom e.1)) 2 0 == 1
      then Option.some e.2.toNat else none) = [v.toNat] := by
    rw [List.filterMap_cons_some (b := v.toNat) (by rw [fed, on]; rfl), List.filterMap_nil]
  have nonzero : v.toNat ≠ 0 := fun h => some (BitVec.eq_of_toNat_eq h)
  unfold railLoop; rw [code]
  simp only [List.foldl_nil, low, if_true, nonzero, and_false, if_false, OfNat.zero_ne_ofNat]
  exact ⟨_, _, rfl⟩

theorem avsLoop_idle (codes : List (Fin 592 × BitVec 8)) (bad : BitVec 8) (off : s.flag Reg.AVS_CFG 0 = false) :
    Completes (.avsLoop codes bad) s fun t => t.regs = s.regs ∧ t.mem = s.mem ∧ t.pw.rails = s.pw.rails := by
  have taken : (codes.foldl (fun s e => canaryTake s e.1 e.2.toNat) s).regs = s.regs ∧
      (codes.foldl (fun s e => canaryTake s e.1 e.2.toNat) s).mem = s.mem ∧
      (codes.foldl (fun s e => canaryTake s e.1 e.2.toNat) s).pw.rails = s.pw.rails :=
    List.foldlRecOn (motive := fun (u : State) => u.regs = s.regs ∧ u.mem = s.mem ∧ u.pw.rails = s.pw.rails) codes _ ⟨rfl, rfl, rfl⟩ fun u h _ _ => h
  have off' : (codes.foldl (fun s e => canaryTake s e.1 e.2.toNat) s).flag Reg.AVS_CFG 0 = false :=
    (flag_of_reg 0 (sameRegs_of_regs taken.1 (fun _ => False) _ id)).trans off
  exact ⟨_, by simp only [exec_avsLoop, execAvsLoop, off', Bool.not_false, if_true], taken⟩

/-- One enabled rail and one report: the rail's own turn, with class 14 not standing. -/
theorem exec_avsLoop_one {v bad : BitVec 8} (one : (List.range 8).filter (railOn s) = [k.val]) (on : s.flag Reg.AVS_CFG 0 = true) {t : State}
    (turn : (if bad.getLsbD k then linkFail (canaryTake s c v.toNat) else
      if railActs (canaryTake s c v.toNat) k then railLoop (canaryTake s c v.toNat) [(c, v)] k else canaryTake s c v.toNat) = t)
    (sound : t.flag Reg.OUT_CAUSE 14 = false) : exec (.avsLoop [(c, v)] bad) s = .next t := by
  have one' : (List.range 8).filter (railOn (canaryTake s c v.toNat)) = [k.val] := one
  have on' : (canaryTake s c v.toNat).flag Reg.AVS_CFG 0 = true := on
  simp only [exec_avsLoop, execAvsLoop, List.foldl_cons, List.foldl_nil, on', one', turn, sound, Bool.not_true, Bool.false_eq_true, if_false, false_and]

theorem avsLoop_raises {v bad : BitVec 8} (one : (List.range 8).filter (railOn s) = [k.val]) (on : s.flag Reg.AVS_CFG 0 = true)
    (fed : feeds s k (canaryDom c) = true) (lit : s.fld (Reg.PWR_PD_STAT (canaryDom c)) 2 0 = 1) (acts : railActs s k = true)
    (good : bad.getLsbD k = false) (low : v.toNat < s.fld (Reg.AVS_RAIL_SLACK k) 7 0) (some : v ≠ 0) (sound : s.flag Reg.OUT_CAUSE 14 = false) :
    Completes (.avsLoop [(c, v)] bad) s fun t => railV t k = Nat.min (Nat.max (railV s k + 10) 680) 850 ∧
      SameRegs s t (· = Reg.AVS_RAIL_V k) ∧ SameMem s t := by
  have acts' : railActs (canaryTake s c v.toNat) k = true := acts
  obtain ⟨r, x, loops⟩ := railLoop_raises (s := canaryTake s c v.toNat) (k := k) (c := c) (v := v) fed lit low some
  have bound : Nat.min (Nat.max (railV (canaryTake s c v.toNat) k + 10) 680) 850 < 1024 := lt_of_le_of_lt (Nat.min_le_right _ _) (by decide)
  obtain ⟨volts, regs, mem⟩ := railMoved_spec (canaryTake s c v.toNat) k r bound x
  refine ⟨_, exec_avsLoop_one one on (by simp only [good, acts', Bool.false_eq_true, if_false, if_true]; exact loops) ?_, volts, regs,
    sameMem_of_mem mem⟩
  exact (flag_of_reg 14 (regs Reg.OUT_CAUSE (by unfold Reg.OUT_CAUSE Reg.AVS_RAIL_V; omega))).trans sound

theorem avsLoop_fails {v bad : BitVec 8} (one : (List.range 8).filter (railOn s) = [k.val]) (on : s.flag Reg.AVS_CFG 0 = true)
    (failed : bad.getLsbD k = true) (sound : s.flag Reg.OUT_CAUSE 14 = false) : Completes (.avsLoop [(c, v)] bad) s fun t =>
      railV t k = railV s k ∧ t.regN Reg.AVS_LINK_ERR_CNT = satNat 32 (s.regN Reg.AVS_LINK_ERR_CNT + 1) ∧ Raised t blkPwr 9 ∧
      SameRegs s t (fun a => a = Reg.AVS_LINK_ERR_CNT ∨ evtOf blkPwr 9 a) ∧ SameMem s t := by
  have told : Rests (fun _ => False) s (canaryTake s c v.toNat) := ⟨rfl, rfl, sameRegs_of_regs rfl _⟩
  have runs := exec_avsLoop_one (s := s) (k := k) (c := c) (v := v) (bad := bad) one on (if_pos failed)
  obtain ⟨u, isU⟩ := named (canaryTake s c v.toNat)
  rw [isU] at told runs
  have counted : (u.count Reg.AVS_LINK_ERR_CNT).regN Reg.AVS_LINK_ERR_CNT = satNat 32 (s.regN Reg.AVS_LINK_ERR_CNT + 1) := by
    rw [regN_count, regN_of_reg (told.regs _ id)]
  have same : SameRegs s (u.count Reg.AVS_LINK_ERR_CNT) (· = Reg.AVS_LINK_ERR_CNT) := fun a ha => (reg_count_ne u (Ne.symm ha)).trans (told.regs a id)
  have mem : (u.count Reg.AVS_LINK_ERR_CNT).mem = s.mem := (State.count_mem ..).trans told.mem
  unfold linkFail at runs
  obtain ⟨w, isW⟩ := named (u.count Reg.AVS_LINK_ERR_CNT)
  rw [isW] at counted same mem runs
  have below {a : Nat} (h : a < evtStatus blkPwr) (other : a ≠ Reg.AVS_LINK_ERR_CNT) : (w.raise blkPwr 9).reg a = s.reg a :=
    (reg_raise_lt w h).trans (same a other)
  have volts : (w.raise blkPwr 9).reg (Reg.AVS_RAIL_V k) = s.reg (Reg.AVS_RAIL_V k) :=
    below (by unfold Reg.AVS_RAIL_V evtStatus blockBase ctrlBase blkPwr; omega) (by unfold Reg.AVS_RAIL_V Reg.AVS_LINK_ERR_CNT; omega)
  exact ⟨_, runs ((flag_of_reg 14 (below (by decide) (by decide))).trans sound), fld_of_reg 9 0 volts,
    (regN_of_reg (reg_raise_lt w (by decide))).trans counted, raised_raise w (by decide),
    SameRegs.raise (fun a ha => same a fun h => ha (.inl h)) (fun a e => .inr e), sameMem_of_mem ((State.raise_mem ..).trans mem)⟩

end

/-! Canary trips and rails (R464, R466). -/

section
variable {s : State} {k : Fin 8} {c : Fin 592}

theorem exec_canaryTrip_raises (fed : (List.range 8).find? (fun k => railOn s k && feeds s k (canaryDom c)) = some k.val)
    (on : s.flag Reg.AVS_CFG 0 = true) (lit : s.fld (Reg.PWR_PD_STAT (canaryDom c)) 2 0 = 1) (acts : railActs s k = true) :
    exec (.canaryTrip c) s = .next
      (((setRailV (canaryTake s c 0) k (Nat.min (railV s k + 20) 850)).count Reg.AVS_TRIP_CNT).raise blkPwr 11) := by
  have fed' : (List.range 8).find? (fun k => railOn (canaryTake s c 0) k && feeds (canaryTake s c 0) k (canaryDom c)) = some k.val := fed
  have on' : (canaryTake s c 0).flag Reg.AVS_CFG 0 = true := on
  have lit' : (canaryTake s c 0).fld (Reg.PWR_PD_STAT (canaryDom c)) 2 0 = 1 := lit
  have acts' : railActs (canaryTake s c 0) k = true := acts
  have volts : railV (canaryTake s c 0) k = railV s k := rfl
  simp only [exec_canaryTrip, execCanaryTrip, fed', on', lit', acts', volts, and_self, if_true]

theorem canaryTrip_raises (fed : (List.range 8).find? (fun k => railOn s k && feeds s k (canaryDom c)) = some k.val)
    (on : s.flag Reg.AVS_CFG 0 = true) (lit : s.fld (Reg.PWR_PD_STAT (canaryDom c)) 2 0 = 1) (acts : railActs s k = true) :
    Completes (.canaryTrip c) s fun t => railV t k = Nat.min (railV s k + 20) 850 ∧
      t.regN Reg.AVS_TRIP_CNT = satNat 32 (s.regN Reg.AVS_TRIP_CNT + 1) ∧ Raised t blkPwr 11 ∧
      SameRegs s t (fun a => a = Reg.AVS_RAIL_V k ∨ a = Reg.AVS_TRIP_CNT ∨ evtOf blkPwr 11 a) ∧ SameMem s t := by
  refine ⟨_, exec_canaryTrip_raises fed on lit acts, ?_⟩
  have told : Rests (fun _ => False) s (canaryTake s c 0) := ⟨rfl, rfl, sameRegs_of_regs rfl _⟩
  have apart : Reg.AVS_TRIP_CNT ≠ Reg.AVS_RAIL_V k := by unfold Reg.AVS_TRIP_CNT Reg.AVS_RAIL_V; omega
  obtain ⟨w, isW⟩ := named (Nat.min (railV s k + 20) 850)
  have bound : w < 1024 := isW ▸ lt_of_le_of_lt (Nat.min_le_right _ _) (by decide)
  obtain ⟨volts, regs, mem⟩ := setRailV_spec (canaryTake s c 0) k bound
  rw [isW]
  obtain ⟨u, isU⟩ := named (setRailV (canaryTake s c 0) k w)
  rw [isU] at volts regs mem ⊢
  have counted : (u.count Reg.AVS_TRIP_CNT).regN Reg.AVS_TRIP_CNT = satNat 32 (s.regN Reg.AVS_TRIP_CNT + 1) := by
    rw [regN_count, regN_of_reg ((regs _ apart).trans (told.regs _ id))]
  have volts' : railV (u.count Reg.AVS_TRIP_CNT) k = w := (fld_of_reg 9 0 (reg_count_ne u apart)).trans volts
  have regs' : SameRegs s (u.count Reg.AVS_TRIP_CNT) (fun a => a = Reg.AVS_RAIL_V k ∨ a = Reg.AVS_TRIP_CNT) := fun a ha =>
    (reg_count_ne u fun h => ha (.inr h.symm)).trans ((regs a fun h => ha (.inl h)).trans (told.regs a id))
  have mem' : (u.count Reg.AVS_TRIP_CNT).mem = s.mem := (State.count_mem ..).trans (mem.trans told.mem)
  obtain ⟨v, isV⟩ := named (u.count Reg.AVS_TRIP_CNT)
  rw [isV] at counted volts' regs' mem' ⊢
  exact ⟨(fld_of_reg 9 0 (reg_raise_lt v (by unfold Reg.AVS_RAIL_V evtStatus blockBase ctrlBase blkPwr; omega))).trans volts',
    (regN_of_reg (reg_raise_lt v (by decide))).trans counted, raised_raise v (by decide),
    SameRegs.raise (fun a ha => regs' a fun h => ha (h.imp id .inl)) (fun a e => .inr (.inr e)), sameMem_of_mem ((State.raise_mem ..).trans mem')⟩

theorem canaryTrip_idle (off : s.flag Reg.AVS_CFG 0 = false) : Completes (.canaryTrip c) s fun t =>
    t.regs = s.regs ∧ t.mem = s.mem ∧ t.pw.rails = s.pw.rails := by
  have off' : (canaryTake s c 0).flag Reg.AVS_CFG 0 = false := off
  refine ⟨canaryTake s c 0, ?_, rfl, rfl, rfl⟩
  simp only [exec_canaryTrip, execCanaryTrip, off', Bool.false_eq_true, false_and, if_false]
  split <;> rfl

variable {v : BitVec 32} {lin : Bool}

theorem avsRailEnable_barred (blank : s.mode ≠ mBlank) (commission : s.mode ≠ mCommission) :
    exec (.avsRailEnable k v lin) s = .next (s.raise blkPwr 31) :=
  congrArg Host.Outcome.next (if_pos ⟨blank, commission⟩)

/-- The settings that a write of AVS_RAIL_CFG keeps. -/
def railWord (v : BitVec 32) : Nat := Nat.land v.toNat 0xFF7F

theorem railWord_lt (v : BitVec 32) : railWord v < 2 ^ 16 := lt_of_le_of_lt Nat.and_le_right (by decide)

theorem exec_avsRailEnable_set (mode : s.mode = mBlank ∨ s.mode = mCommission) (set : v.getLsbD 16 = true) :
    exec (.avsRailEnable k v lin) s = .next (
      if railBad (s.setRegN (Reg.AVS_RAIL_CFG k) (railWord v)) k lin then (s.setRegN (Reg.AVS_RAIL_CFG k) (railWord v)).raise blkPwr 10
      else (setRail (s.setRegN (Reg.AVS_RAIL_CFG k) (railWord v)) k
        { railOf (s.setRegN (Reg.AVS_RAIL_CFG k) (railWord v)) k with high := 0, zeros := 0 }).setFlag (Reg.AVS_RAIL_CFG k) 16 true) := by
  have set' : v.toNat.testBit 16 = true := set
  have open_ : ¬(s.mode ≠ mBlank ∧ s.mode ≠ mCommission) := fun ⟨a, b⟩ => mode.elim a b
  simp only [exec_avsRailEnable, execAvsRailEnable, railCfg, if_neg open_, set', Bool.not_true, Bool.false_eq_true, if_false, railWord]
  rfl

theorem avsRailEnable_on (mode : s.mode = mBlank ∨ s.mode = mCommission) (set : v.getLsbD 16 = true)
    (good : railBad (s.setRegN (Reg.AVS_RAIL_CFG k) (railWord v)) k lin = false) : Completes (.avsRailEnable k v lin) s fun t =>
      t.regN (Reg.AVS_RAIL_CFG k) = railWord v + 2 ^ 16 ∧ SameRegs s t (· = Reg.AVS_RAIL_CFG k) ∧ SameMem s t := by
  refine ⟨_, (exec_avsRailEnable_set mode set).trans (by rw [good, if_neg Bool.false_ne_true]), ?_⟩
  have low := railWord_lt v
  have kept : (s.setRegN (Reg.AVS_RAIL_CFG k) (railWord v)).regN (Reg.AVS_RAIL_CFG k) = railWord v := by
    rw [regN_setRegN, if_pos rfl, Nat.mod_eq_of_lt (by omega)]
  have regs := sameRegs_setRegN s (Reg.AVS_RAIL_CFG k) (railWord v)
  have mem := State.setRegN_mem s (Reg.AVS_RAIL_CFG k) (railWord v)
  obtain ⟨u, isU⟩ := named (s.setRegN (Reg.AVS_RAIL_CFG k) (railWord v))
  rw [isU] at kept regs mem ⊢
  have same : Rests (fun _ => False) u (setRail u k { railOf u k with high := 0, zeros := 0 }) := ⟨rfl, rfl, sameRegs_of_regs rfl _⟩
  obtain ⟨x, isX⟩ := named (setRail u k { railOf u k with high := 0, zeros := 0 })
  rw [isX] at same ⊢
  refine ⟨?_, (regs.trans fun a _ => same.regs a id).trans (sameRegs_setFlag x _ _ _),
    sameMem_of_mem ((State.setFlag_mem ..).trans (same.mem.trans mem))⟩
  unfold State.setFlag
  rw [regN_setFld _ _ _ _ _ _ (le_refl 16) (by decide), if_pos rfl, regN_of_reg (same.regs _ id), kept]
  unfold putBits bitsOf bit; simp only [if_true]; omega

theorem avsRailEnable_bad (mode : s.mode = mBlank ∨ s.mode = mCommission) (set : v.getLsbD 16 = true)
    (bad : railBad (s.setRegN (Reg.AVS_RAIL_CFG k) (railWord v)) k lin = true) : Completes (.avsRailEnable k v lin) s fun t =>
      railOn t k = false ∧ Raised t blkPwr 10 ∧ SameRegs s t (fun a => a = Reg.AVS_RAIL_CFG k ∨ evtOf blkPwr 10 a) ∧ SameMem s t := by
  refine ⟨_, (exec_avsRailEnable_set mode set).trans (by rw [bad, if_pos rfl]), ?_⟩
  have low := railWord_lt v
  have off : railOn (s.setRegN (Reg.AVS_RAIL_CFG k) (railWord v)) k = false :=
    (flag_setRegN s _ _ (by omega)).trans (Nat.testBit_lt_two_pow low)
  have regs := sameRegs_setRegN s (Reg.AVS_RAIL_CFG k) (railWord v)
  have mem := State.setRegN_mem s (Reg.AVS_RAIL_CFG k) (railWord v)
  obtain ⟨u, isU⟩ := named (s.setRegN (Reg.AVS_RAIL_CFG k) (railWord v))
  rw [isU] at off regs mem ⊢
  exact ⟨(flag_of_reg 16 (reg_raise_lt u (by unfold Reg.AVS_RAIL_CFG evtStatus blockBase ctrlBase blkPwr; omega))).trans off,
    raised_raise u (by decide), SameRegs.raise (fun a ha => regs a fun h => ha (.inl h)) (fun a e => .inr e),
    sameMem_of_mem ((State.raise_mem ..).trans mem)⟩

/-! Ageing (R467, R468, R469). -/

/-- An hour counted, and the period with it. -/
def hourCounted (s : State) : State :=
  let s := s.count Reg.AGE_HOURS
  let h := s.regN Reg.AGE_HOURS
  s.setPw { s.pw with since := s.pw.since + 1, hours := if h % 24 = 0 then h else s.pw.hours }

theorem exec_ageMeasure_one {i : Fin 24} {f r : BitVec 32} {w : Nat} (on : s.fld (Reg.PWR_PD_STAT (pairDom i)) 2 0 = 1)
    (ppm : agePpm s f.toNat r.toNat = (s, w)) : exec (.ageMeasure [(i, f, r)]) s = .next (hourCounted (s.setRegN (Reg.AGE_RO i) w)) := by
  simp only [exec_ageMeasure, execAgeMeasure, List.foldl_cons, List.foldl_nil, if_pos on, ppm]; rfl

theorem ageMeasure_one {i : Fin 24} {f r : BitVec 32} (on : s.fld (Reg.PWR_PD_STAT (pairDom i)) 2 0 = 1) (some : r ≠ 0) :
    Completes (.ageMeasure [(i, f, r)]) s fun t => t.regN (Reg.AGE_RO i) = satNat 24 ((r.toNat - f.toNat) * 1000000 / r.toNat) ∧
      t.regN Reg.AGE_HOURS = satNat 32 (s.regN Reg.AGE_HOURS + 1) ∧ t.pw.since = s.pw.since + 1 ∧
      SameRegs s t (fun a => a = Reg.AGE_RO i ∨ a = Reg.AGE_HOURS) ∧ SameMem s t := by
  have nonzero : r.toNat ≠ 0 := fun h => some (BitVec.eq_of_toNat_eq h)
  obtain ⟨w, isW⟩ := named (satNat 24 ((r.toNat - f.toNat) * 1000000 / r.toNat))
  have small : w < 2 ^ 24 := isW ▸ satNat_lt _ _
  have ppm : agePpm s f.toNat r.toNat = (s, w) := by unfold agePpm; rw [if_neg nonzero, isW]
  have apart : Reg.AGE_HOURS ≠ Reg.AGE_RO i := by unfold Reg.AGE_HOURS Reg.AGE_RO; omega
  have shown : (s.setRegN (Reg.AGE_RO i) w).regN (Reg.AGE_RO i) = w := by rw [regN_setRegN, if_pos rfl, Nat.mod_eq_of_lt (by omega)]
  have regs := sameRegs_setRegN s (Reg.AGE_RO i) w
  have mem := State.setRegN_mem s (Reg.AGE_RO i) w
  have pw := State.setRegN_pw s (Reg.AGE_RO i) w
  refine ⟨_, exec_ageMeasure_one on ppm, ?_⟩
  unfold hourCounted; dsimp only; rw [isW]
  obtain ⟨u, isU⟩ := named (s.setRegN (Reg.AGE_RO i) w)
  rw [isU] at shown regs mem pw ⊢
  have counted : (u.count Reg.AGE_HOURS).regN Reg.AGE_HOURS = satNat 32 (s.regN Reg.AGE_HOURS + 1) := by
    rw [regN_count, regN_of_reg (regs _ apart)]
  have shown' : (u.count Reg.AGE_HOURS).regN (Reg.AGE_RO i) = w := (regN_of_reg (reg_count_ne u apart)).trans shown
  have regs' : SameRegs s (u.count Reg.AGE_HOURS) (fun a => a = Reg.AGE_RO i ∨ a = Reg.AGE_HOURS) := fun a ha =>
    (reg_count_ne u fun h => ha (.inr h.symm)).trans (regs a fun h => ha (.inl h))
  have mem' : (u.count Reg.AGE_HOURS).mem = s.mem := (State.count_mem ..).trans mem
  have pw' : (u.count Reg.AGE_HOURS).pw = s.pw := (State.count_pw ..).trans pw
  obtain ⟨x, isX⟩ := named (u.count Reg.AGE_HOURS)
  rw [isX] at counted shown' regs' mem' pw' ⊢
  exact ⟨shown', counted, congrArg (·.since + 1) pw', regs', sameMem_of_mem mem'⟩

/-- The re-plan's end: the hours kept, the period begun anew, the event. -/
def replanned (s : State) : State := (s.setPw { s.pw with hours := s.regN Reg.AGE_HOURS, since := 0 }).raise blkPwr 13

theorem replanned_spec (s : State) : (replanned s).pw.since = 0 ∧ (replanned s).pw.hours = s.regN Reg.AGE_HOURS ∧ Raised (replanned s) blkPwr 13 ∧
    (replanned s).pw.hist = s.pw.hist ∧ SameRegs s (replanned s) (evtOf blkPwr 13) ∧ (replanned s).mem = s.mem ∧
    (replanned s).freeCtr = s.freeCtr := by
  unfold replanned
  have same : Rests (fun _ => False) s (s.setPw { s.pw with hours := s.regN Reg.AGE_HOURS, since := 0 }) := ⟨rfl, rfl, sameRegs_of_regs rfl _⟩
  have pw : (s.setPw { s.pw with hours := s.regN Reg.AGE_HOURS, since := 0 }).pw = { s.pw with hours := s.regN Reg.AGE_HOURS, since := 0 } := rfl
  have free : (s.setPw { s.pw with hours := s.regN Reg.AGE_HOURS, since := 0 }).freeCtr = s.freeCtr := rfl
  obtain ⟨u, isU⟩ := named (s.setPw { s.pw with hours := s.regN Reg.AGE_HOURS, since := 0 })
  rw [isU] at same pw free ⊢
  rw [State.raise_pw, pw]
  exact ⟨rfl, rfl, raised_raise u (by decide), rfl,
    (SameRegs.refl u (evtOf blkPwr 13)).raise (fun a e => e) |> SameRegs.trans (fun a _ => same.regs a id), (State.raise_mem ..).trans same.mem,
    (State.raise_freeCtr ..).trans free⟩

theorem replan_none (none : ∀ k, k < 8 → railOn s k = false) : replan s = replanned s := by
  have empty : (List.range 8).filter (railOn s) = [] := by
    rw [List.filter_eq_nil_iff]; intro k hk; rw [none k (List.mem_range.mp hk)]; exact Bool.false_ne_true
  unfold replan; rw [empty]; rfl

theorem replan_command_none (code : v.toNat % 256 = 128) (main : s.mode ≠ mBackup) (none : ∀ k, k < 8 → railOn s k = false) :
    Completes (.replan v) s fun t => t.pw.since = 0 ∧ t.pw.hours = s.regN Reg.AGE_HOURS ∧ Raised t blkPwr 13 ∧ t.pw.hist = s.pw.hist ∧
      SameRegs s t (evtOf blkPwr 13) ∧ SameMem s t := by
  obtain ⟨since, hours, event, hist, regs, mem, -⟩ := replanned_spec s
  exact ⟨_, congrArg Host.Outcome.next ((pwrCmd_replan code main).trans (replan_none none)), since, hours, event, hist, regs, sameMem_of_mem mem⟩

theorem agePeriodReplan_due (due : s.fld Reg.AGE_CFG 15 0 ≤ s.pw.since) (none : ∀ k, k < 8 → railOn s k = false) :
    Completes .agePeriodReplan s fun t => t.pw.since = 0 ∧ t.pw.hours = s.regN Reg.AGE_HOURS ∧ Raised t blkPwr 13 ∧ SameMem s t := by
  obtain ⟨since, hours, event, -, -, mem, -⟩ := replanned_spec s
  refine ⟨_, ?_, since, hours, event, sameMem_of_mem mem⟩
  rw [exec_agePeriodReplan, execAgePeriodReplan, if_pos due, replan_none none]

theorem exec_agePeriodReplan_early (early : s.pw.since < s.fld Reg.AGE_CFG 15 0) : exec .agePeriodReplan s = .next s := by
  rw [exec_agePeriodReplan, execAgePeriodReplan, if_neg (by omega)]

/-- The registers of one rail's plan. -/
def railPlanned (s : State) (k slack life res : Nat) (short : Bool) : State :=
  (((s.setRegN (Reg.AVS_RAIL_SLACK k) slack).setRegN (Reg.AGE_LIFE k) life).setRegN (Reg.AGE_RESERVE k) res).raiseIf short blkPwr 14

/-- Two free values taken, the plan's registers, its entry in the history and the rail's record. -/
theorem replanRail_eq (s : State) (k : Nat) : ∃ slack res short e r, replanRail s k =
    setRail ((railPlanned s.took.took k slack (s.took.free % 2 ^ 32) res short).setPw
      { (railPlanned s.took.took k slack (s.took.free % 2 ^ 32) res short).pw with
        hist := ((railPlanned s.took.took k slack (s.took.free % 2 ^ 32) res short).pw.hist ++ [e]).drop
          (((railPlanned s.took.took k slack (s.took.free % 2 ^ 32) res short).pw.hist ++ [e]).length - 64) }) k r :=
  ⟨_, _, _, _, _, rfl⟩

/-- The registers that one rail's plan writes. -/
def planRegs (k a : Nat) : Prop := a = Reg.AVS_RAIL_SLACK k ∨ a = Reg.AGE_LIFE k ∨ a = Reg.AGE_RESERVE k ∨ evtOf blkPwr 14 a

theorem railPlanned_spec (s : State) (k : Fin 8) (slack : Nat) {life : Nat} (hl : life < 2 ^ 32) (res : Nat) (short : Bool) :
    let t := railPlanned s k slack life res short
    t.regN (Reg.AGE_LIFE k) = life ∧ SameRegs s t (planRegs k) ∧ OnlyRegs s t := by
  intro t
  have shown : (((s.setRegN (Reg.AVS_RAIL_SLACK k) slack).setRegN (Reg.AGE_LIFE k) life).setRegN (Reg.AGE_RESERVE k) res).regN (Reg.AGE_LIFE k) = life := by
    rw [regN_setRegN, if_neg (by unfold Reg.AGE_RESERVE Reg.AGE_LIFE; omega), regN_setRegN, if_pos rfl, Nat.mod_eq_of_lt hl]
  refine ⟨(regN_of_reg (reg_raiseIf_lt _ _ (by unfold Reg.AGE_LIFE evtStatus blockBase ctrlBase blkPwr; omega))).trans shown, ?_,
    ((((OnlyRegs.refl s).setRegN _ _).setRegN _ _).setRegN _ _).raiseIf _ _ _⟩
  exact ((((SameRegs.refl s (planRegs k)).setRegN (.inl rfl) _).setRegN (.inr (.inl rfl)) _).setRegN (.inr (.inr (.inl rfl))) _).raiseIf _
    fun a e => .inr (.inr (.inr e))

theorem length_drop_to (l : List (List Byte)) (e : List Byte) : ((l ++ [e]).drop ((l ++ [e]).length - 64)).length = Nat.min 64 (l.length + 1) := by
  have m : Nat.min 64 (l.length + 1) = min 64 (l.length + 1) := rfl
  rw [List.length_drop, List.length_append, List.length_singleton, m]; omega

theorem replanRail_spec (s : State) (k : Fin 8) : (replanRail s k).regN (Reg.AGE_LIFE k) = s.took.free % 2 ^ 32 ∧
    (replanRail s k).freeCtr = s.freeCtr + 2 ∧ (replanRail s k).pw.hist.length = Nat.min 64 (s.pw.hist.length + 1) ∧
    SameRegs s (replanRail s k) (planRegs k) ∧ (replanRail s k).mem = s.mem := by
  obtain ⟨slack, res, short, e, r, eq⟩ := replanRail_eq s k
  have bound : s.took.free % 2 ^ 32 < 2 ^ 32 := Nat.mod_lt _ (by decide)
  obtain ⟨life, regs, only⟩ := railPlanned_spec s.took.took k slack bound res short
  rw [eq]
  obtain ⟨u, isU⟩ := named (railPlanned s.took.took k slack (s.took.free % 2 ^ 32) res short)
  rw [isU] at life regs only ⊢
  have hist : u.pw.hist = s.pw.hist := by rw [only.eq]; rfl
  have mem : u.mem = s.mem := by rw [only.eq]; rfl
  have free : u.freeCtr = s.freeCtr + 2 := by rw [only.eq]; rfl
  have taken : SameRegs s u (planRegs k) := SameRegs.trans (sameRegs_of_regs (t := s.took.took) rfl _) regs
  rw [← hist, ← mem, ← free]
  have same : Rests (fun _ => False) u (u.setPw { u.pw with hist := (u.pw.hist ++ [e]).drop ((u.pw.hist ++ [e]).length - 64) }) :=
    ⟨rfl, rfl, sameRegs_of_regs rfl _⟩
  have noted : (u.setPw { u.pw with hist := (u.pw.hist ++ [e]).drop ((u.pw.hist ++ [e]).length - 64) }).pw.hist.length =
      Nat.min 64 (u.pw.hist.length + 1) := length_drop_to u.pw.hist e
  have count : (u.setPw { u.pw with hist := (u.pw.hist ++ [e]).drop ((u.pw.hist ++ [e]).length - 64) }).freeCtr = u.freeCtr := rfl
  obtain ⟨x, isX⟩ := named (u.setPw { u.pw with hist := (u.pw.hist ++ [e]).drop ((u.pw.hist ++ [e]).length - 64) })
  rw [isX] at same noted count ⊢
  exact ⟨(regN_of_reg (same.regs _ id)).trans life, count, noted, taken.trans fun a _ => same.regs a id, same.mem⟩

theorem replan_command_one (code : v.toNat % 256 = 128) (main : s.mode ≠ mBackup) (one : (List.range 8).filter (railOn s) = [k.val]) :
    Completes (.replan v) s fun t => t.regN (Reg.AGE_LIFE k) = s.took.free % 2 ^ 32 ∧ t.freeCtr = s.freeCtr + 2 ∧
      t.pw.hist.length = Nat.min 64 (s.pw.hist.length + 1) ∧ t.pw.since = 0 ∧ Raised t blkPwr 13 ∧
      SameRegs s t (fun a => a = Reg.AVS_RAIL_SLACK k ∨ a = Reg.AGE_LIFE k ∨ a = Reg.AGE_RESERVE k ∨ evtOf blkPwr 13 a ∨ evtOf blkPwr 14 a) ∧
      SameMem s t := by
  have eq : replan s = replanned (replanRail s k) := by unfold replan; rw [one]; rfl
  refine ⟨_, congrArg Host.Outcome.next ((pwrCmd_replan code main).trans eq), ?_⟩
  obtain ⟨life, free, hist, regs, mem⟩ := replanRail_spec s k
  obtain ⟨u, isU⟩ := named (replanRail s k)
  rw [isU] at life free hist regs mem ⊢
  obtain ⟨since, -, event, hist', regs', mem', free'⟩ := replanned_spec u
  have below : Reg.AGE_LIFE k < evtStatus blkPwr := by unfold Reg.AGE_LIFE evtStatus blockBase ctrlBase blkPwr; omega
  refine ⟨(regN_of_reg (regs' _ ?_)).trans life, free'.trans free, by rw [hist']; exact hist, since, event, fun a ha => ?_,
    sameMem_of_mem (mem'.trans mem)⟩
  · unfold evtOf evtStatus evtCount blockBase ctrlBase blkPwr Reg.AGE_LIFE; omega
  · refine (regs' a fun h => ha (.inr (.inr (.inr (.inl h))))).trans (regs a ?_)
    rintro (h | h | h | h)
    exacts [ha (.inl h), ha (.inr (.inl h)), ha (.inr (.inr (.inl h))), ha (.inr (.inr (.inr (.inr h))))]

theorem bucketRecord_appends (s : State) : Completes .bucketRecord s fun t => t.sec.journal = (attIdx s, attTokens s, genNow s) :: s.sec.journal ∧
    t = { s with sec := t.sec } ∧ t.sec = { s.sec with journal := t.sec.journal } := ⟨_, rfl, rfl, rfl, rfl⟩

end

end Sys2Proof.Machine
end

section
/-! PROOFS. Resets and start-up: what a reset keeps, the start of BOOT, the timing PLL and the end of BOOT (R451, R474, R481, R482, R522, R577…R579). -/

namespace Sys2Proof.Machine

/-! Resets: what the device held in reset and a system reset keep (R451, R556, R579). -/

section
variable {s : State}

theorem reg_filter {t : State} {q : Nat → Bool} (h : t.regs = s.regs.filter (fun e => q e.1)) (a : Nat) :
    t.reg a = if q a then s.reg a else regReset a := by
  unfold State.reg; rw [h]; exact sget_filter regReset q a s.regs

theorem reg_powerDown (s : State) (a : Nat) : (powerDown s).reg a = if backupReg a then s.reg a else regReset a := reg_filter rfl a

/-- The registers of the device held in reset, beside PD_34's. -/
theorem powerDown_shown (s : State) : (powerDown s).mode = mBoot ∧ (powerDown s).rcoOk = false ∧ (powerDown s).gOpen = false := by
  have mode : (powerDown s).reg Reg.PWR_MODE = regReset Reg.PWR_MODE := reg_powerDown s Reg.PWR_MODE
  have stat : (powerDown s).reg Reg.OUT_STAT = regReset Reg.OUT_STAT := reg_powerDown s Reg.OUT_STAT
  refine ⟨?_, ?_, ?_⟩
  · unfold State.mode State.fld State.regN; rw [mode]; decide +kernel
  · unfold State.rcoOk State.flag State.regN; rw [stat]; decide +kernel
  · unfold State.gOpen State.flag State.regN; rw [stat]; decide +kernel

theorem bbkStore_backup {k : Nat} (hk : k < 384) : backupReg (Reg.BBK_STORE k) = true := by
  unfold backupReg Reg.BBK_STORE; simp only [Bool.or_eq_true, Bool.and_eq_true, decide_eq_true_eq]; omega

/-- A state that differs in registers alone keeps the power block's, the calendar's, the stores' and security's own parts. -/
theorem OnlyRegs.kept {t : State} (h : OnlyRegs s t) : t.pw = s.pw ∧ t.cal = s.cal ∧ t.sec = s.sec ∧ t.fmp = s.fmp ∧ t.svc = s.svc := by
  obtain ⟨r, rfl⟩ := h; exact ⟨rfl, rfl, rfl, rfl, rfl⟩

theorem exec_mainPowerLoss_eq (s : State) : exec .mainPowerLoss s = .next
    (((powerDown (s.setPw { s.pw with main := false })).setRegN Reg.PWR_MODE 0).setFld (Reg.PWR_PD_STAT 34) 2 0 1) := rfl

theorem mainPowerLoss_backup (s : State) : Completes .mainPowerLoss s fun t => t.mode = mBackup ∧ t.pw.main = false ∧ t.pw.boot = 0 ∧
    t.fld (Reg.PWR_PD_STAT 34) 2 0 = 1 ∧ t.cal = s.cal ∧ t.sec.otp = s.sec.otp ∧ t.sec.tack = [] ∧ t.fmp.sects = s.fmp.sects ∧
    (∀ k, k < 384 → t.regN (Reg.BBK_STORE k) = s.regN (Reg.BBK_STORE k)) ∧ t.rcoOk = false ∧ t.gOpen = false := by
  obtain ⟨-, rco, gate⟩ := powerDown_shown (s.setPw { s.pw with main := false })
  have store {k : Nat} (hk : k < 384) : (powerDown (s.setPw { s.pw with main := false })).reg (Reg.BBK_STORE k) = s.reg (Reg.BBK_STORE k) :=
    (reg_powerDown _ _).trans (if_pos (bbkStore_backup hk))
  have pw : (powerDown (s.setPw { s.pw with main := false })).pw = { main := false, hist := s.pw.hist, hours := s.pw.hours } := rfl
  have cal : (powerDown (s.setPw { s.pw with main := false })).cal = s.cal := rfl
  have sec : (powerDown (s.setPw { s.pw with main := false })).sec = { otp := s.sec.otp, journal := s.sec.journal } := rfl
  have sects : (powerDown (s.setPw { s.pw with main := false })).fmp.sects = s.fmp.sects := rfl
  refine ⟨_, exec_mainPowerLoss_eq s, ?_⟩
  obtain ⟨u, isU⟩ := named (powerDown (s.setPw { s.pw with main := false }))
  rw [isU] at rco gate store pw cal sec sects ⊢
  have same : SameRegs u ((u.setRegN Reg.PWR_MODE 0).setFld (Reg.PWR_PD_STAT 34) 2 0 1) (fun a => a = Reg.PWR_MODE ∨ a = Reg.PWR_PD_STAT 34) :=
    ((SameRegs.refl u _).setRegN (.inl rfl) _).setFld (.inr rfl) _ _ _
  obtain ⟨kpw, kcal, ksec, kfmp, -⟩ := (((OnlyRegs.refl u).setRegN Reg.PWR_MODE 0).setFld (Reg.PWR_PD_STAT 34) 2 0 1).kept
  have on := fld_pdStat (u.setRegN Reg.PWR_MODE 0) 34 1 (by decide)
  have mode : ((u.setRegN Reg.PWR_MODE 0).setFld (Reg.PWR_PD_STAT 34) 2 0 1).mode = mBackup := by
    refine (fld_of_reg 3 0 (reg_setFld_ne _ _ _ _ (by decide))).trans ?_
    unfold State.fld; rw [regN_setRegN, if_pos rfl]; rfl
  obtain ⟨v, isV⟩ := named ((u.setRegN Reg.PWR_MODE 0).setFld (Reg.PWR_PD_STAT 34) 2 0 1)
  rw [isV] at same kpw kcal ksec kfmp on mode ⊢
  refine ⟨mode, by rw [kpw, pw], by rw [kpw, pw], on, kcal.trans cal, by rw [ksec, sec], by rw [ksec, sec], by rw [kfmp, sects], fun k hk => ?_,
    (flag_of_reg 3 (same Reg.OUT_STAT (by decide))).trans rco, (flag_of_reg 0 (same Reg.OUT_STAT (by decide))).trans gate⟩
  exact regN_of_reg ((same _ (by unfold Reg.BBK_STORE Reg.PWR_MODE Reg.PWR_PD_STAT; omega)).trans (store hk))

theorem exec_porNLow_eq (s : State) : exec .porNLow s = .next (if s.mode = mBackup then (powerDown s).setRegN Reg.PWR_MODE 0 else powerDown s) := rfl

theorem porNLow_resets (s : State) : Completes .porNLow s fun t => t.pw.boot = 0 ∧ t.pw.main = s.pw.main ∧ t.cal = s.cal ∧ t.sec.otp = s.sec.otp ∧
    t.sec.tack = [] ∧ t.fmp.sects = s.fmp.sects ∧ t.rcoOk = false ∧ t.gOpen = false ∧ (s.mode = mBackup → t.mode = mBackup) := by
  obtain ⟨-, rco, gate⟩ := powerDown_shown s
  have pw : (powerDown s).pw = { main := s.pw.main, hist := s.pw.hist, hours := s.pw.hours } := rfl
  have cal : (powerDown s).cal = s.cal := rfl
  have sec : (powerDown s).sec = { otp := s.sec.otp, journal := s.sec.journal } := rfl
  have sects : (powerDown s).fmp.sects = s.fmp.sects := rfl
  refine ⟨_, exec_porNLow_eq s, ?_⟩
  obtain ⟨u, isU⟩ := named (powerDown s)
  rw [isU] at rco gate pw cal sec sects ⊢
  split
  next backup =>
    have same := sameRegs_setRegN u Reg.PWR_MODE 0
    have mode : (u.setRegN Reg.PWR_MODE 0).mode = mBackup := by unfold State.mode State.fld; rw [regN_setRegN, if_pos rfl]; rfl
    obtain ⟨kpw, kcal, ksec, kfmp, -⟩ := ((OnlyRegs.refl u).setRegN Reg.PWR_MODE 0).kept
    obtain ⟨v, isV⟩ := named (u.setRegN Reg.PWR_MODE 0)
    rw [isV] at same mode kpw kcal ksec kfmp ⊢
    exact ⟨by rw [kpw, pw], by rw [kpw, pw], kcal.trans cal, by rw [ksec, sec], by rw [ksec, sec], by rw [kfmp, sects],
      (flag_of_reg 3 (same Reg.OUT_STAT (by decide))).trans rco, (flag_of_reg 0 (same Reg.OUT_STAT (by decide))).trans gate, fun _ => mode⟩
  next main =>
    exact ⟨by rw [pw], by rw [pw], cal, by rw [sec], by rw [sec], sects, rco, gate, fun h => absurd h main⟩

/-! The system reset. -/

/-- The registers that a system reset keeps (R451, R516). -/
def resetKeeps (a : Nat) : Bool :=
  backupReg a || decide (blockOf a = blkDbg) || a == Reg.CFG_STRAP || a == Reg.OUT_FIRST || a == Reg.OUT_LATCH
    || a == Reg.OUT_FIRST_PT || (List.range 64).any (fun b => a == Reg.SP_BANK_CFG b || a == Reg.SP_BANK_STAT b)

/-- What a system reset keeps of a state, before the power block and OTP are shown anew. -/
def resetBase (s : State) : State :=
  { State.reset with
    regs := s.regs.filter (fun e => resetKeeps e.1)
    mem := s.mem
    cal := s.cal
    pac := { snap := s.pac.snap }
    noc := { spErr := s.noc.spErr, spTo := s.noc.spTo, spNext := s.noc.spNext, spPrev := s.noc.spPrev }
    ext := { errs := s.ext.errs }
    fmp := { sects := s.fmp.sects, at_ := s.fmp.at_ }
    sec := { otp := s.sec.otp, tack := s.sec.tack, roles := s.sec.roles, relay := s.sec.relay, grant := s.sec.grant, journal := s.sec.journal }
    pw := { main := s.pw.main, hist := s.pw.hist, hours := s.pw.hours, porAt := s.pw.porAt, boot := 1, oldMute := s.asyncLatch
            seq := bootDomains.filter (fun d => !powered s d) }
    out := { left := s.out.left || s.mode == mSafe }
    dbg := { s.dbg with halted := [], gprs := [], dm := sinsert dmHaveReset 3 (sdrop dmHaveReset s.dbg.dm) }
    tim := { cks := s.tim.cks }
    ans := s.ans, pending := s.pending, freeCtr := s.freeCtr }

/-- The domains that are on stay on. -/
def padsOn (l : List Nat) (t : State) : State := l.foldl (fun t d => t.setFld (Reg.PWR_PD_STAT d) 2 0 1) t

theorem systemReset_eq (s : State) (cause : Nat) : systemReset s cause =
    (otpRead (((padsOn ((List.range 35).filter (powered s)) (resetBase s)).setFlag Reg.OUT_STAT 4 s.asyncLatch).setRegN
      Reg.PWR_RESET_CAUSE (2 ^ cause))).outStat := rfl

/-- The registers that reading OTP shows (R474, R483, R490). -/
def otpRegs (a : Nat) : Prop :=
  a = Reg.SEC_LC ∨ a = Reg.SEC_STAT ∨ a = Reg.SEC_ARB_LO ∨ a = Reg.SEC_ARB_HI ∨ a = Reg.AGE_SENS ∨ evtOf blkSec 2 a

theorem moves_otpRead (s : State) : Moves otpRegs s (otpRead s) := by
  have shows (t : State) : Moves otpRegs t (secShow t) := by
    unfold secShow
    exact ((((((Moves.refl t).setFlag _ _ (.inr (.inl rfl)) (by decide)).setFld _ _ _ (.inr (.inl rfl)) (by decide)).setFld _ _ _ (.inr (.inl rfl))
      (by decide)).setFlag _ _ (.inr (.inl rfl)) (by decide)).setRegN _ (.inr (.inr (.inl rfl))) (by decide)).setRegN _
        (.inr (.inr (.inr (.inl rfl)))) (by decide)
  unfold otpRead; dsimp only
  exact (((((Moves.refl s).setRegN _ (.inl rfl) (by decide)).raiseIf _ (by decide) fun a e => .inr (.inr (.inr (.inr (.inr e)))))).setRegN _
    (.inr (.inr (.inr (.inr (.inl rfl))))) (by decide)).trans (shows _)

/-- The registers that a system reset shows anew. -/
def resetRegs (a : Nat) : Prop :=
  (∃ d < 35, a = Reg.PWR_PD_STAT d) ∨ a = Reg.OUT_STAT ∨ a = Reg.PWR_RESET_CAUSE ∨ otpRegs a ∨ gateRegs a

/-- What a system reset comes to. -/
structure ResetDone (s t : State) (cause : Nat) : Prop where
  moves : Moves resetRegs (resetBase s) t
  cause : t.regN Reg.PWR_RESET_CAUSE = 2 ^ cause
  rco   : t.rcoOk = false
  gate  : t.gOpen = false
  latch : t.asyncLatch = s.asyncLatch

theorem moves_padsOn {l : List Nat} (hl : ∀ d ∈ l, d < 35) (t : State) : Moves (fun a => ∃ d < 35, a = Reg.PWR_PD_STAT d) t (padsOn l t) :=
  List.foldlRecOn l _ (Moves.refl t) fun u h d hd =>
    h.setFld _ _ _ ⟨d, hl d hd, rfl⟩ (by have := hl d hd; unfold Reg.PWR_PD_STAT evtStatus blockBase ctrlBase blkPwr; omega)

theorem resetBase_reg (s : State) (a : Nat) : (resetBase s).reg a = if resetKeeps a then s.reg a else regReset a := reg_filter rfl a

theorem resetDone (s : State) {cause : Nat} (hc : cause < 32) : ResetDone s (systemReset s cause) cause := by
  rw [systemReset_eq]
  have stat : (resetBase s).reg Reg.OUT_STAT = regReset Reg.OUT_STAT :=
    (resetBase_reg s _).trans (if_neg (by rw [show resetKeeps Reg.OUT_STAT = false by decide +kernel]; exact Bool.false_ne_true))
  obtain ⟨b, isB⟩ := named (resetBase s)
  rw [isB] at stat ⊢
  have pads := moves_padsOn (l := (List.range 35).filter (powered s)) (fun d hd => List.mem_range.mp (List.mem_filter.mp hd).1) b
  obtain ⟨p, isP⟩ := named (padsOn ((List.range 35).filter (powered s)) b)
  rw [isP] at pads ⊢
  have statP : p.reg Reg.OUT_STAT = regReset Reg.OUT_STAT :=
    (pads.regs _ fun ⟨d, _, e⟩ => by revert e; unfold Reg.OUT_STAT Reg.PWR_PD_STAT; omega).trans stat
  have shut : p.flag Reg.OUT_STAT 0 = false := by unfold State.flag State.regN; rw [statP]; decide +kernel
  have unready : p.flag Reg.OUT_STAT 3 = false := by unfold State.flag State.regN; rw [statP]; decide +kernel
  have latched : Moves (· = Reg.OUT_STAT) p (p.setFlag Reg.OUT_STAT 4 s.asyncLatch) :=
    Moves.setFlag (W := (· = Reg.OUT_STAT)) (Moves.refl p) 4 s.asyncLatch rfl (by decide)
  have latch := flag_setFlag p Reg.OUT_STAT 4 s.asyncLatch (by decide)
  have shut' := (flag_setFlag_ne p Reg.OUT_STAT 4 0 s.asyncLatch (by decide) (by decide)).trans shut
  have unready' := (flag_setFlag_ne p Reg.OUT_STAT 4 3 s.asyncLatch (by decide) (by decide)).trans unready
  obtain ⟨q, isQ⟩ := named (p.setFlag Reg.OUT_STAT 4 s.asyncLatch)
  rw [isQ] at latched latch shut' unready' ⊢
  have caused : Moves (· = Reg.PWR_RESET_CAUSE) q (q.setRegN Reg.PWR_RESET_CAUSE (2 ^ cause)) :=
    Moves.setRegN (W := (· = Reg.PWR_RESET_CAUSE)) (Moves.refl q) (2 ^ cause) rfl (by decide)
  have shown : (q.setRegN Reg.PWR_RESET_CAUSE (2 ^ cause)).regN Reg.PWR_RESET_CAUSE = 2 ^ cause := by
    rw [regN_setRegN, if_pos rfl]; exact Nat.mod_eq_of_lt (Nat.pow_lt_pow_right (by decide) hc)
  obtain ⟨r, isR⟩ := named (q.setRegN Reg.PWR_RESET_CAUSE (2 ^ cause))
  rw [isR] at caused shown ⊢
  have read := moves_otpRead r
  have last := moves_outStat (otpRead r)
  have statR : (otpRead r).reg Reg.OUT_STAT = q.reg Reg.OUT_STAT :=
    (read.regs _ (by unfold otpRegs evtOf; decide)).trans (caused.regs _ (by decide))
  have bits {n : Nat} (hn : n = 0 ∨ n = 1 ∨ n = 3 ∨ n = 4) : (otpRead r).outStat.flag Reg.OUT_STAT n = q.flag Reg.OUT_STAT n :=
    (flag_outStat _ hn).trans (flag_of_reg n statR)
  refine ⟨?_, ?_, (bits (by decide)).trans unready', (bits (by decide)).trans shut', (bits (by decide)).trans latch⟩
  · have first : Moves resetRegs b p := pads.mono fun a e => .inl e
    have second : Moves resetRegs p q := latched.mono fun a e => .inr (.inl e)
    have third : Moves resetRegs q r := caused.mono fun a e => .inr (.inr (.inl e))
    have fourth : Moves resetRegs r (otpRead r) := read.mono fun a e => .inr (.inr (.inr (.inl e)))
    have fifth : Moves resetRegs (otpRead r) (otpRead r).outStat := last.mono fun a e => .inr (.inr (.inr (.inr e)))
    rw [isB]; exact (((first.trans second).trans third).trans fourth).trans fifth
  · exact (regN_of_reg ((last.regs _ (by unfold gateRegs evtOf; decide)).trans (read.regs _ (by unfold otpRegs evtOf; decide)))).trans shown

/-- A register that a system reset neither shows anew nor, outside those it keeps, leaves at other than its reset value. -/
theorem ResetDone.reg {t : State} {cause a : Nat} (h : ResetDone s t cause) (ha : ¬resetRegs a) :
    t.reg a = if resetKeeps a then s.reg a else regReset a := (h.moves.regs a ha).trans (resetBase_reg s a)

theorem not_resetRegs {a : Nat} (pads : a < Reg.PWR_PD_STAT 0 ∨ Reg.PWR_PD_STAT 35 ≤ a)
    (other : ¬(a = Reg.OUT_STAT ∨ a = Reg.PWR_RESET_CAUSE ∨ otpRegs a ∨ gateRegs a)) : ¬resetRegs a := by
  rintro (⟨d, hd, e⟩ | h)
  · subst e; unfold Reg.PWR_PD_STAT at pads; omega
  · exact other h

/-- What the clauses of the reset pin and of RESET ask. -/
theorem ResetDone.clauses {t : State} {cause : Nat} (h : ResetDone s t cause) : t.mode = mBoot ∧ t.regN Reg.PWR_RESET_CAUSE = 2 ^ cause ∧
    t.pw.boot = 1 ∧ t.rcoOk = false ∧ t.gOpen = false ∧ t.asyncLatch = s.asyncLatch ∧ t.regN Reg.CFG_STRAP = s.regN Reg.CFG_STRAP ∧
    t.regN Reg.OUT_LATCH = s.regN Reg.OUT_LATCH ∧ t.pac.ops = [] ∧ t.fmp.queue = [] ∧ t.dbg.halted = [] ∧ t.sec.tack = s.sec.tack ∧
    t.sec.otp = s.sec.otp ∧ t.cal = s.cal ∧ SameMem s t := by
  have mode : t.mode = mBoot := by
    have reg : t.reg Reg.PWR_MODE = regReset Reg.PWR_MODE :=
      (h.reg (not_resetRegs (by decide) (by unfold otpRegs gateRegs evtOf; decide))).trans
        (if_neg (by rw [show resetKeeps Reg.PWR_MODE = false by decide +kernel]; exact Bool.false_ne_true))
    unfold State.mode State.fld State.regN; rw [reg]; decide +kernel
  have strap : t.regN Reg.CFG_STRAP = s.regN Reg.CFG_STRAP :=
    regN_of_reg ((h.reg (not_resetRegs (by decide) (by unfold otpRegs gateRegs evtOf; decide))).trans (if_pos (by decide +kernel)))
  have latch : t.regN Reg.OUT_LATCH = s.regN Reg.OUT_LATCH :=
    regN_of_reg ((h.reg (not_resetRegs (by decide) (by unfold otpRegs gateRegs evtOf; decide))).trans (if_pos (by decide +kernel)))
  obtain ⟨r, l, o, x, eq⟩ := h.moves.rest
  refine ⟨mode, h.cause, ?_, h.rco, h.gate, h.latch, strap, latch, ?_, ?_, ?_, ?_, ?_, ?_, sameMem_of_mem h.moves.mem⟩ <;> rw [eq] <;> rfl

theorem exec_srstN_resets (up : s.pw.boot ≠ 0) : exec .srstN s = .next (systemReset s 1) := by
  simp only [exec_srstN, execSrstN, if_neg up]

theorem exec_srstN_idle (down : s.pw.boot = 0) : exec .srstN s = .next s := by simp only [exec_srstN, execSrstN, if_pos down]

/-! RCO judged stable (R522). -/

theorem exec_rcoStable_idle (other : s.pw.boot ≠ 1) : exec .rcoStable s = .next s := by simp only [exec_rcoStable, execRcoStable, if_pos other]

theorem exec_rcoStable_plain (boot : s.pw.boot = 1) (clear : s.asyncLatch = false) (fresh : s.pw.oldMute = false) (runs : 0 ∉ s.dbg.rhalt) :
    exec .rcoStable s = .next ((s.setFlag Reg.OUT_STAT 3 true).setPw { s.pw with boot := 2, oldMute := false }).outStat := by
  have pw : (s.setFlag Reg.OUT_STAT 3 true).pw = s.pw := rfl
  have dbg : ((s.setFlag Reg.OUT_STAT 3 true).setPw { s.pw with boot := 2, oldMute := false }).dbg.rhalt.contains 0 = false := by
    simpa using runs
  have clear' : (s.setFlag Reg.OUT_STAT 3 true).asyncLatch = false := (flag_setFlag_ne s Reg.OUT_STAT 3 4 true (by decide) (by decide)).trans clear
  simp only [exec_rcoStable, execRcoStable, boot, pw, fresh, clear', dbg, ne_eq, not_true_eq_false, Bool.false_eq_true, if_false]

theorem rcoStable_starts (boot : s.pw.boot = 1) (clear : s.asyncLatch = false) (fresh : s.pw.oldMute = false) (runs : 0 ∉ s.dbg.rhalt) :
    Completes .rcoStable s fun t => t.rcoOk = true ∧ t.pw.boot = 2 ∧ t.asyncLatch = false ∧ t.gOpen = s.gOpen ∧ t.mode = s.mode ∧ SameMem s t := by
  refine ⟨_, exec_rcoStable_plain boot clear fresh runs, ?_⟩
  have ready := flag_setFlag s Reg.OUT_STAT 3 true (by decide)
  have gate := flag_setFlag_ne s Reg.OUT_STAT 3 0 true (by decide) (by decide)
  have latch := (flag_setFlag_ne s Reg.OUT_STAT 3 4 true (by decide) (by decide)).trans clear
  have same := sameRegs_setFlag s Reg.OUT_STAT 3 true
  have mem := State.setFlag_mem s Reg.OUT_STAT 3 true
  obtain ⟨u, isU⟩ := named (s.setFlag Reg.OUT_STAT 3 true)
  rw [isU] at ready gate latch same mem ⊢
  have started : Rests (fun _ => False) u (u.setPw { s.pw with boot := 2, oldMute := false }) := ⟨rfl, rfl, sameRegs_of_regs rfl _⟩
  have boots : (u.setPw { s.pw with boot := 2, oldMute := false }).pw.boot = 2 := rfl
  obtain ⟨v, isV⟩ := named (u.setPw { s.pw with boot := 2, oldMute := false })
  rw [isV] at started boots ⊢
  have last := moves_outStat v
  have bits {n : Nat} (hn : n = 0 ∨ n = 1 ∨ n = 3 ∨ n = 4) : v.outStat.flag Reg.OUT_STAT n = u.flag Reg.OUT_STAT n :=
    (flag_outStat v hn).trans (flag_of_reg n (started.regs _ id))
  exact ⟨(bits (by decide)).trans ready, (congrArg (·.boot) last.pw).trans boots, (bits (by decide)).trans latch, (bits (by decide)).trans gate,
    (last.fld 3 0 mode_gate).trans (fld_of_reg 3 0 ((started.regs _ id).trans (same _ (by decide)))),
    sameMem_of_mem (last.mem.trans (started.mem.trans mem))⟩

end

/-! Start-up (R451, R577, R578). -/

/-- Memory, the power and service blocks, the Timeline and the registers outside W are as before. -/
structure Keeps (W : Nat → Prop) (s t : State) : Prop where
  mem  : t.mem = s.mem
  pw   : t.pw = s.pw
  svc  : t.svc = s.svc
  tl   : t.tim.tl = s.tim.tl
  ckt  : t.tim.ckt = s.tim.ckt
  regs : SameRegs s t W

namespace Keeps

variable {W V : Nat → Prop} {s t u : State} {a b n : Nat}

theorem refl (s : State) : Keeps W s s := ⟨rfl, rfl, rfl, rfl, rfl, SameRegs.refl s W⟩
theorem trans (h : Keeps W s t) (k : Keeps W t u) : Keeps W s u :=
  ⟨k.mem.trans h.mem, k.pw.trans h.pw, k.svc.trans h.svc, k.tl.trans h.tl, k.ckt.trans h.ckt, h.regs.trans k.regs⟩
theorem mono (h : Keeps W s t) (sub : ∀ a, W a → V a) : Keeps V s t :=
  ⟨h.mem, h.pw, h.svc, h.tl, h.ckt, fun a ha => h.regs a fun w => ha (sub a w)⟩
theorem setRegN (h : Keeps W s t) (v : Nat) (ha : W a) : Keeps W s (t.setRegN a v) :=
  ⟨h.mem, h.pw, h.svc, h.tl, h.ckt, h.regs.setRegN ha v⟩
theorem setFld (h : Keeps W s t) (hi lo v : Nat) (ha : W a) : Keeps W s (t.setFld a hi lo v) := h.setRegN _ ha
theorem setFlag (h : Keeps W s t) (n : Nat) (b : Bool) (ha : W a) : Keeps W s (t.setFlag a n b) := h.setRegN _ ha
theorem addFld (h : Keeps W s t) (hi lo v : Nat) (ha : W a) : Keeps W s (t.addFld a hi lo v) := h.setRegN _ ha
theorem raise (h : Keeps W s t) (hw : ∀ a, evtOf b n a → W a) : Keeps W s (t.raise b n) :=
  (h.setRegN _ (hw _ (.inl rfl))).setRegN _ (hw _ (.inr rfl))
theorem setCal (h : Keeps W s t) (x : Calendar) : Keeps W s (t.setCal x) := ⟨h.mem, h.pw, h.svc, h.tl, h.ckt, h.regs⟩
theorem setHo (h : Keeps W s t) (x : Holdover) : Keeps W s (t.setHo x) := ⟨h.mem, h.pw, h.svc, h.tl, h.ckt, h.regs⟩

theorem foldl {α : Type} {f : State → α → State} {l : List α} (h : Keeps W s t) (hf : ∀ u, ∀ x ∈ l, Keeps W u (f u x)) : Keeps W s (l.foldl f t) :=
  List.foldlRecOn l f h fun u k x hx => k.trans (hf u x hx)

end Keeps

theorem Moves.cks {W : Nat → Prop} {s t : State} (h : Moves W s t) : t.tim.cks = s.tim.cks := by obtain ⟨⟨r, l, o, x, rfl⟩, -, -⟩ := h; rfl

section
variable {s : State}

/-- The registers of the timing block. -/
def timRegs (a : Nat) : Prop := 0x41000000 ≤ a ∧ a < 0x42000000

theorem timRegs_event {n a : Nat} (hn : n < 32) (e : evtOf blkTim n a) : timRegs a := by
  unfold evtOf evtStatus evtCount blockBase ctrlBase blkTim at e; unfold timRegs; omega

theorem timRegs_bbk {i : Nat} (hi : i < 384) : timRegs (Reg.BBK_STORE i) := by unfold timRegs Reg.BBK_STORE; omega

theorem keeps_tamper (s : State) (source detail : Nat) : Keeps timRegs s (s.tamper source detail) := by
  have slot : s.fld Reg.TLOG_STAT 5 0 < 64 := bitsOf_lt _ 5 0
  unfold State.tamper; extract_lets n full s1 s2 s3 s4 cal s5
  have k2 : Keeps timRegs s s2 := ((Keeps.refl s).setRegN _ (timRegs_bbk (by omega))).setRegN _ (timRegs_bbk (by omega))
  have k3 : Keeps timRegs s s3 := by
    unfold s3; split
    · exact k2.addFld _ _ _ (by unfold timRegs; decide)
    · exact k2
  have k4 : Keeps timRegs s s4 := k3.setFld _ _ _ (by unfold timRegs; decide)
  have k5 : Keeps timRegs s s5 := k4.setCal _
  exact k5.raise fun a => timRegs_event (by decide)

theorem keeps_calPowerUp (s : State) : Keeps timRegs s s.calPowerUp := by
  unfold State.calPowerUp; split
  · exact (Keeps.refl s).setFlag _ _ (by unfold timRegs; decide)
  · unfold State.calLost; extract_lets s1 s2 cal s3
    have k0 : Keeps timRegs s (storeZero s) :=
      (Keeps.refl s).foldl fun u i hi => (Keeps.refl u).setRegN _ (timRegs_bbk (List.mem_range.mp hi))
    have k1 : Keeps timRegs s s1 := k0.setFlag _ _ (by unfold timRegs; decide)
    have k2 : Keeps timRegs s s2 := (k1.setRegN _ (by unfold timRegs; decide)).setRegN _ (by unfold timRegs; decide)
    have k3 : Keeps timRegs s s3 := k2.setCal _
    exact (k3.setFlag _ _ (by unfold timRegs; decide)).trans (keeps_tamper _ _ _)

/-- The registers that the beginning of BOOT writes. -/
def startRegs (a : Nat) : Prop := a = Reg.PWR_MODE ∨ evtOf blkPwr 0 a ∨ a = Reg.CFG_STRAP ∨ a = Reg.PWR_RESET_CAUSE ∨ ∃ d < 35, a = Reg.PWR_PD_STAT d

theorem sameRegs_padsOn (l : List Nat) (t : State) : SameRegs t (padsOn l t) (fun a => ∃ e ∈ l, a = Reg.PWR_PD_STAT e) :=
  List.foldlRecOn (motive := fun u => SameRegs t u (fun a => ∃ e ∈ l, a = Reg.PWR_PD_STAT e)) l _ (SameRegs.refl t _) fun _ h e he =>
    h.setFld ⟨e, he, rfl⟩ _ _ _

theorem padsOn_cons (x : Nat) (l : List Nat) (t : State) : padsOn (x :: l) t = padsOn l (t.setFld (Reg.PWR_PD_STAT x) 2 0 1) := by
  unfold padsOn; rw [List.foldl_cons]

theorem fld_padsOn {d : Nat} {l : List Nat} (hd : d ∈ l) (t : State) : (padsOn l t).fld (Reg.PWR_PD_STAT d) 2 0 = 1 := by
  induction l generalizing t with
  | nil => exact absurd hd List.not_mem_nil
  | cons x l ih =>
    rw [padsOn_cons]
    by_cases later : d ∈ l
    · exact ih later _
    · obtain rfl : d = x := (List.mem_cons.mp hd).resolve_right later
      have on := fld_pdStat t d 1 (by decide)
      obtain ⟨u, isU⟩ := named (t.setFld (Reg.PWR_PD_STAT d) 2 0 1)
      rw [isU] at on ⊢
      refine (fld_of_reg 2 0 (sameRegs_padsOn l u _ ?_)).trans on
      rintro ⟨e, he, h⟩
      obtain rfl : d = e := by unfold Reg.PWR_PD_STAT at h; omega
      exact later he

/-- BOOT's marks: the mode, the straps, the cause and the domains that are always on. -/
def bootMarked (s : State) (strap : Nat) : State :=
  padsOn [30, 31, 32, 33, 34] (((if s.mode = mBackup then (s.setRegN Reg.PWR_MODE 0x11).raise blkPwr 0 else s).setRegN Reg.CFG_STRAP strap).setRegN
    Reg.PWR_RESET_CAUSE 1)

theorem bootMarked_spec (s : State) {strap : Nat} (hs : strap < 16) : (bootMarked s strap).regN Reg.CFG_STRAP = strap ∧
    (bootMarked s strap).regN Reg.PWR_RESET_CAUSE = 1 ∧ (bootMarked s strap).fld (Reg.PWR_PD_STAT 30) 2 0 = 1 ∧
    (bootMarked s strap).fld (Reg.PWR_PD_STAT 34) 2 0 = 1 ∧ (s.mode = mBackup → (bootMarked s strap).mode = mBoot) ∧
    Moves startRegs s (bootMarked s strap) := by
  have moved : (s.mode = mBackup → (if s.mode = mBackup then (s.setRegN Reg.PWR_MODE 0x11).raise blkPwr 0 else s).mode = mBoot) ∧
      Moves startRegs s (if s.mode = mBackup then (s.setRegN Reg.PWR_MODE 0x11).raise blkPwr 0 else s) := by
    split
    next backup =>
      refine ⟨fun _ => (fld_of_reg 3 0 (reg_raise_lt _ (by decide))).trans ?_,
        ((Moves.refl s).setRegN _ (.inl rfl) (by decide)).raise (by decide) fun a e => .inr (.inl e)⟩
      unfold State.fld; rw [regN_setRegN, if_pos rfl]; rfl
    next other => exact ⟨fun h => absurd h other, Moves.refl s⟩
  unfold bootMarked
  obtain ⟨u, isU⟩ := named (if s.mode = mBackup then (s.setRegN Reg.PWR_MODE 0x11).raise blkPwr 0 else s)
  rw [isU] at moved ⊢
  have straps : ((u.setRegN Reg.CFG_STRAP strap).setRegN Reg.PWR_RESET_CAUSE 1).regN Reg.CFG_STRAP = strap := by
    rw [regN_setRegN, if_neg (by decide), regN_setRegN, if_pos rfl, Nat.mod_eq_of_lt (by omega)]
  have cause : ((u.setRegN Reg.CFG_STRAP strap).setRegN Reg.PWR_RESET_CAUSE 1).regN Reg.PWR_RESET_CAUSE = 1 := by rw [regN_setRegN, if_pos rfl]; rfl
  have mode : ((u.setRegN Reg.CFG_STRAP strap).setRegN Reg.PWR_RESET_CAUSE 1).mode = u.mode :=
    fld_of_reg 3 0 ((reg_setRegN_ne _ _ (by decide)).trans (reg_setRegN_ne _ _ (by decide)))
  have set : Moves startRegs u ((u.setRegN Reg.CFG_STRAP strap).setRegN Reg.PWR_RESET_CAUSE 1) :=
    ((Moves.refl u).setRegN _ (.inr (.inr (.inl rfl))) (by decide)).setRegN _ (.inr (.inr (.inr (.inl rfl)))) (by decide)
  obtain ⟨v, isV⟩ := named ((u.setRegN Reg.CFG_STRAP strap).setRegN Reg.PWR_RESET_CAUSE 1)
  rw [isV] at straps cause mode set ⊢
  have small : ∀ e ∈ [30, 31, 32, 33, 34], e < 35 := by decide
  have pads := moves_padsOn small v
  have apart {a : Nat} (low : a < Reg.PWR_PD_STAT 0) : (padsOn [30, 31, 32, 33, 34] v).reg a = v.reg a :=
    pads.regs a fun ⟨d, _, e⟩ => by unfold Reg.PWR_PD_STAT at low e; omega
  exact ⟨(regN_of_reg (apart (by decide))).trans straps, (regN_of_reg (apart (by decide))).trans cause, fld_padsOn (by decide) v,
    fld_padsOn (by decide) v, fun h => (fld_of_reg 3 0 (apart (by decide))).trans (mode.trans (moved.1 h)),
    (moved.2.trans set).trans (pads.mono fun a e => .inr (.inr (.inr (.inr e))))⟩

/-- The boot sequence set out, and the harts' reset noted. -/
def bootSequenced (s : State) : State :=
  { s.setPw { s.pw with boot := 1, early := none, seq := bootDomains, porAt := s.tim.cks } with
    dbg := { s.dbg with dm := sinsert dmHaveReset 3 (sdrop dmHaveReset s.dbg.dm) } }

/-- What follows the marks: the sequence, the ageing hours, the calendar and OTP. -/
def bootGoesOn (s : State) : State :=
  let s := s.setPw { s.pw with boot := 1, early := none, seq := bootDomains, porAt := s.tim.cks }
  let s := { s with dbg := { s.dbg with dm := sinsert dmHaveReset 3 (sdrop dmHaveReset s.dbg.dm) } }
  otpRead ((s.setRegN Reg.AGE_HOURS s.pw.hours).calPowerUp)

theorem bootMarked_eq (s : State) (strap : Nat) : bootMarked s strap = [30, 31, 32, 33, 34].foldl (fun s d => s.setFld (Reg.PWR_PD_STAT d) 2 0 1)
    (((if s.mode = mBackup then (s.setRegN Reg.PWR_MODE 0x11).raise blkPwr 0 else s).setRegN Reg.CFG_STRAP strap).setRegN Reg.PWR_RESET_CAUSE 1) := by
  unfold bootMarked padsOn; rfl

theorem bootStart_eq (s : State) (strap : Nat) : bootStart s strap = bootGoesOn (bootMarked s strap) := by
  rw [bootMarked_eq]; unfold bootStart bootGoesOn; dsimp only

theorem bootGoesOn_eq (s : State) :
    bootGoesOn s = otpRead (((bootSequenced s).setRegN Reg.AGE_HOURS (bootSequenced s).pw.hours).calPowerUp) := rfl

theorem bootStart_spec (s : State) {strap : Nat} (hs : strap < 16) : (bootStart s strap).pw.boot = 1 ∧ (bootStart s strap).regN Reg.CFG_STRAP = strap ∧
    (bootStart s strap).regN Reg.PWR_RESET_CAUSE = 1 ∧ (bootStart s strap).fld (Reg.PWR_PD_STAT 30) 2 0 = 1 ∧
    (bootStart s strap).fld (Reg.PWR_PD_STAT 34) 2 0 = 1 ∧ (s.mode = mBackup → (bootStart s strap).mode = mBoot) ∧
    (bootStart s strap).pw.porAt = s.tim.cks ∧ SameMem s (bootStart s strap) ∧ (bootStart s strap).pw.early = none := by
  rw [bootStart_eq]
  obtain ⟨straps, cause, pd30, pd34, mode, first⟩ := bootMarked_spec s hs
  obtain ⟨u, isU⟩ := named (bootMarked s strap)
  rw [isU] at straps cause pd30 pd34 mode first ⊢
  rw [bootGoesOn_eq]
  have mem2 : (bootSequenced u).mem = u.mem := rfl
  have pw2 : (bootSequenced u).pw = { u.pw with boot := 1, early := none, seq := bootDomains, porAt := u.tim.cks } := rfl
  have regs2 : SameRegs u (bootSequenced u) (fun _ => False) := sameRegs_of_regs rfl _
  obtain ⟨v, isV⟩ := named (bootSequenced u)
  rw [isV] at mem2 pw2 regs2 ⊢
  have third : Keeps (fun a => a = Reg.AGE_HOURS ∨ timRegs a) v ((v.setRegN Reg.AGE_HOURS v.pw.hours).calPowerUp) :=
    ((Keeps.refl v).setRegN _ (.inl rfl)).trans ((keeps_calPowerUp _).mono fun a e => .inr e)
  obtain ⟨w, isW⟩ := named ((v.setRegN Reg.AGE_HOURS v.pw.hours).calPowerUp)
  rw [isW] at third ⊢
  have last := moves_otpRead w
  have pw : (otpRead w).pw = { u.pw with boot := 1, early := none, seq := bootDomains, porAt := u.tim.cks } := last.pw.trans (third.pw.trans pw2)
  have apart : ∀ a ∈ [Reg.CFG_STRAP, Reg.PWR_RESET_CAUSE, Reg.PWR_PD_STAT 30, Reg.PWR_PD_STAT 34, Reg.PWR_MODE],
      ¬otpRegs a ∧ ¬(a = Reg.AGE_HOURS ∨ timRegs a) := by unfold otpRegs timRegs evtOf; decide
  have same {a : Nat} (ha : a ∈ [Reg.CFG_STRAP, Reg.PWR_RESET_CAUSE, Reg.PWR_PD_STAT 30, Reg.PWR_PD_STAT 34, Reg.PWR_MODE]) :
      (otpRead w).reg a = u.reg a := (last.regs a (apart a ha).1).trans ((third.regs a (apart a ha).2).trans (regs2 a id))
  rw [pw]
  exact ⟨rfl, (regN_of_reg (same (by decide))).trans straps, (regN_of_reg (same (by decide))).trans cause,
    (fld_of_reg 2 0 (same (by decide))).trans pd30, (fld_of_reg 2 0 (same (by decide))).trans pd34,
    fun h => (fld_of_reg 3 0 (same (by decide))).trans (mode h), first.cks,
    sameMem_of_mem (last.mem.trans (third.mem.trans (mem2.trans first.mem))), rfl⟩

theorem porRelease_starts {mode : BitVec 3} {pull : Bool} (held : inReset s = true) (fresh : s.pw.early = none) :
    exec (.porRelease mode pull true) s = .next (bootStart s (mode.toNat + 8 * bit pull)) := by
  simp only [exec_porRelease, execPorRelease, held, fresh, Bool.not_true, Option.isSome_none, Bool.or_self, Bool.false_eq_true, if_false, if_true]

theorem strap_lt (mode : BitVec 3) (pull : Bool) : mode.toNat + 8 * bit pull < 16 := by
  have := mode.isLt
  cases pull <;> (unfold bit; simp) <;> omega

theorem porRelease_early {mode : BitVec 3} {pull : Bool} (held : inReset s = true) (fresh : s.pw.early = none) :
    exec (.porRelease mode pull false) s = .next (s.setPw { s.pw with early := some (mode.toNat + 8 * bit pull) }) := by
  simp only [exec_porRelease, execPorRelease, held, fresh, Bool.not_true, Option.isSome_none, Bool.or_self, Bool.false_eq_true, if_false]

theorem porRelease_idle {mode : BitVec 3} {pull rails : Bool} (runs : inReset s = false) : exec (.porRelease mode pull rails) s = .next s := by
  simp only [exec_porRelease, execPorRelease, runs, Bool.not_false, Bool.true_or, if_true]

theorem railMonitorRelease_starts {x : Nat} (held : inReset s = true) (waits : s.pw.early = some x) :
    exec .railMonitorRelease s = .next (bootStart s x) := by
  simp only [exec_railMonitorRelease, execRailMonitorRelease, waits, held, if_true]

theorem railMonitorRelease_idle (none : s.pw.early = none) : exec .railMonitorRelease s = .next s := by
  simp only [exec_railMonitorRelease, execRailMonitorRelease, none]

end

/-! The timing PLL (R28, R29, R71). -/

section
variable {s : State}

theorem exec_timingPllLock_idle {hzA hzB : Option (BitVec 32)} {cyc : Fin 32768} (other : s.pw.boot ≠ 2) :
    exec (.timingPllLock hzA hzB cyc) s = .next s := by
  simp only [exec_timingPllLock, execTimingPllLock]; rw [if_pos (.inl other)]

theorem storedVal_none (bare : storeImage s = none) (index sub : Nat) : storedVal s index sub = none := by unfold storedVal; rw [bare]; rfl

/-- With nothing stored the nominal is what the measured frequency is nearest. -/
theorem bootNominal_unstored (bare : storeImage s = none) (k : Nat) (hz : Option (BitVec 32)) :
    bootNominal s k hz = match hz with | some f => nearestNominal f.toNat | none => 0 := by
  unfold bootNominal; rw [storedVal_none bare]; rfl

theorem nearestNominal_lt (hz : Nat) : nearestNominal hz < 2 ^ 32 := by
  have listed : ∀ n ∈ nominals, n < 2 ^ 32 := by decide
  unfold nearestNominal
  refine List.foldlRecOn (motive := (· < 2 ^ 32)) nominals _ (by decide) fun b hb n hn => ?_
  split
  · exact listed n hn
  · exact hb

/-- The oscillators' nominals and states. -/
def oscShown (s : State) (nomA nomB : Nat) (a b : Bool) : State :=
  (((s.setRegN Reg.TL_OSC_A_HZ nomA).setRegN Reg.TL_OSC_B_HZ nomB).setFlag Reg.TL_OSC_STAT 0 a).setFlag Reg.TL_OSC_STAT 1 b

/-- The registers of the oscillators. -/
def oscRegs (a : Nat) : Prop := a = Reg.TL_OSC_A_HZ ∨ a = Reg.TL_OSC_B_HZ ∨ a = Reg.TL_OSC_STAT

theorem oscShown_spec (s : State) {nomA nomB : Nat} (hA : nomA < 2 ^ 32) (a b : Bool) : (oscShown s nomA nomB a b).regN Reg.TL_OSC_A_HZ = nomA ∧
    (oscShown s nomA nomB a b).flag Reg.TL_OSC_STAT 0 = a ∧ (oscShown s nomA nomB a b).flag Reg.TL_OSC_STAT 1 = b ∧
    SameRegs s (oscShown s nomA nomB a b) oscRegs ∧ OnlyRegs s (oscShown s nomA nomB a b) := by
  unfold oscShown
  refine ⟨?_, (flag_setFlag_ne _ _ _ _ _ (by decide) (by decide)).trans (flag_setFlag _ _ _ _ (by decide)), flag_setFlag _ _ _ _ (by decide),
    ((((SameRegs.refl s oscRegs).setRegN (.inl rfl) _).setRegN (.inr (.inl rfl)) _).setFlag (.inr (.inr rfl)) _ _).setFlag (.inr (.inr rfl)) _ _,
    ((((OnlyRegs.refl s).setRegN _ _).setRegN _ _).setFlag _ _ _).setFlag _ _ _⟩
  rw [regN_of_reg ((reg_setFlag_ne _ _ _ (by decide)).trans (reg_setFlag_ne _ _ _ (by decide))), regN_setRegN, if_neg (by decide), regN_setRegN,
    if_pos rfl, Nat.mod_eq_of_lt hA]

theorem exec_timingPllLock_neither {cyc : Fin 32768} (boot : s.pw.boot = 2) (runs : 0 ∉ s.dbg.halted) (bare : storeImage s = none) :
    exec (.timingPllLock none none cyc) s = .next (oscShown s 0 0 false false) := by
  simp only [exec_timingPllLock, execTimingPllLock, bootNominal_unstored bare, oscFits, Bool.not_false, Bool.and_self, if_true]
  rw [if_neg (by rintro (h | h); exacts [h boot, runs h])]; rfl

theorem timingPllLock_neither {cyc : Fin 32768} (boot : s.pw.boot = 2) (runs : 0 ∉ s.dbg.halted) (bare : storeImage s = none) :
    Completes (.timingPllLock none none cyc) s fun t => t.tim = s.tim ∧ t.pw = s.pw ∧ t.flag Reg.TL_OSC_STAT 0 = false ∧
      t.flag Reg.TL_OSC_STAT 1 = false ∧ SameMem s t := by
  obtain ⟨-, a, b, -, only⟩ := oscShown_spec s (nomA := 0) (nomB := 0) (by decide) false false
  exact ⟨_, exec_timingPllLock_neither boot runs bare, only.tim, only.kept.1, a, b, sameMem_of_mem only.mem⟩

/-- The Timeline that begins from the calendar, `cyc` crystal cycles into its second. -/
def tlBegun (s : State) (cyc : Nat) : Nat := ((if s.flag Reg.CAL_STAT 0 then s.cal.s else 0) * secUnit + cyc * secUnit / 32768) % tlWrap

/-- The PLL locked: the oscillator chosen, CKT running, the Timeline set. -/
def pllLocked (s : State) (tl : Nat) (b : Bool) : State :=
  { s.setFlag Reg.TL_OSC_STAT 2 b with tim := { s.tim with ckt := true, tl := tl } }

/-- The next stage of the boot sequence, or firmware where no domain waits. -/
def domainsBegun (s : State) : State := seqNext (s.setPw { s.pw with boot := if s.pw.seq.isEmpty then 4 else 3 })

theorem exec_timingPllLock_first {f : BitVec 32} {cyc : Fin 32768} (boot : s.pw.boot = 2) (runs : 0 ∉ s.dbg.halted) (bare : storeImage s = none)
    (fits : oscFits (nearestNominal f.toNat) (some f) = true) : ∃ b, exec (.timingPllLock (some f) none cyc) s =
      .next (domainsBegun ((List.range 5).foldl fsynBoot (pllLocked (oscShown s (nearestNominal f.toNat) 0 true false)
        (tlBegun (oscShown s (nearestNominal f.toNat) 0 true false) cyc) b)).hoRestore) := by
  have nomA : bootNominal s 0 (some f) = nearestNominal f.toNat := bootNominal_unstored bare 0 (some f)
  have nomB : bootNominal s 1 none = 0 := bootNominal_unstored bare 1 none
  have shownA : ((s.setRegN Reg.TL_OSC_A_HZ (nearestNominal f.toNat)).setRegN Reg.TL_OSC_B_HZ 0).regN Reg.TL_OSC_A_HZ = nearestNominal f.toNat := by
    rw [regN_setRegN, if_neg (by decide), regN_setRegN, if_pos rfl, Nat.mod_eq_of_lt (nearestNominal_lt _)]
  have goodB (n : Nat) : oscFits n none = false := rfl
  simp only [exec_timingPllLock, execTimingPllLock, nomA, nomB, shownA, fits, goodB, Bool.not_true, Bool.not_false, Bool.false_and,
    Bool.false_eq_true, if_false]
  rw [if_neg (by rintro (h | h); exacts [h boot, runs h])]
  exact ⟨_, rfl⟩

/-- The registers of the timing block from the synthesisers' on. -/
def fsynRegs (a : Nat) : Prop := 0x41040000 ≤ a ∧ a < 0x42000000

theorem keeps_fsynBoot (s : State) {n : Nat} (hn : n < 5) : Keeps fsynRegs s (fsynBoot s n) := by
  have set (t : State) (f : Fsyn) : Keeps fsynRegs t (setFsyn t n f) := ⟨rfl, rfl, rfl, rfl, rfl, sameRegs_of_regs rfl _⟩
  have ctl : Keeps fsynRegs s (s.setRegN (Reg.FSYN_CTL n) 7) := (Keeps.refl s).setRegN _ (by unfold fsynRegs Reg.FSYN_CTL; omega)
  unfold fsynBoot; split
  next num den _ =>
    obtain ⟨u, isU⟩ := named (s.setRegN (Reg.FSYN_CTL n) 7)
    dsimp only; rw [isU] at ctl ⊢
    have armed := ctl.trans (set u { armed := false, anchor := s.tim.tl })
    obtain ⟨v, isV⟩ := named (setFsyn u n { armed := false, anchor := s.tim.tl })
    rw [isV] at armed ⊢
    exact (((armed.setRegN _ (by unfold fsynRegs Reg.FSYN_NUM; omega)).setRegN _ (by unfold fsynRegs Reg.FSYN_DEN; omega)).setRegN _
      (by unfold fsynRegs Reg.FSYN_ANCHOR_S; omega)).setRegN _ (by unfold fsynRegs Reg.FSYN_ANCHOR_T; omega)

theorem hoModel_fsyn {k j : Nat} (hk : k < 2) (hj : j < 16) : fsynRegs (Reg.HO_MODEL k j) := by unfold fsynRegs Reg.HO_MODEL; omega

theorem keeps_restoreOne (s : State) {k : Nat} (hk : k < 2) : Keeps fsynRegs s (restoreOne s k) := by
  unfold restoreOne; extract_lets nom base s1 s2
  split
  · have k1 : Keeps fsynRegs s s1 := (Keeps.refl s).foldl fun u j hj =>
      (Keeps.refl u).setRegN _ (hoModel_fsyn hk (by have := List.mem_range.mp hj; omega))
    exact ((k1.setFlag _ _ (by unfold fsynRegs; decide)).setFld _ _ _ (by unfold fsynRegs; decide)).setHo _
  · have cleared : Keeps fsynRegs s (modelClear s k) := (Keeps.refl s).foldl fun u j hj =>
      (Keeps.refl u).setRegN _ (hoModel_fsyn hk (List.mem_range.mp hj))
    exact cleared.raise fun a e => by
      have := timRegs_event (by decide) e
      unfold evtOf evtStatus evtCount blockBase ctrlBase blkTim at e; unfold fsynRegs; omega

theorem keeps_hoRestore (s : State) : Keeps fsynRegs s s.hoRestore := by
  have shown : Keeps fsynRegs s (s.setFlag Reg.HO_STAT 1 (snapGood s)) := (Keeps.refl s).setFlag _ _ (by unfold fsynRegs; decide)
  unfold State.hoRestore; dsimp only; split
  · exact (shown.trans (keeps_restoreOne _ (by decide))).trans (keeps_restoreOne _ (by decide))
  · exact shown

theorem domainsBegun_spec (s : State) : (domainsBegun s).pw.boot = (if s.pw.seq = [] then 4 else 3) ∧ (domainsBegun s).tim = s.tim ∧
    (domainsBegun s).mem = s.mem ∧ SameRegs s (domainsBegun s) (fun a => ∃ d, a = Reg.PWR_PD_STAT d) := by
  have boot : (s.setPw { s.pw with boot := if s.pw.seq.isEmpty then 4 else 3 }).pw.boot = if s.pw.seq = [] then 4 else 3 := by
    change (if s.pw.seq.isEmpty then 4 else 3) = _
    cases s.pw.seq <;> rfl
  have tim : (s.setPw { s.pw with boot := if s.pw.seq.isEmpty then 4 else 3 }).tim = s.tim := rfl
  have same : Rests (fun _ => False) s (s.setPw { s.pw with boot := if s.pw.seq.isEmpty then 4 else 3 }) := ⟨rfl, rfl, sameRegs_of_regs rfl _⟩
  unfold domainsBegun
  obtain ⟨u, isU⟩ := named (s.setPw { s.pw with boot := if s.pw.seq.isEmpty then 4 else 3 })
  rw [isU] at boot tim same ⊢
  unfold seqNext; split
  next d r _ =>
    exact ⟨(congrArg (·.boot) (State.setFld_pw ..)).trans boot, (State.setFld_tim ..).trans tim, (State.setFld_mem ..).trans same.mem,
      SameRegs.trans (fun a _ => same.regs a id) (fun a ha => reg_setFld_ne u _ _ _ fun e => ha ⟨d, e.symm⟩)⟩
  next => exact ⟨boot, tim, same.mem, fun a _ => same.regs a id⟩

theorem pllLocked_spec (s : State) (tl : Nat) (b : Bool) : (pllLocked s tl b).tim.ckt = true ∧ (pllLocked s tl b).tim.tl = tl ∧
    (pllLocked s tl b).mem = s.mem ∧ (pllLocked s tl b).pw = s.pw ∧ SameRegs s (pllLocked s tl b) (· = Reg.TL_OSC_STAT) ∧
    ∀ n, 2 ≠ n → (pllLocked s tl b).flag Reg.TL_OSC_STAT n = s.flag Reg.TL_OSC_STAT n := by
  have mem := State.setFlag_mem s Reg.TL_OSC_STAT 2 b
  have pw := State.setFlag_pw s Reg.TL_OSC_STAT 2 b
  have regs := sameRegs_setFlag s Reg.TL_OSC_STAT 2 b
  have bits (n : Nat) (hn : 2 ≠ n) := flag_setFlag_ne s Reg.TL_OSC_STAT 2 n b (by decide) hn
  unfold pllLocked
  obtain ⟨u, isU⟩ := named (s.setFlag Reg.TL_OSC_STAT 2 b)
  rw [isU] at mem pw regs ⊢
  simp only [isU] at bits
  exact ⟨rfl, rfl, mem, pw, regs, bits⟩

theorem timingPllLock_first {f : BitVec 32} {cyc : Fin 32768} (boot : s.pw.boot = 2) (runs : 0 ∉ s.dbg.halted) (bare : storeImage s = none)
    (fits : oscFits (nearestNominal f.toNat) (some f) = true) : Completes (.timingPllLock (some f) none cyc) s fun t => t.tim.ckt = true ∧
      t.tim.tl = tlBegun s cyc ∧ t.regN Reg.TL_OSC_A_HZ = nearestNominal f.toNat ∧ t.flag Reg.TL_OSC_STAT 0 = true ∧
      t.flag Reg.TL_OSC_STAT 1 = false ∧ t.pw.boot = (if s.pw.seq = [] then 4 else 3) ∧ SameMem s t := by
  obtain ⟨b, exec⟩ := exec_timingPllLock_first (cyc := cyc) boot runs bare fits
  refine ⟨_, exec, ?_⟩
  obtain ⟨nom, a0, b0, regs, only⟩ := oscShown_spec s (nomA := nearestNominal f.toNat) (nomB := 0) (nearestNominal_lt _) true false
  obtain ⟨u, isU⟩ := named (oscShown s (nearestNominal f.toNat) 0 true false)
  rw [isU] at nom a0 b0 regs only ⊢
  have begun : tlBegun u cyc = tlBegun s cyc := by
    unfold tlBegun; rw [flag_of_reg 0 (regs _ (by unfold oscRegs; decide)), only.kept.2.1]
  rw [begun]
  obtain ⟨x, isX⟩ := named (tlBegun s cyc)
  rw [isX]
  obtain ⟨ckt, tl, mem, pw, same, bits⟩ := pllLocked_spec u x b
  have begins : Keeps fsynRegs (pllLocked u x b) ((List.range 5).foldl fsynBoot (pllLocked u x b)).hoRestore :=
    ((Keeps.refl _).foldl fun v n hn => keeps_fsynBoot v (List.mem_range.mp hn)).trans (keeps_hoRestore _)
  obtain ⟨v, isV⟩ := named (pllLocked u x b)
  rw [isV] at ckt tl mem pw same bits begins ⊢
  obtain ⟨w, isW⟩ := named ((List.range 5).foldl fsynBoot v).hoRestore
  rw [isW] at begins ⊢
  obtain ⟨boots, tim, keepsMem, pads⟩ := domainsBegun_spec w
  have low {a : Nat} (ha : a < 0x41040000) : (domainsBegun w).reg a = v.reg a :=
    (pads a fun ⟨d, e⟩ => by unfold Reg.PWR_PD_STAT at e; omega).trans (begins.regs a fun h => by unfold fsynRegs at h; omega)
  refine ⟨by rw [tim, begins.ckt, ckt], by rw [tim, begins.tl, tl], (regN_of_reg ((low (by decide)).trans (same _ (by decide)))).trans nom,
    (flag_of_reg 0 (low (by decide))).trans ((bits 0 (by decide)).trans a0), (flag_of_reg 1 (low (by decide))).trans ((bits 1 (by decide)).trans b0), ?_,
    sameMem_of_mem (keepsMem.trans (begins.mem.trans (mem.trans only.mem)))⟩
  rw [boots, begins.pw, pw, only.kept.1]

end

/-! The end of BOOT (R451 steps 7 and 8, R481, R482). -/

section
variable {s : State}

/-- The registers of security's nonce and of its attestation index. -/
def attRegs (a : Nat) : Prop :=
  a = Reg.SEC_NONCE_LO ∨ a = Reg.SEC_NONCE_HI ∨ a = Reg.SEC_ATT_BUCKET ∨ a = Reg.SEC_ATT_IDX ∨ a = Reg.SEC_STAT ∨ evtOf blkSec 11 a

theorem keeps_redraw (s : State) : Keeps attRegs s (redraw s) := by
  unfold redraw; split
  · have drawn : Keeps attRegs s (drawBytes 8 s).1 := by rw [drawBytes_fst]; exact ⟨rfl, rfl, rfl, rfl, rfl, sameRegs_of_regs rfl _⟩
    exact (drawn.setRegN _ (.inl rfl)).setRegN _ (.inr (.inl rfl))
  · exact Keeps.refl s

theorem redraw_stat (s : State) : (redraw s).reg Reg.SEC_STAT = s.reg Reg.SEC_STAT := by
  unfold redraw; split
  · have drawn : (drawBytes 8 s).1.reg Reg.SEC_STAT = s.reg Reg.SEC_STAT := by rw [drawBytes_fst]; rfl
    exact (reg_setRegN_ne _ _ (by decide)).trans ((reg_setRegN_ne _ _ (by decide)).trans drawn)
  · rfl

theorem setAttIdx_spec (s : State) (n : Nat) : Keeps attRegs s (setAttIdx s n) ∧ (setAttIdx s n).flag Reg.SEC_STAT 2 = s.flag Reg.SEC_STAT 2 := by
  have index : Keeps attRegs s (s.setRegN Reg.SEC_ATT_IDX n) := (Keeps.refl s).setRegN _ (.inr (.inr (.inr (.inl rfl))))
  have stat : (s.setRegN Reg.SEC_ATT_IDX n).flag Reg.SEC_STAT 2 = s.flag Reg.SEC_STAT 2 := flag_of_reg 2 (reg_setRegN_ne s _ (by decide))
  unfold setAttIdx; dsimp only
  obtain ⟨u, isU⟩ := named (s.setRegN Reg.SEC_ATT_IDX n)
  rw [isU] at index stat ⊢
  have marked (b : Bool) : Keeps attRegs s (u.setFlag Reg.SEC_STAT 18 b) ∧ (u.setFlag Reg.SEC_STAT 18 b).flag Reg.SEC_STAT 2 = s.flag Reg.SEC_STAT 2 :=
    ⟨index.setFlag _ _ (.inr (.inr (.inr (.inr (.inl rfl))))), (flag_setFlag_ne u _ _ _ _ (by decide) (by decide)).trans stat⟩
  split
  · exact ⟨(marked true).1.raise fun a e => .inr (.inr (.inr (.inr (.inr e)))), (flag_of_reg 2 (reg_raise_lt _ (by decide))).trans (marked true).2⟩
  split
  · exact marked false
  · exact ⟨index, stat⟩

theorem attBoot_spec (s : State) : Keeps attRegs s (attBoot s) ∧ (attBoot s).flag Reg.SEC_STAT 2 = s.flag Reg.SEC_STAT 2 := by
  unfold attBoot; extract_lets g n tokens
  have bucket : Keeps attRegs s (s.setRegN Reg.SEC_ATT_BUCKET tokens) := (Keeps.refl s).setRegN _ (.inr (.inr (.inl rfl)))
  have stat : (s.setRegN Reg.SEC_ATT_BUCKET tokens).flag Reg.SEC_STAT 2 = s.flag Reg.SEC_STAT 2 := flag_of_reg 2 (reg_setRegN_ne s _ (by decide))
  obtain ⟨index, kept⟩ := setAttIdx_spec (s.setRegN Reg.SEC_ATT_BUCKET tokens) (Nat.max n (4096 * coarse s g))
  exact ⟨bucket.trans index, kept.trans stat⟩

/-- BLANK entered with security made ready. -/
def blanked (s : State) : State := ((attBoot (redraw s)).setPw { (attBoot (redraw s)).pw with boot := 5 }).enterMode mBlank

/-- What BLANK's entry comes to. -/
structure Blanked (s t : State) : Prop where
  mode  : t.mode = mBlank
  moved : s.mode = mBoot → t.released = false ∧ Raised t blkPwr 0
  boot  : t.pw.boot = 5
  svc   : t.svc = s.svc
  mem   : t.mem = s.mem
  regs  : SameRegs s t (fun a => attRegs a ∨ modeRegs a)
  stat  : t.flag Reg.SEC_STAT 2 = s.flag Reg.SEC_STAT 2

theorem blanked_spec (s : State) : Blanked s (blanked s) := by
  have drawn := keeps_redraw s
  have drawnStat := flag_of_reg 2 (redraw_stat s)
  unfold blanked
  obtain ⟨u, isU⟩ := named (redraw s)
  rw [isU] at drawn drawnStat ⊢
  obtain ⟨ready, stat⟩ := attBoot_spec u
  have kept := drawn.trans ready
  have keptStat := stat.trans drawnStat
  obtain ⟨v, isV⟩ := named (attBoot u)
  rw [isV] at kept keptStat ⊢
  have marked : Rests (fun _ => False) v (v.setPw { v.pw with boot := 5 }) := ⟨rfl, rfl, sameRegs_of_regs rfl _⟩
  have boot : (v.setPw { v.pw with boot := 5 }).pw.boot = 5 := rfl
  have svc : (v.setPw { v.pw with boot := 5 }).svc = v.svc := rfl
  obtain ⟨w, isW⟩ := named (v.setPw { v.pw with boot := 5 })
  rw [isW] at marked boot svc ⊢
  have regs : SameRegs s w attRegs := kept.regs.trans fun a _ => marked.regs a id
  have modeW : w.mode = s.mode := fld_of_reg 3 0 (regs _ (by unfold attRegs evtOf; decide))
  have statW : w.flag Reg.SEC_STAT 2 = s.flag Reg.SEC_STAT 2 := (flag_of_reg 2 (marked.regs _ id)).trans keptStat
  by_cases blank : w.mode = mBlank
  · have same : w.enterMode mBlank = w := if_pos blank
    rw [same]
    exact ⟨blank, fun h => absurd (blank.symm.trans (modeW.trans h)) (by decide), boot, svc.trans kept.svc, marked.mem.trans kept.mem,
      fun a ha => regs a fun h => ha (.inl h), statW⟩
  · have e := enterMode_entered (s := w) (m := mBlank) (by decide) blank fun _ h => absurd h (by decide)
    obtain ⟨x, isX⟩ := named (w.enterMode mBlank)
    rw [isX] at e ⊢
    exact ⟨e.mode, fun _ => ⟨e.released, e.event⟩, (congrArg (·.boot) e.moves.pw).trans boot, e.moves.svc.trans (svc.trans kept.svc),
      e.moves.mem.trans (marked.mem.trans kept.mem),
      SameRegs.trans (fun a ha => regs a fun h => ha (.inl h)) fun a ha => e.moves.regs a fun h => ha (.inr h),
      (e.moves.flag 2 (by unfold modeRegs announceRegs gateRegs evtOf; decide)).trans statW⟩

theorem exec_bootComplete_eq (boot : s.pw.boot = 4) (runs : 0 ∉ s.dbg.halted) : exec .bootComplete s = .next (strapAct (bootFirmware (blanked s))) := by
  rw [exec_bootComplete, execBootComplete, if_neg (by rintro (h | h); exacts [h boot, runs h])]; rfl

theorem exec_bootComplete_idle (other : s.pw.boot ≠ 4) : exec .bootComplete s = .next s := by
  rw [exec_bootComplete, execBootComplete, if_pos (.inl other)]

/-- Under strap 3 nothing is loaded. -/
theorem strapAct_none (strap : s.fld Reg.CFG_STRAP 2 0 = 3) : strapAct s = s := by simp [strapAct, strap, State.raiseIf]

theorem bootComplete_raw (boot : s.pw.boot = 4) (runs : 0 ∉ s.dbg.halted) (raw : s.life = 0) (strap : s.fld Reg.CFG_STRAP 2 0 = 3) :
    Completes .bootComplete s fun t => t.mode = mBlank ∧ t.pw.boot = 5 ∧ (s.mode = mBoot → t.released = false ∧ Raised t blkPwr 0) ∧
      t.flag Reg.SEC_STAT 2 = s.flag Reg.SEC_STAT 2 ∧ SameMem s t := by
  have b := blanked_spec s
  refine ⟨_, exec_bootComplete_eq boot runs, ?_⟩
  obtain ⟨u, isU⟩ := named (blanked s)
  rw [isU] at b ⊢
  have rawU : u.life = 0 := (fld_of_reg 2 0 (b.regs _ (by unfold attRegs modeRegs announceRegs gateRegs evtOf; decide))).trans raw
  have strapU : u.fld Reg.CFG_STRAP 2 0 = 3 :=
    (fld_of_reg 2 0 (b.regs _ (by unfold attRegs modeRegs announceRegs gateRegs evtOf; decide))).trans strap
  have none : bootFirmware u = u := by unfold bootFirmware; exact if_pos rawU
  rw [none, strapAct_none strapU]
  exact ⟨b.mode, b.boot, b.moved, b.stat, sameMem_of_mem b.mem⟩

/-- The first bytes of what is stored. -/
theorem slice_stored (s : State) (a : Nat) {n m : Nat} (h : m ≤ n) : slice (s.stored a n) 0 m = s.stored a m := by
  unfold slice State.stored
  rw [List.drop_zero, ← List.map_take, List.take_range, Nat.min_eq_left h]

theorem fwFlash_none {ofs : Nat} (unmarked : s.stored (flashBase + ofs) 4 ≠ [0x4B, 0x46, 0x57, 0x49]) : fwFlash s ofs = none := by
  have bad : fwHeader (s.stored (flashBase + ofs + 0) 0x1000) = false := by
    unfold fwHeader
    rw [slice_stored s _ (by decide), Nat.add_zero, beq_eq_false_iff_ne.mpr unmarked]
    simp only [Bool.false_and]
  unfold fwFlash fwImage
  simp only [Option.bind_some, bad, Bool.false_and, Bool.false_eq_true, if_false]

/-- The registers of the PCIe octets. -/
def pcieRegs (a : Nat) : Prop := a = Reg.LR_OCT_CFG 2 ∨ a = Reg.LR_OCT_STAT 2 ∨ a = Reg.LR_OCT_CFG 3 ∨ a = Reg.LR_OCT_STAT 3

theorem octWrite_pcie (s : State) {o : Nat} (v : Nat) (ho : o = 2 ∨ o = 3) : octWrite s o v =
    (s.setFlag (Reg.LR_OCT_CFG o) 0 (v.testBit 0)).setFld (Reg.LR_OCT_STAT o) 1 0 (if v.testBit 0 then 3 else 0) := if_pos ho

theorem pcieOn_spec (s : State) : (pcieOn s).flag (Reg.LR_OCT_CFG 2) 0 = true ∧ Keeps pcieRegs s (pcieOn s) := by
  unfold pcieOn
  rw [octWrite_pcie _ _ (.inl rfl)]
  have set : (s.regN (Reg.LR_OCT_CFG 2) ||| 1).testBit 0 = true := by rw [Nat.testBit_or]; simp
  have on := flag_setFlag s (Reg.LR_OCT_CFG 2) 0 ((s.regN (Reg.LR_OCT_CFG 2) ||| 1).testBit 0) (by decide)
  rw [set] at on ⊢
  have first : Keeps pcieRegs s (s.setFlag (Reg.LR_OCT_CFG 2) 0 true) := (Keeps.refl s).setFlag _ _ (.inl rfl)
  obtain ⟨u, isU⟩ := named (s.setFlag (Reg.LR_OCT_CFG 2) 0 true)
  rw [isU] at on first ⊢
  have on2 := (flag_of_reg 0 (reg_setFld_ne u 1 0 (if true then 3 else 0) (a := Reg.LR_OCT_STAT 2) (j := Reg.LR_OCT_CFG 2) (by decide))).trans on
  have second := first.setFld (a := Reg.LR_OCT_STAT 2) 1 0 (if true then 3 else 0) (.inr (.inl rfl))
  obtain ⟨v, isV⟩ := named (u.setFld (Reg.LR_OCT_STAT 2) 1 0 (if true then 3 else 0))
  rw [isV] at on2 second ⊢
  rw [octWrite_pcie _ _ (.inr rfl)]
  exact ⟨(flag_of_reg 0 ((reg_setFld_ne _ _ _ _ (by decide)).trans (reg_setFlag_ne v _ _ (by decide)))).trans on2,
    (second.setFlag _ _ (.inr (.inr (.inl rfl)))).setFld _ _ _ (.inr (.inr (.inr rfl)))⟩

/-- The registers written where no image passes. -/
def fwNoneRegs (a : Nat) : Prop := a = Reg.SEC_STAT ∨ evtOf blkSec 8 a ∨ timRegs a ∨ pcieRegs a

theorem fwNone_spec (s : State) : (fwNone s).flag Reg.SEC_STAT 2 = true ∧ Raised (fwNone s) blkSec 8 ∧ (fwNone s).flag (Reg.LR_OCT_CFG 2) 0 = true ∧
    Keeps fwNoneRegs s (fwNone s) := by
  have stat : ((s.setFlag Reg.SEC_STAT 2 true).raise blkSec 8).flag Reg.SEC_STAT 2 = true :=
    (flag_of_reg 2 (reg_raise_lt _ (by decide))).trans (flag_setFlag s _ _ _ (by decide))
  have event : Raised ((s.setFlag Reg.SEC_STAT 2 true).raise blkSec 8) blkSec 8 := raised_raise _ (by decide)
  have first : Keeps fwNoneRegs s ((s.setFlag Reg.SEC_STAT 2 true).raise blkSec 8) := ((Keeps.refl s).setFlag _ _ (.inl rfl)).raise fun a e => .inr (.inl e)
  unfold fwNone
  obtain ⟨u, isU⟩ := named ((s.setFlag Reg.SEC_STAT 2 true).raise blkSec 8)
  rw [isU] at stat event first ⊢
  have logged := keeps_tamper u 0x17 0
  obtain ⟨v, isV⟩ := named (u.tamper 0x17 0)
  rw [isV] at logged ⊢
  obtain ⟨on, last⟩ := pcieOn_spec v
  have same {a : Nat} (tim : ¬timRegs a) (pcie : ¬pcieRegs a) : (pcieOn v).reg a = u.reg a := (last.regs a pcie).trans (logged.regs a tim)
  exact ⟨(flag_of_reg 2 (same (by unfold timRegs; decide) (by unfold pcieRegs; decide))).trans stat,
    (flag_of_reg 8 (same (a := evtStatus blkSec) (by unfold timRegs; decide) (by unfold pcieRegs; decide))).trans event, on,
    (first.trans (logged.mono fun a e => .inr (.inr (.inl e)))).trans (last.mono fun a e => .inr (.inr (.inr e)))⟩

theorem bootComplete_none (boot : s.pw.boot = 4) (runs : 0 ∉ s.dbg.halted) (alive : s.life ≠ 0) (strap : s.fld Reg.CFG_STRAP 2 0 = 3)
    (slotA : s.stored flashBase 4 ≠ [0x4B, 0x46, 0x57, 0x49]) (slotB : s.stored (flashBase + 0x780000) 4 ≠ [0x4B, 0x46, 0x57, 0x49]) :
    Completes .bootComplete s fun t => t.mode = mBlank ∧ t.pw.boot = 5 ∧ t.flag Reg.SEC_STAT 2 = true ∧ Raised t blkSec 8 ∧
      t.flag (Reg.LR_OCT_CFG 2) 0 = true ∧ t.svc.bRun = s.svc.bRun ∧ SameMem s t := by
  have b := blanked_spec s
  refine ⟨_, exec_bootComplete_eq boot runs, ?_⟩
  obtain ⟨u, isU⟩ := named (blanked s)
  rw [isU] at b ⊢
  have aliveU : ¬u.life = 0 := fun h =>
    alive ((fld_of_reg 2 0 (b.regs _ (by unfold attRegs modeRegs announceRegs gateRegs evtOf; decide))).symm.trans h)
  have stored (a n : Nat) : u.stored a n = s.stored a n := List.map_congr_left fun i _ => sameMem_of_mem b.mem (a + i)
  have none : bootFirmware u = fwNone u := by
    unfold bootFirmware
    rw [if_neg aliveU, fwFlash_none (ofs := 0) (by rw [stored]; exact slotA), fwFlash_none (ofs := 0x780000) (by rw [stored]; exact slotB)]
  obtain ⟨stat, event, on, last⟩ := fwNone_spec u
  rw [none]
  obtain ⟨v, isV⟩ := named (fwNone u)
  rw [isV] at stat event on last ⊢
  have strapV : v.fld Reg.CFG_STRAP 2 0 = 3 :=
    (fld_of_reg 2 0 ((last.regs _ (by unfold fwNoneRegs timRegs pcieRegs evtOf; decide)).trans
      (b.regs _ (by unfold attRegs modeRegs announceRegs gateRegs evtOf; decide)))).trans strap
  rw [strapAct_none strapV]
  exact ⟨(fld_of_reg 3 0 (last.regs _ (by unfold fwNoneRegs timRegs pcieRegs evtOf; decide))).trans b.mode, (congrArg (·.boot) last.pw).trans b.boot,
    stat, event, on, congrArg (·.bRun) (last.svc.trans b.svc), sameMem_of_mem (last.mem.trans b.mem)⟩

end

end Sys2Proof.Machine
end

section
/-! PROOFS. A statement of 16_modes_power.md: start-up, resets, domains, the mode commands, STABLE, adaptive voltage, ageing (O56). -/

namespace Sys2Proof.Machine

theorem wakeHolds_timer (s : State) : wakeHolds s 0 = s.pw.wakeAt.any (ptReached s.pt) := by unfold wakeHolds; rfl

/-- A timed wake whose tick is reached. -/
theorem wakeHolds_timed {s : State} {w : Nat} (timed : s.pw.wakeAt = some w) (reached : ptReached s.pt w = true) : wakeHolds s 0 = true := by
  rw [wakeHolds_timer, timed, Option.any_some, reached]

/-- Settles O56, a lemma for each command and each of its outcomes. -/
theorem modesPowerAndAgeing : Obligations.ModesPowerAndAgeing := by
  unfold Obligations.ModesPowerAndAgeing
  refine ⟨?_, ?_, ?_, ?_, ?_, ?_, ?_, ?_, ?_, ?_, ?_, ?_, ?_, ?_, ?_, ?_, ?_, ?_, ?_, ?_, ?_, ?_, ?_, ?_, ?_, ?_, ?_, ?_,
    ?_, ?_, ?_, ?_, ?_, ?_, ?_, ?_, ?_, ?_, ?_, ?_, ?_, ?_, ?_, ?_, ?_, ?_, ?_, ?_, ?_, ?_, ?_, ?_, ?_, ?_, ?_, ?_,
    ?_, ?_, ?_, ?_, ?_, ?_, ?_, ?_, ?_, ?_, ?_, ?_, ?_⟩
  case refine_1 =>
    exact fun s mode pull held fresh => by
      obtain ⟨boot, straps, cause, pd30, pd34, left, at_, mem, -⟩ := bootStart_spec s (strap_lt mode pull)
      exact ⟨_, porRelease_starts held fresh, boot, straps, cause, pd30, pd34, left, at_, mem⟩
  case refine_2 =>
    exact fun s mode pull held fresh => ⟨_, porRelease_early held fresh, rfl⟩
  case refine_3 =>
    exact fun s mode pull rails runs => ⟨_, porRelease_idle runs, rfl⟩
  case refine_4 =>
    exact fun s x held waits small => ⟨_, railMonitorRelease_starts held waits, bootStart_spec s small⟩
  case refine_5 =>
    exact fun s none => ⟨_, railMonitorRelease_idle none, rfl⟩
  case refine_6 =>
    exact fun s boot clear fresh runs => rcoStable_starts boot clear fresh runs
  case refine_7 =>
    exact fun s other => ⟨_, exec_rcoStable_idle other, rfl⟩
  case refine_8 =>
    exact fun s hzA hzB cyc other => ⟨_, exec_timingPllLock_idle other, rfl⟩
  case refine_9 =>
    exact fun s f cyc boot runs bare fits => timingPllLock_first boot runs bare fits
  case refine_10 =>
    exact fun s cyc boot runs bare => timingPllLock_neither boot runs bare
  case refine_11 =>
    exact fun s boot runs raw strap => bootComplete_raw boot runs raw strap
  case refine_12 =>
    exact fun s boot runs alive strap slotA slotB => bootComplete_none boot runs alive strap slotA slotB
  case refine_13 =>
    exact fun s other => ⟨_, exec_bootComplete_idle other, rfl⟩
  case refine_14 =>
    exact fun s up => ⟨_, exec_srstN_resets up, (resetDone s (by decide)).clauses⟩
  case refine_15 =>
    exact fun s down => ⟨_, exec_srstN_idle down, rfl⟩
  case refine_16 =>
    exact fun s => mainPowerLoss_backup s
  case refine_17 =>
    exact fun s => ⟨_, exec_mainPowerReturn s, rfl⟩
  case refine_18 =>
    exact fun s => porNLow_resets s
  case refine_19 =>
    exact fun s d still => ⟨_, exec_pdSwitchDone_idle still, rfl⟩
  case refine_20 =>
    exact fun s d turns run high off => pdSwitchDone_off turns run high off
  case refine_21 =>
    exact fun s d turns run high on awake none => pdSwitchDone_on turns run high on awake none
  case refine_22 =>
    exact fun s d turns run low high off => pdSwitchDone_team turns run low high off
  case refine_23 =>
    exact fun s d e r turns boots high seq once => pdSwitchDone_next turns boots high seq once
  case refine_24 =>
    exact fun s d turns boots high seq => pdSwitchDone_last turns boots high seq
  case refine_25 =>
    exact fun s d v off may => pdOffReq_granted off may
  case refine_26 =>
    exact fun s d v off may => ⟨_, pdOffReq_refused off may, rfl⟩
  case refine_27 =>
    exact fun s d v on was dark => pdOffReq_returns on was dark
  case refine_28 =>
    exact fun s d v on was => ⟨_, pdOffReq_idle on was, rfl⟩
  case refine_29 =>
    exact fun s v code mode idle => release_commissioned code mode idle
  case refine_30 =>
    exact fun s v code mode under idle => release_safe code mode under idle
  case refine_31 =>
    exact fun s v code main bad => ⟨_, release_refused code main bad, rfl⟩
  case refine_32 =>
    exact fun s v code low high => recommission_enters code low high
  case refine_33 =>
    exact fun s v code main bad => ⟨_, recommission_refused code main bad, rfl⟩
  case refine_34 =>
    exact fun s v code mode can under => leaveSafe_leaves code mode can under
  case refine_35 =>
    exact fun s v code main bad => ⟨_, leaveSafe_refused code main bad, rfl⟩
  case refine_36 =>
    exact fun s v code ok => stable_arms code ok
  case refine_37 =>
    exact fun s v code main bad => ⟨_, stable_refused code main bad, rfl⟩
  case refine_38 =>
    exact fun s v code main armed => cancel_disarms code main armed
  case refine_39 =>
    exact fun s v code mode => ⟨_, wakeNow_asks code mode, rfl⟩
  case refine_40 =>
    exact fun s v code main => ⟨_, congrArg Host.Outcome.next (pwrCmd_reset code main), (resetDone s (by decide)).clauses⟩
  case refine_41 =>
    exact fun s v code main none => replan_command_none code main none
  case refine_42 =>
    exact fun s v k code main one => replan_command_one code main one
  case refine_43 =>
    exact fun s h => ⟨_, exec_stableEntry_idle h, rfl⟩
  case refine_44 =>
    exact fun s armed due from_ => stableEntry_enters armed due from_
  case refine_45 =>
    exact fun s armed due other => stableEntry_late armed due other
  case refine_46 =>
    exact fun s mode phase saved settled => stableAsleep_sleeps mode phase saved settled
  case refine_47 =>
    exact fun s h => ⟨_, exec_stableAsleep_idle h, rfl⟩
  case refine_48 =>
    exact fun s mode phase due asked => stableWakeEvent_wakes (cause := 3) mode phase due asked
  case refine_49 =>
    exact fun s w mode phase due timed reached => stableWakeEvent_wakes (cause := 0) mode phase due (wakeHolds_timed timed reached)
  case refine_50 =>
    exact fun s cause h => ⟨_, exec_stableWakeEvent_idle cause h, rfl⟩
  case refine_51 =>
    exact fun s other => ⟨_, exec_wakeUngate_idle other, rfl⟩
  case refine_52 =>
    exact fun s phase awake none done => ⟨_, exec_wakeUngate_runs phase awake none done, rfl⟩
  case refine_53 =>
    exact fun s phase awake none late => wakeUngate_late phase awake none late
  case refine_54 =>
    exact fun s phase awake none sound mode => stableExit_awake phase awake none sound mode
  case refine_55 =>
    exact fun s phase awake none failed mode => stableExit_failed phase awake none failed mode
  case refine_56 =>
    exact fun s other => ⟨_, exec_stableExit_idle other, rfl⟩
  case refine_57 =>
    exact fun s c v bad k one on fed lit acts good low some sound => avsLoop_raises one on fed lit acts good low some sound
  case refine_58 =>
    exact fun s c v bad k one on failed sound => avsLoop_fails one on failed sound
  case refine_59 =>
    exact fun s codes bad off => avsLoop_idle codes bad off
  case refine_60 =>
    exact fun s c k fed on _ lit acts => canaryTrip_raises fed on lit acts
  case refine_61 =>
    exact fun s c off => canaryTrip_idle off
  case refine_62 =>
    exact fun s bad bus => ⟨_, pmbusAlert_other bus, rfl⟩
  case refine_63 =>
    exact fun s bad bus zero => ⟨_, zero ▸ pmbusAlert_sound bus, rfl⟩
  case refine_64 =>
    exact fun s k v lin blank commission => ⟨_, avsRailEnable_barred blank commission, rfl⟩
  case refine_65 =>
    exact fun s k v lin mode set good => avsRailEnable_on mode set good
  case refine_66 =>
    exact fun s k v lin mode set bad => avsRailEnable_bad mode set bad
  case refine_67 =>
    exact fun s i f r on some => ageMeasure_one on some
  case refine_68 =>
    exact fun s early => ⟨_, exec_agePeriodReplan_early early, rfl⟩
  case refine_69 =>
    exact ⟨fun s due none => agePeriodReplan_due due none, fun s => bucketRecord_appends s⟩

end Sys2Proof.Machine
end
